-- ==== Sys2Proof/Word.lean ====
section
/-!
DEFINITION. The word types of the device and their plainest arithmetic. Registers and addresses are 32 bits wide (R4, R6).
-/
namespace Sys2Proof

/-- A register or a 32-bit memory word (R6: "All registers are 32 bits wide"). -/
abbrev Word := BitVec 32

/-- A byte of memory (R5: multi-byte quantities are little-endian). -/
abbrev Byte := BitVec 8

end Sys2Proof
end

