-- ==== Sys2Proof/Syntax.lean ====
section
/-!
DEFINITION. The commands of the device: one constructor per row of the command table, in the table's order. A command is a write or read of a register, a message, an
instruction issued by a core, or an event of the hardware; its operands carry what the outside world, or the physics, brings. An operand with
a default may be left out: no memory error has been found, the pins rest at 0.
-/
namespace Sys2Proof

/-- What an ADC0 conversion finds (R232, R233): the voltages at its source's balls in nV (one, a pair, or the eight AX pins), and that of the reference ball. -/
structure Conv where
  v : List Int
  ref : Nat
  deriving DecidableEq, Repr

/-- What ADC1 and the excitation deliver for a definition (R240-R244). -/
structure AfeRaw where
  /-- the voltages of the eight AX pins, nV -/
  ax : List Int
  /-- the trim of the current source, nA -/
  trim : Int
  /-- second conversion of three- and four-wire definitions, nV -/
  lead : Int
  /-- how long the conversion took, ns -/
  dur : Nat
  /-- compliance limit reached; open-bias finding -/
  comp : Bool
  open_ : Bool
  deriving DecidableEq, Repr

/-- A source of requests (Table 14.1): an IPv4 address, the Dolwick link, or the MSPI. -/
inductive AmpSrc where
  | eth (ip : Word)
  | dwl
  | mspi
  deriving DecidableEq, Repr

/-- The commands. -/
inductive Instr where
  /-- VIN_RISE (R38): VIN is above 7.7 V with VAON good. From power-off the power-on reset is under way: it is counted, the backup domain is judged and the
  first rail enabled; otherwise a brownout ends. -/
  | vinRise
  /-- BROWNOUT (R38): VIN has been below 7.4 V for 10 µs (R38). -/
  | brownout
  /-- POR (R38): VAON is lost, and everything but the backup domain and the NVM collapses (R38, Table 3.7). `vbat` says that VBAT carries the backup domain.
  After a rail failure PWR_FAULT shows it still (Table 3.4). -/
  | por (vbat : Bool)
  /-- RAIL_GOOD (R56): Rail `r` reaches its good threshold; with all of its step good the next step begins (R37, R56). -/
  | railGood (r : Nat)
  /-- RAIL_FAILURE (R37): An enabled rail misses its limit or falls below its threshold, and source RAIL is raised (R37). While a reset of level L0 is in
  progress the rails come up anew within it. -/
  | railFailure (r : Nat)
  /-- XT32_QUALIFIED (R41): ACLK changes to the crystal. -/
  | xt32Qualified
  /-- XT32_FAIL (R41): The crystal in use gives no edge. -/
  | xt32Fail
  /-- XT32_TIMEOUT (R41): The crystal has not qualified in time. -/
  | xt32Timeout
  /-- PLLA_LOCK (R43): PLLA locks where it runs (R43); at a start-up the pin test may begin. -/
  | pllaLock
  /-- PLLB_LOCK (R43): PLLB locks (R43): after the option load the image load begins; in PARK after a valid AMP message CCLK runs again. -/
  | pllbLock
  /-- PLLA_LOSS_OF_LOCK (R44): In SCAN FIRE is inhibited, charging stops, and the columns carry INVALID (R44). -/
  | pllaLossOfLock
  /-- PLLA_RELOCK_TIMEOUT (R44): 1 ms after a loss PLLA is not locked again, and source CLK is raised (R44). -/
  | pllaRelockTimeout
  /-- PLLB_LOSS_OF_LOCK (R44): Source CLK is raised at once (R44). -/
  | pllbLossOfLock
  /-- RST_N_LOW (R53): RST_N is low on two consecutive edges. A pin that is treated as failed closed is ignored. -/
  | rstNLow
  /-- RST_N_STUCK (R54): RST_N has been low for longer than RST_STUCK. -/
  | rstNStuck
  /-- RST_N_REARM (R54): RST_N has been high for 100 ms ticks. -/
  | rstNRearm
  /-- RESET_ASSERT (R49): On the next ACLK edge the raised sources set their cause bits, and the deepest level is performed (R49, R50). -/
  | resetAssert
  /-- RESET_RELEASE (R49): A reset is released on an ACLK edge (R49). A reset of level L0 or level L1 in progress is the one that is released, once no
  source persists, with the samples of the straps; otherwise the level L2 target with TARGET code `tgt` (Table 14.4) is. -/
  | resetRelease (tgt : Nat) (rstn : Bool) (straps : List (BitVec 6))
  /-- OPTION_LOAD_DONE (R52): A load ends; `read` is there where the words read differ from those the NVM holds (R52). -/
  | optionLoadDone (read : Option (List Word))
  /-- PIN_TEST_DONE (R34): The run ends with its readings. With LOCK the device enters SAFE instead of leaving BOOT or entering PARK (R34, R59). -/
  | pinTestDone (steps : List (BitVec 22)) (offs cross : BitVec 2)
  /-- IMAGE_PASS_DONE (R67): The pass over the slot ends. The records have been written, up to a failure; then DIGEST is compared, and the signature check
  follows where a key is provisioned (R67, R68). -/
  | imagePassDone
  /-- SIGNATURE_CHECK_DONE (R68): The ECDSA signature check of a slot completes, and the Cask identification check follows. (R68). -/
  | signatureCheckDone
  /-- FLASH_NO_RESPONSE (R71): The flash has not responded within 1 ms (Table 4.6), in the pass over a slot or at the HEAD of slot `k`. -/
  | flashNoResponse (k : Nat := 1)
  /-- DEST_CLEAR_DONE (R71): The destinations of the failed slot are at their reset values, and the other slot is tried (R71). -/
  | destClearDone
  /-- LOADER_COMMIT (R70): Once the checks have passed and the pin test has ended. While a write of step 1 or 2 is due and NVM writes are locked, commit
  waits (R70). -/
  | loaderCommit
  /-- TDC_BOOT_RUN_END (R139): The boot run ends with the tap counts of the channels (R139). PLLA stops unless SCAN is asked for (R43). -/
  | tdcBootRunEnd (hits : List (Nat × List Nat))
  /-- BGCAL_MAP_STAGED (R141): Channel `c` has 2^BGN background hits at time `t`; its map is computed, checked and staged, and the counts restart (R141,
  R142). -/
  | bgcalMapStaged (c t : Nat)
  /-- SEAL_N_CHANGE (R29): After four equal samples SEAL_N is accepted as `low` (R29); accepted low in SERVICE, the device returns to IDLE (R297). -/
  | sealNChange (low : Bool)
  /-- SCAN_ENTRY (R57): The device enters SCAN at `t`, with PEND_START or AUTOSTART, the TDC run ended and the mirror locked (R57, Table 14.7). -/
  | scanEntry (t : Nat)
  /-- TUN_CLEAR_DONE (R155): The clear ends at `t` and triggers are allowed; targets crossed meanwhile trigger late or are skipped (R155). -/
  | tunClearDone (t : Nat) (bad fue : List Nat)
  /-- SCAN_LEAVE (R296): The column boundary after STOP, at `t` (R296). SERVICE is not entered where SEAL_N has been accepted low meanwhile. -/
  | scanLeave (t : Nat)
  /-- PARK_ENTER (R59): At the column boundary `t` after PARK scanning ends, and the pin test runs (R59). -/
  | parkEnter (t : Nat)
  /-- PARK_EXIT (R59): PLLB has relocked after a valid AMP message; the device is in IDLE (R59), or in SAFE where a cause arose meanwhile. -/
  | parkExit
  /-- MSNS_SAMPLE (R101): A sample arrives at `t` with its conversions (R101-R109); the mirror loop runs (R223), and a late trigger or a grant may follow on its
  arrival (R105, R106). `bad` are plan entries, `fue` channels whose field-map entry, that read with an uncorrectable error. -/
  | msnsSample (convs : List Conv) (t : Nat) (bad fue : List Nat)
  /-- SWEEP_START (R103): An active stroke or a profile cycle begins at `t` (R103). Targets that a profile cycle leaves behind are skipped. -/
  | sweepStart (t : Nat)
  /-- STROKE_END (R106): The active stroke ends at `t` (R106): its remaining targets are skipped, the flyback begins with its injection and probes (R95,
  R141). -/
  | strokeEnd (t : Nat)
  /-- KILN_GRANT (R14): The predicted crossing is 1000 ns or less away at `now` (R14, R105). -/
  | kilnGrant (now : Nat) (bad : List Nat)
  /-- TRIGGER (R105): The prediction reaches the armed target at `t` (R105). -/
  | trigger (t : Nat) (bad fue : List Nat)
  /-- STARE_TRIGGER (R103): The STARE timer expires at `t` and forms a column at AZ (R103, Table 6.1). A sweep begins with the first trigger and every 2¹⁶
  of them. -/
  | stareTrigger (t : Nat) (bad fue : List Nat)
  /-- HOLDOFF_EXPIRY (R105): The hold-off runs out at `t`, the engine re-arms, and a grant that is due is fixed (R105, Table 6.6). Of several targets
  passed meanwhile the last triggers late (R106). -/
  | holdoffExpiry (t : Nat) (bad : List Nat) (fue : List Nat := [])
  /-- CLUSTER_POWER_ON (R12): Cluster domain `k`, woken by the column's or the coming column's grant, switches on at `t`, 200 ns before its gate or window (R12). -/
  | clusterPowerOn (k : Nat) (t : Nat := 0)
  /-- CLUSTER_POWER_OFF (R12): The domain of cluster `k` switches off at `t`, with its gate over, no window open and none within 400 ns (R12). -/
  | clusterPowerOff (k : Nat) (t : Nat := 0)
  /-- AMBIENT_GATE_OPEN (R134): Channel `c`'s gate opens (R134). -/
  | ambientGateOpen (c : Nat)
  /-- AMBIENT_GATE_MIDPOINT (R133): RATE is computed and k chosen (R133). -/
  | ambientGateMidpoint (c : Nat)
  /-- AMBIENT_GATE_CLOSE (R134): The gate ends and RATE, EVT, k and G′ are latched (R134). -/
  | ambientGateClose (c : Nat)
  /-- EMX_FRAME_SEND (R80): A new frame starts at time `t` (R80, R82, R84). It is sent only in SCAN, with no frame in progress. -/
  | emxFrameSend (t : Nat)
  /-- EMX_FRAME_CONFIRM (R83): The frame ends at time `t` with the board's 76 echo bits and status byte (R83). -/
  | emxFrameConfirm (t : Nat) (echo : BitVec 76) (status : BitVec 8)
  /-- CHARGE_STRING (R87): At `t` the supply serves string `n`, whose bank then reads `v` (R87). -/
  | chargeString (n v : Nat) (t : Nat := 0)
  /-- CHG_SEL_OFF (R87): CHG_SELn turns off before the string's shot, and its charging stops (Table 5.2). -/
  | chgSelOff (n : Nat)
  /-- SHOT_READY_CHECK (R88): V_pre of string `n` is sampled and the shot found ready or dropped (R88). -/
  | shotReadyCheck (n v : Nat)
  /-- EMISSION_LIMIT_DECIDE (R123): At 30 ns before string `n`'s next shot the limiter admits or refuses it; `mismatch` says that the two copies of ledger
  or limit table differ in what it reads (R125). -/
  | emissionLimitDecide (n : Nat) (mismatch : Bool)
  /-- FIRE (R76): String `n`'s next shot is due: a planned or an isolation shot at its computed time, a probe at `t`, in or after its slot. It fires if it
  is ready, admitted, its pattern confirmed and FIRE not inhibited; otherwise a planned shot is dropped and counted as not granted, and a probe moves
  to its next slot. -/
  | fire (n t : Nat)
  /-- WINDOW_CLOSE (R135): At time `t` the windows of cluster `k` that are 4096 ns old close (R135). -/
  | windowClose (k t : Nat)
  /-- ZOOM_PLACE (R160): The search of cluster `k` ends and the zoom windows of its 16 channels are placed (R159, R160). -/
  | zoomPlace (k : Nat)
  /-- SHOT_MONITOR_BURST (R93): The ADC0 burst on LCSn starts; a burst that overlaps another string's is not taken (R93). -/
  | shotMonitorBurst (n : Nat)
  /-- SHOT_VERDICT (R94): The burst of string `n` ends with its ADC0 samples; the shot gets its verdicts (R94, R97). -/
  | shotVerdict (n : Nat) (convs : List Conv)
  /-- PERIODIC_PROBE_DUE (R95): String `n`'s probe interval has run out (R95); a pending isolation tests the string instead (Table 5.4). -/
  | periodicProbeDue (n : Nat)
  /-- CHARGE_SUPPLY_TRIP (R89): VBANK of string `n` reads `v`, and CHG_ISNS has stood at `isns` mV for `dur` ns; the stage trips above OVP, and above ILIM for
  longer than 100 ns (R89, R40). -/
  | chargeSupplyTrip (n v isns dur : Nat := 0)
  /-- RX_EVENT (R132): An avalanche of SPAD `i` of channel `c` at `ps` ps, which would stop at `tap`, and after it those of `avs`, in time order. They open, join and
  end coincidence sets; an event of one enters the FIFO, or is lost (R132, R134, R135, R141). -/
  | rxEvent (c i ps tap : Nat) (avs : List (Nat × Nat × Nat) := [])
  /-- THIN_LEVEL_FALL (R163): The fill of cluster `k` has been at or below DOWN for 1024 MCLK at `t` (R163). -/
  | thinLevelFall (k t : Nat)
  /-- MASH_DRAIN (R162): At time `t` an event leaves its FIFO in cluster `k`, is captured, thinned and binned (R162-R165); `errs` are the errors its updates read
  their bins with, in order: 0 none, 1 corrected, 2 uncorrectable (R154); `par` says that the FIFO's parity finds it damaged (R361). -/
  | mashDrain (k t : Nat) (par : Bool) (errs : List Nat := [])
  /-- HISTOGRAM_CLOSE (R166): The histograms J = `j` of all clusters close (R166). `errs` are bins read with an error: cluster, bin, uncorrectable (R154). -/
  | histogramClose (j : Nat) (errs : List (Nat × Nat × Bool))
  /-- SPARGE_END (R166): The closed bank is clear at `t`; a swap that waits takes place (R166, Table 8.4). -/
  | spargeEnd (t : Nat)
  /-- LAUTER_EXTRACT_DONE (R174): The Lauter finishes the histogram of channel `c` (R174). -/
  | lauterExtractDone (c : Nat)
  /-- ECHO_RECORD_EMIT (R210): Stream `st` (0 DWL, 1 ETH) emits its next ECHO record. -/
  | echoRecordEmit (st : Nat)
  /-- DATAGRAM_CLOSE_TIMEOUT (R213): An open datagram closes 20 µs after its first record (R213). -/
  | datagramCloseTimeout
  /-- DATAGRAM_SEND (R214): The oldest closed datagram of stream 0 (points) or 1 (legal records) goes to its port once that is up and the destination is
  resolved; an unresolved one is asked for (R213, R214, R265). `err` is an error met in the buffer: the record it hits, and whether it is uncorrectable (R212). -/
  | datagramSend (stream : Nat) (err : Option (Nat × Bool) := none)
  /-- DATAGRAM_DISCARD (R214): The oldest point-stream datagram has waited 100 ms; it and every later datagram of its columns are discarded (R214). -/
  | datagramDiscard
  /-- DWL_POINT_FRAME (R216): The next POINT frame starts if credit allows (R212, R215, R216). -/
  | dwlPointFrame (err : Option (Nat × Bool))
  /-- DWL_LRS_FRAME (R209): Waiting LRS records are sent on DWL0 after the POINT frame in progress (R209, R218). -/
  | dwlLrsFrame
  /-- DWL_CREDIT_RECEIVE (R216): A CREDIT frame arrives on a lane (R216); `ok` is its CRC's verdict. It may bring DWL up. -/
  | dwlCreditReceive (lane : Nat) (ccum : BitVec 16) (ok : Bool)
  /-- DWL_CREDIT_TIMEOUT (R216): 1 ms without a CREDIT frame while up (`old`), or 1 ms of POINT data waiting for credit (R216, Table 10.13). -/
  | dwlCreditTimeout (old : Bool)
  /-- LANE_ALIGN_ACQUIRED (R260): Lane Ln aligns, and adaptation starts (R260, R262). -/
  | laneAlignAcquired (n : Nat)
  /-- LANE_CODE_ERROR (R260): Lane Ln receives, after `good` good code groups, an invalid one (`kind` 0), one of wrong running disparity (1), or another character than an
  idle pair or K27.7 between DWL frames (2); an ETH lane's PCS loses synchronisation when `lost` (R260, R261). -/
  | laneCodeError (n good kind : Nat) (lost : Bool := false)
  /-- LANE_ADAPT_DONE (R262): The 1 ms ends, with the (H, V) each CTLE code gave and the DFE taps reached (R262). -/
  | laneAdaptDone (n : Nat) (eyes : List (Nat × Nat)) (d1 d2 d3 : BitVec 6)
  /-- EYE_MEASURE (R263): The eye monitor of lane Ln reads H and V; the DFE taps have adapted on unless FREEZE holds them (R262, R263). -/
  | eyeMeasure (n h v : Nat) (d1 d2 d3 : BitVec 6)
  /-- LANE_PLL_LOCK (R259): The lane PLL runs whenever a lane is on (R259). -/
  | lanePllLock
  /-- LANE_PLL_LOSS (R259): Every lane sends electrical idle and loses alignment (R259). -/
  | lanePllLoss
  /-- ETH_LINK_CHANGE (R264): Port `p` comes up (PCS synchronised, negotiation complete and acceptable) or goes down; `refused`: an SGMII partner was
  refused. -/
  | ethLinkChange (p : Nat) (up refused : Bool)
  /-- ETH_FRAME_RECEIVE (R266): A frame, from its destination address and without FCS, arrives on port `p` with the verdict of its FCS; its timestamp point
  lay `d` × 2⁻¹⁶ ns before (R265, R266, R270). -/
  | ethFrameReceive (p : Nat) (fr : List Byte) (fcs : Bool) (d : Nat)
  /-- ARP_REFRESH (R265): The entry of `ip` is refreshed, or discarded after three unanswered requests (R265). -/
  | arpRefresh (p : Nat) (ip : Word)
  /-- PRP_SUPERVISION_SEND (R271): A PRP supervision frame is sent every INTV ms. (R271). -/
  | prpSupervisionSend
  /-- PRP_ENTRY_FORGET (R270): An entry goes FORGET ms after its last frame (R270). -/
  | prpEntryForget (mac : BitVec 48)
  /-- TIME_OFFSET_APPLY (R273): The edge on which a pending offset steps the counter (R273). -/
  | timeOffsetApply
  /-- PPS_PULSE (R276): The counter reaches TARGET (R276). -/
  | ppsPulse
  /-- PPS_PULSE_END (R276): PPSW µs end the pulse. the pulse ends (R276). -/
  | ppsPulseEnd
  /-- TIN_EDGE (R145): An edge of input `m` at interpolator position `tap` (R145-R148). -/
  | tinEdge (m : Nat) (rising : Bool) (tap : Nat)
  /-- TIN_INTERP_CAL (R146): The interpolator map of input `n` is computed anew from its tap counts (R146). -/
  | tinInterpCal (n : Nat) (h : List Nat)
  /-- ADC0_REF_READY (R233): The reference has settled (R233). -/
  | adc0RefReady
  /-- ADC0_REF_FAIL (R233): 1 ms after a selection without REFRDY (R233). -/
  | adc0RefFail
  /-- ADC0_REQ_TRIGGER (R235): Request `n` triggers at `t` (R234); its burst is scheduled, or not taken where it cannot begin within 1 µs (R235). -/
  | adc0ReqTrigger (n t : Nat)
  /-- ADC0_BURST_DONE (R236): The burst of request `n` ends with its conversions (R236). -/
  | adc0BurstDone (n : Nat) (convs : List Conv)
  /-- FIR_OUTPUT (R238): The background conversions of successive slots from `t` ns on, and the outputs they yield (R235, R238). -/
  | firOutput (t : Nat) (convs : List Conv := [])
  /-- AFE_CONVERSION_DONE (R243): Definition `m` has been converted (R240-R244). -/
  | afeConversionDone (m : Nat) (x : AfeRaw)
  /-- THERM_SCAN (R248): The 68 on-die readings in 1/16 °C; external results are taken as they stand (R248-R252). -/
  | thermScan (readings : List (BitVec 16))
  /-- DIE_HARD_TRIP (R253): FIRE, charging and VSPAD stop, and source THERM is raised (R253). -/
  | dieHardTrip
  /-- DIE_HARD_TRIP_CLEAR (R253): The die is below 135 °C (R253). -/
  | dieHardTripClear
  /-- SOUT_STAGE_TRIP (R253): The output stage passes 160 °C (R253): both outputs off, SOUT_TRIP latches, and the trip is logged. -/
  | soutStageTrip
  /-- CHG_GATE_TRIP (R253): The charge gate driver passes 160 °C and CHG_TRIP latches (R253, R40). -/
  | chgGateTrip
  /-- VSPAD_OVERVOLTAGE (R229): The independent comparator stops LX_SPAD above 33.0 V (R229). -/
  | vspadOvervoltage (above : Bool := true)
  /-- CTL_TICK (R223): The 5 µs tick, with the VSPAD monitor (mV), the excitation current (10 µA) and its limit report, VIN (10 mV) and the power-sense pin
  (mV). -/
  | ctlTick (vspad mexc : Nat) (limit : Bool) (vin pin : Nat)
  /-- CHARGE_GROUP_EVALUATE (R227): The group of string `n` on a new demand code (R86, R227). -/
  | chargeGroupEvaluate (n : Nat)
  /-- KILN_DECAY_STEP (R118): A 1 ms step of the models (R118). -/
  | kilnDecayStep
  /-- EYE_SUBWINDOW (R122): Every SUB ms the oldest accumulator is discarded and a new one starts (R122). -/
  | eyeSubwindow
  /-- EYE_INIT_END (R124): The 9 × SUB ms initial refusal period ends (R124). -/
  | eyeInitEnd
  /-- NVM_WRITE_DONE (R39): The NVM write in progress ends; `fail` says that its verify failed, so that it is written again at the next free position
  (R364). -/
  | nvmWriteDone (fail : Bool)
  /-- SCRUB_STEP (R361): The scrubber reads the word at `a` of memory `mem` (numbered as in Table 18.6: 1 Wort, 2 DSP0, 3 DSP1, 4 plan) and finds no error
  (0), one it corrects (1) or one it cannot (2). Memory 0, the Tun, and 5, the field map, are none of the scrubber's. -/
  | scrubStep (mem a err : Nat)
  /-- EN_EDGE (R310): After the input filter, channel `ch` (0 EN_A, 1 EN_B) has the level `level`; a channel that leaves its active level switches the
  outputs off. -/
  | enEdge (ch : Nat) (level : Bool)
  /-- EN_DISC_SAMPLE (R311): A ms tick samples EN_A and EN_B for discrepancy. a ms tick. -/
  | enDiscSample
  /-- GUARD_OUTPUTS_ON (R312): The outputs switch on if every condition of Table 15.3 holds (R312); with CHECK = 1 and EDM low they stay off with code 7
  (R315). -/
  | guardOutputsOn
  /-- OFF_PULSE_START (R313): The next output's off-pulse begins (R313). -/
  | offPulseStart
  /-- OFF_PULSE_END (R313): The pulse's readback check, and the output on again (R313). -/
  | offPulseEnd (rbA rbB : Bool)
  /-- READBACK_SAMPLE (R314): A 10 µs sample of both readbacks, and of both outputs' current limit (R314). -/
  | readbackSample (rbA rbB limA limB : Bool)
  /-- EDM_TIMEOUT (R315): EDM_T has passed since the outputs switched; code 6 if EDM has not followed (R315). -/
  | edmTimeout
  /-- GUARD_CRC_PASS (R320): A background pass ends; `ue` is the address of a field-map word it read with an uncorrectable error (R320, R362). -/
  | guardCrcPass (ue : Option Nat)
  /-- AMP_ETH_DATAGRAM (R285): The agent takes the oldest AMP datagram of port `p`'s queue Q1 (R285, Table 13.3); `par` says that the queue's parity finds it damaged (R361). -/
  | ampEthDatagram (p : Nat) (par : Bool := false)
  /-- AMP_DWL_SIDEBAND (R285): A SIDEBAND frame of KIND 0x01 comes in on DWL lane `lane` (0 or 1); a wrong CRC discards and counts it (R215, R285). -/
  | ampDwlSideband (lane : Nat) (ws : List Word) (crcOk : Bool)
  /-- MSPI_WRITE (R287): A WRITE transaction with message `m` and CRC word `crc` ends (R287). -/
  | mspiWrite (m : List Byte) (crc : Word)
  /-- MSPI_READ (R287): A READ transaction ends; `all` says that every byte of the reply and its CRC was clocked out, which frees the reply buffer (R287). -/
  | mspiRead (all : Bool)
  /-- MSPI_STATUS (R287): A STATUS transaction shows the status byte and changes nothing (R287). -/
  | mspiStatus
  /-- AMP_WINDOW_END (R288): The 1000-tick window of a source ends, and its entry is free (R288). -/
  | ampWindowEnd (src : AmpSrc)
  /-- GET (R290): The request at the head of the queue reads registers; `errs` are the memory errors that its words meet, in
  order (R154, R290, R293). In BOOT it is legal over MSPI, for TOP and RST (Table 14.5). -/
  | get (errs : List Nat)
  /-- SET (R293): SET checks and writes masked triples. (R292, R293). -/
  | set
  /-- LOG_READ (R290): LOG_READ returns log entries. -/
  | logRead
  /-- START (R296): START sets PEND_START. -/
  | start
  /-- STOP (R296): STOP requests IDLE or SERVICE. -/
  | stop
  /-- PARK (R59): PARK requests PARK entry. -/
  | park
  /-- RESET (R46): RESET replies and raises source AMP. -/
  | reset
  /-- AMP_RESET_EFFECT (R46): The reply of a RESET has left, and source AMP is raised (R46). -/
  | ampResetEffect
  /-- AUTH (R294): AUTH opens a Guard session or fails. legal in IDLE. -/
  | auth
  /-- GUARD_CHANGE_BEGIN (R319): Waits while an abort's entry is still to be written. -/
  | guardChangeBegin
  /-- GUARD_CHANGE_DATA (R319): The records are written, or none of them. -/
  | guardChangeData
  /-- GUARD_CHANGE_COMMIT (R319): The reply follows the log entry (R319). -/
  | guardChangeCommit
  /-- GUARD_CHANGE_ABORT (R319): The session ends; with an entry to write the reply follows it (R319). -/
  | guardChangeAbort
  /-- GUARD_SESSION_TIMEOUT (R294): 60 s without a request that bears the session (R294). -/
  | guardSessionTimeout
  /-- AUTH_LOCKOUT_END (R294): The 300,000 ms ticks are over (R294). -/
  | authLockoutEnd
  /-- CASK_INFO (R290): CASK_INFO returns the identification, counter and seal. legal in every state. -/
  | caskInfo
  /-- FL_CMD_ERASE (R73): FL_CMD 1 erases a 64 KiB block. FL_CMD is written 1. -/
  | flCmdErase
  /-- FL_CMD_PROGRAM (R73): FL_CMD 2 programs 256 bytes. FL_CMD is written 2. -/
  | flCmdProgram
  /-- FL_CMD_READ (R73): FL_CMD 3 reads 256 bytes into FL_BUF. FL_CMD is written 3. -/
  | flCmdRead
  /-- FLASH_CMD_DONE (R73): A flash command ends and BUSY clears (R73). `left` is there where the flash reports an error or does not respond: the bytes that
  the range then holds, as far as the command has changed them. -/
  | flashCmdDone (left : Option (List Byte))
  /-- OPT_CMD (R73): OPT_CMD is written `key`. -/
  | optCmd (key : Word)
  /-- EMIT_LOSTCLR (R96): EMIT_LOSTCLR is written `key` (R96). -/
  | emitLostclr (key : Word)
  /-- RX_CAL_RUN (R139): RX_CAL.RUN is written 1, which starts a boot run in IDLE (R139). -/
  | rxCalRun
  /-- RX_CAPCTL_ARM (R151): ARM of RX_CAPCTL is written 1 (R151). -/
  | rxCapctlArm
  /-- MASH_SNAPCTL_ARM (R170): MASH_SNAPCTL is written with ARM = 1 and CH = `ch` (R170). -/
  | mashSnapctlArm (ch : Nat)
  /-- CTL_COMMIT (R230): A write of 1 to CTL_CTRL.COMMIT (R230). -/
  | ctlCommit
  /-- ADC0_REQ_GO (R234): GO of request `n` is written 1. -/
  | adc0ReqGo (n : Nat)
  /-- ADC0_FIR_COMMIT (R238): COMMIT of ADC0_FIR is written 1. -/
  | adc0FirCommit
  /-- ADC0_EVHI_READ (R239): The read removes the oldest event (R239). -/
  | adc0EvhiRead
  /-- TIN_QHI_READ (R147): Reading TIN_QHIn removes the entry. -/
  | tinQhiRead (n : Nat)
  /-- TIN_CFG_WRITE (R145): TIN_CFGn is written (R145). -/
  | tinCfgWrite (n : Nat) (v : Word)
  /-- TIME_NS_READ (R272): A read latches the fraction of the same edge (R272). -/
  | timeNsRead
  /-- TIME_INC_WRITE (R272): The increment changes on the next edge. -/
  | timeIncWrite (v : Word)
  /-- TIME_OFS_WRITE (R273): The write makes an offset pending. -/
  | timeOfsWrite (v : Word)
  /-- TIME_CTRL_WRITE (R275): VALID is set by DSP1 only, or cleared. -/
  | timeCtrlWrite (m : Nat) (v : Word)
  /-- TIME_PPS_WRITE (R276): The write arms PPS or sets PPS_MISS. -/
  | timePpsWrite (v : Word)
  /-- WORT_ANCH_SHI_WRITE (R207): WORT_ANCH_SHI is written (R207). -/
  | wortAnchShiWrite (v : Word)
  /-- ETH_TXCMD_GO (R267): GO sends ETHn_TXBUF. -/
  | ethTxcmdGo (p : Nat) (v : Word)
  /-- ETH_QPOP (R266): POP of ETHp_QPOP is written 1. -/
  | ethQpop (p : Nat)
  /-- ETH_TXTS2_READ (R279): The read removes the stamp (R279). -/
  | ethTxts2Read (p : Nat)
  /-- ETH_MODE_WRITE (R277): ETHp_CFG is RWL, so the write acts until commit (R277, R7). -/
  | ethModeWrite (p : Nat) (v : Word)
  /-- WDTKICK (R350): Core `c`'s WDTKICK is written. -/
  | wdtkick (c : Nat) (v : Word)
  /-- MBOX7_WRITE (R345): A write of MBOX7 sets line 3. -/
  | mbox7Write (c : Nat) (v : Word)
  /-- DMA_GO (R349): GO of engine `n` is written. -/
  | dmaGo (n : Nat)
  /-- DMA_DONE (R349): Engine `n` has made its transfers; frozen on the way, it neither goes on nor sets DONE (R349, R360). `errs` are the
  errors of the words it reads (R154). -/
  | dmaDone (n : Nat) (errs : List Nat := [])
  /-- CASK_LRSGO (R331): GO submits a legal record. DSP0 writes GO. -/
  | caskLrsgo
  /-- LRS_RECORD_ISSUE (R209): The generator tags the next record and puts it into both output queues (R209, R330); its own records go first. BUSY falls
  when DSP0's record goes, and line 5 of DSP0 sets. -/
  | lrsRecordIssue
  /-- CASK_APPLY (R326): APPLY counts the change and activates the staged copy. DSP0 writes APPLY. -/
  | caskApply
  /-- CASK_COPY_BACK_DONE (R186): The staged copy holds the active content again (R186). No store can have changed it meanwhile, because an access to it
  stalls until BUSY clears. -/
  | caskCopyBackDone
  /-- REGISTER_WRITE (R6): Master `m` writes `v` to the word at `a` (R6, R19). The AMP agent (7) makes only accesses that break no rule (R293); the LOADER
  (0) writes in BOOT only, through the image (R67), and no master writes then. -/
  | registerWrite (m a : Nat) (v : Word)
  /-- WDT_EXPIRY (R350): Ms ticks run until the watchdog of core `c` expires (R350). -/
  | wdtExpiry (c : Nat)
  /-- DSP_CORE_START (R351): The start that the core's state calls for, at the commit (0), the release of its level L2 reset (1) or at PARK exit (2). A core
  whose section is absent stays in reset (R64), and one that runs is started by none of them. -/
  | dspCoreStart (c cause : Nat)
  /-- DSP_INTERRUPT_ENTRY (R346): The highest-priority pending and enabled line of core `c` is taken (R346). A core in IDLE wakes; with IE = 0 it goes on
  after IDLE. -/
  | dspInterruptEntry (c : Nat)
  /-- DSP_EXCEPTION (R347): The fetch at core `c`'s program counter gives a word that names no instruction, or (`none`) an uncorrectable error (R344, R347). -/
  | dspException (c : Nat) (w : Option Word)
  /-- TAP_COLUMN_DONE (R348): The last record of a tapped column is written (R348). -/
  | tapColumnDone (c : Nat)
  /-- ADD (R344): D = s + t. d ← s + t. -/
  | dspAdd (c d s' t : Nat)
  /-- SUB (R344): D = s - t. d ← s − t. -/
  | dspSub (c d s' t : Nat)
  /-- ADDS (R344): Saturating add. d ← s + t, saturating. -/
  | dspAdds (c d s' t : Nat)
  /-- SUBS (R344): Saturating subtract. d ← s − t, saturating. -/
  | dspSubs (c d s' t : Nat)
  /-- AND (R344): Bitwise AND. bitwise. -/
  | dspAnd (c d s' t : Nat)
  /-- OR (R344): Bitwise OR. bitwise. -/
  | dspOr (c d s' t : Nat)
  /-- XOR (R344): Bitwise XOR. bitwise. -/
  | dspXor (c d s' t : Nat)
  /-- SLL (R344): S shifted left by t bits 4:0. -/
  | dspSll (c d s' t : Nat)
  /-- SRL (R344): S shifted right by t bits 4:0. -/
  | dspSrl (c d s' t : Nat)
  /-- SRA (R344): S shifted right arithmetically by t bits 4:0. -/
  | dspSra (c d s' t : Nat)
  /-- MIN (R344): Signed minimum. signed minimum. -/
  | dspMin (c d s' t : Nat)
  /-- MAX (R344): Signed maximum. signed maximum. -/
  | dspMax (c d s' t : Nat)
  /-- CMPLT (R344): D ← 1 if s is below t, signed. -/
  | dspCmplt (c d s' t : Nat)
  /-- CMPLTU (R344): D ← 1 if s is below t, unsigned. -/
  | dspCmpltu (c d s' t : Nat)
  /-- CMPEQ (R344): Equality compare. d ← 1 if s equals t. -/
  | dspCmpeq (c d s' t : Nat)
  /-- MULL (R344): Low word of the product. the low word of s × t. -/
  | dspMull (c d s' t : Nat)
  /-- MULH (R344): The signed high word of s × t. -/
  | dspMulh (c d s' t : Nat)
  /-- ABS (R344): The saturated absolute value of s. -/
  | dspAbs (c d s' : Nat)
  /-- CLZ (R344): The leading zeros of s, 32 for 0. -/
  | dspClz (c d s' : Nat)
  /-- PACK (R344): (t bits 15:0 ≪ 16) | s bits 15:0. -/
  | dspPack (c d s' t : Nat)
  /-- ADDI (R344): Add immediate. d ← s + IMM. -/
  | dspAddi (c d s' : Nat) (imm : BitVec 14)
  /-- ANDI (R344): AND immediate. d ← s AND IMM. -/
  | dspAndi (c d s' : Nat) (imm : BitVec 14)
  /-- ORI (R344): OR immediate. d ← s OR IMM. -/
  | dspOri (c d s' : Nat) (imm : BitVec 14)
  /-- XORI (R344): XOR immediate. d ← s XOR IMM. -/
  | dspXori (c d s' : Nat) (imm : BitVec 14)
  /-- SLLI (R344): S shifted left by IMM bits 4:0. -/
  | dspSlli (c d s' : Nat) (imm : BitVec 14)
  /-- SRLI (R344): S shifted right by IMM bits 4:0. -/
  | dspSrli (c d s' : Nat) (imm : BitVec 14)
  /-- SRAI (R344): S shifted right arithmetically by IMM bits 4:0. -/
  | dspSrai (c d s' : Nat) (imm : BitVec 14)
  /-- CMPLTI (R344): D ← 1 if s is below IMM, signed. -/
  | dspCmplti (c d s' : Nat) (imm : BitVec 14)
  /-- CMPEQI (R344): Equal immediate. d ← 1 if s equals IMM. -/
  | dspCmpeqi (c d s' : Nat) (imm : BitVec 14)
  /-- MOVL (R344): Load sign-extended immediate. d ← IMM, sign-extended. -/
  | dspMovl (c d : Nat) (imm : BitVec 16)
  /-- MOVH (R344): D bits 31:16 ← IMM; the low half is kept. -/
  | dspMovh (c d : Nat) (imm : BitVec 16)
  /-- LDW (R343): Load word. load word (R343). -/
  | dspLdw (c d a mode mc : Nat) (imm : BitVec 10) (err : Nat)
  /-- LDH (R343): Load signed half (R343, R374). -/
  | dspLdh (c d a mode mc : Nat) (imm : BitVec 10) (err : Nat)
  /-- LDHU (R343): Load unsigned half (R343, R374). -/
  | dspLdhu (c d a mode mc : Nat) (imm : BitVec 10) (err : Nat)
  /-- LDD (R343): Load pair G_D:G_D+1, D even (R343, R374). -/
  | dspLdd (c d a mode mc : Nat) (imm : BitVec 10) (err : Nat)
  /-- STW (R343): Store word. store word (R343). -/
  | dspStw (c d a mode mc : Nat) (imm : BitVec 10)
  /-- STH (R343): Store half. store half (R343, R374). -/
  | dspSth (c d a mode mc : Nat) (imm : BitVec 10)
  /-- STD (R343): Store pair G_D:G_D+1, D even (R343, R374, R375). -/
  | dspStd (c d a mode mc : Nat) (imm : BitVec 10)
  /-- QMPY (R340): The four products are loaded into A0-A3. -/
  | dspQmpy (c xr : Nat) (xh : Bool) (yp : Nat) (sw : Bool) (neg : Nat)
  /-- QMAC (R340): The four products are added to A0-A3. -/
  | dspQmac (c xr : Nat) (xh : Bool) (yp : Nat) (sw : Bool) (neg : Nat)
  /-- QCLR (R344): Clear A0-A3. A0-A3 ← 0. -/
  | dspQclr (c : Nat)
  /-- MVA (R344): G ← sat32((A_N + rounding) ≫ SH). -/
  | dspMva (c g n : Nat) (rnd : Bool) (sh : Nat)
  /-- MVAL (R344): Move accumulator low word. G ← A_N bits 31:0. -/
  | dspMval (c g n : Nat)
  /-- MVAH (R344): Move accumulator high word. G ← A_N bits 63:32. -/
  | dspMvah (c g n : Nat)
  /-- MVAG (R344): G ← sext(A_N bits 71:64). -/
  | dspMvag (c g n : Nat)
  /-- MTA (R344): Move a register to an accumulator. A_N ← sext72(G) ≪ SH. -/
  | dspMta (c g n sh : Nat)
  /-- ADDA (R344): A_N ← A_N + A_M, saturating. -/
  | dspAdda (c n m : Nat)
  /-- SHA (R344): A_N ← A_N ≫ SH, or ≪ SH if LEFT, saturating. -/
  | dspSha (c n : Nat) (left : Bool) (sh : Nat)
  /-- BRA (R341): Branch always. branch always. -/
  | dspBra (c s' : Nat) (off : BitVec 19)
  /-- BEQ (R341): Branch if equal to 0. branch if G_s = 0. -/
  | dspBeq (c s' : Nat) (off : BitVec 19)
  /-- BNE (R341): Branch if not 0. branch if G_s is not 0. -/
  | dspBne (c s' : Nat) (off : BitVec 19)
  /-- BLT (R341): Branch if G_s is below 0. -/
  | dspBlt (c s' : Nat) (off : BitVec 19)
  /-- BGE (R341): Branch if G_s is at least 0. -/
  | dspBge (c s' : Nat) (off : BitVec 19)
  /-- BGT (R341): Branch if G_s is above 0. -/
  | dspBgt (c s' : Nat) (off : BitVec 19)
  /-- BLE (R341): Branch if G_s is at most 0. -/
  | dspBle (c s' : Nat) (off : BitVec 19)
  /-- CALL (R344): G31 ← branch address + 12; always taken. -/
  | dspCall (c : Nat) (off : BitVec 19)
  /-- JR (R344): Jump to a register. PC ← G_s. -/
  | dspJr (c s' : Nat)
  /-- JALR (R344): G31 ← address + 12, PC ← G_s. -/
  | dspJalr (c s' : Nat)
  /-- RTI (R344): PC ← EPC, IE ← PIE, FRAC ← PFRAC; no delay slots, 3 cycles. -/
  | dspRti (c : Nat)
  /-- NOP (R344): No operation. no operation. -/
  | dspNop (c : Nat)
  /-- IDLE (R346): The core's clock stops until an enabled line is pending (R346). -/
  | dspIdle (c : Nat)
  /-- EI (R344): Interrupts are taken from the second instruction after it. -/
  | dspEi (c : Nat)
  /-- DI (R344): No interrupt is taken from here on. -/
  | dspDi (c : Nat)
  /-- CSRR (R339): G ← CSR; a read of CYCLO latches CYCHI (R339, Table 17.2). -/
  | dspCsrr (c g n : Nat)
  /-- CSRW (R339): CSR ← G, for the second instruction after it; INTPEND at once, its event lines cleared by 1 (R339). -/
  | dspCsrw (c g n : Nat)
  /-- TRAP (R347): The TRAP exception (R347). -/
  | dspTrap (c : Nat)
  /-- SYNC (R337): The posted stores have completed (R337): stores complete as they are made here. -/
  | dspSync (c : Nat)
  /-- REPEAT (R342): The next instruction issues n times; the count is `n1` + 1 or a register's. -/
  | dspRepeat (c : Nat) (src : Option Nat) (n1 : Nat)
  /-- LOOP (R342): The body of `len1` + 1 instructions issues n times. A nested body that does not end before the outer one has no effect in the manual. -/
  | dspLoop (c : Nat) (src : Option Nat) (len1 n1 : Nat)
  /-- TIME_COUNTER_WRAP (R274): The edges up to the one on which NS passes 0xFFFF_FFFF by the counter's own increment (R274). -/
  | timeCounterWrap
  /-- ETH_FRAME_TRANSMIT_DONE (R279): The frame in transmission ends, its timestamp point lay `d` × 2⁻¹⁶ ns before (R267, R277, R279); `par` says that
  the transmit buffer's parity finds it damaged (R361). -/
  | ethFrameTransmitDone (p d : Nat) (par : Bool := false)
  /-- TIMER_COMPARE_MATCH (R345): Core `c`'s cycle count goes on to TCMPHI:TCMPLO, and line 2 sets (R345). -/
  | timerCompareMatch (c : Nat)
  /-- EDM_LEVEL_CHANGE (R315): EDM has the level `level`. A rise while the outputs are on, once it has followed, gives code 6 (R315). -/
  | edmLevelChange (level : Bool)
  /-- BOUNDARY_SCAN_INSTRUCTION (R36): Instruction `i` (0 BYPASS, 1 IDCODE, 2 SAMPLE/PRELOAD, 3 EXTEST) is executed: its data register captures, and is shifted
  and updated. `ins` are the levels at the device's inputs and `dr` what TDI shifts in, both in the order of the boundary chain. -/
  | boundaryScanInstruction (i : Nat) (ins dr : BitVec 52 := 0)
  deriving DecidableEq, Repr

end Sys2Proof
end

