-- ==== Sys2Proof/WellFormed.lean ====
section
/-!
DEFINITION. Which commands are well formed: every operand that names an instance (a core, channel, cluster, string, lane, port, input, request, register of a core, …)
names one that the device has, and a list of readings has one reading for each place.
-/
namespace Sys2Proof

/-- An error code of `n` half-words, base 4: 0 none, 1 corrected, 2 not (R154). -/
def errsOk (n e : Nat) : Bool := decide (e < 4 ^ n) && (List.range n).all (fun i => decide (e / 4 ^ i % 4 ≠ 3))

/-- The operands of a command are within what the device has. -/
def Instr.wf (i : Instr) : Bool :=
  match i with
  | .vinRise => true
  | .brownout => true
  | .por _ => true
  | .railGood r => decide (r < 7)
  | .railFailure r => decide (r < 7)
  | .xt32Qualified => true
  | .xt32Fail => true
  | .xt32Timeout => true
  | .pllaLock => true
  | .pllbLock => true
  | .pllaLossOfLock => true
  | .pllaRelockTimeout => true
  | .pllbLossOfLock => true
  | .rstNLow => true
  | .rstNStuck => true
  | .rstNRearm => true
  | .resetAssert => true
  | .resetRelease tgt _ _ => decide (tgt < 256)
  | .optionLoadDone read => decide ((read.getD (List.replicate 18 0)).length = 18)
  | .pinTestDone steps _ _ => decide (steps.length = 11)
  | .imagePassDone => true
  | .signatureCheckDone => true
  | .flashNoResponse k => decide (k = 1 ∨ k = 2)
  | .destClearDone => true
  | .loaderCommit => true
  | .tdcBootRunEnd _ => true
  | .bgcalMapStaged c _ => decide (c < 1024)
  | .sealNChange _ => true
  | .scanEntry _ => true
  | .tunClearDone _ _ _ => true
  | .scanLeave _ => true
  | .parkEnter _ => true
  | .parkExit => true
  | .msnsSample _ _ _ _ => true
  | .sweepStart _ => true
  | .strokeEnd _ => true
  | .kilnGrant _ _ => true
  | .trigger _ _ _ => true
  | .stareTrigger _ _ _ => true
  | .holdoffExpiry _ _ _ => true
  | .clusterPowerOn k _ => decide (k < 64)
  | .clusterPowerOff k _ => decide (k < 64)
  | .ambientGateOpen c => decide (c < 1024)
  | .ambientGateMidpoint c => decide (c < 1024)
  | .ambientGateClose c => decide (c < 1024)
  | .emxFrameSend _ => true
  | .emxFrameConfirm _ _ _ => true
  | .chargeString n v _ => decide (n < 8) && decide (v < 4096)
  | .chgSelOff n => decide (n < 8)
  | .shotReadyCheck n v => decide (n < 8) && decide (v < 4096)
  | .emissionLimitDecide n _ => decide (n < 8)
  | .fire n _ => decide (n < 8)
  | .windowClose k _ => decide (k < 64)
  | .zoomPlace k => decide (k < 64)
  | .shotMonitorBurst n => decide (n < 8)
  | .shotVerdict n _ => decide (n < 8)
  | .periodicProbeDue n => decide (n < 8)
  | .chargeSupplyTrip n v _ _ => decide (n < 8) && decide (v < 4096)
  | .rxEvent c i _ tap avs => decide (c < 1024) && decide (i < 16) && decide (tap < 96) && avs.all (fun a => decide (a.1 < 16) && decide (a.2.2 < 96))
  | .thinLevelFall k _ => decide (k < 64)
  | .mashDrain k _ _ errs => decide (k < 64) && errs.all (fun e => decide (e < 3))
  | .histogramClose j _ => decide (j < 16)
  | .spargeEnd _ => true
  | .lauterExtractDone c => decide (c < 1024)
  | .echoRecordEmit st => decide (st < 2)
  | .datagramCloseTimeout => true
  | .datagramSend stream _ => decide (stream < 2)
  | .datagramDiscard => true
  | .dwlPointFrame _ => true
  | .dwlLrsFrame => true
  | .dwlCreditReceive lane _ _ => decide (lane < 2)
  | .dwlCreditTimeout _ => true
  | .laneAlignAcquired n => decide (n < 4)
  | .laneCodeError n _ kind _ => decide (n < 4) && decide (kind < 3)
  | .laneAdaptDone n eyes _ _ _ => decide (n < 4) && decide (eyes.length = 16)
  | .eyeMeasure n _ _ _ _ _ => decide (n < 4)
  | .lanePllLock => true
  | .lanePllLoss => true
  | .ethLinkChange p _ _ => decide (p < 2)
  | .ethFrameReceive p _ _ _ => decide (p < 2)
  | .arpRefresh p _ => decide (p < 2)
  | .prpSupervisionSend => true
  | .prpEntryForget _ => true
  | .timeOffsetApply => true
  | .ppsPulse => true
  | .ppsPulseEnd => true
  | .tinEdge m _ _ => decide (m < 4)
  | .tinInterpCal n _ => decide (n < 4)
  | .adc0RefReady => true
  | .adc0RefFail => true
  | .adc0ReqTrigger n _ => decide (n < 4)
  | .adc0BurstDone n _ => decide (n < 4)
  | .firOutput _ _ => true
  | .afeConversionDone m _ => decide (m < 16)
  | .thermScan readings => decide (readings.length = 68)
  | .dieHardTrip => true
  | .dieHardTripClear => true
  | .soutStageTrip => true
  | .chgGateTrip => true
  | .vspadOvervoltage _ => true
  | .ctlTick _ _ _ _ _ => true
  | .chargeGroupEvaluate n => decide (n < 8)
  | .kilnDecayStep => true
  | .eyeSubwindow => true
  | .eyeInitEnd => true
  | .nvmWriteDone _ => true
  | .scrubStep mem _ err => decide (mem < 6) && decide (err < 3)
  | .enEdge ch _ => decide (ch < 2)
  | .enDiscSample => true
  | .guardOutputsOn => true
  | .offPulseStart => true
  | .offPulseEnd _ _ => true
  | .readbackSample _ _ _ _ => true
  | .edmTimeout => true
  | .guardCrcPass _ => true
  | .ampEthDatagram p _ => decide (p < 2)
  | .ampDwlSideband lane _ _ => decide (lane < 2)
  | .mspiWrite _ _ => true
  | .mspiRead _ => true
  | .mspiStatus => true
  | .ampWindowEnd _ => true
  | .get errs => errs.all (fun e => errsOk 2 e)
  | .set => true
  | .logRead => true
  | .start => true
  | .stop => true
  | .park => true
  | .reset => true
  | .ampResetEffect => true
  | .auth => true
  | .guardChangeBegin => true
  | .guardChangeData => true
  | .guardChangeCommit => true
  | .guardChangeAbort => true
  | .guardSessionTimeout => true
  | .authLockoutEnd => true
  | .caskInfo => true
  | .flCmdErase => true
  | .flCmdProgram => true
  | .flCmdRead => true
  | .flashCmdDone _ => true
  | .optCmd _ => true
  | .emitLostclr _ => true
  | .rxCalRun => true
  | .rxCapctlArm => true
  | .mashSnapctlArm ch => decide (ch < 1024)
  | .ctlCommit => true
  | .adc0ReqGo n => decide (n < 4)
  | .adc0FirCommit => true
  | .adc0EvhiRead => true
  | .tinQhiRead n => decide (n < 4)
  | .tinCfgWrite n _ => decide (n < 4)
  | .timeNsRead => true
  | .timeIncWrite _ => true
  | .timeOfsWrite _ => true
  | .timeCtrlWrite m _ => decide (m < 9)
  | .timePpsWrite _ => true
  | .wortAnchShiWrite _ => true
  | .ethTxcmdGo p _ => decide (p < 2)
  | .ethQpop p => decide (p < 2)
  | .ethTxts2Read p => decide (p < 2)
  | .ethModeWrite p _ => decide (p < 2)
  | .wdtkick c _ => decide (c < 2)
  | .mbox7Write c _ => decide (c < 2)
  | .dmaGo n => decide (n < 4)
  | .dmaDone n errs => decide (n < 4) && errs.all (fun e => errsOk 2 e)
  | .caskLrsgo => true
  | .lrsRecordIssue => true
  | .caskApply => true
  | .caskCopyBackDone => true
  | .registerWrite m a _ => decide (m < 9) && decide (a < 4294967296) && decide (1 ≤ m)
  | .wdtExpiry c => decide (c < 2)
  | .dspCoreStart c cause => decide (c < 2) && decide (cause < 3)
  | .dspInterruptEntry c => decide (c < 2)
  | .dspException c _ => decide (c < 2)
  | .tapColumnDone c => decide (c < 2)
  | .dspAdd c d s' t => decide (c < 2) && decide (d < 32) && decide (s' < 32) && decide (t < 32)
  | .dspSub c d s' t => decide (c < 2) && decide (d < 32) && decide (s' < 32) && decide (t < 32)
  | .dspAdds c d s' t => decide (c < 2) && decide (d < 32) && decide (s' < 32) && decide (t < 32)
  | .dspSubs c d s' t => decide (c < 2) && decide (d < 32) && decide (s' < 32) && decide (t < 32)
  | .dspAnd c d s' t => decide (c < 2) && decide (d < 32) && decide (s' < 32) && decide (t < 32)
  | .dspOr c d s' t => decide (c < 2) && decide (d < 32) && decide (s' < 32) && decide (t < 32)
  | .dspXor c d s' t => decide (c < 2) && decide (d < 32) && decide (s' < 32) && decide (t < 32)
  | .dspSll c d s' t => decide (c < 2) && decide (d < 32) && decide (s' < 32) && decide (t < 32)
  | .dspSrl c d s' t => decide (c < 2) && decide (d < 32) && decide (s' < 32) && decide (t < 32)
  | .dspSra c d s' t => decide (c < 2) && decide (d < 32) && decide (s' < 32) && decide (t < 32)
  | .dspMin c d s' t => decide (c < 2) && decide (d < 32) && decide (s' < 32) && decide (t < 32)
  | .dspMax c d s' t => decide (c < 2) && decide (d < 32) && decide (s' < 32) && decide (t < 32)
  | .dspCmplt c d s' t => decide (c < 2) && decide (d < 32) && decide (s' < 32) && decide (t < 32)
  | .dspCmpltu c d s' t => decide (c < 2) && decide (d < 32) && decide (s' < 32) && decide (t < 32)
  | .dspCmpeq c d s' t => decide (c < 2) && decide (d < 32) && decide (s' < 32) && decide (t < 32)
  | .dspMull c d s' t => decide (c < 2) && decide (d < 32) && decide (s' < 32) && decide (t < 32)
  | .dspMulh c d s' t => decide (c < 2) && decide (d < 32) && decide (s' < 32) && decide (t < 32)
  | .dspAbs c d s' => decide (c < 2) && decide (d < 32) && decide (s' < 32)
  | .dspClz c d s' => decide (c < 2) && decide (d < 32) && decide (s' < 32)
  | .dspPack c d s' t => decide (c < 2) && decide (d < 32) && decide (s' < 32) && decide (t < 32)
  | .dspAddi c d s' _ => decide (c < 2) && decide (d < 32) && decide (s' < 32)
  | .dspAndi c d s' _ => decide (c < 2) && decide (d < 32) && decide (s' < 32)
  | .dspOri c d s' _ => decide (c < 2) && decide (d < 32) && decide (s' < 32)
  | .dspXori c d s' _ => decide (c < 2) && decide (d < 32) && decide (s' < 32)
  | .dspSlli c d s' _ => decide (c < 2) && decide (d < 32) && decide (s' < 32)
  | .dspSrli c d s' _ => decide (c < 2) && decide (d < 32) && decide (s' < 32)
  | .dspSrai c d s' _ => decide (c < 2) && decide (d < 32) && decide (s' < 32)
  | .dspCmplti c d s' _ => decide (c < 2) && decide (d < 32) && decide (s' < 32)
  | .dspCmpeqi c d s' _ => decide (c < 2) && decide (d < 32) && decide (s' < 32)
  | .dspMovl c d _ => decide (c < 2) && decide (d < 32)
  | .dspMovh c d _ => decide (c < 2) && decide (d < 32)
  | .dspLdw c d a mode mc _ err => decide (c < 2) && decide (d < 32) && decide (a < 32) && decide (mode < 8) && decide (mc < 4) && errsOk 2 err
  | .dspLdh c d a mode mc _ err => decide (c < 2) && decide (d < 32) && decide (a < 32) && decide (mode < 8) && decide (mc < 4) && errsOk 1 err
  | .dspLdhu c d a mode mc _ err => decide (c < 2) && decide (d < 32) && decide (a < 32) && decide (mode < 8) && decide (mc < 4) && errsOk 1 err
  | .dspLdd c d a mode mc _ err => decide (c < 2) && decide (d < 32) && decide (a < 32) && decide (mode < 8) && decide (mc < 4) && errsOk 4 err && decide (d % 2 = 0)
  | .dspStw c d a mode mc _ => decide (c < 2) && decide (d < 32) && decide (a < 32) && decide (mode < 8) && decide (mc < 4)
  | .dspSth c d a mode mc _ => decide (c < 2) && decide (d < 32) && decide (a < 32) && decide (mode < 8) && decide (mc < 4)
  | .dspStd c d a mode mc _ => decide (c < 2) && decide (d < 32) && decide (a < 32) && decide (mode < 8) && decide (mc < 4) && decide (d % 2 = 0)
  | .dspQmpy c xr _ yp _ neg => decide (c < 2) && decide (xr < 32) && decide (yp < 16) && decide (neg < 16)
  | .dspQmac c xr _ yp _ neg => decide (c < 2) && decide (xr < 32) && decide (yp < 16) && decide (neg < 16)
  | .dspQclr c => decide (c < 2)
  | .dspMva c g n _ sh => decide (c < 2) && decide (g < 32) && decide (n < 4) && decide (sh < 64)
  | .dspMval c g n => decide (c < 2) && decide (g < 32) && decide (n < 4)
  | .dspMvah c g n => decide (c < 2) && decide (g < 32) && decide (n < 4)
  | .dspMvag c g n => decide (c < 2) && decide (g < 32) && decide (n < 4)
  | .dspMta c g n sh => decide (c < 2) && decide (g < 32) && decide (n < 4) && decide (sh < 64)
  | .dspAdda c n m => decide (c < 2) && decide (n < 4) && decide (m < 4)
  | .dspSha c n _ sh => decide (c < 2) && decide (n < 4) && decide (sh < 64)
  | .dspBra c s' _ => decide (c < 2) && decide (s' < 32)
  | .dspBeq c s' _ => decide (c < 2) && decide (s' < 32)
  | .dspBne c s' _ => decide (c < 2) && decide (s' < 32)
  | .dspBlt c s' _ => decide (c < 2) && decide (s' < 32)
  | .dspBge c s' _ => decide (c < 2) && decide (s' < 32)
  | .dspBgt c s' _ => decide (c < 2) && decide (s' < 32)
  | .dspBle c s' _ => decide (c < 2) && decide (s' < 32)
  | .dspCall c _ => decide (c < 2)
  | .dspJr c s' => decide (c < 2) && decide (s' < 32)
  | .dspJalr c s' => decide (c < 2) && decide (s' < 32)
  | .dspRti c => decide (c < 2)
  | .dspNop c => decide (c < 2)
  | .dspIdle c => decide (c < 2)
  | .dspEi c => decide (c < 2)
  | .dspDi c => decide (c < 2)
  | .dspCsrr c g n => decide (c < 2) && decide (g < 32) && decide (n < 4096)
  | .dspCsrw c g n => decide (c < 2) && decide (g < 32) && decide (n < 4096)
  | .dspTrap c => decide (c < 2)
  | .dspSync c => decide (c < 2)
  | .dspRepeat c src n1 => decide (c < 2) && decide (n1 < 65536) && decide (src.getD 0 < 32)
  | .dspLoop c src len1 n1 => decide (c < 2) && decide (len1 < 2048) && decide (n1 < 1024) && decide (src.getD 0 < 32)
  | .timeCounterWrap => true
  | .ethFrameTransmitDone p _ _ => decide (p < 2)
  | .timerCompareMatch c => decide (c < 2)
  | .edmLevelChange _ => true
  | .boundaryScanInstruction i _ _ => decide (i < 4)

end Sys2Proof
end

