-- ==== Sys2Proof/Decode.lean ====
section
/-!
DEFINITION. The words of the command table: the device takes commands from outside and the table gives its rows no bits, so that no word spells a command.
-/
namespace Sys2Proof

/-- The command that a word of `nbits` bits spells by the table's bits. No row of the table has any. -/
def decodeTableWord (_nbits _w : Nat) : Option Instr := none

end Sys2Proof
end

