-- ==== Sys2Proof/Config.lean ====
section
/-!
DEFINITION. What the manual leaves open: values with no body, so that no proof can rest on one of them. A fresh value is the constant applied to
the counter State.freeCtr, which every use advances.
-/
namespace Sys2Proof.Config

/-- A point of the raised-cosine flyback path of Table 6.1, as an angle code: from code, to code, elapsed ns, length ns. The manual names
the curve and states neither its rounding nor its fixed-point form (assumption log 8). -/
opaque raisedCosine : Nat → Nat → Nat → Nat → Nat

/-- T_pred of a column whose next target the prediction never reaches: the manual states no value (assumption log 9). The argument is fresh. -/
opaque tPredUnstated : Nat → Nat

/-- The log code of a candidate of a histogram into which no planned shot was counted (R187 divides by 0); the argument is its area (assumption log 10). -/
opaque intensityUnstated : Nat → Nat

/-- CAUSE of the GAP record that names frames passed while the ETH point stream was off (R208 names every frame, Table 10.8 no such cause;
assumption log 11). -/
opaque gapCauseOff : Nat

/-- A converted AFE result for which R241 or R242 divides by 0 or takes the logarithm of no positive number (assumption log 13). The argument is fresh. -/
opaque afeUnstated : Nat → Int

/-- The code of an ADC0 conversion, by source and start in ns, while the gain settles (Table 12.3) or without a reference voltage (assumption log 97). -/
opaque adcOpen : Nat → Nat → BitVec 12

/-- The ADC1 code of a voltage at the converter, in nV: the manual gives no full scale (R242; assumption log 99). -/
opaque adc1Code : Int → BitVec 24

/-- The voltage in nV of an input P that is no AX pin (Table 12.9 gives P no meaning above 7; assumption log 99). The argument is fresh. -/
opaque afeNoPin : Nat → Int

/-- Records beyond the first that each output queue of the legal record generator holds; the manual states no capacity (R209; assumption log 14). -/
opaque lrsQueueExtra : Nat

/-- KEY and NEW of a tapped COLUMN record: Table 10.2 defines them for a stream, and R348 gives the tap no rule of its own (assumption log 15). The argument
is fresh; bit 1 is KEY, bit 0 NEW. -/
opaque tapKeyNew : Nat → Nat

/-- Stall cycles of a fabric load, of which R337 gives the upper bound only (assumption log 16). The argument is fresh. -/
opaque fabricStall : Nat → Nat

/-- The address that the log names for an uncorrectable word in the Wort buffer, whose layout the manual does not give (Table 18.6; assumption log 17). The
argument is fresh. -/
opaque wortAddr : Nat → BitVec 32

/-- The SESSION that an AUTH returns, of which R294 says only that it is not zero (assumption log 18). The argument is fresh. -/
opaque ampSession : Nat → BitVec 32

/-- What the manual leaves open of the IPv4 packets that the device builds: bits 15:0 Identification, 16 Don't Fragment, 22:17 DSCP of an ICMP reply (R265; assumption log 91).
The argument is fresh. -/
opaque ipOpen : Nat → BitVec 23

/-- What a DMA engine reads from a word with an uncorrectable error, which it moves all the same (R349; assumption log 62). The argument is fresh. -/
opaque badWord : Nat → BitVec 32

/-- The base register after a bit-reversed step with a K outside 1 to 16, by K and the register (R343; assumption log 100). -/
opaque bitRevOpen : Nat → BitVec 32 → BitVec 32

end Sys2Proof.Config
end

