-- ==== Sys2Proof/Machine/Causes.lean ====
section
/-!
DEFINITION. The cause bits of the interrupt tree (R354, Tables 18.1 and 18.2): each is a block number and a bit position.
-/
namespace Sys2Proof.Machine

/-- A cause bit: the block n of Table 18.1 and the bit position in that block's cause registers. -/
structure Cause where
  blk : Nat
  bit : Nat
  deriving DecidableEq, Repr

def Cause.TOP_PINTEST_SOUT_SHORT : Cause := ⟨0, 2⟩
def Cause.TOP_PINTEST_EMX_SHORT : Cause := ⟨0, 1⟩
def Cause.TOP_PINTEST_FIRE_SHORT : Cause := ⟨0, 0⟩
def Cause.CLK_STATUS_PLLB_LOL : Cause := ⟨2, 6⟩
def Cause.CLK_STATUS_PLLA_LOL : Cause := ⟨2, 5⟩
def Cause.CLK_STATUS_XT32_FAIL : Cause := ⟨2, 1⟩
def Cause.PWR_RAIL_FAIL : Cause := ⟨2, 7⟩
def Cause.RST_SRC (i : Nat) : Cause := ⟨1, i⟩
def Cause.EMIT_NSHORT (i : Nat) : Cause := ⟨3, 24 + i⟩
def Cause.EMIT_OPEN (i : Nat) : Cause := ⟨3, 16 + i⟩
def Cause.EMIT_SHOT_LATE : Cause := ⟨3, 4⟩
def Cause.EMIT_MON_MISS : Cause := ⟨3, 3⟩
def Cause.EMIT_SEED_ZERO : Cause := ⟨3, 2⟩
def Cause.EMIT_EMX_RETRY : Cause := ⟨3, 1⟩
def Cause.EMIT_EMX_FAIL : Cause := ⟨3, 0⟩
def Cause.SCAN_PLAN_BUSY : Cause := ⟨4, 7⟩
def Cause.SCAN_UNLOCK : Cause := ⟨4, 6⟩
def Cause.SCAN_COLMAX : Cause := ⟨4, 5⟩
def Cause.SCAN_NOCOL : Cause := ⟨4, 4⟩
def Cause.SCAN_PLAN_ORDER : Cause := ⟨4, 3⟩
def Cause.SCAN_SKIP : Cause := ⟨4, 2⟩
def Cause.SCAN_LATE : Cause := ⟨4, 1⟩
def Cause.SCAN_SCAN_STALL : Cause := ⟨4, 0⟩
def Cause.KILN_EYEFLAG_PROBE_DEFER : Cause := ⟨5, 2⟩
def Cause.KILN_EYEFLAG_EYE_ERR : Cause := ⟨5, 1⟩
def Cause.KILN_EYEFLAG_REFUSED : Cause := ⟨5, 0⟩
def Cause.RX_BIAS_DEV : Cause := ⟨6, 5⟩
def Cause.RX_CAL_REJ : Cause := ⟨6, 4⟩
def Cause.RX_WIN_CUT : Cause := ⟨6, 3⟩
def Cause.RX_AMB_STALE : Cause := ⟨6, 2⟩
def Cause.RX_FOVF : Cause := ⟨6, 1⟩
def Cause.RX_COVF : Cause := ⟨6, 0⟩
def Cause.TIN_PHSTEP (i : Nat) : Cause := ⟨25, 12 + i⟩
def Cause.TIN_OVF (i : Nat) : Cause := ⟨25, 8 + i⟩
def Cause.TIN_LOST (i : Nat) : Cause := ⟨25, 4 + i⟩
def Cause.TIN_DEAD (i : Nat) : Cause := ⟨25, i⟩
def Cause.MASH_LATE : Cause := ⟨7, 6⟩
def Cause.MASH_ECC_UE : Cause := ⟨7, 5⟩
def Cause.MASH_ECC_CE : Cause := ⟨7, 4⟩
def Cause.MASH_SAT : Cause := ⟨7, 3⟩
def Cause.MASH_THIN : Cause := ⟨7, 2⟩
def Cause.MASH_LOSS : Cause := ⟨7, 1⟩
def Cause.MASH_SNAP : Cause := ⟨7, 0⟩
def Cause.LAU_NEG : Cause := ⟨8, 5⟩
def Cause.LAU_CANDMAX : Cause := ⟨8, 4⟩
def Cause.LAU_BLIND : Cause := ⟨8, 3⟩
def Cause.LAU_INTF : Cause := ⟨8, 2⟩
def Cause.LAU_HZD : Cause := ⟨8, 0⟩
def Cause.WORT_ETH_OVF : Cause := ⟨9, 6⟩
def Cause.WORT_ECC_UE : Cause := ⟨9, 5⟩
def Cause.WORT_ECC_CE : Cause := ⟨9, 4⟩
def Cause.WORT_ANCH_OLD : Cause := ⟨9, 3⟩
def Cause.WORT_GAP : Cause := ⟨9, 2⟩
def Cause.WORT_OVF : Cause := ⟨9, 1⟩
def Cause.WORT_DEC : Cause := ⟨9, 0⟩
def Cause.DWL_NOCREDIT : Cause := ⟨18, 4⟩
def Cause.DWL_CREDIT_OLD : Cause := ⟨18, 3⟩
def Cause.DWL_RX_CRC : Cause := ⟨18, 2⟩
def Cause.DWL_LINKLOST : Cause := ⟨18, 1⟩
def Cause.DWL_RESTART : Cause := ⟨18, 0⟩
def Cause.ADC0_REQ_MISS (i : Nat) : Cause := ⟨11, 2 + i⟩
def Cause.ADC0_EV_LOST : Cause := ⟨11, 1⟩
def Cause.ADC0_REF_FAIL : Cause := ⟨11, 0⟩
def Cause.AFE_MEXC_BROKEN : Cause := ⟨12, 3⟩
def Cause.AFE_RANGE : Cause := ⟨12, 2⟩
def Cause.AFE_CONFLICT : Cause := ⟨12, 1⟩
def Cause.AFE_BROKEN : Cause := ⟨12, 0⟩
def Cause.THERM_HARD : Cause := ⟨13, 5⟩
def Cause.THERM_BROKEN : Cause := ⟨13, 4⟩
def Cause.THERM_SUSPECT : Cause := ⟨13, 3⟩
def Cause.THERM_SHUTDOWN : Cause := ⟨13, 2⟩
def Cause.THERM_DERATE : Cause := ⟨13, 1⟩
def Cause.THERM_WARN : Cause := ⟨13, 0⟩
def Cause.LANE_EYE_LOW (i : Nat) : Cause := ⟨14, 12 + i⟩
def Cause.LANE_ALIGN_LOST (i : Nat) : Cause := ⟨14, 8 + i⟩
def Cause.LANE_ADAPT_FAIL (i : Nat) : Cause := ⟨14, 4 + i⟩
def Cause.ETH_PRP_CFG (p : Nat) : Cause := ⟨15 + p, 5⟩
def Cause.ETH_TXTS_LOST (p : Nat) : Cause := ⟨15 + p, 4⟩
def Cause.ETH_QDROP (p : Nat) : Cause := ⟨15 + p, 3⟩
def Cause.ETH_SPEED_ERR (p : Nat) : Cause := ⟨15 + p, 2⟩
def Cause.ETH_FCS (p : Nat) : Cause := ⟨15 + p, 1⟩
def Cause.ETH_LINKLOST (p : Nat) : Cause := ⟨15 + p, 0⟩
def Cause.TIME_PPS_MISS : Cause := ⟨17, 3⟩
def Cause.TIME_INC_CLAMP : Cause := ⟨17, 2⟩
def Cause.TIME_STEP : Cause := ⟨17, 1⟩
def Cause.TIME_WRAP : Cause := ⟨17, 0⟩
def Cause.AMP_LOCKOUT : Cause := ⟨19, 4⟩
def Cause.AMP_AUTH_FAIL : Cause := ⟨19, 3⟩
def Cause.AMP_MSPI_RDY : Cause := ⟨19, 2⟩
def Cause.AMP_DROP : Cause := ⟨19, 1⟩
def Cause.AMP_STATE : Cause := ⟨19, 0⟩
def Cause.GUARD_DETPAR : Cause := ⟨20, 4⟩
def Cause.GUARD_DISC : Cause := ⟨20, 3⟩
def Cause.GUARD_FAULT : Cause := ⟨20, 2⟩
def Cause.GUARD_CONF : Cause := ⟨20, 1⟩
def Cause.GUARD_INTR : Cause := ⟨20, 0⟩
def Cause.LOG_OPT_REF : Cause := ⟨24, 4⟩
def Cause.LOG_FL_ERR : Cause := ⟨24, 3⟩
def Cause.LOG_NVM_ERR : Cause := ⟨24, 2⟩
def Cause.LOG_WRAP : Cause := ⟨24, 1⟩
def Cause.LOG_ENTRY : Cause := ⟨24, 0⟩
def Cause.CHG_TRIP : Cause := ⟨2, 8⟩
def Cause.SOUT_TRIP : Cause := ⟨2, 9⟩
def Cause.DSP_CE (c : Nat) : Cause := ⟨22 + c, 8 * c⟩
def Cause.DSP_UE (c : Nat) : Cause := ⟨22 + c, 8 * c + 1⟩
def Cause.DSP_HALT (c : Nat) : Cause := ⟨22 + c, 8 * c + 2⟩
def Cause.DSP_TAPDROP (c : Nat) : Cause := ⟨22 + c, 8 * c + 3⟩
def Cause.CASK_REFUSED : Cause := ⟨21, 16⟩
def Cause.CASK_DETCHG : Cause := ⟨21, 17⟩
def Cause.PLAN_UE : Cause := ⟨0, 24⟩
def Cause.FMAP_UE : Cause := ⟨0, 25⟩
def Cause.BUS_FRZ (m : Nat) : Cause := ⟨26, m⟩

end Sys2Proof.Machine
end

