-- ==== Sys2Proof/Machine/Fields.lean ====
section
/-!
DEFINITION. The named fields of the registers: the address, lowest bit and width of every field of the field tables
of spec/, under the manual's own names (R6, Table 19.5). An indexed register takes its indices as arguments, in the
order its table names them; the ETH and DSP registers take the port or core number first.
-/
namespace Sys2Proof.Machine

/-- A field of a register: a bus address, the lowest bit, the width. -/
structure Fld where
  addr : Nat
  lo : Nat
  w : Nat
  deriving DecidableEq, Repr

def Fld.TOP_ID_PART : Fld := ⟨0x0, 16, 16⟩
def Fld.TOP_ID_GRADE : Fld := ⟨0x0, 12, 4⟩
def Fld.TOP_ID_STEP_MAJ : Fld := ⟨0x0, 8, 4⟩
def Fld.TOP_ID_STEP_MIN : Fld := ⟨0x0, 0, 8⟩
def Fld.BUS_WIN_LO_BASE (i : Nat) (j : Nat) : Fld := ⟨0x1A0100 + 0x40 * i + 0x8 * j, 12, 20⟩
def Fld.BUS_WIN_LO_WR (i : Nat) (j : Nat) : Fld := ⟨0x1A0100 + 0x40 * i + 0x8 * j, 1, 1⟩
def Fld.BUS_WIN_LO_RD (i : Nat) (j : Nat) : Fld := ⟨0x1A0100 + 0x40 * i + 0x8 * j, 0, 1⟩
def Fld.BUS_WIN_HI_LIMIT (i : Nat) (j : Nat) : Fld := ⟨0x1A0104 + 0x40 * i + 0x8 * j, 12, 20⟩
def Fld.TOP_STRAP_UNSTABLE : Fld := ⟨0x8, 7, 1⟩
def Fld.TOP_STRAP_MSPI_EN : Fld := ⟨0x8, 5, 1⟩
def Fld.TOP_STRAP_HID : Fld := ⟨0x8, 0, 5⟩
def Fld.TOP_PINTEST_RUNS : Fld := ⟨0xC, 24, 8⟩
def Fld.TOP_PINTEST_FAIL_UNIT : Fld := ⟨0xC, 16, 5⟩
def Fld.TOP_PINTEST_BUSY : Fld := ⟨0xC, 8, 1⟩
def Fld.TOP_PINTEST_LOCK : Fld := ⟨0xC, 3, 1⟩
def Fld.TOP_PINTEST_SOUT_SHORT : Fld := ⟨0xC, 2, 1⟩
def Fld.TOP_PINTEST_EMX_SHORT : Fld := ⟨0xC, 1, 1⟩
def Fld.TOP_PINTEST_FIRE_SHORT : Fld := ⟨0xC, 0, 1⟩
def Fld.CLK_STATUS_PLLB_LOL : Fld := ⟨0x20010, 6, 1⟩
def Fld.CLK_STATUS_PLLA_LOL : Fld := ⟨0x20010, 5, 1⟩
def Fld.CLK_STATUS_LPLL_LOCK : Fld := ⟨0x20010, 4, 1⟩
def Fld.CLK_STATUS_PLLB_LOCK : Fld := ⟨0x20010, 3, 1⟩
def Fld.CLK_STATUS_PLLA_LOCK : Fld := ⟨0x20010, 2, 1⟩
def Fld.CLK_STATUS_XT32_FAIL : Fld := ⟨0x20010, 1, 1⟩
def Fld.CLK_STATUS_ACLK_XTAL : Fld := ⟨0x20010, 0, 1⟩
def Fld.PWR_STATUS_VIN_OK : Fld := ⟨0x20000, 8, 1⟩
def Fld.PWR_STATUS_GOOD : Fld := ⟨0x20000, 0, 7⟩
def Fld.PWR_FAULT_SOUT_TRIP : Fld := ⟨0x20004, 9, 1⟩
def Fld.PWR_FAULT_CHG_TRIP : Fld := ⟨0x20004, 8, 1⟩
def Fld.PWR_FAULT_RAIL_FAIL : Fld := ⟨0x20004, 7, 1⟩
def Fld.PWR_FAULT_RAIL_ID : Fld := ⟨0x20004, 0, 4⟩
def Fld.RST_FUSE_BUILTIN : Fld := ⟨0x1000C, 24, 1⟩
def Fld.RST_FUSE_MAP : Fld := ⟨0x1000C, 0, 24⟩
def Fld.RST_STATUS_LAST_SRC : Fld := ⟨0x10000, 16, 8⟩
def Fld.RST_STATUS_LAST_LEVEL : Fld := ⟨0x10000, 8, 2⟩
def Fld.RST_STATUS_SAFE_DEF : Fld := ⟨0x10000, 1, 1⟩
def Fld.RST_STATUS_BKP_LOST : Fld := ⟨0x10000, 0, 1⟩
def Fld.RST_CAUSE_CAUSE : Fld := ⟨0x10004, 0, 14⟩
def Fld.RST_COUNT_COUNT : Fld := ⟨0x10008, 0, 32⟩
def Fld.RST_LOAD_FAILS : Fld := ⟨0x10010, 6, 2⟩
def Fld.RST_LOAD_BLANK : Fld := ⟨0x10010, 2, 1⟩
def Fld.RST_LOAD_FUSE_ERR : Fld := ⟨0x10010, 1, 1⟩
def Fld.RST_LOAD_OPT_ERR : Fld := ⟨0x10010, 0, 1⟩
def Fld.RST_PIN_STUCK_SEEN : Fld := ⟨0x10014, 9, 1⟩
def Fld.RST_PIN_RSTPIN_STUCK : Fld := ⟨0x10014, 8, 1⟩
def Fld.RST_PIN_STUCK_S : Fld := ⟨0x10014, 0, 8⟩
def Fld.RST_BKP_DATA (i : Nat) : Fld := ⟨0x10020 + 0x4 * i, 0, 32⟩
def Fld.LDR_STATUS_ATTEMPTS : Fld := ⟨0x180000, 8, 8⟩
def Fld.LDR_STATUS_UNSIGNED : Fld := ⟨0x180000, 5, 1⟩
def Fld.LDR_STATUS_FALLBACK : Fld := ⟨0x180000, 4, 1⟩
def Fld.LDR_STATUS_ACTIVE : Fld := ⟨0x180000, 2, 2⟩
def Fld.LDR_STATUS_NOIMAGE : Fld := ⟨0x180000, 1, 1⟩
def Fld.LDR_STATUS_DONE : Fld := ⟨0x180000, 0, 1⟩
def Fld.LDR_ERR_A_SECTION : Fld := ⟨0x180004, 16, 8⟩
def Fld.LDR_ERR_A_REASON : Fld := ⟨0x180004, 0, 8⟩
def Fld.LDR_ERR_B_SECTION : Fld := ⟨0x180008, 16, 8⟩
def Fld.LDR_ERR_B_REASON : Fld := ⟨0x180008, 0, 8⟩
def Fld.LDR_SEQ_SEQ : Fld := ⟨0x18000C, 0, 32⟩
def Fld.FL_ADDR_ADDR : Fld := ⟨0x180040, 0, 32⟩
def Fld.FL_CMD_CMD : Fld := ⟨0x180044, 0, 2⟩
def Fld.FL_STAT_PROTECT : Fld := ⟨0x180048, 2, 1⟩
def Fld.FL_STAT_ERR : Fld := ⟨0x180048, 1, 1⟩
def Fld.FL_STAT_BUSY : Fld := ⟨0x180048, 0, 1⟩
def Fld.OPT_STAGE_DATA (i : Nat) : Fld := ⟨0x180100 + 0x4 * i, 0, 32⟩
def Fld.OPT_CMD_KEY : Fld := ⟨0x180180, 0, 32⟩
def Fld.OPT_STAT_REFUSED : Fld := ⟨0x180184, 1, 1⟩
def Fld.FL_BUF_DATA (i : Nat) : Fld := ⟨0x181000 + 0x4 * i, 0, 32⟩
def Fld.EMIT_CTRL_FITTED : Fld := ⟨0x30000, 8, 8⟩
def Fld.EMIT_CTRL_MAXLOST : Fld := ⟨0x30000, 4, 2⟩
def Fld.EMIT_MON_OPEN_THR : Fld := ⟨0x30004, 24, 8⟩
def Fld.EMIT_MON_DELAY : Fld := ⟨0x30004, 8, 12⟩
def Fld.EMIT_MON_LEN : Fld := ⟨0x30004, 0, 6⟩
def Fld.EMIT_PROBE_PROBE_T : Fld := ⟨0x30008, 8, 8⟩
def Fld.EMIT_CHG_OVP : Fld := ⟨0x30010, 16, 12⟩
def Fld.EMIT_CHG_ILIM : Fld := ⟨0x30010, 8, 8⟩
def Fld.EMIT_STRCFG_PERIOD (i : Nat) : Fld := ⟨0x30020 + 0x4 * i, 16, 16⟩
def Fld.EMIT_STRCFG_DSPAN (i : Nat) : Fld := ⟨0x30020 + 0x4 * i, 6, 10⟩
def Fld.EMIT_STRCFG_WIDTH (i : Nat) : Fld := ⟨0x30020 + 0x4 * i, 0, 6⟩
def Fld.EMIT_DSEED_SEED (i : Nat) : Fld := ⟨0x30040 + 0x4 * i, 0, 16⟩
def Fld.EMIT_DLFSR_LFSR (i : Nat) : Fld := ⟨0x30060 + 0x4 * i, 0, 16⟩
def Fld.EMIT_LOOP_VF_NOM (i : Nat) : Fld := ⟨0x30080 + 0x4 * i, 24, 8⟩
def Fld.EMIT_LOOP_RK (i : Nat) : Fld := ⟨0x30080 + 0x4 * i, 16, 8⟩
def Fld.EMIT_LOOP_VOH (i : Nat) : Fld := ⟨0x30080 + 0x4 * i, 8, 8⟩
def Fld.EMIT_ECLASS_VE (i : Nat) : Fld := ⟨0x300A0 + 0x4 * i, 0, 8⟩
def Fld.EMIT_DER_TK (i : Nat) : Fld := ⟨0x300C0 + 0x4 * i, 24, 8⟩
def Fld.EMIT_DER_SLOPE (i : Nat) : Fld := ⟨0x300C0 + 0x4 * i, 16, 8⟩
def Fld.EMIT_DER_VMAX (i : Nat) : Fld := ⟨0x300C0 + 0x4 * i, 0, 12⟩
def Fld.EMIT_DAC_DEMAND (i : Nat) : Fld := ⟨0x300E0 + 0x4 * i, 16, 12⟩
def Fld.EMIT_DAC_CODE (i : Nat) : Fld := ⟨0x300E0 + 0x4 * i, 0, 12⟩
def Fld.EMIT_VBANK_READY (i : Nat) : Fld := ⟨0x30100 + 0x4 * i, 16, 1⟩
def Fld.EMIT_VBANK_VBANK (i : Nat) : Fld := ⟨0x30100 + 0x4 * i, 0, 12⟩
def Fld.EMIT_LOST_LO_LOST : Fld := ⟨0x30120, 0, 32⟩
def Fld.EMIT_LOST_HI_LOST : Fld := ⟨0x30124, 0, 32⟩
def Fld.EMIT_LOSTCLR_KEY : Fld := ⟨0x30128, 0, 32⟩
def Fld.EMIT_FAULT_NSHORT : Fld := ⟨0x30130, 24, 8⟩
def Fld.EMIT_FAULT_OPEN : Fld := ⟨0x30130, 16, 8⟩
def Fld.EMIT_FAULT_DEAD : Fld := ⟨0x30130, 8, 8⟩
def Fld.EMIT_FAULT_SHOT_LATE : Fld := ⟨0x30130, 4, 1⟩
def Fld.EMIT_FAULT_MON_MISS : Fld := ⟨0x30130, 3, 1⟩
def Fld.EMIT_FAULT_SEED_ZERO : Fld := ⟨0x30130, 2, 1⟩
def Fld.EMIT_FAULT_EMX_RETRY : Fld := ⟨0x30130, 1, 1⟩
def Fld.EMIT_FAULT_EMX_FAIL : Fld := ⟨0x30130, 0, 1⟩
def Fld.EMIT_EMXSTAT_FRAMES : Fld := ⟨0x30134, 16, 16⟩
def Fld.EMIT_EMXSTAT_RETRIES : Fld := ⟨0x30134, 8, 8⟩
def Fld.EMIT_SHOTS_COUNT (i : Nat) : Fld := ⟨0x30140 + 0x4 * i, 0, 32⟩
def Fld.EMIT_ECAL_TK (i : Nat) : Fld := ⟨0x30200 + 0x4 * i, 24, 8⟩
def Fld.EMIT_ECAL_TC (i : Nat) : Fld := ⟨0x30200 + 0x4 * i, 16, 8⟩
def Fld.EMIT_ECAL_SE_BIN (i : Nat) : Fld := ⟨0x30200 + 0x4 * i, 8, 8⟩
def Fld.EMIT_ECAL_WL_BIN (i : Nat) : Fld := ⟨0x30200 + 0x4 * i, 4, 4⟩
def Fld.EMIT_EROW_ROWS (i : Nat) (j : Nat) : Fld := ⟨0x30300 + 0x8 * i + 0x4 * j, 0, 32⟩
def Fld.EMIT_WLW_WEIGHT (i : Nat) : Fld := ⟨0x30500 + 0x4 * i, 0, 16⟩
def Fld.EMIT_PATTAB_PAT (i : Nat) : Fld := ⟨0x30600 + 0x4 * i, 0, 32⟩
def Fld.SCAN_CTRL_PDIR : Fld := ⟨0x40000, 8, 2⟩
def Fld.SCAN_CTRL_AUTORES : Fld := ⟨0x40000, 5, 1⟩
def Fld.SCAN_CTRL_PSEL : Fld := ⟨0x40000, 4, 1⟩
def Fld.SCAN_CTRL_DIR : Fld := ⟨0x40000, 2, 1⟩
def Fld.SCAN_CTRL_MODE : Fld := ⟨0x40000, 0, 2⟩
def Fld.SCAN_SWEEP_FB : Fld := ⟨0x40004, 20, 10⟩
def Fld.SCAN_SWEEP_PERIOD : Fld := ⟨0x40004, 0, 20⟩
def Fld.SCAN_RANGE_END : Fld := ⟨0x40008, 16, 16⟩
def Fld.SCAN_RANGE_START : Fld := ⟨0x40008, 0, 16⟩
def Fld.SCAN_STARE_TCOL : Fld := ⟨0x4000C, 16, 16⟩
def Fld.SCAN_STARE_AZ : Fld := ⟨0x4000C, 0, 16⟩
def Fld.SCAN_PROF_LAST : Fld := ⟨0x40010, 16, 11⟩
def Fld.SCAN_PROF_TSTEP : Fld := ⟨0x40010, 0, 16⟩
def Fld.SCAN_HOLD_KIND : Fld := ⟨0x40014, 24, 1⟩
def Fld.SCAN_HOLD_HE : Fld := ⟨0x40014, 16, 8⟩
def Fld.SCAN_HOLD_HT : Fld := ⟨0x40014, 0, 16⟩
def Fld.SCAN_MINADV_MINADV : Fld := ⟨0x40018, 0, 12⟩
def Fld.SCAN_MCAL_GAIN : Fld := ⟨0x4001C, 16, 16⟩
def Fld.SCAN_MCAL_ZERO : Fld := ⟨0x4001C, 0, 16⟩
def Fld.SCAN_MSNS_LOCK_ERR : Fld := ⟨0x40020, 8, 8⟩
def Fld.SCAN_MSNS_AVG : Fld := ⟨0x40020, 0, 2⟩
def Fld.SCAN_PLAN0_LAST : Fld := ⟨0x40028, 16, 16⟩
def Fld.SCAN_PLAN0_FIRST : Fld := ⟨0x40028, 0, 16⟩
def Fld.SCAN_PLAN1_LAST : Fld := ⟨0x4002C, 16, 16⟩
def Fld.SCAN_PLAN1_FIRST : Fld := ⟨0x4002C, 0, 16⟩
def Fld.SCAN_ANGLE_VALID : Fld := ⟨0x40040, 16, 1⟩
def Fld.SCAN_ANGLE_ANGLE : Fld := ⟨0x40040, 0, 16⟩
def Fld.SCAN_SETP_SETP : Fld := ⟨0x40044, 0, 16⟩
def Fld.SCAN_STAT_SWEEPS : Fld := ⟨0x40048, 8, 24⟩
def Fld.SCAN_STAT_ACTIVE_PSEL : Fld := ⟨0x40048, 2, 1⟩
def Fld.SCAN_STAT_INHIBIT : Fld := ⟨0x40048, 1, 1⟩
def Fld.SCAN_STAT_LOCKED : Fld := ⟨0x40048, 0, 1⟩
def Fld.SCAN_FLAG_PLAN_BUSY : Fld := ⟨0x4004C, 7, 1⟩
def Fld.SCAN_FLAG_UNLOCK : Fld := ⟨0x4004C, 6, 1⟩
def Fld.SCAN_FLAG_COLMAX : Fld := ⟨0x4004C, 5, 1⟩
def Fld.SCAN_FLAG_NOCOL : Fld := ⟨0x4004C, 4, 1⟩
def Fld.SCAN_FLAG_PLAN_ORDER : Fld := ⟨0x4004C, 3, 1⟩
def Fld.SCAN_FLAG_SKIP : Fld := ⟨0x4004C, 2, 1⟩
def Fld.SCAN_FLAG_LATE : Fld := ⟨0x4004C, 1, 1⟩
def Fld.SCAN_FLAG_SCAN_STALL : Fld := ⟨0x4004C, 0, 1⟩
def Fld.SCAN_CNT_SKIPS : Fld := ⟨0x40050, 16, 16⟩
def Fld.SCAN_CNT_LATES : Fld := ⟨0x40050, 8, 8⟩
def Fld.SCAN_CNT_STALLS : Fld := ⟨0x40050, 0, 8⟩
def Fld.SCAN_PROFTAB_P1 (i : Nat) : Fld := ⟨0x41000 + 0x4 * i, 16, 16⟩
def Fld.SCAN_PROFTAB_P0 (i : Nat) : Fld := ⟨0x41000 + 0x4 * i, 0, 16⟩
def Fld.KILN_CTRL_POLICY : Fld := ⟨0x50000, 0, 2⟩
def Fld.KILN_PIN_PMAX : Fld := ⟨0x50004, 0, 16⟩
def Fld.KILN_CLU_EWAKE : Fld := ⟨0x50008, 16, 16⟩
def Fld.KILN_CLU_ELISTEN : Fld := ⟨0x50008, 0, 16⟩
def Fld.KILN_ETA_ETA : Fld := ⟨0x5000C, 0, 10⟩
def Fld.KILN_TJMAX_TJMAX : Fld := ⟨0x50010, 0, 8⟩
def Fld.KILN_CHGWIN_WIN : Fld := ⟨0x50014, 0, 8⟩
def Fld.KILN_STR_CEFF (i : Nat) : Fld := ⟨0x50020 + 0x4 * i, 0, 16⟩
def Fld.KILN_CHG_PMAX (i : Nat) : Fld := ⟨0x50040 + 0x4 * i, 0, 16⟩
def Fld.KILN_TH_SENS (i : Nat) : Fld := ⟨0x50060 + 0x4 * i, 28, 2⟩
def Fld.KILN_TH_TAU (i : Nat) : Fld := ⟨0x50060 + 0x4 * i, 16, 12⟩
def Fld.KILN_TH_KJ (i : Nat) : Fld := ⟨0x50060 + 0x4 * i, 0, 16⟩
def Fld.KILN_TJ_TJ (i : Nat) : Fld := ⟨0x50080 + 0x4 * i, 0, 16⟩
def Fld.KILN_DT_DT (i : Nat) : Fld := ⟨0x500A0 + 0x4 * i, 0, 32⟩
def Fld.KILN_BKT_BKT (i : Nat) : Fld := ⟨0x500C0 + 0x4 * i, 0, 32⟩
def Fld.KILN_EYECFG_HALFW : Fld := ⟨0x50100, 24, 8⟩
def Fld.KILN_EYECFG_AZW : Fld := ⟨0x50100, 16, 8⟩
def Fld.KILN_EYECFG_AZ0 : Fld := ⟨0x50100, 0, 16⟩
def Fld.KILN_EYEWIN_KQ : Fld := ⟨0x50104, 16, 16⟩
def Fld.KILN_EYEWIN_LSHIFT : Fld := ⟨0x50104, 8, 5⟩
def Fld.KILN_EYEWIN_SUB : Fld := ⟨0x50104, 0, 8⟩
def Fld.KILN_EYEFLAG_REFCNT : Fld := ⟨0x50108, 16, 16⟩
def Fld.KILN_EYEFLAG_INIT : Fld := ⟨0x50108, 3, 1⟩
def Fld.KILN_EYEFLAG_PROBE_DEFER : Fld := ⟨0x50108, 2, 1⟩
def Fld.KILN_EYEFLAG_EYE_ERR : Fld := ⟨0x50108, 1, 1⟩
def Fld.KILN_EYEFLAG_REFUSED : Fld := ⟨0x50108, 0, 1⟩
def Fld.KILN_EYEPEEK_CELL : Fld := ⟨0x5010C, 0, 14⟩
def Fld.KILN_EYESUM_SUM : Fld := ⟨0x50110, 0, 24⟩
def Fld.KILN_LAST_GRANTED : Fld := ⟨0x50120, 16, 10⟩
def Fld.KILN_LAST_PLANNED : Fld := ⟨0x50120, 0, 10⟩
def Fld.KILN_LASTST_STATE : Fld := ⟨0x50124, 0, 8⟩
def Fld.KILN_LASTROWS_LO_ROWS : Fld := ⟨0x50128, 0, 32⟩
def Fld.KILN_LASTROWS_HI_ROWS : Fld := ⟨0x5012C, 0, 32⟩
def Fld.KILN_EYELIM_LIM1 (i : Nat) : Fld := ⟨0x58000 + 0x4 * i, 16, 16⟩
def Fld.KILN_EYELIM_LIM0 (i : Nat) : Fld := ⟨0x58000 + 0x4 * i, 0, 16⟩
def Fld.RX_COINC_KMAX : Fld := ⟨0x60000, 16, 4⟩
def Fld.RX_COINC_KMIN : Fld := ⟨0x60000, 12, 4⟩
def Fld.RX_COINC_K : Fld := ⟨0x60000, 8, 4⟩
def Fld.RX_COINC_ADAPT : Fld := ⟨0x60000, 4, 1⟩
def Fld.RX_COINC_GATE : Fld := ⟨0x60000, 0, 4⟩
def Fld.RX_AMB_AMB_MIN : Fld := ⟨0x60004, 8, 8⟩
def Fld.RX_AMB_AMB_LEN : Fld := ⟨0x60004, 0, 8⟩
def Fld.RX_ATH_RATE (i : Nat) : Fld := ⟨0x60064 + 0x4 * i, 0, 16⟩
def Fld.RX_CAL_DNLMAX : Fld := ⟨0x60020, 24, 8⟩
def Fld.RX_CAL_FLYT : Fld := ⟨0x60020, 16, 8⟩
def Fld.RX_CAL_BGN : Fld := ⟨0x60020, 8, 4⟩
def Fld.RX_CAL_FLYCAL : Fld := ⟨0x60020, 2, 1⟩
def Fld.RX_CAL_BGCAL : Fld := ⟨0x60020, 1, 1⟩
def Fld.RX_CAL_RUN : Fld := ⟨0x60020, 0, 1⟩
def Fld.RX_CALSTAT_REJECTS : Fld := ⟨0x60024, 16, 16⟩
def Fld.RX_CALSTAT_BUSY : Fld := ⟨0x60024, 15, 1⟩
def Fld.RX_CALSTAT_BAD : Fld := ⟨0x60024, 0, 11⟩
def Fld.RX_BIAS_VEX : Fld := ⟨0x60030, 16, 9⟩
def Fld.RX_BIAS_VBD25 : Fld := ⟨0x60030, 0, 16⟩
def Fld.RX_BIASTC_TCBD : Fld := ⟨0x60034, 0, 16⟩
def Fld.RX_BIASST_TSPAD : Fld := ⟨0x60038, 16, 16⟩
def Fld.RX_BIASST_VSET : Fld := ⟨0x60038, 0, 16⟩
def Fld.RX_STAT_BIAS_OK : Fld := ⟨0x60040, 2, 1⟩
def Fld.RX_STAT_BIAS_LIM : Fld := ⟨0x60040, 1, 1⟩
def Fld.RX_STAT_CALDONE : Fld := ⟨0x60040, 0, 1⟩
def Fld.RX_FLAG_BIAS_DEV : Fld := ⟨0x60044, 5, 1⟩
def Fld.RX_FLAG_CAL_REJ : Fld := ⟨0x60044, 4, 1⟩
def Fld.RX_FLAG_WIN_CUT : Fld := ⟨0x60044, 3, 1⟩
def Fld.RX_FLAG_AMB_STALE : Fld := ⟨0x60044, 2, 1⟩
def Fld.RX_FLAG_FOVF : Fld := ⟨0x60044, 1, 1⟩
def Fld.RX_FLAG_COVF : Fld := ⟨0x60044, 0, 1⟩
def Fld.RX_CAPCTL_ARM : Fld := ⟨0x60050, 31, 1⟩
def Fld.RX_CAPCTL_CH : Fld := ⟨0x60050, 16, 10⟩
def Fld.RX_CAPCTL_COUNT : Fld := ⟨0x60050, 0, 9⟩
def Fld.RX_MAPSEL_CH : Fld := ⟨0x60060, 0, 10⟩
def Fld.RX_MAPW_BIN (i : Nat) : Fld := ⟨0x60080 + 0x4 * i, 0, 32⟩
def Fld.RX_LOSS_DEAD (i : Nat) : Fld := ⟨0x60100 + 0x4 * i, 16, 16⟩
def Fld.RX_LOSS_FOVF (i : Nat) : Fld := ⟨0x60100 + 0x4 * i, 0, 16⟩
def Fld.RX_CAP_GRIST (i : Nat) : Fld := ⟨0x61000 + 0x4 * i, 0, 32⟩
def Fld.RX_AMBC_K (i : Nat) : Fld := ⟨0x62000 + 0x4 * i, 28, 4⟩
def Fld.RX_AMBC_STALE (i : Nat) : Fld := ⟨0x62000 + 0x4 * i, 27, 1⟩
def Fld.RX_AMBC_EVT (i : Nat) : Fld := ⟨0x62000 + 0x4 * i, 16, 8⟩
def Fld.RX_AMBC_RATE (i : Nat) : Fld := ⟨0x62000 + 0x4 * i, 0, 16⟩
def Fld.RX_TDC_DNL (i : Nat) : Fld := ⟨0x63000 + 0x4 * i, 24, 8⟩
def Fld.RX_TDC_MAPGEN (i : Nat) : Fld := ⟨0x63000 + 0x4 * i, 16, 8⟩
def Fld.RX_TDC_AGE (i : Nat) : Fld := ⟨0x63000 + 0x4 * i, 8, 8⟩
def Fld.RX_TDC_REJ (i : Nat) : Fld := ⟨0x63000 + 0x4 * i, 1, 1⟩
def Fld.RX_TDC_VALID (i : Nat) : Fld := ⟨0x63000 + 0x4 * i, 0, 1⟩
def Fld.RX_SPADEN_EN (i : Nat) : Fld := ⟨0x68000 + 0x4 * i, 0, 32⟩
def Fld.TIN_CFG_STOPSEL (i : Nat) : Fld := ⟨0x190000 + 0x4 * i, 16, 2⟩
def Fld.TIN_CFG_STOP_SLOPE (i : Nat) : Fld := ⟨0x190000 + 0x4 * i, 14, 2⟩
def Fld.TIN_CFG_MODE (i : Nat) : Fld := ⟨0x190000 + 0x4 * i, 12, 2⟩
def Fld.TIN_CFG_SLOPE (i : Nat) : Fld := ⟨0x190000 + 0x4 * i, 10, 2⟩
def Fld.TIN_CFG_THR (i : Nat) : Fld := ⟨0x190000 + 0x4 * i, 0, 8⟩
def Fld.TIN_QLO_DATA (i : Nat) : Fld := ⟨0x190010 + 0x8 * i, 0, 32⟩
def Fld.TIN_QHI_DATA (i : Nat) : Fld := ⟨0x190014 + 0x8 * i, 0, 32⟩
def Fld.TIN_STAT_PEND (i : Nat) : Fld := ⟨0x190030 + 0x4 * i, 9, 1⟩
def Fld.TIN_STAT_FILL (i : Nat) : Fld := ⟨0x190030 + 0x4 * i, 0, 9⟩
def Fld.TIN_CNT_DEAD (i : Nat) : Fld := ⟨0x190040 + 0x4 * i, 16, 16⟩
def Fld.TIN_CNT_LOST (i : Nat) : Fld := ⟨0x190040 + 0x4 * i, 0, 16⟩
def Fld.TIN_FLAG_PHSTEP : Fld := ⟨0x190050, 12, 4⟩
def Fld.TIN_FLAG_OVF : Fld := ⟨0x190050, 8, 4⟩
def Fld.TIN_FLAG_LOST : Fld := ⟨0x190050, 4, 4⟩
def Fld.TIN_FLAG_DEAD : Fld := ⟨0x190050, 0, 4⟩
def Fld.TIN_DNL_DNL : Fld := ⟨0x190054, 0, 32⟩
def Fld.MASH_THIN_SEED : Fld := ⟨0x70000, 16, 16⟩
def Fld.MASH_THIN_NMAX : Fld := ⟨0x70000, 8, 4⟩
def Fld.MASH_THIN_DOWN : Fld := ⟨0x70000, 4, 4⟩
def Fld.MASH_THIN_UP : Fld := ⟨0x70000, 0, 4⟩
def Fld.MASH_ZOOM_ZMIN : Fld := ⟨0x70004, 16, 16⟩
def Fld.MASH_ZOOM_ZOOM_AT : Fld := ⟨0x70004, 0, 6⟩
def Fld.MASH_STAT_COLS : Fld := ⟨0x70010, 8, 24⟩
def Fld.MASH_STAT_CLR_BUSY : Fld := ⟨0x70010, 1, 1⟩
def Fld.MASH_STAT_BANK : Fld := ⟨0x70010, 0, 1⟩
def Fld.MASH_FLAG_LATE : Fld := ⟨0x70014, 6, 1⟩
def Fld.MASH_FLAG_ECC_UE : Fld := ⟨0x70014, 5, 1⟩
def Fld.MASH_FLAG_ECC_CE : Fld := ⟨0x70014, 4, 1⟩
def Fld.MASH_FLAG_SAT : Fld := ⟨0x70014, 3, 1⟩
def Fld.MASH_FLAG_THIN : Fld := ⟨0x70014, 2, 1⟩
def Fld.MASH_FLAG_LOSS : Fld := ⟨0x70014, 1, 1⟩
def Fld.MASH_FLAG_SNAP : Fld := ⟨0x70014, 0, 1⟩
def Fld.MASH_ECC_CE : Fld := ⟨0x70018, 16, 16⟩
def Fld.MASH_ECC_UE : Fld := ⟨0x70018, 0, 16⟩
def Fld.MASH_ECCADDR_UE : Fld := ⟨0x7001C, 31, 1⟩
def Fld.MASH_ECCADDR_BIN : Fld := ⟨0x7001C, 0, 22⟩
def Fld.MASH_SNAPCTL_ARM : Fld := ⟨0x70020, 31, 1⟩
def Fld.MASH_SNAPCTL_PEND : Fld := ⟨0x70020, 30, 1⟩
def Fld.MASH_SNAPCTL_CH : Fld := ⟨0x70020, 0, 10⟩
def Fld.MASH_GATE_CW (i : Nat) : Fld := ⟨0x70100 + 0x4 * i, 16, 4⟩
def Fld.MASH_GATE_GATE (i : Nat) : Fld := ⟨0x70100 + 0x4 * i, 0, 12⟩
def Fld.MASH_THINK_THINNED (i : Nat) : Fld := ⟨0x70200 + 0x4 * i, 16, 16⟩
def Fld.MASH_THINK_LEVEL (i : Nat) : Fld := ⟨0x70200 + 0x4 * i, 0, 3⟩
def Fld.MASH_LATE_LATE (i : Nat) : Fld := ⟨0x70300 + 0x4 * i, 0, 16⟩
def Fld.MASH_SNAPBIN_BIN1 (i : Nat) : Fld := ⟨0x74000 + 0x4 * i, 16, 16⟩
def Fld.MASH_SNAPBIN_BIN0 (i : Nat) : Fld := ⟨0x74000 + 0x4 * i, 0, 16⟩
def Fld.MASH_SNAPHDR_HDR (i : Nat) : Fld := ⟨0x75000 + 0x4 * i, 0, 32⟩
def Fld.MASH_HDR_HDR (i : Nat) (j : Nat) : Fld := ⟨0x78000 + 0x20 * i + 0x4 * j, 0, 32⟩
def Fld.LAU_CTRL_FLOOR : Fld := ⟨0x80000, 8, 2⟩
def Fld.LAU_CTRL_NECHO : Fld := ⟨0x80000, 4, 2⟩
def Fld.LAU_CTRL_POLICY : Fld := ⟨0x80000, 0, 2⟩
def Fld.LAU_THR_K : Fld := ⟨0x80004, 16, 8⟩
def Fld.LAU_THR_T0 : Fld := ⟨0x80004, 0, 16⟩
def Fld.LAU_RAIN0_NEAR : Fld := ⟨0x80010, 16, 16⟩
def Fld.LAU_RAIN0_D : Fld := ⟨0x80010, 8, 8⟩
def Fld.LAU_RAIN0_DROP : Fld := ⟨0x80010, 1, 1⟩
def Fld.LAU_RAIN0_EN : Fld := ⟨0x80010, 0, 1⟩
def Fld.LAU_RAIN1_I : Fld := ⟨0x80014, 16, 12⟩
def Fld.LAU_RAIN1_W : Fld := ⟨0x80014, 0, 8⟩
def Fld.LAU_INTF_RATIO : Fld := ⟨0x80018, 16, 8⟩
def Fld.LAU_INTF_ABS : Fld := ⟨0x80018, 0, 16⟩
def Fld.LAU_SUN_BLIND : Fld := ⟨0x8001C, 0, 16⟩
def Fld.LAU_HZD_UNEV : Fld := ⟨0x80020, 2, 1⟩
def Fld.LAU_HZD_WARN : Fld := ⟨0x80020, 1, 1⟩
def Fld.LAU_HZD_PROT : Fld := ⟨0x80020, 0, 1⟩
def Fld.LAU_STAT_HZD : Fld := ⟨0x80030, 0, 1⟩
def Fld.LAU_FLAG_NEG : Fld := ⟨0x80034, 5, 1⟩
def Fld.LAU_FLAG_CANDMAX : Fld := ⟨0x80034, 4, 1⟩
def Fld.LAU_FLAG_BLIND : Fld := ⟨0x80034, 3, 1⟩
def Fld.LAU_FLAG_INTF : Fld := ⟨0x80034, 2, 1⟩
def Fld.LAU_FLAG_HZD : Fld := ⟨0x80034, 0, 1⟩
def Fld.LAU_FLD0_NWARN : Fld := ⟨0x80038, 16, 11⟩
def Fld.LAU_FLD0_NPROT : Fld := ⟨0x80038, 0, 11⟩
def Fld.LAU_FLD1_FCOL : Fld := ⟨0x8003C, 16, 11⟩
def Fld.LAU_FLD1_NUNEV : Fld := ⟨0x8003C, 0, 11⟩
def Fld.LAU_PEEKSEL_CH : Fld := ⟨0x80050, 0, 10⟩
def Fld.LAU_PEEK_VALID (i : Nat) : Fld := ⟨0x80060 + 0x8 * i, 31, 1⟩
def Fld.LAU_PEEK_FLAGS (i : Nat) : Fld := ⟨0x80060 + 0x8 * i, 24, 7⟩
def Fld.LAU_PEEK_RANGE (i : Nat) : Fld := ⟨0x80060 + 0x8 * i, 0, 21⟩
def Fld.LAU_PEEK_ODD_INT (i : Nat) : Fld := ⟨0x80064 + 0x8 * i, 16, 12⟩
def Fld.LAU_PEEK_ODD_WIDTH (i : Nat) : Fld := ⟨0x80064 + 0x8 * i, 0, 8⟩
def Fld.LAU_INTFK_INTF (i : Nat) : Fld := ⟨0x80100 + 0x4 * i, 16, 16⟩
def Fld.LAU_INTFK_BLIND (i : Nat) : Fld := ⟨0x80100 + 0x4 * i, 0, 16⟩
def Fld.LAU_RAINK_RAIN (i : Nat) : Fld := ⟨0x80200 + 0x4 * i, 16, 16⟩
def Fld.LAU_RAINK_DROPPED (i : Nat) : Fld := ⟨0x80200 + 0x4 * i, 0, 16⟩
def Fld.CASK_CALCFG_ORDER_ERR : Fld := ⟨0x151F00, 10, 1⟩
def Fld.CASK_CALCFG_BUSY : Fld := ⟨0x151F00, 9, 1⟩
def Fld.CASK_CALCFG_APPLY : Fld := ⟨0x151F00, 8, 1⟩
def Fld.CASK_CALCFG_NSETS : Fld := ⟨0x151F00, 0, 4⟩
def Fld.CAL_TEMP_T (i : Nat) : Fld := ⟨0x152000 + 0xC00 * i, 0, 16⟩
def Fld.CAL_STR_OFF1 (i : Nat) (j : Nat) : Fld := ⟨0x152010 + 0xC00 * i + 0x4 * j, 16, 16⟩
def Fld.CAL_STR_OFF0 (i : Nat) (j : Nat) : Fld := ⟨0x152010 + 0xC00 * i + 0x4 * j, 0, 16⟩
def Fld.CAL_CH_OFF1 (i : Nat) (j : Nat) : Fld := ⟨0x152400 + 0xC00 * i + 0x4 * j, 16, 16⟩
def Fld.CAL_CH_OFF0 (i : Nat) (j : Nat) : Fld := ⟨0x152400 + 0xC00 * i + 0x4 * j, 0, 16⟩
def Fld.WORT_CTRL_RK : Fld := ⟨0x90000, 10, 4⟩
def Fld.WORT_CTRL_COMPE : Fld := ⟨0x90000, 6, 2⟩
def Fld.WORT_CTRL_COMPD : Fld := ⟨0x90000, 4, 2⟩
def Fld.WORT_CTRL_KEYALL : Fld := ⟨0x90000, 0, 1⟩
def Fld.WORT_ETH_PORT : Fld := ⟨0x90004, 8, 1⟩
def Fld.WORT_ETH_EN : Fld := ⟨0x90004, 4, 1⟩
def Fld.WORT_ETH_DECE : Fld := ⟨0x90004, 0, 3⟩
def Fld.WORT_BUF0_HIGH2 : Fld := ⟨0x90008, 16, 11⟩
def Fld.WORT_BUF0_HIGH1 : Fld := ⟨0x90008, 0, 11⟩
def Fld.WORT_BUF1_LOW : Fld := ⟨0x9000C, 0, 11⟩
def Fld.WORT_ANCH_CNT_CNT : Fld := ⟨0x90010, 0, 32⟩
def Fld.WORT_ANCH_SLO_SEC : Fld := ⟨0x90014, 0, 32⟩
def Fld.WORT_ANCH_NS_NSEC : Fld := ⟨0x90018, 0, 32⟩
def Fld.WORT_ANCH_SHI_VALID : Fld := ⟨0x9001C, 31, 1⟩
def Fld.WORT_ANCH_SHI_SEC : Fld := ⟨0x9001C, 0, 16⟩
def Fld.WORT_STAT_FILL : Fld := ⟨0x90020, 16, 16⟩
def Fld.WORT_STAT_EFILL : Fld := ⟨0x90020, 3, 13⟩
def Fld.WORT_STAT_LEVEL : Fld := ⟨0x90020, 0, 2⟩
def Fld.WORT_FLAG_ETH_OVF : Fld := ⟨0x90024, 6, 1⟩
def Fld.WORT_FLAG_ECC_UE : Fld := ⟨0x90024, 5, 1⟩
def Fld.WORT_FLAG_ECC_CE : Fld := ⟨0x90024, 4, 1⟩
def Fld.WORT_FLAG_ANCH_OLD : Fld := ⟨0x90024, 3, 1⟩
def Fld.WORT_FLAG_GAP : Fld := ⟨0x90024, 2, 1⟩
def Fld.WORT_FLAG_OVF : Fld := ⟨0x90024, 1, 1⟩
def Fld.WORT_FLAG_DEC : Fld := ⟨0x90024, 0, 1⟩
def Fld.WORT_CNT_DROPPED : Fld := ⟨0x90028, 16, 16⟩
def Fld.WORT_CNT_DECIM : Fld := ⟨0x90028, 0, 16⟩
def Fld.WORT_FRAME_FRAME : Fld := ⟨0x9002C, 0, 24⟩
def Fld.WORT_ECC_CE : Fld := ⟨0x90030, 16, 16⟩
def Fld.WORT_ECC_UE : Fld := ⟨0x90030, 0, 16⟩
def Fld.DWL_CTRL_RATE : Fld := ⟨0x120000, 2, 1⟩
def Fld.DWL_CTRL_MODE : Fld := ⟨0x120000, 0, 2⟩
def Fld.DWL_STAT_ACTIVE : Fld := ⟨0x120004, 3, 1⟩
def Fld.DWL_STAT_UP : Fld := ⟨0x120004, 2, 1⟩
def Fld.DWL_STAT_AL1 : Fld := ⟨0x120004, 1, 1⟩
def Fld.DWL_STAT_AL0 : Fld := ⟨0x120004, 0, 1⟩
def Fld.DWL_CREDIT_CCUM : Fld := ⟨0x120008, 16, 16⟩
def Fld.DWL_CREDIT_SENT : Fld := ⟨0x120008, 0, 16⟩
def Fld.DWL_FLAG_NOCREDIT : Fld := ⟨0x12000C, 4, 1⟩
def Fld.DWL_FLAG_CREDIT_OLD : Fld := ⟨0x12000C, 3, 1⟩
def Fld.DWL_FLAG_RX_CRC : Fld := ⟨0x12000C, 2, 1⟩
def Fld.DWL_FLAG_LINKLOST : Fld := ⟨0x12000C, 1, 1⟩
def Fld.DWL_FLAG_RESTART : Fld := ⟨0x12000C, 0, 1⟩
def Fld.DWL_CNT_RXBAD : Fld := ⟨0x120010, 16, 16⟩
def Fld.DWL_CNT_LOSSES : Fld := ⟨0x120010, 0, 16⟩
def Fld.DWL_LRSCNT_COUNT : Fld := ⟨0x120014, 0, 32⟩
def Fld.CTL_CTRL_COMMIT : Fld := ⟨0xA0000, 31, 1⟩
def Fld.CTL_CTRL_EN : Fld := ⟨0xA0000, 0, 8⟩
def Fld.CTL_STAT_CSAT : Fld := ⟨0xA0004, 16, 8⟩
def Fld.CTL_STAT_LSAT : Fld := ⟨0xA0004, 8, 8⟩
def Fld.CTL_STAT_RUN : Fld := ⟨0xA0004, 0, 8⟩
def Fld.CTL_EYE_EYE_DIV : Fld := ⟨0xA0008, 0, 8⟩
def Fld.CTL_LCFG_DIV (i : Nat) : Fld := ⟨0xA0100 + 0x40 * i, 24, 8⟩
def Fld.CTL_LCFG_SRC (i : Nat) : Fld := ⟨0xA0100 + 0x40 * i, 12, 4⟩
def Fld.CTL_LCFG_SRCIDX (i : Nat) : Fld := ⟨0xA0100 + 0x40 * i, 0, 8⟩
def Fld.CTL_LKF_K (i : Nat) : Fld := ⟨0xA0104 + 0x40 * i, 0, 32⟩
def Fld.CTL_LKP_K (i : Nat) : Fld := ⟨0xA0108 + 0x40 * i, 0, 32⟩
def Fld.CTL_LKI_K (i : Nat) : Fld := ⟨0xA010C + 0x40 * i, 0, 32⟩
def Fld.CTL_LLIM_OMAX (i : Nat) : Fld := ⟨0xA0110 + 0x40 * i, 16, 16⟩
def Fld.CTL_LLIM_OMIN (i : Nat) : Fld := ⟨0xA0110 + 0x40 * i, 0, 16⟩
def Fld.CTL_LSLEW_DOWN (i : Nat) : Fld := ⟨0xA0114 + 0x40 * i, 16, 16⟩
def Fld.CTL_LSLEW_UP (i : Nat) : Fld := ⟨0xA0114 + 0x40 * i, 0, 16⟩
def Fld.CTL_LSP_SPS (i : Nat) : Fld := ⟨0xA0118 + 0x40 * i, 16, 16⟩
def Fld.CTL_LSP_SP (i : Nat) : Fld := ⟨0xA0118 + 0x40 * i, 0, 16⟩
def Fld.CTL_LFB_FB (i : Nat) : Fld := ⟨0xA011C + 0x40 * i, 0, 16⟩
def Fld.CTL_LOUT_OUT (i : Nat) : Fld := ⟨0xA0120 + 0x40 * i, 0, 16⟩
def Fld.CTL_LINT_I (i : Nat) : Fld := ⟨0xA0124 + 0x40 * i, 0, 32⟩
def Fld.CTL_LSAT_FLAGS (i : Nat) : Fld := ⟨0xA0128 + 0x40 * i, 0, 8⟩
def Fld.CTL_CKF_K (i : Nat) (j : Nat) : Fld := ⟨0xA0400 + 0x80 * i + 0x20 * j, 0, 32⟩
def Fld.CTL_CKP_K (i : Nat) (j : Nat) : Fld := ⟨0xA0404 + 0x80 * i + 0x20 * j, 0, 32⟩
def Fld.CTL_CKI_K (i : Nat) (j : Nat) : Fld := ⟨0xA0408 + 0x80 * i + 0x20 * j, 0, 32⟩
def Fld.CTL_CSLEW_DOWN (i : Nat) (j : Nat) : Fld := ⟨0xA040C + 0x80 * i + 0x20 * j, 16, 16⟩
def Fld.CTL_CSLEW_UP (i : Nat) (j : Nat) : Fld := ⟨0xA040C + 0x80 * i + 0x20 * j, 0, 16⟩
def Fld.CTL_CSP_SPS (i : Nat) (j : Nat) : Fld := ⟨0xA0410 + 0x80 * i + 0x20 * j, 16, 16⟩
def Fld.CTL_CSP_SP (i : Nat) (j : Nat) : Fld := ⟨0xA0410 + 0x80 * i + 0x20 * j, 0, 16⟩
def Fld.CTL_COUT_OUT (i : Nat) (j : Nat) : Fld := ⟨0xA0414 + 0x80 * i + 0x20 * j, 0, 12⟩
def Fld.CTL_CINT_I (i : Nat) (j : Nat) : Fld := ⟨0xA0418 + 0x80 * i + 0x20 * j, 0, 32⟩
def Fld.CTL_CSAT_FLAGS (i : Nat) (j : Nat) : Fld := ⟨0xA041C + 0x80 * i + 0x20 * j, 0, 8⟩
def Fld.CTL_GRP_WIN (i : Nat) : Fld := ⟨0xA0800 + 0x4 * i, 16, 2⟩
def Fld.CTL_GRP_CODE (i : Nat) : Fld := ⟨0xA0800 + 0x4 * i, 0, 12⟩
def Fld.ADC0_CTRL_REF : Fld := ⟨0xB0000, 0, 2⟩
def Fld.ADC0_STAT_REFRDY : Fld := ⟨0xB0004, 0, 1⟩
def Fld.ADC0_FLAG_REQ_MISS : Fld := ⟨0xB0008, 2, 4⟩
def Fld.ADC0_FLAG_EV_LOST : Fld := ⟨0xB0008, 1, 1⟩
def Fld.ADC0_FLAG_REF_FAIL : Fld := ⟨0xB0008, 0, 1⟩
def Fld.ADC0_AXSEL_AXB_N : Fld := ⟨0xB000C, 12, 3⟩
def Fld.ADC0_AXSEL_AXB_P : Fld := ⟨0xB000C, 8, 3⟩
def Fld.ADC0_AXSEL_AXA_N : Fld := ⟨0xB000C, 4, 3⟩
def Fld.ADC0_AXSEL_AXA_P : Fld := ⟨0xB000C, 0, 3⟩
def Fld.ADC0_SRC_GAIN (i : Nat) : Fld := ⟨0xB0010 + 0x4 * i, 0, 2⟩
def Fld.ADC0_BG_EN : Fld := ⟨0xB0050, 31, 1⟩
def Fld.ADC0_BG_CH : Fld := ⟨0xB0050, 0, 4⟩
def Fld.ADC0_BGRES_RES : Fld := ⟨0xB0054, 0, 16⟩
def Fld.ADC0_REQ_EN (i : Nat) : Fld := ⟨0xB0060 + 0x10 * i, 31, 1⟩
def Fld.ADC0_REQ_GO (i : Nat) : Fld := ⟨0xB0060 + 0x10 * i, 30, 1⟩
def Fld.ADC0_REQ_TRIG (i : Nat) : Fld := ⟨0xB0060 + 0x10 * i, 28, 2⟩
def Fld.ADC0_REQ_STR (i : Nat) : Fld := ⟨0xB0060 + 0x10 * i, 25, 3⟩
def Fld.ADC0_REQ_SRC (i : Nat) : Fld := ⟨0xB0060 + 0x10 * i, 21, 4⟩
def Fld.ADC0_REQ_LEN (i : Nat) : Fld := ⟨0xB0060 + 0x10 * i, 11, 10⟩
def Fld.ADC0_REQT_DELAY (i : Nat) : Fld := ⟨0xB0064 + 0x10 * i, 20, 12⟩
def Fld.ADC0_REQT_PER (i : Nat) : Fld := ⟨0xB0064 + 0x10 * i, 0, 20⟩
def Fld.ADC0_REQS_DONE (i : Nat) : Fld := ⟨0xB0068 + 0x10 * i, 31, 1⟩
def Fld.ADC0_REQS_BUSY (i : Nat) : Fld := ⟨0xB0068 + 0x10 * i, 30, 1⟩
def Fld.ADC0_REQS_COUNT (i : Nat) : Fld := ⟨0xB0068 + 0x10 * i, 0, 11⟩
def Fld.ADC0_REQTS_NS (i : Nat) : Fld := ⟨0xB006C + 0x10 * i, 0, 32⟩
def Fld.ADC0_FIR_COMMIT : Fld := ⟨0xB0100, 31, 1⟩
def Fld.ADC0_FIR_EN : Fld := ⟨0xB0100, 30, 1⟩
def Fld.ADC0_FIR_DEC : Fld := ⟨0xB0100, 16, 6⟩
def Fld.ADC0_FIR_NTAP : Fld := ⟨0xB0100, 0, 8⟩
def Fld.ADC0_FIRTHR_HI : Fld := ⟨0xB0104, 16, 16⟩
def Fld.ADC0_FIRTHR_LO : Fld := ⟨0xB0104, 0, 16⟩
def Fld.ADC0_FIRY_INV : Fld := ⟨0xB0108, 31, 1⟩
def Fld.ADC0_FIRY_Y : Fld := ⟨0xB0108, 0, 16⟩
def Fld.ADC0_EVLO_NS : Fld := ⟨0xB0110, 0, 32⟩
def Fld.ADC0_EVHI_DATA : Fld := ⟨0xB0114, 0, 32⟩
def Fld.ADC0_EVSTAT_FILL : Fld := ⟨0xB0118, 0, 7⟩
def Fld.ADC0_RBUF_S1 (i : Nat) (j : Nat) : Fld := ⟨0xB1000 + 0x800 * i + 0x4 * j, 16, 16⟩
def Fld.ADC0_RBUF_S0 (i : Nat) (j : Nat) : Fld := ⟨0xB1000 + 0x800 * i + 0x4 * j, 0, 16⟩
def Fld.ADC0_FIRCOEF_C (i : Nat) : Fld := ⟨0xB3000 + 0x4 * i, 0, 16⟩
def Fld.AFE_DEFA_EN (i : Nat) : Fld := ⟨0xC0000 + 0x8 * i, 31, 1⟩
def Fld.AFE_DEFA_RATE (i : Nat) : Fld := ⟨0xC0000 + 0x8 * i, 28, 3⟩
def Fld.AFE_DEFA_GAIN (i : Nat) : Fld := ⟨0xC0000 + 0x8 * i, 25, 3⟩
def Fld.AFE_DEFA_CURVE (i : Nat) : Fld := ⟨0xC0000 + 0x8 * i, 22, 3⟩
def Fld.AFE_DEFA_WIRE (i : Nat) : Fld := ⟨0xC0000 + 0x8 * i, 20, 2⟩
def Fld.AFE_DEFA_CJ (i : Nat) : Fld := ⟨0xC0000 + 0x8 * i, 16, 4⟩
def Fld.AFE_DEFA_EXC (i : Nat) : Fld := ⟨0xC0000 + 0x8 * i, 12, 4⟩
def Fld.AFE_DEFA_RET (i : Nat) : Fld := ⟨0xC0000 + 0x8 * i, 8, 4⟩
def Fld.AFE_DEFA_N (i : Nat) : Fld := ⟨0xC0000 + 0x8 * i, 4, 4⟩
def Fld.AFE_DEFA_P (i : Nat) : Fld := ⟨0xC0000 + 0x8 * i, 0, 4⟩
def Fld.AFE_DEFB_EXCT (i : Nat) : Fld := ⟨0xC0004 + 0x8 * i, 30, 2⟩
def Fld.AFE_DEFB_ELEV (i : Nat) : Fld := ⟨0xC0004 + 0x8 * i, 20, 10⟩
def Fld.AFE_PAR_P1 (i : Nat) : Fld := ⟨0xC0080 + 0x4 * i, 16, 16⟩
def Fld.AFE_PAR_P0 (i : Nat) : Fld := ⟨0xC0080 + 0x4 * i, 0, 16⟩
def Fld.AFE_RES_VALID (i : Nat) : Fld := ⟨0xC0100 + 0x4 * i, 31, 1⟩
def Fld.AFE_RES_BROKEN (i : Nat) : Fld := ⟨0xC0100 + 0x4 * i, 30, 1⟩
def Fld.AFE_RES_VALUE (i : Nat) : Fld := ⟨0xC0100 + 0x4 * i, 0, 24⟩
def Fld.AFE_RL_RL (i : Nat) : Fld := ⟨0xC0140 + 0x4 * i, 0, 32⟩
def Fld.AFE_BIAS_PINS : Fld := ⟨0xC0180, 0, 8⟩
def Fld.AFE_MEXC_EN : Fld := ⟨0xC0184, 31, 1⟩
def Fld.AFE_MEXC_IMIN : Fld := ⟨0xC0184, 16, 8⟩
def Fld.AFE_MEXC_LEVEL : Fld := ⟨0xC0184, 0, 8⟩
def Fld.AFE_PMON_EN : Fld := ⟨0xC0188, 31, 1⟩
def Fld.AFE_PMON_PIN : Fld := ⟨0xC0188, 24, 3⟩
def Fld.AFE_PMON_OFFSET : Fld := ⟨0xC0188, 12, 12⟩
def Fld.AFE_PGAIN_GAIN : Fld := ⟨0xC018C, 0, 16⟩
def Fld.AFE_PVI_VIN : Fld := ⟨0xC0190, 16, 16⟩
def Fld.AFE_PVI_IIN : Fld := ⟨0xC0190, 0, 16⟩
def Fld.AFE_PWR_P : Fld := ⟨0xC0194, 0, 32⟩
def Fld.AFE_PWR1_P : Fld := ⟨0xC0198, 0, 32⟩
def Fld.AFE_FLAG_MEXC_BROKEN : Fld := ⟨0xC01A0, 3, 1⟩
def Fld.AFE_FLAG_RANGE : Fld := ⟨0xC01A0, 2, 1⟩
def Fld.AFE_FLAG_CONFLICT : Fld := ⟨0xC01A0, 1, 1⟩
def Fld.AFE_FLAG_BROKEN : Fld := ⟨0xC01A0, 0, 1⟩
def Fld.AFE_NTCTAB_R (i : Nat) : Fld := ⟨0xC0200 + 0x4 * i, 16, 16⟩
def Fld.AFE_NTCTAB_T (i : Nat) : Fld := ⟨0xC0200 + 0x4 * i, 0, 16⟩
def Fld.THERM_CFG_HYST : Fld := ⟨0xD0000, 0, 4⟩
def Fld.THERM_EXT_EN : Fld := ⟨0xD0004, 16, 4⟩
def Fld.THERM_EXT_DEF : Fld := ⟨0xD0004, 0, 16⟩
def Fld.THERM_LIM_A_DERATE (i : Nat) : Fld := ⟨0xD0010 + 0x8 * i, 16, 16⟩
def Fld.THERM_LIM_A_WARN (i : Nat) : Fld := ⟨0xD0010 + 0x8 * i, 0, 16⟩
def Fld.THERM_LIM_B_SHUTDOWN (i : Nat) : Fld := ⟨0xD0014 + 0x8 * i, 0, 16⟩
def Fld.THERM_STAT_HOTIDX : Fld := ⟨0xD0030, 24, 8⟩
def Fld.THERM_STAT_HOT : Fld := ⟨0xD0030, 8, 16⟩
def Fld.THERM_STAT_FAST : Fld := ⟨0xD0030, 7, 1⟩
def Fld.THERM_STAT_NVM_OK : Fld := ⟨0xD0030, 6, 1⟩
def Fld.THERM_STAT_HARD : Fld := ⟨0xD0030, 5, 1⟩
def Fld.THERM_STAT_SPAD_SD : Fld := ⟨0xD0030, 4, 1⟩
def Fld.THERM_STAT_EXT_SD : Fld := ⟨0xD0030, 0, 4⟩
def Fld.THERM_CHG_OK : Fld := ⟨0xD0034, 0, 8⟩
def Fld.THERM_FLAG_HARD : Fld := ⟨0xD0038, 5, 1⟩
def Fld.THERM_FLAG_BROKEN : Fld := ⟨0xD0038, 4, 1⟩
def Fld.THERM_FLAG_SUSPECT : Fld := ⟨0xD0038, 3, 1⟩
def Fld.THERM_FLAG_SHUTDOWN : Fld := ⟨0xD0038, 2, 1⟩
def Fld.THERM_FLAG_DERATE : Fld := ⟨0xD0038, 1, 1⟩
def Fld.THERM_FLAG_WARN : Fld := ⟨0xD0038, 0, 1⟩
def Fld.THERM_CNT_SD : Fld := ⟨0xD003C, 16, 16⟩
def Fld.THERM_CNT_NVMDROP : Fld := ⟨0xD003C, 0, 16⟩
def Fld.THERM_SUSP_S (i : Nat) : Fld := ⟨0xD0040 + 0x4 * i, 0, 32⟩
def Fld.THERM_T_RAW (i : Nat) : Fld := ⟨0xD0100 + 0x4 * i, 16, 16⟩
def Fld.THERM_T_T (i : Nat) : Fld := ⟨0xD0100 + 0x4 * i, 0, 16⟩
def Fld.LANE_CFG_EN (i : Nat) : Fld := ⟨0xE0010 + 0x4 * i, 31, 1⟩
def Fld.LANE_CFG_TXINV (i : Nat) : Fld := ⟨0xE0010 + 0x4 * i, 28, 1⟩
def Fld.LANE_CFG_RXINV (i : Nat) : Fld := ⟨0xE0010 + 0x4 * i, 27, 1⟩
def Fld.LANE_CFG_SWING (i : Nat) : Fld := ⟨0xE0010 + 0x4 * i, 20, 4⟩
def Fld.LANE_CFG_DEEMPH (i : Nat) : Fld := ⟨0xE0010 + 0x4 * i, 16, 4⟩
def Fld.LANE_CFG_FREEZE (i : Nat) : Fld := ⟨0xE0010 + 0x4 * i, 8, 1⟩
def Fld.LANE_CFG_EYEMIN (i : Nat) : Fld := ⟨0xE0010 + 0x4 * i, 0, 7⟩
def Fld.LANE_STAT_ADAPTED (i : Nat) : Fld := ⟨0xE0020 + 0x4 * i, 3, 1⟩
def Fld.LANE_STAT_ALIGNED (i : Nat) : Fld := ⟨0xE0020 + 0x4 * i, 2, 1⟩
def Fld.LANE_STAT_RATE (i : Nat) : Fld := ⟨0xE0020 + 0x4 * i, 0, 2⟩
def Fld.LANE_EYE_V (i : Nat) : Fld := ⟨0xE0030 + 0x4 * i, 16, 9⟩
def Fld.LANE_EYE_H (i : Nat) : Fld := ⟨0xE0030 + 0x4 * i, 0, 7⟩
def Fld.LANE_EQ_DFE1 (i : Nat) : Fld := ⟨0xE0040 + 0x4 * i, 24, 6⟩
def Fld.LANE_EQ_DFE2 (i : Nat) : Fld := ⟨0xE0040 + 0x4 * i, 16, 6⟩
def Fld.LANE_EQ_DFE3 (i : Nat) : Fld := ⟨0xE0040 + 0x4 * i, 8, 6⟩
def Fld.LANE_EQ_CTLE (i : Nat) : Fld := ⟨0xE0040 + 0x4 * i, 0, 4⟩
def Fld.LANE_FLAG_EYE_LOW : Fld := ⟨0xE0060, 12, 4⟩
def Fld.LANE_FLAG_ALIGN_LOST : Fld := ⟨0xE0060, 8, 4⟩
def Fld.LANE_FLAG_ADAPT_FAIL : Fld := ⟨0xE0060, 4, 4⟩
def Fld.LANE_ERR_CODE (i : Nat) : Fld := ⟨0xE0070 + 0x4 * i, 0, 16⟩
def Fld.ETH_CFG_PRP (p : Nat) : Fld := ⟨0xF0000 + 0x10000 * p, 31, 1⟩
def Fld.ETH_CFG_AN (p : Nat) : Fld := ⟨0xF0000 + 0x10000 * p, 4, 1⟩
def Fld.ETH_CFG_MODE (p : Nat) : Fld := ⟨0xF0000 + 0x10000 * p, 0, 2⟩
def Fld.ETH_MACLO_MAC (p : Nat) : Fld := ⟨0xF0004 + 0x10000 * p, 0, 32⟩
def Fld.ETH_MACHI_MAC (p : Nat) : Fld := ⟨0xF0008 + 0x10000 * p, 0, 16⟩
def Fld.ETH_IP_ADDR (p : Nat) : Fld := ⟨0xF000C + 0x10000 * p, 0, 32⟩
def Fld.ETH_MASK_ADDR (p : Nat) : Fld := ⟨0xF0010 + 0x10000 * p, 0, 32⟩
def Fld.ETH_GW_ADDR (p : Nat) : Fld := ⟨0xF0014 + 0x10000 * p, 0, 32⟩
def Fld.ETH_VLAN_EN (p : Nat) : Fld := ⟨0xF0018 + 0x10000 * p, 31, 1⟩
def Fld.ETH_VLAN_PCP (p : Nat) : Fld := ⟨0xF0018 + 0x10000 * p, 13, 3⟩
def Fld.ETH_VLAN_VID (p : Nat) : Fld := ⟨0xF0018 + 0x10000 * p, 0, 12⟩
def Fld.ETH_PDST_ADDR (p : Nat) : Fld := ⟨0xF0020 + 0x10000 * p, 0, 32⟩
def Fld.ETH_LDST_ADDR (p : Nat) : Fld := ⟨0xF0024 + 0x10000 * p, 0, 32⟩
def Fld.ETH_PORTS_PPORT (p : Nat) : Fld := ⟨0xF0028 + 0x10000 * p, 16, 16⟩
def Fld.ETH_PORTS_LPORT (p : Nat) : Fld := ⟨0xF0028 + 0x10000 * p, 0, 16⟩
def Fld.ETH_SPORT_SPORT (p : Nat) : Fld := ⟨0xF002C + 0x10000 * p, 0, 16⟩
def Fld.ETH_DSCP_PTP (p : Nat) : Fld := ⟨0xF0030 + 0x10000 * p, 24, 6⟩
def Fld.ETH_DSCP_LRS (p : Nat) : Fld := ⟨0xF0030 + 0x10000 * p, 16, 6⟩
def Fld.ETH_DSCP_AMP (p : Nat) : Fld := ⟨0xF0030 + 0x10000 * p, 8, 6⟩
def Fld.ETH_DSCP_PTS (p : Nat) : Fld := ⟨0xF0030 + 0x10000 * p, 0, 6⟩
def Fld.ETH_TTL_TTL (p : Nat) : Fld := ⟨0xF0034 + 0x10000 * p, 0, 8⟩
def Fld.ETH_USER_LAST (p : Nat) : Fld := ⟨0xF0038 + 0x10000 * p, 16, 16⟩
def Fld.ETH_USER_FIRST (p : Nat) : Fld := ⟨0xF0038 + 0x10000 * p, 0, 16⟩
def Fld.ETH_ASYM_I_PS (p : Nat) : Fld := ⟨0xF0040 + 0x10000 * p, 0, 32⟩
def Fld.ETH_ASYM_E_PS (p : Nat) : Fld := ⟨0xF0044 + 0x10000 * p, 0, 32⟩
def Fld.ETH_STAT_PRP_ACTIVE (p : Nat) : Fld := ⟨0xF0050 + 0x10000 * p, 2, 1⟩
def Fld.ETH_STAT_AN_DONE (p : Nat) : Fld := ⟨0xF0050 + 0x10000 * p, 1, 1⟩
def Fld.ETH_STAT_LINK (p : Nat) : Fld := ⟨0xF0050 + 0x10000 * p, 0, 1⟩
def Fld.ETH_FLAG_PRP_CFG (p : Nat) : Fld := ⟨0xF0054 + 0x10000 * p, 5, 1⟩
def Fld.ETH_FLAG_TXTS_LOST (p : Nat) : Fld := ⟨0xF0054 + 0x10000 * p, 4, 1⟩
def Fld.ETH_FLAG_QDROP (p : Nat) : Fld := ⟨0xF0054 + 0x10000 * p, 3, 1⟩
def Fld.ETH_FLAG_SPEED_ERR (p : Nat) : Fld := ⟨0xF0054 + 0x10000 * p, 2, 1⟩
def Fld.ETH_FLAG_FCS (p : Nat) : Fld := ⟨0xF0054 + 0x10000 * p, 1, 1⟩
def Fld.ETH_FLAG_LINKLOST (p : Nat) : Fld := ⟨0xF0054 + 0x10000 * p, 0, 1⟩
def Fld.ETH_QSTAT_Q2 (p : Nat) : Fld := ⟨0xF0060 + 0x10000 * p, 16, 5⟩
def Fld.ETH_QSTAT_Q1 (p : Nat) : Fld := ⟨0xF0060 + 0x10000 * p, 8, 5⟩
def Fld.ETH_QSTAT_Q0 (p : Nat) : Fld := ⟨0xF0060 + 0x10000 * p, 0, 6⟩
def Fld.ETH_QSEL_Q (p : Nat) : Fld := ⟨0xF0064 + 0x10000 * p, 0, 2⟩
def Fld.ETH_QPOP_POP (p : Nat) : Fld := ⟨0xF0068 + 0x10000 * p, 0, 1⟩
def Fld.ETH_TXCMD_GO (p : Nat) : Fld := ⟨0xF0070 + 0x10000 * p, 31, 1⟩
def Fld.ETH_TXCMD_TSREQ (p : Nat) : Fld := ⟨0xF0070 + 0x10000 * p, 30, 1⟩
def Fld.ETH_TXCMD_LEN (p : Nat) : Fld := ⟨0xF0070 + 0x10000 * p, 0, 11⟩
def Fld.ETH_TXSTAT_BUSY (p : Nat) : Fld := ⟨0xF0074 + 0x10000 * p, 0, 1⟩
def Fld.ETH_TXTS0_VALID (p : Nat) : Fld := ⟨0xF0078 + 0x10000 * p, 31, 1⟩
def Fld.ETH_TXTS0_MSGTYPE (p : Nat) : Fld := ⟨0xF0078 + 0x10000 * p, 24, 4⟩
def Fld.ETH_TXTS0_SEQID (p : Nat) : Fld := ⟨0xF0078 + 0x10000 * p, 0, 16⟩
def Fld.ETH_TXTS1_NS (p : Nat) : Fld := ⟨0xF007C + 0x10000 * p, 0, 32⟩
def Fld.ETH_TXTS2_FRAC (p : Nat) : Fld := ⟨0xF0080 + 0x10000 * p, 16, 16⟩
def Fld.ETH_TXTS2_WRAPS (p : Nat) : Fld := ⟨0xF0080 + 0x10000 * p, 0, 16⟩
def Fld.ETH_CNT_RX_FRAMES (p : Nat) : Fld := ⟨0xF0090 + 0x10000 * p, 0, 32⟩
def Fld.ETH_CNT_TX_FRAMES (p : Nat) : Fld := ⟨0xF0094 + 0x10000 * p, 0, 32⟩
def Fld.ETH_CNT_RXBAD_FCS (p : Nat) : Fld := ⟨0xF0098 + 0x10000 * p, 16, 16⟩
def Fld.ETH_CNT_RXBAD_FILT (p : Nat) : Fld := ⟨0xF0098 + 0x10000 * p, 0, 16⟩
def Fld.ETH_CNT_DROP_HW (p : Nat) : Fld := ⟨0xF009C + 0x10000 * p, 24, 8⟩
def Fld.ETH_CNT_DROP_Q2 (p : Nat) : Fld := ⟨0xF009C + 0x10000 * p, 16, 8⟩
def Fld.ETH_CNT_DROP_Q1 (p : Nat) : Fld := ⟨0xF009C + 0x10000 * p, 8, 8⟩
def Fld.ETH_CNT_DROP_Q0 (p : Nat) : Fld := ⟨0xF009C + 0x10000 * p, 0, 8⟩
def Fld.PRP_SUP_FORGET : Fld := ⟨0xF00A0, 16, 16⟩
def Fld.PRP_SUP_INTV : Fld := ⟨0xF00A0, 0, 16⟩
def Fld.PRP_SEQ_SEQ : Fld := ⟨0xF00A4, 0, 16⟩
def Fld.PRP_DUP_COUNT : Fld := ⟨0xF00A8, 0, 32⟩
def Fld.PRP_CNT_WLAN : Fld := ⟨0xF00AC, 16, 16⟩
def Fld.PRP_CNT_NOTRACK : Fld := ⟨0xF00AC, 0, 16⟩
def Fld.ETH_QHEAD_DATA (p : Nat) (i : Nat) : Fld := ⟨0xF1000 + 0x10000 * p + 0x4 * i, 0, 32⟩
def Fld.ETH_TXBUF_DATA (p : Nat) (i : Nat) : Fld := ⟨0xF1800 + 0x10000 * p + 0x4 * i, 0, 32⟩
def Fld.TIME_NS_NS : Fld := ⟨0x110000, 0, 32⟩
def Fld.TIME_FRAC_FRAC : Fld := ⟨0x110004, 0, 32⟩
def Fld.TIME_INC_INC : Fld := ⟨0x110008, 0, 32⟩
def Fld.TIME_OFSF_FRAC : Fld := ⟨0x11000C, 0, 32⟩
def Fld.TIME_OFS_NS : Fld := ⟨0x110010, 0, 32⟩
def Fld.TIME_CTRL_PPSW : Fld := ⟨0x110014, 8, 16⟩
def Fld.TIME_CTRL_PPS_EN : Fld := ⟨0x110014, 1, 1⟩
def Fld.TIME_CTRL_VALID : Fld := ⟨0x110014, 0, 1⟩
def Fld.TIME_PPS_TARGET : Fld := ⟨0x110018, 0, 32⟩
def Fld.TIME_STAT_WRAPS : Fld := ⟨0x11001C, 16, 16⟩
def Fld.TIME_STAT_PPS_ARMED : Fld := ⟨0x11001C, 1, 1⟩
def Fld.TIME_STAT_OFS_PEND : Fld := ⟨0x11001C, 0, 1⟩
def Fld.TIME_FLAG_PPS_MISS : Fld := ⟨0x110020, 3, 1⟩
def Fld.TIME_FLAG_INC_CLAMP : Fld := ⟨0x110020, 2, 1⟩
def Fld.TIME_FLAG_STEP : Fld := ⟨0x110020, 1, 1⟩
def Fld.TIME_FLAG_WRAP : Fld := ⟨0x110020, 0, 1⟩
def Fld.AMP_CFG_PORT : Fld := ⟨0x130000, 16, 16⟩
def Fld.AMP_CFG_DWL : Fld := ⟨0x130000, 2, 1⟩
def Fld.AMP_CFG_ETH1 : Fld := ⟨0x130000, 1, 1⟩
def Fld.AMP_CFG_ETH0 : Fld := ⟨0x130000, 0, 1⟩
def Fld.AMP_STATE_SAFE_CAUSE : Fld := ⟨0x130004, 8, 5⟩
def Fld.AMP_STATE_PEND_START : Fld := ⟨0x130004, 4, 1⟩
def Fld.AMP_STATE_STATE : Fld := ⟨0x130004, 0, 3⟩
def Fld.AMP_CNT0_RATE : Fld := ⟨0x130008, 16, 16⟩
def Fld.AMP_CNT0_QUEUE : Fld := ⟨0x130008, 0, 16⟩
def Fld.AMP_CNT1_BADFMT : Fld := ⟨0x13000C, 16, 16⟩
def Fld.AMP_CNT1_NOSRC : Fld := ⟨0x13000C, 0, 16⟩
def Fld.AMP_CNT2_MSPIBAD : Fld := ⟨0x130010, 16, 16⟩
def Fld.AMP_CNT2_WRONGST : Fld := ⟨0x130010, 0, 16⟩
def Fld.AMP_QSTAT_FILL : Fld := ⟨0x130014, 0, 6⟩
def Fld.AMP_FLAG_LOCKOUT : Fld := ⟨0x130018, 4, 1⟩
def Fld.AMP_FLAG_AUTH_FAIL : Fld := ⟨0x130018, 3, 1⟩
def Fld.AMP_FLAG_MSPI_RDY : Fld := ⟨0x130018, 2, 1⟩
def Fld.AMP_FLAG_DROP : Fld := ⟨0x130018, 1, 1⟩
def Fld.AMP_FLAG_STATE : Fld := ⟨0x130018, 0, 1⟩
def Fld.GUARD_CFG_RESTART : Fld := ⟨0x140000, 18, 1⟩
def Fld.GUARD_CFG_ANTIV : Fld := ⟨0x140000, 17, 1⟩
def Fld.GUARD_CFG_CHECK : Fld := ⟨0x140000, 16, 1⟩
def Fld.GUARD_CFG_CWIN : Fld := ⟨0x140000, 12, 3⟩
def Fld.GUARD_CFG_NM1 : Fld := ⟨0x140000, 8, 2⟩
def Fld.GUARD_CFG_M : Fld := ⟨0x140000, 0, 8⟩
def Fld.GUARD_DISC_DISC : Fld := ⟨0x140004, 0, 11⟩
def Fld.GUARD_PULSE_OPI : Fld := ⟨0x140008, 16, 16⟩
def Fld.GUARD_PULSE_OPW : Fld := ⟨0x140008, 0, 9⟩
def Fld.GUARD_EDM_EDM_T : Fld := ⟨0x14000C, 0, 9⟩
def Fld.GUARD_DET_MINSHOTS : Fld := ⟨0x140010, 0, 8⟩
def Fld.GUARD_REF_REF (i : Nat) : Fld := ⟨0x140014 + 0x4 * i, 0, 32⟩
def Fld.GUARD_STAT_OFFWHY : Fld := ⟨0x140040, 16, 7⟩
def Fld.GUARD_STAT_EDM : Fld := ⟨0x140040, 11, 1⟩
def Fld.GUARD_STAT_RST_WAIT : Fld := ⟨0x140040, 10, 1⟩
def Fld.GUARD_STAT_CHANGE_OPEN : Fld := ⟨0x140040, 9, 1⟩
def Fld.GUARD_STAT_DIRTY : Fld := ⟨0x140040, 8, 1⟩
def Fld.GUARD_STAT_WARN : Fld := ⟨0x140040, 7, 1⟩
def Fld.GUARD_STAT_DETPAR : Fld := ⟨0x140040, 6, 1⟩
def Fld.GUARD_STAT_CLEAR : Fld := ⟨0x140040, 4, 2⟩
def Fld.GUARD_STAT_EN : Fld := ⟨0x140040, 3, 1⟩
def Fld.GUARD_STAT_RB_B : Fld := ⟨0x140040, 2, 1⟩
def Fld.GUARD_STAT_RB_A : Fld := ⟨0x140040, 1, 1⟩
def Fld.GUARD_STAT_ON : Fld := ⟨0x140040, 0, 1⟩
def Fld.GUARD_FAULT_CRC_ERR : Fld := ⟨0x140044, 9, 1⟩
def Fld.GUARD_FAULT_DISC_FAULT : Fld := ⟨0x140044, 8, 1⟩
def Fld.GUARD_FAULT_FCODE : Fld := ⟨0x140044, 4, 4⟩
def Fld.GUARD_FAULT_SOUT_FAULT : Fld := ⟨0x140044, 0, 1⟩
def Fld.GUARD_FLAG_DETPAR : Fld := ⟨0x140048, 4, 1⟩
def Fld.GUARD_FLAG_DISC : Fld := ⟨0x140048, 3, 1⟩
def Fld.GUARD_FLAG_FAULT : Fld := ⟨0x140048, 2, 1⟩
def Fld.GUARD_FLAG_CONF : Fld := ⟨0x140048, 1, 1⟩
def Fld.GUARD_FLAG_INTR : Fld := ⟨0x140048, 0, 1⟩
def Fld.GUARD_CRC_CRC : Fld := ⟨0x14004C, 0, 32⟩
def Fld.GUARD_CRCREF_CRC : Fld := ⟨0x140050, 0, 32⟩
def Fld.GUARD_LOGCNT_COUNT : Fld := ⟨0x140054, 0, 32⟩
def Fld.GUARD_CNT_TRIPS : Fld := ⟨0x140058, 16, 16⟩
def Fld.GUARD_CNT_DISCS : Fld := ⟨0x140058, 0, 16⟩
def Fld.GUARD_PW_DATA (i : Nat) (j : Nat) : Fld := ⟨0x140100 + 0x40 * i + 0x4 * j, 0, 32⟩
def Fld.CASK_ID_SHORT : Fld := ⟨0x158000, 0, 32⟩
def Fld.CASK_SHA_SHA (i : Nat) : Fld := ⟨0x158004 + 0x4 * i, 0, 32⟩
def Fld.CASK_MEC_COUNT : Fld := ⟨0x158024, 0, 32⟩
def Fld.CASK_STAT_REFUSED : Fld := ⟨0x158028, 16, 16⟩
def Fld.CASK_STAT_SEQ_END : Fld := ⟨0x158028, 8, 1⟩
def Fld.CASK_STAT_DETCHG : Fld := ⟨0x158028, 7, 1⟩
def Fld.CASK_STAT_KEYSET : Fld := ⟨0x158028, 6, 1⟩
def Fld.CASK_STAT_RUNMOD : Fld := ⟨0x158028, 5, 1⟩
def Fld.CASK_STAT_SERVICE : Fld := ⟨0x158028, 2, 1⟩
def Fld.CASK_STAT_SEALED : Fld := ⟨0x158028, 1, 1⟩
def Fld.CASK_STAT_IDVALID : Fld := ⟨0x158028, 0, 1⟩
def Fld.CASK_SEQ_NEXT : Fld := ⟨0x15802C, 0, 32⟩
def Fld.CASK_KCV_KCV : Fld := ⟨0x158030, 0, 24⟩
def Fld.CASK_LRSHDR_NDATA : Fld := ⟨0x151000, 16, 4⟩
def Fld.CASK_LRSHDR_KIND : Fld := ⟨0x151000, 0, 16⟩
def Fld.CASK_LRSTS_TS : Fld := ⟨0x151004, 0, 32⟩
def Fld.CASK_LRSDATA_DATA (i : Nat) : Fld := ⟨0x151008 + 0x4 * i, 0, 32⟩
def Fld.CASK_LRSGO_GO : Fld := ⟨0x151040, 0, 1⟩
def Fld.CASK_LRSSTAT_KIND_ERR : Fld := ⟨0x151044, 2, 1⟩
def Fld.CASK_LRSSTAT_BLOCKED : Fld := ⟨0x151044, 1, 1⟩
def Fld.CASK_LRSSTAT_BUSY : Fld := ⟨0x151044, 0, 1⟩
def Fld.CASK_DETREF_REF (i : Nat) : Fld := ⟨0x151E00 + 0x4 * i, 0, 32⟩
def Fld.DSP_STAT_START (c : Nat) : Fld := ⟨0x160000 + 0x10000 * c, 16, 2⟩
def Fld.DSP_STAT_LOADED (c : Nat) : Fld := ⟨0x160000 + 0x10000 * c, 8, 1⟩
def Fld.DSP_STAT_STATE (c : Nat) : Fld := ⟨0x160000 + 0x10000 * c, 0, 3⟩
def Fld.DSP_PC_PC (c : Nat) : Fld := ⟨0x160004 + 0x10000 * c, 0, 18⟩
def Fld.DSP_WDT_EN (c : Nat) : Fld := ⟨0x160010 + 0x10000 * c, 31, 1⟩
def Fld.DSP_WDT_TO (c : Nat) : Fld := ⟨0x160010 + 0x10000 * c, 0, 12⟩
def Fld.DSP_WDTKICK_KEY (c : Nat) : Fld := ⟨0x160014 + 0x10000 * c, 0, 32⟩
def Fld.DSP_WDTCNT_LEFT (c : Nat) : Fld := ⟨0x160018 + 0x10000 * c, 0, 12⟩
def Fld.DSP_ECC_CE (c : Nat) : Fld := ⟨0x160020 + 0x10000 * c, 16, 16⟩
def Fld.DSP_ECC_UE (c : Nat) : Fld := ⟨0x160020 + 0x10000 * c, 0, 16⟩
def Fld.DSP_ECCADDR_ADDR (c : Nat) : Fld := ⟨0x160024 + 0x10000 * c, 0, 32⟩
def Fld.DSP_MBOX_DATA (c : Nat) (i : Nat) : Fld := ⟨0x160040 + 0x10000 * c + 0x4 * i, 0, 32⟩
def Fld.DSP_TAPCFG_EN (c : Nat) : Fld := ⟨0x160080 + 0x10000 * c, 31, 1⟩
def Fld.DSP_TAPROWS_LO_ROWS (c : Nat) : Fld := ⟨0x160084 + 0x10000 * c, 0, 32⟩
def Fld.DSP_TAPROWS_HI_ROWS (c : Nat) : Fld := ⟨0x160088 + 0x10000 * c, 0, 32⟩
def Fld.DSP_TAPBASE_BASE (c : Nat) : Fld := ⟨0x16008C + 0x10000 * c, 3, 14⟩
def Fld.DSP_TAPSIZE_SIZE (c : Nat) : Fld := ⟨0x160090 + 0x10000 * c, 3, 15⟩
def Fld.DSP_TAPWR_OFS (c : Nat) : Fld := ⟨0x160094 + 0x10000 * c, 0, 32⟩
def Fld.DSP_TAPRD_OFS (c : Nat) : Fld := ⟨0x160098 + 0x10000 * c, 0, 32⟩
def Fld.DSP_TAPDROP_COUNT (c : Nat) : Fld := ⟨0x16009C + 0x10000 * c, 0, 16⟩
def Fld.DMA_SRC_ADDR (i : Nat) : Fld := ⟨0x170100 + 0x20 * i, 0, 32⟩
def Fld.DMA_DST_ADDR (i : Nat) : Fld := ⟨0x170104 + 0x20 * i, 0, 32⟩
def Fld.DMA_LEN_LEN (i : Nat) : Fld := ⟨0x170108 + 0x20 * i, 0, 16⟩
def Fld.DMA_CTRL_GO (i : Nat) : Fld := ⟨0x17010C + 0x20 * i, 31, 1⟩
def Fld.DMA_CTRL_BUSY (i : Nat) : Fld := ⟨0x17010C + 0x20 * i, 30, 1⟩
def Fld.DMA_CTRL_DONE (i : Nat) : Fld := ⟨0x17010C + 0x20 * i, 29, 1⟩
def Fld.DMA_CTRL_DSTINC (i : Nat) : Fld := ⟨0x17010C + 0x20 * i, 3, 1⟩
def Fld.DMA_CTRL_SRCINC (i : Nat) : Fld := ⟨0x17010C + 0x20 * i, 2, 1⟩
def Fld.DMA_CTRL_IRQ (i : Nat) : Fld := ⟨0x17010C + 0x20 * i, 1, 1⟩
def Fld.TOP_SUMMARY_SUM : Fld := ⟨0x10, 0, 27⟩
def Fld.TOP_RAW_RAW : Fld := ⟨0x14, 0, 27⟩
def Fld.TOP_EN_EN (i : Nat) : Fld := ⟨0x100 + 0x4 * i, 0, 32⟩
def Fld.TOP_EVCNT_COUNT (i : Nat) (j : Nat) : Fld := ⟨0x1000 + 0x80 * i + 0x4 * j, 0, 16⟩
def Fld.BUS_FRZ_FRZ : Fld := ⟨0x1A0000, 1, 8⟩
def Fld.BUS_FROZEN_FROZEN : Fld := ⟨0x1A0004, 1, 8⟩
def Fld.BUS_FRZADDR_ADDR (i : Nat) : Fld := ⟨0x1A0040 + 0x8 * i, 0, 32⟩
def Fld.BUS_FRZINFO_WRITE (i : Nat) : Fld := ⟨0x1A0044 + 0x8 * i, 31, 1⟩
def Fld.BUS_FRZINFO_CASK (i : Nat) : Fld := ⟨0x1A0044 + 0x8 * i, 3, 1⟩
def Fld.BUS_FRZINFO_GUARD (i : Nat) : Fld := ⟨0x1A0044 + 0x8 * i, 2, 1⟩
def Fld.BUS_FRZINFO_RWL (i : Nat) : Fld := ⟨0x1A0044 + 0x8 * i, 1, 1⟩
def Fld.BUS_FRZINFO_WIN (i : Nat) : Fld := ⟨0x1A0044 + 0x8 * i, 0, 1⟩
def Fld.LOG_NEWEST_COUNT : Fld := ⟨0x180200, 0, 32⟩
def Fld.LOG_HELD_QUEUE : Fld := ⟨0x180204, 16, 5⟩
def Fld.LOG_HELD_HELD : Fld := ⟨0x180204, 0, 11⟩
def Fld.LOG_FLAG_OPT_REF : Fld := ⟨0x180208, 4, 1⟩
def Fld.LOG_FLAG_FL_ERR : Fld := ⟨0x180208, 3, 1⟩
def Fld.LOG_FLAG_NVM_ERR : Fld := ⟨0x180208, 2, 1⟩
def Fld.LOG_FLAG_WRAP : Fld := ⟨0x180208, 1, 1⟩
def Fld.LOG_FLAG_ENTRY : Fld := ⟨0x180208, 0, 1⟩

end Sys2Proof.Machine
end

