-- ==== Sys2Proof/Machine/RegAddr.lean ====
section
/-!
DEFINITION. The bus address of every register, under the manual's own names (Table 19.5).
-/
namespace Sys2Proof.Machine

def Reg.TOP_ID : Nat := 0x0
def Reg.BUS_WIN_LO (i : Nat) (j : Nat) : Nat := 0x1A0100 + 0x40 * i + 0x8 * j
def Reg.BUS_WIN_HI (i : Nat) (j : Nat) : Nat := 0x1A0104 + 0x40 * i + 0x8 * j
def Reg.TOP_STRAP : Nat := 0x8
def Reg.TOP_PINTEST : Nat := 0xC
def Reg.CLK_STATUS : Nat := 0x20010
def Reg.PWR_STATUS : Nat := 0x20000
def Reg.PWR_FAULT : Nat := 0x20004
def Reg.RST_FUSE : Nat := 0x1000C
def Reg.RST_STATUS : Nat := 0x10000
def Reg.RST_CAUSE : Nat := 0x10004
def Reg.RST_COUNT : Nat := 0x10008
def Reg.RST_LOAD : Nat := 0x10010
def Reg.RST_PIN : Nat := 0x10014
def Reg.RST_BKP (i : Nat) : Nat := 0x10020 + 0x4 * i
def Reg.LDR_STATUS : Nat := 0x180000
def Reg.LDR_ERR_A : Nat := 0x180004
def Reg.LDR_ERR_B : Nat := 0x180008
def Reg.LDR_SEQ : Nat := 0x18000C
def Reg.FL_ADDR : Nat := 0x180040
def Reg.FL_CMD : Nat := 0x180044
def Reg.FL_STAT : Nat := 0x180048
def Reg.OPT_STAGE (i : Nat) : Nat := 0x180100 + 0x4 * i
def Reg.OPT_CMD : Nat := 0x180180
def Reg.OPT_STAT : Nat := 0x180184
def Reg.FL_BUF (i : Nat) : Nat := 0x181000 + 0x4 * i
def Reg.EMIT_CTRL : Nat := 0x30000
def Reg.EMIT_MON : Nat := 0x30004
def Reg.EMIT_PROBE : Nat := 0x30008
def Reg.EMIT_CHG : Nat := 0x30010
def Reg.EMIT_STRCFG (i : Nat) : Nat := 0x30020 + 0x4 * i
def Reg.EMIT_DSEED (i : Nat) : Nat := 0x30040 + 0x4 * i
def Reg.EMIT_DLFSR (i : Nat) : Nat := 0x30060 + 0x4 * i
def Reg.EMIT_LOOP (i : Nat) : Nat := 0x30080 + 0x4 * i
def Reg.EMIT_ECLASS (i : Nat) : Nat := 0x300A0 + 0x4 * i
def Reg.EMIT_DER (i : Nat) : Nat := 0x300C0 + 0x4 * i
def Reg.EMIT_DAC (i : Nat) : Nat := 0x300E0 + 0x4 * i
def Reg.EMIT_VBANK (i : Nat) : Nat := 0x30100 + 0x4 * i
def Reg.EMIT_LOST_LO : Nat := 0x30120
def Reg.EMIT_LOST_HI : Nat := 0x30124
def Reg.EMIT_LOSTCLR : Nat := 0x30128
def Reg.EMIT_FAULT : Nat := 0x30130
def Reg.EMIT_EMXSTAT : Nat := 0x30134
def Reg.EMIT_SHOTS (i : Nat) : Nat := 0x30140 + 0x4 * i
def Reg.EMIT_ECAL (i : Nat) : Nat := 0x30200 + 0x4 * i
def Reg.EMIT_EROW (i : Nat) (j : Nat) : Nat := 0x30300 + 0x8 * i + 0x4 * j
def Reg.EMIT_WLW (i : Nat) : Nat := 0x30500 + 0x4 * i
def Reg.EMIT_PATTAB (i : Nat) : Nat := 0x30600 + 0x4 * i
def Reg.SCAN_CTRL : Nat := 0x40000
def Reg.SCAN_SWEEP : Nat := 0x40004
def Reg.SCAN_RANGE : Nat := 0x40008
def Reg.SCAN_STARE : Nat := 0x4000C
def Reg.SCAN_PROF : Nat := 0x40010
def Reg.SCAN_HOLD : Nat := 0x40014
def Reg.SCAN_MINADV : Nat := 0x40018
def Reg.SCAN_MCAL : Nat := 0x4001C
def Reg.SCAN_MSNS : Nat := 0x40020
def Reg.SCAN_PLAN0 : Nat := 0x40028
def Reg.SCAN_PLAN1 : Nat := 0x4002C
def Reg.SCAN_ANGLE : Nat := 0x40040
def Reg.SCAN_SETP : Nat := 0x40044
def Reg.SCAN_STAT : Nat := 0x40048
def Reg.SCAN_FLAG : Nat := 0x4004C
def Reg.SCAN_CNT : Nat := 0x40050
def Reg.SCAN_PROFTAB (i : Nat) : Nat := 0x41000 + 0x4 * i
def Reg.KILN_CTRL : Nat := 0x50000
def Reg.KILN_PIN : Nat := 0x50004
def Reg.KILN_CLU : Nat := 0x50008
def Reg.KILN_ETA : Nat := 0x5000C
def Reg.KILN_TJMAX : Nat := 0x50010
def Reg.KILN_CHGWIN : Nat := 0x50014
def Reg.KILN_STR (i : Nat) : Nat := 0x50020 + 0x4 * i
def Reg.KILN_CHG (i : Nat) : Nat := 0x50040 + 0x4 * i
def Reg.KILN_TH (i : Nat) : Nat := 0x50060 + 0x4 * i
def Reg.KILN_TJ (i : Nat) : Nat := 0x50080 + 0x4 * i
def Reg.KILN_DT (i : Nat) : Nat := 0x500A0 + 0x4 * i
def Reg.KILN_BKT (i : Nat) : Nat := 0x500C0 + 0x4 * i
def Reg.KILN_EYECFG : Nat := 0x50100
def Reg.KILN_EYEWIN : Nat := 0x50104
def Reg.KILN_EYEFLAG : Nat := 0x50108
def Reg.KILN_EYEPEEK : Nat := 0x5010C
def Reg.KILN_EYESUM : Nat := 0x50110
def Reg.KILN_LAST : Nat := 0x50120
def Reg.KILN_LASTST : Nat := 0x50124
def Reg.KILN_LASTROWS_LO : Nat := 0x50128
def Reg.KILN_LASTROWS_HI : Nat := 0x5012C
def Reg.KILN_EYELIM (i : Nat) : Nat := 0x58000 + 0x4 * i
def Reg.RX_COINC : Nat := 0x60000
def Reg.RX_AMB : Nat := 0x60004
def Reg.RX_ATH (i : Nat) : Nat := 0x60064 + 0x4 * i
def Reg.RX_CAL : Nat := 0x60020
def Reg.RX_CALSTAT : Nat := 0x60024
def Reg.RX_BIAS : Nat := 0x60030
def Reg.RX_BIASTC : Nat := 0x60034
def Reg.RX_BIASST : Nat := 0x60038
def Reg.RX_STAT : Nat := 0x60040
def Reg.RX_FLAG : Nat := 0x60044
def Reg.RX_CAPCTL : Nat := 0x60050
def Reg.RX_MAPSEL : Nat := 0x60060
def Reg.RX_MAPW (i : Nat) : Nat := 0x60080 + 0x4 * i
def Reg.RX_LOSS (i : Nat) : Nat := 0x60100 + 0x4 * i
def Reg.RX_CAP (i : Nat) : Nat := 0x61000 + 0x4 * i
def Reg.RX_AMBC (i : Nat) : Nat := 0x62000 + 0x4 * i
def Reg.RX_TDC (i : Nat) : Nat := 0x63000 + 0x4 * i
def Reg.RX_SPADEN (i : Nat) : Nat := 0x68000 + 0x4 * i
def Reg.TIN_CFG (i : Nat) : Nat := 0x190000 + 0x4 * i
def Reg.TIN_QLO (i : Nat) : Nat := 0x190010 + 0x8 * i
def Reg.TIN_QHI (i : Nat) : Nat := 0x190014 + 0x8 * i
def Reg.TIN_STAT (i : Nat) : Nat := 0x190030 + 0x4 * i
def Reg.TIN_CNT (i : Nat) : Nat := 0x190040 + 0x4 * i
def Reg.TIN_FLAG : Nat := 0x190050
def Reg.TIN_DNL : Nat := 0x190054
def Reg.MASH_THIN : Nat := 0x70000
def Reg.MASH_ZOOM : Nat := 0x70004
def Reg.MASH_STAT : Nat := 0x70010
def Reg.MASH_FLAG : Nat := 0x70014
def Reg.MASH_ECC : Nat := 0x70018
def Reg.MASH_ECCADDR : Nat := 0x7001C
def Reg.MASH_SNAPCTL : Nat := 0x70020
def Reg.MASH_GATE (i : Nat) : Nat := 0x70100 + 0x4 * i
def Reg.MASH_THINK (i : Nat) : Nat := 0x70200 + 0x4 * i
def Reg.MASH_LATE (i : Nat) : Nat := 0x70300 + 0x4 * i
def Reg.MASH_SNAPBIN (i : Nat) : Nat := 0x74000 + 0x4 * i
def Reg.MASH_SNAPHDR (i : Nat) : Nat := 0x75000 + 0x4 * i
def Reg.MASH_HDR (i : Nat) (j : Nat) : Nat := 0x78000 + 0x20 * i + 0x4 * j
def Reg.LAU_CTRL : Nat := 0x80000
def Reg.LAU_THR : Nat := 0x80004
def Reg.LAU_TAPS0 : Nat := 0x80008
def Reg.LAU_TAPS1 : Nat := 0x8000C
def Reg.LAU_RAIN0 : Nat := 0x80010
def Reg.LAU_RAIN1 : Nat := 0x80014
def Reg.LAU_INTF : Nat := 0x80018
def Reg.LAU_SUN : Nat := 0x8001C
def Reg.LAU_HZD : Nat := 0x80020
def Reg.LAU_STAT : Nat := 0x80030
def Reg.LAU_FLAG : Nat := 0x80034
def Reg.LAU_FLD0 : Nat := 0x80038
def Reg.LAU_FLD1 : Nat := 0x8003C
def Reg.LAU_PEEKSEL : Nat := 0x80050
def Reg.LAU_PEEK (i : Nat) : Nat := 0x80060 + 0x8 * i
def Reg.LAU_PEEK_ODD (i : Nat) : Nat := 0x80064 + 0x8 * i
def Reg.LAU_INTFK (i : Nat) : Nat := 0x80100 + 0x4 * i
def Reg.LAU_RAINK (i : Nat) : Nat := 0x80200 + 0x4 * i
def Reg.CASK_CALCFG : Nat := 0x151F00
def Reg.CAL_TEMP (i : Nat) : Nat := 0x152000 + 0xC00 * i
def Reg.CAL_STR (i : Nat) (j : Nat) : Nat := 0x152010 + 0xC00 * i + 0x4 * j
def Reg.CAL_CH (i : Nat) (j : Nat) : Nat := 0x152400 + 0xC00 * i + 0x4 * j
def Reg.WORT_CTRL : Nat := 0x90000
def Reg.WORT_ETH : Nat := 0x90004
def Reg.WORT_BUF0 : Nat := 0x90008
def Reg.WORT_BUF1 : Nat := 0x9000C
def Reg.WORT_ANCH_CNT : Nat := 0x90010
def Reg.WORT_ANCH_SLO : Nat := 0x90014
def Reg.WORT_ANCH_NS : Nat := 0x90018
def Reg.WORT_ANCH_SHI : Nat := 0x9001C
def Reg.WORT_STAT : Nat := 0x90020
def Reg.WORT_FLAG : Nat := 0x90024
def Reg.WORT_CNT : Nat := 0x90028
def Reg.WORT_FRAME : Nat := 0x9002C
def Reg.WORT_ECC : Nat := 0x90030
def Reg.DWL_CTRL : Nat := 0x120000
def Reg.DWL_STAT : Nat := 0x120004
def Reg.DWL_CREDIT : Nat := 0x120008
def Reg.DWL_FLAG : Nat := 0x12000C
def Reg.DWL_CNT : Nat := 0x120010
def Reg.DWL_LRSCNT : Nat := 0x120014
def Reg.CTL_CTRL : Nat := 0xA0000
def Reg.CTL_STAT : Nat := 0xA0004
def Reg.CTL_EYE : Nat := 0xA0008
def Reg.CTL_LCFG (i : Nat) : Nat := 0xA0100 + 0x40 * i
def Reg.CTL_LKF (i : Nat) : Nat := 0xA0104 + 0x40 * i
def Reg.CTL_LKP (i : Nat) : Nat := 0xA0108 + 0x40 * i
def Reg.CTL_LKI (i : Nat) : Nat := 0xA010C + 0x40 * i
def Reg.CTL_LLIM (i : Nat) : Nat := 0xA0110 + 0x40 * i
def Reg.CTL_LSLEW (i : Nat) : Nat := 0xA0114 + 0x40 * i
def Reg.CTL_LSP (i : Nat) : Nat := 0xA0118 + 0x40 * i
def Reg.CTL_LFB (i : Nat) : Nat := 0xA011C + 0x40 * i
def Reg.CTL_LOUT (i : Nat) : Nat := 0xA0120 + 0x40 * i
def Reg.CTL_LINT (i : Nat) : Nat := 0xA0124 + 0x40 * i
def Reg.CTL_LSAT (i : Nat) : Nat := 0xA0128 + 0x40 * i
def Reg.CTL_CKF (i : Nat) (j : Nat) : Nat := 0xA0400 + 0x80 * i + 0x20 * j
def Reg.CTL_CKP (i : Nat) (j : Nat) : Nat := 0xA0404 + 0x80 * i + 0x20 * j
def Reg.CTL_CKI (i : Nat) (j : Nat) : Nat := 0xA0408 + 0x80 * i + 0x20 * j
def Reg.CTL_CSLEW (i : Nat) (j : Nat) : Nat := 0xA040C + 0x80 * i + 0x20 * j
def Reg.CTL_CSP (i : Nat) (j : Nat) : Nat := 0xA0410 + 0x80 * i + 0x20 * j
def Reg.CTL_COUT (i : Nat) (j : Nat) : Nat := 0xA0414 + 0x80 * i + 0x20 * j
def Reg.CTL_CINT (i : Nat) (j : Nat) : Nat := 0xA0418 + 0x80 * i + 0x20 * j
def Reg.CTL_CSAT (i : Nat) (j : Nat) : Nat := 0xA041C + 0x80 * i + 0x20 * j
def Reg.CTL_GRP (i : Nat) : Nat := 0xA0800 + 0x4 * i
def Reg.ADC0_CTRL : Nat := 0xB0000
def Reg.ADC0_STAT : Nat := 0xB0004
def Reg.ADC0_FLAG : Nat := 0xB0008
def Reg.ADC0_AXSEL : Nat := 0xB000C
def Reg.ADC0_SRC (i : Nat) : Nat := 0xB0010 + 0x4 * i
def Reg.ADC0_BG : Nat := 0xB0050
def Reg.ADC0_BGRES : Nat := 0xB0054
def Reg.ADC0_REQ (i : Nat) : Nat := 0xB0060 + 0x10 * i
def Reg.ADC0_REQT (i : Nat) : Nat := 0xB0064 + 0x10 * i
def Reg.ADC0_REQS (i : Nat) : Nat := 0xB0068 + 0x10 * i
def Reg.ADC0_REQTS (i : Nat) : Nat := 0xB006C + 0x10 * i
def Reg.ADC0_FIR : Nat := 0xB0100
def Reg.ADC0_FIRTHR : Nat := 0xB0104
def Reg.ADC0_FIRY : Nat := 0xB0108
def Reg.ADC0_EVLO : Nat := 0xB0110
def Reg.ADC0_EVHI : Nat := 0xB0114
def Reg.ADC0_EVSTAT : Nat := 0xB0118
def Reg.ADC0_RBUF (i : Nat) (j : Nat) : Nat := 0xB1000 + 0x800 * i + 0x4 * j
def Reg.ADC0_FIRCOEF (i : Nat) : Nat := 0xB3000 + 0x4 * i
def Reg.AFE_DEFA (i : Nat) : Nat := 0xC0000 + 0x8 * i
def Reg.AFE_DEFB (i : Nat) : Nat := 0xC0004 + 0x8 * i
def Reg.AFE_PAR (i : Nat) : Nat := 0xC0080 + 0x4 * i
def Reg.AFE_RES (i : Nat) : Nat := 0xC0100 + 0x4 * i
def Reg.AFE_RL (i : Nat) : Nat := 0xC0140 + 0x4 * i
def Reg.AFE_BIAS : Nat := 0xC0180
def Reg.AFE_MEXC : Nat := 0xC0184
def Reg.AFE_PMON : Nat := 0xC0188
def Reg.AFE_PGAIN : Nat := 0xC018C
def Reg.AFE_PVI : Nat := 0xC0190
def Reg.AFE_PWR : Nat := 0xC0194
def Reg.AFE_PWR1 : Nat := 0xC0198
def Reg.AFE_FLAG : Nat := 0xC01A0
def Reg.AFE_NTCTAB (i : Nat) : Nat := 0xC0200 + 0x4 * i
def Reg.THERM_CFG : Nat := 0xD0000
def Reg.THERM_EXT : Nat := 0xD0004
def Reg.THERM_LIM_A (i : Nat) : Nat := 0xD0010 + 0x8 * i
def Reg.THERM_LIM_B (i : Nat) : Nat := 0xD0014 + 0x8 * i
def Reg.THERM_STAT : Nat := 0xD0030
def Reg.THERM_CHG : Nat := 0xD0034
def Reg.THERM_FLAG : Nat := 0xD0038
def Reg.THERM_CNT : Nat := 0xD003C
def Reg.THERM_SUSP (i : Nat) : Nat := 0xD0040 + 0x4 * i
def Reg.THERM_T (i : Nat) : Nat := 0xD0100 + 0x4 * i
def Reg.LANE_CFG (i : Nat) : Nat := 0xE0010 + 0x4 * i
def Reg.LANE_STAT (i : Nat) : Nat := 0xE0020 + 0x4 * i
def Reg.LANE_EYE (i : Nat) : Nat := 0xE0030 + 0x4 * i
def Reg.LANE_EQ (i : Nat) : Nat := 0xE0040 + 0x4 * i
def Reg.LANE_FLAG : Nat := 0xE0060
def Reg.LANE_ERR (i : Nat) : Nat := 0xE0070 + 0x4 * i
def Reg.ETH_CFG (p : Nat) : Nat := 0xF0000 + 0x10000 * p
def Reg.ETH_MACLO (p : Nat) : Nat := 0xF0004 + 0x10000 * p
def Reg.ETH_MACHI (p : Nat) : Nat := 0xF0008 + 0x10000 * p
def Reg.ETH_IP (p : Nat) : Nat := 0xF000C + 0x10000 * p
def Reg.ETH_MASK (p : Nat) : Nat := 0xF0010 + 0x10000 * p
def Reg.ETH_GW (p : Nat) : Nat := 0xF0014 + 0x10000 * p
def Reg.ETH_VLAN (p : Nat) : Nat := 0xF0018 + 0x10000 * p
def Reg.ETH_PDST (p : Nat) : Nat := 0xF0020 + 0x10000 * p
def Reg.ETH_LDST (p : Nat) : Nat := 0xF0024 + 0x10000 * p
def Reg.ETH_PORTS (p : Nat) : Nat := 0xF0028 + 0x10000 * p
def Reg.ETH_SPORT (p : Nat) : Nat := 0xF002C + 0x10000 * p
def Reg.ETH_DSCP (p : Nat) : Nat := 0xF0030 + 0x10000 * p
def Reg.ETH_TTL (p : Nat) : Nat := 0xF0034 + 0x10000 * p
def Reg.ETH_USER (p : Nat) : Nat := 0xF0038 + 0x10000 * p
def Reg.ETH_ASYM_I (p : Nat) : Nat := 0xF0040 + 0x10000 * p
def Reg.ETH_ASYM_E (p : Nat) : Nat := 0xF0044 + 0x10000 * p
def Reg.ETH_STAT (p : Nat) : Nat := 0xF0050 + 0x10000 * p
def Reg.ETH_FLAG (p : Nat) : Nat := 0xF0054 + 0x10000 * p
def Reg.ETH_QSTAT (p : Nat) : Nat := 0xF0060 + 0x10000 * p
def Reg.ETH_QSEL (p : Nat) : Nat := 0xF0064 + 0x10000 * p
def Reg.ETH_QPOP (p : Nat) : Nat := 0xF0068 + 0x10000 * p
def Reg.ETH_TXCMD (p : Nat) : Nat := 0xF0070 + 0x10000 * p
def Reg.ETH_TXSTAT (p : Nat) : Nat := 0xF0074 + 0x10000 * p
def Reg.ETH_TXTS0 (p : Nat) : Nat := 0xF0078 + 0x10000 * p
def Reg.ETH_TXTS1 (p : Nat) : Nat := 0xF007C + 0x10000 * p
def Reg.ETH_TXTS2 (p : Nat) : Nat := 0xF0080 + 0x10000 * p
def Reg.ETH_CNT_RX (p : Nat) : Nat := 0xF0090 + 0x10000 * p
def Reg.ETH_CNT_TX (p : Nat) : Nat := 0xF0094 + 0x10000 * p
def Reg.ETH_CNT_RXBAD (p : Nat) : Nat := 0xF0098 + 0x10000 * p
def Reg.ETH_CNT_DROP (p : Nat) : Nat := 0xF009C + 0x10000 * p
def Reg.PRP_SUP : Nat := 0xF00A0
def Reg.PRP_SEQ : Nat := 0xF00A4
def Reg.PRP_DUP : Nat := 0xF00A8
def Reg.PRP_CNT : Nat := 0xF00AC
def Reg.ETH_QHEAD (p : Nat) (i : Nat) : Nat := 0xF1000 + 0x10000 * p + 0x4 * i
def Reg.ETH_TXBUF (p : Nat) (i : Nat) : Nat := 0xF1800 + 0x10000 * p + 0x4 * i
def Reg.TIME_NS : Nat := 0x110000
def Reg.TIME_FRAC : Nat := 0x110004
def Reg.TIME_INC : Nat := 0x110008
def Reg.TIME_OFSF : Nat := 0x11000C
def Reg.TIME_OFS : Nat := 0x110010
def Reg.TIME_CTRL : Nat := 0x110014
def Reg.TIME_PPS : Nat := 0x110018
def Reg.TIME_STAT : Nat := 0x11001C
def Reg.TIME_FLAG : Nat := 0x110020
def Reg.AMP_CFG : Nat := 0x130000
def Reg.AMP_STATE : Nat := 0x130004
def Reg.AMP_CNT0 : Nat := 0x130008
def Reg.AMP_CNT1 : Nat := 0x13000C
def Reg.AMP_CNT2 : Nat := 0x130010
def Reg.AMP_QSTAT : Nat := 0x130014
def Reg.AMP_FLAG : Nat := 0x130018
def Reg.GUARD_CFG : Nat := 0x140000
def Reg.GUARD_DISC : Nat := 0x140004
def Reg.GUARD_PULSE : Nat := 0x140008
def Reg.GUARD_EDM : Nat := 0x14000C
def Reg.GUARD_DET : Nat := 0x140010
def Reg.GUARD_REF (i : Nat) : Nat := 0x140014 + 0x4 * i
def Reg.GUARD_STAT : Nat := 0x140040
def Reg.GUARD_FAULT : Nat := 0x140044
def Reg.GUARD_FLAG : Nat := 0x140048
def Reg.GUARD_CRC : Nat := 0x14004C
def Reg.GUARD_CRCREF : Nat := 0x140050
def Reg.GUARD_LOGCNT : Nat := 0x140054
def Reg.GUARD_CNT : Nat := 0x140058
def Reg.GUARD_PW (i : Nat) (j : Nat) : Nat := 0x140100 + 0x40 * i + 0x4 * j
def Reg.CASK_ID : Nat := 0x158000
def Reg.CASK_SHA (i : Nat) : Nat := 0x158004 + 0x4 * i
def Reg.CASK_MEC : Nat := 0x158024
def Reg.CASK_STAT : Nat := 0x158028
def Reg.CASK_SEQ : Nat := 0x15802C
def Reg.CASK_KCV : Nat := 0x158030
def Reg.CASK_LRSHDR : Nat := 0x151000
def Reg.CASK_LRSTS : Nat := 0x151004
def Reg.CASK_LRSDATA (i : Nat) : Nat := 0x151008 + 0x4 * i
def Reg.CASK_LRSGO : Nat := 0x151040
def Reg.CASK_LRSSTAT : Nat := 0x151044
def Reg.CASK_DETREF (i : Nat) : Nat := 0x151E00 + 0x4 * i
def Reg.DSP_STAT (c : Nat) : Nat := 0x160000 + 0x10000 * c
def Reg.DSP_PC (c : Nat) : Nat := 0x160004 + 0x10000 * c
def Reg.DSP_WDT (c : Nat) : Nat := 0x160010 + 0x10000 * c
def Reg.DSP_WDTKICK (c : Nat) : Nat := 0x160014 + 0x10000 * c
def Reg.DSP_WDTCNT (c : Nat) : Nat := 0x160018 + 0x10000 * c
def Reg.DSP_ECC (c : Nat) : Nat := 0x160020 + 0x10000 * c
def Reg.DSP_ECCADDR (c : Nat) : Nat := 0x160024 + 0x10000 * c
def Reg.DSP_MBOX (c : Nat) (i : Nat) : Nat := 0x160040 + 0x10000 * c + 0x4 * i
def Reg.DSP_TAPCFG (c : Nat) : Nat := 0x160080 + 0x10000 * c
def Reg.DSP_TAPROWS_LO (c : Nat) : Nat := 0x160084 + 0x10000 * c
def Reg.DSP_TAPROWS_HI (c : Nat) : Nat := 0x160088 + 0x10000 * c
def Reg.DSP_TAPBASE (c : Nat) : Nat := 0x16008C + 0x10000 * c
def Reg.DSP_TAPSIZE (c : Nat) : Nat := 0x160090 + 0x10000 * c
def Reg.DSP_TAPWR (c : Nat) : Nat := 0x160094 + 0x10000 * c
def Reg.DSP_TAPRD (c : Nat) : Nat := 0x160098 + 0x10000 * c
def Reg.DSP_TAPDROP (c : Nat) : Nat := 0x16009C + 0x10000 * c
def Reg.DMA_SRC (i : Nat) : Nat := 0x170100 + 0x20 * i
def Reg.DMA_DST (i : Nat) : Nat := 0x170104 + 0x20 * i
def Reg.DMA_LEN (i : Nat) : Nat := 0x170108 + 0x20 * i
def Reg.DMA_CTRL (i : Nat) : Nat := 0x17010C + 0x20 * i
def Reg.TOP_SUMMARY : Nat := 0x10
def Reg.TOP_RAW : Nat := 0x14
def Reg.TOP_XFLAG : Nat := 0x18
def Reg.TOP_EN (i : Nat) : Nat := 0x100 + 0x4 * i
def Reg.TOP_EVCNT (i : Nat) (j : Nat) : Nat := 0x1000 + 0x80 * i + 0x4 * j
def Reg.BUS_FRZ : Nat := 0x1A0000
def Reg.BUS_FROZEN : Nat := 0x1A0004
def Reg.BUS_FRZADDR (i : Nat) : Nat := 0x1A0040 + 0x8 * i
def Reg.BUS_FRZINFO (i : Nat) : Nat := 0x1A0044 + 0x8 * i
def Reg.LOG_NEWEST : Nat := 0x180200
def Reg.LOG_HELD : Nat := 0x180204
def Reg.LOG_FLAG : Nat := 0x180208

end Sys2Proof.Machine
end

