-- ==== Sys2Proof/Machine/Sparse.lean ====
section
/-!
DEFINITION. Sparse maps: the one form in which the model holds registers, memories and tables. A map is a list of
(key, value) pairs with strictly rising keys and no entry equal to what an unlisted key reads as, so that equal maps
are equal data. What an unlisted key reads as is the argument `d`.
-/
namespace Sys2Proof.Machine

/-- A sparse map from numbers to `β`. -/
abbrev SMap (β : Type) := List (Nat × β)

/-- Reading key `k`: the listed value, else the default `d k`. -/
def SMap.get {β : Type} (d : Nat → β) : SMap β → Nat → β
  | [], k => d k
  | (k', v) :: m, k => if k' = k then v else SMap.get d m k

/-- The map without key `k`. -/
def SMap.erase {β : Type} : SMap β → Nat → SMap β
  | [], _ => []
  | (k', v) :: m, k => if k' = k then SMap.erase m k else (k', v) :: SMap.erase m k

/-- Insertion of `(k, v)` before the first larger key. -/
def SMap.insert {β : Type} : SMap β → Nat → β → SMap β
  | [], k, v => [(k, v)]
  | (k', v') :: m, k, v => if k < k' then (k, v) :: (k', v') :: m else (k', v') :: SMap.insert m k v

/-- Writing `v` at key `k`; writing what an unlisted key reads as removes the entry. -/
def SMap.set {β : Type} [DecidableEq β] (d : Nat → β) (m : SMap β) (k : Nat) (v : β) : SMap β :=
  if v = d k then SMap.erase m k else SMap.insert (SMap.erase m k) k v

/-- The canonical form: keys strictly rising above `lo`, no entry equal to its default. -/
def SMap.wfFrom {β : Type} [DecidableEq β] (d : Nat → β) : Option Nat → SMap β → Bool
  | _, [] => true
  | lo, (k, v) :: m => (match lo with | none => true | some l => decide (l < k)) && !decide (v = d k) && SMap.wfFrom d (some k) m

/-- The canonical form of a whole map. -/
def SMap.wf {β : Type} [DecidableEq β] (d : Nat → β) (m : SMap β) : Bool := SMap.wfFrom d none m

/-- A change of every listed value; entries that come to equal their default leave the map. -/
def SMap.mapV {β : Type} [DecidableEq β] (d : Nat → β) (f : β → β) (m : SMap β) : SMap β :=
  (m.map (fun p => (p.1, f p.2))).filter (fun p => p.2 ≠ d p.1)

end Sys2Proof.Machine
end

