-- ==== Sys2Proof/Machine/RegTable.lean ====
section
/-!
DEFINITION. The register map: every register of the field tables of spec/ (Tables 0.2, 1.8, 1.9, 2.8, 2.10, 3.3, 3.4, 3.6, 3.8, 4.7, 5.5, 6.7,
6.8, 7.5, 7.6, 8.5, 9.7, 9.8, 10.13, 11.6, 12.8-12.10, 13.7-13.9, 14.12, 15.7, 16.4, 16.5, 17.8 and
18.10-18.12), by block (R372, Table 19.5), with its offset, its instances, its reset value and the bits of each
access type (Table 0.4). A bit in none of the masks is reserved.
-/
namespace Sys2Proof.Machine

/-- One row of the register map: instance (i, j) lies at offset `off + s1 * i + s2 * j`, `i < n1`, `j < n2`.
The masks name the bits of each access type of R6; `reset` is the value after a level L0 reset. -/
structure RegRow where
  name : String
  off : Nat
  n1 : Nat
  s1 : Nat
  n2 : Nat
  s2 : Nat
  reset : BitVec 32
  rw : BitVec 32
  w1c : BitVec 32
  wo : BitVec 32
  rwl : BitVec 32
  cask : BitVec 32
  ro : BitVec 32
  deriving DecidableEq, Repr

/-- The registers of block 0, TOP. -/
def regRows0 : List RegRow :=
  [ { name := "TOP_ID", off := 0x0, n1 := 1, s1 := 0x4, n2 := 1, s2 := 4, reset := 0x10241100, rw := 0x0, w1c := 0x0, wo := 0x0, rwl := 0x0, cask := 0x0, ro := 0xFFFFFFFF }
  , { name := "TOP_STRAP", off := 0x8, n1 := 1, s1 := 0x4, n2 := 1, s2 := 4, reset := 0x0, rw := 0x0, w1c := 0x0, wo := 0x0, rwl := 0x0, cask := 0x0, ro := 0xBF }
  , { name := "TOP_PINTEST", off := 0xC, n1 := 1, s1 := 0x4, n2 := 1, s2 := 4, reset := 0x1F0000, rw := 0x0, w1c := 0x7, wo := 0x0, rwl := 0x0, cask := 0x0, ro := 0xFF1F0108 }
  , { name := "TOP_SUMMARY", off := 0x10, n1 := 1, s1 := 0x4, n2 := 1, s2 := 4, reset := 0x0, rw := 0x0, w1c := 0x0, wo := 0x0, rwl := 0x0, cask := 0x0, ro := 0x7FFFFFF }
  , { name := "TOP_RAW", off := 0x14, n1 := 1, s1 := 0x4, n2 := 1, s2 := 4, reset := 0x0, rw := 0x0, w1c := 0x0, wo := 0x0, rwl := 0x0, cask := 0x0, ro := 0x7FFFFFF }
  , { name := "TOP_XFLAG", off := 0x18, n1 := 1, s1 := 0x4, n2 := 1, s2 := 4, reset := 0x0, rw := 0x0, w1c := 0x3030F0F, wo := 0x0, rwl := 0x0, cask := 0x0, ro := 0x0 }
  , { name := "TOP_EN", off := 0x100, n1 := 1, s1 := 0x4, n2 := 1, s2 := 4, reset := 0x0, rw := 0xFFFFFFFF, w1c := 0x0, wo := 0x0, rwl := 0x0, cask := 0x0, ro := 0x0 }
  , { name := "TOP_EN", off := 0x104, n1 := 1, s1 := 0x4, n2 := 1, s2 := 4, reset := 0x0, rw := 0xFFFFFFFF, w1c := 0x0, wo := 0x0, rwl := 0x0, cask := 0x0, ro := 0x0 }
  , { name := "TOP_EN", off := 0x108, n1 := 1, s1 := 0x4, n2 := 1, s2 := 4, reset := 0x0, rw := 0xFFFFFFFF, w1c := 0x0, wo := 0x0, rwl := 0x0, cask := 0x0, ro := 0x0 }
  , { name := "TOP_EN", off := 0x10C, n1 := 1, s1 := 0x4, n2 := 1, s2 := 4, reset := 0x0, rw := 0xFFFFFFFF, w1c := 0x0, wo := 0x0, rwl := 0x0, cask := 0x0, ro := 0x0 }
  , { name := "TOP_EN", off := 0x110, n1 := 1, s1 := 0x4, n2 := 1, s2 := 4, reset := 0x0, rw := 0xFFFFFFFF, w1c := 0x0, wo := 0x0, rwl := 0x0, cask := 0x0, ro := 0x0 }
  , { name := "TOP_EN", off := 0x114, n1 := 1, s1 := 0x4, n2 := 1, s2 := 4, reset := 0x2, rw := 0xFFFFFFFD, w1c := 0x0, wo := 0x0, rwl := 0x0, cask := 0x0, ro := 0x2 }
  , { name := "TOP_EN", off := 0x118, n1 := 1, s1 := 0x4, n2 := 1, s2 := 4, reset := 0x0, rw := 0xFFFFFFFF, w1c := 0x0, wo := 0x0, rwl := 0x0, cask := 0x0, ro := 0x0 }
  , { name := "TOP_EN", off := 0x11C, n1 := 1, s1 := 0x4, n2 := 1, s2 := 4, reset := 0x0, rw := 0xFFFFFFFF, w1c := 0x0, wo := 0x0, rwl := 0x0, cask := 0x0, ro := 0x0 }
  , { name := "TOP_EN", off := 0x120, n1 := 1, s1 := 0x4, n2 := 1, s2 := 4, reset := 0x0, rw := 0xFFFFFFFF, w1c := 0x0, wo := 0x0, rwl := 0x0, cask := 0x0, ro := 0x0 }
  , { name := "TOP_EN", off := 0x124, n1 := 1, s1 := 0x4, n2 := 1, s2 := 4, reset := 0x0, rw := 0xFFFFFFFF, w1c := 0x0, wo := 0x0, rwl := 0x0, cask := 0x0, ro := 0x0 }
  , { name := "TOP_EN", off := 0x128, n1 := 1, s1 := 0x4, n2 := 1, s2 := 4, reset := 0x0, rw := 0xFFFFFFFF, w1c := 0x0, wo := 0x0, rwl := 0x0, cask := 0x0, ro := 0x0 }
  , { name := "TOP_EN", off := 0x12C, n1 := 1, s1 := 0x4, n2 := 1, s2 := 4, reset := 0x0, rw := 0xFFFFFFFF, w1c := 0x0, wo := 0x0, rwl := 0x0, cask := 0x0, ro := 0x0 }
  , { name := "TOP_EN", off := 0x130, n1 := 1, s1 := 0x4, n2 := 1, s2 := 4, reset := 0x0, rw := 0xFFFFFFFF, w1c := 0x0, wo := 0x0, rwl := 0x0, cask := 0x0, ro := 0x0 }
  , { name := "TOP_EN", off := 0x134, n1 := 1, s1 := 0x4, n2 := 1, s2 := 4, reset := 0x0, rw := 0xFFFFFFFF, w1c := 0x0, wo := 0x0, rwl := 0x0, cask := 0x0, ro := 0x0 }
  , { name := "TOP_EN", off := 0x138, n1 := 1, s1 := 0x4, n2 := 1, s2 := 4, reset := 0x0, rw := 0xFFFFFFFF, w1c := 0x0, wo := 0x0, rwl := 0x0, cask := 0x0, ro := 0x0 }
  , { name := "TOP_EN", off := 0x13C, n1 := 1, s1 := 0x4, n2 := 1, s2 := 4, reset := 0x0, rw := 0xFFFFFFFF, w1c := 0x0, wo := 0x0, rwl := 0x0, cask := 0x0, ro := 0x0 }
  , { name := "TOP_EN", off := 0x140, n1 := 1, s1 := 0x4, n2 := 1, s2 := 4, reset := 0x0, rw := 0xFFFFFFFF, w1c := 0x0, wo := 0x0, rwl := 0x0, cask := 0x0, ro := 0x0 }
  , { name := "TOP_EN", off := 0x144, n1 := 1, s1 := 0x4, n2 := 1, s2 := 4, reset := 0x0, rw := 0xFFFFFFFF, w1c := 0x0, wo := 0x0, rwl := 0x0, cask := 0x0, ro := 0x0 }
  , { name := "TOP_EN", off := 0x148, n1 := 1, s1 := 0x4, n2 := 1, s2 := 4, reset := 0x0, rw := 0xFFFFFFFF, w1c := 0x0, wo := 0x0, rwl := 0x0, cask := 0x0, ro := 0x0 }
  , { name := "TOP_EN", off := 0x14C, n1 := 1, s1 := 0x4, n2 := 1, s2 := 4, reset := 0x0, rw := 0xFFFFFFFF, w1c := 0x0, wo := 0x0, rwl := 0x0, cask := 0x0, ro := 0x0 }
  , { name := "TOP_EN", off := 0x150, n1 := 1, s1 := 0x4, n2 := 1, s2 := 4, reset := 0x0, rw := 0xFFFFFFFF, w1c := 0x0, wo := 0x0, rwl := 0x0, cask := 0x0, ro := 0x0 }
  , { name := "TOP_EN", off := 0x154, n1 := 1, s1 := 0x4, n2 := 1, s2 := 4, reset := 0x0, rw := 0xFFFFFFFF, w1c := 0x0, wo := 0x0, rwl := 0x0, cask := 0x0, ro := 0x0 }
  , { name := "TOP_EN", off := 0x158, n1 := 1, s1 := 0x4, n2 := 1, s2 := 4, reset := 0x0, rw := 0xFFFFFFFF, w1c := 0x0, wo := 0x0, rwl := 0x0, cask := 0x0, ro := 0x0 }
  , { name := "TOP_EN", off := 0x15C, n1 := 1, s1 := 0x4, n2 := 1, s2 := 4, reset := 0x0, rw := 0xFFFFFFFF, w1c := 0x0, wo := 0x0, rwl := 0x0, cask := 0x0, ro := 0x0 }
  , { name := "TOP_EN", off := 0x160, n1 := 1, s1 := 0x4, n2 := 1, s2 := 4, reset := 0x0, rw := 0xFFFFFFFF, w1c := 0x0, wo := 0x0, rwl := 0x0, cask := 0x0, ro := 0x0 }
  , { name := "TOP_EN", off := 0x164, n1 := 1, s1 := 0x4, n2 := 1, s2 := 4, reset := 0x0, rw := 0xFFFFFFFF, w1c := 0x0, wo := 0x0, rwl := 0x0, cask := 0x0, ro := 0x0 }
  , { name := "TOP_EN", off := 0x168, n1 := 1, s1 := 0x4, n2 := 1, s2 := 4, reset := 0x1FE, rw := 0xFFFFFE01, w1c := 0x0, wo := 0x0, rwl := 0x0, cask := 0x0, ro := 0x1FE }
  , { name := "TOP_EVCNT", off := 0x1000, n1 := 27, s1 := 0x80, n2 := 32, s2 := 4, reset := 0x0, rw := 0x0, w1c := 0x0, wo := 0x0, rwl := 0x0, cask := 0x0, ro := 0xFFFF } ]

/-- The registers of block 1, RST. -/
def regRows1 : List RegRow :=
  [ { name := "RST_FUSE", off := 0xC, n1 := 1, s1 := 0x4, n2 := 1, s2 := 4, reset := 0x19A9680, rw := 0x0, w1c := 0x0, wo := 0x0, rwl := 0x0, cask := 0x0, ro := 0x1FFFFFF }
  , { name := "RST_STATUS", off := 0x0, n1 := 1, s1 := 0x4, n2 := 1, s2 := 4, reset := 0x0, rw := 0x0, w1c := 0x0, wo := 0x0, rwl := 0x0, cask := 0x0, ro := 0xFF0303 }
  , { name := "RST_CAUSE", off := 0x4, n1 := 1, s1 := 0x4, n2 := 1, s2 := 4, reset := 0x1, rw := 0x0, w1c := 0x3FFF, wo := 0x0, rwl := 0x0, cask := 0x0, ro := 0x0 }
  , { name := "RST_COUNT", off := 0x8, n1 := 1, s1 := 0x4, n2 := 1, s2 := 4, reset := 0x0, rw := 0x0, w1c := 0x0, wo := 0x0, rwl := 0x0, cask := 0x0, ro := 0xFFFFFFFF }
  , { name := "RST_LOAD", off := 0x10, n1 := 1, s1 := 0x4, n2 := 1, s2 := 4, reset := 0x0, rw := 0x0, w1c := 0x0, wo := 0x0, rwl := 0x0, cask := 0x0, ro := 0xC7 }
  , { name := "RST_PIN", off := 0x14, n1 := 1, s1 := 0x4, n2 := 1, s2 := 4, reset := 0xA, rw := 0x0, w1c := 0x200, wo := 0x0, rwl := 0x0, cask := 0x0, ro := 0x1FF }
  , { name := "RST_BKP", off := 0x20, n1 := 8, s1 := 0x4, n2 := 1, s2 := 4, reset := 0x0, rw := 0xFFFFFFFF, w1c := 0x0, wo := 0x0, rwl := 0x0, cask := 0x0, ro := 0x0 } ]

/-- The registers of block 2, PWR/CLK. -/
def regRows2 : List RegRow :=
  [ { name := "CLK_STATUS", off := 0x10, n1 := 1, s1 := 0x4, n2 := 1, s2 := 4, reset := 0x0, rw := 0x0, w1c := 0x62, wo := 0x0, rwl := 0x0, cask := 0x0, ro := 0x1D }
  , { name := "PWR_STATUS", off := 0x0, n1 := 1, s1 := 0x4, n2 := 1, s2 := 4, reset := 0x0, rw := 0x0, w1c := 0x0, wo := 0x0, rwl := 0x0, cask := 0x0, ro := 0x17F }
  , { name := "PWR_FAULT", off := 0x4, n1 := 1, s1 := 0x4, n2 := 1, s2 := 4, reset := 0x0, rw := 0x0, w1c := 0x80, wo := 0x0, rwl := 0x0, cask := 0x0, ro := 0x30F } ]

/-- The registers of block 3, EMIT. -/
def regRows3 : List RegRow :=
  [ { name := "EMIT_CTRL", off := 0x0, n1 := 1, s1 := 0x4, n2 := 1, s2 := 4, reset := 0x10, rw := 0x0, w1c := 0x0, wo := 0x0, rwl := 0xFF30, cask := 0x0, ro := 0x0 }
  , { name := "EMIT_MON", off := 0x4, n1 := 1, s1 := 0x4, n2 := 1, s2 := 4, reset := 0x10000008, rw := 0xFF0FFF3F, w1c := 0x0, wo := 0x0, rwl := 0x0, cask := 0x0, ro := 0x0 }
  , { name := "EMIT_PROBE", off := 0x8, n1 := 1, s1 := 0x4, n2 := 1, s2 := 4, reset := 0xC800, rw := 0xFF00, w1c := 0x0, wo := 0x0, rwl := 0x0, cask := 0x0, ro := 0x0 }
  , { name := "EMIT_CHG", off := 0x10, n1 := 1, s1 := 0x4, n2 := 1, s2 := 4, reset := 0xFA06400, rw := 0x0, w1c := 0x0, wo := 0x0, rwl := 0xFFFFF00, cask := 0x0, ro := 0x0 }
  , { name := "EMIT_STRCFG", off := 0x20, n1 := 8, s1 := 0x4, n2 := 1, s2 := 4, reset := 0x3E80000, rw := 0xFFFFFFFF, w1c := 0x0, wo := 0x0, rwl := 0x0, cask := 0x0, ro := 0x0 }
  , { name := "EMIT_DSEED", off := 0x40, n1 := 8, s1 := 0x4, n2 := 1, s2 := 4, reset := 0x1, rw := 0x0, w1c := 0x0, wo := 0x0, rwl := 0xFFFF, cask := 0x0, ro := 0x0 }
  , { name := "EMIT_DLFSR", off := 0x60, n1 := 8, s1 := 0x4, n2 := 1, s2 := 4, reset := 0x1, rw := 0x0, w1c := 0x0, wo := 0x0, rwl := 0x0, cask := 0x0, ro := 0xFFFF }
  , { name := "EMIT_LOOP", off := 0x80, n1 := 8, s1 := 0x4, n2 := 1, s2 := 4, reset := 0x0, rw := 0x0, w1c := 0x0, wo := 0x0, rwl := 0xFFFFFF00, cask := 0x0, ro := 0x0 }
  , { name := "EMIT_ECLASS", off := 0xA0, n1 := 8, s1 := 0x4, n2 := 1, s2 := 4, reset := 0x0, rw := 0xFF, w1c := 0x0, wo := 0x0, rwl := 0x0, cask := 0x0, ro := 0x0 }
  , { name := "EMIT_DER", off := 0xC0, n1 := 8, s1 := 0x4, n2 := 1, s2 := 4, reset := 0xA0000, rw := 0x0, w1c := 0x0, wo := 0x0, rwl := 0xFF0FFF, cask := 0x0, ro := 0xFF000000 }
  , { name := "EMIT_DAC", off := 0xE0, n1 := 8, s1 := 0x4, n2 := 1, s2 := 4, reset := 0x0, rw := 0x0, w1c := 0x0, wo := 0x0, rwl := 0x0, cask := 0x0, ro := 0xFFF0FFF }
  , { name := "EMIT_VBANK", off := 0x100, n1 := 8, s1 := 0x4, n2 := 1, s2 := 4, reset := 0x0, rw := 0x0, w1c := 0x0, wo := 0x0, rwl := 0x0, cask := 0x0, ro := 0x10FFF }
  , { name := "EMIT_LOST_LO", off := 0x120, n1 := 1, s1 := 0x4, n2 := 1, s2 := 4, reset := 0x0, rw := 0x0, w1c := 0x0, wo := 0x0, rwl := 0x0, cask := 0x0, ro := 0xFFFFFFFF }
  , { name := "EMIT_LOST_HI", off := 0x124, n1 := 1, s1 := 0x4, n2 := 1, s2 := 4, reset := 0x0, rw := 0x0, w1c := 0x0, wo := 0x0, rwl := 0x0, cask := 0x0, ro := 0xFFFFFFFF }
  , { name := "EMIT_LOSTCLR", off := 0x128, n1 := 1, s1 := 0x4, n2 := 1, s2 := 4, reset := 0x0, rw := 0x0, w1c := 0x0, wo := 0xFFFFFFFF, rwl := 0x0, cask := 0x0, ro := 0x0 }
  , { name := "EMIT_FAULT", off := 0x130, n1 := 1, s1 := 0x4, n2 := 1, s2 := 4, reset := 0x0, rw := 0x0, w1c := 0xFFFF001F, wo := 0x0, rwl := 0x0, cask := 0x0, ro := 0xFF00 }
  , { name := "EMIT_EMXSTAT", off := 0x134, n1 := 1, s1 := 0x4, n2 := 1, s2 := 4, reset := 0x0, rw := 0x0, w1c := 0x0, wo := 0x0, rwl := 0x0, cask := 0x0, ro := 0xFFFFFF00 }
  , { name := "EMIT_SHOTS", off := 0x140, n1 := 8, s1 := 0x4, n2 := 1, s2 := 4, reset := 0x0, rw := 0x0, w1c := 0x0, wo := 0x0, rwl := 0x0, cask := 0x0, ro := 0xFFFFFFFF }
  , { name := "EMIT_ECAL", off := 0x200, n1 := 64, s1 := 0x4, n2 := 1, s2 := 4, reset := 0x0, rw := 0x0, w1c := 0x0, wo := 0x0, rwl := 0xFFFFFFF0, cask := 0x0, ro := 0x0 }
  , { name := "EMIT_EROW", off := 0x300, n1 := 64, s1 := 0x8, n2 := 2, s2 := 4, reset := 0x0, rw := 0x0, w1c := 0x0, wo := 0x0, rwl := 0xFFFFFFFF, cask := 0x0, ro := 0x0 }
  , { name := "EMIT_WLW", off := 0x500, n1 := 16, s1 := 0x4, n2 := 1, s2 := 4, reset := 0x8000, rw := 0x0, w1c := 0x0, wo := 0x0, rwl := 0xFFFF, cask := 0x0, ro := 0x0 }
  , { name := "EMIT_PATTAB", off := 0x600, n1 := 16, s1 := 0x4, n2 := 1, s2 := 4, reset := 0x0, rw := 0xFFFFFFFF, w1c := 0x0, wo := 0x0, rwl := 0x0, cask := 0x0, ro := 0x0 } ]

/-- The registers of block 4, SCAN. -/
def regRows4 : List RegRow :=
  [ { name := "SCAN_CTRL", off := 0x0, n1 := 1, s1 := 0x4, n2 := 1, s2 := 4, reset := 0x300, rw := 0x337, w1c := 0x0, wo := 0x0, rwl := 0x0, cask := 0x0, ro := 0x0 }
  , { name := "SCAN_SWEEP", off := 0x4, n1 := 1, s1 := 0x4, n2 := 1, s2 := 4, reset := 0x640C350, rw := 0x3FFFFFFF, w1c := 0x0, wo := 0x0, rwl := 0x0, cask := 0x0, ro := 0x0 }
  , { name := "SCAN_RANGE", off := 0x8, n1 := 1, s1 := 0x4, n2 := 1, s2 := 4, reset := 0xAEE05120, rw := 0xFFFFFFFF, w1c := 0x0, wo := 0x0, rwl := 0x0, cask := 0x0, ro := 0x0 }
  , { name := "SCAN_STARE", off := 0xC, n1 := 1, s1 := 0x4, n2 := 1, s2 := 4, reset := 0x249F8000, rw := 0xFFFFFFFF, w1c := 0x0, wo := 0x0, rwl := 0x0, cask := 0x0, ro := 0x0 }
  , { name := "SCAN_PROF", off := 0x10, n1 := 1, s1 := 0x4, n2 := 1, s2 := 4, reset := 0x7FF0019, rw := 0x7FFFFFF, w1c := 0x0, wo := 0x0, rwl := 0x0, cask := 0x0, ro := 0x0 }
  , { name := "SCAN_HOLD", off := 0x14, n1 := 1, s1 := 0x4, n2 := 1, s2 := 4, reset := 0x10FA0, rw := 0x1FFFFFF, w1c := 0x0, wo := 0x0, rwl := 0x0, cask := 0x0, ro := 0x0 }
  , { name := "SCAN_MINADV", off := 0x18, n1 := 1, s1 := 0x4, n2 := 1, s2 := 4, reset := 0x100, rw := 0xFFF, w1c := 0x0, wo := 0x0, rwl := 0x0, cask := 0x0, ro := 0x0 }
  , { name := "SCAN_MCAL", off := 0x1C, n1 := 1, s1 := 0x4, n2 := 1, s2 := 4, reset := 0x8000, rw := 0x0, w1c := 0x0, wo := 0x0, rwl := 0xFFFFFFFF, cask := 0x0, ro := 0x0 }
  , { name := "SCAN_MSNS", off := 0x20, n1 := 1, s1 := 0x4, n2 := 1, s2 := 4, reset := 0x1401, rw := 0xFF03, w1c := 0x0, wo := 0x0, rwl := 0x0, cask := 0x0, ro := 0x0 }
  , { name := "SCAN_PLAN0", off := 0x28, n1 := 1, s1 := 0x4, n2 := 1, s2 := 4, reset := 0x0, rw := 0xFFFFFFFF, w1c := 0x0, wo := 0x0, rwl := 0x0, cask := 0x0, ro := 0x0 }
  , { name := "SCAN_PLAN1", off := 0x2C, n1 := 1, s1 := 0x4, n2 := 1, s2 := 4, reset := 0x0, rw := 0xFFFFFFFF, w1c := 0x0, wo := 0x0, rwl := 0x0, cask := 0x0, ro := 0x0 }
  , { name := "SCAN_ANGLE", off := 0x40, n1 := 1, s1 := 0x4, n2 := 1, s2 := 4, reset := 0x8000, rw := 0x0, w1c := 0x0, wo := 0x0, rwl := 0x0, cask := 0x0, ro := 0x1FFFF }
  , { name := "SCAN_SETP", off := 0x44, n1 := 1, s1 := 0x4, n2 := 1, s2 := 4, reset := 0x8000, rw := 0x0, w1c := 0x0, wo := 0x0, rwl := 0x0, cask := 0x0, ro := 0xFFFF }
  , { name := "SCAN_STAT", off := 0x48, n1 := 1, s1 := 0x4, n2 := 1, s2 := 4, reset := 0x0, rw := 0x0, w1c := 0x0, wo := 0x0, rwl := 0x0, cask := 0x0, ro := 0xFFFFFF07 }
  , { name := "SCAN_FLAG", off := 0x4C, n1 := 1, s1 := 0x4, n2 := 1, s2 := 4, reset := 0x0, rw := 0x0, w1c := 0xFF, wo := 0x0, rwl := 0x0, cask := 0x0, ro := 0x0 }
  , { name := "SCAN_CNT", off := 0x50, n1 := 1, s1 := 0x4, n2 := 1, s2 := 4, reset := 0x0, rw := 0x0, w1c := 0x0, wo := 0x0, rwl := 0x0, cask := 0x0, ro := 0xFFFFFFFF }
  , { name := "SCAN_PROFTAB", off := 0x1000, n1 := 1024, s1 := 0x4, n2 := 1, s2 := 4, reset := 0x80008000, rw := 0xFFFFFFFF, w1c := 0x0, wo := 0x0, rwl := 0x0, cask := 0x0, ro := 0x0 } ]

/-- The registers of block 5, KILN. -/
def regRows5 : List RegRow :=
  [ { name := "KILN_CTRL", off := 0x0, n1 := 1, s1 := 0x4, n2 := 1, s2 := 4, reset := 0x1, rw := 0x3, w1c := 0x0, wo := 0x0, rwl := 0x0, cask := 0x0, ro := 0x0 }
  , { name := "KILN_PIN", off := 0x4, n1 := 1, s1 := 0x4, n2 := 1, s2 := 4, reset := 0x3A98, rw := 0xFFFF, w1c := 0x0, wo := 0x0, rwl := 0x0, cask := 0x0, ro := 0x0 }
  , { name := "KILN_CLU", off := 0x8, n1 := 1, s1 := 0x4, n2 := 1, s2 := 4, reset := 0x0, rw := 0xFFFFFFFF, w1c := 0x0, wo := 0x0, rwl := 0x0, cask := 0x0, ro := 0x0 }
  , { name := "KILN_ETA", off := 0xC, n1 := 1, s1 := 0x4, n2 := 1, s2 := 4, reset := 0x333, rw := 0x0, w1c := 0x0, wo := 0x0, rwl := 0x3FF, cask := 0x0, ro := 0x0 }
  , { name := "KILN_TJMAX", off := 0x10, n1 := 1, s1 := 0x4, n2 := 1, s2 := 4, reset := 0x69, rw := 0x0, w1c := 0x0, wo := 0x0, rwl := 0xFF, cask := 0x0, ro := 0x0 }
  , { name := "KILN_CHGWIN", off := 0x14, n1 := 1, s1 := 0x4, n2 := 1, s2 := 4, reset := 0xA, rw := 0xFF, w1c := 0x0, wo := 0x0, rwl := 0x0, cask := 0x0, ro := 0x0 }
  , { name := "KILN_STR", off := 0x20, n1 := 8, s1 := 0x4, n2 := 1, s2 := 4, reset := 0x0, rw := 0x0, w1c := 0x0, wo := 0x0, rwl := 0xFFFF, cask := 0x0, ro := 0x0 }
  , { name := "KILN_CHG", off := 0x40, n1 := 8, s1 := 0x4, n2 := 1, s2 := 4, reset := 0x0, rw := 0xFFFF, w1c := 0x0, wo := 0x0, rwl := 0x0, cask := 0x0, ro := 0x0 }
  , { name := "KILN_TH", off := 0x60, n1 := 8, s1 := 0x4, n2 := 1, s2 := 4, reset := 0x640000, rw := 0x0, w1c := 0x0, wo := 0x0, rwl := 0x3FFFFFFF, cask := 0x0, ro := 0x0 }
  , { name := "KILN_TJ", off := 0x80, n1 := 8, s1 := 0x4, n2 := 1, s2 := 4, reset := 0x0, rw := 0x0, w1c := 0x0, wo := 0x0, rwl := 0x0, cask := 0x0, ro := 0xFFFF }
  , { name := "KILN_DT", off := 0xA0, n1 := 8, s1 := 0x4, n2 := 1, s2 := 4, reset := 0x0, rw := 0x0, w1c := 0x0, wo := 0x0, rwl := 0x0, cask := 0x0, ro := 0xFFFFFFFF }
  , { name := "KILN_BKT", off := 0xC0, n1 := 8, s1 := 0x4, n2 := 1, s2 := 4, reset := 0x0, rw := 0x0, w1c := 0x0, wo := 0x0, rwl := 0x0, cask := 0x0, ro := 0xFFFFFFFF }
  , { name := "KILN_EYECFG", off := 0x100, n1 := 1, s1 := 0x4, n2 := 1, s2 := 4, reset := 0xA645120, rw := 0x0, w1c := 0x0, wo := 0x0, rwl := 0xFFFFFFFF, cask := 0x0, ro := 0x0 }
  , { name := "KILN_EYEWIN", off := 0x104, n1 := 1, s1 := 0x4, n2 := 1, s2 := 4, reset := 0xD, rw := 0x0, w1c := 0x0, wo := 0x0, rwl := 0xFFFF1FFF, cask := 0x0, ro := 0x0 }
  , { name := "KILN_EYEFLAG", off := 0x108, n1 := 1, s1 := 0x4, n2 := 1, s2 := 4, reset := 0x8, rw := 0x0, w1c := 0x7, wo := 0x0, rwl := 0x0, cask := 0x0, ro := 0xFFFF0008 }
  , { name := "KILN_EYEPEEK", off := 0x10C, n1 := 1, s1 := 0x4, n2 := 1, s2 := 4, reset := 0x0, rw := 0x3FFF, w1c := 0x0, wo := 0x0, rwl := 0x0, cask := 0x0, ro := 0x0 }
  , { name := "KILN_EYESUM", off := 0x110, n1 := 1, s1 := 0x4, n2 := 1, s2 := 4, reset := 0x0, rw := 0x0, w1c := 0x0, wo := 0x0, rwl := 0x0, cask := 0x0, ro := 0xFFFFFF }
  , { name := "KILN_LAST", off := 0x120, n1 := 1, s1 := 0x4, n2 := 1, s2 := 4, reset := 0x0, rw := 0x0, w1c := 0x0, wo := 0x0, rwl := 0x0, cask := 0x0, ro := 0x3FF03FF }
  , { name := "KILN_LASTST", off := 0x124, n1 := 1, s1 := 0x4, n2 := 1, s2 := 4, reset := 0x0, rw := 0x0, w1c := 0x0, wo := 0x0, rwl := 0x0, cask := 0x0, ro := 0xFF }
  , { name := "KILN_LASTROWS_LO", off := 0x128, n1 := 1, s1 := 0x4, n2 := 1, s2 := 4, reset := 0x0, rw := 0x0, w1c := 0x0, wo := 0x0, rwl := 0x0, cask := 0x0, ro := 0xFFFFFFFF }
  , { name := "KILN_LASTROWS_HI", off := 0x12C, n1 := 1, s1 := 0x4, n2 := 1, s2 := 4, reset := 0x0, rw := 0x0, w1c := 0x0, wo := 0x0, rwl := 0x0, cask := 0x0, ro := 0xFFFFFFFF }
  , { name := "KILN_EYELIM", off := 0x8000, n1 := 7680, s1 := 0x4, n2 := 1, s2 := 4, reset := 0x0, rw := 0x0, w1c := 0x0, wo := 0x0, rwl := 0xFFFFFFFF, cask := 0x0, ro := 0x0 } ]

/-- The registers of block 6, RX. -/
def regRows6 : List RegRow :=
  [ { name := "RX_COINC", off := 0x0, n1 := 1, s1 := 0x4, n2 := 1, s2 := 4, reset := 0x81202, rw := 0xFFF1F, w1c := 0x0, wo := 0x0, rwl := 0x0, cask := 0x0, ro := 0x0 }
  , { name := "RX_AMB", off := 0x4, n1 := 1, s1 := 0x4, n2 := 1, s2 := 4, reset := 0x840, rw := 0xFFFF, w1c := 0x0, wo := 0x0, rwl := 0x0, cask := 0x0, ro := 0x0 }
  , { name := "RX_ATH", off := 0x64, n1 := 1, s1 := 0x4, n2 := 1, s2 := 4, reset := 0x28, rw := 0xFFFF, w1c := 0x0, wo := 0x0, rwl := 0x0, cask := 0x0, ro := 0x0 }
  , { name := "RX_ATH", off := 0x68, n1 := 1, s1 := 0x4, n2 := 1, s2 := 4, reset := 0x50, rw := 0xFFFF, w1c := 0x0, wo := 0x0, rwl := 0x0, cask := 0x0, ro := 0x0 }
  , { name := "RX_ATH", off := 0x6C, n1 := 1, s1 := 0x4, n2 := 1, s2 := 4, reset := 0xA0, rw := 0xFFFF, w1c := 0x0, wo := 0x0, rwl := 0x0, cask := 0x0, ro := 0x0 }
  , { name := "RX_ATH", off := 0x70, n1 := 1, s1 := 0x4, n2 := 1, s2 := 4, reset := 0x140, rw := 0xFFFF, w1c := 0x0, wo := 0x0, rwl := 0x0, cask := 0x0, ro := 0x0 }
  , { name := "RX_ATH", off := 0x74, n1 := 1, s1 := 0x4, n2 := 1, s2 := 4, reset := 0x280, rw := 0xFFFF, w1c := 0x0, wo := 0x0, rwl := 0x0, cask := 0x0, ro := 0x0 }
  , { name := "RX_ATH", off := 0x78, n1 := 1, s1 := 0x4, n2 := 1, s2 := 4, reset := 0x500, rw := 0xFFFF, w1c := 0x0, wo := 0x0, rwl := 0x0, cask := 0x0, ro := 0x0 }
  , { name := "RX_ATH", off := 0x7C, n1 := 1, s1 := 0x4, n2 := 1, s2 := 4, reset := 0xA00, rw := 0xFFFF, w1c := 0x0, wo := 0x0, rwl := 0x0, cask := 0x0, ro := 0x0 }
  , { name := "RX_CAL", off := 0x20, n1 := 1, s1 := 0x4, n2 := 1, s2 := 4, reset := 0x50640E06, rw := 0xFFFF0F06, w1c := 0x0, wo := 0x1, rwl := 0x0, cask := 0x0, ro := 0x0 }
  , { name := "RX_CALSTAT", off := 0x24, n1 := 1, s1 := 0x4, n2 := 1, s2 := 4, reset := 0x0, rw := 0x0, w1c := 0x0, wo := 0x0, rwl := 0x0, cask := 0x0, ro := 0xFFFF87FF }
  , { name := "RX_BIAS", off := 0x30, n1 := 1, s1 := 0x4, n2 := 1, s2 := 4, reset := 0x965DC0, rw := 0x1FF0000, w1c := 0x0, wo := 0x0, rwl := 0xFFFF, cask := 0x0, ro := 0x0 }
  , { name := "RX_BIASTC", off := 0x34, n1 := 1, s1 := 0x4, n2 := 1, s2 := 4, reset := 0x9C4, rw := 0x0, w1c := 0x0, wo := 0x0, rwl := 0xFFFF, cask := 0x0, ro := 0x0 }
  , { name := "RX_BIASST", off := 0x38, n1 := 1, s1 := 0x4, n2 := 1, s2 := 4, reset := 0x0, rw := 0x0, w1c := 0x0, wo := 0x0, rwl := 0x0, cask := 0x0, ro := 0xFFFFFFFF }
  , { name := "RX_STAT", off := 0x40, n1 := 1, s1 := 0x4, n2 := 1, s2 := 4, reset := 0x0, rw := 0x0, w1c := 0x0, wo := 0x0, rwl := 0x0, cask := 0x0, ro := 0x7 }
  , { name := "RX_FLAG", off := 0x44, n1 := 1, s1 := 0x4, n2 := 1, s2 := 4, reset := 0x0, rw := 0x0, w1c := 0x3F, wo := 0x0, rwl := 0x0, cask := 0x0, ro := 0x0 }
  , { name := "RX_CAPCTL", off := 0x50, n1 := 1, s1 := 0x4, n2 := 1, s2 := 4, reset := 0x0, rw := 0x3FF0000, w1c := 0x0, wo := 0x80000000, rwl := 0x0, cask := 0x0, ro := 0x1FF }
  , { name := "RX_MAPSEL", off := 0x60, n1 := 1, s1 := 0x4, n2 := 1, s2 := 4, reset := 0x0, rw := 0x3FF, w1c := 0x0, wo := 0x0, rwl := 0x0, cask := 0x0, ro := 0x0 }
  , { name := "RX_MAPW", off := 0x80, n1 := 24, s1 := 0x4, n2 := 1, s2 := 4, reset := 0x0, rw := 0x0, w1c := 0x0, wo := 0x0, rwl := 0x0, cask := 0x0, ro := 0xFFFFFFFF }
  , { name := "RX_LOSS", off := 0x100, n1 := 64, s1 := 0x4, n2 := 1, s2 := 4, reset := 0x0, rw := 0x0, w1c := 0x0, wo := 0x0, rwl := 0x0, cask := 0x0, ro := 0xFFFFFFFF }
  , { name := "RX_CAP", off := 0x1000, n1 := 256, s1 := 0x4, n2 := 1, s2 := 4, reset := 0x0, rw := 0x0, w1c := 0x0, wo := 0x0, rwl := 0x0, cask := 0x0, ro := 0xFFFFFFFF }
  , { name := "RX_AMBC", off := 0x2000, n1 := 1024, s1 := 0x4, n2 := 1, s2 := 4, reset := 0x0, rw := 0x0, w1c := 0x0, wo := 0x0, rwl := 0x0, cask := 0x0, ro := 0xF8FFFFFF }
  , { name := "RX_TDC", off := 0x3000, n1 := 1024, s1 := 0x4, n2 := 1, s2 := 4, reset := 0x0, rw := 0x0, w1c := 0x0, wo := 0x0, rwl := 0x0, cask := 0x0, ro := 0xFFFFFF03 }
  , { name := "RX_SPADEN", off := 0x8000, n1 := 512, s1 := 0x4, n2 := 1, s2 := 4, reset := 0xFFFFFFFF, rw := 0xFFFFFFFF, w1c := 0x0, wo := 0x0, rwl := 0x0, cask := 0x0, ro := 0x0 } ]

/-- The registers of block 7, MASH. -/
def regRows7 : List RegRow :=
  [ { name := "MASH_THIN", off := 0x0, n1 := 1, s1 := 0x4, n2 := 1, s2 := 4, reset := 0xACE1044C, rw := 0xFFFF0FFF, w1c := 0x0, wo := 0x0, rwl := 0x0, cask := 0x0, ro := 0x0 }
  , { name := "MASH_ZOOM", off := 0x4, n1 := 1, s1 := 0x4, n2 := 1, s2 := 4, reset := 0x100008, rw := 0xFFFF003F, w1c := 0x0, wo := 0x0, rwl := 0x0, cask := 0x0, ro := 0x0 }
  , { name := "MASH_STAT", off := 0x10, n1 := 1, s1 := 0x4, n2 := 1, s2 := 4, reset := 0x0, rw := 0x0, w1c := 0x0, wo := 0x0, rwl := 0x0, cask := 0x0, ro := 0xFFFFFF03 }
  , { name := "MASH_FLAG", off := 0x14, n1 := 1, s1 := 0x4, n2 := 1, s2 := 4, reset := 0x0, rw := 0x0, w1c := 0x7F, wo := 0x0, rwl := 0x0, cask := 0x0, ro := 0x0 }
  , { name := "MASH_ECC", off := 0x18, n1 := 1, s1 := 0x4, n2 := 1, s2 := 4, reset := 0x0, rw := 0x0, w1c := 0x0, wo := 0x0, rwl := 0x0, cask := 0x0, ro := 0xFFFFFFFF }
  , { name := "MASH_ECCADDR", off := 0x1C, n1 := 1, s1 := 0x4, n2 := 1, s2 := 4, reset := 0x0, rw := 0x0, w1c := 0x0, wo := 0x0, rwl := 0x0, cask := 0x0, ro := 0x803FFFFF }
  , { name := "MASH_SNAPCTL", off := 0x20, n1 := 1, s1 := 0x4, n2 := 1, s2 := 4, reset := 0x0, rw := 0x3FF, w1c := 0x0, wo := 0x80000000, rwl := 0x0, cask := 0x0, ro := 0x40000000 }
  , { name := "MASH_GATE", off := 0x100, n1 := 64, s1 := 0x4, n2 := 1, s2 := 4, reset := 0x70000, rw := 0xF0FFF, w1c := 0x0, wo := 0x0, rwl := 0x0, cask := 0x0, ro := 0x0 }
  , { name := "MASH_THINK", off := 0x200, n1 := 64, s1 := 0x4, n2 := 1, s2 := 4, reset := 0x0, rw := 0x0, w1c := 0x0, wo := 0x0, rwl := 0x0, cask := 0x0, ro := 0xFFFF0007 }
  , { name := "MASH_LATE", off := 0x300, n1 := 64, s1 := 0x4, n2 := 1, s2 := 4, reset := 0x0, rw := 0x0, w1c := 0x0, wo := 0x0, rwl := 0x0, cask := 0x0, ro := 0xFFFF }
  , { name := "MASH_SNAPBIN", off := 0x4000, n1 := 1024, s1 := 0x4, n2 := 1, s2 := 4, reset := 0x0, rw := 0x0, w1c := 0x0, wo := 0x0, rwl := 0x0, cask := 0x0, ro := 0xFFFFFFFF }
  , { name := "MASH_SNAPHDR", off := 0x5000, n1 := 8, s1 := 0x4, n2 := 1, s2 := 4, reset := 0x0, rw := 0x0, w1c := 0x0, wo := 0x0, rwl := 0x0, cask := 0x0, ro := 0xFFFFFFFF }
  , { name := "MASH_HDR", off := 0x8000, n1 := 1024, s1 := 0x20, n2 := 8, s2 := 4, reset := 0x0, rw := 0x0, w1c := 0x0, wo := 0x0, rwl := 0x0, cask := 0x0, ro := 0xFFFFFFFF } ]

/-- The registers of block 8, LAUTER. -/
def regRows8 : List RegRow :=
  [ { name := "LAU_CTRL", off := 0x0, n1 := 1, s1 := 0x4, n2 := 1, s2 := 4, reset := 0x33, rw := 0x333, w1c := 0x0, wo := 0x0, rwl := 0x0, cask := 0x0, ro := 0x0 }
  , { name := "LAU_THR", off := 0x4, n1 := 1, s1 := 0x4, n2 := 1, s2 := 4, reset := 0x500040, rw := 0xFFFFFF, w1c := 0x0, wo := 0x0, rwl := 0x0, cask := 0x0, ro := 0x0 }
  , { name := "LAU_TAPS0", off := 0x8, n1 := 1, s1 := 0x4, n2 := 1, s2 := 4, reset := 0x4020100, rw := 0xFFFFFFFF, w1c := 0x0, wo := 0x0, rwl := 0x0, cask := 0x0, ro := 0x0 }
  , { name := "LAU_TAPS1", off := 0xC, n1 := 1, s1 := 0x4, n2 := 1, s2 := 4, reset := 0x102, rw := 0xFFFFFFFF, w1c := 0x0, wo := 0x0, rwl := 0x0, cask := 0x0, ro := 0x0 }
  , { name := "LAU_RAIN0", off := 0x10, n1 := 1, s1 := 0x4, n2 := 1, s2 := 4, reset := 0x4E21001, rw := 0xFFFFFF03, w1c := 0x0, wo := 0x0, rwl := 0x0, cask := 0x0, ro := 0x0 }
  , { name := "LAU_RAIN1", off := 0x14, n1 := 1, s1 := 0x4, n2 := 1, s2 := 4, reset := 0x4000040, rw := 0xFFF00FF, w1c := 0x0, wo := 0x0, rwl := 0x0, cask := 0x0, ro := 0x0 }
  , { name := "LAU_INTF", off := 0x18, n1 := 1, s1 := 0x4, n2 := 1, s2 := 4, reset := 0x80040, rw := 0xFFFFFF, w1c := 0x0, wo := 0x0, rwl := 0x0, cask := 0x0, ro := 0x0 }
  , { name := "LAU_SUN", off := 0x1C, n1 := 1, s1 := 0x4, n2 := 1, s2 := 4, reset := 0xC000, rw := 0xFFFF, w1c := 0x0, wo := 0x0, rwl := 0x0, cask := 0x0, ro := 0x0 }
  , { name := "LAU_HZD", off := 0x20, n1 := 1, s1 := 0x4, n2 := 1, s2 := 4, reset := 0x3, rw := 0x7, w1c := 0x0, wo := 0x0, rwl := 0x0, cask := 0x0, ro := 0x0 }
  , { name := "LAU_STAT", off := 0x30, n1 := 1, s1 := 0x4, n2 := 1, s2 := 4, reset := 0x1, rw := 0x0, w1c := 0x0, wo := 0x0, rwl := 0x0, cask := 0x0, ro := 0x1 }
  , { name := "LAU_FLAG", off := 0x34, n1 := 1, s1 := 0x4, n2 := 1, s2 := 4, reset := 0x0, rw := 0x0, w1c := 0x3D, wo := 0x0, rwl := 0x0, cask := 0x0, ro := 0x0 }
  , { name := "LAU_FLD0", off := 0x38, n1 := 1, s1 := 0x4, n2 := 1, s2 := 4, reset := 0x0, rw := 0x0, w1c := 0x0, wo := 0x0, rwl := 0x0, cask := 0x0, ro := 0x7FF07FF }
  , { name := "LAU_FLD1", off := 0x3C, n1 := 1, s1 := 0x4, n2 := 1, s2 := 4, reset := 0x0, rw := 0x0, w1c := 0x0, wo := 0x0, rwl := 0x0, cask := 0x0, ro := 0x7FF07FF }
  , { name := "LAU_PEEKSEL", off := 0x50, n1 := 1, s1 := 0x4, n2 := 1, s2 := 4, reset := 0x0, rw := 0x3FF, w1c := 0x0, wo := 0x0, rwl := 0x0, cask := 0x0, ro := 0x0 }
  , { name := "LAU_PEEK", off := 0x60, n1 := 4, s1 := 0x8, n2 := 1, s2 := 4, reset := 0x0, rw := 0x0, w1c := 0x0, wo := 0x0, rwl := 0x0, cask := 0x0, ro := 0xFF1FFFFF }
  , { name := "LAU_PEEK_ODD", off := 0x64, n1 := 4, s1 := 0x8, n2 := 1, s2 := 4, reset := 0x0, rw := 0x0, w1c := 0x0, wo := 0x0, rwl := 0x0, cask := 0x0, ro := 0xFFF00FF }
  , { name := "LAU_INTFK", off := 0x100, n1 := 64, s1 := 0x4, n2 := 1, s2 := 4, reset := 0x0, rw := 0x0, w1c := 0x0, wo := 0x0, rwl := 0x0, cask := 0x0, ro := 0xFFFFFFFF }
  , { name := "LAU_RAINK", off := 0x200, n1 := 64, s1 := 0x4, n2 := 1, s2 := 4, reset := 0x0, rw := 0x0, w1c := 0x0, wo := 0x0, rwl := 0x0, cask := 0x0, ro := 0xFFFFFFFF } ]

/-- The registers of block 9, WORT. -/
def regRows9 : List RegRow :=
  [ { name := "WORT_CTRL", off := 0x0, n1 := 1, s1 := 0x4, n2 := 1, s2 := 4, reset := 0x890, rw := 0x3CF1, w1c := 0x0, wo := 0x0, rwl := 0x0, cask := 0x0, ro := 0x0 }
  , { name := "WORT_ETH", off := 0x4, n1 := 1, s1 := 0x4, n2 := 1, s2 := 4, reset := 0x2, rw := 0x117, w1c := 0x0, wo := 0x0, rwl := 0x0, cask := 0x0, ro := 0x0 }
  , { name := "WORT_BUF0", off := 0x8, n1 := 1, s1 := 0x4, n2 := 1, s2 := 4, reset := 0x6000500, rw := 0x7FF07FF, w1c := 0x0, wo := 0x0, rwl := 0x0, cask := 0x0, ro := 0x0 }
  , { name := "WORT_BUF1", off := 0xC, n1 := 1, s1 := 0x4, n2 := 1, s2 := 4, reset := 0x300, rw := 0x7FF, w1c := 0x0, wo := 0x0, rwl := 0x0, cask := 0x0, ro := 0x0 }
  , { name := "WORT_ANCH_CNT", off := 0x10, n1 := 1, s1 := 0x4, n2 := 1, s2 := 4, reset := 0x0, rw := 0xFFFFFFFF, w1c := 0x0, wo := 0x0, rwl := 0x0, cask := 0x0, ro := 0x0 }
  , { name := "WORT_ANCH_SLO", off := 0x14, n1 := 1, s1 := 0x4, n2 := 1, s2 := 4, reset := 0x0, rw := 0xFFFFFFFF, w1c := 0x0, wo := 0x0, rwl := 0x0, cask := 0x0, ro := 0x0 }
  , { name := "WORT_ANCH_NS", off := 0x18, n1 := 1, s1 := 0x4, n2 := 1, s2 := 4, reset := 0x0, rw := 0xFFFFFFFF, w1c := 0x0, wo := 0x0, rwl := 0x0, cask := 0x0, ro := 0x0 }
  , { name := "WORT_ANCH_SHI", off := 0x1C, n1 := 1, s1 := 0x4, n2 := 1, s2 := 4, reset := 0x0, rw := 0x8000FFFF, w1c := 0x0, wo := 0x0, rwl := 0x0, cask := 0x0, ro := 0x0 }
  , { name := "WORT_STAT", off := 0x20, n1 := 1, s1 := 0x4, n2 := 1, s2 := 4, reset := 0x0, rw := 0x0, w1c := 0x0, wo := 0x0, rwl := 0x0, cask := 0x0, ro := 0xFFFFFFFB }
  , { name := "WORT_FLAG", off := 0x24, n1 := 1, s1 := 0x4, n2 := 1, s2 := 4, reset := 0x0, rw := 0x0, w1c := 0x7F, wo := 0x0, rwl := 0x0, cask := 0x0, ro := 0x0 }
  , { name := "WORT_CNT", off := 0x28, n1 := 1, s1 := 0x4, n2 := 1, s2 := 4, reset := 0x0, rw := 0x0, w1c := 0x0, wo := 0x0, rwl := 0x0, cask := 0x0, ro := 0xFFFFFFFF }
  , { name := "WORT_FRAME", off := 0x2C, n1 := 1, s1 := 0x4, n2 := 1, s2 := 4, reset := 0x0, rw := 0x0, w1c := 0x0, wo := 0x0, rwl := 0x0, cask := 0x0, ro := 0xFFFFFF }
  , { name := "WORT_ECC", off := 0x30, n1 := 1, s1 := 0x4, n2 := 1, s2 := 4, reset := 0x0, rw := 0x0, w1c := 0x0, wo := 0x0, rwl := 0x0, cask := 0x0, ro := 0xFFFFFFFF } ]

/-- The registers of block 10, CTL. -/
def regRows10 : List RegRow :=
  [ { name := "CTL_CTRL", off := 0x0, n1 := 1, s1 := 0x4, n2 := 1, s2 := 4, reset := 0x0, rw := 0xFF, w1c := 0x0, wo := 0x80000000, rwl := 0x0, cask := 0x0, ro := 0x0 }
  , { name := "CTL_STAT", off := 0x4, n1 := 1, s1 := 0x4, n2 := 1, s2 := 4, reset := 0x0, rw := 0x0, w1c := 0x0, wo := 0x0, rwl := 0x0, cask := 0x0, ro := 0xFFFFFF }
  , { name := "CTL_EYE", off := 0x8, n1 := 1, s1 := 0x4, n2 := 1, s2 := 4, reset := 0x10, rw := 0xFF, w1c := 0x0, wo := 0x0, rwl := 0x0, cask := 0x0, ro := 0x0 }
  , { name := "CTL_LCFG", off := 0x100, n1 := 8, s1 := 0x40, n2 := 1, s2 := 4, reset := 0x1000000, rw := 0xFF00F0FF, w1c := 0x0, wo := 0x0, rwl := 0x0, cask := 0x0, ro := 0x0 }
  , { name := "CTL_LKF", off := 0x104, n1 := 8, s1 := 0x40, n2 := 1, s2 := 4, reset := 0x0, rw := 0xFFFFFFFF, w1c := 0x0, wo := 0x0, rwl := 0x0, cask := 0x0, ro := 0x0 }
  , { name := "CTL_LKP", off := 0x108, n1 := 8, s1 := 0x40, n2 := 1, s2 := 4, reset := 0x0, rw := 0xFFFFFFFF, w1c := 0x0, wo := 0x0, rwl := 0x0, cask := 0x0, ro := 0x0 }
  , { name := "CTL_LKI", off := 0x10C, n1 := 8, s1 := 0x40, n2 := 1, s2 := 4, reset := 0x0, rw := 0xFFFFFFFF, w1c := 0x0, wo := 0x0, rwl := 0x0, cask := 0x0, ro := 0x0 }
  , { name := "CTL_LLIM", off := 0x110, n1 := 8, s1 := 0x40, n2 := 1, s2 := 4, reset := 0xFFFF0000, rw := 0xFFFFFFFF, w1c := 0x0, wo := 0x0, rwl := 0x0, cask := 0x0, ro := 0x0 }
  , { name := "CTL_LSLEW", off := 0x114, n1 := 8, s1 := 0x40, n2 := 1, s2 := 4, reset := 0x0, rw := 0xFFFFFFFF, w1c := 0x0, wo := 0x0, rwl := 0x0, cask := 0x0, ro := 0x0 }
  , { name := "CTL_LSP", off := 0x118, n1 := 1, s1 := 0x4, n2 := 1, s2 := 4, reset := 0x0, rw := 0x0, w1c := 0x0, wo := 0x0, rwl := 0x0, cask := 0x0, ro := 0xFFFFFFFF }
  , { name := "CTL_LSP", off := 0x158, n1 := 1, s1 := 0x4, n2 := 1, s2 := 4, reset := 0x0, rw := 0x0, w1c := 0x0, wo := 0x0, rwl := 0x0, cask := 0x0, ro := 0xFFFFFFFF }
  , { name := "CTL_LSP", off := 0x198, n1 := 1, s1 := 0x4, n2 := 1, s2 := 4, reset := 0x0, rw := 0xFFFF, w1c := 0x0, wo := 0x0, rwl := 0x0, cask := 0x0, ro := 0xFFFF0000 }
  , { name := "CTL_LSP", off := 0x1D8, n1 := 1, s1 := 0x4, n2 := 1, s2 := 4, reset := 0x0, rw := 0xFFFF, w1c := 0x0, wo := 0x0, rwl := 0x0, cask := 0x0, ro := 0xFFFF0000 }
  , { name := "CTL_LSP", off := 0x218, n1 := 1, s1 := 0x4, n2 := 1, s2 := 4, reset := 0x0, rw := 0xFFFF, w1c := 0x0, wo := 0x0, rwl := 0x0, cask := 0x0, ro := 0xFFFF0000 }
  , { name := "CTL_LSP", off := 0x258, n1 := 1, s1 := 0x4, n2 := 1, s2 := 4, reset := 0x0, rw := 0xFFFF, w1c := 0x0, wo := 0x0, rwl := 0x0, cask := 0x0, ro := 0xFFFF0000 }
  , { name := "CTL_LSP", off := 0x298, n1 := 1, s1 := 0x4, n2 := 1, s2 := 4, reset := 0x0, rw := 0xFFFF, w1c := 0x0, wo := 0x0, rwl := 0x0, cask := 0x0, ro := 0xFFFF0000 }
  , { name := "CTL_LSP", off := 0x2D8, n1 := 1, s1 := 0x4, n2 := 1, s2 := 4, reset := 0x0, rw := 0xFFFF, w1c := 0x0, wo := 0x0, rwl := 0x0, cask := 0x0, ro := 0xFFFF0000 }
  , { name := "CTL_LFB", off := 0x11C, n1 := 8, s1 := 0x40, n2 := 1, s2 := 4, reset := 0x0, rw := 0x0, w1c := 0x0, wo := 0x0, rwl := 0x0, cask := 0x0, ro := 0xFFFF }
  , { name := "CTL_LOUT", off := 0x120, n1 := 8, s1 := 0x40, n2 := 1, s2 := 4, reset := 0x0, rw := 0x0, w1c := 0x0, wo := 0x0, rwl := 0x0, cask := 0x0, ro := 0xFFFF }
  , { name := "CTL_LINT", off := 0x124, n1 := 8, s1 := 0x40, n2 := 1, s2 := 4, reset := 0x0, rw := 0x0, w1c := 0x0, wo := 0x0, rwl := 0x0, cask := 0x0, ro := 0xFFFFFFFF }
  , { name := "CTL_LSAT", off := 0x128, n1 := 8, s1 := 0x40, n2 := 1, s2 := 4, reset := 0x0, rw := 0x0, w1c := 0xFF, wo := 0x0, rwl := 0x0, cask := 0x0, ro := 0x0 }
  , { name := "CTL_CKF", off := 0x400, n1 := 8, s1 := 0x80, n2 := 4, s2 := 32, reset := 0x1000000, rw := 0xFFFFFFFF, w1c := 0x0, wo := 0x0, rwl := 0x0, cask := 0x0, ro := 0x0 }
  , { name := "CTL_CKP", off := 0x404, n1 := 8, s1 := 0x80, n2 := 4, s2 := 32, reset := 0x0, rw := 0xFFFFFFFF, w1c := 0x0, wo := 0x0, rwl := 0x0, cask := 0x0, ro := 0x0 }
  , { name := "CTL_CKI", off := 0x408, n1 := 8, s1 := 0x80, n2 := 4, s2 := 32, reset := 0x0, rw := 0xFFFFFFFF, w1c := 0x0, wo := 0x0, rwl := 0x0, cask := 0x0, ro := 0x0 }
  , { name := "CTL_CSLEW", off := 0x40C, n1 := 8, s1 := 0x80, n2 := 4, s2 := 32, reset := 0x0, rw := 0xFFFFFFFF, w1c := 0x0, wo := 0x0, rwl := 0x0, cask := 0x0, ro := 0x0 }
  , { name := "CTL_CSP", off := 0x410, n1 := 8, s1 := 0x80, n2 := 4, s2 := 32, reset := 0x0, rw := 0x0, w1c := 0x0, wo := 0x0, rwl := 0x0, cask := 0x0, ro := 0xFFFFFFFF }
  , { name := "CTL_COUT", off := 0x414, n1 := 8, s1 := 0x80, n2 := 4, s2 := 32, reset := 0x0, rw := 0x0, w1c := 0x0, wo := 0x0, rwl := 0x0, cask := 0x0, ro := 0xFFF }
  , { name := "CTL_CINT", off := 0x418, n1 := 8, s1 := 0x80, n2 := 4, s2 := 32, reset := 0x0, rw := 0x0, w1c := 0x0, wo := 0x0, rwl := 0x0, cask := 0x0, ro := 0xFFFFFFFF }
  , { name := "CTL_CSAT", off := 0x41C, n1 := 8, s1 := 0x80, n2 := 4, s2 := 32, reset := 0x0, rw := 0x0, w1c := 0xFF, wo := 0x0, rwl := 0x0, cask := 0x0, ro := 0x0 }
  , { name := "CTL_GRP", off := 0x800, n1 := 8, s1 := 0x4, n2 := 1, s2 := 4, reset := 0x0, rw := 0x0, w1c := 0x0, wo := 0x0, rwl := 0x0, cask := 0x0, ro := 0x30FFF } ]

/-- The registers of block 11, ADC0. -/
def regRows11 : List RegRow :=
  [ { name := "ADC0_CTRL", off := 0x0, n1 := 1, s1 := 0x4, n2 := 1, s2 := 4, reset := 0x0, rw := 0x0, w1c := 0x0, wo := 0x0, rwl := 0x3, cask := 0x0, ro := 0x0 }
  , { name := "ADC0_STAT", off := 0x4, n1 := 1, s1 := 0x4, n2 := 1, s2 := 4, reset := 0x0, rw := 0x0, w1c := 0x0, wo := 0x0, rwl := 0x0, cask := 0x0, ro := 0x1 }
  , { name := "ADC0_FLAG", off := 0x8, n1 := 1, s1 := 0x4, n2 := 1, s2 := 4, reset := 0x0, rw := 0x0, w1c := 0x3F, wo := 0x0, rwl := 0x0, cask := 0x0, ro := 0x0 }
  , { name := "ADC0_AXSEL", off := 0xC, n1 := 1, s1 := 0x4, n2 := 1, s2 := 4, reset := 0x0, rw := 0x7777, w1c := 0x0, wo := 0x0, rwl := 0x0, cask := 0x0, ro := 0x0 }
  , { name := "ADC0_SRC", off := 0x10, n1 := 1, s1 := 0x4, n2 := 1, s2 := 4, reset := 0x0, rw := 0x0, w1c := 0x0, wo := 0x0, rwl := 0x3, cask := 0x0, ro := 0x0 }
  , { name := "ADC0_SRC", off := 0x14, n1 := 1, s1 := 0x4, n2 := 1, s2 := 4, reset := 0x0, rw := 0x0, w1c := 0x0, wo := 0x0, rwl := 0x3, cask := 0x0, ro := 0x0 }
  , { name := "ADC0_SRC", off := 0x18, n1 := 1, s1 := 0x4, n2 := 1, s2 := 4, reset := 0x0, rw := 0x0, w1c := 0x0, wo := 0x0, rwl := 0x3, cask := 0x0, ro := 0x0 }
  , { name := "ADC0_SRC", off := 0x1C, n1 := 1, s1 := 0x4, n2 := 1, s2 := 4, reset := 0x0, rw := 0x0, w1c := 0x0, wo := 0x0, rwl := 0x3, cask := 0x0, ro := 0x0 }
  , { name := "ADC0_SRC", off := 0x20, n1 := 1, s1 := 0x4, n2 := 1, s2 := 4, reset := 0x0, rw := 0x0, w1c := 0x0, wo := 0x0, rwl := 0x3, cask := 0x0, ro := 0x0 }
  , { name := "ADC0_SRC", off := 0x24, n1 := 1, s1 := 0x4, n2 := 1, s2 := 4, reset := 0x0, rw := 0x0, w1c := 0x0, wo := 0x0, rwl := 0x3, cask := 0x0, ro := 0x0 }
  , { name := "ADC0_SRC", off := 0x28, n1 := 1, s1 := 0x4, n2 := 1, s2 := 4, reset := 0x0, rw := 0x0, w1c := 0x0, wo := 0x0, rwl := 0x3, cask := 0x0, ro := 0x0 }
  , { name := "ADC0_SRC", off := 0x2C, n1 := 1, s1 := 0x4, n2 := 1, s2 := 4, reset := 0x0, rw := 0x0, w1c := 0x0, wo := 0x0, rwl := 0x3, cask := 0x0, ro := 0x0 }
  , { name := "ADC0_SRC", off := 0x30, n1 := 1, s1 := 0x4, n2 := 1, s2 := 4, reset := 0x0, rw := 0x3, w1c := 0x0, wo := 0x0, rwl := 0x0, cask := 0x0, ro := 0x0 }
  , { name := "ADC0_SRC", off := 0x34, n1 := 1, s1 := 0x4, n2 := 1, s2 := 4, reset := 0x0, rw := 0x0, w1c := 0x0, wo := 0x0, rwl := 0x3, cask := 0x0, ro := 0x0 }
  , { name := "ADC0_SRC", off := 0x38, n1 := 1, s1 := 0x4, n2 := 1, s2 := 4, reset := 0x0, rw := 0x3, w1c := 0x0, wo := 0x0, rwl := 0x0, cask := 0x0, ro := 0x0 }
  , { name := "ADC0_SRC", off := 0x3C, n1 := 1, s1 := 0x4, n2 := 1, s2 := 4, reset := 0x0, rw := 0x3, w1c := 0x0, wo := 0x0, rwl := 0x0, cask := 0x0, ro := 0x0 }
  , { name := "ADC0_SRC", off := 0x40, n1 := 1, s1 := 0x4, n2 := 1, s2 := 4, reset := 0x0, rw := 0x3, w1c := 0x0, wo := 0x0, rwl := 0x0, cask := 0x0, ro := 0x0 }
  , { name := "ADC0_SRC", off := 0x44, n1 := 1, s1 := 0x4, n2 := 1, s2 := 4, reset := 0x0, rw := 0x3, w1c := 0x0, wo := 0x0, rwl := 0x0, cask := 0x0, ro := 0x0 }
  , { name := "ADC0_SRC", off := 0x48, n1 := 1, s1 := 0x4, n2 := 1, s2 := 4, reset := 0x0, rw := 0x3, w1c := 0x0, wo := 0x0, rwl := 0x0, cask := 0x0, ro := 0x0 }
  , { name := "ADC0_SRC", off := 0x4C, n1 := 1, s1 := 0x4, n2 := 1, s2 := 4, reset := 0x0, rw := 0x3, w1c := 0x0, wo := 0x0, rwl := 0x0, cask := 0x0, ro := 0x0 }
  , { name := "ADC0_BG", off := 0x50, n1 := 1, s1 := 0x4, n2 := 1, s2 := 4, reset := 0x0, rw := 0x8000000F, w1c := 0x0, wo := 0x0, rwl := 0x0, cask := 0x0, ro := 0x0 }
  , { name := "ADC0_BGRES", off := 0x54, n1 := 1, s1 := 0x4, n2 := 1, s2 := 4, reset := 0x0, rw := 0x0, w1c := 0x0, wo := 0x0, rwl := 0x0, cask := 0x0, ro := 0xFFFF }
  , { name := "ADC0_REQ", off := 0x60, n1 := 4, s1 := 0x10, n2 := 1, s2 := 4, reset := 0x0, rw := 0xBFFFF800, w1c := 0x0, wo := 0x40000000, rwl := 0x0, cask := 0x0, ro := 0x0 }
  , { name := "ADC0_REQT", off := 0x64, n1 := 4, s1 := 0x10, n2 := 1, s2 := 4, reset := 0x1, rw := 0xFFFFFFFF, w1c := 0x0, wo := 0x0, rwl := 0x0, cask := 0x0, ro := 0x0 }
  , { name := "ADC0_REQS", off := 0x68, n1 := 4, s1 := 0x10, n2 := 1, s2 := 4, reset := 0x0, rw := 0x0, w1c := 0x0, wo := 0x0, rwl := 0x0, cask := 0x0, ro := 0xC00007FF }
  , { name := "ADC0_REQTS", off := 0x6C, n1 := 4, s1 := 0x10, n2 := 1, s2 := 4, reset := 0x0, rw := 0x0, w1c := 0x0, wo := 0x0, rwl := 0x0, cask := 0x0, ro := 0xFFFFFFFF }
  , { name := "ADC0_FIR", off := 0x100, n1 := 1, s1 := 0x4, n2 := 1, s2 := 4, reset := 0x0, rw := 0x403F00FF, w1c := 0x0, wo := 0x80000000, rwl := 0x0, cask := 0x0, ro := 0x0 }
  , { name := "ADC0_FIRTHR", off := 0x104, n1 := 1, s1 := 0x4, n2 := 1, s2 := 4, reset := 0x7FFF8000, rw := 0xFFFFFFFF, w1c := 0x0, wo := 0x0, rwl := 0x0, cask := 0x0, ro := 0x0 }
  , { name := "ADC0_FIRY", off := 0x108, n1 := 1, s1 := 0x4, n2 := 1, s2 := 4, reset := 0x80000000, rw := 0x0, w1c := 0x0, wo := 0x0, rwl := 0x0, cask := 0x0, ro := 0x8000FFFF }
  , { name := "ADC0_EVLO", off := 0x110, n1 := 1, s1 := 0x4, n2 := 1, s2 := 4, reset := 0x0, rw := 0x0, w1c := 0x0, wo := 0x0, rwl := 0x0, cask := 0x0, ro := 0xFFFFFFFF }
  , { name := "ADC0_EVHI", off := 0x114, n1 := 1, s1 := 0x4, n2 := 1, s2 := 4, reset := 0x0, rw := 0x0, w1c := 0x0, wo := 0x0, rwl := 0x0, cask := 0x0, ro := 0xFFFFFFFF }
  , { name := "ADC0_EVSTAT", off := 0x118, n1 := 1, s1 := 0x4, n2 := 1, s2 := 4, reset := 0x0, rw := 0x0, w1c := 0x0, wo := 0x0, rwl := 0x0, cask := 0x0, ro := 0x7F }
  , { name := "ADC0_RBUF", off := 0x1000, n1 := 4, s1 := 0x800, n2 := 512, s2 := 4, reset := 0x0, rw := 0x0, w1c := 0x0, wo := 0x0, rwl := 0x0, cask := 0x0, ro := 0xFFFFFFFF }
  , { name := "ADC0_FIRCOEF", off := 0x3000, n1 := 256, s1 := 0x4, n2 := 1, s2 := 4, reset := 0x0, rw := 0xFFFF, w1c := 0x0, wo := 0x0, rwl := 0x0, cask := 0x0, ro := 0x0 } ]

/-- The registers of block 12, AFE. -/
def regRows12 : List RegRow :=
  [ { name := "AFE_DEFA", off := 0x0, n1 := 16, s1 := 0x8, n2 := 1, s2 := 4, reset := 0x3F8880, rw := 0xFFFFFFFF, w1c := 0x0, wo := 0x0, rwl := 0x0, cask := 0x0, ro := 0x0 }
  , { name := "AFE_DEFB", off := 0x4, n1 := 16, s1 := 0x8, n2 := 1, s2 := 4, reset := 0x0, rw := 0xFFF00000, w1c := 0x0, wo := 0x0, rwl := 0x0, cask := 0x0, ro := 0x0 }
  , { name := "AFE_PAR", off := 0x80, n1 := 16, s1 := 0x4, n2 := 1, s2 := 4, reset := 0x0, rw := 0xFFFFFFFF, w1c := 0x0, wo := 0x0, rwl := 0x0, cask := 0x0, ro := 0x0 }
  , { name := "AFE_RES", off := 0x100, n1 := 16, s1 := 0x4, n2 := 1, s2 := 4, reset := 0x0, rw := 0x0, w1c := 0x0, wo := 0x0, rwl := 0x0, cask := 0x0, ro := 0xC0FFFFFF }
  , { name := "AFE_RL", off := 0x140, n1 := 16, s1 := 0x4, n2 := 1, s2 := 4, reset := 0x0, rw := 0xFFFFFFFF, w1c := 0x0, wo := 0x0, rwl := 0x0, cask := 0x0, ro := 0x0 }
  , { name := "AFE_BIAS", off := 0x180, n1 := 1, s1 := 0x4, n2 := 1, s2 := 4, reset := 0x0, rw := 0xFF, w1c := 0x0, wo := 0x0, rwl := 0x0, cask := 0x0, ro := 0x0 }
  , { name := "AFE_MEXC", off := 0x184, n1 := 1, s1 := 0x4, n2 := 1, s2 := 4, reset := 0x50064, rw := 0x0, w1c := 0x0, wo := 0x0, rwl := 0x80FF00FF, cask := 0x0, ro := 0x0 }
  , { name := "AFE_PMON", off := 0x188, n1 := 1, s1 := 0x4, n2 := 1, s2 := 4, reset := 0x0, rw := 0x0, w1c := 0x0, wo := 0x0, rwl := 0x87FFF000, cask := 0x0, ro := 0x0 }
  , { name := "AFE_PGAIN", off := 0x18C, n1 := 1, s1 := 0x4, n2 := 1, s2 := 4, reset := 0x0, rw := 0x0, w1c := 0x0, wo := 0x0, rwl := 0xFFFF, cask := 0x0, ro := 0x0 }
  , { name := "AFE_PVI", off := 0x190, n1 := 1, s1 := 0x4, n2 := 1, s2 := 4, reset := 0x0, rw := 0x0, w1c := 0x0, wo := 0x0, rwl := 0x0, cask := 0x0, ro := 0xFFFFFFFF }
  , { name := "AFE_PWR", off := 0x194, n1 := 1, s1 := 0x4, n2 := 1, s2 := 4, reset := 0x0, rw := 0x0, w1c := 0x0, wo := 0x0, rwl := 0x0, cask := 0x0, ro := 0xFFFFFFFF }
  , { name := "AFE_PWR1", off := 0x198, n1 := 1, s1 := 0x4, n2 := 1, s2 := 4, reset := 0x0, rw := 0x0, w1c := 0x0, wo := 0x0, rwl := 0x0, cask := 0x0, ro := 0xFFFFFFFF }
  , { name := "AFE_FLAG", off := 0x1A0, n1 := 1, s1 := 0x4, n2 := 1, s2 := 4, reset := 0x0, rw := 0x0, w1c := 0xF, wo := 0x0, rwl := 0x0, cask := 0x0, ro := 0x0 }
  , { name := "AFE_NTCTAB", off := 0x200, n1 := 32, s1 := 0x4, n2 := 1, s2 := 4, reset := 0x0, rw := 0xFFFFFFFF, w1c := 0x0, wo := 0x0, rwl := 0x0, cask := 0x0, ro := 0x0 } ]

/-- The registers of block 13, THERM. -/
def regRows13 : List RegRow :=
  [ { name := "THERM_CFG", off := 0x0, n1 := 1, s1 := 0x4, n2 := 1, s2 := 4, reset := 0x3, rw := 0x0, w1c := 0x0, wo := 0x0, rwl := 0xF, cask := 0x0, ro := 0x0 }
  , { name := "THERM_EXT", off := 0x4, n1 := 1, s1 := 0x4, n2 := 1, s2 := 4, reset := 0x3210, rw := 0x0, w1c := 0x0, wo := 0x0, rwl := 0xFFFFF, cask := 0x0, ro := 0x0 }
  , { name := "THERM_LIM_A", off := 0x10, n1 := 1, s1 := 0x4, n2 := 1, s2 := 4, reset := 0x7800730, rw := 0x0, w1c := 0x0, wo := 0x0, rwl := 0xFFFFFFFF, cask := 0x0, ro := 0x0 }
  , { name := "THERM_LIM_A", off := 0x18, n1 := 1, s1 := 0x4, n2 := 1, s2 := 4, reset := 0x6900640, rw := 0x0, w1c := 0x0, wo := 0x0, rwl := 0xFFFFFFFF, cask := 0x0, ro := 0x0 }
  , { name := "THERM_LIM_A", off := 0x20, n1 := 1, s1 := 0x4, n2 := 1, s2 := 4, reset := 0x5500500, rw := 0x0, w1c := 0x0, wo := 0x0, rwl := 0xFFFFFFFF, cask := 0x0, ro := 0x0 }
  , { name := "THERM_LIM_B", off := 0x14, n1 := 1, s1 := 0x4, n2 := 1, s2 := 4, reset := 0x820, rw := 0x0, w1c := 0x0, wo := 0x0, rwl := 0xFFFF, cask := 0x0, ro := 0x0 }
  , { name := "THERM_LIM_B", off := 0x1C, n1 := 1, s1 := 0x4, n2 := 1, s2 := 4, reset := 0x730, rw := 0x0, w1c := 0x0, wo := 0x0, rwl := 0xFFFF, cask := 0x0, ro := 0x0 }
  , { name := "THERM_LIM_B", off := 0x24, n1 := 1, s1 := 0x4, n2 := 1, s2 := 4, reset := 0x5F0, rw := 0x0, w1c := 0x0, wo := 0x0, rwl := 0xFFFF, cask := 0x0, ro := 0x0 }
  , { name := "THERM_STAT", off := 0x30, n1 := 1, s1 := 0x4, n2 := 1, s2 := 4, reset := 0x0, rw := 0x0, w1c := 0x0, wo := 0x0, rwl := 0x0, cask := 0x0, ro := 0xFFFFFFFF }
  , { name := "THERM_CHG", off := 0x34, n1 := 1, s1 := 0x4, n2 := 1, s2 := 4, reset := 0x0, rw := 0x0, w1c := 0x0, wo := 0x0, rwl := 0x0, cask := 0x0, ro := 0xFF }
  , { name := "THERM_FLAG", off := 0x38, n1 := 1, s1 := 0x4, n2 := 1, s2 := 4, reset := 0x0, rw := 0x0, w1c := 0x3F, wo := 0x0, rwl := 0x0, cask := 0x0, ro := 0x0 }
  , { name := "THERM_CNT", off := 0x3C, n1 := 1, s1 := 0x4, n2 := 1, s2 := 4, reset := 0x0, rw := 0x0, w1c := 0x0, wo := 0x0, rwl := 0x0, cask := 0x0, ro := 0xFFFFFFFF }
  , { name := "THERM_SUSP", off := 0x40, n1 := 3, s1 := 0x4, n2 := 1, s2 := 4, reset := 0x0, rw := 0x0, w1c := 0x0, wo := 0x0, rwl := 0x0, cask := 0x0, ro := 0xFFFFFFFF }
  , { name := "THERM_T", off := 0x100, n1 := 72, s1 := 0x4, n2 := 1, s2 := 4, reset := 0x0, rw := 0x0, w1c := 0x0, wo := 0x0, rwl := 0x0, cask := 0x0, ro := 0xFFFFFFFF } ]

/-- The registers of block 14, LANE. -/
def regRows14 : List RegRow :=
  [ { name := "LANE_CFG", off := 0x10, n1 := 4, s1 := 0x4, n2 := 1, s2 := 4, reset := 0x400010, rw := 0x17F, w1c := 0x0, wo := 0x0, rwl := 0x98FF0000, cask := 0x0, ro := 0x0 }
  , { name := "LANE_STAT", off := 0x20, n1 := 4, s1 := 0x4, n2 := 1, s2 := 4, reset := 0x0, rw := 0x0, w1c := 0x0, wo := 0x0, rwl := 0x0, cask := 0x0, ro := 0xF }
  , { name := "LANE_EYE", off := 0x30, n1 := 4, s1 := 0x4, n2 := 1, s2 := 4, reset := 0x0, rw := 0x0, w1c := 0x0, wo := 0x0, rwl := 0x0, cask := 0x0, ro := 0x1FF007F }
  , { name := "LANE_EQ", off := 0x40, n1 := 4, s1 := 0x4, n2 := 1, s2 := 4, reset := 0x0, rw := 0x0, w1c := 0x0, wo := 0x0, rwl := 0x0, cask := 0x0, ro := 0x3F3F3F0F }
  , { name := "LANE_FLAG", off := 0x60, n1 := 1, s1 := 0x4, n2 := 1, s2 := 4, reset := 0x0, rw := 0x0, w1c := 0xFFF0, wo := 0x0, rwl := 0x0, cask := 0x0, ro := 0x0 }
  , { name := "LANE_ERR", off := 0x70, n1 := 4, s1 := 0x4, n2 := 1, s2 := 4, reset := 0x0, rw := 0x0, w1c := 0x0, wo := 0x0, rwl := 0x0, cask := 0x0, ro := 0xFFFF } ]

/-- The registers of block 15, ETH0. -/
def regRows15 : List RegRow :=
  [ { name := "ETH_CFG", off := 0x0, n1 := 1, s1 := 0x4, n2 := 1, s2 := 4, reset := 0x13, rw := 0x0, w1c := 0x0, wo := 0x0, rwl := 0x80000013, cask := 0x0, ro := 0x0 }
  , { name := "ETH_MACLO", off := 0x4, n1 := 1, s1 := 0x4, n2 := 1, s2 := 4, reset := 0x0, rw := 0x0, w1c := 0x0, wo := 0x0, rwl := 0xFFFFFFFF, cask := 0x0, ro := 0x0 }
  , { name := "ETH_MACHI", off := 0x8, n1 := 1, s1 := 0x4, n2 := 1, s2 := 4, reset := 0x0, rw := 0x0, w1c := 0x0, wo := 0x0, rwl := 0xFFFF, cask := 0x0, ro := 0x0 }
  , { name := "ETH_IP", off := 0xC, n1 := 1, s1 := 0x4, n2 := 1, s2 := 4, reset := 0x0, rw := 0x0, w1c := 0x0, wo := 0x0, rwl := 0xFFFFFFFF, cask := 0x0, ro := 0x0 }
  , { name := "ETH_MASK", off := 0x10, n1 := 1, s1 := 0x4, n2 := 1, s2 := 4, reset := 0x0, rw := 0x0, w1c := 0x0, wo := 0x0, rwl := 0xFFFFFFFF, cask := 0x0, ro := 0x0 }
  , { name := "ETH_GW", off := 0x14, n1 := 1, s1 := 0x4, n2 := 1, s2 := 4, reset := 0x0, rw := 0x0, w1c := 0x0, wo := 0x0, rwl := 0xFFFFFFFF, cask := 0x0, ro := 0x0 }
  , { name := "ETH_VLAN", off := 0x18, n1 := 1, s1 := 0x4, n2 := 1, s2 := 4, reset := 0x0, rw := 0x0, w1c := 0x0, wo := 0x0, rwl := 0x8000EFFF, cask := 0x0, ro := 0x0 }
  , { name := "ETH_PDST", off := 0x20, n1 := 1, s1 := 0x4, n2 := 1, s2 := 4, reset := 0x0, rw := 0xFFFFFFFF, w1c := 0x0, wo := 0x0, rwl := 0x0, cask := 0x0, ro := 0x0 }
  , { name := "ETH_LDST", off := 0x24, n1 := 1, s1 := 0x4, n2 := 1, s2 := 4, reset := 0x0, rw := 0xFFFFFFFF, w1c := 0x0, wo := 0x0, rwl := 0x0, cask := 0x0, ro := 0x0 }
  , { name := "ETH_PORTS", off := 0x28, n1 := 1, s1 := 0x4, n2 := 1, s2 := 4, reset := 0xC400C401, rw := 0xFFFFFFFF, w1c := 0x0, wo := 0x0, rwl := 0x0, cask := 0x0, ro := 0x0 }
  , { name := "ETH_SPORT", off := 0x2C, n1 := 1, s1 := 0x4, n2 := 1, s2 := 4, reset := 0xC400, rw := 0xFFFF, w1c := 0x0, wo := 0x0, rwl := 0x0, cask := 0x0, ro := 0x0 }
  , { name := "ETH_DSCP", off := 0x30, n1 := 1, s1 := 0x4, n2 := 1, s2 := 4, reset := 0x2E221000, rw := 0x3F3F3F3F, w1c := 0x0, wo := 0x0, rwl := 0x0, cask := 0x0, ro := 0x0 }
  , { name := "ETH_TTL", off := 0x34, n1 := 1, s1 := 0x4, n2 := 1, s2 := 4, reset := 0x40, rw := 0xFF, w1c := 0x0, wo := 0x0, rwl := 0x0, cask := 0x0, ro := 0x0 }
  , { name := "ETH_USER", off := 0x38, n1 := 1, s1 := 0x4, n2 := 1, s2 := 4, reset := 0x1, rw := 0xFFFFFFFF, w1c := 0x0, wo := 0x0, rwl := 0x0, cask := 0x0, ro := 0x0 }
  , { name := "ETH_ASYM_I", off := 0x40, n1 := 1, s1 := 0x4, n2 := 1, s2 := 4, reset := 0x0, rw := 0xFFFFFFFF, w1c := 0x0, wo := 0x0, rwl := 0x0, cask := 0x0, ro := 0x0 }
  , { name := "ETH_ASYM_E", off := 0x44, n1 := 1, s1 := 0x4, n2 := 1, s2 := 4, reset := 0x0, rw := 0xFFFFFFFF, w1c := 0x0, wo := 0x0, rwl := 0x0, cask := 0x0, ro := 0x0 }
  , { name := "ETH_STAT", off := 0x50, n1 := 1, s1 := 0x4, n2 := 1, s2 := 4, reset := 0x0, rw := 0x0, w1c := 0x0, wo := 0x0, rwl := 0x0, cask := 0x0, ro := 0x7 }
  , { name := "ETH_FLAG", off := 0x54, n1 := 1, s1 := 0x4, n2 := 1, s2 := 4, reset := 0x0, rw := 0x0, w1c := 0x3F, wo := 0x0, rwl := 0x0, cask := 0x0, ro := 0x0 }
  , { name := "ETH_QSTAT", off := 0x60, n1 := 1, s1 := 0x4, n2 := 1, s2 := 4, reset := 0x0, rw := 0x0, w1c := 0x0, wo := 0x0, rwl := 0x0, cask := 0x0, ro := 0x1F1F3F }
  , { name := "ETH_QSEL", off := 0x64, n1 := 1, s1 := 0x4, n2 := 1, s2 := 4, reset := 0x0, rw := 0x3, w1c := 0x0, wo := 0x0, rwl := 0x0, cask := 0x0, ro := 0x0 }
  , { name := "ETH_QPOP", off := 0x68, n1 := 1, s1 := 0x4, n2 := 1, s2 := 4, reset := 0x0, rw := 0x0, w1c := 0x0, wo := 0x1, rwl := 0x0, cask := 0x0, ro := 0x0 }
  , { name := "ETH_TXCMD", off := 0x70, n1 := 1, s1 := 0x4, n2 := 1, s2 := 4, reset := 0x0, rw := 0x400007FF, w1c := 0x0, wo := 0x80000000, rwl := 0x0, cask := 0x0, ro := 0x0 }
  , { name := "ETH_TXSTAT", off := 0x74, n1 := 1, s1 := 0x4, n2 := 1, s2 := 4, reset := 0x0, rw := 0x0, w1c := 0x0, wo := 0x0, rwl := 0x0, cask := 0x0, ro := 0x1 }
  , { name := "ETH_TXTS0", off := 0x78, n1 := 1, s1 := 0x4, n2 := 1, s2 := 4, reset := 0x0, rw := 0x0, w1c := 0x0, wo := 0x0, rwl := 0x0, cask := 0x0, ro := 0x8F00FFFF }
  , { name := "ETH_TXTS1", off := 0x7C, n1 := 1, s1 := 0x4, n2 := 1, s2 := 4, reset := 0x0, rw := 0x0, w1c := 0x0, wo := 0x0, rwl := 0x0, cask := 0x0, ro := 0xFFFFFFFF }
  , { name := "ETH_TXTS2", off := 0x80, n1 := 1, s1 := 0x4, n2 := 1, s2 := 4, reset := 0x0, rw := 0x0, w1c := 0x0, wo := 0x0, rwl := 0x0, cask := 0x0, ro := 0xFFFFFFFF }
  , { name := "ETH_CNT_RX", off := 0x90, n1 := 1, s1 := 0x4, n2 := 1, s2 := 4, reset := 0x0, rw := 0x0, w1c := 0x0, wo := 0x0, rwl := 0x0, cask := 0x0, ro := 0xFFFFFFFF }
  , { name := "ETH_CNT_TX", off := 0x94, n1 := 1, s1 := 0x4, n2 := 1, s2 := 4, reset := 0x0, rw := 0x0, w1c := 0x0, wo := 0x0, rwl := 0x0, cask := 0x0, ro := 0xFFFFFFFF }
  , { name := "ETH_CNT_RXBAD", off := 0x98, n1 := 1, s1 := 0x4, n2 := 1, s2 := 4, reset := 0x0, rw := 0x0, w1c := 0x0, wo := 0x0, rwl := 0x0, cask := 0x0, ro := 0xFFFFFFFF }
  , { name := "ETH_CNT_DROP", off := 0x9C, n1 := 1, s1 := 0x4, n2 := 1, s2 := 4, reset := 0x0, rw := 0x0, w1c := 0x0, wo := 0x0, rwl := 0x0, cask := 0x0, ro := 0xFFFFFFFF }
  , { name := "PRP_SUP", off := 0xA0, n1 := 1, s1 := 0x4, n2 := 1, s2 := 4, reset := 0x19007D0, rw := 0xFFFFFFFF, w1c := 0x0, wo := 0x0, rwl := 0x0, cask := 0x0, ro := 0x0 }
  , { name := "PRP_SEQ", off := 0xA4, n1 := 1, s1 := 0x4, n2 := 1, s2 := 4, reset := 0x0, rw := 0x0, w1c := 0x0, wo := 0x0, rwl := 0x0, cask := 0x0, ro := 0xFFFF }
  , { name := "PRP_DUP", off := 0xA8, n1 := 1, s1 := 0x4, n2 := 1, s2 := 4, reset := 0x0, rw := 0x0, w1c := 0x0, wo := 0x0, rwl := 0x0, cask := 0x0, ro := 0xFFFFFFFF }
  , { name := "PRP_CNT", off := 0xAC, n1 := 1, s1 := 0x4, n2 := 1, s2 := 4, reset := 0x0, rw := 0x0, w1c := 0x0, wo := 0x0, rwl := 0x0, cask := 0x0, ro := 0xFFFFFFFF }
  , { name := "ETH_QHEAD", off := 0x1000, n1 := 512, s1 := 0x4, n2 := 1, s2 := 4, reset := 0x0, rw := 0x0, w1c := 0x0, wo := 0x0, rwl := 0x0, cask := 0x0, ro := 0xFFFFFFFF }
  , { name := "ETH_TXBUF", off := 0x1800, n1 := 512, s1 := 0x4, n2 := 1, s2 := 4, reset := 0x0, rw := 0xFFFFFFFF, w1c := 0x0, wo := 0x0, rwl := 0x0, cask := 0x0, ro := 0x0 } ]

/-- The registers of block 16, ETH1. -/
def regRows16 : List RegRow :=
  [ { name := "ETH_CFG", off := 0x0, n1 := 1, s1 := 0x4, n2 := 1, s2 := 4, reset := 0x13, rw := 0x0, w1c := 0x0, wo := 0x0, rwl := 0x13, cask := 0x0, ro := 0x0 }
  , { name := "ETH_MACLO", off := 0x4, n1 := 1, s1 := 0x4, n2 := 1, s2 := 4, reset := 0x0, rw := 0x0, w1c := 0x0, wo := 0x0, rwl := 0xFFFFFFFF, cask := 0x0, ro := 0x0 }
  , { name := "ETH_MACHI", off := 0x8, n1 := 1, s1 := 0x4, n2 := 1, s2 := 4, reset := 0x0, rw := 0x0, w1c := 0x0, wo := 0x0, rwl := 0xFFFF, cask := 0x0, ro := 0x0 }
  , { name := "ETH_IP", off := 0xC, n1 := 1, s1 := 0x4, n2 := 1, s2 := 4, reset := 0x0, rw := 0x0, w1c := 0x0, wo := 0x0, rwl := 0xFFFFFFFF, cask := 0x0, ro := 0x0 }
  , { name := "ETH_MASK", off := 0x10, n1 := 1, s1 := 0x4, n2 := 1, s2 := 4, reset := 0x0, rw := 0x0, w1c := 0x0, wo := 0x0, rwl := 0xFFFFFFFF, cask := 0x0, ro := 0x0 }
  , { name := "ETH_GW", off := 0x14, n1 := 1, s1 := 0x4, n2 := 1, s2 := 4, reset := 0x0, rw := 0x0, w1c := 0x0, wo := 0x0, rwl := 0xFFFFFFFF, cask := 0x0, ro := 0x0 }
  , { name := "ETH_VLAN", off := 0x18, n1 := 1, s1 := 0x4, n2 := 1, s2 := 4, reset := 0x0, rw := 0x0, w1c := 0x0, wo := 0x0, rwl := 0x8000EFFF, cask := 0x0, ro := 0x0 }
  , { name := "ETH_PDST", off := 0x20, n1 := 1, s1 := 0x4, n2 := 1, s2 := 4, reset := 0x0, rw := 0xFFFFFFFF, w1c := 0x0, wo := 0x0, rwl := 0x0, cask := 0x0, ro := 0x0 }
  , { name := "ETH_LDST", off := 0x24, n1 := 1, s1 := 0x4, n2 := 1, s2 := 4, reset := 0x0, rw := 0xFFFFFFFF, w1c := 0x0, wo := 0x0, rwl := 0x0, cask := 0x0, ro := 0x0 }
  , { name := "ETH_PORTS", off := 0x28, n1 := 1, s1 := 0x4, n2 := 1, s2 := 4, reset := 0xC400C401, rw := 0xFFFFFFFF, w1c := 0x0, wo := 0x0, rwl := 0x0, cask := 0x0, ro := 0x0 }
  , { name := "ETH_SPORT", off := 0x2C, n1 := 1, s1 := 0x4, n2 := 1, s2 := 4, reset := 0xC400, rw := 0xFFFF, w1c := 0x0, wo := 0x0, rwl := 0x0, cask := 0x0, ro := 0x0 }
  , { name := "ETH_DSCP", off := 0x30, n1 := 1, s1 := 0x4, n2 := 1, s2 := 4, reset := 0x2E221000, rw := 0x3F3F3F3F, w1c := 0x0, wo := 0x0, rwl := 0x0, cask := 0x0, ro := 0x0 }
  , { name := "ETH_TTL", off := 0x34, n1 := 1, s1 := 0x4, n2 := 1, s2 := 4, reset := 0x40, rw := 0xFF, w1c := 0x0, wo := 0x0, rwl := 0x0, cask := 0x0, ro := 0x0 }
  , { name := "ETH_USER", off := 0x38, n1 := 1, s1 := 0x4, n2 := 1, s2 := 4, reset := 0x1, rw := 0xFFFFFFFF, w1c := 0x0, wo := 0x0, rwl := 0x0, cask := 0x0, ro := 0x0 }
  , { name := "ETH_ASYM_I", off := 0x40, n1 := 1, s1 := 0x4, n2 := 1, s2 := 4, reset := 0x0, rw := 0xFFFFFFFF, w1c := 0x0, wo := 0x0, rwl := 0x0, cask := 0x0, ro := 0x0 }
  , { name := "ETH_ASYM_E", off := 0x44, n1 := 1, s1 := 0x4, n2 := 1, s2 := 4, reset := 0x0, rw := 0xFFFFFFFF, w1c := 0x0, wo := 0x0, rwl := 0x0, cask := 0x0, ro := 0x0 }
  , { name := "ETH_STAT", off := 0x50, n1 := 1, s1 := 0x4, n2 := 1, s2 := 4, reset := 0x0, rw := 0x0, w1c := 0x0, wo := 0x0, rwl := 0x0, cask := 0x0, ro := 0x7 }
  , { name := "ETH_FLAG", off := 0x54, n1 := 1, s1 := 0x4, n2 := 1, s2 := 4, reset := 0x0, rw := 0x0, w1c := 0x1F, wo := 0x0, rwl := 0x0, cask := 0x0, ro := 0x0 }
  , { name := "ETH_QSTAT", off := 0x60, n1 := 1, s1 := 0x4, n2 := 1, s2 := 4, reset := 0x0, rw := 0x0, w1c := 0x0, wo := 0x0, rwl := 0x0, cask := 0x0, ro := 0x1F1F3F }
  , { name := "ETH_QSEL", off := 0x64, n1 := 1, s1 := 0x4, n2 := 1, s2 := 4, reset := 0x0, rw := 0x3, w1c := 0x0, wo := 0x0, rwl := 0x0, cask := 0x0, ro := 0x0 }
  , { name := "ETH_QPOP", off := 0x68, n1 := 1, s1 := 0x4, n2 := 1, s2 := 4, reset := 0x0, rw := 0x0, w1c := 0x0, wo := 0x1, rwl := 0x0, cask := 0x0, ro := 0x0 }
  , { name := "ETH_TXCMD", off := 0x70, n1 := 1, s1 := 0x4, n2 := 1, s2 := 4, reset := 0x0, rw := 0x400007FF, w1c := 0x0, wo := 0x80000000, rwl := 0x0, cask := 0x0, ro := 0x0 }
  , { name := "ETH_TXSTAT", off := 0x74, n1 := 1, s1 := 0x4, n2 := 1, s2 := 4, reset := 0x0, rw := 0x0, w1c := 0x0, wo := 0x0, rwl := 0x0, cask := 0x0, ro := 0x1 }
  , { name := "ETH_TXTS0", off := 0x78, n1 := 1, s1 := 0x4, n2 := 1, s2 := 4, reset := 0x0, rw := 0x0, w1c := 0x0, wo := 0x0, rwl := 0x0, cask := 0x0, ro := 0x8F00FFFF }
  , { name := "ETH_TXTS1", off := 0x7C, n1 := 1, s1 := 0x4, n2 := 1, s2 := 4, reset := 0x0, rw := 0x0, w1c := 0x0, wo := 0x0, rwl := 0x0, cask := 0x0, ro := 0xFFFFFFFF }
  , { name := "ETH_TXTS2", off := 0x80, n1 := 1, s1 := 0x4, n2 := 1, s2 := 4, reset := 0x0, rw := 0x0, w1c := 0x0, wo := 0x0, rwl := 0x0, cask := 0x0, ro := 0xFFFFFFFF }
  , { name := "ETH_CNT_RX", off := 0x90, n1 := 1, s1 := 0x4, n2 := 1, s2 := 4, reset := 0x0, rw := 0x0, w1c := 0x0, wo := 0x0, rwl := 0x0, cask := 0x0, ro := 0xFFFFFFFF }
  , { name := "ETH_CNT_TX", off := 0x94, n1 := 1, s1 := 0x4, n2 := 1, s2 := 4, reset := 0x0, rw := 0x0, w1c := 0x0, wo := 0x0, rwl := 0x0, cask := 0x0, ro := 0xFFFFFFFF }
  , { name := "ETH_CNT_RXBAD", off := 0x98, n1 := 1, s1 := 0x4, n2 := 1, s2 := 4, reset := 0x0, rw := 0x0, w1c := 0x0, wo := 0x0, rwl := 0x0, cask := 0x0, ro := 0xFFFFFFFF }
  , { name := "ETH_CNT_DROP", off := 0x9C, n1 := 1, s1 := 0x4, n2 := 1, s2 := 4, reset := 0x0, rw := 0x0, w1c := 0x0, wo := 0x0, rwl := 0x0, cask := 0x0, ro := 0xFFFFFFFF }
  , { name := "ETH_QHEAD", off := 0x1000, n1 := 512, s1 := 0x4, n2 := 1, s2 := 4, reset := 0x0, rw := 0x0, w1c := 0x0, wo := 0x0, rwl := 0x0, cask := 0x0, ro := 0xFFFFFFFF }
  , { name := "ETH_TXBUF", off := 0x1800, n1 := 512, s1 := 0x4, n2 := 1, s2 := 4, reset := 0x0, rw := 0xFFFFFFFF, w1c := 0x0, wo := 0x0, rwl := 0x0, cask := 0x0, ro := 0x0 } ]

/-- The registers of block 17, TIME. -/
def regRows17 : List RegRow :=
  [ { name := "TIME_NS", off := 0x0, n1 := 1, s1 := 0x4, n2 := 1, s2 := 4, reset := 0x0, rw := 0x0, w1c := 0x0, wo := 0x0, rwl := 0x0, cask := 0x0, ro := 0xFFFFFFFF }
  , { name := "TIME_FRAC", off := 0x4, n1 := 1, s1 := 0x4, n2 := 1, s2 := 4, reset := 0x0, rw := 0x0, w1c := 0x0, wo := 0x0, rwl := 0x0, cask := 0x0, ro := 0xFFFFFFFF }
  , { name := "TIME_INC", off := 0x8, n1 := 1, s1 := 0x4, n2 := 1, s2 := 4, reset := 0x40000000, rw := 0xFFFFFFFF, w1c := 0x0, wo := 0x0, rwl := 0x0, cask := 0x0, ro := 0x0 }
  , { name := "TIME_OFSF", off := 0xC, n1 := 1, s1 := 0x4, n2 := 1, s2 := 4, reset := 0x0, rw := 0xFFFFFFFF, w1c := 0x0, wo := 0x0, rwl := 0x0, cask := 0x0, ro := 0x0 }
  , { name := "TIME_OFS", off := 0x10, n1 := 1, s1 := 0x4, n2 := 1, s2 := 4, reset := 0x0, rw := 0x0, w1c := 0x0, wo := 0xFFFFFFFF, rwl := 0x0, cask := 0x0, ro := 0x0 }
  , { name := "TIME_CTRL", off := 0x14, n1 := 1, s1 := 0x4, n2 := 1, s2 := 4, reset := 0x271000, rw := 0xFFFF03, w1c := 0x0, wo := 0x0, rwl := 0x0, cask := 0x0, ro := 0x0 }
  , { name := "TIME_PPS", off := 0x18, n1 := 1, s1 := 0x4, n2 := 1, s2 := 4, reset := 0x0, rw := 0xFFFFFFFF, w1c := 0x0, wo := 0x0, rwl := 0x0, cask := 0x0, ro := 0x0 }
  , { name := "TIME_STAT", off := 0x1C, n1 := 1, s1 := 0x4, n2 := 1, s2 := 4, reset := 0x0, rw := 0x0, w1c := 0x0, wo := 0x0, rwl := 0x0, cask := 0x0, ro := 0xFFFF0003 }
  , { name := "TIME_FLAG", off := 0x20, n1 := 1, s1 := 0x4, n2 := 1, s2 := 4, reset := 0x0, rw := 0x0, w1c := 0xF, wo := 0x0, rwl := 0x0, cask := 0x0, ro := 0x0 } ]

/-- The registers of block 18, DWL. -/
def regRows18 : List RegRow :=
  [ { name := "DWL_CTRL", off := 0x0, n1 := 1, s1 := 0x4, n2 := 1, s2 := 4, reset := 0x1, rw := 0x0, w1c := 0x0, wo := 0x0, rwl := 0x7, cask := 0x0, ro := 0x0 }
  , { name := "DWL_STAT", off := 0x4, n1 := 1, s1 := 0x4, n2 := 1, s2 := 4, reset := 0x0, rw := 0x0, w1c := 0x0, wo := 0x0, rwl := 0x0, cask := 0x0, ro := 0xF }
  , { name := "DWL_CREDIT", off := 0x8, n1 := 1, s1 := 0x4, n2 := 1, s2 := 4, reset := 0x0, rw := 0x0, w1c := 0x0, wo := 0x0, rwl := 0x0, cask := 0x0, ro := 0xFFFFFFFF }
  , { name := "DWL_FLAG", off := 0xC, n1 := 1, s1 := 0x4, n2 := 1, s2 := 4, reset := 0x0, rw := 0x0, w1c := 0x1F, wo := 0x0, rwl := 0x0, cask := 0x0, ro := 0x0 }
  , { name := "DWL_CNT", off := 0x10, n1 := 1, s1 := 0x4, n2 := 1, s2 := 4, reset := 0x0, rw := 0x0, w1c := 0x0, wo := 0x0, rwl := 0x0, cask := 0x0, ro := 0xFFFFFFFF }
  , { name := "DWL_LRSCNT", off := 0x14, n1 := 1, s1 := 0x4, n2 := 1, s2 := 4, reset := 0x0, rw := 0x0, w1c := 0x0, wo := 0x0, rwl := 0x0, cask := 0x0, ro := 0xFFFFFFFF } ]

/-- The registers of block 19, AMP. -/
def regRows19 : List RegRow :=
  [ { name := "AMP_CFG", off := 0x0, n1 := 1, s1 := 0x4, n2 := 1, s2 := 4, reset := 0xC4220007, rw := 0x0, w1c := 0x0, wo := 0x0, rwl := 0xFFFF0007, cask := 0x0, ro := 0x0 }
  , { name := "AMP_STATE", off := 0x4, n1 := 1, s1 := 0x4, n2 := 1, s2 := 4, reset := 0x0, rw := 0x0, w1c := 0x0, wo := 0x0, rwl := 0x0, cask := 0x0, ro := 0x1F17 }
  , { name := "AMP_CNT0", off := 0x8, n1 := 1, s1 := 0x4, n2 := 1, s2 := 4, reset := 0x0, rw := 0x0, w1c := 0x0, wo := 0x0, rwl := 0x0, cask := 0x0, ro := 0xFFFFFFFF }
  , { name := "AMP_CNT1", off := 0xC, n1 := 1, s1 := 0x4, n2 := 1, s2 := 4, reset := 0x0, rw := 0x0, w1c := 0x0, wo := 0x0, rwl := 0x0, cask := 0x0, ro := 0xFFFFFFFF }
  , { name := "AMP_CNT2", off := 0x10, n1 := 1, s1 := 0x4, n2 := 1, s2 := 4, reset := 0x0, rw := 0x0, w1c := 0x0, wo := 0x0, rwl := 0x0, cask := 0x0, ro := 0xFFFFFFFF }
  , { name := "AMP_QSTAT", off := 0x14, n1 := 1, s1 := 0x4, n2 := 1, s2 := 4, reset := 0x0, rw := 0x0, w1c := 0x0, wo := 0x0, rwl := 0x0, cask := 0x0, ro := 0x3F }
  , { name := "AMP_FLAG", off := 0x18, n1 := 1, s1 := 0x4, n2 := 1, s2 := 4, reset := 0x0, rw := 0x0, w1c := 0x1F, wo := 0x0, rwl := 0x0, cask := 0x0, ro := 0x0 } ]

/-- The registers of block 20, GUARD. -/
def regRows20 : List RegRow :=
  [ { name := "GUARD_CFG", off := 0x0, n1 := 1, s1 := 0x4, n2 := 1, s2 := 4, reset := 0x101, rw := 0x773FF, w1c := 0x0, wo := 0x0, rwl := 0x0, cask := 0x0, ro := 0x0 }
  , { name := "GUARD_DISC", off := 0x4, n1 := 1, s1 := 0x4, n2 := 1, s2 := 4, reset := 0x64, rw := 0x7FF, w1c := 0x0, wo := 0x0, rwl := 0x0, cask := 0x0, ro := 0x0 }
  , { name := "GUARD_PULSE", off := 0x8, n1 := 1, s1 := 0x4, n2 := 1, s2 := 4, reset := 0x6400C8, rw := 0xFFFF01FF, w1c := 0x0, wo := 0x0, rwl := 0x0, cask := 0x0, ro := 0x0 }
  , { name := "GUARD_EDM", off := 0xC, n1 := 1, s1 := 0x4, n2 := 1, s2 := 4, reset := 0xC8, rw := 0x1FF, w1c := 0x0, wo := 0x0, rwl := 0x0, cask := 0x0, ro := 0x0 }
  , { name := "GUARD_DET", off := 0x10, n1 := 1, s1 := 0x4, n2 := 1, s2 := 4, reset := 0x0, rw := 0xFF, w1c := 0x0, wo := 0x0, rwl := 0x0, cask := 0x0, ro := 0x0 }
  , { name := "GUARD_REF", off := 0x14, n1 := 1, s1 := 0x4, n2 := 1, s2 := 4, reset := 0x0, rw := 0xFFFFFFFF, w1c := 0x0, wo := 0x0, rwl := 0x0, cask := 0x0, ro := 0x0 }
  , { name := "GUARD_REF", off := 0x18, n1 := 1, s1 := 0x4, n2 := 1, s2 := 4, reset := 0x500040, rw := 0xFFFFFFFF, w1c := 0x0, wo := 0x0, rwl := 0x0, cask := 0x0, ro := 0x0 }
  , { name := "GUARD_REF", off := 0x1C, n1 := 1, s1 := 0x4, n2 := 1, s2 := 4, reset := 0x4020100, rw := 0xFFFFFFFF, w1c := 0x0, wo := 0x0, rwl := 0x0, cask := 0x0, ro := 0x0 }
  , { name := "GUARD_REF", off := 0x20, n1 := 1, s1 := 0x4, n2 := 1, s2 := 4, reset := 0x102, rw := 0xFFFFFFFF, w1c := 0x0, wo := 0x0, rwl := 0x0, cask := 0x0, ro := 0x0 }
  , { name := "GUARD_REF", off := 0x24, n1 := 1, s1 := 0x4, n2 := 1, s2 := 4, reset := 0xC000, rw := 0xFFFFFFFF, w1c := 0x0, wo := 0x0, rwl := 0x0, cask := 0x0, ro := 0x0 }
  , { name := "GUARD_REF", off := 0x28, n1 := 1, s1 := 0x4, n2 := 1, s2 := 4, reset := 0x81202, rw := 0xFFFFFFFF, w1c := 0x0, wo := 0x0, rwl := 0x0, cask := 0x0, ro := 0x0 }
  , { name := "GUARD_STAT", off := 0x40, n1 := 1, s1 := 0x4, n2 := 1, s2 := 4, reset := 0x7F0000, rw := 0x0, w1c := 0x0, wo := 0x0, rwl := 0x0, cask := 0x0, ro := 0x7F0FFF }
  , { name := "GUARD_FAULT", off := 0x44, n1 := 1, s1 := 0x4, n2 := 1, s2 := 4, reset := 0x0, rw := 0x0, w1c := 0x0, wo := 0x0, rwl := 0x0, cask := 0x0, ro := 0x3F1 }
  , { name := "GUARD_FLAG", off := 0x48, n1 := 1, s1 := 0x4, n2 := 1, s2 := 4, reset := 0x0, rw := 0x0, w1c := 0x1F, wo := 0x0, rwl := 0x0, cask := 0x0, ro := 0x0 }
  , { name := "GUARD_CRC", off := 0x4C, n1 := 1, s1 := 0x4, n2 := 1, s2 := 4, reset := 0x0, rw := 0x0, w1c := 0x0, wo := 0x0, rwl := 0x0, cask := 0x0, ro := 0xFFFFFFFF }
  , { name := "GUARD_CRCREF", off := 0x50, n1 := 1, s1 := 0x4, n2 := 1, s2 := 4, reset := 0x0, rw := 0x0, w1c := 0x0, wo := 0x0, rwl := 0x0, cask := 0x0, ro := 0xFFFFFFFF }
  , { name := "GUARD_LOGCNT", off := 0x54, n1 := 1, s1 := 0x4, n2 := 1, s2 := 4, reset := 0x0, rw := 0x0, w1c := 0x0, wo := 0x0, rwl := 0x0, cask := 0x0, ro := 0xFFFFFFFF }
  , { name := "GUARD_CNT", off := 0x58, n1 := 1, s1 := 0x4, n2 := 1, s2 := 4, reset := 0x0, rw := 0x0, w1c := 0x0, wo := 0x0, rwl := 0x0, cask := 0x0, ro := 0xFFFFFFFF }
  , { name := "GUARD_PW", off := 0x100, n1 := 8, s1 := 0x40, n2 := 12, s2 := 4, reset := 0x0, rw := 0x0, w1c := 0x0, wo := 0xFFFFFFFF, rwl := 0x0, cask := 0x0, ro := 0x0 } ]

/-- The registers of block 21, CASK. -/
def regRows21 : List RegRow :=
  [ { name := "CASK_CALCFG", off := 0x1F00, n1 := 1, s1 := 0x4, n2 := 1, s2 := 4, reset := 0x0, rw := 0x0, w1c := 0x0, wo := 0x0, rwl := 0x0, cask := 0x10F, ro := 0x600 }
  , { name := "CAL_TEMP", off := 0x2000, n1 := 8, s1 := 0xC00, n2 := 1, s2 := 4, reset := 0x0, rw := 0x0, w1c := 0x0, wo := 0x0, rwl := 0x0, cask := 0xFFFF, ro := 0x0 }
  , { name := "CAL_STR", off := 0x2010, n1 := 8, s1 := 0xC00, n2 := 4, s2 := 4, reset := 0x0, rw := 0x0, w1c := 0x0, wo := 0x0, rwl := 0x0, cask := 0xFFFFFFFF, ro := 0x0 }
  , { name := "CAL_CH", off := 0x2400, n1 := 8, s1 := 0xC00, n2 := 512, s2 := 4, reset := 0x0, rw := 0x0, w1c := 0x0, wo := 0x0, rwl := 0x0, cask := 0xFFFFFFFF, ro := 0x0 }
  , { name := "CASK_ID", off := 0x8000, n1 := 1, s1 := 0x4, n2 := 1, s2 := 4, reset := 0x0, rw := 0x0, w1c := 0x0, wo := 0x0, rwl := 0x0, cask := 0x0, ro := 0xFFFFFFFF }
  , { name := "CASK_SHA", off := 0x8004, n1 := 8, s1 := 0x4, n2 := 1, s2 := 4, reset := 0x0, rw := 0x0, w1c := 0x0, wo := 0x0, rwl := 0x0, cask := 0x0, ro := 0xFFFFFFFF }
  , { name := "CASK_MEC", off := 0x8024, n1 := 1, s1 := 0x4, n2 := 1, s2 := 4, reset := 0x0, rw := 0x0, w1c := 0x0, wo := 0x0, rwl := 0x0, cask := 0x0, ro := 0xFFFFFFFF }
  , { name := "CASK_STAT", off := 0x8028, n1 := 1, s1 := 0x4, n2 := 1, s2 := 4, reset := 0x0, rw := 0x0, w1c := 0x0, wo := 0x0, rwl := 0x0, cask := 0x0, ro := 0xFFFF01E7 }
  , { name := "CASK_SEQ", off := 0x802C, n1 := 1, s1 := 0x4, n2 := 1, s2 := 4, reset := 0x0, rw := 0x0, w1c := 0x0, wo := 0x0, rwl := 0x0, cask := 0x0, ro := 0xFFFFFFFF }
  , { name := "CASK_KCV", off := 0x8030, n1 := 1, s1 := 0x4, n2 := 1, s2 := 4, reset := 0x0, rw := 0x0, w1c := 0x0, wo := 0x0, rwl := 0x0, cask := 0x0, ro := 0xFFFFFF }
  , { name := "CASK_LRSHDR", off := 0x1000, n1 := 1, s1 := 0x4, n2 := 1, s2 := 4, reset := 0x0, rw := 0xFFFFF, w1c := 0x0, wo := 0x0, rwl := 0x0, cask := 0x0, ro := 0x0 }
  , { name := "CASK_LRSTS", off := 0x1004, n1 := 1, s1 := 0x4, n2 := 1, s2 := 4, reset := 0x0, rw := 0xFFFFFFFF, w1c := 0x0, wo := 0x0, rwl := 0x0, cask := 0x0, ro := 0x0 }
  , { name := "CASK_LRSDATA", off := 0x1008, n1 := 11, s1 := 0x4, n2 := 1, s2 := 4, reset := 0x0, rw := 0xFFFFFFFF, w1c := 0x0, wo := 0x0, rwl := 0x0, cask := 0x0, ro := 0x0 }
  , { name := "CASK_LRSGO", off := 0x1040, n1 := 1, s1 := 0x4, n2 := 1, s2 := 4, reset := 0x0, rw := 0x0, w1c := 0x0, wo := 0x1, rwl := 0x0, cask := 0x0, ro := 0x0 }
  , { name := "CASK_LRSSTAT", off := 0x1044, n1 := 1, s1 := 0x4, n2 := 1, s2 := 4, reset := 0x0, rw := 0x0, w1c := 0x4, wo := 0x0, rwl := 0x0, cask := 0x0, ro := 0x3 }
  , { name := "CASK_DETREF", off := 0x1E00, n1 := 6, s1 := 0x4, n2 := 1, s2 := 4, reset := 0x0, rw := 0x0, w1c := 0x0, wo := 0x0, rwl := 0x0, cask := 0xFFFFFFFF, ro := 0x0 } ]

/-- The registers of block 22, DSP0. -/
def regRows22 : List RegRow :=
  [ { name := "DSP_STAT", off := 0x0, n1 := 1, s1 := 0x4, n2 := 1, s2 := 4, reset := 0x0, rw := 0x0, w1c := 0x0, wo := 0x0, rwl := 0x0, cask := 0x0, ro := 0x30107 }
  , { name := "DSP_PC", off := 0x4, n1 := 1, s1 := 0x4, n2 := 1, s2 := 4, reset := 0x0, rw := 0x0, w1c := 0x0, wo := 0x0, rwl := 0x0, cask := 0x0, ro := 0x3FFFF }
  , { name := "DSP_WDT", off := 0x10, n1 := 1, s1 := 0x4, n2 := 1, s2 := 4, reset := 0x3E8, rw := 0x0, w1c := 0x0, wo := 0x0, rwl := 0x80000FFF, cask := 0x0, ro := 0x0 }
  , { name := "DSP_WDTKICK", off := 0x14, n1 := 1, s1 := 0x4, n2 := 1, s2 := 4, reset := 0x0, rw := 0x0, w1c := 0x0, wo := 0xFFFFFFFF, rwl := 0x0, cask := 0x0, ro := 0x0 }
  , { name := "DSP_WDTCNT", off := 0x18, n1 := 1, s1 := 0x4, n2 := 1, s2 := 4, reset := 0x0, rw := 0x0, w1c := 0x0, wo := 0x0, rwl := 0x0, cask := 0x0, ro := 0xFFF }
  , { name := "DSP_ECC", off := 0x20, n1 := 1, s1 := 0x4, n2 := 1, s2 := 4, reset := 0x0, rw := 0x0, w1c := 0x0, wo := 0x0, rwl := 0x0, cask := 0x0, ro := 0xFFFFFFFF }
  , { name := "DSP_ECCADDR", off := 0x24, n1 := 1, s1 := 0x4, n2 := 1, s2 := 4, reset := 0x0, rw := 0x0, w1c := 0x0, wo := 0x0, rwl := 0x0, cask := 0x0, ro := 0xFFFFFFFF }
  , { name := "DSP_MBOX", off := 0x40, n1 := 8, s1 := 0x4, n2 := 1, s2 := 4, reset := 0x0, rw := 0xFFFFFFFF, w1c := 0x0, wo := 0x0, rwl := 0x0, cask := 0x0, ro := 0x0 }
  , { name := "DSP_TAPCFG", off := 0x80, n1 := 1, s1 := 0x4, n2 := 1, s2 := 4, reset := 0x0, rw := 0x80000000, w1c := 0x0, wo := 0x0, rwl := 0x0, cask := 0x0, ro := 0x0 }
  , { name := "DSP_TAPROWS_LO", off := 0x84, n1 := 1, s1 := 0x4, n2 := 1, s2 := 4, reset := 0x0, rw := 0xFFFFFFFF, w1c := 0x0, wo := 0x0, rwl := 0x0, cask := 0x0, ro := 0x0 }
  , { name := "DSP_TAPROWS_HI", off := 0x88, n1 := 1, s1 := 0x4, n2 := 1, s2 := 4, reset := 0x0, rw := 0xFFFFFFFF, w1c := 0x0, wo := 0x0, rwl := 0x0, cask := 0x0, ro := 0x0 }
  , { name := "DSP_TAPBASE", off := 0x8C, n1 := 1, s1 := 0x4, n2 := 1, s2 := 4, reset := 0x0, rw := 0x1FFF8, w1c := 0x0, wo := 0x0, rwl := 0x0, cask := 0x0, ro := 0x0 }
  , { name := "DSP_TAPSIZE", off := 0x90, n1 := 1, s1 := 0x4, n2 := 1, s2 := 4, reset := 0x0, rw := 0x3FFF8, w1c := 0x0, wo := 0x0, rwl := 0x0, cask := 0x0, ro := 0x0 }
  , { name := "DSP_TAPWR", off := 0x94, n1 := 1, s1 := 0x4, n2 := 1, s2 := 4, reset := 0x0, rw := 0x0, w1c := 0x0, wo := 0x0, rwl := 0x0, cask := 0x0, ro := 0xFFFFFFFF }
  , { name := "DSP_TAPRD", off := 0x98, n1 := 1, s1 := 0x4, n2 := 1, s2 := 4, reset := 0x0, rw := 0xFFFFFFFF, w1c := 0x0, wo := 0x0, rwl := 0x0, cask := 0x0, ro := 0x0 }
  , { name := "DSP_TAPDROP", off := 0x9C, n1 := 1, s1 := 0x4, n2 := 1, s2 := 4, reset := 0x0, rw := 0x0, w1c := 0x0, wo := 0x0, rwl := 0x0, cask := 0x0, ro := 0xFFFF } ]

/-- The registers of block 23, DSP1. -/
def regRows23 : List RegRow :=
  [ { name := "DSP_STAT", off := 0x0, n1 := 1, s1 := 0x4, n2 := 1, s2 := 4, reset := 0x0, rw := 0x0, w1c := 0x0, wo := 0x0, rwl := 0x0, cask := 0x0, ro := 0x30107 }
  , { name := "DSP_PC", off := 0x4, n1 := 1, s1 := 0x4, n2 := 1, s2 := 4, reset := 0x0, rw := 0x0, w1c := 0x0, wo := 0x0, rwl := 0x0, cask := 0x0, ro := 0x3FFFF }
  , { name := "DSP_WDT", off := 0x10, n1 := 1, s1 := 0x4, n2 := 1, s2 := 4, reset := 0x3E8, rw := 0x0, w1c := 0x0, wo := 0x0, rwl := 0x80000FFF, cask := 0x0, ro := 0x0 }
  , { name := "DSP_WDTKICK", off := 0x14, n1 := 1, s1 := 0x4, n2 := 1, s2 := 4, reset := 0x0, rw := 0x0, w1c := 0x0, wo := 0xFFFFFFFF, rwl := 0x0, cask := 0x0, ro := 0x0 }
  , { name := "DSP_WDTCNT", off := 0x18, n1 := 1, s1 := 0x4, n2 := 1, s2 := 4, reset := 0x0, rw := 0x0, w1c := 0x0, wo := 0x0, rwl := 0x0, cask := 0x0, ro := 0xFFF }
  , { name := "DSP_ECC", off := 0x20, n1 := 1, s1 := 0x4, n2 := 1, s2 := 4, reset := 0x0, rw := 0x0, w1c := 0x0, wo := 0x0, rwl := 0x0, cask := 0x0, ro := 0xFFFFFFFF }
  , { name := "DSP_ECCADDR", off := 0x24, n1 := 1, s1 := 0x4, n2 := 1, s2 := 4, reset := 0x0, rw := 0x0, w1c := 0x0, wo := 0x0, rwl := 0x0, cask := 0x0, ro := 0xFFFFFFFF }
  , { name := "DSP_MBOX", off := 0x40, n1 := 8, s1 := 0x4, n2 := 1, s2 := 4, reset := 0x0, rw := 0xFFFFFFFF, w1c := 0x0, wo := 0x0, rwl := 0x0, cask := 0x0, ro := 0x0 }
  , { name := "DSP_TAPCFG", off := 0x80, n1 := 1, s1 := 0x4, n2 := 1, s2 := 4, reset := 0x0, rw := 0x80000000, w1c := 0x0, wo := 0x0, rwl := 0x0, cask := 0x0, ro := 0x0 }
  , { name := "DSP_TAPROWS_LO", off := 0x84, n1 := 1, s1 := 0x4, n2 := 1, s2 := 4, reset := 0x0, rw := 0xFFFFFFFF, w1c := 0x0, wo := 0x0, rwl := 0x0, cask := 0x0, ro := 0x0 }
  , { name := "DSP_TAPROWS_HI", off := 0x88, n1 := 1, s1 := 0x4, n2 := 1, s2 := 4, reset := 0x0, rw := 0xFFFFFFFF, w1c := 0x0, wo := 0x0, rwl := 0x0, cask := 0x0, ro := 0x0 }
  , { name := "DSP_TAPBASE", off := 0x8C, n1 := 1, s1 := 0x4, n2 := 1, s2 := 4, reset := 0x0, rw := 0x1FFF8, w1c := 0x0, wo := 0x0, rwl := 0x0, cask := 0x0, ro := 0x0 }
  , { name := "DSP_TAPSIZE", off := 0x90, n1 := 1, s1 := 0x4, n2 := 1, s2 := 4, reset := 0x0, rw := 0x3FFF8, w1c := 0x0, wo := 0x0, rwl := 0x0, cask := 0x0, ro := 0x0 }
  , { name := "DSP_TAPWR", off := 0x94, n1 := 1, s1 := 0x4, n2 := 1, s2 := 4, reset := 0x0, rw := 0x0, w1c := 0x0, wo := 0x0, rwl := 0x0, cask := 0x0, ro := 0xFFFFFFFF }
  , { name := "DSP_TAPRD", off := 0x98, n1 := 1, s1 := 0x4, n2 := 1, s2 := 4, reset := 0x0, rw := 0xFFFFFFFF, w1c := 0x0, wo := 0x0, rwl := 0x0, cask := 0x0, ro := 0x0 }
  , { name := "DSP_TAPDROP", off := 0x9C, n1 := 1, s1 := 0x4, n2 := 1, s2 := 4, reset := 0x0, rw := 0x0, w1c := 0x0, wo := 0x0, rwl := 0x0, cask := 0x0, ro := 0xFFFF }
  , { name := "DMA_SRC", off := 0x100, n1 := 4, s1 := 0x20, n2 := 1, s2 := 4, reset := 0x0, rw := 0xFFFFFFFF, w1c := 0x0, wo := 0x0, rwl := 0x0, cask := 0x0, ro := 0x0 }
  , { name := "DMA_DST", off := 0x104, n1 := 4, s1 := 0x20, n2 := 1, s2 := 4, reset := 0x0, rw := 0xFFFFFFFF, w1c := 0x0, wo := 0x0, rwl := 0x0, cask := 0x0, ro := 0x0 }
  , { name := "DMA_LEN", off := 0x108, n1 := 4, s1 := 0x20, n2 := 1, s2 := 4, reset := 0x0, rw := 0xFFFF, w1c := 0x0, wo := 0x0, rwl := 0x0, cask := 0x0, ro := 0x0 }
  , { name := "DMA_CTRL", off := 0x10C, n1 := 4, s1 := 0x20, n2 := 1, s2 := 4, reset := 0xC, rw := 0xE, w1c := 0x20000000, wo := 0x80000000, rwl := 0x0, cask := 0x0, ro := 0x40000000 } ]

/-- The registers of block 24, NVM/LOG. -/
def regRows24 : List RegRow :=
  [ { name := "LDR_STATUS", off := 0x0, n1 := 1, s1 := 0x4, n2 := 1, s2 := 4, reset := 0x0, rw := 0x0, w1c := 0x0, wo := 0x0, rwl := 0x0, cask := 0x0, ro := 0xFF3F }
  , { name := "LDR_ERR_A", off := 0x4, n1 := 1, s1 := 0x4, n2 := 1, s2 := 4, reset := 0x0, rw := 0x0, w1c := 0x0, wo := 0x0, rwl := 0x0, cask := 0x0, ro := 0xFF00FF }
  , { name := "LDR_ERR_B", off := 0x8, n1 := 1, s1 := 0x4, n2 := 1, s2 := 4, reset := 0x0, rw := 0x0, w1c := 0x0, wo := 0x0, rwl := 0x0, cask := 0x0, ro := 0xFF00FF }
  , { name := "LDR_SEQ", off := 0xC, n1 := 1, s1 := 0x4, n2 := 1, s2 := 4, reset := 0x0, rw := 0x0, w1c := 0x0, wo := 0x0, rwl := 0x0, cask := 0x0, ro := 0xFFFFFFFF }
  , { name := "FL_ADDR", off := 0x40, n1 := 1, s1 := 0x4, n2 := 1, s2 := 4, reset := 0x0, rw := 0xFFFFFFFF, w1c := 0x0, wo := 0x0, rwl := 0x0, cask := 0x0, ro := 0x0 }
  , { name := "FL_CMD", off := 0x44, n1 := 1, s1 := 0x4, n2 := 1, s2 := 4, reset := 0x0, rw := 0x0, w1c := 0x0, wo := 0x3, rwl := 0x0, cask := 0x0, ro := 0x0 }
  , { name := "FL_STAT", off := 0x48, n1 := 1, s1 := 0x4, n2 := 1, s2 := 4, reset := 0x0, rw := 0x0, w1c := 0x6, wo := 0x0, rwl := 0x0, cask := 0x0, ro := 0x1 }
  , { name := "OPT_STAGE", off := 0x100, n1 := 18, s1 := 0x4, n2 := 1, s2 := 4, reset := 0x0, rw := 0xFFFFFFFF, w1c := 0x0, wo := 0x0, rwl := 0x0, cask := 0x0, ro := 0x0 }
  , { name := "OPT_CMD", off := 0x180, n1 := 1, s1 := 0x4, n2 := 1, s2 := 4, reset := 0x0, rw := 0x0, w1c := 0x0, wo := 0xFFFFFFFF, rwl := 0x0, cask := 0x0, ro := 0x0 }
  , { name := "OPT_STAT", off := 0x184, n1 := 1, s1 := 0x4, n2 := 1, s2 := 4, reset := 0x0, rw := 0x0, w1c := 0x2, wo := 0x0, rwl := 0x0, cask := 0x0, ro := 0x0 }
  , { name := "FL_BUF", off := 0x1000, n1 := 64, s1 := 0x4, n2 := 1, s2 := 4, reset := 0x0, rw := 0xFFFFFFFF, w1c := 0x0, wo := 0x0, rwl := 0x0, cask := 0x0, ro := 0x0 }
  , { name := "LOG_NEWEST", off := 0x200, n1 := 1, s1 := 0x4, n2 := 1, s2 := 4, reset := 0x0, rw := 0x0, w1c := 0x0, wo := 0x0, rwl := 0x0, cask := 0x0, ro := 0xFFFFFFFF }
  , { name := "LOG_HELD", off := 0x204, n1 := 1, s1 := 0x4, n2 := 1, s2 := 4, reset := 0x0, rw := 0x0, w1c := 0x0, wo := 0x0, rwl := 0x0, cask := 0x0, ro := 0x1F07FF }
  , { name := "LOG_FLAG", off := 0x208, n1 := 1, s1 := 0x4, n2 := 1, s2 := 4, reset := 0x0, rw := 0x0, w1c := 0x1F, wo := 0x0, rwl := 0x0, cask := 0x0, ro := 0x0 } ]

/-- The registers of block 25, TIN. -/
def regRows25 : List RegRow :=
  [ { name := "TIN_CFG", off := 0x0, n1 := 4, s1 := 0x4, n2 := 1, s2 := 4, reset := 0x80, rw := 0x3FCFF, w1c := 0x0, wo := 0x0, rwl := 0x0, cask := 0x0, ro := 0x0 }
  , { name := "TIN_QLO", off := 0x10, n1 := 4, s1 := 0x8, n2 := 1, s2 := 4, reset := 0x0, rw := 0x0, w1c := 0x0, wo := 0x0, rwl := 0x0, cask := 0x0, ro := 0xFFFFFFFF }
  , { name := "TIN_QHI", off := 0x14, n1 := 4, s1 := 0x8, n2 := 1, s2 := 4, reset := 0x0, rw := 0x0, w1c := 0x0, wo := 0x0, rwl := 0x0, cask := 0x0, ro := 0xFFFFFFFF }
  , { name := "TIN_STAT", off := 0x30, n1 := 4, s1 := 0x4, n2 := 1, s2 := 4, reset := 0x0, rw := 0x0, w1c := 0x0, wo := 0x0, rwl := 0x0, cask := 0x0, ro := 0x3FF }
  , { name := "TIN_CNT", off := 0x40, n1 := 4, s1 := 0x4, n2 := 1, s2 := 4, reset := 0x0, rw := 0x0, w1c := 0x0, wo := 0x0, rwl := 0x0, cask := 0x0, ro := 0xFFFFFFFF }
  , { name := "TIN_FLAG", off := 0x50, n1 := 1, s1 := 0x4, n2 := 1, s2 := 4, reset := 0x0, rw := 0x0, w1c := 0xFFFF, wo := 0x0, rwl := 0x0, cask := 0x0, ro := 0x0 }
  , { name := "TIN_DNL", off := 0x54, n1 := 1, s1 := 0x4, n2 := 1, s2 := 4, reset := 0x0, rw := 0x0, w1c := 0x0, wo := 0x0, rwl := 0x0, cask := 0x0, ro := 0xFFFFFFFF } ]

/-- The registers of block 26, BUS. -/
def regRows26 : List RegRow :=
  [ { name := "BUS_WIN_LO", off := 0x100, n1 := 8, s1 := 0x40, n2 := 8, s2 := 8, reset := 0x0, rw := 0x0, w1c := 0x0, wo := 0x0, rwl := 0xFFFFF003, cask := 0x0, ro := 0x0 }
  , { name := "BUS_WIN_HI", off := 0x104, n1 := 8, s1 := 0x40, n2 := 8, s2 := 8, reset := 0x0, rw := 0x0, w1c := 0x0, wo := 0x0, rwl := 0xFFFFF000, cask := 0x0, ro := 0x0 }
  , { name := "BUS_FRZ", off := 0x0, n1 := 1, s1 := 0x4, n2 := 1, s2 := 4, reset := 0x0, rw := 0x0, w1c := 0x1FE, wo := 0x0, rwl := 0x0, cask := 0x0, ro := 0x0 }
  , { name := "BUS_FROZEN", off := 0x4, n1 := 1, s1 := 0x4, n2 := 1, s2 := 4, reset := 0x0, rw := 0x0, w1c := 0x0, wo := 0x0, rwl := 0x0, cask := 0x0, ro := 0x1FE }
  , { name := "BUS_FRZADDR", off := 0x40, n1 := 8, s1 := 0x8, n2 := 1, s2 := 4, reset := 0x0, rw := 0x0, w1c := 0x0, wo := 0x0, rwl := 0x0, cask := 0x0, ro := 0xFFFFFFFF }
  , { name := "BUS_FRZINFO", off := 0x44, n1 := 8, s1 := 0x8, n2 := 1, s2 := 4, reset := 0x0, rw := 0x0, w1c := 0x0, wo := 0x0, rwl := 0x0, cask := 0x0, ro := 0x8000000F } ]

/-- The registers of block `n` (R372: block n has base n × 0x1_0000). -/
def regRows : Nat → List RegRow
  | 0 => regRows0
  | 1 => regRows1
  | 2 => regRows2
  | 3 => regRows3
  | 4 => regRows4
  | 5 => regRows5
  | 6 => regRows6
  | 7 => regRows7
  | 8 => regRows8
  | 9 => regRows9
  | 10 => regRows10
  | 11 => regRows11
  | 12 => regRows12
  | 13 => regRows13
  | 14 => regRows14
  | 15 => regRows15
  | 16 => regRows16
  | 17 => regRows17
  | 18 => regRows18
  | 19 => regRows19
  | 20 => regRows20
  | 21 => regRows21
  | 22 => regRows22
  | 23 => regRows23
  | 24 => regRows24
  | 25 => regRows25
  | 26 => regRows26
  | _ => []

/-- The row instance test: does offset `o` of the block lie in an instance of `r`? -/
def RegRow.holds (r : RegRow) (o : Nat) : Bool :=
  r.off ≤ o && (o - r.off) / r.s1 < r.n1 && (o - r.off) % r.s1 / r.s2 < r.n2 && (o - r.off) % r.s1 % r.s2 == 0

/-- The register at bus address `a`, if one is defined there (R7, R373). -/
def findReg (a : Nat) : Option RegRow :=
  (regRows (a / 0x10000)).find? (fun r => r.holds (a % 0x10000))

/-- The value a register holds after a level L0 reset (R378); an undefined offset reads 0 (R7). -/
def regReset (a : Nat) : BitVec 32 :=
  match findReg a with
  | some r => r.reset
  | none => 0

end Sys2Proof.Machine
end

