-- ==== Sys2Proof/Machine/State.lean ====
section
/-!
DEFINITION. The state of the device: plain data. Every register is in the sparse store `regs`, by bus address; every memory, FIFO, queue, counter, mode, pin and
pending action that the manual gives a block and that is no register is in that block's structure.
-/
namespace Sys2Proof.Machine

/-- The device states of Table 14.6. -/
inductive Dev where
  | boot | idle | scan | park | service | safe
  deriving DecidableEq, Repr

/-! ## Internal NVM, event log and change log (R39, R52, R96, R252, R321, R328, R363) -/

/-- An NVM write. -/
inductive NvmWrite where
  /-- an event-log entry, words 1-6 (R363) -/
  | event (words : List Word)
  /-- the loss records of R96: lost emitters and dead strings (bit 64 + n: string n) -/
  | loss (mask : BitVec 64) (dead : BitVec 8)
  /-- a Guard change-log entry, words 1-6 (R321) -/
  | change (words : List Word)
  /-- the option page programmed by OPT_CMD (R73) -/
  | option (words : List Word)
  /-- the metrology event counter (R326) -/
  | mec (v : Word)
  /-- the stored base of the legal record sequence (R332) -/
  | seqBase (v : Nat)
  deriving DecidableEq, Repr

/-- The internal NVM and the queue of event-log entries in front of it. -/
structure Nvm where
  /-- the option page: 16 words of option bytes, the fuse table and its CRC (R52); blank reads all ones -/
  optPage : List Word := List.replicate 18 0xFFFFFFFF
  /-- the recorded Cask identification, a SHA-256 (R69) -/
  caskId : Option (List Byte) := none
  /-- the metrology event counter (R328) -/
  mec : Word := 0
  /-- the stored base of the legal record sequence (R332) -/
  seqBase : Nat := 0
  /-- the event log, oldest entry first, at most 1,024 entries of 8 words (R363) -/
  log : List (List Word) := []
  /-- COUNT of the newest event-log entry (R363) -/
  logCount : Word := 0
  /-- the Guard change log, oldest entry first, at most 256 entries of 8 words (R321) -/
  chLog : List (List Word) := []
  /-- COUNT of the newest change-log entry -/
  chCount : Word := 0
  /-- loss records: lost emitters (R96) -/
  lossMask : BitVec 64 := 0
  /-- loss records: dead strings -/
  lossDead : BitVec 8 := 0
  /-- OTP: SHA-256 of the image signing key, absent while blank (R68) -/
  keyHash : Option (List Byte) := none
  /-- OTP: the CMAC key of the legal record stream, absent while blank (R333) -/
  cmacKey : Option (List Byte) := none
  /-- event-log entries waiting, words 1-6, at most 16 (R252) -/
  queue : List (List Word) := []
  /-- other NVM writes waiting, first in first out -/
  work : List NvmWrite := []
  /-- the write in progress, which a reset lets complete (R39) -/
  cur : Option NvmWrite := none
  deriving DecidableEq, Repr

/-! ## Power, reset and start-up (R37-R60) -/

/-- The target of a level L2 reset (R46, R48, Table 3.5). -/
inductive L2Target where
  | cluster (k : Nat) | dsp (c : Nat) | dma (d : Nat) | eth (p : Nat) | dwl
  deriving DecidableEq, Repr

/-- The steps of the start-up sequence of Table 3.11 and of a slot load (R66-R71). -/
inductive BootPhase where
  /-- no input power (before VIN_RISE) -/
  | off
  /-- rails coming up: the next step of Table 3.1 to become good -/
  | rails (step : Nat)
  /-- held in reset -/
  | held
  /-- the option load is running (R52) -/
  | option
  /-- waiting for PLLB (R43) -/
  | pll
  /-- the HEADs are being read: the slots still to be read, 1 slot A, 2 slot B (R66) -/
  | heads (left : List Nat)
  /-- a slot is being read (R67) -/
  | pass (slot : Nat)
  /-- the signature of the slot is being checked (R68) -/
  | sig (slot : Nat)
  /-- all checks passed: commit is due (R70) -/
  | commit (slot : Nat)
  /-- the destinations of a failed slot are being cleared (R71) -/
  | clear (slot : Nat)
  /-- no slot has loaded, and BOOT ends once the pin test has (R32, R71) -/
  | noImage
  /-- BOOT is over -/
  | done
  deriving DecidableEq, Repr

/-- Reset control, the option shadow and the loader's progress. -/
structure RstSt where
  /-- sources raised and not yet performed, bit k = source k of Table 3.5 (R49) -/
  raised : Nat := 0
  /-- the level of a level L0 or L1 reset in progress (R49) -/
  active : Option Nat := none
  /-- sources whose reset of level L0 or L1 is in progress -/
  activeSrc : Nat := 0
  /-- level L2 targets held in reset (R49, R50) -/
  l2 : List L2Target := []
  /-- the DMA engines that one reset of source FRZ_DMA holds, by reset: they are released together (R45) -/
  dmaGrp : List (List Nat) := []
  /-- level and target of an AMP RESET whose reply has been formed (R46) -/
  ampReset : Option (Nat × Option L2Target) := none
  /-- the ms tick at which the last MSPI reply became ready (R46) -/
  ampReadyMs : Nat := 0
  phase : BootPhase := .off
  /-- consecutive failed option loads of this start-up (R52) -/
  optFails : Nat := 0
  /-- the option bytes in use, words 0-15 (Table 3.9) -/
  optSlot : Nat := 2
  xtFitted : Bool := true
  rcAllowed : Bool := true
  qspiCfg : Nat := 2
  /-- slots tried since the reset (R71) -/
  tried : List Nat := []
  /-- slots with a valid HEAD -/
  headOk : List Nat := []
  /-- the slot tried first (R66) -/
  preferred : Nat := 0
  /-- the records that the present attempt has written: first address and words (R71) -/
  dests : List (Nat × Nat) := []
  /-- the AUTOSTART flag of the running image (R57) -/
  autostart : Bool := false
  /-- sections present in the running image: bit ID -/
  sections : Nat := 0
  /-- Cask identification of the slot that passed (R69) -/
  newCaskId : List Byte := []
  /-- the 32.768 kHz crystal was tried since level L0 (R41): 0 trying, 1 in use, 2 failed -/
  xt : Nat := 0
  /-- RST_N was accepted low and has not been seen high since (R53, R54) -/
  rstnLow : Bool := false
  /-- the power-on reset under way has not been counted yet (R51) -/
  porDue : Bool := true
  /-- the backup domain is new, or lost VIN and VBAT both (R51) -/
  bkpLost : Bool := true
  /-- a rail failure has led to the power-off state (Table 3.4) -/
  railFail : Bool := false
  /-- the pin test of this start-up has not begun (R32) -/
  testDue : Bool := false
  /-- the event log is available (option load complete, R363) -/
  nvmAvail : Bool := false
  deriving DecidableEq, Repr

/-- Pins that hold a level the device decides or has accepted, where no register shows it. -/
structure PinSt where
  /-- SEAL_N accepted low (R29) -/
  sealedLow : Bool := false
  /-- TAP instruction loaded (R36): 0 BYPASS, 1 IDCODE, 2 SAMPLE/PRELOAD, 3 EXTEST -/
  tap : Nat := 0
  /-- what IDCODE or BYPASS has captured into the data register it selects (R36) -/
  tdr : Word := 0
  /-- the boundary register: its update cells, and what SAMPLE/PRELOAD or EXTEST has captured, in the order of the chain (R36) -/
  bsr : BitVec 52 := 0
  cap : BitVec 52 := 0
  /-- the FIRE drivers have left their reset state (Table 3.10) -/
  fire : Bool := false
  /-- PPS_OUT is high (R276), and when its pulse ends -/
  pps : Bool := false
  ppsT : Nat := 0
  /-- a pin test is under way at PARK entry (R59) -/
  parkTest : Bool := false
  /-- IRQ_N as it stood at the entry to PARK, while it is held (R13) -/
  parkIrq : Option Bool := none
  deriving DecidableEq, Repr

/-! ## Emitter block (R75-R98) -/

/-- The kind of a shot (R76, R94, R95). -/
inductive ShotKind where
  /-- a planned shot of entry `entry` of the column's grant -/
  | planned (entry : Nat)
  /-- a periodic probe -/
  | probe
  /-- isolation probe P0-P4 -/
  | iso (stage : Nat)
  deriving DecidableEq, Repr

/-- A string's next shot: its time in TREF ns, what it lights, and what has been decided about it. -/
structure NextShot where
  kind : ShotKind
  /-- fire time t_k; for a probe the time is its slot -/
  t : Nat
  /-- dither offset it took (R77) -/
  dither : Nat
  /-- shunts open, by position -/
  pat : BitVec 8
  /-- V_pre in 40 mV codes, once sampled (R88) -/
  vpre : Option Nat := none
  /-- the readiness decision of R88 -/
  ready : Option Bool := none
  /-- the limiter's decision of R123 -/
  admitted : Option Bool := none
  deriving DecidableEq, Repr

/-- A planned shot that waits in a string's queue: its entry and whether it is the entry's first. -/
structure PShot where
  entry : Nat
  first : Bool
  deriving DecidableEq, Repr

/-- The isolation of R94: the probe P0-P4 that is next, and the position bits found so far. -/
structure Iso where
  stage : Nat
  bits : Nat
  /-- the shot slot the probe takes -/
  slot : Nat
  deriving DecidableEq, Repr

/-- A fired shot whose monitor burst or verdict is due (R93). -/
structure MonShot where
  kind : ShotKind
  pat : BitVec 8
  vpre : Nat
  /-- when its burst starts -/
  due : Nat
  /-- the burst has been taken -/
  taken : Bool := false
  deriving DecidableEq, Repr

/-- One string Sn. -/
structure StrSt where
  queue : List PShot := []
  /-- scheduled time of the string's previous shot in this column -/
  prevT : Option Nat := none
  next : Option NextShot := none
  iso : Option Iso := none
  /-- consecutive planned shots with n_est other than n_open (R97) -/
  nshort : Nat := 0
  /-- a periodic probe is due (R95) -/
  probeDue : Bool := false
  mon : Option MonShot := none
  /-- last fire: rising edge, and falling edge rounded up to a ns (R82); its pulse width in 0.25 ns (R75) -/
  lastFire : Option (Nat × Nat) := none
  pulseQ : Nat := 0
  /-- when a confirmed frame last changed the string's shunts (R83) -/
  patAt : Nat := 0
  /-- the ms tick of the last periodic probe, or of the entry to SCAN (R95) -/
  probeMs : Nat := 0
  /-- CHG_SELn is on (Table 5.2) -/
  chgSel : Bool := false
  deriving DecidableEq, Repr

/-- An EMX frame on the link (R80). -/
structure EmxFrame where
  pat : BitVec 64
  seq : Nat
  crc : BitVec 8
  retry : Bool
  /-- the time of its latch edge (R82) -/
  latch : Nat
  deriving DecidableEq, Repr

/-- The EMX link and the emitter block's shared state. -/
structure EmitSt where
  /-- SEQ of the next new frame (R80) -/
  seq : Nat := 0
  frame : Option EmxFrame := none
  /-- the 76 data bits last sent on EMX_DAT, cycle 0 in bit 75 -/
  sent : BitVec 76 := 0
  /-- the pattern of the last confirmed frame, and when it was confirmed (R83) -/
  confPat : BitVec 64 := 0
  confAt : Nat := 0
  /-- CHG_GATE is switching for this string (R87) -/
  charging : Option Nat := none
  /-- the EMX drivers are on (Table 3.10) -/
  emxOn : Bool := false
  /-- the string whose monitor burst is in progress (R93) -/
  burst : Option Nat := none
  /-- when the last burst taken started -/
  burstT : Nat := 0
  /-- FIRE edge times handed to the Mash: (string, time), newest first (R79) -/
  handed : Option (Nat × Nat) := none
  deriving DecidableEq, Repr

/-! ## Scan and Kiln (R100-R127) -/

/-- A mirror sample: full-resolution angle x 4096 (R104), its code (R101), its time. -/
structure Sample where
  theta : Int
  code : Nat
  t : Nat
  deriving DecidableEq, Repr

/-- An entry of a column's grant (R114-R119). -/
structure GEntry where
  idx : Nat
  str : Nat
  /-- pattern index, and the effective pattern at the grant (R85) -/
  patIdx : Nat
  pat : BitVec 8
  /-- class served -/
  cls : Nat
  /-- demand code at that class (R86) -/
  demand : Nat
  maxs : Nat
  /-- shots granted by Kiln -/
  n : Nat
  rowFirst : Nat
  rowLast : Nat
  hmode : Nat
  aliased : Bool
  /-- planned offset in ns -/
  offset : Nat
  /-- binding code of Table 6.5, 0 none; the limiter's refusals apart -/
  bind : Nat
  /-- the emission limiter refused a shot of the entry -/
  refused : Bool := false
  deriving DecidableEq, Repr

/-- A column's grant, and what becomes of it while the column runs. -/
structure Grant where
  az : Nat := 0
  entries : List GEntry := []
  planned : Nat := 0
  policy : Nat := 0
  /-- wake mask (R126) -/
  rows : BitVec 64 := 0
  /-- EMITTER_LOST mask at the grant (R96, R201) -/
  lost : BitVec 64 := 0
  tPred : Nat := 0
  /-- shots released to the FIRE outputs (R15) -/
  fired : Nat := 0
  limited : Bool := false
  /-- the predicted trigger (R105) -/
  due : Nat := 0
  /-- its planned shots were dropped before the trigger (Table 1.6) -/
  dropped : Bool := false
  deriving DecidableEq, Repr

/-- A column that has ended and whose bank swap is due (R166, Table 8.4): its grant, the Kiln state of its header, FRAME, number, sweep, first of its sweep, last of
its sweep, whether that sweep is a complete one, and channels whose field-map entry reads with an uncorrectable error. -/
structure Closing where
  g : Grant
  kstate : Nat
  frame : Nat
  mcol : Nat
  sweep : Nat
  first : Bool
  ends : Bool
  whole : Bool
  fue : List Nat
  deriving DecidableEq, Repr

/-- The trigger engine, the mirror stroke and the column in progress. -/
structure ScanSt where
  /-- up to three samples, newest first (R104) -/
  samples : List Sample := []
  /-- codes of the last samples, newest first, at most 201 (R108) -/
  hist : List Nat := []
  /-- MODE and DIR in effect in SCAN (R103) -/
  mode : Nat := 0
  dir : Bool := false
  /-- SCAN_SWEEP and SCAN_RANGE in effect (R103) -/
  sweep : Word := 0x0640C350
  range : Word := 0xAEE05120
  /-- an active stroke, or profile cycle, is in progress, since this time -/
  active : Bool := false
  t0 : Nat := 0
  /-- stall: the running stroke failed the check; the present run of failures goes on (R108) -/
  strokeFail : Bool := false
  stallRun : Bool := false
  /-- INHIBIT because of a stall -/
  stallInh : Bool := false
  /-- targets of the sweep still to trigger, in order: azimuth, and whether it is crossed rising (R105, R106) -/
  todo : List (Nat × Bool) := []
  /-- the flyback in progress began at this code and time (Table 6.1) -/
  fbFrom : Nat := 0x8000
  fbT : Nat := 0
  /-- the length of that flyback in ns -/
  fbLen : Nat := 0
  /-- the last sweep's columns have reached the trigger so far -/
  trigN : Nat := 0
  /-- the engine is armed (R105) -/
  armed : Bool := false
  /-- the first column of the sweep has not triggered yet (Table 10.2 SOS) -/
  sos : Bool := false
  /-- STARE: triggers since the sweep began (Table 6.1) -/
  stareN : Nat := 0
  /-- lock counting: strokes or ms met in full (R102); the interval running is clean -/
  lockN : Nat := 0
  lockClean : Bool := false
  lockFrom : Nat := 0
  /-- the mode whose lock interval is counted -/
  lockMode : Nat := 0
  /-- a PSEL switch-over has happened: the region in use (R110) -/
  psel : Bool := false
  /-- the grant fixed for the coming column (R10) -/
  next : Option Grant := none
  /-- the column in progress: its grant, trigger time, t_last -/
  cur : Option Grant := none
  /-- the column that has ended and waits for its swap -/
  closing : Option Closing := none
  tTrig : Nat := 0
  tLast : Nat := 0
  /-- period of the column before (R107) -/
  lastPeriod : Nat := 0
  /-- planned shots fired since the trigger (event hold-off, R105) -/
  held : Nat := 0
  /-- the device leaves SCAN at the next column boundary (R296): 1 IDLE, 2 SERVICE, 3 PARK -/
  leave : Nat := 0
  /-- a complete sweep is running: its beginning fell in SCAN (R103) -/
  sweepWhole : Bool := false
  /-- the sweep of the running column is a complete one -/
  curWhole : Bool := false
  /-- the running column is the first of its sweep -/
  curFirst : Bool := false
  /-- SWEEPS at the trigger of the running column, and INHIBIT at it (R306) -/
  curSweep : Nat := 0
  curInh : Bool := false
  /-- the Tun clear of the entry to SCAN runs (R155) -/
  clearing : Bool := false
  /-- cluster domains switched on (R12) -/
  clu : BitVec 64 := 0
  deriving DecidableEq, Repr

/-- Kiln's models and the emission limiter's clock. -/
structure KilnSt where
  /-- time of the last model update (R118) -/
  tModel : Nat := 0
  /-- energy spent in the last ms: (time, nJ) (Table 6.3, P_base) -/
  spent : List (Nat × Nat) := []
  /-- present sub-window accumulator, and the ms tick at which it began (R122) -/
  sub : Nat := 0
  subMs : Nat := 0
  /-- the ms tick at which the ledger was last cleared (R124) -/
  initMs : Nat := 0
  /-- the accumulators: key 16 x cell + sub-window (R122) -/
  ledger : SMap Nat := []
  /-- the policy in effect: that of the last grant (R117) -/
  policy : Nat := 1
  /-- the two copies differed (R125) -/
  eyeErr : Bool := false
  deriving DecidableEq, Repr

/-! ## Time (R272-R276), and the anchor the logs use (R207) -/

/-- The committed anchor of R207. -/
structure Anchor where
  cnt : Word := 0
  secLo : Word := 0
  secHi : BitVec 16 := 0
  nsec : Word := 0
  valid : Bool := false
  deriving DecidableEq, Repr

/-- The time counter and its pulse output. -/
structure TimeSt where
  /-- NS in bits 63:32, FRAC in bits 31:0 (R272) -/
  ctr : BitVec 64 := 0
  /-- counter wraps counted since power-up (R148) -/
  wraps : Int := 0
  /-- the increment in effect (R272) -/
  inc : Word := 0x40000000
  /-- the pending offset (R273) -/
  ofs : BitVec 64 := 0
  /-- the counter at the TCLK edges before the last, newest first, at most 16 (R239) -/
  past : List (BitVec 64) := []
  deriving DecidableEq, Repr

/-! ## Thermal management (R247-R253) -/

/-- What the thermal scan keeps beside its registers. -/
structure ThermSt where
  /-- sensors in SHUTDOWN, bit = sensor index (R251) -/
  sd : BitVec 72 := 0
  /-- groups whose WARN, DERATE limit is reached -/
  warn : Nat := 0
  der : Nat := 0
  /-- consecutive scans in which a SUSPECT sensor's condition was false (R249) -/
  clear : SMap Nat := []
  /-- strings whose board temperature has left the charging range, bit = string (R252) -/
  chgOut : Nat := 0
  deriving DecidableEq, Repr


/-! ## Receiver and Mash (R130-R171) -/

/-- The values of an ambient gate (R134). -/
structure Amb where
  k : Nat := 0
  rate : Nat := 0
  evt : Nat := 0
  /-- G′ ÷ 8 ns -/
  glen : Nat := 0
  stale : Bool := false
  deriving DecidableEq, Repr

/-- An ambient gate in progress (R134). -/
structure GateSt where
  opened : Nat
  /-- G′ in ns -/
  len : Nat
  /-- k and RATE once the midpoint has passed -/
  mid : Option (Nat × Nat) := none
  /-- avalanches of the first half -/
  a : Nat := 0
  /-- events of the second half -/
  evt : Nat := 0
  deriving DecidableEq, Repr

/-- An event in a channel's FIFO: its Grist word (Table 7.1), the windows it belongs to, and the bank it bins into. -/
structure FifoE where
  word : Word
  /-- its time against each window that R136 admits, in LSB, with the window's opening time; the reference first -/
  wins : List (Nat × Nat)
  bank : Bool
  deriving DecidableEq, Repr

/-- A channel's part of a column's header (Table 8.3). -/
structure ChAcc where
  events : Nat := 0
  updates : Nat := 0
  sat : Bool := false
  loss : Bool := false
  covf : Bool := false
  ce : Bool := false
  ue : Bool := false
  mapnew : Bool := false
  /-- the channel had no valid map, or no enabled SPAD, in the column (R131, R142) -/
  nomap : Bool := false
  /-- zoom windows placed: F_z in order (R160) -/
  zwin : List Nat := []
  amb : Amb := {}
  /-- the sparge has passed or cleared the histogram -/
  passed : Bool := false
  deriving DecidableEq, Repr

/-- An open coincidence set (R132): its first avalanche's time in ps and tap, and the SPADs that have fired. -/
structure CoSet where
  ps : Nat
  tap : Nat
  spads : List Nat
  deriving DecidableEq, Repr

/-- A channel CHc. -/
structure ChanSt where
  /-- active tap-to-bin map: 96 entries (R140); none before the first is accepted -/
  map : List Nat := []
  /-- accepted staged map, its DNL and the time its staging completed (R142) -/
  staged : Option (List Nat × Nat × Nat) := none
  /-- background hits per tap, and those of the running column (R141) -/
  hits : SMap Nat := []
  colHits : SMap Nat := []
  /-- ms tick of the last switch-over (AGE) -/
  switchMs : Nat := 0
  /-- time of the last reported event, in LSB (R132) -/
  lastEvt : Option Nat := none
  set : Option CoSet := none
  /-- a map has become active and no histogram has been marked with it yet (R142) -/
  newMap : Bool := false
  gate : Option GateSt := none
  /-- values of the last gate since the entry to SCAN (R134) -/
  amb : Option Amb := none
  fifo : List FifoE := []
  cur : ChAcc := {}
  old : ChAcc := {}
  deriving DecidableEq, Repr

/-- A cluster's part of a column's header. -/
structure ColAcc where
  woken : Bool := false
  hmode : Nat := 0
  aliased : Bool := false
  gate : Nat := 0
  cw : Nat := 0
  /-- planned first fire time on the cluster (R134) -/
  t0 : Nat := 0
  shots : Nat := 0
  nfine : Nat := 0
  /-- shortest cut window, 0 none -/
  cutmin : Nat := 0
  cut : Bool := false
  nifmax : Nat := 0
  mingap : Nat := 0xFFF
  lastOpen : Option Nat := none
  thin : Nat := 0
  trunc : Bool := false
  invalid : Bool := false
  /-- opening time of the window that starts the search (R159) -/
  trigWin : Option Nat := none
  /-- start of the search -/
  search : Option Nat := none
  /-- t_z, once the windows are placed -/
  tz : Option Nat := none
  mcol : Nat := 0
  /-- Σ W_int of the planned shots that opened a window on the cluster (R187) -/
  wsum : Nat := 0
  /-- the same over the fine-phase shots -/
  wfine : Nat := 0
  deriving DecidableEq, Repr

/-- An open listening window (R135). -/
structure Win where
  tag : Nat
  tf : Nat
  /-- W_int of its shot (R187) -/
  wint : Nat := 0
  deriving DecidableEq, Repr

/-- A cluster Kk with its Mash engine. -/
structure CluSt where
  /-- open windows, newest first -/
  wins : List Win := []
  /-- next TAG -/
  tag : Nat := 0
  cur : ColAcc := {}
  old : ColAcc := {}
  /-- the column that waits for a delayed swap (Table 8.4) -/
  nxt : ColAcc := {}
  level : Nat := 0
  /-- last change of the level; last time the fill was above DOWN (R163) -/
  changeT : Nat := 0
  aboveT : Nat := 0
  lfsr : BitVec 16 := 0
  /-- channel last served (R162) -/
  served : Nat := 15
  /-- coarse bins changed after the search read them: 1024 × J + bin, value read (R159) -/
  seen : SMap Nat := []
  deriving DecidableEq, Repr

/-- The receiver and the Mash as a whole. -/
structure MashSt where
  /-- the sparge runs, since this swap (R166) -/
  sparging : Bool := false
  swapT : Nat := 0
  /-- a trigger waits for the sparge's end with its swap (Table 8.4) -/
  swapPend : Bool := false
  /-- number of the histograms that close next (R10, R166) -/
  closeJ : Nat := 0
  /-- the write that armed the pending snapshot came while the channel was being sparged: that sparge is not copied (R170) -/
  snapSkip : Bool := false
  /-- flyback injection ends (R141) -/
  injEnd : Nat := 0
  /-- a capture is armed (Table 7.5) -/
  capArm : Bool := false
  /-- a boot calibration run was asked for while the device starts (R139) -/
  bootRun : Bool := false
  deriving DecidableEq, Repr

/-! ## Time-interval inputs (R145-R149) -/

/-- A stamp of R146. -/
structure TinStamp where
  ns : Nat
  frac : Nat
  fine : Nat
  tv : Bool
  /-- counter wraps counted so far -/
  wraps : Int
  deriving DecidableEq, Repr

/-- An input TINn. -/
structure TinSt where
  queue : List (Word × Word) := []
  start : Option TinStamp := none
  /-- an offset write took effect since the start (R149) -/
  phstep : Bool := false
  /-- TIN_CFGn as it stood on the last TCLK edge (R145) -/
  cfg : Word := 0x80
  /-- accepted edges in stream mode, and completed intervals, modulo 4096 (Table 7.3) -/
  seqEdge : Nat := 0
  seqInt : Nat := 0
  /-- an entry was dropped: the next carries LOST -/
  lost : Bool := false
  /-- real time of the last accepted edge, 1/256 ns -/
  lastEdge : Option Nat := none
  /-- interpolator map (R146) -/
  map : List Nat := []
  deriving DecidableEq, Repr


/-- A closed histogram as the sparge passed it to the Lauter (R166, R168). -/
structure Hist where
  hdr : List Word := []
  /-- bins by number, 0 unlisted -/
  bins : SMap (BitVec 16) := []
  /-- sums of W_int over the column's shots and over its fine-phase shots (R187) -/
  wsum : Nat := 0
  wfine : Nat := 0
  /-- the settings in effect when it closed (R196) -/
  eff : SMap Word := []
  deriving DecidableEq, Repr


/-! ## Lauter (R173-R198) -/

/-- An echo handed to the Wort (Table 9.4). -/
structure Echo where
  range : Nat
  int : Nat
  width : Nat
  rain : Bool
  sat : Bool
  thin : Bool
  zoomed : Bool
  field : Bool
  aliased : Bool
  invalid : Bool
  /-- area, for selection -/
  area : Nat
  deriving DecidableEq, Repr

/-- A channel's echo cache (R188). -/
structure EchoCache where
  ranges : List Nat := []
  mcol : Nat := 0
  /-- written by a histogram that was not INVALID -/
  ok : Bool := false
  deriving DecidableEq, Repr

/-- A column closed by a bank swap, as the Lauter works on it: what was latched at the swap, and its summary (R185, R193, R194). -/
structure LauCol where
  mcol : Nat := 0
  az : Nat := 0
  entries : List GEntry := []
  rows : BitVec 64 := 0
  /-- field-map entries of the column, by channel; entries read with an uncorrectable error -/
  fields : SMap (BitVec 16) := []
  fieldUe : List Nat := []
  /-- temperatures of clusters and junctions, 1/16 °C -/
  temps : List Int := []
  tjs : List Int := []
  /-- first column of a sweep; last column of a sweep; the sweep is a complete one -/
  first : Bool := false
  ends : Bool := false
  whole : Bool := false
  /-- number of that sweep -/
  sweep : Nat := 0
  nprot : Nat := 0
  nwarn : Nat := 0
  nunev : Nat := 0
  /-- channels whose outcome is known -/
  judged : Nat := 0
  /-- a warning hit was seen (R308) -/
  complete : Bool := false
  deriving DecidableEq, Repr

/-- The Lauter. -/
structure LauSt where
  /-- columns in work, newest first, at most two -/
  cols : List LauCol := []
  /-- a selected cause was seen in the sweep that is judged (R195) -/
  dirty : Bool := false
  /-- echo caches by channel -/
  cache : SMap EchoCache := []
  /-- echoes emitted for the last histogram of a channel (LAU_PEEK) -/
  peek : SMap (List Echo) := []
  deriving DecidableEq, Repr


/-! ## Wort and Dolwick link (R199-R221) -/

/-- What a stored record is. -/
inductive RecKind where
  | gap | time | column | lrs
  /-- an ECHO record: channel, head bits ALIAS and THIN, echoes in index order -/
  | echo (ch : Nat) (aliased thin : Bool) (es : List Echo)
  deriving DecidableEq, Repr

/-- A record in a stream's part of the buffer: its words and the number of the frame it belongs to (a GAP record: the first it names). A frame's number modulo 2²⁴ is
its FRAME; numbers never fall, as each entry to SCAN goes on at the next multiple of 2²⁴. -/
structure OutRec where
  kind : RecKind
  frame : Nat
  words : List Word
  deriving DecidableEq, Repr

/-- An admitted column whose records are not all written (R212). -/
structure ColOut where
  frame : Nat
  comp : Nat
  rk : Nat
  key : Bool
  mcol : Nat
  rows : BitVec 64
  /-- TIME and COLUMN records, until an earlier column is complete -/
  hdr : List OutRec
  /-- the next channel to look at -/
  next : Nat := 0
  /-- reserved words not yet written -/
  reserved : Nat
  deriving DecidableEq, Repr

/-- An omitted run of frames not yet named: number of the first frame, count, cause (R208). -/
structure GapRun where
  first : Nat
  count : Nat
  cause : Nat
  deriving DecidableEq, Repr

/-- One point stream: 0 DWL, 1 ETH. -/
structure StreamSt where
  level : Nat := 0
  /-- omitted frames not yet named, in frame order -/
  gaps : List GapRun := []
  isNew : Bool := true
  /-- FRAME, COMP and RK of the last COLUMN record -/
  prev : Option (Nat × Nat × Nat) := none
  /-- range references: v values of the last column's ECHO records, and of the column in work (R204) -/
  refs : SMap (List Nat) := []
  newRefs : SMap (List Nat) := []
  /-- the next COLUMN record carries KEY (R205, R219) -/
  force : Bool := false
  /-- records stored and not yet in a frame or datagram; ETH holds them in datagrams -/
  out : List OutRec := []
  cols : List ColOut := []
  deriving DecidableEq, Repr

/-- A DWL frame on its lane (R215). -/
structure DwlFrame where
  lane : Nat
  chan : Nat
  /-- header, payload, CRC -/
  words : List Word
  recs : List OutRec
  endT : Nat
  deriving DecidableEq, Repr

/-- The Dolwick link. -/
structure DwlSt where
  /-- a CREDIT frame has come since alignment -/
  credit : Bool := false
  seqPoint : Nat := 0
  seqLrs : Nat := 0
  seqSide : Nat := 0
  restart : Bool := false
  prog : List DwlFrame := []
  /-- when a lane may start its next frame, the idle pair behind the last one past (R261) -/
  freeT : SMap Nat := []
  /-- sideband replies waiting: lane, message words -/
  side : List (Nat × List Word) := []
  /-- the last frame started on each lane, as sent -/
  last : SMap (List Word) := []
  deriving DecidableEq, Repr

/-- A UDP datagram of the point stream or of the legal record stream (R213). -/
structure Dgram where
  stream : Nat
  recs : List OutRec
  /-- time it was closed -/
  closed : Nat
  /-- its DSEQ, once a port has had it; a port has it now; a copy of it has been sent in full (R213, R214) -/
  seq : Option Nat := none
  handed : Bool := false
  sent : Bool := false
  deriving DecidableEq, Repr

/-- The Wort. -/
structure WortSt where
  /-- number of the next target's frame: its FRAME modulo 2²⁴ (R200) -/
  frame : Nat := 0
  /-- number of the running column's frame -/
  curFrame : Nat := 0
  dwl : StreamSt := {}
  eth : StreamSt := {}
  /-- processed histograms: 1024 × MCOL + CH, with the echoes to emit -/
  done : SMap (Option (List Echo)) := []
  /-- the open datagrams of points and of legal records: records and the time of the first -/
  dopen : Option (List OutRec × Nat) := none
  lopen : Option (List OutRec × Nat) := none
  dgrams : List Dgram := []
  /-- DSEQ of the next datagram of each stream -/
  dseq0 : Nat := 0
  dseq1 : Nat := 0
  /-- LRS records waiting for DWL and for ETH (R209) -/
  lrsDwl : List (List Word) := []
  lrsEth : List (List Word) := []
  deriving DecidableEq, Repr



/-! ## Control engine, converters and sensor front end (R223-R246) -/

/-- The control engine beside its registers. -/
structure CtlSt where
  /-- settings in effect: gains, limits, slew rates, LCFG and charge registers, by address (R230) -/
  act : SMap Word := []
  /-- ticks since the last evaluation of a general loop, and the DIV it counts to, as its start or its last evaluation took it (R223, R230) -/
  cnt : SMap Nat := []
  div : SMap Nat := []
  /-- charge groups running, bit = string -/
  grp : Nat := 0
  /-- actuators: MDRV (mid-scale), HTR duty, LX_SPAD duty -/
  mdrv : Nat := 0x8000
  htr : Nat := 0
  lx : Nat := 0
  /-- the comparator of R229 has stopped LX_SPAD -/
  lxStop : Bool := false
  /-- last VSPAD monitor value, mV -/
  vspad : Nat := 0
  /-- the mirror excitation is BROKEN (R245) -/
  mexcBroken : Bool := false
  /-- P_meas of the ticks of the last ms, newest first (R246) -/
  pw : List Nat := []
  deriving DecidableEq, Repr



/-- A burst in ADC0's slot schedule (R234): its requester's priority (0 shot monitoring, 1 MSNS, 2 + n request n), its source, the slot of its trigger, its length, and
whether its results are still to come. -/
structure AdcJob where
  who : Nat
  src : Nat
  trig : Nat
  len : Nat
  live : Bool
  deriving DecidableEq, Repr

/-- A change of a source's gain (R237): the slot in which it took effect, and the gain code before it. -/
structure GainChange where
  src : Nat
  slot : Nat
  old : Nat
  deriving DecidableEq, Repr

/-- FIR settings: N, D, coefficients (R238). -/
structure FirSet where
  n : Nat := 1
  d : Nat := 1
  coef : SMap (BitVec 16) := []
  deriving DecidableEq, Repr

/-- ADC0 beside its registers (R232-R239). -/
structure AdcSt where
  /-- gain changes, oldest first (R237) -/
  gains : List GainChange := []
  /-- background results still INV after a channel change, and the channel they come from -/
  chInv : Nat := 0
  chOld : Nat := 0
  /-- the selected reference did not settle in time (R233) -/
  refFail : Bool := false
  /-- bursts scheduled, in the order of their triggers' arrival (R234) -/
  jobs : List AdcJob := []
  /-- SOFT, FIRE and TICK triggers given and not yet served: request, time (R234) -/
  due : List (Nat × Nat) := []
  /-- time of a request's last TIMER trigger -/
  timer : SMap (Option Nat) := []
  /-- ticks since a request's last TICK trigger -/
  ticks : SMap Nat := []
  /-- first slot of a burst whose start is still to be recorded in ADC0_REQTSn (R236) -/
  start : SMap (Option Nat) := []
  /-- FIR settings in effect, and those that COMMIT has given and the next output takes (R238) -/
  fir : FirSet := {}
  pend : Option FirSet := none
  /-- background inputs still to pass before the next FIR output's own -/
  dec : Nat := 0
  /-- background inputs still to pass until the filter is refilled -/
  refill : Nat := 0
  /-- the last background inputs, newest first: x and INV, at most 256 -/
  inputs : List (Int × Bool) := []
  /-- the last background result -/
  last : BitVec 16 := 0
  /-- comparator: 0 not yet armed, 1 armed, 2 a RISE has disarmed it (R239) -/
  cmp : Nat := 0
  queue : List (Word × Word) := []
  seq : Nat := 0
  lost : Bool := false
  deriving DecidableEq, Repr


/-! ## Lanes, Ethernet ports (R258-R281) -/

/-- A lane beside its registers (R260, R262). -/
structure LaneSt where
  score : Nat := 0
  adapting : Bool := false
  deriving DecidableEq, Repr

/-- An ARP entry (R265): resolved or not, requests unanswered. -/
structure ArpEnt where
  ip : Word
  mac : Option (BitVec 48)
  tries : Nat
  deriving DecidableEq, Repr

/-- What a transmitted frame carries (R265, R267). -/
inductive TxBody where
  /-- a frame DSP1 wrote into ETHn_TXBUF, from its destination address -/
  | raw (bytes : List Byte)
  | arpRequest (ip : Word)
  | arpReply (ip : Word) (mac : BitVec 48)
  | echoReply (ip : Word) (mac : BitVec 48) (data : List Byte)
  /-- a PRP supervision frame with its number (R271) -/
  | supervision (seq : Nat)
  /-- a UDP datagram: destination, ports, DSCP, payload -/
  | udp (dst : Word) (sport dport dscp : Nat) (payload : List Byte)
  deriving DecidableEq, Repr

/-- A frame to be sent: its class of R267 (0 first), and what its end entails. -/
structure TxFr where
  cls : Nat
  body : TxBody
  /-- an egress stamp is asked for (R279) -/
  ts : Bool := false
  /-- it occupies ETHn_TXBUF -/
  txbuf : Bool := false
  /-- legal records it carries from the head of the generator's ETH queue -/
  lrs : Nat := 0
  /-- the datagram it carries: stream and DSEQ (R213) -/
  dg : Option (Nat × Nat) := none
  /-- what the manual leaves open of its IPv4 header (Config.ipOpen) -/
  ip : BitVec 23 := 0
  /-- sequence number of its PRP trailer (R269) -/
  rct : Option Nat := none
  deriving DecidableEq, Repr

/-- A port ETHn. -/
structure EthSt where
  /-- ingress queues: slots with descriptor and frame (R266, R278) -/
  q0 : List (List Byte) := []
  q1 : List (List Byte) := []
  q2 : List (List Byte) := []
  arp : List ArpEnt := []
  /-- transmit stamps: TXTS0, TXTS1, TXTS2 -/
  txts : List (Word × Word × Word) := []
  /-- ms ticks of the hardware replies of the last second -/
  replies : List Nat := []
  /-- the frame in transmission, and those that wait -/
  cur : Option TxFr := none
  wait : List TxFr := []
  /-- the last frame put on the line, from its destination address to its FCS (R267, R269) -/
  line : List Byte := []
  /-- PRP supervision frames sent, and the ms tick of the last (R271) -/
  supSeq : Nat := 0
  supMs : Option Nat := none
  deriving DecidableEq, Repr

/-- An entry of the PRP duplicate table (R270). -/
structure PrpEnt where
  mac : BitVec 48
  high : Nat
  /-- bit k: number high − 1 − k was seen -/
  seen : BitVec 64
  lastMs : Nat
  deriving DecidableEq, Repr

/-! ## The Guard (R304-R323) -/

/-- What the Guard keeps of a sweep (R308): its groups that held an evaluated field-bearing column, and an intruded one; a warning hit; unclear. -/
structure GSweep where
  eval : List Nat := []
  intr : List Nat := []
  warn : Bool := false
  bad : Bool := false
  deriving DecidableEq, Repr

/-- What the Guard keeps of a closed column that is judged (R306): field column, sweep, whether a detection setting differs, outcomes counted, intruded. -/
structure GCol where
  f : Nat := 0
  sweep : Nat := 0
  mismatch : Bool := false
  count : Nat := 0
  intruded : Bool := false
  warn : Bool := false
  deriving DecidableEq, Repr

/-- A switched output as the static checks see it (R314): samples since it last switched, consecutive samples in current limit, the sample before. -/
structure OutSt where
  n : Nat := 0
  lim : Nat := 0
  last : Option Bool := none
  deriving DecidableEq, Repr

/-- The Guard beside its registers. -/
structure GuardSt where
  /-- field-bearing columns, rising -/
  bearing : List Nat := []
  /-- counters c_g by group -/
  cg : SMap Nat := []
  /-- sweeps by number -/
  sweeps : SMap GSweep := []
  /-- columns by MCOL -/
  cols : SMap GCol := []
  /-- SWEEPS when the outputs last went off, and at the entry to SCAN -/
  offSweep : Nat := 0
  /-- the enable has been seen inactive while a restart is awaited -/
  inact : Bool := false
  /-- output in its off-pulse, and the next one to pulse: 0 A, 1 B -/
  pulse : Option Nat := none
  nextPulse : Nat := 0
  /-- the ms tick of switch-on or of the last pulse, and when the pulse ends (R313) -/
  pulseMs : Nat := 0
  pulseEnd : Nat := 0
  outA : OutSt := {}
  outB : OutSt := {}
  /-- EDM is awaited: low after switch-on, high after switch-off -/
  edmWait : Option Bool := none
  /-- the ms tick at which the outputs last switched (R315) -/
  edmMs : Nat := 0
  /-- filtered levels of EN_A and EN_B -/
  enA : Bool := false
  enB : Bool := false
  /-- ticks counted since tick 0 of a discrepancy (R311) -/
  disc : Option Nat := none
  /-- GUARD_CRC when the open change began -/
  before : Word := 0
  /-- the open change wrote a password entry, or anything else -/
  wrotePw : Bool := false
  wroteOther : Bool := false
  deriving DecidableEq, Repr


/-! ## The Cask (R324-R335) -/

/-- A legal record before it is tagged; a record of the generator's own takes its TS at issue (R330). -/
structure LrsRec where
  kind : Nat
  ts : Option Word
  data : List Word
  deriving DecidableEq, Repr

/-- The Cask beside its registers. -/
structure CaskSt where
  /-- SEQ of the next record; 2³² once the stream has ended (R332) -/
  seq : Nat := 0
  /-- the generator's own records waiting -/
  own : List LrsRec := []
  /-- the record DSP0 submitted (CASK_LRSSTAT.BUSY) -/
  sub : Option LrsRec := none
  /-- the metrology event counter at the entry to SERVICE -/
  mecIn : Word := 0
  /-- ms tick of the last logged refusal (R325) -/
  refMs : Option Nat := none
  deriving DecidableEq, Repr


/-! ## Signal-processing cores, tap and DMA (R336-R353) -/

/-- A LOOP in progress (R342): offsets of its first and last instruction, passes left after the present one. -/
structure LoopSt where
  first : Nat
  last : Nat
  left : Nat
  deriving DecidableEq, Repr

/-- A branch whose delay slots are issuing (R341): where it goes, slots left. -/
structure BrSt where
  target : Nat
  left : Nat
  deriving DecidableEq, Repr

/-- A column the tap has reserved and not yet written (R348). -/
structure TapCol where
  mcol : Nat
  rows : BitVec 64
  hdr : List Word
  deriving DecidableEq, Repr

/-- A core DSPc. -/
structure CoreSt where
  /-- DSPn_STAT.STATE but for frozen: 0 reset, 1 run, 2 IDLE, 4 HALT, 5 stopped in PARK -/
  mode : Nat := 0
  /-- G0-G31 and A0-A3 -/
  g : SMap Word := []
  acc : SMap (BitVec 72) := []
  /-- offset of the next instruction to issue, and of the one issued last -/
  pc : Nat := 0
  e1 : Nat := 0
  /-- CSRs by number -/
  csr : SMap Word := []
  /-- an exception's handler runs (R347) -/
  inExc : Bool := false
  /-- a load's results, which the instruction after it does not see (R341) -/
  ld : List (Nat × Word) := []
  /-- CSR writes that take effect after the next instruction (R339) -/
  cw : List (Nat × Word) := []
  /-- EI was the last instruction -/
  ei : Bool := false
  br : Option BrSt := none
  /-- issues of the repeated instruction left -/
  rep : Option Nat := none
  /-- loops, innermost first -/
  loops : List LoopSt := []
  /-- CCLK cycles since the start, in fifths -/
  cyc5 : Nat := 0
  /-- CYCHI as last latched -/
  cycHi : Word := 0
  /-- tapped columns in work, oldest first -/
  tap : List TapCol := []
  deriving DecidableEq, Repr

/-- A transfer of an engine DMAn as GO found it (R349). -/
structure DmaSt where
  src : Nat
  dst : Nat
  n : Nat
  srcInc : Bool
  dstInc : Bool
  deriving DecidableEq, Repr


/-! ## The AMP agent (R285-R294) -/

/-- An admitted request: its source, the port or lane it came on, its UDP source port, whether it is malformed, and the message without padding. -/
structure AmpReq where
  src : AmpSrc
  port : Nat
  sport : Nat
  bad : Bool
  msg : List Byte
  deriving DecidableEq, Repr

/-- A Guard session: SESSION, source and user, and the ms tick of the last request that bore it (R294). -/
structure AmpSess where
  id : Word
  src : AmpSrc
  uid : Nat
  last : Nat
  deriving DecidableEq, Repr

/-- The open window of a source: the requests admitted in it, and the ms tick at which it began (R288). -/
structure AmpWin where
  src : AmpSrc
  count : Nat
  start : Nat
  deriving DecidableEq, Repr

/-- The AMP agent beside its registers. -/
structure AmpSt where
  queue : List AmpReq := []
  /-- open windows (R288) -/
  wins : List AmpWin := []
  /-- the last reply of each source (R289) -/
  kept : List (AmpSrc × List Byte) := []
  sess : Option AmpSess := none
  /-- consecutive wrong AUTH requests; AUTH is barred -/
  fails : Nat := 0
  locked : Bool := false
  /-- the ms tick at which AUTH was barred (R294) -/
  lockMs : Nat := 0
  /-- a COMMIT, or an ABORT with an entry, whose reply waits for its log entry (R319) -/
  busy : Option AmpReq := none
  /-- the MSPI reply buffer -/
  reply : Option (List Byte) := none
  deriving DecidableEq, Repr


/-- A flash command in progress (R73): 1 erase, 2 program, 3 read; its first byte address; the bytes to program. -/
structure FlashOp where
  cmd : Nat
  addr : Nat
  data : List Byte
  deriving DecidableEq, Repr


/-! ## Faults, refusals and the whole state -/

/-- Why a run stops. -/
inductive Fault where
  /-- A branch, jump, IDLE or RTI was issued inside a LOOP body (R342: the body must not hold one, and no effect is stated). Raised by the DSP
  core's issue operation. SAFE: the model stops where the manual gives no behaviour. -/
  | loopBodyForbidden
  deriving DecidableEq, Repr

/-- Why a command has no meaning. -/
inductive Refusal where
  /-- The command is rejected by name: it is not modelled yet. SAFE. -/
  | notModelled (mnemonic : String)
  deriving DecidableEq, Repr

/-- The whole state of the device. -/
structure State where
  /-- the commands that are waiting, first in first out (the model's own) -/
  pending : List Instr := []
  /-- fresh free values taken so far (the model's own) -/
  freeCtr : Nat := 0
  /-- time in ns on the TCLK grid -/
  now : Nat := 0
  /-- ms ticks since power-up (R42) -/
  ms : Nat := 0
  /-- every register, by bus address; an unlisted one holds its reset value -/
  regs : SMap Word := []
  /-- the copies of the registers that take effect at a column boundary (R8) -/
  eff : SMap Word := []
  /-- shot plan, field map, DSP memories, by bus address; an unlisted byte reads 0 -/
  mem : List Host.Cell := []
  /-- QSPI flash bytes; an unlisted byte reads 0xFF -/
  flash : List Host.Cell := []
  /-- the Tun's bins by bin number; an unlisted bin reads 0 -/
  tun : SMap (BitVec 16) := []
  dev : Dev := .boot
  nvm : Nvm := {}
  rst : RstSt := {}
  pins : PinSt := {}
  emit : EmitSt := {}
  strs : SMap StrSt := []
  scan : ScanSt := {}
  kiln : KilnSt := {}
  time : TimeSt := {}
  anchor : Anchor := {}
  therm : ThermSt := {}
  chans : SMap ChanSt := []
  clus : SMap CluSt := []
  mash : MashSt := {}
  tins : SMap TinSt := []
  /-- histograms passed to the Lauter and not yet extracted, by channel -/
  hists : SMap Hist := []
  lau : LauSt := {}
  /-- active copy of the range calibration, by the address of its staged word (R186) -/
  cal : SMap Word := []
  wort : WortSt := {}
  dwl : DwlSt := {}
  ctl : CtlSt := {}
  /-- the latest ADC0 result of each source that a request or the background stream converted (Table 11.1) -/
  adcLast : SMap Nat := []
  adc : AdcSt := {}
  /-- where the AFE's round robin stands: one more than the definition last converted (R243) -/
  afePos : Nat := 0
  lanes : SMap LaneSt := []
  eths : SMap EthSt := []
  prp : List PrpEnt := []
  /-- event interrupt lines pending, by core (R345) -/
  lines : SMap Nat := []
  /-- a valid AMP message has restarted the PLLs in PARK (R13) -/
  parkWake : Bool := false
  guard : GuardSt := {}
  cask : CaskSt := {}
  cores : SMap CoreSt := []
  dma : SMap (Option DmaSt) := []
  amp : AmpSt := {}
  /-- the flash command in progress -/
  flOp : Option FlashOp := none
  deriving DecidableEq, Repr

/-- What an unlisted register holds: its reset value (R378). -/
abbrev State.regDefault : Nat → Word := regReset

/-- The machine right after a power-on reset: every register at its reset value, BOOT, nothing queued. -/
def State.reset : State := {}

end Sys2Proof.Machine
end

