-- ==== Sys2Proof/Machine/Ops.lean ====
section
/-!
DEFINITION. The named operations over registers, memory, cause bits and the event log that every meaning is written with.
-/
namespace Sys2Proof.Machine

/-- The outcome of one command. -/
abbrev Out := Host.Outcome State Fault Refusal

/-! ## The parts of the state: one setter each -/

/-- `now` becomes `x`. -/
def State.withNow (s : State) (x : Nat) : State := { s with now := x }

/-- `ms` becomes `x`. -/
def State.withMs (s : State) (x : Nat) : State := { s with ms := x }

/-- `eff` becomes `x`. -/
def State.withEff (s : State) (x : SMap Word) : State := { s with eff := x }

/-- `flash` becomes `x`. -/
def State.withFlash (s : State) (x : List Host.Cell) : State := { s with flash := x }

/-- `tun` becomes `x`. -/
def State.withTun (s : State) (x : SMap (BitVec 16)) : State := { s with tun := x }

/-- `dev` becomes `x`. -/
def State.withDev (s : State) (x : Dev) : State := { s with dev := x }

/-- `nvm` becomes `x`. -/
def State.withNvm (s : State) (x : Nvm) : State := { s with nvm := x }

/-- `rst` becomes `x`. -/
def State.withRst (s : State) (x : RstSt) : State := { s with rst := x }

/-- `pins` becomes `x`. -/
def State.withPins (s : State) (x : PinSt) : State := { s with pins := x }

/-- `emit` becomes `x`. -/
def State.withEmit (s : State) (x : EmitSt) : State := { s with emit := x }

/-- `strs` becomes `x`. -/
def State.withStrs (s : State) (x : SMap StrSt) : State := { s with strs := x }

/-- `scan` becomes `x`. -/
def State.withScan (s : State) (x : ScanSt) : State := { s with scan := x }

/-- `kiln` becomes `x`. -/
def State.withKiln (s : State) (x : KilnSt) : State := { s with kiln := x }

/-- `time` becomes `x`. -/
def State.withTime (s : State) (x : TimeSt) : State := { s with time := x }

/-- `anchor` becomes `x`. -/
def State.withAnchor (s : State) (x : Anchor) : State := { s with anchor := x }

/-- `therm` becomes `x`. -/
def State.withTherm (s : State) (x : ThermSt) : State := { s with therm := x }

/-- `chans` becomes `x`. -/
def State.withChans (s : State) (x : SMap ChanSt) : State := { s with chans := x }

/-- `clus` becomes `x`. -/
def State.withClus (s : State) (x : SMap CluSt) : State := { s with clus := x }

/-- `mash` becomes `x`. -/
def State.withMash (s : State) (x : MashSt) : State := { s with mash := x }

/-- `tins` becomes `x`. -/
def State.withTins (s : State) (x : SMap TinSt) : State := { s with tins := x }

/-- `hists` becomes `x`. -/
def State.withHists (s : State) (x : SMap Hist) : State := { s with hists := x }

/-- `lau` becomes `x`. -/
def State.withLau (s : State) (x : LauSt) : State := { s with lau := x }

/-- `cal` becomes `x`. -/
def State.withCal (s : State) (x : SMap Word) : State := { s with cal := x }

/-- `wort` becomes `x`. -/
def State.withWort (s : State) (x : WortSt) : State := { s with wort := x }

/-- `dwl` becomes `x`. -/
def State.withDwl (s : State) (x : DwlSt) : State := { s with dwl := x }

/-- `ctl` becomes `x`. -/
def State.withCtl (s : State) (x : CtlSt) : State := { s with ctl := x }

/-- `adcLast` becomes `x`. -/
def State.withAdcLast (s : State) (x : SMap Nat) : State := { s with adcLast := x }

/-- `adc` becomes `x`. -/
def State.withAdc (s : State) (x : AdcSt) : State := { s with adc := x }

/-- `afePos` becomes `x`. -/
def State.withAfePos (s : State) (x : Nat) : State := { s with afePos := x }

/-- `lanes` becomes `x`. -/
def State.withLanes (s : State) (x : SMap LaneSt) : State := { s with lanes := x }

/-- `eths` becomes `x`. -/
def State.withEths (s : State) (x : SMap EthSt) : State := { s with eths := x }

/-- `prp` becomes `x`. -/
def State.withPrp (s : State) (x : List PrpEnt) : State := { s with prp := x }

/-- `lines` becomes `x`. -/
def State.withLines (s : State) (x : SMap Nat) : State := { s with lines := x }

/-- `parkWake` becomes `x`. -/
def State.withParkWake (s : State) (x : Bool) : State := { s with parkWake := x }

/-- `guard` becomes `x`. -/
def State.withGuard (s : State) (x : GuardSt) : State := { s with guard := x }

/-- `cask` becomes `x`. -/
def State.withCask (s : State) (x : CaskSt) : State := { s with cask := x }

/-- `cores` becomes `x`. -/
def State.withCores (s : State) (x : SMap CoreSt) : State := { s with cores := x }

/-- `dma` becomes `x`. -/
def State.withDma (s : State) (x : SMap (Option DmaSt)) : State := { s with dma := x }

/-- `amp` becomes `x`. -/
def State.withAmp (s : State) (x : AmpSt) : State := { s with amp := x }

/-- `flOp` becomes `x`. -/
def State.withFlOp (s : State) (x : Option FlashOp) : State := { s with flOp := x }

/-! ## Registers and fields -/

/-- The 32 bits a register holds. -/
def State.rget (s : State) (a : Nat) : Word := SMap.get regReset s.regs a

/-- Writing all 32 bits of a register, by the hardware. -/
def State.rset (s : State) (a : Nat) (v : Word) : State := { s with regs := SMap.set regReset s.regs a v }

/-- Field `F` of a word. -/
def Fld.of (F : Fld) (v : Word) : Nat := v.toNat / 2 ^ F.lo % 2 ^ F.w

/-- The word `v` with field `F` set to `x` (reduced to the field's width). -/
def Fld.put (F : Fld) (v : Word) (x : Nat) : Word :=
  BitVec.ofNat 32 (v.toNat - Fld.of F v * 2 ^ F.lo + x % 2 ^ F.w * 2 ^ F.lo)

/-- The value of a field, as a number. -/
def State.f (s : State) (F : Fld) : Nat := F.of (s.rget F.addr)

/-- A one-bit field. -/
def State.b (s : State) (F : Fld) : Bool := s.f F != 0

/-- A field read as a two's-complement number. -/
def State.fs (s : State) (F : Fld) : Int := (BitVec.ofNat F.w (s.f F)).toInt

/-- The hardware sets a field. -/
def State.setF (s : State) (F : Fld) (x : Nat) : State := s.rset F.addr (F.put (s.rget F.addr) x)

/-- A field set from a Boolean. -/
def State.setB (s : State) (F : Fld) (x : Bool) : State := s.setF F x.toNat

/-- A signed value put into a field, saturated to the field. -/
def State.setFs (s : State) (F : Fld) (x : Int) : State := s.setF F (BitVec.ofInt F.w x).toNat

/-- A saturating counter field: it stops at its largest value. -/
def State.incSat (s : State) (F : Fld) (n : Nat) : State := s.setF F (min (2 ^ F.w - 1) (s.f F + n))

/-- A wrapping counter field. -/
def State.incMod (s : State) (F : Fld) (n : Nat) : State := s.setF F (s.f F + n)

/-- The copy of a register that is in effect since the last column boundary (R8). -/
def State.effGet (s : State) (a : Nat) : Word := SMap.get regReset s.eff a

/-- A field of the copy in effect. -/
def State.ef (s : State) (F : Fld) : Nat := F.of (s.effGet F.addr)

/-- The copies of the registers `as` taken at a column boundary. -/
def State.latchEff (s : State) (as : List Nat) : State :=
  s.withEff (as.foldl (fun m a => SMap.set regReset m a (s.rget a)) s.eff)

/-! ## Bytes of memory (R5: little-endian) -/

/-- What an unlisted byte of plan, field map and DSP memory reads as. -/
def memDefault : Nat → Byte := fun _ => 0

/-- What an unlisted byte of the flash reads as: erased. -/
def flashDefault : Nat → Byte := fun _ => 0xFF

/-- One byte of memory. -/
def State.mget (s : State) (a : Nat) : Byte := SMap.get memDefault s.mem a

/-- Writing one byte of memory. -/
def State.mset (s : State) (a : Nat) (v : Byte) : State := { s with mem := SMap.set memDefault s.mem a v }

/-- The canonical form of the memory. -/
abbrev Memory.wf (m : List Host.Cell) : Bool := SMap.wf memDefault m

/-- A little-endian half-word. -/
def State.mgetH (s : State) (a : Nat) : BitVec 16 := s.mget (a + 1) ++ s.mget a

/-- A little-endian word. -/
def State.mgetW (s : State) (a : Nat) : Word := s.mgetH (a + 2) ++ s.mgetH a

/-- Writing a half-word. -/
def State.msetH (s : State) (a : Nat) (v : BitVec 16) : State :=
  (s.mset a (v.extractLsb' 0 8)).mset (a + 1) (v.extractLsb' 8 8)

/-- Writing a word. -/
def State.msetW (s : State) (a : Nat) (v : Word) : State :=
  (s.msetH a (v.extractLsb' 0 16)).msetH (a + 2) (v.extractLsb' 16 16)

/-- A byte of the flash. -/
def State.flashGet (s : State) (a : Nat) : Byte := SMap.get flashDefault s.flash a

/-- A little-endian word from a list of bytes, at offset `o`. -/
def bytesW (l : List Byte) (o : Nat) : Word :=
  l.getD (o + 3) 0 ++ l.getD (o + 2) 0 ++ l.getD (o + 1) 0 ++ l.getD o 0

/-- The four bytes of a word, little-endian. -/
def wordBytes (w : Word) : List Byte := [w.extractLsb' 0 8, w.extractLsb' 8 8, w.extractLsb' 16 8, w.extractLsb' 24 8]

/-! ## Strings -/

/-- String Sn. -/
def State.str (s : State) (n : Nat) : StrSt := SMap.get (fun _ => ({} : StrSt)) s.strs n

/-- Replacing string Sn. -/
def State.setStr (s : State) (n : Nat) (x : StrSt) : State := s.withStrs (SMap.set (fun _ => ({} : StrSt)) s.strs n x)

/-! ## Cause bits (R354-R358) -/

/-- The register that holds bit `b` of block `n`'s causes (Table 18.1). Block 10 has none of its own: its causes are CTL_STAT's level bits. -/
def causeReg (n b : Nat) : Nat :=
  match n with
  | 0 => if b ≤ 2 then Reg.TOP_PINTEST else Reg.TOP_XFLAG
  | 1 => Reg.RST_CAUSE
  | 2 => if 7 ≤ b then Reg.PWR_FAULT else Reg.CLK_STATUS
  | 3 => Reg.EMIT_FAULT
  | 4 => Reg.SCAN_FLAG
  | 5 => Reg.KILN_EYEFLAG
  | 6 => Reg.RX_FLAG
  | 7 => Reg.MASH_FLAG
  | 8 => Reg.LAU_FLAG
  | 9 => Reg.WORT_FLAG
  | 11 => Reg.ADC0_FLAG
  | 12 => Reg.AFE_FLAG
  | 13 => Reg.THERM_FLAG
  | 14 => Reg.LANE_FLAG
  | 15 => Reg.ETH_FLAG 0
  | 16 => Reg.ETH_FLAG 1
  | 17 => Reg.TIME_FLAG
  | 18 => Reg.DWL_FLAG
  | 19 => Reg.AMP_FLAG
  | 20 => Reg.GUARD_FLAG
  | 24 => Reg.LOG_FLAG
  | 25 => Reg.TIN_FLAG
  | 26 => Reg.BUS_FRZ
  | _ => Reg.TOP_XFLAG

/-- The event counter of a cause bit (R357): it saturates. -/
def State.countCause (s : State) (c : Cause) : State := s.incSat (Fld.TOP_EVCNT_COUNT c.blk c.bit) 1

/-- The hardware sets a cause bit (R355, R357): the bit is set, and the counter counts every set. -/
def State.raise (s : State) (c : Cause) : State :=
  let s := s.countCause c
  s.setF ⟨causeReg c.blk c.bit, c.bit, 1⟩ 1

/-- Raising a cause if a condition holds. -/
def State.raiseIf (s : State) (p : Bool) (c : Cause) : State := if p then s.raise c else s

/-- CTL_STAT's level bits (Table 11.6): CSAT bit 16 + n, LSAT bit 8 + n, from the loops' sticky flags. -/
def State.ctlLevel (s : State) : Nat :=
  (List.range 8).foldl (fun acc n =>
    acc + (if s.f (Fld.CTL_LSAT_FLAGS n) != 0 then 2 ^ (8 + n) else 0)
        + (if (List.range 4).any (fun j => s.f (Fld.CTL_CSAT_FLAGS n j) != 0) then 2 ^ (16 + n) else 0)) 0

/-- The cause bits of block `n` that are set (Table 18.1). -/
def State.causes (s : State) (n : Nat) : Nat :=
  let m (a mask : Nat) : Nat := (s.rget a).toNat &&& mask
  match n with
  | 0 => m Reg.TOP_PINTEST 7 ||| m Reg.TOP_XFLAG 0x03000000
  | 1 => m Reg.RST_CAUSE 0x3FFF
  | 2 => m Reg.PWR_FAULT 0x380 ||| m Reg.CLK_STATUS 0x62
  | 3 => m Reg.EMIT_FAULT 0xFFFF001F
  | 4 => m Reg.SCAN_FLAG 0xFF
  | 5 => m Reg.KILN_EYEFLAG 7
  | 6 => m Reg.RX_FLAG 0x3F
  | 7 => m Reg.MASH_FLAG 0x7F
  | 8 => m Reg.LAU_FLAG 0x3D
  | 9 => m Reg.WORT_FLAG 0x7F
  | 10 => s.ctlLevel
  | 11 => m Reg.ADC0_FLAG 0x3F
  | 12 => m Reg.AFE_FLAG 0xF
  | 13 => m Reg.THERM_FLAG 0x3F
  | 14 => m Reg.LANE_FLAG 0xFFF0
  | 15 => m (Reg.ETH_FLAG 0) 0x3F
  | 16 => m (Reg.ETH_FLAG 1) 0x1F
  | 17 => m Reg.TIME_FLAG 0xF
  | 18 => m Reg.DWL_FLAG 0x1F
  | 19 => m Reg.AMP_FLAG 0x1F
  | 20 => m Reg.GUARD_FLAG 0x1F
  | 21 => m Reg.TOP_XFLAG 0x30000
  | 22 => m Reg.TOP_XFLAG 0xF
  | 23 => m Reg.TOP_XFLAG 0xF00
  | 24 => m Reg.LOG_FLAG 0x1F
  | 25 => m Reg.TIN_FLAG 0xFFFF
  | 26 => m Reg.BUS_FRZ 0x1FE
  | _ => 0

/-- TOP_RAW (R354): bit n while block n has any cause bit set. -/
def State.topRaw (s : State) : Nat :=
  (List.range 27).foldl (fun acc n => acc + if s.causes n != 0 then 2 ^ n else 0) 0

/-- TOP_SUMMARY (R354): bit n while block n has a cause bit both set and enabled. -/
def State.topSummary (s : State) : Nat :=
  (List.range 27).foldl (fun acc n => acc + if (s.causes n &&& (s.rget (Reg.TOP_EN n)).toNat) != 0 then 2 ^ n else 0) 0

/-- IRQ_N is low while TOP_SUMMARY is not 0 (R356); the same condition is DSP1 line 16. -/
def State.irq (s : State) : Bool := s.topSummary != 0

/-! ## Device state (R295, R296, R298) -/

/-- The code of a device state (Table 14.6). -/
def Dev.code : Dev → Nat
  | .boot => 0 | .idle => 1 | .scan => 2 | .park => 3 | .safe => 4 | .service => 5

/-- Every change of the device state sets AMP_FLAG.STATE (R295). -/
def State.setDev (s : State) (d : Dev) : State :=
  if s.dev = d then s
  else ((s.withDev d).setF Fld.AMP_STATE_STATE d.code).raise Cause.AMP_STATE

/-! ## The event log (R363) and the times of log entries (R321) -/

/-- The time words of a log entry formed now: SEC_LO, TV with SEC_HI, NSEC (R321). -/
def State.logTime (s : State) : List Word :=
  let ts := (s.time.ctr >>> 32).toNat
  let d := (ts + 2 ^ 32 - s.anchor.cnt.toNat) % 2 ^ 32
  if s.anchor.valid && decide (s.anchor.nsec.toNat < 1000000000) && s.b Fld.TIME_CTRL_VALID && decide (d < 2 ^ 31) then
    let ns := s.anchor.nsec.toNat + d
    let sec := s.anchor.secHi.toNat * 2 ^ 32 + s.anchor.secLo.toNat + ns / 1000000000
    [BitVec.ofNat 32 sec, BitVec.ofNat 32 (2 ^ 31 + sec / 2 ^ 32 % 2 ^ 16), BitVec.ofNat 32 (ns % 1000000000)]
  else [0, 0, 0]

/-- The next NVM write begins (R39, R252, R363): none is in progress, the NVM is available and no die value locks it. Event-log entries leave
their queue in order; other writes go first. -/
def State.nvmKick (s : State) : State :=
  if s.nvm.cur.isNone && s.rst.nvmAvail && s.b Fld.THERM_STAT_NVM_OK then
    match s.nvm.work, s.nvm.queue with
    | w :: r, _ => s.withNvm { s.nvm with cur := some w, work := r }
    | [], e :: r => s.withNvm { s.nvm with cur := some (.event e), queue := r }
    | [], [] => s
  else s

/-- An NVM write other than an event-log entry is due. -/
def State.nvmPush (s : State) (w : NvmWrite) : State := (s.withNvm { s.nvm with work := s.nvm.work ++ [w] }).nvmKick

/-- An event writes an event-log entry (R363): words 1-6 enter the 16-entry queue of R252, or the entry is dropped and counted. -/
def State.logEvent (s : State) (code : Nat) (d0 d1 : Word) : State :=
  if s.nvm.queue.length < 16 then
    let w4 := BitVec.ofNat 32 (code * 65536 + s.f Fld.RST_COUNT_COUNT % 65536)
    (s.withNvm { s.nvm with queue := s.nvm.queue ++ [s.logTime ++ [w4, d0, d1]] }).nvmKick
  else s.incSat Fld.THERM_CNT_NVMDROP 1

/-! ## Interrupt lines (R345) -/

/-- An event line of a core sets its INTPEND bit (Table 17.6). -/
def State.line (s : State) (core i : Nat) : State :=
  s.withLines (SMap.set (fun _ => 0) s.lines core (SMap.get (fun _ => 0) s.lines core ||| 2 ^ i))

/-! ## Reset sources (R45, R49) -/

/-- A source of Table 3.5 is raised: its reset asserts at the next ACLK edge (R49). -/
def State.raiseReset (s : State) (src : Nat) : State :=
  s.withRst { s.rst with raised := s.rst.raised ||| 2 ^ src }

/-! ## Fresh free values -/

/-- Taking a fresh number for a free value. -/
def State.fresh (s : State) : Nat × State := (s.freeCtr, { s with freeCtr := s.freeCtr + 1 })

end Sys2Proof.Machine
end

