-- ==== Sys2Proof/Machine/Adc.lean ====
section
/-!
DEFINITION. ADC0 (chapter 12): conversions and their codes, the reference, the slot schedule of its requesters, the INV windows. A slot is one TCLK period of 4 ns; slot
`k` begins at 4k ns.
-/
namespace Sys2Proof.Machine

/-! ## Codes (R232) -/

/-- Differential sources (Table 12.1). -/
def adcDiff (k : Nat) : Bool := k = 9 || k = 11 || k = 12 || k = 15

/-- The divider before the converter (Table 12.1: VIN ÷ 100, AVDD18 ÷ 2). -/
def adcDivider (k : Nat) : Nat := if k = 10 then 100 else if k = 14 then 2 else 1

/-- The input of source `k` in nV, before its divider: one ball, a pair, or the AX pins that ADC0_AXSEL chooses of the eight (Table 12.1). -/
def State.adcInput (s : State) (k : Nat) (c : Conv) : Int :=
  let pin (i : Nat) : Int := c.v.getD i 0
  if k = 11 then pin (s.f Fld.ADC0_AXSEL_AXA_P) - pin (s.f Fld.ADC0_AXSEL_AXA_N)
  else if k = 12 then pin (s.f Fld.ADC0_AXSEL_AXB_P) - pin (s.f Fld.ADC0_AXSEL_AXB_N)
  else if adcDiff k then pin 0 - pin 1 else pin 0

/-- VREF in nV (R233): INT is 1.200 V, EXT and SUP are what the ball carries; 3 acts as 0. -/
def State.adcRef (s : State) (c : Conv) : Nat :=
  if s.f Fld.ADC0_CTRL_REF = 0 || s.f Fld.ADC0_CTRL_REF = 3 then 1200000000 else c.ref

/-- The two formulas of R232, for gain `g`, an input of `v` nV after a divider of `dv`, and a reference of `ref` nV. -/
def adcFormula (diff : Bool) (g : Nat) (v : Int) (dv ref : Nat) : Nat :=
  if diff then (min 4095 (max 0 (2048 + 2048 * g * v / (dv * ref : Nat)))).toNat
  else (min 4095 (max 0 (4096 * g * v / (dv * ref : Nat)))).toNat

/-- The gain of source `k` in effect at `t` ns: the register's, or what it was before the first change after `t` (R237). -/
def State.gainAt (s : State) (k t : Nat) : Nat :=
  match s.adc.gains.find? (fun c => c.src = k && t < 4 * c.slot) with
  | some c => c.old
  | none => s.f (Fld.ADC0_SRC_GAIN k)

/-- A conversion of source `k` begun at `t` ns falls in the window of R237 after a gain change: slots −11 to +15. -/
def State.gainInv (s : State) (k t : Nat) : Bool :=
  s.adc.gains.any (fun c => c.src = k && decide (c.slot ≤ t / 4 + 11) && decide (t / 4 ≤ c.slot + 15))

/-- Slots 0 to +15 after a gain change convert at a gain that has not settled. -/
def State.gainSettling (s : State) (k t : Nat) : Bool :=
  s.adc.gains.any (fun c => c.src = k && decide (c.slot ≤ t / 4) && decide (t / 4 ≤ c.slot + 15))

/-- The code of a conversion of source `k` begun at `t` ns (R232). While the gain settles, and without a reference voltage, it is a free value (assumption log 97). -/
def State.adcCode (s : State) (k t : Nat) (c : Conv) : Nat :=
  if s.gainSettling k t || s.adcRef c = 0 then (Config.adcOpen k t).toNat
  else adcFormula (adcDiff k) (2 ^ s.gainAt k t) (s.adcInput k c) (adcDivider k) (s.adcRef c)

/-! ## Register changes (R233, R237) -/

/-- The gain of source `k` is written where it was `old`: a change takes effect in the slot after the write (R237). Changes older than 1 ms are forgotten, longer than any
burst lasts. -/
def State.adcGainWritten (s : State) (k old : Nat) : State :=
  if old = s.f (Fld.ADC0_SRC_GAIN k) then s else
    s.withAdc { s.adc with gains := s.adc.gains.filter (fun c => decide (s.now / 4 ≤ c.slot + 250000)) ++ [{ src := k, slot := s.now / 4 + 1, old := old }] }

/-- The background channel is written where it was `old` (R237): the next 11 results still come from that source. -/
def State.adcChannelWritten (s : State) (old : Nat) : State :=
  if old = s.f Fld.ADC0_BG_CH then s else s.withAdc { s.adc with chInv := 11, chOld := if s.adc.chInv = 0 then old else s.adc.chOld }

/-- ADC0_CTRL is written where REF was `old`: with another reference selected REFRDY falls until the monitor reports it settled (R233, R237). -/
def State.adcRefSelected (s : State) (old : Nat) : State :=
  if old % 3 = s.f Fld.ADC0_CTRL_REF % 3 then s else (s.withAdc { s.adc with refFail := false }).setB Fld.ADC0_STAT_REFRDY false

/-- Row ADC0_REF_READY: the reference has settled (R233), unless its time was up before. -/
def execAdc0RefReady (s : State) : Out := .next (if s.adc.refFail then s else s.setB Fld.ADC0_STAT_REFRDY true)

/-- Row ADC0_REF_FAIL: 1 ms after a selection without REFRDY (R233): REFRDY stays 0. -/
def execAdc0RefFail (s : State) : Out :=
  .next (if s.b Fld.ADC0_STAT_REFRDY then s else (s.withAdc { s.adc with refFail := true }).raise Cause.ADC0_REF_FAIL)

/-- The 16-bit result word of a conversion of source `k` begun at `t` ns (R236). -/
def State.resultWord (s : State) (k t : Nat) (c : Conv) (gap : Bool) : BitVec 16 :=
  BitVec.ofNat 16 (s.adcCode k t c + (if !s.b Fld.ADC0_STAT_REFRDY || s.gainInv k t then 0x1000 else 0) + (if gap then 0x4000 else 0))

/-! ## The slot schedule (R234, R235) -/

/-- The job that takes slot `t`, as its place among `jobs`, from what each has still to convert and who took the slot before: the highest priority among those that wait,
but an MSNS sample that has waited 50 slots takes every second one (R235). Its wait is counted from its trigger (DEDUCED, log 98). -/
def adcPick (jobs : List AdcJob) (rem : List Nat) (prev : Option Nat) (t : Nat) : Option Nat :=
  let ready := ((List.range jobs.length).zip jobs).filter (fun p => decide (p.2.trig ≤ t) && decide (0 < rem.getD p.1 0))
  let best := ready.foldl (fun (b : Option (Nat × AdcJob)) p => match b with
    | none => some p
    | some q => if p.2.who < q.2.who then some p else b) none
  match ready.find? (fun p => p.2.who = 1 && decide (p.2.trig + 50 ≤ t)) with
  | some m => if prev = some m.1 then best.map (·.1) else some m.1
  | none => best.map (·.1)

/-- Who takes each of `n` slots from slot `t` on. -/
def adcPlan (jobs : List AdcJob) : Nat → Nat → Option Nat → List Nat → List (Option Nat)
  | 0, _, _, _ => []
  | n + 1, t, prev, rem =>
    let o := adcPick jobs rem prev t
    o :: adcPlan jobs n (t + 1) o (match o with | some i => rem.set i (rem.getD i 0 - 1) | none => rem)

/-- The first slot of the schedule of `jobs`. -/
def adcFrom (jobs : List AdcJob) : Nat := jobs.foldl (fun a j => min a j.trig) ((jobs.head?.map (·.trig)).getD 0)

/-- The slots that every job of `jobs` takes, as pairs of a slot and a place in `jobs`. -/
def adcTaken (jobs : List AdcJob) : List (Nat × Nat) :=
  let last := jobs.foldl (fun a j => max a j.trig) 0
  let total := jobs.foldl (fun a j => a + j.len) 0
  let base := adcFrom jobs
  let plan := adcPlan jobs (last - base + total) base none (jobs.map (·.len))
  ((List.range plan.length).zip plan).filterMap (fun p => p.2.map (fun i => (base + p.1, i)))

/-- The slots of the job at place `i`, in order. -/
def adcSlots (jobs : List AdcJob) (i : Nat) : List Nat := ((adcTaken jobs).filter (fun p => p.2 = i)).map (·.1)

/-- Slot `t` is used by a requester other than the background stream (R235). -/
def State.adcUsed (s : State) (t : Nat) : Bool := (adcTaken s.adc.jobs).any (fun p => p.1 = t)

/-- The jobs that still matter in slot `now`: those whose results are still to come, and those of the last 4,096 slots. -/
def State.adcRecent (s : State) : List AdcJob := s.adc.jobs.filter (fun j => j.live || decide (s.now / 4 ≤ j.trig + 4096))

/-- A job enters the schedule. -/
def State.adcAdd (s : State) (j : AdcJob) : State := s.withAdc { s.adc with jobs := s.adcRecent ++ [j] }

/-- The place of the oldest job of requester `who` whose results are still to come. -/
def State.adcLive (s : State) (who : Nat) : Option Nat := s.adc.jobs.findIdx? (fun j => j.who = who && j.live)

/-- The results of the job at place `i` have come. -/
def State.adcDone (s : State) (i : Nat) : State :=
  match s.adc.jobs[i]? with
  | none => s
  | some j => s.withAdc { s.adc with jobs := s.adc.jobs.set i { j with live := false } }

/-- The slots of the oldest live job of requester `who`: empty without one. -/
def State.adcSlotsOf (s : State) (who : Nat) : List Nat := match s.adcLive who with | some i => adcSlots s.adc.jobs i | none => []

/-- The oldest live job of requester `who` has ended. -/
def State.adcEnd (s : State) (who : Nat) : State := match s.adcLive who with | some i => s.adcDone i | none => s

/-- The codes of conversions of source `k` begun in the slots `slots`. -/
def State.adcCodes (s : State) (k : Nat) (slots : List Nat) (convs : List Conv) : List Nat :=
  (slots.zip convs).map (fun p => s.adcCode k (4 * p.1) p.2)

/-- The first slot that begins at or after `t` ns. -/
def slotAt (t : Nat) : Nat := (t + 3) / 4

/-- MSNS sampling is requested at an engine tick, for `n` conversions (R234); a sample that never came is given up. -/
def State.adcMsns (s : State) (n : Nat) : State := (s.adcEnd 1).adcAdd { who := 1, src := 9, trig := slotAt s.now, len := n, live := true }

/-- Request `n` is triggered at `t` (R234). Triggers that nothing has served for 100 µs are forgotten. -/
def State.adcDue (s : State) (n t : Nat) : State :=
  s.withAdc { s.adc with due := s.adc.due.filter (fun p => decide (s.now ≤ p.2 + 100000)) ++ [(n, t)] }

/-- String `k` has fired at `t`: requests triggered by it are, DELAY × 4 ns later (R234). -/
def State.adcFired (s : State) (k t : Nat) : State :=
  (List.range 4).foldl (fun (s : State) n =>
    if s.b (Fld.ADC0_REQ_EN n) && s.f (Fld.ADC0_REQ_TRIG n) = 2 && s.f (Fld.ADC0_REQ_STR n) = k then s.adcDue n (t + 4 * s.f (Fld.ADC0_REQT_DELAY n)) else s) s

/-- An engine tick: a request with TICK is triggered on every PER-th (R234). -/
def State.adcTick (s : State) : State :=
  (List.range 4).foldl (fun (s : State) n =>
    if s.b (Fld.ADC0_REQ_EN n) && s.f (Fld.ADC0_REQ_TRIG n) = 3 then
      let c := SMap.get (fun _ => 0) s.adc.ticks n + 1
      if c < max 1 (s.f (Fld.ADC0_REQT_PER n)) then s.withAdc { s.adc with ticks := SMap.set (fun _ => 0) s.adc.ticks n c }
      else (s.withAdc { s.adc with ticks := SMap.set (fun _ => 0) s.adc.ticks n 0 }).adcDue n s.now
    else s) s

/-! ## The counter at a conversion (R236, R239) -/

/-- The increment in effect on the scale of the counter (R272). -/
def State.incStep (s : State) : BitVec 64 := s.time.inc.zeroExtend 64 <<< (4 : Nat)

/-- The time counter at the TCLK edge at `t` ns, not later than now: from the last edges, or counted back from the oldest of them. -/
def State.ctrAt (s : State) (t : Nat) : BitVec 64 :=
  let k := (s.now - t) / 4
  let l := s.time.ctr :: s.time.past
  match l[k]? with
  | some c => c
  | none => l.getLastD s.time.ctr - BitVec.ofNat 64 (k + 1 - l.length) * s.incStep

/-- ADC0_REQTSn records NS at the start of a burst's first conversion, once that has come (R236). -/
def State.adcStamp (s : State) : State :=
  (List.range 4).foldl (fun (s : State) n => match SMap.get (fun _ => (none : Option Nat)) s.adc.start n with
    | some k => if 4 * k ≤ s.now then
        (s.setF (Fld.ADC0_REQTS_NS n) (s.ctrAt (4 * k) >>> 32).toNat).withAdc { s.adc with start := SMap.set (fun _ => none) s.adc.start n none } else s
    | none => s) s

end Sys2Proof.Machine
end

