-- ==== Sys2Proof/Machine/Crc.lean ====
section
/-!
DEFINITION. The two checksums the manual defines: CRC-8 of the EMX frame (R80) and CRC-32 of image, option page, logs and links (R63).
-/
namespace Sys2Proof.Machine

/-- One bit of the CRC-8 of R80: polynomial x⁸ + x² + x + 1, no reflection. -/
def crc8Bit (c : BitVec 8) (b : Bool) : BitVec 8 :=
  if c.msb != b then (c <<< 1) ^^^ 0x07 else c <<< 1

/-- The CRC-8 of a bit string, first transmitted bit first; initial value 0 (R80). -/
def crc8 (bits : List Bool) : BitVec 8 := bits.foldl crc8Bit 0

/-- One bit of the CRC-32 of R63, processed reflected. -/
def crc32Bit (c : Word) : Word := if c.getLsbD 0 then (c >>> 1) ^^^ 0xEDB88320 else c >>> 1

/-- One byte of the CRC-32. -/
def crc32Byte (c : Word) (b : Byte) : Word :=
  crc32Bit (crc32Bit (crc32Bit (crc32Bit (crc32Bit (crc32Bit (crc32Bit (crc32Bit (c ^^^ b.zeroExtend 32))))))))

/-- The CRC-32 of IEEE 802.3 over a byte string (R63). -/
def crc32 (l : List Byte) : Word := (l.foldl crc32Byte 0xFFFFFFFF) ^^^ 0xFFFFFFFF

/-- The bits of a vector, most significant first. -/
def msbBits {w : Nat} (v : BitVec w) : List Bool := (List.range w).map (fun i => v.getMsbD i)

end Sys2Proof.Machine
end

