-- ==== Sys2Proof/Machine/GuardOps.lean ====
section
/-!
DEFINITION. The Guard's shared operations (chapter 15): the enable, the conditions of Table 15.3, switching off, output faults, and the confirmation
of an intrusion.
-/
namespace Sys2Proof.Machine

/-- The safety function exists: the running image holds FIELD and GUARD (R304, Table 4.4). -/
def State.guardActive (s : State) : Bool := s.rst.sections.testBit 6 && s.rst.sections.testBit 7

/-! ## The enable (R310) -/

/-- Both channels are at their active level. -/
def State.enBoth (s : State) : Bool :=
  if s.b Fld.GUARD_CFG_ANTIV then s.guard.enA && !s.guard.enB else s.guard.enA && s.guard.enB

/-- Both channels are at their inactive level. -/
def State.enNeither (s : State) : Bool :=
  if s.b Fld.GUARD_CFG_ANTIV then !s.guard.enA && s.guard.enB else !s.guard.enA && !s.guard.enB

/-- The channels are discrepant. -/
def State.enDiffer (s : State) : Bool := !s.enBoth && !s.enNeither

/-- The enable is active (R310). -/
def State.enable (s : State) : Bool := s.enBoth && !s.b Fld.GUARD_FAULT_DISC_FAULT

/-! ## The conditions of Table 15.3 -/

/-- N, the count that confirms (R308). -/
def State.guardN (s : State) : Nat := s.f Fld.GUARD_CFG_NM1 + 1

/-- Some counter stands at N. -/
def State.guardStands (s : State) : Bool := s.guard.cg.any (fun p => decide (s.guardN ≤ p.2))

/-- GUARD_STAT.OFFWHY: the conditions of Table 15.3 that fail. Bit 6 is judged at the moment of switch-on, so it stands only while the outputs are off. -/
def State.offWhy (s : State) : Nat :=
  let bit (k : Nat) (p : Bool) : Nat := if p then 2 ^ k else 0
  bit 0 (!(s.dev = .scan && s.guardActive))
  + bit 1 (s.b Fld.GUARD_FAULT_SOUT_FAULT || s.b Fld.GUARD_FAULT_CRC_ERR || s.b Fld.PWR_FAULT_SOUT_TRIP)
  + bit 2 (!s.enable)
  + bit 3 (s.guardStands || s.b Fld.SCAN_STAT_INHIBIT || decide (s.f Fld.GUARD_STAT_CLEAR < 2))
  + bit 4 (s.b Fld.GUARD_CFG_RESTART && (decide (s.f Fld.GUARD_STAT_CLEAR < 2) || s.b Fld.GUARD_STAT_RST_WAIT))
  + bit 5 (s.b Fld.GUARD_STAT_CHANGE_OPEN || s.b Fld.GUARD_STAT_DIRTY)
  + bit 6 (s.b Fld.GUARD_CFG_CHECK && !s.b Fld.GUARD_STAT_ON && !s.b Fld.GUARD_STAT_EDM)

/-- GUARD_STAT as it reads: its stored bits with OFFWHY and EN as they stand. Without the safety function (R304) both keep their reset value. -/
def State.guardStat (s : State) : Word :=
  if !s.guardActive then s.rget Reg.GUARD_STAT else
  Fld.GUARD_STAT_EN.put (Fld.GUARD_STAT_OFFWHY.put (s.rget Reg.GUARD_STAT) s.offWhy) s.enable.toNat

/-! ## Switching off (R312, R313, R315) -/

/-- SOUT_A and SOUT_B are off: the clear sweeps are counted anew, a pulse in progress is abandoned, and EDM is awaited high (R312, R315, Table 15.6). -/
def State.soutOff (s : State) : State :=
  if s.b Fld.GUARD_STAT_ON then
    let s := ((s.setB Fld.GUARD_STAT_ON false).setF Fld.GUARD_STAT_CLEAR 0).setB Fld.GUARD_STAT_RST_WAIT false
    s.withGuard { s.guard with
        offSweep := s.f Fld.SCAN_STAT_SWEEPS, inact := false, pulse := none, outA := {}, outB := {},
        edmWait := if s.b Fld.GUARD_CFG_CHECK && !s.b Fld.GUARD_STAT_EDM then some true else none, edmMs := s.ms }
  else s

/-- The outputs follow the conditions of Table 15.3: they go off with any that fails. -/
def State.guardFollow (s : State) : State := if s.offWhy % 64 != 0 then s.soutOff else s

/-- A code of Table 15.4 (R316): only the first one is recorded; both outputs go off. -/
def State.soutFault (s : State) (code : Nat) : State :=
  if s.b Fld.GUARD_FAULT_SOUT_FAULT then s.soutOff else
  let s := (s.setB Fld.GUARD_FAULT_SOUT_FAULT true).setF Fld.GUARD_FAULT_FCODE code
  let s := s.raise Cause.GUARD_FAULT
  let s := s.logEvent 0x0050 (s.rget Reg.GUARD_FAULT) s.guardStat
  s.soutOff

/-! ## Confirmation (R306, R308) -/

/-- A sweep's record. -/
def State.gsweep (s : State) (n : Nat) : GSweep := SMap.get (fun _ => ({} : GSweep)) s.guard.sweeps n

/-- Replacing a sweep's record. -/
def State.setGsweep (s : State) (n : Nat) (x : GSweep) : State :=
  s.withGuard { s.guard with sweeps := SMap.set (fun _ => ({} : GSweep)) s.guard.sweeps n x }

/-- The Guard judges the scan: R304 holds and the device is in SCAN. -/
def State.guardScans (s : State) : Bool := s.guardActive && s.dev = .scan

/-- A confirmed intrusion (R308, R309). -/
def State.confirm (s : State) : State :=
  let s := (s.raise Cause.GUARD_CONF).incSat Fld.GUARD_CNT_TRIPS 1
  (s.setF Fld.GUARD_STAT_CLEAR 0).soutOff

/-- Group of a field column (R308). -/
def State.guardGroup (s : State) (f : Nat) : Nat := f / 2 ^ min 6 (s.f Fld.GUARD_CFG_CWIN)

/-- A field column of sweep `n` is intruded (R306, R308): the first of its group in the sweep advances the group's counter. -/
def State.intrude (s : State) (n f : Nat) : State :=
  let g := s.guardGroup f
  let x := s.gsweep n
  let s := s.raise Cause.GUARD_INTR
  let s := s.setGsweep n { x with bad := true, intr := if x.intr.contains g then x.intr else x.intr ++ [g] }
  if x.intr.contains g then s else
  let c := SMap.get (fun _ => 0) s.guard.cg g
  let s := s.withGuard { s.guard with cg := SMap.set (fun _ => 0) s.guard.cg g (min s.guardN (c + 1)) }
  if c + 1 = s.guardN then s.confirm else s

/-- A field-bearing column (R305 ff.). -/
def State.bearing (s : State) (f : Nat) : Bool := s.guard.bearing.contains f

/-- A target passed without a trigger (R306): a skipped field-bearing column is intruded. -/
def State.guardSkip (s : State) (az : Nat) : State :=
  if s.guardScans && s.bearing (az / 32) then s.intrude (s.f Fld.SCAN_STAT_SWEEPS) (az / 32) else s

/-- INHIBIT sets, or stands at the entry to SCAN: an intrusion is confirmed at once, and the sweep is not clear (R308, Table 15.3). -/
def State.guardInhibit (s : State) : State :=
  if s.guardScans then
    let n := s.f Fld.SCAN_STAT_SWEEPS
    (s.setGsweep n { s.gsweep n with bad := true }).confirm
  else s

end Sys2Proof.Machine
end

