-- ==== Sys2Proof/Machine/Emit.lean ====
section
/-!
DEFINITION. The emitter block (chapter 5): dither and fire times, the EMX link, charging and readiness, monitoring, isolation and loss of emitters.
-/
namespace Sys2Proof.Machine

/-! ## Emitters and patterns (R84, R85, R90) -/

/-- The 64-bit mask of lost emitters (EMIT_LOST). -/
def State.lostMask (s : State) : BitVec 64 := s.rget Reg.EMIT_LOST_HI ++ s.rget Reg.EMIT_LOST_LO

/-- String Sn is fitted (EMIT_CTRL.FITTED). -/
def State.fitted (s : State) (n : Nat) : Bool := (s.f Fld.EMIT_CTRL_FITTED).testBit n

/-- String Sn is dead (EMIT_FAULT.DEAD). -/
def State.dead (s : State) (n : Nat) : Bool := (s.f Fld.EMIT_FAULT_DEAD).testBit n

/-- String Sn can be used at all: fitted and not dead (R75). -/
def State.usable (s : State) (n : Nat) : Bool := s.fitted n && !s.dead n

/-- Emitter `e` is fitted and not lost (R90, R91). -/
def State.sound (s : State) (e : Nat) : Bool := s.f (Fld.EMIT_ECAL_SE_BIN e) != 0 && !s.lostMask.getLsbD e

/-- Emitter `e` may be lit (R84): fitted, not lost, in a usable string. -/
def State.lightable (s : State) (e : Nat) : Bool :=
  s.sound e && s.usable (e / 8)

/-- The positions of string `n` that may be lit: the set F of Table 5.3 (R84). -/
def State.lightByte (s : State) (n : Nat) : BitVec 8 :=
  BitVec.ofNat 8 ((List.range 8).foldl (fun acc p => acc + if s.lightable (8 * n + p) then 2 ^ p else 0) 0)

/-- The number of 1 bits of a pattern (R85: n_open). -/
def popcount {w : Nat} (v : BitVec w) : Nat := (List.range w).foldl (fun acc i => acc + (v.getLsbD i).toNat) 0

/-- Pattern `i` of EMIT_PATTAB as in effect in this column (R85). -/
def State.pattern (s : State) (i : Nat) : BitVec 8 := (s.effGet (Reg.EMIT_PATTAB (i / 4))).extractLsb' (8 * (i % 4)) 8

/-- The effective pattern (R85): the pattern with the bits of R84 forced to 0. -/
def State.effPattern (s : State) (n i : Nat) : BitVec 8 := s.pattern i &&& s.lightByte n

/-- The effective pattern with EMIT_PATTAB as it is written: what a column that has not begun yet will take (R8, R85). -/
def State.patternNow (s : State) (n i : Nat) : BitVec 8 := (s.rget (Reg.EMIT_PATTAB (i / 4))).extractLsb' (8 * (i % 4)) 8 &&& s.lightByte n

/-- Rows lit by the emitters of string `n` at the positions of `pat` (EMIT_EROW). -/
def State.rowsOf (s : State) (n : Nat) (pat : BitVec 8) : BitVec 64 :=
  (List.range 8).foldl (fun acc p => if pat.getLsbD p
    then acc ||| (s.rget (Reg.EMIT_EROW (8 * n + p) 1) ++ s.rget (Reg.EMIT_EROW (8 * n + p) 0)) else acc) 0

/-- The EMITTER_LOST mask of R96: rows of all lost emitters and of all emitters of dead strings. -/
def State.emitterLost (s : State) : BitVec 64 :=
  (List.range 8).foldl (fun acc n =>
    let lost : BitVec 8 := if s.dead n then 0xFF else s.lostMask.extractLsb' (8 * n) 8
    acc ||| s.rowsOf n lost) 0

/-! ## Temperatures (R92, R118, R252) -/

/-- The board temperature of string `n` in 1/16 °C, if its sensor is valid and not BROKEN (R252). -/
def State.boardTemp (s : State) (n : Nat) : Option Int :=
  let i := s.f (Fld.KILN_TH_SENS n)
  let m := s.f Fld.THERM_EXT_DEF / 16 ^ i % 16
  if (s.f Fld.THERM_EXT_EN).testBit i && s.b (Fld.AFE_RES_VALID m) && !s.b (Fld.AFE_RES_BROKEN m)
  then some (s.fs (Fld.THERM_T_T (68 + i))) else none

/-- The board temperature Kiln uses (R252: a BROKEN sensor gives KILN_TJMAX), in µ°C. -/
def State.boardMicro (s : State) (n : Nat) : Int :=
  match s.boardTemp n with
  | some t => t * 62500
  | none => s.f Fld.KILN_TJMAX_TJMAX * 1000000

/-- The junction estimate T_j of string `n` in µ°C (R115: T_board + ΔT_n). -/
def State.tjMicro (s : State) (n : Nat) : Int := s.boardMicro n + (s.rget (Reg.KILN_DT n)).toNat

/-- KILN_TJn follows the model (R118), and with it the derating set-point of R92 as a 40 mV code. -/
def State.updateTj (s : State) (n : Nat) : State :=
  let tj := s.tjMicro n
  let vmax := min 3750 (s.f (Fld.EMIT_DER_VMAX n))
  let slope : Int := max 1 (s.f (Fld.EMIT_DER_SLOPE n))
  let tk : Int := s.f (Fld.EMIT_DER_TK n) * 1000000
  let code : Int := if tj ≤ tk then vmax
    else (s.f (Fld.EMIT_DER_VMAX n) * 40000000 - slope * 100 * (tj - tk)) / 40000000
  let s := s.setFs (Fld.KILN_TJ_TJ n) (tj * 16 / 1000000)
  s.setF (Fld.CTL_CSP_SP n 2) (min 3750 (max 0 code)).toNat

/-- The knee of string `n` (R91): the lowest TK among its fitted emitters that are not lost; values above 150 act as 150 (R90). -/
def State.updateKnee (s : State) (n : Nat) : State :=
  let tks := (List.range 8).filterMap (fun p => if s.sound (8 * n + p) then some (min 150 (s.f (Fld.EMIT_ECAL_TK (8 * n + p)))) else none)
  match tks with
  | [] => s
  | t :: ts => (s.setF (Fld.EMIT_DER_TK n) (ts.foldl min t)).updateTj n

/-! ## Weights of a shot (R91) -/

/-- The temperature coefficient factor c_T × 10¹⁰ of emitter `e` (R90), clamped to 0.25-2.0. -/
def State.ctFactor (s : State) (e : Nat) : Int :=
  let c : Int := 10000000000 + s.fs (Fld.EMIT_ECAL_TC e) * (s.tjMicro (e / 8) - 25000000)
  min 20000000000 (max 2500000000 c)

/-- W_int of a pattern of string `n` in UQ6.10 (R91): one exact sum, truncated once, saturated. -/
def State.wInt (s : State) (n : Nat) (pat : BitVec 8) : Nat :=
  let sum : Int := (List.range 8).foldl (fun acc p => if pat.getLsbD p
    then acc + s.f (Fld.EMIT_ECAL_SE_BIN (8 * n + p)) * s.ctFactor (8 * n + p) else acc) 0
  min 0xFFFF ((sum * 1024 / (128 * 10000000000)).toNat)

/-- W_eye of a pattern of string `n` in UQ6.10 (R91). -/
def State.wEye (s : State) (n : Nat) (pat : BitVec 8) : Nat :=
  let sum : Int := (List.range 8).foldl (fun acc p => if pat.getLsbD p
    then acc + s.f (Fld.EMIT_ECAL_SE_BIN (8 * n + p)) * s.ctFactor (8 * n + p)
             * s.f (Fld.EMIT_WLW_WEIGHT (s.f (Fld.EMIT_ECAL_WL_BIN (8 * n + p)))) else acc) 0
  min 0xFFFF ((sum * 1024 / (128 * 32768 * 10000000000)).toNat)

/-! ## Dither (R77) -/

/-- One step of the dither LFSR: x¹⁶ + x¹⁴ + x¹³ + x¹¹ + 1, shifting left. -/
def lfsrStep (v : BitVec 16) : BitVec 16 :=
  (v <<< 1) ||| (BitVec.ofBool (v.getLsbD 15 ^^ v.getLsbD 13 ^^ v.getLsbD 12 ^^ v.getLsbD 10)).zeroExtend 16

/-- Sixteen steps (R77). -/
def lfsr16 (v : BitVec 16) : BitVec 16 := (List.range 16).foldl (fun x _ => lfsrStep x) v

/-- The dither offset ⌊L × (DSPAN + 1) ÷ 2¹⁶⌋ ns (R77). -/
def ditherOffset (l dspan : Nat) : Nat := l * (dspan + 1) / 65536

/-- The shot period in effect (R76: below 1000 acts as 1000). -/
def State.period (s : State) (n : Nat) : Nat := max 1000 (s.ef (Fld.EMIT_STRCFG_PERIOD n))

/-- The pulse width in units of 0.25 ns (R75: 1.00 ns + 0.25 ns × WIDTH, codes 61-63 act as 60). -/
def State.widthQ (s : State) (n : Nat) : Nat := 4 + min 60 (s.ef (Fld.EMIT_STRCFG_WIDTH n))

/-- The pulse width rounded up to whole ns. -/
def State.widthNs (s : State) (n : Nat) : Nat := (s.widthQ n + 3) / 4

/-! ## Demand code (R86) -/

/-- The demand code of `nOpen` emitters at class `k` on string `n`: V_dem ÷ 40 mV, half rounded up, clamped to 3750. -/
def State.demandCode (s : State) (n nOpen k : Nat) : Nat :=
  min 3750 ((5 * (nOpen * s.ef (Fld.EMIT_ECLASS_VE k) + s.f (Fld.EMIT_LOOP_VOH n)) + 2) / 4)

/-- The demand code with the registers as they are written: for a column that has not begun yet (R8, R114). -/
def State.demandNow (s : State) (n nOpen k : Nat) : Nat :=
  min 3750 ((5 * (nOpen * s.f (Fld.EMIT_ECLASS_VE k) + s.f (Fld.EMIT_LOOP_VOH n)) + 2) / 4)

/-- The demand code of a probe: class 7 × 229 ÷ 1024 (R86), fraction dropped. -/
def State.probeCode (s : State) (n nOpen : Nat) : Nat := s.demandCode n nOpen 7 * 229 / 1024

/-! ## The column's entries -/

/-- Entry `i` of the column in progress. -/
def State.curEntry (s : State) (i : Nat) : Option GEntry := (s.scan.cur.map (·.entries)).getD [] |>.find? (fun e => e.idx = i)

/-- Lowest binding code of two (R15, R119: budgets 1-5 in order, then 6); 0 is none. -/
def bindMin (a b : Nat) : Nat := if a = 0 then b else if b = 0 then a else min a b

/-- A reduction of the running column's entry `i` is recorded with code `c`. -/
def State.reduceEntry (s : State) (i c : Nat) : State :=
  match s.scan.cur with
  | none => s
  | some g => s.withScan { s.scan with cur := some { g with
      entries := g.entries.map (fun e => if e.idx = i then { e with bind := bindMin e.bind c } else e) } }

/-- The planned shots a grant gives string `n`, in service order. -/
def Grant.shotsOf (g : Grant) (n : Nat) : List PShot :=
  (g.entries.filter (fun e => e.str = n)).flatMap (fun e => (List.range e.n).map (fun i => { entry := e.idx, first := decide (i = 0) }))

/-- The first entry of the coming column that gives string `n` shots (R10). -/
def State.coming (s : State) (n : Nat) : Option GEntry :=
  s.scan.next.bind (fun g => if g.dropped then none else g.entries.find? (fun e => e.str = n && 0 < e.n))

/-! ## Scheduling a string's shots (R76, R94, R95) -/

/-- The pattern of an isolation probe (Table 5.3) over the set `f` of positions. -/
def isoPattern (f : BitVec 8) (stage bits : Nat) : BitVec 8 :=
  let keep (p : Nat) : Bool := match stage with
    | 0 => true
    | 4 => p != bits
    | b => !(p.testBit (b - 1))
  BitVec.ofNat 8 ((List.range 8).foldl (fun acc p => acc + if f.getLsbD p && keep p then 2 ^ p else 0) 0)

/-- The slot of the string's next shot, before dither (R76). -/
def State.slot (s : State) (n : Nat) (x : StrSt) : Nat :=
  match x.queue with
  | [] => (x.prevT.getD s.scan.tTrig) + s.period n
  | p :: _ =>
    let off := s.scan.tTrig + ((s.curEntry p.entry).map (·.offset)).getD 0
    match x.prevT with
    | none => off
    | some q => if p.first then max off (q + s.period n) else q + s.period n

/-- The pattern the running column lights for entry `i` on string `n`: that of the boundary, without emitters lost since (R84, R85, R96). -/
def State.shotPat (s : State) (n i : Nat) : BitVec 8 := ((s.curEntry i).map (fun e => s.effPattern n e.patIdx)).getD 0

/-- The demand of a string that has no shot left is that of its first shot of the coming column, if its grant is fixed (R10, R86). -/
def State.comingDemand (s : State) (n : Nat) : State :=
  match s.coming n with
  | some e => s.setF (Fld.EMIT_DAC_DEMAND n) (s.demandNow n (popcount (s.patternNow n e.patIdx)) e.cls)
  | none => s

/-- String `n` has no shot to fire in this column. -/
def State.noShot (s : State) (n : Nat) : State := (s.setStr n { s.str n with next := none }).comingDemand n

/-- Waiting planned shots whose pattern lights no emitter are not fired (R85, R96). -/
def State.dropDark (s : State) (n : Nat) : State :=
  let x := s.str n
  let dark (p : PShot) : Bool := s.shotPat n p.entry = 0
  ((x.queue.filter dark).foldl (fun s p => s.reduceEntry p.entry 6) s).setStr n { x with queue := x.queue.filter (fun p => !dark p) }

/-- Choosing string `n`'s next shot: isolation first, then planned shots, then a periodic probe in a free slot (R94, R95, Table 5.4). A planned
shot beyond t_last is not fired, and with it the rest of the queue (R76); whether it advances the LFSR is left open: it does not (DESIGN CHOICE, log 85). -/
def State.schedule (s : State) (n : Nat) : State :=
  if !s.usable n then s.setStr n { s.str n with next := none, queue := [] } else
  match (s.str n).iso with
  | some i =>
    let pat := isoPattern (s.lightByte n) i.stage i.bits
    (s.setStr n { s.str n with next := some { kind := .iso i.stage, t := i.slot, dither := 0, pat := pat } }).setF
      (Fld.EMIT_DAC_DEMAND n) (s.probeCode n (popcount pat))
  | none =>
    let s := s.dropDark n
    let x := s.str n
    match x.queue with
    | p :: _ =>
      let d := ditherOffset (s.f (Fld.EMIT_DLFSR_LFSR n)) (s.ef (Fld.EMIT_STRCFG_DSPAN n))
      let t := s.slot n x + d
      let pat := s.shotPat n p.entry
      if t ≤ s.scan.tLast then
        (s.setStr n { x with next := some { kind := .planned p.entry, t := t, dither := d, pat := pat } }).setF
          (Fld.EMIT_DAC_DEMAND n) (s.demandCode n (popcount pat) (((s.curEntry p.entry).map (·.cls)).getD 0))
      else
        ((x.queue.foldl (fun s q => s.reduceEntry q.entry 6) s).setStr n { x with queue := [] }).noShot n
    | [] =>
      if x.probeDue && (s.scan.mode != 0 || !s.scan.active) then
        let pat := s.lightByte n
        (s.setStr n { x with next := some { kind := .probe, t := s.slot n x, dither := 0, pat := pat } }).setF
          (Fld.EMIT_DAC_DEMAND n) (s.probeCode n (popcount pat))
      else s.noShot n

/-- The demand loop's target follows the demand of the next shot (R86, Table 11.1). -/
def State.demandTarget (s : State) (n : Nat) : State := s.setF (Fld.CTL_CSP_SP n 0) (s.f (Fld.EMIT_DAC_DEMAND n))

/-! ## EMX (R80-R84) -/

/-- The 68 header and shunt bits of a frame, in transmission order (Table 5.1). -/
def emxBits (seq : Nat) (pat : BitVec 64) : List Bool := [true, false, seq.testBit 1, seq.testBit 0] ++ msbBits pat

/-- The CRC-8 of a frame (R80). -/
def emxCrc (seq : Nat) (pat : BitVec 64) : BitVec 8 := crc8 (emxBits seq pat)

/-- The 76 data bits of a frame: header, shunts, CRC-8. -/
def emxFrameBits (seq : Nat) (pat : BitVec 64) : BitVec 76 :=
  (0b10 : BitVec 2) ++ BitVec.ofNat 2 seq ++ pat ++ emxCrc seq pat

/-- The latch edge, delayed until it lies in no pulse's guard band of 10 ns (R82): `pulses` are (rising, falling) edges. -/
def latchDelay : Nat → List (Nat × Nat) → Nat → Nat
  | 0, _, l => l
  | k + 1, pulses, l =>
    match pulses.find? (fun p => decide (p.1 < l + 10) && decide (l < p.2 + 10)) with
    | some p => latchDelay k pulses (p.2 + 10)
    | none => l

/-- The pulses a latch edge must avoid: every string's last and next one. -/
def State.pulses (s : State) : List (Nat × Nat) :=
  (List.range 8).flatMap (fun n =>
    ((s.str n).lastFire.toList) ++ ((s.str n).next.map (fun x => (x.t, x.t + s.widthNs n))).toList)

/-- The latch edge of the frame on the link keeps clear of the pulses now known (R82). -/
def State.emxRelatch (s : State) : State :=
  s.withEmit { s.emit with frame := s.emit.frame.map (fun f => { f with latch := latchDelay 16 s.pulses f.latch }) }

/-- Scheduling with the demand handed to the charge group; the frame on the link keeps clear of the shot. -/
def State.scheduleD (s : State) (n : Nat) : State := ((s.schedule n).demandTarget n).emxRelatch

/-- The pattern of string `n`'s next shot and the earliest time of it: of this column, else of the coming one (R10, R84). -/
def State.nextPattern (s : State) (n : Nat) : Option (BitVec 8 × Nat) :=
  match (s.str n).next with
  | some y => some (y.pat, y.t)
  | none => (s.coming n).map (fun e => (s.patternNow n e.patIdx, ((s.scan.next.map (·.due)).getD 0) + e.offset))

/-- The shunt bits a frame carries (R84): a string's next pattern if the latch edge lies between its pulses, its present pattern otherwise. -/
def State.emxPattern (s : State) (latch : Nat) : BitVec 64 :=
  (List.range 8).foldl (fun acc n =>
    let x := s.str n
    let present : BitVec 8 := s.emit.confPat.extractLsb' (8 * n) 8
    let byte : BitVec 8 := match s.nextPattern n with
      | some (pat, t) =>
        let after := match x.lastFire with | some p => decide (p.2 ≤ latch) | none => true
        if after && decide (latch ≤ t) then pat else present
      | none => present
    acc ||| ((byte &&& s.lightByte n).zeroExtend 64 <<< (8 * n))) 0

/-- Sending a frame (R80): FRAMES counts it. -/
def State.emxSend (s : State) (pat : BitVec 64) (seq : Nat) (retry : Bool) (latch : Nat) : State :=
  let s := s.withEmit { s.emit with frame := some { pat := pat, seq := seq, crc := emxCrc seq pat, retry := retry, latch := latch },
                                          sent := emxFrameBits seq pat, emxOn := true }
  s.incMod Fld.EMIT_EMXSTAT_FRAMES 1

/-- The frame with all shunts closed that ends scanning (R84). -/
def State.emxSendZero (s : State) : State :=
  let s := s.emxSend 0 s.emit.seq false s.now
  s.withEmit { s.emit with seq := (s.emit.seq + 1) % 4, frame := none, confPat := 0, emxOn := false }

/-- Row EMX_FRAME_SEND: a new frame starts at time `t` (R80, R82, R84). It is sent only in SCAN, with no frame in progress, and starts only where its latch edge
need not be delayed by more than 36 ns (R82; DESIGN CHOICE, log 80). -/
def execEmxFrameSend (t : Nat) (s : State) : Out :=
  let latch := latchDelay 16 s.pulses (t + 300)
  if s.dev = .scan && s.emit.frame.isNone && !s.b Fld.TOP_PINTEST_LOCK && decide (latch ≤ t + 336) then
    let s := s.emxSend (s.emxPattern latch) s.emit.seq false latch
    .next (s.withEmit { s.emit with seq := (s.emit.seq + 1) % 4 })
  else .next s

/-! ## Charging and readiness (R86-R89) -/

/-- The charge stage may work at all (Table 3.10, R40, R44, R89). -/
def State.chargeAllowed (s : State) : Bool :=
  s.dev = .scan && !s.b Fld.TOP_PINTEST_LOCK && !s.b Fld.PWR_FAULT_CHG_TRIP && s.b Fld.CLK_STATUS_PLLA_LOCK && !s.b Fld.THERM_STAT_HARD

/-- String `n` holds granted shots in the current or the next column, or a probe is pending for it (R14). -/
def State.chargeWanted (s : State) (n : Nat) : Bool :=
  let x := s.str n
  !x.queue.isEmpty || x.next.isSome || x.probeDue || x.iso.isSome
    || ((s.scan.next.map (·.entries)).getD []).any (fun e => e.str = n && 0 < e.n)

/-- The next fire time of string `n`, for the order of service. -/
def State.nextFire (s : State) (n : Nat) : Option Nat := (s.str n).next.map (·.t)

/-- The board sensor of string `n` is in SHUTDOWN: the string is neither charged nor fired (Table 12.5). -/
def State.boardShut (s : State) (n : Nat) : Bool := s.therm.sd.getLsbD (68 + s.f (Fld.KILN_TH_SENS n))

/-- CHG_SELn may be on at `t`: not from 50 ns before a shot to 200 ns after its falling edge (Table 5.2). -/
def State.chgSelMay (s : State) (n t : Nat) : Bool :=
  let x := s.str n
  (match x.next with | some y => decide (t + 50 < y.t) | none => true) && (match x.lastFire with | some p => decide (p.2 + 200 ≤ t) | none => true)

/-- String `n` may be charged at `t` (R87). -/
def State.chargeable (s : State) (n t : Nat) : Bool :=
  s.chgSelMay n t && s.chargeAllowed && s.usable n && s.chargeWanted n && (s.f Fld.THERM_CHG_OK).testBit n && !s.boardShut n
    && s.f (Fld.EMIT_DAC_CODE n) != 0 && decide (s.f (Fld.EMIT_VBANK_VBANK n) < s.f (Fld.EMIT_DAC_CODE n))

/-- The string the charge supply serves at `t` (R87): earliest next fire time, then lowest number. -/
def State.chargeChoice (s : State) (t : Nat) : Option Nat :=
  (List.range 8).foldl (fun best n =>
    if s.chargeable n t then
      match best with
      | none => some n
      | some m =>
        match s.nextFire n, s.nextFire m with
        | some a, some b => if a < b then some n else best
        | some _, none => some n
        | none, _ => best
    else best) none

/-- The readiness band of R88: CODE not 0 and the bank within ±3 % or ±0.5 V of it. -/
def readyBand (code v : Nat) : Bool :=
  code != 0 && (let d := if v < code then code - v else v - code; decide (d * 100 ≤ code * 3) || decide (d * 40 ≤ 500))

/-- VBANK and READY of a string follow a reading of CHG_VSn (R86, Table 5.5). -/
def State.setVbank (s : State) (n v : Nat) : State :=
  let s := s.setF (Fld.EMIT_VBANK_VBANK n) v
  s.setB (Fld.EMIT_VBANK_READY n) (readyBand (s.f (Fld.EMIT_DAC_CODE n)) (s.f (Fld.EMIT_VBANK_VBANK n)))

/-- The charge stage trips: CHG_GATE stops, and CHG_TRIP latches (R89, R40). -/
def State.chargeTrip (s : State) : State := (s.withEmit { s.emit with charging := none }).raise Cause.CHG_TRIP

/-- VBANK of a string lies above OVP, or CHG_ISNS above ILIM for longer than 100 ns: `isns` mV for `dur` ns (R89). -/
def State.tripDue (s : State) (n isns dur : Nat) : Bool :=
  decide (s.f Fld.EMIT_CHG_OVP < s.f (Fld.EMIT_VBANK_VBANK n)) || (decide (s.f Fld.EMIT_CHG_ILIM < isns) && decide (100 < dur))

/-- A reading of CHG_VSn: VBANK and READY follow, and a bank above OVP trips the stage unless it has tripped already (R87, R89). -/
def State.readVbank (s : State) (n v : Nat) : State :=
  let s := s.setVbank n v
  if s.tripDue n 0 0 && !s.b Fld.PWR_FAULT_CHG_TRIP then s.chargeTrip else s

/-- CHG_SELn turns off, and string `n`'s charging stops (R87, Table 5.2). -/
def State.chgOff (s : State) (n : Nat) : State :=
  let s := s.setStr n { s.str n with chgSel := false }
  s.withEmit { s.emit with charging := if s.emit.charging = some n then none else s.emit.charging }

/-- CHG_SELn alone is on, and CHG_GATE switches for string `n` (R87). -/
def State.chgOn (s : State) (n : Nat) : State :=
  let s := (List.range 8).foldl (fun (s : State) m => s.setStr m { s.str m with chgSel := decide (m = n) }) s
  s.withEmit { s.emit with charging := some n }

/-- Row CHARGE_STRING: at `t` the supply serves string `n`, whose bank then reads `v`; it is served until VBANK reaches CODE (R87). -/
def execChargeString (n v : Nat) (s : State) (t : Nat := 0) : Out :=
  if s.chargeChoice t = some n then
    let s := (s.chgOn n).readVbank n v
    .next (if s.f (Fld.EMIT_DAC_CODE n) ≤ s.f (Fld.EMIT_VBANK_VBANK n) then s.chgOff n else s)
  else .next (s.withEmit { s.emit with charging := if s.chargeAllowed then s.emit.charging else none })

/-- Row CHG_SEL_OFF: CHG_SELn turns off before the string's shot, and its charging stops (Table 5.2). -/
def execChgSelOff (n : Nat) (s : State) : Out := .next (s.chgOff n)

/-- The shot of string `n` in progress, changed. -/
def State.modNext (s : State) (n : Nat) (g : NextShot → NextShot) : State :=
  let x := s.str n
  s.setStr n { x with next := x.next.map g }

/-- Row SHOT_READY_CHECK: V_pre of string `n` is sampled and the shot found ready or dropped (R88). -/
def execShotReadyCheck (n v : Nat) (s : State) : Out :=
  match (s.str n).next with
  | none => .next s
  | some y =>
    let s := s.readVbank n v
    let ok := readyBand (s.f (Fld.EMIT_DAC_CODE n)) (s.f (Fld.EMIT_VBANK_VBANK n))
    let s := s.modNext n (fun y => { y with vpre := some v, ready := some ok })
    let s := s.raiseIf (!ok) Cause.EMIT_SHOT_LATE
    match y.kind, ok with
    | .planned i, false => .next (s.reduceEntry i 6)
    | _, _ => .next s

/-- Row CHARGE_SUPPLY_TRIP: VBANK of string `n` reads `v`, and CHG_ISNS has stood at `isns` mV for `dur` ns; the stage trips if either limit of R89 is passed. -/
def execChargeSupplyTrip (s : State) (n v isns dur : Nat := 0) : Out :=
  let s := s.setVbank n v
  .next (if s.tripDue n isns dur then s.chargeTrip else s)

/-- Row CHG_GATE_TRIP: the charge gate driver passes 160 °C and CHG_TRIP latches (R253, R40). -/
def execChgGateTrip (s : State) : Out :=
  let s := s.withEmit { s.emit with charging := none }
  let s := s.raise Cause.CHG_TRIP
  .next (s.logEvent 0x0022 2 (s.rget Reg.THERM_STAT))

/-! ## Loss of emitters (R96, R97) -/

/-- The NVM loss record is written (R96). -/
def State.recordLoss (s : State) : State :=
  s.nvmPush (.loss s.lostMask (BitVec.ofNat 8 (s.f Fld.EMIT_FAULT_DEAD)))

/-- String `n` becomes dead: never charged or fired (R96, R97). `e` and `why` go to the log entry of Table 18.6. -/
def State.stringDead (s : State) (n e why : Nat) : State :=
  let s := s.setF Fld.EMIT_FAULT_DEAD (s.f Fld.EMIT_FAULT_DEAD ||| 2 ^ n)
  let x := s.str n
  let s := (s.setStr n { x with iso := none, probeDue := false, nshort := 0 }).chgOff n
  let s := s.logEvent 0x0011 (BitVec.ofNat 32 e) (BitVec.ofNat 32 why)
  (s.recordLoss).scheduleD n

/-- Emitter `e` is found open-circuit (R94 P4, R96): lost, or its string dead if MAXLOST would be exceeded. -/
def State.emitterFound (s : State) (e : Nat) : State :=
  let n := e / 8
  let lostInString := popcount (s.lostMask.extractLsb' (8 * n) 8)
  if s.f Fld.EMIT_CTRL_MAXLOST < lostInString + 1 then s.stringDead n e 1
  else
    let m := s.lostMask ||| (1#64 <<< e)
    let s := s.rset Reg.EMIT_LOST_LO (m.extractLsb' 0 32)
    let s := s.rset Reg.EMIT_LOST_HI (m.extractLsb' 32 32)
    let s := s.raise (Cause.EMIT_OPEN n)
    let s := s.setStr n { s.str n with iso := none }
    let s := s.logEvent 0x0011 (BitVec.ofNat 32 e) 0
    ((s.recordLoss).updateKnee n).scheduleD n

/-! ## Monitoring (R93-R97) -/

/-- A probe takes the slot of string `n`'s next planned shot, which is counted as not granted (R94). -/
def State.takeSlot (s : State) (n : Nat) : State :=
  let x := s.str n
  match x.queue with
  | [] => s
  | p :: q => (s.reduceEntry p.entry 6).setStr n { x with queue := q }

/-- Isolation probe `stage` takes string `n`'s next slot (R94). -/
def State.isoPlace (s : State) (n stage bits : Nat) : State :=
  let t := s.slot n (s.str n)
  let s := s.takeSlot n
  (s.setStr n { s.str n with iso := some { stage := stage, bits := bits, slot := t }, probeDue := false }).scheduleD n

/-- A column begins on string `n` (R76, R94): an isolation that has come with it takes its first slot, unless its probe's verdict is awaited. -/
def State.beginString (s : State) (n : Nat) (queue : List PShot) : State :=
  let x := s.str n
  let s := s.setStr n { x with queue := queue, prevT := none }
  match x.iso, x.next, x.mon with
  | none, _, _ => s.scheduleD n
  | some _, some _, _ => s.takeSlot n
  | some _, none, some _ => s
  | some i, none, none => s.isoPlace n i.stage i.bits

/-- Samples of a burst (R93: LEN 0 acts as 1). -/
def State.burstLen (s : State) : Nat := max 1 (s.f Fld.EMIT_MON_LEN)

/-- A shot burst takes a slot at or after `t` (R93, R235). -/
def State.shotBusy (s : State) (t : Nat) : Bool :=
  (adcTaken s.adc.jobs).any (fun p => decide (slotAt t ≤ p.1) && (s.adc.jobs[p.2]?).any (fun j => j.who = 0))

/-- The shot of string `n` yields no verdict (R93, R233). An isolation probe is repeated (DEDUCED, log 90). -/
def State.noVerdict (s : State) (n : Nat) (k : ShotKind) : State :=
  let i := (s.str n).iso
  let s := s.setStr n { s.str n with mon := none }
  match k, i with
  | .iso _, some i => s.isoPlace n i.stage i.bits
  | _, _ => s

/-- Row SHOT_MONITOR_BURST: the ADC0 burst on LCSn starts, DELAY × 4 ns after the shot, and takes its slots (R234); a burst that overlaps another string's is not taken
(R93). -/
def execShotMonitorBurst (n : Nat) (s : State) : Out :=
  let x := s.str n
  match x.mon with
  | none => .next s
  | some m =>
    if m.taken then .next s
    else if s.shotBusy m.due then .next ((s.raise Cause.EMIT_MON_MISS).noVerdict n m.kind)
    else
      let s := s.adcAdd { who := 0, src := n, trig := slotAt m.due, len := s.burstLen, live := true }
      .next ((s.setStr n { x with mon := some { m with taken := true } }).withEmit { s.emit with burst := some n, burstT := m.due })

/-- The verdict of an isolation probe (Table 5.3). -/
def State.isoVerdict (s : State) (n stage : Nat) (zero : Bool) : State :=
  match (s.str n).iso with
  | none => s
  | some i =>
    match stage with
    | 0 => if zero then s.isoPlace n 1 0 else (s.setStr n { s.str n with iso := none }).scheduleD n
    | 4 => if zero then s.stringDead n (8 * n + i.bits) 1 else s.emitterFound (8 * n + i.bits)
    | b =>
      let bits := if zero then i.bits else i.bits + 2 ^ (b - 1)
      if b < 3 then s.isoPlace n (b + 1) bits
      else if (s.lightByte n).getLsbD bits then s.isoPlace n 4 bits
      else s.stringDead n (8 * n + bits) 1

/-- The neighbour-short check of R97 on a planned shot with largest burst sample `ipk`. The log entry of a string dead by it names emitter 8n: the manual does not
say which (DESIGN CHOICE, log 84). -/
def State.shortCheck (s : State) (n : Nat) (m : MonShot) (ipk : Nat) : State :=
  let vf := s.f (Fld.EMIT_LOOP_VF_NOM n) * 50
  let rk := s.f (Fld.EMIT_LOOP_RK n)
  if vf = 0 || rk = 0 then s else
  let v : Int := (m.vpre * 40 : Nat) - (ipk * rk : Nat)
  let nEst : Int := (2 * v + vf) / (2 * vf)
  let x := s.str n
  if nEst = popcount m.pat then s.setStr n { x with nshort := 0 }
  else if x.nshort + 1 < 4 then s.setStr n { x with nshort := x.nshort + 1 }
  else (s.raise (Cause.EMIT_NSHORT n)).stringDead n (8 * n) 2

/-- The place of string `n`'s burst in ADC0's schedule. -/
def State.shotJob (s : State) (n : Nat) : Option Nat := s.adc.jobs.findIdx? (fun j => j.who = 0 && j.src = n && j.live)

/-- String `n`'s burst is over. -/
def State.burstOver (s : State) (n i : Nat) : State :=
  (s.adcDone i).withEmit { s.emit with burst := if s.emit.burst = some n then none else s.emit.burst }

/-- The verdicts of the shot `m` of string `n` from the codes of its burst (R94, R97). -/
def State.verdict (s : State) (n : Nat) (m : MonShot) (codes : List Nat) : State :=
  let s := s.setStr n { s.str n with mon := none }
  let zero := codes.all (fun v => decide (v < s.f Fld.EMIT_MON_OPEN_THR * 16))
  match m.kind with
  | .iso k => s.isoVerdict n k zero
  | .probe => if zero then s.isoPlace n 1 0 else s
  | .planned _ => if zero then s.isoPlace n 0 0 else s.shortCheck n m (codes.foldl max 0)

/-- Row SHOT_VERDICT: the burst of string `n` ends with a conversion in each of its slots; the shot gets its verdicts (R93, R94, R97), unless no reference is ready
(R233). -/
def execShotVerdict (n : Nat) (convs : List Conv) (s : State) : Out :=
  match (s.str n).mon, s.shotJob n with
  | some m, some i =>
    let slots := adcSlots s.adc.jobs i
    if !m.taken || convs.length < slots.length then .next s
    else if !s.b Fld.ADC0_STAT_REFRDY then .next ((s.burstOver n i).noVerdict n m.kind)
    else .next ((s.burstOver n i).verdict n m (s.adcCodes n slots convs))
  | _, _ => .next s

/-- PROBE_T in ms (R95: values outside 10 to 200 act as 200). -/
def State.probeT (s : State) : Nat := let v := s.f Fld.EMIT_PROBE_PROBE_T; if v < 10 || 200 < v then 200 else v

/-- How long after a string's last probe the next is asked for: PROBE_T, in SWEEP less a sweep period, since the probe waits for the flyback (R95; DESIGN CHOICE,
log 81). -/
def State.probeWait (s : State) : Nat :=
  if s.scan.mode = 0 then s.probeT - (min 100000 (max 33334 (Fld.SCAN_SWEEP_PERIOD.of s.scan.sweep)) + 999) / 1000 else s.probeT

/-- Row PERIODIC_PROBE_DUE: string `n`'s probe interval has run out (R95); a pending isolation tests the string instead (Table 5.4). -/
def execPeriodicProbeDue (n : Nat) (s : State) : Out :=
  if s.dev = .scan && s.usable n && (s.str n).iso.isNone && decide ((s.str n).probeMs + s.probeWait ≤ s.ms) then
    let s := s.setStr n { s.str n with probeDue := true }
    .next (if (s.str n).next.isNone then s.scheduleD n else s)
  else .next s

/-- Clearing the lost and dead states by the key of R96, in IDLE. The NVM erasure is queued and waits while NVM writes are locked. -/
def State.lostClear (s : State) (key : Word) : State :=
  if key = 0x4C4F5354 && s.dev = .idle then
    let s := s.rset Reg.EMIT_LOST_LO 0
    let s := s.rset Reg.EMIT_LOST_HI 0
    let s := s.setF Fld.EMIT_FAULT_DEAD 0
    let s := s.recordLoss
    let s := (List.range 8).foldl (fun s n => s.updateKnee n) s
    s.logEvent 0x0011 0xFF 3
  else s

end Sys2Proof.Machine
end

