-- ==== Sys2Proof/Machine/Root.lean ====
section
/-!
DEFINITION. The square root by table and interpolation of R180, and its extension to any argument of R224.
-/
namespace Sys2Proof.Machine

/-- One bit of the integer square root of `n`: `r` with bit `i` set if its square does not exceed `n`. -/
def isqrtStep (n r i : Nat) : Nat := if (r + 2 ^ i) * (r + 2 ^ i) ≤ n then r + 2 ^ i else r

/-- The integer square root, for arguments below 2^64. -/
def isqrt (n : Nat) : Nat := (List.range 32).foldl (fun r i => isqrtStep n r (31 - i)) 0

/-- The nearest integer to √n. -/
def nearSqrt (n : Nat) : Nat := let r := isqrt n; if r < n - r * r then r + 1 else r

/-- Entry j of the 64-entry table of R180, × 4096; entry 64 is the successor of entry 63, 2.0. -/
def rootEntry (j : Nat) : Nat :=
  if j < 32 then nearSqrt (2 ^ 19 * (32 + j)) else if j < 64 then nearSqrt (2 ^ 20 * j) else 8192

/-- √m × 2³⁰ for the mantissa m = x × 2⁻²², x having its top bit at bit 23 or 22 (steps 2 and 3 of R180). -/
def rootMant (x : Nat) : Nat :=
  let (j, frac) := if x < 2 ^ 23 then ((x - 2 ^ 22) / 2 ^ 17, (x - 2 ^ 22) % 2 ^ 17 * 2) else (32 + (x - 2 ^ 23) / 2 ^ 18, (x - 2 ^ 23) % 2 ^ 18)
  rootEntry j * 2 ^ 18 + (rootEntry (j + 1) - rootEntry j) * frac

/-- The least even left shift 2s that brings the top bit of a 24-bit value to bit 23 or 22 (step 1 of R180), as s. -/
def rootShift (f : Nat) : Nat := ((List.range 12).find? (fun s => decide (2 ^ 22 ≤ f * 2 ^ (2 * s)))).getD 11

/-- √F in U9.12 of a floor F in U16.8 (R180). -/
def rootU9_12 (f : Nat) : Nat :=
  if f = 0 then 0 else
  let s := rootShift f
  (rootMant (f * 2 ^ (2 * s)) + 2 ^ (10 + s)) / 2 ^ (11 + s)

/-- The root of any unsigned integer, rounded down (R224). -/
def rootWide (x : Nat) : Nat :=
  if x = 0 then 0 else
  if x < 2 ^ 24 then
    let s := rootShift x
    rootMant (x * 2 ^ (2 * s)) * 2 ^ 11 / 2 ^ (30 + s)
  else
    let s := (x.log2 - 22) / 2
    rootMant (x / 2 ^ (2 * s)) * 2 ^ (11 + s) / 2 ^ 30

end Sys2Proof.Machine
end

