-- ==== Sys2Proof/Machine/Kiln.lean ====
section
/-!
DEFINITION. Kiln: the shot plan, the five budgets and the grant of a column (R110-R119, R126), the models it keeps (R118), and the emission
limiter beside it (R120-R125).
-/
namespace Sys2Proof.Machine

/-! ## The shot plan (R110-R112) -/

/-- A shot-plan entry (Table 6.2). -/
structure PlanEntry where
  idx : Nat
  az : Nat
  str : Nat
  pat : Nat
  cls : Nat
  prio : Nat
  mins : Nat
  maxs : Nat
  rowLast : Nat
  rowFirst : Nat
  hmode : Nat
  aliased : Bool
  offset : Nat
  deriving DecidableEq, Repr

/-- The fields of entry word pair `hi`:`lo` (Table 6.2). -/
def planDecode (idx : Nat) (hi lo : Word) : PlanEntry :=
  let v := (hi ++ lo : BitVec 64).toNat
  let fld (l w : Nat) : Nat := v / 2 ^ l % 2 ^ w
  { idx := idx, az := fld 48 16, str := fld 45 3, pat := fld 39 6, cls := fld 36 3, prio := fld 34 2, mins := min (fld 29 5) (fld 23 6),
    maxs := fld 23 6, rowLast := fld 17 6, rowFirst := fld 11 6, hmode := fld 9 2, aliased := fld 8 1 != 0, offset := fld 0 8 * 128 }

/-- Entry `i` of the table at 0x0100_0000 (R110). -/
def State.planEntry (s : State) (i : Nat) : PlanEntry := planDecode i (s.mgetW (0x01000000 + 8 * i + 4)) (s.mgetW (0x01000000 + 8 * i))

/-- A null entry is skipped and not counted (Table 6.2). -/
def PlanEntry.null (e : PlanEntry) : Bool := e.maxs = 0 || e.rowLast < e.rowFirst

/-- Cutting a list of entries before the first whose AZ is lower than its predecessor's (R112): the rest, and whether it was cut. -/
def cutOrder : Nat → List PlanEntry → List PlanEntry × Bool
  | _, [] => ([], false)
  | az, e :: l => if e.az < az then ([], true) else let r := cutOrder e.az l; (e :: r.1, r.2)

/-- The non-null entries of the active region and whether a decreasing AZ ended it (R110, R112). -/
def State.region (s : State) : List PlanEntry × Bool :=
  let (first, last) := if s.scan.psel then (s.f Fld.SCAN_PLAN1_FIRST, s.f Fld.SCAN_PLAN1_LAST) else (s.f Fld.SCAN_PLAN0_FIRST, s.f Fld.SCAN_PLAN0_LAST)
  cutOrder 0 (((List.range (last + 1 - first)).map (fun i => s.planEntry (first + i))).filter (fun e => !e.null))

/-- The azimuths of the region's columns, rising (R112). -/
def azimuths : List PlanEntry → List Nat
  | [] => []
  | e :: l => match azimuths l with
    | [] => [e.az]
    | a :: r => if a = e.az then a :: r else e.az :: a :: r

/-- The entries of the column at `az`: at most the first 16 (R112), and whether more were ignored. Entries listed in `bad` read with an uncorrectable
error and count as null (R362). -/
def State.columnEntries (s : State) (az : Nat) (bad : List Nat) : List PlanEntry × Bool :=
  let l := s.region.1.filter (fun e => e.az = az && !bad.contains e.idx)
  (l.take 16, 16 < l.length)

/-! ## Policy (R117, Table 6.4) -/

/-- f_P × 8. -/
def policyF8 (p : Nat) : Nat := match p with | 0 => 8 | 1 => 7 | _ => 6
/-- ΔT_P in K. -/
def policyDT (p : Nat) : Nat := match p with | 0 => 0 | 1 => 5 | _ => 10
/-- ΔD_P in K. -/
def policyDD (p : Nat) : Nat := match p with | 0 => 0 | 1 => 0 | _ => 5

/-! ## Energies of a shot (R114) -/

/-- E × 1,250,000 nJ of a shot at voltage code `v`: CEFF × V² ÷ 2000 with V = 40 mV × code. -/
def State.eNum (s : State) (n v : Nat) : Nat := s.f (Fld.KILN_STR_CEFF n) * v * v

/-- ETA, below 256 acting as 256. -/
def State.eta (s : State) : Nat := max 256 (s.f Fld.KILN_ETA_ETA)

/-- The junction increment δ in µK. -/
def State.delta (s : State) (n v : Nat) : Nat := s.eNum n v * s.f (Fld.KILN_TH_KJ n) / 1250000000

/-- E_in in nJ, fraction dropped. -/
def State.eIn (s : State) (n v : Nat) : Nat := s.eNum n v * 1024 / (s.eta * 1250000)

/-! ## The eye-safety grid (R120-R122) -/

/-- The horizontal cell of an angle code (R120). -/
def State.cellH (s : State) (theta : Int) : Nat :=
  let azw : Int := max 1 (s.f Fld.KILN_EYECFG_AZW)
  (min 239 (max 0 ((theta - s.f Fld.KILN_EYECFG_AZ0) / azw))).toNat

/-- The cells of an angle span and of the rows lit (R122): indices 240 × v + h. -/
def State.cells (s : State) (lo hi : Int) (rows : BitVec 64) : List Nat :=
  let h0 := s.cellH lo
  let h1 := s.cellH hi
  (List.range 64).flatMap (fun v => if rows.getLsbD v then (List.range (h1 + 1 - h0)).map (fun i => 240 * v + h0 + i) else [])

/-- The sum S of a cell: all nine accumulators at full width (R122). -/
def State.cellSum (s : State) (c : Nat) : Nat := (List.range 9).foldl (fun acc k => acc + SMap.get (fun _ => 0) s.kiln.ledger (16 * c + k)) 0

/-- The limit L of a cell: EYELIM × 2^LSHIFT (R122). -/
def State.cellLimit (s : State) (c : Nat) : Nat :=
  let w := (s.rget (Reg.KILN_EYELIM (c / 2))).toNat
  (if c % 2 = 0 then w % 65536 else w / 65536) * 2 ^ min 8 (s.f Fld.KILN_EYEWIN_LSHIFT)

/-- The accounted emission Q of a shot (R121): never 0. -/
def State.emission (s : State) (wEye vAcc : Nat) : Nat := max 1 (wEye * vAcc * vAcc * s.f Fld.KILN_EYEWIN_KQ / 2 ^ 34)

/-- The smallest headroom L − S over cells. -/
def State.headroom (s : State) (cells : List Nat) : Int :=
  match cells with
  | [] => 0
  | c :: cs => cs.foldl (fun acc c => min acc ((s.cellLimit c : Int) - s.cellSum c)) ((s.cellLimit c : Int) - s.cellSum c)

/-! ## Allowances (R115, Table 6.3) -/

/-- An entry as served so far in the column, with what it consumes. -/
structure Served where
  g : GEntry
  /-- E × 1,250,000 nJ per shot -/
  e : Nat
  delta : Nat
  q : Nat
  cells : List Nat
  /-- Kiln's latest time of the entry's last shot, relative to the trigger (R116) -/
  lastT : Nat
  deriving DecidableEq, Repr

/-- An allowance: none is unlimited. A divisor of 0 is unlimited while the numerator is above 0, else 0; a negative result is 0 (R115). -/
def allowance (num den : Int) : Option Nat :=
  if den ≤ 0 then (if 0 < num then none else some 0) else some (num / den).toNat

/-- The least of two allowances. -/
def allowMin (a b : Option Nat) : Option Nat := match a, b with | none, b => b | a, none => a | some x, some y => some (min x y)

/-- Rows ROW_FIRST to ROW_LAST as a mask. -/
def rowMask (first last : Nat) : BitVec 64 :=
  BitVec.ofNat 64 ((List.range 64).foldl (fun acc v => acc + if first ≤ v && v ≤ last then 2 ^ v else 0) 0)

/-- The rows woken so far. -/
def wakeOf (l : List Served) : BitVec 64 := l.foldl (fun acc x => if 0 < x.g.n then acc ||| rowMask x.g.rowFirst x.g.rowLast else acc) 0

/-- Each shot of the string needs a wake of its own (R126): PERIOD − 4096 ns above 400 ns. -/
def State.wakePerShot (s : State) (n : Nat) : Bool := 4496 < max 1000 (s.f (Fld.EMIT_STRCFG_PERIOD n))

/-- Cluster `k` is in SHUTDOWN, or the SPAD tier is (Table 12.5). -/
def State.clusterShut (s : State) (k : Nat) : Bool := s.therm.sd.getLsbD k || s.b Fld.THERM_STAT_SPAD_SD

/-- Die temperature (Table 6.3): the hottest cluster of the entry's rows, against T_DR − ΔD_P and T_SD; a cluster in SHUTDOWN allows nothing. -/
def State.allowDie (s : State) (done : List Served) (e : PlanEntry) (pol : Nat) : Option Nat :=
  let rows := (List.range 64).filter (fun v => e.rowFirst ≤ v && v ≤ e.rowLast)
  let temp (v : Nat) : Int := s.fs (Fld.THERM_T_T v)
  let hot := rows.foldl (fun b v => if temp b < temp v then v else b) e.rowFirst
  let th := temp hot
  let tdr := s.fs (Fld.THERM_LIM_A_DERATE 0) - 16 * policyDD pol
  let tsd := s.fs (Fld.THERM_LIM_B_SHUTDOWN 0)
  let w : Int := ((done.filter (fun x => x.g.rowFirst ≤ hot && hot ≤ x.g.rowLast)).foldl (fun a x => a + x.g.n) 0 : Nat)
  if rows.any s.clusterShut then some 0
  else if th ≤ tdr then none
  else if th < tsd then some (34 * (tsd - th) / (tsd - tdr) - w).toNat
  else some 0

/-- Eye safety (Table 6.3): the least of (L − S − committed) ÷ Q over the cells. -/
def State.allowEye (s : State) (done : List Served) (cells : List Nat) (q : Nat) : Option Nat :=
  cells.foldl (fun acc c =>
    let com : Int := (done.foldl (fun a x => if x.cells.contains c then a + x.g.n * x.q else a) 0 : Nat)
    allowMin acc (allowance ((s.cellLimit c : Int) - s.cellSum c - com) q)) none

/-- Emitter junction (Table 6.3); a string whose external sensor is in SHUTDOWN is granted nothing (Table 12.5). -/
def State.allowJunction (s : State) (done : List Served) (n pol delta : Nat) : Option Nat :=
  let com : Int := ((done.filter (fun x => x.g.str = n)).foldl (fun a x => a + x.g.n * x.delta) 0 : Nat)
  if s.therm.sd.getLsbD (68 + s.f (Fld.KILN_TH_SENS n)) then some 0
  else allowance ((s.f Fld.KILN_TJMAX_TJMAX : Int) * 1000000 - policyDT pol * 1000000 - s.tjMicro n - com) delta

/-- Charge supply (Table 6.3): everything × 8 × ETA × 1,250,000. -/
def State.allowCharge (s : State) (done : List Served) (n pol e : Nat) : Option Nat :=
  let k : Int := s.eta * 1250000
  let com : Int := ((done.filter (fun x => x.g.str = n)).foldl (fun a x => a + x.g.n * x.e) 0 : Nat)
  allowance (policyF8 pol * s.f (Fld.KILN_CHG_PMAX n) * max 1 (s.f Fld.KILN_CHGWIN_WIN) * 1000 * k - s.f (Fld.KILN_BKT_BKT n) * 8 * k - com * 8192)
    (e * 8192)

/-- P_base in mW: the measured power over the last 1 ms minus Kiln's own estimate of shot, wake and listening power over that 1 ms, counted back from the grant,
which has brought the models up to its time (Table 6.3, R118). -/
def State.pBase (s : State) : Int :=
  let own := (s.kiln.spent.filter (fun p => decide (s.kiln.tModel ≤ p.1 + 1000000))).foldl (fun a p => a + p.2) (0 : Nat)
  ((s.rget Reg.AFE_PWR1).toNat : Int) - ((own / 1000 : Nat) : Int)

/-- Input power (Table 6.3): everything × 8000 × ETA × 1,250,000. Without the power monitor the budget is not enforced (R246). -/
def State.allowInput (s : State) (done : List Served) (p : PlanEntry) (pol e tPred : Nat) : Option Nat :=
  if !s.b Fld.AFE_PMON_EN then none else
  let k : Int := s.eta * 1250000
  let listen : Int := s.f Fld.KILN_CLU_ELISTEN
  let wake : Int := s.f Fld.KILN_CLU_EWAKE
  let rowsN (a b : Nat) : Int := (b + 1 - a : Nat)
  let per (n e a b : Nat) : Int := e * 8192000 + rowsN a b * listen * 8000 * k + if s.wakePerShot n then rowsN a b * wake * 8000 * k else 0
  let com := done.foldl (fun a x => a + x.g.n * per x.g.str x.e x.g.rowFirst x.g.rowLast) (0 : Int)
  let perCol := done.filter (fun x => !s.wakePerShot x.g.str)
  let woken := wakeOf perCol
  let wakes : Int := popcount woken
  let rNew : Int := if s.wakePerShot p.str then 0 else popcount (rowMask p.rowFirst p.rowLast &&& ~~~woken)
  allowance ((policyF8 pol * s.f Fld.KILN_PIN_PMAX - 8 * s.pBase) * tPred * k - com - (wakes + rNew) * wake * 8000 * k)
    (per p.str e p.rowFirst p.rowLast)

/-- The time allowance of R116 and the latest time of the entry's first shot, relative to the trigger. -/
def State.allowTime (s : State) (done : List Served) (p : PlanEntry) (tPred : Nat) : Nat × Nat :=
  let per := max 1000 (s.f (Fld.EMIT_STRCFG_PERIOD p.str))
  let span := s.f (Fld.EMIT_STRCFG_DSPAN p.str)
  let prev := (done.filter (fun x => x.g.str = p.str && 0 < x.g.n)).getLast?.map (·.lastT)
  let first := (match prev with | none => p.offset | some t => max p.offset (t + per)) + span
  let tLast : Int := (tPred : Int) - 4196
  if !s.usable p.str || s.b Fld.PWR_FAULT_CHG_TRIP || s.b Fld.SCAN_STAT_INHIBIT || tLast < first then (0, first)
  else ((tLast.toNat - first) / (per + span) + 1, first)

/-! ## Serving an entry (R14, R114, R119) -/

/-- The lowest slewed set-point of the three limiting loops, and the budget it stands for (R114, R119, R227 for ties). -/
def State.vLim (s : State) (n : Nat) : Nat × Nat :=
  let v (j : Nat) := s.f (Fld.CTL_CSP_SPS n j)
  if v 1 ≤ v 2 && v 1 ≤ v 3 then (v 1, 1) else if v 2 ≤ v 3 then (v 2, 3) else (v 3, 5)

/-- The binding code of a count below MAXS (R119): the first in the order of R15 of the budgets that allow the least, if one cuts MAXS; else 6. -/
def bindOf (maxs : Nat) (budgets : List (Nat × Option Nat)) (nTime : Nat) : Nat :=
  let m := budgets.foldl (fun a b => match b.2 with | none => a | some x => min a x) maxs
  if m < maxs then ((budgets.find? (fun b => b.2 = some m)).map (·.1)).getD 6 else if nTime < maxs then 6 else 0

/-- One attempt at class `k`: the count allowed, the served voltage, and the binding code if below MAXS. -/
def State.attempt (s : State) (done : List Served) (p : PlanEntry) (pat : BitVec 8) (tPred : Nat) (span : Int × Int) (k : Nat) : Served :=
  let pol := s.f Fld.KILN_CTRL_POLICY
  let nOpen := popcount pat
  let dem := s.demandNow p.str nOpen k
  let lim := s.vLim p.str
  let v := min dem lim.1
  let e := s.eNum p.str v
  let delta := s.delta p.str v
  let q := s.emission (s.wEye p.str pat) v
  let cells := s.cells span.1 span.2 (s.rowsOf p.str pat)
  let tm := s.allowTime done p tPred
  let budgets : List (Nat × Option Nat) :=
    [ (1, s.allowEye done cells q), (2, s.allowDie done p pol), (3, s.allowJunction done p.str pol delta),
      (4, s.allowCharge done p.str pol e), (5, s.allowInput done p pol e tPred) ]
  let nTime := if nOpen = 0 then 0 else tm.1
  let n := min nTime (budgets.foldl (fun a b => match b.2 with | none => a | some x => min a x) p.maxs)
  let bind := bindOf p.maxs budgets nTime
  let bind := if v < dem && 0 < n then bindMin bind lim.2 else bind
  let per := max 1000 (s.f (Fld.EMIT_STRCFG_PERIOD p.str)) + s.f (Fld.EMIT_STRCFG_DSPAN p.str)
  { g := { idx := p.idx, str := p.str, patIdx := p.pat, pat := pat, cls := k, demand := dem, maxs := p.maxs, n := n, rowFirst := p.rowFirst,
           rowLast := p.rowLast, hmode := p.hmode, aliased := p.aliased, offset := p.offset, bind := bind },
    e := e, delta := delta, q := q, cells := cells, lastT := tm.2 + (n - 1) * per }

/-- The classes an entry can be served at, from its planned class down, without those whose VE is 0 (R114). -/
def State.classesOf (s : State) (cls : Nat) : List Nat := ((List.range (cls + 1)).reverse).filter (fun k => s.f (Fld.EMIT_ECLASS_VE k) != 0)

/-- Serving one entry (R14): the first class that allows its minimum, else no shots. The code reported is that of the first class tried, with 6
for a planned class whose VE is 0 (R119). Pattern and demand are formed from the registers as they are written, which the column takes at its boundary; what is
written between grant and boundary changes the shots there and not the grant (R8, R10; DEDUCED, log 86). -/
def State.serve (s : State) (tPred : Nat) (span : Int × Int) (done : List Served) (p : PlanEntry) : List Served :=
  let pat := s.patternNow p.str p.pat
  let tries := (s.classesOf p.cls).map (s.attempt done p pat tPred span)
  let veBind := if s.f (Fld.EMIT_ECLASS_VE p.cls) = 0 then 6 else 0
  match tries with
  | [] =>
    done ++ [{ s.attempt done p pat tPred span 0 with g := { (s.attempt done p pat tPred span 0).g with n := 0, bind := 6 } }]
  | t :: _ =>
    match tries.find? (fun x => p.mins ≤ x.g.n) with
    | some x => done ++ [{ x with g := { x.g with bind := bindMin (bindMin x.g.bind t.g.bind) veBind } }]
    | none => done ++ [{ t with g := { t.g with n := 0, bind := bindMin t.g.bind veBind } }]

/-- Insertion by priority, keeping table order within one priority (R14). -/
def insertPrio (e : PlanEntry) : List PlanEntry → List PlanEntry
  | [] => [e]
  | x :: l => if e.prio < x.prio then e :: x :: l else x :: insertPrio e l

/-- The service order of a column's entries (R14). -/
def serviceOrder (l : List PlanEntry) : List PlanEntry := l.foldl (fun acc e => insertPrio e acc) []

/-- Kiln's grant of the column at `az`, to trigger at `due`, whose next target is `azNext` (R14, R112, R115). Where there is no next target the eye-safety cells are
taken for the target azimuth ± HALFW alone: the manual does not say (DESIGN CHOICE, log 87). -/
def State.grantColumn (s : State) (az : Nat) (azNext : Option Nat) (due tPred : Nat) (bad : List Nat) : Grant :=
  let (es, _) := s.columnEntries az bad
  let hw : Int := s.f Fld.KILN_EYECFG_HALFW
  let other : Int := azNext.getD az
  let span : Int × Int := (min (az : Int) other - hw, max (az : Int) other + hw)
  let done := (serviceOrder es).foldl (s.serve tPred span) []
  { az := az, entries := done.map (·.g), planned := es.foldl (fun a e => a + e.maxs) 0, policy := s.f Fld.KILN_CTRL_POLICY,
    rows := wakeOf done, lost := s.emitterLost, tPred := tPred, fired := 0, limited := false, due := due }

/-! ## Models (R118) -/

/-- One decay step of at most 1 ms, of `dt` ns, on string `n`, with the policy of the last grant (R117, R118). -/
def State.decayString (s : State) (dt n : Nat) : State :=
  let tau := max 1 (s.f (Fld.KILN_TH_TAU n)) * 1000000
  let d := (s.rget (Reg.KILN_DT n)).toNat
  let s := s.rset (Reg.KILN_DT n) (BitVec.ofNat 32 (d - d * dt / tau))
  let b := (s.rget (Reg.KILN_BKT n)).toNat
  let f := policyF8 s.kiln.policy * s.f (Fld.KILN_CHG_PMAX n) * dt / 8000
  (s.rset (Reg.KILN_BKT n) (BitVec.ofNat 32 (b - f))).updateTj n

/-- One decay step of all strings. -/
def State.decayStep (s : State) (dt : Nat) : State := (List.range 8).foldl (fun s n => s.decayString dt n) s

/-- Decay in `k` steps of `d` ns and then one of `rest` ns (R118). -/
def State.decaySteps (d k rest : Nat) (s : State) : State :=
  ((List.range k).foldl (fun s _ => s.decayStep d) s).decayStep rest

/-- The models brought up to time `t` (R118). -/
def State.decayTo (s : State) (t : Nat) : State :=
  let dt := t - s.kiln.tModel
  let s := State.decaySteps 1000000 (dt / 1000000) (dt % 1000000) s
  s.withKiln { s.kiln with tModel := max t s.kiln.tModel }

/-- Row KILN_DECAY_STEP: a 1 ms step of the models (R118). -/
def execKilnDecayStep (s : State) : Out := .next (s.decayTo (s.kiln.tModel + 1000000))

/-- Kiln's own estimate grows by `e` nJ at `t`; what is older than 1 ms is forgotten (Table 6.3). -/
def State.spend (s : State) (t e : Nat) : State :=
  s.withKiln { s.kiln with spent := (t, e) :: s.kiln.spent.filter (fun p => decide (t ≤ p.1 + 1000000)) }

/-- A fired shot of string `n` at voltage code `v` enters the models (R118). -/
def State.chargeModels (s : State) (n v t : Nat) : State :=
  let s := s.rset (Reg.KILN_DT n) (BitVec.ofNat 32 (min (2 ^ 32 - 1) ((s.rget (Reg.KILN_DT n)).toNat + s.delta n v)))
  let s := s.rset (Reg.KILN_BKT n) (BitVec.ofNat 32 (min (2 ^ 32 - 1) ((s.rget (Reg.KILN_BKT n)).toNat + s.eIn n v)))
  (s.spend t (s.eIn n v)).updateTj n

/-! ## The emission limiter (R122-R125) -/

/-- The cells a shot at angle `theta` is charged to (R122). -/
def State.shotCells (s : State) (n : Nat) (pat : BitVec 8) (theta : Int) : List Nat :=
  let hw : Int := s.f Fld.KILN_EYECFG_HALFW
  s.cells (theta - hw) (theta + hw) (s.rowsOf n pat)

/-- Charging `q` to the present accumulator of each cell; the accumulators saturate (R122). -/
def State.chargeCells (s : State) (cells : List Nat) (q : Nat) : State :=
  s.withKiln { s.kiln with ledger := cells.foldl (fun m c =>
      let k := 16 * c + s.kiln.sub
      SMap.set (fun _ => 0) m k (min (2 ^ 24 - 1) (SMap.get (fun _ => 0) m k + q))) s.kiln.ledger }

/-- The copies of ledger or limit table differ: refuse every shot until a level L1 or deeper reset (R125). -/
def State.eyeMismatch (s : State) : State := (s.withKiln { s.kiln with eyeErr := true }).raise Cause.KILN_EYEFLAG_EYE_ERR

/-- The limiter's decision (R109, R123-R125): may a shot of emission `q` on these cells fire? -/
def State.limiterAdmits (s : State) (cells : List Nat) (q : Nat) : Bool :=
  !s.kiln.eyeErr && !s.b Fld.KILN_EYEFLAG_INIT && s.b Fld.SCAN_ANGLE_VALID
    && cells.all (fun c => decide (s.cellSum c + q ≤ s.cellLimit c))

/-- A sub-window's length in ms ticks: SUB, 0 acts as 1 (R122). -/
def State.subLen (s : State) : Nat := max 1 (s.f Fld.KILN_EYEWIN_SUB)

/-- Row EYE_SUBWINDOW: every SUB ms the oldest accumulator is discarded and a new one starts (R122). -/
def execEyeSubwindow (s : State) : Out :=
  if s.ms < s.kiln.subMs + s.subLen then .next s else
  let k := (s.kiln.sub + 1) % 9
  .next (s.withKiln { s.kiln with sub := k, subMs := s.kiln.subMs + s.subLen, ledger := s.kiln.ledger.filter (fun p => p.1 % 16 != k) })

/-- Row EYE_INIT_END: the 9 × SUB ms initial refusal period ends (R124). -/
def execEyeInitEnd (s : State) : Out := .next (if s.ms < s.kiln.initMs + 9 * s.subLen then s else s.setB Fld.KILN_EYEFLAG_INIT false)

/-- The ledger is cleared and the limiter refuses every shot for 9 × SUB ms (R124). -/
def State.eyeRestart (s : State) : State :=
  (s.withKiln { s.kiln with ledger := [], sub := 0, subMs := s.ms, initMs := s.ms }).setB Fld.KILN_EYEFLAG_INIT true

/-- KILN_EYESUM (Table 6.8): S of the selected cell, saturating; cells above 15,359 read 0. -/
def State.eyeSum (s : State) : Nat :=
  let c := s.f Fld.KILN_EYEPEEK_CELL
  if 15359 < c then 0 else min 0xFFFFFF (s.cellSum c)

end Sys2Proof.Machine
end

