-- ==== Sys2Proof/Machine/Scan.lean ====
section
/-!
DEFINITION. The trigger engine (chapter 6): the mirror angle and its prediction, the set-point and the modes, lock and stall, the targets of a
sweep, and the decision of the emission limiter.
-/
namespace Sys2Proof.Machine

/-! ## Modes and set-point (R103, Table 6.1) -/

/-- The mode in effect: fixed at the entry to SCAN, the register's outside SCAN (R103). -/
def State.scanMode (s : State) : Nat := if s.dev = .scan then s.scan.mode else s.f Fld.SCAN_CTRL_MODE

/-- The direction bit in effect. -/
def State.scanDir (s : State) : Bool := if s.dev = .scan then s.scan.dir else s.b Fld.SCAN_CTRL_DIR

/-- The sweep period in effect in ns. -/
def State.sweepNs (s : State) : Nat := min 100000 (max 33334 (Fld.SCAN_SWEEP_PERIOD.of s.scan.sweep)) * 1000

/-- T_act in ns (Table 6.1). -/
def State.actNs (s : State) : Nat :=
  min 100000 (max 33334 (Fld.SCAN_SWEEP_PERIOD.of s.scan.sweep)) * (1000 - min 300 (max 50 (Fld.SCAN_SWEEP_FB.of s.scan.sweep)))

/-- The first and last code of the active stroke in effect. -/
def State.stroke (s : State) : Nat × Nat :=
  let a := Fld.SCAN_RANGE_START.of s.scan.range
  let b := Fld.SCAN_RANGE_END.of s.scan.range
  if s.scanDir then (b, a) else (a, b)

/-- Table point `i` of PROFILE. -/
def State.profPoint (s : State) (i : Nat) : Nat :=
  let w := (s.rget (Reg.SCAN_PROFTAB (i / 2))).toNat
  if i % 2 = 0 then w % 65536 else w / 65536

/-- PROFILE's point spacing in ns. -/
def State.profStep (s : State) : Nat := max 1 (s.f Fld.SCAN_PROF_TSTEP) * 1000

/-- Linear motion from `a` to `b` over `len` ns, `x` ns after its start, rounded down. -/
def linear (a b x len : Nat) : Nat := ((a : Int) + ((b : Int) - a) * (min x len : Nat) / (max 1 len : Nat)).toNat

/-- The set-point code at time `t` (Table 6.1). -/
def State.setpoint (s : State) (t : Nat) : Nat :=
  match s.scanMode with
  | 1 => s.f Fld.SCAN_STARE_AZ
  | 2 =>
    let x := t - s.scan.t0
    let n := s.f Fld.SCAN_PROF_LAST + 1
    let i := x / s.profStep % n
    linear (s.profPoint i) (s.profPoint ((i + 1) % n)) (x % s.profStep) s.profStep
  | _ =>
    if s.scan.active then linear s.stroke.1 s.stroke.2 (t - s.scan.t0) s.actNs
    else Config.raisedCosine s.scan.fbFrom s.stroke.1 (t - s.scan.fbT) s.scan.fbLen

/-! ## Prediction (R104) -/

/-- The prediction as a quadratic over a common positive divisor: (a, b, c, d, t_k) with θ̂(t) × 4096 = (a x² + b x + c) ÷ d, x = t − t_k. With
fewer than three samples the missing differences are 0. -/
def State.quad (s : State) : Int × Int × Int × Int × Nat :=
  match s.scan.samples with
  | [] => (0, 0, 0x8000 * 4096, 1, 0)
  | [k] => (0, 0, k.theta, 1, k.t)
  | [k, k1] => let d1 : Int := max 1 (k.t - k1.t); (0, k.theta - k1.theta, k.theta * d1, d1, k.t)
  | k :: k1 :: k2 :: _ =>
    let d1 : Int := max 1 (k.t - k1.t)
    let d2 : Int := max 1 (k1.t - k2.t)
    let e1 := k.theta - k1.theta
    let e2 := k1.theta - k2.theta
    (e1 * d2 - e2 * d1, 2 * d1 * d2 * e1, 2 * d1 * d1 * d2 * k.theta, 2 * d1 * d1 * d2, k.t)

/-- The predicted angle at time `t` as a whole code, rounded down. -/
def State.predict (s : State) (t : Nat) : Int :=
  let (a, b, c, d, tk) := s.quad
  let x : Int := (t : Int) - tk
  (a * x * x + b * x + c) / (d * 4096)

/-- θ̂(t) has reached or passed `az` in the direction of motion. -/
def State.reached (s : State) (az : Nat) (rising : Bool) (t : Nat) : Bool :=
  let (a, b, c, d, tk) := s.quad
  let x : Int := (t : Int) - tk
  let e := a * x * x + b * x + c - d * 4096 * az
  if rising then decide (0 ≤ e) else decide (e ≤ 0)

/-- Bisection between a cycle `lo` at which `p` fails and `hi` at which it holds. -/
def bisect (p : Nat → Bool) : Nat → Nat → Nat → Nat
  | 0, _, hi => hi
  | k + 1, lo, hi =>
    if hi ≤ lo + 1 then hi
    else let mid := (lo + hi) / 2; if p mid then bisect p k lo mid else bisect p k mid hi

/-- The first MCLK cycle, a multiple of 2 ns from `t` on, at which the prediction reaches the target (R105); none if it never does within
2²⁸ ns. Between its vertex and either end the quadratic is monotone, so bisection finds that cycle. -/
def State.crossing (s : State) (az : Nat) (rising : Bool) (t : Nat) : Option Nat :=
  let (a, b, _, _, tk) := s.quad
  let t0 := (t + 1) / 2 * 2
  let p (k : Nat) : Bool := s.reached az rising (t0 + 2 * k)
  let up : Int := if rising then 1 else -1
  let far := 2 ^ 27
  if p 0 then some t0
  else if 0 < up * a || (a = 0 && 0 < up * b) then (if p far then some (t0 + 2 * bisect p 28 0 far) else none)
  else if a = 0 then none
  else
    let kv : Int := (tk + (-b) / (2 * a) - t0) / 2
    if kv < 0 then none
    else if p kv.toNat then some (t0 + 2 * bisect p 28 0 kv.toNat)
    else if p (kv.toNat + 1) then some (t0 + 2 * (kv.toNat + 1)) else none

/-! ## Targets (R105, R106, R110, Table 6.1) -/

/-- The azimuths of a cyclic profile segment from `p` to `q`, in the order and direction they are crossed. -/
def segTargets (azs : List Nat) (pdir p q : Nat) : List (Nat × Bool) :=
  if p < q then (if pdir = 2 then [] else (azs.filter (fun z => p < z && z ≤ q)).map (fun z => (z, true)))
  else if q < p then (if pdir = 1 then [] else ((azs.filter (fun z => q ≤ z && z < p)).reverse).map (fun z => (z, false)))
  else []

/-- The targets of a sweep, in the mode's order. -/
def State.targets (s : State) : List (Nat × Bool) :=
  let azs := azimuths s.region.1
  match s.scanMode with
  | 0 =>
    let (a, b) := s.stroke
    if a ≤ b then (azs.filter (fun z => a ≤ z && z ≤ b)).map (fun z => (z, true))
    else ((azs.filter (fun z => b ≤ z && z ≤ a)).reverse).map (fun z => (z, false))
  | 2 =>
    let n := s.f Fld.SCAN_PROF_LAST + 1
    (List.range n).flatMap (fun i => segTargets azs (s.f Fld.SCAN_CTRL_PDIR) (s.profPoint i) (s.profPoint ((i + 1) % n)))
  | _ => []

/-- A target is still ahead at time `t`: the prediction has not reached it. -/
def State.ahead (s : State) (t : Nat) (x : Nat × Bool) : Bool := !s.reached x.1 x.2 t

/-- The targets left of a sweep that is already running at the entry to SCAN. -/
def State.targetsLeft (s : State) (t : Nat) : List (Nat × Bool) :=
  match s.scanMode with
  | 0 => if s.scan.active then s.targets.dropWhile (fun x => !s.ahead t x) else []
  | 2 =>
    let n := s.f Fld.SCAN_PROF_LAST + 1
    let i := (t - s.scan.t0) / s.profStep % n
    let azs := azimuths s.region.1
    let seg (j : Nat) := segTargets azs (s.f Fld.SCAN_CTRL_PDIR) (s.profPoint j) (s.profPoint ((j + 1) % n))
    (seg i).dropWhile (fun x => !s.ahead t x) ++ (List.range (n - 1 - i)).flatMap (fun k => seg (i + 1 + k))
  | _ => []

/-- Taking the region that PSEL selects (R110), and flagging a decreasing AZ (R112). -/
def State.takeRegion (s : State) : State :=
  let s := s.withScan { s.scan with psel := s.b Fld.SCAN_CTRL_PSEL }
  let s := s.setB Fld.SCAN_STAT_ACTIVE_PSEL s.scan.psel
  s.raiseIf s.region.2 Cause.SCAN_PLAN_ORDER

/-- A skipped target (R106): the flag is set and the counter counts. -/
def State.skipCount (s : State) : State := (s.raise Cause.SCAN_SKIP).incMod Fld.SCAN_CNT_SKIPS 1

/-- A sweep begins (R103): SWEEPS counts modulo 2²⁴. -/
def State.sweepBegin (s : State) : State :=
  let s := s.incMod Fld.SCAN_STAT_SWEEPS 1
  s.withScan { s.scan with sos := true, trigN := 0, sweepWhole := decide (s.dev = .scan) }

/-- The engine's side of row SWEEP_START: an active stroke or a profile cycle begins at `t` (R103, R110). -/
def State.sweepStart (s : State) (t : Nat) : State :=
  let s := s.withScan { s.scan with active := decide (s.scanMode = 0), t0 := t, strokeFail := false, stallRun := false, lockClean := true, next := none }
  let s := s.sweepBegin
  if s.dev = .scan then
    let s := s.takeRegion
    s.withScan { s.scan with todo := s.targets }
  else s

/-! ## Angle samples (R101, R102, R108, R109) -/

/-- The angle of a sample at full resolution, × 4096, saturated (R101, R104). -/
def State.sampleTheta (s : State) (v : Nat) : Int :=
  let th : Int := 0x8000 * 4096 + ((v : Int) - s.f Fld.SCAN_MCAL_ZERO) * s.fs Fld.SCAN_MCAL_GAIN
  min (0xFFFF * 4096) (max 0 th)

/-- The shots of a grant fixed and not yet triggered are dropped (Table 1.6). -/
def State.dropNext (s : State) : State := s.withScan { s.scan with next := s.scan.next.map (fun g => { g with dropped := true }) }

/-- Pending planned shots are dropped and counted as not granted, with binding code `c` (Table 1.6, R119). -/
def State.dropPlanned (s : State) (c : Nat) : State :=
  (List.range 8).foldl (fun s n =>
    let x := s.str n
    let s := x.queue.foldl (fun s p => s.reduceEntry p.entry c) s
    let next := match x.next with
      | some { kind := .planned _, .. } => none
      | y => y
    s.setStr n { x with queue := [], next := next }) s

/-- INHIBIT follows stall and validity (R108, R109). When it sets, every FIRE output is inhibited, pending planned shots are
dropped and the Guard confirms an intrusion (R308). -/
def State.followInhibit (s : State) : State :=
  let inh := s.scan.stallInh || !s.b Fld.SCAN_ANGLE_VALID
  let s' := s.setB Fld.SCAN_STAT_INHIBIT inh
  if inh && !s.b Fld.SCAN_STAT_INHIBIT then ((s'.dropPlanned 6).dropNext).guardInhibit else s'

/-- The lock interval counted is one of the mode in effect (R102): after a change of the mode it is counted from the start. -/
def State.lockModeFollow (s : State) : State :=
  if s.scan.lockMode = s.scanMode then s
  else s.withScan { s.scan with lockMode := s.scanMode, lockN := 0, lockClean := false, lockFrom := 0 }

/-- A sample against the lock band (R102). One outside it breaks the interval; in SCAN it sets UNLOCK, elsewhere it clears LOCKED. -/
def State.lockUpdate (s : State) (ok : Bool) (t : Nat) : State :=
  let s := s.lockModeFollow
  if !ok then
    let was := s.b Fld.SCAN_STAT_LOCKED && s.dev != .scan
    let s := if s.dev = .scan then s.raise Cause.SCAN_UNLOCK else s.setB Fld.SCAN_STAT_LOCKED false
    s.withScan { s.scan with lockClean := s.scan.lockClean && !(s.scan.active || was || s.scanMode = 2),
                                   lockN := if was then 0 else s.scan.lockN, lockFrom := 0 }
  else if s.scanMode = 1 then
    let s := if s.scan.lockFrom = 0 then s.withScan { s.scan with lockFrom := t } else s
    if s.scan.lockFrom + 20000000 ≤ t then s.setB Fld.SCAN_STAT_LOCKED true else s
  else s

/-- The end of a lock interval of SWEEP or PROFILE (R102): two clean ones in a row lock. -/
def State.lockInterval (s : State) : State :=
  let s := s.lockModeFollow
  let n := if s.scan.lockClean then min 2 (s.scan.lockN + 1) else 0
  let s := s.withScan { s.scan with lockN := n, lockClean := true }
  if n = 2 then s.setB Fld.SCAN_STAT_LOCKED true else s

/-- The stall check of R108 on the newest sample, in an active stroke of SWEEP in SCAN. -/
def State.stallCheck (s : State) (t : Nat) : State :=
  if s.dev = .scan && s.scanMode = 0 && s.scan.active && decide (s.scan.t0 + 1000000 ≤ t) then
    match s.scan.hist, s.scan.hist.drop 200 with
    | c :: _, old :: _ =>
      let adv : Int := if s.stroke.1 ≤ s.stroke.2 then (c : Int) - old else (old : Int) - c
      if adv < s.f Fld.SCAN_MINADV_MINADV then
        let s := if s.scan.stallRun then s else (s.raise Cause.SCAN_SCAN_STALL).incSat Fld.SCAN_CNT_STALLS 1
        s.withScan { s.scan with strokeFail := true, stallRun := true, stallInh := true }
      else s.withScan { s.scan with stallRun := false }
    | _, _ => s
  else s

/-- The conversions a sample is made of (R101, Table 6.7 AVG). -/
def State.msnsCount (s : State) : Nat := match s.f Fld.SCAN_MSNS_AVG with | 0 => 1 | 1 => 4 | _ => 16

/-- The sample's value s = 16 × the mean of its conversions' codes (R101). -/
def sampleValue (codes : List Nat) : Nat := 16 * codes.foldl (· + ·) 0 / max 1 codes.length

/-- A mirror sample of value `v` whose first conversion began at `t` arrives (R101-R104, R108, R109). -/
def State.msnsBase (s : State) (v t : Nat) : State :=
  let th := s.sampleTheta v
  let code := (th / 4096).toNat
  let valid := !s.ctl.mexcBroken && decide (0x100 ≤ v) && decide (v ≤ 0xFEF0)
  let s := s.withScan { s.scan with samples := { theta := th, code := code, t := t } :: s.scan.samples.take 2,
                                          hist := code :: s.scan.hist.take 200 }
  let s := (s.setF Fld.SCAN_ANGLE_ANGLE code).setB Fld.SCAN_ANGLE_VALID valid
  let sp := s.setpoint t
  let s := s.setF Fld.SCAN_SETP_SETP sp
  let diff := if sp < code then code - sp else sp - code
  let s := s.lockUpdate (decide (diff ≤ s.f Fld.SCAN_MSNS_LOCK_ERR)) t
  let s := s.stallCheck t
  let s := if !valid && s.dev = .scan then s.withScan { s.scan with stallInh := true, strokeFail := true } else s
  s.followInhibit

/-- The targets at or beyond which the newest sample lies, in order (R106). -/
def State.passed (s : State) : List (Nat × Bool) :=
  match s.scan.samples with
  | [] => []
  | k :: _ => s.scan.todo.takeWhile (fun x => if x.2 then decide ((4096 * x.1 : Nat) ≤ k.theta) else decide (k.theta ≤ (4096 * x.1 : Nat)))

/-- The engine's side of the stroke's end at `t` (R103, R106, R108): lock interval, release of INHIBIT, new sweep settings, flyback. -/
def State.strokeEnd (s : State) (t : Nat) : State :=
  let s := s.lockInterval
  let s := if s.dev = .scan && s.b Fld.SCAN_CTRL_AUTORES && !s.scan.strokeFail && s.scan.sweepWhole
    then s.withScan { s.scan with stallInh := false } else s
  let s := s.followInhibit
  let s := s.withScan { s.scan with active := false, stallRun := false, fbFrom := s.stroke.2, fbT := t, todo := [], next := none,
                                          sweep := s.rget Reg.SCAN_SWEEP, range := s.rget Reg.SCAN_RANGE }
  s.withScan { s.scan with fbLen := s.sweepNs - s.actNs }

/-- Plan entry `i` is read with an uncorrectable error (R362, Table 18.6). -/
def State.planUe (s : State) (i : Nat) : State := (s.raise Cause.PLAN_UE).logEvent 0x0031 4 (BitVec.ofNat 32 (0x01000000 + 8 * i))

/-! ## Grants (R14, R105, R107, R112) -/

/-- How long after a profile cycle's begin the set-point reaches the cycle's first target (Table 6.1). -/
def State.profFirst (s : State) : Nat :=
  let azs := azimuths s.region.1
  let n := s.f Fld.SCAN_PROF_LAST + 1
  let at' (i : Nat) : Option Nat :=
    let p := s.profPoint i
    let q := s.profPoint ((i + 1) % n)
    ((segTargets azs (s.f Fld.SCAN_CTRL_PDIR) p q).head?).map (fun z =>
      i * s.profStep + (if p < q then z.1 - p else p - z.1) * s.profStep / (max 1 (if p < q then q - p else p - q)))
  ((List.range n).findSome? at').getD 0

/-- T_pred of the column that triggers at `t`, and the state after a free value was used (R107). `t` is the predicted trigger at the grant and the actual
trigger afterwards. `rest` are the targets after this column's. Left open, and taken from the set-point: the next target of a profile cycle's last column, which is the
first of the next cycle, and the end of the stroke for a stroke's last column where no column before it has triggered (DESIGN CHOICE, log 83). -/
def State.tPred (s : State) (t : Nat) (rest : List (Nat × Bool)) : Nat × State :=
  if s.scanMode = 1 then (max 2500 (s.f Fld.SCAN_STARE_TCOL) * 4, s) else
  match rest with
  | x :: _ =>
    match s.crossing x.1 x.2 t with
    | some c => (c - t, s)
    | none => (Config.tPredUnstated s.fresh.1, s.fresh.2)
  | [] =>
    if s.scanMode = 2 then (s.scan.t0 + (s.f Fld.SCAN_PROF_LAST + 1) * s.profStep + s.profFirst - t, s)
    else if 0 < s.scan.trigN then (t - s.scan.tTrig, s)
    else (s.scan.t0 + s.actNs - t, s)

/-- Kiln fixes the grant of the column at `az` that is to trigger at `t` (R14, R112, R117, R118, R362): its policy holds until the next grant, and the strings it
serves take the demand of their first shot. `bad` are plan entries read with an uncorrectable error. -/
def State.grantFor (s : State) (az : Nat) (rest : List (Nat × Bool)) (t now : Nat) (bad : List Nat) : State :=
  let s := s.decayTo now
  let s := s.withKiln { s.kiln with policy := s.f Fld.KILN_CTRL_POLICY }
  let s := s.raiseIf (s.columnEntries az bad).2 Cause.SCAN_COLMAX
  let s := ((s.region.1.filter (fun e => e.az = az && bad.contains e.idx)).map (·.idx)).foldl State.planUe s
  let q := s.tPred t rest
  let next := match rest with | x :: _ => some x.1 | [] => none
  let s := q.2
  let s := s.withScan { s.scan with next := some (s.grantColumn az next t q.1 bad) }
  (List.range 8).foldl (fun s n => if (s.str n).next.isNone then (s.comingDemand n).demandTarget n else s) s

/-- The grant that is due at `now`, if one is: armed, none fixed yet, and the predicted crossing 1000 ns or less away (R105, Table 6.6). -/
def State.grantDue (s : State) (now : Nat) (bad : List Nat) : State :=
  if s.dev != .scan || s.scan.next.isSome || !s.scan.armed then s
  else if s.scanMode = 1 then
    let due := s.scan.tTrig + max 2500 (s.f Fld.SCAN_STARE_TCOL) * 4
    if s.scan.cur.isNone || due ≤ now + 1000 then s.grantFor (s.f Fld.SCAN_STARE_AZ) [] (max now due) now bad else s
  else
    match s.scan.todo with
    | [] => s
    | x :: rest =>
      match s.crossing x.1 x.2 now with
      | some c => if c ≤ now + 1000 then s.grantFor x.1 rest c now bad else s
      | none => s

/-- The hold-off has run out at `t` (R105). -/
def State.holdoffOver (s : State) (t : Nat) : Bool :=
  if s.b Fld.SCAN_HOLD_KIND then decide (max 1 (s.f Fld.SCAN_HOLD_HE) ≤ s.scan.held) || decide (s.scan.tLast ≤ t)
  else decide (s.scan.tTrig + 4 * s.f Fld.SCAN_HOLD_HT ≤ t)

/-- Re-arming at `t` (R105): the grant follows at once if it is due (Table 6.6). -/
def State.rearm (s : State) (t : Nat) (bad : List Nat) : State :=
  if s.holdoffOver t then (s.withScan { s.scan with armed := true }).grantDue t bad else s

/-! ## The emission limiter's decision (R121-R125) -/

/-- Row EMISSION_LIMIT_DECIDE: at 30 ns before string `n`'s next shot the limiter admits or refuses it; `mismatch` says that the two copies of ledger or limit table
differ in what it reads (R125). -/
def execEmissionLimitDecide (n : Nat) (mismatch : Bool) (s : State) : Out :=
  let s := if mismatch then s.eyeMismatch else s
  match (s.str n).next with
  | none => .next s
  | some y =>
    let vAcc := max (s.f (Fld.EMIT_DAC_CODE n)) (y.vpre.getD (s.f (Fld.EMIT_VBANK_VBANK n)))
    let q := s.emission (s.wEye n y.pat) vAcc
    let ok := s.limiterAdmits (s.shotCells n y.pat (s.predict y.t)) q
    let s := s.modNext n (fun y => { y with admitted := some ok })
    if ok then .next s else
    let s := (s.raise Cause.KILN_EYEFLAG_REFUSED).incSat Fld.KILN_EYEFLAG_REFCNT 1
    match y.kind with
    | .planned i =>
      .next (s.withScan { s.scan with cur := s.scan.cur.map (fun g => { g with
        limited := true, entries := g.entries.map (fun e => if e.idx = i then { e with refused := true } else e) }) })
    | _ => .next (s.raise Cause.KILN_EYEFLAG_PROBE_DEFER)

end Sys2Proof.Machine
end

