-- ==== Sys2Proof/Machine/Ctl.lean ====
section
/-!
DEFINITION. The control engine (chapter 11): general loops, charge groups, the fixed-point stages, and what the engine tick does beside them (R144,
R245, R246).
-/
namespace Sys2Proof.Machine

/-! ## The datapath (R225, R226) -/

/-- Saturation to 32 bits of Q24.8 (R226). -/
def satQ (x : Int) : Int := min 2147483647 (max (-2147483648) x)

/-- Stage bit `k` of a sticky flag byte, if `p` (R226). -/
def stageBit (k : Nat) (p : Bool) : Nat := if p then 2 ^ k else 0

/-- A gain (signed Q8.24) times a Q24.8 value, truncated towards minus infinity and saturated: the result and whether it saturated. -/
def gainMul (k x : Int) : Int × Bool :=
  let p := k * x / 16777216
  (satQ p, satQ p != p)

/-- Stage 7, SLEW: the new slewed set-point and whether the step was limited (Table 11.2, R228). -/
def slewStep (t sps : Int) (up down : Nat) : Int × Bool :=
  if sps < t then
    if up != 0 && decide ((up : Int) < t - sps) then (sps + up, true) else (t, false)
  else if t < sps then
    if down != 0 && decide ((down : Int) < sps - t) then (sps - down, true) else (t, false)
  else (sps, false)

/-- A loop's settings and state at the beginning of an evaluation. -/
structure LoopIn where
  kf : Int
  kp : Int
  ki : Int
  up : Nat
  down : Nat
  omin : Nat
  omax : Nat
  t : Int
  sps : Int
  fb : Int
  i : Int
  deriving DecidableEq, Repr

/-- What stages 7 to 6 form: slewed set-point, F, P, the updated integrator, OUT, and the stage bits, those of stage 4 apart. -/
structure LoopOut where
  sps : Int
  f : Int
  p : Int
  i4 : Int
  out : Int
  clamped : Bool
  flags : Nat
  flag4 : Nat
  deriving DecidableEq, Repr

/-- One evaluation up to OUT, with stage 4 taken (Table 11.2). A loop with KI = 0 skips stages 3 and 4 (R226). -/
def evalLoop (x : LoopIn) : LoopOut :=
  let (sps, s7) := slewStep x.t x.sps x.up x.down
  let e := satQ (sps * 256 - x.fb * 256)
  let s0 := e != sps * 256 - x.fb * 256
  let (f, s1) := gainMul x.kf (sps * 256)
  let (p, s2) := gainMul x.kp e
  let (d, s3) := gainMul x.ki e
  let s3 := x.ki != 0 && s3
  let i4 := if x.ki = 0 then x.i else satQ (x.i + d)
  let s4 := i4 != (if x.ki = 0 then x.i else x.i + d)
  let u := satQ (f + p + i4)
  let s5 := u != f + p + i4
  let o := min (x.omax : Int) (max (x.omin : Int) (u / 256))
  let s6 := o != u / 256
  { sps := sps, f := f, p := p, i4 := i4, out := o, clamped := s6,
    flags := stageBit 7 s7 + stageBit 0 s0 + stageBit 1 s1 + stageBit 2 s2 + stageBit 3 s3 + stageBit 5 s5 + stageBit 6 s6, flag4 := stageBit 4 s4 }

/-- The back-calculated integrator for output `out` (stage 6, R227). -/
def backCalc (out f p : Int) : Int := satQ (out * 256 - f - p)

/-! ## Settings in effect (R230) -/

/-- A field of the settings in effect. -/
def State.ca (s : State) (F : Fld) : Nat := F.of (SMap.get regReset s.ctl.act F.addr)

/-- A gain in effect, signed. -/
def State.caS (s : State) (F : Fld) : Int := (BitVec.ofNat 32 (s.ca F)).toInt

/-- The addresses of the staged settings (R230). -/
def ctlStaged : List Nat :=
  (List.range 8).flatMap (fun n => [Reg.CTL_LCFG n, Reg.CTL_LKF n, Reg.CTL_LKP n, Reg.CTL_LKI n, Reg.CTL_LLIM n, Reg.CTL_LSLEW n])
    ++ (List.range 8).flatMap (fun n => (List.range 4).flatMap (fun j => [Reg.CTL_CKF n j, Reg.CTL_CKP n j, Reg.CTL_CKI n j, Reg.CTL_CSLEW n j]))

/-- All staged values come into effect (R230): by COMMIT, or by the LOADER's commit. -/
def State.ctlApply (s : State) : State :=
  s.withCtl { s.ctl with act := ctlStaged.foldl (fun m a => SMap.set regReset m a (s.rget a)) s.ctl.act }

/-- Sticky flags set in a flag field; a rise of the level bit `c` of CTL_STAT is counted (R226, R355). -/
def State.stick (s : State) (F : Fld) (flags : Nat) (c : Cause) : State :=
  let before := s.ctlLevel
  let s := s.setF F (s.f F ||| flags)
  if before = s.ctlLevel then s else s.countCause c

/-! ## General loops (Table 11.1) -/

/-- VSPAD is enabled (Table 3.1: TDC calibration and SCAN only; R60, Table 12.5, Table 12.6). -/
def State.vspadOn (s : State) : Bool :=
  (s.dev = .scan || (s.dev = .idle && (s.b Fld.RX_CALSTAT_BUSY || s.b Fld.AMP_STATE_PEND_START || s.rst.autostart)))
    && !s.b Fld.THERM_STAT_SPAD_SD && !s.b Fld.THERM_STAT_HARD

/-- PWR_STATUS.GOOD does not show VSPAD while it is not enabled: it becomes good anew (Table 3.1, Table 3.4). -/
def State.vspadFollow (s : State) : State :=
  if s.vspadOn then s else s.setF Fld.PWR_STATUS_GOOD (s.f Fld.PWR_STATUS_GOOD % 64)

/-- General loop `n` runs (Table 11.1). -/
def State.loopRuns (s : State) (n : Nat) : Bool :=
  (s.f Fld.CTL_CTRL_EN).testBit n && (match n with
    | 0 | 2 => s.dev = .idle || s.dev = .scan || s.dev = .safe
    | 1 => s.vspadOn
    | _ => !(s.dev = .boot) && !(s.dev = .park))

/-- The feedback of loop `n` (Table 11.1), as a 16-bit code. A source that does not exist gives 0. -/
def State.loopFb (s : State) (n : Nat) : Nat :=
  let idx := s.ca (Fld.CTL_LCFG_SRCIDX n)
  let sensor := if idx < 72 then s.f (Fld.THERM_T_T idx) else 0
  match n with
  | 0 => s.f Fld.SCAN_ANGLE_ANGLE
  | 1 => min 0xFFFF s.ctl.vspad
  | 2 => sensor
  | _ => match s.ca (Fld.CTL_LCFG_SRC n) with
    | 1 => SMap.get (fun _ => 0) s.adcLast idx
    | 2 => if idx < 16 then s.f (Fld.AFE_RES_VALUE idx) % 65536 else 0
    | 3 => sensor
    | _ => 0

/-- The target of loop `n` (Table 11.1). -/
def State.loopTarget (s : State) (n : Nat) : Nat :=
  match n with
  | 0 => s.f Fld.SCAN_SETP_SETP
  | 1 => s.f Fld.RX_BIASST_VSET
  | _ => s.f (Fld.CTL_LSP_SP n)

/-- The present code of loop `n`'s actuator; a free loop has its output only. -/
def State.actuator (s : State) (n : Nat) : Nat :=
  match n with
  | 0 => s.ctl.mdrv
  | 1 => s.ctl.lx
  | 2 => s.ctl.htr
  | _ => s.f (Fld.CTL_LOUT_OUT n)

/-- Driving loop `n`'s actuator. -/
def State.drive (s : State) (n v : Nat) : State :=
  match n with
  | 0 => s.withCtl { s.ctl with mdrv := v }
  | 1 => s.withCtl { s.ctl with lx := v }
  | 2 => s.withCtl { s.ctl with htr := v }
  | _ => s

/-- A 16-bit code as the loop reads it: signed for loop 2 only (R225). -/
def loopCode (n v : Nat) : Int := if n = 2 then (BitVec.ofNat 16 v).toInt else v

/-- Loop `n` starts or stops as Table 11.1 and R223 state. -/
def State.loopRun (s : State) (n : Nat) : State :=
  let run := (s.f Fld.CTL_STAT_RUN).testBit n
  if s.loopRuns n && !run then
    let s := s.setF Fld.CTL_STAT_RUN (s.f Fld.CTL_STAT_RUN + 2 ^ n)
    let s := s.setF (Fld.CTL_LINT_I n) (s.actuator n * 256)
    let s := s.setF (Fld.CTL_LSP_SPS n) (s.loopFb n)
    s.withCtl { s.ctl with cnt := SMap.set (fun _ => 0) s.ctl.cnt n 0, div := SMap.set (fun _ => 0) s.ctl.div n (s.ca (Fld.CTL_LCFG_DIV n)) }
  else if !s.loopRuns n && run then
    let s := s.setF Fld.CTL_STAT_RUN (s.f Fld.CTL_STAT_RUN - 2 ^ n)
    s.drive n (if n = 0 then 0x8000 else 0)
  else s

/-- One evaluation of general loop `n` (R225, R226). -/
def State.loopEval (s : State) (n : Nat) : State :=
  let t := s.loopTarget n
  let s := s.setF (Fld.CTL_LSP_SP n) t
  let fb := s.loopFb n
  let s := s.setF (Fld.CTL_LFB_FB n) fb
  let r := evalLoop { kf := s.caS (Fld.CTL_LKF_K n), kp := s.caS (Fld.CTL_LKP_K n), ki := s.caS (Fld.CTL_LKI_K n),
                      up := s.ca (Fld.CTL_LSLEW_UP n), down := s.ca (Fld.CTL_LSLEW_DOWN n),
                      omin := s.ca (Fld.CTL_LLIM_OMIN n), omax := s.ca (Fld.CTL_LLIM_OMAX n),
                      t := loopCode n t, sps := loopCode n (s.f (Fld.CTL_LSP_SPS n)), fb := loopCode n fb, i := s.fs (Fld.CTL_LINT_I n) }
  let i := if r.clamped && s.caS (Fld.CTL_LKI_K n) != 0 then backCalc r.out r.f r.p else r.i4
  let s := s.setFs (Fld.CTL_LSP_SPS n) r.sps
  let s := s.setFs (Fld.CTL_LINT_I n) i
  let s := s.setF (Fld.CTL_LOUT_OUT n) r.out.toNat
  let s := s.drive n (if n = 1 && s.ctl.lxStop then 0 else r.out.toNat)
  s.stick (Fld.CTL_LSAT_FLAGS n) (r.flags + r.flag4) ⟨10, 8 + n⟩

/-- General loop `n` at an engine tick: it runs or not, and is evaluated every DIV ticks (R223); a DIV that COMMIT has given counts from the evaluation on that takes it
(R230). Loop 0 is evaluated on the mirror samples. -/
def State.loopTick (s : State) (n : Nat) : State :=
  let s := s.loopRun n
  if n = 0 || !(s.f Fld.CTL_STAT_RUN).testBit n then s else
  let c := SMap.get (fun _ => 0) s.ctl.cnt n + 1
  let div := SMap.get (fun _ => 0) s.ctl.div n
  let due := decide ((if div = 0 then 256 else div) ≤ c)
  let s := s.withCtl { s.ctl with cnt := SMap.set (fun _ => 0) s.ctl.cnt n (if due then 0 else c),
                                         div := SMap.set (fun _ => 0) s.ctl.div n (if due then s.ca (Fld.CTL_LCFG_DIV n) else div) }
  if due then s.loopEval n else s

/-- The mirror loop on a mirror sample (Table 11.1). -/
def State.mirrorLoop (s : State) : State :=
  let s := s.loopRun 0
  if (s.f Fld.CTL_STAT_RUN).testBit 0 then s.loopEval 0 else s

/-! ## Charge groups (R224, R227) -/

/-- The group of string `n` runs (Table 11.1). -/
def State.groupRuns (s : State) (n : Nat) : Bool := s.dev = .scan && s.usable n

/-- EMIT_DACn.CODE and CTL_GRPn follow the group's output; READY follows CODE (Table 5.5, Table 11.6). A string that holds no granted shots and no
probe has its DAC held at zero (R14). -/
def State.setDac (s : State) (n win out : Nat) : State :=
  let code := if s.chargeWanted n then out else 0
  let s := (s.setF (Fld.CTL_GRP_WIN n) win).setF (Fld.CTL_GRP_CODE n) code
  let s := s.setF (Fld.EMIT_DAC_CODE n) code
  s.setVbank n (s.f (Fld.EMIT_VBANK_VBANK n))

/-- Charge loop `j` of string `n` up to OUT. -/
def State.chargeLoop (s : State) (n j : Nat) : LoopOut :=
  evalLoop { kf := s.caS (Fld.CTL_CKF_K n j), kp := s.caS (Fld.CTL_CKP_K n j), ki := s.caS (Fld.CTL_CKI_K n j),
             up := s.ca (Fld.CTL_CSLEW_UP n j), down := s.ca (Fld.CTL_CSLEW_DOWN n j), omin := 0, omax := 3750,
             t := s.f (Fld.CTL_CSP_SP n j), sps := s.f (Fld.CTL_CSP_SPS n j), fb := s.f (Fld.EMIT_VBANK_VBANK n), i := s.fs (Fld.CTL_CINT_I n j) }

/-- The input-power set-point of string `n` (R224). -/
def State.inputTarget (s : State) (n : Nat) : Nat :=
  let p := s.f Fld.AFE_PWR_P
  let code := s.f (Fld.CTL_GRP_CODE n)
  if p = 0 then 3750 else min 3750 (rootWide (code * code * policyF8 (s.f Fld.KILN_CTRL_POLICY) * s.f Fld.KILN_PIN_PMAX / (8 * p)))

/-- Starting or stopping the group of string `n` (R223): slewed set-points are loaded with their targets, integrators with 0. -/
def State.groupRun (s : State) (n : Nat) : State :=
  let run := s.ctl.grp.testBit n
  if s.groupRuns n && !run then
    let s := (s.setF (Fld.CTL_CSP_SP n 1) 3750).setF (Fld.CTL_CSP_SP n 3) (s.inputTarget n)
    let s := (List.range 4).foldl (fun s j => (s.setF (Fld.CTL_CSP_SPS n j) (s.f (Fld.CTL_CSP_SP n j))).setF (Fld.CTL_CINT_I n j) 0) s
    s.withCtl { s.ctl with grp := s.ctl.grp + 2 ^ n }
  else if !s.groupRuns n && run then
    let s := s.withCtl { s.ctl with grp := s.ctl.grp - 2 ^ n }
    let s := (s.setF (Fld.CTL_GRP_CODE n) 0).setF (Fld.EMIT_DAC_CODE n) 0
    s.setVbank n (s.f (Fld.EMIT_VBANK_VBANK n))
  else s

/-- The winner among the four loops' outputs: the lowest, on a tie the lower index (R227). -/
def lowestOut (outs : List Int) : Nat :=
  (List.range 4).foldl (fun w j => if outs.getD j 0 < outs.getD w 0 then j else w) 0

/-- One evaluation of the charge group of string `n` (R227). -/
def State.groupEval (s : State) (n : Nat) : State :=
  if !s.ctl.grp.testBit n then s else
  let rs := (List.range 4).map (s.chargeLoop n)
  let win := lowestOut (rs.map (·.out))
  let outWin := (rs.map (·.out)).getD win 0
  let s := (List.range 4).foldl (fun s j =>
    match rs[j]? with
    | none => s
    | some r =>
      let ki := s.caS (Fld.CTL_CKI_K n j)
      let i := if ki = 0 then r.i4
        else if j = win then (if r.clamped then backCalc r.out r.f r.p else r.i4)
        else backCalc outWin r.f r.p
      let out := if ki != 0 then outWin else r.out
      let s := s.setF (Fld.CTL_CSP_SPS n j) r.sps.toNat
      let s := s.setFs (Fld.CTL_CINT_I n j) i
      let s := s.setF (Fld.CTL_COUT_OUT n j) out.toNat
      s.stick (Fld.CTL_CSAT_FLAGS n j) (r.flags + if j = win then r.flag4 else 0) ⟨10, 16 + n⟩) s
  s.setDac n win outWin.toNat

/-- Row CHARGE_GROUP_EVALUATE: the group of string `n` on a new demand code (R86, R227). -/
def execChargeGroupEvaluate (n : Nat) (s : State) : Out := .next ((s.groupRun n).groupEval n)

/-- The eye-safety set-point for a shot on `cells` with weight `wEye` (R224). -/
def State.eyeTarget (s : State) (cells : List Nat) (wEye : Nat) : Nat :=
  let h := s.headroom cells
  let den := max 1 (s.f Fld.CTL_EYE_EYE_DIV) * wEye * s.f Fld.KILN_EYEWIN_KQ
  if h ≤ 0 then 0 else if den = 0 then 3750 else min 3750 (rootWide (h.toNat * 2 ^ 34 / den))

/-- At a grant the eye-safety set-point of every string the grant serves is formed (R224), over the cells of its entries' span of azimuths. -/
def State.eyeTargets (s : State) (g : Grant) (azNext : Option Nat) : State :=
  let hw : Int := s.f Fld.KILN_EYECFG_HALFW
  let other : Int := azNext.getD g.az
  let lo := min (g.az : Int) other - hw
  let hi := max (g.az : Int) other + hw
  (List.range 8).foldl (fun s n =>
    let ts := (g.entries.filter (fun e => e.str = n)).map (fun e => s.eyeTarget (s.cells lo hi (s.rowsOf n e.pat)) (s.wEye n e.pat))
    match ts with
    | [] => s
    | t :: l => s.setF (Fld.CTL_CSP_SP n 1) (l.foldl min t)) s

/-! ## SPAD bias (R144) -/

/-- V_set and what it shows in (R144): T_spad is the mean of the four SPAD-tier values in use. -/
def State.biasSet (s : State) : State :=
  let sum : Int := (List.range 4).foldl (fun a i => a + s.fs (Fld.THERM_T_T (64 + i))) (0 : Int)
  let vex := min 300 (max 25 (s.f Fld.RX_BIAS_VEX)) * 20
  let v : Int := s.f Fld.RX_BIAS_VBD25 + vex + s.fs Fld.RX_BIASTC_TCBD * (sum - 1600) / 6400
  let c := min 32000 (max 20000 v)
  let s := (s.setFs Fld.RX_BIASST_TSPAD (sum / 4)).setF Fld.RX_BIASST_VSET c.toNat
  s.setB Fld.RX_STAT_BIAS_LIM (c != v)

/-- BIAS_OK: VSPAD within ±100 mV of V_set; its fall in SCAN sets BIAS_DEV (R144). -/
def State.biasOk (s : State) : State :=
  let v := s.ctl.vspad
  let t := s.f Fld.RX_BIASST_VSET
  let ok := decide (v ≤ t + 100) && decide (t ≤ v + 100)
  let was := s.b Fld.RX_STAT_BIAS_OK
  let s := s.setB Fld.RX_STAT_BIAS_OK ok
  s.raiseIf (was && !ok && s.dev = .scan) Cause.RX_BIAS_DEV

/-- Row VSPAD_OVERVOLTAGE: the comparator on VSPAD, independent of the monitor's conversion, changes its output (R229). Above 33.0 V LX_SPAD does not switch; below, it
follows loop 1 again. -/
def execVspadOvervoltage (s : State) (above : Bool := true) : Out :=
  let lx := if above then 0 else if (s.f Fld.CTL_STAT_RUN).testBit 1 then s.f (Fld.CTL_LOUT_OUT 1) else s.ctl.lx
  .next (s.withCtl { s.ctl with lxStop := above, lx := lx })

/-! ## Mirror excitation and power monitor (R245, R246) -/

/-- The excitation runs (R245). -/
def State.mexcOn (s : State) : Bool := s.b Fld.AFE_MEXC_EN && (s.dev = .idle || s.dev = .scan || s.dev = .safe)

/-- The excitation voltage in mV: AFE_MEXC.LEVEL × 10 mV within 0.5 V and 2.5 V (R245, Table 12.9). -/
def State.mexcMv (s : State) : Nat := 10 * min 250 (max 50 (s.f Fld.AFE_MEXC_LEVEL))

/-- The check of the excitation current, in 10 µA, with the current-limit report (R245); a BROKEN excitation makes the angle invalid (R109). -/
def State.mexcCheck (s : State) (i : Nat) (limit : Bool) : State :=
  let bad := s.mexcOn && (limit || decide (i < s.f Fld.AFE_MEXC_IMIN))
  let s := s.withCtl { s.ctl with mexcBroken := bad }
  let s := s.raiseIf bad Cause.AFE_MEXC_BROKEN
  if bad && s.b Fld.SCAN_ANGLE_VALID then
    let s := s.setB Fld.SCAN_ANGLE_VALID false
    let s := if s.dev = .scan then s.withScan { s.scan with stallInh := true, strokeFail := true } else s
    s.followInhibit
  else s

/-- The power monitor's pair of a tick: VIN in 10 mV and the sense pin in mV (R246). -/
def State.powerMon (s : State) (vin pin : Nat) : State :=
  if s.b Fld.AFE_PMON_EN then
    let iin := (pin - s.f Fld.AFE_PMON_OFFSET) * s.f Fld.AFE_PGAIN_GAIN
    let p := min (2 ^ 32 - 1) (vin * iin / 10000)
    let s := (s.setF Fld.AFE_PVI_VIN (min 0xFFFF vin)).setF Fld.AFE_PVI_IIN (min 0xFFFF (iin / 100))
    let pw := p :: s.ctl.pw.take 199
    let s := s.withCtl { s.ctl with pw := pw }
    (s.setF Fld.AFE_PWR_P p).setF Fld.AFE_PWR1_P (pw.foldl (· + ·) 0 / pw.length)
  else
    let s := s.withCtl { s.ctl with pw := [] }
    (s.setF Fld.AFE_PWR_P 0).setF Fld.AFE_PWR1_P 0

/-! ## The tick (R223) -/

/-- Row CTL_TICK: the 5 µs tick, which asks ADC0 for a mirror sample (R234), with the VSPAD monitor (mV), the excitation current (10 µA) and its limit report, VIN (10 mV) and the power-sense pin (mV). -/
def execCtlTick (vspad mexc : Nat) (limit : Bool) (vin pin : Nat) (s : State) : Out :=
  if s.dev = .park then .next s else
  let s := s.withCtl { s.ctl with vspad := vspad }
  let s := ((s.adcMsns s.msnsCount).adcTick).powerMon vin pin
  let s := s.mexcCheck mexc limit
  let s := s.biasSet.biasOk.vspadFollow
  let s := (List.range 8).foldl (fun s n => s.loopTick n) s
  .next ((List.range 8).foldl (fun s n =>
    let s := s.groupRun n
    if s.ctl.grp.testBit n then (s.setF (Fld.CTL_CSP_SP n 3) (s.inputTarget n)).groupEval n else s) s)

/-- Row CTL_COMMIT: a write of 1 to CTL_CTRL.COMMIT (R230). -/
def execCtlCommit (s : State) : Out := .next s.ctlApply

end Sys2Proof.Machine
end

