-- ==== Sys2Proof/Machine/Curves.lean ====
section
/-!
DEFINITION. The sensor curves of Table 12.4 as integer arithmetic. A curve given by its reference function is inverted by search, to the nearest 1/16 °C, a half rounded up
(DESIGN CHOICE, log 65). The coefficients of IEC 60751 and IEC 60584, which the manual cites and does not print, are those standards' (PRESUMED, log 12).
-/
namespace Sys2Proof.Machine

/-- Clamping to a curve's range; the flag says that it was needed. -/
def clampTo (lo hi v : Int) : Int × Bool := (min hi (max lo v), decide (v < lo) || decide (hi < v))

/-- The argument in 1/16 °C at which the rising function `f` of 1/32 °C meets `target`, within `lo` to `hi` in 1/32 °C, and whether it was clamped. -/
def invertCurve (f : Int → Int) (target lo hi : Int) : Int × Bool :=
  if target < f lo then (lo / 2, true) else if f hi < target then (hi / 2, true) else
  let u := (List.range 16).foldl (fun (u : Int) i =>
    let c := u + 2 ^ (15 - i)
    if c ≤ hi && decide (f c ≤ target) then c else u) lo
  ((u + 1) / 2, false)

/-! ## Thermistors (curve 3) -/

/-- ln of num ÷ den × 2^48, for positive arguments: the exponent of 2 taken out, then 2·atanh by its series. -/
def lnFix (num den : Nat) : Int :=
  let k : Int := (num.log2 : Int) - den.log2
  let (a, b) := if 0 ≤ k then (num, den * 2 ^ k.toNat) else (num * 2 ^ (-k).toNat, den)
  let z : Int := ((a : Int) - b) * 2 ^ 48 / ((a : Int) + b)
  let z2 := z * z / 2 ^ 48
  let r := (List.range 40).foldl (fun (st : Int × Int) (i : Nat) => (st.1 + st.2 / (2 * (i : Int) + 1), st.2 * z2 / 2 ^ 48)) ((0 : Int), z)
  k * 195103586505167 + 2 * r.1

/-- The denominator of the β model, β + 298.15 ln(R ÷ R0), × 2^48 × 100: it gives no temperature where it is not positive. -/
def ntcDen (r r0 beta : Nat) : Int := (beta : Int) * 2 ^ 48 * 100 + 29815 * lnFix r (r0 * 1000)

/-- The β model: 1/16 °C of a resistance of `r` mΩ; T = 298.15 β ÷ (β + 298.15 ln(R ÷ R0)) K, and 273.15 K are 4370.4 sixteenths. -/
def ntcBeta (r r0 beta : Nat) : Int :=
  let den := ntcDen r r0 beta
  let num : Int := 16 * 29815 * (beta : Int) * 2 ^ 48
  (2 * (10 * num - 43704 * den) + 10 * den) / (20 * den)

/-! ## Platinum (curves 1 and 2) -/

/-- R(T) ÷ R0 × 2^20 × 10^18 of Callendar–Van Dusen at T = u ÷ 32 °C. -/
def cvdRatio (u : Int) : Int :=
  let base := 2 ^ 20 * 10 ^ 18 + 3908300000000000 * u * 2 ^ 15 - 577500000000 * u * u * 2 ^ 10
  if 0 ≤ u then base else base - 4183000 * (u - 3200) * u * u * u

/-- The temperature of a platinum sensor of `r0` Ω that has `r` mΩ. -/
def platinum (r r0 : Int) : Int × Bool := invertCurve (fun u => cvdRatio u * (r0 * 1000)) (r * (2 ^ 20 * 10 ^ 18)) (-6400) 27200

/-! ## Thermocouples (curves 5 and 6) -/

/-- A coefficient of a reference function: digits × 10^−`e` mV per °C to its power. -/
structure Coef where
  digits : Int
  e : Nat
  deriving DecidableEq, Repr

/-- Type K below 0 °C, powers 1 to 10. -/
def typeKLow : List Coef :=
  [⟨39450128025, 12⟩, ⟨23622373598, 15⟩, ⟨-32858906784, 17⟩, ⟨-49904828777, 19⟩, ⟨-67509059173, 21⟩, ⟨-57410327428, 23⟩, ⟨-31088872894, 25⟩,
   ⟨-10451609365, 27⟩, ⟨-19889266878, 30⟩, ⟨-16322697486, 33⟩]

/-- Type K above 0 °C, powers 1 to 9; its constant term and exponential are in `typeKBump`. -/
def typeKHigh : List Coef :=
  [⟨38921204975, 12⟩, ⟨18558770032, 15⟩, ⟨-99457592874, 18⟩, ⟨31840945719, 20⟩, ⟨-56072844889, 23⟩, ⟨56075059059, 26⟩, ⟨-32020720003, 29⟩,
   ⟨97151147152, 33⟩, ⟨-12104721275, 36⟩]

/-- Type T below 0 °C, powers 1 to 14. -/
def typeTLow : List Coef :=
  [⟨38748106364, 12⟩, ⟨44194434347, 15⟩, ⟨11844323105, 17⟩, ⟨20032973554, 18⟩, ⟨90138019559, 20⟩, ⟨22651156593, 21⟩, ⟨36071154205, 23⟩,
   ⟨38493939883, 25⟩, ⟨28213521925, 27⟩, ⟨14251594779, 29⟩, ⟨48768662286, 32⟩, ⟨10795539270, 34⟩, ⟨13945027062, 37⟩, ⟨79795153927, 41⟩]

/-- Type T above 0 °C, powers 1 to 8. -/
def typeTHigh : List Coef :=
  [⟨38748106364, 12⟩, ⟨33292227880, 15⟩, ⟨20618243404, 17⟩, ⟨-21882256846, 19⟩, ⟨10996880928, 21⟩, ⟨-30815758772, 24⟩, ⟨45479135290, 27⟩,
   ⟨-27512901673, 30⟩]

/-- The polynomial at u ÷ 32 °C in 10^−9 nV. -/
def polyEmf (cs : List Coef) (u : Int) : Int :=
  let n := cs.length
  let num := ((List.range n).zip cs).foldl (fun (a : Int) p => a + p.2.digits * 10 ^ (60 - p.2.e) * u ^ (p.1 + 1) * 32 ^ (n - (p.1 + 1))) 0
  num / (10 ^ 45 * 32 ^ n)

/-- e^−x × 2^128 of x × 2^128: the series at x ÷ 256, then eight squarings. -/
def expNeg (x : Nat) : Nat :=
  let y : Int := x / 256
  let r := (List.range 40).foldl (fun (st : Int × Int) (k : Nat) => (st.1 + st.2, -(st.2 * y / 2 ^ 128) / (k + 1 : Nat))) ((0 : Int), (2 ^ 128 : Int))
  (List.range 8).foldl (fun v _ => v * v / 2 ^ 128) r.1.toNat

/-- Type K above 0 °C beside the powers: −0.017600413686 mV + 0.1185976 mV × exp(−0.1183432·10^−3 (t − 126.9686)²), in 10^−9 nV. -/
def typeKBump (u : Int) : Int :=
  let d : Int := 10000 * u - 1269686 * 32
  let x := 1183432 * (d * d).toNat * 2 ^ 128 / (10 ^ 10 * (10000 * 32) ^ 2)
  (1185976 * expNeg x / 2 ^ 128 : Nat) * 10 ^ 8 - 17600413686000

/-- The reference function of IEC 60584 at u ÷ 32 °C in 10^−9 nV: type T, or type K. -/
def refEmf (isT : Bool) (u : Int) : Int :=
  if isT then polyEmf (if u < 0 then typeTLow else typeTHigh) u
  else if u < 0 then polyEmf typeKLow u else polyEmf typeKHigh u + typeKBump u

/-- The temperature of a thermocouple with `v` nV and its cold junction at `cj` sixteenths °C. -/
def thermocouple (isT : Bool) (v cj : Int) : Int × Bool :=
  invertCurve (refEmf isT) (v * 10 ^ 9 + refEmf isT (2 * cj)) (-6400) (if isT then 12800 else 43904)

/-- The reference function is defined at a cold junction of `cj` sixteenths °C: from −270 °C to the curve's end. -/
def coldOk (isT : Bool) (cj : Int) : Bool := decide (-4320 ≤ cj) && decide (cj ≤ if isT then 6400 else 21952)

end Sys2Proof.Machine
end

