-- ==== Sys2Proof/Machine/Analog.lean ====
section
/-!
DEFINITION. Converters, sensor front end and thermal management (chapter 12).
-/
namespace Sys2Proof.Machine

/-! ## ADC0 requests (R234-R236) -/

/-- GO of request `n` gives a SOFT trigger (Table 12.8). -/
def State.reqGo (s : State) (n : Nat) : State :=
  if s.b (Fld.ADC0_REQ_EN n) && s.f (Fld.ADC0_REQ_TRIG n) = 0 then s.adcDue n s.now else s

/-- Row ADC0_REQ_GO: GO of request `n` is written 1. -/
def execAdc0ReqGo (n : Nat) (s : State) : Out := .next (if n < 4 then s.reqGo n else s)

/-- Request `n` triggers at `t`: PER × 4 ns or more after its last TIMER trigger, or as GO, a shot or a tick has given it (Table 12.2). -/
def State.reqTriggers (s : State) (n t : Nat) : Bool :=
  s.b (Fld.ADC0_REQ_EN n) && if s.f (Fld.ADC0_REQ_TRIG n) = 1 then
      (match SMap.get (fun _ => (none : Option Nat)) s.adc.timer n with
        | some p => decide (p + 4 * max 1 (s.f (Fld.ADC0_REQT_PER n)) ≤ t)
        | none => true)
    else s.adc.due.contains (n, t)

/-- The trigger of request `n` at `t` is used up. -/
def State.reqUsed (s : State) (n t : Nat) : State :=
  if s.f (Fld.ADC0_REQ_TRIG n) = 1 then s.withAdc { s.adc with timer := SMap.set (fun _ => none) s.adc.timer n (some t) }
  else s.withAdc { s.adc with due := s.adc.due.erase (n, t) }

/-- The burst that request `n` asks for at `t`. -/
def State.reqJob (s : State) (n t : Nat) : AdcJob :=
  { who := 2 + n, src := s.f (Fld.ADC0_REQ_SRC n), trig := slotAt t, len := s.f (Fld.ADC0_REQ_LEN n) + 1, live := true }

/-- The first slot that a burst `j` entering the schedule now would get (R235). -/
def State.adcFirst (s : State) (j : AdcJob) : Option Nat := (adcSlots (s.adcRecent ++ [j]) s.adcRecent.length).head?

/-- Row ADC0_REQ_TRIGGER: request `n` triggers at `t` (R234). Its burst takes the first free slots from there on; where the first of them is more than 1 µs away it is not
taken (R235). -/
def execAdc0ReqTrigger (n t : Nat) (s : State) : Out :=
  if n < 4 && s.reqTriggers n t then
    let s := s.reqUsed n t
    match s.adcFirst (s.reqJob n t) with
    | some k =>
      if 4 * k ≤ t + 1000 then
        let s := (s.adcAdd (s.reqJob n t)).rset (Reg.ADC0_REQS n) 0x40000000
        .next (s.withAdc { s.adc with start := SMap.set (fun _ => none) s.adc.start n (some k) }).adcStamp
      else .next (s.raise (Cause.ADC0_REQ_MISS n))
    | none => .next (s.raise (Cause.ADC0_REQ_MISS n))
  else .next s

/-- The samples of a burst stored in ADC0_RBUFn from entry 0 (R236). -/
def State.storeBurst (s : State) (n : Nat) : Nat → List (BitVec 16) → State
  | _, [] => s
  | i, w :: l => State.storeBurst (s.setF (if i % 2 = 0 then Fld.ADC0_RBUF_S0 n (i / 2) else Fld.ADC0_RBUF_S1 n (i / 2)) w.toNat) n (i + 1) l

/-- The result words of conversions of source `k` begun in the slots `slots`; a sample that does not follow its predecessor's slot carries GAPB (R235, R236). -/
def State.burstWords (s : State) (k : Nat) (slots : List Nat) (convs : List Conv) : List (BitVec 16) :=
  ((slots.zip (slots.take 1 ++ slots.map (· + 1))).zip convs).map (fun p => s.resultWord k (4 * p.1.1) p.2 (p.1.1 != p.1.2))

/-- Row ADC0_BURST_DONE: the oldest burst of request `n` ends with its conversions, one for each of its slots (R236). -/
def execAdc0BurstDone (n : Nat) (convs : List Conv) (s : State) : Out :=
  match s.adcLive (2 + n) with
  | none => .next s
  | some i =>
    let slots := adcSlots s.adc.jobs i
    let src := ((s.adc.jobs[i]?).map (·.src)).getD 0
    if 4 ≤ n || convs.length < slots.length then .next s else
    let ws := s.burstWords src slots convs
    let s := (s.storeBurst n 0 ws).adcDone i
    let s := match ws.getLast? with
      | some w => s.withAdcLast (SMap.set (fun _ => 0) s.adcLast src (w.toNat % 4096))
      | none => s
    .next (s.rset (Reg.ADC0_REQS n) (BitVec.ofNat 32 (2 ^ 31 + (s.adcLive (2 + n)).isSome.toNat * 2 ^ 30 + ws.length)))

/-! ## Background, FIR and threshold events (R235, R238, R239) -/

/-- The source that the next background result comes from: for 11 results after a write of CH the old one (Table 12.3). -/
def State.bgSource (s : State) : Nat := if s.adc.chInv = 0 then s.f Fld.ADC0_BG_CH else s.adc.chOld

/-- The result of the background stream's slot at `t` ns: a repeat of the previous one, tagged HELD, where another requester used the slot (R235, R236). -/
def State.bgWord (s : State) (t : Nat) (c : Conv) : BitVec 16 :=
  let inv : BitVec 16 := if s.adc.chInv != 0 || !s.b Fld.ADC0_STAT_REFRDY then 0x1000 else 0
  (if s.adcUsed (t / 4) then (s.adc.last &&& 0x1FFF) ||| 0x2000 else s.resultWord s.bgSource t c false) ||| inv

/-- A background result enters (R235, R236); the filter's input is CODE − 2048 for a differential source, CODE for another (R238). -/
def State.background (s : State) (t : Nat) (c : Conv) : State :=
  let k := s.bgSource
  let w := s.bgWord t c
  let code := w.toNat % 4096
  let x : Int := if adcDiff k then (code : Int) - 2048 else code
  let s := (s.withAdc { s.adc with last := w, chInv := s.adc.chInv - 1, refill := s.adc.refill - 1,
                                        inputs := (x, w.getLsbD 12) :: s.adc.inputs.take 255 }).withAdcLast (SMap.set (fun _ => 0) s.adcLast k code)
  s.setF Fld.ADC0_BGRES_RES w.toNat

/-- The staged FIR settings. -/
def State.firStaged (s : State) : FirSet :=
  { n := s.f Fld.ADC0_FIR_NTAP + 1, d := s.f Fld.ADC0_FIR_DEC + 1,
    coef := (List.range 256).foldl (fun m i => SMap.set (fun _ => 0) m i (BitVec.ofNat 16 (s.f (Fld.ADC0_FIRCOEF_C i)))) [] }

/-- COMMIT of ADC0_FIR: the staged settings wait for the next output boundary (R238); with other taps, outputs are INV until 11 + N inputs have passed (R237). -/
def State.firCommit (s : State) : State :=
  let f := s.firStaged
  let was := s.adc.pend.getD s.adc.fir
  s.withAdc { s.adc with pend := some f, refill := if f.n = was.n && f.coef = was.coef then s.adc.refill else 11 + f.n }

/-- A write of `v` to ADC0_FIR has been stored: COMMIT acts, and a filter switched off begins anew with its arming (R238, R239). -/
def State.adcFirWritten (s : State) (v : Word) : State :=
  let s := if v.msb then s.firCommit else s
  if s.b Fld.ADC0_FIR_EN then s else s.withAdc { s.adc with cmp := 0, dec := 0 }

/-- Row ADC0_FIR_COMMIT: COMMIT of ADC0_FIR is written 1. -/
def execAdc0FirCommit (s : State) : Out := .next s.firCommit

/-- A threshold event of the output whose newest input was converted from `t` ns on enters the queue, with its time less the filter's delay (R239). -/
def State.adcEvent (s : State) (t : Nat) (rise : Bool) : State :=
  let t := ((s.ctrAt t >>> 24).toNat + 2 ^ 40 - (s.adc.fir.n - 1) * 512) % 2 ^ 40
  let seq := s.adc.seq
  let s := s.withAdc { s.adc with seq := (seq + 1) % 4096 }
  if s.adc.queue.length < 64 then
    let hi := BitVec.ofNat 32 (t % 256 * 2 ^ 24 + rise.toNat * 2 ^ 15 + (s.b Fld.TIME_CTRL_VALID).toNat * 2 ^ 14 + s.adc.lost.toNat * 2 ^ 13 + seq)
    s.withAdc { s.adc with queue := s.adc.queue ++ [(BitVec.ofNat 32 (t / 256), hi)], lost := false }
  else (s.withAdc { s.adc with lost := true }).raise Cause.ADC0_EV_LOST

/-- The comparator on a valid output (R239). -/
def State.adcCompare (s : State) (t : Nat) (y : Int) : State :=
  let hi := s.fs Fld.ADC0_FIRTHR_HI
  let lo := s.fs Fld.ADC0_FIRTHR_LO
  match s.adc.cmp with
  | 0 => if y ≤ lo then s.withAdc { s.adc with cmp := 1 } else s
  | 1 => if hi ≤ y then (s.withAdc { s.adc with cmp := 2 }).adcEvent t true else s
  | _ => if y ≤ lo then (s.withAdc { s.adc with cmp := 1 }).adcEvent t false else s

/-- The filter's output over the inputs that it holds: sat16 of the sum shifted right by 15 (R238). -/
def State.firSum (s : State) : Int :=
  let sum := ((s.adc.inputs.take s.adc.fir.n).zip (List.range s.adc.fir.n)).foldl
    (fun a p => a + (SMap.get (fun _ => (0 : BitVec 16)) s.adc.fir.coef p.2).toInt * p.1.1) (0 : Int)
  min 32767 (max (-32768) (sum / 32768))

/-- The output is INV: an input of its window is, or the filter is not filled (R237, R238). -/
def State.firInv (s : State) : Bool :=
  s.adc.refill != 0 || decide (s.adc.inputs.length < s.adc.fir.n) || (s.adc.inputs.take s.adc.fir.n).any (fun p => p.2)

/-- The filter gives an output on the input converted from `t` ns on, with the settings that COMMIT has given (R238, R239). -/
def State.firOut (s : State) (t : Nat) : State :=
  let s := s.withAdc { s.adc with fir := s.adc.pend.getD s.adc.fir, pend := none }
  let y := s.firSum
  let inv := s.firInv
  let s := ((s.withAdc { s.adc with dec := s.adc.fir.d - 1 }).setFs Fld.ADC0_FIRY_Y y).setB Fld.ADC0_FIRY_INV inv
  if inv then s else s.adcCompare t y

/-- What the filter does on a background input: with D inputs since the last output it gives the next (R238). -/
def State.firStep (s : State) (t : Nat) : State :=
  if !s.b Fld.ADC0_FIR_EN then s
  else if s.adc.dec = 0 then s.firOut t else s.withAdc { s.adc with dec := s.adc.dec - 1 }

/-- Row FIR_OUTPUT: the background conversions of successive slots from `t` ns on, and the outputs they yield (R235, R238). -/
def execFirOutput (t : Nat) (s : State) (convs : List Conv := []) : Out :=
  if !s.b Fld.ADC0_BG_EN then .next s else
  .next (((List.range convs.length).zip convs).foldl (fun s p => (s.background (t + 4 * p.1) p.2).firStep (t + 4 * p.1)) s)

/-- Row ADC0_EVHI_READ: the read removes the oldest event (R239). -/
def execAdc0EvhiRead (s : State) : Out := .next (s.withAdc { s.adc with queue := s.adc.queue.drop 1 })

/-! ## AFE conversions (R240-R244) -/

/-- The voltage of AX pin `p`: a bias pin carries VBIAS, 0.90 V (R240). -/
def State.axPin (s : State) (x : AfeRaw) (p : Nat) : Int := if (s.f Fld.AFE_BIAS_PINS).testBit p then 900000000 else x.ax.getD p 0

/-- V_P − V_N of definition `m` in nV: N is a pin, VBIAS (9), or AGND; a P above 7 is no pin, and its voltage a free value (Table 12.9, log 99). -/
def State.afeVolt (s : State) (m : Nat) (x : AfeRaw) : Int :=
  let p := s.f (Fld.AFE_DEFA_P m)
  let n := s.f (Fld.AFE_DEFA_N m)
  (if p < 8 then s.axPin x p else Config.afeNoPin s.freeCtr) - (if n < 8 then s.axPin x n else if n = 9 then 900000000 else 0)

/-- The excitation current of definition `m` in nA: ELEV × 10 µA within 1 to 100, trimmed (R240, R241); 0 where EXCT is no current or EXC names no pin. -/
def State.afeCurrent (s : State) (m : Nat) (x : AfeRaw) : Int :=
  if s.f (Fld.AFE_DEFB_EXCT m) = 1 && s.f (Fld.AFE_DEFA_EXC m) < 8 then 10000 * (min 100 (max 1 (s.f (Fld.AFE_DEFB_ELEV m))) : Nat) + x.trim else 0

/-- The excitation voltage of definition `m` in nV: ELEV × 10 mV within 50 to 250 (R240); 0 where EXCT is no voltage or EXC names no pin. -/
def State.afeExcite (s : State) (m : Nat) : Int :=
  if s.f (Fld.AFE_DEFB_EXCT m) = 2 && s.f (Fld.AFE_DEFA_EXC m) < 8 then 10000000 * (min 250 (max 50 (s.f (Fld.AFE_DEFB_ELEV m))) : Nat) else 0

/-- Linear interpolation in R over the 32 points of AFE_NTCTAB (curve 4): the value and whether R lay outside the table. -/
def State.ntcTable (s : State) (r : Int) : Int × Bool :=
  let rr (i : Nat) : Int := s.f (Fld.AFE_NTCTAB_R i) * 4000
  let tt (i : Nat) : Int := s.fs (Fld.AFE_NTCTAB_T i)
  if rr 0 ≤ r then (tt 0, decide (rr 0 < r))
  else if r ≤ rr 31 then (tt 31, decide (r < rr 31))
  else match (List.range 31).find? (fun i => decide (rr (i + 1) ≤ r) && decide (r < rr i)) with
    | some i => (tt i + (tt (i + 1) - tt i) * (rr i - r) / (rr i - rr (i + 1)), false)
    | none => (tt 31, true)

/-- The cold junction of definition `m` in 1/16 °C (curve 5). -/
def State.coldJunction (s : State) (m : Nat) : Int :=
  let cj := s.f (Fld.AFE_DEFA_CJ m)
  if cj = 15 then (List.range 4).foldl (fun a i => a + s.fs (Fld.THERM_T_T (64 + i))) (0 : Int) / 4 else s.fs (Fld.AFE_RES_VALUE cj)

/-- The resistance of definition `m` in mΩ after its lead treatment, none where no current flows, and the AFE_RLm value (R241). The lead is measured with the excitation at
the return pin: without one, RET above 7, neither is known. -/
def State.afeRes (s : State) (m : Nat) (x : AfeRaw) : Option Int × Option Nat :=
  let i := s.afeCurrent m x
  if i = 0 then (none, none) else
  let r := s.afeVolt m x * 1000 / i
  let l := x.lead * 1000 / i
  let ret := decide (s.f (Fld.AFE_DEFA_RET m) < 8)
  match s.f (Fld.AFE_DEFA_WIRE m) with
  | 0 => (some (r - (s.rget (Reg.AFE_RL m)).toNat), none)
  | 1 => if ret then (some (r - l), some (l / 2).toNat) else (none, none)
  | 2 => (some r, if ret then some l.toNat else none)
  | _ => (some r, none)

/-- The converted result of definition `m`, whether it was clamped, and the state after a free value was used (R242). -/
def State.afeValue (s : State) (m : Nat) (x : AfeRaw) (r : Option Int) : (Int × Bool) × State :=
  let p0 := s.f (Fld.AFE_PAR_P0 m)
  let p1 := s.f (Fld.AFE_PAR_P1 m)
  let v := s.afeVolt m x
  let exc := s.afeExcite m
  let cj := s.coldJunction m
  let free : (Int × Bool) × State := ((Config.afeUnstated s.fresh.1, false), s.fresh.2)
  match s.f (Fld.AFE_DEFA_CURVE m), r with
  | 0, _ => (((Config.adc1Code (v * 2 ^ s.f (Fld.AFE_DEFA_GAIN m))).toInt, false), s)
  | 5, _ => if coldOk false cj then (thermocouple false v cj, s) else free
  | 6, _ => if coldOk true cj then (thermocouple true v cj, s) else free
  | 7, _ => if exc = 0 then free else (clampTo (-8388608) 8388607 (v * 8388608 * p0 / (exc * 4096) + s.fs (Fld.AFE_PAR_P1 m)), s)
  | _, none => free
  | 4, some r => (s.ntcTable r, s)
  | 3, some r => if r ≤ 0 || p0 = 0 || ntcDen r.toNat p0 p1 ≤ 0 then free else (clampTo (-4370) 32767 (ntcBeta r.toNat p0 p1), s)
  | c, some r => (platinum r (if c = 1 then 100 else 1000), s)

/-- Definition `m` is named in THERM_EXT for an external sensor in use. -/
def State.afeExt (s : State) (m : Nat) : Bool :=
  (List.range 4).any (fun i => (s.f Fld.THERM_EXT_EN).testBit i && s.f Fld.THERM_EXT_DEF / 16 ^ i % 16 = m)

/-- Definition `m` is converted now: enabled, and in PARK only if THERM_EXT names it for a sensor in use (R243). -/
def State.afeRuns (s : State) (m : Nat) : Bool :=
  m < 16 && s.b (Fld.AFE_DEFA_EN m) &&
    (!(s.dev = .park) || s.afeExt m)

/-- It is definition `m`'s turn: the next that runs above the last one converted, or from 0 again (R243). -/
def State.afeTurn (s : State) (m : Nat) : Bool :=
  let l := (List.range 16).filter s.afeRuns
  ((l.find? (fun k => decide (s.afePos ≤ k))) <|> l.head?) = some m

/-- How long the conversion of definition `m` takes, in ns: 2 ms ÷ 2^RATE, with RATE 5 to 7 as 4 and in PARK as 0; twice that for three and four wires (R243). -/
def State.afeTime (s : State) (m : Nat) : Nat :=
  let w := s.f (Fld.AFE_DEFA_WIRE m)
  2000000 / 2 ^ (if s.dev = .park then 0 else min 4 (s.f (Fld.AFE_DEFA_RATE m))) * (if w = 1 || w = 2 then 2 else 1)

/-- The excitation pin of definition `m` is a bias pin or the power-monitor pin (R240). -/
def State.afeConflict (s : State) (m : Nat) : Bool :=
  let e := s.f (Fld.AFE_DEFA_EXC m)
  e < 8 && ((s.f Fld.AFE_BIAS_PINS).testBit e || (s.b Fld.AFE_PMON_EN && s.f Fld.AFE_PMON_PIN = e))

/-- The register at `a` is an AFE_RLm that is read-only: WIRE of its definition is not 0 (Table 12.9). -/
def State.afeRlRo (s : State) (a : Nat) : Bool :=
  decide (Reg.AFE_RL 0 ≤ a) && decide (a ≤ Reg.AFE_RL 15) && s.f (Fld.AFE_DEFA_WIRE ((a - Reg.AFE_RL 0) / 4)) != 0

/-! ## Charging lock (R252) -/

/-- THERM_CHG.OK follows the board sensors (R252); charging of a string that loses it stops at once. -/
def State.chgUpdate (s : State) : State :=
  let out (n : Nat) : Bool := match s.boardTemp n with
    | none => s.therm.chgOut.testBit n
    | some t => if s.therm.chgOut.testBit n then !(decide (-608 ≤ t) && decide (t ≤ 1488)) else !(decide (-640 ≤ t) && decide (t ≤ 1520))
  let o := (List.range 8).foldl (fun a n => a + if out n then 2 ^ n else 0) 0
  let ok := (List.range 8).foldl (fun a n => a + if (s.boardTemp n).isSome && !out n then 2 ^ n else 0) 0
  let s := s.withTherm { s.therm with chgOut := o }
  let s := s.setF Fld.THERM_CHG_OK ok
  let stop := match s.emit.charging with | some n => !ok.testBit n | none => false
  if stop then s.withEmit { s.emit with charging := none } else s

/-- Everything that follows the board sensors: charging lock and junction estimates (R118, R252). -/
def State.boardUpdate (s : State) : State := (List.range 8).foldl (fun s n => s.updateTj n) s.chgUpdate

/-- The lead resistance measured with definition `m`, if any (R241). -/
def State.afeLead (s : State) (m : Nat) (rl : Option Nat) : State :=
  match rl with
  | some v => s.setF (Fld.AFE_RL_RL m) (min (2 ^ 32 - 1) v)
  | none => s

/-- The converted value of definition `m`, limited to the field (R244). -/
def State.afeStore (s : State) (m : Nat) (v : Int) (cl : Bool) : State :=
  let c := clampTo (-8388608) 8388607 v
  let s := ((s.setFs (Fld.AFE_RES_VALUE m) c.1).setB (Fld.AFE_RES_VALID m) true).setB (Fld.AFE_RES_BROKEN m) false
  s.raiseIf (cl || c.2) Cause.AFE_RANGE

/-- Row AFE_CONVERSION_DONE: definition `m`, whose turn it is, has been converted in its time (R240-R244). -/
def execAfeConversionDone (m : Nat) (x : AfeRaw) (s : State) : Out :=
  if !s.afeTurn m || x.dur != s.afeTime m then .next s else
  let s := s.withAfePos (m + 1)
  if s.afeConflict m then .next ((s.setB (Fld.AFE_RES_VALID m) false).raise Cause.AFE_CONFLICT).boardUpdate
  else if x.comp || x.open_ then
    let s := (s.setB (Fld.AFE_RES_BROKEN m) true).raise Cause.AFE_BROKEN
    .next (s.raiseIf (s.afeExt m) Cause.THERM_BROKEN).boardUpdate
  else
    let r := s.afeRes m x
    let s := s.afeLead m r.2
    let q := s.afeValue m x r.1
    .next (q.2.afeStore m q.1.1 q.1.2).boardUpdate

/-! ## The thermal scan (R247-R252) -/

/-- The neighbours of on-die sensor `k` (R249). -/
def neighbours (k : Nat) : List Nat :=
  let (lo, hi) := if k < 64 then (0, 63) else (64, 67)
  (if lo < k then [k - 1] else []) ++ (if k < hi then [k + 1] else [])

/-- Two readings differ by more than 8 K. -/
def far (a b : Int) : Bool := decide (128 < a - b) || decide (128 < b - a)

/-- The condition of R249 on raw readings. -/
def suspectCond (raw : Nat → Int) (k : Nat) : Bool :=
  (neighbours k).all (fun j => far (raw k) (raw j))
    && (neighbours k).any (fun j => (neighbours j).any (fun i => i != k && !far (raw j) (raw i)))

/-- The substituted value of a SUSPECT sensor (R249). -/
def substitute (raw : Nat → Int) (susp : Nat → Bool) (k : Nat) : Int :=
  let good := (neighbours k).filter (fun j => !susp j)
  match good with
  | [a] => raw a
  | [a, b] => (raw a + raw b + 1) / 2
  | _ =>
    let (lo, n) := if k < 64 then (0, 64) else (64, 4)
    let cand := ((List.range n).map (· + lo)).filter (fun j => !susp j)
    let dist (j : Nat) : Nat := if j < k then k - j else j - k
    match cand with
    | [] => raw k
    | c :: cs => raw (cs.foldl (fun b j => if dist j < dist b then j else b) c)

/-- The group of a sensor (Table 12.5). -/
def thermGroup (i : Nat) : Nat := if i < 64 then 0 else if i < 68 then 1 else 2

/-- A sensor whose value in use is judged: every on-die one, an external one in use and not BROKEN (R248). -/
def State.sensorValid (s : State) (i : Nat) : Bool :=
  if i < 68 then true else
    let m := s.f Fld.THERM_EXT_DEF / 16 ^ (i - 68) % 16
    (s.f Fld.THERM_EXT_EN).testBit (i - 68) && !s.b (Fld.AFE_RES_BROKEN m)

/-- Marking and clearing SUSPECT for sensor `k` (R249). -/
def State.markSuspect (s : State) (raw : Nat → Int) (k : Nat) : State :=
  let F := Fld.THERM_SUSP_S (k / 32)
  let is := (s.f F).testBit (k % 32)
  let cond := suspectCond raw k
  if cond then
    let s := s.withTherm { s.therm with clear := SMap.set (fun _ => 0) s.therm.clear k 0 }
    if is then s else (s.setF F (s.f F + 2 ^ (k % 32))).raise Cause.THERM_SUSPECT
  else if is then
    let n := SMap.get (fun _ => 0) s.therm.clear k + 1
    let s := s.withTherm { s.therm with clear := SMap.set (fun _ => 0) s.therm.clear k (if n < 10 then n else 0) }
    if n < 10 then s else s.setF F (s.f F - 2 ^ (k % 32))
  else s

/-- A limit with hysteresis (R251): reached at `lim`, left below `lim − HYST`. -/
def State.limited (s : State) (was : Bool) (v lim : Int) : Bool :=
  decide (lim ≤ v) || (was && decide (lim - 16 * (max 1 (s.f Fld.THERM_CFG_HYST) : Nat) ≤ v))

/-- SHUTDOWN of sensor `i` judged on its value in use (R251). -/
def State.judgeShutdown (s : State) (i : Nat) : State :=
  if !s.sensorValid i then s else
  let v := s.fs (Fld.THERM_T_T i)
  let was := s.therm.sd.getLsbD i
  let now := s.limited was v (s.fs (Fld.THERM_LIM_B_SHUTDOWN (thermGroup i)))
  if now = was then s else
  let s := s.withTherm { s.therm with sd := s.therm.sd ^^^ (1#72 <<< i) }
  let val := BitVec.ofNat 32 (s.f (Fld.THERM_T_T i))
  if now then ((s.incSat Fld.THERM_CNT_SD 1).raise Cause.THERM_SHUTDOWN).logEvent 0x0020 (BitVec.ofNat 32 i) val
  else s.logEvent 0x0021 (BitVec.ofNat 32 i) val

/-- WARN and DERATE of a group (Table 12.5). -/
def State.judgeGroup (s : State) (g : Nat) : State :=
  let vals := ((List.range 72).filter (fun i => thermGroup i = g && s.sensorValid i)).map (fun i => s.fs (Fld.THERM_T_T i))
  let w := vals.any (fun v => s.limited (s.therm.warn.testBit g) v (s.fs (Fld.THERM_LIM_A_WARN g)))
  let d := vals.any (fun v => s.limited (s.therm.der.testBit g) v (s.fs (Fld.THERM_LIM_A_DERATE g)))
  let s1 := s.raiseIf (w && !s.therm.warn.testBit g) Cause.THERM_WARN
  let s1 := s1.raiseIf (d && !s.therm.der.testBit g) Cause.THERM_DERATE
  let put (m : Nat) (p : Bool) : Nat := m - (if m.testBit g then 2 ^ g else 0) + (if p then 2 ^ g else 0)
  s1.withTherm { s1.therm with warn := put s1.therm.warn w, der := put s1.therm.der d }

/-- The hottest die sensor, the lowest on a tie. -/
def State.hottest (s : State) : Nat :=
  (List.range 64).foldl (fun b i => if s.fs (Fld.THERM_T_T b) < s.fs (Fld.THERM_T_T i) then i else b) 0

/-- The summary registers of a scan: HOT, FAST, NVM_OK, SHUTDOWN bits (Table 12.10, R248, R252). -/
def State.thermStat (s : State) : State :=
  let h := s.hottest
  let floor (g : Nat) : Int := min (s.fs (Fld.THERM_LIM_A_WARN g)) (min (s.fs (Fld.THERM_LIM_A_DERATE g)) (s.fs (Fld.THERM_LIM_B_SHUTDOWN g))) - 160
  let fast := s.dev != .park && (List.range 72).any (fun i => s.sensorValid i && decide (floor (thermGroup i) ≤ s.fs (Fld.THERM_T_T i)))
  let nvm := (List.range 64).all (fun i => decide (-640 ≤ s.fs (Fld.THERM_T_T i)) && decide (s.fs (Fld.THERM_T_T i) ≤ 1680))
  let s := (s.setF Fld.THERM_STAT_HOTIDX h).setF Fld.THERM_STAT_HOT (s.f (Fld.THERM_T_T h))
  let s := (s.setB Fld.THERM_STAT_FAST fast).setB Fld.THERM_STAT_NVM_OK nvm
  let s := s.setB Fld.THERM_STAT_SPAD_SD ((s.therm.sd >>> 64).toNat % 16 != 0)
  s.setF Fld.THERM_STAT_EXT_SD (s.therm.sd >>> 68).toNat

/-- The raw on-die readings of a scan (R248). -/
def State.thermRaw (s : State) (readings : List (BitVec 16)) : State :=
  (List.range 68).foldl (fun s i => s.setF (Fld.THERM_T_RAW i) (readings.getD i 0).toNat) s

/-- The suspect marks of a scan, from its raw readings `r` (R249). -/
def State.thermMark (s : State) (r : Nat → Int) : State := (List.range 68).foldl (fun s k => s.markSuspect r k) s

/-- The temperatures used: a suspect sensor's is substituted (R249). -/
def State.thermUsed (s : State) (r : Nat → Int) (susp : Nat → Bool) : State :=
  (List.range 68).foldl (fun s i => s.setFs (Fld.THERM_T_T i) (if susp i then substitute r susp i else r i)) s

/-- External sensor `i` takes the result of its AFE definition, while ENi = 1 (R247, R250). -/
def State.thermExternal (s : State) (i : Nat) : State :=
  if !(s.f Fld.THERM_EXT_EN).testBit i then s else
  let m := s.f Fld.THERM_EXT_DEF / 16 ^ i % 16
  let v := (clampTo (-32768) 32767 (s.fs (Fld.AFE_RES_VALUE m))).1
  (s.setFs (Fld.THERM_T_RAW (68 + i)) v).setFs (Fld.THERM_T_T (68 + i)) v

/-- Every sensor and every group is judged (R250, R251). -/
def State.thermJudge (s : State) : State :=
  (List.range 3).foldl (fun s g => s.judgeGroup g) ((List.range 72).foldl (fun s i => s.judgeShutdown i) s)

/-- Row THERM_SCAN: the 68 on-die readings in 1/16 °C; external results are taken as they stand (R248-R252). -/
def execThermScan (readings : List (BitVec 16)) (s : State) : Out :=
  let s := s.thermRaw readings
  let r (i : Nat) : Int := s.fs (Fld.THERM_T_RAW i)
  let s := s.thermMark r
  let susp (i : Nat) : Bool := (s.f (Fld.THERM_SUSP_S (i / 32))).testBit (i % 32)
  let s := (List.range 4).foldl State.thermExternal (s.thermUsed r susp)
  .next s.thermJudge.thermStat.biasSet.boardUpdate.nvmKick

/-! ## Hard trips (R253) -/

/-- Row DIE_HARD_TRIP: FIRE, charging and VSPAD stop, and source THERM is raised (R253). -/
def execDieHardTrip (s : State) : Out :=
  let s := (s.setB Fld.THERM_STAT_HARD true).raise Cause.THERM_HARD
  let s := s.withEmit { s.emit with charging := none }
  .next ((s.logEvent 0x0022 0 (s.rget Reg.THERM_STAT)).raiseReset 6)

/-- Row DIE_HARD_TRIP_CLEAR: the die is below 135 °C (R253). -/
def execDieHardTripClear (s : State) : Out := .next (s.setB Fld.THERM_STAT_HARD false)

end Sys2Proof.Machine
end

