-- ==== Sys2Proof/Machine/Crypto.lean ====
section
/-!
DEFINITION. The published algorithms the manual names: SHA-256 (FIPS 180-4), ECDSA P-256 verification (FIPS 186-5), AES-128 (FIPS 197) and its CMAC
(NIST SP 800-38B). The manual refers to them by name (R68, R69, R209, R318, R333); their text is outside it (assumption log 20).
-/
namespace Sys2Proof.Machine

/-! ## SHA-256 -/

/-- A big-endian word from bytes at offset `o`. -/
def beWord (l : List Byte) (o : Nat) : Word := l.getD o 0 ++ l.getD (o + 1) 0 ++ l.getD (o + 2) 0 ++ l.getD (o + 3) 0

/-- The bytes of a word, most significant first. -/
def beBytes (w : Word) : List Byte := (wordBytes' w).reverse
where
  /-- least significant first -/
  wordBytes' (w : Word) : List Byte := [w.extractLsb' 0 8, w.extractLsb' 8 8, w.extractLsb' 16 8, w.extractLsb' 24 8]

/-- The round constants of SHA-256. -/
def shaK : List Word :=
  ([0x428A2F98, 0x71374491, 0xB5C0FBCF, 0xE9B5DBA5, 0x3956C25B, 0x59F111F1, 0x923F82A4, 0xAB1C5ED5] : List Word) ++
  ([0xD807AA98, 0x12835B01, 0x243185BE, 0x550C7DC3, 0x72BE5D74, 0x80DEB1FE, 0x9BDC06A7, 0xC19BF174] : List Word) ++
  ([0xE49B69C1, 0xEFBE4786, 0x0FC19DC6, 0x240CA1CC, 0x2DE92C6F, 0x4A7484AA, 0x5CB0A9DC, 0x76F988DA] : List Word) ++
  ([0x983E5152, 0xA831C66D, 0xB00327C8, 0xBF597FC7, 0xC6E00BF3, 0xD5A79147, 0x06CA6351, 0x14292967] : List Word) ++
  ([0x27B70A85, 0x2E1B2138, 0x4D2C6DFC, 0x53380D13, 0x650A7354, 0x766A0ABB, 0x81C2C92E, 0x92722C85] : List Word) ++
  ([0xA2BFE8A1, 0xA81A664B, 0xC24B8B70, 0xC76C51A3, 0xD192E819, 0xD6990624, 0xF40E3585, 0x106AA070] : List Word) ++
  ([0x19A4C116, 0x1E376C08, 0x2748774C, 0x34B0BCB5, 0x391C0CB3, 0x4ED8AA4A, 0x5B9CCA4F, 0x682E6FF3] : List Word) ++
  ([0x748F82EE, 0x78A5636F, 0x84C87814, 0x8CC70208, 0x90BEFFFA, 0xA4506CEB, 0xBEF9A3F7, 0xC67178F2] : List Word)

/-- The initial hash value of SHA-256. -/
def shaInit : List Word := [0x6A09E667, 0xBB67AE85, 0x3C6EF372, 0xA54FF53A, 0x510E527F, 0x9B05688C, 0x1F83D9AB, 0x5BE0CD19]

/-- Small sigma functions of the message schedule. -/
def shaS0 (x : Word) : Word := x.rotateRight 7 ^^^ x.rotateRight 18 ^^^ (x >>> 3)
/-- Second schedule function. -/
def shaS1 (x : Word) : Word := x.rotateRight 17 ^^^ x.rotateRight 19 ^^^ (x >>> 10)

/-- The schedule, newest word first: `k` more words. -/
def shaSched : Nat → List Word → List Word
  | 0, w => w
  | k + 1, w => shaSched k ((shaS1 (w.getD 1 0) + w.getD 6 0 + shaS0 (w.getD 14 0) + w.getD 15 0) :: w)

/-- One round of the compression function on a…h. -/
def shaRound (v : List Word) (kw : Word × Word) : List Word :=
  match v with
  | [a, b, c, d, e, f, g, h] =>
    let t1 := h + (e.rotateRight 6 ^^^ e.rotateRight 11 ^^^ e.rotateRight 25) + ((e &&& f) ^^^ (~~~e &&& g)) + kw.1 + kw.2
    let t2 := (a.rotateRight 2 ^^^ a.rotateRight 13 ^^^ a.rotateRight 22) + ((a &&& b) ^^^ (a &&& c) ^^^ (b &&& c))
    [t1 + t2, a, b, c, d + t1, e, f, g]
  | _ => v

/-- One 64-byte block. -/
def shaBlock (h : List Word) (b : List Byte) : List Word :=
  let w := (shaSched 48 (((List.range 16).map (fun i => beWord b (4 * i))).reverse)).reverse
  List.zipWith (· + ·) h ((shaK.zip w).foldl shaRound h)

/-- `n` blocks of 64 bytes. -/
def shaBlocks : Nat → List Word → List Byte → List Word
  | 0, h, _ => h
  | n + 1, h, l => shaBlocks n (shaBlock h (l.take 64)) (l.drop 64)

/-- A message with its padding. -/
def shaPad (l : List Byte) : List Byte :=
  let n := l.length
  l ++ 0x80 :: List.replicate ((119 - n % 64) % 64) 0 ++ beBytes (BitVec.ofNat 32 (n * 8 / 2 ^ 32)) ++ beBytes (BitVec.ofNat 32 (n * 8))

/-- SHA-256 of a byte string: 32 bytes. -/
def sha256 (l : List Byte) : List Byte :=
  let p := shaPad l
  (shaBlocks (p.length / 64) shaInit p).flatMap beBytes

/-! ## ECDSA P-256 -/

/-- The field prime, the group order and the coefficient b of P-256. -/
def p256 : Nat := 0xFFFFFFFF00000001000000000000000000000000FFFFFFFFFFFFFFFFFFFFFFFF
/-- The order of the base point. -/
def n256 : Nat := 0xFFFFFFFF00000000FFFFFFFFFFFFFFFFBCE6FAADA7179E84F3B9CAC2FC632551
/-- Coefficient b. -/
def b256 : Nat := 0x5AC635D8AA3A93E7B3EBBD55769886BC651D06B0CC53B0F63BCE3C3E27D2604B
/-- The base point. -/
def g256 : Nat × Nat := (0x6B17D1F2E12C4247F8BCE6E563A440F277037D812DEB33A0F4A13945D898C296, 0x4FE342E2FE1A7F9B8EE7EB4A7C0F9E162BCE33576B315ECECBB6406837BF51F5)

/-- a^e modulo m, over `k` bits of the exponent, lowest first. -/
def powMod (m : Nat) : Nat → Nat → Nat → Nat → Nat
  | 0, _, _, r => r
  | k + 1, a, e, r => powMod m k (a * a % m) (e / 2) (if e % 2 = 1 then r * a % m else r)

/-- The inverse of a modulo a prime. -/
def invMod (m a : Nat) : Nat := powMod m 256 (a % m) (m - 2) 1

/-- Addition on the curve; none is the point at infinity. -/
def ecAdd (a b : Option (Nat × Nat)) : Option (Nat × Nat) :=
  match a, b with
  | none, _ => b
  | _, none => a
  | some (x1, y1), some (x2, y2) =>
    let p := p256
    if x1 = x2 && (y1 + y2) % p = 0 then none else
    let l := if x1 = x2 then (3 * x1 * x1 + (p - 3)) * invMod p (2 * y1) % p else (y2 + (p - y1)) * invMod p (x2 + (p - x1)) % p
    let x := (l * l + (p - x1) + (p - x2)) % p
    some (x, (l * (x1 + (p - x)) + (p - y1)) % p)

/-- k times a point, over `n` bits of k, lowest first. -/
def ecMul : Nat → Nat → Option (Nat × Nat) → Option (Nat × Nat) → Option (Nat × Nat)
  | 0, _, _, r => r
  | n + 1, k, q, r => ecMul n (k / 2) (ecAdd q q) (if k % 2 = 1 then ecAdd r q else r)

/-- A big-endian number from bytes. -/
def beNat (l : List Byte) : Nat := l.foldl (fun a b => a * 256 + b.toNat) 0

/-- Verification of signature (r, s) over a message with a public key x, y of 32 bytes each (FIPS 186-5). -/
def ecdsaOk (msg pub sig : List Byte) : Bool :=
  let x := beNat (pub.take 32)
  let y := beNat (pub.drop 32)
  let r := beNat (sig.take 32)
  let s := beNat (sig.drop 32)
  let onCurve := decide (x < p256) && decide (y < p256) && decide (y * y % p256 = (x * x * x + (p256 - 3) * x + b256) % p256)
  if !onCurve || r = 0 || n256 ≤ r || s = 0 || n256 ≤ s then false else
  let w := invMod n256 s
  let e := beNat (sha256 msg)
  match ecAdd (ecMul 256 (e * w % n256) (some g256) none) (ecMul 256 (r * w % n256) (some (x, y)) none) with
  | none => false
  | some (px, _) => decide (px % n256 = r)

/-! ## AES-128 and CMAC -/

/-- Multiplication by x in GF(2⁸) of AES. -/
def xtime (a : Byte) : Byte := if a.msb then (a <<< 1) ^^^ 0x1B else a <<< 1

/-- Multiplication in GF(2⁸) over the bits of `b`. -/
def gfMul : Nat → Byte → Byte → Byte
  | 0, _, _ => 0
  | k + 1, a, b => (if b.getLsbD 0 then a else 0) ^^^ gfMul k (xtime a) (b >>> 1)

/-- The inverse in GF(2⁸), 0 for 0: a²⁵⁴. -/
def gfInv (a : Byte) : Byte :=
  let sq (x : Byte) := gfMul 8 x x
  let a2 := sq a
  let a4 := sq a2
  let a8 := sq a4
  let a16 := sq a8
  let a32 := sq a16
  let a64 := sq a32
  let a128 := sq a64
  gfMul 8 a2 (gfMul 8 a4 (gfMul 8 a8 (gfMul 8 a16 (gfMul 8 a32 (gfMul 8 a64 a128)))))

/-- The S-box. -/
def sbox (a : Byte) : Byte :=
  let v := gfInv a
  v ^^^ v.rotateLeft 1 ^^^ v.rotateLeft 2 ^^^ v.rotateLeft 3 ^^^ v.rotateLeft 4 ^^^ 0x63

/-- Bytewise exclusive-OR. -/
def xorBytes (a b : List Byte) : List Byte := List.zipWith (· ^^^ ·) a b

/-- The key schedule: the round keys from the present one, with `rc` the round constant. -/
def aesKeys : Nat → Byte → List Byte → List (List Byte)
  | 0, _, k => [k]
  | n + 1, rc, k =>
    let t := xorBytes ([k.getD 13 0, k.getD 14 0, k.getD 15 0, k.getD 12 0].map sbox) [rc, 0, 0, 0]
    let w0 := xorBytes (k.take 4) t
    let w1 := xorBytes ((k.drop 4).take 4) w0
    let w2 := xorBytes ((k.drop 8).take 4) w1
    let w3 := xorBytes (k.drop 12) w2
    k :: aesKeys n (xtime rc) (w0 ++ w1 ++ w2 ++ w3)

/-- ShiftRows on 16 bytes in column order. -/
def shiftRows (s : List Byte) : List Byte := (List.range 16).map (fun i => s.getD ((i + 4 * (i % 4)) % 16) 0)

/-- MixColumns on 16 bytes. -/
def mixColumns (s : List Byte) : List Byte :=
  (List.range 16).map (fun i =>
    let c := i / 4 * 4
    let at' (j : Nat) := s.getD (c + (i + j) % 4) 0
    xtime (at' 0) ^^^ (xtime (at' 1) ^^^ at' 1) ^^^ at' 2 ^^^ at' 3)

/-- The rounds after the first key addition. -/
def aesRounds : List (List Byte) → List Byte → List Byte
  | [], s => s
  | [k], s => xorBytes (shiftRows (s.map sbox)) k
  | k :: ks, s => aesRounds ks (xorBytes (mixColumns (shiftRows (s.map sbox))) k)

/-- AES-128 encryption of a 16-byte block. -/
def aesEncrypt (key block : List Byte) : List Byte :=
  match aesKeys 10 1 key with
  | [] => block
  | k :: ks => aesRounds ks (xorBytes block k)

/-- Doubling in GF(2¹²⁸) for the CMAC subkeys. -/
def cmacDouble (l : List Byte) : List Byte :=
  let v := beNat l
  let d := v * 2 % 2 ^ 128
  let d := if 2 ^ 127 ≤ v then d ^^^ 0x87 else d
  (List.range 16).map (fun i => BitVec.ofNat 8 (d / 2 ^ (8 * (15 - i))))

/-- The chained blocks before the last one. -/
def cmacChain (key : List Byte) : Nat → List Byte → List Byte → List Byte × List Byte
  | 0, c, l => (c, l)
  | n + 1, c, l => if l.length ≤ 16 then (c, l) else cmacChain key n (aesEncrypt key (xorBytes c (l.take 16))) (l.drop 16)

/-- AES-128 CMAC (NIST SP 800-38B). -/
def cmac (key msg : List Byte) : List Byte :=
  let k1 := cmacDouble (aesEncrypt key (List.replicate 16 0))
  let (c, last) := cmacChain key (msg.length / 16 + 1) (List.replicate 16 0) msg
  let block := if last.length = 16 then xorBytes last k1
    else xorBytes (last ++ 0x80 :: List.replicate (15 - last.length) 0) (cmacDouble k1)
  aesEncrypt key (xorBytes c block)

end Sys2Proof.Machine
end

