-- ==== Sys2Proof/Machine/Rx.lean ====
section
/-!
DEFINITION. The receiver (chapter 7): channels and clusters, listening windows, the ambient gate, coincidence events, and the tap-to-bin calibration.
-/
namespace Sys2Proof.Machine

/-! ## Channels and clusters -/

/-- Channel CHc. -/
def State.chan (s : State) (c : Nat) : ChanSt := SMap.get (fun _ => ({} : ChanSt)) s.chans c

/-- Replacing channel CHc. -/
def State.setChan (s : State) (c : Nat) (x : ChanSt) : State := s.withChans (SMap.set (fun _ => ({} : ChanSt)) s.chans c x)

/-- Cluster Kk. -/
def State.cluster (s : State) (k : Nat) : CluSt := SMap.get (fun _ => ({} : CluSt)) s.clus k

/-- Replacing cluster Kk. -/
def State.setCluster (s : State) (k : Nat) (x : CluSt) : State := s.withClus (SMap.set (fun _ => ({} : CluSt)) s.clus k x)

/-- Cluster domain Kk is on. -/
def State.powered (s : State) (k : Nat) : Bool := s.scan.clu.getLsbD k

/-- SPAD `i` of channel `c` is enabled in this column (R131). -/
def State.spadOn (s : State) (c i : Nat) : Bool := (s.effGet (Reg.RX_SPADEN (c / 2))).getLsbD (16 * (c % 2) + i)

/-- The number of enabled SPADs of a channel. -/
def State.spads (s : State) (c : Nat) : Nat := ((List.range 16).filter (s.spadOn c)).length

/-- RX_TDCc.VALID as it reads (R131, R142): a valid map and an enabled SPAD. -/
def State.chanValid (s : State) (c : Nat) : Bool := s.b (Fld.RX_TDC_VALID c) && s.spads c != 0

/-! ## k (R132, R133) -/

/-- A k value: 0 acts as 1, above 8 acts as 8. -/
def clampK (v : Nat) : Nat := min 8 (max 1 v)

/-- The adaptive k for a rate (R133). -/
def State.adaptiveK (s : State) (rate : Nat) : Nat :=
  let kmin := clampK (s.ef Fld.RX_COINC_KMIN)
  let kmax := clampK (s.ef Fld.RX_COINC_KMAX)
  let n := ((List.range 7).filter (fun j => decide (s.ef (Fld.RX_ATH_RATE j) ≤ rate))).length
  if kmax < kmin then kmin else min kmax (max kmin (1 + n))

/-- The k a channel uses for its windows: fixed, of its last gate, or RX_COINC.K before the first one (R133, R134). -/
def State.windowK (s : State) (c : Nat) : Nat :=
  let fixed := clampK (s.ef Fld.RX_COINC_K)
  if s.ef Fld.RX_COINC_ADAPT = 0 then fixed else ((s.chan c).amb.map (·.k)).getD fixed

/-! ## Code density (R140, R142, R143) -/

/-- The map of R140 from tap counts `h` over `n` hits into `nb` bins; `acc` is C(t). -/
def codeMap (nb n : Nat) : Nat → List Nat → List Nat
  | _, [] => []
  | acc, h :: l => min (nb - 1) ((2 * acc + h) * nb / (2 * n)) :: codeMap nb n (acc + h) l

/-- Hits of bin `b` under a map. -/
def binHits (map h : List Nat) (b : Nat) : Nat := ((map.zip h).filter (fun p => p.1 = b)).foldl (fun a p => a + p.2) 0

/-- The numerator of DNL² (R143): Σ (nb × n_b − N)² − nb² × N, over nb × N². -/
def dnlNum (nb n : Nat) (map h : List Nat) : Nat :=
  ((List.range nb).foldl (fun (a : Int) b => let d : Int := (nb * binHits map h b : Nat) - n; a + d * d) 0 - (nb * nb * n : Nat)).toNat

/-- The DNL figure in 0.1 ps, rounded down, saturating at 0xFF (R143). -/
def dnlFigure (nb n : Nat) (map h : List Nat) : Nat := min 0xFF (isqrt (390625 * dnlNum nb n map h / (16 * nb * n * n)))

/-- A new tap-to-bin map passes the checks of R142. -/
def State.mapOk (s : State) (n : Nat) (map h : List Nat) : Bool :=
  h.getD 95 0 = 0 && decide (64 ≤ (h.filter (fun x => x != 0)).length)
    && decide (390625 * dnlNum 64 n map h ≤ s.f Fld.RX_CAL_DNLMAX ^ 2 * (16 * 64 * n * n))

/-- A rejected map (R142). -/
def State.rejectMap (s : State) (c : Nat) : State :=
  ((s.setB (Fld.RX_TDC_REJ c) true).raise Cause.RX_CAL_REJ).incSat Fld.RX_CALSTAT_REJECTS 1

/-- A map becomes the active one of channel `c`, and AGE restarts. The manual does not say whether a boot run's map makes a switch-over: it restarts AGE and does not count
in MAPGEN (DESIGN CHOICE, log 88). -/
def State.activateMap (s : State) (c : Nat) (map : List Nat) (dnl : Nat) : State :=
  let s := if s.b (Fld.RX_TDC_VALID c) then s else s.setF Fld.RX_CALSTAT_BAD (s.f Fld.RX_CALSTAT_BAD - 1)
  let s := s.setChan c { s.chan c with map := map, switchMs := s.ms }
  (s.setF (Fld.RX_TDC_DNL c) dnl).setB (Fld.RX_TDC_VALID c) true

/-! ## Boot calibration (R139) -/

/-- The clusters that may be woken for calibration injection: none in SHUTDOWN (Table 12.5) or held in reset (R48). -/
def State.wakeable (s : State) : BitVec 64 :=
  (List.range 64).foldl (fun m k => if s.therm.sd.getLsbD k || s.rst.l2.contains (.cluster k) then m else m ||| (1#64 <<< k)) 0

/-- A boot run starts: every cluster domain is woken (R139). -/
def State.startBootRun (s : State) : State :=
  (((s.withScan { s.scan with clu := s.wakeable }).withMash { s.mash with bootRun := true }).setB Fld.RX_CALSTAT_BUSY true).setB
    Fld.RX_STAT_CALDONE false

/-- One channel of the boot run: its tap counts give a map, which is used at once or rejected; then the channel has no valid map (R142). -/
def State.bootMap (s : State) (c : Nat) (h : List Nat) : State :=
  let n := h.foldl (· + ·) 0
  let map := codeMap 64 n 0 h
  if s.mapOk n map h then (s.setB (Fld.RX_TDC_REJ c) false).activateMap c map (dnlFigure 64 n map h)
  else
    let s := if s.b (Fld.RX_TDC_VALID c) then s.incMod Fld.RX_CALSTAT_BAD 1 else s
    ((s.rejectMap c).setChan c { s.chan c with map := [] }).setB (Fld.RX_TDC_VALID c) false

/-- RX_CAL.RUN is written 1, which starts a boot run in IDLE (R139). -/
def State.calRun (s : State) : State := if s.dev = .idle && !s.b Fld.RX_CALSTAT_BUSY then s.startBootRun else s

/-- The boot run ends with the tap counts of the channels (R139): the maps are checked, CALDONE sets, the cluster domains switch off. -/
def State.bootRunEnd (s : State) (hits : List (Nat × List Nat)) : State :=
  let s := s.setF Fld.RX_CALSTAT_BAD (((List.range 1024).filter (fun c => !s.b (Fld.RX_TDC_VALID c))).length)
  let s := hits.foldl (fun s p => s.bootMap p.1 p.2) s
  let s := (s.withScan { s.scan with clu := 0 }).withMash { s.mash with bootRun := false }
  (s.setB Fld.RX_CALSTAT_BUSY false).setB Fld.RX_STAT_CALDONE true

/-! ## Background calibration (R141) -/

/-- The tap counts of channel `c` as a list of 96. -/
def ChanSt.tapList (x : ChanSt) : List Nat := (List.range 96).map (fun t => SMap.get (fun _ => 0) x.hits t)

/-- Row BGCAL_MAP_STAGED: channel `c` has 2^BGN background hits at time `t`; its map is computed, checked and staged, and the counts restart (R141, R142). -/
def execBgcalMapStaged (c t : Nat) (s : State) : Out :=
  let x := s.chan c
  let h := x.tapList
  let n := h.foldl (· + ·) 0
  if s.b Fld.RX_CAL_BGCAL && decide (2 ^ min 16 (max 12 (s.f Fld.RX_CAL_BGN)) ≤ n) then
    let map := codeMap 64 n 0 h
    let s := s.setChan c { x with hits := [] }
    if s.mapOk n map h then
      .next ((s.setChan c { s.chan c with staged := some (map, dnlFigure 64 n map h, t) }).setB (Fld.RX_TDC_REJ c) false)
    else .next (s.rejectMap c)
  else .next s

/-- A background hit on tap `tap`, kept until the column ends. -/
def State.bgHit (s : State) (c tap : Nat) : State :=
  if s.b Fld.RX_CAL_BGCAL then
    let x := s.chan c
    s.setChan c { x with colHits := SMap.set (fun _ => 0) x.colHits tap (SMap.get (fun _ => 0) x.colHits tap + 1) }
  else s

/-- Flyback injection begins at the end of an active stroke (R141): every fitted cluster that may be is woken for FLYT µs. -/
def State.flybackInject (s : State) (t : Nat) : State :=
  if s.dev = .scan && s.scan.mode = 0 && s.b Fld.RX_CAL_BGCAL && s.b Fld.RX_CAL_FLYCAL then
    (s.withMash { s.mash with injEnd := t + 1000 * s.f Fld.RX_CAL_FLYT }).withScan { s.scan with clu := s.wakeable }
  else s

/-! ## The ambient gate (R133, R134) -/

/-- A gate of AMB_LEN `len` in a column triggered at `trig`, before the shot planned at `t0`: opening time and length G′ (R134). -/
def gateSpan (len trig t0 : Nat) : Nat × Nat :=
  let o := max (t0 - max 1 len * 8) trig
  (o, (t0 - o) / 8 * 8)

/-- A gate of that span runs under AMB_MIN `m` (R134). -/
def gateIs (m : Nat) (q : Nat × Nat) : Bool := decide (max 1 m * 8 ≤ q.2)

/-- The gate of a woken cluster in this column: opening time and length G′. -/
def State.gateOf (s : State) (k : Nat) : Nat × Nat := gateSpan (s.ef Fld.RX_AMB_AMB_LEN) s.scan.tTrig (s.cluster k).cur.t0

/-- A gate runs on cluster `k` in this column. -/
def State.gateRuns (s : State) (k : Nat) : Bool := gateIs (s.ef Fld.RX_AMB_AMB_MIN) (s.gateOf k)

/-- RX_AMBc shows the values of a gate. -/
def State.showAmb (s : State) (c : Nat) (a : Amb) : State :=
  (((s.setF (Fld.RX_AMBC_K c) a.k).setF (Fld.RX_AMBC_RATE c) a.rate).setF (Fld.RX_AMBC_EVT c) a.evt).setB (Fld.RX_AMBC_STALE c) a.stale

/-- The values a channel has without a gate in the column (R134). -/
def State.staleAmb (s : State) (c : Nat) : Amb :=
  match (s.chan c).amb with
  | some a => { a with stale := true }
  | none => { k := clampK (s.ef Fld.RX_COINC_K), stale := true }

/-- No gate runs on cluster `k` in this column: the values of the last one stand as STALE (R134); a channel without an enabled SPAD has none (R131). -/
def State.markStale (s : State) (k : Nat) : State :=
  ((List.range 16).filter (fun j => s.spads (16 * k + j) != 0)).foldl (fun s j => s.showAmb (16 * k + j) (s.staleAmb (16 * k + j))) (s.raise Cause.RX_AMB_STALE)

/-- Row AMBIENT_GATE_OPEN: channel `c`'s gate opens (R134). -/
def execAmbientGateOpen (c : Nat) (s : State) : Out :=
  let k := c / 16
  if s.dev = .scan && (s.cluster k).cur.woken && s.powered k && s.spads c != 0 && s.gateRuns k && (s.chan c).gate.isNone then
    .next (s.setChan c { s.chan c with gate := some { opened := (s.gateOf k).1, len := (s.gateOf k).2 } })
  else .next s

/-- The midpoint of a gate: RATE of the first half, and k from it (R133, R134). -/
def State.gateMid (s : State) (g : GateSt) : GateSt :=
  let rate := min 0xFFFF (2000 * g.a / max 1 g.len)
  let k := if s.ef Fld.RX_COINC_ADAPT = 0 then clampK (s.ef Fld.RX_COINC_K) else s.adaptiveK rate
  { g with mid := some (k, rate) }

/-- Row AMBIENT_GATE_MIDPOINT: RATE is computed and k chosen (R133). -/
def execAmbientGateMidpoint (c : Nat) (s : State) : Out :=
  let x := s.chan c
  match x.gate with
  | some g => .next (if g.mid.isNone then s.setChan c { x with gate := some (s.gateMid g) } else s)
  | none => .next s

/-- Row AMBIENT_GATE_CLOSE: the gate ends and RATE, EVT, k and G′ are latched (R134). -/
def execAmbientGateClose (c : Nat) (s : State) : Out :=
  let x := s.chan c
  match x.gate with
  | none => .next s
  | some g =>
    let g := if g.mid.isNone then s.gateMid g else g
    let (k, rate) := g.mid.getD (1, 0)
    let a : Amb := { k := k, rate := rate, evt := min 0xFF g.evt, glen := g.len / 8, stale := false }
    .next ((s.setChan c { x with gate := none, amb := some a }).showAmb c a)

/-! ## Listening windows (R135, R159) -/

/-- The column a new window belongs to: the coming one while a swap is delayed (Table 8.4). -/
def State.modAcc (s : State) (k : Nat) (g : ColAcc → ColAcc) : State :=
  let x := s.cluster k
  s.setCluster k (if s.mash.swapPend then { x with nxt := g x.nxt } else { x with cur := g x.cur })

/-- A window closes at `t`, cut or not; the ZOOM_AT-th window's close starts the search (R159). -/
def State.windowGone (s : State) (k : Nat) (w : Win) (t : Nat) (cut : Bool) : State :=
  let len := t - w.tf
  let s := if cut then s.modAcc k (fun a => { a with cut := true, cutmin := if a.cutmin = 0 then len else min a.cutmin len }) else s
  s.modAcc k (fun a => if a.hmode = 3 && a.trigWin = some w.tf && a.search.isNone then { a with search := some t } else a)

/-- The windows of cluster `k` whose 4096 ns have run out at `t` close (R135). -/
def State.closeExpired (s : State) (k t : Nat) : State :=
  let x := s.cluster k
  let gone := x.wins.filter (fun w => decide (w.tf + 4096 ≤ t))
  let s := s.setCluster k { x with wins := x.wins.filter (fun w => !decide (w.tf + 4096 ≤ t)) }
  gone.reverse.foldl (fun s w => s.windowGone k w (w.tf + 4096) false) s

/-- Row WINDOW_CLOSE: at time `t` the windows of cluster `k` that are 4096 ns old close (R135). -/
def execWindowClose (k t : Nat) (s : State) : Out := .next (s.closeExpired k t)

/-- A shot fired at `t` opens a window on cluster `k` (R135): the counter restarts, the next TAG is taken, a fifth window cuts the oldest. -/
def State.openWindow (s : State) (k t wint : Nat) : State :=
  let s := s.closeExpired k t
  let x := s.cluster k
  let s := match x.wins.drop 3 with
    | w :: _ =>
      let s := s.setCluster k { x with wins := x.wins.take 3 }
      (s.windowGone k w t true).raise Cause.RX_WIN_CUT
    | [] => s
  let x := s.cluster k
  let s := s.setCluster k { x with wins := { tag := x.tag, tf := t, wint := wint } :: x.wins, tag := (x.tag + 1) % 4 }
  let nif := (s.cluster k).wins.length
  let at' := max 1 (s.ef Fld.MASH_ZOOM_ZOOM_AT)
  s.modAcc k (fun a =>
    let gap := match a.lastOpen with | none => 0xFFF | some l => min 0xFFF (t - l)
    { a with shots := a.shots + 1, nifmax := max a.nifmax nif, mingap := min a.mingap gap, lastOpen := some t, wsum := a.wsum + wint,
             trigWin := if a.shots + 1 = at' then some t else a.trigWin,
             nfine := match a.tz with | some z => if z ≤ t then a.nfine + 1 else a.nfine | none => a.nfine,
             wfine := match a.tz with | some z => if z ≤ t then a.wfine + wint else a.wfine | none => a.wfine })

/-! ## Thinning level (R163) -/

/-- The highest fill among a cluster's FIFOs. -/
def State.fill (s : State) (k : Nat) : Nat := (List.range 16).foldl (fun a j => max a (s.chan (16 * k + j)).fifo.length) 0

/-- UP and DOWN in effect (R163). -/
def State.thinUp (s : State) : Nat := max 4 (s.f Fld.MASH_THIN_UP)
def State.thinDown (s : State) : Nat := min (s.f Fld.MASH_THIN_DOWN) (s.thinUp - 1)

/-- The level of cluster `k` becomes `n` at `t`. -/
def State.setLevel (s : State) (k n t : Nat) : State :=
  let x := s.cluster k
  (s.setCluster k { x with level := n, changeT := t, aboveT := t }).setF (Fld.MASH_THINK_LEVEL k) n

/-- The rise of the thinning level at time `t`, if it is due (R163). -/
def State.thinRise (s : State) (k t : Nat) : State :=
  let x := s.cluster k
  let f := s.fill k
  let s := if s.thinDown < f then s.setCluster k { x with aboveT := max x.aboveT t } else s
  if s.thinUp ≤ f && decide (x.level < min 4 (s.f Fld.MASH_THIN_NMAX)) && decide (x.changeT + 64 ≤ t) then
    (s.raiseIf (x.level = 0) Cause.MASH_THIN).setLevel k (x.level + 1) t
  else s

/-- Row THIN_LEVEL_FALL: the fill of cluster `k` has been at or below DOWN for 1024 MCLK at `t` (R163). -/
def execThinLevelFall (k t : Nat) (s : State) : Out :=
  let s := s.thinRise k t
  let x := s.cluster k
  if 0 < x.level && decide (s.fill k ≤ s.thinDown) && decide (x.aboveT + 2048 ≤ t) then .next (s.setLevel k (x.level - 1) t)
  else .next s

/-! ## Coincidence events (R132, R136-R138) -/

/-- The Grist word of Table 7.1. -/
def gristWord (covf : Bool) (tag j coarse fine : Nat) : Word :=
  BitVec.ofNat 32 (covf.toNat * 2 ^ 24 + tag % 4 * 2 ^ 22 + j % 16 * 2 ^ 18 + coarse % 4096 * 64 + fine % 64)

/-- The histogram of channel `c` has lost events (R137, R167). -/
def State.markLoss (s : State) (c : Nat) (old : Bool) : State :=
  let x := s.chan c
  let s := s.setChan c (if old then { x with old := { x.old with loss := true } } else { x with cur := { x.cur with loss := true } })
  s.raise Cause.MASH_LOSS

/-- An event of channel `c` stamped in its open windows enters the FIFO, or is lost (R136, R137). -/
def State.enqueue (s : State) (c t fine : Nat) (w : Win) (ws : List Win) : State :=
  let k := c / 16
  let covf := decide (w.tf + 4095 < t)
  let coarse := min 4095 (t - w.tf)
  let word := gristWord covf w.tag (c % 16) coarse fine
  let admitted := (w :: ws).filterMap (fun v =>
    let tj := 64 * (t - v.tf) + fine
    if v = w || decide (tj < 262144) then some (if v = w then 64 * coarse + fine else tj, v.tf) else none)
  let x := s.chan c
  let s := s.raiseIf covf Cause.RX_COVF
  if x.fifo.length < 16 then
    (s.setChan c { x with fifo := x.fifo ++ [{ word := word, wins := admitted, bank := s.b Fld.MASH_STAT_BANK }] }).thinRise k t
  else (((s.incSat (Fld.RX_LOSS_FOVF k) 1).raise Cause.RX_FOVF).markLoss c false).thinRise k t

/-- The time of an avalanche in TDC LSB: its TREF cycle and the fine bin of its tap (R136, R140). -/
def State.lsbOf (s : State) (c ps tap : Nat) : Nat := 64 * (ps / 1000) + (s.chan c).map.getD tap 0

/-- The TDC of channel `c` is dead at time `l` (R132). -/
def State.tdcDead (s : State) (c l : Nat) : Bool := match (s.chan c).lastEvt with | none => false | some e => decide (l < e + 256)

/-- A single avalanche is stamped as a calibration hit, outside the dead time (R132, R134, R141). -/
def State.calHit (s : State) (c ps tap : Nat) : State :=
  let l := s.lsbOf c ps tap
  if s.tdcDead c l then s else let s := s.bgHit c tap; s.setChan c { s.chan c with lastEvt := some l }

/-- A qualified set of channel `c` (R132): an event of the second gate half, or of the newest window open at its first avalanche, unless it falls in the dead time. -/
def State.coincidence (s : State) (c : Nat) (q : CoSet) : State :=
  let x := s.chan c
  let l := s.lsbOf c q.ps q.tap
  let report (s : State) : State := s.setChan c { s.chan c with lastEvt := some l }
  let countDead : State := s.incSat (Fld.RX_LOSS_DEAD (c / 16)) 1
  if !s.chanValid c then s else
  match x.gate with
  | some g => if s.tdcDead c l then countDead else report (s.setChan c { x with gate := some { g with evt := min 0xFF (g.evt + 1) } })
  | none =>
    match (s.cluster (c / 16)).wins.dropWhile (fun w => decide (q.ps / 1000 < w.tf)) with
    | [] => s
    | w :: ws =>
      if s.tdcDead c l then countDead
      else if s.mash.swapPend then report s
      else (report s).enqueue c (q.ps / 1000) (x.map.getD q.tap 0) w ws

/-- An avalanche of SPAD `i` joins the open set of channel `c`, or opens one; with the `k`-th SPAD the set ends and is reported (R131, R132). -/
def State.joinSet (s : State) (c k i ps tap : Nat) : State :=
  let gatePs := 500 + 250 * min 14 (s.ef Fld.RX_COINC_GATE)
  let fresh : CoSet := { ps := ps, tap := tap, spads := [i] }
  let q := match (s.chan c).set with
    | some q => if ps < q.ps + gatePs then (if q.spads.contains i then q else { q with spads := i :: q.spads }) else fresh
    | none => fresh
  if min k (s.spads c) ≤ q.spads.length then (s.setChan c { s.chan c with set := none }).coincidence c q
  else s.setChan c { s.chan c with set := some q }

/-- One avalanche of channel `c`: SPAD, time in ps, tap (R131-R135, R141). Without power, or while its cluster is held in reset, the channel sees none. -/
def State.avalanche (s : State) (c : Nat) (a : Nat × Nat × Nat) : State :=
  let x := s.chan c
  if !s.powered (c / 16) || s.rst.l2.contains (.cluster (c / 16)) || !s.spadOn c a.1 then s else
  match x.gate with
  | some g =>
    match g.mid with
    | none => (s.setChan c { x with gate := some { g with a := g.a + 1 } }).calHit c a.2.1 a.2.2
    | some (k, _) => s.joinSet c k a.1 a.2.1 a.2.2
  | none =>
    if (s.cluster (c / 16)).wins.isEmpty && a.2.1 / 1000 < s.mash.injEnd then s.calHit c a.2.1 a.2.2
    else s.joinSet c (s.windowK c) a.1 a.2.1 a.2.2

/-- Row RX_EVENT: an avalanche of SPAD `i` of channel `c` at `ps`, which would stop at `tap`, and then those of `avs` (SPAD, time in ps, tap), in time order (R132, R134, R135, R141). -/
def execRxEvent (c i ps tap : Nat) (s : State) (avs : List (Nat × Nat × Nat) := []) : Out :=
  .next (((i, ps, tap) :: avs).foldl (fun s a => s.avalanche c a) s)

/-! ## Capture (Table 7.5) -/

/-- Row RX_CAPCTL_ARM: a write of 1 to ARM captures the next 256 events of CH (Table 7.5). -/
def State.capArm (s : State) : State := (s.withMash { s.mash with capArm := true }).setF Fld.RX_CAPCTL_COUNT 0

/-- An event leaves the FIFO of channel `c`: it is captured if a capture is armed for the channel. -/
def State.capture (s : State) (c : Nat) (w : Word) : State :=
  let n := s.f Fld.RX_CAPCTL_COUNT
  if s.mash.capArm && s.f Fld.RX_CAPCTL_CH = c then
    let s := (s.rset (Reg.RX_CAP n) w).setF Fld.RX_CAPCTL_COUNT (n + 1)
    if n + 1 = 256 then s.withMash { s.mash with capArm := false } else s
  else s

end Sys2Proof.Machine
end

