-- ==== Sys2Proof/Machine/Mash.lean ====
section
/-!
DEFINITION. The Mash (chapter 8): the Tun, draining, thinning and binning, zoom, bank swap and sparge, histogram headers and snapshots.
-/
namespace Sys2Proof.Machine

/-! ## The Tun (R153, R154) -/

/-- The number of bin `b` of channel `j` of cluster `k` in a bank. -/
def tunBin (k j : Nat) (bank : Bool) (b : Nat) : Nat := ((2 * k + bank.toNat) * 16 + j) * 2048 + b

/-- A bin of the Tun. -/
def State.bin (s : State) (n : Nat) : BitVec 16 := SMap.get (fun _ => 0) s.tun n

/-- Writing a bin. -/
def State.setBin (s : State) (n : Nat) (v : BitVec 16) : State := s.withTun (SMap.set (fun _ => 0) s.tun n v)

/-- A change of a channel's part of the header, of the column that bins into the bank `old` names. -/
def State.modChAcc (s : State) (c : Nat) (old : Bool) (g : ChAcc → ChAcc) : State :=
  let x := s.chan c
  s.setChan c (if old then { x with old := g x.old } else { x with cur := g x.cur })

/-- A bin error (R154): counted, recorded and flagged; `ue` says that it cannot be corrected, and logs the bin (Table 18.6). -/
def State.binError (s : State) (n c : Nat) (old ue : Bool) : State :=
  let s := s.incSat (if ue then Fld.MASH_ECC_UE else Fld.MASH_ECC_CE) 1
  let s := (s.setB Fld.MASH_ECCADDR_UE ue).setF Fld.MASH_ECCADDR_BIN n
  let s := s.raise (if ue then Cause.MASH_ECC_UE else Cause.MASH_ECC_CE)
  let s := s.modChAcc c old (fun a => if ue then { a with ue := true } else { a with ce := true })
  if ue then (s.setBin n 0).logEvent 0x0031 0 (BitVec.ofNat 32 n) else s

/-! ## Binning (R156, R157, R161, R164, R165) -/

/-- The bin of time `t` in a histogram (Tables 8.1, R161); `fine` says that the window is of the fine phase. -/
def binOf (a : ColAcc) (zwin : List Nat) (fine : Bool) (t : Nat) : Option Nat :=
  let g := 64 * a.gate
  match a.hmode with
  | 0 => some (t / 128)
  | 1 => if g ≤ t && t < g + 8192 then some ((t - g) / 4) else none
  | 2 => if g ≤ t && t < g + 2 ^ (11 + a.cw) then some ((t - g) / 2 ^ a.cw) else none
  | _ =>
    match (if fine then (zwin.zipIdx.find? (fun (p : Nat × Nat) => 256 * p.1 ≤ t && t < 256 * p.1 + 1024)) else none) with
    | some (f, z) => some (1024 + 256 * z + (t - 256 * f) / 4)
    | none => some (t / 256)

/-- A saturating add of a weight to a bin, and whether it saturated (R165). -/
def binAdd (v : BitVec 16) (w : Nat) : BitVec 16 × Bool :=
  if v.toNat + w ≤ 0xFFFF then (BitVec.ofNat 16 (v.toNat + w), false) else (0xFFFF, true)

/-- The time at which the sparge reads bin `b` of channel `j` (R166). -/
def State.spargeReads (s : State) (j b : Nat) : Nat := s.mash.swapT + 512 * j + b / 8 * 2

/-- The time at which the zoom search of a column reads coarse bin `b` of channel `j` (R159). -/
def searchReads (start j b : Nat) : Nat := start + (1024 * j + b) / 8 * 2

/-- One bin update at time `t` with weight `w` (R157, R165, R167): dropped if the sparge has read the bin already. The value a running search has read is kept. -/
def State.binUpdate (s : State) (c b w t : Nat) (old : Bool) : State :=
  let k := c / 16
  let bank := s.b Fld.MASH_STAT_BANK != old
  let n := tunBin k (c % 16) bank b
  if old && decide (s.spargeReads (c % 16) b ≤ t) then
    ((s.incSat (Fld.MASH_LATE_LATE k) 1).raise Cause.MASH_LATE).markLoss c true
  else
    let x := s.cluster k
    let v := s.bin n
    let key := 1024 * (c % 16) + b
    let s := match x.cur.search with
      | some st =>
        if !old && x.cur.tz.isNone && b < 1024 && decide (searchReads st (c % 16) b < t) && !(x.seen.any (fun p => decide (p.1 = key)))
        then s.setCluster k { x with seen := SMap.insert x.seen key v.toNat } else s
      | none => s
    let (v', sat) := binAdd v w
    let s := (s.setBin n v').modChAcc c old (fun a => { a with updates := a.updates + 1, sat := a.sat || sat })
    s.raiseIf sat Cause.MASH_SAT

/-- One update that reads its bin with error `err`: 0 none, 1 corrected, 2 uncorrectable (R154, R157). -/
def State.binUpdateErr (s : State) (c b w t : Nat) (old : Bool) (err : Nat) : State :=
  let s := if err = 0 then s else s.binError (tunBin (c / 16) (c % 16) (s.b Fld.MASH_STAT_BANK != old) b) c old (err != 1)
  s.binUpdate c b w t old

/-- The updates of an event (R157): its reference only, or every admitted window with ALIAS. -/
def State.binEvent (s : State) (c : Nat) (e : FifoE) (w t : Nat) (old : Bool) (errs : List Nat) : State :=
  let k := c / 16
  let a := if old then (s.cluster k).old else (s.cluster k).cur
  let z := (if old then (s.chan c).old else (s.chan c).cur).zwin
  let wins := if a.aliased then e.wins else e.wins.take 1
  let bins := wins.filterMap (fun p => binOf a z (match a.tz with | some tz => decide (tz ≤ p.2) | none => false) p.1)
  bins.zipIdx.foldl (fun s b => s.binUpdateErr c b.1 w t old (errs.getD b.2 0)) (s.modChAcc c old (fun x => { x with events := x.events + 1 }))

/-- The channel the engine serves next (R162, R167): round-robin after the last one, events of a closed column first. -/
def State.nextServed (s : State) (k : Nat) : Option Nat :=
  let order := (List.range 16).map (fun i => ((s.cluster k).served + 1 + i) % 16)
  let bank := s.b Fld.MASH_STAT_BANK
  let head (j : Nat) : Option FifoE := (s.chan (16 * k + j)).fifo.head?
  match order.find? (fun j => (head j).any (fun e => e.bank != bank)) with
  | some j => some j
  | none => order.find? (fun j => (head j).isSome)

/-- Row MASH_DRAIN: at time `t` an event leaves its FIFO in cluster `k`, is captured, thinned and binned (R162-R165); `errs` are the errors its updates read their bins
with: 0 none, 1 corrected, 2 uncorrectable (R154). One that the FIFO's parity finds damaged (`par`) is discarded and counted with the FIFO's losses (R361, R137). -/
def execMashDrain (k t : Nat) (par : Bool) (s : State) (errs : List Nat := []) : Out :=
  let s := s.thinRise k t
  match s.nextServed k with
  | none => .next s
  | some j =>
    let c := 16 * k + j
    match (s.chan c).fifo with
    | [] => .next s
    | e :: rest =>
      let old := e.bank != s.b Fld.MASH_STAT_BANK
      let s := s.setChan c { s.chan c with fifo := rest }
      if par then .next ((((s.setCluster k { s.cluster k with served := j }).incSat (Fld.RX_LOSS_FOVF k) 1).raise Cause.RX_FOVF).markLoss c old) else
      let s := s.capture c e.word
      let x := s.cluster k
      let l := if x.level = 0 then x.lfsr else lfsr16 x.lfsr
      let keep := l.toNat % 2 ^ x.level = 0
      let up (a : ColAcc) : ColAcc := { a with thin := max a.thin x.level }
      let s := s.setCluster k { x with served := j, lfsr := l, cur := if old then x.cur else up x.cur, old := if old then up x.old else x.old }
      let covf := e.word.getLsbD 24
      let s := if covf then s.modChAcc c old (fun a => { a with covf := true }) else s
      if !keep then .next (s.incSat (Fld.MASH_THINK_THINNED k) 1)
      else if covf then .next s
      else .next (s.binEvent c e (2 ^ x.level) t old errs)

/-! ## Zoom (R159, R160) -/

/-- The peaks of a coarse histogram: value and bin (R160 step 1). -/
def zoomPeaks (zmin : Nat) (c : Nat → Nat) : List (Nat × Nat) :=
  (List.range 1024).filterMap (fun b =>
    let l := if b = 0 then 0 else c (b - 1)
    let r := if b = 1023 then 0 else c (b + 1)
    if zmin ≤ c b && l < c b && r ≤ c b then some (c b, b) else none)

/-- Insertion in descending value, ascending bin (R160 step 2). -/
def insertPeak (p : Nat × Nat) : List (Nat × Nat) → List (Nat × Nat)
  | [] => [p]
  | q :: l => if q.1 < p.1 then p :: q :: l else q :: insertPeak p l

/-- The first coarse bin of a peak's window (R160 step 3). -/
def zoomWindow (c : Nat → Nat) (b : Nat) : Nat :=
  let l := if b = 0 then 0 else c (b - 1)
  let r := if b = 1023 then 0 else c (b + 1)
  let f : Nat := if l ≤ r then b - 1 else b - 2
  min 1020 f

/-- Placing windows, at most four, none overlapping another (R160 steps 4 and 5). -/
def zoomPlace (c : Nat → Nat) : List (Nat × Nat) → List Nat → List Nat
  | [], ws => ws
  | p :: l, ws =>
    if 4 ≤ ws.length then ws else
    let f := zoomWindow c p.2
    if ws.any (fun g => decide (f < g + 4) && decide (g < f + 4)) then zoomPlace c l ws else zoomPlace c l (ws ++ [f])

/-- The zoom windows of channel `j` of cluster `k`, from the coarse bins as the search read them. -/
def State.zoomFor (s : State) (k j : Nat) : List Nat :=
  let seen := (s.cluster k).seen
  let c (b : Nat) : Nat := match seen.find? (fun p => p.1 = 1024 * j + b) with
    | some p => p.2
    | none => (s.bin (tunBin k j (s.b Fld.MASH_STAT_BANK) b)).toNat
  zoomPlace c ((zoomPeaks (s.ef Fld.MASH_ZOOM_ZMIN) c).foldl (fun l p => insertPeak p l) []) []

/-- Row ZOOM_PLACE: the search of cluster `k` ends and the zoom windows of its 16 channels are placed (R159, R160). -/
def execZoomPlace (k : Nat) (s : State) : Out :=
  let x := s.cluster k
  match x.cur.search, x.cur.tz with
  | some st, none =>
    let tz := st + 4112
    let s1 := (List.range 16).foldl (fun s' j => s'.modChAcc (16 * k + j) false (fun a => { a with zwin := s.zoomFor k j })) s
    let fine := x.wins.filter (fun w => decide (tz ≤ w.tf))
    .next (s1.setCluster k { x with cur := { x.cur with tz := some tz, nfine := x.cur.nfine + fine.length,
                                                         wfine := x.cur.wfine + fine.foldl (fun a w => a + w.wint) 0 }, seen := [] })
  | _, _ => .next s

/-! ## Bank swap (R142, R155, R166, Table 8.4) -/

/-- The planned fire times of a string's shots in a column triggered at `trig`: entry and time (R76). `per` and `dspan` are the string's, `off` the entries' offsets, `l` the
dither register. -/
def planTimes (per dspan trig : Nat) (off : Nat → Nat) : Option Nat → BitVec 16 → List PShot → List (Nat × Nat)
  | _, _, [] => []
  | prev, l, p :: q =>
    let slot := match prev with
      | none => trig + off p.entry
      | some r => if p.first then max (trig + off p.entry) (r + per) else r + per
    let t := slot + ditherOffset l.toNat dspan
    (p.entry, t) :: planTimes per dspan trig off (some t) (lfsr16 l) q

/-- The planned time of the first shot of grant `g` that is to open a window on cluster `k` (R134), with the settings in effect, or as written for a column still to come. -/
def State.firstFire (s : State) (g : Grant) (trig : Nat) (eff : Bool) (k : Nat) : Nat :=
  let fv (F : Fld) : Nat := if eff then s.ef F else s.f F
  let entry (i : Nat) : Option GEntry := g.entries.find? (fun e => e.idx = i)
  let ts := (List.range 8).flatMap (fun n =>
    ((planTimes (max 1000 (fv (Fld.EMIT_STRCFG_PERIOD n))) (fv (Fld.EMIT_STRCFG_DSPAN n)) trig (fun i => ((entry i).map (·.offset)).getD 0) none
      (BitVec.ofNat 16 (s.f (Fld.EMIT_DLFSR_LFSR n))) (g.shotsOf n)).filter (fun p =>
      (entry p.1).any (fun e => e.rowFirst ≤ k && k ≤ e.rowLast))).map (·.2))
  match ts with
  | [] => 0
  | t :: l => l.foldl min t

/-- What cluster `k` starts a column with: the mode of the first granted entry that covers it (R126); a column that begins while PLLA is not locked is INVALID (R44). -/
def State.startAcc (s : State) (g : Grant) (k : Nat) (trunc : Bool) : ColAcc :=
  if g.rows.getLsbD k && !s.clusterShut k && !s.rst.l2.contains (.cluster k) then
    match g.entries.find? (fun e => 0 < e.n && e.rowFirst ≤ k && k ≤ e.rowLast) with
    | none => {}
    | some e =>
      let cw := match e.hmode with | 0 => 7 | 1 => 2 | 2 => min 8 (s.ef (Fld.MASH_GATE_CW k)) | _ => 8
      { woken := true, hmode := e.hmode, aliased := e.aliased, gate := if e.hmode = 1 || e.hmode = 2 then s.ef (Fld.MASH_GATE_GATE k) else 0,
        cw := cw, t0 := s.firstFire g s.scan.tTrig true k, trunc := trunc,
        invalid := !s.b Fld.CLK_STATUS_PLLA_LOCK }
  else {}

/-- The channel's side of a swap: the column's hits join the counts (or are discarded after a PLLA loss), the header's part is closed. -/
def swapChan (bad : Bool) (x : ChanSt) : ChanSt :=
  let hits := if bad then x.hits else x.colHits.foldl (fun m p => SMap.set (fun _ => 0) m p.1 (SMap.get (fun _ => 0) m p.1 + p.2)) x.hits
  { x with hits := hits, colHits := [], old := x.cur, cur := {}, gate := none }

/-- Staged maps whose staging completed before `t` become active (R142). -/
def State.switchMaps (s : State) (t : Nat) : State :=
  (s.chans.map (·.1)).foldl (fun s c =>
    let x := s.chan c
    match x.staged with
    | some (m, dnl, ts) =>
      if ts < t then
        let s := s.activateMap c m dnl
        let s := s.incMod (Fld.RX_TDC_MAPGEN c) 1
        s.setChan c { s.chan c with staged := none, newMap := true }
      else s
    | none => s) s

/-- The first histograms stamped with a new map are marked (R142): those of the channel's next column in which its cluster is woken. -/
def State.markMaps (s : State) : State :=
  (s.chans.map (·.1)).foldl (fun s c =>
    let x := s.chan c
    if x.newMap && (s.cluster (c / 16)).cur.woken then s.setChan c { x with newMap := false, cur := { x.cur with mapnew := true } } else s) s

/-- What the headers of the closing column carry of each channel: the ambient values (R134), those of a gate of the column, else the last ones as STALE, and none without an
enabled SPAD (R131; log 89); and whether the channel had a valid map (R142). -/
def State.closeAmb (s : State) : State :=
  ((List.range 64).filter (fun k => (s.cluster k).cur.woken)).foldl (fun s k => (List.range 16).foldl (fun s j =>
    let c := 16 * k + j
    let a := if s.spads c = 0 then {} else if s.gateRuns k then ((s.chan c).amb).getD (s.staleAmb c) else s.staleAmb c
    let bad := !s.chanValid c
    s.modChAcc c false (fun x => { x with amb := a, nomap := bad })) s) s

/-- The swap itself, at time `t` (R166): the accumulating bank closes, the sparge starts, the waiting column begins. -/
def State.doSwap (s : State) (t : Nat) : State :=
  let cols := s.f Fld.MASH_STAT_COLS
  let bad := (s.clus.any (fun p => p.2.cur.invalid))
  let s := ((s.withChans (SMap.mapV (fun _ => {}) (swapChan bad) s.chans)).withClus (SMap.mapV (fun _ => {}) (fun (x : CluSt) => { x with old := { x.cur with mcol := cols % 256 }, cur := x.nxt, nxt := {}, seen := [] }) s.clus)).withMash { s.mash with sparging := true, swapT := t, swapPend := false, closeJ := 0, snapSkip := false }
  let s := (s.setF Fld.MASH_STAT_COLS (cols + 1)).setB Fld.MASH_STAT_BANK (!s.b Fld.MASH_STAT_BANK)
  let s := (s.switchMaps t).markMaps
  (List.range 64).foldl (fun s k => if (s.cluster k).cur.woken && !s.gateRuns k then s.markStale k else s) s

/-- The Mash's side of a trigger at `t` with the new column's grant (R166, R107): open windows are cut off, the swap happens or waits for the sparge. -/
def State.mashTrigger (s : State) (t : Nat) (g : Grant) : State :=
  let s := (List.range 64).foldl (fun s k =>
    let s := s.closeExpired k t
    let x := s.cluster k
    let s := if x.wins.isEmpty then s else s.setCluster k { x with cur := { x.cur with trunc := true }, wins := [] }
    let x := s.cluster k
    s.setCluster k { x with tag := 0, nxt := s.startAcc g k s.mash.sparging }) s
  if s.mash.sparging then s.withMash { s.mash with swapPend := true } else s.doSwap t

/-- A window was still open when the running column ended early, at `t` (Table 6.5 TRUNC). -/
def State.columnTrunc (s : State) (t : Nat) : Bool := s.clus.any (fun p => p.2.wins.any (fun w => decide (t < w.tf + 4096)))

/-- 8,192 ns after the swap the closed bank is clear; a waiting swap takes place (R166, Table 8.4). -/
def State.spargeEnd (s : State) (t : Nat) : State :=
  if s.mash.sparging then
    let closed := !s.b Fld.MASH_STAT_BANK
    let s := (s.withTun (s.tun.filter (fun p => (p.1 / 32768 % 2 = 1) != closed))).withMash { s.mash with sparging := false }
    if s.mash.swapPend then s.doSwap t else s
  else s

/-! ## Headers, closing and snapshots (R168, R170) -/

/-- The zoom word of two windows (Table 8.3 words 5 and 6). -/
def zoomHalf (z : List Nat) (i : Nat) : Nat := match z[i]? with | some f => 2 ^ 15 + f % 1024 | none => 0

/-- The header of the closed histogram of channel `c` (Table 8.3). -/
def State.header (s : State) (c : Nat) : List Word :=
  let a := (s.cluster (c / 16)).old
  let x := (s.chan c).old
  let sat8 (v : Nat) : Nat := min 255 v
  let sat16 (v : Nat) : Nat := min 0xFFFF v
  let b (p : Bool) (i : Nat) : Nat := if p then 2 ^ i else 0
  let searched := a.tz.isSome
  let zw := if searched then x.zwin else []
  let w0 := sat8 a.shots * 2 ^ 24 + (if searched then sat8 a.nfine else 0) * 2 ^ 16 + a.hmode * 2 ^ 14 + b a.aliased 13 + a.thin * 2 ^ 10 + c
  let invalid := a.invalid || x.ue || x.nomap
  let w1 := min 0xFFF a.cutmin * 2 ^ 20 + min 7 a.nifmax * 2 ^ 17 + zw.length * 2 ^ 14 + b x.amb.stale 9 + b x.ue 8 + b x.ce 7 + b a.cut 6 + b a.trunc 5
    + b invalid 4 + b x.mapnew 3 + b x.covf 2 + b x.loss 1 + b x.sat 0
  let w2 := sat16 x.updates * 2 ^ 16 + sat16 x.events
  let w3 := x.amb.rate * 2 ^ 16 + x.amb.evt * 2 ^ 8 + x.amb.k * 16
  let w4 := a.cw * 2 ^ 28 + a.gate % 4096 * 2 ^ 16 + x.amb.glen % 256 * 256
  let w5 := zoomHalf zw 1 * 2 ^ 16 + zoomHalf zw 0
  let w6 := zoomHalf zw 3 * 2 ^ 16 + zoomHalf zw 2
  let w7 := a.mingap % 4096 * 2 ^ 16 + a.mcol
  [w0, w1, w2, w3, w4, w5, w6, w7].map (BitVec.ofNat 32)

/-- The bins of a histogram in the Tun. -/
def State.histBins (s : State) (k j : Nat) (bank : Bool) : SMap (BitVec 16) :=
  let base := tunBin k j bank 0
  (s.tun.filter (fun p => base ≤ p.1 && p.1 < base + 2048)).map (fun p => (p.1 - base, p.2))

/-- The snapshot of a histogram is taken if one is armed for its channel and its sparge began after the write (R170, Table 8.4). -/
def State.snapshot (s : State) (c : Nat) (h : Hist) : State :=
  if s.b Fld.MASH_SNAPCTL_PEND && s.f Fld.MASH_SNAPCTL_CH = c && !s.mash.snapSkip then
    let v (b : Nat) : BitVec 16 := SMap.get (fun _ => 0) h.bins b
    let s := (List.range 1024).foldl (fun s w => s.rset (Reg.MASH_SNAPBIN w) (v (2 * w + 1) ++ v (2 * w))) s
    let s := h.hdr.zipIdx.foldl (fun s p => s.rset (Reg.MASH_SNAPHDR p.2) p.1) s
    (s.setB Fld.MASH_SNAPCTL_PEND false).raise Cause.MASH_SNAP
  else s

/-- The histogram of channel `c` in the closed bank, with its header, the weights of its cluster's shots and the settings it closes under (R166, R187, R196). -/
def State.closedHist (s : State) (c : Nat) : Hist :=
  { hdr := s.header c, bins := s.histBins (c / 16) (c % 16) (!s.b Fld.MASH_STAT_BANK),
    wsum := (s.cluster (c / 16)).old.wsum, wfine := (s.cluster (c / 16)).old.wfine, eff := s.eff.filter (fun p => p.1 / 0x10000 = 8) }

/-- The histogram `h` of channel `c` passes to the Lauter, with its header in the MASH_HDR registers (R166). -/
def State.passHist (s : State) (c : Nat) (h : Hist) : State :=
  let s := (h.hdr.zipIdx.foldl (fun s p => s.rset (Reg.MASH_HDR c p.2) p.1) s).snapshot c h
  s.withHists (SMap.set (fun _ => ({} : Hist)) s.hists c h)

/-- The histogram of channel `c` is read and cleared; `errs` are bins read with an error, and whether it was uncorrectable (R154, R166). -/
def State.spargeClear (s : State) (c : Nat) (errs : List (Nat × Bool)) : State :=
  let base := tunBin (c / 16) (c % 16) (!s.b Fld.MASH_STAT_BANK) 0
  let s := errs.foldl (fun s p => s.binError (base + p.1 % 2048) c true p.2) s
  let s := s.withTun (s.tun.filter (fun p => p.1 < base || base + 2048 ≤ p.1))
  s.modChAcc c true (fun a => { a with passed := true })

/-- The sparge reads and clears the histogram of channel `c`; a woken cluster's goes to the Lauter with its header (R166). Answers the histogram passed, if one was. -/
def State.spargeHist (s : State) (c : Nat) (errs : List (Nat × Bool)) : State × Option Hist :=
  if !s.mash.sparging || (s.chan c).old.passed then (s, none) else
  let base := tunBin (c / 16) (c % 16) (!s.b Fld.MASH_STAT_BANK) 0
  let h := (errs.foldl (fun s p => s.binError (base + p.1 % 2048) c true p.2) s).closedHist c
  let s := s.spargeClear c errs
  if (s.cluster (c / 16)).old.woken then (s.passHist c h, some h) else (s, none)

/-- Channel `c` is being sparged (R166): the histograms before its own have closed. -/
def State.inSparge (s : State) (c : Nat) : Bool := s.mash.sparging && s.mash.closeJ = c % 16

/-- A write of 1 to MASH_SNAPCTL.ARM arms a snapshot: of the sparge in progress of that channel it takes none (R170, Table 8.4). -/
def State.snapArm (s : State) : State :=
  (s.withMash { s.mash with snapSkip := s.inSparge (s.f Fld.MASH_SNAPCTL_CH) }).setB Fld.MASH_SNAPCTL_PEND true

/-- The Tun clear at the entry to SCAN (R155): both banks, the column count, the levels and the thinning LFSRs. -/
def State.tunClear (s : State) : State :=
  let seed := s.f Fld.MASH_THIN_SEED
  let s := ((s.withTun []).withHists []).withMash { s.mash with sparging := false, swapPend := false }
  let s := (List.range 64).foldl (fun s k =>
    let v := BitVec.ofNat 16 (Nat.xor seed k)
    let s := s.setCluster k { lfsr := if v = 0 then 1 else v }
    s.setF (Fld.MASH_THINK_LEVEL k) 0) s
  let s := s.withChans (SMap.mapV (fun _ => {}) (fun (x : ChanSt) => { x with fifo := [], cur := {}, old := {}, gate := none, amb := none, lastEvt := none, set := none }) s.chans)
  ((s.setF Fld.MASH_STAT_COLS 0).setB Fld.MASH_STAT_BANK false).setB Fld.MASH_STAT_CLR_BUSY true

/-- PLLA loses lock: the columns in progress carry INVALID (R44, Table 8.4). -/
def State.mashInvalid (s : State) : State :=
  s.withClus (SMap.mapV (fun _ => {}) (fun (x : CluSt) => { x with cur := { x.cur with invalid := true }, nxt := { x.nxt with invalid := true } }) s.clus)

end Sys2Proof.Machine
end

