-- ==== Sys2Proof/Machine/Lauter.lean ====
section
/-!
DEFINITION. The Lauter (chapter 9): floor, filter, threshold, candidates, range, intensity, rain, selection and the comparison with the field map.
-/
namespace Sys2Proof.Machine

/-! ## The histogram as the Lauter reads it (R175, Table 9.2) -/

/-- A field of a header word. -/
def hdrField (h : List Word) (w lo n : Nat) : Nat := (h.getD w 0).toNat / 2 ^ lo % 2 ^ n

/-- What the Lauter takes from a header (Table 8.3). -/
structure HdrView where
  ch : Nat
  shots : Nat
  nfine : Nat
  hmode : Nat
  aliased : Bool
  thin : Nat
  cutmin : Nat
  zn : Nat
  cut : Bool
  trunc : Bool
  invalid : Bool
  evt : Nat
  cw : Nat
  gate : Nat
  glen : Nat
  mingap : Nat
  mcol : Nat
  zs : List Nat
  deriving DecidableEq, Repr

/-- Reading a header. -/
def hdrView (h : List Word) : HdrView :=
  { ch := hdrField h 0 0 10, shots := hdrField h 0 24 8, nfine := hdrField h 0 16 8, hmode := hdrField h 0 14 2, aliased := hdrField h 0 13 1 != 0,
    thin := hdrField h 0 10 3, cutmin := hdrField h 1 20 12, zn := hdrField h 1 14 3, cut := hdrField h 1 6 1 != 0,
    trunc := hdrField h 1 5 1 != 0, invalid := hdrField h 1 4 1 != 0, evt := hdrField h 3 8 8, cw := hdrField h 4 28 4,
    gate := hdrField h 4 16 12, glen := hdrField h 4 8 8, mingap := hdrField h 7 16 12, mcol := hdrField h 7 0 8,
    zs := [hdrField h 5 0 10, hdrField h 5 16 10, hdrField h 6 0 10, hdrField h 6 16 10] }

/-- A bin sequence (R175): first bin, number of bins, origin and bin width in LSB, and the zoom window of a fine one. -/
structure BinSeq where
  base : Nat
  n : Nat
  o : Nat
  w : Nat
  zoom : Option Nat
  deriving DecidableEq, Repr

/-- The sequences of a histogram (Table 9.2), each cut to its processed bins: those that start before 4096 ns. -/
def sequences (v : HdrView) : List BinSeq :=
  let cutN (n o w : Nat) : Nat := min n ((262144 - o + w - 1) / w)
  let one (o w : Nat) : List BinSeq := [{ base := 0, n := cutN 2048 o w, o := o, w := w, zoom := none }]
  match v.hmode with
  | 0 => one 0 128
  | 1 => one (64 * v.gate) 4
  | 2 => one (64 * v.gate) (2 ^ v.cw)
  | _ => { base := 0, n := 1024, o := 0, w := 256, zoom := none } ::
      (List.range v.zn).map (fun z => let o := 256 * v.zs.getD z 0; { base := 1024 + 256 * z, n := cutN 256 o 4, o := o, w := 4, zoom := some z })

/-- A sparse histogram laid out as `k` bins from bin `b`. -/
def expandBins : Nat → Nat → SMap (BitVec 16) → List Nat
  | 0, _, _ => []
  | k + 1, b, [] => 0 :: expandBins k (b + 1) []
  | k + 1, b, (i, v) :: m => if i = b then v.toNat :: expandBins k (b + 1) m else 0 :: expandBins k (b + 1) ((i, v) :: m)

/-! ## The floor (R176-R178), in 1/256 counts -/

/-- The larger of two lists of four, with a new value (the four largest bins). -/
def insertTop (v : Nat) : List Nat → List Nat
  | [] => [v]
  | x :: l => if x < v then v :: x :: l else x :: insertTop v l

/-- The floor of a segment's bins; `prev` is the preceding segment's (R176). -/
def segFloor (prev : Nat) (l : List Nat) : Nat :=
  let n := l.length
  if n ≤ 8 then prev else
  let s := l.foldl (· + ·) 0
  let p := (l.foldl (fun t v => (insertTop v t).take 4) []).foldl (· + ·) 0
  min 0xFFFFFF ((s - p) * 256 / (n - 4))

/-- The segment floors of a sequence's bins, `k` segments. -/
def segFloors : Nat → Nat → List Nat → List Nat
  | 0, _, _ => []
  | k + 1, prev, l => let f := segFloor prev (l.take 64); f :: segFloors k f (l.drop 64)

/-- The limit time X in ns (Table 9.3). -/
def exactLimit (v : HdrView) : Nat :=
  if v.aliased then (if v.cut then v.cutmin else 4096) else (if v.mingap = 0xFFF then 4096 else v.mingap)

/-- The exposure model E_m of a bin (Table 9.3). -/
def exposure (v : HdrView) (q : BinSeq) (b : Nat) : Nat :=
  match q.zoom with
  | some _ => v.nfine
  | none =>
    if v.hmode = 3 && (v.zs.take v.zn).any (fun f => decide (f ≤ b) && decide (b < f + 4)) then v.shots - v.nfine else v.shots

/-- A bin lies in the exact region (R177). -/
def inExact (v : HdrView) (q : BinSeq) (b : Nat) : Bool := decide (q.o + b * q.w < 64 * exactLimit v)

/-- The gate floor of a bin, where one exists (R177). -/
def gateFloor (v : HdrView) (q : BinSeq) (b : Nat) : Option Nat :=
  if v.glen = 0 || v.trunc || !inExact v q b then none else some (min 0xFFFFFF (v.evt * q.w * exposure v q b / v.glen))

/-- The floor of a bin (R178). -/
def binFloor (mode : Nat) (v : HdrView) (q : BinSeq) (segs : Array Nat) (b : Nat) : Nat :=
  let loc := segs.getD (b / 64) 0
  match gateFloor v q b with
  | none => loc
  | some g => match mode with | 0 => loc | 1 => g | _ => max loc g

/-! ## Filter and threshold (R179, R180) -/

/-- The filtered value of bin `b`, in 1/256; `taps` are h_0 to h_7, `c` the bins of the sequence, `fl` its floors. -/
def filtered (taps : List Nat) (n : Nat) (c fl : Array Nat) (b : Nat) : Nat :=
  let h := taps.foldl (· + ·) 0
  let taps := if h = 0 then [0, 0, 0, 1, 0, 0, 0, 0] else taps
  let qh := 65536 / (if h = 0 then 1 else h)
  let sum := taps.zipIdx.foldl (fun a p =>
    let i := b + p.2
    let v := if i < 3 then fl.getD 0 0 else if n ≤ i - 3 then fl.getD (n - 1) 0 else 256 * c.getD (i - 3) 0
    a + p.1 * v) 0
  sum * qh / 65536

/-- The threshold for floor `f`, in 1/256 (R180). -/
def threshold (k t0 f : Nat) : Nat := min 0xFFFFFF (f + k * rootU9_12 f / 256 + t0 * 16)

/-! ## Candidates (R181-R183) -/

/-- A sequence with everything computed over its bins. -/
structure SeqData where
  q : BinSeq
  c : Array Nat
  fl : Array Nat
  y : Array Nat
  thr : Array Nat

/-- A run: its sequence (by position in the list), first and last bin, start time and width of bin. -/
structure Run where
  seq : Nat
  first : Nat
  last : Nat
  start : Nat
  w : Nat
  deriving DecidableEq, Repr

/-- The runs of consecutive bins above threshold, in ascending order: `cur` is the run in progress. -/
def runsOf (past : Nat → Bool) : Nat → Nat → Option Nat → List (Nat × Nat)
  | 0, b, cur => (cur.map (fun f => (f, b - 1))).toList
  | k + 1, b, cur =>
    if past b then runsOf past k (b + 1) (some (cur.getD b))
    else match cur with
      | some f => (f, b - 1) :: runsOf past k (b + 1) none
      | none => runsOf past k (b + 1) none

/-- Insertion by start time, the finer sequence first on equal times. -/
def insertRun (r : Run) : List Run → List Run
  | [] => [r]
  | x :: l => if r.start < x.start || (r.start = x.start && r.w < x.w) then r :: x :: l else x :: insertRun r l

/-- The runs of a histogram: without coarse runs over a zoom window that has a run of its own, ordered by start time (R181). -/
def allRuns (v : HdrView) (ds : List SeqData) : List Run :=
  let raw := ds.zipIdx.flatMap (fun p =>
    (runsOf (fun b => decide (p.1.thr.getD b 0 < p.1.y.getD b 0)) p.1.q.n 0 none).map (fun r =>
      ({ seq := p.2, first := r.1, last := r.2, start := p.1.q.o + r.1 * p.1.q.w, w := p.1.q.w } : Run)))
  let own (z : Nat) : Bool := raw.any (fun r => decide (r.seq = z + 1))
  let keep (r : Run) : Bool := r.seq != 0 || v.hmode != 3 ||
    !(List.range v.zn).any (fun z => own z && decide (r.first < v.zs.getD z 0 + 4) && decide (v.zs.getD z 0 ≤ r.last))
  (raw.filter keep).foldl (fun l r => insertRun r l) []

/-- A candidate measured: its range comes later. -/
structure Cand where
  t16 : Int
  area : Nat
  sat : Bool
  width : Nat
  zoomed : Bool
  deriving DecidableEq, Repr

/-- The peak bin of a run: largest filtered value, lowest bin on a tie. -/
def peakBin (d : SeqData) (r : Run) : Nat :=
  (List.range (r.last + 1 - r.first)).foldl (fun p i => if d.y.getD p 0 < d.y.getD (r.first + i) 0 then r.first + i else p) r.first

/-- Excess over the floor of a bin, in 1/256. -/
def SeqData.excess (d : SeqData) (b : Nat) : Int := 256 * (d.c.getD b 0 : Nat) - (d.fl.getD b 0 : Nat)

/-- Division rounded to nearest, halves away from zero. -/
def divNearest (a b : Int) : Int := if 0 ≤ a then (2 * a + b) / (2 * b) else -((2 * (-a) + b) / (2 * b))

/-- The search outward from `b` for the edge of the half level (R183): the last bin reached, in bins from the peak, and the edge fraction. `step` gives the bin `i` out, if it exists. -/
def halfEdge (ex : Nat → Option Int) (vp : Int) : Nat → Nat → Int → Nat × Nat
  | 0, i, _ => (i, 0)
  | k + 1, i, vin =>
    match ex (i + 1) with
    | none => (i, 0)
    | some vout =>
      if 2 * vout < vp then (i, if vin ≤ vout then 0 else (16 * (2 * vin - vp) / (2 * (vin - vout))).toNat)
      else halfEdge ex vp k (i + 1) vout

/-- Measuring a candidate (R182, R183). -/
def measure (d : SeqData) (r : Run) : Cand :=
  let p := peakBin d r
  let offs : List Int := [-2, -1, 0, 1, 2]
  let binAt (i : Int) : Option Nat := let b : Int := p + i; if 0 ≤ b && b < d.q.n then some b.toNat else none
  let v (i : Int) : Int := match binAt i with | some b => max 0 (d.excess b) | none => 0
  let area := offs.foldl (fun a i => a + v i) 0
  let mom := offs.foldl (fun a i => a + i * v i) 0
  let delta : Int := if area = 0 then 0 else min 32 (max (-32) (divNearest (16 * mom) area))
  let sat := offs.any (fun i => match binAt i with | some b => d.c.getD b 0 = 0xFFFF | none => false)
  let vp := d.excess p
  let hi := halfEdge (fun i => if p + i < d.q.n then some (d.excess (p + i)) else none) vp 16 0 vp
  let lo := halfEdge (fun i => if i ≤ p then some (d.excess (p - i)) else none) vp 16 0 vp
  { t16 := 16 * (d.q.o : Int) + (16 * (p : Int) + delta + 8) * d.q.w, area := area.toNat, sat := sat,
    width := min 255 ((16 * (hi.1 + lo.1) + lo.2 + hi.2) * d.q.w / 64), zoomed := d.q.zoom.isSome }

/-! ## Range and intensity (R184-R187) -/

/-- A word of the active calibration copy (R186). -/
def State.calWord (s : State) (a : Nat) : Word := SMap.get (fun _ => 0) s.cal a

/-- The address of a calibration set's block (Table 9.8). -/
def calBase (set : Nat) : Nat := 0x152000 + 0xC00 * set

/-- T_s of a set. -/
def State.calTemp (s : State) (set : Nat) : Int := ((s.calWord (calBase set)).extractLsb' 0 16).toInt

/-- The signed half-word `i` of a list of offsets at address `a`. -/
def State.calHalf (s : State) (a i : Nat) : Int := ((s.calWord (a + 4 * (i / 2))).extractLsb' (16 * (i % 2)) 16).toInt

/-- The channel offset and the string offset of a set. -/
def State.calCh (s : State) (set c : Nat) : Int := s.calHalf (calBase set + 0x400) c
def State.calStr (s : State) (set n : Nat) : Int := s.calHalf (calBase set + 0x10) n

/-- NSETS of the active copy: values above 8 act as 8 (R185, Table 9.8). -/
def State.nsetsRaw (s : State) : Nat := min 8 ((s.calWord Reg.CASK_CALCFG).toNat % 16)

/-- The number of sets before the first whose temperature is not above its predecessor's, of `n` sets after set `i` (R185). -/
def State.ascending (s : State) : Nat → Nat → Nat
  | 0, _ => 0
  | k + 1, i => if s.calTemp i < s.calTemp (i + 1) then 1 + s.ascending k (i + 1) else 0

/-- The sets in the list (R185). -/
def State.nsets (s : State) : Nat := if s.nsetsRaw = 0 then 0 else 1 + s.ascending (s.nsetsRaw - 1) 0

/-- An offset at temperature `t` from its values per set (R185). -/
def State.interpOff (s : State) (off : Nat → Int) (t : Int) : Int :=
  let n := s.nsets
  if n = 0 then 0
  else if t < s.calTemp 0 then off 0
  else if s.calTemp (n - 1) ≤ t then off (n - 1)
  else
    match (List.range (n - 1)).find? (fun i => decide (s.calTemp i ≤ t) && decide (t < s.calTemp (i + 1))) with
    | none => off 0
    | some i =>
      let wgt := 256 * (t - s.calTemp i) / (s.calTemp (i + 1) - s.calTemp i)
      off i + (off (i + 1) - off i) * wgt / 256

/-- The range before its clamp (R184). -/
def rangeOf (t16 off : Int) : Int := (t16 - off) * 306987 / 1048576

/-- LOGT[m] (R187): ⌊256 × log2(1 + m ÷ 256)⌋. -/
def logT (m : Nat) : Nat := Nat.log2 ((256 + m) ^ 256) - 2048

/-- The log code of an area in 1/256 over a weight sum in 1/1024 (R187). -/
def intensity (area wsum : Nat) : Nat :=
  if wsum = 0 then min 4095 (Config.intensityUnstated area) else
  let x := 64 * area / wsum
  if x = 0 then 0 else
  let e := Nat.log2 x
  min 4095 (256 * e + logT (x * 256 / 2 ^ e - 256))

/-! ## Selection (R190) -/

/-- Insertion by rising range, stable. -/
def insertNear (e : Echo) : List Echo → List Echo
  | [] => [e]
  | x :: l => if e.range < x.range then e :: x :: l else x :: insertNear e l

/-- Echoes in rising range. -/
def byRange (l : List Echo) : List Echo := l.foldl (fun a e => insertNear e a) []

/-- Insertion by falling strength: larger area, the nearer on a tie (the list inserted is in rising range). -/
def insertStrong (e : Echo) : List Echo → List Echo
  | [] => [e]
  | x :: l => if x.area < e.area then e :: x :: l else x :: insertStrong e l

/-- Echoes in falling strength. -/
def byStrength (l : List Echo) : List Echo := (byRange l).foldl (fun a e => insertStrong e a) []

/-- The echoes a policy emits, in rising range (R190). -/
def select (policy n : Nat) (l : List Echo) : List Echo :=
  let near := byRange l
  match policy with
  | 0 => near.take n
  | 1 => byRange ((byStrength l).take n)
  | 2 => near.drop (near.length - n)
  | _ =>
    if near.length ≤ 2 then near else
    byRange (near.take 1 ++ near.drop (near.length - 1) ++ (byStrength ((near.drop 1).take (near.length - 2))).take 2)

/-! ## One histogram (R173-R194) -/

/-- A channel's outcome (R194). -/
inductive FieldOut where
  | clear | prot | warn | unev
  deriving DecidableEq, Repr

/-- The column in work that a histogram of column number `m` belongs to. -/
def State.lauCol (s : State) (m : Nat) : LauCol := (s.lau.cols.find? (fun c => decide (c.mcol = m))).getD {}

/-- A change of that column. -/
def State.modLau (s : State) (m : Nat) (g : LauCol → LauCol) : State :=
  s.withLau { s.lau with cols := s.lau.cols.map (fun c => if c.mcol = m then g c else c) }

/-- The string whose offset a cluster uses: of the first granted entry whose rows include it (R184). -/
def LauCol.strOf (c : LauCol) (k : Nat) : Nat :=
  ((c.entries.find? (fun e => 0 < e.n && e.rowFirst ≤ k && k ≤ e.rowLast)).map (·.str)).getD 0

/-- The field-map entry of a channel: protective distance and warning limit in 0.5 mm, and whether it has a field (R193). -/
def LauCol.cell (c : LauCol) (ch : Nat) : Nat × Nat × Bool :=
  let e := (SMap.get (fun _ => 0) c.fields ch).toNat
  (e % 1024 * 32, e % 1024 * 32 + e / 1024 * 128, e != 0)

/-- The computed sequences of a histogram. -/
def State.seqData (s : State) (v : HdrView) (h : Hist) : List SeqData :=
  let bins := (expandBins 2048 0 h.bins).toArray
  let mode := s.ef Fld.LAU_CTRL_FLOOR
  let k := s.ef Fld.LAU_THR_K
  let t0 := s.ef Fld.LAU_THR_T0
  let tw := (s.effGet Reg.LAU_TAPS1 ++ s.effGet Reg.LAU_TAPS0 : BitVec 64).toNat
  let taps := (List.range 8).map (fun i => tw / 2 ^ (8 * i) % 256)
  (sequences v).map (fun q =>
    let c := ((List.range q.n).map (fun b => bins.getD (q.base + b) 0)).toArray
    let segs := (segFloors ((q.n + 63) / 64) 0 c.toList).toArray
    let fl := ((List.range q.n).map (binFloor mode v q segs)).toArray
    { q := q, c := c, fl := fl, y := ((List.range q.n).map (filtered taps q.n c fl)).toArray,
      thr := ((List.range q.n).map (fun b => threshold k t0 (fl.getD b 0))).toArray })

/-- The histogram is counted as interfered (R191). -/
def State.interfered (s : State) (v : HdrView) (ds : List SeqData) : Bool :=
  let segs := ds.flatMap (fun d =>
    (List.range (d.q.n / 64)).filterMap (fun g =>
      let bs := (List.range 64).map (fun i => 64 * g + i)
      let em := exposure v d.q (64 * g)
      if bs.all (inExact v d.q) && bs.all (fun b => exposure v d.q b = em) then
        match gateFloor v d.q (64 * g) with
        | some gf => some (segFloor 0 (bs.map (fun b => d.c.getD b 0)), gf)
        | none => none
      else none))
  let sl := segs.foldl (fun a p => a + p.1) 0
  let sg := segs.foldl (fun a p => a + p.2) 0
  !segs.isEmpty && decide (sg * (16 + s.ef Fld.LAU_INTF_RATIO) + segs.length * s.ef Fld.LAU_INTF_ABS * 256 < 16 * sl)

/-- The histogram is BLIND within protective distance `pd` (R192). -/
def State.blind (s : State) (ds : List SeqData) (off : Int) (pd : Nat) : Bool :=
  pd != 0 && ds.any (fun d => (List.range d.q.n).any (fun b =>
    decide (s.ef Fld.LAU_SUN_BLIND * 256 ≤ d.thr.getD b 0) && decide (rangeOf (16 * ((d.q.o + b * d.q.w : Nat) : Int)) off < pd)))

/-- What one histogram yields: candidates as echoes, outcome, flags. -/
structure Extract where
  cands : List Echo
  out : FieldOut
  candmax : Bool
  neg : Bool
  intf : Bool
  blind : Bool
  deriving DecidableEq, Repr

/-- The echo cache is valid for a histogram (R188). -/
def State.cacheValid (s : State) (v : HdrView) (first : Bool) : Bool :=
  let e := SMap.get (fun _ => ({} : EchoCache)) s.lau.cache v.ch
  e.ok && decide ((e.mcol + 1) % 256 = v.mcol) && !first

/-- A candidate is RAIN (R189). -/
def State.isRain (s : State) (v : HdrView) (first : Bool) (r w i : Nat) : Bool :=
  let near (a b : Nat) : Bool := decide (a ≤ b + s.ef Fld.LAU_RAIN0_D * 32) && decide (b ≤ a + s.ef Fld.LAU_RAIN0_D * 32)
  s.ef Fld.LAU_RAIN0_EN = 1 && decide (r < s.ef Fld.LAU_RAIN0_NEAR * 32) && decide (s.ef Fld.LAU_RAIN1_W < w)
    && decide (i < s.ef Fld.LAU_RAIN1_I) && s.cacheValid v first
    && !(SMap.get (fun _ => ({} : EchoCache)) s.lau.cache v.ch).ranges.any (near r)

/-- Extraction of a histogram (R175-R194). -/
def State.extract (s : State) (h : Hist) (col : LauCol) : Extract :=
  let v := hdrView h.hdr
  let k := v.ch / 16
  let ds := s.seqData v h
  let runs := allRuns v ds
  let n := col.strOf k
  let off := s.interpOff (fun i => s.calCh i v.ch) (col.temps.getD k 0) + s.interpOff (fun i => s.calStr i n) (col.tjs.getD n 0)
  let (pd, wlim, hasField) := col.cell v.ch
  let cands := (runs.take 16).filterMap (fun r => (ds[r.seq]?).map (fun d => measure d r))
  let echoes := cands.map (fun c =>
    let r := rangeOf c.t16 off
    let i := intensity c.area (if c.zoomed then h.wfine else h.wsum)
    ({ range := r.toNat, int := i, width := c.width, rain := s.isRain v col.first r.toNat c.width i, sat := c.sat, thin := v.thin != 0,
       zoomed := c.zoomed, field := !v.invalid && decide (r.toNat < pd), aliased := v.aliased,
       invalid := v.invalid || decide (r < 0) || s.nsets = 0, area := c.area } : Echo))
  let neg := cands.any (fun c => decide (rangeOf c.t16 off < 0))
  let blind := s.blind ds off pd
  let prot := !v.invalid && echoes.any (fun e => decide (e.range < pd))
  let warn := !v.invalid && !blind && echoes.any (fun e => decide (pd ≤ e.range) && decide (e.range < wlim))
  let out := if col.fieldUe.contains v.ch then .unev else if prot then .prot else if hasField && (v.invalid || blind) then .unev
    else if warn then .warn else .clear
  { cands := echoes, out := out, candmax := decide (16 < runs.length), neg := neg, intf := s.interfered v ds, blind := blind }

/-- HZD is driven low (R195). -/
def State.hzdAssert (s : State) : State := (s.raiseIf (!s.b Fld.LAU_STAT_HZD) Cause.LAU_HZD).setB Fld.LAU_STAT_HZD true

/-- A channel's outcome enters the summary of its column and HZD (R194, R195), under the settings `eff` of its close (R196). -/
def State.lauOutcome (s : State) (m : Nat) (o : FieldOut) (eff : SMap Word) : State :=
  let on (F : Fld) : Bool := F.of (SMap.get regReset eff F.addr) = 1
  let s := s.modLau m (fun c => { c with
    judged := c.judged + 1
    nprot := c.nprot + (decide (o = .prot)).toNat
    nwarn := c.nwarn + (decide (o = .warn)).toNat
    nunev := c.nunev + (decide (o = .unev)).toNat })
  let cause : Bool := match o with
    | .prot => on Fld.LAU_HZD_PROT
    | .warn => on Fld.LAU_HZD_WARN
    | .unev => on Fld.LAU_HZD_UNEV
    | .clear => false
  if cause then (s.hzdAssert.withLau { s.hzdAssert.lau with dirty := true }) else s

/-- The outcome of a channel whose cluster was not woken (R194). -/
def State.unwokenOut (s : State) (m c : Nat) : FieldOut :=
  let col := s.lauCol m
  if (col.cell c).2.2 || col.fieldUe.contains c then .unev else .clear

/-- The echo cache after a histogram (R188): its four nearest candidates. -/
def cacheAfter (v : HdrView) (l : List Echo) : EchoCache :=
  if v.invalid then {} else { ranges := ((byRange l).map (·.range)).take 4, mcol := v.mcol, ok := true }

/-- The Lauter's own work on the histogram of channel `c`, under the settings it closed with: counters, flags, cache, summary, and the echoes handed to the Wort (R173-R196). -/
def State.lauExtract (s : State) (c : Nat) : State × List Echo × FieldOut × Nat :=
  let h := SMap.get (fun _ => ({} : Hist)) s.hists c
  let v := hdrView h.hdr
  let k := c / 16
  let set (F : Fld) : Nat := F.of (SMap.get regReset h.eff F.addr)
  let x := (s.withEff h.eff).extract h (s.lauCol v.mcol)
  let s := (s.raiseIf x.candmax Cause.LAU_CANDMAX).raiseIf x.neg Cause.LAU_NEG
  let s := if x.intf then (s.incSat (Fld.LAU_INTFK_INTF k) 1).raise Cause.LAU_INTF else s
  let s := if x.blind then (s.incSat (Fld.LAU_INTFK_BLIND k) 1).raise Cause.LAU_BLIND else s
  let rains := (x.cands.filter (·.rain)).length
  let drop := set Fld.LAU_RAIN0_DROP = 1
  let s := s.incSat (Fld.LAU_RAINK_RAIN k) rains
  let s := if drop then s.incSat (Fld.LAU_RAINK_DROPPED k) rains else s
  let left := if drop then x.cands.filter (fun e => !e.rain) else x.cands
  let emitted := select (set Fld.LAU_CTRL_POLICY) (set Fld.LAU_CTRL_NECHO + 1) left
  let s := (s.withHists (SMap.erase s.hists c)).withLau { s.lau with
                                        cache := SMap.set (fun _ => ({} : EchoCache)) s.lau.cache c (cacheAfter v x.cands),
                                        peek := SMap.set (fun _ => ([] : List Echo)) s.lau.peek c emitted }
  (s.lauOutcome v.mcol x.out h.eff, emitted, x.out, v.mcol)

/-- A word of LAU_PEEK (Table 9.7). -/
def State.peekWord (s : State) (w : Nat) : Word :=
  match (SMap.get (fun _ => ([] : List Echo)) s.lau.peek (s.f Fld.LAU_PEEKSEL_CH))[w / 2]? with
  | none => 0
  | some e =>
    if w % 2 = 0 then
      BitVec.ofNat 32 (2 ^ 31 + e.invalid.toNat * 2 ^ 30 + e.aliased.toNat * 2 ^ 29 + e.field.toNat * 2 ^ 28 + e.zoomed.toNat * 2 ^ 27
        + e.thin.toNat * 2 ^ 26 + e.sat.toNat * 2 ^ 25 + e.rain.toNat * 2 ^ 24 + e.range % 2 ^ 21)
    else BitVec.ofNat 32 (e.int % 4096 * 65536 + e.width % 256)

/-- The field-map entries of field column `f` (R193): the non-zero ones of its 1024 channels. -/
def State.fieldEntries (s : State) (f : Nat) : SMap (BitVec 16) :=
  let base := 0x02000000 + 2048 * f
  let chs := ((s.mem.filter (fun p => base ≤ p.1 && p.1 < base + 2048)).map (fun p => (p.1 - base) / 2)).eraseDups
  chs.map (fun c => (c, s.mgetH (base + 2 * c)))

/-- What the Lauter latches at the bank swap that closes a column (R185, R193). `fue` are channels whose entry reads with an uncorrectable error (R362). -/
def State.lauLatch (s : State) (col : LauCol) (fue : List Nat) : State :=
  let s := fue.foldl (fun s c => (s.raise Cause.FMAP_UE).logEvent 0x0031 5 (BitVec.ofNat 32 (0x02000000 + 2048 * (col.az / 32) + 2 * c))) s
  let col := { col with
    fields := s.fieldEntries (col.az / 32), fieldUe := fue,
    temps := (List.range 64).map (fun k => s.fs (Fld.THERM_T_T k)),
    tjs := (List.range 8).map (fun n => s.fs (Fld.KILN_TJ_TJ n)) }
  s.withLau { s.lau with cols := col :: s.lau.cols.take 1 }

/-- The column of number `m` is complete: every channel has its outcome (R194). LAU_FLD0 and LAU_FLD1 then show its summary. -/
def State.lauComplete (s : State) (m : Nat) : Bool :=
  let c := s.lauCol m
  s.lau.cols.any (fun x => decide (x.mcol = m)) && decide (1024 ≤ c.judged) && !c.complete

/-- Showing a complete column's summary, and the release of HZD at the end of a complete sweep without a selected cause (R194, R195). -/
def State.lauSummary (s : State) (m : Nat) : State :=
  let c := s.lauCol m
  let s := (s.setF Fld.LAU_FLD0_NPROT c.nprot).setF Fld.LAU_FLD0_NWARN c.nwarn
  let s := (s.setF Fld.LAU_FLD1_NUNEV c.nunev).setF Fld.LAU_FLD1_FCOL (c.az / 32)
  let s := s.modLau m (fun c => { c with complete := true })
  if c.ends then
    let clean := !s.lau.dirty && c.whole && s.dev = .scan
    let s := s.withLau { s.lau with dirty := false }
    if clean then s.setB Fld.LAU_STAT_HZD false else s
  else s

end Sys2Proof.Machine
end

