-- ==== Sys2Proof/Machine/Wort.lean ====
section
/-!
DEFINITION. The Wort (R199-R214): records, compression, admission of columns, GAP and KEY rules, and the datagrams of the ETH stream.
-/
namespace Sys2Proof.Machine

/-! ## Encoding (R202-R206) -/

/-- The words of a bit string, bit 0 of the first word first, padded with zeros (R203). -/
def packBits : Nat → List Bool → List Word
  | 0, _ => []
  | _ + 1, [] => []
  | k + 1, b :: l =>
    let w := (((b :: l).take 32).zipIdx).foldl (fun a p => a + if p.1 then 2 ^ p.2 else 0) 0
    BitVec.ofNat 32 w :: packBits k ((b :: l).drop 32)

/-- The low `n` bits of `v`, least significant first. -/
def lsbBits (v n : Nat) : List Bool := (List.range n).map (fun i => v.testBit i)

/-- The Rice code of `v` against a reference (R204): `esc` is the width of v after 24 one-bits. -/
def riceCode (k esc v ref : Nat) : List Bool :=
  let u : Nat := if ref ≤ v then 2 * (v - ref) else 2 * (ref - v) - 1
  let q := u / 2 ^ k
  if q < 24 then List.replicate q true ++ false :: lsbBits u k else List.replicate 24 true ++ lsbBits v esc

/-- The value a range is coded as (Table 10.5). -/
def codedRange (comp r : Nat) : Nat := if comp = 1 then r else min 524287 ((r + 2) / 4)

/-- The coded echoes of a record, `vs` being the v of the echoes before (in order) (R203, R204). -/
def codeEchoes (comp k : Nat) (refs : List Nat) : List Nat → List Echo → List Bool
  | _, [] => []
  | vs, e :: l =>
    let j := vs.length
    let v := codedRange comp e.range
    let ref := match refs[j]? with | some r => r | none => (vs.getLast?).getD 0
    let efl := [e.rain, e.sat, e.zoomed, e.field, e.invalid]
    let rest := if comp = 1 then lsbBits e.int 12 ++ lsbBits e.width 8 else lsbBits (e.int / 16) 8 ++ lsbBits (min 15 (e.width / 8)) 4
    riceCode k (if comp = 1 then 21 else 19) v ref ++ rest ++ efl ++ codeEchoes comp k refs (vs ++ [v]) l

/-- A raw echo word (Table 10.4). -/
def rawEcho (ch idx : Nat) (e : Echo) : BitVec 64 :=
  let fl := e.invalid.toNat * 64 + e.aliased.toNat * 32 + e.field.toNat * 16 + e.zoomed.toNat * 8 + e.thin.toNat * 4 + e.sat.toNat * 2 + e.rain.toNat
  BitVec.ofNat 64 (fl * 2 ^ 53 + e.width % 256 * 2 ^ 45 + e.int % 4096 * 2 ^ 33 + e.range % 2 ^ 21 * 2 ^ 12 + idx % 4 * 1024 + ch % 1024)

/-- The echoes a record codes: mode 3 keeps index 0 only (R203). -/
def codedList (comp : Nat) (es : List Echo) : List Echo := if comp = 3 then es.take 1 else es

/-- The words of an ECHO record (Table 10.3, R203). -/
def echoWords (comp k ch : Nat) (aliased thin : Bool) (refs : List Nat) (es : List Echo) : List Word :=
  let es := codedList comp es
  let pay := if comp = 0 then es.zipIdx.flatMap (fun p => let w := rawEcho ch p.2 p.1; [w.extractLsb' 0 32, w.extractLsb' 32 32])
    else packBits 16 (codeEchoes comp k refs [] es)
  BitVec.ofNat 32 (2 * 2 ^ 28 + pay.length * 2 ^ 24 + aliased.toNat * 2 ^ 23 + thin.toNat * 2 ^ 22 + (es.length - 1) * 2 ^ 16 + ch % 1024) :: pay

/-- A GAP record (Table 10.8). -/
def gapRec (g : GapRun) : OutRec :=
  { kind := .gap, frame := g.first,
    words := [BitVec.ofNat 32 (4 * 2 ^ 28 + 2 ^ 24 + g.first % 2 ^ 24), BitVec.ofNat 32 (g.cause * 2 ^ 24 + g.count % 2 ^ 24)] }

/-- The run that a GAP record names. -/
def gapOf (r : OutRec) : GapRun :=
  let w := (r.words.getD 1 0).toNat
  { first := r.frame, count := w % 2 ^ 24, cause := w / 2 ^ 24 }

/-- The runs that the GAP records among `l` name. -/
def gapsOf (l : List OutRec) : List GapRun := (l.filter (fun r => r.kind = .gap)).map gapOf

/-- What a COLUMN record is built from (Table 10.2). -/
structure ColInfo where
  frame : Nat
  az : Nat
  ts : Nat
  tv : Bool
  sos : Bool
  kstate : Nat
  granted : Nat
  planned : Nat
  rows : BitVec 64
  lost : BitVec 64
  mcol : Nat
  deriving DecidableEq, Repr

/-- A COLUMN record (Table 10.2). -/
def colRec (c : ColInfo) (comp rk dec : Nat) (key isNew : Bool) : OutRec :=
  { kind := .column, frame := c.frame,
    words := [BitVec.ofNat 32 (2 ^ 28 + 7 * 2 ^ 24 + c.frame % 2 ^ 24),
      BitVec.ofNat 32 (c.az % 65536 * 2 ^ 16 + comp * 2 ^ 14 + rk * 1024 + key.toNat * 512 + c.sos.toNat * 256 + dec % 8 * 32 + c.tv.toNat * 16 + isNew.toNat * 8),
      BitVec.ofNat 32 c.ts,
      BitVec.ofNat 32 (c.kstate % 256 * 2 ^ 24 + c.granted % 1024 * 1024 + c.planned % 1024),
      c.rows.extractLsb' 0 32, c.rows.extractLsb' 32 32, c.lost.extractLsb' 0 32, c.lost.extractLsb' 32 32] }

/-- A TIME record for a column of FRAME `frame` with TS and TV (Table 10.7, R207), and whether the anchor is too old. -/
def State.timeRec (s : State) (frame ts : Nat) (tv : Bool) : OutRec × Bool :=
  let a := s.anchor
  let old := decide (2 ^ 31 ≤ (ts + 2 ^ 32 - a.cnt.toNat) % 2 ^ 32)
  let valid := a.valid && decide (a.nsec.toNat < 1000000000) && tv && !old
  ({ kind := .time, frame := frame,
     words := [BitVec.ofNat 32 (3 * 2 ^ 28 + 4 * 2 ^ 24 + frame % 2 ^ 24), a.cnt, a.secLo, BitVec.ofNat 32 (valid.toNat * 2 ^ 31 + a.secHi.toNat), a.nsec] }, old)

/-! ## Streams -/

/-- The state of stream `st`: 0 DWL, 1 ETH. -/
def State.stream (s : State) (st : Nat) : StreamSt := if st = 0 then s.wort.dwl else s.wort.eth

/-- Changing it. -/
def State.modStream (s : State) (st : Nat) (g : StreamSt → StreamSt) : State :=
  s.withWort (if st = 0 then { s.wort with dwl := g s.wort.dwl } else { s.wort with eth := g s.wort.eth })

/-- The stream is in use: DWL by its mode (R217), ETH by WORT_ETH.EN. -/
def State.streamOn (s : State) (st : Nat) : Bool :=
  if st = 0 then let m := s.f Fld.DWL_CTRL_MODE; m = 1 || m = 2 else s.ef Fld.WORT_ETH_EN = 1

/-- Words of a list of records. -/
def recWords (l : List OutRec) : Nat := l.foldl (fun a r => a + r.words.length) 0

/-- FILL of a stream in words (R212): stored and reserved. -/
def State.streamFill (s : State) (st : Nat) : Nat :=
  let x := s.stream st
  let res := x.cols.foldl (fun a c => a + c.reserved) 0
  let stored := if st = 0 then recWords x.out + s.dwl.prog.foldl (fun a f => if f.chan = 0 then a + recWords f.recs else a) 0
    else (s.wort.dopen.map (fun d => recWords d.1)).getD 0 + s.wort.dgrams.foldl (fun a d => if d.stream = 0 then a + recWords d.recs else a) 0
  stored + res

/-- WORT_STAT as it reads (Table 10.13): fills in units of 64 bytes. -/
def State.wortStat (s : State) : Word :=
  BitVec.ofNat 32 (min 0xFFFF (s.streamFill 0 / 16) * 2 ^ 16 + min 0x1FFF (s.streamFill 1 / 16) * 8 + s.wort.dwl.level)

/-- Runs of one cause that meet are one (R208). -/
def joinGaps : List GapRun → List GapRun
  | [] => []
  | x :: l => match joinGaps l with
    | [] => [x]
    | y :: r => if x.cause = y.cause && x.first + x.count = y.first then { x with count := x.count + y.count } :: r else x :: y :: r

/-- Omitted frames enter a list in frame order (R208). -/
def addGap (l : List GapRun) (g : GapRun) : List GapRun :=
  joinGaps (l.takeWhile (fun x => decide (x.first ≤ g.first)) ++ g :: l.dropWhile (fun x => decide (x.first ≤ g.first)))

/-- Frame `frame` is omitted on stream `st` for a cause: it is to be named, and on DWL it is counted (Table 10.13). -/
def State.omitFrame (s : State) (st frame cause : Nat) : State :=
  let s := s.modStream st (fun x => { x with gaps := addGap x.gaps { first := frame, count := 1, cause := cause } })
  if st != 0 || cause = 1 then s
  else if cause = 2 then s.incSat Fld.WORT_CNT_DECIM 1 else s.incSat Fld.WORT_CNT_DROPPED 1

/-! ## The ETH datagrams (R213) -/

/-- The open datagram of datagram stream `k`: 0 points, 1 legal records. -/
def State.dgOpen (s : State) (k : Nat) : Option (List OutRec × Nat) := if k = 0 then s.wort.dopen else s.wort.lopen

/-- Changing it. -/
def State.setDgOpen (s : State) (k : Nat) (d : Option (List OutRec × Nat)) : State :=
  s.withWort (if k = 0 then { s.wort with dopen := d } else { s.wort with lopen := d })

/-- The open datagram is closed at the present time. -/
def State.closeDgram (s : State) (k : Nat) : State :=
  match s.dgOpen k with
  | none => s
  | some (rs, _) =>
    let s := s.setDgOpen k none
    s.withWort { s.wort with dgrams := s.wort.dgrams ++ [{ stream := k, recs := rs, closed := s.now }] }

/-- 20 µs have passed since the first record of an open datagram (R213). -/
def State.dgOld (s : State) (k : Nat) : Bool := (s.dgOpen k).any (fun d => decide (d.2 + 20000 ≤ s.now))

/-- A record enters the open datagram; one it would not fit into, or whose 20 µs are over, is closed first. -/
def State.dgramAdd (s : State) (k : Nat) (r : OutRec) : State :=
  let fits := (s.dgOpen k).all (fun d => decide (recWords d.1 + r.words.length ≤ 366))
  let s := if fits && !s.dgOld k then s else s.closeDgram k
  s.setDgOpen k (some (match s.dgOpen k with | none => ([r], s.now) | some (rs, t) => (rs ++ [r], t)))

/-- Row DATAGRAM_CLOSE_TIMEOUT: an open datagram closes 20 µs after its first record (R213). -/
def execDatagramCloseTimeout (s : State) : Out :=
  let s := if s.dgOld 0 then s.closeDgram 0 else s
  .next (if s.dgOld 1 then s.closeDgram 1 else s)

/-- A record is written: into the DWL part, or into an ETH datagram. -/
def State.writeRec (s : State) (st : Nat) (r : OutRec) : State :=
  let s := s.raiseIf (r.kind = .gap) Cause.WORT_GAP
  if st = 0 then s.modStream 0 (fun x => { x with out := x.out ++ [r] }) else s.dgramAdd 0 r

/-! ## Key columns after a cut (R204, R205, R207) -/

/-- The records of a column that follows a cut, made a key column (R205): KEY set in its COLUMN record, a TIME record before it, its ECHO records
without references. Answers too whether the TIME record finds its anchor too old. -/
def State.rekey (s : State) (frame : Nat) (comp rk : Nat) (rs : List OutRec) : List OutRec × Bool :=
  let time (r : OutRec) : OutRec × Bool := s.timeRec frame (r.words.getD 2 0).toNat ((r.words.getD 1 0).getLsbD 4)
  let isNew (r : OutRec) : Bool := r.frame = frame && r.kind = .column && !(r.words.getD 1 0).getLsbD 9
  (rs.flatMap (fun r =>
    if r.frame != frame then [r] else
    match r.kind with
    | .column => if isNew r then [(time r).1, { r with words := r.words.set 1 (r.words.getD 1 0 ||| 0x200) }] else [r]
    | .echo ch al th es => [{ r with words := echoWords comp rk ch al th [] es }]
    | _ => [r]), rs.any (fun r => isNew r && (time r).2))

/-! ## Columns in work (R204, R210, R212) -/

/-- The oldest column in work begins: the GAP records of the frames omitted before it, and its TIME and COLUMN records are written (R208, R210). After a cut it is a key
column (R205). -/
def State.startHead (s : State) (st : Nat) : State :=
  match (s.stream st).cols with
  | [] => s
  | c :: r =>
    if c.hdr.isEmpty then s else
    let x := s.stream st
    let h := if x.force then s.rekey c.frame c.comp c.rk c.hdr else (c.hdr, false)
    let l := (x.gaps.filter (fun g => decide (g.first < c.frame))).map gapRec ++ h.1
    let s := s.raiseIf h.2 Cause.WORT_ANCH_OLD
    let s := s.modStream st (fun y => { y with
      gaps := y.gaps.filter (fun g => decide (c.frame ≤ g.first)), force := false,
      cols := { c with hdr := [], key := c.key || x.force, reserved := c.reserved - recWords l } :: r })
    l.foldl (fun s x => s.writeRec st x) s

/-- The oldest column in work is complete: its reservation is released, its values become the references, an ETH datagram closes. -/
def State.finishHead (s : State) (st : Nat) : State :=
  let s := s.modStream st (fun x => { x with cols := x.cols.drop 1, refs := x.newRefs, newRefs := [] })
  let s := if st = 0 then s else s.closeDgram 0
  s.startHead st

/-- What became of channel `ch` in the column of number `m`: none while it is not processed. -/
def State.doneOf (s : State) (m ch : Nat) : Option (List Echo) := SMap.get (fun _ => none) s.wort.done (1024 * m + ch)

/-- The next channel of a column that holds an ECHO record to emit or is not yet processed, from `ch` on; 1024 if none is left. -/
def State.nextChan (s : State) (c : ColOut) : Nat → Nat → Nat
  | 0, ch => ch
  | k + 1, ch =>
    if 1024 ≤ ch then 1024
    else if !c.rows.getLsbD (ch / 16) then s.nextChan c k (ch + 1)
    else match s.doneOf c.mcol ch with
      | some [] => s.nextChan c k (ch + 1)
      | _ => ch

/-- Columns whose every channel is done are finished; `k` bounds how many. -/
def State.settle (s : State) (st : Nat) : Nat → State
  | 0 => s
  | k + 1 =>
    match (s.stream st).cols with
    | [] => s
    | c :: r =>
      let n := s.nextChan c 1024 c.next
      let s := s.modStream st (fun x => { x with cols := { c with next := n } :: r })
      if 1024 ≤ n then (s.finishHead st).settle st k else s

/-- Stream `st` emits its next ECHO record if every lower channel is processed (R202, R204, R210). -/
def State.emitEcho (s : State) (st : Nat) : State :=
  let s := s.settle st 4
  match (s.stream st).cols with
  | [] => s
  | c :: r =>
    match s.doneOf c.mcol c.next with
    | none => s
    | some es =>
      if 1024 ≤ c.next then s else
      let x := s.stream st
      let refs := if c.key then [] else SMap.get (fun _ => ([] : List Nat)) x.refs c.next
      let al := es.any (·.aliased)
      let th := es.any (·.thin)
      let w := echoWords c.comp c.rk c.next al th refs es
      let vs := (codedList c.comp es).map (fun e => codedRange c.comp e.range)
      let s := s.modStream st (fun x => { x with newRefs := SMap.set (fun _ => ([] : List Nat)) x.newRefs c.next vs,
                                                 cols := { c with next := c.next + 1, reserved := c.reserved - w.length } :: r })
      (s.writeRec st { kind := .echo c.next al th es, frame := c.frame, words := w }).settle st 4

/-- Row ECHO_RECORD_EMIT: stream `st` (0 DWL, 1 ETH) emits its next ECHO record. -/
def execEchoRecordEmit (st : Nat) (s : State) : Out := .next (if st < 2 then s.emitEcho st else s)

/-- All ECHO records that are due on stream `st`, at most `k`. -/
def State.emitAll (s : State) (st : Nat) : Nat → State
  | 0 => s
  | k + 1 => (s.emitEcho st).emitAll st k

/-! ## Admission (R205, R208, R212) -/

/-- W_h of a mode (Table 10.6). -/
def worstWords (comp : Nat) : Nat := match comp with | 0 => 9 | 1 => 10 | 2 => 9 | _ => 3

/-- The DWL level for a fill in words (R212). -/
def State.newLevel (s : State) (fill : Nat) : Nat :=
  let h1 := s.ef Fld.WORT_BUF0_HIGH1 * 256
  let h2 := max h1 (s.ef Fld.WORT_BUF0_HIGH2 * 256)
  let low := if h1 ≤ s.ef Fld.WORT_BUF1_LOW * 256 then h1 - 256 else s.ef Fld.WORT_BUF1_LOW * 256
  let old := s.wort.dwl.level
  if h2 ≤ fill then 2 else if h1 ≤ fill then max old 1 else if fill ≤ low then 0 else old

/-- Stream `st` decides on the closed column at the bank swap (R212) and, if it admits it, builds its TIME and COLUMN records (R205, R207). -/
def State.admitCol (s : State) (st : Nat) (c : ColInfo) : State :=
  if !s.streamOn st then
    if st = 0 then s else s.modStream 1 (fun x => { x with gaps := addGap x.gaps { first := c.frame, count := 1, cause := Config.gapCauseOff } })
  else
    let fill := s.streamFill st
    let level := if st = 0 then s.newLevel fill else min 4 (s.ef Fld.WORT_ETH_DECE)
    let s := s.raiseIf (st = 0 && s.wort.dwl.level = 0 && level != 0) Cause.WORT_DEC
    let s := s.modStream st (fun x => { x with level := level })
    let comp := if st = 0 then s.ef Fld.WORT_CTRL_COMPD else s.ef Fld.WORT_CTRL_COMPE
    let rk := s.ef Fld.WORT_CTRL_RK
    let rcol := 15 + 16 * popcount c.rows * worstWords comp
    if c.frame % 2 ^ level != 0 then s.omitFrame st c.frame 2
    else if (if st = 0 then 458752 else 65536) < fill + rcol then
      (s.omitFrame st c.frame 3).raise (if st = 0 then Cause.WORT_OVF else Cause.WORT_ETH_OVF)
    else
      let x := s.stream st
      let follows := match x.prev with
        | some (f, pc, pk) => f + 1 = c.frame && pc = comp && pk = rk
        | none => false
      let key := x.isNew || c.sos || s.ef Fld.WORT_CTRL_KEYALL = 1 || !follows
      let (tr, old) := s.timeRec c.frame c.ts c.tv
      let s := s.raiseIf (key && old) Cause.WORT_ANCH_OLD
      let hdr := (if key then [tr] else []) ++ [colRec c comp rk level key x.isNew]
      let s := s.modStream st (fun x => { x with
        isNew := false, prev := some (c.frame, comp, rk),
        cols := x.cols ++ [{ frame := c.frame, comp := comp, rk := rk, key := key, mcol := c.mcol, rows := c.rows, hdr := hdr, reserved := rcol }] })
      let s := s.setF Fld.WORT_FRAME_FRAME (c.frame % 2 ^ 24)
      (if (s.stream st).cols.length = 1 then s.startHead st else s).settle st 4

/-- A target is skipped: its frame has cause SKIP on both streams (R106, R208). -/
def State.wortSkip (s : State) : State :=
  let f := s.wort.frame
  let s := s.withWort { s.wort with frame := f + 1 }
  (if s.streamOn 0 then s.omitFrame 0 f 1 else s).omitFrame 1 f 1

/-- The entry to SCAN: FRAME starts at 0 (R200, Table 10.12). Frames omitted and not yet named are named before the first column. -/
def State.wortScan (s : State) : State :=
  let clr (x : StreamSt) : StreamSt := { x with isNew := true }
  let f := (s.wort.frame / 2 ^ 24 + 1) * 2 ^ 24
  s.withWort { s.wort with frame := f, curFrame := f, dwl := clr s.wort.dwl, eth := clr s.wort.eth }

/-- A histogram of channel `ch` in the column of number `m` is processed, with the echoes to emit (R210). -/
def State.wortDone (s : State) (m ch : Nat) (es : List Echo) : State :=
  let s := s.withWort { s.wort with done := SMap.set (fun _ => (none : Option (List Echo))) s.wort.done (1024 * m + ch) (some es) }
  (s.settle 0 4).settle 1 4

/-- The outcomes noted for column `m` are forgotten. -/
def State.forgetDone (s : State) (m : Nat) : State :=
  s.withWort { s.wort with done := s.wort.done.filter (fun p => p.1 / 1024 != m) }

/-- The results of the column of number `m` are no longer needed. -/
def State.wortForget (s : State) (m : Nat) : State :=
  ((s.emitAll 0 1024).emitAll 1 1024).forgetDone m

/-! ## Cutting columns (R212 ECC, R214, R219) -/

/-- Frames in rising runs of one cause. -/
def gapRuns (cause : Nat) (fs : List Nat) : List GapRun := fs.foldl (fun l f => addGap l { first := f, count := 1, cause := cause }) []

/-- COMP and RK of a COLUMN record among the records of `frame`. -/
def compRk (frame : Nat) (rs : List OutRec) : Nat × Nat :=
  match rs.find? (fun r => r.frame = frame && r.kind = .column) with
  | some r => let w := (r.words.getD 1 0).toNat; (w / 2 ^ 14 % 4, w / 1024 % 16)
  | none => (0, 0)

/-- An ECHO record. -/
def OutRec.isEcho (r : OutRec) : Bool := match r.kind with | .echo .. => true | _ => false

/-- The records that `frames` leave behind when they are cut: those of other frames, and GAP records. -/
def uncut (frames : List Nat) (rs : List OutRec) : List OutRec := rs.filter (fun r => r.kind = .gap || !frames.contains r.frame)

/-- A stream's unsent records after a cut (R205, R208): the frames of `pool` are omitted and not yet named. -/
structure Resumed where
  recs : List OutRec
  pool : List GapRun
  /-- the first column of which the COLUMN record is unsent: it is a key column now -/
  col : Option Nat
  old : Bool
  deriving DecidableEq, Repr

/-- The unsent records `rs` of a stream after a cut: GAP records before the first COLUMN record name what is omitted before it, and its column becomes a key column. Records of a
column whose COLUMN record has gone go first, as they are. -/
def State.resume (s : State) (pool : List GapRun) (rs : List OutRec) : Resumed :=
  let pre := rs.takeWhile OutRec.isEcho
  let post := rs.dropWhile OutRec.isEcho
  match post.find? (fun r => r.kind = .column) with
  | none => { recs := pre, pool := (gapsOf post).foldl addGap pool, col := none, old := false }
  | some c =>
    let lead := post.takeWhile (fun r => r.kind != .column)
    let pool := (gapsOf lead).foldl addGap pool
    let (comp, rk) := compRk c.frame post
    let k := s.rekey c.frame comp rk (lead.filter (fun r => r.kind != .gap) ++ post.dropWhile (fun r => r.kind != .column))
    { recs := pre ++ (pool.filter (fun g => decide (g.first < c.frame))).map gapRec ++ k.1, pool := pool.filter (fun g => decide (c.frame ≤ g.first)),
      col := some c.frame, old := k.2 }

/-- Columns in work after a cut of `frames`: those of it are given up, and the one whose COLUMN record became a key column's is one. -/
def cutCols (frames : List Nat) (key : Option Nat) (l : List ColOut) : List ColOut :=
  (l.filter (fun c => !frames.contains c.frame)).map (fun c => if key = some c.frame then { c with key := true } else c)

/-- Stream `st` after a cut of `frames`, its unsent records and omitted frames being those of `x`: the next column to start is a key column where none of those stored is. -/
def State.cutStream (s : State) (st : Nat) (frames : List Nat) (x : Resumed) : State :=
  let s := (s.raiseIf (x.col.isSome && x.recs.any (fun r => r.kind = .gap)) Cause.WORT_GAP).raiseIf x.old Cause.WORT_ANCH_OLD
  s.modStream st (fun y => { y with
    gaps := x.pool, force := y.force || (x.col.isNone && !frames.isEmpty), cols := cutCols frames x.col y.cols,
    newRefs := if (match y.cols with | c :: _ => !frames.contains c.frame | [] => false) then y.newRefs else [] })

/-- Cutting the DWL stream's columns of `frames` for a cause (R212, R219); `lost` are the runs of GAP records that went with them. The frames are counted (Table 10.13). -/
def State.cutDwl (s : State) (frames : List Nat) (lost : List GapRun) (cause : Nat) : State :=
  if frames.isEmpty && lost.isEmpty then s else
  let x := s.wort.dwl
  let r := s.resume ((gapRuns cause frames ++ lost).foldl addGap x.gaps) (uncut frames x.out)
  let s := (s.cutStream 0 frames r).modStream 0 (fun y => { y with out := r.recs })
  (s.incSat Fld.WORT_CNT_DROPPED frames.length).startHead 0

/-! ## The anchor (R207) -/

/-- A write of WORT_ANCH_SHI commits the four staged registers (R207). -/
def State.anchorCommit (s : State) : State :=
  let v := s.rget Reg.WORT_ANCH_SHI
  s.withAnchor { cnt := s.rget Reg.WORT_ANCH_CNT, secLo := s.rget Reg.WORT_ANCH_SLO, secHi := v.extractLsb' 0 16, nsec := s.rget Reg.WORT_ANCH_NS,
                       valid := v.msb }

/-! ## ETH discards (R214) -/

/-- Records packed into point datagrams. -/
def packDgrams (closed : Nat) : List OutRec → List OutRec → List Dgram
  | [], cur => if cur.isEmpty then [] else [{ stream := 0, recs := cur, closed := closed }]
  | r :: l, cur =>
    if recWords cur + r.words.length ≤ 366 then packDgrams closed l (cur ++ [r])
    else { stream := 0, recs := cur, closed := closed } :: packDgrams closed l [r]

/-- The frames whose records a datagram carries. -/
def Dgram.frames (d : Dgram) : List Nat := (d.recs.filter (fun r => r.kind != .gap)).map (·.frame) |>.eraseDups

/-- A list of records holds some of the frames `fs`, GAP records apart. -/
def holdsOf (fs : List Nat) (rs : List OutRec) : Bool := rs.any (fun r => r.kind != .gap && fs.contains r.frame)

/-- Cutting the ETH stream's columns of `frames` for a cause (R212, R214), where the point datagrams `pts` and the open one `op` are left: those up to the first column that
goes on are packed anew, with the GAP records before it and as a key column. -/
def State.cutEth (s : State) (frames : List Nat) (lost : List GapRun) (cause : Nat) (pts : List Dgram) (op : Option (List OutRec × Nat)) : State :=
  let pool := (gapRuns cause frames ++ lost).foldl addGap s.wort.eth.gaps
  let opRecs := (op.map (·.1)).getD []
  let first := ((pts.flatMap (·.recs) ++ opRecs).find? (fun r => r.kind = .column)).map (·.frame)
  let inOpen := holdsOf first.toList opRecs || first.isNone
  let n := if inOpen then pts.length else pts.length - (pts.reverse.takeWhile (fun d => !holdsOf first.toList d.recs)).length
  let r := s.resume pool ((pts.take n).flatMap (·.recs) ++ if inOpen then opRecs else [])
  let ds := packDgrams (((pts.head?).map (·.closed)).getD s.now) r.recs []
  let stays := inOpen && op.isSome
  let op' := if !inOpen then op else if stays then (ds.getLast?).map (fun d => (d.recs, ((op.map (·.2)).getD s.now))) else none
  let s := s.cutStream 1 frames r
  let s := s.withWort { s.wort with dopen := op', dgrams := (if stays then ds.dropLast else ds) ++ pts.drop n ++ s.wort.dgrams.filter (fun d => d.stream != 0) }
  s.startHead 1

end Sys2Proof.Machine
end

