-- ==== Sys2Proof/Machine/Cask.lean ====
section
/-!
DEFINITION. The sealed measuring partition (chapter 16): refused writes, APPLY, the detection references, and the legal record generator (R209, R330-R333).
-/
namespace Sys2Proof.Machine

/-! ## Outward page (R334) -/

/-- The identification the outward page and CASK_INFO report: zero before the NVM is available or while none is recorded (R328, Table 19.3). -/
def State.caskSha (s : State) : List Byte := if s.rst.nvmAvail then s.nvm.caskId.getD (List.replicate 32 0) else List.replicate 32 0

/-- The counter as it reads. -/
def State.caskMec (s : State) : Word := if s.rst.nvmAvail then s.nvm.mec else 0

/-- The key is provisioned (R333). -/
def State.keySet (s : State) : Bool := s.nvm.cmacKey.isSome

/-- CASK_STAT as it reads (Table 16.4). -/
def State.caskStat (s : State) : Word :=
  let v := s.rget Reg.CASK_STAT
  let v := Fld.CASK_STAT_KEYSET.put v s.keySet.toNat
  let v := Fld.CASK_STAT_SERVICE.put v (decide (s.dev = .service)).toNat
  let v := Fld.CASK_STAT_SEALED.put v s.pins.sealedLow.toNat
  Fld.CASK_STAT_IDVALID.put v s.nvm.caskId.isSome.toNat

/-- CASK_KCV as it reads (R333): the first three bytes of the encryption of the zero block, byte 0 lowest. -/
def State.kcv (s : State) : Word :=
  match s.nvm.cmacKey with
  | none => 0
  | some k => bytesW ((aesEncrypt k (List.replicate 16 0)).take 3) 0

/-- CASK_SEQ as it reads. Before the commit it shows the base that the NVM holds. -/
def State.caskSeq (s : State) : Word := if !s.rst.nvmAvail then 0 else BitVec.ofNat 32 (if s.dev = .boot then s.nvm.seqBase else s.cask.seq)

/-! ## Refused writes (R325) -/

/-- A refused CASK write is counted; one is logged in 1000 ms ticks. -/
def State.caskRefuse (s : State) : State :=
  let s := (s.incSat Fld.CASK_STAT_REFUSED 1).raise Cause.CASK_REFUSED
  let quiet := match s.cask.refMs with | some w => decide (s.ms < w + 1000) | none => false
  if quiet then s
  else (s.withCask { s.cask with refMs := some s.ms }).logEvent 0x0061 (BitVec.ofNat 32 (s.f Fld.CASK_STAT_REFUSED)) 0

/-! ## Calibration and detection references (R186, R326) -/

/-- The registers of the staged copy: CASK_DETREF0-5, NSETS and the calibration sets. -/
def stagedAddr (a : Nat) : Bool := (Reg.CASK_DETREF 0 ≤ a && a ≤ Reg.CASK_DETREF 5) || a = Reg.CASK_CALCFG || (0x152000 ≤ a && a < 0x158000)

/-- The staged content becomes active, and ORDER_ERR follows it (R185, R186). -/
def State.caskActivate (s : State) : State :=
  let keep (p : Nat × Word) : Option (Nat × Word) :=
    if !stagedAddr p.1 then none
    else if p.1 = Reg.CASK_CALCFG then (if p.2.toNat % 16 = 0 then none else some (p.1, BitVec.ofNat 32 (p.2.toNat % 16)))
    else some p
  let s := s.withCal (s.regs.filterMap keep)
  s.setB Fld.CASK_CALCFG_ORDER_ERR (decide (s.nsets < s.nsetsRaw))

/-- A write of 1 to APPLY by DSP0 (R326, R328): refused outside SERVICE, while BUSY, or once the counter is saturated. Otherwise the counter's NVM write
is due; an APPLY acts when it has been written. -/
def State.caskApply (s : State) : State :=
  if s.dev != .service || s.b Fld.CASK_CALCFG_BUSY || s.nvm.mec = 0xFFFFFFFF then s.caskRefuse
  else s.nvmPush (.mec (s.nvm.mec + 1))

/-- Row CASK_APPLY: DSP0 writes APPLY. -/
def execCaskApply (s : State) : Out := .next s.caskApply

/-- A write of CASK_CALCFG by DSP0 (R186, R326). -/
def State.calcfgWrite (s : State) (v : Word) : State :=
  if s.dev != .service then s.caskRefuse
  else
    let s := s.setF Fld.CASK_CALCFG_NSETS (v.toNat % 16)
    if v.getLsbD 8 then s.caskApply else s

/-- Row CASK_COPY_BACK_DONE: the staged copy holds the active content again (R186). No store can have changed it meanwhile, because an access to it
stalls until BUSY clears. -/
def execCaskCopyBackDone (s : State) : Out := .next (s.setB Fld.CASK_CALCFG_BUSY false)

/-! ## Legal record generator (R209, R330-R332) -/

/-- The counter's write of an APPLY. -/
def isMec : NvmWrite → Bool
  | .mec _ => true
  | _ => false

/-- The counter's write of an APPLY has begun (R326 step 1). -/
def State.applying (s : State) : Bool := s.nvm.cur.toList.any isMec

/-- R331: the generator accepts no record. -/
def State.lrsOff (s : State) : Bool := s.dev = .boot || s.dev = .service || !s.keySet || s.b Fld.CASK_STAT_SEQ_END

/-- A kind of the application (Table 16.3). -/
def appKind (k : Nat) : Bool := 0x100 ≤ k

/-- CASK_LRSSTAT.BLOCKED: R331, or DETCHG for an application kind. -/
def State.lrsBlocked (s : State) : Bool := s.lrsOff || (s.b Fld.CASK_STAT_DETCHG && appKind (s.f Fld.CASK_LRSHDR_KIND))

/-- CASK_LRSSTAT as it reads. -/
def State.lrsStat (s : State) : Word :=
  Fld.CASK_LRSSTAT_BUSY.put (Fld.CASK_LRSSTAT_BLOCKED.put (s.rget Reg.CASK_LRSSTAT) s.lrsBlocked.toNat) s.cask.sub.isSome.toNat

/-- A write of GO (R330, R331): ignored while BUSY or BLOCKED; a kind the generator does not accept is discarded. -/
def State.lrsGo (s : State) : State :=
  if s.cask.sub.isSome || s.lrsBlocked then s
  else if !appKind (s.f Fld.CASK_LRSHDR_KIND) then s.setB Fld.CASK_LRSSTAT_KIND_ERR true
  else
    let n := min 11 (s.f Fld.CASK_LRSHDR_NDATA)
    s.withCask { s.cask with sub := some { kind := s.f Fld.CASK_LRSHDR_KIND, ts := some (s.rget Reg.CASK_LRSTS),
                                                 data := (List.range n).map (fun i => s.rget (Reg.CASK_LRSDATA i)) } }

/-- Row CASK_LRSGO: DSP0 writes GO. -/
def execCaskLrsgo (s : State) : Out := .next s.lrsGo

/-- STATUS of a generator record (R330). -/
def State.lrsStatus (s : State) : Word :=
  BitVec.ofNat 32 (s.pins.sealedLow.toNat + 2 * s.f Fld.CASK_STAT_RUNMOD + 4 * s.f Fld.CASK_STAT_DETCHG)

/-- A record of the generator's own is due; `first` says that it precedes those that wait. Without a key, without DSP0 or after the end of the stream there is none. -/
def State.lrsOwn (s : State) (first : Bool) (kind : Nat) (data : List Word) : State :=
  if !s.keySet || s.b Fld.CASK_STAT_SEQ_END || !s.rst.sections.testBit 9 then s
  else
    let r : LrsRec := { kind := kind, ts := none, data := data }
    s.withCask { s.cask with own := if first then r :: s.cask.own else s.cask.own ++ [r] }

/-- The short identification as a word. -/
def State.caskShort (s : State) : Word := bytesW s.caskSha 0

/-- The words of a record with its SEQ and TAG (Table 10.9). -/
def lrsWords (key : List Byte) (kind seq : Nat) (ts : Word) (data : List Word) : List Word :=
  let ws := BitVec.ofNat 32 (5 * 2 ^ 28 + (4 + data.length) * 2 ^ 24 + kind % 65536) :: BitVec.ofNat 32 seq :: ts :: data
  let tag := cmac key (ws.flatMap wordBytes)
  ws ++ [bytesW tag 0, bytesW tag 4]

/-- A base of SEQ waits to be stored (R332). -/
def State.seqBasePending (s : State) : Bool :=
  (s.nvm.work ++ s.nvm.cur.toList).any (fun w => match w with | .seqBase _ => true | _ => false)

/-- Both output queues have room (R209). -/
def State.lrsRoom (s : State) : Bool :=
  decide (s.wort.lrsDwl.length ≤ Config.lrsQueueExtra) && decide (s.wort.lrsEth.length ≤ Config.lrsQueueExtra)

/-- SEQ goes on after an issued record (R332): a further multiple of 2¹⁶ is stored as the base, and the stream ends after 0xFFFF_FFFF. -/
def State.seqNext (s : State) : State :=
  let q := s.cask.seq + 1
  let s := s.withCask { s.cask with seq := q }
  if 2 ^ 32 ≤ q then (s.withCask { s.cask with own := [] }).setB Fld.CASK_STAT_SEQ_END true
  else if q % 65536 = 0 then s.nvmPush (.seqBase q) else s

/-- Row LRS_RECORD_ISSUE: the generator tags the next record and puts it into both output queues (R209, R330); its own records go first. BUSY falls when
DSP0's record goes, and line 5 of DSP0 sets. With DSP0 absent no record exists (R331), and in PARK the generator stands (R13). -/
def execLrsRecordIssue (s : State) : Out :=
  match s.nvm.cmacKey with
  | none => .next s
  | some key =>
    if s.dev = .park || s.lrsOff || !s.rst.sections.testBit 9 || !s.lrsRoom || s.seqBasePending || s.applying then .next s else
    match s.cask.own ++ s.cask.sub.toList with
    | [] => .next s
    | r :: _ =>
      let ws := lrsWords key r.kind s.cask.seq (r.ts.getD (s.time.ctr.extractLsb' 32 32)) r.data
      let s := (s.withWort { s.wort with lrsDwl := s.wort.lrsDwl ++ [ws], lrsEth := s.wort.lrsEth ++ [ws] }).dgramAdd 1 { kind := .lrs, frame := 0, words := ws }
      let s := if s.cask.own.isEmpty then (s.withCask { s.cask with sub := none }).line 0 5
        else s.withCask { s.cask with own := s.cask.own.drop 1 }
      .next s.seqNext

/-- The counter's write has ended: entry, activation, RUNMOD, and the copy back begins (R326 steps 2-4). Where SERVICE was left
meanwhile, the PARAM record of Table 16.3 follows now. -/
def State.applyDone (s : State) : State :=
  let old := s.nvm.mec
  let new := if old = 0xFFFFFFFF then old else old + 1
  let s := s.withNvm { s.nvm with mec := new }
  let s := (s.logEvent 0x0060 old new).caskActivate
  let s := (s.setB Fld.CASK_STAT_RUNMOD true).setB Fld.CASK_CALCFG_BUSY true
  if s.dev = .service then s else s.lrsOwn true 2 [s.caskShort, new, s.lrsStatus]

/-! ## Detection references (R307, R329) -/

/-- The detection settings that judge the column closed at a boundary, in the order of Table 15.2: the LAUTER settings that take effect there (R196), and
RX_COINC as it was in force during the column. -/
def State.detSettings (s : State) : List Word :=
  [s.rget Reg.LAU_CTRL &&& 0x300, s.rget Reg.LAU_THR, s.rget Reg.LAU_TAPS0, s.rget Reg.LAU_TAPS1, s.rget Reg.LAU_SUN, s.effGet Reg.RX_COINC]

/-- The mask of settings that differ from the references `ref` (R307, R329). -/
def State.detMask (s : State) (ref : Nat → Word) : Nat :=
  (List.range 6).foldl (fun acc i => acc + if (s.detSettings.getD i 0) != ref i then 2 ^ i else 0) 0

/-- The Cask's comparison at a column boundary in SCAN (R329). -/
def State.caskBoundary (s : State) : State :=
  let m := s.detMask (fun i => s.calWord (Reg.CASK_DETREF i))
  let was := s.b Fld.CASK_STAT_DETCHG
  let s := s.setB Fld.CASK_STAT_DETCHG (m != 0)
  if m != 0 && !was then (s.raise Cause.CASK_DETCHG).lrsOwn false 4 [BitVec.ofNat 32 m, s.lrsStatus]
  else if m = 0 && was then s.lrsOwn false 4 [0, s.lrsStatus]
  else s

/-! ## SERVICE and commit (R297, R326, R332) -/

/-- The device enters SERVICE. -/
def State.serviceEnter (s : State) : State := s.withCask { s.cask with mecIn := s.nvm.mec }

/-- The device leaves SERVICE: waiting APPLYs are abandoned and recorded as refused, and a PARAM record follows if the counter changed (R326, Table 16.3). -/
def State.serviceLeave (s : State) : State :=
  let waiting := (s.nvm.work.filter isMec).length
  let s := s.withNvm { s.nvm with work := s.nvm.work.filter (fun w => !isMec w) }
  let s : State := (List.range waiting).foldl (fun s _ => s.caskRefuse) s
  if s.nvm.mec = s.cask.mecIn || s.applying then s else s.lrsOwn true 2 [s.caskShort, s.nvm.mec, s.lrsStatus]

/-- The Cask's side of commit (R186, R327, R332): both copies of the calibration, RUNMOD, SEQ and its base, and the START record. -/
def State.caskCommit (s : State) : State :=
  let s := s.caskActivate.setB Fld.CASK_STAT_RUNMOD false
  let q := (s.nvm.seqBase / 65536 + 1) * 65536
  let s := s.withCask { s.cask with seq := q, own := [], sub := none }
  if 2 ^ 32 ≤ q then s.setB Fld.CASK_STAT_SEQ_END true
  else (s.nvmPush (.seqBase q)).lrsOwn true 1 [s.caskShort, s.nvm.mec, s.rget Reg.RST_COUNT, s.lrsStatus]

end Sys2Proof.Machine
end

