-- ==== Sys2Proof/Machine/Dwl.lean ====
section
/-!
DEFINITION. The Dolwick link (R215-R219): frames, credit, link-up and link loss.
-/
namespace Sys2Proof.Machine

/-- The lanes DWL uses (R217). -/
def State.dwlLanes (s : State) : List Nat := match s.f Fld.DWL_CTRL_MODE with | 1 => [0] | 2 => [0, 1] | _ => []

/-- Lane DWL0 or DWL1 is aligned. -/
def State.dwlAligned (s : State) (l : Nat) : Bool := if l = 0 then s.b Fld.DWL_STAT_AL0 else s.b Fld.DWL_STAT_AL1

/-- Every lane in use is aligned. -/
def State.dwlLanesOk (s : State) : Bool := !s.dwlLanes.isEmpty && s.dwlLanes.all s.dwlAligned

/-- DWL is up (R216). -/
def State.dwlUp (s : State) : Bool := s.b Fld.DWL_STAT_UP

/-- The time of `n` characters of 10 bits on the line, in ns rounded up. -/
def State.charNs (s : State) (n : Nat) : Nat := if s.b Fld.DWL_CTRL_RATE then (n * 16 + 4) / 5 else (n * 8 + 4) / 5

/-- The time of a frame of `n` payload words: 4n + 10 characters (R215). -/
def State.frameNs (s : State) (n : Nat) : Nat := s.charNs (4 * n + 10)

/-- A frame has been sent in full: its LRS records leave the generator's queue and are counted (R209). -/
def State.frameSent (s : State) (f : DwlFrame) : State :=
  if f.chan = 1 then
    (s.withWort { s.wort with lrsDwl := s.wort.lrsDwl.drop f.recs.length }).incMod Fld.DWL_LRSCNT_COUNT 1
  else s

/-- Frames whose time has passed are complete. -/
def State.dwlSettle (s : State) : State :=
  let fin := s.dwl.prog.filter (fun f => decide (f.endT ≤ s.now))
  let s := s.withDwl { s.dwl with prog := s.dwl.prog.filter (fun f => decide (s.now < f.endT)) }
  fin.foldl (fun s f => s.frameSent f) s

/-- A lane carries no frame, and an idle pair has passed since the last (R261). In PARK it sends idle only (R13). -/
def State.laneFree (s : State) (l : Nat) : Bool :=
  !s.dwl.prog.any (fun f => f.lane = l) && decide (SMap.get (fun _ => 0) s.dwl.freeT l ≤ s.now) && s.dev != .park

/-- What a DWL lane sends, as 8b/10b characters: control or data, and the byte. -/
inductive LineOut where
  /-- electrical idle -/
  | quiet
  | chars (l : List (Bool × Byte))
  deriving DecidableEq, Repr

/-- K28.5 D16.2, sent between frames (R261). -/
def idlePair : List (Bool × Byte) := [(true, 0xBC), (false, 0x50)]

/-- A frame on the line: K27.7, its words as little-endian bytes, K29.7 (R215). -/
def frameChars (ws : List Word) : List (Bool × Byte) := (true, 0xFB) :: (ws.flatMap wordBytes).map (fun b => (false, b)) ++ [(true, 0xFD)]

/-- What lane DWL0 or DWL1 sends: the frame in progress, else idle pairs, while it is driven (R215, R258, R259, R261). -/
def State.dwlSends (s : State) (l : Nat) : LineOut :=
  if s.dev = .boot || !s.b (Fld.LANE_CFG_EN (2 + l)) || !s.b Fld.CLK_STATUS_LPLL_LOCK then .quiet else
  match s.dwl.prog.find? (fun f => f.lane = l) with
  | some f => .chars (frameChars f.words)
  | none => .chars idlePair

/-- A frame header (Table 10.10). -/
def dwlHeader (chan : Nat) (restart : Bool) (kind seq : Nat) : Word :=
  BitVec.ofNat 32 (chan * 2 ^ 28 + restart.toNat * 2 ^ 27 + kind * 2 ^ 16 + seq % 65536)

/-- Header, payload and CRC-32 (R215, R63). -/
def dwlWords (hdr : Word) (pay : List Word) : List Word := hdr :: pay ++ [crc32 ((hdr :: pay).flatMap wordBytes)]

/-- A frame starts on a lane. -/
def State.dwlStart (s : State) (lane chan : Nat) (hdr : Word) (pay : List Word) (recs : List OutRec) : State :=
  let w := dwlWords hdr pay
  s.withDwl { s.dwl with
      prog := s.dwl.prog ++ [{ lane := lane, chan := chan, words := w, recs := recs, endT := s.now + s.frameNs pay.length }],
      freeT := SMap.set (fun _ => 0) s.dwl.freeT lane (s.now + s.charNs (4 * pay.length + 12)),
      last := SMap.set (fun _ => ([] : List Word)) s.dwl.last lane w }

/-- Whole records to at most `k` words (R215). -/
def takeRecs : Nat → List OutRec → List OutRec
  | _, [] => []
  | k, r :: l => if r.words.length ≤ k then r :: takeRecs (k - r.words.length) l else []

/-- POINT frame `seq` may start (R216). -/
def State.creditFor (s : State) (seq : Nat) : Bool :=
  let d := (s.f Fld.DWL_CREDIT_CCUM + 65536 - seq % 65536) % 65536
  decide (1 ≤ d) && decide (d ≤ 32768)

/-- The lane of the next POINT frame (R217). -/
def State.pointLane (s : State) : Nat := if s.f Fld.DWL_CTRL_MODE = 2 then s.dwl.seqPoint % 2 else 0

/-- An uncorrectable word in the Wort buffer: counted, flagged and logged (R361, Table 18.6). The manual lays out no addresses in the buffer. -/
def State.wortUe (s : State) : State :=
  let s := (s.incSat Fld.WORT_ECC_UE 1).raise Cause.WORT_ECC_UE
  s.fresh.2.logEvent 0x0031 1 (Config.wortAddr s.fresh.1)

/-- A corrected word in the Wort buffer: counted and flagged (R212). -/
def State.wortCe (s : State) : State := (s.incSat Fld.WORT_ECC_CE 1).raise Cause.WORT_ECC_CE

/-- A read error in the DWL part of the buffer (R212): `err` is the record it hits, and whether it is uncorrectable: the column stops at that record. A GAP record counts as its
column's, and what it names is named again. -/
def State.wortEcc (s : State) (err : Option (Nat × Bool)) : State :=
  match err with
  | none => s
  | some (_, false) => s.wortCe
  | some (i, true) =>
    let s := s.wortUe
    match (s.wort.dwl.out.drop i).find? (fun r => r.kind != .gap) with
    | none => s
    | some r =>
      let before := s.wort.dwl.out.take i
      let s := s.modStream 0 (fun x => { x with out := x.out.drop i })
      let s := s.cutDwl [r.frame] [] 6
      s.modStream 0 (fun x => { x with out := before ++ x.out })

/-- A legal record or a sideband reply waits for lane `l`, and goes before the next POINT frame (R218). -/
def State.sideFirst (s : State) (l : Nat) : Bool := (l = 0 && !s.wort.lrsDwl.isEmpty) || s.dwl.side.any (fun q => q.1 = l)

/-- Row DWL_POINT_FRAME: the next POINT frame starts if credit allows and no other frame waits for its lane (R212, R215, R216, R218). -/
def execDwlPointFrame (err : Option (Nat × Bool)) (s : State) : Out :=
  let s := s.dwlSettle
  let seq := s.dwl.seqPoint
  if s.dwlUp && s.b Fld.DWL_STAT_ACTIVE && s.creditFor seq && s.laneFree s.pointLane && !s.sideFirst s.pointLane && !s.wort.dwl.out.isEmpty then
    let s := s.wortEcc err
    let recs := takeRecs 256 s.wort.dwl.out
    if recs.isEmpty then .next s else
    let s := s.dwlStart s.pointLane 0 (dwlHeader 0 s.dwl.restart 0 seq) (recs.flatMap (·.words)) recs
    let s := s.modStream 0 (fun x => { x with out := x.out.drop recs.length })
    let s := s.withDwl { s.dwl with seqPoint := (seq + 1) % 65536, restart := false }
    .next (s.setF Fld.DWL_CREDIT_SENT ((seq + 1) % 65536))
  else .next s

/-- Row DWL_LRS_FRAME: waiting LRS records are sent on DWL0 after the POINT frame in progress (R209, R218). -/
def execDwlLrsFrame (s : State) : Out :=
  let s := s.dwlSettle
  let recs := takeRecs 256 (s.wort.lrsDwl.map (fun w => { kind := .lrs, frame := 0, words := w }))
  if s.dwlUp && s.b Fld.DWL_STAT_ACTIVE && s.laneFree 0 && !recs.isEmpty then
    let s := s.dwlStart 0 1 (dwlHeader 1 false 0 s.dwl.seqLrs) (recs.flatMap (·.words)) recs
    .next (s.withDwl { s.dwl with seqLrs := (s.dwl.seqLrs + 1) % 65536 })
  else .next s

/-- A sideband reply waits for its lane; it is lost if DWL is down (R217, R218, Table 10.12). -/
def State.sidePush (s : State) (lane : Nat) (msg : List Word) : State :=
  if s.dwlUp then s.withDwl { s.dwl with side := s.dwl.side ++ [(lane, msg)] } else s

/-- A waiting sideband reply starts when its lane is free (R218). -/
def State.sideSend (s : State) : State :=
  match s.dwl.side with
  | [] => s
  | (lane, msg) :: r =>
    if s.dwlUp && s.laneFree lane then
      let s := s.dwlStart lane 2 (dwlHeader 2 false 1 s.dwl.seqSide) msg []
      s.withDwl { s.dwl with side := r, seqSide := (s.dwl.seqSide + 1) % 65536 }
    else s

/-- The frames of columns whose records a set of DWL frames carried. -/
def pointFrames (l : List DwlFrame) : List Nat :=
  ((l.filter (fun f => f.chan = 0)).flatMap (fun f => (f.recs.filter (fun r => r.kind != .gap)).map (·.frame))).eraseDups

/-- DWL goes down (R219): frames in progress are abandoned and the columns they cut are discarded. -/
def State.dwlDown (s : State) : State :=
  if !s.dwlUp then s else
  let s := s.dwlSettle
  let frames := pointFrames s.dwl.prog
  let lost := gapsOf ((s.dwl.prog.filter (fun f => f.chan = 0)).flatMap (·.recs))
  let s := s.setB Fld.DWL_STAT_UP false
  let s := (s.raise Cause.DWL_LINKLOST).incSat Fld.DWL_CNT_LOSSES 1
  (s.withDwl { s.dwl with prog := [], side := [], credit := false }).cutDwl frames lost 4

/-- After a change of alignment: DWL stays up only with every lane aligned, and needs a fresh CREDIT frame afterwards (R216). -/
def State.dwlFollow (s : State) : State :=
  if s.dwlLanesOk then s else (s.dwlDown.withDwl { s.dwlDown.dwl with credit := false })

/-- A level L2 reset of the DWL pair (R219): every buffered column goes with cause RESET; LRS records are kept.
The counters return to 0 (Table 19.3). -/
def State.dwlReset (s : State) : State :=
  let s := s.dwlSettle
  let frames := (pointFrames s.dwl.prog ++ (s.wort.dwl.out.filter (fun r => r.kind != .gap)).map (·.frame) ++ s.wort.dwl.cols.map (·.frame)).eraseDups
  let lost := gapsOf ((s.dwl.prog.filter (fun f => f.chan = 0)).flatMap (·.recs))
  let s := if s.dwlUp then (s.setB Fld.DWL_STAT_UP false).raise Cause.DWL_LINKLOST else s
  let s := s.withDwl { prog := [], last := s.dwl.last, freeT := s.dwl.freeT }
  let s := [Reg.DWL_CREDIT, Reg.DWL_CNT, Reg.DWL_LRSCNT].foldl (fun s a => s.rset a 0) s
  s.cutDwl frames lost 5

/-- Row DWL_CREDIT_RECEIVE: a CREDIT frame arrives on a lane (R216); `ok` is its CRC's verdict. It may bring DWL up, before which nothing is counted (R58). -/
def execDwlCreditReceive (lane : Nat) (ccum : BitVec 16) (ok : Bool) (s : State) : Out :=
  let s := s.dwlSettle
  if !s.dwlLanes.contains lane || !s.dwlAligned lane then .next s
  else if !ok then .next (if !s.dwlUp then s else (s.raise Cause.DWL_RX_CRC).incSat Fld.DWL_CNT_RXBAD 1)
  else
    let s := s.setF Fld.DWL_CREDIT_CCUM ccum.toNat
    let s := s.withDwl { s.dwl with credit := true }
    if !s.dwlUp && s.dwlLanesOk && !s.rst.l2.contains .dwl then
      let s := (s.setB Fld.DWL_STAT_UP true).raise Cause.DWL_RESTART
      let s := s.withDwl { s.dwl with seqPoint := 0, seqLrs := 0, seqSide := 0, restart := true }
      .next (s.setF Fld.DWL_CREDIT_SENT 0)
    else .next s

/-- Row DWL_CREDIT_TIMEOUT: 1 ms without a CREDIT frame while up (`old`), or 1 ms of POINT data waiting for credit (R216, Table 10.13). -/
def execDwlCreditTimeout (old : Bool) (s : State) : Out :=
  if !s.dwlUp then .next s
  else if old then .next (s.raise Cause.DWL_CREDIT_OLD)
  else if !s.wort.dwl.out.isEmpty && !s.creditFor s.dwl.seqPoint then .next (s.raise Cause.DWL_NOCREDIT)
  else .next s

end Sys2Proof.Machine
end

