-- ==== Sys2Proof/Machine/Tin.lean ====
section
/-!
DEFINITION. The time-interval inputs TIN0-TIN3 (R145-R149, R152).
-/
namespace Sys2Proof.Machine

/-- Input TINn. -/
def State.tin (s : State) (n : Nat) : TinSt := SMap.get (fun _ => ({} : TinSt)) s.tins n

/-- Replacing input TINn. -/
def State.setTin (s : State) (n : Nat) (x : TinSt) : State := s.withTins (SMap.set (fun _ => ({} : TinSt)) s.tins n x)

/-- The inputs run from the end of BOOT until PARK (R145). -/
def State.tinRuns (s : State) : Bool := s.dev != .boot && s.dev != .park

/-- An edge matches a slope selection: bit 0 rising, bit 1 falling. -/
def slopeMatch (slope : Nat) (rising : Bool) : Bool := if rising then slope.testBit 0 else slope.testBit 1

/-- A field of TIN_CFGn in effect: as it stood on the last TCLK edge (R145). -/
def State.tinF (s : State) (n : Nat) (F : Fld) : Nat := F.of (s.tin n).cfg

/-- The mode of input `n`: 3 acts as 0. -/
def State.tinMode (s : State) (n : Nat) : Nat := let m := s.tinF n (Fld.TIN_CFG_MODE n); if m = 3 then 0 else m

/-- The stop slope of a pair: 0 acts as 3 (R148). -/
def State.stopSlope (s : State) (n : Nat) : Nat := let v := s.tinF n (Fld.TIN_CFG_STOP_SLOPE n); if v = 0 then 3 else v

/-- An edge of input `m` can stop the pair of input `n`. -/
def State.stops (s : State) (n m : Nat) (rising : Bool) : Bool :=
  s.tinMode n = 2 && s.tinF n (Fld.TIN_CFG_STOPSEL n) = m && slopeMatch (s.stopSlope n) rising && (s.tin n).start.isSome

/-- An input's SEQ after one more edge (`stream`) or interval: dropped entries count too (R147, Table 7.3; log 78). -/
def TinSt.counted (x : TinSt) (stream : Bool) : TinSt :=
  if stream then { x with seqEdge := (x.seqEdge + 1) % 4096 } else { x with seqInt := (x.seqInt + 1) % 4096 }

/-- The entry of an edge (`stream`) or of an interval enters the queue of input `n`, or is dropped and counted (R147). -/
def State.tinPush (s : State) (n : Nat) (stream : Bool) (w0 w1 : Nat) : State :=
  let x := s.tin n
  if x.queue.length < 256 then
    s.setTin n { x.counted stream with
      queue := x.queue ++ [(BitVec.ofNat 32 w0, BitVec.ofNat 32 (w1 + if x.lost then 2 ^ 13 else 0))], lost := false }
  else
    ((s.setTin n { x.counted stream with lost := true }).incSat (Fld.TIN_CNT_LOST n) 1).raise (Cause.TIN_LOST n)

/-- The stamp of an edge whose interpolator position is `tap` (R146). -/
def State.tinStamp (s : State) (n tap : Nat) : TinStamp :=
  { ns := (s.time.ctr >>> 32).toNat, frac := (s.time.ctr >>> 24).toNat % 256, fine := (s.tin n).map.getD tap 0, tv := s.b Fld.TIME_CTRL_VALID,
    wraps := s.time.wraps }

/-- The interval between two stamps in 1/256 ns (R148). -/
def interval (a b : TinStamp) : Int :=
  (((b.ns : Int) - a.ns) + ((b.wraps : Int) - a.wraps) * 2 ^ 32) * 256 + ((b.frac : Int) - a.frac) + 4 * ((b.fine : Int) - a.fine)

/-- A stop edge with stamp `b` completes the interval of input `n`, unless it is stamped at or before the start (R148, R149). -/
def State.tinStop (s : State) (n : Nat) (b : TinStamp) : State :=
  let x := s.tin n
  match x.start with
  | none => s
  | some a =>
    let d := interval a b
    if d ≤ 0 then s else
    let ovf := decide ((2 ^ 40 : Int) ≤ d)
    let (w0, sub) := if ovf then (0xFFFFFFFF, 0xFF) else (d.toNat / 256, d.toNat % 256)
    let w1 := sub * 2 ^ 24 + ovf.toNat * 2 ^ 15 + (a.tv && b.tv).toNat * 2 ^ 14 + x.phstep.toNat * 2 ^ 12 + x.seqInt
    let s := s.setTin n { x with start := none, phstep := false }
    let s := (s.raiseIf ovf (Cause.TIN_OVF n)).raiseIf x.phstep (Cause.TIN_PHSTEP n)
    s.tinPush n false w0 w1

/-- Row TIN_EDGE: an edge of input `m` at interpolator position `tap` (R145-R148). -/
def execTinEdge (m : Nat) (rising : Bool) (tap : Nat) (s : State) : Out :=
  let mode := s.tinMode m
  let own := mode != 0 && slopeMatch (s.tinF m (Fld.TIN_CFG_SLOPE m)) rising
  let pairs := (List.range 4).filter (fun n => s.stops n m rising)
  if !s.tinRuns || !(own || !pairs.isEmpty) || 4 ≤ m then .next s else
  let st := s.tinStamp m tap
  let now := 256 * s.now + 4 * st.fine
  let x := s.tin m
  let dead := match x.lastEdge with | none => false | some l => decide (now < l + 1024)
  if dead then .next ((s.incSat (Fld.TIN_CNT_DEAD m) 1).raise (Cause.TIN_DEAD m)) else
  let s := s.setTin m { x with lastEdge := some now }
  let s := pairs.foldl (fun s n => s.tinStop n st) s
  let x := s.tin m
  if !own then .next s
  else if mode = 1 then .next (s.tinPush m true st.ns (st.frac * 2 ^ 24 + st.fine * 2 ^ 16 + rising.toNat * 2 ^ 15 + st.tv.toNat * 2 ^ 14 + x.seqEdge))
  else if x.start.isNone && !pairs.contains m then .next (s.setTin m { x with start := some st, phstep := false })
  else .next s

/-- The method of R140 with 256 bins, and its DNL (R146). -/
def State.tinCal (s : State) (n : Nat) (h : List Nat) : State :=
  let k := h.foldl (· + ·) 0
  let map := codeMap 256 k 0 h
  let s := s.setTin n { s.tin n with map := map }
  s.setF ⟨Reg.TIN_DNL, 8 * n, 8⟩ (dnlFigure 256 k map h)

/-- Row TIN_INTERP_CAL: the interpolator map of input `n` is computed anew from its tap counts, at boot and once per second while TCLK runs (R146). -/
def execTinInterpCal (n : Nat) (h : List Nat) (s : State) : Out :=
  .next (if n < 4 && s.dev != .park && s.b Fld.CLK_STATUS_PLLB_LOCK then s.tinCal n h else s)

/-- TIN_QLOn and TIN_QHIn: the words of the oldest entry, 0 when the queue is empty (R147). -/
def State.tinFront (s : State) (n : Nat) : Word × Word := ((s.tin n).queue.head?).getD (0, 0)

/-- A read of TIN_QHIn removes the entry (R147). -/
def State.tinPop (s : State) (n : Nat) : State := s.setTin n { s.tin n with queue := (s.tin n).queue.drop 1 }

/-- Row TIN_QHI_READ. -/
def execTinQhiRead (n : Nat) (s : State) : Out := .next (if n < 4 then s.tinPop n else s)

/-- A write to TIN_CFGn, which takes effect on the next TCLK edge (R145). -/
def State.tinCfgWrite (s : State) (n : Nat) (v : Word) : State := s.rset (Reg.TIN_CFG n) (v &&& 0x3FCFF)

/-- A TCLK edge takes TIN_CFGn over: a change of MODE empties the queue and discards the pending start (R145). -/
def State.tinTake (s : State) (n : Nat) : State :=
  let x := s.tin n
  let v := s.rget (Reg.TIN_CFG n)
  let F := Fld.TIN_CFG_MODE n
  if v = x.cfg then s
  else s.setTin n (if F.of v = F.of x.cfg then { x with cfg := v } else { x with cfg := v, queue := [], start := none, phstep := false })

/-- A TCLK edge takes over the settings of all four inputs. -/
def State.tinFollow (s : State) : State := (List.range 4).foldl State.tinTake s

/-- An offset write took effect: the intervals in progress contain the step (R149). -/
def State.tinPhaseStep (s : State) : State :=
  (List.range 4).foldl (fun s n => let x := s.tin n; if x.start.isSome then s.setTin n { x with phstep := true } else s) s

/-- PARK entry: pending pairs are discarded, queue contents are kept (R145). -/
def State.tinPark (s : State) : State :=
  (List.range 4).foldl (fun s n => s.setTin n { s.tin n with start := none, phstep := false }) s

end Sys2Proof.Machine
end

