-- ==== Sys2Proof/Machine/Time.lean ====
section
/-!
DEFINITION. The time counter, its offset, validity and pulse output (R272-R276).
-/
namespace Sys2Proof.Machine

/-- TCLK runs: PLLB is locked (R43). -/
def State.tclkRuns (s : State) : Bool := s.b Fld.CLK_STATUS_PLLB_LOCK && s.dev != .park

/-- NS of the counter. -/
def State.ns (s : State) : Nat := (s.time.ctr >>> 32).toNat

/-- Clamping an increment to ±1,000 ppm (R272). -/
def clampInc (v : Word) : Word := if v.toNat < 0x3FEF9DB2 then 0x3FEF9DB2 else if 0x4010624E < v.toNat then 0x4010624E else v

/-- The counter takes the value `n`, counted without bound: WRAPS, its flag and DSP1's line 5 follow every wrap (R274). -/
def State.ctrTo (s : State) (n : Int) : State :=
  let q := n / 2 ^ 64
  let s := s.withTime { s.time with ctr := BitVec.ofInt 64 n, wraps := s.time.wraps + q }
  if q = 0 then s else
    ((s.setFs Fld.TIME_STAT_WRAPS ((s.f Fld.TIME_STAT_WRAPS : Int) + q)).raise
      Cause.TIME_WRAP).line 1 5

/-- PPS_OUT rises when the armed target is reached, with VALID and PPS_EN set (R276). -/
def State.ppsCheck (s : State) : State :=
  let d := (s.ns + 2 ^ 32 - s.f Fld.TIME_PPS_TARGET) % 2 ^ 32
  if s.b Fld.TIME_STAT_PPS_ARMED && s.b Fld.TIME_CTRL_VALID && s.b Fld.TIME_CTRL_PPS_EN && decide (d < 2 ^ 31) then
    ((s.setB Fld.TIME_STAT_PPS_ARMED false).withPins { s.pins with pps := true, ppsT := s.now + 1000 * max 1 (s.f Fld.TIME_CTRL_PPSW) })
  else s

/-- The counter's values at the edges before now, after `k` more of them with increment `inc` (R239). -/
def State.ctrPast (s : State) (k : Nat) (inc : Word) (old : List (BitVec 64)) : List (BitVec 64) :=
  ((List.range (min 16 (k - 1))).map (fun i => s.time.ctr - BitVec.ofNat 64 ((i + 1) * (inc.toNat * 16))) ++ old).take 16

/-- `k` TCLK edges (R272), the first of which takes a written increment and a pending offset (R273, Table 13.6). The image's increment acts from commit on (R67). -/
def State.tclkEdges (s : State) (k : Nat) : State :=
  let s := s.withNow (s.now + 4 * k)
  if !s.tclkRuns || k = 0 then s else
  let inc := if s.dev = .boot then s.time.inc else clampInc (s.rget Reg.TIME_INC)
  let pend := s.b Fld.TIME_STAT_OFS_PEND
  let ofs := if pend then s.time.ofs.toInt else 0
  let old := s.time.ctr :: s.time.past
  let s := s.withTime { s.time with inc := inc, ofs := 0 }
  let s := s.setB Fld.TIME_STAT_OFS_PEND false
  let s := s.ctrTo ((s.time.ctr.toNat : Int) + k * (inc.toNat * 16 : Nat) + ofs)
  let s := (s.withTime { s.time with past := s.ctrPast k inc old }).adcStamp
  let s := if pend then ((s.raise Cause.TIME_STEP).line 1 5).tinPhaseStep else s
  s.ppsCheck.tinFollow

/-- What a TCLK edge does with no command at hand: the counter counts, DWL frames end and waiting sideband replies start (R272, R218). -/
def State.tclkTick (s : State) : State := ((s.tclkEdges 1).dwlSettle).sideSend

/-- Row TIME_OFFSET_APPLY: the edge on which a pending offset steps the counter (R273). -/
def execTimeOffsetApply (s : State) : Out := .next (if s.b Fld.TIME_STAT_OFS_PEND then s.tclkEdges 1 else s)

/-- Row TIME_COUNTER_WRAP: the edges up to the one on which NS passes 0xFFFF_FFFF by the counter's own increment (R274). -/
def execTimeCounterWrap (s : State) : Out :=
  let inc := (if s.dev = .boot then s.time.inc else clampInc (s.rget Reg.TIME_INC)).toNat * 16
  .next (s.tclkEdges ((2 ^ 64 - s.time.ctr.toNat + inc - 1) / inc))

/-- Row PPS_PULSE: the counter reaches TARGET (R276). -/
def execPpsPulse (s : State) : Out := .next s.ppsCheck

/-- Row PPS_PULSE_END: the pulse ends once PPSW µs have passed (R276). -/
def execPpsPulseEnd (s : State) : Out := .next (if s.pins.ppsT ≤ s.now then s.withPins { s.pins with pps := false } else s)

/-- Row TIME_NS_READ: a read latches the fraction of the same edge (R272). -/
def execTimeNsRead (s : State) : Out := .next (s.setF Fld.TIME_FRAC_FRAC (s.time.ctr.toNat % 2 ^ 32))

/-- A write of TIME_INC (R272). -/
def State.timeIncWrite (s : State) (v : Word) : State := (s.rset Reg.TIME_INC v).raiseIf (clampInc v != v) Cause.TIME_INC_CLAMP

/-- Row TIME_INC_WRITE. -/
def execTimeIncWrite (v : Word) (s : State) : Out := .next (s.timeIncWrite v)

/-- A write of TIME_OFS adds its offset to the pending one (R273). -/
def State.timeOfsWrite (s : State) (v : Word) : State :=
  let s := s.withTime { s.time with ofs := s.time.ofs + (v ++ s.rget Reg.TIME_OFSF) }
  s.setB Fld.TIME_STAT_OFS_PEND true

/-- Row TIME_OFS_WRITE. -/
def execTimeOfsWrite (v : Word) (s : State) : Out := .next (s.timeOfsWrite v)

/-- VALID clears: PPS_OUT goes low and a pulse in progress ends (R275, R276). -/
def State.timeInvalid (s : State) : State :=
  ((s.setB Fld.TIME_CTRL_VALID false).withPins { s.pins with pps := false })

/-- A write of TIME_CTRL by master `m`: only DSP1 (master 2) sets VALID (R275), and there is none without its section (R64). -/
def State.timeCtrlWrite (s : State) (m : Nat) (v : Word) : State :=
  let valid := v.getLsbD 0 && ((m = 2 && s.rst.sections.testBit 10) || s.b Fld.TIME_CTRL_VALID)
  let s := s.rset Reg.TIME_CTRL (v &&& 0xFFFF02)
  if valid then s.setB Fld.TIME_CTRL_VALID true else s.timeInvalid

/-- Row TIME_CTRL_WRITE. -/
def execTimeCtrlWrite (m : Nat) (v : Word) (s : State) : Out := .next (s.timeCtrlWrite m v)

/-- A write of TIME_PPS arms the output (R276). A target 2^31 ns in the past gives no pulse but PPS_MISS. -/
def State.timePpsWrite (s : State) (v : Word) : State :=
  let s := s.rset Reg.TIME_PPS v
  if (s.ns + 2 ^ 32 - v.toNat) % 2 ^ 32 = 2 ^ 31 then (s.setB Fld.TIME_STAT_PPS_ARMED false).raise Cause.TIME_PPS_MISS
  else s.setB Fld.TIME_STAT_PPS_ARMED true

/-- Row TIME_PPS_WRITE. -/
def execTimePpsWrite (v : Word) (s : State) : Out := .next (s.timePpsWrite v)

end Sys2Proof.Machine
end

