-- ==== Sys2Proof/Machine/Lane.lean ====
section
/-!
DEFINITION. Serial lanes (R258-R263): use and rate, alignment, adaptation, eye monitor, lane PLL; and the parts of an Ethernet port they touch.
-/
namespace Sys2Proof.Machine

/-- Lane Ln beside its registers. -/
def State.lane (s : State) (n : Nat) : LaneSt := SMap.get (fun _ => ({} : LaneSt)) s.lanes n

/-- Replacing lane Ln. -/
def State.setLane (s : State) (n : Nat) (x : LaneSt) : State := s.withLanes (SMap.set (fun _ => ({} : LaneSt)) s.lanes n x)

/-- Port ETHp. -/
def State.eth (s : State) (p : Nat) : EthSt := SMap.get (fun _ => ({} : EthSt)) s.eths p

/-- Replacing port ETHp. -/
def State.setEth (s : State) (p : Nat) (x : EthSt) : State := s.withEths (SMap.set (fun _ => ({} : EthSt)) s.eths p x)

/-- No image is loaded: the fixed settings of R71 hold. -/
def State.noImage (s : State) : Bool := s.b Fld.LDR_STATUS_NOIMAGE

/-- Lane Ln is on: enabled, once the device has left BOOT (R258); without an image L0 and L1 are (R71). -/
def State.laneOn (s : State) (n : Nat) : Bool := s.dev != .boot && (s.b (Fld.LANE_CFG_EN n) || (s.noImage && n < 2))

/-- The mode of port ETHp (Table 13.2): without an image 1000BASE-X. -/
def State.ethMode (s : State) (p : Nat) : Nat := if s.noImage then 0 else s.f (Fld.ETH_CFG_MODE p)

/-- The rate code of lane Ln (Table 13.1, Table 13.7). -/
def State.laneRate (s : State) (n : Nat) : Nat := if n < 2 then (if s.ethMode n = 2 then 1 else 0) else (if s.b Fld.DWL_CTRL_RATE then 1 else 2)

/-- What the transmitter and receiver of a lane are set to (R262): the swing in mV peak to peak, the de-emphasis in dB, and the two inversions. -/
structure LaneDrive where
  swing : Nat
  deemph : Nat
  txInv : Bool
  rxInv : Bool
  deriving DecidableEq, Repr

/-- The settings in effect on lane Ln: SWING above 8 acts as 8, DEEMPH above 6 as 6 (R262). -/
def State.laneDrive (s : State) (n : Nat) : LaneDrive :=
  { swing := 400 + 100 * min 8 (s.f (Fld.LANE_CFG_SWING n)), deemph := min 6 (s.f (Fld.LANE_CFG_DEEMPH n)),
    txInv := s.b (Fld.LANE_CFG_TXINV n), rxInv := s.b (Fld.LANE_CFG_RXINV n) }

/-- LANE_STATn.RATE of every lane follows its use. -/
def State.laneRates (s : State) : State := (List.range 4).foldl (fun s n => s.setF (Fld.LANE_STAT_RATE n) (s.laneRate n)) s

/-- A port has a copy of the datagram of stream `k` with DSEQ `q`. -/
def State.dgHeld (s : State) (k q : Nat) : Bool :=
  (List.range 2).any (fun p => ((s.eth p).wait ++ (s.eth p).cur.toList).any (fun f => f.dg = some (k, q)))

/-- A port has let its copy of a datagram go: with no copy left it has been sent in full, and leaves the buffer (R212) or the generator's queue (R209), or waits again (R214). -/
def State.dgRelease (s : State) (k q : Nat) : State :=
  if s.dgHeld k q then s else
  match s.wort.dgrams.find? (fun d => d.stream = k && d.seq = some q) with
  | none => s
  | some d =>
    if d.sent then
      s.withWort { s.wort with dgrams := s.wort.dgrams.filter (fun e => !(e.stream = k && e.seq = some q)),
                               lrsEth := if k = 1 then s.wort.lrsEth.drop d.recs.length else s.wort.lrsEth }
    else s.withWort { s.wort with dgrams := s.wort.dgrams.map (fun e => if e.stream = k && e.seq = some q then { e with handed := false } else e) }

/-- Port ETHp gives back every datagram it has: what it has not sent in full waits again (R214). -/
def State.dgRecall (s : State) (p : Nat) : State :=
  let x := s.eth p
  let l := (x.wait ++ x.cur.toList).filterMap (·.dg)
  l.foldl (fun s d => s.dgRelease d.1 d.2) (s.setEth p { x with wait := x.wait.filter (fun f => f.dg.isNone), cur := none })

/-- Port ETHp goes down (R264): a frame in transmission ends without a valid FCS, and counts (Table 13.6; DEDUCED, log 92). -/
def State.ethDown (s : State) (p : Nat) : State :=
  if !s.b (Fld.ETH_STAT_LINK p) then s else
  let s := (s.setB (Fld.ETH_STAT_LINK p) false).setB (Fld.ETH_STAT_AN_DONE p) false
  let x := s.eth p
  let buf := match x.cur with | some fr => fr.txbuf | none => false
  let s := if x.cur.isSome then s.incMod (Fld.ETH_CNT_TX_FRAMES p) 1 else s
  let s := s.dgRecall p
  let s := if buf then s.setB (Fld.ETH_TXSTAT_BUSY p) false else s
  s.raise (Cause.ETH_LINKLOST p)

/-- Alignment of lane Ln is lost (R260): its port or the DWL link follows. -/
def State.laneLost (s : State) (n : Nat) : State :=
  if !s.b (Fld.LANE_STAT_ALIGNED n) then s else
  let s := (s.setB (Fld.LANE_STAT_ALIGNED n) false).setB (Fld.LANE_STAT_ADAPTED n) false
  let s := s.setLane n {}
  let s := (s.setF (Fld.LANE_EYE_H n) 0).setF (Fld.LANE_EYE_V n) 0
  let s := s.raise (Cause.LANE_ALIGN_LOST n)
  match n with
  | 2 => (s.setB Fld.DWL_STAT_AL0 false).dwlFollow
  | 3 => (s.setB Fld.DWL_STAT_AL1 false).dwlFollow
  | p => s.ethDown p

/-- Row LANE_ALIGN_ACQUIRED: lane Ln aligns, and adaptation starts (R260, R262). -/
def execLaneAlignAcquired (n : Nat) (s : State) : Out :=
  if n < 4 && s.laneOn n && s.b Fld.CLK_STATUS_LPLL_LOCK && !s.b (Fld.LANE_STAT_ALIGNED n) then
    let s := (s.setB (Fld.LANE_STAT_ALIGNED n) true).setB (Fld.LANE_STAT_ADAPTED n) false
    let s := s.setLane n { score := 0, adapting := true }
    .next (if n = 2 then s.setB Fld.DWL_STAT_AL0 true else if n = 3 then s.setB Fld.DWL_STAT_AL1 true else s)
  else .next s

/-- Row LANE_CODE_ERROR: lane Ln receives, after `good` good code groups, an invalid one (`kind` 0), one of wrong running disparity (1), or between DWL frames another character
than an idle pair or K27.7 (2), which counts as invalid (R260, R261). On a DWL lane a disparity error raises the score alone; in the PCS of an ETH lane such a group is invalid
(Clause 36; PRESUMED, log 93). An ETH lane's PCS loses synchronisation when `lost`. -/
def execLaneCodeError (n good kind : Nat) (s : State) (lost : Bool := false) : Out :=
  if 4 ≤ n || !s.laneOn n then .next s else
  let s := if 2 ≤ n && kind = 1 then s else s.incSat (Fld.LANE_ERR_CODE n) 1
  if !s.b (Fld.LANE_STAT_ALIGNED n) then .next s
  else if n < 2 then .next (if lost then s.laneLost n else s)
  else
    let sc := (s.lane n).score - good / 4 + 1
    if 4 ≤ sc then .next (s.laneLost n) else .next (s.setLane n { s.lane n with score := sc })

/-- The CTLE code adaptation keeps (R262): largest H, then largest V, then the lower code. -/
def bestCtle (l : List (Nat × Nat)) : Nat :=
  let at' (i : Nat) : Nat × Nat := l.getD i (0, 0)
  (List.range l.length).foldl (fun b i => if (at' b).1 < (at' i).1 || ((at' b).1 = (at' i).1 && (at' b).2 < (at' i).2) then i else b) 0

/-- The three DFE taps of lane Ln. -/
def State.setDfe (s : State) (n : Nat) (d1 d2 d3 : BitVec 6) : State :=
  ((s.setF (Fld.LANE_EQ_DFE1 n) d1.toNat).setF (Fld.LANE_EQ_DFE2 n) d2.toNat).setF (Fld.LANE_EQ_DFE3 n) d3.toNat

/-- Row LANE_ADAPT_DONE: the 1 ms ends, with the (H, V) each CTLE code gave and the DFE taps reached (R262). -/
def execLaneAdaptDone (n : Nat) (eyes : List (Nat × Nat)) (d1 d2 d3 : BitVec 6) (s : State) : Out :=
  if n < 4 && s.b (Fld.LANE_STAT_ALIGNED n) && (s.lane n).adapting then
    let eyes := eyes.take 16
    let s := s.setLane n { s.lane n with adapting := false }
    let s := (s.setF (Fld.LANE_EQ_CTLE n) (bestCtle eyes)).setDfe n d1 d2 d3
    let s := s.setB (Fld.LANE_STAT_ADAPTED n) true
    .next (s.raiseIf (eyes.all (fun e => decide (e.1 = 0))) (Cause.LANE_ADAPT_FAIL n))
  else .next s

/-- Row EYE_MEASURE: the eye monitor of lane Ln reads H and V; the DFE taps have adapted on unless FREEZE holds them (R262, R263). -/
def execEyeMeasure (n h v : Nat) (d1 d2 d3 : BitVec 6) (s : State) : Out :=
  if 4 ≤ n then .next s
  else if !s.b (Fld.LANE_STAT_ALIGNED n) then .next ((s.setF (Fld.LANE_EYE_H n) 0).setF (Fld.LANE_EYE_V n) 0)
  else
    let s := (s.setF (Fld.LANE_EYE_H n) (min 64 h)).setF (Fld.LANE_EYE_V n) (min 511 v)
    let s := if s.b (Fld.LANE_STAT_ADAPTED n) && !s.b (Fld.LANE_CFG_FREEZE n) then s.setDfe n d1 d2 d3 else s
    .next (s.raiseIf (decide (min 64 h < s.f (Fld.LANE_CFG_EYEMIN n))) (Cause.LANE_EYE_LOW n))

/-- Row LANE_PLL_LOCK: the lane PLL runs whenever a lane is on (R259). -/
def execLanePllLock (s : State) : Out :=
  .next (if (List.range 4).any s.laneOn then s.setB Fld.CLK_STATUS_LPLL_LOCK true else s)

/-- Row LANE_PLL_LOSS: every lane sends electrical idle and loses alignment (R259). -/
def execLanePllLoss (s : State) : Out :=
  .next ((List.range 4).foldl (fun s n => s.laneLost n) (s.setB Fld.CLK_STATUS_LPLL_LOCK false))

end Sys2Proof.Machine
end

