-- ==== Sys2Proof/Machine/Eth.lean ====
section
/-!
DEFINITION. Ethernet ports (R264-R279): link, filtering and classes, ARP and ICMP, parallel redundancy, timestamps and transmission.
-/
namespace Sys2Proof.Machine

/-! ## Bytes of frames (network order) -/

/-- Byte `o`. -/
def at8 (l : List Byte) (o : Nat) : Nat := (l.getD o 0).toNat
/-- A big-endian half-word. -/
def at16 (l : List Byte) (o : Nat) : Nat := at8 l o * 256 + at8 l (o + 1)
/-- A big-endian word. -/
def at32 (l : List Byte) (o : Nat) : Nat := at16 l o * 65536 + at16 l (o + 2)
/-- Six bytes of a MAC address. -/
def at48 (l : List Byte) (o : Nat) : Nat := at16 l o * 2 ^ 32 + at32 l (o + 2)

/-- A half-word in network order. -/
def be16 (v : Nat) : List Byte := [BitVec.ofNat 8 (v / 256), BitVec.ofNat 8 v]
/-- A word in network order. -/
def be32 (v : Nat) : List Byte := be16 (v / 65536) ++ be16 v
/-- A MAC address in network order. -/
def be48 (v : Nat) : List Byte := be16 (v / 2 ^ 32) ++ be32 v

/-- The ones-complement sum of the half-words of `l` (RFC 791, 768, 792): a last odd byte is the high half. -/
def sum16 : List Byte → Nat
  | [] => 0
  | [a] => a.toNat * 256
  | a :: b :: l => a.toNat * 256 + b.toNat + sum16 l

/-- Folding the carries of a ones-complement sum. -/
def fold16 (v : Nat) : Nat := let a := v % 65536 + v / 65536; let b := a % 65536 + a / 65536; b % 65536 + b / 65536

/-! ## Effective settings (R71, R268) -/

/-- PRP is active (R268). -/
def State.prpActive (s : State) : Bool := !s.noImage && s.b (Fld.ETH_CFG_PRP 0) && s.f (Fld.ETH_CFG_MODE 0) = s.f (Fld.ETH_CFG_MODE 1)

/-- The port whose settings and queues apply to port `p` (R266, R268). -/
def State.ethOf (s : State) (p : Nat) : Nat := if s.prpActive then 0 else p

/-- The MAC address of port `p`. -/
def State.ethMac (s : State) (p : Nat) : Nat :=
  if s.noImage then 0x024956000000 + s.f Fld.TOP_STRAP_HID * 256 + p
  else s.f (Fld.ETH_MACHI_MAC (s.ethOf p)) * 2 ^ 32 + s.f (Fld.ETH_MACLO_MAC (s.ethOf p))

/-- The IPv4 address of port `p`. -/
def State.ethIp (s : State) (p : Nat) : Nat :=
  if s.noImage then 0xA9FE6400 + (1 + s.f Fld.TOP_STRAP_HID) else s.f (Fld.ETH_IP_ADDR (s.ethOf p))

/-- The IPv4 mask of port `p`. -/
def State.ethMask (s : State) (p : Nat) : Nat := if s.noImage then 0xFFFF0000 else s.f (Fld.ETH_MASK_ADDR (s.ethOf p))

/-- The AMP port number and whether AMP is on at port `p` (R285, R71). -/
def State.ampPort (s : State) (p : Nat) : Nat × Bool :=
  if s.noImage then (50210, true) else (s.f Fld.AMP_CFG_PORT, if s.ethOf p = 0 then s.b Fld.AMP_CFG_ETH0 else s.b Fld.AMP_CFG_ETH1)

/-- PRP_ACTIVE and PRP_CFG at commit (R268). -/
def State.prpCommit (s : State) : State :=
  let s := s.setB (Fld.ETH_STAT_PRP_ACTIVE 0) s.prpActive
  s.raiseIf (!s.noImage && s.b (Fld.ETH_CFG_PRP 0) && !s.prpActive) (Cause.ETH_PRP_CFG 0)

/-- ETH1 is held down: PRP asked for with different modes (R268). -/
def State.ethHeld (s : State) (p : Nat) : Bool := p = 1 && !s.noImage && s.b (Fld.ETH_CFG_PRP 0) && !s.prpActive

/-- A write of ETHp_CFG (R277, Table 13.6): the port goes down, and a MODE write reloads the corrections of the new rate. -/
def State.ethCfgWrite (s : State) (p : Nat) (v : Word) : State :=
  let s := s.rset (Reg.ETH_CFG p) (v &&& 0x80000013)
  let load (s : State) (i e : Nat) : State := (s.setF (Fld.ETH_ASYM_I_PS p) i).setF (Fld.ETH_ASYM_E_PS p) e
  let s := match s.f (Fld.ETH_CFG_MODE p) with
    | 0 | 1 => load s 45600 37600
    | 2 => load s 19840 16320
    | _ => s
  (s.ethDown p).laneRates

/-- Row ETH_MODE_WRITE: ETHp_CFG is RWL, so the write acts until commit (R277, R7). -/
def execEthModeWrite (p : Nat) (v : Word) (s : State) : Out := .next (if p < 2 && s.dev = .boot then s.ethCfgWrite p v else s)

/-! ## Transmission (R267, R269, R279) -/

/-- The first frame of the best class among those that wait. -/
def bestTx : List TxFr → Option TxFr
  | [] => none
  | f :: l => match bestTx l with
    | none => some f
    | some g => if f.cls ≤ g.cls then some f else some g

/-- Removing one frame. -/
def dropTx (f : TxFr) : List TxFr → List TxFr
  | [] => []
  | g :: l => if g = f then l else g :: dropTx f l

/-- The next hop towards `dst`: the gateway outside the mask. -/
def State.nextHop (s : State) (p : Nat) (dst : Nat) : Nat :=
  let m := BitVec.ofNat 32 (s.ethMask p)
  if BitVec.ofNat 32 dst &&& m = BitVec.ofNat 32 (s.ethIp p) &&& m then dst else if s.noImage then dst else s.f (Fld.ETH_GW_ADDR (s.ethOf p))

/-- A destination is resolved: multicast always, unicast by ARP. -/
def State.resolved (s : State) (p : Nat) (dst : Nat) : Bool :=
  0xE0000000 ≤ dst && dst < 0xF0000000 ||
    ((s.eth (s.ethOf p)).arp.any (fun e => e.ip.toNat = s.nextHop p dst && e.mac.isSome))

/-- The MAC address of an IPv4 destination: of a multicast group by RFC 1112, else of the next hop by ARP (R265). -/
def State.macOf (s : State) (p dst : Nat) : Nat :=
  if 0xE0000000 ≤ dst && dst < 0xF0000000 then 0x01005E000000 + dst % 2 ^ 23
  else match (s.eth (s.ethOf p)).arp.find? (fun e => e.ip.toNat = s.nextHop p dst) with
    | some e => (e.mac.getD 0).toNat
    | none => 0

/-! ## The bytes of a transmitted frame (R5, R265, R267, R269, R271) -/

/-- The checksum of the Internet protocols over `l`, and further half-words that sum to `k`. -/
def csum (l : List Byte) (k : Nat) : Nat := 0xFFFF - fold16 (sum16 l + k)

/-- An IPv4 packet of port `p` without options (RFC 791). -/
def State.ipPacket (s : State) (p dst proto dscp : Nat) (o : BitVec 23) (pay : List Byte) : List Byte :=
  let h (c : Nat) : List Byte :=
    [0x45, BitVec.ofNat 8 (dscp * 4)] ++ be16 (20 + pay.length) ++ be16 (o.toNat % 65536) ++ be16 (if o.getLsbD 16 then 0x4000 else 0)
      ++ [BitVec.ofNat 8 (s.f (Fld.ETH_TTL_TTL (s.ethOf p))), BitVec.ofNat 8 proto] ++ be16 c ++ be32 (s.ethIp p) ++ be32 dst
  h (csum (h 0) 0) ++ pay

/-- A UDP datagram with its checksum, which is never sent as 0 (RFC 768). -/
def State.udpSegment (s : State) (p dst sport dport : Nat) (pay : List Byte) : List Byte :=
  let u (c : Nat) : List Byte := be16 sport ++ be16 dport ++ be16 (8 + pay.length) ++ be16 c ++ pay
  let c := csum (u 0) (sum16 (be32 (s.ethIp p) ++ be32 dst) + 17 + (8 + pay.length))
  u (if c = 0 then 0xFFFF else c)

/-- An ICMP echo reply with its checksum (RFC 792). -/
def echoSegment (data : List Byte) : List Byte := [0, 0] ++ be16 (csum ([0, 0, 0, 0] ++ data) 0) ++ data

/-- An ARP packet of port `p` (RFC 826). -/
def State.arpPacket (s : State) (p op tmac tip : Nat) : List Byte :=
  be16 1 ++ be16 0x0800 ++ [6, 4] ++ be16 op ++ be48 (s.ethMac p) ++ be32 (s.ethIp p) ++ be48 tmac ++ be32 tip

/-- A frame from its destination address to the end of its payload, as the port forms it before tag, padding and trailer. -/
def State.frameBody (s : State) (p : Nat) (f : TxFr) : List Byte :=
  let eth (dst ty : Nat) (pay : List Byte) : List Byte := be48 dst ++ be48 (s.ethMac p) ++ be16 ty ++ pay
  match f.body with
  | .raw b => b
  | .arpRequest ip => eth 0xFFFFFFFFFFFF 0x0806 (s.arpPacket p 1 0 ip.toNat)
  | .arpReply ip mac => eth mac.toNat 0x0806 (s.arpPacket p 2 mac.toNat ip.toNat)
  | .echoReply ip mac data => eth mac.toNat 0x0800 (s.ipPacket p ip.toNat 1 (f.ip.toNat / 2 ^ 17) f.ip (echoSegment data))
  | .supervision q => eth 0x01154E000100 0x88FB (be16 1 ++ be16 q ++ [20, 6] ++ be48 (s.ethMac p) ++ [0, 0])
  | .udp dst sport dport dscp pay => eth (s.macOf p dst.toNat) 0x0800 (s.ipPacket p dst.toNat 17 dscp f.ip (s.udpSegment p dst.toNat sport dport pay))

/-- Zeros up to `n` bytes. -/
def padTo (n : Nat) (l : List Byte) : List Byte := l ++ List.replicate (n - l.length) 0

/-- A frame with the port's 802.1Q tag, where ETHn_VLAN.EN is set (R265). -/
def State.vlanTag (s : State) (p : Nat) (b : List Byte) : List Byte :=
  let q := s.ethOf p
  if s.noImage || !s.b (Fld.ETH_VLAN_EN q) then b
  else b.take 12 ++ be16 0x8100 ++ be16 (s.f (Fld.ETH_VLAN_PCP q) * 8192 + s.f (Fld.ETH_VLAN_VID q)) ++ b.drop 12

/-- A frame padded to the least length, with its redundancy control trailer if it has one: number, LanId and LSDU size, suffix (R267, R269). -/
def withRct (p : Nat) (rct : Option Nat) (b : List Byte) : List Byte :=
  match rct with
  | none => padTo 60 b
  | some q =>
    let b := padTo 54 b
    let hdr := if at16 b 12 = 0x8100 then 18 else 14
    b ++ be16 q ++ be16 ((10 + p) * 4096 + (b.length + 6 - hdr) % 4096) ++ be16 0x88FB

/-- What port `p` puts on the line for a frame, from its destination address to its FCS (R63, R267). -/
def State.lineBytes (s : State) (p : Nat) (f : TxFr) : List Byte :=
  let b := withRct p f.rct (s.vlanTag p (s.frameBody p f))
  b ++ wordBytes (crc32 b)

/-- A frame can go: its destination is resolved. -/
def State.txReady (s : State) (p : Nat) (f : TxFr) : Bool := match f.body with | .udp dst _ _ _ _ => s.resolved p dst.toNat | _ => true

/-- An idle port that is up starts its next frame (R267). -/
def State.ethKick (s : State) (p : Nat) : State :=
  let x := s.eth p
  if !s.b (Fld.ETH_STAT_LINK p) || x.cur.isSome then s else
  match bestTx (x.wait.filter (s.txReady p)) with
  | none => s
  | some f => s.setEth p { x with cur := some f, wait := dropTx f x.wait, line := s.lineBytes p f }

/-- A frame joins those that wait on one port. -/
def State.ethPush (s : State) (p : Nat) (f : TxFr) : State :=
  (s.setEth p { s.eth p with wait := (s.eth p).wait ++ [f] }).ethKick p

/-- An IPv4 frame takes what the manual leaves open of its header: both its copies carry the same (R269). -/
def State.ipOpen (s : State) (f : TxFr) : State × TxFr :=
  match f.body with
  | .udp .. | .echoReply .. => (s.fresh.2, { f with ip := Config.ipOpen s.fresh.1 })
  | _ => (s, f)

/-- A frame is sent on port `p`; while PRP is active every frame but a PTP frame goes to both ports with a trailer, and a port that is down sends no copy
(R269). The numbers of legal records stay with the first copy. -/
def State.ethSend (s : State) (p : Nat) (f : TxFr) : State :=
  let x := s.ipOpen f
  let s := x.1
  let f := x.2
  if s.prpActive && f.cls != 0 then
    let q := s.f Fld.PRP_SEQ_SEQ
    let s := s.incMod Fld.PRP_SEQ_SEQ 1
    let f := { f with rct := some q }
    let up0 := s.b (Fld.ETH_STAT_LINK 0)
    let up1 := s.b (Fld.ETH_STAT_LINK 1)
    let s := if up0 then s.ethPush 0 { f with txbuf := f.txbuf && p = 0 } else s
    let s := if up1 then s.ethPush 1 { f with txbuf := f.txbuf && p = 1, lrs := if up0 then 0 else f.lrs } else s
    -- a TXBUF frame whose own port is down leaves the buffer at once
    if f.txbuf && !(if p = 0 then up0 else up1) then s.setB (Fld.ETH_TXSTAT_BUSY p) false else s
  else s.ethPush p f

/-- The transport of a frame for PTP (R266, R279): the offset of the PTP header, if it is a PTP frame. -/
def ptpOffset (b : List Byte) : Option Nat :=
  let o := if at16 b 12 = 0x8100 then 4 else 0
  let ty := at16 b (12 + o)
  if ty = 0x88F7 then some (14 + o)
  else if ty = 0x0800 && at8 b (23 + o) = 17 && (at16 b (36 + o) = 319 || at16 b (36 + o) = 320) then some (42 + o)
  else none

/-- Bytes of ETHp_TXBUF. -/
def State.txbuf (s : State) (p n : Nat) : List Byte :=
  ((List.range ((n + 3) / 4)).flatMap (fun i => wordBytes (s.rget (Reg.ETH_TXBUF p i)))).take n

/-- A write of ETHp_TXCMD (R267): GO is ignored while the buffer is in use. A frame of more than 1,528 bytes is discarded and counted (R265; DEDUCED, log 94). -/
def State.txcmdWrite (s : State) (p : Nat) (v : Word) : State :=
  let s := s.rset (Reg.ETH_TXCMD p) (v &&& 0x400007FF)
  if !v.msb || s.b (Fld.ETH_TXSTAT_BUSY p) then s else
  let b := s.txbuf p (s.f (Fld.ETH_TXCMD_LEN p))
  let f : TxFr := { cls := if (ptpOffset b).isSome then 0 else 4, body := .raw b, ts := s.b (Fld.ETH_TXCMD_TSREQ p), txbuf := true }
  if 1528 < (s.lineBytes p { f with rct := if s.prpActive && f.cls != 0 then some 0 else none }).length then s.incSat (Fld.ETH_CNT_RXBAD_FILT p) 1
  else (s.setB (Fld.ETH_TXSTAT_BUSY p) true).ethSend p f

/-- Row ETH_TXCMD_GO. -/
def execEthTxcmdGo (p : Nat) (v : Word) (s : State) : Out := .next (if p < 2 then s.txcmdWrite p v else s)

/-- A correction in 2⁻¹⁶ ns of a register in ps, rounded to nearest (R277). -/
def asym (ps : Int) : Int := (2 * ps * 65536 + 1000) / 2000

/-- WRAPS:NS:FRAC in 2⁻¹⁶ ns, `d` such units before now (R277, R278). -/
def State.stampAt (s : State) (d : Nat) : Int :=
  (s.f Fld.TIME_STAT_WRAPS * 2 ^ 48 + s.time.ctr.toNat / 2 ^ 16 : Nat) - (d : Int)

/-- A copy of the datagram of stream `k` with DSEQ `q` has been sent in full. -/
def State.dgSent (s : State) (k q : Nat) : State :=
  s.withWort { s.wort with dgrams := s.wort.dgrams.map (fun e => if e.stream = k && e.seq = some q then { e with sent := true } else e) }

/-- Row ETH_FRAME_TRANSMIT_DONE: the frame in transmission ends, its timestamp point lay `d` × 2⁻¹⁶ ns before (R267, R277, R279). One that the transmit buffer's parity finds
damaged (`par`) is discarded and counted (R361; DESIGN CHOICE, log 101: the counter). -/
def execEthFrameTransmitDone (p d : Nat) (s : State) (par : Bool := false) : Out :=
  let x := s.eth p
  if 2 ≤ p then .next s else
  match x.cur with
  | none => .next s
  | some f =>
    let s := s.setEth p { x with cur := none }
    let s := if par then s.incSat (Fld.ETH_CNT_RXBAD_FILT p) 1 else s.incMod (Fld.ETH_CNT_TX_FRAMES p) 1
    let s := if f.txbuf then s.setB (Fld.ETH_TXSTAT_BUSY p) false else s
    let s := match f.dg with | some (k, q) => (s.dgSent k q).dgRelease k q | none => s
    let s := match f.ts && !par, f.body with
      | true, .raw b =>
        let cap := s.stampAt d
        let t := (cap % 2 ^ 48 + asym (s.fs (Fld.ETH_ASYM_E_PS p))) % 2 ^ 48
        let o := (ptpOffset b).getD 14
        let e : Word × Word × Word :=
          (BitVec.ofNat 32 (2 ^ 31 + at8 b o % 16 * 2 ^ 24 + at16 b (o + 30)), BitVec.ofInt 32 (t / 65536),
           BitVec.ofInt 32 (t % 65536 * 65536 + cap / 2 ^ 48 % 65536))
        if (s.eth p).txts.length < 16 then s.setEth p { s.eth p with txts := (s.eth p).txts ++ [e] } else s.raise (Cause.ETH_TXTS_LOST p)
      | _, _ => s
    .next (s.ethKick p)

/-- Row ETH_TXTS2_READ: the read removes the stamp (R279). -/
def execEthTxts2Read (p : Nat) (s : State) : Out := .next (if p < 2 then s.setEth p { s.eth p with txts := (s.eth p).txts.drop 1 } else s)

/-! ## Link (R264) -/

/-- Row ETH_LINK_CHANGE: port `p` comes up (its PCS being synchronised, negotiation complete and acceptable) or goes down; `refused`: an SGMII partner was refused. -/
def execEthLinkChange (p : Nat) (up refused : Bool) (s : State) : Out :=
  if 2 ≤ p then .next s else
  let mode := s.ethMode p
  let an := s.noImage || (s.b (Fld.ETH_CFG_AN p) && mode != 2)
  let s := s.raiseIf (refused && mode = 1 && an) (Cause.ETH_SPEED_ERR p)
  if up && !(refused && an) && mode != 3 && s.laneOn p && s.b Fld.CLK_STATUS_LPLL_LOCK && s.b (Fld.LANE_STAT_ALIGNED p) && !s.ethHeld p && !s.rst.l2.contains (.eth p) then
    let s := (s.setB (Fld.ETH_STAT_LINK p) true).setB (Fld.ETH_STAT_AN_DONE p) an
    .next (s.ethKick p)
  else .next (s.ethDown p)

/-- A level L2 reset of a port (Table 13.6): MAC, PCS, queues, ARP entries and transmit stamps are cleared,
and its counters return to 0 (Table 19.3). -/
def State.ethReset (s : State) (p : Nat) : State :=
  let s := ((s.ethDown p).dgRecall p).setEth p {}
  [Reg.ETH_QSTAT p, Reg.ETH_TXSTAT p, Reg.ETH_CNT_RX p, Reg.ETH_CNT_TX p, Reg.ETH_CNT_RXBAD p, Reg.ETH_CNT_DROP p].foldl (fun s a => s.rset a 0) s

/-! ## ARP and hardware replies (R265) -/

/-- Frames that wait for the hop `ip` on the ports of the settings of ETHq go back with its entry: datagrams wait again (R214), replies are lost (DESIGN CHOICE, log 95). -/
def State.dropHop (s : State) (q ip : Nat) : State :=
  (List.range 2).foldl (fun s p =>
    let hit (f : TxFr) : Bool := s.ethOf p = q && (match f.body with | .udp dst _ _ _ _ => s.nextHop p dst.toNat = ip && !s.resolved p dst.toNat | _ => false)
    let x := s.eth p
    ((x.wait.filter hit).filterMap (·.dg)).foldl (fun s d => s.dgRelease d.1 d.2) (s.setEth p { x with wait := x.wait.filter (fun f => !hit f) })) s

/-- An ARP request for `ip` goes out, with an entry that waits for the answer. -/
def State.arpAsk (s : State) (p : Nat) (ip : Nat) : State :=
  let q := s.ethOf p
  let x := s.eth q
  if x.arp.any (fun e => e.ip.toNat = ip) then s else
  (s.setEth q { x with arp := x.arp ++ [{ ip := BitVec.ofNat 32 ip, mac := none, tries := 1 }] }).ethSend p { cls := 2, body := .arpRequest (BitVec.ofNat 32 ip) }

/-- Row ARP_REFRESH: the entry of `ip` is refreshed, or discarded after three unanswered requests (R265). -/
def execArpRefresh (p : Nat) (ip : Word) (s : State) : Out :=
  let q := s.ethOf p
  let x := s.eth q
  if 2 ≤ p then .next s else
  match x.arp.find? (fun e => e.ip = ip) with
  | none => .next s
  | some e =>
    if 3 ≤ e.tries then .next ((s.setEth q { x with arp := x.arp.filter (fun e => e.ip != ip) }).dropHop q ip.toNat)
    else .next ((s.setEth q { x with arp := x.arp.map (fun e => if e.ip = ip then { e with tries := e.tries + 1 } else e) }).ethSend p
      { cls := 2, body := .arpRequest ip })

/-- A hardware reply, at most 64 a second (R265). -/
def State.hwReply (s : State) (p : Nat) (body : TxBody) : State :=
  let x := s.eth p
  let recent := x.replies.filter (fun m => decide (s.ms < m + 1000))
  if recent.length < 64 then (s.setEth p { x with replies := s.ms :: recent }).ethSend p { cls := 2, body := body }
  else s.incSat (Fld.ETH_CNT_DROP_HW p) 1

/-! ## Reception (R265, R266, R270, R278) -/

/-- A frame is filtered and counted. -/
def State.ethFilt (s : State) (p : Nat) : State := s.incSat (Fld.ETH_CNT_RXBAD_FILT p) 1

/-- The descriptor of a slot (R278). -/
def State.descriptor (s : State) (p cls : Nat) (d len : Nat) : List Byte :=
  let cap := s.stampAt d
  let t := cap % 2 ^ 48 - asym (s.fs (Fld.ETH_ASYM_I_PS p))
  let w0 := p * 2 ^ 31 + (if t < 0 then 2 ^ 30 else 0) + (s.b Fld.TIME_CTRL_VALID).toNat * 2 ^ 29 + cls * 2 ^ 27 + (cap / 2 ^ 48 % 65536).toNat * 2 ^ 11 + len % 2048
  wordBytes (BitVec.ofNat 32 w0) ++ wordBytes (BitVec.ofInt 32 (t % 2 ^ 48 / 65536)) ++ wordBytes (BitVec.ofInt 32 (t % 65536 * 65536))

/-- QSTAT follows the queues. -/
def State.qstat (s : State) (p : Nat) : State :=
  let x := s.eth p
  ((s.setF (Fld.ETH_QSTAT_Q0 p) x.q0.length).setF (Fld.ETH_QSTAT_Q1 p) x.q1.length).setF (Fld.ETH_QSTAT_Q2 p) x.q2.length

/-- A frame received on port `p` enters an ingress queue, or is dropped and counted (R266). -/
def State.ethQueue (s : State) (p cls d : Nat) (fr : List Byte) : State :=
  let q := s.ethOf p
  let x := s.eth q
  let slot := s.descriptor p cls d fr.length ++ fr
  let drop (F : Fld) : State := (s.incSat F 1).raise (Cause.ETH_QDROP q)
  match cls with
  | 0 => if x.q0.length < 32 then (s.setEth q { x with q0 := x.q0 ++ [slot] }).qstat q else drop (Fld.ETH_CNT_DROP_Q0 q)
  | 1 => if x.q1.length < 16 then (s.setEth q { x with q1 := x.q1 ++ [slot] }).qstat q else drop (Fld.ETH_CNT_DROP_Q1 q)
  | _ => if x.q2.length < 16 then (s.setEth q { x with q2 := x.q2 ++ [slot] }).qstat q else drop (Fld.ETH_CNT_DROP_Q2 q)

/-- The verdict of the duplicate check (R270). -/
inductive PrpVerdict where
  | dup | fresh | untracked
  deriving DecidableEq, Repr

/-- Recording sequence number `q` in an entry: whether it was recorded before, and the entry afterwards (R270). One more than 64 behind begins a new record, which is where an
entry can hold it (DEDUCED, log 96). -/
def PrpEnt.record (e : PrpEnt) (q ms : Nat) : Bool × PrpEnt :=
  let ahead := (q + 65536 - e.high) % 65536
  if ahead = 0 then (true, { e with lastMs := ms })
  else if ahead < 32768 then
    (false, { e with high := q, seen := (e.seen <<< ahead) ||| (if ahead ≤ 64 then 1#64 <<< (ahead - 1) else 0), lastMs := ms })
  else
    let k := 65536 - ahead
    if k ≤ 64 then (e.seen.getLsbD (k - 1), { e with seen := e.seen ||| (1#64 <<< (k - 1)), lastMs := ms })
    else (false, { e with high := q, seen := 0, lastMs := ms })

/-- The duplicate check of a frame from `mac` with number `q` (R270). -/
def State.prpCheck (s : State) (mac q : Nat) : PrpVerdict × State :=
  let m := BitVec.ofNat 48 mac
  match s.prp.find? (fun e => e.mac = m) with
  | some e =>
    let (d, e') := e.record q s.ms
    (if d then .dup else .fresh, (s.withPrp (s.prp.map (fun x => if x.mac = m then e' else x))))
  | none =>
    if s.prp.length < 128 then (.fresh, (s.withPrp (s.prp ++ [{ mac := m, high := q, seen := 0, lastMs := s.ms }])))
    else (.untracked, s)

/-- Row PRP_ENTRY_FORGET: an entry goes FORGET ms after its last frame (R270). -/
def execPrpEntryForget (mac : BitVec 48) (s : State) : Out :=
  .next (s.withPrp (s.prp.filter (fun e => e.mac != mac || decide (s.ms < e.lastMs + max 1 (s.f Fld.PRP_SUP_FORGET)))))

/-- A supervision frame is due: INTV ms have passed since the last (R271). -/
def State.supDue (s : State) : Bool := s.prpActive && (s.eth 0).supMs.all (fun m => decide (m + s.f Fld.PRP_SUP_INTV ≤ s.ms))

/-- Row PRP_SUPERVISION_SEND (R271). -/
def execPrpSupervisionSend (s : State) : Out :=
  let x := s.eth 0
  .next (if s.supDue then (s.setEth 0 { x with supSeq := (x.supSeq + 1) % 65536, supMs := some s.ms }).ethSend 0 { cls := 1, body := .supervision x.supSeq } else s)

/-- A valid PRP trailer: its number, LanId and the frame without it (R269, R270). -/
def prpTrailer (fr : List Byte) : Option (Nat × Nat × List Byte) :=
  let n := fr.length
  let hdr := if at16 fr 12 = 0x8100 then 18 else 14
  let lan := at16 fr (n - 4)
  if 20 ≤ n && at16 fr (n - 2) = 0x88FB && lan % 4096 = n - hdr && (lan / 4096 = 10 || lan / 4096 = 11) then some (at16 fr (n - 6), lan / 4096, fr.take (n - 6)) else none

/-- A UDP datagram's checksum is right, or absent (R265). -/
def udpOk (fr : List Byte) (ip : Nat) : Bool :=
  let u := fr.drop (ip + 20)
  let len := at16 u 4
  at16 u 6 = 0 || fold16 (sum16 (u.take len) + at16 fr (ip + 12) + at16 fr (ip + 14) + at16 fr (ip + 16) + at16 fr (ip + 18) + 17 + len) = 0xFFFF

/-- An IPv4 packet the port handles at all: 20-byte header, no fragment, right checksum (R265). -/
def ipOk (fr : List Byte) (ip : Nat) : Bool :=
  at8 fr ip = 0x45 && at16 fr (ip + 6) % 0x4000 = 0 && fold16 (sum16 ((fr.drop ip).take 20)) = 0xFFFF && decide (ip + at16 fr (ip + 2) ≤ fr.length)

/-- An ARP packet at offset `o` (R265): a known entry learns the sender; a request for the port's address is answered. -/
def State.arpRx (s : State) (p : Nat) (fr : List Byte) (o : Nat) : State :=
  let sip := at32 fr (o + 14)
  let smac := BitVec.ofNat 48 (at48 fr (o + 8))
  let q := s.ethOf p
  let x := s.eth q
  let s := s.setEth q { x with arp := x.arp.map (fun e => if e.ip.toNat = sip then { e with mac := some smac, tries := 0 } else e) }
  let s := (s.ethKick 0).ethKick 1
  if at16 fr (o + 6) = 1 && at32 fr (o + 24) = s.ethIp p then s.hwReply p (.arpReply (BitVec.ofNat 32 sip) smac) else s

/-- A little-endian half-word of an AMP message (R5). -/
def le16 (l : List Byte) (o : Nat) : Nat := at8 l o + at8 l (o + 1) * 256

/-- An AMP request is malformed (R286); `m` is the message without padding. -/
def ampBad (m : List Byte) : Bool := at8 m 0 != 1 || decide (1012 < le16 m 4) || m.length != 12 + le16 m 4

/-- A message that is no AMP request at all: shorter than 8 bytes, or a reply (R286). -/
def ampNone (m : List Byte) : Bool := decide (m.length < 8) || at8 m 7 % 2 = 1

/-- The payload of the UDP datagram in a frame whose IPv4 header lies at `ip`. -/
def udpPayload (fr : List Byte) (ip : Nat) : List Byte := (fr.drop (ip + 28)).take (at16 fr (ip + 24) - 8)

/-- A received frame, without its FCS, is classed (Table 13.3); `fr` has lost its PRP trailer. The timestamp point lay `d` × 2⁻¹⁶ ns before. -/
def State.classify (s : State) (p : Nat) (fr : List Byte) (d : Nat) : State :=
  let o := if at16 fr 12 = 0x8100 then 4 else 0
  let ty := at16 fr (12 + o)
  let dst := at48 fr 0
  let ip := 14 + o
  let (ampP, ampOn) := s.ampPort p
  let toAmp : Bool := ty = 0x0800 && ipOk fr ip && at8 fr (ip + 9) = 17 && udpOk fr ip && at32 fr (ip + 16) = s.ethIp p && at16 fr (ip + 22) = ampP && ampOn
  if s.dev = .park then
    if ty = 0x0806 then s.arpRx p fr ip
    else if toAmp && dst = s.ethMac p then
      (if ampNone (udpPayload fr ip) || ampBad (udpPayload fr ip) then s.incSat Fld.AMP_CNT1_BADFMT 1
       else ((s.ethQueue p 1 d fr).withParkWake true))
    else s.ethFilt p
  else if ty = 0x88F7 then
    if dst = s.ethMac p || dst = 0x011B19000000 || dst = 0x0180C200000E then s.ethQueue p 0 d fr else s.ethFilt p
  else if ty = 0x0806 then s.arpRx p fr ip
  else if ty = 0x0800 && ipOk fr ip then
    let da := at32 fr (ip + 16)
    if at8 fr (ip + 9) = 17 then
      if !udpOk fr ip then s.ethFilt p else
      let dp := at16 fr (ip + 22)
      if (dp = 319 || dp = 320) && (da = s.ethIp p || da = 0xE0000181 || da = 0xE000006B) then s.ethQueue p 0 d fr
      else if toAmp then
        let s := s.ethQueue p 1 d fr
        s.withParkWake (s.parkWake || (s.pins.parkTest && !ampNone (udpPayload fr ip) && !ampBad (udpPayload fr ip)))
      else if da = s.ethIp p && s.f (Fld.ETH_USER_FIRST (s.ethOf p)) ≤ dp && dp ≤ s.f (Fld.ETH_USER_LAST (s.ethOf p)) then s.ethQueue p 2 d fr
      else s.ethFilt p
    else if at8 fr (ip + 9) = 1 && at8 fr (ip + 20) = 8 && da = s.ethIp p then
      let data := (fr.drop (ip + 20)).take (at16 fr (ip + 2) - 20)
      if fold16 (sum16 data) = 0xFFFF then s.hwReply p (.echoReply (BitVec.ofNat 32 (at32 fr (ip + 12))) (BitVec.ofNat 48 (at48 fr 6)) (data.drop 4))
      else s.ethFilt p
    else s.ethFilt p
  else s.ethFilt p

/-- A tagged frame the port does not accept (R265). -/
def State.vlanBad (s : State) (p : Nat) (fr : List Byte) : Bool :=
  !s.noImage && at16 fr 12 = 0x8100 && s.b (Fld.ETH_VLAN_EN (s.ethOf p)) && at16 fr 14 % 4096 != s.f (Fld.ETH_VLAN_VID (s.ethOf p))

/-- Row ETH_FRAME_RECEIVE: a frame, from its destination address and without FCS, arrives on port `p` with the verdict of its FCS; its timestamp point
lay `d` × 2⁻¹⁶ ns before (R265, R266, R270). -/
def execEthFrameReceive (p : Nat) (fr : List Byte) (fcs : Bool) (d : Nat) (s : State) : Out :=
  if 2 ≤ p || !s.b (Fld.ETH_STAT_LINK p) || s.ethMode p = 3 then .next s
  else if !fcs then .next ((s.incSat (Fld.ETH_CNT_RXBAD_FCS p) 1).raise (Cause.ETH_FCS p))
  else if fr.length < 60 || 1524 < fr.length then .next (s.ethFilt p)
  else
    let s := s.incMod (Fld.ETH_CNT_RX_FRAMES p) 1
    let ty := at16 fr (if at16 fr 12 = 0x8100 then 16 else 12)
    if s.vlanBad p fr || ty = 0x8808 || ty = 0x88FB || at48 fr 0 = 0x01154E000100 then .next (s.ethFilt p)
    else if s.prpActive then
      match prpTrailer fr with
      | none => .next (s.classify p fr d)
      | some (q, lan, body) =>
        if (ptpOffset fr).isSome then .next (s.classify p body d) else
        let s := if lan = 10 + p then s else s.incSat Fld.PRP_CNT_WLAN 1
        let r := s.prpCheck (at48 fr 6) q
        match r.1 with
        | .dup => .next (r.2.incMod Fld.PRP_DUP_COUNT 1)
        | .untracked => .next ((r.2.incSat Fld.PRP_CNT_NOTRACK 1).classify p body d)
        | .fresh => .next (r.2.classify p body d)
    else .next (s.classify p fr d)

/-- POP removes the head of the selected queue (R266). -/
def State.qpop (s : State) (p : Nat) : State :=
  let x := s.eth p
  (s.setEth p (match s.f (Fld.ETH_QSEL_Q p) with
    | 0 => { x with q0 := x.q0.drop 1 }
    | 1 => { x with q1 := x.q1.drop 1 }
    | 2 => { x with q2 := x.q2.drop 1 }
    | _ => x)).qstat p

/-- Row ETH_QPOP: POP of ETHp_QPOP is written 1. -/
def execEthQpop (p : Nat) (s : State) : Out := .next (if p < 2 then s.qpop p else s)

/-- A word of ETHp_QHEAD: the head slot of the selected queue. -/
def State.qheadWord (s : State) (p i : Nat) : Word :=
  let x := s.eth p
  let q := match s.f (Fld.ETH_QSEL_Q p) with | 0 => x.q0 | 1 => x.q1 | 2 => x.q2 | _ => []
  bytesW (q.headD []) (4 * i)

/-! ## Datagrams (R213, R214) -/

/-- The payload of a datagram: STREAM and HID, DSEQ, records (R213). -/
def dgramBytes (stream hid dseq : Nat) (ws : List Word) : List Byte :=
  (BitVec.ofNat 32 (stream * 2 ^ 28 + hid % 32) :: BitVec.ofNat 32 dseq :: ws).flatMap wordBytes

/-- A datagram of stream `k` that a port can send: the oldest, unless a port has it. -/
def State.dgNext (s : State) (k : Nat) : Option Dgram := (s.wort.dgrams.find? (fun d => d.stream = k)).filter (fun d => !d.handed)

/-- A list with its first element of stream `k` replaced. -/
def setFirst (k : Nat) (d : Dgram) : List Dgram → List Dgram
  | [] => []
  | e :: l => if e.stream = k then d :: l else e :: setFirst k d l

/-- A read error in the ETH part of the buffer while a port reads the oldest point datagram `d` (R212): `err` is the record it hits, and whether it is uncorrectable: the column
stops at that record, and a GAP record names it. Answers the datagram that is left. -/
def State.ethEcc (s : State) (d : Dgram) (err : Option (Nat × Bool)) : State × Option Dgram :=
  match err with
  | none => (s, some d)
  | some (_, false) => (s.wortCe, some d)
  | some (i, true) =>
    let s := s.wortUe
    match (d.recs.drop i).find? (fun r => r.kind != .gap) with
    | none => (s, some d)
    | some r =>
      let fs := [r.frame]
      let later := ((s.wort.dgrams.filter (fun e => e.stream = 0)).drop 1).map (fun e => { e with recs := uncut fs e.recs })
      let op := (s.wort.dopen.map (fun o => (uncut fs o.1, o.2))).filter (fun o => !o.1.isEmpty)
      let s := s.cutEth fs (gapsOf (d.recs.drop i)) 6 (later.filter (fun e => !e.recs.isEmpty)) op
      let d := { d with recs := d.recs.take i }
      if d.recs.isEmpty then (s, none) else (s.withWort { s.wort with dgrams := d :: s.wort.dgrams }, some d)

/-- A datagram of stream `k` goes to port `p` with its DSEQ, and keeps its space until it has been sent in full (R212-R214). -/
def State.dgSend (s : State) (p k dst : Nat) (d : Dgram) : State :=
  let q := s.ethOf p
  let n := d.seq.getD (if k = 0 then s.wort.dseq0 else s.wort.dseq1)
  let step (x : Nat) : Nat := if d.seq.isSome then x else (x + 1) % 2 ^ 32
  let n0 := if k = 0 then step s.wort.dseq0 else s.wort.dseq0
  let n1 := if k = 0 then s.wort.dseq1 else step s.wort.dseq1
  let s := s.withWort { s.wort with dseq0 := n0, dseq1 := n1, dgrams := setFirst k { d with seq := some n, handed := true } s.wort.dgrams }
  let pay := dgramBytes k (s.f Fld.TOP_STRAP_HID) n (d.recs.flatMap (·.words))
  s.ethSend p {
    cls := if k = 0 then 5 else 3, lrs := if k = 0 then 0 else d.recs.length, dg := some (k, n),
    body := .udp (BitVec.ofNat 32 dst) (s.f (Fld.ETH_SPORT_SPORT q)) (if k = 0 then s.f (Fld.ETH_PORTS_PPORT q) else s.f (Fld.ETH_PORTS_LPORT q))
      (if k = 0 then s.f (Fld.ETH_DSCP_PTS q) else s.f (Fld.ETH_DSCP_LRS q)) pay }

/-- Row DATAGRAM_SEND: the oldest closed datagram of stream 0 (points) or 1 (legal records) goes to its port once that is up and the destination resolved; an unresolved one is
asked for (R213, R214, R265). `err` is the error that a port meets in the buffer when it first reads a point datagram (R212). -/
def execDatagramSend (stream : Nat) (s : State) (err : Option (Nat × Bool) := none) : Out :=
  let p := if s.prpActive then 0 else s.ef Fld.WORT_ETH_PORT
  let up := s.b (Fld.ETH_STAT_LINK p) || (s.prpActive && s.b (Fld.ETH_STAT_LINK 1))
  let q := s.ethOf p
  let dst := if stream = 0 then s.f (Fld.ETH_PDST_ADDR q) else s.f (Fld.ETH_LDST_ADDR q)
  if !up || s.noImage || s.dev = .park || 2 ≤ stream then .next s else
  match s.dgNext stream with
  | none => .next s
  | some d =>
    if !s.resolved p dst then .next (s.arpAsk p (s.nextHop p dst)) else
    let r := if stream = 0 && d.seq.isNone then s.ethEcc d err else (s, some d)
    .next (match r.2 with
      | none => r.1
      | some d => r.1.dgSend p stream dst d)

/-- Row DATAGRAM_DISCARD: the oldest point datagram has waited 100 ms; it and every later datagram of its columns are discarded, and DSEQ advances for each (R214). One that is in
transmission is not waiting. -/
def execDatagramDiscard (s : State) : Out :=
  match s.wort.dgrams.find? (fun d => d.stream = 0) with
  | none => .next s
  | some d =>
    let mine (f : TxFr) : Bool := d.seq.isSome && f.dg = d.seq.map (fun q => (0, q))
    let sending := (List.range 2).any (fun p => (s.eth p).cur.any mine)
    if s.now < d.closed + 100000000 || sending then .next s else
    let s := (List.range 2).foldl (fun s p => s.setEth p { s.eth p with wait := (s.eth p).wait.filter (fun f => !mine f) }) s
    let frames := d.frames
    let pts := (s.wort.dgrams.filter (fun e => e.stream = 0)).drop 1
    let gone := pts.filter (fun e => holdsOf frames e.recs)
    let opGone := (s.wort.dopen.map (fun o => holdsOf frames o.1)).getD false
    let lost := gapsOf (d.recs ++ gone.flatMap (·.recs) ++ if opGone then (s.wort.dopen.map (·.1)).getD [] else [])
    let n := (d :: gone).countP (fun e => e.seq.isNone) + opGone.toNat
    let s := s.withWort { s.wort with dseq0 := (s.wort.dseq0 + n) % 2 ^ 32 }
    .next (s.cutEth frames lost 4 (pts.filter (fun e => !holdsOf frames e.recs)) (if opGone then none else s.wort.dopen))

end Sys2Proof.Machine
end

