-- ==== Sys2Proof/Machine/Dsp.lean ====
section
/-!
DEFINITION. The signal-processing cores around their instructions (chapter 17): start, stop and reset, interrupt lines, watchdog, cycle counter, the echo tap,
mailbox and DMA start.
-/
namespace Sys2Proof.Machine

/-- Core DSPc. -/
def State.core (s : State) (c : Nat) : CoreSt := SMap.get (fun _ => ({} : CoreSt)) s.cores c

/-- Replacing core DSPc. -/
def State.setCore (s : State) (c : Nat) (x : CoreSt) : State := s.withCores (SMap.set (fun _ => ({} : CoreSt)) s.cores c x)

/-- A change of core DSPc. -/
def State.modCore (s : State) (c : Nat) (g : CoreSt → CoreSt) : State := s.setCore c (g (s.core c))

/-- The section of core `c` is present (R64): section 9 DSP0, 10 DSP1. -/
def State.coreLoaded (s : State) (c : Nat) : Bool := s.rst.sections.testBit (9 + c)

/-- Master `m` is frozen (BUS_FROZEN). -/
def State.frozen (s : State) (m : Nat) : Bool := (s.rget Reg.BUS_FROZEN).getLsbD m

/-- The core executes: running, and its master 1 + c not frozen. -/
def State.coreRuns (s : State) (c : Nat) : Bool := decide (c < 2) && decide ((s.core c).mode = 1) && !s.frozen (1 + c)

/-- Base address of a core's memories (Table 17.1). -/
def coreBase (c : Nat) : Nat := 0x08000000 + 0x80000 * c

/-! ## CSRs (Table 17.2) -/

/-- What a CSR holds at a start of the core. -/
def csrReset (n : Nat) : Word := if n = 8 || n = 9 then 0xFFFFFFFF else 0

/-- The value a CSR holds. -/
def CoreSt.csrGet (x : CoreSt) (n : Nat) : Word := SMap.get csrReset x.csr n

/-- Setting it. -/
def CoreSt.csrSet (x : CoreSt) (n : Nat) (v : Word) : CoreSt := { x with csr := SMap.set csrReset x.csr n v }

/-- General register `i`. -/
def CoreSt.reg (x : CoreSt) (i : Nat) : Word := SMap.get (fun _ => 0) x.g (i % 32)

/-- Writing it. -/
def CoreSt.setReg (x : CoreSt) (i : Nat) (v : Word) : CoreSt := { x with g := SMap.set (fun _ => 0) x.g (i % 32) v }

/-- Accumulator `i`. -/
def CoreSt.a (x : CoreSt) (i : Nat) : BitVec 72 := SMap.get (fun _ => 0) x.acc (i % 4)

/-- Writing it. -/
def CoreSt.setA (x : CoreSt) (i : Nat) (v : BitVec 72) : CoreSt := { x with acc := SMap.set (fun _ => 0) x.acc (i % 4) v }

/-- STATUS.IE. -/
def CoreSt.ie (x : CoreSt) : Bool := (x.csrGet 0).getLsbD 0

/-- STATUS.FRAC. -/
def CoreSt.frac (x : CoreSt) : Bool := (x.csrGet 0).getLsbD 1

/-- A bit of STATUS set or cleared. -/
def CoreSt.setStatus (x : CoreSt) (i : Nat) (p : Bool) : CoreSt :=
  let v := x.csrGet 0
  x.csrSet 0 (if p then v ||| BitVec.ofNat 32 (2 ^ i) else v &&& ~~~(BitVec.ofNat 32 (2 ^ i)))

/-! ## Interrupt lines (R345, Table 17.6) -/

/-- The level lines of a core. -/
def State.levels (s : State) (c : Nat) : Nat :=
  if c != 1 then 0 else
  let bit (k : Nat) (p : Bool) : Nat := if p then 2 ^ k else 0
  let port (p : Nat) : EthSt := SMap.get (fun _ => ({} : EthSt)) s.eths p
  bit 6 (!(port 0).q0.isEmpty) + bit 7 (!(port 1).q0.isEmpty) + bit 8 (!(port 0).q2.isEmpty) + bit 9 (!(port 1).q2.isEmpty)
    + bit 10 ((List.range 4).any (fun n => !(SMap.get (fun _ => ({} : TinSt)) s.tins n).queue.isEmpty))
    + bit 11 (!s.adc.queue.isEmpty) + bit 16 s.irq

/-- INTPEND as it reads: event lines that are pending, and level lines that stand. -/
def State.intPend (s : State) (c : Nat) : Nat := SMap.get (fun _ => 0) s.lines c ||| s.levels c

/-- The highest-priority line that is pending and enabled. -/
def State.intLine (s : State) (c : Nat) : Option Nat :=
  let m := s.intPend c &&& ((s.core c).csrGet 4).toNat
  (List.range 32).find? (fun i => m.testBit i)

/-! ## Cycle counter (Table 17.2) and program counter -/

/-- The core's cycle count. -/
def CoreSt.cycles (x : CoreSt) : Nat := x.cyc5 / 5

/-- The timer compare value. -/
def CoreSt.tcmp (x : CoreSt) : Nat := (x.csrGet 9).toNat * 2 ^ 32 + (x.csrGet 8).toNat

/-- The cycle counter advances by `n5` fifths of a CCLK cycle; line 2 sets when it reaches the compare value. It stands while the core is in reset, stopped or frozen. -/
def State.coreCycles (s : State) (c n5 : Nat) : State :=
  let x := s.core c
  if x.mode = 0 || x.mode = 5 || s.frozen (1 + c) then s else
  let y := { x with cyc5 := (x.cyc5 + n5) % (5 * 2 ^ 64) }
  let s := s.setCore c y
  if x.cycles < x.tcmp && x.tcmp ≤ x.cycles + (x.cyc5 % 5 + n5) / 5 then s.line c 2 else s

/-- A TCLK edge, 8 fifths of a CCLK cycle twice over: 4 ns are 1.6 cycles. -/
def State.coreTick (s : State) : State := (s.coreCycles 0 8).coreCycles 1 8

/-- Row TIMER_COMPARE_MATCH: core `c`'s cycle count goes on to TCMPHI:TCMPLO, and line 2 sets (R345). -/
def execTimerCompareMatch (c : Nat) (s : State) : Out :=
  let x := s.core c
  .next (if c < 2 && x.cycles < x.tcmp then s.coreCycles c (5 * x.tcmp - x.cyc5) else s)

/-- DSPn_STAT as it reads (Table 17.8). -/
def State.dspStat (s : State) (c : Nat) : Word :=
  let v := Fld.put (Fld.DSP_STAT_LOADED c) (s.rget (Reg.DSP_STAT c)) (s.coreLoaded c).toNat
  Fld.put (Fld.DSP_STAT_STATE c) v (if (s.core c).mode != 0 && s.frozen (1 + c) then 3 else (s.core c).mode)

/-! ## Watchdog (R350) -/

/-- The watchdog of core `c` counts: enabled, outside PARK, its core not held in reset. -/
def State.wdtCounts (s : State) (c : Nat) : Bool := s.b (Fld.DSP_WDT_EN c) && s.dev != .park && (s.core c).mode != 0

/-- The count of TO ticks is restarted. -/
def State.wdtReload (s : State) (c : Nat) : State := s.setF (Fld.DSP_WDTCNT_LEFT c) (max 1 (s.f (Fld.DSP_WDT_TO c)))

/-- Expiry: the source of the core is raised, and the count restarts. -/
def State.wdtExpire (s : State) (c : Nat) : State := (s.wdtReload c).raiseReset (3 + c)

/-- A ms tick of the watchdog. -/
def State.wdtTick (s : State) (c : Nat) : State :=
  if !s.wdtCounts c then s
  else if s.f (Fld.DSP_WDTCNT_LEFT c) ≤ 1 then s.wdtExpire c
  else s.setF (Fld.DSP_WDTCNT_LEFT c) (s.f (Fld.DSP_WDTCNT_LEFT c) - 1)

/-- A write of DSPn_WDTKICK. -/
def State.wdtKick (s : State) (c : Nat) (v : Word) : State :=
  if !s.wdtCounts c then s else if v = 0xA5C3 then s.wdtReload c else s.wdtExpire c

/-- Row WDTKICK: core `c`'s WDTKICK is written. -/
def execWdtkick (c : Nat) (v : Word) (s : State) : Out := .next (if c < 2 then s.wdtKick c v else s)

/-! ## Start, stop and reset (R48, R338, R351) -/

/-- The core starts at offset 0 with its registers at their reset values; `cause` is CORE.START. -/
def State.coreStart (s : State) (c cause : Nat) : State :=
  let s := s.setCore c { mode := 1, csr := SMap.set csrReset [] 0x20 (BitVec.ofNat 32 (c + 256 * cause)), tap := (s.core c).tap }
  let s := s.withLines (SMap.set (fun _ => 0) s.lines c 0)
  let s := s.setF (Fld.DSP_STAT_START c) cause
  if s.b (Fld.DSP_WDT_EN c) then s.wdtReload c else s

/-- Row DSP_CORE_START: the start that the core's state calls for, at the commit (0), the release of its level L2 reset (1) or at PARK exit (2). A core whose
section is absent stays in reset (R64), and one that runs is started by none of them. -/
def execDspCoreStart (c cause : Nat) (s : State) : Out :=
  let due : Bool := if cause = 2 then (s.core c).mode = 5 && s.dev != .park
    else (s.core c).mode = 0 && s.dev != .boot && !s.rst.l2.contains (.dsp c)
  .next (if c < 2 && cause < 3 && s.coreLoaded c && due then s.coreStart c cause else s)

/-- Data SRAM X and Y of a core are cleared. -/
def State.clearData (s : State) (c : Nat) : State :=
  let lo := coreBase c + 0x40000
  { s with mem := s.mem.filter (fun p => p.1 < lo || lo + 0x40000 ≤ p.1) }

/-- A level L2 reset of a core asserts (R48, Table 17.7): core and data SRAM are cleared, status and counters return, the ring pointers return to 0. -/
def State.dspReset (s : State) (c : Nat) : State :=
  let s := (s.setCore c {}).clearData c
  let s := s.withLines (SMap.set (fun _ => 0) s.lines c 0)
  [Reg.DSP_STAT c, Reg.DSP_WDTCNT c, Reg.DSP_ECC c, Reg.DSP_ECCADDR c, Reg.DSP_TAPWR c, Reg.DSP_TAPRD c, Reg.DSP_TAPDROP c].foldl
    (fun s a => s.rset a 0) s

/-- PARK entry stops a core; PARK exit starts it (R351). -/
def State.corePark (s : State) (c : Nat) : State := if (s.core c).mode = 0 then s else s.modCore c (fun x => { x with mode := 5 })

/-! ## Mailbox (R345) -/

/-- A write of DSPn_MBOX7. -/
def State.mbox7 (s : State) (c : Nat) (v : Word) : State := (s.rset (Reg.DSP_MBOX c 7) v).line c 3

/-- Row MBOX7_WRITE. -/
def execMbox7Write (c : Nat) (v : Word) (s : State) : Out := .next (if c < 2 then s.mbox7 c v else s)

/-! ## Memory errors of the cores (R336, R347, R358) -/

/-- A corrected error in core `c`'s memory at `a`. -/
def State.dspCe (s : State) (c a : Nat) : State :=
  ((s.incSat (Fld.DSP_ECC_CE c) 1).raise (Cause.DSP_CE c)).setF (Fld.DSP_ECCADDR_ADDR c) a

/-- An uncorrectable error in core `c`'s memory at `a`, with its log entry (Table 18.6). -/
def State.dspUe (s : State) (c a : Nat) : State :=
  let s := ((s.incSat (Fld.DSP_ECC_UE c) 1).raise (Cause.DSP_UE c)).setF (Fld.DSP_ECCADDR_ADDR c) a
  s.logEvent 0x0031 (BitVec.ofNat 32 (2 + c)) (BitVec.ofNat 32 a)

/-! ## The echo tap (R348) -/

/-- TAPROWS in effect. -/
def State.tapRows (s : State) (c : Nat) : BitVec 64 := s.effGet (Reg.DSP_TAPROWS_HI c) ++ s.effGet (Reg.DSP_TAPROWS_LO c)

/-- The column closed at a bank swap is reserved in core `c`'s ring, or dropped. -/
def State.tapReserve (s : State) (c : Nat) (i : ColInfo) : State :=
  if s.ef (Fld.DSP_TAPCFG_EN c) = 0 || !s.coreLoaded c || (s.core c).mode = 0 then s else
  let rows := s.tapRows c &&& i.rows
  let size := s.ef (Fld.DSP_TAPSIZE_SIZE c) * 8
  let used : Int := ((s.f (Fld.DSP_TAPWR_OFS c) : Int) - s.f (Fld.DSP_TAPRD_OFS c)) % (max 1 size : Nat)
  if (size : Int) - used - 8 < (32 + 576 * popcount rows : Nat) then
    ((s.incSat (Fld.DSP_TAPDROP_COUNT c) 1).raise (Cause.DSP_TAPDROP c)).line c 1
  else
    let kn := Config.tapKeyNew s.fresh.1
    let s := s.fresh.2
    let hdr := (colRec i 0 (s.ef Fld.WORT_CTRL_RK) 0 (kn.testBit 1) (kn.testBit 0)).words
    let t : TapCol := { mcol := i.mcol, rows := rows, hdr := hdr }
    s.modCore c (fun x => { x with tap := x.tap ++ [t] })

/-- One word written into the ring, and TAPWR after it. -/
def State.tapWord (s : State) (c : Nat) (w : Word) : State :=
  let size := max 8 (s.ef (Fld.DSP_TAPSIZE_SIZE c) * 8)
  let ofs := s.f (Fld.DSP_TAPWR_OFS c)
  let a := coreBase c + 0x60000 + (s.ef (Fld.DSP_TAPBASE_BASE c) * 8 + ofs % size) % 0x20000
  (s.msetW a w).setF (Fld.DSP_TAPWR_OFS c) ((ofs + 4) % size)

/-- The words of a tapped column: COLUMN, then the mode-0 ECHO records of its rows in channel order (R202, R210). -/
def State.tapWords (s : State) (t : TapCol) : List Word :=
  t.hdr ++ (List.range 1024).flatMap (fun ch =>
    if t.rows.getLsbD (ch / 16) then
      match s.doneOf t.mcol ch with
      | some (e :: es) => echoWords 0 0 ch ((e :: es).any (·.aliased)) ((e :: es).any (·.thin)) [] (e :: es)
      | _ => []
    else [])

/-- Every histogram of a tapped column's rows has been processed. -/
def State.tapReady (s : State) (t : TapCol) : Bool := (List.range 1024).all (fun ch => !t.rows.getLsbD (ch / 16) || (s.doneOf t.mcol ch).isSome)

/-- The oldest tapped column of core `c` is written, and line 0 sets. -/
def State.tapWrite (s : State) (c : Nat) : State :=
  match (s.core c).tap with
  | [] => s
  | t :: r =>
    let s := (s.tapWords t).foldl (fun s w => s.tapWord c w) s
    (s.modCore c (fun x => { x with tap := r })).line c 0

/-- Row TAP_COLUMN_DONE: the last record of a tapped column is written (R348). -/
def execTapColumnDone (c : Nat) (s : State) : Out :=
  .next (match (s.core c).tap with
    | [] => s
    | t :: _ => if c < 2 && s.tapReady t then s.tapWrite c else s)

/-- Tapped columns of number `m` are completed before the results of that column go. -/
def State.tapFlush (s : State) (m : Nat) : State :=
  [0, 1].foldl (fun s c => match (s.core c).tap with
    | [] => s
    | t :: _ => if t.mcol = m then s.tapWrite c else s) s

/-! ## DMA (R349) -/

/-- A write of DMAn_CTRL with GO: the transfer begins, unless one is in progress. -/
def State.dmaGo (s : State) (n : Nat) : State :=
  if s.b (Fld.DMA_CTRL_BUSY n) then s else
  let j : DmaSt := { src := s.f (Fld.DMA_SRC_ADDR n), dst := s.f (Fld.DMA_DST_ADDR n), n := s.f (Fld.DMA_LEN_LEN n) + 1,
                     srcInc := s.b (Fld.DMA_CTRL_SRCINC n), dstInc := s.b (Fld.DMA_CTRL_DSTINC n) }
  (s.withDma (SMap.set (fun _ => (none : Option DmaSt)) s.dma n (some j))).setB (Fld.DMA_CTRL_BUSY n) true

/-- Row DMA_GO: GO of engine `n` is written. -/
def execDmaGo (n : Nat) (s : State) : Out := .next (if n < 4 then s.dmaGo n else s)

/-- A level L2 reset of a DMA engine (R48): its transfer ends, its configuration stays. -/
def State.dmaReset (s : State) (n : Nat) : State :=
  (s.withDma (SMap.set (fun _ => (none : Option DmaSt)) s.dma n none)).setF ⟨Reg.DMA_CTRL n, 29, 2⟩ 0

end Sys2Proof.Machine
end

