-- ==== Sys2Proof/Machine/Flash.lean ====
section
/-!
DEFINITION. The flash and option commands (R73) and the scrubber (R361).
-/
namespace Sys2Proof.Machine

/-- The states in which FL_CMD and OPT_CMD are accepted (R73). -/
def State.flAccepts (s : State) : Bool := s.dev = .idle || s.dev = .scan || s.dev = .safe

/-- The flash address lies in the 16 MiB of the running slot; without an image none does (R73, Table 4.1). -/
def State.inRunSlot (s : State) (a : Nat) : Bool :=
  match s.f Fld.LDR_STATUS_ACTIVE with
  | 1 => a < 0x1000000
  | 2 => 0x1000000 ≤ a && a < 0x2000000
  | _ => false

/-- The 256 bytes of FL_BUF. -/
def State.flBuf (s : State) : List Byte := (List.range 64).flatMap (fun i => wordBytes (s.rget (Reg.FL_BUF i)))

/-- First address and length of what a command touches: the 64 KiB block or the 256 bytes at ADDR. -/
def flSpan (cmd a : Nat) : Nat × Nat := if cmd = 1 then (a / 65536 * 65536, 65536) else (a / 256 * 256, 256)

/-- A write of FL_CMD (R73, Table 4.7): ignored while BUSY and outside IDLE, SCAN and SAFE; refused in the running slot. -/
def State.flCmd (s : State) (cmd : Nat) : State :=
  if !s.flAccepts || cmd = 0 || s.b Fld.FL_STAT_BUSY then s else
  let a := (flSpan cmd (s.f Fld.FL_ADDR_ADDR)).1
  if s.inRunSlot a then (s.setB Fld.FL_STAT_PROTECT true).raise Cause.LOG_FL_ERR
  else (s.withFlOp (some { cmd := cmd, addr := a, data := if cmd = 2 then s.flBuf else [] })).setB Fld.FL_STAT_BUSY true

/-- Row FL_CMD_ERASE: FL_CMD is written 1. -/
def execFlCmdErase (s : State) : Out := .next (s.flCmd 1)

/-- Row FL_CMD_PROGRAM: FL_CMD is written 2. -/
def execFlCmdProgram (s : State) : Out := .next (s.flCmd 2)

/-- Row FL_CMD_READ: FL_CMD is written 3. -/
def execFlCmdRead (s : State) : Out := .next (s.flCmd 3)

/-- Bytes written into the flash from address `a`. -/
def flashPut : List Host.Cell → Nat → List Byte → List Host.Cell
  | m, _, [] => m
  | m, a, b :: l => flashPut (SMap.set flashDefault m a b) (a + 1) l

/-- The flash after a command that ended well: a block erased, or a page programmed, which can only clear bits (PRESUMED, assumption log 21). -/
def State.flashDo (s : State) (o : FlashOp) : State :=
  match o.cmd with
  | 1 => s.withFlash (s.flash.filter (fun p => p.1 < o.addr || o.addr + 65536 ≤ p.1))
  | 2 => s.withFlash (flashPut s.flash o.addr (o.data.zipIdx.map (fun (p : Byte × Nat) => p.1 &&& s.flashGet (o.addr + p.2))))
  | _ => (List.range 64).foldl (fun s i => s.rset (Reg.FL_BUF i)
      (bytesW ((List.range 4).map (fun j => s.flashGet (o.addr + 4 * i + j))) 0)) s

/-- Row FLASH_CMD_DONE: a flash command ends and BUSY clears (R73). `left` is there where the flash reports an error or does not respond: the bytes
that the range then holds, as far as the command has changed them. -/
def execFlashCmdDone (left : Option (List Byte)) (s : State) : Out :=
  match s.flOp with
  | none => .next s
  | some o =>
    let s := (s.withFlOp none).setB Fld.FL_STAT_BUSY false
    .next (match left with
      | none => s.flashDo o
      | some l =>
        let s := if o.cmd = 3 then s else s.withFlash (flashPut s.flash o.addr (l.take (flSpan o.cmd 0).2))
        (s.setB Fld.FL_STAT_ERR true).raise Cause.LOG_FL_ERR)

/-! ## Option page (R52, R73) -/

/-- The option bytes of a page are in order: OPT_FMT and OPT_CRC (Table 3.9). -/
def optBytesOk (page : List Word) : Bool :=
  (page.headD 0).extractLsb' 0 16 = 1 && page.getD 15 0 = crc32 ((page.take 15).flatMap wordBytes)

/-- The fuse table of a page matches its CRC-32 (R47). -/
def fuseOk (page : List Word) : Bool := page.getD 17 0 = crc32 (wordBytes (page.getD 16 0))

/-- A write of OPT_CMD (R73): the staged page is programmed, or refused. -/
def State.optCmd (s : State) (key : Word) : State :=
  if !s.flAccepts || key != 0x4F505457 then s else
  let page := (List.range 18).map (fun i => s.rget (Reg.OPT_STAGE i))
  if optBytesOk page && fuseOk page && s.b Fld.THERM_STAT_NVM_OK then s.nvmPush (.option page)
  else (s.setB Fld.OPT_STAT_REFUSED true).raise Cause.LOG_OPT_REF

/-- Row OPT_CMD: OPT_CMD is written `key`. -/
def execOptCmd (key : Word) (s : State) : Out := .next (s.optCmd key)

/-- Row EMIT_LOSTCLR: EMIT_LOSTCLR is written `key` (R96). -/
def execEmitLostclr (key : Word) (s : State) : Out := .next (s.lostClear key)

/-! ## The scrubber (R361, Table 18.4) -/

/-- Row SCRUB_STEP: the scrubber reads the word at `a` of memory `mem` (numbered as in Table 18.6: 1 Wort, 2 DSP0, 3 DSP1, 4 plan) and finds no error (0), one it
corrects (1) or one it cannot (2). Memory 0, the Tun, and 5, the field map, are none of the scrubber's. -/
def execScrubStep (mem a err : Nat) (s : State) : Out :=
  if !(s.dev = .idle || s.dev = .scan || s.dev = .safe || s.dev = .service) || err = 0 || 2 < err then .next s else
  .next (match mem with
    | 1 => if err = 1 then s.wortCe else s.wortUe
    | 2 => if err = 1 then s.dspCe 0 a else s.dspUe 0 a
    | 3 => if err = 1 then s.dspCe 1 a else s.dspUe 1 a
    | 4 => if err = 1 then s else s.planUe ((a - 0x01000000) / 8)
    | _ => s)

end Sys2Proof.Machine
end

