-- ==== Sys2Proof/Machine/Guard.lean ====
section
/-!
DEFINITION. The Guard (chapter 15): column verdicts and sweeps, enable discrepancy, the outputs and their checks, the Guard CRC, and Guard changes.
-/
namespace Sys2Proof.Machine

/-! ## Field-bearing columns and the Guard CRC (R305 ff., R320) -/

/-- Base of the field map. -/
def fmapBase : Nat := 0x02000000

/-- The listed, non-zero bytes of the field map, ascending. -/
def State.fmapCells (s : State) : List Host.Cell := s.mem.filter (fun p => fmapBase ≤ p.1 && p.1 < fmapBase + 0x400000)

/-- The record of field-bearing columns: those with a non-zero entry. -/
def State.bearingNow (s : State) : List Nat := (s.fmapCells.map (fun p => (p.1 - fmapBase) / 2048)).eraseDups

/-- The record is rebuilt (image commit, Guard commit). -/
def State.rebuildBearing (s : State) : State := s.withGuard { s.guard with bearing := s.bearingNow }

/-- The CRC-32 register after `n` zero bytes. -/
def crcZeros : Nat → Word → Word
  | 0, c => c
  | n + 1, c => crcZeros n (crc32Byte c 0)

/-- The CRC-32 register after the bytes from `at` up to those of `cells`, and on to `stop`. -/
def crcSparse (stop : Nat) : List Host.Cell → Nat → Word → Word
  | [], pos, c => crcZeros (stop - pos) c
  | x :: r, pos, c => crcSparse stop r (x.1 + 1) (crc32Byte (crcZeros (x.1 - pos) c) x.2)

/-- The Guard CRC (R320): the field map, then the 44 bytes of GUARD + 0x0000 to 0x002B. -/
def State.guardCrc (s : State) : Word :=
  let c := crcSparse (fmapBase + 0x400000) s.fmapCells fmapBase 0xFFFFFFFF
  (((List.range 11).flatMap (fun i => wordBytes (s.rget (Reg.GUARD_CFG + 4 * i)))).foldl crc32Byte c) ^^^ 0xFFFFFFFF

/-! ## Column verdicts (R306, R307) -/

/-- The Guard's judgement at the trigger that closes a column of number `m` at `az`, of sweep `n`; `inh` says that INHIBIT was set at the column's own trigger. The detection
settings are compared with the reference words (R307). -/
def State.guardColumn (s : State) (m az n : Nat) (inh : Bool) : State :=
  if !s.guardScans then s else
  let mm := s.detMask (fun i => s.rget (Reg.GUARD_REF i)) != 0
  let s := (s.setB Fld.GUARD_STAT_DETPAR mm).raiseIf mm Cause.GUARD_DETPAR
  let cols := SMap.erase s.guard.cols m
  let c : GCol := { f := az / 32, sweep := n, mismatch := mm, intruded := inh }
  s.withGuard { s.guard with cols := if s.bearing (az / 32) then SMap.set (fun _ => ({} : GCol)) cols m c else cols }

/-- A column triggers at `az` (R306): while INHIBIT is set, a field-bearing one is intruded. -/
def State.guardTrigger (s : State) (az : Nat) : State :=
  if s.guardScans && s.b Fld.SCAN_STAT_INHIBIT && s.bearing (az / 32) then s.intrude (s.f Fld.SCAN_STAT_SWEEPS) (az / 32) else s

/-- A channel's outcome reaches the Guard (R306): `field` says that the channel has a field, `shots` is its histogram's SHOTS. -/
def State.guardOutcome (s : State) (m : Nat) (field prot unev warn : Bool) (shots : Nat) : State :=
  match s.guard.cols.find? (fun p => p.1 == m) with
  | none => s
  | some (_, c) =>
    if !s.guardScans then s else
    let bad := prot || unev || (field && (c.mismatch || decide (shots < s.f Fld.GUARD_DET_MINSHOTS)))
    let n := c.count + bad.toNat
    let hit := bad && !c.intruded && decide (max 1 (s.f Fld.GUARD_CFG_M) ≤ n)
    let c := { c with count := n, intruded := c.intruded || hit, warn := c.warn || warn }
    let s := s.withGuard { s.guard with cols := SMap.set (fun _ => ({} : GCol)) s.guard.cols m c }
    if hit then s.intrude c.sweep c.f else s

/-- Every outcome of column `m` is known: its group holds an evaluated field-bearing column of its sweep (R308). -/
def State.guardColDone (s : State) (m : Nat) : State :=
  match s.guard.cols.find? (fun p => p.1 == m) with
  | none => s
  | some (_, c) =>
    let s := s.withGuard { s.guard with cols := SMap.erase s.guard.cols m }
    let x := s.gsweep c.sweep
    let g := s.guardGroup c.f
    s.setGsweep c.sweep { x with eval := if x.eval.contains g then x.eval else x.eval ++ [g], warn := x.warn || c.warn }

/-- Sweep `n` began after the outputs were last switched off, counted modulo 2²⁴ (Table 15.3, condition 3). -/
def State.guardLater (s : State) (n : Nat) : Bool :=
  let d := (n + 2 ^ 24 - s.guard.offSweep % 2 ^ 24) % 2 ^ 24
  decide (0 < d) && decide (d < 2 ^ 23)

/-- The close of the last histogram of sweep `n` (R308, Table 15.3): a complete sweep clears counters, gives WARN, and counts as clear or not. A
sweep before it that held no column, and was not clear, ends with it. -/
def State.guardSweepEnd (s : State) (n : Nat) (whole : Bool) : State :=
  if !s.guardScans then s else
  let x := s.gsweep n
  let earlier := s.guard.sweeps.filter (fun p => p.1 != n && decide ((n + 2 ^ 24 - p.1) % 2 ^ 24 < 2 ^ 23))
  let s := s.withGuard { s.guard with sweeps := s.guard.sweeps.filter (fun p => !(p.1 == n) && !earlier.any (fun q => q.1 == p.1)) }
  let s := if earlier.any (fun p => p.2.bad) && !s.b Fld.GUARD_STAT_ON then s.setF Fld.GUARD_STAT_CLEAR 0 else s
  if !whole then s else
  let gs := x.eval.filter (fun g => !x.intr.contains g)
  let s := s.withGuard { s.guard with cg := s.guard.cg.filter (fun p => !gs.contains p.1) }
  let s := s.setB Fld.GUARD_STAT_WARN x.warn
  if x.bad then
    if s.b Fld.GUARD_STAT_ON then s
    else (s.withGuard { s.guard with inact := false }).setF Fld.GUARD_STAT_CLEAR 0 |>.setB Fld.GUARD_STAT_RST_WAIT false
  else if !s.guardLater n then s
  else if s.f Fld.GUARD_STAT_CLEAR = 1 then
    let s := s.setF Fld.GUARD_STAT_CLEAR 2
    let s := s.withGuard { s.guard with inact := false }
    if s.b Fld.GUARD_CFG_RESTART then s.setB Fld.GUARD_STAT_RST_WAIT true else s
  else s.incSat Fld.GUARD_STAT_CLEAR (if s.f Fld.GUARD_STAT_CLEAR = 0 then 1 else 0)

/-- A sweep begins while INHIBIT is set: it is not clear (Table 15.3). -/
def State.guardSweepBegin (s : State) : State :=
  if s.guardScans && s.b Fld.SCAN_STAT_INHIBIT then
    let n := s.f Fld.SCAN_STAT_SWEEPS
    s.setGsweep n { s.gsweep n with bad := true }
  else s

/-- The entry to SCAN (R308, Table 15.3): counters 0, clear sweeps counted anew; INHIBIT that stands confirms an intrusion. -/
def State.guardScanEntry (s : State) : State :=
  let g := { s.guard with cg := [], sweeps := [], cols := [], inact := false, offSweep := s.f Fld.SCAN_STAT_SWEEPS }
  let s := s.withGuard g
  let s := ((s.setF Fld.GUARD_STAT_CLEAR 0).setB Fld.GUARD_STAT_RST_WAIT false).setB Fld.GUARD_STAT_DETPAR false
  if s.b Fld.SCAN_STAT_INHIBIT then s.guardInhibit else s

/-! ## Enable inputs (R310, R311) -/

/-- Row EN_EDGE: after the input filter, channel `ch` (0 EN_A, 1 EN_B) has the level `level`; a channel that leaves its active level switches the outputs off. -/
def execEnEdge (ch : Nat) (level : Bool) (s : State) : Out :=
  let s := s.withGuard (if ch = 0 then { s.guard with enA := level } else if ch = 1 then { s.guard with enB := level } else s.guard)
  .next s.guardFollow

/-- T of R311 in ticks. -/
def State.discT (s : State) : Nat := min 2000 (max 5 (s.f Fld.GUARD_DISC_DISC))

/-- DISC_FAULT latches (R311). -/
def State.discLatch (s : State) : State :=
  let s := s.withGuard { s.guard with disc := none }
  let s := ((s.setB Fld.GUARD_FAULT_DISC_FAULT true).incSat Fld.GUARD_CNT_DISCS 1).raise Cause.GUARD_DISC
  (s.logEvent 0x0050 (s.rget Reg.GUARD_FAULT) s.guardStat).guardFollow

/-- The judgement of a ms tick (R311). -/
def State.discTick (s : State) : State :=
  if !s.guardActive || s.dev = .boot then s
  else if s.b Fld.GUARD_FAULT_DISC_FAULT then
    if s.enNeither then s.setB Fld.GUARD_FAULT_DISC_FAULT false else s
  else
    match s.guard.disc with
    | none => if s.enDiffer then s.withGuard { s.guard with disc := some 0 } else s
    | some n =>
      if s.discT ≤ n + 1 then s.discLatch
      else s.withGuard { s.guard with disc := if s.enDiffer then some (n + 1) else none }

/-- The manual restart of a ms tick (Table 15.3, condition 4): the enable inactive at one tick and active at a later one. -/
def State.restartTick (s : State) : State :=
  if !s.b Fld.GUARD_STAT_RST_WAIT then s
  else if !s.enable then s.withGuard { s.guard with inact := true }
  else if s.guard.inact then s.setB Fld.GUARD_STAT_RST_WAIT false
  else s

/-! ## The outputs (R312-R316) -/

/-- Row GUARD_OUTPUTS_ON: the outputs switch on if every condition of Table 15.3 holds (R312); with CHECK = 1 and EDM low they stay off with code 7 (R315). -/
def execGuardOutputsOn (s : State) : Out :=
  if s.b Fld.GUARD_STAT_ON || s.offWhy % 64 != 0 then .next s
  else if s.b Fld.GUARD_CFG_CHECK && !s.b Fld.GUARD_STAT_EDM then .next (s.soutFault 7)
  else
    let g := { s.guard with pulse := none, nextPulse := 0, outA := {}, outB := {}, pulseMs := s.ms,
                            edmWait := if s.b Fld.GUARD_CFG_CHECK then some false else none, edmMs := s.ms }
    .next ((s.withGuard g).setB Fld.GUARD_STAT_ON true)

/-- OPI in ms, OPW in ns and EDM_T in ms, as they act (R313, R315). -/
def State.opi (s : State) : Nat := min 500 (max 20 (s.f Fld.GUARD_PULSE_OPI))

@[inherit_doc State.opi] def State.opw (s : State) : Nat := 1000 * min 300 (max 100 (s.f Fld.GUARD_PULSE_OPW))

@[inherit_doc State.opi] def State.edmT (s : State) : Nat := min 500 (max 50 (s.f Fld.GUARD_EDM_EDM_T))

/-- An off-pulse is due: OPI ms after switch-on or after the last one (R313). -/
def State.pulseDue (s : State) : Bool :=
  s.b Fld.GUARD_STAT_ON && !s.b Fld.GUARD_CFG_CHECK && s.guard.pulse.isNone && decide (s.guard.pulseMs + s.opi ≤ s.ms)

/-- Row OFF_PULSE_START: the next output's off-pulse begins where it is due (R313). -/
def execOffPulseStart (s : State) : Out :=
  if s.pulseDue then
    .next (s.withGuard { s.guard with
        pulse := some s.guard.nextPulse, nextPulse := 1 - s.guard.nextPulse, pulseMs := s.guard.pulseMs + s.opi, pulseEnd := s.now + s.opw })
  else .next s

/-- The readback bits follow the samples. -/
def State.setRb (s : State) (rbA rbB : Bool) : State := (s.setB Fld.GUARD_STAT_RB_A rbA).setB Fld.GUARD_STAT_RB_B rbB

/-- Row OFF_PULSE_END: at the end of OPW, the pulse's readback check, and the output on again (R313). -/
def execOffPulseEnd (rbA rbB : Bool) (s : State) : Out :=
  match s.guard.pulse with
  | none => .next s
  | some p =>
    if s.now < s.guard.pulseEnd then .next s else
    let s := s.setRb rbA rbB
    let (own, other) := if p = 0 then (rbA, rbB) else (rbB, rbA)
    if own then .next (s.soutFault (1 + p))
    else if !other then .next (s.soutFault 3)
    else .next (s.withGuard (if p = 0 then { s.guard with pulse := none, outA := {} } else { s.guard with pulse := none, outB := {} }))

/-- One output's static sample (R314): the new record, and the codes it gives. `active` says that the off-state check runs. -/
def outSample (x : OutSt) (on pulsed active rb lim : Bool) : OutSt × List Nat :=
  if on && pulsed then ({}, [])
  else
    let y : OutSt := { n := min 200 (x.n + 1), lim := if on && lim then min 200 (x.lim + 1) else 0, last := some rb }
    let twice (v : Bool) : Bool := decide (x.last = some v) && decide (rb = v)
    let c3 := if on && twice false && decide (6 ≤ y.n) then [3] else []
    let c4 := if on && decide (102 ≤ y.lim) then [4] else []
    let c5 := if !on && active && twice true && decide (31 ≤ y.n) then [5] else []
    (y, c3 ++ c4 ++ c5)

/-- Row READBACK_SAMPLE: a 10 µs sample of both readbacks, and of both outputs' current limit (R314). -/
def execReadbackSample (rbA rbB limA limB : Bool) (s : State) : Out :=
  let s := s.setRb rbA rbB
  let on := s.b Fld.GUARD_STAT_ON
  let act := s.dev != .boot && s.dev != .park
  let (a, ca) := outSample s.guard.outA on (decide (s.guard.pulse = some 0)) act rbA limA
  let (b, cb) := outSample s.guard.outB on (decide (s.guard.pulse = some 1)) act rbB limB
  let s := s.withGuard { s.guard with outA := a, outB := b }
  match (ca ++ cb).min? with
  | none => .next s
  | some c => .next (s.soutFault c)

/-- Row EDM_TIMEOUT: EDM_T has passed since the outputs switched; code 6 if EDM has not followed (R315). -/
def execEdmTimeout (s : State) : Out :=
  if s.b Fld.GUARD_CFG_CHECK && s.guard.edmWait.isSome && decide (s.guard.edmMs + s.edmT ≤ s.ms) then
    .next ((s.withGuard { s.guard with edmWait := none }).soutFault 6)
  else .next s

/-- Row EDM_LEVEL_CHANGE: EDM has the level `level`. A rise while the outputs are on, once it has followed, gives code 6 (R315). -/
def execEdmLevelChange (level : Bool) (s : State) : Out :=
  let rise := level && !s.b Fld.GUARD_STAT_EDM
  let s := s.setB Fld.GUARD_STAT_EDM level
  if s.guard.edmWait = some level then .next (s.withGuard { s.guard with edmWait := none })
  else if s.b Fld.GUARD_CFG_CHECK && rise && s.b Fld.GUARD_STAT_ON && s.guard.edmWait.isNone then .next (s.soutFault 6)
  else .next s

/-- Row SOUT_STAGE_TRIP: the output stage passes 160 °C (R253): both outputs off, SOUT_TRIP latches, and the trip is logged. -/
def execSoutStageTrip (s : State) : Out :=
  if s.b Fld.PWR_FAULT_SOUT_TRIP then .next s.soutOff
  else .next ((((s.raise Cause.SOUT_TRIP)).logEvent 0x0022 1 (s.rget Reg.THERM_STAT)).soutOff)

/-- CRC_ERR latches (R320). -/
def State.crcErr (s : State) : State :=
  if s.b Fld.GUARD_FAULT_CRC_ERR then s.soutOff else
  let s := (s.setB Fld.GUARD_FAULT_CRC_ERR true).raise Cause.GUARD_FAULT
  (s.logEvent 0x0050 (s.rget Reg.GUARD_FAULT) s.guardStat).soutOff

/-- Row GUARD_CRC_PASS: a background pass ends; `ue` is the address of a field-map word it read with an uncorrectable error (R320, R362). -/
def execGuardCrcPass (ue : Option Nat) (s : State) : Out :=
  if !s.guardActive || s.dev = .boot || s.dev = .park || s.b Fld.GUARD_STAT_CHANGE_OPEN then .next s else
  match ue with
  | some a => .next ((((s.raise Cause.FMAP_UE)).logEvent 0x0031 5 (BitVec.ofNat 32 a)).crcErr)
  | none =>
    let c := s.guardCrc
    let s := s.rset Reg.GUARD_CRC c
    .next (if c = s.rget Reg.GUARD_CRCREF then s else s.crcErr)

/-! ## Guard changes (R319, R321) -/

/-- BEGIN. -/
def State.changeBegin (s : State) : State :=
  (s.withGuard { s.guard with before := s.rget Reg.GUARD_CRC, wrotePw := false, wroteOther := false }).setB Fld.GUARD_STAT_CHANGE_OPEN true

/-- A word that a DATA record may write: configuration words, GUARD_PWu, or the field map. -/
def guardWord (a : Nat) : Bool :=
  a % 4 = 0 && ((Reg.GUARD_CFG ≤ a && a < Reg.GUARD_CFG + 0x2C) || (List.range 8).any (fun u => Reg.GUARD_PW u 0 ≤ a && a ≤ Reg.GUARD_PW u 11)
    || (fmapBase ≤ a && a < fmapBase + 0x400000))

/-- The bits of a configuration word that a write changes: its RW fields. -/
def guardMask (a : Nat) : Word := ((findReg a).map (·.rw)).getD 0

/-- A DATA record writes the word `v` at `a`; the first write sets DIRTY. -/
def State.changeWord (s : State) (a : Nat) (v : Word) : State :=
  let s := s.setB Fld.GUARD_STAT_DIRTY true
  if fmapBase ≤ a then (s.withGuard { s.guard with wroteOther := true }).msetW a v
  else if Reg.GUARD_PW 0 0 ≤ a then (s.withGuard { s.guard with wrotePw := true }).rset a v
  else (s.withGuard { s.guard with wroteOther := true }).rset a ((v &&& guardMask a) ||| (s.rget a &&& ~~~(guardMask a)))

/-- Words 1-6 of a change-log entry (Table 15.5). -/
def State.changeWords (s : State) (before after : Word) (uid kind : Nat) : List Word :=
  s.logTime ++ [before, after, BitVec.ofNat 32 (uid * 2 ^ 24 + kind * 2 ^ 16 + s.f Fld.RST_COUNT_COUNT % 65536)]

/-- COMMIT by user `uid`, up to its log entry. -/
def State.changeCommit (s : State) (uid : Nat) : State :=
  let s := (s.rset Reg.GUARD_CRC s.guardCrc).rebuildBearing
  s.nvmPush (.change (s.changeWords s.guard.before (s.rget Reg.GUARD_CRC) uid (if s.guard.wrotePw && !s.guard.wroteOther then 2 else 1)))

/-- COMMIT once its log entry is written: CRCREF, DIRTY and CHANGE_OPEN. -/
def State.changeCommitted (s : State) : State :=
  ((s.rset Reg.GUARD_CRCREF (s.rget Reg.GUARD_CRC)).setB Fld.GUARD_STAT_DIRTY false).setB Fld.GUARD_STAT_CHANGE_OPEN false

/-- ABORT by user `uid`, explicit or implied, and whether it has an entry to write. -/
def State.changeAbort (s : State) (uid : Nat) : State × Bool :=
  if !s.b Fld.GUARD_STAT_CHANGE_OPEN then (s, false) else
  let wrote := s.guard.wrotePw || s.guard.wroteOther
  let s := s.setB Fld.GUARD_STAT_CHANGE_OPEN false
  if wrote then
    let s := s.rset Reg.GUARD_CRC s.guardCrc
    (s.nvmPush (.change (s.changeWords s.guard.before (s.rget Reg.GUARD_CRC) uid 3)), true)
  else (s, false)

end Sys2Proof.Machine
end

