-- ==== Sys2Proof/Machine/Column.lean ====
section
/-!
DEFINITION. One column from grant to close, across the blocks (R10, Table 1.2): samples, sweeps, the trigger, the bank swap, the closing of histograms, and
the end of a column.
-/
namespace Sys2Proof.Machine

/-! ## Settings that take effect at a column boundary (R8) -/

/-- Registers whose writes take effect at the next column boundary: EMIT_STRCFG, EMIT_ECLASS, EMIT_PATTAB, RX_COINC, RX_AMB, RX_ATH, RX_SPADEN, MASH_ZOOM, MASH_GATE,
the LAUTER settings, WORT_CTRL, WORT_ETH, WORT_BUF, and the tap settings of both cores. -/
def boundaryReg (a : Nat) : Bool :=
  let inR (lo hi : Nat) : Bool := decide (lo ≤ a) && decide (a ≤ hi)
  inR (Reg.EMIT_STRCFG 0) (Reg.EMIT_STRCFG 7) || inR (Reg.EMIT_ECLASS 0) (Reg.EMIT_ECLASS 7) || inR (Reg.EMIT_PATTAB 0) (Reg.EMIT_PATTAB 15)
    || inR Reg.RX_COINC Reg.RX_AMB || inR (Reg.RX_ATH 0) (Reg.RX_ATH 6) || inR (Reg.RX_SPADEN 0) (Reg.RX_SPADEN 511)
    || a = Reg.MASH_ZOOM || inR (Reg.MASH_GATE 0) (Reg.MASH_GATE 63) || inR 0x80000 0x8FFFF || inR Reg.WORT_CTRL Reg.WORT_BUF1
    || inR (Reg.DSP_TAPCFG 0) (Reg.DSP_TAPSIZE 0) || inR (Reg.DSP_TAPCFG 1) (Reg.DSP_TAPSIZE 1)

/-- A column boundary: the settings come into effect. -/
def State.latchColumn (s : State) : State := s.withEff (s.regs.filter (fun p => boundaryReg p.1))

/-! ## Closing a column (R119, R166, R201, R212) -/

/-- KILN_REDUCED (R15). -/
def Grant.reduced (g : Grant) : Bool := decide (g.fired < g.planned) || g.entries.any (fun e => e.bind != 0)

/-- BIND (Table 6.5): that of the first reduced entry in service order; 1 where a limiter refusal is the only reduction (R119). -/
def Grant.bindCode (g : Grant) : Nat :=
  match g.entries.find? (fun e => e.bind != 0) with
  | some e => e.bind
  | none => if g.entries.any (fun e => e.refused) then 1 else if g.reduced then 6 else 0

/-- STATE of the column header (Table 6.5). -/
def Grant.state (g : Grant) (trunc : Bool) : Nat :=
  g.bindCode + 8 * g.reduced.toNat + 16 * (g.policy % 4) + 64 * g.limited.toNat + 128 * trunc.toNat

/-- KILN_LAST, KILN_LASTST and KILN_LASTROWS (R119). -/
def State.kilnLast (s : State) (g : Grant) (st : Nat) : State :=
  let s := ((s.setF Fld.KILN_LAST_GRANTED g.fired).setF Fld.KILN_LAST_PLANNED g.planned).setF Fld.KILN_LASTST_STATE st
  (s.rset Reg.KILN_LASTROWS_LO (g.rows.extractLsb' 0 32)).rset Reg.KILN_LASTROWS_HI (g.rows.extractLsb' 32 32)

/-- The running column ends at `t` with the next trigger, or when the device leaves SCAN: shots not yet fired are dropped, Kiln's record is fixed, Guard and Cask compare
the detection settings (R307, R329), and the column waits for its swap. `ends` says that it was the last column of its sweep. -/
def State.closeColumn (s : State) (t : Nat) (ends : Bool) (fue : List Nat) : State :=
  match s.scan.cur with
  | none => s
  | some g0 =>
    let s := s.dropPlanned 6
    let g := s.scan.cur.getD g0
    let st := g.state (s.columnTrunc t)
    let s := (s.kilnLast g st).closeAmb
    let m := s.f Fld.MASH_STAT_COLS % 256
    let s := s.guardColumn m g.az s.scan.curSweep s.scan.curInh
    let s := if s.dev = .scan then s.caskBoundary else s
    let c : Closing := { g := g, kstate := st, frame := s.wort.curFrame, mcol := m, sweep := s.scan.curSweep, first := s.scan.curFirst, ends := ends,
                         whole := s.scan.curWhole, fue := fue }
    s.withScan { s.scan with cur := none, closing := some c }

/-- The results of the oldest column in work are given up when a third one comes. -/
def State.dropOldest (s : State) : State :=
  match s.lau.cols.drop 1 with
  | [] => s
  | c :: _ => (s.tapFlush c.mcol).wortForget c.mcol

/-- The swap that closes the waiting column: both cores see it, tap and streams take the column, and the Lauter latches what it needs (R185, R201, R212,
R345, R348). -/
def State.finishClose (s : State) : State :=
  match s.scan.closing with
  | none => s
  | some c =>
    let s := s.withScan { s.scan with closing := none }
    let s := s.dropOldest
    let i : ColInfo := { frame := c.frame, az := c.g.az, ts := s.ns, tv := s.b Fld.TIME_CTRL_VALID, sos := c.first, kstate := c.kstate, granted := c.g.fired,
                         planned := c.g.planned, rows := c.g.rows, lost := c.g.lost, mcol := c.mcol }
    let s := (s.tapReserve 0 i).tapReserve 1 i
    let s := (s.admitCol 0 i).admitCol 1 i
    let s := (s.line 0 4).line 1 4
    s.lauLatch { mcol := c.mcol, az := c.g.az, entries := c.g.entries, rows := c.g.rows, first := c.first, ends := c.ends, whole := c.whole, sweep := c.sweep } c.fue

/-- The bank swap at a column boundary at `t`, with the new column's grant; behind a running sparge it waits (R166, Table 8.4). -/
def State.columnSwap (s : State) (t : Nat) (g : Grant) : State :=
  let s := s.mashTrigger t g
  if s.mash.swapPend then s else s.finishClose

/-! ## Opening a column (R76, R105, R107) -/

/-- The column of grant `g` begins with the trigger at `t`. Shots dropped before it (Table 1.6) are not fired. -/
def State.openColumn (s : State) (t : Nat) (g : Grant) : State :=
  let s := (s.withScan { s.scan with
      cur := some g, next := none, lastPeriod := t - s.scan.tTrig, tTrig := t, tLast := t + g.tPred - 4196, held := 0, armed := false,
      trigN := s.scan.trigN + 1, curFirst := s.scan.sos, sos := false, curWhole := s.scan.sweepWhole, curSweep := s.f Fld.SCAN_STAT_SWEEPS,
      curInh := s.b Fld.SCAN_STAT_INHIBIT }).withWort { s.wort with curFrame := s.wort.frame, frame := s.wort.frame + 1 }
  let drop := g.dropped || s.b Fld.SCAN_STAT_INHIBIT
  let s := if drop then (g.entries.filter (fun e => 0 < e.n)).foldl (fun s e => s.reduceEntry e.idx 6) s else s
  (List.range 8).foldl (fun s n => s.beginString n (if drop then [] else g.shotsOf n)) s

/-- Kiln fixes a grant, and the eye-safety set-points are formed at it (R14, R224). -/
def State.grantAt (s : State) (az : Nat) (rest : List (Nat × Bool)) (t now : Nat) (bad : List Nat) : State :=
  let s := s.grantFor az rest t now bad
  match s.scan.next with
  | some g => s.eyeTargets g (rest.head?.map (·.1))
  | none => s

/-- A trigger at `t` for the target at `az` (R105, R106): the running column closes, the settings come into effect, and the granted column begins. -/
def State.fireTrigger (s : State) (t az : Nat) (rest : List (Nat × Bool)) (bad fue : List Nat) (late : Bool) : State :=
  let s := if s.scan.next.any (fun g => g.az = az) then s else s.grantAt az rest t t bad
  match s.scan.next with
  | none => s
  | some g =>
    let s := if late then (s.raise Cause.SCAN_LATE).incSat Fld.SCAN_CNT_LATES 1 else s
    let s := (s.closeColumn t s.scan.sos fue).latchColumn
    let s := s.withScan { s.scan with todo := rest }
    ((s.openColumn t g).guardTrigger az).columnSwap t g

/-- A target is passed without a trigger (R106, R208, R306). -/
def State.skipTarget (s : State) (x : Nat × Bool) : State :=
  let s := (s.skipCount.wortSkip).guardSkip x.1
  s.withScan { s.scan with todo := s.scan.todo.drop 1, next := none }

/-- All but the last of the passed targets `xs` are skipped, and the last one triggers late (R106). -/
def State.latePass (s : State) (t : Nat) (xs : List (Nat × Bool)) (bad fue : List Nat) : State :=
  match xs.getLast? with
  | none => s
  | some x =>
    let s := xs.dropLast.foldl State.skipTarget s
    s.fireTrigger t x.1 (s.scan.todo.drop 1) bad fue true

/-- A grant that is due, with the eye-safety set-points formed at it (R14, R105, R224). -/
def State.grantNow (s : State) (now : Nat) (bad : List Nat) : State :=
  let s' := s.grantDue now bad
  match s.scan.next, s'.scan.next with
  | none, some g => s'.eyeTargets g ((s'.scan.todo.drop 1).head?.map (·.1))
  | _, _ => s'

/-- The column boundary is not to begin a column: the device is about to leave SCAN there (R296). -/
def State.triggers (s : State) : Bool := s.dev = .scan && !s.scan.clearing && s.scan.leave = 0

/-! ## Rows of the trigger engine -/

/-- Row MSNS_SAMPLE: the sample that the last engine tick asked for arrives, at `t`, with a conversion in each of its slots, and carries the time of the first (R101-R109, R235);
the mirror loop runs (R223), and a late trigger or a grant may follow on its arrival (R105, R106), which is not before its first conversion. While no reference is ready there is no sample (R233). `bad` are plan entries, `fue` channels whose
field-map entry, that read with an uncorrectable error. -/
def execMsnsSample (convs : List Conv) (t : Nat) (bad fue : List Nat) (s : State) : Out :=
  let slots := s.adcSlotsOf 1
  if slots.isEmpty || convs.length < slots.length then .next s
  else if !s.b Fld.ADC0_STAT_REFRDY then .next (s.adcEnd 1) else
  let t0 := 4 * slots.headD 0
  let t := max t t0
  let s := ((s.adcEnd 1).msnsBase (sampleValue (s.adcCodes 9 slots convs)) t0).mirrorLoop
  if s.triggers && s.scanMode != 1 then
    if s.scan.armed && !s.passed.isEmpty then .next (s.latePass t s.passed bad fue) else .next (s.grantNow t bad)
  else .next s

/-- Row SWEEP_START: an active stroke or a profile cycle begins at `t` (R103). Targets that a profile cycle leaves behind are skipped. -/
def execSweepStart (t : Nat) (s : State) : Out :=
  let s := if s.dev = .scan && s.scanMode = 2 then s.scan.todo.foldl State.skipTarget s else s
  let s := if s.scanMode = 2 then
      (if s.scan.lockFrom = 0 then s.withScan { s.scan with lockN := 0 } else s.lockInterval)
    else s
  let s := s.sweepStart t
  let s := if s.scanMode = 2 then s.withScan { s.scan with lockFrom := 1 } else s
  .next s.guardSweepBegin

/-- Row STROKE_END: the active stroke ends at `t` (R106): its remaining targets are skipped, the flyback begins with its injection and probes (R95, R141). -/
def execStrokeEnd (t : Nat) (s : State) : Out :=
  if !s.scan.active then .next s else
  let s := if s.dev = .scan then s.scan.todo.foldl State.skipTarget s else s
  let s := (s.strokeEnd t).flybackInject t
  .next (if s.dev = .scan then (List.range 8).foldl (fun s n =>
    if (s.str n).probeDue && (s.str n).next.isNone then s.scheduleD n else s) s else s)

/-- Row KILN_GRANT: the predicted crossing is 1000 ns or less away at `now` (R14, R105). -/
def execKilnGrant (now : Nat) (bad : List Nat) (s : State) : Out := .next (s.grantNow now bad)

/-- Row TRIGGER: the prediction reaches the armed target at `t` (R105). -/
def execTrigger (t : Nat) (bad fue : List Nat) (s : State) : Out :=
  if s.triggers && s.scanMode != 1 && s.scan.armed then
    match s.scan.todo with
    | [] => .next s
    | x :: rest => .next (if s.reached x.1 x.2 t then s.fireTrigger t x.1 rest bad fue false else s)
  else .next s

/-- Row STARE_TRIGGER: the STARE timer expires at `t` and forms a column at AZ (R103, Table 6.1). A sweep begins with the first trigger and every 2¹⁶ of them. -/
def execStareTrigger (t : Nat) (bad fue : List Nat) (s : State) : Out :=
  if s.triggers && s.scanMode = 1 && (s.scan.cur.isNone || decide (s.scan.tTrig + max 2500 (s.f Fld.SCAN_STARE_TCOL) * 4 ≤ t)) then
    let az := s.f Fld.SCAN_STARE_AZ
    let s := if s.scan.stareN = 0 then s.sweepBegin.guardSweepBegin else s
    let s := s.withScan { s.scan with stareN := (s.scan.stareN + 1) % 65536 }
    let s := s.raiseIf (s.columnEntries az bad).1.isEmpty Cause.SCAN_NOCOL
    .next ((s.fireTrigger t az [] bad fue false).takeRegion)
  else .next s

/-- Row HOLDOFF_EXPIRY: the hold-off runs out at `t`, the engine re-arms, and a grant that is due is fixed (R105, Table 6.6). Where samples have passed two or more targets
meanwhile, the last of them triggers late and the others are skipped (R106; log 61). -/
def execHoldoffExpiry (t : Nat) (bad : List Nat) (s : State) (fue : List Nat := []) : Out :=
  if s.dev = .scan && s.scan.cur.isSome && !s.scan.armed && s.holdoffOver t then
    let s := s.withScan { s.scan with armed := true }
    .next (if s.triggers && s.scanMode != 1 && 2 ≤ s.passed.length then s.latePass t s.passed bad fue else s.grantNow t bad)
  else .next s

/-- Row TUN_CLEAR_DONE: the clear ends at `t` and triggers are allowed; targets crossed meanwhile trigger late or are skipped (R155). -/
def execTunClearDone (t : Nat) (bad fue : List Nat) (s : State) : Out :=
  if !s.scan.clearing then .next s else
  let s := (s.withScan { s.scan with clearing := false }).setB Fld.MASH_STAT_CLR_BUSY false
  if s.triggers && s.scanMode != 1 then
    let xs := s.scan.todo.takeWhile (fun x => s.reached x.1 x.2 t)
    .next (if xs.isEmpty then s.grantNow t bad else s.latePass t xs bad fue)
  else .next s

/-! ## Firing (R76-R79, R83, R88, R118, R122) -/

/-- FIRE outputs are inhibited for string `n`, whatever the shot (R30, R34, R44, R89, R108, R251, R253). -/
def State.fireInhibited (s : State) (n : Nat) : Bool :=
  s.dev != .scan || s.b Fld.SCAN_STAT_INHIBIT || s.boardShut n || s.b Fld.THERM_STAT_HARD || s.b Fld.PWR_FAULT_CHG_TRIP
    || !s.b Fld.CLK_STATUS_PLLA_LOCK || s.b Fld.TOP_PINTEST_LOCK || !s.usable n

/-- The shunts of string `n` stand at `pat` by a frame confirmed at least 20 ns before `t`, no frame that latches before `t` has changed them since, and `pat` opens no
lost emitter (R83, Table 5.4). -/
def State.patternReady (s : State) (n : Nat) (pat : BitVec 8) (t : Nat) : Bool :=
  s.emit.confPat.extractLsb' (8 * n) 8 = pat && decide ((s.str n).patAt + 20 ≤ t) && (pat &&& s.lostMask.extractLsb' (8 * n) 8) = 0
    && s.emit.frame.all (fun f => f.pat.extractLsb' (8 * n) 8 = pat || decide (t < f.latch))

/-- What every fired shot does (R79, R93, R118, R122): it counts, heats the models, is charged to its cells, and its burst is due. -/
def State.shotFired (s : State) (n t : Nat) (y : NextShot) : State :=
  let code := s.f (Fld.EMIT_DAC_CODE n)
  let vAcc := max code (y.vpre.getD code)
  let s := s.chargeCells (s.shotCells n y.pat (s.predict t)) (s.emission (s.wEye n y.pat) vAcc)
  let s := (s.chargeModels n code t).incMod (Fld.EMIT_SHOTS_COUNT n) 1
  ((s.setStr n { s.str n with lastFire := some (t, t + s.widthNs n), pulseQ := s.widthQ n,
                              mon := some { kind := y.kind, pat := y.pat, vpre := y.vpre.getD code, due := t + 4 * s.f Fld.EMIT_MON_DELAY } }).emxRelatch.adcFired n t).withPins
    { s.pins with fire := true }

/-- The planned shot of entry `i` fires: it is released and handed over, and opens its windows (R15, R79, R88, R135). Its t_k is handed over counted from the column's
trigger, as in the worked example of R79 (DEDUCED, log 82). While the SPAD tier is in SHUTDOWN no window opens (Table 12.5). -/
def State.plannedFired (s : State) (n i t : Nat) (y : NextShot) : State :=
  match s.curEntry i with
  | none => s
  | some e =>
    let s := if s.f (Fld.EMIT_DAC_CODE n) < s.f (Fld.EMIT_DAC_DEMAND n) then
        s.reduceEntry i (match s.f (Fld.CTL_GRP_WIN n) with | 1 => 1 | 2 => 3 | _ => 5)
      else s
    let w := s.wInt n y.pat
    let s := (s.withScan { s.scan with cur := s.scan.cur.map (fun g => { g with fired := g.fired + 1 }), held := s.scan.held + 1 }).withEmit { s.emit with handed := some (n, t - s.scan.tTrig) }
    let rows := (List.range 64).filter (fun k => decide (e.rowFirst ≤ k) && decide (k ≤ e.rowLast) && !s.b Fld.THERM_STAT_SPAD_SD)
    let s := s.spend t (rows.length * s.f Fld.KILN_CLU_ELISTEN)
    rows.foldl (fun s k =>
      if (if s.mash.swapPend then (s.cluster k).nxt.woken else (s.cluster k).cur.woken) then s.openWindow k t w else s) s

/-- The string's planned shot is over, fired or not: the dither register advances and the next shot is scheduled (R76, R77). -/
def State.plannedOver (s : State) (n : Nat) (y : NextShot) : State :=
  let s := s.setF (Fld.EMIT_DLFSR_LFSR n) (lfsr16 (BitVec.ofNat 16 (s.f (Fld.EMIT_DLFSR_LFSR n)))).toNat
  let x := s.str n
  (s.setStr n { x with queue := x.queue.drop 1, prevT := some y.t, next := none }).scheduleD n

/-- A probe's time `t` kept clear of the latch edge of the frame on the link (R82). -/
def State.clearOfLatch (s : State) (t : Nat) : Nat :=
  match s.emit.frame with
  | some f => if f.latch ≤ t && t < f.latch + 10 then f.latch + 10 else t
  | none => t

/-- Row FIRE: string `n`'s next shot is due: a planned or an isolation shot at its computed time, a probe at `t`, in or after its slot. It fires if it is ready, admitted, its
pattern confirmed and FIRE not inhibited; otherwise a planned shot is dropped and counted as not granted, and a probe moves to its next slot. -/
def execFire (n t : Nat) (s : State) : Out :=
  match (s.str n).next with
  | none => .next s
  | some y =>
    let tf := if y.kind = .probe then s.clearOfLatch (max t y.t) else y.t
    let patOk := s.patternReady n y.pat tf
    let ok := y.ready = some true && y.admitted = some true && patOk && !s.fireInhibited n
    let s := s.raiseIf (!patOk && !s.fireInhibited n) Cause.EMIT_SHOT_LATE
    match y.kind with
    | .planned i =>
      let s := if ok then (s.shotFired n tf y).plannedFired n i tf y
        else if y.ready != some false && y.admitted != some false then s.reduceEntry i 6 else s
      .next (s.plannedOver n y)
    | .probe =>
      if ok then
        let s := s.shotFired n tf y
        .next ((s.setStr n { s.str n with probeDue := false, probeMs := s.ms, prevT := some tf, next := none }).scheduleD n)
      else .next ((s.setStr n { s.str n with prevT := some tf, next := none }).scheduleD n)
    | .iso k =>
      if ok then
        let s := s.shotFired n tf y
        .next (s.setStr n { s.str n with prevT := some tf, next := none })
      else .next ((s.setStr n { s.str n with prevT := some tf, next := none }).isoPlace n k (((s.str n).iso.map (·.bits)).getD 0))

/-! ## Cluster domains (R12) -/

/-- The time of the next window on cluster `k` in the running column, or a bound below it where an isolation goes first (R12). -/
def State.nextWindow (s : State) (k : Nat) : Option Nat :=
  ((List.range 8).filterMap (fun n =>
    let x := s.str n
    let covers (p : PShot) : Bool := (s.curEntry p.entry).any (fun e => e.rowFirst ≤ k && k ≤ e.rowLast)
    match x.next with
    | some y => if x.queue.any covers then some (if (x.queue.take 1).any covers && (match y.kind with | .planned _ => true | _ => false) then y.t else y.t + s.period n) else none
    | none => none)).foldl (fun (b : Option Nat) t => some (match b with | none => t | some a => min a t)) none

/-- The column that cluster `k` listens for: the waiting one while a swap is delayed. -/
def State.runAcc (s : State) (k : Nat) : ColAcc := if s.mash.swapPend then (s.cluster k).nxt else (s.cluster k).cur

/-- The gate of the running column on cluster `k` is still to come or open at `t`: when it opens (R134). -/
def State.gateAhead (s : State) (k t : Nat) : Option Nat :=
  let a := s.runAcc k
  let q := gateSpan (s.ef Fld.RX_AMB_AMB_LEN) s.scan.tTrig a.t0
  if a.woken && gateIs (s.ef Fld.RX_AMB_AMB_MIN) q && t < a.t0 then some q.1 else none

/-- The first need of cluster `k` in the coming column, at its predicted trigger: its gate's opening, else its first window (R12, R134). -/
def State.comingNeed (s : State) (k : Nat) : Option Nat :=
  s.scan.next.bind (fun g =>
    if g.rows.getLsbD k then
      let t0 := s.firstFire g g.due false k
      let q := gateSpan (s.f Fld.RX_AMB_AMB_LEN) g.due t0
      some (if gateIs (s.f Fld.RX_AMB_AMB_MIN) q then q.1 else t0)
    else none)

/-- Cluster `k` is needed within `d` ns after `t` (R12): its gate, its next window, or the coming column's first need. -/
def State.neededIn (s : State) (k t d : Nat) : Bool :=
  let soon (o : Option Nat) : Bool := o.any (fun x => decide (x ≤ t + d))
  soon (s.gateAhead k t) || ((s.runAcc k).woken && soon (s.nextWindow k)) || soon (s.comingNeed k)

/-- Row CLUSTER_POWER_ON: at `t`, 200 ns before its gate or window, cluster domain `k` of the running or the coming column switches on; Kiln counts the warm-up (R12). -/
def execClusterPowerOn (k : Nat) (s : State) (t : Nat := 0) : Out :=
  if k < 64 && s.dev = .scan && s.neededIn k t 200 && !s.clusterShut k && !s.rst.l2.contains (.cluster k) && !s.powered k then
    .next ((s.spend t (s.f Fld.KILN_CLU_EWAKE)).withScan { s.scan with clu := s.scan.clu ||| (1#64 <<< k) })
  else .next s

/-- Row CLUSTER_POWER_OFF: at `t` the domain of cluster `k` switches off, with its gate over, no window open and the next one more than 400 ns away (R12), and no injection (R139,
R141). -/
def execClusterPowerOff (k : Nat) (s : State) (t : Nat := 0) : Out :=
  let s := s.closeExpired k t
  if (s.cluster k).wins.isEmpty && (List.range 16).all (fun j => (s.chan (16 * k + j)).gate.isNone) && !s.mash.bootRun && decide (s.mash.injEnd ≤ t)
      && !s.neededIn k t 400 then
    .next (s.withScan { s.scan with clu := s.scan.clu &&& ~~~(1#64 <<< k) })
  else .next s

/-! ## Closing histograms (R166, R174, R194, R195, R306, R308) -/

/-- MCOL of the column whose bank the sparge holds. -/
def State.closedCol (s : State) : Nat := (s.f Fld.MASH_STAT_COLS + 255) % 256

/-- The outcome of channel `c` in column `m` reaches column summary, HZD and Guard. -/
def State.outcome (s : State) (m c : Nat) (o : FieldOut) (shots : Nat) : State :=
  s.guardOutcome m (((s.lauCol m).cell c).2.2 || (s.lauCol m).fieldUe.contains c) (o = .prot) (o = .unev) (o = .warn) shots

/-- Once every channel of column `m` has its outcome, the column, and with it perhaps its sweep, ends. -/
def State.columnDone (s : State) (m : Nat) : State :=
  if s.lauComplete m then
    let c := s.lauCol m
    let s := (s.lauSummary m).guardColDone m
    if c.ends then s.guardSweepEnd c.sweep c.whole else s
  else s

/-- The histogram of channel `c` closes: one of a woken cluster goes to the Lauter; a channel not woken has its outcome at once. -/
def State.closeHist (s : State) (c : Nat) (errs : List (Nat × Bool)) : State :=
  if !s.mash.sparging || (s.chan c).old.passed then s else
  let m := s.closedCol
  let q := s.spargeHist c errs
  let s := q.1
  if q.2.isSome || !s.lau.cols.any (fun x => x.mcol = m) then s else
  let o := s.unwokenOut m c
  let s := if (s.lauCol m).rows.getLsbD (c / 16) then s.wortDone m c [] else s
  (s.lauOutcome m o s.eff).outcome m c o 0

/-- Row HISTOGRAM_CLOSE: the histograms J = `j` of all clusters close, in the order of J (R10, R166). `errs` are bins read with an error: cluster, bin, uncorrectable (R154). -/
def execHistogramClose (j : Nat) (errs : List (Nat × Nat × Bool)) (s : State) : Out :=
  if 16 ≤ j || !s.mash.sparging || j != s.mash.closeJ then .next s else
  let s : State := (List.range 64).foldl (fun s k => s.closeHist (16 * k + j) ((errs.filter (fun e => e.1 = k)).map (·.2))) s
  let s := s.withMash { s.mash with closeJ := j + 1, snapSkip := s.mash.snapSkip && s.f Fld.MASH_SNAPCTL_CH % 16 != j }
  .next (s.columnDone s.closedCol)

/-- Row LAUTER_EXTRACT_DONE: the Lauter finishes the histogram of channel `c` (R174). -/
def execLauterExtractDone (c : Nat) (s : State) : Out :=
  match s.hists.find? (fun p => p.1 == c) with
  | none => .next s
  | some (_, h) =>
    let q := s.lauExtract c
    let m := q.2.2.2
    .next (((q.1.wortDone m c q.2.1).outcome m c q.2.2.1 (hdrView h.hdr).shots).columnDone m)

/-- Row SPARGE_END: with its 16 histograms closed the bank is clear at `t`; a swap that waits takes place (R10, R166, Table 8.4). -/
def execSpargeEnd (t : Nat) (s : State) : Out :=
  if s.mash.closeJ < 16 then .next s else
  let s := s.spargeEnd t
  .next (if s.mash.swapPend then s else s.finishClose)

end Sys2Proof.Machine
end

