-- ==== Sys2Proof/Machine/Modes.lean ====
section
/-!
DEFINITION. Device states and their changes (R59, R60, R295-R298): SCAN, SERVICE, SAFE, PARK and what each entry and exit entails; the PLLs; the ms tick.
-/
namespace Sys2Proof.Machine

/-! ## Sessions (R294) and followers of the state -/

/-- The Guard session ends other than by COMMIT: an open change is aborted (R294, R319). While a COMMIT waits for its log entry the change goes on. -/
def State.endSession (s : State) : State :=
  match s.amp.sess with
  | none => s
  | some x =>
    let s := s.withAmp { s.amp with sess := none }
    if s.amp.busy.isSome then s else (s.changeAbort x.uid).1

/-- The option load has ended, and PLLA and PLLB have been started (Table 3.11). -/
def State.pllsStarted (s : State) : Bool :=
  match s.rst.phase with
  | .off => false
  | .rails _ => false
  | .held => false
  | .option => false
  | _ => true

/-- PLLA runs: in SCAN, during TDC calibration, from START on or where SCAN follows at once, and during start-up once the option load has ended (R43, Table 3.11). -/
def State.pllaRuns (s : State) : Bool :=
  s.dev = .scan || s.b Fld.RX_CALSTAT_BUSY
    || (s.dev = .idle && (s.b Fld.AMP_STATE_PEND_START || (s.rst.autostart && s.b Fld.SCAN_STAT_LOCKED))) || (s.dev = .boot && s.pllsStarted)

/-- PLLA_LOCK reads 0 while PLLA is stopped (Table 3.3). -/
def State.pllaFollow (s : State) : State := if s.pllaRuns then s else s.setB Fld.CLK_STATUS_PLLA_LOCK false

/-- LOCKED clears whenever the mirror loop does not run (R102). -/
def State.lockFollow (s : State) : State :=
  if s.loopRuns 0 then s
  else ((s.setB Fld.SCAN_STAT_LOCKED false).withScan { s.scan with lockN := 0, lockClean := false, lockFrom := 0 })

/-- A change of the device state with what follows from it (R294-R297): the session, PEND_START, SERVICE's ends, lock, PLLA and the Guard's outputs. -/
def State.toState (s : State) (d : Dev) : State :=
  if s.dev = d then s else
  let s := if s.dev = .idle then s.endSession else s
  let s := if s.dev = .service then s.serviceLeave else s
  let s := s.setDev d
  let s := if d = .idle then s else s.setB Fld.AMP_STATE_PEND_START false
  let s := if d = .service then s.serviceEnter else s
  s.lockFollow.pllaFollow.vspadFollow.guardFollow

/-! ## Entering and leaving SCAN (R57, R84, R103, R155, R164, R200, R296, R308) -/

/-- The dither registers are loaded (R77). -/
def State.seedLfsrs (s : State) : State :=
  (List.range 8).foldl (fun s n =>
    let v := s.f (Fld.EMIT_DSEED_SEED n)
    if v = 0 then (s.setF (Fld.EMIT_DLFSR_LFSR n) 1).raise Cause.EMIT_SEED_ZERO else s.setF (Fld.EMIT_DLFSR_LFSR n) v) s

/-- Columns still in work are given up before column numbers start anew. -/
def State.dropColumns (s : State) : State :=
  let s := s.lau.cols.foldl (fun s c => (s.tapFlush c.mcol).wortForget c.mcol) s
  s.withLau { s.lau with cols := [], cache := [], dirty := false }

/-- The entry to SCAN at `t`. -/
def State.scanEnter (s : State) (t : Nat) : State :=
  let s := s.toState .scan
  let s := (s.withRst { s.rst with autostart := false }).withScan { s.scan with mode := s.f Fld.SCAN_CTRL_MODE, dir := s.b Fld.SCAN_CTRL_DIR }
  let s := (s.dropColumns.latchColumn).takeRegion
  let s := s.withScan { s.scan with
    todo := s.targetsLeft t, armed := true, sos := false, stareN := 0, trigN := 0, sweepWhole := false, curWhole := false, leave := 0,
    next := none, cur := none, closing := none, strokeFail := true, stallRun := false, clearing := true, held := 0, lastPeriod := 0 }
  let s := (s.tunClear.wortScan).seedLfsrs
  let s := s.setB Fld.DWL_STAT_ACTIVE true
  let s : State := (List.range 8).foldl (fun s n => (s.setStr n { s.str n with queue := [], prevT := none, next := none, probeMs := s.ms }).groupRun n) s
  s.guardScanEntry

/-- Row SCAN_ENTRY: the device enters SCAN at `t`, with PEND_START or AUTOSTART, no TDC run in progress and the mirror locked (R57, Table 14.7). After PARK the held maps
are applied, also where PARK cut a run short (R60; log 73). -/
def execScanEntry (t : Nat) (s : State) : Out :=
  if s.dev = .idle && (s.b Fld.AMP_STATE_PEND_START || s.rst.autostart) && !s.b Fld.RX_CALSTAT_BUSY
      && s.b Fld.SCAN_STAT_LOCKED && !s.pins.parkTest && s.scan.leave = 0
  then .next (s.scanEnter t) else .next s

/-- Charging, a burst and an injection stop (Table 10.12). -/
def State.emitIdle (s : State) : State :=
  (s.withEmit { s.emit with charging := none, burst := none }).withMash { s.mash with injEnd := 0 }

/-- The scan's own work ends: no target, grant or entry is left, charging, bursts and an injection stop (Table 10.12), INHIBIT of a stall ends (R108). -/
def State.scanIdle (s : State) : State :=
  let s := s.withScan { s.scan with
    todo := [], armed := false, sos := false, next := none, cur := none, stallInh := false, stallRun := false, leave := 0, clearing := false, clu := 0 }
  let s := (s.setB Fld.MASH_STAT_CLR_BUSY false).followInhibit
  ((List.range 8).foldl (fun (s : State) n =>
    s.setStr n { s.str n with queue := [], prevT := none, next := none, probeDue := false, chgSel := false, mon := none, iso := none }) s).emitIdle

/-- The emitters' supply is off: no frame is on its way or confirmed (R84). -/
def State.emxOff (s : State) : State := s.withEmit { s.emit with frame := none, confPat := 0, emxOn := false }

/-- Scanning ends at `t`: the last column closes (Table 10.12), every shunt closes unless `zero` is false (R84), emitters and charging stop, INHIBIT of a stall ends
(R108), HZD is asserted (R195). -/
def State.scanOff (s : State) (t : Nat) (zero : Bool) : State :=
  let s := (((s.closeColumn t false []).latchColumn).columnSwap t {}).scanIdle
  (if zero then s.emxSendZero else s.emxOff).hzdAssert

/-- Row SCAN_LEAVE: the column boundary after STOP, at `t` (R296). SERVICE is not entered where SEAL_N has been accepted low meanwhile. -/
def execScanLeave (t : Nat) (s : State) : Out :=
  if s.dev = .scan && (s.scan.leave = 1 || s.scan.leave = 2) then
    let d : Dev := if s.scan.leave = 2 && !s.pins.sealedLow then .service else .idle
    .next ((s.scanOff t true).toState d)
  else .next s

/-! ## SAFE (R298) -/

/-- A SAFE cause: its bit sets, and from IDLE, SCAN or SERVICE the device enters SAFE at once. In BOOT commit decides, in PARK the exit. -/
def State.enterSafe (s : State) (bit : Nat) : State :=
  let s := s.setF Fld.AMP_STATE_SAFE_CAUSE (s.f Fld.AMP_STATE_SAFE_CAUSE ||| 2 ^ bit)
  if s.dev = .idle || s.dev = .scan || s.dev = .service then
    let s := if s.dev = .scan then s.scanOff s.now (bit != 0 && bit != 1) else s
    let s := (s.withPins { s.pins with parkTest := false }).withScan { s.scan with leave := 0 }
    let s := s.logEvent 0x0040 (BitVec.ofNat 32 (s.f Fld.AMP_STATE_SAFE_CAUSE)) 0
    s.toState .safe
  else s

/-- Row EMX_FRAME_CONFIRM: the frame ends at time `t` with the board's 76 echo bits and status byte (R83). -/
def execEmxFrameConfirm (t : Nat) (echo : BitVec 76) (status : BitVec 8) (s : State) : Out :=
  match s.emit.frame with
  | none => .next s
  | some fr =>
    if echo = emxFrameBits fr.seq fr.pat && status = fr.crc then
      let s := (List.range 8).foldl (fun (s : State) n =>
        if fr.pat.extractLsb' (8 * n) 8 = s.emit.confPat.extractLsb' (8 * n) 8 then s else s.setStr n { s.str n with patAt := t }) s
      .next (s.withEmit { s.emit with frame := none, confPat := fr.pat, confAt := t })
    else if fr.retry then
      let s := s.withEmit { s.emit with frame := none, charging := none, emxOn := false }
      let s := s.raise Cause.EMIT_EMX_FAIL
      let s := s.logEvent 0x0010 (s.rget Reg.EMIT_FAULT) (s.rget Reg.EMIT_EMXSTAT)
      .next (s.enterSafe 1)
    else
      let s := s.raise Cause.EMIT_EMX_RETRY
      let s := s.incSat Fld.EMIT_EMXSTAT_RETRIES 1
      .next (s.emxSend fr.pat fr.seq true (latchDelay 16 s.pulses (t + 300)))

/-! ## PARK (R13, R59, R60) -/

/-- A pin test starts (R32). -/
def State.pinTestStart (s : State) : State := s.setB Fld.TOP_PINTEST_BUSY true

/-- Row PARK_ENTER: at the column boundary `t` after PARK scanning ends, and the pin test runs (R59). -/
def execParkEnter (t : Nat) (s : State) : Out :=
  if (s.dev = .scan || s.dev = .idle) && s.scan.leave = 3 then
    let s := if s.dev = .scan then (s.scanOff t true).toState .idle else s.endSession
    .next ((s.withScan { s.scan with leave := 0 }).withPins { s.pins with parkTest := true }).pinTestStart
  else .next s

/-- The loops stop in PARK: MDRV, HTR and LX_SPAD take the states of Table 3.10, and I and SPS are loaded afresh at the next start (R30, R223, R230). -/
def State.loopsPark (s : State) : State := (List.range 8).foldl (fun s n => s.loopRun n) s

/-- The device is in PARK: PLLs, loops and VSPAD stop, the FIRE drivers are off, the time is invalid, the cores stop, the Tun loses its content (R13, R30, R59, R155, R275,
R351). -/
def State.parkEnter (s : State) : State :=
  let irq := s.irq
  let s := ((s.timeInvalid.tinPark).corePark 0).corePark 1
  let s := ((((s.withPins { s.pins with parkTest := false, parkIrq := some irq, fire := false }).withScan { s.scan with clu := 0 }).withTun []).withHists []).withMash { s.mash with sparging := false, swapPend := false, bootRun := false }
  let s := (s.withRst { s.rst with autostart := false }).toState .park |>.loopsPark
  (((s.setB Fld.RX_CALSTAT_BUSY false).setB Fld.CLK_STATUS_PLLA_LOCK false).setB Fld.CLK_STATUS_PLLB_LOCK false).setB Fld.THERM_STAT_FAST false

/-- Row SEAL_N_CHANGE: after four equal samples SEAL_N is accepted as `low` (R29); accepted low in SERVICE, the device returns to IDLE (R297). -/
def execSealNChange (low : Bool) (s : State) : Out :=
  let s := s.withPins { s.pins with sealedLow := low }
  .next (if low && s.dev = .service then s.toState .idle else s)

/-- IRQ_N is low: in PARK it keeps its level (R356). -/
def State.irqLow (s : State) : Bool := s.pins.parkIrq.getD s.irq

/-! ## PLLs (R43, R44) -/

/-- Row PLLA_LOSS_OF_LOCK: in SCAN FIRE is inhibited, charging stops, and the columns carry INVALID (R44). -/
def execPllaLossOfLock (s : State) : Out :=
  if !s.b Fld.CLK_STATUS_PLLA_LOCK then .next s else
  let s := (s.setB Fld.CLK_STATUS_PLLA_LOCK false).raise Cause.CLK_STATUS_PLLA_LOL
  .next (if s.dev = .scan then (s.withEmit { s.emit with charging := none }).mashInvalid else s)

/-- Row PLLA_RELOCK_TIMEOUT: 1 ms after a loss PLLA is not locked again, and source CLK is raised (R44). -/
def execPllaRelockTimeout (s : State) : Out :=
  .next (if s.dev = .scan && !s.b Fld.CLK_STATUS_PLLA_LOCK then s.raiseReset 13 else s)

/-- Row PLLB_LOSS_OF_LOCK: source CLK is raised at once (R44). -/
def execPllbLossOfLock (s : State) : Out :=
  if !s.b Fld.CLK_STATUS_PLLB_LOCK then .next s else
  .next (((s.setB Fld.CLK_STATUS_PLLB_LOCK false).raise Cause.CLK_STATUS_PLLB_LOL).raiseReset 13)

/-! ## Calibration run (R139) -/

/-- Row TDC_BOOT_RUN_END: the boot run ends with the tap counts of the channels (R139). PLLA stops unless SCAN is asked for (R43). -/
def execTdcBootRunEnd (hits : List (Nat × List Nat)) (s : State) : Out :=
  .next (if s.b Fld.RX_CALSTAT_BUSY then (s.bootRunEnd hits).pllaFollow.vspadFollow else s)

/-- Row RX_CAL_RUN: RX_CAL.RUN is written 1, which starts a boot run in IDLE (R139). -/
def execRxCalRun (s : State) : Out := .next s.calRun

/-! ## The ms tick (R42) -/

/-- A ms tick: discrepancy and manual restart of the Guard, and the watchdogs (R311, R312, R350). -/
def State.msTick (s : State) : State :=
  let s := s.withMs (s.ms + 1)
  ((s.discTick.restartTick).wdtTick 0).wdtTick 1

/-- Row EN_DISC_SAMPLE: a ms tick. -/
def execEnDiscSample (s : State) : Out := .next s.msTick

/-- `n` ms ticks. -/
def State.msTicks : Nat → State → State
  | 0, s => s
  | n + 1, s => State.msTicks n s.msTick

/-- Row WDT_EXPIRY: ms ticks run until the watchdog of core `c` expires (R350). -/
def execWdtExpiry (c : Nat) (s : State) : Out :=
  .next (if c < 2 && s.wdtCounts c then State.msTicks (max 1 (s.f (Fld.DSP_WDTCNT_LEFT c))) s else s)

end Sys2Proof.Machine
end

