-- ==== Sys2Proof/Machine/Bus.lean ====
section
/-!
DEFINITION. The bus (chapters 1, 18, 19): regions, windows, freezes, what a word reads as and what a write of it does.
-/
namespace Sys2Proof.Machine

/-! ## Regions (R18, R372) -/

/-- The Cask region of R18. -/
def caskRegion (a : Nat) : Bool := (0x150000 ≤ a && a < 0x158000) || (0x160000 ≤ a && a < 0x170000) || (0x08000000 ≤ a && a < 0x08080000)

/-- The field map. -/
def fieldMapAt (a : Nat) : Bool := 0x02000000 ≤ a && a < 0x02400000

/-- The Guard region of R18. -/
def guardRegion (a : Nat) : Bool := (0x140000 ≤ a && a < 0x150000) || fieldMapAt a

/-- The shot plan table. -/
def planAt (a : Nat) : Bool := 0x01000000 ≤ a && a < 0x01080000

/-- The Tun diagnostic window. -/
def tunAt (a : Nat) : Bool := 0x04000000 ≤ a && a < 0x04800000

/-- The DSP memories. -/
def dspMemAt (a : Nat) : Bool := 0x08000000 ≤ a && a < 0x08100000

/-- A program SRAM (Table 17.1). -/
def progAt (a : Nat) : Bool := dspMemAt a && a % 0x80000 < 0x40000

/-- A register block. -/
def blockAt (a : Nat) : Bool := a < 0x1B0000

/-- Accesses of a core to its own memories and control block, which use no window (R337); CASK + 0x0000 to 0x7FFF is DSP0's always (Table 19.4). -/
def localAt (m a : Nat) : Bool :=
  (m = 1 && caskRegion a) || (m = 2 && ((0x170000 ≤ a && a < 0x180000) || (0x08080000 ≤ a && a < 0x08100000)))

/-- A window of master `m` allows the access (R17). -/
def State.windowOk (s : State) (m a : Nat) (wr : Bool) : Bool :=
  (List.range 8).any (fun w =>
    let lo := s.rget (Reg.BUS_WIN_LO (m - 1) w)
    decide (lo.toNat / 4096 ≤ a / 4096) && decide (a / 4096 ≤ (s.rget (Reg.BUS_WIN_HI (m - 1) w)).toNat / 4096) && lo.getLsbD (if wr then 1 else 0))

/-- The register word at `a`: its row, if one is defined there. -/
def regAt (a : Nat) : Option RegRow := if blockAt a then findReg (a / 4 * 4) else none

/-- A word with an RWL field (R377), or program SRAM (R338). -/
def rwlAt (a : Nat) : Bool := progAt a || (match regAt a with | some r => r.rwl != 0 | none => false)

/-- The rules an access of master `m` breaks, as in BUS_FRZINFO bits 3:0 (R18, R19, R376, R377, Table 18.11). -/
def State.breaks (s : State) (m a : Nat) (wr : Bool) : Nat :=
  (!localAt m a && !s.windowOk m a wr).toNat + 2 * (wr && rwlAt a).toNat + 4 * (wr && guardRegion a).toNat + 8 * (caskRegion a && m != 1).toNat

/-! ## Freezing (R19, R359) -/

/-- The reset source of a frozen master (Table 3.5). -/
def frzSource (m : Nat) : Nat := if m = 1 then 7 else if m = 2 then 8 else if m ≤ 6 then 9 else if m = 7 then 10 else 11

/-- Master `m` freezes on an access to `a` that broke the rules `info`. -/
def State.freeze (s : State) (m a info : Nat) (wr : Bool) : State :=
  let info := info + if wr then 2 ^ 31 else 0
  let s := s.raise ⟨26, m⟩
  let s := s.rset Reg.BUS_FROZEN (s.rget Reg.BUS_FROZEN ||| BitVec.ofNat 32 (2 ^ m))
  let s := (s.rset (Reg.BUS_FRZADDR (m - 1)) (BitVec.ofNat 32 a)).rset (Reg.BUS_FRZINFO (m - 1)) (BitVec.ofNat 32 info)
  (s.logEvent 0x0030 (BitVec.ofNat 32 (info + m * 2 ^ 24)) (BitVec.ofNat 32 a)).raiseReset (frzSource m)

/-! ## What a register reads as -/

/-- LOG_HELD as it reads (Table 18.12). -/
def State.logHeld (s : State) : Nat := if s.rst.nvmAvail then s.nvm.log.length + s.nvm.queue.length * 65536 else 0

/-- RX_MAPWw (Table 7.5): four taps of the selected channel's active map. -/
def State.mapWord (s : State) (w : Nat) : Word :=
  let m := (s.chan (s.f Fld.RX_MAPSEL_CH)).map
  BitVec.ofNat 32 ((List.range 4).foldl (fun acc j => acc + m.getD (4 * w + j) 0 % 64 * 2 ^ (8 * j)) 0)

/-- RX_TDCc as it reads: VALID with the enabled SPADs (R131), AGE in 0.1 s (Table 7.5). -/
def State.tdcWord (s : State) (c : Nat) : Word :=
  let v := Fld.put (Fld.RX_TDC_VALID c) (s.rget (Reg.RX_TDC c)) (s.chanValid c).toNat
  if (s.chan c).map.isEmpty then v else Fld.put (Fld.RX_TDC_AGE c) v (min 0xFF ((s.ms - (s.chan c).switchMs) / 100))

/-- CTL_STAT with its level bits (Table 11.6, R355). -/
def State.ctlStat (s : State) : Word := s.rget Reg.CTL_STAT ||| BitVec.ofNat 32 s.ctlLevel

/-- TIN_STATn as it reads. -/
def State.tinStat (s : State) (n : Nat) : Word :=
  Fld.put (Fld.TIN_STAT_PEND n) (Fld.put (Fld.TIN_STAT_FILL n) 0 (s.tin n).queue.length) (s.tin n).start.isSome.toNat

/-- The transmit stamp that ETHn_TXTS0-2 show. -/
def State.txtsHead (s : State) (p : Nat) : Word × Word × Word := ((s.eth p).txts.head?).getD (0, 0, 0)

/-- SCAN_STAT: outside SCAN, ACTIVE_PSEL follows PSEL (R110). -/
def State.scanStat (s : State) : Word :=
  let v := s.rget Reg.SCAN_STAT
  if s.dev = .scan then v else Fld.put Fld.SCAN_STAT_ACTIVE_PSEL v (s.f Fld.SCAN_CTRL_PSEL)

/-- Views of a block's registers whose value is not the stored one, by bus address. -/
def State.viewOf (s : State) (a : Nat) : Option Word :=
  match a / 0x10000 with
  | 2 => if a = Reg.PWR_STATUS then some (if s.vspadOn then s.rget a else s.rget a &&& 0x1BF) else none
  | 0 => if a = Reg.TOP_SUMMARY then some (BitVec.ofNat 32 s.topSummary) else if a = Reg.TOP_RAW then some (BitVec.ofNat 32 s.topRaw) else none
  | 4 => if a = Reg.SCAN_STAT then some s.scanStat else none
  | 5 => if a = Reg.KILN_EYESUM then some (BitVec.ofNat 32 s.eyeSum) else none
  | 6 => if Reg.RX_MAPW 0 ≤ a && a ≤ Reg.RX_MAPW 23 then some (s.mapWord ((a - Reg.RX_MAPW 0) / 4))
         else if Reg.RX_TDC 0 ≤ a && a ≤ Reg.RX_TDC 1023 then some (s.tdcWord ((a - Reg.RX_TDC 0) / 4)) else none
  | 8 => if Reg.LAU_PEEK 0 ≤ a && a < Reg.LAU_PEEK 0 + 0x20 then some (s.peekWord ((a - Reg.LAU_PEEK 0) / 4)) else none
  | 9 => if a = Reg.WORT_STAT then some s.wortStat else none
  | 10 => if a = Reg.CTL_STAT then some s.ctlStat else none
  | 11 => let q := (s.adc.queue.head?).getD (0, 0)
          if a = Reg.ADC0_EVLO then some q.1 else if a = Reg.ADC0_EVHI then some q.2
          else if a = Reg.ADC0_EVSTAT then some (BitVec.ofNat 32 s.adc.queue.length) else none
  | 15 | 16 => let p := a / 0x10000 - 15
          if Reg.ETH_QHEAD p 0 ≤ a && a < Reg.ETH_QHEAD p 0 + 0x800 then some (s.qheadWord p ((a - Reg.ETH_QHEAD p 0) / 4))
          else if a = Reg.ETH_TXTS0 p then some (s.txtsHead p).1 else if a = Reg.ETH_TXTS1 p then some (s.txtsHead p).2.1
          else if a = Reg.ETH_TXTS2 p then some (s.txtsHead p).2.2 else none
  | 17 => if a = Reg.TIME_NS then some (s.time.ctr.extractLsb' 32 32) else none
  | 19 => if a = Reg.AMP_QSTAT then some (BitVec.ofNat 32 s.amp.queue.length) else none
  | 20 => if a = Reg.GUARD_STAT then some s.guardStat
          else if a = Reg.GUARD_LOGCNT then some (if s.rst.nvmAvail then s.nvm.chCount else 0) else none
  | 21 => if a = Reg.CASK_ID then some s.caskShort
          else if Reg.CASK_SHA 0 ≤ a && a ≤ Reg.CASK_SHA 7 then some (bytesW s.caskSha (a - Reg.CASK_SHA 0))
          else if a = Reg.CASK_MEC then some s.caskMec else if a = Reg.CASK_STAT then some s.caskStat
          else if a = Reg.CASK_SEQ then some s.caskSeq else if a = Reg.CASK_KCV then some s.kcv
          else if a = Reg.CASK_LRSSTAT then some s.lrsStat else none
  | 22 | 23 => let c := a / 0x10000 - 22
          if a = Reg.DSP_STAT c then some (s.dspStat c) else if a = Reg.DSP_PC c then some (BitVec.ofNat 32 (s.core c).e1) else none
  | 24 => if a = Reg.LOG_NEWEST then some (if s.rst.nvmAvail then s.nvm.logCount else 0)
          else if a = Reg.LOG_HELD then some (BitVec.ofNat 32 s.logHeld) else none
  | 25 => if Reg.TIN_QLO 0 ≤ a && a ≤ Reg.TIN_QHI 3 then
            let q := s.tinFront ((a - Reg.TIN_QLO 0) / 8)
            some (if a % 8 = 0 then q.1 else q.2)
          else if Reg.TIN_STAT 0 ≤ a && a ≤ Reg.TIN_STAT 3 then some (s.tinStat ((a - Reg.TIN_STAT 0) / 4)) else none
  | _ => none

/-- What the register word at `a` reads as: reserved and WO bits 0, an undefined offset 0 (R6, R7). -/
def State.regRead (s : State) (a : Nat) : Word :=
  match findReg a with
  | none => 0
  | some r => ((s.viewOf a).getD (s.rget a)) &&& ~~~r.wo

/-- What a read of the register word at `a` does beyond returning its value (R147, R239, R272, R279). -/
def State.readEffect (s : State) (a : Nat) : State :=
  if a = Reg.TIME_NS then s.setF Fld.TIME_FRAC_FRAC (s.time.ctr.toNat % 2 ^ 32)
  else if a = Reg.ADC0_EVHI then s.withAdc { s.adc with queue := s.adc.queue.drop 1 }
  else if a = Reg.ETH_TXTS2 0 then s.setEth 0 { s.eth 0 with txts := (s.eth 0).txts.drop 1 }
  else if a = Reg.ETH_TXTS2 1 then s.setEth 1 { s.eth 1 with txts := (s.eth 1).txts.drop 1 }
  else if Reg.TIN_QHI 0 ≤ a && a ≤ Reg.TIN_QHI 3 && a % 8 = 4 then s.tinPop ((a - Reg.TIN_QHI 0) / 8)
  else s

/-! ## Words of every region -/

/-- A bin as the diagnostic window shows it (R153, R169): in the closed bank, 0. -/
def State.tunView (s : State) (n : Nat) : BitVec 16 :=
  if (n / 32768 % 2 = 1) = (s.b Fld.MASH_STAT_BANK = true) then s.bin n else 0

/-- A word of the Tun window. -/
def State.tunWord (s : State) (a : Nat) : Word :=
  let n := (a - 0x04000000) / 4 * 2
  s.tunView (n + 1) ++ s.tunView n

/-- What the word at `a` reads as, without an access's side effects; an address with nothing behind it reads 0 (R373). -/
def State.wordAt (s : State) (a : Nat) : Word :=
  let a := a / 4 * 4
  if blockAt a then s.regRead a
  else if planAt a || fieldMapAt a || dspMemAt a then s.mgetW a
  else if tunAt a then s.tunWord a else 0

/-- A read of the word at `a` by a master that may make it. -/
def State.readWord (s : State) (a : Nat) : State × Word :=
  (if blockAt a then s.readEffect (a / 4 * 4) else s, s.wordAt a)

/-- A shot-plan word of the active region (R110, R375). -/
def State.planActive (s : State) (a : Nat) : Bool :=
  let i := (a - 0x01000000) / 8
  let (first, last) := if s.b Fld.SCAN_STAT_ACTIVE_PSEL then (s.f Fld.SCAN_PLAN1_FIRST, s.f Fld.SCAN_PLAN1_LAST) else (s.f Fld.SCAN_PLAN0_FIRST, s.f Fld.SCAN_PLAN0_LAST)
  s.dev = .scan && decide (first ≤ i) && decide (i ≤ last)

/-! ## Register writes -/

/-- The stored word after a write of `v` by a master: RW bits take `v`, W1C bits clear where `v` is 1, the others stay (R6). -/
def RegRow.merge (r : RegRow) (old v : Word) : Word := (old &&& ~~~(r.rw ||| (r.w1c &&& v))) ||| (v &&& r.rw)

/-- The plain write of a register. -/
def State.regStore (s : State) (a : Nat) (v : Word) : State :=
  match findReg a with
  | none => s
  | some r => s.rset a (r.merge (s.rget a) v)

/-- A write of a CASK-type register by DSP0 (R325): accepted in SERVICE. CASK_CALCFG starts an APPLY. -/
def State.caskStore (s : State) (a : Nat) (v : Word) : State :=
  if a = Reg.CASK_CALCFG then s.calcfgWrite v
  else if s.dev != .service then s.caskRefuse
  else match findReg a with
    | none => s
    | some r => s.rset a ((s.rget a &&& ~~~r.cask) ||| (v &&& r.cask))

/-- What a write of `v` to SCAN_CTRL stores: a 3 to MODE is ignored (Table 6.7). -/
def State.scanModeOf (s : State) (v : Word) : Word :=
  if v.extractLsb' 0 2 = 3 then Fld.put Fld.SCAN_CTRL_MODE v (s.f Fld.SCAN_CTRL_MODE) else v

/-- A write of SCAN_CTRL. -/
def State.scanCtrl (s : State) (v : Word) : State := s.regStore Reg.SCAN_CTRL (s.scanModeOf v)

/-- A write of DMAn_CTRL (R349). -/
def State.dmaCtrl (s : State) (n : Nat) (v : Word) : State :=
  let s := s.regStore (Reg.DMA_CTRL n) v
  if v.msb then s.dmaGo n else s

/-- A write of CTL_CTRL (R223, R230): EN at the next evaluation, COMMIT applies what is staged; LOCKED clears with the mirror loop stopped (R102). -/
def State.ctlCtrl (s : State) (v : Word) : State :=
  let s := s.regStore Reg.CTL_CTRL v
  let s := if v.msb then s.ctlApply else s
  s.lockFollow

/-- A write of ADC0_SRCk (R237). -/
def State.adcSrc (s : State) (k : Nat) (v : Word) : State :=
  (s.regStore (Reg.ADC0_SRC k) v).adcGainWritten k (s.f (Fld.ADC0_SRC_GAIN k))

/-- A write of ADC0_BG (R237). -/
def State.adcBg (s : State) (v : Word) : State :=
  (s.regStore Reg.ADC0_BG v).adcChannelWritten (s.f Fld.ADC0_BG_CH)

/-- A write of ADC0_REQn: GO gives a SOFT trigger (Table 12.8). -/
def State.adcReq (s : State) (n : Nat) (v : Word) : State :=
  let s := s.regStore (Reg.ADC0_REQ n) v
  if v.getLsbD 30 then s.reqGo n else s

/-- A write of MASH_SNAPCTL (R170). -/
def State.snapCtl (s : State) (v : Word) : State :=
  let s := s.regStore Reg.MASH_SNAPCTL v
  if v.msb then s.snapArm else s

/-- A write of RX_CAPCTL (R151). -/
def State.capCtl (s : State) (v : Word) : State :=
  let s := s.regStore Reg.RX_CAPCTL v
  if v.msb then s.capArm else s

/-- A write of WORT_ANCH_SHI commits the anchor (R207). -/
def State.anchShi (s : State) (v : Word) : State := (s.regStore Reg.WORT_ANCH_SHI v).anchorCommit

/-- A write of `v` to the register at `a` by master `m`, which may make it: what it stores and what it starts. -/
def State.regWrite (s : State) (m a : Nat) (v : Word) : State :=
  match a / 0x10000 with
  | 3 => if a = Reg.EMIT_LOSTCLR then s.lostClear v else s.regStore a v
  | 4 => if a = Reg.SCAN_CTRL then s.scanCtrl v else s.regStore a v
  | 6 => if a = Reg.RX_CAL then (let s := s.regStore a v; if v.getLsbD 0 then s.calRun else s)
         else if a = Reg.RX_CAPCTL then s.capCtl v else s.regStore a v
  | 7 => if a = Reg.MASH_SNAPCTL then s.snapCtl v else s.regStore a v
  | 9 => if a = Reg.WORT_ANCH_SHI then s.anchShi v else s.regStore a v
  | 10 => if a = Reg.CTL_CTRL then s.ctlCtrl v else s.regStore a v
  | 11 => if Reg.ADC0_SRC 0 ≤ a && a ≤ Reg.ADC0_SRC 15 then s.adcSrc ((a - Reg.ADC0_SRC 0) / 4) v
          else if a = Reg.ADC0_BG then s.adcBg v
          else if Reg.ADC0_REQ 0 ≤ a && a ≤ Reg.ADC0_REQ 3 && (a - Reg.ADC0_REQ 0) % (Reg.ADC0_REQ 1 - Reg.ADC0_REQ 0) = 0
          then s.adcReq ((a - Reg.ADC0_REQ 0) / (Reg.ADC0_REQ 1 - Reg.ADC0_REQ 0)) v
          else if a = Reg.ADC0_FIR then (s.regStore a v).adcFirWritten v
          else s.regStore a v
  | 12 => if s.afeRlRo a then s else s.regStore a v
  | 15 | 16 => let p := a / 0x10000 - 15
          if a = Reg.ETH_QPOP p then (if v.getLsbD 0 then s.qpop p else s)
          else if a = Reg.ETH_TXCMD p then s.txcmdWrite p v else s.regStore a v
  | 17 => if a = Reg.TIME_INC then s.timeIncWrite v else if a = Reg.TIME_OFS then s.timeOfsWrite v
          else if a = Reg.TIME_CTRL then s.timeCtrlWrite m v else if a = Reg.TIME_PPS then s.timePpsWrite v else s.regStore a v
  | 21 => if a = Reg.CASK_LRSGO then (if v.getLsbD 0 then s.lrsGo else s)
          else (match findReg a with
            | some r => if r.cask != 0 then s.caskStore a v else s.regStore a v
            | none => s)
  | 22 | 23 => let c := a / 0x10000 - 22
          if a = Reg.DSP_WDTKICK c then s.wdtKick c v else if a = Reg.DSP_MBOX c 7 then s.mbox7 c v
          else if Reg.DMA_CTRL 0 ≤ a && a ≤ Reg.DMA_CTRL 3 && (a - Reg.DMA_CTRL 0) % 32 = 0 then s.dmaCtrl ((a - Reg.DMA_CTRL 0) / 32) v
          else s.regStore a v
  | 24 => if a = Reg.FL_CMD then s.flCmd (v.toNat % 4) else if a = Reg.OPT_CMD then s.optCmd v else s.regStore a v
  | 25 => if Reg.TIN_CFG 0 ≤ a && a ≤ Reg.TIN_CFG 3 then s.tinCfgWrite ((a - Reg.TIN_CFG 0) / 4) v else s.regStore a v
  | _ => s.regStore a v

/-- A write of the word at `a` by master `m`, which may make it: a shot-plan word of the active region is discarded (R375); the Tun window and addresses with
nothing behind them ignore it (R373). -/
def State.writeWord (s : State) (m a : Nat) (v : Word) : State :=
  let a := a / 4 * 4
  if blockAt a then s.regWrite m a v
  else if planAt a then (if s.planActive a then s.raise Cause.SCAN_PLAN_BUSY else s.msetW a v)
  else if dspMemAt a then s.msetW a v
  else s

/-! ## Errors that a read meets (R154, R336, R347) -/

/-- The core whose memory `a` lies in. -/
def ownerOf (a : Nat) : Nat := a / 0x80000 % 2

/-- What the code `err` says of half-word `i` of an access, base 4, the first half-word lowest: 0 no error, 1 one that is corrected, 2 one that is not. -/
def errAt (err i : Nat) : Nat := err / 4 ^ i % 4

/-- A bin read through the window at `a` with error `e` (R154). -/
def State.binFound (s : State) (a e : Nat) : State :=
  let n := (a - 0x04000000) / 2
  s.binError n (n / 65536 * 16 + n / 2048 % 16) (decide (n / 32768 % 2 = 1) != s.b Fld.MASH_STAT_BANK) (e = 2)

/-- What the errors of a read of `n` half-words from `a` do: a bin is checked by itself, a DSP memory by words, whose code stands at their first half-word. -/
def State.memErr (s : State) (a n err : Nat) : State :=
  (List.range n).foldl (fun s i =>
    let e := errAt err i
    let x := a / 2 * 2 + 2 * i
    if e = 0 || 2 < e then s
    else if tunAt x then s.binFound x e
    else if dspMemAt x && i % 2 = 0 then (if e = 1 then s.dspCe (ownerOf x) (x / 4 * 4) else s.dspUe (ownerOf x) (x / 4 * 4))
    else s) s

/-- A word of a read of `n` half-words from a DSP memory has an uncorrectable error. -/
def memUe (a n err : Nat) : Bool := dspMemAt a && (List.range n).any (fun i => i % 2 = 0 && errAt err i = 2)

/-! ## Accesses of masters 1 to 8 -/

/-- A word read by master `m`: a frozen master makes none, and one that breaks a rule freezes (R19). -/
def State.busRead (s : State) (m a : Nat) : State × Option Word :=
  if s.frozen m then (s, none)
  else if s.breaks m a false != 0 then (s.freeze m a (s.breaks m a false) false, none)
  else let r := s.readWord a; (r.1, some r.2)

/-- A word write by master `m`. -/
def State.busWrite (s : State) (m a : Nat) (v : Word) : State :=
  if s.frozen m then s
  else if s.breaks m a true != 0 then s.freeze m a (s.breaks m a true) true
  else s.writeWord m a v

/-- A half-word read by master `m` (R374): the addressed half, with the side effects of a word read. -/
def State.busReadHalf (s : State) (m a : Nat) : State × Option (BitVec 16) :=
  let r := s.busRead m (a / 2 * 2)
  (r.1, r.2.map (fun w => w.extractLsb' (16 * (a / 2 % 2)) 16))

/-- A half-word write by master `m` (R374): stored in a DSP memory; elsewhere discarded, which a CASK word records while the Cask is sealed (R6, R325). The windows and R18 are checked first; an RWL word of a register block
is no reason for a freeze here (Table 19.2; DEDUCED, assumption log 22). -/
def State.busWriteHalf (s : State) (m a : Nat) (v : BitVec 16) : State :=
  if s.frozen m then s else
  let b := s.breaks m a true
  let b := if blockAt a then b - (if rwlAt a then 2 else 0) else b
  if b != 0 then s.freeze m a b true
  else if dspMemAt a then s.msetH (a / 2 * 2) v
  else if m = 1 && s.dev != .service && (regAt a).any (fun r => r.cask != 0) then s.caskRefuse
  else s

/-! ## Rows of single registers -/

/-- Row REGISTER_WRITE: master `m` writes `v` to the word at `a` (R6, R19). The AMP agent (7) makes only accesses that break no rule (R293); the
LOADER (0) writes in BOOT only, through the image (R67), and no master writes then; in PARK they are stopped with CCLK (R13). -/
def execRegisterWrite (m a : Nat) (v : Word) (s : State) : Out :=
  if m = 0 || 8 < m || s.dev = .boot || s.dev = .park then .next s
  else if m = 7 && s.breaks m a true != 0 then .next s
  else .next (s.busWrite m a v)

/-- Row MASH_SNAPCTL_ARM: MASH_SNAPCTL is written with ARM = 1 and CH = `ch` (R170). -/
def execMashSnapctlArm (ch : Nat) (s : State) : Out := .next (s.setF Fld.MASH_SNAPCTL_CH ch).snapArm

/-- Row RX_CAPCTL_ARM: ARM of RX_CAPCTL is written 1 (R151). -/
def execRxCapctlArm (s : State) : Out := .next s.capArm

/-- Row TIN_CFG_WRITE: TIN_CFGn is written (R145). -/
def execTinCfgWrite (n : Nat) (v : Word) (s : State) : Out := .next (if n < 4 then s.tinCfgWrite n v else s)

/-- Row WORT_ANCH_SHI_WRITE: WORT_ANCH_SHI is written (R207). -/
def execWortAnchShiWrite (v : Word) (s : State) : Out := .next (s.anchShi v)

/-! ## DMA (R349) -/

/-- The address of transfer `i` of a DMA engine from `a`, counting up if `inc`. -/
def dmaAddr (a : Nat) (inc : Bool) (i : Nat) : Nat := (a / 4 * 4 + if inc then 4 * i else 0) % 2 ^ 32

/-- A word read by a DMA engine with the errors `err` of its halves: a word that cannot be corrected reads as a free value. -/
def State.dmaRead (s : State) (m a err : Nat) : State × Option Word :=
  if s.frozen m || s.breaks m a false != 0 then s.busRead m a else
  let r := (s.memErr a 2 err).busRead m a
  if memUe a 2 err then (r.1.fresh.2, r.2.map (fun _ => Config.badWord r.1.fresh.1)) else r

/-- The transfers of a DMA engine, in ascending order, until the engine freezes; `errs` are the errors of the words they read. -/
def State.dmaMove (s : State) (m : Nat) (j : DmaSt) : Nat → Nat → List Nat → State
  | 0, _, _ => s
  | n + 1, i, errs =>
    let r := s.dmaRead m (dmaAddr j.src j.srcInc i) (errs.headD 0)
    match r.2 with
    | none => r.1
    | some w =>
      let s := r.1.busWrite m (dmaAddr j.dst j.dstInc i) w
      if s.frozen m then s else State.dmaMove s m j n (i + 1) (errs.drop 1)

/-- Row DMA_DONE: engine `n` has made its transfers; frozen on the way, it neither goes on nor sets DONE (R349, R360).
`errs` are the errors of the words read, in order (R154). In PARK it stands (R13). -/
def execDmaDone (n : Nat) (s : State) (errs : List Nat := []) : Out :=
  match SMap.get (fun _ => (none : Option DmaSt)) s.dma n with
  | none => .next s
  | some j =>
    if 4 ≤ n || s.frozen (3 + n) || s.dev = .park then .next s else
    let s := s.dmaMove (3 + n) j j.n 0 errs
    if s.frozen (3 + n) then .next s else
    let s : State := s.withDma (SMap.set (fun _ => (none : Option DmaSt)) s.dma n none)
    let s := (s.setB (Fld.DMA_CTRL_BUSY n) false).setB (Fld.DMA_CTRL_DONE n) true
    .next (if s.b (Fld.DMA_CTRL_IRQ n) then s.line 1 (12 + n) else s)

end Sys2Proof.Machine
end

