-- ==== Sys2Proof/Machine/Amp.lean ====
section
/-!
DEFINITION. The AMP agent (chapter 14): arrival and admission of requests, the order of execution, replies, and the commands of Table 14.4.
-/
namespace Sys2Proof.Machine

/-! ## Messages (R286) -/

/-- CMD of a message. -/
def ampCmd (m : List Byte) : Nat := at8 m 1

/-- Payload of a message. -/
def ampPay (m : List Byte) : List Byte := m.drop 12

/-- A little-endian word of a list of bytes. -/
def le32 (l : List Byte) (o : Nat) : Nat := (bytesW l o).toNat

/-- TAG and CMD are those of the request `r`. -/
def sameTag (a b : List Byte) : Bool := ampCmd a = ampCmd b && le16 a 2 = le16 b 2

/-- A reply to `r` (Table 14.2): TAG, CMD and SESSION of the request come back. -/
def ampReply (r : List Byte) (status : Nat) (pay : List Byte) : List Byte :=
  [1, BitVec.ofNat 8 (ampCmd r), BitVec.ofNat 8 (at8 r 2), BitVec.ofNat 8 (at8 r 3), BitVec.ofNat 8 pay.length, BitVec.ofNat 8 (pay.length / 256),
   BitVec.ofNat 8 status, 1] ++ wordBytes (bytesW r 8) ++ pay

/-! ## Replies (R285, R287, R289) -/

/-- Words of a message padded to a whole word. -/
def padWords (m : List Byte) : List Word := (List.range ((m.length + 3) / 4)).map (fun i => bytesW m (4 * i))

/-- A reply goes to the source of its request and is kept for a retry (R289); it is lost with its carrier (Table 14.11). -/
def State.ampSend (s : State) (r : AmpReq) (m : List Byte) : State :=
  let s := s.withAmp { s.amp with kept := (s.amp.kept.filter (fun (p : AmpSrc × List Byte) => p.1 != r.src)) ++ [(r.src, m)] }
  match r.src with
  | .eth ip =>
    let up := s.b (Fld.ETH_STAT_LINK r.port) || (s.prpActive && (s.b (Fld.ETH_STAT_LINK 0) || s.b (Fld.ETH_STAT_LINK 1)))
    if !up then s else
    let s := if s.resolved r.port ip.toNat then s else s.arpAsk r.port (s.nextHop r.port ip.toNat)
    s.ethSend r.port { cls := 4, body := .udp ip (s.ampPort r.port).1 r.sport (s.f (Fld.ETH_DSCP_AMP (s.ethOf r.port))) m }
  | .dwl => s.sidePush r.port (padWords m)
  | .mspi => ((s.withAmp { s.amp with reply := some m }).withRst { s.rst with ampReadyMs := s.ms }).raise Cause.AMP_MSPI_RDY

/-- A request is answered with `status` and `pay`. -/
def State.ampAnswer (s : State) (r : AmpReq) (status : Nat) (pay : List Byte) : State :=
  let s := if status = 6 then s.incSat Fld.AMP_CNT2_WRONGST 1 else s
  s.ampSend r (ampReply r.msg status pay)

/-- The kept reply that answers a request (R289). -/
def State.keptFor (s : State) (r : AmpReq) : Option (List Byte) :=
  (s.amp.kept.find? (fun (p : AmpSrc × List Byte) => p.1 = r.src && sameTag p.2 r.msg)).map (·.2)

/-! ## Execution order (R289) -/

/-- The agent executes: CCLK runs, the device is neither in PARK nor on its way in, the agent is not frozen, and no reply waits for its log entry. -/
def State.ampRuns (s : State) : Bool :=
  s.b Fld.CLK_STATUS_PLLB_LOCK && s.dev != .park && !s.pins.parkTest && !s.frozen 7 && s.amp.busy.isNone

/-- The command codes of Table 14.4. -/
def ampKnown (c : Nat) : Bool := c = 1 || c = 2 || c = 3 || (0x10 ≤ c && c ≤ 0x13) || c = 0x20 || c = 0x21 || c = 0x30

/-- The request bears the open Guard session (R294). -/
def State.ampBears (s : State) (r : AmpReq) : Bool :=
  match s.amp.sess with
  | none => false
  | some x => x.id = bytesW r.msg 8 && x.src = r.src

/-- A request that no command of its own executes, and its answer: malformed, an unknown command, or a GUARD_CHANGE whose OP is none of Table 14.4. -/
def State.ampStray (s : State) (r : AmpReq) : Option Nat :=
  if r.bad then some 1
  else if !ampKnown (ampCmd r.msg) then some 2
  else if ampCmd r.msg = 0x21 && ((ampPay r.msg).length < 4 || 3 < at8 r.msg 12) then
    some (if s.dev != .idle then 6 else if s.ampBears r then 3 else 5)
  else none

/-- Strays at the head of the queue are answered (R286, R290). -/
def State.ampSettle : Nat → State → State
  | 0, s => s
  | n + 1, s =>
    if !s.ampRuns then s else
    match s.amp.queue with
    | [] => s
    | r :: q =>
      match s.ampStray r with
      | none => s
      | some st =>
        let s := s.withAmp { s.amp with queue := q }
        State.ampSettle n (match if r.bad then none else s.keptFor r with
          | some m => s.ampSend r m
          | none => s.ampAnswer r st [])

/-- The agent goes on to the next request that a command executes. -/
def State.ampGo (s : State) : State := State.ampSettle s.amp.queue.length s

/-- Row PARK_EXIT: PLLB has relocked after a valid AMP message; the device is in IDLE, or in SAFE where a cause arose meanwhile, and the agent handles the message (R13,
R59). -/
def execParkExit (s : State) : Out :=
  if s.dev = .park && s.parkWake then
    let s := (s.withParkWake false).withPins { s.pins with parkIrq := none }
    let s := ((s.setB Fld.CLK_STATUS_PLLB_LOCK true).eyeRestart).toState .idle
    let s : State := [0, 1].foldl (fun s c => if (s.core c).mode = 5 then s.coreStart c 2 else s) s
    if s.f Fld.AMP_STATE_SAFE_CAUSE != 0 then
      .next ((s.logEvent 0x0040 (BitVec.ofNat 32 (s.f Fld.AMP_STATE_SAFE_CAUSE)) 0).toState .safe).ampGo
    else .next s.ampGo
  else .next s

/-! ## Arrival and admission (R286, R288, R289) -/

/-- A request is dropped (R288). -/
def State.ampDrop (s : State) (counter : Fld) : State := (s.incSat counter 1).raise Cause.AMP_DROP

/-- The source is a UDP source of the table. -/
def ampUdp : AmpSrc → Bool
  | .eth _ => true
  | _ => false

/-- A request enters the queue, within the window of its source (R288). -/
def State.ampAdmit (s : State) (r : AmpReq) : State :=
  let known := s.amp.wins.any (fun w => w.src = r.src)
  let w := (s.amp.wins.find? (fun w => w.src = r.src)).getD { src := r.src, count := 0, start := s.ms }
  if !known && ampUdp r.src && 16 ≤ (s.amp.wins.filter (fun w => ampUdp w.src)).length then s.ampDrop Fld.AMP_CNT1_NOSRC
  else if 256 ≤ w.count then s.ampDrop Fld.AMP_CNT0_RATE
  else
    let full := decide (32 ≤ s.amp.queue.length)
    let s := s.withAmp { s.amp with wins := s.amp.wins.filter (fun w => w.src != r.src) ++ [if full then w else { w with count := w.count + 1 }] }
    if full then s.ampDrop Fld.AMP_CNT0_QUEUE
    else (s.withAmp { s.amp with queue := s.amp.queue ++ [r] }).ampGo

/-- A message arrives at the agent (R286): what is no request is discarded, a malformed one counted, and a request that repeats one queued or executing discarded. -/
def State.ampArrive (s : State) (src : AmpSrc) (port sport : Nat) (m : List Byte) : State :=
  if ampNone m then s.incSat Fld.AMP_CNT1_BADFMT 1 else
  let bad := ampBad m
  let s := if bad then s.incSat Fld.AMP_CNT1_BADFMT 1 else s
  let live := s.amp.queue ++ s.amp.busy.toList
  if !bad && live.any (fun q => !q.bad && q.src = src && sameTag q.msg m) then s
  else if bad && s.dev = .park then s
  else s.ampAdmit { src := src, port := port, sport := sport, bad := bad, msg := m }

/-- Row AMP_ETH_DATAGRAM: the agent takes the oldest AMP datagram of port `p`'s queue Q1 (R285, Table 13.3). One that the queue's parity finds damaged (`par`) is discarded and
counted among the queue's drops (R361; DESIGN CHOICE, log 101: the counter). -/
def execAmpEthDatagram (p : Nat) (s : State) (par : Bool := false) : Out :=
  let x := s.eth p
  if 2 ≤ p || s.dev = .park || s.pins.parkTest then .next s else
  match x.q1 with
  | [] => .next s
  | slot :: q =>
    let s := (s.setEth p { x with q1 := q }).qstat p
    if par then .next ((s.incSat (Fld.ETH_CNT_DROP_Q1 p) 1).raise (Cause.ETH_QDROP p)) else
    let fr := slot.drop 12
    let ip := 14 + if at16 fr 12 = 0x8100 then 4 else 0
    .next (s.ampArrive (.eth (BitVec.ofNat 32 (at32 fr (ip + 12)))) p (at16 fr (ip + 20)) (udpPayload fr ip))

/-- The message in the words of a SIDEBAND frame: the padding of a whole frame is dropped (Table 14.1). -/
def sideMsg (b : List Byte) : List Byte :=
  let n := 12 + le16 b 4
  if n ≤ b.length && b.length < n + 4 && (b.drop n).all (· = 0) then b.take n else b

/-- A valid AMP message in PARK, or during the pin test at its entry, restarts the PLLs (R13, R35). -/
def State.ampWake (s : State) (m : List Byte) : State :=
  if (s.dev = .park || s.pins.parkTest) && !ampNone m && !ampBad m then s.withParkWake true else s

/-- Row AMP_DWL_SIDEBAND: a SIDEBAND frame of KIND 0x01 comes in on DWL lane `lane` (0 or 1); a wrong CRC discards and counts it (R215, R285).
The lane is one that DWL uses, and aligned (R13, R217). -/
def execAmpDwlSideband (lane : Nat) (ws : List Word) (crcOk : Bool) (s : State) : Out :=
  if !s.dwlUp || !s.dwlLanes.contains lane || !s.dwlAligned lane || s.dev = .boot then .next s
  else if !crcOk then .next ((s.raise Cause.DWL_RX_CRC).incSat Fld.DWL_CNT_RXBAD 1)
  else if !s.b Fld.AMP_CFG_DWL then .next s
  else
    let m := sideMsg (ws.flatMap wordBytes)
    .next ((s.ampWake m).ampArrive .dwl lane 0 m)

/-- The MSPI request buffer is free: no request of the MSPI waits or executes (R287). -/
def State.rxFree (s : State) : Bool := !((s.amp.queue ++ s.amp.busy.toList).any (fun q => q.src = .mspi))

/-- The MSPI runs: MSPI_EN = 1, and CCLK runs or the management receiver does (R13, R58, Table 14.1). -/
def State.mspiOn (s : State) : Bool := s.b Fld.TOP_STRAP_MSPI_EN && (s.b Fld.CLK_STATUS_PLLB_LOCK || s.dev = .park)

/-- Row MSPI_WRITE: a WRITE transaction with message `m` and CRC word `crc` ends (R287). -/
def execMspiWrite (m : List Byte) (crc : Word) (s : State) : Out :=
  if !s.mspiOn then .next s
  else if !s.rxFree || m.length != 12 + le16 m 4 || crc != crc32 m then .next (s.incSat Fld.AMP_CNT2_MSPIBAD 1)
  else .next ((s.ampWake m).ampArrive .mspi 0 0 m)

/-- Row MSPI_READ: a READ transaction ends; `all` says that every byte of the reply and its CRC was clocked out, which frees the reply buffer (R287). -/
def execMspiRead (all : Bool) (s : State) : Out :=
  .next (if s.mspiOn && all then s.withAmp { s.amp with reply := none } else s)

/-- The MSPI status byte (R287). -/
def State.mspiStatus (s : State) : Byte := BitVec.ofNat 8 (s.rxFree.toNat + 2 * s.amp.reply.isSome.toNat + 16 * s.dev.code)

/-- Row MSPI_STATUS: a STATUS transaction shows the status byte and changes nothing (R287). -/
def execMspiStatus (s : State) : Out := .next s

/-- Row AMP_WINDOW_END: the window of a source ends with its 1000th ms tick, and its entry is free (R288). -/
def execAmpWindowEnd (src : AmpSrc) (s : State) : Out :=
  .next (s.withAmp { s.amp with wins := s.amp.wins.filter (fun w => w.src != src || decide (s.ms < w.start + 1000)) })

/-! ## One command at a time -/

/-- The agent executes the request at the head of its queue if its command is `cmd`: a request already answered has its kept reply sent again; `legal` is
Table 14.5; `body` answers the others. -/
def State.ampExec (s : State) (cmd : Nat) (legal : AmpReq → Bool) (body : State → AmpReq → State) : Out :=
  if !s.ampRuns then .next s else
  match s.amp.queue with
  | [] => .next s
  | r :: q =>
    if ampCmd r.msg != cmd || (s.ampStray r).isSome then .next s else
    let s := s.withAmp { s.amp with queue := q }
    match s.keptFor r with
    | some m => .next (s.ampSend r m).ampGo
    | none => .next ((if legal r then body s r else s.ampAnswer r 6 []).ampGo)

/-- The device is in one of the states `l`. -/
def State.devIn (s : State) (l : List Dev) : Bool := l.contains s.dev

/-- The payload of the replies of START, STOP and PARK. -/
def State.statePay (s : State) : List Byte := [BitVec.ofNat 8 s.dev.code, BitVec.ofNat 8 (s.f Fld.AMP_STATE_PEND_START), 0, 0]

/-! ## GET and SET (R292, R293) -/

/-- A word the agent may read: within its windows, or the fixed window without an image, and outside the Cask region; in BOOT, TOP and RST (R58, R293). -/
def State.ampCanRead (s : State) (a : Nat) : Bool :=
  if s.dev = .boot then a < 0x20000
  else !caskRegion a && (if s.noImage then decide (a < 0x1B0000) else s.windowOk 7 a false)

/-- The bits of the word at `a` that a SET may change: RW, W1C and WO fields; memory words whole. -/
def setBits (a : Nat) : Word :=
  if blockAt a then (match findReg a with | some r => r.rw ||| r.w1c ||| r.wo | none => 0)
  else if planAt a || (dspMemAt a && !progAt a) then 0xFFFFFFFF else 0

/-- The RW bits of the word. -/
def rwBits (a : Nat) : Word :=
  if blockAt a then (match findReg a with | some r => r.rw | none => 0) else if planAt a || dspMemAt a then 0xFFFFFFFF else 0

/-- A triple that the agent may write (R293). -/
def State.ampCanWrite (s : State) (a : Nat) (mask : Word) : Bool :=
  !caskRegion a && !guardRegion a && (if s.noImage then decide (0x180000 ≤ a) && decide (a < 0x190000) else s.windowOk 7 a true) && mask &&& ~~~(if s.afeRlRo a then 0 else setBits a) = 0

/-- A triple whose register's own state condition is not met (R292). -/
def State.ampCond (s : State) (a : Nat) (mask : Word) : Bool :=
  (a = Reg.FL_CMD && mask &&& 3 != 0 && !s.flAccepts) || (a = Reg.OPT_CMD && mask != 0 && !s.flAccepts)
    || (a = Reg.EMIT_LOSTCLR && mask != 0 && s.dev != .idle) || (a = Reg.RX_CAL && mask.getLsbD 0 && s.dev != .idle)

/-- The reads of a GET in ascending address, with the errors `errs` of the words (R154), up to a word that meets an uncorrectable memory error. -/
def State.ampReads : Nat → State → Nat → List Nat → State × List Byte × Bool
  | 0, s, _, _ => (s, [], false)
  | n + 1, s, a, errs =>
    let e := if blockAt a then 0 else errs.headD 0
    let s := s.memErr a 2 e
    if errAt e 0 = 2 || errAt e 1 = 2 then (s, [], true) else
    let r := s.readWord a
    let t := State.ampReads n r.1 (a + 4) (errs.drop 1)
    (t.1, wordBytes r.2 ++ t.2.1, t.2.2)

/-- GET. -/
def State.ampGet (s : State) (r : AmpReq) (errs : List Nat) : State :=
  let p := ampPay r.msg
  let a := le32 p 0
  let n := le16 p 4
  if p.length != 8 || a % 4 != 0 || n < 1 || 252 < n || 2 ^ 32 < a + 4 * n then s.ampAnswer r 3 []
  else if !(List.range n).all (fun i => s.ampCanRead (a + 4 * i)) then s.ampAnswer r 4 []
  else
    let t := State.ampReads n s a errs
    t.1.ampAnswer r (if t.2.2 then 0xA else 0) t.2.1

/-- Row GET: the request at the head of the queue reads registers; `errs` are the memory errors of its words, in order (R154, R290, R293). In BOOT it is legal over MSPI, for TOP and RST (Table 14.5). -/
def execGet (errs : List Nat) (s : State) : Out :=
  s.ampExec 1 (fun r => s.devIn [.idle, .scan, .safe, .service] ||
      (s.dev = .boot && r.src = .mspi && decide (le32 (ampPay r.msg) 0 + 4 * le16 (ampPay r.msg) 4 ≤ 0x20000)))
    (fun s r => s.ampGet r errs)

/-- The triples of a SET. -/
def setTriples (p : List Byte) (n : Nat) : List (Nat × Word × Word) :=
  (List.range n).map (fun i => (le32 p (4 + 12 * i), bytesW p (8 + 12 * i), bytesW p (12 + 12 * i)))

/-- One write of a SET (R293). -/
def State.ampPut (s : State) (t : Nat × Word × Word) : State :=
  s.writeWord 7 t.1 ((s.wordAt t.1 &&& ~~~t.2.1 &&& rwBits t.1) ||| (t.2.2 &&& t.2.1))

/-- SET. -/
def State.ampSet (s : State) (r : AmpReq) : State :=
  let p := ampPay r.msg
  let n := le16 p 0
  let ts := setTriples p n
  if n < 1 || 84 < n || p.length != 4 + 12 * n || ts.any (fun t => decide (t.1 % 4 ≠ 0)) then s.ampAnswer r 3 []
  else if ts.any (fun t => s.ampCond t.1 t.2.1) then s.ampAnswer r 6 []
  else if ts.any (fun t => !s.ampCanWrite t.1 t.2.1) then s.ampAnswer r 4 []
  else
    let s := ts.foldl State.ampPut s
    s.ampAnswer r 0 [BitVec.ofNat 8 n, 0, BitVec.ofNat 8 s.dev.code, 0]

/-- Row SET (R292, R293). -/
def execSet (s : State) : Out := s.ampExec 2 (fun _ => s.devIn [.idle, .scan, .safe, .service]) State.ampSet

/-! ## LOG_READ and CASK_INFO (R290) -/

/-- LOG_READ. -/
def State.ampLog (s : State) (r : AmpReq) : State :=
  let p := ampPay r.msg
  if p.length != 4 || 1 < at8 p 0 then s.ampAnswer r 3 [] else
  let first := le16 p 2
  let es := (((if at8 p 0 = 0 then s.nvm.log else s.nvm.chLog).drop first).take 31)
  s.ampAnswer r 0 ([BitVec.ofNat 8 first, BitVec.ofNat 8 (first / 256), BitVec.ofNat 8 es.length, 0] ++ es.flatten.flatMap wordBytes)

/-- Row LOG_READ. -/
def execLogRead (s : State) : Out := s.ampExec 3 (fun _ => s.devIn [.idle, .scan, .safe, .service]) State.ampLog

/-- CASK_INFO. -/
def State.ampCask (s : State) (r : AmpReq) : State :=
  if !(ampPay r.msg).isEmpty then s.ampAnswer r 3 [] else
  s.ampAnswer r 0 (s.caskSha.take 4 ++ s.caskSha ++ wordBytes s.caskMec ++ [BitVec.ofNat 8 s.pins.sealedLow.toNat, BitVec.ofNat 8 s.dev.code, 0, 0])

/-- Row CASK_INFO: legal in every state. -/
def execCaskInfo (s : State) : Out := s.ampExec 0x30 (fun _ => true) State.ampCask

/-! ## START, STOP, PARK, RESET (R46, R291, R296) -/

/-- START: in IDLE PEND_START sets, and the session ends (Table 15.6); in SCAN it has no effect. -/
def State.ampStart (s : State) (r : AmpReq) : State :=
  if !(ampPay r.msg).isEmpty then s.ampAnswer r 3 [] else
  let s := if s.dev = .idle then s.endSession.setB Fld.AMP_STATE_PEND_START true else s
  s.ampAnswer r 0 s.statePay

/-- Row START. -/
def execStart (s : State) : Out := s.ampExec 0x10 (fun _ => s.devIn [.idle, .scan]) State.ampStart

/-- STOP: PEND_START clears; SCAN ends at the next column boundary, IDLE becomes SERVICE, and SERVICE becomes IDLE. -/
def State.ampStop (s : State) (r : AmpReq) : State :=
  let p := ampPay r.msg
  if p.length != 4 || 1 < at8 p 0 then s.ampAnswer r 3 []
  else
    let tgt := at8 p 0
    if tgt = 1 && s.dev != .service && s.pins.sealedLow then s.ampAnswer r 9 []
    else
      let s := s.setB Fld.AMP_STATE_PEND_START false
      let s := match s.dev with
        | .scan => s.withScan { s.scan with leave := 1 + tgt }
        | .idle => if tgt = 1 then s.toState .service else s
        | .service => if tgt = 0 then s.toState .idle else s
        | _ => s
      let s := s.pllaFollow
      s.ampAnswer r 0 s.statePay

/-- Row STOP. -/
def execStop (s : State) : Out := s.ampExec 0x11 (fun _ => s.devIn [.idle, .scan, .service]) State.ampStop

/-- PARK: PEND_START and AUTOSTART clear, and PARK entry is asked for. -/
def State.ampPark (s : State) (r : AmpReq) : State :=
  if !(ampPay r.msg).isEmpty then s.ampAnswer r 3 [] else
  let s := (if s.dev = .idle then s.endSession else s).setB Fld.AMP_STATE_PEND_START false
  let s := (s.withRst { s.rst with autostart := false }).withScan { s.scan with leave := 3 }
  s.ampAnswer r 0 s.statePay

/-- Row PARK. -/
def execPark (s : State) : Out := s.ampExec 0x12 (fun _ => s.devIn [.idle, .scan]) State.ampPark

/-- The target that a TARGET code names (Table 14.4). -/
def resetTarget (t : Nat) : Option L2Target :=
  if t < 0x40 then some (.cluster t) else if t = 0x40 then some (.dsp 0) else if t = 0x41 then some (.dsp 1)
  else if 0x42 ≤ t && t ≤ 0x45 then some (.dma (t - 0x42)) else if t = 0x48 then some (.eth 0) else if t = 0x49 then some (.eth 1)
  else if t = 0x4A then some .dwl else none

/-- The level that an AMP RESET performs (R46): the shallower of the command's and fuse field 5; a level L2 without a target is level L3. -/
def State.ampLevel (s : State) (level tgt : Nat) : Nat :=
  let l := max level (s.f Fld.RST_FUSE_MAP / 2 ^ 10 % 4)
  if l = 2 && (resetTarget tgt).isNone then 3 else l

/-- RESET: its reply reports the level; the reset follows the reply. -/
def State.ampResetCmd (s : State) (r : AmpReq) : State :=
  let p := ampPay r.msg
  if p.length != 4 || 3 < at8 p 0 then s.ampAnswer r 3 [] else
  let l := s.ampLevel (at8 p 0) (at8 p 1)
  let s := s.withRst { s.rst with ampReset := some (l, resetTarget (at8 p 1)) }
  s.ampAnswer r 0 [BitVec.ofNat 8 l, BitVec.ofNat 8 (at8 p 1), 0, 0]

/-- Row RESET. -/
def execReset (s : State) : Out := s.ampExec 0x13 (fun _ => s.devIn [.idle, .scan, .safe, .service]) State.ampResetCmd

/-- A message is a reply to RESET. -/
def isResetReply (m : List Byte) : Bool := ampCmd m = 0x13 && at8 m 7 % 2 = 1

/-- The reply of a RESET has left (R46): no port, lane or buffer holds one; over MSPI 100 ms ticks suffice. -/
def State.resetReplyGone (s : State) : Bool :=
  let eth (p : Nat) : Bool := ((s.eth p).wait ++ (s.eth p).cur.toList).any (fun f => match f.body with | .udp _ _ _ _ m => isResetReply m | _ => false)
  let dwl : Bool := s.dwl.side.any (fun q => isResetReply (q.2.flatMap wordBytes)) || s.dwl.prog.any (fun f => f.chan = 2 && isResetReply ((f.words.drop 1).flatMap wordBytes))
  let mspi : Bool := (match s.amp.reply with | some m => isResetReply m | none => false) && decide (s.ms < s.rst.ampReadyMs + 100)
  !eth 0 && !eth 1 && !dwl && !mspi

/-- Row AMP_RESET_EFFECT: the reply of a RESET has left, and source AMP is raised (R46). -/
def execAmpResetEffect (s : State) : Out := .next (if s.rst.ampReset.isSome && s.resetReplyGone then s.raiseReset 5 else s)

/-! ## AUTH and GUARD_CHANGE (R294, R318, R319) -/

/-- UID, PLEN and password of an AUTH are in range (Table 14.4). -/
def authOk (p : List Byte) : Bool :=
  let n := at8 p 1
  at8 p 0 != 0 && 8 ≤ n && n ≤ 32 && 4 + n ≤ p.length && p.length ≤ 36 && ((p.drop 4).take n).all (fun b => decide (0x21 ≤ b.toNat) && decide (b.toNat ≤ 0x7E))
    && (p.drop (4 + n)).all (· = 0)

/-- An enabled entry of the password store has the user and the password (R318, Table 15.7). -/
def State.pwMatch (s : State) (uid : Nat) (pw : List Byte) : Bool :=
  (List.range 8).any (fun u =>
    let w (i : Nat) : Word := s.rget (Reg.GUARD_PW u i)
    (w 0).getLsbD 31 && decide ((w 0).toNat % 256 = uid) &&
      decide (sha256 (([1, 2, 3].flatMap (fun i => wordBytes (w i))) ++ pw) = (List.range 8).flatMap (fun i => wordBytes (w (4 + i)))))

/-- AUTH. -/
def State.ampAuth (s : State) (r : AmpReq) : State :=
  let p := ampPay r.msg
  if !authOk p then s.ampAnswer r 3 []
  else if s.amp.locked then s.ampAnswer r 8 []
  else if (match s.amp.sess with | some x => x.src != r.src | none => false) then s.ampAnswer r 7 []
  else if s.pwMatch (at8 p 0) ((p.drop 4).take (at8 p 1)) then
    let s := s.endSession
    let v := Config.ampSession s.fresh.1
    let s := s.fresh.2
    let id := if v = 0 then 1 else v
    let s := s.withAmp { s.amp with sess := some { id := id, src := r.src, uid := at8 p 0, last := s.ms }, fails := 0 }
    s.ampAnswer r 0 (wordBytes id)
  else
    let n := s.amp.fails + 1
    let s := s.withAmp { s.amp with fails := n, locked := decide (5 ≤ n), lockMs := s.ms }
    let s := (s.raise Cause.AMP_AUTH_FAIL).raiseIf (decide (5 ≤ n)) Cause.AMP_LOCKOUT
    s.ampAnswer r 5 []

/-- Row AUTH: legal in IDLE. -/
def execAuth (s : State) : Out := s.ampExec 0x20 (fun _ => s.devIn [.idle]) State.ampAuth

/-- The change-log entry of an abort waits to be written: the next BEGIN waits (R319). -/
def State.changePending (s : State) : Bool :=
  (s.nvm.work ++ s.nvm.cur.toList).any (fun w => match w with | .change _ => true | _ => false)

/-- A GUARD_CHANGE with operation `op` at the head of the queue: the session is checked, then the order of the operations. -/
def State.ampChange (s : State) (op : Nat) (inOrder : Bool) (body : State → AmpReq → Nat → State) : Out :=
  match s.amp.queue with
  | [] => .next s
  | r :: _ =>
    if at8 r.msg 12 != op then .next s else
    s.ampExec 0x21 (fun _ => s.devIn [.idle]) (fun s r =>
      if !s.ampBears r then s.ampAnswer r 5 [] else
      let s := s.withAmp { s.amp with sess := s.amp.sess.map (fun x => { x with last := s.ms }) }
      if s.b Fld.GUARD_STAT_CHANGE_OPEN != inOrder || (op != 1 && (ampPay r.msg).length != 4) then s.ampAnswer r 3 []
      else body s r ((s.amp.sess.map (·.uid)).getD 0))

/-- Row GUARD_CHANGE_BEGIN: waits while an abort's entry is still to be written. -/
def execGuardChangeBegin (s : State) : Out :=
  if s.changePending then .next s else s.ampChange 0 false (fun s r _ => s.changeBegin.ampAnswer r 0 [])

/-- The words of payload records (Table 4.5): address and value of each write; none if a record is malformed. -/
def recordWords : Nat → List Word → Option (List (Nat × Word))
  | _, [] => some []
  | 0, _ => none
  | n + 1, a :: k :: l =>
    let cnt := k.toNat % 2 ^ 24
    let kind := k.toNat / 2 ^ 24
    let need := if kind = 0 then cnt else 1
    if 1 < kind || cnt = 0 || a.toNat % 4 != 0 || l.length < need then none
    else
      let ws := (List.range cnt).map (fun i => (a.toNat + 4 * i, l.getD (if kind = 0 then i else 0) 0))
      (recordWords n (l.drop need)).map (ws ++ ·)
  | _ + 1, _ => none

/-- A record's word lies in the GUARD block or the field map (R294). -/
def changeMay (a : Nat) : Bool := guardRegion a

/-- The DATA operation of a GUARD_CHANGE: the records are written, or none of them (R294). -/
def State.changeData (s : State) (r : AmpReq) : State :=
  let p := (ampPay r.msg).drop 4
  if p.length % 4 != 0 then s.ampAnswer r 3 [] else
  match recordWords p.length ((List.range (p.length / 4)).map (fun i => bytesW p (4 * i))) with
  | none => s.ampAnswer r 3 []
  | some ws =>
    if !ws.all (fun w => changeMay w.1) then s.ampAnswer r 4 []
    else (ws.foldl (fun s w => if guardWord w.1 then s.changeWord w.1 w.2 else s.setB Fld.GUARD_STAT_DIRTY true) s).ampAnswer r 0 []

/-- Row GUARD_CHANGE_DATA. -/
def execGuardChangeData (s : State) : Out := s.ampChange 1 true (fun s r _ => s.changeData r)

/-- Row GUARD_CHANGE_COMMIT: the reply follows the log entry (R319). -/
def execGuardChangeCommit (s : State) : Out :=
  s.ampChange 2 true (fun s r uid => ((s.withAmp { s.amp with busy := some r }).changeCommit uid))

/-- Row GUARD_CHANGE_ABORT: the session ends; with an entry to write the reply follows it (R319). -/
def execGuardChangeAbort (s : State) : Out :=
  s.ampChange 3 true (fun s r uid =>
    let t := (s.withAmp { s.amp with sess := none }).changeAbort uid
    if t.2 then (t.1.withAmp { t.1.amp with busy := some r }) else t.1.ampAnswer r 0 [])

/-- Row GUARD_SESSION_TIMEOUT: 60 s without a request that bears the session end it (R294). -/
def execGuardSessionTimeout (s : State) : Out :=
  let ended := match s.amp.sess with | some x => decide (x.last + 60000 ≤ s.ms) | none => false
  .next (if s.amp.busy.isNone && ended then s.endSession else s)

/-- Row AUTH_LOCKOUT_END: the 300,000 ms ticks are over (R294). -/
def execAuthLockoutEnd (s : State) : Out :=
  .next (if s.amp.locked && decide (s.amp.lockMs + 300000 ≤ s.ms) then s.withAmp { s.amp with locked := false, fails := 0 } else s)

end Sys2Proof.Machine
end

