-- ==== Sys2Proof/Machine/Nvm.lean ====
section
/-!
DEFINITION. The internal NVM: what a completed write leaves in it, and what its completion lets go on (R39, R319, R321, R326, R363, R364).
-/
namespace Sys2Proof.Machine

/-- The COUNT that follows `c` in either log: 0 never appears in an entry (R321, R363). -/
def nextCount (c : Word) : Word := if c = 0xFFFFFFFF then 1 else c + 1

/-- An entry of either log: COUNT, words 1-6 and CHECK (Tables 15.5, 18.5). -/
def logEntry (count : Word) (ws : List Word) : List Word := count :: ws ++ [crc32 ((count :: ws).flatMap wordBytes)]

/-- A ring of `n` entries, oldest first, after one more (R321, R363). -/
def ringPut (n : Nat) (l : List (List Word)) (e : List Word) : List (List Word) := (l ++ [e]).drop (l.length + 1 - n)

/-- What a completed write leaves in the NVM. -/
def Nvm.store (n : Nvm) (w : NvmWrite) : Nvm :=
  match w with
  | .event ws => { n with log := ringPut 1024 n.log (logEntry (nextCount n.logCount) ws), logCount := nextCount n.logCount }
  | .change ws => { n with chLog := ringPut 256 n.chLog (logEntry (nextCount n.chCount) ws), chCount := nextCount n.chCount }
  | .loss m d => { n with lossMask := m, lossDead := d }
  | .option p => { n with optPage := p }
  | .mec _ => { n with mec := if n.mec = 0xFFFFFFFF then n.mec else n.mec + 1 }
  | .seqBase v => { n with seqBase := v }

/-- The reply of a COMMIT or ABORT that waited for its log entry (R319, Table 14.4). -/
def State.changeReply (s : State) : State :=
  match s.amp.busy with
  | none => s
  | some r =>
    let s := s.withAmp { s.amp with busy := none }
    if at8 r.msg 12 = 2 then
      let pay := wordBytes s.guard.before ++ wordBytes (s.rget Reg.GUARD_CRC)
      let s := s.changeCommitted
      ((s.withAmp { s.amp with sess := none }).ampAnswer r 0 pay).ampGo
    else (s.ampAnswer r 0 []).ampGo

/-- What follows the completion of a write: LOG_FLAG, the waiting Guard change, and an APPLY (R326, R364). -/
def State.nvmFollow (s : State) (w : NvmWrite) (wrap : Bool) : State :=
  match w with
  | .event _ => (s.raise Cause.LOG_ENTRY).raiseIf wrap Cause.LOG_WRAP
  | .change _ => if s.changePending then s else s.changeReply
  | _ => s

/-- The write in progress completes. -/
def State.nvmDone (s : State) (w : NvmWrite) : State :=
  let wrap := decide (1024 ≤ s.nvm.log.length)
  let s := s.withNvm { s.nvm with cur := none }
  match w with
  | .mec _ => s.applyDone
  | _ => (s.withNvm (s.nvm.store w)).nvmFollow w wrap

/-- Row NVM_WRITE_DONE: the NVM write in progress ends; `fail` says that its verify failed, so that it is written again at the next free position (R364). -/
def execNvmWriteDone (fail : Bool) (s : State) : Out :=
  match s.nvm.cur with
  | none => .next s
  | some w =>
    if fail then .next ((s.withNvm { s.nvm with cur := none, work := w :: s.nvm.work }).raise Cause.LOG_NVM_ERR).nvmKick
    else .next (s.nvmDone w).nvmKick

end Sys2Proof.Machine
end

