-- ==== Sys2Proof/Machine/Reset.lean ====
section
/-!
DEFINITION. Power and reset (chapter 3): VIN and rails, the 32.768 kHz crystal, the reset sources with their levels and targets, the RST_N pin and
straps.
-/
namespace Sys2Proof.Machine

/-! ## Levels and targets (R45-R47, Table 3.5) -/

/-- The levels a source permits. -/
def permitted (src : Nat) : List Nat :=
  match src with
  | 0 | 12 => [0]
  | 1 | 6 | 10 => [0, 1, 3]
  | 2 => [0, 1]
  | 13 => [1]
  | _ => [0, 1, 2, 3]

/-- The level the fuse table gives a source; one not permitted is performed as the next deeper permitted one (R45). -/
def State.fuseLevel (s : State) (src : Nat) : Nat :=
  let want := if src = 12 then 0 else if src = 13 then 1 else s.f Fld.RST_FUSE_MAP / 2 ^ (2 * src) % 4
  ((permitted src).filter (fun l => decide (l ≤ want))).foldl max 0

/-- The target of a level L2 reset of a source (Table 3.5). -/
def State.l2Targets (s : State) (src : Nat) : List L2Target :=
  match src with
  | 3 | 7 => [.dsp 0]
  | 4 | 8 => [.dsp 1]
  | 9 => ((List.range 4).filter (fun d => s.frozen (3 + d))).map L2Target.dma
  | 11 => [.dwl]
  | _ => []

/-- What a raised source asks for: its level and, at level L2, its targets. Level L2 without a target is level L3 (R46). -/
def State.resetAct (s : State) (src : Nat) : Nat × List L2Target :=
  if src = 5 then
    match s.rst.ampReset with
    | none => (3, [])
    | some (2, some t) => (2, [t])
    | some (2, none) => (3, [])
    | some (l, _) => (l, [])
  else
    let l := s.fuseLevel src
    if l = 2 then (if (s.l2Targets src).isEmpty then (3, []) else (2, s.l2Targets src)) else (l, [])

/-! ## Levels L0 and L1 (R48, Table 3.7, Table 19.3) -/

/-- Registers of the backup domain. -/
def backupReg (a : Nat) : Bool := a = Reg.RST_COUNT || (Reg.RST_BKP 0 ≤ a && a ≤ Reg.RST_BKP 7)

/-- Registers that every level keeps: the backup domain and the always-on registers of chapter 3. -/
def keptReg (a : Nat) : Bool :=
  backupReg a || a = Reg.RST_STATUS || a = Reg.RST_CAUSE || a = Reg.RST_LOAD || a = Reg.RST_PIN || a = Reg.PWR_STATUS || a = Reg.PWR_FAULT || a = Reg.CLK_STATUS

/-- A waiting log entry of the die's hard trip, which R253 writes once NVM writes are allowed. -/
def hotEntry (e : List Word) : Bool := (e.getD 3 0).extractLsb' 16 16 = 0x0022 && e.getD 4 0 = 0

/-- The NVM at a reset (R39, R252): the write in progress completes; what waits is lost, but for the entry of a hard trip that raised the reset. -/
def Nvm.atReset (n : Nvm) (hot : Bool) : Nvm :=
  let n := match n.cur with | some w => n.store w | none => n
  { n with cur := none, work := [], queue := if hot then n.queue.filter hotEntry else [] }

/-- The state after a reset of level L0 or level L1 has asserted: State.reset, but for what Table 3.7 and Table 19.3 keep. `pll` says that PLLA and PLLB keep
running where they are locked, `hot` that the die's hard trip is among its sources. A locked lane PLL runs on through level L1. DESIGN CHOICE (log 71): the start-up
that follows counts failed option loads from 0, those before an interrupted one included. -/
def State.resetTo (s : State) (level : Nat) (pll hot : Bool) : State :=
  let r : RstSt := {
    phase := .held, xt := if level = 0 && s.rst.xt = 2 then 0 else s.rst.xt, rstnLow := s.rst.rstnLow, porDue := false, bkpLost := false,
    railFail := s.rst.railFail, active := s.rst.active, activeSrc := s.rst.activeSrc }
  let t : State := { pending := s.pending, freeCtr := s.freeCtr, now := s.now, ms := s.ms, flash := s.flash, nvm := s.nvm.atReset hot,
                     regs := s.regs.filter (fun (p : Nat × Word) => keptReg p.1), rst := r,
                     pins := { sealedLow := s.pins.sealedLow, tap := s.pins.tap, tdr := s.pins.tdr, bsr := s.pins.bsr, cap := s.pins.cap },
                     guard := { enA := s.guard.enA, enB := s.guard.enB, disc := s.guard.disc },
                     kiln := { subMs := s.ms, initMs := s.ms } }
  let t := (t.setB Fld.GUARD_FAULT_DISC_FAULT (s.b Fld.GUARD_FAULT_DISC_FAULT)).setB Fld.CASK_STAT_RUNMOD (s.b Fld.CASK_STAT_RUNMOD)
  let t := t.setB Fld.THERM_STAT_HARD (s.b Fld.THERM_STAT_HARD)
  let t := if level = 1 then t.setF Fld.TOP_PINTEST_RUNS (s.f Fld.TOP_PINTEST_RUNS) else t
  let t := t.setB Fld.CLK_STATUS_PLLA_LOCK (pll && s.b Fld.CLK_STATUS_PLLA_LOCK)
  (t.setB Fld.CLK_STATUS_PLLB_LOCK (pll && s.b Fld.CLK_STATUS_PLLB_LOCK)).setB Fld.CLK_STATUS_LPLL_LOCK
    (level = 1 && s.b Fld.CLK_STATUS_LPLL_LOCK)

/-- RST_STATUS names the reset (R50). -/
def State.lastReset (s : State) (src level : Nat) : State := (s.setF Fld.RST_STATUS_LAST_SRC src).setF Fld.RST_STATUS_LAST_LEVEL level

/-- The rails go down, and the sequence of Table 3.1 starts at its first step. -/
def State.railsDown (s : State) : State :=
  (s.withRst { s.rst with phase := .rails 1 }).setF Fld.PWR_STATUS_GOOD 0

/-- A reset of level L0 or level L1 is performed for the sources `srcs` (R48, R50, R51). -/
def State.performDeep (s : State) (level src srcs : Nat) : State :=
  let s := s.lastReset src level
  let s := if s.rst.active.isNone then s.incMod Fld.RST_COUNT_COUNT 1 else s
  let old := if s.rst.active.isNone then 0 else s.rst.activeSrc
  let t := s.resetTo level (level = 1 && !srcs.testBit 13) (srcs.testBit 6)
  let t := t.withRst { t.rst with active := some level, activeSrc := old ||| srcs }
  if srcs.testBit 12 then t.railsDown else t

/-! ## Level L2 (R48) -/

/-- A histogram of a cluster in reset that the Lauter has not processed (Table 9.6): it is discarded, and a channel with a field is unevaluable. -/
def State.dropHist (s : State) (c : Nat) : State :=
  match s.hists.find? (fun (p : Nat × Hist) => p.1 = c) with
  | none => s
  | some (_, h) =>
    let m := (hdrView h.hdr).mcol
    let o := s.unwokenOut m c
    let s := (s.withHists (SMap.erase s.hists c)).wortDone m c []
    ((s.lauOutcome m o s.eff).outcome m c o 0).columnDone m

/-- A level L2 reset of cluster `k` (Tables 7.4, 8.4, 9.6, 19.3): FIFOs, windows, both banks, caches and counts; maps and settings stay. -/
def State.clusterReset (s : State) (k : Nat) : State :=
  let s := (List.range 16).foldl (fun (s : State) j =>
    let c := 16 * k + j
    let x := s.chan c
    let s := s.setChan c { x with hits := [], colHits := [], lastEvt := none, set := none, gate := none, amb := none, fifo := [], cur := {}, old := { passed := x.old.passed } }
    let s := s.withLau { s.lau with cache := SMap.erase s.lau.cache c, peek := SMap.erase s.lau.peek c }
    let s := (List.range 8).foldl (fun (s : State) i => s.rset (Reg.MASH_HDR c i) 0) s
    (s.rset (Reg.RX_AMBC c) 0).dropHist c) s
  let s := s.setCluster k { lfsr := (s.cluster k).lfsr }
  let s := s.withTun (s.tun.filter (fun (p : Nat × BitVec 16) => p.1 / 65536 != k))
  [Reg.MASH_THINK k, Reg.MASH_LATE k, Reg.RX_LOSS k, Reg.LAU_INTFK k, Reg.LAU_RAINK k].foldl (fun s a => s.rset a 0) s

/-- A level L2 reset of a target asserts. The time is no longer valid without DSP1 (R275); requests queued from DWL go with the DWL pair (Table 14.11). -/
def State.performL2 (s : State) (t : L2Target) : State :=
  if s.rst.l2.contains t then s else
  let s := s.withRst { s.rst with l2 := s.rst.l2 ++ [t] }
  match t with
  | .cluster k => s.clusterReset k
  | .dsp c => if c = 1 then (s.dspReset c).timeInvalid else s.dspReset c
  | .dma d => s.dmaReset d
  | .eth p => s.ethReset p
  | .dwl => let s := s.dwlReset; (s.withAmp { s.amp with queue := s.amp.queue.filter (fun q => q.src != .dwl) })

/-- The bus master that is released with a target (R360). -/
def masterOf (t : L2Target) : Option Nat :=
  match t with
  | .dsp c => some (1 + c)
  | .dma d => some (3 + d)
  | .dwl => some 8
  | _ => none

/-- The targets that are released with `t`: the engines of one reset of source FRZ_DMA go together (R45). -/
def State.l2Mates (s : State) (t : L2Target) : List L2Target :=
  match t with
  | .dma d => match s.rst.dmaGrp.find? (fun g => g.contains d) with
    | some g => g.map L2Target.dma
    | none => [t]
  | _ => [t]

/-- The level L2 reset of the one target `t` is released (R49, R351, R360). -/
def State.releaseOne (s : State) (t : L2Target) : State :=
  if !s.rst.l2.contains t then s else
  let s := s.withRst { s.rst with l2 := s.rst.l2.filter (fun x => x != t) }
  let s := match masterOf t with
    | some m => s.rset Reg.BUS_FROZEN (s.rget Reg.BUS_FROZEN &&& ~~~(BitVec.ofNat 32 (2 ^ m)))
    | none => s
  match t with
  | .dsp c => if s.coreLoaded c && s.dev != .boot then (if s.dev = .park then s.modCore c (fun x => { x with mode := 5 }) else s.coreStart c 1) else s
  | _ => s

/-- A level L2 reset of `t` is released, with those that its source holds together with it (R45, R49). -/
def State.releaseL2 (s : State) (t : L2Target) : State :=
  let s1 := (s.l2Mates t).foldl State.releaseOne s
  match t with
  | .dma d => s1.withRst { s1.rst with dmaGrp := s1.rst.dmaGrp.filter (fun g => !g.contains d) }
  | _ => s1

/-! ## Asserting and releasing -/

/-- The numbers of the raised sources. -/
def State.raisedSrcs (s : State) : List Nat := (List.range 14).filter (fun k => s.rst.raised.testBit k)

/-- The raised sources set their cause bits (R49). -/
def State.resetCauses (s : State) : State :=
  let s := s.raisedSrcs.foldl (fun (s : State) k => s.raise ⟨1, k⟩) s
  s.withRst { s.rst with ampReset := if s.rst.raised.testBit 5 then none else s.rst.ampReset, raised := 0 }

/-- The engines that source FRZ_DMA resets on this edge are noted, for their release together (R45). -/
def State.noteDma (s : State) (run : List (Nat × Nat × List L2Target)) : State :=
  let ds := (run.filter (fun a => a.1 = 9)).flatMap (fun a => a.2.2.filterMap (fun t =>
    match t with
    | .dma d => if s.rst.l2.contains t then none else some d
    | _ => none))
  if ds.isEmpty then s else s.withRst { s.rst with dmaGrp := s.rst.dmaGrp ++ [ds] }

/-- The deepest level of the actions `acts` of the raised sources is performed, unless one as deep is active (R50). -/
def State.resetRun (s : State) (acts : List (Nat × Nat × List L2Target)) : State :=
  let deep := (acts.map (·.2.1)).foldl min 3
  let srcs := (acts.filter (fun a => decide (a.2.1 ≤ 1))).foldl (fun acc a => acc ||| 2 ^ a.1) 0
  let src := ((acts.find? (fun a => a.2.1 = deep)).map (·.1)).getD 0
  match s.rst.active with
  | some l =>
    if deep < l then s.performDeep deep src srcs
    else s.withRst { s.rst with activeSrc := s.rst.activeSrc ||| srcs }
  | none =>
    if deep ≤ 1 then s.performDeep deep src srcs
    else
      let run := acts.filter (fun a => a.2.1 = 2 && a.2.2.any (fun t => !s.rst.l2.contains t))
      match run with
      | [] => s
      | (k, _) :: _ => (run.flatMap (·.2.2)).foldl State.performL2 ((s.noteDma run).lastReset k 2)

/-- Row RESET_ASSERT: on the next ACLK edge the raised sources set their cause bits, and the deepest level is performed (R49, R50). -/
def execResetAssert (s : State) : Out :=
  if s.rst.phase = .off then .next (s.withRst { s.rst with raised := 0 })
  else .next (s.resetCauses.resetRun (s.raisedSrcs.map (fun k => (k, s.resetAct k))))

/-- The edge on which a strap settles, and its value: two equal samples in a row, the last sample standing for those after it; none within E17 (R27). -/
def strapSettle (samples : List Bool) : Option Bool :=
  let at' (i : Nat) : Bool := samples.getD i ((samples.getLast?).getD false)
  ((List.range 17).find? (fun i => at' i = at' (i + 1))).map at'

/-- TOP_STRAP from the samples of HID0-HID4 (bits 0-4) and MSPI_EN (bit 5) on the edges E0, E1, … (R27, R28). -/
def strapWord (samples : List (BitVec 6)) : Word :=
  let pins := (List.range 6).map (fun i => strapSettle (samples.map (fun v => v.getLsbD i)))
  let v := pins.zipIdx.foldl (fun (acc : Nat) (p : Option Bool × Nat) => acc + (if p.1 = some true then 2 ^ p.2 else 0)) 0
  BitVec.ofNat 32 (v + if pins.any (·.isNone) then 128 else 0)

/-- A source of the reset in progress persists (R38, R49, R53, R54, R253); `rstn` says that RST_N has been high for two samples. -/
def State.resetHeld (s : State) (rstn : Bool) : Bool :=
  (s.rst.activeSrc.testBit 1 && !s.b Fld.PWR_STATUS_VIN_OK) || (s.rst.activeSrc.testBit 2 && !rstn && !s.b Fld.RST_PIN_RSTPIN_STUCK)
    || (s.rst.activeSrc.testBit 6 && s.b Fld.THERM_STAT_HARD)

/-- A reset of level L0 or level L1 is released: straps, log entry 0x0001, and the option load begins (R27, R49, R50, R52). -/
def State.releaseDeep (s : State) (rstn : Bool) (straps : List (BitVec 6)) : State :=
  let s := s.rset Reg.TOP_STRAP (strapWord straps)
  let s := s.logEvent 0x0001 (s.rget Reg.RST_STATUS) (s.rget Reg.RST_CAUSE)
  s.withRst { s.rst with active := none, activeSrc := 0, phase := .option, railFail := false, testDue := true,
                               rstnLow := s.rst.rstnLow && !rstn }

/-- Row RESET_RELEASE: a reset is released on an ACLK edge (R49). A reset of level L0 or level L1 in progress is the one that is released, once no source
persists, with the samples of the straps; otherwise the level L2 target with TARGET code `tgt` (Table 14.4) is. -/
def execResetRelease (tgt : Nat) (rstn : Bool) (straps : List (BitVec 6)) (s : State) : Out :=
  match s.rst.active with
  | some _ => .next (if s.rst.phase = .held && !s.resetHeld rstn then s.releaseDeep rstn straps else s)
  | none => .next (match resetTarget tgt with | some t => s.releaseL2 t | none => s)

/-! ## VIN and rails (R37, R38, R51) -/

/-- Row VIN_RISE: VIN is above 7.7 V with VAON good. From power-off the power-on reset is under way: it is counted, the backup domain is judged and the first rail
enabled; otherwise a brownout ends. -/
def execVinRise (s : State) : Out :=
  let s1 := s.setB Fld.PWR_STATUS_VIN_OK true
  if s.rst.phase != .off then .next s1 else
  let lost := s.rst.bkpLost
  let s2 : State := if lost then { s1 with regs := s1.regs.filter (fun (p : Nat × Word) => !backupReg p.1) } else s1
  let s3 := s2.setB Fld.RST_STATUS_BKP_LOST lost
  let s4 := if s.rst.porDue then s3.incMod Fld.RST_COUNT_COUNT 1 else s3
  .next (s4.withRst { s4.rst with phase := .rails 1, active := some 0, activeSrc := 1, porDue := false, bkpLost := false })

/-- Row BROWNOUT: VIN has been below 7.4 V for 10 µs (R38). -/
def execBrownout (s : State) : Out :=
  .next (if s.rst.phase = .off then s else (s.setB Fld.PWR_STATUS_VIN_OK false).raiseReset 1)

/-- Row POR: VAON is lost, and everything but the backup domain and the NVM collapses (R38, Table 3.7). `vbat` says that VBAT carries the backup domain. After a
rail failure PWR_FAULT shows it still (Table 3.4). DESIGN CHOICE (log 72): a POR during a reset of level L0 or L1 is that reset escalated and is not counted again (R50,
R51), also where VBAT is lost and RST_COUNT starts from 0. -/
def execPor (vbat : Bool) (s : State) : Out :=
  if s.rst.phase = .off then .next (s.withRst { s.rst with bkpLost := s.rst.bkpLost || !vbat }) else
  let fault := s.rst.railFail
  let t : State := { pending := s.pending, freeCtr := s.freeCtr, now := s.now, flash := s.flash, nvm := s.nvm.atReset false,
                     regs := s.regs.filter (fun (p : Nat × Word) => backupReg p.1 && vbat),
                     rst := { porDue := s.rst.active.isNone, bkpLost := !vbat, railFail := fault } }
  .next (if fault then (t.setB Fld.PWR_FAULT_RAIL_FAIL (s.b Fld.PWR_FAULT_RAIL_FAIL)).setF Fld.PWR_FAULT_RAIL_ID (s.f Fld.PWR_FAULT_RAIL_ID) else t)

/-- The step of Table 3.1 at which a rail, numbered as in PWR_STATUS.GOOD, is enabled. -/
def railStep (r : Nat) : Nat := if r = 0 then 1 else if r ≤ 3 then 2 else if r = 4 then 3 else 4

/-- The rails of a step. -/
def stepRails (st : Nat) : List Nat := (List.range 6).filter (fun r => railStep r = st)

/-- Rail `r` is enabled (Table 3.1). -/
def State.railOn (s : State) (r : Nat) : Bool :=
  if r = 6 then s.vspadOn else decide (r < 6) && (match s.rst.phase with | .off => false | .rails st => decide (railStep r ≤ st) | _ => true)

/-- A GOOD bit. -/
def State.setGood (s : State) (r : Nat) (p : Bool) : State :=
  let g := s.f Fld.PWR_STATUS_GOOD
  s.setF Fld.PWR_STATUS_GOOD (if p then g ||| 2 ^ r else g - if g.testBit r then 2 ^ r else 0)

/-- Row RAIL_GOOD: rail `r` reaches its good threshold; with all of its step good the next step begins (R37, R56). -/
def execRailGood (r : Nat) (s : State) : Out :=
  if !s.railOn r then .next s else
  let s := s.setGood r true
  match s.rst.phase with
  | .rails st =>
    if (stepRails st).all (fun r => (s.f Fld.PWR_STATUS_GOOD).testBit r) then
      .next (s.withRst { s.rst with phase := if st < 4 then .rails (st + 1) else .held })
    else .next s
  | _ => .next s

/-- The rails come up, or are up with the reset of level L0 or level L1 not yet released. -/
def State.comingUp (s : State) : Bool :=
  match s.rst.phase with
  | .rails _ => true
  | .held => true
  | _ => false

/-- Row RAIL_FAILURE: an enabled rail misses its limit or falls below its threshold, and source RAIL is raised (R37). While a reset of level L0 is in progress
the rails come up anew within it. -/
def execRailFailure (r : Nat) (s : State) : Out :=
  if !s.railOn r then .next s else
  let s := ((s.setGood r false).raise Cause.PWR_RAIL_FAIL).setF Fld.PWR_FAULT_RAIL_ID r
  let s := (s.withRst { s.rst with railFail := true }).raiseReset 12
  .next (if s.rst.active = some 0 && s.comingUp then s.railsDown else s)

/-! ## The 32.768 kHz crystal (R41) -/

/-- The crystal has failed: with RC_ALLOWED = 0 the device enters SAFE, at once if it has left BOOT. -/
def State.xtFail (s : State) : State :=
  let s := ((s.withRst { s.rst with xt := 2 }).setB Fld.CLK_STATUS_ACLK_XTAL false).raise Cause.CLK_STATUS_XT32_FAIL
  if s.rst.rcAllowed || s.dev = .boot then s else s.enterSafe 4

/-- Row XT32_QUALIFIED: ACLK changes to the crystal. -/
def execXt32Qualified (s : State) : Out :=
  .next (if s.rst.phase != .off && s.rst.xtFitted && s.rst.xt = 0 then (s.withRst { s.rst with xt := 1 }).setB Fld.CLK_STATUS_ACLK_XTAL true else s)

/-- Row XT32_FAIL: the crystal in use gives no edge. -/
def execXt32Fail (s : State) : Out := .next (if s.rst.xt = 1 then s.xtFail else s)

/-- Row XT32_TIMEOUT: the crystal has not qualified in time. -/
def execXt32Timeout (s : State) : Out := .next (if s.rst.phase != .off && s.rst.xtFitted && s.rst.xt = 0 then s.xtFail else s)

/-! ## RST_N (R53, R54) -/

/-- Row RST_N_LOW: RST_N is low on two consecutive edges. A pin that is treated as failed closed is ignored. -/
def execRstNLow (s : State) : Out :=
  .next (if s.rst.phase = .off || s.b Fld.RST_PIN_RSTPIN_STUCK || s.rst.rstnLow then s
    else (s.withRst { s.rst with rstnLow := true }).raiseReset 2)

/-- Row RST_N_STUCK: RST_N has been low for longer than RST_STUCK. -/
def execRstNStuck (s : State) : Out :=
  if !s.rst.rstnLow || s.b Fld.RST_PIN_RSTPIN_STUCK then .next s else
  let s := (s.setB Fld.RST_PIN_RSTPIN_STUCK true).setB Fld.RST_PIN_STUCK_SEEN true
  .next (s.logEvent 0x0003 (s.rget Reg.RST_PIN) 0)

/-- Row RST_N_REARM: RST_N has been high for 100 ms ticks. -/
def execRstNRearm (s : State) : Out :=
  .next (if s.b Fld.RST_PIN_RSTPIN_STUCK then (s.withRst { s.rst with rstnLow := false }).setB Fld.RST_PIN_RSTPIN_STUCK false else s)

end Sys2Proof.Machine
end

