-- ==== Sys2Proof/Machine/Pins.lean ====
section
/-!
DEFINITION. The output pins (R23, R30, R55, Tables 2.3-2.6, 3.10): what each one shows, as the state decides it; and the TAP with its boundary register (R36).
-/
namespace Sys2Proof.Machine

/-- What an output pin shows. -/
inductive Level where
  | low | high
  /-- open drain released -/
  | released
  | hiZ
  /-- LVDS driver off, both lines pulled down; SOUT off with its pull-down -/
  | off
  /-- LVDS driver on, or SOUT on -/
  | on
  /-- a lane in electrical idle -/
  | idle
  /-- pulses, or words of a transfer in progress -/
  | busy
  /-- an analogue output: MDRV's code, or the excitation between MEXC_P and MEXC_N in mV -/
  | analogue (v : Nat)
  /-- pulse-width modulated at a duty code -/
  | pwm (code : Nat)
  deriving DecidableEq, Repr

/-- The output pins of Tables 2.3 to 2.6; a pair is one output. -/
inductive Pin where
  | fire (n : Nat) | emx | chgGate | chgSel (n : Nat) | mdrv | mexc | htr
  | irqN | hzd | ppsOut | tdo
  | laneTx (n : Nat) | qspiSck | qspiCsN | qspiIo (i : Nat) | mspiMiso
  | soutA | soutB
  deriving DecidableEq, Repr

/-- The state of a pin during reset (Tables 2.3 to 2.6). -/
def Pin.resetLevel : Pin → Level
  | .fire _ | .emx | .soutA | .soutB => .off
  | .chgGate | .chgSel _ | .htr | .hzd | .ppsOut | .qspiSck => .low
  | .mdrv => .analogue 0x8000
  | .mexc | .tdo | .qspiIo _ | .mspiMiso => .hiZ
  | .irqN => .released
  | .laneTx _ => .idle
  | .qspiCsN => .high

/-- A transfer with the flash is in progress: the image load (R66, R67) or a flash command (R73). -/
def State.qspiBusy (s : State) : Bool :=
  s.flOp.isSome || (match s.rst.phase with
    | .heads _ => true
    | .pass _ => true
    | _ => false)

/-- A switched output of the Guard: off in its off-pulse too (R314). -/
def State.soutLevel (s : State) (i : Nat) : Level := if s.b Fld.GUARD_STAT_ON && s.guard.pulse != some i then .on else .off

/-- What an output pin shows with no EXTEST acting. MSPI_MISO is driven during a transaction only, and TDO while it shifts: a command ends with both at high impedance. -/
def State.ownLevel (s : State) (p : Pin) : Level :=
  match p with
  | .fire _ => if s.pins.fire then .on else .off
  | .emx => if s.emit.emxOn then .on else .off
  | .chgGate => if s.emit.charging.isSome then .busy else .low
  | .chgSel n => if (s.str n).chgSel then .high else .low
  | .mdrv => .analogue s.ctl.mdrv
  | .mexc => if s.mexcOn then .analogue s.mexcMv else .hiZ
  | .htr => if s.ctl.htr = 0 then .low else .pwm s.ctl.htr
  | .irqN => if s.irqLow then .low else .released
  | .hzd => if s.b Fld.LAU_STAT_HZD then .low else .high
  | .ppsOut => if s.pins.pps then .high else .low
  | .tdo => .hiZ
  | .laneTx n => if s.laneOn n && s.b Fld.CLK_STATUS_LPLL_LOCK then .busy else .idle
  | .qspiSck => if s.qspiBusy then .busy else .low
  | .qspiCsN => if s.qspiBusy then .low else .high
  | .qspiIo _ => if s.qspiBusy then .busy else .hiZ
  | .mspiMiso => .hiZ
  | .soutA => s.soutLevel 0
  | .soutB => s.soutLevel 1

/-! ## The TAP (R36) -/

/-- EXTEST may act: RST_N holds the device in reset, or the device is in SAFE. -/
def State.extestMay (s : State) : Bool := s.dev = .safe || (s.rst.rstnLow && !s.b Fld.RST_PIN_RSTPIN_STUCK && s.rst.active.isSome)

/-- The instruction that the TAP executes: EXTEST runs as BYPASS where it may not act. -/
def State.tapInstr (s : State) : Nat := if s.pins.tap = 3 && !s.extestMay then 0 else s.pins.tap

/-- A boundary cell: it observes an input or an output, or it also drives its output under EXTEST. -/
inductive BCell where
  | input
  | observe (p : Pin)
  | drive (p : Pin)
  deriving DecidableEq, Repr

/-- The boundary chain. Lanes and ANA pins but for MDRV have no cell, and the cells of the emitter, charge, mirror and Guard outputs only observe (R36). DESIGN CHOICE
(log 79): one cell a signal, in the order of Tables 2.3 to 2.6; XTAL, XT32 and the TAP's own pins have none. -/
def boundaryChain : List BCell :=
  (List.range 8).map (fun n => .observe (.fire n)) ++ [.observe .emx, .observe .emx, .input, .observe .chgGate]
    ++ (List.range 8).map (fun n => .observe (.chgSel n)) ++ [.observe .mdrv, .observe .htr]
    ++ List.replicate 5 .input ++ [.drive .irqN, .drive .hzd, .drive .ppsOut] ++ List.replicate 7 .input
    ++ [.drive .qspiSck, .drive .qspiCsN] ++ (List.range 4).map (fun i => .drive (.qspiIo i)) ++ List.replicate 3 .input ++ [.drive .mspiMiso]
    ++ [.observe .soutA, .observe .soutB] ++ List.replicate 3 .input

/-- What the cells drive under EXTEST: the update cells of driving cells hold what was shifted in, the others nothing (R36). -/
def driveMask : BitVec 52 :=
  BitVec.ofNat 52 (boundaryChain.zipIdx.foldl (fun a c =>
    match c.1 with
    | .drive _ => a + 2 ^ c.2
    | _ => a) 0)

/-- EXTEST is acting. -/
def State.extestOn (s : State) : Bool := s.tapInstr = 3

/-- What an output pin shows. Under EXTEST a driving cell drives its pin, and the pins of observe-only cells keep their state during reset (R36). -/
def State.pinLevel (s : State) (p : Pin) : Level :=
  if !s.extestOn then s.ownLevel p else
  match boundaryChain.zipIdx.find? (fun c => c.1 = .drive p) with
  | some c => if s.pins.bsr.getLsbD c.2 then .high else .low
  | none => if boundaryChain.contains (.observe p) then p.resetLevel else s.ownLevel p

/-- A pin shows a 1 to its boundary cell. -/
def Level.one : Level → Bool
  | .high | .released | .on | .busy => true
  | _ => false

/-- What the boundary register captures: the inputs' levels, and those of the outputs (R36). -/
def State.capture52 (s : State) (ins : BitVec 52) : BitVec 52 :=
  BitVec.ofNat 52 (boundaryChain.zipIdx.foldl (fun a c =>
    let v := match c.1 with
      | .input => ins.getLsbD c.2
      | .observe p => (s.pinLevel p).one
      | .drive p => (s.pinLevel p).one
    if v then a + 2 ^ c.2 else a) 0)

/-- Row BOUNDARY_SCAN_INSTRUCTION: instruction `i` (0 BYPASS, 1 IDCODE, 2 SAMPLE/PRELOAD, 3 EXTEST) is executed: the data register that it selects captures, and is
shifted and updated. `ins` are the levels at the inputs and `dr` what TDI shifts in, in the order of the chain. No register and no memory changes (R36). -/
def execBoundaryScanInstruction (i : Nat) (s : State) (ins dr : BitVec 52 := 0) : Out :=
  let s : State := s.withPins { s.pins with tap := if i < 4 then i else 0 }
  let s := s.withPins { s.pins with tdr := if s.tapInstr = 1 then 0x11024C6B else 0 }
  if s.tapInstr = 2 || s.tapInstr = 3 then .next (s.withPins { s.pins with cap := s.capture52 ins, bsr := dr &&& driveMask })
  else .next s

end Sys2Proof.Machine
end

