-- ==== Sys2Proof/Machine/Boot.lean ====
section
/-!
DEFINITION. Start-up (chapters 2, 3, 4): option load, PLL start, pin test, the configuration image and its slots, and the commit.
-/
namespace Sys2Proof.Machine

/-! ## Pin test (R32, R34) -/

/-- Whether line `l` of LVDS unit `u` (0 P, 1 N) read above 0.6 V while unit `k` was driven. -/
def lineHigh (steps : List (BitVec 22)) (k u l : Nat) : Bool := (steps.getD k 0).getLsbD (2 * u + l)

/-- A line shorted to a rail: high in every step in which its unit is not driven (R34). -/
def lineRail (steps : List (BitVec 22)) (u l : Nat) : Bool := (List.range 11).all (fun k => k = u || lineHigh steps k u l)

/-- Two units are shorted: a line of `u` that is not shorted to a rail is high while `k` is driven. -/
def unitShort (steps : List (BitVec 22)) (k u : Nat) : Bool :=
  k != u && (List.range 2).any (fun l => lineHigh steps k u l && !lineRail steps u l)

/-- LVDS unit `u` fails (R34). -/
def unitFails (steps : List (BitVec 22)) (u : Nat) : Bool :=
  (List.range 2).any (fun l => lineRail steps u l || !lineHigh steps u u l) || (List.range 11).any (fun k => unitShort steps k u || unitShort steps u k)

/-- An SOUT unit fails: high with both off, or a cross-short (R34). -/
def soutFails (offs cross : BitVec 2) (i : Nat) : Bool :=
  offs.getLsbD i || (cross.getLsbD 0 && !offs.getLsbD 1) || (cross.getLsbD 1 && !offs.getLsbD 0)

/-- The failing units of a run. `steps` are the 22 line readings of each of the 11 steps, `offs` the readbacks of SOUT_A and SOUT_B with both off, `cross` that of SOUT_B
during SOUT_A's pulse and that of SOUT_A during SOUT_B's. -/
def pinFails (steps : List (BitVec 22)) (offs cross : BitVec 2) : List Nat :=
  (List.range 11).filter (unitFails steps) ++ ([0, 1].filter (soutFails offs cross)).map (· + 11)

/-- The pin test of a start-up begins once both PLLs are locked (R32, R43). -/
def State.pinTestKick (s : State) : State :=
  if s.dev = .boot && s.rst.testDue && s.b Fld.CLK_STATUS_PLLA_LOCK && s.b Fld.CLK_STATUS_PLLB_LOCK
  then (s.withRst { s.rst with testDue := false }).pinTestStart else s

/-- The result of a run in TOP_PINTEST, with its log entry and the Guard's fault (R34, R316). -/
def State.pinResult (s : State) (fails : List Nat) : State :=
  let fire := fails.any (fun u => decide (u < 8))
  let emx := fails.any (fun u => decide (8 ≤ u) && decide (u < 11))
  let sout := fails.any (fun u => decide (11 ≤ u))
  let s := (s.incMod Fld.TOP_PINTEST_RUNS 1).setB Fld.TOP_PINTEST_BUSY false
  let s := s.setF Fld.TOP_PINTEST_FAIL_UNIT (fails.headD 0x1F)
  let s := ((s.raiseIf fire Cause.TOP_PINTEST_FIRE_SHORT).raiseIf emx Cause.TOP_PINTEST_EMX_SHORT).raiseIf sout Cause.TOP_PINTEST_SOUT_SHORT
  let s := if fire || emx then ((s.setB Fld.TOP_PINTEST_LOCK true).withPins { s.pins with fire := false }) else if sout then s else s.setB Fld.TOP_PINTEST_LOCK false
  let s := if fails.isEmpty then s else s.logEvent 0x0005 (s.rget Reg.TOP_PINTEST) 0
  if sout then s.soutFault 8 else s

/-! ## The image in flash (R61-R67) -/

/-- Base of slot 1 (A) or 2 (B). -/
def slotBase (slot : Nat) : Nat := 0x1000000 * (slot - 1)

/-- `n` bytes of a slot from offset `o`. -/
def State.slotBytes (s : State) (slot o n : Nat) : List Byte := (List.range n).map (fun i => s.flashGet (slotBase slot + o + i))

/-- HEAD. -/
def State.head (s : State) (slot : Nat) : List Byte := s.slotBytes slot 0 512

/-- A section header of DIR (Table 4.3): its ID field, OFFSET, SIZE and CRC. -/
structure DirEnt where
  id : Nat
  off : Nat
  size : Nat
  crc : Word
  deriving DecidableEq, Repr

/-- The header of the section with ID `id` (2-12), at its place in DIR. -/
def dirEnt (h : List Byte) (id : Nat) : DirEnt :=
  let o := 0x20 + 16 * (id - 2)
  { id := le16 h o, off := le32 h (o + 4), size := le32 h (o + 8), crc := bytesW h (o + 12) }

/-- The section IDs of DIR. -/
def dirIds : List Nat := [2, 3, 4, 5, 6, 7, 8, 9, 10, 11, 12]

/-- The first header of DIR, in ID order, that does not meet Table 4.3; `e` is the end of the payloads before it. DESIGN CHOICE (log 74): where several headers are at
fault SECTION names the first in ID order, and of two payloads that overlap or are out of order the one with the higher ID. -/
def dirFault (h : List Byte) (len : Nat) : List Nat → Nat → Option Nat
  | [], _ => none
  | id :: r, e =>
    let d := dirEnt h id
    if d.id != id || d.off % 4 != 0 || d.off < 0x200 then some id
    else if d.size = 0 then dirFault h len r e
    else if d.off < e || len < d.off + d.size then some id
    else dirFault h len r (d.off + d.size)

/-- LENGTH of a HEAD. -/
def headLen (h : List Byte) : Nat := le32 h 0xC

/-- Reason code and section of a HEAD that is not valid (R66, Table 4.6); code 0 for a valid one. -/
def State.headFault (s : State) (h : List Byte) : Nat × Nat :=
  let hid := s.f Fld.TOP_STRAP_HID
  let mask := at8 h 0x10 % 32
  if le32 h 0 != 0x4D495649 || le16 h 4 != 1 then (0x01, 0)
  else if bytesW h 0x1FC != crc32 (h.take 0x1FC) then (0x02, 0)
  else if le16 h 6 != 0x1024 then (0x03, 0)
  else if hid &&& mask != (at8 h 0x11 &&& mask) then (0x04, 0)
  else if headLen h < 0x200 || 0x1000000 < headLen h || headLen h % 4 != 0 then (0x05, 0)
  else match dirFault h (headLen h) dirIds 0x200 with
    | some id => (0x05, id)
    | none => (0, 0)

/-- LDR_ERR_A or LDR_ERR_B of a slot. -/
def ldrErr (slot : Nat) : Nat := if slot = 1 then Reg.LDR_ERR_A else Reg.LDR_ERR_B

/-- A reason and its section enter the slot's error register. -/
def State.slotError (s : State) (slot reason sec : Nat) : State := s.rset (ldrErr slot) (BitVec.ofNat 32 (sec * 65536 + reason))

/-- A mandatory section (Table 4.4). -/
def mandatory : List Nat := [2, 3, 4, 5, 8, 11, 12]

/-- The section is present. -/
def present (h : List Byte) (id : Nat) : Bool := (dirEnt h id).size != 0

/-- The section that R67's check of DIR names: an absent mandatory one, or the absent one of FIELD and GUARD. -/
def missing (h : List Byte) : Option Nat :=
  match mandatory.find? (fun id => !present h id) with
  | some id => some id
  | none => if present h 6 = present h 7 then none else if present h 6 then some 7 else some 6

/-- The order in which the slots are tried (R66). -/
def State.slotOrder (s : State) : List Nat :=
  let a := s.head 1
  let b := s.head 2
  if s.rst.optSlot = 0 then [1, 2] else if s.rst.optSlot = 1 then [2, 1]
  else if s.rst.headOk.contains 1 && s.rst.headOk.contains 2 && decide (le32 a 8 < le32 b 8) then [2, 1] else [1, 2]

/-- A slot fails (R71): the reason is recorded and its destinations are to be cleared. -/
def State.slotFail (s : State) (slot reason sec : Nat) : State :=
  let s := s.slotError slot reason sec
  s.withRst { s.rst with phase := .clear slot }

/-- LDR_ERR_A bits 23:0 and the reason of LDR_ERR_B, as log code 0x0004 carries them (Table 18.6). -/
def State.ldrErrs (s : State) : Word :=
  BitVec.ofNat 32 ((s.rget Reg.LDR_ERR_A).toNat % 2 ^ 24 * 256 + s.f Fld.LDR_ERR_B_REASON)

/-- The device leaves BOOT: for SAFE with a cause of Table 14.8, otherwise for IDLE; the lanes are on and the boot run follows a commit (R70, R258, R298). -/
def State.leaveBoot (s : State) : State :=
  let s := s.withRst { s.rst with phase := .done }
  let s := if s.rst.xt = 2 && !s.rst.rcAllowed then s.setF Fld.AMP_STATE_SAFE_CAUSE (s.f Fld.AMP_STATE_SAFE_CAUSE ||| 16) else s
  let s := s.laneRates.prpCommit
  if s.f Fld.AMP_STATE_SAFE_CAUSE != 0 then (s.logEvent 0x0040 (BitVec.ofNat 32 (s.f Fld.AMP_STATE_SAFE_CAUSE)) 0).toState .safe
  else s.toState .idle

/-- A device that has found no image leaves BOOT once the pin test of the start-up has ended (R32, R71). -/
def State.bootEnd (s : State) : State :=
  if s.rst.phase = .noImage && !s.rst.testDue && !s.b Fld.TOP_PINTEST_BUSY then s.leaveBoot else s

/-- No slot has loaded (R71): NOIMAGE, log entry 0x0004, and SAFE. -/
def State.noSlot (s : State) : State :=
  let s := (s.setB Fld.LDR_STATUS_NOIMAGE true).setF Fld.LDR_STATUS_ACTIVE 0
  let s := s.logEvent 0x0004 (s.rget Reg.LDR_STATUS) s.ldrErrs
  let s := s.withRst { s.rst with sections := 0, autostart := false, phase := .noImage }
  (s.setF Fld.AMP_STATE_SAFE_CAUSE (s.f Fld.AMP_STATE_SAFE_CAUSE ||| 8)).bootEnd

/-- Row PIN_TEST_DONE: the run ends with its readings. With LOCK the device enters SAFE instead of leaving BOOT or entering PARK (R34, R59). -/
def execPinTestDone (steps : List (BitVec 22)) (offs cross : BitVec 2) (s : State) : Out :=
  if !s.b Fld.TOP_PINTEST_BUSY then .next s else
  let s := s.pinResult (pinFails steps offs cross)
  if s.b Fld.TOP_PINTEST_LOCK then
    let s := s.withParkWake (s.parkWake && !s.pins.parkTest)
    .next (s.enterSafe 0).bootEnd
  else if s.pins.parkTest && s.dev = .idle then .next s.parkEnter
  else .next s.bootEnd

/-- The next slot with a valid HEAD that has not been tried is loaded (R66, R67, R71). -/
def State.nextSlot (s : State) : State :=
  match s.slotOrder.find? (fun k => s.rst.headOk.contains k && !s.rst.tried.contains k) with
  | none => s.noSlot
  | some k =>
    let s := (s.incSat Fld.LDR_STATUS_ATTEMPTS 1)
    let s := s.withRst { s.rst with tried := s.rst.tried ++ [k], preferred := if s.rst.tried.isEmpty then k else s.rst.preferred, dests := [] }
    match missing (s.head k) with
    | some id => s.slotFail k 0x08 id
    | none => s.withRst { s.rst with phase := .pass k }

/-- The HEAD of slot `k` has been read and is judged (R66). -/
def State.headRead (s : State) (k : Nat) : State :=
  let (r, sec) := s.headFault (s.head k)
  if r = 0 then s.withRst { s.rst with headOk := s.rst.headOk ++ [k] } else s.slotError k r sec

/-- The image load starts with the HEADs of both slots (R66). -/
def State.imageStart (s : State) : State := s.withRst { s.rst with phase := .heads [1, 2] }

/-- The HEADs that the flash has given, `l`, are judged, and the first slot is tried (R66). -/
def State.headsDone (s : State) (l : List Nat) : State := (l.foldl State.headRead s).nextSlot

/-! ## Option load (R52) and PLLs (R43) -/

/-- A blank option page: all bytes 0xFF. -/
def pageBlank (p : List Word) : Bool := (List.range 18).all (fun i => p.getD i 0 = 0xFFFFFFFF)

/-- A blank fuse table. -/
def fuseBlank (p : List Word) : Bool := p.getD 16 0 = 0xFFFFFFFF && p.getD 17 0 = 0xFFFFFFFF

/-- A byte of the option page. -/
def optByte (p : List Word) (i : Nat) : Nat := at8 (p.flatMap wordBytes) i

/-- Byte `i` of the option page `p`, or the built-in default `d` (Table 3.6). -/
def optVal (p : Option (List Word)) (i d : Nat) : Nat :=
  match p with
  | some l => optByte l i
  | none => d

/-- The fuse table of the page `p`; none if the built-in one is in use (Table 3.9). -/
def optFuse (p : Option (List Word)) : Option Nat :=
  match p with
  | some l => if fuseBlank l then none else some ((l.getD 16 0).toNat % 2 ^ 24)
  | none => none

/-- What the registers show of the option load (R52). -/
def State.optionRegs (s : State) (p : Option (List Word)) (blank safe : Bool) : State :=
  let stuck := optVal p 2 10
  let s := (s.setB Fld.RST_FUSE_BUILTIN (optFuse p).isNone).setF Fld.RST_FUSE_MAP ((optFuse p).getD 0x9A9680)
  let s := s.setF Fld.RST_PIN_STUCK_S (if 1 ≤ stuck && stuck ≤ 60 then stuck else 10)
  let s := (s.setF Fld.RST_LOAD_FAILS (min 3 s.rst.optFails)).setB Fld.RST_LOAD_BLANK blank
  let s := if s.rst.optFails = 0 then (s.setB Fld.RST_LOAD_OPT_ERR false).setB Fld.RST_LOAD_FUSE_ERR false else s
  s.setB Fld.RST_STATUS_SAFE_DEF safe

/-- The options that the page `p` gives the boot, and the crystal that it says is not fitted (Table 3.6). -/
def State.optionTake (s : State) (p : Option (List Word)) : State :=
  let acfg := optVal p 5 3
  let s := s.withRst { s.rst with optSlot := optVal p 4 2, qspiCfg := optVal p 3 2, xtFitted := acfg.testBit 0, rcAllowed := acfg.testBit 1, nvmAvail := true, phase := .pll }
  if s.rst.xt = 1 && !s.rst.xtFitted then (s.withRst { s.rst with xt := 0 }).setB Fld.CLK_STATUS_ACLK_XTAL false else s

/-- The option load is over: the page `p` is in use, or the built-in defaults (R52, Tables 3.6, 3.9); the NVM is available, and the PLLs start. -/
def State.optionsTake (s : State) (p : Option (List Word)) (blank safe : Bool) : State :=
  let s := (s.optionRegs p blank safe).optionTake p
  let s := (if safe then (s.logEvent 0x0002 (s.rget Reg.RST_LOAD) 0).enterSafe 2 else s).nvmKick
  (if s.b Fld.CLK_STATUS_PLLB_LOCK then s.imageStart else s).pinTestKick

/-- Row OPTION_LOAD_DONE: a load ends; `read` is there where the words read differ from those the NVM holds (R52). -/
def execOptionLoadDone (read : Option (List Word)) (s : State) : Out :=
  if s.rst.phase != .option then .next s else
  let p := read.getD s.nvm.optPage
  if pageBlank p then .next (s.optionsTake none true false)
  else if optBytesOk p && fuseOk p then .next (s.optionsTake (some p) false false)
  else
    let s := s.withRst { s.rst with optFails := s.rst.optFails + 1 }
    let s := (s.setB Fld.RST_LOAD_OPT_ERR (!optBytesOk p)).setB Fld.RST_LOAD_FUSE_ERR (!fuseOk p)
    .next (if s.rst.optFails < 3 then s else s.optionsTake none false true)

/-- Row PLLA_LOCK: PLLA locks where it runs (R43); at a start-up the pin test may begin. -/
def execPllaLock (s : State) : Out := .next (if s.pllaRuns then (s.setB Fld.CLK_STATUS_PLLA_LOCK true).pinTestKick else s)

/-- Row PLLB_LOCK: PLLB locks (R43): after the option load the image load begins with the HEADs; in PARK after a valid AMP message CCLK runs again. -/
def execPllbLock (s : State) : Out :=
  match s.rst.phase with
  | .pll => .next ((s.setB Fld.CLK_STATUS_PLLB_LOCK true).imageStart).pinTestKick
  | .done => .next (if s.dev != .park || s.parkWake then s.setB Fld.CLK_STATUS_PLLB_LOCK true else s)
  | _ => .next s

/-! ## The pass over a slot (R64, R65, R67) -/

/-- A word of the permission windows of BUS (R17, Table 1.8). -/
def busWindowAt (a : Nat) : Bool := Reg.BUS_WIN_LO 0 0 ≤ a && a ≤ Reg.BUS_WIN_HI 7 7

/-- A word lies in the destinations of section `sid` (Table 4.4). -/
def destOk (sid a : Nat) : Bool :=
  let blk := a / 0x10000
  match sid with
  | 2 => blk = 0 || busWindowAt a
  | 3 => blk = 2 || blk = 17 || blk = 14
  | 4 => blk = 3
  | 5 => blk = 4 || blk = 6 || blk = 7 || blk = 8 || blk = 9 || blk = 25 || planAt a
  | 6 => fieldMapAt a
  | 7 => blk = 20
  | 8 => 0x150000 ≤ a && a < 0x158000
  | 9 => blk = 22 || (0x08000000 ≤ a && a < 0x08080000)
  | 10 => blk = 23 || (0x08080000 ≤ a && a < 0x08100000)
  | 11 => blk = 15 || blk = 16 || blk = 18 || blk = 19
  | 12 => blk = 5 || blk = 10 || blk = 11 || blk = 12 || blk = 13
  | _ => false

/-- The reserved bits of a register word (R7): those of no field. -/
def reservedBits (a : Nat) : Word :=
  match regAt a with
  | some r => ~~~(r.rw ||| r.w1c ||| r.wo ||| r.rwl ||| r.cask ||| r.ro)
  | none => 0

/-- The bits of a register word that a record stores (R67): every value written is stored, but a WO field other than GUARD_PWu stores nothing, and
CASK_CALCFG.APPLY reads 0 always (Table 9.8). -/
def storedBits (a : Nat) : Word :=
  match regAt a with
  | some r => r.rw ||| r.rwl ||| (if a = Reg.CASK_CALCFG then r.cask &&& ~~~0x100 else r.cask) ||| (if Reg.GUARD_PW 0 0 ≤ a && a ≤ Reg.GUARD_PW 7 11 then r.wo else 0)
  | none => 0

/-- The W1C bits of a register word, which a 1 in a record clears (R6, R67). -/
def clearedBits (a : Nat) : Word :=
  match regAt a with
  | some r => r.w1c
  | none => 0

/-- What hangs on an ADC0 register that the LOADER wrote with `v`, with `t` the state after it: gain, channel and reference changes, GO, COMMIT (R233, R234, R237, R238). -/
def State.loaderAdc (s : State) (a : Nat) (v : Word) (t : State) : State :=
  if a = Reg.ADC0_CTRL then t.adcRefSelected (s.f Fld.ADC0_CTRL_REF)
  else if a = Reg.ADC0_BG then t.adcChannelWritten (s.f Fld.ADC0_BG_CH)
  else if a = Reg.ADC0_FIR then t.adcFirWritten v
  else if Reg.ADC0_SRC 0 ≤ a && a ≤ Reg.ADC0_SRC 15 then t.adcGainWritten ((a - Reg.ADC0_SRC 0) / 4) (s.f (Fld.ADC0_SRC_GAIN ((a - Reg.ADC0_SRC 0) / 4)))
  else match (List.range 4).find? (fun n => a = Reg.ADC0_REQ n) with
    | some n => if v.getLsbD 30 then t.reqGo n else t
    | none => t

/-- A register whose stored bits become `v`, with what hangs on them: time validity, the port's corrections, a TIN queue, the anchor. -/
def State.loaderReg (s : State) (a : Nat) (v : Word) : State :=
  let w := ((s.rget a &&& ~~~(storedBits a)) ||| (v &&& storedBits a)) &&& ~~~(v &&& clearedBits a)
  if a = Reg.TIME_CTRL then s.timeCtrlWrite 0 w
  else if a = Reg.ETH_CFG 0 then s.ethCfgWrite 0 w
  else if a = Reg.ETH_CFG 1 then s.ethCfgWrite 1 w
  else if Reg.TIN_CFG 0 ≤ a && a ≤ Reg.TIN_CFG 3 then s.tinCfgWrite ((a - Reg.TIN_CFG 0) / 4) w
  else if a = Reg.WORT_ANCH_SHI then (s.rset a w).anchorCommit
  else if a = Reg.SCAN_CTRL then s.rset a (s.scanModeOf w)
  else if a / 0x10000 = 11 then s.loaderAdc a v (s.rset a w)
  else if s.afeRlRo a then s
  else s.rset a w

/-- One word of a record is written. -/
def State.loaderWrite (s : State) (a : Nat) (v : Word) : State :=
  if blockAt a then (if (regAt a).isSome then s.loaderReg a v else s) else s.msetW a v

/-- The words that follow the two words of a record with kind word `k`: its data, or one word to repeat (Table 4.5). -/
def recordNeed (k : Word) : Nat := if k.toNat / 2 ^ 24 = 0 then k.toNat % 2 ^ 24 else 1

/-- The writes of a record at `a` with kind word `k`, from the words `l` (Table 4.5). -/
def recordWrites (a k : Word) (l : List Word) : List (Nat × Word) :=
  (List.range (k.toNat % 2 ^ 24)).map (fun i => (a.toNat + 4 * i, l.getD (if k.toNat / 2 ^ 24 = 0 then i else 0) 0))

/-- A record of section `sid` that R65 refuses. -/
def recordBad (sid : Nat) (a k : Word) (l : List Word) : Bool :=
  1 < k.toNat / 2 ^ 24 || k.toNat % 2 ^ 24 = 0 || a.toNat % 4 != 0 || l.length < recordNeed k ||
    !(recordWrites a k l).all (fun w => destOk sid w.1 && w.2 &&& reservedBits w.1 = 0)

/-- The destination of a record is noted, for a clear (R71). -/
def State.noteDest (s : State) (a k : Word) : State :=
  s.withRst { s.rst with dests := s.rst.dests ++ [(a.toNat, k.toNat % 2 ^ 24)] }

/-- The records of a payload are written in order, up to one that R65 refuses; answers whether all were in order. -/
def State.loadRecords : Nat → State → Nat → List Word → State × Bool
  | _, s, _, [] => (s, true)
  | n + 1, s, sid, a :: k :: l =>
    if recordBad sid a k l then (s, false)
    else State.loadRecords n ((recordWrites a k l).foldl (fun s w => s.loaderWrite w.1 w.2) (s.noteDest a k)) sid (l.drop (recordNeed k))
  | _, s, _, _ => (s, false)

/-- The payload of a section. -/
def State.payload (s : State) (slot id : Nat) : List Byte :=
  let d := dirEnt (s.head slot) id
  if d.size = 0 then [] else s.slotBytes slot d.off d.size

/-- The sections of `ids` are loaded in turn; answers the reason and section of a failure (R65, R67). -/
def State.loadSections (s : State) (slot : Nat) : List Nat → State × Option (Nat × Nat)
  | [] => (s, none)
  | id :: r =>
    let p := s.payload slot id
    if p.isEmpty then State.loadSections s slot r else
    let ws := (List.range (p.length / 4)).map (fun i => bytesW p (4 * i))
    let q := s.loadRecords ws.length id ws
    if !q.2 || p.length % 4 != 0 then (q.1, some (0x07, id))
    else if crc32 p != (dirEnt (s.head slot) id).crc then (q.1, some (0x06, id))
    else State.loadSections q.1 slot r

/-- The Cask identification of a slot (R69). -/
def State.slotIdent (s : State) (slot : Nat) : List Byte := sha256 (s.payload slot 8 ++ s.payload slot 9)

/-- The check of the Cask identification, the last one (R69). -/
def State.identCheck (s : State) (slot : Nat) : State :=
  let id := s.slotIdent slot
  let sec := if present (s.head slot) 9 then 9 else 8
  let pass (s : State) : State := s.withRst { s.rst with phase := .commit slot, newCaskId := id }
  if s.nvm.caskId = some id then pass s
  else if s.nvm.caskId.isSome && s.pins.sealedLow then s.slotFail slot 0x0B sec
  else if s.nvm.mec = 0xFFFFFFFF then s.slotFail slot 0x0D sec
  else pass s

/-- Row IMAGE_PASS_DONE: the pass over the slot ends. The records have been written, up to a failure; then DIGEST is compared, and the signature check follows where
a key is provisioned (R67, R68). DESIGN CHOICE (log 75): the row also ends the reading of the HEADs, for which the command table has no row. DESIGN CHOICE (log 76): with
a blank key UNSIGNED sets where the signature would be checked, so a slot that fails before leaves it. -/
def execImagePassDone (s : State) : Out :=
  match s.rst.phase with
  | .heads l => .next (s.headsDone l)
  | .pass slot =>
    let q := s.loadSections slot dirIds
    let s := q.1
    match q.2 with
    | some (r, id) => .next (s.slotFail slot r id)
    | none =>
      let h := s.head slot
      if sha256 (s.slotBytes slot 0x200 (headLen h - 0x200)) != (h.drop 0xE0).take 32 then .next (s.slotFail slot 0x09 0)
      else if s.nvm.keyHash.isSome then .next (s.withRst { s.rst with phase := .sig slot })
      else .next ((s.setB Fld.LDR_STATUS_UNSIGNED true).identCheck slot)
  | _ => .next s

/-- The four numbers of PUBKEY or SIG, little-endian in the image (R62), as octet strings of FIPS 186-5. -/
def ecBytes (l : List Byte) : List Byte := (l.take 32).reverse ++ ((l.drop 32).take 32).reverse

/-- The signature of a slot satisfies R68. -/
def State.sigOk (s : State) (slot : Nat) : Bool :=
  let h := s.head slot
  let pub := (h.drop 0x100).take 64
  (at8 h 0x12).testBit 1 && s.nvm.keyHash = some (sha256 pub) && ecdsaOk (h.take 0x100) (ecBytes pub) (ecBytes ((h.drop 0x140).take 64))

/-- Row SIGNATURE_CHECK_DONE (R68). -/
def execSignatureCheckDone (s : State) : Out :=
  match s.rst.phase with
  | .sig slot => .next (if s.sigOk slot then s.identCheck slot else s.slotFail slot 0x0A 0)
  | _ => .next s

/-- The flash does not give the HEAD of slot `k`: those before it have been read, and those after it are still to be (R66, Table 4.6). -/
def State.headDead (s : State) (k : Nat) (l : List Nat) : State :=
  let s := ((l.takeWhile (fun x => x != k)).foldl State.headRead s).slotError k 0x0C 0
  match l.dropWhile (fun x => x != k) with
  | _ :: y :: r => s.withRst { s.rst with phase := .heads (y :: r) }
  | _ => s.nextSlot

/-- Row FLASH_NO_RESPONSE: the flash has not responded within 1 ms (Table 4.6), in the pass over a slot or at the HEAD of slot `k`. DESIGN CHOICE (log 77): SECTION
reads 0x00, no section is named. -/
def execFlashNoResponse (s : State) (k : Nat := 1) : Out :=
  match s.rst.phase with
  | .heads l => .next (if l.contains k then s.headDead k l else s)
  | .pass slot => .next (s.slotFail slot 0x0C 0)
  | _ => .next s

/-- A destination word returns to its reset value (R71). -/
def State.clearWord (s : State) (a : Nat) : State :=
  if a = Reg.ETH_CFG 0 || a = Reg.ETH_CFG 1 then
    let p := a / 0x10000 - 15
    let s := s.loaderReg a (regReset a)
    (s.rset (Reg.ETH_ASYM_I p) (regReset (Reg.ETH_ASYM_I p))).rset (Reg.ETH_ASYM_E p) (regReset (Reg.ETH_ASYM_E p))
  else if a = Reg.WORT_ANCH_SHI then (s.rset a (regReset a)).withAnchor {}
  else if blockAt a then (if (regAt a).isSome then s.loaderReg a (regReset a) else s) else s.msetW a 0

/-- Row DEST_CLEAR_DONE: the destinations of the failed slot are at their reset values, and the other slot is tried (R71). -/
def execDestClearDone (s : State) : Out :=
  match s.rst.phase with
  | .clear _ =>
    let s := s.rst.dests.foldl (fun (s : State) d => (List.range d.2).foldl (fun s i => s.clearWord (d.1 + 4 * i)) s) s
    .next (s.withRst { s.rst with dests := [] }).nextSlot
  | _ => .next s

/-! ## Commit (R70) -/

/-- The Guard CRC after the last change that the log holds. -/
def State.lastGuardCrc (s : State) : Option Word := (s.nvm.chLog.getLast?).map (fun e => e.getD 5 0)

/-- Step 1 of commit (R69, R70): a changed Cask identification is counted, recorded and logged. -/
def State.commitCask (s : State) (ident : List Byte) : State :=
  if s.nvm.caskId = some ident then s else
  let old := s.nvm.mec
  let s := s.withNvm { s.nvm with mec := old + 1, caskId := some ident }
  s.logEvent 0x0060 old (old + 1)

/-- Step 2 of commit (R70, R321): the Guard CRC, and an entry with user 0x00 and KIND 0 where it differs from the last one logged. -/
def State.commitGuard (s : State) : State :=
  let crc := s.guardCrc
  let s := ((s.rset Reg.GUARD_CRC crc).rset Reg.GUARD_CRCREF crc).rebuildBearing
  if s.lastGuardCrc = some crc then s
  else s.withNvm (s.nvm.store (.change (s.changeWords (s.lastGuardCrc.getD 0) crc 0 0)))

/-- The recorded loss of emitters is applied (R96). -/
def State.commitLoss (s : State) : State :=
  let s := (s.rset Reg.EMIT_LOST_LO (s.nvm.lossMask.extractLsb' 0 32)).rset Reg.EMIT_LOST_HI (s.nvm.lossMask.extractLsb' 32 32)
  let s := s.setF Fld.EMIT_FAULT_DEAD s.nvm.lossDead.toNat
  (List.range 8).foldl (fun s n => s.updateKnee n) s

/-- The image wrote the register at `a`. -/
def State.imageWrote (s : State) (a : Nat) : Bool := s.rst.dests.any (fun d => decide (d.1 ≤ a) && decide (a < d.1 + 4 * d.2))

/-- What the image's increment and pulse target do from commit on (R67, R272, R276). -/
def State.commitTime (s : State) : State :=
  let s := if s.imageWrote Reg.TIME_INC then s.timeIncWrite (s.rget Reg.TIME_INC) else s
  if s.imageWrote Reg.TIME_PPS then s.timePpsWrite (s.rget Reg.TIME_PPS) else s

/-- Commit of a slot (R70), with what the blocks take from the image then. -/
def State.commit (s : State) (slot : Nat) : State :=
  let h := s.head slot
  let s := (s.commitCask s.rst.newCaskId).commitGuard
  let secs := (dirIds.filter (present h)).foldl (fun acc id => acc + 2 ^ id) 2
  let s := s.withRst { s.rst with sections := secs, autostart := (at8 h 0x12).testBit 0 }
  let s := (s.setF Fld.LDR_STATUS_ACTIVE slot).setB Fld.LDR_STATUS_FALLBACK (slot != s.rst.preferred)
  let s := (s.setB Fld.LDR_STATUS_DONE true).setF Fld.LDR_SEQ_SEQ (le32 h 8)
  let s := if slot != s.rst.preferred then s.logEvent 0x0004 (s.rget Reg.LDR_STATUS) s.ldrErrs else s
  let s := ((s.commitLoss.ctlApply.latchColumn).caskCommit).commitTime
  let s : State := [0, 1].foldl (fun s c => if s.coreLoaded c then s.coreStart c 0 else s) s
  s.startBootRun.leaveBoot

/-- Row LOADER_COMMIT: once the checks have passed and the pin test has ended. While a write of step 1 or 2 is due and NVM writes are locked, commit waits (R70). -/
def execLoaderCommit (s : State) : Out :=
  match s.rst.phase with
  | .commit slot =>
    let due := s.nvm.caskId != some s.rst.newCaskId || s.lastGuardCrc != some s.guardCrc
    if s.rst.testDue || s.b Fld.TOP_PINTEST_BUSY || (due && !s.b Fld.THERM_STAT_NVM_OK) then .next s else .next (s.commit slot)
  | _ => .next s

end Sys2Proof.Machine
end

