-- ==== Sys2Proof/Machine/DspCore.lean ====
section
/-!
DEFINITION. How a core issues an instruction (R339, R341, R342, R345-R347): delay slots, REPEAT and LOOP, exceptions, interrupt entry; its datapath and its
loads and stores. An instruction command is the instruction at the program counter.
-/
namespace Sys2Proof.Machine

/-! ## CSRs (Table 17.2) -/

/-- The CSR numbers of Table 17.2. -/
def csrListed (n : Nat) : Bool := n ≤ 9 || (0x10 ≤ n && n ≤ 0x17) || n = 0x20

/-- What CSRR returns. -/
def State.csrRead (s : State) (c n : Nat) : Word :=
  let x := s.core c
  match n with
  | 5 => BitVec.ofNat 32 (s.intPend c)
  | 6 => BitVec.ofNat 32 x.cycles
  | 7 => x.cycHi
  | _ => x.csrGet n

/-- The value a CSR takes from a CSRW of `v`: STATUS keeps its sticky bits where `v` is 1, and undefined bits stay 0. -/
def csrMerge (n : Nat) (old v : Word) : Word :=
  match n with
  | 0 => (v &&& 3) ||| (old &&& v &&& 0xC)
  | 2 => v &&& 0x1FF
  | 3 => v &&& 0x3FC00
  | _ => if 0x14 ≤ n then v &&& 0x7F03FFFF else v

/-- CSRs that a CSRW changes after the instruction that follows it; CYCLO, CYCHI and CORE keep their value. -/
def csrDelayed (n : Nat) : Bool := n ≤ 4 || n = 8 || n = 9 || (0x10 ≤ n && n ≤ 0x17)

/-- The CSR writes of the instruction before take effect. Sticky bits that the present instruction has set (`x` before it) stay set. -/
def CoreSt.csrLand (x y : CoreSt) : CoreSt :=
  x.cw.foldl (fun y (p : Nat × Word) =>
    let keep := if p.1 = 0 then y.csrGet 0 &&& ~~~(x.csrGet 0) &&& 0xC else 0
    y.csrSet p.1 (csrMerge p.1 (y.csrGet p.1) p.2 ||| keep)) y

/-- The results of the load before are written (R341). -/
def CoreSt.loadLand (x y : CoreSt) : CoreSt := x.ld.foldl (fun y (p : Nat × Word) => y.setReg p.1 p.2) y

/-! ## Exceptions and interrupts (R345-R347) -/

/-- The offset of vector `v`. -/
def CoreSt.vector (x : CoreSt) (v : Nat) : Nat := ((x.csrGet 3).toNat + 16 * v) % 2 ^ 18

/-- Entry to vector `v` with EPC `epc`; `nr` says that the program cannot go on at EPC. -/
def CoreSt.enter (x : CoreSt) (v epc : Nat) (nr : Bool) : CoreSt :=
  let x := x.csrSet 1 (BitVec.ofNat 32 epc)
  let x := x.csrSet 2 (BitVec.ofNat 32 (v + nr.toNat * 64 + x.ie.toNat * 128 + x.frac.toNat * 256))
  { x.setStatus 0 false with pc := x.vector v, br := none, rep := none, loops := [], ei := false }

/-- An exception is being handled (R347). -/
def CoreSt.handling (x : CoreSt) : Bool := x.inExc && decide ((x.csrGet 2).toNat % 64 < 4)

/-- Exception `v` of the instruction at the program counter of core `c` (R347): its handler is entered, or the core halts. -/
def State.dspExc (s : State) (c v : Nat) : State :=
  let x := s.core c
  if x.handling then (s.setCore c { x with mode := 4, e1 := x.pc }).raise (Cause.DSP_HALT c)
  else
    let nr := x.br.isSome || x.rep.isSome || !x.loops.isEmpty || !x.ld.isEmpty
    let y := { x.csrLand (x.loadLand { x with ld := [], cw := [] }) with e1 := x.pc }
    s.setCore c { y.enter v x.pc nr with inExc := true }

/-- The boundary before the next instruction lets an interrupt in (R346). -/
def CoreSt.open' (x : CoreSt) : Bool := x.br.isNone && x.ld.isEmpty && x.rep.isNone && x.loops.isEmpty && !x.ei

/-- Row DSP_INTERRUPT_ENTRY: the highest-priority pending and enabled line of core `c` is taken (R346). A core in IDLE wakes; with IE = 0 it goes on after IDLE. -/
def execDspInterruptEntry (c : Nat) (s : State) : Out :=
  let x := s.core c
  if 2 ≤ c || s.frozen (1 + c) || !(x.mode = 1 || x.mode = 2) then .next s else
  match s.intLine c with
  | none => .next s
  | some i =>
    let y := { x with mode := 1 }
    if x.ie && x.open' then .next ((s.setCore c (y.enter (4 + i) x.pc false)).coreCycles c 25)
    else if x.mode = 2 then .next (s.setCore c y) else .next s

/-! ## Issue -/

/-- What kind of instruction issues, as R341 and R342 tell them apart. -/
inductive IKind where
  | plain | branch | rti | idle | trap | rep | loop
  deriving DecidableEq, Repr

/-- Where a program goes after an instruction. -/
inductive Nxt where
  | seq
  /-- to an offset, without delay slots -/
  | goto (a : Nat)
  /-- to an offset after two delay slots -/
  | branch (a : Nat)
  /-- the next instruction `n` times -/
  | rep (n : Nat)
  /-- a body of `len` instructions `n` times -/
  | loop (len n : Nat)
  | idle
  deriving DecidableEq, Repr

/-- What an instruction has done: the state, results that land later, where it goes, CCLK cycles, an exception. -/
structure Eff where
  st : State
  ld : List (Nat × Word) := []
  cw : List (Nat × Word) := []
  ei : Bool := false
  nxt : Nxt := .seq
  cyc : Nat := 1
  exc : Option Nat := none

/-- The program counter after the instruction at `a` is done. -/
def CoreSt.advance (x : CoreSt) (a : Nat) : CoreSt :=
  let next := (a + 4) % 2 ^ 18
  match x.rep with
  | some (n + 2) => { x with rep := some (n + 1), pc := a }
  | _ =>
    let x := { x with rep := none }
    match x.loops with
    | l :: r =>
      if a = l.last then
        (if l.left = 0 then { x with loops := r, pc := next } else { x with loops := { l with left := l.left - 1 } :: r, pc := l.first })
      else { x with pc := next }
    | [] => match x.br with
      | some b => if b.left ≤ 1 then { x with br := none, pc := b.target } else { x with br := some { b with left := b.left - 1 }, pc := next }
      | none => { x with pc := next }

/-- The core after the instruction at `a`. -/
def CoreSt.goOn (x : CoreSt) (a : Nat) : Nxt → CoreSt
  | .seq => x.advance a
  | .goto t => { x with pc := t % 2 ^ 18 / 4 * 4, br := none }
  | .branch t => { x with pc := (a + 4) % 2 ^ 18, br := some { target := t % 2 ^ 18 / 4 * 4, left := 2 } }
  | .rep 0 => x.advance ((a + 4) % 2 ^ 18)
  | .rep n => { x with pc := (a + 4) % 2 ^ 18, rep := some n }
  | .loop len 0 => x.advance ((a + 4 * len) % 2 ^ 18)
  | .loop len n => { x with pc := (a + 4) % 2 ^ 18, loops := { first := (a + 4) % 2 ^ 18, last := (a + 4 * len) % 2 ^ 18, left := n - 1 } :: x.loops }
  | .idle => { x.advance a with mode := 2 }

/-- A core that issues its next instruction: it runs, or waits in IDLE with an enabled line pending and IE = 0 (R346). -/
def State.issues (s : State) (c : Nat) : Bool :=
  decide (c < 2) && !s.frozen (1 + c) && (decide ((s.core c).mode = 1) || (decide ((s.core c).mode = 2) && (s.intLine c).isSome && !(s.core c).ie))

/-- The instruction of kind `k` is ILLEGAL where it stands (R341, R342). -/
def CoreSt.illegalHere (x : CoreSt) (k : IKind) : Bool :=
  (x.br.isSome && !(k = .plain || k = .trap)) || (x.rep.isSome && k != .plain) || (k = .rep && x.loops.any (fun l => l.last = x.pc))
    || (k = .loop && decide (2 ≤ x.loops.length))

/-- Core `c` issues the instruction at its program counter, which does `body`. A core that does not run issues nothing. A branch, jump, IDLE or RTI in a LOOP body has
no effect in the manual (R342). -/
def State.issue (s : State) (c : Nat) (k : IKind) (body : State → Eff) : Out :=
  if !s.issues c then .next s else
  let s := s.modCore c (fun x => { x with mode := 1 })
  let x := s.core c
  if x.illegalHere k then .next (s.dspExc c 0)
  else if !x.loops.isEmpty && (k = .branch || k = .idle || k = .rti) then .fault .loopBodyForbidden
  else
    let e := body (s.setCore c { x with e1 := x.pc })
    match e.exc with
    | some v => .next (e.st.dspExc c v)
    | none =>
      let y := x.csrLand (x.loadLand (e.st.core c))
      let y := { y with ld := e.ld, cw := e.cw, ei := e.ei }
      .next ((e.st.setCore c (y.goOn x.pc e.nxt)).coreCycles c (5 * e.cyc))

/-- An instruction that only changes the core. -/
def State.alu (s : State) (c : Nat) (g : CoreSt → CoreSt) : Out := s.issue c .plain (fun s => { st := s.modCore c g })

/-! ## Arithmetic (Table 17.5) -/

/-- A 32-bit result that saturates, and whether it did. -/
def sat32 (v : Int) : Word × Bool :=
  if v < -(2 ^ 31 : Int) then (0x80000000, true) else if (2 ^ 31 : Int) ≤ v then (0x7FFFFFFF, true) else (BitVec.ofInt 32 v, false)

/-- A 72-bit accumulator value that saturates, and whether it did. -/
def sat72 (v : Int) : BitVec 72 × Bool :=
  if v < -(2 ^ 71 : Int) then (BitVec.ofInt 72 (-(2 ^ 71 : Int)), true)
  else if (2 ^ 71 : Int) ≤ v then (BitVec.ofInt 72 (2 ^ 71 - 1 : Int), true) else (BitVec.ofInt 72 v, false)

/-- A saturating result into G`d`; STATUS.SAT is sticky. -/
def CoreSt.putSat (x : CoreSt) (d : Nat) (r : Word × Bool) : CoreSt :=
  let x := x.setReg d r.1
  if r.2 then x.setStatus 3 true else x

/-- A saturating result into A`n`; STATUS.AOV is sticky. -/
def CoreSt.putAcc (x : CoreSt) (n : Nat) (r : BitVec 72 × Bool) : CoreSt :=
  let x := x.setA n r.1
  if r.2 then x.setStatus 2 true else x

/-- Leading zeros of a word, 32 for 0. -/
def clz32 (v : Word) : Nat := if v = 0 then 32 else 31 - v.toNat.log2

/-- One or 0. -/
def flagWord (p : Bool) : Word := if p then 1 else 0

/-- An ALU-R instruction: G`d` ← `f` of G`s'` and G`t`. -/
def State.aluR (s : State) (c d s' t : Nat) (f : Word → Word → Word) : Out := s.alu c (fun x => x.setReg d (f (x.reg s') (x.reg t)))

/-- An ALU-I instruction with its extended immediate. -/
def State.aluI (s : State) (c d s' : Nat) (imm : Word) (f : Word → Word → Word) : Out := s.alu c (fun x => x.setReg d (f (x.reg s') imm))

/-- A shift amount: bits 4:0. -/
def shamt (t : Word) : Nat := t.toNat % 32

/-! ## Quad products (R340) -/

/-- The four Y operands of pair G(2 × YP), swapped if asked. -/
def CoreSt.quadY (x : CoreSt) (yp : Nat) (sw : Bool) : List Int :=
  let a := x.reg (2 * yp)
  let b := x.reg (2 * yp + 1)
  let y0 := (a.extractLsb' 0 16).toInt
  let y1 := (a.extractLsb' 16 16).toInt
  let y2 := (b.extractLsb' 0 16).toInt
  let y3 := (b.extractLsb' 16 16).toInt
  if sw then [y1, y0, y3, y2] else [y0, y1, y2, y3]

/-- The four products of a quad instruction, steps 1 to 5. -/
def CoreSt.products (x : CoreSt) (xr : Nat) (xh : Bool) (yp : Nat) (sw : Bool) (neg : Nat) : List Int :=
  let v := ((x.reg xr).extractLsb' (if xh then 16 else 0) 16).toInt
  (x.quadY yp sw).zipIdx.map (fun (p : Int × Nat) =>
    let q := v * p.1 * (if x.frac then 2 else 1)
    if neg.testBit p.2 then -q else q)

/-- A quad instruction: the products are loaded, or added with saturation. -/
def CoreSt.quad (x : CoreSt) (add : Bool) (ps : List Int) : CoreSt :=
  ps.zipIdx.foldl (fun (y : CoreSt) (p : Int × Nat) => y.putAcc p.2 (sat72 (if add then (x.a p.2).toInt + p.1 else p.1))) x

/-! ## Branches (R341) -/

/-- A branch of core `c` to `off` instructions from itself, taken if `p` of G`s'`; untaken, it goes on after its two slots. -/
def State.branch (s : State) (c s' : Nat) (off : BitVec 19) (p : Int → Bool) : Out :=
  s.issue c .branch (fun s =>
    let x := s.core c
    let t := ((x.pc : Int) + 4 * off.toInt) % 2 ^ 18
    { st := s, nxt := .branch (if p (x.reg s').toInt then t.toNat else x.pc + 12) })

/-! ## Addressing (R343, Table 17.3) -/

/-- The low `k` bits of `i` reversed. -/
def revBits : Nat → Nat → Nat
  | 0, _ => 0
  | k + 1, i => i % 2 * 2 ^ k + revBits k (i / 2)

/-- Address used and the base register afterwards; none for modes 5 to 7. What mode 4 leaves with a K outside 1 to 16 is a free value (log 100). -/
def CoreSt.address (x : CoreSt) (a mode mc : Nat) (imm : BitVec 10) : Option (Nat × Word) :=
  let v := x.reg a
  let im : Word := imm.signExtend 32
  let mb := (x.csrGet (0x10 + mc % 4)).toNat
  let cfg := (x.csrGet (0x14 + mc % 4)).toNat
  match mode with
  | 0 => some ((v + im).toNat, v)
  | 1 => some (v.toNat, v + im)
  | 2 => some (v.toNat, v + x.reg (imm.toNat % 32))
  | 3 =>
    let len := cfg % 2 ^ 18
    let r := (v.toNat : Int) + imm.toInt
    let r := if ((mb + len : Nat) : Int) ≤ r then r - len else if r < mb then r + len else r
    some (v.toNat, BitVec.ofInt 32 r)
  | 4 =>
    let k := cfg / 2 ^ 24 % 32
    let es := cfg / 2 ^ 29 % 4
    let i := (v - BitVec.ofNat 32 mb).toNat / 2 ^ es
    some (v.toNat, if k = 0 || 16 < k then Config.bitRevOpen k v else BitVec.ofNat 32 (mb + revBits k ((revBits k i + 1) % 2 ^ k) * 2 ^ es))
  | _ => none

/-! ## Loads and stores (R336, R337, R343, R347, R374) -/

/-- What the errors found by core `c`'s load of `size` bytes at `a` do, where the load may be made (R154, R347). Answers whether the core takes MEMERR. -/
def State.loadErr (s : State) (c a size err : Nat) : State × Bool :=
  if s.frozen (1 + c) || s.breaks (1 + c) a false != 0 then (s, false) else (s.memErr a (size / 2) err, memUe a (size / 2) err)

/-- Cycles of a load at `a` by core `c` (Table 17.1, R337): a fabric load stalls for a time the manual bounds only. -/
def State.loadCycles (s : State) (c a : Nat) : Nat × State :=
  if dspMemAt a && ownerOf a = c then (if progAt a then 2 else 1, s)
  else if localAt (1 + c) a then (1, s)
  else
    (1 + Config.fabricStall s.fresh.1 % (if tunAt a then 3321 else 41), s.fresh.2)

/-- A load of core `c`: the address by Table 17.3, its alignment to `size` bytes, `err` found on the way, and the words or halves that `get` reads. A refused load
freezes the core, and the instruction does not complete. -/
def State.load (s : State) (c a mode mc : Nat) (imm : BitVec 10) (size err : Nat) (get : State → Nat → State × Option (List (Nat × Word))) : Out :=
  s.issue c .plain (fun s =>
    match (s.core c).address a mode mc imm with
    | none => { st := s, exc := some 0 }
    | some (ad, base) =>
      if ad % size != 0 then { st := s, exc := some 1 } else
      let r := s.loadErr c ad size err
      if r.2 then { st := r.1, exc := some 2 } else
      let g := get r.1 ad
      match g.2 with
      | none => { st := g.1, cyc := 0 }
      | some l =>
        let t := g.1.loadCycles c ad
        { st := t.2.modCore c (fun x => x.setReg a base), ld := l, cyc := t.1 })

/-- A store of core `c`, which `put` makes at the address. -/
def State.store (s : State) (c a mode mc : Nat) (imm : BitVec 10) (size : Nat) (put : State → Nat → State) : Out :=
  s.issue c .plain (fun s =>
    match (s.core c).address a mode mc imm with
    | none => { st := s, exc := some 0 }
    | some (ad, base) =>
      if ad % size != 0 then { st := s, exc := some 1 } else
      let s := put s ad
      { st := s.modCore c (fun x => { x.setReg a base with e1 := if s.frozen (1 + c) && !localAt (1 + c) ad then (x.pc + 4) % 2 ^ 18 else x.e1 }) })

/-- A pair read: two words, the lower address first; the second is not read if the first is refused (R374). -/
def State.readPair (s : State) (c d ad : Nat) : State × Option (List (Nat × Word)) :=
  let r := s.busRead (1 + c) ad
  match r.2 with
  | none => (r.1, none)
  | some v =>
    let q := r.1.busRead (1 + c) (ad + 4)
    (q.1, q.2.map (fun w => [(d / 2 * 2, v), (d / 2 * 2 + 1, w)]))

/-- A pair write: one access to a whole shot-plan entry, else two word writes (R374, R375). -/
def State.writePair (s : State) (c ad : Nat) (v w : Word) : State :=
  let s1 := s.busWrite (1 + c) ad v
  if s1.frozen (1 + c) || (planAt ad && s.planActive ad) then s1 else s1.busWrite (1 + c) (ad + 4) w

/-! ## Illegal words (R344) -/

/-- A word that names an instruction of Tables 17.4 and 17.5. -/
def legalWord (w : Word) : Bool :=
  let v := w.toNat
  match v / 2 ^ 28 with
  | 0 => v / 2 ^ 22 % 64 ≤ 0x13
  | 1 => v / 2 ^ 24 % 16 ≤ 8
  | 2 => v / 2 ^ 26 % 4 ≤ 1
  | 3 => v / 2 ^ 25 % 8 ≤ 6 && v / 2 ^ 12 % 8 ≤ 4
  | 4 => v / 2 ^ 25 % 8 ≤ 2
  | 5 => v / 2 ^ 25 % 8 ≤ 6
  | 6 => v / 2 ^ 24 % 16 ≤ 7
  | 7 => v / 2 ^ 26 % 4 ≤ 2
  | 8 => true
  | 9 => v / 2 ^ 24 % 16 ≤ 7
  | _ => false

/-- Row DSP_EXCEPTION: the fetch at core `c`'s program counter gives a word that names no instruction, or (`none`) an uncorrectable error (R344, R347). -/
def execDspException (c : Nat) (w : Option Word) (s : State) : Out :=
  if !s.issues c || w.any legalWord then .next s else
  let s := s.modCore c (fun x => { x with mode := 1 })
  match w with
  | some _ => .next (s.dspExc c 0)
  | none => .next ((s.dspUe c (coreBase c + (s.core c).pc)).dspExc c 2)

end Sys2Proof.Machine
end

