-- ==== Sys2Proof/Machine/DspInstr.lean ====
section
/-!
DEFINITION. The instructions of the signal-processing cores (Tables 17.4 and 17.5), one meaning each. The first operand of every one is the core.
-/
namespace Sys2Proof.Machine

/-! ## ALU-R -/

/-- Row ADD: d ← s + t. -/
def execDspAdd (c d s' t : Nat) (s : State) : Out := s.aluR c d s' t (· + ·)

/-- Row SUB: d ← s − t. -/
def execDspSub (c d s' t : Nat) (s : State) : Out := s.aluR c d s' t (· - ·)

/-- Row ADDS: d ← s + t, saturating. -/
def execDspAdds (c d s' t : Nat) (s : State) : Out := s.alu c (fun x => x.putSat d (sat32 ((x.reg s').toInt + (x.reg t).toInt)))

/-- Row SUBS: d ← s − t, saturating. -/
def execDspSubs (c d s' t : Nat) (s : State) : Out := s.alu c (fun x => x.putSat d (sat32 ((x.reg s').toInt - (x.reg t).toInt)))

/-- Row AND: bitwise. -/
def execDspAnd (c d s' t : Nat) (s : State) : Out := s.aluR c d s' t (· &&& ·)

/-- Row OR: bitwise. -/
def execDspOr (c d s' t : Nat) (s : State) : Out := s.aluR c d s' t (· ||| ·)

/-- Row XOR: bitwise. -/
def execDspXor (c d s' t : Nat) (s : State) : Out := s.aluR c d s' t (· ^^^ ·)

/-- Row SLL: s shifted left by t bits 4:0. -/
def execDspSll (c d s' t : Nat) (s : State) : Out := s.aluR c d s' t (fun u v => u <<< shamt v)

/-- Row SRL: s shifted right by t bits 4:0. -/
def execDspSrl (c d s' t : Nat) (s : State) : Out := s.aluR c d s' t (fun u v => u >>> shamt v)

/-- Row SRA: s shifted right arithmetically by t bits 4:0. -/
def execDspSra (c d s' t : Nat) (s : State) : Out := s.aluR c d s' t (fun u v => u.sshiftRight (shamt v))

/-- Row MIN: signed minimum. -/
def execDspMin (c d s' t : Nat) (s : State) : Out := s.aluR c d s' t (fun u v => if u.toInt ≤ v.toInt then u else v)

/-- Row MAX: signed maximum. -/
def execDspMax (c d s' t : Nat) (s : State) : Out := s.aluR c d s' t (fun u v => if u.toInt ≤ v.toInt then v else u)

/-- Row CMPLT: d ← 1 if s is below t, signed. -/
def execDspCmplt (c d s' t : Nat) (s : State) : Out := s.aluR c d s' t (fun u v => flagWord (decide (u.toInt < v.toInt)))

/-- Row CMPLTU: d ← 1 if s is below t, unsigned. -/
def execDspCmpltu (c d s' t : Nat) (s : State) : Out := s.aluR c d s' t (fun u v => flagWord (decide (u.toNat < v.toNat)))

/-- Row CMPEQ: d ← 1 if s equals t. -/
def execDspCmpeq (c d s' t : Nat) (s : State) : Out := s.aluR c d s' t (fun u v => flagWord (decide (u = v)))

/-- Row MULL: the low word of s × t. -/
def execDspMull (c d s' t : Nat) (s : State) : Out := s.aluR c d s' t (· * ·)

/-- Row MULH: the signed high word of s × t. -/
def execDspMulh (c d s' t : Nat) (s : State) : Out := s.aluR c d s' t (fun u v => BitVec.ofInt 32 (u.toInt * v.toInt / 2 ^ 32))

/-- Row ABS: the saturated absolute value of s. -/
def execDspAbs (c d s' : Nat) (s : State) : Out := s.alu c (fun x => x.putSat d (sat32 (x.reg s').toInt.natAbs))

/-- Row CLZ: the leading zeros of s, 32 for 0. -/
def execDspClz (c d s' : Nat) (s : State) : Out := s.alu c (fun x => x.setReg d (BitVec.ofNat 32 (clz32 (x.reg s'))))

/-- Row PACK: (t bits 15:0 ≪ 16) | s bits 15:0. -/
def execDspPack (c d s' t : Nat) (s : State) : Out := s.aluR c d s' t (fun u v => v.extractLsb' 0 16 ++ u.extractLsb' 0 16)

/-! ## ALU-I: the immediate is sign-extended, zero-extended for ANDI, ORI and XORI -/

/-- Row ADDI: d ← s + IMM. -/
def execDspAddi (c d s' : Nat) (imm : BitVec 14) (s : State) : Out := s.aluI c d s' (imm.signExtend 32) (· + ·)

/-- Row ANDI: d ← s AND IMM. -/
def execDspAndi (c d s' : Nat) (imm : BitVec 14) (s : State) : Out := s.aluI c d s' (imm.zeroExtend 32) (· &&& ·)

/-- Row ORI: d ← s OR IMM. -/
def execDspOri (c d s' : Nat) (imm : BitVec 14) (s : State) : Out := s.aluI c d s' (imm.zeroExtend 32) (· ||| ·)

/-- Row XORI: d ← s XOR IMM. -/
def execDspXori (c d s' : Nat) (imm : BitVec 14) (s : State) : Out := s.aluI c d s' (imm.zeroExtend 32) (· ^^^ ·)

/-- Row SLLI: s shifted left by IMM bits 4:0. -/
def execDspSlli (c d s' : Nat) (imm : BitVec 14) (s : State) : Out := s.aluI c d s' (imm.signExtend 32) (fun u v => u <<< shamt v)

/-- Row SRLI: s shifted right by IMM bits 4:0. -/
def execDspSrli (c d s' : Nat) (imm : BitVec 14) (s : State) : Out := s.aluI c d s' (imm.signExtend 32) (fun u v => u >>> shamt v)

/-- Row SRAI: s shifted right arithmetically by IMM bits 4:0. -/
def execDspSrai (c d s' : Nat) (imm : BitVec 14) (s : State) : Out := s.aluI c d s' (imm.signExtend 32) (fun u v => u.sshiftRight (shamt v))

/-- Row CMPLTI: d ← 1 if s is below IMM, signed. -/
def execDspCmplti (c d s' : Nat) (imm : BitVec 14) (s : State) : Out := s.aluI c d s' (imm.signExtend 32) (fun u v => flagWord (decide (u.toInt < v.toInt)))

/-- Row CMPEQI: d ← 1 if s equals IMM. -/
def execDspCmpeqi (c d s' : Nat) (imm : BitVec 14) (s : State) : Out := s.aluI c d s' (imm.signExtend 32) (fun u v => flagWord (decide (u = v)))

/-! ## MOVI -/

/-- Row MOVL: d ← IMM, sign-extended. -/
def execDspMovl (c d : Nat) (imm : BitVec 16) (s : State) : Out := s.alu c (fun x => x.setReg d (imm.signExtend 32))

/-- Row MOVH: d bits 31:16 ← IMM; the low half is kept. -/
def execDspMovh (c d : Nat) (imm : BitVec 16) (s : State) : Out := s.alu c (fun x => x.setReg d (imm ++ (x.reg d).extractLsb' 0 16))

/-! ## MEM: `err` is what a load finds in each of its half-words, base 4 (R336, errAt): 0 nothing, 1 an error it corrects, 2 one it cannot -/

/-- Row LDW: load word (R343). -/
def execDspLdw (c d a mode mc : Nat) (imm : BitVec 10) (err : Nat) (s : State) : Out :=
  s.load c a mode mc imm 4 err (fun s ad =>
    let r := s.busRead (1 + c) ad
    (r.1, r.2.map (fun v => [(d, v)])))

/-- Row LDH: load signed half (R343, R374). -/
def execDspLdh (c d a mode mc : Nat) (imm : BitVec 10) (err : Nat) (s : State) : Out :=
  s.load c a mode mc imm 2 err (fun s ad =>
    let r := s.busReadHalf (1 + c) ad
    (r.1, r.2.map (fun v => [(d, v.signExtend 32)])))

/-- Row LDHU: load unsigned half (R343, R374). -/
def execDspLdhu (c d a mode mc : Nat) (imm : BitVec 10) (err : Nat) (s : State) : Out :=
  s.load c a mode mc imm 2 err (fun s ad =>
    let r := s.busReadHalf (1 + c) ad
    (r.1, r.2.map (fun v => [(d, v.zeroExtend 32)])))

/-- Row LDD: load pair G_D:G_D+1, D even (R343, R374). -/
def execDspLdd (c d a mode mc : Nat) (imm : BitVec 10) (err : Nat) (s : State) : Out := s.load c a mode mc imm 8 err (fun s ad => s.readPair c d ad)

/-- Row STW: store word (R343). -/
def execDspStw (c d a mode mc : Nat) (imm : BitVec 10) (s : State) : Out := s.store c a mode mc imm 4 (fun s ad => s.busWrite (1 + c) ad ((s.core c).reg d))

/-- Row STH: store half (R343, R374). -/
def execDspSth (c d a mode mc : Nat) (imm : BitVec 10) (s : State) : Out := s.store c a mode mc imm 2 (fun s ad => s.busWriteHalf (1 + c) ad (((s.core c).reg d).extractLsb' 0 16))

/-- Row STD: store pair G_D:G_D+1, D even (R343, R374, R375). -/
def execDspStd (c d a mode mc : Nat) (imm : BitVec 10) (s : State) : Out := s.store c a mode mc imm 8 (fun s ad => s.writePair c ad ((s.core c).reg (d / 2 * 2)) ((s.core c).reg (d / 2 * 2 + 1)))

/-! ## QUAD (R340) -/

/-- Row QMPY: the four products are loaded into A0-A3. -/
def execDspQmpy (c xr : Nat) (xh : Bool) (yp : Nat) (sw : Bool) (neg : Nat) (s : State) : Out := s.alu c (fun x => x.quad false (x.products xr xh yp sw neg))

/-- Row QMAC: the four products are added to A0-A3. -/
def execDspQmac (c xr : Nat) (xh : Bool) (yp : Nat) (sw : Bool) (neg : Nat) (s : State) : Out := s.alu c (fun x => x.quad true (x.products xr xh yp sw neg))

/-- Row QCLR: A0-A3 ← 0. -/
def execDspQclr (c : Nat) (s : State) : Out := s.alu c (fun x => { x with acc := [] })

/-! ## ACC -/

/-- Row MVA: G ← sat32((A_N + rounding) ≫ SH). -/
def execDspMva (c g n : Nat) (rnd : Bool) (sh : Nat) (s : State) : Out :=
  s.alu c (fun x => x.putSat g (sat32 (((x.a n).toInt + (if rnd && 0 < sh then 2 ^ (sh - 1) else 0 : Int)) / 2 ^ sh)))

/-- Row MVAL: G ← A_N bits 31:0. -/
def execDspMval (c g n : Nat) (s : State) : Out := s.alu c (fun x => x.setReg g ((x.a n).extractLsb' 0 32))

/-- Row MVAH: G ← A_N bits 63:32. -/
def execDspMvah (c g n : Nat) (s : State) : Out := s.alu c (fun x => x.setReg g ((x.a n).extractLsb' 32 32))

/-- Row MVAG: G ← sext(A_N bits 71:64). -/
def execDspMvag (c g n : Nat) (s : State) : Out := s.alu c (fun x => x.setReg g (((x.a n).extractLsb' 64 8).signExtend 32))

/-- Row MTA: A_N ← sext72(G) ≪ SH. -/
def execDspMta (c g n sh : Nat) (s : State) : Out := s.alu c (fun x => x.setA n ((x.reg g).signExtend 72 <<< sh))

/-- Row ADDA: A_N ← A_N + A_M, saturating. -/
def execDspAdda (c n m : Nat) (s : State) : Out := s.alu c (fun x => x.putAcc n (sat72 ((x.a n).toInt + (x.a m).toInt)))

/-- Row SHA: A_N ← A_N ≫ SH, or ≪ SH if LEFT, saturating. -/
def execDspSha (c n : Nat) (left : Bool) (sh : Nat) (s : State) : Out :=
  s.alu c (fun x => x.putAcc n (sat72 (if left then (x.a n).toInt * 2 ^ sh else (x.a n).toInt / 2 ^ sh)))

/-! ## BRANCH and JREG (R341) -/

/-- Row BRA: branch always. -/
def execDspBra (c s' : Nat) (off : BitVec 19) (s : State) : Out := s.branch c s' off (fun _ => true)

/-- Row BEQ: branch if G_s = 0. -/
def execDspBeq (c s' : Nat) (off : BitVec 19) (s : State) : Out := s.branch c s' off (fun v => decide (v = 0))

/-- Row BNE: branch if G_s is not 0. -/
def execDspBne (c s' : Nat) (off : BitVec 19) (s : State) : Out := s.branch c s' off (fun v => decide (v ≠ 0))

/-- Row BLT: branch if G_s is below 0. -/
def execDspBlt (c s' : Nat) (off : BitVec 19) (s : State) : Out := s.branch c s' off (fun v => decide (v < 0))

/-- Row BGE: branch if G_s is at least 0. -/
def execDspBge (c s' : Nat) (off : BitVec 19) (s : State) : Out := s.branch c s' off (fun v => decide (0 ≤ v))

/-- Row BGT: branch if G_s is above 0. -/
def execDspBgt (c s' : Nat) (off : BitVec 19) (s : State) : Out := s.branch c s' off (fun v => decide (0 < v))

/-- Row BLE: branch if G_s is at most 0. -/
def execDspBle (c s' : Nat) (off : BitVec 19) (s : State) : Out := s.branch c s' off (fun v => decide (v ≤ 0))

/-- Row CALL: G31 ← branch address + 12; always taken. -/
def execDspCall (c : Nat) (off : BitVec 19) (s : State) : Out :=
  s.issue c .branch (fun s =>
    let x := s.core c
    { st := s.setCore c (x.setReg 31 (BitVec.ofNat 32 (x.pc + 12))), nxt := .branch (((x.pc : Int) + 4 * off.toInt) % 2 ^ 18).toNat })

/-- Row JR: PC ← G_s. -/
def execDspJr (c s' : Nat) (s : State) : Out := s.issue c .branch (fun s => { st := s, nxt := .branch ((s.core c).reg s').toNat })

/-- Row JALR: G31 ← address + 12, PC ← G_s. -/
def execDspJalr (c s' : Nat) (s : State) : Out :=
  s.issue c .branch (fun s =>
    let x := s.core c
    { st := s.setCore c (x.setReg 31 (BitVec.ofNat 32 (x.pc + 12))), nxt := .branch (x.reg s').toNat })

/-- Row RTI: PC ← EPC, IE ← PIE, FRAC ← PFRAC; no delay slots, 3 cycles. -/
def execDspRti (c : Nat) (s : State) : Out :=
  s.issue c .rti (fun s =>
    let x := s.core c
    let y := { (x.setStatus 0 ((x.csrGet 2).getLsbD 7)).setStatus 1 ((x.csrGet 2).getLsbD 8) with inExc := false }
    { st := s.setCore c y, nxt := .goto (x.csrGet 1).toNat, cyc := 3 })

/-! ## SYS -/

/-- Row NOP: no operation. -/
def execDspNop (c : Nat) (s : State) : Out := s.alu c (fun x => x)

/-- Row IDLE: the core's clock stops until an enabled line is pending (R346). -/
def execDspIdle (c : Nat) (s : State) : Out := s.issue c .idle (fun s => { st := s, nxt := .idle })

/-- Row EI: interrupts are taken from the second instruction after it. -/
def execDspEi (c : Nat) (s : State) : Out := s.issue c .plain (fun s => { st := s.modCore c (fun x => x.setStatus 0 true), ei := true })

/-- Row DI: no interrupt is taken from here on. -/
def execDspDi (c : Nat) (s : State) : Out := s.alu c (fun x => x.setStatus 0 false)

/-- Row CSRR: G ← CSR; a read of CYCLO latches CYCHI (R339, Table 17.2). -/
def execDspCsrr (c g n : Nat) (s : State) : Out :=
  s.issue c .plain (fun s =>
    if !csrListed n then { st := s, exc := some 0 } else
    let v := s.csrRead c n
    { st := s.modCore c (fun x => let x := x.setReg g v
                                  if n = 6 then { x with cycHi := BitVec.ofNat 32 (x.cycles / 2 ^ 32) } else x) })

/-- Row CSRW: CSR ← G, for the second instruction after it; INTPEND at once, its event lines cleared by 1 (R339). -/
def execDspCsrw (c g n : Nat) (s : State) : Out :=
  s.issue c .plain (fun s =>
    if !csrListed n then { st := s, exc := some 0 } else
    let v := (s.core c).reg g
    if n = 5 then { st := (s.withLines (SMap.set (fun _ => 0) s.lines c (((BitVec.ofNat 32 (SMap.get (fun _ => 0) s.lines c)) &&& ~~~v).toNat))) }
    else { st := s, cw := if csrDelayed n then [(n, v)] else [] })

/-- Row TRAP: the TRAP exception (R347). -/
def execDspTrap (c : Nat) (s : State) : Out := s.issue c .trap (fun s => { st := s, exc := some 3 })

/-- Row SYNC: the posted stores have completed (R337): stores complete as they are made here. -/
def execDspSync (c : Nat) (s : State) : Out := s.alu c (fun x => x)

/-! ## RPT (R342) -/

/-- A count: the immediate plus 1, or a register, at most 65,536. -/
def CoreSt.count (x : CoreSt) (src : Option Nat) (n1 : Nat) : Nat :=
  match src with
  | none => n1 + 1
  | some r => min 65536 (x.reg r).toNat

/-- Row REPEAT: the next instruction issues n times; the count is `n1` + 1 or a register's. -/
def execDspRepeat (c : Nat) (src : Option Nat) (n1 : Nat) (s : State) : Out :=
  s.issue c .rep (fun s => { st := s, nxt := .rep ((s.core c).count src (n1 % 65536)) })

/-- Row LOOP: the body of `len1` + 1 instructions issues n times. A nested body that does not end before the outer one has no effect in the manual. -/
def execDspLoop (c : Nat) (src : Option Nat) (len1 n1 : Nat) (s : State) : Out :=
  let len := len1 % 2048 + 1
  if s.issues c && !(s.core c).illegalHere .loop && (s.core c).loops.any (fun l => decide (l.last ≤ (s.core c).pc + 4 * len)) then .fault .loopBodyForbidden
  else s.issue c .loop (fun s => { st := s, nxt := .loop len ((s.core c).count src (n1 % 1024)) })

end Sys2Proof.Machine
end

