-- ==== Sys2Proof/Machine/Dispatch.lean ====
section
/-!
DEFINITION. What each command does: one arm per constructor, one direct call of its meaning.
-/
namespace Sys2Proof.Machine

/-- The effect of a command on everything but the queue. -/
def exec (i : Instr) (s : State) : Host.Outcome State Fault Refusal :=
  match i with
  | .vinRise => Sys2Proof.Machine.execVinRise s
  | .brownout => Sys2Proof.Machine.execBrownout s
  | .por vbat => Sys2Proof.Machine.execPor vbat s
  | .railGood r => Sys2Proof.Machine.execRailGood r s
  | .railFailure r => Sys2Proof.Machine.execRailFailure r s
  | .xt32Qualified => Sys2Proof.Machine.execXt32Qualified s
  | .xt32Fail => Sys2Proof.Machine.execXt32Fail s
  | .xt32Timeout => Sys2Proof.Machine.execXt32Timeout s
  | .pllaLock => Sys2Proof.Machine.execPllaLock s
  | .pllbLock => Sys2Proof.Machine.execPllbLock s
  | .pllaLossOfLock => Sys2Proof.Machine.execPllaLossOfLock s
  | .pllaRelockTimeout => Sys2Proof.Machine.execPllaRelockTimeout s
  | .pllbLossOfLock => Sys2Proof.Machine.execPllbLossOfLock s
  | .rstNLow => Sys2Proof.Machine.execRstNLow s
  | .rstNStuck => Sys2Proof.Machine.execRstNStuck s
  | .rstNRearm => Sys2Proof.Machine.execRstNRearm s
  | .resetAssert => Sys2Proof.Machine.execResetAssert s
  | .resetRelease tgt rstn straps => Sys2Proof.Machine.execResetRelease tgt rstn straps s
  | .optionLoadDone read => Sys2Proof.Machine.execOptionLoadDone read s
  | .pinTestDone steps offs cross => Sys2Proof.Machine.execPinTestDone steps offs cross s
  | .imagePassDone => Sys2Proof.Machine.execImagePassDone s
  | .signatureCheckDone => Sys2Proof.Machine.execSignatureCheckDone s
  | .flashNoResponse k => Sys2Proof.Machine.execFlashNoResponse s k
  | .destClearDone => Sys2Proof.Machine.execDestClearDone s
  | .loaderCommit => Sys2Proof.Machine.execLoaderCommit s
  | .tdcBootRunEnd hits => Sys2Proof.Machine.execTdcBootRunEnd hits s
  | .bgcalMapStaged c t => Sys2Proof.Machine.execBgcalMapStaged c t s
  | .sealNChange low => Sys2Proof.Machine.execSealNChange low s
  | .scanEntry t => Sys2Proof.Machine.execScanEntry t s
  | .tunClearDone t bad fue => Sys2Proof.Machine.execTunClearDone t bad fue s
  | .scanLeave t => Sys2Proof.Machine.execScanLeave t s
  | .parkEnter t => Sys2Proof.Machine.execParkEnter t s
  | .parkExit => Sys2Proof.Machine.execParkExit s
  | .msnsSample convs t bad fue => Sys2Proof.Machine.execMsnsSample convs t bad fue s
  | .sweepStart t => Sys2Proof.Machine.execSweepStart t s
  | .strokeEnd t => Sys2Proof.Machine.execStrokeEnd t s
  | .kilnGrant now bad => Sys2Proof.Machine.execKilnGrant now bad s
  | .trigger t bad fue => Sys2Proof.Machine.execTrigger t bad fue s
  | .stareTrigger t bad fue => Sys2Proof.Machine.execStareTrigger t bad fue s
  | .holdoffExpiry t bad fue => Sys2Proof.Machine.execHoldoffExpiry t bad s fue
  | .clusterPowerOn k t => Sys2Proof.Machine.execClusterPowerOn k s t
  | .clusterPowerOff k t => Sys2Proof.Machine.execClusterPowerOff k s t
  | .ambientGateOpen c => Sys2Proof.Machine.execAmbientGateOpen c s
  | .ambientGateMidpoint c => Sys2Proof.Machine.execAmbientGateMidpoint c s
  | .ambientGateClose c => Sys2Proof.Machine.execAmbientGateClose c s
  | .emxFrameSend t => Sys2Proof.Machine.execEmxFrameSend t s
  | .emxFrameConfirm t echo status => Sys2Proof.Machine.execEmxFrameConfirm t echo status s
  | .chargeString n v t => Sys2Proof.Machine.execChargeString n v s t
  | .chgSelOff n => Sys2Proof.Machine.execChgSelOff n s
  | .shotReadyCheck n v => Sys2Proof.Machine.execShotReadyCheck n v s
  | .emissionLimitDecide n mismatch => Sys2Proof.Machine.execEmissionLimitDecide n mismatch s
  | .fire n t => Sys2Proof.Machine.execFire n t s
  | .windowClose k t => Sys2Proof.Machine.execWindowClose k t s
  | .zoomPlace k => Sys2Proof.Machine.execZoomPlace k s
  | .shotMonitorBurst n => Sys2Proof.Machine.execShotMonitorBurst n s
  | .shotVerdict n convs => Sys2Proof.Machine.execShotVerdict n convs s
  | .periodicProbeDue n => Sys2Proof.Machine.execPeriodicProbeDue n s
  | .chargeSupplyTrip n v isns dur => Sys2Proof.Machine.execChargeSupplyTrip s n v isns dur
  | .rxEvent c sp ps tap avs => Sys2Proof.Machine.execRxEvent c sp ps tap s avs
  | .thinLevelFall k t => Sys2Proof.Machine.execThinLevelFall k t s
  | .mashDrain k t par errs => Sys2Proof.Machine.execMashDrain k t par s errs
  | .histogramClose j errs => Sys2Proof.Machine.execHistogramClose j errs s
  | .spargeEnd t => Sys2Proof.Machine.execSpargeEnd t s
  | .lauterExtractDone c => Sys2Proof.Machine.execLauterExtractDone c s
  | .echoRecordEmit st => Sys2Proof.Machine.execEchoRecordEmit st s
  | .datagramCloseTimeout => Sys2Proof.Machine.execDatagramCloseTimeout s
  | .datagramSend stream err => Sys2Proof.Machine.execDatagramSend stream s err
  | .datagramDiscard => Sys2Proof.Machine.execDatagramDiscard s
  | .dwlPointFrame err => Sys2Proof.Machine.execDwlPointFrame err s
  | .dwlLrsFrame => Sys2Proof.Machine.execDwlLrsFrame s
  | .dwlCreditReceive lane ccum ok => Sys2Proof.Machine.execDwlCreditReceive lane ccum ok s
  | .dwlCreditTimeout old => Sys2Proof.Machine.execDwlCreditTimeout old s
  | .laneAlignAcquired n => Sys2Proof.Machine.execLaneAlignAcquired n s
  | .laneCodeError n good kind lost => Sys2Proof.Machine.execLaneCodeError n good kind s lost
  | .laneAdaptDone n eyes d1 d2 d3 => Sys2Proof.Machine.execLaneAdaptDone n eyes d1 d2 d3 s
  | .eyeMeasure n h v d1 d2 d3 => Sys2Proof.Machine.execEyeMeasure n h v d1 d2 d3 s
  | .lanePllLock => Sys2Proof.Machine.execLanePllLock s
  | .lanePllLoss => Sys2Proof.Machine.execLanePllLoss s
  | .ethLinkChange p up refused => Sys2Proof.Machine.execEthLinkChange p up refused s
  | .ethFrameReceive p fr fcs d => Sys2Proof.Machine.execEthFrameReceive p fr fcs d s
  | .arpRefresh p ip => Sys2Proof.Machine.execArpRefresh p ip s
  | .prpSupervisionSend => Sys2Proof.Machine.execPrpSupervisionSend s
  | .prpEntryForget mac => Sys2Proof.Machine.execPrpEntryForget mac s
  | .timeOffsetApply => Sys2Proof.Machine.execTimeOffsetApply s
  | .ppsPulse => Sys2Proof.Machine.execPpsPulse s
  | .ppsPulseEnd => Sys2Proof.Machine.execPpsPulseEnd s
  | .tinEdge m rising tap => Sys2Proof.Machine.execTinEdge m rising tap s
  | .tinInterpCal n h => Sys2Proof.Machine.execTinInterpCal n h s
  | .adc0RefReady => Sys2Proof.Machine.execAdc0RefReady s
  | .adc0RefFail => Sys2Proof.Machine.execAdc0RefFail s
  | .adc0ReqTrigger n t => Sys2Proof.Machine.execAdc0ReqTrigger n t s
  | .adc0BurstDone n convs => Sys2Proof.Machine.execAdc0BurstDone n convs s
  | .firOutput t convs => Sys2Proof.Machine.execFirOutput t s convs
  | .afeConversionDone m x => Sys2Proof.Machine.execAfeConversionDone m x s
  | .thermScan readings => Sys2Proof.Machine.execThermScan readings s
  | .dieHardTrip => Sys2Proof.Machine.execDieHardTrip s
  | .dieHardTripClear => Sys2Proof.Machine.execDieHardTripClear s
  | .soutStageTrip => Sys2Proof.Machine.execSoutStageTrip s
  | .chgGateTrip => Sys2Proof.Machine.execChgGateTrip s
  | .vspadOvervoltage above => Sys2Proof.Machine.execVspadOvervoltage s above
  | .ctlTick vspad mexc limit vin pin => Sys2Proof.Machine.execCtlTick vspad mexc limit vin pin s
  | .chargeGroupEvaluate n => Sys2Proof.Machine.execChargeGroupEvaluate n s
  | .kilnDecayStep => Sys2Proof.Machine.execKilnDecayStep s
  | .eyeSubwindow => Sys2Proof.Machine.execEyeSubwindow s
  | .eyeInitEnd => Sys2Proof.Machine.execEyeInitEnd s
  | .nvmWriteDone fail => Sys2Proof.Machine.execNvmWriteDone fail s
  | .scrubStep mem a err => Sys2Proof.Machine.execScrubStep mem a err s
  | .enEdge ch level => Sys2Proof.Machine.execEnEdge ch level s
  | .enDiscSample => Sys2Proof.Machine.execEnDiscSample s
  | .guardOutputsOn => Sys2Proof.Machine.execGuardOutputsOn s
  | .offPulseStart => Sys2Proof.Machine.execOffPulseStart s
  | .offPulseEnd rbA rbB => Sys2Proof.Machine.execOffPulseEnd rbA rbB s
  | .readbackSample rbA rbB limA limB => Sys2Proof.Machine.execReadbackSample rbA rbB limA limB s
  | .edmTimeout => Sys2Proof.Machine.execEdmTimeout s
  | .guardCrcPass ue => Sys2Proof.Machine.execGuardCrcPass ue s
  | .ampEthDatagram p par => Sys2Proof.Machine.execAmpEthDatagram p s par
  | .ampDwlSideband lane ws crcOk => Sys2Proof.Machine.execAmpDwlSideband lane ws crcOk s
  | .mspiWrite m crc => Sys2Proof.Machine.execMspiWrite m crc s
  | .mspiRead all => Sys2Proof.Machine.execMspiRead all s
  | .mspiStatus => Sys2Proof.Machine.execMspiStatus s
  | .ampWindowEnd src => Sys2Proof.Machine.execAmpWindowEnd src s
  | .get errs => Sys2Proof.Machine.execGet errs s
  | .set => Sys2Proof.Machine.execSet s
  | .logRead => Sys2Proof.Machine.execLogRead s
  | .start => Sys2Proof.Machine.execStart s
  | .stop => Sys2Proof.Machine.execStop s
  | .park => Sys2Proof.Machine.execPark s
  | .reset => Sys2Proof.Machine.execReset s
  | .ampResetEffect => Sys2Proof.Machine.execAmpResetEffect s
  | .auth => Sys2Proof.Machine.execAuth s
  | .guardChangeBegin => Sys2Proof.Machine.execGuardChangeBegin s
  | .guardChangeData => Sys2Proof.Machine.execGuardChangeData s
  | .guardChangeCommit => Sys2Proof.Machine.execGuardChangeCommit s
  | .guardChangeAbort => Sys2Proof.Machine.execGuardChangeAbort s
  | .guardSessionTimeout => Sys2Proof.Machine.execGuardSessionTimeout s
  | .authLockoutEnd => Sys2Proof.Machine.execAuthLockoutEnd s
  | .caskInfo => Sys2Proof.Machine.execCaskInfo s
  | .flCmdErase => Sys2Proof.Machine.execFlCmdErase s
  | .flCmdProgram => Sys2Proof.Machine.execFlCmdProgram s
  | .flCmdRead => Sys2Proof.Machine.execFlCmdRead s
  | .flashCmdDone left => Sys2Proof.Machine.execFlashCmdDone left s
  | .optCmd key => Sys2Proof.Machine.execOptCmd key s
  | .emitLostclr key => Sys2Proof.Machine.execEmitLostclr key s
  | .rxCalRun => Sys2Proof.Machine.execRxCalRun s
  | .rxCapctlArm => Sys2Proof.Machine.execRxCapctlArm s
  | .mashSnapctlArm ch => Sys2Proof.Machine.execMashSnapctlArm ch s
  | .ctlCommit => Sys2Proof.Machine.execCtlCommit s
  | .adc0ReqGo n => Sys2Proof.Machine.execAdc0ReqGo n s
  | .adc0FirCommit => Sys2Proof.Machine.execAdc0FirCommit s
  | .adc0EvhiRead => Sys2Proof.Machine.execAdc0EvhiRead s
  | .tinQhiRead n => Sys2Proof.Machine.execTinQhiRead n s
  | .tinCfgWrite n v => Sys2Proof.Machine.execTinCfgWrite n v s
  | .timeNsRead => Sys2Proof.Machine.execTimeNsRead s
  | .timeIncWrite v => Sys2Proof.Machine.execTimeIncWrite v s
  | .timeOfsWrite v => Sys2Proof.Machine.execTimeOfsWrite v s
  | .timeCtrlWrite m v => Sys2Proof.Machine.execTimeCtrlWrite m v s
  | .timePpsWrite v => Sys2Proof.Machine.execTimePpsWrite v s
  | .wortAnchShiWrite v => Sys2Proof.Machine.execWortAnchShiWrite v s
  | .ethTxcmdGo p v => Sys2Proof.Machine.execEthTxcmdGo p v s
  | .ethQpop p => Sys2Proof.Machine.execEthQpop p s
  | .ethTxts2Read p => Sys2Proof.Machine.execEthTxts2Read p s
  | .ethModeWrite p v => Sys2Proof.Machine.execEthModeWrite p v s
  | .wdtkick c v => Sys2Proof.Machine.execWdtkick c v s
  | .mbox7Write c v => Sys2Proof.Machine.execMbox7Write c v s
  | .dmaGo n => Sys2Proof.Machine.execDmaGo n s
  | .dmaDone n errs => Sys2Proof.Machine.execDmaDone n s errs
  | .caskLrsgo => Sys2Proof.Machine.execCaskLrsgo s
  | .lrsRecordIssue => Sys2Proof.Machine.execLrsRecordIssue s
  | .caskApply => Sys2Proof.Machine.execCaskApply s
  | .caskCopyBackDone => Sys2Proof.Machine.execCaskCopyBackDone s
  | .registerWrite m a v => Sys2Proof.Machine.execRegisterWrite m a v s
  | .wdtExpiry c => Sys2Proof.Machine.execWdtExpiry c s
  | .dspCoreStart c cause => Sys2Proof.Machine.execDspCoreStart c cause s
  | .dspInterruptEntry c => Sys2Proof.Machine.execDspInterruptEntry c s
  | .dspException c w => Sys2Proof.Machine.execDspException c w s
  | .tapColumnDone c => Sys2Proof.Machine.execTapColumnDone c s
  | .dspAdd c d s' t => Sys2Proof.Machine.execDspAdd c d s' t s
  | .dspSub c d s' t => Sys2Proof.Machine.execDspSub c d s' t s
  | .dspAdds c d s' t => Sys2Proof.Machine.execDspAdds c d s' t s
  | .dspSubs c d s' t => Sys2Proof.Machine.execDspSubs c d s' t s
  | .dspAnd c d s' t => Sys2Proof.Machine.execDspAnd c d s' t s
  | .dspOr c d s' t => Sys2Proof.Machine.execDspOr c d s' t s
  | .dspXor c d s' t => Sys2Proof.Machine.execDspXor c d s' t s
  | .dspSll c d s' t => Sys2Proof.Machine.execDspSll c d s' t s
  | .dspSrl c d s' t => Sys2Proof.Machine.execDspSrl c d s' t s
  | .dspSra c d s' t => Sys2Proof.Machine.execDspSra c d s' t s
  | .dspMin c d s' t => Sys2Proof.Machine.execDspMin c d s' t s
  | .dspMax c d s' t => Sys2Proof.Machine.execDspMax c d s' t s
  | .dspCmplt c d s' t => Sys2Proof.Machine.execDspCmplt c d s' t s
  | .dspCmpltu c d s' t => Sys2Proof.Machine.execDspCmpltu c d s' t s
  | .dspCmpeq c d s' t => Sys2Proof.Machine.execDspCmpeq c d s' t s
  | .dspMull c d s' t => Sys2Proof.Machine.execDspMull c d s' t s
  | .dspMulh c d s' t => Sys2Proof.Machine.execDspMulh c d s' t s
  | .dspAbs c d s' => Sys2Proof.Machine.execDspAbs c d s' s
  | .dspClz c d s' => Sys2Proof.Machine.execDspClz c d s' s
  | .dspPack c d s' t => Sys2Proof.Machine.execDspPack c d s' t s
  | .dspAddi c d s' imm => Sys2Proof.Machine.execDspAddi c d s' imm s
  | .dspAndi c d s' imm => Sys2Proof.Machine.execDspAndi c d s' imm s
  | .dspOri c d s' imm => Sys2Proof.Machine.execDspOri c d s' imm s
  | .dspXori c d s' imm => Sys2Proof.Machine.execDspXori c d s' imm s
  | .dspSlli c d s' imm => Sys2Proof.Machine.execDspSlli c d s' imm s
  | .dspSrli c d s' imm => Sys2Proof.Machine.execDspSrli c d s' imm s
  | .dspSrai c d s' imm => Sys2Proof.Machine.execDspSrai c d s' imm s
  | .dspCmplti c d s' imm => Sys2Proof.Machine.execDspCmplti c d s' imm s
  | .dspCmpeqi c d s' imm => Sys2Proof.Machine.execDspCmpeqi c d s' imm s
  | .dspMovl c d imm => Sys2Proof.Machine.execDspMovl c d imm s
  | .dspMovh c d imm => Sys2Proof.Machine.execDspMovh c d imm s
  | .dspLdw c d a mode mc imm err => Sys2Proof.Machine.execDspLdw c d a mode mc imm err s
  | .dspLdh c d a mode mc imm err => Sys2Proof.Machine.execDspLdh c d a mode mc imm err s
  | .dspLdhu c d a mode mc imm err => Sys2Proof.Machine.execDspLdhu c d a mode mc imm err s
  | .dspLdd c d a mode mc imm err => Sys2Proof.Machine.execDspLdd c d a mode mc imm err s
  | .dspStw c d a mode mc imm => Sys2Proof.Machine.execDspStw c d a mode mc imm s
  | .dspSth c d a mode mc imm => Sys2Proof.Machine.execDspSth c d a mode mc imm s
  | .dspStd c d a mode mc imm => Sys2Proof.Machine.execDspStd c d a mode mc imm s
  | .dspQmpy c xr xh yp sw neg => Sys2Proof.Machine.execDspQmpy c xr xh yp sw neg s
  | .dspQmac c xr xh yp sw neg => Sys2Proof.Machine.execDspQmac c xr xh yp sw neg s
  | .dspQclr c => Sys2Proof.Machine.execDspQclr c s
  | .dspMva c g n rnd sh => Sys2Proof.Machine.execDspMva c g n rnd sh s
  | .dspMval c g n => Sys2Proof.Machine.execDspMval c g n s
  | .dspMvah c g n => Sys2Proof.Machine.execDspMvah c g n s
  | .dspMvag c g n => Sys2Proof.Machine.execDspMvag c g n s
  | .dspMta c g n sh => Sys2Proof.Machine.execDspMta c g n sh s
  | .dspAdda c n m => Sys2Proof.Machine.execDspAdda c n m s
  | .dspSha c n left sh => Sys2Proof.Machine.execDspSha c n left sh s
  | .dspBra c s' off => Sys2Proof.Machine.execDspBra c s' off s
  | .dspBeq c s' off => Sys2Proof.Machine.execDspBeq c s' off s
  | .dspBne c s' off => Sys2Proof.Machine.execDspBne c s' off s
  | .dspBlt c s' off => Sys2Proof.Machine.execDspBlt c s' off s
  | .dspBge c s' off => Sys2Proof.Machine.execDspBge c s' off s
  | .dspBgt c s' off => Sys2Proof.Machine.execDspBgt c s' off s
  | .dspBle c s' off => Sys2Proof.Machine.execDspBle c s' off s
  | .dspCall c off => Sys2Proof.Machine.execDspCall c off s
  | .dspJr c s' => Sys2Proof.Machine.execDspJr c s' s
  | .dspJalr c s' => Sys2Proof.Machine.execDspJalr c s' s
  | .dspRti c => Sys2Proof.Machine.execDspRti c s
  | .dspNop c => Sys2Proof.Machine.execDspNop c s
  | .dspIdle c => Sys2Proof.Machine.execDspIdle c s
  | .dspEi c => Sys2Proof.Machine.execDspEi c s
  | .dspDi c => Sys2Proof.Machine.execDspDi c s
  | .dspCsrr c g n => Sys2Proof.Machine.execDspCsrr c g n s
  | .dspCsrw c g n => Sys2Proof.Machine.execDspCsrw c g n s
  | .dspTrap c => Sys2Proof.Machine.execDspTrap c s
  | .dspSync c => Sys2Proof.Machine.execDspSync c s
  | .dspRepeat c src n1 => Sys2Proof.Machine.execDspRepeat c src n1 s
  | .dspLoop c src len1 n1 => Sys2Proof.Machine.execDspLoop c src len1 n1 s
  | .timeCounterWrap => Sys2Proof.Machine.execTimeCounterWrap s
  | .ethFrameTransmitDone p d par => Sys2Proof.Machine.execEthFrameTransmitDone p d s par
  | .timerCompareMatch c => Sys2Proof.Machine.execTimerCompareMatch c s
  | .edmLevelChange level => Sys2Proof.Machine.execEdmLevelChange level s
  | .boundaryScanInstruction ir ins dr => Sys2Proof.Machine.execBoundaryScanInstruction ir s ins dr

end Sys2Proof.Machine
end

