-- ==== Sys2Proof/Machine/Step.lean ====
section
/-!
DEFINITION. One step: the command at the front of the queue, or with no command a TCLK period of 4 ns.
-/
namespace Sys2Proof.Machine

/-- A TCLK edge with no command waiting: the time counter, the DWL lanes and the cores' cycle counters go on (DESIGN CHOICE, assumption log 1). -/
def State.idleTick (s : State) : State := s.tclkTick.coreTick

/-- Take the command at the front of the queue and run it on the state with the rest of the queue; on an empty queue, time goes on. -/
def step (s : State) : Host.Outcome State Fault Refusal :=
  match s.pending with
  | [] => .next s.idleTick
  | c :: q => exec c { s with pending := q }

/-- The state with the command that a table word spells put at the front of its queue; a word spells none (R372 and the table give no bits). -/
def State.withFetchWord (s : State) (nbits w : Nat) : State :=
  match decodeTableWord nbits w with
  | none => s
  | some c => { s with pending := c :: s.pending }

end Sys2Proof.Machine
end

