-- ==== Sys2Proof/Safety.lean ====
section
/-!
DEFINITION. What the claims call a sound state, and what they call emitting and enabling.
-/
namespace Sys2Proof.Machine

/-- The memories hold their canonical form: addresses strictly rising, no entry equal to what an unlisted address reads as. -/
def State.memOk (s : State) : Bool := Memory.wf s.mem && SMap.wf flashDefault s.flash

/-- On `s`, command `c` answers a next state, and `P` holds of it. -/
def Answers (c : Instr) (s : State) (P : State → Prop) : Prop := ∃ t, exec c s = .next t ∧ P t

/-- Every register but those at the addresses `l` holds in `t` what it holds in `s`. -/
def State.regsBut (l : List Nat) (s t : State) : Prop := ∀ a, a ∉ l → t.rget a = s.rget a

/-- The cause bit `c` is set (R354, R355). -/
def State.causeSet (s : State) (c : Cause) : Bool := s.b ⟨causeReg c.blk c.bit, c.bit, 1⟩

/-- The commands that may store in plan, field map and DSP memory: bus writes of a master, of the agent, of a DMA engine and of a core, the LOADER's, the tap rings that
a column's end writes, and the resets that clear a memory. -/
def storing : Instr → Bool
  | .por .. | .xt32Fail | .xt32Timeout | .resetAssert | .optionLoadDone .. | .pinTestDone .. | .imagePassDone | .destClearDone => true
  | .scanEntry .. | .tunClearDone .. | .scanLeave .. | .parkEnter .. | .msnsSample .. | .trigger .. | .stareTrigger .. | .emxFrameConfirm .. | .spargeEnd .. => true
  | .set | .guardChangeData | .dmaDone .. | .registerWrite .. | .tapColumnDone .. | .dspStw .. | .dspSth .. | .dspStd .. => true
  | _ => false

/-- SOUT_A and SOUT_B are on. -/
def State.soutOn (s : State) : Bool := s.b Fld.GUARD_STAT_ON

/-- The emitters are locked off: no state but SCAN lets a string be charged or fired, nor does a pin-test lock, a charge trip, a hard trip or an unlocked PLLA. -/
def State.emittersOff (s : State) : Bool :=
  s.dev != .scan || s.b Fld.TOP_PINTEST_LOCK || s.b Fld.PWR_FAULT_CHG_TRIP || s.b Fld.THERM_STAT_HARD || !s.b Fld.CLK_STATUS_PLLA_LOCK

/-- The request `r`, of command `cmd`, is the only one that waits at the AMP agent, which executes it now: it is well formed and not answered before. -/
def State.ampTurn (s : State) (cmd : Nat) (r : AmpReq) : Bool :=
  s.ampRuns && decide (s.amp.queue = [r]) && decide (ampCmd r.msg = cmd) && (s.ampStray r).isNone && (s.keptFor r).isNone

/-- The reply kept for the source of `r` answers it with `status` and `pay` (R286, R289). -/
def State.replied (s : State) (r : AmpReq) (status : Nat) (pay : List Byte) : Prop := s.keptFor r = some (ampReply r.msg status pay)

/-- The agent has taken the request that waited. -/
def State.ampTaken (s : State) : State := s.withAmp { s.amp with queue := [] }

/-- BOOT lasts exactly until the start-up phases are done (R295, R296). -/
def State.bootOk (s : State) : Prop := s.dev = .boot ↔ s.rst.phase ≠ .done

/-- Core `c` runs at a plain instruction boundary: in no delay slot, REPEAT or LOOP, with nothing of an earlier instruction still to land. -/
def State.coreFree (s : State) (c : Nat) : Bool :=
  let x := s.core c
  decide (c < 2) && !s.frozen (1 + c) && decide (x.mode = 1) && x.br.isNone && x.rep.isNone && x.loops.isEmpty && x.ld.isEmpty && x.cw.isEmpty

/-- Core `c` has gone on to the instruction at `pc`, and of the rest of the state nothing has changed but its event lines (the timer's may set). -/
def State.coreAt (c pc : Nat) (s t : State) : Prop :=
  (t.core c).pc = pc ∧ (t.core c).mode = 1 ∧ (∀ d, d ≠ c → t.core d = s.core d) ∧ { t with cores := s.cores, lines := s.lines } = s

/-- Core `c` has completed one plain instruction: the next one follows, at a plain boundary. -/
def State.coreSeq (c : Nat) (s t : State) : Prop :=
  State.coreAt c (((s.core c).pc + 4) % 2 ^ 18) s t ∧ (t.core c).br = none ∧ (t.core c).rep = none ∧ (t.core c).loops = [] ∧ (t.core c).cw = []

/-- What a plain instruction that writes `v` into G`d` has done: that register alone. -/
def State.coreWrote (c d : Nat) (v : Word) (s t : State) : Prop :=
  (t.core c).reg d = v ∧ (∀ r, r % 32 ≠ d % 32 → (t.core c).reg r = (s.core c).reg r) ∧ (t.core c).acc = (s.core c).acc ∧ (t.core c).csr = (s.core c).csr ∧
    (t.core c).ld = [] ∧ State.coreSeq c s t

/-- The same for a result that may saturate: STATUS.SAT sets where it has, and else keeps its value. -/
def State.coreSat (c d : Nat) (r : Word × Bool) (s t : State) : Prop :=
  (t.core c).reg d = r.1 ∧ (∀ q, q % 32 ≠ d % 32 → (t.core c).reg q = (s.core c).reg q) ∧ (t.core c).acc = (s.core c).acc ∧
    ((t.core c).csrGet 0).getLsbD 3 = (r.2 || ((s.core c).csrGet 0).getLsbD 3) ∧ State.coreSeq c s t

/-- What an instruction that writes `v` into accumulator `n` has done, but for STATUS. -/
def State.coreAcc (c n : Nat) (v : BitVec 72) (s t : State) : Prop :=
  (t.core c).a n = v ∧ (∀ m, m % 4 ≠ n % 4 → (t.core c).a m = (s.core c).a m) ∧ (t.core c).g = (s.core c).g ∧ State.coreSeq c s t

/-- Core `c` has entered vector `v` (R346, R347): EPC, ESTAT and IE are set, and its registers are as they were. -/
def State.coreEntered (c v : Nat) (s t : State) : Prop :=
  State.coreAt c ((((s.core c).csrGet 3).toNat + 16 * v) % 2 ^ 18) s t ∧ (t.core c).csrGet 1 = BitVec.ofNat 32 (s.core c).pc ∧
    ((t.core c).csrGet 2).toNat % 64 = v ∧ ((t.core c).csrGet 2).getLsbD 6 = false ∧ ((t.core c).csrGet 2).getLsbD 7 = (s.core c).ie ∧
    ((t.core c).csrGet 2).getLsbD 8 = (s.core c).frac ∧ (t.core c).ie = false ∧ (t.core c).g = (s.core c).g ∧ (t.core c).acc = (s.core c).acc

end Sys2Proof.Machine
end

