-- ==== Sys2Proof/Certificates/Slice0/Obligations.lean ====
section
/-!
DEFINITION. The statements of this model, for the provers.
-/
open Sys2Proof Sys2Proof.Machine

/-! ## The block as a whole -/

/-- The queue law: with command `c` at the front of its queue, a step runs `c` on the state with the queue's rest. -/
def Obligations.QueueLaw : Prop :=
  ∀ (c : Instr) (q : List Instr) (s : State), step { s with pending := c :: q } = exec c { s with pending := q }

/-- An idle block lets time go on (DESIGN CHOICE, assumption log 1): with no command waiting, a step answers a next state in which the queue is empty still and 4 ns
have passed. -/
def Obligations.IdleTick : Prop :=
  ∀ s : State, s.pending = [] → ∃ t, step s = .next t ∧ t.pending = [] ∧ t.now = s.now + 4

/-- State.reset: the queue is empty, the memories list nothing, every register reads its reset value, VIN is not yet good and no boot phase has begun; the invariants that
MemoryCanonical and BootKept say every step keeps hold of it. -/
def Obligations.ResetState : Prop :=
  State.reset.pending = [] ∧ State.reset.mem = [] ∧ State.reset.flash = [] ∧ (∀ a, State.reset.rget a = regReset a) ∧
    State.reset.rst.phase = .off ∧ State.reset.dev = .boot ∧ State.reset.b Fld.PWR_STATUS_VIN_OK = false ∧
    Memory.wf State.reset.mem = true ∧ State.reset.bootOk

/-- Every step keeps the canonical form of the memory: addresses strictly rising, no entry equal to what an unlisted address reads as. -/
def Obligations.MemoryCanonical : Prop :=
  ∀ s t : State, Memory.wf s.mem = true → step s = .next t → Memory.wf t.mem = true

/-- A step takes the command at the front of the queue and nothing else: whatever the command does, the commands behind it wait on in their order. -/
def Obligations.QueueTail : Prop := ∀ s t : State, step s = .next t → t.pending = s.pending.tail

/-- The CMAC key is written once, before the device is delivered (R333): no step of the model changes it, a power-on reset included. -/
def Obligations.CmacKeyFixed : Prop :=
  ∀ (k : Option (List Byte)) (s t : State), s.nvm.cmacKey = k → step s = .next t → t.nvm.cmacKey = k

/-- Every command but those of `storing` leaves every byte of the plan, field map and DSP memories as it was. -/
def Obligations.MemoryFrame : Prop :=
  ∀ (c : Instr) (s t : State), storing c = false → exec c s = .next t → ∀ a, t.mget a = s.mget a

/-! ## Power, clocks and reset (chapter 3) -/

/-- VIN, POR and the rails (R37, R38, R51, Tables 3.1 and 3.4). From power-off VIN_RISE begins the power-on reset with the first rail, and RST_STATUS.BKP_LOST says
whether the backup domain was lost; otherwise it only sets VIN_OK. A brownout clears VIN_OK and raises source 1. POR leaves the power-off state: nothing in
memory, no NVM write in progress, every register but the backup domain (kept with VBAT) and PWR_FAULT at its reset value. The first rail's GOOD bit lets the
second step begin; a rail that fails sets RAIL_FAIL with its number and raises source 12, and with no reset of level L0 in progress that is all but its GOOD
bit. Of any enabled rail, GOOD and its failure do no more than that. -/
def Obligations.SupplyAndRails : Prop :=
  (∀ s : State, s.rst.phase = .off →
    Answers .vinRise s (fun t => t.b Fld.PWR_STATUS_VIN_OK = true ∧ t.b Fld.RST_STATUS_BKP_LOST = s.rst.bkpLost ∧ t.rst.phase = .rails 1 ∧
      t.rst.active = some 0 ∧ t.rst.activeSrc = 1)) ∧
  (∀ s : State, s.rst.phase ≠ .off →
    Answers .vinRise s (fun t => t.b Fld.PWR_STATUS_VIN_OK = true ∧ State.regsBut [Reg.PWR_STATUS] s t ∧ { t with regs := s.regs } = s)) ∧
  (∀ s : State, s.rst.phase ≠ .off →
    Answers .brownout s (fun t => t.b Fld.PWR_STATUS_VIN_OK = false ∧ t.rst.raised.testBit 1 = true ∧ State.regsBut [Reg.PWR_STATUS] s t ∧
      { t with regs := s.regs, rst := s.rst } = s)) ∧
  (∀ (vbat : Bool) (s : State), s.rst.phase ≠ .off →
    Answers (.por vbat) s (fun t => t.rst.phase = .off ∧ t.mem = [] ∧ t.nvm.cur = none ∧ t.dev = .boot ∧
      (∀ a, a ≠ Reg.PWR_FAULT → (backupReg a && vbat) = true → t.rget a = s.rget a) ∧
      (∀ a, a ≠ Reg.PWR_FAULT → (backupReg a && vbat) = false → t.rget a = regReset a))) ∧
  (∀ s : State, s.rst.phase = .rails 1 →
    Answers (.railGood 0) s (fun t => t.rst.phase = .rails 2 ∧ (t.f Fld.PWR_STATUS_GOOD).testBit 0 = true ∧ State.regsBut [Reg.PWR_STATUS] s t ∧
      { t with regs := s.regs, rst := s.rst } = s)) ∧
  (∀ (r : Nat) (s : State), s.railOn r = true → s.rst.active ≠ some 0 →
    Answers (.railFailure r) s (fun t => t.b Fld.PWR_FAULT_RAIL_FAIL = true ∧ t.f Fld.PWR_FAULT_RAIL_ID = r ∧ t.rst.railFail = true ∧
      t.rst.raised.testBit 12 = true ∧ { t with regs := s.regs, rst := s.rst } = s)) ∧
  (∀ (r : Nat) (s : State), s.railOn r = false →
    Answers (.railGood r) s (fun t => t = s) ∧ Answers (.railFailure r) s (fun t => t = s)) ∧
  (∀ (r : Nat) (s : State), s.railOn r = true →
    Answers (.railGood r) s (fun t => (t.f Fld.PWR_STATUS_GOOD).testBit r = true ∧ State.regsBut [Reg.PWR_STATUS] s t ∧ { t with regs := s.regs, rst := s.rst } = s)) ∧
  (∀ (r : Nat) (s : State), s.railOn r = true →
    Answers (.railFailure r) s (fun t => (t.f Fld.PWR_STATUS_GOOD).testBit r = false ∧ t.b Fld.PWR_FAULT_RAIL_FAIL = true ∧ t.f Fld.PWR_FAULT_RAIL_ID = r ∧
      t.rst.raised.testBit 12 = true ∧ { t with regs := s.regs, rst := s.rst } = s))

/-- The 32.768 kHz crystal (R41) and RST_N (R53, R54). A qualified crystal clocks ACLK; failed or not qualified in time, XT32_FAIL is set and ACLK runs from the RC
oscillator, and in PARK without RC_ALLOWED SAFE cause 4 of Table 14.8 is set. An accepted low on RST_N raises source 2; one that lasts past RST_STUCK sets
RSTPIN_STUCK and STUCK_SEEN; high again for 100 ms ticks, the pin counts again. A crystal that fails while it clocks ACLK, or is not qualified in time, leaves XT32_FAIL and the RC oscillator. -/
def Obligations.CrystalAndResetPin : Prop :=
  (∀ s : State, s.rst.phase ≠ .off → s.rst.xtFitted = true → s.rst.xt = 0 →
    Answers .xt32Qualified s (fun t => t.rst.xt = 1 ∧ t.b Fld.CLK_STATUS_ACLK_XTAL = true ∧ State.regsBut [Reg.CLK_STATUS] s t ∧
      { t with regs := s.regs, rst := s.rst } = s)) ∧
  (∀ s : State, s.rst.xt = 1 → s.rst.rcAllowed = true ∨ s.dev = .boot →
    Answers .xt32Fail s (fun t => t.rst.xt = 2 ∧ t.b Fld.CLK_STATUS_ACLK_XTAL = false ∧ t.b Fld.CLK_STATUS_XT32_FAIL = true ∧
      { t with regs := s.regs, rst := s.rst } = s)) ∧
  (∀ s : State, s.rst.phase ≠ .off → s.rst.xtFitted = true → s.rst.xt = 0 → s.rst.rcAllowed = true ∨ s.dev = .boot →
    Answers .xt32Timeout s (fun t => t.rst.xt = 2 ∧ t.b Fld.CLK_STATUS_ACLK_XTAL = false ∧ t.b Fld.CLK_STATUS_XT32_FAIL = true ∧
      { t with regs := s.regs, rst := s.rst } = s)) ∧
  (∀ s : State, s.rst.xt = 1 → s.rst.rcAllowed = false → s.dev = .park →
    Answers .xt32Fail s (fun t => (t.f Fld.AMP_STATE_SAFE_CAUSE).testBit 4 = true ∧ t.b Fld.CLK_STATUS_XT32_FAIL = true ∧ t.dev = .park)) ∧
  (∀ s : State, s.rst.phase ≠ .off → s.b Fld.RST_PIN_RSTPIN_STUCK = false → s.rst.rstnLow = false →
    Answers .rstNLow s (fun t => t.rst.raised.testBit 2 = true ∧ t.rst.rstnLow = true ∧ { t with rst := s.rst } = s)) ∧
  (∀ s : State, s.rst.rstnLow = true → s.b Fld.RST_PIN_RSTPIN_STUCK = false →
    Answers .rstNStuck s (fun t => t.b Fld.RST_PIN_RSTPIN_STUCK = true ∧ t.b Fld.RST_PIN_STUCK_SEEN = true ∧
      State.regsBut [Reg.RST_PIN, Reg.THERM_CNT] s t ∧ { t with regs := s.regs, nvm := s.nvm } = s)) ∧
  (∀ s : State, s.b Fld.RST_PIN_RSTPIN_STUCK = true →
    Answers .rstNRearm s (fun t => t.b Fld.RST_PIN_RSTPIN_STUCK = false ∧ t.rst.rstnLow = false ∧ State.regsBut [Reg.RST_PIN] s t ∧
      { t with regs := s.regs, rst := s.rst } = s)) ∧
  (∀ s : State, s.rst.xt = 1 → Answers .xt32Fail s (fun t => t.rst.xt = 2 ∧ t.b Fld.CLK_STATUS_ACLK_XTAL = false ∧ t.b Fld.CLK_STATUS_XT32_FAIL = true)) ∧
  (∀ s : State, s.rst.phase ≠ .off → s.rst.xtFitted = true → s.rst.xt = 0 →
    Answers .xt32Timeout s (fun t => t.rst.xt = 2 ∧ t.b Fld.CLK_STATUS_ACLK_XTAL = false ∧ t.b Fld.CLK_STATUS_XT32_FAIL = true))

/-- RESET_ASSERT and RESET_RELEASE (R30, R45, R48-R50, R52). A raised source sets its cause bit, and is raised no more. One of level L0 or L1, with none in progress, is counted and
named by RST_STATUS; the device is in BOOT, nothing is left in memory, no write of the NVM is in progress, and every output is in its state during reset; the rail source takes the
rails down. At level L2 the target is held in reset; at level L3 the cause bit is all. RESET_RELEASE of a level L0 or L1 reset whose sources are gone begins the option load; of a
level L2 target, releases it, and the DMA engines that one source holds together. -/
def Obligations.DeepReset : Prop :=
  (∀ s : State, s.rst.phase ≠ .off → s.rst.raised = 2 ^ 12 → s.rst.active = none →
    Answers .resetAssert s (fun t => t.rst.phase = .rails 1 ∧ t.rst.active = some 0 ∧ t.dev = .boot ∧ t.mem = [] ∧ t.nvm.cur = none ∧
      t.f Fld.PWR_STATUS_GOOD = 0 ∧ t.f Fld.RST_STATUS_LAST_SRC = 12 ∧ t.f Fld.RST_STATUS_LAST_LEVEL = 0 ∧ t.rst.raised = 0)) ∧
  (∀ (tgt : Nat) (rstn : Bool) (straps : List (BitVec 6)) (l : Nat) (s : State), s.rst.active = some l → s.rst.phase = .held → s.resetHeld rstn = false →
    Answers (.resetRelease tgt rstn straps) s (fun t => t.rst.phase = .option ∧ t.rst.active = none ∧ t.rget Reg.TOP_STRAP = strapWord straps ∧
      State.regsBut [Reg.TOP_STRAP, Reg.THERM_CNT] s t)) ∧
  (∀ s : State, s.rst.phase ≠ .off → Answers .resetAssert s (fun t => t.rst.raised = 0 ∧ (∀ k, k < 14 → s.rst.raised.testBit k = true → t.causeSet ⟨1, k⟩ = true))) ∧
  (∀ (k : Nat) (s : State), s.rst.phase ≠ .off → k < 14 → s.rst.raised = 2 ^ k → s.rst.active = none → (s.resetAct k).1 ≤ 1 →
    Answers .resetAssert s (fun t => t.rst.active = some (s.resetAct k).1 ∧ t.dev = .boot ∧ t.mem = [] ∧ t.nvm.cur = none ∧ t.pending = s.pending ∧
      t.f Fld.RST_STATUS_LAST_SRC = k ∧ t.f Fld.RST_STATUS_LAST_LEVEL = (s.resetAct k).1 ∧
      t.f Fld.RST_COUNT_COUNT = (s.f Fld.RST_COUNT_COUNT + 1) % 2 ^ Fld.RST_COUNT_COUNT.w ∧ (∀ p : Pin, t.ownLevel p = p.resetLevel))) ∧
  (∀ (k : Nat) (g : L2Target) (s : State), s.rst.phase ≠ .off → k < 14 → s.rst.raised = 2 ^ k → s.rst.active = none → s.resetAct k = (2, [g]) → s.rst.l2.contains g = false →
    Answers .resetAssert s (fun t => t.rst.l2 = s.rst.l2 ++ [g] ∧ t.rst.active = none ∧ t.f Fld.RST_STATUS_LAST_SRC = k ∧ t.f Fld.RST_STATUS_LAST_LEVEL = 2 ∧ t.dev = s.dev)) ∧
  (∀ (k : Nat) (s : State), s.rst.phase ≠ .off → k < 14 → s.rst.raised = 2 ^ k → s.rst.active = none → (s.resetAct k).1 = 3 →
    Answers .resetAssert s (fun t => t.causeSet ⟨1, k⟩ = true ∧ t.rst.l2 = s.rst.l2 ∧ { t with regs := s.regs, rst := s.rst } = s)) ∧
  (∀ (tgt : Nat) (rstn : Bool) (straps : List (BitVec 6)) (g : L2Target) (s : State), s.rst.active = none → resetTarget tgt = some g → s.rst.dmaGrp = [] →
    s.rst.l2.contains g = true →
    Answers (.resetRelease tgt rstn straps) s (fun t => t.rst.l2 = s.rst.l2.filter (fun x => x != g) ∧ t.rst.active = none ∧ t.dev = s.dev)) ∧
  (∀ (tgt d e : Nat) (rstn : Bool) (straps : List (BitVec 6)) (s : State), s.rst.active = none → resetTarget tgt = some (.dma d) → s.rst.dmaGrp = [[d, e]] →
    Answers (.resetRelease tgt rstn straps) s (fun t => t.rst.l2.contains (.dma d) = false ∧ t.rst.l2.contains (.dma e) = false ∧ t.rst.dmaGrp = [] ∧ t.dev = s.dev)) ∧
  (∀ (tgt : Nat) (rstn : Bool) (straps : List (BitVec 6)) (s : State), s.rst.active = none → resetTarget tgt = none → Answers (.resetRelease tgt rstn straps) s (fun t => t = s))
/-! ## PLLs and start-up (chapters 2 to 4) -/

/-- The PLLs (R43, R44). Where PLLA runs its lock sets PLLA_LOCK and nothing else, but that in BOOT with a pin test due and PLLB locked the pin test starts too
(R32); PLLB's lock sets PLLB_LOCK outside PARK, and after the option load the image load begins with the HEADs. A locked PLLA that loses lock clears PLLA_LOCK
and raises PLLA_LOL, and in SCAN charging stops; still not locked 1 ms later, in SCAN, source CLK (13) is raised; PLLB's loss raises it at once. Wherever they
run, either lock sets its bit and a loss of PLLA clears it. -/
def Obligations.Plls : Prop :=
  (∀ s : State, s.pllaRuns = true → s.dev ≠ .boot →
    Answers .pllaLock s (fun t => t.b Fld.CLK_STATUS_PLLA_LOCK = true ∧ State.regsBut [Reg.CLK_STATUS] s t ∧ { t with regs := s.regs } = s)) ∧
  (∀ s : State, s.pllaRuns = true → s.dev = .boot → s.rst.testDue = true → s.b Fld.CLK_STATUS_PLLB_LOCK = true →
    Answers .pllaLock s (fun t => t.b Fld.CLK_STATUS_PLLA_LOCK = true ∧ t.b Fld.TOP_PINTEST_BUSY = true ∧ t.rst.testDue = false ∧
      State.regsBut [Reg.CLK_STATUS, Reg.TOP_PINTEST] s t ∧ { t with regs := s.regs, rst := s.rst } = s)) ∧
  (∀ s : State, s.pllaRuns = false → Answers .pllaLock s (fun t => t = s)) ∧
  (∀ s : State, s.rst.phase = .done → s.dev ≠ .park →
    Answers .pllbLock s (fun t => t.b Fld.CLK_STATUS_PLLB_LOCK = true ∧ State.regsBut [Reg.CLK_STATUS] s t ∧ { t with regs := s.regs } = s)) ∧
  (∀ s : State, s.b Fld.CLK_STATUS_PLLA_LOCK = true → s.dev ≠ .scan →
    Answers .pllaLossOfLock s (fun t => t.b Fld.CLK_STATUS_PLLA_LOCK = false ∧ t.b Fld.CLK_STATUS_PLLA_LOL = true ∧ { t with regs := s.regs } = s)) ∧
  (∀ s : State, s.b Fld.CLK_STATUS_PLLA_LOCK = true → s.dev = .scan →
    Answers .pllaLossOfLock s (fun t => t.b Fld.CLK_STATUS_PLLA_LOCK = false ∧ t.b Fld.CLK_STATUS_PLLA_LOL = true ∧ t.emit.charging = none ∧
      { t with regs := s.regs, emit := s.emit, clus := s.clus } = s)) ∧
  (∀ s : State, s.dev = .scan → s.b Fld.CLK_STATUS_PLLA_LOCK = false →
    Answers .pllaRelockTimeout s (fun t => t.rst.raised.testBit 13 = true ∧ { t with rst := s.rst } = s)) ∧
  (∀ s : State, s.dev ≠ .scan ∨ s.b Fld.CLK_STATUS_PLLA_LOCK = true → Answers .pllaRelockTimeout s (fun t => t = s)) ∧
  (∀ s : State, s.b Fld.CLK_STATUS_PLLB_LOCK = true →
    Answers .pllbLossOfLock s (fun t => t.b Fld.CLK_STATUS_PLLB_LOCK = false ∧ t.b Fld.CLK_STATUS_PLLB_LOL = true ∧ t.rst.raised.testBit 13 = true ∧
      { t with regs := s.regs, rst := s.rst } = s)) ∧
  (∀ s : State, s.rst.phase = .pll → s.b Fld.CLK_STATUS_PLLA_LOCK = false →
    Answers .pllbLock s (fun t => t.b Fld.CLK_STATUS_PLLB_LOCK = true ∧ t.rst.phase = .heads [1, 2] ∧ State.regsBut [Reg.CLK_STATUS] s t ∧
      { t with regs := s.regs, rst := s.rst } = s)) ∧
  (∀ s : State, s.pllaRuns = true → Answers .pllaLock s (fun t => t.b Fld.CLK_STATUS_PLLA_LOCK = true ∧ t.dev = s.dev)) ∧
  (∀ s : State, s.rst.phase = .pll ∨ (s.rst.phase = .done ∧ (s.dev ≠ .park ∨ s.parkWake = true)) →
    Answers .pllbLock s (fun t => t.b Fld.CLK_STATUS_PLLB_LOCK = true ∧ t.dev = s.dev)) ∧
  (∀ s : State, s.b Fld.CLK_STATUS_PLLA_LOCK = true → Answers .pllaLossOfLock s (fun t => t.b Fld.CLK_STATUS_PLLA_LOCK = false ∧ t.b Fld.CLK_STATUS_PLLA_LOL = true ∧ t.dev = s.dev))

/-- OPTION_LOAD_DONE (R52): a blank page means the built-in defaults without an error, and the PLLs start; a page whose bytes or whose fuse table fail their check
is read again, up to the third failure, and RST_LOAD names what failed; a good page gives its fuse table, the built-in one where that is blank. After a blank or
good page NVM data can be read, and the image load begins where PLLB is locked already. -/
def Obligations.OptionLoad : Prop :=
  (∀ (read : Option (List Word)) (s : State), s.rst.phase = .option → s.b Fld.CLK_STATUS_PLLB_LOCK = false → pageBlank (read.getD s.nvm.optPage) = true →
    Answers (.optionLoadDone read) s (fun t => t.rst.phase = .pll ∧ t.rst.nvmAvail = true ∧ t.rst.xtFitted = true ∧ t.rst.rcAllowed = true ∧ t.dev = s.dev ∧
      t.b Fld.RST_LOAD_BLANK = true ∧ t.b Fld.RST_FUSE_BUILTIN = true ∧ t.f Fld.RST_FUSE_MAP = 0x9A9680 ∧ t.f Fld.RST_PIN_STUCK_S = 10 ∧
      t.b Fld.RST_STATUS_SAFE_DEF = false)) ∧
  (∀ (read : Option (List Word)) (s : State), s.rst.phase = .option → s.rst.optFails < 2 → pageBlank (read.getD s.nvm.optPage) = false →
    (optBytesOk (read.getD s.nvm.optPage) && fuseOk (read.getD s.nvm.optPage)) = false →
    Answers (.optionLoadDone read) s (fun t => t.rst.phase = .option ∧ t.rst.optFails = s.rst.optFails + 1 ∧
      t.b Fld.RST_LOAD_OPT_ERR = !optBytesOk (read.getD s.nvm.optPage) ∧ t.b Fld.RST_LOAD_FUSE_ERR = !fuseOk (read.getD s.nvm.optPage) ∧
      State.regsBut [Reg.RST_LOAD] s t ∧ { t with regs := s.regs, rst := s.rst } = s)) ∧
  (∀ (read : Option (List Word)) (s : State), s.rst.phase = .option → s.b Fld.CLK_STATUS_PLLB_LOCK = false → pageBlank (read.getD s.nvm.optPage) = false →
    (optBytesOk (read.getD s.nvm.optPage) && fuseOk (read.getD s.nvm.optPage)) = true →
    Answers (.optionLoadDone read) s (fun t => t.rst.phase = .pll ∧ t.dev = s.dev ∧ t.b Fld.RST_LOAD_BLANK = false ∧
      t.b Fld.RST_FUSE_BUILTIN = fuseBlank (read.getD s.nvm.optPage) ∧
      t.f Fld.RST_FUSE_MAP = if fuseBlank (read.getD s.nvm.optPage) then 0x9A9680 else ((read.getD s.nvm.optPage).getD 16 0).toNat % 2 ^ 24)) ∧
  (∀ (read : Option (List Word)) (s : State), s.rst.phase = .option →
    (pageBlank (read.getD s.nvm.optPage) || (optBytesOk (read.getD s.nvm.optPage) && fuseOk (read.getD s.nvm.optPage))) = true →
    Answers (.optionLoadDone read) s (fun t => t.rst.nvmAvail = true ∧ t.rst.phase = (if s.b Fld.CLK_STATUS_PLLB_LOCK then .heads [1, 2] else .pll) ∧ t.dev = s.dev))

/-- PIN_TEST_DONE (R34): a run without a failing unit ends with FAIL_UNIT 0x1F and no lock, counts in RUNS and changes TOP_PINTEST alone; a run in which a FIRE or
EMX unit fails locks, shows the lowest failing unit, and SAFE cause 0 (PIN_LOCK) is set. Any run that ends clears BUSY, shows the lowest failing unit or 0x1F
and counts. -/
def Obligations.PinTest : Prop :=
  (∀ (steps : List (BitVec 22)) (offs cross : BitVec 2) (s : State), s.b Fld.TOP_PINTEST_BUSY = true → s.pins.parkTest = false → pinFails steps offs cross = [] →
    Answers (.pinTestDone steps offs cross) s (fun t => t.b Fld.TOP_PINTEST_BUSY = false ∧ t.b Fld.TOP_PINTEST_LOCK = false ∧ t.f Fld.TOP_PINTEST_FAIL_UNIT = 0x1F ∧
      t.f Fld.TOP_PINTEST_RUNS = (s.f Fld.TOP_PINTEST_RUNS + 1) % 2 ^ Fld.TOP_PINTEST_RUNS.w ∧ State.regsBut [Reg.TOP_PINTEST] s t ∧ { t with regs := s.regs } = s)) ∧
  (∀ (steps : List (BitVec 22)) (offs cross : BitVec 2) (s : State) (u : Nat) (r : List Nat), s.b Fld.TOP_PINTEST_BUSY = true → s.dev = .boot →
    pinFails steps offs cross = u :: r → u < 11 → (∀ x ∈ r, x < 11) →
    Answers (.pinTestDone steps offs cross) s (fun t => t.b Fld.TOP_PINTEST_BUSY = false ∧ t.b Fld.TOP_PINTEST_LOCK = true ∧ t.f Fld.TOP_PINTEST_FAIL_UNIT = u ∧
      (t.f Fld.AMP_STATE_SAFE_CAUSE).testBit 0 = true ∧ t.dev = .boot)) ∧
  (∀ (steps : List (BitVec 22)) (offs cross : BitVec 2) (s : State), s.b Fld.TOP_PINTEST_BUSY = true →
    Answers (.pinTestDone steps offs cross) s (fun t => t.b Fld.TOP_PINTEST_BUSY = false ∧ t.f Fld.TOP_PINTEST_FAIL_UNIT = (pinFails steps offs cross).headD 0x1F ∧
      t.f Fld.TOP_PINTEST_RUNS = (s.f Fld.TOP_PINTEST_RUNS + 1) % 2 ^ Fld.TOP_PINTEST_RUNS.w))

/-- A slot fails or passes (R65, R67-R69, R71, Table 4.6). A failing slot's error register takes the reason and the section, and its destinations are to be cleared:
IMAGE_PASS_DONE where a section's records or CRC fail, SIGNATURE_CHECK_DONE with 0x0A, FLASH_NO_RESPONSE with 0x0C. Without a failure and a provisioned key the
image is unsigned and leads to commit if its Cask identification is the one recorded; a valid signature leads there too; DEST_CLEAR_DONE tries the next valid
slot and counts the attempt. With both HEADs at fault (R66) NOIMAGE sets, and each slot's register names its fault. A flash that does not answer at the HEAD
reads fails that slot alone; a content hash that differs gives 0x09; with a provisioned key a slot that passes goes to its signature; DEST_CLEAR_DONE leaves no
destination and, in memory, zeros. -/
def Obligations.ImageSlots : Prop :=
  (∀ (slot r id : Nat) (q s : State), s.rst.phase = .pass slot → s.loadSections slot dirIds = (q, some (r, id)) →
    Answers .imagePassDone s (fun t => t.rst.phase = .clear slot ∧ t.rget (ldrErr slot) = BitVec.ofNat 32 (id * 65536 + r) ∧
      State.regsBut [ldrErr slot] q t ∧ { t with regs := q.regs, rst := q.rst } = q)) ∧
  (∀ (slot : Nat) (s : State), s.rst.phase = .sig slot → s.sigOk slot = false →
    Answers .signatureCheckDone s (fun t => t.rst.phase = .clear slot ∧ t.rget (ldrErr slot) = 0x0A ∧ State.regsBut [ldrErr slot] s t ∧
      { t with regs := s.regs, rst := s.rst } = s)) ∧
  (∀ (slot k : Nat) (s : State), s.rst.phase = .pass slot →
    Answers (.flashNoResponse k) s (fun t => t.rst.phase = .clear slot ∧ t.rget (ldrErr slot) = 0x0C ∧ State.regsBut [ldrErr slot] s t ∧
      { t with regs := s.regs, rst := s.rst } = s)) ∧
  (∀ (slot : Nat) (q s : State), s.rst.phase = .pass slot → s.loadSections slot dirIds = (q, none) → q.nvm.keyHash = none →
    sha256 (q.slotBytes slot 0x200 (headLen (q.head slot) - 0x200)) = ((q.head slot).drop 0xE0).take 32 → q.nvm.caskId = some (q.slotIdent slot) →
    Answers .imagePassDone s (fun t => t.rst.phase = .commit slot ∧ t.b Fld.LDR_STATUS_UNSIGNED = true ∧ State.regsBut [Reg.LDR_STATUS] q t ∧
      { t with regs := q.regs, rst := q.rst } = q)) ∧
  (∀ (slot : Nat) (s : State), s.rst.phase = .sig slot → s.sigOk slot = true → s.nvm.caskId = some (s.slotIdent slot) →
    Answers .signatureCheckDone s (fun t => t.rst.phase = .commit slot ∧ t.rst.newCaskId = s.slotIdent slot ∧ { t with rst := s.rst } = s)) ∧
  (∀ (slot k : Nat) (s : State), s.rst.phase = .clear slot → s.rst.dests = [] → (s.slotOrder.find? (fun k => s.rst.headOk.contains k && !s.rst.tried.contains k)) = some k →
    missing (s.head k) = none →
    Answers .destClearDone s (fun t => t.rst.phase = .pass k ∧ t.rst.tried = s.rst.tried ++ [k] ∧ State.regsBut [Reg.LDR_STATUS] s t ∧
      t.f Fld.LDR_STATUS_ATTEMPTS = min (2 ^ Fld.LDR_STATUS_ATTEMPTS.w - 1) (s.f Fld.LDR_STATUS_ATTEMPTS + 1) ∧ { t with regs := s.regs, rst := s.rst } = s)) ∧
  (∀ s : State, s.rst.phase = .heads [1, 2] → s.rst.headOk = [] → (s.headFault (s.head 1)).1 ≠ 0 → (s.headFault (s.head 2)).1 ≠ 0 →
    Answers .imagePassDone s (fun t => t.b Fld.LDR_STATUS_NOIMAGE = true ∧ t.rget Reg.LDR_ERR_A = BitVec.ofNat 32 ((s.headFault (s.head 1)).2 * 65536 + (s.headFault (s.head 1)).1) ∧
      t.rget Reg.LDR_ERR_B = BitVec.ofNat 32 ((s.headFault (s.head 2)).2 * 65536 + (s.headFault (s.head 2)).1) ∧ t.rst.sections = 0)) ∧
  (∀ s : State, s.rst.phase = .heads [1, 2] →
    Answers (.flashNoResponse 1) s (fun t => t.rst.phase = .heads [2] ∧ t.rget Reg.LDR_ERR_A = 0x0C ∧ State.regsBut [Reg.LDR_ERR_A] s t ∧ { t with regs := s.regs, rst := s.rst } = s)) ∧
  (∀ (slot : Nat) (q s : State), s.rst.phase = .pass slot → s.loadSections slot dirIds = (q, none) →
    sha256 (q.slotBytes slot 0x200 (headLen (q.head slot) - 0x200)) ≠ ((q.head slot).drop 0xE0).take 32 →
    Answers .imagePassDone s (fun t => t.rst.phase = .clear slot ∧ t.rget (ldrErr slot) = 0x09)) ∧
  (∀ (slot : Nat) (q s : State), s.rst.phase = .pass slot → s.loadSections slot dirIds = (q, none) → q.nvm.keyHash.isSome = true →
    sha256 (q.slotBytes slot 0x200 (headLen (q.head slot) - 0x200)) = ((q.head slot).drop 0xE0).take 32 →
    Answers .imagePassDone s (fun t => t.rst.phase = .sig slot ∧ { t with rst := q.rst } = q)) ∧
  (∀ (slot : Nat) (s : State), s.rst.phase = .clear slot → Answers .destClearDone s (fun t => t.rst.dests = [] ∧ t.nvm.optPage = s.nvm.optPage)) ∧
  (∀ (slot a : Nat) (s : State), s.rst.phase = .clear slot → s.rst.dests = [(a, 1)] → dspMemAt a = true → a % 4 = 0 → Answers .destClearDone s (fun t => t.mgetW a = 0))

/-- Commit and the boot run (R70, R139). LOADER_COMMIT waits while the pin test is due or runs; otherwise, with NVM writes allowed, the boot run is under way after
it. TDC_BOOT_RUN_END ends the run: BUSY clears, CALDONE sets, the cluster domains are off. RX_CAL_RUN starts a run in IDLE. A commit that need not wait, or can
write NVM, leaves BOOT with ACTIVE and DONE set. -/
def Obligations.CommitAndCalibration : Prop :=
  (∀ (slot : Nat) (s : State), s.rst.phase = .commit slot → s.rst.testDue = true ∨ s.b Fld.TOP_PINTEST_BUSY = true →
    Answers .loaderCommit s (fun t => t = s)) ∧
  (∀ (slot : Nat) (s : State), s.rst.phase = .commit slot → s.rst.testDue = false → s.b Fld.TOP_PINTEST_BUSY = false → s.b Fld.THERM_STAT_NVM_OK = true →
    Answers .loaderCommit s (fun t => t.b Fld.RX_CALSTAT_BUSY = true ∧ t.b Fld.RX_STAT_CALDONE = false ∧ t.mash.bootRun = true ∧ t.dev ≠ .boot)) ∧
  (∀ (hits : List (Nat × List Nat)) (s : State), s.b Fld.RX_CALSTAT_BUSY = true →
    Answers (.tdcBootRunEnd hits) s (fun t => t.b Fld.RX_CALSTAT_BUSY = false ∧ t.b Fld.RX_STAT_CALDONE = true ∧ t.scan.clu = 0 ∧ t.mash.bootRun = false)) ∧
  (∀ s : State, s.dev = .idle → s.b Fld.RX_CALSTAT_BUSY = false →
    Answers .rxCalRun s (fun t => t.b Fld.RX_CALSTAT_BUSY = true ∧ t.b Fld.RX_STAT_CALDONE = false ∧ State.regsBut [Reg.RX_CALSTAT, Reg.RX_STAT] s t ∧
      { t with regs := s.regs, scan := s.scan, mash := s.mash } = s)) ∧
  (∀ s : State, s.dev ≠ .idle ∨ s.b Fld.RX_CALSTAT_BUSY = true → Answers .rxCalRun s (fun t => t = s)) ∧
  (∀ (slot : Nat) (s : State), s.rst.phase = .commit slot → s.rst.testDue = false → s.b Fld.TOP_PINTEST_BUSY = false →
    s.b Fld.THERM_STAT_NVM_OK = true ∨ (s.nvm.caskId = some s.rst.newCaskId ∧ s.lastGuardCrc = some s.guardCrc) →
    Answers .loaderCommit s (fun t => t.rst.phase = .done ∧ t.f Fld.LDR_STATUS_ACTIVE = slot % 2 ^ Fld.LDR_STATUS_ACTIVE.w ∧ t.b Fld.LDR_STATUS_DONE = true ∧
      t.b Fld.RX_CALSTAT_BUSY = true ∧ t.dev ≠ .boot))
/-! ## Device states (chapters 2, 3, 14) -/

/-- Entering and leaving SCAN (R57, R296). SCAN_ENTRY in IDLE, with SCAN asked for, no calibration run in progress and the mirror locked, enters SCAN, clears the Tun and lets a
target be aimed at; without one of these nothing happens. SCAN_LEAVE after a STOP leaves for IDLE, or for SERVICE where that was asked for and SEAL_N is not low. -/
def Obligations.ScanEntryAndLeave : Prop :=
  (∀ (x : Nat) (s : State), s.dev = .idle → s.b Fld.AMP_STATE_PEND_START = true ∨ s.rst.autostart = true → s.b Fld.RX_CALSTAT_BUSY = false →
    s.b Fld.SCAN_STAT_LOCKED = true → s.pins.parkTest = false → s.scan.leave = 0 →
    Answers (.scanEntry x) s (fun t => t.dev = .scan ∧ t.scan.clearing = true ∧ t.scan.armed = true ∧ t.rst.autostart = false ∧ t.b Fld.DWL_STAT_ACTIVE = true ∧
      t.tun = [] ∧ t.lau.cols = [])) ∧
  (∀ (x : Nat) (s : State), s.dev ≠ .idle ∨ s.b Fld.SCAN_STAT_LOCKED = false ∨ s.b Fld.RX_CALSTAT_BUSY = true → Answers (.scanEntry x) s (fun t => t = s)) ∧
  (∀ (x : Nat) (s : State), s.dev = .scan → s.scan.leave = 1 → Answers (.scanLeave x) s (fun t => t.dev = .idle ∧ t.emit.charging = none)) ∧
  (∀ (x : Nat) (s : State), s.dev = .scan → s.scan.leave = 2 → s.pins.sealedLow = false → Answers (.scanLeave x) s (fun t => t.dev = .service ∧ t.emit.charging = none)) ∧
  (∀ (x : Nat) (s : State), s.dev = .scan → s.scan.leave = 2 → s.pins.sealedLow = true → Answers (.scanLeave x) s (fun t => t.dev = .idle)) ∧
  (∀ (x : Nat) (s : State), s.dev ≠ .scan ∨ s.scan.leave = 0 → Answers (.scanLeave x) s (fun t => t = s))

/-- PARK and SEAL_N (R29, R59, R297). PARK_ENTER asked for in SCAN or IDLE starts the pin test in IDLE; the test passed, PIN_TEST_DONE enters PARK, where both PLLs have
stopped; PARK_EXIT, with the wake-up of an AMP message and no SAFE cause, ends in IDLE with PLLB locked, with one in SAFE. SEAL_N accepted low ends SERVICE. -/
def Obligations.ParkAndSeal : Prop :=
  (∀ (x : Nat) (s : State), s.dev = .scan ∨ s.dev = .idle → s.scan.leave = 3 →
    Answers (.parkEnter x) s (fun t => t.dev = .idle ∧ t.pins.parkTest = true ∧ t.b Fld.TOP_PINTEST_BUSY = true ∧ t.scan.leave = 0)) ∧
  (∀ (steps : List (BitVec 22)) (offs cross : BitVec 2) (s : State), s.b Fld.TOP_PINTEST_BUSY = true → s.dev = .idle → s.pins.parkTest = true → pinFails steps offs cross = [] →
    Answers (.pinTestDone steps offs cross) s (fun t => t.dev = .park ∧ t.b Fld.CLK_STATUS_PLLA_LOCK = false ∧ t.b Fld.CLK_STATUS_PLLB_LOCK = false ∧ t.tun = [] ∧
      t.pins.parkTest = false)) ∧
  (∀ s : State, s.dev = .park → s.parkWake = true → s.f Fld.AMP_STATE_SAFE_CAUSE = 0 →
    Answers .parkExit s (fun t => t.dev = .idle ∧ t.parkWake = false ∧ t.b Fld.CLK_STATUS_PLLB_LOCK = true)) ∧
  (∀ s : State, s.dev = .park → s.parkWake = true → s.f Fld.AMP_STATE_SAFE_CAUSE ≠ 0 → Answers .parkExit s (fun t => t.dev = .safe ∧ t.parkWake = false)) ∧
  (∀ s : State, s.dev ≠ .park ∨ s.parkWake = false → Answers .parkExit s (fun t => t = s)) ∧
  (∀ (low : Bool) (s : State), s.dev ≠ .service ∨ low = false →
    Answers (.sealNChange low) s (fun t => t.pins.sealedLow = low ∧ { t with pins := s.pins } = s)) ∧
  (∀ s : State, s.dev = .service → Answers (.sealNChange true) s (fun t => t.pins.sealedLow = true ∧ t.dev = .idle))

/-- The ms tick (R42, R311, R350): EN_DISC_SAMPLE counts it; a watchdog that counts and has more than one tick left loses one, and WDT_EXPIRY of a core whose watchdog does
not count does nothing. The TAP (R36): IDCODE captures the identification, SAMPLE/PRELOAD captures the pins and loads the driving cells, and no instruction
changes a register, the memory or the device. -/
def Obligations.MsTickAndTap : Prop :=
  (∀ s : State, Answers .enDiscSample s (fun t => t.ms = s.ms + 1 ∧ t.dev = s.dev ∧ t.mem = s.mem)) ∧
  (∀ (s : State), s.guardActive = false → s.b Fld.GUARD_STAT_RST_WAIT = false → s.wdtCounts 0 = true → 1 < s.f (Fld.DSP_WDTCNT_LEFT 0) → s.wdtCounts 1 = false →
    Answers .enDiscSample s (fun t => t.f (Fld.DSP_WDTCNT_LEFT 0) = s.f (Fld.DSP_WDTCNT_LEFT 0) - 1 ∧ State.regsBut [Reg.DSP_WDTCNT 0] s t ∧
      { t with regs := s.regs, ms := s.ms } = s)) ∧
  (∀ (c : Nat) (s : State), c < 2 → s.wdtCounts c = true → Answers (.wdtExpiry c) s (fun t => s.ms < t.ms)) ∧
  (∀ (c : Nat) (s : State), 2 ≤ c ∨ s.wdtCounts c = false → Answers (.wdtExpiry c) s (fun t => t = s)) ∧
  (∀ (ins dr : BitVec 52) (s : State), Answers (.boundaryScanInstruction 1 ins dr) s (fun t => t.pins.tdr = 0x11024C6B ∧ t.pins.tap = 1 ∧ { t with pins := s.pins } = s)) ∧
  (∀ (i : Nat) (ins dr : BitVec 52) (s : State), i < 4 → i ≠ 1 → Answers (.boundaryScanInstruction i ins dr) s (fun t => t.pins.tdr = 0 ∧ t.pins.tap = i ∧ { t with pins := s.pins } = s)) ∧
  (∀ (ins dr : BitVec 52) (s : State), Answers (.boundaryScanInstruction 2 ins dr) s (fun t => t.pins.bsr = dr &&& driveMask ∧ t.pins.cap = t.capture52 ins ∧
      { t with pins := s.pins } = s))

/-! ## The emitters (chapter 5) -/

/-- The EMX link (R80, R82, R83). EMX_FRAME_SEND in SCAN with no frame in progress sends header, sequence number, pattern and CRC-8 and counts the frame. A
confirmation with the 76 bits echoed and the CRC as status makes the frame's pattern the confirmed one; one that fails is sent again once and counted; failing twice in SCAN,
the device goes to SAFE. -/
def Obligations.EmxLink : Prop :=
  (∀ (x : Nat) (s : State), s.dev = .scan → s.emit.frame = none → s.b Fld.TOP_PINTEST_LOCK = false → latchDelay 16 s.pulses (x + 300) ≤ x + 336 →
    Answers (.emxFrameSend x) s (fun t => t.emit.seq = (s.emit.seq + 1) % 4 ∧
      t.emit.sent = emxFrameBits s.emit.seq (s.emxPattern (latchDelay 16 s.pulses (x + 300))) ∧ t.emit.frame.isSome = true ∧
      t.f Fld.EMIT_EMXSTAT_FRAMES = (s.f Fld.EMIT_EMXSTAT_FRAMES + 1) % 2 ^ Fld.EMIT_EMXSTAT_FRAMES.w ∧ State.regsBut [Reg.EMIT_EMXSTAT] s t ∧
      { t with regs := s.regs, emit := s.emit } = s)) ∧
  (∀ (x : Nat) (s : State), s.dev ≠ .scan ∨ s.emit.frame ≠ none ∨ s.b Fld.TOP_PINTEST_LOCK = true → Answers (.emxFrameSend x) s (fun t => t = s)) ∧
  (∀ (x : Nat) (fr : EmxFrame) (s : State), s.emit.frame = some fr →
    Answers (.emxFrameConfirm x (emxFrameBits fr.seq fr.pat) fr.crc) s (fun t => t.emit.confPat = fr.pat ∧ t.emit.frame = none ∧ t.emit.confAt = x ∧
      (∀ n, n < 8 → (t.str n).patAt = if fr.pat.extractLsb' (8 * n) 8 = s.emit.confPat.extractLsb' (8 * n) 8 then (s.str n).patAt else x) ∧
      { t with emit := s.emit, strs := s.strs } = s)) ∧
  (∀ (x : Nat) (echo : BitVec 76) (status : BitVec 8) (fr : EmxFrame) (s : State), s.emit.frame = some fr → fr.retry = false →
    echo ≠ emxFrameBits fr.seq fr.pat ∨ status ≠ fr.crc →
    Answers (.emxFrameConfirm x echo status) s (fun t => t.emit.sent = emxFrameBits fr.seq fr.pat ∧ t.causeSet Cause.EMIT_EMX_RETRY = true ∧ t.emit.confPat = s.emit.confPat ∧
      (∃ f, t.emit.frame = some f ∧ f.retry = true ∧ f.pat = fr.pat) ∧
      t.f Fld.EMIT_EMXSTAT_RETRIES = min (2 ^ Fld.EMIT_EMXSTAT_RETRIES.w - 1) (s.f Fld.EMIT_EMXSTAT_RETRIES + 1) ∧ { t with regs := s.regs, emit := s.emit } = s)) ∧
  (∀ (x : Nat) (echo : BitVec 76) (status : BitVec 8) (fr : EmxFrame) (s : State), s.emit.frame = some fr → fr.retry = true → s.dev = .scan →
    echo ≠ emxFrameBits fr.seq fr.pat ∨ status ≠ fr.crc →
    Answers (.emxFrameConfirm x echo status) s (fun t => t.dev = .safe ∧ t.emit.frame = none ∧ t.emit.charging = none ∧ t.emit.emxOn = false)) ∧
  (∀ (x : Nat) (s : State), x + 336 < latchDelay 16 s.pulses (x + 300) → Answers (.emxFrameSend x) s (fun t => t = s))

/-- Charging (R86-R89, R253). The supply serves the string that R87 chooses until VBANK reaches its CODE; VBANK shows the reading and READY whether it lies in the band of R88; where it
serves none, it stops if charging is not allowed. Before the shot CHG_SEL turns off. A bank above OVP, a current above ILIM for longer than 100 ns, or the gate driver's trip stops
charging and latches CHG_TRIP; within both limits only the reading is taken. -/
def Obligations.Charging : Prop :=
  (∀ (n v x : Nat) (s : State), n < 8 → s.chargeChoice x = some n → v < s.f (Fld.EMIT_DAC_CODE n) → v ≤ s.f Fld.EMIT_CHG_OVP →
    Answers (.chargeString n v x) s (fun t => t.emit.charging = some n ∧ (t.str n).chgSel = true ∧ t.f (Fld.EMIT_VBANK_VBANK n) = v % 2 ^ (Fld.EMIT_VBANK_VBANK n).w ∧
      t.b (Fld.EMIT_VBANK_READY n) = readyBand (s.f (Fld.EMIT_DAC_CODE n)) (v % 2 ^ (Fld.EMIT_VBANK_VBANK n).w) ∧ State.regsBut [Reg.EMIT_VBANK n] s t ∧
      { t with regs := s.regs, strs := s.strs, emit := s.emit } = s)) ∧
  (∀ (n v x : Nat) (s : State), s.chargeChoice x ≠ some n → s.chargeAllowed = false →
    Answers (.chargeString n v x) s (fun t => t.emit.charging = none ∧ t.regs = s.regs ∧ { t with emit := s.emit } = s)) ∧
  (∀ (n : Nat) (s : State), Answers (.chgSelOff n) s (fun t => (t.str n).chgSel = false ∧ t.emit.charging ≠ some n ∧ t.regs = s.regs ∧
      { t with strs := s.strs, emit := s.emit } = s)) ∧
  (∀ (n v isns dur : Nat) (s : State), n < 8 → s.f Fld.EMIT_CHG_OVP < v % 2 ^ (Fld.EMIT_VBANK_VBANK n).w ∨ s.f Fld.EMIT_CHG_ILIM < isns ∧ 100 < dur →
    Answers (.chargeSupplyTrip n v isns dur) s (fun t => t.emit.charging = none ∧ t.causeSet Cause.CHG_TRIP = true ∧ { t with regs := s.regs, emit := s.emit } = s)) ∧
  (∀ s : State, Answers .chgGateTrip s (fun t => t.emit.charging = none ∧ t.causeSet Cause.CHG_TRIP = true ∧ { t with regs := s.regs, emit := s.emit, nvm := s.nvm } = s)) ∧
  (∀ (n v x : Nat) (s : State), n < 8 → s.chargeChoice x = some n → v < 2 ^ (Fld.EMIT_VBANK_VBANK n).w → s.f (Fld.EMIT_DAC_CODE n) ≤ v →
    Answers (.chargeString n v x) s (fun t => t.emit.charging = none ∧ (t.str n).chgSel = false ∧ t.f (Fld.EMIT_VBANK_VBANK n) = v ∧
      { t with regs := s.regs, strs := s.strs, emit := s.emit } = s)) ∧
  (∀ (n v isns dur : Nat) (s : State), n < 8 → v % 2 ^ (Fld.EMIT_VBANK_VBANK n).w ≤ s.f Fld.EMIT_CHG_OVP → isns ≤ s.f Fld.EMIT_CHG_ILIM ∨ dur ≤ 100 →
    Answers (.chargeSupplyTrip n v isns dur) s (fun t => t.f (Fld.EMIT_VBANK_VBANK n) = v % 2 ^ (Fld.EMIT_VBANK_VBANK n).w ∧ State.regsBut [Reg.EMIT_VBANK n] s t ∧
      { t with regs := s.regs } = s))

/-- A shot's readiness (R88): the pre-shot reading decides whether the shot is ready; one that is not raises SHOT_LATE. -/
def Obligations.ShotReady : Prop :=
  (∀ (n v : Nat) (s : State), n < 8 → (s.str n).next = none → Answers (.shotReadyCheck n v) s (fun t => t = s)) ∧
  (∀ (n v : Nat) (y : NextShot) (s : State), n < 8 → (s.str n).next = some y → v % 2 ^ (Fld.EMIT_VBANK_VBANK n).w ≤ s.f Fld.EMIT_CHG_OVP →
    readyBand (s.f (Fld.EMIT_DAC_CODE n)) (v % 2 ^ (Fld.EMIT_VBANK_VBANK n).w) = true →
    Answers (.shotReadyCheck n v) s (fun t => (t.str n).next = some { y with vpre := some v, ready := some true } ∧ State.regsBut [Reg.EMIT_VBANK n] s t ∧
      { t with regs := s.regs, strs := s.strs } = s)) ∧
  (∀ (n v : Nat) (y : NextShot) (s : State), n < 8 → (s.str n).next = some y → v % 2 ^ (Fld.EMIT_VBANK_VBANK n).w ≤ s.f Fld.EMIT_CHG_OVP →
    readyBand (s.f (Fld.EMIT_DAC_CODE n)) (v % 2 ^ (Fld.EMIT_VBANK_VBANK n).w) = false →
    Answers (.shotReadyCheck n v) s (fun t => (t.str n).next = some { y with vpre := some v, ready := some false } ∧ t.causeSet Cause.EMIT_SHOT_LATE = true ∧
      { t with regs := s.regs, strs := s.strs, scan := s.scan } = s))

/-- Monitoring (R93-R97, R235). A burst takes its slots of ADC0; one that overlaps another string's is missed and raised; every burst's end gives its verdict, and a probe with a sample at
or above the open threshold ends its burst without effect; a probe that falls due is pending, and none does before its interval has run out; EMIT_LOSTCLR's key in IDLE clears the lost and dead states, and no other word does. -/
def Obligations.ShotMonitoring : Prop :=
  (∀ (n : Nat) (m : MonShot) (s : State), (s.str n).mon = some m → m.taken = false → s.shotBusy m.due = false →
    Answers (.shotMonitorBurst n) s (fun t => t.emit.burst = some n ∧ (t.str n).mon = some { m with taken := true } ∧
      t.adc.jobs = s.adcRecent ++ [{ who := 0, src := n, trig := slotAt m.due, len := s.burstLen, live := true }] ∧ { t with strs := s.strs, emit := s.emit, adc := s.adc } = s)) ∧
  (∀ (n : Nat) (m : MonShot) (s : State), (s.str n).mon = some m → m.taken = false → s.shotBusy m.due = true → (s.str n).iso = none →
    Answers (.shotMonitorBurst n) s (fun t => t.emit.burst = s.emit.burst ∧ (t.str n).mon = none ∧ t.causeSet Cause.EMIT_MON_MISS = true ∧
      { t with regs := s.regs, strs := s.strs } = s)) ∧
  (∀ (n i : Nat) (convs : List Conv) (m : MonShot) (s : State), (s.str n).mon = some m → m.taken = true → s.shotJob n = some i → (adcSlots s.adc.jobs i).length ≤ convs.length →
    s.b Fld.ADC0_STAT_REFRDY = true → m.kind = .probe → (s.adcCodes n (adcSlots s.adc.jobs i) convs).all (fun v => decide (v < s.f Fld.EMIT_MON_OPEN_THR * 16)) = false →
    Answers (.shotVerdict n convs) s (fun t => t.emit.burst ≠ some n ∧ (t.str n).mon = none ∧ { t with strs := s.strs, emit := s.emit, adc := s.adc } = s)) ∧
  (∀ (n : Nat) (convs : List Conv) (m : MonShot) (s : State), (s.str n).mon = some m → m.taken = false → Answers (.shotVerdict n convs) s (fun t => t = s)) ∧
  (∀ (n : Nat) (y : NextShot) (s : State), s.dev = .scan → s.usable n = true → (s.str n).iso = none → (s.str n).next = some y →
    (s.str n).probeMs + s.probeWait ≤ s.ms →
    Answers (.periodicProbeDue n) s (fun t => (t.str n).probeDue = true ∧ { t with strs := s.strs } = s)) ∧
  (∀ (n : Nat) (s : State), s.dev ≠ .scan ∨ s.usable n = false → Answers (.periodicProbeDue n) s (fun t => t = s)) ∧
  (∀ s : State, s.dev = .idle → Answers (.emitLostclr 0x4C4F5354) s (fun t => t.f Fld.EMIT_FAULT_DEAD = 0 ∧ t.lostMask = 0)) ∧
  (∀ (key : Word) (s : State), key ≠ 0x4C4F5354 ∨ s.dev ≠ .idle → Answers (.emitLostclr key) s (fun t => t = s)) ∧
  (∀ (n i : Nat) (convs : List Conv) (m : MonShot) (s : State), (s.str n).mon = some m → m.taken = true → s.shotJob n = some i → (adcSlots s.adc.jobs i).length ≤ convs.length →
    Answers (.shotVerdict n convs) s (fun t => (t.str n).mon = none ∧ t.emit.burst ≠ some n ∧ t.dev = s.dev)) ∧
  (∀ (n : Nat) (s : State), s.ms < (s.str n).probeMs + s.probeWait → Answers (.periodicProbeDue n) s (fun t => t = s)) ∧
  (∀ (n : Nat) (s : State), s.dev = .scan → s.usable n = true → (s.str n).iso = none → (s.str n).probeMs + s.probeWait ≤ s.ms →
    Answers (.periodicProbeDue n) s (fun t => (t.str n).probeDue = true ∧ t.dev = .scan))

/-! ## Mirror, triggers, grants and shots (chapters 5, 6) -/

/-- The mirror's samples and strokes (R101, R103, R106, R233). A sample that has been asked for, with a reference ready, sets SCAN_ANGLE to its code and valid flag, and without one is given up;
a stroke that starts counts the sweep modulo 2^24, and the stroke's end leaves no target; without an active stroke an end does nothing. -/
def Obligations.MirrorAndSweeps : Prop :=
  (∀ (convs : List Conv) (x : Nat) (bad fue : List Nat) (s : State), s.dev ≠ .scan → s.adcSlotsOf 1 ≠ [] → (s.adcSlotsOf 1).length ≤ convs.length → s.b Fld.ADC0_STAT_REFRDY = true →
    Answers (.msnsSample convs x bad fue) s (fun t =>
      t.f Fld.SCAN_ANGLE_ANGLE = (s.sampleTheta (sampleValue (s.adcCodes 9 (s.adcSlotsOf 1) convs)) / 4096).toNat % 2 ^ Fld.SCAN_ANGLE_ANGLE.w ∧
      t.b Fld.SCAN_ANGLE_VALID = (!s.ctl.mexcBroken && decide (0x100 ≤ sampleValue (s.adcCodes 9 (s.adcSlotsOf 1) convs)) &&
        decide (sampleValue (s.adcCodes 9 (s.adcSlotsOf 1) convs) ≤ 0xFEF0)) ∧ t.dev = s.dev)) ∧
  (∀ (x : Nat) (s : State), s.dev ≠ .scan → s.scanMode = 0 →
    Answers (.sweepStart x) s (fun t => t.f Fld.SCAN_STAT_SWEEPS = (s.f Fld.SCAN_STAT_SWEEPS + 1) % 2 ^ 24 ∧ t.scan.active = true ∧ t.scan.t0 = x ∧ t.scan.sos = true)) ∧
  (∀ (x : Nat) (s : State), s.scan.active = false → Answers (.strokeEnd x) s (fun t => t = s)) ∧
  (∀ (x : Nat) (s : State), s.scan.active = true → s.dev ≠ .scan →
    Answers (.strokeEnd x) s (fun t => t.scan.active = false ∧ t.scan.todo = [] ∧ t.scan.next = none ∧ t.scan.fbT = x)) ∧
  (∀ (convs : List Conv) (x : Nat) (bad fue : List Nat) (s : State), s.adcSlotsOf 1 ≠ [] → (s.adcSlotsOf 1).length ≤ convs.length → s.b Fld.ADC0_STAT_REFRDY = true →
    Answers (.msnsSample convs x bad fue) s (fun t =>
      t.f Fld.SCAN_ANGLE_ANGLE = (s.sampleTheta (sampleValue (s.adcCodes 9 (s.adcSlotsOf 1) convs)) / 4096).toNat % 2 ^ Fld.SCAN_ANGLE_ANGLE.w ∧
      (t.scan.samples.head?.map (·.t)) = some (4 * (s.adcSlotsOf 1).headD 0))) ∧
  (∀ (convs : List Conv) (x : Nat) (bad fue : List Nat) (s : State), s.adcSlotsOf 1 ≠ [] → (s.adcSlotsOf 1).length ≤ convs.length → s.b Fld.ADC0_STAT_REFRDY = false →
    Answers (.msnsSample convs x bad fue) s (fun t => { t with adc := s.adc } = s)) ∧
  (∀ (x : Nat) (s : State), s.scanMode = 0 →
    Answers (.sweepStart x) s (fun t => t.f Fld.SCAN_STAT_SWEEPS = (s.f Fld.SCAN_STAT_SWEEPS + 1) % 2 ^ 24 ∧ t.scan.active = true ∧ t.scan.t0 = x ∧ t.dev = s.dev)) ∧
  (∀ (x : Nat) (s : State), s.scan.active = true → Answers (.strokeEnd x) s (fun t => t.scan.active = false ∧ t.scan.todo = [] ∧ t.scan.next = none ∧ t.scan.fbT = x ∧ t.dev = s.dev))

/-- Grants and triggers (R14, R103, R105). No grant is fixed out of SCAN, with one fixed already or before the engine is armed; in STARE one is due with no column
running; a trigger at a target that is reached, and whose grant is fixed, makes that grant the running column, disarms the engine and moves on to the targets
behind it; out of SCAN no trigger acts; the hold-off's end arms the engine again, and of two or more targets passed meanwhile the last triggers late (R106). A
grant is fixed wherever a target is predicted within the lead of the grant; a trigger at a reached target, and in STARE at its time, opens its column whether or
not a grant was fixed. -/
def Obligations.GrantsAndTriggers : Prop :=
  (∀ (now : Nat) (bad : List Nat) (s : State), s.dev ≠ .scan ∨ s.scan.next.isSome = true ∨ s.scan.armed = false → Answers (.kilnGrant now bad) s (fun t => t = s)) ∧
  (∀ (now : Nat) (bad : List Nat) (s : State), s.dev = .scan → s.scanMode = 1 → s.scan.next = none → s.scan.armed = true → s.scan.cur = none →
    Answers (.kilnGrant now bad) s (fun t => t.scan.next.map (·.az) = some (s.f Fld.SCAN_STARE_AZ) ∧ t.scan.armed = true ∧ t.dev = .scan)) ∧
  (∀ (x : Nat) (bad fue : List Nat) (s : State), s.triggers = false → Answers (.trigger x bad fue) s (fun t => t = s) ∧ Answers (.stareTrigger x bad fue) s (fun t => t = s)) ∧
  (∀ (x : Nat) (bad fue : List Nat) (y : Nat × Bool) (rest : List (Nat × Bool)) (g : Grant) (s : State), s.triggers = true → s.scanMode ≠ 1 → s.scan.armed = true →
    s.scan.todo = y :: rest → s.reached y.1 y.2 x = true → s.scan.next = some g → g.az = y.1 →
    Answers (.trigger x bad fue) s (fun t => t.scan.todo = rest ∧ t.scan.armed = false ∧ t.scan.tTrig = x ∧ t.scan.next = none ∧ t.scan.cur.map (·.az) = some y.1)) ∧
  (∀ (x : Nat) (bad fue : List Nat) (g : Grant) (s : State), s.triggers = true → s.scanMode = 1 → s.scan.cur = none → s.scan.next = some g → g.az = s.f Fld.SCAN_STARE_AZ →
    Answers (.stareTrigger x bad fue) s (fun t => t.scan.armed = false ∧ t.scan.tTrig = x ∧ t.scan.cur.map (·.az) = some g.az ∧ t.scan.stareN = (s.scan.stareN + 1) % 65536)) ∧
  (∀ (x : Nat) (bad fue : List Nat) (s : State), s.dev = .scan → s.scan.cur.isSome = true → s.scan.armed = false → s.holdoffOver x = true → s.passed.length < 2 →
    Answers (.holdoffExpiry x bad fue) s (fun t => t.scan.armed = true ∧ t.dev = .scan)) ∧
  (∀ (x : Nat) (bad fue : List Nat) (s : State), s.dev ≠ .scan ∨ s.scan.armed = true ∨ s.holdoffOver x = false → Answers (.holdoffExpiry x bad fue) s (fun t => t = s)) ∧
  (∀ (x : Nat) (bad fue : List Nat) (s : State), s.triggers = true → s.scanMode ≠ 1 → s.scan.cur.isSome = true → s.scan.armed = false → s.holdoffOver x = true → 2 ≤ s.passed.length →
    Answers (.holdoffExpiry x bad fue) s (fun t => t.scan.cur.map (·.az) = s.passed.getLast?.map (·.1) ∧ t.scan.tTrig = x ∧ t.scan.armed = false ∧ t.causeSet Cause.SCAN_LATE = true)) ∧
  (∀ (now c : Nat) (bad : List Nat) (y : Nat × Bool) (rest : List (Nat × Bool)) (s : State), s.dev = .scan → s.scanMode ≠ 1 → s.scan.next = none → s.scan.armed = true →
    s.scan.todo = y :: rest → s.crossing y.1 y.2 now = some c → c ≤ now + 1000 →
    Answers (.kilnGrant now bad) s (fun t => t.scan.next.map (·.az) = some y.1 ∧ t.scan.todo = s.scan.todo ∧ t.scan.armed = true ∧ t.dev = .scan)) ∧
  (∀ (x : Nat) (bad fue : List Nat) (y : Nat × Bool) (rest : List (Nat × Bool)) (s : State), s.triggers = true → s.scanMode ≠ 1 → s.scan.armed = true →
    s.scan.todo = y :: rest → s.reached y.1 y.2 x = true →
    Answers (.trigger x bad fue) s (fun t => t.scan.todo = rest ∧ t.scan.armed = false ∧ t.scan.tTrig = x ∧ t.scan.next = none ∧ t.scan.cur.map (·.az) = some y.1 ∧ t.dev = .scan)) ∧
  (∀ (x : Nat) (bad fue : List Nat) (s : State), s.triggers = true → s.scanMode = 1 → s.scan.cur = none ∨ s.scan.tTrig + max 2500 (s.f Fld.SCAN_STARE_TCOL) * 4 ≤ x →
    Answers (.stareTrigger x bad fue) s (fun t => t.scan.armed = false ∧ t.scan.tTrig = x ∧ t.scan.cur.map (·.az) = some (s.f Fld.SCAN_STARE_AZ) ∧
      t.scan.stareN = (s.scan.stareN + 1) % 65536 ∧ t.dev = .scan))

/-- No light with the emitters locked off (R34, R44, R89, R108, R253): FIRE while no state but SCAN holds, or a pin-test lock, a charge trip, a hard trip or an unlocked
PLLA does, fires nothing: no shot is counted, no cell of the eye-safety ledger is charged, no window opens, nothing is handed over. -/
def Obligations.NoLightWhenOff : Prop :=
  ∀ (n x : Nat) (s : State), n < 8 → s.emittersOff = true →
    Answers (.fire n x) s (fun t => t.f (Fld.EMIT_SHOTS_COUNT n) = s.f (Fld.EMIT_SHOTS_COUNT n) ∧ t.kiln.ledger = s.kiln.ledger ∧ t.emit.handed = s.emit.handed ∧
      t.clus = s.clus ∧ (t.str n).lastFire = (s.str n).lastFire)

/-- FIRE (R76, R77, R79, R94, R95): a shot of any kind that is ready, admitted, confirmed and not inhibited fires: EMIT_SHOTS counts it, the string's last fire is
its pulse, and its burst is due; a planned shot advances the dither register, fired or not, and one that is not ready is not fired; a string without a shot does
nothing. The limiter (R121, R123): a shot it admits is marked so and nothing else changes; a probe it refuses raises REFUSED and PROBE_DEFER. A planned shot the
limiter refuses raises REFUSED, counts, and limits its column. -/
def Obligations.FireAndLimiter : Prop :=
  (∀ (n x : Nat) (s : State), (s.str n).next = none → Answers (.fire n x) s (fun t => t = s) ∧ Answers (.emissionLimitDecide n false) s (fun t => t = s)) ∧
  (∀ (n x st : Nat) (y : NextShot) (s : State), n < 8 → (s.str n).next = some y → y.kind = .iso st → y.ready = some true → y.admitted = some true →
    s.patternReady n y.pat y.t = true → s.fireInhibited n = false →
    Answers (.fire n x) s (fun t => t.f (Fld.EMIT_SHOTS_COUNT n) = (s.f (Fld.EMIT_SHOTS_COUNT n) + 1) % 2 ^ (Fld.EMIT_SHOTS_COUNT n).w ∧
      (t.str n).lastFire = some (y.t, y.t + s.widthNs n) ∧ (t.str n).next = none ∧ (t.str n).mon.isSome = true ∧ t.dev = s.dev)) ∧
  (∀ (n : Nat) (y : NextShot) (s : State), (s.str n).next = some y →
    s.limiterAdmits (s.shotCells n y.pat (s.predict y.t)) (s.emission (s.wEye n y.pat) (max (s.f (Fld.EMIT_DAC_CODE n)) (y.vpre.getD (s.f (Fld.EMIT_VBANK_VBANK n))))) = true →
    Answers (.emissionLimitDecide n false) s (fun t => (t.str n).next = some { y with admitted := some true } ∧ { t with strs := s.strs } = s)) ∧
  (∀ (n : Nat) (y : NextShot) (s : State), (s.str n).next = some y → y.kind = .probe →
    s.limiterAdmits (s.shotCells n y.pat (s.predict y.t)) (s.emission (s.wEye n y.pat) (max (s.f (Fld.EMIT_DAC_CODE n)) (y.vpre.getD (s.f (Fld.EMIT_VBANK_VBANK n))))) = false →
    Answers (.emissionLimitDecide n false) s (fun t => (t.str n).next = some { y with admitted := some false } ∧ t.causeSet Cause.KILN_EYEFLAG_REFUSED = true ∧
      t.causeSet Cause.KILN_EYEFLAG_PROBE_DEFER = true ∧ t.f Fld.KILN_EYEFLAG_REFCNT = min (2 ^ Fld.KILN_EYEFLAG_REFCNT.w - 1) (s.f Fld.KILN_EYEFLAG_REFCNT + 1) ∧
      { t with regs := s.regs, strs := s.strs } = s)) ∧
  (∀ (n x i : Nat) (y : NextShot) (s : State), n < 8 → (s.str n).next = some y → y.kind = .planned i → y.ready = some true → y.admitted = some true →
    s.patternReady n y.pat y.t = true → s.fireInhibited n = false →
    Answers (.fire n x) s (fun t => t.f (Fld.EMIT_SHOTS_COUNT n) = (s.f (Fld.EMIT_SHOTS_COUNT n) + 1) % 2 ^ (Fld.EMIT_SHOTS_COUNT n).w ∧
      (t.str n).lastFire = some (y.t, y.t + s.widthNs n) ∧ (t.str n).mon.isSome = true ∧
      t.f (Fld.EMIT_DLFSR_LFSR n) = (lfsr16 (BitVec.ofNat 16 (s.f (Fld.EMIT_DLFSR_LFSR n)))).toNat ∧ t.dev = s.dev)) ∧
  (∀ (n x : Nat) (y : NextShot) (s : State), n < 8 → (s.str n).next = some y → y.kind = .probe → y.ready = some true → y.admitted = some true →
    s.patternReady n y.pat (s.clearOfLatch (max x y.t)) = true → s.fireInhibited n = false →
    Answers (.fire n x) s (fun t => t.f (Fld.EMIT_SHOTS_COUNT n) = (s.f (Fld.EMIT_SHOTS_COUNT n) + 1) % 2 ^ (Fld.EMIT_SHOTS_COUNT n).w ∧
      (t.str n).lastFire = some (s.clearOfLatch (max x y.t), s.clearOfLatch (max x y.t) + s.widthNs n) ∧ (t.str n).probeDue = false ∧ (t.str n).probeMs = s.ms ∧ t.dev = s.dev)) ∧
  (∀ (n x i : Nat) (y : NextShot) (s : State), n < 8 → (s.str n).next = some y → y.kind = .planned i → y.ready ≠ some true →
    Answers (.fire n x) s (fun t => t.f (Fld.EMIT_SHOTS_COUNT n) = s.f (Fld.EMIT_SHOTS_COUNT n) ∧ (t.str n).lastFire = (s.str n).lastFire ∧ t.kiln = s.kiln ∧
      t.f (Fld.EMIT_DLFSR_LFSR n) = (lfsr16 (BitVec.ofNat 16 (s.f (Fld.EMIT_DLFSR_LFSR n)))).toNat)) ∧
  (∀ (n i : Nat) (y : NextShot) (s : State), (s.str n).next = some y → y.kind = .planned i →
    s.limiterAdmits (s.shotCells n y.pat (s.predict y.t)) (s.emission (s.wEye n y.pat) (max (s.f (Fld.EMIT_DAC_CODE n)) (y.vpre.getD (s.f (Fld.EMIT_VBANK_VBANK n))))) = false →
    Answers (.emissionLimitDecide n false) s (fun t => (t.str n).next = some { y with admitted := some false } ∧ t.causeSet Cause.KILN_EYEFLAG_REFUSED = true ∧
      t.scan.cur.map (·.limited) = s.scan.cur.map (fun _ => true) ∧
      t.f Fld.KILN_EYEFLAG_REFCNT = min (2 ^ Fld.KILN_EYEFLAG_REFCNT.w - 1) (s.f Fld.KILN_EYEFLAG_REFCNT + 1)))

/-- Kiln (R118, R122, R124): a decay step moves the models' time on by 1 ms; SUB ms after the last, a new sub-window of the eye-safety ledger discards the accumulators nine sub-windows
old; 9 × SUB ms after the ledger was cleared the initial refusal period ends; before, neither happens. -/
def Obligations.KilnTime : Prop :=
  (∀ s : State, Answers .kilnDecayStep s (fun t => t.kiln.tModel = s.kiln.tModel + 1000000 ∧ t.kiln.ledger = s.kiln.ledger ∧ t.dev = s.dev)) ∧
  (∀ s : State, s.kiln.subMs + s.subLen ≤ s.ms → Answers .eyeSubwindow s (fun t => t.kiln.sub = (s.kiln.sub + 1) % 9 ∧ t.kiln.ledger = s.kiln.ledger.filter (fun p => p.1 % 16 != (s.kiln.sub + 1) % 9) ∧
    { t with kiln := s.kiln } = s)) ∧
  (∀ s : State, s.kiln.initMs + 9 * s.subLen ≤ s.ms → Answers .eyeInitEnd s (fun t => t.b Fld.KILN_EYEFLAG_INIT = false ∧ State.regsBut [Reg.KILN_EYEFLAG] s t ∧ { t with regs := s.regs } = s)) ∧
  (∀ s : State, s.ms < s.kiln.subMs + s.subLen → Answers .eyeSubwindow s (fun t => t = s)) ∧
  (∀ s : State, s.ms < s.kiln.initMs + 9 * s.subLen → Answers .eyeInitEnd s (fun t => t = s))

/-! ## Receiver and histograms (chapters 7, 8) -/

/-- Cluster domains (R12): a cluster the running or coming column needs within 200 ns switches on in SCAN, and Kiln counts its warm-up; one with no gate and no
window open, and not needed within 400 ns, switches off; with a window open it stays. A clear of the Tun ends (R155): out of SCAN nothing else happens, and
without a clear nothing does. A clear that ends in SCAN with a target reached triggers that column late. -/
def Obligations.ClusterPower : Prop :=
  (∀ (k x : Nat) (s : State), k < 64 → s.dev = .scan → s.neededIn k x 200 = true → s.clusterShut k = false → L2Target.cluster k ∉ s.rst.l2 → s.powered k = false →
    Answers (.clusterPowerOn k x) s (fun t => t.scan.clu = s.scan.clu ||| (1#64 <<< k) ∧ t.kiln.spent.head? = some (x, s.f Fld.KILN_CLU_EWAKE) ∧
      { t with scan := s.scan, kiln := s.kiln } = s)) ∧
  (∀ (k x : Nat) (s : State), s.dev ≠ .scan ∨ s.clusterShut k = true ∨ 64 ≤ k ∨ s.neededIn k x 200 = false → Answers (.clusterPowerOn k x) s (fun t => t = s)) ∧
  (∀ (k x : Nat) (s : State), k < 64 → (s.cluster k).wins = [] → (∀ c, 16 * k ≤ c → c < 16 * k + 16 → (s.chan c).gate = none) → s.mash.bootRun = false → s.mash.injEnd ≤ x →
    s.neededIn k x 400 = false →
    Answers (.clusterPowerOff k x) s (fun t => t.scan.clu = s.scan.clu &&& ~~~(1#64 <<< k) ∧ { t with scan := s.scan, clus := s.clus } = s)) ∧
  (∀ (k x : Nat) (w : Win) (s : State), w ∈ (s.cluster k).wins → x < w.tf + 4096 → Answers (.clusterPowerOff k x) s (fun t => t.scan = s.scan ∧ { t with clus := s.clus } = s)) ∧
  (∀ (x : Nat) (bad fue : List Nat) (s : State), s.scan.clearing = false → Answers (.tunClearDone x bad fue) s (fun t => t = s)) ∧
  (∀ (x : Nat) (bad fue : List Nat) (s : State), s.scan.clearing = true → s.dev ≠ .scan →
    Answers (.tunClearDone x bad fue) s (fun t => t.scan.clearing = false ∧ t.b Fld.MASH_STAT_CLR_BUSY = false ∧ State.regsBut [Reg.MASH_STAT] s t ∧
      { t with regs := s.regs, scan := s.scan } = s)) ∧
  (∀ (x : Nat) (bad fue : List Nat) (s : State), s.scan.clearing = true → s.dev = .scan → s.scan.leave = 0 → s.scanMode ≠ 1 → (∀ y ∈ s.scan.todo.head?, s.reached y.1 y.2 x = false) →
    Answers (.tunClearDone x bad fue) s (fun t => t.scan.clearing = false ∧ t.b Fld.MASH_STAT_CLR_BUSY = false ∧ t.dev = .scan ∧ t.scan.todo = s.scan.todo)) ∧
  (∀ (x : Nat) (bad fue : List Nat) (s : State), s.scan.clearing = true →
    Answers (.tunClearDone x bad fue) s (fun t => t.scan.clearing = false ∧ t.b Fld.MASH_STAT_CLR_BUSY = false ∧ t.dev = s.dev)) ∧
  (∀ (x : Nat) (bad fue : List Nat) (y : Nat × Bool) (rest : List (Nat × Bool)) (s : State), s.scan.clearing = true → s.dev = .scan → s.scan.leave = 0 → s.scanMode ≠ 1 →
    s.scan.todo = y :: rest → s.reached y.1 y.2 x = true →
    Answers (.tunClearDone x bad fue) s (fun t => t.scan.clearing = false ∧ t.scan.tTrig = x ∧ t.scan.armed = false ∧ t.causeSet Cause.SCAN_LATE = true ∧
      t.scan.todo.length ≤ rest.length ∧ t.dev = .scan))

/-- The ambient gate (R133, R134): it opens on a woken, powered cluster in SCAN with no gate open; its midpoint computes RATE and chooses k; its end latches both,
with the gated events, into RX_AMBC. Without a gate, midpoint and end do nothing. Any open gate gives its RATE at the midpoint and its EVT at the end. -/
def Obligations.AmbientGate : Prop :=
  (∀ (c : Nat) (s : State), s.dev = .scan → (s.cluster (c / 16)).cur.woken = true → s.powered (c / 16) = true → s.spads c ≠ 0 → s.gateRuns (c / 16) = true →
    (s.chan c).gate = none →
    Answers (.ambientGateOpen c) s (fun t => (t.chan c).gate.map (·.opened) = some (s.gateOf (c / 16)).1 ∧ (t.chan c).gate.map (·.len) = some (s.gateOf (c / 16)).2 ∧
      { t with chans := s.chans } = s)) ∧
  (∀ (c : Nat) (s : State), s.dev ≠ .scan ∨ s.powered (c / 16) = false → Answers (.ambientGateOpen c) s (fun t => t = s)) ∧
  (∀ (c : Nat) (g : GateSt) (s : State), (s.chan c).gate = some g → g.mid = none → s.ef Fld.RX_COINC_ADAPT = 0 →
    Answers (.ambientGateMidpoint c) s (fun t => (t.chan c).gate = some { g with mid := some (clampK (s.ef Fld.RX_COINC_K), min 0xFFFF (2000 * g.a / max 1 g.len)) } ∧
      { t with chans := s.chans } = s)) ∧
  (∀ (c k rate : Nat) (g : GateSt) (s : State), c < 1024 → (s.chan c).gate = some g → g.mid = some (k, rate) →
    Answers (.ambientGateClose c) s (fun t => (t.chan c).gate = none ∧ t.f (Fld.RX_AMBC_K c) = k % 2 ^ (Fld.RX_AMBC_K c).w ∧ t.b (Fld.RX_AMBC_STALE c) = false ∧
      t.f (Fld.RX_AMBC_RATE c) = rate % 2 ^ (Fld.RX_AMBC_RATE c).w ∧ t.f (Fld.RX_AMBC_EVT c) = min 0xFF g.evt ∧ State.regsBut [Reg.RX_AMBC c] s t ∧
      { t with regs := s.regs, chans := s.chans } = s)) ∧
  (∀ (c : Nat) (s : State), (s.chan c).gate = none → Answers (.ambientGateMidpoint c) s (fun t => t = s) ∧ Answers (.ambientGateClose c) s (fun t => t = s)) ∧
  (∀ (c : Nat) (g : GateSt) (s : State), (s.chan c).gate = some g → g.mid = none →
    Answers (.ambientGateMidpoint c) s (fun t => (∃ k, (t.chan c).gate = some { g with mid := some (k, min 0xFFFF (2000 * g.a / max 1 g.len)) }) ∧ { t with chans := s.chans } = s)) ∧
  (∀ (c : Nat) (g : GateSt) (s : State), c < 1024 → (s.chan c).gate = some g →
    Answers (.ambientGateClose c) s (fun t => (t.chan c).gate = none ∧ t.b (Fld.RX_AMBC_STALE c) = false ∧ t.f (Fld.RX_AMBC_EVT c) = min 0xFF g.evt ∧
      State.regsBut [Reg.RX_AMBC c] s t ∧ { t with regs := s.regs, chans := s.chans } = s))

/-- Events and windows (R48, R132, R134, R135). Avalanches of a channel whose domain is off or whose cluster is held in reset, or of SPADs not enabled, are none at all; with a gate past its
midpoint, the k-th SPAD of a set counts an event in the gate outside the dead time; in a window it enters the FIFO; windows close 4096 ns after their shot and no younger window does; capture is
armed by a write of 1; a channel whose background hits are enough has its counts restarted and its map staged or rejected (R141, R142). -/
def Obligations.ReceiverEvents : Prop :=
  (∀ (c i ps tap : Nat) (avs : List (Nat × Nat × Nat)) (s : State), s.powered (c / 16) = false ∨ L2Target.cluster (c / 16) ∈ s.rst.l2 ∨ (∀ a ∈ (i, ps, tap) :: avs, s.spadOn c a.1 = false) →
    Answers (.rxEvent c i ps tap avs) s (fun t => t = s)) ∧
  (∀ (c i ps tap k rate : Nat) (g : GateSt) (s : State), s.powered (c / 16) = true → L2Target.cluster (c / 16) ∉ s.rst.l2 → s.spadOn c i = true → (s.chan c).set = none →
    (s.chan c).gate = some g → g.mid = some (k, rate) → s.tdcDead c (s.lsbOf c ps tap) = false → s.chanValid c = true → min k (s.spads c) ≤ 1 →
    Answers (.rxEvent c i ps tap []) s (fun t => (t.chan c).gate = some { g with evt := min 0xFF (g.evt + 1) } ∧
      (t.chan c).lastEvt = some (s.lsbOf c ps tap) ∧ { t with chans := s.chans } = s)) ∧
  (∀ (k x : Nat) (s : State), (∀ w ∈ (s.cluster k).wins, x < w.tf + 4096) →
    Answers (.windowClose k x) s (fun t => (t.cluster k).wins = (s.cluster k).wins ∧ { t with clus := s.clus } = s)) ∧
  (∀ s : State, Answers .rxCapctlArm s (fun t => t.f Fld.RX_CAPCTL_COUNT = 0 ∧ t.mash.capArm = true ∧ State.regsBut [Reg.RX_CAPCTL] s t ∧
      { t with regs := s.regs, mash := s.mash } = s)) ∧
  (∀ (c x : Nat) (s : State), 2 ^ min 16 (max 12 (s.f Fld.RX_CAL_BGN)) ≤ (s.chan c).tapList.foldl (· + ·) 0 → s.b Fld.RX_CAL_BGCAL = true →
    Answers (.bgcalMapStaged c x) s (fun t => (t.chan c).hits = [])) ∧
  (∀ (c x : Nat) (s : State), s.b Fld.RX_CAL_BGCAL = false → Answers (.bgcalMapStaged c x) s (fun t => t = s)) ∧
  (∀ (c i ps tap k rate : Nat) (g : GateSt) (s : State), s.powered (c / 16) = true → L2Target.cluster (c / 16) ∉ s.rst.l2 → s.spadOn c i = true → (s.chan c).set = none →
    (s.chan c).gate = some g → g.mid = some (k, rate) → 2 ≤ min k (s.spads c) →
    Answers (.rxEvent c i ps tap []) s (fun t => (t.chan c).set = some { ps := ps, tap := tap, spads := [i] } ∧ (t.chan c).gate = some g ∧ { t with chans := s.chans } = s)) ∧
  (∀ (c i ps tap k rate : Nat) (g : GateSt) (q : CoSet) (s : State), s.powered (c / 16) = true → L2Target.cluster (c / 16) ∉ s.rst.l2 → s.spadOn c i = true → (s.chan c).set = some q →
    (s.chan c).gate = some g → g.mid = some (k, rate) → ps < q.ps + 500 + 250 * min 14 (s.ef Fld.RX_COINC_GATE) → i ∉ q.spads → q.spads.length + 1 = min k (s.spads c) →
    s.chanValid c = true → s.tdcDead c (s.lsbOf c q.ps q.tap) = false →
    Answers (.rxEvent c i ps tap []) s (fun t => (t.chan c).gate = some { g with evt := min 0xFF (g.evt + 1) } ∧ (t.chan c).lastEvt = some (s.lsbOf c q.ps q.tap) ∧
      (t.chan c).set = none ∧ { t with chans := s.chans } = s)) ∧
  (∀ (c i ps tap : Nat) (w : Win) (ws : List Win) (s : State), s.powered (c / 16) = true → L2Target.cluster (c / 16) ∉ s.rst.l2 → s.spadOn c i = true → (s.chan c).set = none →
    (s.chan c).gate = none → (s.cluster (c / 16)).wins = w :: ws → w.tf ≤ ps / 1000 → s.tdcDead c (s.lsbOf c ps tap) = false → s.chanValid c = true →
    min (s.windowK c) (s.spads c) ≤ 1 → s.mash.swapPend = false → (s.chan c).fifo.length < 16 →
    Answers (.rxEvent c i ps tap []) s (fun t => (t.chan c).fifo.length = (s.chan c).fifo.length + 1 ∧
      (t.chan c).fifo.getLast?.map (·.word) = some (gristWord (decide (w.tf + 4095 < ps / 1000)) w.tag (c % 16) (min 4095 (ps / 1000 - w.tf)) ((s.chan c).map.getD tap 0)) ∧
      (t.chan c).lastEvt = some (s.lsbOf c ps tap) ∧ t.dev = s.dev)) ∧
  (∀ (k x : Nat) (s : State), Answers (.windowClose k x) s (fun t => (t.cluster k).wins = (s.cluster k).wins.filter (fun w => decide (x < w.tf + 4096)) ∧ { t with clus := s.clus } = s)) ∧
  (∀ (c x : Nat) (s : State), 2 ^ min 16 (max 12 (s.f Fld.RX_CAL_BGN)) ≤ (s.chan c).tapList.foldl (· + ·) 0 → s.b Fld.RX_CAL_BGCAL = true →
    s.mapOk ((s.chan c).tapList.foldl (· + ·) 0) (codeMap 64 ((s.chan c).tapList.foldl (· + ·) 0) 0 (s.chan c).tapList) (s.chan c).tapList = true →
    Answers (.bgcalMapStaged c x) s (fun t => (t.chan c).staged.map (fun q => (q.1, q.2.2)) = some (codeMap 64 ((s.chan c).tapList.foldl (· + ·) 0) 0 (s.chan c).tapList, x) ∧
      (t.chan c).hits = [] ∧ (t.chan c).map = (s.chan c).map ∧ t.b (Fld.RX_TDC_REJ c) = false ∧ { t with regs := s.regs, chans := s.chans } = s)) ∧
  (∀ (c x : Nat) (s : State), 2 ^ min 16 (max 12 (s.f Fld.RX_CAL_BGN)) ≤ (s.chan c).tapList.foldl (· + ·) 0 → s.b Fld.RX_CAL_BGCAL = true →
    s.mapOk ((s.chan c).tapList.foldl (· + ·) 0) (codeMap 64 ((s.chan c).tapList.foldl (· + ·) 0) 0 (s.chan c).tapList) (s.chan c).tapList = false →
    Answers (.bgcalMapStaged c x) s (fun t => (t.chan c).hits = [] ∧ (t.chan c).map = (s.chan c).map ∧ (t.chan c).staged = (s.chan c).staged ∧ t.causeSet Cause.RX_CAL_REJ = true ∧
      { t with regs := s.regs, chans := s.chans } = s))

/-- The way of an event into its bin (R160, R162-R165, R170, R361). With nothing in the FIFOs of its cluster a drain does nothing; otherwise, the fill below the thinning levels, the
event the engine serves next leaves its FIFO; one flagged as overflow is not binned, one that thinning drops is counted, one whose parity is wrong is lost. The search of a zoom column ends
4112 ns after it began. The thinning level falls by one. A snapshot is armed, and takes nothing of a sparge of its channel in progress. -/
def Obligations.EventPath : Prop :=
  (∀ (k x : Nat) (par : Bool) (errs : List Nat) (s : State), (∀ c, 16 * k ≤ c → c < 16 * k + 16 → (s.chan c).fifo = []) → Answers (.mashDrain k x par errs) s (fun t => t = s)) ∧
  (∀ (k x j : Nat) (errs : List Nat) (e : FifoE) (rest : List FifoE) (s : State), s.fill k ≤ s.thinDown → s.nextServed k = some j → (s.chan (16 * k + j)).fifo = e :: rest →
    e.word.getLsbD 24 = true →
    Answers (.mashDrain k x false errs) s (fun t => (t.chan (16 * k + j)).fifo = rest ∧ (t.cluster k).served = j ∧ t.tun = s.tun ∧
      { t with regs := s.regs, chans := s.chans, clus := s.clus, mash := s.mash } = s)) ∧
  (∀ (k st : Nat) (s : State), (s.cluster k).cur.search = some st → (s.cluster k).cur.tz = none →
    Answers (.zoomPlace k) s (fun t => (t.cluster k).cur.tz = some (st + 4112) ∧ (t.cluster k).seen = [] ∧ { t with chans := s.chans, clus := s.clus } = s)) ∧
  (∀ (k : Nat) (s : State), (s.cluster k).cur.search = none → Answers (.zoomPlace k) s (fun t => t = s)) ∧
  (∀ (k x : Nat) (s : State), s.fill k ≤ s.thinDown → 0 < (s.cluster k).level → (s.cluster k).aboveT + 2048 ≤ x →
    Answers (.thinLevelFall k x) s (fun t => (t.cluster k).level = (s.cluster k).level - 1 ∧
      t.f (Fld.MASH_THINK_LEVEL k) = ((s.cluster k).level - 1) % 2 ^ (Fld.MASH_THINK_LEVEL k).w ∧ State.regsBut [(Fld.MASH_THINK_LEVEL k).addr] s t ∧
      { t with regs := s.regs, clus := s.clus } = s)) ∧
  (∀ (k x : Nat) (s : State), s.fill k ≤ s.thinDown → (s.cluster k).level = 0 → Answers (.thinLevelFall k x) s (fun t => t = s)) ∧
  (∀ (ch : Nat) (s : State), ch < 1024 → Answers (.mashSnapctlArm ch) s (fun t => t.mash.snapSkip = s.inSparge ch ∧ t.f Fld.MASH_SNAPCTL_CH = ch ∧ t.b Fld.MASH_SNAPCTL_PEND = true ∧ State.regsBut [Reg.MASH_SNAPCTL] s t ∧
      { t with regs := s.regs, mash := s.mash } = s)) ∧
  (∀ (k x j : Nat) (par : Bool) (errs : List Nat) (e : FifoE) (rest : List FifoE) (s : State), s.fill k ≤ s.thinDown → s.nextServed k = some j → (s.chan (16 * k + j)).fifo = e :: rest →
    Answers (.mashDrain k x par errs) s (fun t => (t.chan (16 * k + j)).fifo = rest ∧ (t.cluster k).served = j ∧ t.dev = s.dev)) ∧
  (∀ (k x j : Nat) (errs : List Nat) (e : FifoE) (rest : List FifoE) (s : State), s.fill k ≤ s.thinDown → s.nextServed k = some j → (s.chan (16 * k + j)).fifo = e :: rest →
    Answers (.mashDrain k x true errs) s (fun t => t.f (Fld.RX_LOSS_FOVF k) = min (2 ^ (Fld.RX_LOSS_FOVF k).w - 1) (s.f (Fld.RX_LOSS_FOVF k) + 1) ∧
      t.causeSet Cause.RX_FOVF = true ∧ t.causeSet Cause.MASH_LOSS = true ∧ t.tun = s.tun)) ∧
  (∀ (k x j : Nat) (errs : List Nat) (e : FifoE) (rest : List FifoE) (s : State), s.fill k ≤ s.thinDown → s.nextServed k = some j → (s.chan (16 * k + j)).fifo = e :: rest →
    (s.cluster k).level ≠ 0 → (lfsr16 (s.cluster k).lfsr).toNat % 2 ^ (s.cluster k).level ≠ 0 →
    Answers (.mashDrain k x false errs) s (fun t => t.f (Fld.MASH_THINK_THINNED k) = min (2 ^ (Fld.MASH_THINK_THINNED k).w - 1) (s.f (Fld.MASH_THINK_THINNED k) + 1) ∧
      (t.cluster k).lfsr = lfsr16 (s.cluster k).lfsr ∧ t.tun = s.tun)) ∧
  (∀ (k x j b tf tj : Nat) (errs : List Nat) (e : FifoE) (ws : List (Nat × Nat)) (rest : List FifoE) (s : State), s.fill k ≤ s.thinDown → s.nextServed k = some j →
    (s.chan (16 * k + j)).fifo = e :: rest → (s.cluster k).level = 0 → e.word.getLsbD 24 = false → e.bank = s.b Fld.MASH_STAT_BANK → (s.cluster k).cur.aliased = false →
    e.wins = (tj, tf) :: ws → (s.cluster k).cur.hmode = 0 → b = tj / 128 → errs.getD 0 0 = 0 →
    Answers (.mashDrain k x false errs) s (fun t => t.bin (tunBin k j e.bank b) = (binAdd (s.bin (tunBin k j e.bank b)) 1).1 ∧
      (t.chan (16 * k + j)).cur.updates = (s.chan (16 * k + j)).cur.updates + 1 ∧ (∀ n, n ≠ tunBin k j e.bank b → t.bin n = s.bin n)))

/-- The end of a column (R10, R166, R174). HISTOGRAM_CLOSE of the J that is next passes the closed bank's histogram J of every cluster, and of any other does
nothing; with all sixteen closed the sparge's end leaves the closed bank empty; a histogram that the Lauter has finished is taken from it; a channel without one
has nothing to finish. A delayed swap happens at the sparge's end, and the next column's close begins. -/
def Obligations.ColumnEnd : Prop :=
  (∀ (j : Nat) (errs : List (Nat × Nat × Bool)) (s : State), 16 ≤ j → Answers (.histogramClose j errs) s (fun t => t = s)) ∧
  (∀ (j : Nat) (errs : List (Nat × Nat × Bool)) (s : State), j < 16 → s.mash.sparging = true → j = s.mash.closeJ →
    Answers (.histogramClose j errs) s (fun t => (∀ k, k < 64 → (t.chan (16 * k + j)).old.passed = true) ∧ t.dev = s.dev ∧ t.mem = s.mem)) ∧
  (∀ (x : Nat) (s : State), s.mash.sparging = true → s.mash.swapPend = false → s.scan.closing = none → 16 ≤ s.mash.closeJ →
    Answers (.spargeEnd x) s (fun t => t.mash.sparging = false ∧ t.tun = s.tun.filter (fun p => (p.1 / 32768 % 2 = 1) != !s.b Fld.MASH_STAT_BANK) ∧
      { t with tun := s.tun, mash := s.mash } = s)) ∧
  (∀ (x : Nat) (s : State), (s.mash.sparging = false ∧ s.mash.swapPend = true) ∨ s.mash.closeJ < 16 → Answers (.spargeEnd x) s (fun t => t = s)) ∧
  (∀ (c : Nat) (s : State), s.hists.find? (fun p => p.1 == c) = none → Answers (.lauterExtractDone c) s (fun t => t = s)) ∧
  (∀ (c : Nat) (p : Nat × Hist) (s : State), s.hists.find? (fun p => p.1 == c) = some p →
    Answers (.lauterExtractDone c) s (fun t => t.hists = SMap.erase s.hists c ∧ t.dev = s.dev ∧ t.mem = s.mem)) ∧
  (∀ (j : Nat) (errs : List (Nat × Nat × Bool)) (s : State), j ≠ s.mash.closeJ ∨ s.mash.sparging = false → Answers (.histogramClose j errs) s (fun t => t = s)) ∧
  (∀ (j : Nat) (errs : List (Nat × Nat × Bool)) (s : State), j < 16 → s.mash.sparging = true → j = s.mash.closeJ →
    Answers (.histogramClose j errs) s (fun t => t.mash.closeJ = j + 1 ∧ t.mash.sparging = true)) ∧
  (∀ (x : Nat) (s : State), s.mash.sparging = true → s.mash.swapPend = true → 16 ≤ s.mash.closeJ →
    Answers (.spargeEnd x) s (fun t => t.mash.swapPend = false ∧ t.scan.closing = none ∧ t.b Fld.MASH_STAT_BANK = !s.b Fld.MASH_STAT_BANK ∧ t.mash.closeJ = 0 ∧ t.dev = s.dev))

/-! ## Point streams and the Dolwick link (chapter 10) -/

/-- The streams' records (R202, R204, R207, R213, R214). The next ECHO record of a stream's oldest column is written behind those that wait; without a column there is none.
An open datagram closes 20 µs after its first record and joins those to be sent. A datagram that has waited 100 ms is discarded with every later one of its columns, and a number is used up
for each. A write of WORT_ANCH_SHI
takes the whole anchor at once. -/
def Obligations.StreamRecords : Prop :=
  (∀ (st : Nat) (s : State), 2 ≤ st ∨ (s.stream st).cols = [] → Answers (.echoRecordEmit st) s (fun t => t = s)) ∧
  (∀ (c : ColOut) (r : List ColOut) (e : Echo) (es : List Echo) (s : State), s.wort.dwl.cols = c :: r → c.next < 1024 → c.rows.getLsbD (c.next / 16) = true → c.key = true →
    s.doneOf c.mcol c.next = some (e :: es) →
    Answers (.echoRecordEmit 0) s (fun t => ∃ rest, t.wort.dwl.out = s.wort.dwl.out ++
      { kind := .echo c.next ((e :: es).any (·.aliased)) ((e :: es).any (·.thin)) (e :: es), frame := c.frame,
        words := echoWords c.comp c.rk c.next ((e :: es).any (·.aliased)) ((e :: es).any (·.thin)) [] (e :: es) } :: rest)) ∧
  (∀ s : State, s.wort.dopen = none → s.wort.lopen = none → Answers .datagramCloseTimeout s (fun t => t = s)) ∧
  (∀ (rs : List OutRec) (x : Nat) (s : State), s.wort.dopen = some (rs, x) → x + 20000 ≤ s.now → s.wort.lopen = none →
    Answers .datagramCloseTimeout s (fun t => t.wort.dopen = none ∧ t.wort.dgrams = s.wort.dgrams ++ [{ stream := 0, recs := rs, closed := s.now }] ∧
      { t with wort := s.wort } = s)) ∧
  (∀ (d : Dgram) (s : State), s.wort.dgrams = [d] → d.stream = 0 → s.wort.dopen = none → s.wort.eth.cols = [] → d.closed + 100000000 ≤ s.now → d.seq = none →
    Answers .datagramDiscard s (fun t => t.wort.dgrams = [] ∧ t.wort.dseq0 = (s.wort.dseq0 + 1) % 2 ^ 32 ∧ { t with wort := s.wort, eths := s.eths } = s)) ∧
  (∀ (d : Dgram) (r : List Dgram) (s : State), s.wort.dgrams = d :: r → d.stream = 0 → s.now < d.closed + 100000000 → Answers .datagramDiscard s (fun t => t = s)) ∧
  (∀ (v : Word) (s : State), Answers (.wortAnchShiWrite v) s (fun t => t.anchor.cnt = s.rget Reg.WORT_ANCH_CNT ∧ t.anchor.secLo = s.rget Reg.WORT_ANCH_SLO ∧
      t.anchor.nsec = s.rget Reg.WORT_ANCH_NS ∧ t.anchor.valid = v.msb ∧ t.anchor.secHi = v.extractLsb' 0 16 ∧ State.regsBut [Reg.WORT_ANCH_SHI] s t ∧
      { t with regs := s.regs, anchor := s.anchor } = s)) ∧
  (∀ (rs : List OutRec) (x : Nat) (s : State), s.wort.dopen = some (rs, x) → s.now < x + 20000 → s.wort.lopen = none → Answers .datagramCloseTimeout s (fun t => t = s)) ∧
  (∀ (rs : List OutRec) (x : Nat) (s : State), s.wort.dopen = none → s.wort.lopen = some (rs, x) → x + 20000 ≤ s.now →
    Answers .datagramCloseTimeout s (fun t => t.wort.lopen = none ∧ t.wort.dgrams = s.wort.dgrams ++ [{ stream := 1, recs := rs, closed := s.now }] ∧
      { t with wort := s.wort } = s)) ∧
  (∀ (d : Dgram) (s : State), s.wort.dgrams.find? (fun e => e.stream = 0) = some d → d.seq = none → d.closed + 100000000 ≤ s.now →
    Answers .datagramDiscard s (fun t => (∀ e ∈ t.wort.dgrams, e.stream = 0 → holdsOf d.frames e.recs = false) ∧ t.wort.dseq1 = s.wort.dseq1 ∧ t.dev = s.dev)) ∧
  (∀ (st : Nat) (c : ColOut) (r : List ColOut) (e : Echo) (es : List Echo) (s : State), st < 2 → (s.stream st).cols = c :: r → c.next < 1024 → c.rows.getLsbD (c.next / 16) = true →
    s.doneOf c.mcol c.next = some (e :: es) → Answers (.echoRecordEmit st) s (fun t => t.dev = s.dev ∧ t.anchor = s.anchor ∧ t.now = s.now))

/-- DWL's frames (R13, R209, R212, R215, R216, R218, R261). With DWL up, ACTIVE and its lane free: a POINT frame starts where credit allows, with the next sequence
number, and its records leave the buffer; LRS records that wait start an LRS frame, and go before POINT frames; with DWL down, or in PARK, neither starts. The
same holds with a frame in progress on the other lane. -/
def Obligations.DwlFrames : Prop :=
  (∀ (r : OutRec) (recs : List OutRec) (s : State), s.dwl.prog = [] → s.dwlUp = true → s.b Fld.DWL_STAT_ACTIVE = true → s.creditFor s.dwl.seqPoint = true →
    s.laneFree s.pointLane = true → s.sideFirst s.pointLane = false →
    takeRecs 256 s.wort.dwl.out = r :: recs →
    Answers (.dwlPointFrame none) s (fun t => t.dwl.seqPoint = (s.dwl.seqPoint + 1) % 65536 ∧ t.dwl.restart = false ∧
      t.f Fld.DWL_CREDIT_SENT = (s.dwl.seqPoint + 1) % 65536 ∧ t.wort.dwl.out = s.wort.dwl.out.drop (r :: recs).length ∧ t.dwl.prog.length = 1 ∧
      SMap.get (fun _ => []) t.dwl.last s.pointLane = dwlWords (dwlHeader 0 s.dwl.restart 0 s.dwl.seqPoint) ((r :: recs).flatMap (·.words)) ∧
      State.regsBut [Reg.DWL_CREDIT] s t ∧ { t with regs := s.regs, wort := s.wort, dwl := s.dwl } = s)) ∧
  (∀ (w : List Word) (ws : List (List Word)) (s : State), s.dwl.prog = [] → s.dwlUp = true → s.b Fld.DWL_STAT_ACTIVE = true → s.wort.lrsDwl = w :: ws → w.length ≤ 256 → s.laneFree 0 = true →
    Answers .dwlLrsFrame s (fun t => t.dwl.seqLrs = (s.dwl.seqLrs + 1) % 65536 ∧ t.dwl.prog.length = 1 ∧ t.regs = s.regs ∧ { t with dwl := s.dwl } = s)) ∧
  (∀ (err : Option (Nat × Bool)) (s : State), s.dwl.prog = [] → s.dwlUp = false → Answers (.dwlPointFrame err) s (fun t => t = s) ∧ Answers .dwlLrsFrame s (fun t => t = s)) ∧
  (∀ (err : Option (Nat × Bool)) (s : State), s.dwl.prog = [] → s.dev = .park → Answers (.dwlPointFrame err) s (fun t => t = s) ∧ Answers .dwlLrsFrame s (fun t => t = s)) ∧
  (∀ (err : Option (Nat × Bool)) (s : State), s.dwl.prog = [] → s.sideFirst s.pointLane = true → Answers (.dwlPointFrame err) s (fun t => t = s)) ∧
  (∀ (err : Option (Nat × Bool)) (r : OutRec) (recs : List OutRec) (s : State), s.dwl.prog = [] → s.dwlUp = true → s.b Fld.DWL_STAT_ACTIVE = true → s.creditFor s.dwl.seqPoint = true →
    s.laneFree s.pointLane = true → s.sideFirst s.pointLane = false → s.wort.dwl.out = r :: recs → r.words.length ≤ 256 → (∀ i u, err = some (i, u) → 0 < i) →
    Answers (.dwlPointFrame err) s (fun t => t.dwl.seqPoint = (s.dwl.seqPoint + 1) % 65536 ∧ t.dwl.prog.length = 1 ∧ t.dev = s.dev)) ∧
  (∀ (err : Option (Nat × Bool)) (r : OutRec) (recs : List OutRec) (s : State), (∀ f ∈ s.dwl.prog, s.now < f.endT) → s.dwlUp = true → s.b Fld.DWL_STAT_ACTIVE = true →
    s.creditFor s.dwl.seqPoint = true → s.laneFree s.pointLane = true → s.sideFirst s.pointLane = false → s.wort.dwl.out = r :: recs → r.words.length ≤ 256 →
    (∀ i u, err = some (i, u) → 0 < i) →
    Answers (.dwlPointFrame err) s (fun t => t.dwl.seqPoint = (s.dwl.seqPoint + 1) % 65536 ∧ t.dwl.prog.length = s.dwl.prog.length + 1 ∧ t.dev = s.dev)) ∧
  (∀ (w : List Word) (ws : List (List Word)) (s : State), (∀ f ∈ s.dwl.prog, s.now < f.endT) → s.dwlUp = true → s.b Fld.DWL_STAT_ACTIVE = true → s.wort.lrsDwl = w :: ws →
    w.length ≤ 256 → s.laneFree 0 = true →
    Answers .dwlLrsFrame s (fun t => t.dwl.seqLrs = (s.dwl.seqLrs + 1) % 65536 ∧ t.dwl.prog.length = s.dwl.prog.length + 1 ∧ t.regs = s.regs ∧ { t with dwl := s.dwl } = s))

/-- CREDIT frames (R58, R216, Table 10.13). One with a bad CRC is counted and flagged, once DWL is up; a good one on an aligned lane in use sets CCUM, and brings
DWL up where every lane is aligned, with all sequence numbers at 0. A CREDIT that fails to come, or POINT data waiting for credit, for 1 ms is flagged. With DWL
up, a good CREDIT sets CCUM and keeps it up. -/
def Obligations.DwlCredit : Prop :=
  (∀ (lane : Nat) (ccum : BitVec 16) (s : State), s.dwl.prog = [] → s.dwlLanes.contains lane = true → s.dwlAligned lane = true → s.dwlUp = true →
    Answers (.dwlCreditReceive lane ccum false) s (fun t => t.causeSet Cause.DWL_RX_CRC = true ∧
      t.f Fld.DWL_CNT_RXBAD = min (2 ^ Fld.DWL_CNT_RXBAD.w - 1) (s.f Fld.DWL_CNT_RXBAD + 1) ∧ { t with regs := s.regs } = s)) ∧
  (∀ (lane : Nat) (ccum : BitVec 16) (s : State), s.dwl.prog = [] → s.dwlLanes.contains lane = true → s.dwlAligned lane = true → s.dwlUp = true →
    Answers (.dwlCreditReceive lane ccum true) s (fun t => t.f Fld.DWL_CREDIT_CCUM = ccum.toNat ∧ t.dwl.credit = true ∧ State.regsBut [Reg.DWL_CREDIT] s t ∧
      { t with regs := s.regs, dwl := s.dwl } = s)) ∧
  (∀ (lane : Nat) (ccum : BitVec 16) (s : State), s.dwl.prog = [] → s.dwlLanes.contains lane = true → s.dwlUp = false → s.dwlLanesOk = true → s.rst.l2.contains .dwl = false →
    Answers (.dwlCreditReceive lane ccum true) s (fun t => t.b Fld.DWL_STAT_UP = true ∧ t.causeSet Cause.DWL_RESTART = true ∧ t.dwl.seqPoint = 0 ∧ t.dwl.seqLrs = 0 ∧
      t.dwl.restart = true ∧ t.f Fld.DWL_CREDIT_CCUM = ccum.toNat ∧ t.f Fld.DWL_CREDIT_SENT = 0 ∧ { t with regs := s.regs, dwl := s.dwl } = s)) ∧
  (∀ (lane : Nat) (ccum : BitVec 16) (ok : Bool) (s : State), s.dwl.prog = [] → s.dwlLanes.contains lane = false → Answers (.dwlCreditReceive lane ccum ok) s (fun t => t = s)) ∧
  (∀ (old : Bool) (s : State), s.dwlUp = false → Answers (.dwlCreditTimeout old) s (fun t => t = s)) ∧
  (∀ s : State, s.dwlUp = true → Answers (.dwlCreditTimeout true) s (fun t => t.causeSet Cause.DWL_CREDIT_OLD = true ∧ { t with regs := s.regs } = s)) ∧
  (∀ (r : OutRec) (l : List OutRec) (s : State), s.dwlUp = true → s.wort.dwl.out = r :: l → s.creditFor s.dwl.seqPoint = false →
    Answers (.dwlCreditTimeout false) s (fun t => t.causeSet Cause.DWL_NOCREDIT = true ∧ { t with regs := s.regs } = s)) ∧
  (∀ (lane : Nat) (ccum : BitVec 16) (s : State), s.dwl.prog = [] → s.dwlUp = false → Answers (.dwlCreditReceive lane ccum false) s (fun t => t = s)) ∧
  (∀ (lane : Nat) (ccum : BitVec 16) (s : State), s.dwlLanes.contains lane = true → s.dwlAligned lane = true → s.dwlUp = true →
    Answers (.dwlCreditReceive lane ccum true) s (fun t => t.f Fld.DWL_CREDIT_CCUM = ccum.toNat ∧ t.dwl.credit = true ∧ t.dwlUp = true ∧ t.dev = s.dev))

/-! ## Lanes, time and Ethernet (chapter 13) -/

/-- The lanes (R259, R260, R262, R263). An enabled lane aligns under a locked lane PLL; an invalid code group counts, and on an aligned DWL lane at a score below 4 that is
all; one of wrong running disparity there raises the score alone; adaptation ends with the best CTLE code; the eye monitor shows what it reads, 0 without alignment; the lane PLL's lock shows while a lane is on, and its loss leaves no
lane aligned. -/
def Obligations.Lanes : Prop :=
  (∀ (n : Nat) (s : State), n < 4 → s.laneOn n = true → s.b Fld.CLK_STATUS_LPLL_LOCK = true → s.b (Fld.LANE_STAT_ALIGNED n) = false →
    Answers (.laneAlignAcquired n) s (fun t => t.b (Fld.LANE_STAT_ALIGNED n) = true ∧ t.b (Fld.LANE_STAT_ADAPTED n) = false ∧ (t.lane n).adapting = true ∧ (t.lane n).score = 0 ∧
      (n = 2 → t.b Fld.DWL_STAT_AL0 = true) ∧ (n = 3 → t.b Fld.DWL_STAT_AL1 = true) ∧ State.regsBut [Reg.LANE_STAT n, Reg.DWL_STAT] s t ∧
      { t with regs := s.regs, lanes := s.lanes } = s)) ∧
  (∀ (n good : Nat) (lost : Bool) (s : State), 2 ≤ n → n < 4 → s.laneOn n = true → s.b (Fld.LANE_STAT_ALIGNED n) = true → (s.lane n).score - good / 4 < 3 →
    Answers (.laneCodeError n good 0 lost) s (fun t => (t.lane n).score = (s.lane n).score - good / 4 + 1 ∧
      t.f (Fld.LANE_ERR_CODE n) = min (2 ^ (Fld.LANE_ERR_CODE n).w - 1) (s.f (Fld.LANE_ERR_CODE n) + 1) ∧ State.regsBut [(Fld.LANE_ERR_CODE n).addr] s t ∧
      { t with regs := s.regs, lanes := s.lanes } = s)) ∧
  (∀ (n good kind : Nat) (lost : Bool) (s : State), 2 ≤ n → n < 4 → s.laneOn n = true → s.b (Fld.LANE_STAT_ALIGNED n) = true → 3 ≤ (s.lane n).score - good / 4 →
    Answers (.laneCodeError n good kind lost) s (fun t => t.b (Fld.LANE_STAT_ALIGNED n) = false)) ∧
  (∀ (n : Nat) (eyes : List (Nat × Nat)) (d1 d2 d3 : BitVec 6) (s : State), n < 4 → s.b (Fld.LANE_STAT_ALIGNED n) = true → (s.lane n).adapting = true →
    Answers (.laneAdaptDone n eyes d1 d2 d3) s (fun t => t.b (Fld.LANE_STAT_ADAPTED n) = true ∧ t.f (Fld.LANE_EQ_CTLE n) = bestCtle (eyes.take 16) % 2 ^ (Fld.LANE_EQ_CTLE n).w ∧
      t.f (Fld.LANE_EQ_DFE1 n) = d1.toNat ∧ t.f (Fld.LANE_EQ_DFE2 n) = d2.toNat ∧ t.f (Fld.LANE_EQ_DFE3 n) = d3.toNat ∧ (t.lane n).adapting = false ∧
      { t with regs := s.regs, lanes := s.lanes } = s)) ∧
  (∀ (n h v : Nat) (d1 d2 d3 : BitVec 6) (s : State), n < 4 → s.b (Fld.LANE_STAT_ALIGNED n) = false →
    Answers (.eyeMeasure n h v d1 d2 d3) s (fun t => t.f (Fld.LANE_EYE_H n) = 0 ∧ t.f (Fld.LANE_EYE_V n) = 0 ∧ State.regsBut [(Fld.LANE_EYE_H n).addr] s t ∧
      { t with regs := s.regs } = s)) ∧
  (∀ (n h v : Nat) (d1 d2 d3 : BitVec 6) (s : State), n < 4 → s.b (Fld.LANE_STAT_ALIGNED n) = true → h ≤ 64 → v ≤ 511 →
    Answers (.eyeMeasure n h v d1 d2 d3) s (fun t => t.f (Fld.LANE_EYE_H n) = h ∧ t.f (Fld.LANE_EYE_V n) = v ∧ { t with regs := s.regs } = s)) ∧
  (∀ (n : Nat) (s : State), n < 4 → s.laneOn n = true →
    Answers .lanePllLock s (fun t => t.b Fld.CLK_STATUS_LPLL_LOCK = true ∧ State.regsBut [Reg.CLK_STATUS] s t ∧ { t with regs := s.regs } = s)) ∧
  (∀ s : State, Answers .lanePllLoss s (fun t => t.b Fld.CLK_STATUS_LPLL_LOCK = false ∧ ∀ n, n < 4 → t.b (Fld.LANE_STAT_ALIGNED n) = false)) ∧
  (∀ (n good : Nat) (lost : Bool) (s : State), 2 ≤ n → n < 4 → s.laneOn n = true → s.b (Fld.LANE_STAT_ALIGNED n) = true → (s.lane n).score - good / 4 < 3 →
    Answers (.laneCodeError n good 1 lost) s (fun t => (t.lane n).score = (s.lane n).score - good / 4 + 1 ∧ { t with lanes := s.lanes } = s)) ∧
  (∀ (n good kind : Nat) (s : State), n < 2 → s.laneOn n = true →
    Answers (.laneCodeError n good kind false) s (fun t => t.f (Fld.LANE_ERR_CODE n) = min (2 ^ (Fld.LANE_ERR_CODE n).w - 1) (s.f (Fld.LANE_ERR_CODE n) + 1) ∧
      State.regsBut [(Fld.LANE_ERR_CODE n).addr] s t ∧ { t with regs := s.regs } = s)) ∧
  (∀ (n good kind : Nat) (s : State), n < 2 → s.laneOn n = true → s.b (Fld.LANE_STAT_ALIGNED n) = true →
    Answers (.laneCodeError n good kind true) s (fun t => t.b (Fld.LANE_STAT_ALIGNED n) = false ∧ t.b (Fld.ETH_STAT_LINK n) = false))

/-- The time counter, VALID and PPS_OUT (R272-R276). A pending offset is applied with its edge's increment and STEP is set; the edges up to the counter's wrap
change the wrap count; reading NS latches FRAC; an increment outside ±1,000 ppm sets INC_CLAMP; offsets add up until applied. Only DSP1 (master 2) sets VALID,
with its section loaded (R64); a write of 0 by any master clears it and ends a pulse. TIME_PPS arms the output; the target reached with VALID and PPS_EN gives
the pulse and disarms; without VALID there is none. A PPS target that lies 2^31 ns ahead counts as missed; any pending offset is applied at the edge. -/
def Obligations.TimeAndPps : Prop :=
  (∀ s : State, s.b Fld.TIME_STAT_OFS_PEND = false → Answers .timeOffsetApply s (fun t => t = s)) ∧
  (∀ s : State, s.b Fld.TIME_STAT_OFS_PEND = true → s.tclkRuns = true → s.dev ≠ .boot →
    Answers .timeOffsetApply s (fun t => t.b Fld.TIME_STAT_OFS_PEND = false ∧ t.time.ofs = 0 ∧ t.now = s.now + 4 ∧ t.causeSet Cause.TIME_STEP = true ∧
      t.time.ctr = s.time.ctr + BitVec.ofNat 64 ((clampInc (s.rget Reg.TIME_INC)).toNat * 16) + s.time.ofs)) ∧
  (∀ s : State, s.tclkRuns = true → s.dev ≠ .boot → s.b Fld.TIME_STAT_OFS_PEND = false →
    Answers .timeCounterWrap s (fun t => t.time.wraps = s.time.wraps + 1 ∧ t.causeSet Cause.TIME_WRAP = true)) ∧
  (∀ s : State, Answers .timeNsRead s (fun t => t.f Fld.TIME_FRAC_FRAC = s.time.ctr.toNat % 2 ^ 32 ∧ State.regsBut [Reg.TIME_FRAC] s t ∧ { t with regs := s.regs } = s)) ∧
  (∀ (v : Word) (s : State), 0x3FEF9DB2 ≤ v.toNat → v.toNat ≤ 0x4010624E →
    Answers (.timeIncWrite v) s (fun t => t.rget Reg.TIME_INC = v ∧ State.regsBut [Reg.TIME_INC] s t ∧ { t with regs := s.regs } = s)) ∧
  (∀ (v : Word) (s : State), v.toNat < 0x3FEF9DB2 ∨ 0x4010624E < v.toNat →
    Answers (.timeIncWrite v) s (fun t => t.causeSet Cause.TIME_INC_CLAMP = true ∧ t.rget Reg.TIME_INC = v ∧ { t with regs := s.regs } = s)) ∧
  (∀ (v : Word) (s : State), Answers (.timeOfsWrite v) s (fun t => t.b Fld.TIME_STAT_OFS_PEND = true ∧ t.time.ofs = s.time.ofs + (v ++ s.rget Reg.TIME_OFSF) ∧
      State.regsBut [Reg.TIME_STAT] s t ∧ { t with regs := s.regs, time := s.time } = s)) ∧
  (∀ (v : Word) (s : State), v.getLsbD 0 = true → s.rst.sections.testBit 10 = true → Answers (.timeCtrlWrite 2 v) s (fun t => t.b Fld.TIME_CTRL_VALID = true ∧ State.regsBut [Reg.TIME_CTRL] s t ∧
      { t with regs := s.regs } = s)) ∧
  (∀ (m : Nat) (v : Word) (s : State), m ≠ 2 ∨ s.rst.sections.testBit 10 = false → v.getLsbD 0 = true → Answers (.timeCtrlWrite m v) s (fun t => t.b Fld.TIME_CTRL_VALID = s.b Fld.TIME_CTRL_VALID ∧
      State.regsBut [Reg.TIME_CTRL] s t)) ∧
  (∀ (m : Nat) (v : Word) (s : State), v.getLsbD 0 = false → Answers (.timeCtrlWrite m v) s (fun t => t.b Fld.TIME_CTRL_VALID = false ∧ t.pins.pps = false ∧
      State.regsBut [Reg.TIME_CTRL] s t)) ∧
  (∀ (v : Word) (s : State), (s.ns + 2 ^ 32 - v.toNat) % 2 ^ 32 ≠ 2 ^ 31 → Answers (.timePpsWrite v) s (fun t => t.b Fld.TIME_STAT_PPS_ARMED = true ∧ t.rget Reg.TIME_PPS = v ∧
      State.regsBut [Reg.TIME_PPS, Reg.TIME_STAT] s t ∧ { t with regs := s.regs } = s)) ∧
  (∀ s : State, s.b Fld.TIME_STAT_PPS_ARMED = true → s.b Fld.TIME_CTRL_VALID = true → s.b Fld.TIME_CTRL_PPS_EN = true →
    (s.ns + 2 ^ 32 - s.f Fld.TIME_PPS_TARGET) % 2 ^ 32 < 2 ^ 31 →
    Answers .ppsPulse s (fun t => t.pins.pps = true ∧ t.pins.ppsT = s.now + 1000 * max 1 (s.f Fld.TIME_CTRL_PPSW) ∧
      t.b Fld.TIME_STAT_PPS_ARMED = false ∧ State.regsBut [Reg.TIME_STAT] s t ∧ { t with regs := s.regs, pins := s.pins } = s)) ∧
  (∀ s : State, s.b Fld.TIME_CTRL_VALID = false → Answers .ppsPulse s (fun t => t = s)) ∧
  (∀ s : State, s.pins.ppsT ≤ s.now → Answers .ppsPulseEnd s (fun t => t.pins.pps = false ∧ { t with pins := s.pins } = s)) ∧
  (∀ s : State, s.now < s.pins.ppsT → Answers .ppsPulseEnd s (fun t => t = s)) ∧
  (∀ (v : Word) (s : State), (s.ns + 2 ^ 32 - v.toNat) % 2 ^ 32 = 2 ^ 31 → Answers (.timePpsWrite v) s (fun t => t.causeSet Cause.TIME_PPS_MISS = true ∧
      t.b Fld.TIME_STAT_PPS_ARMED = false ∧ t.rget Reg.TIME_PPS = v ∧ { t with regs := s.regs } = s)) ∧
  (∀ s : State, s.b Fld.TIME_STAT_OFS_PEND = true → s.tclkRuns = true →
    Answers .timeOffsetApply s (fun t => t.b Fld.TIME_STAT_OFS_PEND = false ∧ t.time.ofs = 0 ∧ t.now = s.now + 4 ∧ t.causeSet Cause.TIME_STEP = true ∧ t.dev = s.dev))

/-! ## Time-interval inputs (chapter 7) -/

/-- The inputs TINn (R145-R149). An edge outside the running states is ignored; one within 4 ns of the last accepted edge is dropped and counted; a matching edge in stream
mode enters the queue with its stamp and the next SEQ, or on a full queue is counted as lost; in pair mode it becomes the pending start; a later stop edge completes the
interval. A read of TIN_QHIn removes the entry; a calibration replaces the map, at boot too; a write of TIN_CFGn takes effect on the next TCLK edge, where a change of MODE empties the queue and
drops the start. -/
def Obligations.TimeInputs : Prop :=
  (∀ (m : Nat) (rising : Bool) (tap : Nat) (s : State), s.dev = .boot ∨ s.dev = .park → Answers (.tinEdge m rising tap) s (fun t => t = s)) ∧
  (∀ (m : Nat) (rising : Bool) (tap l : Nat) (s : State), m < 4 → s.tinRuns = true → s.tinMode m ≠ 0 → slopeMatch (s.tinF m (Fld.TIN_CFG_SLOPE m)) rising = true →
    (s.tin m).lastEdge = some l → 256 * s.now + 4 * (s.tinStamp m tap).fine < l + 1024 →
    Answers (.tinEdge m rising tap) s (fun t => t.causeSet (Cause.TIN_DEAD m) = true ∧
      t.f (Fld.TIN_CNT_DEAD m) = min (2 ^ (Fld.TIN_CNT_DEAD m).w - 1) (s.f (Fld.TIN_CNT_DEAD m) + 1) ∧ { t with regs := s.regs } = s)) ∧
  (∀ (m : Nat) (rising : Bool) (tap : Nat) (s : State), m < 4 → s.tinRuns = true → s.tinMode m = 1 → slopeMatch (s.tinF m (Fld.TIN_CFG_SLOPE m)) rising = true →
    (∀ n, n < 4 → s.stops n m rising = false) → (s.tin m).lastEdge = none → (s.tin m).queue.length < 256 →
    Answers (.tinEdge m rising tap) s (fun t => (t.tin m).queue = (s.tin m).queue ++ [(BitVec.ofNat 32 (s.tinStamp m tap).ns,
          BitVec.ofNat 32 ((s.tinStamp m tap).frac * 2 ^ 24 + (s.tinStamp m tap).fine * 2 ^ 16 + rising.toNat * 2 ^ 15 + (s.tinStamp m tap).tv.toNat * 2 ^ 14 + (s.tin m).seqEdge +
            if (s.tin m).lost then 2 ^ 13 else 0))] ∧
      (t.tin m).seqEdge = ((s.tin m).seqEdge + 1) % 4096 ∧ (t.tin m).seqInt = (s.tin m).seqInt ∧ (t.tin m).lost = false ∧ (t.tin m).lastEdge = some (256 * s.now + 4 * (s.tinStamp m tap).fine) ∧
      { t with tins := s.tins } = s)) ∧
  (∀ (m : Nat) (rising : Bool) (tap : Nat) (s : State), m < 4 → s.tinRuns = true → s.tinMode m = 1 → slopeMatch (s.tinF m (Fld.TIN_CFG_SLOPE m)) rising = true →
    (∀ n, n < 4 → s.stops n m rising = false) → (s.tin m).lastEdge = none → 256 ≤ (s.tin m).queue.length →
    Answers (.tinEdge m rising tap) s (fun t => (t.tin m).queue = (s.tin m).queue ∧ (t.tin m).seqEdge = ((s.tin m).seqEdge + 1) % 4096 ∧ (t.tin m).lost = true ∧
      t.causeSet (Cause.TIN_LOST m) = true ∧ { t with regs := s.regs, tins := s.tins } = s)) ∧
  (∀ (m : Nat) (rising : Bool) (tap : Nat) (s : State), m < 4 → s.tinRuns = true → s.tinMode m = 2 → slopeMatch (s.tinF m (Fld.TIN_CFG_SLOPE m)) rising = true →
    (∀ n, n < 4 → s.stops n m rising = false) → (s.tin m).lastEdge = none → (s.tin m).start = none →
    Answers (.tinEdge m rising tap) s (fun t => (t.tin m).start = some (s.tinStamp m tap) ∧ (t.tin m).phstep = false ∧ (t.tin m).queue = (s.tin m).queue ∧
      { t with tins := s.tins } = s)) ∧
  (∀ (n m : Nat) (rising : Bool) (tap : Nat) (a : TinStamp) (s : State), n < 4 → m < 4 → n ≠ m → s.tinRuns = true → s.tinMode m = 0 →
    (∀ k, k < 4 → s.stops k m rising = decide (k = n)) → (s.tin m).lastEdge = none → (s.tin n).start = some a → 0 < interval a (s.tinStamp m tap) →
    interval a (s.tinStamp m tap) < 2 ^ 40 → (s.tin n).phstep = false → (s.tin n).lost = false → (s.tin n).queue.length < 256 →
    Answers (.tinEdge m rising tap) s (fun t => (t.tin n).queue = (s.tin n).queue ++ [(BitVec.ofNat 32 ((interval a (s.tinStamp m tap)).toNat / 256),
          BitVec.ofNat 32 ((interval a (s.tinStamp m tap)).toNat % 256 * 2 ^ 24 + (a.tv && (s.tinStamp m tap).tv).toNat * 2 ^ 14 + (s.tin n).seqInt))] ∧
      (t.tin n).start = none ∧ (t.tin n).seqInt = ((s.tin n).seqInt + 1) % 4096 ∧ (t.tin n).seqEdge = (s.tin n).seqEdge ∧ { t with tins := s.tins } = s)) ∧
  (∀ (n : Nat) (h : List Nat) (s : State), n < 4 → s.dev ≠ .park → s.b Fld.CLK_STATUS_PLLB_LOCK = true →
    Answers (.tinInterpCal n h) s (fun t => (t.tin n).map = codeMap 256 (h.foldl (· + ·) 0) 0 h ∧ (t.tin n).queue = (s.tin n).queue ∧ State.regsBut [Reg.TIN_DNL] s t ∧
      { t with regs := s.regs, tins := s.tins } = s)) ∧
  (∀ (n : Nat) (s : State), n < 4 → Answers (.tinQhiRead n) s (fun t => (t.tin n).queue = (s.tin n).queue.drop 1 ∧ t.regs = s.regs ∧ { t with tins := s.tins } = s)) ∧
  (∀ (n : Nat) (v : Word) (s : State), n < 4 →
    Answers (.tinCfgWrite n v) s (fun t => t.rget (Reg.TIN_CFG n) = v &&& 0x3FCFF ∧ State.regsBut [Reg.TIN_CFG n] s t ∧ { t with regs := s.regs } = s)) ∧
  (∀ (n : Nat) (s : State), n < 4 → s.b Fld.TIME_STAT_OFS_PEND = true → s.tclkRuns = true → s.f (Fld.TIN_CFG_MODE n) ≠ s.tinF n (Fld.TIN_CFG_MODE n) →
    Answers .timeOffsetApply s (fun t => (t.tin n).cfg = s.rget (Reg.TIN_CFG n) ∧ (t.tin n).queue = [] ∧ (t.tin n).start = none))

/-! ## Ethernet (chapter 13) -/

/-- Receiving on a port ETHp (R264-R266, R270, R277, R279). The link comes up where the lane is aligned and goes down otherwise; every frame within the lengths
counts; a frame with a wrong FCS is counted and flagged, one outside the lengths is counted as filtered, a PAUSE frame too; a frame in no class is counted as
filtered; POP takes the head of a queue, the read of TXTS2 a stamp; a write of ETHp_CFG acts until commit; ARP and PRP entries go at their time. POP takes the
head of whichever queue is selected. -/
def Obligations.EthReceive : Prop :=
  (∀ (p : Nat) (s : State), p < 2 → s.noImage = false → s.b (Fld.ETH_CFG_AN p) = false → s.ethMode p ≠ 3 → s.laneOn p = true → s.b Fld.CLK_STATUS_LPLL_LOCK = true → s.b (Fld.LANE_STAT_ALIGNED p) = true →
    s.ethHeld p = false → s.rst.l2.contains (.eth p) = false → bestTx (s.eth p).wait = none →
    Answers (.ethLinkChange p true false) s (fun t => t.b (Fld.ETH_STAT_LINK p) = true ∧ t.b (Fld.ETH_STAT_AN_DONE p) = false ∧ State.regsBut [Reg.ETH_STAT p] s t ∧
      { t with regs := s.regs } = s)) ∧
  (∀ (p : Nat) (s : State), p < 2 → s.b (Fld.ETH_STAT_LINK p) = true → (s.eth p).cur = none → (∀ f ∈ (s.eth p).wait, f.dg = none) →
    Answers (.ethLinkChange p false false) s (fun t => t.b (Fld.ETH_STAT_LINK p) = false ∧ t.causeSet (Cause.ETH_LINKLOST p) = true ∧ (t.eth p).cur = none ∧
      { t with regs := s.regs, eths := s.eths } = s)) ∧
  (∀ (p : Nat) (fr : List Byte) (fcs : Bool) (d : Nat) (s : State), p < 2 → s.b (Fld.ETH_STAT_LINK p) = false → Answers (.ethFrameReceive p fr fcs d) s (fun t => t = s)) ∧
  (∀ (p : Nat) (fr : List Byte) (d : Nat) (s : State), p < 2 → s.b (Fld.ETH_STAT_LINK p) = true → s.ethMode p ≠ 3 →
    Answers (.ethFrameReceive p fr false d) s (fun t => t.causeSet (Cause.ETH_FCS p) = true ∧
      t.f (Fld.ETH_CNT_RXBAD_FCS p) = min (2 ^ (Fld.ETH_CNT_RXBAD_FCS p).w - 1) (s.f (Fld.ETH_CNT_RXBAD_FCS p) + 1) ∧ { t with regs := s.regs } = s)) ∧
  (∀ (p : Nat) (fr : List Byte) (d : Nat) (s : State), p < 2 → s.b (Fld.ETH_STAT_LINK p) = true → s.ethMode p ≠ 3 → fr.length < 60 ∨ 1524 < fr.length →
    Answers (.ethFrameReceive p fr true d) s (fun t => t.f (Fld.ETH_CNT_RXBAD_FILT p) = min (2 ^ (Fld.ETH_CNT_RXBAD_FILT p).w - 1) (s.f (Fld.ETH_CNT_RXBAD_FILT p) + 1) ∧
      State.regsBut [(Fld.ETH_CNT_RXBAD_FILT p).addr] s t ∧ { t with regs := s.regs } = s)) ∧
  (∀ (p : Nat) (fr : List Byte) (d : Nat) (s : State), p < 2 → s.b (Fld.ETH_STAT_LINK p) = true → s.ethMode p ≠ 3 → 60 ≤ fr.length → fr.length ≤ 1524 → at16 fr 12 = 0x8808 →
    Answers (.ethFrameReceive p fr true d) s (fun t => t.f (Fld.ETH_CNT_RXBAD_FILT p) = min (2 ^ (Fld.ETH_CNT_RXBAD_FILT p).w - 1) (s.f (Fld.ETH_CNT_RXBAD_FILT p) + 1) ∧
      { t with regs := s.regs } = s)) ∧
  (∀ (p : Nat) (fr : List Byte) (d : Nat) (s : State), p < 2 → s.b (Fld.ETH_STAT_LINK p) = true → s.ethMode p ≠ 3 → s.prpActive = false → s.dev ≠ .park →
    60 ≤ fr.length → fr.length ≤ 1524 → at16 fr 12 = 0x88F7 → at48 fr 0 = 0x011B19000000 → s.vlanBad p fr = false → (s.eth p).q0.length < 32 →
    Answers (.ethFrameReceive p fr true d) s (fun t => (∃ h, (t.eth p).q0 = (s.eth p).q0 ++ [h ++ fr] ∧ h.length = 12) ∧ (t.eth p).q1 = (s.eth p).q1 ∧ (t.eth p).q2 = (s.eth p).q2 ∧
      { t with regs := s.regs, eths := s.eths } = s)) ∧
  (∀ (p : Nat) (s : State), p < 2 → s.f (Fld.ETH_QSEL_Q p) = 0 →
    Answers (.ethQpop p) s (fun t => (t.eth p).q0 = (s.eth p).q0.drop 1 ∧ (t.eth p).q1 = (s.eth p).q1 ∧ (t.eth p).q2 = (s.eth p).q2 ∧
      t.f (Fld.ETH_QSTAT_Q0 p) = ((s.eth p).q0.drop 1).length % 2 ^ (Fld.ETH_QSTAT_Q0 p).w ∧ State.regsBut [(Fld.ETH_QSTAT_Q0 p).addr] s t ∧
      { t with regs := s.regs, eths := s.eths } = s)) ∧
  (∀ (p : Nat) (s : State), p < 2 → Answers (.ethTxts2Read p) s (fun t => (t.eth p).txts = (s.eth p).txts.drop 1 ∧ { t with eths := s.eths } = s)) ∧
  (∀ (p : Nat) (v : Word) (s : State), p < 2 → s.dev = .boot → Answers (.ethModeWrite p v) s (fun t => t.rget (Reg.ETH_CFG p) = v &&& 0x80000013 ∧ t.dev = .boot)) ∧
  (∀ (p : Nat) (v : Word) (s : State), s.dev ≠ .boot → Answers (.ethModeWrite p v) s (fun t => t = s)) ∧
  (∀ (p : Nat) (ip : Word) (e : ArpEnt) (s : State), p < 2 → (s.eth (s.ethOf p)).arp.find? (fun e => e.ip = ip) = some e → 3 ≤ e.tries →
    Answers (.arpRefresh p ip) s (fun t => (∀ x ∈ (t.eth (s.ethOf p)).arp, x.ip ≠ ip) ∧ { t with eths := s.eths, wort := s.wort } = s)) ∧
  (∀ (p : Nat) (ip : Word) (s : State), p < 2 → (s.eth (s.ethOf p)).arp.find? (fun e => e.ip = ip) = none → Answers (.arpRefresh p ip) s (fun t => t = s)) ∧
  (∀ (mac : BitVec 48) (s : State), Answers (.prpEntryForget mac) s (fun t =>
      (∀ e ∈ t.prp, e.mac = mac → s.ms < e.lastMs + max 1 (s.f Fld.PRP_SUP_FORGET)) ∧ (∀ e ∈ s.prp, e.mac ≠ mac → e ∈ t.prp) ∧ { t with prp := s.prp } = s)) ∧
  (∀ (p : Nat) (refused : Bool) (s : State), p < 2 → s.noImage = false → refused = false ∨ s.b (Fld.ETH_CFG_AN p) = false → s.ethMode p ≠ 3 → s.laneOn p = true →
    s.b Fld.CLK_STATUS_LPLL_LOCK = true → s.b (Fld.LANE_STAT_ALIGNED p) = true → s.ethHeld p = false → L2Target.eth p ∉ s.rst.l2 →
    Answers (.ethLinkChange p true refused) s (fun t => t.b (Fld.ETH_STAT_LINK p) = true ∧ t.b (Fld.ETH_STAT_AN_DONE p) = (s.b (Fld.ETH_CFG_AN p) && s.ethMode p != 2) ∧ t.dev = s.dev)) ∧
  (∀ (p : Nat) (s : State), p < 2 → s.b (Fld.ETH_STAT_LINK p) = true →
    Answers (.ethLinkChange p false false) s (fun t => t.b (Fld.ETH_STAT_LINK p) = false ∧ t.causeSet (Cause.ETH_LINKLOST p) = true ∧ (t.eth p).cur = none ∧ t.dev = s.dev)) ∧
  (∀ (p : Nat) (fr : List Byte) (d : Nat) (s : State), p < 2 → s.b (Fld.ETH_STAT_LINK p) = true → s.ethMode p ≠ 3 → 60 ≤ fr.length → fr.length ≤ 1524 →
    Answers (.ethFrameReceive p fr true d) s (fun t => t.f (Fld.ETH_CNT_RX_FRAMES p) = (s.f (Fld.ETH_CNT_RX_FRAMES p) + 1) % 2 ^ (Fld.ETH_CNT_RX_FRAMES p).w ∧ t.dev = s.dev)) ∧
  (∀ (p : Nat) (ip : Word) (e : ArpEnt) (s : State), p < 2 → (s.eth (s.ethOf p)).arp.find? (fun e => e.ip = ip) = some e → e.tries < 3 →
    Answers (.arpRefresh p ip) s (fun t => (∃ x ∈ (t.eth (s.ethOf p)).arp, x.ip = ip ∧ x.mac = e.mac ∧ x.tries = e.tries + 1) ∧ t.dev = s.dev)) ∧
  (∀ (p : Nat) (s : State), p < 2 → Answers (.ethQpop p) s (fun t =>
      (t.eth p).q0 = (if s.f (Fld.ETH_QSEL_Q p) = 0 then (s.eth p).q0.drop 1 else (s.eth p).q0) ∧
      (t.eth p).q1 = (if s.f (Fld.ETH_QSEL_Q p) = 1 then (s.eth p).q1.drop 1 else (s.eth p).q1) ∧
      (t.eth p).q2 = (if s.f (Fld.ETH_QSEL_Q p) = 2 then (s.eth p).q2.drop 1 else (s.eth p).q2) ∧
      State.regsBut [(Fld.ETH_QSTAT_Q0 p).addr] s t ∧ { t with regs := s.regs, eths := s.eths } = s))

/-- Sending (R213, R214, R265, R267, R269, R271, R279, R361). GO takes TXBUF and is ignored while it is in use; without GO a write only stores; a transmitted frame
counts and frees its buffer, and one whose parity is wrong is discarded; a supervision frame, due INTV ms after the last, takes a sequence number of the PRP
counter, also with both ports down, and none goes out without PRP; a closed point datagram goes out with the next sequence number of its stream, once a port is
up and the destination resolved, and is kept until it is sent in full. A datagram of either stream leaves its place at the front, with the next sequence number
of its stream where it has none; GO takes TXBUF on any port that is up, and the end of its frame frees it. -/
def Obligations.EthSend : Prop :=
  (∀ (p : Nat) (v : Word) (s : State), p < 2 → v.msb = false →
    Answers (.ethTxcmdGo p v) s (fun t => t.rget (Reg.ETH_TXCMD p) = v &&& 0x400007FF ∧ State.regsBut [Reg.ETH_TXCMD p] s t ∧ { t with regs := s.regs } = s)) ∧
  (∀ (p : Nat) (v : Word) (s : State), p < 2 → s.b (Fld.ETH_TXSTAT_BUSY p) = true →
    Answers (.ethTxcmdGo p v) s (fun t => t.b (Fld.ETH_TXSTAT_BUSY p) = true ∧ t.rget (Reg.ETH_TXCMD p) = v &&& 0x400007FF ∧ { t with regs := s.regs } = s)) ∧
  (∀ (p : Nat) (v : Word) (s : State), p < 2 → v.msb = true → s.b (Fld.ETH_TXSTAT_BUSY p) = false → s.prpActive = false → s.b (Fld.ETH_STAT_LINK p) = false →
    (v.extractLsb' 0 11).toNat ≤ 1514 →
    Answers (.ethTxcmdGo p v) s (fun t => t.b (Fld.ETH_TXSTAT_BUSY p) = true ∧
      (∃ f : TxFr, (t.eth p).wait = (s.eth p).wait ++ [f] ∧ f.txbuf = true ∧ f.ts = v.getLsbD 30 ∧ f.body = .raw (s.txbuf p (v.extractLsb' 0 11).toNat)) ∧
      State.regsBut [Reg.ETH_TXCMD p, (Fld.ETH_TXSTAT_BUSY p).addr] s t ∧ { t with regs := s.regs, eths := s.eths } = s)) ∧
  (∀ (p d : Nat) (par : Bool) (s : State), p < 2 → (s.eth p).cur = none → Answers (.ethFrameTransmitDone p d par) s (fun t => t = s)) ∧
  (∀ (p d : Nat) (f : TxFr) (s : State), p < 2 → (s.eth p).cur = some f → f.ts = false → f.txbuf = true → f.dg = none → bestTx (s.eth p).wait = none →
    Answers (.ethFrameTransmitDone p d false) s (fun t => t.b (Fld.ETH_TXSTAT_BUSY p) = false ∧ (t.eth p).cur = none ∧ (t.eth p).wait = (s.eth p).wait ∧
      t.f (Fld.ETH_CNT_TX_FRAMES p) = (s.f (Fld.ETH_CNT_TX_FRAMES p) + 1) % 2 ^ (Fld.ETH_CNT_TX_FRAMES p).w ∧
      State.regsBut [(Fld.ETH_CNT_TX_FRAMES p).addr, (Fld.ETH_TXSTAT_BUSY p).addr] s t ∧ { t with regs := s.regs, eths := s.eths } = s)) ∧
  (∀ s : State, s.prpActive = false → Answers .prpSupervisionSend s (fun t => t = s)) ∧
  (∀ s : State, s.supDue = true → s.b (Fld.ETH_STAT_LINK 0) = false → s.b (Fld.ETH_STAT_LINK 1) = false →
    Answers .prpSupervisionSend s (fun t => t.f Fld.PRP_SEQ_SEQ = (s.f Fld.PRP_SEQ_SEQ + 1) % 65536 ∧ (t.eth 0).supMs = some s.ms ∧ State.regsBut [Reg.PRP_SEQ] s t ∧
      { t with regs := s.regs, eths := s.eths } = s)) ∧
  (∀ (stream : Nat) (err : Option (Nat × Bool)) (s : State), s.prpActive = false → s.b (Fld.ETH_STAT_LINK (s.ef Fld.WORT_ETH_PORT)) = false → Answers (.datagramSend stream err) s (fun t => t = s)) ∧
  (∀ (d : Dgram) (p : Nat) (s : State), s.prpActive = false → s.ef Fld.WORT_ETH_PORT = p → s.b (Fld.ETH_STAT_LINK p) = true → s.noImage = false → s.dev ≠ .park →
    s.wort.dgrams = [d] → d.stream = 0 → d.seq = none → d.handed = false → s.resolved p (s.f (Fld.ETH_PDST_ADDR p)) = true → bestTx (s.eth p).wait = none → (s.eth p).cur = none →
    Answers (.datagramSend 0 none) s (fun t => t.wort.dgrams = [{ d with seq := some s.wort.dseq0, handed := true }] ∧ t.wort.dseq0 = (s.wort.dseq0 + 1) % 2 ^ 32 ∧
      (∃ f : TxFr, ((t.eth p).cur = some f ∨ f ∈ (t.eth p).wait) ∧
        f.body = .udp (BitVec.ofNat 32 (s.f (Fld.ETH_PDST_ADDR p))) (s.f (Fld.ETH_SPORT_SPORT p)) (s.f (Fld.ETH_PORTS_PPORT p)) (s.f (Fld.ETH_DSCP_PTS p))
          (dgramBytes 0 (s.f Fld.TOP_STRAP_HID) s.wort.dseq0 (d.recs.flatMap (·.words)))) ∧
      t.regs = s.regs ∧ { t with wort := s.wort, eths := s.eths, freeCtr := s.freeCtr } = s)) ∧
  (∀ (p : Nat) (v : Word) (s : State), p < 2 → v.msb = true → s.b (Fld.ETH_TXSTAT_BUSY p) = false → s.prpActive = false → (v.extractLsb' 0 11).toNat ≤ 1514 →
    Answers (.ethTxcmdGo p v) s (fun t => t.b (Fld.ETH_TXSTAT_BUSY p) = true ∧
      (∃ f : TxFr, ((t.eth p).cur = some f ∨ f ∈ (t.eth p).wait) ∧ f.txbuf = true ∧ f.body = .raw (s.txbuf p (v.extractLsb' 0 11).toNat)) ∧ t.dev = s.dev)) ∧
  (∀ (p d : Nat) (f : TxFr) (s : State), p < 2 → (s.eth p).cur = some f →
    Answers (.ethFrameTransmitDone p d false) s (fun t => t.f (Fld.ETH_CNT_TX_FRAMES p) = (s.f (Fld.ETH_CNT_TX_FRAMES p) + 1) % 2 ^ (Fld.ETH_CNT_TX_FRAMES p).w ∧ t.dev = s.dev)) ∧
  (∀ (p d : Nat) (f : TxFr) (s : State), p < 2 → (s.eth p).cur = some f →
    Answers (.ethFrameTransmitDone p d true) s (fun t => t.f (Fld.ETH_CNT_RXBAD_FILT p) = min (2 ^ (Fld.ETH_CNT_RXBAD_FILT p).w - 1) (s.f (Fld.ETH_CNT_RXBAD_FILT p) + 1) ∧
      t.f (Fld.ETH_CNT_TX_FRAMES p) = s.f (Fld.ETH_CNT_TX_FRAMES p) ∧ (t.eth p).txts = (s.eth p).txts)) ∧
  (∀ s : State, s.supDue = false → Answers .prpSupervisionSend s (fun t => t = s)) ∧
  (∀ s : State, s.supDue = true → Answers .prpSupervisionSend s (fun t => t.f Fld.PRP_SEQ_SEQ = (s.f Fld.PRP_SEQ_SEQ + 1) % 65536 ∧ (t.eth 0).supMs = some s.ms ∧
      (t.eth 0).supSeq = ((s.eth 0).supSeq + 1) % 65536 ∧ State.regsBut [Reg.PRP_SEQ] s t ∧ { t with regs := s.regs, eths := s.eths } = s)) ∧
  (∀ (stream p : Nat) (d : Dgram) (s : State), s.prpActive = false → s.ef Fld.WORT_ETH_PORT = p → s.b (Fld.ETH_STAT_LINK p) = true → s.noImage = false → s.dev ≠ .park → stream < 2 →
    s.dgNext stream = some d → s.resolved p (if stream = 0 then s.f (Fld.ETH_PDST_ADDR p) else s.f (Fld.ETH_LDST_ADDR p)) = true →
    Answers (.datagramSend stream none) s (fun t => s.dgNext stream ≠ t.dgNext stream ∧
      t.wort.dseq0 = (if stream = 0 ∧ d.seq = none then (s.wort.dseq0 + 1) % 2 ^ 32 else s.wort.dseq0) ∧
      t.wort.dseq1 = (if stream = 1 ∧ d.seq = none then (s.wort.dseq1 + 1) % 2 ^ 32 else s.wort.dseq1) ∧ t.dev = s.dev)) ∧
  (∀ (stream p : Nat) (err : Option (Nat × Bool)) (d : Dgram) (s : State), s.prpActive = false → s.ef Fld.WORT_ETH_PORT = p → s.b (Fld.ETH_STAT_LINK p) = true → s.noImage = false →
    s.dev ≠ .park → stream < 2 → s.dgNext stream = some d → s.resolved p (if stream = 0 then s.f (Fld.ETH_PDST_ADDR p) else s.f (Fld.ETH_LDST_ADDR p)) = false →
    Answers (.datagramSend stream err) s (fun t => t.wort = s.wort ∧
      (∃ e ∈ (t.eth p).arp, e.ip.toNat = s.nextHop p (if stream = 0 then s.f (Fld.ETH_PDST_ADDR p) else s.f (Fld.ETH_LDST_ADDR p))))) ∧
  (∀ (stream p : Nat) (d : Dgram) (s : State), p = (if s.prpActive then 0 else s.ef Fld.WORT_ETH_PORT) → s.b (Fld.ETH_STAT_LINK p) = true → s.noImage = false → s.dev ≠ .park →
    stream < 2 → s.dgNext stream = some d → s.resolved p (if stream = 0 then s.f (Fld.ETH_PDST_ADDR (s.ethOf p)) else s.f (Fld.ETH_LDST_ADDR (s.ethOf p))) = true →
    Answers (.datagramSend stream none) s (fun t => t.dgNext stream ≠ some d ∧
      t.wort.dseq0 = (if stream = 0 ∧ d.seq = none then (s.wort.dseq0 + 1) % 2 ^ 32 else s.wort.dseq0) ∧
      t.wort.dseq1 = (if stream = 1 ∧ d.seq = none then (s.wort.dseq1 + 1) % 2 ^ 32 else s.wort.dseq1) ∧ t.dev = s.dev)) ∧
  (∀ (p : Nat) (v : Word) (s : State), p < 2 → v.msb = true → s.b (Fld.ETH_TXSTAT_BUSY p) = false → s.b (Fld.ETH_STAT_LINK p) = true → (v.extractLsb' 0 11).toNat ≤ 1506 →
    Answers (.ethTxcmdGo p v) s (fun t => t.b (Fld.ETH_TXSTAT_BUSY p) = true ∧
      (∃ f : TxFr, ((t.eth p).cur = some f ∨ f ∈ (t.eth p).wait) ∧ f.txbuf = true ∧ f.body = .raw (s.txbuf p (v.extractLsb' 0 11).toNat)) ∧ t.dev = s.dev)) ∧
  (∀ (p d : Nat) (par : Bool) (f : TxFr) (s : State), p < 2 → (s.eth p).cur = some f → f.txbuf = true →
    Answers (.ethFrameTransmitDone p d par) s (fun t => t.b (Fld.ETH_TXSTAT_BUSY p) = false ∧ t.dev = s.dev))

/-! ## Converters, sensor front end and thermal management (chapter 12) -/

/-- ADC0 (R233-R239). REFRDY is set when the reference has settled in time, and REF_FAIL when it has not within 1 ms; GO gives a SOFT trigger; a trigger whose burst can begin within 1 µs
enters the slot schedule, and another one is missed; a finished burst shows its length; the background result, the decimation and the FIR output's INV follow their rules; COMMIT gives the
staged filter to the next output; the read of ADC0_EVHI removes an event. -/
def Obligations.Adc0 : Prop :=
  (∀ s : State, s.adc.refFail = false → Answers .adc0RefReady s (fun t => t.b Fld.ADC0_STAT_REFRDY = true ∧ State.regsBut [Reg.ADC0_STAT] s t ∧ { t with regs := s.regs } = s)) ∧
  (∀ s : State, s.b Fld.ADC0_STAT_REFRDY = false →
    Answers .adc0RefFail s (fun t => t.causeSet Cause.ADC0_REF_FAIL = true ∧ t.b Fld.ADC0_STAT_REFRDY = false ∧ t.adc.refFail = true ∧
      { t with regs := s.regs, adc := s.adc } = s)) ∧
  (∀ s : State, s.b Fld.ADC0_STAT_REFRDY = true → Answers .adc0RefFail s (fun t => t = s)) ∧
  (∀ (n : Nat) (s : State), n < 4 → s.b (Fld.ADC0_REQ_EN n) = true → s.f (Fld.ADC0_REQ_TRIG n) = 0 →
    Answers (.adc0ReqGo n) s (fun t => (n, s.now) ∈ t.adc.due ∧ t.adc.jobs = s.adc.jobs ∧ { t with adc := s.adc } = s)) ∧
  (∀ (n : Nat) (s : State), s.b (Fld.ADC0_REQ_EN n) = false → Answers (.adc0ReqGo n) s (fun t => t = s)) ∧
  (∀ (n x k : Nat) (s : State), n < 4 → s.reqTriggers n x = true → s.adcFirst (s.reqJob n x) = some k → 4 * k ≤ x + 1000 →
    Answers (.adc0ReqTrigger n x) s (fun t => t.rget (Reg.ADC0_REQS n) = 0x40000000 ∧ t.adc.jobs = s.adcRecent ++ [s.reqJob n x] ∧
      State.regsBut (Reg.ADC0_REQS n :: (List.range 4).map (fun i => (Fld.ADC0_REQTS_NS i).addr)) s t ∧ { t with regs := s.regs, adc := s.adc } = s)) ∧
  (∀ (n x k : Nat) (s : State), n < 4 → s.reqTriggers n x = true → s.adcFirst (s.reqJob n x) = some k → x + 1000 < 4 * k →
    Answers (.adc0ReqTrigger n x) s (fun t => t.causeSet (Cause.ADC0_REQ_MISS n) = true ∧ t.rget (Reg.ADC0_REQS n) = s.rget (Reg.ADC0_REQS n) ∧ t.adc.jobs = s.adc.jobs)) ∧
  (∀ (n i : Nat) (convs : List Conv) (s : State), n < 4 → s.adcLive (2 + n) = some i → (adcSlots s.adc.jobs i).length ≤ convs.length →
    Answers (.adc0BurstDone n convs) s (fun t =>
      t.rget (Reg.ADC0_REQS n) = BitVec.ofNat 32 (2 ^ 31 + ((s.adcDone i).adcLive (2 + n)).isSome.toNat * 2 ^ 30 + (adcSlots s.adc.jobs i).length) ∧
      t.adc.jobs = (s.adcDone i).adc.jobs)) ∧
  (∀ s : State, Answers .adc0FirCommit s (fun t => t.adc.pend = some s.firStaged ∧ t.adc.fir = s.adc.fir ∧
      (s.firStaged.n ≠ (s.adc.pend.getD s.adc.fir).n → t.adc.refill = 11 + (s.f Fld.ADC0_FIR_NTAP + 1)) ∧ { t with adc := s.adc } = s)) ∧
  (∀ (x : Nat) (convs : List Conv) (s : State), s.b Fld.ADC0_BG_EN = false → Answers (.firOutput x convs) s (fun t => t = s)) ∧
  (∀ (x : Nat) (c : Conv) (s : State), s.b Fld.ADC0_BG_EN = true → s.b Fld.ADC0_FIR_EN = false → s.adcUsed (x / 4) = false → s.adc.chInv = 0 →
    Answers (.firOutput x [c]) s (fun t => t.f Fld.ADC0_BGRES_RES = (s.resultWord (s.f Fld.ADC0_BG_CH) x c false).toNat ∧
      t.adc.last = s.resultWord (s.f Fld.ADC0_BG_CH) x c false ∧ t.adc.queue = s.adc.queue ∧ State.regsBut [Reg.ADC0_BGRES] s t)) ∧
  (∀ (x : Nat) (c : Conv) (s : State), s.b Fld.ADC0_BG_EN = true → s.b Fld.ADC0_FIR_EN = true → s.adc.dec = 0 → 1 < s.adc.refill →
    Answers (.firOutput x [c]) s (fun t => t.b Fld.ADC0_FIRY_INV = true ∧ t.adc.cmp = s.adc.cmp ∧ t.adc.queue = s.adc.queue ∧ State.regsBut [Reg.ADC0_FIRY, Reg.ADC0_BGRES] s t)) ∧
  (∀ s : State, Answers .adc0EvhiRead s (fun t => t.adc.queue = s.adc.queue.drop 1 ∧ t.adc.seq = s.adc.seq ∧ { t with adc := s.adc } = s)) ∧
  (∀ s : State, s.adc.refFail = true → Answers .adc0RefReady s (fun t => t = s)) ∧
  (∀ (n x : Nat) (s : State), s.reqTriggers n x = false → Answers (.adc0ReqTrigger n x) s (fun t => t = s)) ∧
  (∀ (n : Nat) (convs : List Conv) (s : State), s.adcLive (2 + n) = none → Answers (.adc0BurstDone n convs) s (fun t => t = s)) ∧
  (∀ (x : Nat) (c : Conv) (s : State), s.b Fld.ADC0_BG_EN = true → s.b Fld.ADC0_FIR_EN = true → s.adc.dec ≠ 0 →
    Answers (.firOutput x [c]) s (fun t => t.adc.dec = s.adc.dec - 1 ∧ t.rget Reg.ADC0_FIRY = s.rget Reg.ADC0_FIRY ∧ t.adc.queue = s.adc.queue)) ∧
  (∀ (x : Nat) (c : Conv) (s : State), s.b Fld.ADC0_BG_EN = true → s.adcUsed (x / 4) = true →
    Answers (.firOutput x [c]) s (fun t => t.f Fld.ADC0_BGRES_RES % 4096 = s.adc.last.toNat % 4096 ∧ t.adc.last.getLsbD 13 = true))

/-- The sensor front end and the thermal scan (R240, R242-R244, R248, R253). A definition whose turn or time it is not changes nothing; one in conflict has an invalid result and the
flag; a broken wire keeps the value and sets BROKEN; a raw result (curve 0) is the code, valid; a scan puts the readings in THERM_Ti.RAW; the die's hard trip stops charging and
raises reset source 6, until it clears. -/
def Obligations.SensorsAndTrips : Prop :=
  (∀ (m : Nat) (x : AfeRaw) (s : State), s.afeTurn m = false ∨ x.dur ≠ s.afeTime m → Answers (.afeConversionDone m x) s (fun t => t = s)) ∧
  (∀ (m : Nat) (x : AfeRaw) (s : State), s.afeTurn m = true → x.dur = s.afeTime m → s.afeConflict m = true →
    Answers (.afeConversionDone m x) s (fun t => t.b (Fld.AFE_RES_VALID m) = false ∧ t.causeSet Cause.AFE_CONFLICT = true ∧
      { t with regs := s.regs, afePos := s.afePos, therm := s.therm, emit := s.emit } = s)) ∧
  (∀ (m : Nat) (x : AfeRaw) (s : State), s.afeTurn m = true → x.dur = s.afeTime m → s.afeConflict m = false → x.comp = true ∨ x.open_ = true →
    Answers (.afeConversionDone m x) s (fun t => t.b (Fld.AFE_RES_BROKEN m) = true ∧ t.causeSet Cause.AFE_BROKEN = true ∧
      t.f (Fld.AFE_RES_VALUE m) = s.f (Fld.AFE_RES_VALUE m))) ∧
  (∀ (m : Nat) (x : AfeRaw) (s : State), s.afeTurn m = true → x.dur = s.afeTime m → s.afeConflict m = false → x.comp = false → x.open_ = false → s.f (Fld.AFE_DEFA_CURVE m) = 0 →
    Answers (.afeConversionDone m x) s (fun t => t.fs (Fld.AFE_RES_VALUE m) = (Config.adc1Code (s.afeVolt m x * 2 ^ s.f (Fld.AFE_DEFA_GAIN m))).toInt ∧
      t.afePos = m + 1 ∧ t.b (Fld.AFE_RES_VALID m) = true ∧ t.b (Fld.AFE_RES_BROKEN m) = false)) ∧
  (∀ (readings : List (BitVec 16)) (s : State), Answers (.thermScan readings) s (fun t => ∀ i, i < 68 → t.f (Fld.THERM_T_RAW i) = (readings.getD i 0).toNat)) ∧
  (∀ s : State, Answers .dieHardTrip s (fun t => t.b Fld.THERM_STAT_HARD = true ∧ t.causeSet Cause.THERM_HARD = true ∧ t.emit.charging = none ∧ t.rst.raised.testBit 6 = true ∧
      t.emittersOff = true)) ∧
  (∀ s : State, Answers .dieHardTripClear s (fun t => t.b Fld.THERM_STAT_HARD = false ∧ State.regsBut [Reg.THERM_STAT] s t ∧ { t with regs := s.regs } = s)) ∧
  (∀ (m : Nat) (x : AfeRaw) (s : State), s.afeTurn m = true → x.dur = s.afeTime m → s.afeConflict m = false → x.comp = false → x.open_ = false →
    Answers (.afeConversionDone m x) s (fun t => t.b (Fld.AFE_RES_VALID m) = true ∧ t.b (Fld.AFE_RES_BROKEN m) = false ∧ t.afePos = m + 1 ∧ t.dev = s.dev))

/-! ## The control engine (chapter 11) -/

/-- The control engine (R144, R223, R227, R229, R230, R234). A tick takes the VSPAD monitor, forms V_set and asks for a mirror sample; in PARK nothing runs. A charge group's output is the lowest of its loops',
the lower index on a tie; a group that does not run has its DAC at 0. The comparator stops LX_SPAD above 33.0 V until it is below. COMMIT puts every staged setting into effect. -/
def Obligations.ControlEngine : Prop :=
  (∀ (vspad mexc vin pin : Nat) (limit : Bool) (s : State), s.dev = .park → Answers (.ctlTick vspad mexc limit vin pin) s (fun t => t = s)) ∧
  (∀ (vspad mexc vin pin : Nat) (limit : Bool) (s : State), s.dev ≠ .park →
    Answers (.ctlTick vspad mexc limit vin pin) s (fun t => t.ctl.vspad = vspad ∧ t.f Fld.RX_BIASST_VSET = s.biasSet.f Fld.RX_BIASST_VSET ∧
      t.f Fld.AFE_PWR_P = (s.powerMon vin pin).f Fld.AFE_PWR_P)) ∧
  (∀ (n : Nat) (s : State), n < 8 → s.groupRuns n = true →
    Answers (.chargeGroupEvaluate n) s (fun t => t.f (Fld.CTL_GRP_WIN n) = lowestOut ((List.range 4).map (fun j => ((s.groupRun n).chargeLoop n j).out)) ∧ t.ctl.grp.testBit n = true)) ∧
  (∀ (n : Nat) (s : State), n < 8 → s.groupRuns n = false → s.ctl.grp.testBit n = true →
    Answers (.chargeGroupEvaluate n) s (fun t => t.f (Fld.EMIT_DAC_CODE n) = 0 ∧ t.f (Fld.CTL_GRP_CODE n) = 0 ∧ t.ctl.grp.testBit n = false)) ∧
  (∀ (n : Nat) (s : State), s.groupRuns n = false → s.ctl.grp.testBit n = false → Answers (.chargeGroupEvaluate n) s (fun t => t = s)) ∧
  (∀ s : State, Answers (.vspadOvervoltage true) s (fun t => t.ctl.lxStop = true ∧ t.ctl.lx = 0 ∧ { t with ctl := s.ctl } = s)) ∧
  (∀ s : State, Answers .ctlCommit s (fun t => (∀ a ∈ ctlStaged, SMap.get regReset t.ctl.act a = s.rget a) ∧ { t with ctl := s.ctl } = s)) ∧
  (∀ s : State, (s.f Fld.CTL_STAT_RUN).testBit 1 = true →
    Answers (.vspadOvervoltage false) s (fun t => t.ctl.lxStop = false ∧ t.ctl.lx = s.f (Fld.CTL_LOUT_OUT 1) ∧ { t with ctl := s.ctl } = s)) ∧
  (∀ (vspad mexc vin pin : Nat) (limit : Bool) (s : State), s.dev ≠ .park →
    Answers (.ctlTick vspad mexc limit vin pin) s (fun t => t.adc.jobs.getLast? = some { who := 1, src := 9, trig := slotAt s.now, len := s.msnsCount, live := true } ∧ t.dev = s.dev))

/-! ## The Guard (chapter 15) -/

/-- The Guard's enable and outputs (R253, R310, R312-R316, R320). A channel that leaves its active level switches the outputs off; they switch on where no condition
of Table 15.3 fails, and with CHECK and EDM low code 7 is recorded; off-pulses come every OPI and alternate, and an output that reads high at the end of its own
gives code 1; an output that reads low twice gives code 3; EDM that has not followed within EDM_T gives code 6; the output stage's trip latches; a Guard CRC
that differs latches CRC_ERR. EN edges follow their channel; CHECK gives EDM until EDM_T, from the moment the outputs come on, to fall; readbacks show in RB_A
and RB_B; an EDM level is shown, and one that was awaited is awaited no more; a pass with an uncorrectable field-map error latches FMAP_UE and CRC_ERR, and one
without writes GUARD_CRC. -/
def Obligations.GuardOutputs : Prop :=
  (∀ s : State, s.b Fld.GUARD_CFG_ANTIV = false → s.soutOn = true → Answers (.enEdge 0 false) s (fun t => t.soutOn = false ∧ t.guard.enA = false ∧ t.f Fld.GUARD_STAT_CLEAR = 0)) ∧
  (∀ (level : Bool) (s : State), s.soutOn = false → Answers (.enEdge 1 level) s (fun t => t.guard.enB = level ∧ { t with guard := s.guard } = s)) ∧
  (∀ s : State, s.soutOn = false → s.offWhy % 64 = 0 → s.b Fld.GUARD_CFG_CHECK = false → Answers .guardOutputsOn s (fun t => t.soutOn = true ∧ State.regsBut [Reg.GUARD_STAT] s t ∧
      { t with regs := s.regs, guard := s.guard } = s)) ∧
  (∀ s : State, s.soutOn = false → s.offWhy % 64 = 0 → s.b Fld.GUARD_CFG_CHECK = true → s.b Fld.GUARD_STAT_EDM = false →
    Answers .guardOutputsOn s (fun t => t.soutOn = false ∧ t.b Fld.GUARD_FAULT_SOUT_FAULT = true ∧ t.f Fld.GUARD_FAULT_FCODE = 7)) ∧
  (∀ s : State, s.offWhy % 64 ≠ 0 → Answers .guardOutputsOn s (fun t => t = s)) ∧
  (∀ s : State, s.soutOn = true → s.b Fld.GUARD_CFG_CHECK = false → s.guard.pulse = none → s.guard.pulseMs + s.opi ≤ s.ms →
    Answers .offPulseStart s (fun t => t.guard.pulse = some s.guard.nextPulse ∧ t.guard.pulseEnd = s.now + s.opw ∧ t.guard.pulseMs = s.guard.pulseMs + s.opi ∧ t.guard.nextPulse = 1 - s.guard.nextPulse ∧ { t with guard := s.guard } = s)) ∧
  (∀ s : State, s.soutOn = false ∨ s.ms < s.guard.pulseMs + s.opi → Answers .offPulseStart s (fun t => t = s)) ∧
  (∀ s : State, s.guard.pulse = some 0 → s.guard.pulseEnd ≤ s.now → Answers (.offPulseEnd false true) s (fun t => t.guard.pulse = none ∧ t.b Fld.GUARD_STAT_RB_A = false ∧ t.b Fld.GUARD_STAT_RB_B = true ∧
      t.soutOn = s.soutOn ∧ State.regsBut [Reg.GUARD_STAT] s t)) ∧
  (∀ (rbB : Bool) (s : State), s.guard.pulse = some 0 → s.guard.pulseEnd ≤ s.now → s.soutOn = true → s.b Fld.GUARD_FAULT_SOUT_FAULT = false →
    Answers (.offPulseEnd true rbB) s (fun t => t.soutOn = false ∧ t.f Fld.GUARD_FAULT_FCODE = 1 ∧ t.causeSet Cause.GUARD_FAULT = true)) ∧
  (∀ (rbA rbB limA limB : Bool) (s : State), s.soutOn = false → s.guard.outA.last ≠ some true → s.guard.outB.last ≠ some true →
    Answers (.readbackSample rbA rbB limA limB) s (fun t => t.b Fld.GUARD_STAT_RB_A = rbA ∧ t.b Fld.GUARD_STAT_RB_B = rbB ∧ t.guard.outA.n = min 200 (s.guard.outA.n + 1) ∧
      t.guard.outB.n = min 200 (s.guard.outB.n + 1) ∧ State.regsBut [Reg.GUARD_STAT] s t ∧ { t with regs := s.regs, guard := s.guard } = s)) ∧
  (∀ (rbB limA limB : Bool) (s : State), s.soutOn = true → s.guard.pulse = none → s.guard.outA.last = some false → 5 ≤ s.guard.outA.n → s.b Fld.GUARD_FAULT_SOUT_FAULT = false →
    Answers (.readbackSample false rbB limA limB) s (fun t => t.soutOn = false ∧ t.f Fld.GUARD_FAULT_FCODE = 3)) ∧
  (∀ s : State, s.b Fld.GUARD_CFG_CHECK = true → s.guard.edmWait.isSome = true → s.guard.edmMs + s.edmT ≤ s.ms → s.b Fld.GUARD_FAULT_SOUT_FAULT = false →
    Answers .edmTimeout s (fun t => t.soutOn = false ∧ t.f Fld.GUARD_FAULT_FCODE = 6 ∧ t.b Fld.GUARD_FAULT_SOUT_FAULT = true)) ∧
  (∀ s : State, s.guard.edmWait = none ∨ s.ms < s.guard.edmMs + s.edmT → Answers .edmTimeout s (fun t => t = s)) ∧
  (∀ (level : Bool) (s : State), s.guard.edmWait = some level → Answers (.edmLevelChange level) s (fun t => t.b Fld.GUARD_STAT_EDM = level ∧ t.guard.edmWait = none ∧
      State.regsBut [Reg.GUARD_STAT] s t ∧ { t with regs := s.regs, guard := s.guard } = s)) ∧
  (∀ s : State, s.guard.edmWait = none → s.b Fld.GUARD_CFG_CHECK = true → s.b Fld.GUARD_STAT_EDM = false → s.soutOn = true → s.b Fld.GUARD_FAULT_SOUT_FAULT = false →
    Answers (.edmLevelChange true) s (fun t => t.soutOn = false ∧ t.f Fld.GUARD_FAULT_FCODE = 6)) ∧
  (∀ s : State, s.b Fld.PWR_FAULT_SOUT_TRIP = false → Answers .soutStageTrip s (fun t => t.b Fld.PWR_FAULT_SOUT_TRIP = true ∧ t.soutOn = false)) ∧
  (∀ s : State, s.guardActive = true → s.dev ≠ .boot → s.dev ≠ .park → s.b Fld.GUARD_STAT_CHANGE_OPEN = false → s.guardCrc = s.rget Reg.GUARD_CRCREF →
    Answers (.guardCrcPass none) s (fun t => t.rget Reg.GUARD_CRC = s.guardCrc ∧ State.regsBut [Reg.GUARD_CRC] s t ∧ { t with regs := s.regs } = s)) ∧
  (∀ s : State, s.guardActive = true → s.dev ≠ .boot → s.dev ≠ .park → s.b Fld.GUARD_STAT_CHANGE_OPEN = false → s.guardCrc ≠ s.rget Reg.GUARD_CRCREF →
    Answers (.guardCrcPass none) s (fun t => t.b Fld.GUARD_FAULT_CRC_ERR = true ∧ t.soutOn = false ∧ t.rget Reg.GUARD_CRC = s.guardCrc)) ∧
  (∀ (ue : Option Nat) (s : State), s.b Fld.GUARD_STAT_CHANGE_OPEN = true → Answers (.guardCrcPass ue) s (fun t => t = s)) ∧
  (∀ (rbA rbB : Bool) (s : State), s.guard.pulse = none ∨ s.now < s.guard.pulseEnd → Answers (.offPulseEnd rbA rbB) s (fun t => t = s)) ∧
  (∀ (level : Bool) (s : State), Answers (.enEdge 0 level) s (fun t => t.guard.enA = level ∧ t.guard.enB = s.guard.enB ∧ t.dev = s.dev) ∧
    Answers (.enEdge 1 level) s (fun t => t.guard.enB = level ∧ t.guard.enA = s.guard.enA ∧ t.dev = s.dev)) ∧
  (∀ s : State, s.soutOn = false → s.offWhy % 64 = 0 → s.b Fld.GUARD_CFG_CHECK = true → s.b Fld.GUARD_STAT_EDM = true →
    Answers .guardOutputsOn s (fun t => t.soutOn = true ∧ t.guard.edmWait = some false ∧ t.guard.edmMs = s.ms ∧ State.regsBut [Reg.GUARD_STAT] s t ∧
      { t with regs := s.regs, guard := s.guard } = s)) ∧
  (∀ (p : Nat) (rbA rbB : Bool) (s : State), s.guard.pulse = some p → s.guard.pulseEnd ≤ s.now →
    Answers (.offPulseEnd rbA rbB) s (fun t => t.b Fld.GUARD_STAT_RB_A = rbA ∧ t.b Fld.GUARD_STAT_RB_B = rbB ∧ t.dev = s.dev)) ∧
  (∀ (rbA rbB limA limB : Bool) (s : State), Answers (.readbackSample rbA rbB limA limB) s (fun t => t.b Fld.GUARD_STAT_RB_A = rbA ∧ t.b Fld.GUARD_STAT_RB_B = rbB ∧ t.dev = s.dev)) ∧
  (∀ s : State, s.b Fld.GUARD_CFG_CHECK = true → s.guard.edmWait.isSome = true → s.guard.edmMs + s.edmT ≤ s.ms →
    Answers .edmTimeout s (fun t => t.soutOn = false ∧ t.b Fld.GUARD_FAULT_SOUT_FAULT = true ∧ t.dev = s.dev)) ∧
  (∀ (level : Bool) (s : State), Answers (.edmLevelChange level) s (fun t => t.b Fld.GUARD_STAT_EDM = level ∧ t.guard.edmWait ≠ some level ∧ t.dev = s.dev)) ∧
  (∀ s : State, Answers .soutStageTrip s (fun t => t.b Fld.PWR_FAULT_SOUT_TRIP = true ∧ t.soutOn = false ∧ t.dev = s.dev)) ∧
  (∀ (a : Nat) (s : State), s.guardActive = true → s.dev ≠ .boot → s.dev ≠ .park → s.b Fld.GUARD_STAT_CHANGE_OPEN = false →
    Answers (.guardCrcPass (some a)) s (fun t => t.causeSet Cause.FMAP_UE = true ∧ t.b Fld.GUARD_FAULT_CRC_ERR = true ∧ t.soutOn = false ∧ t.dev = s.dev)) ∧
  (∀ s : State, s.guardActive = true → s.dev ≠ .boot → s.dev ≠ .park → s.b Fld.GUARD_STAT_CHANGE_OPEN = false →
    Answers (.guardCrcPass none) s (fun t => t.rget Reg.GUARD_CRC = s.guardCrc ∧ t.dev = s.dev))

/-! ## Non-volatile memory, flash and scrubber (chapters 4, 5 and 18) -/

/-- NVM_WRITE_DONE (R321, R326, R363, R364): without a write in progress nothing happens; a failed verify sets NVM_ERR and the same write comes first again; an event entry
enters the ring of 1,024 with the next COUNT and sets ENTRY; other writes leave what they wrote. -/
def Obligations.NvmWrites : Prop :=
  (∀ (fail : Bool) (s : State), s.nvm.cur = none → Answers (.nvmWriteDone fail) s (fun t => t = s)) ∧
  (∀ (w : NvmWrite) (s : State), s.nvm.cur = some w →
    Answers (.nvmWriteDone true) s (fun t => t.causeSet Cause.LOG_NVM_ERR = true ∧ t.nvm.cur.toList ++ t.nvm.work = w :: s.nvm.work ∧ t.nvm.log = s.nvm.log ∧
      { t with regs := s.regs, nvm := s.nvm } = s)) ∧
  (∀ (ws : List Word) (s : State), s.nvm.cur = some (.event ws) →
    Answers (.nvmWriteDone false) s (fun t => t.causeSet Cause.LOG_ENTRY = true ∧ t.nvm.logCount = (if s.nvm.logCount = 0xFFFFFFFF then 1 else s.nvm.logCount + 1) ∧
      t.nvm.log = (s.nvm.log ++ [logEntry t.nvm.logCount ws]).drop (s.nvm.log.length + 1 - 1024) ∧ t.nvm.chLog = s.nvm.chLog ∧ { t with regs := s.regs, nvm := s.nvm } = s)) ∧
  (∀ (m : BitVec 64) (d : BitVec 8) (s : State), s.nvm.cur = some (.loss m d) →
    Answers (.nvmWriteDone false) s (fun t => t.nvm.lossMask = m ∧ t.nvm.lossDead = d ∧ t.regs = s.regs ∧ { t with nvm := s.nvm } = s)) ∧
  (∀ (p : List Word) (s : State), s.nvm.cur = some (.option p) →
    Answers (.nvmWriteDone false) s (fun t => t.nvm.optPage = p ∧ t.regs = s.regs ∧ { t with nvm := s.nvm } = s)) ∧
  (∀ (v : Word) (s : State), s.nvm.cur = some (.mec v) → s.nvm.mec ≠ 0xFFFFFFFF →
    Answers (.nvmWriteDone false) s (fun t => t.nvm.mec = s.nvm.mec + 1 ∧ t.b Fld.CASK_STAT_RUNMOD = true ∧ t.b Fld.CASK_CALCFG_BUSY = true)) ∧
  (∀ (ws : List Word) (s : State), s.nvm.cur = some (.change ws) → s.nvm.work = [] → s.nvm.queue = [] → s.amp.busy = none →
    Answers (.nvmWriteDone false) s (fun t => t.nvm.cur = none ∧ t.nvm.chCount = (if s.nvm.chCount = 0xFFFFFFFF then 1 else s.nvm.chCount + 1) ∧
      t.nvm.chLog = (s.nvm.chLog ++ [logEntry t.nvm.chCount ws]).drop (s.nvm.chLog.length + 1 - 256) ∧ t.regs = s.regs)) ∧
  (∀ (v : Nat) (s : State), s.nvm.cur = some (.seqBase v) →
    Answers (.nvmWriteDone false) s (fun t => t.nvm.seqBase = v ∧ t.regs = s.regs ∧ { t with nvm := s.nvm } = s)) ∧
  (∀ (w : NvmWrite) (s : State), s.nvm.cur = some w → Answers (.nvmWriteDone false) s (fun t => t.dev = s.dev ∧ t.anchor = s.anchor ∧ t.mem = s.mem))

/-- FL_CMD, OPT_CMD and the scrubber (R73, R361). A flash command in BOOT, PARK or SERVICE, or while another runs, is ignored; one that names a byte
of the running slot is refused; else it runs until its end, when the block is erased, or BUSY clears. OPT_CMD takes its key alone, and a page in order goes to be written. A
scrub step without a finding changes nothing, and a word in error is counted. -/
def Obligations.FlashAndScrub : Prop :=
  (∀ s : State, s.flAccepts = false ∨ s.b Fld.FL_STAT_BUSY = true →
    Answers .flCmdErase s (fun t => t = s) ∧ Answers .flCmdProgram s (fun t => t = s) ∧ Answers .flCmdRead s (fun t => t = s)) ∧
  (∀ s : State, s.flAccepts = true → s.b Fld.FL_STAT_BUSY = false → s.inRunSlot (s.f Fld.FL_ADDR_ADDR / 65536 * 65536) = true →
    Answers .flCmdErase s (fun t => t.b Fld.FL_STAT_PROTECT = true ∧ t.causeSet Cause.LOG_FL_ERR = true ∧ t.flOp = s.flOp ∧ { t with regs := s.regs } = s)) ∧
  (∀ s : State, s.flAccepts = true → s.b Fld.FL_STAT_BUSY = false → s.inRunSlot (s.f Fld.FL_ADDR_ADDR / 65536 * 65536) = false →
    Answers .flCmdErase s (fun t => t.b Fld.FL_STAT_BUSY = true ∧ t.flOp = some { cmd := 1, addr := s.f Fld.FL_ADDR_ADDR / 65536 * 65536, data := [] } ∧
      State.regsBut [Reg.FL_STAT] s t ∧ { t with regs := s.regs, flOp := s.flOp } = s)) ∧
  (∀ s : State, s.flAccepts = true → s.b Fld.FL_STAT_BUSY = false → s.inRunSlot (s.f Fld.FL_ADDR_ADDR / 256 * 256) = false →
    Answers .flCmdProgram s (fun t => t.b Fld.FL_STAT_BUSY = true ∧ t.flOp = some { cmd := 2, addr := s.f Fld.FL_ADDR_ADDR / 256 * 256, data := s.flBuf }) ∧
    Answers .flCmdRead s (fun t => t.b Fld.FL_STAT_BUSY = true ∧ t.flOp = some { cmd := 3, addr := s.f Fld.FL_ADDR_ADDR / 256 * 256, data := [] })) ∧
  (∀ (left : Option (List Byte)) (s : State), s.flOp = none → Answers (.flashCmdDone left) s (fun t => t = s)) ∧
  (∀ (o : FlashOp) (s : State), s.flOp = some o → o.cmd = 1 →
    Answers (.flashCmdDone none) s (fun t => t.b Fld.FL_STAT_BUSY = false ∧ t.flOp = none ∧ (∀ a, o.addr ≤ a → a < o.addr + 65536 → t.flashGet a = 0xFF) ∧
      State.regsBut [Reg.FL_STAT] s t ∧ { t with regs := s.regs, flash := s.flash, flOp := s.flOp } = s)) ∧
  (∀ (o : FlashOp) (l : List Byte) (s : State), s.flOp = some o →
    Answers (.flashCmdDone (some l)) s (fun t => t.b Fld.FL_STAT_BUSY = false ∧ t.b Fld.FL_STAT_ERR = true ∧ t.causeSet Cause.LOG_FL_ERR = true ∧ t.flOp = none)) ∧
  (∀ (key : Word) (s : State), key ≠ 0x4F505457 → Answers (.optCmd key) s (fun t => t = s)) ∧
  (∀ s : State, s.flAccepts = true → s.b Fld.THERM_STAT_NVM_OK = false →
    Answers (.optCmd 0x4F505457) s (fun t => t.b Fld.OPT_STAT_REFUSED = true ∧ t.causeSet Cause.LOG_OPT_REF = true ∧ t.nvm = s.nvm)) ∧
  (∀ (mem a : Nat) (s : State), Answers (.scrubStep mem a 0) s (fun t => t = s)) ∧
  (∀ (c a : Nat) (s : State), c < 2 → s.dev = .scan →
    Answers (.scrubStep (2 + c) a 1) s (fun t => t.f (Fld.DSP_ECC_CE c) = min (2 ^ (Fld.DSP_ECC_CE c).w - 1) (s.f (Fld.DSP_ECC_CE c) + 1) ∧ t.causeSet (Cause.DSP_CE c) = true ∧
      { t with regs := s.regs } = s)) ∧
  (∀ (o : FlashOp) (s : State), s.flOp = some o → o.cmd = 3 →
    Answers (.flashCmdDone none) s (fun t => t.b Fld.FL_STAT_BUSY = false ∧ t.flOp = none ∧ t.flash = s.flash ∧
      (∀ i, i < 64 → t.rget (Reg.FL_BUF i) = bytesW ((List.range 4).map (fun j => s.flashGet (o.addr + 4 * i + j))) 0))) ∧
  (∀ (o : FlashOp) (left : Option (List Byte)) (s : State), s.flOp = some o → Answers (.flashCmdDone left) s (fun t => t.b Fld.FL_STAT_BUSY = false ∧ t.flOp = none ∧ t.dev = s.dev)) ∧
  (∀ (page : List Word) (s : State), s.flAccepts = true → page = (List.range 18).map (fun i => s.rget (Reg.OPT_STAGE i)) → optBytesOk page = true → fuseOk page = true →
    s.b Fld.THERM_STAT_NVM_OK = true →
    Answers (.optCmd 0x4F505457) s (fun t => NvmWrite.option page ∈ t.nvm.cur.toList ++ t.nvm.work ∧ t.regs = s.regs ∧ { t with nvm := s.nvm } = s)) ∧
  (∀ (a : Nat) (s : State), s.dev = .idle ∨ s.dev = .scan ∨ s.dev = .safe ∨ s.dev = .service →
    Answers (.scrubStep 1 a 1) s (fun t => t.f Fld.WORT_ECC_CE = min (2 ^ Fld.WORT_ECC_CE.w - 1) (s.f Fld.WORT_ECC_CE + 1) ∧ t.causeSet Cause.WORT_ECC_CE = true ∧
      { t with regs := s.regs } = s)) ∧
  (∀ (c a : Nat) (s : State), c < 2 → s.dev = .idle ∨ s.dev = .scan ∨ s.dev = .safe ∨ s.dev = .service →
    Answers (.scrubStep (2 + c) a 2) s (fun t => t.f (Fld.DSP_ECC_UE c) = min (2 ^ (Fld.DSP_ECC_UE c).w - 1) (s.f (Fld.DSP_ECC_UE c) + 1) ∧ t.causeSet (Cause.DSP_UE c) = true ∧
      t.f (Fld.DSP_ECCADDR_ADDR c) = a % 2 ^ (Fld.DSP_ECCADDR_ADDR c).w))

/-! ## The sealed partition (chapter 16) -/

/-- The Cask's commands (R209, R326, R330-R332). GO is ignored while BLOCKED; it discards a kind below 0x100, and else submits the record. The generator issues its own records
first, tagged with SEQ, into both queues; without a key, or in PARK (R13), there are none. APPLY outside SERVICE is refused and counted; in SERVICE the counter's write is due. The copy back
ends with BUSY. -/
def Obligations.CaskCommands : Prop :=
  (∀ s : State, s.lrsBlocked = true ∨ s.cask.sub.isSome = true → Answers .caskLrsgo s (fun t => t = s)) ∧
  (∀ s : State, s.lrsBlocked = false → s.cask.sub = none → s.f Fld.CASK_LRSHDR_KIND < 0x100 →
    Answers .caskLrsgo s (fun t => t.b Fld.CASK_LRSSTAT_KIND_ERR = true ∧ t.cask.sub = none ∧ State.regsBut [Reg.CASK_LRSSTAT] s t ∧ { t with regs := s.regs } = s)) ∧
  (∀ s : State, s.lrsBlocked = false → s.cask.sub = none → 0x100 ≤ s.f Fld.CASK_LRSHDR_KIND →
    Answers .caskLrsgo s (fun t => t.cask.sub = some ⟨s.f Fld.CASK_LRSHDR_KIND, some (s.rget Reg.CASK_LRSTS),
        (List.range (min 11 (s.f Fld.CASK_LRSHDR_NDATA))).map (fun i => s.rget (Reg.CASK_LRSDATA i))⟩ ∧ { t with cask := s.cask } = s)) ∧
  (∀ s : State, s.nvm.cmacKey = none → Answers .lrsRecordIssue s (fun t => t = s)) ∧
  (∀ (key : List Byte) (r : LrsRec) (s : State), s.nvm.cmacKey = some key → s.dev ≠ .park → s.lrsOff = false → s.lrsRoom = true → s.seqBasePending = false → s.applying = false →
    s.rst.sections.testBit 9 = true → s.cask.own = [r] → s.cask.seq % 65536 < 65535 →
    Answers .lrsRecordIssue s (fun t => t.cask.own = [] ∧ t.cask.sub = s.cask.sub ∧ t.cask.seq = s.cask.seq + 1 ∧
      t.wort.lrsDwl = s.wort.lrsDwl ++ [lrsWords key r.kind s.cask.seq (r.ts.getD (s.time.ctr.extractLsb' 32 32)) r.data] ∧
      t.wort.lrsEth = s.wort.lrsEth ++ [lrsWords key r.kind s.cask.seq (r.ts.getD (s.time.ctr.extractLsb' 32 32)) r.data] ∧ t.regs = s.regs)) ∧
  (∀ (key : List Byte) (r : LrsRec) (s : State), s.nvm.cmacKey = some key → s.dev ≠ .park → s.lrsOff = false → s.lrsRoom = true → s.seqBasePending = false → s.applying = false →
    s.rst.sections.testBit 9 = true → s.cask.own = [] → s.cask.sub = some r → s.cask.seq % 65536 < 65535 →
    Answers .lrsRecordIssue s (fun t => t.cask.sub = none ∧ t.cask.seq = s.cask.seq + 1 ∧ (SMap.get (fun _ => 0) t.lines 0).testBit 5 = true ∧
      t.wort.lrsDwl = s.wort.lrsDwl ++ [lrsWords key r.kind s.cask.seq (r.ts.getD (s.time.ctr.extractLsb' 32 32)) r.data] ∧ t.regs = s.regs)) ∧
  (∀ s : State, s.dev ≠ .service →
    Answers .caskApply s (fun t => t.causeSet Cause.CASK_REFUSED = true ∧
      t.f Fld.CASK_STAT_REFUSED = min (2 ^ Fld.CASK_STAT_REFUSED.w - 1) (s.f Fld.CASK_STAT_REFUSED + 1) ∧ t.nvm.mec = s.nvm.mec ∧ t.cal = s.cal)) ∧
  (∀ s : State, s.dev = .service → s.b Fld.CASK_CALCFG_BUSY = false → s.nvm.mec ≠ 0xFFFFFFFF → s.nvm.work = [] →
    Answers .caskApply s (fun t => t.nvm.cur.toList ++ t.nvm.work = s.nvm.cur.toList ++ [.mec (s.nvm.mec + 1)] ∧ t.regs = s.regs ∧ { t with nvm := s.nvm } = s)) ∧
  (∀ s : State, Answers .caskCopyBackDone s (fun t => t.b Fld.CASK_CALCFG_BUSY = false ∧ State.regsBut [Reg.CASK_CALCFG] s t ∧ { t with regs := s.regs } = s)) ∧
  (∀ s : State, s.dev = .park → Answers .lrsRecordIssue s (fun t => t = s)) ∧
  (∀ (key : List Byte) (r : LrsRec) (l : List LrsRec) (s : State), s.nvm.cmacKey = some key → s.dev ≠ .park → s.lrsOff = false → s.lrsRoom = true → s.seqBasePending = false →
    s.applying = false → s.rst.sections.testBit 9 = true → s.cask.own ++ s.cask.sub.toList = r :: l →
    Answers .lrsRecordIssue s (fun t => t.wort.lrsDwl = s.wort.lrsDwl ++ [lrsWords key r.kind s.cask.seq (r.ts.getD (s.time.ctr.extractLsb' 32 32)) r.data] ∧
      t.cask.own = s.cask.own.drop 1 ∧ t.dev = s.dev))

/-- R331: in BOOT or SERVICE, without a key, or after SEQ_END, GO is ignored, no record is issued, and CASK_LRSSTAT.BLOCKED reads 1; with DSP0 absent no record is issued. -/
def Obligations.GeneratorBlocked : Prop :=
  (∀ s : State, s.dev = .boot ∨ s.dev = .service ∨ s.keySet = false ∨ s.b Fld.CASK_STAT_SEQ_END = true →
    exec .caskLrsgo s = .next s ∧ exec .lrsRecordIssue s = .next s ∧ Fld.CASK_LRSSTAT_BLOCKED.of (s.wordAt Reg.CASK_LRSSTAT) = 1) ∧
  (∀ s : State, s.rst.sections.testBit 9 = false → exec .lrsRecordIssue s = .next s)

/-! ## AMP (chapter 14) -/

/-- Arrival at the agent (R13, R215, R285-R289, R294, R361). A datagram leaves its Ethernet queue, and one whose parity is wrong is dropped; a SIDEBAND frame with a
wrong CRC, or an MSPI message with one, is counted and dropped, and one on a lane not in use is not taken; a good MSPI message enters the queue and the window
of its source; a READ frees the reply buffer; STATUS changes nothing; a window's end frees its entry; the session and the lockout end at their time and not
before. A good message from MSPI or DWL enters at the tail of any queue with room; the end of a session closes its change. -/
def Obligations.AmpArrival : Prop :=
  (∀ (p : Nat) (par : Bool) (s : State), p < 2 → (s.eth p).q1 = [] → Answers (.ampEthDatagram p par) s (fun t => t = s)) ∧
  (∀ (p : Nat) (par : Bool) (slot : List Byte) (q : List (List Byte)) (s : State), p < 2 → s.dev ≠ .park → s.pins.parkTest = false → (s.eth p).q1 = slot :: q →
    Answers (.ampEthDatagram p par) s (fun t => (t.eth p).q1 = q ∧ (t.eth p).q0 = (s.eth p).q0 ∧ (t.eth p).q2 = (s.eth p).q2 ∧ t.dev = s.dev)) ∧
  (∀ (lane : Nat) (ws : List Word) (ok : Bool) (s : State), s.dwlUp = false → Answers (.ampDwlSideband lane ws ok) s (fun t => t = s)) ∧
  (∀ (lane : Nat) (ws : List Word) (s : State), s.dwlUp = true → s.dwlLanes.contains lane = true → s.dwlAligned lane = true → s.dev ≠ .boot →
    Answers (.ampDwlSideband lane ws false) s (fun t => t.f Fld.DWL_CNT_RXBAD = min (2 ^ Fld.DWL_CNT_RXBAD.w - 1) (s.f Fld.DWL_CNT_RXBAD + 1) ∧
      t.causeSet Cause.DWL_RX_CRC = true ∧ { t with regs := s.regs } = s)) ∧
  (∀ (m : List Byte) (crc : Word) (s : State), s.mspiOn = true → crc ≠ crc32 m →
    Answers (.mspiWrite m crc) s (fun t => t.f Fld.AMP_CNT2_MSPIBAD = min (2 ^ Fld.AMP_CNT2_MSPIBAD.w - 1) (s.f Fld.AMP_CNT2_MSPIBAD + 1) ∧
      State.regsBut [Fld.AMP_CNT2_MSPIBAD.addr] s t ∧ { t with regs := s.regs } = s)) ∧
  (∀ (m : List Byte) (s : State), s.mspiOn = true → m.length = 12 + le16 m 4 → ampNone m = false → ampBad m = false → s.amp.queue = [] → s.amp.busy = none → s.amp.wins = [] →
    s.dev ≠ .park → s.pins.parkTest = false → s.ampStray { src := .mspi, port := 0, sport := 0, bad := false, msg := m } = none →
    Answers (.mspiWrite m (crc32 m)) s (fun t => t.amp.queue = [{ src := .mspi, port := 0, sport := 0, bad := false, msg := m }] ∧ t.amp.wins = [{ src := .mspi, count := 1, start := s.ms }] ∧
      { t with amp := s.amp } = s)) ∧
  (∀ s : State, s.mspiOn = true → Answers (.mspiRead true) s (fun t => t.amp.reply = none ∧ { t with amp := s.amp } = s)) ∧
  (∀ s : State, Answers (.mspiRead false) s (fun t => t = s) ∧ Answers .mspiStatus s (fun t => t = s)) ∧
  (∀ (src : AmpSrc) (s : State), Answers (.ampWindowEnd src) s (fun t => (∀ w ∈ t.amp.wins, w.src = src → s.ms < w.start + 1000) ∧
      (∀ w ∈ s.amp.wins, w.src ≠ src ∨ s.ms < w.start + 1000 → w ∈ t.amp.wins) ∧ t.amp.queue = s.amp.queue ∧ { t with amp := s.amp } = s)) ∧
  (∀ s : State, s.amp.sess = none → Answers .guardSessionTimeout s (fun t => t = s)) ∧
  (∀ (x : AmpSess) (s : State), s.amp.sess = some x → x.last + 60000 ≤ s.ms → s.amp.busy = none → s.b Fld.GUARD_STAT_CHANGE_OPEN = false →
    Answers .guardSessionTimeout s (fun t => t.amp.sess = none ∧ { t with amp := s.amp } = s)) ∧
  (∀ s : State, s.amp.locked = true → s.amp.lockMs + 300000 ≤ s.ms → Answers .authLockoutEnd s (fun t => t.amp.locked = false ∧ t.amp.fails = 0 ∧ { t with amp := s.amp } = s)) ∧
  (∀ (x : AmpSess) (s : State), s.amp.sess = some x → s.ms < x.last + 60000 → Answers .guardSessionTimeout s (fun t => t = s)) ∧
  (∀ s : State, s.amp.locked = false ∨ s.ms < s.amp.lockMs + 300000 → Answers .authLockoutEnd s (fun t => t = s)) ∧
  (∀ (lane : Nat) (ws : List Word) (ok : Bool) (s : State), s.dwlLanes.contains lane = false ∨ s.dwlAligned lane = false → Answers (.ampDwlSideband lane ws ok) s (fun t => t = s)) ∧
  (∀ (p : Nat) (slot : List Byte) (q : List (List Byte)) (s : State), p < 2 → s.dev ≠ .park → s.pins.parkTest = false → (s.eth p).q1 = slot :: q →
    Answers (.ampEthDatagram p true) s (fun t => (t.eth p).q1 = q ∧ t.amp = s.amp ∧ t.causeSet (Cause.ETH_QDROP p) = true ∧
      t.f (Fld.ETH_CNT_DROP_Q1 p) = min (2 ^ (Fld.ETH_CNT_DROP_Q1 p).w - 1) (s.f (Fld.ETH_CNT_DROP_Q1 p) + 1))) ∧
  (∀ (lane : Nat) (ws : List Word) (s : State), s.dwlUp = true → s.dwlLanes.contains lane = true → s.dwlAligned lane = true → s.dev ≠ .boot → s.dev ≠ .park → s.pins.parkTest = false →
    s.b Fld.AMP_CFG_DWL = true → ampNone (sideMsg (ws.flatMap wordBytes)) = false → ampBad (sideMsg (ws.flatMap wordBytes)) = false → s.amp.queue = [] → s.amp.busy = none →
    s.amp.wins = [] → s.ampStray { src := .dwl, port := lane, sport := 0, bad := false, msg := sideMsg (ws.flatMap wordBytes) } = none →
    Answers (.ampDwlSideband lane ws true) s (fun t => t.amp.queue = [{ src := .dwl, port := lane, sport := 0, bad := false, msg := sideMsg (ws.flatMap wordBytes) }] ∧
      t.amp.wins = [{ src := .dwl, count := 1, start := s.ms }] ∧ { t with amp := s.amp } = s)) ∧
  (∀ (m : List Byte) (s : State), s.mspiOn = true → s.rxFree = true → m.length = 12 + le16 m 4 → ampNone m = false → ampBad m = false → s.amp.queue.length < 32 →
    (∀ q ∈ s.amp.queue, s.ampStray q = none) → s.ampStray { src := .mspi, port := 0, sport := 0, bad := false, msg := m } = none → (∀ w ∈ s.amp.wins, w.src = .mspi → w.count < 256) →
    Answers (.mspiWrite m (crc32 m)) s (fun t => t.amp.queue = s.amp.queue ++ [{ src := .mspi, port := 0, sport := 0, bad := false, msg := m }] ∧
      t.parkWake = (s.parkWake || s.dev = .park || s.pins.parkTest) ∧ t.regs = s.regs ∧ t.dev = s.dev)) ∧
  (∀ (lane : Nat) (ws : List Word) (s : State), s.dwlUp = true → s.dwlLanes.contains lane = true → s.dwlAligned lane = true → s.dev ≠ .boot → s.b Fld.AMP_CFG_DWL = true →
    ampNone (sideMsg (ws.flatMap wordBytes)) = false → ampBad (sideMsg (ws.flatMap wordBytes)) = false → s.amp.queue.length < 32 → (∀ q ∈ s.amp.queue, s.ampStray q = none) →
    (∀ q ∈ s.amp.queue ++ s.amp.busy.toList, q.src = .dwl → sameTag q.msg (sideMsg (ws.flatMap wordBytes)) = false) → (∀ w ∈ s.amp.wins, w.src = .dwl → w.count < 256) →
    s.ampStray { src := .dwl, port := lane, sport := 0, bad := false, msg := sideMsg (ws.flatMap wordBytes) } = none →
    Answers (.ampDwlSideband lane ws true) s (fun t => t.amp.queue = s.amp.queue ++ [{ src := .dwl, port := lane, sport := 0, bad := false, msg := sideMsg (ws.flatMap wordBytes) }] ∧
      t.parkWake = (s.parkWake || s.dev = .park || s.pins.parkTest) ∧ t.regs = s.regs ∧ t.dev = s.dev)) ∧
  (∀ (x : AmpSess) (s : State), s.amp.sess = some x → x.last + 60000 ≤ s.ms → s.amp.busy = none →
    Answers .guardSessionTimeout s (fun t => t.amp.sess = none ∧ t.b Fld.GUARD_STAT_CHANGE_OPEN = false ∧ t.dev = s.dev))

/-- The commands of Table 14.4 beside AUTH and GUARD_CHANGE (R46, R290-R293, R296). GET answers with the word; SET writes its triple and answers with the count and
the state; LOG_READ and CASK_INFO answer; START sets PEND_START in IDLE; STOP goes from IDLE to SERVICE, is refused while sealed, and ends SCAN at a boundary;
PARK asks for the entry; RESET keeps its level until its reply has left; a command in the wrong state is answered with status 6. GET answers with any number of
words up to 252; LOG_READ with up to 31 entries; START in SCAN changes nothing; STOP in SERVICE goes to its target; PARK ends the session. -/
def Obligations.AmpCommands : Prop :=
  (∀ (r : AmpReq) (s : State), s.ampTurn 1 r = true → s.devIn [.idle, .scan, .safe, .service] = true → (ampPay r.msg).length = 8 → le32 (ampPay r.msg) 0 % 4 = 0 →
    le16 (ampPay r.msg) 4 = 1 → s.ampCanRead (le32 (ampPay r.msg) 0) = true →
    Answers (.get []) s (fun t => t.replied r 0 (wordBytes (s.ampTaken.readWord (le32 (ampPay r.msg) 0)).2))) ∧
  (∀ (r : AmpReq) (s : State), s.ampTurn 1 r = true → s.devIn [.idle, .scan, .safe, .service] = true → (ampPay r.msg).length = 8 → le32 (ampPay r.msg) 0 % 4 = 0 →
    le16 (ampPay r.msg) 4 = 1 → s.ampCanRead (le32 (ampPay r.msg) 0) = false → Answers (.get []) s (fun t => t.replied r 4 [])) ∧
  (∀ (r : AmpReq) (a : Nat) (m v : Word) (s : State), s.ampTurn 2 r = true → s.devIn [.idle, .scan, .safe, .service] = true → le16 (ampPay r.msg) 0 = 1 →
    (ampPay r.msg).length = 16 → setTriples (ampPay r.msg) 1 = [(a, m, v)] → a % 4 = 0 → s.ampCond a m = false → s.ampCanWrite a m = true →
    Answers .set s (fun t => t.replied r 0 [1, 0, BitVec.ofNat 8 (s.ampTaken.ampPut (a, m, v)).dev.code, 0])) ∧
  (∀ (r : AmpReq) (s : State), s.ampTurn 3 r = true → s.devIn [.idle, .scan, .safe, .service] = true → (ampPay r.msg).length = 4 → at8 (ampPay r.msg) 0 = 0 →
    s.nvm.log = [] → le16 (ampPay r.msg) 2 = 0 → Answers .logRead s (fun t => t.replied r 0 [0, 0, 0, 0] ∧ t.nvm = s.nvm)) ∧
  (∀ (r : AmpReq) (s : State), s.ampTurn 0x30 r = true → ampPay r.msg = [] →
    Answers .caskInfo s (fun t => t.replied r 0 (s.caskSha.take 4 ++ s.caskSha ++ wordBytes s.caskMec ++ [BitVec.ofNat 8 s.pins.sealedLow.toNat, BitVec.ofNat 8 s.dev.code, 0, 0]))) ∧
  (∀ (r : AmpReq) (s : State), s.ampTurn 0x10 r = true → s.dev = .idle → ampPay r.msg = [] →
    Answers .start s (fun t => t.replied r 0 [1, 1, 0, 0] ∧ t.b Fld.AMP_STATE_PEND_START = true ∧ t.dev = .idle ∧ t.amp.sess = none)) ∧
  (∀ (r : AmpReq) (s : State), s.ampTurn 0x10 r = true → s.dev = .safe →
    Answers .start s (fun t => t.replied r 6 [] ∧ t.dev = .safe ∧
      t.f Fld.AMP_CNT2_WRONGST = min (2 ^ Fld.AMP_CNT2_WRONGST.w - 1) (s.f Fld.AMP_CNT2_WRONGST + 1))) ∧
  (∀ (r : AmpReq) (s : State), s.ampTurn 0x11 r = true → s.dev = .idle → (ampPay r.msg).length = 4 → at8 (ampPay r.msg) 0 = 1 → s.pins.sealedLow = false →
    Answers .stop s (fun t => t.dev = .service ∧ t.amp.sess = none ∧ t.b Fld.AMP_STATE_PEND_START = false)) ∧
  (∀ (r : AmpReq) (s : State), s.ampTurn 0x11 r = true → s.dev = .idle → (ampPay r.msg).length = 4 → at8 (ampPay r.msg) 0 = 1 → s.pins.sealedLow = true →
    Answers .stop s (fun t => t.replied r 9 [] ∧ t.dev = .idle)) ∧
  (∀ (r : AmpReq) (s : State), s.ampTurn 0x11 r = true → s.dev = .scan → (ampPay r.msg).length = 4 → at8 (ampPay r.msg) 0 = 0 →
    Answers .stop s (fun t => t.dev = .scan ∧ t.scan.leave = 1)) ∧
  (∀ (r : AmpReq) (s : State), s.ampTurn 0x12 r = true → s.dev = .scan → ampPay r.msg = [] →
    Answers .park s (fun t => t.dev = .scan ∧ t.scan.leave = 3 ∧ t.b Fld.AMP_STATE_PEND_START = false ∧ t.rst.autostart = false)) ∧
  (∀ (r : AmpReq) (s : State), s.ampTurn 0x13 r = true → s.devIn [.idle, .scan, .safe, .service] = true → (ampPay r.msg).length = 4 → at8 (ampPay r.msg) 0 ≤ 3 →
    Answers .reset s (fun t => t.rst.ampReset = some (s.ampLevel (at8 (ampPay r.msg) 0) (at8 (ampPay r.msg) 1), resetTarget (at8 (ampPay r.msg) 1)) ∧
      t.replied r 0 [BitVec.ofNat 8 (s.ampLevel (at8 (ampPay r.msg) 0) (at8 (ampPay r.msg) 1)), BitVec.ofNat 8 (at8 (ampPay r.msg) 1), 0, 0])) ∧
  (∀ s : State, s.rst.ampReset = none → Answers .ampResetEffect s (fun t => t = s)) ∧
  (∀ (x : Nat × Option L2Target) (s : State), s.rst.ampReset = some x → s.resetReplyGone = true →
    Answers .ampResetEffect s (fun t => t.rst.raised.testBit 5 = true ∧ t.regs = s.regs ∧ { t with rst := s.rst } = s)) ∧
  (∀ (r : AmpReq) (errs : List Nat) (s : State), s.ampTurn 1 r = true → s.devIn [.idle, .scan, .safe, .service] = true → (ampPay r.msg).length = 8 → le32 (ampPay r.msg) 0 % 4 = 0 →
    le16 (ampPay r.msg) 4 = 1 → s.ampCanRead (le32 (ampPay r.msg) 0) = true → blockAt (le32 (ampPay r.msg) 0) = false → errAt (errs.headD 0) 0 = 2 →
    Answers (.get errs) s (fun t => t.replied r 0xA [])) ∧
  (∀ (r : AmpReq) (n : Nat) (s : State), s.ampTurn 2 r = true → s.devIn [.idle, .scan, .safe, .service] = true → le16 (ampPay r.msg) 0 = n → 1 ≤ n → n ≤ 84 →
    (ampPay r.msg).length = 4 + 12 * n → (∀ x ∈ setTriples (ampPay r.msg) n, x.1 % 4 = 0 ∧ s.ampCond x.1 x.2.1 = false ∧ s.ampCanWrite x.1 x.2.1 = true) →
    Answers .set s (fun t => t.replied r 0 [BitVec.ofNat 8 n, 0, BitVec.ofNat 8 ((setTriples (ampPay r.msg) n).foldl State.ampPut s.ampTaken).dev.code, 0])) ∧
  (∀ (r : AmpReq) (n : Nat) (s : State), s.ampTurn 1 r = true →
    s.devIn [.idle, .scan, .safe, .service] = true ∨ (s.dev = .boot ∧ r.src = .mspi ∧ le32 (ampPay r.msg) 0 + 4 * n ≤ 0x20000) → (ampPay r.msg).length = 8 →
    le32 (ampPay r.msg) 0 % 4 = 0 → le16 (ampPay r.msg) 4 = n → 1 ≤ n → n ≤ 252 → le32 (ampPay r.msg) 0 + 4 * n ≤ 2 ^ 32 → (∀ i, i < n → s.ampCanRead (le32 (ampPay r.msg) 0 + 4 * i) = true) →
    Answers (.get []) s (fun t => t.replied r 0 (State.ampReads n s.ampTaken (le32 (ampPay r.msg) 0) []).2.1)) ∧
  (∀ (r : AmpReq) (s : State), s.ampTurn 3 r = true → s.devIn [.idle, .scan, .safe, .service] = true → (ampPay r.msg).length = 4 → at8 (ampPay r.msg) 0 ≤ 1 →
    Answers .logRead s (fun t => t.nvm = s.nvm ∧
      (let es := ((if at8 (ampPay r.msg) 0 = 0 then s.nvm.log else s.nvm.chLog).drop (le16 (ampPay r.msg) 2)).take 31
       t.replied r 0 ([BitVec.ofNat 8 (le16 (ampPay r.msg) 2), BitVec.ofNat 8 (le16 (ampPay r.msg) 2 / 256), BitVec.ofNat 8 es.length, 0] ++ es.flatten.flatMap wordBytes)))) ∧
  (∀ (r : AmpReq) (s : State), s.ampTurn 0x10 r = true → s.dev = .scan → ampPay r.msg = [] →
    Answers .start s (fun t => t.replied r 0 s.statePay ∧ t.dev = .scan ∧ t.b Fld.AMP_STATE_PEND_START = s.b Fld.AMP_STATE_PEND_START)) ∧
  (∀ (r : AmpReq) (s : State), s.ampTurn 0x11 r = true → s.dev = .service → (ampPay r.msg).length = 4 → at8 (ampPay r.msg) 0 ≤ 1 →
    Answers .stop s (fun t => t.dev = (if at8 (ampPay r.msg) 0 = 0 then .idle else .service) ∧ t.b Fld.AMP_STATE_PEND_START = false)) ∧
  (∀ (r : AmpReq) (s : State), s.ampTurn 0x12 r = true → s.dev = .idle → ampPay r.msg = [] →
    Answers .park s (fun t => t.dev = .idle ∧ t.scan.leave = 3 ∧ t.amp.sess = none ∧ t.b Fld.AMP_STATE_PEND_START = false ∧ t.rst.autostart = false))

/-- R292: a SET with a triple that writes FL_CMD, OPT_CMD, EMIT_LOSTCLR or RX_CAL.RUN outside its state condition (R73, R96, R139) is answered WRONG_STATE as a whole: the reply is
all that is done, and no write is made. -/
def Obligations.SetOutsideCondition : Prop :=
  ∀ (r : AmpReq) (a : Nat) (m v : Word) (s : State), s.ampTurn 2 r = true → s.devIn [.idle, .scan, .safe, .service] = true →
    1 ≤ le16 (ampPay r.msg) 0 → le16 (ampPay r.msg) 0 ≤ 84 → (ampPay r.msg).length = 4 + 12 * le16 (ampPay r.msg) 0 →
    (∀ x ∈ setTriples (ampPay r.msg) (le16 (ampPay r.msg) 0), x.1 % 4 = 0) → (a, m, v) ∈ setTriples (ampPay r.msg) (le16 (ampPay r.msg) 0) →
    ((a = Reg.FL_CMD ∧ m &&& 3 ≠ 0 ∨ a = Reg.OPT_CMD ∧ m ≠ 0) ∧ s.dev ≠ .idle ∧ s.dev ≠ .scan ∧ s.dev ≠ .safe ∨
      (a = Reg.EMIT_LOSTCLR ∧ m ≠ 0 ∨ a = Reg.RX_CAL ∧ m.getLsbD 0 = true) ∧ s.dev ≠ .idle) →
    exec .set s = .next (s.ampTaken.ampAnswer r 6 [])

/-- AUTH and GUARD_CHANGE (R294, R318, R319, R321). A matching password opens a session with an identifier other than 0; a wrong one counts, and the fifth bars
AUTH; BEGIN opens a change; DATA marks the Guard dirty; COMMIT computes the Guard CRC and waits for its log entry; ABORT ends session and change; BEGIN without
the session is answered with 5. An ABORT of a change that wrote waits for its entry; AUTH by the session's own source opens a new session. -/
def Obligations.GuardSessions : Prop :=
  (∀ (r : AmpReq) (s : State), s.ampTurn 0x20 r = true → s.dev = .idle → authOk (ampPay r.msg) = true → s.amp.locked = true → Answers .auth s (fun t => t.replied r 8 [] ∧ t.amp.sess = s.amp.sess)) ∧
  (∀ (r : AmpReq) (s : State), s.ampTurn 0x20 r = true → s.dev = .idle → authOk (ampPay r.msg) = true → s.amp.locked = false → s.amp.sess = none →
    s.pwMatch (at8 (ampPay r.msg) 0) (((ampPay r.msg).drop 4).take (at8 (ampPay r.msg) 1)) = false →
    Answers .auth s (fun t => t.replied r 5 [] ∧ t.amp.fails = s.amp.fails + 1 ∧ t.amp.locked = decide (5 ≤ s.amp.fails + 1) ∧ t.amp.lockMs = s.ms ∧ t.causeSet Cause.AMP_AUTH_FAIL = true ∧
      t.amp.sess = none)) ∧
  (∀ (r : AmpReq) (s : State), s.ampTurn 0x20 r = true → s.dev = .idle → authOk (ampPay r.msg) = true → s.amp.locked = false → s.amp.sess = none →
    s.pwMatch (at8 (ampPay r.msg) 0) (((ampPay r.msg).drop 4).take (at8 (ampPay r.msg) 1)) = true →
    Answers .auth s (fun t => ∃ id : Word, id ≠ 0 ∧ t.amp.sess = some { id := id, src := r.src, uid := at8 (ampPay r.msg) 0, last := s.ms } ∧ t.amp.fails = 0 ∧ t.replied r 0 (wordBytes id))) ∧
  (∀ (r : AmpReq) (s : State), s.ampTurn 0x21 r = true → s.dev = .idle → at8 r.msg 12 = 0 → s.changePending = false → s.ampBears r = true →
    s.b Fld.GUARD_STAT_CHANGE_OPEN = false → (ampPay r.msg).length = 4 →
    Answers .guardChangeBegin s (fun t => t.b Fld.GUARD_STAT_CHANGE_OPEN = true ∧ t.guard.before = s.rget Reg.GUARD_CRC ∧ t.replied r 0 [])) ∧
  (∀ (r : AmpReq) (s : State), s.ampTurn 0x21 r = true → s.dev = .idle → at8 r.msg 12 = 0 → s.changePending = false → s.ampBears r = false →
    Answers .guardChangeBegin s (fun t => t.replied r 5 [] ∧ t.b Fld.GUARD_STAT_CHANGE_OPEN = s.b Fld.GUARD_STAT_CHANGE_OPEN)) ∧
  (∀ s : State, s.changePending = true → Answers .guardChangeBegin s (fun t => t = s)) ∧
  (∀ (r : AmpReq) (w : Nat × Word) (ws : List (Nat × Word)) (s : State), s.ampTurn 0x21 r = true → s.dev = .idle → at8 r.msg 12 = 1 → s.ampBears r = true →
    s.b Fld.GUARD_STAT_CHANGE_OPEN = true → ((ampPay r.msg).drop 4).length % 4 = 0 →
    recordWords ((ampPay r.msg).drop 4).length ((List.range (((ampPay r.msg).drop 4).length / 4)).map (fun i => bytesW ((ampPay r.msg).drop 4) (4 * i))) = some (w :: ws) →
    (w :: ws).all (fun w => changeMay w.1) = true →
    Answers .guardChangeData s (fun t => t.b Fld.GUARD_STAT_DIRTY = true ∧ t.replied r 0 [])) ∧
  (∀ (r : AmpReq) (s : State), s.ampTurn 0x21 r = true → s.dev = .idle → at8 r.msg 12 = 2 → s.ampBears r = true → s.b Fld.GUARD_STAT_CHANGE_OPEN = true →
    (ampPay r.msg).length = 4 →
    Answers .guardChangeCommit s (fun t => t.amp.busy = some r ∧ t.changePending = true ∧ t.rget Reg.GUARD_CRC = s.guardCrc ∧ t.b Fld.GUARD_STAT_CHANGE_OPEN = true)) ∧
  (∀ (r : AmpReq) (s : State), s.ampTurn 0x21 r = true → s.dev = .idle → at8 r.msg 12 = 3 → s.ampBears r = true → s.b Fld.GUARD_STAT_CHANGE_OPEN = true →
    (ampPay r.msg).length = 4 → s.guard.wrotePw = false → s.guard.wroteOther = false →
    Answers .guardChangeAbort s (fun t => t.b Fld.GUARD_STAT_CHANGE_OPEN = false ∧ t.amp.sess = none ∧ t.replied r 0 [])) ∧
  (∀ (r : AmpReq) (s : State), s.ampTurn 0x21 r = true → s.dev = .idle → at8 r.msg 12 = 3 → s.ampBears r = true → s.b Fld.GUARD_STAT_CHANGE_OPEN = true →
    (ampPay r.msg).length = 4 → s.guard.wrotePw = true ∨ s.guard.wroteOther = true →
    Answers .guardChangeAbort s (fun t => t.b Fld.GUARD_STAT_CHANGE_OPEN = false ∧ t.amp.sess = none ∧ t.amp.busy = some r ∧ t.changePending = true ∧
      t.rget Reg.GUARD_CRC = s.guardCrc)) ∧
  (∀ (r : AmpReq) (x : AmpSess) (s : State), s.ampTurn 0x20 r = true → s.dev = .idle → authOk (ampPay r.msg) = true → s.amp.locked = false → s.amp.sess = some x → x.src = r.src →
    s.pwMatch (at8 (ampPay r.msg) 0) (((ampPay r.msg).drop 4).take (at8 (ampPay r.msg) 1)) = true →
    Answers .auth s (fun t => ∃ id : Word, id ≠ 0 ∧ t.amp.sess = some { id := id, src := r.src, uid := at8 (ampPay r.msg) 0, last := s.ms } ∧ t.amp.fails = 0 ∧ t.replied r 0 (wordBytes id)))

/-! ## The signal-processing cores (chapter 17) -/

/-- ALU-R, ALU-I and MOVI (Table 17.5): on a core at a plain boundary each instruction completes, writes the result that the table gives into its destination, and changes nothing
else but the program counter and the cycle count; ADDS, SUBS and ABS saturate and then set STATUS.SAT. -/
def Obligations.DspAlu : Prop :=
  ∀ (c d a b : Nat) (imm : BitVec 14) (im16 : BitVec 16) (s : State), s.coreFree c = true →
    let x := (s.core c).reg a
    let y := (s.core c).reg b
    let im : Word := imm.signExtend 32
    let iz : Word := imm.zeroExtend 32
    Answers (.dspAdd c d a b) s (State.coreWrote c d (x + y) s) ∧
    Answers (.dspSub c d a b) s (State.coreWrote c d (x - y) s) ∧
    Answers (.dspAdds c d a b) s (State.coreSat c d (sat32 (x.toInt + y.toInt)) s) ∧
    Answers (.dspSubs c d a b) s (State.coreSat c d (sat32 (x.toInt - y.toInt)) s) ∧
    Answers (.dspAnd c d a b) s (State.coreWrote c d (x &&& y) s) ∧
    Answers (.dspOr c d a b) s (State.coreWrote c d (x ||| y) s) ∧
    Answers (.dspXor c d a b) s (State.coreWrote c d (x ^^^ y) s) ∧
    Answers (.dspSll c d a b) s (State.coreWrote c d (x <<< (y.toNat % 32)) s) ∧
    Answers (.dspSrl c d a b) s (State.coreWrote c d (x >>> (y.toNat % 32)) s) ∧
    Answers (.dspSra c d a b) s (State.coreWrote c d (x.sshiftRight (y.toNat % 32)) s) ∧
    Answers (.dspMin c d a b) s (State.coreWrote c d (if x.toInt ≤ y.toInt then x else y) s) ∧
    Answers (.dspMax c d a b) s (State.coreWrote c d (if x.toInt ≤ y.toInt then y else x) s) ∧
    Answers (.dspCmplt c d a b) s (State.coreWrote c d (if x.toInt < y.toInt then 1 else 0) s) ∧
    Answers (.dspCmpltu c d a b) s (State.coreWrote c d (if x.toNat < y.toNat then 1 else 0) s) ∧
    Answers (.dspCmpeq c d a b) s (State.coreWrote c d (if x = y then 1 else 0) s) ∧
    Answers (.dspMull c d a b) s (State.coreWrote c d (x * y) s) ∧
    Answers (.dspMulh c d a b) s (State.coreWrote c d (BitVec.ofInt 32 (x.toInt * y.toInt / 2 ^ 32)) s) ∧
    Answers (.dspAbs c d a) s (State.coreSat c d (sat32 x.toInt.natAbs) s) ∧
    Answers (.dspClz c d a) s (State.coreWrote c d (BitVec.ofNat 32 (if x = 0 then 32 else 31 - x.toNat.log2)) s) ∧
    Answers (.dspPack c d a b) s (State.coreWrote c d (y.extractLsb' 0 16 ++ x.extractLsb' 0 16) s) ∧
    Answers (.dspAddi c d a imm) s (State.coreWrote c d (x + im) s) ∧
    Answers (.dspAndi c d a imm) s (State.coreWrote c d (x &&& iz) s) ∧
    Answers (.dspOri c d a imm) s (State.coreWrote c d (x ||| iz) s) ∧
    Answers (.dspXori c d a imm) s (State.coreWrote c d (x ^^^ iz) s) ∧
    Answers (.dspSlli c d a imm) s (State.coreWrote c d (x <<< (imm.toNat % 32)) s) ∧
    Answers (.dspSrli c d a imm) s (State.coreWrote c d (x >>> (imm.toNat % 32)) s) ∧
    Answers (.dspSrai c d a imm) s (State.coreWrote c d (x.sshiftRight (imm.toNat % 32)) s) ∧
    Answers (.dspCmplti c d a imm) s (State.coreWrote c d (if x.toInt < imm.toInt then 1 else 0) s) ∧
    Answers (.dspCmpeqi c d a imm) s (State.coreWrote c d (if x = im then 1 else 0) s) ∧
    Answers (.dspMovl c d im16) s (State.coreWrote c d (im16.signExtend 32) s) ∧
    Answers (.dspMovh c d im16) s (State.coreWrote c d (im16 ++ ((s.core c).reg d).extractLsb' 0 16) s)

/-- QUAD and ACC (R340, Table 17.5): QMPY loads and QMAC adds the four products, QCLR clears, the moves read and write an accumulator, ADDA and SHA saturate at 72 bits and then set
STATUS.AOV, MVA saturates at 32 and then sets STATUS.SAT. Without FRAC, SW and NEG the first product is that of the low halves. -/
def Obligations.DspAccumulators : Prop :=
  ∀ (c d xr yp n m neg sh : Nat) (xh sw rnd left : Bool) (s : State), s.coreFree c = true →
    let x := s.core c
    let shifted : Int := if left then (x.a n).toInt * 2 ^ sh else (x.a n).toInt / 2 ^ sh
    Answers (.dspQmpy c xr xh yp sw neg) s (fun t => (∀ i, i < 4 → (t.core c).a i = BitVec.ofInt 72 ((x.products xr xh yp sw neg).getD i 0)) ∧ (t.core c).g = x.g ∧
      State.coreSeq c s t) ∧
    (x.frac = false → Answers (.dspQmpy c xr false yp false 0) s (fun t =>
      (t.core c).a 0 = BitVec.ofInt 72 (((x.reg xr).extractLsb' 0 16).toInt * ((x.reg (2 * yp)).extractLsb' 0 16).toInt))) ∧
    Answers (.dspQmac c xr xh yp sw neg) s (fun t => (∀ i, i < 4 → (t.core c).a i = (sat72 ((x.a i).toInt + (x.products xr xh yp sw neg).getD i 0)).1) ∧
      (t.core c).g = x.g ∧ State.coreSeq c s t) ∧
    Answers (.dspQclr c) s (fun t => (∀ i, (t.core c).a i = 0) ∧ (t.core c).g = x.g ∧ (t.core c).csr = x.csr ∧ State.coreSeq c s t) ∧
    Answers (.dspMva c d n rnd sh) s (State.coreSat c d (sat32 (((x.a n).toInt + (if rnd && 0 < sh then 2 ^ (sh - 1) else 0 : Int)) / 2 ^ sh)) s) ∧
    Answers (.dspMval c d n) s (State.coreWrote c d ((x.a n).extractLsb' 0 32) s) ∧
    Answers (.dspMvah c d n) s (State.coreWrote c d ((x.a n).extractLsb' 32 32) s) ∧
    Answers (.dspMvag c d n) s (State.coreWrote c d (((x.a n).extractLsb' 64 8).signExtend 32) s) ∧
    Answers (.dspMta c d n sh) s (fun t => State.coreAcc c n ((x.reg d).signExtend 72 <<< sh) s t ∧ (t.core c).csr = x.csr) ∧
    Answers (.dspAdda c n m) s (fun t => State.coreAcc c n (sat72 ((x.a n).toInt + (x.a m).toInt)).1 s t ∧
      ((t.core c).csrGet 0).getLsbD 2 = ((sat72 ((x.a n).toInt + (x.a m).toInt)).2 || (x.csrGet 0).getLsbD 2)) ∧
    Answers (.dspSha c n left sh) s (fun t => State.coreAcc c n (sat72 shifted).1 s t ∧ ((t.core c).csrGet 0).getLsbD 2 = ((sat72 shifted).2 || (x.csrGet 0).getLsbD 2))

/-- Loads and stores (R336, R341, R343) at address `p` in the core's own data memories. A load's value lands after the next instruction, which a NOP shows; a store changes its
bytes alone; mode 1 advances the base; a misaligned address is the ALIGN exception, and an uncorrectable word MEMERR. -/
def Obligations.DspMemory : Prop :=
  (∀ (c d a mc p : Nat) (imm : BitVec 10) (s : State), s.coreFree c = true → ((s.core c).reg a + imm.signExtend 32).toNat = p → coreBase c + 0x40000 ≤ p →
    p + 8 ≤ coreBase c + 0x80000 →
    (p % 4 = 0 → Answers (.dspLdw c d a 0 mc imm 0) s (fun t => (t.core c).ld = [(d, s.mgetW p)] ∧ ∀ r, (t.core c).reg r = (s.core c).reg r)) ∧
    (p % 2 = 0 → Answers (.dspLdh c d a 0 mc imm 0) s (fun t => (t.core c).ld = [(d, (s.mgetH p).signExtend 32)] ∧ ∀ r, (t.core c).reg r = (s.core c).reg r)) ∧
    (p % 2 = 0 → Answers (.dspLdhu c d a 0 mc imm 0) s (fun t => (t.core c).ld = [(d, (s.mgetH p).zeroExtend 32)] ∧ ∀ r, (t.core c).reg r = (s.core c).reg r)) ∧
    (p % 8 = 0 → Answers (.dspLdd c d a 0 mc imm 0) s (fun t => (t.core c).ld = [(d / 2 * 2, s.mgetW p), (d / 2 * 2 + 1, s.mgetW (p + 4))])) ∧
    (p % 4 = 0 → Answers (.dspStw c d a 0 mc imm) s (fun t => t.mgetW p = (s.core c).reg d ∧ (∀ q, q < p ∨ p + 4 ≤ q → t.mget q = s.mget q) ∧
      (∀ r, (t.core c).reg r = (s.core c).reg r) ∧ { t with mem := s.mem, cores := s.cores, lines := s.lines } = s)) ∧
    (p % 2 = 0 → Answers (.dspSth c d a 0 mc imm) s (fun t => t.mgetH p = ((s.core c).reg d).extractLsb' 0 16 ∧ (∀ q, q < p ∨ p + 2 ≤ q → t.mget q = s.mget q) ∧
      (∀ r, (t.core c).reg r = (s.core c).reg r) ∧ { t with mem := s.mem, cores := s.cores, lines := s.lines } = s)) ∧
    (p % 8 = 0 → Answers (.dspStd c d a 0 mc imm) s (fun t => t.mgetW p = (s.core c).reg (d / 2 * 2) ∧ t.mgetW (p + 4) = (s.core c).reg (d / 2 * 2 + 1) ∧
      (∀ q, q < p ∨ p + 8 ≤ q → t.mget q = s.mget q) ∧ { t with mem := s.mem, cores := s.cores, lines := s.lines } = s)) ∧
    (p % 4 ≠ 0 → (s.core c).inExc = false → Answers (.dspLdw c d a 0 mc imm 0) s (State.coreEntered c 1 s) ∧ Answers (.dspStw c d a 0 mc imm) s (State.coreEntered c 1 s)) ∧
    (p % 4 = 0 → (s.core c).inExc = false → Answers (.dspLdw c d a 0 mc imm 2) s (fun t => ((t.core c).csrGet 2).toNat % 64 = 2 ∧ t.f (Fld.DSP_ECCADDR_ADDR c) = p % 2 ^ (Fld.DSP_ECCADDR_ADDR c).w ∧
      (t.core c).inExc = true))) ∧
  (∀ (c d a mc p : Nat) (imm : BitVec 10) (s : State), s.coreFree c = true → ((s.core c).reg a).toNat = p → coreBase c + 0x40000 ≤ p → p + 4 ≤ coreBase c + 0x80000 → p % 4 = 0 →
    Answers (.dspLdw c d a 1 mc imm 0) s (fun t => (t.core c).ld = [(d, s.mgetW p)] ∧ (t.core c).reg a = (s.core c).reg a + imm.signExtend 32)) ∧
  (∀ (c d : Nat) (v : Word) (s : State), c < 2 → s.frozen (1 + c) = false → (s.core c).mode = 1 → (s.core c).br = none → (s.core c).rep = none → (s.core c).loops = [] →
    (s.core c).cw = [] → (s.core c).ld = [(d, v)] → Answers (.dspNop c) s (State.coreWrote c d v s))

/-- Branches, jumps and RTI (R341), SYS (R339, R346, R347) and RPT (R342). A branch goes to its target after two slots, and an untaken one goes on; CALL and JALR
write G31; RTI returns to EPC; a CSRW takes effect after the next instruction; an unlisted CSR is ILLEGAL; TRAP enters its vector; REPEAT and LOOP set up their
counts. REPEAT and LOOP take a register's count too, and skip their body at 0. -/
def Obligations.DspControl : Prop :=
  (∀ (c a : Nat) (off : BitVec 19) (s : State), s.coreFree c = true →
    let x := s.core c
    let v := (x.reg a).toInt
    let next := (x.pc + 4) % 2 ^ 18
    let target := (((x.pc : Int) + 4 * off.toInt) % 2 ^ 18).toNat % 2 ^ 18 / 4 * 4
    let beyond := (x.pc + 12) % 2 ^ 18 / 4 * 4
    let goes (p : Prop) (t : State) : Prop := State.coreAt c next s t ∧ (t.core c).g = x.g ∧
      (p → (t.core c).br = some { target := target, left := 2 }) ∧ (¬p → (t.core c).br = some { target := beyond, left := 2 })
    Answers (.dspBra c a off) s (goes True) ∧ Answers (.dspBeq c a off) s (goes (v = 0)) ∧ Answers (.dspBne c a off) s (goes (v ≠ 0)) ∧
    Answers (.dspBlt c a off) s (goes (v < 0)) ∧ Answers (.dspBge c a off) s (goes (0 ≤ v)) ∧ Answers (.dspBgt c a off) s (goes (0 < v)) ∧
    Answers (.dspBle c a off) s (goes (v ≤ 0)) ∧
    Answers (.dspCall c off) s (fun t => State.coreAt c next s t ∧ (t.core c).br = some { target := target, left := 2 } ∧ (t.core c).reg 31 = BitVec.ofNat 32 (x.pc + 12)) ∧
    Answers (.dspJr c a) s (fun t => State.coreAt c next s t ∧ (t.core c).br = some { target := (x.reg a).toNat % 2 ^ 18 / 4 * 4, left := 2 } ∧ (t.core c).g = x.g) ∧
    Answers (.dspJalr c a) s (fun t => State.coreAt c next s t ∧ (t.core c).br = some { target := (x.reg a).toNat % 2 ^ 18 / 4 * 4, left := 2 } ∧
      (t.core c).reg 31 = BitVec.ofNat 32 (x.pc + 12)) ∧
    Answers (.dspRti c) s (fun t => State.coreAt c ((x.csrGet 1).toNat % 2 ^ 18 / 4 * 4) s t ∧ (t.core c).br = none ∧ (t.core c).ie = (x.csrGet 2).getLsbD 7 ∧
      (t.core c).frac = (x.csrGet 2).getLsbD 8 ∧ (t.core c).inExc = false ∧ (t.core c).g = x.g)) ∧
  (∀ (c : Nat) (b : BrSt) (s : State), c < 2 → s.frozen (1 + c) = false → (s.core c).mode = 1 → (s.core c).br = some b → (s.core c).rep = none → (s.core c).loops = [] →
    (s.core c).ld = [] → (s.core c).cw = [] →
    Answers (.dspNop c) s (fun t => if b.left ≤ 1 then State.coreAt c b.target s t ∧ (t.core c).br = none
      else State.coreAt c (((s.core c).pc + 4) % 2 ^ 18) s t ∧ (t.core c).br = some { target := b.target, left := b.left - 1 })) ∧
  (∀ (c g n : Nat) (s : State), s.coreFree c = true →
    let x := s.core c
    Answers (.dspNop c) s (fun t => State.coreSeq c s t ∧ (t.core c).g = x.g ∧ (t.core c).acc = x.acc ∧ (t.core c).csr = x.csr) ∧
    Answers (.dspSync c) s (fun t => State.coreSeq c s t ∧ (t.core c).g = x.g ∧ (t.core c).csr = x.csr) ∧
    Answers (.dspIdle c) s (fun t => (t.core c).mode = 2 ∧ (t.core c).pc = (x.pc + 4) % 2 ^ 18 ∧ (t.core c).g = x.g) ∧
    Answers (.dspEi c) s (fun t => State.coreSeq c s t ∧ (t.core c).ie = true ∧ (t.core c).ei = true ∧ (t.core c).g = x.g) ∧
    Answers (.dspDi c) s (fun t => State.coreSeq c s t ∧ (t.core c).ie = false ∧ (t.core c).g = x.g) ∧
    (csrListed n = true → Answers (.dspCsrr c g n) s (State.coreWrote c g (s.csrRead c n) s)) ∧
    (csrDelayed n = true → Answers (.dspCsrw c g n) s (fun t => (t.core c).cw = [(n, x.reg g)] ∧ (t.core c).csr = x.csr ∧ (t.core c).g = x.g ∧
      State.coreAt c ((x.pc + 4) % 2 ^ 18) s t)) ∧
    (csrListed n = false → x.inExc = false → Answers (.dspCsrr c g n) s (State.coreEntered c 0 s) ∧ Answers (.dspCsrw c g n) s (State.coreEntered c 0 s)) ∧
    (x.inExc = false → Answers (.dspTrap c) s (fun t => State.coreEntered c 3 s t ∧ (t.core c).inExc = true)) ∧
    (Answers (.dspRepeat c none n) s (fun t => (t.core c).rep = some (n % 65536 + 1) ∧ State.coreAt c ((x.pc + 4) % 2 ^ 18) s t ∧ (t.core c).g = x.g)) ∧
    (Answers (.dspLoop c none g n) s (fun t => State.coreAt c ((x.pc + 4) % 2 ^ 18) s t ∧ (t.core c).g = x.g ∧
      (t.core c).loops = [{ first := (x.pc + 4) % 2 ^ 18, last := (x.pc + 4 * (g % 2048 + 1)) % 2 ^ 18, left := n % 1024 }]))) ∧
  (∀ (c : Nat) (v : Word) (s : State), c < 2 → s.frozen (1 + c) = false → (s.core c).mode = 1 → (s.core c).br = none → (s.core c).rep = none → (s.core c).loops = [] →
    (s.core c).ld = [] → (s.core c).cw = [(4, v)] → Answers (.dspNop c) s (fun t => (t.core c).csrGet 4 = v ∧ (t.core c).cw = [])) ∧
  (∀ (c n : Nat) (s : State), c < 2 → s.frozen (1 + c) = false → (s.core c).mode = 1 → (s.core c).br = none → (s.core c).rep = some (n + 1) → (s.core c).loops = [] →
    (s.core c).ld = [] → (s.core c).cw = [] →
    Answers (.dspNop c) s (fun t => if n = 0 then State.coreAt c (((s.core c).pc + 4) % 2 ^ 18) s t ∧ (t.core c).rep = none
      else State.coreAt c (s.core c).pc s t ∧ (t.core c).rep = some n)) ∧
  (∀ (c : Nat) (l : LoopSt) (s : State), c < 2 → s.frozen (1 + c) = false → (s.core c).mode = 1 → (s.core c).br = none → (s.core c).rep = none → (s.core c).loops = [l] →
    (s.core c).ld = [] → (s.core c).cw = [] → l.last = (s.core c).pc →
    Answers (.dspNop c) s (fun t => if l.left = 0 then State.coreAt c (((s.core c).pc + 4) % 2 ^ 18) s t ∧ (t.core c).loops = []
      else State.coreAt c l.first s t ∧ (t.core c).loops = [{ first := l.first, last := l.last, left := l.left - 1 }])) ∧
  (∀ (c g n m : Nat) (s : State), s.coreFree c = true →
    let x := s.core c
    let k := min 65536 (x.reg g).toNat
    Answers (.dspRepeat c (some g) n) s (fun t => (if k = 0 then State.coreAt c ((x.pc + 8) % 2 ^ 18) s t ∧ (t.core c).rep = none
      else State.coreAt c ((x.pc + 4) % 2 ^ 18) s t ∧ (t.core c).rep = some k) ∧ (t.core c).g = x.g) ∧
    Answers (.dspLoop c (some g) m n) s (fun t => (if k = 0 then State.coreAt c ((x.pc + 4 * (m % 2048 + 1) + 4) % 2 ^ 18) s t ∧ (t.core c).loops = []
      else State.coreAt c ((x.pc + 4) % 2 ^ 18) s t ∧
        (t.core c).loops = [{ first := (x.pc + 4) % 2 ^ 18, last := (x.pc + 4 * (m % 2048 + 1)) % 2 ^ 18, left := k - 1 }]) ∧ (t.core c).g = x.g))

/-- Around the cores and on the bus (R19, R345-R351, R374). An enabled pending line is taken at a plain boundary; an undecodable word is ILLEGAL; a start leaves every register at
its reset value; WDTKICK restarts or expires the watchdog; a MBOX7 write sets line 3; a timer match sets line 2; a finished tapped column sets line 0; GO starts a DMA engine, whose
end copies the word and sets DONE, but not in PARK (R13); a write that a rule forbids freezes its master and stores nothing, and one that none forbids is made. -/
def Obligations.CoresAndBus : Prop :=
  (∀ (c i : Nat) (s : State), s.coreFree c = true → (s.core c).ei = false → (s.core c).ie = true → s.intLine c = some i → Answers (.dspInterruptEntry c) s (State.coreEntered c (4 + i) s)) ∧
  (∀ (c : Nat) (s : State), s.coreFree c = true → s.intLine c = none → Answers (.dspInterruptEntry c) s (fun t => t = s)) ∧
  (∀ (c : Nat) (w : Word) (s : State), s.coreFree c = true → (s.core c).inExc = false → legalWord w = false → Answers (.dspException c (some w)) s (State.coreEntered c 0 s)) ∧
  (∀ (c : Nat) (w : Word) (s : State), s.coreFree c = true → (s.core c).handling = true → legalWord w = false →
    Answers (.dspException c (some w)) s (fun t => (t.core c).mode = 4 ∧ t.causeSet (Cause.DSP_HALT c) = true)) ∧
  (∀ (c cause : Nat) (s : State), c < 2 → cause < 2 → s.coreLoaded c = true → (s.core c).mode = 0 → s.dev ≠ .boot → s.rst.l2.contains (.dsp c) = false →
    Answers (.dspCoreStart c cause) s (fun t => (t.core c).mode = 1 ∧ (t.core c).pc = 0 ∧ (∀ r, (t.core c).reg r = 0) ∧ (∀ n, (t.core c).a n = 0) ∧
      (t.core c).csrGet 0x20 = BitVec.ofNat 32 (c + 256 * cause) ∧ (t.core c).csrGet 0 = 0 ∧ t.f (Fld.DSP_STAT_START c) = cause)) ∧
  (∀ (c : Nat) (v : Word) (s : State), s.wdtCounts c = false → Answers (.wdtkick c v) s (fun t => t = s)) ∧
  (∀ (c : Nat) (s : State), c < 2 → s.wdtCounts c = true →
    Answers (.wdtkick c 0xA5C3) s (fun t => t.f (Fld.DSP_WDTCNT_LEFT c) = max 1 (s.f (Fld.DSP_WDT_TO c)) ∧ State.regsBut [(Fld.DSP_WDTCNT_LEFT c).addr] s t ∧ { t with regs := s.regs } = s)) ∧
  (∀ (c : Nat) (v : Word) (s : State), c < 2 → s.wdtCounts c = true → v ≠ 0xA5C3 → Answers (.wdtkick c v) s (fun t => t.rst.raised.testBit (3 + c) = true)) ∧
  (∀ (c : Nat) (v : Word) (s : State), c < 2 →
    Answers (.mbox7Write c v) s (fun t => t.rget (Reg.DSP_MBOX c 7) = v ∧ (SMap.get (fun _ => 0) t.lines c).testBit 3 = true ∧ State.regsBut [Reg.DSP_MBOX c 7] s t ∧
      { t with regs := s.regs, lines := s.lines } = s)) ∧
  (∀ (c : Nat) (s : State), c < 2 → s.frozen (1 + c) = false → (s.core c).mode = 1 → (s.core c).cycles < (s.core c).tcmp →
    Answers (.timerCompareMatch c) s (fun t => (SMap.get (fun _ => 0) t.lines c).testBit 2 = true ∧ { t with cores := s.cores, lines := s.lines } = s)) ∧
  (∀ (c : Nat) (x : TapCol) (r : List TapCol) (s : State), c < 2 → (s.core c).tap = x :: r → s.tapReady x = true →
    Answers (.tapColumnDone c) s (fun t => (t.core c).tap = r ∧ (SMap.get (fun _ => 0) t.lines c).testBit 0 = true)) ∧
  (∀ (c : Nat) (s : State), (s.core c).tap = [] → Answers (.tapColumnDone c) s (fun t => t = s)) ∧
  (∀ (n : Nat) (s : State), n < 4 → s.b (Fld.DMA_CTRL_BUSY n) = false →
    Answers (.dmaGo n) s (fun t => t.b (Fld.DMA_CTRL_BUSY n) = true ∧ (∃ j : DmaSt, SMap.get (fun _ => (none : Option DmaSt)) t.dma n = some j ∧
      j.src = s.f (Fld.DMA_SRC_ADDR n) ∧ j.dst = s.f (Fld.DMA_DST_ADDR n) ∧ j.n = s.f (Fld.DMA_LEN_LEN n) + 1) ∧ State.regsBut [Reg.DMA_CTRL n] s t ∧
      { t with regs := s.regs, dma := s.dma } = s)) ∧
  (∀ (n : Nat) (s : State), s.b (Fld.DMA_CTRL_BUSY n) = true → Answers (.dmaGo n) s (fun t => t = s)) ∧
  (∀ (n p q : Nat) (s : State), n < 4 → SMap.get (fun _ => (none : Option DmaSt)) s.dma n = some { src := p, dst := q, n := 1, srcInc := true, dstInc := true } →
    s.frozen (3 + n) = false → s.dev ≠ .park → p % 4 = 0 → q % 4 = 0 → dspMemAt p = true → dspMemAt q = true → s.breaks (3 + n) p false = 0 → s.breaks (3 + n) q true = 0 →
    Answers (.dmaDone n []) s (fun t => t.mgetW q = s.mgetW p ∧ (∀ a, a < q ∨ q + 4 ≤ a → t.mget a = s.mget a) ∧ t.b (Fld.DMA_CTRL_BUSY n) = false ∧
      t.b (Fld.DMA_CTRL_DONE n) = true)) ∧
  (∀ (m a : Nat) (v : Word) (s : State), m = 0 ∨ 8 < m ∨ s.dev = .boot ∨ s.dev = .park → Answers (.registerWrite m a v) s (fun t => t = s)) ∧
  (∀ (m a : Nat) (v : Word) (s : State), 1 ≤ m → m ≤ 8 → m ≠ 7 → s.dev ≠ .boot → s.dev ≠ .park → s.frozen m = false → s.breaks m a true ≠ 0 →
    Answers (.registerWrite m a v) s (fun t => t.frozen m = true ∧ t.rget (Reg.BUS_FRZADDR (m - 1)) = BitVec.ofNat 32 a ∧ t.mem = s.mem ∧ t.rst.raised.testBit (frzSource m) = true)) ∧
  (∀ (m a : Nat) (v : Word) (s : State), 1 ≤ m → m ≤ 8 → s.dev ≠ .boot → s.dev ≠ .park → s.frozen m = false → s.breaks m a true = 0 → dspMemAt a = true → a % 4 = 0 →
    Answers (.registerWrite m a v) s (fun t => t.mgetW a = v ∧ (∀ q, q < a ∨ a + 4 ≤ q → t.mget q = s.mget q) ∧ { t with mem := s.mem } = s)) ∧
  (∀ (m a : Nat) (v : Word) (r : RegRow) (s : State), 1 ≤ m → m ≤ 8 → s.dev ≠ .boot → s.dev ≠ .park → s.frozen m = false → s.breaks m a true = 0 → a / 0x10000 = 8 → a % 4 = 0 →
    findReg a = some r → Answers (.registerWrite m a v) s (fun t => t.rget a = r.merge (s.rget a) v ∧ State.regsBut [a] s t ∧ { t with regs := s.regs } = s)) ∧
  (∀ (n : Nat) (errs : List Nat) (j : DmaSt) (s : State), n < 4 → SMap.get (fun _ => (none : Option DmaSt)) s.dma n = some j → s.frozen (3 + n) = false → s.dev ≠ .park →
    (∀ i, i < j.n → s.breaks (3 + n) (dmaAddr j.src j.srcInc i) false = 0 ∧ s.breaks (3 + n) (dmaAddr j.dst j.dstInc i) true = 0) →
    Answers (.dmaDone n errs) s (fun t => t.b (Fld.DMA_CTRL_BUSY n) = false ∧ t.b (Fld.DMA_CTRL_DONE n) = true ∧ SMap.get (fun _ => (none : Option DmaSt)) t.dma n = none)) ∧
  (∀ (n : Nat) (errs : List Nat) (s : State), s.dev = .park ∨ s.frozen (3 + n) = true → Answers (.dmaDone n errs) s (fun t => t = s)) ∧
  (∀ (m a : Nat) (v : Word) (s : State), 1 ≤ m → m ≤ 8 → s.dev ≠ .boot → s.dev ≠ .park → s.frozen m = false → s.breaks m a true = 0 →
    Answers (.registerWrite m a v) s (fun t => t.frozen m = false ∧ t.now = s.now))

/-- R376: reads of the field map follow the windows; a write by a master other than the writers of R18 freezes that master whatever its windows say, and stores nothing; the LOADER
and a Guard change write it. -/
def Obligations.FieldMapWriters : Prop :=
  (∀ (m a : Nat) (s : State), 1 ≤ m → m ≤ 8 → fieldMapAt a = true → s.frozen m = false → ((s.busRead m a).2.isSome = true ↔ s.windowOk m a false = true)) ∧
  (∀ (m a : Nat) (v : Word) (s : State), 1 ≤ m → m ≤ 8 → fieldMapAt a = true → s.frozen m = false →
    (s.busWrite m a v).frozen m = true ∧ (s.busWrite m a v).mem = s.mem) ∧
  (∀ (a : Nat) (v : Word) (s : State), fieldMapAt a = true → a % 4 = 0 → (s.changeWord a v).mgetW a = v ∧ (s.loaderWrite a v).mgetW a = v)

/-! ## Device states (chapter 14) -/

/-- BOOT lasts exactly until the start-up is done, and every step keeps it so. -/
def Obligations.BootKept : Prop := ∀ s t : State, s.bootOk → step s = .next t → t.bootOk

/-- The device state changes only by the transitions of Table 14.7 (R296, R298), from every state in which BOOT lasts exactly until the start-up is done: any state to BOOT by a reset
of level L0 or L1; BOOT to IDLE by commit alone, or to SAFE; IDLE to SCAN with a start asked for, the calibration ended and the mirror locked; SCAN to IDLE with the end asked for
(PARK passes through IDLE: DESIGN CHOICE, assumption log 31); IDLE to PARK at the end of the pin test; IDLE or SCAN to SERVICE with SEAL_N high; SERVICE to IDLE; PARK to IDLE, or to SAFE
with a cause; IDLE, SCAN or SERVICE to SAFE. No command leaves SAFE but a reset. -/
def Obligations.StateTransitions : Prop :=
  ∀ (c : Instr) (s t : State), s.bootOk → exec c s = .next t → t.dev ≠ s.dev →
    (t.dev = .boot ∧ (c = .resetAssert ∨ ∃ v, c = .por v)) ∨
    (s.dev = .boot ∧ t.dev = .idle ∧ c = .loaderCommit) ∨
    (s.dev = .boot ∧ t.dev = .safe) ∨
    (s.dev = .idle ∧ t.dev = .scan ∧ (∃ x, c = .scanEntry x) ∧ (s.b Fld.AMP_STATE_PEND_START = true ∨ s.rst.autostart = true) ∧ s.b Fld.RX_CALSTAT_BUSY = false ∧
      s.b Fld.SCAN_STAT_LOCKED = true) ∨
    (s.dev = .scan ∧ t.dev = .idle ∧ s.scan.leave ≠ 0) ∨
    (s.dev = .idle ∧ t.dev = .park ∧ s.pins.parkTest = true) ∨
    ((s.dev = .idle ∨ s.dev = .scan) ∧ t.dev = .service ∧ s.pins.sealedLow = false) ∨
    (s.dev = .service ∧ t.dev = .idle) ∨
    (s.dev = .park ∧ (t.dev = .idle ∨ t.dev = .safe) ∧ c = .parkExit) ∨
    ((s.dev = .idle ∨ s.dev = .scan ∨ s.dev = .service) ∧ t.dev = .safe)
end

