-- ==== Sys2Proof/Laws/Sparse.lean ====
section
/-!
SUPPORT. The laws of sparse maps: read after write, every other key unchanged, and the canonical form kept.
-/
namespace Sys2Proof.Machine

theorem SMap.get_erase_ne {β : Type} (d : Nat → β) (m : SMap β) (k j : Nat) (h : j ≠ k) :
    SMap.get d (SMap.erase m k) j = SMap.get d m j := by
  induction m with
  | nil => rfl
  | cons p m ih =>
    obtain ⟨k', v⟩ := p
    by_cases hk : k' = k
    · subst hk; simp [SMap.erase, SMap.get, ih, Ne.symm h]
    · by_cases hj : k' = j
      · subst hj; simp [SMap.erase, SMap.get, hk]
      · simp [SMap.erase, SMap.get, hk, hj, ih]

theorem SMap.get_erase_self {β : Type} (d : Nat → β) (m : SMap β) (k : Nat) :
    SMap.get d (SMap.erase m k) k = d k := by
  induction m with
  | nil => rfl
  | cons p m ih =>
    obtain ⟨k', v⟩ := p
    by_cases hk : k' = k
    · simp [SMap.erase, hk, ih]
    · simp [SMap.erase, SMap.get, hk, ih]

/-- No entry of the map has key `k`. -/
def SMap.free {β : Type} (m : SMap β) (k : Nat) : Prop := ∀ p ∈ m, p.1 ≠ k

theorem SMap.free_erase {β : Type} (m : SMap β) (k : Nat) : SMap.free (SMap.erase m k) k := by
  induction m with
  | nil => intro p hp; cases hp
  | cons p m ih =>
    obtain ⟨k', v⟩ := p
    by_cases hk : k' = k
    · simpa [SMap.erase, hk] using ih
    · intro q hq
      simp only [SMap.erase, hk, if_false] at hq
      rcases List.mem_cons.1 hq with rfl | h
      · exact hk
      · exact ih q h

theorem SMap.get_insert_self {β : Type} (d : Nat → β) (m : SMap β) (k : Nat) (v : β) (hf : SMap.free m k) :
    SMap.get d (SMap.insert m k v) k = v := by
  induction m with
  | nil => simp [SMap.insert, SMap.get]
  | cons p m ih =>
    obtain ⟨k', v'⟩ := p
    have h1 : k' ≠ k := hf (k', v') (by simp)
    have h2 : SMap.free m k := fun q hq => hf q (List.mem_cons_of_mem _ hq)
    by_cases hk : k < k'
    · simp [SMap.insert, SMap.get, hk]
    · simp [SMap.insert, SMap.get, hk, h1, ih h2]

theorem SMap.get_insert_ne {β : Type} (d : Nat → β) (m : SMap β) (k j : Nat) (v : β) (h : j ≠ k) :
    SMap.get d (SMap.insert m k v) j = SMap.get d m j := by
  induction m with
  | nil => simp [SMap.insert, SMap.get, Ne.symm h]
  | cons p m ih =>
    obtain ⟨k', v'⟩ := p
    by_cases hk : k < k'
    · simp [SMap.insert, SMap.get, hk, Ne.symm h]
    · by_cases hj : k' = j
      · subst hj; simp [SMap.insert, SMap.get, hk]
      · simp [SMap.insert, SMap.get, hk, hj, ih]

/-- A read after a write to the same key gives the value written. -/
@[simp] theorem SMap.get_set_self {β : Type} [DecidableEq β] (d : Nat → β) (m : SMap β) (k : Nat) (v : β) :
    SMap.get d (SMap.set d m k v) k = v := by
  unfold SMap.set
  split
  · next h => rw [SMap.get_erase_self, h]
  · exact SMap.get_insert_self d _ k v (SMap.free_erase m k)

/-- A write leaves every other key alone. -/
theorem SMap.get_set_ne {β : Type} [DecidableEq β] (d : Nat → β) (m : SMap β) (k j : Nat) (v : β) (h : j ≠ k) :
    SMap.get d (SMap.set d m k v) j = SMap.get d m j := by
  unfold SMap.set
  split
  · exact SMap.get_erase_ne d m k j h
  · rw [SMap.get_insert_ne d _ k j v h, SMap.get_erase_ne d m k j h]

theorem SMap.wfFrom_mono {β : Type} [DecidableEq β] (d : Nat → β) (m : SMap β) (a b : Nat) (h : a ≤ b)
    (hw : SMap.wfFrom d (some b) m = true) : SMap.wfFrom d (some a) m = true := by
  cases m with
  | nil => rfl
  | cons p m =>
    obtain ⟨k, v⟩ := p
    simp only [SMap.wfFrom, Bool.and_eq_true, decide_eq_true_eq] at hw ⊢
    exact ⟨⟨by omega, hw.1.2⟩, hw.2⟩

theorem SMap.wfFrom_none {β : Type} [DecidableEq β] (d : Nat → β) (m : SMap β) (b : Nat)
    (hw : SMap.wfFrom d (some b) m = true) : SMap.wfFrom d none m = true := by
  cases m with
  | nil => rfl
  | cons p m =>
    obtain ⟨k, v⟩ := p
    simp only [SMap.wfFrom, Bool.and_eq_true, decide_eq_true_eq] at hw ⊢
    exact ⟨⟨trivial, hw.1.2⟩, hw.2⟩

theorem SMap.wfFrom_erase {β : Type} [DecidableEq β] (d : Nat → β) (m : SMap β) (k : Nat) (lo : Option Nat)
    (hw : SMap.wfFrom d lo m = true) : SMap.wfFrom d lo (SMap.erase m k) = true := by
  induction m generalizing lo with
  | nil => rfl
  | cons p m ih =>
    obtain ⟨k', v⟩ := p
    simp only [SMap.wfFrom, Bool.and_eq_true] at hw
    by_cases hk : k' = k
    · simp only [SMap.erase, hk, if_true]
      apply ih
      cases lo with
      | none => exact SMap.wfFrom_none d m k' hw.2
      | some l =>
        have h1 := hw.1.1
        simp only [decide_eq_true_eq] at h1
        exact SMap.wfFrom_mono d m l k' (by omega) hw.2
    · simp only [SMap.erase, hk, if_false, SMap.wfFrom, Bool.and_eq_true]
      exact ⟨hw.1, ih _ hw.2⟩

theorem SMap.wfFrom_insert {β : Type} [DecidableEq β] (d : Nat → β) (m : SMap β) (k : Nat) (v : β) (lo : Option Nat)
    (hf : SMap.free m k) (hv : v ≠ d k) (hlo : ∀ l, lo = some l → l < k)
    (hw : SMap.wfFrom d lo m = true) : SMap.wfFrom d lo (SMap.insert m k v) = true := by
  induction m generalizing lo with
  | nil =>
    cases lo with
    | none => simp [SMap.insert, SMap.wfFrom, hv]
    | some l => simp [SMap.insert, SMap.wfFrom, hv, hlo l rfl]
  | cons p m ih =>
    obtain ⟨k', v'⟩ := p
    have hne : k' ≠ k := hf (k', v') (by simp)
    simp only [SMap.wfFrom, Bool.and_eq_true] at hw
    by_cases hk : k < k'
    · have hw2 : SMap.wfFrom d (some k) ((k', v') :: m) = true := by
        simp only [SMap.wfFrom, Bool.and_eq_true, decide_eq_true_eq]
        exact ⟨⟨hk, hw.1.2⟩, hw.2⟩
      cases lo with
      | none => simp only [SMap.insert, hk, if_true, SMap.wfFrom, Bool.and_eq_true] at hw2 ⊢; simp [hv, hw2]
      | some l =>
        have := hlo l rfl
        simp only [SMap.insert, hk, if_true, SMap.wfFrom, Bool.and_eq_true] at hw2 ⊢; simp [hv, this, hw2]
    · simp only [SMap.insert, hk, if_false, SMap.wfFrom, Bool.and_eq_true]
      refine ⟨hw.1, ih (some k') (fun q hq => hf q (List.mem_cons_of_mem _ hq)) ?_ hw.2⟩
      intro l hl; cases hl; omega

/-- Every write keeps the canonical form. -/
theorem SMap.wf_set {β : Type} [DecidableEq β] (d : Nat → β) (m : SMap β) (k : Nat) (v : β)
    (hw : SMap.wf d m = true) : SMap.wf d (SMap.set d m k v) = true := by
  unfold SMap.set SMap.wf at *
  split
  · exact SMap.wfFrom_erase d m k none hw
  · next h => exact SMap.wfFrom_insert d _ k v none (SMap.free_erase m k) h (by simp) (SMap.wfFrom_erase d m k none hw)

theorem SMap.wf_erase {β : Type} [DecidableEq β] (d : Nat → β) (m : SMap β) (k : Nat)
    (hw : SMap.wf d m = true) : SMap.wf d (SMap.erase m k) = true := SMap.wfFrom_erase d m k none hw

end Sys2Proof.Machine
end

