-- ==== Sys2Proof/Laws/Fields.lean ====
section
/-!
SUPPORT. The laws of registers and fields: a read after a write of the same field, of a field beside it, and of another register.
-/
namespace Sys2Proof.Machine

/-! ## Fields of a word -/

/-- The field lies in the 32 bits of its register. -/
def Fld.fits (F : Fld) : Bool := decide (F.lo + F.w ≤ 32)

/-- Two fields have no bit in common. -/
def Fld.apart (F G : Fld) : Bool := decide (F.addr ≠ G.addr) || decide (F.lo + F.w ≤ G.lo) || decide (G.lo + G.w ≤ F.lo)

theorem Fld.put_toNat (F : Fld) (v : Word) (x : Nat) (h : F.fits = true) :
    (F.put v x).toNat = 2 ^ F.lo * (2 ^ F.w * (v.toNat / 2 ^ F.lo / 2 ^ F.w) + x % 2 ^ F.w) + v.toNat % 2 ^ F.lo := by
  have hf : F.lo + F.w ≤ 32 := by simpa [Fld.fits] using h
  have h1 : v.toNat = 2 ^ F.lo * (v.toNat / 2 ^ F.lo) + v.toNat % 2 ^ F.lo := (Nat.div_add_mod _ _).symm
  have h2 : v.toNat / 2 ^ F.lo = 2 ^ F.w * (v.toNat / 2 ^ F.lo / 2 ^ F.w) + v.toNat / 2 ^ F.lo % 2 ^ F.w := (Nat.div_add_mod _ _).symm
  have h3 : v.toNat - Fld.of F v * 2 ^ F.lo + x % 2 ^ F.w * 2 ^ F.lo
      = 2 ^ F.lo * (2 ^ F.w * (v.toNat / 2 ^ F.lo / 2 ^ F.w) + x % 2 ^ F.w) + v.toNat % 2 ^ F.lo := by
    have : v.toNat = 2 ^ F.lo * (2 ^ F.w * (v.toNat / 2 ^ F.lo / 2 ^ F.w)) + (Fld.of F v * 2 ^ F.lo + v.toNat % 2 ^ F.lo) := by
      conv_lhs => rw [h1, h2]
      unfold Fld.of
      ring
    rw [Nat.mul_add]
    have h4 : 2 ^ F.lo * (x % 2 ^ F.w) = x % 2 ^ F.w * 2 ^ F.lo := Nat.mul_comm _ _
    omega
  have h5 : v.toNat / 2 ^ F.lo / 2 ^ F.w < 2 ^ (32 - (F.lo + F.w)) := by
    rw [Nat.div_div_eq_div_mul, ← Nat.pow_add]
    apply Nat.div_lt_of_lt_mul
    rw [← Nat.pow_add]
    have : F.lo + F.w + (32 - (F.lo + F.w)) = 32 := by omega
    rw [this]; exact v.isLt
  have h6 : x % 2 ^ F.w < 2 ^ F.w := Nat.mod_lt _ (Nat.two_pow_pos _)
  have h7 : v.toNat % 2 ^ F.lo < 2 ^ F.lo := Nat.mod_lt _ (Nat.two_pow_pos _)
  unfold Fld.put
  rw [BitVec.toNat_ofNat, h3]
  apply Nat.mod_eq_of_lt
  calc 2 ^ F.lo * (2 ^ F.w * (v.toNat / 2 ^ F.lo / 2 ^ F.w) + x % 2 ^ F.w) + v.toNat % 2 ^ F.lo
      < 2 ^ F.lo * (2 ^ F.w * (v.toNat / 2 ^ F.lo / 2 ^ F.w) + x % 2 ^ F.w) + 2 ^ F.lo * 1 := by omega
    _ = 2 ^ F.lo * (2 ^ F.w * (v.toNat / 2 ^ F.lo / 2 ^ F.w) + x % 2 ^ F.w + 1) := by rw [← Nat.mul_add]
    _ ≤ 2 ^ F.lo * (2 ^ F.w * (v.toNat / 2 ^ F.lo / 2 ^ F.w) + 2 ^ F.w) := Nat.mul_le_mul_left _ (by omega)
    _ = 2 ^ F.lo * 2 ^ F.w * (v.toNat / 2 ^ F.lo / 2 ^ F.w + 1) := by ring
    _ ≤ 2 ^ F.lo * 2 ^ F.w * 2 ^ (32 - (F.lo + F.w)) := Nat.mul_le_mul_left _ h5
    _ = 2 ^ 32 := by rw [← Nat.pow_add, ← Nat.pow_add]; congr 1; omega

theorem Fld.testBit_of (F : Fld) (v : Word) (j : Nat) :
    (F.of v).testBit j = (decide (j < F.w) && v.toNat.testBit (F.lo + j)) := by
  unfold Fld.of
  rw [Nat.testBit_mod_two_pow, Nat.testBit_div_two_pow, Nat.add_comm]

theorem Fld.testBit_put (F : Fld) (v : Word) (x j : Nat) (h : F.fits = true) :
    (F.put v x).toNat.testBit j
      = if j < F.lo then v.toNat.testBit j else if j < F.lo + F.w then x.testBit (j - F.lo) else v.toNat.testBit j := by
  rw [Fld.put_toNat F v x h, Nat.testBit_two_pow_mul_add _ (Nat.mod_lt _ (Nat.two_pow_pos _))]
  by_cases h1 : j < F.lo
  · simp [h1]
  · rw [if_neg h1, if_neg h1, Nat.testBit_two_pow_mul_add _ (Nat.mod_lt _ (Nat.two_pow_pos _))]
    by_cases h2 : j < F.lo + F.w
    · have : j - F.lo < F.w := by omega
      simp [h2, this]
    · have h3 : ¬ j - F.lo < F.w := by omega
      rw [if_neg h2, if_neg h3, Nat.testBit_div_two_pow, Nat.testBit_div_two_pow]
      congr 1; omega

/-- A read after a write of the same field. -/
theorem Fld.of_put (F : Fld) (v : Word) (x : Nat) (h : F.fits = true) : F.of (F.put v x) = x % 2 ^ F.w := by
  apply Nat.eq_of_testBit_eq
  intro j
  rw [Fld.testBit_of, Fld.testBit_put F v x _ h, Nat.testBit_mod_two_pow]
  by_cases hj : j < F.w
  · have h1 : ¬ F.lo + j < F.lo := by omega
    have h2 : F.lo + j < F.lo + F.w := by omega
    simp [hj]
  · simp [hj]

/-- A write of a field leaves a field beside it alone. -/
theorem Fld.of_put_apart (F G : Fld) (v : Word) (x : Nat) (h : G.fits = true) (ha : F.lo + F.w ≤ G.lo ∨ G.lo + G.w ≤ F.lo) :
    F.of (G.put v x) = F.of v := by
  apply Nat.eq_of_testBit_eq
  intro j
  rw [Fld.testBit_of, Fld.testBit_of, Fld.testBit_put G v x _ h]
  by_cases hj : j < F.w
  · simp only [hj, decide_true, Bool.true_and]
    rcases ha with h1 | h1
    · rw [if_pos (by omega)]
    · rw [if_neg (by omega), if_neg (by omega)]
  · simp [hj]

theorem Fld.of_lt (F : Fld) (v : Word) : F.of v < 2 ^ F.w := Nat.mod_lt _ (Nat.two_pow_pos _)

/-! ## Registers -/

@[simp] theorem State.rget_rset_self (s : State) (a : Nat) (v : Word) : (s.rset a v).rget a = v := SMap.get_set_self _ _ _ _

theorem State.rget_rset_ne (s : State) (a b : Nat) (v : Word) (h : b ≠ a) : (s.rset a v).rget b = s.rget b := SMap.get_set_ne _ _ _ _ _ h

theorem State.rget_setF_ne (s : State) (F : Fld) (x a : Nat) (h : a ≠ F.addr) : (s.setF F x).rget a = s.rget a :=
  State.rget_rset_ne s F.addr a _ h

theorem State.f_lt (s : State) (F : Fld) : s.f F < 2 ^ F.w := Fld.of_lt F _

/-- A read after a write of the same field. -/
theorem State.f_setF_self (s : State) (F : Fld) (x : Nat) (h : F.fits = true) : (s.setF F x).f F = x % 2 ^ F.w := by
  unfold State.f State.setF
  rw [State.rget_rset_self, Fld.of_put F _ x h]

/-- A write of a field leaves every field apart from it alone. -/
theorem State.f_setF_apart (s : State) (F G : Fld) (x : Nat) (h : G.fits = true) (ha : F.apart G = true) : (s.setF G x).f F = s.f F := by
  unfold State.f State.setF
  by_cases hne : F.addr = G.addr
  · rw [hne, State.rget_rset_self]
    apply Fld.of_put_apart F G _ x h
    simp [Fld.apart, hne] at ha
    omega
  · rw [State.rget_rset_ne s G.addr F.addr _ hne]

theorem State.b_setF_apart (s : State) (F G : Fld) (x : Nat) (h : G.fits = true) (ha : F.apart G = true) : (s.setF G x).b F = s.b F := by
  unfold State.b; rw [State.f_setF_apart s F G x h ha]

/-- A read after a write of the same one-bit field. -/
theorem State.b_setB_self (s : State) (F : Fld) (p : Bool) (h : F.fits = true) (hw : F.w = 1) : (s.setB F p).b F = p := by
  unfold State.b State.setB
  rw [State.f_setF_self s F _ h, hw]
  cases p <;> rfl

theorem State.b_setF_one (s : State) (F : Fld) (h : F.fits = true) (hw : F.w = 1) : (s.setF F 1).b F = true :=
  State.b_setB_self s F true h hw

theorem State.b_setB_apart (s : State) (F G : Fld) (p : Bool) (h : G.fits = true) (ha : F.apart G = true) : (s.setB G p).b F = s.b F :=
  State.b_setF_apart s F G _ h ha

theorem State.f_setB_apart (s : State) (F G : Fld) (p : Bool) (h : G.fits = true) (ha : F.apart G = true) : (s.setB G p).f F = s.f F :=
  State.f_setF_apart s F G _ h ha

theorem State.f_incSat_self (s : State) (F : Fld) (n : Nat) (h : F.fits = true) : (s.incSat F n).f F = min (2 ^ F.w - 1) (s.f F + n) := by
  unfold State.incSat
  rw [State.f_setF_self s F _ h]
  apply Nat.mod_eq_of_lt
  have := Nat.two_pow_pos F.w
  omega

theorem State.f_incSat_apart (s : State) (F G : Fld) (n : Nat) (h : G.fits = true) (ha : F.apart G = true) : (s.incSat G n).f F = s.f F :=
  State.f_setF_apart s F G _ h ha

theorem State.b_incSat_apart (s : State) (F G : Fld) (n : Nat) (h : G.fits = true) (ha : F.apart G = true) : (s.incSat G n).b F = s.b F :=
  State.b_setF_apart s F G _ h ha

theorem State.f_incMod_self (s : State) (F : Fld) (n : Nat) (h : F.fits = true) : (s.incMod F n).f F = (s.f F + n) % 2 ^ F.w :=
  State.f_setF_self s F _ h

theorem State.f_incMod_apart (s : State) (F G : Fld) (n : Nat) (h : G.fits = true) (ha : F.apart G = true) : (s.incMod G n).f F = s.f F :=
  State.f_setF_apart s F G _ h ha

theorem State.b_incMod_apart (s : State) (F G : Fld) (n : Nat) (h : G.fits = true) (ha : F.apart G = true) : (s.incMod G n).b F = s.b F :=
  State.b_setF_apart s F G _ h ha

/-! ## Causes -/

/-- The field of a cause bit. -/
def Cause.fld (c : Cause) : Fld := ⟨causeReg c.blk c.bit, c.bit, 1⟩

/-- The event counter of a cause. -/
def Cause.cnt (c : Cause) : Fld := Fld.TOP_EVCNT_COUNT c.blk c.bit

/-- Raising a cause sets its bit (R355). -/
theorem State.b_raise_self (s : State) (c : Cause) (h : c.fld.fits = true) : (s.raise c).b c.fld = true :=
  State.b_setF_one _ c.fld h rfl

/-- Raising a cause counts it (R357). -/
theorem State.f_raise_cnt (s : State) (c : Cause) (h : c.fld.fits = true) (h2 : c.cnt.fits = true) (ha : c.cnt.apart c.fld = true) :
    (s.raise c).f c.cnt = min (2 ^ c.cnt.w - 1) (s.f c.cnt + 1) := by
  have : s.raise c = (s.incSat c.cnt 1).setF c.fld 1 := rfl
  rw [this, State.f_setF_apart _ _ _ _ h ha, State.f_incSat_self _ _ _ h2]

/-- Raising a cause changes its bit and its counter only. -/
theorem State.f_raise_apart (s : State) (F : Fld) (c : Cause) (h : c.fld.fits = true) (h2 : c.cnt.fits = true)
    (ha : F.apart c.fld = true) (hb : F.apart c.cnt = true) : (s.raise c).f F = s.f F := by
  have : s.raise c = (s.incSat c.cnt 1).setF c.fld 1 := rfl
  rw [this, State.f_setF_apart _ _ _ _ h ha, State.f_incSat_apart _ _ _ _ h2 hb]

theorem State.b_raise_apart (s : State) (F : Fld) (c : Cause) (h : c.fld.fits = true) (h2 : c.cnt.fits = true)
    (ha : F.apart c.fld = true) (hb : F.apart c.cnt = true) : (s.raise c).b F = s.b F := by
  unfold State.b; rw [State.f_raise_apart s F c h h2 ha hb]

theorem State.rget_raise_ne (s : State) (c : Cause) (a : Nat) (h1 : a ≠ c.fld.addr) (h2 : a ≠ c.cnt.addr) : (s.raise c).rget a = s.rget a := by
  have : s.raise c = (s.incSat c.cnt 1).setF c.fld 1 := rfl
  rw [this, State.rget_setF_ne _ _ _ _ h1]
  exact State.rget_setF_ne _ _ _ _ h2

/-! ## Memory -/

@[simp] theorem State.mget_mset_self (s : State) (a : Nat) (v : Byte) : (s.mset a v).mget a = v := SMap.get_set_self _ _ _ _

theorem State.mget_mset_ne (s : State) (a b : Nat) (v : Byte) (h : b ≠ a) : (s.mset a v).mget b = s.mget b := SMap.get_set_ne _ _ _ _ _ h

theorem State.wf_mset (s : State) (a : Nat) (v : Byte) (h : Memory.wf s.mem = true) : Memory.wf (s.mset a v).mem = true := SMap.wf_set _ _ _ _ h

theorem State.wf_msetH (s : State) (a : Nat) (v : BitVec 16) (h : Memory.wf s.mem = true) : Memory.wf (s.msetH a v).mem = true :=
  State.wf_mset _ _ _ (State.wf_mset _ _ _ h)

theorem State.wf_msetW (s : State) (a : Nat) (v : Word) (h : Memory.wf s.mem = true) : Memory.wf (s.msetW a v).mem = true :=
  State.wf_msetH _ _ _ (State.wf_msetH _ _ _ h)

theorem State.mget_msetH_ne (s : State) (a b : Nat) (v : BitVec 16) (h : b < a ∨ a + 2 ≤ b) : (s.msetH a v).mget b = s.mget b := by
  unfold State.msetH
  rw [State.mget_mset_ne _ _ _ _ (by omega), State.mget_mset_ne _ _ _ _ (by omega)]

theorem State.mget_msetW_ne (s : State) (a b : Nat) (v : Word) (h : b < a ∨ a + 4 ≤ b) : (s.msetW a v).mget b = s.mget b := by
  unfold State.msetW
  rw [State.mget_msetH_ne _ _ _ _ (by omega), State.mget_msetH_ne _ _ _ _ (by omega)]

theorem append_halves16 (v : BitVec 16) : (v.extractLsb' 8 8 ++ v.extractLsb' 0 8 : BitVec 16) = v := by
  apply BitVec.eq_of_getLsbD_eq
  intro i hi
  rw [BitVec.getLsbD_append, BitVec.getLsbD_extractLsb', BitVec.getLsbD_extractLsb']
  by_cases h : i < 8
  · simp [h]
  · have h8 : 8 + (i - 8) = i := by omega
    have : i - 8 < 8 := by omega
    simp [h, h8, this]

theorem append_halves32 (v : Word) : (v.extractLsb' 16 16 ++ v.extractLsb' 0 16 : BitVec 32) = v := by
  apply BitVec.eq_of_getLsbD_eq
  intro i hi
  rw [BitVec.getLsbD_append, BitVec.getLsbD_extractLsb', BitVec.getLsbD_extractLsb']
  by_cases h : i < 16
  · simp [h]
  · have h8 : 16 + (i - 16) = i := by omega
    have : i - 16 < 16 := by omega
    simp [h, h8, this]

/-- A half-word read after it was written. -/
theorem State.mgetH_msetH (s : State) (a : Nat) (v : BitVec 16) : (s.msetH a v).mgetH a = v := by
  unfold State.mgetH State.msetH
  rw [State.mget_mset_self, State.mget_mset_ne _ (a + 1) a _ (by omega), State.mget_mset_self]
  exact append_halves16 v

theorem State.mgetH_msetH_ne (s : State) (a b : Nat) (v : BitVec 16) (h : b + 2 ≤ a ∨ a + 2 ≤ b) : (s.msetH a v).mgetH b = s.mgetH b := by
  unfold State.mgetH
  rw [State.mget_msetH_ne s a (b + 1) v (by omega), State.mget_msetH_ne s a b v (by omega)]

/-- A word read after it was written. -/
theorem State.mgetW_msetW (s : State) (a : Nat) (v : Word) : (s.msetW a v).mgetW a = v := by
  unfold State.mgetW State.msetW
  rw [State.mgetH_msetH, State.mgetH_msetH_ne _ (a + 2) a _ (by omega), State.mgetH_msetH]
  exact append_halves32 v

end Sys2Proof.Machine
end

