-- ==== Sys2Proof/Laws/State.lean ====
section
/-!
SUPPORT. What each update of State leaves alone: one lemma per field per update.
-/
namespace Sys2Proof.Machine

/-! ## rset -/

@[simp] theorem State.rset_pending (s : State) (a : Nat) (v : Word) : (s.rset a v).pending = s.pending := (rfl)
@[simp] theorem State.rset_freeCtr (s : State) (a : Nat) (v : Word) : (s.rset a v).freeCtr = s.freeCtr := (rfl)
@[simp] theorem State.rset_now (s : State) (a : Nat) (v : Word) : (s.rset a v).now = s.now := (rfl)
@[simp] theorem State.rset_ms (s : State) (a : Nat) (v : Word) : (s.rset a v).ms = s.ms := (rfl)
@[simp] theorem State.rset_eff (s : State) (a : Nat) (v : Word) : (s.rset a v).eff = s.eff := (rfl)
@[simp] theorem State.rset_mem (s : State) (a : Nat) (v : Word) : (s.rset a v).mem = s.mem := (rfl)
@[simp] theorem State.rset_flash (s : State) (a : Nat) (v : Word) : (s.rset a v).flash = s.flash := (rfl)
@[simp] theorem State.rset_tun (s : State) (a : Nat) (v : Word) : (s.rset a v).tun = s.tun := (rfl)
@[simp] theorem State.rset_dev (s : State) (a : Nat) (v : Word) : (s.rset a v).dev = s.dev := (rfl)
@[simp] theorem State.rset_nvm (s : State) (a : Nat) (v : Word) : (s.rset a v).nvm = s.nvm := (rfl)
@[simp] theorem State.rset_rst (s : State) (a : Nat) (v : Word) : (s.rset a v).rst = s.rst := (rfl)
@[simp] theorem State.rset_pins (s : State) (a : Nat) (v : Word) : (s.rset a v).pins = s.pins := (rfl)
@[simp] theorem State.rset_emit (s : State) (a : Nat) (v : Word) : (s.rset a v).emit = s.emit := (rfl)
@[simp] theorem State.rset_strs (s : State) (a : Nat) (v : Word) : (s.rset a v).strs = s.strs := (rfl)
@[simp] theorem State.rset_scan (s : State) (a : Nat) (v : Word) : (s.rset a v).scan = s.scan := (rfl)
@[simp] theorem State.rset_kiln (s : State) (a : Nat) (v : Word) : (s.rset a v).kiln = s.kiln := (rfl)
@[simp] theorem State.rset_time (s : State) (a : Nat) (v : Word) : (s.rset a v).time = s.time := (rfl)
@[simp] theorem State.rset_anchor (s : State) (a : Nat) (v : Word) : (s.rset a v).anchor = s.anchor := (rfl)
@[simp] theorem State.rset_therm (s : State) (a : Nat) (v : Word) : (s.rset a v).therm = s.therm := (rfl)
@[simp] theorem State.rset_chans (s : State) (a : Nat) (v : Word) : (s.rset a v).chans = s.chans := (rfl)
@[simp] theorem State.rset_clus (s : State) (a : Nat) (v : Word) : (s.rset a v).clus = s.clus := (rfl)
@[simp] theorem State.rset_mash (s : State) (a : Nat) (v : Word) : (s.rset a v).mash = s.mash := (rfl)
@[simp] theorem State.rset_tins (s : State) (a : Nat) (v : Word) : (s.rset a v).tins = s.tins := (rfl)
@[simp] theorem State.rset_hists (s : State) (a : Nat) (v : Word) : (s.rset a v).hists = s.hists := (rfl)
@[simp] theorem State.rset_lau (s : State) (a : Nat) (v : Word) : (s.rset a v).lau = s.lau := (rfl)
@[simp] theorem State.rset_cal (s : State) (a : Nat) (v : Word) : (s.rset a v).cal = s.cal := (rfl)
@[simp] theorem State.rset_wort (s : State) (a : Nat) (v : Word) : (s.rset a v).wort = s.wort := (rfl)
@[simp] theorem State.rset_dwl (s : State) (a : Nat) (v : Word) : (s.rset a v).dwl = s.dwl := (rfl)
@[simp] theorem State.rset_ctl (s : State) (a : Nat) (v : Word) : (s.rset a v).ctl = s.ctl := (rfl)
@[simp] theorem State.rset_adcLast (s : State) (a : Nat) (v : Word) : (s.rset a v).adcLast = s.adcLast := (rfl)
@[simp] theorem State.rset_adc (s : State) (a : Nat) (v : Word) : (s.rset a v).adc = s.adc := (rfl)
@[simp] theorem State.rset_afePos (s : State) (a : Nat) (v : Word) : (s.rset a v).afePos = s.afePos := (rfl)
@[simp] theorem State.rset_lanes (s : State) (a : Nat) (v : Word) : (s.rset a v).lanes = s.lanes := (rfl)
@[simp] theorem State.rset_eths (s : State) (a : Nat) (v : Word) : (s.rset a v).eths = s.eths := (rfl)
@[simp] theorem State.rset_prp (s : State) (a : Nat) (v : Word) : (s.rset a v).prp = s.prp := (rfl)
@[simp] theorem State.rset_lines (s : State) (a : Nat) (v : Word) : (s.rset a v).lines = s.lines := (rfl)
@[simp] theorem State.rset_parkWake (s : State) (a : Nat) (v : Word) : (s.rset a v).parkWake = s.parkWake := (rfl)
@[simp] theorem State.rset_guard (s : State) (a : Nat) (v : Word) : (s.rset a v).guard = s.guard := (rfl)
@[simp] theorem State.rset_cask (s : State) (a : Nat) (v : Word) : (s.rset a v).cask = s.cask := (rfl)
@[simp] theorem State.rset_cores (s : State) (a : Nat) (v : Word) : (s.rset a v).cores = s.cores := (rfl)
@[simp] theorem State.rset_dma (s : State) (a : Nat) (v : Word) : (s.rset a v).dma = s.dma := (rfl)
@[simp] theorem State.rset_amp (s : State) (a : Nat) (v : Word) : (s.rset a v).amp = s.amp := (rfl)
@[simp] theorem State.rset_flOp (s : State) (a : Nat) (v : Word) : (s.rset a v).flOp = s.flOp := (rfl)

/-! ## setF -/

@[simp] theorem State.setF_pending (s : State) (F : Fld) (x : Nat) : (s.setF F x).pending = s.pending := (rfl)
@[simp] theorem State.setF_freeCtr (s : State) (F : Fld) (x : Nat) : (s.setF F x).freeCtr = s.freeCtr := (rfl)
@[simp] theorem State.setF_now (s : State) (F : Fld) (x : Nat) : (s.setF F x).now = s.now := (rfl)
@[simp] theorem State.setF_ms (s : State) (F : Fld) (x : Nat) : (s.setF F x).ms = s.ms := (rfl)
@[simp] theorem State.setF_eff (s : State) (F : Fld) (x : Nat) : (s.setF F x).eff = s.eff := (rfl)
@[simp] theorem State.setF_mem (s : State) (F : Fld) (x : Nat) : (s.setF F x).mem = s.mem := (rfl)
@[simp] theorem State.setF_flash (s : State) (F : Fld) (x : Nat) : (s.setF F x).flash = s.flash := (rfl)
@[simp] theorem State.setF_tun (s : State) (F : Fld) (x : Nat) : (s.setF F x).tun = s.tun := (rfl)
@[simp] theorem State.setF_dev (s : State) (F : Fld) (x : Nat) : (s.setF F x).dev = s.dev := (rfl)
@[simp] theorem State.setF_nvm (s : State) (F : Fld) (x : Nat) : (s.setF F x).nvm = s.nvm := (rfl)
@[simp] theorem State.setF_rst (s : State) (F : Fld) (x : Nat) : (s.setF F x).rst = s.rst := (rfl)
@[simp] theorem State.setF_pins (s : State) (F : Fld) (x : Nat) : (s.setF F x).pins = s.pins := (rfl)
@[simp] theorem State.setF_emit (s : State) (F : Fld) (x : Nat) : (s.setF F x).emit = s.emit := (rfl)
@[simp] theorem State.setF_strs (s : State) (F : Fld) (x : Nat) : (s.setF F x).strs = s.strs := (rfl)
@[simp] theorem State.setF_scan (s : State) (F : Fld) (x : Nat) : (s.setF F x).scan = s.scan := (rfl)
@[simp] theorem State.setF_kiln (s : State) (F : Fld) (x : Nat) : (s.setF F x).kiln = s.kiln := (rfl)
@[simp] theorem State.setF_time (s : State) (F : Fld) (x : Nat) : (s.setF F x).time = s.time := (rfl)
@[simp] theorem State.setF_anchor (s : State) (F : Fld) (x : Nat) : (s.setF F x).anchor = s.anchor := (rfl)
@[simp] theorem State.setF_therm (s : State) (F : Fld) (x : Nat) : (s.setF F x).therm = s.therm := (rfl)
@[simp] theorem State.setF_chans (s : State) (F : Fld) (x : Nat) : (s.setF F x).chans = s.chans := (rfl)
@[simp] theorem State.setF_clus (s : State) (F : Fld) (x : Nat) : (s.setF F x).clus = s.clus := (rfl)
@[simp] theorem State.setF_mash (s : State) (F : Fld) (x : Nat) : (s.setF F x).mash = s.mash := (rfl)
@[simp] theorem State.setF_tins (s : State) (F : Fld) (x : Nat) : (s.setF F x).tins = s.tins := (rfl)
@[simp] theorem State.setF_hists (s : State) (F : Fld) (x : Nat) : (s.setF F x).hists = s.hists := (rfl)
@[simp] theorem State.setF_lau (s : State) (F : Fld) (x : Nat) : (s.setF F x).lau = s.lau := (rfl)
@[simp] theorem State.setF_cal (s : State) (F : Fld) (x : Nat) : (s.setF F x).cal = s.cal := (rfl)
@[simp] theorem State.setF_wort (s : State) (F : Fld) (x : Nat) : (s.setF F x).wort = s.wort := (rfl)
@[simp] theorem State.setF_dwl (s : State) (F : Fld) (x : Nat) : (s.setF F x).dwl = s.dwl := (rfl)
@[simp] theorem State.setF_ctl (s : State) (F : Fld) (x : Nat) : (s.setF F x).ctl = s.ctl := (rfl)
@[simp] theorem State.setF_adcLast (s : State) (F : Fld) (x : Nat) : (s.setF F x).adcLast = s.adcLast := (rfl)
@[simp] theorem State.setF_adc (s : State) (F : Fld) (x : Nat) : (s.setF F x).adc = s.adc := (rfl)
@[simp] theorem State.setF_afePos (s : State) (F : Fld) (x : Nat) : (s.setF F x).afePos = s.afePos := (rfl)
@[simp] theorem State.setF_lanes (s : State) (F : Fld) (x : Nat) : (s.setF F x).lanes = s.lanes := (rfl)
@[simp] theorem State.setF_eths (s : State) (F : Fld) (x : Nat) : (s.setF F x).eths = s.eths := (rfl)
@[simp] theorem State.setF_prp (s : State) (F : Fld) (x : Nat) : (s.setF F x).prp = s.prp := (rfl)
@[simp] theorem State.setF_lines (s : State) (F : Fld) (x : Nat) : (s.setF F x).lines = s.lines := (rfl)
@[simp] theorem State.setF_parkWake (s : State) (F : Fld) (x : Nat) : (s.setF F x).parkWake = s.parkWake := (rfl)
@[simp] theorem State.setF_guard (s : State) (F : Fld) (x : Nat) : (s.setF F x).guard = s.guard := (rfl)
@[simp] theorem State.setF_cask (s : State) (F : Fld) (x : Nat) : (s.setF F x).cask = s.cask := (rfl)
@[simp] theorem State.setF_cores (s : State) (F : Fld) (x : Nat) : (s.setF F x).cores = s.cores := (rfl)
@[simp] theorem State.setF_dma (s : State) (F : Fld) (x : Nat) : (s.setF F x).dma = s.dma := (rfl)
@[simp] theorem State.setF_amp (s : State) (F : Fld) (x : Nat) : (s.setF F x).amp = s.amp := (rfl)
@[simp] theorem State.setF_flOp (s : State) (F : Fld) (x : Nat) : (s.setF F x).flOp = s.flOp := (rfl)

/-! ## setB -/

@[simp] theorem State.setB_pending (s : State) (F : Fld) (p : Bool) : (s.setB F p).pending = s.pending := (rfl)
@[simp] theorem State.setB_freeCtr (s : State) (F : Fld) (p : Bool) : (s.setB F p).freeCtr = s.freeCtr := (rfl)
@[simp] theorem State.setB_now (s : State) (F : Fld) (p : Bool) : (s.setB F p).now = s.now := (rfl)
@[simp] theorem State.setB_ms (s : State) (F : Fld) (p : Bool) : (s.setB F p).ms = s.ms := (rfl)
@[simp] theorem State.setB_eff (s : State) (F : Fld) (p : Bool) : (s.setB F p).eff = s.eff := (rfl)
@[simp] theorem State.setB_mem (s : State) (F : Fld) (p : Bool) : (s.setB F p).mem = s.mem := (rfl)
@[simp] theorem State.setB_flash (s : State) (F : Fld) (p : Bool) : (s.setB F p).flash = s.flash := (rfl)
@[simp] theorem State.setB_tun (s : State) (F : Fld) (p : Bool) : (s.setB F p).tun = s.tun := (rfl)
@[simp] theorem State.setB_dev (s : State) (F : Fld) (p : Bool) : (s.setB F p).dev = s.dev := (rfl)
@[simp] theorem State.setB_nvm (s : State) (F : Fld) (p : Bool) : (s.setB F p).nvm = s.nvm := (rfl)
@[simp] theorem State.setB_rst (s : State) (F : Fld) (p : Bool) : (s.setB F p).rst = s.rst := (rfl)
@[simp] theorem State.setB_pins (s : State) (F : Fld) (p : Bool) : (s.setB F p).pins = s.pins := (rfl)
@[simp] theorem State.setB_emit (s : State) (F : Fld) (p : Bool) : (s.setB F p).emit = s.emit := (rfl)
@[simp] theorem State.setB_strs (s : State) (F : Fld) (p : Bool) : (s.setB F p).strs = s.strs := (rfl)
@[simp] theorem State.setB_scan (s : State) (F : Fld) (p : Bool) : (s.setB F p).scan = s.scan := (rfl)
@[simp] theorem State.setB_kiln (s : State) (F : Fld) (p : Bool) : (s.setB F p).kiln = s.kiln := (rfl)
@[simp] theorem State.setB_time (s : State) (F : Fld) (p : Bool) : (s.setB F p).time = s.time := (rfl)
@[simp] theorem State.setB_anchor (s : State) (F : Fld) (p : Bool) : (s.setB F p).anchor = s.anchor := (rfl)
@[simp] theorem State.setB_therm (s : State) (F : Fld) (p : Bool) : (s.setB F p).therm = s.therm := (rfl)
@[simp] theorem State.setB_chans (s : State) (F : Fld) (p : Bool) : (s.setB F p).chans = s.chans := (rfl)
@[simp] theorem State.setB_clus (s : State) (F : Fld) (p : Bool) : (s.setB F p).clus = s.clus := (rfl)
@[simp] theorem State.setB_mash (s : State) (F : Fld) (p : Bool) : (s.setB F p).mash = s.mash := (rfl)
@[simp] theorem State.setB_tins (s : State) (F : Fld) (p : Bool) : (s.setB F p).tins = s.tins := (rfl)
@[simp] theorem State.setB_hists (s : State) (F : Fld) (p : Bool) : (s.setB F p).hists = s.hists := (rfl)
@[simp] theorem State.setB_lau (s : State) (F : Fld) (p : Bool) : (s.setB F p).lau = s.lau := (rfl)
@[simp] theorem State.setB_cal (s : State) (F : Fld) (p : Bool) : (s.setB F p).cal = s.cal := (rfl)
@[simp] theorem State.setB_wort (s : State) (F : Fld) (p : Bool) : (s.setB F p).wort = s.wort := (rfl)
@[simp] theorem State.setB_dwl (s : State) (F : Fld) (p : Bool) : (s.setB F p).dwl = s.dwl := (rfl)
@[simp] theorem State.setB_ctl (s : State) (F : Fld) (p : Bool) : (s.setB F p).ctl = s.ctl := (rfl)
@[simp] theorem State.setB_adcLast (s : State) (F : Fld) (p : Bool) : (s.setB F p).adcLast = s.adcLast := (rfl)
@[simp] theorem State.setB_adc (s : State) (F : Fld) (p : Bool) : (s.setB F p).adc = s.adc := (rfl)
@[simp] theorem State.setB_afePos (s : State) (F : Fld) (p : Bool) : (s.setB F p).afePos = s.afePos := (rfl)
@[simp] theorem State.setB_lanes (s : State) (F : Fld) (p : Bool) : (s.setB F p).lanes = s.lanes := (rfl)
@[simp] theorem State.setB_eths (s : State) (F : Fld) (p : Bool) : (s.setB F p).eths = s.eths := (rfl)
@[simp] theorem State.setB_prp (s : State) (F : Fld) (p : Bool) : (s.setB F p).prp = s.prp := (rfl)
@[simp] theorem State.setB_lines (s : State) (F : Fld) (p : Bool) : (s.setB F p).lines = s.lines := (rfl)
@[simp] theorem State.setB_parkWake (s : State) (F : Fld) (p : Bool) : (s.setB F p).parkWake = s.parkWake := (rfl)
@[simp] theorem State.setB_guard (s : State) (F : Fld) (p : Bool) : (s.setB F p).guard = s.guard := (rfl)
@[simp] theorem State.setB_cask (s : State) (F : Fld) (p : Bool) : (s.setB F p).cask = s.cask := (rfl)
@[simp] theorem State.setB_cores (s : State) (F : Fld) (p : Bool) : (s.setB F p).cores = s.cores := (rfl)
@[simp] theorem State.setB_dma (s : State) (F : Fld) (p : Bool) : (s.setB F p).dma = s.dma := (rfl)
@[simp] theorem State.setB_amp (s : State) (F : Fld) (p : Bool) : (s.setB F p).amp = s.amp := (rfl)
@[simp] theorem State.setB_flOp (s : State) (F : Fld) (p : Bool) : (s.setB F p).flOp = s.flOp := (rfl)

/-! ## setFs -/

@[simp] theorem State.setFs_pending (s : State) (F : Fld) (x : Int) : (s.setFs F x).pending = s.pending := (rfl)
@[simp] theorem State.setFs_freeCtr (s : State) (F : Fld) (x : Int) : (s.setFs F x).freeCtr = s.freeCtr := (rfl)
@[simp] theorem State.setFs_now (s : State) (F : Fld) (x : Int) : (s.setFs F x).now = s.now := (rfl)
@[simp] theorem State.setFs_ms (s : State) (F : Fld) (x : Int) : (s.setFs F x).ms = s.ms := (rfl)
@[simp] theorem State.setFs_eff (s : State) (F : Fld) (x : Int) : (s.setFs F x).eff = s.eff := (rfl)
@[simp] theorem State.setFs_mem (s : State) (F : Fld) (x : Int) : (s.setFs F x).mem = s.mem := (rfl)
@[simp] theorem State.setFs_flash (s : State) (F : Fld) (x : Int) : (s.setFs F x).flash = s.flash := (rfl)
@[simp] theorem State.setFs_tun (s : State) (F : Fld) (x : Int) : (s.setFs F x).tun = s.tun := (rfl)
@[simp] theorem State.setFs_dev (s : State) (F : Fld) (x : Int) : (s.setFs F x).dev = s.dev := (rfl)
@[simp] theorem State.setFs_nvm (s : State) (F : Fld) (x : Int) : (s.setFs F x).nvm = s.nvm := (rfl)
@[simp] theorem State.setFs_rst (s : State) (F : Fld) (x : Int) : (s.setFs F x).rst = s.rst := (rfl)
@[simp] theorem State.setFs_pins (s : State) (F : Fld) (x : Int) : (s.setFs F x).pins = s.pins := (rfl)
@[simp] theorem State.setFs_emit (s : State) (F : Fld) (x : Int) : (s.setFs F x).emit = s.emit := (rfl)
@[simp] theorem State.setFs_strs (s : State) (F : Fld) (x : Int) : (s.setFs F x).strs = s.strs := (rfl)
@[simp] theorem State.setFs_scan (s : State) (F : Fld) (x : Int) : (s.setFs F x).scan = s.scan := (rfl)
@[simp] theorem State.setFs_kiln (s : State) (F : Fld) (x : Int) : (s.setFs F x).kiln = s.kiln := (rfl)
@[simp] theorem State.setFs_time (s : State) (F : Fld) (x : Int) : (s.setFs F x).time = s.time := (rfl)
@[simp] theorem State.setFs_anchor (s : State) (F : Fld) (x : Int) : (s.setFs F x).anchor = s.anchor := (rfl)
@[simp] theorem State.setFs_therm (s : State) (F : Fld) (x : Int) : (s.setFs F x).therm = s.therm := (rfl)
@[simp] theorem State.setFs_chans (s : State) (F : Fld) (x : Int) : (s.setFs F x).chans = s.chans := (rfl)
@[simp] theorem State.setFs_clus (s : State) (F : Fld) (x : Int) : (s.setFs F x).clus = s.clus := (rfl)
@[simp] theorem State.setFs_mash (s : State) (F : Fld) (x : Int) : (s.setFs F x).mash = s.mash := (rfl)
@[simp] theorem State.setFs_tins (s : State) (F : Fld) (x : Int) : (s.setFs F x).tins = s.tins := (rfl)
@[simp] theorem State.setFs_hists (s : State) (F : Fld) (x : Int) : (s.setFs F x).hists = s.hists := (rfl)
@[simp] theorem State.setFs_lau (s : State) (F : Fld) (x : Int) : (s.setFs F x).lau = s.lau := (rfl)
@[simp] theorem State.setFs_cal (s : State) (F : Fld) (x : Int) : (s.setFs F x).cal = s.cal := (rfl)
@[simp] theorem State.setFs_wort (s : State) (F : Fld) (x : Int) : (s.setFs F x).wort = s.wort := (rfl)
@[simp] theorem State.setFs_dwl (s : State) (F : Fld) (x : Int) : (s.setFs F x).dwl = s.dwl := (rfl)
@[simp] theorem State.setFs_ctl (s : State) (F : Fld) (x : Int) : (s.setFs F x).ctl = s.ctl := (rfl)
@[simp] theorem State.setFs_adcLast (s : State) (F : Fld) (x : Int) : (s.setFs F x).adcLast = s.adcLast := (rfl)
@[simp] theorem State.setFs_adc (s : State) (F : Fld) (x : Int) : (s.setFs F x).adc = s.adc := (rfl)
@[simp] theorem State.setFs_afePos (s : State) (F : Fld) (x : Int) : (s.setFs F x).afePos = s.afePos := (rfl)
@[simp] theorem State.setFs_lanes (s : State) (F : Fld) (x : Int) : (s.setFs F x).lanes = s.lanes := (rfl)
@[simp] theorem State.setFs_eths (s : State) (F : Fld) (x : Int) : (s.setFs F x).eths = s.eths := (rfl)
@[simp] theorem State.setFs_prp (s : State) (F : Fld) (x : Int) : (s.setFs F x).prp = s.prp := (rfl)
@[simp] theorem State.setFs_lines (s : State) (F : Fld) (x : Int) : (s.setFs F x).lines = s.lines := (rfl)
@[simp] theorem State.setFs_parkWake (s : State) (F : Fld) (x : Int) : (s.setFs F x).parkWake = s.parkWake := (rfl)
@[simp] theorem State.setFs_guard (s : State) (F : Fld) (x : Int) : (s.setFs F x).guard = s.guard := (rfl)
@[simp] theorem State.setFs_cask (s : State) (F : Fld) (x : Int) : (s.setFs F x).cask = s.cask := (rfl)
@[simp] theorem State.setFs_cores (s : State) (F : Fld) (x : Int) : (s.setFs F x).cores = s.cores := (rfl)
@[simp] theorem State.setFs_dma (s : State) (F : Fld) (x : Int) : (s.setFs F x).dma = s.dma := (rfl)
@[simp] theorem State.setFs_amp (s : State) (F : Fld) (x : Int) : (s.setFs F x).amp = s.amp := (rfl)
@[simp] theorem State.setFs_flOp (s : State) (F : Fld) (x : Int) : (s.setFs F x).flOp = s.flOp := (rfl)

/-! ## incSat -/

@[simp] theorem State.incSat_pending (s : State) (F : Fld) (n : Nat) : (s.incSat F n).pending = s.pending := (rfl)
@[simp] theorem State.incSat_freeCtr (s : State) (F : Fld) (n : Nat) : (s.incSat F n).freeCtr = s.freeCtr := (rfl)
@[simp] theorem State.incSat_now (s : State) (F : Fld) (n : Nat) : (s.incSat F n).now = s.now := (rfl)
@[simp] theorem State.incSat_ms (s : State) (F : Fld) (n : Nat) : (s.incSat F n).ms = s.ms := (rfl)
@[simp] theorem State.incSat_eff (s : State) (F : Fld) (n : Nat) : (s.incSat F n).eff = s.eff := (rfl)
@[simp] theorem State.incSat_mem (s : State) (F : Fld) (n : Nat) : (s.incSat F n).mem = s.mem := (rfl)
@[simp] theorem State.incSat_flash (s : State) (F : Fld) (n : Nat) : (s.incSat F n).flash = s.flash := (rfl)
@[simp] theorem State.incSat_tun (s : State) (F : Fld) (n : Nat) : (s.incSat F n).tun = s.tun := (rfl)
@[simp] theorem State.incSat_dev (s : State) (F : Fld) (n : Nat) : (s.incSat F n).dev = s.dev := (rfl)
@[simp] theorem State.incSat_nvm (s : State) (F : Fld) (n : Nat) : (s.incSat F n).nvm = s.nvm := (rfl)
@[simp] theorem State.incSat_rst (s : State) (F : Fld) (n : Nat) : (s.incSat F n).rst = s.rst := (rfl)
@[simp] theorem State.incSat_pins (s : State) (F : Fld) (n : Nat) : (s.incSat F n).pins = s.pins := (rfl)
@[simp] theorem State.incSat_emit (s : State) (F : Fld) (n : Nat) : (s.incSat F n).emit = s.emit := (rfl)
@[simp] theorem State.incSat_strs (s : State) (F : Fld) (n : Nat) : (s.incSat F n).strs = s.strs := (rfl)
@[simp] theorem State.incSat_scan (s : State) (F : Fld) (n : Nat) : (s.incSat F n).scan = s.scan := (rfl)
@[simp] theorem State.incSat_kiln (s : State) (F : Fld) (n : Nat) : (s.incSat F n).kiln = s.kiln := (rfl)
@[simp] theorem State.incSat_time (s : State) (F : Fld) (n : Nat) : (s.incSat F n).time = s.time := (rfl)
@[simp] theorem State.incSat_anchor (s : State) (F : Fld) (n : Nat) : (s.incSat F n).anchor = s.anchor := (rfl)
@[simp] theorem State.incSat_therm (s : State) (F : Fld) (n : Nat) : (s.incSat F n).therm = s.therm := (rfl)
@[simp] theorem State.incSat_chans (s : State) (F : Fld) (n : Nat) : (s.incSat F n).chans = s.chans := (rfl)
@[simp] theorem State.incSat_clus (s : State) (F : Fld) (n : Nat) : (s.incSat F n).clus = s.clus := (rfl)
@[simp] theorem State.incSat_mash (s : State) (F : Fld) (n : Nat) : (s.incSat F n).mash = s.mash := (rfl)
@[simp] theorem State.incSat_tins (s : State) (F : Fld) (n : Nat) : (s.incSat F n).tins = s.tins := (rfl)
@[simp] theorem State.incSat_hists (s : State) (F : Fld) (n : Nat) : (s.incSat F n).hists = s.hists := (rfl)
@[simp] theorem State.incSat_lau (s : State) (F : Fld) (n : Nat) : (s.incSat F n).lau = s.lau := (rfl)
@[simp] theorem State.incSat_cal (s : State) (F : Fld) (n : Nat) : (s.incSat F n).cal = s.cal := (rfl)
@[simp] theorem State.incSat_wort (s : State) (F : Fld) (n : Nat) : (s.incSat F n).wort = s.wort := (rfl)
@[simp] theorem State.incSat_dwl (s : State) (F : Fld) (n : Nat) : (s.incSat F n).dwl = s.dwl := (rfl)
@[simp] theorem State.incSat_ctl (s : State) (F : Fld) (n : Nat) : (s.incSat F n).ctl = s.ctl := (rfl)
@[simp] theorem State.incSat_adcLast (s : State) (F : Fld) (n : Nat) : (s.incSat F n).adcLast = s.adcLast := (rfl)
@[simp] theorem State.incSat_adc (s : State) (F : Fld) (n : Nat) : (s.incSat F n).adc = s.adc := (rfl)
@[simp] theorem State.incSat_afePos (s : State) (F : Fld) (n : Nat) : (s.incSat F n).afePos = s.afePos := (rfl)
@[simp] theorem State.incSat_lanes (s : State) (F : Fld) (n : Nat) : (s.incSat F n).lanes = s.lanes := (rfl)
@[simp] theorem State.incSat_eths (s : State) (F : Fld) (n : Nat) : (s.incSat F n).eths = s.eths := (rfl)
@[simp] theorem State.incSat_prp (s : State) (F : Fld) (n : Nat) : (s.incSat F n).prp = s.prp := (rfl)
@[simp] theorem State.incSat_lines (s : State) (F : Fld) (n : Nat) : (s.incSat F n).lines = s.lines := (rfl)
@[simp] theorem State.incSat_parkWake (s : State) (F : Fld) (n : Nat) : (s.incSat F n).parkWake = s.parkWake := (rfl)
@[simp] theorem State.incSat_guard (s : State) (F : Fld) (n : Nat) : (s.incSat F n).guard = s.guard := (rfl)
@[simp] theorem State.incSat_cask (s : State) (F : Fld) (n : Nat) : (s.incSat F n).cask = s.cask := (rfl)
@[simp] theorem State.incSat_cores (s : State) (F : Fld) (n : Nat) : (s.incSat F n).cores = s.cores := (rfl)
@[simp] theorem State.incSat_dma (s : State) (F : Fld) (n : Nat) : (s.incSat F n).dma = s.dma := (rfl)
@[simp] theorem State.incSat_amp (s : State) (F : Fld) (n : Nat) : (s.incSat F n).amp = s.amp := (rfl)
@[simp] theorem State.incSat_flOp (s : State) (F : Fld) (n : Nat) : (s.incSat F n).flOp = s.flOp := (rfl)

/-! ## incMod -/

@[simp] theorem State.incMod_pending (s : State) (F : Fld) (n : Nat) : (s.incMod F n).pending = s.pending := (rfl)
@[simp] theorem State.incMod_freeCtr (s : State) (F : Fld) (n : Nat) : (s.incMod F n).freeCtr = s.freeCtr := (rfl)
@[simp] theorem State.incMod_now (s : State) (F : Fld) (n : Nat) : (s.incMod F n).now = s.now := (rfl)
@[simp] theorem State.incMod_ms (s : State) (F : Fld) (n : Nat) : (s.incMod F n).ms = s.ms := (rfl)
@[simp] theorem State.incMod_eff (s : State) (F : Fld) (n : Nat) : (s.incMod F n).eff = s.eff := (rfl)
@[simp] theorem State.incMod_mem (s : State) (F : Fld) (n : Nat) : (s.incMod F n).mem = s.mem := (rfl)
@[simp] theorem State.incMod_flash (s : State) (F : Fld) (n : Nat) : (s.incMod F n).flash = s.flash := (rfl)
@[simp] theorem State.incMod_tun (s : State) (F : Fld) (n : Nat) : (s.incMod F n).tun = s.tun := (rfl)
@[simp] theorem State.incMod_dev (s : State) (F : Fld) (n : Nat) : (s.incMod F n).dev = s.dev := (rfl)
@[simp] theorem State.incMod_nvm (s : State) (F : Fld) (n : Nat) : (s.incMod F n).nvm = s.nvm := (rfl)
@[simp] theorem State.incMod_rst (s : State) (F : Fld) (n : Nat) : (s.incMod F n).rst = s.rst := (rfl)
@[simp] theorem State.incMod_pins (s : State) (F : Fld) (n : Nat) : (s.incMod F n).pins = s.pins := (rfl)
@[simp] theorem State.incMod_emit (s : State) (F : Fld) (n : Nat) : (s.incMod F n).emit = s.emit := (rfl)
@[simp] theorem State.incMod_strs (s : State) (F : Fld) (n : Nat) : (s.incMod F n).strs = s.strs := (rfl)
@[simp] theorem State.incMod_scan (s : State) (F : Fld) (n : Nat) : (s.incMod F n).scan = s.scan := (rfl)
@[simp] theorem State.incMod_kiln (s : State) (F : Fld) (n : Nat) : (s.incMod F n).kiln = s.kiln := (rfl)
@[simp] theorem State.incMod_time (s : State) (F : Fld) (n : Nat) : (s.incMod F n).time = s.time := (rfl)
@[simp] theorem State.incMod_anchor (s : State) (F : Fld) (n : Nat) : (s.incMod F n).anchor = s.anchor := (rfl)
@[simp] theorem State.incMod_therm (s : State) (F : Fld) (n : Nat) : (s.incMod F n).therm = s.therm := (rfl)
@[simp] theorem State.incMod_chans (s : State) (F : Fld) (n : Nat) : (s.incMod F n).chans = s.chans := (rfl)
@[simp] theorem State.incMod_clus (s : State) (F : Fld) (n : Nat) : (s.incMod F n).clus = s.clus := (rfl)
@[simp] theorem State.incMod_mash (s : State) (F : Fld) (n : Nat) : (s.incMod F n).mash = s.mash := (rfl)
@[simp] theorem State.incMod_tins (s : State) (F : Fld) (n : Nat) : (s.incMod F n).tins = s.tins := (rfl)
@[simp] theorem State.incMod_hists (s : State) (F : Fld) (n : Nat) : (s.incMod F n).hists = s.hists := (rfl)
@[simp] theorem State.incMod_lau (s : State) (F : Fld) (n : Nat) : (s.incMod F n).lau = s.lau := (rfl)
@[simp] theorem State.incMod_cal (s : State) (F : Fld) (n : Nat) : (s.incMod F n).cal = s.cal := (rfl)
@[simp] theorem State.incMod_wort (s : State) (F : Fld) (n : Nat) : (s.incMod F n).wort = s.wort := (rfl)
@[simp] theorem State.incMod_dwl (s : State) (F : Fld) (n : Nat) : (s.incMod F n).dwl = s.dwl := (rfl)
@[simp] theorem State.incMod_ctl (s : State) (F : Fld) (n : Nat) : (s.incMod F n).ctl = s.ctl := (rfl)
@[simp] theorem State.incMod_adcLast (s : State) (F : Fld) (n : Nat) : (s.incMod F n).adcLast = s.adcLast := (rfl)
@[simp] theorem State.incMod_adc (s : State) (F : Fld) (n : Nat) : (s.incMod F n).adc = s.adc := (rfl)
@[simp] theorem State.incMod_afePos (s : State) (F : Fld) (n : Nat) : (s.incMod F n).afePos = s.afePos := (rfl)
@[simp] theorem State.incMod_lanes (s : State) (F : Fld) (n : Nat) : (s.incMod F n).lanes = s.lanes := (rfl)
@[simp] theorem State.incMod_eths (s : State) (F : Fld) (n : Nat) : (s.incMod F n).eths = s.eths := (rfl)
@[simp] theorem State.incMod_prp (s : State) (F : Fld) (n : Nat) : (s.incMod F n).prp = s.prp := (rfl)
@[simp] theorem State.incMod_lines (s : State) (F : Fld) (n : Nat) : (s.incMod F n).lines = s.lines := (rfl)
@[simp] theorem State.incMod_parkWake (s : State) (F : Fld) (n : Nat) : (s.incMod F n).parkWake = s.parkWake := (rfl)
@[simp] theorem State.incMod_guard (s : State) (F : Fld) (n : Nat) : (s.incMod F n).guard = s.guard := (rfl)
@[simp] theorem State.incMod_cask (s : State) (F : Fld) (n : Nat) : (s.incMod F n).cask = s.cask := (rfl)
@[simp] theorem State.incMod_cores (s : State) (F : Fld) (n : Nat) : (s.incMod F n).cores = s.cores := (rfl)
@[simp] theorem State.incMod_dma (s : State) (F : Fld) (n : Nat) : (s.incMod F n).dma = s.dma := (rfl)
@[simp] theorem State.incMod_amp (s : State) (F : Fld) (n : Nat) : (s.incMod F n).amp = s.amp := (rfl)
@[simp] theorem State.incMod_flOp (s : State) (F : Fld) (n : Nat) : (s.incMod F n).flOp = s.flOp := (rfl)

/-! ## raise -/

@[simp] theorem State.raise_pending (s : State) (c : Cause) : (s.raise c).pending = s.pending := (rfl)
@[simp] theorem State.raise_freeCtr (s : State) (c : Cause) : (s.raise c).freeCtr = s.freeCtr := (rfl)
@[simp] theorem State.raise_now (s : State) (c : Cause) : (s.raise c).now = s.now := (rfl)
@[simp] theorem State.raise_ms (s : State) (c : Cause) : (s.raise c).ms = s.ms := (rfl)
@[simp] theorem State.raise_eff (s : State) (c : Cause) : (s.raise c).eff = s.eff := (rfl)
@[simp] theorem State.raise_mem (s : State) (c : Cause) : (s.raise c).mem = s.mem := (rfl)
@[simp] theorem State.raise_flash (s : State) (c : Cause) : (s.raise c).flash = s.flash := (rfl)
@[simp] theorem State.raise_tun (s : State) (c : Cause) : (s.raise c).tun = s.tun := (rfl)
@[simp] theorem State.raise_dev (s : State) (c : Cause) : (s.raise c).dev = s.dev := (rfl)
@[simp] theorem State.raise_nvm (s : State) (c : Cause) : (s.raise c).nvm = s.nvm := (rfl)
@[simp] theorem State.raise_rst (s : State) (c : Cause) : (s.raise c).rst = s.rst := (rfl)
@[simp] theorem State.raise_pins (s : State) (c : Cause) : (s.raise c).pins = s.pins := (rfl)
@[simp] theorem State.raise_emit (s : State) (c : Cause) : (s.raise c).emit = s.emit := (rfl)
@[simp] theorem State.raise_strs (s : State) (c : Cause) : (s.raise c).strs = s.strs := (rfl)
@[simp] theorem State.raise_scan (s : State) (c : Cause) : (s.raise c).scan = s.scan := (rfl)
@[simp] theorem State.raise_kiln (s : State) (c : Cause) : (s.raise c).kiln = s.kiln := (rfl)
@[simp] theorem State.raise_time (s : State) (c : Cause) : (s.raise c).time = s.time := (rfl)
@[simp] theorem State.raise_anchor (s : State) (c : Cause) : (s.raise c).anchor = s.anchor := (rfl)
@[simp] theorem State.raise_therm (s : State) (c : Cause) : (s.raise c).therm = s.therm := (rfl)
@[simp] theorem State.raise_chans (s : State) (c : Cause) : (s.raise c).chans = s.chans := (rfl)
@[simp] theorem State.raise_clus (s : State) (c : Cause) : (s.raise c).clus = s.clus := (rfl)
@[simp] theorem State.raise_mash (s : State) (c : Cause) : (s.raise c).mash = s.mash := (rfl)
@[simp] theorem State.raise_tins (s : State) (c : Cause) : (s.raise c).tins = s.tins := (rfl)
@[simp] theorem State.raise_hists (s : State) (c : Cause) : (s.raise c).hists = s.hists := (rfl)
@[simp] theorem State.raise_lau (s : State) (c : Cause) : (s.raise c).lau = s.lau := (rfl)
@[simp] theorem State.raise_cal (s : State) (c : Cause) : (s.raise c).cal = s.cal := (rfl)
@[simp] theorem State.raise_wort (s : State) (c : Cause) : (s.raise c).wort = s.wort := (rfl)
@[simp] theorem State.raise_dwl (s : State) (c : Cause) : (s.raise c).dwl = s.dwl := (rfl)
@[simp] theorem State.raise_ctl (s : State) (c : Cause) : (s.raise c).ctl = s.ctl := (rfl)
@[simp] theorem State.raise_adcLast (s : State) (c : Cause) : (s.raise c).adcLast = s.adcLast := (rfl)
@[simp] theorem State.raise_adc (s : State) (c : Cause) : (s.raise c).adc = s.adc := (rfl)
@[simp] theorem State.raise_afePos (s : State) (c : Cause) : (s.raise c).afePos = s.afePos := (rfl)
@[simp] theorem State.raise_lanes (s : State) (c : Cause) : (s.raise c).lanes = s.lanes := (rfl)
@[simp] theorem State.raise_eths (s : State) (c : Cause) : (s.raise c).eths = s.eths := (rfl)
@[simp] theorem State.raise_prp (s : State) (c : Cause) : (s.raise c).prp = s.prp := (rfl)
@[simp] theorem State.raise_lines (s : State) (c : Cause) : (s.raise c).lines = s.lines := (rfl)
@[simp] theorem State.raise_parkWake (s : State) (c : Cause) : (s.raise c).parkWake = s.parkWake := (rfl)
@[simp] theorem State.raise_guard (s : State) (c : Cause) : (s.raise c).guard = s.guard := (rfl)
@[simp] theorem State.raise_cask (s : State) (c : Cause) : (s.raise c).cask = s.cask := (rfl)
@[simp] theorem State.raise_cores (s : State) (c : Cause) : (s.raise c).cores = s.cores := (rfl)
@[simp] theorem State.raise_dma (s : State) (c : Cause) : (s.raise c).dma = s.dma := (rfl)
@[simp] theorem State.raise_amp (s : State) (c : Cause) : (s.raise c).amp = s.amp := (rfl)
@[simp] theorem State.raise_flOp (s : State) (c : Cause) : (s.raise c).flOp = s.flOp := (rfl)

/-! ## mset -/

@[simp] theorem State.mset_pending (s : State) (a : Nat) (v : Byte) : (s.mset a v).pending = s.pending := (rfl)
@[simp] theorem State.mset_freeCtr (s : State) (a : Nat) (v : Byte) : (s.mset a v).freeCtr = s.freeCtr := (rfl)
@[simp] theorem State.mset_now (s : State) (a : Nat) (v : Byte) : (s.mset a v).now = s.now := (rfl)
@[simp] theorem State.mset_ms (s : State) (a : Nat) (v : Byte) : (s.mset a v).ms = s.ms := (rfl)
@[simp] theorem State.mset_regs (s : State) (a : Nat) (v : Byte) : (s.mset a v).regs = s.regs := (rfl)
@[simp] theorem State.mset_eff (s : State) (a : Nat) (v : Byte) : (s.mset a v).eff = s.eff := (rfl)
@[simp] theorem State.mset_flash (s : State) (a : Nat) (v : Byte) : (s.mset a v).flash = s.flash := (rfl)
@[simp] theorem State.mset_tun (s : State) (a : Nat) (v : Byte) : (s.mset a v).tun = s.tun := (rfl)
@[simp] theorem State.mset_dev (s : State) (a : Nat) (v : Byte) : (s.mset a v).dev = s.dev := (rfl)
@[simp] theorem State.mset_nvm (s : State) (a : Nat) (v : Byte) : (s.mset a v).nvm = s.nvm := (rfl)
@[simp] theorem State.mset_rst (s : State) (a : Nat) (v : Byte) : (s.mset a v).rst = s.rst := (rfl)
@[simp] theorem State.mset_pins (s : State) (a : Nat) (v : Byte) : (s.mset a v).pins = s.pins := (rfl)
@[simp] theorem State.mset_emit (s : State) (a : Nat) (v : Byte) : (s.mset a v).emit = s.emit := (rfl)
@[simp] theorem State.mset_strs (s : State) (a : Nat) (v : Byte) : (s.mset a v).strs = s.strs := (rfl)
@[simp] theorem State.mset_scan (s : State) (a : Nat) (v : Byte) : (s.mset a v).scan = s.scan := (rfl)
@[simp] theorem State.mset_kiln (s : State) (a : Nat) (v : Byte) : (s.mset a v).kiln = s.kiln := (rfl)
@[simp] theorem State.mset_time (s : State) (a : Nat) (v : Byte) : (s.mset a v).time = s.time := (rfl)
@[simp] theorem State.mset_anchor (s : State) (a : Nat) (v : Byte) : (s.mset a v).anchor = s.anchor := (rfl)
@[simp] theorem State.mset_therm (s : State) (a : Nat) (v : Byte) : (s.mset a v).therm = s.therm := (rfl)
@[simp] theorem State.mset_chans (s : State) (a : Nat) (v : Byte) : (s.mset a v).chans = s.chans := (rfl)
@[simp] theorem State.mset_clus (s : State) (a : Nat) (v : Byte) : (s.mset a v).clus = s.clus := (rfl)
@[simp] theorem State.mset_mash (s : State) (a : Nat) (v : Byte) : (s.mset a v).mash = s.mash := (rfl)
@[simp] theorem State.mset_tins (s : State) (a : Nat) (v : Byte) : (s.mset a v).tins = s.tins := (rfl)
@[simp] theorem State.mset_hists (s : State) (a : Nat) (v : Byte) : (s.mset a v).hists = s.hists := (rfl)
@[simp] theorem State.mset_lau (s : State) (a : Nat) (v : Byte) : (s.mset a v).lau = s.lau := (rfl)
@[simp] theorem State.mset_cal (s : State) (a : Nat) (v : Byte) : (s.mset a v).cal = s.cal := (rfl)
@[simp] theorem State.mset_wort (s : State) (a : Nat) (v : Byte) : (s.mset a v).wort = s.wort := (rfl)
@[simp] theorem State.mset_dwl (s : State) (a : Nat) (v : Byte) : (s.mset a v).dwl = s.dwl := (rfl)
@[simp] theorem State.mset_ctl (s : State) (a : Nat) (v : Byte) : (s.mset a v).ctl = s.ctl := (rfl)
@[simp] theorem State.mset_adcLast (s : State) (a : Nat) (v : Byte) : (s.mset a v).adcLast = s.adcLast := (rfl)
@[simp] theorem State.mset_adc (s : State) (a : Nat) (v : Byte) : (s.mset a v).adc = s.adc := (rfl)
@[simp] theorem State.mset_afePos (s : State) (a : Nat) (v : Byte) : (s.mset a v).afePos = s.afePos := (rfl)
@[simp] theorem State.mset_lanes (s : State) (a : Nat) (v : Byte) : (s.mset a v).lanes = s.lanes := (rfl)
@[simp] theorem State.mset_eths (s : State) (a : Nat) (v : Byte) : (s.mset a v).eths = s.eths := (rfl)
@[simp] theorem State.mset_prp (s : State) (a : Nat) (v : Byte) : (s.mset a v).prp = s.prp := (rfl)
@[simp] theorem State.mset_lines (s : State) (a : Nat) (v : Byte) : (s.mset a v).lines = s.lines := (rfl)
@[simp] theorem State.mset_parkWake (s : State) (a : Nat) (v : Byte) : (s.mset a v).parkWake = s.parkWake := (rfl)
@[simp] theorem State.mset_guard (s : State) (a : Nat) (v : Byte) : (s.mset a v).guard = s.guard := (rfl)
@[simp] theorem State.mset_cask (s : State) (a : Nat) (v : Byte) : (s.mset a v).cask = s.cask := (rfl)
@[simp] theorem State.mset_cores (s : State) (a : Nat) (v : Byte) : (s.mset a v).cores = s.cores := (rfl)
@[simp] theorem State.mset_dma (s : State) (a : Nat) (v : Byte) : (s.mset a v).dma = s.dma := (rfl)
@[simp] theorem State.mset_amp (s : State) (a : Nat) (v : Byte) : (s.mset a v).amp = s.amp := (rfl)
@[simp] theorem State.mset_flOp (s : State) (a : Nat) (v : Byte) : (s.mset a v).flOp = s.flOp := (rfl)

/-! ## setStr -/

@[simp] theorem State.setStr_pending (s : State) (n : Nat) (x : StrSt) : (s.setStr n x).pending = s.pending := (rfl)
@[simp] theorem State.setStr_freeCtr (s : State) (n : Nat) (x : StrSt) : (s.setStr n x).freeCtr = s.freeCtr := (rfl)
@[simp] theorem State.setStr_now (s : State) (n : Nat) (x : StrSt) : (s.setStr n x).now = s.now := (rfl)
@[simp] theorem State.setStr_ms (s : State) (n : Nat) (x : StrSt) : (s.setStr n x).ms = s.ms := (rfl)
@[simp] theorem State.setStr_regs (s : State) (n : Nat) (x : StrSt) : (s.setStr n x).regs = s.regs := (rfl)
@[simp] theorem State.setStr_eff (s : State) (n : Nat) (x : StrSt) : (s.setStr n x).eff = s.eff := (rfl)
@[simp] theorem State.setStr_mem (s : State) (n : Nat) (x : StrSt) : (s.setStr n x).mem = s.mem := (rfl)
@[simp] theorem State.setStr_flash (s : State) (n : Nat) (x : StrSt) : (s.setStr n x).flash = s.flash := (rfl)
@[simp] theorem State.setStr_tun (s : State) (n : Nat) (x : StrSt) : (s.setStr n x).tun = s.tun := (rfl)
@[simp] theorem State.setStr_dev (s : State) (n : Nat) (x : StrSt) : (s.setStr n x).dev = s.dev := (rfl)
@[simp] theorem State.setStr_nvm (s : State) (n : Nat) (x : StrSt) : (s.setStr n x).nvm = s.nvm := (rfl)
@[simp] theorem State.setStr_rst (s : State) (n : Nat) (x : StrSt) : (s.setStr n x).rst = s.rst := (rfl)
@[simp] theorem State.setStr_pins (s : State) (n : Nat) (x : StrSt) : (s.setStr n x).pins = s.pins := (rfl)
@[simp] theorem State.setStr_emit (s : State) (n : Nat) (x : StrSt) : (s.setStr n x).emit = s.emit := (rfl)
@[simp] theorem State.setStr_scan (s : State) (n : Nat) (x : StrSt) : (s.setStr n x).scan = s.scan := (rfl)
@[simp] theorem State.setStr_kiln (s : State) (n : Nat) (x : StrSt) : (s.setStr n x).kiln = s.kiln := (rfl)
@[simp] theorem State.setStr_time (s : State) (n : Nat) (x : StrSt) : (s.setStr n x).time = s.time := (rfl)
@[simp] theorem State.setStr_anchor (s : State) (n : Nat) (x : StrSt) : (s.setStr n x).anchor = s.anchor := (rfl)
@[simp] theorem State.setStr_therm (s : State) (n : Nat) (x : StrSt) : (s.setStr n x).therm = s.therm := (rfl)
@[simp] theorem State.setStr_chans (s : State) (n : Nat) (x : StrSt) : (s.setStr n x).chans = s.chans := (rfl)
@[simp] theorem State.setStr_clus (s : State) (n : Nat) (x : StrSt) : (s.setStr n x).clus = s.clus := (rfl)
@[simp] theorem State.setStr_mash (s : State) (n : Nat) (x : StrSt) : (s.setStr n x).mash = s.mash := (rfl)
@[simp] theorem State.setStr_tins (s : State) (n : Nat) (x : StrSt) : (s.setStr n x).tins = s.tins := (rfl)
@[simp] theorem State.setStr_hists (s : State) (n : Nat) (x : StrSt) : (s.setStr n x).hists = s.hists := (rfl)
@[simp] theorem State.setStr_lau (s : State) (n : Nat) (x : StrSt) : (s.setStr n x).lau = s.lau := (rfl)
@[simp] theorem State.setStr_cal (s : State) (n : Nat) (x : StrSt) : (s.setStr n x).cal = s.cal := (rfl)
@[simp] theorem State.setStr_wort (s : State) (n : Nat) (x : StrSt) : (s.setStr n x).wort = s.wort := (rfl)
@[simp] theorem State.setStr_dwl (s : State) (n : Nat) (x : StrSt) : (s.setStr n x).dwl = s.dwl := (rfl)
@[simp] theorem State.setStr_ctl (s : State) (n : Nat) (x : StrSt) : (s.setStr n x).ctl = s.ctl := (rfl)
@[simp] theorem State.setStr_adcLast (s : State) (n : Nat) (x : StrSt) : (s.setStr n x).adcLast = s.adcLast := (rfl)
@[simp] theorem State.setStr_adc (s : State) (n : Nat) (x : StrSt) : (s.setStr n x).adc = s.adc := (rfl)
@[simp] theorem State.setStr_afePos (s : State) (n : Nat) (x : StrSt) : (s.setStr n x).afePos = s.afePos := (rfl)
@[simp] theorem State.setStr_lanes (s : State) (n : Nat) (x : StrSt) : (s.setStr n x).lanes = s.lanes := (rfl)
@[simp] theorem State.setStr_eths (s : State) (n : Nat) (x : StrSt) : (s.setStr n x).eths = s.eths := (rfl)
@[simp] theorem State.setStr_prp (s : State) (n : Nat) (x : StrSt) : (s.setStr n x).prp = s.prp := (rfl)
@[simp] theorem State.setStr_lines (s : State) (n : Nat) (x : StrSt) : (s.setStr n x).lines = s.lines := (rfl)
@[simp] theorem State.setStr_parkWake (s : State) (n : Nat) (x : StrSt) : (s.setStr n x).parkWake = s.parkWake := (rfl)
@[simp] theorem State.setStr_guard (s : State) (n : Nat) (x : StrSt) : (s.setStr n x).guard = s.guard := (rfl)
@[simp] theorem State.setStr_cask (s : State) (n : Nat) (x : StrSt) : (s.setStr n x).cask = s.cask := (rfl)
@[simp] theorem State.setStr_cores (s : State) (n : Nat) (x : StrSt) : (s.setStr n x).cores = s.cores := (rfl)
@[simp] theorem State.setStr_dma (s : State) (n : Nat) (x : StrSt) : (s.setStr n x).dma = s.dma := (rfl)
@[simp] theorem State.setStr_amp (s : State) (n : Nat) (x : StrSt) : (s.setStr n x).amp = s.amp := (rfl)
@[simp] theorem State.setStr_flOp (s : State) (n : Nat) (x : StrSt) : (s.setStr n x).flOp = s.flOp := (rfl)

/-! ## line -/

@[simp] theorem State.line_pending (s : State) (c i : Nat) : (s.line c i).pending = s.pending := (rfl)
@[simp] theorem State.line_freeCtr (s : State) (c i : Nat) : (s.line c i).freeCtr = s.freeCtr := (rfl)
@[simp] theorem State.line_now (s : State) (c i : Nat) : (s.line c i).now = s.now := (rfl)
@[simp] theorem State.line_ms (s : State) (c i : Nat) : (s.line c i).ms = s.ms := (rfl)
@[simp] theorem State.line_regs (s : State) (c i : Nat) : (s.line c i).regs = s.regs := (rfl)
@[simp] theorem State.line_eff (s : State) (c i : Nat) : (s.line c i).eff = s.eff := (rfl)
@[simp] theorem State.line_mem (s : State) (c i : Nat) : (s.line c i).mem = s.mem := (rfl)
@[simp] theorem State.line_flash (s : State) (c i : Nat) : (s.line c i).flash = s.flash := (rfl)
@[simp] theorem State.line_tun (s : State) (c i : Nat) : (s.line c i).tun = s.tun := (rfl)
@[simp] theorem State.line_dev (s : State) (c i : Nat) : (s.line c i).dev = s.dev := (rfl)
@[simp] theorem State.line_nvm (s : State) (c i : Nat) : (s.line c i).nvm = s.nvm := (rfl)
@[simp] theorem State.line_rst (s : State) (c i : Nat) : (s.line c i).rst = s.rst := (rfl)
@[simp] theorem State.line_pins (s : State) (c i : Nat) : (s.line c i).pins = s.pins := (rfl)
@[simp] theorem State.line_emit (s : State) (c i : Nat) : (s.line c i).emit = s.emit := (rfl)
@[simp] theorem State.line_strs (s : State) (c i : Nat) : (s.line c i).strs = s.strs := (rfl)
@[simp] theorem State.line_scan (s : State) (c i : Nat) : (s.line c i).scan = s.scan := (rfl)
@[simp] theorem State.line_kiln (s : State) (c i : Nat) : (s.line c i).kiln = s.kiln := (rfl)
@[simp] theorem State.line_time (s : State) (c i : Nat) : (s.line c i).time = s.time := (rfl)
@[simp] theorem State.line_anchor (s : State) (c i : Nat) : (s.line c i).anchor = s.anchor := (rfl)
@[simp] theorem State.line_therm (s : State) (c i : Nat) : (s.line c i).therm = s.therm := (rfl)
@[simp] theorem State.line_chans (s : State) (c i : Nat) : (s.line c i).chans = s.chans := (rfl)
@[simp] theorem State.line_clus (s : State) (c i : Nat) : (s.line c i).clus = s.clus := (rfl)
@[simp] theorem State.line_mash (s : State) (c i : Nat) : (s.line c i).mash = s.mash := (rfl)
@[simp] theorem State.line_tins (s : State) (c i : Nat) : (s.line c i).tins = s.tins := (rfl)
@[simp] theorem State.line_hists (s : State) (c i : Nat) : (s.line c i).hists = s.hists := (rfl)
@[simp] theorem State.line_lau (s : State) (c i : Nat) : (s.line c i).lau = s.lau := (rfl)
@[simp] theorem State.line_cal (s : State) (c i : Nat) : (s.line c i).cal = s.cal := (rfl)
@[simp] theorem State.line_wort (s : State) (c i : Nat) : (s.line c i).wort = s.wort := (rfl)
@[simp] theorem State.line_dwl (s : State) (c i : Nat) : (s.line c i).dwl = s.dwl := (rfl)
@[simp] theorem State.line_ctl (s : State) (c i : Nat) : (s.line c i).ctl = s.ctl := (rfl)
@[simp] theorem State.line_adcLast (s : State) (c i : Nat) : (s.line c i).adcLast = s.adcLast := (rfl)
@[simp] theorem State.line_adc (s : State) (c i : Nat) : (s.line c i).adc = s.adc := (rfl)
@[simp] theorem State.line_afePos (s : State) (c i : Nat) : (s.line c i).afePos = s.afePos := (rfl)
@[simp] theorem State.line_lanes (s : State) (c i : Nat) : (s.line c i).lanes = s.lanes := (rfl)
@[simp] theorem State.line_eths (s : State) (c i : Nat) : (s.line c i).eths = s.eths := (rfl)
@[simp] theorem State.line_prp (s : State) (c i : Nat) : (s.line c i).prp = s.prp := (rfl)
@[simp] theorem State.line_parkWake (s : State) (c i : Nat) : (s.line c i).parkWake = s.parkWake := (rfl)
@[simp] theorem State.line_guard (s : State) (c i : Nat) : (s.line c i).guard = s.guard := (rfl)
@[simp] theorem State.line_cask (s : State) (c i : Nat) : (s.line c i).cask = s.cask := (rfl)
@[simp] theorem State.line_cores (s : State) (c i : Nat) : (s.line c i).cores = s.cores := (rfl)
@[simp] theorem State.line_dma (s : State) (c i : Nat) : (s.line c i).dma = s.dma := (rfl)
@[simp] theorem State.line_amp (s : State) (c i : Nat) : (s.line c i).amp = s.amp := (rfl)
@[simp] theorem State.line_flOp (s : State) (c i : Nat) : (s.line c i).flOp = s.flOp := (rfl)

/-! ## raiseReset -/

@[simp] theorem State.raiseReset_pending (s : State) (k : Nat) : (s.raiseReset k).pending = s.pending := (rfl)
@[simp] theorem State.raiseReset_freeCtr (s : State) (k : Nat) : (s.raiseReset k).freeCtr = s.freeCtr := (rfl)
@[simp] theorem State.raiseReset_now (s : State) (k : Nat) : (s.raiseReset k).now = s.now := (rfl)
@[simp] theorem State.raiseReset_ms (s : State) (k : Nat) : (s.raiseReset k).ms = s.ms := (rfl)
@[simp] theorem State.raiseReset_regs (s : State) (k : Nat) : (s.raiseReset k).regs = s.regs := (rfl)
@[simp] theorem State.raiseReset_eff (s : State) (k : Nat) : (s.raiseReset k).eff = s.eff := (rfl)
@[simp] theorem State.raiseReset_mem (s : State) (k : Nat) : (s.raiseReset k).mem = s.mem := (rfl)
@[simp] theorem State.raiseReset_flash (s : State) (k : Nat) : (s.raiseReset k).flash = s.flash := (rfl)
@[simp] theorem State.raiseReset_tun (s : State) (k : Nat) : (s.raiseReset k).tun = s.tun := (rfl)
@[simp] theorem State.raiseReset_dev (s : State) (k : Nat) : (s.raiseReset k).dev = s.dev := (rfl)
@[simp] theorem State.raiseReset_nvm (s : State) (k : Nat) : (s.raiseReset k).nvm = s.nvm := (rfl)
@[simp] theorem State.raiseReset_pins (s : State) (k : Nat) : (s.raiseReset k).pins = s.pins := (rfl)
@[simp] theorem State.raiseReset_emit (s : State) (k : Nat) : (s.raiseReset k).emit = s.emit := (rfl)
@[simp] theorem State.raiseReset_strs (s : State) (k : Nat) : (s.raiseReset k).strs = s.strs := (rfl)
@[simp] theorem State.raiseReset_scan (s : State) (k : Nat) : (s.raiseReset k).scan = s.scan := (rfl)
@[simp] theorem State.raiseReset_kiln (s : State) (k : Nat) : (s.raiseReset k).kiln = s.kiln := (rfl)
@[simp] theorem State.raiseReset_time (s : State) (k : Nat) : (s.raiseReset k).time = s.time := (rfl)
@[simp] theorem State.raiseReset_anchor (s : State) (k : Nat) : (s.raiseReset k).anchor = s.anchor := (rfl)
@[simp] theorem State.raiseReset_therm (s : State) (k : Nat) : (s.raiseReset k).therm = s.therm := (rfl)
@[simp] theorem State.raiseReset_chans (s : State) (k : Nat) : (s.raiseReset k).chans = s.chans := (rfl)
@[simp] theorem State.raiseReset_clus (s : State) (k : Nat) : (s.raiseReset k).clus = s.clus := (rfl)
@[simp] theorem State.raiseReset_mash (s : State) (k : Nat) : (s.raiseReset k).mash = s.mash := (rfl)
@[simp] theorem State.raiseReset_tins (s : State) (k : Nat) : (s.raiseReset k).tins = s.tins := (rfl)
@[simp] theorem State.raiseReset_hists (s : State) (k : Nat) : (s.raiseReset k).hists = s.hists := (rfl)
@[simp] theorem State.raiseReset_lau (s : State) (k : Nat) : (s.raiseReset k).lau = s.lau := (rfl)
@[simp] theorem State.raiseReset_cal (s : State) (k : Nat) : (s.raiseReset k).cal = s.cal := (rfl)
@[simp] theorem State.raiseReset_wort (s : State) (k : Nat) : (s.raiseReset k).wort = s.wort := (rfl)
@[simp] theorem State.raiseReset_dwl (s : State) (k : Nat) : (s.raiseReset k).dwl = s.dwl := (rfl)
@[simp] theorem State.raiseReset_ctl (s : State) (k : Nat) : (s.raiseReset k).ctl = s.ctl := (rfl)
@[simp] theorem State.raiseReset_adcLast (s : State) (k : Nat) : (s.raiseReset k).adcLast = s.adcLast := (rfl)
@[simp] theorem State.raiseReset_adc (s : State) (k : Nat) : (s.raiseReset k).adc = s.adc := (rfl)
@[simp] theorem State.raiseReset_afePos (s : State) (k : Nat) : (s.raiseReset k).afePos = s.afePos := (rfl)
@[simp] theorem State.raiseReset_lanes (s : State) (k : Nat) : (s.raiseReset k).lanes = s.lanes := (rfl)
@[simp] theorem State.raiseReset_eths (s : State) (k : Nat) : (s.raiseReset k).eths = s.eths := (rfl)
@[simp] theorem State.raiseReset_prp (s : State) (k : Nat) : (s.raiseReset k).prp = s.prp := (rfl)
@[simp] theorem State.raiseReset_lines (s : State) (k : Nat) : (s.raiseReset k).lines = s.lines := (rfl)
@[simp] theorem State.raiseReset_parkWake (s : State) (k : Nat) : (s.raiseReset k).parkWake = s.parkWake := (rfl)
@[simp] theorem State.raiseReset_guard (s : State) (k : Nat) : (s.raiseReset k).guard = s.guard := (rfl)
@[simp] theorem State.raiseReset_cask (s : State) (k : Nat) : (s.raiseReset k).cask = s.cask := (rfl)
@[simp] theorem State.raiseReset_cores (s : State) (k : Nat) : (s.raiseReset k).cores = s.cores := (rfl)
@[simp] theorem State.raiseReset_dma (s : State) (k : Nat) : (s.raiseReset k).dma = s.dma := (rfl)
@[simp] theorem State.raiseReset_amp (s : State) (k : Nat) : (s.raiseReset k).amp = s.amp := (rfl)
@[simp] theorem State.raiseReset_flOp (s : State) (k : Nat) : (s.raiseReset k).flOp = s.flOp := (rfl)

/-! ## setChan -/

@[simp] theorem State.setChan_pending (s : State) (c : Nat) (x : ChanSt) : (s.setChan c x).pending = s.pending := (rfl)
@[simp] theorem State.setChan_freeCtr (s : State) (c : Nat) (x : ChanSt) : (s.setChan c x).freeCtr = s.freeCtr := (rfl)
@[simp] theorem State.setChan_now (s : State) (c : Nat) (x : ChanSt) : (s.setChan c x).now = s.now := (rfl)
@[simp] theorem State.setChan_ms (s : State) (c : Nat) (x : ChanSt) : (s.setChan c x).ms = s.ms := (rfl)
@[simp] theorem State.setChan_regs (s : State) (c : Nat) (x : ChanSt) : (s.setChan c x).regs = s.regs := (rfl)
@[simp] theorem State.setChan_eff (s : State) (c : Nat) (x : ChanSt) : (s.setChan c x).eff = s.eff := (rfl)
@[simp] theorem State.setChan_mem (s : State) (c : Nat) (x : ChanSt) : (s.setChan c x).mem = s.mem := (rfl)
@[simp] theorem State.setChan_flash (s : State) (c : Nat) (x : ChanSt) : (s.setChan c x).flash = s.flash := (rfl)
@[simp] theorem State.setChan_tun (s : State) (c : Nat) (x : ChanSt) : (s.setChan c x).tun = s.tun := (rfl)
@[simp] theorem State.setChan_dev (s : State) (c : Nat) (x : ChanSt) : (s.setChan c x).dev = s.dev := (rfl)
@[simp] theorem State.setChan_nvm (s : State) (c : Nat) (x : ChanSt) : (s.setChan c x).nvm = s.nvm := (rfl)
@[simp] theorem State.setChan_rst (s : State) (c : Nat) (x : ChanSt) : (s.setChan c x).rst = s.rst := (rfl)
@[simp] theorem State.setChan_pins (s : State) (c : Nat) (x : ChanSt) : (s.setChan c x).pins = s.pins := (rfl)
@[simp] theorem State.setChan_emit (s : State) (c : Nat) (x : ChanSt) : (s.setChan c x).emit = s.emit := (rfl)
@[simp] theorem State.setChan_strs (s : State) (c : Nat) (x : ChanSt) : (s.setChan c x).strs = s.strs := (rfl)
@[simp] theorem State.setChan_scan (s : State) (c : Nat) (x : ChanSt) : (s.setChan c x).scan = s.scan := (rfl)
@[simp] theorem State.setChan_kiln (s : State) (c : Nat) (x : ChanSt) : (s.setChan c x).kiln = s.kiln := (rfl)
@[simp] theorem State.setChan_time (s : State) (c : Nat) (x : ChanSt) : (s.setChan c x).time = s.time := (rfl)
@[simp] theorem State.setChan_anchor (s : State) (c : Nat) (x : ChanSt) : (s.setChan c x).anchor = s.anchor := (rfl)
@[simp] theorem State.setChan_therm (s : State) (c : Nat) (x : ChanSt) : (s.setChan c x).therm = s.therm := (rfl)
@[simp] theorem State.setChan_clus (s : State) (c : Nat) (x : ChanSt) : (s.setChan c x).clus = s.clus := (rfl)
@[simp] theorem State.setChan_mash (s : State) (c : Nat) (x : ChanSt) : (s.setChan c x).mash = s.mash := (rfl)
@[simp] theorem State.setChan_tins (s : State) (c : Nat) (x : ChanSt) : (s.setChan c x).tins = s.tins := (rfl)
@[simp] theorem State.setChan_hists (s : State) (c : Nat) (x : ChanSt) : (s.setChan c x).hists = s.hists := (rfl)
@[simp] theorem State.setChan_lau (s : State) (c : Nat) (x : ChanSt) : (s.setChan c x).lau = s.lau := (rfl)
@[simp] theorem State.setChan_cal (s : State) (c : Nat) (x : ChanSt) : (s.setChan c x).cal = s.cal := (rfl)
@[simp] theorem State.setChan_wort (s : State) (c : Nat) (x : ChanSt) : (s.setChan c x).wort = s.wort := (rfl)
@[simp] theorem State.setChan_dwl (s : State) (c : Nat) (x : ChanSt) : (s.setChan c x).dwl = s.dwl := (rfl)
@[simp] theorem State.setChan_ctl (s : State) (c : Nat) (x : ChanSt) : (s.setChan c x).ctl = s.ctl := (rfl)
@[simp] theorem State.setChan_adcLast (s : State) (c : Nat) (x : ChanSt) : (s.setChan c x).adcLast = s.adcLast := (rfl)
@[simp] theorem State.setChan_adc (s : State) (c : Nat) (x : ChanSt) : (s.setChan c x).adc = s.adc := (rfl)
@[simp] theorem State.setChan_afePos (s : State) (c : Nat) (x : ChanSt) : (s.setChan c x).afePos = s.afePos := (rfl)
@[simp] theorem State.setChan_lanes (s : State) (c : Nat) (x : ChanSt) : (s.setChan c x).lanes = s.lanes := (rfl)
@[simp] theorem State.setChan_eths (s : State) (c : Nat) (x : ChanSt) : (s.setChan c x).eths = s.eths := (rfl)
@[simp] theorem State.setChan_prp (s : State) (c : Nat) (x : ChanSt) : (s.setChan c x).prp = s.prp := (rfl)
@[simp] theorem State.setChan_lines (s : State) (c : Nat) (x : ChanSt) : (s.setChan c x).lines = s.lines := (rfl)
@[simp] theorem State.setChan_parkWake (s : State) (c : Nat) (x : ChanSt) : (s.setChan c x).parkWake = s.parkWake := (rfl)
@[simp] theorem State.setChan_guard (s : State) (c : Nat) (x : ChanSt) : (s.setChan c x).guard = s.guard := (rfl)
@[simp] theorem State.setChan_cask (s : State) (c : Nat) (x : ChanSt) : (s.setChan c x).cask = s.cask := (rfl)
@[simp] theorem State.setChan_cores (s : State) (c : Nat) (x : ChanSt) : (s.setChan c x).cores = s.cores := (rfl)
@[simp] theorem State.setChan_dma (s : State) (c : Nat) (x : ChanSt) : (s.setChan c x).dma = s.dma := (rfl)
@[simp] theorem State.setChan_amp (s : State) (c : Nat) (x : ChanSt) : (s.setChan c x).amp = s.amp := (rfl)
@[simp] theorem State.setChan_flOp (s : State) (c : Nat) (x : ChanSt) : (s.setChan c x).flOp = s.flOp := (rfl)

/-! ## setCluster -/

@[simp] theorem State.setCluster_pending (s : State) (k : Nat) (x : CluSt) : (s.setCluster k x).pending = s.pending := (rfl)
@[simp] theorem State.setCluster_freeCtr (s : State) (k : Nat) (x : CluSt) : (s.setCluster k x).freeCtr = s.freeCtr := (rfl)
@[simp] theorem State.setCluster_now (s : State) (k : Nat) (x : CluSt) : (s.setCluster k x).now = s.now := (rfl)
@[simp] theorem State.setCluster_ms (s : State) (k : Nat) (x : CluSt) : (s.setCluster k x).ms = s.ms := (rfl)
@[simp] theorem State.setCluster_regs (s : State) (k : Nat) (x : CluSt) : (s.setCluster k x).regs = s.regs := (rfl)
@[simp] theorem State.setCluster_eff (s : State) (k : Nat) (x : CluSt) : (s.setCluster k x).eff = s.eff := (rfl)
@[simp] theorem State.setCluster_mem (s : State) (k : Nat) (x : CluSt) : (s.setCluster k x).mem = s.mem := (rfl)
@[simp] theorem State.setCluster_flash (s : State) (k : Nat) (x : CluSt) : (s.setCluster k x).flash = s.flash := (rfl)
@[simp] theorem State.setCluster_tun (s : State) (k : Nat) (x : CluSt) : (s.setCluster k x).tun = s.tun := (rfl)
@[simp] theorem State.setCluster_dev (s : State) (k : Nat) (x : CluSt) : (s.setCluster k x).dev = s.dev := (rfl)
@[simp] theorem State.setCluster_nvm (s : State) (k : Nat) (x : CluSt) : (s.setCluster k x).nvm = s.nvm := (rfl)
@[simp] theorem State.setCluster_rst (s : State) (k : Nat) (x : CluSt) : (s.setCluster k x).rst = s.rst := (rfl)
@[simp] theorem State.setCluster_pins (s : State) (k : Nat) (x : CluSt) : (s.setCluster k x).pins = s.pins := (rfl)
@[simp] theorem State.setCluster_emit (s : State) (k : Nat) (x : CluSt) : (s.setCluster k x).emit = s.emit := (rfl)
@[simp] theorem State.setCluster_strs (s : State) (k : Nat) (x : CluSt) : (s.setCluster k x).strs = s.strs := (rfl)
@[simp] theorem State.setCluster_scan (s : State) (k : Nat) (x : CluSt) : (s.setCluster k x).scan = s.scan := (rfl)
@[simp] theorem State.setCluster_kiln (s : State) (k : Nat) (x : CluSt) : (s.setCluster k x).kiln = s.kiln := (rfl)
@[simp] theorem State.setCluster_time (s : State) (k : Nat) (x : CluSt) : (s.setCluster k x).time = s.time := (rfl)
@[simp] theorem State.setCluster_anchor (s : State) (k : Nat) (x : CluSt) : (s.setCluster k x).anchor = s.anchor := (rfl)
@[simp] theorem State.setCluster_therm (s : State) (k : Nat) (x : CluSt) : (s.setCluster k x).therm = s.therm := (rfl)
@[simp] theorem State.setCluster_chans (s : State) (k : Nat) (x : CluSt) : (s.setCluster k x).chans = s.chans := (rfl)
@[simp] theorem State.setCluster_mash (s : State) (k : Nat) (x : CluSt) : (s.setCluster k x).mash = s.mash := (rfl)
@[simp] theorem State.setCluster_tins (s : State) (k : Nat) (x : CluSt) : (s.setCluster k x).tins = s.tins := (rfl)
@[simp] theorem State.setCluster_hists (s : State) (k : Nat) (x : CluSt) : (s.setCluster k x).hists = s.hists := (rfl)
@[simp] theorem State.setCluster_lau (s : State) (k : Nat) (x : CluSt) : (s.setCluster k x).lau = s.lau := (rfl)
@[simp] theorem State.setCluster_cal (s : State) (k : Nat) (x : CluSt) : (s.setCluster k x).cal = s.cal := (rfl)
@[simp] theorem State.setCluster_wort (s : State) (k : Nat) (x : CluSt) : (s.setCluster k x).wort = s.wort := (rfl)
@[simp] theorem State.setCluster_dwl (s : State) (k : Nat) (x : CluSt) : (s.setCluster k x).dwl = s.dwl := (rfl)
@[simp] theorem State.setCluster_ctl (s : State) (k : Nat) (x : CluSt) : (s.setCluster k x).ctl = s.ctl := (rfl)
@[simp] theorem State.setCluster_adcLast (s : State) (k : Nat) (x : CluSt) : (s.setCluster k x).adcLast = s.adcLast := (rfl)
@[simp] theorem State.setCluster_adc (s : State) (k : Nat) (x : CluSt) : (s.setCluster k x).adc = s.adc := (rfl)
@[simp] theorem State.setCluster_afePos (s : State) (k : Nat) (x : CluSt) : (s.setCluster k x).afePos = s.afePos := (rfl)
@[simp] theorem State.setCluster_lanes (s : State) (k : Nat) (x : CluSt) : (s.setCluster k x).lanes = s.lanes := (rfl)
@[simp] theorem State.setCluster_eths (s : State) (k : Nat) (x : CluSt) : (s.setCluster k x).eths = s.eths := (rfl)
@[simp] theorem State.setCluster_prp (s : State) (k : Nat) (x : CluSt) : (s.setCluster k x).prp = s.prp := (rfl)
@[simp] theorem State.setCluster_lines (s : State) (k : Nat) (x : CluSt) : (s.setCluster k x).lines = s.lines := (rfl)
@[simp] theorem State.setCluster_parkWake (s : State) (k : Nat) (x : CluSt) : (s.setCluster k x).parkWake = s.parkWake := (rfl)
@[simp] theorem State.setCluster_guard (s : State) (k : Nat) (x : CluSt) : (s.setCluster k x).guard = s.guard := (rfl)
@[simp] theorem State.setCluster_cask (s : State) (k : Nat) (x : CluSt) : (s.setCluster k x).cask = s.cask := (rfl)
@[simp] theorem State.setCluster_cores (s : State) (k : Nat) (x : CluSt) : (s.setCluster k x).cores = s.cores := (rfl)
@[simp] theorem State.setCluster_dma (s : State) (k : Nat) (x : CluSt) : (s.setCluster k x).dma = s.dma := (rfl)
@[simp] theorem State.setCluster_amp (s : State) (k : Nat) (x : CluSt) : (s.setCluster k x).amp = s.amp := (rfl)
@[simp] theorem State.setCluster_flOp (s : State) (k : Nat) (x : CluSt) : (s.setCluster k x).flOp = s.flOp := (rfl)

/-! ## setBin -/

@[simp] theorem State.setBin_pending (s : State) (n : Nat) (v : BitVec 16) : (s.setBin n v).pending = s.pending := (rfl)
@[simp] theorem State.setBin_freeCtr (s : State) (n : Nat) (v : BitVec 16) : (s.setBin n v).freeCtr = s.freeCtr := (rfl)
@[simp] theorem State.setBin_now (s : State) (n : Nat) (v : BitVec 16) : (s.setBin n v).now = s.now := (rfl)
@[simp] theorem State.setBin_ms (s : State) (n : Nat) (v : BitVec 16) : (s.setBin n v).ms = s.ms := (rfl)
@[simp] theorem State.setBin_regs (s : State) (n : Nat) (v : BitVec 16) : (s.setBin n v).regs = s.regs := (rfl)
@[simp] theorem State.setBin_eff (s : State) (n : Nat) (v : BitVec 16) : (s.setBin n v).eff = s.eff := (rfl)
@[simp] theorem State.setBin_mem (s : State) (n : Nat) (v : BitVec 16) : (s.setBin n v).mem = s.mem := (rfl)
@[simp] theorem State.setBin_flash (s : State) (n : Nat) (v : BitVec 16) : (s.setBin n v).flash = s.flash := (rfl)
@[simp] theorem State.setBin_dev (s : State) (n : Nat) (v : BitVec 16) : (s.setBin n v).dev = s.dev := (rfl)
@[simp] theorem State.setBin_nvm (s : State) (n : Nat) (v : BitVec 16) : (s.setBin n v).nvm = s.nvm := (rfl)
@[simp] theorem State.setBin_rst (s : State) (n : Nat) (v : BitVec 16) : (s.setBin n v).rst = s.rst := (rfl)
@[simp] theorem State.setBin_pins (s : State) (n : Nat) (v : BitVec 16) : (s.setBin n v).pins = s.pins := (rfl)
@[simp] theorem State.setBin_emit (s : State) (n : Nat) (v : BitVec 16) : (s.setBin n v).emit = s.emit := (rfl)
@[simp] theorem State.setBin_strs (s : State) (n : Nat) (v : BitVec 16) : (s.setBin n v).strs = s.strs := (rfl)
@[simp] theorem State.setBin_scan (s : State) (n : Nat) (v : BitVec 16) : (s.setBin n v).scan = s.scan := (rfl)
@[simp] theorem State.setBin_kiln (s : State) (n : Nat) (v : BitVec 16) : (s.setBin n v).kiln = s.kiln := (rfl)
@[simp] theorem State.setBin_time (s : State) (n : Nat) (v : BitVec 16) : (s.setBin n v).time = s.time := (rfl)
@[simp] theorem State.setBin_anchor (s : State) (n : Nat) (v : BitVec 16) : (s.setBin n v).anchor = s.anchor := (rfl)
@[simp] theorem State.setBin_therm (s : State) (n : Nat) (v : BitVec 16) : (s.setBin n v).therm = s.therm := (rfl)
@[simp] theorem State.setBin_chans (s : State) (n : Nat) (v : BitVec 16) : (s.setBin n v).chans = s.chans := (rfl)
@[simp] theorem State.setBin_clus (s : State) (n : Nat) (v : BitVec 16) : (s.setBin n v).clus = s.clus := (rfl)
@[simp] theorem State.setBin_mash (s : State) (n : Nat) (v : BitVec 16) : (s.setBin n v).mash = s.mash := (rfl)
@[simp] theorem State.setBin_tins (s : State) (n : Nat) (v : BitVec 16) : (s.setBin n v).tins = s.tins := (rfl)
@[simp] theorem State.setBin_hists (s : State) (n : Nat) (v : BitVec 16) : (s.setBin n v).hists = s.hists := (rfl)
@[simp] theorem State.setBin_lau (s : State) (n : Nat) (v : BitVec 16) : (s.setBin n v).lau = s.lau := (rfl)
@[simp] theorem State.setBin_cal (s : State) (n : Nat) (v : BitVec 16) : (s.setBin n v).cal = s.cal := (rfl)
@[simp] theorem State.setBin_wort (s : State) (n : Nat) (v : BitVec 16) : (s.setBin n v).wort = s.wort := (rfl)
@[simp] theorem State.setBin_dwl (s : State) (n : Nat) (v : BitVec 16) : (s.setBin n v).dwl = s.dwl := (rfl)
@[simp] theorem State.setBin_ctl (s : State) (n : Nat) (v : BitVec 16) : (s.setBin n v).ctl = s.ctl := (rfl)
@[simp] theorem State.setBin_adcLast (s : State) (n : Nat) (v : BitVec 16) : (s.setBin n v).adcLast = s.adcLast := (rfl)
@[simp] theorem State.setBin_adc (s : State) (n : Nat) (v : BitVec 16) : (s.setBin n v).adc = s.adc := (rfl)
@[simp] theorem State.setBin_afePos (s : State) (n : Nat) (v : BitVec 16) : (s.setBin n v).afePos = s.afePos := (rfl)
@[simp] theorem State.setBin_lanes (s : State) (n : Nat) (v : BitVec 16) : (s.setBin n v).lanes = s.lanes := (rfl)
@[simp] theorem State.setBin_eths (s : State) (n : Nat) (v : BitVec 16) : (s.setBin n v).eths = s.eths := (rfl)
@[simp] theorem State.setBin_prp (s : State) (n : Nat) (v : BitVec 16) : (s.setBin n v).prp = s.prp := (rfl)
@[simp] theorem State.setBin_lines (s : State) (n : Nat) (v : BitVec 16) : (s.setBin n v).lines = s.lines := (rfl)
@[simp] theorem State.setBin_parkWake (s : State) (n : Nat) (v : BitVec 16) : (s.setBin n v).parkWake = s.parkWake := (rfl)
@[simp] theorem State.setBin_guard (s : State) (n : Nat) (v : BitVec 16) : (s.setBin n v).guard = s.guard := (rfl)
@[simp] theorem State.setBin_cask (s : State) (n : Nat) (v : BitVec 16) : (s.setBin n v).cask = s.cask := (rfl)
@[simp] theorem State.setBin_cores (s : State) (n : Nat) (v : BitVec 16) : (s.setBin n v).cores = s.cores := (rfl)
@[simp] theorem State.setBin_dma (s : State) (n : Nat) (v : BitVec 16) : (s.setBin n v).dma = s.dma := (rfl)
@[simp] theorem State.setBin_amp (s : State) (n : Nat) (v : BitVec 16) : (s.setBin n v).amp = s.amp := (rfl)
@[simp] theorem State.setBin_flOp (s : State) (n : Nat) (v : BitVec 16) : (s.setBin n v).flOp = s.flOp := (rfl)

/-! ## setTin -/

@[simp] theorem State.setTin_pending (s : State) (n : Nat) (x : TinSt) : (s.setTin n x).pending = s.pending := (rfl)
@[simp] theorem State.setTin_freeCtr (s : State) (n : Nat) (x : TinSt) : (s.setTin n x).freeCtr = s.freeCtr := (rfl)
@[simp] theorem State.setTin_now (s : State) (n : Nat) (x : TinSt) : (s.setTin n x).now = s.now := (rfl)
@[simp] theorem State.setTin_ms (s : State) (n : Nat) (x : TinSt) : (s.setTin n x).ms = s.ms := (rfl)
@[simp] theorem State.setTin_regs (s : State) (n : Nat) (x : TinSt) : (s.setTin n x).regs = s.regs := (rfl)
@[simp] theorem State.setTin_eff (s : State) (n : Nat) (x : TinSt) : (s.setTin n x).eff = s.eff := (rfl)
@[simp] theorem State.setTin_mem (s : State) (n : Nat) (x : TinSt) : (s.setTin n x).mem = s.mem := (rfl)
@[simp] theorem State.setTin_flash (s : State) (n : Nat) (x : TinSt) : (s.setTin n x).flash = s.flash := (rfl)
@[simp] theorem State.setTin_tun (s : State) (n : Nat) (x : TinSt) : (s.setTin n x).tun = s.tun := (rfl)
@[simp] theorem State.setTin_dev (s : State) (n : Nat) (x : TinSt) : (s.setTin n x).dev = s.dev := (rfl)
@[simp] theorem State.setTin_nvm (s : State) (n : Nat) (x : TinSt) : (s.setTin n x).nvm = s.nvm := (rfl)
@[simp] theorem State.setTin_rst (s : State) (n : Nat) (x : TinSt) : (s.setTin n x).rst = s.rst := (rfl)
@[simp] theorem State.setTin_pins (s : State) (n : Nat) (x : TinSt) : (s.setTin n x).pins = s.pins := (rfl)
@[simp] theorem State.setTin_emit (s : State) (n : Nat) (x : TinSt) : (s.setTin n x).emit = s.emit := (rfl)
@[simp] theorem State.setTin_strs (s : State) (n : Nat) (x : TinSt) : (s.setTin n x).strs = s.strs := (rfl)
@[simp] theorem State.setTin_scan (s : State) (n : Nat) (x : TinSt) : (s.setTin n x).scan = s.scan := (rfl)
@[simp] theorem State.setTin_kiln (s : State) (n : Nat) (x : TinSt) : (s.setTin n x).kiln = s.kiln := (rfl)
@[simp] theorem State.setTin_time (s : State) (n : Nat) (x : TinSt) : (s.setTin n x).time = s.time := (rfl)
@[simp] theorem State.setTin_anchor (s : State) (n : Nat) (x : TinSt) : (s.setTin n x).anchor = s.anchor := (rfl)
@[simp] theorem State.setTin_therm (s : State) (n : Nat) (x : TinSt) : (s.setTin n x).therm = s.therm := (rfl)
@[simp] theorem State.setTin_chans (s : State) (n : Nat) (x : TinSt) : (s.setTin n x).chans = s.chans := (rfl)
@[simp] theorem State.setTin_clus (s : State) (n : Nat) (x : TinSt) : (s.setTin n x).clus = s.clus := (rfl)
@[simp] theorem State.setTin_mash (s : State) (n : Nat) (x : TinSt) : (s.setTin n x).mash = s.mash := (rfl)
@[simp] theorem State.setTin_hists (s : State) (n : Nat) (x : TinSt) : (s.setTin n x).hists = s.hists := (rfl)
@[simp] theorem State.setTin_lau (s : State) (n : Nat) (x : TinSt) : (s.setTin n x).lau = s.lau := (rfl)
@[simp] theorem State.setTin_cal (s : State) (n : Nat) (x : TinSt) : (s.setTin n x).cal = s.cal := (rfl)
@[simp] theorem State.setTin_wort (s : State) (n : Nat) (x : TinSt) : (s.setTin n x).wort = s.wort := (rfl)
@[simp] theorem State.setTin_dwl (s : State) (n : Nat) (x : TinSt) : (s.setTin n x).dwl = s.dwl := (rfl)
@[simp] theorem State.setTin_ctl (s : State) (n : Nat) (x : TinSt) : (s.setTin n x).ctl = s.ctl := (rfl)
@[simp] theorem State.setTin_adcLast (s : State) (n : Nat) (x : TinSt) : (s.setTin n x).adcLast = s.adcLast := (rfl)
@[simp] theorem State.setTin_adc (s : State) (n : Nat) (x : TinSt) : (s.setTin n x).adc = s.adc := (rfl)
@[simp] theorem State.setTin_afePos (s : State) (n : Nat) (x : TinSt) : (s.setTin n x).afePos = s.afePos := (rfl)
@[simp] theorem State.setTin_lanes (s : State) (n : Nat) (x : TinSt) : (s.setTin n x).lanes = s.lanes := (rfl)
@[simp] theorem State.setTin_eths (s : State) (n : Nat) (x : TinSt) : (s.setTin n x).eths = s.eths := (rfl)
@[simp] theorem State.setTin_prp (s : State) (n : Nat) (x : TinSt) : (s.setTin n x).prp = s.prp := (rfl)
@[simp] theorem State.setTin_lines (s : State) (n : Nat) (x : TinSt) : (s.setTin n x).lines = s.lines := (rfl)
@[simp] theorem State.setTin_parkWake (s : State) (n : Nat) (x : TinSt) : (s.setTin n x).parkWake = s.parkWake := (rfl)
@[simp] theorem State.setTin_guard (s : State) (n : Nat) (x : TinSt) : (s.setTin n x).guard = s.guard := (rfl)
@[simp] theorem State.setTin_cask (s : State) (n : Nat) (x : TinSt) : (s.setTin n x).cask = s.cask := (rfl)
@[simp] theorem State.setTin_cores (s : State) (n : Nat) (x : TinSt) : (s.setTin n x).cores = s.cores := (rfl)
@[simp] theorem State.setTin_dma (s : State) (n : Nat) (x : TinSt) : (s.setTin n x).dma = s.dma := (rfl)
@[simp] theorem State.setTin_amp (s : State) (n : Nat) (x : TinSt) : (s.setTin n x).amp = s.amp := (rfl)
@[simp] theorem State.setTin_flOp (s : State) (n : Nat) (x : TinSt) : (s.setTin n x).flOp = s.flOp := (rfl)

/-! ## setLane -/

@[simp] theorem State.setLane_pending (s : State) (n : Nat) (x : LaneSt) : (s.setLane n x).pending = s.pending := (rfl)
@[simp] theorem State.setLane_freeCtr (s : State) (n : Nat) (x : LaneSt) : (s.setLane n x).freeCtr = s.freeCtr := (rfl)
@[simp] theorem State.setLane_now (s : State) (n : Nat) (x : LaneSt) : (s.setLane n x).now = s.now := (rfl)
@[simp] theorem State.setLane_ms (s : State) (n : Nat) (x : LaneSt) : (s.setLane n x).ms = s.ms := (rfl)
@[simp] theorem State.setLane_regs (s : State) (n : Nat) (x : LaneSt) : (s.setLane n x).regs = s.regs := (rfl)
@[simp] theorem State.setLane_eff (s : State) (n : Nat) (x : LaneSt) : (s.setLane n x).eff = s.eff := (rfl)
@[simp] theorem State.setLane_mem (s : State) (n : Nat) (x : LaneSt) : (s.setLane n x).mem = s.mem := (rfl)
@[simp] theorem State.setLane_flash (s : State) (n : Nat) (x : LaneSt) : (s.setLane n x).flash = s.flash := (rfl)
@[simp] theorem State.setLane_tun (s : State) (n : Nat) (x : LaneSt) : (s.setLane n x).tun = s.tun := (rfl)
@[simp] theorem State.setLane_dev (s : State) (n : Nat) (x : LaneSt) : (s.setLane n x).dev = s.dev := (rfl)
@[simp] theorem State.setLane_nvm (s : State) (n : Nat) (x : LaneSt) : (s.setLane n x).nvm = s.nvm := (rfl)
@[simp] theorem State.setLane_rst (s : State) (n : Nat) (x : LaneSt) : (s.setLane n x).rst = s.rst := (rfl)
@[simp] theorem State.setLane_pins (s : State) (n : Nat) (x : LaneSt) : (s.setLane n x).pins = s.pins := (rfl)
@[simp] theorem State.setLane_emit (s : State) (n : Nat) (x : LaneSt) : (s.setLane n x).emit = s.emit := (rfl)
@[simp] theorem State.setLane_strs (s : State) (n : Nat) (x : LaneSt) : (s.setLane n x).strs = s.strs := (rfl)
@[simp] theorem State.setLane_scan (s : State) (n : Nat) (x : LaneSt) : (s.setLane n x).scan = s.scan := (rfl)
@[simp] theorem State.setLane_kiln (s : State) (n : Nat) (x : LaneSt) : (s.setLane n x).kiln = s.kiln := (rfl)
@[simp] theorem State.setLane_time (s : State) (n : Nat) (x : LaneSt) : (s.setLane n x).time = s.time := (rfl)
@[simp] theorem State.setLane_anchor (s : State) (n : Nat) (x : LaneSt) : (s.setLane n x).anchor = s.anchor := (rfl)
@[simp] theorem State.setLane_therm (s : State) (n : Nat) (x : LaneSt) : (s.setLane n x).therm = s.therm := (rfl)
@[simp] theorem State.setLane_chans (s : State) (n : Nat) (x : LaneSt) : (s.setLane n x).chans = s.chans := (rfl)
@[simp] theorem State.setLane_clus (s : State) (n : Nat) (x : LaneSt) : (s.setLane n x).clus = s.clus := (rfl)
@[simp] theorem State.setLane_mash (s : State) (n : Nat) (x : LaneSt) : (s.setLane n x).mash = s.mash := (rfl)
@[simp] theorem State.setLane_tins (s : State) (n : Nat) (x : LaneSt) : (s.setLane n x).tins = s.tins := (rfl)
@[simp] theorem State.setLane_hists (s : State) (n : Nat) (x : LaneSt) : (s.setLane n x).hists = s.hists := (rfl)
@[simp] theorem State.setLane_lau (s : State) (n : Nat) (x : LaneSt) : (s.setLane n x).lau = s.lau := (rfl)
@[simp] theorem State.setLane_cal (s : State) (n : Nat) (x : LaneSt) : (s.setLane n x).cal = s.cal := (rfl)
@[simp] theorem State.setLane_wort (s : State) (n : Nat) (x : LaneSt) : (s.setLane n x).wort = s.wort := (rfl)
@[simp] theorem State.setLane_dwl (s : State) (n : Nat) (x : LaneSt) : (s.setLane n x).dwl = s.dwl := (rfl)
@[simp] theorem State.setLane_ctl (s : State) (n : Nat) (x : LaneSt) : (s.setLane n x).ctl = s.ctl := (rfl)
@[simp] theorem State.setLane_adcLast (s : State) (n : Nat) (x : LaneSt) : (s.setLane n x).adcLast = s.adcLast := (rfl)
@[simp] theorem State.setLane_adc (s : State) (n : Nat) (x : LaneSt) : (s.setLane n x).adc = s.adc := (rfl)
@[simp] theorem State.setLane_afePos (s : State) (n : Nat) (x : LaneSt) : (s.setLane n x).afePos = s.afePos := (rfl)
@[simp] theorem State.setLane_eths (s : State) (n : Nat) (x : LaneSt) : (s.setLane n x).eths = s.eths := (rfl)
@[simp] theorem State.setLane_prp (s : State) (n : Nat) (x : LaneSt) : (s.setLane n x).prp = s.prp := (rfl)
@[simp] theorem State.setLane_lines (s : State) (n : Nat) (x : LaneSt) : (s.setLane n x).lines = s.lines := (rfl)
@[simp] theorem State.setLane_parkWake (s : State) (n : Nat) (x : LaneSt) : (s.setLane n x).parkWake = s.parkWake := (rfl)
@[simp] theorem State.setLane_guard (s : State) (n : Nat) (x : LaneSt) : (s.setLane n x).guard = s.guard := (rfl)
@[simp] theorem State.setLane_cask (s : State) (n : Nat) (x : LaneSt) : (s.setLane n x).cask = s.cask := (rfl)
@[simp] theorem State.setLane_cores (s : State) (n : Nat) (x : LaneSt) : (s.setLane n x).cores = s.cores := (rfl)
@[simp] theorem State.setLane_dma (s : State) (n : Nat) (x : LaneSt) : (s.setLane n x).dma = s.dma := (rfl)
@[simp] theorem State.setLane_amp (s : State) (n : Nat) (x : LaneSt) : (s.setLane n x).amp = s.amp := (rfl)
@[simp] theorem State.setLane_flOp (s : State) (n : Nat) (x : LaneSt) : (s.setLane n x).flOp = s.flOp := (rfl)

/-! ## setEth -/

@[simp] theorem State.setEth_pending (s : State) (p : Nat) (x : EthSt) : (s.setEth p x).pending = s.pending := (rfl)
@[simp] theorem State.setEth_freeCtr (s : State) (p : Nat) (x : EthSt) : (s.setEth p x).freeCtr = s.freeCtr := (rfl)
@[simp] theorem State.setEth_now (s : State) (p : Nat) (x : EthSt) : (s.setEth p x).now = s.now := (rfl)
@[simp] theorem State.setEth_ms (s : State) (p : Nat) (x : EthSt) : (s.setEth p x).ms = s.ms := (rfl)
@[simp] theorem State.setEth_regs (s : State) (p : Nat) (x : EthSt) : (s.setEth p x).regs = s.regs := (rfl)
@[simp] theorem State.setEth_eff (s : State) (p : Nat) (x : EthSt) : (s.setEth p x).eff = s.eff := (rfl)
@[simp] theorem State.setEth_mem (s : State) (p : Nat) (x : EthSt) : (s.setEth p x).mem = s.mem := (rfl)
@[simp] theorem State.setEth_flash (s : State) (p : Nat) (x : EthSt) : (s.setEth p x).flash = s.flash := (rfl)
@[simp] theorem State.setEth_tun (s : State) (p : Nat) (x : EthSt) : (s.setEth p x).tun = s.tun := (rfl)
@[simp] theorem State.setEth_dev (s : State) (p : Nat) (x : EthSt) : (s.setEth p x).dev = s.dev := (rfl)
@[simp] theorem State.setEth_nvm (s : State) (p : Nat) (x : EthSt) : (s.setEth p x).nvm = s.nvm := (rfl)
@[simp] theorem State.setEth_rst (s : State) (p : Nat) (x : EthSt) : (s.setEth p x).rst = s.rst := (rfl)
@[simp] theorem State.setEth_pins (s : State) (p : Nat) (x : EthSt) : (s.setEth p x).pins = s.pins := (rfl)
@[simp] theorem State.setEth_emit (s : State) (p : Nat) (x : EthSt) : (s.setEth p x).emit = s.emit := (rfl)
@[simp] theorem State.setEth_strs (s : State) (p : Nat) (x : EthSt) : (s.setEth p x).strs = s.strs := (rfl)
@[simp] theorem State.setEth_scan (s : State) (p : Nat) (x : EthSt) : (s.setEth p x).scan = s.scan := (rfl)
@[simp] theorem State.setEth_kiln (s : State) (p : Nat) (x : EthSt) : (s.setEth p x).kiln = s.kiln := (rfl)
@[simp] theorem State.setEth_time (s : State) (p : Nat) (x : EthSt) : (s.setEth p x).time = s.time := (rfl)
@[simp] theorem State.setEth_anchor (s : State) (p : Nat) (x : EthSt) : (s.setEth p x).anchor = s.anchor := (rfl)
@[simp] theorem State.setEth_therm (s : State) (p : Nat) (x : EthSt) : (s.setEth p x).therm = s.therm := (rfl)
@[simp] theorem State.setEth_chans (s : State) (p : Nat) (x : EthSt) : (s.setEth p x).chans = s.chans := (rfl)
@[simp] theorem State.setEth_clus (s : State) (p : Nat) (x : EthSt) : (s.setEth p x).clus = s.clus := (rfl)
@[simp] theorem State.setEth_mash (s : State) (p : Nat) (x : EthSt) : (s.setEth p x).mash = s.mash := (rfl)
@[simp] theorem State.setEth_tins (s : State) (p : Nat) (x : EthSt) : (s.setEth p x).tins = s.tins := (rfl)
@[simp] theorem State.setEth_hists (s : State) (p : Nat) (x : EthSt) : (s.setEth p x).hists = s.hists := (rfl)
@[simp] theorem State.setEth_lau (s : State) (p : Nat) (x : EthSt) : (s.setEth p x).lau = s.lau := (rfl)
@[simp] theorem State.setEth_cal (s : State) (p : Nat) (x : EthSt) : (s.setEth p x).cal = s.cal := (rfl)
@[simp] theorem State.setEth_wort (s : State) (p : Nat) (x : EthSt) : (s.setEth p x).wort = s.wort := (rfl)
@[simp] theorem State.setEth_dwl (s : State) (p : Nat) (x : EthSt) : (s.setEth p x).dwl = s.dwl := (rfl)
@[simp] theorem State.setEth_ctl (s : State) (p : Nat) (x : EthSt) : (s.setEth p x).ctl = s.ctl := (rfl)
@[simp] theorem State.setEth_adcLast (s : State) (p : Nat) (x : EthSt) : (s.setEth p x).adcLast = s.adcLast := (rfl)
@[simp] theorem State.setEth_adc (s : State) (p : Nat) (x : EthSt) : (s.setEth p x).adc = s.adc := (rfl)
@[simp] theorem State.setEth_afePos (s : State) (p : Nat) (x : EthSt) : (s.setEth p x).afePos = s.afePos := (rfl)
@[simp] theorem State.setEth_lanes (s : State) (p : Nat) (x : EthSt) : (s.setEth p x).lanes = s.lanes := (rfl)
@[simp] theorem State.setEth_prp (s : State) (p : Nat) (x : EthSt) : (s.setEth p x).prp = s.prp := (rfl)
@[simp] theorem State.setEth_lines (s : State) (p : Nat) (x : EthSt) : (s.setEth p x).lines = s.lines := (rfl)
@[simp] theorem State.setEth_parkWake (s : State) (p : Nat) (x : EthSt) : (s.setEth p x).parkWake = s.parkWake := (rfl)
@[simp] theorem State.setEth_guard (s : State) (p : Nat) (x : EthSt) : (s.setEth p x).guard = s.guard := (rfl)
@[simp] theorem State.setEth_cask (s : State) (p : Nat) (x : EthSt) : (s.setEth p x).cask = s.cask := (rfl)
@[simp] theorem State.setEth_cores (s : State) (p : Nat) (x : EthSt) : (s.setEth p x).cores = s.cores := (rfl)
@[simp] theorem State.setEth_dma (s : State) (p : Nat) (x : EthSt) : (s.setEth p x).dma = s.dma := (rfl)
@[simp] theorem State.setEth_amp (s : State) (p : Nat) (x : EthSt) : (s.setEth p x).amp = s.amp := (rfl)
@[simp] theorem State.setEth_flOp (s : State) (p : Nat) (x : EthSt) : (s.setEth p x).flOp = s.flOp := (rfl)

/-! ## setCore -/

@[simp] theorem State.setCore_pending (s : State) (c : Nat) (x : CoreSt) : (s.setCore c x).pending = s.pending := (rfl)
@[simp] theorem State.setCore_freeCtr (s : State) (c : Nat) (x : CoreSt) : (s.setCore c x).freeCtr = s.freeCtr := (rfl)
@[simp] theorem State.setCore_now (s : State) (c : Nat) (x : CoreSt) : (s.setCore c x).now = s.now := (rfl)
@[simp] theorem State.setCore_ms (s : State) (c : Nat) (x : CoreSt) : (s.setCore c x).ms = s.ms := (rfl)
@[simp] theorem State.setCore_regs (s : State) (c : Nat) (x : CoreSt) : (s.setCore c x).regs = s.regs := (rfl)
@[simp] theorem State.setCore_eff (s : State) (c : Nat) (x : CoreSt) : (s.setCore c x).eff = s.eff := (rfl)
@[simp] theorem State.setCore_mem (s : State) (c : Nat) (x : CoreSt) : (s.setCore c x).mem = s.mem := (rfl)
@[simp] theorem State.setCore_flash (s : State) (c : Nat) (x : CoreSt) : (s.setCore c x).flash = s.flash := (rfl)
@[simp] theorem State.setCore_tun (s : State) (c : Nat) (x : CoreSt) : (s.setCore c x).tun = s.tun := (rfl)
@[simp] theorem State.setCore_dev (s : State) (c : Nat) (x : CoreSt) : (s.setCore c x).dev = s.dev := (rfl)
@[simp] theorem State.setCore_nvm (s : State) (c : Nat) (x : CoreSt) : (s.setCore c x).nvm = s.nvm := (rfl)
@[simp] theorem State.setCore_rst (s : State) (c : Nat) (x : CoreSt) : (s.setCore c x).rst = s.rst := (rfl)
@[simp] theorem State.setCore_pins (s : State) (c : Nat) (x : CoreSt) : (s.setCore c x).pins = s.pins := (rfl)
@[simp] theorem State.setCore_emit (s : State) (c : Nat) (x : CoreSt) : (s.setCore c x).emit = s.emit := (rfl)
@[simp] theorem State.setCore_strs (s : State) (c : Nat) (x : CoreSt) : (s.setCore c x).strs = s.strs := (rfl)
@[simp] theorem State.setCore_scan (s : State) (c : Nat) (x : CoreSt) : (s.setCore c x).scan = s.scan := (rfl)
@[simp] theorem State.setCore_kiln (s : State) (c : Nat) (x : CoreSt) : (s.setCore c x).kiln = s.kiln := (rfl)
@[simp] theorem State.setCore_time (s : State) (c : Nat) (x : CoreSt) : (s.setCore c x).time = s.time := (rfl)
@[simp] theorem State.setCore_anchor (s : State) (c : Nat) (x : CoreSt) : (s.setCore c x).anchor = s.anchor := (rfl)
@[simp] theorem State.setCore_therm (s : State) (c : Nat) (x : CoreSt) : (s.setCore c x).therm = s.therm := (rfl)
@[simp] theorem State.setCore_chans (s : State) (c : Nat) (x : CoreSt) : (s.setCore c x).chans = s.chans := (rfl)
@[simp] theorem State.setCore_clus (s : State) (c : Nat) (x : CoreSt) : (s.setCore c x).clus = s.clus := (rfl)
@[simp] theorem State.setCore_mash (s : State) (c : Nat) (x : CoreSt) : (s.setCore c x).mash = s.mash := (rfl)
@[simp] theorem State.setCore_tins (s : State) (c : Nat) (x : CoreSt) : (s.setCore c x).tins = s.tins := (rfl)
@[simp] theorem State.setCore_hists (s : State) (c : Nat) (x : CoreSt) : (s.setCore c x).hists = s.hists := (rfl)
@[simp] theorem State.setCore_lau (s : State) (c : Nat) (x : CoreSt) : (s.setCore c x).lau = s.lau := (rfl)
@[simp] theorem State.setCore_cal (s : State) (c : Nat) (x : CoreSt) : (s.setCore c x).cal = s.cal := (rfl)
@[simp] theorem State.setCore_wort (s : State) (c : Nat) (x : CoreSt) : (s.setCore c x).wort = s.wort := (rfl)
@[simp] theorem State.setCore_dwl (s : State) (c : Nat) (x : CoreSt) : (s.setCore c x).dwl = s.dwl := (rfl)
@[simp] theorem State.setCore_ctl (s : State) (c : Nat) (x : CoreSt) : (s.setCore c x).ctl = s.ctl := (rfl)
@[simp] theorem State.setCore_adcLast (s : State) (c : Nat) (x : CoreSt) : (s.setCore c x).adcLast = s.adcLast := (rfl)
@[simp] theorem State.setCore_adc (s : State) (c : Nat) (x : CoreSt) : (s.setCore c x).adc = s.adc := (rfl)
@[simp] theorem State.setCore_afePos (s : State) (c : Nat) (x : CoreSt) : (s.setCore c x).afePos = s.afePos := (rfl)
@[simp] theorem State.setCore_lanes (s : State) (c : Nat) (x : CoreSt) : (s.setCore c x).lanes = s.lanes := (rfl)
@[simp] theorem State.setCore_eths (s : State) (c : Nat) (x : CoreSt) : (s.setCore c x).eths = s.eths := (rfl)
@[simp] theorem State.setCore_prp (s : State) (c : Nat) (x : CoreSt) : (s.setCore c x).prp = s.prp := (rfl)
@[simp] theorem State.setCore_lines (s : State) (c : Nat) (x : CoreSt) : (s.setCore c x).lines = s.lines := (rfl)
@[simp] theorem State.setCore_parkWake (s : State) (c : Nat) (x : CoreSt) : (s.setCore c x).parkWake = s.parkWake := (rfl)
@[simp] theorem State.setCore_guard (s : State) (c : Nat) (x : CoreSt) : (s.setCore c x).guard = s.guard := (rfl)
@[simp] theorem State.setCore_cask (s : State) (c : Nat) (x : CoreSt) : (s.setCore c x).cask = s.cask := (rfl)
@[simp] theorem State.setCore_dma (s : State) (c : Nat) (x : CoreSt) : (s.setCore c x).dma = s.dma := (rfl)
@[simp] theorem State.setCore_amp (s : State) (c : Nat) (x : CoreSt) : (s.setCore c x).amp = s.amp := (rfl)
@[simp] theorem State.setCore_flOp (s : State) (c : Nat) (x : CoreSt) : (s.setCore c x).flOp = s.flOp := (rfl)

/-! ## modStream -/

@[simp] theorem State.modStream_pending (s : State) (st : Nat) (g : StreamSt → StreamSt) : (s.modStream st g).pending = s.pending := (rfl)
@[simp] theorem State.modStream_freeCtr (s : State) (st : Nat) (g : StreamSt → StreamSt) : (s.modStream st g).freeCtr = s.freeCtr := (rfl)
@[simp] theorem State.modStream_now (s : State) (st : Nat) (g : StreamSt → StreamSt) : (s.modStream st g).now = s.now := (rfl)
@[simp] theorem State.modStream_ms (s : State) (st : Nat) (g : StreamSt → StreamSt) : (s.modStream st g).ms = s.ms := (rfl)
@[simp] theorem State.modStream_regs (s : State) (st : Nat) (g : StreamSt → StreamSt) : (s.modStream st g).regs = s.regs := (rfl)
@[simp] theorem State.modStream_eff (s : State) (st : Nat) (g : StreamSt → StreamSt) : (s.modStream st g).eff = s.eff := (rfl)
@[simp] theorem State.modStream_mem (s : State) (st : Nat) (g : StreamSt → StreamSt) : (s.modStream st g).mem = s.mem := (rfl)
@[simp] theorem State.modStream_flash (s : State) (st : Nat) (g : StreamSt → StreamSt) : (s.modStream st g).flash = s.flash := (rfl)
@[simp] theorem State.modStream_tun (s : State) (st : Nat) (g : StreamSt → StreamSt) : (s.modStream st g).tun = s.tun := (rfl)
@[simp] theorem State.modStream_dev (s : State) (st : Nat) (g : StreamSt → StreamSt) : (s.modStream st g).dev = s.dev := (rfl)
@[simp] theorem State.modStream_nvm (s : State) (st : Nat) (g : StreamSt → StreamSt) : (s.modStream st g).nvm = s.nvm := (rfl)
@[simp] theorem State.modStream_rst (s : State) (st : Nat) (g : StreamSt → StreamSt) : (s.modStream st g).rst = s.rst := (rfl)
@[simp] theorem State.modStream_pins (s : State) (st : Nat) (g : StreamSt → StreamSt) : (s.modStream st g).pins = s.pins := (rfl)
@[simp] theorem State.modStream_emit (s : State) (st : Nat) (g : StreamSt → StreamSt) : (s.modStream st g).emit = s.emit := (rfl)
@[simp] theorem State.modStream_strs (s : State) (st : Nat) (g : StreamSt → StreamSt) : (s.modStream st g).strs = s.strs := (rfl)
@[simp] theorem State.modStream_scan (s : State) (st : Nat) (g : StreamSt → StreamSt) : (s.modStream st g).scan = s.scan := (rfl)
@[simp] theorem State.modStream_kiln (s : State) (st : Nat) (g : StreamSt → StreamSt) : (s.modStream st g).kiln = s.kiln := (rfl)
@[simp] theorem State.modStream_time (s : State) (st : Nat) (g : StreamSt → StreamSt) : (s.modStream st g).time = s.time := (rfl)
@[simp] theorem State.modStream_anchor (s : State) (st : Nat) (g : StreamSt → StreamSt) : (s.modStream st g).anchor = s.anchor := (rfl)
@[simp] theorem State.modStream_therm (s : State) (st : Nat) (g : StreamSt → StreamSt) : (s.modStream st g).therm = s.therm := (rfl)
@[simp] theorem State.modStream_chans (s : State) (st : Nat) (g : StreamSt → StreamSt) : (s.modStream st g).chans = s.chans := (rfl)
@[simp] theorem State.modStream_clus (s : State) (st : Nat) (g : StreamSt → StreamSt) : (s.modStream st g).clus = s.clus := (rfl)
@[simp] theorem State.modStream_mash (s : State) (st : Nat) (g : StreamSt → StreamSt) : (s.modStream st g).mash = s.mash := (rfl)
@[simp] theorem State.modStream_tins (s : State) (st : Nat) (g : StreamSt → StreamSt) : (s.modStream st g).tins = s.tins := (rfl)
@[simp] theorem State.modStream_hists (s : State) (st : Nat) (g : StreamSt → StreamSt) : (s.modStream st g).hists = s.hists := (rfl)
@[simp] theorem State.modStream_lau (s : State) (st : Nat) (g : StreamSt → StreamSt) : (s.modStream st g).lau = s.lau := (rfl)
@[simp] theorem State.modStream_cal (s : State) (st : Nat) (g : StreamSt → StreamSt) : (s.modStream st g).cal = s.cal := (rfl)
@[simp] theorem State.modStream_dwl (s : State) (st : Nat) (g : StreamSt → StreamSt) : (s.modStream st g).dwl = s.dwl := (rfl)
@[simp] theorem State.modStream_ctl (s : State) (st : Nat) (g : StreamSt → StreamSt) : (s.modStream st g).ctl = s.ctl := (rfl)
@[simp] theorem State.modStream_adcLast (s : State) (st : Nat) (g : StreamSt → StreamSt) : (s.modStream st g).adcLast = s.adcLast := (rfl)
@[simp] theorem State.modStream_adc (s : State) (st : Nat) (g : StreamSt → StreamSt) : (s.modStream st g).adc = s.adc := (rfl)
@[simp] theorem State.modStream_afePos (s : State) (st : Nat) (g : StreamSt → StreamSt) : (s.modStream st g).afePos = s.afePos := (rfl)
@[simp] theorem State.modStream_lanes (s : State) (st : Nat) (g : StreamSt → StreamSt) : (s.modStream st g).lanes = s.lanes := (rfl)
@[simp] theorem State.modStream_eths (s : State) (st : Nat) (g : StreamSt → StreamSt) : (s.modStream st g).eths = s.eths := (rfl)
@[simp] theorem State.modStream_prp (s : State) (st : Nat) (g : StreamSt → StreamSt) : (s.modStream st g).prp = s.prp := (rfl)
@[simp] theorem State.modStream_lines (s : State) (st : Nat) (g : StreamSt → StreamSt) : (s.modStream st g).lines = s.lines := (rfl)
@[simp] theorem State.modStream_parkWake (s : State) (st : Nat) (g : StreamSt → StreamSt) : (s.modStream st g).parkWake = s.parkWake := (rfl)
@[simp] theorem State.modStream_guard (s : State) (st : Nat) (g : StreamSt → StreamSt) : (s.modStream st g).guard = s.guard := (rfl)
@[simp] theorem State.modStream_cask (s : State) (st : Nat) (g : StreamSt → StreamSt) : (s.modStream st g).cask = s.cask := (rfl)
@[simp] theorem State.modStream_cores (s : State) (st : Nat) (g : StreamSt → StreamSt) : (s.modStream st g).cores = s.cores := (rfl)
@[simp] theorem State.modStream_dma (s : State) (st : Nat) (g : StreamSt → StreamSt) : (s.modStream st g).dma = s.dma := (rfl)
@[simp] theorem State.modStream_amp (s : State) (st : Nat) (g : StreamSt → StreamSt) : (s.modStream st g).amp = s.amp := (rfl)
@[simp] theorem State.modStream_flOp (s : State) (st : Nat) (g : StreamSt → StreamSt) : (s.modStream st g).flOp = s.flOp := (rfl)

/-! ## The setters of the parts -/

@[simp] theorem State.withNow_pending (s : State) (x : Nat) : (s.withNow x).pending = s.pending := (rfl)
@[simp] theorem State.withNow_freeCtr (s : State) (x : Nat) : (s.withNow x).freeCtr = s.freeCtr := (rfl)
@[simp] theorem State.withNow_now (s : State) (x : Nat) : (s.withNow x).now = x := (rfl)
@[simp] theorem State.withNow_ms (s : State) (x : Nat) : (s.withNow x).ms = s.ms := (rfl)
@[simp] theorem State.withNow_regs (s : State) (x : Nat) : (s.withNow x).regs = s.regs := (rfl)
@[simp] theorem State.withNow_eff (s : State) (x : Nat) : (s.withNow x).eff = s.eff := (rfl)
@[simp] theorem State.withNow_mem (s : State) (x : Nat) : (s.withNow x).mem = s.mem := (rfl)
@[simp] theorem State.withNow_flash (s : State) (x : Nat) : (s.withNow x).flash = s.flash := (rfl)
@[simp] theorem State.withNow_tun (s : State) (x : Nat) : (s.withNow x).tun = s.tun := (rfl)
@[simp] theorem State.withNow_dev (s : State) (x : Nat) : (s.withNow x).dev = s.dev := (rfl)
@[simp] theorem State.withNow_nvm (s : State) (x : Nat) : (s.withNow x).nvm = s.nvm := (rfl)
@[simp] theorem State.withNow_rst (s : State) (x : Nat) : (s.withNow x).rst = s.rst := (rfl)
@[simp] theorem State.withNow_pins (s : State) (x : Nat) : (s.withNow x).pins = s.pins := (rfl)
@[simp] theorem State.withNow_emit (s : State) (x : Nat) : (s.withNow x).emit = s.emit := (rfl)
@[simp] theorem State.withNow_strs (s : State) (x : Nat) : (s.withNow x).strs = s.strs := (rfl)
@[simp] theorem State.withNow_scan (s : State) (x : Nat) : (s.withNow x).scan = s.scan := (rfl)
@[simp] theorem State.withNow_kiln (s : State) (x : Nat) : (s.withNow x).kiln = s.kiln := (rfl)
@[simp] theorem State.withNow_time (s : State) (x : Nat) : (s.withNow x).time = s.time := (rfl)
@[simp] theorem State.withNow_anchor (s : State) (x : Nat) : (s.withNow x).anchor = s.anchor := (rfl)
@[simp] theorem State.withNow_therm (s : State) (x : Nat) : (s.withNow x).therm = s.therm := (rfl)
@[simp] theorem State.withNow_chans (s : State) (x : Nat) : (s.withNow x).chans = s.chans := (rfl)
@[simp] theorem State.withNow_clus (s : State) (x : Nat) : (s.withNow x).clus = s.clus := (rfl)
@[simp] theorem State.withNow_mash (s : State) (x : Nat) : (s.withNow x).mash = s.mash := (rfl)
@[simp] theorem State.withNow_tins (s : State) (x : Nat) : (s.withNow x).tins = s.tins := (rfl)
@[simp] theorem State.withNow_hists (s : State) (x : Nat) : (s.withNow x).hists = s.hists := (rfl)
@[simp] theorem State.withNow_lau (s : State) (x : Nat) : (s.withNow x).lau = s.lau := (rfl)
@[simp] theorem State.withNow_cal (s : State) (x : Nat) : (s.withNow x).cal = s.cal := (rfl)
@[simp] theorem State.withNow_wort (s : State) (x : Nat) : (s.withNow x).wort = s.wort := (rfl)
@[simp] theorem State.withNow_dwl (s : State) (x : Nat) : (s.withNow x).dwl = s.dwl := (rfl)
@[simp] theorem State.withNow_ctl (s : State) (x : Nat) : (s.withNow x).ctl = s.ctl := (rfl)
@[simp] theorem State.withNow_adcLast (s : State) (x : Nat) : (s.withNow x).adcLast = s.adcLast := (rfl)
@[simp] theorem State.withNow_adc (s : State) (x : Nat) : (s.withNow x).adc = s.adc := (rfl)
@[simp] theorem State.withNow_afePos (s : State) (x : Nat) : (s.withNow x).afePos = s.afePos := (rfl)
@[simp] theorem State.withNow_lanes (s : State) (x : Nat) : (s.withNow x).lanes = s.lanes := (rfl)
@[simp] theorem State.withNow_eths (s : State) (x : Nat) : (s.withNow x).eths = s.eths := (rfl)
@[simp] theorem State.withNow_prp (s : State) (x : Nat) : (s.withNow x).prp = s.prp := (rfl)
@[simp] theorem State.withNow_lines (s : State) (x : Nat) : (s.withNow x).lines = s.lines := (rfl)
@[simp] theorem State.withNow_parkWake (s : State) (x : Nat) : (s.withNow x).parkWake = s.parkWake := (rfl)
@[simp] theorem State.withNow_guard (s : State) (x : Nat) : (s.withNow x).guard = s.guard := (rfl)
@[simp] theorem State.withNow_cask (s : State) (x : Nat) : (s.withNow x).cask = s.cask := (rfl)
@[simp] theorem State.withNow_cores (s : State) (x : Nat) : (s.withNow x).cores = s.cores := (rfl)
@[simp] theorem State.withNow_dma (s : State) (x : Nat) : (s.withNow x).dma = s.dma := (rfl)
@[simp] theorem State.withNow_amp (s : State) (x : Nat) : (s.withNow x).amp = s.amp := (rfl)
@[simp] theorem State.withNow_flOp (s : State) (x : Nat) : (s.withNow x).flOp = s.flOp := (rfl)
@[simp] theorem State.withNow_rget (s : State) (x : Nat) (a : Nat) : (s.withNow x).rget a = s.rget a := (rfl)
@[simp] theorem State.withNow_f (s : State) (x : Nat) (F : Fld) : (s.withNow x).f F = s.f F := (rfl)
@[simp] theorem State.withNow_b (s : State) (x : Nat) (F : Fld) : (s.withNow x).b F = s.b F := (rfl)
@[simp] theorem State.withNow_fs (s : State) (x : Nat) (F : Fld) : (s.withNow x).fs F = s.fs F := (rfl)
@[simp] theorem State.withMs_pending (s : State) (x : Nat) : (s.withMs x).pending = s.pending := (rfl)
@[simp] theorem State.withMs_freeCtr (s : State) (x : Nat) : (s.withMs x).freeCtr = s.freeCtr := (rfl)
@[simp] theorem State.withMs_now (s : State) (x : Nat) : (s.withMs x).now = s.now := (rfl)
@[simp] theorem State.withMs_ms (s : State) (x : Nat) : (s.withMs x).ms = x := (rfl)
@[simp] theorem State.withMs_regs (s : State) (x : Nat) : (s.withMs x).regs = s.regs := (rfl)
@[simp] theorem State.withMs_eff (s : State) (x : Nat) : (s.withMs x).eff = s.eff := (rfl)
@[simp] theorem State.withMs_mem (s : State) (x : Nat) : (s.withMs x).mem = s.mem := (rfl)
@[simp] theorem State.withMs_flash (s : State) (x : Nat) : (s.withMs x).flash = s.flash := (rfl)
@[simp] theorem State.withMs_tun (s : State) (x : Nat) : (s.withMs x).tun = s.tun := (rfl)
@[simp] theorem State.withMs_dev (s : State) (x : Nat) : (s.withMs x).dev = s.dev := (rfl)
@[simp] theorem State.withMs_nvm (s : State) (x : Nat) : (s.withMs x).nvm = s.nvm := (rfl)
@[simp] theorem State.withMs_rst (s : State) (x : Nat) : (s.withMs x).rst = s.rst := (rfl)
@[simp] theorem State.withMs_pins (s : State) (x : Nat) : (s.withMs x).pins = s.pins := (rfl)
@[simp] theorem State.withMs_emit (s : State) (x : Nat) : (s.withMs x).emit = s.emit := (rfl)
@[simp] theorem State.withMs_strs (s : State) (x : Nat) : (s.withMs x).strs = s.strs := (rfl)
@[simp] theorem State.withMs_scan (s : State) (x : Nat) : (s.withMs x).scan = s.scan := (rfl)
@[simp] theorem State.withMs_kiln (s : State) (x : Nat) : (s.withMs x).kiln = s.kiln := (rfl)
@[simp] theorem State.withMs_time (s : State) (x : Nat) : (s.withMs x).time = s.time := (rfl)
@[simp] theorem State.withMs_anchor (s : State) (x : Nat) : (s.withMs x).anchor = s.anchor := (rfl)
@[simp] theorem State.withMs_therm (s : State) (x : Nat) : (s.withMs x).therm = s.therm := (rfl)
@[simp] theorem State.withMs_chans (s : State) (x : Nat) : (s.withMs x).chans = s.chans := (rfl)
@[simp] theorem State.withMs_clus (s : State) (x : Nat) : (s.withMs x).clus = s.clus := (rfl)
@[simp] theorem State.withMs_mash (s : State) (x : Nat) : (s.withMs x).mash = s.mash := (rfl)
@[simp] theorem State.withMs_tins (s : State) (x : Nat) : (s.withMs x).tins = s.tins := (rfl)
@[simp] theorem State.withMs_hists (s : State) (x : Nat) : (s.withMs x).hists = s.hists := (rfl)
@[simp] theorem State.withMs_lau (s : State) (x : Nat) : (s.withMs x).lau = s.lau := (rfl)
@[simp] theorem State.withMs_cal (s : State) (x : Nat) : (s.withMs x).cal = s.cal := (rfl)
@[simp] theorem State.withMs_wort (s : State) (x : Nat) : (s.withMs x).wort = s.wort := (rfl)
@[simp] theorem State.withMs_dwl (s : State) (x : Nat) : (s.withMs x).dwl = s.dwl := (rfl)
@[simp] theorem State.withMs_ctl (s : State) (x : Nat) : (s.withMs x).ctl = s.ctl := (rfl)
@[simp] theorem State.withMs_adcLast (s : State) (x : Nat) : (s.withMs x).adcLast = s.adcLast := (rfl)
@[simp] theorem State.withMs_adc (s : State) (x : Nat) : (s.withMs x).adc = s.adc := (rfl)
@[simp] theorem State.withMs_afePos (s : State) (x : Nat) : (s.withMs x).afePos = s.afePos := (rfl)
@[simp] theorem State.withMs_lanes (s : State) (x : Nat) : (s.withMs x).lanes = s.lanes := (rfl)
@[simp] theorem State.withMs_eths (s : State) (x : Nat) : (s.withMs x).eths = s.eths := (rfl)
@[simp] theorem State.withMs_prp (s : State) (x : Nat) : (s.withMs x).prp = s.prp := (rfl)
@[simp] theorem State.withMs_lines (s : State) (x : Nat) : (s.withMs x).lines = s.lines := (rfl)
@[simp] theorem State.withMs_parkWake (s : State) (x : Nat) : (s.withMs x).parkWake = s.parkWake := (rfl)
@[simp] theorem State.withMs_guard (s : State) (x : Nat) : (s.withMs x).guard = s.guard := (rfl)
@[simp] theorem State.withMs_cask (s : State) (x : Nat) : (s.withMs x).cask = s.cask := (rfl)
@[simp] theorem State.withMs_cores (s : State) (x : Nat) : (s.withMs x).cores = s.cores := (rfl)
@[simp] theorem State.withMs_dma (s : State) (x : Nat) : (s.withMs x).dma = s.dma := (rfl)
@[simp] theorem State.withMs_amp (s : State) (x : Nat) : (s.withMs x).amp = s.amp := (rfl)
@[simp] theorem State.withMs_flOp (s : State) (x : Nat) : (s.withMs x).flOp = s.flOp := (rfl)
@[simp] theorem State.withMs_rget (s : State) (x : Nat) (a : Nat) : (s.withMs x).rget a = s.rget a := (rfl)
@[simp] theorem State.withMs_f (s : State) (x : Nat) (F : Fld) : (s.withMs x).f F = s.f F := (rfl)
@[simp] theorem State.withMs_b (s : State) (x : Nat) (F : Fld) : (s.withMs x).b F = s.b F := (rfl)
@[simp] theorem State.withMs_fs (s : State) (x : Nat) (F : Fld) : (s.withMs x).fs F = s.fs F := (rfl)
@[simp] theorem State.withEff_pending (s : State) (x : SMap Word) : (s.withEff x).pending = s.pending := (rfl)
@[simp] theorem State.withEff_freeCtr (s : State) (x : SMap Word) : (s.withEff x).freeCtr = s.freeCtr := (rfl)
@[simp] theorem State.withEff_now (s : State) (x : SMap Word) : (s.withEff x).now = s.now := (rfl)
@[simp] theorem State.withEff_ms (s : State) (x : SMap Word) : (s.withEff x).ms = s.ms := (rfl)
@[simp] theorem State.withEff_regs (s : State) (x : SMap Word) : (s.withEff x).regs = s.regs := (rfl)
@[simp] theorem State.withEff_eff (s : State) (x : SMap Word) : (s.withEff x).eff = x := (rfl)
@[simp] theorem State.withEff_mem (s : State) (x : SMap Word) : (s.withEff x).mem = s.mem := (rfl)
@[simp] theorem State.withEff_flash (s : State) (x : SMap Word) : (s.withEff x).flash = s.flash := (rfl)
@[simp] theorem State.withEff_tun (s : State) (x : SMap Word) : (s.withEff x).tun = s.tun := (rfl)
@[simp] theorem State.withEff_dev (s : State) (x : SMap Word) : (s.withEff x).dev = s.dev := (rfl)
@[simp] theorem State.withEff_nvm (s : State) (x : SMap Word) : (s.withEff x).nvm = s.nvm := (rfl)
@[simp] theorem State.withEff_rst (s : State) (x : SMap Word) : (s.withEff x).rst = s.rst := (rfl)
@[simp] theorem State.withEff_pins (s : State) (x : SMap Word) : (s.withEff x).pins = s.pins := (rfl)
@[simp] theorem State.withEff_emit (s : State) (x : SMap Word) : (s.withEff x).emit = s.emit := (rfl)
@[simp] theorem State.withEff_strs (s : State) (x : SMap Word) : (s.withEff x).strs = s.strs := (rfl)
@[simp] theorem State.withEff_scan (s : State) (x : SMap Word) : (s.withEff x).scan = s.scan := (rfl)
@[simp] theorem State.withEff_kiln (s : State) (x : SMap Word) : (s.withEff x).kiln = s.kiln := (rfl)
@[simp] theorem State.withEff_time (s : State) (x : SMap Word) : (s.withEff x).time = s.time := (rfl)
@[simp] theorem State.withEff_anchor (s : State) (x : SMap Word) : (s.withEff x).anchor = s.anchor := (rfl)
@[simp] theorem State.withEff_therm (s : State) (x : SMap Word) : (s.withEff x).therm = s.therm := (rfl)
@[simp] theorem State.withEff_chans (s : State) (x : SMap Word) : (s.withEff x).chans = s.chans := (rfl)
@[simp] theorem State.withEff_clus (s : State) (x : SMap Word) : (s.withEff x).clus = s.clus := (rfl)
@[simp] theorem State.withEff_mash (s : State) (x : SMap Word) : (s.withEff x).mash = s.mash := (rfl)
@[simp] theorem State.withEff_tins (s : State) (x : SMap Word) : (s.withEff x).tins = s.tins := (rfl)
@[simp] theorem State.withEff_hists (s : State) (x : SMap Word) : (s.withEff x).hists = s.hists := (rfl)
@[simp] theorem State.withEff_lau (s : State) (x : SMap Word) : (s.withEff x).lau = s.lau := (rfl)
@[simp] theorem State.withEff_cal (s : State) (x : SMap Word) : (s.withEff x).cal = s.cal := (rfl)
@[simp] theorem State.withEff_wort (s : State) (x : SMap Word) : (s.withEff x).wort = s.wort := (rfl)
@[simp] theorem State.withEff_dwl (s : State) (x : SMap Word) : (s.withEff x).dwl = s.dwl := (rfl)
@[simp] theorem State.withEff_ctl (s : State) (x : SMap Word) : (s.withEff x).ctl = s.ctl := (rfl)
@[simp] theorem State.withEff_adcLast (s : State) (x : SMap Word) : (s.withEff x).adcLast = s.adcLast := (rfl)
@[simp] theorem State.withEff_adc (s : State) (x : SMap Word) : (s.withEff x).adc = s.adc := (rfl)
@[simp] theorem State.withEff_afePos (s : State) (x : SMap Word) : (s.withEff x).afePos = s.afePos := (rfl)
@[simp] theorem State.withEff_lanes (s : State) (x : SMap Word) : (s.withEff x).lanes = s.lanes := (rfl)
@[simp] theorem State.withEff_eths (s : State) (x : SMap Word) : (s.withEff x).eths = s.eths := (rfl)
@[simp] theorem State.withEff_prp (s : State) (x : SMap Word) : (s.withEff x).prp = s.prp := (rfl)
@[simp] theorem State.withEff_lines (s : State) (x : SMap Word) : (s.withEff x).lines = s.lines := (rfl)
@[simp] theorem State.withEff_parkWake (s : State) (x : SMap Word) : (s.withEff x).parkWake = s.parkWake := (rfl)
@[simp] theorem State.withEff_guard (s : State) (x : SMap Word) : (s.withEff x).guard = s.guard := (rfl)
@[simp] theorem State.withEff_cask (s : State) (x : SMap Word) : (s.withEff x).cask = s.cask := (rfl)
@[simp] theorem State.withEff_cores (s : State) (x : SMap Word) : (s.withEff x).cores = s.cores := (rfl)
@[simp] theorem State.withEff_dma (s : State) (x : SMap Word) : (s.withEff x).dma = s.dma := (rfl)
@[simp] theorem State.withEff_amp (s : State) (x : SMap Word) : (s.withEff x).amp = s.amp := (rfl)
@[simp] theorem State.withEff_flOp (s : State) (x : SMap Word) : (s.withEff x).flOp = s.flOp := (rfl)
@[simp] theorem State.withEff_rget (s : State) (x : SMap Word) (a : Nat) : (s.withEff x).rget a = s.rget a := (rfl)
@[simp] theorem State.withEff_f (s : State) (x : SMap Word) (F : Fld) : (s.withEff x).f F = s.f F := (rfl)
@[simp] theorem State.withEff_b (s : State) (x : SMap Word) (F : Fld) : (s.withEff x).b F = s.b F := (rfl)
@[simp] theorem State.withEff_fs (s : State) (x : SMap Word) (F : Fld) : (s.withEff x).fs F = s.fs F := (rfl)
@[simp] theorem State.withFlash_pending (s : State) (x : List Host.Cell) : (s.withFlash x).pending = s.pending := (rfl)
@[simp] theorem State.withFlash_freeCtr (s : State) (x : List Host.Cell) : (s.withFlash x).freeCtr = s.freeCtr := (rfl)
@[simp] theorem State.withFlash_now (s : State) (x : List Host.Cell) : (s.withFlash x).now = s.now := (rfl)
@[simp] theorem State.withFlash_ms (s : State) (x : List Host.Cell) : (s.withFlash x).ms = s.ms := (rfl)
@[simp] theorem State.withFlash_regs (s : State) (x : List Host.Cell) : (s.withFlash x).regs = s.regs := (rfl)
@[simp] theorem State.withFlash_eff (s : State) (x : List Host.Cell) : (s.withFlash x).eff = s.eff := (rfl)
@[simp] theorem State.withFlash_mem (s : State) (x : List Host.Cell) : (s.withFlash x).mem = s.mem := (rfl)
@[simp] theorem State.withFlash_flash (s : State) (x : List Host.Cell) : (s.withFlash x).flash = x := (rfl)
@[simp] theorem State.withFlash_tun (s : State) (x : List Host.Cell) : (s.withFlash x).tun = s.tun := (rfl)
@[simp] theorem State.withFlash_dev (s : State) (x : List Host.Cell) : (s.withFlash x).dev = s.dev := (rfl)
@[simp] theorem State.withFlash_nvm (s : State) (x : List Host.Cell) : (s.withFlash x).nvm = s.nvm := (rfl)
@[simp] theorem State.withFlash_rst (s : State) (x : List Host.Cell) : (s.withFlash x).rst = s.rst := (rfl)
@[simp] theorem State.withFlash_pins (s : State) (x : List Host.Cell) : (s.withFlash x).pins = s.pins := (rfl)
@[simp] theorem State.withFlash_emit (s : State) (x : List Host.Cell) : (s.withFlash x).emit = s.emit := (rfl)
@[simp] theorem State.withFlash_strs (s : State) (x : List Host.Cell) : (s.withFlash x).strs = s.strs := (rfl)
@[simp] theorem State.withFlash_scan (s : State) (x : List Host.Cell) : (s.withFlash x).scan = s.scan := (rfl)
@[simp] theorem State.withFlash_kiln (s : State) (x : List Host.Cell) : (s.withFlash x).kiln = s.kiln := (rfl)
@[simp] theorem State.withFlash_time (s : State) (x : List Host.Cell) : (s.withFlash x).time = s.time := (rfl)
@[simp] theorem State.withFlash_anchor (s : State) (x : List Host.Cell) : (s.withFlash x).anchor = s.anchor := (rfl)
@[simp] theorem State.withFlash_therm (s : State) (x : List Host.Cell) : (s.withFlash x).therm = s.therm := (rfl)
@[simp] theorem State.withFlash_chans (s : State) (x : List Host.Cell) : (s.withFlash x).chans = s.chans := (rfl)
@[simp] theorem State.withFlash_clus (s : State) (x : List Host.Cell) : (s.withFlash x).clus = s.clus := (rfl)
@[simp] theorem State.withFlash_mash (s : State) (x : List Host.Cell) : (s.withFlash x).mash = s.mash := (rfl)
@[simp] theorem State.withFlash_tins (s : State) (x : List Host.Cell) : (s.withFlash x).tins = s.tins := (rfl)
@[simp] theorem State.withFlash_hists (s : State) (x : List Host.Cell) : (s.withFlash x).hists = s.hists := (rfl)
@[simp] theorem State.withFlash_lau (s : State) (x : List Host.Cell) : (s.withFlash x).lau = s.lau := (rfl)
@[simp] theorem State.withFlash_cal (s : State) (x : List Host.Cell) : (s.withFlash x).cal = s.cal := (rfl)
@[simp] theorem State.withFlash_wort (s : State) (x : List Host.Cell) : (s.withFlash x).wort = s.wort := (rfl)
@[simp] theorem State.withFlash_dwl (s : State) (x : List Host.Cell) : (s.withFlash x).dwl = s.dwl := (rfl)
@[simp] theorem State.withFlash_ctl (s : State) (x : List Host.Cell) : (s.withFlash x).ctl = s.ctl := (rfl)
@[simp] theorem State.withFlash_adcLast (s : State) (x : List Host.Cell) : (s.withFlash x).adcLast = s.adcLast := (rfl)
@[simp] theorem State.withFlash_adc (s : State) (x : List Host.Cell) : (s.withFlash x).adc = s.adc := (rfl)
@[simp] theorem State.withFlash_afePos (s : State) (x : List Host.Cell) : (s.withFlash x).afePos = s.afePos := (rfl)
@[simp] theorem State.withFlash_lanes (s : State) (x : List Host.Cell) : (s.withFlash x).lanes = s.lanes := (rfl)
@[simp] theorem State.withFlash_eths (s : State) (x : List Host.Cell) : (s.withFlash x).eths = s.eths := (rfl)
@[simp] theorem State.withFlash_prp (s : State) (x : List Host.Cell) : (s.withFlash x).prp = s.prp := (rfl)
@[simp] theorem State.withFlash_lines (s : State) (x : List Host.Cell) : (s.withFlash x).lines = s.lines := (rfl)
@[simp] theorem State.withFlash_parkWake (s : State) (x : List Host.Cell) : (s.withFlash x).parkWake = s.parkWake := (rfl)
@[simp] theorem State.withFlash_guard (s : State) (x : List Host.Cell) : (s.withFlash x).guard = s.guard := (rfl)
@[simp] theorem State.withFlash_cask (s : State) (x : List Host.Cell) : (s.withFlash x).cask = s.cask := (rfl)
@[simp] theorem State.withFlash_cores (s : State) (x : List Host.Cell) : (s.withFlash x).cores = s.cores := (rfl)
@[simp] theorem State.withFlash_dma (s : State) (x : List Host.Cell) : (s.withFlash x).dma = s.dma := (rfl)
@[simp] theorem State.withFlash_amp (s : State) (x : List Host.Cell) : (s.withFlash x).amp = s.amp := (rfl)
@[simp] theorem State.withFlash_flOp (s : State) (x : List Host.Cell) : (s.withFlash x).flOp = s.flOp := (rfl)
@[simp] theorem State.withFlash_rget (s : State) (x : List Host.Cell) (a : Nat) : (s.withFlash x).rget a = s.rget a := (rfl)
@[simp] theorem State.withFlash_f (s : State) (x : List Host.Cell) (F : Fld) : (s.withFlash x).f F = s.f F := (rfl)
@[simp] theorem State.withFlash_b (s : State) (x : List Host.Cell) (F : Fld) : (s.withFlash x).b F = s.b F := (rfl)
@[simp] theorem State.withFlash_fs (s : State) (x : List Host.Cell) (F : Fld) : (s.withFlash x).fs F = s.fs F := (rfl)
@[simp] theorem State.withTun_pending (s : State) (x : SMap (BitVec 16)) : (s.withTun x).pending = s.pending := (rfl)
@[simp] theorem State.withTun_freeCtr (s : State) (x : SMap (BitVec 16)) : (s.withTun x).freeCtr = s.freeCtr := (rfl)
@[simp] theorem State.withTun_now (s : State) (x : SMap (BitVec 16)) : (s.withTun x).now = s.now := (rfl)
@[simp] theorem State.withTun_ms (s : State) (x : SMap (BitVec 16)) : (s.withTun x).ms = s.ms := (rfl)
@[simp] theorem State.withTun_regs (s : State) (x : SMap (BitVec 16)) : (s.withTun x).regs = s.regs := (rfl)
@[simp] theorem State.withTun_eff (s : State) (x : SMap (BitVec 16)) : (s.withTun x).eff = s.eff := (rfl)
@[simp] theorem State.withTun_mem (s : State) (x : SMap (BitVec 16)) : (s.withTun x).mem = s.mem := (rfl)
@[simp] theorem State.withTun_flash (s : State) (x : SMap (BitVec 16)) : (s.withTun x).flash = s.flash := (rfl)
@[simp] theorem State.withTun_tun (s : State) (x : SMap (BitVec 16)) : (s.withTun x).tun = x := (rfl)
@[simp] theorem State.withTun_dev (s : State) (x : SMap (BitVec 16)) : (s.withTun x).dev = s.dev := (rfl)
@[simp] theorem State.withTun_nvm (s : State) (x : SMap (BitVec 16)) : (s.withTun x).nvm = s.nvm := (rfl)
@[simp] theorem State.withTun_rst (s : State) (x : SMap (BitVec 16)) : (s.withTun x).rst = s.rst := (rfl)
@[simp] theorem State.withTun_pins (s : State) (x : SMap (BitVec 16)) : (s.withTun x).pins = s.pins := (rfl)
@[simp] theorem State.withTun_emit (s : State) (x : SMap (BitVec 16)) : (s.withTun x).emit = s.emit := (rfl)
@[simp] theorem State.withTun_strs (s : State) (x : SMap (BitVec 16)) : (s.withTun x).strs = s.strs := (rfl)
@[simp] theorem State.withTun_scan (s : State) (x : SMap (BitVec 16)) : (s.withTun x).scan = s.scan := (rfl)
@[simp] theorem State.withTun_kiln (s : State) (x : SMap (BitVec 16)) : (s.withTun x).kiln = s.kiln := (rfl)
@[simp] theorem State.withTun_time (s : State) (x : SMap (BitVec 16)) : (s.withTun x).time = s.time := (rfl)
@[simp] theorem State.withTun_anchor (s : State) (x : SMap (BitVec 16)) : (s.withTun x).anchor = s.anchor := (rfl)
@[simp] theorem State.withTun_therm (s : State) (x : SMap (BitVec 16)) : (s.withTun x).therm = s.therm := (rfl)
@[simp] theorem State.withTun_chans (s : State) (x : SMap (BitVec 16)) : (s.withTun x).chans = s.chans := (rfl)
@[simp] theorem State.withTun_clus (s : State) (x : SMap (BitVec 16)) : (s.withTun x).clus = s.clus := (rfl)
@[simp] theorem State.withTun_mash (s : State) (x : SMap (BitVec 16)) : (s.withTun x).mash = s.mash := (rfl)
@[simp] theorem State.withTun_tins (s : State) (x : SMap (BitVec 16)) : (s.withTun x).tins = s.tins := (rfl)
@[simp] theorem State.withTun_hists (s : State) (x : SMap (BitVec 16)) : (s.withTun x).hists = s.hists := (rfl)
@[simp] theorem State.withTun_lau (s : State) (x : SMap (BitVec 16)) : (s.withTun x).lau = s.lau := (rfl)
@[simp] theorem State.withTun_cal (s : State) (x : SMap (BitVec 16)) : (s.withTun x).cal = s.cal := (rfl)
@[simp] theorem State.withTun_wort (s : State) (x : SMap (BitVec 16)) : (s.withTun x).wort = s.wort := (rfl)
@[simp] theorem State.withTun_dwl (s : State) (x : SMap (BitVec 16)) : (s.withTun x).dwl = s.dwl := (rfl)
@[simp] theorem State.withTun_ctl (s : State) (x : SMap (BitVec 16)) : (s.withTun x).ctl = s.ctl := (rfl)
@[simp] theorem State.withTun_adcLast (s : State) (x : SMap (BitVec 16)) : (s.withTun x).adcLast = s.adcLast := (rfl)
@[simp] theorem State.withTun_adc (s : State) (x : SMap (BitVec 16)) : (s.withTun x).adc = s.adc := (rfl)
@[simp] theorem State.withTun_afePos (s : State) (x : SMap (BitVec 16)) : (s.withTun x).afePos = s.afePos := (rfl)
@[simp] theorem State.withTun_lanes (s : State) (x : SMap (BitVec 16)) : (s.withTun x).lanes = s.lanes := (rfl)
@[simp] theorem State.withTun_eths (s : State) (x : SMap (BitVec 16)) : (s.withTun x).eths = s.eths := (rfl)
@[simp] theorem State.withTun_prp (s : State) (x : SMap (BitVec 16)) : (s.withTun x).prp = s.prp := (rfl)
@[simp] theorem State.withTun_lines (s : State) (x : SMap (BitVec 16)) : (s.withTun x).lines = s.lines := (rfl)
@[simp] theorem State.withTun_parkWake (s : State) (x : SMap (BitVec 16)) : (s.withTun x).parkWake = s.parkWake := (rfl)
@[simp] theorem State.withTun_guard (s : State) (x : SMap (BitVec 16)) : (s.withTun x).guard = s.guard := (rfl)
@[simp] theorem State.withTun_cask (s : State) (x : SMap (BitVec 16)) : (s.withTun x).cask = s.cask := (rfl)
@[simp] theorem State.withTun_cores (s : State) (x : SMap (BitVec 16)) : (s.withTun x).cores = s.cores := (rfl)
@[simp] theorem State.withTun_dma (s : State) (x : SMap (BitVec 16)) : (s.withTun x).dma = s.dma := (rfl)
@[simp] theorem State.withTun_amp (s : State) (x : SMap (BitVec 16)) : (s.withTun x).amp = s.amp := (rfl)
@[simp] theorem State.withTun_flOp (s : State) (x : SMap (BitVec 16)) : (s.withTun x).flOp = s.flOp := (rfl)
@[simp] theorem State.withTun_rget (s : State) (x : SMap (BitVec 16)) (a : Nat) : (s.withTun x).rget a = s.rget a := (rfl)
@[simp] theorem State.withTun_f (s : State) (x : SMap (BitVec 16)) (F : Fld) : (s.withTun x).f F = s.f F := (rfl)
@[simp] theorem State.withTun_b (s : State) (x : SMap (BitVec 16)) (F : Fld) : (s.withTun x).b F = s.b F := (rfl)
@[simp] theorem State.withTun_fs (s : State) (x : SMap (BitVec 16)) (F : Fld) : (s.withTun x).fs F = s.fs F := (rfl)
@[simp] theorem State.withDev_pending (s : State) (x : Dev) : (s.withDev x).pending = s.pending := (rfl)
@[simp] theorem State.withDev_freeCtr (s : State) (x : Dev) : (s.withDev x).freeCtr = s.freeCtr := (rfl)
@[simp] theorem State.withDev_now (s : State) (x : Dev) : (s.withDev x).now = s.now := (rfl)
@[simp] theorem State.withDev_ms (s : State) (x : Dev) : (s.withDev x).ms = s.ms := (rfl)
@[simp] theorem State.withDev_regs (s : State) (x : Dev) : (s.withDev x).regs = s.regs := (rfl)
@[simp] theorem State.withDev_eff (s : State) (x : Dev) : (s.withDev x).eff = s.eff := (rfl)
@[simp] theorem State.withDev_mem (s : State) (x : Dev) : (s.withDev x).mem = s.mem := (rfl)
@[simp] theorem State.withDev_flash (s : State) (x : Dev) : (s.withDev x).flash = s.flash := (rfl)
@[simp] theorem State.withDev_tun (s : State) (x : Dev) : (s.withDev x).tun = s.tun := (rfl)
@[simp] theorem State.withDev_dev (s : State) (x : Dev) : (s.withDev x).dev = x := (rfl)
@[simp] theorem State.withDev_nvm (s : State) (x : Dev) : (s.withDev x).nvm = s.nvm := (rfl)
@[simp] theorem State.withDev_rst (s : State) (x : Dev) : (s.withDev x).rst = s.rst := (rfl)
@[simp] theorem State.withDev_pins (s : State) (x : Dev) : (s.withDev x).pins = s.pins := (rfl)
@[simp] theorem State.withDev_emit (s : State) (x : Dev) : (s.withDev x).emit = s.emit := (rfl)
@[simp] theorem State.withDev_strs (s : State) (x : Dev) : (s.withDev x).strs = s.strs := (rfl)
@[simp] theorem State.withDev_scan (s : State) (x : Dev) : (s.withDev x).scan = s.scan := (rfl)
@[simp] theorem State.withDev_kiln (s : State) (x : Dev) : (s.withDev x).kiln = s.kiln := (rfl)
@[simp] theorem State.withDev_time (s : State) (x : Dev) : (s.withDev x).time = s.time := (rfl)
@[simp] theorem State.withDev_anchor (s : State) (x : Dev) : (s.withDev x).anchor = s.anchor := (rfl)
@[simp] theorem State.withDev_therm (s : State) (x : Dev) : (s.withDev x).therm = s.therm := (rfl)
@[simp] theorem State.withDev_chans (s : State) (x : Dev) : (s.withDev x).chans = s.chans := (rfl)
@[simp] theorem State.withDev_clus (s : State) (x : Dev) : (s.withDev x).clus = s.clus := (rfl)
@[simp] theorem State.withDev_mash (s : State) (x : Dev) : (s.withDev x).mash = s.mash := (rfl)
@[simp] theorem State.withDev_tins (s : State) (x : Dev) : (s.withDev x).tins = s.tins := (rfl)
@[simp] theorem State.withDev_hists (s : State) (x : Dev) : (s.withDev x).hists = s.hists := (rfl)
@[simp] theorem State.withDev_lau (s : State) (x : Dev) : (s.withDev x).lau = s.lau := (rfl)
@[simp] theorem State.withDev_cal (s : State) (x : Dev) : (s.withDev x).cal = s.cal := (rfl)
@[simp] theorem State.withDev_wort (s : State) (x : Dev) : (s.withDev x).wort = s.wort := (rfl)
@[simp] theorem State.withDev_dwl (s : State) (x : Dev) : (s.withDev x).dwl = s.dwl := (rfl)
@[simp] theorem State.withDev_ctl (s : State) (x : Dev) : (s.withDev x).ctl = s.ctl := (rfl)
@[simp] theorem State.withDev_adcLast (s : State) (x : Dev) : (s.withDev x).adcLast = s.adcLast := (rfl)
@[simp] theorem State.withDev_adc (s : State) (x : Dev) : (s.withDev x).adc = s.adc := (rfl)
@[simp] theorem State.withDev_afePos (s : State) (x : Dev) : (s.withDev x).afePos = s.afePos := (rfl)
@[simp] theorem State.withDev_lanes (s : State) (x : Dev) : (s.withDev x).lanes = s.lanes := (rfl)
@[simp] theorem State.withDev_eths (s : State) (x : Dev) : (s.withDev x).eths = s.eths := (rfl)
@[simp] theorem State.withDev_prp (s : State) (x : Dev) : (s.withDev x).prp = s.prp := (rfl)
@[simp] theorem State.withDev_lines (s : State) (x : Dev) : (s.withDev x).lines = s.lines := (rfl)
@[simp] theorem State.withDev_parkWake (s : State) (x : Dev) : (s.withDev x).parkWake = s.parkWake := (rfl)
@[simp] theorem State.withDev_guard (s : State) (x : Dev) : (s.withDev x).guard = s.guard := (rfl)
@[simp] theorem State.withDev_cask (s : State) (x : Dev) : (s.withDev x).cask = s.cask := (rfl)
@[simp] theorem State.withDev_cores (s : State) (x : Dev) : (s.withDev x).cores = s.cores := (rfl)
@[simp] theorem State.withDev_dma (s : State) (x : Dev) : (s.withDev x).dma = s.dma := (rfl)
@[simp] theorem State.withDev_amp (s : State) (x : Dev) : (s.withDev x).amp = s.amp := (rfl)
@[simp] theorem State.withDev_flOp (s : State) (x : Dev) : (s.withDev x).flOp = s.flOp := (rfl)
@[simp] theorem State.withDev_rget (s : State) (x : Dev) (a : Nat) : (s.withDev x).rget a = s.rget a := (rfl)
@[simp] theorem State.withDev_f (s : State) (x : Dev) (F : Fld) : (s.withDev x).f F = s.f F := (rfl)
@[simp] theorem State.withDev_b (s : State) (x : Dev) (F : Fld) : (s.withDev x).b F = s.b F := (rfl)
@[simp] theorem State.withDev_fs (s : State) (x : Dev) (F : Fld) : (s.withDev x).fs F = s.fs F := (rfl)
@[simp] theorem State.withNvm_pending (s : State) (x : Nvm) : (s.withNvm x).pending = s.pending := (rfl)
@[simp] theorem State.withNvm_freeCtr (s : State) (x : Nvm) : (s.withNvm x).freeCtr = s.freeCtr := (rfl)
@[simp] theorem State.withNvm_now (s : State) (x : Nvm) : (s.withNvm x).now = s.now := (rfl)
@[simp] theorem State.withNvm_ms (s : State) (x : Nvm) : (s.withNvm x).ms = s.ms := (rfl)
@[simp] theorem State.withNvm_regs (s : State) (x : Nvm) : (s.withNvm x).regs = s.regs := (rfl)
@[simp] theorem State.withNvm_eff (s : State) (x : Nvm) : (s.withNvm x).eff = s.eff := (rfl)
@[simp] theorem State.withNvm_mem (s : State) (x : Nvm) : (s.withNvm x).mem = s.mem := (rfl)
@[simp] theorem State.withNvm_flash (s : State) (x : Nvm) : (s.withNvm x).flash = s.flash := (rfl)
@[simp] theorem State.withNvm_tun (s : State) (x : Nvm) : (s.withNvm x).tun = s.tun := (rfl)
@[simp] theorem State.withNvm_dev (s : State) (x : Nvm) : (s.withNvm x).dev = s.dev := (rfl)
@[simp] theorem State.withNvm_nvm (s : State) (x : Nvm) : (s.withNvm x).nvm = x := (rfl)
@[simp] theorem State.withNvm_rst (s : State) (x : Nvm) : (s.withNvm x).rst = s.rst := (rfl)
@[simp] theorem State.withNvm_pins (s : State) (x : Nvm) : (s.withNvm x).pins = s.pins := (rfl)
@[simp] theorem State.withNvm_emit (s : State) (x : Nvm) : (s.withNvm x).emit = s.emit := (rfl)
@[simp] theorem State.withNvm_strs (s : State) (x : Nvm) : (s.withNvm x).strs = s.strs := (rfl)
@[simp] theorem State.withNvm_scan (s : State) (x : Nvm) : (s.withNvm x).scan = s.scan := (rfl)
@[simp] theorem State.withNvm_kiln (s : State) (x : Nvm) : (s.withNvm x).kiln = s.kiln := (rfl)
@[simp] theorem State.withNvm_time (s : State) (x : Nvm) : (s.withNvm x).time = s.time := (rfl)
@[simp] theorem State.withNvm_anchor (s : State) (x : Nvm) : (s.withNvm x).anchor = s.anchor := (rfl)
@[simp] theorem State.withNvm_therm (s : State) (x : Nvm) : (s.withNvm x).therm = s.therm := (rfl)
@[simp] theorem State.withNvm_chans (s : State) (x : Nvm) : (s.withNvm x).chans = s.chans := (rfl)
@[simp] theorem State.withNvm_clus (s : State) (x : Nvm) : (s.withNvm x).clus = s.clus := (rfl)
@[simp] theorem State.withNvm_mash (s : State) (x : Nvm) : (s.withNvm x).mash = s.mash := (rfl)
@[simp] theorem State.withNvm_tins (s : State) (x : Nvm) : (s.withNvm x).tins = s.tins := (rfl)
@[simp] theorem State.withNvm_hists (s : State) (x : Nvm) : (s.withNvm x).hists = s.hists := (rfl)
@[simp] theorem State.withNvm_lau (s : State) (x : Nvm) : (s.withNvm x).lau = s.lau := (rfl)
@[simp] theorem State.withNvm_cal (s : State) (x : Nvm) : (s.withNvm x).cal = s.cal := (rfl)
@[simp] theorem State.withNvm_wort (s : State) (x : Nvm) : (s.withNvm x).wort = s.wort := (rfl)
@[simp] theorem State.withNvm_dwl (s : State) (x : Nvm) : (s.withNvm x).dwl = s.dwl := (rfl)
@[simp] theorem State.withNvm_ctl (s : State) (x : Nvm) : (s.withNvm x).ctl = s.ctl := (rfl)
@[simp] theorem State.withNvm_adcLast (s : State) (x : Nvm) : (s.withNvm x).adcLast = s.adcLast := (rfl)
@[simp] theorem State.withNvm_adc (s : State) (x : Nvm) : (s.withNvm x).adc = s.adc := (rfl)
@[simp] theorem State.withNvm_afePos (s : State) (x : Nvm) : (s.withNvm x).afePos = s.afePos := (rfl)
@[simp] theorem State.withNvm_lanes (s : State) (x : Nvm) : (s.withNvm x).lanes = s.lanes := (rfl)
@[simp] theorem State.withNvm_eths (s : State) (x : Nvm) : (s.withNvm x).eths = s.eths := (rfl)
@[simp] theorem State.withNvm_prp (s : State) (x : Nvm) : (s.withNvm x).prp = s.prp := (rfl)
@[simp] theorem State.withNvm_lines (s : State) (x : Nvm) : (s.withNvm x).lines = s.lines := (rfl)
@[simp] theorem State.withNvm_parkWake (s : State) (x : Nvm) : (s.withNvm x).parkWake = s.parkWake := (rfl)
@[simp] theorem State.withNvm_guard (s : State) (x : Nvm) : (s.withNvm x).guard = s.guard := (rfl)
@[simp] theorem State.withNvm_cask (s : State) (x : Nvm) : (s.withNvm x).cask = s.cask := (rfl)
@[simp] theorem State.withNvm_cores (s : State) (x : Nvm) : (s.withNvm x).cores = s.cores := (rfl)
@[simp] theorem State.withNvm_dma (s : State) (x : Nvm) : (s.withNvm x).dma = s.dma := (rfl)
@[simp] theorem State.withNvm_amp (s : State) (x : Nvm) : (s.withNvm x).amp = s.amp := (rfl)
@[simp] theorem State.withNvm_flOp (s : State) (x : Nvm) : (s.withNvm x).flOp = s.flOp := (rfl)
@[simp] theorem State.withNvm_rget (s : State) (x : Nvm) (a : Nat) : (s.withNvm x).rget a = s.rget a := (rfl)
@[simp] theorem State.withNvm_f (s : State) (x : Nvm) (F : Fld) : (s.withNvm x).f F = s.f F := (rfl)
@[simp] theorem State.withNvm_b (s : State) (x : Nvm) (F : Fld) : (s.withNvm x).b F = s.b F := (rfl)
@[simp] theorem State.withNvm_fs (s : State) (x : Nvm) (F : Fld) : (s.withNvm x).fs F = s.fs F := (rfl)
@[simp] theorem State.withRst_pending (s : State) (x : RstSt) : (s.withRst x).pending = s.pending := (rfl)
@[simp] theorem State.withRst_freeCtr (s : State) (x : RstSt) : (s.withRst x).freeCtr = s.freeCtr := (rfl)
@[simp] theorem State.withRst_now (s : State) (x : RstSt) : (s.withRst x).now = s.now := (rfl)
@[simp] theorem State.withRst_ms (s : State) (x : RstSt) : (s.withRst x).ms = s.ms := (rfl)
@[simp] theorem State.withRst_regs (s : State) (x : RstSt) : (s.withRst x).regs = s.regs := (rfl)
@[simp] theorem State.withRst_eff (s : State) (x : RstSt) : (s.withRst x).eff = s.eff := (rfl)
@[simp] theorem State.withRst_mem (s : State) (x : RstSt) : (s.withRst x).mem = s.mem := (rfl)
@[simp] theorem State.withRst_flash (s : State) (x : RstSt) : (s.withRst x).flash = s.flash := (rfl)
@[simp] theorem State.withRst_tun (s : State) (x : RstSt) : (s.withRst x).tun = s.tun := (rfl)
@[simp] theorem State.withRst_dev (s : State) (x : RstSt) : (s.withRst x).dev = s.dev := (rfl)
@[simp] theorem State.withRst_nvm (s : State) (x : RstSt) : (s.withRst x).nvm = s.nvm := (rfl)
@[simp] theorem State.withRst_rst (s : State) (x : RstSt) : (s.withRst x).rst = x := (rfl)
@[simp] theorem State.withRst_pins (s : State) (x : RstSt) : (s.withRst x).pins = s.pins := (rfl)
@[simp] theorem State.withRst_emit (s : State) (x : RstSt) : (s.withRst x).emit = s.emit := (rfl)
@[simp] theorem State.withRst_strs (s : State) (x : RstSt) : (s.withRst x).strs = s.strs := (rfl)
@[simp] theorem State.withRst_scan (s : State) (x : RstSt) : (s.withRst x).scan = s.scan := (rfl)
@[simp] theorem State.withRst_kiln (s : State) (x : RstSt) : (s.withRst x).kiln = s.kiln := (rfl)
@[simp] theorem State.withRst_time (s : State) (x : RstSt) : (s.withRst x).time = s.time := (rfl)
@[simp] theorem State.withRst_anchor (s : State) (x : RstSt) : (s.withRst x).anchor = s.anchor := (rfl)
@[simp] theorem State.withRst_therm (s : State) (x : RstSt) : (s.withRst x).therm = s.therm := (rfl)
@[simp] theorem State.withRst_chans (s : State) (x : RstSt) : (s.withRst x).chans = s.chans := (rfl)
@[simp] theorem State.withRst_clus (s : State) (x : RstSt) : (s.withRst x).clus = s.clus := (rfl)
@[simp] theorem State.withRst_mash (s : State) (x : RstSt) : (s.withRst x).mash = s.mash := (rfl)
@[simp] theorem State.withRst_tins (s : State) (x : RstSt) : (s.withRst x).tins = s.tins := (rfl)
@[simp] theorem State.withRst_hists (s : State) (x : RstSt) : (s.withRst x).hists = s.hists := (rfl)
@[simp] theorem State.withRst_lau (s : State) (x : RstSt) : (s.withRst x).lau = s.lau := (rfl)
@[simp] theorem State.withRst_cal (s : State) (x : RstSt) : (s.withRst x).cal = s.cal := (rfl)
@[simp] theorem State.withRst_wort (s : State) (x : RstSt) : (s.withRst x).wort = s.wort := (rfl)
@[simp] theorem State.withRst_dwl (s : State) (x : RstSt) : (s.withRst x).dwl = s.dwl := (rfl)
@[simp] theorem State.withRst_ctl (s : State) (x : RstSt) : (s.withRst x).ctl = s.ctl := (rfl)
@[simp] theorem State.withRst_adcLast (s : State) (x : RstSt) : (s.withRst x).adcLast = s.adcLast := (rfl)
@[simp] theorem State.withRst_adc (s : State) (x : RstSt) : (s.withRst x).adc = s.adc := (rfl)
@[simp] theorem State.withRst_afePos (s : State) (x : RstSt) : (s.withRst x).afePos = s.afePos := (rfl)
@[simp] theorem State.withRst_lanes (s : State) (x : RstSt) : (s.withRst x).lanes = s.lanes := (rfl)
@[simp] theorem State.withRst_eths (s : State) (x : RstSt) : (s.withRst x).eths = s.eths := (rfl)
@[simp] theorem State.withRst_prp (s : State) (x : RstSt) : (s.withRst x).prp = s.prp := (rfl)
@[simp] theorem State.withRst_lines (s : State) (x : RstSt) : (s.withRst x).lines = s.lines := (rfl)
@[simp] theorem State.withRst_parkWake (s : State) (x : RstSt) : (s.withRst x).parkWake = s.parkWake := (rfl)
@[simp] theorem State.withRst_guard (s : State) (x : RstSt) : (s.withRst x).guard = s.guard := (rfl)
@[simp] theorem State.withRst_cask (s : State) (x : RstSt) : (s.withRst x).cask = s.cask := (rfl)
@[simp] theorem State.withRst_cores (s : State) (x : RstSt) : (s.withRst x).cores = s.cores := (rfl)
@[simp] theorem State.withRst_dma (s : State) (x : RstSt) : (s.withRst x).dma = s.dma := (rfl)
@[simp] theorem State.withRst_amp (s : State) (x : RstSt) : (s.withRst x).amp = s.amp := (rfl)
@[simp] theorem State.withRst_flOp (s : State) (x : RstSt) : (s.withRst x).flOp = s.flOp := (rfl)
@[simp] theorem State.withRst_rget (s : State) (x : RstSt) (a : Nat) : (s.withRst x).rget a = s.rget a := (rfl)
@[simp] theorem State.withRst_f (s : State) (x : RstSt) (F : Fld) : (s.withRst x).f F = s.f F := (rfl)
@[simp] theorem State.withRst_b (s : State) (x : RstSt) (F : Fld) : (s.withRst x).b F = s.b F := (rfl)
@[simp] theorem State.withRst_fs (s : State) (x : RstSt) (F : Fld) : (s.withRst x).fs F = s.fs F := (rfl)
@[simp] theorem State.withPins_pending (s : State) (x : PinSt) : (s.withPins x).pending = s.pending := (rfl)
@[simp] theorem State.withPins_freeCtr (s : State) (x : PinSt) : (s.withPins x).freeCtr = s.freeCtr := (rfl)
@[simp] theorem State.withPins_now (s : State) (x : PinSt) : (s.withPins x).now = s.now := (rfl)
@[simp] theorem State.withPins_ms (s : State) (x : PinSt) : (s.withPins x).ms = s.ms := (rfl)
@[simp] theorem State.withPins_regs (s : State) (x : PinSt) : (s.withPins x).regs = s.regs := (rfl)
@[simp] theorem State.withPins_eff (s : State) (x : PinSt) : (s.withPins x).eff = s.eff := (rfl)
@[simp] theorem State.withPins_mem (s : State) (x : PinSt) : (s.withPins x).mem = s.mem := (rfl)
@[simp] theorem State.withPins_flash (s : State) (x : PinSt) : (s.withPins x).flash = s.flash := (rfl)
@[simp] theorem State.withPins_tun (s : State) (x : PinSt) : (s.withPins x).tun = s.tun := (rfl)
@[simp] theorem State.withPins_dev (s : State) (x : PinSt) : (s.withPins x).dev = s.dev := (rfl)
@[simp] theorem State.withPins_nvm (s : State) (x : PinSt) : (s.withPins x).nvm = s.nvm := (rfl)
@[simp] theorem State.withPins_rst (s : State) (x : PinSt) : (s.withPins x).rst = s.rst := (rfl)
@[simp] theorem State.withPins_pins (s : State) (x : PinSt) : (s.withPins x).pins = x := (rfl)
@[simp] theorem State.withPins_emit (s : State) (x : PinSt) : (s.withPins x).emit = s.emit := (rfl)
@[simp] theorem State.withPins_strs (s : State) (x : PinSt) : (s.withPins x).strs = s.strs := (rfl)
@[simp] theorem State.withPins_scan (s : State) (x : PinSt) : (s.withPins x).scan = s.scan := (rfl)
@[simp] theorem State.withPins_kiln (s : State) (x : PinSt) : (s.withPins x).kiln = s.kiln := (rfl)
@[simp] theorem State.withPins_time (s : State) (x : PinSt) : (s.withPins x).time = s.time := (rfl)
@[simp] theorem State.withPins_anchor (s : State) (x : PinSt) : (s.withPins x).anchor = s.anchor := (rfl)
@[simp] theorem State.withPins_therm (s : State) (x : PinSt) : (s.withPins x).therm = s.therm := (rfl)
@[simp] theorem State.withPins_chans (s : State) (x : PinSt) : (s.withPins x).chans = s.chans := (rfl)
@[simp] theorem State.withPins_clus (s : State) (x : PinSt) : (s.withPins x).clus = s.clus := (rfl)
@[simp] theorem State.withPins_mash (s : State) (x : PinSt) : (s.withPins x).mash = s.mash := (rfl)
@[simp] theorem State.withPins_tins (s : State) (x : PinSt) : (s.withPins x).tins = s.tins := (rfl)
@[simp] theorem State.withPins_hists (s : State) (x : PinSt) : (s.withPins x).hists = s.hists := (rfl)
@[simp] theorem State.withPins_lau (s : State) (x : PinSt) : (s.withPins x).lau = s.lau := (rfl)
@[simp] theorem State.withPins_cal (s : State) (x : PinSt) : (s.withPins x).cal = s.cal := (rfl)
@[simp] theorem State.withPins_wort (s : State) (x : PinSt) : (s.withPins x).wort = s.wort := (rfl)
@[simp] theorem State.withPins_dwl (s : State) (x : PinSt) : (s.withPins x).dwl = s.dwl := (rfl)
@[simp] theorem State.withPins_ctl (s : State) (x : PinSt) : (s.withPins x).ctl = s.ctl := (rfl)
@[simp] theorem State.withPins_adcLast (s : State) (x : PinSt) : (s.withPins x).adcLast = s.adcLast := (rfl)
@[simp] theorem State.withPins_adc (s : State) (x : PinSt) : (s.withPins x).adc = s.adc := (rfl)
@[simp] theorem State.withPins_afePos (s : State) (x : PinSt) : (s.withPins x).afePos = s.afePos := (rfl)
@[simp] theorem State.withPins_lanes (s : State) (x : PinSt) : (s.withPins x).lanes = s.lanes := (rfl)
@[simp] theorem State.withPins_eths (s : State) (x : PinSt) : (s.withPins x).eths = s.eths := (rfl)
@[simp] theorem State.withPins_prp (s : State) (x : PinSt) : (s.withPins x).prp = s.prp := (rfl)
@[simp] theorem State.withPins_lines (s : State) (x : PinSt) : (s.withPins x).lines = s.lines := (rfl)
@[simp] theorem State.withPins_parkWake (s : State) (x : PinSt) : (s.withPins x).parkWake = s.parkWake := (rfl)
@[simp] theorem State.withPins_guard (s : State) (x : PinSt) : (s.withPins x).guard = s.guard := (rfl)
@[simp] theorem State.withPins_cask (s : State) (x : PinSt) : (s.withPins x).cask = s.cask := (rfl)
@[simp] theorem State.withPins_cores (s : State) (x : PinSt) : (s.withPins x).cores = s.cores := (rfl)
@[simp] theorem State.withPins_dma (s : State) (x : PinSt) : (s.withPins x).dma = s.dma := (rfl)
@[simp] theorem State.withPins_amp (s : State) (x : PinSt) : (s.withPins x).amp = s.amp := (rfl)
@[simp] theorem State.withPins_flOp (s : State) (x : PinSt) : (s.withPins x).flOp = s.flOp := (rfl)
@[simp] theorem State.withPins_rget (s : State) (x : PinSt) (a : Nat) : (s.withPins x).rget a = s.rget a := (rfl)
@[simp] theorem State.withPins_f (s : State) (x : PinSt) (F : Fld) : (s.withPins x).f F = s.f F := (rfl)
@[simp] theorem State.withPins_b (s : State) (x : PinSt) (F : Fld) : (s.withPins x).b F = s.b F := (rfl)
@[simp] theorem State.withPins_fs (s : State) (x : PinSt) (F : Fld) : (s.withPins x).fs F = s.fs F := (rfl)
@[simp] theorem State.withEmit_pending (s : State) (x : EmitSt) : (s.withEmit x).pending = s.pending := (rfl)
@[simp] theorem State.withEmit_freeCtr (s : State) (x : EmitSt) : (s.withEmit x).freeCtr = s.freeCtr := (rfl)
@[simp] theorem State.withEmit_now (s : State) (x : EmitSt) : (s.withEmit x).now = s.now := (rfl)
@[simp] theorem State.withEmit_ms (s : State) (x : EmitSt) : (s.withEmit x).ms = s.ms := (rfl)
@[simp] theorem State.withEmit_regs (s : State) (x : EmitSt) : (s.withEmit x).regs = s.regs := (rfl)
@[simp] theorem State.withEmit_eff (s : State) (x : EmitSt) : (s.withEmit x).eff = s.eff := (rfl)
@[simp] theorem State.withEmit_mem (s : State) (x : EmitSt) : (s.withEmit x).mem = s.mem := (rfl)
@[simp] theorem State.withEmit_flash (s : State) (x : EmitSt) : (s.withEmit x).flash = s.flash := (rfl)
@[simp] theorem State.withEmit_tun (s : State) (x : EmitSt) : (s.withEmit x).tun = s.tun := (rfl)
@[simp] theorem State.withEmit_dev (s : State) (x : EmitSt) : (s.withEmit x).dev = s.dev := (rfl)
@[simp] theorem State.withEmit_nvm (s : State) (x : EmitSt) : (s.withEmit x).nvm = s.nvm := (rfl)
@[simp] theorem State.withEmit_rst (s : State) (x : EmitSt) : (s.withEmit x).rst = s.rst := (rfl)
@[simp] theorem State.withEmit_pins (s : State) (x : EmitSt) : (s.withEmit x).pins = s.pins := (rfl)
@[simp] theorem State.withEmit_emit (s : State) (x : EmitSt) : (s.withEmit x).emit = x := (rfl)
@[simp] theorem State.withEmit_strs (s : State) (x : EmitSt) : (s.withEmit x).strs = s.strs := (rfl)
@[simp] theorem State.withEmit_scan (s : State) (x : EmitSt) : (s.withEmit x).scan = s.scan := (rfl)
@[simp] theorem State.withEmit_kiln (s : State) (x : EmitSt) : (s.withEmit x).kiln = s.kiln := (rfl)
@[simp] theorem State.withEmit_time (s : State) (x : EmitSt) : (s.withEmit x).time = s.time := (rfl)
@[simp] theorem State.withEmit_anchor (s : State) (x : EmitSt) : (s.withEmit x).anchor = s.anchor := (rfl)
@[simp] theorem State.withEmit_therm (s : State) (x : EmitSt) : (s.withEmit x).therm = s.therm := (rfl)
@[simp] theorem State.withEmit_chans (s : State) (x : EmitSt) : (s.withEmit x).chans = s.chans := (rfl)
@[simp] theorem State.withEmit_clus (s : State) (x : EmitSt) : (s.withEmit x).clus = s.clus := (rfl)
@[simp] theorem State.withEmit_mash (s : State) (x : EmitSt) : (s.withEmit x).mash = s.mash := (rfl)
@[simp] theorem State.withEmit_tins (s : State) (x : EmitSt) : (s.withEmit x).tins = s.tins := (rfl)
@[simp] theorem State.withEmit_hists (s : State) (x : EmitSt) : (s.withEmit x).hists = s.hists := (rfl)
@[simp] theorem State.withEmit_lau (s : State) (x : EmitSt) : (s.withEmit x).lau = s.lau := (rfl)
@[simp] theorem State.withEmit_cal (s : State) (x : EmitSt) : (s.withEmit x).cal = s.cal := (rfl)
@[simp] theorem State.withEmit_wort (s : State) (x : EmitSt) : (s.withEmit x).wort = s.wort := (rfl)
@[simp] theorem State.withEmit_dwl (s : State) (x : EmitSt) : (s.withEmit x).dwl = s.dwl := (rfl)
@[simp] theorem State.withEmit_ctl (s : State) (x : EmitSt) : (s.withEmit x).ctl = s.ctl := (rfl)
@[simp] theorem State.withEmit_adcLast (s : State) (x : EmitSt) : (s.withEmit x).adcLast = s.adcLast := (rfl)
@[simp] theorem State.withEmit_adc (s : State) (x : EmitSt) : (s.withEmit x).adc = s.adc := (rfl)
@[simp] theorem State.withEmit_afePos (s : State) (x : EmitSt) : (s.withEmit x).afePos = s.afePos := (rfl)
@[simp] theorem State.withEmit_lanes (s : State) (x : EmitSt) : (s.withEmit x).lanes = s.lanes := (rfl)
@[simp] theorem State.withEmit_eths (s : State) (x : EmitSt) : (s.withEmit x).eths = s.eths := (rfl)
@[simp] theorem State.withEmit_prp (s : State) (x : EmitSt) : (s.withEmit x).prp = s.prp := (rfl)
@[simp] theorem State.withEmit_lines (s : State) (x : EmitSt) : (s.withEmit x).lines = s.lines := (rfl)
@[simp] theorem State.withEmit_parkWake (s : State) (x : EmitSt) : (s.withEmit x).parkWake = s.parkWake := (rfl)
@[simp] theorem State.withEmit_guard (s : State) (x : EmitSt) : (s.withEmit x).guard = s.guard := (rfl)
@[simp] theorem State.withEmit_cask (s : State) (x : EmitSt) : (s.withEmit x).cask = s.cask := (rfl)
@[simp] theorem State.withEmit_cores (s : State) (x : EmitSt) : (s.withEmit x).cores = s.cores := (rfl)
@[simp] theorem State.withEmit_dma (s : State) (x : EmitSt) : (s.withEmit x).dma = s.dma := (rfl)
@[simp] theorem State.withEmit_amp (s : State) (x : EmitSt) : (s.withEmit x).amp = s.amp := (rfl)
@[simp] theorem State.withEmit_flOp (s : State) (x : EmitSt) : (s.withEmit x).flOp = s.flOp := (rfl)
@[simp] theorem State.withEmit_rget (s : State) (x : EmitSt) (a : Nat) : (s.withEmit x).rget a = s.rget a := (rfl)
@[simp] theorem State.withEmit_f (s : State) (x : EmitSt) (F : Fld) : (s.withEmit x).f F = s.f F := (rfl)
@[simp] theorem State.withEmit_b (s : State) (x : EmitSt) (F : Fld) : (s.withEmit x).b F = s.b F := (rfl)
@[simp] theorem State.withEmit_fs (s : State) (x : EmitSt) (F : Fld) : (s.withEmit x).fs F = s.fs F := (rfl)
@[simp] theorem State.withStrs_pending (s : State) (x : SMap StrSt) : (s.withStrs x).pending = s.pending := (rfl)
@[simp] theorem State.withStrs_freeCtr (s : State) (x : SMap StrSt) : (s.withStrs x).freeCtr = s.freeCtr := (rfl)
@[simp] theorem State.withStrs_now (s : State) (x : SMap StrSt) : (s.withStrs x).now = s.now := (rfl)
@[simp] theorem State.withStrs_ms (s : State) (x : SMap StrSt) : (s.withStrs x).ms = s.ms := (rfl)
@[simp] theorem State.withStrs_regs (s : State) (x : SMap StrSt) : (s.withStrs x).regs = s.regs := (rfl)
@[simp] theorem State.withStrs_eff (s : State) (x : SMap StrSt) : (s.withStrs x).eff = s.eff := (rfl)
@[simp] theorem State.withStrs_mem (s : State) (x : SMap StrSt) : (s.withStrs x).mem = s.mem := (rfl)
@[simp] theorem State.withStrs_flash (s : State) (x : SMap StrSt) : (s.withStrs x).flash = s.flash := (rfl)
@[simp] theorem State.withStrs_tun (s : State) (x : SMap StrSt) : (s.withStrs x).tun = s.tun := (rfl)
@[simp] theorem State.withStrs_dev (s : State) (x : SMap StrSt) : (s.withStrs x).dev = s.dev := (rfl)
@[simp] theorem State.withStrs_nvm (s : State) (x : SMap StrSt) : (s.withStrs x).nvm = s.nvm := (rfl)
@[simp] theorem State.withStrs_rst (s : State) (x : SMap StrSt) : (s.withStrs x).rst = s.rst := (rfl)
@[simp] theorem State.withStrs_pins (s : State) (x : SMap StrSt) : (s.withStrs x).pins = s.pins := (rfl)
@[simp] theorem State.withStrs_emit (s : State) (x : SMap StrSt) : (s.withStrs x).emit = s.emit := (rfl)
@[simp] theorem State.withStrs_strs (s : State) (x : SMap StrSt) : (s.withStrs x).strs = x := (rfl)
@[simp] theorem State.withStrs_scan (s : State) (x : SMap StrSt) : (s.withStrs x).scan = s.scan := (rfl)
@[simp] theorem State.withStrs_kiln (s : State) (x : SMap StrSt) : (s.withStrs x).kiln = s.kiln := (rfl)
@[simp] theorem State.withStrs_time (s : State) (x : SMap StrSt) : (s.withStrs x).time = s.time := (rfl)
@[simp] theorem State.withStrs_anchor (s : State) (x : SMap StrSt) : (s.withStrs x).anchor = s.anchor := (rfl)
@[simp] theorem State.withStrs_therm (s : State) (x : SMap StrSt) : (s.withStrs x).therm = s.therm := (rfl)
@[simp] theorem State.withStrs_chans (s : State) (x : SMap StrSt) : (s.withStrs x).chans = s.chans := (rfl)
@[simp] theorem State.withStrs_clus (s : State) (x : SMap StrSt) : (s.withStrs x).clus = s.clus := (rfl)
@[simp] theorem State.withStrs_mash (s : State) (x : SMap StrSt) : (s.withStrs x).mash = s.mash := (rfl)
@[simp] theorem State.withStrs_tins (s : State) (x : SMap StrSt) : (s.withStrs x).tins = s.tins := (rfl)
@[simp] theorem State.withStrs_hists (s : State) (x : SMap StrSt) : (s.withStrs x).hists = s.hists := (rfl)
@[simp] theorem State.withStrs_lau (s : State) (x : SMap StrSt) : (s.withStrs x).lau = s.lau := (rfl)
@[simp] theorem State.withStrs_cal (s : State) (x : SMap StrSt) : (s.withStrs x).cal = s.cal := (rfl)
@[simp] theorem State.withStrs_wort (s : State) (x : SMap StrSt) : (s.withStrs x).wort = s.wort := (rfl)
@[simp] theorem State.withStrs_dwl (s : State) (x : SMap StrSt) : (s.withStrs x).dwl = s.dwl := (rfl)
@[simp] theorem State.withStrs_ctl (s : State) (x : SMap StrSt) : (s.withStrs x).ctl = s.ctl := (rfl)
@[simp] theorem State.withStrs_adcLast (s : State) (x : SMap StrSt) : (s.withStrs x).adcLast = s.adcLast := (rfl)
@[simp] theorem State.withStrs_adc (s : State) (x : SMap StrSt) : (s.withStrs x).adc = s.adc := (rfl)
@[simp] theorem State.withStrs_afePos (s : State) (x : SMap StrSt) : (s.withStrs x).afePos = s.afePos := (rfl)
@[simp] theorem State.withStrs_lanes (s : State) (x : SMap StrSt) : (s.withStrs x).lanes = s.lanes := (rfl)
@[simp] theorem State.withStrs_eths (s : State) (x : SMap StrSt) : (s.withStrs x).eths = s.eths := (rfl)
@[simp] theorem State.withStrs_prp (s : State) (x : SMap StrSt) : (s.withStrs x).prp = s.prp := (rfl)
@[simp] theorem State.withStrs_lines (s : State) (x : SMap StrSt) : (s.withStrs x).lines = s.lines := (rfl)
@[simp] theorem State.withStrs_parkWake (s : State) (x : SMap StrSt) : (s.withStrs x).parkWake = s.parkWake := (rfl)
@[simp] theorem State.withStrs_guard (s : State) (x : SMap StrSt) : (s.withStrs x).guard = s.guard := (rfl)
@[simp] theorem State.withStrs_cask (s : State) (x : SMap StrSt) : (s.withStrs x).cask = s.cask := (rfl)
@[simp] theorem State.withStrs_cores (s : State) (x : SMap StrSt) : (s.withStrs x).cores = s.cores := (rfl)
@[simp] theorem State.withStrs_dma (s : State) (x : SMap StrSt) : (s.withStrs x).dma = s.dma := (rfl)
@[simp] theorem State.withStrs_amp (s : State) (x : SMap StrSt) : (s.withStrs x).amp = s.amp := (rfl)
@[simp] theorem State.withStrs_flOp (s : State) (x : SMap StrSt) : (s.withStrs x).flOp = s.flOp := (rfl)
@[simp] theorem State.withStrs_rget (s : State) (x : SMap StrSt) (a : Nat) : (s.withStrs x).rget a = s.rget a := (rfl)
@[simp] theorem State.withStrs_f (s : State) (x : SMap StrSt) (F : Fld) : (s.withStrs x).f F = s.f F := (rfl)
@[simp] theorem State.withStrs_b (s : State) (x : SMap StrSt) (F : Fld) : (s.withStrs x).b F = s.b F := (rfl)
@[simp] theorem State.withStrs_fs (s : State) (x : SMap StrSt) (F : Fld) : (s.withStrs x).fs F = s.fs F := (rfl)
@[simp] theorem State.withScan_pending (s : State) (x : ScanSt) : (s.withScan x).pending = s.pending := (rfl)
@[simp] theorem State.withScan_freeCtr (s : State) (x : ScanSt) : (s.withScan x).freeCtr = s.freeCtr := (rfl)
@[simp] theorem State.withScan_now (s : State) (x : ScanSt) : (s.withScan x).now = s.now := (rfl)
@[simp] theorem State.withScan_ms (s : State) (x : ScanSt) : (s.withScan x).ms = s.ms := (rfl)
@[simp] theorem State.withScan_regs (s : State) (x : ScanSt) : (s.withScan x).regs = s.regs := (rfl)
@[simp] theorem State.withScan_eff (s : State) (x : ScanSt) : (s.withScan x).eff = s.eff := (rfl)
@[simp] theorem State.withScan_mem (s : State) (x : ScanSt) : (s.withScan x).mem = s.mem := (rfl)
@[simp] theorem State.withScan_flash (s : State) (x : ScanSt) : (s.withScan x).flash = s.flash := (rfl)
@[simp] theorem State.withScan_tun (s : State) (x : ScanSt) : (s.withScan x).tun = s.tun := (rfl)
@[simp] theorem State.withScan_dev (s : State) (x : ScanSt) : (s.withScan x).dev = s.dev := (rfl)
@[simp] theorem State.withScan_nvm (s : State) (x : ScanSt) : (s.withScan x).nvm = s.nvm := (rfl)
@[simp] theorem State.withScan_rst (s : State) (x : ScanSt) : (s.withScan x).rst = s.rst := (rfl)
@[simp] theorem State.withScan_pins (s : State) (x : ScanSt) : (s.withScan x).pins = s.pins := (rfl)
@[simp] theorem State.withScan_emit (s : State) (x : ScanSt) : (s.withScan x).emit = s.emit := (rfl)
@[simp] theorem State.withScan_strs (s : State) (x : ScanSt) : (s.withScan x).strs = s.strs := (rfl)
@[simp] theorem State.withScan_scan (s : State) (x : ScanSt) : (s.withScan x).scan = x := (rfl)
@[simp] theorem State.withScan_kiln (s : State) (x : ScanSt) : (s.withScan x).kiln = s.kiln := (rfl)
@[simp] theorem State.withScan_time (s : State) (x : ScanSt) : (s.withScan x).time = s.time := (rfl)
@[simp] theorem State.withScan_anchor (s : State) (x : ScanSt) : (s.withScan x).anchor = s.anchor := (rfl)
@[simp] theorem State.withScan_therm (s : State) (x : ScanSt) : (s.withScan x).therm = s.therm := (rfl)
@[simp] theorem State.withScan_chans (s : State) (x : ScanSt) : (s.withScan x).chans = s.chans := (rfl)
@[simp] theorem State.withScan_clus (s : State) (x : ScanSt) : (s.withScan x).clus = s.clus := (rfl)
@[simp] theorem State.withScan_mash (s : State) (x : ScanSt) : (s.withScan x).mash = s.mash := (rfl)
@[simp] theorem State.withScan_tins (s : State) (x : ScanSt) : (s.withScan x).tins = s.tins := (rfl)
@[simp] theorem State.withScan_hists (s : State) (x : ScanSt) : (s.withScan x).hists = s.hists := (rfl)
@[simp] theorem State.withScan_lau (s : State) (x : ScanSt) : (s.withScan x).lau = s.lau := (rfl)
@[simp] theorem State.withScan_cal (s : State) (x : ScanSt) : (s.withScan x).cal = s.cal := (rfl)
@[simp] theorem State.withScan_wort (s : State) (x : ScanSt) : (s.withScan x).wort = s.wort := (rfl)
@[simp] theorem State.withScan_dwl (s : State) (x : ScanSt) : (s.withScan x).dwl = s.dwl := (rfl)
@[simp] theorem State.withScan_ctl (s : State) (x : ScanSt) : (s.withScan x).ctl = s.ctl := (rfl)
@[simp] theorem State.withScan_adcLast (s : State) (x : ScanSt) : (s.withScan x).adcLast = s.adcLast := (rfl)
@[simp] theorem State.withScan_adc (s : State) (x : ScanSt) : (s.withScan x).adc = s.adc := (rfl)
@[simp] theorem State.withScan_afePos (s : State) (x : ScanSt) : (s.withScan x).afePos = s.afePos := (rfl)
@[simp] theorem State.withScan_lanes (s : State) (x : ScanSt) : (s.withScan x).lanes = s.lanes := (rfl)
@[simp] theorem State.withScan_eths (s : State) (x : ScanSt) : (s.withScan x).eths = s.eths := (rfl)
@[simp] theorem State.withScan_prp (s : State) (x : ScanSt) : (s.withScan x).prp = s.prp := (rfl)
@[simp] theorem State.withScan_lines (s : State) (x : ScanSt) : (s.withScan x).lines = s.lines := (rfl)
@[simp] theorem State.withScan_parkWake (s : State) (x : ScanSt) : (s.withScan x).parkWake = s.parkWake := (rfl)
@[simp] theorem State.withScan_guard (s : State) (x : ScanSt) : (s.withScan x).guard = s.guard := (rfl)
@[simp] theorem State.withScan_cask (s : State) (x : ScanSt) : (s.withScan x).cask = s.cask := (rfl)
@[simp] theorem State.withScan_cores (s : State) (x : ScanSt) : (s.withScan x).cores = s.cores := (rfl)
@[simp] theorem State.withScan_dma (s : State) (x : ScanSt) : (s.withScan x).dma = s.dma := (rfl)
@[simp] theorem State.withScan_amp (s : State) (x : ScanSt) : (s.withScan x).amp = s.amp := (rfl)
@[simp] theorem State.withScan_flOp (s : State) (x : ScanSt) : (s.withScan x).flOp = s.flOp := (rfl)
@[simp] theorem State.withScan_rget (s : State) (x : ScanSt) (a : Nat) : (s.withScan x).rget a = s.rget a := (rfl)
@[simp] theorem State.withScan_f (s : State) (x : ScanSt) (F : Fld) : (s.withScan x).f F = s.f F := (rfl)
@[simp] theorem State.withScan_b (s : State) (x : ScanSt) (F : Fld) : (s.withScan x).b F = s.b F := (rfl)
@[simp] theorem State.withScan_fs (s : State) (x : ScanSt) (F : Fld) : (s.withScan x).fs F = s.fs F := (rfl)
@[simp] theorem State.withKiln_pending (s : State) (x : KilnSt) : (s.withKiln x).pending = s.pending := (rfl)
@[simp] theorem State.withKiln_freeCtr (s : State) (x : KilnSt) : (s.withKiln x).freeCtr = s.freeCtr := (rfl)
@[simp] theorem State.withKiln_now (s : State) (x : KilnSt) : (s.withKiln x).now = s.now := (rfl)
@[simp] theorem State.withKiln_ms (s : State) (x : KilnSt) : (s.withKiln x).ms = s.ms := (rfl)
@[simp] theorem State.withKiln_regs (s : State) (x : KilnSt) : (s.withKiln x).regs = s.regs := (rfl)
@[simp] theorem State.withKiln_eff (s : State) (x : KilnSt) : (s.withKiln x).eff = s.eff := (rfl)
@[simp] theorem State.withKiln_mem (s : State) (x : KilnSt) : (s.withKiln x).mem = s.mem := (rfl)
@[simp] theorem State.withKiln_flash (s : State) (x : KilnSt) : (s.withKiln x).flash = s.flash := (rfl)
@[simp] theorem State.withKiln_tun (s : State) (x : KilnSt) : (s.withKiln x).tun = s.tun := (rfl)
@[simp] theorem State.withKiln_dev (s : State) (x : KilnSt) : (s.withKiln x).dev = s.dev := (rfl)
@[simp] theorem State.withKiln_nvm (s : State) (x : KilnSt) : (s.withKiln x).nvm = s.nvm := (rfl)
@[simp] theorem State.withKiln_rst (s : State) (x : KilnSt) : (s.withKiln x).rst = s.rst := (rfl)
@[simp] theorem State.withKiln_pins (s : State) (x : KilnSt) : (s.withKiln x).pins = s.pins := (rfl)
@[simp] theorem State.withKiln_emit (s : State) (x : KilnSt) : (s.withKiln x).emit = s.emit := (rfl)
@[simp] theorem State.withKiln_strs (s : State) (x : KilnSt) : (s.withKiln x).strs = s.strs := (rfl)
@[simp] theorem State.withKiln_scan (s : State) (x : KilnSt) : (s.withKiln x).scan = s.scan := (rfl)
@[simp] theorem State.withKiln_kiln (s : State) (x : KilnSt) : (s.withKiln x).kiln = x := (rfl)
@[simp] theorem State.withKiln_time (s : State) (x : KilnSt) : (s.withKiln x).time = s.time := (rfl)
@[simp] theorem State.withKiln_anchor (s : State) (x : KilnSt) : (s.withKiln x).anchor = s.anchor := (rfl)
@[simp] theorem State.withKiln_therm (s : State) (x : KilnSt) : (s.withKiln x).therm = s.therm := (rfl)
@[simp] theorem State.withKiln_chans (s : State) (x : KilnSt) : (s.withKiln x).chans = s.chans := (rfl)
@[simp] theorem State.withKiln_clus (s : State) (x : KilnSt) : (s.withKiln x).clus = s.clus := (rfl)
@[simp] theorem State.withKiln_mash (s : State) (x : KilnSt) : (s.withKiln x).mash = s.mash := (rfl)
@[simp] theorem State.withKiln_tins (s : State) (x : KilnSt) : (s.withKiln x).tins = s.tins := (rfl)
@[simp] theorem State.withKiln_hists (s : State) (x : KilnSt) : (s.withKiln x).hists = s.hists := (rfl)
@[simp] theorem State.withKiln_lau (s : State) (x : KilnSt) : (s.withKiln x).lau = s.lau := (rfl)
@[simp] theorem State.withKiln_cal (s : State) (x : KilnSt) : (s.withKiln x).cal = s.cal := (rfl)
@[simp] theorem State.withKiln_wort (s : State) (x : KilnSt) : (s.withKiln x).wort = s.wort := (rfl)
@[simp] theorem State.withKiln_dwl (s : State) (x : KilnSt) : (s.withKiln x).dwl = s.dwl := (rfl)
@[simp] theorem State.withKiln_ctl (s : State) (x : KilnSt) : (s.withKiln x).ctl = s.ctl := (rfl)
@[simp] theorem State.withKiln_adcLast (s : State) (x : KilnSt) : (s.withKiln x).adcLast = s.adcLast := (rfl)
@[simp] theorem State.withKiln_adc (s : State) (x : KilnSt) : (s.withKiln x).adc = s.adc := (rfl)
@[simp] theorem State.withKiln_afePos (s : State) (x : KilnSt) : (s.withKiln x).afePos = s.afePos := (rfl)
@[simp] theorem State.withKiln_lanes (s : State) (x : KilnSt) : (s.withKiln x).lanes = s.lanes := (rfl)
@[simp] theorem State.withKiln_eths (s : State) (x : KilnSt) : (s.withKiln x).eths = s.eths := (rfl)
@[simp] theorem State.withKiln_prp (s : State) (x : KilnSt) : (s.withKiln x).prp = s.prp := (rfl)
@[simp] theorem State.withKiln_lines (s : State) (x : KilnSt) : (s.withKiln x).lines = s.lines := (rfl)
@[simp] theorem State.withKiln_parkWake (s : State) (x : KilnSt) : (s.withKiln x).parkWake = s.parkWake := (rfl)
@[simp] theorem State.withKiln_guard (s : State) (x : KilnSt) : (s.withKiln x).guard = s.guard := (rfl)
@[simp] theorem State.withKiln_cask (s : State) (x : KilnSt) : (s.withKiln x).cask = s.cask := (rfl)
@[simp] theorem State.withKiln_cores (s : State) (x : KilnSt) : (s.withKiln x).cores = s.cores := (rfl)
@[simp] theorem State.withKiln_dma (s : State) (x : KilnSt) : (s.withKiln x).dma = s.dma := (rfl)
@[simp] theorem State.withKiln_amp (s : State) (x : KilnSt) : (s.withKiln x).amp = s.amp := (rfl)
@[simp] theorem State.withKiln_flOp (s : State) (x : KilnSt) : (s.withKiln x).flOp = s.flOp := (rfl)
@[simp] theorem State.withKiln_rget (s : State) (x : KilnSt) (a : Nat) : (s.withKiln x).rget a = s.rget a := (rfl)
@[simp] theorem State.withKiln_f (s : State) (x : KilnSt) (F : Fld) : (s.withKiln x).f F = s.f F := (rfl)
@[simp] theorem State.withKiln_b (s : State) (x : KilnSt) (F : Fld) : (s.withKiln x).b F = s.b F := (rfl)
@[simp] theorem State.withKiln_fs (s : State) (x : KilnSt) (F : Fld) : (s.withKiln x).fs F = s.fs F := (rfl)
@[simp] theorem State.withTime_pending (s : State) (x : TimeSt) : (s.withTime x).pending = s.pending := (rfl)
@[simp] theorem State.withTime_freeCtr (s : State) (x : TimeSt) : (s.withTime x).freeCtr = s.freeCtr := (rfl)
@[simp] theorem State.withTime_now (s : State) (x : TimeSt) : (s.withTime x).now = s.now := (rfl)
@[simp] theorem State.withTime_ms (s : State) (x : TimeSt) : (s.withTime x).ms = s.ms := (rfl)
@[simp] theorem State.withTime_regs (s : State) (x : TimeSt) : (s.withTime x).regs = s.regs := (rfl)
@[simp] theorem State.withTime_eff (s : State) (x : TimeSt) : (s.withTime x).eff = s.eff := (rfl)
@[simp] theorem State.withTime_mem (s : State) (x : TimeSt) : (s.withTime x).mem = s.mem := (rfl)
@[simp] theorem State.withTime_flash (s : State) (x : TimeSt) : (s.withTime x).flash = s.flash := (rfl)
@[simp] theorem State.withTime_tun (s : State) (x : TimeSt) : (s.withTime x).tun = s.tun := (rfl)
@[simp] theorem State.withTime_dev (s : State) (x : TimeSt) : (s.withTime x).dev = s.dev := (rfl)
@[simp] theorem State.withTime_nvm (s : State) (x : TimeSt) : (s.withTime x).nvm = s.nvm := (rfl)
@[simp] theorem State.withTime_rst (s : State) (x : TimeSt) : (s.withTime x).rst = s.rst := (rfl)
@[simp] theorem State.withTime_pins (s : State) (x : TimeSt) : (s.withTime x).pins = s.pins := (rfl)
@[simp] theorem State.withTime_emit (s : State) (x : TimeSt) : (s.withTime x).emit = s.emit := (rfl)
@[simp] theorem State.withTime_strs (s : State) (x : TimeSt) : (s.withTime x).strs = s.strs := (rfl)
@[simp] theorem State.withTime_scan (s : State) (x : TimeSt) : (s.withTime x).scan = s.scan := (rfl)
@[simp] theorem State.withTime_kiln (s : State) (x : TimeSt) : (s.withTime x).kiln = s.kiln := (rfl)
@[simp] theorem State.withTime_time (s : State) (x : TimeSt) : (s.withTime x).time = x := (rfl)
@[simp] theorem State.withTime_anchor (s : State) (x : TimeSt) : (s.withTime x).anchor = s.anchor := (rfl)
@[simp] theorem State.withTime_therm (s : State) (x : TimeSt) : (s.withTime x).therm = s.therm := (rfl)
@[simp] theorem State.withTime_chans (s : State) (x : TimeSt) : (s.withTime x).chans = s.chans := (rfl)
@[simp] theorem State.withTime_clus (s : State) (x : TimeSt) : (s.withTime x).clus = s.clus := (rfl)
@[simp] theorem State.withTime_mash (s : State) (x : TimeSt) : (s.withTime x).mash = s.mash := (rfl)
@[simp] theorem State.withTime_tins (s : State) (x : TimeSt) : (s.withTime x).tins = s.tins := (rfl)
@[simp] theorem State.withTime_hists (s : State) (x : TimeSt) : (s.withTime x).hists = s.hists := (rfl)
@[simp] theorem State.withTime_lau (s : State) (x : TimeSt) : (s.withTime x).lau = s.lau := (rfl)
@[simp] theorem State.withTime_cal (s : State) (x : TimeSt) : (s.withTime x).cal = s.cal := (rfl)
@[simp] theorem State.withTime_wort (s : State) (x : TimeSt) : (s.withTime x).wort = s.wort := (rfl)
@[simp] theorem State.withTime_dwl (s : State) (x : TimeSt) : (s.withTime x).dwl = s.dwl := (rfl)
@[simp] theorem State.withTime_ctl (s : State) (x : TimeSt) : (s.withTime x).ctl = s.ctl := (rfl)
@[simp] theorem State.withTime_adcLast (s : State) (x : TimeSt) : (s.withTime x).adcLast = s.adcLast := (rfl)
@[simp] theorem State.withTime_adc (s : State) (x : TimeSt) : (s.withTime x).adc = s.adc := (rfl)
@[simp] theorem State.withTime_afePos (s : State) (x : TimeSt) : (s.withTime x).afePos = s.afePos := (rfl)
@[simp] theorem State.withTime_lanes (s : State) (x : TimeSt) : (s.withTime x).lanes = s.lanes := (rfl)
@[simp] theorem State.withTime_eths (s : State) (x : TimeSt) : (s.withTime x).eths = s.eths := (rfl)
@[simp] theorem State.withTime_prp (s : State) (x : TimeSt) : (s.withTime x).prp = s.prp := (rfl)
@[simp] theorem State.withTime_lines (s : State) (x : TimeSt) : (s.withTime x).lines = s.lines := (rfl)
@[simp] theorem State.withTime_parkWake (s : State) (x : TimeSt) : (s.withTime x).parkWake = s.parkWake := (rfl)
@[simp] theorem State.withTime_guard (s : State) (x : TimeSt) : (s.withTime x).guard = s.guard := (rfl)
@[simp] theorem State.withTime_cask (s : State) (x : TimeSt) : (s.withTime x).cask = s.cask := (rfl)
@[simp] theorem State.withTime_cores (s : State) (x : TimeSt) : (s.withTime x).cores = s.cores := (rfl)
@[simp] theorem State.withTime_dma (s : State) (x : TimeSt) : (s.withTime x).dma = s.dma := (rfl)
@[simp] theorem State.withTime_amp (s : State) (x : TimeSt) : (s.withTime x).amp = s.amp := (rfl)
@[simp] theorem State.withTime_flOp (s : State) (x : TimeSt) : (s.withTime x).flOp = s.flOp := (rfl)
@[simp] theorem State.withTime_rget (s : State) (x : TimeSt) (a : Nat) : (s.withTime x).rget a = s.rget a := (rfl)
@[simp] theorem State.withTime_f (s : State) (x : TimeSt) (F : Fld) : (s.withTime x).f F = s.f F := (rfl)
@[simp] theorem State.withTime_b (s : State) (x : TimeSt) (F : Fld) : (s.withTime x).b F = s.b F := (rfl)
@[simp] theorem State.withTime_fs (s : State) (x : TimeSt) (F : Fld) : (s.withTime x).fs F = s.fs F := (rfl)
@[simp] theorem State.withAnchor_pending (s : State) (x : Anchor) : (s.withAnchor x).pending = s.pending := (rfl)
@[simp] theorem State.withAnchor_freeCtr (s : State) (x : Anchor) : (s.withAnchor x).freeCtr = s.freeCtr := (rfl)
@[simp] theorem State.withAnchor_now (s : State) (x : Anchor) : (s.withAnchor x).now = s.now := (rfl)
@[simp] theorem State.withAnchor_ms (s : State) (x : Anchor) : (s.withAnchor x).ms = s.ms := (rfl)
@[simp] theorem State.withAnchor_regs (s : State) (x : Anchor) : (s.withAnchor x).regs = s.regs := (rfl)
@[simp] theorem State.withAnchor_eff (s : State) (x : Anchor) : (s.withAnchor x).eff = s.eff := (rfl)
@[simp] theorem State.withAnchor_mem (s : State) (x : Anchor) : (s.withAnchor x).mem = s.mem := (rfl)
@[simp] theorem State.withAnchor_flash (s : State) (x : Anchor) : (s.withAnchor x).flash = s.flash := (rfl)
@[simp] theorem State.withAnchor_tun (s : State) (x : Anchor) : (s.withAnchor x).tun = s.tun := (rfl)
@[simp] theorem State.withAnchor_dev (s : State) (x : Anchor) : (s.withAnchor x).dev = s.dev := (rfl)
@[simp] theorem State.withAnchor_nvm (s : State) (x : Anchor) : (s.withAnchor x).nvm = s.nvm := (rfl)
@[simp] theorem State.withAnchor_rst (s : State) (x : Anchor) : (s.withAnchor x).rst = s.rst := (rfl)
@[simp] theorem State.withAnchor_pins (s : State) (x : Anchor) : (s.withAnchor x).pins = s.pins := (rfl)
@[simp] theorem State.withAnchor_emit (s : State) (x : Anchor) : (s.withAnchor x).emit = s.emit := (rfl)
@[simp] theorem State.withAnchor_strs (s : State) (x : Anchor) : (s.withAnchor x).strs = s.strs := (rfl)
@[simp] theorem State.withAnchor_scan (s : State) (x : Anchor) : (s.withAnchor x).scan = s.scan := (rfl)
@[simp] theorem State.withAnchor_kiln (s : State) (x : Anchor) : (s.withAnchor x).kiln = s.kiln := (rfl)
@[simp] theorem State.withAnchor_time (s : State) (x : Anchor) : (s.withAnchor x).time = s.time := (rfl)
@[simp] theorem State.withAnchor_anchor (s : State) (x : Anchor) : (s.withAnchor x).anchor = x := (rfl)
@[simp] theorem State.withAnchor_therm (s : State) (x : Anchor) : (s.withAnchor x).therm = s.therm := (rfl)
@[simp] theorem State.withAnchor_chans (s : State) (x : Anchor) : (s.withAnchor x).chans = s.chans := (rfl)
@[simp] theorem State.withAnchor_clus (s : State) (x : Anchor) : (s.withAnchor x).clus = s.clus := (rfl)
@[simp] theorem State.withAnchor_mash (s : State) (x : Anchor) : (s.withAnchor x).mash = s.mash := (rfl)
@[simp] theorem State.withAnchor_tins (s : State) (x : Anchor) : (s.withAnchor x).tins = s.tins := (rfl)
@[simp] theorem State.withAnchor_hists (s : State) (x : Anchor) : (s.withAnchor x).hists = s.hists := (rfl)
@[simp] theorem State.withAnchor_lau (s : State) (x : Anchor) : (s.withAnchor x).lau = s.lau := (rfl)
@[simp] theorem State.withAnchor_cal (s : State) (x : Anchor) : (s.withAnchor x).cal = s.cal := (rfl)
@[simp] theorem State.withAnchor_wort (s : State) (x : Anchor) : (s.withAnchor x).wort = s.wort := (rfl)
@[simp] theorem State.withAnchor_dwl (s : State) (x : Anchor) : (s.withAnchor x).dwl = s.dwl := (rfl)
@[simp] theorem State.withAnchor_ctl (s : State) (x : Anchor) : (s.withAnchor x).ctl = s.ctl := (rfl)
@[simp] theorem State.withAnchor_adcLast (s : State) (x : Anchor) : (s.withAnchor x).adcLast = s.adcLast := (rfl)
@[simp] theorem State.withAnchor_adc (s : State) (x : Anchor) : (s.withAnchor x).adc = s.adc := (rfl)
@[simp] theorem State.withAnchor_afePos (s : State) (x : Anchor) : (s.withAnchor x).afePos = s.afePos := (rfl)
@[simp] theorem State.withAnchor_lanes (s : State) (x : Anchor) : (s.withAnchor x).lanes = s.lanes := (rfl)
@[simp] theorem State.withAnchor_eths (s : State) (x : Anchor) : (s.withAnchor x).eths = s.eths := (rfl)
@[simp] theorem State.withAnchor_prp (s : State) (x : Anchor) : (s.withAnchor x).prp = s.prp := (rfl)
@[simp] theorem State.withAnchor_lines (s : State) (x : Anchor) : (s.withAnchor x).lines = s.lines := (rfl)
@[simp] theorem State.withAnchor_parkWake (s : State) (x : Anchor) : (s.withAnchor x).parkWake = s.parkWake := (rfl)
@[simp] theorem State.withAnchor_guard (s : State) (x : Anchor) : (s.withAnchor x).guard = s.guard := (rfl)
@[simp] theorem State.withAnchor_cask (s : State) (x : Anchor) : (s.withAnchor x).cask = s.cask := (rfl)
@[simp] theorem State.withAnchor_cores (s : State) (x : Anchor) : (s.withAnchor x).cores = s.cores := (rfl)
@[simp] theorem State.withAnchor_dma (s : State) (x : Anchor) : (s.withAnchor x).dma = s.dma := (rfl)
@[simp] theorem State.withAnchor_amp (s : State) (x : Anchor) : (s.withAnchor x).amp = s.amp := (rfl)
@[simp] theorem State.withAnchor_flOp (s : State) (x : Anchor) : (s.withAnchor x).flOp = s.flOp := (rfl)
@[simp] theorem State.withAnchor_rget (s : State) (x : Anchor) (a : Nat) : (s.withAnchor x).rget a = s.rget a := (rfl)
@[simp] theorem State.withAnchor_f (s : State) (x : Anchor) (F : Fld) : (s.withAnchor x).f F = s.f F := (rfl)
@[simp] theorem State.withAnchor_b (s : State) (x : Anchor) (F : Fld) : (s.withAnchor x).b F = s.b F := (rfl)
@[simp] theorem State.withAnchor_fs (s : State) (x : Anchor) (F : Fld) : (s.withAnchor x).fs F = s.fs F := (rfl)
@[simp] theorem State.withTherm_pending (s : State) (x : ThermSt) : (s.withTherm x).pending = s.pending := (rfl)
@[simp] theorem State.withTherm_freeCtr (s : State) (x : ThermSt) : (s.withTherm x).freeCtr = s.freeCtr := (rfl)
@[simp] theorem State.withTherm_now (s : State) (x : ThermSt) : (s.withTherm x).now = s.now := (rfl)
@[simp] theorem State.withTherm_ms (s : State) (x : ThermSt) : (s.withTherm x).ms = s.ms := (rfl)
@[simp] theorem State.withTherm_regs (s : State) (x : ThermSt) : (s.withTherm x).regs = s.regs := (rfl)
@[simp] theorem State.withTherm_eff (s : State) (x : ThermSt) : (s.withTherm x).eff = s.eff := (rfl)
@[simp] theorem State.withTherm_mem (s : State) (x : ThermSt) : (s.withTherm x).mem = s.mem := (rfl)
@[simp] theorem State.withTherm_flash (s : State) (x : ThermSt) : (s.withTherm x).flash = s.flash := (rfl)
@[simp] theorem State.withTherm_tun (s : State) (x : ThermSt) : (s.withTherm x).tun = s.tun := (rfl)
@[simp] theorem State.withTherm_dev (s : State) (x : ThermSt) : (s.withTherm x).dev = s.dev := (rfl)
@[simp] theorem State.withTherm_nvm (s : State) (x : ThermSt) : (s.withTherm x).nvm = s.nvm := (rfl)
@[simp] theorem State.withTherm_rst (s : State) (x : ThermSt) : (s.withTherm x).rst = s.rst := (rfl)
@[simp] theorem State.withTherm_pins (s : State) (x : ThermSt) : (s.withTherm x).pins = s.pins := (rfl)
@[simp] theorem State.withTherm_emit (s : State) (x : ThermSt) : (s.withTherm x).emit = s.emit := (rfl)
@[simp] theorem State.withTherm_strs (s : State) (x : ThermSt) : (s.withTherm x).strs = s.strs := (rfl)
@[simp] theorem State.withTherm_scan (s : State) (x : ThermSt) : (s.withTherm x).scan = s.scan := (rfl)
@[simp] theorem State.withTherm_kiln (s : State) (x : ThermSt) : (s.withTherm x).kiln = s.kiln := (rfl)
@[simp] theorem State.withTherm_time (s : State) (x : ThermSt) : (s.withTherm x).time = s.time := (rfl)
@[simp] theorem State.withTherm_anchor (s : State) (x : ThermSt) : (s.withTherm x).anchor = s.anchor := (rfl)
@[simp] theorem State.withTherm_therm (s : State) (x : ThermSt) : (s.withTherm x).therm = x := (rfl)
@[simp] theorem State.withTherm_chans (s : State) (x : ThermSt) : (s.withTherm x).chans = s.chans := (rfl)
@[simp] theorem State.withTherm_clus (s : State) (x : ThermSt) : (s.withTherm x).clus = s.clus := (rfl)
@[simp] theorem State.withTherm_mash (s : State) (x : ThermSt) : (s.withTherm x).mash = s.mash := (rfl)
@[simp] theorem State.withTherm_tins (s : State) (x : ThermSt) : (s.withTherm x).tins = s.tins := (rfl)
@[simp] theorem State.withTherm_hists (s : State) (x : ThermSt) : (s.withTherm x).hists = s.hists := (rfl)
@[simp] theorem State.withTherm_lau (s : State) (x : ThermSt) : (s.withTherm x).lau = s.lau := (rfl)
@[simp] theorem State.withTherm_cal (s : State) (x : ThermSt) : (s.withTherm x).cal = s.cal := (rfl)
@[simp] theorem State.withTherm_wort (s : State) (x : ThermSt) : (s.withTherm x).wort = s.wort := (rfl)
@[simp] theorem State.withTherm_dwl (s : State) (x : ThermSt) : (s.withTherm x).dwl = s.dwl := (rfl)
@[simp] theorem State.withTherm_ctl (s : State) (x : ThermSt) : (s.withTherm x).ctl = s.ctl := (rfl)
@[simp] theorem State.withTherm_adcLast (s : State) (x : ThermSt) : (s.withTherm x).adcLast = s.adcLast := (rfl)
@[simp] theorem State.withTherm_adc (s : State) (x : ThermSt) : (s.withTherm x).adc = s.adc := (rfl)
@[simp] theorem State.withTherm_afePos (s : State) (x : ThermSt) : (s.withTherm x).afePos = s.afePos := (rfl)
@[simp] theorem State.withTherm_lanes (s : State) (x : ThermSt) : (s.withTherm x).lanes = s.lanes := (rfl)
@[simp] theorem State.withTherm_eths (s : State) (x : ThermSt) : (s.withTherm x).eths = s.eths := (rfl)
@[simp] theorem State.withTherm_prp (s : State) (x : ThermSt) : (s.withTherm x).prp = s.prp := (rfl)
@[simp] theorem State.withTherm_lines (s : State) (x : ThermSt) : (s.withTherm x).lines = s.lines := (rfl)
@[simp] theorem State.withTherm_parkWake (s : State) (x : ThermSt) : (s.withTherm x).parkWake = s.parkWake := (rfl)
@[simp] theorem State.withTherm_guard (s : State) (x : ThermSt) : (s.withTherm x).guard = s.guard := (rfl)
@[simp] theorem State.withTherm_cask (s : State) (x : ThermSt) : (s.withTherm x).cask = s.cask := (rfl)
@[simp] theorem State.withTherm_cores (s : State) (x : ThermSt) : (s.withTherm x).cores = s.cores := (rfl)
@[simp] theorem State.withTherm_dma (s : State) (x : ThermSt) : (s.withTherm x).dma = s.dma := (rfl)
@[simp] theorem State.withTherm_amp (s : State) (x : ThermSt) : (s.withTherm x).amp = s.amp := (rfl)
@[simp] theorem State.withTherm_flOp (s : State) (x : ThermSt) : (s.withTherm x).flOp = s.flOp := (rfl)
@[simp] theorem State.withTherm_rget (s : State) (x : ThermSt) (a : Nat) : (s.withTherm x).rget a = s.rget a := (rfl)
@[simp] theorem State.withTherm_f (s : State) (x : ThermSt) (F : Fld) : (s.withTherm x).f F = s.f F := (rfl)
@[simp] theorem State.withTherm_b (s : State) (x : ThermSt) (F : Fld) : (s.withTherm x).b F = s.b F := (rfl)
@[simp] theorem State.withTherm_fs (s : State) (x : ThermSt) (F : Fld) : (s.withTherm x).fs F = s.fs F := (rfl)
@[simp] theorem State.withChans_pending (s : State) (x : SMap ChanSt) : (s.withChans x).pending = s.pending := (rfl)
@[simp] theorem State.withChans_freeCtr (s : State) (x : SMap ChanSt) : (s.withChans x).freeCtr = s.freeCtr := (rfl)
@[simp] theorem State.withChans_now (s : State) (x : SMap ChanSt) : (s.withChans x).now = s.now := (rfl)
@[simp] theorem State.withChans_ms (s : State) (x : SMap ChanSt) : (s.withChans x).ms = s.ms := (rfl)
@[simp] theorem State.withChans_regs (s : State) (x : SMap ChanSt) : (s.withChans x).regs = s.regs := (rfl)
@[simp] theorem State.withChans_eff (s : State) (x : SMap ChanSt) : (s.withChans x).eff = s.eff := (rfl)
@[simp] theorem State.withChans_mem (s : State) (x : SMap ChanSt) : (s.withChans x).mem = s.mem := (rfl)
@[simp] theorem State.withChans_flash (s : State) (x : SMap ChanSt) : (s.withChans x).flash = s.flash := (rfl)
@[simp] theorem State.withChans_tun (s : State) (x : SMap ChanSt) : (s.withChans x).tun = s.tun := (rfl)
@[simp] theorem State.withChans_dev (s : State) (x : SMap ChanSt) : (s.withChans x).dev = s.dev := (rfl)
@[simp] theorem State.withChans_nvm (s : State) (x : SMap ChanSt) : (s.withChans x).nvm = s.nvm := (rfl)
@[simp] theorem State.withChans_rst (s : State) (x : SMap ChanSt) : (s.withChans x).rst = s.rst := (rfl)
@[simp] theorem State.withChans_pins (s : State) (x : SMap ChanSt) : (s.withChans x).pins = s.pins := (rfl)
@[simp] theorem State.withChans_emit (s : State) (x : SMap ChanSt) : (s.withChans x).emit = s.emit := (rfl)
@[simp] theorem State.withChans_strs (s : State) (x : SMap ChanSt) : (s.withChans x).strs = s.strs := (rfl)
@[simp] theorem State.withChans_scan (s : State) (x : SMap ChanSt) : (s.withChans x).scan = s.scan := (rfl)
@[simp] theorem State.withChans_kiln (s : State) (x : SMap ChanSt) : (s.withChans x).kiln = s.kiln := (rfl)
@[simp] theorem State.withChans_time (s : State) (x : SMap ChanSt) : (s.withChans x).time = s.time := (rfl)
@[simp] theorem State.withChans_anchor (s : State) (x : SMap ChanSt) : (s.withChans x).anchor = s.anchor := (rfl)
@[simp] theorem State.withChans_therm (s : State) (x : SMap ChanSt) : (s.withChans x).therm = s.therm := (rfl)
@[simp] theorem State.withChans_chans (s : State) (x : SMap ChanSt) : (s.withChans x).chans = x := (rfl)
@[simp] theorem State.withChans_clus (s : State) (x : SMap ChanSt) : (s.withChans x).clus = s.clus := (rfl)
@[simp] theorem State.withChans_mash (s : State) (x : SMap ChanSt) : (s.withChans x).mash = s.mash := (rfl)
@[simp] theorem State.withChans_tins (s : State) (x : SMap ChanSt) : (s.withChans x).tins = s.tins := (rfl)
@[simp] theorem State.withChans_hists (s : State) (x : SMap ChanSt) : (s.withChans x).hists = s.hists := (rfl)
@[simp] theorem State.withChans_lau (s : State) (x : SMap ChanSt) : (s.withChans x).lau = s.lau := (rfl)
@[simp] theorem State.withChans_cal (s : State) (x : SMap ChanSt) : (s.withChans x).cal = s.cal := (rfl)
@[simp] theorem State.withChans_wort (s : State) (x : SMap ChanSt) : (s.withChans x).wort = s.wort := (rfl)
@[simp] theorem State.withChans_dwl (s : State) (x : SMap ChanSt) : (s.withChans x).dwl = s.dwl := (rfl)
@[simp] theorem State.withChans_ctl (s : State) (x : SMap ChanSt) : (s.withChans x).ctl = s.ctl := (rfl)
@[simp] theorem State.withChans_adcLast (s : State) (x : SMap ChanSt) : (s.withChans x).adcLast = s.adcLast := (rfl)
@[simp] theorem State.withChans_adc (s : State) (x : SMap ChanSt) : (s.withChans x).adc = s.adc := (rfl)
@[simp] theorem State.withChans_afePos (s : State) (x : SMap ChanSt) : (s.withChans x).afePos = s.afePos := (rfl)
@[simp] theorem State.withChans_lanes (s : State) (x : SMap ChanSt) : (s.withChans x).lanes = s.lanes := (rfl)
@[simp] theorem State.withChans_eths (s : State) (x : SMap ChanSt) : (s.withChans x).eths = s.eths := (rfl)
@[simp] theorem State.withChans_prp (s : State) (x : SMap ChanSt) : (s.withChans x).prp = s.prp := (rfl)
@[simp] theorem State.withChans_lines (s : State) (x : SMap ChanSt) : (s.withChans x).lines = s.lines := (rfl)
@[simp] theorem State.withChans_parkWake (s : State) (x : SMap ChanSt) : (s.withChans x).parkWake = s.parkWake := (rfl)
@[simp] theorem State.withChans_guard (s : State) (x : SMap ChanSt) : (s.withChans x).guard = s.guard := (rfl)
@[simp] theorem State.withChans_cask (s : State) (x : SMap ChanSt) : (s.withChans x).cask = s.cask := (rfl)
@[simp] theorem State.withChans_cores (s : State) (x : SMap ChanSt) : (s.withChans x).cores = s.cores := (rfl)
@[simp] theorem State.withChans_dma (s : State) (x : SMap ChanSt) : (s.withChans x).dma = s.dma := (rfl)
@[simp] theorem State.withChans_amp (s : State) (x : SMap ChanSt) : (s.withChans x).amp = s.amp := (rfl)
@[simp] theorem State.withChans_flOp (s : State) (x : SMap ChanSt) : (s.withChans x).flOp = s.flOp := (rfl)
@[simp] theorem State.withChans_rget (s : State) (x : SMap ChanSt) (a : Nat) : (s.withChans x).rget a = s.rget a := (rfl)
@[simp] theorem State.withChans_f (s : State) (x : SMap ChanSt) (F : Fld) : (s.withChans x).f F = s.f F := (rfl)
@[simp] theorem State.withChans_b (s : State) (x : SMap ChanSt) (F : Fld) : (s.withChans x).b F = s.b F := (rfl)
@[simp] theorem State.withChans_fs (s : State) (x : SMap ChanSt) (F : Fld) : (s.withChans x).fs F = s.fs F := (rfl)
@[simp] theorem State.withClus_pending (s : State) (x : SMap CluSt) : (s.withClus x).pending = s.pending := (rfl)
@[simp] theorem State.withClus_freeCtr (s : State) (x : SMap CluSt) : (s.withClus x).freeCtr = s.freeCtr := (rfl)
@[simp] theorem State.withClus_now (s : State) (x : SMap CluSt) : (s.withClus x).now = s.now := (rfl)
@[simp] theorem State.withClus_ms (s : State) (x : SMap CluSt) : (s.withClus x).ms = s.ms := (rfl)
@[simp] theorem State.withClus_regs (s : State) (x : SMap CluSt) : (s.withClus x).regs = s.regs := (rfl)
@[simp] theorem State.withClus_eff (s : State) (x : SMap CluSt) : (s.withClus x).eff = s.eff := (rfl)
@[simp] theorem State.withClus_mem (s : State) (x : SMap CluSt) : (s.withClus x).mem = s.mem := (rfl)
@[simp] theorem State.withClus_flash (s : State) (x : SMap CluSt) : (s.withClus x).flash = s.flash := (rfl)
@[simp] theorem State.withClus_tun (s : State) (x : SMap CluSt) : (s.withClus x).tun = s.tun := (rfl)
@[simp] theorem State.withClus_dev (s : State) (x : SMap CluSt) : (s.withClus x).dev = s.dev := (rfl)
@[simp] theorem State.withClus_nvm (s : State) (x : SMap CluSt) : (s.withClus x).nvm = s.nvm := (rfl)
@[simp] theorem State.withClus_rst (s : State) (x : SMap CluSt) : (s.withClus x).rst = s.rst := (rfl)
@[simp] theorem State.withClus_pins (s : State) (x : SMap CluSt) : (s.withClus x).pins = s.pins := (rfl)
@[simp] theorem State.withClus_emit (s : State) (x : SMap CluSt) : (s.withClus x).emit = s.emit := (rfl)
@[simp] theorem State.withClus_strs (s : State) (x : SMap CluSt) : (s.withClus x).strs = s.strs := (rfl)
@[simp] theorem State.withClus_scan (s : State) (x : SMap CluSt) : (s.withClus x).scan = s.scan := (rfl)
@[simp] theorem State.withClus_kiln (s : State) (x : SMap CluSt) : (s.withClus x).kiln = s.kiln := (rfl)
@[simp] theorem State.withClus_time (s : State) (x : SMap CluSt) : (s.withClus x).time = s.time := (rfl)
@[simp] theorem State.withClus_anchor (s : State) (x : SMap CluSt) : (s.withClus x).anchor = s.anchor := (rfl)
@[simp] theorem State.withClus_therm (s : State) (x : SMap CluSt) : (s.withClus x).therm = s.therm := (rfl)
@[simp] theorem State.withClus_chans (s : State) (x : SMap CluSt) : (s.withClus x).chans = s.chans := (rfl)
@[simp] theorem State.withClus_clus (s : State) (x : SMap CluSt) : (s.withClus x).clus = x := (rfl)
@[simp] theorem State.withClus_mash (s : State) (x : SMap CluSt) : (s.withClus x).mash = s.mash := (rfl)
@[simp] theorem State.withClus_tins (s : State) (x : SMap CluSt) : (s.withClus x).tins = s.tins := (rfl)
@[simp] theorem State.withClus_hists (s : State) (x : SMap CluSt) : (s.withClus x).hists = s.hists := (rfl)
@[simp] theorem State.withClus_lau (s : State) (x : SMap CluSt) : (s.withClus x).lau = s.lau := (rfl)
@[simp] theorem State.withClus_cal (s : State) (x : SMap CluSt) : (s.withClus x).cal = s.cal := (rfl)
@[simp] theorem State.withClus_wort (s : State) (x : SMap CluSt) : (s.withClus x).wort = s.wort := (rfl)
@[simp] theorem State.withClus_dwl (s : State) (x : SMap CluSt) : (s.withClus x).dwl = s.dwl := (rfl)
@[simp] theorem State.withClus_ctl (s : State) (x : SMap CluSt) : (s.withClus x).ctl = s.ctl := (rfl)
@[simp] theorem State.withClus_adcLast (s : State) (x : SMap CluSt) : (s.withClus x).adcLast = s.adcLast := (rfl)
@[simp] theorem State.withClus_adc (s : State) (x : SMap CluSt) : (s.withClus x).adc = s.adc := (rfl)
@[simp] theorem State.withClus_afePos (s : State) (x : SMap CluSt) : (s.withClus x).afePos = s.afePos := (rfl)
@[simp] theorem State.withClus_lanes (s : State) (x : SMap CluSt) : (s.withClus x).lanes = s.lanes := (rfl)
@[simp] theorem State.withClus_eths (s : State) (x : SMap CluSt) : (s.withClus x).eths = s.eths := (rfl)
@[simp] theorem State.withClus_prp (s : State) (x : SMap CluSt) : (s.withClus x).prp = s.prp := (rfl)
@[simp] theorem State.withClus_lines (s : State) (x : SMap CluSt) : (s.withClus x).lines = s.lines := (rfl)
@[simp] theorem State.withClus_parkWake (s : State) (x : SMap CluSt) : (s.withClus x).parkWake = s.parkWake := (rfl)
@[simp] theorem State.withClus_guard (s : State) (x : SMap CluSt) : (s.withClus x).guard = s.guard := (rfl)
@[simp] theorem State.withClus_cask (s : State) (x : SMap CluSt) : (s.withClus x).cask = s.cask := (rfl)
@[simp] theorem State.withClus_cores (s : State) (x : SMap CluSt) : (s.withClus x).cores = s.cores := (rfl)
@[simp] theorem State.withClus_dma (s : State) (x : SMap CluSt) : (s.withClus x).dma = s.dma := (rfl)
@[simp] theorem State.withClus_amp (s : State) (x : SMap CluSt) : (s.withClus x).amp = s.amp := (rfl)
@[simp] theorem State.withClus_flOp (s : State) (x : SMap CluSt) : (s.withClus x).flOp = s.flOp := (rfl)
@[simp] theorem State.withClus_rget (s : State) (x : SMap CluSt) (a : Nat) : (s.withClus x).rget a = s.rget a := (rfl)
@[simp] theorem State.withClus_f (s : State) (x : SMap CluSt) (F : Fld) : (s.withClus x).f F = s.f F := (rfl)
@[simp] theorem State.withClus_b (s : State) (x : SMap CluSt) (F : Fld) : (s.withClus x).b F = s.b F := (rfl)
@[simp] theorem State.withClus_fs (s : State) (x : SMap CluSt) (F : Fld) : (s.withClus x).fs F = s.fs F := (rfl)
@[simp] theorem State.withMash_pending (s : State) (x : MashSt) : (s.withMash x).pending = s.pending := (rfl)
@[simp] theorem State.withMash_freeCtr (s : State) (x : MashSt) : (s.withMash x).freeCtr = s.freeCtr := (rfl)
@[simp] theorem State.withMash_now (s : State) (x : MashSt) : (s.withMash x).now = s.now := (rfl)
@[simp] theorem State.withMash_ms (s : State) (x : MashSt) : (s.withMash x).ms = s.ms := (rfl)
@[simp] theorem State.withMash_regs (s : State) (x : MashSt) : (s.withMash x).regs = s.regs := (rfl)
@[simp] theorem State.withMash_eff (s : State) (x : MashSt) : (s.withMash x).eff = s.eff := (rfl)
@[simp] theorem State.withMash_mem (s : State) (x : MashSt) : (s.withMash x).mem = s.mem := (rfl)
@[simp] theorem State.withMash_flash (s : State) (x : MashSt) : (s.withMash x).flash = s.flash := (rfl)
@[simp] theorem State.withMash_tun (s : State) (x : MashSt) : (s.withMash x).tun = s.tun := (rfl)
@[simp] theorem State.withMash_dev (s : State) (x : MashSt) : (s.withMash x).dev = s.dev := (rfl)
@[simp] theorem State.withMash_nvm (s : State) (x : MashSt) : (s.withMash x).nvm = s.nvm := (rfl)
@[simp] theorem State.withMash_rst (s : State) (x : MashSt) : (s.withMash x).rst = s.rst := (rfl)
@[simp] theorem State.withMash_pins (s : State) (x : MashSt) : (s.withMash x).pins = s.pins := (rfl)
@[simp] theorem State.withMash_emit (s : State) (x : MashSt) : (s.withMash x).emit = s.emit := (rfl)
@[simp] theorem State.withMash_strs (s : State) (x : MashSt) : (s.withMash x).strs = s.strs := (rfl)
@[simp] theorem State.withMash_scan (s : State) (x : MashSt) : (s.withMash x).scan = s.scan := (rfl)
@[simp] theorem State.withMash_kiln (s : State) (x : MashSt) : (s.withMash x).kiln = s.kiln := (rfl)
@[simp] theorem State.withMash_time (s : State) (x : MashSt) : (s.withMash x).time = s.time := (rfl)
@[simp] theorem State.withMash_anchor (s : State) (x : MashSt) : (s.withMash x).anchor = s.anchor := (rfl)
@[simp] theorem State.withMash_therm (s : State) (x : MashSt) : (s.withMash x).therm = s.therm := (rfl)
@[simp] theorem State.withMash_chans (s : State) (x : MashSt) : (s.withMash x).chans = s.chans := (rfl)
@[simp] theorem State.withMash_clus (s : State) (x : MashSt) : (s.withMash x).clus = s.clus := (rfl)
@[simp] theorem State.withMash_mash (s : State) (x : MashSt) : (s.withMash x).mash = x := (rfl)
@[simp] theorem State.withMash_tins (s : State) (x : MashSt) : (s.withMash x).tins = s.tins := (rfl)
@[simp] theorem State.withMash_hists (s : State) (x : MashSt) : (s.withMash x).hists = s.hists := (rfl)
@[simp] theorem State.withMash_lau (s : State) (x : MashSt) : (s.withMash x).lau = s.lau := (rfl)
@[simp] theorem State.withMash_cal (s : State) (x : MashSt) : (s.withMash x).cal = s.cal := (rfl)
@[simp] theorem State.withMash_wort (s : State) (x : MashSt) : (s.withMash x).wort = s.wort := (rfl)
@[simp] theorem State.withMash_dwl (s : State) (x : MashSt) : (s.withMash x).dwl = s.dwl := (rfl)
@[simp] theorem State.withMash_ctl (s : State) (x : MashSt) : (s.withMash x).ctl = s.ctl := (rfl)
@[simp] theorem State.withMash_adcLast (s : State) (x : MashSt) : (s.withMash x).adcLast = s.adcLast := (rfl)
@[simp] theorem State.withMash_adc (s : State) (x : MashSt) : (s.withMash x).adc = s.adc := (rfl)
@[simp] theorem State.withMash_afePos (s : State) (x : MashSt) : (s.withMash x).afePos = s.afePos := (rfl)
@[simp] theorem State.withMash_lanes (s : State) (x : MashSt) : (s.withMash x).lanes = s.lanes := (rfl)
@[simp] theorem State.withMash_eths (s : State) (x : MashSt) : (s.withMash x).eths = s.eths := (rfl)
@[simp] theorem State.withMash_prp (s : State) (x : MashSt) : (s.withMash x).prp = s.prp := (rfl)
@[simp] theorem State.withMash_lines (s : State) (x : MashSt) : (s.withMash x).lines = s.lines := (rfl)
@[simp] theorem State.withMash_parkWake (s : State) (x : MashSt) : (s.withMash x).parkWake = s.parkWake := (rfl)
@[simp] theorem State.withMash_guard (s : State) (x : MashSt) : (s.withMash x).guard = s.guard := (rfl)
@[simp] theorem State.withMash_cask (s : State) (x : MashSt) : (s.withMash x).cask = s.cask := (rfl)
@[simp] theorem State.withMash_cores (s : State) (x : MashSt) : (s.withMash x).cores = s.cores := (rfl)
@[simp] theorem State.withMash_dma (s : State) (x : MashSt) : (s.withMash x).dma = s.dma := (rfl)
@[simp] theorem State.withMash_amp (s : State) (x : MashSt) : (s.withMash x).amp = s.amp := (rfl)
@[simp] theorem State.withMash_flOp (s : State) (x : MashSt) : (s.withMash x).flOp = s.flOp := (rfl)
@[simp] theorem State.withMash_rget (s : State) (x : MashSt) (a : Nat) : (s.withMash x).rget a = s.rget a := (rfl)
@[simp] theorem State.withMash_f (s : State) (x : MashSt) (F : Fld) : (s.withMash x).f F = s.f F := (rfl)
@[simp] theorem State.withMash_b (s : State) (x : MashSt) (F : Fld) : (s.withMash x).b F = s.b F := (rfl)
@[simp] theorem State.withMash_fs (s : State) (x : MashSt) (F : Fld) : (s.withMash x).fs F = s.fs F := (rfl)
@[simp] theorem State.withTins_pending (s : State) (x : SMap TinSt) : (s.withTins x).pending = s.pending := (rfl)
@[simp] theorem State.withTins_freeCtr (s : State) (x : SMap TinSt) : (s.withTins x).freeCtr = s.freeCtr := (rfl)
@[simp] theorem State.withTins_now (s : State) (x : SMap TinSt) : (s.withTins x).now = s.now := (rfl)
@[simp] theorem State.withTins_ms (s : State) (x : SMap TinSt) : (s.withTins x).ms = s.ms := (rfl)
@[simp] theorem State.withTins_regs (s : State) (x : SMap TinSt) : (s.withTins x).regs = s.regs := (rfl)
@[simp] theorem State.withTins_eff (s : State) (x : SMap TinSt) : (s.withTins x).eff = s.eff := (rfl)
@[simp] theorem State.withTins_mem (s : State) (x : SMap TinSt) : (s.withTins x).mem = s.mem := (rfl)
@[simp] theorem State.withTins_flash (s : State) (x : SMap TinSt) : (s.withTins x).flash = s.flash := (rfl)
@[simp] theorem State.withTins_tun (s : State) (x : SMap TinSt) : (s.withTins x).tun = s.tun := (rfl)
@[simp] theorem State.withTins_dev (s : State) (x : SMap TinSt) : (s.withTins x).dev = s.dev := (rfl)
@[simp] theorem State.withTins_nvm (s : State) (x : SMap TinSt) : (s.withTins x).nvm = s.nvm := (rfl)
@[simp] theorem State.withTins_rst (s : State) (x : SMap TinSt) : (s.withTins x).rst = s.rst := (rfl)
@[simp] theorem State.withTins_pins (s : State) (x : SMap TinSt) : (s.withTins x).pins = s.pins := (rfl)
@[simp] theorem State.withTins_emit (s : State) (x : SMap TinSt) : (s.withTins x).emit = s.emit := (rfl)
@[simp] theorem State.withTins_strs (s : State) (x : SMap TinSt) : (s.withTins x).strs = s.strs := (rfl)
@[simp] theorem State.withTins_scan (s : State) (x : SMap TinSt) : (s.withTins x).scan = s.scan := (rfl)
@[simp] theorem State.withTins_kiln (s : State) (x : SMap TinSt) : (s.withTins x).kiln = s.kiln := (rfl)
@[simp] theorem State.withTins_time (s : State) (x : SMap TinSt) : (s.withTins x).time = s.time := (rfl)
@[simp] theorem State.withTins_anchor (s : State) (x : SMap TinSt) : (s.withTins x).anchor = s.anchor := (rfl)
@[simp] theorem State.withTins_therm (s : State) (x : SMap TinSt) : (s.withTins x).therm = s.therm := (rfl)
@[simp] theorem State.withTins_chans (s : State) (x : SMap TinSt) : (s.withTins x).chans = s.chans := (rfl)
@[simp] theorem State.withTins_clus (s : State) (x : SMap TinSt) : (s.withTins x).clus = s.clus := (rfl)
@[simp] theorem State.withTins_mash (s : State) (x : SMap TinSt) : (s.withTins x).mash = s.mash := (rfl)
@[simp] theorem State.withTins_tins (s : State) (x : SMap TinSt) : (s.withTins x).tins = x := (rfl)
@[simp] theorem State.withTins_hists (s : State) (x : SMap TinSt) : (s.withTins x).hists = s.hists := (rfl)
@[simp] theorem State.withTins_lau (s : State) (x : SMap TinSt) : (s.withTins x).lau = s.lau := (rfl)
@[simp] theorem State.withTins_cal (s : State) (x : SMap TinSt) : (s.withTins x).cal = s.cal := (rfl)
@[simp] theorem State.withTins_wort (s : State) (x : SMap TinSt) : (s.withTins x).wort = s.wort := (rfl)
@[simp] theorem State.withTins_dwl (s : State) (x : SMap TinSt) : (s.withTins x).dwl = s.dwl := (rfl)
@[simp] theorem State.withTins_ctl (s : State) (x : SMap TinSt) : (s.withTins x).ctl = s.ctl := (rfl)
@[simp] theorem State.withTins_adcLast (s : State) (x : SMap TinSt) : (s.withTins x).adcLast = s.adcLast := (rfl)
@[simp] theorem State.withTins_adc (s : State) (x : SMap TinSt) : (s.withTins x).adc = s.adc := (rfl)
@[simp] theorem State.withTins_afePos (s : State) (x : SMap TinSt) : (s.withTins x).afePos = s.afePos := (rfl)
@[simp] theorem State.withTins_lanes (s : State) (x : SMap TinSt) : (s.withTins x).lanes = s.lanes := (rfl)
@[simp] theorem State.withTins_eths (s : State) (x : SMap TinSt) : (s.withTins x).eths = s.eths := (rfl)
@[simp] theorem State.withTins_prp (s : State) (x : SMap TinSt) : (s.withTins x).prp = s.prp := (rfl)
@[simp] theorem State.withTins_lines (s : State) (x : SMap TinSt) : (s.withTins x).lines = s.lines := (rfl)
@[simp] theorem State.withTins_parkWake (s : State) (x : SMap TinSt) : (s.withTins x).parkWake = s.parkWake := (rfl)
@[simp] theorem State.withTins_guard (s : State) (x : SMap TinSt) : (s.withTins x).guard = s.guard := (rfl)
@[simp] theorem State.withTins_cask (s : State) (x : SMap TinSt) : (s.withTins x).cask = s.cask := (rfl)
@[simp] theorem State.withTins_cores (s : State) (x : SMap TinSt) : (s.withTins x).cores = s.cores := (rfl)
@[simp] theorem State.withTins_dma (s : State) (x : SMap TinSt) : (s.withTins x).dma = s.dma := (rfl)
@[simp] theorem State.withTins_amp (s : State) (x : SMap TinSt) : (s.withTins x).amp = s.amp := (rfl)
@[simp] theorem State.withTins_flOp (s : State) (x : SMap TinSt) : (s.withTins x).flOp = s.flOp := (rfl)
@[simp] theorem State.withTins_rget (s : State) (x : SMap TinSt) (a : Nat) : (s.withTins x).rget a = s.rget a := (rfl)
@[simp] theorem State.withTins_f (s : State) (x : SMap TinSt) (F : Fld) : (s.withTins x).f F = s.f F := (rfl)
@[simp] theorem State.withTins_b (s : State) (x : SMap TinSt) (F : Fld) : (s.withTins x).b F = s.b F := (rfl)
@[simp] theorem State.withTins_fs (s : State) (x : SMap TinSt) (F : Fld) : (s.withTins x).fs F = s.fs F := (rfl)
@[simp] theorem State.withHists_pending (s : State) (x : SMap Hist) : (s.withHists x).pending = s.pending := (rfl)
@[simp] theorem State.withHists_freeCtr (s : State) (x : SMap Hist) : (s.withHists x).freeCtr = s.freeCtr := (rfl)
@[simp] theorem State.withHists_now (s : State) (x : SMap Hist) : (s.withHists x).now = s.now := (rfl)
@[simp] theorem State.withHists_ms (s : State) (x : SMap Hist) : (s.withHists x).ms = s.ms := (rfl)
@[simp] theorem State.withHists_regs (s : State) (x : SMap Hist) : (s.withHists x).regs = s.regs := (rfl)
@[simp] theorem State.withHists_eff (s : State) (x : SMap Hist) : (s.withHists x).eff = s.eff := (rfl)
@[simp] theorem State.withHists_mem (s : State) (x : SMap Hist) : (s.withHists x).mem = s.mem := (rfl)
@[simp] theorem State.withHists_flash (s : State) (x : SMap Hist) : (s.withHists x).flash = s.flash := (rfl)
@[simp] theorem State.withHists_tun (s : State) (x : SMap Hist) : (s.withHists x).tun = s.tun := (rfl)
@[simp] theorem State.withHists_dev (s : State) (x : SMap Hist) : (s.withHists x).dev = s.dev := (rfl)
@[simp] theorem State.withHists_nvm (s : State) (x : SMap Hist) : (s.withHists x).nvm = s.nvm := (rfl)
@[simp] theorem State.withHists_rst (s : State) (x : SMap Hist) : (s.withHists x).rst = s.rst := (rfl)
@[simp] theorem State.withHists_pins (s : State) (x : SMap Hist) : (s.withHists x).pins = s.pins := (rfl)
@[simp] theorem State.withHists_emit (s : State) (x : SMap Hist) : (s.withHists x).emit = s.emit := (rfl)
@[simp] theorem State.withHists_strs (s : State) (x : SMap Hist) : (s.withHists x).strs = s.strs := (rfl)
@[simp] theorem State.withHists_scan (s : State) (x : SMap Hist) : (s.withHists x).scan = s.scan := (rfl)
@[simp] theorem State.withHists_kiln (s : State) (x : SMap Hist) : (s.withHists x).kiln = s.kiln := (rfl)
@[simp] theorem State.withHists_time (s : State) (x : SMap Hist) : (s.withHists x).time = s.time := (rfl)
@[simp] theorem State.withHists_anchor (s : State) (x : SMap Hist) : (s.withHists x).anchor = s.anchor := (rfl)
@[simp] theorem State.withHists_therm (s : State) (x : SMap Hist) : (s.withHists x).therm = s.therm := (rfl)
@[simp] theorem State.withHists_chans (s : State) (x : SMap Hist) : (s.withHists x).chans = s.chans := (rfl)
@[simp] theorem State.withHists_clus (s : State) (x : SMap Hist) : (s.withHists x).clus = s.clus := (rfl)
@[simp] theorem State.withHists_mash (s : State) (x : SMap Hist) : (s.withHists x).mash = s.mash := (rfl)
@[simp] theorem State.withHists_tins (s : State) (x : SMap Hist) : (s.withHists x).tins = s.tins := (rfl)
@[simp] theorem State.withHists_hists (s : State) (x : SMap Hist) : (s.withHists x).hists = x := (rfl)
@[simp] theorem State.withHists_lau (s : State) (x : SMap Hist) : (s.withHists x).lau = s.lau := (rfl)
@[simp] theorem State.withHists_cal (s : State) (x : SMap Hist) : (s.withHists x).cal = s.cal := (rfl)
@[simp] theorem State.withHists_wort (s : State) (x : SMap Hist) : (s.withHists x).wort = s.wort := (rfl)
@[simp] theorem State.withHists_dwl (s : State) (x : SMap Hist) : (s.withHists x).dwl = s.dwl := (rfl)
@[simp] theorem State.withHists_ctl (s : State) (x : SMap Hist) : (s.withHists x).ctl = s.ctl := (rfl)
@[simp] theorem State.withHists_adcLast (s : State) (x : SMap Hist) : (s.withHists x).adcLast = s.adcLast := (rfl)
@[simp] theorem State.withHists_adc (s : State) (x : SMap Hist) : (s.withHists x).adc = s.adc := (rfl)
@[simp] theorem State.withHists_afePos (s : State) (x : SMap Hist) : (s.withHists x).afePos = s.afePos := (rfl)
@[simp] theorem State.withHists_lanes (s : State) (x : SMap Hist) : (s.withHists x).lanes = s.lanes := (rfl)
@[simp] theorem State.withHists_eths (s : State) (x : SMap Hist) : (s.withHists x).eths = s.eths := (rfl)
@[simp] theorem State.withHists_prp (s : State) (x : SMap Hist) : (s.withHists x).prp = s.prp := (rfl)
@[simp] theorem State.withHists_lines (s : State) (x : SMap Hist) : (s.withHists x).lines = s.lines := (rfl)
@[simp] theorem State.withHists_parkWake (s : State) (x : SMap Hist) : (s.withHists x).parkWake = s.parkWake := (rfl)
@[simp] theorem State.withHists_guard (s : State) (x : SMap Hist) : (s.withHists x).guard = s.guard := (rfl)
@[simp] theorem State.withHists_cask (s : State) (x : SMap Hist) : (s.withHists x).cask = s.cask := (rfl)
@[simp] theorem State.withHists_cores (s : State) (x : SMap Hist) : (s.withHists x).cores = s.cores := (rfl)
@[simp] theorem State.withHists_dma (s : State) (x : SMap Hist) : (s.withHists x).dma = s.dma := (rfl)
@[simp] theorem State.withHists_amp (s : State) (x : SMap Hist) : (s.withHists x).amp = s.amp := (rfl)
@[simp] theorem State.withHists_flOp (s : State) (x : SMap Hist) : (s.withHists x).flOp = s.flOp := (rfl)
@[simp] theorem State.withHists_rget (s : State) (x : SMap Hist) (a : Nat) : (s.withHists x).rget a = s.rget a := (rfl)
@[simp] theorem State.withHists_f (s : State) (x : SMap Hist) (F : Fld) : (s.withHists x).f F = s.f F := (rfl)
@[simp] theorem State.withHists_b (s : State) (x : SMap Hist) (F : Fld) : (s.withHists x).b F = s.b F := (rfl)
@[simp] theorem State.withHists_fs (s : State) (x : SMap Hist) (F : Fld) : (s.withHists x).fs F = s.fs F := (rfl)
@[simp] theorem State.withLau_pending (s : State) (x : LauSt) : (s.withLau x).pending = s.pending := (rfl)
@[simp] theorem State.withLau_freeCtr (s : State) (x : LauSt) : (s.withLau x).freeCtr = s.freeCtr := (rfl)
@[simp] theorem State.withLau_now (s : State) (x : LauSt) : (s.withLau x).now = s.now := (rfl)
@[simp] theorem State.withLau_ms (s : State) (x : LauSt) : (s.withLau x).ms = s.ms := (rfl)
@[simp] theorem State.withLau_regs (s : State) (x : LauSt) : (s.withLau x).regs = s.regs := (rfl)
@[simp] theorem State.withLau_eff (s : State) (x : LauSt) : (s.withLau x).eff = s.eff := (rfl)
@[simp] theorem State.withLau_mem (s : State) (x : LauSt) : (s.withLau x).mem = s.mem := (rfl)
@[simp] theorem State.withLau_flash (s : State) (x : LauSt) : (s.withLau x).flash = s.flash := (rfl)
@[simp] theorem State.withLau_tun (s : State) (x : LauSt) : (s.withLau x).tun = s.tun := (rfl)
@[simp] theorem State.withLau_dev (s : State) (x : LauSt) : (s.withLau x).dev = s.dev := (rfl)
@[simp] theorem State.withLau_nvm (s : State) (x : LauSt) : (s.withLau x).nvm = s.nvm := (rfl)
@[simp] theorem State.withLau_rst (s : State) (x : LauSt) : (s.withLau x).rst = s.rst := (rfl)
@[simp] theorem State.withLau_pins (s : State) (x : LauSt) : (s.withLau x).pins = s.pins := (rfl)
@[simp] theorem State.withLau_emit (s : State) (x : LauSt) : (s.withLau x).emit = s.emit := (rfl)
@[simp] theorem State.withLau_strs (s : State) (x : LauSt) : (s.withLau x).strs = s.strs := (rfl)
@[simp] theorem State.withLau_scan (s : State) (x : LauSt) : (s.withLau x).scan = s.scan := (rfl)
@[simp] theorem State.withLau_kiln (s : State) (x : LauSt) : (s.withLau x).kiln = s.kiln := (rfl)
@[simp] theorem State.withLau_time (s : State) (x : LauSt) : (s.withLau x).time = s.time := (rfl)
@[simp] theorem State.withLau_anchor (s : State) (x : LauSt) : (s.withLau x).anchor = s.anchor := (rfl)
@[simp] theorem State.withLau_therm (s : State) (x : LauSt) : (s.withLau x).therm = s.therm := (rfl)
@[simp] theorem State.withLau_chans (s : State) (x : LauSt) : (s.withLau x).chans = s.chans := (rfl)
@[simp] theorem State.withLau_clus (s : State) (x : LauSt) : (s.withLau x).clus = s.clus := (rfl)
@[simp] theorem State.withLau_mash (s : State) (x : LauSt) : (s.withLau x).mash = s.mash := (rfl)
@[simp] theorem State.withLau_tins (s : State) (x : LauSt) : (s.withLau x).tins = s.tins := (rfl)
@[simp] theorem State.withLau_hists (s : State) (x : LauSt) : (s.withLau x).hists = s.hists := (rfl)
@[simp] theorem State.withLau_lau (s : State) (x : LauSt) : (s.withLau x).lau = x := (rfl)
@[simp] theorem State.withLau_cal (s : State) (x : LauSt) : (s.withLau x).cal = s.cal := (rfl)
@[simp] theorem State.withLau_wort (s : State) (x : LauSt) : (s.withLau x).wort = s.wort := (rfl)
@[simp] theorem State.withLau_dwl (s : State) (x : LauSt) : (s.withLau x).dwl = s.dwl := (rfl)
@[simp] theorem State.withLau_ctl (s : State) (x : LauSt) : (s.withLau x).ctl = s.ctl := (rfl)
@[simp] theorem State.withLau_adcLast (s : State) (x : LauSt) : (s.withLau x).adcLast = s.adcLast := (rfl)
@[simp] theorem State.withLau_adc (s : State) (x : LauSt) : (s.withLau x).adc = s.adc := (rfl)
@[simp] theorem State.withLau_afePos (s : State) (x : LauSt) : (s.withLau x).afePos = s.afePos := (rfl)
@[simp] theorem State.withLau_lanes (s : State) (x : LauSt) : (s.withLau x).lanes = s.lanes := (rfl)
@[simp] theorem State.withLau_eths (s : State) (x : LauSt) : (s.withLau x).eths = s.eths := (rfl)
@[simp] theorem State.withLau_prp (s : State) (x : LauSt) : (s.withLau x).prp = s.prp := (rfl)
@[simp] theorem State.withLau_lines (s : State) (x : LauSt) : (s.withLau x).lines = s.lines := (rfl)
@[simp] theorem State.withLau_parkWake (s : State) (x : LauSt) : (s.withLau x).parkWake = s.parkWake := (rfl)
@[simp] theorem State.withLau_guard (s : State) (x : LauSt) : (s.withLau x).guard = s.guard := (rfl)
@[simp] theorem State.withLau_cask (s : State) (x : LauSt) : (s.withLau x).cask = s.cask := (rfl)
@[simp] theorem State.withLau_cores (s : State) (x : LauSt) : (s.withLau x).cores = s.cores := (rfl)
@[simp] theorem State.withLau_dma (s : State) (x : LauSt) : (s.withLau x).dma = s.dma := (rfl)
@[simp] theorem State.withLau_amp (s : State) (x : LauSt) : (s.withLau x).amp = s.amp := (rfl)
@[simp] theorem State.withLau_flOp (s : State) (x : LauSt) : (s.withLau x).flOp = s.flOp := (rfl)
@[simp] theorem State.withLau_rget (s : State) (x : LauSt) (a : Nat) : (s.withLau x).rget a = s.rget a := (rfl)
@[simp] theorem State.withLau_f (s : State) (x : LauSt) (F : Fld) : (s.withLau x).f F = s.f F := (rfl)
@[simp] theorem State.withLau_b (s : State) (x : LauSt) (F : Fld) : (s.withLau x).b F = s.b F := (rfl)
@[simp] theorem State.withLau_fs (s : State) (x : LauSt) (F : Fld) : (s.withLau x).fs F = s.fs F := (rfl)
@[simp] theorem State.withCal_pending (s : State) (x : SMap Word) : (s.withCal x).pending = s.pending := (rfl)
@[simp] theorem State.withCal_freeCtr (s : State) (x : SMap Word) : (s.withCal x).freeCtr = s.freeCtr := (rfl)
@[simp] theorem State.withCal_now (s : State) (x : SMap Word) : (s.withCal x).now = s.now := (rfl)
@[simp] theorem State.withCal_ms (s : State) (x : SMap Word) : (s.withCal x).ms = s.ms := (rfl)
@[simp] theorem State.withCal_regs (s : State) (x : SMap Word) : (s.withCal x).regs = s.regs := (rfl)
@[simp] theorem State.withCal_eff (s : State) (x : SMap Word) : (s.withCal x).eff = s.eff := (rfl)
@[simp] theorem State.withCal_mem (s : State) (x : SMap Word) : (s.withCal x).mem = s.mem := (rfl)
@[simp] theorem State.withCal_flash (s : State) (x : SMap Word) : (s.withCal x).flash = s.flash := (rfl)
@[simp] theorem State.withCal_tun (s : State) (x : SMap Word) : (s.withCal x).tun = s.tun := (rfl)
@[simp] theorem State.withCal_dev (s : State) (x : SMap Word) : (s.withCal x).dev = s.dev := (rfl)
@[simp] theorem State.withCal_nvm (s : State) (x : SMap Word) : (s.withCal x).nvm = s.nvm := (rfl)
@[simp] theorem State.withCal_rst (s : State) (x : SMap Word) : (s.withCal x).rst = s.rst := (rfl)
@[simp] theorem State.withCal_pins (s : State) (x : SMap Word) : (s.withCal x).pins = s.pins := (rfl)
@[simp] theorem State.withCal_emit (s : State) (x : SMap Word) : (s.withCal x).emit = s.emit := (rfl)
@[simp] theorem State.withCal_strs (s : State) (x : SMap Word) : (s.withCal x).strs = s.strs := (rfl)
@[simp] theorem State.withCal_scan (s : State) (x : SMap Word) : (s.withCal x).scan = s.scan := (rfl)
@[simp] theorem State.withCal_kiln (s : State) (x : SMap Word) : (s.withCal x).kiln = s.kiln := (rfl)
@[simp] theorem State.withCal_time (s : State) (x : SMap Word) : (s.withCal x).time = s.time := (rfl)
@[simp] theorem State.withCal_anchor (s : State) (x : SMap Word) : (s.withCal x).anchor = s.anchor := (rfl)
@[simp] theorem State.withCal_therm (s : State) (x : SMap Word) : (s.withCal x).therm = s.therm := (rfl)
@[simp] theorem State.withCal_chans (s : State) (x : SMap Word) : (s.withCal x).chans = s.chans := (rfl)
@[simp] theorem State.withCal_clus (s : State) (x : SMap Word) : (s.withCal x).clus = s.clus := (rfl)
@[simp] theorem State.withCal_mash (s : State) (x : SMap Word) : (s.withCal x).mash = s.mash := (rfl)
@[simp] theorem State.withCal_tins (s : State) (x : SMap Word) : (s.withCal x).tins = s.tins := (rfl)
@[simp] theorem State.withCal_hists (s : State) (x : SMap Word) : (s.withCal x).hists = s.hists := (rfl)
@[simp] theorem State.withCal_lau (s : State) (x : SMap Word) : (s.withCal x).lau = s.lau := (rfl)
@[simp] theorem State.withCal_cal (s : State) (x : SMap Word) : (s.withCal x).cal = x := (rfl)
@[simp] theorem State.withCal_wort (s : State) (x : SMap Word) : (s.withCal x).wort = s.wort := (rfl)
@[simp] theorem State.withCal_dwl (s : State) (x : SMap Word) : (s.withCal x).dwl = s.dwl := (rfl)
@[simp] theorem State.withCal_ctl (s : State) (x : SMap Word) : (s.withCal x).ctl = s.ctl := (rfl)
@[simp] theorem State.withCal_adcLast (s : State) (x : SMap Word) : (s.withCal x).adcLast = s.adcLast := (rfl)
@[simp] theorem State.withCal_adc (s : State) (x : SMap Word) : (s.withCal x).adc = s.adc := (rfl)
@[simp] theorem State.withCal_afePos (s : State) (x : SMap Word) : (s.withCal x).afePos = s.afePos := (rfl)
@[simp] theorem State.withCal_lanes (s : State) (x : SMap Word) : (s.withCal x).lanes = s.lanes := (rfl)
@[simp] theorem State.withCal_eths (s : State) (x : SMap Word) : (s.withCal x).eths = s.eths := (rfl)
@[simp] theorem State.withCal_prp (s : State) (x : SMap Word) : (s.withCal x).prp = s.prp := (rfl)
@[simp] theorem State.withCal_lines (s : State) (x : SMap Word) : (s.withCal x).lines = s.lines := (rfl)
@[simp] theorem State.withCal_parkWake (s : State) (x : SMap Word) : (s.withCal x).parkWake = s.parkWake := (rfl)
@[simp] theorem State.withCal_guard (s : State) (x : SMap Word) : (s.withCal x).guard = s.guard := (rfl)
@[simp] theorem State.withCal_cask (s : State) (x : SMap Word) : (s.withCal x).cask = s.cask := (rfl)
@[simp] theorem State.withCal_cores (s : State) (x : SMap Word) : (s.withCal x).cores = s.cores := (rfl)
@[simp] theorem State.withCal_dma (s : State) (x : SMap Word) : (s.withCal x).dma = s.dma := (rfl)
@[simp] theorem State.withCal_amp (s : State) (x : SMap Word) : (s.withCal x).amp = s.amp := (rfl)
@[simp] theorem State.withCal_flOp (s : State) (x : SMap Word) : (s.withCal x).flOp = s.flOp := (rfl)
@[simp] theorem State.withCal_rget (s : State) (x : SMap Word) (a : Nat) : (s.withCal x).rget a = s.rget a := (rfl)
@[simp] theorem State.withCal_f (s : State) (x : SMap Word) (F : Fld) : (s.withCal x).f F = s.f F := (rfl)
@[simp] theorem State.withCal_b (s : State) (x : SMap Word) (F : Fld) : (s.withCal x).b F = s.b F := (rfl)
@[simp] theorem State.withCal_fs (s : State) (x : SMap Word) (F : Fld) : (s.withCal x).fs F = s.fs F := (rfl)
@[simp] theorem State.withWort_pending (s : State) (x : WortSt) : (s.withWort x).pending = s.pending := (rfl)
@[simp] theorem State.withWort_freeCtr (s : State) (x : WortSt) : (s.withWort x).freeCtr = s.freeCtr := (rfl)
@[simp] theorem State.withWort_now (s : State) (x : WortSt) : (s.withWort x).now = s.now := (rfl)
@[simp] theorem State.withWort_ms (s : State) (x : WortSt) : (s.withWort x).ms = s.ms := (rfl)
@[simp] theorem State.withWort_regs (s : State) (x : WortSt) : (s.withWort x).regs = s.regs := (rfl)
@[simp] theorem State.withWort_eff (s : State) (x : WortSt) : (s.withWort x).eff = s.eff := (rfl)
@[simp] theorem State.withWort_mem (s : State) (x : WortSt) : (s.withWort x).mem = s.mem := (rfl)
@[simp] theorem State.withWort_flash (s : State) (x : WortSt) : (s.withWort x).flash = s.flash := (rfl)
@[simp] theorem State.withWort_tun (s : State) (x : WortSt) : (s.withWort x).tun = s.tun := (rfl)
@[simp] theorem State.withWort_dev (s : State) (x : WortSt) : (s.withWort x).dev = s.dev := (rfl)
@[simp] theorem State.withWort_nvm (s : State) (x : WortSt) : (s.withWort x).nvm = s.nvm := (rfl)
@[simp] theorem State.withWort_rst (s : State) (x : WortSt) : (s.withWort x).rst = s.rst := (rfl)
@[simp] theorem State.withWort_pins (s : State) (x : WortSt) : (s.withWort x).pins = s.pins := (rfl)
@[simp] theorem State.withWort_emit (s : State) (x : WortSt) : (s.withWort x).emit = s.emit := (rfl)
@[simp] theorem State.withWort_strs (s : State) (x : WortSt) : (s.withWort x).strs = s.strs := (rfl)
@[simp] theorem State.withWort_scan (s : State) (x : WortSt) : (s.withWort x).scan = s.scan := (rfl)
@[simp] theorem State.withWort_kiln (s : State) (x : WortSt) : (s.withWort x).kiln = s.kiln := (rfl)
@[simp] theorem State.withWort_time (s : State) (x : WortSt) : (s.withWort x).time = s.time := (rfl)
@[simp] theorem State.withWort_anchor (s : State) (x : WortSt) : (s.withWort x).anchor = s.anchor := (rfl)
@[simp] theorem State.withWort_therm (s : State) (x : WortSt) : (s.withWort x).therm = s.therm := (rfl)
@[simp] theorem State.withWort_chans (s : State) (x : WortSt) : (s.withWort x).chans = s.chans := (rfl)
@[simp] theorem State.withWort_clus (s : State) (x : WortSt) : (s.withWort x).clus = s.clus := (rfl)
@[simp] theorem State.withWort_mash (s : State) (x : WortSt) : (s.withWort x).mash = s.mash := (rfl)
@[simp] theorem State.withWort_tins (s : State) (x : WortSt) : (s.withWort x).tins = s.tins := (rfl)
@[simp] theorem State.withWort_hists (s : State) (x : WortSt) : (s.withWort x).hists = s.hists := (rfl)
@[simp] theorem State.withWort_lau (s : State) (x : WortSt) : (s.withWort x).lau = s.lau := (rfl)
@[simp] theorem State.withWort_cal (s : State) (x : WortSt) : (s.withWort x).cal = s.cal := (rfl)
@[simp] theorem State.withWort_wort (s : State) (x : WortSt) : (s.withWort x).wort = x := (rfl)
@[simp] theorem State.withWort_dwl (s : State) (x : WortSt) : (s.withWort x).dwl = s.dwl := (rfl)
@[simp] theorem State.withWort_ctl (s : State) (x : WortSt) : (s.withWort x).ctl = s.ctl := (rfl)
@[simp] theorem State.withWort_adcLast (s : State) (x : WortSt) : (s.withWort x).adcLast = s.adcLast := (rfl)
@[simp] theorem State.withWort_adc (s : State) (x : WortSt) : (s.withWort x).adc = s.adc := (rfl)
@[simp] theorem State.withWort_afePos (s : State) (x : WortSt) : (s.withWort x).afePos = s.afePos := (rfl)
@[simp] theorem State.withWort_lanes (s : State) (x : WortSt) : (s.withWort x).lanes = s.lanes := (rfl)
@[simp] theorem State.withWort_eths (s : State) (x : WortSt) : (s.withWort x).eths = s.eths := (rfl)
@[simp] theorem State.withWort_prp (s : State) (x : WortSt) : (s.withWort x).prp = s.prp := (rfl)
@[simp] theorem State.withWort_lines (s : State) (x : WortSt) : (s.withWort x).lines = s.lines := (rfl)
@[simp] theorem State.withWort_parkWake (s : State) (x : WortSt) : (s.withWort x).parkWake = s.parkWake := (rfl)
@[simp] theorem State.withWort_guard (s : State) (x : WortSt) : (s.withWort x).guard = s.guard := (rfl)
@[simp] theorem State.withWort_cask (s : State) (x : WortSt) : (s.withWort x).cask = s.cask := (rfl)
@[simp] theorem State.withWort_cores (s : State) (x : WortSt) : (s.withWort x).cores = s.cores := (rfl)
@[simp] theorem State.withWort_dma (s : State) (x : WortSt) : (s.withWort x).dma = s.dma := (rfl)
@[simp] theorem State.withWort_amp (s : State) (x : WortSt) : (s.withWort x).amp = s.amp := (rfl)
@[simp] theorem State.withWort_flOp (s : State) (x : WortSt) : (s.withWort x).flOp = s.flOp := (rfl)
@[simp] theorem State.withWort_rget (s : State) (x : WortSt) (a : Nat) : (s.withWort x).rget a = s.rget a := (rfl)
@[simp] theorem State.withWort_f (s : State) (x : WortSt) (F : Fld) : (s.withWort x).f F = s.f F := (rfl)
@[simp] theorem State.withWort_b (s : State) (x : WortSt) (F : Fld) : (s.withWort x).b F = s.b F := (rfl)
@[simp] theorem State.withWort_fs (s : State) (x : WortSt) (F : Fld) : (s.withWort x).fs F = s.fs F := (rfl)
@[simp] theorem State.withDwl_pending (s : State) (x : DwlSt) : (s.withDwl x).pending = s.pending := (rfl)
@[simp] theorem State.withDwl_freeCtr (s : State) (x : DwlSt) : (s.withDwl x).freeCtr = s.freeCtr := (rfl)
@[simp] theorem State.withDwl_now (s : State) (x : DwlSt) : (s.withDwl x).now = s.now := (rfl)
@[simp] theorem State.withDwl_ms (s : State) (x : DwlSt) : (s.withDwl x).ms = s.ms := (rfl)
@[simp] theorem State.withDwl_regs (s : State) (x : DwlSt) : (s.withDwl x).regs = s.regs := (rfl)
@[simp] theorem State.withDwl_eff (s : State) (x : DwlSt) : (s.withDwl x).eff = s.eff := (rfl)
@[simp] theorem State.withDwl_mem (s : State) (x : DwlSt) : (s.withDwl x).mem = s.mem := (rfl)
@[simp] theorem State.withDwl_flash (s : State) (x : DwlSt) : (s.withDwl x).flash = s.flash := (rfl)
@[simp] theorem State.withDwl_tun (s : State) (x : DwlSt) : (s.withDwl x).tun = s.tun := (rfl)
@[simp] theorem State.withDwl_dev (s : State) (x : DwlSt) : (s.withDwl x).dev = s.dev := (rfl)
@[simp] theorem State.withDwl_nvm (s : State) (x : DwlSt) : (s.withDwl x).nvm = s.nvm := (rfl)
@[simp] theorem State.withDwl_rst (s : State) (x : DwlSt) : (s.withDwl x).rst = s.rst := (rfl)
@[simp] theorem State.withDwl_pins (s : State) (x : DwlSt) : (s.withDwl x).pins = s.pins := (rfl)
@[simp] theorem State.withDwl_emit (s : State) (x : DwlSt) : (s.withDwl x).emit = s.emit := (rfl)
@[simp] theorem State.withDwl_strs (s : State) (x : DwlSt) : (s.withDwl x).strs = s.strs := (rfl)
@[simp] theorem State.withDwl_scan (s : State) (x : DwlSt) : (s.withDwl x).scan = s.scan := (rfl)
@[simp] theorem State.withDwl_kiln (s : State) (x : DwlSt) : (s.withDwl x).kiln = s.kiln := (rfl)
@[simp] theorem State.withDwl_time (s : State) (x : DwlSt) : (s.withDwl x).time = s.time := (rfl)
@[simp] theorem State.withDwl_anchor (s : State) (x : DwlSt) : (s.withDwl x).anchor = s.anchor := (rfl)
@[simp] theorem State.withDwl_therm (s : State) (x : DwlSt) : (s.withDwl x).therm = s.therm := (rfl)
@[simp] theorem State.withDwl_chans (s : State) (x : DwlSt) : (s.withDwl x).chans = s.chans := (rfl)
@[simp] theorem State.withDwl_clus (s : State) (x : DwlSt) : (s.withDwl x).clus = s.clus := (rfl)
@[simp] theorem State.withDwl_mash (s : State) (x : DwlSt) : (s.withDwl x).mash = s.mash := (rfl)
@[simp] theorem State.withDwl_tins (s : State) (x : DwlSt) : (s.withDwl x).tins = s.tins := (rfl)
@[simp] theorem State.withDwl_hists (s : State) (x : DwlSt) : (s.withDwl x).hists = s.hists := (rfl)
@[simp] theorem State.withDwl_lau (s : State) (x : DwlSt) : (s.withDwl x).lau = s.lau := (rfl)
@[simp] theorem State.withDwl_cal (s : State) (x : DwlSt) : (s.withDwl x).cal = s.cal := (rfl)
@[simp] theorem State.withDwl_wort (s : State) (x : DwlSt) : (s.withDwl x).wort = s.wort := (rfl)
@[simp] theorem State.withDwl_dwl (s : State) (x : DwlSt) : (s.withDwl x).dwl = x := (rfl)
@[simp] theorem State.withDwl_ctl (s : State) (x : DwlSt) : (s.withDwl x).ctl = s.ctl := (rfl)
@[simp] theorem State.withDwl_adcLast (s : State) (x : DwlSt) : (s.withDwl x).adcLast = s.adcLast := (rfl)
@[simp] theorem State.withDwl_adc (s : State) (x : DwlSt) : (s.withDwl x).adc = s.adc := (rfl)
@[simp] theorem State.withDwl_afePos (s : State) (x : DwlSt) : (s.withDwl x).afePos = s.afePos := (rfl)
@[simp] theorem State.withDwl_lanes (s : State) (x : DwlSt) : (s.withDwl x).lanes = s.lanes := (rfl)
@[simp] theorem State.withDwl_eths (s : State) (x : DwlSt) : (s.withDwl x).eths = s.eths := (rfl)
@[simp] theorem State.withDwl_prp (s : State) (x : DwlSt) : (s.withDwl x).prp = s.prp := (rfl)
@[simp] theorem State.withDwl_lines (s : State) (x : DwlSt) : (s.withDwl x).lines = s.lines := (rfl)
@[simp] theorem State.withDwl_parkWake (s : State) (x : DwlSt) : (s.withDwl x).parkWake = s.parkWake := (rfl)
@[simp] theorem State.withDwl_guard (s : State) (x : DwlSt) : (s.withDwl x).guard = s.guard := (rfl)
@[simp] theorem State.withDwl_cask (s : State) (x : DwlSt) : (s.withDwl x).cask = s.cask := (rfl)
@[simp] theorem State.withDwl_cores (s : State) (x : DwlSt) : (s.withDwl x).cores = s.cores := (rfl)
@[simp] theorem State.withDwl_dma (s : State) (x : DwlSt) : (s.withDwl x).dma = s.dma := (rfl)
@[simp] theorem State.withDwl_amp (s : State) (x : DwlSt) : (s.withDwl x).amp = s.amp := (rfl)
@[simp] theorem State.withDwl_flOp (s : State) (x : DwlSt) : (s.withDwl x).flOp = s.flOp := (rfl)
@[simp] theorem State.withDwl_rget (s : State) (x : DwlSt) (a : Nat) : (s.withDwl x).rget a = s.rget a := (rfl)
@[simp] theorem State.withDwl_f (s : State) (x : DwlSt) (F : Fld) : (s.withDwl x).f F = s.f F := (rfl)
@[simp] theorem State.withDwl_b (s : State) (x : DwlSt) (F : Fld) : (s.withDwl x).b F = s.b F := (rfl)
@[simp] theorem State.withDwl_fs (s : State) (x : DwlSt) (F : Fld) : (s.withDwl x).fs F = s.fs F := (rfl)
@[simp] theorem State.withCtl_pending (s : State) (x : CtlSt) : (s.withCtl x).pending = s.pending := (rfl)
@[simp] theorem State.withCtl_freeCtr (s : State) (x : CtlSt) : (s.withCtl x).freeCtr = s.freeCtr := (rfl)
@[simp] theorem State.withCtl_now (s : State) (x : CtlSt) : (s.withCtl x).now = s.now := (rfl)
@[simp] theorem State.withCtl_ms (s : State) (x : CtlSt) : (s.withCtl x).ms = s.ms := (rfl)
@[simp] theorem State.withCtl_regs (s : State) (x : CtlSt) : (s.withCtl x).regs = s.regs := (rfl)
@[simp] theorem State.withCtl_eff (s : State) (x : CtlSt) : (s.withCtl x).eff = s.eff := (rfl)
@[simp] theorem State.withCtl_mem (s : State) (x : CtlSt) : (s.withCtl x).mem = s.mem := (rfl)
@[simp] theorem State.withCtl_flash (s : State) (x : CtlSt) : (s.withCtl x).flash = s.flash := (rfl)
@[simp] theorem State.withCtl_tun (s : State) (x : CtlSt) : (s.withCtl x).tun = s.tun := (rfl)
@[simp] theorem State.withCtl_dev (s : State) (x : CtlSt) : (s.withCtl x).dev = s.dev := (rfl)
@[simp] theorem State.withCtl_nvm (s : State) (x : CtlSt) : (s.withCtl x).nvm = s.nvm := (rfl)
@[simp] theorem State.withCtl_rst (s : State) (x : CtlSt) : (s.withCtl x).rst = s.rst := (rfl)
@[simp] theorem State.withCtl_pins (s : State) (x : CtlSt) : (s.withCtl x).pins = s.pins := (rfl)
@[simp] theorem State.withCtl_emit (s : State) (x : CtlSt) : (s.withCtl x).emit = s.emit := (rfl)
@[simp] theorem State.withCtl_strs (s : State) (x : CtlSt) : (s.withCtl x).strs = s.strs := (rfl)
@[simp] theorem State.withCtl_scan (s : State) (x : CtlSt) : (s.withCtl x).scan = s.scan := (rfl)
@[simp] theorem State.withCtl_kiln (s : State) (x : CtlSt) : (s.withCtl x).kiln = s.kiln := (rfl)
@[simp] theorem State.withCtl_time (s : State) (x : CtlSt) : (s.withCtl x).time = s.time := (rfl)
@[simp] theorem State.withCtl_anchor (s : State) (x : CtlSt) : (s.withCtl x).anchor = s.anchor := (rfl)
@[simp] theorem State.withCtl_therm (s : State) (x : CtlSt) : (s.withCtl x).therm = s.therm := (rfl)
@[simp] theorem State.withCtl_chans (s : State) (x : CtlSt) : (s.withCtl x).chans = s.chans := (rfl)
@[simp] theorem State.withCtl_clus (s : State) (x : CtlSt) : (s.withCtl x).clus = s.clus := (rfl)
@[simp] theorem State.withCtl_mash (s : State) (x : CtlSt) : (s.withCtl x).mash = s.mash := (rfl)
@[simp] theorem State.withCtl_tins (s : State) (x : CtlSt) : (s.withCtl x).tins = s.tins := (rfl)
@[simp] theorem State.withCtl_hists (s : State) (x : CtlSt) : (s.withCtl x).hists = s.hists := (rfl)
@[simp] theorem State.withCtl_lau (s : State) (x : CtlSt) : (s.withCtl x).lau = s.lau := (rfl)
@[simp] theorem State.withCtl_cal (s : State) (x : CtlSt) : (s.withCtl x).cal = s.cal := (rfl)
@[simp] theorem State.withCtl_wort (s : State) (x : CtlSt) : (s.withCtl x).wort = s.wort := (rfl)
@[simp] theorem State.withCtl_dwl (s : State) (x : CtlSt) : (s.withCtl x).dwl = s.dwl := (rfl)
@[simp] theorem State.withCtl_ctl (s : State) (x : CtlSt) : (s.withCtl x).ctl = x := (rfl)
@[simp] theorem State.withCtl_adcLast (s : State) (x : CtlSt) : (s.withCtl x).adcLast = s.adcLast := (rfl)
@[simp] theorem State.withCtl_adc (s : State) (x : CtlSt) : (s.withCtl x).adc = s.adc := (rfl)
@[simp] theorem State.withCtl_afePos (s : State) (x : CtlSt) : (s.withCtl x).afePos = s.afePos := (rfl)
@[simp] theorem State.withCtl_lanes (s : State) (x : CtlSt) : (s.withCtl x).lanes = s.lanes := (rfl)
@[simp] theorem State.withCtl_eths (s : State) (x : CtlSt) : (s.withCtl x).eths = s.eths := (rfl)
@[simp] theorem State.withCtl_prp (s : State) (x : CtlSt) : (s.withCtl x).prp = s.prp := (rfl)
@[simp] theorem State.withCtl_lines (s : State) (x : CtlSt) : (s.withCtl x).lines = s.lines := (rfl)
@[simp] theorem State.withCtl_parkWake (s : State) (x : CtlSt) : (s.withCtl x).parkWake = s.parkWake := (rfl)
@[simp] theorem State.withCtl_guard (s : State) (x : CtlSt) : (s.withCtl x).guard = s.guard := (rfl)
@[simp] theorem State.withCtl_cask (s : State) (x : CtlSt) : (s.withCtl x).cask = s.cask := (rfl)
@[simp] theorem State.withCtl_cores (s : State) (x : CtlSt) : (s.withCtl x).cores = s.cores := (rfl)
@[simp] theorem State.withCtl_dma (s : State) (x : CtlSt) : (s.withCtl x).dma = s.dma := (rfl)
@[simp] theorem State.withCtl_amp (s : State) (x : CtlSt) : (s.withCtl x).amp = s.amp := (rfl)
@[simp] theorem State.withCtl_flOp (s : State) (x : CtlSt) : (s.withCtl x).flOp = s.flOp := (rfl)
@[simp] theorem State.withCtl_rget (s : State) (x : CtlSt) (a : Nat) : (s.withCtl x).rget a = s.rget a := (rfl)
@[simp] theorem State.withCtl_f (s : State) (x : CtlSt) (F : Fld) : (s.withCtl x).f F = s.f F := (rfl)
@[simp] theorem State.withCtl_b (s : State) (x : CtlSt) (F : Fld) : (s.withCtl x).b F = s.b F := (rfl)
@[simp] theorem State.withCtl_fs (s : State) (x : CtlSt) (F : Fld) : (s.withCtl x).fs F = s.fs F := (rfl)
@[simp] theorem State.withAdcLast_pending (s : State) (x : SMap Nat) : (s.withAdcLast x).pending = s.pending := (rfl)
@[simp] theorem State.withAdcLast_freeCtr (s : State) (x : SMap Nat) : (s.withAdcLast x).freeCtr = s.freeCtr := (rfl)
@[simp] theorem State.withAdcLast_now (s : State) (x : SMap Nat) : (s.withAdcLast x).now = s.now := (rfl)
@[simp] theorem State.withAdcLast_ms (s : State) (x : SMap Nat) : (s.withAdcLast x).ms = s.ms := (rfl)
@[simp] theorem State.withAdcLast_regs (s : State) (x : SMap Nat) : (s.withAdcLast x).regs = s.regs := (rfl)
@[simp] theorem State.withAdcLast_eff (s : State) (x : SMap Nat) : (s.withAdcLast x).eff = s.eff := (rfl)
@[simp] theorem State.withAdcLast_mem (s : State) (x : SMap Nat) : (s.withAdcLast x).mem = s.mem := (rfl)
@[simp] theorem State.withAdcLast_flash (s : State) (x : SMap Nat) : (s.withAdcLast x).flash = s.flash := (rfl)
@[simp] theorem State.withAdcLast_tun (s : State) (x : SMap Nat) : (s.withAdcLast x).tun = s.tun := (rfl)
@[simp] theorem State.withAdcLast_dev (s : State) (x : SMap Nat) : (s.withAdcLast x).dev = s.dev := (rfl)
@[simp] theorem State.withAdcLast_nvm (s : State) (x : SMap Nat) : (s.withAdcLast x).nvm = s.nvm := (rfl)
@[simp] theorem State.withAdcLast_rst (s : State) (x : SMap Nat) : (s.withAdcLast x).rst = s.rst := (rfl)
@[simp] theorem State.withAdcLast_pins (s : State) (x : SMap Nat) : (s.withAdcLast x).pins = s.pins := (rfl)
@[simp] theorem State.withAdcLast_emit (s : State) (x : SMap Nat) : (s.withAdcLast x).emit = s.emit := (rfl)
@[simp] theorem State.withAdcLast_strs (s : State) (x : SMap Nat) : (s.withAdcLast x).strs = s.strs := (rfl)
@[simp] theorem State.withAdcLast_scan (s : State) (x : SMap Nat) : (s.withAdcLast x).scan = s.scan := (rfl)
@[simp] theorem State.withAdcLast_kiln (s : State) (x : SMap Nat) : (s.withAdcLast x).kiln = s.kiln := (rfl)
@[simp] theorem State.withAdcLast_time (s : State) (x : SMap Nat) : (s.withAdcLast x).time = s.time := (rfl)
@[simp] theorem State.withAdcLast_anchor (s : State) (x : SMap Nat) : (s.withAdcLast x).anchor = s.anchor := (rfl)
@[simp] theorem State.withAdcLast_therm (s : State) (x : SMap Nat) : (s.withAdcLast x).therm = s.therm := (rfl)
@[simp] theorem State.withAdcLast_chans (s : State) (x : SMap Nat) : (s.withAdcLast x).chans = s.chans := (rfl)
@[simp] theorem State.withAdcLast_clus (s : State) (x : SMap Nat) : (s.withAdcLast x).clus = s.clus := (rfl)
@[simp] theorem State.withAdcLast_mash (s : State) (x : SMap Nat) : (s.withAdcLast x).mash = s.mash := (rfl)
@[simp] theorem State.withAdcLast_tins (s : State) (x : SMap Nat) : (s.withAdcLast x).tins = s.tins := (rfl)
@[simp] theorem State.withAdcLast_hists (s : State) (x : SMap Nat) : (s.withAdcLast x).hists = s.hists := (rfl)
@[simp] theorem State.withAdcLast_lau (s : State) (x : SMap Nat) : (s.withAdcLast x).lau = s.lau := (rfl)
@[simp] theorem State.withAdcLast_cal (s : State) (x : SMap Nat) : (s.withAdcLast x).cal = s.cal := (rfl)
@[simp] theorem State.withAdcLast_wort (s : State) (x : SMap Nat) : (s.withAdcLast x).wort = s.wort := (rfl)
@[simp] theorem State.withAdcLast_dwl (s : State) (x : SMap Nat) : (s.withAdcLast x).dwl = s.dwl := (rfl)
@[simp] theorem State.withAdcLast_ctl (s : State) (x : SMap Nat) : (s.withAdcLast x).ctl = s.ctl := (rfl)
@[simp] theorem State.withAdcLast_adcLast (s : State) (x : SMap Nat) : (s.withAdcLast x).adcLast = x := (rfl)
@[simp] theorem State.withAdcLast_adc (s : State) (x : SMap Nat) : (s.withAdcLast x).adc = s.adc := (rfl)
@[simp] theorem State.withAdcLast_afePos (s : State) (x : SMap Nat) : (s.withAdcLast x).afePos = s.afePos := (rfl)
@[simp] theorem State.withAdcLast_lanes (s : State) (x : SMap Nat) : (s.withAdcLast x).lanes = s.lanes := (rfl)
@[simp] theorem State.withAdcLast_eths (s : State) (x : SMap Nat) : (s.withAdcLast x).eths = s.eths := (rfl)
@[simp] theorem State.withAdcLast_prp (s : State) (x : SMap Nat) : (s.withAdcLast x).prp = s.prp := (rfl)
@[simp] theorem State.withAdcLast_lines (s : State) (x : SMap Nat) : (s.withAdcLast x).lines = s.lines := (rfl)
@[simp] theorem State.withAdcLast_parkWake (s : State) (x : SMap Nat) : (s.withAdcLast x).parkWake = s.parkWake := (rfl)
@[simp] theorem State.withAdcLast_guard (s : State) (x : SMap Nat) : (s.withAdcLast x).guard = s.guard := (rfl)
@[simp] theorem State.withAdcLast_cask (s : State) (x : SMap Nat) : (s.withAdcLast x).cask = s.cask := (rfl)
@[simp] theorem State.withAdcLast_cores (s : State) (x : SMap Nat) : (s.withAdcLast x).cores = s.cores := (rfl)
@[simp] theorem State.withAdcLast_dma (s : State) (x : SMap Nat) : (s.withAdcLast x).dma = s.dma := (rfl)
@[simp] theorem State.withAdcLast_amp (s : State) (x : SMap Nat) : (s.withAdcLast x).amp = s.amp := (rfl)
@[simp] theorem State.withAdcLast_flOp (s : State) (x : SMap Nat) : (s.withAdcLast x).flOp = s.flOp := (rfl)
@[simp] theorem State.withAdcLast_rget (s : State) (x : SMap Nat) (a : Nat) : (s.withAdcLast x).rget a = s.rget a := (rfl)
@[simp] theorem State.withAdcLast_f (s : State) (x : SMap Nat) (F : Fld) : (s.withAdcLast x).f F = s.f F := (rfl)
@[simp] theorem State.withAdcLast_b (s : State) (x : SMap Nat) (F : Fld) : (s.withAdcLast x).b F = s.b F := (rfl)
@[simp] theorem State.withAdcLast_fs (s : State) (x : SMap Nat) (F : Fld) : (s.withAdcLast x).fs F = s.fs F := (rfl)
@[simp] theorem State.withAdc_pending (s : State) (x : AdcSt) : (s.withAdc x).pending = s.pending := (rfl)
@[simp] theorem State.withAdc_freeCtr (s : State) (x : AdcSt) : (s.withAdc x).freeCtr = s.freeCtr := (rfl)
@[simp] theorem State.withAdc_now (s : State) (x : AdcSt) : (s.withAdc x).now = s.now := (rfl)
@[simp] theorem State.withAdc_ms (s : State) (x : AdcSt) : (s.withAdc x).ms = s.ms := (rfl)
@[simp] theorem State.withAdc_regs (s : State) (x : AdcSt) : (s.withAdc x).regs = s.regs := (rfl)
@[simp] theorem State.withAdc_eff (s : State) (x : AdcSt) : (s.withAdc x).eff = s.eff := (rfl)
@[simp] theorem State.withAdc_mem (s : State) (x : AdcSt) : (s.withAdc x).mem = s.mem := (rfl)
@[simp] theorem State.withAdc_flash (s : State) (x : AdcSt) : (s.withAdc x).flash = s.flash := (rfl)
@[simp] theorem State.withAdc_tun (s : State) (x : AdcSt) : (s.withAdc x).tun = s.tun := (rfl)
@[simp] theorem State.withAdc_dev (s : State) (x : AdcSt) : (s.withAdc x).dev = s.dev := (rfl)
@[simp] theorem State.withAdc_nvm (s : State) (x : AdcSt) : (s.withAdc x).nvm = s.nvm := (rfl)
@[simp] theorem State.withAdc_rst (s : State) (x : AdcSt) : (s.withAdc x).rst = s.rst := (rfl)
@[simp] theorem State.withAdc_pins (s : State) (x : AdcSt) : (s.withAdc x).pins = s.pins := (rfl)
@[simp] theorem State.withAdc_emit (s : State) (x : AdcSt) : (s.withAdc x).emit = s.emit := (rfl)
@[simp] theorem State.withAdc_strs (s : State) (x : AdcSt) : (s.withAdc x).strs = s.strs := (rfl)
@[simp] theorem State.withAdc_scan (s : State) (x : AdcSt) : (s.withAdc x).scan = s.scan := (rfl)
@[simp] theorem State.withAdc_kiln (s : State) (x : AdcSt) : (s.withAdc x).kiln = s.kiln := (rfl)
@[simp] theorem State.withAdc_time (s : State) (x : AdcSt) : (s.withAdc x).time = s.time := (rfl)
@[simp] theorem State.withAdc_anchor (s : State) (x : AdcSt) : (s.withAdc x).anchor = s.anchor := (rfl)
@[simp] theorem State.withAdc_therm (s : State) (x : AdcSt) : (s.withAdc x).therm = s.therm := (rfl)
@[simp] theorem State.withAdc_chans (s : State) (x : AdcSt) : (s.withAdc x).chans = s.chans := (rfl)
@[simp] theorem State.withAdc_clus (s : State) (x : AdcSt) : (s.withAdc x).clus = s.clus := (rfl)
@[simp] theorem State.withAdc_mash (s : State) (x : AdcSt) : (s.withAdc x).mash = s.mash := (rfl)
@[simp] theorem State.withAdc_tins (s : State) (x : AdcSt) : (s.withAdc x).tins = s.tins := (rfl)
@[simp] theorem State.withAdc_hists (s : State) (x : AdcSt) : (s.withAdc x).hists = s.hists := (rfl)
@[simp] theorem State.withAdc_lau (s : State) (x : AdcSt) : (s.withAdc x).lau = s.lau := (rfl)
@[simp] theorem State.withAdc_cal (s : State) (x : AdcSt) : (s.withAdc x).cal = s.cal := (rfl)
@[simp] theorem State.withAdc_wort (s : State) (x : AdcSt) : (s.withAdc x).wort = s.wort := (rfl)
@[simp] theorem State.withAdc_dwl (s : State) (x : AdcSt) : (s.withAdc x).dwl = s.dwl := (rfl)
@[simp] theorem State.withAdc_ctl (s : State) (x : AdcSt) : (s.withAdc x).ctl = s.ctl := (rfl)
@[simp] theorem State.withAdc_adcLast (s : State) (x : AdcSt) : (s.withAdc x).adcLast = s.adcLast := (rfl)
@[simp] theorem State.withAdc_adc (s : State) (x : AdcSt) : (s.withAdc x).adc = x := (rfl)
@[simp] theorem State.withAdc_afePos (s : State) (x : AdcSt) : (s.withAdc x).afePos = s.afePos := (rfl)
@[simp] theorem State.withAdc_lanes (s : State) (x : AdcSt) : (s.withAdc x).lanes = s.lanes := (rfl)
@[simp] theorem State.withAdc_eths (s : State) (x : AdcSt) : (s.withAdc x).eths = s.eths := (rfl)
@[simp] theorem State.withAdc_prp (s : State) (x : AdcSt) : (s.withAdc x).prp = s.prp := (rfl)
@[simp] theorem State.withAdc_lines (s : State) (x : AdcSt) : (s.withAdc x).lines = s.lines := (rfl)
@[simp] theorem State.withAdc_parkWake (s : State) (x : AdcSt) : (s.withAdc x).parkWake = s.parkWake := (rfl)
@[simp] theorem State.withAdc_guard (s : State) (x : AdcSt) : (s.withAdc x).guard = s.guard := (rfl)
@[simp] theorem State.withAdc_cask (s : State) (x : AdcSt) : (s.withAdc x).cask = s.cask := (rfl)
@[simp] theorem State.withAdc_cores (s : State) (x : AdcSt) : (s.withAdc x).cores = s.cores := (rfl)
@[simp] theorem State.withAdc_dma (s : State) (x : AdcSt) : (s.withAdc x).dma = s.dma := (rfl)
@[simp] theorem State.withAdc_amp (s : State) (x : AdcSt) : (s.withAdc x).amp = s.amp := (rfl)
@[simp] theorem State.withAdc_flOp (s : State) (x : AdcSt) : (s.withAdc x).flOp = s.flOp := (rfl)
@[simp] theorem State.withAdc_rget (s : State) (x : AdcSt) (a : Nat) : (s.withAdc x).rget a = s.rget a := (rfl)
@[simp] theorem State.withAdc_f (s : State) (x : AdcSt) (F : Fld) : (s.withAdc x).f F = s.f F := (rfl)
@[simp] theorem State.withAdc_b (s : State) (x : AdcSt) (F : Fld) : (s.withAdc x).b F = s.b F := (rfl)
@[simp] theorem State.withAdc_fs (s : State) (x : AdcSt) (F : Fld) : (s.withAdc x).fs F = s.fs F := (rfl)
@[simp] theorem State.withAfePos_pending (s : State) (x : Nat) : (s.withAfePos x).pending = s.pending := (rfl)
@[simp] theorem State.withAfePos_freeCtr (s : State) (x : Nat) : (s.withAfePos x).freeCtr = s.freeCtr := (rfl)
@[simp] theorem State.withAfePos_now (s : State) (x : Nat) : (s.withAfePos x).now = s.now := (rfl)
@[simp] theorem State.withAfePos_ms (s : State) (x : Nat) : (s.withAfePos x).ms = s.ms := (rfl)
@[simp] theorem State.withAfePos_regs (s : State) (x : Nat) : (s.withAfePos x).regs = s.regs := (rfl)
@[simp] theorem State.withAfePos_eff (s : State) (x : Nat) : (s.withAfePos x).eff = s.eff := (rfl)
@[simp] theorem State.withAfePos_mem (s : State) (x : Nat) : (s.withAfePos x).mem = s.mem := (rfl)
@[simp] theorem State.withAfePos_flash (s : State) (x : Nat) : (s.withAfePos x).flash = s.flash := (rfl)
@[simp] theorem State.withAfePos_tun (s : State) (x : Nat) : (s.withAfePos x).tun = s.tun := (rfl)
@[simp] theorem State.withAfePos_dev (s : State) (x : Nat) : (s.withAfePos x).dev = s.dev := (rfl)
@[simp] theorem State.withAfePos_nvm (s : State) (x : Nat) : (s.withAfePos x).nvm = s.nvm := (rfl)
@[simp] theorem State.withAfePos_rst (s : State) (x : Nat) : (s.withAfePos x).rst = s.rst := (rfl)
@[simp] theorem State.withAfePos_pins (s : State) (x : Nat) : (s.withAfePos x).pins = s.pins := (rfl)
@[simp] theorem State.withAfePos_emit (s : State) (x : Nat) : (s.withAfePos x).emit = s.emit := (rfl)
@[simp] theorem State.withAfePos_strs (s : State) (x : Nat) : (s.withAfePos x).strs = s.strs := (rfl)
@[simp] theorem State.withAfePos_scan (s : State) (x : Nat) : (s.withAfePos x).scan = s.scan := (rfl)
@[simp] theorem State.withAfePos_kiln (s : State) (x : Nat) : (s.withAfePos x).kiln = s.kiln := (rfl)
@[simp] theorem State.withAfePos_time (s : State) (x : Nat) : (s.withAfePos x).time = s.time := (rfl)
@[simp] theorem State.withAfePos_anchor (s : State) (x : Nat) : (s.withAfePos x).anchor = s.anchor := (rfl)
@[simp] theorem State.withAfePos_therm (s : State) (x : Nat) : (s.withAfePos x).therm = s.therm := (rfl)
@[simp] theorem State.withAfePos_chans (s : State) (x : Nat) : (s.withAfePos x).chans = s.chans := (rfl)
@[simp] theorem State.withAfePos_clus (s : State) (x : Nat) : (s.withAfePos x).clus = s.clus := (rfl)
@[simp] theorem State.withAfePos_mash (s : State) (x : Nat) : (s.withAfePos x).mash = s.mash := (rfl)
@[simp] theorem State.withAfePos_tins (s : State) (x : Nat) : (s.withAfePos x).tins = s.tins := (rfl)
@[simp] theorem State.withAfePos_hists (s : State) (x : Nat) : (s.withAfePos x).hists = s.hists := (rfl)
@[simp] theorem State.withAfePos_lau (s : State) (x : Nat) : (s.withAfePos x).lau = s.lau := (rfl)
@[simp] theorem State.withAfePos_cal (s : State) (x : Nat) : (s.withAfePos x).cal = s.cal := (rfl)
@[simp] theorem State.withAfePos_wort (s : State) (x : Nat) : (s.withAfePos x).wort = s.wort := (rfl)
@[simp] theorem State.withAfePos_dwl (s : State) (x : Nat) : (s.withAfePos x).dwl = s.dwl := (rfl)
@[simp] theorem State.withAfePos_ctl (s : State) (x : Nat) : (s.withAfePos x).ctl = s.ctl := (rfl)
@[simp] theorem State.withAfePos_adcLast (s : State) (x : Nat) : (s.withAfePos x).adcLast = s.adcLast := (rfl)
@[simp] theorem State.withAfePos_adc (s : State) (x : Nat) : (s.withAfePos x).adc = s.adc := (rfl)
@[simp] theorem State.withAfePos_afePos (s : State) (x : Nat) : (s.withAfePos x).afePos = x := (rfl)
@[simp] theorem State.withAfePos_lanes (s : State) (x : Nat) : (s.withAfePos x).lanes = s.lanes := (rfl)
@[simp] theorem State.withAfePos_eths (s : State) (x : Nat) : (s.withAfePos x).eths = s.eths := (rfl)
@[simp] theorem State.withAfePos_prp (s : State) (x : Nat) : (s.withAfePos x).prp = s.prp := (rfl)
@[simp] theorem State.withAfePos_lines (s : State) (x : Nat) : (s.withAfePos x).lines = s.lines := (rfl)
@[simp] theorem State.withAfePos_parkWake (s : State) (x : Nat) : (s.withAfePos x).parkWake = s.parkWake := (rfl)
@[simp] theorem State.withAfePos_guard (s : State) (x : Nat) : (s.withAfePos x).guard = s.guard := (rfl)
@[simp] theorem State.withAfePos_cask (s : State) (x : Nat) : (s.withAfePos x).cask = s.cask := (rfl)
@[simp] theorem State.withAfePos_cores (s : State) (x : Nat) : (s.withAfePos x).cores = s.cores := (rfl)
@[simp] theorem State.withAfePos_dma (s : State) (x : Nat) : (s.withAfePos x).dma = s.dma := (rfl)
@[simp] theorem State.withAfePos_amp (s : State) (x : Nat) : (s.withAfePos x).amp = s.amp := (rfl)
@[simp] theorem State.withAfePos_flOp (s : State) (x : Nat) : (s.withAfePos x).flOp = s.flOp := (rfl)
@[simp] theorem State.withAfePos_rget (s : State) (x : Nat) (a : Nat) : (s.withAfePos x).rget a = s.rget a := (rfl)
@[simp] theorem State.withAfePos_f (s : State) (x : Nat) (F : Fld) : (s.withAfePos x).f F = s.f F := (rfl)
@[simp] theorem State.withAfePos_b (s : State) (x : Nat) (F : Fld) : (s.withAfePos x).b F = s.b F := (rfl)
@[simp] theorem State.withAfePos_fs (s : State) (x : Nat) (F : Fld) : (s.withAfePos x).fs F = s.fs F := (rfl)
@[simp] theorem State.withLanes_pending (s : State) (x : SMap LaneSt) : (s.withLanes x).pending = s.pending := (rfl)
@[simp] theorem State.withLanes_freeCtr (s : State) (x : SMap LaneSt) : (s.withLanes x).freeCtr = s.freeCtr := (rfl)
@[simp] theorem State.withLanes_now (s : State) (x : SMap LaneSt) : (s.withLanes x).now = s.now := (rfl)
@[simp] theorem State.withLanes_ms (s : State) (x : SMap LaneSt) : (s.withLanes x).ms = s.ms := (rfl)
@[simp] theorem State.withLanes_regs (s : State) (x : SMap LaneSt) : (s.withLanes x).regs = s.regs := (rfl)
@[simp] theorem State.withLanes_eff (s : State) (x : SMap LaneSt) : (s.withLanes x).eff = s.eff := (rfl)
@[simp] theorem State.withLanes_mem (s : State) (x : SMap LaneSt) : (s.withLanes x).mem = s.mem := (rfl)
@[simp] theorem State.withLanes_flash (s : State) (x : SMap LaneSt) : (s.withLanes x).flash = s.flash := (rfl)
@[simp] theorem State.withLanes_tun (s : State) (x : SMap LaneSt) : (s.withLanes x).tun = s.tun := (rfl)
@[simp] theorem State.withLanes_dev (s : State) (x : SMap LaneSt) : (s.withLanes x).dev = s.dev := (rfl)
@[simp] theorem State.withLanes_nvm (s : State) (x : SMap LaneSt) : (s.withLanes x).nvm = s.nvm := (rfl)
@[simp] theorem State.withLanes_rst (s : State) (x : SMap LaneSt) : (s.withLanes x).rst = s.rst := (rfl)
@[simp] theorem State.withLanes_pins (s : State) (x : SMap LaneSt) : (s.withLanes x).pins = s.pins := (rfl)
@[simp] theorem State.withLanes_emit (s : State) (x : SMap LaneSt) : (s.withLanes x).emit = s.emit := (rfl)
@[simp] theorem State.withLanes_strs (s : State) (x : SMap LaneSt) : (s.withLanes x).strs = s.strs := (rfl)
@[simp] theorem State.withLanes_scan (s : State) (x : SMap LaneSt) : (s.withLanes x).scan = s.scan := (rfl)
@[simp] theorem State.withLanes_kiln (s : State) (x : SMap LaneSt) : (s.withLanes x).kiln = s.kiln := (rfl)
@[simp] theorem State.withLanes_time (s : State) (x : SMap LaneSt) : (s.withLanes x).time = s.time := (rfl)
@[simp] theorem State.withLanes_anchor (s : State) (x : SMap LaneSt) : (s.withLanes x).anchor = s.anchor := (rfl)
@[simp] theorem State.withLanes_therm (s : State) (x : SMap LaneSt) : (s.withLanes x).therm = s.therm := (rfl)
@[simp] theorem State.withLanes_chans (s : State) (x : SMap LaneSt) : (s.withLanes x).chans = s.chans := (rfl)
@[simp] theorem State.withLanes_clus (s : State) (x : SMap LaneSt) : (s.withLanes x).clus = s.clus := (rfl)
@[simp] theorem State.withLanes_mash (s : State) (x : SMap LaneSt) : (s.withLanes x).mash = s.mash := (rfl)
@[simp] theorem State.withLanes_tins (s : State) (x : SMap LaneSt) : (s.withLanes x).tins = s.tins := (rfl)
@[simp] theorem State.withLanes_hists (s : State) (x : SMap LaneSt) : (s.withLanes x).hists = s.hists := (rfl)
@[simp] theorem State.withLanes_lau (s : State) (x : SMap LaneSt) : (s.withLanes x).lau = s.lau := (rfl)
@[simp] theorem State.withLanes_cal (s : State) (x : SMap LaneSt) : (s.withLanes x).cal = s.cal := (rfl)
@[simp] theorem State.withLanes_wort (s : State) (x : SMap LaneSt) : (s.withLanes x).wort = s.wort := (rfl)
@[simp] theorem State.withLanes_dwl (s : State) (x : SMap LaneSt) : (s.withLanes x).dwl = s.dwl := (rfl)
@[simp] theorem State.withLanes_ctl (s : State) (x : SMap LaneSt) : (s.withLanes x).ctl = s.ctl := (rfl)
@[simp] theorem State.withLanes_adcLast (s : State) (x : SMap LaneSt) : (s.withLanes x).adcLast = s.adcLast := (rfl)
@[simp] theorem State.withLanes_adc (s : State) (x : SMap LaneSt) : (s.withLanes x).adc = s.adc := (rfl)
@[simp] theorem State.withLanes_afePos (s : State) (x : SMap LaneSt) : (s.withLanes x).afePos = s.afePos := (rfl)
@[simp] theorem State.withLanes_lanes (s : State) (x : SMap LaneSt) : (s.withLanes x).lanes = x := (rfl)
@[simp] theorem State.withLanes_eths (s : State) (x : SMap LaneSt) : (s.withLanes x).eths = s.eths := (rfl)
@[simp] theorem State.withLanes_prp (s : State) (x : SMap LaneSt) : (s.withLanes x).prp = s.prp := (rfl)
@[simp] theorem State.withLanes_lines (s : State) (x : SMap LaneSt) : (s.withLanes x).lines = s.lines := (rfl)
@[simp] theorem State.withLanes_parkWake (s : State) (x : SMap LaneSt) : (s.withLanes x).parkWake = s.parkWake := (rfl)
@[simp] theorem State.withLanes_guard (s : State) (x : SMap LaneSt) : (s.withLanes x).guard = s.guard := (rfl)
@[simp] theorem State.withLanes_cask (s : State) (x : SMap LaneSt) : (s.withLanes x).cask = s.cask := (rfl)
@[simp] theorem State.withLanes_cores (s : State) (x : SMap LaneSt) : (s.withLanes x).cores = s.cores := (rfl)
@[simp] theorem State.withLanes_dma (s : State) (x : SMap LaneSt) : (s.withLanes x).dma = s.dma := (rfl)
@[simp] theorem State.withLanes_amp (s : State) (x : SMap LaneSt) : (s.withLanes x).amp = s.amp := (rfl)
@[simp] theorem State.withLanes_flOp (s : State) (x : SMap LaneSt) : (s.withLanes x).flOp = s.flOp := (rfl)
@[simp] theorem State.withLanes_rget (s : State) (x : SMap LaneSt) (a : Nat) : (s.withLanes x).rget a = s.rget a := (rfl)
@[simp] theorem State.withLanes_f (s : State) (x : SMap LaneSt) (F : Fld) : (s.withLanes x).f F = s.f F := (rfl)
@[simp] theorem State.withLanes_b (s : State) (x : SMap LaneSt) (F : Fld) : (s.withLanes x).b F = s.b F := (rfl)
@[simp] theorem State.withLanes_fs (s : State) (x : SMap LaneSt) (F : Fld) : (s.withLanes x).fs F = s.fs F := (rfl)
@[simp] theorem State.withEths_pending (s : State) (x : SMap EthSt) : (s.withEths x).pending = s.pending := (rfl)
@[simp] theorem State.withEths_freeCtr (s : State) (x : SMap EthSt) : (s.withEths x).freeCtr = s.freeCtr := (rfl)
@[simp] theorem State.withEths_now (s : State) (x : SMap EthSt) : (s.withEths x).now = s.now := (rfl)
@[simp] theorem State.withEths_ms (s : State) (x : SMap EthSt) : (s.withEths x).ms = s.ms := (rfl)
@[simp] theorem State.withEths_regs (s : State) (x : SMap EthSt) : (s.withEths x).regs = s.regs := (rfl)
@[simp] theorem State.withEths_eff (s : State) (x : SMap EthSt) : (s.withEths x).eff = s.eff := (rfl)
@[simp] theorem State.withEths_mem (s : State) (x : SMap EthSt) : (s.withEths x).mem = s.mem := (rfl)
@[simp] theorem State.withEths_flash (s : State) (x : SMap EthSt) : (s.withEths x).flash = s.flash := (rfl)
@[simp] theorem State.withEths_tun (s : State) (x : SMap EthSt) : (s.withEths x).tun = s.tun := (rfl)
@[simp] theorem State.withEths_dev (s : State) (x : SMap EthSt) : (s.withEths x).dev = s.dev := (rfl)
@[simp] theorem State.withEths_nvm (s : State) (x : SMap EthSt) : (s.withEths x).nvm = s.nvm := (rfl)
@[simp] theorem State.withEths_rst (s : State) (x : SMap EthSt) : (s.withEths x).rst = s.rst := (rfl)
@[simp] theorem State.withEths_pins (s : State) (x : SMap EthSt) : (s.withEths x).pins = s.pins := (rfl)
@[simp] theorem State.withEths_emit (s : State) (x : SMap EthSt) : (s.withEths x).emit = s.emit := (rfl)
@[simp] theorem State.withEths_strs (s : State) (x : SMap EthSt) : (s.withEths x).strs = s.strs := (rfl)
@[simp] theorem State.withEths_scan (s : State) (x : SMap EthSt) : (s.withEths x).scan = s.scan := (rfl)
@[simp] theorem State.withEths_kiln (s : State) (x : SMap EthSt) : (s.withEths x).kiln = s.kiln := (rfl)
@[simp] theorem State.withEths_time (s : State) (x : SMap EthSt) : (s.withEths x).time = s.time := (rfl)
@[simp] theorem State.withEths_anchor (s : State) (x : SMap EthSt) : (s.withEths x).anchor = s.anchor := (rfl)
@[simp] theorem State.withEths_therm (s : State) (x : SMap EthSt) : (s.withEths x).therm = s.therm := (rfl)
@[simp] theorem State.withEths_chans (s : State) (x : SMap EthSt) : (s.withEths x).chans = s.chans := (rfl)
@[simp] theorem State.withEths_clus (s : State) (x : SMap EthSt) : (s.withEths x).clus = s.clus := (rfl)
@[simp] theorem State.withEths_mash (s : State) (x : SMap EthSt) : (s.withEths x).mash = s.mash := (rfl)
@[simp] theorem State.withEths_tins (s : State) (x : SMap EthSt) : (s.withEths x).tins = s.tins := (rfl)
@[simp] theorem State.withEths_hists (s : State) (x : SMap EthSt) : (s.withEths x).hists = s.hists := (rfl)
@[simp] theorem State.withEths_lau (s : State) (x : SMap EthSt) : (s.withEths x).lau = s.lau := (rfl)
@[simp] theorem State.withEths_cal (s : State) (x : SMap EthSt) : (s.withEths x).cal = s.cal := (rfl)
@[simp] theorem State.withEths_wort (s : State) (x : SMap EthSt) : (s.withEths x).wort = s.wort := (rfl)
@[simp] theorem State.withEths_dwl (s : State) (x : SMap EthSt) : (s.withEths x).dwl = s.dwl := (rfl)
@[simp] theorem State.withEths_ctl (s : State) (x : SMap EthSt) : (s.withEths x).ctl = s.ctl := (rfl)
@[simp] theorem State.withEths_adcLast (s : State) (x : SMap EthSt) : (s.withEths x).adcLast = s.adcLast := (rfl)
@[simp] theorem State.withEths_adc (s : State) (x : SMap EthSt) : (s.withEths x).adc = s.adc := (rfl)
@[simp] theorem State.withEths_afePos (s : State) (x : SMap EthSt) : (s.withEths x).afePos = s.afePos := (rfl)
@[simp] theorem State.withEths_lanes (s : State) (x : SMap EthSt) : (s.withEths x).lanes = s.lanes := (rfl)
@[simp] theorem State.withEths_eths (s : State) (x : SMap EthSt) : (s.withEths x).eths = x := (rfl)
@[simp] theorem State.withEths_prp (s : State) (x : SMap EthSt) : (s.withEths x).prp = s.prp := (rfl)
@[simp] theorem State.withEths_lines (s : State) (x : SMap EthSt) : (s.withEths x).lines = s.lines := (rfl)
@[simp] theorem State.withEths_parkWake (s : State) (x : SMap EthSt) : (s.withEths x).parkWake = s.parkWake := (rfl)
@[simp] theorem State.withEths_guard (s : State) (x : SMap EthSt) : (s.withEths x).guard = s.guard := (rfl)
@[simp] theorem State.withEths_cask (s : State) (x : SMap EthSt) : (s.withEths x).cask = s.cask := (rfl)
@[simp] theorem State.withEths_cores (s : State) (x : SMap EthSt) : (s.withEths x).cores = s.cores := (rfl)
@[simp] theorem State.withEths_dma (s : State) (x : SMap EthSt) : (s.withEths x).dma = s.dma := (rfl)
@[simp] theorem State.withEths_amp (s : State) (x : SMap EthSt) : (s.withEths x).amp = s.amp := (rfl)
@[simp] theorem State.withEths_flOp (s : State) (x : SMap EthSt) : (s.withEths x).flOp = s.flOp := (rfl)
@[simp] theorem State.withEths_rget (s : State) (x : SMap EthSt) (a : Nat) : (s.withEths x).rget a = s.rget a := (rfl)
@[simp] theorem State.withEths_f (s : State) (x : SMap EthSt) (F : Fld) : (s.withEths x).f F = s.f F := (rfl)
@[simp] theorem State.withEths_b (s : State) (x : SMap EthSt) (F : Fld) : (s.withEths x).b F = s.b F := (rfl)
@[simp] theorem State.withEths_fs (s : State) (x : SMap EthSt) (F : Fld) : (s.withEths x).fs F = s.fs F := (rfl)
@[simp] theorem State.withPrp_pending (s : State) (x : List PrpEnt) : (s.withPrp x).pending = s.pending := (rfl)
@[simp] theorem State.withPrp_freeCtr (s : State) (x : List PrpEnt) : (s.withPrp x).freeCtr = s.freeCtr := (rfl)
@[simp] theorem State.withPrp_now (s : State) (x : List PrpEnt) : (s.withPrp x).now = s.now := (rfl)
@[simp] theorem State.withPrp_ms (s : State) (x : List PrpEnt) : (s.withPrp x).ms = s.ms := (rfl)
@[simp] theorem State.withPrp_regs (s : State) (x : List PrpEnt) : (s.withPrp x).regs = s.regs := (rfl)
@[simp] theorem State.withPrp_eff (s : State) (x : List PrpEnt) : (s.withPrp x).eff = s.eff := (rfl)
@[simp] theorem State.withPrp_mem (s : State) (x : List PrpEnt) : (s.withPrp x).mem = s.mem := (rfl)
@[simp] theorem State.withPrp_flash (s : State) (x : List PrpEnt) : (s.withPrp x).flash = s.flash := (rfl)
@[simp] theorem State.withPrp_tun (s : State) (x : List PrpEnt) : (s.withPrp x).tun = s.tun := (rfl)
@[simp] theorem State.withPrp_dev (s : State) (x : List PrpEnt) : (s.withPrp x).dev = s.dev := (rfl)
@[simp] theorem State.withPrp_nvm (s : State) (x : List PrpEnt) : (s.withPrp x).nvm = s.nvm := (rfl)
@[simp] theorem State.withPrp_rst (s : State) (x : List PrpEnt) : (s.withPrp x).rst = s.rst := (rfl)
@[simp] theorem State.withPrp_pins (s : State) (x : List PrpEnt) : (s.withPrp x).pins = s.pins := (rfl)
@[simp] theorem State.withPrp_emit (s : State) (x : List PrpEnt) : (s.withPrp x).emit = s.emit := (rfl)
@[simp] theorem State.withPrp_strs (s : State) (x : List PrpEnt) : (s.withPrp x).strs = s.strs := (rfl)
@[simp] theorem State.withPrp_scan (s : State) (x : List PrpEnt) : (s.withPrp x).scan = s.scan := (rfl)
@[simp] theorem State.withPrp_kiln (s : State) (x : List PrpEnt) : (s.withPrp x).kiln = s.kiln := (rfl)
@[simp] theorem State.withPrp_time (s : State) (x : List PrpEnt) : (s.withPrp x).time = s.time := (rfl)
@[simp] theorem State.withPrp_anchor (s : State) (x : List PrpEnt) : (s.withPrp x).anchor = s.anchor := (rfl)
@[simp] theorem State.withPrp_therm (s : State) (x : List PrpEnt) : (s.withPrp x).therm = s.therm := (rfl)
@[simp] theorem State.withPrp_chans (s : State) (x : List PrpEnt) : (s.withPrp x).chans = s.chans := (rfl)
@[simp] theorem State.withPrp_clus (s : State) (x : List PrpEnt) : (s.withPrp x).clus = s.clus := (rfl)
@[simp] theorem State.withPrp_mash (s : State) (x : List PrpEnt) : (s.withPrp x).mash = s.mash := (rfl)
@[simp] theorem State.withPrp_tins (s : State) (x : List PrpEnt) : (s.withPrp x).tins = s.tins := (rfl)
@[simp] theorem State.withPrp_hists (s : State) (x : List PrpEnt) : (s.withPrp x).hists = s.hists := (rfl)
@[simp] theorem State.withPrp_lau (s : State) (x : List PrpEnt) : (s.withPrp x).lau = s.lau := (rfl)
@[simp] theorem State.withPrp_cal (s : State) (x : List PrpEnt) : (s.withPrp x).cal = s.cal := (rfl)
@[simp] theorem State.withPrp_wort (s : State) (x : List PrpEnt) : (s.withPrp x).wort = s.wort := (rfl)
@[simp] theorem State.withPrp_dwl (s : State) (x : List PrpEnt) : (s.withPrp x).dwl = s.dwl := (rfl)
@[simp] theorem State.withPrp_ctl (s : State) (x : List PrpEnt) : (s.withPrp x).ctl = s.ctl := (rfl)
@[simp] theorem State.withPrp_adcLast (s : State) (x : List PrpEnt) : (s.withPrp x).adcLast = s.adcLast := (rfl)
@[simp] theorem State.withPrp_adc (s : State) (x : List PrpEnt) : (s.withPrp x).adc = s.adc := (rfl)
@[simp] theorem State.withPrp_afePos (s : State) (x : List PrpEnt) : (s.withPrp x).afePos = s.afePos := (rfl)
@[simp] theorem State.withPrp_lanes (s : State) (x : List PrpEnt) : (s.withPrp x).lanes = s.lanes := (rfl)
@[simp] theorem State.withPrp_eths (s : State) (x : List PrpEnt) : (s.withPrp x).eths = s.eths := (rfl)
@[simp] theorem State.withPrp_prp (s : State) (x : List PrpEnt) : (s.withPrp x).prp = x := (rfl)
@[simp] theorem State.withPrp_lines (s : State) (x : List PrpEnt) : (s.withPrp x).lines = s.lines := (rfl)
@[simp] theorem State.withPrp_parkWake (s : State) (x : List PrpEnt) : (s.withPrp x).parkWake = s.parkWake := (rfl)
@[simp] theorem State.withPrp_guard (s : State) (x : List PrpEnt) : (s.withPrp x).guard = s.guard := (rfl)
@[simp] theorem State.withPrp_cask (s : State) (x : List PrpEnt) : (s.withPrp x).cask = s.cask := (rfl)
@[simp] theorem State.withPrp_cores (s : State) (x : List PrpEnt) : (s.withPrp x).cores = s.cores := (rfl)
@[simp] theorem State.withPrp_dma (s : State) (x : List PrpEnt) : (s.withPrp x).dma = s.dma := (rfl)
@[simp] theorem State.withPrp_amp (s : State) (x : List PrpEnt) : (s.withPrp x).amp = s.amp := (rfl)
@[simp] theorem State.withPrp_flOp (s : State) (x : List PrpEnt) : (s.withPrp x).flOp = s.flOp := (rfl)
@[simp] theorem State.withPrp_rget (s : State) (x : List PrpEnt) (a : Nat) : (s.withPrp x).rget a = s.rget a := (rfl)
@[simp] theorem State.withPrp_f (s : State) (x : List PrpEnt) (F : Fld) : (s.withPrp x).f F = s.f F := (rfl)
@[simp] theorem State.withPrp_b (s : State) (x : List PrpEnt) (F : Fld) : (s.withPrp x).b F = s.b F := (rfl)
@[simp] theorem State.withPrp_fs (s : State) (x : List PrpEnt) (F : Fld) : (s.withPrp x).fs F = s.fs F := (rfl)
@[simp] theorem State.withLines_pending (s : State) (x : SMap Nat) : (s.withLines x).pending = s.pending := (rfl)
@[simp] theorem State.withLines_freeCtr (s : State) (x : SMap Nat) : (s.withLines x).freeCtr = s.freeCtr := (rfl)
@[simp] theorem State.withLines_now (s : State) (x : SMap Nat) : (s.withLines x).now = s.now := (rfl)
@[simp] theorem State.withLines_ms (s : State) (x : SMap Nat) : (s.withLines x).ms = s.ms := (rfl)
@[simp] theorem State.withLines_regs (s : State) (x : SMap Nat) : (s.withLines x).regs = s.regs := (rfl)
@[simp] theorem State.withLines_eff (s : State) (x : SMap Nat) : (s.withLines x).eff = s.eff := (rfl)
@[simp] theorem State.withLines_mem (s : State) (x : SMap Nat) : (s.withLines x).mem = s.mem := (rfl)
@[simp] theorem State.withLines_flash (s : State) (x : SMap Nat) : (s.withLines x).flash = s.flash := (rfl)
@[simp] theorem State.withLines_tun (s : State) (x : SMap Nat) : (s.withLines x).tun = s.tun := (rfl)
@[simp] theorem State.withLines_dev (s : State) (x : SMap Nat) : (s.withLines x).dev = s.dev := (rfl)
@[simp] theorem State.withLines_nvm (s : State) (x : SMap Nat) : (s.withLines x).nvm = s.nvm := (rfl)
@[simp] theorem State.withLines_rst (s : State) (x : SMap Nat) : (s.withLines x).rst = s.rst := (rfl)
@[simp] theorem State.withLines_pins (s : State) (x : SMap Nat) : (s.withLines x).pins = s.pins := (rfl)
@[simp] theorem State.withLines_emit (s : State) (x : SMap Nat) : (s.withLines x).emit = s.emit := (rfl)
@[simp] theorem State.withLines_strs (s : State) (x : SMap Nat) : (s.withLines x).strs = s.strs := (rfl)
@[simp] theorem State.withLines_scan (s : State) (x : SMap Nat) : (s.withLines x).scan = s.scan := (rfl)
@[simp] theorem State.withLines_kiln (s : State) (x : SMap Nat) : (s.withLines x).kiln = s.kiln := (rfl)
@[simp] theorem State.withLines_time (s : State) (x : SMap Nat) : (s.withLines x).time = s.time := (rfl)
@[simp] theorem State.withLines_anchor (s : State) (x : SMap Nat) : (s.withLines x).anchor = s.anchor := (rfl)
@[simp] theorem State.withLines_therm (s : State) (x : SMap Nat) : (s.withLines x).therm = s.therm := (rfl)
@[simp] theorem State.withLines_chans (s : State) (x : SMap Nat) : (s.withLines x).chans = s.chans := (rfl)
@[simp] theorem State.withLines_clus (s : State) (x : SMap Nat) : (s.withLines x).clus = s.clus := (rfl)
@[simp] theorem State.withLines_mash (s : State) (x : SMap Nat) : (s.withLines x).mash = s.mash := (rfl)
@[simp] theorem State.withLines_tins (s : State) (x : SMap Nat) : (s.withLines x).tins = s.tins := (rfl)
@[simp] theorem State.withLines_hists (s : State) (x : SMap Nat) : (s.withLines x).hists = s.hists := (rfl)
@[simp] theorem State.withLines_lau (s : State) (x : SMap Nat) : (s.withLines x).lau = s.lau := (rfl)
@[simp] theorem State.withLines_cal (s : State) (x : SMap Nat) : (s.withLines x).cal = s.cal := (rfl)
@[simp] theorem State.withLines_wort (s : State) (x : SMap Nat) : (s.withLines x).wort = s.wort := (rfl)
@[simp] theorem State.withLines_dwl (s : State) (x : SMap Nat) : (s.withLines x).dwl = s.dwl := (rfl)
@[simp] theorem State.withLines_ctl (s : State) (x : SMap Nat) : (s.withLines x).ctl = s.ctl := (rfl)
@[simp] theorem State.withLines_adcLast (s : State) (x : SMap Nat) : (s.withLines x).adcLast = s.adcLast := (rfl)
@[simp] theorem State.withLines_adc (s : State) (x : SMap Nat) : (s.withLines x).adc = s.adc := (rfl)
@[simp] theorem State.withLines_afePos (s : State) (x : SMap Nat) : (s.withLines x).afePos = s.afePos := (rfl)
@[simp] theorem State.withLines_lanes (s : State) (x : SMap Nat) : (s.withLines x).lanes = s.lanes := (rfl)
@[simp] theorem State.withLines_eths (s : State) (x : SMap Nat) : (s.withLines x).eths = s.eths := (rfl)
@[simp] theorem State.withLines_prp (s : State) (x : SMap Nat) : (s.withLines x).prp = s.prp := (rfl)
@[simp] theorem State.withLines_lines (s : State) (x : SMap Nat) : (s.withLines x).lines = x := (rfl)
@[simp] theorem State.withLines_parkWake (s : State) (x : SMap Nat) : (s.withLines x).parkWake = s.parkWake := (rfl)
@[simp] theorem State.withLines_guard (s : State) (x : SMap Nat) : (s.withLines x).guard = s.guard := (rfl)
@[simp] theorem State.withLines_cask (s : State) (x : SMap Nat) : (s.withLines x).cask = s.cask := (rfl)
@[simp] theorem State.withLines_cores (s : State) (x : SMap Nat) : (s.withLines x).cores = s.cores := (rfl)
@[simp] theorem State.withLines_dma (s : State) (x : SMap Nat) : (s.withLines x).dma = s.dma := (rfl)
@[simp] theorem State.withLines_amp (s : State) (x : SMap Nat) : (s.withLines x).amp = s.amp := (rfl)
@[simp] theorem State.withLines_flOp (s : State) (x : SMap Nat) : (s.withLines x).flOp = s.flOp := (rfl)
@[simp] theorem State.withLines_rget (s : State) (x : SMap Nat) (a : Nat) : (s.withLines x).rget a = s.rget a := (rfl)
@[simp] theorem State.withLines_f (s : State) (x : SMap Nat) (F : Fld) : (s.withLines x).f F = s.f F := (rfl)
@[simp] theorem State.withLines_b (s : State) (x : SMap Nat) (F : Fld) : (s.withLines x).b F = s.b F := (rfl)
@[simp] theorem State.withLines_fs (s : State) (x : SMap Nat) (F : Fld) : (s.withLines x).fs F = s.fs F := (rfl)
@[simp] theorem State.withParkWake_pending (s : State) (x : Bool) : (s.withParkWake x).pending = s.pending := (rfl)
@[simp] theorem State.withParkWake_freeCtr (s : State) (x : Bool) : (s.withParkWake x).freeCtr = s.freeCtr := (rfl)
@[simp] theorem State.withParkWake_now (s : State) (x : Bool) : (s.withParkWake x).now = s.now := (rfl)
@[simp] theorem State.withParkWake_ms (s : State) (x : Bool) : (s.withParkWake x).ms = s.ms := (rfl)
@[simp] theorem State.withParkWake_regs (s : State) (x : Bool) : (s.withParkWake x).regs = s.regs := (rfl)
@[simp] theorem State.withParkWake_eff (s : State) (x : Bool) : (s.withParkWake x).eff = s.eff := (rfl)
@[simp] theorem State.withParkWake_mem (s : State) (x : Bool) : (s.withParkWake x).mem = s.mem := (rfl)
@[simp] theorem State.withParkWake_flash (s : State) (x : Bool) : (s.withParkWake x).flash = s.flash := (rfl)
@[simp] theorem State.withParkWake_tun (s : State) (x : Bool) : (s.withParkWake x).tun = s.tun := (rfl)
@[simp] theorem State.withParkWake_dev (s : State) (x : Bool) : (s.withParkWake x).dev = s.dev := (rfl)
@[simp] theorem State.withParkWake_nvm (s : State) (x : Bool) : (s.withParkWake x).nvm = s.nvm := (rfl)
@[simp] theorem State.withParkWake_rst (s : State) (x : Bool) : (s.withParkWake x).rst = s.rst := (rfl)
@[simp] theorem State.withParkWake_pins (s : State) (x : Bool) : (s.withParkWake x).pins = s.pins := (rfl)
@[simp] theorem State.withParkWake_emit (s : State) (x : Bool) : (s.withParkWake x).emit = s.emit := (rfl)
@[simp] theorem State.withParkWake_strs (s : State) (x : Bool) : (s.withParkWake x).strs = s.strs := (rfl)
@[simp] theorem State.withParkWake_scan (s : State) (x : Bool) : (s.withParkWake x).scan = s.scan := (rfl)
@[simp] theorem State.withParkWake_kiln (s : State) (x : Bool) : (s.withParkWake x).kiln = s.kiln := (rfl)
@[simp] theorem State.withParkWake_time (s : State) (x : Bool) : (s.withParkWake x).time = s.time := (rfl)
@[simp] theorem State.withParkWake_anchor (s : State) (x : Bool) : (s.withParkWake x).anchor = s.anchor := (rfl)
@[simp] theorem State.withParkWake_therm (s : State) (x : Bool) : (s.withParkWake x).therm = s.therm := (rfl)
@[simp] theorem State.withParkWake_chans (s : State) (x : Bool) : (s.withParkWake x).chans = s.chans := (rfl)
@[simp] theorem State.withParkWake_clus (s : State) (x : Bool) : (s.withParkWake x).clus = s.clus := (rfl)
@[simp] theorem State.withParkWake_mash (s : State) (x : Bool) : (s.withParkWake x).mash = s.mash := (rfl)
@[simp] theorem State.withParkWake_tins (s : State) (x : Bool) : (s.withParkWake x).tins = s.tins := (rfl)
@[simp] theorem State.withParkWake_hists (s : State) (x : Bool) : (s.withParkWake x).hists = s.hists := (rfl)
@[simp] theorem State.withParkWake_lau (s : State) (x : Bool) : (s.withParkWake x).lau = s.lau := (rfl)
@[simp] theorem State.withParkWake_cal (s : State) (x : Bool) : (s.withParkWake x).cal = s.cal := (rfl)
@[simp] theorem State.withParkWake_wort (s : State) (x : Bool) : (s.withParkWake x).wort = s.wort := (rfl)
@[simp] theorem State.withParkWake_dwl (s : State) (x : Bool) : (s.withParkWake x).dwl = s.dwl := (rfl)
@[simp] theorem State.withParkWake_ctl (s : State) (x : Bool) : (s.withParkWake x).ctl = s.ctl := (rfl)
@[simp] theorem State.withParkWake_adcLast (s : State) (x : Bool) : (s.withParkWake x).adcLast = s.adcLast := (rfl)
@[simp] theorem State.withParkWake_adc (s : State) (x : Bool) : (s.withParkWake x).adc = s.adc := (rfl)
@[simp] theorem State.withParkWake_afePos (s : State) (x : Bool) : (s.withParkWake x).afePos = s.afePos := (rfl)
@[simp] theorem State.withParkWake_lanes (s : State) (x : Bool) : (s.withParkWake x).lanes = s.lanes := (rfl)
@[simp] theorem State.withParkWake_eths (s : State) (x : Bool) : (s.withParkWake x).eths = s.eths := (rfl)
@[simp] theorem State.withParkWake_prp (s : State) (x : Bool) : (s.withParkWake x).prp = s.prp := (rfl)
@[simp] theorem State.withParkWake_lines (s : State) (x : Bool) : (s.withParkWake x).lines = s.lines := (rfl)
@[simp] theorem State.withParkWake_parkWake (s : State) (x : Bool) : (s.withParkWake x).parkWake = x := (rfl)
@[simp] theorem State.withParkWake_guard (s : State) (x : Bool) : (s.withParkWake x).guard = s.guard := (rfl)
@[simp] theorem State.withParkWake_cask (s : State) (x : Bool) : (s.withParkWake x).cask = s.cask := (rfl)
@[simp] theorem State.withParkWake_cores (s : State) (x : Bool) : (s.withParkWake x).cores = s.cores := (rfl)
@[simp] theorem State.withParkWake_dma (s : State) (x : Bool) : (s.withParkWake x).dma = s.dma := (rfl)
@[simp] theorem State.withParkWake_amp (s : State) (x : Bool) : (s.withParkWake x).amp = s.amp := (rfl)
@[simp] theorem State.withParkWake_flOp (s : State) (x : Bool) : (s.withParkWake x).flOp = s.flOp := (rfl)
@[simp] theorem State.withParkWake_rget (s : State) (x : Bool) (a : Nat) : (s.withParkWake x).rget a = s.rget a := (rfl)
@[simp] theorem State.withParkWake_f (s : State) (x : Bool) (F : Fld) : (s.withParkWake x).f F = s.f F := (rfl)
@[simp] theorem State.withParkWake_b (s : State) (x : Bool) (F : Fld) : (s.withParkWake x).b F = s.b F := (rfl)
@[simp] theorem State.withParkWake_fs (s : State) (x : Bool) (F : Fld) : (s.withParkWake x).fs F = s.fs F := (rfl)
@[simp] theorem State.withGuard_pending (s : State) (x : GuardSt) : (s.withGuard x).pending = s.pending := (rfl)
@[simp] theorem State.withGuard_freeCtr (s : State) (x : GuardSt) : (s.withGuard x).freeCtr = s.freeCtr := (rfl)
@[simp] theorem State.withGuard_now (s : State) (x : GuardSt) : (s.withGuard x).now = s.now := (rfl)
@[simp] theorem State.withGuard_ms (s : State) (x : GuardSt) : (s.withGuard x).ms = s.ms := (rfl)
@[simp] theorem State.withGuard_regs (s : State) (x : GuardSt) : (s.withGuard x).regs = s.regs := (rfl)
@[simp] theorem State.withGuard_eff (s : State) (x : GuardSt) : (s.withGuard x).eff = s.eff := (rfl)
@[simp] theorem State.withGuard_mem (s : State) (x : GuardSt) : (s.withGuard x).mem = s.mem := (rfl)
@[simp] theorem State.withGuard_flash (s : State) (x : GuardSt) : (s.withGuard x).flash = s.flash := (rfl)
@[simp] theorem State.withGuard_tun (s : State) (x : GuardSt) : (s.withGuard x).tun = s.tun := (rfl)
@[simp] theorem State.withGuard_dev (s : State) (x : GuardSt) : (s.withGuard x).dev = s.dev := (rfl)
@[simp] theorem State.withGuard_nvm (s : State) (x : GuardSt) : (s.withGuard x).nvm = s.nvm := (rfl)
@[simp] theorem State.withGuard_rst (s : State) (x : GuardSt) : (s.withGuard x).rst = s.rst := (rfl)
@[simp] theorem State.withGuard_pins (s : State) (x : GuardSt) : (s.withGuard x).pins = s.pins := (rfl)
@[simp] theorem State.withGuard_emit (s : State) (x : GuardSt) : (s.withGuard x).emit = s.emit := (rfl)
@[simp] theorem State.withGuard_strs (s : State) (x : GuardSt) : (s.withGuard x).strs = s.strs := (rfl)
@[simp] theorem State.withGuard_scan (s : State) (x : GuardSt) : (s.withGuard x).scan = s.scan := (rfl)
@[simp] theorem State.withGuard_kiln (s : State) (x : GuardSt) : (s.withGuard x).kiln = s.kiln := (rfl)
@[simp] theorem State.withGuard_time (s : State) (x : GuardSt) : (s.withGuard x).time = s.time := (rfl)
@[simp] theorem State.withGuard_anchor (s : State) (x : GuardSt) : (s.withGuard x).anchor = s.anchor := (rfl)
@[simp] theorem State.withGuard_therm (s : State) (x : GuardSt) : (s.withGuard x).therm = s.therm := (rfl)
@[simp] theorem State.withGuard_chans (s : State) (x : GuardSt) : (s.withGuard x).chans = s.chans := (rfl)
@[simp] theorem State.withGuard_clus (s : State) (x : GuardSt) : (s.withGuard x).clus = s.clus := (rfl)
@[simp] theorem State.withGuard_mash (s : State) (x : GuardSt) : (s.withGuard x).mash = s.mash := (rfl)
@[simp] theorem State.withGuard_tins (s : State) (x : GuardSt) : (s.withGuard x).tins = s.tins := (rfl)
@[simp] theorem State.withGuard_hists (s : State) (x : GuardSt) : (s.withGuard x).hists = s.hists := (rfl)
@[simp] theorem State.withGuard_lau (s : State) (x : GuardSt) : (s.withGuard x).lau = s.lau := (rfl)
@[simp] theorem State.withGuard_cal (s : State) (x : GuardSt) : (s.withGuard x).cal = s.cal := (rfl)
@[simp] theorem State.withGuard_wort (s : State) (x : GuardSt) : (s.withGuard x).wort = s.wort := (rfl)
@[simp] theorem State.withGuard_dwl (s : State) (x : GuardSt) : (s.withGuard x).dwl = s.dwl := (rfl)
@[simp] theorem State.withGuard_ctl (s : State) (x : GuardSt) : (s.withGuard x).ctl = s.ctl := (rfl)
@[simp] theorem State.withGuard_adcLast (s : State) (x : GuardSt) : (s.withGuard x).adcLast = s.adcLast := (rfl)
@[simp] theorem State.withGuard_adc (s : State) (x : GuardSt) : (s.withGuard x).adc = s.adc := (rfl)
@[simp] theorem State.withGuard_afePos (s : State) (x : GuardSt) : (s.withGuard x).afePos = s.afePos := (rfl)
@[simp] theorem State.withGuard_lanes (s : State) (x : GuardSt) : (s.withGuard x).lanes = s.lanes := (rfl)
@[simp] theorem State.withGuard_eths (s : State) (x : GuardSt) : (s.withGuard x).eths = s.eths := (rfl)
@[simp] theorem State.withGuard_prp (s : State) (x : GuardSt) : (s.withGuard x).prp = s.prp := (rfl)
@[simp] theorem State.withGuard_lines (s : State) (x : GuardSt) : (s.withGuard x).lines = s.lines := (rfl)
@[simp] theorem State.withGuard_parkWake (s : State) (x : GuardSt) : (s.withGuard x).parkWake = s.parkWake := (rfl)
@[simp] theorem State.withGuard_guard (s : State) (x : GuardSt) : (s.withGuard x).guard = x := (rfl)
@[simp] theorem State.withGuard_cask (s : State) (x : GuardSt) : (s.withGuard x).cask = s.cask := (rfl)
@[simp] theorem State.withGuard_cores (s : State) (x : GuardSt) : (s.withGuard x).cores = s.cores := (rfl)
@[simp] theorem State.withGuard_dma (s : State) (x : GuardSt) : (s.withGuard x).dma = s.dma := (rfl)
@[simp] theorem State.withGuard_amp (s : State) (x : GuardSt) : (s.withGuard x).amp = s.amp := (rfl)
@[simp] theorem State.withGuard_flOp (s : State) (x : GuardSt) : (s.withGuard x).flOp = s.flOp := (rfl)
@[simp] theorem State.withGuard_rget (s : State) (x : GuardSt) (a : Nat) : (s.withGuard x).rget a = s.rget a := (rfl)
@[simp] theorem State.withGuard_f (s : State) (x : GuardSt) (F : Fld) : (s.withGuard x).f F = s.f F := (rfl)
@[simp] theorem State.withGuard_b (s : State) (x : GuardSt) (F : Fld) : (s.withGuard x).b F = s.b F := (rfl)
@[simp] theorem State.withGuard_fs (s : State) (x : GuardSt) (F : Fld) : (s.withGuard x).fs F = s.fs F := (rfl)
@[simp] theorem State.withCask_pending (s : State) (x : CaskSt) : (s.withCask x).pending = s.pending := (rfl)
@[simp] theorem State.withCask_freeCtr (s : State) (x : CaskSt) : (s.withCask x).freeCtr = s.freeCtr := (rfl)
@[simp] theorem State.withCask_now (s : State) (x : CaskSt) : (s.withCask x).now = s.now := (rfl)
@[simp] theorem State.withCask_ms (s : State) (x : CaskSt) : (s.withCask x).ms = s.ms := (rfl)
@[simp] theorem State.withCask_regs (s : State) (x : CaskSt) : (s.withCask x).regs = s.regs := (rfl)
@[simp] theorem State.withCask_eff (s : State) (x : CaskSt) : (s.withCask x).eff = s.eff := (rfl)
@[simp] theorem State.withCask_mem (s : State) (x : CaskSt) : (s.withCask x).mem = s.mem := (rfl)
@[simp] theorem State.withCask_flash (s : State) (x : CaskSt) : (s.withCask x).flash = s.flash := (rfl)
@[simp] theorem State.withCask_tun (s : State) (x : CaskSt) : (s.withCask x).tun = s.tun := (rfl)
@[simp] theorem State.withCask_dev (s : State) (x : CaskSt) : (s.withCask x).dev = s.dev := (rfl)
@[simp] theorem State.withCask_nvm (s : State) (x : CaskSt) : (s.withCask x).nvm = s.nvm := (rfl)
@[simp] theorem State.withCask_rst (s : State) (x : CaskSt) : (s.withCask x).rst = s.rst := (rfl)
@[simp] theorem State.withCask_pins (s : State) (x : CaskSt) : (s.withCask x).pins = s.pins := (rfl)
@[simp] theorem State.withCask_emit (s : State) (x : CaskSt) : (s.withCask x).emit = s.emit := (rfl)
@[simp] theorem State.withCask_strs (s : State) (x : CaskSt) : (s.withCask x).strs = s.strs := (rfl)
@[simp] theorem State.withCask_scan (s : State) (x : CaskSt) : (s.withCask x).scan = s.scan := (rfl)
@[simp] theorem State.withCask_kiln (s : State) (x : CaskSt) : (s.withCask x).kiln = s.kiln := (rfl)
@[simp] theorem State.withCask_time (s : State) (x : CaskSt) : (s.withCask x).time = s.time := (rfl)
@[simp] theorem State.withCask_anchor (s : State) (x : CaskSt) : (s.withCask x).anchor = s.anchor := (rfl)
@[simp] theorem State.withCask_therm (s : State) (x : CaskSt) : (s.withCask x).therm = s.therm := (rfl)
@[simp] theorem State.withCask_chans (s : State) (x : CaskSt) : (s.withCask x).chans = s.chans := (rfl)
@[simp] theorem State.withCask_clus (s : State) (x : CaskSt) : (s.withCask x).clus = s.clus := (rfl)
@[simp] theorem State.withCask_mash (s : State) (x : CaskSt) : (s.withCask x).mash = s.mash := (rfl)
@[simp] theorem State.withCask_tins (s : State) (x : CaskSt) : (s.withCask x).tins = s.tins := (rfl)
@[simp] theorem State.withCask_hists (s : State) (x : CaskSt) : (s.withCask x).hists = s.hists := (rfl)
@[simp] theorem State.withCask_lau (s : State) (x : CaskSt) : (s.withCask x).lau = s.lau := (rfl)
@[simp] theorem State.withCask_cal (s : State) (x : CaskSt) : (s.withCask x).cal = s.cal := (rfl)
@[simp] theorem State.withCask_wort (s : State) (x : CaskSt) : (s.withCask x).wort = s.wort := (rfl)
@[simp] theorem State.withCask_dwl (s : State) (x : CaskSt) : (s.withCask x).dwl = s.dwl := (rfl)
@[simp] theorem State.withCask_ctl (s : State) (x : CaskSt) : (s.withCask x).ctl = s.ctl := (rfl)
@[simp] theorem State.withCask_adcLast (s : State) (x : CaskSt) : (s.withCask x).adcLast = s.adcLast := (rfl)
@[simp] theorem State.withCask_adc (s : State) (x : CaskSt) : (s.withCask x).adc = s.adc := (rfl)
@[simp] theorem State.withCask_afePos (s : State) (x : CaskSt) : (s.withCask x).afePos = s.afePos := (rfl)
@[simp] theorem State.withCask_lanes (s : State) (x : CaskSt) : (s.withCask x).lanes = s.lanes := (rfl)
@[simp] theorem State.withCask_eths (s : State) (x : CaskSt) : (s.withCask x).eths = s.eths := (rfl)
@[simp] theorem State.withCask_prp (s : State) (x : CaskSt) : (s.withCask x).prp = s.prp := (rfl)
@[simp] theorem State.withCask_lines (s : State) (x : CaskSt) : (s.withCask x).lines = s.lines := (rfl)
@[simp] theorem State.withCask_parkWake (s : State) (x : CaskSt) : (s.withCask x).parkWake = s.parkWake := (rfl)
@[simp] theorem State.withCask_guard (s : State) (x : CaskSt) : (s.withCask x).guard = s.guard := (rfl)
@[simp] theorem State.withCask_cask (s : State) (x : CaskSt) : (s.withCask x).cask = x := (rfl)
@[simp] theorem State.withCask_cores (s : State) (x : CaskSt) : (s.withCask x).cores = s.cores := (rfl)
@[simp] theorem State.withCask_dma (s : State) (x : CaskSt) : (s.withCask x).dma = s.dma := (rfl)
@[simp] theorem State.withCask_amp (s : State) (x : CaskSt) : (s.withCask x).amp = s.amp := (rfl)
@[simp] theorem State.withCask_flOp (s : State) (x : CaskSt) : (s.withCask x).flOp = s.flOp := (rfl)
@[simp] theorem State.withCask_rget (s : State) (x : CaskSt) (a : Nat) : (s.withCask x).rget a = s.rget a := (rfl)
@[simp] theorem State.withCask_f (s : State) (x : CaskSt) (F : Fld) : (s.withCask x).f F = s.f F := (rfl)
@[simp] theorem State.withCask_b (s : State) (x : CaskSt) (F : Fld) : (s.withCask x).b F = s.b F := (rfl)
@[simp] theorem State.withCask_fs (s : State) (x : CaskSt) (F : Fld) : (s.withCask x).fs F = s.fs F := (rfl)
@[simp] theorem State.withCores_pending (s : State) (x : SMap CoreSt) : (s.withCores x).pending = s.pending := (rfl)
@[simp] theorem State.withCores_freeCtr (s : State) (x : SMap CoreSt) : (s.withCores x).freeCtr = s.freeCtr := (rfl)
@[simp] theorem State.withCores_now (s : State) (x : SMap CoreSt) : (s.withCores x).now = s.now := (rfl)
@[simp] theorem State.withCores_ms (s : State) (x : SMap CoreSt) : (s.withCores x).ms = s.ms := (rfl)
@[simp] theorem State.withCores_regs (s : State) (x : SMap CoreSt) : (s.withCores x).regs = s.regs := (rfl)
@[simp] theorem State.withCores_eff (s : State) (x : SMap CoreSt) : (s.withCores x).eff = s.eff := (rfl)
@[simp] theorem State.withCores_mem (s : State) (x : SMap CoreSt) : (s.withCores x).mem = s.mem := (rfl)
@[simp] theorem State.withCores_flash (s : State) (x : SMap CoreSt) : (s.withCores x).flash = s.flash := (rfl)
@[simp] theorem State.withCores_tun (s : State) (x : SMap CoreSt) : (s.withCores x).tun = s.tun := (rfl)
@[simp] theorem State.withCores_dev (s : State) (x : SMap CoreSt) : (s.withCores x).dev = s.dev := (rfl)
@[simp] theorem State.withCores_nvm (s : State) (x : SMap CoreSt) : (s.withCores x).nvm = s.nvm := (rfl)
@[simp] theorem State.withCores_rst (s : State) (x : SMap CoreSt) : (s.withCores x).rst = s.rst := (rfl)
@[simp] theorem State.withCores_pins (s : State) (x : SMap CoreSt) : (s.withCores x).pins = s.pins := (rfl)
@[simp] theorem State.withCores_emit (s : State) (x : SMap CoreSt) : (s.withCores x).emit = s.emit := (rfl)
@[simp] theorem State.withCores_strs (s : State) (x : SMap CoreSt) : (s.withCores x).strs = s.strs := (rfl)
@[simp] theorem State.withCores_scan (s : State) (x : SMap CoreSt) : (s.withCores x).scan = s.scan := (rfl)
@[simp] theorem State.withCores_kiln (s : State) (x : SMap CoreSt) : (s.withCores x).kiln = s.kiln := (rfl)
@[simp] theorem State.withCores_time (s : State) (x : SMap CoreSt) : (s.withCores x).time = s.time := (rfl)
@[simp] theorem State.withCores_anchor (s : State) (x : SMap CoreSt) : (s.withCores x).anchor = s.anchor := (rfl)
@[simp] theorem State.withCores_therm (s : State) (x : SMap CoreSt) : (s.withCores x).therm = s.therm := (rfl)
@[simp] theorem State.withCores_chans (s : State) (x : SMap CoreSt) : (s.withCores x).chans = s.chans := (rfl)
@[simp] theorem State.withCores_clus (s : State) (x : SMap CoreSt) : (s.withCores x).clus = s.clus := (rfl)
@[simp] theorem State.withCores_mash (s : State) (x : SMap CoreSt) : (s.withCores x).mash = s.mash := (rfl)
@[simp] theorem State.withCores_tins (s : State) (x : SMap CoreSt) : (s.withCores x).tins = s.tins := (rfl)
@[simp] theorem State.withCores_hists (s : State) (x : SMap CoreSt) : (s.withCores x).hists = s.hists := (rfl)
@[simp] theorem State.withCores_lau (s : State) (x : SMap CoreSt) : (s.withCores x).lau = s.lau := (rfl)
@[simp] theorem State.withCores_cal (s : State) (x : SMap CoreSt) : (s.withCores x).cal = s.cal := (rfl)
@[simp] theorem State.withCores_wort (s : State) (x : SMap CoreSt) : (s.withCores x).wort = s.wort := (rfl)
@[simp] theorem State.withCores_dwl (s : State) (x : SMap CoreSt) : (s.withCores x).dwl = s.dwl := (rfl)
@[simp] theorem State.withCores_ctl (s : State) (x : SMap CoreSt) : (s.withCores x).ctl = s.ctl := (rfl)
@[simp] theorem State.withCores_adcLast (s : State) (x : SMap CoreSt) : (s.withCores x).adcLast = s.adcLast := (rfl)
@[simp] theorem State.withCores_adc (s : State) (x : SMap CoreSt) : (s.withCores x).adc = s.adc := (rfl)
@[simp] theorem State.withCores_afePos (s : State) (x : SMap CoreSt) : (s.withCores x).afePos = s.afePos := (rfl)
@[simp] theorem State.withCores_lanes (s : State) (x : SMap CoreSt) : (s.withCores x).lanes = s.lanes := (rfl)
@[simp] theorem State.withCores_eths (s : State) (x : SMap CoreSt) : (s.withCores x).eths = s.eths := (rfl)
@[simp] theorem State.withCores_prp (s : State) (x : SMap CoreSt) : (s.withCores x).prp = s.prp := (rfl)
@[simp] theorem State.withCores_lines (s : State) (x : SMap CoreSt) : (s.withCores x).lines = s.lines := (rfl)
@[simp] theorem State.withCores_parkWake (s : State) (x : SMap CoreSt) : (s.withCores x).parkWake = s.parkWake := (rfl)
@[simp] theorem State.withCores_guard (s : State) (x : SMap CoreSt) : (s.withCores x).guard = s.guard := (rfl)
@[simp] theorem State.withCores_cask (s : State) (x : SMap CoreSt) : (s.withCores x).cask = s.cask := (rfl)
@[simp] theorem State.withCores_cores (s : State) (x : SMap CoreSt) : (s.withCores x).cores = x := (rfl)
@[simp] theorem State.withCores_dma (s : State) (x : SMap CoreSt) : (s.withCores x).dma = s.dma := (rfl)
@[simp] theorem State.withCores_amp (s : State) (x : SMap CoreSt) : (s.withCores x).amp = s.amp := (rfl)
@[simp] theorem State.withCores_flOp (s : State) (x : SMap CoreSt) : (s.withCores x).flOp = s.flOp := (rfl)
@[simp] theorem State.withCores_rget (s : State) (x : SMap CoreSt) (a : Nat) : (s.withCores x).rget a = s.rget a := (rfl)
@[simp] theorem State.withCores_f (s : State) (x : SMap CoreSt) (F : Fld) : (s.withCores x).f F = s.f F := (rfl)
@[simp] theorem State.withCores_b (s : State) (x : SMap CoreSt) (F : Fld) : (s.withCores x).b F = s.b F := (rfl)
@[simp] theorem State.withCores_fs (s : State) (x : SMap CoreSt) (F : Fld) : (s.withCores x).fs F = s.fs F := (rfl)
@[simp] theorem State.withDma_pending (s : State) (x : SMap (Option DmaSt)) : (s.withDma x).pending = s.pending := (rfl)
@[simp] theorem State.withDma_freeCtr (s : State) (x : SMap (Option DmaSt)) : (s.withDma x).freeCtr = s.freeCtr := (rfl)
@[simp] theorem State.withDma_now (s : State) (x : SMap (Option DmaSt)) : (s.withDma x).now = s.now := (rfl)
@[simp] theorem State.withDma_ms (s : State) (x : SMap (Option DmaSt)) : (s.withDma x).ms = s.ms := (rfl)
@[simp] theorem State.withDma_regs (s : State) (x : SMap (Option DmaSt)) : (s.withDma x).regs = s.regs := (rfl)
@[simp] theorem State.withDma_eff (s : State) (x : SMap (Option DmaSt)) : (s.withDma x).eff = s.eff := (rfl)
@[simp] theorem State.withDma_mem (s : State) (x : SMap (Option DmaSt)) : (s.withDma x).mem = s.mem := (rfl)
@[simp] theorem State.withDma_flash (s : State) (x : SMap (Option DmaSt)) : (s.withDma x).flash = s.flash := (rfl)
@[simp] theorem State.withDma_tun (s : State) (x : SMap (Option DmaSt)) : (s.withDma x).tun = s.tun := (rfl)
@[simp] theorem State.withDma_dev (s : State) (x : SMap (Option DmaSt)) : (s.withDma x).dev = s.dev := (rfl)
@[simp] theorem State.withDma_nvm (s : State) (x : SMap (Option DmaSt)) : (s.withDma x).nvm = s.nvm := (rfl)
@[simp] theorem State.withDma_rst (s : State) (x : SMap (Option DmaSt)) : (s.withDma x).rst = s.rst := (rfl)
@[simp] theorem State.withDma_pins (s : State) (x : SMap (Option DmaSt)) : (s.withDma x).pins = s.pins := (rfl)
@[simp] theorem State.withDma_emit (s : State) (x : SMap (Option DmaSt)) : (s.withDma x).emit = s.emit := (rfl)
@[simp] theorem State.withDma_strs (s : State) (x : SMap (Option DmaSt)) : (s.withDma x).strs = s.strs := (rfl)
@[simp] theorem State.withDma_scan (s : State) (x : SMap (Option DmaSt)) : (s.withDma x).scan = s.scan := (rfl)
@[simp] theorem State.withDma_kiln (s : State) (x : SMap (Option DmaSt)) : (s.withDma x).kiln = s.kiln := (rfl)
@[simp] theorem State.withDma_time (s : State) (x : SMap (Option DmaSt)) : (s.withDma x).time = s.time := (rfl)
@[simp] theorem State.withDma_anchor (s : State) (x : SMap (Option DmaSt)) : (s.withDma x).anchor = s.anchor := (rfl)
@[simp] theorem State.withDma_therm (s : State) (x : SMap (Option DmaSt)) : (s.withDma x).therm = s.therm := (rfl)
@[simp] theorem State.withDma_chans (s : State) (x : SMap (Option DmaSt)) : (s.withDma x).chans = s.chans := (rfl)
@[simp] theorem State.withDma_clus (s : State) (x : SMap (Option DmaSt)) : (s.withDma x).clus = s.clus := (rfl)
@[simp] theorem State.withDma_mash (s : State) (x : SMap (Option DmaSt)) : (s.withDma x).mash = s.mash := (rfl)
@[simp] theorem State.withDma_tins (s : State) (x : SMap (Option DmaSt)) : (s.withDma x).tins = s.tins := (rfl)
@[simp] theorem State.withDma_hists (s : State) (x : SMap (Option DmaSt)) : (s.withDma x).hists = s.hists := (rfl)
@[simp] theorem State.withDma_lau (s : State) (x : SMap (Option DmaSt)) : (s.withDma x).lau = s.lau := (rfl)
@[simp] theorem State.withDma_cal (s : State) (x : SMap (Option DmaSt)) : (s.withDma x).cal = s.cal := (rfl)
@[simp] theorem State.withDma_wort (s : State) (x : SMap (Option DmaSt)) : (s.withDma x).wort = s.wort := (rfl)
@[simp] theorem State.withDma_dwl (s : State) (x : SMap (Option DmaSt)) : (s.withDma x).dwl = s.dwl := (rfl)
@[simp] theorem State.withDma_ctl (s : State) (x : SMap (Option DmaSt)) : (s.withDma x).ctl = s.ctl := (rfl)
@[simp] theorem State.withDma_adcLast (s : State) (x : SMap (Option DmaSt)) : (s.withDma x).adcLast = s.adcLast := (rfl)
@[simp] theorem State.withDma_adc (s : State) (x : SMap (Option DmaSt)) : (s.withDma x).adc = s.adc := (rfl)
@[simp] theorem State.withDma_afePos (s : State) (x : SMap (Option DmaSt)) : (s.withDma x).afePos = s.afePos := (rfl)
@[simp] theorem State.withDma_lanes (s : State) (x : SMap (Option DmaSt)) : (s.withDma x).lanes = s.lanes := (rfl)
@[simp] theorem State.withDma_eths (s : State) (x : SMap (Option DmaSt)) : (s.withDma x).eths = s.eths := (rfl)
@[simp] theorem State.withDma_prp (s : State) (x : SMap (Option DmaSt)) : (s.withDma x).prp = s.prp := (rfl)
@[simp] theorem State.withDma_lines (s : State) (x : SMap (Option DmaSt)) : (s.withDma x).lines = s.lines := (rfl)
@[simp] theorem State.withDma_parkWake (s : State) (x : SMap (Option DmaSt)) : (s.withDma x).parkWake = s.parkWake := (rfl)
@[simp] theorem State.withDma_guard (s : State) (x : SMap (Option DmaSt)) : (s.withDma x).guard = s.guard := (rfl)
@[simp] theorem State.withDma_cask (s : State) (x : SMap (Option DmaSt)) : (s.withDma x).cask = s.cask := (rfl)
@[simp] theorem State.withDma_cores (s : State) (x : SMap (Option DmaSt)) : (s.withDma x).cores = s.cores := (rfl)
@[simp] theorem State.withDma_dma (s : State) (x : SMap (Option DmaSt)) : (s.withDma x).dma = x := (rfl)
@[simp] theorem State.withDma_amp (s : State) (x : SMap (Option DmaSt)) : (s.withDma x).amp = s.amp := (rfl)
@[simp] theorem State.withDma_flOp (s : State) (x : SMap (Option DmaSt)) : (s.withDma x).flOp = s.flOp := (rfl)
@[simp] theorem State.withDma_rget (s : State) (x : SMap (Option DmaSt)) (a : Nat) : (s.withDma x).rget a = s.rget a := (rfl)
@[simp] theorem State.withDma_f (s : State) (x : SMap (Option DmaSt)) (F : Fld) : (s.withDma x).f F = s.f F := (rfl)
@[simp] theorem State.withDma_b (s : State) (x : SMap (Option DmaSt)) (F : Fld) : (s.withDma x).b F = s.b F := (rfl)
@[simp] theorem State.withDma_fs (s : State) (x : SMap (Option DmaSt)) (F : Fld) : (s.withDma x).fs F = s.fs F := (rfl)
@[simp] theorem State.withAmp_pending (s : State) (x : AmpSt) : (s.withAmp x).pending = s.pending := (rfl)
@[simp] theorem State.withAmp_freeCtr (s : State) (x : AmpSt) : (s.withAmp x).freeCtr = s.freeCtr := (rfl)
@[simp] theorem State.withAmp_now (s : State) (x : AmpSt) : (s.withAmp x).now = s.now := (rfl)
@[simp] theorem State.withAmp_ms (s : State) (x : AmpSt) : (s.withAmp x).ms = s.ms := (rfl)
@[simp] theorem State.withAmp_regs (s : State) (x : AmpSt) : (s.withAmp x).regs = s.regs := (rfl)
@[simp] theorem State.withAmp_eff (s : State) (x : AmpSt) : (s.withAmp x).eff = s.eff := (rfl)
@[simp] theorem State.withAmp_mem (s : State) (x : AmpSt) : (s.withAmp x).mem = s.mem := (rfl)
@[simp] theorem State.withAmp_flash (s : State) (x : AmpSt) : (s.withAmp x).flash = s.flash := (rfl)
@[simp] theorem State.withAmp_tun (s : State) (x : AmpSt) : (s.withAmp x).tun = s.tun := (rfl)
@[simp] theorem State.withAmp_dev (s : State) (x : AmpSt) : (s.withAmp x).dev = s.dev := (rfl)
@[simp] theorem State.withAmp_nvm (s : State) (x : AmpSt) : (s.withAmp x).nvm = s.nvm := (rfl)
@[simp] theorem State.withAmp_rst (s : State) (x : AmpSt) : (s.withAmp x).rst = s.rst := (rfl)
@[simp] theorem State.withAmp_pins (s : State) (x : AmpSt) : (s.withAmp x).pins = s.pins := (rfl)
@[simp] theorem State.withAmp_emit (s : State) (x : AmpSt) : (s.withAmp x).emit = s.emit := (rfl)
@[simp] theorem State.withAmp_strs (s : State) (x : AmpSt) : (s.withAmp x).strs = s.strs := (rfl)
@[simp] theorem State.withAmp_scan (s : State) (x : AmpSt) : (s.withAmp x).scan = s.scan := (rfl)
@[simp] theorem State.withAmp_kiln (s : State) (x : AmpSt) : (s.withAmp x).kiln = s.kiln := (rfl)
@[simp] theorem State.withAmp_time (s : State) (x : AmpSt) : (s.withAmp x).time = s.time := (rfl)
@[simp] theorem State.withAmp_anchor (s : State) (x : AmpSt) : (s.withAmp x).anchor = s.anchor := (rfl)
@[simp] theorem State.withAmp_therm (s : State) (x : AmpSt) : (s.withAmp x).therm = s.therm := (rfl)
@[simp] theorem State.withAmp_chans (s : State) (x : AmpSt) : (s.withAmp x).chans = s.chans := (rfl)
@[simp] theorem State.withAmp_clus (s : State) (x : AmpSt) : (s.withAmp x).clus = s.clus := (rfl)
@[simp] theorem State.withAmp_mash (s : State) (x : AmpSt) : (s.withAmp x).mash = s.mash := (rfl)
@[simp] theorem State.withAmp_tins (s : State) (x : AmpSt) : (s.withAmp x).tins = s.tins := (rfl)
@[simp] theorem State.withAmp_hists (s : State) (x : AmpSt) : (s.withAmp x).hists = s.hists := (rfl)
@[simp] theorem State.withAmp_lau (s : State) (x : AmpSt) : (s.withAmp x).lau = s.lau := (rfl)
@[simp] theorem State.withAmp_cal (s : State) (x : AmpSt) : (s.withAmp x).cal = s.cal := (rfl)
@[simp] theorem State.withAmp_wort (s : State) (x : AmpSt) : (s.withAmp x).wort = s.wort := (rfl)
@[simp] theorem State.withAmp_dwl (s : State) (x : AmpSt) : (s.withAmp x).dwl = s.dwl := (rfl)
@[simp] theorem State.withAmp_ctl (s : State) (x : AmpSt) : (s.withAmp x).ctl = s.ctl := (rfl)
@[simp] theorem State.withAmp_adcLast (s : State) (x : AmpSt) : (s.withAmp x).adcLast = s.adcLast := (rfl)
@[simp] theorem State.withAmp_adc (s : State) (x : AmpSt) : (s.withAmp x).adc = s.adc := (rfl)
@[simp] theorem State.withAmp_afePos (s : State) (x : AmpSt) : (s.withAmp x).afePos = s.afePos := (rfl)
@[simp] theorem State.withAmp_lanes (s : State) (x : AmpSt) : (s.withAmp x).lanes = s.lanes := (rfl)
@[simp] theorem State.withAmp_eths (s : State) (x : AmpSt) : (s.withAmp x).eths = s.eths := (rfl)
@[simp] theorem State.withAmp_prp (s : State) (x : AmpSt) : (s.withAmp x).prp = s.prp := (rfl)
@[simp] theorem State.withAmp_lines (s : State) (x : AmpSt) : (s.withAmp x).lines = s.lines := (rfl)
@[simp] theorem State.withAmp_parkWake (s : State) (x : AmpSt) : (s.withAmp x).parkWake = s.parkWake := (rfl)
@[simp] theorem State.withAmp_guard (s : State) (x : AmpSt) : (s.withAmp x).guard = s.guard := (rfl)
@[simp] theorem State.withAmp_cask (s : State) (x : AmpSt) : (s.withAmp x).cask = s.cask := (rfl)
@[simp] theorem State.withAmp_cores (s : State) (x : AmpSt) : (s.withAmp x).cores = s.cores := (rfl)
@[simp] theorem State.withAmp_dma (s : State) (x : AmpSt) : (s.withAmp x).dma = s.dma := (rfl)
@[simp] theorem State.withAmp_amp (s : State) (x : AmpSt) : (s.withAmp x).amp = x := (rfl)
@[simp] theorem State.withAmp_flOp (s : State) (x : AmpSt) : (s.withAmp x).flOp = s.flOp := (rfl)
@[simp] theorem State.withAmp_rget (s : State) (x : AmpSt) (a : Nat) : (s.withAmp x).rget a = s.rget a := (rfl)
@[simp] theorem State.withAmp_f (s : State) (x : AmpSt) (F : Fld) : (s.withAmp x).f F = s.f F := (rfl)
@[simp] theorem State.withAmp_b (s : State) (x : AmpSt) (F : Fld) : (s.withAmp x).b F = s.b F := (rfl)
@[simp] theorem State.withAmp_fs (s : State) (x : AmpSt) (F : Fld) : (s.withAmp x).fs F = s.fs F := (rfl)
@[simp] theorem State.withFlOp_pending (s : State) (x : Option FlashOp) : (s.withFlOp x).pending = s.pending := (rfl)
@[simp] theorem State.withFlOp_freeCtr (s : State) (x : Option FlashOp) : (s.withFlOp x).freeCtr = s.freeCtr := (rfl)
@[simp] theorem State.withFlOp_now (s : State) (x : Option FlashOp) : (s.withFlOp x).now = s.now := (rfl)
@[simp] theorem State.withFlOp_ms (s : State) (x : Option FlashOp) : (s.withFlOp x).ms = s.ms := (rfl)
@[simp] theorem State.withFlOp_regs (s : State) (x : Option FlashOp) : (s.withFlOp x).regs = s.regs := (rfl)
@[simp] theorem State.withFlOp_eff (s : State) (x : Option FlashOp) : (s.withFlOp x).eff = s.eff := (rfl)
@[simp] theorem State.withFlOp_mem (s : State) (x : Option FlashOp) : (s.withFlOp x).mem = s.mem := (rfl)
@[simp] theorem State.withFlOp_flash (s : State) (x : Option FlashOp) : (s.withFlOp x).flash = s.flash := (rfl)
@[simp] theorem State.withFlOp_tun (s : State) (x : Option FlashOp) : (s.withFlOp x).tun = s.tun := (rfl)
@[simp] theorem State.withFlOp_dev (s : State) (x : Option FlashOp) : (s.withFlOp x).dev = s.dev := (rfl)
@[simp] theorem State.withFlOp_nvm (s : State) (x : Option FlashOp) : (s.withFlOp x).nvm = s.nvm := (rfl)
@[simp] theorem State.withFlOp_rst (s : State) (x : Option FlashOp) : (s.withFlOp x).rst = s.rst := (rfl)
@[simp] theorem State.withFlOp_pins (s : State) (x : Option FlashOp) : (s.withFlOp x).pins = s.pins := (rfl)
@[simp] theorem State.withFlOp_emit (s : State) (x : Option FlashOp) : (s.withFlOp x).emit = s.emit := (rfl)
@[simp] theorem State.withFlOp_strs (s : State) (x : Option FlashOp) : (s.withFlOp x).strs = s.strs := (rfl)
@[simp] theorem State.withFlOp_scan (s : State) (x : Option FlashOp) : (s.withFlOp x).scan = s.scan := (rfl)
@[simp] theorem State.withFlOp_kiln (s : State) (x : Option FlashOp) : (s.withFlOp x).kiln = s.kiln := (rfl)
@[simp] theorem State.withFlOp_time (s : State) (x : Option FlashOp) : (s.withFlOp x).time = s.time := (rfl)
@[simp] theorem State.withFlOp_anchor (s : State) (x : Option FlashOp) : (s.withFlOp x).anchor = s.anchor := (rfl)
@[simp] theorem State.withFlOp_therm (s : State) (x : Option FlashOp) : (s.withFlOp x).therm = s.therm := (rfl)
@[simp] theorem State.withFlOp_chans (s : State) (x : Option FlashOp) : (s.withFlOp x).chans = s.chans := (rfl)
@[simp] theorem State.withFlOp_clus (s : State) (x : Option FlashOp) : (s.withFlOp x).clus = s.clus := (rfl)
@[simp] theorem State.withFlOp_mash (s : State) (x : Option FlashOp) : (s.withFlOp x).mash = s.mash := (rfl)
@[simp] theorem State.withFlOp_tins (s : State) (x : Option FlashOp) : (s.withFlOp x).tins = s.tins := (rfl)
@[simp] theorem State.withFlOp_hists (s : State) (x : Option FlashOp) : (s.withFlOp x).hists = s.hists := (rfl)
@[simp] theorem State.withFlOp_lau (s : State) (x : Option FlashOp) : (s.withFlOp x).lau = s.lau := (rfl)
@[simp] theorem State.withFlOp_cal (s : State) (x : Option FlashOp) : (s.withFlOp x).cal = s.cal := (rfl)
@[simp] theorem State.withFlOp_wort (s : State) (x : Option FlashOp) : (s.withFlOp x).wort = s.wort := (rfl)
@[simp] theorem State.withFlOp_dwl (s : State) (x : Option FlashOp) : (s.withFlOp x).dwl = s.dwl := (rfl)
@[simp] theorem State.withFlOp_ctl (s : State) (x : Option FlashOp) : (s.withFlOp x).ctl = s.ctl := (rfl)
@[simp] theorem State.withFlOp_adcLast (s : State) (x : Option FlashOp) : (s.withFlOp x).adcLast = s.adcLast := (rfl)
@[simp] theorem State.withFlOp_adc (s : State) (x : Option FlashOp) : (s.withFlOp x).adc = s.adc := (rfl)
@[simp] theorem State.withFlOp_afePos (s : State) (x : Option FlashOp) : (s.withFlOp x).afePos = s.afePos := (rfl)
@[simp] theorem State.withFlOp_lanes (s : State) (x : Option FlashOp) : (s.withFlOp x).lanes = s.lanes := (rfl)
@[simp] theorem State.withFlOp_eths (s : State) (x : Option FlashOp) : (s.withFlOp x).eths = s.eths := (rfl)
@[simp] theorem State.withFlOp_prp (s : State) (x : Option FlashOp) : (s.withFlOp x).prp = s.prp := (rfl)
@[simp] theorem State.withFlOp_lines (s : State) (x : Option FlashOp) : (s.withFlOp x).lines = s.lines := (rfl)
@[simp] theorem State.withFlOp_parkWake (s : State) (x : Option FlashOp) : (s.withFlOp x).parkWake = s.parkWake := (rfl)
@[simp] theorem State.withFlOp_guard (s : State) (x : Option FlashOp) : (s.withFlOp x).guard = s.guard := (rfl)
@[simp] theorem State.withFlOp_cask (s : State) (x : Option FlashOp) : (s.withFlOp x).cask = s.cask := (rfl)
@[simp] theorem State.withFlOp_cores (s : State) (x : Option FlashOp) : (s.withFlOp x).cores = s.cores := (rfl)
@[simp] theorem State.withFlOp_dma (s : State) (x : Option FlashOp) : (s.withFlOp x).dma = s.dma := (rfl)
@[simp] theorem State.withFlOp_amp (s : State) (x : Option FlashOp) : (s.withFlOp x).amp = s.amp := (rfl)
@[simp] theorem State.withFlOp_flOp (s : State) (x : Option FlashOp) : (s.withFlOp x).flOp = x := (rfl)
@[simp] theorem State.withFlOp_rget (s : State) (x : Option FlashOp) (a : Nat) : (s.withFlOp x).rget a = s.rget a := (rfl)
@[simp] theorem State.withFlOp_f (s : State) (x : Option FlashOp) (F : Fld) : (s.withFlOp x).f F = s.f F := (rfl)
@[simp] theorem State.withFlOp_b (s : State) (x : Option FlashOp) (F : Fld) : (s.withFlOp x).b F = s.b F := (rfl)
@[simp] theorem State.withFlOp_fs (s : State) (x : Option FlashOp) (F : Fld) : (s.withFlOp x).fs F = s.fs F := (rfl)

/-! ## Conditional causes -/

@[simp] theorem State.raiseIf_pending (s : State) (p : Bool) (c : Cause) : (s.raiseIf p c).pending = s.pending := by cases p <;> rfl
@[simp] theorem State.raiseIf_freeCtr (s : State) (p : Bool) (c : Cause) : (s.raiseIf p c).freeCtr = s.freeCtr := by cases p <;> rfl
@[simp] theorem State.raiseIf_now (s : State) (p : Bool) (c : Cause) : (s.raiseIf p c).now = s.now := by cases p <;> rfl
@[simp] theorem State.raiseIf_ms (s : State) (p : Bool) (c : Cause) : (s.raiseIf p c).ms = s.ms := by cases p <;> rfl
@[simp] theorem State.raiseIf_eff (s : State) (p : Bool) (c : Cause) : (s.raiseIf p c).eff = s.eff := by cases p <;> rfl
@[simp] theorem State.raiseIf_mem (s : State) (p : Bool) (c : Cause) : (s.raiseIf p c).mem = s.mem := by cases p <;> rfl
@[simp] theorem State.raiseIf_flash (s : State) (p : Bool) (c : Cause) : (s.raiseIf p c).flash = s.flash := by cases p <;> rfl
@[simp] theorem State.raiseIf_tun (s : State) (p : Bool) (c : Cause) : (s.raiseIf p c).tun = s.tun := by cases p <;> rfl
@[simp] theorem State.raiseIf_dev (s : State) (p : Bool) (c : Cause) : (s.raiseIf p c).dev = s.dev := by cases p <;> rfl
@[simp] theorem State.raiseIf_nvm (s : State) (p : Bool) (c : Cause) : (s.raiseIf p c).nvm = s.nvm := by cases p <;> rfl
@[simp] theorem State.raiseIf_rst (s : State) (p : Bool) (c : Cause) : (s.raiseIf p c).rst = s.rst := by cases p <;> rfl
@[simp] theorem State.raiseIf_pins (s : State) (p : Bool) (c : Cause) : (s.raiseIf p c).pins = s.pins := by cases p <;> rfl
@[simp] theorem State.raiseIf_emit (s : State) (p : Bool) (c : Cause) : (s.raiseIf p c).emit = s.emit := by cases p <;> rfl
@[simp] theorem State.raiseIf_strs (s : State) (p : Bool) (c : Cause) : (s.raiseIf p c).strs = s.strs := by cases p <;> rfl
@[simp] theorem State.raiseIf_scan (s : State) (p : Bool) (c : Cause) : (s.raiseIf p c).scan = s.scan := by cases p <;> rfl
@[simp] theorem State.raiseIf_kiln (s : State) (p : Bool) (c : Cause) : (s.raiseIf p c).kiln = s.kiln := by cases p <;> rfl
@[simp] theorem State.raiseIf_time (s : State) (p : Bool) (c : Cause) : (s.raiseIf p c).time = s.time := by cases p <;> rfl
@[simp] theorem State.raiseIf_anchor (s : State) (p : Bool) (c : Cause) : (s.raiseIf p c).anchor = s.anchor := by cases p <;> rfl
@[simp] theorem State.raiseIf_therm (s : State) (p : Bool) (c : Cause) : (s.raiseIf p c).therm = s.therm := by cases p <;> rfl
@[simp] theorem State.raiseIf_chans (s : State) (p : Bool) (c : Cause) : (s.raiseIf p c).chans = s.chans := by cases p <;> rfl
@[simp] theorem State.raiseIf_clus (s : State) (p : Bool) (c : Cause) : (s.raiseIf p c).clus = s.clus := by cases p <;> rfl
@[simp] theorem State.raiseIf_mash (s : State) (p : Bool) (c : Cause) : (s.raiseIf p c).mash = s.mash := by cases p <;> rfl
@[simp] theorem State.raiseIf_tins (s : State) (p : Bool) (c : Cause) : (s.raiseIf p c).tins = s.tins := by cases p <;> rfl
@[simp] theorem State.raiseIf_hists (s : State) (p : Bool) (c : Cause) : (s.raiseIf p c).hists = s.hists := by cases p <;> rfl
@[simp] theorem State.raiseIf_lau (s : State) (p : Bool) (c : Cause) : (s.raiseIf p c).lau = s.lau := by cases p <;> rfl
@[simp] theorem State.raiseIf_cal (s : State) (p : Bool) (c : Cause) : (s.raiseIf p c).cal = s.cal := by cases p <;> rfl
@[simp] theorem State.raiseIf_wort (s : State) (p : Bool) (c : Cause) : (s.raiseIf p c).wort = s.wort := by cases p <;> rfl
@[simp] theorem State.raiseIf_dwl (s : State) (p : Bool) (c : Cause) : (s.raiseIf p c).dwl = s.dwl := by cases p <;> rfl
@[simp] theorem State.raiseIf_ctl (s : State) (p : Bool) (c : Cause) : (s.raiseIf p c).ctl = s.ctl := by cases p <;> rfl
@[simp] theorem State.raiseIf_adcLast (s : State) (p : Bool) (c : Cause) : (s.raiseIf p c).adcLast = s.adcLast := by cases p <;> rfl
@[simp] theorem State.raiseIf_adc (s : State) (p : Bool) (c : Cause) : (s.raiseIf p c).adc = s.adc := by cases p <;> rfl
@[simp] theorem State.raiseIf_afePos (s : State) (p : Bool) (c : Cause) : (s.raiseIf p c).afePos = s.afePos := by cases p <;> rfl
@[simp] theorem State.raiseIf_lanes (s : State) (p : Bool) (c : Cause) : (s.raiseIf p c).lanes = s.lanes := by cases p <;> rfl
@[simp] theorem State.raiseIf_eths (s : State) (p : Bool) (c : Cause) : (s.raiseIf p c).eths = s.eths := by cases p <;> rfl
@[simp] theorem State.raiseIf_prp (s : State) (p : Bool) (c : Cause) : (s.raiseIf p c).prp = s.prp := by cases p <;> rfl
@[simp] theorem State.raiseIf_lines (s : State) (p : Bool) (c : Cause) : (s.raiseIf p c).lines = s.lines := by cases p <;> rfl
@[simp] theorem State.raiseIf_parkWake (s : State) (p : Bool) (c : Cause) : (s.raiseIf p c).parkWake = s.parkWake := by cases p <;> rfl
@[simp] theorem State.raiseIf_guard (s : State) (p : Bool) (c : Cause) : (s.raiseIf p c).guard = s.guard := by cases p <;> rfl
@[simp] theorem State.raiseIf_cask (s : State) (p : Bool) (c : Cause) : (s.raiseIf p c).cask = s.cask := by cases p <;> rfl
@[simp] theorem State.raiseIf_cores (s : State) (p : Bool) (c : Cause) : (s.raiseIf p c).cores = s.cores := by cases p <;> rfl
@[simp] theorem State.raiseIf_dma (s : State) (p : Bool) (c : Cause) : (s.raiseIf p c).dma = s.dma := by cases p <;> rfl
@[simp] theorem State.raiseIf_amp (s : State) (p : Bool) (c : Cause) : (s.raiseIf p c).amp = s.amp := by cases p <;> rfl
@[simp] theorem State.raiseIf_flOp (s : State) (p : Bool) (c : Cause) : (s.raiseIf p c).flOp = s.flOp := by cases p <;> rfl

end Sys2Proof.Machine
end

