-- ==== Sys2Proof/Laws/DevFrame.lean ====
section
/-!
SUPPORT. The frame of the device state: every operation and meaning but those that change it (R295, R296) leaves it as it was.
-/
namespace Sys2Proof.Machine

/-- The device state after an outcome. -/
def Out.dev (d : Dev) : Out → Dev
  | .next t => t.dev
  | _ => d
@[simp] theorem Out.dev_next (d : Dev) (t : State) : Out.dev d (.next t) = t.dev := Eq.trans (Eq.refl _) rfl
theorem Out.dev_ite (d : Dev) (c : Prop) [Decidable c] (a b : Out) : Out.dev d (if c then a else b) = if c then Out.dev d a else Out.dev d b := by
  split <;> rfl
theorem State.dev_ite (c : Prop) [Decidable c] (a b : State) : (if c then a else b).dev = if c then a.dev else b.dev := by
  split <;> rfl
theorem foldl_dev {α : Type} (g : State → α → State) (h : ∀ s x, (g s x).dev = s.dev) (l : List α) (s : State) :
    (l.foldl g s).dev = s.dev := by
  induction l generalizing s with
  | nil => rfl
  | cons x l ih => rw [List.foldl_cons, ih, h]

/-! ## Ops -/

@[simp] theorem State.latchEff_dev (s : State) (as : List Nat) : (State.latchEff s as).dev = s.dev := by
  simp only [State.latchEff, State.withEff_dev]
@[simp] theorem State.msetH_dev (s : State) (a : Nat) (v : BitVec 16) : (State.msetH s a v).dev = s.dev := by
  simp only [State.msetH, State.mset_dev]
@[simp] theorem State.msetW_dev (s : State) (a : Nat) (v : Word) : (State.msetW s a v).dev = s.dev := by
  simp only [State.msetW, State.msetH_dev]
@[simp] theorem State.countCause_dev (s : State) (c : Cause) : (State.countCause s c).dev = s.dev := by
  simp only [State.countCause, State.incSat_dev]
@[simp] theorem State.nvmKick_dev (s : State) : (State.nvmKick s).dev = s.dev := by
  simp only [State.nvmKick, State.dev_ite]
  repeat' first | with_reducible rfl | simp only [State.withNvm_dev] | split
@[simp] theorem State.nvmPush_dev (s : State) (w : NvmWrite) : (State.nvmPush s w).dev = s.dev := by
  simp only [State.nvmPush, State.nvmKick_dev, State.withNvm_dev]
@[simp] theorem State.logEvent_dev (s : State) (code : Nat) (d0 d1 : Word) : (State.logEvent s code d0 d1).dev = s.dev := by
  simp only [State.logEvent, State.incSat_dev, State.nvmKick_dev, State.withNvm_dev, State.dev_ite, ite_self]
@[simp] theorem State.fresh_dev (s : State) : (State.fresh s).2.dev = s.dev := by
  simp only [State.fresh]

/-! ## GuardOps -/

@[simp] theorem State.soutOff_dev (s : State) : (State.soutOff s).dev = s.dev := by
  simp only [State.soutOff, State.setB_dev, State.setF_dev, State.withGuard_dev, State.dev_ite, ite_self]
@[simp] theorem State.guardFollow_dev (s : State) : (State.guardFollow s).dev = s.dev := by
  simp only [State.guardFollow, State.soutOff_dev, State.dev_ite, ite_self]
@[simp] theorem State.soutFault_dev (s : State) (code : Nat) : (State.soutFault s code).dev = s.dev := by
  simp only [State.soutFault, State.logEvent_dev, State.raise_dev, State.setB_dev, State.setF_dev, State.soutOff_dev, State.dev_ite, ite_self]
@[simp] theorem State.setGsweep_dev (s : State) (n : Nat) (x : GSweep) : (State.setGsweep s n x).dev = s.dev := by
  simp only [State.setGsweep, State.withGuard_dev]
@[simp] theorem State.confirm_dev (s : State) : (State.confirm s).dev = s.dev := by
  simp only [State.confirm, State.incSat_dev, State.raise_dev, State.setF_dev, State.soutOff_dev]
@[simp] theorem State.intrude_dev (s : State) (n f : Nat) : (State.intrude s n f).dev = s.dev := by
  simp only [State.intrude, State.confirm_dev, State.raise_dev, State.setGsweep_dev, State.withGuard_dev, State.dev_ite, ite_self]
@[simp] theorem State.guardSkip_dev (s : State) (az : Nat) : (State.guardSkip s az).dev = s.dev := by
  simp only [State.guardSkip, State.intrude_dev, State.dev_ite, ite_self]
@[simp] theorem State.guardInhibit_dev (s : State) : (State.guardInhibit s).dev = s.dev := by
  simp only [State.guardInhibit, State.confirm_dev, State.setGsweep_dev, State.dev_ite, ite_self]

/-! ## Adc -/

@[simp] theorem State.adcGainWritten_dev (s : State) (k old : Nat) : (State.adcGainWritten s k old).dev = s.dev := by
  simp only [State.adcGainWritten, State.withAdc_dev, State.dev_ite, ite_self]
@[simp] theorem State.adcChannelWritten_dev (s : State) (old : Nat) : (State.adcChannelWritten s old).dev = s.dev := by
  simp only [State.adcChannelWritten, State.withAdc_dev, State.dev_ite, ite_self]
@[simp] theorem State.adcRefSelected_dev (s : State) (old : Nat) : (State.adcRefSelected s old).dev = s.dev := by
  simp only [State.adcRefSelected, State.setB_dev, State.withAdc_dev, State.dev_ite, ite_self]
theorem execAdc0RefReady_dev (s : State) : Out.dev s.dev (execAdc0RefReady s) = s.dev := by
  simp only [execAdc0RefReady, State.setB_dev, State.dev_ite, ite_self, Out.dev_next]
theorem execAdc0RefFail_dev (s : State) : Out.dev s.dev (execAdc0RefFail s) = s.dev := by
  simp only [execAdc0RefFail, State.raise_dev, State.withAdc_dev, State.dev_ite, ite_self, Out.dev_next]
@[simp] theorem State.adcAdd_dev (s : State) (j : AdcJob) : (State.adcAdd s j).dev = s.dev := by
  simp only [State.adcAdd, State.withAdc_dev]
@[simp] theorem State.adcDone_dev (s : State) (i : Nat) : (State.adcDone s i).dev = s.dev := by
  simp only [State.adcDone]
  repeat' first | with_reducible rfl | simp only [State.withAdc_dev] | split
@[simp] theorem State.adcEnd_dev (s : State) (who : Nat) : (State.adcEnd s who).dev = s.dev := by
  simp only [State.adcEnd]
  repeat' first | with_reducible rfl | simp only [State.adcDone_dev] | split
@[simp] theorem State.adcMsns_dev (s : State) (n : Nat) : (State.adcMsns s n).dev = s.dev := by
  simp only [State.adcMsns, State.adcAdd_dev, State.adcEnd_dev]
@[simp] theorem State.adcDue_dev (s : State) (n t : Nat) : (State.adcDue s n t).dev = s.dev := by
  simp only [State.adcDue, State.withAdc_dev]
@[simp] theorem State.adcFired_dev (s : State) (k t : Nat) : (State.adcFired s k t).dev = s.dev := by
  simp only [State.adcFired]
  repeat' first | with_reducible rfl | simp only [State.adcDue_dev, State.dev_ite, ite_self] | split | refine (foldl_dev _ (fun s x => ?_) _ _).trans ?_
@[simp] theorem State.adcTick_dev (s : State) : (State.adcTick s).dev = s.dev := by
  simp only [State.adcTick]
  repeat' first | with_reducible rfl | simp only [State.adcDue_dev, State.withAdc_dev, State.dev_ite, ite_self] | split | refine (foldl_dev _ (fun s x => ?_) _ _).trans ?_
@[simp] theorem State.adcStamp_dev (s : State) : (State.adcStamp s).dev = s.dev := by
  simp only [State.adcStamp]
  repeat' first | with_reducible rfl | simp only [State.setF_dev, State.withAdc_dev, State.dev_ite, ite_self] | split | refine (foldl_dev _ (fun s x => ?_) _ _).trans ?_

/-! ## Emit -/

@[simp] theorem State.updateTj_dev (s : State) (n : Nat) : (State.updateTj s n).dev = s.dev := by
  simp only [State.updateTj, State.setF_dev, State.setFs_dev]
@[simp] theorem State.updateKnee_dev (s : State) (n : Nat) : (State.updateKnee s n).dev = s.dev := by
  simp only [State.updateKnee]
  repeat' first | with_reducible rfl | simp only [State.setF_dev, State.updateTj_dev] | split
@[simp] theorem State.reduceEntry_dev (s : State) (i c : Nat) : (State.reduceEntry s i c).dev = s.dev := by
  simp only [State.reduceEntry]
  repeat' first | with_reducible rfl | simp only [State.withScan_dev] | split
@[simp] theorem State.comingDemand_dev (s : State) (n : Nat) : (State.comingDemand s n).dev = s.dev := by
  simp only [State.comingDemand]
  repeat' first | with_reducible rfl | simp only [State.setF_dev] | split
@[simp] theorem State.noShot_dev (s : State) (n : Nat) : (State.noShot s n).dev = s.dev := by
  simp only [State.noShot, State.comingDemand_dev, State.setStr_dev]
@[simp] theorem State.dropDark_dev (s : State) (n : Nat) : (State.dropDark s n).dev = s.dev := by
  simp only [State.dropDark, State.setStr_dev]
  repeat' first | with_reducible rfl | simp only [State.reduceEntry_dev] | split | refine (foldl_dev _ (fun s x => ?_) _ _).trans ?_
@[simp] theorem State.schedule_dev (s : State) (n : Nat) : (State.schedule s n).dev = s.dev := by
  simp only [State.schedule, State.setStr_dev, State.dev_ite]
  repeat' first | with_reducible rfl | simp only [State.dropDark_dev, State.noShot_dev, State.reduceEntry_dev, State.setF_dev, State.setStr_dev, State.dev_ite, ite_self] | split | refine (foldl_dev _ (fun s x => ?_) _ _).trans ?_
@[simp] theorem State.demandTarget_dev (s : State) (n : Nat) : (State.demandTarget s n).dev = s.dev := by
  simp only [State.demandTarget, State.setF_dev]
@[simp] theorem State.emxRelatch_dev (s : State) : (State.emxRelatch s).dev = s.dev := by
  simp only [State.emxRelatch, State.withEmit_dev]
@[simp] theorem State.scheduleD_dev (s : State) (n : Nat) : (State.scheduleD s n).dev = s.dev := by
  simp only [State.scheduleD, State.demandTarget_dev, State.emxRelatch_dev, State.schedule_dev]
@[simp] theorem State.emxSend_dev (s : State) (pat : BitVec 64) (seq : Nat) (retry : Bool) (latch : Nat) : (State.emxSend s pat seq retry latch).dev = s.dev := by
  simp only [State.emxSend, State.incMod_dev, State.withEmit_dev]
@[simp] theorem State.emxSendZero_dev (s : State) : (State.emxSendZero s).dev = s.dev := by
  simp only [State.emxSendZero, State.emxSend_dev, State.withEmit_dev]
theorem execEmxFrameSend_dev (t : Nat) (s : State) : Out.dev s.dev (execEmxFrameSend t s) = s.dev := by
  simp only [execEmxFrameSend, State.emxSend_dev, State.withEmit_dev, ite_self, Out.dev_next, Out.dev_ite]
@[simp] theorem State.setVbank_dev (s : State) (n v : Nat) : (State.setVbank s n v).dev = s.dev := by
  simp only [State.setVbank, State.setB_dev, State.setF_dev]
@[simp] theorem State.chargeTrip_dev (s : State) : (State.chargeTrip s).dev = s.dev := by
  simp only [State.chargeTrip, State.raise_dev, State.withEmit_dev]
@[simp] theorem State.readVbank_dev (s : State) (n v : Nat) : (State.readVbank s n v).dev = s.dev := by
  simp only [State.readVbank, State.chargeTrip_dev, State.setVbank_dev, State.dev_ite, ite_self]
@[simp] theorem State.chgOff_dev (s : State) (n : Nat) : (State.chgOff s n).dev = s.dev := by
  simp only [State.chgOff, State.setStr_dev, State.withEmit_dev]
@[simp] theorem State.chgOn_dev (s : State) (n : Nat) : (State.chgOn s n).dev = s.dev := by
  simp only [State.chgOn, State.withEmit_dev]
  repeat' first | with_reducible rfl | simp only [State.setStr_dev] | split | refine (foldl_dev _ (fun s x => ?_) _ _).trans ?_
theorem execChargeString_dev (n v : Nat) (s : State) (t : Nat) : Out.dev s.dev (execChargeString n v s t) = s.dev := by
  simp only [execChargeString, State.chgOff_dev, State.chgOn_dev, State.readVbank_dev, State.withEmit_dev, State.dev_ite, ite_self, Out.dev_next, Out.dev_ite]
theorem execChgSelOff_dev (n : Nat) (s : State) : Out.dev s.dev (execChgSelOff n s) = s.dev := by
  simp only [execChgSelOff, State.chgOff_dev, Out.dev_next]
@[simp] theorem State.modNext_dev (s : State) (n : Nat) (g : NextShot → NextShot) : (State.modNext s n g).dev = s.dev := by
  simp only [State.modNext, State.setStr_dev]
theorem execShotReadyCheck_dev (n v : Nat) (s : State) : Out.dev s.dev (execShotReadyCheck n v s) = s.dev := by
  simp only [execShotReadyCheck]
  repeat' first | with_reducible rfl | simp only [State.modNext_dev, State.raiseIf_dev, State.readVbank_dev, State.reduceEntry_dev, Out.dev_next] | split
theorem execChargeSupplyTrip_dev (s : State) (n v isns dur : Nat) : Out.dev s.dev (execChargeSupplyTrip s n v isns dur) = s.dev := by
  simp only [execChargeSupplyTrip, State.chargeTrip_dev, State.setVbank_dev, State.dev_ite, ite_self, Out.dev_next]
theorem execChgGateTrip_dev (s : State) : Out.dev s.dev (execChgGateTrip s) = s.dev := by
  simp only [execChgGateTrip, State.logEvent_dev, State.raise_dev, State.withEmit_dev, Out.dev_next]
@[simp] theorem State.recordLoss_dev (s : State) : (State.recordLoss s).dev = s.dev := by
  simp only [State.recordLoss, State.nvmPush_dev]
@[simp] theorem State.stringDead_dev (s : State) (n e why : Nat) : (State.stringDead s n e why).dev = s.dev := by
  simp only [State.stringDead, State.chgOff_dev, State.logEvent_dev, State.recordLoss_dev, State.scheduleD_dev, State.setF_dev, State.setStr_dev]
@[simp] theorem State.emitterFound_dev (s : State) (e : Nat) : (State.emitterFound s e).dev = s.dev := by
  simp only [State.emitterFound, State.logEvent_dev, State.raise_dev, State.recordLoss_dev, State.rset_dev, State.scheduleD_dev, State.setStr_dev, State.stringDead_dev, State.updateKnee_dev, State.dev_ite, ite_self]
@[simp] theorem State.takeSlot_dev (s : State) (n : Nat) : (State.takeSlot s n).dev = s.dev := by
  simp only [State.takeSlot]
  repeat' first | with_reducible rfl | simp only [State.reduceEntry_dev, State.setStr_dev] | split
@[simp] theorem State.isoPlace_dev (s : State) (n stage bits : Nat) : (State.isoPlace s n stage bits).dev = s.dev := by
  simp only [State.isoPlace, State.scheduleD_dev, State.setStr_dev, State.takeSlot_dev]
@[simp] theorem State.beginString_dev (s : State) (n : Nat) (queue : List PShot) : (State.beginString s n queue).dev = s.dev := by
  simp only [State.beginString]
  repeat' first | with_reducible rfl | simp only [State.isoPlace_dev, State.scheduleD_dev, State.setStr_dev, State.takeSlot_dev] | split
@[simp] theorem State.noVerdict_dev (s : State) (n : Nat) (k : ShotKind) : (State.noVerdict s n k).dev = s.dev := by
  simp only [State.noVerdict]
  repeat' first | with_reducible rfl | simp only [State.isoPlace_dev, State.setStr_dev] | split
theorem execShotMonitorBurst_dev (n : Nat) (s : State) : Out.dev s.dev (execShotMonitorBurst n s) = s.dev := by
  simp only [execShotMonitorBurst]
  repeat' first | with_reducible rfl | simp only [State.adcAdd_dev, State.noVerdict_dev, State.raise_dev, State.setStr_dev, State.withEmit_dev, ite_self, Out.dev_next, Out.dev_ite] | split
@[simp] theorem State.isoVerdict_dev (s : State) (n stage : Nat) (zero : Bool) : (State.isoVerdict s n stage zero).dev = s.dev := by
  simp only [State.isoVerdict]
  repeat' first | with_reducible rfl | simp only [State.emitterFound_dev, State.isoPlace_dev, State.scheduleD_dev, State.setStr_dev, State.stringDead_dev, State.dev_ite, ite_self] | split
@[simp] theorem State.shortCheck_dev (s : State) (n : Nat) (m : MonShot) (ipk : Nat) : (State.shortCheck s n m ipk).dev = s.dev := by
  simp only [State.shortCheck, State.raise_dev, State.setStr_dev, State.stringDead_dev, State.dev_ite, ite_self]
@[simp] theorem State.burstOver_dev (s : State) (n i : Nat) : (State.burstOver s n i).dev = s.dev := by
  simp only [State.burstOver, State.adcDone_dev, State.withEmit_dev]
@[simp] theorem State.verdict_dev (s : State) (n : Nat) (m : MonShot) (codes : List Nat) : (State.verdict s n m codes).dev = s.dev := by
  simp only [State.verdict]
  repeat' first | with_reducible rfl | simp only [State.isoPlace_dev, State.isoVerdict_dev, State.setStr_dev, State.shortCheck_dev, State.dev_ite, ite_self] | split
theorem execShotVerdict_dev (n : Nat) (convs : List Conv) (s : State) : Out.dev s.dev (execShotVerdict n convs s) = s.dev := by
  simp only [execShotVerdict]
  repeat' first | with_reducible rfl | simp only [State.burstOver_dev, State.noVerdict_dev, State.verdict_dev, ite_self, Out.dev_next, Out.dev_ite] | split
theorem execPeriodicProbeDue_dev (n : Nat) (s : State) : Out.dev s.dev (execPeriodicProbeDue n s) = s.dev := by
  simp only [execPeriodicProbeDue, State.scheduleD_dev, State.setStr_dev, State.dev_ite, ite_self, Out.dev_next, Out.dev_ite]
@[simp] theorem State.lostClear_dev (s : State) (key : Word) : (State.lostClear s key).dev = s.dev := by
  simp only [State.lostClear, State.logEvent_dev, State.dev_ite]
  repeat' first | with_reducible rfl | simp only [State.recordLoss_dev, State.rset_dev, State.setF_dev, State.updateKnee_dev] | split | refine (foldl_dev _ (fun s x => ?_) _ _).trans ?_

/-! ## Kiln -/

@[simp] theorem State.decayString_dev (s : State) (dt n : Nat) : (State.decayString s dt n).dev = s.dev := by
  simp only [State.decayString, State.rset_dev, State.updateTj_dev]
@[simp] theorem State.decayStep_dev (s : State) (dt : Nat) : (State.decayStep s dt).dev = s.dev := by
  simp only [State.decayStep]
  repeat' first | with_reducible rfl | simp only [State.decayString_dev] | split | refine (foldl_dev _ (fun s x => ?_) _ _).trans ?_
@[simp] theorem State.decaySteps_dev (d k rest : Nat) (s : State) : (State.decaySteps d k rest s).dev = s.dev := by
  simp only [State.decaySteps, State.decayStep_dev]
  repeat' first | with_reducible rfl | simp only [State.decayStep_dev] | split | refine (foldl_dev _ (fun s x => ?_) _ _).trans ?_
@[simp] theorem State.decayTo_dev (s : State) (t : Nat) : (State.decayTo s t).dev = s.dev := by
  simp only [State.decayTo, State.decaySteps_dev, State.withKiln_dev]
theorem execKilnDecayStep_dev (s : State) : Out.dev s.dev (execKilnDecayStep s) = s.dev := by
  simp only [execKilnDecayStep, State.decayTo_dev, Out.dev_next]
@[simp] theorem State.spend_dev (s : State) (t e : Nat) : (State.spend s t e).dev = s.dev := by
  simp only [State.spend, State.withKiln_dev]
@[simp] theorem State.chargeModels_dev (s : State) (n v t : Nat) : (State.chargeModels s n v t).dev = s.dev := by
  simp only [State.chargeModels, State.rset_dev, State.spend_dev, State.updateTj_dev]
@[simp] theorem State.chargeCells_dev (s : State) (cells : List Nat) (q : Nat) : (State.chargeCells s cells q).dev = s.dev := by
  simp only [State.chargeCells, State.withKiln_dev]
@[simp] theorem State.eyeMismatch_dev (s : State) : (State.eyeMismatch s).dev = s.dev := by
  simp only [State.eyeMismatch, State.raise_dev, State.withKiln_dev]
theorem execEyeSubwindow_dev (s : State) : Out.dev s.dev (execEyeSubwindow s) = s.dev := by
  simp only [execEyeSubwindow, State.withKiln_dev, ite_self, Out.dev_next, Out.dev_ite]
theorem execEyeInitEnd_dev (s : State) : Out.dev s.dev (execEyeInitEnd s) = s.dev := by
  simp only [execEyeInitEnd, State.setB_dev, State.dev_ite, ite_self, Out.dev_next]
@[simp] theorem State.eyeRestart_dev (s : State) : (State.eyeRestart s).dev = s.dev := by
  simp only [State.eyeRestart, State.setB_dev, State.withKiln_dev]

/-! ## Scan -/

@[simp] theorem State.takeRegion_dev (s : State) : (State.takeRegion s).dev = s.dev := by
  simp only [State.takeRegion, State.raiseIf_dev, State.setB_dev, State.withScan_dev]
@[simp] theorem State.skipCount_dev (s : State) : (State.skipCount s).dev = s.dev := by
  simp only [State.skipCount, State.incMod_dev, State.raise_dev]
@[simp] theorem State.sweepBegin_dev (s : State) : (State.sweepBegin s).dev = s.dev := by
  simp only [State.sweepBegin, State.incMod_dev, State.withScan_dev]
@[simp] theorem State.sweepStart_dev (s : State) (t : Nat) : (State.sweepStart s t).dev = s.dev := by
  simp only [State.sweepStart, State.sweepBegin_dev, State.takeRegion_dev, State.withScan_dev, State.dev_ite, ite_self]
@[simp] theorem State.dropNext_dev (s : State) : (State.dropNext s).dev = s.dev := by
  simp only [State.dropNext, State.withScan_dev]
@[simp] theorem State.dropPlanned_dev (s : State) (c : Nat) : (State.dropPlanned s c).dev = s.dev := by
  simp only [State.dropPlanned]
  repeat' first | with_reducible rfl | simp only [State.reduceEntry_dev, State.setStr_dev] | split | refine (foldl_dev _ (fun s x => ?_) _ _).trans ?_
@[simp] theorem State.followInhibit_dev (s : State) : (State.followInhibit s).dev = s.dev := by
  simp only [State.followInhibit, State.dropNext_dev, State.dropPlanned_dev, State.guardInhibit_dev, State.setB_dev, State.dev_ite, ite_self]
@[simp] theorem State.lockModeFollow_dev (s : State) : (State.lockModeFollow s).dev = s.dev := by
  simp only [State.lockModeFollow, State.withScan_dev, State.dev_ite, ite_self]
@[simp] theorem State.lockUpdate_dev (s : State) (ok : Bool) (t : Nat) : (State.lockUpdate s ok t).dev = s.dev := by
  simp only [State.lockUpdate, State.lockModeFollow_dev, State.raise_dev, State.setB_dev, State.withScan_dev, State.dev_ite, ite_self]
@[simp] theorem State.lockInterval_dev (s : State) : (State.lockInterval s).dev = s.dev := by
  simp only [State.lockInterval, State.lockModeFollow_dev, State.setB_dev, State.withScan_dev, State.dev_ite, ite_self]
@[simp] theorem State.stallCheck_dev (s : State) (t : Nat) : (State.stallCheck s t).dev = s.dev := by
  simp only [State.stallCheck, State.dev_ite]
  repeat' first | with_reducible rfl | simp only [State.incSat_dev, State.raise_dev, State.withScan_dev, State.dev_ite, ite_self] | split
@[simp] theorem State.msnsBase_dev (s : State) (v t : Nat) : (State.msnsBase s v t).dev = s.dev := by
  simp only [State.msnsBase, State.followInhibit_dev, State.lockUpdate_dev, State.setB_dev, State.setF_dev, State.stallCheck_dev, State.withScan_dev, State.dev_ite, ite_self]
@[simp] theorem State.strokeEnd_dev (s : State) (t : Nat) : (State.strokeEnd s t).dev = s.dev := by
  simp only [State.strokeEnd, State.followInhibit_dev, State.lockInterval_dev, State.withScan_dev, State.dev_ite, ite_self]
@[simp] theorem State.planUe_dev (s : State) (i : Nat) : (State.planUe s i).dev = s.dev := by
  simp only [State.planUe, State.logEvent_dev, State.raise_dev]
@[simp] theorem State.tPred_dev (s : State) (t : Nat) (rest : List (Nat × Bool)) : (State.tPred s t rest).2.dev = s.dev := by
  simp only [State.tPred, State.dev_ite, apply_ite Prod.snd]
  repeat' first | with_reducible rfl | simp only [State.fresh_dev, ite_self, apply_ite Prod.snd] | split
@[simp] theorem State.grantFor_dev (s : State) (az : Nat) (rest : List (Nat × Bool)) (t now : Nat) (bad : List Nat) : (State.grantFor s az rest t now bad).dev = s.dev := by
  simp only [State.grantFor]
  repeat' first | with_reducible rfl | simp only [State.comingDemand_dev, State.decayTo_dev, State.demandTarget_dev, State.planUe_dev, State.raiseIf_dev, State.tPred_dev, State.withKiln_dev, State.withScan_dev, State.dev_ite, ite_self] | split | refine (foldl_dev _ (fun s x => ?_) _ _).trans ?_
@[simp] theorem State.grantDue_dev (s : State) (now : Nat) (bad : List Nat) : (State.grantDue s now bad).dev = s.dev := by
  simp only [State.grantDue, State.grantFor_dev, State.dev_ite, ite_self]
  repeat' first | with_reducible rfl | simp only [State.grantFor_dev, State.dev_ite, ite_self] | split
@[simp] theorem State.rearm_dev (s : State) (t : Nat) (bad : List Nat) : (State.rearm s t bad).dev = s.dev := by
  simp only [State.rearm, State.grantDue_dev, State.withScan_dev, State.dev_ite, ite_self]
theorem execEmissionLimitDecide_dev (n : Nat) (mismatch : Bool) (s : State) : Out.dev s.dev (execEmissionLimitDecide n mismatch s) = s.dev := by
  simp only [execEmissionLimitDecide]
  repeat' first | with_reducible rfl | simp only [State.eyeMismatch_dev, State.incSat_dev, State.modNext_dev, State.raise_dev, State.withScan_dev, State.dev_ite, ite_self, Out.dev_next, Out.dev_ite] | split

/-! ## Ctl -/

@[simp] theorem State.ctlApply_dev (s : State) : (State.ctlApply s).dev = s.dev := by
  simp only [State.ctlApply, State.withCtl_dev]
@[simp] theorem State.stick_dev (s : State) (F : Fld) (flags : Nat) (c : Cause) : (State.stick s F flags c).dev = s.dev := by
  simp only [State.stick, State.countCause_dev, State.setF_dev, State.dev_ite, ite_self]
@[simp] theorem State.vspadFollow_dev (s : State) : (State.vspadFollow s).dev = s.dev := by
  simp only [State.vspadFollow, State.setF_dev, State.dev_ite, ite_self]
@[simp] theorem State.drive_dev (s : State) (n v : Nat) : (State.drive s n v).dev = s.dev := by
  simp only [State.drive]
  repeat' first | with_reducible rfl | simp only [State.withCtl_dev] | split
@[simp] theorem State.loopRun_dev (s : State) (n : Nat) : (State.loopRun s n).dev = s.dev := by
  simp only [State.loopRun, State.drive_dev, State.setF_dev, State.withCtl_dev, State.dev_ite, ite_self]
@[simp] theorem State.loopEval_dev (s : State) (n : Nat) : (State.loopEval s n).dev = s.dev := by
  simp only [State.loopEval, State.drive_dev, State.setF_dev, State.setFs_dev, State.stick_dev]
@[simp] theorem State.loopTick_dev (s : State) (n : Nat) : (State.loopTick s n).dev = s.dev := by
  simp only [State.loopTick, State.loopEval_dev, State.loopRun_dev, State.withCtl_dev, State.dev_ite, ite_self]
@[simp] theorem State.mirrorLoop_dev (s : State) : (State.mirrorLoop s).dev = s.dev := by
  simp only [State.mirrorLoop, State.loopEval_dev, State.loopRun_dev, State.dev_ite, ite_self]
@[simp] theorem State.setDac_dev (s : State) (n win out : Nat) : (State.setDac s n win out).dev = s.dev := by
  simp only [State.setDac, State.setF_dev, State.setVbank_dev]
@[simp] theorem State.groupRun_dev (s : State) (n : Nat) : (State.groupRun s n).dev = s.dev := by
  simp only [State.groupRun, State.setF_dev, State.setVbank_dev, State.withCtl_dev, State.dev_ite, ite_self]
  repeat' first | with_reducible rfl | simp only [State.setF_dev] | split | refine (foldl_dev _ (fun s x => ?_) _ _).trans ?_
@[simp] theorem State.groupEval_dev (s : State) (n : Nat) : (State.groupEval s n).dev = s.dev := by
  simp only [State.groupEval, State.setDac_dev, State.dev_ite]
  repeat' first | with_reducible rfl | simp only [State.setF_dev, State.setFs_dev, State.stick_dev] | split | refine (foldl_dev _ (fun s x => ?_) _ _).trans ?_
theorem execChargeGroupEvaluate_dev (n : Nat) (s : State) : Out.dev s.dev (execChargeGroupEvaluate n s) = s.dev := by
  simp only [execChargeGroupEvaluate, State.groupEval_dev, State.groupRun_dev, Out.dev_next]
@[simp] theorem State.eyeTargets_dev (s : State) (g : Grant) (azNext : Option Nat) : (State.eyeTargets s g azNext).dev = s.dev := by
  simp only [State.eyeTargets]
  repeat' first | with_reducible rfl | simp only [State.setF_dev] | split | refine (foldl_dev _ (fun s x => ?_) _ _).trans ?_
@[simp] theorem State.biasSet_dev (s : State) : (State.biasSet s).dev = s.dev := by
  simp only [State.biasSet, State.setB_dev, State.setF_dev, State.setFs_dev]
@[simp] theorem State.biasOk_dev (s : State) : (State.biasOk s).dev = s.dev := by
  simp only [State.biasOk, State.raiseIf_dev, State.setB_dev]
theorem execVspadOvervoltage_dev (s : State) (above : Bool) : Out.dev s.dev (execVspadOvervoltage s above) = s.dev := by
  simp only [execVspadOvervoltage, State.withCtl_dev, Out.dev_next]
@[simp] theorem State.mexcCheck_dev (s : State) (i : Nat) (limit : Bool) : (State.mexcCheck s i limit).dev = s.dev := by
  simp only [State.mexcCheck, State.followInhibit_dev, State.raiseIf_dev, State.setB_dev, State.withCtl_dev, State.withScan_dev, State.dev_ite, ite_self]
@[simp] theorem State.powerMon_dev (s : State) (vin pin : Nat) : (State.powerMon s vin pin).dev = s.dev := by
  simp only [State.powerMon, State.setF_dev, State.withCtl_dev, State.dev_ite, ite_self]
theorem execCtlTick_dev (vspad mexc : Nat) (limit : Bool) (vin pin : Nat) (s : State) : Out.dev s.dev (execCtlTick vspad mexc limit vin pin s) = s.dev := by
  simp only [execCtlTick, Out.dev_next, Out.dev_ite]
  repeat' first | with_reducible rfl | simp only [State.adcMsns_dev, State.adcTick_dev, State.biasOk_dev, State.biasSet_dev, State.groupEval_dev, State.groupRun_dev, State.loopTick_dev, State.mexcCheck_dev, State.powerMon_dev, State.setF_dev, State.vspadFollow_dev, State.withCtl_dev, State.dev_ite, ite_self] | split | refine (foldl_dev _ (fun s x => ?_) _ _).trans ?_
theorem execCtlCommit_dev (s : State) : Out.dev s.dev (execCtlCommit s) = s.dev := by
  simp only [execCtlCommit, State.ctlApply_dev, Out.dev_next]

/-! ## Analog -/

@[simp] theorem State.reqGo_dev (s : State) (n : Nat) : (State.reqGo s n).dev = s.dev := by
  simp only [State.reqGo, State.adcDue_dev, State.dev_ite, ite_self]
theorem execAdc0ReqGo_dev (n : Nat) (s : State) : Out.dev s.dev (execAdc0ReqGo n s) = s.dev := by
  simp only [execAdc0ReqGo, State.reqGo_dev, State.dev_ite, ite_self, Out.dev_next]
@[simp] theorem State.reqUsed_dev (s : State) (n t : Nat) : (State.reqUsed s n t).dev = s.dev := by
  simp only [State.reqUsed, State.withAdc_dev, State.dev_ite, ite_self]
theorem execAdc0ReqTrigger_dev (n t : Nat) (s : State) : Out.dev s.dev (execAdc0ReqTrigger n t s) = s.dev := by
  simp only [execAdc0ReqTrigger, Out.dev_next, Out.dev_ite]
  repeat' first | with_reducible rfl | simp only [State.adcAdd_dev, State.adcStamp_dev, State.raise_dev, State.reqUsed_dev, State.rset_dev, State.withAdc_dev, ite_self, Out.dev_next, Out.dev_ite] | split
theorem State.storeBurst_dev (s : State) (n i : Nat) (l : List (BitVec 16)) : (s.storeBurst n i l).dev = s.dev := by
  induction l generalizing s i with
  | nil => rfl
  | cons w l ih => simp only [State.storeBurst, ih, State.setF_dev]
theorem execAdc0BurstDone_dev (n : Nat) (convs : List Conv) (s : State) : Out.dev s.dev (execAdc0BurstDone n convs s) = s.dev := by
  simp only [execAdc0BurstDone]
  repeat' first | with_reducible rfl | simp only [State.adcDone_dev, State.rset_dev, State.withAdcLast_dev, State.storeBurst_dev, Out.dev_next, Out.dev_ite] | split
@[simp] theorem State.background_dev (s : State) (t : Nat) (c : Conv) : (State.background s t c).dev = s.dev := by
  simp only [State.background, State.setF_dev, State.withAdc_dev, State.withAdcLast_dev]
@[simp] theorem State.firCommit_dev (s : State) : (State.firCommit s).dev = s.dev := by
  simp only [State.firCommit, State.withAdc_dev]
@[simp] theorem State.adcFirWritten_dev (s : State) (v : Word) : (State.adcFirWritten s v).dev = s.dev := by
  simp only [State.adcFirWritten, State.firCommit_dev, State.withAdc_dev, State.dev_ite, ite_self]
theorem execAdc0FirCommit_dev (s : State) : Out.dev s.dev (execAdc0FirCommit s) = s.dev := by
  simp only [execAdc0FirCommit, State.firCommit_dev, Out.dev_next]
@[simp] theorem State.adcEvent_dev (s : State) (t : Nat) (rise : Bool) : (State.adcEvent s t rise).dev = s.dev := by
  simp only [State.adcEvent, State.raise_dev, State.withAdc_dev, State.dev_ite, ite_self]
@[simp] theorem State.adcCompare_dev (s : State) (t : Nat) (y : Int) : (State.adcCompare s t y).dev = s.dev := by
  simp only [State.adcCompare]
  repeat' first | with_reducible rfl | simp only [State.adcEvent_dev, State.withAdc_dev, State.dev_ite, ite_self] | split
@[simp] theorem State.firOut_dev (s : State) (t : Nat) : (State.firOut s t).dev = s.dev := by
  simp only [State.firOut, State.adcCompare_dev, State.setB_dev, State.setFs_dev, State.withAdc_dev, State.dev_ite, ite_self]
@[simp] theorem State.firStep_dev (s : State) (t : Nat) : (State.firStep s t).dev = s.dev := by
  simp only [State.firStep, State.firOut_dev, State.withAdc_dev, State.dev_ite, ite_self]
theorem execFirOutput_dev (t : Nat) (s : State) (convs : List Conv) : Out.dev s.dev (execFirOutput t s convs) = s.dev := by
  simp only [execFirOutput, Out.dev_next, Out.dev_ite]
  repeat' first | with_reducible rfl | simp only [State.background_dev, State.firStep_dev] | split | refine (foldl_dev _ (fun s x => ?_) _ _).trans ?_
theorem execAdc0EvhiRead_dev (s : State) : Out.dev s.dev (execAdc0EvhiRead s) = s.dev := by
  simp only [execAdc0EvhiRead, State.withAdc_dev, Out.dev_next]
@[simp] theorem State.afeValue_dev (s : State) (m : Nat) (x : AfeRaw) (r : Option Int) : (State.afeValue s m x r).2.dev = s.dev := by
  unfold State.afeValue
  repeat' first | with_reducible rfl | simp only [State.fresh_dev, State.dev_ite, ite_self, apply_ite Prod.snd] | split
@[simp] theorem State.chgUpdate_dev (s : State) : (State.chgUpdate s).dev = s.dev := by
  simp only [State.chgUpdate, State.setF_dev, State.withEmit_dev, State.withTherm_dev, State.dev_ite, ite_self]
@[simp] theorem State.boardUpdate_dev (s : State) : (State.boardUpdate s).dev = s.dev := by
  simp only [State.boardUpdate]
  repeat' first | with_reducible rfl | simp only [State.chgUpdate_dev, State.updateTj_dev] | split | refine (foldl_dev _ (fun s x => ?_) _ _).trans ?_
@[simp] theorem State.afeLead_dev (s : State) (m : Nat) (rl : Option Nat) : (State.afeLead s m rl).dev = s.dev := by
  simp only [State.afeLead]
  repeat' first | with_reducible rfl | simp only [State.setF_dev] | split
@[simp] theorem State.afeStore_dev (s : State) (m : Nat) (v : Int) (cl : Bool) : (State.afeStore s m v cl).dev = s.dev := by
  simp only [State.afeStore, State.raiseIf_dev, State.setB_dev, State.setFs_dev]
theorem execAfeConversionDone_dev (m : Nat) (x : AfeRaw) (s : State) : Out.dev s.dev (execAfeConversionDone m x s) = s.dev := by
  simp only [execAfeConversionDone, State.afeLead_dev, State.afeStore_dev, State.afeValue_dev, State.boardUpdate_dev, State.raise_dev, State.raiseIf_dev, State.setB_dev, State.withAfePos_dev, ite_self, Out.dev_next, Out.dev_ite]
@[simp] theorem State.markSuspect_dev (s : State) (raw : Nat → Int) (k : Nat) : (State.markSuspect s raw k).dev = s.dev := by
  simp only [State.markSuspect, State.raise_dev, State.setF_dev, State.withTherm_dev, State.dev_ite, ite_self]
@[simp] theorem State.judgeShutdown_dev (s : State) (i : Nat) : (State.judgeShutdown s i).dev = s.dev := by
  simp only [State.judgeShutdown, State.incSat_dev, State.logEvent_dev, State.raise_dev, State.withTherm_dev, State.dev_ite, ite_self]
@[simp] theorem State.judgeGroup_dev (s : State) (g : Nat) : (State.judgeGroup s g).dev = s.dev := by
  simp only [State.judgeGroup, State.raiseIf_dev, State.withTherm_dev]
@[simp] theorem State.thermStat_dev (s : State) : (State.thermStat s).dev = s.dev := by
  simp only [State.thermStat, State.setB_dev, State.setF_dev]
@[simp] theorem State.thermRaw_dev (s : State) (readings : List (BitVec 16)) : (State.thermRaw s readings).dev = s.dev := by
  simp only [State.thermRaw]
  repeat' first | with_reducible rfl | simp only [State.setF_dev] | split | refine (foldl_dev _ (fun s x => ?_) _ _).trans ?_
@[simp] theorem State.thermMark_dev (s : State) (r : Nat → Int) : (State.thermMark s r).dev = s.dev := by
  simp only [State.thermMark]
  repeat' first | with_reducible rfl | simp only [State.markSuspect_dev] | split | refine (foldl_dev _ (fun s x => ?_) _ _).trans ?_
@[simp] theorem State.thermUsed_dev (s : State) (r : Nat → Int) (susp : Nat → Bool) : (State.thermUsed s r susp).dev = s.dev := by
  simp only [State.thermUsed]
  repeat' first | with_reducible rfl | simp only [State.setFs_dev] | split | refine (foldl_dev _ (fun s x => ?_) _ _).trans ?_
@[simp] theorem State.thermExternal_dev (s : State) (i : Nat) : (State.thermExternal s i).dev = s.dev := by
  simp only [State.thermExternal, State.setFs_dev, State.dev_ite, ite_self]
@[simp] theorem State.thermJudge_dev (s : State) : (State.thermJudge s).dev = s.dev := by
  simp only [State.thermJudge]
  repeat' first | with_reducible rfl | simp only [State.judgeGroup_dev, State.judgeShutdown_dev] | split | refine (foldl_dev _ (fun s x => ?_) _ _).trans ?_
theorem execThermScan_dev (readings : List (BitVec 16)) (s : State) : Out.dev s.dev (execThermScan readings s) = s.dev := by
  simp only [execThermScan, State.biasSet_dev, State.boardUpdate_dev, State.nvmKick_dev, State.thermJudge_dev, State.thermStat_dev, Out.dev_next]
  repeat' first | with_reducible rfl | simp only [State.thermExternal_dev, State.thermMark_dev, State.thermRaw_dev, State.thermUsed_dev] | split | refine (foldl_dev _ (fun s x => ?_) _ _).trans ?_
theorem execDieHardTrip_dev (s : State) : Out.dev s.dev (execDieHardTrip s) = s.dev := by
  simp only [execDieHardTrip, State.logEvent_dev, State.raise_dev, State.raiseReset_dev, State.setB_dev, State.withEmit_dev, Out.dev_next]
theorem execDieHardTripClear_dev (s : State) : Out.dev s.dev (execDieHardTripClear s) = s.dev := by
  simp only [execDieHardTripClear, State.setB_dev, Out.dev_next]

/-! ## Rx -/

@[simp] theorem State.rejectMap_dev (s : State) (c : Nat) : (State.rejectMap s c).dev = s.dev := by
  simp only [State.rejectMap, State.incSat_dev, State.raise_dev, State.setB_dev]
@[simp] theorem State.activateMap_dev (s : State) (c : Nat) (map : List Nat) (dnl : Nat) : (State.activateMap s c map dnl).dev = s.dev := by
  simp only [State.activateMap, State.setB_dev, State.setChan_dev, State.setF_dev, State.dev_ite, ite_self]
@[simp] theorem State.startBootRun_dev (s : State) : (State.startBootRun s).dev = s.dev := by
  simp only [State.startBootRun, State.setB_dev, State.withMash_dev, State.withScan_dev]
@[simp] theorem State.bootMap_dev (s : State) (c : Nat) (h : List Nat) : (State.bootMap s c h).dev = s.dev := by
  simp only [State.bootMap, State.activateMap_dev, State.incMod_dev, State.rejectMap_dev, State.setB_dev, State.setChan_dev, State.dev_ite, ite_self]
@[simp] theorem State.calRun_dev (s : State) : (State.calRun s).dev = s.dev := by
  simp only [State.calRun, State.startBootRun_dev, State.dev_ite, ite_self]
@[simp] theorem State.bootRunEnd_dev (s : State) (hits : List (Nat × List Nat)) : (State.bootRunEnd s hits).dev = s.dev := by
  simp only [State.bootRunEnd, State.setB_dev, State.withMash_dev, State.withScan_dev]
  repeat' first | with_reducible rfl | simp only [State.bootMap_dev, State.setF_dev] | split | refine (foldl_dev _ (fun s x => ?_) _ _).trans ?_
theorem execBgcalMapStaged_dev (c t : Nat) (s : State) : Out.dev s.dev (execBgcalMapStaged c t s) = s.dev := by
  simp only [execBgcalMapStaged, State.rejectMap_dev, State.setB_dev, State.setChan_dev, ite_self, Out.dev_next, Out.dev_ite]
@[simp] theorem State.bgHit_dev (s : State) (c tap : Nat) : (State.bgHit s c tap).dev = s.dev := by
  simp only [State.bgHit, State.setChan_dev, State.dev_ite, ite_self]
@[simp] theorem State.flybackInject_dev (s : State) (t : Nat) : (State.flybackInject s t).dev = s.dev := by
  simp only [State.flybackInject, State.withMash_dev, State.withScan_dev, State.dev_ite, ite_self]
@[simp] theorem State.showAmb_dev (s : State) (c : Nat) (a : Amb) : (State.showAmb s c a).dev = s.dev := by
  simp only [State.showAmb, State.setB_dev, State.setF_dev]
@[simp] theorem State.markStale_dev (s : State) (k : Nat) : (State.markStale s k).dev = s.dev := by
  simp only [State.markStale]
  repeat' first | with_reducible rfl | simp only [State.raise_dev, State.showAmb_dev] | split | refine (foldl_dev _ (fun s x => ?_) _ _).trans ?_
theorem execAmbientGateOpen_dev (c : Nat) (s : State) : Out.dev s.dev (execAmbientGateOpen c s) = s.dev := by
  simp only [execAmbientGateOpen, State.setChan_dev, ite_self, Out.dev_next, Out.dev_ite]
theorem execAmbientGateMidpoint_dev (c : Nat) (s : State) : Out.dev s.dev (execAmbientGateMidpoint c s) = s.dev := by
  simp only [execAmbientGateMidpoint]
  repeat' first | with_reducible rfl | simp only [State.setChan_dev, State.dev_ite, ite_self, Out.dev_next] | split
theorem execAmbientGateClose_dev (c : Nat) (s : State) : Out.dev s.dev (execAmbientGateClose c s) = s.dev := by
  simp only [execAmbientGateClose]
  repeat' first | with_reducible rfl | simp only [State.setChan_dev, State.showAmb_dev, Out.dev_next] | split
@[simp] theorem State.modAcc_dev (s : State) (k : Nat) (g : ColAcc → ColAcc) : (State.modAcc s k g).dev = s.dev := by
  simp only [State.modAcc, State.setCluster_dev]
@[simp] theorem State.windowGone_dev (s : State) (k : Nat) (w : Win) (t : Nat) (cut : Bool) : (State.windowGone s k w t cut).dev = s.dev := by
  simp only [State.windowGone, State.modAcc_dev, State.dev_ite, ite_self]
@[simp] theorem State.closeExpired_dev (s : State) (k t : Nat) : (State.closeExpired s k t).dev = s.dev := by
  simp only [State.closeExpired]
  repeat' first | with_reducible rfl | simp only [State.setCluster_dev, State.windowGone_dev] | split | refine (foldl_dev _ (fun s x => ?_) _ _).trans ?_
theorem execWindowClose_dev (k t : Nat) (s : State) : Out.dev s.dev (execWindowClose k t s) = s.dev := by
  simp only [execWindowClose, State.closeExpired_dev, Out.dev_next]
@[simp] theorem State.openWindow_dev (s : State) (k t wint : Nat) : (State.openWindow s k t wint).dev = s.dev := by
  simp only [State.openWindow, State.modAcc_dev, State.setCluster_dev]
  repeat' first | with_reducible rfl | simp only [State.closeExpired_dev, State.raise_dev, State.setCluster_dev, State.windowGone_dev] | split
@[simp] theorem State.setLevel_dev (s : State) (k n t : Nat) : (State.setLevel s k n t).dev = s.dev := by
  simp only [State.setLevel, State.setCluster_dev, State.setF_dev]
@[simp] theorem State.thinRise_dev (s : State) (k t : Nat) : (State.thinRise s k t).dev = s.dev := by
  simp only [State.thinRise, State.raiseIf_dev, State.setCluster_dev, State.setLevel_dev, State.dev_ite, ite_self]
theorem execThinLevelFall_dev (k t : Nat) (s : State) : Out.dev s.dev (execThinLevelFall k t s) = s.dev := by
  simp only [execThinLevelFall, State.setLevel_dev, State.thinRise_dev, ite_self, Out.dev_next, Out.dev_ite]
@[simp] theorem State.markLoss_dev (s : State) (c : Nat) (old : Bool) : (State.markLoss s c old).dev = s.dev := by
  simp only [State.markLoss, State.raise_dev, State.setChan_dev]
@[simp] theorem State.enqueue_dev (s : State) (c t fine : Nat) (w : Win) (ws : List Win) : (State.enqueue s c t fine w ws).dev = s.dev := by
  simp only [State.enqueue, State.incSat_dev, State.markLoss_dev, State.raise_dev, State.raiseIf_dev, State.setChan_dev, State.thinRise_dev, State.dev_ite, ite_self]
@[simp] theorem State.calHit_dev (s : State) (c ps tap : Nat) : (State.calHit s c ps tap).dev = s.dev := by
  simp only [State.calHit, State.bgHit_dev, State.setChan_dev, State.dev_ite, ite_self]
@[simp] theorem State.coincidence_dev (s : State) (c : Nat) (q : CoSet) : (State.coincidence s c q).dev = s.dev := by
  simp only [State.coincidence, State.dev_ite]
  repeat' first | with_reducible rfl | simp only [State.enqueue_dev, State.incSat_dev, State.setChan_dev, State.dev_ite, ite_self] | split
@[simp] theorem State.joinSet_dev (s : State) (c k i ps tap : Nat) : (State.joinSet s c k i ps tap).dev = s.dev := by
  simp only [State.joinSet, State.coincidence_dev, State.setChan_dev, State.dev_ite, ite_self]
@[simp] theorem State.avalanche_dev (s : State) (c : Nat) (a : Nat × Nat × Nat) : (State.avalanche s c a).dev = s.dev := by
  simp only [State.avalanche, State.dev_ite]
  repeat' first | with_reducible rfl | simp only [State.calHit_dev, State.joinSet_dev, State.setChan_dev, State.dev_ite, ite_self] | split
theorem execRxEvent_dev (c i ps tap : Nat) (s : State) (avs : List (Nat × Nat × Nat)) : Out.dev s.dev (execRxEvent c i ps tap s avs) = s.dev := by
  simp only [execRxEvent, Out.dev_next]
  repeat' first | with_reducible rfl | simp only [State.avalanche_dev] | split | refine (foldl_dev _ (fun s x => ?_) _ _).trans ?_
@[simp] theorem State.capArm_dev (s : State) : (State.capArm s).dev = s.dev := by
  simp only [State.capArm, State.setF_dev, State.withMash_dev]
@[simp] theorem State.capture_dev (s : State) (c : Nat) (w : Word) : (State.capture s c w).dev = s.dev := by
  simp only [State.capture, State.rset_dev, State.setF_dev, State.withMash_dev, State.dev_ite, ite_self]

/-! ## Mash -/

@[simp] theorem State.modChAcc_dev (s : State) (c : Nat) (old : Bool) (g : ChAcc → ChAcc) : (State.modChAcc s c old g).dev = s.dev := by
  simp only [State.modChAcc, State.setChan_dev]
@[simp] theorem State.binError_dev (s : State) (n c : Nat) (old ue : Bool) : (State.binError s n c old ue).dev = s.dev := by
  simp only [State.binError, State.incSat_dev, State.logEvent_dev, State.modChAcc_dev, State.raise_dev, State.setB_dev, State.setBin_dev, State.setF_dev, State.dev_ite, ite_self]
@[simp] theorem State.binUpdate_dev (s : State) (c b w t : Nat) (old : Bool) : (State.binUpdate s c b w t old).dev = s.dev := by
  simp only [State.binUpdate, State.incSat_dev, State.markLoss_dev, State.modChAcc_dev, State.raise_dev, State.raiseIf_dev, State.setBin_dev, State.dev_ite]
  repeat' first | with_reducible rfl | simp only [State.setCluster_dev, State.dev_ite, ite_self] | split
@[simp] theorem State.binUpdateErr_dev (s : State) (c b w t : Nat) (old : Bool) (err : Nat) : (State.binUpdateErr s c b w t old err).dev = s.dev := by
  simp only [State.binUpdateErr, State.binError_dev, State.binUpdate_dev, State.dev_ite, ite_self]
@[simp] theorem State.binEvent_dev (s : State) (c : Nat) (e : FifoE) (w t : Nat) (old : Bool) (errs : List Nat) : (State.binEvent s c e w t old errs).dev = s.dev := by
  simp only [State.binEvent]
  repeat' first | with_reducible rfl | simp only [State.binUpdateErr_dev, State.modChAcc_dev] | split | refine (foldl_dev _ (fun s x => ?_) _ _).trans ?_
theorem execMashDrain_dev (k t : Nat) (par : Bool) (s : State) (errs : List Nat) : Out.dev s.dev (execMashDrain k t par s errs) = s.dev := by
  simp only [execMashDrain]
  repeat' first | with_reducible rfl | simp only [State.binEvent_dev, State.capture_dev, State.incSat_dev, State.markLoss_dev, State.modChAcc_dev, State.raise_dev, State.setChan_dev, State.setCluster_dev, State.thinRise_dev, State.dev_ite, ite_self, Out.dev_next, Out.dev_ite] | split
theorem execZoomPlace_dev (k : Nat) (s : State) : Out.dev s.dev (execZoomPlace k s) = s.dev := by
  simp only [execZoomPlace]
  repeat' first | with_reducible rfl | simp only [State.modChAcc_dev, State.setCluster_dev, Out.dev_next] | split | refine (foldl_dev _ (fun s x => ?_) _ _).trans ?_
@[simp] theorem State.switchMaps_dev (s : State) (t : Nat) : (State.switchMaps s t).dev = s.dev := by
  simp only [State.switchMaps]
  repeat' first | with_reducible rfl | simp only [State.activateMap_dev, State.incMod_dev, State.setChan_dev, State.dev_ite, ite_self] | split | refine (foldl_dev _ (fun s x => ?_) _ _).trans ?_
@[simp] theorem State.markMaps_dev (s : State) : (State.markMaps s).dev = s.dev := by
  simp only [State.markMaps]
  repeat' first | with_reducible rfl | simp only [State.setChan_dev, State.dev_ite, ite_self] | split | refine (foldl_dev _ (fun s x => ?_) _ _).trans ?_
@[simp] theorem State.closeAmb_dev (s : State) : (State.closeAmb s).dev = s.dev := by
  simp only [State.closeAmb]
  repeat' first | with_reducible rfl | simp only [State.modChAcc_dev] | split | refine (foldl_dev _ (fun s x => ?_) _ _).trans ?_
@[simp] theorem State.doSwap_dev (s : State) (t : Nat) : (State.doSwap s t).dev = s.dev := by
  simp only [State.doSwap]
  repeat' first | with_reducible rfl | simp only [State.markMaps_dev, State.markStale_dev, State.setB_dev, State.setF_dev, State.switchMaps_dev, State.withChans_dev, State.withClus_dev, State.withMash_dev, State.dev_ite, ite_self] | split | refine (foldl_dev _ (fun s x => ?_) _ _).trans ?_
@[simp] theorem State.mashTrigger_dev (s : State) (t : Nat) (g : Grant) : (State.mashTrigger s t g).dev = s.dev := by
  simp only [State.mashTrigger, State.doSwap_dev, State.withMash_dev, State.dev_ite, ite_self]
  repeat' first | with_reducible rfl | simp only [State.closeExpired_dev, State.setCluster_dev, State.dev_ite, ite_self] | split | refine (foldl_dev _ (fun s x => ?_) _ _).trans ?_
@[simp] theorem State.spargeEnd_dev (s : State) (t : Nat) : (State.spargeEnd s t).dev = s.dev := by
  simp only [State.spargeEnd, State.doSwap_dev, State.withMash_dev, State.withTun_dev, State.dev_ite, ite_self]
@[simp] theorem State.snapshot_dev (s : State) (c : Nat) (h : Hist) : (State.snapshot s c h).dev = s.dev := by
  simp only [State.snapshot, State.raise_dev, State.setB_dev, State.dev_ite]
  repeat' first | with_reducible rfl | simp only [State.rset_dev] | split | refine (foldl_dev _ (fun s x => ?_) _ _).trans ?_
@[simp] theorem State.passHist_dev (s : State) (c : Nat) (h : Hist) : (State.passHist s c h).dev = s.dev := by
  simp only [State.passHist, State.snapshot_dev, State.withHists_dev]
  repeat' first | with_reducible rfl | simp only [State.rset_dev] | split | refine (foldl_dev _ (fun s x => ?_) _ _).trans ?_
@[simp] theorem State.spargeClear_dev (s : State) (c : Nat) (errs : List (Nat × Bool)) : (State.spargeClear s c errs).dev = s.dev := by
  simp only [State.spargeClear, State.modChAcc_dev, State.withTun_dev]
  repeat' first | with_reducible rfl | simp only [State.binError_dev] | split | refine (foldl_dev _ (fun s x => ?_) _ _).trans ?_
@[simp] theorem State.spargeHist_dev (s : State) (c : Nat) (errs : List (Nat × Bool)) : (State.spargeHist s c errs).1.dev = s.dev := by
  simp only [State.spargeHist, State.passHist_dev, State.spargeClear_dev, State.dev_ite, ite_self, apply_ite Prod.fst]
@[simp] theorem State.snapArm_dev (s : State) : (State.snapArm s).dev = s.dev := by
  simp only [State.snapArm, State.setB_dev, State.withMash_dev]
@[simp] theorem State.tunClear_dev (s : State) : (State.tunClear s).dev = s.dev := by
  simp only [State.tunClear, State.setB_dev, State.setF_dev, State.withChans_dev]
  repeat' first | with_reducible rfl | simp only [State.setCluster_dev, State.setF_dev, State.withHists_dev, State.withMash_dev, State.withTun_dev] | split | refine (foldl_dev _ (fun s x => ?_) _ _).trans ?_
@[simp] theorem State.mashInvalid_dev (s : State) : (State.mashInvalid s).dev = s.dev := by
  simp only [State.mashInvalid, State.withClus_dev]

/-! ## Lauter -/

@[simp] theorem State.modLau_dev (s : State) (m : Nat) (g : LauCol → LauCol) : (State.modLau s m g).dev = s.dev := by
  simp only [State.modLau, State.withLau_dev]
@[simp] theorem State.hzdAssert_dev (s : State) : (State.hzdAssert s).dev = s.dev := by
  simp only [State.hzdAssert, State.raiseIf_dev, State.setB_dev]
@[simp] theorem State.lauOutcome_dev (s : State) (m : Nat) (o : FieldOut) (eff : SMap Word) : (State.lauOutcome s m o eff).dev = s.dev := by
  simp only [State.lauOutcome, State.hzdAssert_dev, State.modLau_dev, State.withLau_dev, State.dev_ite, ite_self]
@[simp] theorem State.lauExtract_dev (s : State) (c : Nat) : (State.lauExtract s c).1.dev = s.dev := by
  simp only [State.lauExtract, State.incSat_dev, State.lauOutcome_dev, State.raise_dev, State.raiseIf_dev, State.withHists_dev, State.withLau_dev, State.dev_ite, ite_self]
@[simp] theorem State.lauLatch_dev (s : State) (col : LauCol) (fue : List Nat) : (State.lauLatch s col fue).dev = s.dev := by
  simp only [State.lauLatch, State.withLau_dev]
  repeat' first | with_reducible rfl | simp only [State.logEvent_dev, State.raise_dev] | split | refine (foldl_dev _ (fun s x => ?_) _ _).trans ?_
@[simp] theorem State.lauSummary_dev (s : State) (m : Nat) : (State.lauSummary s m).dev = s.dev := by
  simp only [State.lauSummary, State.modLau_dev, State.setB_dev, State.setF_dev, State.withLau_dev, State.dev_ite, ite_self]

/-! ## Tin -/

@[simp] theorem State.tinPush_dev (s : State) (n : Nat) (stream : Bool) (w0 w1 : Nat) : (State.tinPush s n stream w0 w1).dev = s.dev := by
  simp only [State.tinPush, State.incSat_dev, State.raise_dev, State.setTin_dev, State.dev_ite, ite_self]
@[simp] theorem State.tinStop_dev (s : State) (n : Nat) (b : TinStamp) : (State.tinStop s n b).dev = s.dev := by
  simp only [State.tinStop]
  repeat' first | with_reducible rfl | simp only [State.raiseIf_dev, State.setTin_dev, State.tinPush_dev, State.dev_ite, ite_self] | split
theorem execTinEdge_dev (m : Nat) (rising : Bool) (tap : Nat) (s : State) : Out.dev s.dev (execTinEdge m rising tap s) = s.dev := by
  simp only [execTinEdge, State.incSat_dev, State.raise_dev, State.setTin_dev, State.tinPush_dev, ite_self, Out.dev_next, Out.dev_ite]
  repeat' first | with_reducible rfl | simp only [State.setTin_dev, State.tinStop_dev] | split | refine (foldl_dev _ (fun s x => ?_) _ _).trans ?_
@[simp] theorem State.tinCal_dev (s : State) (n : Nat) (h : List Nat) : (State.tinCal s n h).dev = s.dev := by
  simp only [State.tinCal, State.setF_dev, State.setTin_dev]
theorem execTinInterpCal_dev (n : Nat) (h : List Nat) (s : State) : Out.dev s.dev (execTinInterpCal n h s) = s.dev := by
  simp only [execTinInterpCal, State.tinCal_dev, State.dev_ite, ite_self, Out.dev_next]
@[simp] theorem State.tinPop_dev (s : State) (n : Nat) : (State.tinPop s n).dev = s.dev := by
  simp only [State.tinPop, State.setTin_dev]
theorem execTinQhiRead_dev (n : Nat) (s : State) : Out.dev s.dev (execTinQhiRead n s) = s.dev := by
  simp only [execTinQhiRead, State.tinPop_dev, State.dev_ite, ite_self, Out.dev_next]
@[simp] theorem State.tinCfgWrite_dev (s : State) (n : Nat) (v : Word) : (State.tinCfgWrite s n v).dev = s.dev := by
  simp only [State.tinCfgWrite, State.rset_dev]
@[simp] theorem State.tinTake_dev (s : State) (n : Nat) : (State.tinTake s n).dev = s.dev := by
  simp only [State.tinTake, State.setTin_dev, State.dev_ite, ite_self]
@[simp] theorem State.tinFollow_dev (s : State) : (State.tinFollow s).dev = s.dev := by
  simp only [State.tinFollow]
  repeat' first | with_reducible rfl | simp only [State.tinTake_dev] | split | refine (foldl_dev _ (fun s x => ?_) _ _).trans ?_
@[simp] theorem State.tinPhaseStep_dev (s : State) : (State.tinPhaseStep s).dev = s.dev := by
  simp only [State.tinPhaseStep]
  repeat' first | with_reducible rfl | simp only [State.setTin_dev, State.dev_ite, ite_self] | split | refine (foldl_dev _ (fun s x => ?_) _ _).trans ?_
@[simp] theorem State.tinPark_dev (s : State) : (State.tinPark s).dev = s.dev := by
  simp only [State.tinPark]
  repeat' first | with_reducible rfl | simp only [State.setTin_dev] | split | refine (foldl_dev _ (fun s x => ?_) _ _).trans ?_

/-! ## Wort -/

@[simp] theorem State.omitFrame_dev (s : State) (st frame cause : Nat) : (State.omitFrame s st frame cause).dev = s.dev := by
  simp only [State.omitFrame, State.incSat_dev, State.modStream_dev, State.dev_ite, ite_self]
@[simp] theorem State.setDgOpen_dev (s : State) (k : Nat) (d : Option (List OutRec × Nat)) : (State.setDgOpen s k d).dev = s.dev := by
  simp only [State.setDgOpen, State.withWort_dev]
@[simp] theorem State.closeDgram_dev (s : State) (k : Nat) : (State.closeDgram s k).dev = s.dev := by
  simp only [State.closeDgram]
  repeat' first | with_reducible rfl | simp only [State.setDgOpen_dev, State.withWort_dev] | split
@[simp] theorem State.dgramAdd_dev (s : State) (k : Nat) (r : OutRec) : (State.dgramAdd s k r).dev = s.dev := by
  simp only [State.dgramAdd, State.closeDgram_dev, State.setDgOpen_dev, State.dev_ite, ite_self]
theorem execDatagramCloseTimeout_dev (s : State) : Out.dev s.dev (execDatagramCloseTimeout s) = s.dev := by
  simp only [execDatagramCloseTimeout, State.closeDgram_dev, State.dev_ite, ite_self, Out.dev_next]
@[simp] theorem State.writeRec_dev (s : State) (st : Nat) (r : OutRec) : (State.writeRec s st r).dev = s.dev := by
  simp only [State.writeRec, State.dgramAdd_dev, State.modStream_dev, State.raiseIf_dev, State.dev_ite, ite_self]
@[simp] theorem State.startHead_dev (s : State) (st : Nat) : (State.startHead s st).dev = s.dev := by
  simp only [State.startHead]
  repeat' first | with_reducible rfl | simp only [State.modStream_dev, State.raiseIf_dev, State.writeRec_dev, State.dev_ite] | split | refine (foldl_dev _ (fun s x => ?_) _ _).trans ?_
@[simp] theorem State.finishHead_dev (s : State) (st : Nat) : (State.finishHead s st).dev = s.dev := by
  simp only [State.finishHead, State.closeDgram_dev, State.modStream_dev, State.startHead_dev, State.dev_ite, ite_self]
theorem State.settle_dev (s : State) (st k : Nat) : (s.settle st k).dev = s.dev := by
  induction k generalizing s with
  | zero => rfl
  | succ k ih =>
    unfold State.settle
    split
    · rfl
    · dsimp only
      split
      · rw [ih, State.finishHead_dev, State.modStream_dev]
      · rw [State.modStream_dev]
@[simp] theorem State.emitEcho_dev (s : State) (st : Nat) : (State.emitEcho s st).dev = s.dev := by
  simp only [State.emitEcho]
  repeat' first | with_reducible rfl | simp only [State.modStream_dev, State.writeRec_dev, State.settle_dev, State.dev_ite, ite_self] | split
theorem execEchoRecordEmit_dev (st : Nat) (s : State) : Out.dev s.dev (execEchoRecordEmit st s) = s.dev := by
  simp only [execEchoRecordEmit, State.emitEcho_dev, State.dev_ite, ite_self, Out.dev_next]
@[simp] theorem State.admitCol_dev (s : State) (st : Nat) (c : ColInfo) : (State.admitCol s st c).dev = s.dev := by
  simp only [State.admitCol, State.modStream_dev, State.omitFrame_dev, State.raise_dev, State.raiseIf_dev, State.setF_dev, State.startHead_dev, State.settle_dev, State.dev_ite, ite_self]
@[simp] theorem State.wortSkip_dev (s : State) : (State.wortSkip s).dev = s.dev := by
  simp only [State.wortSkip, State.omitFrame_dev, State.withWort_dev, State.dev_ite, ite_self]
@[simp] theorem State.wortScan_dev (s : State) : (State.wortScan s).dev = s.dev := by
  simp only [State.wortScan, State.withWort_dev]
theorem State.emitAll_dev (s : State) (st k : Nat) : (s.emitAll st k).dev = s.dev := by
  induction k generalizing s with
  | zero => rfl
  | succ k ih => rw [State.emitAll, ih, State.emitEcho_dev]
@[simp] theorem State.wortDone_dev (s : State) (m ch : Nat) (es : List Echo) : (State.wortDone s m ch es).dev = s.dev := by
  simp only [State.wortDone, State.withWort_dev, State.settle_dev]
@[simp] theorem State.forgetDone_dev (s : State) (m : Nat) : (State.forgetDone s m).dev = s.dev := by
  simp only [State.forgetDone, State.withWort_dev]
@[simp] theorem State.wortForget_dev (s : State) (m : Nat) : (State.wortForget s m).dev = s.dev := by
  simp only [State.wortForget, State.forgetDone_dev, State.emitAll_dev]
@[simp] theorem State.cutStream_dev (s : State) (st : Nat) (frames : List Nat) (x : Resumed) : (State.cutStream s st frames x).dev = s.dev := by
  simp only [State.cutStream, State.modStream_dev, State.raiseIf_dev]
@[simp] theorem State.cutDwl_dev (s : State) (frames : List Nat) (lost : List GapRun) (cause : Nat) : (State.cutDwl s frames lost cause).dev = s.dev := by
  simp only [State.cutDwl, State.cutStream_dev, State.incSat_dev, State.modStream_dev, State.startHead_dev, State.dev_ite, ite_self]
@[simp] theorem State.anchorCommit_dev (s : State) : (State.anchorCommit s).dev = s.dev := by
  simp only [State.anchorCommit, State.withAnchor_dev]
@[simp] theorem State.cutEth_dev (s : State) (frames : List Nat) (lost : List GapRun) (cause : Nat) (pts : List Dgram) (op : Option (List OutRec × Nat)) : (State.cutEth s frames lost cause pts op).dev = s.dev := by
  simp only [State.cutEth, State.cutStream_dev, State.startHead_dev, State.withWort_dev]

/-! ## Dwl -/

@[simp] theorem State.frameSent_dev (s : State) (f : DwlFrame) : (State.frameSent s f).dev = s.dev := by
  simp only [State.frameSent, State.incMod_dev, State.withWort_dev, State.dev_ite, ite_self]
@[simp] theorem State.dwlSettle_dev (s : State) : (State.dwlSettle s).dev = s.dev := by
  simp only [State.dwlSettle]
  repeat' first | with_reducible rfl | simp only [State.frameSent_dev, State.withDwl_dev] | split | refine (foldl_dev _ (fun s x => ?_) _ _).trans ?_
@[simp] theorem State.dwlStart_dev (s : State) (lane chan : Nat) (hdr : Word) (pay : List Word) (recs : List OutRec) : (State.dwlStart s lane chan hdr pay recs).dev = s.dev := by
  simp only [State.dwlStart, State.withDwl_dev]
@[simp] theorem State.wortUe_dev (s : State) : (State.wortUe s).dev = s.dev := by
  simp only [State.wortUe, State.fresh_dev, State.incSat_dev, State.logEvent_dev, State.raise_dev]
@[simp] theorem State.wortCe_dev (s : State) : (State.wortCe s).dev = s.dev := by
  simp only [State.wortCe, State.incSat_dev, State.raise_dev]
@[simp] theorem State.wortEcc_dev (s : State) (err : Option (Nat × Bool)) : (State.wortEcc s err).dev = s.dev := by
  simp only [State.wortEcc]
  repeat' first | with_reducible rfl | simp only [State.cutDwl_dev, State.modStream_dev, State.wortCe_dev, State.wortUe_dev] | split
theorem execDwlPointFrame_dev (err : Option (Nat × Bool)) (s : State) : Out.dev s.dev (execDwlPointFrame err s) = s.dev := by
  simp only [execDwlPointFrame, State.dwlSettle_dev, State.dwlStart_dev, State.modStream_dev, State.setF_dev, State.withDwl_dev, State.wortEcc_dev, ite_self, Out.dev_next, Out.dev_ite]
theorem execDwlLrsFrame_dev (s : State) : Out.dev s.dev (execDwlLrsFrame s) = s.dev := by
  simp only [execDwlLrsFrame, State.dwlSettle_dev, State.dwlStart_dev, State.withDwl_dev, ite_self, Out.dev_next, Out.dev_ite]
@[simp] theorem State.sidePush_dev (s : State) (lane : Nat) (msg : List Word) : (State.sidePush s lane msg).dev = s.dev := by
  simp only [State.sidePush, State.withDwl_dev, State.dev_ite, ite_self]
@[simp] theorem State.sideSend_dev (s : State) : (State.sideSend s).dev = s.dev := by
  simp only [State.sideSend]
  repeat' first | with_reducible rfl | simp only [State.dwlStart_dev, State.withDwl_dev, State.dev_ite, ite_self] | split
@[simp] theorem State.dwlDown_dev (s : State) : (State.dwlDown s).dev = s.dev := by
  simp only [State.dwlDown, State.cutDwl_dev, State.dwlSettle_dev, State.incSat_dev, State.raise_dev, State.setB_dev, State.withDwl_dev, State.dev_ite, ite_self]
@[simp] theorem State.dwlFollow_dev (s : State) : (State.dwlFollow s).dev = s.dev := by
  simp only [State.dwlFollow, State.dwlDown_dev, State.withDwl_dev, State.dev_ite, ite_self]
@[simp] theorem State.dwlReset_dev (s : State) : (State.dwlReset s).dev = s.dev := by
  simp only [State.dwlReset, State.cutDwl_dev]
  repeat' first | with_reducible rfl | simp only [State.dwlSettle_dev, State.raise_dev, State.rset_dev, State.setB_dev, State.withDwl_dev] | split | refine (foldl_dev _ (fun s x => ?_) _ _).trans ?_
theorem execDwlCreditReceive_dev (lane : Nat) (ccum : BitVec 16) (ok : Bool) (s : State) : Out.dev s.dev (execDwlCreditReceive lane ccum ok s) = s.dev := by
  simp only [execDwlCreditReceive, State.dwlSettle_dev, State.incSat_dev, State.raise_dev, State.setB_dev, State.setF_dev, State.withDwl_dev, State.dev_ite, ite_self, Out.dev_next, Out.dev_ite]
theorem execDwlCreditTimeout_dev (old : Bool) (s : State) : Out.dev s.dev (execDwlCreditTimeout old s) = s.dev := by
  simp only [execDwlCreditTimeout, State.raise_dev, ite_self, Out.dev_next, Out.dev_ite]

/-! ## Time -/

@[simp] theorem State.ctrTo_dev (s : State) (n : Int) : (State.ctrTo s n).dev = s.dev := by
  simp only [State.ctrTo, State.line_dev, State.raise_dev, State.setFs_dev, State.withTime_dev, State.dev_ite, ite_self]
@[simp] theorem State.ppsCheck_dev (s : State) : (State.ppsCheck s).dev = s.dev := by
  simp only [State.ppsCheck, State.setB_dev, State.withPins_dev, State.dev_ite, ite_self]
@[simp] theorem State.tclkEdges_dev (s : State) (k : Nat) : (State.tclkEdges s k).dev = s.dev := by
  simp only [State.tclkEdges, State.adcStamp_dev, State.ctrTo_dev, State.line_dev, State.ppsCheck_dev, State.raise_dev, State.setB_dev, State.tinFollow_dev, State.tinPhaseStep_dev, State.withNow_dev, State.withTime_dev, State.dev_ite, ite_self]
@[simp] theorem State.tclkTick_dev (s : State) : (State.tclkTick s).dev = s.dev := by
  simp only [State.tclkTick, State.dwlSettle_dev, State.sideSend_dev, State.tclkEdges_dev]
theorem execTimeOffsetApply_dev (s : State) : Out.dev s.dev (execTimeOffsetApply s) = s.dev := by
  simp only [execTimeOffsetApply, State.tclkEdges_dev, State.dev_ite, ite_self, Out.dev_next]
theorem execTimeCounterWrap_dev (s : State) : Out.dev s.dev (execTimeCounterWrap s) = s.dev := by
  simp only [execTimeCounterWrap, State.tclkEdges_dev, Out.dev_next]
theorem execPpsPulse_dev (s : State) : Out.dev s.dev (execPpsPulse s) = s.dev := by
  simp only [execPpsPulse, State.ppsCheck_dev, Out.dev_next]
theorem execPpsPulseEnd_dev (s : State) : Out.dev s.dev (execPpsPulseEnd s) = s.dev := by
  simp only [execPpsPulseEnd, State.withPins_dev, State.dev_ite, ite_self, Out.dev_next]
theorem execTimeNsRead_dev (s : State) : Out.dev s.dev (execTimeNsRead s) = s.dev := by
  simp only [execTimeNsRead, State.setF_dev, Out.dev_next]
@[simp] theorem State.timeIncWrite_dev (s : State) (v : Word) : (State.timeIncWrite s v).dev = s.dev := by
  simp only [State.timeIncWrite, State.raiseIf_dev, State.rset_dev]
theorem execTimeIncWrite_dev (v : Word) (s : State) : Out.dev s.dev (execTimeIncWrite v s) = s.dev := by
  simp only [execTimeIncWrite, State.timeIncWrite_dev, Out.dev_next]
@[simp] theorem State.timeOfsWrite_dev (s : State) (v : Word) : (State.timeOfsWrite s v).dev = s.dev := by
  simp only [State.timeOfsWrite, State.setB_dev, State.withTime_dev]
theorem execTimeOfsWrite_dev (v : Word) (s : State) : Out.dev s.dev (execTimeOfsWrite v s) = s.dev := by
  simp only [execTimeOfsWrite, State.timeOfsWrite_dev, Out.dev_next]
@[simp] theorem State.timeInvalid_dev (s : State) : (State.timeInvalid s).dev = s.dev := by
  simp only [State.timeInvalid, State.setB_dev, State.withPins_dev]
@[simp] theorem State.timeCtrlWrite_dev (s : State) (m : Nat) (v : Word) : (State.timeCtrlWrite s m v).dev = s.dev := by
  simp only [State.timeCtrlWrite, State.rset_dev, State.setB_dev, State.timeInvalid_dev, State.dev_ite, ite_self]
theorem execTimeCtrlWrite_dev (m : Nat) (v : Word) (s : State) : Out.dev s.dev (execTimeCtrlWrite m v s) = s.dev := by
  simp only [execTimeCtrlWrite, State.timeCtrlWrite_dev, Out.dev_next]
@[simp] theorem State.timePpsWrite_dev (s : State) (v : Word) : (State.timePpsWrite s v).dev = s.dev := by
  simp only [State.timePpsWrite, State.raise_dev, State.rset_dev, State.setB_dev, State.dev_ite, ite_self]
theorem execTimePpsWrite_dev (v : Word) (s : State) : Out.dev s.dev (execTimePpsWrite v s) = s.dev := by
  simp only [execTimePpsWrite, State.timePpsWrite_dev, Out.dev_next]

/-! ## Lane -/

@[simp] theorem State.laneRates_dev (s : State) : (State.laneRates s).dev = s.dev := by
  simp only [State.laneRates]
  repeat' first | with_reducible rfl | simp only [State.setF_dev] | split | refine (foldl_dev _ (fun s x => ?_) _ _).trans ?_
@[simp] theorem State.dgRelease_dev (s : State) (k q : Nat) : (State.dgRelease s k q).dev = s.dev := by
  simp only [State.dgRelease, State.dev_ite]
  repeat' first | with_reducible rfl | simp only [State.withWort_dev, State.dev_ite, ite_self] | split
@[simp] theorem State.dgRecall_dev (s : State) (p : Nat) : (State.dgRecall s p).dev = s.dev := by
  simp only [State.dgRecall]
  repeat' first | with_reducible rfl | simp only [State.dgRelease_dev, State.setEth_dev] | split | refine (foldl_dev _ (fun s x => ?_) _ _).trans ?_
@[simp] theorem State.ethDown_dev (s : State) (p : Nat) : (State.ethDown s p).dev = s.dev := by
  simp only [State.ethDown, State.dgRecall_dev, State.incMod_dev, State.raise_dev, State.setB_dev, State.dev_ite, ite_self]
@[simp] theorem State.laneLost_dev (s : State) (n : Nat) : (State.laneLost s n).dev = s.dev := by
  simp only [State.laneLost, State.dev_ite]
  repeat' first | with_reducible rfl | simp only [State.dwlFollow_dev, State.ethDown_dev, State.raise_dev, State.setB_dev, State.setF_dev, State.setLane_dev] | split
theorem execLaneAlignAcquired_dev (n : Nat) (s : State) : Out.dev s.dev (execLaneAlignAcquired n s) = s.dev := by
  simp only [execLaneAlignAcquired, State.setB_dev, State.setLane_dev, State.dev_ite, ite_self, Out.dev_next, Out.dev_ite]
theorem execLaneCodeError_dev (n good kind : Nat) (s : State) (lost : Bool) : Out.dev s.dev (execLaneCodeError n good kind s lost) = s.dev := by
  simp only [execLaneCodeError, State.incSat_dev, State.laneLost_dev, State.setLane_dev, State.dev_ite, ite_self, Out.dev_next, Out.dev_ite]
@[simp] theorem State.setDfe_dev (s : State) (n : Nat) (d1 d2 d3 : BitVec 6) : (State.setDfe s n d1 d2 d3).dev = s.dev := by
  simp only [State.setDfe, State.setF_dev]
theorem execLaneAdaptDone_dev (n : Nat) (eyes : List (Nat × Nat)) (d1 d2 d3 : BitVec 6) (s : State) : Out.dev s.dev (execLaneAdaptDone n eyes d1 d2 d3 s) = s.dev := by
  simp only [execLaneAdaptDone, State.raiseIf_dev, State.setB_dev, State.setDfe_dev, State.setF_dev, State.setLane_dev, ite_self, Out.dev_next, Out.dev_ite]
theorem execEyeMeasure_dev (n h v : Nat) (d1 d2 d3 : BitVec 6) (s : State) : Out.dev s.dev (execEyeMeasure n h v d1 d2 d3 s) = s.dev := by
  simp only [execEyeMeasure, State.raiseIf_dev, State.setDfe_dev, State.setF_dev, State.dev_ite, ite_self, Out.dev_next, Out.dev_ite]
theorem execLanePllLock_dev (s : State) : Out.dev s.dev (execLanePllLock s) = s.dev := by
  simp only [execLanePllLock, State.setB_dev, State.dev_ite, ite_self, Out.dev_next]
theorem execLanePllLoss_dev (s : State) : Out.dev s.dev (execLanePllLoss s) = s.dev := by
  simp only [execLanePllLoss, Out.dev_next]
  repeat' first | with_reducible rfl | simp only [State.laneLost_dev, State.setB_dev] | split | refine (foldl_dev _ (fun s x => ?_) _ _).trans ?_

/-! ## Eth -/

@[simp] theorem State.prpCommit_dev (s : State) : (State.prpCommit s).dev = s.dev := by
  simp only [State.prpCommit, State.raiseIf_dev, State.setB_dev]
@[simp] theorem State.ethCfgWrite_dev (s : State) (p : Nat) (v : Word) : (State.ethCfgWrite s p v).dev = s.dev := by
  simp only [State.ethCfgWrite, State.ethDown_dev, State.laneRates_dev]
  repeat' first | with_reducible rfl | simp only [State.rset_dev, State.setF_dev] | split
theorem execEthModeWrite_dev (p : Nat) (v : Word) (s : State) : Out.dev s.dev (execEthModeWrite p v s) = s.dev := by
  simp only [execEthModeWrite, State.ethCfgWrite_dev, State.dev_ite, ite_self, Out.dev_next]
@[simp] theorem State.ethKick_dev (s : State) (p : Nat) : (State.ethKick s p).dev = s.dev := by
  simp only [State.ethKick, State.dev_ite]
  repeat' first | with_reducible rfl | simp only [State.setEth_dev] | split
@[simp] theorem State.ethPush_dev (s : State) (p : Nat) (f : TxFr) : (State.ethPush s p f).dev = s.dev := by
  simp only [State.ethPush, State.ethKick_dev, State.setEth_dev]
@[simp] theorem State.ipOpen_dev (s : State) (f : TxFr) : (State.ipOpen s f).1.dev = s.dev := by
  simp only [State.ipOpen]
  repeat' first | with_reducible rfl | simp only [State.fresh_dev] | split
@[simp] theorem State.ethSend_dev (s : State) (p : Nat) (f : TxFr) : (State.ethSend s p f).dev = s.dev := by
  simp only [State.ethSend, State.ethPush_dev, State.incMod_dev, State.ipOpen_dev, State.setB_dev, State.dev_ite, ite_self]
@[simp] theorem State.txcmdWrite_dev (s : State) (p : Nat) (v : Word) : (State.txcmdWrite s p v).dev = s.dev := by
  simp only [State.txcmdWrite, State.ethSend_dev, State.incSat_dev, State.rset_dev, State.setB_dev, State.dev_ite, ite_self]
theorem execEthTxcmdGo_dev (p : Nat) (v : Word) (s : State) : Out.dev s.dev (execEthTxcmdGo p v s) = s.dev := by
  simp only [execEthTxcmdGo, State.txcmdWrite_dev, State.dev_ite, ite_self, Out.dev_next]
@[simp] theorem State.dgSent_dev (s : State) (k q : Nat) : (State.dgSent s k q).dev = s.dev := by
  simp only [State.dgSent, State.withWort_dev]
theorem execEthFrameTransmitDone_dev (p d : Nat) (s : State) (par : Bool) : Out.dev s.dev (execEthFrameTransmitDone p d s par) = s.dev := by
  simp only [execEthFrameTransmitDone, Out.dev_next, Out.dev_ite]
  repeat' first | with_reducible rfl | simp only [State.dgRelease_dev, State.dgSent_dev, State.ethKick_dev, State.incMod_dev, State.incSat_dev, State.raise_dev, State.setB_dev, State.setEth_dev, State.dev_ite, ite_self, Out.dev_next] | split
theorem execEthTxts2Read_dev (p : Nat) (s : State) : Out.dev s.dev (execEthTxts2Read p s) = s.dev := by
  simp only [execEthTxts2Read, State.setEth_dev, State.dev_ite, ite_self, Out.dev_next]
theorem execEthLinkChange_dev (p : Nat) (up refused : Bool) (s : State) : Out.dev s.dev (execEthLinkChange p up refused s) = s.dev := by
  simp only [execEthLinkChange, State.ethDown_dev, State.ethKick_dev, State.raiseIf_dev, State.setB_dev, ite_self, Out.dev_next, Out.dev_ite]
@[simp] theorem State.ethReset_dev (s : State) (p : Nat) : (State.ethReset s p).dev = s.dev := by
  simp only [State.ethReset]
  repeat' first | with_reducible rfl | simp only [State.dgRecall_dev, State.ethDown_dev, State.rset_dev, State.setEth_dev] | split | refine (foldl_dev _ (fun s x => ?_) _ _).trans ?_
@[simp] theorem State.dropHop_dev (s : State) (q ip : Nat) : (State.dropHop s q ip).dev = s.dev := by
  simp only [State.dropHop]
  repeat' first | with_reducible rfl | simp only [State.dgRelease_dev, State.setEth_dev] | split | refine (foldl_dev _ (fun s x => ?_) _ _).trans ?_
@[simp] theorem State.arpAsk_dev (s : State) (p : Nat) (ip : Nat) : (State.arpAsk s p ip).dev = s.dev := by
  simp only [State.arpAsk, State.ethSend_dev, State.setEth_dev, State.dev_ite, ite_self]
theorem execArpRefresh_dev (p : Nat) (ip : Word) (s : State) : Out.dev s.dev (execArpRefresh p ip s) = s.dev := by
  simp only [execArpRefresh, Out.dev_next, Out.dev_ite]
  repeat' first | with_reducible rfl | simp only [State.dropHop_dev, State.ethSend_dev, State.setEth_dev, ite_self, Out.dev_next, Out.dev_ite] | split
@[simp] theorem State.hwReply_dev (s : State) (p : Nat) (body : TxBody) : (State.hwReply s p body).dev = s.dev := by
  simp only [State.hwReply, State.ethSend_dev, State.incSat_dev, State.setEth_dev, State.dev_ite, ite_self]
@[simp] theorem State.ethFilt_dev (s : State) (p : Nat) : (State.ethFilt s p).dev = s.dev := by
  simp only [State.ethFilt, State.incSat_dev]
@[simp] theorem State.qstat_dev (s : State) (p : Nat) : (State.qstat s p).dev = s.dev := by
  simp only [State.qstat, State.setF_dev]
@[simp] theorem State.ethQueue_dev (s : State) (p cls d : Nat) (fr : List Byte) : (State.ethQueue s p cls d fr).dev = s.dev := by
  simp only [State.ethQueue]
  repeat' first | with_reducible rfl | simp only [State.incSat_dev, State.qstat_dev, State.raise_dev, State.setEth_dev, State.dev_ite, ite_self] | split
@[simp] theorem State.prpCheck_dev (s : State) (mac q : Nat) : (State.prpCheck s mac q).2.dev = s.dev := by
  simp only [State.prpCheck]
  repeat' first | with_reducible rfl | simp only [State.withPrp_dev, State.dev_ite, ite_self, apply_ite Prod.snd] | split
theorem execPrpEntryForget_dev (mac : BitVec 48) (s : State) : Out.dev s.dev (execPrpEntryForget mac s) = s.dev := by
  simp only [execPrpEntryForget, State.withPrp_dev, Out.dev_next]
theorem execPrpSupervisionSend_dev (s : State) : Out.dev s.dev (execPrpSupervisionSend s) = s.dev := by
  simp only [execPrpSupervisionSend, State.ethSend_dev, State.setEth_dev, State.dev_ite, ite_self, Out.dev_next]
@[simp] theorem State.arpRx_dev (s : State) (p : Nat) (fr : List Byte) (o : Nat) : (State.arpRx s p fr o).dev = s.dev := by
  simp only [State.arpRx, State.ethKick_dev, State.hwReply_dev, State.setEth_dev, State.dev_ite, ite_self]
@[simp] theorem State.classify_dev (s : State) (p : Nat) (fr : List Byte) (d : Nat) : (State.classify s p fr d).dev = s.dev := by
  simp only [State.classify, State.arpRx_dev, State.ethFilt_dev, State.ethQueue_dev, State.hwReply_dev, State.incSat_dev, State.withParkWake_dev, State.dev_ite, ite_self]
theorem execEthFrameReceive_dev (p : Nat) (fr : List Byte) (fcs : Bool) (d : Nat) (s : State) : Out.dev s.dev (execEthFrameReceive p fr fcs d s) = s.dev := by
  unfold execEthFrameReceive
  repeat' first | with_reducible rfl | split | simp only [State.classify_dev, State.ethFilt_dev, State.incMod_dev, State.incSat_dev, State.prpCheck_dev, State.raise_dev, ite_self, Out.dev_next, Out.dev_ite]
@[simp] theorem State.qpop_dev (s : State) (p : Nat) : (State.qpop s p).dev = s.dev := by
  simp only [State.qpop, State.qstat_dev, State.setEth_dev]
theorem execEthQpop_dev (p : Nat) (s : State) : Out.dev s.dev (execEthQpop p s) = s.dev := by
  simp only [execEthQpop, State.qpop_dev, State.dev_ite, ite_self, Out.dev_next]
@[simp] theorem State.ethEcc_dev (s : State) (d : Dgram) (err : Option (Nat × Bool)) : (State.ethEcc s d err).1.dev = s.dev := by
  simp only [State.ethEcc]
  repeat' first | with_reducible rfl | simp only [State.cutEth_dev, State.withWort_dev, State.wortCe_dev, State.wortUe_dev, State.dev_ite, ite_self, apply_ite Prod.fst] | split
@[simp] theorem State.dgSend_dev (s : State) (p k dst : Nat) (d : Dgram) : (State.dgSend s p k dst d).dev = s.dev := by
  simp only [State.dgSend, State.ethSend_dev, State.withWort_dev]
theorem execDatagramSend_dev (stream : Nat) (s : State) (err : Option (Nat × Bool)) : Out.dev s.dev (execDatagramSend stream s err) = s.dev := by
  simp only [execDatagramSend, Out.dev_next, Out.dev_ite]
  repeat' first | with_reducible rfl | simp only [State.arpAsk_dev, State.dgSend_dev, State.ethEcc_dev, Out.dev_next, Out.dev_ite] | split
theorem execDatagramDiscard_dev (s : State) : Out.dev s.dev (execDatagramDiscard s) = s.dev := by
  simp only [execDatagramDiscard]
  repeat' first | with_reducible rfl | simp only [State.cutEth_dev, State.setEth_dev, State.withWort_dev, Out.dev_next, Out.dev_ite] | split | refine (foldl_dev _ (fun s x => ?_) _ _).trans ?_

/-! ## Cask -/

@[simp] theorem State.caskRefuse_dev (s : State) : (State.caskRefuse s).dev = s.dev := by
  simp only [State.caskRefuse, State.incSat_dev, State.logEvent_dev, State.raise_dev, State.withCask_dev, State.dev_ite, ite_self]
@[simp] theorem State.caskActivate_dev (s : State) : (State.caskActivate s).dev = s.dev := by
  simp only [State.caskActivate, State.setB_dev, State.withCal_dev]
@[simp] theorem State.caskApply_dev (s : State) : (State.caskApply s).dev = s.dev := by
  simp only [State.caskApply, State.caskRefuse_dev, State.nvmPush_dev, State.dev_ite, ite_self]
theorem execCaskApply_dev (s : State) : Out.dev s.dev (execCaskApply s) = s.dev := by
  simp only [execCaskApply, State.caskApply_dev, Out.dev_next]
@[simp] theorem State.calcfgWrite_dev (s : State) (v : Word) : (State.calcfgWrite s v).dev = s.dev := by
  simp only [State.calcfgWrite, State.caskApply_dev, State.caskRefuse_dev, State.setF_dev, State.dev_ite, ite_self]
theorem execCaskCopyBackDone_dev (s : State) : Out.dev s.dev (execCaskCopyBackDone s) = s.dev := by
  simp only [execCaskCopyBackDone, State.setB_dev, Out.dev_next]
@[simp] theorem State.lrsGo_dev (s : State) : (State.lrsGo s).dev = s.dev := by
  simp only [State.lrsGo, State.setB_dev, State.withCask_dev, State.dev_ite, ite_self]
theorem execCaskLrsgo_dev (s : State) : Out.dev s.dev (execCaskLrsgo s) = s.dev := by
  simp only [execCaskLrsgo, State.lrsGo_dev, Out.dev_next]
@[simp] theorem State.lrsOwn_dev (s : State) (first : Bool) (kind : Nat) (data : List Word) : (State.lrsOwn s first kind data).dev = s.dev := by
  simp only [State.lrsOwn, State.withCask_dev, State.dev_ite, ite_self]
@[simp] theorem State.seqNext_dev (s : State) : (State.seqNext s).dev = s.dev := by
  simp only [State.seqNext, State.nvmPush_dev, State.setB_dev, State.withCask_dev, State.dev_ite, ite_self]
theorem execLrsRecordIssue_dev (s : State) : Out.dev s.dev (execLrsRecordIssue s) = s.dev := by
  simp only [execLrsRecordIssue]
  repeat' first | with_reducible rfl | simp only [State.dgramAdd_dev, State.line_dev, State.seqNext_dev, State.withCask_dev, State.withWort_dev, State.dev_ite, ite_self, Out.dev_next, Out.dev_ite] | split
@[simp] theorem State.applyDone_dev (s : State) : (State.applyDone s).dev = s.dev := by
  simp only [State.applyDone, State.caskActivate_dev, State.logEvent_dev, State.lrsOwn_dev, State.setB_dev, State.withNvm_dev, State.dev_ite, ite_self]
@[simp] theorem State.caskBoundary_dev (s : State) : (State.caskBoundary s).dev = s.dev := by
  simp only [State.caskBoundary, State.lrsOwn_dev, State.raise_dev, State.setB_dev, State.dev_ite, ite_self]
@[simp] theorem State.serviceEnter_dev (s : State) : (State.serviceEnter s).dev = s.dev := by
  simp only [State.serviceEnter, State.withCask_dev]
@[simp] theorem State.serviceLeave_dev (s : State) : (State.serviceLeave s).dev = s.dev := by
  simp only [State.serviceLeave, State.lrsOwn_dev, State.dev_ite, ite_self]
  repeat' first | with_reducible rfl | simp only [State.caskRefuse_dev, State.withNvm_dev] | split | refine (foldl_dev _ (fun s x => ?_) _ _).trans ?_
@[simp] theorem State.caskCommit_dev (s : State) : (State.caskCommit s).dev = s.dev := by
  simp only [State.caskCommit, State.caskActivate_dev, State.lrsOwn_dev, State.nvmPush_dev, State.setB_dev, State.withCask_dev, State.dev_ite, ite_self]

/-! ## Dsp -/

@[simp] theorem State.modCore_dev (s : State) (c : Nat) (g : CoreSt → CoreSt) : (State.modCore s c g).dev = s.dev := by
  simp only [State.modCore, State.setCore_dev]
@[simp] theorem State.coreCycles_dev (s : State) (c n5 : Nat) : (State.coreCycles s c n5).dev = s.dev := by
  simp only [State.coreCycles, State.line_dev, State.setCore_dev, State.dev_ite, ite_self]
@[simp] theorem State.coreTick_dev (s : State) : (State.coreTick s).dev = s.dev := by
  simp only [State.coreTick, State.coreCycles_dev]
theorem execTimerCompareMatch_dev (c : Nat) (s : State) : Out.dev s.dev (execTimerCompareMatch c s) = s.dev := by
  simp only [execTimerCompareMatch, State.coreCycles_dev, State.dev_ite, ite_self, Out.dev_next]
@[simp] theorem State.wdtReload_dev (s : State) (c : Nat) : (State.wdtReload s c).dev = s.dev := by
  simp only [State.wdtReload, State.setF_dev]
@[simp] theorem State.wdtExpire_dev (s : State) (c : Nat) : (State.wdtExpire s c).dev = s.dev := by
  simp only [State.wdtExpire, State.raiseReset_dev, State.wdtReload_dev]
@[simp] theorem State.wdtTick_dev (s : State) (c : Nat) : (State.wdtTick s c).dev = s.dev := by
  simp only [State.wdtTick, State.setF_dev, State.wdtExpire_dev, State.dev_ite, ite_self]
@[simp] theorem State.wdtKick_dev (s : State) (c : Nat) (v : Word) : (State.wdtKick s c v).dev = s.dev := by
  simp only [State.wdtKick, State.wdtExpire_dev, State.wdtReload_dev, State.dev_ite, ite_self]
theorem execWdtkick_dev (c : Nat) (v : Word) (s : State) : Out.dev s.dev (execWdtkick c v s) = s.dev := by
  simp only [execWdtkick, State.wdtKick_dev, State.dev_ite, ite_self, Out.dev_next]
@[simp] theorem State.coreStart_dev (s : State) (c cause : Nat) : (State.coreStart s c cause).dev = s.dev := by
  simp only [State.coreStart, State.setCore_dev, State.setF_dev, State.wdtReload_dev, State.withLines_dev, State.dev_ite, ite_self]
theorem execDspCoreStart_dev (c cause : Nat) (s : State) : Out.dev s.dev (execDspCoreStart c cause s) = s.dev := by
  simp only [execDspCoreStart, State.coreStart_dev, State.dev_ite, ite_self, Out.dev_next]
@[simp] theorem State.clearData_dev (s : State) (c : Nat) : (State.clearData s c).dev = s.dev := by
  simp only [State.clearData]
@[simp] theorem State.dspReset_dev (s : State) (c : Nat) : (State.dspReset s c).dev = s.dev := by
  simp only [State.dspReset]
  repeat' first | with_reducible rfl | simp only [State.clearData_dev, State.rset_dev, State.setCore_dev, State.withLines_dev] | split | refine (foldl_dev _ (fun s x => ?_) _ _).trans ?_
@[simp] theorem State.corePark_dev (s : State) (c : Nat) : (State.corePark s c).dev = s.dev := by
  simp only [State.corePark, State.modCore_dev, State.dev_ite, ite_self]
@[simp] theorem State.mbox7_dev (s : State) (c : Nat) (v : Word) : (State.mbox7 s c v).dev = s.dev := by
  simp only [State.mbox7, State.line_dev, State.rset_dev]
theorem execMbox7Write_dev (c : Nat) (v : Word) (s : State) : Out.dev s.dev (execMbox7Write c v s) = s.dev := by
  simp only [execMbox7Write, State.mbox7_dev, State.dev_ite, ite_self, Out.dev_next]
@[simp] theorem State.dspCe_dev (s : State) (c a : Nat) : (State.dspCe s c a).dev = s.dev := by
  simp only [State.dspCe, State.incSat_dev, State.raise_dev, State.setF_dev]
@[simp] theorem State.dspUe_dev (s : State) (c a : Nat) : (State.dspUe s c a).dev = s.dev := by
  simp only [State.dspUe, State.incSat_dev, State.logEvent_dev, State.raise_dev, State.setF_dev]
@[simp] theorem State.tapReserve_dev (s : State) (c : Nat) (i : ColInfo) : (State.tapReserve s c i).dev = s.dev := by
  simp only [State.tapReserve, State.fresh_dev, State.incSat_dev, State.line_dev, State.modCore_dev, State.raise_dev, State.dev_ite, ite_self]
@[simp] theorem State.tapWord_dev (s : State) (c : Nat) (w : Word) : (State.tapWord s c w).dev = s.dev := by
  simp only [State.tapWord, State.msetW_dev, State.setF_dev]
@[simp] theorem State.tapWrite_dev (s : State) (c : Nat) : (State.tapWrite s c).dev = s.dev := by
  simp only [State.tapWrite]
  repeat' first | with_reducible rfl | simp only [State.line_dev, State.modCore_dev, State.tapWord_dev] | split | refine (foldl_dev _ (fun s x => ?_) _ _).trans ?_
theorem execTapColumnDone_dev (c : Nat) (s : State) : Out.dev s.dev (execTapColumnDone c s) = s.dev := by
  simp only [execTapColumnDone, Out.dev_next]
  repeat' first | with_reducible rfl | simp only [State.tapWrite_dev, State.dev_ite, ite_self] | split
@[simp] theorem State.tapFlush_dev (s : State) (m : Nat) : (State.tapFlush s m).dev = s.dev := by
  simp only [State.tapFlush]
  repeat' first | with_reducible rfl | simp only [State.tapWrite_dev, State.dev_ite, ite_self] | split | refine (foldl_dev _ (fun s x => ?_) _ _).trans ?_
@[simp] theorem State.dmaGo_dev (s : State) (n : Nat) : (State.dmaGo s n).dev = s.dev := by
  simp only [State.dmaGo, State.setB_dev, State.withDma_dev, State.dev_ite, ite_self]
theorem execDmaGo_dev (n : Nat) (s : State) : Out.dev s.dev (execDmaGo n s) = s.dev := by
  simp only [execDmaGo, State.dmaGo_dev, State.dev_ite, ite_self, Out.dev_next]
@[simp] theorem State.dmaReset_dev (s : State) (n : Nat) : (State.dmaReset s n).dev = s.dev := by
  simp only [State.dmaReset, State.setF_dev, State.withDma_dev]

/-! ## Guard -/

@[simp] theorem State.rebuildBearing_dev (s : State) : (State.rebuildBearing s).dev = s.dev := by
  simp only [State.rebuildBearing, State.withGuard_dev]
@[simp] theorem State.guardColumn_dev (s : State) (m az n : Nat) (inh : Bool) : (State.guardColumn s m az n inh).dev = s.dev := by
  simp only [State.guardColumn, State.raiseIf_dev, State.setB_dev, State.withGuard_dev, State.dev_ite, ite_self]
@[simp] theorem State.guardTrigger_dev (s : State) (az : Nat) : (State.guardTrigger s az).dev = s.dev := by
  simp only [State.guardTrigger, State.intrude_dev, State.dev_ite, ite_self]
@[simp] theorem State.guardOutcome_dev (s : State) (m : Nat) (field prot unev warn : Bool) (shots : Nat) : (State.guardOutcome s m field prot unev warn shots).dev = s.dev := by
  simp only [State.guardOutcome]
  repeat' first | with_reducible rfl | simp only [State.intrude_dev, State.withGuard_dev, State.dev_ite, ite_self] | split
@[simp] theorem State.guardColDone_dev (s : State) (m : Nat) : (State.guardColDone s m).dev = s.dev := by
  simp only [State.guardColDone]
  repeat' first | with_reducible rfl | simp only [State.setGsweep_dev, State.withGuard_dev] | split
@[simp] theorem State.guardSweepEnd_dev (s : State) (n : Nat) (whole : Bool) : (State.guardSweepEnd s n whole).dev = s.dev := by
  simp only [State.guardSweepEnd, State.incSat_dev, State.setB_dev, State.setF_dev, State.withGuard_dev, State.dev_ite, ite_self]
@[simp] theorem State.guardSweepBegin_dev (s : State) : (State.guardSweepBegin s).dev = s.dev := by
  simp only [State.guardSweepBegin, State.setGsweep_dev, State.dev_ite, ite_self]
@[simp] theorem State.guardScanEntry_dev (s : State) : (State.guardScanEntry s).dev = s.dev := by
  simp only [State.guardScanEntry, State.guardInhibit_dev, State.setB_dev, State.setF_dev, State.withGuard_dev, State.dev_ite, ite_self]
theorem execEnEdge_dev (ch : Nat) (level : Bool) (s : State) : Out.dev s.dev (execEnEdge ch level s) = s.dev := by
  simp only [execEnEdge, State.guardFollow_dev, State.withGuard_dev, Out.dev_next]
@[simp] theorem State.discLatch_dev (s : State) : (State.discLatch s).dev = s.dev := by
  simp only [State.discLatch, State.guardFollow_dev, State.incSat_dev, State.logEvent_dev, State.raise_dev, State.setB_dev, State.withGuard_dev]
@[simp] theorem State.discTick_dev (s : State) : (State.discTick s).dev = s.dev := by
  simp only [State.discTick, State.setB_dev, State.dev_ite, ite_self]
  repeat' first | with_reducible rfl | simp only [State.discLatch_dev, State.withGuard_dev, State.dev_ite, ite_self] | split
@[simp] theorem State.restartTick_dev (s : State) : (State.restartTick s).dev = s.dev := by
  simp only [State.restartTick, State.setB_dev, State.withGuard_dev, State.dev_ite, ite_self]
theorem execGuardOutputsOn_dev (s : State) : Out.dev s.dev (execGuardOutputsOn s) = s.dev := by
  simp only [execGuardOutputsOn, State.setB_dev, State.soutFault_dev, State.withGuard_dev, ite_self, Out.dev_next, Out.dev_ite]
theorem execOffPulseStart_dev (s : State) : Out.dev s.dev (execOffPulseStart s) = s.dev := by
  simp only [execOffPulseStart, State.withGuard_dev, ite_self, Out.dev_next, Out.dev_ite]
@[simp] theorem State.setRb_dev (s : State) (rbA rbB : Bool) : (State.setRb s rbA rbB).dev = s.dev := by
  simp only [State.setRb, State.setB_dev]
theorem execOffPulseEnd_dev (rbA rbB : Bool) (s : State) : Out.dev s.dev (execOffPulseEnd rbA rbB s) = s.dev := by
  simp only [execOffPulseEnd]
  repeat' first | with_reducible rfl | simp only [State.setRb_dev, State.soutFault_dev, State.withGuard_dev, ite_self, Out.dev_next, Out.dev_ite] | split
theorem execReadbackSample_dev (rbA rbB limA limB : Bool) (s : State) : Out.dev s.dev (execReadbackSample rbA rbB limA limB s) = s.dev := by
  simp only [execReadbackSample, State.setRb_dev]
  repeat' first | with_reducible rfl | simp only [State.setRb_dev, State.soutFault_dev, State.withGuard_dev, Out.dev_next] | split
theorem execEdmTimeout_dev (s : State) : Out.dev s.dev (execEdmTimeout s) = s.dev := by
  simp only [execEdmTimeout, State.soutFault_dev, State.withGuard_dev, ite_self, Out.dev_next, Out.dev_ite]
theorem execEdmLevelChange_dev (level : Bool) (s : State) : Out.dev s.dev (execEdmLevelChange level s) = s.dev := by
  simp only [execEdmLevelChange, State.setB_dev, State.soutFault_dev, State.withGuard_dev, ite_self, Out.dev_next, Out.dev_ite]
theorem execSoutStageTrip_dev (s : State) : Out.dev s.dev (execSoutStageTrip s) = s.dev := by
  simp only [execSoutStageTrip, State.logEvent_dev, State.raise_dev, State.soutOff_dev, ite_self, Out.dev_next, Out.dev_ite]
@[simp] theorem State.crcErr_dev (s : State) : (State.crcErr s).dev = s.dev := by
  simp only [State.crcErr, State.logEvent_dev, State.raise_dev, State.setB_dev, State.soutOff_dev, State.dev_ite, ite_self]
theorem execGuardCrcPass_dev (ue : Option Nat) (s : State) : Out.dev s.dev (execGuardCrcPass ue s) = s.dev := by
  simp only [execGuardCrcPass, Out.dev_next, Out.dev_ite]
  repeat' first | with_reducible rfl | simp only [State.crcErr_dev, State.logEvent_dev, State.raise_dev, State.rset_dev, State.dev_ite, ite_self, Out.dev_next] | split
@[simp] theorem State.changeBegin_dev (s : State) : (State.changeBegin s).dev = s.dev := by
  simp only [State.changeBegin, State.setB_dev, State.withGuard_dev]
@[simp] theorem State.changeWord_dev (s : State) (a : Nat) (v : Word) : (State.changeWord s a v).dev = s.dev := by
  simp only [State.changeWord, State.msetW_dev, State.rset_dev, State.setB_dev, State.withGuard_dev, State.dev_ite, ite_self]
@[simp] theorem State.changeCommit_dev (s : State) (uid : Nat) : (State.changeCommit s uid).dev = s.dev := by
  simp only [State.changeCommit, State.nvmPush_dev, State.rebuildBearing_dev, State.rset_dev]
@[simp] theorem State.changeCommitted_dev (s : State) : (State.changeCommitted s).dev = s.dev := by
  simp only [State.changeCommitted, State.rset_dev, State.setB_dev]
@[simp] theorem State.changeAbort_dev (s : State) (uid : Nat) : (State.changeAbort s uid).1.dev = s.dev := by
  simp only [State.changeAbort, State.nvmPush_dev, State.rset_dev, State.setB_dev, State.dev_ite, ite_self, apply_ite Prod.fst]

/-! ## Column -/

@[simp] theorem State.latchColumn_dev (s : State) : (State.latchColumn s).dev = s.dev := by
  simp only [State.latchColumn, State.withEff_dev]
@[simp] theorem State.kilnLast_dev (s : State) (g : Grant) (st : Nat) : (State.kilnLast s g st).dev = s.dev := by
  simp only [State.kilnLast, State.rset_dev, State.setF_dev]
@[simp] theorem State.closeColumn_dev (s : State) (t : Nat) (ends : Bool) (fue : List Nat) : (State.closeColumn s t ends fue).dev = s.dev := by
  simp only [State.closeColumn, State.closeAmb_dev, State.dropPlanned_dev, State.guardColumn_dev, State.kilnLast_dev]
  repeat' first | with_reducible rfl | simp only [State.caskBoundary_dev, State.closeAmb_dev, State.dropPlanned_dev, State.guardColumn_dev, State.kilnLast_dev, State.withScan_dev, State.dev_ite, ite_self] | split
@[simp] theorem State.dropOldest_dev (s : State) : (State.dropOldest s).dev = s.dev := by
  simp only [State.dropOldest]
  repeat' first | with_reducible rfl | simp only [State.tapFlush_dev, State.wortForget_dev] | split
@[simp] theorem State.finishClose_dev (s : State) : (State.finishClose s).dev = s.dev := by
  simp only [State.finishClose]
  repeat' first | with_reducible rfl | simp only [State.admitCol_dev, State.dropOldest_dev, State.lauLatch_dev, State.line_dev, State.tapReserve_dev, State.withScan_dev] | split
@[simp] theorem State.columnSwap_dev (s : State) (t : Nat) (g : Grant) : (State.columnSwap s t g).dev = s.dev := by
  simp only [State.columnSwap, State.finishClose_dev, State.mashTrigger_dev, State.dev_ite, ite_self]
@[simp] theorem State.openColumn_dev (s : State) (t : Nat) (g : Grant) : (State.openColumn s t g).dev = s.dev := by
  simp only [State.openColumn]
  repeat' first | with_reducible rfl | simp only [State.beginString_dev, State.reduceEntry_dev, State.withScan_dev, State.withWort_dev] | split | refine (foldl_dev _ (fun s x => ?_) _ _).trans ?_
@[simp] theorem State.grantAt_dev (s : State) (az : Nat) (rest : List (Nat × Bool)) (t now : Nat) (bad : List Nat) : (State.grantAt s az rest t now bad).dev = s.dev := by
  unfold State.grantAt
  repeat' first | with_reducible rfl | simp only [State.eyeTargets_dev, State.grantFor_dev] | split
@[simp] theorem State.fireTrigger_dev (s : State) (t az : Nat) (rest : List (Nat × Bool)) (bad fue : List Nat) (late : Bool) : (State.fireTrigger s t az rest bad fue late).dev = s.dev := by
  simp only [State.fireTrigger]
  repeat' first | with_reducible rfl | simp only [State.closeColumn_dev, State.columnSwap_dev, State.grantAt_dev, State.guardTrigger_dev, State.incSat_dev, State.latchColumn_dev, State.openColumn_dev, State.raise_dev, State.withScan_dev, State.dev_ite, ite_self] | split
@[simp] theorem State.skipTarget_dev (s : State) (x : Nat × Bool) : (State.skipTarget s x).dev = s.dev := by
  simp only [State.skipTarget, State.guardSkip_dev, State.skipCount_dev, State.withScan_dev, State.wortSkip_dev]
@[simp] theorem State.latePass_dev (s : State) (t : Nat) (xs : List (Nat × Bool)) (bad fue : List Nat) : (State.latePass s t xs bad fue).dev = s.dev := by
  simp only [State.latePass]
  repeat' first | with_reducible rfl | simp only [State.fireTrigger_dev, State.skipTarget_dev] | split | refine (foldl_dev _ (fun s x => ?_) _ _).trans ?_
@[simp] theorem State.grantNow_dev (s : State) (now : Nat) (bad : List Nat) : (State.grantNow s now bad).dev = s.dev := by
  simp only [State.grantNow]
  repeat' first | with_reducible rfl | simp only [State.eyeTargets_dev, State.grantDue_dev] | split
theorem execMsnsSample_dev (convs : List Conv) (t : Nat) (bad fue : List Nat) (s : State) : Out.dev s.dev (execMsnsSample convs t bad fue s) = s.dev := by
  simp only [execMsnsSample, State.adcEnd_dev, State.grantNow_dev, State.latePass_dev, State.mirrorLoop_dev, State.msnsBase_dev, ite_self, Out.dev_next, Out.dev_ite]
theorem execSweepStart_dev (t : Nat) (s : State) : Out.dev s.dev (execSweepStart t s) = s.dev := by
  simp only [execSweepStart, State.guardSweepBegin_dev, State.lockInterval_dev, State.sweepStart_dev, State.withScan_dev, State.dev_ite, ite_self, Out.dev_next]
  repeat' first | with_reducible rfl | simp only [State.skipTarget_dev] | split | refine (foldl_dev _ (fun s x => ?_) _ _).trans ?_
theorem execStrokeEnd_dev (t : Nat) (s : State) : Out.dev s.dev (execStrokeEnd t s) = s.dev := by
  simp only [execStrokeEnd, State.flybackInject_dev, State.strokeEnd_dev, State.dev_ite, Out.dev_next, Out.dev_ite]
  repeat' first | with_reducible rfl | simp only [State.flybackInject_dev, State.scheduleD_dev, State.skipTarget_dev, State.strokeEnd_dev, State.dev_ite, ite_self] | split | refine (foldl_dev _ (fun s x => ?_) _ _).trans ?_
theorem execKilnGrant_dev (now : Nat) (bad : List Nat) (s : State) : Out.dev s.dev (execKilnGrant now bad s) = s.dev := by
  simp only [execKilnGrant, State.grantNow_dev, Out.dev_next]
theorem execTrigger_dev (t : Nat) (bad fue : List Nat) (s : State) : Out.dev s.dev (execTrigger t bad fue s) = s.dev := by
  simp only [execTrigger, Out.dev_next, Out.dev_ite]
  repeat' first | with_reducible rfl | simp only [State.fireTrigger_dev, State.dev_ite, ite_self, Out.dev_next] | split
theorem execStareTrigger_dev (t : Nat) (bad fue : List Nat) (s : State) : Out.dev s.dev (execStareTrigger t bad fue s) = s.dev := by
  simp only [execStareTrigger, State.fireTrigger_dev, State.guardSweepBegin_dev, State.raiseIf_dev, State.sweepBegin_dev, State.takeRegion_dev, State.withScan_dev, State.dev_ite, ite_self, Out.dev_next, Out.dev_ite]
theorem execHoldoffExpiry_dev (t : Nat) (bad : List Nat) (s : State) (fue : List Nat) : Out.dev s.dev (execHoldoffExpiry t bad s fue) = s.dev := by
  simp only [execHoldoffExpiry, State.grantNow_dev, State.latePass_dev, State.withScan_dev, State.dev_ite, ite_self, Out.dev_next, Out.dev_ite]
theorem execTunClearDone_dev (t : Nat) (bad fue : List Nat) (s : State) : Out.dev s.dev (execTunClearDone t bad fue s) = s.dev := by
  simp only [execTunClearDone, State.grantNow_dev, State.latePass_dev, State.setB_dev, State.withScan_dev, State.dev_ite, ite_self, Out.dev_next, Out.dev_ite]
@[simp] theorem State.shotFired_dev (s : State) (n t : Nat) (y : NextShot) : (State.shotFired s n t y).dev = s.dev := by
  simp only [State.shotFired, State.adcFired_dev, State.chargeCells_dev, State.chargeModels_dev, State.emxRelatch_dev, State.incMod_dev, State.setStr_dev, State.withPins_dev]
@[simp] theorem State.plannedFired_dev (s : State) (n i t : Nat) (y : NextShot) : (State.plannedFired s n i t y).dev = s.dev := by
  simp only [State.plannedFired]
  repeat' first | with_reducible rfl | simp only [State.openWindow_dev, State.reduceEntry_dev, State.spend_dev, State.withEmit_dev, State.withScan_dev, State.dev_ite, ite_self] | split | refine (foldl_dev _ (fun s x => ?_) _ _).trans ?_
@[simp] theorem State.plannedOver_dev (s : State) (n : Nat) (y : NextShot) : (State.plannedOver s n y).dev = s.dev := by
  simp only [State.plannedOver, State.scheduleD_dev, State.setF_dev, State.setStr_dev]
theorem execFire_dev (n t : Nat) (s : State) : Out.dev s.dev (execFire n t s) = s.dev := by
  simp only [execFire]
  repeat' first | with_reducible rfl | simp only [State.isoPlace_dev, State.plannedFired_dev, State.plannedOver_dev, State.raiseIf_dev, State.reduceEntry_dev, State.scheduleD_dev, State.setStr_dev, State.shotFired_dev, State.dev_ite, ite_self, Out.dev_next, Out.dev_ite] | split
theorem execClusterPowerOn_dev (k : Nat) (s : State) (t : Nat) : Out.dev s.dev (execClusterPowerOn k s t) = s.dev := by
  simp only [execClusterPowerOn, State.spend_dev, State.withScan_dev, ite_self, Out.dev_next, Out.dev_ite]
theorem execClusterPowerOff_dev (k : Nat) (s : State) (t : Nat) : Out.dev s.dev (execClusterPowerOff k s t) = s.dev := by
  simp only [execClusterPowerOff, State.closeExpired_dev, State.withScan_dev, ite_self, Out.dev_next, Out.dev_ite]
@[simp] theorem State.outcome_dev (s : State) (m c : Nat) (o : FieldOut) (shots : Nat) : (State.outcome s m c o shots).dev = s.dev := by
  simp only [State.outcome, State.guardOutcome_dev]
@[simp] theorem State.columnDone_dev (s : State) (m : Nat) : (State.columnDone s m).dev = s.dev := by
  simp only [State.columnDone, State.guardColDone_dev, State.guardSweepEnd_dev, State.lauSummary_dev, State.dev_ite, ite_self]
@[simp] theorem State.closeHist_dev (s : State) (c : Nat) (errs : List (Nat × Bool)) : (State.closeHist s c errs).dev = s.dev := by
  simp only [State.closeHist, State.lauOutcome_dev, State.outcome_dev, State.spargeHist_dev, State.wortDone_dev, State.dev_ite, ite_self]
theorem execHistogramClose_dev (j : Nat) (errs : List (Nat × Nat × Bool)) (s : State) : Out.dev s.dev (execHistogramClose j errs s) = s.dev := by
  simp only [execHistogramClose, State.columnDone_dev, State.withMash_dev, Out.dev_next, Out.dev_ite]
  repeat' first | with_reducible rfl | simp only [State.closeHist_dev] | split | refine (foldl_dev _ (fun s x => ?_) _ _).trans ?_
theorem execLauterExtractDone_dev (c : Nat) (s : State) : Out.dev s.dev (execLauterExtractDone c s) = s.dev := by
  simp only [execLauterExtractDone]
  repeat' first | with_reducible rfl | simp only [State.columnDone_dev, State.lauExtract_dev, State.outcome_dev, State.wortDone_dev, Out.dev_next] | split
theorem execSpargeEnd_dev (t : Nat) (s : State) : Out.dev s.dev (execSpargeEnd t s) = s.dev := by
  simp only [execSpargeEnd, State.finishClose_dev, State.spargeEnd_dev, State.dev_ite, ite_self, Out.dev_next, Out.dev_ite]

/-! ## Modes -/

@[simp] theorem State.endSession_dev (s : State) : (State.endSession s).dev = s.dev := by
  simp only [State.endSession]
  repeat' first | with_reducible rfl | simp only [State.changeAbort_dev, State.withAmp_dev, State.dev_ite, ite_self] | split
@[simp] theorem State.pllaFollow_dev (s : State) : (State.pllaFollow s).dev = s.dev := by
  simp only [State.pllaFollow, State.setB_dev, State.dev_ite, ite_self]
@[simp] theorem State.lockFollow_dev (s : State) : (State.lockFollow s).dev = s.dev := by
  simp only [State.lockFollow, State.setB_dev, State.withScan_dev, State.dev_ite, ite_self]
@[simp] theorem State.seedLfsrs_dev (s : State) : (State.seedLfsrs s).dev = s.dev := by
  simp only [State.seedLfsrs]
  repeat' first | with_reducible rfl | simp only [State.raise_dev, State.setF_dev, State.dev_ite, ite_self] | split | refine (foldl_dev _ (fun s x => ?_) _ _).trans ?_
@[simp] theorem State.dropColumns_dev (s : State) : (State.dropColumns s).dev = s.dev := by
  simp only [State.dropColumns, State.withLau_dev]
  repeat' first | with_reducible rfl | simp only [State.tapFlush_dev, State.wortForget_dev] | split | refine (foldl_dev _ (fun s x => ?_) _ _).trans ?_
@[simp] theorem State.emitIdle_dev (s : State) : (State.emitIdle s).dev = s.dev := by
  simp only [State.emitIdle, State.withEmit_dev, State.withMash_dev]
@[simp] theorem State.scanIdle_dev (s : State) : (State.scanIdle s).dev = s.dev := by
  simp only [State.scanIdle, State.emitIdle_dev]
  repeat' first | with_reducible rfl | simp only [State.followInhibit_dev, State.setB_dev, State.setStr_dev, State.withScan_dev] | split | refine (foldl_dev _ (fun s x => ?_) _ _).trans ?_
@[simp] theorem State.emxOff_dev (s : State) : (State.emxOff s).dev = s.dev := by
  simp only [State.emxOff, State.withEmit_dev]
@[simp] theorem State.scanOff_dev (s : State) (t : Nat) (zero : Bool) : (State.scanOff s t zero).dev = s.dev := by
  simp only [State.scanOff, State.closeColumn_dev, State.columnSwap_dev, State.emxOff_dev, State.emxSendZero_dev, State.hzdAssert_dev, State.latchColumn_dev, State.scanIdle_dev, State.dev_ite, ite_self]
@[simp] theorem State.pinTestStart_dev (s : State) : (State.pinTestStart s).dev = s.dev := by
  simp only [State.pinTestStart, State.setB_dev]
@[simp] theorem State.loopsPark_dev (s : State) : (State.loopsPark s).dev = s.dev := by
  simp only [State.loopsPark]
  repeat' first | with_reducible rfl | simp only [State.loopRun_dev] | split | refine (foldl_dev _ (fun s x => ?_) _ _).trans ?_
theorem execPllaLossOfLock_dev (s : State) : Out.dev s.dev (execPllaLossOfLock s) = s.dev := by
  simp only [execPllaLossOfLock, State.mashInvalid_dev, State.raise_dev, State.setB_dev, State.withEmit_dev, State.dev_ite, ite_self, Out.dev_next, Out.dev_ite]
theorem execPllaRelockTimeout_dev (s : State) : Out.dev s.dev (execPllaRelockTimeout s) = s.dev := by
  simp only [execPllaRelockTimeout, State.raiseReset_dev, State.dev_ite, ite_self, Out.dev_next]
theorem execPllbLossOfLock_dev (s : State) : Out.dev s.dev (execPllbLossOfLock s) = s.dev := by
  simp only [execPllbLossOfLock, State.raise_dev, State.raiseReset_dev, State.setB_dev, ite_self, Out.dev_next, Out.dev_ite]
theorem execTdcBootRunEnd_dev (hits : List (Nat × List Nat)) (s : State) : Out.dev s.dev (execTdcBootRunEnd hits s) = s.dev := by
  simp only [execTdcBootRunEnd, State.bootRunEnd_dev, State.pllaFollow_dev, State.vspadFollow_dev, State.dev_ite, ite_self, Out.dev_next]
theorem execRxCalRun_dev (s : State) : Out.dev s.dev (execRxCalRun s) = s.dev := by
  simp only [execRxCalRun, State.calRun_dev, Out.dev_next]
@[simp] theorem State.msTick_dev (s : State) : (State.msTick s).dev = s.dev := by
  simp only [State.msTick, State.discTick_dev, State.restartTick_dev, State.wdtTick_dev, State.withMs_dev]
theorem execEnDiscSample_dev (s : State) : Out.dev s.dev (execEnDiscSample s) = s.dev := by
  simp only [execEnDiscSample, State.msTick_dev, Out.dev_next]
@[simp] theorem State.msTicks_dev (n : Nat) (s : State) : (State.msTicks n s).dev = s.dev := by
  induction n generalizing s with
  | zero => rfl
  | succ n ih => rw [State.msTicks, ih, State.msTick_dev]
theorem execWdtExpiry_dev (c : Nat) (s : State) : Out.dev s.dev (execWdtExpiry c s) = s.dev := by
  simp only [execWdtExpiry, State.msTicks_dev, State.dev_ite, ite_self, Out.dev_next]

/-! ## Flash -/

@[simp] theorem State.flCmd_dev (s : State) (cmd : Nat) : (State.flCmd s cmd).dev = s.dev := by
  simp only [State.flCmd, State.raise_dev, State.setB_dev, State.withFlOp_dev, State.dev_ite, ite_self]
theorem execFlCmdErase_dev (s : State) : Out.dev s.dev (execFlCmdErase s) = s.dev := by
  simp only [execFlCmdErase, State.flCmd_dev, Out.dev_next]
theorem execFlCmdProgram_dev (s : State) : Out.dev s.dev (execFlCmdProgram s) = s.dev := by
  simp only [execFlCmdProgram, State.flCmd_dev, Out.dev_next]
theorem execFlCmdRead_dev (s : State) : Out.dev s.dev (execFlCmdRead s) = s.dev := by
  simp only [execFlCmdRead, State.flCmd_dev, Out.dev_next]
@[simp] theorem State.flashDo_dev (s : State) (o : FlashOp) : (State.flashDo s o).dev = s.dev := by
  simp only [State.flashDo]
  repeat' first | with_reducible rfl | simp only [State.rset_dev, State.withFlash_dev] | split | refine (foldl_dev _ (fun s x => ?_) _ _).trans ?_
theorem execFlashCmdDone_dev (left : Option (List Byte)) (s : State) : Out.dev s.dev (execFlashCmdDone left s) = s.dev := by
  simp only [execFlashCmdDone]
  repeat' first | with_reducible rfl | simp only [State.flashDo_dev, State.raise_dev, State.setB_dev, State.withFlOp_dev, State.withFlash_dev, State.dev_ite, ite_self, Out.dev_next] | split
@[simp] theorem State.optCmd_dev (s : State) (key : Word) : (State.optCmd s key).dev = s.dev := by
  simp only [State.optCmd, State.nvmPush_dev, State.raise_dev, State.setB_dev, State.dev_ite, ite_self]
theorem execOptCmd_dev (key : Word) (s : State) : Out.dev s.dev (execOptCmd key s) = s.dev := by
  simp only [execOptCmd, State.optCmd_dev, Out.dev_next]
theorem execEmitLostclr_dev (key : Word) (s : State) : Out.dev s.dev (execEmitLostclr key s) = s.dev := by
  simp only [execEmitLostclr, State.lostClear_dev, Out.dev_next]
theorem execScrubStep_dev (mem a err : Nat) (s : State) : Out.dev s.dev (execScrubStep mem a err s) = s.dev := by
  simp only [execScrubStep, Out.dev_next, Out.dev_ite]
  repeat' first | with_reducible rfl | simp only [State.dspCe_dev, State.dspUe_dev, State.planUe_dev, State.wortCe_dev, State.wortUe_dev, State.dev_ite, ite_self] | split

/-! ## Bus -/

@[simp] theorem State.freeze_dev (s : State) (m a info : Nat) (wr : Bool) : (State.freeze s m a info wr).dev = s.dev := by
  simp only [State.freeze, State.logEvent_dev, State.raise_dev, State.raiseReset_dev, State.rset_dev]
@[simp] theorem State.readEffect_dev (s : State) (a : Nat) : (State.readEffect s a).dev = s.dev := by
  simp only [State.readEffect, State.setEth_dev, State.setF_dev, State.tinPop_dev, State.withAdc_dev, State.dev_ite, ite_self]
@[simp] theorem State.readWord_dev (s : State) (a : Nat) : (State.readWord s a).1.dev = s.dev := by
  simp only [State.readWord, State.readEffect_dev, State.dev_ite, ite_self]
@[simp] theorem State.regStore_dev (s : State) (a : Nat) (v : Word) : (State.regStore s a v).dev = s.dev := by
  simp only [State.regStore]
  repeat' first | with_reducible rfl | simp only [State.rset_dev] | split
@[simp] theorem State.caskStore_dev (s : State) (a : Nat) (v : Word) : (State.caskStore s a v).dev = s.dev := by
  simp only [State.caskStore, State.calcfgWrite_dev, State.caskRefuse_dev, State.dev_ite]
  repeat' first | with_reducible rfl | simp only [State.rset_dev] | split
@[simp] theorem State.scanCtrl_dev (s : State) (v : Word) : (State.scanCtrl s v).dev = s.dev := by
  simp only [State.scanCtrl, State.regStore_dev]
@[simp] theorem State.dmaCtrl_dev (s : State) (n : Nat) (v : Word) : (State.dmaCtrl s n v).dev = s.dev := by
  simp only [State.dmaCtrl, State.dmaGo_dev, State.regStore_dev, State.dev_ite, ite_self]
@[simp] theorem State.ctlCtrl_dev (s : State) (v : Word) : (State.ctlCtrl s v).dev = s.dev := by
  simp only [State.ctlCtrl, State.ctlApply_dev, State.lockFollow_dev, State.regStore_dev, State.dev_ite, ite_self]
@[simp] theorem State.adcSrc_dev (s : State) (k : Nat) (v : Word) : (State.adcSrc s k v).dev = s.dev := by
  simp only [State.adcSrc, State.adcGainWritten_dev, State.regStore_dev]
@[simp] theorem State.adcBg_dev (s : State) (v : Word) : (State.adcBg s v).dev = s.dev := by
  simp only [State.adcBg, State.adcChannelWritten_dev, State.regStore_dev]
@[simp] theorem State.adcReq_dev (s : State) (n : Nat) (v : Word) : (State.adcReq s n v).dev = s.dev := by
  simp only [State.adcReq, State.regStore_dev, State.reqGo_dev, State.dev_ite, ite_self]
@[simp] theorem State.snapCtl_dev (s : State) (v : Word) : (State.snapCtl s v).dev = s.dev := by
  simp only [State.snapCtl, State.regStore_dev, State.snapArm_dev, State.dev_ite, ite_self]
@[simp] theorem State.capCtl_dev (s : State) (v : Word) : (State.capCtl s v).dev = s.dev := by
  simp only [State.capCtl, State.capArm_dev, State.regStore_dev, State.dev_ite, ite_self]
@[simp] theorem State.anchShi_dev (s : State) (v : Word) : (State.anchShi s v).dev = s.dev := by
  simp only [State.anchShi, State.anchorCommit_dev, State.regStore_dev]
@[simp] theorem State.regWrite_dev (s : State) (m a : Nat) (v : Word) : (State.regWrite s m a v).dev = s.dev := by
  simp only [State.regWrite]
  repeat' first | with_reducible rfl | simp only [State.adcBg_dev, State.adcFirWritten_dev, State.adcReq_dev, State.adcSrc_dev, State.anchShi_dev, State.calRun_dev, State.capCtl_dev, State.caskStore_dev, State.ctlCtrl_dev, State.dmaCtrl_dev, State.flCmd_dev, State.lostClear_dev, State.lrsGo_dev, State.mbox7_dev, State.optCmd_dev, State.qpop_dev, State.regStore_dev, State.scanCtrl_dev, State.snapCtl_dev, State.timeCtrlWrite_dev, State.timeIncWrite_dev, State.timeOfsWrite_dev, State.timePpsWrite_dev, State.tinCfgWrite_dev, State.txcmdWrite_dev, State.wdtKick_dev, State.dev_ite, ite_self] | split
@[simp] theorem State.writeWord_dev (s : State) (m a : Nat) (v : Word) : (State.writeWord s m a v).dev = s.dev := by
  simp only [State.writeWord, State.msetW_dev, State.raise_dev, State.regWrite_dev, State.dev_ite, ite_self]
@[simp] theorem State.binFound_dev (s : State) (a e : Nat) : (State.binFound s a e).dev = s.dev := by
  simp only [State.binFound, State.binError_dev]
@[simp] theorem State.memErr_dev (s : State) (a n err : Nat) : (State.memErr s a n err).dev = s.dev := by
  simp only [State.memErr]
  repeat' first | with_reducible rfl | simp only [State.binFound_dev, State.dspCe_dev, State.dspUe_dev, State.dev_ite, ite_self] | split | refine (foldl_dev _ (fun s x => ?_) _ _).trans ?_
@[simp] theorem State.busRead_dev (s : State) (m a : Nat) : (State.busRead s m a).1.dev = s.dev := by
  simp only [State.busRead, State.freeze_dev, State.readWord_dev, State.dev_ite, ite_self, apply_ite Prod.fst]
@[simp] theorem State.busWrite_dev (s : State) (m a : Nat) (v : Word) : (State.busWrite s m a v).dev = s.dev := by
  simp only [State.busWrite, State.freeze_dev, State.writeWord_dev, State.dev_ite, ite_self]
@[simp] theorem State.busReadHalf_dev (s : State) (m a : Nat) : (State.busReadHalf s m a).1.dev = s.dev := by
  simp only [State.busReadHalf, State.busRead_dev]
@[simp] theorem State.busWriteHalf_dev (s : State) (m a : Nat) (v : BitVec 16) : (State.busWriteHalf s m a v).dev = s.dev := by
  simp only [State.busWriteHalf, State.caskRefuse_dev, State.freeze_dev, State.msetH_dev, State.dev_ite, ite_self]
theorem execRegisterWrite_dev (m a : Nat) (v : Word) (s : State) : Out.dev s.dev (execRegisterWrite m a v s) = s.dev := by
  simp only [execRegisterWrite, State.busWrite_dev, ite_self, Out.dev_next, Out.dev_ite]
theorem execMashSnapctlArm_dev (ch : Nat) (s : State) : Out.dev s.dev (execMashSnapctlArm ch s) = s.dev := by
  simp only [execMashSnapctlArm, State.snapArm_dev, State.setF_dev, Out.dev_next]
theorem execRxCapctlArm_dev (s : State) : Out.dev s.dev (execRxCapctlArm s) = s.dev := by
  simp only [execRxCapctlArm, State.capArm_dev, Out.dev_next]
theorem execTinCfgWrite_dev (n : Nat) (v : Word) (s : State) : Out.dev s.dev (execTinCfgWrite n v s) = s.dev := by
  simp only [execTinCfgWrite, State.tinCfgWrite_dev, State.dev_ite, ite_self, Out.dev_next]
theorem execWortAnchShiWrite_dev (v : Word) (s : State) : Out.dev s.dev (execWortAnchShiWrite v s) = s.dev := by
  simp only [execWortAnchShiWrite, State.anchShi_dev, Out.dev_next]
@[simp] theorem State.dmaRead_dev (s : State) (m a err : Nat) : (State.dmaRead s m a err).1.dev = s.dev := by
  simp only [State.dmaRead, State.busRead_dev, State.fresh_dev, State.memErr_dev, State.dev_ite, ite_self, apply_ite Prod.fst]
@[simp] theorem State.dmaMove_dev (s : State) (m : Nat) (j : DmaSt) (n i : Nat) (errs : List Nat) : (s.dmaMove m j n i errs).dev = s.dev := by
  induction n generalizing s i errs with
  | zero => rfl
  | succ n ih =>
    unfold State.dmaMove
    dsimp only
    split
    · exact State.dmaRead_dev _ _ _ _
    · split
      · exact (State.busWrite_dev _ _ _ _).trans (State.dmaRead_dev _ _ _ _)
      · exact (ih _ _ _).trans ((State.busWrite_dev _ _ _ _).trans (State.dmaRead_dev _ _ _ _))
theorem execDmaDone_dev (n : Nat) (s : State) (errs : List Nat) : Out.dev s.dev (execDmaDone n s errs) = s.dev := by
  simp only [execDmaDone]
  repeat' first | with_reducible rfl | simp only [State.line_dev, State.setB_dev, State.withDma_dev, State.dmaMove_dev, State.dev_ite, ite_self, Out.dev_next, Out.dev_ite] | split

/-! ## DspCore -/

@[simp] theorem State.dspExc_dev (s : State) (c v : Nat) : (State.dspExc s c v).dev = s.dev := by
  simp only [State.dspExc, State.raise_dev, State.setCore_dev, State.dev_ite, ite_self]
theorem execDspInterruptEntry_dev (c : Nat) (s : State) : Out.dev s.dev (execDspInterruptEntry c s) = s.dev := by
  simp only [execDspInterruptEntry, Out.dev_next, Out.dev_ite]
  repeat' first | with_reducible rfl | simp only [State.coreCycles_dev, State.setCore_dev, ite_self, Out.dev_next, Out.dev_ite] | split
theorem State.issue_dev (s : State) (c : Nat) (k : IKind) (body : State → Eff) (hb : ∀ t, (body t).st.dev = t.dev) :
    Out.dev s.dev (s.issue c k body) = s.dev := by
  unfold State.issue
  split
  · rfl
  · dsimp only
    split
    · simp only [Out.dev_next, State.dspExc_dev, State.modCore_dev]
    · split
      · rfl
      · split
        · simp only [Out.dev_next, State.dspExc_dev, State.setCore_dev, hb, State.modCore_dev]
        · simp only [Out.dev_next, State.coreCycles_dev, State.setCore_dev, hb, State.modCore_dev]
theorem State.alu_dev (s : State) (c : Nat) (g : CoreSt → CoreSt) : Out.dev s.dev (State.alu s c g) = s.dev := by
  unfold State.alu
  refine State.issue_dev _ _ _ _ (fun t => ?_)
  repeat' first | with_reducible rfl | simp only [State.modCore_dev]
theorem State.aluR_dev (s : State) (c d s' t : Nat) (f : Word → Word → Word) : Out.dev s.dev (State.aluR s c d s' t f) = s.dev := by
  simp only [State.aluR, State.alu_dev]
theorem State.aluI_dev (s : State) (c d s' : Nat) (imm : Word) (f : Word → Word → Word) : Out.dev s.dev (State.aluI s c d s' imm f) = s.dev := by
  simp only [State.aluI, State.alu_dev]
theorem State.branch_dev (s : State) (c s' : Nat) (off : BitVec 19) (p : Int → Bool) : Out.dev s.dev (State.branch s c s' off p) = s.dev := by
  unfold State.branch
  refine State.issue_dev _ _ _ _ (fun t => ?_)
  repeat' first | with_reducible rfl
@[simp] theorem State.loadErr_dev (s : State) (c a size err : Nat) : (State.loadErr s c a size err).1.dev = s.dev := by
  simp only [State.loadErr, State.memErr_dev, State.dev_ite, ite_self, apply_ite Prod.fst]
@[simp] theorem State.loadCycles_dev (s : State) (c a : Nat) : (State.loadCycles s c a).2.dev = s.dev := by
  simp only [State.loadCycles, State.fresh_dev, State.dev_ite, ite_self, apply_ite Prod.snd]
theorem State.load_dev (s : State) (c a mode mc : Nat) (imm : BitVec 10) (size err : Nat) (get : State → Nat → State × Option (List (Nat × Word)))
    (hg : ∀ t ad, (get t ad).1.dev = t.dev) : Out.dev s.dev (s.load c a mode mc imm size err get) = s.dev := by
  unfold State.load
  refine State.issue_dev _ _ _ _ (fun t => ?_)
  dsimp only
  split
  · rfl
  · split
    · rfl
    · split
      · exact State.loadErr_dev _ _ _ _ _
      · split
        · exact (hg _ _).trans (State.loadErr_dev _ _ _ _ _)
        · simp only [State.modCore_dev, State.loadCycles_dev, hg, State.loadErr_dev]
theorem State.store_dev (s : State) (c a mode mc : Nat) (imm : BitVec 10) (size : Nat) (put : State → Nat → State)
    (hp : ∀ t ad, (put t ad).dev = t.dev) : Out.dev s.dev (s.store c a mode mc imm size put) = s.dev := by
  unfold State.store
  refine State.issue_dev _ _ _ _ (fun t => ?_)
  dsimp only
  split
  · rfl
  · split
    · rfl
    · simp only [State.modCore_dev, hp]
@[simp] theorem State.readPair_dev (s : State) (c d ad : Nat) : (State.readPair s c d ad).1.dev = s.dev := by
  simp only [State.readPair]
  repeat' first | with_reducible rfl | simp only [State.busRead_dev] | split
@[simp] theorem State.writePair_dev (s : State) (c ad : Nat) (v w : Word) : (State.writePair s c ad v w).dev = s.dev := by
  simp only [State.writePair, State.busWrite_dev, State.dev_ite, ite_self]
theorem execDspException_dev (c : Nat) (w : Option Word) (s : State) : Out.dev s.dev (execDspException c w s) = s.dev := by
  simp only [execDspException, Out.dev_next, Out.dev_ite]
  repeat' first | with_reducible rfl | simp only [State.dspExc_dev, State.dspUe_dev, State.modCore_dev, Out.dev_next] | split

/-! ## DspInstr -/

theorem execDspAdd_dev (c d s' t : Nat) (s : State) : Out.dev s.dev (execDspAdd c d s' t s) = s.dev := by
  simp only [execDspAdd, State.aluR_dev]
theorem execDspSub_dev (c d s' t : Nat) (s : State) : Out.dev s.dev (execDspSub c d s' t s) = s.dev := by
  simp only [execDspSub, State.aluR_dev]
theorem execDspAdds_dev (c d s' t : Nat) (s : State) : Out.dev s.dev (execDspAdds c d s' t s) = s.dev := by
  simp only [execDspAdds, State.alu_dev]
theorem execDspSubs_dev (c d s' t : Nat) (s : State) : Out.dev s.dev (execDspSubs c d s' t s) = s.dev := by
  simp only [execDspSubs, State.alu_dev]
theorem execDspAnd_dev (c d s' t : Nat) (s : State) : Out.dev s.dev (execDspAnd c d s' t s) = s.dev := by
  simp only [execDspAnd, State.aluR_dev]
theorem execDspOr_dev (c d s' t : Nat) (s : State) : Out.dev s.dev (execDspOr c d s' t s) = s.dev := by
  simp only [execDspOr, State.aluR_dev]
theorem execDspXor_dev (c d s' t : Nat) (s : State) : Out.dev s.dev (execDspXor c d s' t s) = s.dev := by
  simp only [execDspXor, State.aluR_dev]
theorem execDspSll_dev (c d s' t : Nat) (s : State) : Out.dev s.dev (execDspSll c d s' t s) = s.dev := by
  simp only [execDspSll, State.aluR_dev]
theorem execDspSrl_dev (c d s' t : Nat) (s : State) : Out.dev s.dev (execDspSrl c d s' t s) = s.dev := by
  simp only [execDspSrl, State.aluR_dev]
theorem execDspSra_dev (c d s' t : Nat) (s : State) : Out.dev s.dev (execDspSra c d s' t s) = s.dev := by
  simp only [execDspSra, State.aluR_dev]
theorem execDspMin_dev (c d s' t : Nat) (s : State) : Out.dev s.dev (execDspMin c d s' t s) = s.dev := by
  simp only [execDspMin, State.aluR_dev]
theorem execDspMax_dev (c d s' t : Nat) (s : State) : Out.dev s.dev (execDspMax c d s' t s) = s.dev := by
  simp only [execDspMax, State.aluR_dev]
theorem execDspCmplt_dev (c d s' t : Nat) (s : State) : Out.dev s.dev (execDspCmplt c d s' t s) = s.dev := by
  simp only [execDspCmplt, State.aluR_dev]
theorem execDspCmpltu_dev (c d s' t : Nat) (s : State) : Out.dev s.dev (execDspCmpltu c d s' t s) = s.dev := by
  simp only [execDspCmpltu, State.aluR_dev]
theorem execDspCmpeq_dev (c d s' t : Nat) (s : State) : Out.dev s.dev (execDspCmpeq c d s' t s) = s.dev := by
  simp only [execDspCmpeq, State.aluR_dev]
theorem execDspMull_dev (c d s' t : Nat) (s : State) : Out.dev s.dev (execDspMull c d s' t s) = s.dev := by
  simp only [execDspMull, State.aluR_dev]
theorem execDspMulh_dev (c d s' t : Nat) (s : State) : Out.dev s.dev (execDspMulh c d s' t s) = s.dev := by
  simp only [execDspMulh, State.aluR_dev]
theorem execDspAbs_dev (c d s' : Nat) (s : State) : Out.dev s.dev (execDspAbs c d s' s) = s.dev := by
  simp only [execDspAbs, State.alu_dev]
theorem execDspClz_dev (c d s' : Nat) (s : State) : Out.dev s.dev (execDspClz c d s' s) = s.dev := by
  simp only [execDspClz, State.alu_dev]
theorem execDspPack_dev (c d s' t : Nat) (s : State) : Out.dev s.dev (execDspPack c d s' t s) = s.dev := by
  simp only [execDspPack, State.aluR_dev]
theorem execDspAddi_dev (c d s' : Nat) (imm : BitVec 14) (s : State) : Out.dev s.dev (execDspAddi c d s' imm s) = s.dev := by
  simp only [execDspAddi, State.aluI_dev]
theorem execDspAndi_dev (c d s' : Nat) (imm : BitVec 14) (s : State) : Out.dev s.dev (execDspAndi c d s' imm s) = s.dev := by
  simp only [execDspAndi, State.aluI_dev]
theorem execDspOri_dev (c d s' : Nat) (imm : BitVec 14) (s : State) : Out.dev s.dev (execDspOri c d s' imm s) = s.dev := by
  simp only [execDspOri, State.aluI_dev]
theorem execDspXori_dev (c d s' : Nat) (imm : BitVec 14) (s : State) : Out.dev s.dev (execDspXori c d s' imm s) = s.dev := by
  simp only [execDspXori, State.aluI_dev]
theorem execDspSlli_dev (c d s' : Nat) (imm : BitVec 14) (s : State) : Out.dev s.dev (execDspSlli c d s' imm s) = s.dev := by
  simp only [execDspSlli, State.aluI_dev]
theorem execDspSrli_dev (c d s' : Nat) (imm : BitVec 14) (s : State) : Out.dev s.dev (execDspSrli c d s' imm s) = s.dev := by
  simp only [execDspSrli, State.aluI_dev]
theorem execDspSrai_dev (c d s' : Nat) (imm : BitVec 14) (s : State) : Out.dev s.dev (execDspSrai c d s' imm s) = s.dev := by
  simp only [execDspSrai, State.aluI_dev]
theorem execDspCmplti_dev (c d s' : Nat) (imm : BitVec 14) (s : State) : Out.dev s.dev (execDspCmplti c d s' imm s) = s.dev := by
  simp only [execDspCmplti, State.aluI_dev]
theorem execDspCmpeqi_dev (c d s' : Nat) (imm : BitVec 14) (s : State) : Out.dev s.dev (execDspCmpeqi c d s' imm s) = s.dev := by
  simp only [execDspCmpeqi, State.aluI_dev]
theorem execDspMovl_dev (c d : Nat) (imm : BitVec 16) (s : State) : Out.dev s.dev (execDspMovl c d imm s) = s.dev := by
  simp only [execDspMovl, State.alu_dev]
theorem execDspMovh_dev (c d : Nat) (imm : BitVec 16) (s : State) : Out.dev s.dev (execDspMovh c d imm s) = s.dev := by
  simp only [execDspMovh, State.alu_dev]
theorem execDspLdw_dev (c d a mode mc : Nat) (imm : BitVec 10) (err : Nat) (s : State) : Out.dev s.dev (execDspLdw c d a mode mc imm err s) = s.dev := by
  unfold execDspLdw
  refine State.load_dev _ _ _ _ _ _ _ _ _ (fun t ad => ?_)
  repeat' first | with_reducible rfl | simp only [State.busRead_dev]
theorem execDspLdh_dev (c d a mode mc : Nat) (imm : BitVec 10) (err : Nat) (s : State) : Out.dev s.dev (execDspLdh c d a mode mc imm err s) = s.dev := by
  unfold execDspLdh
  refine State.load_dev _ _ _ _ _ _ _ _ _ (fun t ad => ?_)
  repeat' first | with_reducible rfl | simp only [State.busReadHalf_dev]
theorem execDspLdhu_dev (c d a mode mc : Nat) (imm : BitVec 10) (err : Nat) (s : State) : Out.dev s.dev (execDspLdhu c d a mode mc imm err s) = s.dev := by
  unfold execDspLdhu
  refine State.load_dev _ _ _ _ _ _ _ _ _ (fun t ad => ?_)
  repeat' first | with_reducible rfl | simp only [State.busReadHalf_dev]
theorem execDspLdd_dev (c d a mode mc : Nat) (imm : BitVec 10) (err : Nat) (s : State) : Out.dev s.dev (execDspLdd c d a mode mc imm err s) = s.dev := by
  unfold execDspLdd
  refine State.load_dev _ _ _ _ _ _ _ _ _ (fun t ad => ?_)
  repeat' first | with_reducible rfl | simp only [State.readPair_dev]
theorem execDspStw_dev (c d a mode mc : Nat) (imm : BitVec 10) (s : State) : Out.dev s.dev (execDspStw c d a mode mc imm s) = s.dev := by
  unfold execDspStw
  refine State.store_dev _ _ _ _ _ _ _ _ (fun t ad => ?_)
  repeat' first | with_reducible rfl | simp only [State.busWrite_dev]
theorem execDspSth_dev (c d a mode mc : Nat) (imm : BitVec 10) (s : State) : Out.dev s.dev (execDspSth c d a mode mc imm s) = s.dev := by
  unfold execDspSth
  refine State.store_dev _ _ _ _ _ _ _ _ (fun t ad => ?_)
  repeat' first | with_reducible rfl | simp only [State.busWriteHalf_dev]
theorem execDspStd_dev (c d a mode mc : Nat) (imm : BitVec 10) (s : State) : Out.dev s.dev (execDspStd c d a mode mc imm s) = s.dev := by
  unfold execDspStd
  refine State.store_dev _ _ _ _ _ _ _ _ (fun t ad => ?_)
  repeat' first | with_reducible rfl | simp only [State.writePair_dev]
theorem execDspQmpy_dev (c xr : Nat) (xh : Bool) (yp : Nat) (sw : Bool) (neg : Nat) (s : State) : Out.dev s.dev (execDspQmpy c xr xh yp sw neg s) = s.dev := by
  simp only [execDspQmpy, State.alu_dev]
theorem execDspQmac_dev (c xr : Nat) (xh : Bool) (yp : Nat) (sw : Bool) (neg : Nat) (s : State) : Out.dev s.dev (execDspQmac c xr xh yp sw neg s) = s.dev := by
  simp only [execDspQmac, State.alu_dev]
theorem execDspQclr_dev (c : Nat) (s : State) : Out.dev s.dev (execDspQclr c s) = s.dev := by
  simp only [execDspQclr, State.alu_dev]
theorem execDspMva_dev (c g n : Nat) (rnd : Bool) (sh : Nat) (s : State) : Out.dev s.dev (execDspMva c g n rnd sh s) = s.dev := by
  simp only [execDspMva, State.alu_dev]
theorem execDspMval_dev (c g n : Nat) (s : State) : Out.dev s.dev (execDspMval c g n s) = s.dev := by
  simp only [execDspMval, State.alu_dev]
theorem execDspMvah_dev (c g n : Nat) (s : State) : Out.dev s.dev (execDspMvah c g n s) = s.dev := by
  simp only [execDspMvah, State.alu_dev]
theorem execDspMvag_dev (c g n : Nat) (s : State) : Out.dev s.dev (execDspMvag c g n s) = s.dev := by
  simp only [execDspMvag, State.alu_dev]
theorem execDspMta_dev (c g n sh : Nat) (s : State) : Out.dev s.dev (execDspMta c g n sh s) = s.dev := by
  simp only [execDspMta, State.alu_dev]
theorem execDspAdda_dev (c n m : Nat) (s : State) : Out.dev s.dev (execDspAdda c n m s) = s.dev := by
  simp only [execDspAdda, State.alu_dev]
theorem execDspSha_dev (c n : Nat) (left : Bool) (sh : Nat) (s : State) : Out.dev s.dev (execDspSha c n left sh s) = s.dev := by
  simp only [execDspSha, State.alu_dev]
theorem execDspBra_dev (c s' : Nat) (off : BitVec 19) (s : State) : Out.dev s.dev (execDspBra c s' off s) = s.dev := by
  simp only [execDspBra, State.branch_dev]
theorem execDspBeq_dev (c s' : Nat) (off : BitVec 19) (s : State) : Out.dev s.dev (execDspBeq c s' off s) = s.dev := by
  simp only [execDspBeq, State.branch_dev]
theorem execDspBne_dev (c s' : Nat) (off : BitVec 19) (s : State) : Out.dev s.dev (execDspBne c s' off s) = s.dev := by
  simp only [execDspBne, State.branch_dev]
theorem execDspBlt_dev (c s' : Nat) (off : BitVec 19) (s : State) : Out.dev s.dev (execDspBlt c s' off s) = s.dev := by
  simp only [execDspBlt, State.branch_dev]
theorem execDspBge_dev (c s' : Nat) (off : BitVec 19) (s : State) : Out.dev s.dev (execDspBge c s' off s) = s.dev := by
  simp only [execDspBge, State.branch_dev]
theorem execDspBgt_dev (c s' : Nat) (off : BitVec 19) (s : State) : Out.dev s.dev (execDspBgt c s' off s) = s.dev := by
  simp only [execDspBgt, State.branch_dev]
theorem execDspBle_dev (c s' : Nat) (off : BitVec 19) (s : State) : Out.dev s.dev (execDspBle c s' off s) = s.dev := by
  simp only [execDspBle, State.branch_dev]
theorem execDspCall_dev (c : Nat) (off : BitVec 19) (s : State) : Out.dev s.dev (execDspCall c off s) = s.dev := by
  unfold execDspCall
  refine State.issue_dev _ _ _ _ (fun t => ?_)
  repeat' first | with_reducible rfl | simp only [State.setCore_dev]
theorem execDspJr_dev (c s' : Nat) (s : State) : Out.dev s.dev (execDspJr c s' s) = s.dev := by
  unfold execDspJr
  refine State.issue_dev _ _ _ _ (fun t => ?_)
  repeat' first | with_reducible rfl
theorem execDspJalr_dev (c s' : Nat) (s : State) : Out.dev s.dev (execDspJalr c s' s) = s.dev := by
  unfold execDspJalr
  refine State.issue_dev _ _ _ _ (fun t => ?_)
  repeat' first | with_reducible rfl | simp only [State.setCore_dev]
theorem execDspRti_dev (c : Nat) (s : State) : Out.dev s.dev (execDspRti c s) = s.dev := by
  unfold execDspRti
  refine State.issue_dev _ _ _ _ (fun t => ?_)
  repeat' first | with_reducible rfl | simp only [State.setCore_dev]
theorem execDspNop_dev (c : Nat) (s : State) : Out.dev s.dev (execDspNop c s) = s.dev := by
  simp only [execDspNop, State.alu_dev]
theorem execDspIdle_dev (c : Nat) (s : State) : Out.dev s.dev (execDspIdle c s) = s.dev := by
  unfold execDspIdle
  refine State.issue_dev _ _ _ _ (fun t => ?_)
  repeat' first | with_reducible rfl
theorem execDspEi_dev (c : Nat) (s : State) : Out.dev s.dev (execDspEi c s) = s.dev := by
  unfold execDspEi
  refine State.issue_dev _ _ _ _ (fun t => ?_)
  repeat' first | with_reducible rfl | simp only [State.modCore_dev]
theorem execDspDi_dev (c : Nat) (s : State) : Out.dev s.dev (execDspDi c s) = s.dev := by
  simp only [execDspDi, State.alu_dev]
theorem execDspCsrr_dev (c g n : Nat) (s : State) : Out.dev s.dev (execDspCsrr c g n s) = s.dev := by
  unfold execDspCsrr
  refine State.issue_dev _ _ _ _ (fun t => ?_)
  repeat' first | with_reducible rfl | simp only [State.modCore_dev] | split
theorem execDspCsrw_dev (c g n : Nat) (s : State) : Out.dev s.dev (execDspCsrw c g n s) = s.dev := by
  unfold execDspCsrw
  refine State.issue_dev _ _ _ _ (fun t => ?_)
  repeat' first | with_reducible rfl | simp only [State.withLines_dev] | split
theorem execDspTrap_dev (c : Nat) (s : State) : Out.dev s.dev (execDspTrap c s) = s.dev := by
  unfold execDspTrap
  refine State.issue_dev _ _ _ _ (fun t => ?_)
  repeat' first | with_reducible rfl
theorem execDspSync_dev (c : Nat) (s : State) : Out.dev s.dev (execDspSync c s) = s.dev := by
  simp only [execDspSync, State.alu_dev]
theorem execDspRepeat_dev (c : Nat) (src : Option Nat) (n1 : Nat) (s : State) : Out.dev s.dev (execDspRepeat c src n1 s) = s.dev := by
  unfold execDspRepeat
  refine State.issue_dev _ _ _ _ (fun t => ?_)
  repeat' first | with_reducible rfl
theorem execDspLoop_dev (c : Nat) (src : Option Nat) (len1 n1 : Nat) (s : State) : Out.dev s.dev (execDspLoop c src len1 n1 s) = s.dev := by
  unfold execDspLoop
  dsimp only
  split
  · rfl
  · exact State.issue_dev _ _ _ _ (fun t => rfl)

/-! ## Amp -/

@[simp] theorem State.ampSend_dev (s : State) (r : AmpReq) (m : List Byte) : (State.ampSend s r m).dev = s.dev := by
  simp only [State.ampSend]
  repeat' first | with_reducible rfl | simp only [State.arpAsk_dev, State.ethSend_dev, State.raise_dev, State.sidePush_dev, State.withAmp_dev, State.withRst_dev, State.dev_ite, ite_self] | split
@[simp] theorem State.ampAnswer_dev (s : State) (r : AmpReq) (status : Nat) (pay : List Byte) : (State.ampAnswer s r status pay).dev = s.dev := by
  simp only [State.ampAnswer, State.ampSend_dev, State.incSat_dev, State.dev_ite, ite_self]
@[simp] theorem State.ampSettle_dev (n : Nat) (s : State) : (State.ampSettle n s).dev = s.dev := by
  induction n generalizing s with
  | zero => rfl
  | succ n ih =>
    unfold State.ampSettle
    split
    · rfl
    · split
      · rfl
      · split
        · rfl
        · dsimp only
          rw [ih]
          split
          · rw [State.ampSend_dev, State.withAmp_dev]
          · rw [State.ampAnswer_dev, State.withAmp_dev]
@[simp] theorem State.ampGo_dev (s : State) : (State.ampGo s).dev = s.dev := by
  simp only [State.ampGo, State.ampSettle_dev]
@[simp] theorem State.ampDrop_dev (s : State) (counter : Fld) : (State.ampDrop s counter).dev = s.dev := by
  simp only [State.ampDrop, State.incSat_dev, State.raise_dev]
@[simp] theorem State.ampAdmit_dev (s : State) (r : AmpReq) : (State.ampAdmit s r).dev = s.dev := by
  simp only [State.ampAdmit, State.ampDrop_dev, State.ampGo_dev, State.withAmp_dev, State.dev_ite, ite_self]
@[simp] theorem State.ampArrive_dev (s : State) (src : AmpSrc) (port sport : Nat) (m : List Byte) : (State.ampArrive s src port sport m).dev = s.dev := by
  simp only [State.ampArrive, State.ampAdmit_dev, State.incSat_dev, State.dev_ite, ite_self]
theorem execAmpEthDatagram_dev (p : Nat) (s : State) (par : Bool) : Out.dev s.dev (execAmpEthDatagram p s par) = s.dev := by
  simp only [execAmpEthDatagram, Out.dev_next, Out.dev_ite]
  repeat' first | with_reducible rfl | simp only [State.ampArrive_dev, State.incSat_dev, State.qstat_dev, State.raise_dev, State.setEth_dev, ite_self, Out.dev_next, Out.dev_ite] | split
@[simp] theorem State.ampWake_dev (s : State) (m : List Byte) : (State.ampWake s m).dev = s.dev := by
  simp only [State.ampWake, State.withParkWake_dev, State.dev_ite, ite_self]
theorem execAmpDwlSideband_dev (lane : Nat) (ws : List Word) (crcOk : Bool) (s : State) : Out.dev s.dev (execAmpDwlSideband lane ws crcOk s) = s.dev := by
  simp only [execAmpDwlSideband, State.ampArrive_dev, State.ampWake_dev, State.incSat_dev, State.raise_dev, ite_self, Out.dev_next, Out.dev_ite]
theorem execMspiWrite_dev (m : List Byte) (crc : Word) (s : State) : Out.dev s.dev (execMspiWrite m crc s) = s.dev := by
  simp only [execMspiWrite, State.ampArrive_dev, State.ampWake_dev, State.incSat_dev, ite_self, Out.dev_next, Out.dev_ite]
theorem execMspiRead_dev (all : Bool) (s : State) : Out.dev s.dev (execMspiRead all s) = s.dev := by
  simp only [execMspiRead, State.withAmp_dev, State.dev_ite, ite_self, Out.dev_next]
theorem execMspiStatus_dev (s : State) : Out.dev s.dev (execMspiStatus s) = s.dev := by
  simp only [execMspiStatus, Out.dev_next]
theorem execAmpWindowEnd_dev (src : AmpSrc) (s : State) : Out.dev s.dev (execAmpWindowEnd src s) = s.dev := by
  simp only [execAmpWindowEnd, State.withAmp_dev, Out.dev_next]
theorem State.ampExec_dev (s : State) (cmd : Nat) (legal : AmpReq → Bool) (body : State → AmpReq → State) (hb : ∀ t r, (body t r).dev = t.dev) :
    Out.dev s.dev (s.ampExec cmd legal body) = s.dev := by
  unfold State.ampExec
  split
  · rfl
  · split
    · rfl
    · split
      · rfl
      · dsimp only
        split
        · simp only [Out.dev_next, State.ampGo_dev, State.ampSend_dev, State.withAmp_dev]
        · simp only [Out.dev_next, State.ampGo_dev]
          split
          · exact (hb _ _).trans (State.withAmp_dev _ _)
          · exact (State.ampAnswer_dev _ _ _ _).trans (State.withAmp_dev _ _)
@[simp] theorem State.ampReads_dev (n : Nat) (s : State) (a : Nat) (errs : List Nat) : (State.ampReads n s a errs).1.dev = s.dev := by
  induction n generalizing s a errs with
  | zero => rfl
  | succ n ih =>
    unfold State.ampReads
    generalize (if blockAt a = true then 0 else errs.headD 0) = e
    dsimp only
    split
    · exact State.memErr_dev _ _ _ _
    · exact (ih _ _ _).trans ((State.readWord_dev _ _).trans (State.memErr_dev _ _ _ _))
@[simp] theorem State.ampGet_dev (s : State) (r : AmpReq) (errs : List Nat) : (State.ampGet s r errs).dev = s.dev := by
  simp only [State.ampGet, State.ampAnswer_dev, State.ampReads_dev, State.dev_ite, ite_self]
theorem execGet_dev (errs : List Nat) (s : State) : Out.dev s.dev (execGet errs s) = s.dev := by
  unfold execGet
  refine State.ampExec_dev _ _ _ _ (fun t r => ?_)
  repeat' first | with_reducible rfl | simp only [State.ampGet_dev]
@[simp] theorem State.ampPut_dev (s : State) (t : Nat × Word × Word) : (State.ampPut s t).dev = s.dev := by
  simp only [State.ampPut, State.writeWord_dev]
@[simp] theorem State.ampSet_dev (s : State) (r : AmpReq) : (State.ampSet s r).dev = s.dev := by
  simp only [State.ampSet, State.ampAnswer_dev, State.dev_ite]
  repeat' first | with_reducible rfl | simp only [State.ampPut_dev] | split | refine (foldl_dev _ (fun s x => ?_) _ _).trans ?_
theorem execSet_dev (s : State) : Out.dev s.dev (execSet s) = s.dev := by
  unfold execSet
  refine State.ampExec_dev _ _ _ _ (fun t r => ?_)
  repeat' first | with_reducible rfl | simp only [State.ampSet_dev]
@[simp] theorem State.ampLog_dev (s : State) (r : AmpReq) : (State.ampLog s r).dev = s.dev := by
  simp only [State.ampLog, State.ampAnswer_dev, State.dev_ite, ite_self]
theorem execLogRead_dev (s : State) : Out.dev s.dev (execLogRead s) = s.dev := by
  unfold execLogRead
  refine State.ampExec_dev _ _ _ _ (fun t r => ?_)
  repeat' first | with_reducible rfl | simp only [State.ampLog_dev]
@[simp] theorem State.ampCask_dev (s : State) (r : AmpReq) : (State.ampCask s r).dev = s.dev := by
  simp only [State.ampCask, State.ampAnswer_dev, State.dev_ite, ite_self]
theorem execCaskInfo_dev (s : State) : Out.dev s.dev (execCaskInfo s) = s.dev := by
  unfold execCaskInfo
  refine State.ampExec_dev _ _ _ _ (fun t r => ?_)
  repeat' first | with_reducible rfl | simp only [State.ampCask_dev]
@[simp] theorem State.ampStart_dev (s : State) (r : AmpReq) : (State.ampStart s r).dev = s.dev := by
  simp only [State.ampStart, State.ampAnswer_dev, State.endSession_dev, State.setB_dev, State.dev_ite, ite_self]
theorem execStart_dev (s : State) : Out.dev s.dev (execStart s) = s.dev := by
  unfold execStart
  refine State.ampExec_dev _ _ _ _ (fun t r => ?_)
  repeat' first | with_reducible rfl | simp only [State.ampStart_dev]
@[simp] theorem State.ampPark_dev (s : State) (r : AmpReq) : (State.ampPark s r).dev = s.dev := by
  simp only [State.ampPark, State.ampAnswer_dev, State.endSession_dev, State.setB_dev, State.withRst_dev, State.withScan_dev, State.dev_ite, ite_self]
theorem execPark_dev (s : State) : Out.dev s.dev (execPark s) = s.dev := by
  unfold execPark
  refine State.ampExec_dev _ _ _ _ (fun t r => ?_)
  repeat' first | with_reducible rfl | simp only [State.ampPark_dev]
@[simp] theorem State.ampResetCmd_dev (s : State) (r : AmpReq) : (State.ampResetCmd s r).dev = s.dev := by
  simp only [State.ampResetCmd, State.ampAnswer_dev, State.withRst_dev, State.dev_ite, ite_self]
theorem execReset_dev (s : State) : Out.dev s.dev (execReset s) = s.dev := by
  unfold execReset
  refine State.ampExec_dev _ _ _ _ (fun t r => ?_)
  repeat' first | with_reducible rfl | simp only [State.ampResetCmd_dev]
theorem execAmpResetEffect_dev (s : State) : Out.dev s.dev (execAmpResetEffect s) = s.dev := by
  simp only [execAmpResetEffect, State.raiseReset_dev, State.dev_ite, ite_self, Out.dev_next]
@[simp] theorem State.ampAuth_dev (s : State) (r : AmpReq) : (State.ampAuth s r).dev = s.dev := by
  simp only [State.ampAuth, State.ampAnswer_dev, State.endSession_dev, State.fresh_dev, State.raise_dev, State.raiseIf_dev, State.withAmp_dev, State.dev_ite, ite_self]
theorem execAuth_dev (s : State) : Out.dev s.dev (execAuth s) = s.dev := by
  unfold execAuth
  refine State.ampExec_dev _ _ _ _ (fun t r => ?_)
  repeat' first | with_reducible rfl | simp only [State.ampAuth_dev]
theorem State.ampChange_dev (s : State) (op : Nat) (inOrder : Bool) (body : State → AmpReq → Nat → State) (hb : ∀ t r u, (body t r u).dev = t.dev) :
    Out.dev s.dev (s.ampChange op inOrder body) = s.dev := by
  unfold State.ampChange
  split
  · rfl
  · split
    · rfl
    · refine State.ampExec_dev _ _ _ _ (fun t r => ?_)
      split
      · exact State.ampAnswer_dev _ _ _ _
      · dsimp only
        split
        · exact (State.ampAnswer_dev _ _ _ _).trans (State.withAmp_dev _ _)
        · exact (hb _ _ _).trans (State.withAmp_dev _ _)
theorem execGuardChangeBegin_dev (s : State) : Out.dev s.dev (execGuardChangeBegin s) = s.dev := by
  unfold execGuardChangeBegin
  repeat' first | with_reducible rfl | refine State.ampChange_dev _ _ _ _ (fun t r u => ?_) | simp only [State.ampAnswer_dev, State.changeBegin_dev, Out.dev_next, Out.dev_ite] | split
@[simp] theorem State.changeData_dev (s : State) (r : AmpReq) : (State.changeData s r).dev = s.dev := by
  simp only [State.changeData, State.ampAnswer_dev, State.dev_ite]
  repeat' first | with_reducible rfl | simp only [State.ampAnswer_dev, State.changeWord_dev, State.setB_dev, State.dev_ite, ite_self] | split | refine (foldl_dev _ (fun s x => ?_) _ _).trans ?_
theorem execGuardChangeData_dev (s : State) : Out.dev s.dev (execGuardChangeData s) = s.dev := by
  unfold execGuardChangeData
  refine State.ampChange_dev _ _ _ _ (fun t r u => ?_)
  repeat' first | with_reducible rfl | simp only [State.changeData_dev]
theorem execGuardChangeCommit_dev (s : State) : Out.dev s.dev (execGuardChangeCommit s) = s.dev := by
  unfold execGuardChangeCommit
  refine State.ampChange_dev _ _ _ _ (fun t r u => ?_)
  repeat' first | with_reducible rfl | simp only [State.changeCommit_dev, State.withAmp_dev]
theorem execGuardChangeAbort_dev (s : State) : Out.dev s.dev (execGuardChangeAbort s) = s.dev := by
  unfold execGuardChangeAbort
  refine State.ampChange_dev _ _ _ _ (fun t r u => ?_)
  repeat' first | with_reducible rfl | simp only [State.ampAnswer_dev, State.changeAbort_dev, State.withAmp_dev, State.dev_ite, ite_self]
theorem execGuardSessionTimeout_dev (s : State) : Out.dev s.dev (execGuardSessionTimeout s) = s.dev := by
  simp only [execGuardSessionTimeout, State.endSession_dev, State.dev_ite, ite_self, Out.dev_next]
theorem execAuthLockoutEnd_dev (s : State) : Out.dev s.dev (execAuthLockoutEnd s) = s.dev := by
  simp only [execAuthLockoutEnd, State.withAmp_dev, State.dev_ite, ite_self, Out.dev_next]

/-! ## Nvm -/

@[simp] theorem State.changeReply_dev (s : State) : (State.changeReply s).dev = s.dev := by
  simp only [State.changeReply]
  repeat' first | with_reducible rfl | simp only [State.ampAnswer_dev, State.ampGo_dev, State.changeCommitted_dev, State.withAmp_dev, State.dev_ite, ite_self] | split
@[simp] theorem State.nvmFollow_dev (s : State) (w : NvmWrite) (wrap : Bool) : (State.nvmFollow s w wrap).dev = s.dev := by
  simp only [State.nvmFollow]
  repeat' first | with_reducible rfl | simp only [State.changeReply_dev, State.raise_dev, State.raiseIf_dev, State.dev_ite, ite_self] | split
@[simp] theorem State.nvmDone_dev (s : State) (w : NvmWrite) : (State.nvmDone s w).dev = s.dev := by
  simp only [State.nvmDone]
  repeat' first | with_reducible rfl | simp only [State.applyDone_dev, State.nvmFollow_dev, State.withNvm_dev] | split
theorem execNvmWriteDone_dev (fail : Bool) (s : State) : Out.dev s.dev (execNvmWriteDone fail s) = s.dev := by
  simp only [execNvmWriteDone]
  repeat' first | with_reducible rfl | simp only [State.nvmDone_dev, State.nvmKick_dev, State.raise_dev, State.withNvm_dev, ite_self, Out.dev_next, Out.dev_ite] | split

/-! ## Reset -/

@[simp] theorem State.lastReset_dev (s : State) (src level : Nat) : (State.lastReset s src level).dev = s.dev := by
  simp only [State.lastReset, State.setF_dev]
@[simp] theorem State.railsDown_dev (s : State) : (State.railsDown s).dev = s.dev := by
  simp only [State.railsDown, State.setF_dev, State.withRst_dev]
@[simp] theorem State.dropHist_dev (s : State) (c : Nat) : (State.dropHist s c).dev = s.dev := by
  simp only [State.dropHist]
  repeat' first | with_reducible rfl | simp only [State.columnDone_dev, State.lauOutcome_dev, State.outcome_dev, State.withHists_dev, State.wortDone_dev] | split
@[simp] theorem State.clusterReset_dev (s : State) (k : Nat) : (State.clusterReset s k).dev = s.dev := by
  simp only [State.clusterReset]
  repeat' first | with_reducible rfl | simp only [State.dropHist_dev, State.rset_dev, State.setChan_dev, State.setCluster_dev, State.withLau_dev, State.withTun_dev] | split | refine (foldl_dev _ (fun s x => ?_) _ _).trans ?_
@[simp] theorem State.performL2_dev (s : State) (t : L2Target) : (State.performL2 s t).dev = s.dev := by
  simp only [State.performL2, State.dev_ite]
  repeat' first | with_reducible rfl | simp only [State.clusterReset_dev, State.dmaReset_dev, State.dspReset_dev, State.dwlReset_dev, State.ethReset_dev, State.timeInvalid_dev, State.withAmp_dev, State.withRst_dev, State.dev_ite, ite_self] | split
@[simp] theorem State.releaseOne_dev (s : State) (t : L2Target) : (State.releaseOne s t).dev = s.dev := by
  simp only [State.releaseOne, State.dev_ite]
  repeat' first | with_reducible rfl | simp only [State.coreStart_dev, State.modCore_dev, State.rset_dev, State.withRst_dev, State.dev_ite, ite_self] | split
@[simp] theorem State.releaseL2_dev (s : State) (t : L2Target) : (State.releaseL2 s t).dev = s.dev := by
  simp only [State.releaseL2]
  repeat' first | with_reducible rfl | simp only [State.releaseOne_dev, State.withRst_dev] | split | refine (foldl_dev _ (fun s x => ?_) _ _).trans ?_
@[simp] theorem State.resetCauses_dev (s : State) : (State.resetCauses s).dev = s.dev := by
  simp only [State.resetCauses, State.withRst_dev]
  repeat' first | with_reducible rfl | simp only [State.raise_dev] | split | refine (foldl_dev _ (fun s x => ?_) _ _).trans ?_
@[simp] theorem State.noteDma_dev (s : State) (run : List (Nat × Nat × List L2Target)) : (State.noteDma s run).dev = s.dev := by
  simp only [State.noteDma, State.withRst_dev, State.dev_ite, ite_self]
@[simp] theorem State.releaseDeep_dev (s : State) (rstn : Bool) (straps : List (BitVec 6)) : (State.releaseDeep s rstn straps).dev = s.dev := by
  simp only [State.releaseDeep, State.logEvent_dev, State.rset_dev, State.withRst_dev]
theorem execResetRelease_dev (tgt : Nat) (rstn : Bool) (straps : List (BitVec 6)) (s : State) : Out.dev s.dev (execResetRelease tgt rstn straps s) = s.dev := by
  simp only [execResetRelease]
  repeat' first | with_reducible rfl | simp only [State.releaseDeep_dev, State.releaseL2_dev, State.dev_ite, ite_self, Out.dev_next] | split
theorem execVinRise_dev (s : State) : Out.dev s.dev (execVinRise s) = s.dev := by
  simp only [execVinRise, State.incMod_dev, State.setB_dev, State.withRst_dev, State.dev_ite, ite_self, Out.dev_next, Out.dev_ite]
theorem execBrownout_dev (s : State) : Out.dev s.dev (execBrownout s) = s.dev := by
  simp only [execBrownout, State.raiseReset_dev, State.setB_dev, State.dev_ite, ite_self, Out.dev_next]
@[simp] theorem State.setGood_dev (s : State) (r : Nat) (p : Bool) : (State.setGood s r p).dev = s.dev := by
  simp only [State.setGood, State.setF_dev]
theorem execRailGood_dev (r : Nat) (s : State) : Out.dev s.dev (execRailGood r s) = s.dev := by
  simp only [execRailGood, Out.dev_next, Out.dev_ite]
  repeat' first | with_reducible rfl | simp only [State.setGood_dev, State.withRst_dev, ite_self, Out.dev_next, Out.dev_ite] | split
theorem execRailFailure_dev (r : Nat) (s : State) : Out.dev s.dev (execRailFailure r s) = s.dev := by
  simp only [execRailFailure, State.railsDown_dev, State.raise_dev, State.raiseReset_dev, State.setF_dev, State.setGood_dev, State.withRst_dev, State.dev_ite, ite_self, Out.dev_next, Out.dev_ite]
theorem execXt32Qualified_dev (s : State) : Out.dev s.dev (execXt32Qualified s) = s.dev := by
  simp only [execXt32Qualified, State.setB_dev, State.withRst_dev, State.dev_ite, ite_self, Out.dev_next]
theorem execRstNLow_dev (s : State) : Out.dev s.dev (execRstNLow s) = s.dev := by
  simp only [execRstNLow, State.raiseReset_dev, State.withRst_dev, State.dev_ite, ite_self, Out.dev_next]
theorem execRstNStuck_dev (s : State) : Out.dev s.dev (execRstNStuck s) = s.dev := by
  simp only [execRstNStuck, State.logEvent_dev, State.setB_dev, ite_self, Out.dev_next, Out.dev_ite]
theorem execRstNRearm_dev (s : State) : Out.dev s.dev (execRstNRearm s) = s.dev := by
  simp only [execRstNRearm, State.setB_dev, State.withRst_dev, State.dev_ite, ite_self, Out.dev_next]

/-! ## Pins -/

theorem execBoundaryScanInstruction_dev (i : Nat) (s : State) (ins dr : BitVec 52) : Out.dev s.dev (execBoundaryScanInstruction i s ins dr) = s.dev := by
  simp only [execBoundaryScanInstruction, State.withPins_dev, ite_self, Out.dev_next, Out.dev_ite]

/-! ## Boot -/

@[simp] theorem State.pinTestKick_dev (s : State) : (State.pinTestKick s).dev = s.dev := by
  simp only [State.pinTestKick, State.pinTestStart_dev, State.withRst_dev, State.dev_ite, ite_self]
@[simp] theorem State.pinResult_dev (s : State) (fails : List Nat) : (State.pinResult s fails).dev = s.dev := by
  simp only [State.pinResult, State.incMod_dev, State.logEvent_dev, State.raiseIf_dev, State.setB_dev, State.setF_dev, State.soutFault_dev, State.withPins_dev, State.dev_ite, ite_self]
@[simp] theorem State.slotError_dev (s : State) (slot reason sec : Nat) : (State.slotError s slot reason sec).dev = s.dev := by
  simp only [State.slotError, State.rset_dev]
@[simp] theorem State.slotFail_dev (s : State) (slot reason sec : Nat) : (State.slotFail s slot reason sec).dev = s.dev := by
  simp only [State.slotFail, State.slotError_dev, State.withRst_dev]
@[simp] theorem State.headRead_dev (s : State) (k : Nat) : (State.headRead s k).dev = s.dev := by
  simp only [State.headRead, State.slotError_dev, State.withRst_dev, State.dev_ite, ite_self]
@[simp] theorem State.imageStart_dev (s : State) : (State.imageStart s).dev = s.dev := by
  simp only [State.imageStart, State.withRst_dev]
@[simp] theorem State.optionRegs_dev (s : State) (p : Option (List Word)) (blank safe : Bool) : (State.optionRegs s p blank safe).dev = s.dev := by
  simp only [State.optionRegs, State.setB_dev, State.setF_dev, State.dev_ite, ite_self]
@[simp] theorem State.optionTake_dev (s : State) (p : Option (List Word)) : (State.optionTake s p).dev = s.dev := by
  simp only [State.optionTake, State.setB_dev, State.withRst_dev, State.dev_ite, ite_self]
theorem execPllaLock_dev (s : State) : Out.dev s.dev (execPllaLock s) = s.dev := by
  simp only [execPllaLock, State.pinTestKick_dev, State.setB_dev, State.dev_ite, ite_self, Out.dev_next]
theorem execPllbLock_dev (s : State) : Out.dev s.dev (execPllbLock s) = s.dev := by
  simp only [execPllbLock]
  repeat' first | with_reducible rfl | simp only [State.imageStart_dev, State.pinTestKick_dev, State.setB_dev, State.dev_ite, ite_self, Out.dev_next] | split
@[simp] theorem State.loaderAdc_dev (s : State) (a : Nat) (v : Word) (t : State) : (s.loaderAdc a v t).dev = t.dev := by
  unfold State.loaderAdc
  repeat' first | with_reducible rfl | exact State.adcRefSelected_dev _ _ | exact State.adcChannelWritten_dev _ _ | exact State.adcFirWritten_dev _ _ | exact State.adcGainWritten_dev _ _ _ | exact State.reqGo_dev _ _ | split
@[simp] theorem State.loaderReg_dev (s : State) (a : Nat) (v : Word) : (State.loaderReg s a v).dev = s.dev := by
  simp only [State.loaderReg, State.anchorCommit_dev, State.ethCfgWrite_dev, State.rset_dev, State.timeCtrlWrite_dev, State.tinCfgWrite_dev, State.loaderAdc_dev, State.dev_ite, ite_self]
@[simp] theorem State.loaderWrite_dev (s : State) (a : Nat) (v : Word) : (State.loaderWrite s a v).dev = s.dev := by
  simp only [State.loaderWrite, State.loaderReg_dev, State.msetW_dev, State.dev_ite, ite_self]
@[simp] theorem State.noteDest_dev (s : State) (a k : Word) : (State.noteDest s a k).dev = s.dev := by
  simp only [State.noteDest, State.withRst_dev]
@[simp] theorem State.clearWord_dev (s : State) (a : Nat) : (State.clearWord s a).dev = s.dev := by
  simp only [State.clearWord, State.loaderReg_dev, State.msetW_dev, State.rset_dev, State.withAnchor_dev, State.dev_ite, ite_self]
@[simp] theorem State.commitCask_dev (s : State) (ident : List Byte) : (State.commitCask s ident).dev = s.dev := by
  simp only [State.commitCask, State.logEvent_dev, State.withNvm_dev, State.dev_ite, ite_self]
@[simp] theorem State.commitGuard_dev (s : State) : (State.commitGuard s).dev = s.dev := by
  simp only [State.commitGuard, State.rebuildBearing_dev, State.rset_dev, State.withNvm_dev, State.dev_ite, ite_self]
@[simp] theorem State.commitLoss_dev (s : State) : (State.commitLoss s).dev = s.dev := by
  simp only [State.commitLoss]
  repeat' first | with_reducible rfl | simp only [State.rset_dev, State.setF_dev, State.updateKnee_dev] | split | refine (foldl_dev _ (fun s x => ?_) _ _).trans ?_
@[simp] theorem State.commitTime_dev (s : State) : (State.commitTime s).dev = s.dev := by
  simp only [State.commitTime, State.timeIncWrite_dev, State.timePpsWrite_dev, State.dev_ite, ite_self]

end Sys2Proof.Machine
end

