-- ==== Sys2Proof/Laws/KeyFrame.lean ====
section
/-!
SUPPORT. The frame of the CMAC key (R333): no operation and no meaning changes it.
-/
namespace Sys2Proof.Machine

/-- The CMAC key after an outcome. -/
def Out.cmac (d : Option (List Byte)) : Out → Option (List Byte)
  | .next t => t.nvm.cmacKey
  | _ => d
@[simp] theorem Out.cmac_next (d : Option (List Byte)) (t : State) : Out.cmac d (.next t) = t.nvm.cmacKey := Eq.trans (Eq.refl _) rfl
theorem Out.cmac_ite (d : Option (List Byte)) (c : Prop) [Decidable c] (a b : Out) : Out.cmac d (if c then a else b) = if c then Out.cmac d a else Out.cmac d b := by
  split <;> rfl
theorem State.cmac_ite (c : Prop) [Decidable c] (a b : State) : (if c then a else b).nvm.cmacKey = if c then a.nvm.cmacKey else b.nvm.cmacKey := by
  split <;> rfl
theorem foldl_cmac {α : Type} (g : State → α → State) (h : ∀ s x, (g s x).nvm.cmacKey = s.nvm.cmacKey) (l : List α) (s : State) :
    (l.foldl g s).nvm.cmacKey = s.nvm.cmacKey := by
  induction l generalizing s with
  | nil => rfl
  | cons x l ih => rw [List.foldl_cons, ih, h]

theorem State.withNvm_cmac (s : State) (x : Nvm) : (s.withNvm x).nvm.cmacKey = x.cmacKey := (rfl)

/-! ## Ops -/

@[simp] theorem State.withNow_cmac (s : State) (x : Nat) : (State.withNow s x).nvm.cmacKey = s.nvm.cmacKey := by
  simp only [State.withNow]
@[simp] theorem State.withMs_cmac (s : State) (x : Nat) : (State.withMs s x).nvm.cmacKey = s.nvm.cmacKey := by
  simp only [State.withMs]
@[simp] theorem State.withEff_cmac (s : State) (x : SMap Word) : (State.withEff s x).nvm.cmacKey = s.nvm.cmacKey := by
  simp only [State.withEff]
@[simp] theorem State.withFlash_cmac (s : State) (x : List Host.Cell) : (State.withFlash s x).nvm.cmacKey = s.nvm.cmacKey := by
  simp only [State.withFlash]
@[simp] theorem State.withTun_cmac (s : State) (x : SMap (BitVec 16)) : (State.withTun s x).nvm.cmacKey = s.nvm.cmacKey := by
  simp only [State.withTun]
@[simp] theorem State.withDev_cmac (s : State) (x : Dev) : (State.withDev s x).nvm.cmacKey = s.nvm.cmacKey := by
  simp only [State.withDev]
@[simp] theorem State.withRst_cmac (s : State) (x : RstSt) : (State.withRst s x).nvm.cmacKey = s.nvm.cmacKey := by
  simp only [State.withRst]
@[simp] theorem State.withPins_cmac (s : State) (x : PinSt) : (State.withPins s x).nvm.cmacKey = s.nvm.cmacKey := by
  simp only [State.withPins]
@[simp] theorem State.withEmit_cmac (s : State) (x : EmitSt) : (State.withEmit s x).nvm.cmacKey = s.nvm.cmacKey := by
  simp only [State.withEmit]
@[simp] theorem State.withStrs_cmac (s : State) (x : SMap StrSt) : (State.withStrs s x).nvm.cmacKey = s.nvm.cmacKey := by
  simp only [State.withStrs]
@[simp] theorem State.withScan_cmac (s : State) (x : ScanSt) : (State.withScan s x).nvm.cmacKey = s.nvm.cmacKey := by
  simp only [State.withScan]
@[simp] theorem State.withKiln_cmac (s : State) (x : KilnSt) : (State.withKiln s x).nvm.cmacKey = s.nvm.cmacKey := by
  simp only [State.withKiln]
@[simp] theorem State.withTime_cmac (s : State) (x : TimeSt) : (State.withTime s x).nvm.cmacKey = s.nvm.cmacKey := by
  simp only [State.withTime]
@[simp] theorem State.withAnchor_cmac (s : State) (x : Anchor) : (State.withAnchor s x).nvm.cmacKey = s.nvm.cmacKey := by
  simp only [State.withAnchor]
@[simp] theorem State.withTherm_cmac (s : State) (x : ThermSt) : (State.withTherm s x).nvm.cmacKey = s.nvm.cmacKey := by
  simp only [State.withTherm]
@[simp] theorem State.withChans_cmac (s : State) (x : SMap ChanSt) : (State.withChans s x).nvm.cmacKey = s.nvm.cmacKey := by
  simp only [State.withChans]
@[simp] theorem State.withClus_cmac (s : State) (x : SMap CluSt) : (State.withClus s x).nvm.cmacKey = s.nvm.cmacKey := by
  simp only [State.withClus]
@[simp] theorem State.withMash_cmac (s : State) (x : MashSt) : (State.withMash s x).nvm.cmacKey = s.nvm.cmacKey := by
  simp only [State.withMash]
@[simp] theorem State.withTins_cmac (s : State) (x : SMap TinSt) : (State.withTins s x).nvm.cmacKey = s.nvm.cmacKey := by
  simp only [State.withTins]
@[simp] theorem State.withHists_cmac (s : State) (x : SMap Hist) : (State.withHists s x).nvm.cmacKey = s.nvm.cmacKey := by
  simp only [State.withHists]
@[simp] theorem State.withLau_cmac (s : State) (x : LauSt) : (State.withLau s x).nvm.cmacKey = s.nvm.cmacKey := by
  simp only [State.withLau]
@[simp] theorem State.withCal_cmac (s : State) (x : SMap Word) : (State.withCal s x).nvm.cmacKey = s.nvm.cmacKey := by
  simp only [State.withCal]
@[simp] theorem State.withWort_cmac (s : State) (x : WortSt) : (State.withWort s x).nvm.cmacKey = s.nvm.cmacKey := by
  simp only [State.withWort]
@[simp] theorem State.withDwl_cmac (s : State) (x : DwlSt) : (State.withDwl s x).nvm.cmacKey = s.nvm.cmacKey := by
  simp only [State.withDwl]
@[simp] theorem State.withCtl_cmac (s : State) (x : CtlSt) : (State.withCtl s x).nvm.cmacKey = s.nvm.cmacKey := by
  simp only [State.withCtl]
@[simp] theorem State.withAdcLast_cmac (s : State) (x : SMap Nat) : (State.withAdcLast s x).nvm.cmacKey = s.nvm.cmacKey := by
  simp only [State.withAdcLast]
@[simp] theorem State.withAdc_cmac (s : State) (x : AdcSt) : (State.withAdc s x).nvm.cmacKey = s.nvm.cmacKey := by
  simp only [State.withAdc]
@[simp] theorem State.withAfePos_cmac (s : State) (x : Nat) : (State.withAfePos s x).nvm.cmacKey = s.nvm.cmacKey := by
  simp only [State.withAfePos]
@[simp] theorem State.withLanes_cmac (s : State) (x : SMap LaneSt) : (State.withLanes s x).nvm.cmacKey = s.nvm.cmacKey := by
  simp only [State.withLanes]
@[simp] theorem State.withEths_cmac (s : State) (x : SMap EthSt) : (State.withEths s x).nvm.cmacKey = s.nvm.cmacKey := by
  simp only [State.withEths]
@[simp] theorem State.withPrp_cmac (s : State) (x : List PrpEnt) : (State.withPrp s x).nvm.cmacKey = s.nvm.cmacKey := by
  simp only [State.withPrp]
@[simp] theorem State.withLines_cmac (s : State) (x : SMap Nat) : (State.withLines s x).nvm.cmacKey = s.nvm.cmacKey := by
  simp only [State.withLines]
@[simp] theorem State.withParkWake_cmac (s : State) (x : Bool) : (State.withParkWake s x).nvm.cmacKey = s.nvm.cmacKey := by
  simp only [State.withParkWake]
@[simp] theorem State.withGuard_cmac (s : State) (x : GuardSt) : (State.withGuard s x).nvm.cmacKey = s.nvm.cmacKey := by
  simp only [State.withGuard]
@[simp] theorem State.withCask_cmac (s : State) (x : CaskSt) : (State.withCask s x).nvm.cmacKey = s.nvm.cmacKey := by
  simp only [State.withCask]
@[simp] theorem State.withCores_cmac (s : State) (x : SMap CoreSt) : (State.withCores s x).nvm.cmacKey = s.nvm.cmacKey := by
  simp only [State.withCores]
@[simp] theorem State.withDma_cmac (s : State) (x : SMap (Option DmaSt)) : (State.withDma s x).nvm.cmacKey = s.nvm.cmacKey := by
  simp only [State.withDma]
@[simp] theorem State.withAmp_cmac (s : State) (x : AmpSt) : (State.withAmp s x).nvm.cmacKey = s.nvm.cmacKey := by
  simp only [State.withAmp]
@[simp] theorem State.withFlOp_cmac (s : State) (x : Option FlashOp) : (State.withFlOp s x).nvm.cmacKey = s.nvm.cmacKey := by
  simp only [State.withFlOp]
@[simp] theorem State.rset_cmac (s : State) (a : Nat) (v : Word) : (State.rset s a v).nvm.cmacKey = s.nvm.cmacKey := by
  simp only [State.rset]
@[simp] theorem State.setF_cmac (s : State) (F : Fld) (x : Nat) : (State.setF s F x).nvm.cmacKey = s.nvm.cmacKey := by
  simp only [State.setF, State.rset_cmac]
@[simp] theorem State.setB_cmac (s : State) (F : Fld) (x : Bool) : (State.setB s F x).nvm.cmacKey = s.nvm.cmacKey := by
  simp only [State.setB, State.setF_cmac]
@[simp] theorem State.setFs_cmac (s : State) (F : Fld) (x : Int) : (State.setFs s F x).nvm.cmacKey = s.nvm.cmacKey := by
  simp only [State.setFs, State.setF_cmac]
@[simp] theorem State.incSat_cmac (s : State) (F : Fld) (n : Nat) : (State.incSat s F n).nvm.cmacKey = s.nvm.cmacKey := by
  simp only [State.incSat, State.setF_cmac]
@[simp] theorem State.incMod_cmac (s : State) (F : Fld) (n : Nat) : (State.incMod s F n).nvm.cmacKey = s.nvm.cmacKey := by
  simp only [State.incMod, State.setF_cmac]
@[simp] theorem State.latchEff_cmac (s : State) (as : List Nat) : (State.latchEff s as).nvm.cmacKey = s.nvm.cmacKey := by
  simp only [State.latchEff, State.withEff_cmac]
@[simp] theorem State.mset_cmac (s : State) (a : Nat) (v : Byte) : (State.mset s a v).nvm.cmacKey = s.nvm.cmacKey := by
  simp only [State.mset]
@[simp] theorem State.msetH_cmac (s : State) (a : Nat) (v : BitVec 16) : (State.msetH s a v).nvm.cmacKey = s.nvm.cmacKey := by
  simp only [State.msetH, State.mset_cmac]
@[simp] theorem State.msetW_cmac (s : State) (a : Nat) (v : Word) : (State.msetW s a v).nvm.cmacKey = s.nvm.cmacKey := by
  simp only [State.msetW, State.msetH_cmac]
@[simp] theorem State.setStr_cmac (s : State) (n : Nat) (x : StrSt) : (State.setStr s n x).nvm.cmacKey = s.nvm.cmacKey := by
  simp only [State.setStr, State.withStrs_cmac]
@[simp] theorem State.countCause_cmac (s : State) (c : Cause) : (State.countCause s c).nvm.cmacKey = s.nvm.cmacKey := by
  simp only [State.countCause, State.incSat_cmac]
@[simp] theorem State.raise_cmac (s : State) (c : Cause) : (State.raise s c).nvm.cmacKey = s.nvm.cmacKey := by
  simp only [State.raise, State.countCause_cmac, State.setF_cmac]
@[simp] theorem State.raiseIf_cmac (s : State) (p : Bool) (c : Cause) : (State.raiseIf s p c).nvm.cmacKey = s.nvm.cmacKey := by
  simp only [State.raiseIf, State.raise_cmac, State.cmac_ite, ite_self]
@[simp] theorem State.setDev_cmac (s : State) (d : Dev) : (State.setDev s d).nvm.cmacKey = s.nvm.cmacKey := by
  simp only [State.setDev, State.raise_cmac, State.setF_cmac, State.withDev_cmac, State.cmac_ite, ite_self]
@[simp] theorem State.nvmKick_cmac (s : State) : (State.nvmKick s).nvm.cmacKey = s.nvm.cmacKey := by
  simp only [State.nvmKick, State.cmac_ite]
  repeat' first | with_reducible rfl | simp only [State.withNvm_cmac] | split
@[simp] theorem State.nvmPush_cmac (s : State) (w : NvmWrite) : (State.nvmPush s w).nvm.cmacKey = s.nvm.cmacKey := by
  simp only [State.nvmPush, State.nvmKick_cmac, State.withNvm_cmac]
@[simp] theorem State.logEvent_cmac (s : State) (code : Nat) (d0 d1 : Word) : (State.logEvent s code d0 d1).nvm.cmacKey = s.nvm.cmacKey := by
  simp only [State.logEvent, State.incSat_cmac, State.nvmKick_cmac, State.withNvm_cmac, State.cmac_ite, ite_self]
@[simp] theorem State.line_cmac (s : State) (core i : Nat) : (State.line s core i).nvm.cmacKey = s.nvm.cmacKey := by
  simp only [State.line, State.withLines_cmac]
@[simp] theorem State.raiseReset_cmac (s : State) (src : Nat) : (State.raiseReset s src).nvm.cmacKey = s.nvm.cmacKey := by
  simp only [State.raiseReset, State.withRst_cmac]
@[simp] theorem State.fresh_cmac (s : State) : (State.fresh s).2.nvm.cmacKey = s.nvm.cmacKey := by
  simp only [State.fresh]

/-! ## GuardOps -/

@[simp] theorem State.soutOff_cmac (s : State) : (State.soutOff s).nvm.cmacKey = s.nvm.cmacKey := by
  simp only [State.soutOff, State.setB_cmac, State.setF_cmac, State.withGuard_cmac, State.cmac_ite, ite_self]
@[simp] theorem State.guardFollow_cmac (s : State) : (State.guardFollow s).nvm.cmacKey = s.nvm.cmacKey := by
  simp only [State.guardFollow, State.soutOff_cmac, State.cmac_ite, ite_self]
@[simp] theorem State.soutFault_cmac (s : State) (code : Nat) : (State.soutFault s code).nvm.cmacKey = s.nvm.cmacKey := by
  simp only [State.soutFault, State.logEvent_cmac, State.raise_cmac, State.setB_cmac, State.setF_cmac, State.soutOff_cmac, State.cmac_ite, ite_self]
@[simp] theorem State.setGsweep_cmac (s : State) (n : Nat) (x : GSweep) : (State.setGsweep s n x).nvm.cmacKey = s.nvm.cmacKey := by
  simp only [State.setGsweep, State.withGuard_cmac]
@[simp] theorem State.confirm_cmac (s : State) : (State.confirm s).nvm.cmacKey = s.nvm.cmacKey := by
  simp only [State.confirm, State.incSat_cmac, State.raise_cmac, State.setF_cmac, State.soutOff_cmac]
@[simp] theorem State.intrude_cmac (s : State) (n f : Nat) : (State.intrude s n f).nvm.cmacKey = s.nvm.cmacKey := by
  simp only [State.intrude, State.confirm_cmac, State.raise_cmac, State.setGsweep_cmac, State.withGuard_cmac, State.cmac_ite, ite_self]
@[simp] theorem State.guardSkip_cmac (s : State) (az : Nat) : (State.guardSkip s az).nvm.cmacKey = s.nvm.cmacKey := by
  simp only [State.guardSkip, State.intrude_cmac, State.cmac_ite, ite_self]
@[simp] theorem State.guardInhibit_cmac (s : State) : (State.guardInhibit s).nvm.cmacKey = s.nvm.cmacKey := by
  simp only [State.guardInhibit, State.confirm_cmac, State.setGsweep_cmac, State.cmac_ite, ite_self]

/-! ## Adc -/

@[simp] theorem State.adcGainWritten_cmac (s : State) (k old : Nat) : (State.adcGainWritten s k old).nvm.cmacKey = s.nvm.cmacKey := by
  simp only [State.adcGainWritten, State.withAdc_cmac, State.cmac_ite, ite_self]
@[simp] theorem State.adcChannelWritten_cmac (s : State) (old : Nat) : (State.adcChannelWritten s old).nvm.cmacKey = s.nvm.cmacKey := by
  simp only [State.adcChannelWritten, State.withAdc_cmac, State.cmac_ite, ite_self]
@[simp] theorem State.adcRefSelected_cmac (s : State) (old : Nat) : (State.adcRefSelected s old).nvm.cmacKey = s.nvm.cmacKey := by
  simp only [State.adcRefSelected, State.setB_cmac, State.withAdc_cmac, State.cmac_ite, ite_self]
theorem execAdc0RefReady_cmac (s : State) : Out.cmac s.nvm.cmacKey (execAdc0RefReady s) = s.nvm.cmacKey := by
  simp only [execAdc0RefReady, State.setB_cmac, State.cmac_ite, ite_self, Out.cmac_next]
theorem execAdc0RefFail_cmac (s : State) : Out.cmac s.nvm.cmacKey (execAdc0RefFail s) = s.nvm.cmacKey := by
  simp only [execAdc0RefFail, State.raise_cmac, State.withAdc_cmac, State.cmac_ite, ite_self, Out.cmac_next]
@[simp] theorem State.adcAdd_cmac (s : State) (j : AdcJob) : (State.adcAdd s j).nvm.cmacKey = s.nvm.cmacKey := by
  simp only [State.adcAdd, State.withAdc_cmac]
@[simp] theorem State.adcDone_cmac (s : State) (i : Nat) : (State.adcDone s i).nvm.cmacKey = s.nvm.cmacKey := by
  simp only [State.adcDone]
  repeat' first | with_reducible rfl | simp only [State.withAdc_cmac] | split
@[simp] theorem State.adcEnd_cmac (s : State) (who : Nat) : (State.adcEnd s who).nvm.cmacKey = s.nvm.cmacKey := by
  simp only [State.adcEnd]
  repeat' first | with_reducible rfl | simp only [State.adcDone_cmac] | split
@[simp] theorem State.adcMsns_cmac (s : State) (n : Nat) : (State.adcMsns s n).nvm.cmacKey = s.nvm.cmacKey := by
  simp only [State.adcMsns, State.adcAdd_cmac, State.adcEnd_cmac]
@[simp] theorem State.adcDue_cmac (s : State) (n t : Nat) : (State.adcDue s n t).nvm.cmacKey = s.nvm.cmacKey := by
  simp only [State.adcDue, State.withAdc_cmac]
@[simp] theorem State.adcFired_cmac (s : State) (k t : Nat) : (State.adcFired s k t).nvm.cmacKey = s.nvm.cmacKey := by
  simp only [State.adcFired]
  repeat' first | with_reducible rfl | simp only [State.adcDue_cmac, State.cmac_ite, ite_self] | split | refine (foldl_cmac _ (fun s x => ?_) _ _).trans ?_
@[simp] theorem State.adcTick_cmac (s : State) : (State.adcTick s).nvm.cmacKey = s.nvm.cmacKey := by
  simp only [State.adcTick]
  repeat' first | with_reducible rfl | simp only [State.adcDue_cmac, State.withAdc_cmac, State.cmac_ite, ite_self] | split | refine (foldl_cmac _ (fun s x => ?_) _ _).trans ?_
@[simp] theorem State.adcStamp_cmac (s : State) : (State.adcStamp s).nvm.cmacKey = s.nvm.cmacKey := by
  simp only [State.adcStamp]
  repeat' first | with_reducible rfl | simp only [State.setF_cmac, State.withAdc_cmac, State.cmac_ite, ite_self] | split | refine (foldl_cmac _ (fun s x => ?_) _ _).trans ?_

/-! ## Emit -/

@[simp] theorem State.updateTj_cmac (s : State) (n : Nat) : (State.updateTj s n).nvm.cmacKey = s.nvm.cmacKey := by
  simp only [State.updateTj, State.setF_cmac, State.setFs_cmac]
@[simp] theorem State.updateKnee_cmac (s : State) (n : Nat) : (State.updateKnee s n).nvm.cmacKey = s.nvm.cmacKey := by
  simp only [State.updateKnee]
  repeat' first | with_reducible rfl | simp only [State.setF_cmac, State.updateTj_cmac] | split
@[simp] theorem State.reduceEntry_cmac (s : State) (i c : Nat) : (State.reduceEntry s i c).nvm.cmacKey = s.nvm.cmacKey := by
  simp only [State.reduceEntry]
  repeat' first | with_reducible rfl | simp only [State.withScan_cmac] | split
@[simp] theorem State.comingDemand_cmac (s : State) (n : Nat) : (State.comingDemand s n).nvm.cmacKey = s.nvm.cmacKey := by
  simp only [State.comingDemand]
  repeat' first | with_reducible rfl | simp only [State.setF_cmac] | split
@[simp] theorem State.noShot_cmac (s : State) (n : Nat) : (State.noShot s n).nvm.cmacKey = s.nvm.cmacKey := by
  simp only [State.noShot, State.comingDemand_cmac, State.setStr_cmac]
@[simp] theorem State.dropDark_cmac (s : State) (n : Nat) : (State.dropDark s n).nvm.cmacKey = s.nvm.cmacKey := by
  simp only [State.dropDark, State.setStr_cmac]
  repeat' first | with_reducible rfl | simp only [State.reduceEntry_cmac] | split | refine (foldl_cmac _ (fun s x => ?_) _ _).trans ?_
@[simp] theorem State.schedule_cmac (s : State) (n : Nat) : (State.schedule s n).nvm.cmacKey = s.nvm.cmacKey := by
  simp only [State.schedule, State.setStr_cmac, State.cmac_ite]
  repeat' first | with_reducible rfl | simp only [State.dropDark_cmac, State.noShot_cmac, State.reduceEntry_cmac, State.setF_cmac, State.setStr_cmac, State.cmac_ite, ite_self] | split | refine (foldl_cmac _ (fun s x => ?_) _ _).trans ?_
@[simp] theorem State.demandTarget_cmac (s : State) (n : Nat) : (State.demandTarget s n).nvm.cmacKey = s.nvm.cmacKey := by
  simp only [State.demandTarget, State.setF_cmac]
@[simp] theorem State.emxRelatch_cmac (s : State) : (State.emxRelatch s).nvm.cmacKey = s.nvm.cmacKey := by
  simp only [State.emxRelatch, State.withEmit_cmac]
@[simp] theorem State.scheduleD_cmac (s : State) (n : Nat) : (State.scheduleD s n).nvm.cmacKey = s.nvm.cmacKey := by
  simp only [State.scheduleD, State.demandTarget_cmac, State.emxRelatch_cmac, State.schedule_cmac]
@[simp] theorem State.emxSend_cmac (s : State) (pat : BitVec 64) (seq : Nat) (retry : Bool) (latch : Nat) : (State.emxSend s pat seq retry latch).nvm.cmacKey = s.nvm.cmacKey := by
  simp only [State.emxSend, State.incMod_cmac, State.withEmit_cmac]
@[simp] theorem State.emxSendZero_cmac (s : State) : (State.emxSendZero s).nvm.cmacKey = s.nvm.cmacKey := by
  simp only [State.emxSendZero, State.emxSend_cmac, State.withEmit_cmac]
theorem execEmxFrameSend_cmac (t : Nat) (s : State) : Out.cmac s.nvm.cmacKey (execEmxFrameSend t s) = s.nvm.cmacKey := by
  simp only [execEmxFrameSend, State.emxSend_cmac, State.withEmit_cmac, ite_self, Out.cmac_next, Out.cmac_ite]
@[simp] theorem State.setVbank_cmac (s : State) (n v : Nat) : (State.setVbank s n v).nvm.cmacKey = s.nvm.cmacKey := by
  simp only [State.setVbank, State.setB_cmac, State.setF_cmac]
@[simp] theorem State.chargeTrip_cmac (s : State) : (State.chargeTrip s).nvm.cmacKey = s.nvm.cmacKey := by
  simp only [State.chargeTrip, State.raise_cmac, State.withEmit_cmac]
@[simp] theorem State.readVbank_cmac (s : State) (n v : Nat) : (State.readVbank s n v).nvm.cmacKey = s.nvm.cmacKey := by
  simp only [State.readVbank, State.chargeTrip_cmac, State.setVbank_cmac, State.cmac_ite, ite_self]
@[simp] theorem State.chgOff_cmac (s : State) (n : Nat) : (State.chgOff s n).nvm.cmacKey = s.nvm.cmacKey := by
  simp only [State.chgOff, State.setStr_cmac, State.withEmit_cmac]
@[simp] theorem State.chgOn_cmac (s : State) (n : Nat) : (State.chgOn s n).nvm.cmacKey = s.nvm.cmacKey := by
  simp only [State.chgOn, State.withEmit_cmac]
  repeat' first | with_reducible rfl | simp only [State.setStr_cmac] | split | refine (foldl_cmac _ (fun s x => ?_) _ _).trans ?_
theorem execChargeString_cmac (n v : Nat) (s : State) (t : Nat) : Out.cmac s.nvm.cmacKey (execChargeString n v s t) = s.nvm.cmacKey := by
  simp only [execChargeString, State.chgOff_cmac, State.chgOn_cmac, State.readVbank_cmac, State.withEmit_cmac, State.cmac_ite, ite_self, Out.cmac_next, Out.cmac_ite]
theorem execChgSelOff_cmac (n : Nat) (s : State) : Out.cmac s.nvm.cmacKey (execChgSelOff n s) = s.nvm.cmacKey := by
  simp only [execChgSelOff, State.chgOff_cmac, Out.cmac_next]
@[simp] theorem State.modNext_cmac (s : State) (n : Nat) (g : NextShot → NextShot) : (State.modNext s n g).nvm.cmacKey = s.nvm.cmacKey := by
  simp only [State.modNext, State.setStr_cmac]
theorem execShotReadyCheck_cmac (n v : Nat) (s : State) : Out.cmac s.nvm.cmacKey (execShotReadyCheck n v s) = s.nvm.cmacKey := by
  simp only [execShotReadyCheck]
  repeat' first | with_reducible rfl | simp only [State.modNext_cmac, State.raiseIf_cmac, State.readVbank_cmac, State.reduceEntry_cmac, Out.cmac_next] | split
theorem execChargeSupplyTrip_cmac (s : State) (n v isns dur : Nat) : Out.cmac s.nvm.cmacKey (execChargeSupplyTrip s n v isns dur) = s.nvm.cmacKey := by
  simp only [execChargeSupplyTrip, State.chargeTrip_cmac, State.setVbank_cmac, State.cmac_ite, ite_self, Out.cmac_next]
theorem execChgGateTrip_cmac (s : State) : Out.cmac s.nvm.cmacKey (execChgGateTrip s) = s.nvm.cmacKey := by
  simp only [execChgGateTrip, State.logEvent_cmac, State.raise_cmac, State.withEmit_cmac, Out.cmac_next]
@[simp] theorem State.recordLoss_cmac (s : State) : (State.recordLoss s).nvm.cmacKey = s.nvm.cmacKey := by
  simp only [State.recordLoss, State.nvmPush_cmac]
@[simp] theorem State.stringDead_cmac (s : State) (n e why : Nat) : (State.stringDead s n e why).nvm.cmacKey = s.nvm.cmacKey := by
  simp only [State.stringDead, State.chgOff_cmac, State.logEvent_cmac, State.recordLoss_cmac, State.scheduleD_cmac, State.setF_cmac, State.setStr_cmac]
@[simp] theorem State.emitterFound_cmac (s : State) (e : Nat) : (State.emitterFound s e).nvm.cmacKey = s.nvm.cmacKey := by
  simp only [State.emitterFound, State.logEvent_cmac, State.raise_cmac, State.recordLoss_cmac, State.rset_cmac, State.scheduleD_cmac, State.setStr_cmac, State.stringDead_cmac, State.updateKnee_cmac, State.cmac_ite, ite_self]
@[simp] theorem State.takeSlot_cmac (s : State) (n : Nat) : (State.takeSlot s n).nvm.cmacKey = s.nvm.cmacKey := by
  simp only [State.takeSlot]
  repeat' first | with_reducible rfl | simp only [State.reduceEntry_cmac, State.setStr_cmac] | split
@[simp] theorem State.isoPlace_cmac (s : State) (n stage bits : Nat) : (State.isoPlace s n stage bits).nvm.cmacKey = s.nvm.cmacKey := by
  simp only [State.isoPlace, State.scheduleD_cmac, State.setStr_cmac, State.takeSlot_cmac]
@[simp] theorem State.beginString_cmac (s : State) (n : Nat) (queue : List PShot) : (State.beginString s n queue).nvm.cmacKey = s.nvm.cmacKey := by
  simp only [State.beginString]
  repeat' first | with_reducible rfl | simp only [State.isoPlace_cmac, State.scheduleD_cmac, State.setStr_cmac, State.takeSlot_cmac] | split
@[simp] theorem State.noVerdict_cmac (s : State) (n : Nat) (k : ShotKind) : (State.noVerdict s n k).nvm.cmacKey = s.nvm.cmacKey := by
  simp only [State.noVerdict]
  repeat' first | with_reducible rfl | simp only [State.isoPlace_cmac, State.setStr_cmac] | split
theorem execShotMonitorBurst_cmac (n : Nat) (s : State) : Out.cmac s.nvm.cmacKey (execShotMonitorBurst n s) = s.nvm.cmacKey := by
  simp only [execShotMonitorBurst]
  repeat' first | with_reducible rfl | simp only [State.adcAdd_cmac, State.noVerdict_cmac, State.raise_cmac, State.setStr_cmac, State.withEmit_cmac, ite_self, Out.cmac_next, Out.cmac_ite] | split
@[simp] theorem State.isoVerdict_cmac (s : State) (n stage : Nat) (zero : Bool) : (State.isoVerdict s n stage zero).nvm.cmacKey = s.nvm.cmacKey := by
  simp only [State.isoVerdict]
  repeat' first | with_reducible rfl | simp only [State.emitterFound_cmac, State.isoPlace_cmac, State.scheduleD_cmac, State.setStr_cmac, State.stringDead_cmac, State.cmac_ite, ite_self] | split
@[simp] theorem State.shortCheck_cmac (s : State) (n : Nat) (m : MonShot) (ipk : Nat) : (State.shortCheck s n m ipk).nvm.cmacKey = s.nvm.cmacKey := by
  simp only [State.shortCheck, State.raise_cmac, State.setStr_cmac, State.stringDead_cmac, State.cmac_ite, ite_self]
@[simp] theorem State.burstOver_cmac (s : State) (n i : Nat) : (State.burstOver s n i).nvm.cmacKey = s.nvm.cmacKey := by
  simp only [State.burstOver, State.adcDone_cmac, State.withEmit_cmac]
@[simp] theorem State.verdict_cmac (s : State) (n : Nat) (m : MonShot) (codes : List Nat) : (State.verdict s n m codes).nvm.cmacKey = s.nvm.cmacKey := by
  simp only [State.verdict]
  repeat' first | with_reducible rfl | simp only [State.isoPlace_cmac, State.isoVerdict_cmac, State.setStr_cmac, State.shortCheck_cmac, State.cmac_ite, ite_self] | split
theorem execShotVerdict_cmac (n : Nat) (convs : List Conv) (s : State) : Out.cmac s.nvm.cmacKey (execShotVerdict n convs s) = s.nvm.cmacKey := by
  simp only [execShotVerdict]
  repeat' first | with_reducible rfl | simp only [State.burstOver_cmac, State.noVerdict_cmac, State.verdict_cmac, ite_self, Out.cmac_next, Out.cmac_ite] | split
theorem execPeriodicProbeDue_cmac (n : Nat) (s : State) : Out.cmac s.nvm.cmacKey (execPeriodicProbeDue n s) = s.nvm.cmacKey := by
  simp only [execPeriodicProbeDue, State.scheduleD_cmac, State.setStr_cmac, State.cmac_ite, ite_self, Out.cmac_next, Out.cmac_ite]
@[simp] theorem State.lostClear_cmac (s : State) (key : Word) : (State.lostClear s key).nvm.cmacKey = s.nvm.cmacKey := by
  simp only [State.lostClear, State.logEvent_cmac, State.cmac_ite]
  repeat' first | with_reducible rfl | simp only [State.recordLoss_cmac, State.rset_cmac, State.setF_cmac, State.updateKnee_cmac] | split | refine (foldl_cmac _ (fun s x => ?_) _ _).trans ?_

/-! ## Kiln -/

@[simp] theorem State.decayString_cmac (s : State) (dt n : Nat) : (State.decayString s dt n).nvm.cmacKey = s.nvm.cmacKey := by
  simp only [State.decayString, State.rset_cmac, State.updateTj_cmac]
@[simp] theorem State.decayStep_cmac (s : State) (dt : Nat) : (State.decayStep s dt).nvm.cmacKey = s.nvm.cmacKey := by
  simp only [State.decayStep]
  repeat' first | with_reducible rfl | simp only [State.decayString_cmac] | split | refine (foldl_cmac _ (fun s x => ?_) _ _).trans ?_
@[simp] theorem State.decaySteps_cmac (d k rest : Nat) (s : State) : (State.decaySteps d k rest s).nvm.cmacKey = s.nvm.cmacKey := by
  simp only [State.decaySteps, State.decayStep_cmac]
  repeat' first | with_reducible rfl | simp only [State.decayStep_cmac] | split | refine (foldl_cmac _ (fun s x => ?_) _ _).trans ?_
@[simp] theorem State.decayTo_cmac (s : State) (t : Nat) : (State.decayTo s t).nvm.cmacKey = s.nvm.cmacKey := by
  simp only [State.decayTo, State.decaySteps_cmac, State.withKiln_cmac]
theorem execKilnDecayStep_cmac (s : State) : Out.cmac s.nvm.cmacKey (execKilnDecayStep s) = s.nvm.cmacKey := by
  simp only [execKilnDecayStep, State.decayTo_cmac, Out.cmac_next]
@[simp] theorem State.spend_cmac (s : State) (t e : Nat) : (State.spend s t e).nvm.cmacKey = s.nvm.cmacKey := by
  simp only [State.spend, State.withKiln_cmac]
@[simp] theorem State.chargeModels_cmac (s : State) (n v t : Nat) : (State.chargeModels s n v t).nvm.cmacKey = s.nvm.cmacKey := by
  simp only [State.chargeModels, State.rset_cmac, State.spend_cmac, State.updateTj_cmac]
@[simp] theorem State.chargeCells_cmac (s : State) (cells : List Nat) (q : Nat) : (State.chargeCells s cells q).nvm.cmacKey = s.nvm.cmacKey := by
  simp only [State.chargeCells, State.withKiln_cmac]
@[simp] theorem State.eyeMismatch_cmac (s : State) : (State.eyeMismatch s).nvm.cmacKey = s.nvm.cmacKey := by
  simp only [State.eyeMismatch, State.raise_cmac, State.withKiln_cmac]
theorem execEyeSubwindow_cmac (s : State) : Out.cmac s.nvm.cmacKey (execEyeSubwindow s) = s.nvm.cmacKey := by
  simp only [execEyeSubwindow, State.withKiln_cmac, ite_self, Out.cmac_next, Out.cmac_ite]
theorem execEyeInitEnd_cmac (s : State) : Out.cmac s.nvm.cmacKey (execEyeInitEnd s) = s.nvm.cmacKey := by
  simp only [execEyeInitEnd, State.setB_cmac, State.cmac_ite, ite_self, Out.cmac_next]
@[simp] theorem State.eyeRestart_cmac (s : State) : (State.eyeRestart s).nvm.cmacKey = s.nvm.cmacKey := by
  simp only [State.eyeRestart, State.setB_cmac, State.withKiln_cmac]

/-! ## Scan -/

@[simp] theorem State.takeRegion_cmac (s : State) : (State.takeRegion s).nvm.cmacKey = s.nvm.cmacKey := by
  simp only [State.takeRegion, State.raiseIf_cmac, State.setB_cmac, State.withScan_cmac]
@[simp] theorem State.skipCount_cmac (s : State) : (State.skipCount s).nvm.cmacKey = s.nvm.cmacKey := by
  simp only [State.skipCount, State.incMod_cmac, State.raise_cmac]
@[simp] theorem State.sweepBegin_cmac (s : State) : (State.sweepBegin s).nvm.cmacKey = s.nvm.cmacKey := by
  simp only [State.sweepBegin, State.incMod_cmac, State.withScan_cmac]
@[simp] theorem State.sweepStart_cmac (s : State) (t : Nat) : (State.sweepStart s t).nvm.cmacKey = s.nvm.cmacKey := by
  simp only [State.sweepStart, State.sweepBegin_cmac, State.takeRegion_cmac, State.withScan_cmac, State.cmac_ite, ite_self]
@[simp] theorem State.dropNext_cmac (s : State) : (State.dropNext s).nvm.cmacKey = s.nvm.cmacKey := by
  simp only [State.dropNext, State.withScan_cmac]
@[simp] theorem State.dropPlanned_cmac (s : State) (c : Nat) : (State.dropPlanned s c).nvm.cmacKey = s.nvm.cmacKey := by
  simp only [State.dropPlanned]
  repeat' first | with_reducible rfl | simp only [State.reduceEntry_cmac, State.setStr_cmac] | split | refine (foldl_cmac _ (fun s x => ?_) _ _).trans ?_
@[simp] theorem State.followInhibit_cmac (s : State) : (State.followInhibit s).nvm.cmacKey = s.nvm.cmacKey := by
  simp only [State.followInhibit, State.dropNext_cmac, State.dropPlanned_cmac, State.guardInhibit_cmac, State.setB_cmac, State.cmac_ite, ite_self]
@[simp] theorem State.lockModeFollow_cmac (s : State) : (State.lockModeFollow s).nvm.cmacKey = s.nvm.cmacKey := by
  simp only [State.lockModeFollow, State.withScan_cmac, State.cmac_ite, ite_self]
@[simp] theorem State.lockUpdate_cmac (s : State) (ok : Bool) (t : Nat) : (State.lockUpdate s ok t).nvm.cmacKey = s.nvm.cmacKey := by
  simp only [State.lockUpdate, State.lockModeFollow_cmac, State.raise_cmac, State.setB_cmac, State.withScan_cmac, State.cmac_ite, ite_self]
@[simp] theorem State.lockInterval_cmac (s : State) : (State.lockInterval s).nvm.cmacKey = s.nvm.cmacKey := by
  simp only [State.lockInterval, State.lockModeFollow_cmac, State.setB_cmac, State.withScan_cmac, State.cmac_ite, ite_self]
@[simp] theorem State.stallCheck_cmac (s : State) (t : Nat) : (State.stallCheck s t).nvm.cmacKey = s.nvm.cmacKey := by
  simp only [State.stallCheck, State.cmac_ite]
  repeat' first | with_reducible rfl | simp only [State.incSat_cmac, State.raise_cmac, State.withScan_cmac, State.cmac_ite, ite_self] | split
@[simp] theorem State.msnsBase_cmac (s : State) (v t : Nat) : (State.msnsBase s v t).nvm.cmacKey = s.nvm.cmacKey := by
  simp only [State.msnsBase, State.followInhibit_cmac, State.lockUpdate_cmac, State.setB_cmac, State.setF_cmac, State.stallCheck_cmac, State.withScan_cmac, State.cmac_ite, ite_self]
@[simp] theorem State.strokeEnd_cmac (s : State) (t : Nat) : (State.strokeEnd s t).nvm.cmacKey = s.nvm.cmacKey := by
  simp only [State.strokeEnd, State.followInhibit_cmac, State.lockInterval_cmac, State.withScan_cmac, State.cmac_ite, ite_self]
@[simp] theorem State.planUe_cmac (s : State) (i : Nat) : (State.planUe s i).nvm.cmacKey = s.nvm.cmacKey := by
  simp only [State.planUe, State.logEvent_cmac, State.raise_cmac]
@[simp] theorem State.tPred_cmac (s : State) (t : Nat) (rest : List (Nat × Bool)) : (State.tPred s t rest).2.nvm.cmacKey = s.nvm.cmacKey := by
  simp only [State.tPred, State.cmac_ite, apply_ite Prod.snd]
  repeat' first | with_reducible rfl | simp only [State.fresh_cmac, ite_self, apply_ite Prod.snd] | split
@[simp] theorem State.grantFor_cmac (s : State) (az : Nat) (rest : List (Nat × Bool)) (t now : Nat) (bad : List Nat) : (State.grantFor s az rest t now bad).nvm.cmacKey = s.nvm.cmacKey := by
  simp only [State.grantFor]
  repeat' first | with_reducible rfl | simp only [State.comingDemand_cmac, State.decayTo_cmac, State.demandTarget_cmac, State.planUe_cmac, State.raiseIf_cmac, State.tPred_cmac, State.withKiln_cmac, State.withScan_cmac, State.cmac_ite, ite_self] | split | refine (foldl_cmac _ (fun s x => ?_) _ _).trans ?_
@[simp] theorem State.grantDue_cmac (s : State) (now : Nat) (bad : List Nat) : (State.grantDue s now bad).nvm.cmacKey = s.nvm.cmacKey := by
  simp only [State.grantDue, State.grantFor_cmac, State.cmac_ite, ite_self]
  repeat' first | with_reducible rfl | simp only [State.grantFor_cmac, State.cmac_ite, ite_self] | split
@[simp] theorem State.rearm_cmac (s : State) (t : Nat) (bad : List Nat) : (State.rearm s t bad).nvm.cmacKey = s.nvm.cmacKey := by
  simp only [State.rearm, State.grantDue_cmac, State.withScan_cmac, State.cmac_ite, ite_self]
theorem execEmissionLimitDecide_cmac (n : Nat) (mismatch : Bool) (s : State) : Out.cmac s.nvm.cmacKey (execEmissionLimitDecide n mismatch s) = s.nvm.cmacKey := by
  simp only [execEmissionLimitDecide]
  repeat' first | with_reducible rfl | simp only [State.eyeMismatch_cmac, State.incSat_cmac, State.modNext_cmac, State.raise_cmac, State.withScan_cmac, State.cmac_ite, ite_self, Out.cmac_next, Out.cmac_ite] | split

/-! ## Ctl -/

@[simp] theorem State.ctlApply_cmac (s : State) : (State.ctlApply s).nvm.cmacKey = s.nvm.cmacKey := by
  simp only [State.ctlApply, State.withCtl_cmac]
@[simp] theorem State.stick_cmac (s : State) (F : Fld) (flags : Nat) (c : Cause) : (State.stick s F flags c).nvm.cmacKey = s.nvm.cmacKey := by
  simp only [State.stick, State.countCause_cmac, State.setF_cmac, State.cmac_ite, ite_self]
@[simp] theorem State.vspadFollow_cmac (s : State) : (State.vspadFollow s).nvm.cmacKey = s.nvm.cmacKey := by
  simp only [State.vspadFollow, State.setF_cmac, State.cmac_ite, ite_self]
@[simp] theorem State.drive_cmac (s : State) (n v : Nat) : (State.drive s n v).nvm.cmacKey = s.nvm.cmacKey := by
  simp only [State.drive]
  repeat' first | with_reducible rfl | simp only [State.withCtl_cmac] | split
@[simp] theorem State.loopRun_cmac (s : State) (n : Nat) : (State.loopRun s n).nvm.cmacKey = s.nvm.cmacKey := by
  simp only [State.loopRun, State.drive_cmac, State.setF_cmac, State.withCtl_cmac, State.cmac_ite, ite_self]
@[simp] theorem State.loopEval_cmac (s : State) (n : Nat) : (State.loopEval s n).nvm.cmacKey = s.nvm.cmacKey := by
  simp only [State.loopEval, State.drive_cmac, State.setF_cmac, State.setFs_cmac, State.stick_cmac]
@[simp] theorem State.loopTick_cmac (s : State) (n : Nat) : (State.loopTick s n).nvm.cmacKey = s.nvm.cmacKey := by
  simp only [State.loopTick, State.loopEval_cmac, State.loopRun_cmac, State.withCtl_cmac, State.cmac_ite, ite_self]
@[simp] theorem State.mirrorLoop_cmac (s : State) : (State.mirrorLoop s).nvm.cmacKey = s.nvm.cmacKey := by
  simp only [State.mirrorLoop, State.loopEval_cmac, State.loopRun_cmac, State.cmac_ite, ite_self]
@[simp] theorem State.setDac_cmac (s : State) (n win out : Nat) : (State.setDac s n win out).nvm.cmacKey = s.nvm.cmacKey := by
  simp only [State.setDac, State.setF_cmac, State.setVbank_cmac]
@[simp] theorem State.groupRun_cmac (s : State) (n : Nat) : (State.groupRun s n).nvm.cmacKey = s.nvm.cmacKey := by
  simp only [State.groupRun, State.setF_cmac, State.setVbank_cmac, State.withCtl_cmac, State.cmac_ite, ite_self]
  repeat' first | with_reducible rfl | simp only [State.setF_cmac] | split | refine (foldl_cmac _ (fun s x => ?_) _ _).trans ?_
@[simp] theorem State.groupEval_cmac (s : State) (n : Nat) : (State.groupEval s n).nvm.cmacKey = s.nvm.cmacKey := by
  simp only [State.groupEval, State.setDac_cmac, State.cmac_ite]
  repeat' first | with_reducible rfl | simp only [State.setF_cmac, State.setFs_cmac, State.stick_cmac] | split | refine (foldl_cmac _ (fun s x => ?_) _ _).trans ?_
theorem execChargeGroupEvaluate_cmac (n : Nat) (s : State) : Out.cmac s.nvm.cmacKey (execChargeGroupEvaluate n s) = s.nvm.cmacKey := by
  simp only [execChargeGroupEvaluate, State.groupEval_cmac, State.groupRun_cmac, Out.cmac_next]
@[simp] theorem State.eyeTargets_cmac (s : State) (g : Grant) (azNext : Option Nat) : (State.eyeTargets s g azNext).nvm.cmacKey = s.nvm.cmacKey := by
  simp only [State.eyeTargets]
  repeat' first | with_reducible rfl | simp only [State.setF_cmac] | split | refine (foldl_cmac _ (fun s x => ?_) _ _).trans ?_
@[simp] theorem State.biasSet_cmac (s : State) : (State.biasSet s).nvm.cmacKey = s.nvm.cmacKey := by
  simp only [State.biasSet, State.setB_cmac, State.setF_cmac, State.setFs_cmac]
@[simp] theorem State.biasOk_cmac (s : State) : (State.biasOk s).nvm.cmacKey = s.nvm.cmacKey := by
  simp only [State.biasOk, State.raiseIf_cmac, State.setB_cmac]
theorem execVspadOvervoltage_cmac (s : State) (above : Bool) : Out.cmac s.nvm.cmacKey (execVspadOvervoltage s above) = s.nvm.cmacKey := by
  simp only [execVspadOvervoltage, State.withCtl_cmac, Out.cmac_next]
@[simp] theorem State.mexcCheck_cmac (s : State) (i : Nat) (limit : Bool) : (State.mexcCheck s i limit).nvm.cmacKey = s.nvm.cmacKey := by
  simp only [State.mexcCheck, State.followInhibit_cmac, State.raiseIf_cmac, State.setB_cmac, State.withCtl_cmac, State.withScan_cmac, State.cmac_ite, ite_self]
@[simp] theorem State.powerMon_cmac (s : State) (vin pin : Nat) : (State.powerMon s vin pin).nvm.cmacKey = s.nvm.cmacKey := by
  simp only [State.powerMon, State.setF_cmac, State.withCtl_cmac, State.cmac_ite, ite_self]
theorem execCtlTick_cmac (vspad mexc : Nat) (limit : Bool) (vin pin : Nat) (s : State) : Out.cmac s.nvm.cmacKey (execCtlTick vspad mexc limit vin pin s) = s.nvm.cmacKey := by
  simp only [execCtlTick, Out.cmac_next, Out.cmac_ite]
  repeat' first | with_reducible rfl | simp only [State.adcMsns_cmac, State.adcTick_cmac, State.biasOk_cmac, State.biasSet_cmac, State.groupEval_cmac, State.groupRun_cmac, State.loopTick_cmac, State.mexcCheck_cmac, State.powerMon_cmac, State.setF_cmac, State.vspadFollow_cmac, State.withCtl_cmac, State.cmac_ite, ite_self] | split | refine (foldl_cmac _ (fun s x => ?_) _ _).trans ?_
theorem execCtlCommit_cmac (s : State) : Out.cmac s.nvm.cmacKey (execCtlCommit s) = s.nvm.cmacKey := by
  simp only [execCtlCommit, State.ctlApply_cmac, Out.cmac_next]

/-! ## Analog -/

@[simp] theorem State.reqGo_cmac (s : State) (n : Nat) : (State.reqGo s n).nvm.cmacKey = s.nvm.cmacKey := by
  simp only [State.reqGo, State.adcDue_cmac, State.cmac_ite, ite_self]
theorem execAdc0ReqGo_cmac (n : Nat) (s : State) : Out.cmac s.nvm.cmacKey (execAdc0ReqGo n s) = s.nvm.cmacKey := by
  simp only [execAdc0ReqGo, State.reqGo_cmac, State.cmac_ite, ite_self, Out.cmac_next]
@[simp] theorem State.reqUsed_cmac (s : State) (n t : Nat) : (State.reqUsed s n t).nvm.cmacKey = s.nvm.cmacKey := by
  simp only [State.reqUsed, State.withAdc_cmac, State.cmac_ite, ite_self]
theorem execAdc0ReqTrigger_cmac (n t : Nat) (s : State) : Out.cmac s.nvm.cmacKey (execAdc0ReqTrigger n t s) = s.nvm.cmacKey := by
  simp only [execAdc0ReqTrigger, Out.cmac_next, Out.cmac_ite]
  repeat' first | with_reducible rfl | simp only [State.adcAdd_cmac, State.adcStamp_cmac, State.raise_cmac, State.reqUsed_cmac, State.rset_cmac, State.withAdc_cmac, ite_self, Out.cmac_next, Out.cmac_ite] | split
theorem State.storeBurst_cmac (s : State) (n i : Nat) (l : List (BitVec 16)) : (s.storeBurst n i l).nvm.cmacKey = s.nvm.cmacKey := by
  induction l generalizing s i with
  | nil => rfl
  | cons w l ih => simp only [State.storeBurst, ih, State.setF_cmac]
theorem execAdc0BurstDone_cmac (n : Nat) (convs : List Conv) (s : State) : Out.cmac s.nvm.cmacKey (execAdc0BurstDone n convs s) = s.nvm.cmacKey := by
  simp only [execAdc0BurstDone]
  repeat' first | with_reducible rfl | simp only [State.adcDone_cmac, State.rset_cmac, State.withAdcLast_cmac, State.storeBurst_cmac, Out.cmac_next, Out.cmac_ite] | split
@[simp] theorem State.background_cmac (s : State) (t : Nat) (c : Conv) : (State.background s t c).nvm.cmacKey = s.nvm.cmacKey := by
  simp only [State.background, State.setF_cmac, State.withAdc_cmac, State.withAdcLast_cmac]
@[simp] theorem State.firCommit_cmac (s : State) : (State.firCommit s).nvm.cmacKey = s.nvm.cmacKey := by
  simp only [State.firCommit, State.withAdc_cmac]
@[simp] theorem State.adcFirWritten_cmac (s : State) (v : Word) : (State.adcFirWritten s v).nvm.cmacKey = s.nvm.cmacKey := by
  simp only [State.adcFirWritten, State.firCommit_cmac, State.withAdc_cmac, State.cmac_ite, ite_self]
theorem execAdc0FirCommit_cmac (s : State) : Out.cmac s.nvm.cmacKey (execAdc0FirCommit s) = s.nvm.cmacKey := by
  simp only [execAdc0FirCommit, State.firCommit_cmac, Out.cmac_next]
@[simp] theorem State.adcEvent_cmac (s : State) (t : Nat) (rise : Bool) : (State.adcEvent s t rise).nvm.cmacKey = s.nvm.cmacKey := by
  simp only [State.adcEvent, State.raise_cmac, State.withAdc_cmac, State.cmac_ite, ite_self]
@[simp] theorem State.adcCompare_cmac (s : State) (t : Nat) (y : Int) : (State.adcCompare s t y).nvm.cmacKey = s.nvm.cmacKey := by
  simp only [State.adcCompare]
  repeat' first | with_reducible rfl | simp only [State.adcEvent_cmac, State.withAdc_cmac, State.cmac_ite, ite_self] | split
@[simp] theorem State.firOut_cmac (s : State) (t : Nat) : (State.firOut s t).nvm.cmacKey = s.nvm.cmacKey := by
  simp only [State.firOut, State.adcCompare_cmac, State.setB_cmac, State.setFs_cmac, State.withAdc_cmac, State.cmac_ite, ite_self]
@[simp] theorem State.firStep_cmac (s : State) (t : Nat) : (State.firStep s t).nvm.cmacKey = s.nvm.cmacKey := by
  simp only [State.firStep, State.firOut_cmac, State.withAdc_cmac, State.cmac_ite, ite_self]
theorem execFirOutput_cmac (t : Nat) (s : State) (convs : List Conv) : Out.cmac s.nvm.cmacKey (execFirOutput t s convs) = s.nvm.cmacKey := by
  simp only [execFirOutput, Out.cmac_next, Out.cmac_ite]
  repeat' first | with_reducible rfl | simp only [State.background_cmac, State.firStep_cmac] | split | refine (foldl_cmac _ (fun s x => ?_) _ _).trans ?_
theorem execAdc0EvhiRead_cmac (s : State) : Out.cmac s.nvm.cmacKey (execAdc0EvhiRead s) = s.nvm.cmacKey := by
  simp only [execAdc0EvhiRead, State.withAdc_cmac, Out.cmac_next]
@[simp] theorem State.afeValue_cmac (s : State) (m : Nat) (x : AfeRaw) (r : Option Int) : (State.afeValue s m x r).2.nvm.cmacKey = s.nvm.cmacKey := by
  unfold State.afeValue
  repeat' first | with_reducible rfl | simp only [State.fresh_cmac, State.cmac_ite, ite_self, apply_ite Prod.snd] | split
@[simp] theorem State.chgUpdate_cmac (s : State) : (State.chgUpdate s).nvm.cmacKey = s.nvm.cmacKey := by
  simp only [State.chgUpdate, State.setF_cmac, State.withEmit_cmac, State.withTherm_cmac, State.cmac_ite, ite_self]
@[simp] theorem State.boardUpdate_cmac (s : State) : (State.boardUpdate s).nvm.cmacKey = s.nvm.cmacKey := by
  simp only [State.boardUpdate]
  repeat' first | with_reducible rfl | simp only [State.chgUpdate_cmac, State.updateTj_cmac] | split | refine (foldl_cmac _ (fun s x => ?_) _ _).trans ?_
@[simp] theorem State.afeLead_cmac (s : State) (m : Nat) (rl : Option Nat) : (State.afeLead s m rl).nvm.cmacKey = s.nvm.cmacKey := by
  simp only [State.afeLead]
  repeat' first | with_reducible rfl | simp only [State.setF_cmac] | split
@[simp] theorem State.afeStore_cmac (s : State) (m : Nat) (v : Int) (cl : Bool) : (State.afeStore s m v cl).nvm.cmacKey = s.nvm.cmacKey := by
  simp only [State.afeStore, State.raiseIf_cmac, State.setB_cmac, State.setFs_cmac]
theorem execAfeConversionDone_cmac (m : Nat) (x : AfeRaw) (s : State) : Out.cmac s.nvm.cmacKey (execAfeConversionDone m x s) = s.nvm.cmacKey := by
  simp only [execAfeConversionDone, State.afeLead_cmac, State.afeStore_cmac, State.afeValue_cmac, State.boardUpdate_cmac, State.raise_cmac, State.raiseIf_cmac, State.setB_cmac, State.withAfePos_cmac, ite_self, Out.cmac_next, Out.cmac_ite]
@[simp] theorem State.markSuspect_cmac (s : State) (raw : Nat → Int) (k : Nat) : (State.markSuspect s raw k).nvm.cmacKey = s.nvm.cmacKey := by
  simp only [State.markSuspect, State.raise_cmac, State.setF_cmac, State.withTherm_cmac, State.cmac_ite, ite_self]
@[simp] theorem State.judgeShutdown_cmac (s : State) (i : Nat) : (State.judgeShutdown s i).nvm.cmacKey = s.nvm.cmacKey := by
  simp only [State.judgeShutdown, State.incSat_cmac, State.logEvent_cmac, State.raise_cmac, State.withTherm_cmac, State.cmac_ite, ite_self]
@[simp] theorem State.judgeGroup_cmac (s : State) (g : Nat) : (State.judgeGroup s g).nvm.cmacKey = s.nvm.cmacKey := by
  simp only [State.judgeGroup, State.raiseIf_cmac, State.withTherm_cmac]
@[simp] theorem State.thermStat_cmac (s : State) : (State.thermStat s).nvm.cmacKey = s.nvm.cmacKey := by
  simp only [State.thermStat, State.setB_cmac, State.setF_cmac]
@[simp] theorem State.thermRaw_cmac (s : State) (readings : List (BitVec 16)) : (State.thermRaw s readings).nvm.cmacKey = s.nvm.cmacKey := by
  simp only [State.thermRaw]
  repeat' first | with_reducible rfl | simp only [State.setF_cmac] | split | refine (foldl_cmac _ (fun s x => ?_) _ _).trans ?_
@[simp] theorem State.thermMark_cmac (s : State) (r : Nat → Int) : (State.thermMark s r).nvm.cmacKey = s.nvm.cmacKey := by
  simp only [State.thermMark]
  repeat' first | with_reducible rfl | simp only [State.markSuspect_cmac] | split | refine (foldl_cmac _ (fun s x => ?_) _ _).trans ?_
@[simp] theorem State.thermUsed_cmac (s : State) (r : Nat → Int) (susp : Nat → Bool) : (State.thermUsed s r susp).nvm.cmacKey = s.nvm.cmacKey := by
  simp only [State.thermUsed]
  repeat' first | with_reducible rfl | simp only [State.setFs_cmac] | split | refine (foldl_cmac _ (fun s x => ?_) _ _).trans ?_
@[simp] theorem State.thermExternal_cmac (s : State) (i : Nat) : (State.thermExternal s i).nvm.cmacKey = s.nvm.cmacKey := by
  simp only [State.thermExternal, State.setFs_cmac, State.cmac_ite, ite_self]
@[simp] theorem State.thermJudge_cmac (s : State) : (State.thermJudge s).nvm.cmacKey = s.nvm.cmacKey := by
  simp only [State.thermJudge]
  repeat' first | with_reducible rfl | simp only [State.judgeGroup_cmac, State.judgeShutdown_cmac] | split | refine (foldl_cmac _ (fun s x => ?_) _ _).trans ?_
theorem execThermScan_cmac (readings : List (BitVec 16)) (s : State) : Out.cmac s.nvm.cmacKey (execThermScan readings s) = s.nvm.cmacKey := by
  simp only [execThermScan, State.biasSet_cmac, State.boardUpdate_cmac, State.nvmKick_cmac, State.thermJudge_cmac, State.thermStat_cmac, Out.cmac_next]
  repeat' first | with_reducible rfl | simp only [State.thermExternal_cmac, State.thermMark_cmac, State.thermRaw_cmac, State.thermUsed_cmac] | split | refine (foldl_cmac _ (fun s x => ?_) _ _).trans ?_
theorem execDieHardTrip_cmac (s : State) : Out.cmac s.nvm.cmacKey (execDieHardTrip s) = s.nvm.cmacKey := by
  simp only [execDieHardTrip, State.logEvent_cmac, State.raise_cmac, State.raiseReset_cmac, State.setB_cmac, State.withEmit_cmac, Out.cmac_next]
theorem execDieHardTripClear_cmac (s : State) : Out.cmac s.nvm.cmacKey (execDieHardTripClear s) = s.nvm.cmacKey := by
  simp only [execDieHardTripClear, State.setB_cmac, Out.cmac_next]

/-! ## Rx -/

@[simp] theorem State.setChan_cmac (s : State) (c : Nat) (x : ChanSt) : (State.setChan s c x).nvm.cmacKey = s.nvm.cmacKey := by
  simp only [State.setChan, State.withChans_cmac]
@[simp] theorem State.setCluster_cmac (s : State) (k : Nat) (x : CluSt) : (State.setCluster s k x).nvm.cmacKey = s.nvm.cmacKey := by
  simp only [State.setCluster, State.withClus_cmac]
@[simp] theorem State.rejectMap_cmac (s : State) (c : Nat) : (State.rejectMap s c).nvm.cmacKey = s.nvm.cmacKey := by
  simp only [State.rejectMap, State.incSat_cmac, State.raise_cmac, State.setB_cmac]
@[simp] theorem State.activateMap_cmac (s : State) (c : Nat) (map : List Nat) (dnl : Nat) : (State.activateMap s c map dnl).nvm.cmacKey = s.nvm.cmacKey := by
  simp only [State.activateMap, State.setB_cmac, State.setChan_cmac, State.setF_cmac, State.cmac_ite, ite_self]
@[simp] theorem State.startBootRun_cmac (s : State) : (State.startBootRun s).nvm.cmacKey = s.nvm.cmacKey := by
  simp only [State.startBootRun, State.setB_cmac, State.withMash_cmac, State.withScan_cmac]
@[simp] theorem State.bootMap_cmac (s : State) (c : Nat) (h : List Nat) : (State.bootMap s c h).nvm.cmacKey = s.nvm.cmacKey := by
  simp only [State.bootMap, State.activateMap_cmac, State.incMod_cmac, State.rejectMap_cmac, State.setB_cmac, State.setChan_cmac, State.cmac_ite, ite_self]
@[simp] theorem State.calRun_cmac (s : State) : (State.calRun s).nvm.cmacKey = s.nvm.cmacKey := by
  simp only [State.calRun, State.startBootRun_cmac, State.cmac_ite, ite_self]
@[simp] theorem State.bootRunEnd_cmac (s : State) (hits : List (Nat × List Nat)) : (State.bootRunEnd s hits).nvm.cmacKey = s.nvm.cmacKey := by
  simp only [State.bootRunEnd, State.setB_cmac, State.withMash_cmac, State.withScan_cmac]
  repeat' first | with_reducible rfl | simp only [State.bootMap_cmac, State.setF_cmac] | split | refine (foldl_cmac _ (fun s x => ?_) _ _).trans ?_
theorem execBgcalMapStaged_cmac (c t : Nat) (s : State) : Out.cmac s.nvm.cmacKey (execBgcalMapStaged c t s) = s.nvm.cmacKey := by
  simp only [execBgcalMapStaged, State.rejectMap_cmac, State.setB_cmac, State.setChan_cmac, ite_self, Out.cmac_next, Out.cmac_ite]
@[simp] theorem State.bgHit_cmac (s : State) (c tap : Nat) : (State.bgHit s c tap).nvm.cmacKey = s.nvm.cmacKey := by
  simp only [State.bgHit, State.setChan_cmac, State.cmac_ite, ite_self]
@[simp] theorem State.flybackInject_cmac (s : State) (t : Nat) : (State.flybackInject s t).nvm.cmacKey = s.nvm.cmacKey := by
  simp only [State.flybackInject, State.withMash_cmac, State.withScan_cmac, State.cmac_ite, ite_self]
@[simp] theorem State.showAmb_cmac (s : State) (c : Nat) (a : Amb) : (State.showAmb s c a).nvm.cmacKey = s.nvm.cmacKey := by
  simp only [State.showAmb, State.setB_cmac, State.setF_cmac]
@[simp] theorem State.markStale_cmac (s : State) (k : Nat) : (State.markStale s k).nvm.cmacKey = s.nvm.cmacKey := by
  simp only [State.markStale]
  repeat' first | with_reducible rfl | simp only [State.raise_cmac, State.showAmb_cmac] | split | refine (foldl_cmac _ (fun s x => ?_) _ _).trans ?_
theorem execAmbientGateOpen_cmac (c : Nat) (s : State) : Out.cmac s.nvm.cmacKey (execAmbientGateOpen c s) = s.nvm.cmacKey := by
  simp only [execAmbientGateOpen, State.setChan_cmac, ite_self, Out.cmac_next, Out.cmac_ite]
theorem execAmbientGateMidpoint_cmac (c : Nat) (s : State) : Out.cmac s.nvm.cmacKey (execAmbientGateMidpoint c s) = s.nvm.cmacKey := by
  simp only [execAmbientGateMidpoint]
  repeat' first | with_reducible rfl | simp only [State.setChan_cmac, State.cmac_ite, ite_self, Out.cmac_next] | split
theorem execAmbientGateClose_cmac (c : Nat) (s : State) : Out.cmac s.nvm.cmacKey (execAmbientGateClose c s) = s.nvm.cmacKey := by
  simp only [execAmbientGateClose]
  repeat' first | with_reducible rfl | simp only [State.setChan_cmac, State.showAmb_cmac, Out.cmac_next] | split
@[simp] theorem State.modAcc_cmac (s : State) (k : Nat) (g : ColAcc → ColAcc) : (State.modAcc s k g).nvm.cmacKey = s.nvm.cmacKey := by
  simp only [State.modAcc, State.setCluster_cmac]
@[simp] theorem State.windowGone_cmac (s : State) (k : Nat) (w : Win) (t : Nat) (cut : Bool) : (State.windowGone s k w t cut).nvm.cmacKey = s.nvm.cmacKey := by
  simp only [State.windowGone, State.modAcc_cmac, State.cmac_ite, ite_self]
@[simp] theorem State.closeExpired_cmac (s : State) (k t : Nat) : (State.closeExpired s k t).nvm.cmacKey = s.nvm.cmacKey := by
  simp only [State.closeExpired]
  repeat' first | with_reducible rfl | simp only [State.setCluster_cmac, State.windowGone_cmac] | split | refine (foldl_cmac _ (fun s x => ?_) _ _).trans ?_
theorem execWindowClose_cmac (k t : Nat) (s : State) : Out.cmac s.nvm.cmacKey (execWindowClose k t s) = s.nvm.cmacKey := by
  simp only [execWindowClose, State.closeExpired_cmac, Out.cmac_next]
@[simp] theorem State.openWindow_cmac (s : State) (k t wint : Nat) : (State.openWindow s k t wint).nvm.cmacKey = s.nvm.cmacKey := by
  simp only [State.openWindow, State.modAcc_cmac, State.setCluster_cmac]
  repeat' first | with_reducible rfl | simp only [State.closeExpired_cmac, State.raise_cmac, State.setCluster_cmac, State.windowGone_cmac] | split
@[simp] theorem State.setLevel_cmac (s : State) (k n t : Nat) : (State.setLevel s k n t).nvm.cmacKey = s.nvm.cmacKey := by
  simp only [State.setLevel, State.setCluster_cmac, State.setF_cmac]
@[simp] theorem State.thinRise_cmac (s : State) (k t : Nat) : (State.thinRise s k t).nvm.cmacKey = s.nvm.cmacKey := by
  simp only [State.thinRise, State.raiseIf_cmac, State.setCluster_cmac, State.setLevel_cmac, State.cmac_ite, ite_self]
theorem execThinLevelFall_cmac (k t : Nat) (s : State) : Out.cmac s.nvm.cmacKey (execThinLevelFall k t s) = s.nvm.cmacKey := by
  simp only [execThinLevelFall, State.setLevel_cmac, State.thinRise_cmac, ite_self, Out.cmac_next, Out.cmac_ite]
@[simp] theorem State.markLoss_cmac (s : State) (c : Nat) (old : Bool) : (State.markLoss s c old).nvm.cmacKey = s.nvm.cmacKey := by
  simp only [State.markLoss, State.raise_cmac, State.setChan_cmac]
@[simp] theorem State.enqueue_cmac (s : State) (c t fine : Nat) (w : Win) (ws : List Win) : (State.enqueue s c t fine w ws).nvm.cmacKey = s.nvm.cmacKey := by
  simp only [State.enqueue, State.incSat_cmac, State.markLoss_cmac, State.raise_cmac, State.raiseIf_cmac, State.setChan_cmac, State.thinRise_cmac, State.cmac_ite, ite_self]
@[simp] theorem State.calHit_cmac (s : State) (c ps tap : Nat) : (State.calHit s c ps tap).nvm.cmacKey = s.nvm.cmacKey := by
  simp only [State.calHit, State.bgHit_cmac, State.setChan_cmac, State.cmac_ite, ite_self]
@[simp] theorem State.coincidence_cmac (s : State) (c : Nat) (q : CoSet) : (State.coincidence s c q).nvm.cmacKey = s.nvm.cmacKey := by
  simp only [State.coincidence, State.cmac_ite]
  repeat' first | with_reducible rfl | simp only [State.enqueue_cmac, State.incSat_cmac, State.setChan_cmac, State.cmac_ite, ite_self] | split
@[simp] theorem State.joinSet_cmac (s : State) (c k i ps tap : Nat) : (State.joinSet s c k i ps tap).nvm.cmacKey = s.nvm.cmacKey := by
  simp only [State.joinSet, State.coincidence_cmac, State.setChan_cmac, State.cmac_ite, ite_self]
@[simp] theorem State.avalanche_cmac (s : State) (c : Nat) (a : Nat × Nat × Nat) : (State.avalanche s c a).nvm.cmacKey = s.nvm.cmacKey := by
  simp only [State.avalanche, State.cmac_ite]
  repeat' first | with_reducible rfl | simp only [State.calHit_cmac, State.joinSet_cmac, State.setChan_cmac, State.cmac_ite, ite_self] | split
theorem execRxEvent_cmac (c i ps tap : Nat) (s : State) (avs : List (Nat × Nat × Nat)) : Out.cmac s.nvm.cmacKey (execRxEvent c i ps tap s avs) = s.nvm.cmacKey := by
  simp only [execRxEvent, Out.cmac_next]
  repeat' first | with_reducible rfl | simp only [State.avalanche_cmac] | split | refine (foldl_cmac _ (fun s x => ?_) _ _).trans ?_
@[simp] theorem State.capArm_cmac (s : State) : (State.capArm s).nvm.cmacKey = s.nvm.cmacKey := by
  simp only [State.capArm, State.setF_cmac, State.withMash_cmac]
@[simp] theorem State.capture_cmac (s : State) (c : Nat) (w : Word) : (State.capture s c w).nvm.cmacKey = s.nvm.cmacKey := by
  simp only [State.capture, State.rset_cmac, State.setF_cmac, State.withMash_cmac, State.cmac_ite, ite_self]

/-! ## Mash -/

@[simp] theorem State.setBin_cmac (s : State) (n : Nat) (v : BitVec 16) : (State.setBin s n v).nvm.cmacKey = s.nvm.cmacKey := by
  simp only [State.setBin, State.withTun_cmac]
@[simp] theorem State.modChAcc_cmac (s : State) (c : Nat) (old : Bool) (g : ChAcc → ChAcc) : (State.modChAcc s c old g).nvm.cmacKey = s.nvm.cmacKey := by
  simp only [State.modChAcc, State.setChan_cmac]
@[simp] theorem State.binError_cmac (s : State) (n c : Nat) (old ue : Bool) : (State.binError s n c old ue).nvm.cmacKey = s.nvm.cmacKey := by
  simp only [State.binError, State.incSat_cmac, State.logEvent_cmac, State.modChAcc_cmac, State.raise_cmac, State.setB_cmac, State.setBin_cmac, State.setF_cmac, State.cmac_ite, ite_self]
@[simp] theorem State.binUpdate_cmac (s : State) (c b w t : Nat) (old : Bool) : (State.binUpdate s c b w t old).nvm.cmacKey = s.nvm.cmacKey := by
  simp only [State.binUpdate, State.incSat_cmac, State.markLoss_cmac, State.modChAcc_cmac, State.raise_cmac, State.raiseIf_cmac, State.setBin_cmac, State.cmac_ite]
  repeat' first | with_reducible rfl | simp only [State.setCluster_cmac, State.cmac_ite, ite_self] | split
@[simp] theorem State.binUpdateErr_cmac (s : State) (c b w t : Nat) (old : Bool) (err : Nat) : (State.binUpdateErr s c b w t old err).nvm.cmacKey = s.nvm.cmacKey := by
  simp only [State.binUpdateErr, State.binError_cmac, State.binUpdate_cmac, State.cmac_ite, ite_self]
@[simp] theorem State.binEvent_cmac (s : State) (c : Nat) (e : FifoE) (w t : Nat) (old : Bool) (errs : List Nat) : (State.binEvent s c e w t old errs).nvm.cmacKey = s.nvm.cmacKey := by
  simp only [State.binEvent]
  repeat' first | with_reducible rfl | simp only [State.binUpdateErr_cmac, State.modChAcc_cmac] | split | refine (foldl_cmac _ (fun s x => ?_) _ _).trans ?_
theorem execMashDrain_cmac (k t : Nat) (par : Bool) (s : State) (errs : List Nat) : Out.cmac s.nvm.cmacKey (execMashDrain k t par s errs) = s.nvm.cmacKey := by
  simp only [execMashDrain]
  repeat' first | with_reducible rfl | simp only [State.binEvent_cmac, State.capture_cmac, State.incSat_cmac, State.markLoss_cmac, State.modChAcc_cmac, State.raise_cmac, State.setChan_cmac, State.setCluster_cmac, State.thinRise_cmac, State.cmac_ite, ite_self, Out.cmac_next, Out.cmac_ite] | split
theorem execZoomPlace_cmac (k : Nat) (s : State) : Out.cmac s.nvm.cmacKey (execZoomPlace k s) = s.nvm.cmacKey := by
  simp only [execZoomPlace]
  repeat' first | with_reducible rfl | simp only [State.modChAcc_cmac, State.setCluster_cmac, Out.cmac_next] | split | refine (foldl_cmac _ (fun s x => ?_) _ _).trans ?_
@[simp] theorem State.switchMaps_cmac (s : State) (t : Nat) : (State.switchMaps s t).nvm.cmacKey = s.nvm.cmacKey := by
  simp only [State.switchMaps]
  repeat' first | with_reducible rfl | simp only [State.activateMap_cmac, State.incMod_cmac, State.setChan_cmac, State.cmac_ite, ite_self] | split | refine (foldl_cmac _ (fun s x => ?_) _ _).trans ?_
@[simp] theorem State.markMaps_cmac (s : State) : (State.markMaps s).nvm.cmacKey = s.nvm.cmacKey := by
  simp only [State.markMaps]
  repeat' first | with_reducible rfl | simp only [State.setChan_cmac, State.cmac_ite, ite_self] | split | refine (foldl_cmac _ (fun s x => ?_) _ _).trans ?_
@[simp] theorem State.closeAmb_cmac (s : State) : (State.closeAmb s).nvm.cmacKey = s.nvm.cmacKey := by
  simp only [State.closeAmb]
  repeat' first | with_reducible rfl | simp only [State.modChAcc_cmac] | split | refine (foldl_cmac _ (fun s x => ?_) _ _).trans ?_
@[simp] theorem State.doSwap_cmac (s : State) (t : Nat) : (State.doSwap s t).nvm.cmacKey = s.nvm.cmacKey := by
  simp only [State.doSwap]
  repeat' first | with_reducible rfl | simp only [State.markMaps_cmac, State.markStale_cmac, State.setB_cmac, State.setF_cmac, State.switchMaps_cmac, State.withChans_cmac, State.withClus_cmac, State.withMash_cmac, State.cmac_ite, ite_self] | split | refine (foldl_cmac _ (fun s x => ?_) _ _).trans ?_
@[simp] theorem State.mashTrigger_cmac (s : State) (t : Nat) (g : Grant) : (State.mashTrigger s t g).nvm.cmacKey = s.nvm.cmacKey := by
  simp only [State.mashTrigger, State.doSwap_cmac, State.withMash_cmac, State.cmac_ite, ite_self]
  repeat' first | with_reducible rfl | simp only [State.closeExpired_cmac, State.setCluster_cmac, State.cmac_ite, ite_self] | split | refine (foldl_cmac _ (fun s x => ?_) _ _).trans ?_
@[simp] theorem State.spargeEnd_cmac (s : State) (t : Nat) : (State.spargeEnd s t).nvm.cmacKey = s.nvm.cmacKey := by
  simp only [State.spargeEnd, State.doSwap_cmac, State.withMash_cmac, State.withTun_cmac, State.cmac_ite, ite_self]
@[simp] theorem State.snapshot_cmac (s : State) (c : Nat) (h : Hist) : (State.snapshot s c h).nvm.cmacKey = s.nvm.cmacKey := by
  simp only [State.snapshot, State.raise_cmac, State.setB_cmac, State.cmac_ite]
  repeat' first | with_reducible rfl | simp only [State.rset_cmac] | split | refine (foldl_cmac _ (fun s x => ?_) _ _).trans ?_
@[simp] theorem State.passHist_cmac (s : State) (c : Nat) (h : Hist) : (State.passHist s c h).nvm.cmacKey = s.nvm.cmacKey := by
  simp only [State.passHist, State.snapshot_cmac, State.withHists_cmac]
  repeat' first | with_reducible rfl | simp only [State.rset_cmac] | split | refine (foldl_cmac _ (fun s x => ?_) _ _).trans ?_
@[simp] theorem State.spargeClear_cmac (s : State) (c : Nat) (errs : List (Nat × Bool)) : (State.spargeClear s c errs).nvm.cmacKey = s.nvm.cmacKey := by
  simp only [State.spargeClear, State.modChAcc_cmac, State.withTun_cmac]
  repeat' first | with_reducible rfl | simp only [State.binError_cmac] | split | refine (foldl_cmac _ (fun s x => ?_) _ _).trans ?_
@[simp] theorem State.spargeHist_cmac (s : State) (c : Nat) (errs : List (Nat × Bool)) : (State.spargeHist s c errs).1.nvm.cmacKey = s.nvm.cmacKey := by
  simp only [State.spargeHist, State.passHist_cmac, State.spargeClear_cmac, State.cmac_ite, ite_self, apply_ite Prod.fst]
@[simp] theorem State.snapArm_cmac (s : State) : (State.snapArm s).nvm.cmacKey = s.nvm.cmacKey := by
  simp only [State.snapArm, State.setB_cmac, State.withMash_cmac]
@[simp] theorem State.tunClear_cmac (s : State) : (State.tunClear s).nvm.cmacKey = s.nvm.cmacKey := by
  simp only [State.tunClear, State.setB_cmac, State.setF_cmac, State.withChans_cmac]
  repeat' first | with_reducible rfl | simp only [State.setCluster_cmac, State.setF_cmac, State.withHists_cmac, State.withMash_cmac, State.withTun_cmac] | split | refine (foldl_cmac _ (fun s x => ?_) _ _).trans ?_
@[simp] theorem State.mashInvalid_cmac (s : State) : (State.mashInvalid s).nvm.cmacKey = s.nvm.cmacKey := by
  simp only [State.mashInvalid, State.withClus_cmac]

/-! ## Lauter -/

@[simp] theorem State.modLau_cmac (s : State) (m : Nat) (g : LauCol → LauCol) : (State.modLau s m g).nvm.cmacKey = s.nvm.cmacKey := by
  simp only [State.modLau, State.withLau_cmac]
@[simp] theorem State.hzdAssert_cmac (s : State) : (State.hzdAssert s).nvm.cmacKey = s.nvm.cmacKey := by
  simp only [State.hzdAssert, State.raiseIf_cmac, State.setB_cmac]
@[simp] theorem State.lauOutcome_cmac (s : State) (m : Nat) (o : FieldOut) (eff : SMap Word) : (State.lauOutcome s m o eff).nvm.cmacKey = s.nvm.cmacKey := by
  simp only [State.lauOutcome, State.hzdAssert_cmac, State.modLau_cmac, State.withLau_cmac, State.cmac_ite, ite_self]
@[simp] theorem State.lauExtract_cmac (s : State) (c : Nat) : (State.lauExtract s c).1.nvm.cmacKey = s.nvm.cmacKey := by
  simp only [State.lauExtract, State.incSat_cmac, State.lauOutcome_cmac, State.raise_cmac, State.raiseIf_cmac, State.withHists_cmac, State.withLau_cmac, State.cmac_ite, ite_self]
@[simp] theorem State.lauLatch_cmac (s : State) (col : LauCol) (fue : List Nat) : (State.lauLatch s col fue).nvm.cmacKey = s.nvm.cmacKey := by
  simp only [State.lauLatch, State.withLau_cmac]
  repeat' first | with_reducible rfl | simp only [State.logEvent_cmac, State.raise_cmac] | split | refine (foldl_cmac _ (fun s x => ?_) _ _).trans ?_
@[simp] theorem State.lauSummary_cmac (s : State) (m : Nat) : (State.lauSummary s m).nvm.cmacKey = s.nvm.cmacKey := by
  simp only [State.lauSummary, State.modLau_cmac, State.setB_cmac, State.setF_cmac, State.withLau_cmac, State.cmac_ite, ite_self]

/-! ## Tin -/

@[simp] theorem State.setTin_cmac (s : State) (n : Nat) (x : TinSt) : (State.setTin s n x).nvm.cmacKey = s.nvm.cmacKey := by
  simp only [State.setTin, State.withTins_cmac]
@[simp] theorem State.tinPush_cmac (s : State) (n : Nat) (stream : Bool) (w0 w1 : Nat) : (State.tinPush s n stream w0 w1).nvm.cmacKey = s.nvm.cmacKey := by
  simp only [State.tinPush, State.incSat_cmac, State.raise_cmac, State.setTin_cmac, State.cmac_ite, ite_self]
@[simp] theorem State.tinStop_cmac (s : State) (n : Nat) (b : TinStamp) : (State.tinStop s n b).nvm.cmacKey = s.nvm.cmacKey := by
  simp only [State.tinStop]
  repeat' first | with_reducible rfl | simp only [State.raiseIf_cmac, State.setTin_cmac, State.tinPush_cmac, State.cmac_ite, ite_self] | split
theorem execTinEdge_cmac (m : Nat) (rising : Bool) (tap : Nat) (s : State) : Out.cmac s.nvm.cmacKey (execTinEdge m rising tap s) = s.nvm.cmacKey := by
  simp only [execTinEdge, State.incSat_cmac, State.raise_cmac, State.setTin_cmac, State.tinPush_cmac, ite_self, Out.cmac_next, Out.cmac_ite]
  repeat' first | with_reducible rfl | simp only [State.setTin_cmac, State.tinStop_cmac] | split | refine (foldl_cmac _ (fun s x => ?_) _ _).trans ?_
@[simp] theorem State.tinCal_cmac (s : State) (n : Nat) (h : List Nat) : (State.tinCal s n h).nvm.cmacKey = s.nvm.cmacKey := by
  simp only [State.tinCal, State.setF_cmac, State.setTin_cmac]
theorem execTinInterpCal_cmac (n : Nat) (h : List Nat) (s : State) : Out.cmac s.nvm.cmacKey (execTinInterpCal n h s) = s.nvm.cmacKey := by
  simp only [execTinInterpCal, State.tinCal_cmac, State.cmac_ite, ite_self, Out.cmac_next]
@[simp] theorem State.tinPop_cmac (s : State) (n : Nat) : (State.tinPop s n).nvm.cmacKey = s.nvm.cmacKey := by
  simp only [State.tinPop, State.setTin_cmac]
theorem execTinQhiRead_cmac (n : Nat) (s : State) : Out.cmac s.nvm.cmacKey (execTinQhiRead n s) = s.nvm.cmacKey := by
  simp only [execTinQhiRead, State.tinPop_cmac, State.cmac_ite, ite_self, Out.cmac_next]
@[simp] theorem State.tinCfgWrite_cmac (s : State) (n : Nat) (v : Word) : (State.tinCfgWrite s n v).nvm.cmacKey = s.nvm.cmacKey := by
  simp only [State.tinCfgWrite, State.rset_cmac]
@[simp] theorem State.tinTake_cmac (s : State) (n : Nat) : (State.tinTake s n).nvm.cmacKey = s.nvm.cmacKey := by
  simp only [State.tinTake, State.setTin_cmac, State.cmac_ite, ite_self]
@[simp] theorem State.tinFollow_cmac (s : State) : (State.tinFollow s).nvm.cmacKey = s.nvm.cmacKey := by
  simp only [State.tinFollow]
  repeat' first | with_reducible rfl | simp only [State.tinTake_cmac] | split | refine (foldl_cmac _ (fun s x => ?_) _ _).trans ?_
@[simp] theorem State.tinPhaseStep_cmac (s : State) : (State.tinPhaseStep s).nvm.cmacKey = s.nvm.cmacKey := by
  simp only [State.tinPhaseStep]
  repeat' first | with_reducible rfl | simp only [State.setTin_cmac, State.cmac_ite, ite_self] | split | refine (foldl_cmac _ (fun s x => ?_) _ _).trans ?_
@[simp] theorem State.tinPark_cmac (s : State) : (State.tinPark s).nvm.cmacKey = s.nvm.cmacKey := by
  simp only [State.tinPark]
  repeat' first | with_reducible rfl | simp only [State.setTin_cmac] | split | refine (foldl_cmac _ (fun s x => ?_) _ _).trans ?_

/-! ## Wort -/

@[simp] theorem State.modStream_cmac (s : State) (st : Nat) (g : StreamSt → StreamSt) : (State.modStream s st g).nvm.cmacKey = s.nvm.cmacKey := by
  simp only [State.modStream, State.withWort_cmac]
@[simp] theorem State.omitFrame_cmac (s : State) (st frame cause : Nat) : (State.omitFrame s st frame cause).nvm.cmacKey = s.nvm.cmacKey := by
  simp only [State.omitFrame, State.incSat_cmac, State.modStream_cmac, State.cmac_ite, ite_self]
@[simp] theorem State.setDgOpen_cmac (s : State) (k : Nat) (d : Option (List OutRec × Nat)) : (State.setDgOpen s k d).nvm.cmacKey = s.nvm.cmacKey := by
  simp only [State.setDgOpen, State.withWort_cmac]
@[simp] theorem State.closeDgram_cmac (s : State) (k : Nat) : (State.closeDgram s k).nvm.cmacKey = s.nvm.cmacKey := by
  simp only [State.closeDgram]
  repeat' first | with_reducible rfl | simp only [State.setDgOpen_cmac, State.withWort_cmac] | split
@[simp] theorem State.dgramAdd_cmac (s : State) (k : Nat) (r : OutRec) : (State.dgramAdd s k r).nvm.cmacKey = s.nvm.cmacKey := by
  simp only [State.dgramAdd, State.closeDgram_cmac, State.setDgOpen_cmac, State.cmac_ite, ite_self]
theorem execDatagramCloseTimeout_cmac (s : State) : Out.cmac s.nvm.cmacKey (execDatagramCloseTimeout s) = s.nvm.cmacKey := by
  simp only [execDatagramCloseTimeout, State.closeDgram_cmac, State.cmac_ite, ite_self, Out.cmac_next]
@[simp] theorem State.writeRec_cmac (s : State) (st : Nat) (r : OutRec) : (State.writeRec s st r).nvm.cmacKey = s.nvm.cmacKey := by
  simp only [State.writeRec, State.dgramAdd_cmac, State.modStream_cmac, State.raiseIf_cmac, State.cmac_ite, ite_self]
@[simp] theorem State.startHead_cmac (s : State) (st : Nat) : (State.startHead s st).nvm.cmacKey = s.nvm.cmacKey := by
  simp only [State.startHead]
  repeat' first | with_reducible rfl | simp only [State.modStream_cmac, State.raiseIf_cmac, State.writeRec_cmac, State.cmac_ite] | split | refine (foldl_cmac _ (fun s x => ?_) _ _).trans ?_
@[simp] theorem State.finishHead_cmac (s : State) (st : Nat) : (State.finishHead s st).nvm.cmacKey = s.nvm.cmacKey := by
  simp only [State.finishHead, State.closeDgram_cmac, State.modStream_cmac, State.startHead_cmac, State.cmac_ite, ite_self]
theorem State.settle_cmac (s : State) (st k : Nat) : (s.settle st k).nvm.cmacKey = s.nvm.cmacKey := by
  induction k generalizing s with
  | zero => rfl
  | succ k ih =>
    unfold State.settle
    split
    · rfl
    · dsimp only
      split
      · rw [ih, State.finishHead_cmac, State.modStream_cmac]
      · rw [State.modStream_cmac]
@[simp] theorem State.emitEcho_cmac (s : State) (st : Nat) : (State.emitEcho s st).nvm.cmacKey = s.nvm.cmacKey := by
  simp only [State.emitEcho]
  repeat' first | with_reducible rfl | simp only [State.modStream_cmac, State.writeRec_cmac, State.settle_cmac, State.cmac_ite, ite_self] | split
theorem execEchoRecordEmit_cmac (st : Nat) (s : State) : Out.cmac s.nvm.cmacKey (execEchoRecordEmit st s) = s.nvm.cmacKey := by
  simp only [execEchoRecordEmit, State.emitEcho_cmac, State.cmac_ite, ite_self, Out.cmac_next]
@[simp] theorem State.admitCol_cmac (s : State) (st : Nat) (c : ColInfo) : (State.admitCol s st c).nvm.cmacKey = s.nvm.cmacKey := by
  simp only [State.admitCol, State.modStream_cmac, State.omitFrame_cmac, State.raise_cmac, State.raiseIf_cmac, State.setF_cmac, State.startHead_cmac, State.settle_cmac, State.cmac_ite, ite_self]
@[simp] theorem State.wortSkip_cmac (s : State) : (State.wortSkip s).nvm.cmacKey = s.nvm.cmacKey := by
  simp only [State.wortSkip, State.omitFrame_cmac, State.withWort_cmac, State.cmac_ite, ite_self]
@[simp] theorem State.wortScan_cmac (s : State) : (State.wortScan s).nvm.cmacKey = s.nvm.cmacKey := by
  simp only [State.wortScan, State.withWort_cmac]
theorem State.emitAll_cmac (s : State) (st k : Nat) : (s.emitAll st k).nvm.cmacKey = s.nvm.cmacKey := by
  induction k generalizing s with
  | zero => rfl
  | succ k ih => rw [State.emitAll, ih, State.emitEcho_cmac]
@[simp] theorem State.wortDone_cmac (s : State) (m ch : Nat) (es : List Echo) : (State.wortDone s m ch es).nvm.cmacKey = s.nvm.cmacKey := by
  simp only [State.wortDone, State.withWort_cmac, State.settle_cmac]
@[simp] theorem State.forgetDone_cmac (s : State) (m : Nat) : (State.forgetDone s m).nvm.cmacKey = s.nvm.cmacKey := by
  simp only [State.forgetDone, State.withWort_cmac]
@[simp] theorem State.wortForget_cmac (s : State) (m : Nat) : (State.wortForget s m).nvm.cmacKey = s.nvm.cmacKey := by
  simp only [State.wortForget, State.forgetDone_cmac, State.emitAll_cmac]
@[simp] theorem State.cutStream_cmac (s : State) (st : Nat) (frames : List Nat) (x : Resumed) : (State.cutStream s st frames x).nvm.cmacKey = s.nvm.cmacKey := by
  simp only [State.cutStream, State.modStream_cmac, State.raiseIf_cmac]
@[simp] theorem State.cutDwl_cmac (s : State) (frames : List Nat) (lost : List GapRun) (cause : Nat) : (State.cutDwl s frames lost cause).nvm.cmacKey = s.nvm.cmacKey := by
  simp only [State.cutDwl, State.cutStream_cmac, State.incSat_cmac, State.modStream_cmac, State.startHead_cmac, State.cmac_ite, ite_self]
@[simp] theorem State.anchorCommit_cmac (s : State) : (State.anchorCommit s).nvm.cmacKey = s.nvm.cmacKey := by
  simp only [State.anchorCommit, State.withAnchor_cmac]
@[simp] theorem State.cutEth_cmac (s : State) (frames : List Nat) (lost : List GapRun) (cause : Nat) (pts : List Dgram) (op : Option (List OutRec × Nat)) : (State.cutEth s frames lost cause pts op).nvm.cmacKey = s.nvm.cmacKey := by
  simp only [State.cutEth, State.cutStream_cmac, State.startHead_cmac, State.withWort_cmac]

/-! ## Dwl -/

@[simp] theorem State.frameSent_cmac (s : State) (f : DwlFrame) : (State.frameSent s f).nvm.cmacKey = s.nvm.cmacKey := by
  simp only [State.frameSent, State.incMod_cmac, State.withWort_cmac, State.cmac_ite, ite_self]
@[simp] theorem State.dwlSettle_cmac (s : State) : (State.dwlSettle s).nvm.cmacKey = s.nvm.cmacKey := by
  simp only [State.dwlSettle]
  repeat' first | with_reducible rfl | simp only [State.frameSent_cmac, State.withDwl_cmac] | split | refine (foldl_cmac _ (fun s x => ?_) _ _).trans ?_
@[simp] theorem State.dwlStart_cmac (s : State) (lane chan : Nat) (hdr : Word) (pay : List Word) (recs : List OutRec) : (State.dwlStart s lane chan hdr pay recs).nvm.cmacKey = s.nvm.cmacKey := by
  simp only [State.dwlStart, State.withDwl_cmac]
@[simp] theorem State.wortUe_cmac (s : State) : (State.wortUe s).nvm.cmacKey = s.nvm.cmacKey := by
  simp only [State.wortUe, State.fresh_cmac, State.incSat_cmac, State.logEvent_cmac, State.raise_cmac]
@[simp] theorem State.wortCe_cmac (s : State) : (State.wortCe s).nvm.cmacKey = s.nvm.cmacKey := by
  simp only [State.wortCe, State.incSat_cmac, State.raise_cmac]
@[simp] theorem State.wortEcc_cmac (s : State) (err : Option (Nat × Bool)) : (State.wortEcc s err).nvm.cmacKey = s.nvm.cmacKey := by
  simp only [State.wortEcc]
  repeat' first | with_reducible rfl | simp only [State.cutDwl_cmac, State.modStream_cmac, State.wortCe_cmac, State.wortUe_cmac] | split
theorem execDwlPointFrame_cmac (err : Option (Nat × Bool)) (s : State) : Out.cmac s.nvm.cmacKey (execDwlPointFrame err s) = s.nvm.cmacKey := by
  simp only [execDwlPointFrame, State.dwlSettle_cmac, State.dwlStart_cmac, State.modStream_cmac, State.setF_cmac, State.withDwl_cmac, State.wortEcc_cmac, ite_self, Out.cmac_next, Out.cmac_ite]
theorem execDwlLrsFrame_cmac (s : State) : Out.cmac s.nvm.cmacKey (execDwlLrsFrame s) = s.nvm.cmacKey := by
  simp only [execDwlLrsFrame, State.dwlSettle_cmac, State.dwlStart_cmac, State.withDwl_cmac, ite_self, Out.cmac_next, Out.cmac_ite]
@[simp] theorem State.sidePush_cmac (s : State) (lane : Nat) (msg : List Word) : (State.sidePush s lane msg).nvm.cmacKey = s.nvm.cmacKey := by
  simp only [State.sidePush, State.withDwl_cmac, State.cmac_ite, ite_self]
@[simp] theorem State.sideSend_cmac (s : State) : (State.sideSend s).nvm.cmacKey = s.nvm.cmacKey := by
  simp only [State.sideSend]
  repeat' first | with_reducible rfl | simp only [State.dwlStart_cmac, State.withDwl_cmac, State.cmac_ite, ite_self] | split
@[simp] theorem State.dwlDown_cmac (s : State) : (State.dwlDown s).nvm.cmacKey = s.nvm.cmacKey := by
  simp only [State.dwlDown, State.cutDwl_cmac, State.dwlSettle_cmac, State.incSat_cmac, State.raise_cmac, State.setB_cmac, State.withDwl_cmac, State.cmac_ite, ite_self]
@[simp] theorem State.dwlFollow_cmac (s : State) : (State.dwlFollow s).nvm.cmacKey = s.nvm.cmacKey := by
  simp only [State.dwlFollow, State.dwlDown_cmac, State.withDwl_cmac, State.cmac_ite, ite_self]
@[simp] theorem State.dwlReset_cmac (s : State) : (State.dwlReset s).nvm.cmacKey = s.nvm.cmacKey := by
  simp only [State.dwlReset, State.cutDwl_cmac]
  repeat' first | with_reducible rfl | simp only [State.dwlSettle_cmac, State.raise_cmac, State.rset_cmac, State.setB_cmac, State.withDwl_cmac] | split | refine (foldl_cmac _ (fun s x => ?_) _ _).trans ?_
theorem execDwlCreditReceive_cmac (lane : Nat) (ccum : BitVec 16) (ok : Bool) (s : State) : Out.cmac s.nvm.cmacKey (execDwlCreditReceive lane ccum ok s) = s.nvm.cmacKey := by
  simp only [execDwlCreditReceive, State.dwlSettle_cmac, State.incSat_cmac, State.raise_cmac, State.setB_cmac, State.setF_cmac, State.withDwl_cmac, State.cmac_ite, ite_self, Out.cmac_next, Out.cmac_ite]
theorem execDwlCreditTimeout_cmac (old : Bool) (s : State) : Out.cmac s.nvm.cmacKey (execDwlCreditTimeout old s) = s.nvm.cmacKey := by
  simp only [execDwlCreditTimeout, State.raise_cmac, ite_self, Out.cmac_next, Out.cmac_ite]

/-! ## Time -/

@[simp] theorem State.ctrTo_cmac (s : State) (n : Int) : (State.ctrTo s n).nvm.cmacKey = s.nvm.cmacKey := by
  simp only [State.ctrTo, State.line_cmac, State.raise_cmac, State.setFs_cmac, State.withTime_cmac, State.cmac_ite, ite_self]
@[simp] theorem State.ppsCheck_cmac (s : State) : (State.ppsCheck s).nvm.cmacKey = s.nvm.cmacKey := by
  simp only [State.ppsCheck, State.setB_cmac, State.withPins_cmac, State.cmac_ite, ite_self]
@[simp] theorem State.tclkEdges_cmac (s : State) (k : Nat) : (State.tclkEdges s k).nvm.cmacKey = s.nvm.cmacKey := by
  simp only [State.tclkEdges, State.adcStamp_cmac, State.ctrTo_cmac, State.line_cmac, State.ppsCheck_cmac, State.raise_cmac, State.setB_cmac, State.tinFollow_cmac, State.tinPhaseStep_cmac, State.withNow_cmac, State.withTime_cmac, State.cmac_ite, ite_self]
@[simp] theorem State.tclkTick_cmac (s : State) : (State.tclkTick s).nvm.cmacKey = s.nvm.cmacKey := by
  simp only [State.tclkTick, State.dwlSettle_cmac, State.sideSend_cmac, State.tclkEdges_cmac]
theorem execTimeOffsetApply_cmac (s : State) : Out.cmac s.nvm.cmacKey (execTimeOffsetApply s) = s.nvm.cmacKey := by
  simp only [execTimeOffsetApply, State.tclkEdges_cmac, State.cmac_ite, ite_self, Out.cmac_next]
theorem execTimeCounterWrap_cmac (s : State) : Out.cmac s.nvm.cmacKey (execTimeCounterWrap s) = s.nvm.cmacKey := by
  simp only [execTimeCounterWrap, State.tclkEdges_cmac, Out.cmac_next]
theorem execPpsPulse_cmac (s : State) : Out.cmac s.nvm.cmacKey (execPpsPulse s) = s.nvm.cmacKey := by
  simp only [execPpsPulse, State.ppsCheck_cmac, Out.cmac_next]
theorem execPpsPulseEnd_cmac (s : State) : Out.cmac s.nvm.cmacKey (execPpsPulseEnd s) = s.nvm.cmacKey := by
  simp only [execPpsPulseEnd, State.withPins_cmac, State.cmac_ite, ite_self, Out.cmac_next]
theorem execTimeNsRead_cmac (s : State) : Out.cmac s.nvm.cmacKey (execTimeNsRead s) = s.nvm.cmacKey := by
  simp only [execTimeNsRead, State.setF_cmac, Out.cmac_next]
@[simp] theorem State.timeIncWrite_cmac (s : State) (v : Word) : (State.timeIncWrite s v).nvm.cmacKey = s.nvm.cmacKey := by
  simp only [State.timeIncWrite, State.raiseIf_cmac, State.rset_cmac]
theorem execTimeIncWrite_cmac (v : Word) (s : State) : Out.cmac s.nvm.cmacKey (execTimeIncWrite v s) = s.nvm.cmacKey := by
  simp only [execTimeIncWrite, State.timeIncWrite_cmac, Out.cmac_next]
@[simp] theorem State.timeOfsWrite_cmac (s : State) (v : Word) : (State.timeOfsWrite s v).nvm.cmacKey = s.nvm.cmacKey := by
  simp only [State.timeOfsWrite, State.setB_cmac, State.withTime_cmac]
theorem execTimeOfsWrite_cmac (v : Word) (s : State) : Out.cmac s.nvm.cmacKey (execTimeOfsWrite v s) = s.nvm.cmacKey := by
  simp only [execTimeOfsWrite, State.timeOfsWrite_cmac, Out.cmac_next]
@[simp] theorem State.timeInvalid_cmac (s : State) : (State.timeInvalid s).nvm.cmacKey = s.nvm.cmacKey := by
  simp only [State.timeInvalid, State.setB_cmac, State.withPins_cmac]
@[simp] theorem State.timeCtrlWrite_cmac (s : State) (m : Nat) (v : Word) : (State.timeCtrlWrite s m v).nvm.cmacKey = s.nvm.cmacKey := by
  simp only [State.timeCtrlWrite, State.rset_cmac, State.setB_cmac, State.timeInvalid_cmac, State.cmac_ite, ite_self]
theorem execTimeCtrlWrite_cmac (m : Nat) (v : Word) (s : State) : Out.cmac s.nvm.cmacKey (execTimeCtrlWrite m v s) = s.nvm.cmacKey := by
  simp only [execTimeCtrlWrite, State.timeCtrlWrite_cmac, Out.cmac_next]
@[simp] theorem State.timePpsWrite_cmac (s : State) (v : Word) : (State.timePpsWrite s v).nvm.cmacKey = s.nvm.cmacKey := by
  simp only [State.timePpsWrite, State.raise_cmac, State.rset_cmac, State.setB_cmac, State.cmac_ite, ite_self]
theorem execTimePpsWrite_cmac (v : Word) (s : State) : Out.cmac s.nvm.cmacKey (execTimePpsWrite v s) = s.nvm.cmacKey := by
  simp only [execTimePpsWrite, State.timePpsWrite_cmac, Out.cmac_next]

/-! ## Lane -/

@[simp] theorem State.setLane_cmac (s : State) (n : Nat) (x : LaneSt) : (State.setLane s n x).nvm.cmacKey = s.nvm.cmacKey := by
  simp only [State.setLane, State.withLanes_cmac]
@[simp] theorem State.setEth_cmac (s : State) (p : Nat) (x : EthSt) : (State.setEth s p x).nvm.cmacKey = s.nvm.cmacKey := by
  simp only [State.setEth, State.withEths_cmac]
@[simp] theorem State.laneRates_cmac (s : State) : (State.laneRates s).nvm.cmacKey = s.nvm.cmacKey := by
  simp only [State.laneRates]
  repeat' first | with_reducible rfl | simp only [State.setF_cmac] | split | refine (foldl_cmac _ (fun s x => ?_) _ _).trans ?_
@[simp] theorem State.dgRelease_cmac (s : State) (k q : Nat) : (State.dgRelease s k q).nvm.cmacKey = s.nvm.cmacKey := by
  simp only [State.dgRelease, State.cmac_ite]
  repeat' first | with_reducible rfl | simp only [State.withWort_cmac, State.cmac_ite, ite_self] | split
@[simp] theorem State.dgRecall_cmac (s : State) (p : Nat) : (State.dgRecall s p).nvm.cmacKey = s.nvm.cmacKey := by
  simp only [State.dgRecall]
  repeat' first | with_reducible rfl | simp only [State.dgRelease_cmac, State.setEth_cmac] | split | refine (foldl_cmac _ (fun s x => ?_) _ _).trans ?_
@[simp] theorem State.ethDown_cmac (s : State) (p : Nat) : (State.ethDown s p).nvm.cmacKey = s.nvm.cmacKey := by
  simp only [State.ethDown, State.dgRecall_cmac, State.incMod_cmac, State.raise_cmac, State.setB_cmac, State.cmac_ite, ite_self]
@[simp] theorem State.laneLost_cmac (s : State) (n : Nat) : (State.laneLost s n).nvm.cmacKey = s.nvm.cmacKey := by
  simp only [State.laneLost, State.cmac_ite]
  repeat' first | with_reducible rfl | simp only [State.dwlFollow_cmac, State.ethDown_cmac, State.raise_cmac, State.setB_cmac, State.setF_cmac, State.setLane_cmac] | split
theorem execLaneAlignAcquired_cmac (n : Nat) (s : State) : Out.cmac s.nvm.cmacKey (execLaneAlignAcquired n s) = s.nvm.cmacKey := by
  simp only [execLaneAlignAcquired, State.setB_cmac, State.setLane_cmac, State.cmac_ite, ite_self, Out.cmac_next, Out.cmac_ite]
theorem execLaneCodeError_cmac (n good kind : Nat) (s : State) (lost : Bool) : Out.cmac s.nvm.cmacKey (execLaneCodeError n good kind s lost) = s.nvm.cmacKey := by
  simp only [execLaneCodeError, State.incSat_cmac, State.laneLost_cmac, State.setLane_cmac, State.cmac_ite, ite_self, Out.cmac_next, Out.cmac_ite]
@[simp] theorem State.setDfe_cmac (s : State) (n : Nat) (d1 d2 d3 : BitVec 6) : (State.setDfe s n d1 d2 d3).nvm.cmacKey = s.nvm.cmacKey := by
  simp only [State.setDfe, State.setF_cmac]
theorem execLaneAdaptDone_cmac (n : Nat) (eyes : List (Nat × Nat)) (d1 d2 d3 : BitVec 6) (s : State) : Out.cmac s.nvm.cmacKey (execLaneAdaptDone n eyes d1 d2 d3 s) = s.nvm.cmacKey := by
  simp only [execLaneAdaptDone, State.raiseIf_cmac, State.setB_cmac, State.setDfe_cmac, State.setF_cmac, State.setLane_cmac, ite_self, Out.cmac_next, Out.cmac_ite]
theorem execEyeMeasure_cmac (n h v : Nat) (d1 d2 d3 : BitVec 6) (s : State) : Out.cmac s.nvm.cmacKey (execEyeMeasure n h v d1 d2 d3 s) = s.nvm.cmacKey := by
  simp only [execEyeMeasure, State.raiseIf_cmac, State.setDfe_cmac, State.setF_cmac, State.cmac_ite, ite_self, Out.cmac_next, Out.cmac_ite]
theorem execLanePllLock_cmac (s : State) : Out.cmac s.nvm.cmacKey (execLanePllLock s) = s.nvm.cmacKey := by
  simp only [execLanePllLock, State.setB_cmac, State.cmac_ite, ite_self, Out.cmac_next]
theorem execLanePllLoss_cmac (s : State) : Out.cmac s.nvm.cmacKey (execLanePllLoss s) = s.nvm.cmacKey := by
  simp only [execLanePllLoss, Out.cmac_next]
  repeat' first | with_reducible rfl | simp only [State.laneLost_cmac, State.setB_cmac] | split | refine (foldl_cmac _ (fun s x => ?_) _ _).trans ?_

/-! ## Eth -/

@[simp] theorem State.prpCommit_cmac (s : State) : (State.prpCommit s).nvm.cmacKey = s.nvm.cmacKey := by
  simp only [State.prpCommit, State.raiseIf_cmac, State.setB_cmac]
@[simp] theorem State.ethCfgWrite_cmac (s : State) (p : Nat) (v : Word) : (State.ethCfgWrite s p v).nvm.cmacKey = s.nvm.cmacKey := by
  simp only [State.ethCfgWrite, State.ethDown_cmac, State.laneRates_cmac]
  repeat' first | with_reducible rfl | simp only [State.rset_cmac, State.setF_cmac] | split
theorem execEthModeWrite_cmac (p : Nat) (v : Word) (s : State) : Out.cmac s.nvm.cmacKey (execEthModeWrite p v s) = s.nvm.cmacKey := by
  simp only [execEthModeWrite, State.ethCfgWrite_cmac, State.cmac_ite, ite_self, Out.cmac_next]
@[simp] theorem State.ethKick_cmac (s : State) (p : Nat) : (State.ethKick s p).nvm.cmacKey = s.nvm.cmacKey := by
  simp only [State.ethKick, State.cmac_ite]
  repeat' first | with_reducible rfl | simp only [State.setEth_cmac] | split
@[simp] theorem State.ethPush_cmac (s : State) (p : Nat) (f : TxFr) : (State.ethPush s p f).nvm.cmacKey = s.nvm.cmacKey := by
  simp only [State.ethPush, State.ethKick_cmac, State.setEth_cmac]
@[simp] theorem State.ipOpen_cmac (s : State) (f : TxFr) : (State.ipOpen s f).1.nvm.cmacKey = s.nvm.cmacKey := by
  simp only [State.ipOpen]
  repeat' first | with_reducible rfl | simp only [State.fresh_cmac] | split
@[simp] theorem State.ethSend_cmac (s : State) (p : Nat) (f : TxFr) : (State.ethSend s p f).nvm.cmacKey = s.nvm.cmacKey := by
  simp only [State.ethSend, State.ethPush_cmac, State.incMod_cmac, State.ipOpen_cmac, State.setB_cmac, State.cmac_ite, ite_self]
@[simp] theorem State.txcmdWrite_cmac (s : State) (p : Nat) (v : Word) : (State.txcmdWrite s p v).nvm.cmacKey = s.nvm.cmacKey := by
  simp only [State.txcmdWrite, State.ethSend_cmac, State.incSat_cmac, State.rset_cmac, State.setB_cmac, State.cmac_ite, ite_self]
theorem execEthTxcmdGo_cmac (p : Nat) (v : Word) (s : State) : Out.cmac s.nvm.cmacKey (execEthTxcmdGo p v s) = s.nvm.cmacKey := by
  simp only [execEthTxcmdGo, State.txcmdWrite_cmac, State.cmac_ite, ite_self, Out.cmac_next]
@[simp] theorem State.dgSent_cmac (s : State) (k q : Nat) : (State.dgSent s k q).nvm.cmacKey = s.nvm.cmacKey := by
  simp only [State.dgSent, State.withWort_cmac]
theorem execEthFrameTransmitDone_cmac (p d : Nat) (s : State) (par : Bool) : Out.cmac s.nvm.cmacKey (execEthFrameTransmitDone p d s par) = s.nvm.cmacKey := by
  simp only [execEthFrameTransmitDone, Out.cmac_next, Out.cmac_ite]
  repeat' first | with_reducible rfl | simp only [State.dgRelease_cmac, State.dgSent_cmac, State.ethKick_cmac, State.incMod_cmac, State.incSat_cmac, State.raise_cmac, State.setB_cmac, State.setEth_cmac, State.cmac_ite, ite_self, Out.cmac_next] | split
theorem execEthTxts2Read_cmac (p : Nat) (s : State) : Out.cmac s.nvm.cmacKey (execEthTxts2Read p s) = s.nvm.cmacKey := by
  simp only [execEthTxts2Read, State.setEth_cmac, State.cmac_ite, ite_self, Out.cmac_next]
theorem execEthLinkChange_cmac (p : Nat) (up refused : Bool) (s : State) : Out.cmac s.nvm.cmacKey (execEthLinkChange p up refused s) = s.nvm.cmacKey := by
  simp only [execEthLinkChange, State.ethDown_cmac, State.ethKick_cmac, State.raiseIf_cmac, State.setB_cmac, ite_self, Out.cmac_next, Out.cmac_ite]
@[simp] theorem State.ethReset_cmac (s : State) (p : Nat) : (State.ethReset s p).nvm.cmacKey = s.nvm.cmacKey := by
  simp only [State.ethReset]
  repeat' first | with_reducible rfl | simp only [State.dgRecall_cmac, State.ethDown_cmac, State.rset_cmac, State.setEth_cmac] | split | refine (foldl_cmac _ (fun s x => ?_) _ _).trans ?_
@[simp] theorem State.dropHop_cmac (s : State) (q ip : Nat) : (State.dropHop s q ip).nvm.cmacKey = s.nvm.cmacKey := by
  simp only [State.dropHop]
  repeat' first | with_reducible rfl | simp only [State.dgRelease_cmac, State.setEth_cmac] | split | refine (foldl_cmac _ (fun s x => ?_) _ _).trans ?_
@[simp] theorem State.arpAsk_cmac (s : State) (p : Nat) (ip : Nat) : (State.arpAsk s p ip).nvm.cmacKey = s.nvm.cmacKey := by
  simp only [State.arpAsk, State.ethSend_cmac, State.setEth_cmac, State.cmac_ite, ite_self]
theorem execArpRefresh_cmac (p : Nat) (ip : Word) (s : State) : Out.cmac s.nvm.cmacKey (execArpRefresh p ip s) = s.nvm.cmacKey := by
  simp only [execArpRefresh, Out.cmac_next, Out.cmac_ite]
  repeat' first | with_reducible rfl | simp only [State.dropHop_cmac, State.ethSend_cmac, State.setEth_cmac, ite_self, Out.cmac_next, Out.cmac_ite] | split
@[simp] theorem State.hwReply_cmac (s : State) (p : Nat) (body : TxBody) : (State.hwReply s p body).nvm.cmacKey = s.nvm.cmacKey := by
  simp only [State.hwReply, State.ethSend_cmac, State.incSat_cmac, State.setEth_cmac, State.cmac_ite, ite_self]
@[simp] theorem State.ethFilt_cmac (s : State) (p : Nat) : (State.ethFilt s p).nvm.cmacKey = s.nvm.cmacKey := by
  simp only [State.ethFilt, State.incSat_cmac]
@[simp] theorem State.qstat_cmac (s : State) (p : Nat) : (State.qstat s p).nvm.cmacKey = s.nvm.cmacKey := by
  simp only [State.qstat, State.setF_cmac]
@[simp] theorem State.ethQueue_cmac (s : State) (p cls d : Nat) (fr : List Byte) : (State.ethQueue s p cls d fr).nvm.cmacKey = s.nvm.cmacKey := by
  simp only [State.ethQueue]
  repeat' first | with_reducible rfl | simp only [State.incSat_cmac, State.qstat_cmac, State.raise_cmac, State.setEth_cmac, State.cmac_ite, ite_self] | split
@[simp] theorem State.prpCheck_cmac (s : State) (mac q : Nat) : (State.prpCheck s mac q).2.nvm.cmacKey = s.nvm.cmacKey := by
  simp only [State.prpCheck]
  repeat' first | with_reducible rfl | simp only [State.withPrp_cmac, State.cmac_ite, ite_self, apply_ite Prod.snd] | split
theorem execPrpEntryForget_cmac (mac : BitVec 48) (s : State) : Out.cmac s.nvm.cmacKey (execPrpEntryForget mac s) = s.nvm.cmacKey := by
  simp only [execPrpEntryForget, State.withPrp_cmac, Out.cmac_next]
theorem execPrpSupervisionSend_cmac (s : State) : Out.cmac s.nvm.cmacKey (execPrpSupervisionSend s) = s.nvm.cmacKey := by
  simp only [execPrpSupervisionSend, State.ethSend_cmac, State.setEth_cmac, State.cmac_ite, ite_self, Out.cmac_next]
@[simp] theorem State.arpRx_cmac (s : State) (p : Nat) (fr : List Byte) (o : Nat) : (State.arpRx s p fr o).nvm.cmacKey = s.nvm.cmacKey := by
  simp only [State.arpRx, State.ethKick_cmac, State.hwReply_cmac, State.setEth_cmac, State.cmac_ite, ite_self]
@[simp] theorem State.classify_cmac (s : State) (p : Nat) (fr : List Byte) (d : Nat) : (State.classify s p fr d).nvm.cmacKey = s.nvm.cmacKey := by
  simp only [State.classify, State.arpRx_cmac, State.ethFilt_cmac, State.ethQueue_cmac, State.hwReply_cmac, State.incSat_cmac, State.withParkWake_cmac, State.cmac_ite, ite_self]
theorem execEthFrameReceive_cmac (p : Nat) (fr : List Byte) (fcs : Bool) (d : Nat) (s : State) : Out.cmac s.nvm.cmacKey (execEthFrameReceive p fr fcs d s) = s.nvm.cmacKey := by
  unfold execEthFrameReceive
  repeat' first | with_reducible rfl | split | simp only [State.classify_cmac, State.ethFilt_cmac, State.incMod_cmac, State.incSat_cmac, State.prpCheck_cmac, State.raise_cmac, ite_self, Out.cmac_next, Out.cmac_ite]
@[simp] theorem State.qpop_cmac (s : State) (p : Nat) : (State.qpop s p).nvm.cmacKey = s.nvm.cmacKey := by
  simp only [State.qpop, State.qstat_cmac, State.setEth_cmac]
theorem execEthQpop_cmac (p : Nat) (s : State) : Out.cmac s.nvm.cmacKey (execEthQpop p s) = s.nvm.cmacKey := by
  simp only [execEthQpop, State.qpop_cmac, State.cmac_ite, ite_self, Out.cmac_next]
@[simp] theorem State.ethEcc_cmac (s : State) (d : Dgram) (err : Option (Nat × Bool)) : (State.ethEcc s d err).1.nvm.cmacKey = s.nvm.cmacKey := by
  simp only [State.ethEcc]
  repeat' first | with_reducible rfl | simp only [State.cutEth_cmac, State.withWort_cmac, State.wortCe_cmac, State.wortUe_cmac, State.cmac_ite, ite_self, apply_ite Prod.fst] | split
@[simp] theorem State.dgSend_cmac (s : State) (p k dst : Nat) (d : Dgram) : (State.dgSend s p k dst d).nvm.cmacKey = s.nvm.cmacKey := by
  simp only [State.dgSend, State.ethSend_cmac, State.withWort_cmac]
theorem execDatagramSend_cmac (stream : Nat) (s : State) (err : Option (Nat × Bool)) : Out.cmac s.nvm.cmacKey (execDatagramSend stream s err) = s.nvm.cmacKey := by
  simp only [execDatagramSend, Out.cmac_next, Out.cmac_ite]
  repeat' first | with_reducible rfl | simp only [State.arpAsk_cmac, State.dgSend_cmac, State.ethEcc_cmac, Out.cmac_next, Out.cmac_ite] | split
theorem execDatagramDiscard_cmac (s : State) : Out.cmac s.nvm.cmacKey (execDatagramDiscard s) = s.nvm.cmacKey := by
  simp only [execDatagramDiscard]
  repeat' first | with_reducible rfl | simp only [State.cutEth_cmac, State.setEth_cmac, State.withWort_cmac, Out.cmac_next, Out.cmac_ite] | split | refine (foldl_cmac _ (fun s x => ?_) _ _).trans ?_

/-! ## Cask -/

@[simp] theorem State.caskRefuse_cmac (s : State) : (State.caskRefuse s).nvm.cmacKey = s.nvm.cmacKey := by
  simp only [State.caskRefuse, State.incSat_cmac, State.logEvent_cmac, State.raise_cmac, State.withCask_cmac, State.cmac_ite, ite_self]
@[simp] theorem State.caskActivate_cmac (s : State) : (State.caskActivate s).nvm.cmacKey = s.nvm.cmacKey := by
  simp only [State.caskActivate, State.setB_cmac, State.withCal_cmac]
@[simp] theorem State.caskApply_cmac (s : State) : (State.caskApply s).nvm.cmacKey = s.nvm.cmacKey := by
  simp only [State.caskApply, State.caskRefuse_cmac, State.nvmPush_cmac, State.cmac_ite, ite_self]
theorem execCaskApply_cmac (s : State) : Out.cmac s.nvm.cmacKey (execCaskApply s) = s.nvm.cmacKey := by
  simp only [execCaskApply, State.caskApply_cmac, Out.cmac_next]
@[simp] theorem State.calcfgWrite_cmac (s : State) (v : Word) : (State.calcfgWrite s v).nvm.cmacKey = s.nvm.cmacKey := by
  simp only [State.calcfgWrite, State.caskApply_cmac, State.caskRefuse_cmac, State.setF_cmac, State.cmac_ite, ite_self]
theorem execCaskCopyBackDone_cmac (s : State) : Out.cmac s.nvm.cmacKey (execCaskCopyBackDone s) = s.nvm.cmacKey := by
  simp only [execCaskCopyBackDone, State.setB_cmac, Out.cmac_next]
@[simp] theorem State.lrsGo_cmac (s : State) : (State.lrsGo s).nvm.cmacKey = s.nvm.cmacKey := by
  simp only [State.lrsGo, State.setB_cmac, State.withCask_cmac, State.cmac_ite, ite_self]
theorem execCaskLrsgo_cmac (s : State) : Out.cmac s.nvm.cmacKey (execCaskLrsgo s) = s.nvm.cmacKey := by
  simp only [execCaskLrsgo, State.lrsGo_cmac, Out.cmac_next]
@[simp] theorem State.lrsOwn_cmac (s : State) (first : Bool) (kind : Nat) (data : List Word) : (State.lrsOwn s first kind data).nvm.cmacKey = s.nvm.cmacKey := by
  simp only [State.lrsOwn, State.withCask_cmac, State.cmac_ite, ite_self]
@[simp] theorem State.seqNext_cmac (s : State) : (State.seqNext s).nvm.cmacKey = s.nvm.cmacKey := by
  simp only [State.seqNext, State.nvmPush_cmac, State.setB_cmac, State.withCask_cmac, State.cmac_ite, ite_self]
theorem execLrsRecordIssue_cmac (s : State) : Out.cmac s.nvm.cmacKey (execLrsRecordIssue s) = s.nvm.cmacKey := by
  simp only [execLrsRecordIssue]
  repeat' first | with_reducible rfl | simp only [State.dgramAdd_cmac, State.line_cmac, State.seqNext_cmac, State.withCask_cmac, State.withWort_cmac, State.cmac_ite, ite_self, Out.cmac_next, Out.cmac_ite] | split
@[simp] theorem State.applyDone_cmac (s : State) : (State.applyDone s).nvm.cmacKey = s.nvm.cmacKey := by
  simp only [State.applyDone, State.caskActivate_cmac, State.logEvent_cmac, State.lrsOwn_cmac, State.setB_cmac, State.withNvm_cmac, State.cmac_ite, ite_self]
@[simp] theorem State.caskBoundary_cmac (s : State) : (State.caskBoundary s).nvm.cmacKey = s.nvm.cmacKey := by
  simp only [State.caskBoundary, State.lrsOwn_cmac, State.raise_cmac, State.setB_cmac, State.cmac_ite, ite_self]
@[simp] theorem State.serviceEnter_cmac (s : State) : (State.serviceEnter s).nvm.cmacKey = s.nvm.cmacKey := by
  simp only [State.serviceEnter, State.withCask_cmac]
@[simp] theorem State.serviceLeave_cmac (s : State) : (State.serviceLeave s).nvm.cmacKey = s.nvm.cmacKey := by
  simp only [State.serviceLeave, State.lrsOwn_cmac, State.cmac_ite, ite_self]
  repeat' first | with_reducible rfl | simp only [State.caskRefuse_cmac, State.withNvm_cmac] | split | refine (foldl_cmac _ (fun s x => ?_) _ _).trans ?_
@[simp] theorem State.caskCommit_cmac (s : State) : (State.caskCommit s).nvm.cmacKey = s.nvm.cmacKey := by
  simp only [State.caskCommit, State.caskActivate_cmac, State.lrsOwn_cmac, State.nvmPush_cmac, State.setB_cmac, State.withCask_cmac, State.cmac_ite, ite_self]

/-! ## Dsp -/

@[simp] theorem State.setCore_cmac (s : State) (c : Nat) (x : CoreSt) : (State.setCore s c x).nvm.cmacKey = s.nvm.cmacKey := by
  simp only [State.setCore, State.withCores_cmac]
@[simp] theorem State.modCore_cmac (s : State) (c : Nat) (g : CoreSt → CoreSt) : (State.modCore s c g).nvm.cmacKey = s.nvm.cmacKey := by
  simp only [State.modCore, State.setCore_cmac]
@[simp] theorem State.coreCycles_cmac (s : State) (c n5 : Nat) : (State.coreCycles s c n5).nvm.cmacKey = s.nvm.cmacKey := by
  simp only [State.coreCycles, State.line_cmac, State.setCore_cmac, State.cmac_ite, ite_self]
@[simp] theorem State.coreTick_cmac (s : State) : (State.coreTick s).nvm.cmacKey = s.nvm.cmacKey := by
  simp only [State.coreTick, State.coreCycles_cmac]
theorem execTimerCompareMatch_cmac (c : Nat) (s : State) : Out.cmac s.nvm.cmacKey (execTimerCompareMatch c s) = s.nvm.cmacKey := by
  simp only [execTimerCompareMatch, State.coreCycles_cmac, State.cmac_ite, ite_self, Out.cmac_next]
@[simp] theorem State.wdtReload_cmac (s : State) (c : Nat) : (State.wdtReload s c).nvm.cmacKey = s.nvm.cmacKey := by
  simp only [State.wdtReload, State.setF_cmac]
@[simp] theorem State.wdtExpire_cmac (s : State) (c : Nat) : (State.wdtExpire s c).nvm.cmacKey = s.nvm.cmacKey := by
  simp only [State.wdtExpire, State.raiseReset_cmac, State.wdtReload_cmac]
@[simp] theorem State.wdtTick_cmac (s : State) (c : Nat) : (State.wdtTick s c).nvm.cmacKey = s.nvm.cmacKey := by
  simp only [State.wdtTick, State.setF_cmac, State.wdtExpire_cmac, State.cmac_ite, ite_self]
@[simp] theorem State.wdtKick_cmac (s : State) (c : Nat) (v : Word) : (State.wdtKick s c v).nvm.cmacKey = s.nvm.cmacKey := by
  simp only [State.wdtKick, State.wdtExpire_cmac, State.wdtReload_cmac, State.cmac_ite, ite_self]
theorem execWdtkick_cmac (c : Nat) (v : Word) (s : State) : Out.cmac s.nvm.cmacKey (execWdtkick c v s) = s.nvm.cmacKey := by
  simp only [execWdtkick, State.wdtKick_cmac, State.cmac_ite, ite_self, Out.cmac_next]
@[simp] theorem State.coreStart_cmac (s : State) (c cause : Nat) : (State.coreStart s c cause).nvm.cmacKey = s.nvm.cmacKey := by
  simp only [State.coreStart, State.setCore_cmac, State.setF_cmac, State.wdtReload_cmac, State.withLines_cmac, State.cmac_ite, ite_self]
theorem execDspCoreStart_cmac (c cause : Nat) (s : State) : Out.cmac s.nvm.cmacKey (execDspCoreStart c cause s) = s.nvm.cmacKey := by
  simp only [execDspCoreStart, State.coreStart_cmac, State.cmac_ite, ite_self, Out.cmac_next]
@[simp] theorem State.clearData_cmac (s : State) (c : Nat) : (State.clearData s c).nvm.cmacKey = s.nvm.cmacKey := by
  simp only [State.clearData]
@[simp] theorem State.dspReset_cmac (s : State) (c : Nat) : (State.dspReset s c).nvm.cmacKey = s.nvm.cmacKey := by
  simp only [State.dspReset]
  repeat' first | with_reducible rfl | simp only [State.clearData_cmac, State.rset_cmac, State.setCore_cmac, State.withLines_cmac] | split | refine (foldl_cmac _ (fun s x => ?_) _ _).trans ?_
@[simp] theorem State.corePark_cmac (s : State) (c : Nat) : (State.corePark s c).nvm.cmacKey = s.nvm.cmacKey := by
  simp only [State.corePark, State.modCore_cmac, State.cmac_ite, ite_self]
@[simp] theorem State.mbox7_cmac (s : State) (c : Nat) (v : Word) : (State.mbox7 s c v).nvm.cmacKey = s.nvm.cmacKey := by
  simp only [State.mbox7, State.line_cmac, State.rset_cmac]
theorem execMbox7Write_cmac (c : Nat) (v : Word) (s : State) : Out.cmac s.nvm.cmacKey (execMbox7Write c v s) = s.nvm.cmacKey := by
  simp only [execMbox7Write, State.mbox7_cmac, State.cmac_ite, ite_self, Out.cmac_next]
@[simp] theorem State.dspCe_cmac (s : State) (c a : Nat) : (State.dspCe s c a).nvm.cmacKey = s.nvm.cmacKey := by
  simp only [State.dspCe, State.incSat_cmac, State.raise_cmac, State.setF_cmac]
@[simp] theorem State.dspUe_cmac (s : State) (c a : Nat) : (State.dspUe s c a).nvm.cmacKey = s.nvm.cmacKey := by
  simp only [State.dspUe, State.incSat_cmac, State.logEvent_cmac, State.raise_cmac, State.setF_cmac]
@[simp] theorem State.tapReserve_cmac (s : State) (c : Nat) (i : ColInfo) : (State.tapReserve s c i).nvm.cmacKey = s.nvm.cmacKey := by
  simp only [State.tapReserve, State.fresh_cmac, State.incSat_cmac, State.line_cmac, State.modCore_cmac, State.raise_cmac, State.cmac_ite, ite_self]
@[simp] theorem State.tapWord_cmac (s : State) (c : Nat) (w : Word) : (State.tapWord s c w).nvm.cmacKey = s.nvm.cmacKey := by
  simp only [State.tapWord, State.msetW_cmac, State.setF_cmac]
@[simp] theorem State.tapWrite_cmac (s : State) (c : Nat) : (State.tapWrite s c).nvm.cmacKey = s.nvm.cmacKey := by
  simp only [State.tapWrite]
  repeat' first | with_reducible rfl | simp only [State.line_cmac, State.modCore_cmac, State.tapWord_cmac] | split | refine (foldl_cmac _ (fun s x => ?_) _ _).trans ?_
theorem execTapColumnDone_cmac (c : Nat) (s : State) : Out.cmac s.nvm.cmacKey (execTapColumnDone c s) = s.nvm.cmacKey := by
  simp only [execTapColumnDone, Out.cmac_next]
  repeat' first | with_reducible rfl | simp only [State.tapWrite_cmac, State.cmac_ite, ite_self] | split
@[simp] theorem State.tapFlush_cmac (s : State) (m : Nat) : (State.tapFlush s m).nvm.cmacKey = s.nvm.cmacKey := by
  simp only [State.tapFlush]
  repeat' first | with_reducible rfl | simp only [State.tapWrite_cmac, State.cmac_ite, ite_self] | split | refine (foldl_cmac _ (fun s x => ?_) _ _).trans ?_
@[simp] theorem State.dmaGo_cmac (s : State) (n : Nat) : (State.dmaGo s n).nvm.cmacKey = s.nvm.cmacKey := by
  simp only [State.dmaGo, State.setB_cmac, State.withDma_cmac, State.cmac_ite, ite_self]
theorem execDmaGo_cmac (n : Nat) (s : State) : Out.cmac s.nvm.cmacKey (execDmaGo n s) = s.nvm.cmacKey := by
  simp only [execDmaGo, State.dmaGo_cmac, State.cmac_ite, ite_self, Out.cmac_next]
@[simp] theorem State.dmaReset_cmac (s : State) (n : Nat) : (State.dmaReset s n).nvm.cmacKey = s.nvm.cmacKey := by
  simp only [State.dmaReset, State.setF_cmac, State.withDma_cmac]

/-! ## Guard -/

@[simp] theorem State.rebuildBearing_cmac (s : State) : (State.rebuildBearing s).nvm.cmacKey = s.nvm.cmacKey := by
  simp only [State.rebuildBearing, State.withGuard_cmac]
@[simp] theorem State.guardColumn_cmac (s : State) (m az n : Nat) (inh : Bool) : (State.guardColumn s m az n inh).nvm.cmacKey = s.nvm.cmacKey := by
  simp only [State.guardColumn, State.raiseIf_cmac, State.setB_cmac, State.withGuard_cmac, State.cmac_ite, ite_self]
@[simp] theorem State.guardTrigger_cmac (s : State) (az : Nat) : (State.guardTrigger s az).nvm.cmacKey = s.nvm.cmacKey := by
  simp only [State.guardTrigger, State.intrude_cmac, State.cmac_ite, ite_self]
@[simp] theorem State.guardOutcome_cmac (s : State) (m : Nat) (field prot unev warn : Bool) (shots : Nat) : (State.guardOutcome s m field prot unev warn shots).nvm.cmacKey = s.nvm.cmacKey := by
  simp only [State.guardOutcome]
  repeat' first | with_reducible rfl | simp only [State.intrude_cmac, State.withGuard_cmac, State.cmac_ite, ite_self] | split
@[simp] theorem State.guardColDone_cmac (s : State) (m : Nat) : (State.guardColDone s m).nvm.cmacKey = s.nvm.cmacKey := by
  simp only [State.guardColDone]
  repeat' first | with_reducible rfl | simp only [State.setGsweep_cmac, State.withGuard_cmac] | split
@[simp] theorem State.guardSweepEnd_cmac (s : State) (n : Nat) (whole : Bool) : (State.guardSweepEnd s n whole).nvm.cmacKey = s.nvm.cmacKey := by
  simp only [State.guardSweepEnd, State.incSat_cmac, State.setB_cmac, State.setF_cmac, State.withGuard_cmac, State.cmac_ite, ite_self]
@[simp] theorem State.guardSweepBegin_cmac (s : State) : (State.guardSweepBegin s).nvm.cmacKey = s.nvm.cmacKey := by
  simp only [State.guardSweepBegin, State.setGsweep_cmac, State.cmac_ite, ite_self]
@[simp] theorem State.guardScanEntry_cmac (s : State) : (State.guardScanEntry s).nvm.cmacKey = s.nvm.cmacKey := by
  simp only [State.guardScanEntry, State.guardInhibit_cmac, State.setB_cmac, State.setF_cmac, State.withGuard_cmac, State.cmac_ite, ite_self]
theorem execEnEdge_cmac (ch : Nat) (level : Bool) (s : State) : Out.cmac s.nvm.cmacKey (execEnEdge ch level s) = s.nvm.cmacKey := by
  simp only [execEnEdge, State.guardFollow_cmac, State.withGuard_cmac, Out.cmac_next]
@[simp] theorem State.discLatch_cmac (s : State) : (State.discLatch s).nvm.cmacKey = s.nvm.cmacKey := by
  simp only [State.discLatch, State.guardFollow_cmac, State.incSat_cmac, State.logEvent_cmac, State.raise_cmac, State.setB_cmac, State.withGuard_cmac]
@[simp] theorem State.discTick_cmac (s : State) : (State.discTick s).nvm.cmacKey = s.nvm.cmacKey := by
  simp only [State.discTick, State.setB_cmac, State.cmac_ite, ite_self]
  repeat' first | with_reducible rfl | simp only [State.discLatch_cmac, State.withGuard_cmac, State.cmac_ite, ite_self] | split
@[simp] theorem State.restartTick_cmac (s : State) : (State.restartTick s).nvm.cmacKey = s.nvm.cmacKey := by
  simp only [State.restartTick, State.setB_cmac, State.withGuard_cmac, State.cmac_ite, ite_self]
theorem execGuardOutputsOn_cmac (s : State) : Out.cmac s.nvm.cmacKey (execGuardOutputsOn s) = s.nvm.cmacKey := by
  simp only [execGuardOutputsOn, State.setB_cmac, State.soutFault_cmac, State.withGuard_cmac, ite_self, Out.cmac_next, Out.cmac_ite]
theorem execOffPulseStart_cmac (s : State) : Out.cmac s.nvm.cmacKey (execOffPulseStart s) = s.nvm.cmacKey := by
  simp only [execOffPulseStart, State.withGuard_cmac, ite_self, Out.cmac_next, Out.cmac_ite]
@[simp] theorem State.setRb_cmac (s : State) (rbA rbB : Bool) : (State.setRb s rbA rbB).nvm.cmacKey = s.nvm.cmacKey := by
  simp only [State.setRb, State.setB_cmac]
theorem execOffPulseEnd_cmac (rbA rbB : Bool) (s : State) : Out.cmac s.nvm.cmacKey (execOffPulseEnd rbA rbB s) = s.nvm.cmacKey := by
  simp only [execOffPulseEnd]
  repeat' first | with_reducible rfl | simp only [State.setRb_cmac, State.soutFault_cmac, State.withGuard_cmac, ite_self, Out.cmac_next, Out.cmac_ite] | split
theorem execReadbackSample_cmac (rbA rbB limA limB : Bool) (s : State) : Out.cmac s.nvm.cmacKey (execReadbackSample rbA rbB limA limB s) = s.nvm.cmacKey := by
  simp only [execReadbackSample]
  repeat' first | with_reducible rfl | simp only [State.setRb_cmac, State.soutFault_cmac, State.withGuard_cmac, Out.cmac_next] | split
theorem execEdmTimeout_cmac (s : State) : Out.cmac s.nvm.cmacKey (execEdmTimeout s) = s.nvm.cmacKey := by
  simp only [execEdmTimeout, State.soutFault_cmac, State.withGuard_cmac, ite_self, Out.cmac_next, Out.cmac_ite]
theorem execEdmLevelChange_cmac (level : Bool) (s : State) : Out.cmac s.nvm.cmacKey (execEdmLevelChange level s) = s.nvm.cmacKey := by
  simp only [execEdmLevelChange, State.setB_cmac, State.soutFault_cmac, State.withGuard_cmac, ite_self, Out.cmac_next, Out.cmac_ite]
theorem execSoutStageTrip_cmac (s : State) : Out.cmac s.nvm.cmacKey (execSoutStageTrip s) = s.nvm.cmacKey := by
  simp only [execSoutStageTrip, State.logEvent_cmac, State.raise_cmac, State.soutOff_cmac, ite_self, Out.cmac_next, Out.cmac_ite]
@[simp] theorem State.crcErr_cmac (s : State) : (State.crcErr s).nvm.cmacKey = s.nvm.cmacKey := by
  simp only [State.crcErr, State.logEvent_cmac, State.raise_cmac, State.setB_cmac, State.soutOff_cmac, State.cmac_ite, ite_self]
theorem execGuardCrcPass_cmac (ue : Option Nat) (s : State) : Out.cmac s.nvm.cmacKey (execGuardCrcPass ue s) = s.nvm.cmacKey := by
  simp only [execGuardCrcPass, Out.cmac_next, Out.cmac_ite]
  repeat' first | with_reducible rfl | simp only [State.crcErr_cmac, State.logEvent_cmac, State.raise_cmac, State.rset_cmac, State.cmac_ite, ite_self, Out.cmac_next] | split
@[simp] theorem State.changeBegin_cmac (s : State) : (State.changeBegin s).nvm.cmacKey = s.nvm.cmacKey := by
  simp only [State.changeBegin, State.setB_cmac, State.withGuard_cmac]
@[simp] theorem State.changeWord_cmac (s : State) (a : Nat) (v : Word) : (State.changeWord s a v).nvm.cmacKey = s.nvm.cmacKey := by
  simp only [State.changeWord, State.msetW_cmac, State.rset_cmac, State.setB_cmac, State.withGuard_cmac, State.cmac_ite, ite_self]
@[simp] theorem State.changeCommit_cmac (s : State) (uid : Nat) : (State.changeCommit s uid).nvm.cmacKey = s.nvm.cmacKey := by
  simp only [State.changeCommit, State.nvmPush_cmac, State.rebuildBearing_cmac, State.rset_cmac]
@[simp] theorem State.changeCommitted_cmac (s : State) : (State.changeCommitted s).nvm.cmacKey = s.nvm.cmacKey := by
  simp only [State.changeCommitted, State.rset_cmac, State.setB_cmac]
@[simp] theorem State.changeAbort_cmac (s : State) (uid : Nat) : (State.changeAbort s uid).1.nvm.cmacKey = s.nvm.cmacKey := by
  simp only [State.changeAbort, State.nvmPush_cmac, State.rset_cmac, State.setB_cmac, State.cmac_ite, ite_self, apply_ite Prod.fst]

/-! ## Column -/

@[simp] theorem State.latchColumn_cmac (s : State) : (State.latchColumn s).nvm.cmacKey = s.nvm.cmacKey := by
  simp only [State.latchColumn, State.withEff_cmac]
@[simp] theorem State.kilnLast_cmac (s : State) (g : Grant) (st : Nat) : (State.kilnLast s g st).nvm.cmacKey = s.nvm.cmacKey := by
  simp only [State.kilnLast, State.rset_cmac, State.setF_cmac]
@[simp] theorem State.closeColumn_cmac (s : State) (t : Nat) (ends : Bool) (fue : List Nat) : (State.closeColumn s t ends fue).nvm.cmacKey = s.nvm.cmacKey := by
  simp only [State.closeColumn]
  repeat' first | with_reducible rfl | simp only [State.caskBoundary_cmac, State.closeAmb_cmac, State.dropPlanned_cmac, State.guardColumn_cmac, State.kilnLast_cmac, State.withScan_cmac, State.cmac_ite, ite_self] | split
@[simp] theorem State.dropOldest_cmac (s : State) : (State.dropOldest s).nvm.cmacKey = s.nvm.cmacKey := by
  simp only [State.dropOldest]
  repeat' first | with_reducible rfl | simp only [State.tapFlush_cmac, State.wortForget_cmac] | split
@[simp] theorem State.finishClose_cmac (s : State) : (State.finishClose s).nvm.cmacKey = s.nvm.cmacKey := by
  simp only [State.finishClose]
  repeat' first | with_reducible rfl | simp only [State.admitCol_cmac, State.dropOldest_cmac, State.lauLatch_cmac, State.line_cmac, State.tapReserve_cmac, State.withScan_cmac] | split
@[simp] theorem State.columnSwap_cmac (s : State) (t : Nat) (g : Grant) : (State.columnSwap s t g).nvm.cmacKey = s.nvm.cmacKey := by
  simp only [State.columnSwap, State.finishClose_cmac, State.mashTrigger_cmac, State.cmac_ite, ite_self]
@[simp] theorem State.openColumn_cmac (s : State) (t : Nat) (g : Grant) : (State.openColumn s t g).nvm.cmacKey = s.nvm.cmacKey := by
  simp only [State.openColumn]
  repeat' first | with_reducible rfl | simp only [State.beginString_cmac, State.reduceEntry_cmac, State.withScan_cmac, State.withWort_cmac] | split | refine (foldl_cmac _ (fun s x => ?_) _ _).trans ?_
@[simp] theorem State.grantAt_cmac (s : State) (az : Nat) (rest : List (Nat × Bool)) (t now : Nat) (bad : List Nat) : (State.grantAt s az rest t now bad).nvm.cmacKey = s.nvm.cmacKey := by
  unfold State.grantAt
  repeat' first | with_reducible rfl | simp only [State.eyeTargets_cmac, State.grantFor_cmac] | split
@[simp] theorem State.fireTrigger_cmac (s : State) (t az : Nat) (rest : List (Nat × Bool)) (bad fue : List Nat) (late : Bool) : (State.fireTrigger s t az rest bad fue late).nvm.cmacKey = s.nvm.cmacKey := by
  simp only [State.fireTrigger]
  repeat' first | with_reducible rfl | simp only [State.closeColumn_cmac, State.columnSwap_cmac, State.grantAt_cmac, State.guardTrigger_cmac, State.incSat_cmac, State.latchColumn_cmac, State.openColumn_cmac, State.raise_cmac, State.withScan_cmac, State.cmac_ite, ite_self] | split
@[simp] theorem State.skipTarget_cmac (s : State) (x : Nat × Bool) : (State.skipTarget s x).nvm.cmacKey = s.nvm.cmacKey := by
  simp only [State.skipTarget, State.guardSkip_cmac, State.skipCount_cmac, State.withScan_cmac, State.wortSkip_cmac]
@[simp] theorem State.latePass_cmac (s : State) (t : Nat) (xs : List (Nat × Bool)) (bad fue : List Nat) : (State.latePass s t xs bad fue).nvm.cmacKey = s.nvm.cmacKey := by
  simp only [State.latePass]
  repeat' first | with_reducible rfl | simp only [State.fireTrigger_cmac, State.skipTarget_cmac] | split | refine (foldl_cmac _ (fun s x => ?_) _ _).trans ?_
@[simp] theorem State.grantNow_cmac (s : State) (now : Nat) (bad : List Nat) : (State.grantNow s now bad).nvm.cmacKey = s.nvm.cmacKey := by
  simp only [State.grantNow]
  repeat' first | with_reducible rfl | simp only [State.eyeTargets_cmac, State.grantDue_cmac] | split
theorem execMsnsSample_cmac (convs : List Conv) (t : Nat) (bad fue : List Nat) (s : State) : Out.cmac s.nvm.cmacKey (execMsnsSample convs t bad fue s) = s.nvm.cmacKey := by
  simp only [execMsnsSample, State.adcEnd_cmac, State.grantNow_cmac, State.latePass_cmac, State.mirrorLoop_cmac, State.msnsBase_cmac, ite_self, Out.cmac_next, Out.cmac_ite]
theorem execSweepStart_cmac (t : Nat) (s : State) : Out.cmac s.nvm.cmacKey (execSweepStart t s) = s.nvm.cmacKey := by
  simp only [execSweepStart, State.guardSweepBegin_cmac, State.lockInterval_cmac, State.sweepStart_cmac, State.withScan_cmac, State.cmac_ite, ite_self, Out.cmac_next]
  repeat' first | with_reducible rfl | simp only [State.skipTarget_cmac] | split | refine (foldl_cmac _ (fun s x => ?_) _ _).trans ?_
theorem execStrokeEnd_cmac (t : Nat) (s : State) : Out.cmac s.nvm.cmacKey (execStrokeEnd t s) = s.nvm.cmacKey := by
  simp only [execStrokeEnd, State.flybackInject_cmac, State.strokeEnd_cmac, State.cmac_ite, Out.cmac_next, Out.cmac_ite]
  repeat' first | with_reducible rfl | simp only [State.flybackInject_cmac, State.scheduleD_cmac, State.skipTarget_cmac, State.strokeEnd_cmac, State.cmac_ite, ite_self] | split | refine (foldl_cmac _ (fun s x => ?_) _ _).trans ?_
theorem execKilnGrant_cmac (now : Nat) (bad : List Nat) (s : State) : Out.cmac s.nvm.cmacKey (execKilnGrant now bad s) = s.nvm.cmacKey := by
  simp only [execKilnGrant, State.grantNow_cmac, Out.cmac_next]
theorem execTrigger_cmac (t : Nat) (bad fue : List Nat) (s : State) : Out.cmac s.nvm.cmacKey (execTrigger t bad fue s) = s.nvm.cmacKey := by
  simp only [execTrigger, Out.cmac_next, Out.cmac_ite]
  repeat' first | with_reducible rfl | simp only [State.fireTrigger_cmac, State.cmac_ite, ite_self, Out.cmac_next] | split
theorem execStareTrigger_cmac (t : Nat) (bad fue : List Nat) (s : State) : Out.cmac s.nvm.cmacKey (execStareTrigger t bad fue s) = s.nvm.cmacKey := by
  simp only [execStareTrigger, State.fireTrigger_cmac, State.guardSweepBegin_cmac, State.raiseIf_cmac, State.sweepBegin_cmac, State.takeRegion_cmac, State.withScan_cmac, State.cmac_ite, ite_self, Out.cmac_next, Out.cmac_ite]
theorem execHoldoffExpiry_cmac (t : Nat) (bad : List Nat) (s : State) (fue : List Nat) : Out.cmac s.nvm.cmacKey (execHoldoffExpiry t bad s fue) = s.nvm.cmacKey := by
  simp only [execHoldoffExpiry, State.grantNow_cmac, State.latePass_cmac, State.withScan_cmac, State.cmac_ite, ite_self, Out.cmac_next, Out.cmac_ite]
theorem execTunClearDone_cmac (t : Nat) (bad fue : List Nat) (s : State) : Out.cmac s.nvm.cmacKey (execTunClearDone t bad fue s) = s.nvm.cmacKey := by
  simp only [execTunClearDone, State.grantNow_cmac, State.latePass_cmac, State.setB_cmac, State.withScan_cmac, State.cmac_ite, ite_self, Out.cmac_next, Out.cmac_ite]
@[simp] theorem State.shotFired_cmac (s : State) (n t : Nat) (y : NextShot) : (State.shotFired s n t y).nvm.cmacKey = s.nvm.cmacKey := by
  simp only [State.shotFired, State.adcFired_cmac, State.chargeCells_cmac, State.chargeModels_cmac, State.emxRelatch_cmac, State.incMod_cmac, State.setStr_cmac, State.withPins_cmac]
@[simp] theorem State.plannedFired_cmac (s : State) (n i t : Nat) (y : NextShot) : (State.plannedFired s n i t y).nvm.cmacKey = s.nvm.cmacKey := by
  simp only [State.plannedFired]
  repeat' first | with_reducible rfl | simp only [State.openWindow_cmac, State.reduceEntry_cmac, State.spend_cmac, State.withEmit_cmac, State.withScan_cmac, State.cmac_ite, ite_self] | split | refine (foldl_cmac _ (fun s x => ?_) _ _).trans ?_
@[simp] theorem State.plannedOver_cmac (s : State) (n : Nat) (y : NextShot) : (State.plannedOver s n y).nvm.cmacKey = s.nvm.cmacKey := by
  simp only [State.plannedOver, State.scheduleD_cmac, State.setF_cmac, State.setStr_cmac]
theorem execFire_cmac (n t : Nat) (s : State) : Out.cmac s.nvm.cmacKey (execFire n t s) = s.nvm.cmacKey := by
  simp only [execFire]
  repeat' first | with_reducible rfl | simp only [State.isoPlace_cmac, State.plannedFired_cmac, State.plannedOver_cmac, State.raiseIf_cmac, State.reduceEntry_cmac, State.scheduleD_cmac, State.setStr_cmac, State.shotFired_cmac, State.cmac_ite, ite_self, Out.cmac_next, Out.cmac_ite] | split
theorem execClusterPowerOn_cmac (k : Nat) (s : State) (t : Nat) : Out.cmac s.nvm.cmacKey (execClusterPowerOn k s t) = s.nvm.cmacKey := by
  simp only [execClusterPowerOn, State.spend_cmac, State.withScan_cmac, ite_self, Out.cmac_next, Out.cmac_ite]
theorem execClusterPowerOff_cmac (k : Nat) (s : State) (t : Nat) : Out.cmac s.nvm.cmacKey (execClusterPowerOff k s t) = s.nvm.cmacKey := by
  simp only [execClusterPowerOff, State.closeExpired_cmac, State.withScan_cmac, ite_self, Out.cmac_next, Out.cmac_ite]
@[simp] theorem State.outcome_cmac (s : State) (m c : Nat) (o : FieldOut) (shots : Nat) : (State.outcome s m c o shots).nvm.cmacKey = s.nvm.cmacKey := by
  simp only [State.outcome, State.guardOutcome_cmac]
@[simp] theorem State.columnDone_cmac (s : State) (m : Nat) : (State.columnDone s m).nvm.cmacKey = s.nvm.cmacKey := by
  simp only [State.columnDone, State.guardColDone_cmac, State.guardSweepEnd_cmac, State.lauSummary_cmac, State.cmac_ite, ite_self]
@[simp] theorem State.closeHist_cmac (s : State) (c : Nat) (errs : List (Nat × Bool)) : (State.closeHist s c errs).nvm.cmacKey = s.nvm.cmacKey := by
  simp only [State.closeHist, State.lauOutcome_cmac, State.outcome_cmac, State.spargeHist_cmac, State.wortDone_cmac, State.cmac_ite, ite_self]
theorem execHistogramClose_cmac (j : Nat) (errs : List (Nat × Nat × Bool)) (s : State) : Out.cmac s.nvm.cmacKey (execHistogramClose j errs s) = s.nvm.cmacKey := by
  simp only [execHistogramClose, State.columnDone_cmac, State.withMash_cmac, Out.cmac_next, Out.cmac_ite]
  repeat' first | with_reducible rfl | simp only [State.closeHist_cmac] | split | refine (foldl_cmac _ (fun s x => ?_) _ _).trans ?_
theorem execLauterExtractDone_cmac (c : Nat) (s : State) : Out.cmac s.nvm.cmacKey (execLauterExtractDone c s) = s.nvm.cmacKey := by
  simp only [execLauterExtractDone]
  repeat' first | with_reducible rfl | simp only [State.columnDone_cmac, State.lauExtract_cmac, State.outcome_cmac, State.wortDone_cmac, Out.cmac_next] | split
theorem execSpargeEnd_cmac (t : Nat) (s : State) : Out.cmac s.nvm.cmacKey (execSpargeEnd t s) = s.nvm.cmacKey := by
  simp only [execSpargeEnd, State.finishClose_cmac, State.spargeEnd_cmac, State.cmac_ite, ite_self, Out.cmac_next, Out.cmac_ite]

/-! ## Modes -/

@[simp] theorem State.endSession_cmac (s : State) : (State.endSession s).nvm.cmacKey = s.nvm.cmacKey := by
  simp only [State.endSession]
  repeat' first | with_reducible rfl | simp only [State.changeAbort_cmac, State.withAmp_cmac, State.cmac_ite, ite_self] | split
@[simp] theorem State.pllaFollow_cmac (s : State) : (State.pllaFollow s).nvm.cmacKey = s.nvm.cmacKey := by
  simp only [State.pllaFollow, State.setB_cmac, State.cmac_ite, ite_self]
@[simp] theorem State.lockFollow_cmac (s : State) : (State.lockFollow s).nvm.cmacKey = s.nvm.cmacKey := by
  simp only [State.lockFollow, State.setB_cmac, State.withScan_cmac, State.cmac_ite, ite_self]
@[simp] theorem State.toState_cmac (s : State) (d : Dev) : (State.toState s d).nvm.cmacKey = s.nvm.cmacKey := by
  simp only [State.toState, State.endSession_cmac, State.guardFollow_cmac, State.lockFollow_cmac, State.pllaFollow_cmac, State.serviceEnter_cmac, State.serviceLeave_cmac, State.setB_cmac, State.setDev_cmac, State.vspadFollow_cmac, State.cmac_ite, ite_self]
@[simp] theorem State.seedLfsrs_cmac (s : State) : (State.seedLfsrs s).nvm.cmacKey = s.nvm.cmacKey := by
  simp only [State.seedLfsrs]
  repeat' first | with_reducible rfl | simp only [State.raise_cmac, State.setF_cmac, State.cmac_ite, ite_self] | split | refine (foldl_cmac _ (fun s x => ?_) _ _).trans ?_
@[simp] theorem State.dropColumns_cmac (s : State) : (State.dropColumns s).nvm.cmacKey = s.nvm.cmacKey := by
  simp only [State.dropColumns, State.withLau_cmac]
  repeat' first | with_reducible rfl | simp only [State.tapFlush_cmac, State.wortForget_cmac] | split | refine (foldl_cmac _ (fun s x => ?_) _ _).trans ?_
@[simp] theorem State.scanEnter_cmac (s : State) (t : Nat) : (State.scanEnter s t).nvm.cmacKey = s.nvm.cmacKey := by
  simp only [State.scanEnter, State.guardScanEntry_cmac]
  repeat' first | with_reducible rfl | simp only [State.dropColumns_cmac, State.groupRun_cmac, State.latchColumn_cmac, State.seedLfsrs_cmac, State.setB_cmac, State.setStr_cmac, State.takeRegion_cmac, State.toState_cmac, State.tunClear_cmac, State.withRst_cmac, State.withScan_cmac, State.wortScan_cmac] | split | refine (foldl_cmac _ (fun s x => ?_) _ _).trans ?_
theorem execScanEntry_cmac (t : Nat) (s : State) : Out.cmac s.nvm.cmacKey (execScanEntry t s) = s.nvm.cmacKey := by
  simp only [execScanEntry, State.scanEnter_cmac, ite_self, Out.cmac_next, Out.cmac_ite]
@[simp] theorem State.emitIdle_cmac (s : State) : (State.emitIdle s).nvm.cmacKey = s.nvm.cmacKey := by
  simp only [State.emitIdle, State.withEmit_cmac, State.withMash_cmac]
@[simp] theorem State.scanIdle_cmac (s : State) : (State.scanIdle s).nvm.cmacKey = s.nvm.cmacKey := by
  simp only [State.scanIdle, State.emitIdle_cmac]
  repeat' first | with_reducible rfl | simp only [State.followInhibit_cmac, State.setB_cmac, State.setStr_cmac, State.withScan_cmac] | split | refine (foldl_cmac _ (fun s x => ?_) _ _).trans ?_
@[simp] theorem State.emxOff_cmac (s : State) : (State.emxOff s).nvm.cmacKey = s.nvm.cmacKey := by
  simp only [State.emxOff, State.withEmit_cmac]
@[simp] theorem State.scanOff_cmac (s : State) (t : Nat) (zero : Bool) : (State.scanOff s t zero).nvm.cmacKey = s.nvm.cmacKey := by
  simp only [State.scanOff, State.closeColumn_cmac, State.columnSwap_cmac, State.emxOff_cmac, State.emxSendZero_cmac, State.hzdAssert_cmac, State.latchColumn_cmac, State.scanIdle_cmac, State.cmac_ite, ite_self]
theorem execScanLeave_cmac (t : Nat) (s : State) : Out.cmac s.nvm.cmacKey (execScanLeave t s) = s.nvm.cmacKey := by
  simp only [execScanLeave, State.scanOff_cmac, State.toState_cmac, ite_self, Out.cmac_next, Out.cmac_ite]
@[simp] theorem State.enterSafe_cmac (s : State) (bit : Nat) : (State.enterSafe s bit).nvm.cmacKey = s.nvm.cmacKey := by
  simp only [State.enterSafe, State.logEvent_cmac, State.scanOff_cmac, State.setF_cmac, State.toState_cmac, State.withPins_cmac, State.withScan_cmac, State.cmac_ite, ite_self]
theorem execEmxFrameConfirm_cmac (t : Nat) (echo : BitVec 76) (status : BitVec 8) (s : State) : Out.cmac s.nvm.cmacKey (execEmxFrameConfirm t echo status s) = s.nvm.cmacKey := by
  simp only [execEmxFrameConfirm]
  repeat' first | with_reducible rfl | simp only [State.emxSend_cmac, State.enterSafe_cmac, State.incSat_cmac, State.logEvent_cmac, State.raise_cmac, State.setStr_cmac, State.withEmit_cmac, State.cmac_ite, ite_self, Out.cmac_next, Out.cmac_ite] | split | refine (foldl_cmac _ (fun s x => ?_) _ _).trans ?_
@[simp] theorem State.pinTestStart_cmac (s : State) : (State.pinTestStart s).nvm.cmacKey = s.nvm.cmacKey := by
  simp only [State.pinTestStart, State.setB_cmac]
theorem execParkEnter_cmac (t : Nat) (s : State) : Out.cmac s.nvm.cmacKey (execParkEnter t s) = s.nvm.cmacKey := by
  simp only [execParkEnter, State.endSession_cmac, State.pinTestStart_cmac, State.scanOff_cmac, State.toState_cmac, State.withPins_cmac, State.withScan_cmac, State.cmac_ite, ite_self, Out.cmac_next, Out.cmac_ite]
@[simp] theorem State.loopsPark_cmac (s : State) : (State.loopsPark s).nvm.cmacKey = s.nvm.cmacKey := by
  simp only [State.loopsPark]
  repeat' first | with_reducible rfl | simp only [State.loopRun_cmac] | split | refine (foldl_cmac _ (fun s x => ?_) _ _).trans ?_
@[simp] theorem State.parkEnter_cmac (s : State) : (State.parkEnter s).nvm.cmacKey = s.nvm.cmacKey := by
  simp only [State.parkEnter, State.corePark_cmac, State.loopsPark_cmac, State.setB_cmac, State.timeInvalid_cmac, State.tinPark_cmac, State.toState_cmac, State.withHists_cmac, State.withMash_cmac, State.withPins_cmac, State.withRst_cmac, State.withScan_cmac, State.withTun_cmac]
theorem execSealNChange_cmac (low : Bool) (s : State) : Out.cmac s.nvm.cmacKey (execSealNChange low s) = s.nvm.cmacKey := by
  simp only [execSealNChange, State.toState_cmac, State.withPins_cmac, State.cmac_ite, ite_self, Out.cmac_next]
theorem execPllaLossOfLock_cmac (s : State) : Out.cmac s.nvm.cmacKey (execPllaLossOfLock s) = s.nvm.cmacKey := by
  simp only [execPllaLossOfLock, State.mashInvalid_cmac, State.raise_cmac, State.setB_cmac, State.withEmit_cmac, State.cmac_ite, ite_self, Out.cmac_next, Out.cmac_ite]
theorem execPllaRelockTimeout_cmac (s : State) : Out.cmac s.nvm.cmacKey (execPllaRelockTimeout s) = s.nvm.cmacKey := by
  simp only [execPllaRelockTimeout, State.raiseReset_cmac, State.cmac_ite, ite_self, Out.cmac_next]
theorem execPllbLossOfLock_cmac (s : State) : Out.cmac s.nvm.cmacKey (execPllbLossOfLock s) = s.nvm.cmacKey := by
  simp only [execPllbLossOfLock, State.raise_cmac, State.raiseReset_cmac, State.setB_cmac, ite_self, Out.cmac_next, Out.cmac_ite]
theorem execTdcBootRunEnd_cmac (hits : List (Nat × List Nat)) (s : State) : Out.cmac s.nvm.cmacKey (execTdcBootRunEnd hits s) = s.nvm.cmacKey := by
  simp only [execTdcBootRunEnd, State.bootRunEnd_cmac, State.pllaFollow_cmac, State.vspadFollow_cmac, State.cmac_ite, ite_self, Out.cmac_next]
theorem execRxCalRun_cmac (s : State) : Out.cmac s.nvm.cmacKey (execRxCalRun s) = s.nvm.cmacKey := by
  simp only [execRxCalRun, State.calRun_cmac, Out.cmac_next]
@[simp] theorem State.msTick_cmac (s : State) : (State.msTick s).nvm.cmacKey = s.nvm.cmacKey := by
  simp only [State.msTick, State.discTick_cmac, State.restartTick_cmac, State.wdtTick_cmac, State.withMs_cmac]
theorem execEnDiscSample_cmac (s : State) : Out.cmac s.nvm.cmacKey (execEnDiscSample s) = s.nvm.cmacKey := by
  simp only [execEnDiscSample, State.msTick_cmac, Out.cmac_next]
@[simp] theorem State.msTicks_cmac (n : Nat) (s : State) : (State.msTicks n s).nvm.cmacKey = s.nvm.cmacKey := by
  induction n generalizing s with
  | zero => rfl
  | succ n ih => rw [State.msTicks, ih, State.msTick_cmac]
theorem execWdtExpiry_cmac (c : Nat) (s : State) : Out.cmac s.nvm.cmacKey (execWdtExpiry c s) = s.nvm.cmacKey := by
  simp only [execWdtExpiry, State.msTicks_cmac, State.cmac_ite, ite_self, Out.cmac_next]

/-! ## Flash -/

@[simp] theorem State.flCmd_cmac (s : State) (cmd : Nat) : (State.flCmd s cmd).nvm.cmacKey = s.nvm.cmacKey := by
  simp only [State.flCmd, State.raise_cmac, State.setB_cmac, State.withFlOp_cmac, State.cmac_ite, ite_self]
theorem execFlCmdErase_cmac (s : State) : Out.cmac s.nvm.cmacKey (execFlCmdErase s) = s.nvm.cmacKey := by
  simp only [execFlCmdErase, State.flCmd_cmac, Out.cmac_next]
theorem execFlCmdProgram_cmac (s : State) : Out.cmac s.nvm.cmacKey (execFlCmdProgram s) = s.nvm.cmacKey := by
  simp only [execFlCmdProgram, State.flCmd_cmac, Out.cmac_next]
theorem execFlCmdRead_cmac (s : State) : Out.cmac s.nvm.cmacKey (execFlCmdRead s) = s.nvm.cmacKey := by
  simp only [execFlCmdRead, State.flCmd_cmac, Out.cmac_next]
@[simp] theorem State.flashDo_cmac (s : State) (o : FlashOp) : (State.flashDo s o).nvm.cmacKey = s.nvm.cmacKey := by
  simp only [State.flashDo]
  repeat' first | with_reducible rfl | simp only [State.rset_cmac, State.withFlash_cmac] | split | refine (foldl_cmac _ (fun s x => ?_) _ _).trans ?_
theorem execFlashCmdDone_cmac (left : Option (List Byte)) (s : State) : Out.cmac s.nvm.cmacKey (execFlashCmdDone left s) = s.nvm.cmacKey := by
  simp only [execFlashCmdDone]
  repeat' first | with_reducible rfl | simp only [State.flashDo_cmac, State.raise_cmac, State.setB_cmac, State.withFlOp_cmac, State.withFlash_cmac, State.cmac_ite, ite_self, Out.cmac_next] | split
@[simp] theorem State.optCmd_cmac (s : State) (key : Word) : (State.optCmd s key).nvm.cmacKey = s.nvm.cmacKey := by
  simp only [State.optCmd, State.nvmPush_cmac, State.raise_cmac, State.setB_cmac, State.cmac_ite, ite_self]
theorem execOptCmd_cmac (key : Word) (s : State) : Out.cmac s.nvm.cmacKey (execOptCmd key s) = s.nvm.cmacKey := by
  simp only [execOptCmd, State.optCmd_cmac, Out.cmac_next]
theorem execEmitLostclr_cmac (key : Word) (s : State) : Out.cmac s.nvm.cmacKey (execEmitLostclr key s) = s.nvm.cmacKey := by
  simp only [execEmitLostclr, State.lostClear_cmac, Out.cmac_next]
theorem execScrubStep_cmac (mem a err : Nat) (s : State) : Out.cmac s.nvm.cmacKey (execScrubStep mem a err s) = s.nvm.cmacKey := by
  simp only [execScrubStep, Out.cmac_next, Out.cmac_ite]
  repeat' first | with_reducible rfl | simp only [State.dspCe_cmac, State.dspUe_cmac, State.planUe_cmac, State.wortCe_cmac, State.wortUe_cmac, State.cmac_ite, ite_self] | split

/-! ## Bus -/

@[simp] theorem State.freeze_cmac (s : State) (m a info : Nat) (wr : Bool) : (State.freeze s m a info wr).nvm.cmacKey = s.nvm.cmacKey := by
  simp only [State.freeze, State.logEvent_cmac, State.raise_cmac, State.raiseReset_cmac, State.rset_cmac]
@[simp] theorem State.readEffect_cmac (s : State) (a : Nat) : (State.readEffect s a).nvm.cmacKey = s.nvm.cmacKey := by
  simp only [State.readEffect, State.setEth_cmac, State.setF_cmac, State.tinPop_cmac, State.withAdc_cmac, State.cmac_ite, ite_self]
@[simp] theorem State.readWord_cmac (s : State) (a : Nat) : (State.readWord s a).1.nvm.cmacKey = s.nvm.cmacKey := by
  simp only [State.readWord, State.readEffect_cmac, State.cmac_ite, ite_self]
@[simp] theorem State.regStore_cmac (s : State) (a : Nat) (v : Word) : (State.regStore s a v).nvm.cmacKey = s.nvm.cmacKey := by
  simp only [State.regStore]
  repeat' first | with_reducible rfl | simp only [State.rset_cmac] | split
@[simp] theorem State.caskStore_cmac (s : State) (a : Nat) (v : Word) : (State.caskStore s a v).nvm.cmacKey = s.nvm.cmacKey := by
  simp only [State.caskStore, State.calcfgWrite_cmac, State.caskRefuse_cmac, State.cmac_ite]
  repeat' first | with_reducible rfl | simp only [State.rset_cmac] | split
@[simp] theorem State.scanCtrl_cmac (s : State) (v : Word) : (State.scanCtrl s v).nvm.cmacKey = s.nvm.cmacKey := by
  simp only [State.scanCtrl, State.regStore_cmac]
@[simp] theorem State.dmaCtrl_cmac (s : State) (n : Nat) (v : Word) : (State.dmaCtrl s n v).nvm.cmacKey = s.nvm.cmacKey := by
  simp only [State.dmaCtrl, State.dmaGo_cmac, State.regStore_cmac, State.cmac_ite, ite_self]
@[simp] theorem State.ctlCtrl_cmac (s : State) (v : Word) : (State.ctlCtrl s v).nvm.cmacKey = s.nvm.cmacKey := by
  simp only [State.ctlCtrl, State.ctlApply_cmac, State.lockFollow_cmac, State.regStore_cmac, State.cmac_ite, ite_self]
@[simp] theorem State.adcSrc_cmac (s : State) (k : Nat) (v : Word) : (State.adcSrc s k v).nvm.cmacKey = s.nvm.cmacKey := by
  simp only [State.adcSrc, State.adcGainWritten_cmac, State.regStore_cmac]
@[simp] theorem State.adcBg_cmac (s : State) (v : Word) : (State.adcBg s v).nvm.cmacKey = s.nvm.cmacKey := by
  simp only [State.adcBg, State.adcChannelWritten_cmac, State.regStore_cmac]
@[simp] theorem State.adcReq_cmac (s : State) (n : Nat) (v : Word) : (State.adcReq s n v).nvm.cmacKey = s.nvm.cmacKey := by
  simp only [State.adcReq, State.regStore_cmac, State.reqGo_cmac, State.cmac_ite, ite_self]
@[simp] theorem State.snapCtl_cmac (s : State) (v : Word) : (State.snapCtl s v).nvm.cmacKey = s.nvm.cmacKey := by
  simp only [State.snapCtl, State.regStore_cmac, State.snapArm_cmac, State.cmac_ite, ite_self]
@[simp] theorem State.capCtl_cmac (s : State) (v : Word) : (State.capCtl s v).nvm.cmacKey = s.nvm.cmacKey := by
  simp only [State.capCtl, State.capArm_cmac, State.regStore_cmac, State.cmac_ite, ite_self]
@[simp] theorem State.anchShi_cmac (s : State) (v : Word) : (State.anchShi s v).nvm.cmacKey = s.nvm.cmacKey := by
  simp only [State.anchShi, State.anchorCommit_cmac, State.regStore_cmac]
@[simp] theorem State.regWrite_cmac (s : State) (m a : Nat) (v : Word) : (State.regWrite s m a v).nvm.cmacKey = s.nvm.cmacKey := by
  simp only [State.regWrite]
  repeat' first | with_reducible rfl | simp only [State.adcBg_cmac, State.adcFirWritten_cmac, State.adcReq_cmac, State.adcSrc_cmac, State.anchShi_cmac, State.calRun_cmac, State.capCtl_cmac, State.caskStore_cmac, State.ctlCtrl_cmac, State.dmaCtrl_cmac, State.flCmd_cmac, State.lostClear_cmac, State.lrsGo_cmac, State.mbox7_cmac, State.optCmd_cmac, State.qpop_cmac, State.regStore_cmac, State.scanCtrl_cmac, State.snapCtl_cmac, State.timeCtrlWrite_cmac, State.timeIncWrite_cmac, State.timeOfsWrite_cmac, State.timePpsWrite_cmac, State.tinCfgWrite_cmac, State.txcmdWrite_cmac, State.wdtKick_cmac, State.cmac_ite, ite_self] | split
@[simp] theorem State.writeWord_cmac (s : State) (m a : Nat) (v : Word) : (State.writeWord s m a v).nvm.cmacKey = s.nvm.cmacKey := by
  simp only [State.writeWord, State.msetW_cmac, State.raise_cmac, State.regWrite_cmac, State.cmac_ite, ite_self]
@[simp] theorem State.binFound_cmac (s : State) (a e : Nat) : (State.binFound s a e).nvm.cmacKey = s.nvm.cmacKey := by
  simp only [State.binFound, State.binError_cmac]
@[simp] theorem State.memErr_cmac (s : State) (a n err : Nat) : (State.memErr s a n err).nvm.cmacKey = s.nvm.cmacKey := by
  simp only [State.memErr]
  repeat' first | with_reducible rfl | simp only [State.binFound_cmac, State.dspCe_cmac, State.dspUe_cmac, State.cmac_ite, ite_self] | split | refine (foldl_cmac _ (fun s x => ?_) _ _).trans ?_
@[simp] theorem State.busRead_cmac (s : State) (m a : Nat) : (State.busRead s m a).1.nvm.cmacKey = s.nvm.cmacKey := by
  simp only [State.busRead, State.freeze_cmac, State.readWord_cmac, State.cmac_ite, ite_self, apply_ite Prod.fst]
@[simp] theorem State.busWrite_cmac (s : State) (m a : Nat) (v : Word) : (State.busWrite s m a v).nvm.cmacKey = s.nvm.cmacKey := by
  simp only [State.busWrite, State.freeze_cmac, State.writeWord_cmac, State.cmac_ite, ite_self]
@[simp] theorem State.busReadHalf_cmac (s : State) (m a : Nat) : (State.busReadHalf s m a).1.nvm.cmacKey = s.nvm.cmacKey := by
  simp only [State.busReadHalf, State.busRead_cmac]
@[simp] theorem State.busWriteHalf_cmac (s : State) (m a : Nat) (v : BitVec 16) : (State.busWriteHalf s m a v).nvm.cmacKey = s.nvm.cmacKey := by
  simp only [State.busWriteHalf, State.caskRefuse_cmac, State.freeze_cmac, State.msetH_cmac, State.cmac_ite, ite_self]
theorem execRegisterWrite_cmac (m a : Nat) (v : Word) (s : State) : Out.cmac s.nvm.cmacKey (execRegisterWrite m a v s) = s.nvm.cmacKey := by
  simp only [execRegisterWrite, State.busWrite_cmac, ite_self, Out.cmac_next, Out.cmac_ite]
theorem execMashSnapctlArm_cmac (ch : Nat) (s : State) : Out.cmac s.nvm.cmacKey (execMashSnapctlArm ch s) = s.nvm.cmacKey := by
  simp only [execMashSnapctlArm, State.snapArm_cmac, State.setF_cmac, Out.cmac_next]
theorem execRxCapctlArm_cmac (s : State) : Out.cmac s.nvm.cmacKey (execRxCapctlArm s) = s.nvm.cmacKey := by
  simp only [execRxCapctlArm, State.capArm_cmac, Out.cmac_next]
theorem execTinCfgWrite_cmac (n : Nat) (v : Word) (s : State) : Out.cmac s.nvm.cmacKey (execTinCfgWrite n v s) = s.nvm.cmacKey := by
  simp only [execTinCfgWrite, State.tinCfgWrite_cmac, State.cmac_ite, ite_self, Out.cmac_next]
theorem execWortAnchShiWrite_cmac (v : Word) (s : State) : Out.cmac s.nvm.cmacKey (execWortAnchShiWrite v s) = s.nvm.cmacKey := by
  simp only [execWortAnchShiWrite, State.anchShi_cmac, Out.cmac_next]
@[simp] theorem State.dmaRead_cmac (s : State) (m a err : Nat) : (State.dmaRead s m a err).1.nvm.cmacKey = s.nvm.cmacKey := by
  simp only [State.dmaRead, State.busRead_cmac, State.fresh_cmac, State.memErr_cmac, State.cmac_ite, ite_self, apply_ite Prod.fst]
@[simp] theorem State.dmaMove_cmac (s : State) (m : Nat) (j : DmaSt) (n i : Nat) (errs : List Nat) : (s.dmaMove m j n i errs).nvm.cmacKey = s.nvm.cmacKey := by
  induction n generalizing s i errs with
  | zero => rfl
  | succ n ih =>
    unfold State.dmaMove
    dsimp only
    split
    · exact State.dmaRead_cmac _ _ _ _
    · split
      · exact (State.busWrite_cmac _ _ _ _).trans (State.dmaRead_cmac _ _ _ _)
      · exact (ih _ _ _).trans ((State.busWrite_cmac _ _ _ _).trans (State.dmaRead_cmac _ _ _ _))
theorem execDmaDone_cmac (n : Nat) (s : State) (errs : List Nat) : Out.cmac s.nvm.cmacKey (execDmaDone n s errs) = s.nvm.cmacKey := by
  simp only [execDmaDone]
  repeat' first | with_reducible rfl | simp only [State.line_cmac, State.setB_cmac, State.withDma_cmac, State.dmaMove_cmac, State.cmac_ite, ite_self, Out.cmac_next, Out.cmac_ite] | split

/-! ## DspCore -/

@[simp] theorem State.dspExc_cmac (s : State) (c v : Nat) : (State.dspExc s c v).nvm.cmacKey = s.nvm.cmacKey := by
  simp only [State.dspExc, State.raise_cmac, State.setCore_cmac, State.cmac_ite, ite_self]
theorem execDspInterruptEntry_cmac (c : Nat) (s : State) : Out.cmac s.nvm.cmacKey (execDspInterruptEntry c s) = s.nvm.cmacKey := by
  simp only [execDspInterruptEntry, Out.cmac_next, Out.cmac_ite]
  repeat' first | with_reducible rfl | simp only [State.coreCycles_cmac, State.setCore_cmac, ite_self, Out.cmac_next, Out.cmac_ite] | split
theorem State.issue_cmac (s : State) (c : Nat) (k : IKind) (body : State → Eff) (hb : ∀ t, (body t).st.nvm.cmacKey = t.nvm.cmacKey) :
    Out.cmac s.nvm.cmacKey (s.issue c k body) = s.nvm.cmacKey := by
  unfold State.issue
  split
  · rfl
  · dsimp only
    split
    · simp only [Out.cmac_next, State.dspExc_cmac, State.modCore_cmac]
    · split
      · rfl
      · split
        · simp only [Out.cmac_next, State.dspExc_cmac, State.setCore_cmac, hb, State.modCore_cmac]
        · simp only [Out.cmac_next, State.coreCycles_cmac, State.setCore_cmac, hb, State.modCore_cmac]
theorem State.alu_cmac (s : State) (c : Nat) (g : CoreSt → CoreSt) : Out.cmac s.nvm.cmacKey (State.alu s c g) = s.nvm.cmacKey := by
  unfold State.alu
  refine State.issue_cmac _ _ _ _ (fun t => ?_)
  repeat' first | with_reducible rfl | simp only [State.modCore_cmac]
theorem State.aluR_cmac (s : State) (c d s' t : Nat) (f : Word → Word → Word) : Out.cmac s.nvm.cmacKey (State.aluR s c d s' t f) = s.nvm.cmacKey := by
  simp only [State.aluR, State.alu_cmac]
theorem State.aluI_cmac (s : State) (c d s' : Nat) (imm : Word) (f : Word → Word → Word) : Out.cmac s.nvm.cmacKey (State.aluI s c d s' imm f) = s.nvm.cmacKey := by
  simp only [State.aluI, State.alu_cmac]
theorem State.branch_cmac (s : State) (c s' : Nat) (off : BitVec 19) (p : Int → Bool) : Out.cmac s.nvm.cmacKey (State.branch s c s' off p) = s.nvm.cmacKey := by
  unfold State.branch
  refine State.issue_cmac _ _ _ _ (fun t => ?_)
  repeat' first | with_reducible rfl
@[simp] theorem State.loadErr_cmac (s : State) (c a size err : Nat) : (State.loadErr s c a size err).1.nvm.cmacKey = s.nvm.cmacKey := by
  simp only [State.loadErr, State.memErr_cmac, State.cmac_ite, ite_self, apply_ite Prod.fst]
@[simp] theorem State.loadCycles_cmac (s : State) (c a : Nat) : (State.loadCycles s c a).2.nvm.cmacKey = s.nvm.cmacKey := by
  simp only [State.loadCycles, State.fresh_cmac, State.cmac_ite, ite_self, apply_ite Prod.snd]
theorem State.load_cmac (s : State) (c a mode mc : Nat) (imm : BitVec 10) (size err : Nat) (get : State → Nat → State × Option (List (Nat × Word)))
    (hg : ∀ t ad, (get t ad).1.nvm.cmacKey = t.nvm.cmacKey) : Out.cmac s.nvm.cmacKey (s.load c a mode mc imm size err get) = s.nvm.cmacKey := by
  unfold State.load
  refine State.issue_cmac _ _ _ _ (fun t => ?_)
  dsimp only
  split
  · rfl
  · split
    · rfl
    · split
      · exact State.loadErr_cmac _ _ _ _ _
      · split
        · exact (hg _ _).trans (State.loadErr_cmac _ _ _ _ _)
        · simp only [State.modCore_cmac, State.loadCycles_cmac, hg, State.loadErr_cmac]
theorem State.store_cmac (s : State) (c a mode mc : Nat) (imm : BitVec 10) (size : Nat) (put : State → Nat → State)
    (hp : ∀ t ad, (put t ad).nvm.cmacKey = t.nvm.cmacKey) : Out.cmac s.nvm.cmacKey (s.store c a mode mc imm size put) = s.nvm.cmacKey := by
  unfold State.store
  refine State.issue_cmac _ _ _ _ (fun t => ?_)
  dsimp only
  split
  · rfl
  · split
    · rfl
    · simp only [State.modCore_cmac, hp]
@[simp] theorem State.readPair_cmac (s : State) (c d ad : Nat) : (State.readPair s c d ad).1.nvm.cmacKey = s.nvm.cmacKey := by
  simp only [State.readPair]
  repeat' first | with_reducible rfl | simp only [State.busRead_cmac] | split
@[simp] theorem State.writePair_cmac (s : State) (c ad : Nat) (v w : Word) : (State.writePair s c ad v w).nvm.cmacKey = s.nvm.cmacKey := by
  simp only [State.writePair, State.busWrite_cmac, State.cmac_ite, ite_self]
theorem execDspException_cmac (c : Nat) (w : Option Word) (s : State) : Out.cmac s.nvm.cmacKey (execDspException c w s) = s.nvm.cmacKey := by
  simp only [execDspException, Out.cmac_next, Out.cmac_ite]
  repeat' first | with_reducible rfl | simp only [State.dspExc_cmac, State.dspUe_cmac, State.modCore_cmac, Out.cmac_next] | split

/-! ## DspInstr -/

theorem execDspAdd_cmac (c d s' t : Nat) (s : State) : Out.cmac s.nvm.cmacKey (execDspAdd c d s' t s) = s.nvm.cmacKey := by
  simp only [execDspAdd, State.aluR_cmac]
theorem execDspSub_cmac (c d s' t : Nat) (s : State) : Out.cmac s.nvm.cmacKey (execDspSub c d s' t s) = s.nvm.cmacKey := by
  simp only [execDspSub, State.aluR_cmac]
theorem execDspAdds_cmac (c d s' t : Nat) (s : State) : Out.cmac s.nvm.cmacKey (execDspAdds c d s' t s) = s.nvm.cmacKey := by
  simp only [execDspAdds, State.alu_cmac]
theorem execDspSubs_cmac (c d s' t : Nat) (s : State) : Out.cmac s.nvm.cmacKey (execDspSubs c d s' t s) = s.nvm.cmacKey := by
  simp only [execDspSubs, State.alu_cmac]
theorem execDspAnd_cmac (c d s' t : Nat) (s : State) : Out.cmac s.nvm.cmacKey (execDspAnd c d s' t s) = s.nvm.cmacKey := by
  simp only [execDspAnd, State.aluR_cmac]
theorem execDspOr_cmac (c d s' t : Nat) (s : State) : Out.cmac s.nvm.cmacKey (execDspOr c d s' t s) = s.nvm.cmacKey := by
  simp only [execDspOr, State.aluR_cmac]
theorem execDspXor_cmac (c d s' t : Nat) (s : State) : Out.cmac s.nvm.cmacKey (execDspXor c d s' t s) = s.nvm.cmacKey := by
  simp only [execDspXor, State.aluR_cmac]
theorem execDspSll_cmac (c d s' t : Nat) (s : State) : Out.cmac s.nvm.cmacKey (execDspSll c d s' t s) = s.nvm.cmacKey := by
  simp only [execDspSll, State.aluR_cmac]
theorem execDspSrl_cmac (c d s' t : Nat) (s : State) : Out.cmac s.nvm.cmacKey (execDspSrl c d s' t s) = s.nvm.cmacKey := by
  simp only [execDspSrl, State.aluR_cmac]
theorem execDspSra_cmac (c d s' t : Nat) (s : State) : Out.cmac s.nvm.cmacKey (execDspSra c d s' t s) = s.nvm.cmacKey := by
  simp only [execDspSra, State.aluR_cmac]
theorem execDspMin_cmac (c d s' t : Nat) (s : State) : Out.cmac s.nvm.cmacKey (execDspMin c d s' t s) = s.nvm.cmacKey := by
  simp only [execDspMin, State.aluR_cmac]
theorem execDspMax_cmac (c d s' t : Nat) (s : State) : Out.cmac s.nvm.cmacKey (execDspMax c d s' t s) = s.nvm.cmacKey := by
  simp only [execDspMax, State.aluR_cmac]
theorem execDspCmplt_cmac (c d s' t : Nat) (s : State) : Out.cmac s.nvm.cmacKey (execDspCmplt c d s' t s) = s.nvm.cmacKey := by
  simp only [execDspCmplt, State.aluR_cmac]
theorem execDspCmpltu_cmac (c d s' t : Nat) (s : State) : Out.cmac s.nvm.cmacKey (execDspCmpltu c d s' t s) = s.nvm.cmacKey := by
  simp only [execDspCmpltu, State.aluR_cmac]
theorem execDspCmpeq_cmac (c d s' t : Nat) (s : State) : Out.cmac s.nvm.cmacKey (execDspCmpeq c d s' t s) = s.nvm.cmacKey := by
  simp only [execDspCmpeq, State.aluR_cmac]
theorem execDspMull_cmac (c d s' t : Nat) (s : State) : Out.cmac s.nvm.cmacKey (execDspMull c d s' t s) = s.nvm.cmacKey := by
  simp only [execDspMull, State.aluR_cmac]
theorem execDspMulh_cmac (c d s' t : Nat) (s : State) : Out.cmac s.nvm.cmacKey (execDspMulh c d s' t s) = s.nvm.cmacKey := by
  simp only [execDspMulh, State.aluR_cmac]
theorem execDspAbs_cmac (c d s' : Nat) (s : State) : Out.cmac s.nvm.cmacKey (execDspAbs c d s' s) = s.nvm.cmacKey := by
  simp only [execDspAbs, State.alu_cmac]
theorem execDspClz_cmac (c d s' : Nat) (s : State) : Out.cmac s.nvm.cmacKey (execDspClz c d s' s) = s.nvm.cmacKey := by
  simp only [execDspClz, State.alu_cmac]
theorem execDspPack_cmac (c d s' t : Nat) (s : State) : Out.cmac s.nvm.cmacKey (execDspPack c d s' t s) = s.nvm.cmacKey := by
  simp only [execDspPack, State.aluR_cmac]
theorem execDspAddi_cmac (c d s' : Nat) (imm : BitVec 14) (s : State) : Out.cmac s.nvm.cmacKey (execDspAddi c d s' imm s) = s.nvm.cmacKey := by
  simp only [execDspAddi, State.aluI_cmac]
theorem execDspAndi_cmac (c d s' : Nat) (imm : BitVec 14) (s : State) : Out.cmac s.nvm.cmacKey (execDspAndi c d s' imm s) = s.nvm.cmacKey := by
  simp only [execDspAndi, State.aluI_cmac]
theorem execDspOri_cmac (c d s' : Nat) (imm : BitVec 14) (s : State) : Out.cmac s.nvm.cmacKey (execDspOri c d s' imm s) = s.nvm.cmacKey := by
  simp only [execDspOri, State.aluI_cmac]
theorem execDspXori_cmac (c d s' : Nat) (imm : BitVec 14) (s : State) : Out.cmac s.nvm.cmacKey (execDspXori c d s' imm s) = s.nvm.cmacKey := by
  simp only [execDspXori, State.aluI_cmac]
theorem execDspSlli_cmac (c d s' : Nat) (imm : BitVec 14) (s : State) : Out.cmac s.nvm.cmacKey (execDspSlli c d s' imm s) = s.nvm.cmacKey := by
  simp only [execDspSlli, State.aluI_cmac]
theorem execDspSrli_cmac (c d s' : Nat) (imm : BitVec 14) (s : State) : Out.cmac s.nvm.cmacKey (execDspSrli c d s' imm s) = s.nvm.cmacKey := by
  simp only [execDspSrli, State.aluI_cmac]
theorem execDspSrai_cmac (c d s' : Nat) (imm : BitVec 14) (s : State) : Out.cmac s.nvm.cmacKey (execDspSrai c d s' imm s) = s.nvm.cmacKey := by
  simp only [execDspSrai, State.aluI_cmac]
theorem execDspCmplti_cmac (c d s' : Nat) (imm : BitVec 14) (s : State) : Out.cmac s.nvm.cmacKey (execDspCmplti c d s' imm s) = s.nvm.cmacKey := by
  simp only [execDspCmplti, State.aluI_cmac]
theorem execDspCmpeqi_cmac (c d s' : Nat) (imm : BitVec 14) (s : State) : Out.cmac s.nvm.cmacKey (execDspCmpeqi c d s' imm s) = s.nvm.cmacKey := by
  simp only [execDspCmpeqi, State.aluI_cmac]
theorem execDspMovl_cmac (c d : Nat) (imm : BitVec 16) (s : State) : Out.cmac s.nvm.cmacKey (execDspMovl c d imm s) = s.nvm.cmacKey := by
  simp only [execDspMovl, State.alu_cmac]
theorem execDspMovh_cmac (c d : Nat) (imm : BitVec 16) (s : State) : Out.cmac s.nvm.cmacKey (execDspMovh c d imm s) = s.nvm.cmacKey := by
  simp only [execDspMovh, State.alu_cmac]
theorem execDspLdw_cmac (c d a mode mc : Nat) (imm : BitVec 10) (err : Nat) (s : State) : Out.cmac s.nvm.cmacKey (execDspLdw c d a mode mc imm err s) = s.nvm.cmacKey := by
  unfold execDspLdw
  refine State.load_cmac _ _ _ _ _ _ _ _ _ (fun t ad => ?_)
  repeat' first | with_reducible rfl | simp only [State.busRead_cmac]
theorem execDspLdh_cmac (c d a mode mc : Nat) (imm : BitVec 10) (err : Nat) (s : State) : Out.cmac s.nvm.cmacKey (execDspLdh c d a mode mc imm err s) = s.nvm.cmacKey := by
  unfold execDspLdh
  refine State.load_cmac _ _ _ _ _ _ _ _ _ (fun t ad => ?_)
  repeat' first | with_reducible rfl | simp only [State.busReadHalf_cmac]
theorem execDspLdhu_cmac (c d a mode mc : Nat) (imm : BitVec 10) (err : Nat) (s : State) : Out.cmac s.nvm.cmacKey (execDspLdhu c d a mode mc imm err s) = s.nvm.cmacKey := by
  unfold execDspLdhu
  refine State.load_cmac _ _ _ _ _ _ _ _ _ (fun t ad => ?_)
  repeat' first | with_reducible rfl | simp only [State.busReadHalf_cmac]
theorem execDspLdd_cmac (c d a mode mc : Nat) (imm : BitVec 10) (err : Nat) (s : State) : Out.cmac s.nvm.cmacKey (execDspLdd c d a mode mc imm err s) = s.nvm.cmacKey := by
  unfold execDspLdd
  refine State.load_cmac _ _ _ _ _ _ _ _ _ (fun t ad => ?_)
  repeat' first | with_reducible rfl | simp only [State.readPair_cmac]
theorem execDspStw_cmac (c d a mode mc : Nat) (imm : BitVec 10) (s : State) : Out.cmac s.nvm.cmacKey (execDspStw c d a mode mc imm s) = s.nvm.cmacKey := by
  unfold execDspStw
  refine State.store_cmac _ _ _ _ _ _ _ _ (fun t ad => ?_)
  repeat' first | with_reducible rfl | simp only [State.busWrite_cmac]
theorem execDspSth_cmac (c d a mode mc : Nat) (imm : BitVec 10) (s : State) : Out.cmac s.nvm.cmacKey (execDspSth c d a mode mc imm s) = s.nvm.cmacKey := by
  unfold execDspSth
  refine State.store_cmac _ _ _ _ _ _ _ _ (fun t ad => ?_)
  repeat' first | with_reducible rfl | simp only [State.busWriteHalf_cmac]
theorem execDspStd_cmac (c d a mode mc : Nat) (imm : BitVec 10) (s : State) : Out.cmac s.nvm.cmacKey (execDspStd c d a mode mc imm s) = s.nvm.cmacKey := by
  unfold execDspStd
  refine State.store_cmac _ _ _ _ _ _ _ _ (fun t ad => ?_)
  repeat' first | with_reducible rfl | simp only [State.writePair_cmac]
theorem execDspQmpy_cmac (c xr : Nat) (xh : Bool) (yp : Nat) (sw : Bool) (neg : Nat) (s : State) : Out.cmac s.nvm.cmacKey (execDspQmpy c xr xh yp sw neg s) = s.nvm.cmacKey := by
  simp only [execDspQmpy, State.alu_cmac]
theorem execDspQmac_cmac (c xr : Nat) (xh : Bool) (yp : Nat) (sw : Bool) (neg : Nat) (s : State) : Out.cmac s.nvm.cmacKey (execDspQmac c xr xh yp sw neg s) = s.nvm.cmacKey := by
  simp only [execDspQmac, State.alu_cmac]
theorem execDspQclr_cmac (c : Nat) (s : State) : Out.cmac s.nvm.cmacKey (execDspQclr c s) = s.nvm.cmacKey := by
  simp only [execDspQclr, State.alu_cmac]
theorem execDspMva_cmac (c g n : Nat) (rnd : Bool) (sh : Nat) (s : State) : Out.cmac s.nvm.cmacKey (execDspMva c g n rnd sh s) = s.nvm.cmacKey := by
  simp only [execDspMva, State.alu_cmac]
theorem execDspMval_cmac (c g n : Nat) (s : State) : Out.cmac s.nvm.cmacKey (execDspMval c g n s) = s.nvm.cmacKey := by
  simp only [execDspMval, State.alu_cmac]
theorem execDspMvah_cmac (c g n : Nat) (s : State) : Out.cmac s.nvm.cmacKey (execDspMvah c g n s) = s.nvm.cmacKey := by
  simp only [execDspMvah, State.alu_cmac]
theorem execDspMvag_cmac (c g n : Nat) (s : State) : Out.cmac s.nvm.cmacKey (execDspMvag c g n s) = s.nvm.cmacKey := by
  simp only [execDspMvag, State.alu_cmac]
theorem execDspMta_cmac (c g n sh : Nat) (s : State) : Out.cmac s.nvm.cmacKey (execDspMta c g n sh s) = s.nvm.cmacKey := by
  simp only [execDspMta, State.alu_cmac]
theorem execDspAdda_cmac (c n m : Nat) (s : State) : Out.cmac s.nvm.cmacKey (execDspAdda c n m s) = s.nvm.cmacKey := by
  simp only [execDspAdda, State.alu_cmac]
theorem execDspSha_cmac (c n : Nat) (left : Bool) (sh : Nat) (s : State) : Out.cmac s.nvm.cmacKey (execDspSha c n left sh s) = s.nvm.cmacKey := by
  simp only [execDspSha, State.alu_cmac]
theorem execDspBra_cmac (c s' : Nat) (off : BitVec 19) (s : State) : Out.cmac s.nvm.cmacKey (execDspBra c s' off s) = s.nvm.cmacKey := by
  simp only [execDspBra, State.branch_cmac]
theorem execDspBeq_cmac (c s' : Nat) (off : BitVec 19) (s : State) : Out.cmac s.nvm.cmacKey (execDspBeq c s' off s) = s.nvm.cmacKey := by
  simp only [execDspBeq, State.branch_cmac]
theorem execDspBne_cmac (c s' : Nat) (off : BitVec 19) (s : State) : Out.cmac s.nvm.cmacKey (execDspBne c s' off s) = s.nvm.cmacKey := by
  simp only [execDspBne, State.branch_cmac]
theorem execDspBlt_cmac (c s' : Nat) (off : BitVec 19) (s : State) : Out.cmac s.nvm.cmacKey (execDspBlt c s' off s) = s.nvm.cmacKey := by
  simp only [execDspBlt, State.branch_cmac]
theorem execDspBge_cmac (c s' : Nat) (off : BitVec 19) (s : State) : Out.cmac s.nvm.cmacKey (execDspBge c s' off s) = s.nvm.cmacKey := by
  simp only [execDspBge, State.branch_cmac]
theorem execDspBgt_cmac (c s' : Nat) (off : BitVec 19) (s : State) : Out.cmac s.nvm.cmacKey (execDspBgt c s' off s) = s.nvm.cmacKey := by
  simp only [execDspBgt, State.branch_cmac]
theorem execDspBle_cmac (c s' : Nat) (off : BitVec 19) (s : State) : Out.cmac s.nvm.cmacKey (execDspBle c s' off s) = s.nvm.cmacKey := by
  simp only [execDspBle, State.branch_cmac]
theorem execDspCall_cmac (c : Nat) (off : BitVec 19) (s : State) : Out.cmac s.nvm.cmacKey (execDspCall c off s) = s.nvm.cmacKey := by
  unfold execDspCall
  refine State.issue_cmac _ _ _ _ (fun t => ?_)
  repeat' first | with_reducible rfl | simp only [State.setCore_cmac]
theorem execDspJr_cmac (c s' : Nat) (s : State) : Out.cmac s.nvm.cmacKey (execDspJr c s' s) = s.nvm.cmacKey := by
  unfold execDspJr
  refine State.issue_cmac _ _ _ _ (fun t => ?_)
  repeat' first | with_reducible rfl | simp only [State.branch_cmac, State.cmac_ite, ite_self, Out.cmac_next, Out.cmac_ite]
theorem execDspJalr_cmac (c s' : Nat) (s : State) : Out.cmac s.nvm.cmacKey (execDspJalr c s' s) = s.nvm.cmacKey := by
  unfold execDspJalr
  refine State.issue_cmac _ _ _ _ (fun t => ?_)
  repeat' first | with_reducible rfl | simp only [State.setCore_cmac]
theorem execDspRti_cmac (c : Nat) (s : State) : Out.cmac s.nvm.cmacKey (execDspRti c s) = s.nvm.cmacKey := by
  unfold execDspRti
  refine State.issue_cmac _ _ _ _ (fun t => ?_)
  repeat' first | with_reducible rfl | simp only [State.setCore_cmac]
theorem execDspNop_cmac (c : Nat) (s : State) : Out.cmac s.nvm.cmacKey (execDspNop c s) = s.nvm.cmacKey := by
  simp only [execDspNop, State.alu_cmac]
theorem execDspIdle_cmac (c : Nat) (s : State) : Out.cmac s.nvm.cmacKey (execDspIdle c s) = s.nvm.cmacKey := by
  unfold execDspIdle
  refine State.issue_cmac _ _ _ _ (fun t => ?_)
  repeat' first | with_reducible rfl
theorem execDspEi_cmac (c : Nat) (s : State) : Out.cmac s.nvm.cmacKey (execDspEi c s) = s.nvm.cmacKey := by
  unfold execDspEi
  refine State.issue_cmac _ _ _ _ (fun t => ?_)
  repeat' first | with_reducible rfl | simp only [State.modCore_cmac]
theorem execDspDi_cmac (c : Nat) (s : State) : Out.cmac s.nvm.cmacKey (execDspDi c s) = s.nvm.cmacKey := by
  simp only [execDspDi, State.alu_cmac]
theorem execDspCsrr_cmac (c g n : Nat) (s : State) : Out.cmac s.nvm.cmacKey (execDspCsrr c g n s) = s.nvm.cmacKey := by
  unfold execDspCsrr
  refine State.issue_cmac _ _ _ _ (fun t => ?_)
  repeat' first | with_reducible rfl | simp only [State.modCore_cmac] | split
theorem execDspCsrw_cmac (c g n : Nat) (s : State) : Out.cmac s.nvm.cmacKey (execDspCsrw c g n s) = s.nvm.cmacKey := by
  unfold execDspCsrw
  refine State.issue_cmac _ _ _ _ (fun t => ?_)
  repeat' first | with_reducible rfl | simp only [State.withLines_cmac] | split
theorem execDspTrap_cmac (c : Nat) (s : State) : Out.cmac s.nvm.cmacKey (execDspTrap c s) = s.nvm.cmacKey := by
  unfold execDspTrap
  refine State.issue_cmac _ _ _ _ (fun t => ?_)
  repeat' first | with_reducible rfl
theorem execDspSync_cmac (c : Nat) (s : State) : Out.cmac s.nvm.cmacKey (execDspSync c s) = s.nvm.cmacKey := by
  simp only [execDspSync, State.alu_cmac]
theorem execDspRepeat_cmac (c : Nat) (src : Option Nat) (n1 : Nat) (s : State) : Out.cmac s.nvm.cmacKey (execDspRepeat c src n1 s) = s.nvm.cmacKey := by
  unfold execDspRepeat
  refine State.issue_cmac _ _ _ _ (fun t => ?_)
  repeat' first | with_reducible rfl
theorem execDspLoop_cmac (c : Nat) (src : Option Nat) (len1 n1 : Nat) (s : State) : Out.cmac s.nvm.cmacKey (execDspLoop c src len1 n1 s) = s.nvm.cmacKey := by
  unfold execDspLoop
  dsimp only
  split
  · rfl
  · exact State.issue_cmac _ _ _ _ (fun t => rfl)

/-! ## Amp -/

@[simp] theorem State.ampSend_cmac (s : State) (r : AmpReq) (m : List Byte) : (State.ampSend s r m).nvm.cmacKey = s.nvm.cmacKey := by
  simp only [State.ampSend]
  repeat' first | with_reducible rfl | simp only [State.arpAsk_cmac, State.ethSend_cmac, State.raise_cmac, State.sidePush_cmac, State.withAmp_cmac, State.withRst_cmac, State.cmac_ite, ite_self] | split
@[simp] theorem State.ampAnswer_cmac (s : State) (r : AmpReq) (status : Nat) (pay : List Byte) : (State.ampAnswer s r status pay).nvm.cmacKey = s.nvm.cmacKey := by
  simp only [State.ampAnswer, State.ampSend_cmac, State.incSat_cmac, State.cmac_ite, ite_self]
@[simp] theorem State.ampSettle_cmac (n : Nat) (s : State) : (State.ampSettle n s).nvm.cmacKey = s.nvm.cmacKey := by
  induction n generalizing s with
  | zero => rfl
  | succ n ih =>
    unfold State.ampSettle
    split
    · rfl
    · split
      · rfl
      · split
        · rfl
        · dsimp only
          rw [ih]
          split
          · rw [State.ampSend_cmac, State.withAmp_cmac]
          · rw [State.ampAnswer_cmac, State.withAmp_cmac]
@[simp] theorem State.ampGo_cmac (s : State) : (State.ampGo s).nvm.cmacKey = s.nvm.cmacKey := by
  simp only [State.ampGo, State.ampSettle_cmac]
theorem execParkExit_cmac (s : State) : Out.cmac s.nvm.cmacKey (execParkExit s) = s.nvm.cmacKey := by
  simp only [execParkExit, State.ampGo_cmac, State.logEvent_cmac, State.toState_cmac, ite_self, Out.cmac_next, Out.cmac_ite]
  repeat' first | with_reducible rfl | simp only [State.coreStart_cmac, State.eyeRestart_cmac, State.setB_cmac, State.toState_cmac, State.withParkWake_cmac, State.withPins_cmac, State.cmac_ite, ite_self] | split | refine (foldl_cmac _ (fun s x => ?_) _ _).trans ?_
@[simp] theorem State.ampDrop_cmac (s : State) (counter : Fld) : (State.ampDrop s counter).nvm.cmacKey = s.nvm.cmacKey := by
  simp only [State.ampDrop, State.incSat_cmac, State.raise_cmac]
@[simp] theorem State.ampAdmit_cmac (s : State) (r : AmpReq) : (State.ampAdmit s r).nvm.cmacKey = s.nvm.cmacKey := by
  simp only [State.ampAdmit, State.ampDrop_cmac, State.ampGo_cmac, State.withAmp_cmac, State.cmac_ite, ite_self]
@[simp] theorem State.ampArrive_cmac (s : State) (src : AmpSrc) (port sport : Nat) (m : List Byte) : (State.ampArrive s src port sport m).nvm.cmacKey = s.nvm.cmacKey := by
  simp only [State.ampArrive, State.ampAdmit_cmac, State.incSat_cmac, State.cmac_ite, ite_self]
theorem execAmpEthDatagram_cmac (p : Nat) (s : State) (par : Bool) : Out.cmac s.nvm.cmacKey (execAmpEthDatagram p s par) = s.nvm.cmacKey := by
  simp only [execAmpEthDatagram, Out.cmac_next, Out.cmac_ite]
  repeat' first | with_reducible rfl | simp only [State.ampArrive_cmac, State.incSat_cmac, State.qstat_cmac, State.raise_cmac, State.setEth_cmac, ite_self, Out.cmac_next, Out.cmac_ite] | split
@[simp] theorem State.ampWake_cmac (s : State) (m : List Byte) : (State.ampWake s m).nvm.cmacKey = s.nvm.cmacKey := by
  simp only [State.ampWake, State.withParkWake_cmac, State.cmac_ite, ite_self]
theorem execAmpDwlSideband_cmac (lane : Nat) (ws : List Word) (crcOk : Bool) (s : State) : Out.cmac s.nvm.cmacKey (execAmpDwlSideband lane ws crcOk s) = s.nvm.cmacKey := by
  simp only [execAmpDwlSideband, State.ampArrive_cmac, State.ampWake_cmac, State.incSat_cmac, State.raise_cmac, ite_self, Out.cmac_next, Out.cmac_ite]
theorem execMspiWrite_cmac (m : List Byte) (crc : Word) (s : State) : Out.cmac s.nvm.cmacKey (execMspiWrite m crc s) = s.nvm.cmacKey := by
  simp only [execMspiWrite, State.ampArrive_cmac, State.ampWake_cmac, State.incSat_cmac, ite_self, Out.cmac_next, Out.cmac_ite]
theorem execMspiRead_cmac (all : Bool) (s : State) : Out.cmac s.nvm.cmacKey (execMspiRead all s) = s.nvm.cmacKey := by
  simp only [execMspiRead, State.withAmp_cmac, State.cmac_ite, ite_self, Out.cmac_next]
theorem execMspiStatus_cmac (s : State) : Out.cmac s.nvm.cmacKey (execMspiStatus s) = s.nvm.cmacKey := by
  simp only [execMspiStatus, Out.cmac_next]
theorem execAmpWindowEnd_cmac (src : AmpSrc) (s : State) : Out.cmac s.nvm.cmacKey (execAmpWindowEnd src s) = s.nvm.cmacKey := by
  simp only [execAmpWindowEnd, State.withAmp_cmac, Out.cmac_next]
theorem State.ampExec_cmac (s : State) (cmd : Nat) (legal : AmpReq → Bool) (body : State → AmpReq → State) (hb : ∀ t r, (body t r).nvm.cmacKey = t.nvm.cmacKey) :
    Out.cmac s.nvm.cmacKey (s.ampExec cmd legal body) = s.nvm.cmacKey := by
  unfold State.ampExec
  split
  · rfl
  · split
    · rfl
    · split
      · rfl
      · dsimp only
        split
        · simp only [Out.cmac_next, State.ampGo_cmac, State.ampSend_cmac, State.withAmp_cmac]
        · simp only [Out.cmac_next, State.ampGo_cmac]
          split
          · exact (hb _ _).trans (State.withAmp_cmac _ _)
          · exact (State.ampAnswer_cmac _ _ _ _).trans (State.withAmp_cmac _ _)
@[simp] theorem State.ampReads_cmac (n : Nat) (s : State) (a : Nat) (errs : List Nat) : (State.ampReads n s a errs).1.nvm.cmacKey = s.nvm.cmacKey := by
  induction n generalizing s a errs with
  | zero => rfl
  | succ n ih =>
    unfold State.ampReads
    generalize (if blockAt a = true then 0 else errs.headD 0) = e
    dsimp only
    split
    · exact State.memErr_cmac _ _ _ _
    · exact (ih _ _ _).trans ((State.readWord_cmac _ _).trans (State.memErr_cmac _ _ _ _))
@[simp] theorem State.ampGet_cmac (s : State) (r : AmpReq) (errs : List Nat) : (State.ampGet s r errs).nvm.cmacKey = s.nvm.cmacKey := by
  simp only [State.ampGet, State.ampAnswer_cmac, State.ampReads_cmac, State.cmac_ite, ite_self]
theorem execGet_cmac (errs : List Nat) (s : State) : Out.cmac s.nvm.cmacKey (execGet errs s) = s.nvm.cmacKey := by
  unfold execGet
  refine State.ampExec_cmac _ _ _ _ (fun t r => ?_)
  repeat' first | with_reducible rfl | simp only [State.ampGet_cmac]
@[simp] theorem State.ampPut_cmac (s : State) (t : Nat × Word × Word) : (State.ampPut s t).nvm.cmacKey = s.nvm.cmacKey := by
  simp only [State.ampPut, State.writeWord_cmac]
@[simp] theorem State.ampSet_cmac (s : State) (r : AmpReq) : (State.ampSet s r).nvm.cmacKey = s.nvm.cmacKey := by
  simp only [State.ampSet, State.ampAnswer_cmac, State.cmac_ite]
  repeat' first | with_reducible rfl | simp only [State.ampPut_cmac] | split | refine (foldl_cmac _ (fun s x => ?_) _ _).trans ?_
theorem execSet_cmac (s : State) : Out.cmac s.nvm.cmacKey (execSet s) = s.nvm.cmacKey := by
  unfold execSet
  refine State.ampExec_cmac _ _ _ _ (fun t r => ?_)
  repeat' first | with_reducible rfl | simp only [State.ampSet_cmac]
@[simp] theorem State.ampLog_cmac (s : State) (r : AmpReq) : (State.ampLog s r).nvm.cmacKey = s.nvm.cmacKey := by
  simp only [State.ampLog, State.ampAnswer_cmac, State.cmac_ite, ite_self]
theorem execLogRead_cmac (s : State) : Out.cmac s.nvm.cmacKey (execLogRead s) = s.nvm.cmacKey := by
  unfold execLogRead
  refine State.ampExec_cmac _ _ _ _ (fun t r => ?_)
  repeat' first | with_reducible rfl | simp only [State.ampLog_cmac]
@[simp] theorem State.ampCask_cmac (s : State) (r : AmpReq) : (State.ampCask s r).nvm.cmacKey = s.nvm.cmacKey := by
  simp only [State.ampCask, State.ampAnswer_cmac, State.cmac_ite, ite_self]
theorem execCaskInfo_cmac (s : State) : Out.cmac s.nvm.cmacKey (execCaskInfo s) = s.nvm.cmacKey := by
  unfold execCaskInfo
  refine State.ampExec_cmac _ _ _ _ (fun t r => ?_)
  repeat' first | with_reducible rfl | simp only [State.ampCask_cmac]
@[simp] theorem State.ampStart_cmac (s : State) (r : AmpReq) : (State.ampStart s r).nvm.cmacKey = s.nvm.cmacKey := by
  simp only [State.ampStart, State.ampAnswer_cmac, State.endSession_cmac, State.setB_cmac, State.cmac_ite, ite_self]
theorem execStart_cmac (s : State) : Out.cmac s.nvm.cmacKey (execStart s) = s.nvm.cmacKey := by
  unfold execStart
  refine State.ampExec_cmac _ _ _ _ (fun t r => ?_)
  repeat' first | with_reducible rfl | simp only [State.ampStart_cmac]
@[simp] theorem State.ampStop_cmac (s : State) (r : AmpReq) : (State.ampStop s r).nvm.cmacKey = s.nvm.cmacKey := by
  simp only [State.ampStop, State.ampAnswer_cmac, State.pllaFollow_cmac, State.cmac_ite]
  repeat' first | with_reducible rfl | simp only [State.setB_cmac, State.toState_cmac, State.withScan_cmac, State.cmac_ite, ite_self] | split
theorem execStop_cmac (s : State) : Out.cmac s.nvm.cmacKey (execStop s) = s.nvm.cmacKey := by
  unfold execStop
  refine State.ampExec_cmac _ _ _ _ (fun t r => ?_)
  repeat' first | with_reducible rfl | simp only [State.ampStop_cmac]
@[simp] theorem State.ampPark_cmac (s : State) (r : AmpReq) : (State.ampPark s r).nvm.cmacKey = s.nvm.cmacKey := by
  simp only [State.ampPark, State.ampAnswer_cmac, State.endSession_cmac, State.setB_cmac, State.withRst_cmac, State.withScan_cmac, State.cmac_ite, ite_self]
theorem execPark_cmac (s : State) : Out.cmac s.nvm.cmacKey (execPark s) = s.nvm.cmacKey := by
  unfold execPark
  refine State.ampExec_cmac _ _ _ _ (fun t r => ?_)
  repeat' first | with_reducible rfl | simp only [State.ampPark_cmac]
@[simp] theorem State.ampResetCmd_cmac (s : State) (r : AmpReq) : (State.ampResetCmd s r).nvm.cmacKey = s.nvm.cmacKey := by
  simp only [State.ampResetCmd, State.ampAnswer_cmac, State.withRst_cmac, State.cmac_ite, ite_self]
theorem execReset_cmac (s : State) : Out.cmac s.nvm.cmacKey (execReset s) = s.nvm.cmacKey := by
  unfold execReset
  refine State.ampExec_cmac _ _ _ _ (fun t r => ?_)
  repeat' first | with_reducible rfl | simp only [State.ampResetCmd_cmac]
theorem execAmpResetEffect_cmac (s : State) : Out.cmac s.nvm.cmacKey (execAmpResetEffect s) = s.nvm.cmacKey := by
  simp only [execAmpResetEffect, State.raiseReset_cmac, State.cmac_ite, ite_self, Out.cmac_next]
@[simp] theorem State.ampAuth_cmac (s : State) (r : AmpReq) : (State.ampAuth s r).nvm.cmacKey = s.nvm.cmacKey := by
  simp only [State.ampAuth, State.ampAnswer_cmac, State.endSession_cmac, State.fresh_cmac, State.raise_cmac, State.raiseIf_cmac, State.withAmp_cmac, State.cmac_ite, ite_self]
theorem execAuth_cmac (s : State) : Out.cmac s.nvm.cmacKey (execAuth s) = s.nvm.cmacKey := by
  unfold execAuth
  refine State.ampExec_cmac _ _ _ _ (fun t r => ?_)
  repeat' first | with_reducible rfl | simp only [State.ampAuth_cmac]
theorem State.ampChange_cmac (s : State) (op : Nat) (inOrder : Bool) (body : State → AmpReq → Nat → State) (hb : ∀ t r u, (body t r u).nvm.cmacKey = t.nvm.cmacKey) :
    Out.cmac s.nvm.cmacKey (s.ampChange op inOrder body) = s.nvm.cmacKey := by
  unfold State.ampChange
  split
  · rfl
  · split
    · rfl
    · refine State.ampExec_cmac _ _ _ _ (fun t r => ?_)
      split
      · exact State.ampAnswer_cmac _ _ _ _
      · dsimp only
        split
        · exact (State.ampAnswer_cmac _ _ _ _).trans (State.withAmp_cmac _ _)
        · exact (hb _ _ _).trans (State.withAmp_cmac _ _)
theorem execGuardChangeBegin_cmac (s : State) : Out.cmac s.nvm.cmacKey (execGuardChangeBegin s) = s.nvm.cmacKey := by
  unfold execGuardChangeBegin
  repeat' first | with_reducible rfl | refine State.ampChange_cmac _ _ _ _ (fun t r u => ?_) | simp only [State.ampAnswer_cmac, State.changeBegin_cmac, Out.cmac_next, Out.cmac_ite] | split
@[simp] theorem State.changeData_cmac (s : State) (r : AmpReq) : (State.changeData s r).nvm.cmacKey = s.nvm.cmacKey := by
  simp only [State.changeData, State.ampAnswer_cmac, State.cmac_ite]
  repeat' first | with_reducible rfl | simp only [State.ampAnswer_cmac, State.changeWord_cmac, State.setB_cmac, State.cmac_ite, ite_self] | split | refine (foldl_cmac _ (fun s x => ?_) _ _).trans ?_
theorem execGuardChangeData_cmac (s : State) : Out.cmac s.nvm.cmacKey (execGuardChangeData s) = s.nvm.cmacKey := by
  unfold execGuardChangeData
  refine State.ampChange_cmac _ _ _ _ (fun t r u => ?_)
  repeat' first | with_reducible rfl | simp only [State.changeData_cmac]
theorem execGuardChangeCommit_cmac (s : State) : Out.cmac s.nvm.cmacKey (execGuardChangeCommit s) = s.nvm.cmacKey := by
  unfold execGuardChangeCommit
  refine State.ampChange_cmac _ _ _ _ (fun t r u => ?_)
  repeat' first | with_reducible rfl | simp only [State.changeCommit_cmac, State.withAmp_cmac]
theorem execGuardChangeAbort_cmac (s : State) : Out.cmac s.nvm.cmacKey (execGuardChangeAbort s) = s.nvm.cmacKey := by
  unfold execGuardChangeAbort
  refine State.ampChange_cmac _ _ _ _ (fun t r u => ?_)
  repeat' first | with_reducible rfl | simp only [State.ampAnswer_cmac, State.changeAbort_cmac, State.withAmp_cmac, State.cmac_ite, ite_self]
theorem execGuardSessionTimeout_cmac (s : State) : Out.cmac s.nvm.cmacKey (execGuardSessionTimeout s) = s.nvm.cmacKey := by
  simp only [execGuardSessionTimeout, State.endSession_cmac, State.cmac_ite, ite_self, Out.cmac_next]
theorem execAuthLockoutEnd_cmac (s : State) : Out.cmac s.nvm.cmacKey (execAuthLockoutEnd s) = s.nvm.cmacKey := by
  simp only [execAuthLockoutEnd, State.withAmp_cmac, State.cmac_ite, ite_self, Out.cmac_next]

/-! ## Nvm -/

theorem Nvm.store_cmac (n : Nvm) (w : NvmWrite) : (n.store w).cmacKey = n.cmacKey := by
  unfold Nvm.store
  split <;> rfl
@[simp] theorem State.changeReply_cmac (s : State) : (State.changeReply s).nvm.cmacKey = s.nvm.cmacKey := by
  simp only [State.changeReply]
  repeat' first | with_reducible rfl | simp only [State.ampAnswer_cmac, State.ampGo_cmac, State.changeCommitted_cmac, State.withAmp_cmac, State.cmac_ite, ite_self] | split
@[simp] theorem State.nvmFollow_cmac (s : State) (w : NvmWrite) (wrap : Bool) : (State.nvmFollow s w wrap).nvm.cmacKey = s.nvm.cmacKey := by
  simp only [State.nvmFollow]
  repeat' first | with_reducible rfl | simp only [State.changeReply_cmac, State.raise_cmac, State.raiseIf_cmac, State.cmac_ite, ite_self] | split
@[simp] theorem State.nvmDone_cmac (s : State) (w : NvmWrite) : (State.nvmDone s w).nvm.cmacKey = s.nvm.cmacKey := by
  simp only [State.nvmDone]
  repeat' first | with_reducible rfl | simp only [State.applyDone_cmac, State.nvmFollow_cmac, State.withNvm_cmac, Nvm.store_cmac] | split
theorem execNvmWriteDone_cmac (fail : Bool) (s : State) : Out.cmac s.nvm.cmacKey (execNvmWriteDone fail s) = s.nvm.cmacKey := by
  simp only [execNvmWriteDone]
  repeat' first | with_reducible rfl | simp only [State.nvmDone_cmac, State.nvmKick_cmac, State.raise_cmac, State.withNvm_cmac, ite_self, Out.cmac_next, Out.cmac_ite] | split

/-! ## Reset -/

theorem Nvm.atReset_cmac (n : Nvm) (hot : Bool) : (n.atReset hot).cmacKey = n.cmacKey := by
  unfold Nvm.atReset
  dsimp only
  split
  · exact Nvm.store_cmac _ _
  · rfl
@[simp] theorem State.resetTo_cmac (s : State) (level : Nat) (pll hot : Bool) : (State.resetTo s level pll hot).nvm.cmacKey = s.nvm.cmacKey := by
  simp only [State.resetTo, State.setB_cmac, State.setF_cmac, Nvm.atReset_cmac, State.cmac_ite, ite_self]
@[simp] theorem State.lastReset_cmac (s : State) (src level : Nat) : (State.lastReset s src level).nvm.cmacKey = s.nvm.cmacKey := by
  simp only [State.lastReset, State.setF_cmac]
@[simp] theorem State.railsDown_cmac (s : State) : (State.railsDown s).nvm.cmacKey = s.nvm.cmacKey := by
  simp only [State.railsDown, State.setF_cmac, State.withRst_cmac]
@[simp] theorem State.performDeep_cmac (s : State) (level src srcs : Nat) : (State.performDeep s level src srcs).nvm.cmacKey = s.nvm.cmacKey := by
  simp only [State.performDeep, State.incMod_cmac, State.lastReset_cmac, State.railsDown_cmac, State.resetTo_cmac, State.withRst_cmac, State.cmac_ite, ite_self]
@[simp] theorem State.dropHist_cmac (s : State) (c : Nat) : (State.dropHist s c).nvm.cmacKey = s.nvm.cmacKey := by
  simp only [State.dropHist]
  repeat' first | with_reducible rfl | simp only [State.columnDone_cmac, State.lauOutcome_cmac, State.outcome_cmac, State.withHists_cmac, State.wortDone_cmac] | split
@[simp] theorem State.clusterReset_cmac (s : State) (k : Nat) : (State.clusterReset s k).nvm.cmacKey = s.nvm.cmacKey := by
  simp only [State.clusterReset]
  repeat' first | with_reducible rfl | simp only [State.dropHist_cmac, State.rset_cmac, State.setChan_cmac, State.setCluster_cmac, State.withLau_cmac, State.withTun_cmac] | split | refine (foldl_cmac _ (fun s x => ?_) _ _).trans ?_
@[simp] theorem State.performL2_cmac (s : State) (t : L2Target) : (State.performL2 s t).nvm.cmacKey = s.nvm.cmacKey := by
  simp only [State.performL2, State.cmac_ite]
  repeat' first | with_reducible rfl | simp only [State.clusterReset_cmac, State.dmaReset_cmac, State.dspReset_cmac, State.dwlReset_cmac, State.ethReset_cmac, State.timeInvalid_cmac, State.withAmp_cmac, State.withRst_cmac, State.cmac_ite, ite_self] | split
@[simp] theorem State.releaseOne_cmac (s : State) (t : L2Target) : (State.releaseOne s t).nvm.cmacKey = s.nvm.cmacKey := by
  simp only [State.releaseOne, State.cmac_ite]
  repeat' first | with_reducible rfl | simp only [State.coreStart_cmac, State.modCore_cmac, State.rset_cmac, State.withRst_cmac, State.cmac_ite, ite_self] | split
@[simp] theorem State.releaseL2_cmac (s : State) (t : L2Target) : (State.releaseL2 s t).nvm.cmacKey = s.nvm.cmacKey := by
  simp only [State.releaseL2]
  repeat' first | with_reducible rfl | simp only [State.releaseOne_cmac, State.withRst_cmac] | split | refine (foldl_cmac _ (fun s x => ?_) _ _).trans ?_
@[simp] theorem State.resetCauses_cmac (s : State) : (State.resetCauses s).nvm.cmacKey = s.nvm.cmacKey := by
  simp only [State.resetCauses, State.withRst_cmac]
  repeat' first | with_reducible rfl | simp only [State.raise_cmac] | split | refine (foldl_cmac _ (fun s x => ?_) _ _).trans ?_
@[simp] theorem State.noteDma_cmac (s : State) (run : List (Nat × Nat × List L2Target)) : (State.noteDma s run).nvm.cmacKey = s.nvm.cmacKey := by
  simp only [State.noteDma, State.withRst_cmac, State.cmac_ite, ite_self]
@[simp] theorem State.resetRun_cmac (s : State) (acts : List (Nat × Nat × List L2Target)) : (State.resetRun s acts).nvm.cmacKey = s.nvm.cmacKey := by
  simp only [State.resetRun]
  repeat' first | with_reducible rfl | simp only [State.lastReset_cmac, State.noteDma_cmac, State.performDeep_cmac, State.performL2_cmac, State.withRst_cmac, State.cmac_ite, ite_self] | split | refine (foldl_cmac _ (fun s x => ?_) _ _).trans ?_
theorem execResetAssert_cmac (s : State) : Out.cmac s.nvm.cmacKey (execResetAssert s) = s.nvm.cmacKey := by
  simp only [execResetAssert, State.resetCauses_cmac, State.resetRun_cmac, State.withRst_cmac, ite_self, Out.cmac_next, Out.cmac_ite]
@[simp] theorem State.releaseDeep_cmac (s : State) (rstn : Bool) (straps : List (BitVec 6)) : (State.releaseDeep s rstn straps).nvm.cmacKey = s.nvm.cmacKey := by
  simp only [State.releaseDeep, State.logEvent_cmac, State.rset_cmac, State.withRst_cmac]
theorem execResetRelease_cmac (tgt : Nat) (rstn : Bool) (straps : List (BitVec 6)) (s : State) : Out.cmac s.nvm.cmacKey (execResetRelease tgt rstn straps s) = s.nvm.cmacKey := by
  simp only [execResetRelease]
  repeat' first | with_reducible rfl | simp only [State.releaseDeep_cmac, State.releaseL2_cmac, State.cmac_ite, ite_self, Out.cmac_next] | split
theorem execVinRise_cmac (s : State) : Out.cmac s.nvm.cmacKey (execVinRise s) = s.nvm.cmacKey := by
  simp only [execVinRise, State.incMod_cmac, State.setB_cmac, State.withRst_cmac, State.cmac_ite, ite_self, Out.cmac_next, Out.cmac_ite]
theorem execBrownout_cmac (s : State) : Out.cmac s.nvm.cmacKey (execBrownout s) = s.nvm.cmacKey := by
  simp only [execBrownout, State.raiseReset_cmac, State.setB_cmac, State.cmac_ite, ite_self, Out.cmac_next]
theorem execPor_cmac (vbat : Bool) (s : State) : Out.cmac s.nvm.cmacKey (execPor vbat s) = s.nvm.cmacKey := by
  simp only [execPor, State.setB_cmac, State.setF_cmac, State.withRst_cmac, Nvm.atReset_cmac, State.cmac_ite, ite_self, Out.cmac_next, Out.cmac_ite]
@[simp] theorem State.setGood_cmac (s : State) (r : Nat) (p : Bool) : (State.setGood s r p).nvm.cmacKey = s.nvm.cmacKey := by
  simp only [State.setGood, State.setF_cmac]
theorem execRailGood_cmac (r : Nat) (s : State) : Out.cmac s.nvm.cmacKey (execRailGood r s) = s.nvm.cmacKey := by
  simp only [execRailGood, Out.cmac_next, Out.cmac_ite]
  repeat' first | with_reducible rfl | simp only [State.setGood_cmac, State.withRst_cmac, ite_self, Out.cmac_next, Out.cmac_ite] | split
theorem execRailFailure_cmac (r : Nat) (s : State) : Out.cmac s.nvm.cmacKey (execRailFailure r s) = s.nvm.cmacKey := by
  simp only [execRailFailure, State.railsDown_cmac, State.raise_cmac, State.raiseReset_cmac, State.setF_cmac, State.setGood_cmac, State.withRst_cmac, State.cmac_ite, ite_self, Out.cmac_next, Out.cmac_ite]
@[simp] theorem State.xtFail_cmac (s : State) : (State.xtFail s).nvm.cmacKey = s.nvm.cmacKey := by
  simp only [State.xtFail, State.enterSafe_cmac, State.raise_cmac, State.setB_cmac, State.withRst_cmac, State.cmac_ite, ite_self]
theorem execXt32Qualified_cmac (s : State) : Out.cmac s.nvm.cmacKey (execXt32Qualified s) = s.nvm.cmacKey := by
  simp only [execXt32Qualified, State.setB_cmac, State.withRst_cmac, State.cmac_ite, ite_self, Out.cmac_next]
theorem execXt32Fail_cmac (s : State) : Out.cmac s.nvm.cmacKey (execXt32Fail s) = s.nvm.cmacKey := by
  simp only [execXt32Fail, State.xtFail_cmac, State.cmac_ite, ite_self, Out.cmac_next]
theorem execXt32Timeout_cmac (s : State) : Out.cmac s.nvm.cmacKey (execXt32Timeout s) = s.nvm.cmacKey := by
  simp only [execXt32Timeout, State.xtFail_cmac, State.cmac_ite, ite_self, Out.cmac_next]
theorem execRstNLow_cmac (s : State) : Out.cmac s.nvm.cmacKey (execRstNLow s) = s.nvm.cmacKey := by
  simp only [execRstNLow, State.raiseReset_cmac, State.withRst_cmac, State.cmac_ite, ite_self, Out.cmac_next]
theorem execRstNStuck_cmac (s : State) : Out.cmac s.nvm.cmacKey (execRstNStuck s) = s.nvm.cmacKey := by
  simp only [execRstNStuck, State.logEvent_cmac, State.setB_cmac, ite_self, Out.cmac_next, Out.cmac_ite]
theorem execRstNRearm_cmac (s : State) : Out.cmac s.nvm.cmacKey (execRstNRearm s) = s.nvm.cmacKey := by
  simp only [execRstNRearm, State.setB_cmac, State.withRst_cmac, State.cmac_ite, ite_self, Out.cmac_next]

/-! ## Pins -/

theorem execBoundaryScanInstruction_cmac (i : Nat) (s : State) (ins dr : BitVec 52) : Out.cmac s.nvm.cmacKey (execBoundaryScanInstruction i s ins dr) = s.nvm.cmacKey := by
  simp only [execBoundaryScanInstruction, State.withPins_cmac, ite_self, Out.cmac_next, Out.cmac_ite]

/-! ## Boot -/

@[simp] theorem State.pinTestKick_cmac (s : State) : (State.pinTestKick s).nvm.cmacKey = s.nvm.cmacKey := by
  simp only [State.pinTestKick, State.pinTestStart_cmac, State.withRst_cmac, State.cmac_ite, ite_self]
@[simp] theorem State.pinResult_cmac (s : State) (fails : List Nat) : (State.pinResult s fails).nvm.cmacKey = s.nvm.cmacKey := by
  simp only [State.pinResult, State.incMod_cmac, State.logEvent_cmac, State.raiseIf_cmac, State.setB_cmac, State.setF_cmac, State.soutFault_cmac, State.withPins_cmac, State.cmac_ite, ite_self]
@[simp] theorem State.slotError_cmac (s : State) (slot reason sec : Nat) : (State.slotError s slot reason sec).nvm.cmacKey = s.nvm.cmacKey := by
  simp only [State.slotError, State.rset_cmac]
@[simp] theorem State.slotFail_cmac (s : State) (slot reason sec : Nat) : (State.slotFail s slot reason sec).nvm.cmacKey = s.nvm.cmacKey := by
  simp only [State.slotFail, State.slotError_cmac, State.withRst_cmac]
@[simp] theorem State.leaveBoot_cmac (s : State) : (State.leaveBoot s).nvm.cmacKey = s.nvm.cmacKey := by
  simp only [State.leaveBoot, State.laneRates_cmac, State.logEvent_cmac, State.prpCommit_cmac, State.setF_cmac, State.toState_cmac, State.withRst_cmac, State.cmac_ite, ite_self]
@[simp] theorem State.bootEnd_cmac (s : State) : (State.bootEnd s).nvm.cmacKey = s.nvm.cmacKey := by
  simp only [State.bootEnd, State.leaveBoot_cmac, State.cmac_ite, ite_self]
@[simp] theorem State.noSlot_cmac (s : State) : (State.noSlot s).nvm.cmacKey = s.nvm.cmacKey := by
  simp only [State.noSlot, State.bootEnd_cmac, State.logEvent_cmac, State.setB_cmac, State.setF_cmac, State.withRst_cmac]
theorem execPinTestDone_cmac (steps : List (BitVec 22)) (offs cross : BitVec 2) (s : State) : Out.cmac s.nvm.cmacKey (execPinTestDone steps offs cross s) = s.nvm.cmacKey := by
  simp only [execPinTestDone, State.bootEnd_cmac, State.enterSafe_cmac, State.parkEnter_cmac, State.pinResult_cmac, State.withParkWake_cmac, ite_self, Out.cmac_next, Out.cmac_ite]
@[simp] theorem State.nextSlot_cmac (s : State) : (State.nextSlot s).nvm.cmacKey = s.nvm.cmacKey := by
  simp only [State.nextSlot]
  repeat' first | with_reducible rfl | simp only [State.incSat_cmac, State.noSlot_cmac, State.slotFail_cmac, State.withRst_cmac] | split
@[simp] theorem State.headRead_cmac (s : State) (k : Nat) : (State.headRead s k).nvm.cmacKey = s.nvm.cmacKey := by
  simp only [State.headRead, State.slotError_cmac, State.withRst_cmac, State.cmac_ite, ite_self]
@[simp] theorem State.imageStart_cmac (s : State) : (State.imageStart s).nvm.cmacKey = s.nvm.cmacKey := by
  simp only [State.imageStart, State.withRst_cmac]
  repeat' first | with_reducible rfl | simp only [State.nextSlot_cmac, State.slotError_cmac, State.withRst_cmac, foldl_cmac, State.cmac_ite, ite_self] | split | refine (foldl_cmac _ (fun s x => ?_) _ _).trans ?_
@[simp] theorem State.headsDone_cmac (s : State) (l : List Nat) : (State.headsDone s l).nvm.cmacKey = s.nvm.cmacKey := by
  simp only [State.headsDone, State.nextSlot_cmac]
  repeat' first | with_reducible rfl | simp only [State.headRead_cmac] | split | refine (foldl_cmac _ (fun s x => ?_) _ _).trans ?_
@[simp] theorem State.optionRegs_cmac (s : State) (p : Option (List Word)) (blank safe : Bool) : (State.optionRegs s p blank safe).nvm.cmacKey = s.nvm.cmacKey := by
  simp only [State.optionRegs, State.setB_cmac, State.setF_cmac, State.cmac_ite, ite_self]
@[simp] theorem State.optionTake_cmac (s : State) (p : Option (List Word)) : (State.optionTake s p).nvm.cmacKey = s.nvm.cmacKey := by
  simp only [State.optionTake, State.setB_cmac, State.withRst_cmac, State.cmac_ite, ite_self]
@[simp] theorem State.optionsTake_cmac (s : State) (p : Option (List Word)) (blank safe : Bool) : (State.optionsTake s p blank safe).nvm.cmacKey = s.nvm.cmacKey := by
  simp only [State.optionsTake, State.enterSafe_cmac, State.imageStart_cmac, State.logEvent_cmac, State.nvmKick_cmac, State.optionRegs_cmac, State.optionTake_cmac, State.pinTestKick_cmac, State.cmac_ite, ite_self]
theorem execOptionLoadDone_cmac (read : Option (List Word)) (s : State) : Out.cmac s.nvm.cmacKey (execOptionLoadDone read s) = s.nvm.cmacKey := by
  simp only [execOptionLoadDone, State.optionsTake_cmac, State.setB_cmac, State.withRst_cmac, State.cmac_ite, ite_self, Out.cmac_next, Out.cmac_ite]
theorem execPllaLock_cmac (s : State) : Out.cmac s.nvm.cmacKey (execPllaLock s) = s.nvm.cmacKey := by
  simp only [execPllaLock, State.pinTestKick_cmac, State.setB_cmac, State.cmac_ite, ite_self, Out.cmac_next]
theorem execPllbLock_cmac (s : State) : Out.cmac s.nvm.cmacKey (execPllbLock s) = s.nvm.cmacKey := by
  simp only [execPllbLock]
  repeat' first | with_reducible rfl | simp only [State.imageStart_cmac, State.pinTestKick_cmac, State.setB_cmac, State.cmac_ite, ite_self, Out.cmac_next] | split
@[simp] theorem State.loaderAdc_cmac (s : State) (a : Nat) (v : Word) (t : State) : (s.loaderAdc a v t).nvm.cmacKey = t.nvm.cmacKey := by
  unfold State.loaderAdc
  repeat' first | with_reducible rfl | exact State.adcRefSelected_cmac _ _ | exact State.adcChannelWritten_cmac _ _ | exact State.adcFirWritten_cmac _ _ | exact State.adcGainWritten_cmac _ _ _ | exact State.reqGo_cmac _ _ | split
@[simp] theorem State.loaderReg_cmac (s : State) (a : Nat) (v : Word) : (State.loaderReg s a v).nvm.cmacKey = s.nvm.cmacKey := by
  simp only [State.loaderReg, State.anchorCommit_cmac, State.ethCfgWrite_cmac, State.rset_cmac, State.timeCtrlWrite_cmac, State.tinCfgWrite_cmac, State.loaderAdc_cmac, State.cmac_ite, ite_self]
@[simp] theorem State.loaderWrite_cmac (s : State) (a : Nat) (v : Word) : (State.loaderWrite s a v).nvm.cmacKey = s.nvm.cmacKey := by
  simp only [State.loaderWrite, State.loaderReg_cmac, State.msetW_cmac, State.cmac_ite, ite_self]
@[simp] theorem State.noteDest_cmac (s : State) (a k : Word) : (State.noteDest s a k).nvm.cmacKey = s.nvm.cmacKey := by
  simp only [State.noteDest, State.withRst_cmac]
@[simp] theorem State.identCheck_cmac (s : State) (slot : Nat) : (State.identCheck s slot).nvm.cmacKey = s.nvm.cmacKey := by
  simp only [State.identCheck, State.slotFail_cmac, State.withRst_cmac, State.cmac_ite, ite_self]
@[simp] theorem State.loadRecords_cmac (n : Nat) (s : State) (sid : Nat) (l : List Word) : (State.loadRecords n s sid l).1.nvm.cmacKey = s.nvm.cmacKey := by
  induction n generalizing s l with
  | zero => rcases l with _ | ⟨a, _ | ⟨k, l⟩⟩ <;> rfl
  | succ n ih =>
    rcases l with _ | ⟨a, _ | ⟨k, l⟩⟩
    · rfl
    · rfl
    · unfold State.loadRecords
      split
      · rfl
      · rw [ih, foldl_cmac _ (fun s x => State.loaderWrite_cmac _ _ _), State.noteDest_cmac]
@[simp] theorem State.loadSections_cmac (s : State) (slot : Nat) (l : List Nat) : (s.loadSections slot l).1.nvm.cmacKey = s.nvm.cmacKey := by
  induction l generalizing s with
  | nil => rfl
  | cons id r ih =>
    unfold State.loadSections
    dsimp only
    split
    · exact ih _
    · split
      · exact State.loadRecords_cmac _ _ _ _
      · split
        · exact State.loadRecords_cmac _ _ _ _
        · rw [ih]; exact State.loadRecords_cmac _ _ _ _
theorem execImagePassDone_cmac (s : State) : Out.cmac s.nvm.cmacKey (execImagePassDone s) = s.nvm.cmacKey := by
  simp only [execImagePassDone]
  repeat' first | with_reducible rfl | simp only [State.headsDone_cmac, State.identCheck_cmac, State.setB_cmac, State.slotFail_cmac, State.withRst_cmac, State.loadSections_cmac, ite_self, Out.cmac_next, Out.cmac_ite] | split
theorem execSignatureCheckDone_cmac (s : State) : Out.cmac s.nvm.cmacKey (execSignatureCheckDone s) = s.nvm.cmacKey := by
  simp only [execSignatureCheckDone]
  repeat' first | with_reducible rfl | simp only [State.identCheck_cmac, State.slotFail_cmac, State.cmac_ite, ite_self, Out.cmac_next] | split
@[simp] theorem State.headDead_cmac (s : State) (k : Nat) (l : List Nat) : (State.headDead s k l).nvm.cmacKey = s.nvm.cmacKey := by
  simp only [State.headDead]
  repeat' first | with_reducible rfl | simp only [State.headRead_cmac, State.nextSlot_cmac, State.slotError_cmac, State.withRst_cmac] | split | refine (foldl_cmac _ (fun s x => ?_) _ _).trans ?_
theorem execFlashNoResponse_cmac (s : State) (k : Nat) : Out.cmac s.nvm.cmacKey (execFlashNoResponse s k) = s.nvm.cmacKey := by
  simp only [execFlashNoResponse]
  repeat' first | with_reducible rfl | simp only [State.headDead_cmac, State.slotFail_cmac, State.cmac_ite, ite_self, Out.cmac_next] | split
@[simp] theorem State.clearWord_cmac (s : State) (a : Nat) : (State.clearWord s a).nvm.cmacKey = s.nvm.cmacKey := by
  simp only [State.clearWord, State.loaderReg_cmac, State.msetW_cmac, State.rset_cmac, State.withAnchor_cmac, State.cmac_ite, ite_self]
theorem execDestClearDone_cmac (s : State) : Out.cmac s.nvm.cmacKey (execDestClearDone s) = s.nvm.cmacKey := by
  simp only [execDestClearDone]
  repeat' first | with_reducible rfl | simp only [State.clearWord_cmac, State.nextSlot_cmac, State.withRst_cmac, Out.cmac_next] | split | refine (foldl_cmac _ (fun s x => ?_) _ _).trans ?_
@[simp] theorem State.commitCask_cmac (s : State) (ident : List Byte) : (State.commitCask s ident).nvm.cmacKey = s.nvm.cmacKey := by
  simp only [State.commitCask, State.logEvent_cmac, State.withNvm_cmac, State.cmac_ite, ite_self]
@[simp] theorem State.commitGuard_cmac (s : State) : (State.commitGuard s).nvm.cmacKey = s.nvm.cmacKey := by
  simp only [State.commitGuard, State.rebuildBearing_cmac, State.rset_cmac, State.withNvm_cmac, Nvm.store_cmac, State.cmac_ite, ite_self]
@[simp] theorem State.commitLoss_cmac (s : State) : (State.commitLoss s).nvm.cmacKey = s.nvm.cmacKey := by
  simp only [State.commitLoss]
  repeat' first | with_reducible rfl | simp only [State.rset_cmac, State.setF_cmac, State.updateKnee_cmac] | split | refine (foldl_cmac _ (fun s x => ?_) _ _).trans ?_
@[simp] theorem State.commitTime_cmac (s : State) : (State.commitTime s).nvm.cmacKey = s.nvm.cmacKey := by
  simp only [State.commitTime, State.timeIncWrite_cmac, State.timePpsWrite_cmac, State.cmac_ite, ite_self]
@[simp] theorem State.commit_cmac (s : State) (slot : Nat) : (State.commit s slot).nvm.cmacKey = s.nvm.cmacKey := by
  simp only [State.commit, State.leaveBoot_cmac, State.startBootRun_cmac]
  repeat' first | with_reducible rfl | simp only [State.caskCommit_cmac, State.commitCask_cmac, State.commitGuard_cmac, State.commitLoss_cmac, State.commitTime_cmac, State.coreStart_cmac, State.ctlApply_cmac, State.latchColumn_cmac, State.logEvent_cmac, State.setB_cmac, State.setF_cmac, State.withRst_cmac, State.cmac_ite, ite_self] | split | refine (foldl_cmac _ (fun s x => ?_) _ _).trans ?_
theorem execLoaderCommit_cmac (s : State) : Out.cmac s.nvm.cmacKey (execLoaderCommit s) = s.nvm.cmacKey := by
  simp only [execLoaderCommit]
  repeat' first | with_reducible rfl | simp only [State.commit_cmac, ite_self, Out.cmac_next, Out.cmac_ite] | split

end Sys2Proof.Machine
end

