-- ==== Sys2Proof/Laws/MemFrame.lean ====
section
/-!
SUPPORT. The frame of memory: every operation and meaning that stores nothing in memory leaves all of it as it was.
-/
namespace Sys2Proof.Machine

/-- The mem after an outcome. -/
def Out.mem (d : List Host.Cell) : Out → List Host.Cell
  | .next t => t.mem
  | _ => d
@[simp] theorem Out.mem_next (d : List Host.Cell) (t : State) : Out.mem d (.next t) = t.mem := Eq.trans (Eq.refl _) rfl
theorem Out.mem_ite (d : List Host.Cell) (c : Prop) [Decidable c] (a b : Out) : Out.mem d (if c then a else b) = if c then Out.mem d a else Out.mem d b := by
  split <;> rfl
theorem State.mem_ite (c : Prop) [Decidable c] (a b : State) : (if c then a else b).mem = if c then a.mem else b.mem := by
  split <;> rfl
theorem foldl_mem {α : Type} (g : State → α → State) (h : ∀ s x, (g s x).mem = s.mem) (l : List α) (s : State) :
    (l.foldl g s).mem = s.mem := by
  induction l generalizing s with
  | nil => rfl
  | cons x l ih => rw [List.foldl_cons, ih, h]

/-! ## Ops -/

@[simp] theorem State.latchEff_mem (s : State) (as : List Nat) : (State.latchEff s as).mem = s.mem := by
  simp only [State.latchEff, State.withEff_mem]
@[simp] theorem State.countCause_mem (s : State) (c : Cause) : (State.countCause s c).mem = s.mem := by
  simp only [State.countCause, State.incSat_mem]
@[simp] theorem State.setDev_mem (s : State) (d : Dev) : (State.setDev s d).mem = s.mem := by
  simp only [State.setDev, State.raise_mem, State.setF_mem, State.withDev_mem, State.mem_ite, ite_self]
@[simp] theorem State.nvmKick_mem (s : State) : (State.nvmKick s).mem = s.mem := by
  simp only [State.nvmKick, State.mem_ite]
  repeat' first | with_reducible rfl | simp only [State.withNvm_mem] | split
@[simp] theorem State.nvmPush_mem (s : State) (w : NvmWrite) : (State.nvmPush s w).mem = s.mem := by
  simp only [State.nvmPush, State.nvmKick_mem, State.withNvm_mem]
@[simp] theorem State.logEvent_mem (s : State) (code : Nat) (d0 d1 : Word) : (State.logEvent s code d0 d1).mem = s.mem := by
  simp only [State.logEvent, State.incSat_mem, State.nvmKick_mem, State.withNvm_mem, State.mem_ite, ite_self]
@[simp] theorem State.fresh_mem (s : State) : (State.fresh s).2.mem = s.mem := by
  simp only [State.fresh]

/-! ## GuardOps -/

@[simp] theorem State.soutOff_mem (s : State) : (State.soutOff s).mem = s.mem := by
  simp only [State.soutOff, State.setB_mem, State.setF_mem, State.withGuard_mem, State.mem_ite, ite_self]
@[simp] theorem State.guardFollow_mem (s : State) : (State.guardFollow s).mem = s.mem := by
  simp only [State.guardFollow, State.soutOff_mem, State.mem_ite, ite_self]
@[simp] theorem State.soutFault_mem (s : State) (code : Nat) : (State.soutFault s code).mem = s.mem := by
  simp only [State.soutFault, State.logEvent_mem, State.raise_mem, State.setB_mem, State.setF_mem, State.soutOff_mem, State.mem_ite, ite_self]
@[simp] theorem State.setGsweep_mem (s : State) (n : Nat) (x : GSweep) : (State.setGsweep s n x).mem = s.mem := by
  simp only [State.setGsweep, State.withGuard_mem]
@[simp] theorem State.confirm_mem (s : State) : (State.confirm s).mem = s.mem := by
  simp only [State.confirm, State.incSat_mem, State.raise_mem, State.setF_mem, State.soutOff_mem]
@[simp] theorem State.intrude_mem (s : State) (n f : Nat) : (State.intrude s n f).mem = s.mem := by
  simp only [State.intrude, State.confirm_mem, State.raise_mem, State.setGsweep_mem, State.withGuard_mem, State.mem_ite, ite_self]
@[simp] theorem State.guardSkip_mem (s : State) (az : Nat) : (State.guardSkip s az).mem = s.mem := by
  simp only [State.guardSkip, State.intrude_mem, State.mem_ite, ite_self]
@[simp] theorem State.guardInhibit_mem (s : State) : (State.guardInhibit s).mem = s.mem := by
  simp only [State.guardInhibit, State.confirm_mem, State.setGsweep_mem, State.mem_ite, ite_self]

/-! ## Adc -/

@[simp] theorem State.adcGainWritten_mem (s : State) (k old : Nat) : (State.adcGainWritten s k old).mem = s.mem := by
  simp only [State.adcGainWritten, State.withAdc_mem, State.mem_ite, ite_self]
@[simp] theorem State.adcChannelWritten_mem (s : State) (old : Nat) : (State.adcChannelWritten s old).mem = s.mem := by
  simp only [State.adcChannelWritten, State.withAdc_mem, State.mem_ite, ite_self]
@[simp] theorem State.adcRefSelected_mem (s : State) (old : Nat) : (State.adcRefSelected s old).mem = s.mem := by
  simp only [State.adcRefSelected, State.setB_mem, State.withAdc_mem, State.mem_ite, ite_self]
theorem execAdc0RefReady_mem (s : State) : Out.mem s.mem (execAdc0RefReady s) = s.mem := by
  simp only [execAdc0RefReady, State.setB_mem, State.mem_ite, ite_self, Out.mem_next]
theorem execAdc0RefFail_mem (s : State) : Out.mem s.mem (execAdc0RefFail s) = s.mem := by
  simp only [execAdc0RefFail, State.raise_mem, State.withAdc_mem, State.mem_ite, ite_self, Out.mem_next]
@[simp] theorem State.adcAdd_mem (s : State) (j : AdcJob) : (State.adcAdd s j).mem = s.mem := by
  simp only [State.adcAdd, State.withAdc_mem]
@[simp] theorem State.adcDone_mem (s : State) (i : Nat) : (State.adcDone s i).mem = s.mem := by
  simp only [State.adcDone]
  repeat' first | with_reducible rfl | simp only [State.withAdc_mem] | split
@[simp] theorem State.adcEnd_mem (s : State) (who : Nat) : (State.adcEnd s who).mem = s.mem := by
  simp only [State.adcEnd]
  repeat' first | with_reducible rfl | simp only [State.adcDone_mem] | split
@[simp] theorem State.adcMsns_mem (s : State) (n : Nat) : (State.adcMsns s n).mem = s.mem := by
  simp only [State.adcMsns, State.adcAdd_mem, State.adcEnd_mem]
@[simp] theorem State.adcDue_mem (s : State) (n t : Nat) : (State.adcDue s n t).mem = s.mem := by
  simp only [State.adcDue, State.withAdc_mem]
@[simp] theorem State.adcFired_mem (s : State) (k t : Nat) : (State.adcFired s k t).mem = s.mem := by
  simp only [State.adcFired]
  repeat' first | with_reducible rfl | simp only [State.adcDue_mem, State.mem_ite, ite_self] | split | refine (foldl_mem _ (fun s x => ?_) _ _).trans ?_
@[simp] theorem State.adcTick_mem (s : State) : (State.adcTick s).mem = s.mem := by
  simp only [State.adcTick]
  repeat' first | with_reducible rfl | simp only [State.adcDue_mem, State.withAdc_mem, State.mem_ite, ite_self] | split | refine (foldl_mem _ (fun s x => ?_) _ _).trans ?_
@[simp] theorem State.adcStamp_mem (s : State) : (State.adcStamp s).mem = s.mem := by
  simp only [State.adcStamp]
  repeat' first | with_reducible rfl | simp only [State.setF_mem, State.withAdc_mem, State.mem_ite, ite_self] | split | refine (foldl_mem _ (fun s x => ?_) _ _).trans ?_

/-! ## Emit -/

@[simp] theorem State.updateTj_mem (s : State) (n : Nat) : (State.updateTj s n).mem = s.mem := by
  simp only [State.updateTj, State.setF_mem, State.setFs_mem]
@[simp] theorem State.updateKnee_mem (s : State) (n : Nat) : (State.updateKnee s n).mem = s.mem := by
  simp only [State.updateKnee]
  repeat' first | with_reducible rfl | simp only [State.setF_mem, State.updateTj_mem] | split
@[simp] theorem State.reduceEntry_mem (s : State) (i c : Nat) : (State.reduceEntry s i c).mem = s.mem := by
  simp only [State.reduceEntry]
  repeat' first | with_reducible rfl | simp only [State.withScan_mem] | split
@[simp] theorem State.comingDemand_mem (s : State) (n : Nat) : (State.comingDemand s n).mem = s.mem := by
  simp only [State.comingDemand]
  repeat' first | with_reducible rfl | simp only [State.setF_mem] | split
@[simp] theorem State.noShot_mem (s : State) (n : Nat) : (State.noShot s n).mem = s.mem := by
  simp only [State.noShot, State.comingDemand_mem, State.setStr_mem]
@[simp] theorem State.dropDark_mem (s : State) (n : Nat) : (State.dropDark s n).mem = s.mem := by
  simp only [State.dropDark, State.setStr_mem]
  repeat' first | with_reducible rfl | simp only [State.reduceEntry_mem] | split | refine (foldl_mem _ (fun s x => ?_) _ _).trans ?_
@[simp] theorem State.schedule_mem (s : State) (n : Nat) : (State.schedule s n).mem = s.mem := by
  simp only [State.schedule, State.setStr_mem, State.mem_ite]
  repeat' first | with_reducible rfl | simp only [State.dropDark_mem, State.noShot_mem, State.reduceEntry_mem, State.setF_mem, State.setStr_mem, State.mem_ite, ite_self] | split | refine (foldl_mem _ (fun s x => ?_) _ _).trans ?_
@[simp] theorem State.demandTarget_mem (s : State) (n : Nat) : (State.demandTarget s n).mem = s.mem := by
  simp only [State.demandTarget, State.setF_mem]
@[simp] theorem State.emxRelatch_mem (s : State) : (State.emxRelatch s).mem = s.mem := by
  simp only [State.emxRelatch, State.withEmit_mem]
@[simp] theorem State.scheduleD_mem (s : State) (n : Nat) : (State.scheduleD s n).mem = s.mem := by
  simp only [State.scheduleD, State.demandTarget_mem, State.emxRelatch_mem, State.schedule_mem]
@[simp] theorem State.emxSend_mem (s : State) (pat : BitVec 64) (seq : Nat) (retry : Bool) (latch : Nat) : (State.emxSend s pat seq retry latch).mem = s.mem := by
  simp only [State.emxSend, State.incMod_mem, State.withEmit_mem]
@[simp] theorem State.emxSendZero_mem (s : State) : (State.emxSendZero s).mem = s.mem := by
  simp only [State.emxSendZero, State.emxSend_mem, State.withEmit_mem]
theorem execEmxFrameSend_mem (t : Nat) (s : State) : Out.mem s.mem (execEmxFrameSend t s) = s.mem := by
  simp only [execEmxFrameSend, State.emxSend_mem, State.withEmit_mem, ite_self, Out.mem_next, Out.mem_ite]
@[simp] theorem State.setVbank_mem (s : State) (n v : Nat) : (State.setVbank s n v).mem = s.mem := by
  simp only [State.setVbank, State.setB_mem, State.setF_mem]
@[simp] theorem State.chargeTrip_mem (s : State) : (State.chargeTrip s).mem = s.mem := by
  simp only [State.chargeTrip, State.raise_mem, State.withEmit_mem]
@[simp] theorem State.readVbank_mem (s : State) (n v : Nat) : (State.readVbank s n v).mem = s.mem := by
  simp only [State.readVbank, State.chargeTrip_mem, State.setVbank_mem, State.mem_ite, ite_self]
@[simp] theorem State.chgOff_mem (s : State) (n : Nat) : (State.chgOff s n).mem = s.mem := by
  simp only [State.chgOff, State.setStr_mem, State.withEmit_mem]
@[simp] theorem State.chgOn_mem (s : State) (n : Nat) : (State.chgOn s n).mem = s.mem := by
  simp only [State.chgOn, State.withEmit_mem]
  repeat' first | with_reducible rfl | simp only [State.setStr_mem] | split | refine (foldl_mem _ (fun s x => ?_) _ _).trans ?_
theorem execChargeString_mem (n v : Nat) (s : State) (t : Nat) : Out.mem s.mem (execChargeString n v s t) = s.mem := by
  simp only [execChargeString, State.chgOff_mem, State.chgOn_mem, State.readVbank_mem, State.withEmit_mem, State.mem_ite, ite_self, Out.mem_next, Out.mem_ite]
theorem execChgSelOff_mem (n : Nat) (s : State) : Out.mem s.mem (execChgSelOff n s) = s.mem := by
  simp only [execChgSelOff, State.chgOff_mem, Out.mem_next]
@[simp] theorem State.modNext_mem (s : State) (n : Nat) (g : NextShot → NextShot) : (State.modNext s n g).mem = s.mem := by
  simp only [State.modNext, State.setStr_mem]
theorem execShotReadyCheck_mem (n v : Nat) (s : State) : Out.mem s.mem (execShotReadyCheck n v s) = s.mem := by
  simp only [execShotReadyCheck]
  repeat' first | with_reducible rfl | simp only [State.modNext_mem, State.raiseIf_mem, State.readVbank_mem, State.reduceEntry_mem, Out.mem_next] | split
theorem execChargeSupplyTrip_mem (s : State) (n v isns dur : Nat) : Out.mem s.mem (execChargeSupplyTrip s n v isns dur) = s.mem := by
  simp only [execChargeSupplyTrip, State.chargeTrip_mem, State.setVbank_mem, State.mem_ite, ite_self, Out.mem_next]
theorem execChgGateTrip_mem (s : State) : Out.mem s.mem (execChgGateTrip s) = s.mem := by
  simp only [execChgGateTrip, State.logEvent_mem, State.raise_mem, State.withEmit_mem, Out.mem_next]
@[simp] theorem State.recordLoss_mem (s : State) : (State.recordLoss s).mem = s.mem := by
  simp only [State.recordLoss, State.nvmPush_mem]
@[simp] theorem State.stringDead_mem (s : State) (n e why : Nat) : (State.stringDead s n e why).mem = s.mem := by
  simp only [State.stringDead, State.chgOff_mem, State.logEvent_mem, State.recordLoss_mem, State.scheduleD_mem, State.setF_mem, State.setStr_mem]
@[simp] theorem State.emitterFound_mem (s : State) (e : Nat) : (State.emitterFound s e).mem = s.mem := by
  simp only [State.emitterFound, State.logEvent_mem, State.raise_mem, State.recordLoss_mem, State.rset_mem, State.scheduleD_mem, State.setStr_mem, State.stringDead_mem, State.updateKnee_mem, State.mem_ite, ite_self]
@[simp] theorem State.takeSlot_mem (s : State) (n : Nat) : (State.takeSlot s n).mem = s.mem := by
  simp only [State.takeSlot]
  repeat' first | with_reducible rfl | simp only [State.reduceEntry_mem, State.setStr_mem] | split
@[simp] theorem State.isoPlace_mem (s : State) (n stage bits : Nat) : (State.isoPlace s n stage bits).mem = s.mem := by
  simp only [State.isoPlace, State.scheduleD_mem, State.setStr_mem, State.takeSlot_mem]
@[simp] theorem State.beginString_mem (s : State) (n : Nat) (queue : List PShot) : (State.beginString s n queue).mem = s.mem := by
  simp only [State.beginString]
  repeat' first | with_reducible rfl | simp only [State.isoPlace_mem, State.scheduleD_mem, State.setStr_mem, State.takeSlot_mem] | split
@[simp] theorem State.noVerdict_mem (s : State) (n : Nat) (k : ShotKind) : (State.noVerdict s n k).mem = s.mem := by
  simp only [State.noVerdict]
  repeat' first | with_reducible rfl | simp only [State.isoPlace_mem, State.setStr_mem] | split
theorem execShotMonitorBurst_mem (n : Nat) (s : State) : Out.mem s.mem (execShotMonitorBurst n s) = s.mem := by
  simp only [execShotMonitorBurst]
  repeat' first | with_reducible rfl | simp only [State.adcAdd_mem, State.noVerdict_mem, State.raise_mem, State.setStr_mem, State.withEmit_mem, ite_self, Out.mem_next, Out.mem_ite] | split
@[simp] theorem State.isoVerdict_mem (s : State) (n stage : Nat) (zero : Bool) : (State.isoVerdict s n stage zero).mem = s.mem := by
  simp only [State.isoVerdict]
  repeat' first | with_reducible rfl | simp only [State.emitterFound_mem, State.isoPlace_mem, State.scheduleD_mem, State.setStr_mem, State.stringDead_mem, State.mem_ite, ite_self] | split
@[simp] theorem State.shortCheck_mem (s : State) (n : Nat) (m : MonShot) (ipk : Nat) : (State.shortCheck s n m ipk).mem = s.mem := by
  simp only [State.shortCheck, State.raise_mem, State.setStr_mem, State.stringDead_mem, State.mem_ite, ite_self]
@[simp] theorem State.burstOver_mem (s : State) (n i : Nat) : (State.burstOver s n i).mem = s.mem := by
  simp only [State.burstOver, State.adcDone_mem, State.withEmit_mem]
@[simp] theorem State.verdict_mem (s : State) (n : Nat) (m : MonShot) (codes : List Nat) : (State.verdict s n m codes).mem = s.mem := by
  simp only [State.verdict]
  repeat' first | with_reducible rfl | simp only [State.isoPlace_mem, State.isoVerdict_mem, State.setStr_mem, State.shortCheck_mem, State.mem_ite, ite_self] | split
theorem execShotVerdict_mem (n : Nat) (convs : List Conv) (s : State) : Out.mem s.mem (execShotVerdict n convs s) = s.mem := by
  simp only [execShotVerdict]
  repeat' first | with_reducible rfl | simp only [State.burstOver_mem, State.noVerdict_mem, State.verdict_mem, ite_self, Out.mem_next, Out.mem_ite] | split
theorem execPeriodicProbeDue_mem (n : Nat) (s : State) : Out.mem s.mem (execPeriodicProbeDue n s) = s.mem := by
  simp only [execPeriodicProbeDue, State.scheduleD_mem, State.setStr_mem, State.mem_ite, ite_self, Out.mem_next, Out.mem_ite]
@[simp] theorem State.lostClear_mem (s : State) (key : Word) : (State.lostClear s key).mem = s.mem := by
  simp only [State.lostClear, State.logEvent_mem, State.mem_ite]
  repeat' first | with_reducible rfl | simp only [State.recordLoss_mem, State.rset_mem, State.setF_mem, State.updateKnee_mem] | split | refine (foldl_mem _ (fun s x => ?_) _ _).trans ?_

/-! ## Kiln -/

@[simp] theorem State.decayString_mem (s : State) (dt n : Nat) : (State.decayString s dt n).mem = s.mem := by
  simp only [State.decayString, State.rset_mem, State.updateTj_mem]
@[simp] theorem State.decayStep_mem (s : State) (dt : Nat) : (State.decayStep s dt).mem = s.mem := by
  simp only [State.decayStep]
  repeat' first | with_reducible rfl | simp only [State.decayString_mem] | split | refine (foldl_mem _ (fun s x => ?_) _ _).trans ?_
@[simp] theorem State.decaySteps_mem (d k rest : Nat) (s : State) : (State.decaySteps d k rest s).mem = s.mem := by
  simp only [State.decaySteps, State.decayStep_mem]
  repeat' first | with_reducible rfl | simp only [State.decayStep_mem] | split | refine (foldl_mem _ (fun s x => ?_) _ _).trans ?_
@[simp] theorem State.decayTo_mem (s : State) (t : Nat) : (State.decayTo s t).mem = s.mem := by
  simp only [State.decayTo, State.decaySteps_mem, State.withKiln_mem]
theorem execKilnDecayStep_mem (s : State) : Out.mem s.mem (execKilnDecayStep s) = s.mem := by
  simp only [execKilnDecayStep, State.decayTo_mem, Out.mem_next]
@[simp] theorem State.spend_mem (s : State) (t e : Nat) : (State.spend s t e).mem = s.mem := by
  simp only [State.spend, State.withKiln_mem]
@[simp] theorem State.chargeModels_mem (s : State) (n v t : Nat) : (State.chargeModels s n v t).mem = s.mem := by
  simp only [State.chargeModels, State.rset_mem, State.spend_mem, State.updateTj_mem]
@[simp] theorem State.chargeCells_mem (s : State) (cells : List Nat) (q : Nat) : (State.chargeCells s cells q).mem = s.mem := by
  simp only [State.chargeCells, State.withKiln_mem]
@[simp] theorem State.eyeMismatch_mem (s : State) : (State.eyeMismatch s).mem = s.mem := by
  simp only [State.eyeMismatch, State.raise_mem, State.withKiln_mem]
theorem execEyeSubwindow_mem (s : State) : Out.mem s.mem (execEyeSubwindow s) = s.mem := by
  simp only [execEyeSubwindow, State.withKiln_mem, ite_self, Out.mem_next, Out.mem_ite]
theorem execEyeInitEnd_mem (s : State) : Out.mem s.mem (execEyeInitEnd s) = s.mem := by
  simp only [execEyeInitEnd, State.setB_mem, State.mem_ite, ite_self, Out.mem_next]
@[simp] theorem State.eyeRestart_mem (s : State) : (State.eyeRestart s).mem = s.mem := by
  simp only [State.eyeRestart, State.setB_mem, State.withKiln_mem]

/-! ## Scan -/

@[simp] theorem State.takeRegion_mem (s : State) : (State.takeRegion s).mem = s.mem := by
  simp only [State.takeRegion, State.raiseIf_mem, State.setB_mem, State.withScan_mem]
@[simp] theorem State.skipCount_mem (s : State) : (State.skipCount s).mem = s.mem := by
  simp only [State.skipCount, State.incMod_mem, State.raise_mem]
@[simp] theorem State.sweepBegin_mem (s : State) : (State.sweepBegin s).mem = s.mem := by
  simp only [State.sweepBegin, State.incMod_mem, State.withScan_mem]
@[simp] theorem State.sweepStart_mem (s : State) (t : Nat) : (State.sweepStart s t).mem = s.mem := by
  simp only [State.sweepStart, State.sweepBegin_mem, State.takeRegion_mem, State.withScan_mem, State.mem_ite, ite_self]
@[simp] theorem State.dropNext_mem (s : State) : (State.dropNext s).mem = s.mem := by
  simp only [State.dropNext, State.withScan_mem]
@[simp] theorem State.dropPlanned_mem (s : State) (c : Nat) : (State.dropPlanned s c).mem = s.mem := by
  simp only [State.dropPlanned]
  repeat' first | with_reducible rfl | simp only [State.reduceEntry_mem, State.setStr_mem] | split | refine (foldl_mem _ (fun s x => ?_) _ _).trans ?_
@[simp] theorem State.followInhibit_mem (s : State) : (State.followInhibit s).mem = s.mem := by
  simp only [State.followInhibit, State.dropNext_mem, State.dropPlanned_mem, State.guardInhibit_mem, State.setB_mem, State.mem_ite, ite_self]
@[simp] theorem State.lockModeFollow_mem (s : State) : (State.lockModeFollow s).mem = s.mem := by
  simp only [State.lockModeFollow, State.withScan_mem, State.mem_ite, ite_self]
@[simp] theorem State.lockUpdate_mem (s : State) (ok : Bool) (t : Nat) : (State.lockUpdate s ok t).mem = s.mem := by
  simp only [State.lockUpdate, State.lockModeFollow_mem, State.raise_mem, State.setB_mem, State.withScan_mem, State.mem_ite, ite_self]
@[simp] theorem State.lockInterval_mem (s : State) : (State.lockInterval s).mem = s.mem := by
  simp only [State.lockInterval, State.lockModeFollow_mem, State.setB_mem, State.withScan_mem, State.mem_ite, ite_self]
@[simp] theorem State.stallCheck_mem (s : State) (t : Nat) : (State.stallCheck s t).mem = s.mem := by
  simp only [State.stallCheck, State.mem_ite]
  repeat' first | with_reducible rfl | simp only [State.incSat_mem, State.raise_mem, State.withScan_mem, State.mem_ite, ite_self] | split
@[simp] theorem State.msnsBase_mem (s : State) (v t : Nat) : (State.msnsBase s v t).mem = s.mem := by
  simp only [State.msnsBase, State.followInhibit_mem, State.lockUpdate_mem, State.setB_mem, State.setF_mem, State.stallCheck_mem, State.withScan_mem, State.mem_ite, ite_self]
@[simp] theorem State.strokeEnd_mem (s : State) (t : Nat) : (State.strokeEnd s t).mem = s.mem := by
  simp only [State.strokeEnd, State.followInhibit_mem, State.lockInterval_mem, State.withScan_mem, State.mem_ite, ite_self]
@[simp] theorem State.planUe_mem (s : State) (i : Nat) : (State.planUe s i).mem = s.mem := by
  simp only [State.planUe, State.logEvent_mem, State.raise_mem]
@[simp] theorem State.tPred_mem (s : State) (t : Nat) (rest : List (Nat × Bool)) : (State.tPred s t rest).2.mem = s.mem := by
  simp only [State.tPred, State.mem_ite, apply_ite Prod.snd]
  repeat' first | with_reducible rfl | simp only [State.fresh_mem, ite_self, apply_ite Prod.snd] | split
@[simp] theorem State.grantFor_mem (s : State) (az : Nat) (rest : List (Nat × Bool)) (t now : Nat) (bad : List Nat) : (State.grantFor s az rest t now bad).mem = s.mem := by
  simp only [State.grantFor]
  repeat' first | with_reducible rfl | simp only [State.comingDemand_mem, State.decayTo_mem, State.demandTarget_mem, State.planUe_mem, State.raiseIf_mem, State.tPred_mem, State.withKiln_mem, State.withScan_mem, State.mem_ite, ite_self] | split | refine (foldl_mem _ (fun s x => ?_) _ _).trans ?_
@[simp] theorem State.grantDue_mem (s : State) (now : Nat) (bad : List Nat) : (State.grantDue s now bad).mem = s.mem := by
  simp only [State.grantDue, State.grantFor_mem, State.mem_ite, ite_self]
  repeat' first | with_reducible rfl | simp only [State.grantFor_mem, State.mem_ite, ite_self] | split
@[simp] theorem State.rearm_mem (s : State) (t : Nat) (bad : List Nat) : (State.rearm s t bad).mem = s.mem := by
  simp only [State.rearm, State.grantDue_mem, State.withScan_mem, State.mem_ite, ite_self]
theorem execEmissionLimitDecide_mem (n : Nat) (mismatch : Bool) (s : State) : Out.mem s.mem (execEmissionLimitDecide n mismatch s) = s.mem := by
  simp only [execEmissionLimitDecide]
  repeat' first | with_reducible rfl | simp only [State.eyeMismatch_mem, State.incSat_mem, State.modNext_mem, State.raise_mem, State.withScan_mem, State.mem_ite, ite_self, Out.mem_next, Out.mem_ite] | split

/-! ## Ctl -/

@[simp] theorem State.ctlApply_mem (s : State) : (State.ctlApply s).mem = s.mem := by
  simp only [State.ctlApply, State.withCtl_mem]
@[simp] theorem State.stick_mem (s : State) (F : Fld) (flags : Nat) (c : Cause) : (State.stick s F flags c).mem = s.mem := by
  simp only [State.stick, State.countCause_mem, State.setF_mem, State.mem_ite, ite_self]
@[simp] theorem State.vspadFollow_mem (s : State) : (State.vspadFollow s).mem = s.mem := by
  simp only [State.vspadFollow, State.setF_mem, State.mem_ite, ite_self]
@[simp] theorem State.drive_mem (s : State) (n v : Nat) : (State.drive s n v).mem = s.mem := by
  simp only [State.drive]
  repeat' first | with_reducible rfl | simp only [State.withCtl_mem] | split
@[simp] theorem State.loopRun_mem (s : State) (n : Nat) : (State.loopRun s n).mem = s.mem := by
  simp only [State.loopRun, State.drive_mem, State.setF_mem, State.withCtl_mem, State.mem_ite, ite_self]
@[simp] theorem State.loopEval_mem (s : State) (n : Nat) : (State.loopEval s n).mem = s.mem := by
  simp only [State.loopEval, State.drive_mem, State.setF_mem, State.setFs_mem, State.stick_mem]
@[simp] theorem State.loopTick_mem (s : State) (n : Nat) : (State.loopTick s n).mem = s.mem := by
  simp only [State.loopTick, State.loopEval_mem, State.loopRun_mem, State.withCtl_mem, State.mem_ite, ite_self]
@[simp] theorem State.mirrorLoop_mem (s : State) : (State.mirrorLoop s).mem = s.mem := by
  simp only [State.mirrorLoop, State.loopEval_mem, State.loopRun_mem, State.mem_ite, ite_self]
@[simp] theorem State.setDac_mem (s : State) (n win out : Nat) : (State.setDac s n win out).mem = s.mem := by
  simp only [State.setDac, State.setF_mem, State.setVbank_mem]
@[simp] theorem State.groupRun_mem (s : State) (n : Nat) : (State.groupRun s n).mem = s.mem := by
  simp only [State.groupRun, State.setF_mem, State.setVbank_mem, State.withCtl_mem, State.mem_ite, ite_self]
  repeat' first | with_reducible rfl | simp only [State.setF_mem] | split | refine (foldl_mem _ (fun s x => ?_) _ _).trans ?_
@[simp] theorem State.groupEval_mem (s : State) (n : Nat) : (State.groupEval s n).mem = s.mem := by
  simp only [State.groupEval, State.setDac_mem, State.mem_ite]
  repeat' first | with_reducible rfl | simp only [State.setF_mem, State.setFs_mem, State.stick_mem] | split | refine (foldl_mem _ (fun s x => ?_) _ _).trans ?_
theorem execChargeGroupEvaluate_mem (n : Nat) (s : State) : Out.mem s.mem (execChargeGroupEvaluate n s) = s.mem := by
  simp only [execChargeGroupEvaluate, State.groupEval_mem, State.groupRun_mem, Out.mem_next]
@[simp] theorem State.eyeTargets_mem (s : State) (g : Grant) (azNext : Option Nat) : (State.eyeTargets s g azNext).mem = s.mem := by
  simp only [State.eyeTargets]
  repeat' first | with_reducible rfl | simp only [State.setF_mem] | split | refine (foldl_mem _ (fun s x => ?_) _ _).trans ?_
@[simp] theorem State.biasSet_mem (s : State) : (State.biasSet s).mem = s.mem := by
  simp only [State.biasSet, State.setB_mem, State.setF_mem, State.setFs_mem]
@[simp] theorem State.biasOk_mem (s : State) : (State.biasOk s).mem = s.mem := by
  simp only [State.biasOk, State.raiseIf_mem, State.setB_mem]
theorem execVspadOvervoltage_mem (s : State) (above : Bool) : Out.mem s.mem (execVspadOvervoltage s above) = s.mem := by
  simp only [execVspadOvervoltage, State.withCtl_mem, Out.mem_next]
@[simp] theorem State.mexcCheck_mem (s : State) (i : Nat) (limit : Bool) : (State.mexcCheck s i limit).mem = s.mem := by
  simp only [State.mexcCheck, State.followInhibit_mem, State.raiseIf_mem, State.setB_mem, State.withCtl_mem, State.withScan_mem, State.mem_ite, ite_self]
@[simp] theorem State.powerMon_mem (s : State) (vin pin : Nat) : (State.powerMon s vin pin).mem = s.mem := by
  simp only [State.powerMon, State.setF_mem, State.withCtl_mem, State.mem_ite, ite_self]
theorem execCtlTick_mem (vspad mexc : Nat) (limit : Bool) (vin pin : Nat) (s : State) : Out.mem s.mem (execCtlTick vspad mexc limit vin pin s) = s.mem := by
  simp only [execCtlTick, Out.mem_next, Out.mem_ite]
  repeat' first | with_reducible rfl | simp only [State.adcMsns_mem, State.adcTick_mem, State.biasOk_mem, State.biasSet_mem, State.groupEval_mem, State.groupRun_mem, State.loopTick_mem, State.mexcCheck_mem, State.powerMon_mem, State.setF_mem, State.vspadFollow_mem, State.withCtl_mem, State.mem_ite, ite_self] | split | refine (foldl_mem _ (fun s x => ?_) _ _).trans ?_
theorem execCtlCommit_mem (s : State) : Out.mem s.mem (execCtlCommit s) = s.mem := by
  simp only [execCtlCommit, State.ctlApply_mem, Out.mem_next]

/-! ## Analog -/

@[simp] theorem State.reqGo_mem (s : State) (n : Nat) : (State.reqGo s n).mem = s.mem := by
  simp only [State.reqGo, State.adcDue_mem, State.mem_ite, ite_self]
theorem execAdc0ReqGo_mem (n : Nat) (s : State) : Out.mem s.mem (execAdc0ReqGo n s) = s.mem := by
  simp only [execAdc0ReqGo, State.reqGo_mem, State.mem_ite, ite_self, Out.mem_next]
@[simp] theorem State.reqUsed_mem (s : State) (n t : Nat) : (State.reqUsed s n t).mem = s.mem := by
  simp only [State.reqUsed, State.withAdc_mem, State.mem_ite, ite_self]
theorem execAdc0ReqTrigger_mem (n t : Nat) (s : State) : Out.mem s.mem (execAdc0ReqTrigger n t s) = s.mem := by
  simp only [execAdc0ReqTrigger, Out.mem_next, Out.mem_ite]
  repeat' first | with_reducible rfl | simp only [State.adcAdd_mem, State.adcStamp_mem, State.raise_mem, State.reqUsed_mem, State.rset_mem, State.withAdc_mem, ite_self, Out.mem_next, Out.mem_ite] | split
theorem State.storeBurst_mem (s : State) (n i : Nat) (l : List (BitVec 16)) : (s.storeBurst n i l).mem = s.mem := by
  induction l generalizing s i with
  | nil => rfl
  | cons w l ih => simp only [State.storeBurst, ih, State.setF_mem]
theorem execAdc0BurstDone_mem (n : Nat) (convs : List Conv) (s : State) : Out.mem s.mem (execAdc0BurstDone n convs s) = s.mem := by
  simp only [execAdc0BurstDone]
  repeat' first | with_reducible rfl | simp only [State.adcDone_mem, State.rset_mem, State.withAdcLast_mem, State.storeBurst_mem, Out.mem_next, Out.mem_ite] | split
@[simp] theorem State.background_mem (s : State) (t : Nat) (c : Conv) : (State.background s t c).mem = s.mem := by
  simp only [State.background, State.setF_mem, State.withAdc_mem, State.withAdcLast_mem]
@[simp] theorem State.firCommit_mem (s : State) : (State.firCommit s).mem = s.mem := by
  simp only [State.firCommit, State.withAdc_mem]
@[simp] theorem State.adcFirWritten_mem (s : State) (v : Word) : (State.adcFirWritten s v).mem = s.mem := by
  simp only [State.adcFirWritten, State.firCommit_mem, State.withAdc_mem, State.mem_ite, ite_self]
theorem execAdc0FirCommit_mem (s : State) : Out.mem s.mem (execAdc0FirCommit s) = s.mem := by
  simp only [execAdc0FirCommit, State.firCommit_mem, Out.mem_next]
@[simp] theorem State.adcEvent_mem (s : State) (t : Nat) (rise : Bool) : (State.adcEvent s t rise).mem = s.mem := by
  simp only [State.adcEvent, State.raise_mem, State.withAdc_mem, State.mem_ite, ite_self]
@[simp] theorem State.adcCompare_mem (s : State) (t : Nat) (y : Int) : (State.adcCompare s t y).mem = s.mem := by
  simp only [State.adcCompare]
  repeat' first | with_reducible rfl | simp only [State.adcEvent_mem, State.withAdc_mem, State.mem_ite, ite_self] | split
@[simp] theorem State.firOut_mem (s : State) (t : Nat) : (State.firOut s t).mem = s.mem := by
  simp only [State.firOut, State.adcCompare_mem, State.setB_mem, State.setFs_mem, State.withAdc_mem, State.mem_ite, ite_self]
@[simp] theorem State.firStep_mem (s : State) (t : Nat) : (State.firStep s t).mem = s.mem := by
  simp only [State.firStep, State.firOut_mem, State.withAdc_mem, State.mem_ite, ite_self]
theorem execFirOutput_mem (t : Nat) (s : State) (convs : List Conv) : Out.mem s.mem (execFirOutput t s convs) = s.mem := by
  simp only [execFirOutput, Out.mem_next, Out.mem_ite]
  repeat' first | with_reducible rfl | simp only [State.background_mem, State.firStep_mem] | split | refine (foldl_mem _ (fun s x => ?_) _ _).trans ?_
theorem execAdc0EvhiRead_mem (s : State) : Out.mem s.mem (execAdc0EvhiRead s) = s.mem := by
  simp only [execAdc0EvhiRead, State.withAdc_mem, Out.mem_next]
@[simp] theorem State.afeValue_mem (s : State) (m : Nat) (x : AfeRaw) (r : Option Int) : (State.afeValue s m x r).2.mem = s.mem := by
  unfold State.afeValue
  repeat' first | with_reducible rfl | simp only [State.fresh_mem, State.mem_ite, ite_self, apply_ite Prod.snd] | split
@[simp] theorem State.chgUpdate_mem (s : State) : (State.chgUpdate s).mem = s.mem := by
  simp only [State.chgUpdate, State.setF_mem, State.withEmit_mem, State.withTherm_mem, State.mem_ite, ite_self]
@[simp] theorem State.boardUpdate_mem (s : State) : (State.boardUpdate s).mem = s.mem := by
  simp only [State.boardUpdate]
  repeat' first | with_reducible rfl | simp only [State.chgUpdate_mem, State.updateTj_mem] | split | refine (foldl_mem _ (fun s x => ?_) _ _).trans ?_
@[simp] theorem State.afeLead_mem (s : State) (m : Nat) (rl : Option Nat) : (State.afeLead s m rl).mem = s.mem := by
  simp only [State.afeLead]
  repeat' first | with_reducible rfl | simp only [State.setF_mem] | split
@[simp] theorem State.afeStore_mem (s : State) (m : Nat) (v : Int) (cl : Bool) : (State.afeStore s m v cl).mem = s.mem := by
  simp only [State.afeStore, State.raiseIf_mem, State.setB_mem, State.setFs_mem]
theorem execAfeConversionDone_mem (m : Nat) (x : AfeRaw) (s : State) : Out.mem s.mem (execAfeConversionDone m x s) = s.mem := by
  simp only [execAfeConversionDone, State.afeLead_mem, State.afeStore_mem, State.afeValue_mem, State.boardUpdate_mem, State.raise_mem, State.raiseIf_mem, State.setB_mem, State.withAfePos_mem, ite_self, Out.mem_next, Out.mem_ite]
@[simp] theorem State.markSuspect_mem (s : State) (raw : Nat → Int) (k : Nat) : (State.markSuspect s raw k).mem = s.mem := by
  simp only [State.markSuspect, State.raise_mem, State.setF_mem, State.withTherm_mem, State.mem_ite, ite_self]
@[simp] theorem State.judgeShutdown_mem (s : State) (i : Nat) : (State.judgeShutdown s i).mem = s.mem := by
  simp only [State.judgeShutdown, State.incSat_mem, State.logEvent_mem, State.raise_mem, State.withTherm_mem, State.mem_ite, ite_self]
@[simp] theorem State.judgeGroup_mem (s : State) (g : Nat) : (State.judgeGroup s g).mem = s.mem := by
  simp only [State.judgeGroup, State.raiseIf_mem, State.withTherm_mem]
@[simp] theorem State.thermStat_mem (s : State) : (State.thermStat s).mem = s.mem := by
  simp only [State.thermStat, State.setB_mem, State.setF_mem]
@[simp] theorem State.thermRaw_mem (s : State) (readings : List (BitVec 16)) : (State.thermRaw s readings).mem = s.mem := by
  simp only [State.thermRaw]
  repeat' first | with_reducible rfl | simp only [State.setF_mem] | split | refine (foldl_mem _ (fun s x => ?_) _ _).trans ?_
@[simp] theorem State.thermMark_mem (s : State) (r : Nat → Int) : (State.thermMark s r).mem = s.mem := by
  simp only [State.thermMark]
  repeat' first | with_reducible rfl | simp only [State.markSuspect_mem] | split | refine (foldl_mem _ (fun s x => ?_) _ _).trans ?_
@[simp] theorem State.thermUsed_mem (s : State) (r : Nat → Int) (susp : Nat → Bool) : (State.thermUsed s r susp).mem = s.mem := by
  simp only [State.thermUsed]
  repeat' first | with_reducible rfl | simp only [State.setFs_mem] | split | refine (foldl_mem _ (fun s x => ?_) _ _).trans ?_
@[simp] theorem State.thermExternal_mem (s : State) (i : Nat) : (State.thermExternal s i).mem = s.mem := by
  simp only [State.thermExternal, State.setFs_mem, State.mem_ite, ite_self]
@[simp] theorem State.thermJudge_mem (s : State) : (State.thermJudge s).mem = s.mem := by
  simp only [State.thermJudge]
  repeat' first | with_reducible rfl | simp only [State.judgeGroup_mem, State.judgeShutdown_mem] | split | refine (foldl_mem _ (fun s x => ?_) _ _).trans ?_
theorem execThermScan_mem (readings : List (BitVec 16)) (s : State) : Out.mem s.mem (execThermScan readings s) = s.mem := by
  simp only [execThermScan, State.biasSet_mem, State.boardUpdate_mem, State.nvmKick_mem, State.thermJudge_mem, State.thermStat_mem, Out.mem_next]
  repeat' first | with_reducible rfl | simp only [State.thermExternal_mem, State.thermMark_mem, State.thermRaw_mem, State.thermUsed_mem] | split | refine (foldl_mem _ (fun s x => ?_) _ _).trans ?_
theorem execDieHardTrip_mem (s : State) : Out.mem s.mem (execDieHardTrip s) = s.mem := by
  simp only [execDieHardTrip, State.logEvent_mem, State.raise_mem, State.raiseReset_mem, State.setB_mem, State.withEmit_mem, Out.mem_next]
theorem execDieHardTripClear_mem (s : State) : Out.mem s.mem (execDieHardTripClear s) = s.mem := by
  simp only [execDieHardTripClear, State.setB_mem, Out.mem_next]

/-! ## Rx -/

@[simp] theorem State.rejectMap_mem (s : State) (c : Nat) : (State.rejectMap s c).mem = s.mem := by
  simp only [State.rejectMap, State.incSat_mem, State.raise_mem, State.setB_mem]
@[simp] theorem State.activateMap_mem (s : State) (c : Nat) (map : List Nat) (dnl : Nat) : (State.activateMap s c map dnl).mem = s.mem := by
  simp only [State.activateMap, State.setB_mem, State.setChan_mem, State.setF_mem, State.mem_ite, ite_self]
@[simp] theorem State.startBootRun_mem (s : State) : (State.startBootRun s).mem = s.mem := by
  simp only [State.startBootRun, State.setB_mem, State.withMash_mem, State.withScan_mem]
@[simp] theorem State.bootMap_mem (s : State) (c : Nat) (h : List Nat) : (State.bootMap s c h).mem = s.mem := by
  simp only [State.bootMap, State.activateMap_mem, State.incMod_mem, State.rejectMap_mem, State.setB_mem, State.setChan_mem, State.mem_ite, ite_self]
@[simp] theorem State.calRun_mem (s : State) : (State.calRun s).mem = s.mem := by
  simp only [State.calRun, State.startBootRun_mem, State.mem_ite, ite_self]
@[simp] theorem State.bootRunEnd_mem (s : State) (hits : List (Nat × List Nat)) : (State.bootRunEnd s hits).mem = s.mem := by
  simp only [State.bootRunEnd, State.setB_mem, State.withMash_mem, State.withScan_mem]
  repeat' first | with_reducible rfl | simp only [State.bootMap_mem, State.setF_mem] | split | refine (foldl_mem _ (fun s x => ?_) _ _).trans ?_
theorem execBgcalMapStaged_mem (c t : Nat) (s : State) : Out.mem s.mem (execBgcalMapStaged c t s) = s.mem := by
  simp only [execBgcalMapStaged, State.rejectMap_mem, State.setB_mem, State.setChan_mem, ite_self, Out.mem_next, Out.mem_ite]
@[simp] theorem State.bgHit_mem (s : State) (c tap : Nat) : (State.bgHit s c tap).mem = s.mem := by
  simp only [State.bgHit, State.setChan_mem, State.mem_ite, ite_self]
@[simp] theorem State.flybackInject_mem (s : State) (t : Nat) : (State.flybackInject s t).mem = s.mem := by
  simp only [State.flybackInject, State.withMash_mem, State.withScan_mem, State.mem_ite, ite_self]
@[simp] theorem State.showAmb_mem (s : State) (c : Nat) (a : Amb) : (State.showAmb s c a).mem = s.mem := by
  simp only [State.showAmb, State.setB_mem, State.setF_mem]
@[simp] theorem State.markStale_mem (s : State) (k : Nat) : (State.markStale s k).mem = s.mem := by
  simp only [State.markStale]
  repeat' first | with_reducible rfl | simp only [State.raise_mem, State.showAmb_mem] | split | refine (foldl_mem _ (fun s x => ?_) _ _).trans ?_
theorem execAmbientGateOpen_mem (c : Nat) (s : State) : Out.mem s.mem (execAmbientGateOpen c s) = s.mem := by
  simp only [execAmbientGateOpen, State.setChan_mem, ite_self, Out.mem_next, Out.mem_ite]
theorem execAmbientGateMidpoint_mem (c : Nat) (s : State) : Out.mem s.mem (execAmbientGateMidpoint c s) = s.mem := by
  simp only [execAmbientGateMidpoint]
  repeat' first | with_reducible rfl | simp only [State.setChan_mem, State.mem_ite, ite_self, Out.mem_next] | split
theorem execAmbientGateClose_mem (c : Nat) (s : State) : Out.mem s.mem (execAmbientGateClose c s) = s.mem := by
  simp only [execAmbientGateClose]
  repeat' first | with_reducible rfl | simp only [State.setChan_mem, State.showAmb_mem, Out.mem_next] | split
@[simp] theorem State.modAcc_mem (s : State) (k : Nat) (g : ColAcc → ColAcc) : (State.modAcc s k g).mem = s.mem := by
  simp only [State.modAcc, State.setCluster_mem]
@[simp] theorem State.windowGone_mem (s : State) (k : Nat) (w : Win) (t : Nat) (cut : Bool) : (State.windowGone s k w t cut).mem = s.mem := by
  simp only [State.windowGone, State.modAcc_mem, State.mem_ite, ite_self]
@[simp] theorem State.closeExpired_mem (s : State) (k t : Nat) : (State.closeExpired s k t).mem = s.mem := by
  simp only [State.closeExpired]
  repeat' first | with_reducible rfl | simp only [State.setCluster_mem, State.windowGone_mem] | split | refine (foldl_mem _ (fun s x => ?_) _ _).trans ?_
theorem execWindowClose_mem (k t : Nat) (s : State) : Out.mem s.mem (execWindowClose k t s) = s.mem := by
  simp only [execWindowClose, State.closeExpired_mem, Out.mem_next]
@[simp] theorem State.openWindow_mem (s : State) (k t wint : Nat) : (State.openWindow s k t wint).mem = s.mem := by
  simp only [State.openWindow, State.modAcc_mem, State.setCluster_mem]
  repeat' first | with_reducible rfl | simp only [State.closeExpired_mem, State.raise_mem, State.setCluster_mem, State.windowGone_mem] | split
@[simp] theorem State.setLevel_mem (s : State) (k n t : Nat) : (State.setLevel s k n t).mem = s.mem := by
  simp only [State.setLevel, State.setCluster_mem, State.setF_mem]
@[simp] theorem State.thinRise_mem (s : State) (k t : Nat) : (State.thinRise s k t).mem = s.mem := by
  simp only [State.thinRise, State.raiseIf_mem, State.setCluster_mem, State.setLevel_mem, State.mem_ite, ite_self]
theorem execThinLevelFall_mem (k t : Nat) (s : State) : Out.mem s.mem (execThinLevelFall k t s) = s.mem := by
  simp only [execThinLevelFall, State.setLevel_mem, State.thinRise_mem, ite_self, Out.mem_next, Out.mem_ite]
@[simp] theorem State.markLoss_mem (s : State) (c : Nat) (old : Bool) : (State.markLoss s c old).mem = s.mem := by
  simp only [State.markLoss, State.raise_mem, State.setChan_mem]
@[simp] theorem State.enqueue_mem (s : State) (c t fine : Nat) (w : Win) (ws : List Win) : (State.enqueue s c t fine w ws).mem = s.mem := by
  simp only [State.enqueue, State.incSat_mem, State.markLoss_mem, State.raise_mem, State.raiseIf_mem, State.setChan_mem, State.thinRise_mem, State.mem_ite, ite_self]
@[simp] theorem State.calHit_mem (s : State) (c ps tap : Nat) : (State.calHit s c ps tap).mem = s.mem := by
  simp only [State.calHit, State.bgHit_mem, State.setChan_mem, State.mem_ite, ite_self]
@[simp] theorem State.coincidence_mem (s : State) (c : Nat) (q : CoSet) : (State.coincidence s c q).mem = s.mem := by
  simp only [State.coincidence, State.mem_ite]
  repeat' first | with_reducible rfl | simp only [State.enqueue_mem, State.incSat_mem, State.setChan_mem, State.mem_ite, ite_self] | split
@[simp] theorem State.joinSet_mem (s : State) (c k i ps tap : Nat) : (State.joinSet s c k i ps tap).mem = s.mem := by
  simp only [State.joinSet, State.coincidence_mem, State.setChan_mem, State.mem_ite, ite_self]
@[simp] theorem State.avalanche_mem (s : State) (c : Nat) (a : Nat × Nat × Nat) : (State.avalanche s c a).mem = s.mem := by
  simp only [State.avalanche, State.mem_ite]
  repeat' first | with_reducible rfl | simp only [State.calHit_mem, State.joinSet_mem, State.setChan_mem, State.mem_ite, ite_self] | split
theorem execRxEvent_mem (c i ps tap : Nat) (s : State) (avs : List (Nat × Nat × Nat)) : Out.mem s.mem (execRxEvent c i ps tap s avs) = s.mem := by
  simp only [execRxEvent, Out.mem_next]
  repeat' first | with_reducible rfl | simp only [State.avalanche_mem] | split | refine (foldl_mem _ (fun s x => ?_) _ _).trans ?_
@[simp] theorem State.capArm_mem (s : State) : (State.capArm s).mem = s.mem := by
  simp only [State.capArm, State.setF_mem, State.withMash_mem]
@[simp] theorem State.capture_mem (s : State) (c : Nat) (w : Word) : (State.capture s c w).mem = s.mem := by
  simp only [State.capture, State.rset_mem, State.setF_mem, State.withMash_mem, State.mem_ite, ite_self]

/-! ## Mash -/

@[simp] theorem State.modChAcc_mem (s : State) (c : Nat) (old : Bool) (g : ChAcc → ChAcc) : (State.modChAcc s c old g).mem = s.mem := by
  simp only [State.modChAcc, State.setChan_mem]
@[simp] theorem State.binError_mem (s : State) (n c : Nat) (old ue : Bool) : (State.binError s n c old ue).mem = s.mem := by
  simp only [State.binError, State.incSat_mem, State.logEvent_mem, State.modChAcc_mem, State.raise_mem, State.setB_mem, State.setBin_mem, State.setF_mem, State.mem_ite, ite_self]
@[simp] theorem State.binUpdate_mem (s : State) (c b w t : Nat) (old : Bool) : (State.binUpdate s c b w t old).mem = s.mem := by
  simp only [State.binUpdate, State.incSat_mem, State.markLoss_mem, State.modChAcc_mem, State.raise_mem, State.raiseIf_mem, State.setBin_mem, State.mem_ite]
  repeat' first | with_reducible rfl | simp only [State.setCluster_mem, State.mem_ite, ite_self] | split
@[simp] theorem State.binUpdateErr_mem (s : State) (c b w t : Nat) (old : Bool) (err : Nat) : (State.binUpdateErr s c b w t old err).mem = s.mem := by
  simp only [State.binUpdateErr, State.binError_mem, State.binUpdate_mem, State.mem_ite, ite_self]
@[simp] theorem State.binEvent_mem (s : State) (c : Nat) (e : FifoE) (w t : Nat) (old : Bool) (errs : List Nat) : (State.binEvent s c e w t old errs).mem = s.mem := by
  simp only [State.binEvent]
  repeat' first | with_reducible rfl | simp only [State.binUpdateErr_mem, State.modChAcc_mem] | split | refine (foldl_mem _ (fun s x => ?_) _ _).trans ?_
theorem execMashDrain_mem (k t : Nat) (par : Bool) (s : State) (errs : List Nat) : Out.mem s.mem (execMashDrain k t par s errs) = s.mem := by
  simp only [execMashDrain]
  repeat' first | with_reducible rfl | simp only [State.binEvent_mem, State.capture_mem, State.incSat_mem, State.markLoss_mem, State.modChAcc_mem, State.raise_mem, State.setChan_mem, State.setCluster_mem, State.thinRise_mem, State.mem_ite, ite_self, Out.mem_next, Out.mem_ite] | split
theorem execZoomPlace_mem (k : Nat) (s : State) : Out.mem s.mem (execZoomPlace k s) = s.mem := by
  simp only [execZoomPlace]
  repeat' first | with_reducible rfl | simp only [State.modChAcc_mem, State.setCluster_mem, Out.mem_next] | split | refine (foldl_mem _ (fun s x => ?_) _ _).trans ?_
@[simp] theorem State.switchMaps_mem (s : State) (t : Nat) : (State.switchMaps s t).mem = s.mem := by
  simp only [State.switchMaps]
  repeat' first | with_reducible rfl | simp only [State.activateMap_mem, State.incMod_mem, State.setChan_mem, State.mem_ite, ite_self] | split | refine (foldl_mem _ (fun s x => ?_) _ _).trans ?_
@[simp] theorem State.markMaps_mem (s : State) : (State.markMaps s).mem = s.mem := by
  simp only [State.markMaps]
  repeat' first | with_reducible rfl | simp only [State.setChan_mem, State.mem_ite, ite_self] | split | refine (foldl_mem _ (fun s x => ?_) _ _).trans ?_
@[simp] theorem State.closeAmb_mem (s : State) : (State.closeAmb s).mem = s.mem := by
  simp only [State.closeAmb]
  repeat' first | with_reducible rfl | simp only [State.modChAcc_mem] | split | refine (foldl_mem _ (fun s x => ?_) _ _).trans ?_
@[simp] theorem State.doSwap_mem (s : State) (t : Nat) : (State.doSwap s t).mem = s.mem := by
  simp only [State.doSwap]
  repeat' first | with_reducible rfl | simp only [State.markMaps_mem, State.markStale_mem, State.setB_mem, State.setF_mem, State.switchMaps_mem, State.withChans_mem, State.withClus_mem, State.withMash_mem, State.mem_ite, ite_self] | split | refine (foldl_mem _ (fun s x => ?_) _ _).trans ?_
@[simp] theorem State.mashTrigger_mem (s : State) (t : Nat) (g : Grant) : (State.mashTrigger s t g).mem = s.mem := by
  simp only [State.mashTrigger, State.doSwap_mem, State.withMash_mem, State.mem_ite, ite_self]
  repeat' first | with_reducible rfl | simp only [State.closeExpired_mem, State.setCluster_mem, State.mem_ite, ite_self] | split | refine (foldl_mem _ (fun s x => ?_) _ _).trans ?_
@[simp] theorem State.spargeEnd_mem (s : State) (t : Nat) : (State.spargeEnd s t).mem = s.mem := by
  simp only [State.spargeEnd, State.doSwap_mem, State.withMash_mem, State.withTun_mem, State.mem_ite, ite_self]
@[simp] theorem State.snapshot_mem (s : State) (c : Nat) (h : Hist) : (State.snapshot s c h).mem = s.mem := by
  simp only [State.snapshot, State.raise_mem, State.setB_mem, State.mem_ite]
  repeat' first | with_reducible rfl | simp only [State.rset_mem] | split | refine (foldl_mem _ (fun s x => ?_) _ _).trans ?_
@[simp] theorem State.passHist_mem (s : State) (c : Nat) (h : Hist) : (State.passHist s c h).mem = s.mem := by
  simp only [State.passHist, State.snapshot_mem, State.withHists_mem]
  repeat' first | with_reducible rfl | simp only [State.rset_mem] | split | refine (foldl_mem _ (fun s x => ?_) _ _).trans ?_
@[simp] theorem State.spargeClear_mem (s : State) (c : Nat) (errs : List (Nat × Bool)) : (State.spargeClear s c errs).mem = s.mem := by
  simp only [State.spargeClear, State.modChAcc_mem, State.withTun_mem]
  repeat' first | with_reducible rfl | simp only [State.binError_mem] | split | refine (foldl_mem _ (fun s x => ?_) _ _).trans ?_
@[simp] theorem State.spargeHist_mem (s : State) (c : Nat) (errs : List (Nat × Bool)) : (State.spargeHist s c errs).1.mem = s.mem := by
  simp only [State.spargeHist, State.passHist_mem, State.spargeClear_mem, State.mem_ite, ite_self, apply_ite Prod.fst]
@[simp] theorem State.snapArm_mem (s : State) : (State.snapArm s).mem = s.mem := by
  simp only [State.snapArm, State.setB_mem, State.withMash_mem]
@[simp] theorem State.tunClear_mem (s : State) : (State.tunClear s).mem = s.mem := by
  simp only [State.tunClear, State.setB_mem, State.setF_mem, State.withChans_mem]
  repeat' first | with_reducible rfl | simp only [State.setCluster_mem, State.setF_mem, State.withHists_mem, State.withMash_mem, State.withTun_mem] | split | refine (foldl_mem _ (fun s x => ?_) _ _).trans ?_
@[simp] theorem State.mashInvalid_mem (s : State) : (State.mashInvalid s).mem = s.mem := by
  simp only [State.mashInvalid, State.withClus_mem]

/-! ## Lauter -/

@[simp] theorem State.modLau_mem (s : State) (m : Nat) (g : LauCol → LauCol) : (State.modLau s m g).mem = s.mem := by
  simp only [State.modLau, State.withLau_mem]
@[simp] theorem State.hzdAssert_mem (s : State) : (State.hzdAssert s).mem = s.mem := by
  simp only [State.hzdAssert, State.raiseIf_mem, State.setB_mem]
@[simp] theorem State.lauOutcome_mem (s : State) (m : Nat) (o : FieldOut) (eff : SMap Word) : (State.lauOutcome s m o eff).mem = s.mem := by
  simp only [State.lauOutcome, State.hzdAssert_mem, State.modLau_mem, State.withLau_mem, State.mem_ite, ite_self]
@[simp] theorem State.lauExtract_mem (s : State) (c : Nat) : (State.lauExtract s c).1.mem = s.mem := by
  simp only [State.lauExtract, State.incSat_mem, State.lauOutcome_mem, State.raise_mem, State.raiseIf_mem, State.withHists_mem, State.withLau_mem, State.mem_ite, ite_self]
@[simp] theorem State.lauLatch_mem (s : State) (col : LauCol) (fue : List Nat) : (State.lauLatch s col fue).mem = s.mem := by
  simp only [State.lauLatch, State.withLau_mem]
  repeat' first | with_reducible rfl | simp only [State.logEvent_mem, State.raise_mem] | split | refine (foldl_mem _ (fun s x => ?_) _ _).trans ?_
@[simp] theorem State.lauSummary_mem (s : State) (m : Nat) : (State.lauSummary s m).mem = s.mem := by
  simp only [State.lauSummary, State.modLau_mem, State.setB_mem, State.setF_mem, State.withLau_mem, State.mem_ite, ite_self]

/-! ## Tin -/

@[simp] theorem State.tinPush_mem (s : State) (n : Nat) (stream : Bool) (w0 w1 : Nat) : (State.tinPush s n stream w0 w1).mem = s.mem := by
  simp only [State.tinPush, State.incSat_mem, State.raise_mem, State.setTin_mem, State.mem_ite, ite_self]
@[simp] theorem State.tinStop_mem (s : State) (n : Nat) (b : TinStamp) : (State.tinStop s n b).mem = s.mem := by
  simp only [State.tinStop]
  repeat' first | with_reducible rfl | simp only [State.raiseIf_mem, State.setTin_mem, State.tinPush_mem, State.mem_ite, ite_self] | split
theorem execTinEdge_mem (m : Nat) (rising : Bool) (tap : Nat) (s : State) : Out.mem s.mem (execTinEdge m rising tap s) = s.mem := by
  simp only [execTinEdge, State.incSat_mem, State.raise_mem, State.setTin_mem, State.tinPush_mem, ite_self, Out.mem_next, Out.mem_ite]
  repeat' first | with_reducible rfl | simp only [State.setTin_mem, State.tinStop_mem] | split | refine (foldl_mem _ (fun s x => ?_) _ _).trans ?_
@[simp] theorem State.tinCal_mem (s : State) (n : Nat) (h : List Nat) : (State.tinCal s n h).mem = s.mem := by
  simp only [State.tinCal, State.setF_mem, State.setTin_mem]
theorem execTinInterpCal_mem (n : Nat) (h : List Nat) (s : State) : Out.mem s.mem (execTinInterpCal n h s) = s.mem := by
  simp only [execTinInterpCal, State.tinCal_mem, State.mem_ite, ite_self, Out.mem_next]
@[simp] theorem State.tinPop_mem (s : State) (n : Nat) : (State.tinPop s n).mem = s.mem := by
  simp only [State.tinPop, State.setTin_mem]
theorem execTinQhiRead_mem (n : Nat) (s : State) : Out.mem s.mem (execTinQhiRead n s) = s.mem := by
  simp only [execTinQhiRead, State.tinPop_mem, State.mem_ite, ite_self, Out.mem_next]
@[simp] theorem State.tinCfgWrite_mem (s : State) (n : Nat) (v : Word) : (State.tinCfgWrite s n v).mem = s.mem := by
  simp only [State.tinCfgWrite, State.rset_mem]
@[simp] theorem State.tinTake_mem (s : State) (n : Nat) : (State.tinTake s n).mem = s.mem := by
  simp only [State.tinTake, State.setTin_mem, State.mem_ite, ite_self]
@[simp] theorem State.tinFollow_mem (s : State) : (State.tinFollow s).mem = s.mem := by
  simp only [State.tinFollow]
  repeat' first | with_reducible rfl | simp only [State.tinTake_mem] | split | refine (foldl_mem _ (fun s x => ?_) _ _).trans ?_
@[simp] theorem State.tinPhaseStep_mem (s : State) : (State.tinPhaseStep s).mem = s.mem := by
  simp only [State.tinPhaseStep]
  repeat' first | with_reducible rfl | simp only [State.setTin_mem, State.mem_ite, ite_self] | split | refine (foldl_mem _ (fun s x => ?_) _ _).trans ?_
@[simp] theorem State.tinPark_mem (s : State) : (State.tinPark s).mem = s.mem := by
  simp only [State.tinPark]
  repeat' first | with_reducible rfl | simp only [State.setTin_mem] | split | refine (foldl_mem _ (fun s x => ?_) _ _).trans ?_

/-! ## Wort -/

@[simp] theorem State.omitFrame_mem (s : State) (st frame cause : Nat) : (State.omitFrame s st frame cause).mem = s.mem := by
  simp only [State.omitFrame, State.incSat_mem, State.modStream_mem, State.mem_ite, ite_self]
@[simp] theorem State.setDgOpen_mem (s : State) (k : Nat) (d : Option (List OutRec × Nat)) : (State.setDgOpen s k d).mem = s.mem := by
  simp only [State.setDgOpen, State.withWort_mem]
@[simp] theorem State.closeDgram_mem (s : State) (k : Nat) : (State.closeDgram s k).mem = s.mem := by
  simp only [State.closeDgram]
  repeat' first | with_reducible rfl | simp only [State.setDgOpen_mem, State.withWort_mem] | split
@[simp] theorem State.dgramAdd_mem (s : State) (k : Nat) (r : OutRec) : (State.dgramAdd s k r).mem = s.mem := by
  simp only [State.dgramAdd, State.closeDgram_mem, State.setDgOpen_mem, State.mem_ite, ite_self]
theorem execDatagramCloseTimeout_mem (s : State) : Out.mem s.mem (execDatagramCloseTimeout s) = s.mem := by
  simp only [execDatagramCloseTimeout, State.closeDgram_mem, State.mem_ite, ite_self, Out.mem_next]
@[simp] theorem State.writeRec_mem (s : State) (st : Nat) (r : OutRec) : (State.writeRec s st r).mem = s.mem := by
  simp only [State.writeRec, State.dgramAdd_mem, State.modStream_mem, State.raiseIf_mem, State.mem_ite, ite_self]
@[simp] theorem State.startHead_mem (s : State) (st : Nat) : (State.startHead s st).mem = s.mem := by
  simp only [State.startHead]
  repeat' first | with_reducible rfl | simp only [State.modStream_mem, State.raiseIf_mem, State.writeRec_mem, State.mem_ite] | split | refine (foldl_mem _ (fun s x => ?_) _ _).trans ?_
@[simp] theorem State.finishHead_mem (s : State) (st : Nat) : (State.finishHead s st).mem = s.mem := by
  simp only [State.finishHead, State.closeDgram_mem, State.modStream_mem, State.startHead_mem, State.mem_ite, ite_self]
theorem State.settle_mem (s : State) (st k : Nat) : (s.settle st k).mem = s.mem := by
  induction k generalizing s with
  | zero => rfl
  | succ k ih =>
    unfold State.settle
    split
    · rfl
    · dsimp only
      split
      · rw [ih, State.finishHead_mem, State.modStream_mem]
      · rw [State.modStream_mem]
@[simp] theorem State.emitEcho_mem (s : State) (st : Nat) : (State.emitEcho s st).mem = s.mem := by
  simp only [State.emitEcho]
  repeat' first | with_reducible rfl | simp only [State.modStream_mem, State.writeRec_mem, State.settle_mem, State.mem_ite, ite_self] | split
theorem execEchoRecordEmit_mem (st : Nat) (s : State) : Out.mem s.mem (execEchoRecordEmit st s) = s.mem := by
  simp only [execEchoRecordEmit, State.emitEcho_mem, State.mem_ite, ite_self, Out.mem_next]
@[simp] theorem State.admitCol_mem (s : State) (st : Nat) (c : ColInfo) : (State.admitCol s st c).mem = s.mem := by
  simp only [State.admitCol, State.modStream_mem, State.omitFrame_mem, State.raise_mem, State.raiseIf_mem, State.setF_mem, State.startHead_mem, State.settle_mem, State.mem_ite, ite_self]
@[simp] theorem State.wortSkip_mem (s : State) : (State.wortSkip s).mem = s.mem := by
  simp only [State.wortSkip, State.omitFrame_mem, State.withWort_mem, State.mem_ite, ite_self]
@[simp] theorem State.wortScan_mem (s : State) : (State.wortScan s).mem = s.mem := by
  simp only [State.wortScan, State.withWort_mem]
theorem State.emitAll_mem (s : State) (st k : Nat) : (s.emitAll st k).mem = s.mem := by
  induction k generalizing s with
  | zero => rfl
  | succ k ih => rw [State.emitAll, ih, State.emitEcho_mem]
@[simp] theorem State.wortDone_mem (s : State) (m ch : Nat) (es : List Echo) : (State.wortDone s m ch es).mem = s.mem := by
  simp only [State.wortDone, State.withWort_mem, State.settle_mem]
@[simp] theorem State.forgetDone_mem (s : State) (m : Nat) : (State.forgetDone s m).mem = s.mem := by
  simp only [State.forgetDone, State.withWort_mem]
@[simp] theorem State.wortForget_mem (s : State) (m : Nat) : (State.wortForget s m).mem = s.mem := by
  simp only [State.wortForget, State.forgetDone_mem, State.emitAll_mem]
@[simp] theorem State.cutStream_mem (s : State) (st : Nat) (frames : List Nat) (x : Resumed) : (State.cutStream s st frames x).mem = s.mem := by
  simp only [State.cutStream, State.modStream_mem, State.raiseIf_mem]
@[simp] theorem State.cutDwl_mem (s : State) (frames : List Nat) (lost : List GapRun) (cause : Nat) : (State.cutDwl s frames lost cause).mem = s.mem := by
  simp only [State.cutDwl, State.cutStream_mem, State.incSat_mem, State.modStream_mem, State.startHead_mem, State.mem_ite, ite_self]
@[simp] theorem State.anchorCommit_mem (s : State) : (State.anchorCommit s).mem = s.mem := by
  simp only [State.anchorCommit, State.withAnchor_mem]
@[simp] theorem State.cutEth_mem (s : State) (frames : List Nat) (lost : List GapRun) (cause : Nat) (pts : List Dgram) (op : Option (List OutRec × Nat)) : (State.cutEth s frames lost cause pts op).mem = s.mem := by
  simp only [State.cutEth, State.cutStream_mem, State.startHead_mem, State.withWort_mem]

/-! ## Dwl -/

@[simp] theorem State.frameSent_mem (s : State) (f : DwlFrame) : (State.frameSent s f).mem = s.mem := by
  simp only [State.frameSent, State.incMod_mem, State.withWort_mem, State.mem_ite, ite_self]
@[simp] theorem State.dwlSettle_mem (s : State) : (State.dwlSettle s).mem = s.mem := by
  simp only [State.dwlSettle]
  repeat' first | with_reducible rfl | simp only [State.frameSent_mem, State.withDwl_mem] | split | refine (foldl_mem _ (fun s x => ?_) _ _).trans ?_
@[simp] theorem State.dwlStart_mem (s : State) (lane chan : Nat) (hdr : Word) (pay : List Word) (recs : List OutRec) : (State.dwlStart s lane chan hdr pay recs).mem = s.mem := by
  simp only [State.dwlStart, State.withDwl_mem]
@[simp] theorem State.wortUe_mem (s : State) : (State.wortUe s).mem = s.mem := by
  simp only [State.wortUe, State.fresh_mem, State.incSat_mem, State.logEvent_mem, State.raise_mem]
@[simp] theorem State.wortCe_mem (s : State) : (State.wortCe s).mem = s.mem := by
  simp only [State.wortCe, State.incSat_mem, State.raise_mem]
@[simp] theorem State.wortEcc_mem (s : State) (err : Option (Nat × Bool)) : (State.wortEcc s err).mem = s.mem := by
  simp only [State.wortEcc]
  repeat' first | with_reducible rfl | simp only [State.cutDwl_mem, State.modStream_mem, State.wortCe_mem, State.wortUe_mem] | split
theorem execDwlPointFrame_mem (err : Option (Nat × Bool)) (s : State) : Out.mem s.mem (execDwlPointFrame err s) = s.mem := by
  simp only [execDwlPointFrame, State.dwlSettle_mem, State.dwlStart_mem, State.modStream_mem, State.setF_mem, State.withDwl_mem, State.wortEcc_mem, ite_self, Out.mem_next, Out.mem_ite]
theorem execDwlLrsFrame_mem (s : State) : Out.mem s.mem (execDwlLrsFrame s) = s.mem := by
  simp only [execDwlLrsFrame, State.dwlSettle_mem, State.dwlStart_mem, State.withDwl_mem, ite_self, Out.mem_next, Out.mem_ite]
@[simp] theorem State.sidePush_mem (s : State) (lane : Nat) (msg : List Word) : (State.sidePush s lane msg).mem = s.mem := by
  simp only [State.sidePush, State.withDwl_mem, State.mem_ite, ite_self]
@[simp] theorem State.sideSend_mem (s : State) : (State.sideSend s).mem = s.mem := by
  simp only [State.sideSend]
  repeat' first | with_reducible rfl | simp only [State.dwlStart_mem, State.withDwl_mem, State.mem_ite, ite_self] | split
@[simp] theorem State.dwlDown_mem (s : State) : (State.dwlDown s).mem = s.mem := by
  simp only [State.dwlDown, State.cutDwl_mem, State.dwlSettle_mem, State.incSat_mem, State.raise_mem, State.setB_mem, State.withDwl_mem, State.mem_ite, ite_self]
@[simp] theorem State.dwlFollow_mem (s : State) : (State.dwlFollow s).mem = s.mem := by
  simp only [State.dwlFollow, State.dwlDown_mem, State.withDwl_mem, State.mem_ite, ite_self]
@[simp] theorem State.dwlReset_mem (s : State) : (State.dwlReset s).mem = s.mem := by
  simp only [State.dwlReset, State.cutDwl_mem]
  repeat' first | with_reducible rfl | simp only [State.dwlSettle_mem, State.raise_mem, State.rset_mem, State.setB_mem, State.withDwl_mem] | split | refine (foldl_mem _ (fun s x => ?_) _ _).trans ?_
theorem execDwlCreditReceive_mem (lane : Nat) (ccum : BitVec 16) (ok : Bool) (s : State) : Out.mem s.mem (execDwlCreditReceive lane ccum ok s) = s.mem := by
  simp only [execDwlCreditReceive, State.dwlSettle_mem, State.incSat_mem, State.raise_mem, State.setB_mem, State.setF_mem, State.withDwl_mem, State.mem_ite, ite_self, Out.mem_next, Out.mem_ite]
theorem execDwlCreditTimeout_mem (old : Bool) (s : State) : Out.mem s.mem (execDwlCreditTimeout old s) = s.mem := by
  simp only [execDwlCreditTimeout, State.raise_mem, ite_self, Out.mem_next, Out.mem_ite]

/-! ## Time -/

@[simp] theorem State.ctrTo_mem (s : State) (n : Int) : (State.ctrTo s n).mem = s.mem := by
  simp only [State.ctrTo, State.line_mem, State.raise_mem, State.setFs_mem, State.withTime_mem, State.mem_ite, ite_self]
@[simp] theorem State.ppsCheck_mem (s : State) : (State.ppsCheck s).mem = s.mem := by
  simp only [State.ppsCheck, State.setB_mem, State.withPins_mem, State.mem_ite, ite_self]
@[simp] theorem State.tclkEdges_mem (s : State) (k : Nat) : (State.tclkEdges s k).mem = s.mem := by
  simp only [State.tclkEdges, State.adcStamp_mem, State.ctrTo_mem, State.line_mem, State.ppsCheck_mem, State.raise_mem, State.setB_mem, State.tinFollow_mem, State.tinPhaseStep_mem, State.withNow_mem, State.withTime_mem, State.mem_ite, ite_self]
@[simp] theorem State.tclkTick_mem (s : State) : (State.tclkTick s).mem = s.mem := by
  simp only [State.tclkTick, State.dwlSettle_mem, State.sideSend_mem, State.tclkEdges_mem]
theorem execTimeOffsetApply_mem (s : State) : Out.mem s.mem (execTimeOffsetApply s) = s.mem := by
  simp only [execTimeOffsetApply, State.tclkEdges_mem, State.mem_ite, ite_self, Out.mem_next]
theorem execTimeCounterWrap_mem (s : State) : Out.mem s.mem (execTimeCounterWrap s) = s.mem := by
  simp only [execTimeCounterWrap, State.tclkEdges_mem, Out.mem_next]
theorem execPpsPulse_mem (s : State) : Out.mem s.mem (execPpsPulse s) = s.mem := by
  simp only [execPpsPulse, State.ppsCheck_mem, Out.mem_next]
theorem execPpsPulseEnd_mem (s : State) : Out.mem s.mem (execPpsPulseEnd s) = s.mem := by
  simp only [execPpsPulseEnd, State.withPins_mem, State.mem_ite, ite_self, Out.mem_next]
theorem execTimeNsRead_mem (s : State) : Out.mem s.mem (execTimeNsRead s) = s.mem := by
  simp only [execTimeNsRead, State.setF_mem, Out.mem_next]
@[simp] theorem State.timeIncWrite_mem (s : State) (v : Word) : (State.timeIncWrite s v).mem = s.mem := by
  simp only [State.timeIncWrite, State.raiseIf_mem, State.rset_mem]
theorem execTimeIncWrite_mem (v : Word) (s : State) : Out.mem s.mem (execTimeIncWrite v s) = s.mem := by
  simp only [execTimeIncWrite, State.timeIncWrite_mem, Out.mem_next]
@[simp] theorem State.timeOfsWrite_mem (s : State) (v : Word) : (State.timeOfsWrite s v).mem = s.mem := by
  simp only [State.timeOfsWrite, State.setB_mem, State.withTime_mem]
theorem execTimeOfsWrite_mem (v : Word) (s : State) : Out.mem s.mem (execTimeOfsWrite v s) = s.mem := by
  simp only [execTimeOfsWrite, State.timeOfsWrite_mem, Out.mem_next]
@[simp] theorem State.timeInvalid_mem (s : State) : (State.timeInvalid s).mem = s.mem := by
  simp only [State.timeInvalid, State.setB_mem, State.withPins_mem]
@[simp] theorem State.timeCtrlWrite_mem (s : State) (m : Nat) (v : Word) : (State.timeCtrlWrite s m v).mem = s.mem := by
  simp only [State.timeCtrlWrite, State.rset_mem, State.setB_mem, State.timeInvalid_mem, State.mem_ite, ite_self]
theorem execTimeCtrlWrite_mem (m : Nat) (v : Word) (s : State) : Out.mem s.mem (execTimeCtrlWrite m v s) = s.mem := by
  simp only [execTimeCtrlWrite, State.timeCtrlWrite_mem, Out.mem_next]
@[simp] theorem State.timePpsWrite_mem (s : State) (v : Word) : (State.timePpsWrite s v).mem = s.mem := by
  simp only [State.timePpsWrite, State.raise_mem, State.rset_mem, State.setB_mem, State.mem_ite, ite_self]
theorem execTimePpsWrite_mem (v : Word) (s : State) : Out.mem s.mem (execTimePpsWrite v s) = s.mem := by
  simp only [execTimePpsWrite, State.timePpsWrite_mem, Out.mem_next]

/-! ## Lane -/

@[simp] theorem State.laneRates_mem (s : State) : (State.laneRates s).mem = s.mem := by
  simp only [State.laneRates]
  repeat' first | with_reducible rfl | simp only [State.setF_mem] | split | refine (foldl_mem _ (fun s x => ?_) _ _).trans ?_
@[simp] theorem State.dgRelease_mem (s : State) (k q : Nat) : (State.dgRelease s k q).mem = s.mem := by
  simp only [State.dgRelease, State.mem_ite]
  repeat' first | with_reducible rfl | simp only [State.withWort_mem, State.mem_ite, ite_self] | split
@[simp] theorem State.dgRecall_mem (s : State) (p : Nat) : (State.dgRecall s p).mem = s.mem := by
  simp only [State.dgRecall]
  repeat' first | with_reducible rfl | simp only [State.dgRelease_mem, State.setEth_mem] | split | refine (foldl_mem _ (fun s x => ?_) _ _).trans ?_
@[simp] theorem State.ethDown_mem (s : State) (p : Nat) : (State.ethDown s p).mem = s.mem := by
  simp only [State.ethDown, State.dgRecall_mem, State.incMod_mem, State.raise_mem, State.setB_mem, State.mem_ite, ite_self]
@[simp] theorem State.laneLost_mem (s : State) (n : Nat) : (State.laneLost s n).mem = s.mem := by
  simp only [State.laneLost, State.mem_ite]
  repeat' first | with_reducible rfl | simp only [State.dwlFollow_mem, State.ethDown_mem, State.raise_mem, State.setB_mem, State.setF_mem, State.setLane_mem] | split
theorem execLaneAlignAcquired_mem (n : Nat) (s : State) : Out.mem s.mem (execLaneAlignAcquired n s) = s.mem := by
  simp only [execLaneAlignAcquired, State.setB_mem, State.setLane_mem, State.mem_ite, ite_self, Out.mem_next, Out.mem_ite]
theorem execLaneCodeError_mem (n good kind : Nat) (s : State) (lost : Bool) : Out.mem s.mem (execLaneCodeError n good kind s lost) = s.mem := by
  simp only [execLaneCodeError, State.incSat_mem, State.laneLost_mem, State.setLane_mem, State.mem_ite, ite_self, Out.mem_next, Out.mem_ite]
@[simp] theorem State.setDfe_mem (s : State) (n : Nat) (d1 d2 d3 : BitVec 6) : (State.setDfe s n d1 d2 d3).mem = s.mem := by
  simp only [State.setDfe, State.setF_mem]
theorem execLaneAdaptDone_mem (n : Nat) (eyes : List (Nat × Nat)) (d1 d2 d3 : BitVec 6) (s : State) : Out.mem s.mem (execLaneAdaptDone n eyes d1 d2 d3 s) = s.mem := by
  simp only [execLaneAdaptDone, State.raiseIf_mem, State.setB_mem, State.setDfe_mem, State.setF_mem, State.setLane_mem, ite_self, Out.mem_next, Out.mem_ite]
theorem execEyeMeasure_mem (n h v : Nat) (d1 d2 d3 : BitVec 6) (s : State) : Out.mem s.mem (execEyeMeasure n h v d1 d2 d3 s) = s.mem := by
  simp only [execEyeMeasure, State.raiseIf_mem, State.setDfe_mem, State.setF_mem, State.mem_ite, ite_self, Out.mem_next, Out.mem_ite]
theorem execLanePllLock_mem (s : State) : Out.mem s.mem (execLanePllLock s) = s.mem := by
  simp only [execLanePllLock, State.setB_mem, State.mem_ite, ite_self, Out.mem_next]
theorem execLanePllLoss_mem (s : State) : Out.mem s.mem (execLanePllLoss s) = s.mem := by
  simp only [execLanePllLoss, Out.mem_next]
  repeat' first | with_reducible rfl | simp only [State.laneLost_mem, State.setB_mem] | split | refine (foldl_mem _ (fun s x => ?_) _ _).trans ?_

/-! ## Eth -/

@[simp] theorem State.prpCommit_mem (s : State) : (State.prpCommit s).mem = s.mem := by
  simp only [State.prpCommit, State.raiseIf_mem, State.setB_mem]
@[simp] theorem State.ethCfgWrite_mem (s : State) (p : Nat) (v : Word) : (State.ethCfgWrite s p v).mem = s.mem := by
  simp only [State.ethCfgWrite, State.ethDown_mem, State.laneRates_mem]
  repeat' first | with_reducible rfl | simp only [State.rset_mem, State.setF_mem] | split
theorem execEthModeWrite_mem (p : Nat) (v : Word) (s : State) : Out.mem s.mem (execEthModeWrite p v s) = s.mem := by
  simp only [execEthModeWrite, State.ethCfgWrite_mem, State.mem_ite, ite_self, Out.mem_next]
@[simp] theorem State.ethKick_mem (s : State) (p : Nat) : (State.ethKick s p).mem = s.mem := by
  simp only [State.ethKick, State.mem_ite]
  repeat' first | with_reducible rfl | simp only [State.setEth_mem] | split
@[simp] theorem State.ethPush_mem (s : State) (p : Nat) (f : TxFr) : (State.ethPush s p f).mem = s.mem := by
  simp only [State.ethPush, State.ethKick_mem, State.setEth_mem]
@[simp] theorem State.ipOpen_mem (s : State) (f : TxFr) : (State.ipOpen s f).1.mem = s.mem := by
  simp only [State.ipOpen]
  repeat' first | with_reducible rfl | simp only [State.fresh_mem] | split
@[simp] theorem State.ethSend_mem (s : State) (p : Nat) (f : TxFr) : (State.ethSend s p f).mem = s.mem := by
  simp only [State.ethSend, State.ethPush_mem, State.incMod_mem, State.ipOpen_mem, State.setB_mem, State.mem_ite, ite_self]
@[simp] theorem State.txcmdWrite_mem (s : State) (p : Nat) (v : Word) : (State.txcmdWrite s p v).mem = s.mem := by
  simp only [State.txcmdWrite, State.ethSend_mem, State.incSat_mem, State.rset_mem, State.setB_mem, State.mem_ite, ite_self]
theorem execEthTxcmdGo_mem (p : Nat) (v : Word) (s : State) : Out.mem s.mem (execEthTxcmdGo p v s) = s.mem := by
  simp only [execEthTxcmdGo, State.txcmdWrite_mem, State.mem_ite, ite_self, Out.mem_next]
@[simp] theorem State.dgSent_mem (s : State) (k q : Nat) : (State.dgSent s k q).mem = s.mem := by
  simp only [State.dgSent, State.withWort_mem]
theorem execEthFrameTransmitDone_mem (p d : Nat) (s : State) (par : Bool) : Out.mem s.mem (execEthFrameTransmitDone p d s par) = s.mem := by
  simp only [execEthFrameTransmitDone, Out.mem_next, Out.mem_ite]
  repeat' first | with_reducible rfl | simp only [State.dgRelease_mem, State.dgSent_mem, State.ethKick_mem, State.incMod_mem, State.incSat_mem, State.raise_mem, State.setB_mem, State.setEth_mem, State.mem_ite, ite_self, Out.mem_next] | split
theorem execEthTxts2Read_mem (p : Nat) (s : State) : Out.mem s.mem (execEthTxts2Read p s) = s.mem := by
  simp only [execEthTxts2Read, State.setEth_mem, State.mem_ite, ite_self, Out.mem_next]
theorem execEthLinkChange_mem (p : Nat) (up refused : Bool) (s : State) : Out.mem s.mem (execEthLinkChange p up refused s) = s.mem := by
  simp only [execEthLinkChange, State.ethDown_mem, State.ethKick_mem, State.raiseIf_mem, State.setB_mem, ite_self, Out.mem_next, Out.mem_ite]
@[simp] theorem State.ethReset_mem (s : State) (p : Nat) : (State.ethReset s p).mem = s.mem := by
  simp only [State.ethReset]
  repeat' first | with_reducible rfl | simp only [State.dgRecall_mem, State.ethDown_mem, State.rset_mem, State.setEth_mem] | split | refine (foldl_mem _ (fun s x => ?_) _ _).trans ?_
@[simp] theorem State.dropHop_mem (s : State) (q ip : Nat) : (State.dropHop s q ip).mem = s.mem := by
  simp only [State.dropHop]
  repeat' first | with_reducible rfl | simp only [State.dgRelease_mem, State.setEth_mem] | split | refine (foldl_mem _ (fun s x => ?_) _ _).trans ?_
@[simp] theorem State.arpAsk_mem (s : State) (p : Nat) (ip : Nat) : (State.arpAsk s p ip).mem = s.mem := by
  simp only [State.arpAsk, State.ethSend_mem, State.setEth_mem, State.mem_ite, ite_self]
theorem execArpRefresh_mem (p : Nat) (ip : Word) (s : State) : Out.mem s.mem (execArpRefresh p ip s) = s.mem := by
  simp only [execArpRefresh, Out.mem_next, Out.mem_ite]
  repeat' first | with_reducible rfl | simp only [State.dropHop_mem, State.ethSend_mem, State.setEth_mem, ite_self, Out.mem_next, Out.mem_ite] | split
@[simp] theorem State.hwReply_mem (s : State) (p : Nat) (body : TxBody) : (State.hwReply s p body).mem = s.mem := by
  simp only [State.hwReply, State.ethSend_mem, State.incSat_mem, State.setEth_mem, State.mem_ite, ite_self]
@[simp] theorem State.ethFilt_mem (s : State) (p : Nat) : (State.ethFilt s p).mem = s.mem := by
  simp only [State.ethFilt, State.incSat_mem]
@[simp] theorem State.qstat_mem (s : State) (p : Nat) : (State.qstat s p).mem = s.mem := by
  simp only [State.qstat, State.setF_mem]
@[simp] theorem State.ethQueue_mem (s : State) (p cls d : Nat) (fr : List Byte) : (State.ethQueue s p cls d fr).mem = s.mem := by
  simp only [State.ethQueue]
  repeat' first | with_reducible rfl | simp only [State.incSat_mem, State.qstat_mem, State.raise_mem, State.setEth_mem, State.mem_ite, ite_self] | split
@[simp] theorem State.prpCheck_mem (s : State) (mac q : Nat) : (State.prpCheck s mac q).2.mem = s.mem := by
  simp only [State.prpCheck]
  repeat' first | with_reducible rfl | simp only [State.withPrp_mem, State.mem_ite, ite_self, apply_ite Prod.snd] | split
theorem execPrpEntryForget_mem (mac : BitVec 48) (s : State) : Out.mem s.mem (execPrpEntryForget mac s) = s.mem := by
  simp only [execPrpEntryForget, State.withPrp_mem, Out.mem_next]
theorem execPrpSupervisionSend_mem (s : State) : Out.mem s.mem (execPrpSupervisionSend s) = s.mem := by
  simp only [execPrpSupervisionSend, State.ethSend_mem, State.setEth_mem, State.mem_ite, ite_self, Out.mem_next]
@[simp] theorem State.arpRx_mem (s : State) (p : Nat) (fr : List Byte) (o : Nat) : (State.arpRx s p fr o).mem = s.mem := by
  simp only [State.arpRx, State.ethKick_mem, State.hwReply_mem, State.setEth_mem, State.mem_ite, ite_self]
@[simp] theorem State.classify_mem (s : State) (p : Nat) (fr : List Byte) (d : Nat) : (State.classify s p fr d).mem = s.mem := by
  simp only [State.classify, State.arpRx_mem, State.ethFilt_mem, State.ethQueue_mem, State.hwReply_mem, State.incSat_mem, State.withParkWake_mem, State.mem_ite, ite_self]
theorem execEthFrameReceive_mem (p : Nat) (fr : List Byte) (fcs : Bool) (d : Nat) (s : State) : Out.mem s.mem (execEthFrameReceive p fr fcs d s) = s.mem := by
  unfold execEthFrameReceive
  repeat' first | with_reducible rfl | split | simp only [State.classify_mem, State.ethFilt_mem, State.incMod_mem, State.incSat_mem, State.prpCheck_mem, State.raise_mem, ite_self, Out.mem_next, Out.mem_ite]
@[simp] theorem State.qpop_mem (s : State) (p : Nat) : (State.qpop s p).mem = s.mem := by
  simp only [State.qpop, State.qstat_mem, State.setEth_mem]
theorem execEthQpop_mem (p : Nat) (s : State) : Out.mem s.mem (execEthQpop p s) = s.mem := by
  simp only [execEthQpop, State.qpop_mem, State.mem_ite, ite_self, Out.mem_next]
@[simp] theorem State.ethEcc_mem (s : State) (d : Dgram) (err : Option (Nat × Bool)) : (State.ethEcc s d err).1.mem = s.mem := by
  simp only [State.ethEcc]
  repeat' first | with_reducible rfl | simp only [State.cutEth_mem, State.withWort_mem, State.wortCe_mem, State.wortUe_mem, State.mem_ite, ite_self, apply_ite Prod.fst] | split
@[simp] theorem State.dgSend_mem (s : State) (p k dst : Nat) (d : Dgram) : (State.dgSend s p k dst d).mem = s.mem := by
  simp only [State.dgSend, State.ethSend_mem, State.withWort_mem]
theorem execDatagramSend_mem (stream : Nat) (s : State) (err : Option (Nat × Bool)) : Out.mem s.mem (execDatagramSend stream s err) = s.mem := by
  simp only [execDatagramSend, Out.mem_next, Out.mem_ite]
  repeat' first | with_reducible rfl | simp only [State.arpAsk_mem, State.dgSend_mem, State.ethEcc_mem, Out.mem_next, Out.mem_ite] | split
theorem execDatagramDiscard_mem (s : State) : Out.mem s.mem (execDatagramDiscard s) = s.mem := by
  simp only [execDatagramDiscard]
  repeat' first | with_reducible rfl | simp only [State.cutEth_mem, State.setEth_mem, State.withWort_mem, Out.mem_next, Out.mem_ite] | split | refine (foldl_mem _ (fun s x => ?_) _ _).trans ?_

/-! ## Cask -/

@[simp] theorem State.caskRefuse_mem (s : State) : (State.caskRefuse s).mem = s.mem := by
  simp only [State.caskRefuse, State.incSat_mem, State.logEvent_mem, State.raise_mem, State.withCask_mem, State.mem_ite, ite_self]
@[simp] theorem State.caskActivate_mem (s : State) : (State.caskActivate s).mem = s.mem := by
  simp only [State.caskActivate, State.setB_mem, State.withCal_mem]
@[simp] theorem State.caskApply_mem (s : State) : (State.caskApply s).mem = s.mem := by
  simp only [State.caskApply, State.caskRefuse_mem, State.nvmPush_mem, State.mem_ite, ite_self]
theorem execCaskApply_mem (s : State) : Out.mem s.mem (execCaskApply s) = s.mem := by
  simp only [execCaskApply, State.caskApply_mem, Out.mem_next]
@[simp] theorem State.calcfgWrite_mem (s : State) (v : Word) : (State.calcfgWrite s v).mem = s.mem := by
  simp only [State.calcfgWrite, State.caskApply_mem, State.caskRefuse_mem, State.setF_mem, State.mem_ite, ite_self]
theorem execCaskCopyBackDone_mem (s : State) : Out.mem s.mem (execCaskCopyBackDone s) = s.mem := by
  simp only [execCaskCopyBackDone, State.setB_mem, Out.mem_next]
@[simp] theorem State.lrsGo_mem (s : State) : (State.lrsGo s).mem = s.mem := by
  simp only [State.lrsGo, State.setB_mem, State.withCask_mem, State.mem_ite, ite_self]
theorem execCaskLrsgo_mem (s : State) : Out.mem s.mem (execCaskLrsgo s) = s.mem := by
  simp only [execCaskLrsgo, State.lrsGo_mem, Out.mem_next]
@[simp] theorem State.lrsOwn_mem (s : State) (first : Bool) (kind : Nat) (data : List Word) : (State.lrsOwn s first kind data).mem = s.mem := by
  simp only [State.lrsOwn, State.withCask_mem, State.mem_ite, ite_self]
@[simp] theorem State.seqNext_mem (s : State) : (State.seqNext s).mem = s.mem := by
  simp only [State.seqNext, State.nvmPush_mem, State.setB_mem, State.withCask_mem, State.mem_ite, ite_self]
theorem execLrsRecordIssue_mem (s : State) : Out.mem s.mem (execLrsRecordIssue s) = s.mem := by
  simp only [execLrsRecordIssue]
  repeat' first | with_reducible rfl | simp only [State.dgramAdd_mem, State.line_mem, State.seqNext_mem, State.withCask_mem, State.withWort_mem, State.mem_ite, ite_self, Out.mem_next, Out.mem_ite] | split
@[simp] theorem State.applyDone_mem (s : State) : (State.applyDone s).mem = s.mem := by
  simp only [State.applyDone, State.caskActivate_mem, State.logEvent_mem, State.lrsOwn_mem, State.setB_mem, State.withNvm_mem, State.mem_ite, ite_self]
@[simp] theorem State.caskBoundary_mem (s : State) : (State.caskBoundary s).mem = s.mem := by
  simp only [State.caskBoundary, State.lrsOwn_mem, State.raise_mem, State.setB_mem, State.mem_ite, ite_self]
@[simp] theorem State.serviceEnter_mem (s : State) : (State.serviceEnter s).mem = s.mem := by
  simp only [State.serviceEnter, State.withCask_mem]
@[simp] theorem State.serviceLeave_mem (s : State) : (State.serviceLeave s).mem = s.mem := by
  simp only [State.serviceLeave, State.lrsOwn_mem, State.mem_ite, ite_self]
  repeat' first | with_reducible rfl | simp only [State.caskRefuse_mem, State.withNvm_mem] | split | refine (foldl_mem _ (fun s x => ?_) _ _).trans ?_
@[simp] theorem State.caskCommit_mem (s : State) : (State.caskCommit s).mem = s.mem := by
  simp only [State.caskCommit, State.caskActivate_mem, State.lrsOwn_mem, State.nvmPush_mem, State.setB_mem, State.withCask_mem, State.mem_ite, ite_self]

/-! ## Dsp -/

@[simp] theorem State.modCore_mem (s : State) (c : Nat) (g : CoreSt → CoreSt) : (State.modCore s c g).mem = s.mem := by
  simp only [State.modCore, State.setCore_mem]
@[simp] theorem State.coreCycles_mem (s : State) (c n5 : Nat) : (State.coreCycles s c n5).mem = s.mem := by
  simp only [State.coreCycles, State.line_mem, State.setCore_mem, State.mem_ite, ite_self]
@[simp] theorem State.coreTick_mem (s : State) : (State.coreTick s).mem = s.mem := by
  simp only [State.coreTick, State.coreCycles_mem]
theorem execTimerCompareMatch_mem (c : Nat) (s : State) : Out.mem s.mem (execTimerCompareMatch c s) = s.mem := by
  simp only [execTimerCompareMatch, State.coreCycles_mem, State.mem_ite, ite_self, Out.mem_next]
@[simp] theorem State.wdtReload_mem (s : State) (c : Nat) : (State.wdtReload s c).mem = s.mem := by
  simp only [State.wdtReload, State.setF_mem]
@[simp] theorem State.wdtExpire_mem (s : State) (c : Nat) : (State.wdtExpire s c).mem = s.mem := by
  simp only [State.wdtExpire, State.raiseReset_mem, State.wdtReload_mem]
@[simp] theorem State.wdtTick_mem (s : State) (c : Nat) : (State.wdtTick s c).mem = s.mem := by
  simp only [State.wdtTick, State.setF_mem, State.wdtExpire_mem, State.mem_ite, ite_self]
@[simp] theorem State.wdtKick_mem (s : State) (c : Nat) (v : Word) : (State.wdtKick s c v).mem = s.mem := by
  simp only [State.wdtKick, State.wdtExpire_mem, State.wdtReload_mem, State.mem_ite, ite_self]
theorem execWdtkick_mem (c : Nat) (v : Word) (s : State) : Out.mem s.mem (execWdtkick c v s) = s.mem := by
  simp only [execWdtkick, State.wdtKick_mem, State.mem_ite, ite_self, Out.mem_next]
@[simp] theorem State.coreStart_mem (s : State) (c cause : Nat) : (State.coreStart s c cause).mem = s.mem := by
  simp only [State.coreStart, State.setCore_mem, State.setF_mem, State.wdtReload_mem, State.withLines_mem, State.mem_ite, ite_self]
theorem execDspCoreStart_mem (c cause : Nat) (s : State) : Out.mem s.mem (execDspCoreStart c cause s) = s.mem := by
  simp only [execDspCoreStart, State.coreStart_mem, State.mem_ite, ite_self, Out.mem_next]
@[simp] theorem State.corePark_mem (s : State) (c : Nat) : (State.corePark s c).mem = s.mem := by
  simp only [State.corePark, State.modCore_mem, State.mem_ite, ite_self]
@[simp] theorem State.mbox7_mem (s : State) (c : Nat) (v : Word) : (State.mbox7 s c v).mem = s.mem := by
  simp only [State.mbox7, State.line_mem, State.rset_mem]
theorem execMbox7Write_mem (c : Nat) (v : Word) (s : State) : Out.mem s.mem (execMbox7Write c v s) = s.mem := by
  simp only [execMbox7Write, State.mbox7_mem, State.mem_ite, ite_self, Out.mem_next]
@[simp] theorem State.dspCe_mem (s : State) (c a : Nat) : (State.dspCe s c a).mem = s.mem := by
  simp only [State.dspCe, State.incSat_mem, State.raise_mem, State.setF_mem]
@[simp] theorem State.dspUe_mem (s : State) (c a : Nat) : (State.dspUe s c a).mem = s.mem := by
  simp only [State.dspUe, State.incSat_mem, State.logEvent_mem, State.raise_mem, State.setF_mem]
@[simp] theorem State.tapReserve_mem (s : State) (c : Nat) (i : ColInfo) : (State.tapReserve s c i).mem = s.mem := by
  simp only [State.tapReserve, State.fresh_mem, State.incSat_mem, State.line_mem, State.modCore_mem, State.raise_mem, State.mem_ite, ite_self]
@[simp] theorem State.dmaGo_mem (s : State) (n : Nat) : (State.dmaGo s n).mem = s.mem := by
  simp only [State.dmaGo, State.setB_mem, State.withDma_mem, State.mem_ite, ite_self]
theorem execDmaGo_mem (n : Nat) (s : State) : Out.mem s.mem (execDmaGo n s) = s.mem := by
  simp only [execDmaGo, State.dmaGo_mem, State.mem_ite, ite_self, Out.mem_next]
@[simp] theorem State.dmaReset_mem (s : State) (n : Nat) : (State.dmaReset s n).mem = s.mem := by
  simp only [State.dmaReset, State.setF_mem, State.withDma_mem]

/-! ## Guard -/

@[simp] theorem State.rebuildBearing_mem (s : State) : (State.rebuildBearing s).mem = s.mem := by
  simp only [State.rebuildBearing, State.withGuard_mem]
@[simp] theorem State.guardColumn_mem (s : State) (m az n : Nat) (inh : Bool) : (State.guardColumn s m az n inh).mem = s.mem := by
  simp only [State.guardColumn, State.raiseIf_mem, State.setB_mem, State.withGuard_mem, State.mem_ite, ite_self]
@[simp] theorem State.guardTrigger_mem (s : State) (az : Nat) : (State.guardTrigger s az).mem = s.mem := by
  simp only [State.guardTrigger, State.intrude_mem, State.mem_ite, ite_self]
@[simp] theorem State.guardOutcome_mem (s : State) (m : Nat) (field prot unev warn : Bool) (shots : Nat) : (State.guardOutcome s m field prot unev warn shots).mem = s.mem := by
  simp only [State.guardOutcome]
  repeat' first | with_reducible rfl | simp only [State.intrude_mem, State.withGuard_mem, State.mem_ite, ite_self] | split
@[simp] theorem State.guardColDone_mem (s : State) (m : Nat) : (State.guardColDone s m).mem = s.mem := by
  simp only [State.guardColDone]
  repeat' first | with_reducible rfl | simp only [State.setGsweep_mem, State.withGuard_mem] | split
@[simp] theorem State.guardSweepEnd_mem (s : State) (n : Nat) (whole : Bool) : (State.guardSweepEnd s n whole).mem = s.mem := by
  simp only [State.guardSweepEnd, State.incSat_mem, State.setB_mem, State.setF_mem, State.withGuard_mem, State.mem_ite, ite_self]
@[simp] theorem State.guardSweepBegin_mem (s : State) : (State.guardSweepBegin s).mem = s.mem := by
  simp only [State.guardSweepBegin, State.setGsweep_mem, State.mem_ite, ite_self]
@[simp] theorem State.guardScanEntry_mem (s : State) : (State.guardScanEntry s).mem = s.mem := by
  simp only [State.guardScanEntry, State.guardInhibit_mem, State.setB_mem, State.setF_mem, State.withGuard_mem, State.mem_ite, ite_self]
theorem execEnEdge_mem (ch : Nat) (level : Bool) (s : State) : Out.mem s.mem (execEnEdge ch level s) = s.mem := by
  simp only [execEnEdge, State.guardFollow_mem, State.withGuard_mem, Out.mem_next]
@[simp] theorem State.discLatch_mem (s : State) : (State.discLatch s).mem = s.mem := by
  simp only [State.discLatch, State.guardFollow_mem, State.incSat_mem, State.logEvent_mem, State.raise_mem, State.setB_mem, State.withGuard_mem]
@[simp] theorem State.discTick_mem (s : State) : (State.discTick s).mem = s.mem := by
  simp only [State.discTick, State.setB_mem, State.mem_ite, ite_self]
  repeat' first | with_reducible rfl | simp only [State.discLatch_mem, State.withGuard_mem, State.mem_ite, ite_self] | split
@[simp] theorem State.restartTick_mem (s : State) : (State.restartTick s).mem = s.mem := by
  simp only [State.restartTick, State.setB_mem, State.withGuard_mem, State.mem_ite, ite_self]
theorem execGuardOutputsOn_mem (s : State) : Out.mem s.mem (execGuardOutputsOn s) = s.mem := by
  simp only [execGuardOutputsOn, State.setB_mem, State.soutFault_mem, State.withGuard_mem, ite_self, Out.mem_next, Out.mem_ite]
theorem execOffPulseStart_mem (s : State) : Out.mem s.mem (execOffPulseStart s) = s.mem := by
  simp only [execOffPulseStart, State.withGuard_mem, ite_self, Out.mem_next, Out.mem_ite]
@[simp] theorem State.setRb_mem (s : State) (rbA rbB : Bool) : (State.setRb s rbA rbB).mem = s.mem := by
  simp only [State.setRb, State.setB_mem]
theorem execOffPulseEnd_mem (rbA rbB : Bool) (s : State) : Out.mem s.mem (execOffPulseEnd rbA rbB s) = s.mem := by
  simp only [execOffPulseEnd]
  repeat' first | with_reducible rfl | simp only [State.setRb_mem, State.soutFault_mem, State.withGuard_mem, ite_self, Out.mem_next, Out.mem_ite] | split
theorem execReadbackSample_mem (rbA rbB limA limB : Bool) (s : State) : Out.mem s.mem (execReadbackSample rbA rbB limA limB s) = s.mem := by
  simp only [execReadbackSample]
  repeat' first | with_reducible rfl | simp only [State.setRb_mem, State.soutFault_mem, State.withGuard_mem, Out.mem_next] | split
theorem execEdmTimeout_mem (s : State) : Out.mem s.mem (execEdmTimeout s) = s.mem := by
  simp only [execEdmTimeout, State.soutFault_mem, State.withGuard_mem, ite_self, Out.mem_next, Out.mem_ite]
theorem execEdmLevelChange_mem (level : Bool) (s : State) : Out.mem s.mem (execEdmLevelChange level s) = s.mem := by
  simp only [execEdmLevelChange, State.setB_mem, State.soutFault_mem, State.withGuard_mem, ite_self, Out.mem_next, Out.mem_ite]
theorem execSoutStageTrip_mem (s : State) : Out.mem s.mem (execSoutStageTrip s) = s.mem := by
  simp only [execSoutStageTrip, State.logEvent_mem, State.raise_mem, State.soutOff_mem, ite_self, Out.mem_next, Out.mem_ite]
@[simp] theorem State.crcErr_mem (s : State) : (State.crcErr s).mem = s.mem := by
  simp only [State.crcErr, State.logEvent_mem, State.raise_mem, State.setB_mem, State.soutOff_mem, State.mem_ite, ite_self]
theorem execGuardCrcPass_mem (ue : Option Nat) (s : State) : Out.mem s.mem (execGuardCrcPass ue s) = s.mem := by
  simp only [execGuardCrcPass, Out.mem_next, Out.mem_ite]
  repeat' first | with_reducible rfl | simp only [State.crcErr_mem, State.logEvent_mem, State.raise_mem, State.rset_mem, State.mem_ite, ite_self, Out.mem_next] | split
@[simp] theorem State.changeBegin_mem (s : State) : (State.changeBegin s).mem = s.mem := by
  simp only [State.changeBegin, State.setB_mem, State.withGuard_mem]
@[simp] theorem State.changeCommit_mem (s : State) (uid : Nat) : (State.changeCommit s uid).mem = s.mem := by
  simp only [State.changeCommit, State.nvmPush_mem, State.rebuildBearing_mem, State.rset_mem]
@[simp] theorem State.changeCommitted_mem (s : State) : (State.changeCommitted s).mem = s.mem := by
  simp only [State.changeCommitted, State.rset_mem, State.setB_mem]
@[simp] theorem State.changeAbort_mem (s : State) (uid : Nat) : (State.changeAbort s uid).1.mem = s.mem := by
  simp only [State.changeAbort, State.nvmPush_mem, State.rset_mem, State.setB_mem, State.mem_ite, ite_self, apply_ite Prod.fst]

/-! ## Column -/

@[simp] theorem State.latchColumn_mem (s : State) : (State.latchColumn s).mem = s.mem := by
  simp only [State.latchColumn, State.withEff_mem]
@[simp] theorem State.kilnLast_mem (s : State) (g : Grant) (st : Nat) : (State.kilnLast s g st).mem = s.mem := by
  simp only [State.kilnLast, State.rset_mem, State.setF_mem]
@[simp] theorem State.closeColumn_mem (s : State) (t : Nat) (ends : Bool) (fue : List Nat) : (State.closeColumn s t ends fue).mem = s.mem := by
  simp only [State.closeColumn]
  repeat' first | with_reducible rfl | simp only [State.caskBoundary_mem, State.closeAmb_mem, State.dropPlanned_mem, State.guardColumn_mem, State.kilnLast_mem, State.withScan_mem, State.mem_ite, ite_self] | split
@[simp] theorem State.openColumn_mem (s : State) (t : Nat) (g : Grant) : (State.openColumn s t g).mem = s.mem := by
  simp only [State.openColumn]
  repeat' first | with_reducible rfl | simp only [State.beginString_mem, State.reduceEntry_mem, State.withScan_mem, State.withWort_mem] | split | refine (foldl_mem _ (fun s x => ?_) _ _).trans ?_
@[simp] theorem State.grantAt_mem (s : State) (az : Nat) (rest : List (Nat × Bool)) (t now : Nat) (bad : List Nat) : (State.grantAt s az rest t now bad).mem = s.mem := by
  unfold State.grantAt
  repeat' first | with_reducible rfl | simp only [State.eyeTargets_mem, State.grantFor_mem] | split
@[simp] theorem State.skipTarget_mem (s : State) (x : Nat × Bool) : (State.skipTarget s x).mem = s.mem := by
  simp only [State.skipTarget, State.guardSkip_mem, State.skipCount_mem, State.withScan_mem, State.wortSkip_mem]
@[simp] theorem State.grantNow_mem (s : State) (now : Nat) (bad : List Nat) : (State.grantNow s now bad).mem = s.mem := by
  simp only [State.grantNow]
  repeat' first | with_reducible rfl | simp only [State.eyeTargets_mem, State.grantDue_mem] | split
theorem execSweepStart_mem (t : Nat) (s : State) : Out.mem s.mem (execSweepStart t s) = s.mem := by
  simp only [execSweepStart, State.guardSweepBegin_mem, State.lockInterval_mem, State.sweepStart_mem, State.withScan_mem, State.mem_ite, ite_self, Out.mem_next]
  repeat' first | with_reducible rfl | simp only [State.skipTarget_mem] | split | refine (foldl_mem _ (fun s x => ?_) _ _).trans ?_
theorem execStrokeEnd_mem (t : Nat) (s : State) : Out.mem s.mem (execStrokeEnd t s) = s.mem := by
  simp only [execStrokeEnd, State.flybackInject_mem, State.strokeEnd_mem, State.mem_ite, Out.mem_next, Out.mem_ite]
  repeat' first | with_reducible rfl | simp only [State.flybackInject_mem, State.scheduleD_mem, State.skipTarget_mem, State.strokeEnd_mem, State.mem_ite, ite_self] | split | refine (foldl_mem _ (fun s x => ?_) _ _).trans ?_
theorem execKilnGrant_mem (now : Nat) (bad : List Nat) (s : State) : Out.mem s.mem (execKilnGrant now bad s) = s.mem := by
  simp only [execKilnGrant, State.grantNow_mem, Out.mem_next]
@[simp] theorem State.shotFired_mem (s : State) (n t : Nat) (y : NextShot) : (State.shotFired s n t y).mem = s.mem := by
  simp only [State.shotFired, State.adcFired_mem, State.chargeCells_mem, State.chargeModels_mem, State.emxRelatch_mem, State.incMod_mem, State.setStr_mem, State.withPins_mem]
@[simp] theorem State.plannedFired_mem (s : State) (n i t : Nat) (y : NextShot) : (State.plannedFired s n i t y).mem = s.mem := by
  simp only [State.plannedFired]
  repeat' first | with_reducible rfl | simp only [State.openWindow_mem, State.reduceEntry_mem, State.spend_mem, State.withEmit_mem, State.withScan_mem, State.mem_ite, ite_self] | split | refine (foldl_mem _ (fun s x => ?_) _ _).trans ?_
@[simp] theorem State.plannedOver_mem (s : State) (n : Nat) (y : NextShot) : (State.plannedOver s n y).mem = s.mem := by
  simp only [State.plannedOver, State.scheduleD_mem, State.setF_mem, State.setStr_mem]
theorem execFire_mem (n t : Nat) (s : State) : Out.mem s.mem (execFire n t s) = s.mem := by
  simp only [execFire]
  repeat' first | with_reducible rfl | simp only [State.isoPlace_mem, State.plannedFired_mem, State.plannedOver_mem, State.raiseIf_mem, State.reduceEntry_mem, State.scheduleD_mem, State.setStr_mem, State.shotFired_mem, State.mem_ite, ite_self, Out.mem_next, Out.mem_ite] | split
theorem execClusterPowerOn_mem (k : Nat) (s : State) (t : Nat) : Out.mem s.mem (execClusterPowerOn k s t) = s.mem := by
  simp only [execClusterPowerOn, State.spend_mem, State.withScan_mem, ite_self, Out.mem_next, Out.mem_ite]
theorem execClusterPowerOff_mem (k : Nat) (s : State) (t : Nat) : Out.mem s.mem (execClusterPowerOff k s t) = s.mem := by
  simp only [execClusterPowerOff, State.closeExpired_mem, State.withScan_mem, ite_self, Out.mem_next, Out.mem_ite]
@[simp] theorem State.outcome_mem (s : State) (m c : Nat) (o : FieldOut) (shots : Nat) : (State.outcome s m c o shots).mem = s.mem := by
  simp only [State.outcome, State.guardOutcome_mem]
@[simp] theorem State.columnDone_mem (s : State) (m : Nat) : (State.columnDone s m).mem = s.mem := by
  simp only [State.columnDone, State.guardColDone_mem, State.guardSweepEnd_mem, State.lauSummary_mem, State.mem_ite, ite_self]
@[simp] theorem State.closeHist_mem (s : State) (c : Nat) (errs : List (Nat × Bool)) : (State.closeHist s c errs).mem = s.mem := by
  simp only [State.closeHist, State.lauOutcome_mem, State.outcome_mem, State.spargeHist_mem, State.wortDone_mem, State.mem_ite, ite_self]
theorem execHistogramClose_mem (j : Nat) (errs : List (Nat × Nat × Bool)) (s : State) : Out.mem s.mem (execHistogramClose j errs s) = s.mem := by
  simp only [execHistogramClose, State.columnDone_mem, State.withMash_mem, Out.mem_next, Out.mem_ite]
  repeat' first | with_reducible rfl | simp only [State.closeHist_mem] | split | refine (foldl_mem _ (fun s x => ?_) _ _).trans ?_
theorem execLauterExtractDone_mem (c : Nat) (s : State) : Out.mem s.mem (execLauterExtractDone c s) = s.mem := by
  simp only [execLauterExtractDone]
  repeat' first | with_reducible rfl | simp only [State.columnDone_mem, State.lauExtract_mem, State.outcome_mem, State.wortDone_mem, Out.mem_next] | split

/-! ## Modes -/

@[simp] theorem State.endSession_mem (s : State) : (State.endSession s).mem = s.mem := by
  simp only [State.endSession]
  repeat' first | with_reducible rfl | simp only [State.changeAbort_mem, State.withAmp_mem, State.mem_ite, ite_self] | split
@[simp] theorem State.pllaFollow_mem (s : State) : (State.pllaFollow s).mem = s.mem := by
  simp only [State.pllaFollow, State.setB_mem, State.mem_ite, ite_self]
@[simp] theorem State.lockFollow_mem (s : State) : (State.lockFollow s).mem = s.mem := by
  simp only [State.lockFollow, State.setB_mem, State.withScan_mem, State.mem_ite, ite_self]
@[simp] theorem State.toState_mem (s : State) (d : Dev) : (State.toState s d).mem = s.mem := by
  simp only [State.toState, State.endSession_mem, State.guardFollow_mem, State.lockFollow_mem, State.pllaFollow_mem, State.serviceEnter_mem, State.serviceLeave_mem, State.setB_mem, State.setDev_mem, State.vspadFollow_mem, State.mem_ite, ite_self]
@[simp] theorem State.seedLfsrs_mem (s : State) : (State.seedLfsrs s).mem = s.mem := by
  simp only [State.seedLfsrs]
  repeat' first | with_reducible rfl | simp only [State.raise_mem, State.setF_mem, State.mem_ite, ite_self] | split | refine (foldl_mem _ (fun s x => ?_) _ _).trans ?_
@[simp] theorem State.emitIdle_mem (s : State) : (State.emitIdle s).mem = s.mem := by
  simp only [State.emitIdle, State.withEmit_mem, State.withMash_mem]
@[simp] theorem State.scanIdle_mem (s : State) : (State.scanIdle s).mem = s.mem := by
  simp only [State.scanIdle, State.emitIdle_mem]
  repeat' first | with_reducible rfl | simp only [State.followInhibit_mem, State.setB_mem, State.setStr_mem, State.withScan_mem] | split | refine (foldl_mem _ (fun s x => ?_) _ _).trans ?_
@[simp] theorem State.emxOff_mem (s : State) : (State.emxOff s).mem = s.mem := by
  simp only [State.emxOff, State.withEmit_mem]
@[simp] theorem State.pinTestStart_mem (s : State) : (State.pinTestStart s).mem = s.mem := by
  simp only [State.pinTestStart, State.setB_mem]
@[simp] theorem State.loopsPark_mem (s : State) : (State.loopsPark s).mem = s.mem := by
  simp only [State.loopsPark]
  repeat' first | with_reducible rfl | simp only [State.loopRun_mem] | split | refine (foldl_mem _ (fun s x => ?_) _ _).trans ?_
@[simp] theorem State.parkEnter_mem (s : State) : (State.parkEnter s).mem = s.mem := by
  simp only [State.parkEnter, State.corePark_mem, State.loopsPark_mem, State.setB_mem, State.timeInvalid_mem, State.tinPark_mem, State.toState_mem, State.withHists_mem, State.withMash_mem, State.withPins_mem, State.withRst_mem, State.withScan_mem, State.withTun_mem]
theorem execSealNChange_mem (low : Bool) (s : State) : Out.mem s.mem (execSealNChange low s) = s.mem := by
  simp only [execSealNChange, State.toState_mem, State.withPins_mem, State.mem_ite, ite_self, Out.mem_next]
theorem execPllaLossOfLock_mem (s : State) : Out.mem s.mem (execPllaLossOfLock s) = s.mem := by
  simp only [execPllaLossOfLock, State.mashInvalid_mem, State.raise_mem, State.setB_mem, State.withEmit_mem, State.mem_ite, ite_self, Out.mem_next, Out.mem_ite]
theorem execPllaRelockTimeout_mem (s : State) : Out.mem s.mem (execPllaRelockTimeout s) = s.mem := by
  simp only [execPllaRelockTimeout, State.raiseReset_mem, State.mem_ite, ite_self, Out.mem_next]
theorem execPllbLossOfLock_mem (s : State) : Out.mem s.mem (execPllbLossOfLock s) = s.mem := by
  simp only [execPllbLossOfLock, State.raise_mem, State.raiseReset_mem, State.setB_mem, ite_self, Out.mem_next, Out.mem_ite]
theorem execTdcBootRunEnd_mem (hits : List (Nat × List Nat)) (s : State) : Out.mem s.mem (execTdcBootRunEnd hits s) = s.mem := by
  simp only [execTdcBootRunEnd, State.bootRunEnd_mem, State.pllaFollow_mem, State.vspadFollow_mem, State.mem_ite, ite_self, Out.mem_next]
theorem execRxCalRun_mem (s : State) : Out.mem s.mem (execRxCalRun s) = s.mem := by
  simp only [execRxCalRun, State.calRun_mem, Out.mem_next]
@[simp] theorem State.msTick_mem (s : State) : (State.msTick s).mem = s.mem := by
  simp only [State.msTick, State.discTick_mem, State.restartTick_mem, State.wdtTick_mem, State.withMs_mem]
theorem execEnDiscSample_mem (s : State) : Out.mem s.mem (execEnDiscSample s) = s.mem := by
  simp only [execEnDiscSample, State.msTick_mem, Out.mem_next]
@[simp] theorem State.msTicks_mem (n : Nat) (s : State) : (State.msTicks n s).mem = s.mem := by
  induction n generalizing s with
  | zero => rfl
  | succ n ih => rw [State.msTicks, ih, State.msTick_mem]
theorem execWdtExpiry_mem (c : Nat) (s : State) : Out.mem s.mem (execWdtExpiry c s) = s.mem := by
  simp only [execWdtExpiry, State.msTicks_mem, State.mem_ite, ite_self, Out.mem_next]

/-! ## Flash -/

@[simp] theorem State.flCmd_mem (s : State) (cmd : Nat) : (State.flCmd s cmd).mem = s.mem := by
  simp only [State.flCmd, State.raise_mem, State.setB_mem, State.withFlOp_mem, State.mem_ite, ite_self]
theorem execFlCmdErase_mem (s : State) : Out.mem s.mem (execFlCmdErase s) = s.mem := by
  simp only [execFlCmdErase, State.flCmd_mem, Out.mem_next]
theorem execFlCmdProgram_mem (s : State) : Out.mem s.mem (execFlCmdProgram s) = s.mem := by
  simp only [execFlCmdProgram, State.flCmd_mem, Out.mem_next]
theorem execFlCmdRead_mem (s : State) : Out.mem s.mem (execFlCmdRead s) = s.mem := by
  simp only [execFlCmdRead, State.flCmd_mem, Out.mem_next]
@[simp] theorem State.flashDo_mem (s : State) (o : FlashOp) : (State.flashDo s o).mem = s.mem := by
  simp only [State.flashDo]
  repeat' first | with_reducible rfl | simp only [State.rset_mem, State.withFlash_mem] | split | refine (foldl_mem _ (fun s x => ?_) _ _).trans ?_
theorem execFlashCmdDone_mem (left : Option (List Byte)) (s : State) : Out.mem s.mem (execFlashCmdDone left s) = s.mem := by
  simp only [execFlashCmdDone]
  repeat' first | with_reducible rfl | simp only [State.flashDo_mem, State.raise_mem, State.setB_mem, State.withFlOp_mem, State.withFlash_mem, State.mem_ite, ite_self, Out.mem_next] | split
@[simp] theorem State.optCmd_mem (s : State) (key : Word) : (State.optCmd s key).mem = s.mem := by
  simp only [State.optCmd, State.nvmPush_mem, State.raise_mem, State.setB_mem, State.mem_ite, ite_self]
theorem execOptCmd_mem (key : Word) (s : State) : Out.mem s.mem (execOptCmd key s) = s.mem := by
  simp only [execOptCmd, State.optCmd_mem, Out.mem_next]
theorem execEmitLostclr_mem (key : Word) (s : State) : Out.mem s.mem (execEmitLostclr key s) = s.mem := by
  simp only [execEmitLostclr, State.lostClear_mem, Out.mem_next]
theorem execScrubStep_mem (mem a err : Nat) (s : State) : Out.mem s.mem (execScrubStep mem a err s) = s.mem := by
  simp only [execScrubStep, Out.mem_next, Out.mem_ite]
  repeat' first | with_reducible rfl | simp only [State.dspCe_mem, State.dspUe_mem, State.planUe_mem, State.wortCe_mem, State.wortUe_mem, State.mem_ite, ite_self] | split

/-! ## Bus -/

@[simp] theorem State.freeze_mem (s : State) (m a info : Nat) (wr : Bool) : (State.freeze s m a info wr).mem = s.mem := by
  simp only [State.freeze, State.logEvent_mem, State.raise_mem, State.raiseReset_mem, State.rset_mem]
@[simp] theorem State.readEffect_mem (s : State) (a : Nat) : (State.readEffect s a).mem = s.mem := by
  simp only [State.readEffect, State.setEth_mem, State.setF_mem, State.tinPop_mem, State.withAdc_mem, State.mem_ite, ite_self]
@[simp] theorem State.readWord_mem (s : State) (a : Nat) : (State.readWord s a).1.mem = s.mem := by
  simp only [State.readWord, State.readEffect_mem, State.mem_ite, ite_self]
@[simp] theorem State.regStore_mem (s : State) (a : Nat) (v : Word) : (State.regStore s a v).mem = s.mem := by
  simp only [State.regStore]
  repeat' first | with_reducible rfl | simp only [State.rset_mem] | split
@[simp] theorem State.caskStore_mem (s : State) (a : Nat) (v : Word) : (State.caskStore s a v).mem = s.mem := by
  simp only [State.caskStore, State.calcfgWrite_mem, State.caskRefuse_mem, State.mem_ite]
  repeat' first | with_reducible rfl | simp only [State.rset_mem] | split
@[simp] theorem State.scanCtrl_mem (s : State) (v : Word) : (State.scanCtrl s v).mem = s.mem := by
  simp only [State.scanCtrl, State.regStore_mem]
@[simp] theorem State.dmaCtrl_mem (s : State) (n : Nat) (v : Word) : (State.dmaCtrl s n v).mem = s.mem := by
  simp only [State.dmaCtrl, State.dmaGo_mem, State.regStore_mem, State.mem_ite, ite_self]
@[simp] theorem State.ctlCtrl_mem (s : State) (v : Word) : (State.ctlCtrl s v).mem = s.mem := by
  simp only [State.ctlCtrl, State.ctlApply_mem, State.lockFollow_mem, State.regStore_mem, State.mem_ite, ite_self]
@[simp] theorem State.adcSrc_mem (s : State) (k : Nat) (v : Word) : (State.adcSrc s k v).mem = s.mem := by
  simp only [State.adcSrc, State.adcGainWritten_mem, State.regStore_mem]
@[simp] theorem State.adcBg_mem (s : State) (v : Word) : (State.adcBg s v).mem = s.mem := by
  simp only [State.adcBg, State.adcChannelWritten_mem, State.regStore_mem]
@[simp] theorem State.adcReq_mem (s : State) (n : Nat) (v : Word) : (State.adcReq s n v).mem = s.mem := by
  simp only [State.adcReq, State.regStore_mem, State.reqGo_mem, State.mem_ite, ite_self]
@[simp] theorem State.snapCtl_mem (s : State) (v : Word) : (State.snapCtl s v).mem = s.mem := by
  simp only [State.snapCtl, State.regStore_mem, State.snapArm_mem, State.mem_ite, ite_self]
@[simp] theorem State.capCtl_mem (s : State) (v : Word) : (State.capCtl s v).mem = s.mem := by
  simp only [State.capCtl, State.capArm_mem, State.regStore_mem, State.mem_ite, ite_self]
@[simp] theorem State.anchShi_mem (s : State) (v : Word) : (State.anchShi s v).mem = s.mem := by
  simp only [State.anchShi, State.anchorCommit_mem, State.regStore_mem]
@[simp] theorem State.regWrite_mem (s : State) (m a : Nat) (v : Word) : (State.regWrite s m a v).mem = s.mem := by
  simp only [State.regWrite]
  repeat' first | with_reducible rfl | simp only [State.adcBg_mem, State.adcFirWritten_mem, State.adcReq_mem, State.adcSrc_mem, State.anchShi_mem, State.calRun_mem, State.capCtl_mem, State.caskStore_mem, State.ctlCtrl_mem, State.dmaCtrl_mem, State.flCmd_mem, State.lostClear_mem, State.lrsGo_mem, State.mbox7_mem, State.optCmd_mem, State.qpop_mem, State.regStore_mem, State.scanCtrl_mem, State.snapCtl_mem, State.timeCtrlWrite_mem, State.timeIncWrite_mem, State.timeOfsWrite_mem, State.timePpsWrite_mem, State.tinCfgWrite_mem, State.txcmdWrite_mem, State.wdtKick_mem, State.mem_ite, ite_self] | split
@[simp] theorem State.binFound_mem (s : State) (a e : Nat) : (State.binFound s a e).mem = s.mem := by
  simp only [State.binFound, State.binError_mem]
@[simp] theorem State.memErr_mem (s : State) (a n err : Nat) : (State.memErr s a n err).mem = s.mem := by
  simp only [State.memErr]
  repeat' first | with_reducible rfl | simp only [State.binFound_mem, State.dspCe_mem, State.dspUe_mem, State.mem_ite, ite_self] | split | refine (foldl_mem _ (fun s x => ?_) _ _).trans ?_
@[simp] theorem State.busRead_mem (s : State) (m a : Nat) : (State.busRead s m a).1.mem = s.mem := by
  simp only [State.busRead, State.freeze_mem, State.readWord_mem, State.mem_ite, ite_self, apply_ite Prod.fst]
@[simp] theorem State.busReadHalf_mem (s : State) (m a : Nat) : (State.busReadHalf s m a).1.mem = s.mem := by
  simp only [State.busReadHalf, State.busRead_mem]
theorem execMashSnapctlArm_mem (ch : Nat) (s : State) : Out.mem s.mem (execMashSnapctlArm ch s) = s.mem := by
  simp only [execMashSnapctlArm, State.snapArm_mem, State.setF_mem, Out.mem_next]
theorem execRxCapctlArm_mem (s : State) : Out.mem s.mem (execRxCapctlArm s) = s.mem := by
  simp only [execRxCapctlArm, State.capArm_mem, Out.mem_next]
theorem execTinCfgWrite_mem (n : Nat) (v : Word) (s : State) : Out.mem s.mem (execTinCfgWrite n v s) = s.mem := by
  simp only [execTinCfgWrite, State.tinCfgWrite_mem, State.mem_ite, ite_self, Out.mem_next]
theorem execWortAnchShiWrite_mem (v : Word) (s : State) : Out.mem s.mem (execWortAnchShiWrite v s) = s.mem := by
  simp only [execWortAnchShiWrite, State.anchShi_mem, Out.mem_next]
@[simp] theorem State.dmaRead_mem (s : State) (m a err : Nat) : (State.dmaRead s m a err).1.mem = s.mem := by
  simp only [State.dmaRead, State.busRead_mem, State.fresh_mem, State.memErr_mem, State.mem_ite, ite_self, apply_ite Prod.fst]

/-! ## DspCore -/

@[simp] theorem State.dspExc_mem (s : State) (c v : Nat) : (State.dspExc s c v).mem = s.mem := by
  simp only [State.dspExc, State.raise_mem, State.setCore_mem, State.mem_ite, ite_self]
theorem execDspInterruptEntry_mem (c : Nat) (s : State) : Out.mem s.mem (execDspInterruptEntry c s) = s.mem := by
  simp only [execDspInterruptEntry, Out.mem_next, Out.mem_ite]
  repeat' first | with_reducible rfl | simp only [State.coreCycles_mem, State.setCore_mem, ite_self, Out.mem_next, Out.mem_ite] | split
theorem State.issue_mem (s : State) (c : Nat) (k : IKind) (body : State → Eff) (hb : ∀ t, (body t).st.mem = t.mem) :
    Out.mem s.mem (s.issue c k body) = s.mem := by
  unfold State.issue
  split
  · rfl
  · dsimp only
    split
    · simp only [Out.mem_next, State.dspExc_mem, State.modCore_mem]
    · split
      · rfl
      · split
        · simp only [Out.mem_next, State.dspExc_mem, State.setCore_mem, hb, State.modCore_mem]
        · simp only [Out.mem_next, State.coreCycles_mem, State.setCore_mem, hb, State.modCore_mem]
theorem State.alu_mem (s : State) (c : Nat) (g : CoreSt → CoreSt) : Out.mem s.mem (State.alu s c g) = s.mem := by
  unfold State.alu
  refine State.issue_mem _ _ _ _ (fun t => ?_)
  repeat' first | with_reducible rfl | simp only [State.modCore_mem]
theorem State.aluR_mem (s : State) (c d s' t : Nat) (f : Word → Word → Word) : Out.mem s.mem (State.aluR s c d s' t f) = s.mem := by
  simp only [State.aluR, State.alu_mem]
theorem State.aluI_mem (s : State) (c d s' : Nat) (imm : Word) (f : Word → Word → Word) : Out.mem s.mem (State.aluI s c d s' imm f) = s.mem := by
  simp only [State.aluI, State.alu_mem]
theorem State.branch_mem (s : State) (c s' : Nat) (off : BitVec 19) (p : Int → Bool) : Out.mem s.mem (State.branch s c s' off p) = s.mem := by
  unfold State.branch
  refine State.issue_mem _ _ _ _ (fun t => ?_)
  repeat' first | with_reducible rfl
@[simp] theorem State.loadErr_mem (s : State) (c a size err : Nat) : (State.loadErr s c a size err).1.mem = s.mem := by
  simp only [State.loadErr, State.memErr_mem, State.mem_ite, ite_self, apply_ite Prod.fst]
@[simp] theorem State.loadCycles_mem (s : State) (c a : Nat) : (State.loadCycles s c a).2.mem = s.mem := by
  simp only [State.loadCycles, State.fresh_mem, State.mem_ite, ite_self, apply_ite Prod.snd]
theorem State.load_mem (s : State) (c a mode mc : Nat) (imm : BitVec 10) (size err : Nat) (get : State → Nat → State × Option (List (Nat × Word)))
    (hg : ∀ t ad, (get t ad).1.mem = t.mem) : Out.mem s.mem (s.load c a mode mc imm size err get) = s.mem := by
  unfold State.load
  refine State.issue_mem _ _ _ _ (fun t => ?_)
  dsimp only
  split
  · rfl
  · split
    · rfl
    · split
      · exact State.loadErr_mem _ _ _ _ _
      · split
        · exact (hg _ _).trans (State.loadErr_mem _ _ _ _ _)
        · simp only [State.modCore_mem, State.loadCycles_mem, hg, State.loadErr_mem]
theorem State.store_mem (s : State) (c a mode mc : Nat) (imm : BitVec 10) (size : Nat) (put : State → Nat → State)
    (hp : ∀ t ad, (put t ad).mem = t.mem) : Out.mem s.mem (s.store c a mode mc imm size put) = s.mem := by
  unfold State.store
  refine State.issue_mem _ _ _ _ (fun t => ?_)
  dsimp only
  split
  · rfl
  · split
    · rfl
    · simp only [State.modCore_mem, hp]
@[simp] theorem State.readPair_mem (s : State) (c d ad : Nat) : (State.readPair s c d ad).1.mem = s.mem := by
  simp only [State.readPair]
  repeat' first | with_reducible rfl | simp only [State.busRead_mem] | split
theorem execDspException_mem (c : Nat) (w : Option Word) (s : State) : Out.mem s.mem (execDspException c w s) = s.mem := by
  simp only [execDspException, Out.mem_next, Out.mem_ite]
  repeat' first | with_reducible rfl | simp only [State.dspExc_mem, State.dspUe_mem, State.modCore_mem, Out.mem_next] | split

/-! ## DspInstr -/

theorem execDspAdd_mem (c d s' t : Nat) (s : State) : Out.mem s.mem (execDspAdd c d s' t s) = s.mem := by
  simp only [execDspAdd, State.aluR_mem]
theorem execDspSub_mem (c d s' t : Nat) (s : State) : Out.mem s.mem (execDspSub c d s' t s) = s.mem := by
  simp only [execDspSub, State.aluR_mem]
theorem execDspAdds_mem (c d s' t : Nat) (s : State) : Out.mem s.mem (execDspAdds c d s' t s) = s.mem := by
  simp only [execDspAdds, State.alu_mem]
theorem execDspSubs_mem (c d s' t : Nat) (s : State) : Out.mem s.mem (execDspSubs c d s' t s) = s.mem := by
  simp only [execDspSubs, State.alu_mem]
theorem execDspAnd_mem (c d s' t : Nat) (s : State) : Out.mem s.mem (execDspAnd c d s' t s) = s.mem := by
  simp only [execDspAnd, State.aluR_mem]
theorem execDspOr_mem (c d s' t : Nat) (s : State) : Out.mem s.mem (execDspOr c d s' t s) = s.mem := by
  simp only [execDspOr, State.aluR_mem]
theorem execDspXor_mem (c d s' t : Nat) (s : State) : Out.mem s.mem (execDspXor c d s' t s) = s.mem := by
  simp only [execDspXor, State.aluR_mem]
theorem execDspSll_mem (c d s' t : Nat) (s : State) : Out.mem s.mem (execDspSll c d s' t s) = s.mem := by
  simp only [execDspSll, State.aluR_mem]
theorem execDspSrl_mem (c d s' t : Nat) (s : State) : Out.mem s.mem (execDspSrl c d s' t s) = s.mem := by
  simp only [execDspSrl, State.aluR_mem]
theorem execDspSra_mem (c d s' t : Nat) (s : State) : Out.mem s.mem (execDspSra c d s' t s) = s.mem := by
  simp only [execDspSra, State.aluR_mem]
theorem execDspMin_mem (c d s' t : Nat) (s : State) : Out.mem s.mem (execDspMin c d s' t s) = s.mem := by
  simp only [execDspMin, State.aluR_mem]
theorem execDspMax_mem (c d s' t : Nat) (s : State) : Out.mem s.mem (execDspMax c d s' t s) = s.mem := by
  simp only [execDspMax, State.aluR_mem]
theorem execDspCmplt_mem (c d s' t : Nat) (s : State) : Out.mem s.mem (execDspCmplt c d s' t s) = s.mem := by
  simp only [execDspCmplt, State.aluR_mem]
theorem execDspCmpltu_mem (c d s' t : Nat) (s : State) : Out.mem s.mem (execDspCmpltu c d s' t s) = s.mem := by
  simp only [execDspCmpltu, State.aluR_mem]
theorem execDspCmpeq_mem (c d s' t : Nat) (s : State) : Out.mem s.mem (execDspCmpeq c d s' t s) = s.mem := by
  simp only [execDspCmpeq, State.aluR_mem]
theorem execDspMull_mem (c d s' t : Nat) (s : State) : Out.mem s.mem (execDspMull c d s' t s) = s.mem := by
  simp only [execDspMull, State.aluR_mem]
theorem execDspMulh_mem (c d s' t : Nat) (s : State) : Out.mem s.mem (execDspMulh c d s' t s) = s.mem := by
  simp only [execDspMulh, State.aluR_mem]
theorem execDspAbs_mem (c d s' : Nat) (s : State) : Out.mem s.mem (execDspAbs c d s' s) = s.mem := by
  simp only [execDspAbs, State.alu_mem]
theorem execDspClz_mem (c d s' : Nat) (s : State) : Out.mem s.mem (execDspClz c d s' s) = s.mem := by
  simp only [execDspClz, State.alu_mem]
theorem execDspPack_mem (c d s' t : Nat) (s : State) : Out.mem s.mem (execDspPack c d s' t s) = s.mem := by
  simp only [execDspPack, State.aluR_mem]
theorem execDspAddi_mem (c d s' : Nat) (imm : BitVec 14) (s : State) : Out.mem s.mem (execDspAddi c d s' imm s) = s.mem := by
  simp only [execDspAddi, State.aluI_mem]
theorem execDspAndi_mem (c d s' : Nat) (imm : BitVec 14) (s : State) : Out.mem s.mem (execDspAndi c d s' imm s) = s.mem := by
  simp only [execDspAndi, State.aluI_mem]
theorem execDspOri_mem (c d s' : Nat) (imm : BitVec 14) (s : State) : Out.mem s.mem (execDspOri c d s' imm s) = s.mem := by
  simp only [execDspOri, State.aluI_mem]
theorem execDspXori_mem (c d s' : Nat) (imm : BitVec 14) (s : State) : Out.mem s.mem (execDspXori c d s' imm s) = s.mem := by
  simp only [execDspXori, State.aluI_mem]
theorem execDspSlli_mem (c d s' : Nat) (imm : BitVec 14) (s : State) : Out.mem s.mem (execDspSlli c d s' imm s) = s.mem := by
  simp only [execDspSlli, State.aluI_mem]
theorem execDspSrli_mem (c d s' : Nat) (imm : BitVec 14) (s : State) : Out.mem s.mem (execDspSrli c d s' imm s) = s.mem := by
  simp only [execDspSrli, State.aluI_mem]
theorem execDspSrai_mem (c d s' : Nat) (imm : BitVec 14) (s : State) : Out.mem s.mem (execDspSrai c d s' imm s) = s.mem := by
  simp only [execDspSrai, State.aluI_mem]
theorem execDspCmplti_mem (c d s' : Nat) (imm : BitVec 14) (s : State) : Out.mem s.mem (execDspCmplti c d s' imm s) = s.mem := by
  simp only [execDspCmplti, State.aluI_mem]
theorem execDspCmpeqi_mem (c d s' : Nat) (imm : BitVec 14) (s : State) : Out.mem s.mem (execDspCmpeqi c d s' imm s) = s.mem := by
  simp only [execDspCmpeqi, State.aluI_mem]
theorem execDspMovl_mem (c d : Nat) (imm : BitVec 16) (s : State) : Out.mem s.mem (execDspMovl c d imm s) = s.mem := by
  simp only [execDspMovl, State.alu_mem]
theorem execDspMovh_mem (c d : Nat) (imm : BitVec 16) (s : State) : Out.mem s.mem (execDspMovh c d imm s) = s.mem := by
  simp only [execDspMovh, State.alu_mem]
theorem execDspLdw_mem (c d a mode mc : Nat) (imm : BitVec 10) (err : Nat) (s : State) : Out.mem s.mem (execDspLdw c d a mode mc imm err s) = s.mem := by
  unfold execDspLdw
  refine State.load_mem _ _ _ _ _ _ _ _ _ (fun t ad => ?_)
  repeat' first | with_reducible rfl | simp only [State.busRead_mem]
theorem execDspLdh_mem (c d a mode mc : Nat) (imm : BitVec 10) (err : Nat) (s : State) : Out.mem s.mem (execDspLdh c d a mode mc imm err s) = s.mem := by
  unfold execDspLdh
  refine State.load_mem _ _ _ _ _ _ _ _ _ (fun t ad => ?_)
  repeat' first | with_reducible rfl | simp only [State.busReadHalf_mem]
theorem execDspLdhu_mem (c d a mode mc : Nat) (imm : BitVec 10) (err : Nat) (s : State) : Out.mem s.mem (execDspLdhu c d a mode mc imm err s) = s.mem := by
  unfold execDspLdhu
  refine State.load_mem _ _ _ _ _ _ _ _ _ (fun t ad => ?_)
  repeat' first | with_reducible rfl | simp only [State.busReadHalf_mem]
theorem execDspLdd_mem (c d a mode mc : Nat) (imm : BitVec 10) (err : Nat) (s : State) : Out.mem s.mem (execDspLdd c d a mode mc imm err s) = s.mem := by
  unfold execDspLdd
  refine State.load_mem _ _ _ _ _ _ _ _ _ (fun t ad => ?_)
  repeat' first | with_reducible rfl | simp only [State.readPair_mem]
theorem execDspQmpy_mem (c xr : Nat) (xh : Bool) (yp : Nat) (sw : Bool) (neg : Nat) (s : State) : Out.mem s.mem (execDspQmpy c xr xh yp sw neg s) = s.mem := by
  simp only [execDspQmpy, State.alu_mem]
theorem execDspQmac_mem (c xr : Nat) (xh : Bool) (yp : Nat) (sw : Bool) (neg : Nat) (s : State) : Out.mem s.mem (execDspQmac c xr xh yp sw neg s) = s.mem := by
  simp only [execDspQmac, State.alu_mem]
theorem execDspQclr_mem (c : Nat) (s : State) : Out.mem s.mem (execDspQclr c s) = s.mem := by
  simp only [execDspQclr, State.alu_mem]
theorem execDspMva_mem (c g n : Nat) (rnd : Bool) (sh : Nat) (s : State) : Out.mem s.mem (execDspMva c g n rnd sh s) = s.mem := by
  simp only [execDspMva, State.alu_mem]
theorem execDspMval_mem (c g n : Nat) (s : State) : Out.mem s.mem (execDspMval c g n s) = s.mem := by
  simp only [execDspMval, State.alu_mem]
theorem execDspMvah_mem (c g n : Nat) (s : State) : Out.mem s.mem (execDspMvah c g n s) = s.mem := by
  simp only [execDspMvah, State.alu_mem]
theorem execDspMvag_mem (c g n : Nat) (s : State) : Out.mem s.mem (execDspMvag c g n s) = s.mem := by
  simp only [execDspMvag, State.alu_mem]
theorem execDspMta_mem (c g n sh : Nat) (s : State) : Out.mem s.mem (execDspMta c g n sh s) = s.mem := by
  simp only [execDspMta, State.alu_mem]
theorem execDspAdda_mem (c n m : Nat) (s : State) : Out.mem s.mem (execDspAdda c n m s) = s.mem := by
  simp only [execDspAdda, State.alu_mem]
theorem execDspSha_mem (c n : Nat) (left : Bool) (sh : Nat) (s : State) : Out.mem s.mem (execDspSha c n left sh s) = s.mem := by
  simp only [execDspSha, State.alu_mem]
theorem execDspBra_mem (c s' : Nat) (off : BitVec 19) (s : State) : Out.mem s.mem (execDspBra c s' off s) = s.mem := by
  simp only [execDspBra, State.branch_mem]
theorem execDspBeq_mem (c s' : Nat) (off : BitVec 19) (s : State) : Out.mem s.mem (execDspBeq c s' off s) = s.mem := by
  simp only [execDspBeq, State.branch_mem]
theorem execDspBne_mem (c s' : Nat) (off : BitVec 19) (s : State) : Out.mem s.mem (execDspBne c s' off s) = s.mem := by
  simp only [execDspBne, State.branch_mem]
theorem execDspBlt_mem (c s' : Nat) (off : BitVec 19) (s : State) : Out.mem s.mem (execDspBlt c s' off s) = s.mem := by
  simp only [execDspBlt, State.branch_mem]
theorem execDspBge_mem (c s' : Nat) (off : BitVec 19) (s : State) : Out.mem s.mem (execDspBge c s' off s) = s.mem := by
  simp only [execDspBge, State.branch_mem]
theorem execDspBgt_mem (c s' : Nat) (off : BitVec 19) (s : State) : Out.mem s.mem (execDspBgt c s' off s) = s.mem := by
  simp only [execDspBgt, State.branch_mem]
theorem execDspBle_mem (c s' : Nat) (off : BitVec 19) (s : State) : Out.mem s.mem (execDspBle c s' off s) = s.mem := by
  simp only [execDspBle, State.branch_mem]
theorem execDspCall_mem (c : Nat) (off : BitVec 19) (s : State) : Out.mem s.mem (execDspCall c off s) = s.mem := by
  unfold execDspCall
  refine State.issue_mem _ _ _ _ (fun t => ?_)
  repeat' first | with_reducible rfl | simp only [State.setCore_mem]
theorem execDspJr_mem (c s' : Nat) (s : State) : Out.mem s.mem (execDspJr c s' s) = s.mem := by
  unfold execDspJr
  refine State.issue_mem _ _ _ _ (fun t => ?_)
  repeat' first | with_reducible rfl
theorem execDspJalr_mem (c s' : Nat) (s : State) : Out.mem s.mem (execDspJalr c s' s) = s.mem := by
  unfold execDspJalr
  refine State.issue_mem _ _ _ _ (fun t => ?_)
  repeat' first | with_reducible rfl | simp only [State.setCore_mem]
theorem execDspRti_mem (c : Nat) (s : State) : Out.mem s.mem (execDspRti c s) = s.mem := by
  unfold execDspRti
  refine State.issue_mem _ _ _ _ (fun t => ?_)
  repeat' first | with_reducible rfl | simp only [State.setCore_mem]
theorem execDspNop_mem (c : Nat) (s : State) : Out.mem s.mem (execDspNop c s) = s.mem := by
  simp only [execDspNop, State.alu_mem]
theorem execDspIdle_mem (c : Nat) (s : State) : Out.mem s.mem (execDspIdle c s) = s.mem := by
  unfold execDspIdle
  refine State.issue_mem _ _ _ _ (fun t => ?_)
  repeat' first | with_reducible rfl
theorem execDspEi_mem (c : Nat) (s : State) : Out.mem s.mem (execDspEi c s) = s.mem := by
  unfold execDspEi
  refine State.issue_mem _ _ _ _ (fun t => ?_)
  repeat' first | with_reducible rfl | simp only [State.modCore_mem]
theorem execDspDi_mem (c : Nat) (s : State) : Out.mem s.mem (execDspDi c s) = s.mem := by
  simp only [execDspDi, State.alu_mem]
theorem execDspCsrr_mem (c g n : Nat) (s : State) : Out.mem s.mem (execDspCsrr c g n s) = s.mem := by
  unfold execDspCsrr
  refine State.issue_mem _ _ _ _ (fun t => ?_)
  repeat' first | with_reducible rfl | simp only [State.modCore_mem] | split
theorem execDspCsrw_mem (c g n : Nat) (s : State) : Out.mem s.mem (execDspCsrw c g n s) = s.mem := by
  unfold execDspCsrw
  refine State.issue_mem _ _ _ _ (fun t => ?_)
  repeat' first | with_reducible rfl | simp only [State.withLines_mem] | split
theorem execDspTrap_mem (c : Nat) (s : State) : Out.mem s.mem (execDspTrap c s) = s.mem := by
  unfold execDspTrap
  refine State.issue_mem _ _ _ _ (fun t => ?_)
  repeat' first | with_reducible rfl
theorem execDspSync_mem (c : Nat) (s : State) : Out.mem s.mem (execDspSync c s) = s.mem := by
  simp only [execDspSync, State.alu_mem]
theorem execDspRepeat_mem (c : Nat) (src : Option Nat) (n1 : Nat) (s : State) : Out.mem s.mem (execDspRepeat c src n1 s) = s.mem := by
  unfold execDspRepeat
  refine State.issue_mem _ _ _ _ (fun t => ?_)
  repeat' first | with_reducible rfl
theorem execDspLoop_mem (c : Nat) (src : Option Nat) (len1 n1 : Nat) (s : State) : Out.mem s.mem (execDspLoop c src len1 n1 s) = s.mem := by
  unfold execDspLoop
  dsimp only
  split
  · rfl
  · exact State.issue_mem _ _ _ _ (fun t => rfl)

/-! ## Amp -/

@[simp] theorem State.ampSend_mem (s : State) (r : AmpReq) (m : List Byte) : (State.ampSend s r m).mem = s.mem := by
  simp only [State.ampSend]
  repeat' first | with_reducible rfl | simp only [State.arpAsk_mem, State.ethSend_mem, State.raise_mem, State.sidePush_mem, State.withAmp_mem, State.withRst_mem, State.mem_ite, ite_self] | split
@[simp] theorem State.ampAnswer_mem (s : State) (r : AmpReq) (status : Nat) (pay : List Byte) : (State.ampAnswer s r status pay).mem = s.mem := by
  simp only [State.ampAnswer, State.ampSend_mem, State.incSat_mem, State.mem_ite, ite_self]
@[simp] theorem State.ampSettle_mem (n : Nat) (s : State) : (State.ampSettle n s).mem = s.mem := by
  induction n generalizing s with
  | zero => rfl
  | succ n ih =>
    unfold State.ampSettle
    split
    · rfl
    · split
      · rfl
      · split
        · rfl
        · dsimp only
          rw [ih]
          split
          · rw [State.ampSend_mem, State.withAmp_mem]
          · rw [State.ampAnswer_mem, State.withAmp_mem]
@[simp] theorem State.ampGo_mem (s : State) : (State.ampGo s).mem = s.mem := by
  simp only [State.ampGo, State.ampSettle_mem]
theorem execParkExit_mem (s : State) : Out.mem s.mem (execParkExit s) = s.mem := by
  simp only [execParkExit, State.ampGo_mem, State.logEvent_mem, State.toState_mem, ite_self, Out.mem_next, Out.mem_ite]
  repeat' first | with_reducible rfl | simp only [State.coreStart_mem, State.eyeRestart_mem, State.setB_mem, State.toState_mem, State.withParkWake_mem, State.withPins_mem, State.mem_ite, ite_self] | split | refine (foldl_mem _ (fun s x => ?_) _ _).trans ?_
@[simp] theorem State.ampDrop_mem (s : State) (counter : Fld) : (State.ampDrop s counter).mem = s.mem := by
  simp only [State.ampDrop, State.incSat_mem, State.raise_mem]
@[simp] theorem State.ampAdmit_mem (s : State) (r : AmpReq) : (State.ampAdmit s r).mem = s.mem := by
  simp only [State.ampAdmit, State.ampDrop_mem, State.ampGo_mem, State.withAmp_mem, State.mem_ite, ite_self]
@[simp] theorem State.ampArrive_mem (s : State) (src : AmpSrc) (port sport : Nat) (m : List Byte) : (State.ampArrive s src port sport m).mem = s.mem := by
  simp only [State.ampArrive, State.ampAdmit_mem, State.incSat_mem, State.mem_ite, ite_self]
theorem execAmpEthDatagram_mem (p : Nat) (s : State) (par : Bool) : Out.mem s.mem (execAmpEthDatagram p s par) = s.mem := by
  simp only [execAmpEthDatagram, Out.mem_next, Out.mem_ite]
  repeat' first | with_reducible rfl | simp only [State.ampArrive_mem, State.incSat_mem, State.qstat_mem, State.raise_mem, State.setEth_mem, ite_self, Out.mem_next, Out.mem_ite] | split
@[simp] theorem State.ampWake_mem (s : State) (m : List Byte) : (State.ampWake s m).mem = s.mem := by
  simp only [State.ampWake, State.withParkWake_mem, State.mem_ite, ite_self]
theorem execAmpDwlSideband_mem (lane : Nat) (ws : List Word) (crcOk : Bool) (s : State) : Out.mem s.mem (execAmpDwlSideband lane ws crcOk s) = s.mem := by
  simp only [execAmpDwlSideband, State.ampArrive_mem, State.ampWake_mem, State.incSat_mem, State.raise_mem, ite_self, Out.mem_next, Out.mem_ite]
theorem execMspiWrite_mem (m : List Byte) (crc : Word) (s : State) : Out.mem s.mem (execMspiWrite m crc s) = s.mem := by
  simp only [execMspiWrite, State.ampArrive_mem, State.ampWake_mem, State.incSat_mem, ite_self, Out.mem_next, Out.mem_ite]
theorem execMspiRead_mem (all : Bool) (s : State) : Out.mem s.mem (execMspiRead all s) = s.mem := by
  simp only [execMspiRead, State.withAmp_mem, State.mem_ite, ite_self, Out.mem_next]
theorem execMspiStatus_mem (s : State) : Out.mem s.mem (execMspiStatus s) = s.mem := by
  simp only [execMspiStatus, Out.mem_next]
theorem execAmpWindowEnd_mem (src : AmpSrc) (s : State) : Out.mem s.mem (execAmpWindowEnd src s) = s.mem := by
  simp only [execAmpWindowEnd, State.withAmp_mem, Out.mem_next]
theorem State.ampExec_mem (s : State) (cmd : Nat) (legal : AmpReq → Bool) (body : State → AmpReq → State) (hb : ∀ t r, (body t r).mem = t.mem) :
    Out.mem s.mem (s.ampExec cmd legal body) = s.mem := by
  unfold State.ampExec
  split
  · rfl
  · split
    · rfl
    · split
      · rfl
      · dsimp only
        split
        · simp only [Out.mem_next, State.ampGo_mem, State.ampSend_mem, State.withAmp_mem]
        · simp only [Out.mem_next, State.ampGo_mem]
          split
          · exact (hb _ _).trans (State.withAmp_mem _ _)
          · exact (State.ampAnswer_mem _ _ _ _).trans (State.withAmp_mem _ _)
@[simp] theorem State.ampReads_mem (n : Nat) (s : State) (a : Nat) (errs : List Nat) : (State.ampReads n s a errs).1.mem = s.mem := by
  induction n generalizing s a errs with
  | zero => rfl
  | succ n ih =>
    unfold State.ampReads
    generalize (if blockAt a = true then 0 else errs.headD 0) = e
    dsimp only
    split
    · exact State.memErr_mem _ _ _ _
    · exact (ih _ _ _).trans ((State.readWord_mem _ _).trans (State.memErr_mem _ _ _ _))
@[simp] theorem State.ampGet_mem (s : State) (r : AmpReq) (errs : List Nat) : (State.ampGet s r errs).mem = s.mem := by
  simp only [State.ampGet, State.ampAnswer_mem, State.ampReads_mem, State.mem_ite, ite_self]
theorem execGet_mem (errs : List Nat) (s : State) : Out.mem s.mem (execGet errs s) = s.mem := by
  unfold execGet
  refine State.ampExec_mem _ _ _ _ (fun t r => ?_)
  repeat' first | with_reducible rfl | simp only [State.ampGet_mem]
@[simp] theorem State.ampLog_mem (s : State) (r : AmpReq) : (State.ampLog s r).mem = s.mem := by
  simp only [State.ampLog, State.ampAnswer_mem, State.mem_ite, ite_self]
theorem execLogRead_mem (s : State) : Out.mem s.mem (execLogRead s) = s.mem := by
  unfold execLogRead
  refine State.ampExec_mem _ _ _ _ (fun t r => ?_)
  repeat' first | with_reducible rfl | simp only [State.ampLog_mem]
@[simp] theorem State.ampCask_mem (s : State) (r : AmpReq) : (State.ampCask s r).mem = s.mem := by
  simp only [State.ampCask, State.ampAnswer_mem, State.mem_ite, ite_self]
theorem execCaskInfo_mem (s : State) : Out.mem s.mem (execCaskInfo s) = s.mem := by
  unfold execCaskInfo
  refine State.ampExec_mem _ _ _ _ (fun t r => ?_)
  repeat' first | with_reducible rfl | simp only [State.ampCask_mem]
@[simp] theorem State.ampStart_mem (s : State) (r : AmpReq) : (State.ampStart s r).mem = s.mem := by
  simp only [State.ampStart, State.ampAnswer_mem, State.endSession_mem, State.setB_mem, State.mem_ite, ite_self]
theorem execStart_mem (s : State) : Out.mem s.mem (execStart s) = s.mem := by
  unfold execStart
  refine State.ampExec_mem _ _ _ _ (fun t r => ?_)
  repeat' first | with_reducible rfl | simp only [State.ampStart_mem]
@[simp] theorem State.ampStop_mem (s : State) (r : AmpReq) : (State.ampStop s r).mem = s.mem := by
  simp only [State.ampStop, State.ampAnswer_mem, State.pllaFollow_mem, State.mem_ite]
  repeat' first | with_reducible rfl | simp only [State.setB_mem, State.toState_mem, State.withScan_mem, State.mem_ite, ite_self] | split
theorem execStop_mem (s : State) : Out.mem s.mem (execStop s) = s.mem := by
  unfold execStop
  refine State.ampExec_mem _ _ _ _ (fun t r => ?_)
  repeat' first | with_reducible rfl | simp only [State.ampStop_mem]
@[simp] theorem State.ampPark_mem (s : State) (r : AmpReq) : (State.ampPark s r).mem = s.mem := by
  simp only [State.ampPark, State.ampAnswer_mem, State.endSession_mem, State.setB_mem, State.withRst_mem, State.withScan_mem, State.mem_ite, ite_self]
theorem execPark_mem (s : State) : Out.mem s.mem (execPark s) = s.mem := by
  unfold execPark
  refine State.ampExec_mem _ _ _ _ (fun t r => ?_)
  repeat' first | with_reducible rfl | simp only [State.ampPark_mem]
@[simp] theorem State.ampResetCmd_mem (s : State) (r : AmpReq) : (State.ampResetCmd s r).mem = s.mem := by
  simp only [State.ampResetCmd, State.ampAnswer_mem, State.withRst_mem, State.mem_ite, ite_self]
theorem execReset_mem (s : State) : Out.mem s.mem (execReset s) = s.mem := by
  unfold execReset
  refine State.ampExec_mem _ _ _ _ (fun t r => ?_)
  repeat' first | with_reducible rfl | simp only [State.ampResetCmd_mem]
theorem execAmpResetEffect_mem (s : State) : Out.mem s.mem (execAmpResetEffect s) = s.mem := by
  simp only [execAmpResetEffect, State.raiseReset_mem, State.mem_ite, ite_self, Out.mem_next]
@[simp] theorem State.ampAuth_mem (s : State) (r : AmpReq) : (State.ampAuth s r).mem = s.mem := by
  simp only [State.ampAuth, State.ampAnswer_mem, State.endSession_mem, State.fresh_mem, State.raise_mem, State.raiseIf_mem, State.withAmp_mem, State.mem_ite, ite_self]
theorem execAuth_mem (s : State) : Out.mem s.mem (execAuth s) = s.mem := by
  unfold execAuth
  refine State.ampExec_mem _ _ _ _ (fun t r => ?_)
  repeat' first | with_reducible rfl | simp only [State.ampAuth_mem]
theorem State.ampChange_mem (s : State) (op : Nat) (inOrder : Bool) (body : State → AmpReq → Nat → State) (hb : ∀ t r u, (body t r u).mem = t.mem) :
    Out.mem s.mem (s.ampChange op inOrder body) = s.mem := by
  unfold State.ampChange
  split
  · rfl
  · split
    · rfl
    · refine State.ampExec_mem _ _ _ _ (fun t r => ?_)
      split
      · exact State.ampAnswer_mem _ _ _ _
      · dsimp only
        split
        · exact (State.ampAnswer_mem _ _ _ _).trans (State.withAmp_mem _ _)
        · exact (hb _ _ _).trans (State.withAmp_mem _ _)
theorem execGuardChangeBegin_mem (s : State) : Out.mem s.mem (execGuardChangeBegin s) = s.mem := by
  unfold execGuardChangeBegin
  repeat' first | with_reducible rfl | refine State.ampChange_mem _ _ _ _ (fun t r u => ?_) | simp only [State.ampAnswer_mem, State.changeBegin_mem, Out.mem_next, Out.mem_ite] | split
theorem execGuardChangeCommit_mem (s : State) : Out.mem s.mem (execGuardChangeCommit s) = s.mem := by
  unfold execGuardChangeCommit
  refine State.ampChange_mem _ _ _ _ (fun t r u => ?_)
  repeat' first | with_reducible rfl | simp only [State.changeCommit_mem, State.withAmp_mem]
theorem execGuardChangeAbort_mem (s : State) : Out.mem s.mem (execGuardChangeAbort s) = s.mem := by
  unfold execGuardChangeAbort
  refine State.ampChange_mem _ _ _ _ (fun t r u => ?_)
  repeat' first | with_reducible rfl | simp only [State.ampAnswer_mem, State.changeAbort_mem, State.withAmp_mem, State.mem_ite, ite_self]
theorem execGuardSessionTimeout_mem (s : State) : Out.mem s.mem (execGuardSessionTimeout s) = s.mem := by
  simp only [execGuardSessionTimeout, State.endSession_mem, State.mem_ite, ite_self, Out.mem_next]
theorem execAuthLockoutEnd_mem (s : State) : Out.mem s.mem (execAuthLockoutEnd s) = s.mem := by
  simp only [execAuthLockoutEnd, State.withAmp_mem, State.mem_ite, ite_self, Out.mem_next]

/-! ## Nvm -/

@[simp] theorem State.changeReply_mem (s : State) : (State.changeReply s).mem = s.mem := by
  simp only [State.changeReply]
  repeat' first | with_reducible rfl | simp only [State.ampAnswer_mem, State.ampGo_mem, State.changeCommitted_mem, State.withAmp_mem, State.mem_ite, ite_self] | split
@[simp] theorem State.nvmFollow_mem (s : State) (w : NvmWrite) (wrap : Bool) : (State.nvmFollow s w wrap).mem = s.mem := by
  simp only [State.nvmFollow]
  repeat' first | with_reducible rfl | simp only [State.changeReply_mem, State.raise_mem, State.raiseIf_mem, State.mem_ite, ite_self] | split
@[simp] theorem State.nvmDone_mem (s : State) (w : NvmWrite) : (State.nvmDone s w).mem = s.mem := by
  simp only [State.nvmDone]
  repeat' first | with_reducible rfl | simp only [State.applyDone_mem, State.nvmFollow_mem, State.withNvm_mem] | split
theorem execNvmWriteDone_mem (fail : Bool) (s : State) : Out.mem s.mem (execNvmWriteDone fail s) = s.mem := by
  simp only [execNvmWriteDone]
  repeat' first | with_reducible rfl | simp only [State.nvmDone_mem, State.nvmKick_mem, State.raise_mem, State.withNvm_mem, ite_self, Out.mem_next, Out.mem_ite] | split

/-! ## Reset -/

@[simp] theorem State.lastReset_mem (s : State) (src level : Nat) : (State.lastReset s src level).mem = s.mem := by
  simp only [State.lastReset, State.setF_mem]
@[simp] theorem State.railsDown_mem (s : State) : (State.railsDown s).mem = s.mem := by
  simp only [State.railsDown, State.setF_mem, State.withRst_mem]
@[simp] theorem State.dropHist_mem (s : State) (c : Nat) : (State.dropHist s c).mem = s.mem := by
  simp only [State.dropHist]
  repeat' first | with_reducible rfl | simp only [State.columnDone_mem, State.lauOutcome_mem, State.outcome_mem, State.withHists_mem, State.wortDone_mem] | split
@[simp] theorem State.clusterReset_mem (s : State) (k : Nat) : (State.clusterReset s k).mem = s.mem := by
  simp only [State.clusterReset]
  repeat' first | with_reducible rfl | simp only [State.dropHist_mem, State.rset_mem, State.setChan_mem, State.setCluster_mem, State.withLau_mem, State.withTun_mem] | split | refine (foldl_mem _ (fun s x => ?_) _ _).trans ?_
@[simp] theorem State.releaseOne_mem (s : State) (t : L2Target) : (State.releaseOne s t).mem = s.mem := by
  simp only [State.releaseOne, State.mem_ite]
  repeat' first | with_reducible rfl | simp only [State.coreStart_mem, State.modCore_mem, State.rset_mem, State.withRst_mem, State.mem_ite, ite_self] | split
@[simp] theorem State.releaseL2_mem (s : State) (t : L2Target) : (State.releaseL2 s t).mem = s.mem := by
  simp only [State.releaseL2]
  repeat' first | with_reducible rfl | simp only [State.releaseOne_mem, State.withRst_mem] | split | refine (foldl_mem _ (fun s x => ?_) _ _).trans ?_
@[simp] theorem State.resetCauses_mem (s : State) : (State.resetCauses s).mem = s.mem := by
  simp only [State.resetCauses, State.withRst_mem]
  repeat' first | with_reducible rfl | simp only [State.raise_mem] | split | refine (foldl_mem _ (fun s x => ?_) _ _).trans ?_
@[simp] theorem State.noteDma_mem (s : State) (run : List (Nat × Nat × List L2Target)) : (State.noteDma s run).mem = s.mem := by
  simp only [State.noteDma, State.withRst_mem, State.mem_ite, ite_self]
@[simp] theorem State.releaseDeep_mem (s : State) (rstn : Bool) (straps : List (BitVec 6)) : (State.releaseDeep s rstn straps).mem = s.mem := by
  simp only [State.releaseDeep, State.logEvent_mem, State.rset_mem, State.withRst_mem]
theorem execResetRelease_mem (tgt : Nat) (rstn : Bool) (straps : List (BitVec 6)) (s : State) : Out.mem s.mem (execResetRelease tgt rstn straps s) = s.mem := by
  simp only [execResetRelease]
  repeat' first | with_reducible rfl | simp only [State.releaseDeep_mem, State.releaseL2_mem, State.mem_ite, ite_self, Out.mem_next] | split
theorem execVinRise_mem (s : State) : Out.mem s.mem (execVinRise s) = s.mem := by
  simp only [execVinRise, State.incMod_mem, State.setB_mem, State.withRst_mem, State.mem_ite, ite_self, Out.mem_next, Out.mem_ite]
theorem execBrownout_mem (s : State) : Out.mem s.mem (execBrownout s) = s.mem := by
  simp only [execBrownout, State.raiseReset_mem, State.setB_mem, State.mem_ite, ite_self, Out.mem_next]
@[simp] theorem State.setGood_mem (s : State) (r : Nat) (p : Bool) : (State.setGood s r p).mem = s.mem := by
  simp only [State.setGood, State.setF_mem]
theorem execRailGood_mem (r : Nat) (s : State) : Out.mem s.mem (execRailGood r s) = s.mem := by
  simp only [execRailGood, Out.mem_next, Out.mem_ite]
  repeat' first | with_reducible rfl | simp only [State.setGood_mem, State.withRst_mem, ite_self, Out.mem_next, Out.mem_ite] | split
theorem execRailFailure_mem (r : Nat) (s : State) : Out.mem s.mem (execRailFailure r s) = s.mem := by
  simp only [execRailFailure, State.railsDown_mem, State.raise_mem, State.raiseReset_mem, State.setF_mem, State.setGood_mem, State.withRst_mem, State.mem_ite, ite_self, Out.mem_next, Out.mem_ite]
theorem execXt32Qualified_mem (s : State) : Out.mem s.mem (execXt32Qualified s) = s.mem := by
  simp only [execXt32Qualified, State.setB_mem, State.withRst_mem, State.mem_ite, ite_self, Out.mem_next]
theorem execRstNLow_mem (s : State) : Out.mem s.mem (execRstNLow s) = s.mem := by
  simp only [execRstNLow, State.raiseReset_mem, State.withRst_mem, State.mem_ite, ite_self, Out.mem_next]
theorem execRstNStuck_mem (s : State) : Out.mem s.mem (execRstNStuck s) = s.mem := by
  simp only [execRstNStuck, State.logEvent_mem, State.setB_mem, ite_self, Out.mem_next, Out.mem_ite]
theorem execRstNRearm_mem (s : State) : Out.mem s.mem (execRstNRearm s) = s.mem := by
  simp only [execRstNRearm, State.setB_mem, State.withRst_mem, State.mem_ite, ite_self, Out.mem_next]

/-! ## Pins -/

theorem execBoundaryScanInstruction_mem (i : Nat) (s : State) (ins dr : BitVec 52) : Out.mem s.mem (execBoundaryScanInstruction i s ins dr) = s.mem := by
  simp only [execBoundaryScanInstruction, State.withPins_mem, ite_self, Out.mem_next, Out.mem_ite]

/-! ## Boot -/

@[simp] theorem State.pinTestKick_mem (s : State) : (State.pinTestKick s).mem = s.mem := by
  simp only [State.pinTestKick, State.pinTestStart_mem, State.withRst_mem, State.mem_ite, ite_self]
@[simp] theorem State.pinResult_mem (s : State) (fails : List Nat) : (State.pinResult s fails).mem = s.mem := by
  simp only [State.pinResult, State.incMod_mem, State.logEvent_mem, State.raiseIf_mem, State.setB_mem, State.setF_mem, State.soutFault_mem, State.withPins_mem, State.mem_ite, ite_self]
@[simp] theorem State.slotError_mem (s : State) (slot reason sec : Nat) : (State.slotError s slot reason sec).mem = s.mem := by
  simp only [State.slotError, State.rset_mem]
@[simp] theorem State.slotFail_mem (s : State) (slot reason sec : Nat) : (State.slotFail s slot reason sec).mem = s.mem := by
  simp only [State.slotFail, State.slotError_mem, State.withRst_mem]
@[simp] theorem State.leaveBoot_mem (s : State) : (State.leaveBoot s).mem = s.mem := by
  simp only [State.leaveBoot, State.laneRates_mem, State.logEvent_mem, State.prpCommit_mem, State.setF_mem, State.toState_mem, State.withRst_mem, State.mem_ite, ite_self]
@[simp] theorem State.bootEnd_mem (s : State) : (State.bootEnd s).mem = s.mem := by
  simp only [State.bootEnd, State.leaveBoot_mem, State.mem_ite, ite_self]
@[simp] theorem State.noSlot_mem (s : State) : (State.noSlot s).mem = s.mem := by
  simp only [State.noSlot, State.bootEnd_mem, State.logEvent_mem, State.setB_mem, State.setF_mem, State.withRst_mem]
@[simp] theorem State.nextSlot_mem (s : State) : (State.nextSlot s).mem = s.mem := by
  simp only [State.nextSlot]
  repeat' first | with_reducible rfl | simp only [State.incSat_mem, State.noSlot_mem, State.slotFail_mem, State.withRst_mem] | split
@[simp] theorem State.headRead_mem (s : State) (k : Nat) : (State.headRead s k).mem = s.mem := by
  simp only [State.headRead, State.slotError_mem, State.withRst_mem, State.mem_ite, ite_self]
@[simp] theorem State.imageStart_mem (s : State) : (State.imageStart s).mem = s.mem := by
  simp only [State.imageStart, State.withRst_mem]
  repeat' first | with_reducible rfl | simp only [State.nextSlot_mem, State.slotError_mem, State.withRst_mem, foldl_mem, State.mem_ite, ite_self] | split | refine (foldl_mem _ (fun s x => ?_) _ _).trans ?_
@[simp] theorem State.headsDone_mem (s : State) (l : List Nat) : (State.headsDone s l).mem = s.mem := by
  simp only [State.headsDone, State.nextSlot_mem]
  repeat' first | with_reducible rfl | simp only [State.headRead_mem] | split | refine (foldl_mem _ (fun s x => ?_) _ _).trans ?_
@[simp] theorem State.optionRegs_mem (s : State) (p : Option (List Word)) (blank safe : Bool) : (State.optionRegs s p blank safe).mem = s.mem := by
  simp only [State.optionRegs, State.setB_mem, State.setF_mem, State.mem_ite, ite_self]
@[simp] theorem State.optionTake_mem (s : State) (p : Option (List Word)) : (State.optionTake s p).mem = s.mem := by
  simp only [State.optionTake, State.setB_mem, State.withRst_mem, State.mem_ite, ite_self]
theorem execPllaLock_mem (s : State) : Out.mem s.mem (execPllaLock s) = s.mem := by
  simp only [execPllaLock, State.pinTestKick_mem, State.setB_mem, State.mem_ite, ite_self, Out.mem_next]
theorem execPllbLock_mem (s : State) : Out.mem s.mem (execPllbLock s) = s.mem := by
  simp only [execPllbLock]
  repeat' first | with_reducible rfl | simp only [State.imageStart_mem, State.pinTestKick_mem, State.setB_mem, State.mem_ite, ite_self, Out.mem_next] | split
@[simp] theorem State.loaderAdc_mem (s : State) (a : Nat) (v : Word) (t : State) : (s.loaderAdc a v t).mem = t.mem := by
  unfold State.loaderAdc
  repeat' first | with_reducible rfl | exact State.adcRefSelected_mem _ _ | exact State.adcChannelWritten_mem _ _ | exact State.adcFirWritten_mem _ _ | exact State.adcGainWritten_mem _ _ _ | exact State.reqGo_mem _ _ | split
@[simp] theorem State.loaderReg_mem (s : State) (a : Nat) (v : Word) : (State.loaderReg s a v).mem = s.mem := by
  simp only [State.loaderReg, State.anchorCommit_mem, State.ethCfgWrite_mem, State.rset_mem, State.timeCtrlWrite_mem, State.tinCfgWrite_mem, State.loaderAdc_mem, State.mem_ite, ite_self]
@[simp] theorem State.noteDest_mem (s : State) (a k : Word) : (State.noteDest s a k).mem = s.mem := by
  simp only [State.noteDest, State.withRst_mem]
@[simp] theorem State.identCheck_mem (s : State) (slot : Nat) : (State.identCheck s slot).mem = s.mem := by
  simp only [State.identCheck, State.slotFail_mem, State.withRst_mem, State.mem_ite, ite_self]
theorem execSignatureCheckDone_mem (s : State) : Out.mem s.mem (execSignatureCheckDone s) = s.mem := by
  simp only [execSignatureCheckDone]
  repeat' first | with_reducible rfl | simp only [State.identCheck_mem, State.slotFail_mem, State.mem_ite, ite_self, Out.mem_next] | split
@[simp] theorem State.headDead_mem (s : State) (k : Nat) (l : List Nat) : (State.headDead s k l).mem = s.mem := by
  simp only [State.headDead]
  repeat' first | with_reducible rfl | simp only [State.headRead_mem, State.nextSlot_mem, State.slotError_mem, State.withRst_mem] | split | refine (foldl_mem _ (fun s x => ?_) _ _).trans ?_
theorem execFlashNoResponse_mem (s : State) (k : Nat) : Out.mem s.mem (execFlashNoResponse s k) = s.mem := by
  simp only [execFlashNoResponse]
  repeat' first | with_reducible rfl | simp only [State.headDead_mem, State.slotFail_mem, State.mem_ite, ite_self, Out.mem_next] | split
@[simp] theorem State.commitCask_mem (s : State) (ident : List Byte) : (State.commitCask s ident).mem = s.mem := by
  simp only [State.commitCask, State.logEvent_mem, State.withNvm_mem, State.mem_ite, ite_self]
@[simp] theorem State.commitGuard_mem (s : State) : (State.commitGuard s).mem = s.mem := by
  simp only [State.commitGuard, State.rebuildBearing_mem, State.rset_mem, State.withNvm_mem, State.mem_ite, ite_self]
@[simp] theorem State.commitLoss_mem (s : State) : (State.commitLoss s).mem = s.mem := by
  simp only [State.commitLoss]
  repeat' first | with_reducible rfl | simp only [State.rset_mem, State.setF_mem, State.updateKnee_mem] | split | refine (foldl_mem _ (fun s x => ?_) _ _).trans ?_
@[simp] theorem State.commitTime_mem (s : State) : (State.commitTime s).mem = s.mem := by
  simp only [State.commitTime, State.timeIncWrite_mem, State.timePpsWrite_mem, State.mem_ite, ite_self]
@[simp] theorem State.commit_mem (s : State) (slot : Nat) : (State.commit s slot).mem = s.mem := by
  simp only [State.commit, State.leaveBoot_mem, State.startBootRun_mem]
  repeat' first | with_reducible rfl | simp only [State.caskCommit_mem, State.commitCask_mem, State.commitGuard_mem, State.commitLoss_mem, State.commitTime_mem, State.coreStart_mem, State.ctlApply_mem, State.latchColumn_mem, State.logEvent_mem, State.setB_mem, State.setF_mem, State.withRst_mem, State.mem_ite, ite_self] | split | refine (foldl_mem _ (fun s x => ?_) _ _).trans ?_
theorem execLoaderCommit_mem (s : State) : Out.mem s.mem (execLoaderCommit s) = s.mem := by
  simp only [execLoaderCommit]
  repeat' first | with_reducible rfl | simp only [State.commit_mem, ite_self, Out.mem_next, Out.mem_ite] | split

end Sys2Proof.Machine
end

