-- ==== Sys2Proof/Laws/MemWf.lean ====
section
/-!
SUPPORT. Every operation and meaning that stores in memory keeps its canonical form.
-/
namespace Sys2Proof.Machine


/-- The memory after an outcome is canonical. -/
def Out.wf : Out → Bool
  | .next t => Memory.wf t.mem
  | _ => true
theorem Out.wf_next (t : State) : Out.wf (.next t) = Memory.wf t.mem := Eq.trans (Eq.refl _) rfl
theorem Out.wf_of_mem (s : State) (o : Out) (h : Memory.wf s.mem = true) (he : Out.mem s.mem o = s.mem) : Out.wf o = true := by
  cases o with
  | next t => rw [Out.wf_next, ← Out.mem_next s.mem t, he]; exact h
  | fault r => rfl
  | refused r => rfl
theorem foldl_wf {α : Type} (g : State → α → State) (hg : ∀ s x, Memory.wf s.mem = true → Memory.wf (g s x).mem = true) (l : List α) (s : State)
    (h : Memory.wf s.mem = true) : Memory.wf (l.foldl g s).mem = true := by
  induction l generalizing s with
  | nil => exact h
  | cons x l ih => rw [List.foldl_cons]; exact ih _ (hg _ _ h)
theorem wfFrom_filter (p : Nat × Byte → Bool) (m : List Host.Cell) (lo : Option Nat) (h : SMap.wfFrom memDefault lo m = true) :
    SMap.wfFrom memDefault lo (m.filter p) = true := by
  induction m generalizing lo with
  | nil => rfl
  | cons c m ih =>
    obtain ⟨k, v⟩ := c
    simp only [SMap.wfFrom, Bool.and_eq_true] at h
    rw [List.filter_cons]
    split
    · simp only [SMap.wfFrom, Bool.and_eq_true]
      exact ⟨h.1, ih _ h.2⟩
    · refine ih lo ?_
      cases lo with
      | none => exact SMap.wfFrom_none _ _ _ h.2
      | some l => exact SMap.wfFrom_mono _ _ _ _ (by have := h.1.1; simp at this; omega) h.2

theorem State.clearData_wf (s : State) (c : Nat) (h : Memory.wf s.mem = true) : Memory.wf (State.clearData s c).mem = true := by
  exact wfFrom_filter _ _ _ h
theorem State.dspReset_wf (s : State) (c : Nat) (h : Memory.wf s.mem = true) : Memory.wf (State.dspReset s c).mem = true := by
  unfold State.dspReset
  repeat' first | with_reducible assumption | (with_reducible rfl) | simp only [State.rset_mem, State.setCore_mem, State.withLines_mem, State.clearData_wf, h] | split | refine foldl_wf _ (fun s x h => ?_) _ _ ?_
theorem State.tapWord_wf (s : State) (c : Nat) (w : Word) (h : Memory.wf s.mem = true) : Memory.wf (State.tapWord s c w).mem = true := by
  unfold State.tapWord
  repeat' first | with_reducible assumption | (with_reducible rfl) | simp only [State.setF_mem, State.wf_msetW, h]
theorem State.tapWrite_wf (s : State) (c : Nat) (h : Memory.wf s.mem = true) : Memory.wf (State.tapWrite s c).mem = true := by
  unfold State.tapWrite
  repeat' first | with_reducible assumption | (with_reducible rfl) | simp only [State.line_mem, State.modCore_mem, State.tapWord_wf, h] | split | refine foldl_wf _ (fun s x h => ?_) _ _ ?_
theorem execTapColumnDone_wf (c : Nat) (s : State) (h : Memory.wf s.mem = true) : Out.wf (execTapColumnDone c s) = true := by
  unfold execTapColumnDone
  repeat' first | with_reducible assumption | (with_reducible rfl) | simp only [State.mem_ite, State.tapWrite_wf, Out.wf_next, h] | split
theorem State.tapFlush_wf (s : State) (m : Nat) (h : Memory.wf s.mem = true) : Memory.wf (State.tapFlush s m).mem = true := by
  unfold State.tapFlush
  repeat' first | with_reducible assumption | (with_reducible rfl) | simp only [State.mem_ite, State.tapWrite_wf, h] | split | refine foldl_wf _ (fun s x h => ?_) _ _ ?_
theorem State.changeWord_wf (s : State) (a : Nat) (v : Word) (h : Memory.wf s.mem = true) : Memory.wf (State.changeWord s a v).mem = true := by
  unfold State.changeWord
  repeat' first | with_reducible assumption | (with_reducible rfl) | simp only [State.rset_mem, State.setB_mem, State.withGuard_mem, State.mem_ite, State.wf_msetW, h] | split
theorem State.dropOldest_wf (s : State) (h : Memory.wf s.mem = true) : Memory.wf (State.dropOldest s).mem = true := by
  unfold State.dropOldest
  repeat' first | with_reducible assumption | (with_reducible rfl) | simp only [State.wortForget_mem, State.tapFlush_wf, h] | split
theorem State.finishClose_wf (s : State) (h : Memory.wf s.mem = true) : Memory.wf (State.finishClose s).mem = true := by
  unfold State.finishClose
  repeat' first | with_reducible assumption | (with_reducible rfl) | simp only [State.admitCol_mem, State.lauLatch_mem, State.line_mem, State.tapReserve_mem, State.withScan_mem, State.dropOldest_wf, h] | split
theorem State.columnSwap_wf (s : State) (t : Nat) (g : Grant) (h : Memory.wf s.mem = true) : Memory.wf (State.columnSwap s t g).mem = true := by
  unfold State.columnSwap
  repeat' first | with_reducible assumption | (with_reducible rfl) | simp only [State.mashTrigger_mem, State.mem_ite, State.finishClose_wf, h] | split
theorem State.fireTrigger_wf (s : State) (t az : Nat) (rest : List (Nat × Bool)) (bad fue : List Nat) (late : Bool) (h : Memory.wf s.mem = true) : Memory.wf (State.fireTrigger s t az rest bad fue late).mem = true := by
  unfold State.fireTrigger
  repeat' first | with_reducible assumption | (with_reducible rfl) | simp only [State.closeColumn_mem, State.grantAt_mem, State.guardTrigger_mem, State.incSat_mem, State.latchColumn_mem, State.openColumn_mem, State.raise_mem, State.withScan_mem, State.mem_ite, State.columnSwap_wf, h] | split
theorem State.latePass_wf (s : State) (t : Nat) (xs : List (Nat × Bool)) (bad fue : List Nat) (h : Memory.wf s.mem = true) : Memory.wf (State.latePass s t xs bad fue).mem = true := by
  unfold State.latePass
  split
  · exact h
  · refine State.fireTrigger_wf _ _ _ _ _ _ _ ?_
    rw [foldl_mem _ (fun s x => State.skipTarget_mem _ _)]
    exact h
theorem execMsnsSample_wf (convs : List Conv) (t : Nat) (bad fue : List Nat) (s : State) (h : Memory.wf s.mem = true) : Out.wf (execMsnsSample convs t bad fue s) = true := by
  unfold execMsnsSample
  repeat' first | with_reducible assumption | (with_reducible rfl) | simp only [State.adcEnd_mem, State.grantNow_mem, State.mirrorLoop_mem, State.msnsBase_mem, State.latePass_wf, Out.wf_next, h] | split
theorem execTrigger_wf (t : Nat) (bad fue : List Nat) (s : State) (h : Memory.wf s.mem = true) : Out.wf (execTrigger t bad fue s) = true := by
  unfold execTrigger
  repeat' first | with_reducible assumption | (with_reducible rfl) | simp only [State.mem_ite, State.fireTrigger_wf, Out.wf_next, h] | split
theorem execStareTrigger_wf (t : Nat) (bad fue : List Nat) (s : State) (h : Memory.wf s.mem = true) : Out.wf (execStareTrigger t bad fue s) = true := by
  unfold execStareTrigger
  repeat' first | with_reducible assumption | (with_reducible rfl) | simp only [State.guardSweepBegin_mem, State.raiseIf_mem, State.sweepBegin_mem, State.takeRegion_mem, State.withScan_mem, State.fireTrigger_wf, Out.wf_next, h] | split
theorem execHoldoffExpiry_wf (t : Nat) (bad : List Nat) (s : State) (fue : List Nat) (h : Memory.wf s.mem = true) : Out.wf (execHoldoffExpiry t bad s fue) = true := by
  unfold execHoldoffExpiry
  repeat' first | with_reducible assumption | (with_reducible rfl) | simp only [State.grantNow_mem, State.withScan_mem, State.mem_ite, State.latePass_wf, Out.wf_next, h] | split
theorem execTunClearDone_wf (t : Nat) (bad fue : List Nat) (s : State) (h : Memory.wf s.mem = true) : Out.wf (execTunClearDone t bad fue s) = true := by
  unfold execTunClearDone
  repeat' first | with_reducible assumption | (with_reducible rfl) | simp only [State.grantNow_mem, State.setB_mem, State.withScan_mem, State.mem_ite, State.latePass_wf, Out.wf_next, h] | split
theorem execSpargeEnd_wf (t : Nat) (s : State) (h : Memory.wf s.mem = true) : Out.wf (execSpargeEnd t s) = true := by
  unfold execSpargeEnd
  repeat' first | with_reducible assumption | (with_reducible rfl) | simp only [State.spargeEnd_mem, State.mem_ite, State.finishClose_wf, Out.wf_next, h] | split
theorem State.dropColumns_wf (s : State) (h : Memory.wf s.mem = true) : Memory.wf (State.dropColumns s).mem = true := by
  unfold State.dropColumns
  repeat' first | with_reducible assumption | (with_reducible rfl) | simp only [State.withLau_mem, State.wortForget_mem, State.tapFlush_wf, h] | split | refine foldl_wf _ (fun s x h => ?_) _ _ ?_
theorem State.scanEnter_wf (s : State) (t : Nat) (h : Memory.wf s.mem = true) : Memory.wf (State.scanEnter s t).mem = true := by
  unfold State.scanEnter
  repeat' first | with_reducible assumption | (with_reducible rfl) | simp only [State.groupRun_mem, State.guardScanEntry_mem, State.latchColumn_mem, State.seedLfsrs_mem, State.setB_mem, State.setStr_mem, State.takeRegion_mem, State.toState_mem, State.tunClear_mem, State.withRst_mem, State.withScan_mem, State.wortScan_mem, State.dropColumns_wf, h] | split | refine foldl_wf _ (fun s x h => ?_) _ _ ?_
theorem execScanEntry_wf (t : Nat) (s : State) (h : Memory.wf s.mem = true) : Out.wf (execScanEntry t s) = true := by
  unfold execScanEntry
  repeat' first | with_reducible assumption | (with_reducible rfl) | simp only [State.scanEnter_wf, Out.wf_next, h] | split
theorem State.scanOff_wf (s : State) (t : Nat) (zero : Bool) (h : Memory.wf s.mem = true) : Memory.wf (State.scanOff s t zero).mem = true := by
  unfold State.scanOff
  repeat' first | with_reducible assumption | (with_reducible rfl) | simp only [State.closeColumn_mem, State.emxOff_mem, State.emxSendZero_mem, State.hzdAssert_mem, State.latchColumn_mem, State.scanIdle_mem, State.mem_ite, State.columnSwap_wf, h] | split
theorem execScanLeave_wf (t : Nat) (s : State) (h : Memory.wf s.mem = true) : Out.wf (execScanLeave t s) = true := by
  unfold execScanLeave
  repeat' first | with_reducible assumption | (with_reducible rfl) | simp only [State.toState_mem, State.scanOff_wf, Out.wf_next, h] | split
theorem State.enterSafe_wf (s : State) (bit : Nat) (h : Memory.wf s.mem = true) : Memory.wf (State.enterSafe s bit).mem = true := by
  unfold State.enterSafe
  repeat' first | with_reducible assumption | (with_reducible rfl) | simp only [State.logEvent_mem, State.setF_mem, State.toState_mem, State.withPins_mem, State.withScan_mem, State.mem_ite, State.scanOff_wf, h] | split
theorem execEmxFrameConfirm_wf (t : Nat) (echo : BitVec 76) (status : BitVec 8) (s : State) (h : Memory.wf s.mem = true) : Out.wf (execEmxFrameConfirm t echo status s) = true := by
  unfold execEmxFrameConfirm
  repeat' first | with_reducible assumption | (with_reducible rfl) | simp only [State.emxSend_mem, State.incSat_mem, State.logEvent_mem, State.raise_mem, State.setStr_mem, State.withEmit_mem, State.mem_ite, State.enterSafe_wf, Out.wf_next, h] | split | refine foldl_wf _ (fun s x h => ?_) _ _ ?_
theorem execParkEnter_wf (t : Nat) (s : State) (h : Memory.wf s.mem = true) : Out.wf (execParkEnter t s) = true := by
  unfold execParkEnter
  repeat' first | with_reducible assumption | (with_reducible rfl) | simp only [State.endSession_mem, State.pinTestStart_mem, State.toState_mem, State.withPins_mem, State.withScan_mem, State.mem_ite, State.scanOff_wf, Out.wf_next, h] | split
theorem State.writeWord_wf (s : State) (m a : Nat) (v : Word) (h : Memory.wf s.mem = true) : Memory.wf (State.writeWord s m a v).mem = true := by
  unfold State.writeWord
  repeat' first | with_reducible assumption | (with_reducible rfl) | simp only [State.raise_mem, State.regWrite_mem, State.mem_ite, State.wf_msetW, h] | split
theorem State.busWrite_wf (s : State) (m a : Nat) (v : Word) (h : Memory.wf s.mem = true) : Memory.wf (State.busWrite s m a v).mem = true := by
  unfold State.busWrite
  repeat' first | with_reducible assumption | (with_reducible rfl) | simp only [State.freeze_mem, State.mem_ite, State.writeWord_wf, h] | split
theorem State.busWriteHalf_wf (s : State) (m a : Nat) (v : BitVec 16) (h : Memory.wf s.mem = true) : Memory.wf (State.busWriteHalf s m a v).mem = true := by
  unfold State.busWriteHalf
  repeat' first | with_reducible assumption | (with_reducible rfl) | simp only [State.caskRefuse_mem, State.freeze_mem, State.mem_ite, State.wf_msetH, h] | split
theorem execRegisterWrite_wf (m a : Nat) (v : Word) (s : State) (h : Memory.wf s.mem = true) : Out.wf (execRegisterWrite m a v s) = true := by
  unfold execRegisterWrite
  repeat' first | with_reducible assumption | (with_reducible rfl) | simp only [State.busWrite_wf, Out.wf_next, h] | split
theorem State.dmaMove_wf (s : State) (m : Nat) (j : DmaSt) (n i : Nat) (errs : List Nat) (h : Memory.wf s.mem = true) : Memory.wf (s.dmaMove m j n i errs).mem = true := by
  induction n generalizing s i errs with
  | zero => exact h
  | succ n ih =>
    unfold State.dmaMove
    dsimp only
    have hb : Memory.wf (s.dmaRead m (dmaAddr j.src j.srcInc i) (errs.headD 0)).1.mem = true := by rw [State.dmaRead_mem]; exact h
    split
    · exact hb
    · split
      · exact State.busWrite_wf _ _ _ _ hb
      · exact ih _ _ _ (State.busWrite_wf _ _ _ _ hb)
theorem execDmaDone_wf (n : Nat) (s : State) (errs : List Nat) (h : Memory.wf s.mem = true) : Out.wf (execDmaDone n s errs) = true := by
  unfold execDmaDone
  repeat' first | with_reducible assumption | (with_reducible rfl) | simp only [State.line_mem, State.setB_mem, State.withDma_mem, State.mem_ite, State.dmaMove_wf, Out.wf_next, h] | split
theorem State.writePair_wf (s : State) (c ad : Nat) (v w : Word) (h : Memory.wf s.mem = true) : Memory.wf (State.writePair s c ad v w).mem = true := by
  unfold State.writePair
  repeat' first | with_reducible assumption | (with_reducible rfl) | simp only [State.mem_ite, State.busWrite_wf, h] | split
theorem State.issue_wf (s : State) (c : Nat) (k : IKind) (body : State → Eff) (hb : ∀ t, Memory.wf t.mem = true → Memory.wf (body t).st.mem = true)
    (h : Memory.wf s.mem = true) : Out.wf (s.issue c k body) = true := by
  unfold State.issue
  have hx : ∀ (s1 : State), s1.mem = s.mem → Memory.wf (body s1).st.mem = true := fun s1 e => hb s1 (by rw [e]; exact h)
  split
  · exact h
  · dsimp only
    split
    · simp only [Out.wf_next, State.dspExc_mem, State.modCore_mem, h]
    · split
      · rfl
      · split
        · simp only [Out.wf_next, State.dspExc_mem]
          exact hx _ (by simp only [State.setCore_mem, State.modCore_mem])
        · simp only [Out.wf_next, State.coreCycles_mem, State.setCore_mem]
          exact hx _ (by simp only [State.setCore_mem, State.modCore_mem])
theorem State.store_wf (s : State) (c a mode mc : Nat) (imm : BitVec 10) (size : Nat) (put : State → Nat → State)
    (hp : ∀ t ad, Memory.wf t.mem = true → Memory.wf (put t ad).mem = true) (h : Memory.wf s.mem = true) :
    Out.wf (s.store c a mode mc imm size put) = true := by
  unfold State.store
  refine State.issue_wf _ _ _ _ (fun t ht => ?_) h
  dsimp only
  split
  · exact ht
  · split
    · exact ht
    · simp only [State.modCore_mem]
      exact hp _ _ ht
theorem execDspStw_wf (c d a mode mc : Nat) (imm : BitVec 10) (s : State) (h : Memory.wf s.mem = true) : Out.wf (execDspStw c d a mode mc imm s) = true := by
  exact State.store_wf _ _ _ _ _ _ _ _ (fun t ad ht => State.busWrite_wf _ _ _ _ ht) h
theorem execDspSth_wf (c d a mode mc : Nat) (imm : BitVec 10) (s : State) (h : Memory.wf s.mem = true) : Out.wf (execDspSth c d a mode mc imm s) = true := by
  exact State.store_wf _ _ _ _ _ _ _ _ (fun t ad ht => State.busWriteHalf_wf _ _ _ _ ht) h
theorem execDspStd_wf (c d a mode mc : Nat) (imm : BitVec 10) (s : State) (h : Memory.wf s.mem = true) : Out.wf (execDspStd c d a mode mc imm s) = true := by
  exact State.store_wf _ _ _ _ _ _ _ _ (fun t ad ht => State.writePair_wf _ _ _ _ _ ht) h
theorem State.ampPut_wf (s : State) (t : Nat × Word × Word) (h : Memory.wf s.mem = true) : Memory.wf (State.ampPut s t).mem = true := by
  unfold State.ampPut
  repeat' first | with_reducible assumption | (with_reducible rfl) | simp only [State.writeWord_wf, h]
theorem State.ampSet_wf (s : State) (r : AmpReq) (h : Memory.wf s.mem = true) : Memory.wf (State.ampSet s r).mem = true := by
  unfold State.ampSet
  repeat' first | with_reducible assumption | (with_reducible rfl) | simp only [State.ampAnswer_mem, State.mem_ite, State.ampPut_wf, h] | split | refine foldl_wf _ (fun s x h => ?_) _ _ ?_
theorem State.ampExec_wf (s : State) (cmd : Nat) (legal : AmpReq → Bool) (body : State → AmpReq → State)
    (hb : ∀ t r, Memory.wf t.mem = true → Memory.wf (body t r).mem = true) (h : Memory.wf s.mem = true) : Out.wf (s.ampExec cmd legal body) = true := by
  unfold State.ampExec
  split
  · exact h
  · split
    · exact h
    · split
      · exact h
      · dsimp only
        split
        · simp only [Out.wf_next, State.ampGo_mem, State.ampSend_mem]; exact h
        · simp only [Out.wf_next, State.ampGo_mem]
          split
          · exact hb _ _ h
          · rw [State.ampAnswer_mem]; exact h
theorem State.ampChange_wf (s : State) (op : Nat) (inOrder : Bool) (body : State → AmpReq → Nat → State)
    (hb : ∀ t r u, Memory.wf t.mem = true → Memory.wf (body t r u).mem = true) (h : Memory.wf s.mem = true) : Out.wf (s.ampChange op inOrder body) = true := by
  unfold State.ampChange
  split
  · exact h
  · split
    · exact h
    · refine State.ampExec_wf _ _ _ _ (fun t r ht => ?_) h
      split
      · rw [State.ampAnswer_mem]; exact ht
      · have hw : ∀ x, Memory.wf (t.withAmp x).mem = true := fun x => by rw [State.withAmp_mem]; exact ht
        dsimp only
        split
        · rw [State.ampAnswer_mem]; exact hw _
        · exact hb _ _ _ (hw _)
theorem execSet_wf (s : State) (h : Memory.wf s.mem = true) : Out.wf (execSet s) = true := by
  exact State.ampExec_wf _ _ _ _ (fun t r ht => State.ampSet_wf _ _ ht) h
theorem State.changeData_wf (s : State) (r : AmpReq) (h : Memory.wf s.mem = true) : Memory.wf (State.changeData s r).mem = true := by
  unfold State.changeData
  repeat' first | with_reducible assumption | (with_reducible rfl) | simp only [State.ampAnswer_mem, State.setB_mem, State.mem_ite, State.changeWord_wf, h] | split | refine foldl_wf _ (fun s x h => ?_) _ _ ?_
theorem execGuardChangeData_wf (s : State) (h : Memory.wf s.mem = true) : Out.wf (execGuardChangeData s) = true := by
  exact State.ampChange_wf _ _ _ _ (fun t r u ht => State.changeData_wf _ _ ht) h
theorem State.resetTo_wf (s : State) (level : Nat) (pll hot : Bool) (h : Memory.wf s.mem = true) : Memory.wf (State.resetTo s level pll hot).mem = true := by
  unfold State.resetTo
  simp only [State.setB_mem, State.setF_mem, State.mem_ite, ite_self]
  rfl
theorem State.performDeep_wf (s : State) (level src srcs : Nat) (h : Memory.wf s.mem = true) : Memory.wf (State.performDeep s level src srcs).mem = true := by
  unfold State.performDeep
  repeat' first | with_reducible assumption | (with_reducible rfl) | simp only [State.incMod_mem, State.lastReset_mem, State.railsDown_mem, State.withRst_mem, State.mem_ite, State.resetTo_wf, h] | split
theorem State.performL2_wf (s : State) (t : L2Target) (h : Memory.wf s.mem = true) : Memory.wf (State.performL2 s t).mem = true := by
  unfold State.performL2
  repeat' first | with_reducible assumption | (with_reducible rfl) | simp only [State.clusterReset_mem, State.dmaReset_mem, State.dwlReset_mem, State.ethReset_mem, State.timeInvalid_mem, State.withAmp_mem, State.withRst_mem, State.mem_ite, State.dspReset_wf, h] | split
theorem State.resetRun_wf (s : State) (acts : List (Nat × Nat × List L2Target)) (h : Memory.wf s.mem = true) : Memory.wf (State.resetRun s acts).mem = true := by
  unfold State.resetRun
  repeat' first | with_reducible assumption | (with_reducible rfl) | simp only [State.lastReset_mem, State.noteDma_mem, State.withRst_mem, State.mem_ite, State.performDeep_wf, State.performL2_wf, h] | split | refine foldl_wf _ (fun s x h => ?_) _ _ ?_
theorem execResetAssert_wf (s : State) (h : Memory.wf s.mem = true) : Out.wf (execResetAssert s) = true := by
  unfold execResetAssert
  repeat' first | with_reducible assumption | (with_reducible rfl) | simp only [State.resetCauses_mem, State.withRst_mem, State.resetRun_wf, Out.wf_next, h] | split
theorem execPor_wf (vbat : Bool) (s : State) (h : Memory.wf s.mem = true) : Out.wf (execPor vbat s) = true := by
  unfold execPor
  split
  · exact h
  · simp only [Out.wf_next, State.setB_mem, State.setF_mem, State.mem_ite, ite_self]
    rfl
theorem State.xtFail_wf (s : State) (h : Memory.wf s.mem = true) : Memory.wf (State.xtFail s).mem = true := by
  unfold State.xtFail
  repeat' first | with_reducible assumption | (with_reducible rfl) | simp only [State.raise_mem, State.setB_mem, State.withRst_mem, State.mem_ite, State.enterSafe_wf, h] | split
theorem execXt32Fail_wf (s : State) (h : Memory.wf s.mem = true) : Out.wf (execXt32Fail s) = true := by
  unfold execXt32Fail
  repeat' first | with_reducible assumption | (with_reducible rfl) | simp only [State.mem_ite, State.xtFail_wf, Out.wf_next, h] | split
theorem execXt32Timeout_wf (s : State) (h : Memory.wf s.mem = true) : Out.wf (execXt32Timeout s) = true := by
  unfold execXt32Timeout
  repeat' first | with_reducible assumption | (with_reducible rfl) | simp only [State.mem_ite, State.xtFail_wf, Out.wf_next, h] | split
theorem execPinTestDone_wf (steps : List (BitVec 22)) (offs cross : BitVec 2) (s : State) (h : Memory.wf s.mem = true) : Out.wf (execPinTestDone steps offs cross s) = true := by
  unfold execPinTestDone
  repeat' first | with_reducible assumption | (with_reducible rfl) | simp only [State.bootEnd_mem, State.parkEnter_mem, State.pinResult_mem, State.withParkWake_mem, State.enterSafe_wf, Out.wf_next, h] | split
theorem State.optionsTake_wf (s : State) (p : Option (List Word)) (blank safe : Bool) (h : Memory.wf s.mem = true) : Memory.wf (State.optionsTake s p blank safe).mem = true := by
  unfold State.optionsTake
  repeat' first | with_reducible assumption | (with_reducible rfl) | simp only [State.imageStart_mem, State.logEvent_mem, State.nvmKick_mem, State.optionRegs_mem, State.optionTake_mem, State.pinTestKick_mem, State.mem_ite, State.enterSafe_wf, h] | split
theorem execOptionLoadDone_wf (read : Option (List Word)) (s : State) (h : Memory.wf s.mem = true) : Out.wf (execOptionLoadDone read s) = true := by
  unfold execOptionLoadDone
  repeat' first | with_reducible assumption | (with_reducible rfl) | simp only [State.setB_mem, State.withRst_mem, State.mem_ite, State.optionsTake_wf, Out.wf_next, h] | split
theorem State.loaderWrite_wf (s : State) (a : Nat) (v : Word) (h : Memory.wf s.mem = true) : Memory.wf (State.loaderWrite s a v).mem = true := by
  unfold State.loaderWrite
  repeat' first | with_reducible assumption | (with_reducible rfl) | simp only [State.loaderReg_mem, State.mem_ite, State.wf_msetW, h] | split
theorem State.loadRecords_wf (n : Nat) (s : State) (sid : Nat) (l : List Word) (h : Memory.wf s.mem = true) :
    Memory.wf (State.loadRecords n s sid l).1.mem = true := by
  induction n generalizing s l with
  | zero => rcases l with _ | ⟨a, _ | ⟨k, l⟩⟩ <;> exact h
  | succ n ih =>
    rcases l with _ | ⟨a, _ | ⟨k, l⟩⟩
    · exact h
    · exact h
    · unfold State.loadRecords
      split
      · exact h
      · exact ih _ _ (foldl_wf _ (fun s x h => State.loaderWrite_wf _ _ _ h) _ _ h)
theorem State.loadSections_wf (s : State) (slot : Nat) (l : List Nat) (h : Memory.wf s.mem = true) :
    Memory.wf (s.loadSections slot l).1.mem = true := by
  induction l generalizing s with
  | nil => exact h
  | cons id r ih =>
    unfold State.loadSections
    dsimp only
    split
    · exact ih _ h
    · have hq := fun n w => State.loadRecords_wf n s id w h
      split
      · exact hq _ _
      · split
        · exact hq _ _
        · exact ih _ (hq _ _)
theorem execImagePassDone_wf (s : State) (h : Memory.wf s.mem = true) : Out.wf (execImagePassDone s) = true := by
  unfold execImagePassDone
  repeat' first | with_reducible assumption | (with_reducible rfl) | simp only [State.headsDone_mem, State.identCheck_mem, State.setB_mem, State.slotFail_mem, State.withRst_mem, State.loadSections_wf, Out.wf_next, h] | split
theorem State.clearWord_wf (s : State) (a : Nat) (h : Memory.wf s.mem = true) : Memory.wf (State.clearWord s a).mem = true := by
  unfold State.clearWord
  repeat' first | with_reducible assumption | (with_reducible rfl) | simp only [State.loaderReg_mem, State.rset_mem, State.withAnchor_mem, State.mem_ite, State.wf_msetW, h] | split
theorem execDestClearDone_wf (s : State) (h : Memory.wf s.mem = true) : Out.wf (execDestClearDone s) = true := by
  unfold execDestClearDone
  repeat' first | with_reducible assumption | (with_reducible rfl) | simp only [State.nextSlot_mem, State.withRst_mem, State.clearWord_wf, Out.wf_next, h] | split | refine foldl_wf _ (fun s x h => ?_) _ _ ?_

end Sys2Proof.Machine
end

