-- ==== Sys2Proof/Laws/PerInstr.lean ====
section
/-!
SUPPORT. The family Target: what a well-formed command names is there. One lemma per constructor of Instr.
-/
namespace Sys2Proof.Laws.Target

/-- The instances a command names, each with how many of them the device has: cores, channels, clusters, strings, ports, inputs, registers of a core, … -/
def targets (i : Instr) : List (Nat × Nat) :=
  match i with
  | .vinRise => []
  | .brownout => []
  | .por _ => []
  | .railGood r => [(r, 7)]
  | .railFailure r => [(r, 7)]
  | .xt32Qualified => []
  | .xt32Fail => []
  | .xt32Timeout => []
  | .pllaLock => []
  | .pllbLock => []
  | .pllaLossOfLock => []
  | .pllaRelockTimeout => []
  | .pllbLossOfLock => []
  | .rstNLow => []
  | .rstNStuck => []
  | .rstNRearm => []
  | .resetAssert => []
  | .resetRelease tgt _ _ => [(tgt, 256)]
  | .optionLoadDone _ => []
  | .pinTestDone _ _ _ => []
  | .imagePassDone => []
  | .signatureCheckDone => []
  | .flashNoResponse _ => []
  | .destClearDone => []
  | .loaderCommit => []
  | .tdcBootRunEnd _ => []
  | .bgcalMapStaged c _ => [(c, 1024)]
  | .sealNChange _ => []
  | .scanEntry _ => []
  | .tunClearDone _ _ _ => []
  | .scanLeave _ => []
  | .parkEnter _ => []
  | .parkExit => []
  | .msnsSample _ _ _ _ => []
  | .sweepStart _ => []
  | .strokeEnd _ => []
  | .kilnGrant _ _ => []
  | .trigger _ _ _ => []
  | .stareTrigger _ _ _ => []
  | .holdoffExpiry _ _ _ => []
  | .clusterPowerOn k _ => [(k, 64)]
  | .clusterPowerOff k _ => [(k, 64)]
  | .ambientGateOpen c => [(c, 1024)]
  | .ambientGateMidpoint c => [(c, 1024)]
  | .ambientGateClose c => [(c, 1024)]
  | .emxFrameSend _ => []
  | .emxFrameConfirm _ _ _ => []
  | .chargeString n v _ => [(n, 8), (v, 4096)]
  | .chgSelOff n => [(n, 8)]
  | .shotReadyCheck n v => [(n, 8), (v, 4096)]
  | .emissionLimitDecide n _ => [(n, 8)]
  | .fire n _ => [(n, 8)]
  | .windowClose k _ => [(k, 64)]
  | .zoomPlace k => [(k, 64)]
  | .shotMonitorBurst n => [(n, 8)]
  | .shotVerdict n _ => [(n, 8)]
  | .periodicProbeDue n => [(n, 8)]
  | .chargeSupplyTrip n v _ _ => [(n, 8), (v, 4096)]
  | .rxEvent c i _ tap _ => [(c, 1024), (i, 16), (tap, 96)]
  | .thinLevelFall k _ => [(k, 64)]
  | .mashDrain k _ _ _ => [(k, 64)]
  | .histogramClose j _ => [(j, 16)]
  | .spargeEnd _ => []
  | .lauterExtractDone c => [(c, 1024)]
  | .echoRecordEmit st => [(st, 2)]
  | .datagramCloseTimeout => []
  | .datagramSend stream _ => [(stream, 2)]
  | .datagramDiscard => []
  | .dwlPointFrame _ => []
  | .dwlLrsFrame => []
  | .dwlCreditReceive lane _ _ => [(lane, 2)]
  | .dwlCreditTimeout _ => []
  | .laneAlignAcquired n => [(n, 4)]
  | .laneCodeError n _ kind _ => [(n, 4), (kind, 3)]
  | .laneAdaptDone n _ _ _ _ => [(n, 4)]
  | .eyeMeasure n _ _ _ _ _ => [(n, 4)]
  | .lanePllLock => []
  | .lanePllLoss => []
  | .ethLinkChange p _ _ => [(p, 2)]
  | .ethFrameReceive p _ _ _ => [(p, 2)]
  | .arpRefresh p _ => [(p, 2)]
  | .prpSupervisionSend => []
  | .prpEntryForget _ => []
  | .timeOffsetApply => []
  | .ppsPulse => []
  | .ppsPulseEnd => []
  | .tinEdge m _ _ => [(m, 4)]
  | .tinInterpCal n _ => [(n, 4)]
  | .adc0RefReady => []
  | .adc0RefFail => []
  | .adc0ReqTrigger n _ => [(n, 4)]
  | .adc0BurstDone n _ => [(n, 4)]
  | .firOutput _ _ => []
  | .afeConversionDone m _ => [(m, 16)]
  | .thermScan _ => []
  | .dieHardTrip => []
  | .dieHardTripClear => []
  | .soutStageTrip => []
  | .chgGateTrip => []
  | .vspadOvervoltage _ => []
  | .ctlTick _ _ _ _ _ => []
  | .chargeGroupEvaluate n => [(n, 8)]
  | .kilnDecayStep => []
  | .eyeSubwindow => []
  | .eyeInitEnd => []
  | .nvmWriteDone _ => []
  | .scrubStep mem _ err => [(mem, 6), (err, 3)]
  | .enEdge ch _ => [(ch, 2)]
  | .enDiscSample => []
  | .guardOutputsOn => []
  | .offPulseStart => []
  | .offPulseEnd _ _ => []
  | .readbackSample _ _ _ _ => []
  | .edmTimeout => []
  | .guardCrcPass _ => []
  | .ampEthDatagram p _ => [(p, 2)]
  | .ampDwlSideband lane _ _ => [(lane, 2)]
  | .mspiWrite _ _ => []
  | .mspiRead _ => []
  | .mspiStatus => []
  | .ampWindowEnd _ => []
  | .get _ => []
  | .set => []
  | .logRead => []
  | .start => []
  | .stop => []
  | .park => []
  | .reset => []
  | .ampResetEffect => []
  | .auth => []
  | .guardChangeBegin => []
  | .guardChangeData => []
  | .guardChangeCommit => []
  | .guardChangeAbort => []
  | .guardSessionTimeout => []
  | .authLockoutEnd => []
  | .caskInfo => []
  | .flCmdErase => []
  | .flCmdProgram => []
  | .flCmdRead => []
  | .flashCmdDone _ => []
  | .optCmd _ => []
  | .emitLostclr _ => []
  | .rxCalRun => []
  | .rxCapctlArm => []
  | .mashSnapctlArm ch => [(ch, 1024)]
  | .ctlCommit => []
  | .adc0ReqGo n => [(n, 4)]
  | .adc0FirCommit => []
  | .adc0EvhiRead => []
  | .tinQhiRead n => [(n, 4)]
  | .tinCfgWrite n _ => [(n, 4)]
  | .timeNsRead => []
  | .timeIncWrite _ => []
  | .timeOfsWrite _ => []
  | .timeCtrlWrite m _ => [(m, 9)]
  | .timePpsWrite _ => []
  | .wortAnchShiWrite _ => []
  | .ethTxcmdGo p _ => [(p, 2)]
  | .ethQpop p => [(p, 2)]
  | .ethTxts2Read p => [(p, 2)]
  | .ethModeWrite p _ => [(p, 2)]
  | .wdtkick c _ => [(c, 2)]
  | .mbox7Write c _ => [(c, 2)]
  | .dmaGo n => [(n, 4)]
  | .dmaDone n _ => [(n, 4)]
  | .caskLrsgo => []
  | .lrsRecordIssue => []
  | .caskApply => []
  | .caskCopyBackDone => []
  | .registerWrite m a _ => [(m, 9), (a, 4294967296)]
  | .wdtExpiry c => [(c, 2)]
  | .dspCoreStart c cause => [(c, 2), (cause, 3)]
  | .dspInterruptEntry c => [(c, 2)]
  | .dspException c _ => [(c, 2)]
  | .tapColumnDone c => [(c, 2)]
  | .dspAdd c d s' t => [(c, 2), (d, 32), (s', 32), (t, 32)]
  | .dspSub c d s' t => [(c, 2), (d, 32), (s', 32), (t, 32)]
  | .dspAdds c d s' t => [(c, 2), (d, 32), (s', 32), (t, 32)]
  | .dspSubs c d s' t => [(c, 2), (d, 32), (s', 32), (t, 32)]
  | .dspAnd c d s' t => [(c, 2), (d, 32), (s', 32), (t, 32)]
  | .dspOr c d s' t => [(c, 2), (d, 32), (s', 32), (t, 32)]
  | .dspXor c d s' t => [(c, 2), (d, 32), (s', 32), (t, 32)]
  | .dspSll c d s' t => [(c, 2), (d, 32), (s', 32), (t, 32)]
  | .dspSrl c d s' t => [(c, 2), (d, 32), (s', 32), (t, 32)]
  | .dspSra c d s' t => [(c, 2), (d, 32), (s', 32), (t, 32)]
  | .dspMin c d s' t => [(c, 2), (d, 32), (s', 32), (t, 32)]
  | .dspMax c d s' t => [(c, 2), (d, 32), (s', 32), (t, 32)]
  | .dspCmplt c d s' t => [(c, 2), (d, 32), (s', 32), (t, 32)]
  | .dspCmpltu c d s' t => [(c, 2), (d, 32), (s', 32), (t, 32)]
  | .dspCmpeq c d s' t => [(c, 2), (d, 32), (s', 32), (t, 32)]
  | .dspMull c d s' t => [(c, 2), (d, 32), (s', 32), (t, 32)]
  | .dspMulh c d s' t => [(c, 2), (d, 32), (s', 32), (t, 32)]
  | .dspAbs c d s' => [(c, 2), (d, 32), (s', 32)]
  | .dspClz c d s' => [(c, 2), (d, 32), (s', 32)]
  | .dspPack c d s' t => [(c, 2), (d, 32), (s', 32), (t, 32)]
  | .dspAddi c d s' _ => [(c, 2), (d, 32), (s', 32)]
  | .dspAndi c d s' _ => [(c, 2), (d, 32), (s', 32)]
  | .dspOri c d s' _ => [(c, 2), (d, 32), (s', 32)]
  | .dspXori c d s' _ => [(c, 2), (d, 32), (s', 32)]
  | .dspSlli c d s' _ => [(c, 2), (d, 32), (s', 32)]
  | .dspSrli c d s' _ => [(c, 2), (d, 32), (s', 32)]
  | .dspSrai c d s' _ => [(c, 2), (d, 32), (s', 32)]
  | .dspCmplti c d s' _ => [(c, 2), (d, 32), (s', 32)]
  | .dspCmpeqi c d s' _ => [(c, 2), (d, 32), (s', 32)]
  | .dspMovl c d _ => [(c, 2), (d, 32)]
  | .dspMovh c d _ => [(c, 2), (d, 32)]
  | .dspLdw c d a mode mc _ _ => [(c, 2), (d, 32), (a, 32), (mode, 8), (mc, 4)]
  | .dspLdh c d a mode mc _ _ => [(c, 2), (d, 32), (a, 32), (mode, 8), (mc, 4)]
  | .dspLdhu c d a mode mc _ _ => [(c, 2), (d, 32), (a, 32), (mode, 8), (mc, 4)]
  | .dspLdd c d a mode mc _ _ => [(c, 2), (d, 32), (a, 32), (mode, 8), (mc, 4)]
  | .dspStw c d a mode mc _ => [(c, 2), (d, 32), (a, 32), (mode, 8), (mc, 4)]
  | .dspSth c d a mode mc _ => [(c, 2), (d, 32), (a, 32), (mode, 8), (mc, 4)]
  | .dspStd c d a mode mc _ => [(c, 2), (d, 32), (a, 32), (mode, 8), (mc, 4)]
  | .dspQmpy c xr _ yp _ neg => [(c, 2), (xr, 32), (yp, 16), (neg, 16)]
  | .dspQmac c xr _ yp _ neg => [(c, 2), (xr, 32), (yp, 16), (neg, 16)]
  | .dspQclr c => [(c, 2)]
  | .dspMva c g n _ sh => [(c, 2), (g, 32), (n, 4), (sh, 64)]
  | .dspMval c g n => [(c, 2), (g, 32), (n, 4)]
  | .dspMvah c g n => [(c, 2), (g, 32), (n, 4)]
  | .dspMvag c g n => [(c, 2), (g, 32), (n, 4)]
  | .dspMta c g n sh => [(c, 2), (g, 32), (n, 4), (sh, 64)]
  | .dspAdda c n m => [(c, 2), (n, 4), (m, 4)]
  | .dspSha c n _ sh => [(c, 2), (n, 4), (sh, 64)]
  | .dspBra c s' _ => [(c, 2), (s', 32)]
  | .dspBeq c s' _ => [(c, 2), (s', 32)]
  | .dspBne c s' _ => [(c, 2), (s', 32)]
  | .dspBlt c s' _ => [(c, 2), (s', 32)]
  | .dspBge c s' _ => [(c, 2), (s', 32)]
  | .dspBgt c s' _ => [(c, 2), (s', 32)]
  | .dspBle c s' _ => [(c, 2), (s', 32)]
  | .dspCall c _ => [(c, 2)]
  | .dspJr c s' => [(c, 2), (s', 32)]
  | .dspJalr c s' => [(c, 2), (s', 32)]
  | .dspRti c => [(c, 2)]
  | .dspNop c => [(c, 2)]
  | .dspIdle c => [(c, 2)]
  | .dspEi c => [(c, 2)]
  | .dspDi c => [(c, 2)]
  | .dspCsrr c g n => [(c, 2), (g, 32), (n, 4096)]
  | .dspCsrw c g n => [(c, 2), (g, 32), (n, 4096)]
  | .dspTrap c => [(c, 2)]
  | .dspSync c => [(c, 2)]
  | .dspRepeat c _ n1 => [(c, 2), (n1, 65536)]
  | .dspLoop c _ len1 n1 => [(c, 2), (len1, 2048), (n1, 1024)]
  | .timeCounterWrap => []
  | .ethFrameTransmitDone p _ _ => [(p, 2)]
  | .timerCompareMatch c => [(c, 2)]
  | .edmLevelChange _ => []
  | .boundaryScanInstruction i _ _ => [(i, 4)]

/-- Every instance that a well-formed command names exists. -/
def Statement (i : Instr) : Prop := i.wf = true → ∀ p ∈ targets i, p.1 < p.2

theorem all_nil : ∀ p ∈ ([] : List (Nat × Nat)), p.1 < p.2 := fun _ h => absurd h List.not_mem_nil

theorem all_cons {a b : Nat} {l : List (Nat × Nat)} (h : a < b) (hl : ∀ p ∈ l, p.1 < p.2) : ∀ p ∈ (a, b) :: l, p.1 < p.2 :=
  List.forall_mem_cons.2 ⟨h, hl⟩

theorem vinRise : Statement .vinRise := fun _ => all_nil
theorem brownout : Statement .brownout := fun _ => all_nil
theorem por (x0 : Bool) : Statement (.por x0) := fun _ => all_nil
theorem railGood (x0 : Nat) : Statement (.railGood x0) := by
  intro h; change (decide (x0 < 7)) = true at h; simp only [decide_eq_true_eq] at h
  exact all_cons (by omega) all_nil
theorem railFailure (x0 : Nat) : Statement (.railFailure x0) := by
  intro h; change (decide (x0 < 7)) = true at h; simp only [decide_eq_true_eq] at h
  exact all_cons (by omega) all_nil
theorem xt32Qualified : Statement .xt32Qualified := fun _ => all_nil
theorem xt32Fail : Statement .xt32Fail := fun _ => all_nil
theorem xt32Timeout : Statement .xt32Timeout := fun _ => all_nil
theorem pllaLock : Statement .pllaLock := fun _ => all_nil
theorem pllbLock : Statement .pllbLock := fun _ => all_nil
theorem pllaLossOfLock : Statement .pllaLossOfLock := fun _ => all_nil
theorem pllaRelockTimeout : Statement .pllaRelockTimeout := fun _ => all_nil
theorem pllbLossOfLock : Statement .pllbLossOfLock := fun _ => all_nil
theorem rstNLow : Statement .rstNLow := fun _ => all_nil
theorem rstNStuck : Statement .rstNStuck := fun _ => all_nil
theorem rstNRearm : Statement .rstNRearm := fun _ => all_nil
theorem resetAssert : Statement .resetAssert := fun _ => all_nil
theorem resetRelease (x0 : Nat) (x1 : Bool) (x2 : List (BitVec 6)) : Statement (.resetRelease x0 x1 x2) := by
  intro h; change (decide (x0 < 256)) = true at h; simp only [decide_eq_true_eq] at h
  exact all_cons (by omega) all_nil
theorem optionLoadDone (x0 : Option (List Word)) : Statement (.optionLoadDone x0) := fun _ => all_nil
theorem pinTestDone (x0 : List (BitVec 22)) (x1 : BitVec 2) (x2 : BitVec 2) : Statement (.pinTestDone x0 x1 x2) := fun _ => all_nil
theorem imagePassDone : Statement .imagePassDone := fun _ => all_nil
theorem signatureCheckDone : Statement .signatureCheckDone := fun _ => all_nil
theorem flashNoResponse (x0 : Nat := 1) : Statement (.flashNoResponse x0) := fun _ => all_nil
theorem destClearDone : Statement .destClearDone := fun _ => all_nil
theorem loaderCommit : Statement .loaderCommit := fun _ => all_nil
theorem tdcBootRunEnd (x0 : List (Nat × List Nat)) : Statement (.tdcBootRunEnd x0) := fun _ => all_nil
theorem bgcalMapStaged (x0 : Nat) (x1 : Nat) : Statement (.bgcalMapStaged x0 x1) := by
  intro h; change (decide (x0 < 1024)) = true at h; simp only [decide_eq_true_eq] at h
  exact all_cons (by omega) all_nil
theorem sealNChange (x0 : Bool) : Statement (.sealNChange x0) := fun _ => all_nil
theorem scanEntry (x0 : Nat) : Statement (.scanEntry x0) := fun _ => all_nil
theorem tunClearDone (x0 : Nat) (x1 : List Nat) (x2 : List Nat) : Statement (.tunClearDone x0 x1 x2) := fun _ => all_nil
theorem scanLeave (x0 : Nat) : Statement (.scanLeave x0) := fun _ => all_nil
theorem parkEnter (x0 : Nat) : Statement (.parkEnter x0) := fun _ => all_nil
theorem parkExit : Statement .parkExit := fun _ => all_nil
theorem msnsSample (x0 : List Conv) (x1 : Nat) (x2 : List Nat) (x3 : List Nat) : Statement (.msnsSample x0 x1 x2 x3) := fun _ => all_nil
theorem sweepStart (x0 : Nat) : Statement (.sweepStart x0) := fun _ => all_nil
theorem strokeEnd (x0 : Nat) : Statement (.strokeEnd x0) := fun _ => all_nil
theorem kilnGrant (x0 : Nat) (x1 : List Nat) : Statement (.kilnGrant x0 x1) := fun _ => all_nil
theorem trigger (x0 : Nat) (x1 : List Nat) (x2 : List Nat) : Statement (.trigger x0 x1 x2) := fun _ => all_nil
theorem stareTrigger (x0 : Nat) (x1 : List Nat) (x2 : List Nat) : Statement (.stareTrigger x0 x1 x2) := fun _ => all_nil
theorem holdoffExpiry (x0 : Nat) (x1 : List Nat) (x2 : List Nat := []) : Statement (.holdoffExpiry x0 x1 x2) := fun _ => all_nil
theorem clusterPowerOn (x0 : Nat) (x1 : Nat := 0) : Statement (.clusterPowerOn x0 x1) := by
  intro h; change (decide (x0 < 64)) = true at h; simp only [decide_eq_true_eq] at h
  exact all_cons (by omega) all_nil
theorem clusterPowerOff (x0 : Nat) (x1 : Nat := 0) : Statement (.clusterPowerOff x0 x1) := by
  intro h; change (decide (x0 < 64)) = true at h; simp only [decide_eq_true_eq] at h
  exact all_cons (by omega) all_nil
theorem ambientGateOpen (x0 : Nat) : Statement (.ambientGateOpen x0) := by
  intro h; change (decide (x0 < 1024)) = true at h; simp only [decide_eq_true_eq] at h
  exact all_cons (by omega) all_nil
theorem ambientGateMidpoint (x0 : Nat) : Statement (.ambientGateMidpoint x0) := by
  intro h; change (decide (x0 < 1024)) = true at h; simp only [decide_eq_true_eq] at h
  exact all_cons (by omega) all_nil
theorem ambientGateClose (x0 : Nat) : Statement (.ambientGateClose x0) := by
  intro h; change (decide (x0 < 1024)) = true at h; simp only [decide_eq_true_eq] at h
  exact all_cons (by omega) all_nil
theorem emxFrameSend (x0 : Nat) : Statement (.emxFrameSend x0) := fun _ => all_nil
theorem emxFrameConfirm (x0 : Nat) (x1 : BitVec 76) (x2 : BitVec 8) : Statement (.emxFrameConfirm x0 x1 x2) := fun _ => all_nil
theorem chargeString (x0 : Nat) (x1 : Nat) (x2 : Nat := 0) : Statement (.chargeString x0 x1 x2) := by
  intro h; change (decide (x0 < 8) && decide (x1 < 4096)) = true at h; simp only [Bool.and_eq_true, decide_eq_true_eq] at h
  exact all_cons (by omega) (all_cons (by omega) all_nil)
theorem chgSelOff (x0 : Nat) : Statement (.chgSelOff x0) := by
  intro h; change (decide (x0 < 8)) = true at h; simp only [decide_eq_true_eq] at h
  exact all_cons (by omega) all_nil
theorem shotReadyCheck (x0 : Nat) (x1 : Nat) : Statement (.shotReadyCheck x0 x1) := by
  intro h; change (decide (x0 < 8) && decide (x1 < 4096)) = true at h; simp only [Bool.and_eq_true, decide_eq_true_eq] at h
  exact all_cons (by omega) (all_cons (by omega) all_nil)
theorem emissionLimitDecide (x0 : Nat) (x1 : Bool) : Statement (.emissionLimitDecide x0 x1) := by
  intro h; change (decide (x0 < 8)) = true at h; simp only [decide_eq_true_eq] at h
  exact all_cons (by omega) all_nil
theorem fire (x0 : Nat) (x1 : Nat) : Statement (.fire x0 x1) := by
  intro h; change (decide (x0 < 8)) = true at h; simp only [decide_eq_true_eq] at h
  exact all_cons (by omega) all_nil
theorem windowClose (x0 : Nat) (x1 : Nat) : Statement (.windowClose x0 x1) := by
  intro h; change (decide (x0 < 64)) = true at h; simp only [decide_eq_true_eq] at h
  exact all_cons (by omega) all_nil
theorem zoomPlace (x0 : Nat) : Statement (.zoomPlace x0) := by
  intro h; change (decide (x0 < 64)) = true at h; simp only [decide_eq_true_eq] at h
  exact all_cons (by omega) all_nil
theorem shotMonitorBurst (x0 : Nat) : Statement (.shotMonitorBurst x0) := by
  intro h; change (decide (x0 < 8)) = true at h; simp only [decide_eq_true_eq] at h
  exact all_cons (by omega) all_nil
theorem shotVerdict (x0 : Nat) (x1 : List Conv) : Statement (.shotVerdict x0 x1) := by
  intro h; change (decide (x0 < 8)) = true at h; simp only [decide_eq_true_eq] at h
  exact all_cons (by omega) all_nil
theorem periodicProbeDue (x0 : Nat) : Statement (.periodicProbeDue x0) := by
  intro h; change (decide (x0 < 8)) = true at h; simp only [decide_eq_true_eq] at h
  exact all_cons (by omega) all_nil
theorem chargeSupplyTrip (x0 : Nat := 0) (x1 : Nat := 0) (x2 : Nat := 0) (x3 : Nat := 0) : Statement (.chargeSupplyTrip x0 x1 x2 x3) := by
  intro h; change (decide (x0 < 8) && decide (x1 < 4096)) = true at h; simp only [Bool.and_eq_true, decide_eq_true_eq] at h
  exact all_cons (by omega) (all_cons (by omega) all_nil)
theorem rxEvent (x0 : Nat) (x1 : Nat) (x2 : Nat) (x3 : Nat) (x4 : List (Nat × Nat × Nat) := []) : Statement (.rxEvent x0 x1 x2 x3 x4) := by
  intro h; change (decide (x0 < 1024) && decide (x1 < 16) && decide (x3 < 96) && x4.all (fun a => decide (a.1 < 16) && decide (a.2.2 < 96))) = true at h; simp only [Bool.and_eq_true, decide_eq_true_eq] at h
  exact all_cons (by omega) (all_cons (by omega) (all_cons (by omega) all_nil))
theorem thinLevelFall (x0 : Nat) (x1 : Nat) : Statement (.thinLevelFall x0 x1) := by
  intro h; change (decide (x0 < 64)) = true at h; simp only [decide_eq_true_eq] at h
  exact all_cons (by omega) all_nil
theorem mashDrain (x0 : Nat) (x1 : Nat) (x2 : Bool) (x3 : List Nat := []) : Statement (.mashDrain x0 x1 x2 x3) := by
  intro h; change (decide (x0 < 64) && x3.all (fun e => decide (e < 3))) = true at h; simp only [Bool.and_eq_true, decide_eq_true_eq] at h
  exact all_cons (by omega) all_nil
theorem histogramClose (x0 : Nat) (x1 : List (Nat × Nat × Bool)) : Statement (.histogramClose x0 x1) := by
  intro h; change (decide (x0 < 16)) = true at h; simp only [decide_eq_true_eq] at h
  exact all_cons (by omega) all_nil
theorem spargeEnd (x0 : Nat) : Statement (.spargeEnd x0) := fun _ => all_nil
theorem lauterExtractDone (x0 : Nat) : Statement (.lauterExtractDone x0) := by
  intro h; change (decide (x0 < 1024)) = true at h; simp only [decide_eq_true_eq] at h
  exact all_cons (by omega) all_nil
theorem echoRecordEmit (x0 : Nat) : Statement (.echoRecordEmit x0) := by
  intro h; change (decide (x0 < 2)) = true at h; simp only [decide_eq_true_eq] at h
  exact all_cons (by omega) all_nil
theorem datagramCloseTimeout : Statement .datagramCloseTimeout := fun _ => all_nil
theorem datagramSend (x0 : Nat) (x1 : Option (Nat × Bool) := none) : Statement (.datagramSend x0 x1) := by
  intro h; change (decide (x0 < 2)) = true at h; simp only [decide_eq_true_eq] at h
  exact all_cons (by omega) all_nil
theorem datagramDiscard : Statement .datagramDiscard := fun _ => all_nil
theorem dwlPointFrame (x0 : Option (Nat × Bool)) : Statement (.dwlPointFrame x0) := fun _ => all_nil
theorem dwlLrsFrame : Statement .dwlLrsFrame := fun _ => all_nil
theorem dwlCreditReceive (x0 : Nat) (x1 : BitVec 16) (x2 : Bool) : Statement (.dwlCreditReceive x0 x1 x2) := by
  intro h; change (decide (x0 < 2)) = true at h; simp only [decide_eq_true_eq] at h
  exact all_cons (by omega) all_nil
theorem dwlCreditTimeout (x0 : Bool) : Statement (.dwlCreditTimeout x0) := fun _ => all_nil
theorem laneAlignAcquired (x0 : Nat) : Statement (.laneAlignAcquired x0) := by
  intro h; change (decide (x0 < 4)) = true at h; simp only [decide_eq_true_eq] at h
  exact all_cons (by omega) all_nil
theorem laneCodeError (x0 : Nat) (x1 : Nat) (x2 : Nat) (x3 : Bool := false) : Statement (.laneCodeError x0 x1 x2 x3) := by
  intro h; change (decide (x0 < 4) && decide (x2 < 3)) = true at h; simp only [Bool.and_eq_true, decide_eq_true_eq] at h
  exact all_cons (by omega) (all_cons (by omega) all_nil)
theorem laneAdaptDone (x0 : Nat) (x1 : List (Nat × Nat)) (x2 : BitVec 6) (x3 : BitVec 6) (x4 : BitVec 6) : Statement (.laneAdaptDone x0 x1 x2 x3 x4) := by
  intro h; change (decide (x0 < 4) && decide (x1.length = 16)) = true at h; simp only [Bool.and_eq_true, decide_eq_true_eq] at h
  exact all_cons (by omega) all_nil
theorem eyeMeasure (x0 : Nat) (x1 : Nat) (x2 : Nat) (x3 : BitVec 6) (x4 : BitVec 6) (x5 : BitVec 6) : Statement (.eyeMeasure x0 x1 x2 x3 x4 x5) := by
  intro h; change (decide (x0 < 4)) = true at h; simp only [decide_eq_true_eq] at h
  exact all_cons (by omega) all_nil
theorem lanePllLock : Statement .lanePllLock := fun _ => all_nil
theorem lanePllLoss : Statement .lanePllLoss := fun _ => all_nil
theorem ethLinkChange (x0 : Nat) (x1 : Bool) (x2 : Bool) : Statement (.ethLinkChange x0 x1 x2) := by
  intro h; change (decide (x0 < 2)) = true at h; simp only [decide_eq_true_eq] at h
  exact all_cons (by omega) all_nil
theorem ethFrameReceive (x0 : Nat) (x1 : List Byte) (x2 : Bool) (x3 : Nat) : Statement (.ethFrameReceive x0 x1 x2 x3) := by
  intro h; change (decide (x0 < 2)) = true at h; simp only [decide_eq_true_eq] at h
  exact all_cons (by omega) all_nil
theorem arpRefresh (x0 : Nat) (x1 : Word) : Statement (.arpRefresh x0 x1) := by
  intro h; change (decide (x0 < 2)) = true at h; simp only [decide_eq_true_eq] at h
  exact all_cons (by omega) all_nil
theorem prpSupervisionSend : Statement .prpSupervisionSend := fun _ => all_nil
theorem prpEntryForget (x0 : BitVec 48) : Statement (.prpEntryForget x0) := fun _ => all_nil
theorem timeOffsetApply : Statement .timeOffsetApply := fun _ => all_nil
theorem ppsPulse : Statement .ppsPulse := fun _ => all_nil
theorem ppsPulseEnd : Statement .ppsPulseEnd := fun _ => all_nil
theorem tinEdge (x0 : Nat) (x1 : Bool) (x2 : Nat) : Statement (.tinEdge x0 x1 x2) := by
  intro h; change (decide (x0 < 4)) = true at h; simp only [decide_eq_true_eq] at h
  exact all_cons (by omega) all_nil
theorem tinInterpCal (x0 : Nat) (x1 : List Nat) : Statement (.tinInterpCal x0 x1) := by
  intro h; change (decide (x0 < 4)) = true at h; simp only [decide_eq_true_eq] at h
  exact all_cons (by omega) all_nil
theorem adc0RefReady : Statement .adc0RefReady := fun _ => all_nil
theorem adc0RefFail : Statement .adc0RefFail := fun _ => all_nil
theorem adc0ReqTrigger (x0 : Nat) (x1 : Nat) : Statement (.adc0ReqTrigger x0 x1) := by
  intro h; change (decide (x0 < 4)) = true at h; simp only [decide_eq_true_eq] at h
  exact all_cons (by omega) all_nil
theorem adc0BurstDone (x0 : Nat) (x1 : List Conv) : Statement (.adc0BurstDone x0 x1) := by
  intro h; change (decide (x0 < 4)) = true at h; simp only [decide_eq_true_eq] at h
  exact all_cons (by omega) all_nil
theorem firOutput (x0 : Nat) (x1 : List Conv := []) : Statement (.firOutput x0 x1) := fun _ => all_nil
theorem afeConversionDone (x0 : Nat) (x1 : AfeRaw) : Statement (.afeConversionDone x0 x1) := by
  intro h; change (decide (x0 < 16)) = true at h; simp only [decide_eq_true_eq] at h
  exact all_cons (by omega) all_nil
theorem thermScan (x0 : List (BitVec 16)) : Statement (.thermScan x0) := fun _ => all_nil
theorem dieHardTrip : Statement .dieHardTrip := fun _ => all_nil
theorem dieHardTripClear : Statement .dieHardTripClear := fun _ => all_nil
theorem soutStageTrip : Statement .soutStageTrip := fun _ => all_nil
theorem chgGateTrip : Statement .chgGateTrip := fun _ => all_nil
theorem vspadOvervoltage (x0 : Bool := true) : Statement (.vspadOvervoltage x0) := fun _ => all_nil
theorem ctlTick (x0 : Nat) (x1 : Nat) (x2 : Bool) (x3 : Nat) (x4 : Nat) : Statement (.ctlTick x0 x1 x2 x3 x4) := fun _ => all_nil
theorem chargeGroupEvaluate (x0 : Nat) : Statement (.chargeGroupEvaluate x0) := by
  intro h; change (decide (x0 < 8)) = true at h; simp only [decide_eq_true_eq] at h
  exact all_cons (by omega) all_nil
theorem kilnDecayStep : Statement .kilnDecayStep := fun _ => all_nil
theorem eyeSubwindow : Statement .eyeSubwindow := fun _ => all_nil
theorem eyeInitEnd : Statement .eyeInitEnd := fun _ => all_nil
theorem nvmWriteDone (x0 : Bool) : Statement (.nvmWriteDone x0) := fun _ => all_nil
theorem scrubStep (x0 : Nat) (x1 : Nat) (x2 : Nat) : Statement (.scrubStep x0 x1 x2) := by
  intro h; change (decide (x0 < 6) && decide (x2 < 3)) = true at h; simp only [Bool.and_eq_true, decide_eq_true_eq] at h
  exact all_cons (by omega) (all_cons (by omega) all_nil)
theorem enEdge (x0 : Nat) (x1 : Bool) : Statement (.enEdge x0 x1) := by
  intro h; change (decide (x0 < 2)) = true at h; simp only [decide_eq_true_eq] at h
  exact all_cons (by omega) all_nil
theorem enDiscSample : Statement .enDiscSample := fun _ => all_nil
theorem guardOutputsOn : Statement .guardOutputsOn := fun _ => all_nil
theorem offPulseStart : Statement .offPulseStart := fun _ => all_nil
theorem offPulseEnd (x0 : Bool) (x1 : Bool) : Statement (.offPulseEnd x0 x1) := fun _ => all_nil
theorem readbackSample (x0 : Bool) (x1 : Bool) (x2 : Bool) (x3 : Bool) : Statement (.readbackSample x0 x1 x2 x3) := fun _ => all_nil
theorem edmTimeout : Statement .edmTimeout := fun _ => all_nil
theorem guardCrcPass (x0 : Option Nat) : Statement (.guardCrcPass x0) := fun _ => all_nil
theorem ampEthDatagram (x0 : Nat) (x1 : Bool := false) : Statement (.ampEthDatagram x0 x1) := by
  intro h; change (decide (x0 < 2)) = true at h; simp only [decide_eq_true_eq] at h
  exact all_cons (by omega) all_nil
theorem ampDwlSideband (x0 : Nat) (x1 : List Word) (x2 : Bool) : Statement (.ampDwlSideband x0 x1 x2) := by
  intro h; change (decide (x0 < 2)) = true at h; simp only [decide_eq_true_eq] at h
  exact all_cons (by omega) all_nil
theorem mspiWrite (x0 : List Byte) (x1 : Word) : Statement (.mspiWrite x0 x1) := fun _ => all_nil
theorem mspiRead (x0 : Bool) : Statement (.mspiRead x0) := fun _ => all_nil
theorem mspiStatus : Statement .mspiStatus := fun _ => all_nil
theorem ampWindowEnd (x0 : AmpSrc) : Statement (.ampWindowEnd x0) := fun _ => all_nil
theorem get (x0 : List Nat) : Statement (.get x0) := fun _ => all_nil
theorem set : Statement .set := fun _ => all_nil
theorem logRead : Statement .logRead := fun _ => all_nil
theorem start : Statement .start := fun _ => all_nil
theorem stop : Statement .stop := fun _ => all_nil
theorem park : Statement .park := fun _ => all_nil
theorem reset : Statement .reset := fun _ => all_nil
theorem ampResetEffect : Statement .ampResetEffect := fun _ => all_nil
theorem auth : Statement .auth := fun _ => all_nil
theorem guardChangeBegin : Statement .guardChangeBegin := fun _ => all_nil
theorem guardChangeData : Statement .guardChangeData := fun _ => all_nil
theorem guardChangeCommit : Statement .guardChangeCommit := fun _ => all_nil
theorem guardChangeAbort : Statement .guardChangeAbort := fun _ => all_nil
theorem guardSessionTimeout : Statement .guardSessionTimeout := fun _ => all_nil
theorem authLockoutEnd : Statement .authLockoutEnd := fun _ => all_nil
theorem caskInfo : Statement .caskInfo := fun _ => all_nil
theorem flCmdErase : Statement .flCmdErase := fun _ => all_nil
theorem flCmdProgram : Statement .flCmdProgram := fun _ => all_nil
theorem flCmdRead : Statement .flCmdRead := fun _ => all_nil
theorem flashCmdDone (x0 : Option (List Byte)) : Statement (.flashCmdDone x0) := fun _ => all_nil
theorem optCmd (x0 : Word) : Statement (.optCmd x0) := fun _ => all_nil
theorem emitLostclr (x0 : Word) : Statement (.emitLostclr x0) := fun _ => all_nil
theorem rxCalRun : Statement .rxCalRun := fun _ => all_nil
theorem rxCapctlArm : Statement .rxCapctlArm := fun _ => all_nil
theorem mashSnapctlArm (x0 : Nat) : Statement (.mashSnapctlArm x0) := by
  intro h; change (decide (x0 < 1024)) = true at h; simp only [decide_eq_true_eq] at h
  exact all_cons (by omega) all_nil
theorem ctlCommit : Statement .ctlCommit := fun _ => all_nil
theorem adc0ReqGo (x0 : Nat) : Statement (.adc0ReqGo x0) := by
  intro h; change (decide (x0 < 4)) = true at h; simp only [decide_eq_true_eq] at h
  exact all_cons (by omega) all_nil
theorem adc0FirCommit : Statement .adc0FirCommit := fun _ => all_nil
theorem adc0EvhiRead : Statement .adc0EvhiRead := fun _ => all_nil
theorem tinQhiRead (x0 : Nat) : Statement (.tinQhiRead x0) := by
  intro h; change (decide (x0 < 4)) = true at h; simp only [decide_eq_true_eq] at h
  exact all_cons (by omega) all_nil
theorem tinCfgWrite (x0 : Nat) (x1 : Word) : Statement (.tinCfgWrite x0 x1) := by
  intro h; change (decide (x0 < 4)) = true at h; simp only [decide_eq_true_eq] at h
  exact all_cons (by omega) all_nil
theorem timeNsRead : Statement .timeNsRead := fun _ => all_nil
theorem timeIncWrite (x0 : Word) : Statement (.timeIncWrite x0) := fun _ => all_nil
theorem timeOfsWrite (x0 : Word) : Statement (.timeOfsWrite x0) := fun _ => all_nil
theorem timeCtrlWrite (x0 : Nat) (x1 : Word) : Statement (.timeCtrlWrite x0 x1) := by
  intro h; change (decide (x0 < 9)) = true at h; simp only [decide_eq_true_eq] at h
  exact all_cons (by omega) all_nil
theorem timePpsWrite (x0 : Word) : Statement (.timePpsWrite x0) := fun _ => all_nil
theorem wortAnchShiWrite (x0 : Word) : Statement (.wortAnchShiWrite x0) := fun _ => all_nil
theorem ethTxcmdGo (x0 : Nat) (x1 : Word) : Statement (.ethTxcmdGo x0 x1) := by
  intro h; change (decide (x0 < 2)) = true at h; simp only [decide_eq_true_eq] at h
  exact all_cons (by omega) all_nil
theorem ethQpop (x0 : Nat) : Statement (.ethQpop x0) := by
  intro h; change (decide (x0 < 2)) = true at h; simp only [decide_eq_true_eq] at h
  exact all_cons (by omega) all_nil
theorem ethTxts2Read (x0 : Nat) : Statement (.ethTxts2Read x0) := by
  intro h; change (decide (x0 < 2)) = true at h; simp only [decide_eq_true_eq] at h
  exact all_cons (by omega) all_nil
theorem ethModeWrite (x0 : Nat) (x1 : Word) : Statement (.ethModeWrite x0 x1) := by
  intro h; change (decide (x0 < 2)) = true at h; simp only [decide_eq_true_eq] at h
  exact all_cons (by omega) all_nil
theorem wdtkick (x0 : Nat) (x1 : Word) : Statement (.wdtkick x0 x1) := by
  intro h; change (decide (x0 < 2)) = true at h; simp only [decide_eq_true_eq] at h
  exact all_cons (by omega) all_nil
theorem mbox7Write (x0 : Nat) (x1 : Word) : Statement (.mbox7Write x0 x1) := by
  intro h; change (decide (x0 < 2)) = true at h; simp only [decide_eq_true_eq] at h
  exact all_cons (by omega) all_nil
theorem dmaGo (x0 : Nat) : Statement (.dmaGo x0) := by
  intro h; change (decide (x0 < 4)) = true at h; simp only [decide_eq_true_eq] at h
  exact all_cons (by omega) all_nil
theorem dmaDone (x0 : Nat) (x1 : List Nat := []) : Statement (.dmaDone x0 x1) := by
  intro h; change (decide (x0 < 4) && x1.all (fun e => errsOk 2 e)) = true at h; simp only [Bool.and_eq_true, decide_eq_true_eq] at h
  exact all_cons (by omega) all_nil
theorem caskLrsgo : Statement .caskLrsgo := fun _ => all_nil
theorem lrsRecordIssue : Statement .lrsRecordIssue := fun _ => all_nil
theorem caskApply : Statement .caskApply := fun _ => all_nil
theorem caskCopyBackDone : Statement .caskCopyBackDone := fun _ => all_nil
theorem registerWrite (x0 : Nat) (x1 : Nat) (x2 : Word) : Statement (.registerWrite x0 x1 x2) := by
  intro h; change (decide (x0 < 9) && decide (x1 < 4294967296) && decide (1 ≤ x0)) = true at h; simp only [Bool.and_eq_true, decide_eq_true_eq] at h
  exact all_cons (by omega) (all_cons (by omega) all_nil)
theorem wdtExpiry (x0 : Nat) : Statement (.wdtExpiry x0) := by
  intro h; change (decide (x0 < 2)) = true at h; simp only [decide_eq_true_eq] at h
  exact all_cons (by omega) all_nil
theorem dspCoreStart (x0 : Nat) (x1 : Nat) : Statement (.dspCoreStart x0 x1) := by
  intro h; change (decide (x0 < 2) && decide (x1 < 3)) = true at h; simp only [Bool.and_eq_true, decide_eq_true_eq] at h
  exact all_cons (by omega) (all_cons (by omega) all_nil)
theorem dspInterruptEntry (x0 : Nat) : Statement (.dspInterruptEntry x0) := by
  intro h; change (decide (x0 < 2)) = true at h; simp only [decide_eq_true_eq] at h
  exact all_cons (by omega) all_nil
theorem dspException (x0 : Nat) (x1 : Option Word) : Statement (.dspException x0 x1) := by
  intro h; change (decide (x0 < 2)) = true at h; simp only [decide_eq_true_eq] at h
  exact all_cons (by omega) all_nil
theorem tapColumnDone (x0 : Nat) : Statement (.tapColumnDone x0) := by
  intro h; change (decide (x0 < 2)) = true at h; simp only [decide_eq_true_eq] at h
  exact all_cons (by omega) all_nil
theorem dspAdd (x0 : Nat) (x1 : Nat) (x2 : Nat) (x3 : Nat) : Statement (.dspAdd x0 x1 x2 x3) := by
  intro h; change (decide (x0 < 2) && decide (x1 < 32) && decide (x2 < 32) && decide (x3 < 32)) = true at h; simp only [Bool.and_eq_true, decide_eq_true_eq] at h
  exact all_cons (by omega) (all_cons (by omega) (all_cons (by omega) (all_cons (by omega) all_nil)))
theorem dspSub (x0 : Nat) (x1 : Nat) (x2 : Nat) (x3 : Nat) : Statement (.dspSub x0 x1 x2 x3) := by
  intro h; change (decide (x0 < 2) && decide (x1 < 32) && decide (x2 < 32) && decide (x3 < 32)) = true at h; simp only [Bool.and_eq_true, decide_eq_true_eq] at h
  exact all_cons (by omega) (all_cons (by omega) (all_cons (by omega) (all_cons (by omega) all_nil)))
theorem dspAdds (x0 : Nat) (x1 : Nat) (x2 : Nat) (x3 : Nat) : Statement (.dspAdds x0 x1 x2 x3) := by
  intro h; change (decide (x0 < 2) && decide (x1 < 32) && decide (x2 < 32) && decide (x3 < 32)) = true at h; simp only [Bool.and_eq_true, decide_eq_true_eq] at h
  exact all_cons (by omega) (all_cons (by omega) (all_cons (by omega) (all_cons (by omega) all_nil)))
theorem dspSubs (x0 : Nat) (x1 : Nat) (x2 : Nat) (x3 : Nat) : Statement (.dspSubs x0 x1 x2 x3) := by
  intro h; change (decide (x0 < 2) && decide (x1 < 32) && decide (x2 < 32) && decide (x3 < 32)) = true at h; simp only [Bool.and_eq_true, decide_eq_true_eq] at h
  exact all_cons (by omega) (all_cons (by omega) (all_cons (by omega) (all_cons (by omega) all_nil)))
theorem dspAnd (x0 : Nat) (x1 : Nat) (x2 : Nat) (x3 : Nat) : Statement (.dspAnd x0 x1 x2 x3) := by
  intro h; change (decide (x0 < 2) && decide (x1 < 32) && decide (x2 < 32) && decide (x3 < 32)) = true at h; simp only [Bool.and_eq_true, decide_eq_true_eq] at h
  exact all_cons (by omega) (all_cons (by omega) (all_cons (by omega) (all_cons (by omega) all_nil)))
theorem dspOr (x0 : Nat) (x1 : Nat) (x2 : Nat) (x3 : Nat) : Statement (.dspOr x0 x1 x2 x3) := by
  intro h; change (decide (x0 < 2) && decide (x1 < 32) && decide (x2 < 32) && decide (x3 < 32)) = true at h; simp only [Bool.and_eq_true, decide_eq_true_eq] at h
  exact all_cons (by omega) (all_cons (by omega) (all_cons (by omega) (all_cons (by omega) all_nil)))
theorem dspXor (x0 : Nat) (x1 : Nat) (x2 : Nat) (x3 : Nat) : Statement (.dspXor x0 x1 x2 x3) := by
  intro h; change (decide (x0 < 2) && decide (x1 < 32) && decide (x2 < 32) && decide (x3 < 32)) = true at h; simp only [Bool.and_eq_true, decide_eq_true_eq] at h
  exact all_cons (by omega) (all_cons (by omega) (all_cons (by omega) (all_cons (by omega) all_nil)))
theorem dspSll (x0 : Nat) (x1 : Nat) (x2 : Nat) (x3 : Nat) : Statement (.dspSll x0 x1 x2 x3) := by
  intro h; change (decide (x0 < 2) && decide (x1 < 32) && decide (x2 < 32) && decide (x3 < 32)) = true at h; simp only [Bool.and_eq_true, decide_eq_true_eq] at h
  exact all_cons (by omega) (all_cons (by omega) (all_cons (by omega) (all_cons (by omega) all_nil)))
theorem dspSrl (x0 : Nat) (x1 : Nat) (x2 : Nat) (x3 : Nat) : Statement (.dspSrl x0 x1 x2 x3) := by
  intro h; change (decide (x0 < 2) && decide (x1 < 32) && decide (x2 < 32) && decide (x3 < 32)) = true at h; simp only [Bool.and_eq_true, decide_eq_true_eq] at h
  exact all_cons (by omega) (all_cons (by omega) (all_cons (by omega) (all_cons (by omega) all_nil)))
theorem dspSra (x0 : Nat) (x1 : Nat) (x2 : Nat) (x3 : Nat) : Statement (.dspSra x0 x1 x2 x3) := by
  intro h; change (decide (x0 < 2) && decide (x1 < 32) && decide (x2 < 32) && decide (x3 < 32)) = true at h; simp only [Bool.and_eq_true, decide_eq_true_eq] at h
  exact all_cons (by omega) (all_cons (by omega) (all_cons (by omega) (all_cons (by omega) all_nil)))
theorem dspMin (x0 : Nat) (x1 : Nat) (x2 : Nat) (x3 : Nat) : Statement (.dspMin x0 x1 x2 x3) := by
  intro h; change (decide (x0 < 2) && decide (x1 < 32) && decide (x2 < 32) && decide (x3 < 32)) = true at h; simp only [Bool.and_eq_true, decide_eq_true_eq] at h
  exact all_cons (by omega) (all_cons (by omega) (all_cons (by omega) (all_cons (by omega) all_nil)))
theorem dspMax (x0 : Nat) (x1 : Nat) (x2 : Nat) (x3 : Nat) : Statement (.dspMax x0 x1 x2 x3) := by
  intro h; change (decide (x0 < 2) && decide (x1 < 32) && decide (x2 < 32) && decide (x3 < 32)) = true at h; simp only [Bool.and_eq_true, decide_eq_true_eq] at h
  exact all_cons (by omega) (all_cons (by omega) (all_cons (by omega) (all_cons (by omega) all_nil)))
theorem dspCmplt (x0 : Nat) (x1 : Nat) (x2 : Nat) (x3 : Nat) : Statement (.dspCmplt x0 x1 x2 x3) := by
  intro h; change (decide (x0 < 2) && decide (x1 < 32) && decide (x2 < 32) && decide (x3 < 32)) = true at h; simp only [Bool.and_eq_true, decide_eq_true_eq] at h
  exact all_cons (by omega) (all_cons (by omega) (all_cons (by omega) (all_cons (by omega) all_nil)))
theorem dspCmpltu (x0 : Nat) (x1 : Nat) (x2 : Nat) (x3 : Nat) : Statement (.dspCmpltu x0 x1 x2 x3) := by
  intro h; change (decide (x0 < 2) && decide (x1 < 32) && decide (x2 < 32) && decide (x3 < 32)) = true at h; simp only [Bool.and_eq_true, decide_eq_true_eq] at h
  exact all_cons (by omega) (all_cons (by omega) (all_cons (by omega) (all_cons (by omega) all_nil)))
theorem dspCmpeq (x0 : Nat) (x1 : Nat) (x2 : Nat) (x3 : Nat) : Statement (.dspCmpeq x0 x1 x2 x3) := by
  intro h; change (decide (x0 < 2) && decide (x1 < 32) && decide (x2 < 32) && decide (x3 < 32)) = true at h; simp only [Bool.and_eq_true, decide_eq_true_eq] at h
  exact all_cons (by omega) (all_cons (by omega) (all_cons (by omega) (all_cons (by omega) all_nil)))
theorem dspMull (x0 : Nat) (x1 : Nat) (x2 : Nat) (x3 : Nat) : Statement (.dspMull x0 x1 x2 x3) := by
  intro h; change (decide (x0 < 2) && decide (x1 < 32) && decide (x2 < 32) && decide (x3 < 32)) = true at h; simp only [Bool.and_eq_true, decide_eq_true_eq] at h
  exact all_cons (by omega) (all_cons (by omega) (all_cons (by omega) (all_cons (by omega) all_nil)))
theorem dspMulh (x0 : Nat) (x1 : Nat) (x2 : Nat) (x3 : Nat) : Statement (.dspMulh x0 x1 x2 x3) := by
  intro h; change (decide (x0 < 2) && decide (x1 < 32) && decide (x2 < 32) && decide (x3 < 32)) = true at h; simp only [Bool.and_eq_true, decide_eq_true_eq] at h
  exact all_cons (by omega) (all_cons (by omega) (all_cons (by omega) (all_cons (by omega) all_nil)))
theorem dspAbs (x0 : Nat) (x1 : Nat) (x2 : Nat) : Statement (.dspAbs x0 x1 x2) := by
  intro h; change (decide (x0 < 2) && decide (x1 < 32) && decide (x2 < 32)) = true at h; simp only [Bool.and_eq_true, decide_eq_true_eq] at h
  exact all_cons (by omega) (all_cons (by omega) (all_cons (by omega) all_nil))
theorem dspClz (x0 : Nat) (x1 : Nat) (x2 : Nat) : Statement (.dspClz x0 x1 x2) := by
  intro h; change (decide (x0 < 2) && decide (x1 < 32) && decide (x2 < 32)) = true at h; simp only [Bool.and_eq_true, decide_eq_true_eq] at h
  exact all_cons (by omega) (all_cons (by omega) (all_cons (by omega) all_nil))
theorem dspPack (x0 : Nat) (x1 : Nat) (x2 : Nat) (x3 : Nat) : Statement (.dspPack x0 x1 x2 x3) := by
  intro h; change (decide (x0 < 2) && decide (x1 < 32) && decide (x2 < 32) && decide (x3 < 32)) = true at h; simp only [Bool.and_eq_true, decide_eq_true_eq] at h
  exact all_cons (by omega) (all_cons (by omega) (all_cons (by omega) (all_cons (by omega) all_nil)))
theorem dspAddi (x0 : Nat) (x1 : Nat) (x2 : Nat) (x3 : BitVec 14) : Statement (.dspAddi x0 x1 x2 x3) := by
  intro h; change (decide (x0 < 2) && decide (x1 < 32) && decide (x2 < 32)) = true at h; simp only [Bool.and_eq_true, decide_eq_true_eq] at h
  exact all_cons (by omega) (all_cons (by omega) (all_cons (by omega) all_nil))
theorem dspAndi (x0 : Nat) (x1 : Nat) (x2 : Nat) (x3 : BitVec 14) : Statement (.dspAndi x0 x1 x2 x3) := by
  intro h; change (decide (x0 < 2) && decide (x1 < 32) && decide (x2 < 32)) = true at h; simp only [Bool.and_eq_true, decide_eq_true_eq] at h
  exact all_cons (by omega) (all_cons (by omega) (all_cons (by omega) all_nil))
theorem dspOri (x0 : Nat) (x1 : Nat) (x2 : Nat) (x3 : BitVec 14) : Statement (.dspOri x0 x1 x2 x3) := by
  intro h; change (decide (x0 < 2) && decide (x1 < 32) && decide (x2 < 32)) = true at h; simp only [Bool.and_eq_true, decide_eq_true_eq] at h
  exact all_cons (by omega) (all_cons (by omega) (all_cons (by omega) all_nil))
theorem dspXori (x0 : Nat) (x1 : Nat) (x2 : Nat) (x3 : BitVec 14) : Statement (.dspXori x0 x1 x2 x3) := by
  intro h; change (decide (x0 < 2) && decide (x1 < 32) && decide (x2 < 32)) = true at h; simp only [Bool.and_eq_true, decide_eq_true_eq] at h
  exact all_cons (by omega) (all_cons (by omega) (all_cons (by omega) all_nil))
theorem dspSlli (x0 : Nat) (x1 : Nat) (x2 : Nat) (x3 : BitVec 14) : Statement (.dspSlli x0 x1 x2 x3) := by
  intro h; change (decide (x0 < 2) && decide (x1 < 32) && decide (x2 < 32)) = true at h; simp only [Bool.and_eq_true, decide_eq_true_eq] at h
  exact all_cons (by omega) (all_cons (by omega) (all_cons (by omega) all_nil))
theorem dspSrli (x0 : Nat) (x1 : Nat) (x2 : Nat) (x3 : BitVec 14) : Statement (.dspSrli x0 x1 x2 x3) := by
  intro h; change (decide (x0 < 2) && decide (x1 < 32) && decide (x2 < 32)) = true at h; simp only [Bool.and_eq_true, decide_eq_true_eq] at h
  exact all_cons (by omega) (all_cons (by omega) (all_cons (by omega) all_nil))
theorem dspSrai (x0 : Nat) (x1 : Nat) (x2 : Nat) (x3 : BitVec 14) : Statement (.dspSrai x0 x1 x2 x3) := by
  intro h; change (decide (x0 < 2) && decide (x1 < 32) && decide (x2 < 32)) = true at h; simp only [Bool.and_eq_true, decide_eq_true_eq] at h
  exact all_cons (by omega) (all_cons (by omega) (all_cons (by omega) all_nil))
theorem dspCmplti (x0 : Nat) (x1 : Nat) (x2 : Nat) (x3 : BitVec 14) : Statement (.dspCmplti x0 x1 x2 x3) := by
  intro h; change (decide (x0 < 2) && decide (x1 < 32) && decide (x2 < 32)) = true at h; simp only [Bool.and_eq_true, decide_eq_true_eq] at h
  exact all_cons (by omega) (all_cons (by omega) (all_cons (by omega) all_nil))
theorem dspCmpeqi (x0 : Nat) (x1 : Nat) (x2 : Nat) (x3 : BitVec 14) : Statement (.dspCmpeqi x0 x1 x2 x3) := by
  intro h; change (decide (x0 < 2) && decide (x1 < 32) && decide (x2 < 32)) = true at h; simp only [Bool.and_eq_true, decide_eq_true_eq] at h
  exact all_cons (by omega) (all_cons (by omega) (all_cons (by omega) all_nil))
theorem dspMovl (x0 : Nat) (x1 : Nat) (x2 : BitVec 16) : Statement (.dspMovl x0 x1 x2) := by
  intro h; change (decide (x0 < 2) && decide (x1 < 32)) = true at h; simp only [Bool.and_eq_true, decide_eq_true_eq] at h
  exact all_cons (by omega) (all_cons (by omega) all_nil)
theorem dspMovh (x0 : Nat) (x1 : Nat) (x2 : BitVec 16) : Statement (.dspMovh x0 x1 x2) := by
  intro h; change (decide (x0 < 2) && decide (x1 < 32)) = true at h; simp only [Bool.and_eq_true, decide_eq_true_eq] at h
  exact all_cons (by omega) (all_cons (by omega) all_nil)
theorem dspLdw (x0 : Nat) (x1 : Nat) (x2 : Nat) (x3 : Nat) (x4 : Nat) (x5 : BitVec 10) (x6 : Nat) : Statement (.dspLdw x0 x1 x2 x3 x4 x5 x6) := by
  intro h; change (decide (x0 < 2) && decide (x1 < 32) && decide (x2 < 32) && decide (x3 < 8) && decide (x4 < 4) && errsOk 2 x6) = true at h; simp only [Bool.and_eq_true, decide_eq_true_eq] at h
  exact all_cons (by omega) (all_cons (by omega) (all_cons (by omega) (all_cons (by omega) (all_cons (by omega) all_nil))))
theorem dspLdh (x0 : Nat) (x1 : Nat) (x2 : Nat) (x3 : Nat) (x4 : Nat) (x5 : BitVec 10) (x6 : Nat) : Statement (.dspLdh x0 x1 x2 x3 x4 x5 x6) := by
  intro h; change (decide (x0 < 2) && decide (x1 < 32) && decide (x2 < 32) && decide (x3 < 8) && decide (x4 < 4) && errsOk 1 x6) = true at h; simp only [Bool.and_eq_true, decide_eq_true_eq] at h
  exact all_cons (by omega) (all_cons (by omega) (all_cons (by omega) (all_cons (by omega) (all_cons (by omega) all_nil))))
theorem dspLdhu (x0 : Nat) (x1 : Nat) (x2 : Nat) (x3 : Nat) (x4 : Nat) (x5 : BitVec 10) (x6 : Nat) : Statement (.dspLdhu x0 x1 x2 x3 x4 x5 x6) := by
  intro h; change (decide (x0 < 2) && decide (x1 < 32) && decide (x2 < 32) && decide (x3 < 8) && decide (x4 < 4) && errsOk 1 x6) = true at h; simp only [Bool.and_eq_true, decide_eq_true_eq] at h
  exact all_cons (by omega) (all_cons (by omega) (all_cons (by omega) (all_cons (by omega) (all_cons (by omega) all_nil))))
theorem dspLdd (x0 : Nat) (x1 : Nat) (x2 : Nat) (x3 : Nat) (x4 : Nat) (x5 : BitVec 10) (x6 : Nat) : Statement (.dspLdd x0 x1 x2 x3 x4 x5 x6) := by
  intro h; change (decide (x0 < 2) && decide (x1 < 32) && decide (x2 < 32) && decide (x3 < 8) && decide (x4 < 4) && errsOk 4 x6 && decide (x1 % 2 = 0)) = true at h; simp only [Bool.and_eq_true, decide_eq_true_eq] at h
  exact all_cons (by omega) (all_cons (by omega) (all_cons (by omega) (all_cons (by omega) (all_cons (by omega) all_nil))))
theorem dspStw (x0 : Nat) (x1 : Nat) (x2 : Nat) (x3 : Nat) (x4 : Nat) (x5 : BitVec 10) : Statement (.dspStw x0 x1 x2 x3 x4 x5) := by
  intro h; change (decide (x0 < 2) && decide (x1 < 32) && decide (x2 < 32) && decide (x3 < 8) && decide (x4 < 4)) = true at h; simp only [Bool.and_eq_true, decide_eq_true_eq] at h
  exact all_cons (by omega) (all_cons (by omega) (all_cons (by omega) (all_cons (by omega) (all_cons (by omega) all_nil))))
theorem dspSth (x0 : Nat) (x1 : Nat) (x2 : Nat) (x3 : Nat) (x4 : Nat) (x5 : BitVec 10) : Statement (.dspSth x0 x1 x2 x3 x4 x5) := by
  intro h; change (decide (x0 < 2) && decide (x1 < 32) && decide (x2 < 32) && decide (x3 < 8) && decide (x4 < 4)) = true at h; simp only [Bool.and_eq_true, decide_eq_true_eq] at h
  exact all_cons (by omega) (all_cons (by omega) (all_cons (by omega) (all_cons (by omega) (all_cons (by omega) all_nil))))
theorem dspStd (x0 : Nat) (x1 : Nat) (x2 : Nat) (x3 : Nat) (x4 : Nat) (x5 : BitVec 10) : Statement (.dspStd x0 x1 x2 x3 x4 x5) := by
  intro h; change (decide (x0 < 2) && decide (x1 < 32) && decide (x2 < 32) && decide (x3 < 8) && decide (x4 < 4) && decide (x1 % 2 = 0)) = true at h; simp only [Bool.and_eq_true, decide_eq_true_eq] at h
  exact all_cons (by omega) (all_cons (by omega) (all_cons (by omega) (all_cons (by omega) (all_cons (by omega) all_nil))))
theorem dspQmpy (x0 : Nat) (x1 : Nat) (x2 : Bool) (x3 : Nat) (x4 : Bool) (x5 : Nat) : Statement (.dspQmpy x0 x1 x2 x3 x4 x5) := by
  intro h; change (decide (x0 < 2) && decide (x1 < 32) && decide (x3 < 16) && decide (x5 < 16)) = true at h; simp only [Bool.and_eq_true, decide_eq_true_eq] at h
  exact all_cons (by omega) (all_cons (by omega) (all_cons (by omega) (all_cons (by omega) all_nil)))
theorem dspQmac (x0 : Nat) (x1 : Nat) (x2 : Bool) (x3 : Nat) (x4 : Bool) (x5 : Nat) : Statement (.dspQmac x0 x1 x2 x3 x4 x5) := by
  intro h; change (decide (x0 < 2) && decide (x1 < 32) && decide (x3 < 16) && decide (x5 < 16)) = true at h; simp only [Bool.and_eq_true, decide_eq_true_eq] at h
  exact all_cons (by omega) (all_cons (by omega) (all_cons (by omega) (all_cons (by omega) all_nil)))
theorem dspQclr (x0 : Nat) : Statement (.dspQclr x0) := by
  intro h; change (decide (x0 < 2)) = true at h; simp only [decide_eq_true_eq] at h
  exact all_cons (by omega) all_nil
theorem dspMva (x0 : Nat) (x1 : Nat) (x2 : Nat) (x3 : Bool) (x4 : Nat) : Statement (.dspMva x0 x1 x2 x3 x4) := by
  intro h; change (decide (x0 < 2) && decide (x1 < 32) && decide (x2 < 4) && decide (x4 < 64)) = true at h; simp only [Bool.and_eq_true, decide_eq_true_eq] at h
  exact all_cons (by omega) (all_cons (by omega) (all_cons (by omega) (all_cons (by omega) all_nil)))
theorem dspMval (x0 : Nat) (x1 : Nat) (x2 : Nat) : Statement (.dspMval x0 x1 x2) := by
  intro h; change (decide (x0 < 2) && decide (x1 < 32) && decide (x2 < 4)) = true at h; simp only [Bool.and_eq_true, decide_eq_true_eq] at h
  exact all_cons (by omega) (all_cons (by omega) (all_cons (by omega) all_nil))
theorem dspMvah (x0 : Nat) (x1 : Nat) (x2 : Nat) : Statement (.dspMvah x0 x1 x2) := by
  intro h; change (decide (x0 < 2) && decide (x1 < 32) && decide (x2 < 4)) = true at h; simp only [Bool.and_eq_true, decide_eq_true_eq] at h
  exact all_cons (by omega) (all_cons (by omega) (all_cons (by omega) all_nil))
theorem dspMvag (x0 : Nat) (x1 : Nat) (x2 : Nat) : Statement (.dspMvag x0 x1 x2) := by
  intro h; change (decide (x0 < 2) && decide (x1 < 32) && decide (x2 < 4)) = true at h; simp only [Bool.and_eq_true, decide_eq_true_eq] at h
  exact all_cons (by omega) (all_cons (by omega) (all_cons (by omega) all_nil))
theorem dspMta (x0 : Nat) (x1 : Nat) (x2 : Nat) (x3 : Nat) : Statement (.dspMta x0 x1 x2 x3) := by
  intro h; change (decide (x0 < 2) && decide (x1 < 32) && decide (x2 < 4) && decide (x3 < 64)) = true at h; simp only [Bool.and_eq_true, decide_eq_true_eq] at h
  exact all_cons (by omega) (all_cons (by omega) (all_cons (by omega) (all_cons (by omega) all_nil)))
theorem dspAdda (x0 : Nat) (x1 : Nat) (x2 : Nat) : Statement (.dspAdda x0 x1 x2) := by
  intro h; change (decide (x0 < 2) && decide (x1 < 4) && decide (x2 < 4)) = true at h; simp only [Bool.and_eq_true, decide_eq_true_eq] at h
  exact all_cons (by omega) (all_cons (by omega) (all_cons (by omega) all_nil))
theorem dspSha (x0 : Nat) (x1 : Nat) (x2 : Bool) (x3 : Nat) : Statement (.dspSha x0 x1 x2 x3) := by
  intro h; change (decide (x0 < 2) && decide (x1 < 4) && decide (x3 < 64)) = true at h; simp only [Bool.and_eq_true, decide_eq_true_eq] at h
  exact all_cons (by omega) (all_cons (by omega) (all_cons (by omega) all_nil))
theorem dspBra (x0 : Nat) (x1 : Nat) (x2 : BitVec 19) : Statement (.dspBra x0 x1 x2) := by
  intro h; change (decide (x0 < 2) && decide (x1 < 32)) = true at h; simp only [Bool.and_eq_true, decide_eq_true_eq] at h
  exact all_cons (by omega) (all_cons (by omega) all_nil)
theorem dspBeq (x0 : Nat) (x1 : Nat) (x2 : BitVec 19) : Statement (.dspBeq x0 x1 x2) := by
  intro h; change (decide (x0 < 2) && decide (x1 < 32)) = true at h; simp only [Bool.and_eq_true, decide_eq_true_eq] at h
  exact all_cons (by omega) (all_cons (by omega) all_nil)
theorem dspBne (x0 : Nat) (x1 : Nat) (x2 : BitVec 19) : Statement (.dspBne x0 x1 x2) := by
  intro h; change (decide (x0 < 2) && decide (x1 < 32)) = true at h; simp only [Bool.and_eq_true, decide_eq_true_eq] at h
  exact all_cons (by omega) (all_cons (by omega) all_nil)
theorem dspBlt (x0 : Nat) (x1 : Nat) (x2 : BitVec 19) : Statement (.dspBlt x0 x1 x2) := by
  intro h; change (decide (x0 < 2) && decide (x1 < 32)) = true at h; simp only [Bool.and_eq_true, decide_eq_true_eq] at h
  exact all_cons (by omega) (all_cons (by omega) all_nil)
theorem dspBge (x0 : Nat) (x1 : Nat) (x2 : BitVec 19) : Statement (.dspBge x0 x1 x2) := by
  intro h; change (decide (x0 < 2) && decide (x1 < 32)) = true at h; simp only [Bool.and_eq_true, decide_eq_true_eq] at h
  exact all_cons (by omega) (all_cons (by omega) all_nil)
theorem dspBgt (x0 : Nat) (x1 : Nat) (x2 : BitVec 19) : Statement (.dspBgt x0 x1 x2) := by
  intro h; change (decide (x0 < 2) && decide (x1 < 32)) = true at h; simp only [Bool.and_eq_true, decide_eq_true_eq] at h
  exact all_cons (by omega) (all_cons (by omega) all_nil)
theorem dspBle (x0 : Nat) (x1 : Nat) (x2 : BitVec 19) : Statement (.dspBle x0 x1 x2) := by
  intro h; change (decide (x0 < 2) && decide (x1 < 32)) = true at h; simp only [Bool.and_eq_true, decide_eq_true_eq] at h
  exact all_cons (by omega) (all_cons (by omega) all_nil)
theorem dspCall (x0 : Nat) (x1 : BitVec 19) : Statement (.dspCall x0 x1) := by
  intro h; change (decide (x0 < 2)) = true at h; simp only [decide_eq_true_eq] at h
  exact all_cons (by omega) all_nil
theorem dspJr (x0 : Nat) (x1 : Nat) : Statement (.dspJr x0 x1) := by
  intro h; change (decide (x0 < 2) && decide (x1 < 32)) = true at h; simp only [Bool.and_eq_true, decide_eq_true_eq] at h
  exact all_cons (by omega) (all_cons (by omega) all_nil)
theorem dspJalr (x0 : Nat) (x1 : Nat) : Statement (.dspJalr x0 x1) := by
  intro h; change (decide (x0 < 2) && decide (x1 < 32)) = true at h; simp only [Bool.and_eq_true, decide_eq_true_eq] at h
  exact all_cons (by omega) (all_cons (by omega) all_nil)
theorem dspRti (x0 : Nat) : Statement (.dspRti x0) := by
  intro h; change (decide (x0 < 2)) = true at h; simp only [decide_eq_true_eq] at h
  exact all_cons (by omega) all_nil
theorem dspNop (x0 : Nat) : Statement (.dspNop x0) := by
  intro h; change (decide (x0 < 2)) = true at h; simp only [decide_eq_true_eq] at h
  exact all_cons (by omega) all_nil
theorem dspIdle (x0 : Nat) : Statement (.dspIdle x0) := by
  intro h; change (decide (x0 < 2)) = true at h; simp only [decide_eq_true_eq] at h
  exact all_cons (by omega) all_nil
theorem dspEi (x0 : Nat) : Statement (.dspEi x0) := by
  intro h; change (decide (x0 < 2)) = true at h; simp only [decide_eq_true_eq] at h
  exact all_cons (by omega) all_nil
theorem dspDi (x0 : Nat) : Statement (.dspDi x0) := by
  intro h; change (decide (x0 < 2)) = true at h; simp only [decide_eq_true_eq] at h
  exact all_cons (by omega) all_nil
theorem dspCsrr (x0 : Nat) (x1 : Nat) (x2 : Nat) : Statement (.dspCsrr x0 x1 x2) := by
  intro h; change (decide (x0 < 2) && decide (x1 < 32) && decide (x2 < 4096)) = true at h; simp only [Bool.and_eq_true, decide_eq_true_eq] at h
  exact all_cons (by omega) (all_cons (by omega) (all_cons (by omega) all_nil))
theorem dspCsrw (x0 : Nat) (x1 : Nat) (x2 : Nat) : Statement (.dspCsrw x0 x1 x2) := by
  intro h; change (decide (x0 < 2) && decide (x1 < 32) && decide (x2 < 4096)) = true at h; simp only [Bool.and_eq_true, decide_eq_true_eq] at h
  exact all_cons (by omega) (all_cons (by omega) (all_cons (by omega) all_nil))
theorem dspTrap (x0 : Nat) : Statement (.dspTrap x0) := by
  intro h; change (decide (x0 < 2)) = true at h; simp only [decide_eq_true_eq] at h
  exact all_cons (by omega) all_nil
theorem dspSync (x0 : Nat) : Statement (.dspSync x0) := by
  intro h; change (decide (x0 < 2)) = true at h; simp only [decide_eq_true_eq] at h
  exact all_cons (by omega) all_nil
theorem dspRepeat (x0 : Nat) (x1 : Option Nat) (x2 : Nat) : Statement (.dspRepeat x0 x1 x2) := by
  intro h; change (decide (x0 < 2) && decide (x2 < 65536) && decide (x1.getD 0 < 32)) = true at h; simp only [Bool.and_eq_true, decide_eq_true_eq] at h
  exact all_cons (by omega) (all_cons (by omega) all_nil)
theorem dspLoop (x0 : Nat) (x1 : Option Nat) (x2 : Nat) (x3 : Nat) : Statement (.dspLoop x0 x1 x2 x3) := by
  intro h; change (decide (x0 < 2) && decide (x2 < 2048) && decide (x3 < 1024) && decide (x1.getD 0 < 32)) = true at h; simp only [Bool.and_eq_true, decide_eq_true_eq] at h
  exact all_cons (by omega) (all_cons (by omega) (all_cons (by omega) all_nil))
theorem timeCounterWrap : Statement .timeCounterWrap := fun _ => all_nil
theorem ethFrameTransmitDone (x0 : Nat) (x1 : Nat) (x2 : Bool := false) : Statement (.ethFrameTransmitDone x0 x1 x2) := by
  intro h; change (decide (x0 < 2)) = true at h; simp only [decide_eq_true_eq] at h
  exact all_cons (by omega) all_nil
theorem timerCompareMatch (x0 : Nat) : Statement (.timerCompareMatch x0) := by
  intro h; change (decide (x0 < 2)) = true at h; simp only [decide_eq_true_eq] at h
  exact all_cons (by omega) all_nil
theorem edmLevelChange (x0 : Bool) : Statement (.edmLevelChange x0) := fun _ => all_nil
theorem boundaryScanInstruction (x0 : Nat) (x1 : BitVec 52 := 0) (x2 : BitVec 52 := 0) : Statement (.boundaryScanInstruction x0 x1 x2) := by
  intro h; change (decide (x0 < 4)) = true at h; simp only [decide_eq_true_eq] at h
  exact all_cons (by omega) all_nil

end Sys2Proof.Laws.Target
end

