-- ==== Sys2Proof/Laws/PhaseFrame.lean ====
section
/-!
SUPPORT. The frame of the boot phase: every operation and meaning but those of chapters 3 and 4 that change it leaves it as it was.
-/
namespace Sys2Proof.Machine

/-- The boot phase after an outcome. -/
def Out.phase (d : BootPhase) : Out → BootPhase
  | .next t => t.rst.phase
  | _ => d
@[simp] theorem Out.phase_next (d : BootPhase) (t : State) : Out.phase d (.next t) = t.rst.phase := Eq.trans (Eq.refl _) rfl
theorem Out.phase_ite (d : BootPhase) (c : Prop) [Decidable c] (a b : Out) : Out.phase d (if c then a else b) = if c then Out.phase d a else Out.phase d b := by
  split <;> rfl
theorem State.phase_ite (c : Prop) [Decidable c] (a b : State) : (if c then a else b).rst.phase = if c then a.rst.phase else b.rst.phase := by
  split <;> rfl
theorem foldl_phase {α : Type} (g : State → α → State) (h : ∀ s x, (g s x).rst.phase = s.rst.phase) (l : List α) (s : State) :
    (l.foldl g s).rst.phase = s.rst.phase := by
  induction l generalizing s with
  | nil => rfl
  | cons x l ih => rw [List.foldl_cons, ih, h]

theorem State.withRst_phase (s : State) (x : RstSt) : (s.withRst x).rst.phase = x.phase := (rfl)

/-! ## Ops -/

@[simp] theorem State.withNow_phase (s : State) (x : Nat) : (State.withNow s x).rst.phase = s.rst.phase := by
  simp only [State.withNow]
@[simp] theorem State.withMs_phase (s : State) (x : Nat) : (State.withMs s x).rst.phase = s.rst.phase := by
  simp only [State.withMs]
@[simp] theorem State.withEff_phase (s : State) (x : SMap Word) : (State.withEff s x).rst.phase = s.rst.phase := by
  simp only [State.withEff]
@[simp] theorem State.withFlash_phase (s : State) (x : List Host.Cell) : (State.withFlash s x).rst.phase = s.rst.phase := by
  simp only [State.withFlash]
@[simp] theorem State.withTun_phase (s : State) (x : SMap (BitVec 16)) : (State.withTun s x).rst.phase = s.rst.phase := by
  simp only [State.withTun]
@[simp] theorem State.withDev_phase (s : State) (x : Dev) : (State.withDev s x).rst.phase = s.rst.phase := by
  simp only [State.withDev]
@[simp] theorem State.withNvm_phase (s : State) (x : Nvm) : (State.withNvm s x).rst.phase = s.rst.phase := by
  simp only [State.withNvm]
@[simp] theorem State.withPins_phase (s : State) (x : PinSt) : (State.withPins s x).rst.phase = s.rst.phase := by
  simp only [State.withPins]
@[simp] theorem State.withEmit_phase (s : State) (x : EmitSt) : (State.withEmit s x).rst.phase = s.rst.phase := by
  simp only [State.withEmit]
@[simp] theorem State.withStrs_phase (s : State) (x : SMap StrSt) : (State.withStrs s x).rst.phase = s.rst.phase := by
  simp only [State.withStrs]
@[simp] theorem State.withScan_phase (s : State) (x : ScanSt) : (State.withScan s x).rst.phase = s.rst.phase := by
  simp only [State.withScan]
@[simp] theorem State.withKiln_phase (s : State) (x : KilnSt) : (State.withKiln s x).rst.phase = s.rst.phase := by
  simp only [State.withKiln]
@[simp] theorem State.withTime_phase (s : State) (x : TimeSt) : (State.withTime s x).rst.phase = s.rst.phase := by
  simp only [State.withTime]
@[simp] theorem State.withAnchor_phase (s : State) (x : Anchor) : (State.withAnchor s x).rst.phase = s.rst.phase := by
  simp only [State.withAnchor]
@[simp] theorem State.withTherm_phase (s : State) (x : ThermSt) : (State.withTherm s x).rst.phase = s.rst.phase := by
  simp only [State.withTherm]
@[simp] theorem State.withChans_phase (s : State) (x : SMap ChanSt) : (State.withChans s x).rst.phase = s.rst.phase := by
  simp only [State.withChans]
@[simp] theorem State.withClus_phase (s : State) (x : SMap CluSt) : (State.withClus s x).rst.phase = s.rst.phase := by
  simp only [State.withClus]
@[simp] theorem State.withMash_phase (s : State) (x : MashSt) : (State.withMash s x).rst.phase = s.rst.phase := by
  simp only [State.withMash]
@[simp] theorem State.withTins_phase (s : State) (x : SMap TinSt) : (State.withTins s x).rst.phase = s.rst.phase := by
  simp only [State.withTins]
@[simp] theorem State.withHists_phase (s : State) (x : SMap Hist) : (State.withHists s x).rst.phase = s.rst.phase := by
  simp only [State.withHists]
@[simp] theorem State.withLau_phase (s : State) (x : LauSt) : (State.withLau s x).rst.phase = s.rst.phase := by
  simp only [State.withLau]
@[simp] theorem State.withCal_phase (s : State) (x : SMap Word) : (State.withCal s x).rst.phase = s.rst.phase := by
  simp only [State.withCal]
@[simp] theorem State.withWort_phase (s : State) (x : WortSt) : (State.withWort s x).rst.phase = s.rst.phase := by
  simp only [State.withWort]
@[simp] theorem State.withDwl_phase (s : State) (x : DwlSt) : (State.withDwl s x).rst.phase = s.rst.phase := by
  simp only [State.withDwl]
@[simp] theorem State.withCtl_phase (s : State) (x : CtlSt) : (State.withCtl s x).rst.phase = s.rst.phase := by
  simp only [State.withCtl]
@[simp] theorem State.withAdcLast_phase (s : State) (x : SMap Nat) : (State.withAdcLast s x).rst.phase = s.rst.phase := by
  simp only [State.withAdcLast]
@[simp] theorem State.withAdc_phase (s : State) (x : AdcSt) : (State.withAdc s x).rst.phase = s.rst.phase := by
  simp only [State.withAdc]
@[simp] theorem State.withAfePos_phase (s : State) (x : Nat) : (State.withAfePos s x).rst.phase = s.rst.phase := by
  simp only [State.withAfePos]
@[simp] theorem State.withLanes_phase (s : State) (x : SMap LaneSt) : (State.withLanes s x).rst.phase = s.rst.phase := by
  simp only [State.withLanes]
@[simp] theorem State.withEths_phase (s : State) (x : SMap EthSt) : (State.withEths s x).rst.phase = s.rst.phase := by
  simp only [State.withEths]
@[simp] theorem State.withPrp_phase (s : State) (x : List PrpEnt) : (State.withPrp s x).rst.phase = s.rst.phase := by
  simp only [State.withPrp]
@[simp] theorem State.withLines_phase (s : State) (x : SMap Nat) : (State.withLines s x).rst.phase = s.rst.phase := by
  simp only [State.withLines]
@[simp] theorem State.withParkWake_phase (s : State) (x : Bool) : (State.withParkWake s x).rst.phase = s.rst.phase := by
  simp only [State.withParkWake]
@[simp] theorem State.withGuard_phase (s : State) (x : GuardSt) : (State.withGuard s x).rst.phase = s.rst.phase := by
  simp only [State.withGuard]
@[simp] theorem State.withCask_phase (s : State) (x : CaskSt) : (State.withCask s x).rst.phase = s.rst.phase := by
  simp only [State.withCask]
@[simp] theorem State.withCores_phase (s : State) (x : SMap CoreSt) : (State.withCores s x).rst.phase = s.rst.phase := by
  simp only [State.withCores]
@[simp] theorem State.withDma_phase (s : State) (x : SMap (Option DmaSt)) : (State.withDma s x).rst.phase = s.rst.phase := by
  simp only [State.withDma]
@[simp] theorem State.withAmp_phase (s : State) (x : AmpSt) : (State.withAmp s x).rst.phase = s.rst.phase := by
  simp only [State.withAmp]
@[simp] theorem State.withFlOp_phase (s : State) (x : Option FlashOp) : (State.withFlOp s x).rst.phase = s.rst.phase := by
  simp only [State.withFlOp]
@[simp] theorem State.rset_phase (s : State) (a : Nat) (v : Word) : (State.rset s a v).rst.phase = s.rst.phase := by
  simp only [State.rset]
@[simp] theorem State.setF_phase (s : State) (F : Fld) (x : Nat) : (State.setF s F x).rst.phase = s.rst.phase := by
  simp only [State.setF, State.rset_phase]
@[simp] theorem State.setB_phase (s : State) (F : Fld) (x : Bool) : (State.setB s F x).rst.phase = s.rst.phase := by
  simp only [State.setB, State.setF_phase]
@[simp] theorem State.setFs_phase (s : State) (F : Fld) (x : Int) : (State.setFs s F x).rst.phase = s.rst.phase := by
  simp only [State.setFs, State.setF_phase]
@[simp] theorem State.incSat_phase (s : State) (F : Fld) (n : Nat) : (State.incSat s F n).rst.phase = s.rst.phase := by
  simp only [State.incSat, State.setF_phase]
@[simp] theorem State.incMod_phase (s : State) (F : Fld) (n : Nat) : (State.incMod s F n).rst.phase = s.rst.phase := by
  simp only [State.incMod, State.setF_phase]
@[simp] theorem State.latchEff_phase (s : State) (as : List Nat) : (State.latchEff s as).rst.phase = s.rst.phase := by
  simp only [State.latchEff, State.withEff_phase]
@[simp] theorem State.mset_phase (s : State) (a : Nat) (v : Byte) : (State.mset s a v).rst.phase = s.rst.phase := by
  simp only [State.mset]
@[simp] theorem State.msetH_phase (s : State) (a : Nat) (v : BitVec 16) : (State.msetH s a v).rst.phase = s.rst.phase := by
  simp only [State.msetH, State.mset_phase]
@[simp] theorem State.msetW_phase (s : State) (a : Nat) (v : Word) : (State.msetW s a v).rst.phase = s.rst.phase := by
  simp only [State.msetW, State.msetH_phase]
@[simp] theorem State.setStr_phase (s : State) (n : Nat) (x : StrSt) : (State.setStr s n x).rst.phase = s.rst.phase := by
  simp only [State.setStr, State.withStrs_phase]
@[simp] theorem State.countCause_phase (s : State) (c : Cause) : (State.countCause s c).rst.phase = s.rst.phase := by
  simp only [State.countCause, State.incSat_phase]
@[simp] theorem State.raise_phase (s : State) (c : Cause) : (State.raise s c).rst.phase = s.rst.phase := by
  simp only [State.raise, State.countCause_phase, State.setF_phase]
@[simp] theorem State.raiseIf_phase (s : State) (p : Bool) (c : Cause) : (State.raiseIf s p c).rst.phase = s.rst.phase := by
  simp only [State.raiseIf, State.raise_phase, State.phase_ite, ite_self]
@[simp] theorem State.setDev_phase (s : State) (d : Dev) : (State.setDev s d).rst.phase = s.rst.phase := by
  simp only [State.setDev, State.raise_phase, State.setF_phase, State.withDev_phase, State.phase_ite, ite_self]
@[simp] theorem State.nvmKick_phase (s : State) : (State.nvmKick s).rst.phase = s.rst.phase := by
  simp only [State.nvmKick, State.phase_ite]
  repeat' first | with_reducible rfl | simp only [State.withNvm_phase] | split
@[simp] theorem State.nvmPush_phase (s : State) (w : NvmWrite) : (State.nvmPush s w).rst.phase = s.rst.phase := by
  simp only [State.nvmPush, State.nvmKick_phase, State.withNvm_phase]
@[simp] theorem State.logEvent_phase (s : State) (code : Nat) (d0 d1 : Word) : (State.logEvent s code d0 d1).rst.phase = s.rst.phase := by
  simp only [State.logEvent, State.incSat_phase, State.nvmKick_phase, State.withNvm_phase, State.phase_ite, ite_self]
@[simp] theorem State.line_phase (s : State) (core i : Nat) : (State.line s core i).rst.phase = s.rst.phase := by
  simp only [State.line, State.withLines_phase]
@[simp] theorem State.raiseReset_phase (s : State) (src : Nat) : (State.raiseReset s src).rst.phase = s.rst.phase := by
  simp only [State.raiseReset, State.withRst_phase]
@[simp] theorem State.fresh_phase (s : State) : (State.fresh s).2.rst.phase = s.rst.phase := by
  simp only [State.fresh]

/-! ## GuardOps -/

@[simp] theorem State.soutOff_phase (s : State) : (State.soutOff s).rst.phase = s.rst.phase := by
  simp only [State.soutOff, State.setB_phase, State.setF_phase, State.withGuard_phase, State.phase_ite, ite_self]
@[simp] theorem State.guardFollow_phase (s : State) : (State.guardFollow s).rst.phase = s.rst.phase := by
  simp only [State.guardFollow, State.soutOff_phase, State.phase_ite, ite_self]
@[simp] theorem State.soutFault_phase (s : State) (code : Nat) : (State.soutFault s code).rst.phase = s.rst.phase := by
  simp only [State.soutFault, State.logEvent_phase, State.raise_phase, State.setB_phase, State.setF_phase, State.soutOff_phase, State.phase_ite, ite_self]
@[simp] theorem State.setGsweep_phase (s : State) (n : Nat) (x : GSweep) : (State.setGsweep s n x).rst.phase = s.rst.phase := by
  simp only [State.setGsweep, State.withGuard_phase]
@[simp] theorem State.confirm_phase (s : State) : (State.confirm s).rst.phase = s.rst.phase := by
  simp only [State.confirm, State.incSat_phase, State.raise_phase, State.setF_phase, State.soutOff_phase]
@[simp] theorem State.intrude_phase (s : State) (n f : Nat) : (State.intrude s n f).rst.phase = s.rst.phase := by
  simp only [State.intrude, State.confirm_phase, State.raise_phase, State.setGsweep_phase, State.withGuard_phase, State.phase_ite, ite_self]
@[simp] theorem State.guardSkip_phase (s : State) (az : Nat) : (State.guardSkip s az).rst.phase = s.rst.phase := by
  simp only [State.guardSkip, State.intrude_phase, State.phase_ite, ite_self]
@[simp] theorem State.guardInhibit_phase (s : State) : (State.guardInhibit s).rst.phase = s.rst.phase := by
  simp only [State.guardInhibit, State.confirm_phase, State.setGsweep_phase, State.phase_ite, ite_self]

/-! ## Adc -/

@[simp] theorem State.adcGainWritten_phase (s : State) (k old : Nat) : (State.adcGainWritten s k old).rst.phase = s.rst.phase := by
  simp only [State.adcGainWritten, State.withAdc_phase, State.phase_ite, ite_self]
@[simp] theorem State.adcChannelWritten_phase (s : State) (old : Nat) : (State.adcChannelWritten s old).rst.phase = s.rst.phase := by
  simp only [State.adcChannelWritten, State.withAdc_phase, State.phase_ite, ite_self]
@[simp] theorem State.adcRefSelected_phase (s : State) (old : Nat) : (State.adcRefSelected s old).rst.phase = s.rst.phase := by
  simp only [State.adcRefSelected, State.setB_phase, State.withAdc_phase, State.phase_ite, ite_self]
theorem execAdc0RefReady_phase (s : State) : Out.phase s.rst.phase (execAdc0RefReady s) = s.rst.phase := by
  simp only [execAdc0RefReady, State.setB_phase, State.phase_ite, ite_self, Out.phase_next]
theorem execAdc0RefFail_phase (s : State) : Out.phase s.rst.phase (execAdc0RefFail s) = s.rst.phase := by
  simp only [execAdc0RefFail, State.raise_phase, State.withAdc_phase, State.phase_ite, ite_self, Out.phase_next]
@[simp] theorem State.adcAdd_phase (s : State) (j : AdcJob) : (State.adcAdd s j).rst.phase = s.rst.phase := by
  simp only [State.adcAdd, State.withAdc_phase]
@[simp] theorem State.adcDone_phase (s : State) (i : Nat) : (State.adcDone s i).rst.phase = s.rst.phase := by
  simp only [State.adcDone]
  repeat' first | with_reducible rfl | simp only [State.withAdc_phase] | split
@[simp] theorem State.adcEnd_phase (s : State) (who : Nat) : (State.adcEnd s who).rst.phase = s.rst.phase := by
  simp only [State.adcEnd]
  repeat' first | with_reducible rfl | simp only [State.adcDone_phase] | split
@[simp] theorem State.adcMsns_phase (s : State) (n : Nat) : (State.adcMsns s n).rst.phase = s.rst.phase := by
  simp only [State.adcMsns, State.adcAdd_phase, State.adcEnd_phase]
@[simp] theorem State.adcDue_phase (s : State) (n t : Nat) : (State.adcDue s n t).rst.phase = s.rst.phase := by
  simp only [State.adcDue, State.withAdc_phase]
@[simp] theorem State.adcFired_phase (s : State) (k t : Nat) : (State.adcFired s k t).rst.phase = s.rst.phase := by
  simp only [State.adcFired]
  repeat' first | with_reducible rfl | simp only [State.adcDue_phase, State.phase_ite, ite_self] | split | refine (foldl_phase _ (fun s x => ?_) _ _).trans ?_
@[simp] theorem State.adcTick_phase (s : State) : (State.adcTick s).rst.phase = s.rst.phase := by
  simp only [State.adcTick]
  repeat' first | with_reducible rfl | simp only [State.adcDue_phase, State.withAdc_phase, State.phase_ite, ite_self] | split | refine (foldl_phase _ (fun s x => ?_) _ _).trans ?_
@[simp] theorem State.adcStamp_phase (s : State) : (State.adcStamp s).rst.phase = s.rst.phase := by
  simp only [State.adcStamp]
  repeat' first | with_reducible rfl | simp only [State.setF_phase, State.withAdc_phase, State.phase_ite, ite_self] | split | refine (foldl_phase _ (fun s x => ?_) _ _).trans ?_

/-! ## Emit -/

@[simp] theorem State.updateTj_phase (s : State) (n : Nat) : (State.updateTj s n).rst.phase = s.rst.phase := by
  simp only [State.updateTj, State.setF_phase, State.setFs_phase]
@[simp] theorem State.updateKnee_phase (s : State) (n : Nat) : (State.updateKnee s n).rst.phase = s.rst.phase := by
  simp only [State.updateKnee]
  repeat' first | with_reducible rfl | simp only [State.setF_phase, State.updateTj_phase] | split
@[simp] theorem State.reduceEntry_phase (s : State) (i c : Nat) : (State.reduceEntry s i c).rst.phase = s.rst.phase := by
  simp only [State.reduceEntry]
  repeat' first | with_reducible rfl | simp only [State.withScan_phase] | split
@[simp] theorem State.comingDemand_phase (s : State) (n : Nat) : (State.comingDemand s n).rst.phase = s.rst.phase := by
  simp only [State.comingDemand]
  repeat' first | with_reducible rfl | simp only [State.setF_phase] | split
@[simp] theorem State.noShot_phase (s : State) (n : Nat) : (State.noShot s n).rst.phase = s.rst.phase := by
  simp only [State.noShot, State.comingDemand_phase, State.setStr_phase]
@[simp] theorem State.dropDark_phase (s : State) (n : Nat) : (State.dropDark s n).rst.phase = s.rst.phase := by
  simp only [State.dropDark, State.setStr_phase]
  repeat' first | with_reducible rfl | simp only [State.reduceEntry_phase] | split | refine (foldl_phase _ (fun s x => ?_) _ _).trans ?_
@[simp] theorem State.schedule_phase (s : State) (n : Nat) : (State.schedule s n).rst.phase = s.rst.phase := by
  simp only [State.schedule, State.setStr_phase, State.phase_ite]
  repeat' first | with_reducible rfl | simp only [State.dropDark_phase, State.noShot_phase, State.reduceEntry_phase, State.setF_phase, State.setStr_phase, State.phase_ite, ite_self] | split | refine (foldl_phase _ (fun s x => ?_) _ _).trans ?_
@[simp] theorem State.demandTarget_phase (s : State) (n : Nat) : (State.demandTarget s n).rst.phase = s.rst.phase := by
  simp only [State.demandTarget, State.setF_phase]
@[simp] theorem State.emxRelatch_phase (s : State) : (State.emxRelatch s).rst.phase = s.rst.phase := by
  simp only [State.emxRelatch, State.withEmit_phase]
@[simp] theorem State.scheduleD_phase (s : State) (n : Nat) : (State.scheduleD s n).rst.phase = s.rst.phase := by
  simp only [State.scheduleD, State.demandTarget_phase, State.emxRelatch_phase, State.schedule_phase]
@[simp] theorem State.emxSend_phase (s : State) (pat : BitVec 64) (seq : Nat) (retry : Bool) (latch : Nat) : (State.emxSend s pat seq retry latch).rst.phase = s.rst.phase := by
  simp only [State.emxSend, State.incMod_phase, State.withEmit_phase]
@[simp] theorem State.emxSendZero_phase (s : State) : (State.emxSendZero s).rst.phase = s.rst.phase := by
  simp only [State.emxSendZero, State.emxSend_phase, State.withEmit_phase]
theorem execEmxFrameSend_phase (t : Nat) (s : State) : Out.phase s.rst.phase (execEmxFrameSend t s) = s.rst.phase := by
  simp only [execEmxFrameSend, State.emxSend_phase, State.withEmit_phase, ite_self, Out.phase_next, Out.phase_ite]
@[simp] theorem State.setVbank_phase (s : State) (n v : Nat) : (State.setVbank s n v).rst.phase = s.rst.phase := by
  simp only [State.setVbank, State.setB_phase, State.setF_phase]
@[simp] theorem State.chargeTrip_phase (s : State) : (State.chargeTrip s).rst.phase = s.rst.phase := by
  simp only [State.chargeTrip, State.raise_phase, State.withEmit_phase]
@[simp] theorem State.readVbank_phase (s : State) (n v : Nat) : (State.readVbank s n v).rst.phase = s.rst.phase := by
  simp only [State.readVbank, State.chargeTrip_phase, State.setVbank_phase, State.phase_ite, ite_self]
@[simp] theorem State.chgOff_phase (s : State) (n : Nat) : (State.chgOff s n).rst.phase = s.rst.phase := by
  simp only [State.chgOff, State.setStr_phase, State.withEmit_phase]
@[simp] theorem State.chgOn_phase (s : State) (n : Nat) : (State.chgOn s n).rst.phase = s.rst.phase := by
  simp only [State.chgOn, State.withEmit_phase]
  repeat' first | with_reducible rfl | simp only [State.setStr_phase] | split | refine (foldl_phase _ (fun s x => ?_) _ _).trans ?_
theorem execChargeString_phase (n v : Nat) (s : State) (t : Nat) : Out.phase s.rst.phase (execChargeString n v s t) = s.rst.phase := by
  simp only [execChargeString, State.chgOff_phase, State.chgOn_phase, State.readVbank_phase, State.withEmit_phase, State.phase_ite, ite_self, Out.phase_next, Out.phase_ite]
theorem execChgSelOff_phase (n : Nat) (s : State) : Out.phase s.rst.phase (execChgSelOff n s) = s.rst.phase := by
  simp only [execChgSelOff, State.chgOff_phase, Out.phase_next]
@[simp] theorem State.modNext_phase (s : State) (n : Nat) (g : NextShot → NextShot) : (State.modNext s n g).rst.phase = s.rst.phase := by
  simp only [State.modNext, State.setStr_phase]
theorem execShotReadyCheck_phase (n v : Nat) (s : State) : Out.phase s.rst.phase (execShotReadyCheck n v s) = s.rst.phase := by
  simp only [execShotReadyCheck]
  repeat' first | with_reducible rfl | simp only [State.modNext_phase, State.raiseIf_phase, State.readVbank_phase, State.reduceEntry_phase, Out.phase_next] | split
theorem execChargeSupplyTrip_phase (s : State) (n v isns dur : Nat) : Out.phase s.rst.phase (execChargeSupplyTrip s n v isns dur) = s.rst.phase := by
  simp only [execChargeSupplyTrip, State.chargeTrip_phase, State.setVbank_phase, State.phase_ite, ite_self, Out.phase_next]
theorem execChgGateTrip_phase (s : State) : Out.phase s.rst.phase (execChgGateTrip s) = s.rst.phase := by
  simp only [execChgGateTrip, State.logEvent_phase, State.raise_phase, State.withEmit_phase, Out.phase_next]
@[simp] theorem State.recordLoss_phase (s : State) : (State.recordLoss s).rst.phase = s.rst.phase := by
  simp only [State.recordLoss, State.nvmPush_phase]
@[simp] theorem State.stringDead_phase (s : State) (n e why : Nat) : (State.stringDead s n e why).rst.phase = s.rst.phase := by
  simp only [State.stringDead, State.chgOff_phase, State.logEvent_phase, State.recordLoss_phase, State.scheduleD_phase, State.setF_phase, State.setStr_phase]
@[simp] theorem State.emitterFound_phase (s : State) (e : Nat) : (State.emitterFound s e).rst.phase = s.rst.phase := by
  simp only [State.emitterFound, State.logEvent_phase, State.raise_phase, State.recordLoss_phase, State.rset_phase, State.scheduleD_phase, State.setStr_phase, State.stringDead_phase, State.updateKnee_phase, State.phase_ite, ite_self]
@[simp] theorem State.takeSlot_phase (s : State) (n : Nat) : (State.takeSlot s n).rst.phase = s.rst.phase := by
  simp only [State.takeSlot]
  repeat' first | with_reducible rfl | simp only [State.reduceEntry_phase, State.setStr_phase] | split
@[simp] theorem State.isoPlace_phase (s : State) (n stage bits : Nat) : (State.isoPlace s n stage bits).rst.phase = s.rst.phase := by
  simp only [State.isoPlace, State.scheduleD_phase, State.setStr_phase, State.takeSlot_phase]
@[simp] theorem State.beginString_phase (s : State) (n : Nat) (queue : List PShot) : (State.beginString s n queue).rst.phase = s.rst.phase := by
  simp only [State.beginString]
  repeat' first | with_reducible rfl | simp only [State.isoPlace_phase, State.scheduleD_phase, State.setStr_phase, State.takeSlot_phase] | split
@[simp] theorem State.noVerdict_phase (s : State) (n : Nat) (k : ShotKind) : (State.noVerdict s n k).rst.phase = s.rst.phase := by
  simp only [State.noVerdict]
  repeat' first | with_reducible rfl | simp only [State.isoPlace_phase, State.setStr_phase] | split
theorem execShotMonitorBurst_phase (n : Nat) (s : State) : Out.phase s.rst.phase (execShotMonitorBurst n s) = s.rst.phase := by
  simp only [execShotMonitorBurst]
  repeat' first | with_reducible rfl | simp only [State.adcAdd_phase, State.noVerdict_phase, State.raise_phase, State.setStr_phase, State.withEmit_phase, ite_self, Out.phase_next, Out.phase_ite] | split
@[simp] theorem State.isoVerdict_phase (s : State) (n stage : Nat) (zero : Bool) : (State.isoVerdict s n stage zero).rst.phase = s.rst.phase := by
  simp only [State.isoVerdict]
  repeat' first | with_reducible rfl | simp only [State.emitterFound_phase, State.isoPlace_phase, State.scheduleD_phase, State.setStr_phase, State.stringDead_phase, State.phase_ite, ite_self] | split
@[simp] theorem State.shortCheck_phase (s : State) (n : Nat) (m : MonShot) (ipk : Nat) : (State.shortCheck s n m ipk).rst.phase = s.rst.phase := by
  simp only [State.shortCheck, State.raise_phase, State.setStr_phase, State.stringDead_phase, State.phase_ite, ite_self]
@[simp] theorem State.burstOver_phase (s : State) (n i : Nat) : (State.burstOver s n i).rst.phase = s.rst.phase := by
  simp only [State.burstOver, State.adcDone_phase, State.withEmit_phase]
@[simp] theorem State.verdict_phase (s : State) (n : Nat) (m : MonShot) (codes : List Nat) : (State.verdict s n m codes).rst.phase = s.rst.phase := by
  simp only [State.verdict]
  repeat' first | with_reducible rfl | simp only [State.isoPlace_phase, State.isoVerdict_phase, State.setStr_phase, State.shortCheck_phase, State.phase_ite, ite_self] | split
theorem execShotVerdict_phase (n : Nat) (convs : List Conv) (s : State) : Out.phase s.rst.phase (execShotVerdict n convs s) = s.rst.phase := by
  simp only [execShotVerdict]
  repeat' first | with_reducible rfl | simp only [State.burstOver_phase, State.noVerdict_phase, State.verdict_phase, ite_self, Out.phase_next, Out.phase_ite] | split
theorem execPeriodicProbeDue_phase (n : Nat) (s : State) : Out.phase s.rst.phase (execPeriodicProbeDue n s) = s.rst.phase := by
  simp only [execPeriodicProbeDue, State.scheduleD_phase, State.setStr_phase, State.phase_ite, ite_self, Out.phase_next, Out.phase_ite]
@[simp] theorem State.lostClear_phase (s : State) (key : Word) : (State.lostClear s key).rst.phase = s.rst.phase := by
  simp only [State.lostClear, State.logEvent_phase, State.phase_ite]
  repeat' first | with_reducible rfl | simp only [State.recordLoss_phase, State.rset_phase, State.setF_phase, State.updateKnee_phase] | split | refine (foldl_phase _ (fun s x => ?_) _ _).trans ?_

/-! ## Kiln -/

@[simp] theorem State.decayString_phase (s : State) (dt n : Nat) : (State.decayString s dt n).rst.phase = s.rst.phase := by
  simp only [State.decayString, State.rset_phase, State.updateTj_phase]
@[simp] theorem State.decayStep_phase (s : State) (dt : Nat) : (State.decayStep s dt).rst.phase = s.rst.phase := by
  simp only [State.decayStep]
  repeat' first | with_reducible rfl | simp only [State.decayString_phase] | split | refine (foldl_phase _ (fun s x => ?_) _ _).trans ?_
@[simp] theorem State.decaySteps_phase (d k rest : Nat) (s : State) : (State.decaySteps d k rest s).rst.phase = s.rst.phase := by
  simp only [State.decaySteps, State.decayStep_phase]
  repeat' first | with_reducible rfl | simp only [State.decayStep_phase] | split | refine (foldl_phase _ (fun s x => ?_) _ _).trans ?_
@[simp] theorem State.decayTo_phase (s : State) (t : Nat) : (State.decayTo s t).rst.phase = s.rst.phase := by
  simp only [State.decayTo, State.decaySteps_phase, State.withKiln_phase]
theorem execKilnDecayStep_phase (s : State) : Out.phase s.rst.phase (execKilnDecayStep s) = s.rst.phase := by
  simp only [execKilnDecayStep, State.decayTo_phase, Out.phase_next]
@[simp] theorem State.spend_phase (s : State) (t e : Nat) : (State.spend s t e).rst.phase = s.rst.phase := by
  simp only [State.spend, State.withKiln_phase]
@[simp] theorem State.chargeModels_phase (s : State) (n v t : Nat) : (State.chargeModels s n v t).rst.phase = s.rst.phase := by
  simp only [State.chargeModels, State.rset_phase, State.spend_phase, State.updateTj_phase]
@[simp] theorem State.chargeCells_phase (s : State) (cells : List Nat) (q : Nat) : (State.chargeCells s cells q).rst.phase = s.rst.phase := by
  simp only [State.chargeCells, State.withKiln_phase]
@[simp] theorem State.eyeMismatch_phase (s : State) : (State.eyeMismatch s).rst.phase = s.rst.phase := by
  simp only [State.eyeMismatch, State.raise_phase, State.withKiln_phase]
theorem execEyeSubwindow_phase (s : State) : Out.phase s.rst.phase (execEyeSubwindow s) = s.rst.phase := by
  simp only [execEyeSubwindow, State.withKiln_phase, ite_self, Out.phase_next, Out.phase_ite]
theorem execEyeInitEnd_phase (s : State) : Out.phase s.rst.phase (execEyeInitEnd s) = s.rst.phase := by
  simp only [execEyeInitEnd, State.setB_phase, State.phase_ite, ite_self, Out.phase_next]
@[simp] theorem State.eyeRestart_phase (s : State) : (State.eyeRestart s).rst.phase = s.rst.phase := by
  simp only [State.eyeRestart, State.setB_phase, State.withKiln_phase]

/-! ## Scan -/

@[simp] theorem State.takeRegion_phase (s : State) : (State.takeRegion s).rst.phase = s.rst.phase := by
  simp only [State.takeRegion, State.raiseIf_phase, State.setB_phase, State.withScan_phase]
@[simp] theorem State.skipCount_phase (s : State) : (State.skipCount s).rst.phase = s.rst.phase := by
  simp only [State.skipCount, State.incMod_phase, State.raise_phase]
@[simp] theorem State.sweepBegin_phase (s : State) : (State.sweepBegin s).rst.phase = s.rst.phase := by
  simp only [State.sweepBegin, State.incMod_phase, State.withScan_phase]
@[simp] theorem State.sweepStart_phase (s : State) (t : Nat) : (State.sweepStart s t).rst.phase = s.rst.phase := by
  simp only [State.sweepStart, State.sweepBegin_phase, State.takeRegion_phase, State.withScan_phase, State.phase_ite, ite_self]
@[simp] theorem State.dropNext_phase (s : State) : (State.dropNext s).rst.phase = s.rst.phase := by
  simp only [State.dropNext, State.withScan_phase]
@[simp] theorem State.dropPlanned_phase (s : State) (c : Nat) : (State.dropPlanned s c).rst.phase = s.rst.phase := by
  simp only [State.dropPlanned]
  repeat' first | with_reducible rfl | simp only [State.reduceEntry_phase, State.setStr_phase] | split | refine (foldl_phase _ (fun s x => ?_) _ _).trans ?_
@[simp] theorem State.followInhibit_phase (s : State) : (State.followInhibit s).rst.phase = s.rst.phase := by
  simp only [State.followInhibit, State.dropNext_phase, State.dropPlanned_phase, State.guardInhibit_phase, State.setB_phase, State.phase_ite, ite_self]
@[simp] theorem State.lockModeFollow_phase (s : State) : (State.lockModeFollow s).rst.phase = s.rst.phase := by
  simp only [State.lockModeFollow, State.withScan_phase, State.phase_ite, ite_self]
@[simp] theorem State.lockUpdate_phase (s : State) (ok : Bool) (t : Nat) : (State.lockUpdate s ok t).rst.phase = s.rst.phase := by
  simp only [State.lockUpdate, State.lockModeFollow_phase, State.raise_phase, State.setB_phase, State.withScan_phase, State.phase_ite, ite_self]
@[simp] theorem State.lockInterval_phase (s : State) : (State.lockInterval s).rst.phase = s.rst.phase := by
  simp only [State.lockInterval, State.lockModeFollow_phase, State.setB_phase, State.withScan_phase, State.phase_ite, ite_self]
@[simp] theorem State.stallCheck_phase (s : State) (t : Nat) : (State.stallCheck s t).rst.phase = s.rst.phase := by
  simp only [State.stallCheck, State.phase_ite]
  repeat' first | with_reducible rfl | simp only [State.incSat_phase, State.raise_phase, State.withScan_phase, State.phase_ite, ite_self] | split
@[simp] theorem State.msnsBase_phase (s : State) (v t : Nat) : (State.msnsBase s v t).rst.phase = s.rst.phase := by
  simp only [State.msnsBase, State.followInhibit_phase, State.lockUpdate_phase, State.setB_phase, State.setF_phase, State.stallCheck_phase, State.withScan_phase, State.phase_ite, ite_self]
@[simp] theorem State.strokeEnd_phase (s : State) (t : Nat) : (State.strokeEnd s t).rst.phase = s.rst.phase := by
  simp only [State.strokeEnd, State.followInhibit_phase, State.lockInterval_phase, State.withScan_phase, State.phase_ite, ite_self]
@[simp] theorem State.planUe_phase (s : State) (i : Nat) : (State.planUe s i).rst.phase = s.rst.phase := by
  simp only [State.planUe, State.logEvent_phase, State.raise_phase]
@[simp] theorem State.tPred_phase (s : State) (t : Nat) (rest : List (Nat × Bool)) : (State.tPred s t rest).2.rst.phase = s.rst.phase := by
  simp only [State.tPred, State.phase_ite, apply_ite Prod.snd]
  repeat' first | with_reducible rfl | simp only [State.fresh_phase, ite_self, apply_ite Prod.snd] | split
@[simp] theorem State.grantFor_phase (s : State) (az : Nat) (rest : List (Nat × Bool)) (t now : Nat) (bad : List Nat) : (State.grantFor s az rest t now bad).rst.phase = s.rst.phase := by
  simp only [State.grantFor]
  repeat' first | with_reducible rfl | simp only [State.comingDemand_phase, State.decayTo_phase, State.demandTarget_phase, State.planUe_phase, State.raiseIf_phase, State.tPred_phase, State.withKiln_phase, State.withScan_phase, State.phase_ite, ite_self] | split | refine (foldl_phase _ (fun s x => ?_) _ _).trans ?_
@[simp] theorem State.grantDue_phase (s : State) (now : Nat) (bad : List Nat) : (State.grantDue s now bad).rst.phase = s.rst.phase := by
  simp only [State.grantDue, State.grantFor_phase, State.phase_ite, ite_self]
  repeat' first | with_reducible rfl | simp only [State.grantFor_phase, State.phase_ite, ite_self] | split
@[simp] theorem State.rearm_phase (s : State) (t : Nat) (bad : List Nat) : (State.rearm s t bad).rst.phase = s.rst.phase := by
  simp only [State.rearm, State.grantDue_phase, State.withScan_phase, State.phase_ite, ite_self]
theorem execEmissionLimitDecide_phase (n : Nat) (mismatch : Bool) (s : State) : Out.phase s.rst.phase (execEmissionLimitDecide n mismatch s) = s.rst.phase := by
  simp only [execEmissionLimitDecide]
  repeat' first | with_reducible rfl | simp only [State.eyeMismatch_phase, State.incSat_phase, State.modNext_phase, State.raise_phase, State.withScan_phase, State.phase_ite, ite_self, Out.phase_next, Out.phase_ite] | split

/-! ## Ctl -/

@[simp] theorem State.ctlApply_phase (s : State) : (State.ctlApply s).rst.phase = s.rst.phase := by
  simp only [State.ctlApply, State.withCtl_phase]
@[simp] theorem State.stick_phase (s : State) (F : Fld) (flags : Nat) (c : Cause) : (State.stick s F flags c).rst.phase = s.rst.phase := by
  simp only [State.stick, State.countCause_phase, State.setF_phase, State.phase_ite, ite_self]
@[simp] theorem State.vspadFollow_phase (s : State) : (State.vspadFollow s).rst.phase = s.rst.phase := by
  simp only [State.vspadFollow, State.setF_phase, State.phase_ite, ite_self]
@[simp] theorem State.drive_phase (s : State) (n v : Nat) : (State.drive s n v).rst.phase = s.rst.phase := by
  simp only [State.drive]
  repeat' first | with_reducible rfl | simp only [State.withCtl_phase] | split
@[simp] theorem State.loopRun_phase (s : State) (n : Nat) : (State.loopRun s n).rst.phase = s.rst.phase := by
  simp only [State.loopRun, State.drive_phase, State.setF_phase, State.withCtl_phase, State.phase_ite, ite_self]
@[simp] theorem State.loopEval_phase (s : State) (n : Nat) : (State.loopEval s n).rst.phase = s.rst.phase := by
  simp only [State.loopEval, State.drive_phase, State.setF_phase, State.setFs_phase, State.stick_phase]
@[simp] theorem State.loopTick_phase (s : State) (n : Nat) : (State.loopTick s n).rst.phase = s.rst.phase := by
  simp only [State.loopTick, State.loopEval_phase, State.loopRun_phase, State.withCtl_phase, State.phase_ite, ite_self]
@[simp] theorem State.mirrorLoop_phase (s : State) : (State.mirrorLoop s).rst.phase = s.rst.phase := by
  simp only [State.mirrorLoop, State.loopEval_phase, State.loopRun_phase, State.phase_ite, ite_self]
@[simp] theorem State.setDac_phase (s : State) (n win out : Nat) : (State.setDac s n win out).rst.phase = s.rst.phase := by
  simp only [State.setDac, State.setF_phase, State.setVbank_phase]
@[simp] theorem State.groupRun_phase (s : State) (n : Nat) : (State.groupRun s n).rst.phase = s.rst.phase := by
  simp only [State.groupRun, State.setF_phase, State.setVbank_phase, State.withCtl_phase, State.phase_ite, ite_self]
  repeat' first | with_reducible rfl | simp only [State.setF_phase] | split | refine (foldl_phase _ (fun s x => ?_) _ _).trans ?_
@[simp] theorem State.groupEval_phase (s : State) (n : Nat) : (State.groupEval s n).rst.phase = s.rst.phase := by
  simp only [State.groupEval, State.setDac_phase, State.phase_ite]
  repeat' first | with_reducible rfl | simp only [State.setF_phase, State.setFs_phase, State.stick_phase] | split | refine (foldl_phase _ (fun s x => ?_) _ _).trans ?_
theorem execChargeGroupEvaluate_phase (n : Nat) (s : State) : Out.phase s.rst.phase (execChargeGroupEvaluate n s) = s.rst.phase := by
  simp only [execChargeGroupEvaluate, State.groupEval_phase, State.groupRun_phase, Out.phase_next]
@[simp] theorem State.eyeTargets_phase (s : State) (g : Grant) (azNext : Option Nat) : (State.eyeTargets s g azNext).rst.phase = s.rst.phase := by
  simp only [State.eyeTargets]
  repeat' first | with_reducible rfl | simp only [State.setF_phase] | split | refine (foldl_phase _ (fun s x => ?_) _ _).trans ?_
@[simp] theorem State.biasSet_phase (s : State) : (State.biasSet s).rst.phase = s.rst.phase := by
  simp only [State.biasSet, State.setB_phase, State.setF_phase, State.setFs_phase]
@[simp] theorem State.biasOk_phase (s : State) : (State.biasOk s).rst.phase = s.rst.phase := by
  simp only [State.biasOk, State.raiseIf_phase, State.setB_phase]
theorem execVspadOvervoltage_phase (s : State) (above : Bool) : Out.phase s.rst.phase (execVspadOvervoltage s above) = s.rst.phase := by
  simp only [execVspadOvervoltage, State.withCtl_phase, Out.phase_next]
@[simp] theorem State.mexcCheck_phase (s : State) (i : Nat) (limit : Bool) : (State.mexcCheck s i limit).rst.phase = s.rst.phase := by
  simp only [State.mexcCheck, State.followInhibit_phase, State.raiseIf_phase, State.setB_phase, State.withCtl_phase, State.withScan_phase, State.phase_ite, ite_self]
@[simp] theorem State.powerMon_phase (s : State) (vin pin : Nat) : (State.powerMon s vin pin).rst.phase = s.rst.phase := by
  simp only [State.powerMon, State.setF_phase, State.withCtl_phase, State.phase_ite, ite_self]
theorem execCtlTick_phase (vspad mexc : Nat) (limit : Bool) (vin pin : Nat) (s : State) : Out.phase s.rst.phase (execCtlTick vspad mexc limit vin pin s) = s.rst.phase := by
  simp only [execCtlTick, Out.phase_next, Out.phase_ite]
  repeat' first | with_reducible rfl | simp only [State.adcMsns_phase, State.adcTick_phase, State.biasOk_phase, State.biasSet_phase, State.groupEval_phase, State.groupRun_phase, State.loopTick_phase, State.mexcCheck_phase, State.powerMon_phase, State.setF_phase, State.vspadFollow_phase, State.withCtl_phase, State.phase_ite, ite_self] | split | refine (foldl_phase _ (fun s x => ?_) _ _).trans ?_
theorem execCtlCommit_phase (s : State) : Out.phase s.rst.phase (execCtlCommit s) = s.rst.phase := by
  simp only [execCtlCommit, State.ctlApply_phase, Out.phase_next]

/-! ## Analog -/

@[simp] theorem State.reqGo_phase (s : State) (n : Nat) : (State.reqGo s n).rst.phase = s.rst.phase := by
  simp only [State.reqGo, State.adcDue_phase, State.phase_ite, ite_self]
theorem execAdc0ReqGo_phase (n : Nat) (s : State) : Out.phase s.rst.phase (execAdc0ReqGo n s) = s.rst.phase := by
  simp only [execAdc0ReqGo, State.reqGo_phase, State.phase_ite, ite_self, Out.phase_next]
@[simp] theorem State.reqUsed_phase (s : State) (n t : Nat) : (State.reqUsed s n t).rst.phase = s.rst.phase := by
  simp only [State.reqUsed, State.withAdc_phase, State.phase_ite, ite_self]
theorem execAdc0ReqTrigger_phase (n t : Nat) (s : State) : Out.phase s.rst.phase (execAdc0ReqTrigger n t s) = s.rst.phase := by
  simp only [execAdc0ReqTrigger, Out.phase_next, Out.phase_ite]
  repeat' first | with_reducible rfl | simp only [State.adcAdd_phase, State.adcStamp_phase, State.raise_phase, State.reqUsed_phase, State.rset_phase, State.withAdc_phase, ite_self, Out.phase_next, Out.phase_ite] | split
theorem State.storeBurst_phase (s : State) (n i : Nat) (l : List (BitVec 16)) : (s.storeBurst n i l).rst.phase = s.rst.phase := by
  induction l generalizing s i with
  | nil => rfl
  | cons w l ih => simp only [State.storeBurst, ih, State.setF_phase]
theorem execAdc0BurstDone_phase (n : Nat) (convs : List Conv) (s : State) : Out.phase s.rst.phase (execAdc0BurstDone n convs s) = s.rst.phase := by
  simp only [execAdc0BurstDone]
  repeat' first | with_reducible rfl | simp only [State.adcDone_phase, State.rset_phase, State.withAdcLast_phase, State.storeBurst_phase, Out.phase_next, Out.phase_ite] | split
@[simp] theorem State.background_phase (s : State) (t : Nat) (c : Conv) : (State.background s t c).rst.phase = s.rst.phase := by
  simp only [State.background, State.setF_phase, State.withAdc_phase, State.withAdcLast_phase]
@[simp] theorem State.firCommit_phase (s : State) : (State.firCommit s).rst.phase = s.rst.phase := by
  simp only [State.firCommit, State.withAdc_phase]
@[simp] theorem State.adcFirWritten_phase (s : State) (v : Word) : (State.adcFirWritten s v).rst.phase = s.rst.phase := by
  simp only [State.adcFirWritten, State.firCommit_phase, State.withAdc_phase, State.phase_ite, ite_self]
theorem execAdc0FirCommit_phase (s : State) : Out.phase s.rst.phase (execAdc0FirCommit s) = s.rst.phase := by
  simp only [execAdc0FirCommit, State.firCommit_phase, Out.phase_next]
@[simp] theorem State.adcEvent_phase (s : State) (t : Nat) (rise : Bool) : (State.adcEvent s t rise).rst.phase = s.rst.phase := by
  simp only [State.adcEvent, State.raise_phase, State.withAdc_phase, State.phase_ite, ite_self]
@[simp] theorem State.adcCompare_phase (s : State) (t : Nat) (y : Int) : (State.adcCompare s t y).rst.phase = s.rst.phase := by
  simp only [State.adcCompare]
  repeat' first | with_reducible rfl | simp only [State.adcEvent_phase, State.withAdc_phase, State.phase_ite, ite_self] | split
@[simp] theorem State.firOut_phase (s : State) (t : Nat) : (State.firOut s t).rst.phase = s.rst.phase := by
  simp only [State.firOut, State.adcCompare_phase, State.setB_phase, State.setFs_phase, State.withAdc_phase, State.phase_ite, ite_self]
@[simp] theorem State.firStep_phase (s : State) (t : Nat) : (State.firStep s t).rst.phase = s.rst.phase := by
  simp only [State.firStep, State.firOut_phase, State.withAdc_phase, State.phase_ite, ite_self]
theorem execFirOutput_phase (t : Nat) (s : State) (convs : List Conv) : Out.phase s.rst.phase (execFirOutput t s convs) = s.rst.phase := by
  simp only [execFirOutput, Out.phase_next, Out.phase_ite]
  repeat' first | with_reducible rfl | simp only [State.background_phase, State.firStep_phase] | split | refine (foldl_phase _ (fun s x => ?_) _ _).trans ?_
theorem execAdc0EvhiRead_phase (s : State) : Out.phase s.rst.phase (execAdc0EvhiRead s) = s.rst.phase := by
  simp only [execAdc0EvhiRead, State.withAdc_phase, Out.phase_next]
@[simp] theorem State.afeValue_phase (s : State) (m : Nat) (x : AfeRaw) (r : Option Int) : (State.afeValue s m x r).2.rst.phase = s.rst.phase := by
  unfold State.afeValue
  repeat' first | with_reducible rfl | simp only [State.fresh_phase, State.phase_ite, ite_self, apply_ite Prod.snd] | split
@[simp] theorem State.chgUpdate_phase (s : State) : (State.chgUpdate s).rst.phase = s.rst.phase := by
  simp only [State.chgUpdate, State.setF_phase, State.withEmit_phase, State.withTherm_phase, State.phase_ite, ite_self]
@[simp] theorem State.boardUpdate_phase (s : State) : (State.boardUpdate s).rst.phase = s.rst.phase := by
  simp only [State.boardUpdate]
  repeat' first | with_reducible rfl | simp only [State.chgUpdate_phase, State.updateTj_phase] | split | refine (foldl_phase _ (fun s x => ?_) _ _).trans ?_
@[simp] theorem State.afeLead_phase (s : State) (m : Nat) (rl : Option Nat) : (State.afeLead s m rl).rst.phase = s.rst.phase := by
  simp only [State.afeLead]
  repeat' first | with_reducible rfl | simp only [State.setF_phase] | split
@[simp] theorem State.afeStore_phase (s : State) (m : Nat) (v : Int) (cl : Bool) : (State.afeStore s m v cl).rst.phase = s.rst.phase := by
  simp only [State.afeStore, State.raiseIf_phase, State.setB_phase, State.setFs_phase]
theorem execAfeConversionDone_phase (m : Nat) (x : AfeRaw) (s : State) : Out.phase s.rst.phase (execAfeConversionDone m x s) = s.rst.phase := by
  simp only [execAfeConversionDone, State.afeLead_phase, State.afeStore_phase, State.afeValue_phase, State.boardUpdate_phase, State.raise_phase, State.raiseIf_phase, State.setB_phase, State.withAfePos_phase, ite_self, Out.phase_next, Out.phase_ite]
@[simp] theorem State.markSuspect_phase (s : State) (raw : Nat → Int) (k : Nat) : (State.markSuspect s raw k).rst.phase = s.rst.phase := by
  simp only [State.markSuspect, State.raise_phase, State.setF_phase, State.withTherm_phase, State.phase_ite, ite_self]
@[simp] theorem State.judgeShutdown_phase (s : State) (i : Nat) : (State.judgeShutdown s i).rst.phase = s.rst.phase := by
  simp only [State.judgeShutdown, State.incSat_phase, State.logEvent_phase, State.raise_phase, State.withTherm_phase, State.phase_ite, ite_self]
@[simp] theorem State.judgeGroup_phase (s : State) (g : Nat) : (State.judgeGroup s g).rst.phase = s.rst.phase := by
  simp only [State.judgeGroup, State.raiseIf_phase, State.withTherm_phase]
@[simp] theorem State.thermStat_phase (s : State) : (State.thermStat s).rst.phase = s.rst.phase := by
  simp only [State.thermStat, State.setB_phase, State.setF_phase]
@[simp] theorem State.thermRaw_phase (s : State) (readings : List (BitVec 16)) : (State.thermRaw s readings).rst.phase = s.rst.phase := by
  simp only [State.thermRaw]
  repeat' first | with_reducible rfl | simp only [State.setF_phase] | split | refine (foldl_phase _ (fun s x => ?_) _ _).trans ?_
@[simp] theorem State.thermMark_phase (s : State) (r : Nat → Int) : (State.thermMark s r).rst.phase = s.rst.phase := by
  simp only [State.thermMark]
  repeat' first | with_reducible rfl | simp only [State.markSuspect_phase] | split | refine (foldl_phase _ (fun s x => ?_) _ _).trans ?_
@[simp] theorem State.thermUsed_phase (s : State) (r : Nat → Int) (susp : Nat → Bool) : (State.thermUsed s r susp).rst.phase = s.rst.phase := by
  simp only [State.thermUsed]
  repeat' first | with_reducible rfl | simp only [State.setFs_phase] | split | refine (foldl_phase _ (fun s x => ?_) _ _).trans ?_
@[simp] theorem State.thermExternal_phase (s : State) (i : Nat) : (State.thermExternal s i).rst.phase = s.rst.phase := by
  simp only [State.thermExternal, State.setFs_phase, State.phase_ite, ite_self]
@[simp] theorem State.thermJudge_phase (s : State) : (State.thermJudge s).rst.phase = s.rst.phase := by
  simp only [State.thermJudge]
  repeat' first | with_reducible rfl | simp only [State.judgeGroup_phase, State.judgeShutdown_phase] | split | refine (foldl_phase _ (fun s x => ?_) _ _).trans ?_
theorem execThermScan_phase (readings : List (BitVec 16)) (s : State) : Out.phase s.rst.phase (execThermScan readings s) = s.rst.phase := by
  simp only [execThermScan, State.biasSet_phase, State.boardUpdate_phase, State.nvmKick_phase, State.thermJudge_phase, State.thermStat_phase, Out.phase_next]
  repeat' first | with_reducible rfl | simp only [State.thermExternal_phase, State.thermMark_phase, State.thermRaw_phase, State.thermUsed_phase] | split | refine (foldl_phase _ (fun s x => ?_) _ _).trans ?_
theorem execDieHardTrip_phase (s : State) : Out.phase s.rst.phase (execDieHardTrip s) = s.rst.phase := by
  simp only [execDieHardTrip, State.logEvent_phase, State.raise_phase, State.raiseReset_phase, State.setB_phase, State.withEmit_phase, Out.phase_next]
theorem execDieHardTripClear_phase (s : State) : Out.phase s.rst.phase (execDieHardTripClear s) = s.rst.phase := by
  simp only [execDieHardTripClear, State.setB_phase, Out.phase_next]

/-! ## Rx -/

@[simp] theorem State.setChan_phase (s : State) (c : Nat) (x : ChanSt) : (State.setChan s c x).rst.phase = s.rst.phase := by
  simp only [State.setChan, State.withChans_phase]
@[simp] theorem State.setCluster_phase (s : State) (k : Nat) (x : CluSt) : (State.setCluster s k x).rst.phase = s.rst.phase := by
  simp only [State.setCluster, State.withClus_phase]
@[simp] theorem State.rejectMap_phase (s : State) (c : Nat) : (State.rejectMap s c).rst.phase = s.rst.phase := by
  simp only [State.rejectMap, State.incSat_phase, State.raise_phase, State.setB_phase]
@[simp] theorem State.activateMap_phase (s : State) (c : Nat) (map : List Nat) (dnl : Nat) : (State.activateMap s c map dnl).rst.phase = s.rst.phase := by
  simp only [State.activateMap, State.setB_phase, State.setChan_phase, State.setF_phase, State.phase_ite, ite_self]
@[simp] theorem State.startBootRun_phase (s : State) : (State.startBootRun s).rst.phase = s.rst.phase := by
  simp only [State.startBootRun, State.setB_phase, State.withMash_phase, State.withScan_phase]
@[simp] theorem State.bootMap_phase (s : State) (c : Nat) (h : List Nat) : (State.bootMap s c h).rst.phase = s.rst.phase := by
  simp only [State.bootMap, State.activateMap_phase, State.incMod_phase, State.rejectMap_phase, State.setB_phase, State.setChan_phase, State.phase_ite, ite_self]
@[simp] theorem State.calRun_phase (s : State) : (State.calRun s).rst.phase = s.rst.phase := by
  simp only [State.calRun, State.startBootRun_phase, State.phase_ite, ite_self]
@[simp] theorem State.bootRunEnd_phase (s : State) (hits : List (Nat × List Nat)) : (State.bootRunEnd s hits).rst.phase = s.rst.phase := by
  simp only [State.bootRunEnd, State.setB_phase, State.withMash_phase, State.withScan_phase]
  repeat' first | with_reducible rfl | simp only [State.bootMap_phase, State.setF_phase] | split | refine (foldl_phase _ (fun s x => ?_) _ _).trans ?_
theorem execBgcalMapStaged_phase (c t : Nat) (s : State) : Out.phase s.rst.phase (execBgcalMapStaged c t s) = s.rst.phase := by
  simp only [execBgcalMapStaged, State.rejectMap_phase, State.setB_phase, State.setChan_phase, ite_self, Out.phase_next, Out.phase_ite]
@[simp] theorem State.bgHit_phase (s : State) (c tap : Nat) : (State.bgHit s c tap).rst.phase = s.rst.phase := by
  simp only [State.bgHit, State.setChan_phase, State.phase_ite, ite_self]
@[simp] theorem State.flybackInject_phase (s : State) (t : Nat) : (State.flybackInject s t).rst.phase = s.rst.phase := by
  simp only [State.flybackInject, State.withMash_phase, State.withScan_phase, State.phase_ite, ite_self]
@[simp] theorem State.showAmb_phase (s : State) (c : Nat) (a : Amb) : (State.showAmb s c a).rst.phase = s.rst.phase := by
  simp only [State.showAmb, State.setB_phase, State.setF_phase]
@[simp] theorem State.markStale_phase (s : State) (k : Nat) : (State.markStale s k).rst.phase = s.rst.phase := by
  simp only [State.markStale]
  repeat' first | with_reducible rfl | simp only [State.raise_phase, State.showAmb_phase] | split | refine (foldl_phase _ (fun s x => ?_) _ _).trans ?_
theorem execAmbientGateOpen_phase (c : Nat) (s : State) : Out.phase s.rst.phase (execAmbientGateOpen c s) = s.rst.phase := by
  simp only [execAmbientGateOpen, State.setChan_phase, ite_self, Out.phase_next, Out.phase_ite]
theorem execAmbientGateMidpoint_phase (c : Nat) (s : State) : Out.phase s.rst.phase (execAmbientGateMidpoint c s) = s.rst.phase := by
  simp only [execAmbientGateMidpoint]
  repeat' first | with_reducible rfl | simp only [State.setChan_phase, State.phase_ite, ite_self, Out.phase_next] | split
theorem execAmbientGateClose_phase (c : Nat) (s : State) : Out.phase s.rst.phase (execAmbientGateClose c s) = s.rst.phase := by
  simp only [execAmbientGateClose]
  repeat' first | with_reducible rfl | simp only [State.setChan_phase, State.showAmb_phase, Out.phase_next] | split
@[simp] theorem State.modAcc_phase (s : State) (k : Nat) (g : ColAcc → ColAcc) : (State.modAcc s k g).rst.phase = s.rst.phase := by
  simp only [State.modAcc, State.setCluster_phase]
@[simp] theorem State.windowGone_phase (s : State) (k : Nat) (w : Win) (t : Nat) (cut : Bool) : (State.windowGone s k w t cut).rst.phase = s.rst.phase := by
  simp only [State.windowGone, State.modAcc_phase, State.phase_ite, ite_self]
@[simp] theorem State.closeExpired_phase (s : State) (k t : Nat) : (State.closeExpired s k t).rst.phase = s.rst.phase := by
  simp only [State.closeExpired]
  repeat' first | with_reducible rfl | simp only [State.setCluster_phase, State.windowGone_phase] | split | refine (foldl_phase _ (fun s x => ?_) _ _).trans ?_
theorem execWindowClose_phase (k t : Nat) (s : State) : Out.phase s.rst.phase (execWindowClose k t s) = s.rst.phase := by
  simp only [execWindowClose, State.closeExpired_phase, Out.phase_next]
@[simp] theorem State.openWindow_phase (s : State) (k t wint : Nat) : (State.openWindow s k t wint).rst.phase = s.rst.phase := by
  simp only [State.openWindow, State.modAcc_phase, State.setCluster_phase]
  repeat' first | with_reducible rfl | simp only [State.closeExpired_phase, State.raise_phase, State.setCluster_phase, State.windowGone_phase] | split
@[simp] theorem State.setLevel_phase (s : State) (k n t : Nat) : (State.setLevel s k n t).rst.phase = s.rst.phase := by
  simp only [State.setLevel, State.setCluster_phase, State.setF_phase]
@[simp] theorem State.thinRise_phase (s : State) (k t : Nat) : (State.thinRise s k t).rst.phase = s.rst.phase := by
  simp only [State.thinRise, State.raiseIf_phase, State.setCluster_phase, State.setLevel_phase, State.phase_ite, ite_self]
theorem execThinLevelFall_phase (k t : Nat) (s : State) : Out.phase s.rst.phase (execThinLevelFall k t s) = s.rst.phase := by
  simp only [execThinLevelFall, State.setLevel_phase, State.thinRise_phase, ite_self, Out.phase_next, Out.phase_ite]
@[simp] theorem State.markLoss_phase (s : State) (c : Nat) (old : Bool) : (State.markLoss s c old).rst.phase = s.rst.phase := by
  simp only [State.markLoss, State.raise_phase, State.setChan_phase]
@[simp] theorem State.enqueue_phase (s : State) (c t fine : Nat) (w : Win) (ws : List Win) : (State.enqueue s c t fine w ws).rst.phase = s.rst.phase := by
  simp only [State.enqueue, State.incSat_phase, State.markLoss_phase, State.raise_phase, State.raiseIf_phase, State.setChan_phase, State.thinRise_phase, State.phase_ite, ite_self]
@[simp] theorem State.calHit_phase (s : State) (c ps tap : Nat) : (State.calHit s c ps tap).rst.phase = s.rst.phase := by
  simp only [State.calHit, State.bgHit_phase, State.setChan_phase, State.phase_ite, ite_self]
@[simp] theorem State.coincidence_phase (s : State) (c : Nat) (q : CoSet) : (State.coincidence s c q).rst.phase = s.rst.phase := by
  simp only [State.coincidence, State.phase_ite]
  repeat' first | with_reducible rfl | simp only [State.enqueue_phase, State.incSat_phase, State.setChan_phase, State.phase_ite, ite_self] | split
@[simp] theorem State.joinSet_phase (s : State) (c k i ps tap : Nat) : (State.joinSet s c k i ps tap).rst.phase = s.rst.phase := by
  simp only [State.joinSet, State.coincidence_phase, State.setChan_phase, State.phase_ite, ite_self]
@[simp] theorem State.avalanche_phase (s : State) (c : Nat) (a : Nat × Nat × Nat) : (State.avalanche s c a).rst.phase = s.rst.phase := by
  simp only [State.avalanche, State.phase_ite]
  repeat' first | with_reducible rfl | simp only [State.calHit_phase, State.joinSet_phase, State.setChan_phase, State.phase_ite, ite_self] | split
theorem execRxEvent_phase (c i ps tap : Nat) (s : State) (avs : List (Nat × Nat × Nat)) : Out.phase s.rst.phase (execRxEvent c i ps tap s avs) = s.rst.phase := by
  simp only [execRxEvent, Out.phase_next]
  repeat' first | with_reducible rfl | simp only [State.avalanche_phase] | split | refine (foldl_phase _ (fun s x => ?_) _ _).trans ?_
@[simp] theorem State.capArm_phase (s : State) : (State.capArm s).rst.phase = s.rst.phase := by
  simp only [State.capArm, State.setF_phase, State.withMash_phase]
@[simp] theorem State.capture_phase (s : State) (c : Nat) (w : Word) : (State.capture s c w).rst.phase = s.rst.phase := by
  simp only [State.capture, State.rset_phase, State.setF_phase, State.withMash_phase, State.phase_ite, ite_self]

/-! ## Mash -/

@[simp] theorem State.setBin_phase (s : State) (n : Nat) (v : BitVec 16) : (State.setBin s n v).rst.phase = s.rst.phase := by
  simp only [State.setBin, State.withTun_phase]
@[simp] theorem State.modChAcc_phase (s : State) (c : Nat) (old : Bool) (g : ChAcc → ChAcc) : (State.modChAcc s c old g).rst.phase = s.rst.phase := by
  simp only [State.modChAcc, State.setChan_phase]
@[simp] theorem State.binError_phase (s : State) (n c : Nat) (old ue : Bool) : (State.binError s n c old ue).rst.phase = s.rst.phase := by
  simp only [State.binError, State.incSat_phase, State.logEvent_phase, State.modChAcc_phase, State.raise_phase, State.setB_phase, State.setBin_phase, State.setF_phase, State.phase_ite, ite_self]
@[simp] theorem State.binUpdate_phase (s : State) (c b w t : Nat) (old : Bool) : (State.binUpdate s c b w t old).rst.phase = s.rst.phase := by
  simp only [State.binUpdate, State.incSat_phase, State.markLoss_phase, State.modChAcc_phase, State.raise_phase, State.raiseIf_phase, State.setBin_phase, State.phase_ite]
  repeat' first | with_reducible rfl | simp only [State.setCluster_phase, State.phase_ite, ite_self] | split
@[simp] theorem State.binUpdateErr_phase (s : State) (c b w t : Nat) (old : Bool) (err : Nat) : (State.binUpdateErr s c b w t old err).rst.phase = s.rst.phase := by
  simp only [State.binUpdateErr, State.binError_phase, State.binUpdate_phase, State.phase_ite, ite_self]
@[simp] theorem State.binEvent_phase (s : State) (c : Nat) (e : FifoE) (w t : Nat) (old : Bool) (errs : List Nat) : (State.binEvent s c e w t old errs).rst.phase = s.rst.phase := by
  simp only [State.binEvent]
  repeat' first | with_reducible rfl | simp only [State.binUpdateErr_phase, State.modChAcc_phase] | split | refine (foldl_phase _ (fun s x => ?_) _ _).trans ?_
theorem execMashDrain_phase (k t : Nat) (par : Bool) (s : State) (errs : List Nat) : Out.phase s.rst.phase (execMashDrain k t par s errs) = s.rst.phase := by
  simp only [execMashDrain]
  repeat' first | with_reducible rfl | simp only [State.binEvent_phase, State.capture_phase, State.incSat_phase, State.markLoss_phase, State.modChAcc_phase, State.raise_phase, State.setChan_phase, State.setCluster_phase, State.thinRise_phase, State.phase_ite, ite_self, Out.phase_next, Out.phase_ite] | split
theorem execZoomPlace_phase (k : Nat) (s : State) : Out.phase s.rst.phase (execZoomPlace k s) = s.rst.phase := by
  simp only [execZoomPlace]
  repeat' first | with_reducible rfl | simp only [State.modChAcc_phase, State.setCluster_phase, Out.phase_next] | split | refine (foldl_phase _ (fun s x => ?_) _ _).trans ?_
@[simp] theorem State.switchMaps_phase (s : State) (t : Nat) : (State.switchMaps s t).rst.phase = s.rst.phase := by
  simp only [State.switchMaps]
  repeat' first | with_reducible rfl | simp only [State.activateMap_phase, State.incMod_phase, State.setChan_phase, State.phase_ite, ite_self] | split | refine (foldl_phase _ (fun s x => ?_) _ _).trans ?_
@[simp] theorem State.markMaps_phase (s : State) : (State.markMaps s).rst.phase = s.rst.phase := by
  simp only [State.markMaps]
  repeat' first | with_reducible rfl | simp only [State.setChan_phase, State.phase_ite, ite_self] | split | refine (foldl_phase _ (fun s x => ?_) _ _).trans ?_
@[simp] theorem State.closeAmb_phase (s : State) : (State.closeAmb s).rst.phase = s.rst.phase := by
  simp only [State.closeAmb]
  repeat' first | with_reducible rfl | simp only [State.modChAcc_phase] | split | refine (foldl_phase _ (fun s x => ?_) _ _).trans ?_
@[simp] theorem State.doSwap_phase (s : State) (t : Nat) : (State.doSwap s t).rst.phase = s.rst.phase := by
  simp only [State.doSwap]
  repeat' first | with_reducible rfl | simp only [State.markMaps_phase, State.markStale_phase, State.setB_phase, State.setF_phase, State.switchMaps_phase, State.withChans_phase, State.withClus_phase, State.withMash_phase, State.phase_ite, ite_self] | split | refine (foldl_phase _ (fun s x => ?_) _ _).trans ?_
@[simp] theorem State.mashTrigger_phase (s : State) (t : Nat) (g : Grant) : (State.mashTrigger s t g).rst.phase = s.rst.phase := by
  simp only [State.mashTrigger, State.doSwap_phase, State.withMash_phase, State.phase_ite, ite_self]
  repeat' first | with_reducible rfl | simp only [State.closeExpired_phase, State.setCluster_phase, State.phase_ite, ite_self] | split | refine (foldl_phase _ (fun s x => ?_) _ _).trans ?_
@[simp] theorem State.spargeEnd_phase (s : State) (t : Nat) : (State.spargeEnd s t).rst.phase = s.rst.phase := by
  simp only [State.spargeEnd, State.doSwap_phase, State.withMash_phase, State.withTun_phase, State.phase_ite, ite_self]
@[simp] theorem State.snapshot_phase (s : State) (c : Nat) (h : Hist) : (State.snapshot s c h).rst.phase = s.rst.phase := by
  simp only [State.snapshot, State.raise_phase, State.setB_phase, State.phase_ite]
  repeat' first | with_reducible rfl | simp only [State.rset_phase] | split | refine (foldl_phase _ (fun s x => ?_) _ _).trans ?_
@[simp] theorem State.passHist_phase (s : State) (c : Nat) (h : Hist) : (State.passHist s c h).rst.phase = s.rst.phase := by
  simp only [State.passHist, State.snapshot_phase, State.withHists_phase]
  repeat' first | with_reducible rfl | simp only [State.rset_phase] | split | refine (foldl_phase _ (fun s x => ?_) _ _).trans ?_
@[simp] theorem State.spargeClear_phase (s : State) (c : Nat) (errs : List (Nat × Bool)) : (State.spargeClear s c errs).rst.phase = s.rst.phase := by
  simp only [State.spargeClear, State.modChAcc_phase, State.withTun_phase]
  repeat' first | with_reducible rfl | simp only [State.binError_phase] | split | refine (foldl_phase _ (fun s x => ?_) _ _).trans ?_
@[simp] theorem State.spargeHist_phase (s : State) (c : Nat) (errs : List (Nat × Bool)) : (State.spargeHist s c errs).1.rst.phase = s.rst.phase := by
  simp only [State.spargeHist, State.passHist_phase, State.spargeClear_phase, State.phase_ite, ite_self, apply_ite Prod.fst]
@[simp] theorem State.snapArm_phase (s : State) : (State.snapArm s).rst.phase = s.rst.phase := by
  simp only [State.snapArm, State.setB_phase, State.withMash_phase]
@[simp] theorem State.tunClear_phase (s : State) : (State.tunClear s).rst.phase = s.rst.phase := by
  simp only [State.tunClear, State.setB_phase, State.setF_phase, State.withChans_phase]
  repeat' first | with_reducible rfl | simp only [State.setCluster_phase, State.setF_phase, State.withHists_phase, State.withMash_phase, State.withTun_phase] | split | refine (foldl_phase _ (fun s x => ?_) _ _).trans ?_
@[simp] theorem State.mashInvalid_phase (s : State) : (State.mashInvalid s).rst.phase = s.rst.phase := by
  simp only [State.mashInvalid, State.withClus_phase]

/-! ## Lauter -/

@[simp] theorem State.modLau_phase (s : State) (m : Nat) (g : LauCol → LauCol) : (State.modLau s m g).rst.phase = s.rst.phase := by
  simp only [State.modLau, State.withLau_phase]
@[simp] theorem State.hzdAssert_phase (s : State) : (State.hzdAssert s).rst.phase = s.rst.phase := by
  simp only [State.hzdAssert, State.raiseIf_phase, State.setB_phase]
@[simp] theorem State.lauOutcome_phase (s : State) (m : Nat) (o : FieldOut) (eff : SMap Word) : (State.lauOutcome s m o eff).rst.phase = s.rst.phase := by
  simp only [State.lauOutcome, State.hzdAssert_phase, State.modLau_phase, State.withLau_phase, State.phase_ite, ite_self]
@[simp] theorem State.lauExtract_phase (s : State) (c : Nat) : (State.lauExtract s c).1.rst.phase = s.rst.phase := by
  simp only [State.lauExtract, State.incSat_phase, State.lauOutcome_phase, State.raise_phase, State.raiseIf_phase, State.withHists_phase, State.withLau_phase, State.phase_ite, ite_self]
@[simp] theorem State.lauLatch_phase (s : State) (col : LauCol) (fue : List Nat) : (State.lauLatch s col fue).rst.phase = s.rst.phase := by
  simp only [State.lauLatch, State.withLau_phase]
  repeat' first | with_reducible rfl | simp only [State.logEvent_phase, State.raise_phase] | split | refine (foldl_phase _ (fun s x => ?_) _ _).trans ?_
@[simp] theorem State.lauSummary_phase (s : State) (m : Nat) : (State.lauSummary s m).rst.phase = s.rst.phase := by
  simp only [State.lauSummary, State.modLau_phase, State.setB_phase, State.setF_phase, State.withLau_phase, State.phase_ite, ite_self]

/-! ## Tin -/

@[simp] theorem State.setTin_phase (s : State) (n : Nat) (x : TinSt) : (State.setTin s n x).rst.phase = s.rst.phase := by
  simp only [State.setTin, State.withTins_phase]
@[simp] theorem State.tinPush_phase (s : State) (n : Nat) (stream : Bool) (w0 w1 : Nat) : (State.tinPush s n stream w0 w1).rst.phase = s.rst.phase := by
  simp only [State.tinPush, State.incSat_phase, State.raise_phase, State.setTin_phase, State.phase_ite, ite_self]
@[simp] theorem State.tinStop_phase (s : State) (n : Nat) (b : TinStamp) : (State.tinStop s n b).rst.phase = s.rst.phase := by
  simp only [State.tinStop]
  repeat' first | with_reducible rfl | simp only [State.raiseIf_phase, State.setTin_phase, State.tinPush_phase, State.phase_ite, ite_self] | split
theorem execTinEdge_phase (m : Nat) (rising : Bool) (tap : Nat) (s : State) : Out.phase s.rst.phase (execTinEdge m rising tap s) = s.rst.phase := by
  simp only [execTinEdge, State.incSat_phase, State.raise_phase, State.setTin_phase, State.tinPush_phase, ite_self, Out.phase_next, Out.phase_ite]
  repeat' first | with_reducible rfl | simp only [State.setTin_phase, State.tinStop_phase] | split | refine (foldl_phase _ (fun s x => ?_) _ _).trans ?_
@[simp] theorem State.tinCal_phase (s : State) (n : Nat) (h : List Nat) : (State.tinCal s n h).rst.phase = s.rst.phase := by
  simp only [State.tinCal, State.setF_phase, State.setTin_phase]
theorem execTinInterpCal_phase (n : Nat) (h : List Nat) (s : State) : Out.phase s.rst.phase (execTinInterpCal n h s) = s.rst.phase := by
  simp only [execTinInterpCal, State.tinCal_phase, State.phase_ite, ite_self, Out.phase_next]
@[simp] theorem State.tinPop_phase (s : State) (n : Nat) : (State.tinPop s n).rst.phase = s.rst.phase := by
  simp only [State.tinPop, State.setTin_phase]
theorem execTinQhiRead_phase (n : Nat) (s : State) : Out.phase s.rst.phase (execTinQhiRead n s) = s.rst.phase := by
  simp only [execTinQhiRead, State.tinPop_phase, State.phase_ite, ite_self, Out.phase_next]
@[simp] theorem State.tinCfgWrite_phase (s : State) (n : Nat) (v : Word) : (State.tinCfgWrite s n v).rst.phase = s.rst.phase := by
  simp only [State.tinCfgWrite, State.rset_phase]
@[simp] theorem State.tinTake_phase (s : State) (n : Nat) : (State.tinTake s n).rst.phase = s.rst.phase := by
  simp only [State.tinTake, State.setTin_phase, State.phase_ite, ite_self]
@[simp] theorem State.tinFollow_phase (s : State) : (State.tinFollow s).rst.phase = s.rst.phase := by
  simp only [State.tinFollow]
  repeat' first | with_reducible rfl | simp only [State.tinTake_phase] | split | refine (foldl_phase _ (fun s x => ?_) _ _).trans ?_
@[simp] theorem State.tinPhaseStep_phase (s : State) : (State.tinPhaseStep s).rst.phase = s.rst.phase := by
  simp only [State.tinPhaseStep]
  repeat' first | with_reducible rfl | simp only [State.setTin_phase, State.phase_ite, ite_self] | split | refine (foldl_phase _ (fun s x => ?_) _ _).trans ?_
@[simp] theorem State.tinPark_phase (s : State) : (State.tinPark s).rst.phase = s.rst.phase := by
  simp only [State.tinPark]
  repeat' first | with_reducible rfl | simp only [State.setTin_phase] | split | refine (foldl_phase _ (fun s x => ?_) _ _).trans ?_

/-! ## Wort -/

@[simp] theorem State.modStream_phase (s : State) (st : Nat) (g : StreamSt → StreamSt) : (State.modStream s st g).rst.phase = s.rst.phase := by
  simp only [State.modStream, State.withWort_phase]
@[simp] theorem State.omitFrame_phase (s : State) (st frame cause : Nat) : (State.omitFrame s st frame cause).rst.phase = s.rst.phase := by
  simp only [State.omitFrame, State.incSat_phase, State.modStream_phase, State.phase_ite, ite_self]
@[simp] theorem State.setDgOpen_phase (s : State) (k : Nat) (d : Option (List OutRec × Nat)) : (State.setDgOpen s k d).rst.phase = s.rst.phase := by
  simp only [State.setDgOpen, State.withWort_phase]
@[simp] theorem State.closeDgram_phase (s : State) (k : Nat) : (State.closeDgram s k).rst.phase = s.rst.phase := by
  simp only [State.closeDgram]
  repeat' first | with_reducible rfl | simp only [State.setDgOpen_phase, State.withWort_phase] | split
@[simp] theorem State.dgramAdd_phase (s : State) (k : Nat) (r : OutRec) : (State.dgramAdd s k r).rst.phase = s.rst.phase := by
  simp only [State.dgramAdd, State.closeDgram_phase, State.setDgOpen_phase, State.phase_ite, ite_self]
theorem execDatagramCloseTimeout_phase (s : State) : Out.phase s.rst.phase (execDatagramCloseTimeout s) = s.rst.phase := by
  simp only [execDatagramCloseTimeout, State.closeDgram_phase, State.phase_ite, ite_self, Out.phase_next]
@[simp] theorem State.writeRec_phase (s : State) (st : Nat) (r : OutRec) : (State.writeRec s st r).rst.phase = s.rst.phase := by
  simp only [State.writeRec, State.dgramAdd_phase, State.modStream_phase, State.raiseIf_phase, State.phase_ite, ite_self]
@[simp] theorem State.startHead_phase (s : State) (st : Nat) : (State.startHead s st).rst.phase = s.rst.phase := by
  simp only [State.startHead]
  repeat' first | with_reducible rfl | simp only [State.modStream_phase, State.raiseIf_phase, State.writeRec_phase, State.phase_ite] | split | refine (foldl_phase _ (fun s x => ?_) _ _).trans ?_
@[simp] theorem State.finishHead_phase (s : State) (st : Nat) : (State.finishHead s st).rst.phase = s.rst.phase := by
  simp only [State.finishHead, State.closeDgram_phase, State.modStream_phase, State.startHead_phase, State.phase_ite, ite_self]
theorem State.settle_phase (s : State) (st k : Nat) : (s.settle st k).rst.phase = s.rst.phase := by
  induction k generalizing s with
  | zero => rfl
  | succ k ih =>
    unfold State.settle
    split
    · rfl
    · dsimp only
      split
      · rw [ih, State.finishHead_phase, State.modStream_phase]
      · rw [State.modStream_phase]
@[simp] theorem State.emitEcho_phase (s : State) (st : Nat) : (State.emitEcho s st).rst.phase = s.rst.phase := by
  simp only [State.emitEcho]
  repeat' first | with_reducible rfl | simp only [State.modStream_phase, State.writeRec_phase, State.settle_phase, State.phase_ite, ite_self] | split
theorem execEchoRecordEmit_phase (st : Nat) (s : State) : Out.phase s.rst.phase (execEchoRecordEmit st s) = s.rst.phase := by
  simp only [execEchoRecordEmit, State.emitEcho_phase, State.phase_ite, ite_self, Out.phase_next]
@[simp] theorem State.admitCol_phase (s : State) (st : Nat) (c : ColInfo) : (State.admitCol s st c).rst.phase = s.rst.phase := by
  simp only [State.admitCol, State.modStream_phase, State.omitFrame_phase, State.raise_phase, State.raiseIf_phase, State.setF_phase, State.startHead_phase, State.settle_phase, State.phase_ite, ite_self]
@[simp] theorem State.wortSkip_phase (s : State) : (State.wortSkip s).rst.phase = s.rst.phase := by
  simp only [State.wortSkip, State.omitFrame_phase, State.withWort_phase, State.phase_ite, ite_self]
@[simp] theorem State.wortScan_phase (s : State) : (State.wortScan s).rst.phase = s.rst.phase := by
  simp only [State.wortScan, State.withWort_phase]
theorem State.emitAll_phase (s : State) (st k : Nat) : (s.emitAll st k).rst.phase = s.rst.phase := by
  induction k generalizing s with
  | zero => rfl
  | succ k ih => rw [State.emitAll, ih, State.emitEcho_phase]
@[simp] theorem State.wortDone_phase (s : State) (m ch : Nat) (es : List Echo) : (State.wortDone s m ch es).rst.phase = s.rst.phase := by
  simp only [State.wortDone, State.withWort_phase, State.settle_phase]
@[simp] theorem State.forgetDone_phase (s : State) (m : Nat) : (State.forgetDone s m).rst.phase = s.rst.phase := by
  simp only [State.forgetDone, State.withWort_phase]
@[simp] theorem State.wortForget_phase (s : State) (m : Nat) : (State.wortForget s m).rst.phase = s.rst.phase := by
  simp only [State.wortForget, State.forgetDone_phase, State.emitAll_phase]
@[simp] theorem State.cutStream_phase (s : State) (st : Nat) (frames : List Nat) (x : Resumed) : (State.cutStream s st frames x).rst.phase = s.rst.phase := by
  simp only [State.cutStream, State.modStream_phase, State.raiseIf_phase]
@[simp] theorem State.cutDwl_phase (s : State) (frames : List Nat) (lost : List GapRun) (cause : Nat) : (State.cutDwl s frames lost cause).rst.phase = s.rst.phase := by
  simp only [State.cutDwl, State.cutStream_phase, State.incSat_phase, State.modStream_phase, State.startHead_phase, State.phase_ite, ite_self]
@[simp] theorem State.anchorCommit_phase (s : State) : (State.anchorCommit s).rst.phase = s.rst.phase := by
  simp only [State.anchorCommit, State.withAnchor_phase]
@[simp] theorem State.cutEth_phase (s : State) (frames : List Nat) (lost : List GapRun) (cause : Nat) (pts : List Dgram) (op : Option (List OutRec × Nat)) : (State.cutEth s frames lost cause pts op).rst.phase = s.rst.phase := by
  simp only [State.cutEth, State.cutStream_phase, State.startHead_phase, State.withWort_phase]

/-! ## Dwl -/

@[simp] theorem State.frameSent_phase (s : State) (f : DwlFrame) : (State.frameSent s f).rst.phase = s.rst.phase := by
  simp only [State.frameSent, State.incMod_phase, State.withWort_phase, State.phase_ite, ite_self]
@[simp] theorem State.dwlSettle_phase (s : State) : (State.dwlSettle s).rst.phase = s.rst.phase := by
  simp only [State.dwlSettle]
  repeat' first | with_reducible rfl | simp only [State.frameSent_phase, State.withDwl_phase] | split | refine (foldl_phase _ (fun s x => ?_) _ _).trans ?_
@[simp] theorem State.dwlStart_phase (s : State) (lane chan : Nat) (hdr : Word) (pay : List Word) (recs : List OutRec) : (State.dwlStart s lane chan hdr pay recs).rst.phase = s.rst.phase := by
  simp only [State.dwlStart, State.withDwl_phase]
@[simp] theorem State.wortUe_phase (s : State) : (State.wortUe s).rst.phase = s.rst.phase := by
  simp only [State.wortUe, State.fresh_phase, State.incSat_phase, State.logEvent_phase, State.raise_phase]
@[simp] theorem State.wortCe_phase (s : State) : (State.wortCe s).rst.phase = s.rst.phase := by
  simp only [State.wortCe, State.incSat_phase, State.raise_phase]
@[simp] theorem State.wortEcc_phase (s : State) (err : Option (Nat × Bool)) : (State.wortEcc s err).rst.phase = s.rst.phase := by
  simp only [State.wortEcc]
  repeat' first | with_reducible rfl | simp only [State.cutDwl_phase, State.modStream_phase, State.wortCe_phase, State.wortUe_phase] | split
theorem execDwlPointFrame_phase (err : Option (Nat × Bool)) (s : State) : Out.phase s.rst.phase (execDwlPointFrame err s) = s.rst.phase := by
  simp only [execDwlPointFrame, State.dwlSettle_phase, State.dwlStart_phase, State.modStream_phase, State.setF_phase, State.withDwl_phase, State.wortEcc_phase, ite_self, Out.phase_next, Out.phase_ite]
theorem execDwlLrsFrame_phase (s : State) : Out.phase s.rst.phase (execDwlLrsFrame s) = s.rst.phase := by
  simp only [execDwlLrsFrame, State.dwlSettle_phase, State.dwlStart_phase, State.withDwl_phase, ite_self, Out.phase_next, Out.phase_ite]
@[simp] theorem State.sidePush_phase (s : State) (lane : Nat) (msg : List Word) : (State.sidePush s lane msg).rst.phase = s.rst.phase := by
  simp only [State.sidePush, State.withDwl_phase, State.phase_ite, ite_self]
@[simp] theorem State.sideSend_phase (s : State) : (State.sideSend s).rst.phase = s.rst.phase := by
  simp only [State.sideSend]
  repeat' first | with_reducible rfl | simp only [State.dwlStart_phase, State.withDwl_phase, State.phase_ite, ite_self] | split
@[simp] theorem State.dwlDown_phase (s : State) : (State.dwlDown s).rst.phase = s.rst.phase := by
  simp only [State.dwlDown, State.cutDwl_phase, State.dwlSettle_phase, State.incSat_phase, State.raise_phase, State.setB_phase, State.withDwl_phase, State.phase_ite, ite_self]
@[simp] theorem State.dwlFollow_phase (s : State) : (State.dwlFollow s).rst.phase = s.rst.phase := by
  simp only [State.dwlFollow, State.dwlDown_phase, State.withDwl_phase, State.phase_ite, ite_self]
@[simp] theorem State.dwlReset_phase (s : State) : (State.dwlReset s).rst.phase = s.rst.phase := by
  simp only [State.dwlReset, State.cutDwl_phase]
  repeat' first | with_reducible rfl | simp only [State.dwlSettle_phase, State.raise_phase, State.rset_phase, State.setB_phase, State.withDwl_phase] | split | refine (foldl_phase _ (fun s x => ?_) _ _).trans ?_
theorem execDwlCreditReceive_phase (lane : Nat) (ccum : BitVec 16) (ok : Bool) (s : State) : Out.phase s.rst.phase (execDwlCreditReceive lane ccum ok s) = s.rst.phase := by
  simp only [execDwlCreditReceive, State.dwlSettle_phase, State.incSat_phase, State.raise_phase, State.setB_phase, State.setF_phase, State.withDwl_phase, State.phase_ite, ite_self, Out.phase_next, Out.phase_ite]
theorem execDwlCreditTimeout_phase (old : Bool) (s : State) : Out.phase s.rst.phase (execDwlCreditTimeout old s) = s.rst.phase := by
  simp only [execDwlCreditTimeout, State.raise_phase, ite_self, Out.phase_next, Out.phase_ite]

/-! ## Time -/

@[simp] theorem State.ctrTo_phase (s : State) (n : Int) : (State.ctrTo s n).rst.phase = s.rst.phase := by
  simp only [State.ctrTo, State.line_phase, State.raise_phase, State.setFs_phase, State.withTime_phase, State.phase_ite, ite_self]
@[simp] theorem State.ppsCheck_phase (s : State) : (State.ppsCheck s).rst.phase = s.rst.phase := by
  simp only [State.ppsCheck, State.setB_phase, State.withPins_phase, State.phase_ite, ite_self]
@[simp] theorem State.tclkEdges_phase (s : State) (k : Nat) : (State.tclkEdges s k).rst.phase = s.rst.phase := by
  simp only [State.tclkEdges, State.adcStamp_phase, State.ctrTo_phase, State.line_phase, State.ppsCheck_phase, State.raise_phase, State.setB_phase, State.tinFollow_phase, State.tinPhaseStep_phase, State.withNow_phase, State.withTime_phase, State.phase_ite, ite_self]
@[simp] theorem State.tclkTick_phase (s : State) : (State.tclkTick s).rst.phase = s.rst.phase := by
  simp only [State.tclkTick, State.dwlSettle_phase, State.sideSend_phase, State.tclkEdges_phase]
theorem execTimeOffsetApply_phase (s : State) : Out.phase s.rst.phase (execTimeOffsetApply s) = s.rst.phase := by
  simp only [execTimeOffsetApply, State.tclkEdges_phase, State.phase_ite, ite_self, Out.phase_next]
theorem execTimeCounterWrap_phase (s : State) : Out.phase s.rst.phase (execTimeCounterWrap s) = s.rst.phase := by
  simp only [execTimeCounterWrap, State.tclkEdges_phase, Out.phase_next]
theorem execPpsPulse_phase (s : State) : Out.phase s.rst.phase (execPpsPulse s) = s.rst.phase := by
  simp only [execPpsPulse, State.ppsCheck_phase, Out.phase_next]
theorem execPpsPulseEnd_phase (s : State) : Out.phase s.rst.phase (execPpsPulseEnd s) = s.rst.phase := by
  simp only [execPpsPulseEnd, State.withPins_phase, State.phase_ite, ite_self, Out.phase_next]
theorem execTimeNsRead_phase (s : State) : Out.phase s.rst.phase (execTimeNsRead s) = s.rst.phase := by
  simp only [execTimeNsRead, State.setF_phase, Out.phase_next]
@[simp] theorem State.timeIncWrite_phase (s : State) (v : Word) : (State.timeIncWrite s v).rst.phase = s.rst.phase := by
  simp only [State.timeIncWrite, State.raiseIf_phase, State.rset_phase]
theorem execTimeIncWrite_phase (v : Word) (s : State) : Out.phase s.rst.phase (execTimeIncWrite v s) = s.rst.phase := by
  simp only [execTimeIncWrite, State.timeIncWrite_phase, Out.phase_next]
@[simp] theorem State.timeOfsWrite_phase (s : State) (v : Word) : (State.timeOfsWrite s v).rst.phase = s.rst.phase := by
  simp only [State.timeOfsWrite, State.setB_phase, State.withTime_phase]
theorem execTimeOfsWrite_phase (v : Word) (s : State) : Out.phase s.rst.phase (execTimeOfsWrite v s) = s.rst.phase := by
  simp only [execTimeOfsWrite, State.timeOfsWrite_phase, Out.phase_next]
@[simp] theorem State.timeInvalid_phase (s : State) : (State.timeInvalid s).rst.phase = s.rst.phase := by
  simp only [State.timeInvalid, State.setB_phase, State.withPins_phase]
@[simp] theorem State.timeCtrlWrite_phase (s : State) (m : Nat) (v : Word) : (State.timeCtrlWrite s m v).rst.phase = s.rst.phase := by
  simp only [State.timeCtrlWrite, State.rset_phase, State.setB_phase, State.timeInvalid_phase, State.phase_ite, ite_self]
theorem execTimeCtrlWrite_phase (m : Nat) (v : Word) (s : State) : Out.phase s.rst.phase (execTimeCtrlWrite m v s) = s.rst.phase := by
  simp only [execTimeCtrlWrite, State.timeCtrlWrite_phase, Out.phase_next]
@[simp] theorem State.timePpsWrite_phase (s : State) (v : Word) : (State.timePpsWrite s v).rst.phase = s.rst.phase := by
  simp only [State.timePpsWrite, State.raise_phase, State.rset_phase, State.setB_phase, State.phase_ite, ite_self]
theorem execTimePpsWrite_phase (v : Word) (s : State) : Out.phase s.rst.phase (execTimePpsWrite v s) = s.rst.phase := by
  simp only [execTimePpsWrite, State.timePpsWrite_phase, Out.phase_next]

/-! ## Lane -/

@[simp] theorem State.setLane_phase (s : State) (n : Nat) (x : LaneSt) : (State.setLane s n x).rst.phase = s.rst.phase := by
  simp only [State.setLane, State.withLanes_phase]
@[simp] theorem State.setEth_phase (s : State) (p : Nat) (x : EthSt) : (State.setEth s p x).rst.phase = s.rst.phase := by
  simp only [State.setEth, State.withEths_phase]
@[simp] theorem State.laneRates_phase (s : State) : (State.laneRates s).rst.phase = s.rst.phase := by
  simp only [State.laneRates]
  repeat' first | with_reducible rfl | simp only [State.setF_phase] | split | refine (foldl_phase _ (fun s x => ?_) _ _).trans ?_
@[simp] theorem State.dgRelease_phase (s : State) (k q : Nat) : (State.dgRelease s k q).rst.phase = s.rst.phase := by
  simp only [State.dgRelease, State.phase_ite]
  repeat' first | with_reducible rfl | simp only [State.withWort_phase, State.phase_ite, ite_self] | split
@[simp] theorem State.dgRecall_phase (s : State) (p : Nat) : (State.dgRecall s p).rst.phase = s.rst.phase := by
  simp only [State.dgRecall]
  repeat' first | with_reducible rfl | simp only [State.dgRelease_phase, State.setEth_phase] | split | refine (foldl_phase _ (fun s x => ?_) _ _).trans ?_
@[simp] theorem State.ethDown_phase (s : State) (p : Nat) : (State.ethDown s p).rst.phase = s.rst.phase := by
  simp only [State.ethDown, State.dgRecall_phase, State.incMod_phase, State.raise_phase, State.setB_phase, State.phase_ite, ite_self]
@[simp] theorem State.laneLost_phase (s : State) (n : Nat) : (State.laneLost s n).rst.phase = s.rst.phase := by
  simp only [State.laneLost, State.phase_ite]
  repeat' first | with_reducible rfl | simp only [State.dwlFollow_phase, State.ethDown_phase, State.raise_phase, State.setB_phase, State.setF_phase, State.setLane_phase] | split
theorem execLaneAlignAcquired_phase (n : Nat) (s : State) : Out.phase s.rst.phase (execLaneAlignAcquired n s) = s.rst.phase := by
  simp only [execLaneAlignAcquired, State.setB_phase, State.setLane_phase, State.phase_ite, ite_self, Out.phase_next, Out.phase_ite]
theorem execLaneCodeError_phase (n good kind : Nat) (s : State) (lost : Bool) : Out.phase s.rst.phase (execLaneCodeError n good kind s lost) = s.rst.phase := by
  simp only [execLaneCodeError, State.incSat_phase, State.laneLost_phase, State.setLane_phase, State.phase_ite, ite_self, Out.phase_next, Out.phase_ite]
@[simp] theorem State.setDfe_phase (s : State) (n : Nat) (d1 d2 d3 : BitVec 6) : (State.setDfe s n d1 d2 d3).rst.phase = s.rst.phase := by
  simp only [State.setDfe, State.setF_phase]
theorem execLaneAdaptDone_phase (n : Nat) (eyes : List (Nat × Nat)) (d1 d2 d3 : BitVec 6) (s : State) : Out.phase s.rst.phase (execLaneAdaptDone n eyes d1 d2 d3 s) = s.rst.phase := by
  simp only [execLaneAdaptDone, State.raiseIf_phase, State.setB_phase, State.setDfe_phase, State.setF_phase, State.setLane_phase, ite_self, Out.phase_next, Out.phase_ite]
theorem execEyeMeasure_phase (n h v : Nat) (d1 d2 d3 : BitVec 6) (s : State) : Out.phase s.rst.phase (execEyeMeasure n h v d1 d2 d3 s) = s.rst.phase := by
  simp only [execEyeMeasure, State.raiseIf_phase, State.setDfe_phase, State.setF_phase, State.phase_ite, ite_self, Out.phase_next, Out.phase_ite]
theorem execLanePllLock_phase (s : State) : Out.phase s.rst.phase (execLanePllLock s) = s.rst.phase := by
  simp only [execLanePllLock, State.setB_phase, State.phase_ite, ite_self, Out.phase_next]
theorem execLanePllLoss_phase (s : State) : Out.phase s.rst.phase (execLanePllLoss s) = s.rst.phase := by
  simp only [execLanePllLoss, Out.phase_next]
  repeat' first | with_reducible rfl | simp only [State.laneLost_phase, State.setB_phase] | split | refine (foldl_phase _ (fun s x => ?_) _ _).trans ?_

/-! ## Eth -/

@[simp] theorem State.prpCommit_phase (s : State) : (State.prpCommit s).rst.phase = s.rst.phase := by
  simp only [State.prpCommit, State.raiseIf_phase, State.setB_phase]
@[simp] theorem State.ethCfgWrite_phase (s : State) (p : Nat) (v : Word) : (State.ethCfgWrite s p v).rst.phase = s.rst.phase := by
  simp only [State.ethCfgWrite, State.ethDown_phase, State.laneRates_phase]
  repeat' first | with_reducible rfl | simp only [State.rset_phase, State.setF_phase] | split
theorem execEthModeWrite_phase (p : Nat) (v : Word) (s : State) : Out.phase s.rst.phase (execEthModeWrite p v s) = s.rst.phase := by
  simp only [execEthModeWrite, State.ethCfgWrite_phase, State.phase_ite, ite_self, Out.phase_next]
@[simp] theorem State.ethKick_phase (s : State) (p : Nat) : (State.ethKick s p).rst.phase = s.rst.phase := by
  simp only [State.ethKick, State.phase_ite]
  repeat' first | with_reducible rfl | simp only [State.setEth_phase] | split
@[simp] theorem State.ethPush_phase (s : State) (p : Nat) (f : TxFr) : (State.ethPush s p f).rst.phase = s.rst.phase := by
  simp only [State.ethPush, State.ethKick_phase, State.setEth_phase]
@[simp] theorem State.ipOpen_phase (s : State) (f : TxFr) : (State.ipOpen s f).1.rst.phase = s.rst.phase := by
  simp only [State.ipOpen]
  repeat' first | with_reducible rfl | simp only [State.fresh_phase] | split
@[simp] theorem State.ethSend_phase (s : State) (p : Nat) (f : TxFr) : (State.ethSend s p f).rst.phase = s.rst.phase := by
  simp only [State.ethSend, State.ethPush_phase, State.incMod_phase, State.ipOpen_phase, State.setB_phase, State.phase_ite, ite_self]
@[simp] theorem State.txcmdWrite_phase (s : State) (p : Nat) (v : Word) : (State.txcmdWrite s p v).rst.phase = s.rst.phase := by
  simp only [State.txcmdWrite, State.ethSend_phase, State.incSat_phase, State.rset_phase, State.setB_phase, State.phase_ite, ite_self]
theorem execEthTxcmdGo_phase (p : Nat) (v : Word) (s : State) : Out.phase s.rst.phase (execEthTxcmdGo p v s) = s.rst.phase := by
  simp only [execEthTxcmdGo, State.txcmdWrite_phase, State.phase_ite, ite_self, Out.phase_next]
@[simp] theorem State.dgSent_phase (s : State) (k q : Nat) : (State.dgSent s k q).rst.phase = s.rst.phase := by
  simp only [State.dgSent, State.withWort_phase]
theorem execEthFrameTransmitDone_phase (p d : Nat) (s : State) (par : Bool) : Out.phase s.rst.phase (execEthFrameTransmitDone p d s par) = s.rst.phase := by
  simp only [execEthFrameTransmitDone, Out.phase_next, Out.phase_ite]
  repeat' first | with_reducible rfl | simp only [State.dgRelease_phase, State.dgSent_phase, State.ethKick_phase, State.incMod_phase, State.incSat_phase, State.raise_phase, State.setB_phase, State.setEth_phase, State.phase_ite, ite_self, Out.phase_next] | split
theorem execEthTxts2Read_phase (p : Nat) (s : State) : Out.phase s.rst.phase (execEthTxts2Read p s) = s.rst.phase := by
  simp only [execEthTxts2Read, State.setEth_phase, State.phase_ite, ite_self, Out.phase_next]
theorem execEthLinkChange_phase (p : Nat) (up refused : Bool) (s : State) : Out.phase s.rst.phase (execEthLinkChange p up refused s) = s.rst.phase := by
  simp only [execEthLinkChange, State.ethDown_phase, State.ethKick_phase, State.raiseIf_phase, State.setB_phase, ite_self, Out.phase_next, Out.phase_ite]
@[simp] theorem State.ethReset_phase (s : State) (p : Nat) : (State.ethReset s p).rst.phase = s.rst.phase := by
  simp only [State.ethReset]
  repeat' first | with_reducible rfl | simp only [State.dgRecall_phase, State.ethDown_phase, State.rset_phase, State.setEth_phase] | split | refine (foldl_phase _ (fun s x => ?_) _ _).trans ?_
@[simp] theorem State.dropHop_phase (s : State) (q ip : Nat) : (State.dropHop s q ip).rst.phase = s.rst.phase := by
  simp only [State.dropHop]
  repeat' first | with_reducible rfl | simp only [State.dgRelease_phase, State.setEth_phase] | split | refine (foldl_phase _ (fun s x => ?_) _ _).trans ?_
@[simp] theorem State.arpAsk_phase (s : State) (p : Nat) (ip : Nat) : (State.arpAsk s p ip).rst.phase = s.rst.phase := by
  simp only [State.arpAsk, State.ethSend_phase, State.setEth_phase, State.phase_ite, ite_self]
theorem execArpRefresh_phase (p : Nat) (ip : Word) (s : State) : Out.phase s.rst.phase (execArpRefresh p ip s) = s.rst.phase := by
  simp only [execArpRefresh, Out.phase_next, Out.phase_ite]
  repeat' first | with_reducible rfl | simp only [State.dropHop_phase, State.ethSend_phase, State.setEth_phase, ite_self, Out.phase_next, Out.phase_ite] | split
@[simp] theorem State.hwReply_phase (s : State) (p : Nat) (body : TxBody) : (State.hwReply s p body).rst.phase = s.rst.phase := by
  simp only [State.hwReply, State.ethSend_phase, State.incSat_phase, State.setEth_phase, State.phase_ite, ite_self]
@[simp] theorem State.ethFilt_phase (s : State) (p : Nat) : (State.ethFilt s p).rst.phase = s.rst.phase := by
  simp only [State.ethFilt, State.incSat_phase]
@[simp] theorem State.qstat_phase (s : State) (p : Nat) : (State.qstat s p).rst.phase = s.rst.phase := by
  simp only [State.qstat, State.setF_phase]
@[simp] theorem State.ethQueue_phase (s : State) (p cls d : Nat) (fr : List Byte) : (State.ethQueue s p cls d fr).rst.phase = s.rst.phase := by
  simp only [State.ethQueue]
  repeat' first | with_reducible rfl | simp only [State.incSat_phase, State.qstat_phase, State.raise_phase, State.setEth_phase, State.phase_ite, ite_self] | split
@[simp] theorem State.prpCheck_phase (s : State) (mac q : Nat) : (State.prpCheck s mac q).2.rst.phase = s.rst.phase := by
  simp only [State.prpCheck]
  repeat' first | with_reducible rfl | simp only [State.withPrp_phase, State.phase_ite, ite_self, apply_ite Prod.snd] | split
theorem execPrpEntryForget_phase (mac : BitVec 48) (s : State) : Out.phase s.rst.phase (execPrpEntryForget mac s) = s.rst.phase := by
  simp only [execPrpEntryForget, State.withPrp_phase, Out.phase_next]
theorem execPrpSupervisionSend_phase (s : State) : Out.phase s.rst.phase (execPrpSupervisionSend s) = s.rst.phase := by
  simp only [execPrpSupervisionSend, State.ethSend_phase, State.setEth_phase, State.phase_ite, ite_self, Out.phase_next]
@[simp] theorem State.arpRx_phase (s : State) (p : Nat) (fr : List Byte) (o : Nat) : (State.arpRx s p fr o).rst.phase = s.rst.phase := by
  simp only [State.arpRx, State.ethKick_phase, State.hwReply_phase, State.setEth_phase, State.phase_ite, ite_self]
@[simp] theorem State.classify_phase (s : State) (p : Nat) (fr : List Byte) (d : Nat) : (State.classify s p fr d).rst.phase = s.rst.phase := by
  simp only [State.classify, State.arpRx_phase, State.ethFilt_phase, State.ethQueue_phase, State.hwReply_phase, State.incSat_phase, State.withParkWake_phase, State.phase_ite, ite_self]
theorem execEthFrameReceive_phase (p : Nat) (fr : List Byte) (fcs : Bool) (d : Nat) (s : State) : Out.phase s.rst.phase (execEthFrameReceive p fr fcs d s) = s.rst.phase := by
  unfold execEthFrameReceive
  repeat' first | with_reducible rfl | split | simp only [State.classify_phase, State.ethFilt_phase, State.incMod_phase, State.incSat_phase, State.prpCheck_phase, State.raise_phase, ite_self, Out.phase_next, Out.phase_ite]
@[simp] theorem State.qpop_phase (s : State) (p : Nat) : (State.qpop s p).rst.phase = s.rst.phase := by
  simp only [State.qpop, State.qstat_phase, State.setEth_phase]
theorem execEthQpop_phase (p : Nat) (s : State) : Out.phase s.rst.phase (execEthQpop p s) = s.rst.phase := by
  simp only [execEthQpop, State.qpop_phase, State.phase_ite, ite_self, Out.phase_next]
@[simp] theorem State.ethEcc_phase (s : State) (d : Dgram) (err : Option (Nat × Bool)) : (State.ethEcc s d err).1.rst.phase = s.rst.phase := by
  simp only [State.ethEcc]
  repeat' first | with_reducible rfl | simp only [State.cutEth_phase, State.withWort_phase, State.wortCe_phase, State.wortUe_phase, State.phase_ite, ite_self, apply_ite Prod.fst] | split
@[simp] theorem State.dgSend_phase (s : State) (p k dst : Nat) (d : Dgram) : (State.dgSend s p k dst d).rst.phase = s.rst.phase := by
  simp only [State.dgSend, State.ethSend_phase, State.withWort_phase]
theorem execDatagramSend_phase (stream : Nat) (s : State) (err : Option (Nat × Bool)) : Out.phase s.rst.phase (execDatagramSend stream s err) = s.rst.phase := by
  simp only [execDatagramSend, Out.phase_next, Out.phase_ite]
  repeat' first | with_reducible rfl | simp only [State.arpAsk_phase, State.dgSend_phase, State.ethEcc_phase, Out.phase_next, Out.phase_ite] | split
theorem execDatagramDiscard_phase (s : State) : Out.phase s.rst.phase (execDatagramDiscard s) = s.rst.phase := by
  simp only [execDatagramDiscard]
  repeat' first | with_reducible rfl | simp only [State.cutEth_phase, State.setEth_phase, State.withWort_phase, Out.phase_next, Out.phase_ite] | split | refine (foldl_phase _ (fun s x => ?_) _ _).trans ?_

/-! ## Cask -/

@[simp] theorem State.caskRefuse_phase (s : State) : (State.caskRefuse s).rst.phase = s.rst.phase := by
  simp only [State.caskRefuse, State.incSat_phase, State.logEvent_phase, State.raise_phase, State.withCask_phase, State.phase_ite, ite_self]
@[simp] theorem State.caskActivate_phase (s : State) : (State.caskActivate s).rst.phase = s.rst.phase := by
  simp only [State.caskActivate, State.setB_phase, State.withCal_phase]
@[simp] theorem State.caskApply_phase (s : State) : (State.caskApply s).rst.phase = s.rst.phase := by
  simp only [State.caskApply, State.caskRefuse_phase, State.nvmPush_phase, State.phase_ite, ite_self]
theorem execCaskApply_phase (s : State) : Out.phase s.rst.phase (execCaskApply s) = s.rst.phase := by
  simp only [execCaskApply, State.caskApply_phase, Out.phase_next]
@[simp] theorem State.calcfgWrite_phase (s : State) (v : Word) : (State.calcfgWrite s v).rst.phase = s.rst.phase := by
  simp only [State.calcfgWrite, State.caskApply_phase, State.caskRefuse_phase, State.setF_phase, State.phase_ite, ite_self]
theorem execCaskCopyBackDone_phase (s : State) : Out.phase s.rst.phase (execCaskCopyBackDone s) = s.rst.phase := by
  simp only [execCaskCopyBackDone, State.setB_phase, Out.phase_next]
@[simp] theorem State.lrsGo_phase (s : State) : (State.lrsGo s).rst.phase = s.rst.phase := by
  simp only [State.lrsGo, State.setB_phase, State.withCask_phase, State.phase_ite, ite_self]
theorem execCaskLrsgo_phase (s : State) : Out.phase s.rst.phase (execCaskLrsgo s) = s.rst.phase := by
  simp only [execCaskLrsgo, State.lrsGo_phase, Out.phase_next]
@[simp] theorem State.lrsOwn_phase (s : State) (first : Bool) (kind : Nat) (data : List Word) : (State.lrsOwn s first kind data).rst.phase = s.rst.phase := by
  simp only [State.lrsOwn, State.withCask_phase, State.phase_ite, ite_self]
@[simp] theorem State.seqNext_phase (s : State) : (State.seqNext s).rst.phase = s.rst.phase := by
  simp only [State.seqNext, State.nvmPush_phase, State.setB_phase, State.withCask_phase, State.phase_ite, ite_self]
theorem execLrsRecordIssue_phase (s : State) : Out.phase s.rst.phase (execLrsRecordIssue s) = s.rst.phase := by
  simp only [execLrsRecordIssue]
  repeat' first | with_reducible rfl | simp only [State.dgramAdd_phase, State.line_phase, State.seqNext_phase, State.withCask_phase, State.withWort_phase, State.phase_ite, ite_self, Out.phase_next, Out.phase_ite] | split
@[simp] theorem State.applyDone_phase (s : State) : (State.applyDone s).rst.phase = s.rst.phase := by
  simp only [State.applyDone, State.caskActivate_phase, State.logEvent_phase, State.lrsOwn_phase, State.setB_phase, State.withNvm_phase, State.phase_ite, ite_self]
@[simp] theorem State.caskBoundary_phase (s : State) : (State.caskBoundary s).rst.phase = s.rst.phase := by
  simp only [State.caskBoundary, State.lrsOwn_phase, State.raise_phase, State.setB_phase, State.phase_ite, ite_self]
@[simp] theorem State.serviceEnter_phase (s : State) : (State.serviceEnter s).rst.phase = s.rst.phase := by
  simp only [State.serviceEnter, State.withCask_phase]
@[simp] theorem State.serviceLeave_phase (s : State) : (State.serviceLeave s).rst.phase = s.rst.phase := by
  simp only [State.serviceLeave, State.lrsOwn_phase, State.phase_ite, ite_self]
  repeat' first | with_reducible rfl | simp only [State.caskRefuse_phase, State.withNvm_phase] | split | refine (foldl_phase _ (fun s x => ?_) _ _).trans ?_
@[simp] theorem State.caskCommit_phase (s : State) : (State.caskCommit s).rst.phase = s.rst.phase := by
  simp only [State.caskCommit, State.caskActivate_phase, State.lrsOwn_phase, State.nvmPush_phase, State.setB_phase, State.withCask_phase, State.phase_ite, ite_self]

/-! ## Dsp -/

@[simp] theorem State.setCore_phase (s : State) (c : Nat) (x : CoreSt) : (State.setCore s c x).rst.phase = s.rst.phase := by
  simp only [State.setCore, State.withCores_phase]
@[simp] theorem State.modCore_phase (s : State) (c : Nat) (g : CoreSt → CoreSt) : (State.modCore s c g).rst.phase = s.rst.phase := by
  simp only [State.modCore, State.setCore_phase]
@[simp] theorem State.coreCycles_phase (s : State) (c n5 : Nat) : (State.coreCycles s c n5).rst.phase = s.rst.phase := by
  simp only [State.coreCycles, State.line_phase, State.setCore_phase, State.phase_ite, ite_self]
@[simp] theorem State.coreTick_phase (s : State) : (State.coreTick s).rst.phase = s.rst.phase := by
  simp only [State.coreTick, State.coreCycles_phase]
theorem execTimerCompareMatch_phase (c : Nat) (s : State) : Out.phase s.rst.phase (execTimerCompareMatch c s) = s.rst.phase := by
  simp only [execTimerCompareMatch, State.coreCycles_phase, State.phase_ite, ite_self, Out.phase_next]
@[simp] theorem State.wdtReload_phase (s : State) (c : Nat) : (State.wdtReload s c).rst.phase = s.rst.phase := by
  simp only [State.wdtReload, State.setF_phase]
@[simp] theorem State.wdtExpire_phase (s : State) (c : Nat) : (State.wdtExpire s c).rst.phase = s.rst.phase := by
  simp only [State.wdtExpire, State.raiseReset_phase, State.wdtReload_phase]
@[simp] theorem State.wdtTick_phase (s : State) (c : Nat) : (State.wdtTick s c).rst.phase = s.rst.phase := by
  simp only [State.wdtTick, State.setF_phase, State.wdtExpire_phase, State.phase_ite, ite_self]
@[simp] theorem State.wdtKick_phase (s : State) (c : Nat) (v : Word) : (State.wdtKick s c v).rst.phase = s.rst.phase := by
  simp only [State.wdtKick, State.wdtExpire_phase, State.wdtReload_phase, State.phase_ite, ite_self]
theorem execWdtkick_phase (c : Nat) (v : Word) (s : State) : Out.phase s.rst.phase (execWdtkick c v s) = s.rst.phase := by
  simp only [execWdtkick, State.wdtKick_phase, State.phase_ite, ite_self, Out.phase_next]
@[simp] theorem State.coreStart_phase (s : State) (c cause : Nat) : (State.coreStart s c cause).rst.phase = s.rst.phase := by
  simp only [State.coreStart, State.setCore_phase, State.setF_phase, State.wdtReload_phase, State.withLines_phase, State.phase_ite, ite_self]
theorem execDspCoreStart_phase (c cause : Nat) (s : State) : Out.phase s.rst.phase (execDspCoreStart c cause s) = s.rst.phase := by
  simp only [execDspCoreStart, State.coreStart_phase, State.phase_ite, ite_self, Out.phase_next]
@[simp] theorem State.clearData_phase (s : State) (c : Nat) : (State.clearData s c).rst.phase = s.rst.phase := by
  simp only [State.clearData]
@[simp] theorem State.dspReset_phase (s : State) (c : Nat) : (State.dspReset s c).rst.phase = s.rst.phase := by
  simp only [State.dspReset]
  repeat' first | with_reducible rfl | simp only [State.clearData_phase, State.rset_phase, State.setCore_phase, State.withLines_phase] | split | refine (foldl_phase _ (fun s x => ?_) _ _).trans ?_
@[simp] theorem State.corePark_phase (s : State) (c : Nat) : (State.corePark s c).rst.phase = s.rst.phase := by
  simp only [State.corePark, State.modCore_phase, State.phase_ite, ite_self]
@[simp] theorem State.mbox7_phase (s : State) (c : Nat) (v : Word) : (State.mbox7 s c v).rst.phase = s.rst.phase := by
  simp only [State.mbox7, State.line_phase, State.rset_phase]
theorem execMbox7Write_phase (c : Nat) (v : Word) (s : State) : Out.phase s.rst.phase (execMbox7Write c v s) = s.rst.phase := by
  simp only [execMbox7Write, State.mbox7_phase, State.phase_ite, ite_self, Out.phase_next]
@[simp] theorem State.dspCe_phase (s : State) (c a : Nat) : (State.dspCe s c a).rst.phase = s.rst.phase := by
  simp only [State.dspCe, State.incSat_phase, State.raise_phase, State.setF_phase]
@[simp] theorem State.dspUe_phase (s : State) (c a : Nat) : (State.dspUe s c a).rst.phase = s.rst.phase := by
  simp only [State.dspUe, State.incSat_phase, State.logEvent_phase, State.raise_phase, State.setF_phase]
@[simp] theorem State.tapReserve_phase (s : State) (c : Nat) (i : ColInfo) : (State.tapReserve s c i).rst.phase = s.rst.phase := by
  simp only [State.tapReserve, State.fresh_phase, State.incSat_phase, State.line_phase, State.modCore_phase, State.raise_phase, State.phase_ite, ite_self]
@[simp] theorem State.tapWord_phase (s : State) (c : Nat) (w : Word) : (State.tapWord s c w).rst.phase = s.rst.phase := by
  simp only [State.tapWord, State.msetW_phase, State.setF_phase]
@[simp] theorem State.tapWrite_phase (s : State) (c : Nat) : (State.tapWrite s c).rst.phase = s.rst.phase := by
  simp only [State.tapWrite]
  repeat' first | with_reducible rfl | simp only [State.line_phase, State.modCore_phase, State.tapWord_phase] | split | refine (foldl_phase _ (fun s x => ?_) _ _).trans ?_
theorem execTapColumnDone_phase (c : Nat) (s : State) : Out.phase s.rst.phase (execTapColumnDone c s) = s.rst.phase := by
  simp only [execTapColumnDone, Out.phase_next]
  repeat' first | with_reducible rfl | simp only [State.tapWrite_phase, State.phase_ite, ite_self] | split
@[simp] theorem State.tapFlush_phase (s : State) (m : Nat) : (State.tapFlush s m).rst.phase = s.rst.phase := by
  simp only [State.tapFlush]
  repeat' first | with_reducible rfl | simp only [State.tapWrite_phase, State.phase_ite, ite_self] | split | refine (foldl_phase _ (fun s x => ?_) _ _).trans ?_
@[simp] theorem State.dmaGo_phase (s : State) (n : Nat) : (State.dmaGo s n).rst.phase = s.rst.phase := by
  simp only [State.dmaGo, State.setB_phase, State.withDma_phase, State.phase_ite, ite_self]
theorem execDmaGo_phase (n : Nat) (s : State) : Out.phase s.rst.phase (execDmaGo n s) = s.rst.phase := by
  simp only [execDmaGo, State.dmaGo_phase, State.phase_ite, ite_self, Out.phase_next]
@[simp] theorem State.dmaReset_phase (s : State) (n : Nat) : (State.dmaReset s n).rst.phase = s.rst.phase := by
  simp only [State.dmaReset, State.setF_phase, State.withDma_phase]

/-! ## Guard -/

@[simp] theorem State.rebuildBearing_phase (s : State) : (State.rebuildBearing s).rst.phase = s.rst.phase := by
  simp only [State.rebuildBearing, State.withGuard_phase]
@[simp] theorem State.guardColumn_phase (s : State) (m az n : Nat) (inh : Bool) : (State.guardColumn s m az n inh).rst.phase = s.rst.phase := by
  simp only [State.guardColumn, State.raiseIf_phase, State.setB_phase, State.withGuard_phase, State.phase_ite, ite_self]
@[simp] theorem State.guardTrigger_phase (s : State) (az : Nat) : (State.guardTrigger s az).rst.phase = s.rst.phase := by
  simp only [State.guardTrigger, State.intrude_phase, State.phase_ite, ite_self]
@[simp] theorem State.guardOutcome_phase (s : State) (m : Nat) (field prot unev warn : Bool) (shots : Nat) : (State.guardOutcome s m field prot unev warn shots).rst.phase = s.rst.phase := by
  simp only [State.guardOutcome]
  repeat' first | with_reducible rfl | simp only [State.intrude_phase, State.withGuard_phase, State.phase_ite, ite_self] | split
@[simp] theorem State.guardColDone_phase (s : State) (m : Nat) : (State.guardColDone s m).rst.phase = s.rst.phase := by
  simp only [State.guardColDone]
  repeat' first | with_reducible rfl | simp only [State.setGsweep_phase, State.withGuard_phase] | split
@[simp] theorem State.guardSweepEnd_phase (s : State) (n : Nat) (whole : Bool) : (State.guardSweepEnd s n whole).rst.phase = s.rst.phase := by
  simp only [State.guardSweepEnd, State.incSat_phase, State.setB_phase, State.setF_phase, State.withGuard_phase, State.phase_ite, ite_self]
@[simp] theorem State.guardSweepBegin_phase (s : State) : (State.guardSweepBegin s).rst.phase = s.rst.phase := by
  simp only [State.guardSweepBegin, State.setGsweep_phase, State.phase_ite, ite_self]
@[simp] theorem State.guardScanEntry_phase (s : State) : (State.guardScanEntry s).rst.phase = s.rst.phase := by
  simp only [State.guardScanEntry, State.guardInhibit_phase, State.setB_phase, State.setF_phase, State.withGuard_phase, State.phase_ite, ite_self]
theorem execEnEdge_phase (ch : Nat) (level : Bool) (s : State) : Out.phase s.rst.phase (execEnEdge ch level s) = s.rst.phase := by
  simp only [execEnEdge, State.guardFollow_phase, State.withGuard_phase, Out.phase_next]
@[simp] theorem State.discLatch_phase (s : State) : (State.discLatch s).rst.phase = s.rst.phase := by
  simp only [State.discLatch, State.guardFollow_phase, State.incSat_phase, State.logEvent_phase, State.raise_phase, State.setB_phase, State.withGuard_phase]
@[simp] theorem State.discTick_phase (s : State) : (State.discTick s).rst.phase = s.rst.phase := by
  simp only [State.discTick, State.setB_phase, State.phase_ite, ite_self]
  repeat' first | with_reducible rfl | simp only [State.discLatch_phase, State.withGuard_phase, State.phase_ite, ite_self] | split
@[simp] theorem State.restartTick_phase (s : State) : (State.restartTick s).rst.phase = s.rst.phase := by
  simp only [State.restartTick, State.setB_phase, State.withGuard_phase, State.phase_ite, ite_self]
theorem execGuardOutputsOn_phase (s : State) : Out.phase s.rst.phase (execGuardOutputsOn s) = s.rst.phase := by
  simp only [execGuardOutputsOn, State.setB_phase, State.soutFault_phase, State.withGuard_phase, ite_self, Out.phase_next, Out.phase_ite]
theorem execOffPulseStart_phase (s : State) : Out.phase s.rst.phase (execOffPulseStart s) = s.rst.phase := by
  simp only [execOffPulseStart, State.withGuard_phase, ite_self, Out.phase_next, Out.phase_ite]
@[simp] theorem State.setRb_phase (s : State) (rbA rbB : Bool) : (State.setRb s rbA rbB).rst.phase = s.rst.phase := by
  simp only [State.setRb, State.setB_phase]
theorem execOffPulseEnd_phase (rbA rbB : Bool) (s : State) : Out.phase s.rst.phase (execOffPulseEnd rbA rbB s) = s.rst.phase := by
  simp only [execOffPulseEnd]
  repeat' first | with_reducible rfl | simp only [State.setRb_phase, State.soutFault_phase, State.withGuard_phase, ite_self, Out.phase_next, Out.phase_ite] | split
theorem execReadbackSample_phase (rbA rbB limA limB : Bool) (s : State) : Out.phase s.rst.phase (execReadbackSample rbA rbB limA limB s) = s.rst.phase := by
  simp only [execReadbackSample]
  repeat' first | with_reducible rfl | simp only [State.setRb_phase, State.soutFault_phase, State.withGuard_phase, Out.phase_next] | split
theorem execEdmTimeout_phase (s : State) : Out.phase s.rst.phase (execEdmTimeout s) = s.rst.phase := by
  simp only [execEdmTimeout, State.soutFault_phase, State.withGuard_phase, ite_self, Out.phase_next, Out.phase_ite]
theorem execEdmLevelChange_phase (level : Bool) (s : State) : Out.phase s.rst.phase (execEdmLevelChange level s) = s.rst.phase := by
  simp only [execEdmLevelChange, State.setB_phase, State.soutFault_phase, State.withGuard_phase, ite_self, Out.phase_next, Out.phase_ite]
theorem execSoutStageTrip_phase (s : State) : Out.phase s.rst.phase (execSoutStageTrip s) = s.rst.phase := by
  simp only [execSoutStageTrip, State.logEvent_phase, State.raise_phase, State.soutOff_phase, ite_self, Out.phase_next, Out.phase_ite]
@[simp] theorem State.crcErr_phase (s : State) : (State.crcErr s).rst.phase = s.rst.phase := by
  simp only [State.crcErr, State.logEvent_phase, State.raise_phase, State.setB_phase, State.soutOff_phase, State.phase_ite, ite_self]
theorem execGuardCrcPass_phase (ue : Option Nat) (s : State) : Out.phase s.rst.phase (execGuardCrcPass ue s) = s.rst.phase := by
  simp only [execGuardCrcPass, Out.phase_next, Out.phase_ite]
  repeat' first | with_reducible rfl | simp only [State.crcErr_phase, State.logEvent_phase, State.raise_phase, State.rset_phase, State.phase_ite, ite_self, Out.phase_next] | split
@[simp] theorem State.changeBegin_phase (s : State) : (State.changeBegin s).rst.phase = s.rst.phase := by
  simp only [State.changeBegin, State.setB_phase, State.withGuard_phase]
@[simp] theorem State.changeWord_phase (s : State) (a : Nat) (v : Word) : (State.changeWord s a v).rst.phase = s.rst.phase := by
  simp only [State.changeWord, State.msetW_phase, State.rset_phase, State.setB_phase, State.withGuard_phase, State.phase_ite, ite_self]
@[simp] theorem State.changeCommit_phase (s : State) (uid : Nat) : (State.changeCommit s uid).rst.phase = s.rst.phase := by
  simp only [State.changeCommit, State.nvmPush_phase, State.rebuildBearing_phase, State.rset_phase]
@[simp] theorem State.changeCommitted_phase (s : State) : (State.changeCommitted s).rst.phase = s.rst.phase := by
  simp only [State.changeCommitted, State.rset_phase, State.setB_phase]
@[simp] theorem State.changeAbort_phase (s : State) (uid : Nat) : (State.changeAbort s uid).1.rst.phase = s.rst.phase := by
  simp only [State.changeAbort, State.nvmPush_phase, State.rset_phase, State.setB_phase, State.phase_ite, ite_self, apply_ite Prod.fst]

/-! ## Column -/

@[simp] theorem State.latchColumn_phase (s : State) : (State.latchColumn s).rst.phase = s.rst.phase := by
  simp only [State.latchColumn, State.withEff_phase]
@[simp] theorem State.kilnLast_phase (s : State) (g : Grant) (st : Nat) : (State.kilnLast s g st).rst.phase = s.rst.phase := by
  simp only [State.kilnLast, State.rset_phase, State.setF_phase]
@[simp] theorem State.closeColumn_phase (s : State) (t : Nat) (ends : Bool) (fue : List Nat) : (State.closeColumn s t ends fue).rst.phase = s.rst.phase := by
  simp only [State.closeColumn]
  repeat' first | with_reducible rfl | simp only [State.caskBoundary_phase, State.closeAmb_phase, State.dropPlanned_phase, State.guardColumn_phase, State.kilnLast_phase, State.withScan_phase, State.phase_ite, ite_self] | split
@[simp] theorem State.dropOldest_phase (s : State) : (State.dropOldest s).rst.phase = s.rst.phase := by
  simp only [State.dropOldest]
  repeat' first | with_reducible rfl | simp only [State.tapFlush_phase, State.wortForget_phase] | split
@[simp] theorem State.finishClose_phase (s : State) : (State.finishClose s).rst.phase = s.rst.phase := by
  simp only [State.finishClose]
  repeat' first | with_reducible rfl | simp only [State.admitCol_phase, State.dropOldest_phase, State.lauLatch_phase, State.line_phase, State.tapReserve_phase, State.withScan_phase] | split
@[simp] theorem State.columnSwap_phase (s : State) (t : Nat) (g : Grant) : (State.columnSwap s t g).rst.phase = s.rst.phase := by
  simp only [State.columnSwap, State.finishClose_phase, State.mashTrigger_phase, State.phase_ite, ite_self]
@[simp] theorem State.openColumn_phase (s : State) (t : Nat) (g : Grant) : (State.openColumn s t g).rst.phase = s.rst.phase := by
  simp only [State.openColumn]
  repeat' first | with_reducible rfl | simp only [State.beginString_phase, State.reduceEntry_phase, State.withScan_phase, State.withWort_phase] | split | refine (foldl_phase _ (fun s x => ?_) _ _).trans ?_
@[simp] theorem State.grantAt_phase (s : State) (az : Nat) (rest : List (Nat × Bool)) (t now : Nat) (bad : List Nat) : (State.grantAt s az rest t now bad).rst.phase = s.rst.phase := by
  unfold State.grantAt
  repeat' first | with_reducible rfl | simp only [State.eyeTargets_phase, State.grantFor_phase] | split
@[simp] theorem State.fireTrigger_phase (s : State) (t az : Nat) (rest : List (Nat × Bool)) (bad fue : List Nat) (late : Bool) : (State.fireTrigger s t az rest bad fue late).rst.phase = s.rst.phase := by
  simp only [State.fireTrigger]
  repeat' first | with_reducible rfl | simp only [State.closeColumn_phase, State.columnSwap_phase, State.grantAt_phase, State.guardTrigger_phase, State.incSat_phase, State.latchColumn_phase, State.openColumn_phase, State.raise_phase, State.withScan_phase, State.phase_ite, ite_self] | split
@[simp] theorem State.skipTarget_phase (s : State) (x : Nat × Bool) : (State.skipTarget s x).rst.phase = s.rst.phase := by
  simp only [State.skipTarget, State.guardSkip_phase, State.skipCount_phase, State.withScan_phase, State.wortSkip_phase]
@[simp] theorem State.latePass_phase (s : State) (t : Nat) (xs : List (Nat × Bool)) (bad fue : List Nat) : (State.latePass s t xs bad fue).rst.phase = s.rst.phase := by
  simp only [State.latePass]
  repeat' first | with_reducible rfl | simp only [State.fireTrigger_phase, State.skipTarget_phase] | split | refine (foldl_phase _ (fun s x => ?_) _ _).trans ?_
@[simp] theorem State.grantNow_phase (s : State) (now : Nat) (bad : List Nat) : (State.grantNow s now bad).rst.phase = s.rst.phase := by
  simp only [State.grantNow]
  repeat' first | with_reducible rfl | simp only [State.eyeTargets_phase, State.grantDue_phase] | split
theorem execMsnsSample_phase (convs : List Conv) (t : Nat) (bad fue : List Nat) (s : State) : Out.phase s.rst.phase (execMsnsSample convs t bad fue s) = s.rst.phase := by
  simp only [execMsnsSample, State.adcEnd_phase, State.grantNow_phase, State.latePass_phase, State.mirrorLoop_phase, State.msnsBase_phase, ite_self, Out.phase_next, Out.phase_ite]
theorem execSweepStart_phase (t : Nat) (s : State) : Out.phase s.rst.phase (execSweepStart t s) = s.rst.phase := by
  simp only [execSweepStart, State.guardSweepBegin_phase, State.lockInterval_phase, State.sweepStart_phase, State.withScan_phase, State.phase_ite, ite_self, Out.phase_next]
  repeat' first | with_reducible rfl | simp only [State.skipTarget_phase] | split | refine (foldl_phase _ (fun s x => ?_) _ _).trans ?_
theorem execStrokeEnd_phase (t : Nat) (s : State) : Out.phase s.rst.phase (execStrokeEnd t s) = s.rst.phase := by
  simp only [execStrokeEnd, State.flybackInject_phase, State.strokeEnd_phase, State.phase_ite, Out.phase_next, Out.phase_ite]
  repeat' first | with_reducible rfl | simp only [State.flybackInject_phase, State.scheduleD_phase, State.skipTarget_phase, State.strokeEnd_phase, State.phase_ite, ite_self] | split | refine (foldl_phase _ (fun s x => ?_) _ _).trans ?_
theorem execKilnGrant_phase (now : Nat) (bad : List Nat) (s : State) : Out.phase s.rst.phase (execKilnGrant now bad s) = s.rst.phase := by
  simp only [execKilnGrant, State.grantNow_phase, Out.phase_next]
theorem execTrigger_phase (t : Nat) (bad fue : List Nat) (s : State) : Out.phase s.rst.phase (execTrigger t bad fue s) = s.rst.phase := by
  simp only [execTrigger, Out.phase_next, Out.phase_ite]
  repeat' first | with_reducible rfl | simp only [State.fireTrigger_phase, State.phase_ite, ite_self, Out.phase_next] | split
theorem execStareTrigger_phase (t : Nat) (bad fue : List Nat) (s : State) : Out.phase s.rst.phase (execStareTrigger t bad fue s) = s.rst.phase := by
  simp only [execStareTrigger, State.fireTrigger_phase, State.guardSweepBegin_phase, State.raiseIf_phase, State.sweepBegin_phase, State.takeRegion_phase, State.withScan_phase, State.phase_ite, ite_self, Out.phase_next, Out.phase_ite]
theorem execHoldoffExpiry_phase (t : Nat) (bad : List Nat) (s : State) (fue : List Nat) : Out.phase s.rst.phase (execHoldoffExpiry t bad s fue) = s.rst.phase := by
  simp only [execHoldoffExpiry, State.grantNow_phase, State.latePass_phase, State.withScan_phase, State.phase_ite, ite_self, Out.phase_next, Out.phase_ite]
theorem execTunClearDone_phase (t : Nat) (bad fue : List Nat) (s : State) : Out.phase s.rst.phase (execTunClearDone t bad fue s) = s.rst.phase := by
  simp only [execTunClearDone, State.grantNow_phase, State.latePass_phase, State.setB_phase, State.withScan_phase, State.phase_ite, ite_self, Out.phase_next, Out.phase_ite]
@[simp] theorem State.shotFired_phase (s : State) (n t : Nat) (y : NextShot) : (State.shotFired s n t y).rst.phase = s.rst.phase := by
  simp only [State.shotFired, State.adcFired_phase, State.chargeCells_phase, State.chargeModels_phase, State.emxRelatch_phase, State.incMod_phase, State.setStr_phase, State.withPins_phase]
@[simp] theorem State.plannedFired_phase (s : State) (n i t : Nat) (y : NextShot) : (State.plannedFired s n i t y).rst.phase = s.rst.phase := by
  simp only [State.plannedFired]
  repeat' first | with_reducible rfl | simp only [State.openWindow_phase, State.reduceEntry_phase, State.spend_phase, State.withEmit_phase, State.withScan_phase, State.phase_ite, ite_self] | split | refine (foldl_phase _ (fun s x => ?_) _ _).trans ?_
@[simp] theorem State.plannedOver_phase (s : State) (n : Nat) (y : NextShot) : (State.plannedOver s n y).rst.phase = s.rst.phase := by
  simp only [State.plannedOver, State.scheduleD_phase, State.setF_phase, State.setStr_phase]
theorem execFire_phase (n t : Nat) (s : State) : Out.phase s.rst.phase (execFire n t s) = s.rst.phase := by
  simp only [execFire]
  repeat' first | with_reducible rfl | simp only [State.isoPlace_phase, State.plannedFired_phase, State.plannedOver_phase, State.raiseIf_phase, State.reduceEntry_phase, State.scheduleD_phase, State.setStr_phase, State.shotFired_phase, State.phase_ite, ite_self, Out.phase_next, Out.phase_ite] | split
theorem execClusterPowerOn_phase (k : Nat) (s : State) (t : Nat) : Out.phase s.rst.phase (execClusterPowerOn k s t) = s.rst.phase := by
  simp only [execClusterPowerOn, State.spend_phase, State.withScan_phase, ite_self, Out.phase_next, Out.phase_ite]
theorem execClusterPowerOff_phase (k : Nat) (s : State) (t : Nat) : Out.phase s.rst.phase (execClusterPowerOff k s t) = s.rst.phase := by
  simp only [execClusterPowerOff, State.closeExpired_phase, State.withScan_phase, ite_self, Out.phase_next, Out.phase_ite]
@[simp] theorem State.outcome_phase (s : State) (m c : Nat) (o : FieldOut) (shots : Nat) : (State.outcome s m c o shots).rst.phase = s.rst.phase := by
  simp only [State.outcome, State.guardOutcome_phase]
@[simp] theorem State.columnDone_phase (s : State) (m : Nat) : (State.columnDone s m).rst.phase = s.rst.phase := by
  simp only [State.columnDone, State.guardColDone_phase, State.guardSweepEnd_phase, State.lauSummary_phase, State.phase_ite, ite_self]
@[simp] theorem State.closeHist_phase (s : State) (c : Nat) (errs : List (Nat × Bool)) : (State.closeHist s c errs).rst.phase = s.rst.phase := by
  simp only [State.closeHist, State.lauOutcome_phase, State.outcome_phase, State.spargeHist_phase, State.wortDone_phase, State.phase_ite, ite_self]
theorem execHistogramClose_phase (j : Nat) (errs : List (Nat × Nat × Bool)) (s : State) : Out.phase s.rst.phase (execHistogramClose j errs s) = s.rst.phase := by
  simp only [execHistogramClose, State.columnDone_phase, State.withMash_phase, Out.phase_next, Out.phase_ite]
  repeat' first | with_reducible rfl | simp only [State.closeHist_phase] | split | refine (foldl_phase _ (fun s x => ?_) _ _).trans ?_
theorem execLauterExtractDone_phase (c : Nat) (s : State) : Out.phase s.rst.phase (execLauterExtractDone c s) = s.rst.phase := by
  simp only [execLauterExtractDone]
  repeat' first | with_reducible rfl | simp only [State.columnDone_phase, State.lauExtract_phase, State.outcome_phase, State.wortDone_phase, Out.phase_next] | split
theorem execSpargeEnd_phase (t : Nat) (s : State) : Out.phase s.rst.phase (execSpargeEnd t s) = s.rst.phase := by
  simp only [execSpargeEnd, State.finishClose_phase, State.spargeEnd_phase, State.phase_ite, ite_self, Out.phase_next, Out.phase_ite]

/-! ## Modes -/

@[simp] theorem State.endSession_phase (s : State) : (State.endSession s).rst.phase = s.rst.phase := by
  simp only [State.endSession]
  repeat' first | with_reducible rfl | simp only [State.changeAbort_phase, State.withAmp_phase, State.phase_ite, ite_self] | split
@[simp] theorem State.pllaFollow_phase (s : State) : (State.pllaFollow s).rst.phase = s.rst.phase := by
  simp only [State.pllaFollow, State.setB_phase, State.phase_ite, ite_self]
@[simp] theorem State.lockFollow_phase (s : State) : (State.lockFollow s).rst.phase = s.rst.phase := by
  simp only [State.lockFollow, State.setB_phase, State.withScan_phase, State.phase_ite, ite_self]
@[simp] theorem State.toState_phase (s : State) (d : Dev) : (State.toState s d).rst.phase = s.rst.phase := by
  simp only [State.toState, State.endSession_phase, State.guardFollow_phase, State.lockFollow_phase, State.pllaFollow_phase, State.serviceEnter_phase, State.serviceLeave_phase, State.setB_phase, State.setDev_phase, State.vspadFollow_phase, State.phase_ite, ite_self]
@[simp] theorem State.seedLfsrs_phase (s : State) : (State.seedLfsrs s).rst.phase = s.rst.phase := by
  simp only [State.seedLfsrs]
  repeat' first | with_reducible rfl | simp only [State.raise_phase, State.setF_phase, State.phase_ite, ite_self] | split | refine (foldl_phase _ (fun s x => ?_) _ _).trans ?_
@[simp] theorem State.dropColumns_phase (s : State) : (State.dropColumns s).rst.phase = s.rst.phase := by
  simp only [State.dropColumns, State.withLau_phase]
  repeat' first | with_reducible rfl | simp only [State.tapFlush_phase, State.wortForget_phase] | split | refine (foldl_phase _ (fun s x => ?_) _ _).trans ?_
@[simp] theorem State.scanEnter_phase (s : State) (t : Nat) : (State.scanEnter s t).rst.phase = s.rst.phase := by
  simp only [State.scanEnter, State.guardScanEntry_phase, State.toState_phase]
  repeat' first | with_reducible rfl | simp only [State.dropColumns_phase, State.groupRun_phase, State.latchColumn_phase, State.seedLfsrs_phase, State.setB_phase, State.setStr_phase, State.takeRegion_phase, State.tunClear_phase, State.withScan_phase, State.wortScan_phase, State.withRst_phase] | split | refine (foldl_phase _ (fun s x => ?_) _ _).trans ?_
theorem execScanEntry_phase (t : Nat) (s : State) : Out.phase s.rst.phase (execScanEntry t s) = s.rst.phase := by
  simp only [execScanEntry, State.scanEnter_phase, ite_self, Out.phase_next, Out.phase_ite]
@[simp] theorem State.emitIdle_phase (s : State) : (State.emitIdle s).rst.phase = s.rst.phase := by
  simp only [State.emitIdle, State.withEmit_phase, State.withMash_phase]
@[simp] theorem State.scanIdle_phase (s : State) : (State.scanIdle s).rst.phase = s.rst.phase := by
  simp only [State.scanIdle, State.emitIdle_phase]
  repeat' first | with_reducible rfl | simp only [State.followInhibit_phase, State.setB_phase, State.setStr_phase, State.withScan_phase] | split | refine (foldl_phase _ (fun s x => ?_) _ _).trans ?_
@[simp] theorem State.emxOff_phase (s : State) : (State.emxOff s).rst.phase = s.rst.phase := by
  simp only [State.emxOff, State.withEmit_phase]
@[simp] theorem State.scanOff_phase (s : State) (t : Nat) (zero : Bool) : (State.scanOff s t zero).rst.phase = s.rst.phase := by
  simp only [State.scanOff, State.closeColumn_phase, State.columnSwap_phase, State.emxOff_phase, State.emxSendZero_phase, State.hzdAssert_phase, State.latchColumn_phase, State.scanIdle_phase, State.phase_ite, ite_self]
theorem execScanLeave_phase (t : Nat) (s : State) : Out.phase s.rst.phase (execScanLeave t s) = s.rst.phase := by
  simp only [execScanLeave, State.scanOff_phase, State.toState_phase, ite_self, Out.phase_next, Out.phase_ite]
@[simp] theorem State.enterSafe_phase (s : State) (bit : Nat) : (State.enterSafe s bit).rst.phase = s.rst.phase := by
  simp only [State.enterSafe, State.logEvent_phase, State.scanOff_phase, State.setF_phase, State.toState_phase, State.withPins_phase, State.withScan_phase, State.phase_ite, ite_self]
theorem execEmxFrameConfirm_phase (t : Nat) (echo : BitVec 76) (status : BitVec 8) (s : State) : Out.phase s.rst.phase (execEmxFrameConfirm t echo status s) = s.rst.phase := by
  simp only [execEmxFrameConfirm]
  repeat' first | with_reducible rfl | simp only [State.emxSend_phase, State.enterSafe_phase, State.incSat_phase, State.logEvent_phase, State.raise_phase, State.setStr_phase, State.withEmit_phase, State.phase_ite, ite_self, Out.phase_next, Out.phase_ite] | split | refine (foldl_phase _ (fun s x => ?_) _ _).trans ?_
@[simp] theorem State.pinTestStart_phase (s : State) : (State.pinTestStart s).rst.phase = s.rst.phase := by
  simp only [State.pinTestStart, State.setB_phase]
theorem execParkEnter_phase (t : Nat) (s : State) : Out.phase s.rst.phase (execParkEnter t s) = s.rst.phase := by
  simp only [execParkEnter, State.endSession_phase, State.pinTestStart_phase, State.scanOff_phase, State.toState_phase, State.withPins_phase, State.withScan_phase, State.phase_ite, ite_self, Out.phase_next, Out.phase_ite]
@[simp] theorem State.loopsPark_phase (s : State) : (State.loopsPark s).rst.phase = s.rst.phase := by
  simp only [State.loopsPark]
  repeat' first | with_reducible rfl | simp only [State.loopRun_phase] | split | refine (foldl_phase _ (fun s x => ?_) _ _).trans ?_
@[simp] theorem State.parkEnter_phase (s : State) : (State.parkEnter s).rst.phase = s.rst.phase := by
  simp only [State.parkEnter, State.corePark_phase, State.loopsPark_phase, State.setB_phase, State.timeInvalid_phase, State.tinPark_phase, State.toState_phase, State.withHists_phase, State.withMash_phase, State.withPins_phase, State.withScan_phase, State.withTun_phase, State.withRst_phase]
theorem execSealNChange_phase (low : Bool) (s : State) : Out.phase s.rst.phase (execSealNChange low s) = s.rst.phase := by
  simp only [execSealNChange, State.toState_phase, State.withPins_phase, State.phase_ite, ite_self, Out.phase_next]
theorem execPllaLossOfLock_phase (s : State) : Out.phase s.rst.phase (execPllaLossOfLock s) = s.rst.phase := by
  simp only [execPllaLossOfLock, State.mashInvalid_phase, State.raise_phase, State.setB_phase, State.withEmit_phase, State.phase_ite, ite_self, Out.phase_next, Out.phase_ite]
theorem execPllaRelockTimeout_phase (s : State) : Out.phase s.rst.phase (execPllaRelockTimeout s) = s.rst.phase := by
  simp only [execPllaRelockTimeout, State.raiseReset_phase, State.phase_ite, ite_self, Out.phase_next]
theorem execPllbLossOfLock_phase (s : State) : Out.phase s.rst.phase (execPllbLossOfLock s) = s.rst.phase := by
  simp only [execPllbLossOfLock, State.raise_phase, State.raiseReset_phase, State.setB_phase, ite_self, Out.phase_next, Out.phase_ite]
theorem execTdcBootRunEnd_phase (hits : List (Nat × List Nat)) (s : State) : Out.phase s.rst.phase (execTdcBootRunEnd hits s) = s.rst.phase := by
  simp only [execTdcBootRunEnd, State.bootRunEnd_phase, State.pllaFollow_phase, State.vspadFollow_phase, State.phase_ite, ite_self, Out.phase_next]
theorem execRxCalRun_phase (s : State) : Out.phase s.rst.phase (execRxCalRun s) = s.rst.phase := by
  simp only [execRxCalRun, State.calRun_phase, Out.phase_next]
@[simp] theorem State.msTick_phase (s : State) : (State.msTick s).rst.phase = s.rst.phase := by
  simp only [State.msTick, State.discTick_phase, State.restartTick_phase, State.wdtTick_phase, State.withMs_phase]
theorem execEnDiscSample_phase (s : State) : Out.phase s.rst.phase (execEnDiscSample s) = s.rst.phase := by
  simp only [execEnDiscSample, State.msTick_phase, Out.phase_next]
@[simp] theorem State.msTicks_phase (n : Nat) (s : State) : (State.msTicks n s).rst.phase = s.rst.phase := by
  induction n generalizing s with
  | zero => rfl
  | succ n ih => rw [State.msTicks, ih, State.msTick_phase]
theorem execWdtExpiry_phase (c : Nat) (s : State) : Out.phase s.rst.phase (execWdtExpiry c s) = s.rst.phase := by
  simp only [execWdtExpiry, State.msTicks_phase, State.phase_ite, ite_self, Out.phase_next]

/-! ## Flash -/

@[simp] theorem State.flCmd_phase (s : State) (cmd : Nat) : (State.flCmd s cmd).rst.phase = s.rst.phase := by
  simp only [State.flCmd, State.raise_phase, State.setB_phase, State.withFlOp_phase, State.phase_ite, ite_self]
theorem execFlCmdErase_phase (s : State) : Out.phase s.rst.phase (execFlCmdErase s) = s.rst.phase := by
  simp only [execFlCmdErase, State.flCmd_phase, Out.phase_next]
theorem execFlCmdProgram_phase (s : State) : Out.phase s.rst.phase (execFlCmdProgram s) = s.rst.phase := by
  simp only [execFlCmdProgram, State.flCmd_phase, Out.phase_next]
theorem execFlCmdRead_phase (s : State) : Out.phase s.rst.phase (execFlCmdRead s) = s.rst.phase := by
  simp only [execFlCmdRead, State.flCmd_phase, Out.phase_next]
@[simp] theorem State.flashDo_phase (s : State) (o : FlashOp) : (State.flashDo s o).rst.phase = s.rst.phase := by
  simp only [State.flashDo]
  repeat' first | with_reducible rfl | simp only [State.rset_phase, State.withFlash_phase] | split | refine (foldl_phase _ (fun s x => ?_) _ _).trans ?_
theorem execFlashCmdDone_phase (left : Option (List Byte)) (s : State) : Out.phase s.rst.phase (execFlashCmdDone left s) = s.rst.phase := by
  simp only [execFlashCmdDone]
  repeat' first | with_reducible rfl | simp only [State.flashDo_phase, State.raise_phase, State.setB_phase, State.withFlOp_phase, State.withFlash_phase, State.phase_ite, ite_self, Out.phase_next] | split
@[simp] theorem State.optCmd_phase (s : State) (key : Word) : (State.optCmd s key).rst.phase = s.rst.phase := by
  simp only [State.optCmd, State.nvmPush_phase, State.raise_phase, State.setB_phase, State.phase_ite, ite_self]
theorem execOptCmd_phase (key : Word) (s : State) : Out.phase s.rst.phase (execOptCmd key s) = s.rst.phase := by
  simp only [execOptCmd, State.optCmd_phase, Out.phase_next]
theorem execEmitLostclr_phase (key : Word) (s : State) : Out.phase s.rst.phase (execEmitLostclr key s) = s.rst.phase := by
  simp only [execEmitLostclr, State.lostClear_phase, Out.phase_next]
theorem execScrubStep_phase (mem a err : Nat) (s : State) : Out.phase s.rst.phase (execScrubStep mem a err s) = s.rst.phase := by
  simp only [execScrubStep, Out.phase_next, Out.phase_ite]
  repeat' first | with_reducible rfl | simp only [State.dspCe_phase, State.dspUe_phase, State.planUe_phase, State.wortCe_phase, State.wortUe_phase, State.phase_ite, ite_self] | split

/-! ## Bus -/

@[simp] theorem State.freeze_phase (s : State) (m a info : Nat) (wr : Bool) : (State.freeze s m a info wr).rst.phase = s.rst.phase := by
  simp only [State.freeze, State.logEvent_phase, State.raise_phase, State.raiseReset_phase, State.rset_phase]
@[simp] theorem State.readEffect_phase (s : State) (a : Nat) : (State.readEffect s a).rst.phase = s.rst.phase := by
  simp only [State.readEffect, State.setEth_phase, State.setF_phase, State.tinPop_phase, State.withAdc_phase, State.phase_ite, ite_self]
@[simp] theorem State.readWord_phase (s : State) (a : Nat) : (State.readWord s a).1.rst.phase = s.rst.phase := by
  simp only [State.readWord, State.readEffect_phase, State.phase_ite, ite_self]
@[simp] theorem State.regStore_phase (s : State) (a : Nat) (v : Word) : (State.regStore s a v).rst.phase = s.rst.phase := by
  simp only [State.regStore]
  repeat' first | with_reducible rfl | simp only [State.rset_phase] | split
@[simp] theorem State.caskStore_phase (s : State) (a : Nat) (v : Word) : (State.caskStore s a v).rst.phase = s.rst.phase := by
  simp only [State.caskStore, State.calcfgWrite_phase, State.caskRefuse_phase, State.phase_ite]
  repeat' first | with_reducible rfl | simp only [State.rset_phase] | split
@[simp] theorem State.scanCtrl_phase (s : State) (v : Word) : (State.scanCtrl s v).rst.phase = s.rst.phase := by
  simp only [State.scanCtrl, State.regStore_phase]
@[simp] theorem State.dmaCtrl_phase (s : State) (n : Nat) (v : Word) : (State.dmaCtrl s n v).rst.phase = s.rst.phase := by
  simp only [State.dmaCtrl, State.dmaGo_phase, State.regStore_phase, State.phase_ite, ite_self]
@[simp] theorem State.ctlCtrl_phase (s : State) (v : Word) : (State.ctlCtrl s v).rst.phase = s.rst.phase := by
  simp only [State.ctlCtrl, State.ctlApply_phase, State.lockFollow_phase, State.regStore_phase, State.phase_ite, ite_self]
@[simp] theorem State.adcSrc_phase (s : State) (k : Nat) (v : Word) : (State.adcSrc s k v).rst.phase = s.rst.phase := by
  simp only [State.adcSrc, State.adcGainWritten_phase, State.regStore_phase]
@[simp] theorem State.adcBg_phase (s : State) (v : Word) : (State.adcBg s v).rst.phase = s.rst.phase := by
  simp only [State.adcBg, State.adcChannelWritten_phase, State.regStore_phase]
@[simp] theorem State.adcReq_phase (s : State) (n : Nat) (v : Word) : (State.adcReq s n v).rst.phase = s.rst.phase := by
  simp only [State.adcReq, State.regStore_phase, State.reqGo_phase, State.phase_ite, ite_self]
@[simp] theorem State.snapCtl_phase (s : State) (v : Word) : (State.snapCtl s v).rst.phase = s.rst.phase := by
  simp only [State.snapCtl, State.regStore_phase, State.snapArm_phase, State.phase_ite, ite_self]
@[simp] theorem State.capCtl_phase (s : State) (v : Word) : (State.capCtl s v).rst.phase = s.rst.phase := by
  simp only [State.capCtl, State.capArm_phase, State.regStore_phase, State.phase_ite, ite_self]
@[simp] theorem State.anchShi_phase (s : State) (v : Word) : (State.anchShi s v).rst.phase = s.rst.phase := by
  simp only [State.anchShi, State.anchorCommit_phase, State.regStore_phase]
@[simp] theorem State.regWrite_phase (s : State) (m a : Nat) (v : Word) : (State.regWrite s m a v).rst.phase = s.rst.phase := by
  simp only [State.regWrite]
  repeat' first | with_reducible rfl | simp only [State.adcBg_phase, State.adcFirWritten_phase, State.adcReq_phase, State.adcSrc_phase, State.anchShi_phase, State.calRun_phase, State.capCtl_phase, State.caskStore_phase, State.ctlCtrl_phase, State.dmaCtrl_phase, State.flCmd_phase, State.lostClear_phase, State.lrsGo_phase, State.mbox7_phase, State.optCmd_phase, State.qpop_phase, State.regStore_phase, State.scanCtrl_phase, State.snapCtl_phase, State.timeCtrlWrite_phase, State.timeIncWrite_phase, State.timeOfsWrite_phase, State.timePpsWrite_phase, State.tinCfgWrite_phase, State.txcmdWrite_phase, State.wdtKick_phase, State.phase_ite, ite_self] | split
@[simp] theorem State.writeWord_phase (s : State) (m a : Nat) (v : Word) : (State.writeWord s m a v).rst.phase = s.rst.phase := by
  simp only [State.writeWord, State.msetW_phase, State.raise_phase, State.regWrite_phase, State.phase_ite, ite_self]
@[simp] theorem State.binFound_phase (s : State) (a e : Nat) : (State.binFound s a e).rst.phase = s.rst.phase := by
  simp only [State.binFound, State.binError_phase]
@[simp] theorem State.memErr_phase (s : State) (a n err : Nat) : (State.memErr s a n err).rst.phase = s.rst.phase := by
  simp only [State.memErr]
  repeat' first | with_reducible rfl | simp only [State.binFound_phase, State.dspCe_phase, State.dspUe_phase, State.phase_ite, ite_self] | split | refine (foldl_phase _ (fun s x => ?_) _ _).trans ?_
@[simp] theorem State.busRead_phase (s : State) (m a : Nat) : (State.busRead s m a).1.rst.phase = s.rst.phase := by
  simp only [State.busRead, State.freeze_phase, State.readWord_phase, State.phase_ite, ite_self, apply_ite Prod.fst]
@[simp] theorem State.busWrite_phase (s : State) (m a : Nat) (v : Word) : (State.busWrite s m a v).rst.phase = s.rst.phase := by
  simp only [State.busWrite, State.freeze_phase, State.writeWord_phase, State.phase_ite, ite_self]
@[simp] theorem State.busReadHalf_phase (s : State) (m a : Nat) : (State.busReadHalf s m a).1.rst.phase = s.rst.phase := by
  simp only [State.busReadHalf, State.busRead_phase]
@[simp] theorem State.busWriteHalf_phase (s : State) (m a : Nat) (v : BitVec 16) : (State.busWriteHalf s m a v).rst.phase = s.rst.phase := by
  simp only [State.busWriteHalf, State.caskRefuse_phase, State.freeze_phase, State.msetH_phase, State.phase_ite, ite_self]
theorem execRegisterWrite_phase (m a : Nat) (v : Word) (s : State) : Out.phase s.rst.phase (execRegisterWrite m a v s) = s.rst.phase := by
  simp only [execRegisterWrite, State.busWrite_phase, ite_self, Out.phase_next, Out.phase_ite]
theorem execMashSnapctlArm_phase (ch : Nat) (s : State) : Out.phase s.rst.phase (execMashSnapctlArm ch s) = s.rst.phase := by
  simp only [execMashSnapctlArm, State.snapArm_phase, State.setF_phase, Out.phase_next]
theorem execRxCapctlArm_phase (s : State) : Out.phase s.rst.phase (execRxCapctlArm s) = s.rst.phase := by
  simp only [execRxCapctlArm, State.capArm_phase, Out.phase_next]
theorem execTinCfgWrite_phase (n : Nat) (v : Word) (s : State) : Out.phase s.rst.phase (execTinCfgWrite n v s) = s.rst.phase := by
  simp only [execTinCfgWrite, State.tinCfgWrite_phase, State.phase_ite, ite_self, Out.phase_next]
theorem execWortAnchShiWrite_phase (v : Word) (s : State) : Out.phase s.rst.phase (execWortAnchShiWrite v s) = s.rst.phase := by
  simp only [execWortAnchShiWrite, State.anchShi_phase, Out.phase_next]
@[simp] theorem State.dmaRead_phase (s : State) (m a err : Nat) : (State.dmaRead s m a err).1.rst.phase = s.rst.phase := by
  simp only [State.dmaRead, State.busRead_phase, State.fresh_phase, State.memErr_phase, State.phase_ite, ite_self, apply_ite Prod.fst]
@[simp] theorem State.dmaMove_phase (s : State) (m : Nat) (j : DmaSt) (n i : Nat) (errs : List Nat) : (s.dmaMove m j n i errs).rst.phase = s.rst.phase := by
  induction n generalizing s i errs with
  | zero => rfl
  | succ n ih =>
    unfold State.dmaMove
    dsimp only
    split
    · exact State.dmaRead_phase _ _ _ _
    · split
      · exact (State.busWrite_phase _ _ _ _).trans (State.dmaRead_phase _ _ _ _)
      · exact (ih _ _ _).trans ((State.busWrite_phase _ _ _ _).trans (State.dmaRead_phase _ _ _ _))
theorem execDmaDone_phase (n : Nat) (s : State) (errs : List Nat) : Out.phase s.rst.phase (execDmaDone n s errs) = s.rst.phase := by
  simp only [execDmaDone]
  repeat' first | with_reducible rfl | simp only [State.line_phase, State.setB_phase, State.withDma_phase, State.dmaMove_phase, State.phase_ite, ite_self, Out.phase_next, Out.phase_ite] | split

/-! ## DspCore -/

@[simp] theorem State.dspExc_phase (s : State) (c v : Nat) : (State.dspExc s c v).rst.phase = s.rst.phase := by
  simp only [State.dspExc, State.raise_phase, State.setCore_phase, State.phase_ite, ite_self]
theorem execDspInterruptEntry_phase (c : Nat) (s : State) : Out.phase s.rst.phase (execDspInterruptEntry c s) = s.rst.phase := by
  simp only [execDspInterruptEntry, Out.phase_next, Out.phase_ite]
  repeat' first | with_reducible rfl | simp only [State.coreCycles_phase, State.setCore_phase, ite_self, Out.phase_next, Out.phase_ite] | split
theorem State.issue_phase (s : State) (c : Nat) (k : IKind) (body : State → Eff) (hb : ∀ t, (body t).st.rst.phase = t.rst.phase) :
    Out.phase s.rst.phase (s.issue c k body) = s.rst.phase := by
  unfold State.issue
  split
  · rfl
  · dsimp only
    split
    · simp only [Out.phase_next, State.dspExc_phase, State.modCore_phase]
    · split
      · rfl
      · split
        · simp only [Out.phase_next, State.dspExc_phase, State.setCore_phase, hb, State.modCore_phase]
        · simp only [Out.phase_next, State.coreCycles_phase, State.setCore_phase, hb, State.modCore_phase]
theorem State.alu_phase (s : State) (c : Nat) (g : CoreSt → CoreSt) : Out.phase s.rst.phase (State.alu s c g) = s.rst.phase := by
  unfold State.alu
  refine State.issue_phase _ _ _ _ (fun t => ?_)
  repeat' first | with_reducible rfl | simp only [State.modCore_phase]
theorem State.aluR_phase (s : State) (c d s' t : Nat) (f : Word → Word → Word) : Out.phase s.rst.phase (State.aluR s c d s' t f) = s.rst.phase := by
  simp only [State.aluR, State.alu_phase]
theorem State.aluI_phase (s : State) (c d s' : Nat) (imm : Word) (f : Word → Word → Word) : Out.phase s.rst.phase (State.aluI s c d s' imm f) = s.rst.phase := by
  simp only [State.aluI, State.alu_phase]
theorem State.branch_phase (s : State) (c s' : Nat) (off : BitVec 19) (p : Int → Bool) : Out.phase s.rst.phase (State.branch s c s' off p) = s.rst.phase := by
  unfold State.branch
  refine State.issue_phase _ _ _ _ (fun t => ?_)
  repeat' first | with_reducible rfl
@[simp] theorem State.loadErr_phase (s : State) (c a size err : Nat) : (State.loadErr s c a size err).1.rst.phase = s.rst.phase := by
  simp only [State.loadErr, State.memErr_phase, State.phase_ite, ite_self, apply_ite Prod.fst]
@[simp] theorem State.loadCycles_phase (s : State) (c a : Nat) : (State.loadCycles s c a).2.rst.phase = s.rst.phase := by
  simp only [State.loadCycles, State.fresh_phase, State.phase_ite, ite_self, apply_ite Prod.snd]
theorem State.load_phase (s : State) (c a mode mc : Nat) (imm : BitVec 10) (size err : Nat) (get : State → Nat → State × Option (List (Nat × Word)))
    (hg : ∀ t ad, (get t ad).1.rst.phase = t.rst.phase) : Out.phase s.rst.phase (s.load c a mode mc imm size err get) = s.rst.phase := by
  unfold State.load
  refine State.issue_phase _ _ _ _ (fun t => ?_)
  dsimp only
  split
  · rfl
  · split
    · rfl
    · split
      · exact State.loadErr_phase _ _ _ _ _
      · split
        · exact (hg _ _).trans (State.loadErr_phase _ _ _ _ _)
        · simp only [State.modCore_phase, State.loadCycles_phase, hg, State.loadErr_phase]
theorem State.store_phase (s : State) (c a mode mc : Nat) (imm : BitVec 10) (size : Nat) (put : State → Nat → State)
    (hp : ∀ t ad, (put t ad).rst.phase = t.rst.phase) : Out.phase s.rst.phase (s.store c a mode mc imm size put) = s.rst.phase := by
  unfold State.store
  refine State.issue_phase _ _ _ _ (fun t => ?_)
  dsimp only
  split
  · rfl
  · split
    · rfl
    · simp only [State.modCore_phase, hp]
@[simp] theorem State.readPair_phase (s : State) (c d ad : Nat) : (State.readPair s c d ad).1.rst.phase = s.rst.phase := by
  simp only [State.readPair]
  repeat' first | with_reducible rfl | simp only [State.busRead_phase] | split
@[simp] theorem State.writePair_phase (s : State) (c ad : Nat) (v w : Word) : (State.writePair s c ad v w).rst.phase = s.rst.phase := by
  simp only [State.writePair, State.busWrite_phase, State.phase_ite, ite_self]
theorem execDspException_phase (c : Nat) (w : Option Word) (s : State) : Out.phase s.rst.phase (execDspException c w s) = s.rst.phase := by
  simp only [execDspException, Out.phase_next, Out.phase_ite]
  repeat' first | with_reducible rfl | simp only [State.dspExc_phase, State.dspUe_phase, State.modCore_phase, Out.phase_next] | split

/-! ## DspInstr -/

theorem execDspAdd_phase (c d s' t : Nat) (s : State) : Out.phase s.rst.phase (execDspAdd c d s' t s) = s.rst.phase := by
  simp only [execDspAdd, State.aluR_phase]
theorem execDspSub_phase (c d s' t : Nat) (s : State) : Out.phase s.rst.phase (execDspSub c d s' t s) = s.rst.phase := by
  simp only [execDspSub, State.aluR_phase]
theorem execDspAdds_phase (c d s' t : Nat) (s : State) : Out.phase s.rst.phase (execDspAdds c d s' t s) = s.rst.phase := by
  simp only [execDspAdds, State.alu_phase]
theorem execDspSubs_phase (c d s' t : Nat) (s : State) : Out.phase s.rst.phase (execDspSubs c d s' t s) = s.rst.phase := by
  simp only [execDspSubs, State.alu_phase]
theorem execDspAnd_phase (c d s' t : Nat) (s : State) : Out.phase s.rst.phase (execDspAnd c d s' t s) = s.rst.phase := by
  simp only [execDspAnd, State.aluR_phase]
theorem execDspOr_phase (c d s' t : Nat) (s : State) : Out.phase s.rst.phase (execDspOr c d s' t s) = s.rst.phase := by
  simp only [execDspOr, State.aluR_phase]
theorem execDspXor_phase (c d s' t : Nat) (s : State) : Out.phase s.rst.phase (execDspXor c d s' t s) = s.rst.phase := by
  simp only [execDspXor, State.aluR_phase]
theorem execDspSll_phase (c d s' t : Nat) (s : State) : Out.phase s.rst.phase (execDspSll c d s' t s) = s.rst.phase := by
  simp only [execDspSll, State.aluR_phase]
theorem execDspSrl_phase (c d s' t : Nat) (s : State) : Out.phase s.rst.phase (execDspSrl c d s' t s) = s.rst.phase := by
  simp only [execDspSrl, State.aluR_phase]
theorem execDspSra_phase (c d s' t : Nat) (s : State) : Out.phase s.rst.phase (execDspSra c d s' t s) = s.rst.phase := by
  simp only [execDspSra, State.aluR_phase]
theorem execDspMin_phase (c d s' t : Nat) (s : State) : Out.phase s.rst.phase (execDspMin c d s' t s) = s.rst.phase := by
  simp only [execDspMin, State.aluR_phase]
theorem execDspMax_phase (c d s' t : Nat) (s : State) : Out.phase s.rst.phase (execDspMax c d s' t s) = s.rst.phase := by
  simp only [execDspMax, State.aluR_phase]
theorem execDspCmplt_phase (c d s' t : Nat) (s : State) : Out.phase s.rst.phase (execDspCmplt c d s' t s) = s.rst.phase := by
  simp only [execDspCmplt, State.aluR_phase]
theorem execDspCmpltu_phase (c d s' t : Nat) (s : State) : Out.phase s.rst.phase (execDspCmpltu c d s' t s) = s.rst.phase := by
  simp only [execDspCmpltu, State.aluR_phase]
theorem execDspCmpeq_phase (c d s' t : Nat) (s : State) : Out.phase s.rst.phase (execDspCmpeq c d s' t s) = s.rst.phase := by
  simp only [execDspCmpeq, State.aluR_phase]
theorem execDspMull_phase (c d s' t : Nat) (s : State) : Out.phase s.rst.phase (execDspMull c d s' t s) = s.rst.phase := by
  simp only [execDspMull, State.aluR_phase]
theorem execDspMulh_phase (c d s' t : Nat) (s : State) : Out.phase s.rst.phase (execDspMulh c d s' t s) = s.rst.phase := by
  simp only [execDspMulh, State.aluR_phase]
theorem execDspAbs_phase (c d s' : Nat) (s : State) : Out.phase s.rst.phase (execDspAbs c d s' s) = s.rst.phase := by
  simp only [execDspAbs, State.alu_phase]
theorem execDspClz_phase (c d s' : Nat) (s : State) : Out.phase s.rst.phase (execDspClz c d s' s) = s.rst.phase := by
  simp only [execDspClz, State.alu_phase]
theorem execDspPack_phase (c d s' t : Nat) (s : State) : Out.phase s.rst.phase (execDspPack c d s' t s) = s.rst.phase := by
  simp only [execDspPack, State.aluR_phase]
theorem execDspAddi_phase (c d s' : Nat) (imm : BitVec 14) (s : State) : Out.phase s.rst.phase (execDspAddi c d s' imm s) = s.rst.phase := by
  simp only [execDspAddi, State.aluI_phase]
theorem execDspAndi_phase (c d s' : Nat) (imm : BitVec 14) (s : State) : Out.phase s.rst.phase (execDspAndi c d s' imm s) = s.rst.phase := by
  simp only [execDspAndi, State.aluI_phase]
theorem execDspOri_phase (c d s' : Nat) (imm : BitVec 14) (s : State) : Out.phase s.rst.phase (execDspOri c d s' imm s) = s.rst.phase := by
  simp only [execDspOri, State.aluI_phase]
theorem execDspXori_phase (c d s' : Nat) (imm : BitVec 14) (s : State) : Out.phase s.rst.phase (execDspXori c d s' imm s) = s.rst.phase := by
  simp only [execDspXori, State.aluI_phase]
theorem execDspSlli_phase (c d s' : Nat) (imm : BitVec 14) (s : State) : Out.phase s.rst.phase (execDspSlli c d s' imm s) = s.rst.phase := by
  simp only [execDspSlli, State.aluI_phase]
theorem execDspSrli_phase (c d s' : Nat) (imm : BitVec 14) (s : State) : Out.phase s.rst.phase (execDspSrli c d s' imm s) = s.rst.phase := by
  simp only [execDspSrli, State.aluI_phase]
theorem execDspSrai_phase (c d s' : Nat) (imm : BitVec 14) (s : State) : Out.phase s.rst.phase (execDspSrai c d s' imm s) = s.rst.phase := by
  simp only [execDspSrai, State.aluI_phase]
theorem execDspCmplti_phase (c d s' : Nat) (imm : BitVec 14) (s : State) : Out.phase s.rst.phase (execDspCmplti c d s' imm s) = s.rst.phase := by
  simp only [execDspCmplti, State.aluI_phase]
theorem execDspCmpeqi_phase (c d s' : Nat) (imm : BitVec 14) (s : State) : Out.phase s.rst.phase (execDspCmpeqi c d s' imm s) = s.rst.phase := by
  simp only [execDspCmpeqi, State.aluI_phase]
theorem execDspMovl_phase (c d : Nat) (imm : BitVec 16) (s : State) : Out.phase s.rst.phase (execDspMovl c d imm s) = s.rst.phase := by
  simp only [execDspMovl, State.alu_phase]
theorem execDspMovh_phase (c d : Nat) (imm : BitVec 16) (s : State) : Out.phase s.rst.phase (execDspMovh c d imm s) = s.rst.phase := by
  simp only [execDspMovh, State.alu_phase]
theorem execDspLdw_phase (c d a mode mc : Nat) (imm : BitVec 10) (err : Nat) (s : State) : Out.phase s.rst.phase (execDspLdw c d a mode mc imm err s) = s.rst.phase := by
  unfold execDspLdw
  refine State.load_phase _ _ _ _ _ _ _ _ _ (fun t ad => ?_)
  repeat' first | with_reducible rfl | simp only [State.busRead_phase]
theorem execDspLdh_phase (c d a mode mc : Nat) (imm : BitVec 10) (err : Nat) (s : State) : Out.phase s.rst.phase (execDspLdh c d a mode mc imm err s) = s.rst.phase := by
  unfold execDspLdh
  refine State.load_phase _ _ _ _ _ _ _ _ _ (fun t ad => ?_)
  repeat' first | with_reducible rfl | simp only [State.busReadHalf_phase]
theorem execDspLdhu_phase (c d a mode mc : Nat) (imm : BitVec 10) (err : Nat) (s : State) : Out.phase s.rst.phase (execDspLdhu c d a mode mc imm err s) = s.rst.phase := by
  unfold execDspLdhu
  refine State.load_phase _ _ _ _ _ _ _ _ _ (fun t ad => ?_)
  repeat' first | with_reducible rfl | simp only [State.busReadHalf_phase]
theorem execDspLdd_phase (c d a mode mc : Nat) (imm : BitVec 10) (err : Nat) (s : State) : Out.phase s.rst.phase (execDspLdd c d a mode mc imm err s) = s.rst.phase := by
  unfold execDspLdd
  refine State.load_phase _ _ _ _ _ _ _ _ _ (fun t ad => ?_)
  repeat' first | with_reducible rfl | simp only [State.readPair_phase]
theorem execDspStw_phase (c d a mode mc : Nat) (imm : BitVec 10) (s : State) : Out.phase s.rst.phase (execDspStw c d a mode mc imm s) = s.rst.phase := by
  unfold execDspStw
  refine State.store_phase _ _ _ _ _ _ _ _ (fun t ad => ?_)
  repeat' first | with_reducible rfl | simp only [State.busWrite_phase]
theorem execDspSth_phase (c d a mode mc : Nat) (imm : BitVec 10) (s : State) : Out.phase s.rst.phase (execDspSth c d a mode mc imm s) = s.rst.phase := by
  unfold execDspSth
  refine State.store_phase _ _ _ _ _ _ _ _ (fun t ad => ?_)
  repeat' first | with_reducible rfl | simp only [State.busWriteHalf_phase]
theorem execDspStd_phase (c d a mode mc : Nat) (imm : BitVec 10) (s : State) : Out.phase s.rst.phase (execDspStd c d a mode mc imm s) = s.rst.phase := by
  unfold execDspStd
  refine State.store_phase _ _ _ _ _ _ _ _ (fun t ad => ?_)
  repeat' first | with_reducible rfl | simp only [State.writePair_phase]
theorem execDspQmpy_phase (c xr : Nat) (xh : Bool) (yp : Nat) (sw : Bool) (neg : Nat) (s : State) : Out.phase s.rst.phase (execDspQmpy c xr xh yp sw neg s) = s.rst.phase := by
  simp only [execDspQmpy, State.alu_phase]
theorem execDspQmac_phase (c xr : Nat) (xh : Bool) (yp : Nat) (sw : Bool) (neg : Nat) (s : State) : Out.phase s.rst.phase (execDspQmac c xr xh yp sw neg s) = s.rst.phase := by
  simp only [execDspQmac, State.alu_phase]
theorem execDspQclr_phase (c : Nat) (s : State) : Out.phase s.rst.phase (execDspQclr c s) = s.rst.phase := by
  simp only [execDspQclr, State.alu_phase]
theorem execDspMva_phase (c g n : Nat) (rnd : Bool) (sh : Nat) (s : State) : Out.phase s.rst.phase (execDspMva c g n rnd sh s) = s.rst.phase := by
  simp only [execDspMva, State.alu_phase]
theorem execDspMval_phase (c g n : Nat) (s : State) : Out.phase s.rst.phase (execDspMval c g n s) = s.rst.phase := by
  simp only [execDspMval, State.alu_phase]
theorem execDspMvah_phase (c g n : Nat) (s : State) : Out.phase s.rst.phase (execDspMvah c g n s) = s.rst.phase := by
  simp only [execDspMvah, State.alu_phase]
theorem execDspMvag_phase (c g n : Nat) (s : State) : Out.phase s.rst.phase (execDspMvag c g n s) = s.rst.phase := by
  simp only [execDspMvag, State.alu_phase]
theorem execDspMta_phase (c g n sh : Nat) (s : State) : Out.phase s.rst.phase (execDspMta c g n sh s) = s.rst.phase := by
  simp only [execDspMta, State.alu_phase]
theorem execDspAdda_phase (c n m : Nat) (s : State) : Out.phase s.rst.phase (execDspAdda c n m s) = s.rst.phase := by
  simp only [execDspAdda, State.alu_phase]
theorem execDspSha_phase (c n : Nat) (left : Bool) (sh : Nat) (s : State) : Out.phase s.rst.phase (execDspSha c n left sh s) = s.rst.phase := by
  simp only [execDspSha, State.alu_phase]
theorem execDspBra_phase (c s' : Nat) (off : BitVec 19) (s : State) : Out.phase s.rst.phase (execDspBra c s' off s) = s.rst.phase := by
  simp only [execDspBra, State.branch_phase]
theorem execDspBeq_phase (c s' : Nat) (off : BitVec 19) (s : State) : Out.phase s.rst.phase (execDspBeq c s' off s) = s.rst.phase := by
  simp only [execDspBeq, State.branch_phase]
theorem execDspBne_phase (c s' : Nat) (off : BitVec 19) (s : State) : Out.phase s.rst.phase (execDspBne c s' off s) = s.rst.phase := by
  simp only [execDspBne, State.branch_phase]
theorem execDspBlt_phase (c s' : Nat) (off : BitVec 19) (s : State) : Out.phase s.rst.phase (execDspBlt c s' off s) = s.rst.phase := by
  simp only [execDspBlt, State.branch_phase]
theorem execDspBge_phase (c s' : Nat) (off : BitVec 19) (s : State) : Out.phase s.rst.phase (execDspBge c s' off s) = s.rst.phase := by
  simp only [execDspBge, State.branch_phase]
theorem execDspBgt_phase (c s' : Nat) (off : BitVec 19) (s : State) : Out.phase s.rst.phase (execDspBgt c s' off s) = s.rst.phase := by
  simp only [execDspBgt, State.branch_phase]
theorem execDspBle_phase (c s' : Nat) (off : BitVec 19) (s : State) : Out.phase s.rst.phase (execDspBle c s' off s) = s.rst.phase := by
  simp only [execDspBle, State.branch_phase]
theorem execDspCall_phase (c : Nat) (off : BitVec 19) (s : State) : Out.phase s.rst.phase (execDspCall c off s) = s.rst.phase := by
  unfold execDspCall
  refine State.issue_phase _ _ _ _ (fun t => ?_)
  repeat' first | with_reducible rfl | simp only [State.setCore_phase]
theorem execDspJr_phase (c s' : Nat) (s : State) : Out.phase s.rst.phase (execDspJr c s' s) = s.rst.phase := by
  unfold execDspJr
  refine State.issue_phase _ _ _ _ (fun t => ?_)
  repeat' first | with_reducible rfl | simp only [State.branch_phase, State.phase_ite, ite_self, Out.phase_next, Out.phase_ite]
theorem execDspJalr_phase (c s' : Nat) (s : State) : Out.phase s.rst.phase (execDspJalr c s' s) = s.rst.phase := by
  unfold execDspJalr
  refine State.issue_phase _ _ _ _ (fun t => ?_)
  repeat' first | with_reducible rfl | simp only [State.setCore_phase]
theorem execDspRti_phase (c : Nat) (s : State) : Out.phase s.rst.phase (execDspRti c s) = s.rst.phase := by
  unfold execDspRti
  refine State.issue_phase _ _ _ _ (fun t => ?_)
  repeat' first | with_reducible rfl | simp only [State.setCore_phase]
theorem execDspNop_phase (c : Nat) (s : State) : Out.phase s.rst.phase (execDspNop c s) = s.rst.phase := by
  simp only [execDspNop, State.alu_phase]
theorem execDspIdle_phase (c : Nat) (s : State) : Out.phase s.rst.phase (execDspIdle c s) = s.rst.phase := by
  unfold execDspIdle
  refine State.issue_phase _ _ _ _ (fun t => ?_)
  repeat' first | with_reducible rfl
theorem execDspEi_phase (c : Nat) (s : State) : Out.phase s.rst.phase (execDspEi c s) = s.rst.phase := by
  unfold execDspEi
  refine State.issue_phase _ _ _ _ (fun t => ?_)
  repeat' first | with_reducible rfl | simp only [State.modCore_phase]
theorem execDspDi_phase (c : Nat) (s : State) : Out.phase s.rst.phase (execDspDi c s) = s.rst.phase := by
  simp only [execDspDi, State.alu_phase]
theorem execDspCsrr_phase (c g n : Nat) (s : State) : Out.phase s.rst.phase (execDspCsrr c g n s) = s.rst.phase := by
  unfold execDspCsrr
  refine State.issue_phase _ _ _ _ (fun t => ?_)
  repeat' first | with_reducible rfl | simp only [State.modCore_phase] | split
theorem execDspCsrw_phase (c g n : Nat) (s : State) : Out.phase s.rst.phase (execDspCsrw c g n s) = s.rst.phase := by
  unfold execDspCsrw
  refine State.issue_phase _ _ _ _ (fun t => ?_)
  repeat' first | with_reducible rfl | simp only [State.withLines_phase] | split
theorem execDspTrap_phase (c : Nat) (s : State) : Out.phase s.rst.phase (execDspTrap c s) = s.rst.phase := by
  unfold execDspTrap
  refine State.issue_phase _ _ _ _ (fun t => ?_)
  repeat' first | with_reducible rfl
theorem execDspSync_phase (c : Nat) (s : State) : Out.phase s.rst.phase (execDspSync c s) = s.rst.phase := by
  simp only [execDspSync, State.alu_phase]
theorem execDspRepeat_phase (c : Nat) (src : Option Nat) (n1 : Nat) (s : State) : Out.phase s.rst.phase (execDspRepeat c src n1 s) = s.rst.phase := by
  unfold execDspRepeat
  refine State.issue_phase _ _ _ _ (fun t => ?_)
  repeat' first | with_reducible rfl
theorem execDspLoop_phase (c : Nat) (src : Option Nat) (len1 n1 : Nat) (s : State) : Out.phase s.rst.phase (execDspLoop c src len1 n1 s) = s.rst.phase := by
  unfold execDspLoop
  dsimp only
  split
  · rfl
  · exact State.issue_phase _ _ _ _ (fun t => rfl)

/-! ## Amp -/

@[simp] theorem State.ampSend_phase (s : State) (r : AmpReq) (m : List Byte) : (State.ampSend s r m).rst.phase = s.rst.phase := by
  simp only [State.ampSend, State.withAmp_phase]
  repeat' first | with_reducible rfl | simp only [State.arpAsk_phase, State.ethSend_phase, State.raise_phase, State.sidePush_phase, State.withAmp_phase, State.withRst_phase, State.phase_ite, ite_self] | split
@[simp] theorem State.ampAnswer_phase (s : State) (r : AmpReq) (status : Nat) (pay : List Byte) : (State.ampAnswer s r status pay).rst.phase = s.rst.phase := by
  simp only [State.ampAnswer, State.ampSend_phase, State.incSat_phase, State.phase_ite, ite_self]
@[simp] theorem State.ampSettle_phase (n : Nat) (s : State) : (State.ampSettle n s).rst.phase = s.rst.phase := by
  induction n generalizing s with
  | zero => rfl
  | succ n ih =>
    unfold State.ampSettle
    split
    · rfl
    · split
      · rfl
      · split
        · rfl
        · dsimp only
          rw [ih]
          split
          · rw [State.ampSend_phase, State.withAmp_phase]
          · rw [State.ampAnswer_phase, State.withAmp_phase]
@[simp] theorem State.ampGo_phase (s : State) : (State.ampGo s).rst.phase = s.rst.phase := by
  simp only [State.ampGo, State.ampSettle_phase]
theorem execParkExit_phase (s : State) : Out.phase s.rst.phase (execParkExit s) = s.rst.phase := by
  simp only [execParkExit, State.ampGo_phase, State.logEvent_phase, State.toState_phase, ite_self, Out.phase_next, Out.phase_ite]
  repeat' first | with_reducible rfl | simp only [State.coreStart_phase, State.eyeRestart_phase, State.setB_phase, State.toState_phase, State.withParkWake_phase, State.withPins_phase, State.phase_ite, ite_self] | split | refine (foldl_phase _ (fun s x => ?_) _ _).trans ?_
@[simp] theorem State.ampDrop_phase (s : State) (counter : Fld) : (State.ampDrop s counter).rst.phase = s.rst.phase := by
  simp only [State.ampDrop, State.incSat_phase, State.raise_phase]
@[simp] theorem State.ampAdmit_phase (s : State) (r : AmpReq) : (State.ampAdmit s r).rst.phase = s.rst.phase := by
  simp only [State.ampAdmit, State.ampDrop_phase, State.ampGo_phase, State.withAmp_phase, State.phase_ite, ite_self]
@[simp] theorem State.ampArrive_phase (s : State) (src : AmpSrc) (port sport : Nat) (m : List Byte) : (State.ampArrive s src port sport m).rst.phase = s.rst.phase := by
  simp only [State.ampArrive, State.ampAdmit_phase, State.incSat_phase, State.phase_ite, ite_self]
theorem execAmpEthDatagram_phase (p : Nat) (s : State) (par : Bool) : Out.phase s.rst.phase (execAmpEthDatagram p s par) = s.rst.phase := by
  simp only [execAmpEthDatagram, Out.phase_next, Out.phase_ite]
  repeat' first | with_reducible rfl | simp only [State.ampArrive_phase, State.incSat_phase, State.qstat_phase, State.raise_phase, State.setEth_phase, ite_self, Out.phase_next, Out.phase_ite] | split
@[simp] theorem State.ampWake_phase (s : State) (m : List Byte) : (State.ampWake s m).rst.phase = s.rst.phase := by
  simp only [State.ampWake, State.withParkWake_phase, State.phase_ite, ite_self]
theorem execAmpDwlSideband_phase (lane : Nat) (ws : List Word) (crcOk : Bool) (s : State) : Out.phase s.rst.phase (execAmpDwlSideband lane ws crcOk s) = s.rst.phase := by
  simp only [execAmpDwlSideband, State.ampArrive_phase, State.ampWake_phase, State.incSat_phase, State.raise_phase, ite_self, Out.phase_next, Out.phase_ite]
theorem execMspiWrite_phase (m : List Byte) (crc : Word) (s : State) : Out.phase s.rst.phase (execMspiWrite m crc s) = s.rst.phase := by
  simp only [execMspiWrite, State.ampArrive_phase, State.ampWake_phase, State.incSat_phase, ite_self, Out.phase_next, Out.phase_ite]
theorem execMspiRead_phase (all : Bool) (s : State) : Out.phase s.rst.phase (execMspiRead all s) = s.rst.phase := by
  simp only [execMspiRead, State.withAmp_phase, State.phase_ite, ite_self, Out.phase_next]
theorem execMspiStatus_phase (s : State) : Out.phase s.rst.phase (execMspiStatus s) = s.rst.phase := by
  simp only [execMspiStatus, Out.phase_next]
theorem execAmpWindowEnd_phase (src : AmpSrc) (s : State) : Out.phase s.rst.phase (execAmpWindowEnd src s) = s.rst.phase := by
  simp only [execAmpWindowEnd, State.withAmp_phase, Out.phase_next]
theorem State.ampExec_phase (s : State) (cmd : Nat) (legal : AmpReq → Bool) (body : State → AmpReq → State) (hb : ∀ t r, (body t r).rst.phase = t.rst.phase) :
    Out.phase s.rst.phase (s.ampExec cmd legal body) = s.rst.phase := by
  unfold State.ampExec
  split
  · rfl
  · split
    · rfl
    · split
      · rfl
      · dsimp only
        split
        · simp only [Out.phase_next, State.ampGo_phase, State.ampSend_phase, State.withAmp_phase]
        · simp only [Out.phase_next, State.ampGo_phase]
          split
          · exact (hb _ _).trans (State.withAmp_phase _ _)
          · exact (State.ampAnswer_phase _ _ _ _).trans (State.withAmp_phase _ _)
@[simp] theorem State.ampReads_phase (n : Nat) (s : State) (a : Nat) (errs : List Nat) : (State.ampReads n s a errs).1.rst.phase = s.rst.phase := by
  induction n generalizing s a errs with
  | zero => rfl
  | succ n ih =>
    unfold State.ampReads
    generalize (if blockAt a = true then 0 else errs.headD 0) = e
    dsimp only
    split
    · exact State.memErr_phase _ _ _ _
    · exact (ih _ _ _).trans ((State.readWord_phase _ _).trans (State.memErr_phase _ _ _ _))
@[simp] theorem State.ampGet_phase (s : State) (r : AmpReq) (errs : List Nat) : (State.ampGet s r errs).rst.phase = s.rst.phase := by
  simp only [State.ampGet, State.ampAnswer_phase, State.ampReads_phase, State.phase_ite, ite_self]
theorem execGet_phase (errs : List Nat) (s : State) : Out.phase s.rst.phase (execGet errs s) = s.rst.phase := by
  unfold execGet
  refine State.ampExec_phase _ _ _ _ (fun t r => ?_)
  repeat' first | with_reducible rfl | simp only [State.ampGet_phase]
@[simp] theorem State.ampPut_phase (s : State) (t : Nat × Word × Word) : (State.ampPut s t).rst.phase = s.rst.phase := by
  simp only [State.ampPut, State.writeWord_phase]
@[simp] theorem State.ampSet_phase (s : State) (r : AmpReq) : (State.ampSet s r).rst.phase = s.rst.phase := by
  simp only [State.ampSet, State.ampAnswer_phase, State.phase_ite]
  repeat' first | with_reducible rfl | simp only [State.ampPut_phase] | split | refine (foldl_phase _ (fun s x => ?_) _ _).trans ?_
theorem execSet_phase (s : State) : Out.phase s.rst.phase (execSet s) = s.rst.phase := by
  unfold execSet
  refine State.ampExec_phase _ _ _ _ (fun t r => ?_)
  repeat' first | with_reducible rfl | simp only [State.ampSet_phase]
@[simp] theorem State.ampLog_phase (s : State) (r : AmpReq) : (State.ampLog s r).rst.phase = s.rst.phase := by
  simp only [State.ampLog, State.ampAnswer_phase, State.phase_ite, ite_self]
theorem execLogRead_phase (s : State) : Out.phase s.rst.phase (execLogRead s) = s.rst.phase := by
  unfold execLogRead
  refine State.ampExec_phase _ _ _ _ (fun t r => ?_)
  repeat' first | with_reducible rfl | simp only [State.ampLog_phase]
@[simp] theorem State.ampCask_phase (s : State) (r : AmpReq) : (State.ampCask s r).rst.phase = s.rst.phase := by
  simp only [State.ampCask, State.ampAnswer_phase, State.phase_ite, ite_self]
theorem execCaskInfo_phase (s : State) : Out.phase s.rst.phase (execCaskInfo s) = s.rst.phase := by
  unfold execCaskInfo
  refine State.ampExec_phase _ _ _ _ (fun t r => ?_)
  repeat' first | with_reducible rfl | simp only [State.ampCask_phase]
@[simp] theorem State.ampStart_phase (s : State) (r : AmpReq) : (State.ampStart s r).rst.phase = s.rst.phase := by
  simp only [State.ampStart, State.ampAnswer_phase, State.endSession_phase, State.setB_phase, State.phase_ite, ite_self]
theorem execStart_phase (s : State) : Out.phase s.rst.phase (execStart s) = s.rst.phase := by
  unfold execStart
  refine State.ampExec_phase _ _ _ _ (fun t r => ?_)
  repeat' first | with_reducible rfl | simp only [State.ampStart_phase]
@[simp] theorem State.ampStop_phase (s : State) (r : AmpReq) : (State.ampStop s r).rst.phase = s.rst.phase := by
  simp only [State.ampStop, State.ampAnswer_phase, State.pllaFollow_phase, State.phase_ite]
  repeat' first | with_reducible rfl | simp only [State.setB_phase, State.toState_phase, State.withScan_phase, State.phase_ite, ite_self] | split
theorem execStop_phase (s : State) : Out.phase s.rst.phase (execStop s) = s.rst.phase := by
  unfold execStop
  refine State.ampExec_phase _ _ _ _ (fun t r => ?_)
  repeat' first | with_reducible rfl | simp only [State.ampStop_phase]
@[simp] theorem State.ampPark_phase (s : State) (r : AmpReq) : (State.ampPark s r).rst.phase = s.rst.phase := by
  simp only [State.ampPark, State.ampAnswer_phase, State.endSession_phase, State.setB_phase, State.withScan_phase, State.withRst_phase, State.phase_ite, ite_self]
theorem execPark_phase (s : State) : Out.phase s.rst.phase (execPark s) = s.rst.phase := by
  unfold execPark
  refine State.ampExec_phase _ _ _ _ (fun t r => ?_)
  repeat' first | with_reducible rfl | simp only [State.ampPark_phase]
@[simp] theorem State.ampResetCmd_phase (s : State) (r : AmpReq) : (State.ampResetCmd s r).rst.phase = s.rst.phase := by
  simp only [State.ampResetCmd, State.ampAnswer_phase, State.withRst_phase, State.phase_ite, ite_self]
theorem execReset_phase (s : State) : Out.phase s.rst.phase (execReset s) = s.rst.phase := by
  unfold execReset
  refine State.ampExec_phase _ _ _ _ (fun t r => ?_)
  repeat' first | with_reducible rfl | simp only [State.ampResetCmd_phase]
theorem execAmpResetEffect_phase (s : State) : Out.phase s.rst.phase (execAmpResetEffect s) = s.rst.phase := by
  simp only [execAmpResetEffect, State.raiseReset_phase, State.phase_ite, ite_self, Out.phase_next]
@[simp] theorem State.ampAuth_phase (s : State) (r : AmpReq) : (State.ampAuth s r).rst.phase = s.rst.phase := by
  simp only [State.ampAuth, State.ampAnswer_phase, State.endSession_phase, State.fresh_phase, State.raise_phase, State.raiseIf_phase, State.withAmp_phase, State.phase_ite, ite_self]
theorem execAuth_phase (s : State) : Out.phase s.rst.phase (execAuth s) = s.rst.phase := by
  unfold execAuth
  refine State.ampExec_phase _ _ _ _ (fun t r => ?_)
  repeat' first | with_reducible rfl | simp only [State.ampAuth_phase]
theorem State.ampChange_phase (s : State) (op : Nat) (inOrder : Bool) (body : State → AmpReq → Nat → State) (hb : ∀ t r u, (body t r u).rst.phase = t.rst.phase) :
    Out.phase s.rst.phase (s.ampChange op inOrder body) = s.rst.phase := by
  unfold State.ampChange
  split
  · rfl
  · split
    · rfl
    · refine State.ampExec_phase _ _ _ _ (fun t r => ?_)
      split
      · exact State.ampAnswer_phase _ _ _ _
      · dsimp only
        split
        · exact (State.ampAnswer_phase _ _ _ _).trans (State.withAmp_phase _ _)
        · exact (hb _ _ _).trans (State.withAmp_phase _ _)
theorem execGuardChangeBegin_phase (s : State) : Out.phase s.rst.phase (execGuardChangeBegin s) = s.rst.phase := by
  unfold execGuardChangeBegin
  repeat' first | with_reducible rfl | refine State.ampChange_phase _ _ _ _ (fun t r u => ?_) | simp only [State.ampAnswer_phase, State.changeBegin_phase, Out.phase_next, Out.phase_ite] | split
@[simp] theorem State.changeData_phase (s : State) (r : AmpReq) : (State.changeData s r).rst.phase = s.rst.phase := by
  simp only [State.changeData, State.ampAnswer_phase, State.phase_ite]
  repeat' first | with_reducible rfl | simp only [State.ampAnswer_phase, State.changeWord_phase, State.setB_phase, State.phase_ite, ite_self] | split | refine (foldl_phase _ (fun s x => ?_) _ _).trans ?_
theorem execGuardChangeData_phase (s : State) : Out.phase s.rst.phase (execGuardChangeData s) = s.rst.phase := by
  unfold execGuardChangeData
  refine State.ampChange_phase _ _ _ _ (fun t r u => ?_)
  repeat' first | with_reducible rfl | simp only [State.changeData_phase]
theorem execGuardChangeCommit_phase (s : State) : Out.phase s.rst.phase (execGuardChangeCommit s) = s.rst.phase := by
  unfold execGuardChangeCommit
  refine State.ampChange_phase _ _ _ _ (fun t r u => ?_)
  repeat' first | with_reducible rfl | simp only [State.changeCommit_phase, State.withAmp_phase]
theorem execGuardChangeAbort_phase (s : State) : Out.phase s.rst.phase (execGuardChangeAbort s) = s.rst.phase := by
  unfold execGuardChangeAbort
  refine State.ampChange_phase _ _ _ _ (fun t r u => ?_)
  repeat' first | with_reducible rfl | simp only [State.ampAnswer_phase, State.changeAbort_phase, State.withAmp_phase, State.phase_ite, ite_self]
theorem execGuardSessionTimeout_phase (s : State) : Out.phase s.rst.phase (execGuardSessionTimeout s) = s.rst.phase := by
  simp only [execGuardSessionTimeout, State.endSession_phase, State.phase_ite, ite_self, Out.phase_next]
theorem execAuthLockoutEnd_phase (s : State) : Out.phase s.rst.phase (execAuthLockoutEnd s) = s.rst.phase := by
  simp only [execAuthLockoutEnd, State.withAmp_phase, State.phase_ite, ite_self, Out.phase_next]

/-! ## Nvm -/

@[simp] theorem State.changeReply_phase (s : State) : (State.changeReply s).rst.phase = s.rst.phase := by
  simp only [State.changeReply]
  repeat' first | with_reducible rfl | simp only [State.ampAnswer_phase, State.ampGo_phase, State.changeCommitted_phase, State.withAmp_phase, State.phase_ite, ite_self] | split
@[simp] theorem State.nvmFollow_phase (s : State) (w : NvmWrite) (wrap : Bool) : (State.nvmFollow s w wrap).rst.phase = s.rst.phase := by
  simp only [State.nvmFollow]
  repeat' first | with_reducible rfl | simp only [State.changeReply_phase, State.raise_phase, State.raiseIf_phase, State.phase_ite, ite_self] | split
@[simp] theorem State.nvmDone_phase (s : State) (w : NvmWrite) : (State.nvmDone s w).rst.phase = s.rst.phase := by
  simp only [State.nvmDone]
  repeat' first | with_reducible rfl | simp only [State.applyDone_phase, State.nvmFollow_phase, State.withNvm_phase] | split
theorem execNvmWriteDone_phase (fail : Bool) (s : State) : Out.phase s.rst.phase (execNvmWriteDone fail s) = s.rst.phase := by
  simp only [execNvmWriteDone]
  repeat' first | with_reducible rfl | simp only [State.nvmDone_phase, State.nvmKick_phase, State.raise_phase, State.withNvm_phase, ite_self, Out.phase_next, Out.phase_ite] | split

/-! ## Reset -/

@[simp] theorem State.lastReset_phase (s : State) (src level : Nat) : (State.lastReset s src level).rst.phase = s.rst.phase := by
  simp only [State.lastReset, State.setF_phase]
@[simp] theorem State.dropHist_phase (s : State) (c : Nat) : (State.dropHist s c).rst.phase = s.rst.phase := by
  simp only [State.dropHist]
  repeat' first | with_reducible rfl | simp only [State.columnDone_phase, State.lauOutcome_phase, State.outcome_phase, State.withHists_phase, State.wortDone_phase] | split
@[simp] theorem State.clusterReset_phase (s : State) (k : Nat) : (State.clusterReset s k).rst.phase = s.rst.phase := by
  simp only [State.clusterReset]
  repeat' first | with_reducible rfl | simp only [State.dropHist_phase, State.rset_phase, State.setChan_phase, State.setCluster_phase, State.withLau_phase, State.withTun_phase] | split | refine (foldl_phase _ (fun s x => ?_) _ _).trans ?_
@[simp] theorem State.performL2_phase (s : State) (t : L2Target) : (State.performL2 s t).rst.phase = s.rst.phase := by
  simp only [State.performL2, State.phase_ite]
  repeat' first | with_reducible rfl | simp only [State.clusterReset_phase, State.dmaReset_phase, State.dspReset_phase, State.dwlReset_phase, State.ethReset_phase, State.timeInvalid_phase, State.withAmp_phase, State.withRst_phase, State.phase_ite, ite_self] | split
@[simp] theorem State.releaseOne_phase (s : State) (t : L2Target) : (State.releaseOne s t).rst.phase = s.rst.phase := by
  simp only [State.releaseOne, State.phase_ite]
  repeat' first | with_reducible rfl | simp only [State.coreStart_phase, State.modCore_phase, State.rset_phase, State.withRst_phase, State.phase_ite, ite_self] | split
@[simp] theorem State.releaseL2_phase (s : State) (t : L2Target) : (State.releaseL2 s t).rst.phase = s.rst.phase := by
  simp only [State.releaseL2]
  repeat' first | with_reducible rfl | simp only [State.releaseOne_phase, State.withRst_phase] | split | refine (foldl_phase _ (fun s x => ?_) _ _).trans ?_
@[simp] theorem State.resetCauses_phase (s : State) : (State.resetCauses s).rst.phase = s.rst.phase := by
  simp only [State.resetCauses, State.withRst_phase]
  repeat' first | with_reducible rfl | simp only [State.raise_phase] | split | refine (foldl_phase _ (fun s x => ?_) _ _).trans ?_
@[simp] theorem State.noteDma_phase (s : State) (run : List (Nat × Nat × List L2Target)) : (State.noteDma s run).rst.phase = s.rst.phase := by
  simp only [State.noteDma, State.withRst_phase, State.phase_ite, ite_self]
theorem execBrownout_phase (s : State) : Out.phase s.rst.phase (execBrownout s) = s.rst.phase := by
  simp only [execBrownout, State.raiseReset_phase, State.setB_phase, State.phase_ite, ite_self, Out.phase_next]
@[simp] theorem State.setGood_phase (s : State) (r : Nat) (p : Bool) : (State.setGood s r p).rst.phase = s.rst.phase := by
  simp only [State.setGood, State.setF_phase]
@[simp] theorem State.xtFail_phase (s : State) : (State.xtFail s).rst.phase = s.rst.phase := by
  simp only [State.xtFail, State.enterSafe_phase, State.raise_phase, State.setB_phase, State.withRst_phase, State.phase_ite, ite_self]
theorem execXt32Qualified_phase (s : State) : Out.phase s.rst.phase (execXt32Qualified s) = s.rst.phase := by
  simp only [execXt32Qualified, State.setB_phase, State.withRst_phase, State.phase_ite, ite_self, Out.phase_next]
theorem execXt32Fail_phase (s : State) : Out.phase s.rst.phase (execXt32Fail s) = s.rst.phase := by
  simp only [execXt32Fail, State.xtFail_phase, State.phase_ite, ite_self, Out.phase_next]
theorem execXt32Timeout_phase (s : State) : Out.phase s.rst.phase (execXt32Timeout s) = s.rst.phase := by
  simp only [execXt32Timeout, State.xtFail_phase, State.phase_ite, ite_self, Out.phase_next]
theorem execRstNLow_phase (s : State) : Out.phase s.rst.phase (execRstNLow s) = s.rst.phase := by
  simp only [execRstNLow, State.raiseReset_phase, State.withRst_phase, State.phase_ite, ite_self, Out.phase_next]
theorem execRstNStuck_phase (s : State) : Out.phase s.rst.phase (execRstNStuck s) = s.rst.phase := by
  simp only [execRstNStuck, State.logEvent_phase, State.setB_phase, ite_self, Out.phase_next, Out.phase_ite]
theorem execRstNRearm_phase (s : State) : Out.phase s.rst.phase (execRstNRearm s) = s.rst.phase := by
  simp only [execRstNRearm, State.setB_phase, State.withRst_phase, State.phase_ite, ite_self, Out.phase_next]

/-! ## Pins -/

theorem execBoundaryScanInstruction_phase (i : Nat) (s : State) (ins dr : BitVec 52) : Out.phase s.rst.phase (execBoundaryScanInstruction i s ins dr) = s.rst.phase := by
  simp only [execBoundaryScanInstruction, State.withPins_phase, ite_self, Out.phase_next, Out.phase_ite]

/-! ## Boot -/

@[simp] theorem State.pinTestKick_phase (s : State) : (State.pinTestKick s).rst.phase = s.rst.phase := by
  simp only [State.pinTestKick, State.pinTestStart_phase, State.withRst_phase, State.phase_ite, ite_self]
@[simp] theorem State.pinResult_phase (s : State) (fails : List Nat) : (State.pinResult s fails).rst.phase = s.rst.phase := by
  simp only [State.pinResult, State.incMod_phase, State.logEvent_phase, State.raiseIf_phase, State.setB_phase, State.setF_phase, State.soutFault_phase, State.withPins_phase, State.phase_ite, ite_self]
@[simp] theorem State.slotError_phase (s : State) (slot reason sec : Nat) : (State.slotError s slot reason sec).rst.phase = s.rst.phase := by
  simp only [State.slotError, State.rset_phase]
@[simp] theorem State.headRead_phase (s : State) (k : Nat) : (State.headRead s k).rst.phase = s.rst.phase := by
  simp only [State.headRead, State.slotError_phase, State.withRst_phase, State.phase_ite, ite_self]
@[simp] theorem State.optionRegs_phase (s : State) (p : Option (List Word)) (blank safe : Bool) : (State.optionRegs s p blank safe).rst.phase = s.rst.phase := by
  simp only [State.optionRegs, State.setB_phase, State.setF_phase, State.phase_ite, ite_self]
theorem execPllaLock_phase (s : State) : Out.phase s.rst.phase (execPllaLock s) = s.rst.phase := by
  simp only [execPllaLock, State.pinTestKick_phase, State.setB_phase, State.phase_ite, ite_self, Out.phase_next]
@[simp] theorem State.loaderAdc_phase (s : State) (a : Nat) (v : Word) (t : State) : (s.loaderAdc a v t).rst.phase = t.rst.phase := by
  unfold State.loaderAdc
  repeat' first | with_reducible rfl | exact State.adcRefSelected_phase _ _ | exact State.adcChannelWritten_phase _ _ | exact State.adcFirWritten_phase _ _ | exact State.adcGainWritten_phase _ _ _ | exact State.reqGo_phase _ _ | split
@[simp] theorem State.loaderReg_phase (s : State) (a : Nat) (v : Word) : (State.loaderReg s a v).rst.phase = s.rst.phase := by
  simp only [State.loaderReg, State.anchorCommit_phase, State.ethCfgWrite_phase, State.rset_phase, State.timeCtrlWrite_phase, State.tinCfgWrite_phase, State.loaderAdc_phase, State.phase_ite, ite_self]
@[simp] theorem State.loaderWrite_phase (s : State) (a : Nat) (v : Word) : (State.loaderWrite s a v).rst.phase = s.rst.phase := by
  simp only [State.loaderWrite, State.loaderReg_phase, State.msetW_phase, State.phase_ite, ite_self]
@[simp] theorem State.noteDest_phase (s : State) (a k : Word) : (State.noteDest s a k).rst.phase = s.rst.phase := by
  simp only [State.noteDest, State.withRst_phase]
@[simp] theorem State.clearWord_phase (s : State) (a : Nat) : (State.clearWord s a).rst.phase = s.rst.phase := by
  simp only [State.clearWord, State.loaderReg_phase, State.msetW_phase, State.rset_phase, State.withAnchor_phase, State.phase_ite, ite_self]
@[simp] theorem State.commitCask_phase (s : State) (ident : List Byte) : (State.commitCask s ident).rst.phase = s.rst.phase := by
  simp only [State.commitCask, State.logEvent_phase, State.withNvm_phase, State.phase_ite, ite_self]
@[simp] theorem State.commitGuard_phase (s : State) : (State.commitGuard s).rst.phase = s.rst.phase := by
  simp only [State.commitGuard, State.rebuildBearing_phase, State.rset_phase, State.withNvm_phase, State.phase_ite, ite_self]
@[simp] theorem State.commitLoss_phase (s : State) : (State.commitLoss s).rst.phase = s.rst.phase := by
  simp only [State.commitLoss]
  repeat' first | with_reducible rfl | simp only [State.rset_phase, State.setF_phase, State.updateKnee_phase] | split | refine (foldl_phase _ (fun s x => ?_) _ _).trans ?_
@[simp] theorem State.commitTime_phase (s : State) : (State.commitTime s).rst.phase = s.rst.phase := by
  simp only [State.commitTime, State.timeIncWrite_phase, State.timePpsWrite_phase, State.phase_ite, ite_self]

end Sys2Proof.Machine
end

