-- ==== Sys2Proof/Laws/QueueFrame.lean ====
section
/-!
SUPPORT. The frame of the queue: no operation and no meaning changes the waiting commands.
-/
namespace Sys2Proof.Machine

/-- The pending after an outcome. -/
def Out.pending (d : List Instr) : Out → List Instr
  | .next t => t.pending
  | _ => d
@[simp] theorem Out.pending_next (d : List Instr) (t : State) : Out.pending d (.next t) = t.pending := Eq.trans (Eq.refl _) rfl
theorem Out.pending_ite (d : List Instr) (c : Prop) [Decidable c] (a b : Out) : Out.pending d (if c then a else b) = if c then Out.pending d a else Out.pending d b := by
  split <;> rfl
theorem State.pending_ite (c : Prop) [Decidable c] (a b : State) : (if c then a else b).pending = if c then a.pending else b.pending := by
  split <;> rfl
theorem foldl_pending {α : Type} (g : State → α → State) (h : ∀ s x, (g s x).pending = s.pending) (l : List α) (s : State) :
    (l.foldl g s).pending = s.pending := by
  induction l generalizing s with
  | nil => rfl
  | cons x l ih => rw [List.foldl_cons, ih, h]

/-! ## Ops -/

@[simp] theorem State.latchEff_pending (s : State) (as : List Nat) : (State.latchEff s as).pending = s.pending := by
  simp only [State.latchEff, State.withEff_pending]
@[simp] theorem State.msetH_pending (s : State) (a : Nat) (v : BitVec 16) : (State.msetH s a v).pending = s.pending := by
  simp only [State.msetH, State.mset_pending]
@[simp] theorem State.msetW_pending (s : State) (a : Nat) (v : Word) : (State.msetW s a v).pending = s.pending := by
  simp only [State.msetW, State.msetH_pending]
@[simp] theorem State.countCause_pending (s : State) (c : Cause) : (State.countCause s c).pending = s.pending := by
  simp only [State.countCause, State.incSat_pending]
@[simp] theorem State.setDev_pending (s : State) (d : Dev) : (State.setDev s d).pending = s.pending := by
  simp only [State.setDev, State.raise_pending, State.setF_pending, State.withDev_pending, State.pending_ite, ite_self]
@[simp] theorem State.nvmKick_pending (s : State) : (State.nvmKick s).pending = s.pending := by
  simp only [State.nvmKick, State.pending_ite]
  repeat' first | with_reducible rfl | simp only [State.withNvm_pending] | split
@[simp] theorem State.nvmPush_pending (s : State) (w : NvmWrite) : (State.nvmPush s w).pending = s.pending := by
  simp only [State.nvmPush, State.nvmKick_pending, State.withNvm_pending]
@[simp] theorem State.logEvent_pending (s : State) (code : Nat) (d0 d1 : Word) : (State.logEvent s code d0 d1).pending = s.pending := by
  simp only [State.logEvent, State.incSat_pending, State.nvmKick_pending, State.withNvm_pending, State.pending_ite, ite_self]
@[simp] theorem State.fresh_pending (s : State) : (State.fresh s).2.pending = s.pending := by
  simp only [State.fresh]

/-! ## GuardOps -/

@[simp] theorem State.soutOff_pending (s : State) : (State.soutOff s).pending = s.pending := by
  simp only [State.soutOff, State.setB_pending, State.setF_pending, State.withGuard_pending, State.pending_ite, ite_self]
@[simp] theorem State.guardFollow_pending (s : State) : (State.guardFollow s).pending = s.pending := by
  simp only [State.guardFollow, State.soutOff_pending, State.pending_ite, ite_self]
@[simp] theorem State.soutFault_pending (s : State) (code : Nat) : (State.soutFault s code).pending = s.pending := by
  simp only [State.soutFault, State.logEvent_pending, State.raise_pending, State.setB_pending, State.setF_pending, State.soutOff_pending, State.pending_ite, ite_self]
@[simp] theorem State.setGsweep_pending (s : State) (n : Nat) (x : GSweep) : (State.setGsweep s n x).pending = s.pending := by
  simp only [State.setGsweep, State.withGuard_pending]
@[simp] theorem State.confirm_pending (s : State) : (State.confirm s).pending = s.pending := by
  simp only [State.confirm, State.incSat_pending, State.raise_pending, State.setF_pending, State.soutOff_pending]
@[simp] theorem State.intrude_pending (s : State) (n f : Nat) : (State.intrude s n f).pending = s.pending := by
  simp only [State.intrude, State.confirm_pending, State.raise_pending, State.setGsweep_pending, State.withGuard_pending, State.pending_ite, ite_self]
@[simp] theorem State.guardSkip_pending (s : State) (az : Nat) : (State.guardSkip s az).pending = s.pending := by
  simp only [State.guardSkip, State.intrude_pending, State.pending_ite, ite_self]
@[simp] theorem State.guardInhibit_pending (s : State) : (State.guardInhibit s).pending = s.pending := by
  simp only [State.guardInhibit, State.confirm_pending, State.setGsweep_pending, State.pending_ite, ite_self]

/-! ## Adc -/

@[simp] theorem State.adcGainWritten_pending (s : State) (k old : Nat) : (State.adcGainWritten s k old).pending = s.pending := by
  simp only [State.adcGainWritten, State.withAdc_pending, State.pending_ite, ite_self]
@[simp] theorem State.adcChannelWritten_pending (s : State) (old : Nat) : (State.adcChannelWritten s old).pending = s.pending := by
  simp only [State.adcChannelWritten, State.withAdc_pending, State.pending_ite, ite_self]
@[simp] theorem State.adcRefSelected_pending (s : State) (old : Nat) : (State.adcRefSelected s old).pending = s.pending := by
  simp only [State.adcRefSelected, State.setB_pending, State.withAdc_pending, State.pending_ite, ite_self]
theorem execAdc0RefReady_pending (s : State) : Out.pending s.pending (execAdc0RefReady s) = s.pending := by
  simp only [execAdc0RefReady, State.setB_pending, State.pending_ite, ite_self, Out.pending_next]
theorem execAdc0RefFail_pending (s : State) : Out.pending s.pending (execAdc0RefFail s) = s.pending := by
  simp only [execAdc0RefFail, State.raise_pending, State.withAdc_pending, State.pending_ite, ite_self, Out.pending_next]
@[simp] theorem State.adcAdd_pending (s : State) (j : AdcJob) : (State.adcAdd s j).pending = s.pending := by
  simp only [State.adcAdd, State.withAdc_pending]
@[simp] theorem State.adcDone_pending (s : State) (i : Nat) : (State.adcDone s i).pending = s.pending := by
  simp only [State.adcDone]
  repeat' first | with_reducible rfl | simp only [State.withAdc_pending] | split
@[simp] theorem State.adcEnd_pending (s : State) (who : Nat) : (State.adcEnd s who).pending = s.pending := by
  simp only [State.adcEnd]
  repeat' first | with_reducible rfl | simp only [State.adcDone_pending] | split
@[simp] theorem State.adcMsns_pending (s : State) (n : Nat) : (State.adcMsns s n).pending = s.pending := by
  simp only [State.adcMsns, State.adcAdd_pending, State.adcEnd_pending]
@[simp] theorem State.adcDue_pending (s : State) (n t : Nat) : (State.adcDue s n t).pending = s.pending := by
  simp only [State.adcDue, State.withAdc_pending]
@[simp] theorem State.adcFired_pending (s : State) (k t : Nat) : (State.adcFired s k t).pending = s.pending := by
  simp only [State.adcFired]
  repeat' first | with_reducible rfl | simp only [State.adcDue_pending, State.pending_ite, ite_self] | split | refine (foldl_pending _ (fun s x => ?_) _ _).trans ?_
@[simp] theorem State.adcTick_pending (s : State) : (State.adcTick s).pending = s.pending := by
  simp only [State.adcTick]
  repeat' first | with_reducible rfl | simp only [State.adcDue_pending, State.withAdc_pending, State.pending_ite, ite_self] | split | refine (foldl_pending _ (fun s x => ?_) _ _).trans ?_
@[simp] theorem State.adcStamp_pending (s : State) : (State.adcStamp s).pending = s.pending := by
  simp only [State.adcStamp]
  repeat' first | with_reducible rfl | simp only [State.setF_pending, State.withAdc_pending, State.pending_ite, ite_self] | split | refine (foldl_pending _ (fun s x => ?_) _ _).trans ?_

/-! ## Emit -/

@[simp] theorem State.updateTj_pending (s : State) (n : Nat) : (State.updateTj s n).pending = s.pending := by
  simp only [State.updateTj, State.setF_pending, State.setFs_pending]
@[simp] theorem State.updateKnee_pending (s : State) (n : Nat) : (State.updateKnee s n).pending = s.pending := by
  simp only [State.updateKnee]
  repeat' first | with_reducible rfl | simp only [State.setF_pending, State.updateTj_pending] | split
@[simp] theorem State.reduceEntry_pending (s : State) (i c : Nat) : (State.reduceEntry s i c).pending = s.pending := by
  simp only [State.reduceEntry]
  repeat' first | with_reducible rfl | simp only [State.withScan_pending] | split
@[simp] theorem State.comingDemand_pending (s : State) (n : Nat) : (State.comingDemand s n).pending = s.pending := by
  simp only [State.comingDemand]
  repeat' first | with_reducible rfl | simp only [State.setF_pending] | split
@[simp] theorem State.noShot_pending (s : State) (n : Nat) : (State.noShot s n).pending = s.pending := by
  simp only [State.noShot, State.comingDemand_pending, State.setStr_pending]
@[simp] theorem State.dropDark_pending (s : State) (n : Nat) : (State.dropDark s n).pending = s.pending := by
  simp only [State.dropDark, State.setStr_pending]
  repeat' first | with_reducible rfl | simp only [State.reduceEntry_pending] | split | refine (foldl_pending _ (fun s x => ?_) _ _).trans ?_
@[simp] theorem State.schedule_pending (s : State) (n : Nat) : (State.schedule s n).pending = s.pending := by
  simp only [State.schedule, State.setStr_pending, State.pending_ite]
  repeat' first | with_reducible rfl | simp only [State.dropDark_pending, State.noShot_pending, State.reduceEntry_pending, State.setF_pending, State.setStr_pending, State.pending_ite, ite_self] | split | refine (foldl_pending _ (fun s x => ?_) _ _).trans ?_
@[simp] theorem State.demandTarget_pending (s : State) (n : Nat) : (State.demandTarget s n).pending = s.pending := by
  simp only [State.demandTarget, State.setF_pending]
@[simp] theorem State.emxRelatch_pending (s : State) : (State.emxRelatch s).pending = s.pending := by
  simp only [State.emxRelatch, State.withEmit_pending]
@[simp] theorem State.scheduleD_pending (s : State) (n : Nat) : (State.scheduleD s n).pending = s.pending := by
  simp only [State.scheduleD, State.demandTarget_pending, State.emxRelatch_pending, State.schedule_pending]
@[simp] theorem State.emxSend_pending (s : State) (pat : BitVec 64) (seq : Nat) (retry : Bool) (latch : Nat) : (State.emxSend s pat seq retry latch).pending = s.pending := by
  simp only [State.emxSend, State.incMod_pending, State.withEmit_pending]
@[simp] theorem State.emxSendZero_pending (s : State) : (State.emxSendZero s).pending = s.pending := by
  simp only [State.emxSendZero, State.emxSend_pending, State.withEmit_pending]
theorem execEmxFrameSend_pending (t : Nat) (s : State) : Out.pending s.pending (execEmxFrameSend t s) = s.pending := by
  simp only [execEmxFrameSend, State.emxSend_pending, State.withEmit_pending, ite_self, Out.pending_next, Out.pending_ite]
@[simp] theorem State.setVbank_pending (s : State) (n v : Nat) : (State.setVbank s n v).pending = s.pending := by
  simp only [State.setVbank, State.setB_pending, State.setF_pending]
@[simp] theorem State.chargeTrip_pending (s : State) : (State.chargeTrip s).pending = s.pending := by
  simp only [State.chargeTrip, State.raise_pending, State.withEmit_pending]
@[simp] theorem State.readVbank_pending (s : State) (n v : Nat) : (State.readVbank s n v).pending = s.pending := by
  simp only [State.readVbank, State.chargeTrip_pending, State.setVbank_pending, State.pending_ite, ite_self]
@[simp] theorem State.chgOff_pending (s : State) (n : Nat) : (State.chgOff s n).pending = s.pending := by
  simp only [State.chgOff, State.setStr_pending, State.withEmit_pending]
@[simp] theorem State.chgOn_pending (s : State) (n : Nat) : (State.chgOn s n).pending = s.pending := by
  simp only [State.chgOn, State.withEmit_pending]
  repeat' first | with_reducible rfl | simp only [State.setStr_pending] | split | refine (foldl_pending _ (fun s x => ?_) _ _).trans ?_
theorem execChargeString_pending (n v : Nat) (s : State) (t : Nat) : Out.pending s.pending (execChargeString n v s t) = s.pending := by
  simp only [execChargeString, State.chgOff_pending, State.chgOn_pending, State.readVbank_pending, State.withEmit_pending, State.pending_ite, ite_self, Out.pending_next, Out.pending_ite]
theorem execChgSelOff_pending (n : Nat) (s : State) : Out.pending s.pending (execChgSelOff n s) = s.pending := by
  simp only [execChgSelOff, State.chgOff_pending, Out.pending_next]
@[simp] theorem State.modNext_pending (s : State) (n : Nat) (g : NextShot → NextShot) : (State.modNext s n g).pending = s.pending := by
  simp only [State.modNext, State.setStr_pending]
theorem execShotReadyCheck_pending (n v : Nat) (s : State) : Out.pending s.pending (execShotReadyCheck n v s) = s.pending := by
  simp only [execShotReadyCheck]
  repeat' first | with_reducible rfl | simp only [State.modNext_pending, State.raiseIf_pending, State.readVbank_pending, State.reduceEntry_pending, Out.pending_next] | split
theorem execChargeSupplyTrip_pending (s : State) (n v isns dur : Nat) : Out.pending s.pending (execChargeSupplyTrip s n v isns dur) = s.pending := by
  simp only [execChargeSupplyTrip, State.chargeTrip_pending, State.setVbank_pending, State.pending_ite, ite_self, Out.pending_next]
theorem execChgGateTrip_pending (s : State) : Out.pending s.pending (execChgGateTrip s) = s.pending := by
  simp only [execChgGateTrip, State.logEvent_pending, State.raise_pending, State.withEmit_pending, Out.pending_next]
@[simp] theorem State.recordLoss_pending (s : State) : (State.recordLoss s).pending = s.pending := by
  simp only [State.recordLoss, State.nvmPush_pending]
@[simp] theorem State.stringDead_pending (s : State) (n e why : Nat) : (State.stringDead s n e why).pending = s.pending := by
  simp only [State.stringDead, State.chgOff_pending, State.logEvent_pending, State.recordLoss_pending, State.scheduleD_pending, State.setF_pending, State.setStr_pending]
@[simp] theorem State.emitterFound_pending (s : State) (e : Nat) : (State.emitterFound s e).pending = s.pending := by
  simp only [State.emitterFound, State.logEvent_pending, State.raise_pending, State.recordLoss_pending, State.rset_pending, State.scheduleD_pending, State.setStr_pending, State.stringDead_pending, State.updateKnee_pending, State.pending_ite, ite_self]
@[simp] theorem State.takeSlot_pending (s : State) (n : Nat) : (State.takeSlot s n).pending = s.pending := by
  simp only [State.takeSlot]
  repeat' first | with_reducible rfl | simp only [State.reduceEntry_pending, State.setStr_pending] | split
@[simp] theorem State.isoPlace_pending (s : State) (n stage bits : Nat) : (State.isoPlace s n stage bits).pending = s.pending := by
  simp only [State.isoPlace, State.scheduleD_pending, State.setStr_pending, State.takeSlot_pending]
@[simp] theorem State.beginString_pending (s : State) (n : Nat) (queue : List PShot) : (State.beginString s n queue).pending = s.pending := by
  simp only [State.beginString]
  repeat' first | with_reducible rfl | simp only [State.isoPlace_pending, State.scheduleD_pending, State.setStr_pending, State.takeSlot_pending] | split
@[simp] theorem State.noVerdict_pending (s : State) (n : Nat) (k : ShotKind) : (State.noVerdict s n k).pending = s.pending := by
  simp only [State.noVerdict]
  repeat' first | with_reducible rfl | simp only [State.isoPlace_pending, State.setStr_pending] | split
theorem execShotMonitorBurst_pending (n : Nat) (s : State) : Out.pending s.pending (execShotMonitorBurst n s) = s.pending := by
  simp only [execShotMonitorBurst]
  repeat' first | with_reducible rfl | simp only [State.adcAdd_pending, State.noVerdict_pending, State.raise_pending, State.setStr_pending, State.withEmit_pending, ite_self, Out.pending_next, Out.pending_ite] | split
@[simp] theorem State.isoVerdict_pending (s : State) (n stage : Nat) (zero : Bool) : (State.isoVerdict s n stage zero).pending = s.pending := by
  simp only [State.isoVerdict]
  repeat' first | with_reducible rfl | simp only [State.emitterFound_pending, State.isoPlace_pending, State.scheduleD_pending, State.setStr_pending, State.stringDead_pending, State.pending_ite, ite_self] | split
@[simp] theorem State.shortCheck_pending (s : State) (n : Nat) (m : MonShot) (ipk : Nat) : (State.shortCheck s n m ipk).pending = s.pending := by
  simp only [State.shortCheck, State.raise_pending, State.setStr_pending, State.stringDead_pending, State.pending_ite, ite_self]
@[simp] theorem State.burstOver_pending (s : State) (n i : Nat) : (State.burstOver s n i).pending = s.pending := by
  simp only [State.burstOver, State.adcDone_pending, State.withEmit_pending]
@[simp] theorem State.verdict_pending (s : State) (n : Nat) (m : MonShot) (codes : List Nat) : (State.verdict s n m codes).pending = s.pending := by
  simp only [State.verdict]
  repeat' first | with_reducible rfl | simp only [State.isoPlace_pending, State.isoVerdict_pending, State.setStr_pending, State.shortCheck_pending, State.pending_ite, ite_self] | split
theorem execShotVerdict_pending (n : Nat) (convs : List Conv) (s : State) : Out.pending s.pending (execShotVerdict n convs s) = s.pending := by
  simp only [execShotVerdict]
  repeat' first | with_reducible rfl | simp only [State.burstOver_pending, State.noVerdict_pending, State.verdict_pending, ite_self, Out.pending_next, Out.pending_ite] | split
theorem execPeriodicProbeDue_pending (n : Nat) (s : State) : Out.pending s.pending (execPeriodicProbeDue n s) = s.pending := by
  simp only [execPeriodicProbeDue, State.scheduleD_pending, State.setStr_pending, State.pending_ite, ite_self, Out.pending_next, Out.pending_ite]
@[simp] theorem State.lostClear_pending (s : State) (key : Word) : (State.lostClear s key).pending = s.pending := by
  simp only [State.lostClear, State.logEvent_pending, State.pending_ite]
  repeat' first | with_reducible rfl | simp only [State.recordLoss_pending, State.rset_pending, State.setF_pending, State.updateKnee_pending] | split | refine (foldl_pending _ (fun s x => ?_) _ _).trans ?_

/-! ## Kiln -/

@[simp] theorem State.decayString_pending (s : State) (dt n : Nat) : (State.decayString s dt n).pending = s.pending := by
  simp only [State.decayString, State.rset_pending, State.updateTj_pending]
@[simp] theorem State.decayStep_pending (s : State) (dt : Nat) : (State.decayStep s dt).pending = s.pending := by
  simp only [State.decayStep]
  repeat' first | with_reducible rfl | simp only [State.decayString_pending] | split | refine (foldl_pending _ (fun s x => ?_) _ _).trans ?_
@[simp] theorem State.decaySteps_pending (d k rest : Nat) (s : State) : (State.decaySteps d k rest s).pending = s.pending := by
  simp only [State.decaySteps, State.decayStep_pending]
  repeat' first | with_reducible rfl | simp only [State.decayStep_pending] | split | refine (foldl_pending _ (fun s x => ?_) _ _).trans ?_
@[simp] theorem State.decayTo_pending (s : State) (t : Nat) : (State.decayTo s t).pending = s.pending := by
  simp only [State.decayTo, State.decaySteps_pending, State.withKiln_pending]
theorem execKilnDecayStep_pending (s : State) : Out.pending s.pending (execKilnDecayStep s) = s.pending := by
  simp only [execKilnDecayStep, State.decayTo_pending, Out.pending_next]
@[simp] theorem State.spend_pending (s : State) (t e : Nat) : (State.spend s t e).pending = s.pending := by
  simp only [State.spend, State.withKiln_pending]
@[simp] theorem State.chargeModels_pending (s : State) (n v t : Nat) : (State.chargeModels s n v t).pending = s.pending := by
  simp only [State.chargeModels, State.rset_pending, State.spend_pending, State.updateTj_pending]
@[simp] theorem State.chargeCells_pending (s : State) (cells : List Nat) (q : Nat) : (State.chargeCells s cells q).pending = s.pending := by
  simp only [State.chargeCells, State.withKiln_pending]
@[simp] theorem State.eyeMismatch_pending (s : State) : (State.eyeMismatch s).pending = s.pending := by
  simp only [State.eyeMismatch, State.raise_pending, State.withKiln_pending]
theorem execEyeSubwindow_pending (s : State) : Out.pending s.pending (execEyeSubwindow s) = s.pending := by
  simp only [execEyeSubwindow, State.withKiln_pending, ite_self, Out.pending_next, Out.pending_ite]
theorem execEyeInitEnd_pending (s : State) : Out.pending s.pending (execEyeInitEnd s) = s.pending := by
  simp only [execEyeInitEnd, State.setB_pending, State.pending_ite, ite_self, Out.pending_next]
@[simp] theorem State.eyeRestart_pending (s : State) : (State.eyeRestart s).pending = s.pending := by
  simp only [State.eyeRestart, State.setB_pending, State.withKiln_pending]

/-! ## Scan -/

@[simp] theorem State.takeRegion_pending (s : State) : (State.takeRegion s).pending = s.pending := by
  simp only [State.takeRegion, State.raiseIf_pending, State.setB_pending, State.withScan_pending]
@[simp] theorem State.skipCount_pending (s : State) : (State.skipCount s).pending = s.pending := by
  simp only [State.skipCount, State.incMod_pending, State.raise_pending]
@[simp] theorem State.sweepBegin_pending (s : State) : (State.sweepBegin s).pending = s.pending := by
  simp only [State.sweepBegin, State.incMod_pending, State.withScan_pending]
@[simp] theorem State.sweepStart_pending (s : State) (t : Nat) : (State.sweepStart s t).pending = s.pending := by
  simp only [State.sweepStart, State.sweepBegin_pending, State.takeRegion_pending, State.withScan_pending, State.pending_ite, ite_self]
@[simp] theorem State.dropNext_pending (s : State) : (State.dropNext s).pending = s.pending := by
  simp only [State.dropNext, State.withScan_pending]
@[simp] theorem State.dropPlanned_pending (s : State) (c : Nat) : (State.dropPlanned s c).pending = s.pending := by
  simp only [State.dropPlanned]
  repeat' first | with_reducible rfl | simp only [State.reduceEntry_pending, State.setStr_pending] | split | refine (foldl_pending _ (fun s x => ?_) _ _).trans ?_
@[simp] theorem State.followInhibit_pending (s : State) : (State.followInhibit s).pending = s.pending := by
  simp only [State.followInhibit, State.dropNext_pending, State.dropPlanned_pending, State.guardInhibit_pending, State.setB_pending, State.pending_ite, ite_self]
@[simp] theorem State.lockModeFollow_pending (s : State) : (State.lockModeFollow s).pending = s.pending := by
  simp only [State.lockModeFollow, State.withScan_pending, State.pending_ite, ite_self]
@[simp] theorem State.lockUpdate_pending (s : State) (ok : Bool) (t : Nat) : (State.lockUpdate s ok t).pending = s.pending := by
  simp only [State.lockUpdate, State.lockModeFollow_pending, State.raise_pending, State.setB_pending, State.withScan_pending, State.pending_ite, ite_self]
@[simp] theorem State.lockInterval_pending (s : State) : (State.lockInterval s).pending = s.pending := by
  simp only [State.lockInterval, State.lockModeFollow_pending, State.setB_pending, State.withScan_pending, State.pending_ite, ite_self]
@[simp] theorem State.stallCheck_pending (s : State) (t : Nat) : (State.stallCheck s t).pending = s.pending := by
  simp only [State.stallCheck, State.pending_ite]
  repeat' first | with_reducible rfl | simp only [State.incSat_pending, State.raise_pending, State.withScan_pending, State.pending_ite, ite_self] | split
@[simp] theorem State.msnsBase_pending (s : State) (v t : Nat) : (State.msnsBase s v t).pending = s.pending := by
  simp only [State.msnsBase, State.followInhibit_pending, State.lockUpdate_pending, State.setB_pending, State.setF_pending, State.stallCheck_pending, State.withScan_pending, State.pending_ite, ite_self]
@[simp] theorem State.strokeEnd_pending (s : State) (t : Nat) : (State.strokeEnd s t).pending = s.pending := by
  simp only [State.strokeEnd, State.followInhibit_pending, State.lockInterval_pending, State.withScan_pending, State.pending_ite, ite_self]
@[simp] theorem State.planUe_pending (s : State) (i : Nat) : (State.planUe s i).pending = s.pending := by
  simp only [State.planUe, State.logEvent_pending, State.raise_pending]
@[simp] theorem State.tPred_pending (s : State) (t : Nat) (rest : List (Nat × Bool)) : (State.tPred s t rest).2.pending = s.pending := by
  simp only [State.tPred, State.pending_ite, apply_ite Prod.snd]
  repeat' first | with_reducible rfl | simp only [State.fresh_pending, ite_self, apply_ite Prod.snd] | split
@[simp] theorem State.grantFor_pending (s : State) (az : Nat) (rest : List (Nat × Bool)) (t now : Nat) (bad : List Nat) : (State.grantFor s az rest t now bad).pending = s.pending := by
  simp only [State.grantFor]
  repeat' first | with_reducible rfl | simp only [State.comingDemand_pending, State.decayTo_pending, State.demandTarget_pending, State.planUe_pending, State.raiseIf_pending, State.tPred_pending, State.withKiln_pending, State.withScan_pending, State.pending_ite, ite_self] | split | refine (foldl_pending _ (fun s x => ?_) _ _).trans ?_
@[simp] theorem State.grantDue_pending (s : State) (now : Nat) (bad : List Nat) : (State.grantDue s now bad).pending = s.pending := by
  simp only [State.grantDue, State.grantFor_pending, State.pending_ite, ite_self]
  repeat' first | with_reducible rfl | simp only [State.grantFor_pending, State.pending_ite, ite_self] | split
@[simp] theorem State.rearm_pending (s : State) (t : Nat) (bad : List Nat) : (State.rearm s t bad).pending = s.pending := by
  simp only [State.rearm, State.grantDue_pending, State.withScan_pending, State.pending_ite, ite_self]
theorem execEmissionLimitDecide_pending (n : Nat) (mismatch : Bool) (s : State) : Out.pending s.pending (execEmissionLimitDecide n mismatch s) = s.pending := by
  simp only [execEmissionLimitDecide]
  repeat' first | with_reducible rfl | simp only [State.eyeMismatch_pending, State.incSat_pending, State.modNext_pending, State.raise_pending, State.withScan_pending, State.pending_ite, ite_self, Out.pending_next, Out.pending_ite] | split

/-! ## Ctl -/

@[simp] theorem State.ctlApply_pending (s : State) : (State.ctlApply s).pending = s.pending := by
  simp only [State.ctlApply, State.withCtl_pending]
@[simp] theorem State.stick_pending (s : State) (F : Fld) (flags : Nat) (c : Cause) : (State.stick s F flags c).pending = s.pending := by
  simp only [State.stick, State.countCause_pending, State.setF_pending, State.pending_ite, ite_self]
@[simp] theorem State.vspadFollow_pending (s : State) : (State.vspadFollow s).pending = s.pending := by
  simp only [State.vspadFollow, State.setF_pending, State.pending_ite, ite_self]
@[simp] theorem State.drive_pending (s : State) (n v : Nat) : (State.drive s n v).pending = s.pending := by
  simp only [State.drive]
  repeat' first | with_reducible rfl | simp only [State.withCtl_pending] | split
@[simp] theorem State.loopRun_pending (s : State) (n : Nat) : (State.loopRun s n).pending = s.pending := by
  simp only [State.loopRun, State.drive_pending, State.setF_pending, State.withCtl_pending, State.pending_ite, ite_self]
@[simp] theorem State.loopEval_pending (s : State) (n : Nat) : (State.loopEval s n).pending = s.pending := by
  simp only [State.loopEval, State.drive_pending, State.setF_pending, State.setFs_pending, State.stick_pending]
@[simp] theorem State.loopTick_pending (s : State) (n : Nat) : (State.loopTick s n).pending = s.pending := by
  simp only [State.loopTick, State.loopEval_pending, State.loopRun_pending, State.withCtl_pending, State.pending_ite, ite_self]
@[simp] theorem State.mirrorLoop_pending (s : State) : (State.mirrorLoop s).pending = s.pending := by
  simp only [State.mirrorLoop, State.loopEval_pending, State.loopRun_pending, State.pending_ite, ite_self]
@[simp] theorem State.setDac_pending (s : State) (n win out : Nat) : (State.setDac s n win out).pending = s.pending := by
  simp only [State.setDac, State.setF_pending, State.setVbank_pending]
@[simp] theorem State.groupRun_pending (s : State) (n : Nat) : (State.groupRun s n).pending = s.pending := by
  simp only [State.groupRun, State.setF_pending, State.setVbank_pending, State.withCtl_pending, State.pending_ite, ite_self]
  repeat' first | with_reducible rfl | simp only [State.setF_pending] | split | refine (foldl_pending _ (fun s x => ?_) _ _).trans ?_
@[simp] theorem State.groupEval_pending (s : State) (n : Nat) : (State.groupEval s n).pending = s.pending := by
  simp only [State.groupEval, State.setDac_pending, State.pending_ite]
  repeat' first | with_reducible rfl | simp only [State.setF_pending, State.setFs_pending, State.stick_pending] | split | refine (foldl_pending _ (fun s x => ?_) _ _).trans ?_
theorem execChargeGroupEvaluate_pending (n : Nat) (s : State) : Out.pending s.pending (execChargeGroupEvaluate n s) = s.pending := by
  simp only [execChargeGroupEvaluate, State.groupEval_pending, State.groupRun_pending, Out.pending_next]
@[simp] theorem State.eyeTargets_pending (s : State) (g : Grant) (azNext : Option Nat) : (State.eyeTargets s g azNext).pending = s.pending := by
  simp only [State.eyeTargets]
  repeat' first | with_reducible rfl | simp only [State.setF_pending] | split | refine (foldl_pending _ (fun s x => ?_) _ _).trans ?_
@[simp] theorem State.biasSet_pending (s : State) : (State.biasSet s).pending = s.pending := by
  simp only [State.biasSet, State.setB_pending, State.setF_pending, State.setFs_pending]
@[simp] theorem State.biasOk_pending (s : State) : (State.biasOk s).pending = s.pending := by
  simp only [State.biasOk, State.raiseIf_pending, State.setB_pending]
theorem execVspadOvervoltage_pending (s : State) (above : Bool) : Out.pending s.pending (execVspadOvervoltage s above) = s.pending := by
  simp only [execVspadOvervoltage, State.withCtl_pending, Out.pending_next]
@[simp] theorem State.mexcCheck_pending (s : State) (i : Nat) (limit : Bool) : (State.mexcCheck s i limit).pending = s.pending := by
  simp only [State.mexcCheck, State.followInhibit_pending, State.raiseIf_pending, State.setB_pending, State.withCtl_pending, State.withScan_pending, State.pending_ite, ite_self]
@[simp] theorem State.powerMon_pending (s : State) (vin pin : Nat) : (State.powerMon s vin pin).pending = s.pending := by
  simp only [State.powerMon, State.setF_pending, State.withCtl_pending, State.pending_ite, ite_self]
theorem execCtlTick_pending (vspad mexc : Nat) (limit : Bool) (vin pin : Nat) (s : State) : Out.pending s.pending (execCtlTick vspad mexc limit vin pin s) = s.pending := by
  simp only [execCtlTick, Out.pending_next, Out.pending_ite]
  repeat' first | with_reducible rfl | simp only [State.adcMsns_pending, State.adcTick_pending, State.biasOk_pending, State.biasSet_pending, State.groupEval_pending, State.groupRun_pending, State.loopTick_pending, State.mexcCheck_pending, State.powerMon_pending, State.setF_pending, State.vspadFollow_pending, State.withCtl_pending, State.pending_ite, ite_self] | split | refine (foldl_pending _ (fun s x => ?_) _ _).trans ?_
theorem execCtlCommit_pending (s : State) : Out.pending s.pending (execCtlCommit s) = s.pending := by
  simp only [execCtlCommit, State.ctlApply_pending, Out.pending_next]

/-! ## Analog -/

@[simp] theorem State.reqGo_pending (s : State) (n : Nat) : (State.reqGo s n).pending = s.pending := by
  simp only [State.reqGo, State.adcDue_pending, State.pending_ite, ite_self]
theorem execAdc0ReqGo_pending (n : Nat) (s : State) : Out.pending s.pending (execAdc0ReqGo n s) = s.pending := by
  simp only [execAdc0ReqGo, State.reqGo_pending, State.pending_ite, ite_self, Out.pending_next]
@[simp] theorem State.reqUsed_pending (s : State) (n t : Nat) : (State.reqUsed s n t).pending = s.pending := by
  simp only [State.reqUsed, State.withAdc_pending, State.pending_ite, ite_self]
theorem execAdc0ReqTrigger_pending (n t : Nat) (s : State) : Out.pending s.pending (execAdc0ReqTrigger n t s) = s.pending := by
  simp only [execAdc0ReqTrigger, Out.pending_next, Out.pending_ite]
  repeat' first | with_reducible rfl | simp only [State.adcAdd_pending, State.adcStamp_pending, State.raise_pending, State.reqUsed_pending, State.rset_pending, State.withAdc_pending, ite_self, Out.pending_next, Out.pending_ite] | split
theorem State.storeBurst_pending (s : State) (n i : Nat) (l : List (BitVec 16)) : (s.storeBurst n i l).pending = s.pending := by
  induction l generalizing s i with
  | nil => rfl
  | cons w l ih => simp only [State.storeBurst, ih, State.setF_pending]
theorem execAdc0BurstDone_pending (n : Nat) (convs : List Conv) (s : State) : Out.pending s.pending (execAdc0BurstDone n convs s) = s.pending := by
  simp only [execAdc0BurstDone]
  repeat' first | with_reducible rfl | simp only [State.adcDone_pending, State.rset_pending, State.withAdcLast_pending, State.storeBurst_pending, Out.pending_next, Out.pending_ite] | split
@[simp] theorem State.background_pending (s : State) (t : Nat) (c : Conv) : (State.background s t c).pending = s.pending := by
  simp only [State.background, State.setF_pending, State.withAdc_pending, State.withAdcLast_pending]
@[simp] theorem State.firCommit_pending (s : State) : (State.firCommit s).pending = s.pending := by
  simp only [State.firCommit, State.withAdc_pending]
@[simp] theorem State.adcFirWritten_pending (s : State) (v : Word) : (State.adcFirWritten s v).pending = s.pending := by
  simp only [State.adcFirWritten, State.firCommit_pending, State.withAdc_pending, State.pending_ite, ite_self]
theorem execAdc0FirCommit_pending (s : State) : Out.pending s.pending (execAdc0FirCommit s) = s.pending := by
  simp only [execAdc0FirCommit, State.firCommit_pending, Out.pending_next]
@[simp] theorem State.adcEvent_pending (s : State) (t : Nat) (rise : Bool) : (State.adcEvent s t rise).pending = s.pending := by
  simp only [State.adcEvent, State.raise_pending, State.withAdc_pending, State.pending_ite, ite_self]
@[simp] theorem State.adcCompare_pending (s : State) (t : Nat) (y : Int) : (State.adcCompare s t y).pending = s.pending := by
  simp only [State.adcCompare]
  repeat' first | with_reducible rfl | simp only [State.adcEvent_pending, State.withAdc_pending, State.pending_ite, ite_self] | split
@[simp] theorem State.firOut_pending (s : State) (t : Nat) : (State.firOut s t).pending = s.pending := by
  simp only [State.firOut, State.adcCompare_pending, State.setB_pending, State.setFs_pending, State.withAdc_pending, State.pending_ite, ite_self]
@[simp] theorem State.firStep_pending (s : State) (t : Nat) : (State.firStep s t).pending = s.pending := by
  simp only [State.firStep, State.firOut_pending, State.withAdc_pending, State.pending_ite, ite_self]
theorem execFirOutput_pending (t : Nat) (s : State) (convs : List Conv) : Out.pending s.pending (execFirOutput t s convs) = s.pending := by
  simp only [execFirOutput, Out.pending_next, Out.pending_ite]
  repeat' first | with_reducible rfl | simp only [State.background_pending, State.firStep_pending] | split | refine (foldl_pending _ (fun s x => ?_) _ _).trans ?_
theorem execAdc0EvhiRead_pending (s : State) : Out.pending s.pending (execAdc0EvhiRead s) = s.pending := by
  simp only [execAdc0EvhiRead, State.withAdc_pending, Out.pending_next]
@[simp] theorem State.afeValue_pending (s : State) (m : Nat) (x : AfeRaw) (r : Option Int) : (State.afeValue s m x r).2.pending = s.pending := by
  unfold State.afeValue
  repeat' first | with_reducible rfl | simp only [State.fresh_pending, State.pending_ite, ite_self, apply_ite Prod.snd] | split
@[simp] theorem State.chgUpdate_pending (s : State) : (State.chgUpdate s).pending = s.pending := by
  simp only [State.chgUpdate, State.setF_pending, State.withEmit_pending, State.withTherm_pending, State.pending_ite, ite_self]
@[simp] theorem State.boardUpdate_pending (s : State) : (State.boardUpdate s).pending = s.pending := by
  simp only [State.boardUpdate]
  repeat' first | with_reducible rfl | simp only [State.chgUpdate_pending, State.updateTj_pending] | split | refine (foldl_pending _ (fun s x => ?_) _ _).trans ?_
@[simp] theorem State.afeLead_pending (s : State) (m : Nat) (rl : Option Nat) : (State.afeLead s m rl).pending = s.pending := by
  simp only [State.afeLead]
  repeat' first | with_reducible rfl | simp only [State.setF_pending] | split
@[simp] theorem State.afeStore_pending (s : State) (m : Nat) (v : Int) (cl : Bool) : (State.afeStore s m v cl).pending = s.pending := by
  simp only [State.afeStore, State.raiseIf_pending, State.setB_pending, State.setFs_pending]
theorem execAfeConversionDone_pending (m : Nat) (x : AfeRaw) (s : State) : Out.pending s.pending (execAfeConversionDone m x s) = s.pending := by
  simp only [execAfeConversionDone, State.afeLead_pending, State.afeStore_pending, State.afeValue_pending, State.boardUpdate_pending, State.raise_pending, State.raiseIf_pending, State.setB_pending, State.withAfePos_pending, ite_self, Out.pending_next, Out.pending_ite]
@[simp] theorem State.markSuspect_pending (s : State) (raw : Nat → Int) (k : Nat) : (State.markSuspect s raw k).pending = s.pending := by
  simp only [State.markSuspect, State.raise_pending, State.setF_pending, State.withTherm_pending, State.pending_ite, ite_self]
@[simp] theorem State.judgeShutdown_pending (s : State) (i : Nat) : (State.judgeShutdown s i).pending = s.pending := by
  simp only [State.judgeShutdown, State.incSat_pending, State.logEvent_pending, State.raise_pending, State.withTherm_pending, State.pending_ite, ite_self]
@[simp] theorem State.judgeGroup_pending (s : State) (g : Nat) : (State.judgeGroup s g).pending = s.pending := by
  simp only [State.judgeGroup, State.raiseIf_pending, State.withTherm_pending]
@[simp] theorem State.thermStat_pending (s : State) : (State.thermStat s).pending = s.pending := by
  simp only [State.thermStat, State.setB_pending, State.setF_pending]
@[simp] theorem State.thermRaw_pending (s : State) (readings : List (BitVec 16)) : (State.thermRaw s readings).pending = s.pending := by
  simp only [State.thermRaw]
  repeat' first | with_reducible rfl | simp only [State.setF_pending] | split | refine (foldl_pending _ (fun s x => ?_) _ _).trans ?_
@[simp] theorem State.thermMark_pending (s : State) (r : Nat → Int) : (State.thermMark s r).pending = s.pending := by
  simp only [State.thermMark]
  repeat' first | with_reducible rfl | simp only [State.markSuspect_pending] | split | refine (foldl_pending _ (fun s x => ?_) _ _).trans ?_
@[simp] theorem State.thermUsed_pending (s : State) (r : Nat → Int) (susp : Nat → Bool) : (State.thermUsed s r susp).pending = s.pending := by
  simp only [State.thermUsed]
  repeat' first | with_reducible rfl | simp only [State.setFs_pending] | split | refine (foldl_pending _ (fun s x => ?_) _ _).trans ?_
@[simp] theorem State.thermExternal_pending (s : State) (i : Nat) : (State.thermExternal s i).pending = s.pending := by
  simp only [State.thermExternal, State.setFs_pending, State.pending_ite, ite_self]
@[simp] theorem State.thermJudge_pending (s : State) : (State.thermJudge s).pending = s.pending := by
  simp only [State.thermJudge]
  repeat' first | with_reducible rfl | simp only [State.judgeGroup_pending, State.judgeShutdown_pending] | split | refine (foldl_pending _ (fun s x => ?_) _ _).trans ?_
theorem execThermScan_pending (readings : List (BitVec 16)) (s : State) : Out.pending s.pending (execThermScan readings s) = s.pending := by
  simp only [execThermScan, State.biasSet_pending, State.boardUpdate_pending, State.nvmKick_pending, State.thermJudge_pending, State.thermStat_pending, Out.pending_next]
  repeat' first | with_reducible rfl | simp only [State.thermExternal_pending, State.thermMark_pending, State.thermRaw_pending, State.thermUsed_pending] | split | refine (foldl_pending _ (fun s x => ?_) _ _).trans ?_
theorem execDieHardTrip_pending (s : State) : Out.pending s.pending (execDieHardTrip s) = s.pending := by
  simp only [execDieHardTrip, State.logEvent_pending, State.raise_pending, State.raiseReset_pending, State.setB_pending, State.withEmit_pending, Out.pending_next]
theorem execDieHardTripClear_pending (s : State) : Out.pending s.pending (execDieHardTripClear s) = s.pending := by
  simp only [execDieHardTripClear, State.setB_pending, Out.pending_next]

/-! ## Rx -/

@[simp] theorem State.rejectMap_pending (s : State) (c : Nat) : (State.rejectMap s c).pending = s.pending := by
  simp only [State.rejectMap, State.incSat_pending, State.raise_pending, State.setB_pending]
@[simp] theorem State.activateMap_pending (s : State) (c : Nat) (map : List Nat) (dnl : Nat) : (State.activateMap s c map dnl).pending = s.pending := by
  simp only [State.activateMap, State.setB_pending, State.setChan_pending, State.setF_pending, State.pending_ite, ite_self]
@[simp] theorem State.startBootRun_pending (s : State) : (State.startBootRun s).pending = s.pending := by
  simp only [State.startBootRun, State.setB_pending, State.withMash_pending, State.withScan_pending]
@[simp] theorem State.bootMap_pending (s : State) (c : Nat) (h : List Nat) : (State.bootMap s c h).pending = s.pending := by
  simp only [State.bootMap, State.activateMap_pending, State.incMod_pending, State.rejectMap_pending, State.setB_pending, State.setChan_pending, State.pending_ite, ite_self]
@[simp] theorem State.calRun_pending (s : State) : (State.calRun s).pending = s.pending := by
  simp only [State.calRun, State.startBootRun_pending, State.pending_ite, ite_self]
@[simp] theorem State.bootRunEnd_pending (s : State) (hits : List (Nat × List Nat)) : (State.bootRunEnd s hits).pending = s.pending := by
  simp only [State.bootRunEnd, State.setB_pending, State.withMash_pending, State.withScan_pending]
  repeat' first | with_reducible rfl | simp only [State.bootMap_pending, State.setF_pending] | split | refine (foldl_pending _ (fun s x => ?_) _ _).trans ?_
theorem execBgcalMapStaged_pending (c t : Nat) (s : State) : Out.pending s.pending (execBgcalMapStaged c t s) = s.pending := by
  simp only [execBgcalMapStaged, State.rejectMap_pending, State.setB_pending, State.setChan_pending, ite_self, Out.pending_next, Out.pending_ite]
@[simp] theorem State.bgHit_pending (s : State) (c tap : Nat) : (State.bgHit s c tap).pending = s.pending := by
  simp only [State.bgHit, State.setChan_pending, State.pending_ite, ite_self]
@[simp] theorem State.flybackInject_pending (s : State) (t : Nat) : (State.flybackInject s t).pending = s.pending := by
  simp only [State.flybackInject, State.withMash_pending, State.withScan_pending, State.pending_ite, ite_self]
@[simp] theorem State.showAmb_pending (s : State) (c : Nat) (a : Amb) : (State.showAmb s c a).pending = s.pending := by
  simp only [State.showAmb, State.setB_pending, State.setF_pending]
@[simp] theorem State.markStale_pending (s : State) (k : Nat) : (State.markStale s k).pending = s.pending := by
  simp only [State.markStale]
  repeat' first | with_reducible rfl | simp only [State.raise_pending, State.showAmb_pending] | split | refine (foldl_pending _ (fun s x => ?_) _ _).trans ?_
theorem execAmbientGateOpen_pending (c : Nat) (s : State) : Out.pending s.pending (execAmbientGateOpen c s) = s.pending := by
  simp only [execAmbientGateOpen, State.setChan_pending, ite_self, Out.pending_next, Out.pending_ite]
theorem execAmbientGateMidpoint_pending (c : Nat) (s : State) : Out.pending s.pending (execAmbientGateMidpoint c s) = s.pending := by
  simp only [execAmbientGateMidpoint]
  repeat' first | with_reducible rfl | simp only [State.setChan_pending, State.pending_ite, ite_self, Out.pending_next] | split
theorem execAmbientGateClose_pending (c : Nat) (s : State) : Out.pending s.pending (execAmbientGateClose c s) = s.pending := by
  simp only [execAmbientGateClose]
  repeat' first | with_reducible rfl | simp only [State.setChan_pending, State.showAmb_pending, Out.pending_next] | split
@[simp] theorem State.modAcc_pending (s : State) (k : Nat) (g : ColAcc → ColAcc) : (State.modAcc s k g).pending = s.pending := by
  simp only [State.modAcc, State.setCluster_pending]
@[simp] theorem State.windowGone_pending (s : State) (k : Nat) (w : Win) (t : Nat) (cut : Bool) : (State.windowGone s k w t cut).pending = s.pending := by
  simp only [State.windowGone, State.modAcc_pending, State.pending_ite, ite_self]
@[simp] theorem State.closeExpired_pending (s : State) (k t : Nat) : (State.closeExpired s k t).pending = s.pending := by
  simp only [State.closeExpired]
  repeat' first | with_reducible rfl | simp only [State.setCluster_pending, State.windowGone_pending] | split | refine (foldl_pending _ (fun s x => ?_) _ _).trans ?_
theorem execWindowClose_pending (k t : Nat) (s : State) : Out.pending s.pending (execWindowClose k t s) = s.pending := by
  simp only [execWindowClose, State.closeExpired_pending, Out.pending_next]
@[simp] theorem State.openWindow_pending (s : State) (k t wint : Nat) : (State.openWindow s k t wint).pending = s.pending := by
  simp only [State.openWindow, State.modAcc_pending, State.setCluster_pending]
  repeat' first | with_reducible rfl | simp only [State.closeExpired_pending, State.raise_pending, State.setCluster_pending, State.windowGone_pending] | split
@[simp] theorem State.setLevel_pending (s : State) (k n t : Nat) : (State.setLevel s k n t).pending = s.pending := by
  simp only [State.setLevel, State.setCluster_pending, State.setF_pending]
@[simp] theorem State.thinRise_pending (s : State) (k t : Nat) : (State.thinRise s k t).pending = s.pending := by
  simp only [State.thinRise, State.raiseIf_pending, State.setCluster_pending, State.setLevel_pending, State.pending_ite, ite_self]
theorem execThinLevelFall_pending (k t : Nat) (s : State) : Out.pending s.pending (execThinLevelFall k t s) = s.pending := by
  simp only [execThinLevelFall, State.setLevel_pending, State.thinRise_pending, ite_self, Out.pending_next, Out.pending_ite]
@[simp] theorem State.markLoss_pending (s : State) (c : Nat) (old : Bool) : (State.markLoss s c old).pending = s.pending := by
  simp only [State.markLoss, State.raise_pending, State.setChan_pending]
@[simp] theorem State.enqueue_pending (s : State) (c t fine : Nat) (w : Win) (ws : List Win) : (State.enqueue s c t fine w ws).pending = s.pending := by
  simp only [State.enqueue, State.incSat_pending, State.markLoss_pending, State.raise_pending, State.raiseIf_pending, State.setChan_pending, State.thinRise_pending, State.pending_ite, ite_self]
@[simp] theorem State.calHit_pending (s : State) (c ps tap : Nat) : (State.calHit s c ps tap).pending = s.pending := by
  simp only [State.calHit, State.bgHit_pending, State.setChan_pending, State.pending_ite, ite_self]
@[simp] theorem State.coincidence_pending (s : State) (c : Nat) (q : CoSet) : (State.coincidence s c q).pending = s.pending := by
  simp only [State.coincidence, State.pending_ite]
  repeat' first | with_reducible rfl | simp only [State.enqueue_pending, State.incSat_pending, State.setChan_pending, State.pending_ite, ite_self] | split
@[simp] theorem State.joinSet_pending (s : State) (c k i ps tap : Nat) : (State.joinSet s c k i ps tap).pending = s.pending := by
  simp only [State.joinSet, State.coincidence_pending, State.setChan_pending, State.pending_ite, ite_self]
@[simp] theorem State.avalanche_pending (s : State) (c : Nat) (a : Nat × Nat × Nat) : (State.avalanche s c a).pending = s.pending := by
  simp only [State.avalanche, State.pending_ite]
  repeat' first | with_reducible rfl | simp only [State.calHit_pending, State.joinSet_pending, State.setChan_pending, State.pending_ite, ite_self] | split
theorem execRxEvent_pending (c i ps tap : Nat) (s : State) (avs : List (Nat × Nat × Nat)) : Out.pending s.pending (execRxEvent c i ps tap s avs) = s.pending := by
  simp only [execRxEvent, Out.pending_next]
  repeat' first | with_reducible rfl | simp only [State.avalanche_pending] | split | refine (foldl_pending _ (fun s x => ?_) _ _).trans ?_
@[simp] theorem State.capArm_pending (s : State) : (State.capArm s).pending = s.pending := by
  simp only [State.capArm, State.setF_pending, State.withMash_pending]
@[simp] theorem State.capture_pending (s : State) (c : Nat) (w : Word) : (State.capture s c w).pending = s.pending := by
  simp only [State.capture, State.rset_pending, State.setF_pending, State.withMash_pending, State.pending_ite, ite_self]

/-! ## Mash -/

@[simp] theorem State.modChAcc_pending (s : State) (c : Nat) (old : Bool) (g : ChAcc → ChAcc) : (State.modChAcc s c old g).pending = s.pending := by
  simp only [State.modChAcc, State.setChan_pending]
@[simp] theorem State.binError_pending (s : State) (n c : Nat) (old ue : Bool) : (State.binError s n c old ue).pending = s.pending := by
  simp only [State.binError, State.incSat_pending, State.logEvent_pending, State.modChAcc_pending, State.raise_pending, State.setB_pending, State.setBin_pending, State.setF_pending, State.pending_ite, ite_self]
@[simp] theorem State.binUpdate_pending (s : State) (c b w t : Nat) (old : Bool) : (State.binUpdate s c b w t old).pending = s.pending := by
  simp only [State.binUpdate, State.incSat_pending, State.markLoss_pending, State.modChAcc_pending, State.raise_pending, State.raiseIf_pending, State.setBin_pending, State.pending_ite]
  repeat' first | with_reducible rfl | simp only [State.setCluster_pending, State.pending_ite, ite_self] | split
@[simp] theorem State.binUpdateErr_pending (s : State) (c b w t : Nat) (old : Bool) (err : Nat) : (State.binUpdateErr s c b w t old err).pending = s.pending := by
  simp only [State.binUpdateErr, State.binError_pending, State.binUpdate_pending, State.pending_ite, ite_self]
@[simp] theorem State.binEvent_pending (s : State) (c : Nat) (e : FifoE) (w t : Nat) (old : Bool) (errs : List Nat) : (State.binEvent s c e w t old errs).pending = s.pending := by
  simp only [State.binEvent]
  repeat' first | with_reducible rfl | simp only [State.binUpdateErr_pending, State.modChAcc_pending] | split | refine (foldl_pending _ (fun s x => ?_) _ _).trans ?_
theorem execMashDrain_pending (k t : Nat) (par : Bool) (s : State) (errs : List Nat) : Out.pending s.pending (execMashDrain k t par s errs) = s.pending := by
  simp only [execMashDrain]
  repeat' first | with_reducible rfl | simp only [State.binEvent_pending, State.capture_pending, State.incSat_pending, State.markLoss_pending, State.modChAcc_pending, State.raise_pending, State.setChan_pending, State.setCluster_pending, State.thinRise_pending, State.pending_ite, ite_self, Out.pending_next, Out.pending_ite] | split
theorem execZoomPlace_pending (k : Nat) (s : State) : Out.pending s.pending (execZoomPlace k s) = s.pending := by
  simp only [execZoomPlace]
  repeat' first | with_reducible rfl | simp only [State.modChAcc_pending, State.setCluster_pending, Out.pending_next] | split | refine (foldl_pending _ (fun s x => ?_) _ _).trans ?_
@[simp] theorem State.switchMaps_pending (s : State) (t : Nat) : (State.switchMaps s t).pending = s.pending := by
  simp only [State.switchMaps]
  repeat' first | with_reducible rfl | simp only [State.activateMap_pending, State.incMod_pending, State.setChan_pending, State.pending_ite, ite_self] | split | refine (foldl_pending _ (fun s x => ?_) _ _).trans ?_
@[simp] theorem State.markMaps_pending (s : State) : (State.markMaps s).pending = s.pending := by
  simp only [State.markMaps]
  repeat' first | with_reducible rfl | simp only [State.setChan_pending, State.pending_ite, ite_self] | split | refine (foldl_pending _ (fun s x => ?_) _ _).trans ?_
@[simp] theorem State.closeAmb_pending (s : State) : (State.closeAmb s).pending = s.pending := by
  simp only [State.closeAmb]
  repeat' first | with_reducible rfl | simp only [State.modChAcc_pending] | split | refine (foldl_pending _ (fun s x => ?_) _ _).trans ?_
@[simp] theorem State.doSwap_pending (s : State) (t : Nat) : (State.doSwap s t).pending = s.pending := by
  simp only [State.doSwap]
  repeat' first | with_reducible rfl | simp only [State.markMaps_pending, State.markStale_pending, State.setB_pending, State.setF_pending, State.switchMaps_pending, State.withChans_pending, State.withClus_pending, State.withMash_pending, State.pending_ite, ite_self] | split | refine (foldl_pending _ (fun s x => ?_) _ _).trans ?_
@[simp] theorem State.mashTrigger_pending (s : State) (t : Nat) (g : Grant) : (State.mashTrigger s t g).pending = s.pending := by
  simp only [State.mashTrigger, State.doSwap_pending, State.withMash_pending, State.pending_ite, ite_self]
  repeat' first | with_reducible rfl | simp only [State.closeExpired_pending, State.setCluster_pending, State.pending_ite, ite_self] | split | refine (foldl_pending _ (fun s x => ?_) _ _).trans ?_
@[simp] theorem State.spargeEnd_pending (s : State) (t : Nat) : (State.spargeEnd s t).pending = s.pending := by
  simp only [State.spargeEnd, State.doSwap_pending, State.withMash_pending, State.withTun_pending, State.pending_ite, ite_self]
@[simp] theorem State.snapshot_pending (s : State) (c : Nat) (h : Hist) : (State.snapshot s c h).pending = s.pending := by
  simp only [State.snapshot, State.raise_pending, State.setB_pending, State.pending_ite]
  repeat' first | with_reducible rfl | simp only [State.rset_pending] | split | refine (foldl_pending _ (fun s x => ?_) _ _).trans ?_
@[simp] theorem State.passHist_pending (s : State) (c : Nat) (h : Hist) : (State.passHist s c h).pending = s.pending := by
  simp only [State.passHist, State.snapshot_pending, State.withHists_pending]
  repeat' first | with_reducible rfl | simp only [State.rset_pending] | split | refine (foldl_pending _ (fun s x => ?_) _ _).trans ?_
@[simp] theorem State.spargeClear_pending (s : State) (c : Nat) (errs : List (Nat × Bool)) : (State.spargeClear s c errs).pending = s.pending := by
  simp only [State.spargeClear, State.modChAcc_pending, State.withTun_pending]
  repeat' first | with_reducible rfl | simp only [State.binError_pending] | split | refine (foldl_pending _ (fun s x => ?_) _ _).trans ?_
@[simp] theorem State.spargeHist_pending (s : State) (c : Nat) (errs : List (Nat × Bool)) : (State.spargeHist s c errs).1.pending = s.pending := by
  simp only [State.spargeHist, State.passHist_pending, State.spargeClear_pending, State.pending_ite, ite_self, apply_ite Prod.fst]
@[simp] theorem State.snapArm_pending (s : State) : (State.snapArm s).pending = s.pending := by
  simp only [State.snapArm, State.setB_pending, State.withMash_pending]
@[simp] theorem State.tunClear_pending (s : State) : (State.tunClear s).pending = s.pending := by
  simp only [State.tunClear, State.setB_pending, State.setF_pending, State.withChans_pending]
  repeat' first | with_reducible rfl | simp only [State.setCluster_pending, State.setF_pending, State.withHists_pending, State.withMash_pending, State.withTun_pending] | split | refine (foldl_pending _ (fun s x => ?_) _ _).trans ?_
@[simp] theorem State.mashInvalid_pending (s : State) : (State.mashInvalid s).pending = s.pending := by
  simp only [State.mashInvalid, State.withClus_pending]

/-! ## Lauter -/

@[simp] theorem State.modLau_pending (s : State) (m : Nat) (g : LauCol → LauCol) : (State.modLau s m g).pending = s.pending := by
  simp only [State.modLau, State.withLau_pending]
@[simp] theorem State.hzdAssert_pending (s : State) : (State.hzdAssert s).pending = s.pending := by
  simp only [State.hzdAssert, State.raiseIf_pending, State.setB_pending]
@[simp] theorem State.lauOutcome_pending (s : State) (m : Nat) (o : FieldOut) (eff : SMap Word) : (State.lauOutcome s m o eff).pending = s.pending := by
  simp only [State.lauOutcome, State.hzdAssert_pending, State.modLau_pending, State.withLau_pending, State.pending_ite, ite_self]
@[simp] theorem State.lauExtract_pending (s : State) (c : Nat) : (State.lauExtract s c).1.pending = s.pending := by
  simp only [State.lauExtract, State.incSat_pending, State.lauOutcome_pending, State.raise_pending, State.raiseIf_pending, State.withHists_pending, State.withLau_pending, State.pending_ite, ite_self]
@[simp] theorem State.lauLatch_pending (s : State) (col : LauCol) (fue : List Nat) : (State.lauLatch s col fue).pending = s.pending := by
  simp only [State.lauLatch, State.withLau_pending]
  repeat' first | with_reducible rfl | simp only [State.logEvent_pending, State.raise_pending] | split | refine (foldl_pending _ (fun s x => ?_) _ _).trans ?_
@[simp] theorem State.lauSummary_pending (s : State) (m : Nat) : (State.lauSummary s m).pending = s.pending := by
  simp only [State.lauSummary, State.modLau_pending, State.setB_pending, State.setF_pending, State.withLau_pending, State.pending_ite, ite_self]

/-! ## Tin -/

@[simp] theorem State.tinPush_pending (s : State) (n : Nat) (stream : Bool) (w0 w1 : Nat) : (State.tinPush s n stream w0 w1).pending = s.pending := by
  simp only [State.tinPush, State.incSat_pending, State.raise_pending, State.setTin_pending, State.pending_ite, ite_self]
@[simp] theorem State.tinStop_pending (s : State) (n : Nat) (b : TinStamp) : (State.tinStop s n b).pending = s.pending := by
  simp only [State.tinStop]
  repeat' first | with_reducible rfl | simp only [State.raiseIf_pending, State.setTin_pending, State.tinPush_pending, State.pending_ite, ite_self] | split
theorem execTinEdge_pending (m : Nat) (rising : Bool) (tap : Nat) (s : State) : Out.pending s.pending (execTinEdge m rising tap s) = s.pending := by
  simp only [execTinEdge, State.incSat_pending, State.raise_pending, State.setTin_pending, State.tinPush_pending, ite_self, Out.pending_next, Out.pending_ite]
  repeat' first | with_reducible rfl | simp only [State.setTin_pending, State.tinStop_pending] | split | refine (foldl_pending _ (fun s x => ?_) _ _).trans ?_
@[simp] theorem State.tinCal_pending (s : State) (n : Nat) (h : List Nat) : (State.tinCal s n h).pending = s.pending := by
  simp only [State.tinCal, State.setF_pending, State.setTin_pending]
theorem execTinInterpCal_pending (n : Nat) (h : List Nat) (s : State) : Out.pending s.pending (execTinInterpCal n h s) = s.pending := by
  simp only [execTinInterpCal, State.tinCal_pending, State.pending_ite, ite_self, Out.pending_next]
@[simp] theorem State.tinPop_pending (s : State) (n : Nat) : (State.tinPop s n).pending = s.pending := by
  simp only [State.tinPop, State.setTin_pending]
theorem execTinQhiRead_pending (n : Nat) (s : State) : Out.pending s.pending (execTinQhiRead n s) = s.pending := by
  simp only [execTinQhiRead, State.tinPop_pending, State.pending_ite, ite_self, Out.pending_next]
@[simp] theorem State.tinCfgWrite_pending (s : State) (n : Nat) (v : Word) : (State.tinCfgWrite s n v).pending = s.pending := by
  simp only [State.tinCfgWrite, State.rset_pending]
@[simp] theorem State.tinTake_pending (s : State) (n : Nat) : (State.tinTake s n).pending = s.pending := by
  simp only [State.tinTake, State.setTin_pending, State.pending_ite, ite_self]
@[simp] theorem State.tinFollow_pending (s : State) : (State.tinFollow s).pending = s.pending := by
  simp only [State.tinFollow]
  repeat' first | with_reducible rfl | simp only [State.tinTake_pending] | split | refine (foldl_pending _ (fun s x => ?_) _ _).trans ?_
@[simp] theorem State.tinPhaseStep_pending (s : State) : (State.tinPhaseStep s).pending = s.pending := by
  simp only [State.tinPhaseStep]
  repeat' first | with_reducible rfl | simp only [State.setTin_pending, State.pending_ite, ite_self] | split | refine (foldl_pending _ (fun s x => ?_) _ _).trans ?_
@[simp] theorem State.tinPark_pending (s : State) : (State.tinPark s).pending = s.pending := by
  simp only [State.tinPark]
  repeat' first | with_reducible rfl | simp only [State.setTin_pending] | split | refine (foldl_pending _ (fun s x => ?_) _ _).trans ?_

/-! ## Wort -/

@[simp] theorem State.omitFrame_pending (s : State) (st frame cause : Nat) : (State.omitFrame s st frame cause).pending = s.pending := by
  simp only [State.omitFrame, State.incSat_pending, State.modStream_pending, State.pending_ite, ite_self]
@[simp] theorem State.setDgOpen_pending (s : State) (k : Nat) (d : Option (List OutRec × Nat)) : (State.setDgOpen s k d).pending = s.pending := by
  simp only [State.setDgOpen, State.withWort_pending]
@[simp] theorem State.closeDgram_pending (s : State) (k : Nat) : (State.closeDgram s k).pending = s.pending := by
  simp only [State.closeDgram]
  repeat' first | with_reducible rfl | simp only [State.setDgOpen_pending, State.withWort_pending] | split
@[simp] theorem State.dgramAdd_pending (s : State) (k : Nat) (r : OutRec) : (State.dgramAdd s k r).pending = s.pending := by
  simp only [State.dgramAdd, State.closeDgram_pending, State.setDgOpen_pending, State.pending_ite, ite_self]
theorem execDatagramCloseTimeout_pending (s : State) : Out.pending s.pending (execDatagramCloseTimeout s) = s.pending := by
  simp only [execDatagramCloseTimeout, State.closeDgram_pending, State.pending_ite, ite_self, Out.pending_next]
@[simp] theorem State.writeRec_pending (s : State) (st : Nat) (r : OutRec) : (State.writeRec s st r).pending = s.pending := by
  simp only [State.writeRec, State.dgramAdd_pending, State.modStream_pending, State.raiseIf_pending, State.pending_ite, ite_self]
@[simp] theorem State.startHead_pending (s : State) (st : Nat) : (State.startHead s st).pending = s.pending := by
  simp only [State.startHead]
  repeat' first | with_reducible rfl | simp only [State.modStream_pending, State.raiseIf_pending, State.writeRec_pending, State.pending_ite] | split | refine (foldl_pending _ (fun s x => ?_) _ _).trans ?_
@[simp] theorem State.finishHead_pending (s : State) (st : Nat) : (State.finishHead s st).pending = s.pending := by
  simp only [State.finishHead, State.closeDgram_pending, State.modStream_pending, State.startHead_pending, State.pending_ite, ite_self]
theorem State.settle_pending (s : State) (st k : Nat) : (s.settle st k).pending = s.pending := by
  induction k generalizing s with
  | zero => rfl
  | succ k ih =>
    unfold State.settle
    split
    · rfl
    · dsimp only
      split
      · rw [ih, State.finishHead_pending, State.modStream_pending]
      · rw [State.modStream_pending]
@[simp] theorem State.emitEcho_pending (s : State) (st : Nat) : (State.emitEcho s st).pending = s.pending := by
  simp only [State.emitEcho]
  repeat' first | with_reducible rfl | simp only [State.modStream_pending, State.writeRec_pending, State.settle_pending, State.pending_ite, ite_self] | split
theorem execEchoRecordEmit_pending (st : Nat) (s : State) : Out.pending s.pending (execEchoRecordEmit st s) = s.pending := by
  simp only [execEchoRecordEmit, State.emitEcho_pending, State.pending_ite, ite_self, Out.pending_next]
@[simp] theorem State.admitCol_pending (s : State) (st : Nat) (c : ColInfo) : (State.admitCol s st c).pending = s.pending := by
  simp only [State.admitCol, State.modStream_pending, State.omitFrame_pending, State.raise_pending, State.raiseIf_pending, State.setF_pending, State.startHead_pending, State.settle_pending, State.pending_ite, ite_self]
@[simp] theorem State.wortSkip_pending (s : State) : (State.wortSkip s).pending = s.pending := by
  simp only [State.wortSkip, State.omitFrame_pending, State.withWort_pending, State.pending_ite, ite_self]
@[simp] theorem State.wortScan_pending (s : State) : (State.wortScan s).pending = s.pending := by
  simp only [State.wortScan, State.withWort_pending]
theorem State.emitAll_pending (s : State) (st k : Nat) : (s.emitAll st k).pending = s.pending := by
  induction k generalizing s with
  | zero => rfl
  | succ k ih => rw [State.emitAll, ih, State.emitEcho_pending]
@[simp] theorem State.wortDone_pending (s : State) (m ch : Nat) (es : List Echo) : (State.wortDone s m ch es).pending = s.pending := by
  simp only [State.wortDone, State.withWort_pending, State.settle_pending]
@[simp] theorem State.forgetDone_pending (s : State) (m : Nat) : (State.forgetDone s m).pending = s.pending := by
  simp only [State.forgetDone, State.withWort_pending]
@[simp] theorem State.wortForget_pending (s : State) (m : Nat) : (State.wortForget s m).pending = s.pending := by
  simp only [State.wortForget, State.forgetDone_pending, State.emitAll_pending]
@[simp] theorem State.cutStream_pending (s : State) (st : Nat) (frames : List Nat) (x : Resumed) : (State.cutStream s st frames x).pending = s.pending := by
  simp only [State.cutStream, State.modStream_pending, State.raiseIf_pending]
@[simp] theorem State.cutDwl_pending (s : State) (frames : List Nat) (lost : List GapRun) (cause : Nat) : (State.cutDwl s frames lost cause).pending = s.pending := by
  simp only [State.cutDwl, State.cutStream_pending, State.incSat_pending, State.modStream_pending, State.startHead_pending, State.pending_ite, ite_self]
@[simp] theorem State.anchorCommit_pending (s : State) : (State.anchorCommit s).pending = s.pending := by
  simp only [State.anchorCommit, State.withAnchor_pending]
@[simp] theorem State.cutEth_pending (s : State) (frames : List Nat) (lost : List GapRun) (cause : Nat) (pts : List Dgram) (op : Option (List OutRec × Nat)) : (State.cutEth s frames lost cause pts op).pending = s.pending := by
  simp only [State.cutEth, State.cutStream_pending, State.startHead_pending, State.withWort_pending]

/-! ## Dwl -/

@[simp] theorem State.frameSent_pending (s : State) (f : DwlFrame) : (State.frameSent s f).pending = s.pending := by
  simp only [State.frameSent, State.incMod_pending, State.withWort_pending, State.pending_ite, ite_self]
@[simp] theorem State.dwlSettle_pending (s : State) : (State.dwlSettle s).pending = s.pending := by
  simp only [State.dwlSettle]
  repeat' first | with_reducible rfl | simp only [State.frameSent_pending, State.withDwl_pending] | split | refine (foldl_pending _ (fun s x => ?_) _ _).trans ?_
@[simp] theorem State.dwlStart_pending (s : State) (lane chan : Nat) (hdr : Word) (pay : List Word) (recs : List OutRec) : (State.dwlStart s lane chan hdr pay recs).pending = s.pending := by
  simp only [State.dwlStart, State.withDwl_pending]
@[simp] theorem State.wortUe_pending (s : State) : (State.wortUe s).pending = s.pending := by
  simp only [State.wortUe, State.fresh_pending, State.incSat_pending, State.logEvent_pending, State.raise_pending]
@[simp] theorem State.wortCe_pending (s : State) : (State.wortCe s).pending = s.pending := by
  simp only [State.wortCe, State.incSat_pending, State.raise_pending]
@[simp] theorem State.wortEcc_pending (s : State) (err : Option (Nat × Bool)) : (State.wortEcc s err).pending = s.pending := by
  simp only [State.wortEcc]
  repeat' first | with_reducible rfl | simp only [State.cutDwl_pending, State.modStream_pending, State.wortCe_pending, State.wortUe_pending] | split
theorem execDwlPointFrame_pending (err : Option (Nat × Bool)) (s : State) : Out.pending s.pending (execDwlPointFrame err s) = s.pending := by
  simp only [execDwlPointFrame, State.dwlSettle_pending, State.dwlStart_pending, State.modStream_pending, State.setF_pending, State.withDwl_pending, State.wortEcc_pending, ite_self, Out.pending_next, Out.pending_ite]
theorem execDwlLrsFrame_pending (s : State) : Out.pending s.pending (execDwlLrsFrame s) = s.pending := by
  simp only [execDwlLrsFrame, State.dwlSettle_pending, State.dwlStart_pending, State.withDwl_pending, ite_self, Out.pending_next, Out.pending_ite]
@[simp] theorem State.sidePush_pending (s : State) (lane : Nat) (msg : List Word) : (State.sidePush s lane msg).pending = s.pending := by
  simp only [State.sidePush, State.withDwl_pending, State.pending_ite, ite_self]
@[simp] theorem State.sideSend_pending (s : State) : (State.sideSend s).pending = s.pending := by
  simp only [State.sideSend]
  repeat' first | with_reducible rfl | simp only [State.dwlStart_pending, State.withDwl_pending, State.pending_ite, ite_self] | split
@[simp] theorem State.dwlDown_pending (s : State) : (State.dwlDown s).pending = s.pending := by
  simp only [State.dwlDown, State.cutDwl_pending, State.dwlSettle_pending, State.incSat_pending, State.raise_pending, State.setB_pending, State.withDwl_pending, State.pending_ite, ite_self]
@[simp] theorem State.dwlFollow_pending (s : State) : (State.dwlFollow s).pending = s.pending := by
  simp only [State.dwlFollow, State.dwlDown_pending, State.withDwl_pending, State.pending_ite, ite_self]
@[simp] theorem State.dwlReset_pending (s : State) : (State.dwlReset s).pending = s.pending := by
  simp only [State.dwlReset, State.cutDwl_pending]
  repeat' first | with_reducible rfl | simp only [State.dwlSettle_pending, State.raise_pending, State.rset_pending, State.setB_pending, State.withDwl_pending] | split | refine (foldl_pending _ (fun s x => ?_) _ _).trans ?_
theorem execDwlCreditReceive_pending (lane : Nat) (ccum : BitVec 16) (ok : Bool) (s : State) : Out.pending s.pending (execDwlCreditReceive lane ccum ok s) = s.pending := by
  simp only [execDwlCreditReceive, State.dwlSettle_pending, State.incSat_pending, State.raise_pending, State.setB_pending, State.setF_pending, State.withDwl_pending, State.pending_ite, ite_self, Out.pending_next, Out.pending_ite]
theorem execDwlCreditTimeout_pending (old : Bool) (s : State) : Out.pending s.pending (execDwlCreditTimeout old s) = s.pending := by
  simp only [execDwlCreditTimeout, State.raise_pending, ite_self, Out.pending_next, Out.pending_ite]

/-! ## Time -/

@[simp] theorem State.ctrTo_pending (s : State) (n : Int) : (State.ctrTo s n).pending = s.pending := by
  simp only [State.ctrTo, State.line_pending, State.raise_pending, State.setFs_pending, State.withTime_pending, State.pending_ite, ite_self]
@[simp] theorem State.ppsCheck_pending (s : State) : (State.ppsCheck s).pending = s.pending := by
  simp only [State.ppsCheck, State.setB_pending, State.withPins_pending, State.pending_ite, ite_self]
@[simp] theorem State.tclkEdges_pending (s : State) (k : Nat) : (State.tclkEdges s k).pending = s.pending := by
  simp only [State.tclkEdges, State.adcStamp_pending, State.ctrTo_pending, State.line_pending, State.ppsCheck_pending, State.raise_pending, State.setB_pending, State.tinFollow_pending, State.tinPhaseStep_pending, State.withNow_pending, State.withTime_pending, State.pending_ite, ite_self]
@[simp] theorem State.tclkTick_pending (s : State) : (State.tclkTick s).pending = s.pending := by
  simp only [State.tclkTick, State.dwlSettle_pending, State.sideSend_pending, State.tclkEdges_pending]
theorem execTimeOffsetApply_pending (s : State) : Out.pending s.pending (execTimeOffsetApply s) = s.pending := by
  simp only [execTimeOffsetApply, State.tclkEdges_pending, State.pending_ite, ite_self, Out.pending_next]
theorem execTimeCounterWrap_pending (s : State) : Out.pending s.pending (execTimeCounterWrap s) = s.pending := by
  simp only [execTimeCounterWrap, State.tclkEdges_pending, Out.pending_next]
theorem execPpsPulse_pending (s : State) : Out.pending s.pending (execPpsPulse s) = s.pending := by
  simp only [execPpsPulse, State.ppsCheck_pending, Out.pending_next]
theorem execPpsPulseEnd_pending (s : State) : Out.pending s.pending (execPpsPulseEnd s) = s.pending := by
  simp only [execPpsPulseEnd, State.withPins_pending, State.pending_ite, ite_self, Out.pending_next]
theorem execTimeNsRead_pending (s : State) : Out.pending s.pending (execTimeNsRead s) = s.pending := by
  simp only [execTimeNsRead, State.setF_pending, Out.pending_next]
@[simp] theorem State.timeIncWrite_pending (s : State) (v : Word) : (State.timeIncWrite s v).pending = s.pending := by
  simp only [State.timeIncWrite, State.raiseIf_pending, State.rset_pending]
theorem execTimeIncWrite_pending (v : Word) (s : State) : Out.pending s.pending (execTimeIncWrite v s) = s.pending := by
  simp only [execTimeIncWrite, State.timeIncWrite_pending, Out.pending_next]
@[simp] theorem State.timeOfsWrite_pending (s : State) (v : Word) : (State.timeOfsWrite s v).pending = s.pending := by
  simp only [State.timeOfsWrite, State.setB_pending, State.withTime_pending]
theorem execTimeOfsWrite_pending (v : Word) (s : State) : Out.pending s.pending (execTimeOfsWrite v s) = s.pending := by
  simp only [execTimeOfsWrite, State.timeOfsWrite_pending, Out.pending_next]
@[simp] theorem State.timeInvalid_pending (s : State) : (State.timeInvalid s).pending = s.pending := by
  simp only [State.timeInvalid, State.setB_pending, State.withPins_pending]
@[simp] theorem State.timeCtrlWrite_pending (s : State) (m : Nat) (v : Word) : (State.timeCtrlWrite s m v).pending = s.pending := by
  simp only [State.timeCtrlWrite, State.rset_pending, State.setB_pending, State.timeInvalid_pending, State.pending_ite, ite_self]
theorem execTimeCtrlWrite_pending (m : Nat) (v : Word) (s : State) : Out.pending s.pending (execTimeCtrlWrite m v s) = s.pending := by
  simp only [execTimeCtrlWrite, State.timeCtrlWrite_pending, Out.pending_next]
@[simp] theorem State.timePpsWrite_pending (s : State) (v : Word) : (State.timePpsWrite s v).pending = s.pending := by
  simp only [State.timePpsWrite, State.raise_pending, State.rset_pending, State.setB_pending, State.pending_ite, ite_self]
theorem execTimePpsWrite_pending (v : Word) (s : State) : Out.pending s.pending (execTimePpsWrite v s) = s.pending := by
  simp only [execTimePpsWrite, State.timePpsWrite_pending, Out.pending_next]

/-! ## Lane -/

@[simp] theorem State.laneRates_pending (s : State) : (State.laneRates s).pending = s.pending := by
  simp only [State.laneRates]
  repeat' first | with_reducible rfl | simp only [State.setF_pending] | split | refine (foldl_pending _ (fun s x => ?_) _ _).trans ?_
@[simp] theorem State.dgRelease_pending (s : State) (k q : Nat) : (State.dgRelease s k q).pending = s.pending := by
  simp only [State.dgRelease, State.pending_ite]
  repeat' first | with_reducible rfl | simp only [State.withWort_pending, State.pending_ite, ite_self] | split
@[simp] theorem State.dgRecall_pending (s : State) (p : Nat) : (State.dgRecall s p).pending = s.pending := by
  simp only [State.dgRecall]
  repeat' first | with_reducible rfl | simp only [State.dgRelease_pending, State.setEth_pending] | split | refine (foldl_pending _ (fun s x => ?_) _ _).trans ?_
@[simp] theorem State.ethDown_pending (s : State) (p : Nat) : (State.ethDown s p).pending = s.pending := by
  simp only [State.ethDown, State.dgRecall_pending, State.incMod_pending, State.raise_pending, State.setB_pending, State.pending_ite, ite_self]
@[simp] theorem State.laneLost_pending (s : State) (n : Nat) : (State.laneLost s n).pending = s.pending := by
  simp only [State.laneLost, State.pending_ite]
  repeat' first | with_reducible rfl | simp only [State.dwlFollow_pending, State.ethDown_pending, State.raise_pending, State.setB_pending, State.setF_pending, State.setLane_pending] | split
theorem execLaneAlignAcquired_pending (n : Nat) (s : State) : Out.pending s.pending (execLaneAlignAcquired n s) = s.pending := by
  simp only [execLaneAlignAcquired, State.setB_pending, State.setLane_pending, State.pending_ite, ite_self, Out.pending_next, Out.pending_ite]
theorem execLaneCodeError_pending (n good kind : Nat) (s : State) (lost : Bool) : Out.pending s.pending (execLaneCodeError n good kind s lost) = s.pending := by
  simp only [execLaneCodeError, State.incSat_pending, State.laneLost_pending, State.setLane_pending, State.pending_ite, ite_self, Out.pending_next, Out.pending_ite]
@[simp] theorem State.setDfe_pending (s : State) (n : Nat) (d1 d2 d3 : BitVec 6) : (State.setDfe s n d1 d2 d3).pending = s.pending := by
  simp only [State.setDfe, State.setF_pending]
theorem execLaneAdaptDone_pending (n : Nat) (eyes : List (Nat × Nat)) (d1 d2 d3 : BitVec 6) (s : State) : Out.pending s.pending (execLaneAdaptDone n eyes d1 d2 d3 s) = s.pending := by
  simp only [execLaneAdaptDone, State.raiseIf_pending, State.setB_pending, State.setDfe_pending, State.setF_pending, State.setLane_pending, ite_self, Out.pending_next, Out.pending_ite]
theorem execEyeMeasure_pending (n h v : Nat) (d1 d2 d3 : BitVec 6) (s : State) : Out.pending s.pending (execEyeMeasure n h v d1 d2 d3 s) = s.pending := by
  simp only [execEyeMeasure, State.raiseIf_pending, State.setDfe_pending, State.setF_pending, State.pending_ite, ite_self, Out.pending_next, Out.pending_ite]
theorem execLanePllLock_pending (s : State) : Out.pending s.pending (execLanePllLock s) = s.pending := by
  simp only [execLanePllLock, State.setB_pending, State.pending_ite, ite_self, Out.pending_next]
theorem execLanePllLoss_pending (s : State) : Out.pending s.pending (execLanePllLoss s) = s.pending := by
  simp only [execLanePllLoss, Out.pending_next]
  repeat' first | with_reducible rfl | simp only [State.laneLost_pending, State.setB_pending] | split | refine (foldl_pending _ (fun s x => ?_) _ _).trans ?_

/-! ## Eth -/

@[simp] theorem State.prpCommit_pending (s : State) : (State.prpCommit s).pending = s.pending := by
  simp only [State.prpCommit, State.raiseIf_pending, State.setB_pending]
@[simp] theorem State.ethCfgWrite_pending (s : State) (p : Nat) (v : Word) : (State.ethCfgWrite s p v).pending = s.pending := by
  simp only [State.ethCfgWrite, State.ethDown_pending, State.laneRates_pending]
  repeat' first | with_reducible rfl | simp only [State.rset_pending, State.setF_pending] | split
theorem execEthModeWrite_pending (p : Nat) (v : Word) (s : State) : Out.pending s.pending (execEthModeWrite p v s) = s.pending := by
  simp only [execEthModeWrite, State.ethCfgWrite_pending, State.pending_ite, ite_self, Out.pending_next]
@[simp] theorem State.ethKick_pending (s : State) (p : Nat) : (State.ethKick s p).pending = s.pending := by
  simp only [State.ethKick, State.pending_ite]
  repeat' first | with_reducible rfl | simp only [State.setEth_pending] | split
@[simp] theorem State.ethPush_pending (s : State) (p : Nat) (f : TxFr) : (State.ethPush s p f).pending = s.pending := by
  simp only [State.ethPush, State.ethKick_pending, State.setEth_pending]
@[simp] theorem State.ipOpen_pending (s : State) (f : TxFr) : (State.ipOpen s f).1.pending = s.pending := by
  simp only [State.ipOpen]
  repeat' first | with_reducible rfl | simp only [State.fresh_pending] | split
@[simp] theorem State.ethSend_pending (s : State) (p : Nat) (f : TxFr) : (State.ethSend s p f).pending = s.pending := by
  simp only [State.ethSend, State.ethPush_pending, State.incMod_pending, State.ipOpen_pending, State.setB_pending, State.pending_ite, ite_self]
@[simp] theorem State.txcmdWrite_pending (s : State) (p : Nat) (v : Word) : (State.txcmdWrite s p v).pending = s.pending := by
  simp only [State.txcmdWrite, State.ethSend_pending, State.incSat_pending, State.rset_pending, State.setB_pending, State.pending_ite, ite_self]
theorem execEthTxcmdGo_pending (p : Nat) (v : Word) (s : State) : Out.pending s.pending (execEthTxcmdGo p v s) = s.pending := by
  simp only [execEthTxcmdGo, State.txcmdWrite_pending, State.pending_ite, ite_self, Out.pending_next]
@[simp] theorem State.dgSent_pending (s : State) (k q : Nat) : (State.dgSent s k q).pending = s.pending := by
  simp only [State.dgSent, State.withWort_pending]
theorem execEthFrameTransmitDone_pending (p d : Nat) (s : State) (par : Bool) : Out.pending s.pending (execEthFrameTransmitDone p d s par) = s.pending := by
  simp only [execEthFrameTransmitDone, Out.pending_next, Out.pending_ite]
  repeat' first | with_reducible rfl | simp only [State.dgRelease_pending, State.dgSent_pending, State.ethKick_pending, State.incMod_pending, State.incSat_pending, State.raise_pending, State.setB_pending, State.setEth_pending, State.pending_ite, ite_self, Out.pending_next] | split
theorem execEthTxts2Read_pending (p : Nat) (s : State) : Out.pending s.pending (execEthTxts2Read p s) = s.pending := by
  simp only [execEthTxts2Read, State.setEth_pending, State.pending_ite, ite_self, Out.pending_next]
theorem execEthLinkChange_pending (p : Nat) (up refused : Bool) (s : State) : Out.pending s.pending (execEthLinkChange p up refused s) = s.pending := by
  simp only [execEthLinkChange, State.ethDown_pending, State.ethKick_pending, State.raiseIf_pending, State.setB_pending, ite_self, Out.pending_next, Out.pending_ite]
@[simp] theorem State.ethReset_pending (s : State) (p : Nat) : (State.ethReset s p).pending = s.pending := by
  simp only [State.ethReset]
  repeat' first | with_reducible rfl | simp only [State.dgRecall_pending, State.ethDown_pending, State.rset_pending, State.setEth_pending] | split | refine (foldl_pending _ (fun s x => ?_) _ _).trans ?_
@[simp] theorem State.dropHop_pending (s : State) (q ip : Nat) : (State.dropHop s q ip).pending = s.pending := by
  simp only [State.dropHop]
  repeat' first | with_reducible rfl | simp only [State.dgRelease_pending, State.setEth_pending] | split | refine (foldl_pending _ (fun s x => ?_) _ _).trans ?_
@[simp] theorem State.arpAsk_pending (s : State) (p : Nat) (ip : Nat) : (State.arpAsk s p ip).pending = s.pending := by
  simp only [State.arpAsk, State.ethSend_pending, State.setEth_pending, State.pending_ite, ite_self]
theorem execArpRefresh_pending (p : Nat) (ip : Word) (s : State) : Out.pending s.pending (execArpRefresh p ip s) = s.pending := by
  simp only [execArpRefresh, Out.pending_next, Out.pending_ite]
  repeat' first | with_reducible rfl | simp only [State.dropHop_pending, State.ethSend_pending, State.setEth_pending, ite_self, Out.pending_next, Out.pending_ite] | split
@[simp] theorem State.hwReply_pending (s : State) (p : Nat) (body : TxBody) : (State.hwReply s p body).pending = s.pending := by
  simp only [State.hwReply, State.ethSend_pending, State.incSat_pending, State.setEth_pending, State.pending_ite, ite_self]
@[simp] theorem State.ethFilt_pending (s : State) (p : Nat) : (State.ethFilt s p).pending = s.pending := by
  simp only [State.ethFilt, State.incSat_pending]
@[simp] theorem State.qstat_pending (s : State) (p : Nat) : (State.qstat s p).pending = s.pending := by
  simp only [State.qstat, State.setF_pending]
@[simp] theorem State.ethQueue_pending (s : State) (p cls d : Nat) (fr : List Byte) : (State.ethQueue s p cls d fr).pending = s.pending := by
  simp only [State.ethQueue]
  repeat' first | with_reducible rfl | simp only [State.incSat_pending, State.qstat_pending, State.raise_pending, State.setEth_pending, State.pending_ite, ite_self] | split
@[simp] theorem State.prpCheck_pending (s : State) (mac q : Nat) : (State.prpCheck s mac q).2.pending = s.pending := by
  simp only [State.prpCheck]
  repeat' first | with_reducible rfl | simp only [State.withPrp_pending, State.pending_ite, ite_self, apply_ite Prod.snd] | split
theorem execPrpEntryForget_pending (mac : BitVec 48) (s : State) : Out.pending s.pending (execPrpEntryForget mac s) = s.pending := by
  simp only [execPrpEntryForget, State.withPrp_pending, Out.pending_next]
theorem execPrpSupervisionSend_pending (s : State) : Out.pending s.pending (execPrpSupervisionSend s) = s.pending := by
  simp only [execPrpSupervisionSend, State.ethSend_pending, State.setEth_pending, State.pending_ite, ite_self, Out.pending_next]
@[simp] theorem State.arpRx_pending (s : State) (p : Nat) (fr : List Byte) (o : Nat) : (State.arpRx s p fr o).pending = s.pending := by
  simp only [State.arpRx, State.ethKick_pending, State.hwReply_pending, State.setEth_pending, State.pending_ite, ite_self]
@[simp] theorem State.classify_pending (s : State) (p : Nat) (fr : List Byte) (d : Nat) : (State.classify s p fr d).pending = s.pending := by
  simp only [State.classify, State.arpRx_pending, State.ethFilt_pending, State.ethQueue_pending, State.hwReply_pending, State.incSat_pending, State.withParkWake_pending, State.pending_ite, ite_self]
theorem execEthFrameReceive_pending (p : Nat) (fr : List Byte) (fcs : Bool) (d : Nat) (s : State) : Out.pending s.pending (execEthFrameReceive p fr fcs d s) = s.pending := by
  unfold execEthFrameReceive
  repeat' first | with_reducible rfl | split | simp only [State.classify_pending, State.ethFilt_pending, State.incMod_pending, State.incSat_pending, State.prpCheck_pending, State.raise_pending, ite_self, Out.pending_next, Out.pending_ite]
@[simp] theorem State.qpop_pending (s : State) (p : Nat) : (State.qpop s p).pending = s.pending := by
  simp only [State.qpop, State.qstat_pending, State.setEth_pending]
theorem execEthQpop_pending (p : Nat) (s : State) : Out.pending s.pending (execEthQpop p s) = s.pending := by
  simp only [execEthQpop, State.qpop_pending, State.pending_ite, ite_self, Out.pending_next]
@[simp] theorem State.ethEcc_pending (s : State) (d : Dgram) (err : Option (Nat × Bool)) : (State.ethEcc s d err).1.pending = s.pending := by
  simp only [State.ethEcc]
  repeat' first | with_reducible rfl | simp only [State.cutEth_pending, State.withWort_pending, State.wortCe_pending, State.wortUe_pending, State.pending_ite, ite_self, apply_ite Prod.fst] | split
@[simp] theorem State.dgSend_pending (s : State) (p k dst : Nat) (d : Dgram) : (State.dgSend s p k dst d).pending = s.pending := by
  simp only [State.dgSend, State.ethSend_pending, State.withWort_pending]
theorem execDatagramSend_pending (stream : Nat) (s : State) (err : Option (Nat × Bool)) : Out.pending s.pending (execDatagramSend stream s err) = s.pending := by
  simp only [execDatagramSend, Out.pending_next, Out.pending_ite]
  repeat' first | with_reducible rfl | simp only [State.arpAsk_pending, State.dgSend_pending, State.ethEcc_pending, Out.pending_next, Out.pending_ite] | split
theorem execDatagramDiscard_pending (s : State) : Out.pending s.pending (execDatagramDiscard s) = s.pending := by
  simp only [execDatagramDiscard]
  repeat' first | with_reducible rfl | simp only [State.cutEth_pending, State.setEth_pending, State.withWort_pending, Out.pending_next, Out.pending_ite] | split | refine (foldl_pending _ (fun s x => ?_) _ _).trans ?_

/-! ## Cask -/

@[simp] theorem State.caskRefuse_pending (s : State) : (State.caskRefuse s).pending = s.pending := by
  simp only [State.caskRefuse, State.incSat_pending, State.logEvent_pending, State.raise_pending, State.withCask_pending, State.pending_ite, ite_self]
@[simp] theorem State.caskActivate_pending (s : State) : (State.caskActivate s).pending = s.pending := by
  simp only [State.caskActivate, State.setB_pending, State.withCal_pending]
@[simp] theorem State.caskApply_pending (s : State) : (State.caskApply s).pending = s.pending := by
  simp only [State.caskApply, State.caskRefuse_pending, State.nvmPush_pending, State.pending_ite, ite_self]
theorem execCaskApply_pending (s : State) : Out.pending s.pending (execCaskApply s) = s.pending := by
  simp only [execCaskApply, State.caskApply_pending, Out.pending_next]
@[simp] theorem State.calcfgWrite_pending (s : State) (v : Word) : (State.calcfgWrite s v).pending = s.pending := by
  simp only [State.calcfgWrite, State.caskApply_pending, State.caskRefuse_pending, State.setF_pending, State.pending_ite, ite_self]
theorem execCaskCopyBackDone_pending (s : State) : Out.pending s.pending (execCaskCopyBackDone s) = s.pending := by
  simp only [execCaskCopyBackDone, State.setB_pending, Out.pending_next]
@[simp] theorem State.lrsGo_pending (s : State) : (State.lrsGo s).pending = s.pending := by
  simp only [State.lrsGo, State.setB_pending, State.withCask_pending, State.pending_ite, ite_self]
theorem execCaskLrsgo_pending (s : State) : Out.pending s.pending (execCaskLrsgo s) = s.pending := by
  simp only [execCaskLrsgo, State.lrsGo_pending, Out.pending_next]
@[simp] theorem State.lrsOwn_pending (s : State) (first : Bool) (kind : Nat) (data : List Word) : (State.lrsOwn s first kind data).pending = s.pending := by
  simp only [State.lrsOwn, State.withCask_pending, State.pending_ite, ite_self]
@[simp] theorem State.seqNext_pending (s : State) : (State.seqNext s).pending = s.pending := by
  simp only [State.seqNext, State.nvmPush_pending, State.setB_pending, State.withCask_pending, State.pending_ite, ite_self]
theorem execLrsRecordIssue_pending (s : State) : Out.pending s.pending (execLrsRecordIssue s) = s.pending := by
  simp only [execLrsRecordIssue]
  repeat' first | with_reducible rfl | simp only [State.dgramAdd_pending, State.line_pending, State.seqNext_pending, State.withCask_pending, State.withWort_pending, State.pending_ite, ite_self, Out.pending_next, Out.pending_ite] | split
@[simp] theorem State.applyDone_pending (s : State) : (State.applyDone s).pending = s.pending := by
  simp only [State.applyDone, State.caskActivate_pending, State.logEvent_pending, State.lrsOwn_pending, State.setB_pending, State.withNvm_pending, State.pending_ite, ite_self]
@[simp] theorem State.caskBoundary_pending (s : State) : (State.caskBoundary s).pending = s.pending := by
  simp only [State.caskBoundary, State.lrsOwn_pending, State.raise_pending, State.setB_pending, State.pending_ite, ite_self]
@[simp] theorem State.serviceEnter_pending (s : State) : (State.serviceEnter s).pending = s.pending := by
  simp only [State.serviceEnter, State.withCask_pending]
@[simp] theorem State.serviceLeave_pending (s : State) : (State.serviceLeave s).pending = s.pending := by
  simp only [State.serviceLeave, State.lrsOwn_pending, State.pending_ite, ite_self]
  repeat' first | with_reducible rfl | simp only [State.caskRefuse_pending, State.withNvm_pending] | split | refine (foldl_pending _ (fun s x => ?_) _ _).trans ?_
@[simp] theorem State.caskCommit_pending (s : State) : (State.caskCommit s).pending = s.pending := by
  simp only [State.caskCommit, State.caskActivate_pending, State.lrsOwn_pending, State.nvmPush_pending, State.setB_pending, State.withCask_pending, State.pending_ite, ite_self]

/-! ## Dsp -/

@[simp] theorem State.modCore_pending (s : State) (c : Nat) (g : CoreSt → CoreSt) : (State.modCore s c g).pending = s.pending := by
  simp only [State.modCore, State.setCore_pending]
@[simp] theorem State.coreCycles_pending (s : State) (c n5 : Nat) : (State.coreCycles s c n5).pending = s.pending := by
  simp only [State.coreCycles, State.line_pending, State.setCore_pending, State.pending_ite, ite_self]
@[simp] theorem State.coreTick_pending (s : State) : (State.coreTick s).pending = s.pending := by
  simp only [State.coreTick, State.coreCycles_pending]
theorem execTimerCompareMatch_pending (c : Nat) (s : State) : Out.pending s.pending (execTimerCompareMatch c s) = s.pending := by
  simp only [execTimerCompareMatch, State.coreCycles_pending, State.pending_ite, ite_self, Out.pending_next]
@[simp] theorem State.wdtReload_pending (s : State) (c : Nat) : (State.wdtReload s c).pending = s.pending := by
  simp only [State.wdtReload, State.setF_pending]
@[simp] theorem State.wdtExpire_pending (s : State) (c : Nat) : (State.wdtExpire s c).pending = s.pending := by
  simp only [State.wdtExpire, State.raiseReset_pending, State.wdtReload_pending]
@[simp] theorem State.wdtTick_pending (s : State) (c : Nat) : (State.wdtTick s c).pending = s.pending := by
  simp only [State.wdtTick, State.setF_pending, State.wdtExpire_pending, State.pending_ite, ite_self]
@[simp] theorem State.wdtKick_pending (s : State) (c : Nat) (v : Word) : (State.wdtKick s c v).pending = s.pending := by
  simp only [State.wdtKick, State.wdtExpire_pending, State.wdtReload_pending, State.pending_ite, ite_self]
theorem execWdtkick_pending (c : Nat) (v : Word) (s : State) : Out.pending s.pending (execWdtkick c v s) = s.pending := by
  simp only [execWdtkick, State.wdtKick_pending, State.pending_ite, ite_self, Out.pending_next]
@[simp] theorem State.coreStart_pending (s : State) (c cause : Nat) : (State.coreStart s c cause).pending = s.pending := by
  simp only [State.coreStart, State.setCore_pending, State.setF_pending, State.wdtReload_pending, State.withLines_pending, State.pending_ite, ite_self]
theorem execDspCoreStart_pending (c cause : Nat) (s : State) : Out.pending s.pending (execDspCoreStart c cause s) = s.pending := by
  simp only [execDspCoreStart, State.coreStart_pending, State.pending_ite, ite_self, Out.pending_next]
@[simp] theorem State.clearData_pending (s : State) (c : Nat) : (State.clearData s c).pending = s.pending := by
  simp only [State.clearData]
@[simp] theorem State.dspReset_pending (s : State) (c : Nat) : (State.dspReset s c).pending = s.pending := by
  simp only [State.dspReset]
  repeat' first | with_reducible rfl | simp only [State.clearData_pending, State.rset_pending, State.setCore_pending, State.withLines_pending] | split | refine (foldl_pending _ (fun s x => ?_) _ _).trans ?_
@[simp] theorem State.corePark_pending (s : State) (c : Nat) : (State.corePark s c).pending = s.pending := by
  simp only [State.corePark, State.modCore_pending, State.pending_ite, ite_self]
@[simp] theorem State.mbox7_pending (s : State) (c : Nat) (v : Word) : (State.mbox7 s c v).pending = s.pending := by
  simp only [State.mbox7, State.line_pending, State.rset_pending]
theorem execMbox7Write_pending (c : Nat) (v : Word) (s : State) : Out.pending s.pending (execMbox7Write c v s) = s.pending := by
  simp only [execMbox7Write, State.mbox7_pending, State.pending_ite, ite_self, Out.pending_next]
@[simp] theorem State.dspCe_pending (s : State) (c a : Nat) : (State.dspCe s c a).pending = s.pending := by
  simp only [State.dspCe, State.incSat_pending, State.raise_pending, State.setF_pending]
@[simp] theorem State.dspUe_pending (s : State) (c a : Nat) : (State.dspUe s c a).pending = s.pending := by
  simp only [State.dspUe, State.incSat_pending, State.logEvent_pending, State.raise_pending, State.setF_pending]
@[simp] theorem State.tapReserve_pending (s : State) (c : Nat) (i : ColInfo) : (State.tapReserve s c i).pending = s.pending := by
  simp only [State.tapReserve, State.fresh_pending, State.incSat_pending, State.line_pending, State.modCore_pending, State.raise_pending, State.pending_ite, ite_self]
@[simp] theorem State.tapWord_pending (s : State) (c : Nat) (w : Word) : (State.tapWord s c w).pending = s.pending := by
  simp only [State.tapWord, State.msetW_pending, State.setF_pending]
@[simp] theorem State.tapWrite_pending (s : State) (c : Nat) : (State.tapWrite s c).pending = s.pending := by
  simp only [State.tapWrite]
  repeat' first | with_reducible rfl | simp only [State.line_pending, State.modCore_pending, State.tapWord_pending] | split | refine (foldl_pending _ (fun s x => ?_) _ _).trans ?_
theorem execTapColumnDone_pending (c : Nat) (s : State) : Out.pending s.pending (execTapColumnDone c s) = s.pending := by
  simp only [execTapColumnDone, Out.pending_next]
  repeat' first | with_reducible rfl | simp only [State.tapWrite_pending, State.pending_ite, ite_self] | split
@[simp] theorem State.tapFlush_pending (s : State) (m : Nat) : (State.tapFlush s m).pending = s.pending := by
  simp only [State.tapFlush]
  repeat' first | with_reducible rfl | simp only [State.tapWrite_pending, State.pending_ite, ite_self] | split | refine (foldl_pending _ (fun s x => ?_) _ _).trans ?_
@[simp] theorem State.dmaGo_pending (s : State) (n : Nat) : (State.dmaGo s n).pending = s.pending := by
  simp only [State.dmaGo, State.setB_pending, State.withDma_pending, State.pending_ite, ite_self]
theorem execDmaGo_pending (n : Nat) (s : State) : Out.pending s.pending (execDmaGo n s) = s.pending := by
  simp only [execDmaGo, State.dmaGo_pending, State.pending_ite, ite_self, Out.pending_next]
@[simp] theorem State.dmaReset_pending (s : State) (n : Nat) : (State.dmaReset s n).pending = s.pending := by
  simp only [State.dmaReset, State.setF_pending, State.withDma_pending]

/-! ## Guard -/

@[simp] theorem State.rebuildBearing_pending (s : State) : (State.rebuildBearing s).pending = s.pending := by
  simp only [State.rebuildBearing, State.withGuard_pending]
@[simp] theorem State.guardColumn_pending (s : State) (m az n : Nat) (inh : Bool) : (State.guardColumn s m az n inh).pending = s.pending := by
  simp only [State.guardColumn, State.raiseIf_pending, State.setB_pending, State.withGuard_pending, State.pending_ite, ite_self]
@[simp] theorem State.guardTrigger_pending (s : State) (az : Nat) : (State.guardTrigger s az).pending = s.pending := by
  simp only [State.guardTrigger, State.intrude_pending, State.pending_ite, ite_self]
@[simp] theorem State.guardOutcome_pending (s : State) (m : Nat) (field prot unev warn : Bool) (shots : Nat) : (State.guardOutcome s m field prot unev warn shots).pending = s.pending := by
  simp only [State.guardOutcome]
  repeat' first | with_reducible rfl | simp only [State.intrude_pending, State.withGuard_pending, State.pending_ite, ite_self] | split
@[simp] theorem State.guardColDone_pending (s : State) (m : Nat) : (State.guardColDone s m).pending = s.pending := by
  simp only [State.guardColDone]
  repeat' first | with_reducible rfl | simp only [State.setGsweep_pending, State.withGuard_pending] | split
@[simp] theorem State.guardSweepEnd_pending (s : State) (n : Nat) (whole : Bool) : (State.guardSweepEnd s n whole).pending = s.pending := by
  simp only [State.guardSweepEnd, State.incSat_pending, State.setB_pending, State.setF_pending, State.withGuard_pending, State.pending_ite, ite_self]
@[simp] theorem State.guardSweepBegin_pending (s : State) : (State.guardSweepBegin s).pending = s.pending := by
  simp only [State.guardSweepBegin, State.setGsweep_pending, State.pending_ite, ite_self]
@[simp] theorem State.guardScanEntry_pending (s : State) : (State.guardScanEntry s).pending = s.pending := by
  simp only [State.guardScanEntry, State.guardInhibit_pending, State.setB_pending, State.setF_pending, State.withGuard_pending, State.pending_ite, ite_self]
theorem execEnEdge_pending (ch : Nat) (level : Bool) (s : State) : Out.pending s.pending (execEnEdge ch level s) = s.pending := by
  simp only [execEnEdge, State.guardFollow_pending, State.withGuard_pending, Out.pending_next]
@[simp] theorem State.discLatch_pending (s : State) : (State.discLatch s).pending = s.pending := by
  simp only [State.discLatch, State.guardFollow_pending, State.incSat_pending, State.logEvent_pending, State.raise_pending, State.setB_pending, State.withGuard_pending]
@[simp] theorem State.discTick_pending (s : State) : (State.discTick s).pending = s.pending := by
  simp only [State.discTick, State.setB_pending, State.pending_ite, ite_self]
  repeat' first | with_reducible rfl | simp only [State.discLatch_pending, State.withGuard_pending, State.pending_ite, ite_self] | split
@[simp] theorem State.restartTick_pending (s : State) : (State.restartTick s).pending = s.pending := by
  simp only [State.restartTick, State.setB_pending, State.withGuard_pending, State.pending_ite, ite_self]
theorem execGuardOutputsOn_pending (s : State) : Out.pending s.pending (execGuardOutputsOn s) = s.pending := by
  simp only [execGuardOutputsOn, State.setB_pending, State.soutFault_pending, State.withGuard_pending, ite_self, Out.pending_next, Out.pending_ite]
theorem execOffPulseStart_pending (s : State) : Out.pending s.pending (execOffPulseStart s) = s.pending := by
  simp only [execOffPulseStart, State.withGuard_pending, ite_self, Out.pending_next, Out.pending_ite]
@[simp] theorem State.setRb_pending (s : State) (rbA rbB : Bool) : (State.setRb s rbA rbB).pending = s.pending := by
  simp only [State.setRb, State.setB_pending]
theorem execOffPulseEnd_pending (rbA rbB : Bool) (s : State) : Out.pending s.pending (execOffPulseEnd rbA rbB s) = s.pending := by
  simp only [execOffPulseEnd]
  repeat' first | with_reducible rfl | simp only [State.setRb_pending, State.soutFault_pending, State.withGuard_pending, ite_self, Out.pending_next, Out.pending_ite] | split
theorem execReadbackSample_pending (rbA rbB limA limB : Bool) (s : State) : Out.pending s.pending (execReadbackSample rbA rbB limA limB s) = s.pending := by
  simp only [execReadbackSample]
  repeat' first | with_reducible rfl | simp only [State.setRb_pending, State.soutFault_pending, State.withGuard_pending, Out.pending_next] | split
theorem execEdmTimeout_pending (s : State) : Out.pending s.pending (execEdmTimeout s) = s.pending := by
  simp only [execEdmTimeout, State.soutFault_pending, State.withGuard_pending, ite_self, Out.pending_next, Out.pending_ite]
theorem execEdmLevelChange_pending (level : Bool) (s : State) : Out.pending s.pending (execEdmLevelChange level s) = s.pending := by
  simp only [execEdmLevelChange, State.setB_pending, State.soutFault_pending, State.withGuard_pending, ite_self, Out.pending_next, Out.pending_ite]
theorem execSoutStageTrip_pending (s : State) : Out.pending s.pending (execSoutStageTrip s) = s.pending := by
  simp only [execSoutStageTrip, State.logEvent_pending, State.raise_pending, State.soutOff_pending, ite_self, Out.pending_next, Out.pending_ite]
@[simp] theorem State.crcErr_pending (s : State) : (State.crcErr s).pending = s.pending := by
  simp only [State.crcErr, State.logEvent_pending, State.raise_pending, State.setB_pending, State.soutOff_pending, State.pending_ite, ite_self]
theorem execGuardCrcPass_pending (ue : Option Nat) (s : State) : Out.pending s.pending (execGuardCrcPass ue s) = s.pending := by
  simp only [execGuardCrcPass, Out.pending_next, Out.pending_ite]
  repeat' first | with_reducible rfl | simp only [State.crcErr_pending, State.logEvent_pending, State.raise_pending, State.rset_pending, State.pending_ite, ite_self, Out.pending_next] | split
@[simp] theorem State.changeBegin_pending (s : State) : (State.changeBegin s).pending = s.pending := by
  simp only [State.changeBegin, State.setB_pending, State.withGuard_pending]
@[simp] theorem State.changeWord_pending (s : State) (a : Nat) (v : Word) : (State.changeWord s a v).pending = s.pending := by
  simp only [State.changeWord, State.msetW_pending, State.rset_pending, State.setB_pending, State.withGuard_pending, State.pending_ite, ite_self]
@[simp] theorem State.changeCommit_pending (s : State) (uid : Nat) : (State.changeCommit s uid).pending = s.pending := by
  simp only [State.changeCommit, State.nvmPush_pending, State.rebuildBearing_pending, State.rset_pending]
@[simp] theorem State.changeCommitted_pending (s : State) : (State.changeCommitted s).pending = s.pending := by
  simp only [State.changeCommitted, State.rset_pending, State.setB_pending]
@[simp] theorem State.changeAbort_pending (s : State) (uid : Nat) : (State.changeAbort s uid).1.pending = s.pending := by
  simp only [State.changeAbort, State.nvmPush_pending, State.rset_pending, State.setB_pending, State.pending_ite, ite_self, apply_ite Prod.fst]

/-! ## Column -/

@[simp] theorem State.latchColumn_pending (s : State) : (State.latchColumn s).pending = s.pending := by
  simp only [State.latchColumn, State.withEff_pending]
@[simp] theorem State.kilnLast_pending (s : State) (g : Grant) (st : Nat) : (State.kilnLast s g st).pending = s.pending := by
  simp only [State.kilnLast, State.rset_pending, State.setF_pending]
@[simp] theorem State.closeColumn_pending (s : State) (t : Nat) (ends : Bool) (fue : List Nat) : (State.closeColumn s t ends fue).pending = s.pending := by
  simp only [State.closeColumn]
  repeat' first | with_reducible rfl | simp only [State.caskBoundary_pending, State.closeAmb_pending, State.dropPlanned_pending, State.guardColumn_pending, State.kilnLast_pending, State.withScan_pending, State.pending_ite, ite_self] | split
@[simp] theorem State.dropOldest_pending (s : State) : (State.dropOldest s).pending = s.pending := by
  simp only [State.dropOldest]
  repeat' first | with_reducible rfl | simp only [State.tapFlush_pending, State.wortForget_pending] | split
@[simp] theorem State.finishClose_pending (s : State) : (State.finishClose s).pending = s.pending := by
  simp only [State.finishClose]
  repeat' first | with_reducible rfl | simp only [State.admitCol_pending, State.dropOldest_pending, State.lauLatch_pending, State.line_pending, State.tapReserve_pending, State.withScan_pending] | split
@[simp] theorem State.columnSwap_pending (s : State) (t : Nat) (g : Grant) : (State.columnSwap s t g).pending = s.pending := by
  simp only [State.columnSwap, State.finishClose_pending, State.mashTrigger_pending, State.pending_ite, ite_self]
@[simp] theorem State.openColumn_pending (s : State) (t : Nat) (g : Grant) : (State.openColumn s t g).pending = s.pending := by
  simp only [State.openColumn]
  repeat' first | with_reducible rfl | simp only [State.beginString_pending, State.reduceEntry_pending, State.withScan_pending, State.withWort_pending] | split | refine (foldl_pending _ (fun s x => ?_) _ _).trans ?_
@[simp] theorem State.grantAt_pending (s : State) (az : Nat) (rest : List (Nat × Bool)) (t now : Nat) (bad : List Nat) : (State.grantAt s az rest t now bad).pending = s.pending := by
  unfold State.grantAt
  repeat' first | with_reducible rfl | simp only [State.eyeTargets_pending, State.grantFor_pending] | split
@[simp] theorem State.fireTrigger_pending (s : State) (t az : Nat) (rest : List (Nat × Bool)) (bad fue : List Nat) (late : Bool) : (State.fireTrigger s t az rest bad fue late).pending = s.pending := by
  simp only [State.fireTrigger]
  repeat' first | with_reducible rfl | simp only [State.closeColumn_pending, State.columnSwap_pending, State.grantAt_pending, State.guardTrigger_pending, State.incSat_pending, State.latchColumn_pending, State.openColumn_pending, State.raise_pending, State.withScan_pending, State.pending_ite, ite_self] | split
@[simp] theorem State.skipTarget_pending (s : State) (x : Nat × Bool) : (State.skipTarget s x).pending = s.pending := by
  simp only [State.skipTarget, State.guardSkip_pending, State.skipCount_pending, State.withScan_pending, State.wortSkip_pending]
@[simp] theorem State.latePass_pending (s : State) (t : Nat) (xs : List (Nat × Bool)) (bad fue : List Nat) : (State.latePass s t xs bad fue).pending = s.pending := by
  simp only [State.latePass]
  repeat' first | with_reducible rfl | simp only [State.fireTrigger_pending, State.skipTarget_pending] | split | refine (foldl_pending _ (fun s x => ?_) _ _).trans ?_
@[simp] theorem State.grantNow_pending (s : State) (now : Nat) (bad : List Nat) : (State.grantNow s now bad).pending = s.pending := by
  simp only [State.grantNow]
  repeat' first | with_reducible rfl | simp only [State.eyeTargets_pending, State.grantDue_pending] | split
theorem execMsnsSample_pending (convs : List Conv) (t : Nat) (bad fue : List Nat) (s : State) : Out.pending s.pending (execMsnsSample convs t bad fue s) = s.pending := by
  simp only [execMsnsSample, State.adcEnd_pending, State.grantNow_pending, State.latePass_pending, State.mirrorLoop_pending, State.msnsBase_pending, ite_self, Out.pending_next, Out.pending_ite]
theorem execSweepStart_pending (t : Nat) (s : State) : Out.pending s.pending (execSweepStart t s) = s.pending := by
  simp only [execSweepStart, State.guardSweepBegin_pending, State.lockInterval_pending, State.sweepStart_pending, State.withScan_pending, State.pending_ite, ite_self, Out.pending_next]
  repeat' first | with_reducible rfl | simp only [State.skipTarget_pending] | split | refine (foldl_pending _ (fun s x => ?_) _ _).trans ?_
theorem execStrokeEnd_pending (t : Nat) (s : State) : Out.pending s.pending (execStrokeEnd t s) = s.pending := by
  simp only [execStrokeEnd, State.flybackInject_pending, State.strokeEnd_pending, State.pending_ite, Out.pending_next, Out.pending_ite]
  repeat' first | with_reducible rfl | simp only [State.flybackInject_pending, State.scheduleD_pending, State.skipTarget_pending, State.strokeEnd_pending, State.pending_ite, ite_self] | split | refine (foldl_pending _ (fun s x => ?_) _ _).trans ?_
theorem execKilnGrant_pending (now : Nat) (bad : List Nat) (s : State) : Out.pending s.pending (execKilnGrant now bad s) = s.pending := by
  simp only [execKilnGrant, State.grantNow_pending, Out.pending_next]
theorem execTrigger_pending (t : Nat) (bad fue : List Nat) (s : State) : Out.pending s.pending (execTrigger t bad fue s) = s.pending := by
  simp only [execTrigger, Out.pending_next, Out.pending_ite]
  repeat' first | with_reducible rfl | simp only [State.fireTrigger_pending, State.pending_ite, ite_self, Out.pending_next] | split
theorem execStareTrigger_pending (t : Nat) (bad fue : List Nat) (s : State) : Out.pending s.pending (execStareTrigger t bad fue s) = s.pending := by
  simp only [execStareTrigger, State.fireTrigger_pending, State.guardSweepBegin_pending, State.raiseIf_pending, State.sweepBegin_pending, State.takeRegion_pending, State.withScan_pending, State.pending_ite, ite_self, Out.pending_next, Out.pending_ite]
theorem execHoldoffExpiry_pending (t : Nat) (bad : List Nat) (s : State) (fue : List Nat) : Out.pending s.pending (execHoldoffExpiry t bad s fue) = s.pending := by
  simp only [execHoldoffExpiry, State.grantNow_pending, State.latePass_pending, State.withScan_pending, State.pending_ite, ite_self, Out.pending_next, Out.pending_ite]
theorem execTunClearDone_pending (t : Nat) (bad fue : List Nat) (s : State) : Out.pending s.pending (execTunClearDone t bad fue s) = s.pending := by
  simp only [execTunClearDone, State.grantNow_pending, State.latePass_pending, State.setB_pending, State.withScan_pending, State.pending_ite, ite_self, Out.pending_next, Out.pending_ite]
@[simp] theorem State.shotFired_pending (s : State) (n t : Nat) (y : NextShot) : (State.shotFired s n t y).pending = s.pending := by
  simp only [State.shotFired, State.adcFired_pending, State.chargeCells_pending, State.chargeModels_pending, State.emxRelatch_pending, State.incMod_pending, State.setStr_pending, State.withPins_pending]
@[simp] theorem State.plannedFired_pending (s : State) (n i t : Nat) (y : NextShot) : (State.plannedFired s n i t y).pending = s.pending := by
  simp only [State.plannedFired]
  repeat' first | with_reducible rfl | simp only [State.openWindow_pending, State.reduceEntry_pending, State.spend_pending, State.withEmit_pending, State.withScan_pending, State.pending_ite, ite_self] | split | refine (foldl_pending _ (fun s x => ?_) _ _).trans ?_
@[simp] theorem State.plannedOver_pending (s : State) (n : Nat) (y : NextShot) : (State.plannedOver s n y).pending = s.pending := by
  simp only [State.plannedOver, State.scheduleD_pending, State.setF_pending, State.setStr_pending]
theorem execFire_pending (n t : Nat) (s : State) : Out.pending s.pending (execFire n t s) = s.pending := by
  simp only [execFire]
  repeat' first | with_reducible rfl | simp only [State.isoPlace_pending, State.plannedFired_pending, State.plannedOver_pending, State.raiseIf_pending, State.reduceEntry_pending, State.scheduleD_pending, State.setStr_pending, State.shotFired_pending, State.pending_ite, ite_self, Out.pending_next, Out.pending_ite] | split
theorem execClusterPowerOn_pending (k : Nat) (s : State) (t : Nat) : Out.pending s.pending (execClusterPowerOn k s t) = s.pending := by
  simp only [execClusterPowerOn, State.spend_pending, State.withScan_pending, ite_self, Out.pending_next, Out.pending_ite]
theorem execClusterPowerOff_pending (k : Nat) (s : State) (t : Nat) : Out.pending s.pending (execClusterPowerOff k s t) = s.pending := by
  simp only [execClusterPowerOff, State.closeExpired_pending, State.withScan_pending, ite_self, Out.pending_next, Out.pending_ite]
@[simp] theorem State.outcome_pending (s : State) (m c : Nat) (o : FieldOut) (shots : Nat) : (State.outcome s m c o shots).pending = s.pending := by
  simp only [State.outcome, State.guardOutcome_pending]
@[simp] theorem State.columnDone_pending (s : State) (m : Nat) : (State.columnDone s m).pending = s.pending := by
  simp only [State.columnDone, State.guardColDone_pending, State.guardSweepEnd_pending, State.lauSummary_pending, State.pending_ite, ite_self]
@[simp] theorem State.closeHist_pending (s : State) (c : Nat) (errs : List (Nat × Bool)) : (State.closeHist s c errs).pending = s.pending := by
  simp only [State.closeHist, State.lauOutcome_pending, State.outcome_pending, State.spargeHist_pending, State.wortDone_pending, State.pending_ite, ite_self]
theorem execHistogramClose_pending (j : Nat) (errs : List (Nat × Nat × Bool)) (s : State) : Out.pending s.pending (execHistogramClose j errs s) = s.pending := by
  simp only [execHistogramClose, State.columnDone_pending, State.withMash_pending, Out.pending_next, Out.pending_ite]
  repeat' first | with_reducible rfl | simp only [State.closeHist_pending] | split | refine (foldl_pending _ (fun s x => ?_) _ _).trans ?_
theorem execLauterExtractDone_pending (c : Nat) (s : State) : Out.pending s.pending (execLauterExtractDone c s) = s.pending := by
  simp only [execLauterExtractDone]
  repeat' first | with_reducible rfl | simp only [State.columnDone_pending, State.lauExtract_pending, State.outcome_pending, State.wortDone_pending, Out.pending_next] | split
theorem execSpargeEnd_pending (t : Nat) (s : State) : Out.pending s.pending (execSpargeEnd t s) = s.pending := by
  simp only [execSpargeEnd, State.finishClose_pending, State.spargeEnd_pending, State.pending_ite, ite_self, Out.pending_next, Out.pending_ite]

/-! ## Modes -/

@[simp] theorem State.endSession_pending (s : State) : (State.endSession s).pending = s.pending := by
  simp only [State.endSession]
  repeat' first | with_reducible rfl | simp only [State.changeAbort_pending, State.withAmp_pending, State.pending_ite, ite_self] | split
@[simp] theorem State.pllaFollow_pending (s : State) : (State.pllaFollow s).pending = s.pending := by
  simp only [State.pllaFollow, State.setB_pending, State.pending_ite, ite_self]
@[simp] theorem State.lockFollow_pending (s : State) : (State.lockFollow s).pending = s.pending := by
  simp only [State.lockFollow, State.setB_pending, State.withScan_pending, State.pending_ite, ite_self]
@[simp] theorem State.toState_pending (s : State) (d : Dev) : (State.toState s d).pending = s.pending := by
  simp only [State.toState, State.endSession_pending, State.guardFollow_pending, State.lockFollow_pending, State.pllaFollow_pending, State.serviceEnter_pending, State.serviceLeave_pending, State.setB_pending, State.setDev_pending, State.vspadFollow_pending, State.pending_ite, ite_self]
@[simp] theorem State.seedLfsrs_pending (s : State) : (State.seedLfsrs s).pending = s.pending := by
  simp only [State.seedLfsrs]
  repeat' first | with_reducible rfl | simp only [State.raise_pending, State.setF_pending, State.pending_ite, ite_self] | split | refine (foldl_pending _ (fun s x => ?_) _ _).trans ?_
@[simp] theorem State.dropColumns_pending (s : State) : (State.dropColumns s).pending = s.pending := by
  simp only [State.dropColumns, State.withLau_pending]
  repeat' first | with_reducible rfl | simp only [State.tapFlush_pending, State.wortForget_pending] | split | refine (foldl_pending _ (fun s x => ?_) _ _).trans ?_
@[simp] theorem State.scanEnter_pending (s : State) (t : Nat) : (State.scanEnter s t).pending = s.pending := by
  simp only [State.scanEnter, State.guardScanEntry_pending]
  repeat' first | with_reducible rfl | simp only [State.dropColumns_pending, State.groupRun_pending, State.latchColumn_pending, State.seedLfsrs_pending, State.setB_pending, State.setStr_pending, State.takeRegion_pending, State.toState_pending, State.tunClear_pending, State.withRst_pending, State.withScan_pending, State.wortScan_pending] | split | refine (foldl_pending _ (fun s x => ?_) _ _).trans ?_
theorem execScanEntry_pending (t : Nat) (s : State) : Out.pending s.pending (execScanEntry t s) = s.pending := by
  simp only [execScanEntry, State.scanEnter_pending, ite_self, Out.pending_next, Out.pending_ite]
@[simp] theorem State.emitIdle_pending (s : State) : (State.emitIdle s).pending = s.pending := by
  simp only [State.emitIdle, State.withEmit_pending, State.withMash_pending]
@[simp] theorem State.scanIdle_pending (s : State) : (State.scanIdle s).pending = s.pending := by
  simp only [State.scanIdle, State.emitIdle_pending]
  repeat' first | with_reducible rfl | simp only [State.followInhibit_pending, State.setB_pending, State.setStr_pending, State.withScan_pending] | split | refine (foldl_pending _ (fun s x => ?_) _ _).trans ?_
@[simp] theorem State.emxOff_pending (s : State) : (State.emxOff s).pending = s.pending := by
  simp only [State.emxOff, State.withEmit_pending]
@[simp] theorem State.scanOff_pending (s : State) (t : Nat) (zero : Bool) : (State.scanOff s t zero).pending = s.pending := by
  simp only [State.scanOff, State.closeColumn_pending, State.columnSwap_pending, State.emxOff_pending, State.emxSendZero_pending, State.hzdAssert_pending, State.latchColumn_pending, State.scanIdle_pending, State.pending_ite, ite_self]
theorem execScanLeave_pending (t : Nat) (s : State) : Out.pending s.pending (execScanLeave t s) = s.pending := by
  simp only [execScanLeave, State.scanOff_pending, State.toState_pending, ite_self, Out.pending_next, Out.pending_ite]
@[simp] theorem State.enterSafe_pending (s : State) (bit : Nat) : (State.enterSafe s bit).pending = s.pending := by
  simp only [State.enterSafe, State.logEvent_pending, State.scanOff_pending, State.setF_pending, State.toState_pending, State.withPins_pending, State.withScan_pending, State.pending_ite, ite_self]
theorem execEmxFrameConfirm_pending (t : Nat) (echo : BitVec 76) (status : BitVec 8) (s : State) : Out.pending s.pending (execEmxFrameConfirm t echo status s) = s.pending := by
  simp only [execEmxFrameConfirm]
  repeat' first | with_reducible rfl | simp only [State.emxSend_pending, State.enterSafe_pending, State.incSat_pending, State.logEvent_pending, State.raise_pending, State.setStr_pending, State.withEmit_pending, State.pending_ite, ite_self, Out.pending_next, Out.pending_ite] | split | refine (foldl_pending _ (fun s x => ?_) _ _).trans ?_
@[simp] theorem State.pinTestStart_pending (s : State) : (State.pinTestStart s).pending = s.pending := by
  simp only [State.pinTestStart, State.setB_pending]
theorem execParkEnter_pending (t : Nat) (s : State) : Out.pending s.pending (execParkEnter t s) = s.pending := by
  simp only [execParkEnter, State.endSession_pending, State.pinTestStart_pending, State.scanOff_pending, State.toState_pending, State.withPins_pending, State.withScan_pending, State.pending_ite, ite_self, Out.pending_next, Out.pending_ite]
@[simp] theorem State.loopsPark_pending (s : State) : (State.loopsPark s).pending = s.pending := by
  simp only [State.loopsPark]
  repeat' first | with_reducible rfl | simp only [State.loopRun_pending] | split | refine (foldl_pending _ (fun s x => ?_) _ _).trans ?_
@[simp] theorem State.parkEnter_pending (s : State) : (State.parkEnter s).pending = s.pending := by
  simp only [State.parkEnter, State.corePark_pending, State.loopsPark_pending, State.setB_pending, State.timeInvalid_pending, State.tinPark_pending, State.toState_pending, State.withHists_pending, State.withMash_pending, State.withPins_pending, State.withRst_pending, State.withScan_pending, State.withTun_pending]
theorem execSealNChange_pending (low : Bool) (s : State) : Out.pending s.pending (execSealNChange low s) = s.pending := by
  simp only [execSealNChange, State.toState_pending, State.withPins_pending, State.pending_ite, ite_self, Out.pending_next]
theorem execPllaLossOfLock_pending (s : State) : Out.pending s.pending (execPllaLossOfLock s) = s.pending := by
  simp only [execPllaLossOfLock, State.mashInvalid_pending, State.raise_pending, State.setB_pending, State.withEmit_pending, State.pending_ite, ite_self, Out.pending_next, Out.pending_ite]
theorem execPllaRelockTimeout_pending (s : State) : Out.pending s.pending (execPllaRelockTimeout s) = s.pending := by
  simp only [execPllaRelockTimeout, State.raiseReset_pending, State.pending_ite, ite_self, Out.pending_next]
theorem execPllbLossOfLock_pending (s : State) : Out.pending s.pending (execPllbLossOfLock s) = s.pending := by
  simp only [execPllbLossOfLock, State.raise_pending, State.raiseReset_pending, State.setB_pending, ite_self, Out.pending_next, Out.pending_ite]
theorem execTdcBootRunEnd_pending (hits : List (Nat × List Nat)) (s : State) : Out.pending s.pending (execTdcBootRunEnd hits s) = s.pending := by
  simp only [execTdcBootRunEnd, State.bootRunEnd_pending, State.pllaFollow_pending, State.vspadFollow_pending, State.pending_ite, ite_self, Out.pending_next]
theorem execRxCalRun_pending (s : State) : Out.pending s.pending (execRxCalRun s) = s.pending := by
  simp only [execRxCalRun, State.calRun_pending, Out.pending_next]
@[simp] theorem State.msTick_pending (s : State) : (State.msTick s).pending = s.pending := by
  simp only [State.msTick, State.discTick_pending, State.restartTick_pending, State.wdtTick_pending, State.withMs_pending]
theorem execEnDiscSample_pending (s : State) : Out.pending s.pending (execEnDiscSample s) = s.pending := by
  simp only [execEnDiscSample, State.msTick_pending, Out.pending_next]
@[simp] theorem State.msTicks_pending (n : Nat) (s : State) : (State.msTicks n s).pending = s.pending := by
  induction n generalizing s with
  | zero => rfl
  | succ n ih => rw [State.msTicks, ih, State.msTick_pending]
theorem execWdtExpiry_pending (c : Nat) (s : State) : Out.pending s.pending (execWdtExpiry c s) = s.pending := by
  simp only [execWdtExpiry, State.msTicks_pending, State.pending_ite, ite_self, Out.pending_next]

/-! ## Flash -/

@[simp] theorem State.flCmd_pending (s : State) (cmd : Nat) : (State.flCmd s cmd).pending = s.pending := by
  simp only [State.flCmd, State.raise_pending, State.setB_pending, State.withFlOp_pending, State.pending_ite, ite_self]
theorem execFlCmdErase_pending (s : State) : Out.pending s.pending (execFlCmdErase s) = s.pending := by
  simp only [execFlCmdErase, State.flCmd_pending, Out.pending_next]
theorem execFlCmdProgram_pending (s : State) : Out.pending s.pending (execFlCmdProgram s) = s.pending := by
  simp only [execFlCmdProgram, State.flCmd_pending, Out.pending_next]
theorem execFlCmdRead_pending (s : State) : Out.pending s.pending (execFlCmdRead s) = s.pending := by
  simp only [execFlCmdRead, State.flCmd_pending, Out.pending_next]
@[simp] theorem State.flashDo_pending (s : State) (o : FlashOp) : (State.flashDo s o).pending = s.pending := by
  simp only [State.flashDo]
  repeat' first | with_reducible rfl | simp only [State.rset_pending, State.withFlash_pending] | split | refine (foldl_pending _ (fun s x => ?_) _ _).trans ?_
theorem execFlashCmdDone_pending (left : Option (List Byte)) (s : State) : Out.pending s.pending (execFlashCmdDone left s) = s.pending := by
  simp only [execFlashCmdDone]
  repeat' first | with_reducible rfl | simp only [State.flashDo_pending, State.raise_pending, State.setB_pending, State.withFlOp_pending, State.withFlash_pending, State.pending_ite, ite_self, Out.pending_next] | split
@[simp] theorem State.optCmd_pending (s : State) (key : Word) : (State.optCmd s key).pending = s.pending := by
  simp only [State.optCmd, State.nvmPush_pending, State.raise_pending, State.setB_pending, State.pending_ite, ite_self]
theorem execOptCmd_pending (key : Word) (s : State) : Out.pending s.pending (execOptCmd key s) = s.pending := by
  simp only [execOptCmd, State.optCmd_pending, Out.pending_next]
theorem execEmitLostclr_pending (key : Word) (s : State) : Out.pending s.pending (execEmitLostclr key s) = s.pending := by
  simp only [execEmitLostclr, State.lostClear_pending, Out.pending_next]
theorem execScrubStep_pending (mem a err : Nat) (s : State) : Out.pending s.pending (execScrubStep mem a err s) = s.pending := by
  simp only [execScrubStep, Out.pending_next, Out.pending_ite]
  repeat' first | with_reducible rfl | simp only [State.dspCe_pending, State.dspUe_pending, State.planUe_pending, State.wortCe_pending, State.wortUe_pending, State.pending_ite, ite_self] | split

/-! ## Bus -/

@[simp] theorem State.freeze_pending (s : State) (m a info : Nat) (wr : Bool) : (State.freeze s m a info wr).pending = s.pending := by
  simp only [State.freeze, State.logEvent_pending, State.raise_pending, State.raiseReset_pending, State.rset_pending]
@[simp] theorem State.readEffect_pending (s : State) (a : Nat) : (State.readEffect s a).pending = s.pending := by
  simp only [State.readEffect, State.setEth_pending, State.setF_pending, State.tinPop_pending, State.withAdc_pending, State.pending_ite, ite_self]
@[simp] theorem State.readWord_pending (s : State) (a : Nat) : (State.readWord s a).1.pending = s.pending := by
  simp only [State.readWord, State.readEffect_pending, State.pending_ite, ite_self]
@[simp] theorem State.regStore_pending (s : State) (a : Nat) (v : Word) : (State.regStore s a v).pending = s.pending := by
  simp only [State.regStore]
  repeat' first | with_reducible rfl | simp only [State.rset_pending] | split
@[simp] theorem State.caskStore_pending (s : State) (a : Nat) (v : Word) : (State.caskStore s a v).pending = s.pending := by
  simp only [State.caskStore, State.calcfgWrite_pending, State.caskRefuse_pending, State.pending_ite]
  repeat' first | with_reducible rfl | simp only [State.rset_pending] | split
@[simp] theorem State.scanCtrl_pending (s : State) (v : Word) : (State.scanCtrl s v).pending = s.pending := by
  simp only [State.scanCtrl, State.regStore_pending]
@[simp] theorem State.dmaCtrl_pending (s : State) (n : Nat) (v : Word) : (State.dmaCtrl s n v).pending = s.pending := by
  simp only [State.dmaCtrl, State.dmaGo_pending, State.regStore_pending, State.pending_ite, ite_self]
@[simp] theorem State.ctlCtrl_pending (s : State) (v : Word) : (State.ctlCtrl s v).pending = s.pending := by
  simp only [State.ctlCtrl, State.ctlApply_pending, State.lockFollow_pending, State.regStore_pending, State.pending_ite, ite_self]
@[simp] theorem State.adcSrc_pending (s : State) (k : Nat) (v : Word) : (State.adcSrc s k v).pending = s.pending := by
  simp only [State.adcSrc, State.adcGainWritten_pending, State.regStore_pending]
@[simp] theorem State.adcBg_pending (s : State) (v : Word) : (State.adcBg s v).pending = s.pending := by
  simp only [State.adcBg, State.adcChannelWritten_pending, State.regStore_pending]
@[simp] theorem State.adcReq_pending (s : State) (n : Nat) (v : Word) : (State.adcReq s n v).pending = s.pending := by
  simp only [State.adcReq, State.regStore_pending, State.reqGo_pending, State.pending_ite, ite_self]
@[simp] theorem State.snapCtl_pending (s : State) (v : Word) : (State.snapCtl s v).pending = s.pending := by
  simp only [State.snapCtl, State.regStore_pending, State.snapArm_pending, State.pending_ite, ite_self]
@[simp] theorem State.capCtl_pending (s : State) (v : Word) : (State.capCtl s v).pending = s.pending := by
  simp only [State.capCtl, State.capArm_pending, State.regStore_pending, State.pending_ite, ite_self]
@[simp] theorem State.anchShi_pending (s : State) (v : Word) : (State.anchShi s v).pending = s.pending := by
  simp only [State.anchShi, State.anchorCommit_pending, State.regStore_pending]
@[simp] theorem State.regWrite_pending (s : State) (m a : Nat) (v : Word) : (State.regWrite s m a v).pending = s.pending := by
  simp only [State.regWrite]
  repeat' first | with_reducible rfl | simp only [State.adcBg_pending, State.adcFirWritten_pending, State.adcReq_pending, State.adcSrc_pending, State.anchShi_pending, State.calRun_pending, State.capCtl_pending, State.caskStore_pending, State.ctlCtrl_pending, State.dmaCtrl_pending, State.flCmd_pending, State.lostClear_pending, State.lrsGo_pending, State.mbox7_pending, State.optCmd_pending, State.qpop_pending, State.regStore_pending, State.scanCtrl_pending, State.snapCtl_pending, State.timeCtrlWrite_pending, State.timeIncWrite_pending, State.timeOfsWrite_pending, State.timePpsWrite_pending, State.tinCfgWrite_pending, State.txcmdWrite_pending, State.wdtKick_pending, State.pending_ite, ite_self] | split
@[simp] theorem State.writeWord_pending (s : State) (m a : Nat) (v : Word) : (State.writeWord s m a v).pending = s.pending := by
  simp only [State.writeWord, State.msetW_pending, State.raise_pending, State.regWrite_pending, State.pending_ite, ite_self]
@[simp] theorem State.binFound_pending (s : State) (a e : Nat) : (State.binFound s a e).pending = s.pending := by
  simp only [State.binFound, State.binError_pending]
@[simp] theorem State.memErr_pending (s : State) (a n err : Nat) : (State.memErr s a n err).pending = s.pending := by
  simp only [State.memErr]
  repeat' first | with_reducible rfl | simp only [State.binFound_pending, State.dspCe_pending, State.dspUe_pending, State.pending_ite, ite_self] | split | refine (foldl_pending _ (fun s x => ?_) _ _).trans ?_
@[simp] theorem State.busRead_pending (s : State) (m a : Nat) : (State.busRead s m a).1.pending = s.pending := by
  simp only [State.busRead, State.freeze_pending, State.readWord_pending, State.pending_ite, ite_self, apply_ite Prod.fst]
@[simp] theorem State.busWrite_pending (s : State) (m a : Nat) (v : Word) : (State.busWrite s m a v).pending = s.pending := by
  simp only [State.busWrite, State.freeze_pending, State.writeWord_pending, State.pending_ite, ite_self]
@[simp] theorem State.busReadHalf_pending (s : State) (m a : Nat) : (State.busReadHalf s m a).1.pending = s.pending := by
  simp only [State.busReadHalf, State.busRead_pending]
@[simp] theorem State.busWriteHalf_pending (s : State) (m a : Nat) (v : BitVec 16) : (State.busWriteHalf s m a v).pending = s.pending := by
  simp only [State.busWriteHalf, State.caskRefuse_pending, State.freeze_pending, State.msetH_pending, State.pending_ite, ite_self]
theorem execRegisterWrite_pending (m a : Nat) (v : Word) (s : State) : Out.pending s.pending (execRegisterWrite m a v s) = s.pending := by
  simp only [execRegisterWrite, State.busWrite_pending, ite_self, Out.pending_next, Out.pending_ite]
theorem execMashSnapctlArm_pending (ch : Nat) (s : State) : Out.pending s.pending (execMashSnapctlArm ch s) = s.pending := by
  simp only [execMashSnapctlArm, State.snapArm_pending, State.setF_pending, Out.pending_next]
theorem execRxCapctlArm_pending (s : State) : Out.pending s.pending (execRxCapctlArm s) = s.pending := by
  simp only [execRxCapctlArm, State.capArm_pending, Out.pending_next]
theorem execTinCfgWrite_pending (n : Nat) (v : Word) (s : State) : Out.pending s.pending (execTinCfgWrite n v s) = s.pending := by
  simp only [execTinCfgWrite, State.tinCfgWrite_pending, State.pending_ite, ite_self, Out.pending_next]
theorem execWortAnchShiWrite_pending (v : Word) (s : State) : Out.pending s.pending (execWortAnchShiWrite v s) = s.pending := by
  simp only [execWortAnchShiWrite, State.anchShi_pending, Out.pending_next]
@[simp] theorem State.dmaRead_pending (s : State) (m a err : Nat) : (State.dmaRead s m a err).1.pending = s.pending := by
  simp only [State.dmaRead, State.busRead_pending, State.fresh_pending, State.memErr_pending, State.pending_ite, ite_self, apply_ite Prod.fst]
@[simp] theorem State.dmaMove_pending (s : State) (m : Nat) (j : DmaSt) (n i : Nat) (errs : List Nat) : (s.dmaMove m j n i errs).pending = s.pending := by
  induction n generalizing s i errs with
  | zero => rfl
  | succ n ih =>
    unfold State.dmaMove
    dsimp only
    split
    · exact State.dmaRead_pending _ _ _ _
    · split
      · exact (State.busWrite_pending _ _ _ _).trans (State.dmaRead_pending _ _ _ _)
      · exact (ih _ _ _).trans ((State.busWrite_pending _ _ _ _).trans (State.dmaRead_pending _ _ _ _))
theorem execDmaDone_pending (n : Nat) (s : State) (errs : List Nat) : Out.pending s.pending (execDmaDone n s errs) = s.pending := by
  simp only [execDmaDone]
  repeat' first | with_reducible rfl | simp only [State.line_pending, State.setB_pending, State.withDma_pending, State.dmaMove_pending, State.pending_ite, ite_self, Out.pending_next, Out.pending_ite] | split

/-! ## DspCore -/

@[simp] theorem State.dspExc_pending (s : State) (c v : Nat) : (State.dspExc s c v).pending = s.pending := by
  simp only [State.dspExc, State.raise_pending, State.setCore_pending, State.pending_ite, ite_self]
theorem execDspInterruptEntry_pending (c : Nat) (s : State) : Out.pending s.pending (execDspInterruptEntry c s) = s.pending := by
  simp only [execDspInterruptEntry, Out.pending_next, Out.pending_ite]
  repeat' first | with_reducible rfl | simp only [State.coreCycles_pending, State.setCore_pending, ite_self, Out.pending_next, Out.pending_ite] | split
theorem State.issue_pending (s : State) (c : Nat) (k : IKind) (body : State → Eff) (hb : ∀ t, (body t).st.pending = t.pending) :
    Out.pending s.pending (s.issue c k body) = s.pending := by
  unfold State.issue
  split
  · rfl
  · dsimp only
    split
    · simp only [Out.pending_next, State.dspExc_pending, State.modCore_pending]
    · split
      · rfl
      · split
        · simp only [Out.pending_next, State.dspExc_pending, State.setCore_pending, hb, State.modCore_pending]
        · simp only [Out.pending_next, State.coreCycles_pending, State.setCore_pending, hb, State.modCore_pending]
theorem State.alu_pending (s : State) (c : Nat) (g : CoreSt → CoreSt) : Out.pending s.pending (State.alu s c g) = s.pending := by
  unfold State.alu
  refine State.issue_pending _ _ _ _ (fun t => ?_)
  repeat' first | with_reducible rfl | simp only [State.modCore_pending]
theorem State.aluR_pending (s : State) (c d s' t : Nat) (f : Word → Word → Word) : Out.pending s.pending (State.aluR s c d s' t f) = s.pending := by
  simp only [State.aluR, State.alu_pending]
theorem State.aluI_pending (s : State) (c d s' : Nat) (imm : Word) (f : Word → Word → Word) : Out.pending s.pending (State.aluI s c d s' imm f) = s.pending := by
  simp only [State.aluI, State.alu_pending]
theorem State.branch_pending (s : State) (c s' : Nat) (off : BitVec 19) (p : Int → Bool) : Out.pending s.pending (State.branch s c s' off p) = s.pending := by
  unfold State.branch
  refine State.issue_pending _ _ _ _ (fun t => ?_)
  repeat' first | with_reducible rfl
@[simp] theorem State.loadErr_pending (s : State) (c a size err : Nat) : (State.loadErr s c a size err).1.pending = s.pending := by
  simp only [State.loadErr, State.memErr_pending, State.pending_ite, ite_self, apply_ite Prod.fst]
@[simp] theorem State.loadCycles_pending (s : State) (c a : Nat) : (State.loadCycles s c a).2.pending = s.pending := by
  simp only [State.loadCycles, State.fresh_pending, State.pending_ite, ite_self, apply_ite Prod.snd]
theorem State.load_pending (s : State) (c a mode mc : Nat) (imm : BitVec 10) (size err : Nat) (get : State → Nat → State × Option (List (Nat × Word)))
    (hg : ∀ t ad, (get t ad).1.pending = t.pending) : Out.pending s.pending (s.load c a mode mc imm size err get) = s.pending := by
  unfold State.load
  refine State.issue_pending _ _ _ _ (fun t => ?_)
  dsimp only
  split
  · rfl
  · split
    · rfl
    · split
      · exact State.loadErr_pending _ _ _ _ _
      · split
        · exact (hg _ _).trans (State.loadErr_pending _ _ _ _ _)
        · simp only [State.modCore_pending, State.loadCycles_pending, hg, State.loadErr_pending]
theorem State.store_pending (s : State) (c a mode mc : Nat) (imm : BitVec 10) (size : Nat) (put : State → Nat → State)
    (hp : ∀ t ad, (put t ad).pending = t.pending) : Out.pending s.pending (s.store c a mode mc imm size put) = s.pending := by
  unfold State.store
  refine State.issue_pending _ _ _ _ (fun t => ?_)
  dsimp only
  split
  · rfl
  · split
    · rfl
    · simp only [State.modCore_pending, hp]
@[simp] theorem State.readPair_pending (s : State) (c d ad : Nat) : (State.readPair s c d ad).1.pending = s.pending := by
  simp only [State.readPair]
  repeat' first | with_reducible rfl | simp only [State.busRead_pending] | split
@[simp] theorem State.writePair_pending (s : State) (c ad : Nat) (v w : Word) : (State.writePair s c ad v w).pending = s.pending := by
  simp only [State.writePair, State.busWrite_pending, State.pending_ite, ite_self]
theorem execDspException_pending (c : Nat) (w : Option Word) (s : State) : Out.pending s.pending (execDspException c w s) = s.pending := by
  simp only [execDspException, Out.pending_next, Out.pending_ite]
  repeat' first | with_reducible rfl | simp only [State.dspExc_pending, State.dspUe_pending, State.modCore_pending, Out.pending_next] | split

/-! ## DspInstr -/

theorem execDspAdd_pending (c d s' t : Nat) (s : State) : Out.pending s.pending (execDspAdd c d s' t s) = s.pending := by
  simp only [execDspAdd, State.aluR_pending]
theorem execDspSub_pending (c d s' t : Nat) (s : State) : Out.pending s.pending (execDspSub c d s' t s) = s.pending := by
  simp only [execDspSub, State.aluR_pending]
theorem execDspAdds_pending (c d s' t : Nat) (s : State) : Out.pending s.pending (execDspAdds c d s' t s) = s.pending := by
  simp only [execDspAdds, State.alu_pending]
theorem execDspSubs_pending (c d s' t : Nat) (s : State) : Out.pending s.pending (execDspSubs c d s' t s) = s.pending := by
  simp only [execDspSubs, State.alu_pending]
theorem execDspAnd_pending (c d s' t : Nat) (s : State) : Out.pending s.pending (execDspAnd c d s' t s) = s.pending := by
  simp only [execDspAnd, State.aluR_pending]
theorem execDspOr_pending (c d s' t : Nat) (s : State) : Out.pending s.pending (execDspOr c d s' t s) = s.pending := by
  simp only [execDspOr, State.aluR_pending]
theorem execDspXor_pending (c d s' t : Nat) (s : State) : Out.pending s.pending (execDspXor c d s' t s) = s.pending := by
  simp only [execDspXor, State.aluR_pending]
theorem execDspSll_pending (c d s' t : Nat) (s : State) : Out.pending s.pending (execDspSll c d s' t s) = s.pending := by
  simp only [execDspSll, State.aluR_pending]
theorem execDspSrl_pending (c d s' t : Nat) (s : State) : Out.pending s.pending (execDspSrl c d s' t s) = s.pending := by
  simp only [execDspSrl, State.aluR_pending]
theorem execDspSra_pending (c d s' t : Nat) (s : State) : Out.pending s.pending (execDspSra c d s' t s) = s.pending := by
  simp only [execDspSra, State.aluR_pending]
theorem execDspMin_pending (c d s' t : Nat) (s : State) : Out.pending s.pending (execDspMin c d s' t s) = s.pending := by
  simp only [execDspMin, State.aluR_pending]
theorem execDspMax_pending (c d s' t : Nat) (s : State) : Out.pending s.pending (execDspMax c d s' t s) = s.pending := by
  simp only [execDspMax, State.aluR_pending]
theorem execDspCmplt_pending (c d s' t : Nat) (s : State) : Out.pending s.pending (execDspCmplt c d s' t s) = s.pending := by
  simp only [execDspCmplt, State.aluR_pending]
theorem execDspCmpltu_pending (c d s' t : Nat) (s : State) : Out.pending s.pending (execDspCmpltu c d s' t s) = s.pending := by
  simp only [execDspCmpltu, State.aluR_pending]
theorem execDspCmpeq_pending (c d s' t : Nat) (s : State) : Out.pending s.pending (execDspCmpeq c d s' t s) = s.pending := by
  simp only [execDspCmpeq, State.aluR_pending]
theorem execDspMull_pending (c d s' t : Nat) (s : State) : Out.pending s.pending (execDspMull c d s' t s) = s.pending := by
  simp only [execDspMull, State.aluR_pending]
theorem execDspMulh_pending (c d s' t : Nat) (s : State) : Out.pending s.pending (execDspMulh c d s' t s) = s.pending := by
  simp only [execDspMulh, State.aluR_pending]
theorem execDspAbs_pending (c d s' : Nat) (s : State) : Out.pending s.pending (execDspAbs c d s' s) = s.pending := by
  simp only [execDspAbs, State.alu_pending]
theorem execDspClz_pending (c d s' : Nat) (s : State) : Out.pending s.pending (execDspClz c d s' s) = s.pending := by
  simp only [execDspClz, State.alu_pending]
theorem execDspPack_pending (c d s' t : Nat) (s : State) : Out.pending s.pending (execDspPack c d s' t s) = s.pending := by
  simp only [execDspPack, State.aluR_pending]
theorem execDspAddi_pending (c d s' : Nat) (imm : BitVec 14) (s : State) : Out.pending s.pending (execDspAddi c d s' imm s) = s.pending := by
  simp only [execDspAddi, State.aluI_pending]
theorem execDspAndi_pending (c d s' : Nat) (imm : BitVec 14) (s : State) : Out.pending s.pending (execDspAndi c d s' imm s) = s.pending := by
  simp only [execDspAndi, State.aluI_pending]
theorem execDspOri_pending (c d s' : Nat) (imm : BitVec 14) (s : State) : Out.pending s.pending (execDspOri c d s' imm s) = s.pending := by
  simp only [execDspOri, State.aluI_pending]
theorem execDspXori_pending (c d s' : Nat) (imm : BitVec 14) (s : State) : Out.pending s.pending (execDspXori c d s' imm s) = s.pending := by
  simp only [execDspXori, State.aluI_pending]
theorem execDspSlli_pending (c d s' : Nat) (imm : BitVec 14) (s : State) : Out.pending s.pending (execDspSlli c d s' imm s) = s.pending := by
  simp only [execDspSlli, State.aluI_pending]
theorem execDspSrli_pending (c d s' : Nat) (imm : BitVec 14) (s : State) : Out.pending s.pending (execDspSrli c d s' imm s) = s.pending := by
  simp only [execDspSrli, State.aluI_pending]
theorem execDspSrai_pending (c d s' : Nat) (imm : BitVec 14) (s : State) : Out.pending s.pending (execDspSrai c d s' imm s) = s.pending := by
  simp only [execDspSrai, State.aluI_pending]
theorem execDspCmplti_pending (c d s' : Nat) (imm : BitVec 14) (s : State) : Out.pending s.pending (execDspCmplti c d s' imm s) = s.pending := by
  simp only [execDspCmplti, State.aluI_pending]
theorem execDspCmpeqi_pending (c d s' : Nat) (imm : BitVec 14) (s : State) : Out.pending s.pending (execDspCmpeqi c d s' imm s) = s.pending := by
  simp only [execDspCmpeqi, State.aluI_pending]
theorem execDspMovl_pending (c d : Nat) (imm : BitVec 16) (s : State) : Out.pending s.pending (execDspMovl c d imm s) = s.pending := by
  simp only [execDspMovl, State.alu_pending]
theorem execDspMovh_pending (c d : Nat) (imm : BitVec 16) (s : State) : Out.pending s.pending (execDspMovh c d imm s) = s.pending := by
  simp only [execDspMovh, State.alu_pending]
theorem execDspLdw_pending (c d a mode mc : Nat) (imm : BitVec 10) (err : Nat) (s : State) : Out.pending s.pending (execDspLdw c d a mode mc imm err s) = s.pending := by
  unfold execDspLdw
  refine State.load_pending _ _ _ _ _ _ _ _ _ (fun t ad => ?_)
  repeat' first | with_reducible rfl | simp only [State.busRead_pending]
theorem execDspLdh_pending (c d a mode mc : Nat) (imm : BitVec 10) (err : Nat) (s : State) : Out.pending s.pending (execDspLdh c d a mode mc imm err s) = s.pending := by
  unfold execDspLdh
  refine State.load_pending _ _ _ _ _ _ _ _ _ (fun t ad => ?_)
  repeat' first | with_reducible rfl | simp only [State.busReadHalf_pending]
theorem execDspLdhu_pending (c d a mode mc : Nat) (imm : BitVec 10) (err : Nat) (s : State) : Out.pending s.pending (execDspLdhu c d a mode mc imm err s) = s.pending := by
  unfold execDspLdhu
  refine State.load_pending _ _ _ _ _ _ _ _ _ (fun t ad => ?_)
  repeat' first | with_reducible rfl | simp only [State.busReadHalf_pending]
theorem execDspLdd_pending (c d a mode mc : Nat) (imm : BitVec 10) (err : Nat) (s : State) : Out.pending s.pending (execDspLdd c d a mode mc imm err s) = s.pending := by
  unfold execDspLdd
  refine State.load_pending _ _ _ _ _ _ _ _ _ (fun t ad => ?_)
  repeat' first | with_reducible rfl | simp only [State.readPair_pending]
theorem execDspStw_pending (c d a mode mc : Nat) (imm : BitVec 10) (s : State) : Out.pending s.pending (execDspStw c d a mode mc imm s) = s.pending := by
  unfold execDspStw
  refine State.store_pending _ _ _ _ _ _ _ _ (fun t ad => ?_)
  repeat' first | with_reducible rfl | simp only [State.busWrite_pending]
theorem execDspSth_pending (c d a mode mc : Nat) (imm : BitVec 10) (s : State) : Out.pending s.pending (execDspSth c d a mode mc imm s) = s.pending := by
  unfold execDspSth
  refine State.store_pending _ _ _ _ _ _ _ _ (fun t ad => ?_)
  repeat' first | with_reducible rfl | simp only [State.busWriteHalf_pending]
theorem execDspStd_pending (c d a mode mc : Nat) (imm : BitVec 10) (s : State) : Out.pending s.pending (execDspStd c d a mode mc imm s) = s.pending := by
  unfold execDspStd
  refine State.store_pending _ _ _ _ _ _ _ _ (fun t ad => ?_)
  repeat' first | with_reducible rfl | simp only [State.writePair_pending]
theorem execDspQmpy_pending (c xr : Nat) (xh : Bool) (yp : Nat) (sw : Bool) (neg : Nat) (s : State) : Out.pending s.pending (execDspQmpy c xr xh yp sw neg s) = s.pending := by
  simp only [execDspQmpy, State.alu_pending]
theorem execDspQmac_pending (c xr : Nat) (xh : Bool) (yp : Nat) (sw : Bool) (neg : Nat) (s : State) : Out.pending s.pending (execDspQmac c xr xh yp sw neg s) = s.pending := by
  simp only [execDspQmac, State.alu_pending]
theorem execDspQclr_pending (c : Nat) (s : State) : Out.pending s.pending (execDspQclr c s) = s.pending := by
  simp only [execDspQclr, State.alu_pending]
theorem execDspMva_pending (c g n : Nat) (rnd : Bool) (sh : Nat) (s : State) : Out.pending s.pending (execDspMva c g n rnd sh s) = s.pending := by
  simp only [execDspMva, State.alu_pending]
theorem execDspMval_pending (c g n : Nat) (s : State) : Out.pending s.pending (execDspMval c g n s) = s.pending := by
  simp only [execDspMval, State.alu_pending]
theorem execDspMvah_pending (c g n : Nat) (s : State) : Out.pending s.pending (execDspMvah c g n s) = s.pending := by
  simp only [execDspMvah, State.alu_pending]
theorem execDspMvag_pending (c g n : Nat) (s : State) : Out.pending s.pending (execDspMvag c g n s) = s.pending := by
  simp only [execDspMvag, State.alu_pending]
theorem execDspMta_pending (c g n sh : Nat) (s : State) : Out.pending s.pending (execDspMta c g n sh s) = s.pending := by
  simp only [execDspMta, State.alu_pending]
theorem execDspAdda_pending (c n m : Nat) (s : State) : Out.pending s.pending (execDspAdda c n m s) = s.pending := by
  simp only [execDspAdda, State.alu_pending]
theorem execDspSha_pending (c n : Nat) (left : Bool) (sh : Nat) (s : State) : Out.pending s.pending (execDspSha c n left sh s) = s.pending := by
  simp only [execDspSha, State.alu_pending]
theorem execDspBra_pending (c s' : Nat) (off : BitVec 19) (s : State) : Out.pending s.pending (execDspBra c s' off s) = s.pending := by
  simp only [execDspBra, State.branch_pending]
theorem execDspBeq_pending (c s' : Nat) (off : BitVec 19) (s : State) : Out.pending s.pending (execDspBeq c s' off s) = s.pending := by
  simp only [execDspBeq, State.branch_pending]
theorem execDspBne_pending (c s' : Nat) (off : BitVec 19) (s : State) : Out.pending s.pending (execDspBne c s' off s) = s.pending := by
  simp only [execDspBne, State.branch_pending]
theorem execDspBlt_pending (c s' : Nat) (off : BitVec 19) (s : State) : Out.pending s.pending (execDspBlt c s' off s) = s.pending := by
  simp only [execDspBlt, State.branch_pending]
theorem execDspBge_pending (c s' : Nat) (off : BitVec 19) (s : State) : Out.pending s.pending (execDspBge c s' off s) = s.pending := by
  simp only [execDspBge, State.branch_pending]
theorem execDspBgt_pending (c s' : Nat) (off : BitVec 19) (s : State) : Out.pending s.pending (execDspBgt c s' off s) = s.pending := by
  simp only [execDspBgt, State.branch_pending]
theorem execDspBle_pending (c s' : Nat) (off : BitVec 19) (s : State) : Out.pending s.pending (execDspBle c s' off s) = s.pending := by
  simp only [execDspBle, State.branch_pending]
theorem execDspCall_pending (c : Nat) (off : BitVec 19) (s : State) : Out.pending s.pending (execDspCall c off s) = s.pending := by
  unfold execDspCall
  refine State.issue_pending _ _ _ _ (fun t => ?_)
  repeat' first | with_reducible rfl | simp only [State.setCore_pending]
theorem execDspJr_pending (c s' : Nat) (s : State) : Out.pending s.pending (execDspJr c s' s) = s.pending := by
  unfold execDspJr
  refine State.issue_pending _ _ _ _ (fun t => ?_)
  repeat' first | with_reducible rfl | simp only [State.branch_pending, State.pending_ite, ite_self, Out.pending_next, Out.pending_ite]
theorem execDspJalr_pending (c s' : Nat) (s : State) : Out.pending s.pending (execDspJalr c s' s) = s.pending := by
  unfold execDspJalr
  refine State.issue_pending _ _ _ _ (fun t => ?_)
  repeat' first | with_reducible rfl | simp only [State.setCore_pending]
theorem execDspRti_pending (c : Nat) (s : State) : Out.pending s.pending (execDspRti c s) = s.pending := by
  unfold execDspRti
  refine State.issue_pending _ _ _ _ (fun t => ?_)
  repeat' first | with_reducible rfl | simp only [State.setCore_pending]
theorem execDspNop_pending (c : Nat) (s : State) : Out.pending s.pending (execDspNop c s) = s.pending := by
  simp only [execDspNop, State.alu_pending]
theorem execDspIdle_pending (c : Nat) (s : State) : Out.pending s.pending (execDspIdle c s) = s.pending := by
  unfold execDspIdle
  refine State.issue_pending _ _ _ _ (fun t => ?_)
  repeat' first | with_reducible rfl
theorem execDspEi_pending (c : Nat) (s : State) : Out.pending s.pending (execDspEi c s) = s.pending := by
  unfold execDspEi
  refine State.issue_pending _ _ _ _ (fun t => ?_)
  repeat' first | with_reducible rfl | simp only [State.modCore_pending]
theorem execDspDi_pending (c : Nat) (s : State) : Out.pending s.pending (execDspDi c s) = s.pending := by
  simp only [execDspDi, State.alu_pending]
theorem execDspCsrr_pending (c g n : Nat) (s : State) : Out.pending s.pending (execDspCsrr c g n s) = s.pending := by
  unfold execDspCsrr
  refine State.issue_pending _ _ _ _ (fun t => ?_)
  repeat' first | with_reducible rfl | simp only [State.modCore_pending] | split
theorem execDspCsrw_pending (c g n : Nat) (s : State) : Out.pending s.pending (execDspCsrw c g n s) = s.pending := by
  unfold execDspCsrw
  refine State.issue_pending _ _ _ _ (fun t => ?_)
  repeat' first | with_reducible rfl | simp only [State.withLines_pending] | split
theorem execDspTrap_pending (c : Nat) (s : State) : Out.pending s.pending (execDspTrap c s) = s.pending := by
  unfold execDspTrap
  refine State.issue_pending _ _ _ _ (fun t => ?_)
  repeat' first | with_reducible rfl
theorem execDspSync_pending (c : Nat) (s : State) : Out.pending s.pending (execDspSync c s) = s.pending := by
  simp only [execDspSync, State.alu_pending]
theorem execDspRepeat_pending (c : Nat) (src : Option Nat) (n1 : Nat) (s : State) : Out.pending s.pending (execDspRepeat c src n1 s) = s.pending := by
  unfold execDspRepeat
  refine State.issue_pending _ _ _ _ (fun t => ?_)
  repeat' first | with_reducible rfl
theorem execDspLoop_pending (c : Nat) (src : Option Nat) (len1 n1 : Nat) (s : State) : Out.pending s.pending (execDspLoop c src len1 n1 s) = s.pending := by
  unfold execDspLoop
  dsimp only
  split
  · rfl
  · exact State.issue_pending _ _ _ _ (fun t => rfl)

/-! ## Amp -/

@[simp] theorem State.ampSend_pending (s : State) (r : AmpReq) (m : List Byte) : (State.ampSend s r m).pending = s.pending := by
  simp only [State.ampSend]
  repeat' first | with_reducible rfl | simp only [State.arpAsk_pending, State.ethSend_pending, State.raise_pending, State.sidePush_pending, State.withAmp_pending, State.withRst_pending, State.pending_ite, ite_self] | split
@[simp] theorem State.ampAnswer_pending (s : State) (r : AmpReq) (status : Nat) (pay : List Byte) : (State.ampAnswer s r status pay).pending = s.pending := by
  simp only [State.ampAnswer, State.ampSend_pending, State.incSat_pending, State.pending_ite, ite_self]
@[simp] theorem State.ampSettle_pending (n : Nat) (s : State) : (State.ampSettle n s).pending = s.pending := by
  induction n generalizing s with
  | zero => rfl
  | succ n ih =>
    unfold State.ampSettle
    split
    · rfl
    · split
      · rfl
      · split
        · rfl
        · dsimp only
          rw [ih]
          split
          · rw [State.ampSend_pending, State.withAmp_pending]
          · rw [State.ampAnswer_pending, State.withAmp_pending]
@[simp] theorem State.ampGo_pending (s : State) : (State.ampGo s).pending = s.pending := by
  simp only [State.ampGo, State.ampSettle_pending]
theorem execParkExit_pending (s : State) : Out.pending s.pending (execParkExit s) = s.pending := by
  simp only [execParkExit, State.ampGo_pending, State.logEvent_pending, State.toState_pending, ite_self, Out.pending_next, Out.pending_ite]
  repeat' first | with_reducible rfl | simp only [State.coreStart_pending, State.eyeRestart_pending, State.setB_pending, State.toState_pending, State.withParkWake_pending, State.withPins_pending, State.pending_ite, ite_self] | split | refine (foldl_pending _ (fun s x => ?_) _ _).trans ?_
@[simp] theorem State.ampDrop_pending (s : State) (counter : Fld) : (State.ampDrop s counter).pending = s.pending := by
  simp only [State.ampDrop, State.incSat_pending, State.raise_pending]
@[simp] theorem State.ampAdmit_pending (s : State) (r : AmpReq) : (State.ampAdmit s r).pending = s.pending := by
  simp only [State.ampAdmit, State.ampDrop_pending, State.ampGo_pending, State.withAmp_pending, State.pending_ite, ite_self]
@[simp] theorem State.ampArrive_pending (s : State) (src : AmpSrc) (port sport : Nat) (m : List Byte) : (State.ampArrive s src port sport m).pending = s.pending := by
  simp only [State.ampArrive, State.ampAdmit_pending, State.incSat_pending, State.pending_ite, ite_self]
theorem execAmpEthDatagram_pending (p : Nat) (s : State) (par : Bool) : Out.pending s.pending (execAmpEthDatagram p s par) = s.pending := by
  simp only [execAmpEthDatagram, Out.pending_next, Out.pending_ite]
  repeat' first | with_reducible rfl | simp only [State.ampArrive_pending, State.incSat_pending, State.qstat_pending, State.raise_pending, State.setEth_pending, ite_self, Out.pending_next, Out.pending_ite] | split
@[simp] theorem State.ampWake_pending (s : State) (m : List Byte) : (State.ampWake s m).pending = s.pending := by
  simp only [State.ampWake, State.withParkWake_pending, State.pending_ite, ite_self]
theorem execAmpDwlSideband_pending (lane : Nat) (ws : List Word) (crcOk : Bool) (s : State) : Out.pending s.pending (execAmpDwlSideband lane ws crcOk s) = s.pending := by
  simp only [execAmpDwlSideband, State.ampArrive_pending, State.ampWake_pending, State.incSat_pending, State.raise_pending, ite_self, Out.pending_next, Out.pending_ite]
theorem execMspiWrite_pending (m : List Byte) (crc : Word) (s : State) : Out.pending s.pending (execMspiWrite m crc s) = s.pending := by
  simp only [execMspiWrite, State.ampArrive_pending, State.ampWake_pending, State.incSat_pending, ite_self, Out.pending_next, Out.pending_ite]
theorem execMspiRead_pending (all : Bool) (s : State) : Out.pending s.pending (execMspiRead all s) = s.pending := by
  simp only [execMspiRead, State.withAmp_pending, State.pending_ite, ite_self, Out.pending_next]
theorem execMspiStatus_pending (s : State) : Out.pending s.pending (execMspiStatus s) = s.pending := by
  simp only [execMspiStatus, Out.pending_next]
theorem execAmpWindowEnd_pending (src : AmpSrc) (s : State) : Out.pending s.pending (execAmpWindowEnd src s) = s.pending := by
  simp only [execAmpWindowEnd, State.withAmp_pending, Out.pending_next]
theorem State.ampExec_pending (s : State) (cmd : Nat) (legal : AmpReq → Bool) (body : State → AmpReq → State) (hb : ∀ t r, (body t r).pending = t.pending) :
    Out.pending s.pending (s.ampExec cmd legal body) = s.pending := by
  unfold State.ampExec
  split
  · rfl
  · split
    · rfl
    · split
      · rfl
      · dsimp only
        split
        · simp only [Out.pending_next, State.ampGo_pending, State.ampSend_pending, State.withAmp_pending]
        · simp only [Out.pending_next, State.ampGo_pending]
          split
          · exact (hb _ _).trans (State.withAmp_pending _ _)
          · exact (State.ampAnswer_pending _ _ _ _).trans (State.withAmp_pending _ _)
@[simp] theorem State.ampReads_pending (n : Nat) (s : State) (a : Nat) (errs : List Nat) : (State.ampReads n s a errs).1.pending = s.pending := by
  induction n generalizing s a errs with
  | zero => rfl
  | succ n ih =>
    unfold State.ampReads
    generalize (if blockAt a = true then 0 else errs.headD 0) = e
    dsimp only
    split
    · exact State.memErr_pending _ _ _ _
    · exact (ih _ _ _).trans ((State.readWord_pending _ _).trans (State.memErr_pending _ _ _ _))
@[simp] theorem State.ampGet_pending (s : State) (r : AmpReq) (errs : List Nat) : (State.ampGet s r errs).pending = s.pending := by
  simp only [State.ampGet, State.ampAnswer_pending, State.ampReads_pending, State.pending_ite, ite_self]
theorem execGet_pending (errs : List Nat) (s : State) : Out.pending s.pending (execGet errs s) = s.pending := by
  unfold execGet
  refine State.ampExec_pending _ _ _ _ (fun t r => ?_)
  repeat' first | with_reducible rfl | simp only [State.ampGet_pending]
@[simp] theorem State.ampPut_pending (s : State) (t : Nat × Word × Word) : (State.ampPut s t).pending = s.pending := by
  simp only [State.ampPut, State.writeWord_pending]
@[simp] theorem State.ampSet_pending (s : State) (r : AmpReq) : (State.ampSet s r).pending = s.pending := by
  simp only [State.ampSet, State.ampAnswer_pending, State.pending_ite]
  repeat' first | with_reducible rfl | simp only [State.ampPut_pending] | split | refine (foldl_pending _ (fun s x => ?_) _ _).trans ?_
theorem execSet_pending (s : State) : Out.pending s.pending (execSet s) = s.pending := by
  unfold execSet
  refine State.ampExec_pending _ _ _ _ (fun t r => ?_)
  repeat' first | with_reducible rfl | simp only [State.ampSet_pending]
@[simp] theorem State.ampLog_pending (s : State) (r : AmpReq) : (State.ampLog s r).pending = s.pending := by
  simp only [State.ampLog, State.ampAnswer_pending, State.pending_ite, ite_self]
theorem execLogRead_pending (s : State) : Out.pending s.pending (execLogRead s) = s.pending := by
  unfold execLogRead
  refine State.ampExec_pending _ _ _ _ (fun t r => ?_)
  repeat' first | with_reducible rfl | simp only [State.ampLog_pending]
@[simp] theorem State.ampCask_pending (s : State) (r : AmpReq) : (State.ampCask s r).pending = s.pending := by
  simp only [State.ampCask, State.ampAnswer_pending, State.pending_ite, ite_self]
theorem execCaskInfo_pending (s : State) : Out.pending s.pending (execCaskInfo s) = s.pending := by
  unfold execCaskInfo
  refine State.ampExec_pending _ _ _ _ (fun t r => ?_)
  repeat' first | with_reducible rfl | simp only [State.ampCask_pending]
@[simp] theorem State.ampStart_pending (s : State) (r : AmpReq) : (State.ampStart s r).pending = s.pending := by
  simp only [State.ampStart, State.ampAnswer_pending, State.endSession_pending, State.setB_pending, State.pending_ite, ite_self]
theorem execStart_pending (s : State) : Out.pending s.pending (execStart s) = s.pending := by
  unfold execStart
  refine State.ampExec_pending _ _ _ _ (fun t r => ?_)
  repeat' first | with_reducible rfl | simp only [State.ampStart_pending]
@[simp] theorem State.ampStop_pending (s : State) (r : AmpReq) : (State.ampStop s r).pending = s.pending := by
  simp only [State.ampStop, State.ampAnswer_pending, State.pllaFollow_pending, State.pending_ite]
  repeat' first | with_reducible rfl | simp only [State.setB_pending, State.toState_pending, State.withScan_pending, State.pending_ite, ite_self] | split
theorem execStop_pending (s : State) : Out.pending s.pending (execStop s) = s.pending := by
  unfold execStop
  refine State.ampExec_pending _ _ _ _ (fun t r => ?_)
  repeat' first | with_reducible rfl | simp only [State.ampStop_pending]
@[simp] theorem State.ampPark_pending (s : State) (r : AmpReq) : (State.ampPark s r).pending = s.pending := by
  simp only [State.ampPark, State.ampAnswer_pending, State.endSession_pending, State.setB_pending, State.withRst_pending, State.withScan_pending, State.pending_ite, ite_self]
theorem execPark_pending (s : State) : Out.pending s.pending (execPark s) = s.pending := by
  unfold execPark
  refine State.ampExec_pending _ _ _ _ (fun t r => ?_)
  repeat' first | with_reducible rfl | simp only [State.ampPark_pending]
@[simp] theorem State.ampResetCmd_pending (s : State) (r : AmpReq) : (State.ampResetCmd s r).pending = s.pending := by
  simp only [State.ampResetCmd, State.ampAnswer_pending, State.withRst_pending, State.pending_ite, ite_self]
theorem execReset_pending (s : State) : Out.pending s.pending (execReset s) = s.pending := by
  unfold execReset
  refine State.ampExec_pending _ _ _ _ (fun t r => ?_)
  repeat' first | with_reducible rfl | simp only [State.ampResetCmd_pending]
theorem execAmpResetEffect_pending (s : State) : Out.pending s.pending (execAmpResetEffect s) = s.pending := by
  simp only [execAmpResetEffect, State.raiseReset_pending, State.pending_ite, ite_self, Out.pending_next]
@[simp] theorem State.ampAuth_pending (s : State) (r : AmpReq) : (State.ampAuth s r).pending = s.pending := by
  simp only [State.ampAuth, State.ampAnswer_pending, State.endSession_pending, State.fresh_pending, State.raise_pending, State.raiseIf_pending, State.withAmp_pending, State.pending_ite, ite_self]
theorem execAuth_pending (s : State) : Out.pending s.pending (execAuth s) = s.pending := by
  unfold execAuth
  refine State.ampExec_pending _ _ _ _ (fun t r => ?_)
  repeat' first | with_reducible rfl | simp only [State.ampAuth_pending]
theorem State.ampChange_pending (s : State) (op : Nat) (inOrder : Bool) (body : State → AmpReq → Nat → State) (hb : ∀ t r u, (body t r u).pending = t.pending) :
    Out.pending s.pending (s.ampChange op inOrder body) = s.pending := by
  unfold State.ampChange
  split
  · rfl
  · split
    · rfl
    · refine State.ampExec_pending _ _ _ _ (fun t r => ?_)
      split
      · exact State.ampAnswer_pending _ _ _ _
      · dsimp only
        split
        · exact (State.ampAnswer_pending _ _ _ _).trans (State.withAmp_pending _ _)
        · exact (hb _ _ _).trans (State.withAmp_pending _ _)
theorem execGuardChangeBegin_pending (s : State) : Out.pending s.pending (execGuardChangeBegin s) = s.pending := by
  unfold execGuardChangeBegin
  repeat' first | with_reducible rfl | refine State.ampChange_pending _ _ _ _ (fun t r u => ?_) | simp only [State.ampAnswer_pending, State.changeBegin_pending, Out.pending_next, Out.pending_ite] | split
@[simp] theorem State.changeData_pending (s : State) (r : AmpReq) : (State.changeData s r).pending = s.pending := by
  simp only [State.changeData, State.ampAnswer_pending, State.pending_ite]
  repeat' first | with_reducible rfl | simp only [State.ampAnswer_pending, State.changeWord_pending, State.setB_pending, State.pending_ite, ite_self] | split | refine (foldl_pending _ (fun s x => ?_) _ _).trans ?_
theorem execGuardChangeData_pending (s : State) : Out.pending s.pending (execGuardChangeData s) = s.pending := by
  unfold execGuardChangeData
  refine State.ampChange_pending _ _ _ _ (fun t r u => ?_)
  repeat' first | with_reducible rfl | simp only [State.changeData_pending]
theorem execGuardChangeCommit_pending (s : State) : Out.pending s.pending (execGuardChangeCommit s) = s.pending := by
  unfold execGuardChangeCommit
  refine State.ampChange_pending _ _ _ _ (fun t r u => ?_)
  repeat' first | with_reducible rfl | simp only [State.changeCommit_pending, State.withAmp_pending]
theorem execGuardChangeAbort_pending (s : State) : Out.pending s.pending (execGuardChangeAbort s) = s.pending := by
  unfold execGuardChangeAbort
  refine State.ampChange_pending _ _ _ _ (fun t r u => ?_)
  repeat' first | with_reducible rfl | simp only [State.ampAnswer_pending, State.changeAbort_pending, State.withAmp_pending, State.pending_ite, ite_self]
theorem execGuardSessionTimeout_pending (s : State) : Out.pending s.pending (execGuardSessionTimeout s) = s.pending := by
  simp only [execGuardSessionTimeout, State.endSession_pending, State.pending_ite, ite_self, Out.pending_next]
theorem execAuthLockoutEnd_pending (s : State) : Out.pending s.pending (execAuthLockoutEnd s) = s.pending := by
  simp only [execAuthLockoutEnd, State.withAmp_pending, State.pending_ite, ite_self, Out.pending_next]

/-! ## Nvm -/

@[simp] theorem State.changeReply_pending (s : State) : (State.changeReply s).pending = s.pending := by
  simp only [State.changeReply]
  repeat' first | with_reducible rfl | simp only [State.ampAnswer_pending, State.ampGo_pending, State.changeCommitted_pending, State.withAmp_pending, State.pending_ite, ite_self] | split
@[simp] theorem State.nvmFollow_pending (s : State) (w : NvmWrite) (wrap : Bool) : (State.nvmFollow s w wrap).pending = s.pending := by
  simp only [State.nvmFollow]
  repeat' first | with_reducible rfl | simp only [State.changeReply_pending, State.raise_pending, State.raiseIf_pending, State.pending_ite, ite_self] | split
@[simp] theorem State.nvmDone_pending (s : State) (w : NvmWrite) : (State.nvmDone s w).pending = s.pending := by
  simp only [State.nvmDone]
  repeat' first | with_reducible rfl | simp only [State.applyDone_pending, State.nvmFollow_pending, State.withNvm_pending] | split
theorem execNvmWriteDone_pending (fail : Bool) (s : State) : Out.pending s.pending (execNvmWriteDone fail s) = s.pending := by
  simp only [execNvmWriteDone]
  repeat' first | with_reducible rfl | simp only [State.nvmDone_pending, State.nvmKick_pending, State.raise_pending, State.withNvm_pending, ite_self, Out.pending_next, Out.pending_ite] | split

/-! ## Reset -/

@[simp] theorem State.resetTo_pending (s : State) (level : Nat) (pll hot : Bool) : (State.resetTo s level pll hot).pending = s.pending := by
  simp only [State.resetTo, State.setB_pending, State.setF_pending, State.pending_ite, ite_self]
@[simp] theorem State.lastReset_pending (s : State) (src level : Nat) : (State.lastReset s src level).pending = s.pending := by
  simp only [State.lastReset, State.setF_pending]
@[simp] theorem State.railsDown_pending (s : State) : (State.railsDown s).pending = s.pending := by
  simp only [State.railsDown, State.setF_pending, State.withRst_pending]
@[simp] theorem State.performDeep_pending (s : State) (level src srcs : Nat) : (State.performDeep s level src srcs).pending = s.pending := by
  simp only [State.performDeep, State.incMod_pending, State.lastReset_pending, State.railsDown_pending, State.resetTo_pending, State.withRst_pending, State.pending_ite, ite_self]
@[simp] theorem State.dropHist_pending (s : State) (c : Nat) : (State.dropHist s c).pending = s.pending := by
  simp only [State.dropHist]
  repeat' first | with_reducible rfl | simp only [State.columnDone_pending, State.lauOutcome_pending, State.outcome_pending, State.withHists_pending, State.wortDone_pending] | split
@[simp] theorem State.clusterReset_pending (s : State) (k : Nat) : (State.clusterReset s k).pending = s.pending := by
  simp only [State.clusterReset]
  repeat' first | with_reducible rfl | simp only [State.dropHist_pending, State.rset_pending, State.setChan_pending, State.setCluster_pending, State.withLau_pending, State.withTun_pending] | split | refine (foldl_pending _ (fun s x => ?_) _ _).trans ?_
@[simp] theorem State.performL2_pending (s : State) (t : L2Target) : (State.performL2 s t).pending = s.pending := by
  simp only [State.performL2, State.pending_ite]
  repeat' first | with_reducible rfl | simp only [State.clusterReset_pending, State.dmaReset_pending, State.dspReset_pending, State.dwlReset_pending, State.ethReset_pending, State.timeInvalid_pending, State.withAmp_pending, State.withRst_pending, State.pending_ite, ite_self] | split
@[simp] theorem State.releaseOne_pending (s : State) (t : L2Target) : (State.releaseOne s t).pending = s.pending := by
  simp only [State.releaseOne, State.pending_ite]
  repeat' first | with_reducible rfl | simp only [State.coreStart_pending, State.modCore_pending, State.rset_pending, State.withRst_pending, State.pending_ite, ite_self] | split
@[simp] theorem State.releaseL2_pending (s : State) (t : L2Target) : (State.releaseL2 s t).pending = s.pending := by
  simp only [State.releaseL2]
  repeat' first | with_reducible rfl | simp only [State.releaseOne_pending, State.withRst_pending] | split | refine (foldl_pending _ (fun s x => ?_) _ _).trans ?_
@[simp] theorem State.resetCauses_pending (s : State) : (State.resetCauses s).pending = s.pending := by
  simp only [State.resetCauses, State.withRst_pending]
  repeat' first | with_reducible rfl | simp only [State.raise_pending] | split | refine (foldl_pending _ (fun s x => ?_) _ _).trans ?_
@[simp] theorem State.noteDma_pending (s : State) (run : List (Nat × Nat × List L2Target)) : (State.noteDma s run).pending = s.pending := by
  simp only [State.noteDma, State.withRst_pending, State.pending_ite, ite_self]
@[simp] theorem State.resetRun_pending (s : State) (acts : List (Nat × Nat × List L2Target)) : (State.resetRun s acts).pending = s.pending := by
  simp only [State.resetRun]
  repeat' first | with_reducible rfl | simp only [State.lastReset_pending, State.noteDma_pending, State.performDeep_pending, State.performL2_pending, State.withRst_pending, State.pending_ite, ite_self] | split | refine (foldl_pending _ (fun s x => ?_) _ _).trans ?_
theorem execResetAssert_pending (s : State) : Out.pending s.pending (execResetAssert s) = s.pending := by
  simp only [execResetAssert, State.resetCauses_pending, State.resetRun_pending, State.withRst_pending, ite_self, Out.pending_next, Out.pending_ite]
@[simp] theorem State.releaseDeep_pending (s : State) (rstn : Bool) (straps : List (BitVec 6)) : (State.releaseDeep s rstn straps).pending = s.pending := by
  simp only [State.releaseDeep, State.logEvent_pending, State.rset_pending, State.withRst_pending]
theorem execResetRelease_pending (tgt : Nat) (rstn : Bool) (straps : List (BitVec 6)) (s : State) : Out.pending s.pending (execResetRelease tgt rstn straps s) = s.pending := by
  simp only [execResetRelease]
  repeat' first | with_reducible rfl | simp only [State.releaseDeep_pending, State.releaseL2_pending, State.pending_ite, ite_self, Out.pending_next] | split
theorem execVinRise_pending (s : State) : Out.pending s.pending (execVinRise s) = s.pending := by
  simp only [execVinRise, State.incMod_pending, State.setB_pending, State.withRst_pending, State.pending_ite, ite_self, Out.pending_next, Out.pending_ite]
theorem execBrownout_pending (s : State) : Out.pending s.pending (execBrownout s) = s.pending := by
  simp only [execBrownout, State.raiseReset_pending, State.setB_pending, State.pending_ite, ite_self, Out.pending_next]
theorem execPor_pending (vbat : Bool) (s : State) : Out.pending s.pending (execPor vbat s) = s.pending := by
  simp only [execPor, State.setB_pending, State.setF_pending, State.withRst_pending, State.pending_ite, ite_self, Out.pending_next, Out.pending_ite]
@[simp] theorem State.setGood_pending (s : State) (r : Nat) (p : Bool) : (State.setGood s r p).pending = s.pending := by
  simp only [State.setGood, State.setF_pending]
theorem execRailGood_pending (r : Nat) (s : State) : Out.pending s.pending (execRailGood r s) = s.pending := by
  simp only [execRailGood, Out.pending_next, Out.pending_ite]
  repeat' first | with_reducible rfl | simp only [State.setGood_pending, State.withRst_pending, ite_self, Out.pending_next, Out.pending_ite] | split
theorem execRailFailure_pending (r : Nat) (s : State) : Out.pending s.pending (execRailFailure r s) = s.pending := by
  simp only [execRailFailure, State.railsDown_pending, State.raise_pending, State.raiseReset_pending, State.setF_pending, State.setGood_pending, State.withRst_pending, State.pending_ite, ite_self, Out.pending_next, Out.pending_ite]
@[simp] theorem State.xtFail_pending (s : State) : (State.xtFail s).pending = s.pending := by
  simp only [State.xtFail, State.enterSafe_pending, State.raise_pending, State.setB_pending, State.withRst_pending, State.pending_ite, ite_self]
theorem execXt32Qualified_pending (s : State) : Out.pending s.pending (execXt32Qualified s) = s.pending := by
  simp only [execXt32Qualified, State.setB_pending, State.withRst_pending, State.pending_ite, ite_self, Out.pending_next]
theorem execXt32Fail_pending (s : State) : Out.pending s.pending (execXt32Fail s) = s.pending := by
  simp only [execXt32Fail, State.xtFail_pending, State.pending_ite, ite_self, Out.pending_next]
theorem execXt32Timeout_pending (s : State) : Out.pending s.pending (execXt32Timeout s) = s.pending := by
  simp only [execXt32Timeout, State.xtFail_pending, State.pending_ite, ite_self, Out.pending_next]
theorem execRstNLow_pending (s : State) : Out.pending s.pending (execRstNLow s) = s.pending := by
  simp only [execRstNLow, State.raiseReset_pending, State.withRst_pending, State.pending_ite, ite_self, Out.pending_next]
theorem execRstNStuck_pending (s : State) : Out.pending s.pending (execRstNStuck s) = s.pending := by
  simp only [execRstNStuck, State.logEvent_pending, State.setB_pending, ite_self, Out.pending_next, Out.pending_ite]
theorem execRstNRearm_pending (s : State) : Out.pending s.pending (execRstNRearm s) = s.pending := by
  simp only [execRstNRearm, State.setB_pending, State.withRst_pending, State.pending_ite, ite_self, Out.pending_next]

/-! ## Pins -/

theorem execBoundaryScanInstruction_pending (i : Nat) (s : State) (ins dr : BitVec 52) : Out.pending s.pending (execBoundaryScanInstruction i s ins dr) = s.pending := by
  simp only [execBoundaryScanInstruction, State.withPins_pending, ite_self, Out.pending_next, Out.pending_ite]

/-! ## Boot -/

@[simp] theorem State.pinTestKick_pending (s : State) : (State.pinTestKick s).pending = s.pending := by
  simp only [State.pinTestKick, State.pinTestStart_pending, State.withRst_pending, State.pending_ite, ite_self]
@[simp] theorem State.pinResult_pending (s : State) (fails : List Nat) : (State.pinResult s fails).pending = s.pending := by
  simp only [State.pinResult, State.incMod_pending, State.logEvent_pending, State.raiseIf_pending, State.setB_pending, State.setF_pending, State.soutFault_pending, State.withPins_pending, State.pending_ite, ite_self]
@[simp] theorem State.slotError_pending (s : State) (slot reason sec : Nat) : (State.slotError s slot reason sec).pending = s.pending := by
  simp only [State.slotError, State.rset_pending]
@[simp] theorem State.slotFail_pending (s : State) (slot reason sec : Nat) : (State.slotFail s slot reason sec).pending = s.pending := by
  simp only [State.slotFail, State.slotError_pending, State.withRst_pending]
@[simp] theorem State.leaveBoot_pending (s : State) : (State.leaveBoot s).pending = s.pending := by
  simp only [State.leaveBoot, State.laneRates_pending, State.logEvent_pending, State.prpCommit_pending, State.setF_pending, State.toState_pending, State.withRst_pending, State.pending_ite, ite_self]
@[simp] theorem State.bootEnd_pending (s : State) : (State.bootEnd s).pending = s.pending := by
  simp only [State.bootEnd, State.leaveBoot_pending, State.pending_ite, ite_self]
@[simp] theorem State.noSlot_pending (s : State) : (State.noSlot s).pending = s.pending := by
  simp only [State.noSlot, State.bootEnd_pending, State.logEvent_pending, State.setB_pending, State.setF_pending, State.withRst_pending]
theorem execPinTestDone_pending (steps : List (BitVec 22)) (offs cross : BitVec 2) (s : State) : Out.pending s.pending (execPinTestDone steps offs cross s) = s.pending := by
  simp only [execPinTestDone, State.bootEnd_pending, State.enterSafe_pending, State.parkEnter_pending, State.pinResult_pending, State.withParkWake_pending, ite_self, Out.pending_next, Out.pending_ite]
@[simp] theorem State.nextSlot_pending (s : State) : (State.nextSlot s).pending = s.pending := by
  simp only [State.nextSlot]
  repeat' first | with_reducible rfl | simp only [State.incSat_pending, State.noSlot_pending, State.slotFail_pending, State.withRst_pending] | split
@[simp] theorem State.headRead_pending (s : State) (k : Nat) : (State.headRead s k).pending = s.pending := by
  simp only [State.headRead, State.slotError_pending, State.withRst_pending, State.pending_ite, ite_self]
@[simp] theorem State.imageStart_pending (s : State) : (State.imageStart s).pending = s.pending := by
  simp only [State.imageStart, State.withRst_pending]
  repeat' first | with_reducible rfl | simp only [State.nextSlot_pending, State.slotError_pending, State.withRst_pending, foldl_pending, State.pending_ite, ite_self] | split | refine (foldl_pending _ (fun s x => ?_) _ _).trans ?_
@[simp] theorem State.headsDone_pending (s : State) (l : List Nat) : (State.headsDone s l).pending = s.pending := by
  simp only [State.headsDone, State.nextSlot_pending]
  repeat' first | with_reducible rfl | simp only [State.headRead_pending] | split | refine (foldl_pending _ (fun s x => ?_) _ _).trans ?_
@[simp] theorem State.optionRegs_pending (s : State) (p : Option (List Word)) (blank safe : Bool) : (State.optionRegs s p blank safe).pending = s.pending := by
  simp only [State.optionRegs, State.setB_pending, State.setF_pending, State.pending_ite, ite_self]
@[simp] theorem State.optionTake_pending (s : State) (p : Option (List Word)) : (State.optionTake s p).pending = s.pending := by
  simp only [State.optionTake, State.setB_pending, State.withRst_pending, State.pending_ite, ite_self]
@[simp] theorem State.optionsTake_pending (s : State) (p : Option (List Word)) (blank safe : Bool) : (State.optionsTake s p blank safe).pending = s.pending := by
  simp only [State.optionsTake, State.enterSafe_pending, State.imageStart_pending, State.logEvent_pending, State.nvmKick_pending, State.optionRegs_pending, State.optionTake_pending, State.pinTestKick_pending, State.pending_ite, ite_self]
theorem execOptionLoadDone_pending (read : Option (List Word)) (s : State) : Out.pending s.pending (execOptionLoadDone read s) = s.pending := by
  simp only [execOptionLoadDone, State.optionsTake_pending, State.setB_pending, State.withRst_pending, State.pending_ite, ite_self, Out.pending_next, Out.pending_ite]
theorem execPllaLock_pending (s : State) : Out.pending s.pending (execPllaLock s) = s.pending := by
  simp only [execPllaLock, State.pinTestKick_pending, State.setB_pending, State.pending_ite, ite_self, Out.pending_next]
theorem execPllbLock_pending (s : State) : Out.pending s.pending (execPllbLock s) = s.pending := by
  simp only [execPllbLock]
  repeat' first | with_reducible rfl | simp only [State.imageStart_pending, State.pinTestKick_pending, State.setB_pending, State.pending_ite, ite_self, Out.pending_next] | split
@[simp] theorem State.loaderAdc_pending (s : State) (a : Nat) (v : Word) (t : State) : (s.loaderAdc a v t).pending = t.pending := by
  unfold State.loaderAdc
  repeat' first | with_reducible rfl | exact State.adcRefSelected_pending _ _ | exact State.adcChannelWritten_pending _ _ | exact State.adcFirWritten_pending _ _ | exact State.adcGainWritten_pending _ _ _ | exact State.reqGo_pending _ _ | split
@[simp] theorem State.loaderReg_pending (s : State) (a : Nat) (v : Word) : (State.loaderReg s a v).pending = s.pending := by
  simp only [State.loaderReg, State.anchorCommit_pending, State.ethCfgWrite_pending, State.rset_pending, State.timeCtrlWrite_pending, State.tinCfgWrite_pending, State.loaderAdc_pending, State.pending_ite, ite_self]
@[simp] theorem State.loaderWrite_pending (s : State) (a : Nat) (v : Word) : (State.loaderWrite s a v).pending = s.pending := by
  simp only [State.loaderWrite, State.loaderReg_pending, State.msetW_pending, State.pending_ite, ite_self]
@[simp] theorem State.noteDest_pending (s : State) (a k : Word) : (State.noteDest s a k).pending = s.pending := by
  simp only [State.noteDest, State.withRst_pending]
@[simp] theorem State.identCheck_pending (s : State) (slot : Nat) : (State.identCheck s slot).pending = s.pending := by
  simp only [State.identCheck, State.slotFail_pending, State.withRst_pending, State.pending_ite, ite_self]
@[simp] theorem State.loadRecords_pending (n : Nat) (s : State) (sid : Nat) (l : List Word) : (State.loadRecords n s sid l).1.pending = s.pending := by
  induction n generalizing s l with
  | zero => rcases l with _ | ⟨a, _ | ⟨k, l⟩⟩ <;> rfl
  | succ n ih =>
    rcases l with _ | ⟨a, _ | ⟨k, l⟩⟩
    · rfl
    · rfl
    · unfold State.loadRecords
      split
      · rfl
      · rw [ih, foldl_pending _ (fun s x => State.loaderWrite_pending _ _ _), State.noteDest_pending]
@[simp] theorem State.loadSections_pending (s : State) (slot : Nat) (l : List Nat) : (s.loadSections slot l).1.pending = s.pending := by
  induction l generalizing s with
  | nil => rfl
  | cons id r ih =>
    unfold State.loadSections
    dsimp only
    split
    · exact ih _
    · split
      · exact State.loadRecords_pending _ _ _ _
      · split
        · exact State.loadRecords_pending _ _ _ _
        · rw [ih]; exact State.loadRecords_pending _ _ _ _
theorem execImagePassDone_pending (s : State) : Out.pending s.pending (execImagePassDone s) = s.pending := by
  simp only [execImagePassDone]
  repeat' first | with_reducible rfl | simp only [State.headsDone_pending, State.identCheck_pending, State.setB_pending, State.slotFail_pending, State.withRst_pending, State.loadSections_pending, ite_self, Out.pending_next, Out.pending_ite] | split
theorem execSignatureCheckDone_pending (s : State) : Out.pending s.pending (execSignatureCheckDone s) = s.pending := by
  simp only [execSignatureCheckDone]
  repeat' first | with_reducible rfl | simp only [State.identCheck_pending, State.slotFail_pending, State.pending_ite, ite_self, Out.pending_next] | split
@[simp] theorem State.headDead_pending (s : State) (k : Nat) (l : List Nat) : (State.headDead s k l).pending = s.pending := by
  simp only [State.headDead]
  repeat' first | with_reducible rfl | simp only [State.headRead_pending, State.nextSlot_pending, State.slotError_pending, State.withRst_pending] | split | refine (foldl_pending _ (fun s x => ?_) _ _).trans ?_
theorem execFlashNoResponse_pending (s : State) (k : Nat) : Out.pending s.pending (execFlashNoResponse s k) = s.pending := by
  simp only [execFlashNoResponse]
  repeat' first | with_reducible rfl | simp only [State.headDead_pending, State.slotFail_pending, State.pending_ite, ite_self, Out.pending_next] | split
@[simp] theorem State.clearWord_pending (s : State) (a : Nat) : (State.clearWord s a).pending = s.pending := by
  simp only [State.clearWord, State.loaderReg_pending, State.msetW_pending, State.rset_pending, State.withAnchor_pending, State.pending_ite, ite_self]
theorem execDestClearDone_pending (s : State) : Out.pending s.pending (execDestClearDone s) = s.pending := by
  simp only [execDestClearDone]
  repeat' first | with_reducible rfl | simp only [State.clearWord_pending, State.nextSlot_pending, State.withRst_pending, Out.pending_next] | split | refine (foldl_pending _ (fun s x => ?_) _ _).trans ?_
@[simp] theorem State.commitCask_pending (s : State) (ident : List Byte) : (State.commitCask s ident).pending = s.pending := by
  simp only [State.commitCask, State.logEvent_pending, State.withNvm_pending, State.pending_ite, ite_self]
@[simp] theorem State.commitGuard_pending (s : State) : (State.commitGuard s).pending = s.pending := by
  simp only [State.commitGuard, State.rebuildBearing_pending, State.rset_pending, State.withNvm_pending, State.pending_ite, ite_self]
@[simp] theorem State.commitLoss_pending (s : State) : (State.commitLoss s).pending = s.pending := by
  simp only [State.commitLoss]
  repeat' first | with_reducible rfl | simp only [State.rset_pending, State.setF_pending, State.updateKnee_pending] | split | refine (foldl_pending _ (fun s x => ?_) _ _).trans ?_
@[simp] theorem State.commitTime_pending (s : State) : (State.commitTime s).pending = s.pending := by
  simp only [State.commitTime, State.timeIncWrite_pending, State.timePpsWrite_pending, State.pending_ite, ite_self]
@[simp] theorem State.commit_pending (s : State) (slot : Nat) : (State.commit s slot).pending = s.pending := by
  simp only [State.commit, State.leaveBoot_pending, State.startBootRun_pending]
  repeat' first | with_reducible rfl | simp only [State.caskCommit_pending, State.commitCask_pending, State.commitGuard_pending, State.commitLoss_pending, State.commitTime_pending, State.coreStart_pending, State.ctlApply_pending, State.latchColumn_pending, State.logEvent_pending, State.setB_pending, State.setF_pending, State.withRst_pending, State.pending_ite, ite_self] | split | refine (foldl_pending _ (fun s x => ?_) _ _).trans ?_
theorem execLoaderCommit_pending (s : State) : Out.pending s.pending (execLoaderCommit s) = s.pending := by
  simp only [execLoaderCommit]
  repeat' first | with_reducible rfl | simp only [State.commit_pending, ite_self, Out.pending_next, Out.pending_ite] | split

end Sys2Proof.Machine
end

