-- ==== Sys2Proof/Laws/Regs.lean ====
section
/-!
SUPPORT. What the shared operations do to the registers: a filter of them, the event log, and the frame `State.regsBut` through each update.
-/
namespace Sys2Proof.Machine
theorem SMap.get_filter {β : Type} (d : Nat → β) (m : SMap β) (p : Nat → Bool) (k : Nat) :
    SMap.get d (m.filter (fun x => p x.1)) k = if p k then SMap.get d m k else d k := by
  induction m with
  | nil => simp [SMap.get]
  | cons x m ih =>
    obtain ⟨j, v⟩ := x
    by_cases hj : p j <;> by_cases hk : j = k <;> simp_all [SMap.get]
theorem State.rget_nvmKick (s : State) (a : Nat) : s.nvmKick.rget a = s.rget a := by
  unfold State.nvmKick
  repeat' split
  all_goals rfl
theorem State.rget_logEvent_ne (s : State) (c : Nat) (x y : Word) (a : Nat) (h : a ≠ Reg.THERM_CNT) : (s.logEvent c x y).rget a = s.rget a := by
  unfold State.logEvent
  split
  · exact State.rget_nvmKick _ _
  · exact State.rget_setF_ne _ _ _ _ h
/-- The event log reaches the NVM and the drop counter only. -/
theorem State.nvmKick_form (s : State) : ∃ n, s.nvmKick = s.withNvm n := by
  unfold State.nvmKick
  repeat' split
  all_goals exact ⟨_, rfl⟩
theorem State.logEvent_form (s : State) (c : Nat) (x y : Word) : ∃ n r, s.logEvent c x y = { s with nvm := n, regs := r } := by
  unfold State.logEvent
  split
  · obtain ⟨n, e⟩ := State.nvmKick_form (s.withNvm { s.nvm with queue := s.nvm.queue ++
      [s.logTime ++ [BitVec.ofNat 32 (c * 65536 + s.f Fld.RST_COUNT_COUNT % 65536), x, y]] })
    exact ⟨n, s.regs, e⟩
  · exact ⟨s.nvm, _, rfl⟩
/-- A field's value hangs on its register only. -/
theorem State.f_eq (s t : State) (F : Fld) (h : t.rget F.addr = s.rget F.addr) : t.f F = s.f F := by unfold State.f; rw [h]
theorem State.b_eq (s t : State) (F : Fld) (h : t.rget F.addr = s.rget F.addr) : t.b F = s.b F := by unfold State.b; rw [State.f_eq s t F h]
theorem State.f_logEvent (s : State) (c : Nat) (x y : Word) (F : Fld) (h : decide (F.addr ≠ Reg.THERM_CNT) = true) : (s.logEvent c x y).f F = s.f F :=
  State.f_eq _ _ F (State.rget_logEvent_ne s c x y _ (of_decide_eq_true h))
theorem State.b_logEvent (s : State) (c : Nat) (x y : Word) (F : Fld) (h : decide (F.addr ≠ Reg.THERM_CNT) = true) : (s.logEvent c x y).b F = s.b F :=
  State.b_eq _ _ F (State.rget_logEvent_ne s c x y _ (of_decide_eq_true h))
theorem State.testBit_or_pow (a k : Nat) : (a ||| 2 ^ k).testBit k = true := by simp
theorem State.regsBut_refl (l : List Nat) (s : State) : State.regsBut l s s := fun _ _ => rfl
theorem State.regsBut_rset {l : List Nat} {s t : State} (a : Nat) (v : Word) (hs : State.regsBut l s t) (h : a ∈ l) : State.regsBut l s (t.rset a v) := by
  intro b hb
  rw [State.rget_rset_ne _ _ _ _ (fun e => hb (by rw [e]; exact h))]
  exact hs b hb
theorem State.regsBut_setF {l : List Nat} {s t : State} (F : Fld) (x : Nat) (hs : State.regsBut l s t) (h : F.addr ∈ l) : State.regsBut l s (t.setF F x) :=
  State.regsBut_rset _ _ hs h
theorem State.regsBut_setB {l : List Nat} {s t : State} (F : Fld) (x : Bool) (hs : State.regsBut l s t) (h : F.addr ∈ l) : State.regsBut l s (t.setB F x) :=
  State.regsBut_rset _ _ hs h
theorem State.regsBut_raise {l : List Nat} {s t : State} (c : Cause) (hs : State.regsBut l s t) (h : c.fld.addr ∈ l) (h2 : c.cnt.addr ∈ l) : State.regsBut l s (t.raise c) :=
  State.regsBut_setF c.fld _ (State.regsBut_setF c.cnt _ hs h2) h
theorem State.regsBut_logEvent {l : List Nat} {s t : State} (c : Nat) (x y : Word) (hs : State.regsBut l s t) (h : Reg.THERM_CNT ∈ l) : State.regsBut l s (t.logEvent c x y) := by
  intro b hb
  rw [State.rget_logEvent_ne _ _ _ _ _ (fun e => hb (by rw [e]; exact h))]
  exact hs b hb
theorem State.regsBut_of {l : List Nat} {s t u : State} (hs : State.regsBut l s t) (h : u.regs = t.regs) : State.regsBut l s u := by
  intro b hb; unfold State.rget; rw [h]; exact hs b hb
theorem State.raise_eq (s : State) (c : Cause) : s.raise c = (s.incSat c.cnt 1).setF c.fld 1 := rfl
theorem SMap.get_set_ne' {β : Type} [DecidableEq β] (d : Nat → β) (m : SMap β) (k j : Nat) (v : β) (h : decide (j ≠ k) = true) :
  SMap.get d (SMap.set d m k v) j = SMap.get d m j := SMap.get_set_ne d m k j v (of_decide_eq_true h)
theorem Fld.of_put_apart' (F G : Fld) (v : Word) (x : Nat) (h : G.fits = true) (ha : (decide (F.lo + F.w ≤ G.lo) || decide (G.lo + G.w ≤ F.lo)) = true) :
  F.of (G.put v x) = F.of v := Fld.of_put_apart F G v x h (by simpa using ha)
end Sys2Proof.Machine
end

