-- ==== Sys2Proof/Tests/Slice0.lean ====
section
/-!
SUPPORT. Small tests: ill-formed commands, worked examples of the spec, and for every obligation with hypotheses a state and operands that meet them, clause by clause.
-/
namespace Sys2Proof.Machine

set_option Elab.async false
set_option linter.unusedVariables false

/-- The machine after its start, in the given device state. -/
def wS (d : Dev) : State := { State.reset with dev := d, rst := { State.reset.rst with phase := if d = .boot then .option else .done } }

/-- A flash whose first bytes are as given. -/
def flashOf (f : Nat → Byte) : List Host.Cell := (List.range 0x210).map (fun i => (i, f i))

/-- A public key for the slot below: x, and y above it. -/
def pubN : Nat := 0xaeb90f6c742d8f8f7d7e5f02fb561c167226fddd415d2d12c9bc5295f735782b98ac1a4c8cc62a8c0c2da5ffd1943f8a25291526263d0d5a36d8afd1431a0176

/-- The signature, r and s above it, by that key over the 256 bytes of a HEAD that is zero but for byte 0x12. -/
def sigN : Nat := 0xf5263f02fb593faa431f4c74e8037e9f14590147d2678c268c39aafe8cee74687cf27b188d034f7e8a52380304b51ac3c08969e277f21b35a60b48fc47669978

/-- The 64 bytes of a number, the lowest first. -/
def bytes64 (v : Nat) : List Byte := (List.range 64).map (fun i => BitVec.ofNat 8 (v / 256 ^ i))

/-- A machine whose slot 1 holds that signed image. -/
def wSigned : State :=
  { wS .boot with
    rst := { State.reset.rst with phase := .sig 1 }
    flash := flashOf (fun i => if i = 0x12 then 2 else if 0x100 ≤ i ∧ i < 0x140 then (bytes64 pubN).getD (i - 0x100) 0 else if 0x140 ≤ i ∧ i < 0x180 then (bytes64 sigN).getD (i - 0x140) 0 else 0)
    nvm := { State.reset.nvm with keyHash := some (sha256 (bytes64 pubN)), caskId := some (sha256 []) } }

/-- An option page whose words are zero but for its format, with its two CRCs. -/
def goodPage0 : List Word :=
  let b : List Word := 1 :: List.replicate 14 0
  b ++ [crc32 (b.flatMap wordBytes), 0, crc32 (wordBytes 0)]

/-- A record of eight words. -/
def wRec : OutRec := { kind := .echo 1 false false [], frame := 0, words := List.replicate 8 0 }

/-! ## WellFormed: one term for each check, which it refuses, and the least terms, which it accepts -/

/-- Nothing at the pins of an AFE channel. -/
def wAfe : AfeRaw := { ax := [], trim := 0, lead := 0, dur := 0, comp := false, open_ := false }

theorem test_wf_refuses_0 : ([
    .railGood 7, .railFailure 7, .resetRelease 256 true [], .optionLoadDone (some (List.replicate 17 0)),
    .pinTestDone (List.replicate 10 0) 0 0, .flashNoResponse 3, .bgcalMapStaged 1024 0, .clusterPowerOn 64 0,
    .clusterPowerOff 64 0, .ambientGateOpen 1024, .ambientGateMidpoint 1024, .ambientGateClose 1024,
    .chargeString 8 0 0, .chargeString 0 4096 0, .chgSelOff 8, .shotReadyCheck 8 0,
    .shotReadyCheck 0 4096, .emissionLimitDecide 8 true, .fire 8 0, .windowClose 64 0,
    .zoomPlace 64, .shotMonitorBurst 8, .shotVerdict 8 [], .periodicProbeDue 8,
    .chargeSupplyTrip 8 0 0 0, .chargeSupplyTrip 0 4096 0 0, .rxEvent 1024 0 0 0, .rxEvent 0 16 0 0, .rxEvent 0 0 0 0 [(16, 0, 0)],
    .rxEvent 0 0 0 96, .rxEvent 0 0 0 0 [(0, 0, 96)], .mashSnapctlArm 1024, .thinLevelFall 64 0, .mashDrain 64 0 true [], .mashDrain 0 0 true [3],
    .histogramClose 16 [], .lauterExtractDone 1024, .echoRecordEmit 2, .datagramSend 2 none,
    .dwlCreditReceive 2 0 true, .laneAlignAcquired 4, .laneCodeError 4 0 0 true, .laneCodeError 0 0 3 true] : List Instr).all (fun i => !i.wf) = true := by decide

theorem test_wf_refuses_1 : ([
    .laneAdaptDone 4 (List.replicate 16 0) 0 0 0, .laneAdaptDone 0 (List.replicate 15 0) 0 0 0, .eyeMeasure 4 0 0 0 0 0, .ethLinkChange 2 true true,
    .ethFrameReceive 2 [] true 0, .arpRefresh 2 0, .tinEdge 4 true 0, .tinInterpCal 4 [],
    .adc0ReqTrigger 4 0, .adc0BurstDone 4 [], .afeConversionDone 16 wAfe, .thermScan (List.replicate 67 0),
    .chargeGroupEvaluate 8, .scrubStep 6 0 0, .scrubStep 0 0 3, .enEdge 2 true,
    .ampEthDatagram 2 true, .ampDwlSideband 2 [] true, .get [3], .adc0ReqGo 4,
    .tinQhiRead 4, .tinCfgWrite 4 0, .timeCtrlWrite 9 0, .ethTxcmdGo 2 0,
    .ethQpop 2, .ethTxts2Read 2, .ethModeWrite 2 0, .wdtkick 2 0,
    .mbox7Write 2 0, .dmaGo 4, .dmaDone 4 [], .dmaDone 0 [3],
    .registerWrite 9 0 0, .registerWrite 1 4294967296 0, .registerWrite 0 0 0, .wdtExpiry 2,
    .dspCoreStart 2 0, .dspCoreStart 0 3, .dspInterruptEntry 2, .dspException 2 none] : List Instr).all (fun i => !i.wf) = true := by decide

theorem test_wf_refuses_2 : ([
    .tapColumnDone 2, .dspAdd 2 0 0 0, .dspAdd 0 32 0 0, .dspAdd 0 0 32 0,
    .dspAdd 0 0 0 32, .dspSub 2 0 0 0, .dspSub 0 32 0 0, .dspSub 0 0 32 0,
    .dspSub 0 0 0 32, .dspAdds 2 0 0 0, .dspAdds 0 32 0 0, .dspAdds 0 0 32 0,
    .dspAdds 0 0 0 32, .dspSubs 2 0 0 0, .dspSubs 0 32 0 0, .dspSubs 0 0 32 0,
    .dspSubs 0 0 0 32, .dspAnd 2 0 0 0, .dspAnd 0 32 0 0, .dspAnd 0 0 32 0,
    .dspAnd 0 0 0 32, .dspOr 2 0 0 0, .dspOr 0 32 0 0, .dspOr 0 0 32 0,
    .dspOr 0 0 0 32, .dspXor 2 0 0 0, .dspXor 0 32 0 0, .dspXor 0 0 32 0,
    .dspXor 0 0 0 32, .dspSll 2 0 0 0, .dspSll 0 32 0 0, .dspSll 0 0 32 0,
    .dspSll 0 0 0 32, .dspSrl 2 0 0 0, .dspSrl 0 32 0 0, .dspSrl 0 0 32 0,
    .dspSrl 0 0 0 32, .dspSra 2 0 0 0, .dspSra 0 32 0 0, .dspSra 0 0 32 0] : List Instr).all (fun i => !i.wf) = true := by decide

theorem test_wf_refuses_3 : ([
    .dspSra 0 0 0 32, .dspMin 2 0 0 0, .dspMin 0 32 0 0, .dspMin 0 0 32 0,
    .dspMin 0 0 0 32, .dspMax 2 0 0 0, .dspMax 0 32 0 0, .dspMax 0 0 32 0,
    .dspMax 0 0 0 32, .dspCmplt 2 0 0 0, .dspCmplt 0 32 0 0, .dspCmplt 0 0 32 0,
    .dspCmplt 0 0 0 32, .dspCmpltu 2 0 0 0, .dspCmpltu 0 32 0 0, .dspCmpltu 0 0 32 0,
    .dspCmpltu 0 0 0 32, .dspCmpeq 2 0 0 0, .dspCmpeq 0 32 0 0, .dspCmpeq 0 0 32 0,
    .dspCmpeq 0 0 0 32, .dspMull 2 0 0 0, .dspMull 0 32 0 0, .dspMull 0 0 32 0,
    .dspMull 0 0 0 32, .dspMulh 2 0 0 0, .dspMulh 0 32 0 0, .dspMulh 0 0 32 0,
    .dspMulh 0 0 0 32, .dspAbs 2 0 0, .dspAbs 0 32 0, .dspAbs 0 0 32,
    .dspClz 2 0 0, .dspClz 0 32 0, .dspClz 0 0 32, .dspPack 2 0 0 0,
    .dspPack 0 32 0 0, .dspPack 0 0 32 0, .dspPack 0 0 0 32, .dspAddi 2 0 0 0] : List Instr).all (fun i => !i.wf) = true := by decide

theorem test_wf_refuses_4 : ([
    .dspAddi 0 32 0 0, .dspAddi 0 0 32 0, .dspAndi 2 0 0 0, .dspAndi 0 32 0 0,
    .dspAndi 0 0 32 0, .dspOri 2 0 0 0, .dspOri 0 32 0 0, .dspOri 0 0 32 0,
    .dspXori 2 0 0 0, .dspXori 0 32 0 0, .dspXori 0 0 32 0, .dspSlli 2 0 0 0,
    .dspSlli 0 32 0 0, .dspSlli 0 0 32 0, .dspSrli 2 0 0 0, .dspSrli 0 32 0 0,
    .dspSrli 0 0 32 0, .dspSrai 2 0 0 0, .dspSrai 0 32 0 0, .dspSrai 0 0 32 0,
    .dspCmplti 2 0 0 0, .dspCmplti 0 32 0 0, .dspCmplti 0 0 32 0, .dspCmpeqi 2 0 0 0,
    .dspCmpeqi 0 32 0 0, .dspCmpeqi 0 0 32 0, .dspMovl 2 0 0, .dspMovl 0 32 0,
    .dspMovh 2 0 0, .dspMovh 0 32 0, .dspLdw 2 0 0 0 0 0 0, .dspLdw 0 32 0 0 0 0 0,
    .dspLdw 0 0 32 0 0 0 0, .dspLdw 0 0 0 8 0 0 0, .dspLdw 0 0 0 0 4 0 0, .dspLdw 0 0 0 0 0 0 3,
    .dspLdw 0 0 0 0 0 0 16, .dspLdh 2 0 0 0 0 0 0, .dspLdh 0 32 0 0 0 0 0, .dspLdh 0 0 32 0 0 0 0] : List Instr).all (fun i => !i.wf) = true := by decide

theorem test_wf_refuses_5 : ([
    .dspLdh 0 0 0 8 0 0 0, .dspLdh 0 0 0 0 4 0 0, .dspLdh 0 0 0 0 0 0 3, .dspLdh 0 0 0 0 0 0 4,
    .dspLdhu 2 0 0 0 0 0 0, .dspLdhu 0 32 0 0 0 0 0, .dspLdhu 0 0 32 0 0 0 0, .dspLdhu 0 0 0 8 0 0 0,
    .dspLdhu 0 0 0 0 4 0 0, .dspLdhu 0 0 0 0 0 0 3, .dspLdhu 0 0 0 0 0 0 4, .dspLdd 2 0 0 0 0 0 0,
    .dspLdd 0 32 0 0 0 0 0, .dspLdd 0 0 32 0 0 0 0, .dspLdd 0 0 0 8 0 0 0, .dspLdd 0 0 0 0 4 0 0,
    .dspLdd 0 0 0 0 0 0 3, .dspLdd 0 0 0 0 0 0 256, .dspLdd 0 1 0 0 0 0 0, .dspStw 2 0 0 0 0 0,
    .dspStw 0 32 0 0 0 0, .dspStw 0 0 32 0 0 0, .dspStw 0 0 0 8 0 0, .dspStw 0 0 0 0 4 0,
    .dspSth 2 0 0 0 0 0, .dspSth 0 32 0 0 0 0, .dspSth 0 0 32 0 0 0, .dspSth 0 0 0 8 0 0,
    .dspSth 0 0 0 0 4 0, .dspStd 2 0 0 0 0 0, .dspStd 0 32 0 0 0 0, .dspStd 0 0 32 0 0 0,
    .dspStd 0 0 0 8 0 0, .dspStd 0 0 0 0 4 0, .dspStd 0 1 0 0 0 0, .dspQmpy 2 0 true 0 true 0,
    .dspQmpy 0 32 true 0 true 0, .dspQmpy 0 0 true 16 true 0, .dspQmpy 0 0 true 0 true 16, .dspQmac 2 0 true 0 true 0] : List Instr).all (fun i => !i.wf) = true := by decide

theorem test_wf_refuses_6 : ([
    .dspQmac 0 32 true 0 true 0, .dspQmac 0 0 true 16 true 0, .dspQmac 0 0 true 0 true 16, .dspQclr 2,
    .dspMva 2 0 0 true 0, .dspMva 0 32 0 true 0, .dspMva 0 0 4 true 0, .dspMva 0 0 0 true 64,
    .dspMval 2 0 0, .dspMval 0 32 0, .dspMval 0 0 4, .dspMvah 2 0 0,
    .dspMvah 0 32 0, .dspMvah 0 0 4, .dspMvag 2 0 0, .dspMvag 0 32 0,
    .dspMvag 0 0 4, .dspMta 2 0 0 0, .dspMta 0 32 0 0, .dspMta 0 0 4 0,
    .dspMta 0 0 0 64, .dspAdda 2 0 0, .dspAdda 0 4 0, .dspAdda 0 0 4,
    .dspSha 2 0 true 0, .dspSha 0 4 true 0, .dspSha 0 0 true 64, .dspBra 2 0 0,
    .dspBra 0 32 0, .dspBeq 2 0 0, .dspBeq 0 32 0, .dspBne 2 0 0,
    .dspBne 0 32 0, .dspBlt 2 0 0, .dspBlt 0 32 0, .dspBge 2 0 0,
    .dspBge 0 32 0, .dspBgt 2 0 0, .dspBgt 0 32 0, .dspBle 2 0 0] : List Instr).all (fun i => !i.wf) = true := by decide

theorem test_wf_refuses_7 : ([
    .dspBle 0 32 0, .dspCall 2 0, .dspJr 2 0, .dspJr 0 32,
    .dspJalr 2 0, .dspJalr 0 32, .dspRti 2, .dspNop 2,
    .dspIdle 2, .dspEi 2, .dspDi 2, .dspCsrr 2 0 0,
    .dspCsrr 0 32 0, .dspCsrr 0 0 4096, .dspCsrw 2 0 0, .dspCsrw 0 32 0,
    .dspCsrw 0 0 4096, .dspTrap 2, .dspSync 2, .dspRepeat 2 none 0,
    .dspRepeat 0 none 65536, .dspRepeat 0 (some 32) 0, .dspLoop 2 none 0 0, .dspLoop 0 none 2048 0,
    .dspLoop 0 none 0 1024, .dspLoop 0 (some 32) 0 0, .ethFrameTransmitDone 2 0 true, .timerCompareMatch 2,
    .boundaryScanInstruction 4 0 0] : List Instr).all (fun i => !i.wf) = true := by decide

theorem test_wf_accepts_0 : ([
    .railGood 0, .railFailure 0, .resetRelease 0 true [], .optionLoadDone none,
    .pinTestDone (List.replicate 11 0) 0 0, .flashNoResponse 1, .bgcalMapStaged 0 0, .clusterPowerOn 0 0,
    .clusterPowerOff 0 0, .ambientGateOpen 0, .ambientGateMidpoint 0, .ambientGateClose 0,
    .chargeString 0 0 0, .chgSelOff 0, .shotReadyCheck 0 0, .emissionLimitDecide 0 true,
    .fire 0 0, .windowClose 0 0, .zoomPlace 0, .shotMonitorBurst 0,
    .shotVerdict 0 [], .periodicProbeDue 0, .chargeSupplyTrip 0 0 0 0, .rxEvent 0 0 0 0, .mashSnapctlArm 0,
    .thinLevelFall 0 0, .mashDrain 0 0 true [], .histogramClose 0 [], .lauterExtractDone 0,
    .echoRecordEmit 0, .datagramSend 0 none, .dwlCreditReceive 0 0 true, .laneAlignAcquired 0,
    .laneCodeError 0 0 0 true, .laneAdaptDone 0 (List.replicate 16 0) 0 0 0, .eyeMeasure 0 0 0 0 0 0, .ethLinkChange 0 true true,
    .ethFrameReceive 0 [] true 0, .arpRefresh 0 0, .tinEdge 0 true 0, .tinInterpCal 0 []] : List Instr).all Instr.wf = true := by decide

theorem test_wf_accepts_1 : ([
    .adc0ReqTrigger 0 0, .adc0BurstDone 0 [], .afeConversionDone 0 wAfe, .thermScan (List.replicate 68 0),
    .chargeGroupEvaluate 0, .scrubStep 0 0 0, .enEdge 0 true, .ampEthDatagram 0 true,
    .ampDwlSideband 0 [] true, .get [], .adc0ReqGo 0, .tinQhiRead 0,
    .tinCfgWrite 0 0, .timeCtrlWrite 0 0, .ethTxcmdGo 0 0, .ethQpop 0,
    .ethTxts2Read 0, .ethModeWrite 0 0, .wdtkick 0 0, .mbox7Write 0 0,
    .dmaGo 0, .dmaDone 0 [], .registerWrite 1 0 0, .wdtExpiry 0,
    .dspCoreStart 0 0, .dspInterruptEntry 0, .dspException 0 none, .tapColumnDone 0,
    .dspAdd 0 0 0 0, .dspSub 0 0 0 0, .dspAdds 0 0 0 0, .dspSubs 0 0 0 0,
    .dspAnd 0 0 0 0, .dspOr 0 0 0 0, .dspXor 0 0 0 0, .dspSll 0 0 0 0,
    .dspSrl 0 0 0 0, .dspSra 0 0 0 0, .dspMin 0 0 0 0, .dspMax 0 0 0 0] : List Instr).all Instr.wf = true := by decide

theorem test_wf_accepts_2 : ([
    .dspCmplt 0 0 0 0, .dspCmpltu 0 0 0 0, .dspCmpeq 0 0 0 0, .dspMull 0 0 0 0,
    .dspMulh 0 0 0 0, .dspAbs 0 0 0, .dspClz 0 0 0, .dspPack 0 0 0 0,
    .dspAddi 0 0 0 0, .dspAndi 0 0 0 0, .dspOri 0 0 0 0, .dspXori 0 0 0 0,
    .dspSlli 0 0 0 0, .dspSrli 0 0 0 0, .dspSrai 0 0 0 0, .dspCmplti 0 0 0 0,
    .dspCmpeqi 0 0 0 0, .dspMovl 0 0 0, .dspMovh 0 0 0, .dspLdw 0 0 0 0 0 0 0,
    .dspLdh 0 0 0 0 0 0 0, .dspLdhu 0 0 0 0 0 0 0, .dspLdd 0 0 0 0 0 0 0, .dspStw 0 0 0 0 0 0,
    .dspSth 0 0 0 0 0 0, .dspStd 0 0 0 0 0 0, .dspQmpy 0 0 true 0 true 0, .dspQmac 0 0 true 0 true 0,
    .dspQclr 0, .dspMva 0 0 0 true 0, .dspMval 0 0 0, .dspMvah 0 0 0,
    .dspMvag 0 0 0, .dspMta 0 0 0 0, .dspAdda 0 0 0, .dspSha 0 0 true 0,
    .dspBra 0 0 0, .dspBeq 0 0 0, .dspBne 0 0 0, .dspBlt 0 0 0] : List Instr).all Instr.wf = true := by decide

theorem test_wf_accepts_3 : ([
    .dspBge 0 0 0, .dspBgt 0 0 0, .dspBle 0 0 0, .dspCall 0 0,
    .dspJr 0 0, .dspJalr 0 0, .dspRti 0, .dspNop 0,
    .dspIdle 0, .dspEi 0, .dspDi 0, .dspCsrr 0 0 0,
    .dspCsrw 0 0 0, .dspTrap 0, .dspSync 0, .dspRepeat 0 none 0,
    .dspLoop 0 none 0 0, .ethFrameTransmitDone 0 0 true, .timerCompareMatch 0, .boundaryScanInstruction 0 0 0] : List Instr).all Instr.wf = true := by decide

/-- What holds of the next state of a command, if it has one. -/
def goes (c : Instr) (s : State) (p : State → Bool) : Bool := match exec c s with | .next t => p t | _ => false

/-! ## Worked examples of the spec -/

/-- 02_package_signals.md: FIRE2_N bridged to FIRE3_P, first boot. -/
def bridged : List (BitVec 22) :=
  (List.range 11).map (fun k => BitVec.ofNat 22 (if k = 2 ∨ k = 3 then 0xF0 else 3 * 4 ^ k))

theorem test_pin_test_bridge :
    goes (.pinTestDone bridged 0 0) ((wS .boot).setB Fld.TOP_PINTEST_BUSY true) (fun t => t.rget Reg.TOP_PINTEST = 0x01020009) = true := by
  decide +kernel

/-- 03_power_reset_startup.md: the watchdog of DSP1 (level L2) and an AMP RESET of level L1 on one edge. -/
theorem test_deepest_reset :
    goes .resetAssert (({ wS .scan with rst := { (wS .scan).rst with raised := 0x30, ampReset := some (1, none) } } : State).rset Reg.RST_COUNT 0x41 |>.rset Reg.RST_CAUSE 0)
      (fun t => t.rget Reg.RST_CAUSE = 0x30 && t.rget Reg.RST_STATUS = 0x00050100 && t.rget Reg.RST_COUNT = 0x42) = true := by
  decide +kernel

/-- 05_emitters.md: LFSR 0xB3C5 and DSPAN 255 give a dither of 179 ns. -/
theorem test_dither : ditherOffset 0xB3C5 255 = 179 := by decide +kernel

/-- 05_emitters.md: seven emitters at 9.0 V and VOH 4.0 V. -/
theorem test_demand_code :
    (let s := (wS .scan).setF (Fld.EMIT_LOOP_VOH 5) 0x50
     ({ s with eff := SMap.set regReset s.eff (Fld.EMIT_ECLASS_VE 3).addr 0xB4 } : State).demandCode 5 7 3) = 0x68B := by decide +kernel

/-- 07_receiver_timing.md: the Grist word of CH679. -/
theorem test_grist_word : gristWord false 2 7 301 46 = 0x009C4B6E := by decide +kernel

/-- 07_receiver_timing.md: the centres of taps 40 to 44 of a boot run. -/
theorem test_code_map : codeMap 64 262144 109280 [3160, 3440, 2440, 3380, 3520] = [27, 27, 28, 29, 30] := by decide +kernel

/-- 07_receiver_timing.md: an interval across a wrap. -/
theorem test_interval :
    interval { ns := 0xFFFFFF9C, frac := 0x40, fine := 0x1A, tv := true, wraps := 0 } { ns := 0xA28, frac := 0xC0, fine := 7, tv := true, wraps := 1 } = 691252 := by
  decide +kernel

/-- 07_receiver_timing.md: the 22nd entry of TIN2 that this interval makes. -/
theorem test_interval_entry :
    (let s := (wS .scan).setTin 2 { (wS .scan).tin 2 with start := some { ns := 0xFFFFFF9C, frac := 0x40, fine := 0x1A, tv := true, wraps := 0 }, seqInt := 0x15 }
     (s.tinStop 2 { ns := 0xA28, frac := 0xC0, fine := 7, tv := true, wraps := 1 }).tinFront 2) = (0x00000A8C, 0x34004015) := by decide +kernel

/-- 09_echoes.md: the peak of CH679 over a floor of 3.0. -/
def door : SeqData :=
  { q := { base := 0, n := 64, o := 0, w := 128, zoom := none }
    c := ((List.replicate 17 0 ++ [3, 3, 3, 4, 40, 190, 300, 160, 30, 5, 2, 3, 3]) ++ List.replicate 34 0).toArray
    fl := Array.replicate 64 768
    y := ((List.range 64).map (fun b => if b = 23 then 1 else 0)).toArray
    thr := Array.replicate 64 0 }

theorem test_measure_door :
    measure door { seq := 0, first := 20, last := 26, start := 2560, w := 128 } = { t16 := 48000, area := 180480, sat := false, width := 74, zoomed := false } := by
  decide +kernel

theorem test_threshold_door : threshold (5 * 16) (4 * 16) 768 / 256 = 15 := by decide +kernel

theorem test_range_door : rangeOf 48000 (1595 + 3200) = 0x3168 := by decide +kernel

theorem test_intensity_door : intensity 180480 127296 = 0x67D := by decide +kernel

/-- 10_point_stream.md: the echo of CH679. -/
def doorEcho : Echo :=
  { range := 0x3168, int := 0x67D, width := 0x4A, rain := false, sat := false, thin := false, zoomed := false, field := true, aliased := false, invalid := false, area := 0 }

theorem test_echo_mode2 : echoWords 2 2 0x2A7 false false [3163] [doorEcho] = [0x210002A7, 0x00044B3A] := by decide +kernel

theorem test_echo_mode0 : echoWords 0 2 0x2A7 false false [] [doorEcho] = [0x220002A7, 0x031682A7, 0x02094CFA] := by decide +kernel

theorem test_column_record :
    (colRec { frame := 0xA0C35, az := 0x8000, ts := 0x3B9AC9F0, tv := true, sos := false, kstate := 0x10, granted := 24, planned := 24,
              rows := 0x0000FF0000000000, lost := 0, mcol := 0 } 2 2 0 false false).words
      = [0x170A0C35, 0x80008810, 0x3B9AC9F0, 0x10006018, 0, 0xFF00, 0, 0] := by decide +kernel

/-- 13_network_time.md: a stamp across a wrap. -/
theorem test_descriptor :
    (let s := ((((wS .scan).setFs (Fld.ETH_ASYM_I_PS 0) 46850).setF Fld.TIME_STAT_WRAPS 0x13).setB Fld.TIME_CTRL_VALID true)
     let s : State := { s with time := { s.time with ctr := 0x0000001040000000 } }
     (bytesW (s.descriptor 0 0 0 64) 0, bytesW (s.descriptor 0 0 0 64) 4, bytesW (s.descriptor 0 0 0 64) 8))
      = (BitVec.ofNat 32 (2 ^ 30 + 2 ^ 29 + 0x13 * 2048 + 64), 0xFFFFFFE1, 0x66660000) := by decide +kernel

/-- 12_analogue_thermal.md: sensor 31 among its neighbours. -/
def hotRow (k : Nat) : Int := match k with | 29 => 1128 | 30 => 1136 | 31 => 1384 | 32 => 1152 | _ => 1144

theorem test_suspect :
    suspectCond hotRow 31 = true ∧ suspectCond hotRow 30 = false ∧ suspectCond hotRow 32 = false ∧ substitute hotRow (fun k => k = 31) 31 = 0x478 := by decide +kernel

/-- 14_management_modes.md: KILN policy COOL and SCAN_STALL in one SET. -/
def coolSet : List Byte :=
  [0x01, 0x02, 0x07, 0x01, 0x1C, 0, 0, 0, 0, 0, 0, 0] ++ [2, 0, 0, 0] ++ [0, 0, 5, 0, 3, 0, 0, 0, 2, 0, 0, 0] ++ [0x4C, 0, 4, 0, 1, 0, 0, 0, 1, 0, 0, 0]

theorem test_set_cool :
    (let s := ((wS .scan).rset Reg.KILN_CTRL 1).rset Reg.SCAN_FLAG 3
     let s := (((s.setB Fld.CLK_STATUS_PLLB_LOCK true).rset Reg.BUS_FROZEN 0).rset (Reg.BUS_WIN_LO 6 0) 3).rset (Reg.BUS_WIN_HI 6 0) 0xFFFFF000
     let r : AmpReq := { src := .eth 0x0A020009, port := 0, sport := 5000, bad := false, msg := coolSet }
     let s : State := { s with amp := { s.amp with queue := [r], wins := [⟨.eth 0x0A020009, 2, 0⟩] } }
     goes .set s (fun t => t.rget Reg.KILN_CTRL = 2 && t.rget Reg.SCAN_FLAG = 2 &&
       t.keptFor r = some [0x01, 0x02, 0x07, 0x01, 0x04, 0, 0, 0x01, 0, 0, 0, 0, 0x02, 0, 0x02, 0])) = true := by decide +kernel

/-- 17_dsp_cores.md: QMPY of w with two butterflies. -/
theorem test_qmpy :
    (let s := ((wS .scan).rset Reg.BUS_FROZEN 0)
     let x : CoreSt := ((((s.core 1).setReg 4 0xA57E5A82).setReg 8 0x20004000).setReg 9 0xF0001000)
     let s := s.setCore 1 { x.csrSet 0 2 with mode := 1 }
     goes (.dspQmpy 1 4 false 4 false 0) s (fun t => (List.range 4).map (fun n => (t.core 1).a n) = [0x2D410000, 0x16A08000, 0x0B504000, -0x0B504000])) = true := by decide +kernel

/-- 11_control_engine.md and 19_address_map.md: addresses. -/
theorem test_addresses :
    (Fld.CTL_CSP_SP 5 2).addr = 0x000A06D0 ∧ Reg.BUS_WIN_LO 1 3 = 0x001A0158 ∧ Reg.BUS_WIN_HI 1 3 = 0x001A015C ∧ Reg.KILN_CTRL = 0x50000 ∧ Reg.SCAN_FLAG = 0x4004C ∧
      Reg.CASK_CALCFG = 0x151F00 := by decide +kernel

/-! ## Every obligation with hypotheses: what meets them -/

/-- The state an outcome leads to. -/
def after (o : Host.Outcome State Fault Refusal) (s : State) : State := match o with | .next t => t | _ => s

/-- The outcome is a next state. -/
def runs (o : Host.Outcome State Fault Refusal) : Bool := match o with | .next _ => true | _ => false

theorem next_after {o : Host.Outcome State Fault Refusal} (s : State) (h : runs o = true) : o = .next (after o s) := by
  cases o <;> simp_all [runs, after]

/-- IDLE with the Guard's sections loaded and a given reference of the Guard CRC. -/
def wGuard (v : Word) : State :=
  ({ wS .idle with rst := { (wS .idle).rst with sections := 0xFFF } } : State).rset Reg.GUARD_CRCREF v

theorem wGuard_crc (v : Word) : (wGuard v).guardCrc = (wGuard 0).guardCrc := by
  have h : ∀ i ∈ List.range 11, wordBytes ((wGuard v).rget (Reg.GUARD_CFG + 4 * i)) = wordBytes ((wGuard 0).rget (Reg.GUARD_CFG + 4 * i)) := by
    intro i hi
    have hne : Reg.GUARD_CFG + 4 * i ≠ Reg.GUARD_CRCREF := by
      have : ∀ i ∈ List.range 11, Reg.GUARD_CFG + 4 * i ≠ Reg.GUARD_CRCREF := by decide
      exact this i hi
    unfold wGuard
    rw [State.rget_rset_ne _ _ _ _ hne, State.rget_rset_ne _ _ _ _ hne]
  unfold State.guardCrc
  rw [List.flatMap_congr h]
  rfl

theorem wGuard_ref (v : Word) : (wGuard v).rget Reg.GUARD_CRCREF = v := State.rget_rset_self _ _ _

theorem wGuard_open (v : Word) : (wGuard v).b Fld.GUARD_STAT_CHANGE_OPEN = false := by
  rw [State.b_eq (wGuard 0) (wGuard v) Fld.GUARD_STAT_CHANGE_OPEN (by unfold wGuard; rw [State.rget_rset_ne _ _ _ _ (by decide), State.rget_rset_ne _ _ _ _ (by decide)])]
  decide +kernel

theorem not_own (v : Word) : v ≠ ~~~v := by
  intro h
  have := congrArg (fun x : Word => x.getLsbD 0) h
  simp at this

theorem met_IdleTick : ∃ (s : State), s.pending = [] :=
  ⟨wS .scan, by decide +kernel⟩

theorem met_MemoryCanonical : ∃ (s t : State), Memory.wf s.mem = true ∧ step s = .next t :=
  ⟨{ wS .scan with mem := [(0x02000000, 1)], pending := [.vinRise] }, _, by decide +kernel, next_after (wS .scan) (by decide +kernel)⟩

theorem met_QueueTail : ∃ (s t : State), step s = .next t :=
  ⟨{ wS .scan with pending := [.vinRise, .parkExit] }, _, next_after (wS .scan) (by decide +kernel)⟩

theorem met_CmacKeyFixed : ∃ (k : Option (List Byte)) (s : State) (t : State), s.nvm.cmacKey = k ∧ step s = .next t :=
  ⟨some [1], { wS .scan with nvm := { State.reset.nvm with cmacKey := some [1] }, pending := [.resetAssert] }, _, rfl, next_after (wS .scan) (by decide +kernel)⟩

theorem met_MemoryFrame : ∃ (c : Instr) (s t : State), storing c = false ∧ exec c s = .next t :=
  ⟨.ambientGateClose 1023, { wS .scan with mem := [(0x02000000, 1)] }, _, rfl, next_after (wS .scan) (by decide +kernel)⟩

theorem met_SupplyAndRails :
    (∃ (s : State), s.rst.phase = .off) ∧
    (∃ (s : State), s.rst.phase ≠ .off) ∧
    (∃ (s : State), s.rst.phase ≠ .off) ∧
    (∃ (vbat : Bool) (s : State), s.rst.phase ≠ .off) ∧
    (∃ (s : State), s.rst.phase = .rails 1) ∧
    (∃ (r : Nat) (s : State), s.railOn r = true ∧ s.rst.active ≠ some 0) ∧
    (∃ (r : Nat) (s : State), s.railOn r = false) ∧
    (∃ (r : Nat) (s : State), s.railOn r = true) ∧
    (∃ (r : Nat) (s : State), s.railOn r = true) :=
  ⟨⟨(let s := wS .scan; let s : State := { s with rst := { s.rst with phase := .off } }; s), by decide +kernel⟩,
   ⟨wS .scan, by decide +kernel⟩,
   ⟨wS .scan, by decide +kernel⟩,
   ⟨true, wS .scan, by decide +kernel⟩,
   ⟨(let s := wS .scan; let s : State := { s with rst := { s.rst with phase := .rails 1 } }; s), by decide +kernel⟩,
   ⟨1, wS .scan, by decide +kernel⟩,
   ⟨7, wS .scan, by decide +kernel⟩,
   ⟨1, wS .scan, by decide +kernel⟩,
   ⟨1, wS .scan, by decide +kernel⟩⟩

theorem met_CrystalAndResetPin :
    (∃ (s : State), s.rst.phase ≠ .off ∧ s.rst.xtFitted = true ∧ s.rst.xt = 0) ∧
    (∃ (s : State), s.rst.xt = 1 ∧ (s.rst.rcAllowed = true ∨ s.dev = .boot)) ∧
    (∃ (s : State), s.rst.phase ≠ .off ∧ s.rst.xtFitted = true ∧ s.rst.xt = 0 ∧ (s.rst.rcAllowed = true ∨ s.dev = .boot)) ∧
    (∃ (s : State), s.rst.xt = 1 ∧ s.rst.rcAllowed = false ∧ s.dev = .park) ∧
    (∃ (s : State), s.rst.phase ≠ .off ∧ s.b Fld.RST_PIN_RSTPIN_STUCK = false ∧ s.rst.rstnLow = false) ∧
    (∃ (s : State), s.rst.rstnLow = true ∧ s.b Fld.RST_PIN_RSTPIN_STUCK = false) ∧
    (∃ (s : State), s.b Fld.RST_PIN_RSTPIN_STUCK = true) ∧
    (∃ (s : State), s.rst.xt = 1) ∧
    (∃ (s : State), s.rst.phase ≠ .off ∧ s.rst.xtFitted = true ∧ s.rst.xt = 0) :=
  ⟨⟨(let s := wS .scan; let s : State := { s with rst := { s.rst with xtFitted := true } }; let s : State := { s with rst := { s.rst with xt := 0 } }; s), by decide +kernel⟩,
   ⟨(let s := wS .scan; let s : State := { s with rst := { s.rst with xt := 1 } }; s), by decide +kernel⟩,
   ⟨(let s := wS .scan; let s : State := { s with rst := { s.rst with xtFitted := true } }; let s : State := { s with rst := { s.rst with xt := 0 } }; s), by decide +kernel⟩,
   ⟨(let s := wS .park; let s : State := { s with rst := { s.rst with xt := 1 } }; let s : State := { s with rst := { s.rst with rcAllowed := false } }; s), by decide +kernel⟩,
   ⟨(let s := wS .scan; let s : State := s.setB Fld.RST_PIN_RSTPIN_STUCK false; let s : State := { s with rst := { s.rst with rstnLow := false } }; s), by decide +kernel⟩,
   ⟨(let s := wS .scan; let s : State := { s with rst := { s.rst with rstnLow := true } }; let s : State := s.setB Fld.RST_PIN_RSTPIN_STUCK false; s), by decide +kernel⟩,
   ⟨(let s := wS .scan; let s : State := s.setB Fld.RST_PIN_RSTPIN_STUCK true; s), by decide +kernel⟩,
   ⟨(let s := wS .scan; let s : State := { s with rst := { s.rst with xt := 1 } }; s), by decide +kernel⟩,
   ⟨(let s := wS .scan; let s : State := { s with rst := { s.rst with xtFitted := true } }; let s : State := { s with rst := { s.rst with xt := 0 } }; s), by decide +kernel⟩⟩

theorem met_DeepReset :
    (∃ (s : State), s.rst.phase ≠ .off ∧ s.rst.raised = 2 ^ 12 ∧ s.rst.active = none) ∧
    (∃ (tgt : Nat) (rstn : Bool) (straps : List (BitVec 6)) (l : Nat) (s : State), s.rst.active = some l ∧ s.rst.phase = .held ∧ s.resetHeld rstn = false) ∧
    (∃ (s : State), s.rst.phase ≠ .off) ∧
    (∃ (k : Nat) (s : State), s.rst.phase ≠ .off ∧ k < 14 ∧ s.rst.raised = 2 ^ k ∧ s.rst.active = none ∧ (s.resetAct k).1 ≤ 1) ∧
    (∃ (k : Nat) (g : L2Target) (s : State), s.rst.phase ≠ .off ∧ k < 14 ∧ s.rst.raised = 2 ^ k ∧ s.rst.active = none ∧ s.resetAct k = (2, [g]) ∧ s.rst.l2.contains g = false) ∧
    (∃ (k : Nat) (s : State), s.rst.phase ≠ .off ∧ k < 14 ∧ s.rst.raised = 2 ^ k ∧ s.rst.active = none ∧ (s.resetAct k).1 = 3) ∧
    (∃ (tgt : Nat) (rstn : Bool) (straps : List (BitVec 6)) (g : L2Target) (s : State), s.rst.active = none ∧ resetTarget tgt = some g ∧ s.rst.dmaGrp = [] ∧ s.rst.l2.contains g = true) ∧
    (∃ (tgt : Nat) (d : Nat) (e : Nat) (rstn : Bool) (straps : List (BitVec 6)) (s : State), s.rst.active = none ∧ resetTarget tgt = some (.dma d) ∧ s.rst.dmaGrp = [[d, e]]) :=
  ⟨⟨(let s := wS .scan; let s : State := { s with rst := { s.rst with raised := 2 ^ 12 } }; let s : State := { s with rst := { s.rst with active := none } }; s), by decide +kernel⟩,
   ⟨1, true, [0x1], 1, (let s := wS .scan; let s : State := { s with rst := { s.rst with active := some 1 } }; let s : State := { s with rst := { s.rst with phase := .held } }; s), by decide +kernel⟩,
   ⟨wS .scan, by decide +kernel⟩,
   ⟨13, (let s := wS .scan; let s : State := { s with rst := { s.rst with raised := 2 ^ 13 } }; let s : State := { s with rst := { s.rst with active := none } }; s), by decide +kernel⟩,
   ⟨3, (L2Target.dsp 0), (let s := wS .scan; let s : State := { s with rst := { s.rst with raised := 2 ^ 3 } }; let s : State := { s with rst := { s.rst with active := none } }; let s : State := { s with rst := { s.rst with l2 := [] } }; let s : State := s.setF Fld.RST_FUSE_MAP 0x9A9680; s), by decide +kernel⟩,
   ⟨5, (let s := wS .scan; let s : State := { s with rst := { s.rst with raised := 2 ^ 5 } }; let s : State := { s with rst := { s.rst with active := none } }; let s : State := { s with rst := { s.rst with raised := 32, ampReset := some (3, none) } }; s), by decide +kernel⟩,
   ⟨0x41, true, [0x1], (L2Target.dsp 1), (let s := wS .scan; let s : State := { s with rst := { s.rst with active := none } }; let s : State := { s with rst := { s.rst with dmaGrp := [] } }; let s : State := { s with rst := { s.rst with l2 := [(L2Target.dsp 1)], active := none, dmaGrp := [] } }; s), by decide +kernel⟩,
   ⟨0x43, 1, 3, true, [0x1], (let s := wS .scan; let s : State := { s with rst := { s.rst with active := none } }; let s : State := { s with rst := { s.rst with dmaGrp := [[1, 3]] } }; let s : State := { s with rst := { s.rst with l2 := [.dma 1, .dma 3], active := none, dmaGrp := [[1, 3]] } }; s), by decide +kernel⟩⟩

theorem met_Plls :
    (∃ (s : State), s.pllaRuns = true ∧ s.dev ≠ .boot) ∧
    (∃ (s : State), s.pllaRuns = true ∧ s.dev = .boot ∧ s.rst.testDue = true ∧ s.b Fld.CLK_STATUS_PLLB_LOCK = true) ∧
    (∃ (s : State), s.pllaRuns = false) ∧
    (∃ (s : State), s.rst.phase = .done ∧ s.dev ≠ .park) ∧
    (∃ (s : State), s.b Fld.CLK_STATUS_PLLA_LOCK = true ∧ s.dev ≠ .scan) ∧
    (∃ (s : State), s.b Fld.CLK_STATUS_PLLA_LOCK = true ∧ s.dev = .scan) ∧
    (∃ (s : State), s.dev = .scan ∧ s.b Fld.CLK_STATUS_PLLA_LOCK = false) ∧
    (∃ (s : State), (s.dev ≠ .scan ∨ s.b Fld.CLK_STATUS_PLLA_LOCK = true)) ∧
    (∃ (s : State), s.b Fld.CLK_STATUS_PLLB_LOCK = true) ∧
    (∃ (s : State), s.rst.phase = .pll ∧ s.b Fld.CLK_STATUS_PLLA_LOCK = false) ∧
    (∃ (s : State), s.pllaRuns = true) ∧
    (∃ (s : State), (s.rst.phase = .pll ∨ (s.rst.phase = .done ∧ (s.dev ≠ .park ∨ s.parkWake = true)))) ∧
    (∃ (s : State), s.b Fld.CLK_STATUS_PLLA_LOCK = true) :=
  ⟨⟨wS .scan, by decide +kernel⟩,
   ⟨(let s := wS .boot; let s : State := { s with rst := { s.rst with testDue := true } }; let s : State := s.setB Fld.CLK_STATUS_PLLB_LOCK true; let s : State := { s with rst := { s.rst with phase := .done } }; s), by decide +kernel⟩,
   ⟨(let s := wS .safe; let s : State := s.setB Fld.RX_CALSTAT_BUSY false; s), by decide +kernel⟩,
   ⟨(let s := wS .scan; let s : State := { s with rst := { s.rst with phase := .done } }; s), by decide +kernel⟩,
   ⟨(let s := wS .idle; let s : State := s.setB Fld.CLK_STATUS_PLLA_LOCK true; s), by decide +kernel⟩,
   ⟨(let s := wS .scan; let s : State := s.setB Fld.CLK_STATUS_PLLA_LOCK true; s), by decide +kernel⟩,
   ⟨(let s := wS .scan; let s : State := s.setB Fld.CLK_STATUS_PLLA_LOCK false; s), by decide +kernel⟩,
   ⟨wS .idle, by decide +kernel⟩,
   ⟨(let s := wS .scan; let s : State := s.setB Fld.CLK_STATUS_PLLB_LOCK true; s), by decide +kernel⟩,
   ⟨(let s := wS .scan; let s : State := { s with rst := { s.rst with phase := .pll } }; let s : State := s.setB Fld.CLK_STATUS_PLLA_LOCK false; s), by decide +kernel⟩,
   ⟨wS .scan, by decide +kernel⟩,
   ⟨wS .scan, by decide +kernel⟩,
   ⟨(let s := wS .scan; let s : State := s.setB Fld.CLK_STATUS_PLLA_LOCK true; s), by decide +kernel⟩⟩

theorem met_OptionLoad :
    (∃ (read : Option (List Word)) (s : State), s.rst.phase = .option ∧ s.b Fld.CLK_STATUS_PLLB_LOCK = false ∧ pageBlank (read.getD s.nvm.optPage) = true) ∧
    (∃ (read : Option (List Word)) (s : State), s.rst.phase = .option ∧ s.rst.optFails < 2 ∧ pageBlank (read.getD s.nvm.optPage) = false ∧ (optBytesOk (read.getD s.nvm.optPage) && fuseOk (read.getD s.nvm.optPage)) = false) ∧
    (∃ (read : Option (List Word)) (s : State), s.rst.phase = .option ∧ s.b Fld.CLK_STATUS_PLLB_LOCK = false ∧ pageBlank (read.getD s.nvm.optPage) = false ∧ (optBytesOk (read.getD s.nvm.optPage) && fuseOk (read.getD s.nvm.optPage)) = true) ∧
    (∃ (read : Option (List Word)) (s : State), s.rst.phase = .option ∧ (pageBlank (read.getD s.nvm.optPage) || (optBytesOk (read.getD s.nvm.optPage) && fuseOk (read.getD s.nvm.optPage))) = true) :=
  ⟨⟨(some (List.replicate 18 0xFFFFFFFF)), (let s := wS .scan; let s : State := { s with rst := { s.rst with phase := .option } }; let s : State := s.setB Fld.CLK_STATUS_PLLB_LOCK false; s), by decide +kernel⟩,
   ⟨some [0x1], (let s := wS .scan; let s : State := { s with rst := { s.rst with phase := .option } }; s), by decide +kernel⟩,
   ⟨some [0x1, 0x1, 0x1, 0x1, 0x1, 0x1, 0x1, 0x1, 0x1, 0x1, 0x1, 0x1, 0x1, 0x1, 0x1, 0xc2c366e2, 0x1, 0x99f8b879], (let s := wS .scan; let s : State := { s with rst := { s.rst with phase := .option } }; let s : State := s.setB Fld.CLK_STATUS_PLLB_LOCK false; s), by decide +kernel⟩,
   ⟨none, (let s := wS .scan; let s : State := { s with rst := { s.rst with phase := .option } }; let s : State := { s with nvm := { s.nvm with optPage := List.replicate 18 0xFFFFFFFF } }; s), by decide +kernel⟩⟩

theorem met_PinTest :
    (∃ (steps : List (BitVec 22)) (offs : BitVec 2) (cross : BitVec 2) (s : State), s.b Fld.TOP_PINTEST_BUSY = true ∧ s.pins.parkTest = false ∧ pinFails steps offs cross = []) ∧
    (∃ (steps : List (BitVec 22)) (offs : BitVec 2) (cross : BitVec 2) (s : State) (u : Nat) (r : List Nat), s.b Fld.TOP_PINTEST_BUSY = true ∧ s.dev = .boot ∧ pinFails steps offs cross = u :: r ∧ u < 11 ∧ (∀ x ∈ r, x < 11)) ∧
    (∃ (steps : List (BitVec 22)) (offs : BitVec 2) (cross : BitVec 2) (s : State), s.b Fld.TOP_PINTEST_BUSY = true) :=
  ⟨⟨((List.range 11).map (fun k => BitVec.ofNat 22 (3 * 4 ^ k))), 0, 0, (let s := wS .scan; let s : State := s.setB Fld.TOP_PINTEST_BUSY true; let s : State := { s with pins := { s.pins with parkTest := false } }; s), by decide +kernel⟩,
   ⟨(((List.range 11).map (fun k => BitVec.ofNat 22 (3 * 4 ^ k))).set 4 0), 0, 0, (let s := wS .boot; let s : State := s.setB Fld.TOP_PINTEST_BUSY true; let s : State := s.setB Fld.TOP_PINTEST_BUSY true; s), 4, [], by decide +kernel⟩,
   ⟨[0x1], 0x1, 0x2, (let s := wS .scan; let s : State := s.setB Fld.TOP_PINTEST_BUSY true; s), by decide +kernel⟩⟩

theorem met_ImageSlots :
    (∃ (slot : Nat) (r : Nat) (id : Nat) (q : State) (s : State), s.rst.phase = .pass slot ∧ s.loadSections slot dirIds = (q, some (r, id))) ∧
    (∃ (slot : Nat) (s : State), s.rst.phase = .sig slot ∧ s.sigOk slot = false) ∧
    (∃ (slot : Nat) (k : Nat) (s : State), s.rst.phase = .pass slot) ∧
    (∃ (slot : Nat) (q : State) (s : State), s.rst.phase = .pass slot ∧ s.loadSections slot dirIds = (q, none) ∧ q.nvm.keyHash = none ∧ sha256 (q.slotBytes slot 0x200 (headLen (q.head slot) - 0x200)) = ((q.head slot).drop 0xE0).take 32 ∧ q.nvm.caskId = some (q.slotIdent slot)) ∧
    (∃ (slot : Nat) (s : State), s.rst.phase = .sig slot ∧ s.sigOk slot = true ∧ s.nvm.caskId = some (s.slotIdent slot)) ∧
    (∃ (slot : Nat) (k : Nat) (s : State), s.rst.phase = .clear slot ∧ s.rst.dests = [] ∧ (s.slotOrder.find? (fun k => s.rst.headOk.contains k && !s.rst.tried.contains k)) = some k ∧ missing (s.head k) = none) ∧
    (∃ (s : State), s.rst.phase = .heads [1, 2] ∧ s.rst.headOk = [] ∧ (s.headFault (s.head 1)).1 ≠ 0 ∧ (s.headFault (s.head 2)).1 ≠ 0) ∧
    (∃ (s : State), s.rst.phase = .heads [1, 2]) ∧
    (∃ (slot : Nat) (q : State) (s : State), s.rst.phase = .pass slot ∧ s.loadSections slot dirIds = (q, none) ∧ sha256 (q.slotBytes slot 0x200 (headLen (q.head slot) - 0x200)) ≠ ((q.head slot).drop 0xE0).take 32) ∧
    (∃ (slot : Nat) (q : State) (s : State), s.rst.phase = .pass slot ∧ s.loadSections slot dirIds = (q, none) ∧ q.nvm.keyHash.isSome = true ∧ sha256 (q.slotBytes slot 0x200 (headLen (q.head slot) - 0x200)) = ((q.head slot).drop 0xE0).take 32) ∧
    (∃ (slot : Nat) (s : State), s.rst.phase = .clear slot) ∧
    (∃ (slot : Nat) (a : Nat) (s : State), s.rst.phase = .clear slot ∧ s.rst.dests = [(a, 1)] ∧ dspMemAt a = true ∧ a % 4 = 0) :=
  ⟨⟨0, 7, 2, ((let s : State := (let s := wS .scan; let s : State := { s with rst := { s.rst with phase := .pass 0 } }; let s : State := { s with flash := flashOf (fun i => if i = 0x20 then 2 else if i = 0x25 then 2 else if i = 0x28 then 4 else 0) }; s); s).loadSections 0 dirIds).1, (let s := wS .scan; let s : State := { s with rst := { s.rst with phase := .pass 0 } }; let s : State := { s with flash := flashOf (fun i => if i = 0x20 then 2 else if i = 0x25 then 2 else if i = 0x28 then 4 else 0) }; s), by decide +kernel⟩,
   ⟨1, (let s := wS .scan; let s : State := { s with rst := { s.rst with phase := .sig 1 } }; s), by decide +kernel⟩,
   ⟨1, 1, (let s := wS .scan; let s : State := { s with rst := { s.rst with phase := .pass 1 } }; s), by decide +kernel⟩,
   ⟨0, ((let s : State := (let s := wS .scan; let s : State := { s with rst := { s.rst with phase := .pass 0 } }; let s : State := { s with flash := flashOf (fun i => if 0xE0 ≤ i ∧ i < 0x100 then (sha256 []).getD (i - 0xE0) 0 else 0), nvm := { s.nvm with keyHash := none, caskId := some (sha256 []) } }; s); s).loadSections 0 dirIds).1, (let s := wS .scan; let s : State := { s with rst := { s.rst with phase := .pass 0 } }; let s : State := { s with flash := flashOf (fun i => if 0xE0 ≤ i ∧ i < 0x100 then (sha256 []).getD (i - 0xE0) 0 else 0), nvm := { s.nvm with keyHash := none, caskId := some (sha256 []) } }; s), by decide +kernel⟩,
   ⟨1, wSigned, by decide +kernel⟩,
   ⟨2, 1, (let s := wS .scan; let s : State := { s with rst := { s.rst with phase := .clear 2 } }; let s : State := { s with rst := { s.rst with dests := [] } }; let s : State := { s with rst := { s.rst with headOk := [1,2], tried := [], optSlot := 0, dests := [] } }; let s : State := { s with flash := [] }; s), by decide +kernel⟩,
   ⟨(let s := wS .scan; let s : State := { s with rst := { s.rst with phase := .heads [1, 2] } }; let s : State := { s with rst := { s.rst with headOk := [] } }; s), by decide +kernel⟩,
   ⟨(let s := wS .scan; let s : State := { s with rst := { s.rst with phase := .heads [1, 2] } }; s), by decide +kernel⟩,
   ⟨0, ((let s : State := (let s := wS .scan; let s : State := { s with rst := { s.rst with phase := .pass 0 } }; let s : State := { s with flash := flashOf (fun _ => 0) }; s); s).loadSections 0 dirIds).1, (let s := wS .scan; let s : State := { s with rst := { s.rst with phase := .pass 0 } }; let s : State := { s with flash := flashOf (fun _ => 0) }; s), by decide +kernel⟩,
   ⟨0, ((let s : State := (let s := wS .scan; let s : State := { s with rst := { s.rst with phase := .pass 0 } }; let s : State := { s with flash := flashOf (fun i => if 0xE0 ≤ i ∧ i < 0x100 then (sha256 []).getD (i - 0xE0) 0 else 0), nvm := { s.nvm with keyHash := some [], caskId := none } }; s); s).loadSections 0 dirIds).1, (let s := wS .scan; let s : State := { s with rst := { s.rst with phase := .pass 0 } }; let s : State := { s with flash := flashOf (fun i => if 0xE0 ≤ i ∧ i < 0x100 then (sha256 []).getD (i - 0xE0) 0 else 0), nvm := { s.nvm with keyHash := some [], caskId := none } }; s), by decide +kernel⟩,
   ⟨1, (let s := wS .scan; let s : State := { s with rst := { s.rst with phase := .clear 1 } }; s), by decide +kernel⟩,
   ⟨1, 0x08040000, (let s := wS .scan; let s : State := { s with rst := { s.rst with phase := .clear 1 } }; let s : State := { s with rst := { s.rst with dests := [(0x08040000, 1)] } }; s), by decide +kernel⟩⟩

theorem met_CommitAndCalibration :
    (∃ (slot : Nat) (s : State), s.rst.phase = .commit slot ∧ (s.rst.testDue = true ∨ s.b Fld.TOP_PINTEST_BUSY = true)) ∧
    (∃ (slot : Nat) (s : State), s.rst.phase = .commit slot ∧ s.rst.testDue = false ∧ s.b Fld.TOP_PINTEST_BUSY = false ∧ s.b Fld.THERM_STAT_NVM_OK = true) ∧
    (∃ (hits : List (Nat × List Nat)) (s : State), s.b Fld.RX_CALSTAT_BUSY = true) ∧
    (∃ (s : State), s.dev = .idle ∧ s.b Fld.RX_CALSTAT_BUSY = false) ∧
    (∃ (s : State), (s.dev ≠ .idle ∨ s.b Fld.RX_CALSTAT_BUSY = true)) :=
  ⟨⟨1, (let s := wS .scan; let s : State := { s with rst := { s.rst with phase := .commit 1 } }; let s : State := s.setB Fld.TOP_PINTEST_BUSY true; s), by decide +kernel⟩,
   ⟨1, (let s := wS .scan; let s : State := { s with rst := { s.rst with phase := .commit 1 } }; let s : State := { s with rst := { s.rst with testDue := false } }; let s : State := s.setB Fld.TOP_PINTEST_BUSY false; let s : State := s.setB Fld.THERM_STAT_NVM_OK true; s), by decide +kernel⟩,
   ⟨[(1, [1])], (let s := wS .scan; let s : State := s.setB Fld.RX_CALSTAT_BUSY true; s), by decide +kernel⟩,
   ⟨(let s := wS .idle; let s : State := s.setB Fld.RX_CALSTAT_BUSY false; s), by decide +kernel⟩,
   ⟨wS .scan, by decide +kernel⟩⟩

theorem met_ScanEntryAndLeave :
    (∃ (x : Nat) (s : State), s.dev = .idle ∧ (s.b Fld.AMP_STATE_PEND_START = true ∨ s.rst.autostart = true) ∧ s.b Fld.RX_CALSTAT_BUSY = false ∧ s.b Fld.SCAN_STAT_LOCKED = true ∧ s.pins.parkTest = false ∧ s.scan.leave = 0) ∧
    (∃ (x : Nat) (s : State), (s.dev ≠ .idle ∨ s.b Fld.SCAN_STAT_LOCKED = false ∨ s.b Fld.RX_CALSTAT_BUSY = true)) ∧
    (∃ (x : Nat) (s : State), s.dev = .scan ∧ s.scan.leave = 1) ∧
    (∃ (x : Nat) (s : State), s.dev = .scan ∧ s.scan.leave = 2 ∧ s.pins.sealedLow = false) ∧
    (∃ (x : Nat) (s : State), s.dev = .scan ∧ s.scan.leave = 2 ∧ s.pins.sealedLow = true) ∧
    (∃ (x : Nat) (s : State), (s.dev ≠ .scan ∨ s.scan.leave = 0)) :=
  ⟨⟨1, (let s := wS .idle; let s : State := s.setB Fld.RX_CALSTAT_BUSY false; let s : State := s.setB Fld.SCAN_STAT_LOCKED true; let s : State := { s with pins := { s.pins with parkTest := false } }; let s : State := { s with scan := { s.scan with leave := 0 } }; let s : State := s.setB Fld.AMP_STATE_PEND_START true; s), by decide +kernel⟩,
   ⟨1, wS .scan, by decide +kernel⟩,
   ⟨1, (let s := wS .scan; let s : State := { s with scan := { s.scan with leave := 1 } }; s), by decide +kernel⟩,
   ⟨1, (let s := wS .scan; let s : State := { s with scan := { s.scan with leave := 2 } }; let s : State := { s with pins := { s.pins with sealedLow := false } }; s), by decide +kernel⟩,
   ⟨1, (let s := wS .scan; let s : State := { s with scan := { s.scan with leave := 2 } }; let s : State := { s with pins := { s.pins with sealedLow := true } }; s), by decide +kernel⟩,
   ⟨1, wS .idle, by decide +kernel⟩⟩

theorem met_ParkAndSeal :
    (∃ (x : Nat) (s : State), (s.dev = .scan ∨ s.dev = .idle) ∧ s.scan.leave = 3) ∧
    (∃ (steps : List (BitVec 22)) (offs : BitVec 2) (cross : BitVec 2) (s : State), s.b Fld.TOP_PINTEST_BUSY = true ∧ s.dev = .idle ∧ s.pins.parkTest = true ∧ pinFails steps offs cross = []) ∧
    (∃ (s : State), s.dev = .park ∧ s.parkWake = true ∧ s.f Fld.AMP_STATE_SAFE_CAUSE = 0) ∧
    (∃ (s : State), s.dev = .park ∧ s.parkWake = true ∧ s.f Fld.AMP_STATE_SAFE_CAUSE ≠ 0) ∧
    (∃ (s : State), (s.dev ≠ .park ∨ s.parkWake = false)) ∧
    (∃ (low : Bool) (s : State), (s.dev ≠ .service ∨ low = false)) ∧
    (∃ (s : State), s.dev = .service) :=
  ⟨⟨1, (let s := wS .scan; let s : State := { s with scan := { s.scan with leave := 3 } }; s), by decide +kernel⟩,
   ⟨((List.range 11).map (fun k => BitVec.ofNat 22 (3 * 4 ^ k))), 0, 0, (let s := wS .idle; let s : State := s.setB Fld.TOP_PINTEST_BUSY true; let s : State := { s with pins := { s.pins with parkTest := true } }; s), by decide +kernel⟩,
   ⟨(let s := wS .park; let s : State := { s with parkWake := true }; let s : State := s.setF Fld.AMP_STATE_SAFE_CAUSE 0; s), by decide +kernel⟩,
   ⟨(let s := wS .park; let s : State := { s with parkWake := true }; let s : State := s.setF Fld.AMP_STATE_SAFE_CAUSE 1; s), by decide +kernel⟩,
   ⟨wS .scan, by decide +kernel⟩,
   ⟨true, wS .scan, by decide +kernel⟩,
   ⟨wS .service, by decide +kernel⟩⟩

theorem met_MsTickAndTap :
    (∃ (s : State), s.guardActive = false ∧ s.b Fld.GUARD_STAT_RST_WAIT = false ∧ s.wdtCounts 0 = true ∧ 1 < s.f (Fld.DSP_WDTCNT_LEFT 0) ∧ s.wdtCounts 1 = false) ∧
    (∃ (c : Nat) (s : State), c < 2 ∧ s.wdtCounts c = true) ∧
    (∃ (c : Nat) (s : State), (2 ≤ c ∨ s.wdtCounts c = false)) ∧
    (∃ (i : Nat) (ins : BitVec 52) (dr : BitVec 52) (s : State), i < 4 ∧ i ≠ 1) :=
  ⟨⟨(let s := wS .scan; let s : State := s.setB Fld.GUARD_STAT_RST_WAIT false; let s : State := { s with rst := { s.rst with sections := 0 } }; let s : State := s.setB Fld.GUARD_STAT_RST_WAIT false; let s : State := s.setB (Fld.DSP_WDT_EN 0) true; let s : State := s.setB (Fld.DSP_WDT_EN 1) false; let s : State := s.setCore 0 { s.core 0 with mode := 1 }; let s : State := s.setF (Fld.DSP_WDTCNT_LEFT 0) (2 + 1); s), by decide +kernel⟩,
   ⟨1, (let s := wS .scan; let s : State := s.setB (Fld.DSP_WDT_EN 1) true; let s : State := s.setCore 1 { s.core 1 with mode := 1 }; s), by decide +kernel⟩,
   ⟨1, wS .scan, by decide +kernel⟩,
   ⟨3, 0x1be1a9aa0005, 0x35395bd4176e, wS .scan, by decide +kernel⟩⟩

theorem met_EmxLink :
    (∃ (x : Nat) (s : State), s.dev = .scan ∧ s.emit.frame = none ∧ s.b Fld.TOP_PINTEST_LOCK = false ∧ latchDelay 16 s.pulses (x + 300) ≤ x + 336) ∧
    (∃ (x : Nat) (s : State), (s.dev ≠ .scan ∨ s.emit.frame ≠ none ∨ s.b Fld.TOP_PINTEST_LOCK = true)) ∧
    (∃ (x : Nat) (fr : EmxFrame) (s : State), s.emit.frame = some fr) ∧
    (∃ (x : Nat) (echo : BitVec 76) (status : BitVec 8) (fr : EmxFrame) (s : State), s.emit.frame = some fr ∧ fr.retry = false ∧ (echo ≠ emxFrameBits fr.seq fr.pat ∨ status ≠ fr.crc)) ∧
    (∃ (x : Nat) (echo : BitVec 76) (status : BitVec 8) (fr : EmxFrame) (s : State), s.emit.frame = some fr ∧ fr.retry = true ∧ s.dev = .scan ∧ (echo ≠ emxFrameBits fr.seq fr.pat ∨ status ≠ fr.crc)) ∧
    (∃ (x : Nat) (s : State), x + 336 < latchDelay 16 s.pulses (x + 300)) :=
  ⟨⟨1, (let s := wS .scan; let s : State := { s with emit := { s.emit with frame := none } }; let s : State := s.setB Fld.TOP_PINTEST_LOCK false; s), by decide +kernel⟩,
   ⟨1, wS .idle, by decide +kernel⟩,
   ⟨1, ({ pat := 0x1be1a9aa0005, seq := 1, crc := 0x1, retry := true, latch := 1 } : EmxFrame), (let s := wS .scan; let s : State := { s with emit := { s.emit with frame := some ({ pat := 0x1be1a9aa0005, seq := 1, crc := 0x1, retry := true, latch := 1 } : EmxFrame) } }; s), by decide +kernel⟩,
   ⟨1, 0x1be1a9aa0005, 0x6e, ({ pat := 1, seq := 1, crc := 1, retry := false, latch := 1 } : EmxFrame), (let s := wS .scan; let s : State := { s with emit := { s.emit with frame := some ({ pat := 1, seq := 1, crc := 1, retry := false, latch := 1 } : EmxFrame) } }; s), by decide +kernel⟩,
   ⟨1, 0x1be1a9aa0005, 0x6e, ({ pat := 0x577f4b229ed7, seq := 1, crc := 0x1, retry := true, latch := 1 } : EmxFrame), (let s := wS .scan; let s : State := { s with emit := { s.emit with frame := some ({ pat := 0x577f4b229ed7, seq := 1, crc := 0x1, retry := true, latch := 1 } : EmxFrame) } }; s), by decide +kernel⟩,
   ⟨501, (let s := wS .scan; let s : State := s.setStr 0 { s.str 0 with next := some { kind := .planned 0, t := 501 + 300, dither := 0, pat := 1 } }; let s : State := s.setStr 1 { s.str 1 with next := some { kind := .planned 0, t := 501 + 320, dither := 0, pat := 1 } }; let s : State := s.setStr 2 { s.str 2 with next := some { kind := .planned 0, t := 501 + 340, dither := 0, pat := 1 } }; s), by decide +kernel⟩⟩

theorem met_Charging :
    (∃ (n : Nat) (v : Nat) (x : Nat) (s : State), n < 8 ∧ s.chargeChoice x = some n ∧ v < s.f (Fld.EMIT_DAC_CODE n) ∧ v ≤ s.f Fld.EMIT_CHG_OVP) ∧
    (∃ (n : Nat) (v : Nat) (x : Nat) (s : State), s.chargeChoice x ≠ some n ∧ s.chargeAllowed = false) ∧
    (∃ (n : Nat) (v : Nat) (isns : Nat) (dur : Nat) (s : State), n < 8 ∧ (s.f Fld.EMIT_CHG_OVP < v % 2 ^ (Fld.EMIT_VBANK_VBANK n).w ∨ s.f Fld.EMIT_CHG_ILIM < isns ∧ 100 < dur)) ∧
    (∃ (n : Nat) (v : Nat) (x : Nat) (s : State), n < 8 ∧ s.chargeChoice x = some n ∧ v < 2 ^ (Fld.EMIT_VBANK_VBANK n).w ∧ s.f (Fld.EMIT_DAC_CODE n) ≤ v) ∧
    (∃ (n : Nat) (v : Nat) (isns : Nat) (dur : Nat) (s : State), n < 8 ∧ v % 2 ^ (Fld.EMIT_VBANK_VBANK n).w ≤ s.f Fld.EMIT_CHG_OVP ∧ (isns ≤ s.f Fld.EMIT_CHG_ILIM ∨ dur ≤ 100)) :=
  ⟨⟨7, 1, 1, (let s := wS .scan; let s : State := s.setF Fld.EMIT_CTRL_FITTED 0xFF; let s : State := s.setF Fld.EMIT_FAULT_DEAD 0; let s : State := s.rset Reg.THERM_STAT 0; let s : State := s.rset Reg.PWR_FAULT 0; let s : State := s.setB Fld.CLK_STATUS_PLLA_LOCK true; let s : State := s.rset Reg.TOP_PINTEST 0; let s : State := { s with therm := { s.therm with sd := 0 } }; let s : State := s.setF Fld.THERM_CHG_OK (2^7); let s : State := s.setF (Fld.EMIT_DAC_CODE 7) (500+1); let s : State := s.setF (Fld.EMIT_VBANK_VBANK 7) 1; let s : State := s.setStr 7 { s.str 7 with probeDue := true }; s), by decide +kernel⟩,
   ⟨1, 1, 1, wS .scan, by decide +kernel⟩,
   ⟨1, 1, 1, 1, (let s := wS .scan; let s : State := s.setF Fld.EMIT_CHG_OVP 0; s), by decide +kernel⟩,
   ⟨7, 701, 1, (let s := wS .scan; let s : State := s.setF Fld.EMIT_CTRL_FITTED 0xFF; let s : State := s.setF Fld.EMIT_FAULT_DEAD 0; let s : State := s.rset Reg.THERM_STAT 0; let s : State := s.rset Reg.PWR_FAULT 0; let s : State := s.setB Fld.CLK_STATUS_PLLA_LOCK true; let s : State := s.rset Reg.TOP_PINTEST 0; let s : State := { s with therm := { s.therm with sd := 0 } }; let s : State := s.setF Fld.THERM_CHG_OK (2^7); let s : State := s.setF (Fld.EMIT_DAC_CODE 7) (500+1); let s : State := s.setF (Fld.EMIT_VBANK_VBANK 7) 1; let s : State := s.setStr 7 { s.str 7 with probeDue := true }; s), by decide +kernel⟩,
   ⟨7, 1, 1, 1, wS .scan, by decide +kernel⟩⟩

theorem met_ShotReady :
    (∃ (n : Nat) (v : Nat) (s : State), n < 8 ∧ (s.str n).next = none) ∧
    (∃ (n : Nat) (v : Nat) (y : NextShot) (s : State), n < 8 ∧ (s.str n).next = some y ∧ v % 2 ^ (Fld.EMIT_VBANK_VBANK n).w ≤ s.f Fld.EMIT_CHG_OVP ∧ readyBand (s.f (Fld.EMIT_DAC_CODE n)) (v % 2 ^ (Fld.EMIT_VBANK_VBANK n).w) = true) ∧
    (∃ (n : Nat) (v : Nat) (y : NextShot) (s : State), n < 8 ∧ (s.str n).next = some y ∧ v % 2 ^ (Fld.EMIT_VBANK_VBANK n).w ≤ s.f Fld.EMIT_CHG_OVP ∧ readyBand (s.f (Fld.EMIT_DAC_CODE n)) (v % 2 ^ (Fld.EMIT_VBANK_VBANK n).w) = false) :=
  ⟨⟨7, 1, (let s := wS .scan; let s : State := s.setStr 7 { s.str 7 with next := none }; s), by decide +kernel⟩,
   ⟨7, 502, ({ kind := ShotKind.probe, t := 1, dither := 1, pat := 0x1, vpre := some 1, ready := some true, admitted := some true } : NextShot), (let s := wS .scan; let s : State := s.setStr 7 { s.str 7 with next := some ({ kind := ShotKind.probe, t := 1, dither := 1, pat := 0x1, vpre := some 1, ready := some true, admitted := some true } : NextShot) }; let s : State := s.setF (Fld.EMIT_DAC_CODE 7) (500+1); s), by decide +kernel⟩,
   ⟨7, 1, ({ kind := ShotKind.probe, t := 1, dither := 1, pat := 0x1, vpre := some 1, ready := some true, admitted := some true } : NextShot), (let s := wS .scan; let s : State := s.setStr 7 { s.str 7 with next := some ({ kind := ShotKind.probe, t := 1, dither := 1, pat := 0x1, vpre := some 1, ready := some true, admitted := some true } : NextShot) }; s), by decide +kernel⟩⟩

theorem met_ShotMonitoring :
    (∃ (n : Nat) (m : MonShot) (s : State), (s.str n).mon = some m ∧ m.taken = false ∧ s.shotBusy m.due = false) ∧
    (∃ (n : Nat) (m : MonShot) (s : State), (s.str n).mon = some m ∧ m.taken = false ∧ s.shotBusy m.due = true ∧ (s.str n).iso = none) ∧
    (∃ (n : Nat) (i : Nat) (convs : List Conv) (m : MonShot) (s : State), (s.str n).mon = some m ∧ m.taken = true ∧ s.shotJob n = some i ∧ (adcSlots s.adc.jobs i).length ≤ convs.length ∧ s.b Fld.ADC0_STAT_REFRDY = true ∧ m.kind = .probe ∧ (s.adcCodes n (adcSlots s.adc.jobs i) convs).all (fun v => decide (v < s.f Fld.EMIT_MON_OPEN_THR * 16)) = false) ∧
    (∃ (n : Nat) (convs : List Conv) (m : MonShot) (s : State), (s.str n).mon = some m ∧ m.taken = false) ∧
    (∃ (n : Nat) (y : NextShot) (s : State), s.dev = .scan ∧ s.usable n = true ∧ (s.str n).iso = none ∧ (s.str n).next = some y ∧ (s.str n).probeMs + s.probeWait ≤ s.ms) ∧
    (∃ (n : Nat) (s : State), (s.dev ≠ .scan ∨ s.usable n = false)) ∧
    (∃ (s : State), s.dev = .idle) ∧
    (∃ (key : Word) (s : State), (key ≠ 0x4C4F5354 ∨ s.dev ≠ .idle)) ∧
    (∃ (n : Nat) (i : Nat) (convs : List Conv) (m : MonShot) (s : State), (s.str n).mon = some m ∧ m.taken = true ∧ s.shotJob n = some i ∧ (adcSlots s.adc.jobs i).length ≤ convs.length) ∧
    (∃ (n : Nat) (s : State), s.ms < (s.str n).probeMs + s.probeWait) ∧
    (∃ (n : Nat) (s : State), s.dev = .scan ∧ s.usable n = true ∧ (s.str n).iso = none ∧ (s.str n).probeMs + s.probeWait ≤ s.ms) :=
  ⟨⟨1, ({ kind := .probe, pat := 1, vpre := 1, due := 200, taken := false } : MonShot), (let s := wS .scan; let s : State := s.setStr 1 { s.str 1 with mon := some ({ kind := .probe, pat := 1, vpre := 1, due := 200, taken := false } : MonShot) }; s), by decide +kernel⟩,
   ⟨1, ({ kind := ShotKind.probe, pat := 0x1, vpre := 1, due := 1, taken := false } : MonShot), (let s := wS .scan; let s : State := s.setStr 1 { s.str 1 with mon := some ({ kind := ShotKind.probe, pat := 0x1, vpre := 1, due := 1, taken := false } : MonShot) }; let s : State := s.setStr 1 { s.str 1 with iso := none }; let s : State := { s with adc := { s.adc with jobs := [{ who := 0, src := 7, trig := slotAt ({ kind := ShotKind.probe, pat := 0x1, vpre := 1, due := 1, taken := false } : MonShot).due + 1, len := 2, live := true }] } }; let s : State := s.setStr 1 { s.str 1 with mon := some ({ kind := ShotKind.probe, pat := 0x1, vpre := 1, due := 1, taken := false } : MonShot), iso := none }; s), by decide +kernel⟩,
   ⟨1, 0, [⟨[1000000000,1000000000,1000000000,0,0],2500000⟩,⟨[1000000000,1000000000,1000000000,0,0],2500000⟩], ({ kind := .probe, pat := 1, vpre := 1, due := 200, taken := true } : MonShot), (let s := wS .scan; let s : State := s.setStr 1 { s.str 1 with mon := some ({ kind := .probe, pat := 1, vpre := 1, due := 200, taken := true } : MonShot) }; let s : State := s.setB Fld.ADC0_STAT_REFRDY true; let s : State := { s with adc := { s.adc with jobs := [{ who := 0, src := 1, trig := 50, len := 2, live := true }] } }; let s : State := s.setStr 1 { s.str 1 with mon := some ({ kind := .probe, pat := 1, vpre := 1, due := 200, taken := true } : MonShot) }; let s : State := s.setF Fld.EMIT_MON_OPEN_THR 1; let s : State := { s with adc := { s.adc with gains := [] } }; s), by decide +kernel⟩,
   ⟨1, [{ v := [-2999999000], ref := 1 }], ({ kind := .probe, pat := 1, vpre := 1, due := 200, taken := false } : MonShot), (let s := wS .scan; let s : State := s.setStr 1 { s.str 1 with mon := some ({ kind := .probe, pat := 1, vpre := 1, due := 200, taken := false } : MonShot) }; s), by decide +kernel⟩,
   ⟨1, ({ kind := ShotKind.probe, t := 1, dither := 1, pat := 0x1, vpre := some 1, ready := some true, admitted := some true } : NextShot), (let s := wS .scan; let s : State := s.setStr 1 { s.str 1 with iso := none }; let s : State := s.setStr 1 { s.str 1 with next := some ({ kind := ShotKind.probe, t := 1, dither := 1, pat := 0x1, vpre := some 1, ready := some true, admitted := some true } : NextShot) }; let s : State := s.setF Fld.EMIT_CTRL_FITTED 0xFF; let s : State := s.setF Fld.EMIT_FAULT_DEAD 0; let s : State := s.setF Fld.EMIT_CTRL_FITTED 0xFF; let s : State := s.setF Fld.EMIT_FAULT_DEAD 0; let s : State := { s with ms := 100000 }; let s : State := s.setStr 1 { s.str 1 with probeMs := 5 }; s), by decide +kernel⟩,
   ⟨1, wS .idle, by decide +kernel⟩,
   ⟨wS .idle, by decide +kernel⟩,
   ⟨0x1, wS .scan, by decide +kernel⟩,
   ⟨1, 0, [⟨[1000000000,1000000000,1000000000,0,0],2500000⟩,⟨[1000000000,1000000000,1000000000,0,0],2500000⟩], ({ kind := ShotKind.probe, pat := 0x1, vpre := 1, due := 1, taken := true } : MonShot), (let s := wS .scan; let s : State := s.setStr 1 { s.str 1 with mon := some ({ kind := ShotKind.probe, pat := 0x1, vpre := 1, due := 1, taken := true } : MonShot) }; let s : State := { s with adc := { s.adc with jobs := [{ who := 0, src := 1, trig := 50, len := 2, live := true }] } }; let s : State := s.setStr 1 { s.str 1 with mon := some ({ kind := ShotKind.probe, pat := 0x1, vpre := 1, due := 1, taken := true } : MonShot) }; s), by decide +kernel⟩,
   ⟨1, wS .scan, by decide +kernel⟩,
   ⟨1, (let s := wS .scan; let s : State := s.setStr 1 { s.str 1 with iso := none }; let s : State := s.setF Fld.EMIT_CTRL_FITTED 0xFF; let s : State := s.setF Fld.EMIT_FAULT_DEAD 0; let s : State := { s with ms := 100000 }; let s : State := s.setStr 1 { s.str 1 with probeMs := 5 }; s), by decide +kernel⟩⟩

theorem met_MirrorAndSweeps :
    (∃ (convs : List Conv) (x : Nat) (bad : List Nat) (fue : List Nat) (s : State), s.dev ≠ .scan ∧ s.adcSlotsOf 1 ≠ [] ∧ (s.adcSlotsOf 1).length ≤ convs.length ∧ s.b Fld.ADC0_STAT_REFRDY = true) ∧
    (∃ (x : Nat) (s : State), s.dev ≠ .scan ∧ s.scanMode = 0) ∧
    (∃ (x : Nat) (s : State), s.scan.active = false) ∧
    (∃ (x : Nat) (s : State), s.scan.active = true ∧ s.dev ≠ .scan) ∧
    (∃ (convs : List Conv) (x : Nat) (bad : List Nat) (fue : List Nat) (s : State), s.adcSlotsOf 1 ≠ [] ∧ (s.adcSlotsOf 1).length ≤ convs.length ∧ s.b Fld.ADC0_STAT_REFRDY = true) ∧
    (∃ (convs : List Conv) (x : Nat) (bad : List Nat) (fue : List Nat) (s : State), s.adcSlotsOf 1 ≠ [] ∧ (s.adcSlotsOf 1).length ≤ convs.length ∧ s.b Fld.ADC0_STAT_REFRDY = false) ∧
    (∃ (x : Nat) (s : State), s.scanMode = 0) ∧
    (∃ (x : Nat) (s : State), s.scan.active = true) :=
  ⟨⟨[{ v := [-2999999000], ref := 1 }, { v := [-2999999000], ref := 1 }, { v := [-2999999000], ref := 1 }, { v := [-2999999000], ref := 1 }], 1, [], [], (let s := wS .idle; let s : State := s.setB Fld.ADC0_STAT_REFRDY true; let s : State := { s with adc := { s.adc with jobs := [{ who := 1, src := 9, trig := 500, len := 4, live := true }] } }; s), by decide +kernel⟩,
   ⟨1, wS .idle, by decide +kernel⟩,
   ⟨1, (let s := wS .scan; let s : State := { s with scan := { s.scan with active := false } }; s), by decide +kernel⟩,
   ⟨1, (let s := wS .idle; let s : State := { s with scan := { s.scan with active := true } }; s), by decide +kernel⟩,
   ⟨[{ v := [-2999999000], ref := 1 }, { v := [-2999999000], ref := 1 }, { v := [-2999999000], ref := 1 }, { v := [-2999999000], ref := 1 }], 1, [], [], (let s := wS .scan; let s : State := s.setB Fld.ADC0_STAT_REFRDY true; let s : State := { s with adc := { s.adc with jobs := [{ who := 1, src := 9, trig := 500, len := 4, live := true }] } }; s), by decide +kernel⟩,
   ⟨[{ v := [-2999999000], ref := 1 }, { v := [-2999999000], ref := 1 }, { v := [-2999999000], ref := 1 }, { v := [-2999999000], ref := 1 }], 1, [], [], (let s := wS .scan; let s : State := s.setB Fld.ADC0_STAT_REFRDY false; let s : State := { s with adc := { s.adc with jobs := [{ who := 1, src := 9, trig := 500, len := 4, live := true }] } }; s), by decide +kernel⟩,
   ⟨1, wS .scan, by decide +kernel⟩,
   ⟨1, (let s := wS .scan; let s : State := { s with scan := { s.scan with active := true } }; s), by decide +kernel⟩⟩

theorem met_GrantsAndTriggers :
    (∃ (now : Nat) (bad : List Nat) (s : State), (s.dev ≠ .scan ∨ s.scan.next.isSome = true ∨ s.scan.armed = false)) ∧
    (∃ (now : Nat) (bad : List Nat) (s : State), s.dev = .scan ∧ s.scanMode = 1 ∧ s.scan.next = none ∧ s.scan.armed = true ∧ s.scan.cur = none) ∧
    (∃ (x : Nat) (bad : List Nat) (fue : List Nat) (s : State), s.triggers = false) ∧
    (∃ (x : Nat) (bad : List Nat) (fue : List Nat) (y : Nat × Bool) (rest : List (Nat × Bool)) (g : Grant) (s : State), s.triggers = true ∧ s.scanMode ≠ 1 ∧ s.scan.armed = true ∧ s.scan.todo = y :: rest ∧ s.reached y.1 y.2 x = true ∧ s.scan.next = some g ∧ g.az = y.1) ∧
    (∃ (x : Nat) (bad : List Nat) (fue : List Nat) (g : Grant) (s : State), s.triggers = true ∧ s.scanMode = 1 ∧ s.scan.cur = none ∧ s.scan.next = some g ∧ g.az = s.f Fld.SCAN_STARE_AZ) ∧
    (∃ (x : Nat) (bad : List Nat) (fue : List Nat) (s : State), s.dev = .scan ∧ s.scan.cur.isSome = true ∧ s.scan.armed = false ∧ s.holdoffOver x = true ∧ s.passed.length < 2) ∧
    (∃ (x : Nat) (bad : List Nat) (fue : List Nat) (s : State), (s.dev ≠ .scan ∨ s.scan.armed = true ∨ s.holdoffOver x = false)) ∧
    (∃ (x : Nat) (bad : List Nat) (fue : List Nat) (s : State), s.triggers = true ∧ s.scanMode ≠ 1 ∧ s.scan.cur.isSome = true ∧ s.scan.armed = false ∧ s.holdoffOver x = true ∧ 2 ≤ s.passed.length) ∧
    (∃ (now : Nat) (c : Nat) (bad : List Nat) (y : Nat × Bool) (rest : List (Nat × Bool)) (s : State), s.dev = .scan ∧ s.scanMode ≠ 1 ∧ s.scan.next = none ∧ s.scan.armed = true ∧ s.scan.todo = y :: rest ∧ s.crossing y.1 y.2 now = some c ∧ c ≤ now + 1000) ∧
    (∃ (x : Nat) (bad : List Nat) (fue : List Nat) (y : Nat × Bool) (rest : List (Nat × Bool)) (s : State), s.triggers = true ∧ s.scanMode ≠ 1 ∧ s.scan.armed = true ∧ s.scan.todo = y :: rest ∧ s.reached y.1 y.2 x = true) ∧
    (∃ (x : Nat) (bad : List Nat) (fue : List Nat) (s : State), s.triggers = true ∧ s.scanMode = 1 ∧ (s.scan.cur = none ∨ s.scan.tTrig + max 2500 (s.f Fld.SCAN_STARE_TCOL) * 4 ≤ x)) :=
  ⟨⟨1, [1], wS .idle, by decide +kernel⟩,
   ⟨1, [1], (let s := wS .scan; let s : State := { s with scan := { s.scan with next := none } }; let s : State := { s with scan := { s.scan with armed := true } }; let s : State := { s with scan := { s.scan with cur := none } }; let s : State := { s with scan := { s.scan with mode := 1 } }; s), by decide +kernel⟩,
   ⟨1, [1], [1], (let s := wS .scan; let s : State := { s with scan := { s.scan with clearing := true } }; s), by decide +kernel⟩,
   ⟨1, [1], [1], (65535, false), [(1, true)], ({ az := 65535, entries := [{ idx := 1, str := 1, patIdx := 1, pat := 0x1, cls := 1, demand := 1, maxs := 1, n := 1, rowFirst := 1, rowLast := 1, hmode := 1, aliased := true, offset := 1, bind := 1, refused := true }], planned := 1, policy := 1, rows := 0x2eda54e6a7cd81c1, lost := 0x1, tPred := 1, fired := 1, limited := true, due := 1, dropped := true } : Grant), (let s := wS .scan; let s : State := { s with scan := { s.scan with armed := true } }; let s : State := { s with scan := { s.scan with todo := (65535, false) :: [(1, true)] } }; let s : State := { s with scan := { s.scan with next := some ({ az := 65535, entries := [{ idx := 1, str := 1, patIdx := 1, pat := 0x1, cls := 1, demand := 1, maxs := 1, n := 1, rowFirst := 1, rowLast := 1, hmode := 1, aliased := true, offset := 1, bind := 1, refused := true }], planned := 1, policy := 1, rows := 0x2eda54e6a7cd81c1, lost := 0x1, tPred := 1, fired := 1, limited := true, due := 1, dropped := true } : Grant) } }; let s : State := { s with scan := { s.scan with clearing := false, leave := 0, next := some ({ az := 65535, entries := [{ idx := 1, str := 1, patIdx := 1, pat := 0x1, cls := 1, demand := 1, maxs := 1, n := 1, rowFirst := 1, rowLast := 1, hmode := 1, aliased := true, offset := 1, bind := 1, refused := true }], planned := 1, policy := 1, rows := 0x2eda54e6a7cd81c1, lost := 0x1, tPred := 1, fired := 1, limited := true, due := 1, dropped := true } : Grant), todo := (65535, false) :: [(1, true)] } }; s), by decide +kernel⟩,
   ⟨1, [1], [1], ({ az := 1, entries := [{ idx := 1, str := 1, patIdx := 1, pat := 0x1, cls := 1, demand := 1, maxs := 1, n := 1, rowFirst := 1, rowLast := 1, hmode := 1, aliased := true, offset := 1, bind := 1, refused := true }], planned := 1, policy := 1, rows := 0x577fa2a1e9f99ed7, lost := 0x1, tPred := 1, fired := 1, limited := true, due := 1, dropped := true } : Grant), (let s := wS .scan; let s : State := { s with scan := { s.scan with cur := none } }; let s : State := { s with scan := { s.scan with next := some ({ az := 1, entries := [{ idx := 1, str := 1, patIdx := 1, pat := 0x1, cls := 1, demand := 1, maxs := 1, n := 1, rowFirst := 1, rowLast := 1, hmode := 1, aliased := true, offset := 1, bind := 1, refused := true }], planned := 1, policy := 1, rows := 0x577fa2a1e9f99ed7, lost := 0x1, tPred := 1, fired := 1, limited := true, due := 1, dropped := true } : Grant) } }; let s : State := { s with scan := { s.scan with mode := 1, clearing := false, leave := 0 } }; let s : State := s.setF Fld.SCAN_STARE_AZ ({ az := 1, entries := [{ idx := 1, str := 1, patIdx := 1, pat := 0x1, cls := 1, demand := 1, maxs := 1, n := 1, rowFirst := 1, rowLast := 1, hmode := 1, aliased := true, offset := 1, bind := 1, refused := true }], planned := 1, policy := 1, rows := 0x577fa2a1e9f99ed7, lost := 0x1, tPred := 1, fired := 1, limited := true, due := 1, dropped := true } : Grant).az; s), by decide +kernel⟩,
   ⟨20000000, [1], [1], (let s := wS .scan; let s : State := { s with scan := { s.scan with armed := false } }; let s : State := { s with scan := { s.scan with cur := some { az := 0, entries := [], planned := 1, policy := 1, rows := 0xFFFFFFFFFFFFFFFF, lost := 1 } } }; s), by decide +kernel⟩,
   ⟨1, [1], [1], wS .idle, by decide +kernel⟩,
   ⟨10000001, [1], [1], (let s := wS .scan; let s : State := { s with scan := { s.scan with armed := false } }; let s : State := { s with scan := { s.scan with clearing := false, leave := 0, mode := 0 } }; let s : State := { s with scan := { s.scan with cur := some {}, tTrig := 0, tLast := 0, armed := false, todo := [(10, true), (20, true), (60000, true)], samples := [{ theta := 4096 * 1000, code := 1000, t := 5 }] } }; s), by decide +kernel⟩,
   ⟨1002, 1002, [1], (100, true), [(1, true)], (let s := wS .scan; let s : State := { s with scan := { s.scan with next := none } }; let s : State := { s with scan := { s.scan with armed := true } }; let s : State := { s with scan := { s.scan with todo := (100, true) :: [(1, true)] } }; let s : State := { s with scan := { s.scan with clearing := false, leave := 0, mode := 0 } }; let s : State := { s with scan := { s.scan with todo := (100, true) :: [(1, true)], samples := [{ theta := 4096 * 1000, code := 1000, t := 5 }] } }; s), by decide +kernel⟩,
   ⟨1, [1], [1], (65535, false), [(1, true)], (let s := wS .scan; let s : State := { s with scan := { s.scan with armed := true } }; let s : State := { s with scan := { s.scan with todo := (65535, false) :: [(1, true)] } }; let s : State := { s with scan := { s.scan with clearing := false, leave := 0, mode := 0 } }; let s : State := { s with scan := { s.scan with todo := (65535, false) :: [(1, true)] } }; s), by decide +kernel⟩,
   ⟨1, [1], [1], (let s := wS .scan; let s : State := { s with scan := { s.scan with clearing := false, leave := 0, mode := 1, cur := none } }; s), by decide +kernel⟩⟩

theorem met_NoLightWhenOff : ∃ (n : Nat) (x : Nat) (s : State), n < 8 ∧ s.emittersOff = true :=
  ⟨7, 1, wS .scan, by decide +kernel⟩

theorem met_FireAndLimiter :
    (∃ (n : Nat) (x : Nat) (s : State), (s.str n).next = none) ∧
    (∃ (n : Nat) (x : Nat) (st : Nat) (y : NextShot) (s : State), n < 8 ∧ (s.str n).next = some y ∧ y.kind = .iso st ∧ y.ready = some true ∧ y.admitted = some true ∧ s.patternReady n y.pat y.t = true ∧ s.fireInhibited n = false) ∧
    (∃ (n : Nat) (y : NextShot) (s : State), (s.str n).next = some y ∧ s.limiterAdmits (s.shotCells n y.pat (s.predict y.t)) (s.emission (s.wEye n y.pat) (max (s.f (Fld.EMIT_DAC_CODE n)) (y.vpre.getD (s.f (Fld.EMIT_VBANK_VBANK n))))) = true) ∧
    (∃ (n : Nat) (y : NextShot) (s : State), (s.str n).next = some y ∧ y.kind = .probe ∧ s.limiterAdmits (s.shotCells n y.pat (s.predict y.t)) (s.emission (s.wEye n y.pat) (max (s.f (Fld.EMIT_DAC_CODE n)) (y.vpre.getD (s.f (Fld.EMIT_VBANK_VBANK n))))) = false) ∧
    (∃ (n : Nat) (x : Nat) (i : Nat) (y : NextShot) (s : State), n < 8 ∧ (s.str n).next = some y ∧ y.kind = .planned i ∧ y.ready = some true ∧ y.admitted = some true ∧ s.patternReady n y.pat y.t = true ∧ s.fireInhibited n = false) ∧
    (∃ (n : Nat) (x : Nat) (y : NextShot) (s : State), n < 8 ∧ (s.str n).next = some y ∧ y.kind = .probe ∧ y.ready = some true ∧ y.admitted = some true ∧ s.patternReady n y.pat (s.clearOfLatch (max x y.t)) = true ∧ s.fireInhibited n = false) ∧
    (∃ (n : Nat) (x : Nat) (i : Nat) (y : NextShot) (s : State), n < 8 ∧ (s.str n).next = some y ∧ y.kind = .planned i ∧ y.ready ≠ some true) ∧
    (∃ (n : Nat) (i : Nat) (y : NextShot) (s : State), (s.str n).next = some y ∧ y.kind = .planned i ∧ s.limiterAdmits (s.shotCells n y.pat (s.predict y.t)) (s.emission (s.wEye n y.pat) (max (s.f (Fld.EMIT_DAC_CODE n)) (y.vpre.getD (s.f (Fld.EMIT_VBANK_VBANK n))))) = false) :=
  ⟨⟨1, 1, (let s := wS .scan; let s : State := s.setStr 1 { s.str 1 with next := none }; s), by decide +kernel⟩,
   ⟨7, 1, 1, ({ kind := ShotKind.iso 1, t := 1001, dither := 1, pat := 0x1, vpre := some 1, ready := some true, admitted := some true } : NextShot), (let s := wS .scan; let s : State := s.setStr 7 { s.str 7 with next := some ({ kind := ShotKind.iso 1, t := 1001, dither := 1, pat := 0x1, vpre := some 1, ready := some true, admitted := some true } : NextShot) }; let s : State := s.setF Fld.EMIT_CTRL_FITTED 0xFF; let s : State := s.setF Fld.EMIT_FAULT_DEAD 0; let s : State := s.setB Fld.SCAN_STAT_INHIBIT false; let s : State := s.rset Reg.THERM_STAT 0; let s : State := s.rset Reg.PWR_FAULT 0; let s : State := s.setB Fld.CLK_STATUS_PLLA_LOCK true; let s : State := s.rset Reg.TOP_PINTEST 0; let s : State := { s with therm := { s.therm with sd := 0 } }; let s : State := { s with emit := { s.emit with confPat := BitVec.ofNat 64 (({ kind := ShotKind.iso 1, t := 1001, dither := 1, pat := 0x1, vpre := some 1, ready := some true, admitted := some true } : NextShot).pat.toNat * 256 ^ 7), frame := none } }; let s : State := s.setStr 7 { s.str 7 with patAt := 5, next := some ({ kind := ShotKind.iso 1, t := 1001, dither := 1, pat := 0x1, vpre := some 1, ready := some true, admitted := some true } : NextShot) }; s), by decide +kernel⟩,
   ⟨1, ({ kind := ShotKind.probe, t := 1, dither := 1, pat := 0x1, vpre := some 1, ready := some true, admitted := some true } : NextShot), (let s := wS .scan; let s : State := s.setStr 1 { s.str 1 with next := some ({ kind := ShotKind.probe, t := 1, dither := 1, pat := 0x1, vpre := some 1, ready := some true, admitted := some true } : NextShot) }; let s : State := { s with kiln := { s.kiln with eyeErr := false } }; let s : State := s.setB Fld.KILN_EYEFLAG_INIT false; let s : State := s.setB Fld.SCAN_ANGLE_VALID true; let s : State := s.rset (Reg.EMIT_EROW (8 * 1) 0) 1; let s : State := s.rset (Reg.KILN_EYELIM 59) 0xFFFFFFFF; let s : State := s.rset (Reg.KILN_EYELIM 60) 0xFFFFFFFF; s), by decide +kernel⟩,
   ⟨1, ({ kind := ShotKind.probe, t := 1, dither := 1, pat := 0x1, vpre := some 1, ready := some true, admitted := some true } : NextShot), (let s := wS .scan; let s : State := s.setStr 1 { s.str 1 with next := some ({ kind := ShotKind.probe, t := 1, dither := 1, pat := 0x1, vpre := some 1, ready := some true, admitted := some true } : NextShot) }; s), by decide +kernel⟩,
   ⟨7, 1, 1, ({ kind := ShotKind.planned 1, t := 1001, dither := 1, pat := 0x1, vpre := some 1, ready := some true, admitted := some true } : NextShot), (let s := wS .scan; let s : State := s.setStr 7 { s.str 7 with next := some ({ kind := ShotKind.planned 1, t := 1001, dither := 1, pat := 0x1, vpre := some 1, ready := some true, admitted := some true } : NextShot) }; let s : State := s.setF Fld.EMIT_CTRL_FITTED 0xFF; let s : State := s.setF Fld.EMIT_FAULT_DEAD 0; let s : State := s.setB Fld.SCAN_STAT_INHIBIT false; let s : State := s.rset Reg.THERM_STAT 0; let s : State := s.rset Reg.PWR_FAULT 0; let s : State := s.setB Fld.CLK_STATUS_PLLA_LOCK true; let s : State := s.rset Reg.TOP_PINTEST 0; let s : State := { s with therm := { s.therm with sd := 0 } }; let s : State := { s with emit := { s.emit with confPat := BitVec.ofNat 64 (({ kind := ShotKind.planned 1, t := 1001, dither := 1, pat := 0x1, vpre := some 1, ready := some true, admitted := some true } : NextShot).pat.toNat * 256 ^ 7), frame := none } }; let s : State := s.setStr 7 { s.str 7 with patAt := 5, next := some ({ kind := ShotKind.planned 1, t := 1001, dither := 1, pat := 0x1, vpre := some 1, ready := some true, admitted := some true } : NextShot) }; s), by decide +kernel⟩,
   ⟨7, 1, ({ kind := ShotKind.probe, t := 1001, dither := 1, pat := 0x1, vpre := some 1, ready := some true, admitted := some true } : NextShot), (let s := wS .scan; let s : State := s.setStr 7 { s.str 7 with next := some ({ kind := ShotKind.probe, t := 1001, dither := 1, pat := 0x1, vpre := some 1, ready := some true, admitted := some true } : NextShot) }; let s : State := s.setF Fld.EMIT_CTRL_FITTED 0xFF; let s : State := s.setF Fld.EMIT_FAULT_DEAD 0; let s : State := s.setB Fld.SCAN_STAT_INHIBIT false; let s : State := s.rset Reg.THERM_STAT 0; let s : State := s.rset Reg.PWR_FAULT 0; let s : State := s.setB Fld.CLK_STATUS_PLLA_LOCK true; let s : State := s.rset Reg.TOP_PINTEST 0; let s : State := { s with therm := { s.therm with sd := 0 } }; let s : State := { s with emit := { s.emit with confPat := BitVec.ofNat 64 (({ kind := ShotKind.probe, t := 1001, dither := 1, pat := 0x1, vpre := some 1, ready := some true, admitted := some true } : NextShot).pat.toNat * 256 ^ 7), frame := none } }; let s : State := s.setStr 7 { s.str 7 with patAt := 5, next := some ({ kind := ShotKind.probe, t := 1001, dither := 1, pat := 0x1, vpre := some 1, ready := some true, admitted := some true } : NextShot) }; s), by decide +kernel⟩,
   ⟨7, 1, 1, ({ kind := ShotKind.planned 1, t := 1, dither := 1, pat := 0x1, vpre := some 1, ready := some false, admitted := some true } : NextShot), (let s := wS .scan; let s : State := s.setStr 7 { s.str 7 with next := some ({ kind := ShotKind.planned 1, t := 1, dither := 1, pat := 0x1, vpre := some 1, ready := some false, admitted := some true } : NextShot) }; s), by decide +kernel⟩,
   ⟨1, 1, ({ kind := ShotKind.planned 1, t := 1, dither := 1, pat := 0x1, vpre := some 1, ready := some true, admitted := some true } : NextShot), (let s := wS .scan; let s : State := s.setStr 1 { s.str 1 with next := some ({ kind := ShotKind.planned 1, t := 1, dither := 1, pat := 0x1, vpre := some 1, ready := some true, admitted := some true } : NextShot) }; s), by decide +kernel⟩⟩

theorem met_KilnTime :
    (∃ (s : State), s.kiln.subMs + s.subLen ≤ s.ms) ∧
    (∃ (s : State), s.kiln.initMs + 9 * s.subLen ≤ s.ms) ∧
    (∃ (s : State), s.ms < s.kiln.subMs + s.subLen) ∧
    (∃ (s : State), s.ms < s.kiln.initMs + 9 * s.subLen) :=
  ⟨⟨(let s := wS .scan; let s : State := { s with ms := 100000 }; s), by decide +kernel⟩,
   ⟨(let s := wS .scan; let s : State := { s with ms := 1000000 }; s), by decide +kernel⟩,
   ⟨wS .scan, by decide +kernel⟩,
   ⟨wS .scan, by decide +kernel⟩⟩

theorem met_ClusterPower :
    (∃ (k : Nat) (x : Nat) (s : State), k < 64 ∧ s.dev = .scan ∧ s.neededIn k x 200 = true ∧ s.clusterShut k = false ∧ L2Target.cluster k ∉ s.rst.l2 ∧ s.powered k = false) ∧
    (∃ (k : Nat) (x : Nat) (s : State), (s.dev ≠ .scan ∨ s.clusterShut k = true ∨ 64 ≤ k ∨ s.neededIn k x 200 = false)) ∧
    (∃ (k : Nat) (x : Nat) (s : State), k < 64 ∧ (s.cluster k).wins = [] ∧ ((∀ c, 16 * k ≤ c → c < 16 * k + 16 → (s.chan c).gate = none)) ∧ s.mash.bootRun = false ∧ s.mash.injEnd ≤ x ∧ s.neededIn k x 400 = false) ∧
    (∃ (k : Nat) (x : Nat) (w : Win) (s : State), w ∈ (s.cluster k).wins ∧ x < w.tf + 4096) ∧
    (∃ (x : Nat) (bad : List Nat) (fue : List Nat) (s : State), s.scan.clearing = false) ∧
    (∃ (x : Nat) (bad : List Nat) (fue : List Nat) (s : State), s.scan.clearing = true ∧ s.dev ≠ .scan) ∧
    (∃ (x : Nat) (bad : List Nat) (fue : List Nat) (s : State), s.scan.clearing = true ∧ s.dev = .scan ∧ s.scan.leave = 0 ∧ s.scanMode ≠ 1 ∧ (∀ y ∈ s.scan.todo.head?, s.reached y.1 y.2 x = false)) ∧
    (∃ (x : Nat) (bad : List Nat) (fue : List Nat) (s : State), s.scan.clearing = true) ∧
    (∃ (x : Nat) (bad : List Nat) (fue : List Nat) (y : Nat × Bool) (rest : List (Nat × Bool)) (s : State), s.scan.clearing = true ∧ s.dev = .scan ∧ s.scan.leave = 0 ∧ s.scanMode ≠ 1 ∧ s.scan.todo = y :: rest ∧ s.reached y.1 y.2 x = true) :=
  ⟨⟨5, 2900, (let s := wS .scan; let s : State := s.setCluster 5 { s.cluster 5 with cur := { (s.cluster 5).cur with woken := true, t0 := 3000 } }; s), by decide +kernel⟩,
   ⟨1, 1, wS .idle, by decide +kernel⟩,
   ⟨63, 1, (let s := wS .scan; let s : State := s.setCluster 63 { s.cluster 63 with wins := [] }; let s : State := { s with mash := { s.mash with bootRun := false } }; s), by decide +kernel⟩,
   ⟨1, 2, ({ tag := 1, tf := 1, wint := 1 } : Win), (let s := wS .scan; let s : State := s.setCluster 1 { s.cluster 1 with wins := [({ tag := 1, tf := 1, wint := 1 } : Win)] }; s), by decide +kernel⟩,
   ⟨1, [1], [1], (let s := wS .scan; let s : State := { s with scan := { s.scan with clearing := false } }; s), by decide +kernel⟩,
   ⟨1, [1], [1], (let s := wS .idle; let s : State := { s with scan := { s.scan with clearing := true } }; s), by decide +kernel⟩,
   ⟨1, [1], [1], (let s := wS .scan; let s : State := { s with scan := { s.scan with clearing := true } }; let s : State := { s with scan := { s.scan with leave := 0 } }; let s : State := { s with scan := { s.scan with clearing := true, leave := 0, mode := 0, todo := [(65535, true)], samples := [{ theta := 4096 * 1000, code := 1000, t := 5 }] } }; s), by decide +kernel⟩,
   ⟨1, [1], [1], (let s := wS .scan; let s : State := { s with scan := { s.scan with clearing := true } }; s), by decide +kernel⟩,
   ⟨1, [1], [1], (100, true), [(200, true), (60000, true)], (let s := wS .scan; let s : State := { s with scan := { s.scan with clearing := true } }; let s : State := { s with scan := { s.scan with leave := 0 } }; let s : State := { s with scan := { s.scan with todo := (100, true) :: [(200, true), (60000, true)] } }; let s : State := { s with scan := { s.scan with clearing := true, leave := 0, mode := 0, todo := (100, true) :: [(200, true), (60000, true)], samples := [{ theta := 4096 * 1000, code := 1000, t := 5 }] } }; s), by decide +kernel⟩⟩

theorem met_AmbientGate :
    (∃ (c : Nat) (s : State), s.dev = .scan ∧ (s.cluster (c / 16)).cur.woken = true ∧ s.powered (c / 16) = true ∧ s.spads c ≠ 0 ∧ s.gateRuns (c / 16) = true ∧ (s.chan c).gate = none) ∧
    (∃ (c : Nat) (s : State), (s.dev ≠ .scan ∨ s.powered (c / 16) = false)) ∧
    (∃ (c : Nat) (g : GateSt) (s : State), (s.chan c).gate = some g ∧ g.mid = none ∧ s.ef Fld.RX_COINC_ADAPT = 0) ∧
    (∃ (c : Nat) (k : Nat) (rate : Nat) (g : GateSt) (s : State), c < 1024 ∧ (s.chan c).gate = some g ∧ g.mid = some (k, rate)) ∧
    (∃ (c : Nat) (s : State), (s.chan c).gate = none) ∧
    (∃ (c : Nat) (g : GateSt) (s : State), (s.chan c).gate = some g ∧ g.mid = none) ∧
    (∃ (c : Nat) (g : GateSt) (s : State), c < 1024 ∧ (s.chan c).gate = some g) :=
  ⟨⟨1, (let s := wS .scan; let s : State := s.setChan 1 { s.chan 1 with gate := none }; let s : State := { s with scan := { s.scan with clu := 0xFFFFFFFFFFFFFFFF } }; let s : State := s.setCluster (1/16) { s.cluster (1/16) with cur := { (s.cluster (1/16)).cur with woken := true, t0 := s.scan.tTrig + 3000 + 1 } }; let s : State := { s with eff := SMap.set regReset s.eff (Reg.RX_SPADEN (1/2)) 0xFFFFFFFF }; s), by decide +kernel⟩,
   ⟨1, wS .idle, by decide +kernel⟩,
   ⟨1, ({ opened := 1, len := 1, mid := none, a := 1, evt := 1 } : GateSt), (let s := wS .scan; let s : State := s.setChan 1 { s.chan 1 with gate := some ({ opened := 1, len := 1, mid := none, a := 1, evt := 1 } : GateSt) }; s), by decide +kernel⟩,
   ⟨1023, 1, 1, ({ opened := 1, len := 1, mid := some (1, 1), a := 1, evt := 1 } : GateSt), (let s := wS .scan; let s : State := s.setChan 1023 { s.chan 1023 with gate := some ({ opened := 1, len := 1, mid := some (1, 1), a := 1, evt := 1 } : GateSt) }; s), by decide +kernel⟩,
   ⟨1, (let s := wS .scan; let s : State := s.setChan 1 { s.chan 1 with gate := none }; s), by decide +kernel⟩,
   ⟨1, ({ opened := 1, len := 1, mid := none, a := 1, evt := 1 } : GateSt), (let s := wS .scan; let s : State := s.setChan 1 { s.chan 1 with gate := some ({ opened := 1, len := 1, mid := none, a := 1, evt := 1 } : GateSt) }; s), by decide +kernel⟩,
   ⟨1023, ({ opened := 1, len := 1, mid := some (1, 1), a := 1, evt := 1 } : GateSt), (let s := wS .scan; let s : State := s.setChan 1023 { s.chan 1023 with gate := some ({ opened := 1, len := 1, mid := some (1, 1), a := 1, evt := 1 } : GateSt) }; s), by decide +kernel⟩⟩

theorem met_ReceiverEvents :
    (∃ (c i ps tap : Nat) (avs : List (Nat × Nat × Nat)) (s : State), (s.powered (c / 16) = false ∨ L2Target.cluster (c / 16) ∈ s.rst.l2 ∨ (∀ a ∈ (i, ps, tap) :: avs, s.spadOn c a.1 = false))) ∧
    (∃ (c : Nat) (i : Nat) (ps : Nat) (tap : Nat) (k : Nat) (rate : Nat) (g : GateSt) (s : State), s.powered (c / 16) = true ∧ L2Target.cluster (c / 16) ∉ s.rst.l2 ∧ s.spadOn c i = true ∧ (s.chan c).set = none ∧ (s.chan c).gate = some g ∧ g.mid = some (k, rate) ∧ s.tdcDead c (s.lsbOf c ps tap) = false ∧ s.chanValid c = true ∧ min k (s.spads c) ≤ 1) ∧
    (∃ (k : Nat) (x : Nat) (s : State), ((∀ w ∈ (s.cluster k).wins, x < w.tf + 4096))) ∧
    (∃ (c : Nat) (x : Nat) (s : State), 2 ^ min 16 (max 12 (s.f Fld.RX_CAL_BGN)) ≤ (s.chan c).tapList.foldl (· + ·) 0 ∧ s.b Fld.RX_CAL_BGCAL = true) ∧
    (∃ (c : Nat) (x : Nat) (s : State), s.b Fld.RX_CAL_BGCAL = false) ∧
    (∃ (c : Nat) (i : Nat) (ps : Nat) (tap : Nat) (k : Nat) (rate : Nat) (g : GateSt) (s : State), s.powered (c / 16) = true ∧ L2Target.cluster (c / 16) ∉ s.rst.l2 ∧ s.spadOn c i = true ∧ (s.chan c).set = none ∧ (s.chan c).gate = some g ∧ g.mid = some (k, rate) ∧ 2 ≤ min k (s.spads c)) ∧
    (∃ (c : Nat) (i : Nat) (ps : Nat) (tap : Nat) (k : Nat) (rate : Nat) (g : GateSt) (q : CoSet) (s : State), s.powered (c / 16) = true ∧ L2Target.cluster (c / 16) ∉ s.rst.l2 ∧ s.spadOn c i = true ∧ (s.chan c).set = some q ∧ (s.chan c).gate = some g ∧ g.mid = some (k, rate) ∧ ps < q.ps + 500 + 250 * min 14 (s.ef Fld.RX_COINC_GATE) ∧ i ∉ q.spads ∧ q.spads.length + 1 = min k (s.spads c) ∧ s.chanValid c = true ∧ s.tdcDead c (s.lsbOf c q.ps q.tap) = false) ∧
    (∃ (c : Nat) (i : Nat) (ps : Nat) (tap : Nat) (w : Win) (ws : List Win) (s : State), s.powered (c / 16) = true ∧ L2Target.cluster (c / 16) ∉ s.rst.l2 ∧ s.spadOn c i = true ∧ (s.chan c).set = none ∧ (s.chan c).gate = none ∧ (s.cluster (c / 16)).wins = w :: ws ∧ w.tf ≤ ps / 1000 ∧ s.tdcDead c (s.lsbOf c ps tap) = false ∧ s.chanValid c = true ∧ min (s.windowK c) (s.spads c) ≤ 1 ∧ s.mash.swapPend = false ∧ (s.chan c).fifo.length < 16) ∧
    (∃ (c : Nat) (x : Nat) (s : State), 2 ^ min 16 (max 12 (s.f Fld.RX_CAL_BGN)) ≤ (s.chan c).tapList.foldl (· + ·) 0 ∧ s.b Fld.RX_CAL_BGCAL = true ∧ s.mapOk ((s.chan c).tapList.foldl (· + ·) 0) (codeMap 64 ((s.chan c).tapList.foldl (· + ·) 0) 0 (s.chan c).tapList) (s.chan c).tapList = true) ∧
    (∃ (c : Nat) (x : Nat) (s : State), 2 ^ min 16 (max 12 (s.f Fld.RX_CAL_BGN)) ≤ (s.chan c).tapList.foldl (· + ·) 0 ∧ s.b Fld.RX_CAL_BGCAL = true ∧ s.mapOk ((s.chan c).tapList.foldl (· + ·) 0) (codeMap 64 ((s.chan c).tapList.foldl (· + ·) 0) 0 (s.chan c).tapList) (s.chan c).tapList = false) :=
  ⟨⟨1, 1, 1, 1, [(1, 1, 1)], wS .scan, by decide +kernel⟩,
   ⟨1, 1, 1, 1, 1, 1, ({ opened := 1, len := 1, mid := some (1, 1), a := 1, evt := 1 } : GateSt), (let s := wS .scan; let s : State := s.setChan 1 { s.chan 1 with set := none }; let s : State := s.setChan 1 { s.chan 1 with gate := some ({ opened := 1, len := 1, mid := some (1, 1), a := 1, evt := 1 } : GateSt) }; let s : State := { s with scan := { s.scan with clu := 0xFFFFFFFFFFFFFFFF } }; let s : State := { s with eff := SMap.set regReset s.eff (Reg.RX_SPADEN (1/2)) 0xFFFFFFFF }; let s : State := s.setB (Fld.RX_TDC_VALID 1) true; let s : State := s.setChan 1 { s.chan 1 with gate := some { ({ opened := 1, len := 1, mid := some (1, 1), a := 1, evt := 1 } : GateSt) with mid := some (1, 1) } }; s), by decide +kernel⟩,
   ⟨1, 1, wS .scan, by decide +kernel⟩,
   ⟨1, 1, (let s := wS .scan; let s : State := s.setB Fld.RX_CAL_BGCAL true; let s : State := s.setF Fld.RX_CAL_BGN 12; let s : State := s.setChan 1 { s.chan 1 with hits := (List.range 96).map (fun i => (i, 50 + 1)) }; let s : State := s.setB Fld.RX_CAL_BGCAL true; s), by decide +kernel⟩,
   ⟨1, 1, (let s := wS .scan; let s : State := s.setB Fld.RX_CAL_BGCAL false; s), by decide +kernel⟩,
   ⟨1, 1, 1, 1, 2, 7, ({ opened := 1, len := 1, mid := some (2, 7), a := 1, evt := 1 } : GateSt), (let s := wS .scan; let s : State := s.setChan 1 { s.chan 1 with set := none }; let s : State := s.setChan 1 { s.chan 1 with gate := some ({ opened := 1, len := 1, mid := some (2, 7), a := 1, evt := 1 } : GateSt) }; let s : State := { s with scan := { s.scan with clu := 0xFFFFFFFFFFFFFFFF } }; let s : State := { s with eff := SMap.set regReset s.eff (Reg.RX_SPADEN (1/2)) 0xFFFFFFFF }; let s : State := s.setB (Fld.RX_TDC_VALID 1) true; let s : State := { s with rst := { s.rst with l2 := [] } }; let s : State := s.setChan 1 { s.chan 1 with set := none, gate := some ({ opened := 1, len := 1, mid := some (2, 7), a := 1, evt := 1 } : GateSt) }; s), by decide +kernel⟩,
   ⟨1, 1, 1, 1, 2, 7, ({ opened := 1, len := 1, mid := some (2, 7), a := 1, evt := 1 } : GateSt), (⟨1, 1, [0]⟩ : CoSet), (let s := wS .scan; let s : State := s.setChan 1 { s.chan 1 with set := some (⟨1, 1, [0]⟩ : CoSet) }; let s : State := s.setChan 1 { s.chan 1 with gate := some ({ opened := 1, len := 1, mid := some (2, 7), a := 1, evt := 1 } : GateSt) }; let s : State := { s with scan := { s.scan with clu := 0xFFFFFFFFFFFFFFFF } }; let s : State := { s with eff := SMap.set regReset s.eff (Reg.RX_SPADEN (1/2)) 0xFFFFFFFF }; let s : State := s.setB (Fld.RX_TDC_VALID 1) true; let s : State := { s with rst := { s.rst with l2 := [] } }; let s : State := s.setChan 1 { s.chan 1 with set := some (⟨1, 1, [0]⟩ : CoSet), gate := some ({ opened := 1, len := 1, mid := some (2, 7), a := 1, evt := 1 } : GateSt) }; s), by decide +kernel⟩,
   ⟨1, 1, 1001, 1, ({ tag := 1, tf := 1, wint := 1 } : Win), [], (let s := wS .scan; let s : State := s.setChan 1 { s.chan 1 with set := none }; let s : State := s.setChan 1 { s.chan 1 with gate := none }; let s : State := s.setCluster (1 / 16) { s.cluster (1 / 16) with wins := ({ tag := 1, tf := 1, wint := 1 } : Win) :: [] }; let s : State := { s with mash := { s.mash with swapPend := false } }; let s : State := { s with scan := { s.scan with clu := 0xFFFFFFFFFFFFFFFF } }; let s : State := { s with eff := SMap.set regReset s.eff (Reg.RX_SPADEN (1/2)) 0xFFFFFFFF }; let s : State := s.setB (Fld.RX_TDC_VALID 1) true; let s : State := { s with rst := { s.rst with l2 := [] } }; let s : State := s.setChan 1 { s.chan 1 with set := none, gate := none, lastEvt := none, fifo := [] }; let s : State := { s with mash := { s.mash with swapPend := false } }; let s : State := s.setCluster (1/16) { s.cluster (1/16) with wins := ({ tag := 1, tf := 1, wint := 1 } : Win) :: [] }; let s : State := { s with eff := SMap.set regReset s.eff Reg.RX_COINC 0x11 }; s), by decide +kernel⟩,
   ⟨1, 1, (let s := wS .scan; let s : State := s.setB Fld.RX_CAL_BGCAL true; let s : State := s.setF Fld.RX_CAL_BGN 12; let s : State := s.setChan 1 { s.chan 1 with hits := (List.range 96).map (fun i => (i, if i < 80 then 60 else if true then 60 else 0)) }; let s : State := s.setB Fld.RX_CAL_BGCAL true; let s : State := s.setChan 1 { s.chan 1 with hits := (List.range 64).map (fun i => (i, 70)) }; s), by decide +kernel⟩,
   ⟨1, 1, (let s := wS .scan; let s : State := s.setB Fld.RX_CAL_BGCAL true; let s : State := s.setF Fld.RX_CAL_BGN 12; let s : State := s.setChan 1 { s.chan 1 with hits := (List.range 96).map (fun i => (i, if i < 80 then 60 else if false then 60 else 0)) }; let s : State := s.setB Fld.RX_CAL_BGCAL true; let s : State := s.setChan 1 { s.chan 1 with hits := (List.range 96).map (fun i => (i, 70)) }; s), by decide +kernel⟩⟩

theorem met_EventPath :
    (∃ (k : Nat) (x : Nat) (par : Bool) (errs : List Nat) (s : State), ((∀ c, 16 * k ≤ c → c < 16 * k + 16 → (s.chan c).fifo = []))) ∧
    (∃ (k : Nat) (x : Nat) (j : Nat) (errs : List Nat) (e : FifoE) (rest : List FifoE) (s : State), s.fill k ≤ s.thinDown ∧ s.nextServed k = some j ∧ (s.chan (16 * k + j)).fifo = e :: rest ∧ e.word.getLsbD 24 = true) ∧
    (∃ (k : Nat) (st : Nat) (s : State), (s.cluster k).cur.search = some st ∧ (s.cluster k).cur.tz = none) ∧
    (∃ (k : Nat) (s : State), (s.cluster k).cur.search = none) ∧
    (∃ (k : Nat) (x : Nat) (s : State), s.fill k ≤ s.thinDown ∧ 0 < (s.cluster k).level ∧ (s.cluster k).aboveT + 2048 ≤ x) ∧
    (∃ (k : Nat) (x : Nat) (s : State), s.fill k ≤ s.thinDown ∧ (s.cluster k).level = 0) ∧
    (∃ (ch : Nat) (s : State), ch < 1024) ∧
    (∃ (k : Nat) (x : Nat) (j : Nat) (par : Bool) (errs : List Nat) (e : FifoE) (rest : List FifoE) (s : State), s.fill k ≤ s.thinDown ∧ s.nextServed k = some j ∧ (s.chan (16 * k + j)).fifo = e :: rest) ∧
    (∃ (k : Nat) (x : Nat) (j : Nat) (errs : List Nat) (e : FifoE) (rest : List FifoE) (s : State), s.fill k ≤ s.thinDown ∧ s.nextServed k = some j ∧ (s.chan (16 * k + j)).fifo = e :: rest) ∧
    (∃ (k : Nat) (x : Nat) (j : Nat) (errs : List Nat) (e : FifoE) (rest : List FifoE) (s : State), s.fill k ≤ s.thinDown ∧ s.nextServed k = some j ∧ (s.chan (16 * k + j)).fifo = e :: rest ∧ (s.cluster k).level ≠ 0 ∧ (lfsr16 (s.cluster k).lfsr).toNat % 2 ^ (s.cluster k).level ≠ 0) ∧
    (∃ (k : Nat) (x : Nat) (j : Nat) (b : Nat) (tf : Nat) (tj : Nat) (errs : List Nat) (e : FifoE) (ws : List (Nat × Nat)) (rest : List FifoE) (s : State), s.fill k ≤ s.thinDown ∧ s.nextServed k = some j ∧ (s.chan (16 * k + j)).fifo = e :: rest ∧ (s.cluster k).level = 0 ∧ e.word.getLsbD 24 = false ∧ e.bank = s.b Fld.MASH_STAT_BANK ∧ (s.cluster k).cur.aliased = false ∧ e.wins = (tj, tf) :: ws ∧ (s.cluster k).cur.hmode = 0 ∧ b = tj / 128 ∧ errs.getD 0 0 = 0) :=
  ⟨⟨1, 1, true, [1], wS .scan, by decide +kernel⟩,
   ⟨1, 1, 1, [1], ({ word := 0x1000001, wins := [(1, 1)], bank := true } : FifoE), [], (let s := wS .scan; let s : State := s.setChan (16 * 1 + 1) { s.chan (16 * 1 + 1) with fifo := ({ word := 0x1000001, wins := [(1, 1)], bank := true } : FifoE) :: [] }; let s : State := s.setChan (16*1+1) { s.chan (16*1+1) with fifo := [{ ({ word := 0x1000001, wins := [(1, 1)], bank := true } : FifoE) with word := ({ word := 0x1000001, wins := [(1, 1)], bank := true } : FifoE).word ||| 0x01000000 }] }; let s : State := s.setCluster 1 { s.cluster 1 with served := (1 + 15) % 16 }; s), by decide +kernel⟩,
   ⟨1, 1, (let s := wS .scan; let s : State := s.setCluster 1 { s.cluster 1 with cur := { (s.cluster 1).cur with search := some 1, tz := none } }; s), by decide +kernel⟩,
   ⟨1, wS .scan, by decide +kernel⟩,
   ⟨1, 10000, (let s := wS .scan; let s : State := s.setCluster 1 { s.cluster 1 with level := 1 + 1 }; s), by decide +kernel⟩,
   ⟨1, 1, (let s := wS .scan; let s : State := s.setCluster 1 { s.cluster 1 with level := 0 }; s), by decide +kernel⟩,
   ⟨1023, wS .scan, by decide⟩,
   ⟨1, 1, 1, true, [1], ({ word := 0x1, wins := [(1, 1)], bank := true } : FifoE), [], (let s := wS .scan; let s : State := s.setChan (16 * 1 + 1) { s.chan (16 * 1 + 1) with fifo := ({ word := 0x1, wins := [(1, 1)], bank := true } : FifoE) :: [] }; let s : State := s.setChan (16*1+1) { s.chan (16*1+1) with fifo := [({ word := 0x1, wins := [(1, 1)], bank := true } : FifoE)] }; let s : State := s.setCluster 1 { s.cluster 1 with served := (1 + 15) % 16 }; s), by decide +kernel⟩,
   ⟨1, 1, 1, [1], ({ word := 0x1, wins := [(1, 1)], bank := true } : FifoE), [], (let s := wS .scan; let s : State := s.setChan (16 * 1 + 1) { s.chan (16 * 1 + 1) with fifo := ({ word := 0x1, wins := [(1, 1)], bank := true } : FifoE) :: [] }; let s : State := s.setChan (16*1+1) { s.chan (16*1+1) with fifo := [({ word := 0x1, wins := [(1, 1)], bank := true } : FifoE)] }; let s : State := s.setCluster 1 { s.cluster 1 with served := (1 + 15) % 16 }; s), by decide +kernel⟩,
   ⟨1, 1, 1, [1], ({ word := 0x1, wins := [(1, 1)], bank := true } : FifoE), [], (let s := wS .scan; let s : State := s.setChan (16 * 1 + 1) { s.chan (16 * 1 + 1) with fifo := ({ word := 0x1, wins := [(1, 1)], bank := true } : FifoE) :: [] }; let s : State := s.setChan (16*1+1) { s.chan (16*1+1) with fifo := [({ word := 0x1, wins := [(1, 1)], bank := true } : FifoE)] }; let s : State := s.setCluster 1 { s.cluster 1 with served := (1 + 15) % 16 }; let s : State := s.setCluster 1 { s.cluster 1 with level := 1, lfsr := 2 }; let s : State := s.setCluster 1 { s.cluster 1 with level := 1, lfsr := 0x4000 }; s), by decide +kernel⟩,
   ⟨1, 1, 1, 0, 1, 1, [], ({ word := 0x1, wins := [(1, 1)], bank := true } : FifoE), [], [], (let s := wS .scan; let s : State := s.setChan (16 * 1 + 1) { s.chan (16 * 1 + 1) with fifo := ({ word := 0x1, wins := [(1, 1)], bank := true } : FifoE) :: [] }; let s : State := s.setCluster 1 { s.cluster 1 with level := 0 }; let s : State := s.setChan (16*1+1) { s.chan (16*1+1) with fifo := [({ word := 0x1, wins := [(1, 1)], bank := true } : FifoE)] }; let s : State := s.setCluster 1 { s.cluster 1 with served := (1 + 15) % 16 }; let s : State := s.setCluster 1 { s.cluster 1 with level := 0, cur := { (s.cluster 1).cur with aliased := false, hmode := 0 } }; let s : State := s.setB Fld.MASH_STAT_BANK true; s), by decide +kernel⟩⟩

theorem met_ColumnEnd :
    (∃ (j : Nat) (errs : List (Nat × Nat × Bool)) (s : State), 16 ≤ j) ∧
    (∃ (j : Nat) (errs : List (Nat × Nat × Bool)) (s : State), j < 16 ∧ s.mash.sparging = true ∧ j = s.mash.closeJ) ∧
    (∃ (x : Nat) (s : State), s.mash.sparging = true ∧ s.mash.swapPend = false ∧ s.scan.closing = none ∧ 16 ≤ s.mash.closeJ) ∧
    (∃ (x : Nat) (s : State), ((s.mash.sparging = false ∧ s.mash.swapPend = true) ∨ s.mash.closeJ < 16)) ∧
    (∃ (c : Nat) (s : State), s.hists.find? (fun p => p.1 == c) = none) ∧
    (∃ (c : Nat) (p : Nat × Hist) (s : State), s.hists.find? (fun p => p.1 == c) = some p) ∧
    (∃ (j : Nat) (errs : List (Nat × Nat × Bool)) (s : State), (j ≠ s.mash.closeJ ∨ s.mash.sparging = false)) ∧
    (∃ (j : Nat) (errs : List (Nat × Nat × Bool)) (s : State), j < 16 ∧ s.mash.sparging = true ∧ j = s.mash.closeJ) ∧
    (∃ (x : Nat) (s : State), s.mash.sparging = true ∧ s.mash.swapPend = true ∧ 16 ≤ s.mash.closeJ) :=
  ⟨⟨17, [(1, 1, true)], wS .scan, by decide +kernel⟩,
   ⟨15, [(1, 1, true)], (let s := wS .scan; let s : State := { s with mash := { s.mash with sparging := true } }; let s : State := { s with mash := { s.mash with sparging := true, closeJ := 15 } }; s), by decide +kernel⟩,
   ⟨1, (let s := wS .scan; let s : State := { s with mash := { s.mash with sparging := true } }; let s : State := { s with mash := { s.mash with swapPend := false } }; let s : State := { s with scan := { s.scan with closing := none } }; let s : State := { s with mash := { s.mash with sparging := true, closeJ := 16, swapPend := false } }; s), by decide +kernel⟩,
   ⟨1, wS .scan, by decide +kernel⟩,
   ⟨1, wS .scan, by decide +kernel⟩,
   ⟨1, (1, { hdr := [0x1], bins := [], wsum := 0, wfine := 0, eff := [] }), (let s := wS .scan; let s : State := { s with hists := [(1, { hdr := [0x1], bins := [], wsum := 0, wfine := 0, eff := [] })] }; s), by decide +kernel⟩,
   ⟨1, [(1, 1, true)], wS .scan, by decide +kernel⟩,
   ⟨15, [(1, 1, true)], (let s := wS .scan; let s : State := { s with mash := { s.mash with sparging := true } }; let s : State := { s with mash := { s.mash with sparging := true, closeJ := 15 } }; s), by decide +kernel⟩,
   ⟨1, (let s := wS .scan; let s : State := { s with mash := { s.mash with sparging := true } }; let s : State := { s with mash := { s.mash with swapPend := true } }; let s : State := { s with mash := { s.mash with sparging := true, closeJ := 16, swapPend := true } }; s), by decide +kernel⟩⟩

theorem met_StreamRecords :
    (∃ (st : Nat) (s : State), (2 ≤ st ∨ (s.stream st).cols = [])) ∧
    (∃ (c : ColOut) (r : List ColOut) (e : Echo) (es : List Echo) (s : State), s.wort.dwl.cols = c :: r ∧ c.next < 1024 ∧ c.rows.getLsbD (c.next / 16) = true ∧ c.key = true ∧ s.doneOf c.mcol c.next = some (e :: es)) ∧
    (∃ (s : State), s.wort.dopen = none ∧ s.wort.lopen = none) ∧
    (∃ (rs : List OutRec) (x : Nat) (s : State), s.wort.dopen = some (rs, x) ∧ x + 20000 ≤ s.now ∧ s.wort.lopen = none) ∧
    (∃ (d : Dgram) (s : State), s.wort.dgrams = [d] ∧ d.stream = 0 ∧ s.wort.dopen = none ∧ s.wort.eth.cols = [] ∧ d.closed + 100000000 ≤ s.now ∧ d.seq = none) ∧
    (∃ (d : Dgram) (r : List Dgram) (s : State), s.wort.dgrams = d :: r ∧ d.stream = 0 ∧ s.now < d.closed + 100000000) ∧
    (∃ (rs : List OutRec) (x : Nat) (s : State), s.wort.dopen = some (rs, x) ∧ s.now < x + 20000 ∧ s.wort.lopen = none) ∧
    (∃ (rs : List OutRec) (x : Nat) (s : State), s.wort.dopen = none ∧ s.wort.lopen = some (rs, x) ∧ x + 20000 ≤ s.now) ∧
    (∃ (d : Dgram) (s : State), s.wort.dgrams.find? (fun e => e.stream = 0) = some d ∧ d.seq = none ∧ d.closed + 100000000 ≤ s.now) ∧
    (∃ (st : Nat) (c : ColOut) (r : List ColOut) (e : Echo) (es : List Echo) (s : State), st < 2 ∧ (s.stream st).cols = c :: r ∧ c.next < 1024 ∧ c.rows.getLsbD (c.next / 16) = true ∧ s.doneOf c.mcol c.next = some (e :: es)) :=
  ⟨⟨1, wS .scan, by decide +kernel⟩,
   ⟨({ frame := 1, comp := 1, rk := 1, key := true, mcol := 1, rows := 0xffffffffffffffff, hdr := [{ kind := RecKind.echo 1 true true [{ range := 1, int := 1, width := 1, rain := true, sat := true, thin := true, zoomed := true, field := true, aliased := true, invalid := true, area := 1 }], frame := 1, words := [0x1] }], next := 1, reserved := 1 } : ColOut), [{ frame := 1, comp := 1, rk := 1, key := true, mcol := 1, rows := 0x24d02e348a3d80d9, hdr := [{ kind := RecKind.echo 1 true true [{ range := 1, int := 1, width := 1, rain := true, sat := true, thin := true, zoomed := true, field := true, aliased := true, invalid := true, area := 1 }], frame := 1, words := [0x1] }], next := 1, reserved := 1 }], ({ range := 1, int := 1, width := 1, rain := true, sat := true, thin := true, zoomed := true, field := true, aliased := true, invalid := true, area := 1 } : Echo), [{ range := 1, int := 1, width := 1, rain := true, sat := true, thin := true, zoomed := true, field := true, aliased := true, invalid := true, area := 1 }], (let s := wS .scan; let s : State := { s with wort := { s.wort with dwl := { s.wort.dwl with cols := ({ frame := 1, comp := 1, rk := 1, key := true, mcol := 1, rows := 0xffffffffffffffff, hdr := [{ kind := RecKind.echo 1 true true [{ range := 1, int := 1, width := 1, rain := true, sat := true, thin := true, zoomed := true, field := true, aliased := true, invalid := true, area := 1 }], frame := 1, words := [0x1] }], next := 1, reserved := 1 } : ColOut) :: [{ frame := 1, comp := 1, rk := 1, key := true, mcol := 1, rows := 0x24d02e348a3d80d9, hdr := [{ kind := RecKind.echo 1 true true [{ range := 1, int := 1, width := 1, rain := true, sat := true, thin := true, zoomed := true, field := true, aliased := true, invalid := true, area := 1 }], frame := 1, words := [0x1] }], next := 1, reserved := 1 }] }, done := [(1024 * ({ frame := 1, comp := 1, rk := 1, key := true, mcol := 1, rows := 0xffffffffffffffff, hdr := [{ kind := RecKind.echo 1 true true [{ range := 1, int := 1, width := 1, rain := true, sat := true, thin := true, zoomed := true, field := true, aliased := true, invalid := true, area := 1 }], frame := 1, words := [0x1] }], next := 1, reserved := 1 } : ColOut).mcol + ({ frame := 1, comp := 1, rk := 1, key := true, mcol := 1, rows := 0xffffffffffffffff, hdr := [{ kind := RecKind.echo 1 true true [{ range := 1, int := 1, width := 1, rain := true, sat := true, thin := true, zoomed := true, field := true, aliased := true, invalid := true, area := 1 }], frame := 1, words := [0x1] }], next := 1, reserved := 1 } : ColOut).next, some (({ range := 1, int := 1, width := 1, rain := true, sat := true, thin := true, zoomed := true, field := true, aliased := true, invalid := true, area := 1 } : Echo)::[{ range := 1, int := 1, width := 1, rain := true, sat := true, thin := true, zoomed := true, field := true, aliased := true, invalid := true, area := 1 }]))] } }; s), by decide +kernel⟩,
   ⟨(let s := wS .scan; let s : State := { s with wort := { s.wort with dopen := none } }; let s : State := { s with wort := { s.wort with lopen := none } }; s), by decide +kernel⟩,
   ⟨[{ kind := RecKind.echo 1 true true [{ range := 1, int := 1, width := 1, rain := true, sat := true, thin := true, zoomed := true, field := true, aliased := true, invalid := true, area := 1 }], frame := 1, words := [0x1] }], 1, (let s := wS .scan; let s : State := { s with wort := { s.wort with dopen := some ([{ kind := RecKind.echo 1 true true [{ range := 1, int := 1, width := 1, rain := true, sat := true, thin := true, zoomed := true, field := true, aliased := true, invalid := true, area := 1 }], frame := 1, words := [0x1] }], 1) } }; let s : State := { s with wort := { s.wort with lopen := none } }; let s : State := { s with now := 100000 }; s), by decide +kernel⟩,
   ⟨({ stream := 0, recs := [], closed := 1, seq := none, handed := false, sent := false } : Dgram), (let s := wS .scan; let s : State := { s with wort := { s.wort with dgrams := [({ stream := 0, recs := [], closed := 1, seq := none, handed := false, sent := false } : Dgram)] } }; let s : State := { s with wort := { s.wort with dopen := none } }; let s : State := { s with now := ({ stream := 0, recs := [], closed := 1, seq := none, handed := false, sent := false } : Dgram).closed + 100000000 + 1, wort := { s.wort with dgrams := [({ stream := 0, recs := [], closed := 1, seq := none, handed := false, sent := false } : Dgram)], eth := { s.wort.eth with cols := [] } } }; s), by decide +kernel⟩,
   ⟨({ stream := 0, recs := [{ kind := RecKind.echo 1 true true [{ range := 1, int := 1, width := 1, rain := true, sat := true, thin := true, zoomed := true, field := true, aliased := true, invalid := true, area := 1 }], frame := 1, words := [0x1] }], closed := 1, seq := some 1, handed := true, sent := true } : Dgram), [{ stream := 1, recs := [{ kind := RecKind.echo 1 true true [{ range := 1, int := 1, width := 1, rain := true, sat := true, thin := true, zoomed := true, field := true, aliased := true, invalid := true, area := 1 }], frame := 1, words := [0x1] }], closed := 1, seq := some 1, handed := true, sent := true }], (let s := wS .scan; let s : State := { s with wort := { s.wort with dgrams := ({ stream := 0, recs := [{ kind := RecKind.echo 1 true true [{ range := 1, int := 1, width := 1, rain := true, sat := true, thin := true, zoomed := true, field := true, aliased := true, invalid := true, area := 1 }], frame := 1, words := [0x1] }], closed := 1, seq := some 1, handed := true, sent := true } : Dgram) :: [{ stream := 1, recs := [{ kind := RecKind.echo 1 true true [{ range := 1, int := 1, width := 1, rain := true, sat := true, thin := true, zoomed := true, field := true, aliased := true, invalid := true, area := 1 }], frame := 1, words := [0x1] }], closed := 1, seq := some 1, handed := true, sent := true }] } }; let s : State := { s with now := ({ stream := 0, recs := [{ kind := RecKind.echo 1 true true [{ range := 1, int := 1, width := 1, rain := true, sat := true, thin := true, zoomed := true, field := true, aliased := true, invalid := true, area := 1 }], frame := 1, words := [0x1] }], closed := 1, seq := some 1, handed := true, sent := true } : Dgram).closed + 10000000 + 1 }; s), by decide +kernel⟩,
   ⟨[{ kind := RecKind.echo 1 true true [{ range := 1, int := 1, width := 1, rain := true, sat := true, thin := true, zoomed := true, field := true, aliased := true, invalid := true, area := 1 }], frame := 1, words := [0x1] }], 1, (let s := wS .scan; let s : State := { s with wort := { s.wort with dopen := some ([{ kind := RecKind.echo 1 true true [{ range := 1, int := 1, width := 1, rain := true, sat := true, thin := true, zoomed := true, field := true, aliased := true, invalid := true, area := 1 }], frame := 1, words := [0x1] }], 1) } }; let s : State := { s with wort := { s.wort with lopen := none } }; s), by decide +kernel⟩,
   ⟨[{ kind := RecKind.echo 1 true true [{ range := 1, int := 1, width := 1, rain := true, sat := true, thin := true, zoomed := true, field := true, aliased := true, invalid := true, area := 1 }], frame := 1, words := [0x1] }], 1, (let s := wS .scan; let s : State := { s with wort := { s.wort with dopen := none } }; let s : State := { s with wort := { s.wort with lopen := some ([{ kind := RecKind.echo 1 true true [{ range := 1, int := 1, width := 1, rain := true, sat := true, thin := true, zoomed := true, field := true, aliased := true, invalid := true, area := 1 }], frame := 1, words := [0x1] }], 1) } }; let s : State := { s with now := 100000 }; s), by decide +kernel⟩,
   ⟨({ stream := 0, recs := [{ kind := RecKind.echo 1 true true [{ range := 1, int := 1, width := 1, rain := true, sat := true, thin := true, zoomed := true, field := true, aliased := true, invalid := true, area := 1 }], frame := 1, words := [0x1] }], closed := 1, seq := none, handed := true, sent := true } : Dgram), (let s := wS .scan; let s : State := { s with now := ({ stream := 0, recs := [{ kind := RecKind.echo 1 true true [{ range := 1, int := 1, width := 1, rain := true, sat := true, thin := true, zoomed := true, field := true, aliased := true, invalid := true, area := 1 }], frame := 1, words := [0x1] }], closed := 1, seq := none, handed := true, sent := true } : Dgram).closed + 100000000 + 1, wort := { s.wort with dgrams := [({ stream := 0, recs := [{ kind := RecKind.echo 1 true true [{ range := 1, int := 1, width := 1, rain := true, sat := true, thin := true, zoomed := true, field := true, aliased := true, invalid := true, area := 1 }], frame := 1, words := [0x1] }], closed := 1, seq := none, handed := true, sent := true } : Dgram), { ({ stream := 0, recs := [{ kind := RecKind.echo 1 true true [{ range := 1, int := 1, width := 1, rain := true, sat := true, thin := true, zoomed := true, field := true, aliased := true, invalid := true, area := 1 }], frame := 1, words := [0x1] }], closed := 1, seq := none, handed := true, sent := true } : Dgram) with closed := 5 }, { ({ stream := 0, recs := [{ kind := RecKind.echo 1 true true [{ range := 1, int := 1, width := 1, rain := true, sat := true, thin := true, zoomed := true, field := true, aliased := true, invalid := true, area := 1 }], frame := 1, words := [0x1] }], closed := 1, seq := none, handed := true, sent := true } : Dgram) with stream := 1 }] } }; let s : State := (List.range 2).foldl (fun s p => s.setEth p { s.eth p with cur := none }) s; s), by decide +kernel⟩,
   ⟨1, ({ frame := 1, comp := 1, rk := 1, key := true, mcol := 1, rows := 0xffffffffffffffff, hdr := [{ kind := RecKind.echo 1 true true [{ range := 1, int := 1, width := 1, rain := true, sat := true, thin := true, zoomed := true, field := true, aliased := true, invalid := true, area := 1 }], frame := 1, words := [0x1] }], next := 1, reserved := 1 } : ColOut), [{ frame := 1, comp := 1, rk := 1, key := true, mcol := 1, rows := 0x71df4fd48af2acfd, hdr := [{ kind := RecKind.echo 1 true true [{ range := 1, int := 1, width := 1, rain := true, sat := true, thin := true, zoomed := true, field := true, aliased := true, invalid := true, area := 1 }], frame := 1, words := [0x1] }], next := 1, reserved := 1 }], ({ range := 1, int := 1, width := 1, rain := true, sat := true, thin := true, zoomed := true, field := true, aliased := true, invalid := true, area := 1 } : Echo), [{ range := 1, int := 1, width := 1, rain := true, sat := true, thin := true, zoomed := true, field := true, aliased := true, invalid := true, area := 1 }], (let s := wS .scan; let s : State := { s with wort := { s.wort with dwl := { s.wort.dwl with cols := ({ frame := 1, comp := 1, rk := 1, key := true, mcol := 1, rows := 0xffffffffffffffff, hdr := [{ kind := RecKind.echo 1 true true [{ range := 1, int := 1, width := 1, rain := true, sat := true, thin := true, zoomed := true, field := true, aliased := true, invalid := true, area := 1 }], frame := 1, words := [0x1] }], next := 1, reserved := 1 } : ColOut) :: [{ frame := 1, comp := 1, rk := 1, key := true, mcol := 1, rows := 0x71df4fd48af2acfd, hdr := [{ kind := RecKind.echo 1 true true [{ range := 1, int := 1, width := 1, rain := true, sat := true, thin := true, zoomed := true, field := true, aliased := true, invalid := true, area := 1 }], frame := 1, words := [0x1] }], next := 1, reserved := 1 }] }, eth := { s.wort.eth with cols := ({ frame := 1, comp := 1, rk := 1, key := true, mcol := 1, rows := 0xffffffffffffffff, hdr := [{ kind := RecKind.echo 1 true true [{ range := 1, int := 1, width := 1, rain := true, sat := true, thin := true, zoomed := true, field := true, aliased := true, invalid := true, area := 1 }], frame := 1, words := [0x1] }], next := 1, reserved := 1 } : ColOut) :: [{ frame := 1, comp := 1, rk := 1, key := true, mcol := 1, rows := 0x71df4fd48af2acfd, hdr := [{ kind := RecKind.echo 1 true true [{ range := 1, int := 1, width := 1, rain := true, sat := true, thin := true, zoomed := true, field := true, aliased := true, invalid := true, area := 1 }], frame := 1, words := [0x1] }], next := 1, reserved := 1 }] }, done := [(1024 * ({ frame := 1, comp := 1, rk := 1, key := true, mcol := 1, rows := 0xffffffffffffffff, hdr := [{ kind := RecKind.echo 1 true true [{ range := 1, int := 1, width := 1, rain := true, sat := true, thin := true, zoomed := true, field := true, aliased := true, invalid := true, area := 1 }], frame := 1, words := [0x1] }], next := 1, reserved := 1 } : ColOut).mcol + ({ frame := 1, comp := 1, rk := 1, key := true, mcol := 1, rows := 0xffffffffffffffff, hdr := [{ kind := RecKind.echo 1 true true [{ range := 1, int := 1, width := 1, rain := true, sat := true, thin := true, zoomed := true, field := true, aliased := true, invalid := true, area := 1 }], frame := 1, words := [0x1] }], next := 1, reserved := 1 } : ColOut).next, some (({ range := 1, int := 1, width := 1, rain := true, sat := true, thin := true, zoomed := true, field := true, aliased := true, invalid := true, area := 1 } : Echo)::[{ range := 1, int := 1, width := 1, rain := true, sat := true, thin := true, zoomed := true, field := true, aliased := true, invalid := true, area := 1 }]))] } }; s), by decide +kernel⟩⟩

theorem met_DwlFrames :
    (∃ (r : OutRec) (recs : List OutRec) (s : State), s.dwl.prog = [] ∧ s.dwlUp = true ∧ s.b Fld.DWL_STAT_ACTIVE = true ∧ s.creditFor s.dwl.seqPoint = true ∧ s.laneFree s.pointLane = true ∧ s.sideFirst s.pointLane = false ∧ takeRecs 256 s.wort.dwl.out = r :: recs) ∧
    (∃ (w : List Word) (ws : List (List Word)) (s : State), s.dwl.prog = [] ∧ s.dwlUp = true ∧ s.b Fld.DWL_STAT_ACTIVE = true ∧ s.wort.lrsDwl = w :: ws ∧ w.length ≤ 256 ∧ s.laneFree 0 = true) ∧
    (∃ (err : Option (Nat × Bool)) (s : State), s.dwl.prog = [] ∧ s.dwlUp = false) ∧
    (∃ (err : Option (Nat × Bool)) (s : State), s.dwl.prog = [] ∧ s.dev = .park) ∧
    (∃ (err : Option (Nat × Bool)) (s : State), s.dwl.prog = [] ∧ s.sideFirst s.pointLane = true) ∧
    (∃ (err : Option (Nat × Bool)) (r : OutRec) (recs : List OutRec) (s : State), s.dwl.prog = [] ∧ s.dwlUp = true ∧ s.b Fld.DWL_STAT_ACTIVE = true ∧ s.creditFor s.dwl.seqPoint = true ∧ s.laneFree s.pointLane = true ∧ s.sideFirst s.pointLane = false ∧ s.wort.dwl.out = r :: recs ∧ r.words.length ≤ 256 ∧ (∀ i u, err = some (i, u) → 0 < i)) ∧
    (∃ (err : Option (Nat × Bool)) (r : OutRec) (recs : List OutRec) (s : State), (∀ f ∈ s.dwl.prog, s.now < f.endT) ∧ s.dwlUp = true ∧ s.b Fld.DWL_STAT_ACTIVE = true ∧ s.creditFor s.dwl.seqPoint = true ∧ s.laneFree s.pointLane = true ∧ s.sideFirst s.pointLane = false ∧ s.wort.dwl.out = r :: recs ∧ r.words.length ≤ 256 ∧ (∀ i u, err = some (i, u) → 0 < i)) ∧
    (∃ (w : List Word) (ws : List (List Word)) (s : State), (∀ f ∈ s.dwl.prog, s.now < f.endT) ∧ s.dwlUp = true ∧ s.b Fld.DWL_STAT_ACTIVE = true ∧ s.wort.lrsDwl = w :: ws ∧ w.length ≤ 256 ∧ s.laneFree 0 = true) :=
  ⟨⟨({ kind := RecKind.echo 1 true true [{ range := 1, int := 1, width := 1, rain := true, sat := true, thin := true, zoomed := true, field := true, aliased := true, invalid := true, area := 1 }], frame := 1, words := [0x1] } : OutRec), [{ kind := RecKind.echo 1 true true [{ range := 1, int := 1, width := 1, rain := true, sat := true, thin := true, zoomed := true, field := true, aliased := true, invalid := true, area := 1 }], frame := 1, words := [0x1] }], (let s := wS .scan; let s : State := { s with dwl := { s.dwl with prog := [] } }; let s : State := s.setB Fld.DWL_STAT_ACTIVE true; let s : State := s.setB Fld.DWL_STAT_UP true; let s : State := s.setB Fld.DWL_STAT_ACTIVE true; let s : State := s.setF Fld.DWL_CREDIT_CCUM ((s.dwl.seqPoint + 1 + 1) % 65536); let s : State := s.setF Fld.DWL_CTRL_MODE (1 + 1); let s : State := { s with dwl := { s.dwl with prog := [] }, wort := { s.wort with dwl := { s.wort.dwl with out := ({ kind := RecKind.echo 1 true true [{ range := 1, int := 1, width := 1, rain := true, sat := true, thin := true, zoomed := true, field := true, aliased := true, invalid := true, area := 1 }], frame := 1, words := [0x1] } : OutRec) :: [{ kind := RecKind.echo 1 true true [{ range := 1, int := 1, width := 1, rain := true, sat := true, thin := true, zoomed := true, field := true, aliased := true, invalid := true, area := 1 }], frame := 1, words := [0x1] }] } } }; s), by decide +kernel⟩,
   ⟨[0x1], [[0x1]], (let s := wS .scan; let s : State := { s with dwl := { s.dwl with prog := [] } }; let s : State := s.setB Fld.DWL_STAT_ACTIVE true; let s : State := { s with wort := { s.wort with lrsDwl := [0x1] :: [[0x1]] } }; let s : State := s.setB Fld.DWL_STAT_UP true; s), by decide +kernel⟩,
   ⟨some (1, true), (let s := wS .scan; let s : State := { s with dwl := { s.dwl with prog := [] } }; s), by decide +kernel⟩,
   ⟨some (1, true), (let s := wS .park; let s : State := { s with dwl := { s.dwl with prog := [] } }; s), by decide +kernel⟩,
   ⟨some (1, true), (let s := wS .scan; let s : State := { s with dwl := { s.dwl with prog := [] } }; let s : State := { s with wort := { s.wort with lrsDwl := [[1]] } }; s), by decide +kernel⟩,
   ⟨none, wRec, [], (let s := wS .scan; let s : State := ((s.setF Fld.DWL_CTRL_MODE 1).setB Fld.DWL_STAT_UP true).setB Fld.DWL_STAT_ACTIVE true; let s : State := s.setF Fld.DWL_CREDIT_CCUM 5; { s with wort := { s.wort with dwl := { s.wort.dwl with out := [wRec] } } }), by decide +kernel, by decide +kernel, by decide +kernel, by decide +kernel, by decide +kernel, by decide +kernel, by decide +kernel, by decide +kernel, fun _ _ h => nomatch h⟩,
   ⟨none, wRec, [], (let s := wS .scan; let s : State := ((s.setF Fld.DWL_CTRL_MODE 2).setB Fld.DWL_STAT_UP true).setB Fld.DWL_STAT_ACTIVE true; let s : State := s.setF Fld.DWL_CREDIT_CCUM 5; { s with dwl := { s.dwl with prog := [{ lane := 1, chan := 0, words := [1], recs := [], endT := 5 }] }, wort := { s.wort with dwl := { s.wort.dwl with out := [wRec] } } }), by decide +kernel, by decide +kernel, by decide +kernel, by decide +kernel, by decide +kernel, by decide +kernel, by decide +kernel, by decide +kernel, fun _ _ h => nomatch h⟩,
   ⟨[0x1], [[0x1]], (let s := wS .scan; let s : State := s.setB Fld.DWL_STAT_ACTIVE true; let s : State := { s with wort := { s.wort with lrsDwl := [0x1] :: [[0x1]] } }; let s : State := { s with dwl := { s.dwl with prog := [{ lane := 1, chan := 0, words := [1], recs := [], endT := s.now + 5 }] }, wort := { s.wort with lrsDwl := [0x1] :: [[0x1]] } }; let s : State := s.setB Fld.DWL_STAT_UP true; let s : State := s.setB Fld.DWL_STAT_ACTIVE true; s), by decide +kernel⟩⟩

theorem met_DwlCredit :
    (∃ (lane : Nat) (ccum : BitVec 16) (s : State), s.dwl.prog = [] ∧ s.dwlLanes.contains lane = true ∧ s.dwlAligned lane = true ∧ s.dwlUp = true) ∧
    (∃ (lane : Nat) (ccum : BitVec 16) (s : State), s.dwl.prog = [] ∧ s.dwlLanes.contains lane = true ∧ s.dwlAligned lane = true ∧ s.dwlUp = true) ∧
    (∃ (lane : Nat) (ccum : BitVec 16) (s : State), s.dwl.prog = [] ∧ s.dwlLanes.contains lane = true ∧ s.dwlUp = false ∧ s.dwlLanesOk = true ∧ s.rst.l2.contains .dwl = false) ∧
    (∃ (lane : Nat) (ccum : BitVec 16) (ok : Bool) (s : State), s.dwl.prog = [] ∧ s.dwlLanes.contains lane = false) ∧
    (∃ (old : Bool) (s : State), s.dwlUp = false) ∧
    (∃ (s : State), s.dwlUp = true) ∧
    (∃ (r : OutRec) (l : List OutRec) (s : State), s.dwlUp = true ∧ s.wort.dwl.out = r :: l ∧ s.creditFor s.dwl.seqPoint = false) ∧
    (∃ (lane : Nat) (ccum : BitVec 16) (s : State), s.dwl.prog = [] ∧ s.dwlUp = false) ∧
    (∃ (lane : Nat) (ccum : BitVec 16) (s : State), s.dwlLanes.contains lane = true ∧ s.dwlAligned lane = true ∧ s.dwlUp = true) :=
  ⟨⟨1, 0x5, (let s := wS .scan; let s : State := { s with dwl := { s.dwl with prog := [] } }; let s : State := s.setF Fld.DWL_CTRL_MODE 2; let s : State := s.setB Fld.DWL_STAT_AL0 true; let s : State := s.setB Fld.DWL_STAT_AL1 true; let s : State := s.setB Fld.DWL_STAT_UP true; s), by decide +kernel⟩,
   ⟨1, 0x5, (let s := wS .scan; let s : State := { s with dwl := { s.dwl with prog := [] } }; let s : State := s.setF Fld.DWL_CTRL_MODE 2; let s : State := s.setB Fld.DWL_STAT_AL0 true; let s : State := s.setB Fld.DWL_STAT_AL1 true; let s : State := s.setB Fld.DWL_STAT_UP true; s), by decide +kernel⟩,
   ⟨1, 0x5, (let s := wS .scan; let s : State := { s with dwl := { s.dwl with prog := [] } }; let s : State := s.setF Fld.DWL_CTRL_MODE 2; let s : State := s.setB Fld.DWL_STAT_AL0 true; let s : State := s.setB Fld.DWL_STAT_AL1 true; let s : State := s.setB Fld.DWL_STAT_UP false; let s : State := { s with rst := { s.rst with l2 := [] } }; s), by decide +kernel⟩,
   ⟨1, 0x5, true, (let s := wS .scan; let s : State := { s with dwl := { s.dwl with prog := [] } }; s), by decide +kernel⟩,
   ⟨true, wS .scan, by decide +kernel⟩,
   ⟨(let s := wS .scan; let s : State := s.setB Fld.DWL_STAT_UP true; s), by decide +kernel⟩,
   ⟨({ kind := RecKind.echo 1 true true [{ range := 1, int := 1, width := 1, rain := true, sat := true, thin := true, zoomed := true, field := true, aliased := true, invalid := true, area := 1 }], frame := 1, words := [0x1] } : OutRec), [{ kind := RecKind.echo 1 true true [{ range := 1, int := 1, width := 1, rain := true, sat := true, thin := true, zoomed := true, field := true, aliased := true, invalid := true, area := 1 }], frame := 1, words := [0x1] }], (let s := wS .scan; let s : State := s.setB Fld.DWL_STAT_UP true; let s : State := { s with wort := { s.wort with dwl := { s.wort.dwl with out := ({ kind := RecKind.echo 1 true true [{ range := 1, int := 1, width := 1, rain := true, sat := true, thin := true, zoomed := true, field := true, aliased := true, invalid := true, area := 1 }], frame := 1, words := [0x1] } : OutRec) :: [{ kind := RecKind.echo 1 true true [{ range := 1, int := 1, width := 1, rain := true, sat := true, thin := true, zoomed := true, field := true, aliased := true, invalid := true, area := 1 }], frame := 1, words := [0x1] }] } } }; s), by decide +kernel⟩,
   ⟨1, 0x5, (let s := wS .scan; let s : State := { s with dwl := { s.dwl with prog := [] } }; s), by decide +kernel⟩,
   ⟨1, 0x5, (let s := wS .scan; let s : State := s.setF Fld.DWL_CTRL_MODE 2; let s : State := s.setB Fld.DWL_STAT_AL0 true; let s : State := s.setB Fld.DWL_STAT_AL1 true; let s : State := s.setB Fld.DWL_STAT_UP true; s), by decide +kernel⟩⟩

theorem met_Lanes :
    (∃ (n : Nat) (s : State), n < 4 ∧ s.laneOn n = true ∧ s.b Fld.CLK_STATUS_LPLL_LOCK = true ∧ s.b (Fld.LANE_STAT_ALIGNED n) = false) ∧
    (∃ (n : Nat) (good : Nat) (lost : Bool) (s : State), 2 ≤ n ∧ n < 4 ∧ s.laneOn n = true ∧ s.b (Fld.LANE_STAT_ALIGNED n) = true ∧ (s.lane n).score - good / 4 < 3) ∧
    (∃ (n : Nat) (good : Nat) (kind : Nat) (lost : Bool) (s : State), 2 ≤ n ∧ n < 4 ∧ s.laneOn n = true ∧ s.b (Fld.LANE_STAT_ALIGNED n) = true ∧ 3 ≤ (s.lane n).score - good / 4) ∧
    (∃ (n : Nat) (eyes : List (Nat × Nat)) (d1 : BitVec 6) (d2 : BitVec 6) (d3 : BitVec 6) (s : State), n < 4 ∧ s.b (Fld.LANE_STAT_ALIGNED n) = true ∧ (s.lane n).adapting = true) ∧
    (∃ (n : Nat) (h : Nat) (v : Nat) (d1 : BitVec 6) (d2 : BitVec 6) (d3 : BitVec 6) (s : State), n < 4 ∧ s.b (Fld.LANE_STAT_ALIGNED n) = false) ∧
    (∃ (n : Nat) (h : Nat) (v : Nat) (d1 : BitVec 6) (d2 : BitVec 6) (d3 : BitVec 6) (s : State), n < 4 ∧ s.b (Fld.LANE_STAT_ALIGNED n) = true ∧ h ≤ 64 ∧ v ≤ 511) ∧
    (∃ (n : Nat) (s : State), n < 4 ∧ s.laneOn n = true) ∧
    (∃ (n : Nat) (good : Nat) (lost : Bool) (s : State), 2 ≤ n ∧ n < 4 ∧ s.laneOn n = true ∧ s.b (Fld.LANE_STAT_ALIGNED n) = true ∧ (s.lane n).score - good / 4 < 3) ∧
    (∃ (n : Nat) (good : Nat) (kind : Nat) (s : State), n < 2 ∧ s.laneOn n = true) ∧
    (∃ (n : Nat) (good : Nat) (kind : Nat) (s : State), n < 2 ∧ s.laneOn n = true ∧ s.b (Fld.LANE_STAT_ALIGNED n) = true) :=
  ⟨⟨3, (let s := wS .scan; let s : State := s.setB Fld.CLK_STATUS_LPLL_LOCK true; let s : State := s.setB (Fld.LANE_STAT_ALIGNED 3) false; let s : State := s.setB (Fld.LANE_CFG_EN 3) true; s), by decide +kernel⟩,
   ⟨3, 1, true, (let s := wS .scan; let s : State := s.setB (Fld.LANE_STAT_ALIGNED 3) true; let s : State := s.setB (Fld.LANE_CFG_EN 3) true; s), by decide +kernel⟩,
   ⟨3, 1, 1, true, (let s := wS .scan; let s : State := s.setB (Fld.LANE_STAT_ALIGNED 3) true; let s : State := s.setLane 3 { s.lane 3 with score := 3 + 1 / 4 + 1 }; let s : State := s.setB (Fld.LANE_CFG_EN 3) true; s), by decide +kernel⟩,
   ⟨3, [(1, 1)], 0x2e, 0x17, 0x0, (let s := wS .scan; let s : State := s.setB (Fld.LANE_STAT_ALIGNED 3) true; let s : State := s.setLane 3 { s.lane 3 with adapting := true }; s), by decide +kernel⟩,
   ⟨3, 1, 1, 0x17, 0x0, 0x9, (let s := wS .scan; let s : State := s.setB (Fld.LANE_STAT_ALIGNED 3) false; s), by decide +kernel⟩,
   ⟨3, 64, 511, 0x17, 0x0, 0x9, (let s := wS .scan; let s : State := s.setB (Fld.LANE_STAT_ALIGNED 3) true; s), by decide +kernel⟩,
   ⟨3, (let s := wS .scan; let s : State := s.setB (Fld.LANE_CFG_EN 3) true; s), by decide +kernel⟩,
   ⟨3, 1, true, (let s := wS .scan; let s : State := s.setB (Fld.LANE_STAT_ALIGNED 3) true; let s : State := s.setB (Fld.LANE_CFG_EN 3) true; let s : State := s.setLane 3 { s.lane 3 with score := 2 }; s), by decide +kernel⟩,
   ⟨1, 1, 1, (let s := wS .scan; let s : State := s.setB (Fld.LANE_CFG_EN 1) true; s), by decide +kernel⟩,
   ⟨1, 1, 1, (let s := wS .scan; let s : State := s.setB (Fld.LANE_STAT_ALIGNED 1) true; let s : State := s.setB (Fld.LANE_CFG_EN 1) true; s), by decide +kernel⟩⟩

theorem met_TimeAndPps :
    (∃ (s : State), s.b Fld.TIME_STAT_OFS_PEND = false) ∧
    (∃ (s : State), s.b Fld.TIME_STAT_OFS_PEND = true ∧ s.tclkRuns = true ∧ s.dev ≠ .boot) ∧
    (∃ (s : State), s.tclkRuns = true ∧ s.dev ≠ .boot ∧ s.b Fld.TIME_STAT_OFS_PEND = false) ∧
    (∃ (v : Word) (s : State), 0x3FEF9DB2 ≤ v.toNat ∧ v.toNat ≤ 0x4010624E) ∧
    (∃ (v : Word) (s : State), (v.toNat < 0x3FEF9DB2 ∨ 0x4010624E < v.toNat)) ∧
    (∃ (v : Word) (s : State), v.getLsbD 0 = true ∧ s.rst.sections.testBit 10 = true) ∧
    (∃ (m : Nat) (v : Word) (s : State), (m ≠ 2 ∨ s.rst.sections.testBit 10 = false) ∧ v.getLsbD 0 = true) ∧
    (∃ (m : Nat) (v : Word) (s : State), v.getLsbD 0 = false) ∧
    (∃ (v : Word) (s : State), (s.ns + 2 ^ 32 - v.toNat) % 2 ^ 32 ≠ 2 ^ 31) ∧
    (∃ (s : State), s.b Fld.TIME_STAT_PPS_ARMED = true ∧ s.b Fld.TIME_CTRL_VALID = true ∧ s.b Fld.TIME_CTRL_PPS_EN = true ∧ (s.ns + 2 ^ 32 - s.f Fld.TIME_PPS_TARGET) % 2 ^ 32 < 2 ^ 31) ∧
    (∃ (s : State), s.b Fld.TIME_CTRL_VALID = false) ∧
    (∃ (s : State), s.pins.ppsT ≤ s.now) ∧
    (∃ (s : State), s.now < s.pins.ppsT) ∧
    (∃ (v : Word) (s : State), (s.ns + 2 ^ 32 - v.toNat) % 2 ^ 32 = 2 ^ 31) ∧
    (∃ (s : State), s.b Fld.TIME_STAT_OFS_PEND = true ∧ s.tclkRuns = true) :=
  ⟨⟨(let s := wS .scan; let s : State := s.setB Fld.TIME_STAT_OFS_PEND false; s), by decide +kernel⟩,
   ⟨(let s := wS .scan; let s : State := s.setB Fld.TIME_STAT_OFS_PEND true; let s : State := s.setB Fld.CLK_STATUS_PLLB_LOCK true; s), by decide +kernel⟩,
   ⟨(let s := wS .scan; let s : State := s.setB Fld.TIME_STAT_OFS_PEND false; let s : State := s.setB Fld.CLK_STATUS_PLLB_LOCK true; s), by decide +kernel⟩,
   ⟨0x3fef9db3, wS .scan, by decide +kernel⟩,
   ⟨0x1, wS .scan, by decide +kernel⟩,
   ⟨0x1, (let s := wS .scan; let s : State := { s with rst := { s.rst with sections := 0xFFF } }; s), by decide +kernel⟩,
   ⟨1, 0x1, wS .scan, by decide +kernel⟩,
   ⟨1, 0xFFFFFFFE, wS .scan, by decide +kernel⟩,
   ⟨0x1, wS .scan, by decide +kernel⟩,
   ⟨(let s := wS .scan; let s : State := s.setB Fld.TIME_STAT_PPS_ARMED true; let s : State := s.setB Fld.TIME_CTRL_VALID true; let s : State := s.setB Fld.TIME_CTRL_PPS_EN true; s), by decide +kernel⟩,
   ⟨(let s := wS .scan; let s : State := s.setB Fld.TIME_CTRL_VALID false; s), by decide +kernel⟩,
   ⟨wS .scan, by decide +kernel⟩,
   ⟨(let s := wS .scan; let s : State := { s with pins := { s.pins with ppsT := s.now + 1 + 1 } }; s), by decide +kernel⟩,
   ⟨0x80000000, wS .scan, by decide +kernel⟩,
   ⟨(let s := wS .scan; let s : State := s.setB Fld.TIME_STAT_OFS_PEND true; let s : State := s.setB Fld.CLK_STATUS_PLLB_LOCK true; s), by decide +kernel⟩⟩

theorem met_TimeInputs :
    (∃ (m : Nat) (rising : Bool) (tap : Nat) (s : State), (s.dev = .boot ∨ s.dev = .park)) ∧
    (∃ (m : Nat) (rising : Bool) (tap : Nat) (l : Nat) (s : State), m < 4 ∧ s.tinRuns = true ∧ s.tinMode m ≠ 0 ∧ slopeMatch (s.tinF m (Fld.TIN_CFG_SLOPE m)) rising = true ∧ (s.tin m).lastEdge = some l ∧ 256 * s.now + 4 * (s.tinStamp m tap).fine < l + 1024) ∧
    (∃ (m : Nat) (rising : Bool) (tap : Nat) (s : State), m < 4 ∧ s.tinRuns = true ∧ s.tinMode m = 1 ∧ slopeMatch (s.tinF m (Fld.TIN_CFG_SLOPE m)) rising = true ∧ (∀ n, n < 4 → s.stops n m rising = false) ∧ (s.tin m).lastEdge = none ∧ (s.tin m).queue.length < 256) ∧
    (∃ (m : Nat) (rising : Bool) (tap : Nat) (s : State), m < 4 ∧ s.tinRuns = true ∧ s.tinMode m = 1 ∧ slopeMatch (s.tinF m (Fld.TIN_CFG_SLOPE m)) rising = true ∧ (∀ n, n < 4 → s.stops n m rising = false) ∧ (s.tin m).lastEdge = none ∧ 256 ≤ (s.tin m).queue.length) ∧
    (∃ (m : Nat) (rising : Bool) (tap : Nat) (s : State), m < 4 ∧ s.tinRuns = true ∧ s.tinMode m = 2 ∧ slopeMatch (s.tinF m (Fld.TIN_CFG_SLOPE m)) rising = true ∧ (∀ n, n < 4 → s.stops n m rising = false) ∧ (s.tin m).lastEdge = none ∧ (s.tin m).start = none) ∧
    (∃ (n : Nat) (m : Nat) (rising : Bool) (tap : Nat) (a : TinStamp) (s : State), n < 4 ∧ m < 4 ∧ n ≠ m ∧ s.tinRuns = true ∧ s.tinMode m = 0 ∧ ((∀ k, k < 4 → s.stops k m rising = decide (k = n))) ∧ (s.tin m).lastEdge = none ∧ (s.tin n).start = some a ∧ 0 < interval a (s.tinStamp m tap) ∧ interval a (s.tinStamp m tap) < 2 ^ 40 ∧ (s.tin n).phstep = false ∧ (s.tin n).lost = false ∧ (s.tin n).queue.length < 256) ∧
    (∃ (n : Nat) (h : List Nat) (s : State), n < 4 ∧ s.dev ≠ .park ∧ s.b Fld.CLK_STATUS_PLLB_LOCK = true) ∧
    (∃ (n : Nat) (s : State), n < 4) ∧
    (∃ (n : Nat) (v : Word) (s : State), n < 4) ∧
    (∃ (n : Nat) (s : State), n < 4 ∧ s.b Fld.TIME_STAT_OFS_PEND = true ∧ s.tclkRuns = true ∧ s.f (Fld.TIN_CFG_MODE n) ≠ s.tinF n (Fld.TIN_CFG_MODE n)) :=
  ⟨⟨1, true, 1, wS .boot, by decide +kernel⟩,
   ⟨1, true, 1, (256 * 70000 + 256 * 300000 + 1000), (let s := wS .scan; let s : State := s.setTin 1 { s.tin 1 with lastEdge := some (256 * 70000 + 256 * 300000 + 1000) }; let s : State := (List.range 4).foldl (fun s k => s.setTin k { s.tin k with start := none }) s; let s : State := s.setTin 1 { s.tin 1 with cfg := (Fld.TIN_CFG_MODE 1).put ((Fld.TIN_CFG_SLOPE 1).put (s.tin 1).cfg 3) 1, lastEdge := some (256 * 70000 + 256 * 300000 + 1000) }; let s : State := s.setF (Fld.TIN_CFG_MODE 1) 1; let s : State := s.setF (Fld.TIN_CFG_SLOPE 1) 1; s), by decide +kernel⟩,
   ⟨1, true, 1, (let s := wS .scan; let s : State := s.setTin 1 { s.tin 1 with lastEdge := none }; let s : State := (List.range 4).foldl (fun s k => s.setTin k { s.tin k with start := none }) s; let s : State := s.setTin 1 { s.tin 1 with cfg := (Fld.TIN_CFG_MODE 1).put ((Fld.TIN_CFG_SLOPE 1).put (s.tin 1).cfg 3) 1, lastEdge := none }; s), by decide +kernel⟩,
   ⟨1, true, 1, (let s := wS .scan; let s : State := s.setTin 1 { s.tin 1 with lastEdge := none }; let s : State := (List.range 4).foldl (fun s k => s.setTin k { s.tin k with start := none }) s; let s : State := s.setTin 1 { s.tin 1 with cfg := (Fld.TIN_CFG_MODE 1).put ((Fld.TIN_CFG_SLOPE 1).put (s.tin 1).cfg 3) 1, queue := List.replicate 256 (0,0), lastEdge := none }; s), by decide +kernel⟩,
   ⟨1, true, 1, (let s := wS .scan; let s : State := s.setTin 1 { s.tin 1 with lastEdge := none }; let s : State := s.setTin 1 { s.tin 1 with start := none }; let s : State := (List.range 4).foldl (fun s k => s.setTin k { s.tin k with start := none }) s; let s : State := s.setTin 1 { s.tin 1 with cfg := (Fld.TIN_CFG_MODE 1).put ((Fld.TIN_CFG_SLOPE 1).put (s.tin 1).cfg 3) 2, lastEdge := none }; let s : State := s.setF (Fld.TIN_CFG_MODE 1) 2; let s : State := s.setF (Fld.TIN_CFG_SLOPE 1) 1; s), by decide +kernel⟩,
   ⟨1, 3, true, 1, ({ ns := 1, frac := 1, fine := 1, tv := true, wraps := 0 } : TinStamp), (let s := wS .scan; let s : State := s.setTin 3 { s.tin 3 with lastEdge := none }; let s : State := s.setTin 1 { s.tin 1 with start := some ({ ns := 1, frac := 1, fine := 1, tv := true, wraps := 0 } : TinStamp) }; let s : State := s.setTin 1 { s.tin 1 with phstep := false }; let s : State := s.setTin 1 { s.tin 1 with lost := false }; let s : State := (List.range 4).foldl (fun s k => s.setTin k { s.tin k with start := none }) s; let s : State := s.setTin 3 { s.tin 3 with lastEdge := none, cfg := 0 }; let s : State := s.setTin 1 { s.tin 1 with start := some ({ ns := 1, frac := 1, fine := 1, tv := true, wraps := 0 } : TinStamp), cfg := (Fld.TIN_CFG_MODE 1).put ((Fld.TIN_CFG_STOPSEL 1).put ((Fld.TIN_CFG_STOP_SLOPE 1).put 0 3) 3) 2 }; let s : State := { s with time := { s.time with ctr := BitVec.ofNat 64 ((({ ns := 1, frac := 1, fine := 1, tv := true, wraps := 0 } : TinStamp).ns + 5 + 1) * 2^32), wraps := ({ ns := 1, frac := 1, fine := 1, tv := true, wraps := 0 } : TinStamp).wraps } }; s), by decide +kernel⟩,
   ⟨3, [1], (let s := wS .scan; let s : State := s.setB Fld.CLK_STATUS_PLLB_LOCK true; s), by decide +kernel⟩,
   ⟨3, wS .scan, by decide +kernel⟩,
   ⟨3, 0x1, wS .scan, by decide +kernel⟩,
   ⟨3, (let s := wS .scan; let s : State := s.setB Fld.TIME_STAT_OFS_PEND true; let s : State := s.setB Fld.CLK_STATUS_PLLB_LOCK true; let s : State := s.setB Fld.TIME_STAT_OFS_PEND true; let s : State := s.setF (Fld.TIN_CFG_MODE 3) 1; let s : State := s.setTin 3 { s.tin 3 with queue := [(1,2)] }; s), by decide +kernel⟩⟩

theorem met_EthReceive :
    (∃ (p : Nat) (s : State), p < 2 ∧ s.noImage = false ∧ s.b (Fld.ETH_CFG_AN p) = false ∧ s.ethMode p ≠ 3 ∧ s.laneOn p = true ∧ s.b Fld.CLK_STATUS_LPLL_LOCK = true ∧ s.b (Fld.LANE_STAT_ALIGNED p) = true ∧ s.ethHeld p = false ∧ s.rst.l2.contains (.eth p) = false ∧ bestTx (s.eth p).wait = none) ∧
    (∃ (p : Nat) (s : State), p < 2 ∧ s.b (Fld.ETH_STAT_LINK p) = true ∧ (s.eth p).cur = none ∧ ((∀ f ∈ (s.eth p).wait, f.dg = none))) ∧
    (∃ (p : Nat) (fr : List Byte) (fcs : Bool) (d : Nat) (s : State), p < 2 ∧ s.b (Fld.ETH_STAT_LINK p) = false) ∧
    (∃ (p : Nat) (fr : List Byte) (d : Nat) (s : State), p < 2 ∧ s.b (Fld.ETH_STAT_LINK p) = true ∧ s.ethMode p ≠ 3) ∧
    (∃ (p : Nat) (fr : List Byte) (d : Nat) (s : State), p < 2 ∧ s.b (Fld.ETH_STAT_LINK p) = true ∧ s.ethMode p ≠ 3 ∧ (fr.length < 60 ∨ 1524 < fr.length)) ∧
    (∃ (p : Nat) (fr : List Byte) (d : Nat) (s : State), p < 2 ∧ s.b (Fld.ETH_STAT_LINK p) = true ∧ s.ethMode p ≠ 3 ∧ 60 ≤ fr.length ∧ fr.length ≤ 1524 ∧ at16 fr 12 = 0x8808) ∧
    (∃ (p : Nat) (fr : List Byte) (d : Nat) (s : State), p < 2 ∧ s.b (Fld.ETH_STAT_LINK p) = true ∧ s.ethMode p ≠ 3 ∧ s.prpActive = false ∧ s.dev ≠ .park ∧ 60 ≤ fr.length ∧ fr.length ≤ 1524 ∧ at16 fr 12 = 0x88F7 ∧ at48 fr 0 = 0x011B19000000 ∧ s.vlanBad p fr = false ∧ (s.eth p).q0.length < 32) ∧
    (∃ (p : Nat) (s : State), p < 2 ∧ s.f (Fld.ETH_QSEL_Q p) = 0) ∧
    (∃ (p : Nat) (s : State), p < 2) ∧
    (∃ (p : Nat) (v : Word) (s : State), p < 2 ∧ s.dev = .boot) ∧
    (∃ (p : Nat) (v : Word) (s : State), s.dev ≠ .boot) ∧
    (∃ (p : Nat) (ip : Word) (e : ArpEnt) (s : State), p < 2 ∧ (s.eth (s.ethOf p)).arp.find? (fun e => e.ip = ip) = some e ∧ 3 ≤ e.tries) ∧
    (∃ (p : Nat) (ip : Word) (s : State), p < 2 ∧ (s.eth (s.ethOf p)).arp.find? (fun e => e.ip = ip) = none) ∧
    (∃ (p : Nat) (refused : Bool) (s : State), p < 2 ∧ s.noImage = false ∧ (refused = false ∨ s.b (Fld.ETH_CFG_AN p) = false) ∧ s.ethMode p ≠ 3 ∧ s.laneOn p = true ∧ s.b Fld.CLK_STATUS_LPLL_LOCK = true ∧ s.b (Fld.LANE_STAT_ALIGNED p) = true ∧ s.ethHeld p = false ∧ L2Target.eth p ∉ s.rst.l2) ∧
    (∃ (p : Nat) (s : State), p < 2 ∧ s.b (Fld.ETH_STAT_LINK p) = true) ∧
    (∃ (p : Nat) (fr : List Byte) (d : Nat) (s : State), p < 2 ∧ s.b (Fld.ETH_STAT_LINK p) = true ∧ s.ethMode p ≠ 3 ∧ 60 ≤ fr.length ∧ fr.length ≤ 1524) ∧
    (∃ (p : Nat) (ip : Word) (e : ArpEnt) (s : State), p < 2 ∧ (s.eth (s.ethOf p)).arp.find? (fun e => e.ip = ip) = some e ∧ e.tries < 3) ∧
    (∃ (p : Nat) (s : State), p < 2) :=
  ⟨⟨1, (let s := wS .scan; let s : State := s.setB (Fld.ETH_CFG_AN 1) false; let s : State := s.setB Fld.CLK_STATUS_LPLL_LOCK true; let s : State := s.setB (Fld.LANE_STAT_ALIGNED 1) true; let s : State := s.setB Fld.LDR_STATUS_NOIMAGE false; let s : State := s.setF (Fld.ETH_CFG_MODE 1) 1; let s : State := s.setB (Fld.LANE_CFG_EN 1) true; let s : State := s.setB (Fld.ETH_CFG_PRP 0) false; s), by decide +kernel⟩,
   ⟨1, (let s := wS .scan; let s : State := s.setB (Fld.ETH_STAT_LINK 1) true; let s : State := s.setEth 1 { s.eth 1 with cur := none }; s), by decide +kernel⟩,
   ⟨1, [0x1], true, 1, (let s := wS .scan; let s : State := s.setB (Fld.ETH_STAT_LINK 1) false; s), by decide +kernel⟩,
   ⟨1, (List.replicate 59 1), 1, (let s := wS .scan; let s : State := s.setB (Fld.ETH_STAT_LINK 1) true; let s : State := s.setF (Fld.ETH_CFG_MODE 1) 1; let s : State := s.setB Fld.LDR_STATUS_NOIMAGE false; s), by decide +kernel⟩,
   ⟨1, (List.replicate 59 1), 1, (let s := wS .scan; let s : State := s.setB (Fld.ETH_STAT_LINK 1) true; let s : State := s.setF (Fld.ETH_CFG_MODE 1) 1; let s : State := s.setB Fld.LDR_STATUS_NOIMAGE false; s), by decide +kernel⟩,
   ⟨1, [0x1, 0x80, 0xc2, 0x0, 0x0, 0x1, 0x1, 0x1, 0x1, 0x1, 0x1, 0x1, 0x88, 0x8, 0x1, 0x1, 0x1, 0x1, 0x1, 0x1, 0x1, 0x1, 0x1, 0x1, 0x1, 0x1, 0x1, 0x1, 0x1, 0x1, 0x1, 0x1, 0x1, 0x1, 0x1, 0x1, 0x1, 0x1, 0x1, 0x1, 0x1, 0x1, 0x1, 0x1, 0x1, 0x1, 0x1, 0x1, 0x1, 0x1, 0x1, 0x1, 0x1, 0x1, 0x1, 0x1, 0x1, 0x1, 0x1, 0x1, 0x1], 1, (let s := wS .scan; let s : State := s.setB (Fld.ETH_STAT_LINK 1) true; let s : State := s.setB Fld.LDR_STATUS_NOIMAGE false; let s : State := s.setF (Fld.ETH_CFG_MODE 1) 1; let s : State := s.setB (Fld.LANE_CFG_EN 1) true; let s : State := s.setB (Fld.ETH_CFG_PRP 0) false; s), by decide +kernel⟩,
   ⟨1, [0x1, 0x1b, 0x19, 0x0, 0x0, 0x0, 0x1, 0x1, 0x1, 0x1, 0x1, 0x1, 0x88, 0xf7, 0x1, 0x1, 0x1, 0x1, 0x1, 0x1, 0x1, 0x1, 0x1, 0x1, 0x1, 0x1, 0x1, 0x1, 0x1, 0x1, 0x1, 0x1, 0x1, 0x1, 0x1, 0x1, 0x1, 0x1, 0x1, 0x1, 0x1, 0x1, 0x1, 0x1, 0x1, 0x1, 0x1, 0x1, 0x1, 0x1, 0x1, 0x1, 0x1, 0x1, 0x1, 0x1, 0x1, 0x1, 0x1, 0x1, 0x1], 1, (let s := wS .scan; let s : State := s.setB (Fld.ETH_STAT_LINK 1) true; let s : State := s.setB Fld.LDR_STATUS_NOIMAGE false; let s : State := s.setF (Fld.ETH_CFG_MODE 1) 1; let s : State := s.setB (Fld.LANE_CFG_EN 1) true; let s : State := s.setB (Fld.ETH_CFG_PRP 0) false; s), by decide +kernel⟩,
   ⟨1, (let s := wS .scan; let s : State := s.setF (Fld.ETH_QSEL_Q 1) 0; s), by decide +kernel⟩,
   ⟨1, wS .scan, by decide +kernel⟩,
   ⟨1, 0x1, wS .boot, by decide +kernel⟩,
   ⟨1, 0x1, wS .scan, by decide +kernel⟩,
   ⟨1, 0x1, ({ ip := 0x1, mac := some 0x44ac3622f6b2, tries := 4 } : ArpEnt), (let s := wS .scan; let s : State := s.setEth (s.ethOf 1) { s.eth (s.ethOf 1) with arp := [({ ip := 0x1, mac := some 0x44ac3622f6b2, tries := 4 } : ArpEnt)] }; s), by decide +kernel⟩,
   ⟨1, 0x1, wS .scan, by decide +kernel⟩,
   ⟨1, false, (let s := wS .scan; let s : State := s.setB Fld.CLK_STATUS_LPLL_LOCK true; let s : State := s.setB (Fld.LANE_STAT_ALIGNED 1) true; let s : State := s.setB Fld.LDR_STATUS_NOIMAGE false; let s : State := s.setF (Fld.ETH_CFG_MODE 1) 1; let s : State := s.setB (Fld.LANE_CFG_EN 1) true; let s : State := s.setB (Fld.ETH_CFG_PRP 0) false; let s : State := s.setB (Fld.LANE_STAT_ALIGNED 1) true; let s : State := s.setB Fld.CLK_STATUS_LPLL_LOCK true; let s : State := { s with rst := { s.rst with l2 := [] } }; let s : State := s.setB (Fld.ETH_CFG_AN 1) true; s), by decide +kernel⟩,
   ⟨1, (let s := wS .scan; let s : State := s.setB (Fld.ETH_STAT_LINK 1) true; s), by decide +kernel⟩,
   ⟨1, [0x1, 0x1b, 0x19, 0x0, 0x0, 0x0, 0x1, 0x1, 0x1, 0x1, 0x1, 0x1, 0x88, 0xf7, 0x1, 0x1, 0x1, 0x1, 0x1, 0x1, 0x1, 0x1, 0x1, 0x1, 0x1, 0x1, 0x1, 0x1, 0x1, 0x1, 0x1, 0x1, 0x1, 0x1, 0x1, 0x1, 0x1, 0x1, 0x1, 0x1, 0x1, 0x1, 0x1, 0x1, 0x1, 0x1, 0x1, 0x1, 0x1, 0x1, 0x1, 0x1, 0x1, 0x1, 0x1, 0x1, 0x1, 0x1, 0x1, 0x1, 0x1], 1, (let s := wS .scan; let s : State := s.setB (Fld.ETH_STAT_LINK 1) true; let s : State := s.setB Fld.LDR_STATUS_NOIMAGE false; let s : State := s.setF (Fld.ETH_CFG_MODE 1) 1; let s : State := s.setB (Fld.LANE_CFG_EN 1) true; let s : State := s.setB (Fld.ETH_CFG_PRP 0) false; let s : State := s.setB (Fld.ETH_STAT_LINK 1) true; s), by decide +kernel⟩,
   ⟨1, 0x1, ({ ip := 0x1, mac := some 0x44ac3622f6b2, tries := 1 } : ArpEnt), (let s := wS .scan; let s : State := s.setEth (s.ethOf 1) { s.eth (s.ethOf 1) with arp := [({ ip := 0x1, mac := some 0x44ac3622f6b2, tries := 1 } : ArpEnt)] }; s), by decide +kernel⟩,
   ⟨1, wS .scan, by decide +kernel⟩⟩

theorem met_EthSend :
    (∃ (p : Nat) (v : Word) (s : State), p < 2 ∧ v.msb = false) ∧
    (∃ (p : Nat) (v : Word) (s : State), p < 2 ∧ s.b (Fld.ETH_TXSTAT_BUSY p) = true) ∧
    (∃ (p : Nat) (v : Word) (s : State), p < 2 ∧ v.msb = true ∧ s.b (Fld.ETH_TXSTAT_BUSY p) = false ∧ s.prpActive = false ∧ s.b (Fld.ETH_STAT_LINK p) = false ∧ (v.extractLsb' 0 11).toNat ≤ 1514) ∧
    (∃ (p : Nat) (d : Nat) (par : Bool) (s : State), p < 2 ∧ (s.eth p).cur = none) ∧
    (∃ (p : Nat) (d : Nat) (f : TxFr) (s : State), p < 2 ∧ (s.eth p).cur = some f ∧ f.ts = false ∧ f.txbuf = true ∧ f.dg = none ∧ bestTx (s.eth p).wait = none) ∧
    (∃ (s : State), s.prpActive = false) ∧
    (∃ (s : State), s.supDue = true ∧ s.b (Fld.ETH_STAT_LINK 0) = false ∧ s.b (Fld.ETH_STAT_LINK 1) = false) ∧
    (∃ (stream : Nat) (err : Option (Nat × Bool)) (s : State), s.prpActive = false ∧ s.b (Fld.ETH_STAT_LINK (s.ef Fld.WORT_ETH_PORT)) = false) ∧
    (∃ (d : Dgram) (p : Nat) (s : State), s.prpActive = false ∧ s.ef Fld.WORT_ETH_PORT = p ∧ s.b (Fld.ETH_STAT_LINK p) = true ∧ s.noImage = false ∧ s.dev ≠ .park ∧ s.wort.dgrams = [d] ∧ d.stream = 0 ∧ d.seq = none ∧ d.handed = false ∧ s.resolved p (s.f (Fld.ETH_PDST_ADDR p)) = true ∧ bestTx (s.eth p).wait = none ∧ (s.eth p).cur = none) ∧
    (∃ (p : Nat) (v : Word) (s : State), p < 2 ∧ v.msb = true ∧ s.b (Fld.ETH_TXSTAT_BUSY p) = false ∧ s.prpActive = false ∧ (v.extractLsb' 0 11).toNat ≤ 1514) ∧
    (∃ (p : Nat) (d : Nat) (f : TxFr) (s : State), p < 2 ∧ (s.eth p).cur = some f) ∧
    (∃ (p : Nat) (d : Nat) (f : TxFr) (s : State), p < 2 ∧ (s.eth p).cur = some f) ∧
    (∃ (s : State), s.supDue = false) ∧
    (∃ (s : State), s.supDue = true) ∧
    (∃ (stream : Nat) (p : Nat) (d : Dgram) (s : State), s.prpActive = false ∧ s.ef Fld.WORT_ETH_PORT = p ∧ s.b (Fld.ETH_STAT_LINK p) = true ∧ s.noImage = false ∧ s.dev ≠ .park ∧ stream < 2 ∧ s.dgNext stream = some d ∧ s.resolved p (if stream = 0 then s.f (Fld.ETH_PDST_ADDR p) else s.f (Fld.ETH_LDST_ADDR p)) = true) ∧
    (∃ (stream : Nat) (p : Nat) (err : Option (Nat × Bool)) (d : Dgram) (s : State), s.prpActive = false ∧ s.ef Fld.WORT_ETH_PORT = p ∧ s.b (Fld.ETH_STAT_LINK p) = true ∧ s.noImage = false ∧ s.dev ≠ .park ∧ stream < 2 ∧ s.dgNext stream = some d ∧ s.resolved p (if stream = 0 then s.f (Fld.ETH_PDST_ADDR p) else s.f (Fld.ETH_LDST_ADDR p)) = false) ∧
    (∃ (stream : Nat) (p : Nat) (d : Dgram) (s : State), p = (if s.prpActive then 0 else s.ef Fld.WORT_ETH_PORT) ∧ s.b (Fld.ETH_STAT_LINK p) = true ∧ s.noImage = false ∧ s.dev ≠ .park ∧ stream < 2 ∧ s.dgNext stream = some d ∧ s.resolved p (if stream = 0 then s.f (Fld.ETH_PDST_ADDR (s.ethOf p)) else s.f (Fld.ETH_LDST_ADDR (s.ethOf p))) = true) ∧
    (∃ (p : Nat) (v : Word) (s : State), p < 2 ∧ v.msb = true ∧ s.b (Fld.ETH_TXSTAT_BUSY p) = false ∧ s.b (Fld.ETH_STAT_LINK p) = true ∧ (v.extractLsb' 0 11).toNat ≤ 1506) ∧
    (∃ (p : Nat) (d : Nat) (par : Bool) (f : TxFr) (s : State), p < 2 ∧ (s.eth p).cur = some f ∧ f.txbuf = true) :=
  ⟨⟨1, 0x1, wS .scan, by decide +kernel⟩,
   ⟨1, 0x1, (let s := wS .scan; let s : State := s.setB (Fld.ETH_TXSTAT_BUSY 1) true; s), by decide +kernel⟩,
   ⟨1, 0x80000001, (let s := wS .scan; let s : State := s.setB (Fld.ETH_TXSTAT_BUSY 1) false; let s : State := s.setB (Fld.ETH_STAT_LINK 1) false; s), by decide +kernel⟩,
   ⟨1, 1, true, (let s := wS .scan; let s : State := s.setEth 1 { s.eth 1 with cur := none }; s), by decide +kernel⟩,
   ⟨1, 1, ({ cls := 1, body := .raw [1], ts := false, txbuf := true, lrs := 0, rct := none } : TxFr), (let s := wS .scan; let s : State := s.setEth 1 { s.eth 1 with cur := some ({ cls := 1, body := .raw [1], ts := false, txbuf := true, lrs := 0, rct := none } : TxFr) }; s), by decide +kernel⟩,
   ⟨wS .scan, by decide +kernel⟩,
   ⟨(let s := wS .scan; let s : State := s.setB (Fld.ETH_STAT_LINK 0) false; let s : State := s.setB (Fld.ETH_STAT_LINK 1) false; let s : State := s.setB Fld.LDR_STATUS_NOIMAGE false; let s : State := s.setB (Fld.ETH_CFG_PRP 0) true; let s : State := s.setF (Fld.ETH_CFG_MODE 0) 1; let s : State := s.setF (Fld.ETH_CFG_MODE 1) 1; s), by decide +kernel⟩,
   ⟨1, some (1, true), (let s := wS .scan; let s : State := s.setB (Fld.ETH_STAT_LINK (s.ef Fld.WORT_ETH_PORT)) false; s), by decide +kernel⟩,
   ⟨({ stream := 0, recs := [], closed := 1, seq := none, handed := false, sent := false } : Dgram), 0, (let s := wS .scan; let s : State := s.setB (Fld.ETH_STAT_LINK 0) true; let s : State := { s with wort := { s.wort with dgrams := [({ stream := 0, recs := [], closed := 1, seq := none, handed := false, sent := false } : Dgram)] } }; let s : State := s.setEth 0 { s.eth 0 with cur := none }; let s : State := s.setB Fld.LDR_STATUS_NOIMAGE false; let s : State := s.setF (Fld.ETH_CFG_MODE 0) 1; let s : State := s.setB (Fld.LANE_CFG_EN 0) true; let s : State := s.setB (Fld.ETH_CFG_PRP 0) false; let s : State := s.setF Fld.WORT_ETH_PORT 0; let s : State := s.setF (Fld.ETH_PDST_ADDR 0) (0xE0000001 + 1); let s : State := { s with wort := { s.wort with dgrams := [({ stream := 0, recs := [], closed := 1, seq := none, handed := false, sent := false } : Dgram)] } }; let s : State := s.setEth 0 { s.eth 0 with cur := none, wait := [] }; let s : State := s.setB (Fld.ETH_STAT_LINK 0) true; let s : State := s.setB Fld.LDR_STATUS_NOIMAGE false; let s : State := { s with eff := SMap.set regReset s.eff Reg.WORT_ETH 0 }; let s : State := s.setB (Fld.ETH_STAT_LINK 0) true; s), by decide +kernel⟩,
   ⟨1, 0x80000001, (let s := wS .scan; let s : State := s.setB (Fld.ETH_TXSTAT_BUSY 1) false; s), by decide +kernel⟩,
   ⟨1, 1, ({ cls := 1, body := TxBody.raw [0x1], ts := true, txbuf := true, lrs := 1, dg := some (1, 1), ip := 0x1, rct := some 1 } : TxFr), (let s := wS .scan; let s : State := s.setEth 1 { s.eth 1 with cur := some ({ cls := 1, body := TxBody.raw [0x1], ts := true, txbuf := true, lrs := 1, dg := some (1, 1), ip := 0x1, rct := some 1 } : TxFr) }; s), by decide +kernel⟩,
   ⟨1, 1, ({ cls := 1, body := TxBody.raw [0x1], ts := true, txbuf := true, lrs := 1, dg := some (1, 1), ip := 0x1, rct := some 1 } : TxFr), (let s := wS .scan; let s : State := s.setEth 1 { s.eth 1 with cur := some ({ cls := 1, body := TxBody.raw [0x1], ts := true, txbuf := true, lrs := 1, dg := some (1, 1), ip := 0x1, rct := some 1 } : TxFr) }; s), by decide +kernel⟩,
   ⟨wS .scan, by decide +kernel⟩,
   ⟨(let s := wS .scan; let s : State := s.setB Fld.LDR_STATUS_NOIMAGE false; let s : State := s.setB (Fld.ETH_CFG_PRP 0) true; let s : State := s.setF (Fld.ETH_CFG_MODE 0) 1; let s : State := s.setF (Fld.ETH_CFG_MODE 1) 1; s), by decide +kernel⟩,
   ⟨1, 1, ({ stream := 1, recs := [{ kind := RecKind.echo 1 true true [{ range := 1, int := 1, width := 1, rain := true, sat := true, thin := true, zoomed := true, field := true, aliased := true, invalid := true, area := 1 }], frame := 1, words := [0x1] }], closed := 1, seq := some 1, handed := false, sent := true } : Dgram), (let s := wS .scan; let s : State := s.setB (Fld.ETH_STAT_LINK 1) true; let s : State := s.setB Fld.LDR_STATUS_NOIMAGE false; let s : State := s.setF (Fld.ETH_CFG_MODE 1) 1; let s : State := s.setB (Fld.LANE_CFG_EN 1) true; let s : State := s.setB (Fld.ETH_CFG_PRP 0) false; let s : State := s.setF Fld.WORT_ETH_PORT 1; let s : State := { s with eff := SMap.set regReset s.eff Reg.WORT_ETH (s.rget Reg.WORT_ETH) }; let s : State := { s with wort := { s.wort with dgrams := [({ stream := 1, recs := [{ kind := RecKind.echo 1 true true [{ range := 1, int := 1, width := 1, rain := true, sat := true, thin := true, zoomed := true, field := true, aliased := true, invalid := true, area := 1 }], frame := 1, words := [0x1] }], closed := 1, seq := some 1, handed := false, sent := true } : Dgram)] } }; let s : State := s.setEth 1 { s.eth 1 with cur := none, wait := [] }; let s : State := s.setB (Fld.ETH_STAT_LINK 1) true; let s : State := s.setF (Fld.ETH_PDST_ADDR 1) (0xE0000001 + 1); let s : State := s.setF (Fld.ETH_LDST_ADDR 1) (0xE0000001 + 1); s), by decide +kernel⟩,
   ⟨1, 1, some (1, true), ({ stream := 1, recs := [{ kind := RecKind.echo 1 true true [{ range := 1, int := 1, width := 1, rain := true, sat := true, thin := true, zoomed := true, field := true, aliased := true, invalid := true, area := 1 }], frame := 1, words := [0x1] }], closed := 1, seq := some 1, handed := false, sent := true } : Dgram), (let s := wS .scan; let s : State := s.setB (Fld.ETH_STAT_LINK 1) true; let s : State := s.setB Fld.LDR_STATUS_NOIMAGE false; let s : State := s.setF (Fld.ETH_CFG_MODE 1) 1; let s : State := s.setB (Fld.LANE_CFG_EN 1) true; let s : State := s.setB (Fld.ETH_CFG_PRP 0) false; let s : State := s.setF Fld.WORT_ETH_PORT 1; let s : State := { s with eff := SMap.set regReset s.eff Reg.WORT_ETH (s.rget Reg.WORT_ETH) }; let s : State := { s with wort := { s.wort with dgrams := [({ stream := 1, recs := [{ kind := RecKind.echo 1 true true [{ range := 1, int := 1, width := 1, rain := true, sat := true, thin := true, zoomed := true, field := true, aliased := true, invalid := true, area := 1 }], frame := 1, words := [0x1] }], closed := 1, seq := some 1, handed := false, sent := true } : Dgram)] } }; let s : State := s.setEth 1 { s.eth 1 with cur := none, wait := [] }; let s : State := s.setB (Fld.ETH_STAT_LINK 1) true; let s : State := s.setF (Fld.ETH_PDST_ADDR 1) (0x0A000001 + 1); let s : State := s.setF (Fld.ETH_LDST_ADDR 1) (0x0A000001 + 1); s), by decide +kernel⟩,
   ⟨1, 0, ({ stream := 1, recs := [{ kind := RecKind.echo 1 true true [{ range := 1, int := 1, width := 1, rain := true, sat := true, thin := true, zoomed := true, field := true, aliased := true, invalid := true, area := 1 }], frame := 1, words := [0x1] }], closed := 1, seq := some 1, handed := false, sent := true } : Dgram), (let s := wS .scan; let s : State := s.setB (Fld.ETH_STAT_LINK 0) true; let s : State := s.setB Fld.LDR_STATUS_NOIMAGE false; let s : State := s.setF (Fld.ETH_CFG_MODE 0) 1; let s : State := s.setB (Fld.LANE_CFG_EN 0) true; let s : State := s.setB (Fld.ETH_CFG_PRP 0) false; let s : State := s.setF Fld.WORT_ETH_PORT 0; let s : State := { s with eff := SMap.set regReset s.eff Reg.WORT_ETH (s.rget Reg.WORT_ETH) }; let s : State := { s with wort := { s.wort with dgrams := [({ stream := 1, recs := [{ kind := RecKind.echo 1 true true [{ range := 1, int := 1, width := 1, rain := true, sat := true, thin := true, zoomed := true, field := true, aliased := true, invalid := true, area := 1 }], frame := 1, words := [0x1] }], closed := 1, seq := some 1, handed := false, sent := true } : Dgram)] } }; let s : State := s.setEth 0 { s.eth 0 with cur := none, wait := [] }; let s : State := s.setB (Fld.ETH_STAT_LINK 0) true; let s : State := s.setF (Fld.ETH_PDST_ADDR 0) (0xE0000001 + 1); let s : State := s.setF (Fld.ETH_LDST_ADDR 0) (0xE0000001 + 1); let s : State := s.setB (Fld.ETH_CFG_PRP 0) true; let s : State := s.setB (Fld.ETH_CFG_AN 0) false; let s : State := s.setB (Fld.ETH_CFG_AN 1) false; let s : State := s.setF (Fld.ETH_CFG_MODE 0) 1; let s : State := s.setF (Fld.ETH_CFG_MODE 1) 1; s), by decide +kernel⟩,
   ⟨1, 0x80000001, (let s := wS .scan; let s : State := s.setB (Fld.ETH_TXSTAT_BUSY 1) false; let s : State := s.setB (Fld.ETH_STAT_LINK 1) true; s), by decide +kernel⟩,
   ⟨1, 1, true, ({ cls := 1, body := TxBody.raw [0x1], ts := true, txbuf := true, lrs := 1, dg := some (1, 1), ip := 0x1, rct := some 1 } : TxFr), (let s := wS .scan; let s : State := s.setEth 1 { s.eth 1 with cur := some ({ cls := 1, body := TxBody.raw [0x1], ts := true, txbuf := true, lrs := 1, dg := some (1, 1), ip := 0x1, rct := some 1 } : TxFr) }; s), by decide +kernel⟩⟩

theorem met_Adc0 :
    (∃ (s : State), s.adc.refFail = false) ∧
    (∃ (s : State), s.b Fld.ADC0_STAT_REFRDY = false) ∧
    (∃ (s : State), s.b Fld.ADC0_STAT_REFRDY = true) ∧
    (∃ (n : Nat) (s : State), n < 4 ∧ s.b (Fld.ADC0_REQ_EN n) = true ∧ s.f (Fld.ADC0_REQ_TRIG n) = 0) ∧
    (∃ (n : Nat) (s : State), s.b (Fld.ADC0_REQ_EN n) = false) ∧
    (∃ (n : Nat) (x : Nat) (k : Nat) (s : State), n < 4 ∧ s.reqTriggers n x = true ∧ s.adcFirst (s.reqJob n x) = some k ∧ 4 * k ≤ x + 1000) ∧
    (∃ (n : Nat) (x : Nat) (k : Nat) (s : State), n < 4 ∧ s.reqTriggers n x = true ∧ s.adcFirst (s.reqJob n x) = some k ∧ x + 1000 < 4 * k) ∧
    (∃ (n : Nat) (i : Nat) (convs : List Conv) (s : State), n < 4 ∧ s.adcLive (2 + n) = some i ∧ (adcSlots s.adc.jobs i).length ≤ convs.length) ∧
    (∃ (x : Nat) (convs : List Conv) (s : State), s.b Fld.ADC0_BG_EN = false) ∧
    (∃ (x : Nat) (c : Conv) (s : State), s.b Fld.ADC0_BG_EN = true ∧ s.b Fld.ADC0_FIR_EN = false ∧ s.adcUsed (x / 4) = false ∧ s.adc.chInv = 0) ∧
    (∃ (x : Nat) (c : Conv) (s : State), s.b Fld.ADC0_BG_EN = true ∧ s.b Fld.ADC0_FIR_EN = true ∧ s.adc.dec = 0 ∧ 1 < s.adc.refill) ∧
    (∃ (s : State), s.adc.refFail = true) ∧
    (∃ (n : Nat) (x : Nat) (s : State), s.reqTriggers n x = false) ∧
    (∃ (n : Nat) (convs : List Conv) (s : State), s.adcLive (2 + n) = none) ∧
    (∃ (x : Nat) (c : Conv) (s : State), s.b Fld.ADC0_BG_EN = true ∧ s.b Fld.ADC0_FIR_EN = true ∧ s.adc.dec ≠ 0) ∧
    (∃ (x : Nat) (c : Conv) (s : State), s.b Fld.ADC0_BG_EN = true ∧ s.adcUsed (x / 4) = true) :=
  ⟨⟨(let s := wS .scan; let s : State := { s with adc := { s.adc with refFail := false } }; s), by decide +kernel⟩,
   ⟨(let s := wS .scan; let s : State := s.setB Fld.ADC0_STAT_REFRDY false; s), by decide +kernel⟩,
   ⟨(let s := wS .scan; let s : State := s.setB Fld.ADC0_STAT_REFRDY true; s), by decide +kernel⟩,
   ⟨3, (let s := wS .scan; let s : State := s.setB (Fld.ADC0_REQ_EN 3) true; let s : State := s.setF (Fld.ADC0_REQ_TRIG 3) 0; s), by decide +kernel⟩,
   ⟨1, (let s := wS .scan; let s : State := s.setB (Fld.ADC0_REQ_EN 1) false; s), by decide +kernel⟩,
   ⟨1, 5001, 1251, (let s := wS .scan; let s : State := s.setB (Fld.ADC0_REQ_EN 1) true; let s : State := s.setF (Fld.ADC0_REQ_TRIG 1) 0; let s : State := { s with adc := { s.adc with due := [(1, 5001)], jobs := [] } }; s), by decide +kernel⟩,
   ⟨1, 5001, 1551, (let s := wS .scan; let s : State := s.setB (Fld.ADC0_REQ_EN 1) true; let s : State := s.setF (Fld.ADC0_REQ_TRIG 1) 0; let s : State := { s with now := 5001 }; let s : State := { s with adc := { s.adc with due := [(1, 5001)], jobs := [{ who := 0, src := 1, trig := slotAt 5001, len := 300, live := true }] } }; s), by decide +kernel⟩,
   ⟨1, 0, [{ v := [-2999999000], ref := 1 }, { v := [-2999999000], ref := 1 }], (let s := wS .scan; let s : State := { s with adc := { s.adc with jobs := [{ who := 2 + 1, src := 3, trig := 100, len := 1 + 1, live := true }] } }; s), by decide +kernel⟩,
   ⟨1, [{ v := [-2999999000], ref := 1 }], (let s := wS .scan; let s : State := s.setB Fld.ADC0_BG_EN false; s), by decide +kernel⟩,
   ⟨1, ({ v := [-2999999000], ref := 1 } : Conv), (let s := wS .scan; let s : State := s.setB Fld.ADC0_BG_EN true; let s : State := s.setB Fld.ADC0_FIR_EN false; let s : State := { s with adc := { s.adc with chInv := 0 } }; let s : State := { s with adc := { s.adc with chInv := 0 } }; s), by decide +kernel⟩,
   ⟨1, ({ v := [-2999999000], ref := 1 } : Conv), (let s := wS .scan; let s : State := s.setB Fld.ADC0_BG_EN true; let s : State := s.setB Fld.ADC0_FIR_EN true; let s : State := { s with adc := { s.adc with dec := 0 } }; let s : State := { s with adc := { s.adc with refill := 1 + 1 } }; s), by decide +kernel⟩,
   ⟨(let s := wS .scan; let s : State := { s with adc := { s.adc with refFail := true } }; s), by decide +kernel⟩,
   ⟨1, 1, wS .scan, by decide +kernel⟩,
   ⟨1, [{ v := [-2999999000], ref := 1 }], wS .scan, by decide +kernel⟩,
   ⟨1, ({ v := [-2999999000], ref := 1 } : Conv), (let s := wS .scan; let s : State := s.setB Fld.ADC0_BG_EN true; let s : State := s.setB Fld.ADC0_FIR_EN true; let s : State := { s with adc := { s.adc with dec := 1 + 1 } }; s), by decide +kernel⟩,
   ⟨1, ({ v := [-2999999000], ref := 1 } : Conv), (let s := wS .scan; let s : State := s.setB Fld.ADC0_BG_EN true; let s : State := { s with adc := { s.adc with jobs := [{ who := 3, src := 3, trig := 1 / 4, len := 2, live := true }] } }; s), by decide +kernel⟩⟩

theorem met_SensorsAndTrips :
    (∃ (m : Nat) (x : AfeRaw) (s : State), (s.afeTurn m = false ∨ x.dur ≠ s.afeTime m)) ∧
    (∃ (m : Nat) (x : AfeRaw) (s : State), s.afeTurn m = true ∧ x.dur = s.afeTime m ∧ s.afeConflict m = true) ∧
    (∃ (m : Nat) (x : AfeRaw) (s : State), s.afeTurn m = true ∧ x.dur = s.afeTime m ∧ s.afeConflict m = false ∧ (x.comp = true ∨ x.open_ = true)) ∧
    (∃ (m : Nat) (x : AfeRaw) (s : State), s.afeTurn m = true ∧ x.dur = s.afeTime m ∧ s.afeConflict m = false ∧ x.comp = false ∧ x.open_ = false ∧ s.f (Fld.AFE_DEFA_CURVE m) = 0) ∧
    (∃ (m : Nat) (x : AfeRaw) (s : State), s.afeTurn m = true ∧ x.dur = s.afeTime m ∧ s.afeConflict m = false ∧ x.comp = false ∧ x.open_ = false) :=
  ⟨⟨1, ({ ax := [-1499999000, -1499999000, -1499999000, -1499999000, -1499999000, -1499999000, -1499999000, -1499999000], trim := -9999, lead := -9999990, dur := 1, comp := true, open_ := true } : AfeRaw), wS .scan, by decide +kernel⟩,
   ⟨1, ({ ax := [-1499999000, -1499999000, -1499999000, -1499999000, -1499999000, -1499999000, -1499999000, -1499999000], trim := -9999, lead := -9999990, dur := 2000000, comp := true, open_ := false } : AfeRaw), (let s := wS .scan; let s : State := (List.range 16).foldl (fun s k => s.setB (Fld.AFE_DEFA_EN k) (k = 1)) s; let s : State := s.setF (Fld.AFE_DEFA_RATE 1) 0; let s : State := s.setF (Fld.AFE_DEFA_WIRE 1) 0; let s : State := s.setF Fld.AFE_BIAS_PINS 0xFF; let s : State := s.setF (Fld.AFE_DEFA_EXC 1) 3; s), by decide +kernel⟩,
   ⟨1, ({ ax := [-1499999000, -1499999000, -1499999000, -1499999000, -1499999000, -1499999000, -1499999000, -1499999000], trim := -9999, lead := -9999990, dur := 2000000, comp := true, open_ := false } : AfeRaw), (let s := wS .scan; let s : State := (List.range 16).foldl (fun s k => s.setB (Fld.AFE_DEFA_EN k) (k = 1)) s; let s : State := s.setF (Fld.AFE_DEFA_RATE 1) 0; let s : State := s.setF (Fld.AFE_DEFA_WIRE 1) 0; let s : State := s.setF Fld.AFE_BIAS_PINS 0; let s : State := s.setB Fld.AFE_PMON_EN false; s), by decide +kernel⟩,
   ⟨1, ({ ax := [], trim := 0, lead := 0, dur := 2000000, comp := false, open_ := false } : AfeRaw), (let s := wS .scan; let s : State := s.setF (Fld.AFE_DEFA_CURVE 1) 0; let s : State := (List.range 16).foldl (fun s k => s.setB (Fld.AFE_DEFA_EN k) (k = 1)) s; let s : State := s.setF (Fld.AFE_DEFA_RATE 1) 0; let s : State := s.setF (Fld.AFE_DEFA_WIRE 1) 0; let s : State := s.setF (Fld.AFE_DEFA_CURVE 1) 0; let s : State := s.setF Fld.AFE_BIAS_PINS 0; let s : State := s.setB Fld.AFE_PMON_EN false; s), by decide +kernel⟩,
   ⟨1, ({ ax := [-1499999000, -1499999000, -1499999000, -1499999000, -1499999000, -1499999000, -1499999000, -1499999000], trim := -9999, lead := -9999990, dur := 2000000, comp := false, open_ := false } : AfeRaw), (let s := wS .scan; let s : State := (List.range 16).foldl (fun s k => s.setB (Fld.AFE_DEFA_EN k) (k = 1)) s; let s : State := s.setF (Fld.AFE_DEFA_RATE 1) 0; let s : State := s.setF (Fld.AFE_DEFA_WIRE 1) 0; let s : State := s.setF Fld.AFE_BIAS_PINS 0; let s : State := s.setB Fld.AFE_PMON_EN false; s), by decide +kernel⟩⟩

theorem met_ControlEngine :
    (∃ (vspad : Nat) (mexc : Nat) (vin : Nat) (pin : Nat) (limit : Bool) (s : State), s.dev = .park) ∧
    (∃ (vspad : Nat) (mexc : Nat) (vin : Nat) (pin : Nat) (limit : Bool) (s : State), s.dev ≠ .park) ∧
    (∃ (n : Nat) (s : State), n < 8 ∧ s.groupRuns n = true) ∧
    (∃ (n : Nat) (s : State), n < 8 ∧ s.groupRuns n = false ∧ s.ctl.grp.testBit n = true) ∧
    (∃ (n : Nat) (s : State), s.groupRuns n = false ∧ s.ctl.grp.testBit n = false) ∧
    (∃ (s : State), (s.f Fld.CTL_STAT_RUN).testBit 1 = true) ∧
    (∃ (vspad : Nat) (mexc : Nat) (vin : Nat) (pin : Nat) (limit : Bool) (s : State), s.dev ≠ .park) :=
  ⟨⟨1, 1, 1, 1, true, wS .park, by decide +kernel⟩,
   ⟨1, 1, 1, 1, true, wS .scan, by decide +kernel⟩,
   ⟨7, (let s := wS .scan; let s : State := s.setF Fld.EMIT_CTRL_FITTED 0xFF; let s : State := s.setF Fld.EMIT_FAULT_DEAD 0; s), by decide +kernel⟩,
   ⟨7, (let s := wS .scan; let s : State := { s with ctl := { s.ctl with grp := 0xFF } }; s), by decide +kernel⟩,
   ⟨1, wS .scan, by decide +kernel⟩,
   ⟨(let s := wS .scan; let s : State := s.setF Fld.CTL_STAT_RUN 2; s), by decide +kernel⟩,
   ⟨1, 1, 1, 1, true, wS .scan, by decide +kernel⟩⟩

theorem met_GuardOutputs :
    (∃ (s : State), s.b Fld.GUARD_CFG_ANTIV = false ∧ s.soutOn = true) ∧
    (∃ (level : Bool) (s : State), s.soutOn = false) ∧
    (∃ (s : State), s.soutOn = false ∧ s.offWhy % 64 = 0 ∧ s.b Fld.GUARD_CFG_CHECK = false) ∧
    (∃ (s : State), s.soutOn = false ∧ s.offWhy % 64 = 0 ∧ s.b Fld.GUARD_CFG_CHECK = true ∧ s.b Fld.GUARD_STAT_EDM = false) ∧
    (∃ (s : State), s.offWhy % 64 ≠ 0) ∧
    (∃ (s : State), s.soutOn = true ∧ s.b Fld.GUARD_CFG_CHECK = false ∧ s.guard.pulse = none ∧ s.guard.pulseMs + s.opi ≤ s.ms) ∧
    (∃ (s : State), (s.soutOn = false ∨ s.ms < s.guard.pulseMs + s.opi)) ∧
    (∃ (s : State), s.guard.pulse = some 0 ∧ s.guard.pulseEnd ≤ s.now) ∧
    (∃ (rbB : Bool) (s : State), s.guard.pulse = some 0 ∧ s.guard.pulseEnd ≤ s.now ∧ s.soutOn = true ∧ s.b Fld.GUARD_FAULT_SOUT_FAULT = false) ∧
    (∃ (rbA : Bool) (rbB : Bool) (limA : Bool) (limB : Bool) (s : State), s.soutOn = false ∧ s.guard.outA.last ≠ some true ∧ s.guard.outB.last ≠ some true) ∧
    (∃ (rbB : Bool) (limA : Bool) (limB : Bool) (s : State), s.soutOn = true ∧ s.guard.pulse = none ∧ s.guard.outA.last = some false ∧ 5 ≤ s.guard.outA.n ∧ s.b Fld.GUARD_FAULT_SOUT_FAULT = false) ∧
    (∃ (s : State), s.b Fld.GUARD_CFG_CHECK = true ∧ s.guard.edmWait.isSome = true ∧ s.guard.edmMs + s.edmT ≤ s.ms ∧ s.b Fld.GUARD_FAULT_SOUT_FAULT = false) ∧
    (∃ (s : State), (s.guard.edmWait = none ∨ s.ms < s.guard.edmMs + s.edmT)) ∧
    (∃ (level : Bool) (s : State), s.guard.edmWait = some level) ∧
    (∃ (s : State), s.guard.edmWait = none ∧ s.b Fld.GUARD_CFG_CHECK = true ∧ s.b Fld.GUARD_STAT_EDM = false ∧ s.soutOn = true ∧ s.b Fld.GUARD_FAULT_SOUT_FAULT = false) ∧
    (∃ (s : State), s.b Fld.PWR_FAULT_SOUT_TRIP = false) ∧
    (∃ (s : State), s.guardActive = true ∧ s.dev ≠ .boot ∧ s.dev ≠ .park ∧ s.b Fld.GUARD_STAT_CHANGE_OPEN = false ∧ s.guardCrc = s.rget Reg.GUARD_CRCREF) ∧
    (∃ (s : State), s.guardActive = true ∧ s.dev ≠ .boot ∧ s.dev ≠ .park ∧ s.b Fld.GUARD_STAT_CHANGE_OPEN = false ∧ s.guardCrc ≠ s.rget Reg.GUARD_CRCREF) ∧
    (∃ (ue : Option Nat) (s : State), s.b Fld.GUARD_STAT_CHANGE_OPEN = true) ∧
    (∃ (rbA : Bool) (rbB : Bool) (s : State), (s.guard.pulse = none ∨ s.now < s.guard.pulseEnd)) ∧
    (∃ (s : State), s.soutOn = false ∧ s.offWhy % 64 = 0 ∧ s.b Fld.GUARD_CFG_CHECK = true ∧ s.b Fld.GUARD_STAT_EDM = true) ∧
    (∃ (p : Nat) (rbA : Bool) (rbB : Bool) (s : State), s.guard.pulse = some p ∧ s.guard.pulseEnd ≤ s.now) ∧
    (∃ (s : State), s.b Fld.GUARD_CFG_CHECK = true ∧ s.guard.edmWait.isSome = true ∧ s.guard.edmMs + s.edmT ≤ s.ms) ∧
    (∃ (a : Nat) (s : State), s.guardActive = true ∧ s.dev ≠ .boot ∧ s.dev ≠ .park ∧ s.b Fld.GUARD_STAT_CHANGE_OPEN = false) ∧
    (∃ (s : State), s.guardActive = true ∧ s.dev ≠ .boot ∧ s.dev ≠ .park ∧ s.b Fld.GUARD_STAT_CHANGE_OPEN = false) :=
  ⟨⟨(let s := wS .scan; let s : State := s.setB Fld.GUARD_CFG_ANTIV false; let s : State := s.setB Fld.GUARD_STAT_ON true; s), by decide +kernel⟩,
   ⟨true, wS .scan, by decide +kernel⟩,
   ⟨(let s := wS .scan; let s : State := s.setB Fld.GUARD_CFG_CHECK false; let s : State := { s with rst := { s.rst with sections := 0xFFF } }; let s : State := s.rset Reg.GUARD_FAULT 0; let s : State := s.rset Reg.PWR_FAULT 0; let s : State := { s with guard := { s.guard with cg := [], enA := true, enB := true } }; let s : State := s.setB Fld.SCAN_STAT_INHIBIT false; let s : State := s.setF Fld.GUARD_STAT_CLEAR 2; let s : State := s.setB Fld.GUARD_STAT_RST_WAIT false; let s : State := s.setB Fld.GUARD_STAT_CHANGE_OPEN false; let s : State := s.setB Fld.GUARD_STAT_DIRTY false; let s : State := s.setB Fld.GUARD_CFG_ANTIV false; let s : State := s.setB Fld.GUARD_STAT_ON false; s), by decide +kernel⟩,
   ⟨(let s := wS .scan; let s : State := s.setB Fld.GUARD_CFG_CHECK true; let s : State := s.setB Fld.GUARD_STAT_EDM false; let s : State := { s with rst := { s.rst with sections := 0xFFF } }; let s : State := s.rset Reg.GUARD_FAULT 0; let s : State := s.rset Reg.PWR_FAULT 0; let s : State := { s with guard := { s.guard with cg := [], enA := true, enB := true } }; let s : State := s.setB Fld.SCAN_STAT_INHIBIT false; let s : State := s.setF Fld.GUARD_STAT_CLEAR 2; let s : State := s.setB Fld.GUARD_STAT_RST_WAIT false; let s : State := s.setB Fld.GUARD_STAT_CHANGE_OPEN false; let s : State := s.setB Fld.GUARD_STAT_DIRTY false; let s : State := s.setB Fld.GUARD_CFG_ANTIV false; let s : State := s.setB Fld.GUARD_STAT_ON false; s), by decide +kernel⟩,
   ⟨wS .scan, by decide +kernel⟩,
   ⟨(let s := wS .scan; let s : State := s.setB Fld.GUARD_CFG_CHECK false; let s : State := { s with guard := { s.guard with pulse := none } }; let s : State := { s with ms := 100000 }; let s : State := s.setB Fld.GUARD_STAT_ON true; s), by decide +kernel⟩,
   ⟨wS .scan, by decide +kernel⟩,
   ⟨(let s := wS .scan; let s : State := { s with guard := { s.guard with pulse := some 0 } }; s), by decide +kernel⟩,
   ⟨true, (let s := wS .scan; let s : State := { s with guard := { s.guard with pulse := some 0 } }; let s : State := s.setB Fld.GUARD_FAULT_SOUT_FAULT false; let s : State := s.setB Fld.GUARD_STAT_ON true; s), by decide +kernel⟩,
   ⟨true, true, true, true, wS .scan, by decide +kernel⟩,
   ⟨true, true, true, (let s := wS .scan; let s : State := { s with guard := { s.guard with pulse := none } }; let s : State := s.setB Fld.GUARD_FAULT_SOUT_FAULT false; let s : State := { s with guard := { s.guard with outA := { s.guard.outA with last := some false, n := 5 + 1 } } }; let s : State := s.setB Fld.GUARD_STAT_ON true; s), by decide +kernel⟩,
   ⟨(let s := wS .scan; let s : State := s.setB Fld.GUARD_CFG_CHECK true; let s : State := s.setB Fld.GUARD_FAULT_SOUT_FAULT false; let s : State := { s with guard := { s.guard with edmWait := some true } }; let s : State := { s with ms := 100000 }; s), by decide +kernel⟩,
   ⟨wS .scan, by decide +kernel⟩,
   ⟨true, (let s := wS .scan; let s : State := { s with guard := { s.guard with edmWait := some true } }; s), by decide +kernel⟩,
   ⟨(let s := wS .scan; let s : State := { s with guard := { s.guard with edmWait := none } }; let s : State := s.setB Fld.GUARD_CFG_CHECK true; let s : State := s.setB Fld.GUARD_STAT_EDM false; let s : State := s.setB Fld.GUARD_FAULT_SOUT_FAULT false; let s : State := s.setB Fld.GUARD_STAT_ON true; s), by decide +kernel⟩,
   ⟨(let s := wS .scan; let s : State := s.setB Fld.PWR_FAULT_SOUT_TRIP false; s), by decide +kernel⟩,
   ⟨wGuard (wGuard 0).guardCrc, rfl, by decide +kernel, by decide +kernel, wGuard_open _, by rw [wGuard_ref, wGuard_crc]⟩,
   ⟨wGuard (~~~(wGuard 0).guardCrc), rfl, by decide +kernel, by decide +kernel, wGuard_open _, by rw [wGuard_ref, wGuard_crc]; exact not_own _⟩,
   ⟨some 1, (let s := wS .scan; let s : State := s.setB Fld.GUARD_STAT_CHANGE_OPEN true; s), by decide +kernel⟩,
   ⟨true, true, wS .scan, by decide +kernel⟩,
   ⟨(let s := wS .scan; let s : State := s.setB Fld.GUARD_CFG_CHECK true; let s : State := s.setB Fld.GUARD_STAT_EDM true; let s : State := { s with rst := { s.rst with sections := 0xFFF } }; let s : State := s.rset Reg.GUARD_FAULT 0; let s : State := s.rset Reg.PWR_FAULT 0; let s : State := { s with guard := { s.guard with cg := [], enA := true, enB := true } }; let s : State := s.setB Fld.SCAN_STAT_INHIBIT false; let s : State := s.setF Fld.GUARD_STAT_CLEAR 2; let s : State := s.setB Fld.GUARD_STAT_RST_WAIT false; let s : State := s.setB Fld.GUARD_STAT_CHANGE_OPEN false; let s : State := s.setB Fld.GUARD_STAT_DIRTY false; let s : State := s.setB Fld.GUARD_CFG_ANTIV false; let s : State := s.setB Fld.GUARD_STAT_ON false; s), by decide +kernel⟩,
   ⟨1, true, true, (let s := wS .scan; let s : State := { s with guard := { s.guard with pulse := some 1 } }; s), by decide +kernel⟩,
   ⟨(let s := wS .scan; let s : State := s.setB Fld.GUARD_CFG_CHECK true; let s : State := { s with guard := { s.guard with edmWait := some true, edmMs := 0 } }; let s : State := { s with ms := 70000 }; s), by decide +kernel⟩,
   ⟨1, (let s := wS .scan; let s : State := s.setB Fld.GUARD_STAT_CHANGE_OPEN false; let s : State := { s with rst := { s.rst with sections := 0xFFF } }; s), by decide +kernel⟩,
   ⟨(let s := wS .scan; let s : State := s.setB Fld.GUARD_STAT_CHANGE_OPEN false; let s : State := { s with rst := { s.rst with sections := 0xFFF } }; s), by decide +kernel⟩⟩

theorem met_NvmWrites :
    (∃ (fail : Bool) (s : State), s.nvm.cur = none) ∧
    (∃ (w : NvmWrite) (s : State), s.nvm.cur = some w) ∧
    (∃ (ws : List Word) (s : State), s.nvm.cur = some (.event ws)) ∧
    (∃ (m : BitVec 64) (d : BitVec 8) (s : State), s.nvm.cur = some (.loss m d)) ∧
    (∃ (p : List Word) (s : State), s.nvm.cur = some (.option p)) ∧
    (∃ (v : Word) (s : State), s.nvm.cur = some (.mec v) ∧ s.nvm.mec ≠ 0xFFFFFFFF) ∧
    (∃ (ws : List Word) (s : State), s.nvm.cur = some (.change ws) ∧ s.nvm.work = [] ∧ s.nvm.queue = [] ∧ s.amp.busy = none) ∧
    (∃ (v : Nat) (s : State), s.nvm.cur = some (.seqBase v)) ∧
    (∃ (w : NvmWrite) (s : State), s.nvm.cur = some w) :=
  ⟨⟨true, (let s := wS .scan; let s : State := { s with nvm := { s.nvm with cur := none } }; s), by decide +kernel⟩,
   ⟨NvmWrite.mec 0x1, (let s := wS .scan; let s : State := { s with nvm := { s.nvm with cur := some (NvmWrite.mec 0x1) } }; s), by decide +kernel⟩,
   ⟨[0x1], (let s := wS .scan; let s : State := { s with nvm := { s.nvm with cur := some (.event [0x1]) } }; s), by decide +kernel⟩,
   ⟨0xec75cd23f1c, 0x5, (let s := wS .scan; let s : State := { s with nvm := { s.nvm with cur := some (.loss 0xec75cd23f1c 0x5) } }; s), by decide +kernel⟩,
   ⟨[0x1], (let s := wS .scan; let s : State := { s with nvm := { s.nvm with cur := some (.option [0x1]) } }; s), by decide +kernel⟩,
   ⟨0x1, (let s := wS .scan; let s : State := { s with nvm := { s.nvm with cur := some (.mec 0x1) } }; s), by decide +kernel⟩,
   ⟨[0x1], (let s := wS .scan; let s : State := { s with nvm := { s.nvm with cur := some (.change [0x1]) } }; let s : State := { s with nvm := { s.nvm with work := [] } }; let s : State := { s with nvm := { s.nvm with queue := [] } }; let s : State := { s with amp := { s.amp with busy := none } }; s), by decide +kernel⟩,
   ⟨1, (let s := wS .scan; let s : State := { s with nvm := { s.nvm with cur := some (.seqBase 1) } }; s), by decide +kernel⟩,
   ⟨NvmWrite.mec 0x1, (let s := wS .scan; let s : State := { s with nvm := { s.nvm with cur := some (NvmWrite.mec 0x1) } }; s), by decide +kernel⟩⟩

theorem met_FlashAndScrub :
    (∃ (s : State), (s.flAccepts = false ∨ s.b Fld.FL_STAT_BUSY = true)) ∧
    (∃ (s : State), s.flAccepts = true ∧ s.b Fld.FL_STAT_BUSY = false ∧ s.inRunSlot (s.f Fld.FL_ADDR_ADDR / 65536 * 65536) = true) ∧
    (∃ (s : State), s.flAccepts = true ∧ s.b Fld.FL_STAT_BUSY = false ∧ s.inRunSlot (s.f Fld.FL_ADDR_ADDR / 65536 * 65536) = false) ∧
    (∃ (s : State), s.flAccepts = true ∧ s.b Fld.FL_STAT_BUSY = false ∧ s.inRunSlot (s.f Fld.FL_ADDR_ADDR / 256 * 256) = false) ∧
    (∃ (left : Option (List Byte)) (s : State), s.flOp = none) ∧
    (∃ (o : FlashOp) (s : State), s.flOp = some o ∧ o.cmd = 1) ∧
    (∃ (o : FlashOp) (l : List Byte) (s : State), s.flOp = some o) ∧
    (∃ (key : Word) (s : State), key ≠ 0x4F505457) ∧
    (∃ (s : State), s.flAccepts = true ∧ s.b Fld.THERM_STAT_NVM_OK = false) ∧
    (∃ (c : Nat) (a : Nat) (s : State), c < 2 ∧ s.dev = .scan) ∧
    (∃ (o : FlashOp) (s : State), s.flOp = some o ∧ o.cmd = 3) ∧
    (∃ (o : FlashOp) (left : Option (List Byte)) (s : State), s.flOp = some o) ∧
    (∃ (page : List Word) (s : State), s.flAccepts = true ∧ page = (List.range 18).map (fun i => s.rget (Reg.OPT_STAGE i)) ∧ optBytesOk page = true ∧ fuseOk page = true ∧ s.b Fld.THERM_STAT_NVM_OK = true) ∧
    (∃ (a : Nat) (s : State), (s.dev = .idle ∨ s.dev = .scan ∨ s.dev = .safe ∨ s.dev = .service)) ∧
    (∃ (c : Nat) (a : Nat) (s : State), c < 2 ∧ (s.dev = .idle ∨ s.dev = .scan ∨ s.dev = .safe ∨ s.dev = .service)) :=
  ⟨⟨(let s := wS .scan; let s : State := s.setB Fld.FL_STAT_BUSY true; s), by decide +kernel⟩,
   ⟨(let s := wS .scan; let s : State := s.setB Fld.FL_STAT_BUSY false; let s : State := s.setF Fld.LDR_STATUS_ACTIVE 1; s), by decide +kernel⟩,
   ⟨(let s := wS .scan; let s : State := s.setB Fld.FL_STAT_BUSY false; s), by decide +kernel⟩,
   ⟨(let s := wS .scan; let s : State := s.setB Fld.FL_STAT_BUSY false; s), by decide +kernel⟩,
   ⟨some [0x1], (let s := wS .scan; let s : State := { s with flOp := none }; s), by decide +kernel⟩,
   ⟨({ cmd := 1, addr := 65536, data := [1] } : FlashOp), (let s := wS .scan; let s : State := { s with flOp := some ({ cmd := 1, addr := 65536, data := [1] } : FlashOp) }; s), by decide +kernel⟩,
   ⟨({ cmd := 2, addr := 65536, data := [0x1] } : FlashOp), [0x1], (let s := wS .scan; let s : State := { s with flOp := some ({ cmd := 2, addr := 65536, data := [0x1] } : FlashOp) }; s), by decide +kernel⟩,
   ⟨0x1, wS .scan, by decide +kernel⟩,
   ⟨(let s := wS .scan; let s : State := s.setB Fld.THERM_STAT_NVM_OK false; s), by decide +kernel⟩,
   ⟨1, 1, wS .scan, by decide +kernel⟩,
   ⟨({ cmd := 3, addr := 65536, data := [1] } : FlashOp), (let s := wS .scan; let s : State := { s with flOp := some ({ cmd := 3, addr := 65536, data := [1] } : FlashOp) }; s), by decide +kernel⟩,
   ⟨({ cmd := 2, addr := 65536, data := [0x1] } : FlashOp), some [0x1], (let s := wS .scan; let s : State := { s with flOp := some ({ cmd := 2, addr := 65536, data := [0x1] } : FlashOp) }; s), by decide +kernel⟩,
   ⟨goodPage0, (let s := wS .scan; let s : State := s.setB Fld.THERM_STAT_NVM_OK true; let s : State := (List.range 18).foldl (fun s i => s.rset (Reg.OPT_STAGE i) (goodPage0.getD i 0)) s; let s : State := s.setB Fld.THERM_STAT_NVM_OK true; s), by decide +kernel⟩,
   ⟨1, wS .idle, by decide +kernel⟩,
   ⟨1, 1, wS .idle, by decide +kernel⟩⟩

theorem met_CaskCommands :
    (∃ (s : State), (s.lrsBlocked = true ∨ s.cask.sub.isSome = true)) ∧
    (∃ (s : State), s.lrsBlocked = false ∧ s.cask.sub = none ∧ s.f Fld.CASK_LRSHDR_KIND < 0x100) ∧
    (∃ (s : State), s.lrsBlocked = false ∧ s.cask.sub = none ∧ 0x100 ≤ s.f Fld.CASK_LRSHDR_KIND) ∧
    (∃ (s : State), s.nvm.cmacKey = none) ∧
    (∃ (key : List Byte) (r : LrsRec) (s : State), s.nvm.cmacKey = some key ∧ s.dev ≠ .park ∧ s.lrsOff = false ∧ s.lrsRoom = true ∧ s.seqBasePending = false ∧ s.applying = false ∧ s.rst.sections.testBit 9 = true ∧ s.cask.own = [r] ∧ s.cask.seq % 65536 < 65535) ∧
    (∃ (key : List Byte) (r : LrsRec) (s : State), s.nvm.cmacKey = some key ∧ s.dev ≠ .park ∧ s.lrsOff = false ∧ s.lrsRoom = true ∧ s.seqBasePending = false ∧ s.applying = false ∧ s.rst.sections.testBit 9 = true ∧ s.cask.own = [] ∧ s.cask.sub = some r ∧ s.cask.seq % 65536 < 65535) ∧
    (∃ (s : State), s.dev ≠ .service) ∧
    (∃ (s : State), s.dev = .service ∧ s.b Fld.CASK_CALCFG_BUSY = false ∧ s.nvm.mec ≠ 0xFFFFFFFF ∧ s.nvm.work = []) ∧
    (∃ (s : State), s.dev = .park) ∧
    (∃ (key : List Byte) (r : LrsRec) (l : List LrsRec) (s : State), s.nvm.cmacKey = some key ∧ s.dev ≠ .park ∧ s.lrsOff = false ∧ s.lrsRoom = true ∧ s.seqBasePending = false ∧ s.applying = false ∧ s.rst.sections.testBit 9 = true ∧ s.cask.own ++ s.cask.sub.toList = r :: l) :=
  ⟨⟨wS .scan, by decide +kernel⟩,
   ⟨(let s := wS .scan; let s : State := { s with cask := { s.cask with sub := none } }; let s : State := { s with nvm := { s.nvm with cmacKey := some [] } }; let s : State := s.setB Fld.CASK_STAT_SEQ_END false; let s : State := s.setB Fld.CASK_STAT_DETCHG false; s), by decide +kernel⟩,
   ⟨(let s := wS .scan; let s : State := { s with cask := { s.cask with sub := none } }; let s : State := { s with nvm := { s.nvm with cmacKey := some [] } }; let s : State := s.setB Fld.CASK_STAT_SEQ_END false; let s : State := s.setB Fld.CASK_STAT_DETCHG false; let s : State := s.setF Fld.CASK_LRSHDR_KIND (0x100 + 1); s), by decide +kernel⟩,
   ⟨(let s := wS .scan; let s : State := { s with nvm := { s.nvm with cmacKey := none } }; s), by decide +kernel⟩,
   ⟨[0x1], ({ kind := 1, ts := some 0x1, data := [0x1] } : LrsRec), (let s := wS .scan; let s : State := { s with nvm := { s.nvm with cmacKey := some [0x1] } }; let s : State := { s with cask := { s.cask with own := [({ kind := 1, ts := some 0x1, data := [0x1] } : LrsRec)] } }; let s : State := { s with rst := { s.rst with sections := 0xFFF } }; s), by decide +kernel⟩,
   ⟨[0x1], ({ kind := 1, ts := some 0x1, data := [0x1] } : LrsRec), (let s := wS .scan; let s : State := { s with nvm := { s.nvm with cmacKey := some [0x1] } }; let s : State := { s with cask := { s.cask with own := [] } }; let s : State := { s with cask := { s.cask with sub := some ({ kind := 1, ts := some 0x1, data := [0x1] } : LrsRec) } }; let s : State := { s with rst := { s.rst with sections := 0xFFF } }; s), by decide +kernel⟩,
   ⟨wS .scan, by decide +kernel⟩,
   ⟨(let s := wS .service; let s : State := s.setB Fld.CASK_CALCFG_BUSY false; let s : State := { s with nvm := { s.nvm with work := [] } }; s), by decide +kernel⟩,
   ⟨wS .park, by decide +kernel⟩,
   ⟨[], ({ kind := 1, ts := some 0x1, data := [0x1] } : LrsRec), [], (let s := wS .scan; let s : State := { s with nvm := { s.nvm with cmacKey := some [] } }; let s : State := { s with cask := { s.cask with own := [({ kind := 1, ts := some 0x1, data := [0x1] } : LrsRec)], sub := none } }; let s : State := { s with nvm := { s.nvm with cmacKey := some [] } }; let s : State := s.setB Fld.CASK_STAT_SEQ_END false; let s : State := { s with rst := { s.rst with sections := 0xFFF } }; let s : State := { s with wort := { s.wort with lrsDwl := [], lrsEth := [] } }; s), by decide +kernel⟩⟩

theorem met_GeneratorBlocked :
    (∃ (s : State), (s.dev = .boot ∨ s.dev = .service ∨ s.keySet = false ∨ s.b Fld.CASK_STAT_SEQ_END = true)) ∧
    (∃ (s : State), s.rst.sections.testBit 9 = false) :=
  ⟨⟨wS .boot, by decide +kernel⟩,
   ⟨wS .scan, by decide +kernel⟩⟩

theorem met_AmpArrival :
    (∃ (p : Nat) (par : Bool) (s : State), p < 2 ∧ (s.eth p).q1 = []) ∧
    (∃ (p : Nat) (par : Bool) (slot : List Byte) (q : List (List Byte)) (s : State), p < 2 ∧ s.dev ≠ .park ∧ s.pins.parkTest = false ∧ (s.eth p).q1 = slot :: q) ∧
    (∃ (lane : Nat) (ws : List Word) (ok : Bool) (s : State), s.dwlUp = false) ∧
    (∃ (lane : Nat) (ws : List Word) (s : State), s.dwlUp = true ∧ s.dwlLanes.contains lane = true ∧ s.dwlAligned lane = true ∧ s.dev ≠ .boot) ∧
    (∃ (m : List Byte) (crc : Word) (s : State), s.mspiOn = true ∧ crc ≠ crc32 m) ∧
    (∃ (m : List Byte) (s : State), s.mspiOn = true ∧ m.length = 12 + le16 m 4 ∧ ampNone m = false ∧ ampBad m = false ∧ s.amp.queue = [] ∧ s.amp.busy = none ∧ s.amp.wins = [] ∧ s.dev ≠ .park ∧ s.pins.parkTest = false ∧ s.ampStray { src := .mspi, port := 0, sport := 0, bad := false, msg := m } = none) ∧
    (∃ (s : State), s.mspiOn = true) ∧
    (∃ (s : State), s.amp.sess = none) ∧
    (∃ (x : AmpSess) (s : State), s.amp.sess = some x ∧ x.last + 60000 ≤ s.ms ∧ s.amp.busy = none ∧ s.b Fld.GUARD_STAT_CHANGE_OPEN = false) ∧
    (∃ (s : State), s.amp.locked = true ∧ s.amp.lockMs + 300000 ≤ s.ms) ∧
    (∃ (x : AmpSess) (s : State), s.amp.sess = some x ∧ s.ms < x.last + 60000) ∧
    (∃ (s : State), (s.amp.locked = false ∨ s.ms < s.amp.lockMs + 300000)) ∧
    (∃ (lane : Nat) (ws : List Word) (ok : Bool) (s : State), (s.dwlLanes.contains lane = false ∨ s.dwlAligned lane = false)) ∧
    (∃ (p : Nat) (slot : List Byte) (q : List (List Byte)) (s : State), p < 2 ∧ s.dev ≠ .park ∧ s.pins.parkTest = false ∧ (s.eth p).q1 = slot :: q) ∧
    (∃ (lane : Nat) (ws : List Word) (s : State), s.dwlUp = true ∧ s.dwlLanes.contains lane = true ∧ s.dwlAligned lane = true ∧ s.dev ≠ .boot ∧ s.dev ≠ .park ∧ s.pins.parkTest = false ∧ s.b Fld.AMP_CFG_DWL = true ∧ ampNone (sideMsg (ws.flatMap wordBytes)) = false ∧ ampBad (sideMsg (ws.flatMap wordBytes)) = false ∧ s.amp.queue = [] ∧ s.amp.busy = none ∧ s.amp.wins = [] ∧ s.ampStray { src := .dwl, port := lane, sport := 0, bad := false, msg := sideMsg (ws.flatMap wordBytes) } = none) ∧
    (∃ (m : List Byte) (s : State), s.mspiOn = true ∧ s.rxFree = true ∧ m.length = 12 + le16 m 4 ∧ ampNone m = false ∧ ampBad m = false ∧ s.amp.queue.length < 32 ∧ (∀ q ∈ s.amp.queue, s.ampStray q = none) ∧ s.ampStray { src := .mspi, port := 0, sport := 0, bad := false, msg := m } = none ∧ (∀ w ∈ s.amp.wins, w.src = .mspi → w.count < 256)) ∧
    (∃ (lane : Nat) (ws : List Word) (s : State), s.dwlUp = true ∧ s.dwlLanes.contains lane = true ∧ s.dwlAligned lane = true ∧ s.dev ≠ .boot ∧ s.b Fld.AMP_CFG_DWL = true ∧ ampNone (sideMsg (ws.flatMap wordBytes)) = false ∧ ampBad (sideMsg (ws.flatMap wordBytes)) = false ∧ s.amp.queue.length < 32 ∧ (∀ q ∈ s.amp.queue, s.ampStray q = none) ∧ ((∀ q ∈ s.amp.queue ++ s.amp.busy.toList, q.src = .dwl → sameTag q.msg (sideMsg (ws.flatMap wordBytes)) = false)) ∧ (∀ w ∈ s.amp.wins, w.src = .dwl → w.count < 256) ∧ s.ampStray { src := .dwl, port := lane, sport := 0, bad := false, msg := sideMsg (ws.flatMap wordBytes) } = none) ∧
    (∃ (x : AmpSess) (s : State), s.amp.sess = some x ∧ x.last + 60000 ≤ s.ms ∧ s.amp.busy = none) :=
  ⟨⟨1, true, (let s := wS .scan; let s : State := s.setEth 1 { s.eth 1 with q1 := [] }; s), by decide +kernel⟩,
   ⟨1, true, [0x1], [], (let s := wS .scan; let s : State := { s with pins := { s.pins with parkTest := false } }; let s : State := s.setEth 1 { s.eth 1 with q1 := [0x1] :: [] }; s), by decide +kernel⟩,
   ⟨1, [0x1], true, wS .scan, by decide +kernel⟩,
   ⟨1, [0x1], (let s := wS .scan; let s : State := s.setF Fld.DWL_CTRL_MODE 2; let s : State := s.setB Fld.DWL_STAT_AL0 true; let s : State := s.setB Fld.DWL_STAT_AL1 true; let s : State := s.setB Fld.DWL_STAT_UP true; let s : State := s.setB Fld.DWL_STAT_UP true; s), by decide +kernel⟩,
   ⟨[0x1], 0x1, (let s := wS .scan; let s : State := s.setB Fld.TOP_STRAP_MSPI_EN true; let s : State := s.setB Fld.CLK_STATUS_PLLB_LOCK true; let s : State := s.setB Fld.TOP_STRAP_MSPI_EN true; let s : State := s.setB Fld.CLK_STATUS_PLLB_LOCK true; s), by decide +kernel⟩,
   ⟨[1, 0x10, 1, 1, 0, 0, 0, 0, 1, 0, 0, 0], (let s := wS .scan; let s : State := { s with amp := { s.amp with queue := [] } }; let s : State := { s with amp := { s.amp with busy := none } }; let s : State := { s with amp := { s.amp with wins := [] } }; let s : State := { s with pins := { s.pins with parkTest := false } }; let s : State := s.setB Fld.TOP_STRAP_MSPI_EN true; let s : State := s.setB Fld.CLK_STATUS_PLLB_LOCK true; let s : State := { s with amp := { s.amp with queue := [], busy := none, wins := [] } }; let s : State := { s with pins := { s.pins with parkTest := false } }; let s : State := s.setB Fld.AMP_CFG_DWL true; let s : State := s.setB Fld.TOP_STRAP_MSPI_EN true; let s : State := s.setB Fld.CLK_STATUS_PLLB_LOCK true; s), by decide +kernel⟩,
   ⟨(let s := wS .scan; let s : State := s.setB Fld.TOP_STRAP_MSPI_EN true; let s : State := s.setB Fld.CLK_STATUS_PLLB_LOCK true; let s : State := s.setB Fld.TOP_STRAP_MSPI_EN true; let s : State := s.setB Fld.CLK_STATUS_PLLB_LOCK true; s), by decide +kernel⟩,
   ⟨(let s := wS .scan; let s : State := { s with amp := { s.amp with sess := none } }; s), by decide +kernel⟩,
   ⟨(⟨1, .mspi, 1, 1⟩ : AmpSess), (let s := wS .scan; let s : State := { s with amp := { s.amp with sess := some (⟨1, .mspi, 1, 1⟩ : AmpSess) } }; let s : State := { s with amp := { s.amp with busy := none } }; let s : State := s.setB Fld.GUARD_STAT_CHANGE_OPEN false; let s : State := { s with ms := 100000 }; s), by decide +kernel⟩,
   ⟨(let s := wS .scan; let s : State := { s with amp := { s.amp with locked := true } }; let s : State := { s with ms := 400000, amp := { s.amp with locked := true, lockMs := 1 } }; s), by decide +kernel⟩,
   ⟨({ id := 0x2, src := .dwl, uid := 1, last := 1 } : AmpSess), (let s := wS .scan; let s : State := { s with amp := { s.amp with sess := some ({ id := 0x2, src := .dwl, uid := 1, last := 1 } : AmpSess) } }; s), by decide +kernel⟩,
   ⟨wS .scan, by decide +kernel⟩,
   ⟨1, [0x1], true, wS .scan, by decide +kernel⟩,
   ⟨1, [0x1], [], (let s := wS .scan; let s : State := { s with pins := { s.pins with parkTest := false } }; let s : State := s.setEth 1 { s.eth 1 with q1 := [0x1] :: [] }; s), by decide +kernel⟩,
   ⟨1, [0x11001, 0x0, 0x2], (let s := wS .scan; let s : State := { s with pins := { s.pins with parkTest := false } }; let s : State := s.setB Fld.AMP_CFG_DWL true; let s : State := { s with amp := { s.amp with queue := [] } }; let s : State := { s with amp := { s.amp with busy := none } }; let s : State := { s with amp := { s.amp with wins := [] } }; let s : State := s.setF Fld.DWL_CTRL_MODE 2; let s : State := s.setB Fld.DWL_STAT_AL0 true; let s : State := s.setB Fld.DWL_STAT_AL1 true; let s : State := s.setB Fld.DWL_STAT_UP true; let s : State := { s with amp := { s.amp with queue := [], busy := none, wins := [] } }; let s : State := { s with pins := { s.pins with parkTest := false } }; let s : State := s.setB Fld.AMP_CFG_DWL true; s), by decide +kernel⟩,
   ⟨[0x1, 0x10, 0x1, 0x1, 0x0, 0x0, 0x0, 0x0, 0x1, 0x0, 0x0, 0x0], (let s := wS .scan; let s : State := s.setB Fld.TOP_STRAP_MSPI_EN true; let s : State := s.setB Fld.CLK_STATUS_PLLB_LOCK true; let s : State := { s with amp := { s.amp with queue := [], busy := none, wins := [] } }; let s : State := { s with pins := { s.pins with parkTest := false } }; let s : State := s.setB Fld.AMP_CFG_DWL true; s), by decide +kernel⟩,
   ⟨1, [0x11001, 0x0, 0x2], (let s := wS .scan; let s : State := s.setB Fld.AMP_CFG_DWL true; let s : State := s.setF Fld.DWL_CTRL_MODE 2; let s : State := s.setB Fld.DWL_STAT_AL0 true; let s : State := s.setB Fld.DWL_STAT_AL1 true; let s : State := s.setB Fld.DWL_STAT_UP true; let s : State := { s with amp := { s.amp with queue := [], busy := none, wins := [] } }; let s : State := { s with pins := { s.pins with parkTest := false } }; let s : State := s.setB Fld.AMP_CFG_DWL true; s), by decide +kernel⟩,
   ⟨(⟨1, .mspi, 1, 1⟩ : AmpSess), (let s := wS .scan; let s : State := { s with amp := { s.amp with sess := some (⟨1, .mspi, 1, 1⟩ : AmpSess) } }; let s : State := { s with amp := { s.amp with busy := none } }; let s : State := { s with ms := 100000 }; s), by decide +kernel⟩⟩

theorem met_AmpCommands :
    (∃ (r : AmpReq) (s : State), s.ampTurn 1 r = true ∧ s.devIn [.idle, .scan, .safe, .service] = true ∧ (ampPay r.msg).length = 8 ∧ le32 (ampPay r.msg) 0 % 4 = 0 ∧ le16 (ampPay r.msg) 4 = 1 ∧ s.ampCanRead (le32 (ampPay r.msg) 0) = true) ∧
    (∃ (r : AmpReq) (s : State), s.ampTurn 1 r = true ∧ s.devIn [.idle, .scan, .safe, .service] = true ∧ (ampPay r.msg).length = 8 ∧ le32 (ampPay r.msg) 0 % 4 = 0 ∧ le16 (ampPay r.msg) 4 = 1 ∧ s.ampCanRead (le32 (ampPay r.msg) 0) = false) ∧
    (∃ (r : AmpReq) (a : Nat) (m : Word) (v : Word) (s : State), s.ampTurn 2 r = true ∧ s.devIn [.idle, .scan, .safe, .service] = true ∧ le16 (ampPay r.msg) 0 = 1 ∧ (ampPay r.msg).length = 16 ∧ setTriples (ampPay r.msg) 1 = [(a, m, v)] ∧ a % 4 = 0 ∧ s.ampCond a m = false ∧ s.ampCanWrite a m = true) ∧
    (∃ (r : AmpReq) (s : State), s.ampTurn 3 r = true ∧ s.devIn [.idle, .scan, .safe, .service] = true ∧ (ampPay r.msg).length = 4 ∧ at8 (ampPay r.msg) 0 = 0 ∧ s.nvm.log = [] ∧ le16 (ampPay r.msg) 2 = 0) ∧
    (∃ (r : AmpReq) (s : State), s.ampTurn 0x30 r = true ∧ ampPay r.msg = []) ∧
    (∃ (r : AmpReq) (s : State), s.ampTurn 0x10 r = true ∧ s.dev = .idle ∧ ampPay r.msg = []) ∧
    (∃ (r : AmpReq) (s : State), s.ampTurn 0x10 r = true ∧ s.dev = .safe) ∧
    (∃ (r : AmpReq) (s : State), s.ampTurn 0x11 r = true ∧ s.dev = .idle ∧ (ampPay r.msg).length = 4 ∧ at8 (ampPay r.msg) 0 = 1 ∧ s.pins.sealedLow = false) ∧
    (∃ (r : AmpReq) (s : State), s.ampTurn 0x11 r = true ∧ s.dev = .idle ∧ (ampPay r.msg).length = 4 ∧ at8 (ampPay r.msg) 0 = 1 ∧ s.pins.sealedLow = true) ∧
    (∃ (r : AmpReq) (s : State), s.ampTurn 0x11 r = true ∧ s.dev = .scan ∧ (ampPay r.msg).length = 4 ∧ at8 (ampPay r.msg) 0 = 0) ∧
    (∃ (r : AmpReq) (s : State), s.ampTurn 0x12 r = true ∧ s.dev = .scan ∧ ampPay r.msg = []) ∧
    (∃ (r : AmpReq) (s : State), s.ampTurn 0x13 r = true ∧ s.devIn [.idle, .scan, .safe, .service] = true ∧ (ampPay r.msg).length = 4 ∧ at8 (ampPay r.msg) 0 ≤ 3) ∧
    (∃ (s : State), s.rst.ampReset = none) ∧
    (∃ (x : Nat × Option L2Target) (s : State), s.rst.ampReset = some x ∧ s.resetReplyGone = true) ∧
    (∃ (r : AmpReq) (errs : List Nat) (s : State), s.ampTurn 1 r = true ∧ s.devIn [.idle, .scan, .safe, .service] = true ∧ (ampPay r.msg).length = 8 ∧ le32 (ampPay r.msg) 0 % 4 = 0 ∧ le16 (ampPay r.msg) 4 = 1 ∧ s.ampCanRead (le32 (ampPay r.msg) 0) = true ∧ blockAt (le32 (ampPay r.msg) 0) = false ∧ errAt (errs.headD 0) 0 = 2) ∧
    (∃ (r : AmpReq) (n : Nat) (s : State), s.ampTurn 2 r = true ∧ s.devIn [.idle, .scan, .safe, .service] = true ∧ le16 (ampPay r.msg) 0 = n ∧ 1 ≤ n ∧ n ≤ 84 ∧ (ampPay r.msg).length = 4 + 12 * n ∧ ((∀ x ∈ setTriples (ampPay r.msg) n, x.1 % 4 = 0 ∧ s.ampCond x.1 x.2.1 = false ∧ s.ampCanWrite x.1 x.2.1 = true))) ∧
    (∃ (r : AmpReq) (n : Nat) (s : State), s.ampTurn 1 r = true ∧ (s.devIn [.idle, .scan, .safe, .service] = true ∨ (s.dev = .boot ∧ r.src = .mspi ∧ le32 (ampPay r.msg) 0 + 4 * n ≤ 0x20000)) ∧ (ampPay r.msg).length = 8 ∧ le32 (ampPay r.msg) 0 % 4 = 0 ∧ le16 (ampPay r.msg) 4 = n ∧ 1 ≤ n ∧ n ≤ 252 ∧ le32 (ampPay r.msg) 0 + 4 * n ≤ 2 ^ 32 ∧ ((∀ i, i < n → s.ampCanRead (le32 (ampPay r.msg) 0 + 4 * i) = true))) ∧
    (∃ (r : AmpReq) (s : State), s.ampTurn 3 r = true ∧ s.devIn [.idle, .scan, .safe, .service] = true ∧ (ampPay r.msg).length = 4 ∧ at8 (ampPay r.msg) 0 ≤ 1) ∧
    (∃ (r : AmpReq) (s : State), s.ampTurn 0x10 r = true ∧ s.dev = .scan ∧ ampPay r.msg = []) ∧
    (∃ (r : AmpReq) (s : State), s.ampTurn 0x11 r = true ∧ s.dev = .service ∧ (ampPay r.msg).length = 4 ∧ at8 (ampPay r.msg) 0 ≤ 1) ∧
    (∃ (r : AmpReq) (s : State), s.ampTurn 0x12 r = true ∧ s.dev = .idle ∧ ampPay r.msg = []) :=
  ⟨⟨({ src := .dwl, port := 1, sport := 1, bad := false, msg := [0x1, 0x1, 0x1, 0x1, 0x8, 0x0, 0x0, 0x0, 0x1, 0x0, 0x0, 0x0, 0x8, 0x0, 0x11, 0x0, 0x1, 0x0, 0x0, 0x0] } : AmpReq), (let s := wS .scan; let s : State := { s with amp := { s.amp with queue := [({ src := .dwl, port := 1, sport := 1, bad := false, msg := [0x1, 0x1, 0x1, 0x1, 0x8, 0x0, 0x0, 0x0, 0x1, 0x0, 0x0, 0x0, 0x8, 0x0, 0x11, 0x0, 0x1, 0x0, 0x0, 0x0] } : AmpReq)] } }; let s : State := { s with amp := { s.amp with busy := none } }; let s : State := { s with pins := { s.pins with parkTest := false } }; let s : State := s.setB Fld.CLK_STATUS_PLLB_LOCK true; let s : State := s.rset Reg.BUS_FROZEN 0; let s : State := s.rset (Reg.BUS_WIN_LO 6 0) 1 ; let s : State := s.rset (Reg.BUS_WIN_LO 6 0) 3; let s : State := s.rset (Reg.BUS_WIN_HI 6 0) 0xFFFFF000; let s : State := { s with rst := { s.rst with nvmAvail := true } }; s), by decide +kernel⟩,
   ⟨({ src := .dwl, port := 1, sport := 1, bad := false, msg := [0x1, 0x1, 0x1, 0x1, 0x8, 0x0, 0x0, 0x0, 0x1, 0x0, 0x0, 0x0, 0x8, 0x0, 0x11, 0x0, 0x1, 0x0, 0x0, 0x0] } : AmpReq), (let s := wS .scan; let s : State := { s with amp := { s.amp with queue := [({ src := .dwl, port := 1, sport := 1, bad := false, msg := [0x1, 0x1, 0x1, 0x1, 0x8, 0x0, 0x0, 0x0, 0x1, 0x0, 0x0, 0x0, 0x8, 0x0, 0x11, 0x0, 0x1, 0x0, 0x0, 0x0] } : AmpReq)] } }; let s : State := { s with amp := { s.amp with busy := none } }; let s : State := { s with pins := { s.pins with parkTest := false } }; let s : State := s.setB Fld.CLK_STATUS_PLLB_LOCK true; let s : State := s.rset Reg.BUS_FROZEN 0; s), by decide +kernel⟩,
   ⟨({ src := .dwl, port := 1, sport := 1, bad := false, msg := [0x1, 0x2, 0x1, 0x1, 0x10, 0x0, 0x0, 0x0, 0x1, 0x0, 0x0, 0x0, 0x1, 0x0, 0x0, 0x0, 0x8, 0x0, 0x11, 0x0, 0x1, 0x0, 0x0, 0x0, 0x1, 0x0, 0x0, 0x0] } : AmpReq), 1114120, 0x1, 0x1, (let s := wS .scan; let s : State := { s with amp := { s.amp with queue := [({ src := .dwl, port := 1, sport := 1, bad := false, msg := [0x1, 0x2, 0x1, 0x1, 0x10, 0x0, 0x0, 0x0, 0x1, 0x0, 0x0, 0x0, 0x1, 0x0, 0x0, 0x0, 0x8, 0x0, 0x11, 0x0, 0x1, 0x0, 0x0, 0x0, 0x1, 0x0, 0x0, 0x0] } : AmpReq)] } }; let s : State := { s with amp := { s.amp with busy := none } }; let s : State := { s with pins := { s.pins with parkTest := false } }; let s : State := s.setB Fld.CLK_STATUS_PLLB_LOCK true; let s : State := s.rset Reg.BUS_FROZEN 0; let s : State := s.rset (Reg.BUS_WIN_LO 6 0) 1 ; let s : State := s.rset (Reg.BUS_WIN_LO 6 0) 3; let s : State := s.rset (Reg.BUS_WIN_HI 6 0) 0xFFFFF000; let s : State := { s with rst := { s.rst with nvmAvail := true } }; s), by decide +kernel⟩,
   ⟨({ src := .dwl, port := 1, sport := 1, bad := false, msg := [0x1, 0x3, 0x1, 0x1, 0x4, 0x0, 0x0, 0x0, 0x1, 0x0, 0x0, 0x0, 0x0, 0x0, 0x0, 0x0] } : AmpReq), (let s := wS .scan; let s : State := { s with nvm := { s.nvm with log := [] } }; let s : State := { s with amp := { s.amp with queue := [({ src := .dwl, port := 1, sport := 1, bad := false, msg := [0x1, 0x3, 0x1, 0x1, 0x4, 0x0, 0x0, 0x0, 0x1, 0x0, 0x0, 0x0, 0x0, 0x0, 0x0, 0x0] } : AmpReq)] } }; let s : State := { s with amp := { s.amp with busy := none } }; let s : State := { s with pins := { s.pins with parkTest := false } }; let s : State := s.setB Fld.CLK_STATUS_PLLB_LOCK true; let s : State := s.rset Reg.BUS_FROZEN 0; let s : State := { s with nvm := { s.nvm with log := [] } }; s), by decide +kernel⟩,
   ⟨({ src := .dwl, port := 1, sport := 1, bad := false, msg := [0x1, 0x30, 0x1, 0x1, 0x0, 0x0, 0x0, 0x0, 0x1, 0x0, 0x0, 0x0] } : AmpReq), (let s := wS .scan; let s : State := { s with amp := { s.amp with queue := [({ src := .dwl, port := 1, sport := 1, bad := false, msg := [0x1, 0x30, 0x1, 0x1, 0x0, 0x0, 0x0, 0x0, 0x1, 0x0, 0x0, 0x0] } : AmpReq)] } }; let s : State := { s with amp := { s.amp with busy := none } }; let s : State := { s with pins := { s.pins with parkTest := false } }; let s : State := s.setB Fld.CLK_STATUS_PLLB_LOCK true; let s : State := s.rset Reg.BUS_FROZEN 0; s), by decide +kernel⟩,
   ⟨({ src := .dwl, port := 1, sport := 1, bad := false, msg := [0x1, 0x10, 0x1, 0x1, 0x0, 0x0, 0x0, 0x0, 0x1, 0x0, 0x0, 0x0] } : AmpReq), (let s := wS .idle; let s : State := { s with amp := { s.amp with queue := [({ src := .dwl, port := 1, sport := 1, bad := false, msg := [0x1, 0x10, 0x1, 0x1, 0x0, 0x0, 0x0, 0x0, 0x1, 0x0, 0x0, 0x0] } : AmpReq)] } }; let s : State := { s with amp := { s.amp with busy := none } }; let s : State := { s with pins := { s.pins with parkTest := false } }; let s : State := s.setB Fld.CLK_STATUS_PLLB_LOCK true; let s : State := s.rset Reg.BUS_FROZEN 0; s), by decide +kernel⟩,
   ⟨({ src := .dwl, port := 1, sport := 1, bad := false, msg := [0x1, 0x10, 0x1, 0x1, 0x0, 0x0, 0x0, 0x0, 0x1, 0x0, 0x0, 0x0] } : AmpReq), (let s := wS .safe; let s : State := { s with amp := { s.amp with queue := [({ src := .dwl, port := 1, sport := 1, bad := false, msg := [0x1, 0x10, 0x1, 0x1, 0x0, 0x0, 0x0, 0x0, 0x1, 0x0, 0x0, 0x0] } : AmpReq)] } }; let s : State := { s with amp := { s.amp with busy := none } }; let s : State := { s with pins := { s.pins with parkTest := false } }; let s : State := s.setB Fld.CLK_STATUS_PLLB_LOCK true; let s : State := s.rset Reg.BUS_FROZEN 0; s), by decide +kernel⟩,
   ⟨({ src := .dwl, port := 1, sport := 1, bad := false, msg := [0x1, 0x11, 0x1, 0x1, 0x4, 0x0, 0x0, 0x0, 0x1, 0x0, 0x0, 0x0, 0x1, 0x0, 0x0, 0x0] } : AmpReq), (let s := wS .idle; let s : State := { s with pins := { s.pins with sealedLow := false } }; let s : State := { s with amp := { s.amp with queue := [({ src := .dwl, port := 1, sport := 1, bad := false, msg := [0x1, 0x11, 0x1, 0x1, 0x4, 0x0, 0x0, 0x0, 0x1, 0x0, 0x0, 0x0, 0x1, 0x0, 0x0, 0x0] } : AmpReq)] } }; let s : State := { s with amp := { s.amp with busy := none } }; let s : State := { s with pins := { s.pins with parkTest := false } }; let s : State := s.setB Fld.CLK_STATUS_PLLB_LOCK true; let s : State := s.rset Reg.BUS_FROZEN 0; let s : State := { s with pins := { s.pins with sealedLow := false } }; s), by decide +kernel⟩,
   ⟨({ src := .dwl, port := 1, sport := 1, bad := false, msg := [0x1, 0x11, 0x1, 0x1, 0x4, 0x0, 0x0, 0x0, 0x1, 0x0, 0x0, 0x0, 0x1, 0x0, 0x0, 0x0] } : AmpReq), (let s := wS .idle; let s : State := { s with pins := { s.pins with sealedLow := true } }; let s : State := { s with amp := { s.amp with queue := [({ src := .dwl, port := 1, sport := 1, bad := false, msg := [0x1, 0x11, 0x1, 0x1, 0x4, 0x0, 0x0, 0x0, 0x1, 0x0, 0x0, 0x0, 0x1, 0x0, 0x0, 0x0] } : AmpReq)] } }; let s : State := { s with amp := { s.amp with busy := none } }; let s : State := { s with pins := { s.pins with parkTest := false } }; let s : State := s.setB Fld.CLK_STATUS_PLLB_LOCK true; let s : State := s.rset Reg.BUS_FROZEN 0; let s : State := { s with pins := { s.pins with sealedLow := true } }; s), by decide +kernel⟩,
   ⟨({ src := .dwl, port := 1, sport := 1, bad := false, msg := [0x1, 0x11, 0x1, 0x1, 0x4, 0x0, 0x0, 0x0, 0x1, 0x0, 0x0, 0x0, 0x0, 0x0, 0x0, 0x0] } : AmpReq), (let s := wS .scan; let s : State := { s with amp := { s.amp with queue := [({ src := .dwl, port := 1, sport := 1, bad := false, msg := [0x1, 0x11, 0x1, 0x1, 0x4, 0x0, 0x0, 0x0, 0x1, 0x0, 0x0, 0x0, 0x0, 0x0, 0x0, 0x0] } : AmpReq)] } }; let s : State := { s with amp := { s.amp with busy := none } }; let s : State := { s with pins := { s.pins with parkTest := false } }; let s : State := s.setB Fld.CLK_STATUS_PLLB_LOCK true; let s : State := s.rset Reg.BUS_FROZEN 0; s), by decide +kernel⟩,
   ⟨({ src := .dwl, port := 1, sport := 1, bad := false, msg := [0x1, 0x12, 0x1, 0x1, 0x0, 0x0, 0x0, 0x0, 0x1, 0x0, 0x0, 0x0] } : AmpReq), (let s := wS .scan; let s : State := { s with amp := { s.amp with queue := [({ src := .dwl, port := 1, sport := 1, bad := false, msg := [0x1, 0x12, 0x1, 0x1, 0x0, 0x0, 0x0, 0x0, 0x1, 0x0, 0x0, 0x0] } : AmpReq)] } }; let s : State := { s with amp := { s.amp with busy := none } }; let s : State := { s with pins := { s.pins with parkTest := false } }; let s : State := s.setB Fld.CLK_STATUS_PLLB_LOCK true; let s : State := s.rset Reg.BUS_FROZEN 0; s), by decide +kernel⟩,
   ⟨({ src := .dwl, port := 1, sport := 1, bad := false, msg := [0x1, 0x13, 0x1, 0x1, 0x4, 0x0, 0x0, 0x0, 0x1, 0x0, 0x0, 0x0, 0x1, 0x1, 0x0, 0x0] } : AmpReq), (let s := wS .scan; let s : State := { s with amp := { s.amp with queue := [({ src := .dwl, port := 1, sport := 1, bad := false, msg := [0x1, 0x13, 0x1, 0x1, 0x4, 0x0, 0x0, 0x0, 0x1, 0x0, 0x0, 0x0, 0x1, 0x1, 0x0, 0x0] } : AmpReq)] } }; let s : State := { s with amp := { s.amp with busy := none } }; let s : State := { s with pins := { s.pins with parkTest := false } }; let s : State := s.setB Fld.CLK_STATUS_PLLB_LOCK true; let s : State := s.rset Reg.BUS_FROZEN 0; s), by decide +kernel⟩,
   ⟨(let s := wS .scan; let s : State := { s with rst := { s.rst with ampReset := none } }; s), by decide +kernel⟩,
   ⟨((2, none) : Nat × Option L2Target), (let s := wS .scan; let s : State := { s with rst := { s.rst with ampReset := some ((2, none) : Nat × Option L2Target) } }; let s : State := { s with amp := { s.amp with reply := none } }; let s : State := { s with dwl := { s.dwl with side := [], prog := [] } }; s), by decide +kernel⟩,
   ⟨({ src := .dwl, port := 1, sport := 1, bad := false, msg := [0x1, 0x1, 0x1, 0x1, 0x8, 0x0, 0x0, 0x0, 0x1, 0x0, 0x0, 0x0, 0x4, 0x0, 0xc, 0x8, 0x1, 0x0, 0x0, 0x0] } : AmpReq), [2], (let s := wS .scan; let s : State := { s with amp := { s.amp with queue := [({ src := .dwl, port := 1, sport := 1, bad := false, msg := [0x1, 0x1, 0x1, 0x1, 0x8, 0x0, 0x0, 0x0, 0x1, 0x0, 0x0, 0x0, 0x4, 0x0, 0xc, 0x8, 0x1, 0x0, 0x0, 0x0] } : AmpReq)] } }; let s : State := { s with amp := { s.amp with busy := none } }; let s : State := { s with pins := { s.pins with parkTest := false } }; let s : State := s.setB Fld.CLK_STATUS_PLLB_LOCK true; let s : State := s.rset Reg.BUS_FROZEN 0; let s : State := s.rset (Reg.BUS_WIN_LO 6 0) 1 ; let s : State := s.rset (Reg.BUS_WIN_LO 6 0) 3; let s : State := s.rset (Reg.BUS_WIN_HI 6 0) 0xFFFFF000; let s : State := { s with rst := { s.rst with nvmAvail := true } }; s), by decide +kernel⟩,
   ⟨({ src := .mspi, port := 0, sport := 0, bad := false, msg := [1, 2, 1, 0, 28, 0, 0, 0, 0, 0, 0, 0, 2, 0, 0, 0] ++ [4, 0, 0x0C, 8, 0xFF, 0, 0, 0, 7, 0, 0, 0] ++ [8, 0, 0x0C, 8, 0xFF, 0, 0, 0, 9, 0, 0, 0] } : AmpReq), 2, (let s := wS .scan; let s : State := { s with amp := { s.amp with queue := [({ src := .mspi, port := 0, sport := 0, bad := false, msg := [1, 2, 1, 0, 28, 0, 0, 0, 0, 0, 0, 0, 2, 0, 0, 0] ++ [4, 0, 0x0C, 8, 0xFF, 0, 0, 0, 7, 0, 0, 0] ++ [8, 0, 0x0C, 8, 0xFF, 0, 0, 0, 9, 0, 0, 0] } : AmpReq)] } }; let s : State := { s with amp := { s.amp with busy := none } }; let s : State := { s with pins := { s.pins with parkTest := false } }; let s : State := s.setB Fld.CLK_STATUS_PLLB_LOCK true; let s : State := s.rset Reg.BUS_FROZEN 0; let s : State := s.rset (Reg.BUS_WIN_LO 6 0) 1 ; let s : State := s.rset (Reg.BUS_WIN_LO 6 0) 3; let s : State := s.rset (Reg.BUS_WIN_HI 6 0) 0xFFFFF000; let s : State := { s with rst := { s.rst with nvmAvail := true } }; s), by decide +kernel⟩,
   ⟨({ src := .dwl, port := 1, sport := 1, bad := false, msg := [0x1, 0x1, 0x1, 0x1, 0x8, 0x0, 0x0, 0x0, 0x1, 0x0, 0x0, 0x0, 0x8, 0x0, 0x11, 0x0, 0x2, 0x0, 0x0, 0x0] } : AmpReq), 2, (let s := wS .scan; let s : State := { s with amp := { s.amp with queue := [({ src := .dwl, port := 1, sport := 1, bad := false, msg := [0x1, 0x1, 0x1, 0x1, 0x8, 0x0, 0x0, 0x0, 0x1, 0x0, 0x0, 0x0, 0x8, 0x0, 0x11, 0x0, 0x2, 0x0, 0x0, 0x0] } : AmpReq)] } }; let s : State := { s with amp := { s.amp with busy := none } }; let s : State := { s with pins := { s.pins with parkTest := false } }; let s : State := s.setB Fld.CLK_STATUS_PLLB_LOCK true; let s : State := s.rset Reg.BUS_FROZEN 0; let s : State := s.rset (Reg.BUS_WIN_LO 6 0) 1 ; let s : State := s.rset (Reg.BUS_WIN_LO 6 0) 3; let s : State := s.rset (Reg.BUS_WIN_HI 6 0) 0xFFFFF000; let s : State := { s with rst := { s.rst with nvmAvail := true } }; s), by decide +kernel⟩,
   ⟨({ src := .dwl, port := 1, sport := 1, bad := false, msg := [0x1, 0x3, 0x1, 0x1, 0x4, 0x0, 0x0, 0x0, 0x1, 0x0, 0x0, 0x0, 0x1, 0x0, 0x1, 0x0] } : AmpReq), (let s := wS .scan; let s : State := { s with amp := { s.amp with queue := [({ src := .dwl, port := 1, sport := 1, bad := false, msg := [0x1, 0x3, 0x1, 0x1, 0x4, 0x0, 0x0, 0x0, 0x1, 0x0, 0x0, 0x0, 0x1, 0x0, 0x1, 0x0] } : AmpReq)] } }; let s : State := { s with amp := { s.amp with busy := none } }; let s : State := { s with pins := { s.pins with parkTest := false } }; let s : State := s.setB Fld.CLK_STATUS_PLLB_LOCK true; let s : State := s.rset Reg.BUS_FROZEN 0; let s : State := { s with nvm := { s.nvm with log := [[1,2],[3],[4,5]], chLog := [[7,8],[9]] } }; s), by decide +kernel⟩,
   ⟨({ src := .dwl, port := 1, sport := 1, bad := false, msg := [0x1, 0x10, 0x1, 0x1, 0x0, 0x0, 0x0, 0x0, 0x1, 0x0, 0x0, 0x0] } : AmpReq), (let s := wS .scan; let s : State := { s with amp := { s.amp with queue := [({ src := .dwl, port := 1, sport := 1, bad := false, msg := [0x1, 0x10, 0x1, 0x1, 0x0, 0x0, 0x0, 0x0, 0x1, 0x0, 0x0, 0x0] } : AmpReq)] } }; let s : State := { s with amp := { s.amp with busy := none } }; let s : State := { s with pins := { s.pins with parkTest := false } }; let s : State := s.setB Fld.CLK_STATUS_PLLB_LOCK true; let s : State := s.rset Reg.BUS_FROZEN 0; s), by decide +kernel⟩,
   ⟨({ src := .dwl, port := 1, sport := 1, bad := false, msg := [0x1, 0x11, 0x1, 0x1, 0x4, 0x0, 0x0, 0x0, 0x1, 0x0, 0x0, 0x0, 0x1, 0x0, 0x0, 0x0] } : AmpReq), (let s := wS .service; let s : State := { s with amp := { s.amp with queue := [({ src := .dwl, port := 1, sport := 1, bad := false, msg := [0x1, 0x11, 0x1, 0x1, 0x4, 0x0, 0x0, 0x0, 0x1, 0x0, 0x0, 0x0, 0x1, 0x0, 0x0, 0x0] } : AmpReq)] } }; let s : State := { s with amp := { s.amp with busy := none } }; let s : State := { s with pins := { s.pins with parkTest := false } }; let s : State := s.setB Fld.CLK_STATUS_PLLB_LOCK true; let s : State := s.rset Reg.BUS_FROZEN 0; s), by decide +kernel⟩,
   ⟨({ src := .dwl, port := 1, sport := 1, bad := false, msg := [0x1, 0x12, 0x1, 0x1, 0x0, 0x0, 0x0, 0x0, 0x1, 0x0, 0x0, 0x0] } : AmpReq), (let s := wS .idle; let s : State := { s with amp := { s.amp with queue := [({ src := .dwl, port := 1, sport := 1, bad := false, msg := [0x1, 0x12, 0x1, 0x1, 0x0, 0x0, 0x0, 0x0, 0x1, 0x0, 0x0, 0x0] } : AmpReq)] } }; let s : State := { s with amp := { s.amp with busy := none } }; let s : State := { s with pins := { s.pins with parkTest := false } }; let s : State := s.setB Fld.CLK_STATUS_PLLB_LOCK true; let s : State := s.rset Reg.BUS_FROZEN 0; s), by decide +kernel⟩⟩

theorem met_SetOutsideCondition : ∃ (r : AmpReq) (a : Nat) (m : Word) (v : Word) (s : State), s.ampTurn 2 r = true ∧ s.devIn [.idle, .scan, .safe, .service] = true ∧ 1 ≤ le16 (ampPay r.msg) 0 ∧ le16 (ampPay r.msg) 0 ≤ 84 ∧ (ampPay r.msg).length = 4 + 12 * le16 (ampPay r.msg) 0 ∧ ((∀ x ∈ setTriples (ampPay r.msg) (le16 (ampPay r.msg) 0), x.1 % 4 = 0)) ∧ (a, m, v) ∈ setTriples (ampPay r.msg) (le16 (ampPay r.msg) 0) ∧ (((a = Reg.FL_CMD ∧ m &&& 3 ≠ 0 ∨ a = Reg.OPT_CMD ∧ m ≠ 0) ∧ s.dev ≠ .idle ∧ s.dev ≠ .scan ∧ s.dev ≠ .safe ∨ (a = Reg.EMIT_LOSTCLR ∧ m ≠ 0 ∨ a = Reg.RX_CAL ∧ m.getLsbD 0 = true) ∧ s.dev ≠ .idle)) :=
  ⟨({ src := .dwl, port := 1, sport := 1, bad := false, msg := [0x1, 0x2, 0x1, 0x1, 0x10, 0x0, 0x0, 0x0, 0x1, 0x0, 0x0, 0x0, 0x1, 0x0, 0x0, 0x0, 0x80, 0x1, 0x18, 0x0, 0x1, 0x0, 0x0, 0x0, 0x1, 0x0, 0x0, 0x0] } : AmpReq), 1573248, 0x1, 0x1, (let s := wS .service; let s : State := { s with amp := { s.amp with queue := [({ src := .dwl, port := 1, sport := 1, bad := false, msg := [0x1, 0x2, 0x1, 0x1, 0x10, 0x0, 0x0, 0x0, 0x1, 0x0, 0x0, 0x0, 0x1, 0x0, 0x0, 0x0, 0x80, 0x1, 0x18, 0x0, 0x1, 0x0, 0x0, 0x0, 0x1, 0x0, 0x0, 0x0] } : AmpReq)] } }; let s : State := { s with amp := { s.amp with busy := none } }; let s : State := { s with pins := { s.pins with parkTest := false } }; let s : State := s.setB Fld.CLK_STATUS_PLLB_LOCK true; let s : State := s.rset Reg.BUS_FROZEN 0; let s : State := s.rset (Reg.BUS_WIN_LO 6 0) 1 ; let s : State := s.rset (Reg.BUS_WIN_LO 6 0) 3; let s : State := s.rset (Reg.BUS_WIN_HI 6 0) 0xFFFFF000; let s : State := { s with rst := { s.rst with nvmAvail := true } }; s), by decide +kernel⟩

theorem met_GuardSessions :
    (∃ (r : AmpReq) (s : State), s.ampTurn 0x20 r = true ∧ s.dev = .idle ∧ authOk (ampPay r.msg) = true ∧ s.amp.locked = true) ∧
    (∃ (r : AmpReq) (s : State), s.ampTurn 0x20 r = true ∧ s.dev = .idle ∧ authOk (ampPay r.msg) = true ∧ s.amp.locked = false ∧ s.amp.sess = none ∧ s.pwMatch (at8 (ampPay r.msg) 0) (((ampPay r.msg).drop 4).take (at8 (ampPay r.msg) 1)) = false) ∧
    (∃ (r : AmpReq) (s : State), s.ampTurn 0x20 r = true ∧ s.dev = .idle ∧ authOk (ampPay r.msg) = true ∧ s.amp.locked = false ∧ s.amp.sess = none ∧ s.pwMatch (at8 (ampPay r.msg) 0) (((ampPay r.msg).drop 4).take (at8 (ampPay r.msg) 1)) = true) ∧
    (∃ (r : AmpReq) (s : State), s.ampTurn 0x21 r = true ∧ s.dev = .idle ∧ at8 r.msg 12 = 0 ∧ s.changePending = false ∧ s.ampBears r = true ∧ s.b Fld.GUARD_STAT_CHANGE_OPEN = false ∧ (ampPay r.msg).length = 4) ∧
    (∃ (r : AmpReq) (s : State), s.ampTurn 0x21 r = true ∧ s.dev = .idle ∧ at8 r.msg 12 = 0 ∧ s.changePending = false ∧ s.ampBears r = false) ∧
    (∃ (s : State), s.changePending = true) ∧
    (∃ (r : AmpReq) (w : Nat × Word) (ws : List (Nat × Word)) (s : State), s.ampTurn 0x21 r = true ∧ s.dev = .idle ∧ at8 r.msg 12 = 1 ∧ s.ampBears r = true ∧ s.b Fld.GUARD_STAT_CHANGE_OPEN = true ∧ ((ampPay r.msg).drop 4).length % 4 = 0 ∧ recordWords ((ampPay r.msg).drop 4).length ((List.range (((ampPay r.msg).drop 4).length / 4)).map (fun i => bytesW ((ampPay r.msg).drop 4) (4 * i))) = some (w :: ws) ∧ (w :: ws).all (fun w => changeMay w.1) = true) ∧
    (∃ (r : AmpReq) (s : State), s.ampTurn 0x21 r = true ∧ s.dev = .idle ∧ at8 r.msg 12 = 2 ∧ s.ampBears r = true ∧ s.b Fld.GUARD_STAT_CHANGE_OPEN = true ∧ (ampPay r.msg).length = 4) ∧
    (∃ (r : AmpReq) (s : State), s.ampTurn 0x21 r = true ∧ s.dev = .idle ∧ at8 r.msg 12 = 3 ∧ s.ampBears r = true ∧ s.b Fld.GUARD_STAT_CHANGE_OPEN = true ∧ (ampPay r.msg).length = 4 ∧ s.guard.wrotePw = false ∧ s.guard.wroteOther = false) ∧
    (∃ (r : AmpReq) (s : State), s.ampTurn 0x21 r = true ∧ s.dev = .idle ∧ at8 r.msg 12 = 3 ∧ s.ampBears r = true ∧ s.b Fld.GUARD_STAT_CHANGE_OPEN = true ∧ (ampPay r.msg).length = 4 ∧ (s.guard.wrotePw = true ∨ s.guard.wroteOther = true)) ∧
    (∃ (r : AmpReq) (x : AmpSess) (s : State), s.ampTurn 0x20 r = true ∧ s.dev = .idle ∧ authOk (ampPay r.msg) = true ∧ s.amp.locked = false ∧ s.amp.sess = some x ∧ x.src = r.src ∧ s.pwMatch (at8 (ampPay r.msg) 0) (((ampPay r.msg).drop 4).take (at8 (ampPay r.msg) 1)) = true) :=
  ⟨⟨({ src := .dwl, port := 1, sport := 1, bad := false, msg := [0x1, 0x20, 0x1, 0x1, 0xc, 0x0, 0x0, 0x0, 0x1, 0x0, 0x0, 0x0, 0x2, 0x8, 0x0, 0x0, 0x22, 0x22, 0x22, 0x22, 0x22, 0x22, 0x22, 0x22] } : AmpReq), (let s := wS .idle; let s : State := { s with amp := { s.amp with locked := true } }; let s : State := { s with amp := { s.amp with queue := [({ src := .dwl, port := 1, sport := 1, bad := false, msg := [0x1, 0x20, 0x1, 0x1, 0xc, 0x0, 0x0, 0x0, 0x1, 0x0, 0x0, 0x0, 0x2, 0x8, 0x0, 0x0, 0x22, 0x22, 0x22, 0x22, 0x22, 0x22, 0x22, 0x22] } : AmpReq)] } }; let s : State := { s with amp := { s.amp with busy := none } }; let s : State := { s with pins := { s.pins with parkTest := false } }; let s : State := s.setB Fld.CLK_STATUS_PLLB_LOCK true; let s : State := s.rset Reg.BUS_FROZEN 0; let s : State := { s with amp := { s.amp with locked := true } }; s), by decide +kernel⟩,
   ⟨({ src := .dwl, port := 1, sport := 1, bad := false, msg := [0x1, 0x20, 0x1, 0x1, 0xc, 0x0, 0x0, 0x0, 0x1, 0x0, 0x0, 0x0, 0x2, 0x8, 0x0, 0x0, 0x22, 0x22, 0x22, 0x22, 0x22, 0x22, 0x22, 0x22] } : AmpReq), (let s := wS .idle; let s : State := { s with amp := { s.amp with locked := false } }; let s : State := { s with amp := { s.amp with sess := none } }; let s : State := { s with amp := { s.amp with queue := [({ src := .dwl, port := 1, sport := 1, bad := false, msg := [0x1, 0x20, 0x1, 0x1, 0xc, 0x0, 0x0, 0x0, 0x1, 0x0, 0x0, 0x0, 0x2, 0x8, 0x0, 0x0, 0x22, 0x22, 0x22, 0x22, 0x22, 0x22, 0x22, 0x22] } : AmpReq)] } }; let s : State := { s with amp := { s.amp with busy := none } }; let s : State := { s with pins := { s.pins with parkTest := false } }; let s : State := s.setB Fld.CLK_STATUS_PLLB_LOCK true; let s : State := s.rset Reg.BUS_FROZEN 0; let s : State := { s with amp := { s.amp with locked := false, sess := none } }; s), by decide +kernel⟩,
   ⟨({ src := .dwl, port := 1, sport := 1, bad := false, msg := [0x1, 0x20, 0x1, 0x1, 0xc, 0x0, 0x0, 0x0, 0x1, 0x0, 0x0, 0x0, 0x2, 0x8, 0x0, 0x0, 0x22, 0x22, 0x22, 0x22, 0x22, 0x22, 0x22, 0x22] } : AmpReq), (let s := wS .idle; let s : State := { s with amp := { s.amp with locked := false } }; let s : State := { s with amp := { s.amp with sess := none } }; let s : State := { s with amp := { s.amp with queue := [({ src := .dwl, port := 1, sport := 1, bad := false, msg := [0x1, 0x20, 0x1, 0x1, 0xc, 0x0, 0x0, 0x0, 0x1, 0x0, 0x0, 0x0, 0x2, 0x8, 0x0, 0x0, 0x22, 0x22, 0x22, 0x22, 0x22, 0x22, 0x22, 0x22] } : AmpReq)] } }; let s : State := { s with amp := { s.amp with busy := none } }; let s : State := { s with pins := { s.pins with parkTest := false } }; let s : State := s.setB Fld.CLK_STATUS_PLLB_LOCK true; let s : State := s.rset Reg.BUS_FROZEN 0; let s : State := { s with amp := { s.amp with locked := false, sess := none } }; let s : State := (List.range 8).foldl (fun s i => s.rset (Reg.GUARD_PW 2 (4 + i)) (bytesW (sha256 (List.replicate 12 0 ++ ((ampPay ({ src := .dwl, port := 1, sport := 1, bad := false, msg := [0x1, 0x20, 0x1, 0x1, 0xc, 0x0, 0x0, 0x0, 0x1, 0x0, 0x0, 0x0, 0x2, 0x8, 0x0, 0x0, 0x22, 0x22, 0x22, 0x22, 0x22, 0x22, 0x22, 0x22] } : AmpReq).msg).drop 4))) (4 * i))) (s.rset (Reg.GUARD_PW 2 0) (0x80000000 + BitVec.ofNat 32 (at8 (ampPay ({ src := .dwl, port := 1, sport := 1, bad := false, msg := [0x1, 0x20, 0x1, 0x1, 0xc, 0x0, 0x0, 0x0, 0x1, 0x0, 0x0, 0x0, 0x2, 0x8, 0x0, 0x0, 0x22, 0x22, 0x22, 0x22, 0x22, 0x22, 0x22, 0x22] } : AmpReq).msg) 0))); s), by decide +kernel⟩,
   ⟨({ src := .dwl, port := 1, sport := 1, bad := false, msg := [0x1, 0x21, 0x1, 0x1, 0x4, 0x0, 0x0, 0x0, 0x1, 0x0, 0x0, 0x0, 0x0, 0x0, 0x0, 0x0] } : AmpReq), (let s := wS .idle; let s : State := s.setB Fld.GUARD_STAT_CHANGE_OPEN false; let s : State := { s with amp := { s.amp with queue := [({ src := .dwl, port := 1, sport := 1, bad := false, msg := [0x1, 0x21, 0x1, 0x1, 0x4, 0x0, 0x0, 0x0, 0x1, 0x0, 0x0, 0x0, 0x0, 0x0, 0x0, 0x0] } : AmpReq)] } }; let s : State := { s with amp := { s.amp with busy := none } }; let s : State := { s with pins := { s.pins with parkTest := false } }; let s : State := s.setB Fld.CLK_STATUS_PLLB_LOCK true; let s : State := s.rset Reg.BUS_FROZEN 0; let s : State := { s with amp := { s.amp with sess := some ⟨bytesW ({ src := .dwl, port := 1, sport := 1, bad := false, msg := [0x1, 0x21, 0x1, 0x1, 0x4, 0x0, 0x0, 0x0, 0x1, 0x0, 0x0, 0x0, 0x0, 0x0, 0x0, 0x0] } : AmpReq).msg 8, ({ src := .dwl, port := 1, sport := 1, bad := false, msg := [0x1, 0x21, 0x1, 0x1, 0x4, 0x0, 0x0, 0x0, 0x1, 0x0, 0x0, 0x0, 0x0, 0x0, 0x0, 0x0] } : AmpReq).src, 1, 1⟩ } }; let s : State := s.setB Fld.GUARD_STAT_CHANGE_OPEN false; s), by decide +kernel⟩,
   ⟨({ src := .dwl, port := 1, sport := 1, bad := false, msg := [0x1, 0x21, 0x1, 0x1, 0x4, 0x0, 0x0, 0x0, 0x1, 0x0, 0x0, 0x0, 0x0, 0x0, 0x0, 0x0] } : AmpReq), (let s := wS .idle; let s : State := { s with amp := { s.amp with queue := [({ src := .dwl, port := 1, sport := 1, bad := false, msg := [0x1, 0x21, 0x1, 0x1, 0x4, 0x0, 0x0, 0x0, 0x1, 0x0, 0x0, 0x0, 0x0, 0x0, 0x0, 0x0] } : AmpReq)] } }; let s : State := { s with amp := { s.amp with busy := none } }; let s : State := { s with pins := { s.pins with parkTest := false } }; let s : State := s.setB Fld.CLK_STATUS_PLLB_LOCK true; let s : State := s.rset Reg.BUS_FROZEN 0; let s : State := { s with amp := { s.amp with sess := none } }; s), by decide +kernel⟩,
   ⟨(let s := wS .scan; let s : State := { s with nvm := { s.nvm with work := [.change []] } }; s), by decide +kernel⟩,
   ⟨({ src := .dwl, port := 1, sport := 1, bad := false, msg := [0x1, 0x21, 0x1, 0x1, 0x10, 0x0, 0x0, 0x0, 0x1, 0x0, 0x0, 0x0, 0x1, 0x0, 0x0, 0x0, 0x0, 0x0, 0x14, 0x0, 0x1, 0x0, 0x0, 0x0, 0x1, 0x0, 0x0, 0x0] } : AmpReq), (1310720, 0x1), [], (let s := wS .idle; let s : State := s.setB Fld.GUARD_STAT_CHANGE_OPEN true; let s : State := { s with amp := { s.amp with queue := [({ src := .dwl, port := 1, sport := 1, bad := false, msg := [0x1, 0x21, 0x1, 0x1, 0x10, 0x0, 0x0, 0x0, 0x1, 0x0, 0x0, 0x0, 0x1, 0x0, 0x0, 0x0, 0x0, 0x0, 0x14, 0x0, 0x1, 0x0, 0x0, 0x0, 0x1, 0x0, 0x0, 0x0] } : AmpReq)] } }; let s : State := { s with amp := { s.amp with busy := none } }; let s : State := { s with pins := { s.pins with parkTest := false } }; let s : State := s.setB Fld.CLK_STATUS_PLLB_LOCK true; let s : State := s.rset Reg.BUS_FROZEN 0; let s : State := { s with amp := { s.amp with sess := some ⟨bytesW ({ src := .dwl, port := 1, sport := 1, bad := false, msg := [0x1, 0x21, 0x1, 0x1, 0x10, 0x0, 0x0, 0x0, 0x1, 0x0, 0x0, 0x0, 0x1, 0x0, 0x0, 0x0, 0x0, 0x0, 0x14, 0x0, 0x1, 0x0, 0x0, 0x0, 0x1, 0x0, 0x0, 0x0] } : AmpReq).msg 8, ({ src := .dwl, port := 1, sport := 1, bad := false, msg := [0x1, 0x21, 0x1, 0x1, 0x10, 0x0, 0x0, 0x0, 0x1, 0x0, 0x0, 0x0, 0x1, 0x0, 0x0, 0x0, 0x0, 0x0, 0x14, 0x0, 0x1, 0x0, 0x0, 0x0, 0x1, 0x0, 0x0, 0x0] } : AmpReq).src, 1, 1⟩ } }; let s : State := s.setB Fld.GUARD_STAT_CHANGE_OPEN true; s), by decide +kernel⟩,
   ⟨({ src := .dwl, port := 1, sport := 1, bad := false, msg := [0x1, 0x21, 0x1, 0x1, 0x4, 0x0, 0x0, 0x0, 0x1, 0x0, 0x0, 0x0, 0x2, 0x0, 0x0, 0x0] } : AmpReq), (let s := wS .idle; let s : State := s.setB Fld.GUARD_STAT_CHANGE_OPEN true; let s : State := { s with amp := { s.amp with queue := [({ src := .dwl, port := 1, sport := 1, bad := false, msg := [0x1, 0x21, 0x1, 0x1, 0x4, 0x0, 0x0, 0x0, 0x1, 0x0, 0x0, 0x0, 0x2, 0x0, 0x0, 0x0] } : AmpReq)] } }; let s : State := { s with amp := { s.amp with busy := none } }; let s : State := { s with pins := { s.pins with parkTest := false } }; let s : State := s.setB Fld.CLK_STATUS_PLLB_LOCK true; let s : State := s.rset Reg.BUS_FROZEN 0; let s : State := { s with amp := { s.amp with sess := some ⟨bytesW ({ src := .dwl, port := 1, sport := 1, bad := false, msg := [0x1, 0x21, 0x1, 0x1, 0x4, 0x0, 0x0, 0x0, 0x1, 0x0, 0x0, 0x0, 0x2, 0x0, 0x0, 0x0] } : AmpReq).msg 8, ({ src := .dwl, port := 1, sport := 1, bad := false, msg := [0x1, 0x21, 0x1, 0x1, 0x4, 0x0, 0x0, 0x0, 0x1, 0x0, 0x0, 0x0, 0x2, 0x0, 0x0, 0x0] } : AmpReq).src, 1, 1⟩ } }; let s : State := s.setB Fld.GUARD_STAT_CHANGE_OPEN true; s), by decide +kernel⟩,
   ⟨({ src := .dwl, port := 1, sport := 1, bad := false, msg := [0x1, 0x21, 0x1, 0x1, 0x4, 0x0, 0x0, 0x0, 0x1, 0x0, 0x0, 0x0, 0x3, 0x0, 0x0, 0x0] } : AmpReq), (let s := wS .idle; let s : State := s.setB Fld.GUARD_STAT_CHANGE_OPEN true; let s : State := { s with guard := { s.guard with wrotePw := false } }; let s : State := { s with guard := { s.guard with wroteOther := false } }; let s : State := { s with amp := { s.amp with queue := [({ src := .dwl, port := 1, sport := 1, bad := false, msg := [0x1, 0x21, 0x1, 0x1, 0x4, 0x0, 0x0, 0x0, 0x1, 0x0, 0x0, 0x0, 0x3, 0x0, 0x0, 0x0] } : AmpReq)] } }; let s : State := { s with amp := { s.amp with busy := none } }; let s : State := { s with pins := { s.pins with parkTest := false } }; let s : State := s.setB Fld.CLK_STATUS_PLLB_LOCK true; let s : State := s.rset Reg.BUS_FROZEN 0; let s : State := { s with amp := { s.amp with sess := some ⟨bytesW ({ src := .dwl, port := 1, sport := 1, bad := false, msg := [0x1, 0x21, 0x1, 0x1, 0x4, 0x0, 0x0, 0x0, 0x1, 0x0, 0x0, 0x0, 0x3, 0x0, 0x0, 0x0] } : AmpReq).msg 8, ({ src := .dwl, port := 1, sport := 1, bad := false, msg := [0x1, 0x21, 0x1, 0x1, 0x4, 0x0, 0x0, 0x0, 0x1, 0x0, 0x0, 0x0, 0x3, 0x0, 0x0, 0x0] } : AmpReq).src, 1, 1⟩ } }; let s : State := s.setB Fld.GUARD_STAT_CHANGE_OPEN true; s), by decide +kernel⟩,
   ⟨({ src := .dwl, port := 1, sport := 1, bad := false, msg := [0x1, 0x21, 0x1, 0x1, 0x4, 0x0, 0x0, 0x0, 0x1, 0x0, 0x0, 0x0, 0x3, 0x0, 0x0, 0x0] } : AmpReq), (let s := wS .idle; let s : State := s.setB Fld.GUARD_STAT_CHANGE_OPEN true; let s : State := { s with amp := { s.amp with queue := [({ src := .dwl, port := 1, sport := 1, bad := false, msg := [0x1, 0x21, 0x1, 0x1, 0x4, 0x0, 0x0, 0x0, 0x1, 0x0, 0x0, 0x0, 0x3, 0x0, 0x0, 0x0] } : AmpReq)] } }; let s : State := { s with amp := { s.amp with busy := none } }; let s : State := { s with pins := { s.pins with parkTest := false } }; let s : State := s.setB Fld.CLK_STATUS_PLLB_LOCK true; let s : State := s.rset Reg.BUS_FROZEN 0; let s : State := { s with amp := { s.amp with sess := some ⟨bytesW ({ src := .dwl, port := 1, sport := 1, bad := false, msg := [0x1, 0x21, 0x1, 0x1, 0x4, 0x0, 0x0, 0x0, 0x1, 0x0, 0x0, 0x0, 0x3, 0x0, 0x0, 0x0] } : AmpReq).msg 8, ({ src := .dwl, port := 1, sport := 1, bad := false, msg := [0x1, 0x21, 0x1, 0x1, 0x4, 0x0, 0x0, 0x0, 0x1, 0x0, 0x0, 0x0, 0x3, 0x0, 0x0, 0x0] } : AmpReq).src, 1, 1⟩ } }; let s : State := s.setB Fld.GUARD_STAT_CHANGE_OPEN true; let s : State := { s with guard := { s.guard with wrotePw := true } }; s), by decide +kernel⟩,
   ⟨({ src := .dwl, port := 1, sport := 1, bad := false, msg := [0x1, 0x20, 0x1, 0x1, 0xc, 0x0, 0x0, 0x0, 0x1, 0x0, 0x0, 0x0, 0x2, 0x8, 0x0, 0x0, 0x22, 0x22, 0x22, 0x22, 0x22, 0x22, 0x22, 0x22] } : AmpReq), (⟨5, .dwl, 2, 7⟩ : AmpSess), (let s := wS .idle; let s : State := { s with amp := { s.amp with locked := false } }; let s : State := { s with amp := { s.amp with sess := some (⟨5, .dwl, 2, 7⟩ : AmpSess) } }; let s : State := { s with amp := { s.amp with queue := [({ src := .dwl, port := 1, sport := 1, bad := false, msg := [0x1, 0x20, 0x1, 0x1, 0xc, 0x0, 0x0, 0x0, 0x1, 0x0, 0x0, 0x0, 0x2, 0x8, 0x0, 0x0, 0x22, 0x22, 0x22, 0x22, 0x22, 0x22, 0x22, 0x22] } : AmpReq)] } }; let s : State := { s with amp := { s.amp with busy := none } }; let s : State := { s with pins := { s.pins with parkTest := false } }; let s : State := s.setB Fld.CLK_STATUS_PLLB_LOCK true; let s : State := s.rset Reg.BUS_FROZEN 0; let s : State := { s with amp := { s.amp with locked := false, sess := some (⟨5, .dwl, 2, 7⟩ : AmpSess) } }; let s : State := (List.range 8).foldl (fun s i => s.rset (Reg.GUARD_PW 2 (4 + i)) (bytesW (sha256 (List.replicate 12 0 ++ ((ampPay ({ src := .dwl, port := 1, sport := 1, bad := false, msg := [0x1, 0x20, 0x1, 0x1, 0xc, 0x0, 0x0, 0x0, 0x1, 0x0, 0x0, 0x0, 0x2, 0x8, 0x0, 0x0, 0x22, 0x22, 0x22, 0x22, 0x22, 0x22, 0x22, 0x22] } : AmpReq).msg).drop 4))) (4 * i))) (s.rset (Reg.GUARD_PW 2 0) (0x80000000 + BitVec.ofNat 32 (at8 (ampPay ({ src := .dwl, port := 1, sport := 1, bad := false, msg := [0x1, 0x20, 0x1, 0x1, 0xc, 0x0, 0x0, 0x0, 0x1, 0x0, 0x0, 0x0, 0x2, 0x8, 0x0, 0x0, 0x22, 0x22, 0x22, 0x22, 0x22, 0x22, 0x22, 0x22] } : AmpReq).msg) 0))); s), by decide +kernel⟩⟩

theorem met_DspAlu : ∃ (c : Nat) (d : Nat) (a : Nat) (b : Nat) (imm : BitVec 14) (im16 : BitVec 16) (s : State), s.coreFree c = true :=
  ⟨1, 1, 1, 1, 0x1cc0, 0xf589, (let s := wS .scan; let s : State := s.setCore 1 { s.core 1 with mode := 1 }; let s : State := s.rset Reg.BUS_FROZEN 0; s), by decide +kernel⟩

theorem met_DspAccumulators : ∃ (c : Nat) (d : Nat) (xr : Nat) (yp : Nat) (n : Nat) (m : Nat) (neg : Nat) (sh : Nat) (xh : Bool) (sw : Bool) (rnd : Bool) (left : Bool) (s : State), s.coreFree c = true :=
  ⟨1, 1, 1, 1, 1, 1, 1, 1, true, true, true, true, (let s := wS .scan; let s : State := s.setCore 1 { s.core 1 with mode := 1 }; let s : State := s.rset Reg.BUS_FROZEN 0; s), by decide +kernel⟩

theorem met_DspMemory :
    (∃ (c : Nat) (d : Nat) (a : Nat) (mc : Nat) (p : Nat) (imm : BitVec 10) (s : State), s.coreFree c = true ∧ ((s.core c).reg a + imm.signExtend 32).toNat = p ∧ coreBase c + 0x40000 ≤ p ∧ p + 8 ≤ coreBase c + 0x80000) ∧
    (∃ (c : Nat) (d : Nat) (a : Nat) (mc : Nat) (p : Nat) (imm : BitVec 10) (s : State), s.coreFree c = true ∧ ((s.core c).reg a).toNat = p ∧ coreBase c + 0x40000 ≤ p ∧ p + 4 ≤ coreBase c + 0x80000 ∧ p % 4 = 0) ∧
    (∃ (c : Nat) (d : Nat) (v : Word) (s : State), c < 2 ∧ s.frozen (1 + c) = false ∧ (s.core c).mode = 1 ∧ (s.core c).br = none ∧ (s.core c).rep = none ∧ (s.core c).loops = [] ∧ (s.core c).cw = [] ∧ (s.core c).ld = [(d, v)]) :=
  ⟨⟨1, 1, 2, 1, 135004161, 0x189, (let s := wS .scan; let s : State := s.setCore 1 { s.core 1 with mode := 1 }; let s : State := s.setCore 1 { s.core 1 with mode := 1 }; let s : State := s.setCore 1 ((s.core 1).setReg 2 (BitVec.ofNat 32 135004161 - (0x189 : BitVec 10).signExtend 32)); s), by decide +kernel⟩,
   ⟨1, 1, 2, 0, 135004160, 0x189, (let s := wS .scan; let s : State := s.setCore 1 { s.core 1 with mode := 1 }; let s : State := s.rset Reg.BUS_FROZEN 0; let s : State := s.setCore 1 ((s.core 1).setReg 2 (BitVec.ofNat 32 135004160)); s), by decide +kernel⟩,
   ⟨1, 1, 0x1, (let s := wS .scan; let s : State := s.setCore 1 { s.core 1 with mode := 1 }; let s : State := s.setCore 1 { s.core 1 with br := none }; let s : State := s.setCore 1 { s.core 1 with rep := none }; let s : State := s.setCore 1 { s.core 1 with loops := [] }; let s : State := s.setCore 1 { s.core 1 with cw := [] }; let s : State := s.setCore 1 { s.core 1 with ld := [(1, 0x1)] }; let s : State := s.rset Reg.BUS_FROZEN 0; s), by decide +kernel⟩⟩

theorem met_DspControl :
    (∃ (c : Nat) (a : Nat) (off : BitVec 19) (s : State), s.coreFree c = true) ∧
    (∃ (c : Nat) (b : BrSt) (s : State), c < 2 ∧ s.frozen (1 + c) = false ∧ (s.core c).mode = 1 ∧ (s.core c).br = some b ∧ (s.core c).rep = none ∧ (s.core c).loops = [] ∧ (s.core c).ld = [] ∧ (s.core c).cw = []) ∧
    (∃ (c : Nat) (g : Nat) (n : Nat) (s : State), s.coreFree c = true) ∧
    (∃ (c : Nat) (v : Word) (s : State), c < 2 ∧ s.frozen (1 + c) = false ∧ (s.core c).mode = 1 ∧ (s.core c).br = none ∧ (s.core c).rep = none ∧ (s.core c).loops = [] ∧ (s.core c).ld = [] ∧ (s.core c).cw = [(4, v)]) ∧
    (∃ (c : Nat) (n : Nat) (s : State), c < 2 ∧ s.frozen (1 + c) = false ∧ (s.core c).mode = 1 ∧ (s.core c).br = none ∧ (s.core c).rep = some (n + 1) ∧ (s.core c).loops = [] ∧ (s.core c).ld = [] ∧ (s.core c).cw = []) ∧
    (∃ (c : Nat) (l : LoopSt) (s : State), c < 2 ∧ s.frozen (1 + c) = false ∧ (s.core c).mode = 1 ∧ (s.core c).br = none ∧ (s.core c).rep = none ∧ (s.core c).loops = [l] ∧ (s.core c).ld = [] ∧ (s.core c).cw = [] ∧ l.last = (s.core c).pc) ∧
    (∃ (c : Nat) (g : Nat) (n : Nat) (m : Nat) (s : State), s.coreFree c = true) :=
  ⟨⟨1, 1, 0x4176e, (let s := wS .scan; let s : State := s.setCore 1 { s.core 1 with mode := 1 }; let s : State := s.rset Reg.BUS_FROZEN 0; s), by decide +kernel⟩,
   ⟨1, ({ target := 4, left := 1 } : BrSt), (let s := wS .scan; let s : State := s.setCore 1 { s.core 1 with mode := 1 }; let s : State := s.setCore 1 { s.core 1 with br := some ({ target := 4, left := 1 } : BrSt) }; let s : State := s.setCore 1 { s.core 1 with rep := none }; let s : State := s.setCore 1 { s.core 1 with loops := [] }; let s : State := s.setCore 1 { s.core 1 with ld := [] }; let s : State := s.setCore 1 { s.core 1 with cw := [] }; let s : State := s.rset Reg.BUS_FROZEN 0; s), by decide +kernel⟩,
   ⟨1, 1, 1, (let s := wS .scan; let s : State := s.setCore 1 { s.core 1 with mode := 1 }; let s : State := s.rset Reg.BUS_FROZEN 0; s), by decide +kernel⟩,
   ⟨1, 0x1, (let s := wS .scan; let s : State := s.setCore 1 { s.core 1 with mode := 1 }; let s : State := s.setCore 1 { s.core 1 with br := none }; let s : State := s.setCore 1 { s.core 1 with rep := none }; let s : State := s.setCore 1 { s.core 1 with loops := [] }; let s : State := s.setCore 1 { s.core 1 with ld := [] }; let s : State := s.setCore 1 { s.core 1 with cw := [(4, 0x1)] }; let s : State := s.rset Reg.BUS_FROZEN 0; s), by decide +kernel⟩,
   ⟨1, 1, (let s := wS .scan; let s : State := s.setCore 1 { s.core 1 with mode := 1 }; let s : State := s.setCore 1 { s.core 1 with br := none }; let s : State := s.setCore 1 { s.core 1 with rep := some (1 + 1) }; let s : State := s.setCore 1 { s.core 1 with loops := [] }; let s : State := s.setCore 1 { s.core 1 with ld := [] }; let s : State := s.setCore 1 { s.core 1 with cw := [] }; let s : State := s.rset Reg.BUS_FROZEN 0; s), by decide +kernel⟩,
   ⟨1, ({ first := 4, last := 4, left := 1 } : LoopSt), (let s := wS .scan; let s : State := s.setCore 1 { s.core 1 with mode := 1 }; let s : State := s.setCore 1 { s.core 1 with br := none }; let s : State := s.setCore 1 { s.core 1 with rep := none }; let s : State := s.setCore 1 { s.core 1 with loops := [({ first := 4, last := 4, left := 1 } : LoopSt)] }; let s : State := s.setCore 1 { s.core 1 with ld := [] }; let s : State := s.setCore 1 { s.core 1 with cw := [] }; let s : State := s.rset Reg.BUS_FROZEN 0; let s : State := s.setCore 1 { s.core 1 with pc := ({ first := 4, last := 4, left := 1 } : LoopSt).last }; s), by decide +kernel⟩,
   ⟨1, 1, 1, 1, (let s := wS .scan; let s : State := s.setCore 1 { s.core 1 with mode := 1 }; s), by decide +kernel⟩⟩

theorem met_CoresAndBus :
    (∃ (c : Nat) (i : Nat) (s : State), s.coreFree c = true ∧ (s.core c).ei = false ∧ (s.core c).ie = true ∧ s.intLine c = some i) ∧
    (∃ (c : Nat) (s : State), s.coreFree c = true ∧ s.intLine c = none) ∧
    (∃ (c : Nat) (w : Word) (s : State), s.coreFree c = true ∧ (s.core c).inExc = false ∧ legalWord w = false) ∧
    (∃ (c : Nat) (w : Word) (s : State), s.coreFree c = true ∧ (s.core c).handling = true ∧ legalWord w = false) ∧
    (∃ (c : Nat) (cause : Nat) (s : State), c < 2 ∧ cause < 2 ∧ s.coreLoaded c = true ∧ (s.core c).mode = 0 ∧ s.dev ≠ .boot ∧ s.rst.l2.contains (.dsp c) = false) ∧
    (∃ (c : Nat) (v : Word) (s : State), s.wdtCounts c = false) ∧
    (∃ (c : Nat) (s : State), c < 2 ∧ s.wdtCounts c = true) ∧
    (∃ (c : Nat) (v : Word) (s : State), c < 2 ∧ s.wdtCounts c = true ∧ v ≠ 0xA5C3) ∧
    (∃ (c : Nat) (v : Word) (s : State), c < 2) ∧
    (∃ (c : Nat) (s : State), c < 2 ∧ s.frozen (1 + c) = false ∧ (s.core c).mode = 1 ∧ (s.core c).cycles < (s.core c).tcmp) ∧
    (∃ (c : Nat) (x : TapCol) (r : List TapCol) (s : State), c < 2 ∧ (s.core c).tap = x :: r ∧ s.tapReady x = true) ∧
    (∃ (c : Nat) (s : State), (s.core c).tap = []) ∧
    (∃ (n : Nat) (s : State), n < 4 ∧ s.b (Fld.DMA_CTRL_BUSY n) = false) ∧
    (∃ (n : Nat) (s : State), s.b (Fld.DMA_CTRL_BUSY n) = true) ∧
    (∃ (n : Nat) (p : Nat) (q : Nat) (s : State), n < 4 ∧ SMap.get (fun _ => (none : Option DmaSt)) s.dma n = some { src := p, dst := q, n := 1, srcInc := true, dstInc := true } ∧ s.frozen (3 + n) = false ∧ s.dev ≠ .park ∧ p % 4 = 0 ∧ q % 4 = 0 ∧ dspMemAt p = true ∧ dspMemAt q = true ∧ s.breaks (3 + n) p false = 0 ∧ s.breaks (3 + n) q true = 0) ∧
    (∃ (m : Nat) (a : Nat) (v : Word) (s : State), (m = 0 ∨ 8 < m ∨ s.dev = .boot ∨ s.dev = .park)) ∧
    (∃ (m : Nat) (a : Nat) (v : Word) (s : State), 1 ≤ m ∧ m ≤ 8 ∧ m ≠ 7 ∧ s.dev ≠ .boot ∧ s.dev ≠ .park ∧ s.frozen m = false ∧ s.breaks m a true ≠ 0) ∧
    (∃ (m : Nat) (a : Nat) (v : Word) (s : State), 1 ≤ m ∧ m ≤ 8 ∧ s.dev ≠ .boot ∧ s.dev ≠ .park ∧ s.frozen m = false ∧ s.breaks m a true = 0 ∧ dspMemAt a = true ∧ a % 4 = 0) ∧
    (∃ (m : Nat) (a : Nat) (v : Word) (r : RegRow) (s : State), 1 ≤ m ∧ m ≤ 8 ∧ s.dev ≠ .boot ∧ s.dev ≠ .park ∧ s.frozen m = false ∧ s.breaks m a true = 0 ∧ a / 0x10000 = 8 ∧ a % 4 = 0 ∧ findReg a = some r) ∧
    (∃ (n : Nat) (errs : List Nat) (j : DmaSt) (s : State), n < 4 ∧ SMap.get (fun _ => (none : Option DmaSt)) s.dma n = some j ∧ s.frozen (3 + n) = false ∧ s.dev ≠ .park ∧ ((∀ i, i < j.n → s.breaks (3 + n) (dmaAddr j.src j.srcInc i) false = 0 ∧ s.breaks (3 + n) (dmaAddr j.dst j.dstInc i) true = 0))) ∧
    (∃ (n : Nat) (errs : List Nat) (s : State), (s.dev = .park ∨ s.frozen (3 + n) = true)) ∧
    (∃ (m : Nat) (a : Nat) (v : Word) (s : State), 1 ≤ m ∧ m ≤ 8 ∧ s.dev ≠ .boot ∧ s.dev ≠ .park ∧ s.frozen m = false ∧ s.breaks m a true = 0) :=
  ⟨⟨1, 1, (let s := wS .scan; let s : State := s.setCore 1 { s.core 1 with mode := 1 }; let s : State := s.setCore 1 { s.core 1 with ei := false }; let s : State := s.rset Reg.BUS_FROZEN 0; let s : State := s.setCore 1 (((s.core 1).csrSet 0 1).csrSet 4 (BitVec.ofNat 32 (2^1))); let s : State := { s with lines := [(1, 2^1)] }; s), by decide +kernel⟩,
   ⟨1, (let s := wS .scan; let s : State := s.setCore 1 { s.core 1 with mode := 1 }; let s : State := s.rset Reg.BUS_FROZEN 0; s), by decide +kernel⟩,
   ⟨1, 0xFFFFFFFF, (let s := wS .scan; let s : State := s.setCore 1 { s.core 1 with mode := 1 }; let s : State := s.setCore 1 { s.core 1 with inExc := false }; let s : State := s.rset Reg.BUS_FROZEN 0; s), by decide +kernel⟩,
   ⟨1, 0xFFFFFFFF, (let s := wS .scan; let s : State := s.setCore 1 { s.core 1 with mode := 1 }; let s : State := s.rset Reg.BUS_FROZEN 0; let s : State := s.setCore 1 ({ s.core 1 with inExc := true }.csrSet 2 1); s), by decide +kernel⟩,
   ⟨1, 1, (let s := wS .scan; let s : State := s.setCore 1 { s.core 1 with mode := 0 }; let s : State := { s with rst := { s.rst with sections := 0xFFF } }; s), by decide +kernel⟩,
   ⟨1, 0x1, wS .scan, by decide +kernel⟩,
   ⟨1, (let s := wS .scan; let s : State := s.setB (Fld.DSP_WDT_EN 1) true; let s : State := s.setCore 1 { s.core 1 with mode := 1 }; s), by decide +kernel⟩,
   ⟨1, 0x1, (let s := wS .scan; let s : State := s.setB (Fld.DSP_WDT_EN 1) true; let s : State := s.setCore 1 { s.core 1 with mode := 1 }; s), by decide +kernel⟩,
   ⟨1, 0x1, wS .scan, by decide +kernel⟩,
   ⟨1, (let s := wS .scan; let s : State := s.setCore 1 { s.core 1 with mode := 1 }; s), by decide +kernel⟩,
   ⟨1, ({ mcol := 1, rows := 0x8, hdr := [0x1] } : TapCol), [], (let s := wS .scan; let s : State := s.setCore 1 { s.core 1 with tap := ({ mcol := 1, rows := 0x8, hdr := [0x1] } : TapCol) :: [] }; let s : State := s.setCore 1 { s.core 1 with tap := [({ mcol := 1, rows := 0x8, hdr := [0x1] } : TapCol)] }; let s : State := { s with wort := { s.wort with done := (List.range 16).map (fun i => (1024 * ({ mcol := 1, rows := 0x8, hdr := [0x1] } : TapCol).mcol + 16*3+ i, some [])) } }; s), by decide +kernel⟩,
   ⟨1, (let s := wS .scan; let s : State := s.setCore 1 { s.core 1 with tap := [] }; s), by decide +kernel⟩,
   ⟨3, (let s := wS .scan; let s : State := s.setB (Fld.DMA_CTRL_BUSY 3) false; s), by decide +kernel⟩,
   ⟨1, (let s := wS .scan; let s : State := s.setB (Fld.DMA_CTRL_BUSY 1) true; s), by decide +kernel⟩,
   ⟨3, 135004164, 135004164, (let s := wS .scan; let s : State := { s with dma := [(3, some { src := 135004164, dst := 135004164, 3 := 1, srcInc := true, dstInc := true })] }; let s : State := s.rset (Reg.BUS_WIN_LO (2+3) 0) 3; let s : State := s.rset (Reg.BUS_WIN_HI (2+3) 0) 0xFFFFF000; let s : State := s.rset Reg.BUS_FROZEN 0; let s : State := (List.range 64).foldl (fun s i => { s with mem := SMap.set (fun _ => 0) s.mem (135004164 - 32 + i) (BitVec.ofNat 8 1) }) s; s), by decide +kernel⟩,
   ⟨0, 1, 0x1, wS .scan, by decide +kernel⟩,
   ⟨2, 1, 0x1, wS .scan, by decide +kernel⟩,
   ⟨1, 0x08040000, 0x1, (let s := wS .scan; let s : State := s.rset (Reg.BUS_WIN_LO (1-1) 0) 3; let s : State := s.rset (Reg.BUS_WIN_HI (1-1) 0) 0xFFFFF000; let s : State := s.rset Reg.BUS_FROZEN 0; let s : State := s.rset (Reg.BUS_WIN_LO 0 0) 3; let s : State := s.rset (Reg.BUS_WIN_HI 0 0) 0xFFFFF000; let s : State := s.rset Reg.BUS_FROZEN 0; s), by decide +kernel⟩,
   ⟨2, 524292, 0x1, ({ name := "LAU_THR", off := 4, n1 := 1, s1 := 4, n2 := 1, s2 := 4, reset := 0x500040, rw := 0xffffff, w1c := 0x0, wo := 0x0, rwl := 0x0, cask := 0x0, ro := 0x0 } : RegRow), (let s := wS .scan; let s : State := s.rset (Reg.BUS_WIN_LO (2-1) 0) 3; let s : State := s.rset (Reg.BUS_WIN_HI (2-1) 0) 0xFFFFF000; let s : State := s.rset Reg.BUS_FROZEN 0; s), by decide +kernel⟩,
   ⟨1, [1], ({ src := 135004164, dst := 135069700, n := 2, srcInc := true, dstInc := true } : DmaSt), (let s := wS .scan; let s : State := { s with dma := [(1, some ({ src := 135004164, dst := 135069700, n := 2, srcInc := true, dstInc := true } : DmaSt))] }; let s : State := s.rset (Reg.BUS_WIN_LO (2+1) 0) 3; let s : State := s.rset (Reg.BUS_WIN_HI (2+1) 0) 0xFFFFF000; let s : State := s.rset Reg.BUS_FROZEN 0; let s : State := s.rset (Reg.BUS_WIN_LO (2+1) 0) 0x3; let s : State := s.rset (Reg.BUS_WIN_HI (2+1) 0) 0xFFFFF000; s), by decide +kernel⟩,
   ⟨1, [1], wS .park, by decide +kernel⟩,
   ⟨2, 0x080C0000, 0x1, (let s := wS .scan; let s : State := s.rset (Reg.BUS_WIN_LO 1 0) 3; let s : State := s.rset (Reg.BUS_WIN_HI 1 0) 0xFFFFF000; let s : State := s.rset Reg.BUS_FROZEN 0; s), by decide +kernel⟩⟩

theorem met_FieldMapWriters :
    (∃ (m : Nat) (a : Nat) (s : State), 1 ≤ m ∧ m ≤ 8 ∧ fieldMapAt a = true ∧ s.frozen m = false) ∧
    (∃ (m : Nat) (a : Nat) (v : Word) (s : State), 1 ≤ m ∧ m ≤ 8 ∧ fieldMapAt a = true ∧ s.frozen m = false) ∧
    (∃ (a : Nat) (v : Word) (s : State), fieldMapAt a = true ∧ a % 4 = 0) :=
  ⟨⟨2, 33554436, wS .scan, by decide +kernel⟩,
   ⟨2, 33554436, 0x1, wS .scan, by decide +kernel⟩,
   ⟨33554436, 0x1, wS .scan, by decide +kernel⟩⟩

theorem met_BootKept : ∃ (s t : State), s.bootOk ∧ step s = .next t :=
  ⟨{ wS .scan with pending := [.resetAssert] }, _, by unfold State.bootOk; decide +kernel, next_after (wS .scan) (by decide +kernel)⟩

theorem met_StateTransitions : ∃ (c : Instr) (s t : State), s.bootOk ∧ exec c s = .next t ∧ t.dev ≠ s.dev :=
  ⟨.por true, wS .scan, _, by unfold State.bootOk; decide +kernel, next_after (wS .scan) (by decide +kernel), by decide +kernel⟩

end Sys2Proof.Machine
end

section
namespace Sys2Proof.Machine
/-! ## What a run of a single command answers -/

/-- The outcome is a next state that `q` holds of. -/
def Out.holds (q : State → Bool) : Out → Bool
  | .next t => q t
  | _ => false

theorem Out.holds_next {q : State → Bool} {o : Out} {t : State} (hq : Out.holds q o = true) (ho : o = .next t) : q t = true := by
  rw [ho] at hq; exact hq

theorem Out.next_of_holds {q : State → Bool} {o : Out} (hq : Out.holds q o = true) : ∃ t, o = .next t ∧ q t = true := by
  cases o with
  | next t => exact ⟨t, rfl, hq⟩
  | fault _ => exact absurd hq (by simp [Out.holds])
  | refused _ => exact absurd hq (by simp [Out.holds])

theorem Answers.holds {c : Instr} {s : State} {P : State → Prop} {q : State → Bool} (h : Answers c s P) (hq : Out.holds q (exec c s) = true) :
    ∃ t, P t ∧ q t = true := by
  obtain ⟨t, ht, hP⟩ := h
  exact ⟨t, hP, Out.holds_next hq ht⟩

/-! ## The record generator past its last number (R330, R331) -/

/-- An idle device whose record generator stands past its last number, with a record of its own to issue, though CASK_STAT.SEQ_END reads 0. -/
def seqPastEnd : State :=
  { State.reset with
    dev := .idle
    nvm := { State.reset.nvm with cmacKey := some [] }
    rst := { State.reset.rst with phase := .done, sections := 2 ^ 9 }
    cask := { State.reset.cask with seq := 2 ^ 32, own := [⟨1, none, []⟩] } }

theorem seqPastEnd_ready : seqPastEnd.lrsOff = false ∧ seqPastEnd.lrsRoom = true ∧ seqPastEnd.seqBasePending = false ∧ seqPastEnd.applying = false ∧
    seqPastEnd.rst.sections.testBit 9 = true := by decide +kernel

theorem lrsRecordIssue_seqPastEnd : Out.holds (·.b Fld.CASK_STAT_SEQ_END) (exec .lrsRecordIssue seqPastEnd) = true := by decide +kernel

/-- Refutes O47: the issue of a record sets SEQ_END once the number after it is past 2^32 - 1 (R330), but the fifth clause claims every register unchanged and bounds SEQ only
in its low 16 bits. The witness, with SEQ at 2^32 and SEQ_END clear, is no state that the model reaches: the clause lacks `SEQ < 2^32 - 1` as a hypothesis. -/
theorem not_caskCommands : ¬ Obligations.CaskCommands := by
  unfold Obligations.CaskCommands
  rintro ⟨-, -, -, -, hown, -⟩
  obtain ⟨hoff, hroom, hbase, happ, hsec⟩ := seqPastEnd_ready
  have hans := hown [] ⟨1, none, []⟩ seqPastEnd rfl (by decide) hoff hroom hbase happ hsec rfl (by decide)
  obtain ⟨t, ⟨-, -, -, -, -, hregs⟩, hset⟩ := hans.holds lrsRecordIssue_seqPastEnd
  have hsame : t.b Fld.CASK_STAT_SEQ_END = seqPastEnd.b Fld.CASK_STAT_SEQ_END := State.b_eq _ _ _ (by unfold State.rget; rw [hregs])
  have hclear : seqPastEnd.b Fld.CASK_STAT_SEQ_END = false := by decide +kernel
  exact Bool.noConfusion ((hset.symm.trans hsame).trans hclear)

/-! ## A receive channel beyond the last one (R166, R174) -/

/-- A swap waits for the end of the sparge, and a map is staged for the receive channel 13316, of which the device has none: the
address of its RX_TDC register is MASH_STAT's. -/
def strayChannelSwap : State :=
  { State.reset with
    dev := .scan
    regs := [(Reg.MASH_STAT, 1)]
    rst := { State.reset.rst with phase := .done }
    chans := [(13316, { staged := some ([], 0, 0) })]
    mash := { State.reset.mash with sparging := true, swapPend := true, closeJ := 16 } }

theorem spargeEnd_strayChannelSwap : Out.holds (·.b Fld.MASH_STAT_BANK) (exec (.spargeEnd 1) strayChannelSwap) = true := by decide +kernel

/-- Refutes O32: the delayed swap activates the staged map of every channel that the state lists, and RX_TDC.VALID of the channel 13316 is the bit of MASH_STAT.BANK, which so
does not change over as the last clause claims. The witness is no state that the model reaches: the clause lacks a hypothesis that the channels listed are below 1024. -/
theorem not_columnEnd : ¬ Obligations.ColumnEnd := by
  unfold Obligations.ColumnEnd
  rintro ⟨-, -, -, -, -, -, -, -, hswap⟩
  have hans := hswap 1 strayChannelSwap rfl rfl (by decide)
  obtain ⟨t, ⟨-, -, hbank, -⟩, hset⟩ := hans.holds spargeEnd_strayChannelSwap
  have hwas : strayChannelSwap.b Fld.MASH_STAT_BANK = true := by decide +kernel
  rw [hwas] at hbank
  exact Bool.noConfusion (hset.symm.trans hbank)

end Sys2Proof.Machine
end

section
namespace Sys2Proof.Machine

/-! ## The late trigger at the hold-off's end writes a tap column (R106, R348) -/

theorem State.dropOldest_mem {s : State} {m : Nat} (h : (s.lau.cols.drop 1).head?.map LauCol.mcol = some m) : s.dropOldest.mem = (s.tapFlush m).mem := by
  unfold State.dropOldest
  cases hcols : s.lau.cols.drop 1 with
  | nil => rw [hcols] at h; simp at h
  | cons c r =>
    rw [hcols] at h
    obtain rfl : c.mcol = m := by simpa using h
    exact State.wortForget_mem _ _

/-- The column that closes is no longer the one to close. -/
def State.closed (s : State) : State := s.withScan { s.scan with closing := none }

theorem State.finishClose_mem {s : State} (h : s.scan.closing.isSome = true) : s.finishClose.mem = s.closed.dropOldest.mem := by
  unfold State.finishClose
  cases hc : s.scan.closing with
  | none => rw [hc] at h; simp at h
  | some c => simp [State.closed]

theorem State.columnSwap_eq {s : State} {t : Nat} {g : Grant} (h : (s.mashTrigger t g).mash.swapPend = false) :
    s.columnSwap t g = (s.mashTrigger t g).finishClose := by
  simp [State.columnSwap, h]

/-- The state in which a trigger at `t` finds its column closed and the next one, with the grant `g`, opened. -/
def State.opened (s : State) (t az : Nat) (g : Grant) (rest : List (Nat × Bool)) (fue : List Nat) (late : Bool) : State :=
  let s := if late then (s.raise Cause.SCAN_LATE).incSat Fld.SCAN_CNT_LATES 1 else s
  let s := (s.closeColumn t s.scan.sos fue).latchColumn
  let s := s.withScan { s.scan with todo := rest }
  (s.openColumn t g).guardTrigger az

theorem State.fireTrigger_eq {s : State} {t az : Nat} {rest : List (Nat × Bool)} {bad fue : List Nat} {late : Bool} {g : Grant}
    (hnone : s.scan.next = none) (hg : (s.grantAt az rest t t bad).scan.next = some g) :
    s.fireTrigger t az rest bad fue late = ((s.grantAt az rest t t bad).opened t az g rest fue late).columnSwap t g := by
  simp only [State.fireTrigger, hnone, Option.any_none, Bool.false_eq_true, if_false, hg]
  rfl

theorem State.latePass_pair (s : State) (t : Nat) (x y : Nat × Bool) (bad fue : List Nat) :
    s.latePass t [x, y] bad fue = (s.skipTarget x).fireTrigger t y.1 ((s.skipTarget x).scan.todo.drop 1) bad fue true := rfl

/-- Of two targets passed, `x` is skipped and `y`, with none behind it, triggers late. `G` is the state with the grant of `y`, `M` the one whose column's end is marked: the
Lauter's oldest column then goes to the tap rings. -/
theorem State.latePass_pair_mem {s G M : State} {t m : Nat} {x y : Nat × Bool} {bad fue : List Nat} {g : Grant}
    (hnone : (s.skipTarget x).scan.next = none) (htodo : (s.skipTarget x).scan.todo.drop 1 = [])
    (hG : (s.skipTarget x).grantAt y.1 [] t t bad = G) (hg : G.scan.next = some g)
    (hM : (G.opened t y.1 g [] fue true).mashTrigger t g = M) (hswap : M.mash.swapPend = false) (hclosing : M.scan.closing.isSome = true)
    (holdest : (M.closed.lau.cols.drop 1).head?.map LauCol.mcol = some m) :
    (s.latePass t [x, y] bad fue).mem = (M.closed.tapFlush m).mem := by
  subst hG hM
  rw [State.latePass_pair, htodo, State.fireTrigger_eq hnone hg, State.columnSwap_eq hswap, State.finishClose_mem hclosing, State.dropOldest_mem holdest]

/-- The running column holds the engine off, two targets are passed, and the older of the Lauter's two columns is next in the tap of core 0, whose ring is the first
word of the core's memory. -/
def latePassTapped : State :=
  { State.reset with
    dev := .scan
    regs := [(Reg.DSP_TAPBASE 0, 0), (Reg.DSP_TAPSIZE 0, 0), (Reg.DSP_TAPWR 0, 0)]
    rst := { State.reset.rst with phase := .done }
    scan := { State.reset.scan with cur := some {}, todo := [(1, true), (2, true)], samples := [{ theta := 3 * 4096, code := 3, t := 0 }] }
    lau := { cols := [{}, {}] }
    cores := [(0, { State.reset.core 0 with tap := [{ mcol := 0, rows := 0, hdr := [1] }] })] }

/-- The hold-off of `latePassTapped` has ended. -/
def rearmed : State := latePassTapped.withScan { latePassTapped.scan with armed := true }

/-- The first of the two targets is skipped and the second has its grant, the late trigger's. -/
def lateGranted : State := (rearmed.skipTarget (1, true)).grantAt 2 [] 1000000 1000000 []

def lateGrant : Grant := lateGranted.scan.next.getD {}

/-- The late trigger has opened its column and marked the end of the one before it. -/
def lateMarked : State := (lateGranted.opened 1000000 2 lateGrant [] [] true).mashTrigger 1000000 lateGrant

theorem passed_rearmed : rearmed.triggers = true ∧ rearmed.scanMode = 0 ∧ rearmed.passed = [(1, true), (2, true)] := by decide +kernel

theorem holdoffExpiry_latePassTapped : exec (.holdoffExpiry 1000000 [] []) latePassTapped = .next (rearmed.latePass 1000000 [(1, true), (2, true)] [] []) := by
  obtain ⟨htrig, hmode, hpassed⟩ := passed_rearmed
  have hover : (latePassTapped.dev = .scan && latePassTapped.scan.cur.isSome && !latePassTapped.scan.armed && latePassTapped.holdoffOver 1000000) = true := by decide +kernel
  change execHoldoffExpiry 1000000 [] latePassTapped [] = _
  unfold execHoldoffExpiry
  rw [if_pos hover]
  change Host.Outcome.next (if rearmed.triggers && rearmed.scanMode != 1 && 2 ≤ rearmed.passed.length then rearmed.latePass 1000000 rearmed.passed [] [] else _) = _
  rw [htrig, hmode, hpassed]
  exact congrArg _ (if_pos (by decide))

theorem lateGranted_next : lateGranted.scan.next = some lateGrant := by
  have hsome : lateGranted.scan.next.isSome = true := by decide +kernel
  obtain ⟨g, hg⟩ := Option.isSome_iff_exists.mp hsome
  simp [lateGrant, hg]

theorem latePass_rearmed_mem : (rearmed.latePass 1000000 [(1, true), (2, true)] [] []).mem = (lateMarked.closed.tapFlush 0).mem := by
  have hnone : (rearmed.skipTarget (1, true)).scan.next = none := by decide +kernel
  have htodo : (rearmed.skipTarget (1, true)).scan.todo.drop 1 = [] := by decide +kernel
  have hswap : lateMarked.mash.swapPend = false := by decide +kernel
  have hclosing : lateMarked.scan.closing.isSome = true := by decide +kernel
  have holdest : (lateMarked.closed.lau.cols.drop 1).head?.map LauCol.mcol = some 0 := by decide +kernel
  exact State.latePass_pair_mem hnone htodo (G := lateGranted) (Eq.refl lateGranted) lateGranted_next (Eq.refl lateMarked) hswap hclosing holdest

theorem tapFlush_lateMarked : (lateMarked.closed.tapFlush 0).mget (coreBase 0 + 0x60000) = 1 := by decide +kernel

/-- Refutes O7: of two targets passed at the hold-off's end the last triggers late (R106), its column's start drops the oldest column of the Lauter, and what is tapped of that
one is stored in the core's ring (R348). HOLDOFF_EXPIRY is missing from `storing`. -/
theorem not_memoryFrame : ¬ Obligations.MemoryFrame := by
  unfold Obligations.MemoryFrame
  intro h
  have hkept := h _ latePassTapped _ rfl holdoffExpiry_latePassTapped (coreBase 0 + 0x60000)
  have hstored : (rearmed.latePass 1000000 [(1, true), (2, true)] [] []).mget (coreBase 0 + 0x60000) = 1 := by
    unfold State.mget
    rw [latePass_rearmed_mem]
    exact tapFlush_lateMarked
  have hwas : latePassTapped.mget (coreBase 0 + 0x60000) = 0 := by decide +kernel
  exact absurd (hstored.symm.trans (hkept.trans hwas)) (by decide)

end Sys2Proof.Machine
end

section
namespace Sys2Proof.Machine

/-! # What the trigger engine shows -/

/-- The part of the state that the statements on grants, triggers and the clear of the Tun speak of: the engine's own fields, the azimuth of the running column,
and the two register bits SCAN_FLAG.LATE and MASH_STAT.CLR_BUSY. -/
structure Engine where
  todo : List (Nat × Bool)
  armed : Bool
  tTrig : Nat
  next : Option Grant
  az : Option Nat
  stareN : Nat
  clearing : Bool
  late : Bool
  clrBusy : Bool

/-- The engine's part of a state. -/
def State.engine (s : State) : Engine :=
  { todo := s.scan.todo, armed := s.scan.armed, tTrig := s.scan.tTrig, next := s.scan.next, az := s.scan.cur.map (·.az), stareN := s.scan.stareN,
    clearing := s.scan.clearing, late := s.causeSet Cause.SCAN_LATE, clrBusy := s.b Fld.MASH_STAT_CLR_BUSY }

/-- A field that shares no bit with the two that `State.engine` shows. -/
def Fld.offEngine (F : Fld) : Bool := F.fits && Cause.SCAN_LATE.fld.apart F && Fld.MASH_STAT_CLR_BUSY.apart F

/-- A cause whose bit and counter share no bit with the two that `State.engine` shows. -/
def Cause.offEngine (c : Cause) : Bool := c.fld.offEngine && c.cnt.offEngine

/-! ## Single updates -/

theorem State.engine_ite (c : Prop) [Decidable c] (a b : State) : (if c then a else b).engine = if c then a.engine else b.engine := by
  split <;> rfl

theorem State.engine_congr {s t : State} (h : t.scan = s.scan) (hl : t.causeSet Cause.SCAN_LATE = s.causeSet Cause.SCAN_LATE)
    (hb : t.b Fld.MASH_STAT_CLR_BUSY = s.b Fld.MASH_STAT_CLR_BUSY) : t.engine = s.engine := by
  simp only [State.engine, h, hl, hb]

/-- Where neither scan part nor registers change, the engine shows the same. -/
theorem State.engine_of_regs {s t : State} (h : t.scan = s.scan) (hr : t.regs = s.regs) : t.engine = s.engine :=
  State.engine_congr h (State.b_eq _ _ _ (by unfold State.rget; rw [hr])) (State.b_eq _ _ _ (by unfold State.rget; rw [hr]))

@[simp] theorem State.setF_engine {F : Fld} (h : F.offEngine = true) (s : State) (x : Nat) : (s.setF F x).engine = s.engine := by
  simp only [Fld.offEngine, Bool.and_eq_true] at h
  obtain ⟨⟨hf, hl⟩, hb⟩ := h
  exact State.engine_congr rfl (State.b_setF_apart s _ F x hf hl) (State.b_setF_apart s _ F x hf hb)
@[simp] theorem State.setB_engine {F : Fld} (h : F.offEngine = true) (s : State) (p : Bool) : (s.setB F p).engine = s.engine := State.setF_engine h s _
@[simp] theorem State.setFs_engine {F : Fld} (h : F.offEngine = true) (s : State) (x : Int) : (s.setFs F x).engine = s.engine := State.setF_engine h s _
@[simp] theorem State.incSat_engine {F : Fld} (h : F.offEngine = true) (s : State) (n : Nat) : (s.incSat F n).engine = s.engine := State.setF_engine h s _
@[simp] theorem State.incMod_engine {F : Fld} (h : F.offEngine = true) (s : State) (n : Nat) : (s.incMod F n).engine = s.engine := State.setF_engine h s _

@[simp] theorem State.raise_engine {c : Cause} (h : c.offEngine = true) (s : State) : (s.raise c).engine = s.engine := by
  simp only [Cause.offEngine, Bool.and_eq_true] at h
  rw [State.raise_eq, State.setF_engine h.1, State.incSat_engine h.2]
@[simp] theorem State.raiseIf_engine {c : Cause} (h : c.offEngine = true) (s : State) (p : Bool) : (s.raiseIf p c).engine = s.engine := by
  cases p
  · rfl
  · exact State.raise_engine h s

theorem State.rset_engine {a : Nat} (h1 : a ≠ Reg.SCAN_FLAG) (h2 : a ≠ Reg.MASH_STAT) (s : State) (v : Word) : (s.rset a v).engine = s.engine :=
  State.engine_congr rfl (State.b_eq _ _ _ (State.rget_rset_ne _ _ _ _ h1.symm)) (State.b_eq _ _ _ (State.rget_rset_ne _ _ _ _ h2.symm))

/-- SCAN_FLAG.LATE sets. -/
theorem State.raise_late_engine (s : State) : (s.raise Cause.SCAN_LATE).engine = { s.engine with late := true } := by
  have hl : (s.raise Cause.SCAN_LATE).causeSet Cause.SCAN_LATE = true := State.b_raise_self s _ (by decide)
  have hb : (s.raise Cause.SCAN_LATE).b Fld.MASH_STAT_CLR_BUSY = s.b Fld.MASH_STAT_CLR_BUSY :=
    State.b_raise_apart s _ _ (by decide) (by decide) (by decide) (by decide)
  simp only [State.engine, hl, hb, State.raise_scan]

@[simp] theorem State.withEff_engine (s : State) (x : SMap Word) : (s.withEff x).engine = s.engine := (rfl)
@[simp] theorem State.withNvm_engine (s : State) (x : Nvm) : (s.withNvm x).engine = s.engine := (rfl)
@[simp] theorem State.withEmit_engine (s : State) (x : EmitSt) : (s.withEmit x).engine = s.engine := (rfl)
@[simp] theorem State.withKiln_engine (s : State) (x : KilnSt) : (s.withKiln x).engine = s.engine := (rfl)
@[simp] theorem State.withChans_engine (s : State) (x : SMap ChanSt) : (s.withChans x).engine = s.engine := (rfl)
@[simp] theorem State.withClus_engine (s : State) (x : SMap CluSt) : (s.withClus x).engine = s.engine := (rfl)
@[simp] theorem State.withMash_engine (s : State) (x : MashSt) : (s.withMash x).engine = s.engine := (rfl)
@[simp] theorem State.withLau_engine (s : State) (x : LauSt) : (s.withLau x).engine = s.engine := (rfl)
@[simp] theorem State.withWort_engine (s : State) (x : WortSt) : (s.withWort x).engine = s.engine := (rfl)
@[simp] theorem State.withGuard_engine (s : State) (x : GuardSt) : (s.withGuard x).engine = s.engine := (rfl)
@[simp] theorem State.withCask_engine (s : State) (x : CaskSt) : (s.withCask x).engine = s.engine := (rfl)
@[simp] theorem State.setStr_engine (s : State) (n : Nat) (x : StrSt) : (s.setStr n x).engine = s.engine := (rfl)
@[simp] theorem State.setChan_engine (s : State) (c : Nat) (x : ChanSt) : (s.setChan c x).engine = s.engine := (rfl)
@[simp] theorem State.setCluster_engine (s : State) (k : Nat) (x : CluSt) : (s.setCluster k x).engine = s.engine := (rfl)
@[simp] theorem State.modCore_engine (s : State) (c : Nat) (g : CoreSt → CoreSt) : (s.modCore c g).engine = s.engine := (rfl)
@[simp] theorem State.modStream_engine (s : State) (st : Nat) (g : StreamSt → StreamSt) : (s.modStream st g).engine = s.engine := (rfl)
@[simp] theorem State.line_engine (s : State) (c i : Nat) : (s.line c i).engine = s.engine := (rfl)
@[simp] theorem State.msetW_engine (s : State) (a : Nat) (v : Word) : (s.msetW a v).engine = s.engine := (rfl)
@[simp] theorem State.fresh_engine (s : State) : s.fresh.2.engine = s.engine := (rfl)
@[simp] theorem State.latchColumn_engine (s : State) : s.latchColumn.engine = s.engine := (rfl)
@[simp] theorem State.emxRelatch_engine (s : State) : s.emxRelatch.engine = s.engine := (rfl)

/-- A fold of updates that the engine does not see. -/
theorem foldl_engine {α : Type} {g : State → α → State} {l : List α} (h : ∀ s, ∀ x ∈ l, (g s x).engine = s.engine) (s : State) :
    (l.foldl g s).engine = s.engine := by
  induction l generalizing s with
  | nil => rfl
  | cons x l ih =>
    rw [List.foldl_cons, ih (fun s y hy => h s y (List.mem_cons_of_mem _ hy)), h s x List.mem_cons_self]

@[simp] theorem State.nvmKick_engine (s : State) : s.nvmKick.engine = s.engine := by
  obtain ⟨n, e⟩ := State.nvmKick_form s
  rw [e]; rfl
@[simp] theorem State.logEvent_engine (s : State) (c : Nat) (x y : Word) : (s.logEvent c x y).engine = s.engine := by
  unfold State.logEvent
  split
  · simp
  · exact State.incSat_engine (by decide) _ _

/-! ## The Guard's part -/

@[simp] theorem State.soutOff_engine (s : State) : s.soutOff.engine = s.engine := by
  unfold State.soutOff
  split
  · simp (disch := decide)
  · rfl
@[simp] theorem State.setGsweep_engine (s : State) (n : Nat) (x : GSweep) : (s.setGsweep n x).engine = s.engine := (rfl)
@[simp] theorem State.confirm_engine (s : State) : s.confirm.engine = s.engine := by
  unfold State.confirm
  simp (disch := decide)

@[simp] theorem State.intrude_engine (s : State) (n f : Nat) : (s.intrude n f).engine = s.engine := by
  unfold State.intrude
  dsimp only
  split
  · simp (disch := decide)
  · split <;> simp (disch := decide)
@[simp] theorem State.guardSkip_engine (s : State) (az : Nat) : (s.guardSkip az).engine = s.engine := by
  unfold State.guardSkip
  split <;> simp
@[simp] theorem State.guardColumn_engine (s : State) (m az n : Nat) (inh : Bool) : (s.guardColumn m az n inh).engine = s.engine := by
  unfold State.guardColumn
  split
  · rfl
  · simp (disch := decide)
@[simp] theorem State.guardTrigger_engine (s : State) (az : Nat) : (s.guardTrigger az).engine = s.engine := by
  unfold State.guardTrigger
  split <;> simp
@[simp] theorem State.guardSweepBegin_engine (s : State) : s.guardSweepBegin.engine = s.engine := by
  unfold State.guardSweepBegin
  split <;> simp

/-! ## Grants: demand, models and eye-safety set-points -/

theorem Fld.emitDemand_off : ∀ n < 8, (Fld.EMIT_DAC_DEMAND n).offEngine = true := by decide
theorem Fld.ctlCsp_off : ∀ n < 8, ∀ j < 4, (Fld.CTL_CSP_SP n j).offEngine = true := by decide
theorem Fld.kilnTj_off : ∀ n < 8, (Fld.KILN_TJ_TJ n).offEngine = true := by decide
theorem Reg.kilnModels_off : ∀ n < 8, Reg.KILN_DT n ≠ Reg.SCAN_FLAG ∧ Reg.KILN_DT n ≠ Reg.MASH_STAT ∧ Reg.KILN_BKT n ≠ Reg.SCAN_FLAG ∧
    Reg.KILN_BKT n ≠ Reg.MASH_STAT := by decide

theorem State.updateTj_engine {n : Nat} (hn : n < 8) (s : State) : (s.updateTj n).engine = s.engine := by
  unfold State.updateTj
  rw [State.setF_engine (Fld.ctlCsp_off n hn 2 (by decide)), State.setFs_engine (Fld.kilnTj_off n hn)]
theorem State.decayString_engine {n : Nat} (hn : n < 8) (s : State) (dt : Nat) : (s.decayString dt n).engine = s.engine := by
  obtain ⟨h1, h2, h3, h4⟩ := Reg.kilnModels_off n hn
  unfold State.decayString
  rw [State.updateTj_engine hn, State.rset_engine h3 h4, State.rset_engine h1 h2]
@[simp] theorem State.decayStep_engine (s : State) (dt : Nat) : (s.decayStep dt).engine = s.engine :=
  foldl_engine (fun s _ hn => State.decayString_engine (List.mem_range.1 hn) s dt) s
@[simp] theorem State.decayTo_engine (s : State) (t : Nat) : (s.decayTo t).engine = s.engine := by
  unfold State.decayTo State.decaySteps
  simp only [State.withKiln_engine, State.decayStep_engine]
  exact foldl_engine (fun s _ _ => State.decayStep_engine s _) s

theorem State.comingDemand_engine {n : Nat} (hn : n < 8) (s : State) : (s.comingDemand n).engine = s.engine := by
  unfold State.comingDemand
  split
  · exact State.setF_engine (Fld.emitDemand_off n hn) _ _
  · rfl
theorem State.demandTarget_engine {n : Nat} (hn : n < 8) (s : State) : (s.demandTarget n).engine = s.engine :=
  State.setF_engine (Fld.ctlCsp_off n hn 0 (by decide)) _ _
@[simp] theorem State.planUe_engine (s : State) (i : Nat) : (s.planUe i).engine = s.engine := by
  unfold State.planUe
  simp (disch := decide)
@[simp] theorem State.tPred_engine (s : State) (t : Nat) (rest : List (Nat × Bool)) : (s.tPred t rest).2.engine = s.engine := by
  unfold State.tPred
  split
  · rfl
  · split
    · split <;> simp
    · split
      · rfl
      · split <;> rfl
@[simp] theorem State.eyeTargets_engine (s : State) (g : Grant) (az : Option Nat) : (s.eyeTargets g az).engine = s.engine := by
  unfold State.eyeTargets
  refine foldl_engine (fun s n hn => ?_) s
  dsimp only
  split
  · rfl
  · exact State.setF_engine (Fld.ctlCsp_off n (List.mem_range.1 hn) 1 (by decide)) _ _

/-! ## The strings' next shots -/

@[simp] theorem State.reduceEntry_engine (s : State) (i c : Nat) : (s.reduceEntry i c).engine = s.engine := by
  unfold State.reduceEntry
  split
  · rfl
  · next g hg => simp only [State.engine, hg]; rfl
@[simp] theorem State.dropDark_engine (s : State) (n : Nat) : (s.dropDark n).engine = s.engine := by
  unfold State.dropDark
  rw [State.setStr_engine]
  exact foldl_engine (fun s _ _ => State.reduceEntry_engine s _ _) s
theorem State.noShot_engine {n : Nat} (hn : n < 8) (s : State) : (s.noShot n).engine = s.engine := by
  unfold State.noShot
  rw [State.comingDemand_engine hn, State.setStr_engine]
theorem State.schedule_engine {n : Nat} (hn : n < 8) (s : State) : (s.schedule n).engine = s.engine := by
  have hd : (Fld.EMIT_DAC_DEMAND n).offEngine = true := Fld.emitDemand_off n hn
  unfold State.schedule
  split
  · simp
  · split
    · simp [hd]
    · dsimp only
      split
      · split
        · simp [hd]
        · rw [State.noShot_engine hn, State.setStr_engine, foldl_engine (fun s _ _ => State.reduceEntry_engine s _ _), State.dropDark_engine]
      · split
        · simp [hd]
        · rw [State.noShot_engine hn, State.dropDark_engine]
theorem State.scheduleD_engine {n : Nat} (hn : n < 8) (s : State) : (s.scheduleD n).engine = s.engine := by
  unfold State.scheduleD
  rw [State.emxRelatch_engine, State.demandTarget_engine hn, State.schedule_engine hn]
@[simp] theorem State.takeSlot_engine (s : State) (n : Nat) : (s.takeSlot n).engine = s.engine := by
  unfold State.takeSlot
  dsimp only
  split <;> simp
theorem State.isoPlace_engine {n : Nat} (hn : n < 8) (s : State) (stage bits : Nat) : (s.isoPlace n stage bits).engine = s.engine := by
  unfold State.isoPlace
  rw [State.scheduleD_engine hn, State.setStr_engine, State.takeSlot_engine]
theorem State.beginString_engine {n : Nat} (hn : n < 8) (s : State) (q : List PShot) : (s.beginString n q).engine = s.engine := by
  unfold State.beginString
  dsimp only
  split
  · rw [State.scheduleD_engine hn, State.setStr_engine]
  · simp
  · simp
  · rw [State.isoPlace_engine hn, State.setStr_engine]

/-! ## Windows, maps and the bank swap -/

@[simp] theorem State.modAcc_engine (s : State) (k : Nat) (g : ColAcc → ColAcc) : (s.modAcc k g).engine = s.engine := (rfl)
@[simp] theorem State.modChAcc_engine (s : State) (c : Nat) (old : Bool) (g : ChAcc → ChAcc) : (s.modChAcc c old g).engine = s.engine := (rfl)
@[simp] theorem State.windowGone_engine (s : State) (k : Nat) (w : Win) (t : Nat) (cut : Bool) : (s.windowGone k w t cut).engine = s.engine := by
  unfold State.windowGone
  cases cut <;> rfl
@[simp] theorem State.closeExpired_engine (s : State) (k t : Nat) : (s.closeExpired k t).engine = s.engine := by
  unfold State.closeExpired
  exact foldl_engine (fun s _ _ => State.windowGone_engine s _ _ _ _) _
@[simp] theorem State.closeAmb_engine (s : State) : s.closeAmb.engine = s.engine := by
  unfold State.closeAmb
  exact foldl_engine (fun s _ _ => foldl_engine (fun s _ _ => State.modChAcc_engine s _ _ _) s) s

/-- A channel's map registers lie above SCAN_FLAG, and leave bit 1 of a word alone. -/
theorem Fld.rxTdc_off (c : Nat) : (Fld.RX_TDC_DNL c).offEngine = true ∧ (Fld.RX_TDC_VALID c).offEngine = true ∧ (Fld.RX_TDC_MAPGEN c).offEngine = true := by
  have h : (0x4004C : Nat) ≠ 0x63000 + 4 * c := by omega
  simp [Fld.offEngine, Fld.fits, Fld.apart, Cause.fld, causeReg, Cause.SCAN_LATE, Fld.RX_TDC_DNL, Fld.RX_TDC_VALID, Fld.RX_TDC_MAPGEN,
    Fld.MASH_STAT_CLR_BUSY, Reg.SCAN_FLAG, h]
theorem Fld.rxAmbc_off : ∀ c < 1024, (Fld.RX_AMBC_K c).offEngine = true ∧ (Fld.RX_AMBC_RATE c).offEngine = true ∧ (Fld.RX_AMBC_EVT c).offEngine = true ∧
    (Fld.RX_AMBC_STALE c).offEngine = true := by
  intro c hc
  have h : (0x4004C : Nat) ≠ 0x62000 + 4 * c := by omega
  have h' : (0x70010 : Nat) ≠ 0x62000 + 4 * c := by omega
  simp [Fld.offEngine, Fld.fits, Fld.apart, Cause.fld, causeReg, Cause.SCAN_LATE, Fld.RX_AMBC_K, Fld.RX_AMBC_RATE, Fld.RX_AMBC_EVT, Fld.RX_AMBC_STALE,
    Fld.MASH_STAT_CLR_BUSY, Reg.SCAN_FLAG, h, h']

@[simp] theorem State.activateMap_engine (s : State) (c : Nat) (map : List Nat) (dnl : Nat) : (s.activateMap c map dnl).engine = s.engine := by
  obtain ⟨hd, hv, -⟩ := Fld.rxTdc_off c
  unfold State.activateMap
  dsimp only
  split <;> simp (disch := decide) [State.setB_engine hv, State.setF_engine hd]
@[simp] theorem State.switchMaps_engine (s : State) (t : Nat) : (s.switchMaps t).engine = s.engine := by
  unfold State.switchMaps
  refine foldl_engine (fun s c _ => ?_) s
  dsimp only
  split
  · split
    · rw [State.setChan_engine, State.incMod_engine (Fld.rxTdc_off c).2.2, State.activateMap_engine]
    · rfl
  · rfl
@[simp] theorem State.markMaps_engine (s : State) : s.markMaps.engine = s.engine := by
  unfold State.markMaps
  refine foldl_engine (fun s c _ => ?_) s
  dsimp only
  split <;> simp
theorem State.showAmb_engine {c : Nat} (hc : c < 1024) (s : State) (a : Amb) : (s.showAmb c a).engine = s.engine := by
  obtain ⟨h1, h2, h3, h4⟩ := Fld.rxAmbc_off c hc
  unfold State.showAmb
  rw [State.setB_engine h4, State.setF_engine h3, State.setF_engine h2, State.setF_engine h1]
theorem State.markStale_engine {k : Nat} (hk : k < 64) (s : State) : (s.markStale k).engine = s.engine := by
  unfold State.markStale
  rw [foldl_engine (fun s j hj => State.showAmb_engine ?_ s _), State.raise_engine (by decide)]
  have := List.mem_range.1 (List.mem_filter.1 hj).1
  omega
@[simp] theorem State.doSwap_engine (s : State) (t : Nat) : (s.doSwap t).engine = s.engine := by
  unfold State.doSwap
  dsimp only
  rw [foldl_engine]
  · simp (disch := decide)
  · intro s k hk
    split
    · exact State.markStale_engine (List.mem_range.1 hk) s
    · rfl
/-- The clusters' windows close at the trigger and their parts of the new column begin. -/
@[simp] theorem State.mashTrigger_engine (s : State) (t : Nat) (g : Grant) : (s.mashTrigger t g).engine = s.engine := by
  unfold State.mashTrigger
  dsimp only
  have key : ∀ p : State, p.engine = s.engine → (if p.mash.sparging then p.withMash { p.mash with swapPend := true } else p.doSwap t).engine = s.engine := by
    intro p hp
    split <;> simpa using hp
  refine key _ (foldl_engine (fun s k _ => ?_) s)
  rw [State.setCluster_engine]
  split <;> simp

/-! ## Tap, streams and Lauter at the swap -/

@[simp] theorem State.tapWord_engine {c : Nat} (hc : (Fld.DSP_TAPWR_OFS c).offEngine = true) (s : State) (w : Word) : (s.tapWord c w).engine = s.engine := by
  unfold State.tapWord
  rw [State.setF_engine hc, State.msetW_engine]
@[simp] theorem State.tapWrite_engine {c : Nat} (hc : (Fld.DSP_TAPWR_OFS c).offEngine = true) (s : State) : (s.tapWrite c).engine = s.engine := by
  unfold State.tapWrite
  split
  · rfl
  · rw [State.line_engine, State.modCore_engine, foldl_engine (fun s w _ => State.tapWord_engine hc s w)]
@[simp] theorem State.tapFlush_engine (s : State) (m : Nat) : (s.tapFlush m).engine = s.engine := by
  unfold State.tapFlush
  refine foldl_engine (fun s c hc => ?_) s
  have hoff : ∀ c ∈ [0, 1], (Fld.DSP_TAPWR_OFS c).offEngine = true := by decide
  split
  · rfl
  · split
    · exact State.tapWrite_engine (hoff c hc) s
    · rfl
@[simp] theorem State.tapReserve_engine {c : Nat} (h1 : (Fld.DSP_TAPDROP_COUNT c).offEngine = true) (h2 : (Cause.DSP_TAPDROP c).offEngine = true) (s : State)
    (i : ColInfo) : (s.tapReserve c i).engine = s.engine := by
  unfold State.tapReserve
  split
  · rfl
  · dsimp only
    split
    · rw [State.line_engine, State.raise_engine h2, State.incSat_engine h1]
    · simp

@[simp] theorem State.omitFrame_engine (s : State) (st frame cause : Nat) : (s.omitFrame st frame cause).engine = s.engine := by
  unfold State.omitFrame
  dsimp only
  split
  · simp
  · split <;> simp (disch := decide)
@[simp] theorem State.setDgOpen_engine (s : State) (k : Nat) (d : Option (List OutRec × Nat)) : (s.setDgOpen k d).engine = s.engine := (rfl)
@[simp] theorem State.closeDgram_engine (s : State) (k : Nat) : (s.closeDgram k).engine = s.engine := by
  unfold State.closeDgram
  split <;> simp
@[simp] theorem State.dgramAdd_engine (s : State) (k : Nat) (r : OutRec) : (s.dgramAdd k r).engine = s.engine := by
  unfold State.dgramAdd
  dsimp only
  rw [State.setDgOpen_engine]
  split <;> simp
@[simp] theorem State.writeRec_engine (s : State) (st : Nat) (r : OutRec) : (s.writeRec st r).engine = s.engine := by
  unfold State.writeRec
  dsimp only
  split <;> simp (disch := decide)
@[simp] theorem State.startHead_engine (s : State) (st : Nat) : (s.startHead st).engine = s.engine := by
  unfold State.startHead
  split
  · rfl
  · split
    · rfl
    · dsimp only
      rw [foldl_engine (fun s x _ => State.writeRec_engine s st x)]
      simp (disch := decide)
@[simp] theorem State.finishHead_engine (s : State) (st : Nat) : (s.finishHead st).engine = s.engine := by
  unfold State.finishHead
  dsimp only
  rw [State.startHead_engine]
  split <;> simp
@[simp] theorem State.settle_engine (s : State) (st k : Nat) : (s.settle st k).engine = s.engine := by
  induction k generalizing s with
  | zero => rfl
  | succ k ih =>
    unfold State.settle
    split
    · rfl
    · dsimp only
      split
      · rw [ih, State.finishHead_engine, State.modStream_engine]
      · simp
@[simp] theorem State.emitEcho_engine (s : State) (st : Nat) : (s.emitEcho st).engine = s.engine := by
  unfold State.emitEcho
  dsimp only
  split
  · simp
  · split
    · simp
    · split <;> simp
@[simp] theorem State.emitAll_engine (s : State) (st k : Nat) : (s.emitAll st k).engine = s.engine := by
  induction k generalizing s with
  | zero => rfl
  | succ k ih => rw [State.emitAll, ih, State.emitEcho_engine]
@[simp] theorem State.wortForget_engine (s : State) (m : Nat) : (s.wortForget m).engine = s.engine := by
  unfold State.wortForget State.forgetDone
  simp
@[simp] theorem State.wortSkip_engine (s : State) : s.wortSkip.engine = s.engine := by
  unfold State.wortSkip
  dsimp only
  rw [State.omitFrame_engine]
  split <;> simp
@[simp] theorem State.admitCol_engine (s : State) (st : Nat) (c : ColInfo) : (s.admitCol st c).engine = s.engine := by
  have hovf : (if st = 0 then Cause.WORT_OVF else Cause.WORT_ETH_OVF).offEngine = true := by split <;> decide
  have hdec : Cause.WORT_DEC.offEngine = true := by decide
  have hold : Cause.WORT_ANCH_OLD.offEngine = true := by decide
  have hframe : Fld.WORT_FRAME_FRAME.offEngine = true := by decide
  simp only [State.admitCol, State.engine_ite, State.modStream_engine, State.omitFrame_engine, State.raise_engine hovf, State.raiseIf_engine hdec,
    State.raiseIf_engine hold, State.setF_engine hframe, State.startHead_engine, State.settle_engine, ite_self]
@[simp] theorem State.lauLatch_engine (s : State) (col : LauCol) (fue : List Nat) : (s.lauLatch col fue).engine = s.engine := by
  unfold State.lauLatch
  dsimp only
  rw [State.withLau_engine]
  refine foldl_engine (fun s _ _ => ?_) s
  simp (disch := decide)

/-! ## The end of a column -/

@[simp] theorem State.lrsOwn_engine (s : State) (first : Bool) (kind : Nat) (data : List Word) : (s.lrsOwn first kind data).engine = s.engine := by
  unfold State.lrsOwn
  split <;> rfl
@[simp] theorem State.caskBoundary_engine (s : State) : s.caskBoundary.engine = s.engine := by
  unfold State.caskBoundary
  dsimp only
  split
  · simp (disch := decide)
  · split <;> simp (disch := decide)
@[simp] theorem State.kilnLast_engine (s : State) (g : Grant) (st : Nat) : (s.kilnLast g st).engine = s.engine := by
  unfold State.kilnLast
  rw [State.rset_engine (by decide) (by decide), State.rset_engine (by decide) (by decide)]
  simp (disch := decide)
@[simp] theorem State.dropPlanned_engine (s : State) (c : Nat) : (s.dropPlanned c).engine = s.engine := by
  unfold State.dropPlanned
  refine foldl_engine (fun s n _ => ?_) s
  dsimp only
  rw [State.setStr_engine]
  exact foldl_engine (fun s _ _ => State.reduceEntry_engine s _ _) s
@[simp] theorem State.dropOldest_engine (s : State) : s.dropOldest.engine = s.engine := by
  unfold State.dropOldest
  split <;> simp
@[simp] theorem State.finishClose_engine (s : State) : s.finishClose.engine = s.engine := by
  unfold State.finishClose
  split
  · rfl
  · simp (disch := decide)
    rfl
@[simp] theorem State.columnSwap_engine (s : State) (t : Nat) (g : Grant) : (s.columnSwap t g).engine = s.engine := by
  unfold State.columnSwap
  dsimp only
  split <;> simp

/-- The running column ends, and none runs. -/
theorem State.closeColumn_engine (s : State) (t : Nat) (ends : Bool) (fue : List Nat) : (s.closeColumn t ends fue).engine = { s.engine with az := none } := by
  unfold State.closeColumn
  split
  · next h => simp only [State.engine, h, Option.map_none]
  · dsimp only
    have hscan (p : State) (c : Closing) : (p.withScan { p.scan with cur := none, closing := some c }).engine = { p.engine with az := none } := rfl
    rw [hscan]
    split <;> simp

/-- The granted column begins: it runs, with no grant behind it and the engine disarmed (R105). -/
theorem State.openColumn_engine (s : State) (t : Nat) (g : Grant) :
    (s.openColumn t g).engine = { s.engine with armed := false, tTrig := t, next := none, az := some g.az } := by
  unfold State.openColumn
  dsimp only
  rw [foldl_engine (fun s n hn => State.beginString_engine (List.mem_range.1 hn) s _)]
  split
  · rw [foldl_engine (fun s _ _ => State.reduceEntry_engine s _ _)]; rfl
  · rfl

/-- A grant is fixed for the column at `az`. -/
theorem State.grantFor_engine (s : State) (az : Nat) (rest : List (Nat × Bool)) (t now : Nat) (bad : List Nat) :
    ∃ g : Grant, g.az = az ∧ (s.grantFor az rest t now bad).engine = { s.engine with next := some g } := by
  unfold State.grantFor
  dsimp only
  rw [foldl_engine (fun s n hn => ?_)]
  · have hscan (p : State) (g : Grant) : (p.withScan { p.scan with next := some g }).engine = { p.engine with next := some g } := rfl
    rw [hscan, State.tPred_engine, foldl_engine (fun s _ _ => State.planUe_engine s _), State.raiseIf_engine (by decide), State.withKiln_engine,
      State.decayTo_engine]
    exact ⟨_, rfl, rfl⟩
  · split
    · rw [State.demandTarget_engine (List.mem_range.1 hn), State.comingDemand_engine (List.mem_range.1 hn)]
    · rfl

/-- A fixed grant is what `next` shows. -/
theorem State.engine_next (s : State) : s.engine.next = s.scan.next := rfl

theorem State.grantAt_engine (s : State) (az : Nat) (rest : List (Nat × Bool)) (t now : Nat) (bad : List Nat) :
    ∃ g : Grant, g.az = az ∧ (s.grantAt az rest t now bad).engine = { s.engine with next := some g } := by
  obtain ⟨g, hg, he⟩ := State.grantFor_engine s az rest t now bad
  refine ⟨g, hg, ?_⟩
  unfold State.grantAt
  dsimp only
  split <;> simp [he]

/-- A trigger opens the column at `az`, with the grant that was fixed or with one fixed now, and goes on to the targets behind it (R105, R106). -/
theorem State.fireTrigger_engine (s : State) (t az : Nat) (rest : List (Nat × Bool)) (bad fue : List Nat) (late : Bool) :
    (s.fireTrigger t az rest bad fue late).engine =
      { s.engine with todo := rest, armed := false, tTrig := t, next := none, az := some az, late := late || s.engine.late } := by
  have hgrant : ∃ g : Grant, g.az = az ∧
      (if s.scan.next.any (fun g => g.az = az) then s else s.grantAt az rest t t bad).engine = { s.engine with next := some g } := by
    split
    · next h =>
      obtain ⟨g, hg, haz⟩ := (Option.any_eq_true _ _).1 h
      exact ⟨g, of_decide_eq_true haz, by simp only [State.engine, hg]⟩
    · exact State.grantAt_engine s az rest t t bad
  unfold State.fireTrigger
  generalize (if s.scan.next.any (fun g => g.az = az) then s else s.grantAt az rest t t bad) = p at hgrant ⊢
  obtain ⟨g, rfl, hp⟩ := hgrant
  have hnext : p.scan.next = some g := by rw [← State.engine_next, hp]
  have hlate : (if late then (p.raise Cause.SCAN_LATE).incSat Fld.SCAN_CNT_LATES 1 else p).engine = { p.engine with late := late || p.engine.late } := by
    cases late
    · rfl
    · simp (disch := decide) [State.raise_late_engine]
  have htodo (q : State) : (q.withScan { q.scan with todo := rest }).engine = { q.engine with todo := rest } := rfl
  simp only [hnext]
  rw [State.columnSwap_engine, State.guardTrigger_engine, State.openColumn_engine, htodo, State.latchColumn_engine, State.closeColumn_engine, hlate, hp]

end Sys2Proof.Machine
end

section
namespace Sys2Proof.Machine

/-! ## Targets passed, grants that are due -/

theorem State.skipTarget_engine (s : State) (x : Nat × Bool) :
    (s.skipTarget x).engine = { s.engine with todo := s.engine.todo.drop 1, next := none } := by
  have hscan (p : State) : (p.withScan { p.scan with todo := p.scan.todo.drop 1, next := none }).engine =
    { p.engine with todo := p.engine.todo.drop 1, next := none } := rfl
  unfold State.skipTarget State.skipCount
  dsimp only
  rw [hscan, State.guardSkip_engine, State.wortSkip_engine, State.incMod_engine (by decide), State.raise_engine (by decide)]

/-- Skipping targets takes them off the list; the grant of the first goes with it. -/
theorem foldl_skipTarget_engine (l : List (Nat × Bool)) (s : State) :
    ∃ nx, (l.foldl State.skipTarget s).engine = { s.engine with todo := s.engine.todo.drop l.length, next := nx } := by
  induction l generalizing s with
  | nil => exact ⟨_, rfl⟩
  | cons x l ih =>
    obtain ⟨nx, h⟩ := ih (s.skipTarget x)
    refine ⟨nx, ?_⟩
    rw [List.foldl_cons, h, State.skipTarget_engine]
    simp

/-- Of the targets passed the last one triggers late, and all leave the list (R106). -/
theorem State.latePass_engine (s : State) (t : Nat) (xs : List (Nat × Bool)) (bad fue : List Nat) (x : Nat × Bool) (h : xs.getLast? = some x) :
    (s.latePass t xs bad fue).engine =
      { s.engine with todo := s.scan.todo.drop xs.length, armed := false, tTrig := t, next := none, az := some x.1, late := true } := by
  obtain ⟨nx, hskip⟩ := foldl_skipTarget_engine xs.dropLast s
  have htodo : (xs.dropLast.foldl State.skipTarget s).scan.todo = s.scan.todo.drop xs.dropLast.length := congrArg Engine.todo hskip
  have hlen : xs.dropLast.length + 1 = xs.length := by
    have hne : xs ≠ [] := by rintro rfl; cases h
    have := List.length_pos_iff.2 hne
    rw [List.length_dropLast]; omega
  unfold State.latePass
  simp only [h]
  rw [State.fireTrigger_engine, hskip, htodo, List.drop_drop, hlen]
  rfl

/-- A grant that is due changes the fixed grant alone. -/
theorem State.grantDue_engine (s : State) (now : Nat) (bad : List Nat) : ∃ nx, (s.grantDue now bad).engine = { s.engine with next := nx } := by
  have hsame : ∃ nx, s.engine = { s.engine with next := nx } := ⟨_, rfl⟩
  have hfor (az : Nat) (rest : List (Nat × Bool)) (t : Nat) : ∃ nx, (s.grantFor az rest t now bad).engine = { s.engine with next := nx } := by
    obtain ⟨g, -, h⟩ := State.grantFor_engine s az rest t now bad
    exact ⟨_, h⟩
  unfold State.grantDue
  split
  · exact hsame
  · split
    · dsimp only
      split
      · exact hfor _ _ _
      · exact hsame
    · split
      · exact hsame
      · split
        · split
          · exact hfor _ _ _
          · exact hsame
        · exact hsame

theorem State.grantNow_engine (s : State) (now : Nat) (bad : List Nat) : (s.grantNow now bad).engine = (s.grantDue now bad).engine := by
  unfold State.grantNow
  dsimp only
  split
  · exact State.eyeTargets_engine _ _ _
  · rfl

/-- Once armed in SCAN with no grant fixed, STARE has one due at AZ where no column runs (R105). -/
theorem State.grantNow_stare_engine (s : State) (now : Nat) (bad : List Nat) (hdev : s.dev = .scan) (hmode : s.scanMode = 1) (hnext : s.scan.next = none)
    (harmed : s.scan.armed = true) (hcur : s.scan.cur = none) :
    ∃ g : Grant, g.az = s.f Fld.SCAN_STARE_AZ ∧ (s.grantNow now bad).engine = { s.engine with next := some g } := by
  rw [State.grantNow_engine]
  simp only [State.grantDue, hdev, hmode, hnext, harmed, hcur, bne_self_eq_false, Option.isSome_none, Option.isNone_none, Bool.not_true, Bool.or_false,
    Bool.false_eq_true, if_true, if_false, Bool.true_or]
  exact State.grantFor_engine s _ _ _ _ _

/-- Once armed in SCAN with no grant fixed, the next target has one where it is predicted within the lead (R105). -/
theorem State.grantNow_crossing_engine (s : State) (now c : Nat) (bad : List Nat) (y : Nat × Bool) (rest : List (Nat × Bool)) (hdev : s.dev = .scan)
    (hmode : s.scanMode ≠ 1) (hnext : s.scan.next = none) (harmed : s.scan.armed = true) (htodo : s.scan.todo = y :: rest)
    (hcross : s.crossing y.1 y.2 now = some c) (hlead : c ≤ now + 1000) :
    ∃ g : Grant, g.az = y.1 ∧ (s.grantNow now bad).engine = { s.engine with next := some g } := by
  rw [State.grantNow_engine]
  simp only [State.grantDue, hdev, hmode, hnext, harmed, htodo, hcross, hlead, bne_self_eq_false, Option.isSome_none, Bool.not_true, Bool.or_false,
    Bool.false_eq_true, if_true, if_false]
  exact State.grantFor_engine s _ _ _ _ _

/-- Without SCAN, with a grant fixed, or before the engine is armed none is due (R105). -/
theorem State.grantNow_idle (s : State) (now : Nat) (bad : List Nat) (h : s.dev ≠ .scan ∨ s.scan.next.isSome = true ∨ s.scan.armed = false) :
    s.grantNow now bad = s := by
  have hdue : s.grantDue now bad = s := by
    unfold State.grantDue
    refine if_pos ?_
    rcases h with h | h | h <;> simp [h]
  unfold State.grantNow
  rw [hdue]
  dsimp only
  split
  · next h1 h2 => rw [h1] at h2; cases h2
  · rfl

theorem State.takeRegion_engine (s : State) : s.takeRegion.engine = s.engine := by
  have hscan (p : State) (b : Bool) : (p.withScan { p.scan with psel := b }).engine = p.engine := rfl
  unfold State.takeRegion
  dsimp only
  rw [State.raiseIf_engine (by decide), State.setB_engine (by decide), hscan]
theorem State.sweepBegin_engine (s : State) : s.sweepBegin.engine = s.engine := by
  have hscan (p : State) (b : Bool) : (p.withScan { p.scan with sos := true, trigN := 0, sweepWhole := b }).engine = p.engine := rfl
  unfold State.sweepBegin
  dsimp only
  rw [hscan, State.incMod_engine (by decide)]

/-! ## The rows -/

/-- Out of SCAN no trigger acts. -/
theorem execTrigger_off (x : Nat) (bad fue : List Nat) (s : State) (h : s.triggers = false) :
    execTrigger x bad fue s = .next s ∧ execStareTrigger x bad fue s = .next s := by
  simp [execTrigger, execStareTrigger, h]

/-- A trigger at a target that is reached opens its column (R105). -/
theorem execTrigger_reached (x : Nat) (bad fue : List Nat) (y : Nat × Bool) (rest : List (Nat × Bool)) (s : State) (ht : s.triggers = true)
    (hm : s.scanMode ≠ 1) (ha : s.scan.armed = true) (hy : s.scan.todo = y :: rest) (hr : s.reached y.1 y.2 x = true) :
    execTrigger x bad fue s = .next (s.fireTrigger x y.1 rest bad fue false) := by
  simp [execTrigger, ht, hm, ha, hy, hr]

theorem State.triggers_dev {s : State} (h : s.triggers = true) : s.dev = .scan := by
  simp only [State.triggers, Bool.and_eq_true, decide_eq_true_eq] at h
  exact h.1.1

/-- At its time STARE opens a column at AZ and counts it (R103). -/
theorem execStareTrigger_due (x : Nat) (bad fue : List Nat) (s : State) (ht : s.triggers = true) (hm : s.scanMode = 1)
    (hd : s.scan.cur = none ∨ s.scan.tTrig + max 2500 (s.f Fld.SCAN_STARE_TCOL) * 4 ≤ x) :
    ∃ t, execStareTrigger x bad fue s = .next t ∧ t.dev = s.dev ∧ t.engine =
      { s.engine with
        todo := [], armed := false, tTrig := x, next := none, az := some (s.f Fld.SCAN_STARE_AZ), stareN := (s.scan.stareN + 1) % 65536 } := by
  have hcond : (s.triggers && s.scanMode = 1 && (s.scan.cur.isNone || decide (s.scan.tTrig + max 2500 (s.f Fld.SCAN_STARE_TCOL) * 4 ≤ x))) = true := by
    rcases hd with hd | hd <;> simp [ht, hm, hd]
  have hbegin : (if s.scan.stareN = 0 then s.sweepBegin.guardSweepBegin else s).engine = s.engine := by
    split
    · rw [State.guardSweepBegin_engine, State.sweepBegin_engine]
    · rfl
  have hscan (p : State) (h : p.engine = s.engine) :
      (p.withScan { p.scan with stareN := (p.scan.stareN + 1) % 65536 }).engine = { s.engine with stareN := (s.scan.stareN + 1) % 65536 } := by
    have hn : p.scan.stareN = s.scan.stareN := congrArg Engine.stareN h
    rw [← h, ← hn]; rfl
  refine ⟨_, if_pos hcond, ?_, ?_⟩
  · simp only [State.takeRegion_dev, State.fireTrigger_dev, State.raiseIf_dev, State.withScan_dev]
    split <;> simp
  · rw [State.takeRegion_engine, State.fireTrigger_engine, State.raiseIf_engine (by decide), hscan _ hbegin]
    simp

/-- At the hold-off's end the engine is armed; of fewer than two targets passed none triggers. -/
theorem execHoldoffExpiry_rearm (x : Nat) (bad fue : List Nat) (s : State) (hdev : s.dev = .scan) (hcur : s.scan.cur.isSome = true)
    (harmed : s.scan.armed = false) (hover : s.holdoffOver x = true) (hpassed : s.passed.length < 2) :
    execHoldoffExpiry x bad s fue = .next ((s.withScan { s.scan with armed := true }).grantNow x bad) := by
  have hp : ¬ 2 ≤ (s.withScan { s.scan with armed := true }).passed.length := Nat.not_le.2 hpassed
  simp [execHoldoffExpiry, hdev, hcur, harmed, hover, hp]

/-- At the hold-off's end the last of two or more targets passed triggers late (R106). -/
theorem execHoldoffExpiry_late (x : Nat) (bad fue : List Nat) (s : State) (ht : s.triggers = true) (hm : s.scanMode ≠ 1) (hcur : s.scan.cur.isSome = true)
    (harmed : s.scan.armed = false) (hover : s.holdoffOver x = true) (hpassed : 2 ≤ s.passed.length) :
    execHoldoffExpiry x bad s fue = .next ((s.withScan { s.scan with armed := true }).latePass x s.passed bad fue) := by
  have ht' : (s.withScan { s.scan with armed := true }).triggers = true := ht
  have hm' : (s.withScan { s.scan with armed := true }).scanMode ≠ 1 := hm
  have hp : (s.withScan { s.scan with armed := true }).passed = s.passed := rfl
  simp [execHoldoffExpiry, State.triggers_dev ht, hcur, harmed, hover, ht', hm', hp, hpassed]

theorem execHoldoffExpiry_idle (x : Nat) (bad fue : List Nat) (s : State) (h : s.dev ≠ .scan ∨ s.scan.armed = true ∨ s.holdoffOver x = false) :
    execHoldoffExpiry x bad s fue = .next s := by
  unfold execHoldoffExpiry
  refine if_neg ?_
  rcases h with h | h | h <;> simp [h]

/-- Settles O24: what each command makes of the engine's part of the state follows from `State.fireTrigger_engine`, `State.grantFor_engine` and
`State.latePass_engine`. -/
theorem grantsAndTriggers : Obligations.GrantsAndTriggers := by
  unfold Obligations.GrantsAndTriggers
  refine ⟨?_, ?_, ?_, ?_, ?_, ?_, ?_, ?_, ?_, ?_, ?_⟩
  · intro now bad s h
    exact ⟨_, rfl, State.grantNow_idle s now bad h⟩
  · intro now bad s hdev hmode hnext harmed hcur
    obtain ⟨g, hg, he⟩ := State.grantNow_stare_engine s now bad hdev hmode hnext harmed hcur
    refine ⟨_, rfl, ?_, (congrArg Engine.armed he).trans harmed, (State.grantNow_dev s now bad).trans hdev⟩
    rw [← State.engine_next, he]
    exact congrArg some hg
  · intro x bad fue s h
    obtain ⟨htrig, hstare⟩ := execTrigger_off x bad fue s h
    exact ⟨⟨s, htrig, rfl⟩, ⟨s, hstare, rfl⟩⟩
  · intro x bad fue y rest g s ht hm ha hy hr _ _
    have he := State.fireTrigger_engine s x y.1 rest bad fue false
    exact ⟨_, execTrigger_reached x bad fue y rest s ht hm ha hy hr, congrArg Engine.todo he, congrArg Engine.armed he, congrArg Engine.tTrig he,
      congrArg Engine.next he, congrArg Engine.az he⟩
  · intro x bad fue g s ht hm hcur _ hg
    obtain ⟨t, hexec, -, he⟩ := execStareTrigger_due x bad fue s ht hm (.inl hcur)
    exact ⟨t, hexec, congrArg Engine.armed he, congrArg Engine.tTrig he, hg ▸ congrArg Engine.az he, congrArg Engine.stareN he⟩
  · intro x bad fue s hdev hcur harmed hover hpassed
    refine ⟨_, execHoldoffExpiry_rearm x bad fue s hdev hcur harmed hover hpassed, ?_, (State.grantNow_dev _ x bad).trans hdev⟩
    obtain ⟨nx, he⟩ := State.grantDue_engine (s.withScan { s.scan with armed := true }) x bad
    exact congrArg Engine.armed ((State.grantNow_engine _ x bad).trans he)
  · intro x bad fue s h
    exact ⟨s, execHoldoffExpiry_idle x bad fue s h, rfl⟩
  · intro x bad fue s ht hm hcur harmed hover hpassed
    obtain ⟨y, hy⟩ : ∃ y, s.passed.getLast? = some y := by
      have hne : s.passed ≠ [] := by rintro h; simp [h] at hpassed
      exact ⟨_, List.getLast?_eq_getLast_of_ne_nil hne⟩
    have he := State.latePass_engine (s.withScan { s.scan with armed := true }) x s.passed bad fue y hy
    refine ⟨_, execHoldoffExpiry_late x bad fue s ht hm hcur harmed hover hpassed, ?_, congrArg Engine.tTrig he, congrArg Engine.armed he,
      congrArg Engine.late he⟩
    rw [hy]
    exact congrArg Engine.az he
  · intro now c bad y rest s hdev hmode hnext harmed htodo hcross hlead
    obtain ⟨g, hg, he⟩ := State.grantNow_crossing_engine s now c bad y rest hdev hmode hnext harmed htodo hcross hlead
    refine ⟨_, rfl, ?_, congrArg Engine.todo he, (congrArg Engine.armed he).trans harmed, (State.grantNow_dev s now bad).trans hdev⟩
    rw [← State.engine_next, he]
    exact congrArg some hg
  · intro x bad fue y rest s ht hm ha hy hr
    have he := State.fireTrigger_engine s x y.1 rest bad fue false
    exact ⟨_, execTrigger_reached x bad fue y rest s ht hm ha hy hr, congrArg Engine.todo he, congrArg Engine.armed he, congrArg Engine.tTrig he,
      congrArg Engine.next he, congrArg Engine.az he, (State.fireTrigger_dev s x y.1 rest bad fue false).trans (State.triggers_dev ht)⟩
  · intro x bad fue s ht hm hd
    obtain ⟨t, hexec, hdev, he⟩ := execStareTrigger_due x bad fue s ht hm hd
    exact ⟨t, hexec, congrArg Engine.armed he, congrArg Engine.tTrig he, congrArg Engine.az he, congrArg Engine.stareN he, hdev.trans (State.triggers_dev ht)⟩

end Sys2Proof.Machine
end

section
namespace Sys2Proof.Machine

/-! ## Cluster domains (R12) -/

@[simp] theorem State.cluster_setCluster_self (s : State) (k : Nat) (x : CluSt) : (s.setCluster k x).cluster k = x := SMap.get_set_self _ _ _ _

/-- Whether a cluster is needed does not depend on what the other clusters hold. -/
theorem State.neededIn_withClus {s : State} {c : SMap CluSt} {k : Nat} (h : (s.withClus c).cluster k = s.cluster k) (t d : Nat) :
    (s.withClus c).neededIn k t d = s.neededIn k t d := by
  have hacc : (s.withClus c).runAcc k = s.runAcc k := by
    unfold State.runAcc
    rw [h]
    rfl
  have hgate : (s.withClus c).gateAhead k t = s.gateAhead k t := by
    unfold State.gateAhead
    rw [hacc]
    rfl
  have hnext : (s.withClus c).nextWindow k = s.nextWindow k := rfl
  have hcoming : (s.withClus c).comingNeed k = s.comingNeed k := rfl
  unfold State.neededIn
  rw [hacc, hgate, hnext, hcoming]

/-- A window that is gone changes its cluster's account of the column alone. -/
theorem State.windowGone_form (s : State) (k : Nat) (w : Win) (t : Nat) (cut : Bool) :
    ∃ c, s.windowGone k w t cut = s.withClus c ∧ ((s.withClus c).cluster k).wins = (s.cluster k).wins := by
  have hmod (p : State) (g : ColAcc → ColAcc) : ∃ c, p.modAcc k g = p.withClus c ∧ ((p.withClus c).cluster k).wins = (p.cluster k).wins := by
    refine ⟨_, rfl, ?_⟩
    change ((p.setCluster k _).cluster k).wins = _
    rw [State.cluster_setCluster_self]
    split <;> rfl
  unfold State.windowGone
  cases cut
  · exact hmod s _
  · obtain ⟨c, hc, hw⟩ := hmod s (fun a => { a with cut := true, cutmin := if a.cutmin = 0 then t - w.tf else min a.cutmin (t - w.tf) })
    obtain ⟨c', hc', hw'⟩ := hmod (s.withClus c) (fun a => if a.hmode = 3 && a.trigWin = some w.tf && a.search.isNone then { a with search := some t } else a)
    refine ⟨c', ?_, hw'.trans hw⟩
    dsimp only
    rw [if_pos rfl, hc, hc']
    rfl

/-- The windows that have run out close, and no other part of the state changes. -/
theorem State.closeExpired_form (s : State) (k t : Nat) :
    ∃ c, s.closeExpired k t = s.withClus c ∧ ((s.withClus c).cluster k).wins = (s.cluster k).wins.filter (fun w => !decide (w.tf + 4096 ≤ t)) := by
  have hfold (l : List Win) (p : State) : ∃ c, l.foldl (fun s w => s.windowGone k w (w.tf + 4096) false) p = p.withClus c ∧
      ((p.withClus c).cluster k).wins = (p.cluster k).wins := by
    induction l generalizing p with
    | nil => exact ⟨p.clus, rfl, rfl⟩
    | cons w l ih =>
      obtain ⟨c, hc, hw⟩ := State.windowGone_form p k w (w.tf + 4096) false
      obtain ⟨c', hc', hw'⟩ := ih (p.withClus c)
      refine ⟨c', ?_, hw'.trans hw⟩
      rw [List.foldl_cons, hc, hc']
      rfl
  obtain ⟨c, hc, hw⟩ := hfold ((s.cluster k).wins.filter (fun w => decide (w.tf + 4096 ≤ t))).reverse
    (s.setCluster k { s.cluster k with wins := (s.cluster k).wins.filter (fun w => !decide (w.tf + 4096 ≤ t)) })
  refine ⟨c, hc, ?_⟩
  rw [State.cluster_setCluster_self] at hw
  exact hw

/-- With no window open none runs out. -/
theorem State.closeExpired_noWindow {s : State} {k : Nat} (h : (s.cluster k).wins = []) (t : Nat) : s.closeExpired k t = s.setCluster k (s.cluster k) := by
  have hx : { s.cluster k with wins := [] } = s.cluster k := by rw [← h]
  unfold State.closeExpired
  simp only [h, List.filter_nil, List.reverse_nil, List.foldl_nil, hx]

theorem execClusterPowerOn_due (k x : Nat) (s : State) (hk : k < 64) (hdev : s.dev = .scan) (hneed : s.neededIn k x 200 = true) (hshut : s.clusterShut k = false)
    (hl2 : L2Target.cluster k ∉ s.rst.l2) (hoff : s.powered k = false) :
    execClusterPowerOn k s x = .next ((s.spend x (s.f Fld.KILN_CLU_EWAKE)).withScan { s.scan with clu := s.scan.clu ||| (1#64 <<< k) }) := by
  simp [execClusterPowerOn, hk, hdev, hneed, hshut, hl2, hoff]

theorem execClusterPowerOn_idle (k x : Nat) (s : State) (h : s.dev ≠ .scan ∨ s.clusterShut k = true ∨ 64 ≤ k ∨ s.neededIn k x 200 = false) :
    execClusterPowerOn k s x = .next s := by
  unfold execClusterPowerOn
  refine if_neg ?_
  rcases h with h | h | h | h
  · simp [h]
  · simp [h]
  · simp [Nat.not_lt.2 h]
  · simp [h]

theorem execClusterPowerOff_idle (k x : Nat) (s : State) (hwin : (s.cluster k).wins = [])
    (hgate : ∀ c, 16 * k ≤ c → c < 16 * k + 16 → (s.chan c).gate = none) (hboot : s.mash.bootRun = false) (hinj : s.mash.injEnd ≤ x)
    (hneed : s.neededIn k x 400 = false) :
    execClusterPowerOff k s x = .next ((s.setCluster k (s.cluster k)).withScan { s.scan with clu := s.scan.clu &&& ~~~(1#64 <<< k) }) := by
  unfold execClusterPowerOff
  rw [State.closeExpired_noWindow hwin]
  have hneed' : (s.setCluster k (s.cluster k)).neededIn k x 400 = false :=
    (State.neededIn_withClus (State.cluster_setCluster_self s k _) x 400).trans hneed
  have hgates : ((List.range 16).all fun j => (s.chan (16 * k + j)).gate.isNone) = true := by
    refine List.all_eq_true.2 fun j hj => ?_
    have := List.mem_range.1 hj
    rw [hgate (16 * k + j) (by omega) (by omega)]
    rfl
  refine if_pos ?_
  rw [State.cluster_setCluster_self, hwin, hneed']
  change (true && ((List.range 16).all fun j => (s.chan (16 * k + j)).gate.isNone) && !s.mash.bootRun && decide (s.mash.injEnd ≤ x) && !false) = true
  rw [hgates, hboot, decide_eq_true hinj]
  rfl

/-- A cluster with a window open stays on. -/
theorem execClusterPowerOff_window (k x : Nat) (w : Win) (s : State) (hw : w ∈ (s.cluster k).wins) (hopen : x < w.tf + 4096) :
    execClusterPowerOff k s x = .next (s.closeExpired k x) := by
  obtain ⟨c, hc, hwins⟩ := State.closeExpired_form s k x
  unfold execClusterPowerOff
  refine if_neg ?_
  have hstays : w ∈ ((s.closeExpired k x).cluster k).wins := by
    rw [hc, hwins]
    exact List.mem_filter.2 ⟨hw, by simpa using hopen⟩
  have hne : ((s.closeExpired k x).cluster k).wins.isEmpty = false := List.isEmpty_eq_false_iff.2 (List.ne_nil_of_mem hstays)
  simp [hne]

/-! ## The end of a clear of the Tun (R155) -/

/-- The clear is over and MASH_STAT.CLR_BUSY reads 0. -/
def State.cleared (s : State) : State := (s.withScan { s.scan with clearing := false }).setB Fld.MASH_STAT_CLR_BUSY false

theorem State.cleared_engine (s : State) : s.cleared.engine = { s.engine with clearing := false, clrBusy := false } := by
  have hbusy : s.cleared.b Fld.MASH_STAT_CLR_BUSY = false := State.b_setB_self _ _ _ (by decide) rfl
  have hlate : s.cleared.causeSet Cause.SCAN_LATE = s.causeSet Cause.SCAN_LATE := State.b_setF_apart _ _ _ _ (by decide) (by decide)
  simp only [State.engine, hbusy, hlate]
  rfl

/-- The targets reached at `x`, next first. -/
def State.reachedTargets (s : State) (x : Nat) : List (Nat × Bool) := s.scan.todo.takeWhile (fun y => s.reached y.1 y.2 x)

/-- The end of a clear triggers the last of the targets reached late (R106), and fixes a grant that is due where none is. -/
theorem execTunClearDone_clearing (x : Nat) (bad fue : List Nat) (s : State) (h : s.scan.clearing = true) :
    execTunClearDone x bad fue s = .next (if s.cleared.triggers && s.cleared.scanMode != 1 then
      (if (s.reachedTargets x).isEmpty then s.cleared.grantNow x bad else s.cleared.latePass x (s.reachedTargets x) bad fue) else s.cleared) := by
  unfold execTunClearDone
  rw [if_neg (by simp [h])]
  change (if s.cleared.triggers && s.cleared.scanMode != 1 then Host.Outcome.next (if (s.reachedTargets x).isEmpty then s.cleared.grantNow x bad
    else s.cleared.latePass x (s.reachedTargets x) bad fue) else Host.Outcome.next s.cleared) = _
  exact (apply_ite Host.Outcome.next _ _ _).symm

theorem State.cleared_triggers {s : State} (hdev : s.dev = .scan) (hleave : s.scan.leave = 0) (hmode : s.scanMode ≠ 1) :
    (s.cleared.triggers && s.cleared.scanMode != 1) = true := by
  have hdev' : s.cleared.dev = .scan := hdev
  have hleave' : s.cleared.scan.leave = 0 := hleave
  have hclear : s.cleared.scan.clearing = false := rfl
  have hmode' : s.cleared.scanMode ≠ 1 := by
    unfold State.scanMode at hmode ⊢
    rw [if_pos hdev] at hmode
    rw [if_pos hdev']
    exact hmode
  simp [State.triggers, hdev', hleave', hclear, hmode']

/-- Whatever the end of a clear sets off leaves the clear ended. -/
theorem State.cleared_then_engine (s : State) (x : Nat) (bad fue : List Nat) :
    let t := if s.cleared.triggers && s.cleared.scanMode != 1 then
      (if (s.reachedTargets x).isEmpty then s.cleared.grantNow x bad else s.cleared.latePass x (s.reachedTargets x) bad fue) else s.cleared
    t.engine.clearing = false ∧ t.engine.clrBusy = false := by
  have hclear : s.cleared.engine.clearing = false ∧ s.cleared.engine.clrBusy = false := by
    rw [State.cleared_engine]
    exact ⟨rfl, rfl⟩
  dsimp only
  split
  · split
    · obtain ⟨nx, he⟩ := State.grantDue_engine s.cleared x bad
      rw [State.grantNow_engine, he]
      exact hclear
    · next hne =>
      have hlast : (s.reachedTargets x).getLast? = some ((s.reachedTargets x).getLast (by simpa using hne)) := List.getLast?_eq_getLast_of_ne_nil _
      rw [State.latePass_engine _ _ _ _ _ _ hlast]
      exact hclear
  · exact hclear

/-- Settles O28: a cluster's power by the conditions of `execClusterPowerOn` and `execClusterPowerOff`, the end of a clear by `State.grantNow_engine` and
`State.latePass_engine`. -/
theorem clusterPower : Obligations.ClusterPower := by
  unfold Obligations.ClusterPower
  refine ⟨?_, ?_, ?_, ?_, ?_, ?_, ?_, ?_, ?_⟩
  · intro k x s hk hdev hneed hshut hl2 hoff
    exact ⟨_, execClusterPowerOn_due k x s hk hdev hneed hshut hl2 hoff, rfl, rfl, rfl⟩
  · intro k x s h
    exact ⟨s, execClusterPowerOn_idle k x s h, rfl⟩
  · intro k x s _ hwin hgate hboot hinj hneed
    exact ⟨_, execClusterPowerOff_idle k x s hwin hgate hboot hinj hneed, rfl, rfl⟩
  · intro k x w s hw hopen
    obtain ⟨c, hc, -⟩ := State.closeExpired_form s k x
    refine ⟨_, execClusterPowerOff_window k x w s hw hopen, ?_, ?_⟩ <;> rw [hc] <;> rfl
  · intro x bad fue s h
    exact ⟨s, if_pos (by simp [h]), rfl⟩
  · intro x bad fue s h hdev
    have hoff : s.cleared.triggers = false := by
      have hdev' : s.cleared.dev ≠ .scan := hdev
      simp [State.triggers, hdev']
    have hexec := execTunClearDone_clearing x bad fue s h
    rw [hoff] at hexec
    exact ⟨s.cleared, hexec, rfl, congrArg Engine.clrBusy (State.cleared_engine s), State.regsBut_setB _ _ (State.regsBut_refl _ s) (by decide), rfl⟩
  · intro x bad fue s h hdev hleave hmode hnone
    have hempty : s.reachedTargets x = [] := by
      unfold State.reachedTargets
      cases htodo : s.scan.todo with
      | nil => rfl
      | cons y rest => exact List.takeWhile_cons_of_neg (by simp [hnone y (by simp [htodo])])
    have hexec := execTunClearDone_clearing x bad fue s h
    rw [State.cleared_triggers hdev hleave hmode, hempty] at hexec
    obtain ⟨nx, he⟩ := State.grantDue_engine s.cleared x bad
    rw [← State.grantNow_engine, State.cleared_engine] at he
    exact ⟨_, hexec, congrArg Engine.clearing he, congrArg Engine.clrBusy he, (State.grantNow_dev _ x bad).trans hdev, congrArg Engine.todo he⟩
  · intro x bad fue s h
    obtain ⟨hclear, hbusy⟩ := State.cleared_then_engine s x bad fue
    have hexec := execTunClearDone_clearing x bad fue s h
    have hdev := execTunClearDone_dev x bad fue s
    rw [hexec] at hdev
    exact ⟨_, hexec, hclear, hbusy, hdev⟩
  · intro x bad fue y rest s h hdev hleave hmode htodo hreach
    have hcons : s.reachedTargets x = y :: rest.takeWhile (fun z => s.reached z.1 z.2 x) := by
      unfold State.reachedTargets
      rw [htodo]
      exact List.takeWhile_cons_of_pos hreach
    have hexec := execTunClearDone_clearing x bad fue s h
    rw [State.cleared_triggers hdev hleave hmode, hcons, if_pos rfl, if_neg (by simp)] at hexec
    have he := State.latePass_engine s.cleared x (y :: rest.takeWhile (fun z => s.reached z.1 z.2 x)) bad fue _ (List.getLast?_eq_getLast_of_ne_nil (by simp))
    have htodo' : s.cleared.scan.todo = y :: rest := htodo
    rw [State.cleared_engine, htodo'] at he
    refine ⟨_, hexec, congrArg Engine.clearing he, congrArg Engine.tTrig he, congrArg Engine.armed he, congrArg Engine.late he, ?_,
      (State.latePass_dev s.cleared x _ bad fue).trans hdev⟩
    refine (congrArg List.length (congrArg Engine.todo he)).trans_le ?_
    simp

end Sys2Proof.Machine
end

section
namespace Sys2Proof.Machine

/-! ## Frames of the Dolwick link: what leaves the link's own part alone -/

/-- With every frame in progress still on the line there is nothing to settle. -/
theorem State.dwlSettle_running {s : State} (h : ∀ f ∈ s.dwl.prog, s.now < f.endT) : s.dwlSettle = s := by
  have hfin : s.dwl.prog.filter (fun f => decide (f.endT ≤ s.now)) = [] :=
    List.filter_eq_nil_iff.2 fun f hf => by simpa using h f hf
  have hprog : s.dwl.prog.filter (fun f => decide (s.now < f.endT)) = s.dwl.prog :=
    List.filter_eq_self.2 fun f hf => by simpa using h f hf
  unfold State.dwlSettle
  rw [hfin, hprog]
  rfl

theorem State.dwlSettle_idle {s : State} (h : s.dwl.prog = []) : s.dwlSettle = s := State.dwlSettle_running (by simp [h])

theorem State.writeRec_dwl (s : State) (r : OutRec) : (s.writeRec 0 r).dwl = s.dwl := by
  unfold State.writeRec
  simp

theorem State.startHead_dwl (s : State) : (s.startHead 0).dwl = s.dwl := by
  have hfold (l : List OutRec) (p : State) : (l.foldl (fun s x => s.writeRec 0 x) p).dwl = p.dwl := by
    induction l generalizing p with
    | nil => rfl
    | cons r l ih => rw [List.foldl_cons, ih, State.writeRec_dwl]
  unfold State.startHead
  split
  · rfl
  · split
    · rfl
    · dsimp only
      rw [hfold, State.modStream_dwl, State.raiseIf_dwl]

theorem State.cutDwl_dwl (s : State) (frames : List Nat) (lost : List GapRun) (cause : Nat) : (s.cutDwl frames lost cause).dwl = s.dwl := by
  unfold State.cutDwl State.cutStream
  split
  · rfl
  · simp only [State.startHead_dwl, State.incSat_dwl, State.modStream_dwl, State.raiseIf_dwl]

theorem State.logEvent_wort_dwl (s : State) (c : Nat) (x y : Word) : (s.logEvent c x y).wort = s.wort ∧ (s.logEvent c x y).dwl = s.dwl := by
  obtain ⟨n, r, h⟩ := State.logEvent_form s c x y
  rw [h]
  exact ⟨rfl, rfl⟩

theorem State.wortUe_wort_dwl (s : State) : s.wortUe.wort = s.wort ∧ s.wortUe.dwl = s.dwl := by
  unfold State.wortUe
  dsimp only
  obtain ⟨hw, hd⟩ := State.logEvent_wort_dwl ((s.incSat Fld.WORT_ECC_UE 1).raise Cause.WORT_ECC_UE).fresh.2 0x0031 1
    (Config.wortAddr ((s.incSat Fld.WORT_ECC_UE 1).raise Cause.WORT_ECC_UE).fresh.1)
  rw [hw, hd]
  exact ⟨rfl, rfl⟩

/-- A read error in the buffer leaves the link's own part alone. -/
theorem State.wortEcc_dwl (s : State) (err : Option (Nat × Bool)) : (s.wortEcc err).dwl = s.dwl := by
  unfold State.wortEcc
  split
  · rfl
  · simp [State.wortCe]
  · dsimp only
    split
    · exact s.wortUe_wort_dwl.2
    · rw [State.modStream_dwl, State.cutDwl_dwl, State.modStream_dwl, s.wortUe_wort_dwl.2]

/-- A read error behind the first record of the buffer leaves that record first (R212). -/
theorem State.wortEcc_head (s : State) (err : Option (Nat × Bool)) (r : OutRec) (recs : List OutRec) (hout : s.wort.dwl.out = r :: recs)
    (herr : ∀ i u, err = some (i, u) → 0 < i) : ∃ l, (s.wortEcc err).wort.dwl.out = r :: l := by
  unfold State.wortEcc
  split
  · exact ⟨recs, hout⟩
  · exact ⟨recs, by simpa [State.wortCe] using hout⟩
  · next i =>
    obtain ⟨j, rfl⟩ : ∃ j, i = j + 1 := ⟨i - 1, by have := herr i true rfl; omega⟩
    have hbefore : s.wortUe.wort.dwl.out.take (j + 1) = r :: recs.take j := by rw [s.wortUe_wort_dwl.1, hout, List.take_succ_cons]
    dsimp only
    split
    · exact ⟨recs, by rw [s.wortUe_wort_dwl.1]; exact hout⟩
    · have hput (p : State) (l : List OutRec) : (p.modStream 0 (fun x => { x with out := l ++ x.out })).wort.dwl.out = l ++ p.wort.dwl.out := rfl
      rw [hput, hbefore]
      exact ⟨_, rfl⟩

/-! ## The start of a frame -/

/-- The POINT frame of the records `recs` has started (R215). -/
def State.pointSent (s : State) (seq : Nat) (recs : List OutRec) : State :=
  let s := s.dwlStart s.pointLane 0 (dwlHeader 0 s.dwl.restart 0 seq) (recs.flatMap (·.words)) recs
  let s := s.modStream 0 (fun x => { x with out := x.out.drop recs.length })
  let s := s.withDwl { s.dwl with seqPoint := (seq + 1) % 65536, restart := false }
  s.setF Fld.DWL_CREDIT_SENT ((seq + 1) % 65536)

/-- The LRS frame of the records `recs` has started (R209). -/
def State.lrsSent (s : State) (recs : List OutRec) : State :=
  let s := s.dwlStart 0 1 (dwlHeader 1 false 0 s.dwl.seqLrs) (recs.flatMap (·.words)) recs
  s.withDwl { s.dwl with seqLrs := (s.dwl.seqLrs + 1) % 65536 }

theorem takeRecs_ne_nil {l rest : List OutRec} {r : OutRec} (h : l = r :: rest) (hr : r.words.length ≤ 256) :
    ∃ recs, takeRecs 256 l = r :: recs := by
  rw [h]
  exact ⟨_, if_pos hr⟩

/-- With DWL up, ACTIVE, credit and its lane free, and nothing that goes before it, a POINT frame takes the whole records that fit (R215, R216, R218). -/
theorem execDwlPointFrame_starts {err : Option (Nat × Bool)} {r : OutRec} {recs : List OutRec} {s : State} (hprog : ∀ f ∈ s.dwl.prog, s.now < f.endT)
    (hup : s.dwlUp = true) (hact : s.b Fld.DWL_STAT_ACTIVE = true) (hcredit : s.creditFor s.dwl.seqPoint = true) (hfree : s.laneFree s.pointLane = true)
    (hside : s.sideFirst s.pointLane = false) (hout : s.wort.dwl.out ≠ []) (htake : takeRecs 256 (s.wortEcc err).wort.dwl.out = r :: recs) :
    execDwlPointFrame err s = .next ((s.wortEcc err).pointSent s.dwl.seqPoint (r :: recs)) := by
  have hsome : s.wort.dwl.out.isEmpty = false := List.isEmpty_eq_false_iff.2 hout
  unfold execDwlPointFrame
  simp only [State.dwlSettle_running hprog, hup, hact, hcredit, hfree, hside, hsome, htake, Bool.not_false, Bool.and_self, if_true, List.isEmpty_cons,
    Bool.false_eq_true, if_false]
  rfl

/-- With DWL up, ACTIVE and lane 0 free, an LRS frame takes the whole records that fit (R209, R218). -/
theorem execDwlLrsFrame_starts {w : List Word} {ws : List (List Word)} {s : State} (hprog : ∀ f ∈ s.dwl.prog, s.now < f.endT) (hup : s.dwlUp = true)
    (hact : s.b Fld.DWL_STAT_ACTIVE = true) (hlrs : s.wort.lrsDwl = w :: ws) (hw : w.length ≤ 256) (hfree : s.laneFree 0 = true) :
    ∃ recs, execDwlLrsFrame s = .next (s.lrsSent recs) := by
  obtain ⟨recs, htake⟩ := takeRecs_ne_nil (l := s.wort.lrsDwl.map (fun w => { kind := .lrs, frame := 0, words := w })) (by rw [hlrs]; rfl) hw
  refine ⟨{ kind := .lrs, frame := 0, words := w } :: recs, ?_⟩
  unfold execDwlLrsFrame
  simp only [State.dwlSettle_running hprog, hup, hact, hfree, htake, Bool.and_self, if_true, List.isEmpty_cons, Bool.not_false]
  rfl

/-- With DWL down, or in PARK, no frame starts. -/
theorem execDwl_off (err : Option (Nat × Bool)) (s : State) (hprog : s.dwl.prog = []) (h : s.dwlUp = false ∨ s.dev = .park) :
    execDwlPointFrame err s = .next s ∧ execDwlLrsFrame s = .next s := by
  have hlane (l : Nat) : s.dwlUp = false ∨ s.laneFree l = false := h.imp id fun hdev => by simp [State.laneFree, hdev]
  unfold execDwlPointFrame execDwlLrsFrame
  rw [State.dwlSettle_idle hprog]
  constructor
  · refine if_neg ?_
    rcases hlane s.pointLane with h | h <;> simp [h]
  · refine if_neg ?_
    rcases hlane 0 with h | h <;> simp [h]

/-- The frame that starts adds to those in progress and uses up a sequence number. -/
theorem State.pointSent_counts (s : State) (seq : Nat) (recs : List OutRec) : (s.pointSent seq recs).dwl.seqPoint = (seq + 1) % 65536 ∧
    (s.pointSent seq recs).dwl.prog.length = s.dwl.prog.length + 1 ∧ (s.pointSent seq recs).dev = s.dev :=
  ⟨rfl, List.length_append, rfl⟩

theorem State.pointSent_credit (s : State) (seq : Nat) (recs : List OutRec) : (s.pointSent seq recs).f Fld.DWL_CREDIT_SENT = (seq + 1) % 65536 := by
  unfold State.pointSent
  dsimp only
  rw [State.f_setF_self _ _ _ (by decide)]
  exact Nat.mod_eq_of_lt (Nat.mod_lt _ (by decide))

/-- The line's last frame is the one that starts. -/
theorem State.pointSent_last (s : State) (seq : Nat) (recs : List OutRec) : SMap.get (fun _ => []) (s.pointSent seq recs).dwl.last s.pointLane =
    dwlWords (dwlHeader 0 s.dwl.restart 0 seq) (recs.flatMap OutRec.words) :=
  SMap.get_set_self (fun _ => ([] : List Word)) s.dwl.last s.pointLane (dwlWords (dwlHeader 0 s.dwl.restart 0 seq) (recs.flatMap OutRec.words))

theorem State.pointSent_regsBut (s : State) (seq : Nat) (recs : List OutRec) : State.regsBut [Reg.DWL_CREDIT] s (s.pointSent seq recs) := by
  refine State.regsBut_setF Fld.DWL_CREDIT_SENT _ (State.regsBut_of (State.regsBut_refl _ s) ?_) (by decide)
  rfl

theorem State.pointSent_frame (s : State) (seq : Nat) (recs : List OutRec) :
    { s.pointSent seq recs with regs := s.regs, wort := s.wort, dwl := s.dwl } = s := by
  simp [State.pointSent, State.dwlStart]

theorem State.lrsSent_counts (s : State) (recs : List OutRec) : (s.lrsSent recs).dwl.seqLrs = (s.dwl.seqLrs + 1) % 65536 ∧
    (s.lrsSent recs).dwl.prog.length = s.dwl.prog.length + 1 ∧ (s.lrsSent recs).regs = s.regs ∧ { s.lrsSent recs with dwl := s.dwl } = s :=
  ⟨rfl, List.length_append, rfl, rfl⟩

/-- Where a read error does not hit the first record, a POINT frame starts. -/
theorem execDwlPointFrame_counts (err : Option (Nat × Bool)) (r : OutRec) (recs : List OutRec) (s : State) (hprog : ∀ f ∈ s.dwl.prog, s.now < f.endT)
    (hup : s.dwlUp = true) (hact : s.b Fld.DWL_STAT_ACTIVE = true) (hcredit : s.creditFor s.dwl.seqPoint = true) (hfree : s.laneFree s.pointLane = true)
    (hside : s.sideFirst s.pointLane = false) (hout : s.wort.dwl.out = r :: recs) (hr : r.words.length ≤ 256) (herr : ∀ i u, err = some (i, u) → 0 < i) :
    Answers (.dwlPointFrame err) s (fun t => t.dwl.seqPoint = (s.dwl.seqPoint + 1) % 65536 ∧ t.dwl.prog.length = s.dwl.prog.length + 1 ∧ t.dev = s.dev) := by
  obtain ⟨l, hhead⟩ := State.wortEcc_head s err r recs hout herr
  obtain ⟨sent, htake⟩ := takeRecs_ne_nil hhead hr
  obtain ⟨hseq, hlen, hdev⟩ := State.pointSent_counts (s.wortEcc err) s.dwl.seqPoint (r :: sent)
  refine ⟨_, execDwlPointFrame_starts hprog hup hact hcredit hfree hside (by simp [hout]) htake, hseq, ?_, hdev.trans (State.wortEcc_dev s err)⟩
  rw [hlen, State.wortEcc_dwl]

/-- Settles O34: a frame starts by `execDwlPointFrame_starts` and `execDwlLrsFrame_starts`, and does not by `execDwl_off`. -/
theorem dwlFrames : Obligations.DwlFrames := by
  unfold Obligations.DwlFrames
  have hidle {s : State} (h : s.dwl.prog = []) : ∀ f ∈ s.dwl.prog, s.now < f.endT := by simp [h]
  refine ⟨?_, ?_, ?_, ?_, ?_, ?_, ?_, ?_⟩
  · intro r recs s hprog hup hact hcredit hfree hside htake
    have hout : s.wort.dwl.out ≠ [] := by rintro h; rw [h] at htake; cases htake
    obtain ⟨hseq, hlen, -⟩ := State.pointSent_counts s s.dwl.seqPoint (r :: recs)
    rw [hprog] at hlen
    refine ⟨_, execDwlPointFrame_starts (hidle hprog) hup hact hcredit hfree hside hout htake, hseq, rfl,
      State.pointSent_credit s _ _, rfl, hlen, State.pointSent_last s _ _, State.pointSent_regsBut s _ _, State.pointSent_frame s _ _⟩
  · intro w ws s hprog hup hact hlrs hw hfree
    obtain ⟨recs, hexec⟩ := execDwlLrsFrame_starts (hidle hprog) hup hact hlrs hw hfree
    obtain ⟨hseq, hlen, hregs, hrest⟩ := State.lrsSent_counts s recs
    exact ⟨_, hexec, hseq, by rw [hlen, hprog]; rfl, hregs, hrest⟩
  · intro err s hprog hup
    obtain ⟨hpoint, hlrs⟩ := execDwl_off err s hprog (.inl hup)
    exact ⟨⟨s, hpoint, rfl⟩, ⟨s, hlrs, rfl⟩⟩
  · intro err s hprog hdev
    obtain ⟨hpoint, hlrs⟩ := execDwl_off err s hprog (.inr hdev)
    exact ⟨⟨s, hpoint, rfl⟩, ⟨s, hlrs, rfl⟩⟩
  · intro err s hprog hside
    refine ⟨s, ?_, rfl⟩
    change execDwlPointFrame err s = _
    unfold execDwlPointFrame
    rw [State.dwlSettle_idle hprog]
    exact if_neg (by simp [hside])
  · intro err r recs s hprog hup hact hcredit hfree hside hout hr herr
    have h := execDwlPointFrame_counts err r recs s (hidle hprog) hup hact hcredit hfree hside hout hr herr
    rwa [hprog] at h
  · exact execDwlPointFrame_counts
  · intro w ws s hprog hup hact hlrs hw hfree
    obtain ⟨recs, hexec⟩ := execDwlLrsFrame_starts hprog hup hact hlrs hw hfree
    exact ⟨_, hexec, State.lrsSent_counts s recs⟩

end Sys2Proof.Machine
end

section
namespace Sys2Proof.Machine

/-! ## The receive queues of the Ethernet ports: what leaves them alone -/

/-- The receive queues Q0, Q1 and Q2 of each port. -/
def State.rxQueues (s : State) (p : Nat) : List (List Byte) × List (List Byte) × List (List Byte) := ((s.eth p).q0, (s.eth p).q1, (s.eth p).q2)

theorem State.rxQueues_congr {s t : State} (h : t.eths = s.eths) : t.rxQueues = s.rxQueues := by
  funext p
  simp only [State.rxQueues, State.eth, h]

theorem State.setEth_rxQueues (s : State) (p : Nat) (x : EthSt) (h : (x.q0, x.q1, x.q2) = s.rxQueues p) : (s.setEth p x).rxQueues = s.rxQueues := by
  funext r
  by_cases hr : r = p
  · subst hr
    have hx : (s.setEth r x).eth r = x := SMap.get_set_self _ _ _ _
    rw [← h, State.rxQueues, hx]
  · have hx : (s.setEth p x).eth r = s.eth r := SMap.get_set_ne _ _ _ _ _ hr
    simp only [State.rxQueues, hx]

theorem State.ethKick_rxQueues (s : State) (p : Nat) : (s.ethKick p).rxQueues = s.rxQueues := by
  unfold State.ethKick
  dsimp only
  split
  · rfl
  · split
    · rfl
    · exact State.setEth_rxQueues s p _ rfl

theorem State.ethPush_rxQueues (s : State) (p : Nat) (f : TxFr) : (s.ethPush p f).rxQueues = s.rxQueues := by
  unfold State.ethPush
  rw [State.ethKick_rxQueues]
  exact State.setEth_rxQueues s p _ rfl

theorem State.rxQueues_ite (c : Prop) [Decidable c] (a b : State) : (if c then a else b).rxQueues = if c then a.rxQueues else b.rxQueues := by
  split <;> rfl

theorem State.setB_rxQueues (s : State) (F : Fld) (b : Bool) : (s.setB F b).rxQueues = s.rxQueues := rfl

theorem State.incMod_rxQueues (s : State) (F : Fld) (n : Nat) : (s.incMod F n).rxQueues = s.rxQueues := rfl

theorem State.incSat_rxQueues (s : State) (F : Fld) (n : Nat) : (s.incSat F n).rxQueues = s.rxQueues := rfl

theorem State.raise_rxQueues (s : State) (c : Cause) : (s.raise c).rxQueues = s.rxQueues := rfl

theorem State.withAmp_rxQueues (s : State) (x : AmpSt) : (s.withAmp x).rxQueues = s.rxQueues := rfl

theorem State.ipOpen_rxQueues (s : State) (f : TxFr) : (s.ipOpen f).1.rxQueues = s.rxQueues := by
  unfold State.ipOpen
  split <;> rfl

theorem State.ethSend_rxQueues (s : State) (p : Nat) (f : TxFr) : (s.ethSend p f).rxQueues = s.rxQueues := by
  unfold State.ethSend
  simp only [State.rxQueues_ite, State.setB_rxQueues, State.ethPush_rxQueues, State.incMod_rxQueues, State.ipOpen_rxQueues, ite_self]

theorem State.arpAsk_rxQueues (s : State) (p ip : Nat) : (s.arpAsk p ip).rxQueues = s.rxQueues := by
  unfold State.arpAsk
  dsimp only
  split
  · rfl
  · rw [State.ethSend_rxQueues]
    exact State.setEth_rxQueues s _ _ rfl

theorem State.ampSend_rxQueues (s : State) (r : AmpReq) (m : List Byte) : (s.ampSend r m).rxQueues = s.rxQueues := by
  unfold State.ampSend
  dsimp only
  split
  · simp only [State.rxQueues_ite, State.ethSend_rxQueues, State.arpAsk_rxQueues, State.withAmp_rxQueues, ite_self]
  · unfold State.sidePush
    split <;> rfl
  · exact State.rxQueues_congr (by simp)

theorem State.ampSettle_rxQueues (n : Nat) (s : State) : (State.ampSettle n s).rxQueues = s.rxQueues := by
  induction n generalizing s with
  | zero => rfl
  | succ n ih =>
    unfold State.ampSettle State.ampAnswer
    split
    · rfl
    · split
      · rfl
      · split
        · rfl
        · dsimp only
          rw [ih]
          split <;> simp only [State.ampSend_rxQueues, State.rxQueues_ite, State.incSat_rxQueues, State.withAmp_rxQueues, ite_self]

/-- A message that arrives at the agent leaves every receive queue alone. -/
theorem State.ampArrive_rxQueues (s : State) (src : AmpSrc) (port sport : Nat) (m : List Byte) : (s.ampArrive src port sport m).rxQueues = s.rxQueues := by
  unfold State.ampArrive State.ampAdmit State.ampDrop State.ampGo
  simp only [State.rxQueues_ite, State.ampSettle_rxQueues, State.raise_rxQueues, State.incSat_rxQueues, State.withAmp_rxQueues, ite_self]

/-- The agent has taken the head of port `p`'s queue Q1 (R285). -/
def State.q1Taken (s : State) (p : Nat) (q : List (List Byte)) : State := (s.setEth p { s.eth p with q1 := q }).qstat p

theorem State.q1Taken_rxQueues (s : State) (p : Nat) (q : List (List Byte)) : (s.q1Taken p q).rxQueues p = ((s.eth p).q0, q, (s.eth p).q2) := by
  have hx : (s.q1Taken p q).eth p = { s.eth p with q1 := q } := SMap.get_set_self _ _ _ _
  rw [State.rxQueues, hx]

theorem State.rxQueues_eq_iff {s : State} {p : Nat} {a b c : List (List Byte)} :
    s.rxQueues p = (a, b, c) ↔ (s.eth p).q0 = a ∧ (s.eth p).q1 = b ∧ (s.eth p).q2 = c := by
  simp only [State.rxQueues, Prod.mk.injEq]

/-- One whose parity is right arrives at the agent. -/
theorem execAmpEthDatagram_good {p : Nat} {slot : List Byte} {q : List (List Byte)} {s : State} (hp : p < 2) (hdev : s.dev ≠ .park)
    (htest : s.pins.parkTest = false) (hq : (s.eth p).q1 = slot :: q) :
    ∃ src port sport m, execAmpEthDatagram p s false = .next ((s.q1Taken p q).ampArrive src port sport m) := by
  simp only [execAmpEthDatagram, Nat.not_le.2 hp, hdev, htest, hq, decide_false, Bool.or_false, Bool.false_eq_true, if_false]
  exact ⟨_, _, _, _, rfl⟩

/-- One whose parity is wrong is dropped and counted (R361). -/
theorem execAmpEthDatagram_damaged {p : Nat} {slot : List Byte} {q : List (List Byte)} {s : State} (hp : p < 2) (hdev : s.dev ≠ .park)
    (htest : s.pins.parkTest = false) (hq : (s.eth p).q1 = slot :: q) :
    execAmpEthDatagram p s true = .next (((s.q1Taken p q).incSat (Fld.ETH_CNT_DROP_Q1 p) 1).raise (Cause.ETH_QDROP p)) := by
  simp only [execAmpEthDatagram, Nat.not_le.2 hp, hdev, htest, hq, decide_false, Bool.or_false, Bool.false_eq_true, if_false, if_true]
  rfl

/-- The drop counter of Q1 shares no bit with the queue levels nor with the cause of a drop. -/
theorem Fld.dropQ1_apart : ∀ p < 2, (Fld.ETH_CNT_DROP_Q1 p).fits = true ∧ (Cause.ETH_QDROP p).fld.fits = true ∧ (Cause.ETH_QDROP p).cnt.fits = true ∧
    (Fld.ETH_CNT_DROP_Q1 p).apart (Cause.ETH_QDROP p).fld = true ∧ (Fld.ETH_CNT_DROP_Q1 p).apart (Cause.ETH_QDROP p).cnt = true ∧
    (Fld.ETH_QSTAT_Q0 p).fits = true ∧ (Fld.ETH_QSTAT_Q1 p).fits = true ∧ (Fld.ETH_QSTAT_Q2 p).fits = true ∧
    (Fld.ETH_CNT_DROP_Q1 p).apart (Fld.ETH_QSTAT_Q0 p) = true ∧ (Fld.ETH_CNT_DROP_Q1 p).apart (Fld.ETH_QSTAT_Q1 p) = true ∧
    (Fld.ETH_CNT_DROP_Q1 p).apart (Fld.ETH_QSTAT_Q2 p) = true := by decide

theorem State.q1Taken_damaged {p : Nat} (hp : p < 2) (s : State) (q : List (List Byte)) :
    (((s.q1Taken p q).incSat (Fld.ETH_CNT_DROP_Q1 p) 1).raise (Cause.ETH_QDROP p)).causeSet (Cause.ETH_QDROP p) = true ∧
    (((s.q1Taken p q).incSat (Fld.ETH_CNT_DROP_Q1 p) 1).raise (Cause.ETH_QDROP p)).f (Fld.ETH_CNT_DROP_Q1 p) =
      min (2 ^ (Fld.ETH_CNT_DROP_Q1 p).w - 1) (s.f (Fld.ETH_CNT_DROP_Q1 p) + 1) := by
  obtain ⟨hfits, hfld, hcnt, hafld, hacnt, h0, h1, h2, ha0, ha1, ha2⟩ := Fld.dropQ1_apart p hp
  have hkept : (s.q1Taken p q).f (Fld.ETH_CNT_DROP_Q1 p) = s.f (Fld.ETH_CNT_DROP_Q1 p) := by
    unfold State.q1Taken State.qstat
    dsimp only
    rw [State.f_setF_apart _ _ _ _ h2 ha2, State.f_setF_apart _ _ _ _ h1 ha1, State.f_setF_apart _ _ _ _ h0 ha0]
    rfl
  refine ⟨State.b_raise_self _ _ hfld, ?_⟩
  rw [State.f_raise_apart _ _ _ hfld hcnt hafld hacnt, State.f_incSat_self _ _ _ hfits, hkept]

/-! ## A good message enters the queue (R286-R289) -/

/-- A request at the head of the queue that a command executes stays there. -/
theorem State.ampGo_of_head {s : State} {r : AmpReq} {q : List AmpReq} (hq : s.amp.queue = r :: q) (hr : s.ampStray r = none) : s.ampGo = s := by
  simp only [State.ampGo, hq, List.length_cons, State.ampSettle, hr, ite_self]

/-- The entry of the table of windows for source `src`, a new one where it has none (R288). -/
def State.winOf (s : State) (src : AmpSrc) : AmpWin := (s.amp.wins.find? (fun w => w.src = src)).getD { src := src, count := 0, start := s.ms }

/-- The request `r` is queued and counted in its source's window. -/
def State.ampQueued (s : State) (r : AmpReq) : State :=
  s.withAmp { s.amp with
    wins := s.amp.wins.filter (fun w => w.src != r.src) ++ [{ s.winOf r.src with count := (s.winOf r.src).count + 1 }], queue := s.amp.queue ++ [r] }

theorem State.winOf_count {s : State} {src : AmpSrc} (h : ∀ w ∈ s.amp.wins, w.src = src → w.count < 256) : (s.winOf src).count < 256 := by
  unfold State.winOf
  cases hw : s.amp.wins.find? (fun w => w.src = src) with
  | none => exact Nat.zero_lt_succ _
  | some w => exact h w (List.mem_of_find?_eq_some hw) (by simpa using List.find?_some hw)

/-- A request that finds room in the queue and in the window of its source, with no stray waiting, joins both (R288). -/
theorem State.ampAdmit_room {s : State} {r : AmpReq} (hudp : ampUdp r.src = false) (hroom : s.amp.queue.length < 32)
    (hcount : ∀ w ∈ s.amp.wins, w.src = r.src → w.count < 256) (hqueue : ∀ q ∈ s.amp.queue, s.ampStray q = none) (hstray : s.ampStray r = none) :
    s.ampAdmit r = s.ampQueued r := by
  have hw : ¬ 256 ≤ (s.winOf r.src).count := Nat.not_le.2 (State.winOf_count hcount)
  have hgo : (s.ampQueued r).ampGo = s.ampQueued r := by
    cases hq : s.amp.queue with
    | nil => exact State.ampGo_of_head (r := r) (q := []) (by simp [State.ampQueued, hq]) hstray
    | cons q l => exact State.ampGo_of_head (r := q) (q := l ++ [r]) (by simp [State.ampQueued, hq]) (hqueue q (by simp [hq]))
  unfold State.winOf at hw
  simp only [State.ampAdmit, hudp, hw, Nat.not_le.2 hroom, Bool.and_false, Bool.false_and, Bool.false_eq_true, decide_false, if_false]
  exact hgo

/-- A good message of MSPI or DWL that repeats none and finds room, with no stray waiting, joins the queue and its source's window. -/
theorem State.ampArrive_good {s : State} {src : AmpSrc} {port sport : Nat} {m : List Byte} (hnone : ampNone m = false) (hbad : ampBad m = false)
    (hudp : ampUdp src = false) (hnew : ∀ q ∈ s.amp.queue ++ s.amp.busy.toList, q.src = src → sameTag q.msg m = false)
    (hroom : s.amp.queue.length < 32) (hcount : ∀ w ∈ s.amp.wins, w.src = src → w.count < 256) (hqueue : ∀ q ∈ s.amp.queue, s.ampStray q = none)
    (hstray : s.ampStray { src := src, port := port, sport := sport, bad := false, msg := m } = none) :
    s.ampArrive src port sport m = s.ampQueued { src := src, port := port, sport := sport, bad := false, msg := m } := by
  have hlive : (s.amp.queue ++ s.amp.busy.toList).any (fun q => !q.bad && q.src = src && sameTag q.msg m) = false := by
    refine List.any_eq_false.2 fun q hq => ?_
    by_cases h : q.src = src
    · simp [hnew q hq h]
    · simp [h]
  simp only [State.ampArrive, hnone, hbad, hlive, Bool.not_false, Bool.true_and, Bool.false_and, Bool.false_eq_true, if_false]
  exact State.ampAdmit_room hudp hroom hcount hqueue hstray

/-- With an empty table of windows the source has a new one. -/
theorem State.ampQueued_first {s : State} {r : AmpReq} (hq : s.amp.queue = []) (hw : s.amp.wins = []) : (s.ampQueued r).amp.queue = [r] ∧
    (s.ampQueued r).amp.wins = [{ src := r.src, count := 1, start := s.ms }] ∧ { s.ampQueued r with amp := s.amp } = s := by
  refine ⟨by simp [State.ampQueued, hq], by simp [State.ampQueued, State.winOf, hw], rfl⟩

/-- A good message sets the wake-up from PARK where the device is in it, and otherwise changes nothing (R13, R35). -/
theorem State.ampWake_good {s : State} {m : List Byte} (hnone : ampNone m = false) (hbad : ampBad m = false) :
    s.ampWake m = s.withParkWake (s.parkWake || s.dev = .park || s.pins.parkTest) := by
  unfold State.ampWake
  by_cases hdev : s.dev = .park
  · simp [hnone, hbad, hdev]
  · cases htest : s.pins.parkTest
    · simp [hdev]; rfl
    · simp [hnone, hbad]

theorem State.ampWake_awake {s : State} (m : List Byte) (hdev : s.dev ≠ .park) (htest : s.pins.parkTest = false) : s.ampWake m = s := by
  simp [State.ampWake, hdev, htest]

theorem State.src_ne_mspi_of_rxFree {s : State} (h : s.rxFree = true) : ∀ q ∈ s.amp.queue ++ s.amp.busy.toList, q.src ≠ .mspi := by
  intro q hq
  simp only [State.rxFree, Bool.not_eq_true'] at h
  simpa using List.any_eq_false.1 h q hq

/-- A WRITE with a good message reaches the agent (R287). -/
theorem execMspiWrite_good {m : List Byte} {s : State} (hon : s.mspiOn = true) (hfree : s.rxFree = true) (hlen : m.length = 12 + le16 m 4) :
    execMspiWrite m (crc32 m) s = .next ((s.ampWake m).ampArrive .mspi 0 0 m) := by
  simp [execMspiWrite, hon, hfree, hlen]

/-- A SIDEBAND frame with a good CRC reaches the agent, where AMP_CFG.DWL enables it (R215, R285). -/
theorem execAmpDwlSideband_good {lane : Nat} {ws : List Word} {s : State} (hup : s.dwlUp = true) (hlane : s.dwlLanes.contains lane = true)
    (halign : s.dwlAligned lane = true) (hdev : s.dev ≠ .boot) (hcfg : s.b Fld.AMP_CFG_DWL = true) :
    execAmpDwlSideband lane ws true s = .next ((s.ampWake (sideMsg (ws.flatMap wordBytes))).ampArrive .dwl lane 0 (sideMsg (ws.flatMap wordBytes))) := by
  simp only [execAmpDwlSideband, hup, hlane, halign, hdev, hcfg, Bool.not_true, Bool.or_false, decide_false, Bool.false_eq_true, if_false]

/-! ## The ends of windows, session and lockout -/

theorem State.nvmPush_form (s : State) (w : NvmWrite) : ∃ n, s.nvmPush w = s.withNvm n := by
  obtain ⟨n, hn⟩ := State.nvmKick_form (s.withNvm { s.nvm with work := s.nvm.work ++ [w] })
  exact ⟨n, hn⟩

/-- Of an open change that is aborted nothing but GUARD_STAT.CHANGE_OPEN, GUARD_CRC and the NVM's work changes (R319). -/
theorem State.changeAbort_closed (s : State) (uid : Nat) :
    (s.changeAbort uid).1.b Fld.GUARD_STAT_CHANGE_OPEN = false ∧ (s.changeAbort uid).1.amp = s.amp := by
  have hclear : (s.setB Fld.GUARD_STAT_CHANGE_OPEN false).b Fld.GUARD_STAT_CHANGE_OPEN = false := State.b_setB_self _ _ _ (by decide) rfl
  unfold State.changeAbort
  split
  · next h => exact ⟨by simpa using h, rfl⟩
  · dsimp only
    split
    · obtain ⟨n, hn⟩ := State.nvmPush_form ((s.setB Fld.GUARD_STAT_CHANGE_OPEN false).rset Reg.GUARD_CRC (s.setB Fld.GUARD_STAT_CHANGE_OPEN false).guardCrc) _
      rw [hn]
      refine ⟨?_, rfl⟩
      refine (State.b_eq _ _ _ ?_).trans hclear
      exact State.rget_rset_ne _ _ _ _ (by decide)
    · exact ⟨hclear, rfl⟩

theorem State.endSession_eq {s : State} {x : AmpSess} (hsess : s.amp.sess = some x) (hbusy : s.amp.busy = none) :
    s.endSession = ((s.withAmp { s.amp with sess := none }).changeAbort x.uid).1 := by
  simp [State.endSession, hsess, hbusy]

/-- A session that ends with no COMMIT waiting closes its change (R294, R319). -/
theorem State.endSession_closes {s : State} {x : AmpSess} (hsess : s.amp.sess = some x) (hbusy : s.amp.busy = none) :
    s.endSession.amp.sess = none ∧ s.endSession.b Fld.GUARD_STAT_CHANGE_OPEN = false := by
  obtain ⟨hclosed, hamp⟩ := State.changeAbort_closed (s.withAmp { s.amp with sess := none }) x.uid
  rw [State.endSession_eq hsess hbusy, hamp]
  exact ⟨rfl, hclosed⟩

/-- Without an open change the end of a session changes the agent alone. -/
theorem State.endSession_unopened {s : State} {x : AmpSess} (hsess : s.amp.sess = some x) (hbusy : s.amp.busy = none)
    (hopen : s.b Fld.GUARD_STAT_CHANGE_OPEN = false) : s.endSession = s.withAmp { s.amp with sess := none } := by
  have hopen' : (s.withAmp { s.amp with sess := none }).b Fld.GUARD_STAT_CHANGE_OPEN = false := hopen
  rw [State.endSession_eq hsess hbusy, State.changeAbort, hopen']
  rfl

theorem execGuardSessionTimeout_ended {s : State} {x : AmpSess} (hsess : s.amp.sess = some x) (hdue : x.last + 60000 ≤ s.ms) (hbusy : s.amp.busy = none) :
    execGuardSessionTimeout s = .next s.endSession := by
  simp [execGuardSessionTimeout, hsess, hdue, hbusy]

/-! ## The statement, by carrier -/

theorem ampEthDatagram_arrives (p : Nat) (par : Bool) (slot : List Byte) (q : List (List Byte)) (s : State) (hp : p < 2) (hdev : s.dev ≠ .park)
    (htest : s.pins.parkTest = false) (hq : (s.eth p).q1 = slot :: q) :
    Answers (.ampEthDatagram p par) s (fun t => (t.eth p).q1 = q ∧ (t.eth p).q0 = (s.eth p).q0 ∧ (t.eth p).q2 = (s.eth p).q2 ∧ t.dev = s.dev) := by
  obtain ⟨t, hexec, hrx⟩ : ∃ t, execAmpEthDatagram p s par = .next t ∧ t.rxQueues = (s.q1Taken p q).rxQueues := by
    cases par with
    | false =>
      obtain ⟨src, port, sport, m, hexec⟩ := execAmpEthDatagram_good hp hdev htest hq
      exact ⟨_, hexec, State.ampArrive_rxQueues _ _ _ _ _⟩
    | true => exact ⟨_, execAmpEthDatagram_damaged hp hdev htest hq, by rw [State.raise_rxQueues, State.incSat_rxQueues]⟩
  have hdev' := execAmpEthDatagram_dev p s par
  rw [hexec] at hdev'
  obtain ⟨h0, h1, h2⟩ := State.rxQueues_eq_iff.1 ((congrFun hrx p).trans (State.q1Taken_rxQueues s p q))
  exact ⟨t, hexec, h1, h0, h2, hdev'⟩

theorem ampEthDatagram_dropped (p : Nat) (slot : List Byte) (q : List (List Byte)) (s : State) (hp : p < 2) (hdev : s.dev ≠ .park)
    (htest : s.pins.parkTest = false) (hq : (s.eth p).q1 = slot :: q) :
    Answers (.ampEthDatagram p true) s (fun t => (t.eth p).q1 = q ∧ t.amp = s.amp ∧ t.causeSet (Cause.ETH_QDROP p) = true ∧
      t.f (Fld.ETH_CNT_DROP_Q1 p) = min (2 ^ (Fld.ETH_CNT_DROP_Q1 p).w - 1) (s.f (Fld.ETH_CNT_DROP_Q1 p) + 1)) := by
  obtain ⟨hcause, hcount⟩ := State.q1Taken_damaged hp s q
  have hrx : (((s.q1Taken p q).incSat (Fld.ETH_CNT_DROP_Q1 p) 1).raise (Cause.ETH_QDROP p)).rxQueues p = ((s.eth p).q0, q, (s.eth p).q2) := by
    rw [State.raise_rxQueues, State.incSat_rxQueues, State.q1Taken_rxQueues]
  obtain ⟨-, hq1, -⟩ := State.rxQueues_eq_iff.1 hrx
  refine ⟨_, execAmpEthDatagram_damaged hp hdev htest hq, hq1, ?_, hcause, hcount⟩
  simp [State.q1Taken, State.qstat]

/-- A good message, with or without a wake-up, enters at the tail of the queue. -/
theorem State.ampArrive_woken {s : State} {src : AmpSrc} {port : Nat} {m : List Byte} (hnone : ampNone m = false) (hbad : ampBad m = false)
    (hudp : ampUdp src = false) (hnew : ∀ q ∈ s.amp.queue ++ s.amp.busy.toList, q.src = src → sameTag q.msg m = false)
    (hroom : s.amp.queue.length < 32) (hcount : ∀ w ∈ s.amp.wins, w.src = src → w.count < 256) (hqueue : ∀ q ∈ s.amp.queue, s.ampStray q = none)
    (hstray : s.ampStray { src := src, port := port, sport := 0, bad := false, msg := m } = none) :
    ((s.ampWake m).ampArrive src port 0 m).amp.queue = s.amp.queue ++ [{ src := src, port := port, sport := 0, bad := false, msg := m }] ∧
    ((s.ampWake m).ampArrive src port 0 m).parkWake = (s.parkWake || s.dev = .park || s.pins.parkTest) ∧
    ((s.ampWake m).ampArrive src port 0 m).regs = s.regs ∧ ((s.ampWake m).ampArrive src port 0 m).dev = s.dev := by
  rw [State.ampWake_good hnone hbad]
  rw [State.ampArrive_good (s := s.withParkWake (s.parkWake || s.dev = .park || s.pins.parkTest)) hnone hbad hudp hnew hroom hcount hqueue hstray]
  exact ⟨rfl, rfl, rfl, rfl⟩

/-- A good message for which the agent has nothing waiting is its only one. -/
theorem State.ampArrive_first {s : State} {src : AmpSrc} {port : Nat} {m : List Byte} (hnone : ampNone m = false) (hbad : ampBad m = false)
    (hudp : ampUdp src = false) (hqueue : s.amp.queue = []) (hbusy : s.amp.busy = none) (hwins : s.amp.wins = []) (hdev : s.dev ≠ .park)
    (htest : s.pins.parkTest = false) (hstray : s.ampStray { src := src, port := port, sport := 0, bad := false, msg := m } = none) :
    ((s.ampWake m).ampArrive src port 0 m).amp.queue = [{ src := src, port := port, sport := 0, bad := false, msg := m }] ∧
    ((s.ampWake m).ampArrive src port 0 m).amp.wins = [{ src := src, count := 1, start := s.ms }] ∧
    { (s.ampWake m).ampArrive src port 0 m with amp := s.amp } = s := by
  rw [State.ampWake_awake m hdev htest, State.ampArrive_good hnone hbad hudp (by simp [hqueue, hbusy]) (by simp [hqueue]) (by simp [hwins])
    (by simp [hqueue]) hstray]
  exact State.ampQueued_first hqueue hwins

theorem ampDwlSideband_badCrc (lane : Nat) (ws : List Word) (s : State) (hup : s.dwlUp = true) (hlane : s.dwlLanes.contains lane = true)
    (halign : s.dwlAligned lane = true) (hdev : s.dev ≠ .boot) :
    Answers (.ampDwlSideband lane ws false) s (fun t => t.f Fld.DWL_CNT_RXBAD = min (2 ^ Fld.DWL_CNT_RXBAD.w - 1) (s.f Fld.DWL_CNT_RXBAD + 1) ∧
      t.causeSet Cause.DWL_RX_CRC = true ∧ { t with regs := s.regs } = s) := by
  refine ⟨(s.raise Cause.DWL_RX_CRC).incSat Fld.DWL_CNT_RXBAD 1, ?_, ?_, ?_, by simp⟩
  · change execAmpDwlSideband lane ws false s = _
    simp only [execAmpDwlSideband, hup, hlane, halign, hdev, Bool.not_true, Bool.not_false, Bool.or_false, decide_false, Bool.false_eq_true, if_false, if_true]
  · rw [State.f_incSat_self _ _ _ (by decide), State.f_raise_apart _ _ _ (by decide) (by decide) (by decide) (by decide)]
  · refine (State.b_incSat_apart _ _ _ _ (by decide) (by decide)).trans ?_
    exact State.b_raise_self _ _ (by decide)

theorem ampDwlSideband_ignored (lane : Nat) (ws : List Word) (ok : Bool) (s : State)
    (h : s.dwlUp = false ∨ s.dwlLanes.contains lane = false ∨ s.dwlAligned lane = false) : Answers (.ampDwlSideband lane ws ok) s (fun t => t = s) := by
  refine ⟨s, if_pos ?_, rfl⟩
  rcases h with h | h | h <;> simp only [h, Bool.not_false, Bool.true_or, Bool.or_true]

/-- Settles O49: the datagram's part by the frame of the receive queues, the good messages' by `State.ampArrive_good`. -/
theorem ampArrival : Obligations.AmpArrival := by
  unfold Obligations.AmpArrival
  refine ⟨?_, ampEthDatagram_arrives, ?_, ampDwlSideband_badCrc, ?_, ?_, ?_, ?_, ?_, ?_, ?_, ?_, ?_, ?_, ?_, ampEthDatagram_dropped, ?_, ?_, ?_, ?_⟩
  · intro p par s _ hq
    refine ⟨s, ?_, rfl⟩
    change execAmpEthDatagram p s par = _
    simp [execAmpEthDatagram, hq]
  · intro lane ws ok s hup
    exact ampDwlSideband_ignored lane ws ok s (.inl hup)
  · intro m crc s hon hcrc
    refine ⟨s.incSat Fld.AMP_CNT2_MSPIBAD 1, ?_, State.f_incSat_self _ _ _ (by decide), State.regsBut_setF _ _ (State.regsBut_refl _ s) (by decide), rfl⟩
    change execMspiWrite m crc s = _
    simp [execMspiWrite, hon, hcrc]
  · intro m s hon hlen hnone hbad hqueue hbusy hwins hdev htest hstray
    have hfree : s.rxFree = true := by simp [State.rxFree, hqueue, hbusy]
    exact ⟨_, execMspiWrite_good hon hfree hlen, State.ampArrive_first hnone hbad rfl hqueue hbusy hwins hdev htest hstray⟩
  · intro s hon
    refine ⟨s.withAmp { s.amp with reply := none }, ?_, rfl, rfl⟩
    change execMspiRead true s = _
    simp [execMspiRead, hon]
  · intro s
    refine ⟨⟨s, ?_, rfl⟩, ⟨s, rfl, rfl⟩⟩
    change execMspiRead false s = _
    simp [execMspiRead]
  · intro src s
    refine ⟨_, rfl, ?_, ?_, rfl, rfl⟩
    · intro w hw hsrc
      have hkeep := (List.mem_filter.1 hw).2
      simpa [hsrc] using hkeep
    · intro w hw h
      exact List.mem_filter.2 ⟨hw, by simpa using h⟩
  · intro s hsess
    refine ⟨s, ?_, rfl⟩
    change execGuardSessionTimeout s = _
    simp [execGuardSessionTimeout, hsess]
  · intro x s hsess hdue hbusy hopen
    refine ⟨_, (execGuardSessionTimeout_ended hsess hdue hbusy).trans (congrArg _ (State.endSession_unopened hsess hbusy hopen)), rfl, rfl⟩
  · intro s hlocked hdue
    refine ⟨s.withAmp { s.amp with locked := false, fails := 0 }, ?_, rfl, rfl, rfl⟩
    change execAuthLockoutEnd s = _
    simp [execAuthLockoutEnd, hlocked, hdue]
  · intro x s hsess hearly
    refine ⟨s, ?_, rfl⟩
    change execGuardSessionTimeout s = _
    simp [execGuardSessionTimeout, hsess, Nat.not_le.2 hearly]
  · intro s h
    refine ⟨s, ?_, rfl⟩
    change execAuthLockoutEnd s = _
    rcases h with h | h
    · simp [execAuthLockoutEnd, h]
    · simp [execAuthLockoutEnd, Nat.not_le.2 h]
  · intro lane ws ok s h
    exact ampDwlSideband_ignored lane ws ok s (.inr h)
  · intro lane ws s hup hlane halign hboot hdev htest hcfg hnone hbad hqueue hbusy hwins hstray
    exact ⟨_, execAmpDwlSideband_good hup hlane halign hboot hcfg, State.ampArrive_first hnone hbad rfl hqueue hbusy hwins hdev htest hstray⟩
  · intro m s hon hfree hlen hnone hbad hroom hqueue hstray hcount
    have hnew (q : AmpReq) (hq : q ∈ s.amp.queue ++ s.amp.busy.toList) (hsrc : q.src = .mspi) : sameTag q.msg m = false :=
      absurd hsrc (State.src_ne_mspi_of_rxFree hfree q hq)
    exact ⟨_, execMspiWrite_good hon hfree hlen, State.ampArrive_woken hnone hbad rfl hnew hroom hcount hqueue hstray⟩
  · intro lane ws s hup hlane halign hboot hcfg hnone hbad hroom hqueue hnew hcount hstray
    exact ⟨_, execAmpDwlSideband_good hup hlane halign hboot hcfg, State.ampArrive_woken hnone hbad rfl hnew hroom hcount hqueue hstray⟩
  · intro x s hsess hdue hbusy
    obtain ⟨hended, hclosed⟩ := State.endSession_closes hsess hbusy
    exact ⟨_, execGuardSessionTimeout_ended hsess hdue hbusy, hended, hclosed, State.endSession_dev s⟩

end Sys2Proof.Machine
end

section
namespace Sys2Proof.Machine

/-! # What decides whether a master's access is made (R17-R19) -/

/-- The time, and the registers that the bus decides by: BUS_FROZEN, and behind it what a freeze has latched and the masters' windows. -/
def State.busView (s : State) : Nat × (Nat → Word) := (s.now, fun i => s.rget (Reg.BUS_FROZEN + i))

theorem State.busView_congr {s t : State} (hn : t.now = s.now) (hr : ∀ i, t.rget (Reg.BUS_FROZEN + i) = s.rget (Reg.BUS_FROZEN + i)) :
    t.busView = s.busView :=
  Prod.ext hn (funext hr)

theorem State.busView_of_regs {s t : State} (hn : t.now = s.now) (hr : t.regs = s.regs) : t.busView = s.busView :=
  State.busView_congr hn fun _ => by unfold State.rget; rw [hr]

theorem State.rget_of_busView {s t : State} (h : t.busView = s.busView) {a : Nat} (ha : Reg.BUS_FROZEN ≤ a) : t.rget a = s.rget a := by
  obtain ⟨i, rfl⟩ := Nat.exists_eq_add_of_le ha
  exact congrFun (congrArg Prod.snd h) i

theorem State.frozen_of_busView {s t : State} (h : t.busView = s.busView) (m : Nat) : t.frozen m = s.frozen m := by
  unfold State.frozen
  rw [State.rget_of_busView h (Nat.le_refl _)]

theorem State.breaks_of_busView {s t : State} (h : t.busView = s.busView) (m a : Nat) (wr : Bool) : t.breaks m a wr = s.breaks m a wr := by
  have hlo (w : Nat) : t.rget (Reg.BUS_WIN_LO (m - 1) w) = s.rget (Reg.BUS_WIN_LO (m - 1) w) :=
    State.rget_of_busView h (by unfold Reg.BUS_WIN_LO Reg.BUS_FROZEN; omega)
  have hhi (w : Nat) : t.rget (Reg.BUS_WIN_HI (m - 1) w) = s.rget (Reg.BUS_WIN_HI (m - 1) w) :=
    State.rget_of_busView h (by unfold Reg.BUS_WIN_HI Reg.BUS_FROZEN; omega)
  have hwin : t.windowOk m a wr = s.windowOk m a wr := by
    unfold State.windowOk
    simp only [hlo, hhi]
  unfold State.breaks
  rw [hwin]

theorem State.busView_ite (c : Prop) [Decidable c] (a b : State) : (if c then a else b).busView = if c then a.busView else b.busView := by
  split <;> rfl

theorem foldl_busView {α : Type} {g : State → α → State} {l : List α} (h : ∀ s, ∀ x ∈ l, (g s x).busView = s.busView) (s : State) :
    (l.foldl g s).busView = s.busView := by
  induction l generalizing s with
  | nil => rfl
  | cons x l ih =>
    rw [List.foldl_cons, ih (fun s y hy => h s y (List.mem_cons_of_mem _ hy)), h s x List.mem_cons_self]

/-! ## Single updates -/

theorem State.rset_busView {a : Nat} (h : a < Reg.BUS_FROZEN) (s : State) (v : Word) : (s.rset a v).busView = s.busView :=
  State.busView_congr rfl fun i => State.rget_rset_ne _ _ _ _ (by omega)

/-- A field below the registers that the bus decides by. -/
def Fld.belowBus (F : Fld) : Bool := decide (F.addr < Reg.BUS_FROZEN)

/-- A cause whose bit and counter lie below the registers that the bus decides by. -/
def Cause.belowBus (c : Cause) : Bool := c.fld.belowBus && c.cnt.belowBus

@[simp] theorem State.setF_busView {F : Fld} (h : F.belowBus = true) (s : State) (x : Nat) : (s.setF F x).busView = s.busView :=
  State.rset_busView (of_decide_eq_true h) s _
@[simp] theorem State.setB_busView {F : Fld} (h : F.belowBus = true) (s : State) (p : Bool) : (s.setB F p).busView = s.busView := State.setF_busView h s _
@[simp] theorem State.setFs_busView {F : Fld} (h : F.belowBus = true) (s : State) (x : Int) : (s.setFs F x).busView = s.busView := State.setF_busView h s _
@[simp] theorem State.incSat_busView {F : Fld} (h : F.belowBus = true) (s : State) (n : Nat) : (s.incSat F n).busView = s.busView := State.setF_busView h s _
@[simp] theorem State.incMod_busView {F : Fld} (h : F.belowBus = true) (s : State) (n : Nat) : (s.incMod F n).busView = s.busView := State.setF_busView h s _
@[simp] theorem State.raise_busView {c : Cause} (h : c.belowBus = true) (s : State) : (s.raise c).busView = s.busView := by
  simp only [Cause.belowBus, Bool.and_eq_true] at h
  rw [State.raise_eq, State.setF_busView h.1, State.incSat_busView h.2]
@[simp] theorem State.raiseIf_busView {c : Cause} (h : c.belowBus = true) (s : State) (p : Bool) : (s.raiseIf p c).busView = s.busView := by
  cases p
  · rfl
  · exact State.raise_busView h s

@[simp] theorem State.withTun_busView (s : State) (x : SMap (BitVec 16)) : (s.withTun x).busView = s.busView := (rfl)
@[simp] theorem State.withRst_busView (s : State) (x : RstSt) : (s.withRst x).busView = s.busView := (rfl)
@[simp] theorem State.withPins_busView (s : State) (x : PinSt) : (s.withPins x).busView = s.busView := (rfl)
@[simp] theorem State.withScan_busView (s : State) (x : ScanSt) : (s.withScan x).busView = s.busView := (rfl)
@[simp] theorem State.withTime_busView (s : State) (x : TimeSt) : (s.withTime x).busView = s.busView := (rfl)
@[simp] theorem State.withAnchor_busView (s : State) (x : Anchor) : (s.withAnchor x).busView = s.busView := (rfl)
@[simp] theorem State.withMash_busView (s : State) (x : MashSt) : (s.withMash x).busView = s.busView := (rfl)
@[simp] theorem State.withCtl_busView (s : State) (x : CtlSt) : (s.withCtl x).busView = s.busView := (rfl)
@[simp] theorem State.withAdc_busView (s : State) (x : AdcSt) : (s.withAdc x).busView = s.busView := (rfl)
@[simp] theorem State.withCask_busView (s : State) (x : CaskSt) : (s.withCask x).busView = s.busView := (rfl)
@[simp] theorem State.withDma_busView (s : State) (x : SMap (Option DmaSt)) : (s.withDma x).busView = s.busView := (rfl)
@[simp] theorem State.withFlOp_busView (s : State) (x : Option FlashOp) : (s.withFlOp x).busView = s.busView := (rfl)
@[simp] theorem State.setChan_busView (s : State) (c : Nat) (x : ChanSt) : (s.setChan c x).busView = s.busView := (rfl)
@[simp] theorem State.setTin_busView (s : State) (n : Nat) (x : TinSt) : (s.setTin n x).busView = s.busView := (rfl)
@[simp] theorem State.setEth_busView (s : State) (p : Nat) (x : EthSt) : (s.setEth p x).busView = s.busView := (rfl)
@[simp] theorem State.setBin_busView (s : State) (n : Nat) (v : BitVec 16) : (s.setBin n v).busView = s.busView := (rfl)
@[simp] theorem State.modChAcc_busView (s : State) (c : Nat) (old : Bool) (g : ChAcc → ChAcc) : (s.modChAcc c old g).busView = s.busView := (rfl)
@[simp] theorem State.line_busView (s : State) (c i : Nat) : (s.line c i).busView = s.busView := (rfl)
@[simp] theorem State.raiseReset_busView (s : State) (n : Nat) : (s.raiseReset n).busView = s.busView := (rfl)
@[simp] theorem State.msetW_busView (s : State) (a : Nat) (v : Word) : (s.msetW a v).busView = s.busView := (rfl)
@[simp] theorem State.fresh_busView (s : State) : s.fresh.2.busView = s.busView := (rfl)

@[simp] theorem State.nvmPush_busView (s : State) (w : NvmWrite) : (s.nvmPush w).busView = s.busView := by
  obtain ⟨n, hn⟩ := State.nvmKick_form (s.withNvm { s.nvm with work := s.nvm.work ++ [w] })
  exact (congrArg State.busView hn).trans rfl
@[simp] theorem State.logEvent_busView (s : State) (c : Nat) (x y : Word) : (s.logEvent c x y).busView = s.busView := by
  obtain ⟨n, r, h⟩ := State.logEvent_form s c x y
  refine State.busView_congr (by rw [h]) fun i => State.rget_logEvent_ne _ _ _ _ _ ?_
  unfold Reg.THERM_CNT Reg.BUS_FROZEN
  omega

/-! ## Register writes -/

/-- Of the words behind BUS_FRZ none has a bit that a bus write changes. -/
theorem regRows26_fixed : ∀ r ∈ regRows 26, r.off = 0 ∧ r.n1 = 1 ∧ r.n2 = 1 ∧ r.s1 = 4 ∨ r.rw = 0 ∧ r.w1c = 0 := by decide

theorem RegRow.merge_fixed {r : RegRow} (hrw : r.rw = 0) (hw1c : r.w1c = 0) (old v : Word) : r.merge old v = old := by
  unfold RegRow.merge
  rw [hrw, hw1c]
  change (old &&& ~~~(0#32 ||| (0#32 &&& v))) ||| (v &&& 0#32) = old
  rw [BitVec.zero_and, BitVec.or_zero, BitVec.and_zero, BitVec.or_zero, BitVec.not_zero, BitVec.and_allOnes]

theorem RegRow.merge_behindBus {a : Nat} {r : RegRow} (hr : findReg a = some r) (ha : Reg.BUS_FROZEN ≤ a) (old v : Word) : r.merge old v = old := by
  have hrow : r ∈ regRows (a / 0x10000) := List.mem_of_find?_eq_some hr
  have hholds : r.holds (a % 0x10000) = true := by
    have h := List.find?_some (p := fun r : RegRow => r.holds (a % 0x10000)) hr
    exact h
  unfold Reg.BUS_FROZEN at ha
  by_cases h26 : a / 0x10000 = 26
  · rw [h26] at hrow
    rcases regRows26_fixed r hrow with ⟨hoff, hn1, hn2, hs1⟩ | ⟨hrw, hw1c⟩
    · simp only [RegRow.holds, hoff, hn1, hs1, Bool.and_eq_true, decide_eq_true_eq] at hholds
      omega
    · exact RegRow.merge_fixed hrw hw1c old v
  · have hnone : regRows (a / 0x10000) = [] := by
      obtain ⟨n, hn⟩ : ∃ n, a / 0x10000 = n + 27 := ⟨a / 0x10000 - 27, by omega⟩
      rw [hn]
      rfl
    rw [hnone] at hrow
    cases hrow

/-- The plain write of a register changes none that the bus decides by. -/
@[simp] theorem State.regStore_busView (s : State) (a : Nat) (v : Word) : (s.regStore a v).busView = s.busView := by
  unfold State.regStore
  split
  · rfl
  · next r hr =>
    by_cases ha : a < Reg.BUS_FROZEN
    · exact State.rset_busView ha s _
    · have hsame : r.merge (s.rget a) v = s.rget a := RegRow.merge_behindBus hr (by omega) _ _
      rw [hsame]
      refine State.busView_congr rfl fun i => ?_
      by_cases hi : Reg.BUS_FROZEN + i = a
      · rw [hi, State.rget_rset_self]
      · exact State.rget_rset_ne _ _ _ _ hi

theorem Fld.derTk_belowBus : ∀ n < 8, (Fld.EMIT_DER_TK n).belowBus = true ∧ (Fld.KILN_TJ_TJ n).belowBus = true ∧ (Fld.CTL_CSP_SP n 2).belowBus = true := by decide

theorem State.updateKnee_busView {n : Nat} (hn : n < 8) (s : State) : (s.updateKnee n).busView = s.busView := by
  obtain ⟨htk, htj, hsp⟩ := Fld.derTk_belowBus n hn
  unfold State.updateKnee State.updateTj
  dsimp only
  split
  · rfl
  · rw [State.setF_busView hsp, State.setFs_busView htj, State.setF_busView htk]

@[simp] theorem State.lostClear_busView (s : State) (key : Word) : (s.lostClear key).busView = s.busView := by
  unfold State.lostClear State.recordLoss
  split
  · rw [State.logEvent_busView, foldl_busView (fun s n hn => State.updateKnee_busView (List.mem_range.1 hn) s), State.nvmPush_busView,
      State.setF_busView (by decide), State.rset_busView (by decide), State.rset_busView (by decide)]
  · rfl

@[simp] theorem State.scanCtrl_busView (s : State) (v : Word) : (s.scanCtrl v).busView = s.busView := State.regStore_busView _ _ _

@[simp] theorem State.calRun_busView (s : State) : s.calRun.busView = s.busView := by
  unfold State.calRun State.startBootRun
  split
  · simp (disch := decide)
  · rfl

@[simp] theorem State.capArm_busView (s : State) : s.capArm.busView = s.busView := State.setF_busView (by decide) _ _

@[simp] theorem State.snapArm_busView (s : State) : s.snapArm.busView = s.busView := State.setB_busView (by decide) _ _

@[simp] theorem State.anchorCommit_busView (s : State) : s.anchorCommit.busView = s.busView := rfl

@[simp] theorem State.ctlApply_busView (s : State) : s.ctlApply.busView = s.busView := rfl

@[simp] theorem State.lockFollow_busView (s : State) : s.lockFollow.busView = s.busView := by
  unfold State.lockFollow
  split
  · rfl
  · rw [State.withScan_busView, State.setB_busView (by decide)]

@[simp] theorem State.adcGainWritten_busView (s : State) (k old : Nat) : (s.adcGainWritten k old).busView = s.busView := by
  unfold State.adcGainWritten
  split <;> rfl

@[simp] theorem State.adcChannelWritten_busView (s : State) (old : Nat) : (s.adcChannelWritten old).busView = s.busView := by
  unfold State.adcChannelWritten
  split <;> rfl

@[simp] theorem State.reqGo_busView (s : State) (n : Nat) : (s.reqGo n).busView = s.busView := by
  unfold State.reqGo
  split <;> rfl

@[simp] theorem State.adcFirWritten_busView (s : State) (v : Word) : (s.adcFirWritten v).busView = s.busView := by
  have hcommit : s.firCommit.busView = s.busView := rfl
  unfold State.adcFirWritten
  dsimp only
  split <;> split <;> exact hcommit

@[simp] theorem State.capCtl_busView (s : State) (v : Word) : (s.capCtl v).busView = s.busView := by
  simp [State.capCtl, State.busView_ite]

@[simp] theorem State.snapCtl_busView (s : State) (v : Word) : (s.snapCtl v).busView = s.busView := by
  simp [State.snapCtl, State.busView_ite]

@[simp] theorem State.anchShi_busView (s : State) (v : Word) : (s.anchShi v).busView = s.busView := by
  simp [State.anchShi]

@[simp] theorem State.ctlCtrl_busView (s : State) (v : Word) : (s.ctlCtrl v).busView = s.busView := by
  simp [State.ctlCtrl, State.busView_ite]

@[simp] theorem State.adcSrc_busView (s : State) (k : Nat) (v : Word) : (s.adcSrc k v).busView = s.busView := by
  simp [State.adcSrc]

@[simp] theorem State.adcBg_busView (s : State) (v : Word) : (s.adcBg v).busView = s.busView := by
  simp [State.adcBg]

@[simp] theorem State.adcReq_busView (s : State) (n : Nat) (v : Word) : (s.adcReq n v).busView = s.busView := by
  simp [State.adcReq, State.busView_ite]

theorem Fld.ethQstat_belowBus : ∀ p < 2, (Fld.ETH_QSTAT_Q0 p).belowBus = true ∧ (Fld.ETH_QSTAT_Q1 p).belowBus = true ∧ (Fld.ETH_QSTAT_Q2 p).belowBus = true ∧
    (Fld.ETH_TXSTAT_BUSY p).belowBus = true ∧ (Fld.ETH_CNT_RXBAD_FILT p).belowBus = true ∧ Reg.ETH_TXCMD p < Reg.BUS_FROZEN := by decide

theorem State.qpop_busView {p : Nat} (hp : p < 2) (s : State) : (s.qpop p).busView = s.busView := by
  obtain ⟨h0, h1, h2, -⟩ := Fld.ethQstat_belowBus p hp
  unfold State.qpop State.qstat
  dsimp only
  rw [State.setF_busView h2, State.setF_busView h1, State.setF_busView h0, State.setEth_busView]

@[simp] theorem State.ethPush_busView (s : State) (p : Nat) (f : TxFr) : (s.ethPush p f).busView = s.busView := by
  unfold State.ethPush State.ethKick
  dsimp only
  split
  · rfl
  · split <;> rfl

theorem State.ethSend_busView {p : Nat} (hp : p < 2) (s : State) (f : TxFr) : (s.ethSend p f).busView = s.busView := by
  obtain ⟨-, -, -, hbusy, -⟩ := Fld.ethQstat_belowBus p hp
  have hopen : (s.ipOpen f).1.busView = s.busView := by
    unfold State.ipOpen
    split <;> rfl
  have hseq : Fld.PRP_SEQ_SEQ.belowBus = true := by decide
  simp only [State.ethSend, State.busView_ite, State.setB_busView hbusy, State.ethPush_busView, State.incMod_busView hseq, hopen, ite_self]

theorem State.txcmdWrite_busView {p : Nat} (hp : p < 2) (s : State) (v : Word) : (s.txcmdWrite p v).busView = s.busView := by
  obtain ⟨-, -, -, hbusy, hfilt, hcmd⟩ := Fld.ethQstat_belowBus p hp
  simp only [State.txcmdWrite, State.busView_ite, State.incSat_busView hfilt, State.ethSend_busView hp, State.setB_busView hbusy,
    State.rset_busView hcmd, ite_self]

@[simp] theorem State.timeIncWrite_busView (s : State) (v : Word) : (s.timeIncWrite v).busView = s.busView := by
  unfold State.timeIncWrite
  rw [State.raiseIf_busView (by decide), State.rset_busView (by decide)]

@[simp] theorem State.timeOfsWrite_busView (s : State) (v : Word) : (s.timeOfsWrite v).busView = s.busView := by
  unfold State.timeOfsWrite
  rw [State.setB_busView (by decide), State.withTime_busView]

@[simp] theorem State.timeCtrlWrite_busView (s : State) (m : Nat) (v : Word) : (s.timeCtrlWrite m v).busView = s.busView := by
  unfold State.timeCtrlWrite State.timeInvalid
  dsimp only
  split
  · rw [State.setB_busView (by decide), State.rset_busView (by decide)]
  · rw [State.withPins_busView, State.setB_busView (by decide), State.rset_busView (by decide)]

@[simp] theorem State.timePpsWrite_busView (s : State) (v : Word) : (s.timePpsWrite v).busView = s.busView := by
  unfold State.timePpsWrite
  dsimp only
  split
  · rw [State.raise_busView (by decide), State.setB_busView (by decide), State.rset_busView (by decide)]
  · rw [State.setB_busView (by decide), State.rset_busView (by decide)]

@[simp] theorem State.lrsGo_busView (s : State) : s.lrsGo.busView = s.busView := by
  unfold State.lrsGo
  dsimp only
  split
  · rfl
  · split
    · exact State.setB_busView (by decide) _ _
    · rfl

@[simp] theorem State.caskRefuse_busView (s : State) : s.caskRefuse.busView = s.busView := by
  simp (disch := decide) [State.caskRefuse, State.busView_ite]

theorem State.caskStore_busView {a : Nat} (ha : a < Reg.BUS_FROZEN) (s : State) (v : Word) : (s.caskStore a v).busView = s.busView := by
  unfold State.caskStore
  split
  · unfold State.calcfgWrite State.caskApply
    simp (disch := decide) [State.busView_ite]
  · split
    · exact State.caskRefuse_busView s
    · split
      · rfl
      · exact State.rset_busView ha s _

theorem Fld.wdt_belowBus : ∀ c < 2, (Fld.DSP_WDTCNT_LEFT c).belowBus = true ∧ Reg.DSP_MBOX c 7 < Reg.BUS_FROZEN ∧ (Fld.DSP_ECC_CE c).belowBus = true ∧
    (Fld.DSP_ECC_UE c).belowBus = true ∧ (Fld.DSP_ECCADDR_ADDR c).belowBus = true ∧ (Cause.DSP_CE c).belowBus = true ∧ (Cause.DSP_UE c).belowBus = true := by
  decide

theorem State.wdtKick_busView {c : Nat} (hc : c < 2) (s : State) (v : Word) : (s.wdtKick c v).busView = s.busView := by
  obtain ⟨hleft, -⟩ := Fld.wdt_belowBus c hc
  unfold State.wdtKick State.wdtExpire State.wdtReload
  simp [State.busView_ite, State.setF_busView hleft]

theorem State.mbox7_busView {c : Nat} (hc : c < 2) (s : State) (v : Word) : (s.mbox7 c v).busView = s.busView := by
  obtain ⟨-, hmbox, -⟩ := Fld.wdt_belowBus c hc
  exact (State.line_busView _ _ _).trans (State.rset_busView hmbox s v)

theorem Fld.dmaBusy_belowBus : ∀ n < 4, (Fld.DMA_CTRL_BUSY n).belowBus = true ∧ (Fld.DMA_CTRL_DONE n).belowBus = true := by decide

theorem State.dmaCtrl_busView {n : Nat} (hn : n < 4) (s : State) (v : Word) : (s.dmaCtrl n v).busView = s.busView := by
  unfold State.dmaCtrl State.dmaGo
  simp [State.busView_ite, State.setB_busView (Fld.dmaBusy_belowBus n hn).1]

@[simp] theorem State.flCmd_busView (s : State) (cmd : Nat) : (s.flCmd cmd).busView = s.busView := by
  simp (disch := decide) [State.flCmd, State.busView_ite]

@[simp] theorem State.optCmd_busView (s : State) (key : Word) : (s.optCmd key).busView = s.busView := by
  simp (disch := decide) [State.optCmd, State.busView_ite]

theorem State.tinCfgWrite_busView {n : Nat} (hn : n < 4) (s : State) (v : Word) : (s.tinCfgWrite n v).busView = s.busView :=
  State.rset_busView (by unfold Reg.TIN_CFG Reg.BUS_FROZEN; omega) s _

theorem State.coreWrite_busView {c : Nat} (hc : c < 2) (s : State) (a : Nat) (v : Word) :
    (if a = Reg.DSP_WDTKICK c then s.wdtKick c v else if a = Reg.DSP_MBOX c 7 then s.mbox7 c v
     else if Reg.DMA_CTRL 0 ≤ a && a ≤ Reg.DMA_CTRL 3 && (a - Reg.DMA_CTRL 0) % 32 = 0 then s.dmaCtrl ((a - Reg.DMA_CTRL 0) / 32) v
     else s.regStore a v).busView = s.busView := by
  split
  · exact State.wdtKick_busView hc s v
  · split
    · exact State.mbox7_busView hc s v
    · split
      · next h =>
        obtain ⟨h, -⟩ := Bool.and_eq_true_iff.1 h
        obtain ⟨-, hle⟩ := Bool.and_eq_true_iff.1 h
        have hle : a ≤ Reg.DMA_CTRL 3 := of_decide_eq_true hle
        exact State.dmaCtrl_busView (by unfold Reg.DMA_CTRL at *; omega) s v
      · exact State.regStore_busView s a v

/-- A register write that a master may make changes nothing that the bus decides by. -/
theorem State.regWrite_busView (s : State) (m a : Nat) (v : Word) : (s.regWrite m a v).busView = s.busView := by
  unfold State.regWrite
  split
  · simp [State.busView_ite]
  · simp [State.busView_ite]
  · simp [State.busView_ite]
  · simp [State.busView_ite]
  · simp [State.busView_ite]
  · simp [State.busView_ite]
  · simp [State.busView_ite]
  · simp [State.busView_ite]
  · next h => simp [h, State.busView_ite, State.qpop_busView, State.txcmdWrite_busView]
  · next h => simp [h, State.busView_ite, State.qpop_busView, State.txcmdWrite_busView]
  · simp [State.busView_ite]
  · next h =>
    have ha : a < Reg.BUS_FROZEN := by unfold Reg.BUS_FROZEN; omega
    have hcask : (match findReg a with | some r => if r.cask != 0 then s.caskStore a v else s.regStore a v | none => s).busView = s.busView := by
      split
      · split
        · exact State.caskStore_busView ha s v
        · exact State.regStore_busView s a v
      · rfl
    split
    · split
      · exact State.lrsGo_busView s
      · rfl
    · exact hcask
  · next h =>
    rw [h]
    exact State.coreWrite_busView (c := 0) (by decide) s a v
  · next h =>
    rw [h]
    exact State.coreWrite_busView (c := 1) (by decide) s a v
  · simp [State.busView_ite]
  · next h =>
    split
    · next hcfg =>
      obtain ⟨-, hle⟩ := Bool.and_eq_true_iff.1 hcfg
      have hle : a ≤ Reg.TIN_CFG 3 := of_decide_eq_true hle
      exact State.tinCfgWrite_busView (by unfold Reg.TIN_CFG at *; omega) s v
    · exact State.regStore_busView s a v
  · simp

end Sys2Proof.Machine
end

section
namespace Sys2Proof.Machine

/-! ## Words that a master reads and writes -/

/-- A write that a master may make changes nothing that the bus decides by. -/
theorem State.writeWord_busView (s : State) (m a : Nat) (v : Word) : (s.writeWord m a v).busView = s.busView := by
  unfold State.writeWord
  dsimp only
  split
  · exact State.regWrite_busView s m _ v
  · split
    · split
      · exact State.raise_busView (by decide) s
      · exact State.msetW_busView s _ v
    · split
      · exact State.msetW_busView s _ v
      · rfl

theorem State.dspCe_busView {c : Nat} (hc : c < 2) (s : State) (a : Nat) : (s.dspCe c a).busView = s.busView := by
  obtain ⟨-, -, hcnt, -, haddr, hcause, -⟩ := Fld.wdt_belowBus c hc
  unfold State.dspCe
  rw [State.setF_busView haddr, State.raise_busView hcause, State.incSat_busView hcnt]

theorem State.dspUe_busView {c : Nat} (hc : c < 2) (s : State) (a : Nat) : (s.dspUe c a).busView = s.busView := by
  obtain ⟨-, -, -, hcnt, haddr, -, hcause⟩ := Fld.wdt_belowBus c hc
  unfold State.dspUe
  rw [State.logEvent_busView, State.setF_busView haddr, State.raise_busView hcause, State.incSat_busView hcnt]

theorem State.binFound_busView (s : State) (a e : Nat) : (s.binFound a e).busView = s.busView := by
  have hcnt : (if (e = 2 : Bool) then Fld.MASH_ECC_UE else Fld.MASH_ECC_CE).belowBus = true := by split <;> decide
  have hcause : (if (e = 2 : Bool) then Cause.MASH_ECC_UE else Cause.MASH_ECC_CE).belowBus = true := by split <;> decide
  have hue : Fld.MASH_ECCADDR_UE.belowBus = true := by decide
  have hbin : Fld.MASH_ECCADDR_BIN.belowBus = true := by decide
  simp only [State.binFound, State.binError, State.busView_ite, State.logEvent_busView, State.setBin_busView, State.modChAcc_busView,
    State.raise_busView hcause, State.setF_busView hbin, State.setB_busView hue, State.incSat_busView hcnt, ite_self]

/-- The errors that a read meets change nothing that the bus decides by. -/
theorem State.memErr_busView (s : State) (a n err : Nat) : (s.memErr a n err).busView = s.busView := by
  have hown (x : Nat) : ownerOf x < 2 := Nat.mod_lt _ (by decide)
  unfold State.memErr
  refine foldl_busView (fun s i _ => ?_) s
  simp only [State.busView_ite, State.binFound_busView, State.dspCe_busView (hown _), State.dspUe_busView (hown _), ite_self]

theorem State.readEffect_busView (s : State) (a : Nat) : (s.readEffect a).busView = s.busView := by
  have hfrac : Fld.TIME_FRAC_FRAC.belowBus = true := by decide
  simp only [State.readEffect, State.tinPop, State.busView_ite, State.setF_busView hfrac, State.withAdc_busView, State.setEth_busView, State.setTin_busView,
    ite_self]

theorem State.busRead_allowed {s : State} {m a : Nat} (hfree : s.frozen m = false) (hok : s.breaks m a false = 0) : s.busRead m a =
    ((s.readWord a).1, some (s.readWord a).2) := by
  simp [State.busRead, hfree, hok]

theorem State.busWrite_allowed {s : State} {m a : Nat} (hfree : s.frozen m = false) (hok : s.breaks m a true = 0) (v : Word) :
    s.busWrite m a v = s.writeWord m a v := by
  simp [State.busWrite, hfree, hok]

theorem State.readWord_busView (s : State) (a : Nat) : (s.readWord a).1.busView = s.busView := by
  simp only [State.readWord, State.busView_ite, State.readEffect_busView, ite_self]

/-- A read that an engine may make gives a word and changes nothing that the bus decides by. -/
theorem State.dmaRead_allowed {s : State} {m a : Nat} (hfree : s.frozen m = false) (hok : s.breaks m a false = 0) (err : Nat) :
    (s.dmaRead m a err).1.busView = s.busView ∧ ∃ w, (s.dmaRead m a err).2 = some w := by
  have hview := State.memErr_busView s a 2 err
  have hread := State.busRead_allowed ((State.frozen_of_busView hview m).trans hfree) ((State.breaks_of_busView hview m a false).trans hok)
  have hafter : ((s.memErr a 2 err).readWord a).1.busView = s.busView := (State.readWord_busView _ _).trans hview
  unfold State.dmaRead
  rw [if_neg (by simp [hfree, hok]), hread]
  dsimp only
  split
  · exact ⟨hafter, _, rfl⟩
  · exact ⟨hafter, _, rfl⟩

/-- An engine that may make all its transfers changes nothing that the bus decides by. -/
theorem State.dmaMove_allowed {m : Nat} {j : DmaSt} (n k : Nat) (errs : List Nat) (s : State) (hfree : s.frozen m = false)
    (hok : ∀ i, k ≤ i → i < k + n → s.breaks m (dmaAddr j.src j.srcInc i) false = 0 ∧ s.breaks m (dmaAddr j.dst j.dstInc i) true = 0) :
    (s.dmaMove m j n k errs).busView = s.busView := by
  induction n generalizing s k errs with
  | zero => rfl
  | succ n ih =>
    obtain ⟨hrd, hwr⟩ := hok k (Nat.le_refl _) (by omega)
    obtain ⟨hview, w, hw⟩ := State.dmaRead_allowed hfree hrd (errs.headD 0)
    have hwrite := State.busWrite_allowed ((State.frozen_of_busView hview m).trans hfree) ((State.breaks_of_busView hview m _ true).trans hwr) w
    have hnext : ((s.dmaRead m (dmaAddr j.src j.srcInc k) (errs.headD 0)).1.writeWord m (dmaAddr j.dst j.dstInc k) w).busView = s.busView :=
      (State.writeWord_busView _ _ _ _).trans hview
    have hfree' := (State.frozen_of_busView hnext m).trans hfree
    simp only [State.dmaMove, hw, hwrite, hfree', Bool.false_eq_true, if_false]
    rw [ih (k + 1) (errs.drop 1) _ hfree' fun i hi hlt => ?_]
    · exact hnext
    · rw [State.breaks_of_busView hnext, State.breaks_of_busView hnext]
      exact hok i (by omega) (by omega)

/-! ## The end of a DMA engine's transfers (R349) -/

/-- Engine `n`'s transfer is over: BUSY clears and DONE sets. -/
def State.dmaIdle (t : State) (n : Nat) : State :=
  ((t.withDma (SMap.set (fun _ => (none : Option DmaSt)) t.dma n none)).setB (Fld.DMA_CTRL_BUSY n) false).setB (Fld.DMA_CTRL_DONE n) true

/-- Engine `n` has made its transfers, in `t`, and interrupts DSP1 if it is to. -/
def State.dmaEnded (t : State) (n : Nat) : State := if (t.dmaIdle n).b (Fld.DMA_CTRL_IRQ n) then (t.dmaIdle n).line 1 (12 + n) else t.dmaIdle n

theorem execDmaDone_ends {n : Nat} {s : State} {errs : List Nat} {j : DmaSt} (hn : n < 4) (hjob : SMap.get (fun _ => (none : Option DmaSt)) s.dma n = some j)
    (hfree : s.frozen (3 + n) = false) (hdev : s.dev ≠ .park)
    (hok : ∀ i, i < j.n → s.breaks (3 + n) (dmaAddr j.src j.srcInc i) false = 0 ∧ s.breaks (3 + n) (dmaAddr j.dst j.dstInc i) true = 0) :
    execDmaDone n s errs = .next ((s.dmaMove (3 + n) j j.n 0 errs).dmaEnded n) := by
  have hview := State.dmaMove_allowed j.n 0 errs s hfree fun i _ hi => hok i (by omega)
  have hfree' := (State.frozen_of_busView hview (3 + n)).trans hfree
  simp only [execDmaDone, hjob, Nat.not_le.2 hn, hfree, hdev, hfree', decide_false, Bool.or_false, Bool.false_eq_true, if_false]
  rfl

theorem Fld.dmaCtrl_bits : ∀ n < 4, (Fld.DMA_CTRL_BUSY n).fits = true ∧ (Fld.DMA_CTRL_DONE n).fits = true ∧
    (Fld.DMA_CTRL_BUSY n).apart (Fld.DMA_CTRL_DONE n) = true ∧ (Fld.DMA_CTRL_BUSY n).w = 1 ∧ (Fld.DMA_CTRL_DONE n).w = 1 := by decide

theorem State.b_line (s : State) (c i : Nat) (F : Fld) : (s.line c i).b F = s.b F :=
  State.b_eq _ _ _ (by simp only [State.rget, State.line, State.withLines])

theorem State.dmaEnded_done {n : Nat} (hn : n < 4) (t : State) : (t.dmaEnded n).b (Fld.DMA_CTRL_BUSY n) = false ∧
    (t.dmaEnded n).b (Fld.DMA_CTRL_DONE n) = true ∧ SMap.get (fun _ => (none : Option DmaSt)) (t.dmaEnded n).dma n = none ∧ (t.dmaEnded n).mem = t.mem := by
  obtain ⟨hfb, hfd, hap, hwb, hwd⟩ := Fld.dmaCtrl_bits n hn
  have hbusy : (t.dmaIdle n).b (Fld.DMA_CTRL_BUSY n) = false := by
    unfold State.dmaIdle
    rw [State.b_setB_apart _ _ _ _ hfd hap, State.b_setB_self _ _ _ hfb hwb]
  have hdone : (t.dmaIdle n).b (Fld.DMA_CTRL_DONE n) = true := by
    unfold State.dmaIdle
    rw [State.b_setB_self _ _ _ hfd hwd]
  have hjob : SMap.get (fun _ => (none : Option DmaSt)) (t.dmaIdle n).dma n = none := by
    unfold State.dmaIdle
    rw [State.setB_dma, State.setB_dma, State.withDma_dma, SMap.get_set_self]
  have hmem : (t.dmaIdle n).mem = t.mem := by simp [State.dmaIdle]
  unfold State.dmaEnded
  generalize t.dmaIdle n = p at hbusy hdone hjob hmem ⊢
  split
  · rw [State.b_line, State.b_line, State.line_dma, State.line_mem]
    exact ⟨hbusy, hdone, hjob, hmem⟩
  · exact ⟨hbusy, hdone, hjob, hmem⟩

/-! ## One word moved between DSP memories -/

/-- A DSP memory lies below the top of the address space and outside the blocks, the plan table, the field map and the Tun window. -/
theorem dspMemAt_only {a : Nat} (h : dspMemAt a = true) : a < 2 ^ 32 ∧ blockAt a = false ∧ planAt a = false ∧ fieldMapAt a = false ∧ tunAt a = false := by
  simp only [dspMemAt, Bool.and_eq_true, decide_eq_true_eq] at h
  simp only [blockAt, planAt, fieldMapAt, tunAt, Bool.and_eq_false_iff, decide_eq_false_iff_not]
  omega

theorem dmaAddr_first {a : Nat} (halign : a % 4 = 0) (hlt : a < 2 ^ 32) : dmaAddr a true 0 = a := by
  unfold dmaAddr
  simp only [Nat.mul_zero, if_true, Nat.add_zero]
  omega

theorem State.readWord_dspMem {a : Nat} (halign : a % 4 = 0) (h : dspMemAt a = true) (s : State) : s.readWord a = (s, s.mgetW a) := by
  obtain ⟨-, hblock, hplan, hfield, -⟩ := dspMemAt_only h
  have ha : a / 4 * 4 = a := by omega
  simp [State.readWord, State.wordAt, ha, hblock, hplan, hfield, h]

theorem State.writeWord_dspMem {a : Nat} (halign : a % 4 = 0) (h : dspMemAt a = true) (s : State) (m : Nat) (v : Word) : s.writeWord m a v = s.msetW a v := by
  obtain ⟨-, hblock, hplan, -, -⟩ := dspMemAt_only h
  have ha : a / 4 * 4 = a := by omega
  simp [State.writeWord, ha, hblock, hplan, h]

theorem State.dmaRead_dspMem {s : State} {m a : Nat} (hfree : s.frozen m = false) (hok : s.breaks m a false = 0) (halign : a % 4 = 0)
    (h : dspMemAt a = true) : s.dmaRead m a 0 = (s, some (s.mgetW a)) := by
  have herr : s.memErr a 2 0 = s := by simp [State.memErr, errAt, List.range_succ]
  have hue : memUe a 2 0 = false := by simp [memUe, errAt]
  unfold State.dmaRead
  rw [if_neg (by simp [hfree, hok]), herr, State.busRead_allowed hfree hok, State.readWord_dspMem halign h, hue]
  rfl

/-- A transfer of one word copies it. -/
theorem State.dmaMove_one {s : State} {m p q : Nat} {j : DmaSt} (hsrc : j.src = p) (hdst : j.dst = q) (hinc : j.srcInc = true ∧ j.dstInc = true)
    (hfree : s.frozen m = false) (hp : p % 4 = 0) (hq : q % 4 = 0) (hmp : dspMemAt p = true) (hmq : dspMemAt q = true) (hrd : s.breaks m p false = 0)
    (hwr : s.breaks m q true = 0) : s.dmaMove m j 1 0 [] = s.msetW q (s.mgetW p) := by
  have hap : dmaAddr j.src j.srcInc 0 = p := by rw [hsrc, hinc.1]; exact dmaAddr_first hp (dspMemAt_only hmp).1
  have haq : dmaAddr j.dst j.dstInc 0 = q := by rw [hdst, hinc.2]; exact dmaAddr_first hq (dspMemAt_only hmq).1
  have hread : s.dmaRead m p (([] : List Nat).headD 0) = (s, some (s.mgetW p)) := State.dmaRead_dspMem hfree hrd hp hmp
  simp only [State.dmaMove, hap, haq, hread, State.busWrite_allowed hfree hwr, State.writeWord_dspMem hq hmq, ite_self]

/-! ## Register writes (R19) -/

theorem execRegisterWrite_allowed {m a : Nat} {s : State} (hlo : 1 ≤ m) (hhi : m ≤ 8) (hboot : s.dev ≠ .boot) (hpark : s.dev ≠ .park)
    (hfree : s.frozen m = false) (hok : s.breaks m a true = 0) (v : Word) : execRegisterWrite m a v s = .next (s.writeWord m a v) := by
  have hm : m ≠ 0 := by omega
  simp [execRegisterWrite, hm, Nat.not_lt.2 hhi, hboot, hpark, hok, State.busWrite_allowed hfree hok]

theorem execRegisterWrite_refused {m a : Nat} {s : State} (hlo : 1 ≤ m) (hhi : m ≤ 8) (h7 : m ≠ 7) (hboot : s.dev ≠ .boot) (hpark : s.dev ≠ .park)
    (hfree : s.frozen m = false) (hbreak : s.breaks m a true ≠ 0) (v : Word) :
    execRegisterWrite m a v s = .next (s.freeze m a (s.breaks m a true) true) := by
  have hm : m ≠ 0 := by omega
  simp [execRegisterWrite, State.busWrite, hm, h7, Nat.not_lt.2 hhi, hboot, hpark, hfree, hbreak]

theorem execRegisterWrite_ignored {m : Nat} {s : State} (h : m = 0 ∨ 8 < m ∨ s.dev = .boot ∨ s.dev = .park) (a : Nat) (v : Word) :
    execRegisterWrite m a v s = .next s := by
  unfold execRegisterWrite
  refine if_pos ?_
  rcases h with h | h | h | h <;> simp [h]

/-- What the freeze of master `m` leaves in the registers: its bit of BUS_FROZEN, and the address (R19, R359). -/
theorem State.freeze_latches {m : Nat} (hm : m ≤ 8) (s : State) (a info : Nat) (wr : Bool) : (s.freeze m a info wr).frozen m = true ∧
    (s.freeze m a info wr).rget (Reg.BUS_FRZADDR (m - 1)) = BitVec.ofNat 32 a ∧ (s.freeze m a info wr).rst.raised.testBit (frzSource m) = true := by
  have hkept (p : State) (x : Nat) (c : Nat) (d0 d1 : Word) (b : Nat) (hb : b ≠ Reg.THERM_CNT) : ((p.logEvent c d0 d1).raiseReset x).rget b = p.rget b :=
    State.rget_logEvent_ne p c d0 d1 b hb
  unfold State.freeze
  dsimp only
  refine ⟨?_, ?_, ?_⟩
  · unfold State.frozen
    rw [hkept _ _ _ _ _ _ (by decide), State.rget_rset_ne _ _ _ _ (by unfold Reg.BUS_FRZINFO Reg.BUS_FROZEN; omega),
      State.rget_rset_ne _ _ _ _ (by unfold Reg.BUS_FRZADDR Reg.BUS_FROZEN; omega), State.rget_rset_self]
    have hlt : m < 32 := by omega
    rw [BitVec.getLsbD_or, BitVec.getLsbD_ofNat, Nat.testBit_two_pow_self, decide_eq_true hlt, Bool.and_self, Bool.or_true]
  · rw [hkept _ _ _ _ _ _ (by unfold Reg.BUS_FRZADDR Reg.THERM_CNT; omega),
      State.rget_rset_ne _ _ _ _ (by unfold Reg.BUS_FRZINFO Reg.BUS_FRZADDR; omega), State.rget_rset_self]
  · exact State.testBit_or_pow _ _

/-- A write of the Lauter's registers is the plain one. -/
theorem State.writeWord_block8 {a : Nat} {r : RegRow} (hblock : a / 0x10000 = 8) (halign : a % 4 = 0) (hr : findReg a = some r) (s : State) (m : Nat) (v : Word) :
    s.writeWord m a v = s.rset a (r.merge (s.rget a) v) := by
  have ha : a / 4 * 4 = a := by omega
  have hb : blockAt a = true := by
    unfold blockAt
    exact decide_eq_true (by omega)
  have hstore : s.regStore a v = s.rset a (r.merge (s.rget a) v) := by simp only [State.regStore, hr]
  unfold State.writeWord State.regWrite
  dsimp only
  rw [ha, if_pos hb, hblock]
  exact hstore

end Sys2Proof.Machine
end

section
namespace Sys2Proof.Machine

/-! ## A core's own part of the state -/

@[simp] theorem State.core_setCore_self (s : State) (c : Nat) (x : CoreSt) : (s.setCore c x).core c = x := SMap.get_set_self _ _ _ _

theorem State.core_setCore_ne (s : State) {c d : Nat} (x : CoreSt) (h : d ≠ c) : (s.setCore c x).core d = s.core d := SMap.get_set_ne _ _ _ _ _ h

@[simp] theorem CoreSt.csrGet_csrSet_self (x : CoreSt) (n : Nat) (v : Word) : (x.csrSet n v).csrGet n = v := SMap.get_set_self _ _ _ _

theorem CoreSt.csrGet_csrSet_ne (x : CoreSt) {n k : Nat} (v : Word) (h : k ≠ n) : (x.csrSet n v).csrGet k = x.csrGet k := SMap.get_set_ne _ _ _ _ _ h

theorem CoreSt.setStatus_csrGet (x : CoreSt) (i : Nat) (p : Bool) {k : Nat} (h : k ≠ 0) : (x.setStatus i p).csrGet k = x.csrGet k :=
  CoreSt.csrGet_csrSet_ne _ _ h

theorem State.line_testBit (s : State) (c i : Nat) : (SMap.get (fun _ => 0) (s.line c i).lines c).testBit i = true := by
  have hget : SMap.get (fun _ => 0) (s.line c i).lines c = SMap.get (fun _ => 0) s.lines c ||| 2 ^ i := SMap.get_set_self _ _ _ _
  rw [hget]
  exact State.testBit_or_pow _ _

theorem State.core_line (s : State) (c i d : Nat) : (s.line c i).core d = s.core d := by
  unfold State.core
  rw [State.line_cores]

/-- The cycle counter changes nothing but itself and the timer's line. -/
theorem State.coreCycles_spec (s : State) (c n5 : Nat) : (∃ k, (s.coreCycles c n5).core c = { s.core c with cyc5 := k }) ∧
    (∀ d, d ≠ c → (s.coreCycles c n5).core d = s.core d) ∧ { s.coreCycles c n5 with cores := s.cores, lines := s.lines } = s := by
  unfold State.coreCycles
  dsimp only
  split
  · exact ⟨⟨_, rfl⟩, fun _ _ => rfl, rfl⟩
  · split
    · exact ⟨⟨_, (State.core_line _ c 2 c).trans (State.core_setCore_self s c _)⟩,
        fun d hd => (State.core_line _ c 2 d).trans (State.core_setCore_ne s _ hd), by simp⟩
    · exact ⟨⟨_, State.core_setCore_self s c _⟩, fun d hd => State.core_setCore_ne s _ hd, by simp⟩

/-! ## Entry to a vector (R346, R347) -/

/-- EPC, ESTAT and STATUS after the entry to vector `v`, where the program can go on at EPC. -/
theorem CoreSt.enter_csrs (x : CoreSt) {v : Nat} (hv : v < 64) (epc : Nat) : (x.enter v epc false).csrGet 1 = BitVec.ofNat 32 epc ∧
    ((x.enter v epc false).csrGet 2).toNat % 64 = v ∧ ((x.enter v epc false).csrGet 2).getLsbD 6 = false ∧
    ((x.enter v epc false).csrGet 2).getLsbD 7 = x.ie ∧ ((x.enter v epc false).csrGet 2).getLsbD 8 = x.frac ∧ (x.enter v epc false).ie = false := by
  have hie : (x.csrSet 1 (BitVec.ofNat 32 epc)).ie = x.ie := by
    unfold CoreSt.ie
    rw [CoreSt.csrGet_csrSet_ne _ _ (by decide)]
  have hfrac : (x.csrSet 1 (BitVec.ofNat 32 epc)).frac = x.frac := by
    unfold CoreSt.frac
    rw [CoreSt.csrGet_csrSet_ne _ _ (by decide)]
  have h1 : (x.enter v epc false).csrGet 1 = BitVec.ofNat 32 epc := by
    change (CoreSt.setStatus _ 0 false).csrGet 1 = _
    rw [CoreSt.setStatus_csrGet _ _ _ (by decide), CoreSt.csrGet_csrSet_ne _ _ (by decide), CoreSt.csrGet_csrSet_self]
  have h2 : (x.enter v epc false).csrGet 2 = BitVec.ofNat 32 (v + x.ie.toNat * 128 + x.frac.toNat * 256) := by
    change (CoreSt.setStatus _ 0 false).csrGet 2 = _
    rw [CoreSt.setStatus_csrGet _ _ _ (by decide), CoreSt.csrGet_csrSet_self, hie, hfrac]
    rfl
  have hlt : v + x.ie.toNat * 128 + x.frac.toNat * 256 < 2 ^ 32 := by
    have := Bool.toNat_le x.ie
    have := Bool.toNat_le x.frac
    omega
  refine ⟨h1, ?_, ?_, ?_, ?_, ?_⟩
  · rw [h2, BitVec.toNat_ofNat, Nat.mod_eq_of_lt hlt]
    omega
  · rw [h2, BitVec.getLsbD_ofNat, Nat.testBit_eq_decide_div_mod_eq]
    cases x.ie <;> cases x.frac <;> simp <;> omega
  · rw [h2, BitVec.getLsbD_ofNat, Nat.testBit_eq_decide_div_mod_eq]
    cases x.ie <;> cases x.frac <;> simp <;> omega
  · rw [h2, BitVec.getLsbD_ofNat, Nat.testBit_eq_decide_div_mod_eq]
    cases x.ie <;> cases x.frac <;> simp <;> omega
  · change (CoreSt.csrGet (CoreSt.csrSet _ 0 _) 0).getLsbD 0 = false
    rw [CoreSt.csrGet_csrSet_self]
    simp

/-- The vector's offset. -/
theorem CoreSt.enter_pc (x : CoreSt) (v epc : Nat) (nr : Bool) : (x.enter v epc nr).pc = ((x.csrGet 3).toNat + 16 * v) % 2 ^ 18 := by
  change (((CoreSt.csrSet (CoreSt.csrSet x 1 _) 2 _).csrGet 3).toNat + 16 * v) % 2 ^ 18 = _
  rw [CoreSt.csrGet_csrSet_ne _ _ (by decide), CoreSt.csrGet_csrSet_ne _ _ (by decide)]

/-- A core that holds the CSRs and registers of an entry to vector `v` has entered it. -/
theorem State.coreEntered_of {s t : State} {c v : Nat} (hv : v < 64) (hcsr : (t.core c).csr = ((s.core c).enter v (s.core c).pc false).csr)
    (hpc : (t.core c).pc = ((s.core c).enter v (s.core c).pc false).pc) (hmode : (t.core c).mode = 1) (hg : (t.core c).g = (s.core c).g)
    (hacc : (t.core c).acc = (s.core c).acc) (hothers : ∀ d, d ≠ c → t.core d = s.core d) (hrest : { t with cores := s.cores, lines := s.lines } = s) :
    State.coreEntered c v s t := by
  have hget (n : Nat) : (t.core c).csrGet n = ((s.core c).enter v (s.core c).pc false).csrGet n := by
    unfold CoreSt.csrGet
    rw [hcsr]
  obtain ⟨h1, h2, h26, h27, h28, hie⟩ := CoreSt.enter_csrs (s.core c) hv (s.core c).pc
  refine ⟨⟨hpc.trans (CoreSt.enter_pc _ _ _ _), hmode, hothers, hrest⟩, ?_, ?_, ?_, ?_, ?_, ?_, hg, hacc⟩
  · rw [hget]; exact h1
  · rw [hget]; exact h2
  · rw [hget]; exact h26
  · rw [hget]; exact h27
  · rw [hget]; exact h28
  · unfold CoreSt.ie
    rw [hget]
    exact hie

/-- What a plain boundary is. -/
theorem State.coreFree_iff {s : State} {c : Nat} : s.coreFree c = true ↔ c < 2 ∧ s.frozen (1 + c) = false ∧ (s.core c).mode = 1 ∧ (s.core c).br = none ∧
    (s.core c).rep = none ∧ (s.core c).loops = [] ∧ (s.core c).ld = [] ∧ (s.core c).cw = [] := by
  simp [State.coreFree, and_assoc]

theorem State.intLine_lt {s : State} {c i : Nat} (h : s.intLine c = some i) : i < 32 := List.mem_range.1 (List.mem_of_find?_eq_some h)

/-- At a plain boundary an enabled pending line is taken (R346). -/
theorem dspInterruptEntry_taken (c i : Nat) (s : State) (hfree : s.coreFree c = true) (hei : (s.core c).ei = false) (hie : (s.core c).ie = true)
    (hline : s.intLine c = some i) : Answers (.dspInterruptEntry c) s (State.coreEntered c (4 + i) s) := by
  obtain ⟨hc, hfrozen, hmode, hbr, hrep, hloops, hld, -⟩ := State.coreFree_iff.1 hfree
  have hopen : (s.core c).open' = true := by simp [CoreSt.open', hbr, hrep, hloops, hld, hei]
  have hx : { s.core c with mode := 1 } = s.core c := by rw [← hmode]
  refine ⟨(s.setCore c ((s.core c).enter (4 + i) (s.core c).pc false)).coreCycles c 25, ?_, ?_⟩
  · change execDspInterruptEntry c s = _
    simp [execDspInterruptEntry, Nat.not_le.2 hc, hfrozen, hmode, hline, hie, hopen, hx]
  · obtain ⟨⟨k, hk⟩, hothers, hrest⟩ := State.coreCycles_spec (s.setCore c ((s.core c).enter (4 + i) (s.core c).pc false)) c 25
    rw [State.core_setCore_self] at hk
    have hi := State.intLine_lt hline
    refine State.coreEntered_of (by omega) ?_ ?_ ?_ ?_ ?_ ?_ ?_
    · rw [hk]
    · rw [hk]
    · rw [hk]; exact hmode
    · rw [hk]; rfl
    · rw [hk]; rfl
    · intro d hd
      rw [hothers d hd, State.core_setCore_ne s _ hd]
    · exact congrArg (fun q : State => { q with cores := s.cores, lines := s.lines }) hrest

theorem dspInterruptEntry_none (c : Nat) (s : State) (hline : s.intLine c = none) : Answers (.dspInterruptEntry c) s (fun t => t = s) := by
  refine ⟨s, ?_, rfl⟩
  change execDspInterruptEntry c s = _
  simp [execDspInterruptEntry, hline]

/-- A core at a plain boundary takes up an illegal word. -/
theorem execDspException_illegal {c : Nat} {w : Word} {s : State} (hfree : s.coreFree c = true) (hw : legalWord w = false) :
    execDspException c (some w) s = .next ((s.setCore c (s.core c)).dspExc c 0) := by
  obtain ⟨hc, hfrozen, hmode, -⟩ := State.coreFree_iff.1 hfree
  have hx : s.modCore c (fun x => { x with mode := 1 }) = s.setCore c (s.core c) := by
    unfold State.modCore
    rw [← hmode]
  have hissues : s.issues c = true := by simp [State.issues, hc, hfrozen, hmode]
  unfold execDspException
  rw [if_neg (by simp [hissues, hw]), hx]

/-- With nothing of an earlier instruction still to land, nothing lands. -/
theorem CoreSt.land_none {x : CoreSt} (hld : x.ld = []) (hcw : x.cw = []) : x.csrLand (x.loadLand { x with ld := [], cw := [] }) = x := by
  cases x
  cases hld
  cases hcw
  rfl

/-- An exception at a plain boundary enters its vector with the program able to go on (R347). -/
theorem State.dspExc_plain {s : State} {c : Nat} (hhandling : (s.core c).handling = false)
    (hplain : ((s.core c).br.isSome || (s.core c).rep.isSome || !(s.core c).loops.isEmpty || !(s.core c).ld.isEmpty) = false)
    (hld : (s.core c).ld = []) (hcw : (s.core c).cw = []) (v : Nat) :
    s.dspExc c v = s.setCore c { { s.core c with e1 := (s.core c).pc }.enter v (s.core c).pc false with inExc := true } := by
  unfold State.dspExc
  dsimp only
  rw [if_neg (by simp [hhandling]), CoreSt.land_none hld hcw, hplain]

/-- At a plain boundary an illegal word enters vector 0 (R344, R347). -/
theorem dspException_entered (c : Nat) (w : Word) (s : State) (hfree : s.coreFree c = true) (hexc : (s.core c).inExc = false) (hw : legalWord w = false) :
    Answers (.dspException c (some w)) s (State.coreEntered c 0 s) := by
  obtain ⟨-, -, hmode, hbr, hrep, hloops, hld, hcw⟩ := State.coreFree_iff.1 hfree
  have hhandling : (s.core c).handling = false := by simp [CoreSt.handling, hexc]
  have hdo := State.dspExc_plain (s := s.setCore c (s.core c)) (c := c) (by rw [State.core_setCore_self]; exact hhandling)
    (by rw [State.core_setCore_self, hbr, hrep, hloops, hld]; rfl) (by rw [State.core_setCore_self]; exact hld)
    (by rw [State.core_setCore_self]; exact hcw) 0
  rw [State.core_setCore_self] at hdo
  refine ⟨_, (execDspException_illegal hfree hw).trans (congrArg _ hdo), ?_⟩
  refine State.coreEntered_of (by decide) ?_ ?_ ?_ ?_ ?_ ?_ (by simp)
  · rw [State.core_setCore_self]; rfl
  · rw [State.core_setCore_self]; rfl
  · rw [State.core_setCore_self]; exact hmode
  · rw [State.core_setCore_self]; rfl
  · rw [State.core_setCore_self]; rfl
  · intro d hd
    rw [State.core_setCore_ne _ _ hd, State.core_setCore_ne _ _ hd]

/-- Within the handling of an exception an illegal word halts the core (R347). -/
theorem dspException_halts (c : Nat) (w : Word) (s : State) (hfree : s.coreFree c = true) (hhandling : (s.core c).handling = true)
    (hw : legalWord w = false) : Answers (.dspException c (some w)) s (fun t => (t.core c).mode = 4 ∧ t.causeSet (Cause.DSP_HALT c) = true) := by
  obtain ⟨hc, -⟩ := State.coreFree_iff.1 hfree
  have hfits : ∀ c < 2, (Cause.DSP_HALT c).fld.fits = true := by decide
  refine ⟨_, execDspException_illegal hfree hw, ?_⟩
  unfold State.dspExc
  simp only [State.core_setCore_self, hhandling, if_true]
  refine ⟨?_, State.b_raise_self _ _ (hfits c hc)⟩
  unfold State.core
  rw [State.raise_cores]
  exact congrArg CoreSt.mode (State.core_setCore_self _ c _)

/-! ## Start, watchdog, mailbox, timer and tap (R345, R348, R350, R351) -/

theorem execDspCoreStart_due {c cause : Nat} {s : State} (hc : c < 2) (hcause : cause < 2) (hload : s.coreLoaded c = true) (hmode : (s.core c).mode = 0)
    (hboot : s.dev ≠ .boot) (hl2 : s.rst.l2.contains (.dsp c) = false) : execDspCoreStart c cause s = .next (s.coreStart c cause) := by
  have h2 : cause ≠ 2 := by omega
  have h3 : cause < 3 := by omega
  have hl2' : L2Target.dsp c ∉ s.rst.l2 := by simpa using hl2
  simp [execDspCoreStart, hc, h2, h3, hload, hmode, hboot, hl2']

/-- A start gives every register of the core its reset value. -/
theorem State.coreStart_spec {c : Nat} (hc : c < 2) {cause : Nat} (hcause : cause < 2) (s : State) :
    (s.coreStart c cause).core c = { mode := 1, csr := SMap.set csrReset [] 0x20 (BitVec.ofNat 32 (c + 256 * cause)), tap := (s.core c).tap } ∧
    (s.coreStart c cause).f (Fld.DSP_STAT_START c) = cause := by
  have hbits : ∀ c < 2, (Fld.DSP_STAT_START c).fits = true ∧ (Fld.DSP_STAT_START c).apart (Fld.DSP_WDTCNT_LEFT c) = true ∧ (Fld.DSP_WDTCNT_LEFT c).fits = true ∧
      2 ≤ 2 ^ (Fld.DSP_STAT_START c).w := by decide
  obtain ⟨hfits, hapart, hleft, hw⟩ := hbits c hc
  have hset (p : State) : (p.setF (Fld.DSP_STAT_START c) cause).f (Fld.DSP_STAT_START c) = cause := by
    rw [State.f_setF_self _ _ _ hfits, Nat.mod_eq_of_lt (by omega)]
  have hreload (p : State) : p.wdtReload c = p.setF (Fld.DSP_WDTCNT_LEFT c) (max 1 (p.f (Fld.DSP_WDT_TO c))) := rfl
  have hcore (p : State) (F : Fld) (x : Nat) : (p.setF F x).core c = p.core c := by
    unfold State.core
    rw [State.setF_cores]
  have hlines (p : State) (l : SMap Nat) : (p.withLines l).core c = p.core c := by
    unfold State.core
    rw [State.withLines_cores]
  unfold State.coreStart
  dsimp only
  split
  · rw [hreload, hcore, hcore, hlines, State.core_setCore_self, State.f_setF_apart _ _ _ _ hleft hapart, hset]
    exact ⟨rfl, rfl⟩
  · rw [hcore, hlines, State.core_setCore_self, hset]
    exact ⟨rfl, rfl⟩

theorem dspCoreStart_resets (c cause : Nat) (s : State) (hc : c < 2) (hcause : cause < 2) (hload : s.coreLoaded c = true) (hmode : (s.core c).mode = 0)
    (hboot : s.dev ≠ .boot) (hl2 : s.rst.l2.contains (.dsp c) = false) :
    Answers (.dspCoreStart c cause) s (fun t => (t.core c).mode = 1 ∧ (t.core c).pc = 0 ∧ (∀ r, (t.core c).reg r = 0) ∧ (∀ n, (t.core c).a n = 0) ∧
      (t.core c).csrGet 0x20 = BitVec.ofNat 32 (c + 256 * cause) ∧ (t.core c).csrGet 0 = 0 ∧ t.f (Fld.DSP_STAT_START c) = cause) := by
  obtain ⟨hcore, hstart⟩ := State.coreStart_spec hc hcause s
  refine ⟨_, execDspCoreStart_due hc hcause hload hmode hboot hl2, ?_⟩
  dsimp only
  rw [hcore]
  refine ⟨rfl, rfl, fun _ => rfl, fun _ => rfl, SMap.get_set_self _ _ _ _, ?_, hstart⟩
  exact SMap.get_set_ne csrReset [] 0x20 0 _ (by decide)

theorem Fld.wdtCount_bits : ∀ c < 2, (Fld.DSP_WDTCNT_LEFT c).fits = true ∧ (Fld.DSP_WDT_TO c).w ≤ (Fld.DSP_WDTCNT_LEFT c).w ∧
    0 < (Fld.DSP_WDTCNT_LEFT c).w := by decide

theorem wdtkick_idle (c : Nat) (v : Word) (s : State) (h : s.wdtCounts c = false) : Answers (.wdtkick c v) s (fun t => t = s) := by
  refine ⟨s, ?_, rfl⟩
  change execWdtkick c v s = _
  simp [execWdtkick, State.wdtKick, h]

/-- The key restarts the watchdog (R350). -/
theorem wdtkick_restarts (c : Nat) (s : State) (hc : c < 2) (h : s.wdtCounts c = true) :
    Answers (.wdtkick c 0xA5C3) s (fun t => t.f (Fld.DSP_WDTCNT_LEFT c) = max 1 (s.f (Fld.DSP_WDT_TO c)) ∧ State.regsBut [(Fld.DSP_WDTCNT_LEFT c).addr] s t ∧
      { t with regs := s.regs } = s) := by
  obtain ⟨hfits, hw, hpos⟩ := Fld.wdtCount_bits c hc
  have hlt : max 1 (s.f (Fld.DSP_WDT_TO c)) < 2 ^ (Fld.DSP_WDTCNT_LEFT c).w :=
    max_lt (Nat.one_lt_two_pow hpos.ne') ((State.f_lt s _).trans_le (Nat.pow_le_pow_right (by decide) hw))
  refine ⟨s.wdtReload c, ?_, ?_, State.regsBut_setF _ _ (State.regsBut_refl _ s) (List.mem_singleton.2 rfl), rfl⟩
  · change execWdtkick c 0xA5C3 s = _
    simp [execWdtkick, State.wdtKick, hc, h]
  · unfold State.wdtReload
    rw [State.f_setF_self _ _ _ hfits, Nat.mod_eq_of_lt hlt]

/-- Another key lets it expire. -/
theorem wdtkick_expires (c : Nat) (v : Word) (s : State) (hc : c < 2) (h : s.wdtCounts c = true) (hv : v ≠ 0xA5C3) :
    Answers (.wdtkick c v) s (fun t => t.rst.raised.testBit (3 + c) = true) := by
  refine ⟨s.wdtExpire c, ?_, State.testBit_or_pow _ _⟩
  change execWdtkick c v s = _
  unfold execWdtkick State.wdtKick
  rw [if_pos hc, if_neg (by simp [h]), if_neg hv]

theorem mbox7Write_stores (c : Nat) (v : Word) (s : State) (hc : c < 2) :
    Answers (.mbox7Write c v) s (fun t => t.rget (Reg.DSP_MBOX c 7) = v ∧ (SMap.get (fun _ => 0) t.lines c).testBit 3 = true ∧
      State.regsBut [Reg.DSP_MBOX c 7] s t ∧ { t with regs := s.regs, lines := s.lines } = s) := by
  refine ⟨s.mbox7 c v, ?_, State.rget_rset_self _ _ _, State.line_testBit _ _ _, ?_, by simp [State.mbox7]⟩
  · change execMbox7Write c v s = _
    simp [execMbox7Write, hc]
  · exact State.regsBut_of (State.regsBut_rset _ v (State.regsBut_refl _ s) (List.mem_singleton.2 rfl)) rfl

/-- A timer match sets line 2 (R345). -/
theorem timerCompareMatch_sets (c : Nat) (s : State) (hc : c < 2) (hfrozen : s.frozen (1 + c) = false) (hmode : (s.core c).mode = 1)
    (hlt : (s.core c).cycles < (s.core c).tcmp) :
    Answers (.timerCompareMatch c) s (fun t => (SMap.get (fun _ => 0) t.lines c).testBit 2 = true ∧ { t with cores := s.cores, lines := s.lines } = s) := by
  have hreach : (s.core c).tcmp ≤ (s.core c).cycles + ((s.core c).cyc5 % 5 + (5 * (s.core c).tcmp - (s.core c).cyc5)) / 5 := by
    unfold CoreSt.cycles at *
    omega
  refine ⟨s.coreCycles c (5 * (s.core c).tcmp - (s.core c).cyc5), ?_, ?_, (State.coreCycles_spec s c _).2.2⟩
  · change execTimerCompareMatch c s = _
    simp [execTimerCompareMatch, hc, hlt]
  · unfold State.coreCycles
    dsimp only
    rw [if_neg (by simp [hfrozen, hmode]), if_pos (by simp [hlt, hreach])]
    exact State.line_testBit _ _ _

theorem State.tapWords_core (s : State) (c d : Nat) (l : List Word) : (l.foldl (fun s w => s.tapWord c w) s).core d = s.core d := by
  induction l generalizing s with
  | nil => rfl
  | cons w l ih =>
    rw [List.foldl_cons, ih]
    unfold State.core
    simp [State.tapWord, State.msetW, State.msetH]

/-- A finished tapped column leaves the tap and sets line 0 (R348). -/
theorem tapColumnDone_writes (c : Nat) (x : TapCol) (r : List TapCol) (s : State) (hc : c < 2) (htap : (s.core c).tap = x :: r) (hready : s.tapReady x = true) :
    Answers (.tapColumnDone c) s (fun t => (t.core c).tap = r ∧ (SMap.get (fun _ => 0) t.lines c).testBit 0 = true) := by
  refine ⟨s.tapWrite c, ?_, ?_⟩
  · change execTapColumnDone c s = _
    simp [execTapColumnDone, htap, hc, hready]
  · simp only [State.tapWrite, htap]
    refine ⟨?_, State.line_testBit _ _ _⟩
    exact congrArg CoreSt.tap (State.core_setCore_self _ c _)

theorem tapColumnDone_idle (c : Nat) (s : State) (htap : (s.core c).tap = []) : Answers (.tapColumnDone c) s (fun t => t = s) := by
  refine ⟨s, ?_, rfl⟩
  change execTapColumnDone c s = _
  simp [execTapColumnDone, htap]

/-! ## The start of a DMA engine (R349) -/

/-- The transfer that engine `n`'s registers ask for. -/
def State.dmaJob (s : State) (n : Nat) : DmaSt :=
  { src := s.f (Fld.DMA_SRC_ADDR n), dst := s.f (Fld.DMA_DST_ADDR n), n := s.f (Fld.DMA_LEN_LEN n) + 1,
    srcInc := s.b (Fld.DMA_CTRL_SRCINC n), dstInc := s.b (Fld.DMA_CTRL_DSTINC n) }

theorem dmaGo_starts (n : Nat) (s : State) (hn : n < 4) (hbusy : s.b (Fld.DMA_CTRL_BUSY n) = false) :
    Answers (.dmaGo n) s (fun t => t.b (Fld.DMA_CTRL_BUSY n) = true ∧ (∃ j : DmaSt, SMap.get (fun _ => (none : Option DmaSt)) t.dma n = some j ∧
      j.src = s.f (Fld.DMA_SRC_ADDR n) ∧ j.dst = s.f (Fld.DMA_DST_ADDR n) ∧ j.n = s.f (Fld.DMA_LEN_LEN n) + 1) ∧ State.regsBut [Reg.DMA_CTRL n] s t ∧
      { t with regs := s.regs, dma := s.dma } = s) := by
  have hbits : ∀ n < 4, (Fld.DMA_CTRL_BUSY n).fits = true ∧ (Fld.DMA_CTRL_BUSY n).w = 1 := by decide
  obtain ⟨hfits, hw⟩ := hbits n hn
  have hgo : s.dmaGo n = (s.withDma (SMap.set (fun _ => (none : Option DmaSt)) s.dma n (some (s.dmaJob n)))).setB (Fld.DMA_CTRL_BUSY n) true := by
    unfold State.dmaGo
    rw [if_neg (by simp [hbusy])]
    rfl
  refine ⟨s.dmaGo n, ?_, ?_⟩
  · change execDmaGo n s = _
    simp [execDmaGo, hn]
  · rw [hgo]
    refine ⟨State.b_setB_self _ _ _ hfits hw, ⟨s.dmaJob n, ?_, rfl, rfl, rfl⟩, ?_, by simp⟩
    · rw [State.setB_dma, State.withDma_dma, SMap.get_set_self]
    · exact State.regsBut_setB _ _ (State.regsBut_of (State.regsBut_refl _ s) (State.withDma_regs s _)) (List.mem_singleton.2 rfl)

theorem dmaGo_busy (n : Nat) (s : State) (hbusy : s.b (Fld.DMA_CTRL_BUSY n) = true) : Answers (.dmaGo n) s (fun t => t = s) := by
  refine ⟨s, ?_, rfl⟩
  change execDmaGo n s = _
  simp [execDmaGo, State.dmaGo, hbusy]

end Sys2Proof.Machine
end

section
namespace Sys2Proof.Machine

/-! ## The statement's parts on the bus -/

theorem State.mget_of_mem {s t : State} (h : t.mem = s.mem) (a : Nat) : t.mget a = s.mget a := by
  unfold State.mget
  rw [h]

theorem State.mgetW_of_mem {s t : State} (h : t.mem = s.mem) (a : Nat) : t.mgetW a = s.mgetW a := by
  simp only [State.mgetW, State.mgetH, State.mget_of_mem h]

theorem dmaDone_oneWord (n p q : Nat) (s : State) (hn : n < 4)
    (hjob : SMap.get (fun _ => (none : Option DmaSt)) s.dma n = some { src := p, dst := q, n := 1, srcInc := true, dstInc := true })
    (hfree : s.frozen (3 + n) = false) (hdev : s.dev ≠ .park) (hp : p % 4 = 0) (hq : q % 4 = 0) (hmp : dspMemAt p = true) (hmq : dspMemAt q = true)
    (hrd : s.breaks (3 + n) p false = 0) (hwr : s.breaks (3 + n) q true = 0) :
    Answers (.dmaDone n []) s (fun t => t.mgetW q = s.mgetW p ∧ (∀ a, a < q ∨ q + 4 ≤ a → t.mget a = s.mget a) ∧ t.b (Fld.DMA_CTRL_BUSY n) = false ∧
      t.b (Fld.DMA_CTRL_DONE n) = true) := by
  have hmove := State.dmaMove_one (s := s) (m := 3 + n) (j := { src := p, dst := q, n := 1, srcInc := true, dstInc := true }) rfl rfl ⟨rfl, rfl⟩ hfree hp hq hmp
    hmq hrd hwr
  have hexec := execDmaDone_ends (errs := []) hn hjob hfree hdev fun i hi => by
    obtain rfl : i = 0 := Nat.lt_one_iff.1 hi
    dsimp only
    rw [dmaAddr_first hp (dspMemAt_only hmp).1, dmaAddr_first hq (dspMemAt_only hmq).1]
    exact ⟨hrd, hwr⟩
  rw [hmove] at hexec
  obtain ⟨hbusy, hdone, -, hmem⟩ := State.dmaEnded_done hn (s.msetW q (s.mgetW p))
  exact ⟨_, hexec, (State.mgetW_of_mem hmem q).trans (State.mgetW_msetW s q _), fun a ha => (State.mget_of_mem hmem a).trans (State.mget_msetW_ne s q a _ ha),
    hbusy, hdone⟩

theorem dmaDone_ends (n : Nat) (errs : List Nat) (j : DmaSt) (s : State) (hn : n < 4) (hjob : SMap.get (fun _ => (none : Option DmaSt)) s.dma n = some j)
    (hfree : s.frozen (3 + n) = false) (hdev : s.dev ≠ .park)
    (hok : ∀ i, i < j.n → s.breaks (3 + n) (dmaAddr j.src j.srcInc i) false = 0 ∧ s.breaks (3 + n) (dmaAddr j.dst j.dstInc i) true = 0) :
    Answers (.dmaDone n errs) s (fun t => t.b (Fld.DMA_CTRL_BUSY n) = false ∧ t.b (Fld.DMA_CTRL_DONE n) = true ∧
      SMap.get (fun _ => (none : Option DmaSt)) t.dma n = none) := by
  obtain ⟨hbusy, hdone, hnone, -⟩ := State.dmaEnded_done hn (s.dmaMove (3 + n) j j.n 0 errs)
  exact ⟨_, execDmaDone_ends hn hjob hfree hdev hok, hbusy, hdone, hnone⟩

theorem dmaDone_stands (n : Nat) (errs : List Nat) (s : State) (h : s.dev = .park ∨ s.frozen (3 + n) = true) : Answers (.dmaDone n errs) s (fun t => t = s) := by
  refine ⟨s, ?_, rfl⟩
  change execDmaDone n s errs = _
  unfold execDmaDone
  split
  · rfl
  · refine if_pos ?_
    rcases h with h | h <;> simp [h]

theorem registerWrite_freezes (m a : Nat) (v : Word) (s : State) (hlo : 1 ≤ m) (hhi : m ≤ 8) (h7 : m ≠ 7) (hboot : s.dev ≠ .boot) (hpark : s.dev ≠ .park)
    (hfree : s.frozen m = false) (hbreak : s.breaks m a true ≠ 0) :
    Answers (.registerWrite m a v) s (fun t => t.frozen m = true ∧ t.rget (Reg.BUS_FRZADDR (m - 1)) = BitVec.ofNat 32 a ∧ t.mem = s.mem ∧
      t.rst.raised.testBit (frzSource m) = true) := by
  obtain ⟨hfrozen, haddr, hraised⟩ := State.freeze_latches hhi s a (s.breaks m a true) true
  exact ⟨_, execRegisterWrite_refused hlo hhi h7 hboot hpark hfree hbreak v, hfrozen, haddr, State.freeze_mem _ _ _ _ _, hraised⟩

theorem registerWrite_dspMem (m a : Nat) (v : Word) (s : State) (hlo : 1 ≤ m) (hhi : m ≤ 8) (hboot : s.dev ≠ .boot) (hpark : s.dev ≠ .park)
    (hfree : s.frozen m = false) (hok : s.breaks m a true = 0) (hmem : dspMemAt a = true) (halign : a % 4 = 0) :
    Answers (.registerWrite m a v) s (fun t => t.mgetW a = v ∧ (∀ q, q < a ∨ a + 4 ≤ q → t.mget q = s.mget q) ∧ { t with mem := s.mem } = s) := by
  have hexec := execRegisterWrite_allowed hlo hhi hboot hpark hfree hok v
  rw [State.writeWord_dspMem halign hmem] at hexec
  exact ⟨_, hexec, State.mgetW_msetW s a v, fun q hq => State.mget_msetW_ne s a q v hq, by simp [State.msetW, State.msetH]⟩

theorem registerWrite_block8 (m a : Nat) (v : Word) (r : RegRow) (s : State) (hlo : 1 ≤ m) (hhi : m ≤ 8) (hboot : s.dev ≠ .boot) (hpark : s.dev ≠ .park)
    (hfree : s.frozen m = false) (hok : s.breaks m a true = 0) (hblock : a / 0x10000 = 8) (halign : a % 4 = 0) (hr : findReg a = some r) :
    Answers (.registerWrite m a v) s (fun t => t.rget a = r.merge (s.rget a) v ∧ State.regsBut [a] s t ∧ { t with regs := s.regs } = s) := by
  have hexec := execRegisterWrite_allowed hlo hhi hboot hpark hfree hok v
  rw [State.writeWord_block8 hblock halign hr] at hexec
  exact ⟨_, hexec, State.rget_rset_self _ _ _, State.regsBut_rset _ _ (State.regsBut_refl _ s) (List.mem_singleton.2 rfl), rfl⟩

theorem registerWrite_unfrozen (m a : Nat) (v : Word) (s : State) (hlo : 1 ≤ m) (hhi : m ≤ 8) (hboot : s.dev ≠ .boot) (hpark : s.dev ≠ .park)
    (hfree : s.frozen m = false) (hok : s.breaks m a true = 0) : Answers (.registerWrite m a v) s (fun t => t.frozen m = false ∧ t.now = s.now) := by
  have hview := State.writeWord_busView s m a v
  exact ⟨_, execRegisterWrite_allowed hlo hhi hboot hpark hfree hok v, (State.frozen_of_busView hview m).trans hfree, congrArg Prod.fst hview⟩

/-- Settles O57, clause by clause; the general DMA and register-write clauses rest on the frame of what the bus decides by, `State.busView`. -/
theorem coresAndBus : Obligations.CoresAndBus := by
  unfold Obligations.CoresAndBus
  exact ⟨dspInterruptEntry_taken, fun c s _ => dspInterruptEntry_none c s, dspException_entered, dspException_halts, dspCoreStart_resets, wdtkick_idle,
    wdtkick_restarts, wdtkick_expires, mbox7Write_stores, timerCompareMatch_sets, tapColumnDone_writes, tapColumnDone_idle, dmaGo_starts, dmaGo_busy,
    dmaDone_oneWord, fun _ _ _ s h => ⟨s, execRegisterWrite_ignored h _ _, rfl⟩, registerWrite_freezes, registerWrite_dspMem, registerWrite_block8,
    dmaDone_ends, dmaDone_stands, registerWrite_unfrozen⟩

end Sys2Proof.Machine
end

section
namespace Sys2Proof.Machine

/-! ## A pin test that outlasts the search for an image (R32, R34, R71) -/

/-- No slot has loaded while the pin test of the start-up still runs: the device leaves BOOT once the test has ended. -/
def testWithoutImage : State :=
  ({ State.reset with rst := { State.reset.rst with phase := .noImage } }.setB Fld.TOP_PINTEST_BUSY true).setF Fld.AMP_STATE_SAFE_CAUSE 8

/-- The line readings of a pin test without a failing unit: in each step the lines of the unit driven read high, all others low. -/
def passingSteps : List (BitVec 22) := (List.range 11).map (fun k => 3 <<< (2 * k))

theorem pinFails_passingSteps : pinFails passingSteps 0 0 = [] := by decide +kernel

theorem pinTestDone_testWithoutImage : Out.holds (·.dev = .safe) (exec (.pinTestDone passingSteps 0 0) testWithoutImage) = true := by decide +kernel

/-- Refutes O13: the first clause claims that a run without a failing unit changes TOP_PINTEST alone. Where no image has been found, the end of the run also ends BOOT
(R32, R71), and the device enters SAFE: the clause lacks a hypothesis that the boot phase is not `noImage`. -/
theorem not_pinTest : ¬ Obligations.PinTest := by
  unfold Obligations.PinTest
  rintro ⟨hpass, -⟩
  have hans := hpass passingSteps 0 0 testWithoutImage (by decide +kernel) rfl pinFails_passingSteps
  obtain ⟨t, ⟨-, -, -, -, -, hframe⟩, hsafe⟩ := hans.holds pinTestDone_testWithoutImage
  have hboot : t.dev = .boot := congrArg State.dev hframe
  rw [hboot] at hsafe
  exact absurd hsafe (by decide)

/-! ## A level L2 reset of a port beyond the last one (R46, R48, R357) -/

/-- An AMP RESET at level L2 is due for the Ethernet port 465, of which the device has none: the event counter of its link loss would lie at the address of
RST_STATUS. -/
def strayPortReset : State :=
  { State.reset with
    dev := .idle
    regs := [(Reg.RST_STATUS, 0xFF), ((Fld.ETH_STAT_LINK 465).addr, 1)]
    rst := { State.reset.rst with phase := .done, raised := 2 ^ 5, ampReset := some (2, some (.eth 465)) } }

theorem resetAssert_strayPortReset : Out.holds (·.f Fld.RST_STATUS_LAST_LEVEL = 3) (exec .resetAssert strayPortReset) = true := by decide +kernel

/-- Refutes O10: the level L2 reset of a port whose link is up counts the loss of the link (R357), and for a port 465 that counter is the low half of RST_STATUS, so that
LAST_LEVEL does not read 2 as the fifth clause claims. The witness is no state that the model reaches: the clause lacks a hypothesis that the target is one of Table 14.4. -/
theorem not_deepReset : ¬ Obligations.DeepReset := by
  unfold Obligations.DeepReset
  rintro ⟨-, -, -, -, hl2, -⟩
  have hans := hl2 5 (.eth 465) strayPortReset (by decide) (by decide) rfl rfl rfl rfl
  obtain ⟨t, ⟨-, -, -, hlevel, -⟩, hthree⟩ := hans.holds resetAssert_strayPortReset
  rw [hlevel] at hthree
  exact absurd hthree (by decide)

end Sys2Proof.Machine
end

section
namespace Sys2Proof.Machine

/-! # The ms tick (R42, R311, R350) -/

theorem State.logEvent_ms (s : State) (c : Nat) (x y : Word) : (s.logEvent c x y).ms = s.ms := by
  obtain ⟨n, r, h⟩ := State.logEvent_form s c x y
  rw [h]

theorem State.soutOff_ms (s : State) : s.soutOff.ms = s.ms := by
  unfold State.soutOff
  split <;> rfl

theorem State.guardFollow_ms (s : State) : s.guardFollow.ms = s.ms := by
  unfold State.guardFollow
  split
  · exact State.soutOff_ms s
  · rfl

theorem State.discLatch_ms (s : State) : s.discLatch.ms = s.ms := by
  unfold State.discLatch
  rw [State.guardFollow_ms, State.logEvent_ms]
  simp

theorem State.discTick_ms (s : State) : s.discTick.ms = s.ms := by
  unfold State.discTick
  split
  · rfl
  · split
    · split <;> rfl
    · split
      · split <;> rfl
      · split
        · exact State.discLatch_ms s
        · rfl

theorem State.restartTick_ms (s : State) : s.restartTick.ms = s.ms := by
  unfold State.restartTick
  split
  · rfl
  · split
    · rfl
    · split <;> rfl

theorem State.wdtTick_ms (s : State) (c : Nat) : (s.wdtTick c).ms = s.ms := by
  unfold State.wdtTick
  split
  · rfl
  · split <;> rfl

/-- A ms tick counts. -/
theorem State.msTick_ms (s : State) : s.msTick.ms = s.ms + 1 := by
  unfold State.msTick
  rw [State.wdtTick_ms, State.wdtTick_ms, State.restartTick_ms, State.discTick_ms, State.withMs_ms]

theorem State.msTicks_ms (n : Nat) (s : State) : (State.msTicks n s).ms = s.ms + n := by
  induction n generalizing s with
  | zero => rfl
  | succ n ih =>
    unfold State.msTicks
    rw [ih, State.msTick_ms]
    omega

/-! ## A tick with the safety function idle -/

theorem State.discTick_idle {s : State} (h : s.guardActive = false) : s.discTick = s := by simp [State.discTick, h]

theorem State.restartTick_idle {s : State} (h : s.b Fld.GUARD_STAT_RST_WAIT = false) : s.restartTick = s := by simp [State.restartTick, h]

theorem State.wdtTick_idle {s : State} {c : Nat} (h : s.wdtCounts c = false) : s.wdtTick c = s := by simp [State.wdtTick, h]

theorem State.wdtTick_counts {s : State} {c : Nat} (h : s.wdtCounts c = true) (hleft : 1 < s.f (Fld.DSP_WDTCNT_LEFT c)) :
    s.wdtTick c = s.setF (Fld.DSP_WDTCNT_LEFT c) (s.f (Fld.DSP_WDTCNT_LEFT c) - 1) := by
  unfold State.wdtTick
  rw [if_neg (by simp [h]), if_neg (Nat.not_le.2 hleft)]

/-- With the safety function idle and the watchdog of core 1 not counting, a tick that does not let the watchdog of core 0 expire counts that one down and the tick. -/
theorem State.msTick_counts {s : State} (hguard : s.guardActive = false) (hwait : s.b Fld.GUARD_STAT_RST_WAIT = false) (h0 : s.wdtCounts 0 = true)
    (hleft : 1 < s.f (Fld.DSP_WDTCNT_LEFT 0)) (h1 : s.wdtCounts 1 = false) :
    s.msTick = (s.withMs (s.ms + 1)).setF (Fld.DSP_WDTCNT_LEFT 0) (s.f (Fld.DSP_WDTCNT_LEFT 0) - 1) := by
  have hen : ∀ p : State, ∀ x, (p.setF (Fld.DSP_WDTCNT_LEFT 0) x).b (Fld.DSP_WDT_EN 1) = p.b (Fld.DSP_WDT_EN 1) :=
    fun p x => State.b_setF_apart p _ _ x (by decide) (by decide)
  have hidle : ((s.withMs (s.ms + 1)).setF (Fld.DSP_WDTCNT_LEFT 0) (s.f (Fld.DSP_WDTCNT_LEFT 0) - 1)).wdtCounts 1 = false := by
    unfold State.wdtCounts
    rw [hen]
    exact h1
  unfold State.msTick
  dsimp only
  rw [State.discTick_idle (s := s.withMs (s.ms + 1)) hguard, State.restartTick_idle (s := s.withMs (s.ms + 1)) hwait,
    State.wdtTick_counts (s := s.withMs (s.ms + 1)) h0 hleft]
  exact State.wdtTick_idle hidle

theorem enDiscSample_counts (s : State) (hguard : s.guardActive = false) (hwait : s.b Fld.GUARD_STAT_RST_WAIT = false) (h0 : s.wdtCounts 0 = true)
    (hleft : 1 < s.f (Fld.DSP_WDTCNT_LEFT 0)) (h1 : s.wdtCounts 1 = false) :
    Answers .enDiscSample s (fun t => t.f (Fld.DSP_WDTCNT_LEFT 0) = s.f (Fld.DSP_WDTCNT_LEFT 0) - 1 ∧ State.regsBut [Reg.DSP_WDTCNT 0] s t ∧
      { t with regs := s.regs, ms := s.ms } = s) := by
  refine ⟨_, congrArg Host.Outcome.next (State.msTick_counts hguard hwait h0 hleft h1), ?_, ?_, by simp⟩
  · rw [State.f_setF_self _ _ _ (by decide)]
    exact Nat.mod_eq_of_lt ((Nat.sub_le _ _).trans_lt (State.f_lt s _))
  · exact State.regsBut_setF _ _ (State.regsBut_of (State.regsBut_refl _ s) rfl) (by decide)

theorem wdtExpiry_ticks (c : Nat) (s : State) (hc : c < 2) (h : s.wdtCounts c = true) : Answers (.wdtExpiry c) s (fun t => s.ms < t.ms) := by
  refine ⟨State.msTicks (max 1 (s.f (Fld.DSP_WDTCNT_LEFT c))) s, ?_, ?_⟩
  · change execWdtExpiry c s = _
    simp [execWdtExpiry, hc, h]
  · dsimp only
    rw [State.msTicks_ms]
    omega

theorem wdtExpiry_idle (c : Nat) (s : State) (h : 2 ≤ c ∨ s.wdtCounts c = false) : Answers (.wdtExpiry c) s (fun t => t = s) := by
  refine ⟨s, ?_, rfl⟩
  change execWdtExpiry c s = _
  rcases h with h | h
  · simp [execWdtExpiry, Nat.not_lt.2 h]
  · simp [execWdtExpiry, h]

/-! # The boundary-scan TAP (R36) -/

/-- The state in which the TAP executes instruction `i`, its data register selected. -/
def State.tapLoaded (s : State) (i : Nat) : State :=
  let s := s.withPins { s.pins with tap := i }
  s.withPins { s.pins with tdr := if s.tapInstr = 1 then 0x11024C6B else 0 }

/-- Only EXTEST may run as another instruction. -/
theorem State.tapInstr_eq {s : State} (h : s.pins.tap ≠ 3) : s.tapInstr = s.pins.tap := by simp [State.tapInstr, h]

theorem State.tapInstr_ne_idcode {s : State} (h : s.pins.tap ≠ 1) : s.tapInstr ≠ 1 := by
  unfold State.tapInstr
  split
  · exact Nat.zero_ne_one
  · exact h

theorem execBoundaryScanInstruction_loaded {i : Nat} (hi : i < 4) (s : State) (ins dr : BitVec 52) :
    execBoundaryScanInstruction i s ins dr = if (s.tapLoaded i).tapInstr = 2 || (s.tapLoaded i).tapInstr = 3 then
        .next ((s.tapLoaded i).withPins { (s.tapLoaded i).pins with cap := (s.tapLoaded i).capture52 ins, bsr := dr &&& driveMask })
      else .next (s.tapLoaded i) := by
  unfold execBoundaryScanInstruction
  rw [if_pos hi]
  rfl

/-- Every instruction selects its data register; what SAMPLE/PRELOAD and EXTEST do besides reaches the boundary register's own cells only. -/
theorem execBoundaryScanInstruction_form {i : Nat} (hi : i < 4) (s : State) (ins dr : BitVec 52) :
    ∃ cap bsr, execBoundaryScanInstruction i s ins dr = .next ((s.tapLoaded i).withPins { (s.tapLoaded i).pins with cap := cap, bsr := bsr }) := by
  have hload : s.tapLoaded i = (s.tapLoaded i).withPins { (s.tapLoaded i).pins with cap := s.pins.cap, bsr := s.pins.bsr } := rfl
  rw [execBoundaryScanInstruction_loaded hi]
  split
  · exact ⟨_, _, rfl⟩
  · exact ⟨s.pins.cap, s.pins.bsr, congrArg _ hload⟩

theorem boundaryScanInstruction_idcode (ins dr : BitVec 52) (s : State) :
    Answers (.boundaryScanInstruction 1 ins dr) s (fun t => t.pins.tdr = 0x11024C6B ∧ t.pins.tap = 1 ∧ { t with pins := s.pins } = s) := by
  obtain ⟨cap, bsr, h⟩ := execBoundaryScanInstruction_form (i := 1) (by decide) s ins dr
  have hinstr : (s.withPins { s.pins with tap := 1 }).tapInstr = 1 := State.tapInstr_eq (by simp)
  exact ⟨_, h, by simp [State.tapLoaded, hinstr], rfl, by simp [State.tapLoaded]⟩

theorem boundaryScanInstruction_bypasses (i : Nat) (ins dr : BitVec 52) (s : State) (hi : i < 4) (h1 : i ≠ 1) :
    Answers (.boundaryScanInstruction i ins dr) s (fun t => t.pins.tdr = 0 ∧ t.pins.tap = i ∧ { t with pins := s.pins } = s) := by
  obtain ⟨cap, bsr, h⟩ := execBoundaryScanInstruction_form hi s ins dr
  have hinstr : (s.withPins { s.pins with tap := i }).tapInstr ≠ 1 := State.tapInstr_ne_idcode h1
  exact ⟨_, h, by simp [State.tapLoaded, hinstr], rfl, by simp [State.tapLoaded]⟩

/-! ## What SAMPLE/PRELOAD captures -/

theorem State.pinLevel_own {s : State} (h : s.extestOn = false) (p : Pin) : s.pinLevel p = s.ownLevel p := by simp [State.pinLevel, h]

theorem State.capture52_congr {s t : State} (h : ∀ p, t.pinLevel p = s.pinLevel p) (ins : BitVec 52) : t.capture52 ins = s.capture52 ins := by
  unfold State.capture52
  simp only [h]

/-- Of its own accord no pin shows what the boundary register holds. -/
theorem State.ownLevel_boundary (s : State) (cap bsr : BitVec 52) (p : Pin) : (s.withPins { s.pins with cap := cap, bsr := bsr }).ownLevel p = s.ownLevel p := by
  cases p <;> rfl

theorem State.extestOn_sample {s : State} (h : s.pins.tap = 2) : s.extestOn = false := by
  simp [State.extestOn, State.tapInstr_eq (s := s) (by simp [h]), h]

theorem State.capture52_sample {s : State} (h : s.pins.tap = 2) (cap bsr ins : BitVec 52) :
    (s.withPins { s.pins with cap := cap, bsr := bsr }).capture52 ins = s.capture52 ins := by
  refine State.capture52_congr (fun p => ?_) ins
  rw [State.pinLevel_own (State.extestOn_sample (by exact h)), State.pinLevel_own (State.extestOn_sample h), State.ownLevel_boundary]

theorem boundaryScanInstruction_samples (ins dr : BitVec 52) (s : State) :
    Answers (.boundaryScanInstruction 2 ins dr) s (fun t => t.pins.bsr = dr &&& driveMask ∧ t.pins.cap = t.capture52 ins ∧ { t with pins := s.pins } = s) := by
  have htap : (s.tapLoaded 2).pins.tap = 2 := rfl
  have hinstr : (s.tapLoaded 2).tapInstr = 2 := State.tapInstr_eq (by rw [htap]; decide)
  refine ⟨(s.tapLoaded 2).withPins { (s.tapLoaded 2).pins with cap := (s.tapLoaded 2).capture52 ins, bsr := dr &&& driveMask }, ?_, rfl,
    (State.capture52_sample htap _ _ ins).symm, by simp [State.tapLoaded]⟩
  change execBoundaryScanInstruction 2 s ins dr = _
  rw [execBoundaryScanInstruction_loaded (by decide), if_pos (by simp [hinstr])]

/-- Settles O18: a tick counts itself and the watchdogs that run, and the TAP reaches its own registers only. -/
theorem msTickAndTap : Obligations.MsTickAndTap := by
  unfold Obligations.MsTickAndTap
  exact ⟨fun s => ⟨s.msTick, rfl, State.msTick_ms s, State.msTick_dev s, State.msTick_mem s⟩, enDiscSample_counts, wdtExpiry_ticks, wdtExpiry_idle,
    boundaryScanInstruction_idcode, boundaryScanInstruction_bypasses, boundaryScanInstruction_samples⟩

end Sys2Proof.Machine
end

section
namespace Sys2Proof.Machine

/-! # The start of the pin test at a lock (R32, R43) -/

/-- Both PLLs are locked, as the pin test needs it (R32). -/
def State.bothLocked (s : State) : Bool := s.b Fld.CLK_STATUS_PLLA_LOCK && s.b Fld.CLK_STATUS_PLLB_LOCK

theorem State.pinTestKick_starts {s : State} (hboot : s.dev = .boot) (hdue : s.rst.testDue = true) (hlock : s.bothLocked = true) :
    s.pinTestKick = (s.withRst { s.rst with testDue := false }).setB Fld.TOP_PINTEST_BUSY true := by
  obtain ⟨ha, hb⟩ := Bool.and_eq_true_iff.1 hlock
  unfold State.pinTestKick
  rw [if_pos (by simp [hboot, hdue, ha, hb])]
  rfl

theorem State.pinTestKick_idle {s : State} (h : s.dev ≠ .boot ∨ s.bothLocked = false) : s.pinTestKick = s := by
  unfold State.pinTestKick
  rw [if_neg]
  rcases h with h | h
  · simp [h]
  · rw [Bool.and_assoc]
    exact fun hk => Bool.noConfusion (h.symm.trans (Bool.and_eq_true_iff.1 hk).2)

/-- The start of the pin test reaches TOP_PINTEST only. -/
theorem State.b_pinTestKick (s : State) {F : Fld} (h : F.apart Fld.TOP_PINTEST_BUSY = true) : s.pinTestKick.b F = s.b F := by
  unfold State.pinTestKick
  split
  · exact State.b_setB_apart _ F _ _ (by decide) h
  · rfl

/-! # PLLA (R43, R44) -/

theorem execPllaLock_runs {s : State} (h : s.pllaRuns = true) : execPllaLock s = .next (s.setB Fld.CLK_STATUS_PLLA_LOCK true).pinTestKick := by
  simp [execPllaLock, h]

theorem State.b_setPllaLock (s : State) (p : Bool) : (s.setB Fld.CLK_STATUS_PLLA_LOCK p).b Fld.CLK_STATUS_PLLA_LOCK = p :=
  State.b_setB_self s _ p (by decide) (by decide)

theorem pllaLock_beyondBoot (s : State) (hruns : s.pllaRuns = true) (hdev : s.dev ≠ .boot) :
    Answers .pllaLock s (fun t => t.b Fld.CLK_STATUS_PLLA_LOCK = true ∧ State.regsBut [Reg.CLK_STATUS] s t ∧ { t with regs := s.regs } = s) := by
  refine ⟨s.setB Fld.CLK_STATUS_PLLA_LOCK true, (execPllaLock_runs hruns).trans (congrArg _ (State.pinTestKick_idle (.inl hdev))), State.b_setPllaLock s true, ?_, by simp⟩
  exact State.regsBut_setB _ _ (State.regsBut_refl _ s) (by decide)

theorem pllaLock_startsPinTest (s : State) (hruns : s.pllaRuns = true) (hboot : s.dev = .boot) (hdue : s.rst.testDue = true)
    (hb : s.b Fld.CLK_STATUS_PLLB_LOCK = true) :
    Answers .pllaLock s (fun t => t.b Fld.CLK_STATUS_PLLA_LOCK = true ∧ t.b Fld.TOP_PINTEST_BUSY = true ∧ t.rst.testDue = false ∧
      State.regsBut [Reg.CLK_STATUS, Reg.TOP_PINTEST] s t ∧ { t with regs := s.regs, rst := s.rst } = s) := by
  have hlock : (s.setB Fld.CLK_STATUS_PLLA_LOCK true).bothLocked = true := by
    unfold State.bothLocked
    rw [State.b_setPllaLock, State.b_setB_apart s Fld.CLK_STATUS_PLLB_LOCK _ _ (by decide) (by decide), hb]
    rfl
  refine ⟨_, (execPllaLock_runs hruns).trans (congrArg _ (State.pinTestKick_starts hboot hdue hlock)), ?_, ?_, rfl, ?_, by simp⟩
  · rw [State.b_setB_apart _ Fld.CLK_STATUS_PLLA_LOCK _ _ (by decide) (by decide)]
    exact State.b_setPllaLock s true
  · exact State.b_setB_self _ _ _ (by decide) (by decide)
  · have hclk : State.regsBut [Reg.CLK_STATUS, Reg.TOP_PINTEST] s (s.setB Fld.CLK_STATUS_PLLA_LOCK true) :=
      State.regsBut_setB _ _ (State.regsBut_refl _ s) (by decide)
    exact State.regsBut_setB _ _ (State.regsBut_of hclk rfl) (by decide)

theorem pllaLock_stopped (s : State) (h : s.pllaRuns = false) : Answers .pllaLock s (fun t => t = s) := by
  refine ⟨s, ?_, rfl⟩
  change execPllaLock s = _
  simp [execPllaLock, h]

theorem pllaLock_locks (s : State) (h : s.pllaRuns = true) : Answers .pllaLock s (fun t => t.b Fld.CLK_STATUS_PLLA_LOCK = true ∧ t.dev = s.dev) :=
  ⟨_, execPllaLock_runs h, (State.b_pinTestKick _ (by decide)).trans (State.b_setPllaLock s true), by simp⟩

/-- A PLL has lost lock: its bit `lock` clears and the loss is flagged. -/
def State.lockLost (s : State) (lock : Fld) (lol : Cause) : State := (s.setB lock false).raise lol

/-- The lock bit of a PLL is one bit, apart from the flag of its loss and that flag's counter. -/
def lolApart (lock : Fld) (lol : Cause) : Bool :=
  lock.fits && decide (lock.w = 1) && lol.fld.fits && lol.cnt.fits && lock.apart lol.fld && lock.apart lol.cnt

theorem State.lockLost_flags (s : State) {lock : Fld} {lol : Cause} (h : lolApart lock lol = true) :
    (s.lockLost lock lol).b lock = false ∧ (s.lockLost lock lol).b lol.fld = true := by
  simp only [lolApart, Bool.and_eq_true, decide_eq_true_eq] at h
  obtain ⟨⟨⟨⟨⟨hfits, hw⟩, hlol⟩, hcnt⟩, hfld⟩, hapart⟩ := h
  exact ⟨(State.b_raise_apart _ _ _ hlol hcnt hfld hapart).trans (State.b_setB_self s _ _ hfits hw), State.b_raise_self _ _ hlol⟩

/-- PLLA has lost lock. -/
def State.pllaLost (s : State) : State := s.lockLost Fld.CLK_STATUS_PLLA_LOCK Cause.CLK_STATUS_PLLA_LOL

theorem State.pllaLost_flags (s : State) : s.pllaLost.b Fld.CLK_STATUS_PLLA_LOCK = false ∧ s.pllaLost.b Fld.CLK_STATUS_PLLA_LOL = true :=
  State.lockLost_flags s (lock := Fld.CLK_STATUS_PLLA_LOCK) (lol := Cause.CLK_STATUS_PLLA_LOL) (by decide)

/-- A locked PLLA loses lock; in SCAN charging stops and the columns carry INVALID. -/
theorem execPllaLossOfLock_locked {s : State} (h : s.b Fld.CLK_STATUS_PLLA_LOCK = true) :
    execPllaLossOfLock s = .next (if s.dev = .scan then (s.pllaLost.withEmit { s.emit with charging := none }).mashInvalid else s.pllaLost) := by
  unfold execPllaLossOfLock
  rw [if_neg (by simp [h])]
  rfl

theorem pllaLossOfLock_flags (s : State) (h : s.b Fld.CLK_STATUS_PLLA_LOCK = true) :
    Answers .pllaLossOfLock s (fun t => t.b Fld.CLK_STATUS_PLLA_LOCK = false ∧ t.b Fld.CLK_STATUS_PLLA_LOL = true ∧ t.dev = s.dev) := by
  obtain ⟨hlock, hlol⟩ := State.pllaLost_flags s
  refine ⟨_, execPllaLossOfLock_locked h, ?_⟩
  split
  · exact ⟨hlock, hlol, by simp [State.pllaLost, State.lockLost]⟩
  · exact ⟨hlock, hlol, by simp [State.pllaLost, State.lockLost]⟩

theorem pllaLossOfLock_beyondScan (s : State) (h : s.b Fld.CLK_STATUS_PLLA_LOCK = true) (hdev : s.dev ≠ .scan) :
    Answers .pllaLossOfLock s (fun t => t.b Fld.CLK_STATUS_PLLA_LOCK = false ∧ t.b Fld.CLK_STATUS_PLLA_LOL = true ∧ { t with regs := s.regs } = s) := by
  obtain ⟨hlock, hlol⟩ := State.pllaLost_flags s
  exact ⟨s.pllaLost, (execPllaLossOfLock_locked h).trans (by rw [if_neg hdev]), hlock, hlol, by simp [State.pllaLost, State.lockLost]⟩

theorem pllaLossOfLock_scanning (s : State) (h : s.b Fld.CLK_STATUS_PLLA_LOCK = true) (hdev : s.dev = .scan) :
    Answers .pllaLossOfLock s (fun t => t.b Fld.CLK_STATUS_PLLA_LOCK = false ∧ t.b Fld.CLK_STATUS_PLLA_LOL = true ∧ t.emit.charging = none ∧
      { t with regs := s.regs, emit := s.emit, clus := s.clus } = s) := by
  obtain ⟨hlock, hlol⟩ := State.pllaLost_flags s
  exact ⟨(s.pllaLost.withEmit { s.emit with charging := none }).mashInvalid, (execPllaLossOfLock_locked h).trans (by rw [if_pos hdev]), hlock, hlol, rfl,
    by simp [State.pllaLost, State.lockLost, State.mashInvalid]⟩

theorem State.raiseReset_raised (s : State) (src : Nat) : (s.raiseReset src).rst.raised.testBit src = true := State.testBit_or_pow _ _

theorem pllaRelockTimeout_raises (s : State) (hdev : s.dev = .scan) (h : s.b Fld.CLK_STATUS_PLLA_LOCK = false) :
    Answers .pllaRelockTimeout s (fun t => t.rst.raised.testBit 13 = true ∧ { t with rst := s.rst } = s) := by
  refine ⟨s.raiseReset 13, ?_, State.raiseReset_raised s 13, by simp [State.raiseReset]⟩
  change execPllaRelockTimeout s = _
  simp [execPllaRelockTimeout, hdev, h]

theorem pllaRelockTimeout_idle (s : State) (h : s.dev ≠ .scan ∨ s.b Fld.CLK_STATUS_PLLA_LOCK = true) : Answers .pllaRelockTimeout s (fun t => t = s) := by
  refine ⟨s, ?_, rfl⟩
  change execPllaRelockTimeout s = _
  rcases h with h | h <;> simp [execPllaRelockTimeout, h]

/-! # PLLB (R43, R44) -/

theorem State.b_setPllbLock (s : State) (p : Bool) : (s.setB Fld.CLK_STATUS_PLLB_LOCK p).b Fld.CLK_STATUS_PLLB_LOCK = p :=
  State.b_setB_self s _ p (by decide) (by decide)

theorem execPllbLock_started {s : State} (hphase : s.rst.phase = .done) (h : s.dev ≠ .park ∨ s.parkWake = true) :
    execPllbLock s = .next (s.setB Fld.CLK_STATUS_PLLB_LOCK true) := by
  unfold execPllbLock
  rw [hphase]
  dsimp only
  rw [if_pos (by simpa using h)]

theorem execPllbLock_startUp {s : State} (hphase : s.rst.phase = .pll) :
    execPllbLock s = .next ((s.setB Fld.CLK_STATUS_PLLB_LOCK true).imageStart).pinTestKick := by
  unfold execPllbLock
  rw [hphase]

theorem pllbLock_beyondPark (s : State) (hphase : s.rst.phase = .done) (hdev : s.dev ≠ .park) :
    Answers .pllbLock s (fun t => t.b Fld.CLK_STATUS_PLLB_LOCK = true ∧ State.regsBut [Reg.CLK_STATUS] s t ∧ { t with regs := s.regs } = s) := by
  refine ⟨_, execPllbLock_started hphase (.inl hdev), State.b_setPllbLock s true, ?_, by simp⟩
  exact State.regsBut_setB _ _ (State.regsBut_refl _ s) (by decide)

theorem pllbLock_startsImageLoad (s : State) (hphase : s.rst.phase = .pll) (ha : s.b Fld.CLK_STATUS_PLLA_LOCK = false) :
    Answers .pllbLock s (fun t => t.b Fld.CLK_STATUS_PLLB_LOCK = true ∧ t.rst.phase = .heads [1, 2] ∧ State.regsBut [Reg.CLK_STATUS] s t ∧
      { t with regs := s.regs, rst := s.rst } = s) := by
  have hlock : (s.setB Fld.CLK_STATUS_PLLB_LOCK true).imageStart.bothLocked = false := by
    have hkeep : (s.setB Fld.CLK_STATUS_PLLB_LOCK true).b Fld.CLK_STATUS_PLLA_LOCK = false :=
      (State.b_setB_apart s _ _ _ (by decide) (by decide)).trans ha
    exact Bool.and_eq_false_iff.2 (.inl hkeep)
  refine ⟨(s.setB Fld.CLK_STATUS_PLLB_LOCK true).imageStart, (execPllbLock_startUp hphase).trans (congrArg _ (State.pinTestKick_idle (.inr hlock))),
    State.b_setPllbLock s true, rfl, ?_, by simp [State.imageStart]⟩
  exact State.regsBut_of (State.regsBut_setB _ _ (State.regsBut_refl _ s) (by decide)) rfl

theorem pllbLock_locks (s : State) (h : s.rst.phase = .pll ∨ (s.rst.phase = .done ∧ (s.dev ≠ .park ∨ s.parkWake = true))) :
    Answers .pllbLock s (fun t => t.b Fld.CLK_STATUS_PLLB_LOCK = true ∧ t.dev = s.dev) := by
  rcases h with hpll | ⟨hdone, hawake⟩
  · exact ⟨_, execPllbLock_startUp hpll, (State.b_pinTestKick _ (by decide)).trans (State.b_setPllbLock s true), by simp [State.imageStart]⟩
  · exact ⟨_, execPllbLock_started hdone hawake, State.b_setPllbLock s true, by simp⟩

/-- PLLB has lost lock. -/
def State.pllbLost (s : State) : State := s.lockLost Fld.CLK_STATUS_PLLB_LOCK Cause.CLK_STATUS_PLLB_LOL

theorem State.pllbLost_flags (s : State) : s.pllbLost.b Fld.CLK_STATUS_PLLB_LOCK = false ∧ s.pllbLost.b Fld.CLK_STATUS_PLLB_LOL = true :=
  State.lockLost_flags s (lock := Fld.CLK_STATUS_PLLB_LOCK) (lol := Cause.CLK_STATUS_PLLB_LOL) (by decide)

theorem pllbLossOfLock_raises (s : State) (h : s.b Fld.CLK_STATUS_PLLB_LOCK = true) :
    Answers .pllbLossOfLock s (fun t => t.b Fld.CLK_STATUS_PLLB_LOCK = false ∧ t.b Fld.CLK_STATUS_PLLB_LOL = true ∧ t.rst.raised.testBit 13 = true ∧
      { t with regs := s.regs, rst := s.rst } = s) := by
  obtain ⟨hlock, hlol⟩ := State.pllbLost_flags s
  refine ⟨s.pllbLost.raiseReset 13, ?_, hlock, hlol, State.raiseReset_raised _ 13, by simp [State.raiseReset, State.pllbLost, State.lockLost]⟩
  change execPllbLossOfLock s = _
  unfold execPllbLossOfLock
  rw [if_neg (by simp [h])]
  rfl

/-- Settles O11: each clause is one of the two PLLs' rows in one of the states that R43 and R44 tell apart. -/
theorem plls : Obligations.Plls := by
  unfold Obligations.Plls
  exact ⟨pllaLock_beyondBoot, pllaLock_startsPinTest, pllaLock_stopped, pllbLock_beyondPark, pllaLossOfLock_beyondScan, pllaLossOfLock_scanning,
    pllaRelockTimeout_raises, pllaRelockTimeout_idle, pllbLossOfLock_raises, pllbLock_startsImageLoad, pllaLock_locks, pllbLock_locks, pllaLossOfLock_flags⟩

end Sys2Proof.Machine
end

section
namespace Sys2Proof.Machine

/-! # What a shot would change (R79, R135) -/

/-- What the statement on FIRE speaks of: the shots of string `n` that EMIT_SHOTS has counted, the eye-safety ledger, the last shot handed over, the windows of the
clusters, and the string's last pulse. -/
def State.light (s : State) (n : Nat) : Nat × SMap Nat × Option (Nat × Nat) × SMap CluSt × Option (Nat × Nat) :=
  (s.f (Fld.EMIT_SHOTS_COUNT n), s.kiln.ledger, s.emit.handed, s.clus, (s.str n).lastFire)

/-- The three register fields of string `n` that a shot which does not fire may write share no bit with its shot count. -/
theorem Fld.emitShots_apart : ∀ n < 8, ∀ F ∈ [Fld.EMIT_DAC_DEMAND n, Fld.CTL_CSP_SP n 0, Fld.EMIT_DLFSR_LFSR n],
    F.fits = true ∧ (Fld.EMIT_SHOTS_COUNT n).apart F = true := by decide

theorem State.setF_light {n : Nat} (hn : n < 8) {F : Fld} (hF : F ∈ [Fld.EMIT_DAC_DEMAND n, Fld.CTL_CSP_SP n 0, Fld.EMIT_DLFSR_LFSR n]) (s : State) (x : Nat) :
    (s.setF F x).light n = s.light n := by
  obtain ⟨hfits, hapart⟩ := Fld.emitShots_apart n hn F hF
  exact Prod.ext (State.f_setF_apart s _ F x hfits hapart) rfl

/-- A new record of the string that shows the last pulse of the old one. -/
theorem State.setStr_light (s : State) {n : Nat} {x : StrSt} (h : x.lastFire = (s.str n).lastFire) : (s.setStr n x).light n = s.light n := by
  have hstr : (s.setStr n x).str n = x := SMap.get_set_self _ _ _ _
  simp only [State.light, hstr, h]
  rfl

theorem State.lastFire_of_light {s t : State} {n : Nat} (h : t.light n = s.light n) : (t.str n).lastFire = (s.str n).lastFire := by
  simp only [State.light, Prod.mk.injEq] at h
  obtain ⟨-, -, -, -, hlast⟩ := h
  exact hlast

theorem foldl_light {α : Type} {n : Nat} {g : State → α → State} (h : ∀ s x, (g s x).light n = s.light n) (l : List α) (s : State) :
    (l.foldl g s).light n = s.light n := by
  induction l generalizing s with
  | nil => rfl
  | cons x l ih => rw [List.foldl_cons, ih, h]

/-! ## The choice of a string's next shot -/

theorem State.reduceEntry_light (s : State) (i c n : Nat) : (s.reduceEntry i c).light n = s.light n := by
  unfold State.reduceEntry
  split <;> rfl

theorem State.dropDark_light (s : State) (n : Nat) : (s.dropDark n).light n = s.light n := by
  have hdrop (l : List PShot) : (l.foldl (fun s p => s.reduceEntry p.entry 6) s).light n = s.light n :=
    foldl_light (g := fun s (p : PShot) => s.reduceEntry p.entry 6) (fun s p => State.reduceEntry_light s p.entry 6 n) l s
  unfold State.dropDark
  dsimp only
  rw [State.setStr_light]
  · exact hdrop _
  · exact (State.lastFire_of_light (hdrop _)).symm

theorem State.comingDemand_light {n : Nat} (hn : n < 8) (s : State) : (s.comingDemand n).light n = s.light n := by
  unfold State.comingDemand
  split
  · exact State.setF_light hn (by simp) _ _
  · rfl

theorem State.noShot_light {n : Nat} (hn : n < 8) (s : State) : (s.noShot n).light n = s.light n := by
  unfold State.noShot
  rw [State.comingDemand_light hn]
  exact State.setStr_light s rfl

theorem State.schedule_light {n : Nat} (hn : n < 8) (s : State) : (s.schedule n).light n = s.light n := by
  have hdemand (p : State) (x : StrSt) (v : Nat) (h : x.lastFire = (p.str n).lastFire) : ((p.setStr n x).setF (Fld.EMIT_DAC_DEMAND n) v).light n = p.light n :=
    (State.setF_light hn (by simp) _ _).trans (State.setStr_light p h)
  unfold State.schedule
  split
  · exact State.setStr_light s rfl
  · split
    · exact hdemand _ _ _ rfl
    · dsimp only
      split
      · split
        · exact (hdemand _ _ _ (by rfl)).trans (State.dropDark_light s n)
        · have hdrop := foldl_light (fun s (q : PShot) => State.reduceEntry_light s q.entry 6 n) ((s.dropDark n).str n).queue (s.dropDark n)
          rw [State.noShot_light hn, State.setStr_light, hdrop, State.dropDark_light]
          exact (State.lastFire_of_light hdrop).symm
      · split
        · exact (hdemand _ _ _ (by rfl)).trans (State.dropDark_light s n)
        · rw [State.noShot_light hn, State.dropDark_light]

theorem State.scheduleD_light {n : Nat} (hn : n < 8) (s : State) : (s.scheduleD n).light n = s.light n := by
  have hrelatch (p : State) : p.emxRelatch.light n = p.light n := rfl
  unfold State.scheduleD State.demandTarget
  rw [hrelatch, State.setF_light hn (by simp), State.schedule_light hn]

theorem State.takeSlot_light (s : State) (n : Nat) : (s.takeSlot n).light n = s.light n := by
  unfold State.takeSlot
  dsimp only
  split
  · rfl
  · next p q hq =>
    have hdrop := State.reduceEntry_light s p.entry 6 n
    rw [State.setStr_light, hdrop]
    exact (State.lastFire_of_light hdrop).symm

theorem State.isoPlace_light {n : Nat} (hn : n < 8) (s : State) (stage bits : Nat) : (s.isoPlace n stage bits).light n = s.light n := by
  unfold State.isoPlace
  dsimp only
  rw [State.scheduleD_light hn]
  exact (State.setStr_light _ (by rfl)).trans (State.takeSlot_light s n)

theorem State.plannedOver_light {n : Nat} (hn : n < 8) (s : State) (y : NextShot) : (s.plannedOver n y).light n = s.light n := by
  unfold State.plannedOver
  dsimp only
  rw [State.scheduleD_light hn]
  exact (State.setStr_light _ (by rfl)).trans (State.setF_light hn (by simp) s _)

/-! # FIRE while it is inhibited (R34, R44, R89, R108, R253) -/

theorem State.fireInhibited_of_emittersOff {s : State} (h : s.emittersOff = true) (n : Nat) : s.fireInhibited n = true := by
  simp only [State.emittersOff, Bool.or_eq_true] at h
  unfold State.fireInhibited
  rcases h with (((hdev | hlock) | htrip) | hhard) | hplla
  · simp [hdev]
  · simp [hlock]
  · simp [htrip]
  · simp [hhard]
  · simp [hplla]

/-- FIRE of a string whose outputs are inhibited: the shot is given up, and the string's next one is chosen. -/
def State.shotDropped (s : State) (n t : Nat) (y : NextShot) : State :=
  let tf := if y.kind = .probe then s.clearOfLatch (max t y.t) else y.t
  match y.kind with
  | .planned i => (if y.ready != some false && y.admitted != some false then s.reduceEntry i 6 else s).plannedOver n y
  | .probe => (s.setStr n { s.str n with prevT := some tf, next := none }).scheduleD n
  | .iso k => (s.setStr n { s.str n with prevT := some tf, next := none }).isoPlace n k (((s.str n).iso.map (·.bits)).getD 0)

theorem execFire_inhibited {n : Nat} {s : State} {y : NextShot} (hnext : (s.str n).next = some y) (h : s.fireInhibited n = true) (t : Nat) :
    execFire n t s = .next (s.shotDropped n t y) := by
  unfold execFire State.shotDropped
  rw [hnext]
  dsimp only
  simp only [h, Bool.not_true, Bool.and_false, State.raiseIf, Bool.false_eq_true, if_false]
  cases y.kind <;> rfl

theorem State.shotDropped_light {n : Nat} (hn : n < 8) (s : State) (t : Nat) (y : NextShot) : (s.shotDropped n t y).light n = s.light n := by
  unfold State.shotDropped
  cases y.kind with
  | planned i =>
    dsimp only
    rw [State.plannedOver_light hn]
    split
    · exact State.reduceEntry_light s i 6 n
    · rfl
  | probe =>
    dsimp only
    rw [State.scheduleD_light hn]
    exact State.setStr_light s rfl
  | iso k =>
    dsimp only
    rw [State.isoPlace_light hn]
    exact State.setStr_light s rfl

theorem fire_inhibited (n x : Nat) (s : State) (hn : n < 8) (h : s.fireInhibited n = true) : Answers (.fire n x) s (fun t => t.light n = s.light n) := by
  cases hnext : (s.str n).next with
  | none =>
    refine ⟨s, ?_, rfl⟩
    change execFire n x s = _
    simp [execFire, hnext]
  | some y => exact ⟨s.shotDropped n x y, execFire_inhibited hnext h x, State.shotDropped_light hn s x y⟩

/-- Settles O25: what locks the emitters off inhibits FIRE, and an inhibited shot leaves `State.light` as it was. -/
theorem noLightWhenOff : Obligations.NoLightWhenOff := by
  intro n x s hn hoff
  obtain ⟨t, ht, hlight⟩ := fire_inhibited n x s hn (State.fireInhibited_of_emittersOff hoff n)
  simp only [State.light, Prod.mk.injEq] at hlight
  obtain ⟨hshots, hledger, hhanded, hclus, hlast⟩ := hlight
  exact ⟨t, ht, hshots, hledger, hhanded, hclus, hlast⟩

end Sys2Proof.Machine
end

section
namespace Sys2Proof.Machine

/-! # What a change of the device state keeps (R59, R298) -/

/-- What the statement on PARK and SEAL_N speaks of besides the device state: the lock of PLLB, the SAFE causes, the wake-up, the pins and the Tun. -/
structure ParkView where
  pllb : Bool
  safeCause : Nat
  wake : Bool
  pins : PinSt
  tun : SMap (BitVec 16)

/-- The part of a state that `ParkView` names. -/
def State.parkView (s : State) : ParkView :=
  { pllb := s.b Fld.CLK_STATUS_PLLB_LOCK, safeCause := s.f Fld.AMP_STATE_SAFE_CAUSE, wake := s.parkWake, pins := s.pins, tun := s.tun }

/-- A field that shares no bit with the two that `State.parkView` shows. -/
def Fld.offPark (F : Fld) : Bool := F.fits && Fld.CLK_STATUS_PLLB_LOCK.apart F && Fld.AMP_STATE_SAFE_CAUSE.apart F

/-- A cause whose bit and counter share no bit with the two that `State.parkView` shows. -/
def Cause.offPark (c : Cause) : Bool := c.fld.offPark && c.cnt.offPark

theorem State.parkView_congr {s t : State} (hb : t.b Fld.CLK_STATUS_PLLB_LOCK = s.b Fld.CLK_STATUS_PLLB_LOCK)
    (hf : t.f Fld.AMP_STATE_SAFE_CAUSE = s.f Fld.AMP_STATE_SAFE_CAUSE) (hw : t.parkWake = s.parkWake) (hp : t.pins = s.pins) (ht : t.tun = s.tun) :
    t.parkView = s.parkView := by
  simp only [State.parkView, hb, hf, hw, hp, ht]

theorem State.parkView_eq {s : State} {v : ParkView} (h : s.parkView = v) :
    s.b Fld.CLK_STATUS_PLLB_LOCK = v.pllb ∧ s.f Fld.AMP_STATE_SAFE_CAUSE = v.safeCause ∧ s.parkWake = v.wake ∧ s.pins = v.pins ∧ s.tun = v.tun := by
  subst h
  exact ⟨rfl, rfl, rfl, rfl, rfl⟩

theorem State.parkView_ite (c : Prop) [Decidable c] (a b : State) : (if c then a else b).parkView = if c then a.parkView else b.parkView := by
  split <;> rfl

theorem foldl_parkView {α : Type} {g : State → α → State} {l : List α} (h : ∀ s, ∀ x ∈ l, (g s x).parkView = s.parkView) (s : State) :
    (l.foldl g s).parkView = s.parkView := by
  induction l generalizing s with
  | nil => rfl
  | cons x l ih =>
    rw [List.foldl_cons, ih (fun s y hy => h s y (List.mem_cons_of_mem _ hy)), h s x List.mem_cons_self]

/-! ## Single updates -/

@[simp] theorem State.setF_parkView {F : Fld} (h : F.offPark = true) (s : State) (x : Nat) : (s.setF F x).parkView = s.parkView := by
  simp only [Fld.offPark, Bool.and_eq_true] at h
  obtain ⟨⟨hfits, hpllb⟩, hsafe⟩ := h
  exact State.parkView_congr (State.b_setF_apart s _ F x hfits hpllb) (State.f_setF_apart s _ F x hfits hsafe) rfl rfl rfl
@[simp] theorem State.setB_parkView {F : Fld} (h : F.offPark = true) (s : State) (p : Bool) : (s.setB F p).parkView = s.parkView := State.setF_parkView h s _
@[simp] theorem State.incSat_parkView {F : Fld} (h : F.offPark = true) (s : State) (n : Nat) : (s.incSat F n).parkView = s.parkView := State.setF_parkView h s _
@[simp] theorem State.incMod_parkView {F : Fld} (h : F.offPark = true) (s : State) (n : Nat) : (s.incMod F n).parkView = s.parkView := State.setF_parkView h s _
@[simp] theorem State.raise_parkView {c : Cause} (h : c.offPark = true) (s : State) : (s.raise c).parkView = s.parkView := by
  simp only [Cause.offPark, Bool.and_eq_true] at h
  rw [State.raise_eq, State.setF_parkView h.1, State.incSat_parkView h.2]

@[simp] theorem State.withDev_parkView (s : State) (x : Dev) : (s.withDev x).parkView = s.parkView := (rfl)
@[simp] theorem State.withNvm_parkView (s : State) (x : Nvm) : (s.withNvm x).parkView = s.parkView := (rfl)
@[simp] theorem State.withRst_parkView (s : State) (x : RstSt) : (s.withRst x).parkView = s.parkView := (rfl)
@[simp] theorem State.withScan_parkView (s : State) (x : ScanSt) : (s.withScan x).parkView = s.parkView := (rfl)
@[simp] theorem State.withGuard_parkView (s : State) (x : GuardSt) : (s.withGuard x).parkView = s.parkView := (rfl)
@[simp] theorem State.withCask_parkView (s : State) (x : CaskSt) : (s.withCask x).parkView = s.parkView := (rfl)
@[simp] theorem State.withAmp_parkView (s : State) (x : AmpSt) : (s.withAmp x).parkView = s.parkView := (rfl)
@[simp] theorem State.withLines_parkView (s : State) (x : SMap Nat) : (s.withLines x).parkView = s.parkView := (rfl)
@[simp] theorem State.withCtl_parkView (s : State) (x : CtlSt) : (s.withCtl x).parkView = s.parkView := (rfl)
@[simp] theorem State.setCore_parkView (s : State) (c : Nat) (x : CoreSt) : (s.setCore c x).parkView = s.parkView := (rfl)
@[simp] theorem State.setEth_parkView (s : State) (p : Nat) (x : EthSt) : (s.setEth p x).parkView = s.parkView := (rfl)

@[simp] theorem State.nvmPush_parkView (s : State) (w : NvmWrite) : (s.nvmPush w).parkView = s.parkView := by
  obtain ⟨n, hn⟩ := State.nvmKick_form (s.withNvm { s.nvm with work := s.nvm.work ++ [w] })
  exact (congrArg State.parkView hn).trans rfl
@[simp] theorem State.logEvent_parkView (s : State) (c : Nat) (x y : Word) : (s.logEvent c x y).parkView = s.parkView := by
  obtain ⟨n, r, h⟩ := State.logEvent_form s c x y
  exact State.parkView_congr (State.b_logEvent s c x y _ (by decide)) (State.f_logEvent s c x y _ (by decide)) (by rw [h]) (by rw [h]) (by rw [h])

/-! ## A change of the device state -/

@[simp] theorem State.soutOff_parkView (s : State) : s.soutOff.parkView = s.parkView := by
  unfold State.soutOff
  split
  · simp (disch := decide)
  · rfl
@[simp] theorem State.guardFollow_parkView (s : State) : s.guardFollow.parkView = s.parkView := by
  unfold State.guardFollow
  split <;> simp
@[simp] theorem State.lockFollow_parkView (s : State) : s.lockFollow.parkView = s.parkView := by
  unfold State.lockFollow
  split <;> simp (disch := decide)
@[simp] theorem State.pllaFollow_parkView (s : State) : s.pllaFollow.parkView = s.parkView := by
  unfold State.pllaFollow
  split <;> simp (disch := decide)
@[simp] theorem State.vspadFollow_parkView (s : State) : s.vspadFollow.parkView = s.parkView := by
  unfold State.vspadFollow
  split <;> simp (disch := decide)

theorem State.rset_guardCrc_parkView (s : State) (v : Word) : (s.rset Reg.GUARD_CRC v).parkView = s.parkView :=
  State.parkView_congr (State.b_eq _ _ _ (State.rget_rset_ne _ _ _ _ (by decide))) (State.f_eq _ _ _ (State.rget_rset_ne _ _ _ _ (by decide))) rfl rfl rfl
@[simp] theorem State.changeAbort_parkView (s : State) (uid : Nat) : (s.changeAbort uid).1.parkView = s.parkView := by
  unfold State.changeAbort
  split
  · rfl
  · dsimp only
    split
    · rw [State.nvmPush_parkView, State.rset_guardCrc_parkView, State.setB_parkView (by decide)]
    · exact State.setB_parkView (by decide) s _
@[simp] theorem State.endSession_parkView (s : State) : s.endSession.parkView = s.parkView := by
  unfold State.endSession
  split
  · rfl
  · dsimp only
    split <;> simp
@[simp] theorem State.caskRefuse_parkView (s : State) : s.caskRefuse.parkView = s.parkView := by
  simp (disch := decide) only [State.caskRefuse, State.parkView_ite, State.logEvent_parkView, State.withCask_parkView, State.raise_parkView, State.incSat_parkView,
    ite_self]
@[simp] theorem State.lrsOwn_parkView (s : State) (first : Bool) (kind : Nat) (data : List Word) : (s.lrsOwn first kind data).parkView = s.parkView := by
  unfold State.lrsOwn
  split <;> rfl
@[simp] theorem State.serviceLeave_parkView (s : State) : s.serviceLeave.parkView = s.parkView := by
  unfold State.serviceLeave
  simp only [State.parkView_ite, State.lrsOwn_parkView, ite_self]
  exact foldl_parkView (fun s _ _ => State.caskRefuse_parkView s) _
@[simp] theorem State.setDev_parkView (s : State) (d : Dev) : (s.setDev d).parkView = s.parkView := by
  unfold State.setDev
  split
  · rfl
  · simp (disch := decide)

/-- What follows from a change of the device state leaves `ParkView` as it was. -/
@[simp] theorem State.toState_parkView (s : State) (d : Dev) : (s.toState d).parkView = s.parkView := by
  have hpend : Fld.AMP_STATE_PEND_START.offPark = true := by decide
  have henter (p : State) : p.serviceEnter.parkView = p.parkView := rfl
  simp only [State.toState, State.guardFollow_parkView, State.vspadFollow_parkView, State.pllaFollow_parkView, State.lockFollow_parkView, State.parkView_ite,
    henter, State.setB_parkView hpend, State.setDev_parkView, State.serviceLeave_parkView, State.endSession_parkView, ite_self]

theorem State.setDev_dev (s : State) (d : Dev) : (s.setDev d).dev = d := by
  unfold State.setDev
  split
  · assumption
  · rfl

/-- After a change of the device state, that state holds (R295). -/
theorem State.toState_dev (s : State) (d : Dev) : (s.toState d).dev = d := by
  have henter (p : State) : p.serviceEnter.dev = p.dev := rfl
  unfold State.toState
  split
  · assumption
  · simp only [State.guardFollow_dev, State.vspadFollow_dev, State.pllaFollow_dev, State.lockFollow_dev, State.dev_ite, henter, State.setB_dev, State.setDev_dev,
      ite_self]

/-! ## The loops at PARK entry, the cores and the AMP agent at PARK exit -/

theorem Fld.loop_offPark : ∀ n < 8, (Fld.CTL_LINT_I n).offPark = true ∧ (Fld.CTL_LSP_SPS n).offPark = true := by decide

theorem State.drive_parkView (s : State) (n v : Nat) : (s.drive n v).parkView = s.parkView := by
  unfold State.drive
  split <;> rfl

theorem State.loopRun_parkView {n : Nat} (hn : n < 8) (s : State) : (s.loopRun n).parkView = s.parkView := by
  obtain ⟨hint, hsps⟩ := Fld.loop_offPark n hn
  have hrun : Fld.CTL_STAT_RUN.offPark = true := by decide
  simp only [State.loopRun, State.parkView_ite, State.withCtl_parkView, State.setF_parkView hint, State.setF_parkView hsps, State.setF_parkView hrun,
    State.drive_parkView, ite_self]

theorem State.loopsPark_parkView (s : State) : s.loopsPark.parkView = s.parkView :=
  foldl_parkView (fun s _ hn => State.loopRun_parkView (List.mem_range.1 hn) s) s

theorem Fld.coreStart_offPark : ∀ c < 2, (Fld.DSP_STAT_START c).offPark = true ∧ (Fld.DSP_WDTCNT_LEFT c).offPark = true := by decide

theorem State.coreStart_parkView {c : Nat} (hc : c < 2) (s : State) (cause : Nat) : (s.coreStart c cause).parkView = s.parkView := by
  obtain ⟨hstart, hleft⟩ := Fld.coreStart_offPark c hc
  simp only [State.coreStart, State.wdtReload, State.parkView_ite, State.setF_parkView hleft, State.setF_parkView hstart, State.withLines_parkView,
    State.setCore_parkView, ite_self]

theorem Fld.ethTxBusy_offPark (p : Nat) : (Fld.ETH_TXSTAT_BUSY p).offPark = true := by
  have hclk : 0x20010 ≠ 0xF0074 + 0x10000 * p := by omega
  have hamp : 0x130004 ≠ 0xF0074 + 0x10000 * p := by omega
  simp [Fld.offPark, Fld.fits, Fld.apart, Fld.ETH_TXSTAT_BUSY, Fld.CLK_STATUS_PLLB_LOCK, Fld.AMP_STATE_SAFE_CAUSE, hclk, hamp]

theorem State.ethPush_parkView (s : State) (p : Nat) (f : TxFr) : (s.ethPush p f).parkView = s.parkView := by
  unfold State.ethPush State.ethKick
  dsimp only
  split
  · rfl
  · split <;> rfl

theorem State.ethSend_parkView (s : State) (p : Nat) (f : TxFr) : (s.ethSend p f).parkView = s.parkView := by
  have hopen : (s.ipOpen f).1.parkView = s.parkView := by
    unfold State.ipOpen
    split <;> rfl
  have hseq : Fld.PRP_SEQ_SEQ.offPark = true := by decide
  unfold State.ethSend
  simp only [State.parkView_ite, State.setB_parkView (Fld.ethTxBusy_offPark p), State.ethPush_parkView, State.incMod_parkView hseq, hopen, ite_self]

theorem State.arpAsk_parkView (s : State) (p ip : Nat) : (s.arpAsk p ip).parkView = s.parkView := by
  unfold State.arpAsk
  dsimp only
  split
  · rfl
  · rw [State.ethSend_parkView, State.setEth_parkView]

theorem State.ampSend_parkView (s : State) (r : AmpReq) (m : List Byte) : (s.ampSend r m).parkView = s.parkView := by
  unfold State.ampSend
  dsimp only
  split
  · simp only [State.parkView_ite, State.ethSend_parkView, State.arpAsk_parkView, State.withAmp_parkView, ite_self]
  · unfold State.sidePush
    split <;> rfl
  · simp (disch := decide)

theorem State.ampSettle_parkView (n : Nat) (s : State) : (State.ampSettle n s).parkView = s.parkView := by
  have hcnt : Fld.AMP_CNT2_WRONGST.offPark = true := by decide
  induction n generalizing s with
  | zero => rfl
  | succ n ih =>
    unfold State.ampSettle State.ampAnswer
    split
    · rfl
    · split
      · rfl
      · split
        · rfl
        · dsimp only
          rw [ih]
          split <;> simp only [State.ampSend_parkView, State.parkView_ite, State.incSat_parkView hcnt, State.withAmp_parkView, ite_self]

theorem State.ampGo_parkView (s : State) : s.ampGo.parkView = s.parkView := State.ampSettle_parkView _ s

/-! # PARK entry (R32, R34, R59) -/

/-- With scanning over, the pin test of the PARK entry begins. -/
def State.parkTestStart (s : State) : State := ((s.withScan { s.scan with leave := 0 }).withPins { s.pins with parkTest := true }).setB Fld.TOP_PINTEST_BUSY true

theorem execParkEnter_due {s : State} (hdev : s.dev = .scan ∨ s.dev = .idle) (hleave : s.scan.leave = 3) (x : Nat) :
    execParkEnter x s = .next (if s.dev = .scan then (s.scanOff x true).toState .idle else s.endSession).parkTestStart := by
  unfold execParkEnter
  rw [if_pos (by simpa [hleave] using hdev)]
  rfl

theorem parkEnter_startsPinTest (x : Nat) (s : State) (hdev : s.dev = .scan ∨ s.dev = .idle) (hleave : s.scan.leave = 3) :
    Answers (.parkEnter x) s (fun t => t.dev = .idle ∧ t.pins.parkTest = true ∧ t.b Fld.TOP_PINTEST_BUSY = true ∧ t.scan.leave = 0) := by
  have hstart (p : State) (h : p.dev = .idle) : p.parkTestStart.dev = .idle ∧ p.parkTestStart.pins.parkTest = true ∧
      p.parkTestStart.b Fld.TOP_PINTEST_BUSY = true ∧ p.parkTestStart.scan.leave = 0 :=
    ⟨h, rfl, State.b_setB_self _ _ _ (by decide) (by decide), rfl⟩
  refine ⟨_, execParkEnter_due hdev hleave x, hstart _ ?_⟩
  split
  · exact State.toState_dev _ _
  · next hscan => exact (State.endSession_dev s).trans (hdev.resolve_left hscan)

/-- A run without a failing unit changes TOP_PINTEST only, and ends without a lock. -/
theorem State.pinResult_passed (s : State) : s.pinResult [] =
    (((s.incMod Fld.TOP_PINTEST_RUNS 1).setB Fld.TOP_PINTEST_BUSY false).setF Fld.TOP_PINTEST_FAIL_UNIT 0x1F).setB Fld.TOP_PINTEST_LOCK false := rfl

theorem execPinTestDone_parks {steps : List (BitVec 22)} {offs cross : BitVec 2} {s : State} (hbusy : s.b Fld.TOP_PINTEST_BUSY = true) (hdev : s.dev = .idle)
    (hpark : s.pins.parkTest = true) (hpass : pinFails steps offs cross = []) : execPinTestDone steps offs cross s = .next (s.pinResult []).parkEnter := by
  have hlock : (s.pinResult []).b Fld.TOP_PINTEST_LOCK = false := by
    rw [State.pinResult_passed]
    exact State.b_setB_self _ _ _ (by decide) (by decide)
  have hpins : (s.pinResult []).pins = s.pins := by
    rw [State.pinResult_passed]
    simp
  unfold execPinTestDone
  rw [if_neg (by simp [hbusy]), hpass]
  dsimp only
  rw [if_neg (by simp [hlock]), if_pos (by simp [hpins, hpark, hdev])]

/-- The device is in PARK: both PLLs have stopped, and the Tun has lost its content. -/
theorem State.parkEnter_spec (s : State) : s.parkEnter.dev = .park ∧ s.parkEnter.b Fld.CLK_STATUS_PLLA_LOCK = false ∧
    s.parkEnter.b Fld.CLK_STATUS_PLLB_LOCK = false ∧ s.parkEnter.tun = [] ∧ s.parkEnter.pins.parkTest = false := by
  have hfast (p : State) {F : Fld} (h : F.apart Fld.THERM_STAT_FAST = true) : (p.setB Fld.THERM_STAT_FAST false).b F = p.b F :=
    State.b_setB_apart p F _ _ (by decide) h
  have hkeep (p : State) : (p.toState .park).loopsPark.parkView = p.parkView := (State.loopsPark_parkView _).trans (State.toState_parkView p .park)
  unfold State.parkEnter
  dsimp only
  refine ⟨?_, ?_, ?_, ?_, ?_⟩
  · simp only [State.setB_dev, State.loopsPark_dev, State.toState_dev]
  · rw [hfast _ (by decide), State.b_setB_apart _ _ _ _ (by decide) (by decide), State.b_setB_self _ _ _ (by decide) (by decide)]
  · rw [hfast _ (by decide), State.b_setB_self _ _ _ (by decide) (by decide)]
  · exact congrArg ParkView.tun (hkeep _)
  · exact congrArg (fun v => v.pins.parkTest) (hkeep _)

theorem pinTestDone_parks (steps : List (BitVec 22)) (offs cross : BitVec 2) (s : State) (hbusy : s.b Fld.TOP_PINTEST_BUSY = true) (hdev : s.dev = .idle)
    (hpark : s.pins.parkTest = true) (hpass : pinFails steps offs cross = []) :
    Answers (.pinTestDone steps offs cross) s (fun t => t.dev = .park ∧ t.b Fld.CLK_STATUS_PLLA_LOCK = false ∧ t.b Fld.CLK_STATUS_PLLB_LOCK = false ∧ t.tun = [] ∧
      t.pins.parkTest = false) :=
  ⟨_, execPinTestDone_parks hbusy hdev hpark hpass, State.parkEnter_spec _⟩

/-! # PARK exit (R59, R297, R298) -/

/-- The device has left PARK for IDLE, its cores started again; the SAFE causes have not acted yet. -/
def State.parkLeft (s : State) : State :=
  let s := (s.withParkWake false).withPins { s.pins with parkIrq := none }
  let s := ((s.setB Fld.CLK_STATUS_PLLB_LOCK true).eyeRestart).toState .idle
  [0, 1].foldl (fun s c => if (s.core c).mode = 5 then s.coreStart c 2 else s) s

theorem State.parkLeft_dev (s : State) : s.parkLeft.dev = .idle := by
  unfold State.parkLeft
  dsimp only
  rw [foldl_dev _ (fun s c => by simp only [State.dev_ite, State.coreStart_dev, ite_self]), State.toState_dev]

theorem State.parkLeft_parkView (s : State) :
    s.parkLeft.parkView = { s.parkView with pllb := true, wake := false, pins := { s.pins with parkIrq := none } } := by
  have heye (p : State) : p.eyeRestart.parkView = p.parkView := State.setB_parkView (F := Fld.KILN_EYEFLAG_INIT) (by decide) _ _
  have hstart (p : State) : ∀ c ∈ [0, 1], (if (p.core c).mode = 5 then p.coreStart c 2 else p).parkView = p.parkView := by
    intro c hc
    split
    · exact State.coreStart_parkView (by simp at hc; omega) p 2
    · rfl
  have hpllb (p : State) : (p.setB Fld.CLK_STATUS_PLLB_LOCK true).parkView = { p.parkView with pllb := true } := by
    simp only [State.parkView, State.b_setB_self p Fld.CLK_STATUS_PLLB_LOCK true (by decide) (by decide),
      State.f_setB_apart p Fld.AMP_STATE_SAFE_CAUSE Fld.CLK_STATUS_PLLB_LOCK true (by decide) (by decide)]
    rfl
  unfold State.parkLeft
  dsimp only
  rw [foldl_parkView hstart, State.toState_parkView, heye, hpllb]
  rfl

/-- A SAFE cause acts at the exit: the device goes on to SAFE, with the causes in the log. -/
def State.parkLeftSafe (s : State) : State :=
  (s.parkLeft.logEvent 0x0040 (BitVec.ofNat 32 (s.parkLeft.f Fld.AMP_STATE_SAFE_CAUSE)) 0).toState .safe

theorem execParkExit_woken {s : State} (hdev : s.dev = .park) (hwake : s.parkWake = true) :
    execParkExit s = if s.parkLeft.f Fld.AMP_STATE_SAFE_CAUSE != 0 then .next s.parkLeftSafe.ampGo else .next s.parkLeft.ampGo := by
  unfold execParkExit
  rw [if_pos (by simp [hdev, hwake])]
  rfl

theorem parkExit_idle (s : State) (hdev : s.dev = .park) (hwake : s.parkWake = true) (hsafe : s.f Fld.AMP_STATE_SAFE_CAUSE = 0) :
    Answers .parkExit s (fun t => t.dev = .idle ∧ t.parkWake = false ∧ t.b Fld.CLK_STATUS_PLLB_LOCK = true) := by
  obtain ⟨-, hcause, -⟩ := State.parkView_eq (State.parkLeft_parkView s)
  obtain ⟨hpllb, -, hasleep, -⟩ := State.parkView_eq ((State.ampGo_parkView s.parkLeft).trans (State.parkLeft_parkView s))
  refine ⟨s.parkLeft.ampGo, (execParkExit_woken hdev hwake).trans (if_neg ?_), (State.ampGo_dev _).trans (State.parkLeft_dev s), hasleep, hpllb⟩
  rw [hcause]
  simpa [State.parkView] using hsafe

theorem parkExit_safe (s : State) (hdev : s.dev = .park) (hwake : s.parkWake = true) (hsafe : s.f Fld.AMP_STATE_SAFE_CAUSE ≠ 0) :
    Answers .parkExit s (fun t => t.dev = .safe ∧ t.parkWake = false) := by
  have hview : s.parkLeftSafe.parkView = s.parkLeft.parkView := (State.toState_parkView _ _).trans (State.logEvent_parkView _ _ _ _)
  obtain ⟨-, hcause, -⟩ := State.parkView_eq (State.parkLeft_parkView s)
  obtain ⟨-, -, hasleep, -⟩ := State.parkView_eq (((State.ampGo_parkView s.parkLeftSafe).trans hview).trans (State.parkLeft_parkView s))
  refine ⟨s.parkLeftSafe.ampGo, (execParkExit_woken hdev hwake).trans (if_pos ?_), (State.ampGo_dev _).trans (State.toState_dev _ _), hasleep⟩
  rw [hcause]
  simpa [State.parkView] using hsafe

theorem parkExit_stays (s : State) (h : s.dev ≠ .park ∨ s.parkWake = false) : Answers .parkExit s (fun t => t = s) := by
  refine ⟨s, ?_, rfl⟩
  change execParkExit s = _
  rcases h with h | h <;> simp [execParkExit, h]

/-! # SEAL_N (R29, R297) -/

theorem sealNChange_accepted (low : Bool) (s : State) (h : s.dev ≠ .service ∨ low = false) :
    Answers (.sealNChange low) s (fun t => t.pins.sealedLow = low ∧ { t with pins := s.pins } = s) := by
  refine ⟨s.withPins { s.pins with sealedLow := low }, ?_, rfl, rfl⟩
  change execSealNChange low s = _
  rcases h with h | h <;> simp [execSealNChange, h]

theorem sealNChange_endsService (s : State) (hdev : s.dev = .service) :
    Answers (.sealNChange true) s (fun t => t.pins.sealedLow = true ∧ t.dev = .idle) := by
  refine ⟨(s.withPins { s.pins with sealedLow := true }).toState .idle, ?_, ?_, State.toState_dev _ _⟩
  · change execSealNChange true s = _
    simp [execSealNChange, hdev]
  · exact congrArg (fun v => v.pins.sealedLow) (State.toState_parkView (s.withPins { s.pins with sealedLow := true }) .idle)

/-- Settles O17: PARK's entry by way of the pin test, its exit with and without a SAFE cause, and SEAL_N in SERVICE and elsewhere. -/
theorem parkAndSeal : Obligations.ParkAndSeal := by
  unfold Obligations.ParkAndSeal
  exact ⟨parkEnter_startsPinTest, pinTestDone_parks, parkExit_idle, parkExit_safe, parkExit_stays, sealNChange_accepted, sealNChange_endsService⟩

end Sys2Proof.Machine
end

section
namespace Sys2Proof.Machine

/-! # State.reset (R38, R51, R378) -/

/-- Settles O3: the fields of `State.reset` are the ones claimed, and BOOT with the phase `off` meets the invariant. -/
theorem resetState : Obligations.ResetState := by
  unfold Obligations.ResetState
  refine ⟨rfl, rfl, rfl, fun a => rfl, rfl, rfl, by decide +kernel, rfl, ?_⟩
  unfold State.bootOk
  simp [State.reset]

end Sys2Proof.Machine
end

section
namespace Sys2Proof.Machine

/-! # The registers of a filtered register file -/

/-- Of the register file only the registers that `p` picks are kept; the others return to their reset value. -/
theorem State.rget_filter (s : State) (p : Nat → Bool) (a : Nat) :
    State.rget { s with regs := s.regs.filter (fun (q : Nat × Word) => p q.1) } a = if p a then s.rget a else regReset a :=
  SMap.get_filter _ _ p a


/-! # VIN (R37, R38, R51) -/

/-- The power-on reset after a rise of VIN has judged the backup domain and its first rail is enabled. -/
def State.vinJudged (s : State) : State :=
  let s1 := s.setB Fld.PWR_STATUS_VIN_OK true
  let s2 : State := if s.rst.bkpLost then { s1 with regs := s1.regs.filter (fun (p : Nat × Word) => !backupReg p.1) } else s1
  let s3 := s2.setB Fld.RST_STATUS_BKP_LOST s.rst.bkpLost
  if s.rst.porDue then s3.incMod Fld.RST_COUNT_COUNT 1 else s3

theorem execVinRise_off {s : State} (h : s.rst.phase = .off) :
    execVinRise s = .next (s.vinJudged.withRst { s.vinJudged.rst with phase := .rails 1, active := some 0, activeSrc := 1, porDue := false, bkpLost := false }) := by
  unfold execVinRise
  rw [if_neg (by simp [h])]
  rfl

theorem State.vinJudged_flags (s : State) : s.vinJudged.b Fld.PWR_STATUS_VIN_OK = true ∧ s.vinJudged.b Fld.RST_STATUS_BKP_LOST = s.rst.bkpLost := by
  have hcount (t : State) (F : Fld) (h : F.apart Fld.RST_COUNT_COUNT = true) : (if s.rst.porDue then t.incMod Fld.RST_COUNT_COUNT 1 else t).b F = t.b F := by
    split
    · exact State.b_incMod_apart t F _ 1 (by decide) h
    · rfl
  unfold State.vinJudged
  refine ⟨?_, (hcount _ _ (by decide)).trans (State.b_setB_self _ _ _ (by decide) (by decide))⟩
  rw [hcount _ _ (by decide), State.b_setB_apart _ _ _ _ (by decide) (by decide)]
  have hset := State.b_setB_self s Fld.PWR_STATUS_VIN_OK true (by decide) (by decide)
  split
  · exact (State.b_eq _ _ _ (State.rget_filter (s.setB Fld.PWR_STATUS_VIN_OK true) (fun a => !backupReg a) Reg.PWR_STATUS)).trans hset
  · exact hset

theorem vinRise_off (s : State) (h : s.rst.phase = .off) :
    Answers .vinRise s (fun t => t.b Fld.PWR_STATUS_VIN_OK = true ∧ t.b Fld.RST_STATUS_BKP_LOST = s.rst.bkpLost ∧ t.rst.phase = .rails 1 ∧
      t.rst.active = some 0 ∧ t.rst.activeSrc = 1) :=
  ⟨_, execVinRise_off h, (State.vinJudged_flags s).1, (State.vinJudged_flags s).2, rfl, rfl, rfl⟩

theorem vinRise_on (s : State) (h : s.rst.phase ≠ .off) :
    Answers .vinRise s (fun t => t.b Fld.PWR_STATUS_VIN_OK = true ∧ State.regsBut [Reg.PWR_STATUS] s t ∧ { t with regs := s.regs } = s) := by
  refine ⟨s.setB Fld.PWR_STATUS_VIN_OK true, ?_, State.b_setB_self s _ _ (by decide) (by decide), State.regsBut_setB _ _ (State.regsBut_refl _ s) (by decide), by simp⟩
  change execVinRise s = _
  unfold execVinRise
  rw [if_pos (by simp [h])]

theorem brownout_on (s : State) (h : s.rst.phase ≠ .off) :
    Answers .brownout s (fun t => t.b Fld.PWR_STATUS_VIN_OK = false ∧ t.rst.raised.testBit 1 = true ∧ State.regsBut [Reg.PWR_STATUS] s t ∧
      { t with regs := s.regs, rst := s.rst } = s) := by
  refine ⟨(s.setB Fld.PWR_STATUS_VIN_OK false).raiseReset 1, ?_, State.b_setB_self s _ _ (by decide) (by decide), State.raiseReset_raised _ 1, ?_,
    by simp [State.raiseReset]⟩
  · exact congrArg Host.Outcome.next (if_neg h)
  · exact State.regsBut_of (State.regsBut_setB _ _ (State.regsBut_refl _ s) (by decide)) rfl

/-! # POR (R38, Table 3.7) -/

/-- What is left of a state whose supply has gone: flash, NVM and, with VBAT, the backup domain. -/
def State.porLeft (s : State) (vbat : Bool) : State :=
  { pending := s.pending, freeCtr := s.freeCtr, now := s.now, flash := s.flash, nvm := s.nvm.atReset false,
    regs := s.regs.filter (fun (p : Nat × Word) => backupReg p.1 && vbat),
    rst := { porDue := s.rst.active.isNone, bkpLost := !vbat, railFail := s.rst.railFail } }

/-- PWR_FAULT alone, which a rail failure leaves, is set in what is left. -/
theorem execPor_form (vbat : Bool) {s : State} (h : s.rst.phase ≠ .off) :
    ∃ t, execPor vbat s = .next t ∧ State.regsBut [Reg.PWR_FAULT] (s.porLeft vbat) t ∧ { t with regs := (s.porLeft vbat).regs } = s.porLeft vbat := by
  unfold execPor
  rw [if_neg h]
  dsimp only
  refine ⟨_, rfl, ?_⟩
  split
  · exact ⟨State.regsBut_setF _ _ (State.regsBut_setB _ _ (State.regsBut_refl _ _) (by decide)) (by decide), rfl⟩
  · exact ⟨State.regsBut_refl _ _, rfl⟩

theorem State.rget_porLeft (s : State) (vbat : Bool) (a : Nat) : (s.porLeft vbat).rget a = if backupReg a && vbat then s.rget a else regReset a :=
  SMap.get_filter _ s.regs (fun a => backupReg a && vbat) a

theorem por_on (vbat : Bool) (s : State) (h : s.rst.phase ≠ .off) :
    Answers (.por vbat) s (fun t => t.rst.phase = .off ∧ t.mem = [] ∧ t.nvm.cur = none ∧ t.dev = .boot ∧
      (∀ a, a ≠ Reg.PWR_FAULT → (backupReg a && vbat) = true → t.rget a = s.rget a) ∧
      (∀ a, a ≠ Reg.PWR_FAULT → (backupReg a && vbat) = false → t.rget a = regReset a)) := by
  obtain ⟨t, ht, hregs, hrest⟩ := execPor_form vbat h
  have hread (a : Nat) (ha : a ≠ Reg.PWR_FAULT) : t.rget a = if backupReg a && vbat then s.rget a else regReset a :=
    (hregs a (by simpa using ha)).trans (State.rget_porLeft s vbat a)
  refine ⟨t, ht, congrArg (fun u => u.rst.phase) hrest, congrArg State.mem hrest, congrArg (fun u => u.nvm.cur) hrest, congrArg State.dev hrest, ?_, ?_⟩
  · exact fun a ha hkept => (hread a ha).trans (if_pos hkept)
  · exact fun a ha hlost => (hread a ha).trans (if_neg (by simp [hlost]))

/-! # The rails (R37, Tables 3.1 and 3.4) -/

theorem State.railOn_lt {s : State} {r : Nat} (h : s.railOn r = true) : r < 7 := by
  unfold State.railOn at h
  split at h
  · omega
  · simp only [Bool.and_eq_true, decide_eq_true_eq] at h
    omega

/-- Taking away a bit that is set clears it. -/
theorem Nat.testBit_clear (g r : Nat) : (g - if g.testBit r then 2 ^ r else 0).testBit r = false := by
  split
  · next h =>
    have hdiv : (g - 2 ^ r) / 2 ^ r = g / 2 ^ r - 1 := by simpa using Nat.sub_mul_div g (2 ^ r) 1
    simp only [Nat.testBit_eq_decide_div_mod_eq, decide_eq_true_eq, decide_eq_false_iff_not, hdiv] at h ⊢
    omega
  · next h => simpa using h

/-- A GOOD bit reads what was put there. -/
theorem State.setGood_testBit (s : State) {r : Nat} (hr : r < 7) (p : Bool) : ((s.setGood r p).f Fld.PWR_STATUS_GOOD).testBit r = p := by
  unfold State.setGood
  rw [State.f_setF_self _ _ _ (by decide), Nat.testBit_mod_two_pow, decide_eq_true (show r < Fld.PWR_STATUS_GOOD.w from hr), Bool.true_and]
  cases p with
  | false => exact Nat.testBit_clear _ r
  | true => exact State.testBit_or_pow _ r

theorem State.setGood_regsBut (s : State) (r : Nat) (p : Bool) : State.regsBut [Reg.PWR_STATUS] s (s.setGood r p) :=
  State.regsBut_setF _ _ (State.regsBut_refl _ s) (by decide)

/-- A good rail changes its GOOD bit and, at the end of a step of Table 3.1, the phase. -/
theorem execRailGood_form {r : Nat} {s : State} (h : s.railOn r = true) : ∃ x, execRailGood r s = .next ((s.setGood r true).withRst x) := by
  have hsame : s.setGood r true = (s.setGood r true).withRst s.rst := rfl
  unfold execRailGood
  rw [if_neg (by simp [h])]
  dsimp only
  split
  · split
    · exact ⟨_, rfl⟩
    · exact ⟨s.rst, congrArg _ hsame⟩
  · exact ⟨s.rst, congrArg _ hsame⟩

theorem railGood_on (r : Nat) (s : State) (h : s.railOn r = true) :
    Answers (.railGood r) s (fun t => (t.f Fld.PWR_STATUS_GOOD).testBit r = true ∧ State.regsBut [Reg.PWR_STATUS] s t ∧ { t with regs := s.regs, rst := s.rst } = s) := by
  obtain ⟨x, hx⟩ := execRailGood_form h
  exact ⟨_, hx, State.setGood_testBit s (State.railOn_lt h) true, State.regsBut_of (State.setGood_regsBut s r true) rfl, rfl⟩

theorem railGood_first (s : State) (h : s.rst.phase = .rails 1) :
    Answers (.railGood 0) s (fun t => t.rst.phase = .rails 2 ∧ (t.f Fld.PWR_STATUS_GOOD).testBit 0 = true ∧ State.regsBut [Reg.PWR_STATUS] s t ∧
      { t with regs := s.regs, rst := s.rst } = s) := by
  have hon : s.railOn 0 = true := by simp [State.railOn, h, railStep]
  have hgood := State.setGood_testBit s (r := 0) (by decide) true
  have hstep : stepRails 1 = [0] := by decide
  refine ⟨(s.setGood 0 true).withRst { s.rst with phase := .rails 2 }, ?_, rfl, hgood, State.regsBut_of (State.setGood_regsBut s 0 true) rfl, rfl⟩
  change execRailGood 0 s = _
  have hphase : (s.setGood 0 true).rst.phase = .rails 1 := h
  unfold execRailGood
  rw [if_neg (by simp [hon])]
  dsimp only
  rw [hphase]
  dsimp only
  rw [hstep, if_pos (by simp [hgood])]
  rfl

/-- PWR_STATUS and PWR_FAULT show the failure of rail `r`. -/
def State.railShown (s : State) (r : Nat) : State := ((s.setGood r false).raise Cause.PWR_RAIL_FAIL).setF Fld.PWR_FAULT_RAIL_ID r

/-- The failure of rail `r` is shown, and source 12 raised. -/
def State.railFailed (s : State) (r : Nat) : State := ((s.railShown r).withRst { s.rst with railFail := true }).raiseReset 12

theorem execRailFailure_on {r : Nat} {s : State} (h : s.railOn r = true) :
    execRailFailure r s = .next (if (s.railFailed r).rst.active = some 0 && (s.railFailed r).comingUp then (s.railFailed r).railsDown else s.railFailed r) := by
  unfold execRailFailure
  rw [if_neg (by simp [h])]
  rfl

theorem State.railShown_good (s : State) {r : Nat} (hr : r < 7) : ((s.railShown r).f Fld.PWR_STATUS_GOOD).testBit r = false := by
  unfold State.railShown
  rw [State.f_setF_apart _ _ _ _ (by decide) (by decide), State.f_raise_apart _ _ _ (by decide) (by decide) (by decide) (by decide)]
  exact State.setGood_testBit s hr false

theorem State.railShown_fault (s : State) {r : Nat} (hr : r < 7) :
    (s.railShown r).b Fld.PWR_FAULT_RAIL_FAIL = true ∧ (s.railShown r).f Fld.PWR_FAULT_RAIL_ID = r := by
  unfold State.railShown
  refine ⟨?_, ?_⟩
  · rw [State.b_setF_apart _ _ _ _ (by decide) (by decide)]
    exact State.b_raise_self _ Cause.PWR_RAIL_FAIL (by decide)
  · rw [State.f_setF_self _ _ _ (by decide)]
    exact Nat.mod_eq_of_lt (hr.trans (by decide))

/-- What the two registers show is not touched by the raising of source 12. -/
theorem State.railFailed_shows (s : State) {r : Nat} (hr : r < 7) : ((s.railFailed r).f Fld.PWR_STATUS_GOOD).testBit r = false ∧
    (s.railFailed r).b Fld.PWR_FAULT_RAIL_FAIL = true ∧ (s.railFailed r).f Fld.PWR_FAULT_RAIL_ID = r := by
  have hregs (a : Nat) : (s.railFailed r).rget a = (s.railShown r).rget a := by simp [State.railFailed, State.raiseReset, State.rget]
  obtain ⟨hfail, hid⟩ := State.railShown_fault s hr
  rw [State.f_eq _ _ _ (hregs Fld.PWR_STATUS_GOOD.addr), State.b_eq _ _ _ (hregs Fld.PWR_FAULT_RAIL_FAIL.addr), State.f_eq _ _ _ (hregs Fld.PWR_FAULT_RAIL_ID.addr)]
  exact ⟨State.railShown_good s hr, hfail, hid⟩

theorem State.railFailed_raised (s : State) (r : Nat) : (s.railFailed r).rst.raised.testBit 12 = true := by
  unfold State.railFailed
  exact State.raiseReset_raised _ 12

theorem State.railFailed_frame (s : State) (r : Nat) : { s.railFailed r with regs := s.regs, rst := s.rst } = s := by
  simp [State.railFailed, State.railShown, State.setGood, State.raiseReset]

/-- The rails going down show every rail off and leave PWR_FAULT as it is. -/
theorem State.railsDown_regs (s : State) : s.railsDown.f Fld.PWR_STATUS_GOOD = 0 ∧ State.regsBut [Reg.PWR_STATUS] s s.railsDown :=
  ⟨State.f_setF_self _ _ 0 (by decide), State.regsBut_setF _ _ (State.regsBut_of (State.regsBut_refl _ s) rfl) (by decide)⟩

theorem State.railsDown_frame (s t : State) : { t.railsDown with regs := s.regs, rst := s.rst } = { t with regs := s.regs, rst := s.rst } := rfl

theorem railFailure_beyondL0 (r : Nat) (s : State) (h : s.railOn r = true) (hactive : s.rst.active ≠ some 0) :
    Answers (.railFailure r) s (fun t => t.b Fld.PWR_FAULT_RAIL_FAIL = true ∧ t.f Fld.PWR_FAULT_RAIL_ID = r ∧ t.rst.railFail = true ∧
      t.rst.raised.testBit 12 = true ∧ { t with regs := s.regs, rst := s.rst } = s) := by
  obtain ⟨-, hfail, hid⟩ := State.railFailed_shows s (State.railOn_lt h)
  have hnot : (s.railFailed r).rst.active ≠ some 0 := hactive
  exact ⟨s.railFailed r, (execRailFailure_on h).trans (congrArg _ (if_neg (by simp [hnot]))), hfail, hid, rfl, State.railFailed_raised s r, State.railFailed_frame s r⟩

theorem railFailure_on (r : Nat) (s : State) (h : s.railOn r = true) :
    Answers (.railFailure r) s (fun t => (t.f Fld.PWR_STATUS_GOOD).testBit r = false ∧ t.b Fld.PWR_FAULT_RAIL_FAIL = true ∧ t.f Fld.PWR_FAULT_RAIL_ID = r ∧
      t.rst.raised.testBit 12 = true ∧ { t with regs := s.regs, rst := s.rst } = s) := by
  obtain ⟨hgood, hfail, hid⟩ := State.railFailed_shows s (State.railOn_lt h)
  refine ⟨_, execRailFailure_on h, ?_⟩
  dsimp only
  split
  · obtain ⟨hdown, hregs⟩ := State.railsDown_regs (s.railFailed r)
    have hfault : (s.railFailed r).railsDown.rget Reg.PWR_FAULT = (s.railFailed r).rget Reg.PWR_FAULT := hregs _ (by decide)
    exact ⟨by rw [hdown, Nat.zero_testBit], (State.b_eq _ _ Fld.PWR_FAULT_RAIL_FAIL hfault).trans hfail, (State.f_eq _ _ Fld.PWR_FAULT_RAIL_ID hfault).trans hid,
      State.railFailed_raised s r, (State.railsDown_frame s (s.railFailed r)).trans (State.railFailed_frame s r)⟩
  · exact ⟨hgood, hfail, hid, State.railFailed_raised s r, State.railFailed_frame s r⟩

theorem rail_off (r : Nat) (s : State) (h : s.railOn r = false) :
    Answers (.railGood r) s (fun t => t = s) ∧ Answers (.railFailure r) s (fun t => t = s) :=
  ⟨⟨s, if_pos (by simp [h]), rfl⟩, ⟨s, if_pos (by simp [h]), rfl⟩⟩

/-- Settles O8: VIN and POR by what is left of the state, the rails by `execRailGood_form` and by the failure that `State.railFailed` shows. -/
theorem supplyAndRails : Obligations.SupplyAndRails := by
  unfold Obligations.SupplyAndRails
  exact ⟨vinRise_off, vinRise_on, brownout_on, por_on, railGood_first, railFailure_beyondL0, rail_off, railGood_on, railFailure_on⟩

end Sys2Proof.Machine
end

section
namespace Sys2Proof.Machine

/-! # The option load (R52) -/

/-- The error bits of RST_LOAD clear where no load has failed before; nothing else is touched. -/
def State.loadCleared (s : State) : State :=
  if s.rst.optFails = 0 then (s.setB Fld.RST_LOAD_OPT_ERR false).setB Fld.RST_LOAD_FUSE_ERR false else s

theorem State.f_loadCleared (s : State) {F : Fld} (ho : F.apart Fld.RST_LOAD_OPT_ERR = true) (hf : F.apart Fld.RST_LOAD_FUSE_ERR = true) :
    s.loadCleared.f F = s.f F := by
  unfold State.loadCleared
  split
  · rw [State.f_setB_apart _ _ _ _ (by decide) hf, State.f_setB_apart _ _ _ _ (by decide) ho]
  · rfl

/-- STUCK_S as the option page gives it: its byte 2 where that is in range. -/
def optStuck (p : Option (List Word)) : Nat := if 1 ≤ optVal p 2 10 && optVal p 2 10 ≤ 60 then optVal p 2 10 else 10

/-- RST_FUSE and RST_PIN show what the option load gives them. -/
def State.fuseShown (s : State) (p : Option (List Word)) : State :=
  ((s.setB Fld.RST_FUSE_BUILTIN (optFuse p).isNone).setF Fld.RST_FUSE_MAP ((optFuse p).getD 0x9A9680)).setF Fld.RST_PIN_STUCK_S (optStuck p)

theorem State.optionRegs_eq (s : State) (p : Option (List Word)) (blank safe : Bool) : s.optionRegs p blank safe =
    ((((s.fuseShown p).setF Fld.RST_LOAD_FAILS (min 3 s.rst.optFails)).setB Fld.RST_LOAD_BLANK blank).loadCleared).setB Fld.RST_STATUS_SAFE_DEF safe := by
  simp only [State.optionRegs, State.fuseShown, State.loadCleared, optStuck, State.setF_rst, State.setB_rst]

/-- A field that the RST_LOAD and RST_STATUS part of the option load leaves alone. -/
def Fld.offLoad (F : Fld) : Bool :=
  F.apart Fld.RST_LOAD_FAILS && F.apart Fld.RST_LOAD_BLANK && F.apart Fld.RST_LOAD_OPT_ERR && F.apart Fld.RST_LOAD_FUSE_ERR && F.apart Fld.RST_STATUS_SAFE_DEF

theorem State.f_optionRegs (s : State) (p : Option (List Word)) (blank safe : Bool) {F : Fld} (h : F.offLoad = true) :
    (s.optionRegs p blank safe).f F = (s.fuseShown p).f F := by
  simp only [Fld.offLoad, Bool.and_eq_true] at h
  obtain ⟨⟨⟨⟨hfails, hblank⟩, hopt⟩, hfuse⟩, hsafe⟩ := h
  rw [State.optionRegs_eq, State.f_setB_apart _ _ _ _ (by decide) hsafe, State.f_loadCleared _ hopt hfuse, State.f_setB_apart _ _ _ _ (by decide) hblank,
    State.f_setF_apart _ _ _ _ (by decide) hfails]

theorem State.fuseShown_fields (s : State) (p : Option (List Word)) : (s.fuseShown p).b Fld.RST_FUSE_BUILTIN = (optFuse p).isNone ∧
    (s.fuseShown p).f Fld.RST_FUSE_MAP = (optFuse p).getD 0x9A9680 % 2 ^ 24 ∧ (s.fuseShown p).f Fld.RST_PIN_STUCK_S = optStuck p % 2 ^ 8 := by
  unfold State.fuseShown
  refine ⟨?_, ?_, State.f_setF_self _ _ _ (by decide)⟩
  · rw [State.b_setF_apart _ _ _ _ (by decide) (by decide), State.b_setF_apart _ _ _ _ (by decide) (by decide)]
    exact State.b_setB_self _ _ _ (by decide) (by decide)
  · rw [State.f_setF_apart _ _ _ _ (by decide) (by decide)]
    exact State.f_setF_self _ _ _ (by decide)

/-- What RST_FUSE, RST_PIN, RST_LOAD and RST_STATUS show after an option load. -/
theorem State.optionRegs_fields (s : State) (p : Option (List Word)) (blank safe : Bool) :
    (s.optionRegs p blank safe).b Fld.RST_FUSE_BUILTIN = (optFuse p).isNone ∧ (s.optionRegs p blank safe).f Fld.RST_FUSE_MAP = (optFuse p).getD 0x9A9680 % 2 ^ 24 ∧
      (s.optionRegs p blank safe).f Fld.RST_PIN_STUCK_S = optStuck p % 2 ^ 8 ∧ (s.optionRegs p blank safe).b Fld.RST_LOAD_BLANK = blank ∧
      (s.optionRegs p blank safe).b Fld.RST_STATUS_SAFE_DEF = safe := by
  obtain ⟨hbuiltin, hmap, hstuck⟩ := State.fuseShown_fields s p
  have hblank : (s.optionRegs p blank safe).b Fld.RST_LOAD_BLANK = blank := by
    unfold State.b
    rw [State.optionRegs_eq, State.f_setB_apart _ _ _ _ (by decide) (by decide), State.f_loadCleared _ (by decide) (by decide)]
    exact State.b_setB_self _ _ blank (by decide) (by decide)
  refine ⟨?_, ?_, ?_, hblank, ?_⟩
  · unfold State.b
    rw [State.f_optionRegs _ _ _ _ (by decide)]
    exact hbuiltin
  · rw [State.f_optionRegs _ _ _ _ (by decide), hmap]
  · rw [State.f_optionRegs _ _ _ _ (by decide), hstuck]
  · rw [State.optionRegs_eq]
    exact State.b_setB_self _ _ safe (by decide) (by decide)

theorem State.optionRegs_pllb (s : State) (p : Option (List Word)) (blank safe : Bool) :
    (s.optionRegs p blank safe).b Fld.CLK_STATUS_PLLB_LOCK = s.b Fld.CLK_STATUS_PLLB_LOCK := by
  unfold State.b
  rw [State.f_optionRegs _ _ _ _ (by decide)]
  unfold State.fuseShown
  rw [State.f_setF_apart _ _ _ _ (by decide) (by decide), State.f_setF_apart _ _ _ _ (by decide) (by decide), State.f_setB_apart _ _ _ _ (by decide) (by decide)]

/-! ## The options taken -/

theorem State.optionTake_rst (s : State) (p : Option (List Word)) : (s.optionTake p).rst.phase = .pll ∧ (s.optionTake p).rst.nvmAvail = true ∧
    (s.optionTake p).rst.xtFitted = (optVal p 5 3).testBit 0 ∧ (s.optionTake p).rst.rcAllowed = (optVal p 5 3).testBit 1 ∧ (s.optionTake p).dev = s.dev := by
  unfold State.optionTake
  dsimp only
  split
  · exact ⟨rfl, rfl, rfl, rfl, rfl⟩
  · exact ⟨rfl, rfl, rfl, rfl, rfl⟩

theorem State.f_optionTake (s : State) (p : Option (List Word)) {F : Fld} (h : F.apart Fld.CLK_STATUS_ACLK_XTAL = true) : (s.optionTake p).f F = s.f F := by
  unfold State.optionTake
  dsimp only
  split
  · exact State.f_setB_apart _ _ _ _ (by decide) h
  · rfl

theorem State.b_optionTake (s : State) (p : Option (List Word)) {F : Fld} (h : F.apart Fld.CLK_STATUS_ACLK_XTAL = true) : (s.optionTake p).b F = s.b F := by
  unfold State.b
  rw [State.f_optionTake s p h]

/-- The page `p` is in use: what its load shows, the options that the boot takes, and the NVM, which is available. -/
def State.optionsUsed (s : State) (p : Option (List Word)) (blank : Bool) : State := ((s.optionRegs p blank false).optionTake p).nvmKick

theorem State.optionsTake_used (s : State) (p : Option (List Word)) (blank : Bool) : s.optionsTake p blank false =
    (if (s.optionsUsed p blank).b Fld.CLK_STATUS_PLLB_LOCK then (s.optionsUsed p blank).imageStart else s.optionsUsed p blank).pinTestKick := rfl

/-- What follows an option load but its registers is what `State.optionTake` leaves: the event log reaches the NVM only. -/
theorem State.optionsUsed_form (s : State) (p : Option (List Word)) (blank : Bool) :
    ∃ n, s.optionsUsed p blank = ((s.optionRegs p blank false).optionTake p).withNvm n := State.nvmKick_form _

theorem State.optionsUsed_rst (s : State) (p : Option (List Word)) (blank : Bool) : (s.optionsUsed p blank).rst.phase = .pll ∧
    (s.optionsUsed p blank).rst.nvmAvail = true ∧ (s.optionsUsed p blank).rst.xtFitted = (optVal p 5 3).testBit 0 ∧
    (s.optionsUsed p blank).rst.rcAllowed = (optVal p 5 3).testBit 1 ∧ (s.optionsUsed p blank).dev = s.dev := by
  obtain ⟨n, hn⟩ := State.optionsUsed_form s p blank
  obtain ⟨hphase, havail, hxt, hrc, hdev⟩ := State.optionTake_rst (s.optionRegs p blank false) p
  rw [hn]
  exact ⟨hphase, havail, hxt, hrc, hdev.trans (State.optionRegs_dev s p blank false)⟩

theorem State.optionsUsed_fields (s : State) (p : Option (List Word)) (blank : Bool) {F : Fld} (h : F.apart Fld.CLK_STATUS_ACLK_XTAL = true) :
    (s.optionsUsed p blank).f F = (s.optionRegs p blank false).f F ∧ (s.optionsUsed p blank).b F = (s.optionRegs p blank false).b F := by
  obtain ⟨n, hn⟩ := State.optionsUsed_form s p blank
  rw [hn]
  exact ⟨State.f_optionTake _ p h, State.b_optionTake _ p h⟩

theorem State.optionsUsed_pllb (s : State) (p : Option (List Word)) (blank : Bool) :
    (s.optionsUsed p blank).b Fld.CLK_STATUS_PLLB_LOCK = s.b Fld.CLK_STATUS_PLLB_LOCK :=
  (State.optionsUsed_fields s p blank (by decide)).2.trans (State.optionRegs_pllb s p blank false)

/-- Until PLLB has locked, nothing more follows. -/
theorem State.optionsTake_unlocked {s : State} (h : s.b Fld.CLK_STATUS_PLLB_LOCK = false) (p : Option (List Word)) (blank : Bool) :
    s.optionsTake p blank false = s.optionsUsed p blank := by
  have hpllb := (State.optionsUsed_pllb s p blank).trans h
  rw [State.optionsTake_used, if_neg (by simp [hpllb])]
  exact State.pinTestKick_idle (.inr (by simp [State.bothLocked, hpllb]))

/-! ## The row's three outcomes -/

/-- The page that a load gives is in use: the one read, or none where it is blank. -/
def pageUsed (p : List Word) : Option (List Word) := if pageBlank p then none else some p

theorem execOptionLoadDone_used {read : Option (List Word)} {s : State} (hphase : s.rst.phase = .option)
    (h : (pageBlank (read.getD s.nvm.optPage) || (optBytesOk (read.getD s.nvm.optPage) && fuseOk (read.getD s.nvm.optPage))) = true) :
    execOptionLoadDone read s =
      .next (s.optionsTake (pageUsed (read.getD s.nvm.optPage)) (pageBlank (read.getD s.nvm.optPage)) false) := by
  unfold execOptionLoadDone pageUsed
  rw [if_neg (by simp [hphase])]
  dsimp only
  split
  · next hblank => rw [hblank]
  · next hblank =>
    rw [if_pos (by simpa [hblank] using h), Bool.eq_false_iff.2 hblank]

theorem optionLoad_used (read : Option (List Word)) (s : State) (hphase : s.rst.phase = .option)
    (h : (pageBlank (read.getD s.nvm.optPage) || (optBytesOk (read.getD s.nvm.optPage) && fuseOk (read.getD s.nvm.optPage))) = true) :
    Answers (.optionLoadDone read) s (fun t => t.rst.nvmAvail = true ∧ t.rst.phase = (if s.b Fld.CLK_STATUS_PLLB_LOCK then .heads [1, 2] else .pll) ∧ t.dev = s.dev) := by
  have hkick (p : State) : p.pinTestKick.rst.nvmAvail = p.rst.nvmAvail ∧ p.pinTestKick.rst.phase = p.rst.phase ∧ p.pinTestKick.dev = p.dev := by
    unfold State.pinTestKick
    split <;> exact ⟨rfl, rfl, rfl⟩
  obtain ⟨hpll, havail, -, -, hdev⟩ := State.optionsUsed_rst s (pageUsed (read.getD s.nvm.optPage)) (pageBlank (read.getD s.nvm.optPage))
  refine ⟨_, execOptionLoadDone_used hphase h, ?_⟩
  rw [State.optionsTake_used, State.optionsUsed_pllb]
  obtain ⟨hkavail, hkphase, hkdev⟩ := hkick (if s.b Fld.CLK_STATUS_PLLB_LOCK then (s.optionsUsed (pageUsed (read.getD s.nvm.optPage))
    (pageBlank (read.getD s.nvm.optPage))).imageStart else s.optionsUsed (pageUsed (read.getD s.nvm.optPage)) (pageBlank (read.getD s.nvm.optPage)))
  rw [hkavail, hkphase, hkdev]
  split
  · exact ⟨havail, rfl, hdev⟩
  · exact ⟨havail, hpll, hdev⟩

theorem optionLoad_blank (read : Option (List Word)) (s : State) (hphase : s.rst.phase = .option) (hpllb : s.b Fld.CLK_STATUS_PLLB_LOCK = false)
    (hblank : pageBlank (read.getD s.nvm.optPage) = true) :
    Answers (.optionLoadDone read) s (fun t => t.rst.phase = .pll ∧ t.rst.nvmAvail = true ∧ t.rst.xtFitted = true ∧ t.rst.rcAllowed = true ∧ t.dev = s.dev ∧
      t.b Fld.RST_LOAD_BLANK = true ∧ t.b Fld.RST_FUSE_BUILTIN = true ∧ t.f Fld.RST_FUSE_MAP = 0x9A9680 ∧ t.f Fld.RST_PIN_STUCK_S = 10 ∧
      t.b Fld.RST_STATUS_SAFE_DEF = false) := by
  have hused : pageUsed (read.getD s.nvm.optPage) = none := if_pos hblank
  have hexec := execOptionLoadDone_used hphase (read := read) (by simp [hblank])
  rw [hused, hblank, State.optionsTake_unlocked hpllb] at hexec
  obtain ⟨hpll, havail, hxt, hrc, hdev⟩ := State.optionsUsed_rst s none true
  obtain ⟨hbuiltin, hmap, hstuck, hload, hsafe⟩ := State.optionRegs_fields s none true false
  refine ⟨_, hexec, hpll, havail, hxt, hrc, hdev, ?_, ?_, ?_, ?_, ?_⟩
  · exact (State.optionsUsed_fields s none true (by decide)).2.trans hload
  · exact (State.optionsUsed_fields s none true (by decide)).2.trans hbuiltin
  · exact (State.optionsUsed_fields s none true (by decide)).1.trans hmap
  · exact (State.optionsUsed_fields s none true (by decide)).1.trans hstuck
  · exact (State.optionsUsed_fields s none true (by decide)).2.trans hsafe

theorem optFuse_some (p : List Word) : (optFuse (some p)).isNone = fuseBlank p ∧
    (optFuse (some p)).getD 0x9A9680 % 2 ^ 24 = if fuseBlank p then 0x9A9680 else (p.getD 16 0).toNat % 2 ^ 24 := by
  unfold optFuse
  dsimp only
  cases fuseBlank p
  · exact ⟨rfl, Nat.mod_mod _ _⟩
  · exact ⟨rfl, rfl⟩

theorem optionLoad_good (read : Option (List Word)) (s : State) (hphase : s.rst.phase = .option) (hpllb : s.b Fld.CLK_STATUS_PLLB_LOCK = false)
    (hblank : pageBlank (read.getD s.nvm.optPage) = false) (hgood : (optBytesOk (read.getD s.nvm.optPage) && fuseOk (read.getD s.nvm.optPage)) = true) :
    Answers (.optionLoadDone read) s (fun t => t.rst.phase = .pll ∧ t.dev = s.dev ∧ t.b Fld.RST_LOAD_BLANK = false ∧
      t.b Fld.RST_FUSE_BUILTIN = fuseBlank (read.getD s.nvm.optPage) ∧
      t.f Fld.RST_FUSE_MAP = if fuseBlank (read.getD s.nvm.optPage) then 0x9A9680 else ((read.getD s.nvm.optPage).getD 16 0).toNat % 2 ^ 24) := by
  have hused : pageUsed (read.getD s.nvm.optPage) = some (read.getD s.nvm.optPage) := if_neg (by simp [hblank])
  have hexec := execOptionLoadDone_used hphase (read := read) (by rw [hgood, Bool.or_true])
  rw [hused, hblank, State.optionsTake_unlocked hpllb] at hexec
  obtain ⟨hpll, -, -, -, hdev⟩ := State.optionsUsed_rst s (some (read.getD s.nvm.optPage)) false
  obtain ⟨hbuiltin, hmap, -, hload, -⟩ := State.optionRegs_fields s (some (read.getD s.nvm.optPage)) false false
  obtain ⟨hnone, hget⟩ := optFuse_some (read.getD s.nvm.optPage)
  refine ⟨_, hexec, hpll, hdev, ?_, ?_, ?_⟩
  · exact (State.optionsUsed_fields s _ false (by decide)).2.trans hload
  · exact ((State.optionsUsed_fields s _ false (by decide)).2.trans hbuiltin).trans hnone
  · exact ((State.optionsUsed_fields s _ false (by decide)).1.trans hmap).trans hget

/-- A failed load, to be made again: it is counted, and RST_LOAD names what failed. -/
def State.loadFailed (s : State) (opt fuse : Bool) : State :=
  ((s.withRst { s.rst with optFails := s.rst.optFails + 1 }).setB Fld.RST_LOAD_OPT_ERR opt).setB Fld.RST_LOAD_FUSE_ERR fuse

theorem optionLoad_again (read : Option (List Word)) (s : State) (hphase : s.rst.phase = .option) (hfails : s.rst.optFails < 2)
    (hblank : pageBlank (read.getD s.nvm.optPage) = false) (hbad : (optBytesOk (read.getD s.nvm.optPage) && fuseOk (read.getD s.nvm.optPage)) = false) :
    Answers (.optionLoadDone read) s (fun t => t.rst.phase = .option ∧ t.rst.optFails = s.rst.optFails + 1 ∧
      t.b Fld.RST_LOAD_OPT_ERR = !optBytesOk (read.getD s.nvm.optPage) ∧ t.b Fld.RST_LOAD_FUSE_ERR = !fuseOk (read.getD s.nvm.optPage) ∧
      State.regsBut [Reg.RST_LOAD] s t ∧ { t with regs := s.regs, rst := s.rst } = s) := by
  refine ⟨s.loadFailed (!optBytesOk (read.getD s.nvm.optPage)) (!fuseOk (read.getD s.nvm.optPage)), ?_, hphase, rfl, ?_, ?_, ?_, by simp [State.loadFailed]⟩
  · change execOptionLoadDone read s = _
    have hagain : s.rst.optFails + 1 < 3 := by omega
    unfold execOptionLoadDone
    rw [if_neg (by simp [hphase])]
    dsimp only
    rw [if_neg (by simp [hblank]), if_neg (by simp [hbad]), if_pos (by simpa using hagain)]
    rfl
  · unfold State.loadFailed
    rw [State.b_setB_apart _ _ _ _ (by decide) (by decide)]
    exact State.b_setB_self _ _ _ (by decide) (by decide)
  · exact State.b_setB_self _ _ _ (by decide) (by decide)
  · have hrst : State.regsBut [Reg.RST_LOAD] s (s.withRst { s.rst with optFails := s.rst.optFails + 1 }) := State.regsBut_of (State.regsBut_refl _ s) (State.withRst_regs s _)
    exact State.regsBut_setB _ _ (State.regsBut_setB _ _ hrst (by decide)) (by decide)

/-- Settles O12: a page in use by `execOptionLoadDone_used`, one that is read again by `State.loadFailed`. -/
theorem optionLoad : Obligations.OptionLoad := by
  unfold Obligations.OptionLoad
  exact ⟨optionLoad_blank, optionLoad_again, optionLoad_good, optionLoad_used⟩

end Sys2Proof.Machine
end

section
namespace Sys2Proof.Machine

/-! # CREDIT frames (R58, R216, Table 10.13) -/

/-! ## What the end of earlier frames leaves alone -/

/-- Frames that have been sent in full are counted in DWL_LRSCNT; no other register changes. -/
theorem State.dwlSettle_regsBut (s : State) : State.regsBut [Reg.DWL_LRSCNT] s s.dwlSettle := by
  have hsent (l : List DwlFrame) : ∀ p : State, State.regsBut [Reg.DWL_LRSCNT] p (l.foldl (fun s f => s.frameSent f) p) := by
    induction l with
    | nil => exact State.regsBut_refl _
    | cons f l ih =>
      intro p
      have hone : State.regsBut [Reg.DWL_LRSCNT] p (p.frameSent f) := by
        unfold State.frameSent
        split
        · exact State.regsBut_setF _ _ (State.regsBut_of (State.regsBut_refl _ p) rfl) (by decide)
        · exact State.regsBut_refl _ p
      exact fun a ha => (ih _ a ha).trans (hone a ha)
  exact fun a ha => (hsent _ _ a ha).trans rfl

/-- The registers that the lanes, their alignment and the link's state are read from. -/
theorem State.dwlSettle_link (s : State) : s.dwlSettle.dwlLanes = s.dwlLanes ∧ (∀ l, s.dwlSettle.dwlAligned l = s.dwlAligned l) ∧ s.dwlSettle.dwlUp = s.dwlUp := by
  have hctrl : s.dwlSettle.rget Fld.DWL_CTRL_MODE.addr = s.rget Fld.DWL_CTRL_MODE.addr := State.dwlSettle_regsBut s _ (by decide)
  have hstat : s.dwlSettle.rget Fld.DWL_STAT_UP.addr = s.rget Fld.DWL_STAT_UP.addr := State.dwlSettle_regsBut s _ (by decide)
  refine ⟨?_, fun l => ?_, State.b_eq _ _ Fld.DWL_STAT_UP hstat⟩
  · unfold State.dwlLanes
    rw [State.f_eq _ _ Fld.DWL_CTRL_MODE hctrl]
  · unfold State.dwlAligned
    rw [State.b_eq _ _ Fld.DWL_STAT_AL0 hstat, State.b_eq _ _ Fld.DWL_STAT_AL1 hstat]

/-! ## The row by its cases -/

theorem execDwlCreditReceive_ignored {lane : Nat} {s : State} (h : s.dwlLanes.contains lane = false ∨ s.dwlAligned lane = false) (ccum : BitVec 16) (ok : Bool) :
    execDwlCreditReceive lane ccum ok s = .next s.dwlSettle := by
  obtain ⟨hlanes, haligned, -⟩ := State.dwlSettle_link s
  unfold execDwlCreditReceive
  rw [if_pos]
  rw [hlanes, haligned]
  rcases h with h | h <;> rw [h] <;> simp

theorem execDwlCreditReceive_bad {lane : Nat} {s : State} (hlane : s.dwlLanes.contains lane = true) (hal : s.dwlAligned lane = true) (ccum : BitVec 16) :
    execDwlCreditReceive lane ccum false s =
      .next (if s.dwlUp then (s.dwlSettle.raise Cause.DWL_RX_CRC).incSat Fld.DWL_CNT_RXBAD 1 else s.dwlSettle) := by
  obtain ⟨hlanes, haligned, hup⟩ := State.dwlSettle_link s
  unfold execDwlCreditReceive
  dsimp only
  rw [hlanes, haligned, hup, hlane, hal, if_neg (by decide), if_pos (by decide)]
  cases s.dwlUp
  · rw [if_pos (by decide), if_neg (by decide)]
  · rw [if_neg (by decide), if_pos rfl]

/-- A good CREDIT frame gives its count, and this credit is fresh. -/
def State.credited (s : State) (ccum : BitVec 16) : State :=
  (s.setF Fld.DWL_CREDIT_CCUM ccum.toNat).withDwl { s.dwl with credit := true }

/-- The link comes up: the sequence numbers start anew. -/
def State.linkUp (s : State) : State :=
  let s := (s.setB Fld.DWL_STAT_UP true).raise Cause.DWL_RESTART
  (s.withDwl { s.dwl with seqPoint := 0, seqLrs := 0, seqSide := 0, restart := true }).setF Fld.DWL_CREDIT_SENT 0

theorem execDwlCreditReceive_good {lane : Nat} {s : State} (hlane : s.dwlLanes.contains lane = true) (hal : s.dwlAligned lane = true) (ccum : BitVec 16) :
    execDwlCreditReceive lane ccum true s =
      .next (if !(s.dwlSettle.credited ccum).dwlUp && (s.dwlSettle.credited ccum).dwlLanesOk && !(s.dwlSettle.credited ccum).rst.l2.contains .dwl
        then (s.dwlSettle.credited ccum).linkUp else s.dwlSettle.credited ccum) := by
  obtain ⟨hlanes, haligned, -⟩ := State.dwlSettle_link s
  refine Eq.trans ?_ (apply_ite Host.Outcome.next _ _ _).symm
  unfold execDwlCreditReceive
  dsimp only
  rw [hlanes, haligned, hlane, hal, if_neg (by decide), if_neg (by decide)]
  rfl

theorem State.credited_ccum (s : State) (ccum : BitVec 16) : (s.credited ccum).f Fld.DWL_CREDIT_CCUM = ccum.toNat := by
  have hdwl (p : State) (x : DwlSt) : (p.withDwl x).f Fld.DWL_CREDIT_CCUM = p.f Fld.DWL_CREDIT_CCUM := rfl
  rw [State.credited, hdwl, State.f_setF_self _ _ _ (by decide)]
  exact Nat.mod_eq_of_lt ccum.isLt

theorem State.credited_regsBut (s : State) (ccum : BitVec 16) : State.regsBut [Reg.DWL_CREDIT] s (s.credited ccum) :=
  State.regsBut_of (State.regsBut_setF _ _ (State.regsBut_refl _ s) (by decide)) rfl

theorem State.credited_up (s : State) (ccum : BitVec 16) : (s.credited ccum).dwlUp = s.dwlUp :=
  State.b_eq _ _ Fld.DWL_STAT_UP (State.credited_regsBut s ccum _ (by decide))

theorem State.credited_lanesOk (s : State) (ccum : BitVec 16) : (s.credited ccum).dwlLanesOk = s.dwlLanesOk := by
  have hctrl : (s.credited ccum).rget Fld.DWL_CTRL_MODE.addr = s.rget Fld.DWL_CTRL_MODE.addr := State.credited_regsBut s ccum _ (by decide)
  have hstat : (s.credited ccum).rget Fld.DWL_STAT_UP.addr = s.rget Fld.DWL_STAT_UP.addr := State.credited_regsBut s ccum _ (by decide)
  have haligned : (s.credited ccum).dwlAligned = s.dwlAligned := by
    funext l
    unfold State.dwlAligned
    rw [State.b_eq _ _ Fld.DWL_STAT_AL0 hstat, State.b_eq _ _ Fld.DWL_STAT_AL1 hstat]
  unfold State.dwlLanesOk State.dwlLanes
  rw [State.f_eq _ _ Fld.DWL_CTRL_MODE hctrl, haligned]

/-- With the link up, a good CREDIT frame gives its count and that is all. -/
theorem execDwlCreditReceive_up {lane : Nat} {s : State} (hlane : s.dwlLanes.contains lane = true) (hal : s.dwlAligned lane = true) (hup : s.dwlUp = true)
    (ccum : BitVec 16) : execDwlCreditReceive lane ccum true s = .next (s.dwlSettle.credited ccum) := by
  have hstill : (s.dwlSettle.credited ccum).dwlUp = true := by
    obtain ⟨-, -, hsettled⟩ := State.dwlSettle_link s
    rw [State.credited_up, hsettled, hup]
  rw [execDwlCreditReceive_good hlane hal, if_neg (by simp [hstill])]

theorem State.linkUp_regs (s : State) : s.linkUp.b Fld.DWL_STAT_UP = true ∧ s.linkUp.causeSet Cause.DWL_RESTART = true ∧ s.linkUp.f Fld.DWL_CREDIT_SENT = 0 ∧
    s.linkUp.f Fld.DWL_CREDIT_CCUM = s.f Fld.DWL_CREDIT_CCUM := by
  have hdwl (p : State) (x : DwlSt) (F : Fld) : (p.withDwl x).f F = p.f F := rfl
  have hraised (F : Fld) (h : F.apart Fld.DWL_CREDIT_SENT = true) : s.linkUp.f F = ((s.setB Fld.DWL_STAT_UP true).raise Cause.DWL_RESTART).f F := by
    unfold State.linkUp
    dsimp only
    rw [State.f_setF_apart _ _ _ _ (by decide) h, hdwl]
  refine ⟨?_, ?_, State.f_setF_self _ _ 0 (by decide), ?_⟩
  · unfold State.b
    rw [hraised _ (by decide), State.f_raise_apart _ _ _ (by decide) (by decide) (by decide) (by decide)]
    exact State.b_setB_self s Fld.DWL_STAT_UP true (by decide) (by decide)
  · unfold State.causeSet State.b
    rw [hraised _ (by decide)]
    exact State.b_raise_self _ Cause.DWL_RESTART (by decide)
  · rw [hraised _ (by decide), State.f_raise_apart _ _ _ (by decide) (by decide) (by decide) (by decide), State.f_setB_apart _ _ _ _ (by decide) (by decide)]

/-! ## The clauses -/

theorem dwlCredit_badCrc (lane : Nat) (ccum : BitVec 16) (s : State) (hprog : s.dwl.prog = []) (hlane : s.dwlLanes.contains lane = true)
    (hal : s.dwlAligned lane = true) (hup : s.dwlUp = true) :
    Answers (.dwlCreditReceive lane ccum false) s (fun t => t.causeSet Cause.DWL_RX_CRC = true ∧
      t.f Fld.DWL_CNT_RXBAD = min (2 ^ Fld.DWL_CNT_RXBAD.w - 1) (s.f Fld.DWL_CNT_RXBAD + 1) ∧ { t with regs := s.regs } = s) := by
  refine ⟨(s.raise Cause.DWL_RX_CRC).incSat Fld.DWL_CNT_RXBAD 1, ?_, ?_, ?_, by simp⟩
  · refine (execDwlCreditReceive_bad hlane hal ccum).trans ?_
    rw [if_pos hup, State.dwlSettle_idle hprog]
  · refine Eq.trans (State.b_incSat_apart _ Cause.DWL_RX_CRC.fld _ 1 (by decide) (by decide)) ?_
    exact State.b_raise_self s _ (by decide)
  · rw [State.f_incSat_self _ _ _ (by decide), State.f_raise_apart _ _ _ (by decide) (by decide) (by decide) (by decide)]

theorem dwlCredit_up (lane : Nat) (ccum : BitVec 16) (s : State) (hprog : s.dwl.prog = []) (hlane : s.dwlLanes.contains lane = true)
    (hal : s.dwlAligned lane = true) (hup : s.dwlUp = true) :
    Answers (.dwlCreditReceive lane ccum true) s (fun t => t.f Fld.DWL_CREDIT_CCUM = ccum.toNat ∧ t.dwl.credit = true ∧ State.regsBut [Reg.DWL_CREDIT] s t ∧
      { t with regs := s.regs, dwl := s.dwl } = s) := by
  refine ⟨s.credited ccum, ?_, State.credited_ccum s ccum, rfl, State.credited_regsBut s ccum, by simp [State.credited]⟩
  refine (execDwlCreditReceive_up hlane hal hup ccum).trans ?_
  rw [State.dwlSettle_idle hprog]

theorem dwlCredit_linkUp (lane : Nat) (ccum : BitVec 16) (s : State) (hprog : s.dwl.prog = []) (hlane : s.dwlLanes.contains lane = true) (hup : s.dwlUp = false)
    (hok : s.dwlLanesOk = true) (hl2 : s.rst.l2.contains .dwl = false) :
    Answers (.dwlCreditReceive lane ccum true) s (fun t => t.b Fld.DWL_STAT_UP = true ∧ t.causeSet Cause.DWL_RESTART = true ∧ t.dwl.seqPoint = 0 ∧ t.dwl.seqLrs = 0 ∧
      t.dwl.restart = true ∧ t.f Fld.DWL_CREDIT_CCUM = ccum.toNat ∧ t.f Fld.DWL_CREDIT_SENT = 0 ∧ { t with regs := s.regs, dwl := s.dwl } = s) := by
  have hal : s.dwlAligned lane = true := by
    obtain ⟨-, hall⟩ := Bool.and_eq_true_iff.1 hok
    exact List.all_eq_true.1 hall lane (List.contains_iff_mem.1 hlane)
  obtain ⟨hbit, hrestart, hsent, hccum⟩ := State.linkUp_regs (s.credited ccum)
  refine ⟨(s.credited ccum).linkUp, ?_, hbit, hrestart, rfl, rfl, rfl, hccum.trans (State.credited_ccum s ccum), hsent, by simp [State.linkUp, State.credited]⟩
  refine (execDwlCreditReceive_good hlane hal ccum).trans ?_
  have hfree : (s.credited ccum).rst.l2.contains .dwl = false := hl2
  rw [State.dwlSettle_idle hprog, if_pos (by rw [State.credited_up, hup, State.credited_lanesOk, hok, hfree]; rfl)]

theorem dwlCredit_strayLane (lane : Nat) (ccum : BitVec 16) (ok : Bool) (s : State) (hprog : s.dwl.prog = []) (hlane : s.dwlLanes.contains lane = false) :
    Answers (.dwlCreditReceive lane ccum ok) s (fun t => t = s) :=
  ⟨s, (execDwlCreditReceive_ignored (.inl hlane) ccum ok).trans (congrArg _ (State.dwlSettle_idle hprog)), rfl⟩

theorem dwlCredit_badWhileDown (lane : Nat) (ccum : BitVec 16) (s : State) (hprog : s.dwl.prog = []) (hup : s.dwlUp = false) :
    Answers (.dwlCreditReceive lane ccum false) s (fun t => t = s) := by
  refine ⟨s, ?_, rfl⟩
  have hidle := State.dwlSettle_idle hprog
  by_cases h : s.dwlLanes.contains lane = true ∧ s.dwlAligned lane = true
  · refine (execDwlCreditReceive_bad h.1 h.2 ccum).trans ?_
    rw [if_neg (by simp [hup]), hidle]
  · refine (execDwlCreditReceive_ignored ?_ ccum false).trans (congrArg _ hidle)
    rwa [not_and_or, Bool.not_eq_true, Bool.not_eq_true] at h

theorem dwlCredit_keepsUp (lane : Nat) (ccum : BitVec 16) (s : State) (hlane : s.dwlLanes.contains lane = true) (hal : s.dwlAligned lane = true)
    (hup : s.dwlUp = true) :
    Answers (.dwlCreditReceive lane ccum true) s (fun t => t.f Fld.DWL_CREDIT_CCUM = ccum.toNat ∧ t.dwl.credit = true ∧ t.dwlUp = true ∧ t.dev = s.dev) := by
  obtain ⟨-, -, hsettled⟩ := State.dwlSettle_link s
  refine ⟨s.dwlSettle.credited ccum, execDwlCreditReceive_up hlane hal hup ccum, State.credited_ccum _ ccum, rfl, ?_, ?_⟩
  · rw [State.credited_up, hsettled, hup]
  · simp [State.credited]

theorem dwlCreditTimeout_down (old : Bool) (s : State) (h : s.dwlUp = false) : Answers (.dwlCreditTimeout old) s (fun t => t = s) :=
  ⟨s, if_pos (by simp [h]), rfl⟩

theorem dwlCreditTimeout_old (s : State) (h : s.dwlUp = true) :
    Answers (.dwlCreditTimeout true) s (fun t => t.causeSet Cause.DWL_CREDIT_OLD = true ∧ { t with regs := s.regs } = s) := by
  refine ⟨s.raise Cause.DWL_CREDIT_OLD, ?_, State.b_raise_self s _ (by decide), by simp⟩
  change execDwlCreditTimeout true s = _
  simp [execDwlCreditTimeout, h]

theorem dwlCreditTimeout_waiting (r : OutRec) (l : List OutRec) (s : State) (h : s.dwlUp = true) (hout : s.wort.dwl.out = r :: l)
    (hcredit : s.creditFor s.dwl.seqPoint = false) :
    Answers (.dwlCreditTimeout false) s (fun t => t.causeSet Cause.DWL_NOCREDIT = true ∧ { t with regs := s.regs } = s) := by
  refine ⟨s.raise Cause.DWL_NOCREDIT, ?_, State.b_raise_self s _ (by decide), by simp⟩
  change execDwlCreditTimeout false s = _
  simp [execDwlCreditTimeout, h, hout, hcredit]

/-- Settles O35: a CREDIT frame by its lane, its CRC and the state of the link, the two timeouts by what is late. -/
theorem dwlCredit : Obligations.DwlCredit := by
  unfold Obligations.DwlCredit
  exact ⟨dwlCredit_badCrc, dwlCredit_up, dwlCredit_linkUp, dwlCredit_strayLane, dwlCreditTimeout_down, dwlCreditTimeout_old, dwlCreditTimeout_waiting,
    dwlCredit_badWhileDown, dwlCredit_keepsUp⟩

end Sys2Proof.Machine
end

section
namespace Sys2Proof.Machine

/-! # A receiver channel's own record -/

@[simp] theorem State.chan_setChan_self (s : State) (c : Nat) (x : ChanSt) : (s.setChan c x).chan c = x := SMap.get_set_self _ _ _ _

/-! # Avalanches (R48, R131, R132, R134) -/

/-- The set that an avalanche of SPAD `i` at `ps` leaves: the open one with that SPAD, or one that begins with it. -/
def State.joined (s : State) (c i ps tap : Nat) : CoSet :=
  match (s.chan c).set with
  | some q => if ps < q.ps + (500 + 250 * min 14 (s.ef Fld.RX_COINC_GATE)) then (if q.spads.contains i then q else { q with spads := i :: q.spads })
    else { ps := ps, tap := tap, spads := [i] }
  | none => { ps := ps, tap := tap, spads := [i] }

/-- The channel with no set open. -/
def State.setEnded (s : State) (c : Nat) : State := s.setChan c { s.chan c with set := none }

/-- With its `k`-th SPAD a set is complete and is reported. -/
theorem State.joinSet_complete {s : State} {c k i ps tap : Nat} {q : CoSet} (hq : s.joined c i ps tap = q) (h : min k (s.spads c) ≤ q.spads.length) :
    s.joinSet c k i ps tap = (s.setEnded c).coincidence c q := by
  subst hq
  exact if_pos h

theorem State.joinSet_waits {s : State} {c k i ps tap : Nat} {q : CoSet} (hq : s.joined c i ps tap = q) (h : ¬ min k (s.spads c) ≤ q.spads.length) :
    s.joinSet c k i ps tap = s.setChan c { s.chan c with set := some q } := by
  subst hq
  exact if_neg h

theorem State.joined_fresh {s : State} {c : Nat} (h : (s.chan c).set = none) (i ps tap : Nat) : s.joined c i ps tap = { ps := ps, tap := tap, spads := [i] } := by
  simp [State.joined, h]

theorem State.joined_open {s : State} {c i ps : Nat} {q : CoSet} (h : (s.chan c).set = some q) (hgate : ps < q.ps + 500 + 250 * min 14 (s.ef Fld.RX_COINC_GATE))
    (hi : i ∉ q.spads) (tap : Nat) : s.joined c i ps tap = { q with spads := i :: q.spads } := by
  have hin : ps < q.ps + (500 + 250 * min 14 (s.ef Fld.RX_COINC_GATE)) := by omega
  unfold State.joined
  rw [h]
  dsimp only
  rw [if_pos hin, if_neg (by simpa using hi)]

/-- The channel sees an avalanche of SPAD `i`: its domain is on, its cluster not held in reset, and the SPAD enabled. -/
def State.sees (s : State) (c i : Nat) : Prop := s.powered (c / 16) = true ∧ L2Target.cluster (c / 16) ∉ s.rst.l2 ∧ s.spadOn c i = true

theorem State.avalanche_unseen {s : State} {c : Nat} {a : Nat × Nat × Nat} (h : ¬ s.sees c a.1) : s.avalanche c a = s := by
  unfold State.avalanche
  dsimp only
  rw [if_pos]
  unfold State.sees at h
  cases hp : s.powered (c / 16) <;> cases hs : s.spadOn c a.1 <;> simp_all

theorem State.avalanche_seen {s : State} {c : Nat} {a : Nat × Nat × Nat} (h : s.sees c a.1) : s.avalanche c a =
    match (s.chan c).gate with
    | some g =>
      match g.mid with
      | none => (s.setChan c { s.chan c with gate := some { g with a := g.a + 1 } }).calHit c a.2.1 a.2.2
      | some (k, _) => s.joinSet c k a.1 a.2.1 a.2.2
    | none =>
      if (s.cluster (c / 16)).wins.isEmpty && a.2.1 / 1000 < s.mash.injEnd then s.calHit c a.2.1 a.2.2
      else s.joinSet c (s.windowK c) a.1 a.2.1 a.2.2 := by
  obtain ⟨hpow, hl2, hspad⟩ := h
  unfold State.avalanche
  dsimp only
  exact if_neg (by simp [hpow, hl2, hspad])

/-- In the second half of a gate avalanches join sets of the gate's k. -/
theorem State.avalanche_gated {s : State} {c i k rate : Nat} {g : GateSt} (h : s.sees c i) (hgate : (s.chan c).gate = some g) (hmid : g.mid = some (k, rate))
    (ps tap : Nat) : s.avalanche c (i, ps, tap) = s.joinSet c k i ps tap := by
  rw [State.avalanche_seen h, hgate]
  dsimp only
  rw [hmid]

/-- With a window open and no gate avalanches join sets of the window's k. -/
theorem State.avalanche_windowed {s : State} {c i : Nat} {w : Win} {ws : List Win} (h : s.sees c i) (hgate : (s.chan c).gate = none)
    (hwins : (s.cluster (c / 16)).wins = w :: ws) (ps tap : Nat) : s.avalanche c (i, ps, tap) = s.joinSet c (s.windowK c) i ps tap := by
  rw [State.avalanche_seen h, hgate]
  dsimp only
  rw [hwins, if_neg (by simp)]

theorem rxEvent_unseen (c i ps tap : Nat) (avs : List (Nat × Nat × Nat)) (s : State)
    (h : s.powered (c / 16) = false ∨ L2Target.cluster (c / 16) ∈ s.rst.l2 ∨ (∀ a ∈ (i, ps, tap) :: avs, s.spadOn c a.1 = false)) :
    Answers (.rxEvent c i ps tap avs) s (fun t => t = s) := by
  have hun (a) (ha : a ∈ (i, ps, tap) :: avs) : ¬ s.sees c a.1 := by
    rintro ⟨hpow, hl2, hspad⟩
    rcases h with h | h | h
    · exact Bool.noConfusion (h.symm.trans hpow)
    · exact hl2 h
    · exact Bool.noConfusion ((h a ha).symm.trans hspad)
  have hfold (l : List (Nat × Nat × Nat)) (hl : ∀ a ∈ l, ¬ s.sees c a.1) : l.foldl (fun s a => s.avalanche c a) s = s := by
    induction l with
    | nil => rfl
    | cons a l ih =>
      rw [List.foldl_cons, State.avalanche_unseen (hl a List.mem_cons_self)]
      exact ih fun b hb => hl b (List.mem_cons_of_mem _ hb)
  exact ⟨s, congrArg Host.Outcome.next (hfold _ hun), rfl⟩

/-! ## A complete set in the gate -/

/-- The event that a complete set counts in gate `g`, stamped at `l`. -/
def ChanSt.gateEvent (x : ChanSt) (g : GateSt) (l : Nat) : ChanSt := { x with gate := some { g with evt := min 0xFF (g.evt + 1) }, lastEvt := some l }

theorem State.coincidence_gated {s : State} {c : Nat} {g : GateSt} {q : CoSet} (hvalid : s.chanValid c = true) (hgate : (s.chan c).gate = some g)
    (hlive : s.tdcDead c (s.lsbOf c q.ps q.tap) = false) :
    ((s.setEnded c).coincidence c q).chan c = { (s.chan c).gateEvent g (s.lsbOf c q.ps q.tap) with set := none } ∧
      { (s.setEnded c).coincidence c q with chans := s.chans } = s := by
  have hvalid' : (s.setEnded c).chanValid c = true := hvalid
  have hgate' : ((s.setEnded c).chan c).gate = some g := by rw [State.setEnded, State.chan_setChan_self]; exact hgate
  have hlsb : (s.setEnded c).lsbOf c q.ps q.tap = s.lsbOf c q.ps q.tap := by simp only [State.lsbOf, State.setEnded, State.chan_setChan_self]
  have hlive' : (s.setEnded c).tdcDead c (s.lsbOf c q.ps q.tap) = false := by
    simpa only [State.tdcDead, State.setEnded, State.chan_setChan_self] using hlive
  unfold State.coincidence
  dsimp only
  rw [hgate', hvalid', if_neg (by decide)]
  dsimp only
  rw [hlsb, hlive', if_neg (by decide)]
  refine ⟨?_, by simp [State.setEnded]⟩
  simp only [State.setEnded, State.chan_setChan_self, ChanSt.gateEvent]

theorem rxEvent_gateEvent {c i ps tap k rate : Nat} {g : GateSt} {q : CoSet} {s : State} (hsees : s.sees c i) (hgate : (s.chan c).gate = some g)
    (hmid : g.mid = some (k, rate)) (hq : s.joined c i ps tap = q) (hk : min k (s.spads c) ≤ q.spads.length) (hvalid : s.chanValid c = true)
    (hlive : s.tdcDead c (s.lsbOf c q.ps q.tap) = false) :
    Answers (.rxEvent c i ps tap []) s (fun t => (t.chan c).gate = some { g with evt := min 0xFF (g.evt + 1) } ∧
      (t.chan c).lastEvt = some (s.lsbOf c q.ps q.tap) ∧ (t.chan c).set = none ∧ { t with chans := s.chans } = s) := by
  obtain ⟨hchan, hframe⟩ := State.coincidence_gated hvalid hgate hlive
  refine ⟨(s.setEnded c).coincidence c q, ?_, ?_, ?_, ?_, hframe⟩
  · exact congrArg Host.Outcome.next ((State.avalanche_gated hsees hgate hmid ps tap).trans (State.joinSet_complete hq hk))
  · rw [hchan]; rfl
  · rw [hchan]; rfl
  · rw [hchan]

theorem rxEvent_gateFirst (c i ps tap k rate : Nat) (g : GateSt) (s : State) (hpow : s.powered (c / 16) = true) (hl2 : L2Target.cluster (c / 16) ∉ s.rst.l2)
    (hspad : s.spadOn c i = true) (hset : (s.chan c).set = none) (hgate : (s.chan c).gate = some g) (hmid : g.mid = some (k, rate))
    (hlive : s.tdcDead c (s.lsbOf c ps tap) = false) (hvalid : s.chanValid c = true) (hk : min k (s.spads c) ≤ 1) :
    Answers (.rxEvent c i ps tap []) s (fun t => (t.chan c).gate = some { g with evt := min 0xFF (g.evt + 1) } ∧
      (t.chan c).lastEvt = some (s.lsbOf c ps tap) ∧ { t with chans := s.chans } = s) := by
  obtain ⟨t, ht, hevt, hlast, -, hframe⟩ := rxEvent_gateEvent ⟨hpow, hl2, hspad⟩ hgate hmid (State.joined_fresh hset i ps tap) hk hvalid hlive
  exact ⟨t, ht, hevt, hlast, hframe⟩

theorem rxEvent_gateLast (c i ps tap k rate : Nat) (g : GateSt) (q : CoSet) (s : State) (hpow : s.powered (c / 16) = true)
    (hl2 : L2Target.cluster (c / 16) ∉ s.rst.l2) (hspad : s.spadOn c i = true) (hset : (s.chan c).set = some q) (hgate : (s.chan c).gate = some g)
    (hmid : g.mid = some (k, rate)) (hin : ps < q.ps + 500 + 250 * min 14 (s.ef Fld.RX_COINC_GATE)) (hi : i ∉ q.spads)
    (hk : q.spads.length + 1 = min k (s.spads c)) (hvalid : s.chanValid c = true) (hlive : s.tdcDead c (s.lsbOf c q.ps q.tap) = false) :
    Answers (.rxEvent c i ps tap []) s (fun t => (t.chan c).gate = some { g with evt := min 0xFF (g.evt + 1) } ∧ (t.chan c).lastEvt = some (s.lsbOf c q.ps q.tap) ∧
      (t.chan c).set = none ∧ { t with chans := s.chans } = s) :=
  rxEvent_gateEvent (q := { q with spads := i :: q.spads }) ⟨hpow, hl2, hspad⟩ hgate hmid (State.joined_open hset hin hi tap) (le_of_eq hk.symm) hvalid hlive

theorem rxEvent_setOpens (c i ps tap k rate : Nat) (g : GateSt) (s : State) (hpow : s.powered (c / 16) = true) (hl2 : L2Target.cluster (c / 16) ∉ s.rst.l2)
    (hspad : s.spadOn c i = true) (hset : (s.chan c).set = none) (hgate : (s.chan c).gate = some g) (hmid : g.mid = some (k, rate)) (hk : 2 ≤ min k (s.spads c)) :
    Answers (.rxEvent c i ps tap []) s (fun t => (t.chan c).set = some { ps := ps, tap := tap, spads := [i] } ∧ (t.chan c).gate = some g ∧ { t with chans := s.chans } = s) := by
  refine ⟨s.setChan c { s.chan c with set := some { ps := ps, tap := tap, spads := [i] } }, ?_, ?_, ?_, rfl⟩
  · refine congrArg Host.Outcome.next ((State.avalanche_gated ⟨hpow, hl2, hspad⟩ hgate hmid ps tap).trans ?_)
    exact State.joinSet_waits (State.joined_fresh hset i ps tap) (Nat.not_le.2 hk)
  · rw [State.chan_setChan_self]
  · rw [State.chan_setChan_self]; exact hgate

/-! ## A complete set in a window (R135, R136) -/

/-- The rise of the thinning level leaves every channel's record. -/
theorem State.thinRise_chan (s : State) (k t c : Nat) : (s.thinRise k t).chan c = s.chan c := by
  have hlevel (p : State) (n : Nat) : (p.setLevel k n t).chan c = p.chan c := rfl
  have hraise (p : State) (b : Bool) : (p.raiseIf b Cause.MASH_THIN).chan c = p.chan c := by cases b <;> rfl
  have habove (p : State) (x : CluSt) : (p.setCluster k x).chan c = p.chan c := rfl
  have hite (b : Prop) [Decidable b] (p q : State) : (if b then p else q).chan c = if b then p.chan c else q.chan c := apply_ite (·.chan c) b p q
  simp only [State.thinRise, hite, hlevel, hraise, habove, ite_self]

/-- An event with room in the FIFO enters it at the end. -/
theorem State.enqueue_room {s : State} {c : Nat} (hroom : (s.chan c).fifo.length < 16) (t fine : Nat) (w : Win) (ws : List Win) :
    ∃ e : FifoE, (s.enqueue c t fine w ws).chan c = { s.chan c with fifo := (s.chan c).fifo ++ [e] } ∧
      e.word = gristWord (decide (w.tf + 4095 < t)) w.tag (c % 16) (min 4095 (t - w.tf)) fine := by
  have hraise (b : Bool) (x : ChanSt) : ((s.raiseIf b Cause.RX_COVF).setChan c x).chan c = x := State.chan_setChan_self _ _ _
  unfold State.enqueue
  dsimp only
  rw [if_pos hroom, State.thinRise_chan, hraise]
  exact ⟨_, rfl, rfl⟩

theorem State.coincidence_windowed {s : State} {c : Nat} {q : CoSet} {w : Win} {ws : List Win} (hvalid : s.chanValid c = true) (hgate : (s.chan c).gate = none)
    (hwins : (s.cluster (c / 16)).wins = w :: ws) (hin : w.tf ≤ q.ps / 1000) (hlive : s.tdcDead c (s.lsbOf c q.ps q.tap) = false) (hswap : s.mash.swapPend = false) :
    s.coincidence c q = (s.setChan c { s.chan c with lastEvt := some (s.lsbOf c q.ps q.tap) }).enqueue c (q.ps / 1000) ((s.chan c).map.getD q.tap 0) w ws := by
  have hdrop : (w :: ws).dropWhile (fun w => decide (q.ps / 1000 < w.tf)) = w :: ws := List.dropWhile_cons_of_neg (by simpa using hin)
  unfold State.coincidence
  dsimp only
  rw [hvalid, if_neg (by decide), hgate]
  dsimp only
  rw [hwins, hdrop]
  dsimp only
  rw [hlive, if_neg (by decide), hswap, if_neg (by decide)]

theorem rxEvent_enters (c i ps tap : Nat) (w : Win) (ws : List Win) (s : State) (hpow : s.powered (c / 16) = true) (hl2 : L2Target.cluster (c / 16) ∉ s.rst.l2)
    (hspad : s.spadOn c i = true) (hset : (s.chan c).set = none) (hgate : (s.chan c).gate = none) (hwins : (s.cluster (c / 16)).wins = w :: ws)
    (hin : w.tf ≤ ps / 1000) (hlive : s.tdcDead c (s.lsbOf c ps tap) = false) (hvalid : s.chanValid c = true) (hk : min (s.windowK c) (s.spads c) ≤ 1)
    (hswap : s.mash.swapPend = false) (hroom : (s.chan c).fifo.length < 16) :
    Answers (.rxEvent c i ps tap []) s (fun t => (t.chan c).fifo.length = (s.chan c).fifo.length + 1 ∧
      (t.chan c).fifo.getLast?.map (·.word) = some (gristWord (decide (w.tf + 4095 < ps / 1000)) w.tag (c % 16) (min 4095 (ps / 1000 - w.tf)) ((s.chan c).map.getD tap 0)) ∧
      (t.chan c).lastEvt = some (s.lsbOf c ps tap) ∧ t.dev = s.dev) := by
  have hchan : (s.setEnded c).chan c = { s.chan c with set := none } := State.chan_setChan_self _ _ _
  have hlsb : (s.setEnded c).lsbOf c ps tap = s.lsbOf c ps tap := by simp only [State.lsbOf, hchan]
  have hlive' : (s.setEnded c).tdcDead c ((s.setEnded c).lsbOf c ps tap) = false := by
    rw [hlsb]
    simpa only [State.tdcDead, hchan] using hlive
  have hcoin := State.coincidence_windowed (s := s.setEnded c) (q := { ps := ps, tap := tap, spads := [i] }) hvalid ((congrArg ChanSt.gate hchan).trans hgate)
    hwins hin hlive' hswap
  have hroom' : (((s.setEnded c).setChan c { (s.setEnded c).chan c with lastEvt := some ((s.setEnded c).lsbOf c ps tap) }).chan c).fifo.length < 16 := by
    rw [State.chan_setChan_self, hchan]
    exact hroom
  obtain ⟨e, he, hword⟩ := State.enqueue_room hroom' (ps / 1000) (((s.setEnded c).chan c).map.getD tap 0) w ws
  rw [← hcoin, State.chan_setChan_self, hlsb, hchan] at he
  rw [hchan] at hword
  refine ⟨(s.setEnded c).coincidence c { ps := ps, tap := tap, spads := [i] }, ?_, ?_, ?_, ?_, ?_⟩
  · refine congrArg Host.Outcome.next ((State.avalanche_windowed ⟨hpow, hl2, hspad⟩ hgate hwins ps tap).trans ?_)
    exact State.joinSet_complete (State.joined_fresh hset i ps tap) hk
  · rw [he]
    simp
  · rw [he]
    simp [hword]
  · rw [he]
  · rw [hcoin]
    simp [State.setEnded]

/-! # Windows, capture and the background calibration (R135, R141, R142, Table 7.5) -/

theorem windowClose_keeps (k x : Nat) (s : State) :
    Answers (.windowClose k x) s (fun t => (t.cluster k).wins = (s.cluster k).wins.filter (fun w => decide (x < w.tf + 4096)) ∧ { t with clus := s.clus } = s) := by
  obtain ⟨c, hc, hwins⟩ := State.closeExpired_form s k x
  refine ⟨s.withClus c, congrArg Host.Outcome.next hc, hwins.trans ?_, rfl⟩
  congr 1
  funext w
  rw [← decide_not]
  exact decide_eq_decide.2 Nat.not_le

theorem windowClose_young (k x : Nat) (s : State) (h : ∀ w ∈ (s.cluster k).wins, x < w.tf + 4096) :
    Answers (.windowClose k x) s (fun t => (t.cluster k).wins = (s.cluster k).wins ∧ { t with clus := s.clus } = s) := by
  obtain ⟨t, ht, hwins, hframe⟩ := windowClose_keeps k x s
  exact ⟨t, ht, hwins.trans (List.filter_eq_self.2 fun w hw => decide_eq_true (h w hw)), hframe⟩

theorem rxCapctlArm_arms (s : State) : Answers .rxCapctlArm s (fun t => t.f Fld.RX_CAPCTL_COUNT = 0 ∧ t.mash.capArm = true ∧ State.regsBut [Reg.RX_CAPCTL] s t ∧
      { t with regs := s.regs, mash := s.mash } = s) :=
  ⟨s.capArm, rfl, State.f_setF_self _ _ 0 (by decide), rfl, State.regsBut_setF _ _ (State.regsBut_of (State.regsBut_refl _ s) rfl) (by decide), rfl⟩

/-- The sum of a channel's background hits by tap. -/
def ChanSt.bgHits (x : ChanSt) : Nat := x.tapList.foldl (· + ·) 0

/-- The tap-to-bin map that a channel's background hits give. -/
def ChanSt.bgMap (x : ChanSt) : List Nat := codeMap 64 x.bgHits 0 x.tapList

/-- A channel has background hits enough for a map. -/
def State.bgDue (s : State) (c : Nat) : Prop := 2 ^ min 16 (max 12 (s.f Fld.RX_CAL_BGN)) ≤ (s.chan c).bgHits ∧ s.b Fld.RX_CAL_BGCAL = true

/-- The channel's background counts restart. -/
def State.hitsCleared (s : State) (c : Nat) : State := s.setChan c { s.chan c with hits := [] }

/-- The map of channel `c` is staged at `t`. -/
def State.mapStaged (s : State) (c t : Nat) : State :=
  ((s.hitsCleared c).setChan c { (s.hitsCleared c).chan c with
    staged := some ((s.chan c).bgMap, dnlFigure 64 (s.chan c).bgHits (s.chan c).bgMap (s.chan c).tapList, t) }).setB (Fld.RX_TDC_REJ c) false

theorem execBgcalMapStaged_due {s : State} {c : Nat} (h : s.bgDue c) (x : Nat) : execBgcalMapStaged c x s =
    .next (if s.mapOk (s.chan c).bgHits (s.chan c).bgMap (s.chan c).tapList then s.mapStaged c x else (s.hitsCleared c).rejectMap c) := by
  obtain ⟨henough, hon⟩ := h
  refine Eq.trans ?_ (apply_ite Host.Outcome.next _ _ _).symm
  unfold execBgcalMapStaged
  dsimp only
  unfold ChanSt.bgHits at henough
  rw [if_pos (Bool.and_eq_true_iff.2 ⟨hon, decide_eq_true henough⟩)]
  rfl

theorem State.mapStaged_chan (s : State) (c t : Nat) : (s.mapStaged c t).chan c = { s.chan c with
    hits := [], staged := some ((s.chan c).bgMap, dnlFigure 64 (s.chan c).bgHits (s.chan c).bgMap (s.chan c).tapList, t) } := by
  have hrej (p : State) : (p.setB (Fld.RX_TDC_REJ c) false).chan c = p.chan c := rfl
  unfold State.mapStaged State.hitsCleared
  rw [hrej, State.chan_setChan_self, State.chan_setChan_self]

theorem State.rejected_chan (s : State) (c : Nat) : ((s.hitsCleared c).rejectMap c).chan c = { s.chan c with hits := [] } := by
  have hrej (p : State) : (p.rejectMap c).chan c = p.chan c := by
    simp only [State.rejectMap, State.chan, State.incSat_chans, State.raise_chans, State.setB_chans]
  rw [hrej]
  exact State.chan_setChan_self _ _ _

theorem State.rejectMap_flagged (s : State) (c : Nat) : (s.rejectMap c).causeSet Cause.RX_CAL_REJ = true := by
  refine Eq.trans (State.b_incSat_apart _ Cause.RX_CAL_REJ.fld _ 1 (by decide) (by decide)) ?_
  exact State.b_raise_self _ _ (by decide)

theorem bgcalMapStaged_restarts (c x : Nat) (s : State) (henough : 2 ^ min 16 (max 12 (s.f Fld.RX_CAL_BGN)) ≤ (s.chan c).tapList.foldl (· + ·) 0)
    (hon : s.b Fld.RX_CAL_BGCAL = true) : Answers (.bgcalMapStaged c x) s (fun t => (t.chan c).hits = []) := by
  refine ⟨_, execBgcalMapStaged_due ⟨henough, hon⟩ x, ?_⟩
  dsimp only
  split
  · rw [State.mapStaged_chan]
  · rw [State.rejected_chan]

theorem bgcalMapStaged_off (c x : Nat) (s : State) (h : s.b Fld.RX_CAL_BGCAL = false) : Answers (.bgcalMapStaged c x) s (fun t => t = s) := by
  refine ⟨s, ?_, rfl⟩
  change execBgcalMapStaged c x s = _
  simp [execBgcalMapStaged, h]

theorem bgcalMapStaged_stages (c x : Nat) (s : State) (henough : 2 ^ min 16 (max 12 (s.f Fld.RX_CAL_BGN)) ≤ (s.chan c).tapList.foldl (· + ·) 0)
    (hon : s.b Fld.RX_CAL_BGCAL = true)
    (hok : s.mapOk ((s.chan c).tapList.foldl (· + ·) 0) (codeMap 64 ((s.chan c).tapList.foldl (· + ·) 0) 0 (s.chan c).tapList) (s.chan c).tapList = true) :
    Answers (.bgcalMapStaged c x) s (fun t => (t.chan c).staged.map (fun q => (q.1, q.2.2)) = some (codeMap 64 ((s.chan c).tapList.foldl (· + ·) 0) 0 (s.chan c).tapList, x) ∧
      (t.chan c).hits = [] ∧ (t.chan c).map = (s.chan c).map ∧ t.b (Fld.RX_TDC_REJ c) = false ∧ { t with regs := s.regs, chans := s.chans } = s) := by
  refine ⟨s.mapStaged c x, (execBgcalMapStaged_due ⟨henough, hon⟩ x).trans (congrArg _ (if_pos hok)), ?_, ?_, ?_, ?_, by simp [State.mapStaged, State.hitsCleared]⟩
  · rw [State.mapStaged_chan]; rfl
  · rw [State.mapStaged_chan]
  · rw [State.mapStaged_chan]
  · exact State.b_setB_self _ _ _ rfl rfl

theorem bgcalMapStaged_rejects (c x : Nat) (s : State) (henough : 2 ^ min 16 (max 12 (s.f Fld.RX_CAL_BGN)) ≤ (s.chan c).tapList.foldl (· + ·) 0)
    (hon : s.b Fld.RX_CAL_BGCAL = true)
    (hbad : s.mapOk ((s.chan c).tapList.foldl (· + ·) 0) (codeMap 64 ((s.chan c).tapList.foldl (· + ·) 0) 0 (s.chan c).tapList) (s.chan c).tapList = false) :
    Answers (.bgcalMapStaged c x) s (fun t => (t.chan c).hits = [] ∧ (t.chan c).map = (s.chan c).map ∧ (t.chan c).staged = (s.chan c).staged ∧
      t.causeSet Cause.RX_CAL_REJ = true ∧ { t with regs := s.regs, chans := s.chans } = s) := by
  refine ⟨(s.hitsCleared c).rejectMap c, (execBgcalMapStaged_due ⟨henough, hon⟩ x).trans (congrArg _ (if_neg ?_)), ?_, ?_, ?_, State.rejectMap_flagged _ c, ?_⟩
  · exact Bool.eq_false_iff.1 hbad
  · rw [State.rejected_chan]
  · rw [State.rejected_chan]
  · rw [State.rejected_chan]
  · simp [State.rejectMap, State.hitsCleared]

/-- Settles O30: an avalanche by `State.avalanche_seen` and the set that it completes or not, the windows by `State.closeExpired_form`, a background map by the check that it
passes or not. -/
theorem receiverEvents : Obligations.ReceiverEvents := by
  unfold Obligations.ReceiverEvents
  exact ⟨rxEvent_unseen, rxEvent_gateFirst, windowClose_young, rxCapctlArm_arms, bgcalMapStaged_restarts, bgcalMapStaged_off, rxEvent_setOpens, rxEvent_gateLast,
    rxEvent_enters, windowClose_keeps, bgcalMapStaged_stages, bgcalMapStaged_rejects⟩

end Sys2Proof.Machine
end


section
namespace Sys2Proof.Machine

/-! # What shows the clocks

O9 and O16 need to know of scanning's end and of every change of the device state that they leave the reset unit and the crystal's two bits of CLK_STATUS alone. -/

/-- The part of the state that the statements on the crystal speak of: the reset unit, and the bits of CLK_STATUS that say which oscillator clocks ACLK. -/
structure ClockView where
  rst : RstSt
  xtal : Bool
  fail : Bool

def State.clockView (s : State) : ClockView := { rst := s.rst, xtal := s.b Fld.CLK_STATUS_ACLK_XTAL, fail := s.b Fld.CLK_STATUS_XT32_FAIL }

/-- A cause whose flag and counter stand in other registers than CLK_STATUS. -/
def Cause.offClock (c : Cause) : Bool := decide (c.fld.addr ≠ Reg.CLK_STATUS) && decide (c.cnt.addr ≠ Reg.CLK_STATUS)

theorem State.clockView_congr {s t : State} (hrst : t.rst = s.rst) (hget : t.rget Reg.CLK_STATUS = s.rget Reg.CLK_STATUS) : t.clockView = s.clockView := by
  have hb (F : Fld) (h : F.addr = Reg.CLK_STATUS) : t.b F = s.b F := State.b_eq _ _ _ (by rw [h, hget])
  simp only [State.clockView, hrst, hb Fld.CLK_STATUS_ACLK_XTAL rfl, hb Fld.CLK_STATUS_XT32_FAIL rfl]

theorem State.clockView_ite (c : Prop) [Decidable c] (a b : State) : (if c then a else b).clockView = if c then a.clockView else b.clockView := by
  split <;> rfl

/-- What every step of a fold keeps, the fold keeps. -/
theorem foldl_keeps {α β : Type} (V : State → β) {g : State → α → State} {l : List α} (h : ∀ s, ∀ x ∈ l, V (g s x) = V s) (s : State) : V (l.foldl g s) = V s := by
  induction l generalizing s with
  | nil => rfl
  | cons x l ih =>
    rw [List.foldl_cons, ih (fun s y hy => h s y (List.mem_cons_of_mem _ hy)), h s x List.mem_cons_self]

/-! ## Single updates -/

@[simp] theorem State.rset_clockView {a : Nat} (h : a ≠ Reg.CLK_STATUS) (s : State) (v : Word) : (s.rset a v).clockView = s.clockView :=
  State.clockView_congr rfl (State.rget_rset_ne _ _ _ _ h.symm)
@[simp] theorem State.setF_clockView {F : Fld} (h : F.addr ≠ Reg.CLK_STATUS) (s : State) (x : Nat) : (s.setF F x).clockView = s.clockView :=
  State.rset_clockView h s _
@[simp] theorem State.setB_clockView {F : Fld} (h : F.addr ≠ Reg.CLK_STATUS) (s : State) (p : Bool) : (s.setB F p).clockView = s.clockView :=
  State.setF_clockView h s _
@[simp] theorem State.incSat_clockView {F : Fld} (h : F.addr ≠ Reg.CLK_STATUS) (s : State) (n : Nat) : (s.incSat F n).clockView = s.clockView :=
  State.setF_clockView h s _
@[simp] theorem State.incMod_clockView {F : Fld} (h : F.addr ≠ Reg.CLK_STATUS) (s : State) (n : Nat) : (s.incMod F n).clockView = s.clockView :=
  State.setF_clockView h s _
@[simp] theorem State.raise_clockView {c : Cause} (h : c.offClock = true) (s : State) : (s.raise c).clockView = s.clockView := by
  simp only [Cause.offClock, Bool.and_eq_true, decide_eq_true_eq] at h
  rw [State.raise_eq, State.setF_clockView h.1, State.incSat_clockView h.2]
@[simp] theorem State.raiseIf_clockView {c : Cause} (h : c.offClock = true) (s : State) (p : Bool) : (s.raiseIf p c).clockView = s.clockView := by
  cases p
  · rfl
  · exact State.raise_clockView h s

@[simp] theorem State.withDev_clockView (s : State) (x : Dev) : (s.withDev x).clockView = s.clockView := (rfl)
@[simp] theorem State.withPins_clockView (s : State) (x : PinSt) : (s.withPins x).clockView = s.clockView := (rfl)
@[simp] theorem State.withAmp_clockView (s : State) (x : AmpSt) : (s.withAmp x).clockView = s.clockView := (rfl)
@[simp] theorem State.withScan_clockView (s : State) (x : ScanSt) : (s.withScan x).clockView = s.clockView := (rfl)
@[simp] theorem State.withNvm_clockView (s : State) (x : Nvm) : (s.withNvm x).clockView = s.clockView := (rfl)
@[simp] theorem State.withEmit_clockView (s : State) (x : EmitSt) : (s.withEmit x).clockView = s.clockView := (rfl)
@[simp] theorem State.withChans_clockView (s : State) (x : SMap ChanSt) : (s.withChans x).clockView = s.clockView := (rfl)
@[simp] theorem State.withClus_clockView (s : State) (x : SMap CluSt) : (s.withClus x).clockView = s.clockView := (rfl)
@[simp] theorem State.fresh_clockView (s : State) : s.fresh.2.clockView = s.clockView := (rfl)
@[simp] theorem State.withWort_clockView (s : State) (x : WortSt) : (s.withWort x).clockView = s.clockView := (rfl)
@[simp] theorem State.withMash_clockView (s : State) (x : MashSt) : (s.withMash x).clockView = s.clockView := (rfl)
@[simp] theorem State.withLau_clockView (s : State) (x : LauSt) : (s.withLau x).clockView = s.clockView := (rfl)
@[simp] theorem State.withGuard_clockView (s : State) (x : GuardSt) : (s.withGuard x).clockView = s.clockView := (rfl)
@[simp] theorem State.withCask_clockView (s : State) (x : CaskSt) : (s.withCask x).clockView = s.clockView := (rfl)
@[simp] theorem State.setStr_clockView (s : State) (n : Nat) (x : StrSt) : (s.setStr n x).clockView = s.clockView := (rfl)
@[simp] theorem State.setChan_clockView (s : State) (c : Nat) (x : ChanSt) : (s.setChan c x).clockView = s.clockView := (rfl)
@[simp] theorem State.setCluster_clockView (s : State) (k : Nat) (x : CluSt) : (s.setCluster k x).clockView = s.clockView := (rfl)
@[simp] theorem State.setGsweep_clockView (s : State) (n : Nat) (x : GSweep) : (s.setGsweep n x).clockView = s.clockView := (rfl)
@[simp] theorem State.modCore_clockView (s : State) (c : Nat) (g : CoreSt → CoreSt) : (s.modCore c g).clockView = s.clockView := (rfl)
@[simp] theorem State.modStream_clockView (s : State) (st : Nat) (g : StreamSt → StreamSt) : (s.modStream st g).clockView = s.clockView := (rfl)
@[simp] theorem State.setDgOpen_clockView (s : State) (k : Nat) (d : Option (List OutRec × Nat)) : (s.setDgOpen k d).clockView = s.clockView := (rfl)
@[simp] theorem State.modChAcc_clockView (s : State) (c : Nat) (old : Bool) (g : ChAcc → ChAcc) : (s.modChAcc c old g).clockView = s.clockView := (rfl)
@[simp] theorem State.line_clockView (s : State) (c i : Nat) : (s.line c i).clockView = s.clockView := (rfl)
@[simp] theorem State.msetW_clockView (s : State) (a : Nat) (v : Word) : (s.msetW a v).clockView = s.clockView := by
  have hbyte (p : State) (i : Nat) (x : Byte) : (p.mset i x).clockView = p.clockView := rfl
  simp only [State.msetW, State.msetH, hbyte]
@[simp] theorem State.latchColumn_clockView (s : State) : s.latchColumn.clockView = s.clockView := (rfl)

@[simp] theorem State.nvmKick_clockView (s : State) : s.nvmKick.clockView = s.clockView := by
  obtain ⟨n, e⟩ := State.nvmKick_form s
  rw [e]; rfl
@[simp] theorem State.nvmPush_clockView (s : State) (w : NvmWrite) : (s.nvmPush w).clockView = s.clockView := by
  unfold State.nvmPush
  simp
@[simp] theorem State.logEvent_clockView (s : State) (c : Nat) (x y : Word) : (s.logEvent c x y).clockView = s.clockView := by
  unfold State.logEvent
  split
  · simp
  · exact State.incSat_clockView (by decide) _ _

/-! ## A change of the device state -/

@[simp] theorem State.soutOff_clockView (s : State) : s.soutOff.clockView = s.clockView := by
  unfold State.soutOff
  split
  · simp (disch := decide)
  · rfl
@[simp] theorem State.guardFollow_clockView (s : State) : s.guardFollow.clockView = s.clockView := by
  unfold State.guardFollow
  split <;> simp
@[simp] theorem State.lockFollow_clockView (s : State) : s.lockFollow.clockView = s.clockView := by
  unfold State.lockFollow
  split <;> simp (disch := decide)
@[simp] theorem State.vspadFollow_clockView (s : State) : s.vspadFollow.clockView = s.clockView := by
  unfold State.vspadFollow
  split <;> simp (disch := decide)
/-- PLLA's lock bit stands beside the crystal's bits in CLK_STATUS. -/
@[simp] theorem State.pllaFollow_clockView (s : State) : s.pllaFollow.clockView = s.clockView := by
  have hx : (s.setB Fld.CLK_STATUS_PLLA_LOCK false).b Fld.CLK_STATUS_ACLK_XTAL = s.b Fld.CLK_STATUS_ACLK_XTAL :=
    State.b_setF_apart s _ _ _ (by decide) (by decide)
  have hf : (s.setB Fld.CLK_STATUS_PLLA_LOCK false).b Fld.CLK_STATUS_XT32_FAIL = s.b Fld.CLK_STATUS_XT32_FAIL :=
    State.b_setF_apart s _ _ _ (by decide) (by decide)
  unfold State.pllaFollow
  split
  · rfl
  · simp only [State.clockView, hx, hf, State.setB_rst]

@[simp] theorem State.changeAbort_clockView (s : State) (uid : Nat) : (s.changeAbort uid).1.clockView = s.clockView := by
  unfold State.changeAbort
  split
  · rfl
  · dsimp only
    split <;> simp (disch := decide)
@[simp] theorem State.endSession_clockView (s : State) : s.endSession.clockView = s.clockView := by
  unfold State.endSession
  split
  · rfl
  · dsimp only
    split <;> simp
@[simp] theorem State.caskRefuse_clockView (s : State) : s.caskRefuse.clockView = s.clockView := by
  simp (disch := decide) only [State.caskRefuse, State.clockView_ite, State.logEvent_clockView, State.withCask_clockView, State.raise_clockView,
    State.incSat_clockView, ite_self]
@[simp] theorem State.lrsOwn_clockView (s : State) (first : Bool) (kind : Nat) (data : List Word) : (s.lrsOwn first kind data).clockView = s.clockView := by
  unfold State.lrsOwn
  split <;> rfl
@[simp] theorem State.serviceLeave_clockView (s : State) : s.serviceLeave.clockView = s.clockView := by
  unfold State.serviceLeave
  simp only [State.clockView_ite, State.lrsOwn_clockView, ite_self]
  exact foldl_keeps State.clockView (fun s _ _ => State.caskRefuse_clockView s) _
@[simp] theorem State.setDev_clockView (s : State) (d : Dev) : (s.setDev d).clockView = s.clockView := by
  unfold State.setDev
  split
  · rfl
  · simp (disch := decide)
@[simp] theorem State.toState_clockView (s : State) (d : Dev) : (s.toState d).clockView = s.clockView := by
  have hpend : Fld.AMP_STATE_PEND_START.addr ≠ Reg.CLK_STATUS := by decide
  have henter (p : State) : p.serviceEnter.clockView = p.clockView := rfl
  simp only [State.toState, State.guardFollow_clockView, State.vspadFollow_clockView, State.pllaFollow_clockView, State.lockFollow_clockView,
    State.clockView_ite, henter, State.setB_clockView hpend, State.setDev_clockView, State.serviceLeave_clockView, State.endSession_clockView, ite_self]

/-! ## The end of a column -/

theorem Reg.rxCal_ne_clk (c : Nat) : 0x62000 + 4 * c ≠ Reg.CLK_STATUS ∧ 0x63000 + 4 * c ≠ Reg.CLK_STATUS := by
  unfold Reg.CLK_STATUS
  omega

@[simp] theorem State.confirm_clockView (s : State) : s.confirm.clockView = s.clockView := by
  unfold State.confirm
  simp (disch := decide)
@[simp] theorem State.guardInhibit_clockView (s : State) : s.guardInhibit.clockView = s.clockView := by
  unfold State.guardInhibit
  split <;> simp
@[simp] theorem State.guardColumn_clockView (s : State) (m az n : Nat) (inh : Bool) : (s.guardColumn m az n inh).clockView = s.clockView := by
  unfold State.guardColumn
  split
  · rfl
  · simp (disch := decide)
@[simp] theorem State.reduceEntry_clockView (s : State) (i c : Nat) : (s.reduceEntry i c).clockView = s.clockView := by
  unfold State.reduceEntry
  split <;> rfl
@[simp] theorem State.dropPlanned_clockView (s : State) (c : Nat) : (s.dropPlanned c).clockView = s.clockView := by
  unfold State.dropPlanned
  refine foldl_keeps State.clockView (fun s n _ => ?_) s
  dsimp only
  rw [State.setStr_clockView]
  exact foldl_keeps State.clockView (fun s _ _ => State.reduceEntry_clockView s _ _) s
@[simp] theorem State.closeAmb_clockView (s : State) : s.closeAmb.clockView = s.clockView := by
  unfold State.closeAmb
  exact foldl_keeps State.clockView (fun s _ _ => foldl_keeps State.clockView (fun s _ _ => State.modChAcc_clockView s _ _ _) s) s
@[simp] theorem State.caskBoundary_clockView (s : State) : s.caskBoundary.clockView = s.clockView := by
  simp (disch := decide) only [State.caskBoundary, State.clockView_ite, State.lrsOwn_clockView, State.raise_clockView, State.setB_clockView, ite_self]
@[simp] theorem State.kilnLast_clockView (s : State) (g : Grant) (st : Nat) : (s.kilnLast g st).clockView = s.clockView := by
  unfold State.kilnLast
  simp (disch := decide)
@[simp] theorem State.closeColumn_clockView (s : State) (t : Nat) (ends : Bool) (fue : List Nat) : (s.closeColumn t ends fue).clockView = s.clockView := by
  unfold State.closeColumn
  split
  · rfl
  · simp only [State.withScan_clockView, State.clockView_ite, State.caskBoundary_clockView, State.guardColumn_clockView, State.closeAmb_clockView,
      State.kilnLast_clockView, State.dropPlanned_clockView, ite_self]

/-! ## The bank swap -/

@[simp] theorem State.closeExpired_clockView (s : State) (k t : Nat) : (s.closeExpired k t).clockView = s.clockView := by
  have hgone (p : State) (w : Win) (t : Nat) : (p.windowGone k w t false).clockView = p.clockView := rfl
  unfold State.closeExpired
  exact foldl_keeps State.clockView (fun s w _ => hgone s w _) _
@[simp] theorem State.activateMap_clockView (s : State) (c : Nat) (map : List Nat) (dnl : Nat) : (s.activateMap c map dnl).clockView = s.clockView := by
  have hdnl : (Fld.RX_TDC_DNL c).addr ≠ Reg.CLK_STATUS := (Reg.rxCal_ne_clk c).2
  have hvalid : (Fld.RX_TDC_VALID c).addr ≠ Reg.CLK_STATUS := (Reg.rxCal_ne_clk c).2
  unfold State.activateMap
  dsimp only
  split <;> simp (disch := decide) [State.setB_clockView hvalid, State.setF_clockView hdnl]
@[simp] theorem State.switchMaps_clockView (s : State) (t : Nat) : (s.switchMaps t).clockView = s.clockView := by
  have hgen (c : Nat) : (Fld.RX_TDC_MAPGEN c).addr ≠ Reg.CLK_STATUS := (Reg.rxCal_ne_clk c).2
  unfold State.switchMaps
  refine foldl_keeps State.clockView (fun s c _ => ?_) s
  dsimp only
  split
  · split
    · rw [State.setChan_clockView, State.incMod_clockView (hgen c), State.activateMap_clockView]
    · rfl
  · rfl
@[simp] theorem State.markMaps_clockView (s : State) : s.markMaps.clockView = s.clockView := by
  unfold State.markMaps
  refine foldl_keeps State.clockView (fun s c _ => ?_) s
  dsimp only
  split <;> simp
@[simp] theorem State.showAmb_clockView (s : State) (c : Nat) (a : Amb) : (s.showAmb c a).clockView = s.clockView := by
  have h {F : Fld} (hF : F.addr = 0x62000 + 4 * c) : F.addr ≠ Reg.CLK_STATUS := hF ▸ (Reg.rxCal_ne_clk c).1
  unfold State.showAmb
  rw [State.setB_clockView (h rfl), State.setF_clockView (h rfl), State.setF_clockView (h rfl), State.setF_clockView (h rfl)]
@[simp] theorem State.markStale_clockView (s : State) (k : Nat) : (s.markStale k).clockView = s.clockView := by
  unfold State.markStale
  rw [foldl_keeps State.clockView (fun s j _ => State.showAmb_clockView s _ _), State.raise_clockView (by decide)]
@[simp] theorem State.doSwap_clockView (s : State) (t : Nat) : (s.doSwap t).clockView = s.clockView := by
  unfold State.doSwap
  dsimp only
  rw [foldl_keeps State.clockView]
  · simp (disch := decide)
  · intro s k _
    split
    · exact State.markStale_clockView s k
    · rfl
@[simp] theorem State.mashTrigger_clockView (s : State) (t : Nat) (g : Grant) : (s.mashTrigger t g).clockView = s.clockView := by
  simp only [State.mashTrigger, State.clockView_ite, State.doSwap_clockView, State.withMash_clockView, ite_self]
  refine foldl_keeps State.clockView (fun s k _ => ?_) s
  simp only [State.setCluster_clockView, State.clockView_ite, State.closeExpired_clockView, ite_self]

/-! ## Tap, streams and Lauter at the swap -/

theorem Reg.tap_ne_clk (c : Nat) : (Fld.DSP_TAPWR_OFS c).addr ≠ Reg.CLK_STATUS ∧ (Fld.DSP_TAPDROP_COUNT c).addr ≠ Reg.CLK_STATUS := by
  simp only [Fld.DSP_TAPWR_OFS, Fld.DSP_TAPDROP_COUNT, Reg.CLK_STATUS]
  omega

@[simp] theorem State.tapWrite_clockView (s : State) (c : Nat) : (s.tapWrite c).clockView = s.clockView := by
  have hword (p : State) (w : Word) : (p.tapWord c w).clockView = p.clockView := by
    unfold State.tapWord
    rw [State.setF_clockView (Reg.tap_ne_clk c).1, State.msetW_clockView]
  unfold State.tapWrite
  split
  · rfl
  · rw [State.line_clockView, State.modCore_clockView, foldl_keeps State.clockView (fun s w _ => hword s w)]
@[simp] theorem State.tapFlush_clockView (s : State) (m : Nat) : (s.tapFlush m).clockView = s.clockView := by
  unfold State.tapFlush
  refine foldl_keeps State.clockView (fun s c _ => ?_) s
  split
  · rfl
  · split
    · exact State.tapWrite_clockView s c
    · rfl
@[simp] theorem State.tapReserve_clockView {c : Nat} (h : (Cause.DSP_TAPDROP c).offClock = true) (s : State) (i : ColInfo) :
    (s.tapReserve c i).clockView = s.clockView := by
  unfold State.tapReserve
  split
  · rfl
  · dsimp only
    split
    · rw [State.line_clockView, State.raise_clockView h, State.incSat_clockView (Reg.tap_ne_clk c).2]
    · simp
@[simp] theorem State.omitFrame_clockView (s : State) (st frame cause : Nat) : (s.omitFrame st frame cause).clockView = s.clockView := by
  simp (disch := decide) only [State.omitFrame, State.clockView_ite, State.incSat_clockView, State.modStream_clockView, ite_self]
@[simp] theorem State.closeDgram_clockView (s : State) (k : Nat) : (s.closeDgram k).clockView = s.clockView := by
  unfold State.closeDgram
  split <;> simp
@[simp] theorem State.dgramAdd_clockView (s : State) (k : Nat) (r : OutRec) : (s.dgramAdd k r).clockView = s.clockView := by
  unfold State.dgramAdd
  dsimp only
  rw [State.setDgOpen_clockView]
  split <;> simp
@[simp] theorem State.writeRec_clockView (s : State) (st : Nat) (r : OutRec) : (s.writeRec st r).clockView = s.clockView := by
  unfold State.writeRec
  dsimp only
  split <;> simp (disch := decide)
@[simp] theorem State.startHead_clockView (s : State) (st : Nat) : (s.startHead st).clockView = s.clockView := by
  unfold State.startHead
  split
  · rfl
  · split
    · rfl
    · dsimp only
      rw [foldl_keeps State.clockView (fun s x _ => State.writeRec_clockView s st x)]
      simp (disch := decide)
@[simp] theorem State.finishHead_clockView (s : State) (st : Nat) : (s.finishHead st).clockView = s.clockView := by
  unfold State.finishHead
  dsimp only
  rw [State.startHead_clockView]
  split <;> simp
@[simp] theorem State.settle_clockView (s : State) (st k : Nat) : (s.settle st k).clockView = s.clockView := by
  induction k generalizing s with
  | zero => rfl
  | succ k ih =>
    unfold State.settle
    split
    · rfl
    · dsimp only
      split
      · rw [ih, State.finishHead_clockView, State.modStream_clockView]
      · simp
@[simp] theorem State.emitEcho_clockView (s : State) (st : Nat) : (s.emitEcho st).clockView = s.clockView := by
  unfold State.emitEcho
  dsimp only
  split
  · simp
  · split
    · simp
    · split <;> simp
@[simp] theorem State.emitAll_clockView (s : State) (st k : Nat) : (s.emitAll st k).clockView = s.clockView := by
  induction k generalizing s with
  | zero => rfl
  | succ k ih => rw [State.emitAll, ih, State.emitEcho_clockView]
@[simp] theorem State.wortForget_clockView (s : State) (m : Nat) : (s.wortForget m).clockView = s.clockView := by
  unfold State.wortForget State.forgetDone
  simp
@[simp] theorem State.admitCol_clockView (s : State) (st : Nat) (c : ColInfo) : (s.admitCol st c).clockView = s.clockView := by
  have hovf : (if st = 0 then Cause.WORT_OVF else Cause.WORT_ETH_OVF).offClock = true := by split <;> decide
  have hdec : Cause.WORT_DEC.offClock = true := by decide
  have hold : Cause.WORT_ANCH_OLD.offClock = true := by decide
  have hframe : Fld.WORT_FRAME_FRAME.addr ≠ Reg.CLK_STATUS := by decide
  simp only [State.admitCol, State.clockView_ite, State.modStream_clockView, State.omitFrame_clockView, State.raise_clockView hovf,
    State.raiseIf_clockView hdec, State.raiseIf_clockView hold, State.setF_clockView hframe, State.startHead_clockView, State.settle_clockView, ite_self]
@[simp] theorem State.lauLatch_clockView (s : State) (col : LauCol) (fue : List Nat) : (s.lauLatch col fue).clockView = s.clockView := by
  unfold State.lauLatch
  dsimp only
  rw [State.withLau_clockView]
  refine foldl_keeps State.clockView (fun s _ _ => ?_) s
  simp (disch := decide)
@[simp] theorem State.dropOldest_clockView (s : State) : s.dropOldest.clockView = s.clockView := by
  unfold State.dropOldest
  split <;> simp
@[simp] theorem State.finishClose_clockView (s : State) : s.finishClose.clockView = s.clockView := by
  unfold State.finishClose
  split
  · rfl
  · dsimp only
    rw [State.lauLatch_clockView, State.line_clockView, State.line_clockView, State.admitCol_clockView, State.admitCol_clockView,
      State.tapReserve_clockView (by decide), State.tapReserve_clockView (by decide), State.dropOldest_clockView, State.withScan_clockView]
@[simp] theorem State.columnSwap_clockView (s : State) (t : Nat) (g : Grant) : (s.columnSwap t g).clockView = s.clockView := by
  simp only [State.columnSwap, State.clockView_ite, State.finishClose_clockView, State.mashTrigger_clockView, ite_self]

/-! ## The end of scanning, and SAFE -/

@[simp] theorem State.followInhibit_clockView (s : State) : s.followInhibit.clockView = s.clockView := by
  have hnext (p : State) : p.dropNext.clockView = p.clockView := rfl
  simp (disch := decide) only [State.followInhibit, State.clockView_ite, State.guardInhibit_clockView, hnext, State.dropPlanned_clockView,
    State.setB_clockView, ite_self]
@[simp] theorem State.scanIdle_clockView (s : State) : s.scanIdle.clockView = s.clockView := by
  have hemit (p : State) : p.emitIdle.clockView = p.clockView := rfl
  unfold State.scanIdle
  dsimp only
  rw [hemit, foldl_keeps State.clockView (fun s n _ => State.setStr_clockView s n _)]
  simp (disch := decide)
@[simp] theorem State.scanOff_clockView (s : State) (t : Nat) (zero : Bool) : (s.scanOff t zero).clockView = s.clockView := by
  have hoff (p : State) : p.emxOff.clockView = p.clockView := rfl
  simp (disch := decide) only [State.scanOff, State.hzdAssert, State.emxSendZero, State.emxSend, State.clockView_ite, State.raiseIf_clockView,
    State.setB_clockView, State.withEmit_clockView, State.incMod_clockView, hoff, State.scanIdle_clockView, State.columnSwap_clockView,
    State.latchColumn_clockView, State.closeColumn_clockView, ite_self]

/-- A SAFE cause leaves the reset unit and the clocks as they are. -/
@[simp] theorem State.enterSafe_clockView (s : State) (bit : Nat) : (s.enterSafe bit).clockView = s.clockView := by
  simp (disch := decide) only [State.enterSafe, State.clockView_ite, State.toState_clockView, State.logEvent_clockView, State.withScan_clockView,
    State.withPins_clockView, State.scanOff_clockView, State.setF_clockView, ite_self]

end Sys2Proof.Machine
end

section
namespace Sys2Proof.Machine

/-! # The crystal (R41) -/

/-- The crystal is given up: ACLK runs from the RC oscillator, and CLK_STATUS says so. -/
def State.xtLost (s : State) : State := ((s.withRst { s.rst with xt := 2 }).setB Fld.CLK_STATUS_ACLK_XTAL false).raise Cause.CLK_STATUS_XT32_FAIL

theorem State.xtFail_eq (s : State) : s.xtFail = if s.rst.rcAllowed || s.dev = .boot then s.xtLost else s.xtLost.enterSafe 4 := (rfl)

theorem State.xtLost_clockView (s : State) : s.xtLost.clockView = { rst := { s.rst with xt := 2 }, xtal := false, fail := true } := by
  have hxtal : s.xtLost.b Fld.CLK_STATUS_ACLK_XTAL = false := by
    unfold State.xtLost
    rw [State.b_raise_apart _ _ _ (by decide) (by decide) (by decide) (by decide)]
    exact State.b_setB_self _ _ _ (by decide) rfl
  have hfail : s.xtLost.b Fld.CLK_STATUS_XT32_FAIL = true := State.b_raise_self _ Cause.CLK_STATUS_XT32_FAIL (by decide)
  rw [State.clockView, hxtal, hfail]
  rfl

theorem State.xtLost_frame (s : State) : { s.xtLost with regs := s.regs, rst := s.rst } = s := by simp [State.xtLost]

/-- With or without an entry to SAFE, the crystal is given up. -/
theorem State.xtFail_clockView (s : State) : s.xtFail.clockView = { rst := { s.rst with xt := 2 }, xtal := false, fail := true } := by
  rw [State.xtFail_eq, State.clockView_ite, State.enterSafe_clockView, ite_self, State.xtLost_clockView]

theorem State.xtFail_shows (s : State) : s.xtFail.rst.xt = 2 ∧ s.xtFail.b Fld.CLK_STATUS_ACLK_XTAL = false ∧ s.xtFail.b Fld.CLK_STATUS_XT32_FAIL = true := by
  have h := s.xtFail_clockView
  exact ⟨congrArg (fun v => v.rst.xt) h, congrArg ClockView.xtal h, congrArg ClockView.fail h⟩

/-- Where the RC oscillator may clock ACLK, or in BOOT, that is all. -/
theorem State.xtFail_frame (s : State) (h : s.rst.rcAllowed = true ∨ s.dev = .boot) : { s.xtFail with regs := s.regs, rst := s.rst } = s := by
  rw [State.xtFail_eq, if_pos (by simpa using h), State.xtLost_frame]

/-- In PARK the SAFE cause is kept for PARK_EXIT. -/
theorem State.xtFail_park (s : State) (hrc : s.rst.rcAllowed = false) (hdev : s.dev = .park) :
    (s.xtFail.f Fld.AMP_STATE_SAFE_CAUSE).testBit 4 = true ∧ s.xtFail.dev = .park := by
  have hlost : s.xtLost.dev = .park := hdev
  have hsafe : s.xtFail = s.xtLost.setF Fld.AMP_STATE_SAFE_CAUSE (s.xtLost.f Fld.AMP_STATE_SAFE_CAUSE ||| 2 ^ 4) := by
    rw [State.xtFail_eq, if_neg (by simp [hrc, hdev])]
    exact if_neg (by simp [hlost])
  refine ⟨?_, hsafe ▸ hlost⟩
  rw [hsafe, State.f_setF_self _ _ _ (by decide), Nat.testBit_mod_two_pow, State.testBit_or_pow]
  rfl

theorem execXt32Fail_used (s : State) (h : s.rst.xt = 1) : exec .xt32Fail s = .next s.xtFail := congrArg _ (if_pos h)

theorem execXt32Timeout_due (s : State) (hphase : s.rst.phase ≠ .off) (hfit : s.rst.xtFitted = true) (hxt : s.rst.xt = 0) :
    exec .xt32Timeout s = .next s.xtFail := congrArg _ (if_pos (by simp [hphase, hfit, hxt]))

theorem xt32Qualified_fitted (s : State) (hphase : s.rst.phase ≠ .off) (hfit : s.rst.xtFitted = true) (hxt : s.rst.xt = 0) :
    Answers .xt32Qualified s (fun t => t.rst.xt = 1 ∧ t.b Fld.CLK_STATUS_ACLK_XTAL = true ∧ State.regsBut [Reg.CLK_STATUS] s t ∧
      { t with regs := s.regs, rst := s.rst } = s) :=
  ⟨(s.withRst { s.rst with xt := 1 }).setB Fld.CLK_STATUS_ACLK_XTAL true, congrArg _ (if_pos (by simp [hphase, hfit, hxt])), rfl,
    State.b_setB_self _ _ _ (by decide) rfl, State.regsBut_setB _ _ (State.regsBut_of (State.regsBut_refl _ s) rfl) (by decide), rfl⟩

/-! # RST_N (R53, R54) -/

theorem rstNLow_accepted (s : State) (hphase : s.rst.phase ≠ .off) (hstuck : s.b Fld.RST_PIN_RSTPIN_STUCK = false) (hlow : s.rst.rstnLow = false) :
    Answers .rstNLow s (fun t => t.rst.raised.testBit 2 = true ∧ t.rst.rstnLow = true ∧ { t with rst := s.rst } = s) :=
  ⟨(s.withRst { s.rst with rstnLow := true }).raiseReset 2, congrArg _ (if_neg (by simp [hphase, hstuck, hlow])), State.raiseReset_raised _ 2, rfl, rfl⟩

/-- The pin is marked as stuck. -/
def State.pinStuck (s : State) : State := (s.setB Fld.RST_PIN_RSTPIN_STUCK true).setB Fld.RST_PIN_STUCK_SEEN true

theorem State.pinStuck_shows (s : State) : s.pinStuck.b Fld.RST_PIN_RSTPIN_STUCK = true ∧ s.pinStuck.b Fld.RST_PIN_STUCK_SEEN = true := by
  refine ⟨?_, State.b_setB_self _ _ _ (by decide) rfl⟩
  exact (State.b_setF_apart _ _ _ _ (by decide) (by decide)).trans (State.b_setB_self _ _ _ (by decide) rfl)

theorem State.pinStuck_regsBut (s : State) : State.regsBut [Reg.RST_PIN, Reg.THERM_CNT] s s.pinStuck :=
  State.regsBut_setB _ _ (State.regsBut_setB _ _ (State.regsBut_refl _ s) (by decide)) (by decide)

theorem State.pinStuck_frame (s : State) : { s.pinStuck with regs := s.regs, nvm := s.nvm } = s := by simp [State.pinStuck]

/-- A log entry changes registers and the NVM's queue alone. -/
theorem State.logEvent_frame (s t : State) (c : Nat) (x y : Word) :
    { t.logEvent c x y with regs := s.regs, nvm := s.nvm } = { t with regs := s.regs, nvm := s.nvm } := by
  obtain ⟨n, r, h⟩ := State.logEvent_form t c x y
  rw [h]

theorem rstNStuck_low (s : State) (hlow : s.rst.rstnLow = true) (hstuck : s.b Fld.RST_PIN_RSTPIN_STUCK = false) :
    Answers .rstNStuck s (fun t => t.b Fld.RST_PIN_RSTPIN_STUCK = true ∧ t.b Fld.RST_PIN_STUCK_SEEN = true ∧
      State.regsBut [Reg.RST_PIN, Reg.THERM_CNT] s t ∧ { t with regs := s.regs, nvm := s.nvm } = s) := by
  obtain ⟨hpin, hseen⟩ := s.pinStuck_shows
  refine ⟨s.pinStuck.logEvent 0x0003 (s.pinStuck.rget Reg.RST_PIN) 0, if_neg (by simp [hlow, hstuck]), ?_, ?_, ?_, ?_⟩
  · rwa [State.b_logEvent _ _ _ _ _ (by decide)]
  · rwa [State.b_logEvent _ _ _ _ _ (by decide)]
  · exact State.regsBut_logEvent _ _ _ s.pinStuck_regsBut (by decide)
  · exact (State.logEvent_frame s _ _ _ _).trans s.pinStuck_frame

theorem rstNRearm_stuck (s : State) (h : s.b Fld.RST_PIN_RSTPIN_STUCK = true) :
    Answers .rstNRearm s (fun t => t.b Fld.RST_PIN_RSTPIN_STUCK = false ∧ t.rst.rstnLow = false ∧ State.regsBut [Reg.RST_PIN] s t ∧
      { t with regs := s.regs, rst := s.rst } = s) :=
  ⟨(s.withRst { s.rst with rstnLow := false }).setB Fld.RST_PIN_RSTPIN_STUCK false, congrArg _ (if_pos h), State.b_setB_self _ _ _ (by decide) rfl, rfl,
    State.regsBut_setB _ _ (State.regsBut_of (State.regsBut_refl _ s) rfl) (by decide), rfl⟩

/-- Settles O9: the crystal by what `State.xtFail` shows, which an entry to SAFE leaves as it is; RST_N by its three rows. -/
theorem crystalAndResetPin : Obligations.CrystalAndResetPin := by
  unfold Obligations.CrystalAndResetPin
  refine ⟨xt32Qualified_fitted, ?_, ?_, ?_, rstNLow_accepted, rstNStuck_low, rstNRearm_stuck, ?_, ?_⟩
  · intro s hxt hsafe
    obtain ⟨h2, hxtal, hfail⟩ := s.xtFail_shows
    exact ⟨_, execXt32Fail_used s hxt, h2, hxtal, hfail, s.xtFail_frame hsafe⟩
  · intro s hphase hfit hxt hsafe
    obtain ⟨h2, hxtal, hfail⟩ := s.xtFail_shows
    exact ⟨_, execXt32Timeout_due s hphase hfit hxt, h2, hxtal, hfail, s.xtFail_frame hsafe⟩
  · intro s hxt hrc hdev
    obtain ⟨-, -, hfail⟩ := s.xtFail_shows
    obtain ⟨hcause, hpark⟩ := s.xtFail_park hrc hdev
    exact ⟨_, execXt32Fail_used s hxt, hcause, hfail, hpark⟩
  · exact fun s hxt => ⟨_, execXt32Fail_used s hxt, s.xtFail_shows⟩
  · exact fun s hphase hfit hxt => ⟨_, execXt32Timeout_due s hphase hfit hxt, s.xtFail_shows⟩

end Sys2Proof.Machine
end


section
namespace Sys2Proof.Machine

/-! # What a change of the device state leaves alone -/

/-- The state without the parts that a change of the device state may touch: the registers, the NVM's queue, the scan, the Guard, the Cask and the AMP session. -/
def State.still (s : State) : State := { s with dev := .boot, regs := [], nvm := {}, scan := {}, guard := {}, cask := {}, amp := {} }

theorem State.still_ite (c : Prop) [Decidable c] (a b : State) : (if c then a else b).still = if c then a.still else b.still := by split <;> rfl

@[simp] theorem State.setF_still (s : State) (F : Fld) (x : Nat) : (s.setF F x).still = s.still := (rfl)
@[simp] theorem State.setB_still (s : State) (F : Fld) (p : Bool) : (s.setB F p).still = s.still := (rfl)
@[simp] theorem State.rset_still (s : State) (a : Nat) (v : Word) : (s.rset a v).still = s.still := (rfl)
@[simp] theorem State.raise_still (s : State) (c : Cause) : (s.raise c).still = s.still := by
  have hinc (n : Nat) : (s.incSat c.cnt n).still = s.still := rfl
  rw [State.raise_eq, State.setF_still, hinc]
@[simp] theorem State.withScan_still (s : State) (x : ScanSt) : (s.withScan x).still = s.still := (rfl)
@[simp] theorem State.withGuard_still (s : State) (x : GuardSt) : (s.withGuard x).still = s.still := (rfl)
@[simp] theorem State.withCask_still (s : State) (x : CaskSt) : (s.withCask x).still = s.still := (rfl)
@[simp] theorem State.withAmp_still (s : State) (x : AmpSt) : (s.withAmp x).still = s.still := (rfl)

@[simp] theorem State.nvmPush_still (s : State) (w : NvmWrite) : (s.nvmPush w).still = s.still := by
  obtain ⟨n, hn⟩ := State.nvmKick_form (s.withNvm { s.nvm with work := s.nvm.work ++ [w] })
  exact (congrArg State.still hn).trans rfl
@[simp] theorem State.logEvent_still (s : State) (c : Nat) (x y : Word) : (s.logEvent c x y).still = s.still := by
  obtain ⟨n, r, h⟩ := State.logEvent_form s c x y
  exact (congrArg State.still h).trans rfl
@[simp] theorem State.guardFollow_still (s : State) : s.guardFollow.still = s.still := by
  simp only [State.guardFollow, State.soutOff, State.still_ite, State.withGuard_still, State.setB_still, State.setF_still, ite_self]
@[simp] theorem State.lockFollow_still (s : State) : s.lockFollow.still = s.still := by
  simp only [State.lockFollow, State.still_ite, State.withScan_still, State.setB_still, ite_self]
@[simp] theorem State.pllaFollow_still (s : State) : s.pllaFollow.still = s.still := by
  simp only [State.pllaFollow, State.still_ite, State.setB_still, ite_self]
@[simp] theorem State.vspadFollow_still (s : State) : s.vspadFollow.still = s.still := by
  simp only [State.vspadFollow, State.still_ite, State.setF_still, ite_self]
@[simp] theorem State.changeAbort_still (s : State) (uid : Nat) : (s.changeAbort uid).1.still = s.still := by
  simp only [State.changeAbort, apply_ite Prod.fst, State.still_ite, State.nvmPush_still, State.rset_still, State.setB_still, ite_self]
@[simp] theorem State.endSession_still (s : State) : s.endSession.still = s.still := by
  unfold State.endSession
  split
  · rfl
  · simp only [State.still_ite, State.changeAbort_still, State.withAmp_still, ite_self]
@[simp] theorem State.caskRefuse_still (s : State) : s.caskRefuse.still = s.still := by
  have hinc (F : Fld) (n : Nat) : (s.incSat F n).still = s.still := rfl
  simp only [State.caskRefuse, State.still_ite, State.logEvent_still, State.withCask_still, State.raise_still, hinc, ite_self]
@[simp] theorem State.lrsOwn_still (s : State) (first : Bool) (kind : Nat) (data : List Word) : (s.lrsOwn first kind data).still = s.still := by
  simp only [State.lrsOwn, State.still_ite, State.withCask_still, ite_self]
@[simp] theorem State.serviceLeave_still (s : State) : s.serviceLeave.still = s.still := by
  simp only [State.serviceLeave, State.still_ite, State.lrsOwn_still, ite_self]
  exact foldl_keeps State.still (fun s _ _ => State.caskRefuse_still s) _
@[simp] theorem State.toState_still (s : State) (d : Dev) : (s.toState d).still = s.still := by
  have hwith (p : State) : (p.withDev d).still = p.still := rfl
  have hdev (p : State) : (p.setDev d).still = p.still := by
    simp only [State.setDev, State.still_ite, State.raise_still, State.setF_still, hwith, ite_self]
  have henter (p : State) : p.serviceEnter.still = p.still := rfl
  simp only [State.toState, State.guardFollow_still, State.vspadFollow_still, State.pllaFollow_still, State.lockFollow_still, State.still_ite, henter,
    State.setB_still, hdev, State.serviceLeave_still, State.endSession_still, ite_self]

theorem State.toState_emit (s : State) (d : Dev) : (s.toState d).emit = s.emit := by
  have h := congrArg State.emit (s.toState_still d)
  exact h

/-! # Leaving SCAN (R296) -/

theorem State.scanIdle_charging (s : State) : s.scanIdle.emit.charging = none := by
  have hidle (p : State) : p.emitIdle.emit.charging = none := rfl
  unfold State.scanIdle
  exact hidle _

/-- When scanning has ended nothing charges (Table 10.12). -/
theorem State.scanOff_charging (s : State) (t : Nat) (zero : Bool) : (s.scanOff t zero).emit.charging = none := by
  have hhzd (p : State) : p.hzdAssert.emit = p.emit := by simp only [State.hzdAssert, State.setB_emit, State.raiseIf, apply_ite State.emit, State.raise_emit, ite_self]
  have hzero (p : State) : p.emxSendZero.emit.charging = p.emit.charging := by
    simp only [State.emxSendZero, State.emxSend, State.withEmit_emit, State.incMod_emit]
  have hoff (p : State) : p.emxOff.emit.charging = p.emit.charging := rfl
  simp only [State.scanOff, hhzd, apply_ite State.emit, apply_ite EmitSt.charging, hzero, hoff, State.scanIdle_charging, ite_self]

theorem execScanLeave_stop {s : State} (x : Nat) (hdev : s.dev = .scan) (h : s.scan.leave = 1 ∨ s.scan.leave = 2) :
    exec (.scanLeave x) s = .next ((s.scanOff x true).toState (if s.scan.leave = 2 && !s.pins.sealedLow then .service else .idle)) := if_pos (by simpa [hdev] using h)

/-- SCAN is left for `d`, with nothing charging. -/
theorem scanLeave_to {s : State} (x : Nat) (d : Dev) (hdev : s.dev = .scan) (h : s.scan.leave = 1 ∨ s.scan.leave = 2)
    (hd : (if s.scan.leave = 2 && !s.pins.sealedLow then Dev.service else .idle) = d) : Answers (.scanLeave x) s (fun t => t.dev = d ∧ t.emit.charging = none) := by
  refine ⟨(s.scanOff x true).toState d, hd ▸ execScanLeave_stop x hdev h, State.toState_dev _ _, ?_⟩
  rw [State.toState_emit, State.scanOff_charging]

end Sys2Proof.Machine
end

section
namespace Sys2Proof.Machine

/-! # Entering SCAN (R57) -/

/-- What the entry to SCAN has settled once the engine is armed: the reset unit, the scan, the Tun, the Lauter, and the register with DWL's ACTIVE bit. -/
structure EntryView where
  rst : RstSt
  scan : ScanSt
  tun : SMap (BitVec 16)
  lau : LauSt
  dwl : Word

def State.entryView (s : State) : EntryView := { rst := s.rst, scan := s.scan, tun := s.tun, lau := s.lau, dwl := s.rget Reg.DWL_STAT }

theorem State.entryView_ite (c : Prop) [Decidable c] (a b : State) : (if c then a else b).entryView = if c then a.entryView else b.entryView := by
  split <;> rfl

@[simp] theorem State.setF_entryView {F : Fld} (h : F.addr ≠ Reg.DWL_STAT) (s : State) (x : Nat) : (s.setF F x).entryView = s.entryView := by
  have hget : (s.setF F x).rget Reg.DWL_STAT = s.rget Reg.DWL_STAT := State.rget_setF_ne s F x _ h.symm
  simp only [State.entryView, hget, State.setF_rst, State.setF_scan, State.setF_tun, State.setF_lau]
@[simp] theorem State.setB_entryView {F : Fld} (h : F.addr ≠ Reg.DWL_STAT) (s : State) (p : Bool) : (s.setB F p).entryView = s.entryView :=
  State.setF_entryView h s _
@[simp] theorem State.incSat_entryView {F : Fld} (h : F.addr ≠ Reg.DWL_STAT) (s : State) (n : Nat) : (s.incSat F n).entryView = s.entryView :=
  State.setF_entryView h s _
theorem State.raise_entryView {c : Cause} (hflag : c.fld.addr ≠ Reg.DWL_STAT) (hcnt : c.cnt.addr ≠ Reg.DWL_STAT) (s : State) :
    (s.raise c).entryView = s.entryView := by
  rw [State.raise_eq, State.setF_entryView hflag, State.incSat_entryView hcnt]
@[simp] theorem State.withGuard_entryView (s : State) (x : GuardSt) : (s.withGuard x).entryView = s.entryView := (rfl)
@[simp] theorem State.withCtl_entryView (s : State) (x : CtlSt) : (s.withCtl x).entryView = s.entryView := (rfl)
@[simp] theorem State.withChans_entryView (s : State) (x : SMap ChanSt) : (s.withChans x).entryView = s.entryView := (rfl)
@[simp] theorem State.withMash_entryView (s : State) (x : MashSt) : (s.withMash x).entryView = s.entryView := (rfl)
@[simp] theorem State.withHists_entryView (s : State) (x : SMap Hist) : (s.withHists x).entryView = s.entryView := (rfl)
@[simp] theorem State.setStr_entryView (s : State) (n : Nat) (x : StrSt) : (s.setStr n x).entryView = s.entryView := (rfl)
@[simp] theorem State.setCluster_entryView (s : State) (k : Nat) (x : CluSt) : (s.setCluster k x).entryView = s.entryView := (rfl)

/-- The fields of eight strings or 64 clusters that the entry writes stand in blocks below DWL. -/
theorem Reg.string_ne_dwl {n : Nat} (hn : n < 64) (j : Nat) : 0x30060 + 4 * n ≠ Reg.DWL_STAT ∧ 0x300E0 + 4 * n ≠ Reg.DWL_STAT ∧
    0x30100 + 4 * n ≠ Reg.DWL_STAT ∧ 0x70200 + 4 * n ≠ Reg.DWL_STAT ∧ 0xA0800 + 4 * n ≠ Reg.DWL_STAT ∧
    0xA0410 + 0x80 * n + 0x20 * j ≠ Reg.DWL_STAT ∧ 0xA0418 + 0x80 * n + 0x20 * j ≠ Reg.DWL_STAT := by
  unfold Reg.DWL_STAT
  omega

/-- The Tun is cleared, and nothing else of the view. -/
theorem State.tunClear_entryView (s : State) : s.tunClear.entryView = { s.entryView with tun := [] } := by
  have htun (p : State) : (p.withTun []).entryView = { p.entryView with tun := [] } := rfl
  unfold State.tunClear
  dsimp only
  rw [State.setB_entryView (by decide), State.setB_entryView (by decide), State.setF_entryView (by decide), State.withChans_entryView,
    foldl_keeps State.entryView, State.withMash_entryView, State.withHists_entryView, htun]
  intro p k hk
  obtain ⟨-, -, -, hlevel, -⟩ := Reg.string_ne_dwl (List.mem_range.1 hk) 0
  rw [State.setF_entryView hlevel, State.setCluster_entryView]

theorem State.wortScan_entryView (s : State) : s.wortScan.entryView = s.entryView := (rfl)

theorem State.seedLfsrs_entryView (s : State) : s.seedLfsrs.entryView = s.entryView := by
  unfold State.seedLfsrs
  refine foldl_keeps State.entryView (fun p n hn => ?_) s
  have hn : n < 8 := List.mem_range.1 hn
  obtain ⟨hlfsr, -⟩ := Reg.string_ne_dwl (n := n) (by omega) 0
  simp only [State.entryView_ite, State.raise_entryView (c := Cause.EMIT_SEED_ZERO) (by decide) (by decide),
    State.setF_entryView (F := Fld.EMIT_DLFSR_LFSR n) hlfsr, ite_self]

/-- A charge group that starts or stops writes its own loops' registers. -/
theorem State.groupRun_entryView {n : Nat} (hn : n < 8) (s : State) : (s.groupRun n).entryView = s.entryView := by
  have hn' : n < 64 := by omega
  have hsp (j : Nat) : (Fld.CTL_CSP_SP n j).addr ≠ Reg.DWL_STAT := (Reg.string_ne_dwl hn' j).2.2.2.2.2.1
  have hsps (j : Nat) : (Fld.CTL_CSP_SPS n j).addr ≠ Reg.DWL_STAT := (Reg.string_ne_dwl hn' j).2.2.2.2.2.1
  have hint (j : Nat) : (Fld.CTL_CINT_I n j).addr ≠ Reg.DWL_STAT := (Reg.string_ne_dwl hn' j).2.2.2.2.2.2
  obtain ⟨-, hdac, hbank, -, hgrp, -⟩ := Reg.string_ne_dwl hn' 0
  have hvbank (p : State) (v : Nat) : (p.setVbank n v).entryView = p.entryView := by
    unfold State.setVbank
    rw [State.setB_entryView hbank, State.setF_entryView hbank]
  unfold State.groupRun
  dsimp only
  split
  · rw [State.withCtl_entryView, foldl_keeps State.entryView, State.setF_entryView (hsp 3), State.setF_entryView (hsp 1)]
    intro p j _
    rw [State.setF_entryView (hint j), State.setF_entryView (hsps j)]
  · split
    · rw [hvbank, State.setF_entryView hdac, State.setF_entryView hgrp, State.withCtl_entryView]
    · rfl

theorem State.soutOff_entryView (s : State) : s.soutOff.entryView = s.entryView := by
  unfold State.soutOff
  split
  · rw [State.withGuard_entryView, State.setB_entryView (by decide), State.setF_entryView (by decide), State.setB_entryView (by decide)]
  · rfl

theorem State.guardInhibit_entryView (s : State) : s.guardInhibit.entryView = s.entryView := by
  have hsweep (p : State) (n : Nat) (x : GSweep) : (p.setGsweep n x).entryView = p.entryView := rfl
  unfold State.guardInhibit State.confirm
  split
  · rw [State.soutOff_entryView, State.setF_entryView (by decide), State.incSat_entryView (by decide), State.raise_entryView (by decide) (by decide), hsweep]
  · rfl

theorem State.guardScanEntry_entryView (s : State) : s.guardScanEntry.entryView = s.entryView := by
  unfold State.guardScanEntry
  dsimp only
  rw [State.entryView_ite, State.guardInhibit_entryView, ite_self, State.setB_entryView (by decide), State.setB_entryView (by decide),
    State.setF_entryView (by decide), State.withGuard_entryView]

/-- The scan of the state that enters SCAN: the engine armed, the clear of the Tun under way. -/
def State.scanBegun (s : State) (t : Nat) : State :=
  s.withScan { s.scan with
    todo := s.targetsLeft t, armed := true, sos := false, stareN := 0, trigN := 0, sweepWhole := false, curWhole := false, leave := 0,
    next := none, cur := none, closing := none, strokeFail := true, stallRun := false, clearing := true, held := 0, lastPeriod := 0 }

/-- The state that enters SCAN before the engine is armed: AUTOSTART is taken, the columns still in work are given up, and the region is chosen. -/
def State.scanReady (s : State) : State :=
  let s := s.toState .scan
  let s := (s.withRst { s.rst with autostart := false }).withScan { s.scan with mode := s.f Fld.SCAN_CTRL_MODE, dir := s.b Fld.SCAN_CTRL_DIR }
  (s.dropColumns.latchColumn).takeRegion

theorem State.dropColumns_clockView (s : State) : s.dropColumns.clockView = s.clockView := by
  unfold State.dropColumns
  dsimp only
  rw [State.withLau_clockView, foldl_keeps State.clockView (fun p c _ => by rw [State.wortForget_clockView, State.tapFlush_clockView])]

/-- AUTOSTART is taken, and no column is in work. -/
theorem State.scanReady_shows (s : State) : s.scanReady.rst.autostart = false ∧ s.scanReady.lau.cols = [] := by
  have hregion (p : State) : p.takeRegion.rst = p.rst ∧ p.takeRegion.lau = p.lau := by
    simp only [State.takeRegion, State.raiseIf, apply_ite State.rst, apply_ite State.lau, State.raise_rst, State.raise_lau, State.setB_rst, State.setB_lau,
      State.withScan_rst, State.withScan_lau, ite_self, and_self]
  have hlatch (p : State) : p.latchColumn.rst = p.rst ∧ p.latchColumn.lau = p.lau := ⟨rfl, rfl⟩
  have hdrop (p : State) : p.dropColumns.rst = p.rst := congrArg ClockView.rst p.dropColumns_clockView
  unfold State.scanReady
  dsimp only
  rw [(hregion _).1, (hregion _).2, (hlatch _).1, (hlatch _).2, hdrop]
  exact ⟨rfl, rfl⟩

theorem State.scanEnter_eq (s : State) (t : Nat) : s.scanEnter t = ((List.range 8).foldl (fun (p : State) n =>
    (p.setStr n { p.str n with queue := [], prevT := none, next := none, probeMs := p.ms }).groupRun n)
      (((s.scanReady.scanBegun t).tunClear.wortScan.seedLfsrs).setB Fld.DWL_STAT_ACTIVE true)).guardScanEntry := (rfl)

/-- After the entry the view is the armed engine's, with the Tun cleared and DWL active. -/
theorem State.scanEnter_entryView (s : State) (t : Nat) :
    (s.scanEnter t).entryView = (((s.scanReady.scanBegun t).tunClear.wortScan.seedLfsrs).setB Fld.DWL_STAT_ACTIVE true).entryView := by
  rw [State.scanEnter_eq, State.guardScanEntry_entryView, foldl_keeps State.entryView]
  intro p n hn
  rw [State.groupRun_entryView (List.mem_range.1 hn), State.setStr_entryView]

end Sys2Proof.Machine
end

section
namespace Sys2Proof.Machine

theorem State.scanEnter_dev (s : State) (t : Nat) : (s.scanEnter t).dev = .scan := by
  have hready : s.scanReady.dev = .scan := by
    unfold State.scanReady
    dsimp only
    rw [State.takeRegion_dev, State.latchColumn_dev, State.dropColumns_dev]
    exact State.toState_dev s .scan
  have hbegun : (s.scanReady.scanBegun t).dev = .scan := (State.withScan_dev _ _).trans hready
  rw [State.scanEnter_eq, State.guardScanEntry_dev, foldl_keeps State.dev (fun p n _ => by rw [State.groupRun_dev, State.setStr_dev]), State.setB_dev,
    State.seedLfsrs_dev, State.wortScan_dev, State.tunClear_dev, hbegun]

theorem State.scanBegun_entryView (s : State) (t : Nat) : ((s.scanBegun t).tunClear.wortScan.seedLfsrs).entryView =
    { rst := s.rst, scan := (s.scanBegun t).scan, tun := [], lau := s.lau, dwl := s.rget Reg.DWL_STAT } := by
  rw [State.seedLfsrs_entryView, State.wortScan_entryView, State.tunClear_entryView]
  rfl

theorem State.scanBegun_scan (s : State) (t : Nat) : (s.scanBegun t).scan.clearing = true ∧ (s.scanBegun t).scan.armed = true := ⟨rfl, rfl⟩

theorem State.scanEnter_shows (s : State) (t : Nat) : (s.scanEnter t).scan.clearing = true ∧ (s.scanEnter t).scan.armed = true ∧
    (s.scanEnter t).rst.autostart = false ∧ (s.scanEnter t).b Fld.DWL_STAT_ACTIVE = true ∧ (s.scanEnter t).tun = [] ∧ (s.scanEnter t).lau.cols = [] := by
  have hview := s.scanEnter_entryView t
  have hbegun := s.scanReady.scanBegun_entryView t
  obtain ⟨hauto, hcols⟩ := s.scanReady_shows
  obtain ⟨hclearing, harmed⟩ := s.scanReady.scanBegun_scan t
  generalize (s.scanReady.scanBegun t).tunClear.wortScan.seedLfsrs = p at hview hbegun
  generalize s.scanEnter t = u at hview ⊢
  have hscan : u.scan = (s.scanReady.scanBegun t).scan := (congrArg EntryView.scan hview).trans (congrArg EntryView.scan hbegun)
  have hrst : u.rst = s.scanReady.rst := (congrArg EntryView.rst hview).trans (congrArg EntryView.rst hbegun)
  have htun : u.tun = [] := (congrArg EntryView.tun hview).trans (congrArg EntryView.tun hbegun)
  have hlau : u.lau = s.scanReady.lau := (congrArg EntryView.lau hview).trans (congrArg EntryView.lau hbegun)
  have hdwl : u.b Fld.DWL_STAT_ACTIVE = (p.setB Fld.DWL_STAT_ACTIVE true).b Fld.DWL_STAT_ACTIVE := State.b_eq _ _ _ (congrArg EntryView.dwl hview)
  rw [hscan, hrst, hlau, hdwl]
  exact ⟨hclearing, harmed, hauto, State.b_setB_self _ _ _ (by decide) rfl, htun, hcols⟩

theorem scanEntry_enters (x : Nat) (s : State) (hdev : s.dev = .idle) (hask : s.b Fld.AMP_STATE_PEND_START = true ∨ s.rst.autostart = true)
    (hcal : s.b Fld.RX_CALSTAT_BUSY = false) (hlock : s.b Fld.SCAN_STAT_LOCKED = true) (htest : s.pins.parkTest = false) (hleave : s.scan.leave = 0) :
    Answers (.scanEntry x) s (fun t => t.dev = .scan ∧ t.scan.clearing = true ∧ t.scan.armed = true ∧ t.rst.autostart = false ∧ t.b Fld.DWL_STAT_ACTIVE = true ∧
      t.tun = [] ∧ t.lau.cols = []) := by
  have hgo : (s.dev = .idle && (s.b Fld.AMP_STATE_PEND_START || s.rst.autostart) && !s.b Fld.RX_CALSTAT_BUSY && s.b Fld.SCAN_STAT_LOCKED &&
      !s.pins.parkTest && s.scan.leave = 0) = true := by
    rw [hcal, hlock, htest]
    simpa [hdev, hleave] using hask
  exact ⟨s.scanEnter x, if_pos hgo, s.scanEnter_dev x, s.scanEnter_shows x⟩

theorem scanEntry_refused (x : Nat) (s : State) (h : s.dev ≠ .idle ∨ s.b Fld.SCAN_STAT_LOCKED = false ∨ s.b Fld.RX_CALSTAT_BUSY = true) :
    Answers (.scanEntry x) s (fun t => t = s) := by
  refine ⟨s, if_neg ?_, rfl⟩
  rcases h with h | h | h <;> simp [h]

/-- Settles O16: the entry by what `State.scanEnter` shows of the view, the leave by `scanLeave_to`. -/
theorem scanEntryAndLeave : Obligations.ScanEntryAndLeave := by
  unfold Obligations.ScanEntryAndLeave
  refine ⟨scanEntry_enters, scanEntry_refused, ?_, ?_, ?_, ?_⟩
  · exact fun x s hdev h => scanLeave_to x .idle hdev (.inl h) (by simp [h])
  · exact fun x s hdev h hseal => scanLeave_to x .service hdev (.inr h) (by simp [h, hseal])
  · intro x s hdev h hseal
    obtain ⟨t, ht, hidle, -⟩ := scanLeave_to x .idle hdev (.inr h) (by simp [h, hseal])
    exact ⟨t, ht, hidle⟩
  · intro x s h
    refine ⟨s, if_neg ?_, rfl⟩
    rcases h with h | h <;> simp [h]

end Sys2Proof.Machine
end


section
namespace Sys2Proof.Machine

/-! # The agent's part of the state under the reads and writes of its commands (R293)

Neither a word that a GET reads nor one that a SET writes touches the agent's queue, its session or its kept replies. -/

theorem State.amp_ite (c : Prop) [Decidable c] (a b : State) : (if c then a else b).amp = if c then a.amp else b.amp := by split <;> rfl

@[simp] theorem State.nvmPush_amp (s : State) (w : NvmWrite) : (s.nvmPush w).amp = s.amp := by
  obtain ⟨n, hn⟩ := State.nvmKick_form (s.withNvm { s.nvm with work := s.nvm.work ++ [w] })
  exact (congrArg State.amp hn).trans rfl
@[simp] theorem State.logEvent_amp (s : State) (c : Nat) (x y : Word) : (s.logEvent c x y).amp = s.amp := by
  obtain ⟨n, r, h⟩ := State.logEvent_form s c x y
  exact (congrArg State.amp h).trans rfl
@[simp] theorem State.msetW_amp (s : State) (a : Nat) (v : Word) : (s.msetW a v).amp = s.amp := by
  simp only [State.msetW, State.msetH, State.mset_amp]
@[simp] theorem State.regStore_amp (s : State) (a : Nat) (v : Word) : (s.regStore a v).amp = s.amp := by
  unfold State.regStore
  split <;> rfl

/-! ## Words that a GET reads -/

@[simp] theorem State.readWord_amp (s : State) (a : Nat) : (s.readWord a).1.amp = s.amp := by
  simp only [State.readWord, State.readEffect, State.tinPop, State.amp_ite, State.setF_amp, State.withAdc_amp, State.setEth_amp, State.setTin_amp, ite_self]

theorem State.binFound_amp (s : State) (a e : Nat) : (s.binFound a e).amp = s.amp := by
  have hchan (p : State) (c : Nat) (old : Bool) (g : ChAcc → ChAcc) : (p.modChAcc c old g).amp = p.amp := rfl
  simp only [State.binFound, State.binError, State.amp_ite, State.logEvent_amp, State.setBin_amp, hchan, State.raise_amp, State.setF_amp, State.setB_amp,
    State.incSat_amp, ite_self]

@[simp] theorem State.memErr_amp (s : State) (a n err : Nat) : (s.memErr a n err).amp = s.amp := by
  unfold State.memErr
  refine foldl_keeps State.amp (fun p i _ => ?_) s
  simp only [State.amp_ite, State.binFound_amp, State.dspCe, State.dspUe, State.logEvent_amp, State.setF_amp, State.raise_amp, State.incSat_amp, ite_self]

/-- The reads of a GET leave the agent as it is. -/
theorem State.ampReads_amp (n : Nat) (s : State) (a : Nat) (errs : List Nat) : (State.ampReads n s a errs).1.amp = s.amp := by
  induction n generalizing s a errs with
  | zero => rfl
  | succ n ih =>
    unfold State.ampReads
    generalize (if blockAt a then 0 else errs.headD 0) = e
    dsimp only
    split
    · exact State.memErr_amp s a 2 e
    · exact (ih _ _ _).trans ((State.readWord_amp _ a).trans (State.memErr_amp s a 2 _))

/-! ## Ethernet frames -/

@[simp] theorem State.ethPush_amp (s : State) (p : Nat) (f : TxFr) : (s.ethPush p f).amp = s.amp := by
  unfold State.ethPush State.ethKick
  dsimp only
  split
  · rfl
  · split <;> rfl

@[simp] theorem State.ethSend_amp (s : State) (p : Nat) (f : TxFr) : (s.ethSend p f).amp = s.amp := by
  have hopen : (s.ipOpen f).1.amp = s.amp := by
    unfold State.ipOpen
    split <;> rfl
  simp only [State.ethSend, State.amp_ite, State.setB_amp, State.ethPush_amp, State.incMod_amp, hopen, ite_self]

/-! ## Words that a SET writes -/

@[simp] theorem State.lostClear_amp (s : State) (key : Word) : (s.lostClear key).amp = s.amp := by
  have hknee (p : State) (n : Nat) : (p.updateKnee n).amp = p.amp := by
    unfold State.updateKnee
    dsimp only
    split
    · rfl
    · simp only [State.updateTj, State.setF_amp, State.setFs_amp]
  simp only [State.lostClear, State.recordLoss, State.amp_ite, State.logEvent_amp, foldl_keeps State.amp (fun p n _ => hknee p n), State.nvmPush_amp,
    State.setF_amp, State.rset_amp, ite_self]

@[simp] theorem State.calRun_amp (s : State) : s.calRun.amp = s.amp := by
  simp only [State.calRun, State.startBootRun, State.amp_ite, State.setB_amp, State.withMash_amp, State.withScan_amp, ite_self]
@[simp] theorem State.lockFollow_amp (s : State) : s.lockFollow.amp = s.amp := by
  simp only [State.lockFollow, State.amp_ite, State.withScan_amp, State.setB_amp, ite_self]

@[simp] theorem State.capCtl_amp (s : State) (v : Word) : (s.capCtl v).amp = s.amp := by
  simp only [State.capCtl, State.capArm, State.amp_ite, State.setF_amp, State.withMash_amp, State.regStore_amp, ite_self]
@[simp] theorem State.snapCtl_amp (s : State) (v : Word) : (s.snapCtl v).amp = s.amp := by
  simp only [State.snapCtl, State.snapArm, State.amp_ite, State.setB_amp, State.withMash_amp, State.regStore_amp, ite_self]
@[simp] theorem State.anchShi_amp (s : State) (v : Word) : (s.anchShi v).amp = s.amp := by
  simp only [State.anchShi, State.anchorCommit, State.withAnchor_amp, State.regStore_amp]
@[simp] theorem State.ctlCtrl_amp (s : State) (v : Word) : (s.ctlCtrl v).amp = s.amp := by
  simp only [State.ctlCtrl, State.ctlApply, State.lockFollow_amp, State.amp_ite, State.withCtl_amp, State.regStore_amp, ite_self]
@[simp] theorem State.adcSrc_amp (s : State) (k : Nat) (v : Word) : (s.adcSrc k v).amp = s.amp := by
  simp only [State.adcSrc, State.adcGainWritten, State.amp_ite, State.withAdc_amp, State.regStore_amp, ite_self]
@[simp] theorem State.adcBg_amp (s : State) (v : Word) : (s.adcBg v).amp = s.amp := by
  simp only [State.adcBg, State.adcChannelWritten, State.amp_ite, State.withAdc_amp, State.regStore_amp, ite_self]
@[simp] theorem State.adcReq_amp (s : State) (n : Nat) (v : Word) : (s.adcReq n v).amp = s.amp := by
  have hdue (p : State) (t : Nat) : (p.adcDue n t).amp = p.amp := rfl
  simp only [State.adcReq, State.reqGo, State.amp_ite, hdue, State.regStore_amp, ite_self]
@[simp] theorem State.adcFirWritten_amp (s : State) (v : Word) : (s.adcFirWritten v).amp = s.amp := by
  have hcommit : (if v.msb then s.firCommit else s).amp = s.amp := by split <;> rfl
  unfold State.adcFirWritten
  generalize (if v.msb then s.firCommit else s) = p at hcommit ⊢
  dsimp only
  split
  · exact hcommit
  · rw [State.withAdc_amp, hcommit]
@[simp] theorem State.qpop_amp (s : State) (p : Nat) : (s.qpop p).amp = s.amp := by
  simp only [State.qpop, State.qstat, State.setF_amp, State.setEth_amp]
@[simp] theorem State.txcmdWrite_amp (s : State) (p : Nat) (v : Word) : (s.txcmdWrite p v).amp = s.amp := by
  simp only [State.txcmdWrite, State.amp_ite, State.incSat_amp, State.ethSend_amp, State.setB_amp, State.rset_amp, ite_self]
@[simp] theorem State.timeIncWrite_amp (s : State) (v : Word) : (s.timeIncWrite v).amp = s.amp := by
  simp only [State.timeIncWrite, State.raiseIf_amp, State.rset_amp]
@[simp] theorem State.timeOfsWrite_amp (s : State) (v : Word) : (s.timeOfsWrite v).amp = s.amp := by
  simp only [State.timeOfsWrite, State.setB_amp, State.withTime_amp]
@[simp] theorem State.timeCtrlWrite_amp (s : State) (m : Nat) (v : Word) : (s.timeCtrlWrite m v).amp = s.amp := by
  simp only [State.timeCtrlWrite, State.timeInvalid, State.amp_ite, State.withPins_amp, State.setB_amp, State.rset_amp, ite_self]
@[simp] theorem State.timePpsWrite_amp (s : State) (v : Word) : (s.timePpsWrite v).amp = s.amp := by
  simp only [State.timePpsWrite, State.amp_ite, State.raise_amp, State.setB_amp, State.rset_amp, ite_self]
@[simp] theorem State.lrsGo_amp (s : State) : s.lrsGo.amp = s.amp := by
  simp only [State.lrsGo, State.amp_ite, State.setB_amp, State.withCask_amp, ite_self]
@[simp] theorem State.caskRefuse_amp (s : State) : s.caskRefuse.amp = s.amp := by
  simp only [State.caskRefuse, State.amp_ite, State.logEvent_amp, State.withCask_amp, State.raise_amp, State.incSat_amp, ite_self]
@[simp] theorem State.caskStore_amp (s : State) (a : Nat) (v : Word) : (s.caskStore a v).amp = s.amp := by
  have hfound : (match findReg a with
    | none => s
    | some r => s.rset a ((s.rget a &&& ~~~r.cask) ||| (v &&& r.cask))).amp = s.amp := by split <;> rfl
  unfold State.caskStore
  split
  · simp only [State.calcfgWrite, State.caskApply, State.amp_ite, State.caskRefuse_amp, State.nvmPush_amp, State.setF_amp, ite_self]
  · split
    · exact State.caskRefuse_amp s
    · exact hfound
@[simp] theorem State.wdtKick_amp (s : State) (c : Nat) (v : Word) : (s.wdtKick c v).amp = s.amp := by
  simp only [State.wdtKick, State.wdtExpire, State.wdtReload, State.amp_ite, State.raiseReset_amp, State.setF_amp, ite_self]
@[simp] theorem State.dmaCtrl_amp (s : State) (n : Nat) (v : Word) : (s.dmaCtrl n v).amp = s.amp := by
  simp only [State.dmaCtrl, State.dmaGo, State.amp_ite, State.setB_amp, State.withDma_amp, State.regStore_amp, ite_self]
@[simp] theorem State.flCmd_amp (s : State) (cmd : Nat) : (s.flCmd cmd).amp = s.amp := by
  simp only [State.flCmd, State.amp_ite, State.raise_amp, State.setB_amp, State.withFlOp_amp, ite_self]
@[simp] theorem State.optCmd_amp (s : State) (key : Word) : (s.optCmd key).amp = s.amp := by
  simp only [State.optCmd, State.amp_ite, State.nvmPush_amp, State.raise_amp, State.setB_amp, ite_self]

/-- A register write leaves the agent as it is. -/
@[simp] theorem State.regWrite_amp (s : State) (m a : Nat) (v : Word) : (s.regWrite m a v).amp = s.amp := by
  unfold State.regWrite
  split
  · simp [State.amp_ite]
  · simp [State.amp_ite, State.scanCtrl]
  · simp [State.amp_ite]
  · simp [State.amp_ite]
  · simp [State.amp_ite]
  · simp [State.amp_ite]
  · simp [State.amp_ite]
  · simp [State.amp_ite]
  · simp [State.amp_ite]
  · simp [State.amp_ite]
  · simp [State.amp_ite]
  · split
    · simp [State.amp_ite]
    · split
      · simp [State.amp_ite]
      · rfl
  · simp [State.amp_ite, State.mbox7]
  · simp [State.amp_ite, State.mbox7]
  · simp [State.amp_ite]
  · simp [State.amp_ite, State.tinCfgWrite]
  · simp

/-- A word that a SET writes leaves the agent as it is. -/
@[simp] theorem State.ampPut_amp (s : State) (t : Nat × Word × Word) : (s.ampPut t).amp = s.amp := by
  simp only [State.ampPut, State.writeWord, State.amp_ite, State.regWrite_amp, State.raise_amp, State.msetW_amp, ite_self]

end Sys2Proof.Machine
end

section
namespace Sys2Proof.Machine

/-! # Replies (R286, R287, R289) -/

/-- What the statements on the agent's commands show beside its own part: the NVM's queue, the scan, what is asked of the reset unit, and two of the agent's registers. -/
structure AnswerView where
  nvm : Nvm
  scan : ScanSt
  autostart : Bool
  ampReset : Option (Nat × Option L2Target)
  state : Word
  cnt2 : Word

def State.answerView (s : State) : AnswerView :=
  { nvm := s.nvm, scan := s.scan, autostart := s.rst.autostart, ampReset := s.rst.ampReset, state := s.rget Reg.AMP_STATE, cnt2 := s.rget Reg.AMP_CNT2 }

/-- A register other than the two of `State.answerView`. -/
def Reg.offAnswer (a : Nat) : Prop := a ≠ Reg.AMP_STATE ∧ a ≠ Reg.AMP_CNT2

theorem State.answerView_ite (c : Prop) [Decidable c] (a b : State) : (if c then a else b).answerView = if c then a.answerView else b.answerView := by
  split <;> rfl

theorem State.setF_answerView {F : Fld} (h : Reg.offAnswer F.addr) (s : State) (x : Nat) : (s.setF F x).answerView = s.answerView := by
  have hstate : (s.setF F x).rget Reg.AMP_STATE = s.rget Reg.AMP_STATE := State.rget_setF_ne s F x _ h.1.symm
  have hcnt : (s.setF F x).rget Reg.AMP_CNT2 = s.rget Reg.AMP_CNT2 := State.rget_setF_ne s F x _ h.2.symm
  simp only [State.answerView, hstate, hcnt, State.setF_nvm, State.setF_scan, State.setF_rst]
theorem State.setB_answerView {F : Fld} (h : Reg.offAnswer F.addr) (s : State) (p : Bool) : (s.setB F p).answerView = s.answerView := State.setF_answerView h s _
theorem State.incMod_answerView {F : Fld} (h : Reg.offAnswer F.addr) (s : State) (n : Nat) : (s.incMod F n).answerView = s.answerView :=
  State.setF_answerView h s _
theorem State.raise_answerView {c : Cause} (hflag : Reg.offAnswer c.fld.addr) (hcnt : Reg.offAnswer c.cnt.addr) (s : State) :
    (s.raise c).answerView = s.answerView := by
  have hinc : (s.incSat c.cnt 1).answerView = s.answerView := State.setF_answerView hcnt s _
  rw [State.raise_eq, State.setF_answerView hflag, hinc]

@[simp] theorem State.ethPush_answerView (s : State) (p : Nat) (f : TxFr) : (s.ethPush p f).answerView = s.answerView := by
  unfold State.ethPush State.ethKick
  dsimp only
  split
  · rfl
  · split <;> rfl

@[simp] theorem State.ethSend_answerView (s : State) (p : Nat) (f : TxFr) : (s.ethSend p f).answerView = s.answerView := by
  have hopen : (s.ipOpen f).1.answerView = s.answerView := by
    unfold State.ipOpen
    split <;> rfl
  have hbusy : Reg.offAnswer (Fld.ETH_TXSTAT_BUSY p).addr := by
    simp only [Reg.offAnswer, Fld.ETH_TXSTAT_BUSY, Reg.AMP_STATE, Reg.AMP_CNT2]
    omega
  have hseq : Reg.offAnswer Fld.PRP_SEQ_SEQ.addr := by unfold Reg.offAnswer; decide
  simp only [State.ethSend, State.answerView_ite, State.setB_answerView hbusy, State.ethPush_answerView, State.incMod_answerView hseq, hopen, ite_self]

/-- A reply that goes out changes neither the view nor the agent's queue and session; it is kept for its source, and may stand in the MSPI's buffer. -/
theorem State.ampSend_form (s : State) (r : AmpReq) (m : List Byte) : (s.ampSend r m).answerView = s.answerView ∧
    ∃ reply, (s.ampSend r m).amp = { s.amp with kept := (s.amp.kept.filter (fun p => p.1 != r.src)) ++ [(r.src, m)], reply := reply } := by
  have harp (p : State) (q ip : Nat) : (p.arpAsk q ip).answerView = p.answerView ∧ (p.arpAsk q ip).amp = p.amp := by
    unfold State.arpAsk
    dsimp only
    split
    · exact ⟨rfl, rfl⟩
    · rw [State.ethSend_answerView, State.ethSend_amp]
      exact ⟨rfl, rfl⟩
  have hside (p : State) (lane : Nat) (ws : List Word) : (p.sidePush lane ws).answerView = p.answerView ∧ (p.sidePush lane ws).amp = p.amp := by
    unfold State.sidePush
    split <;> exact ⟨rfl, rfl⟩
  unfold State.ampSend
  dsimp only
  split
  · split
    · exact ⟨rfl, _, rfl⟩
    · rw [State.ethSend_answerView, State.ethSend_amp, State.answerView_ite, State.amp_ite, (harp _ _ _).1, (harp _ _ _).2, ite_self, ite_self]
      exact ⟨rfl, _, rfl⟩
  · rw [(hside _ _ _).1, (hside _ _ _).2]
    exact ⟨rfl, _, rfl⟩
  · rw [State.raise_answerView (by unfold Reg.offAnswer; decide) (by unfold Reg.offAnswer; decide)]
    exact ⟨rfl, _, rfl⟩

/-- The reply that a command gives changes the view in nothing, but that one of status 6 is counted. -/
theorem State.ampAnswer_answerView (s : State) (r : AmpReq) {st : Nat} (h : st ≠ 6) (pay : List Byte) : (s.ampAnswer r st pay).answerView = s.answerView := by
  unfold State.ampAnswer
  rw [if_neg h]
  exact (State.ampSend_form s r _).1

theorem State.ampAnswer_wrongState (s : State) (r : AmpReq) (pay : List Byte) : (s.ampAnswer r 6 pay).f Fld.AMP_CNT2_WRONGST =
    min (2 ^ Fld.AMP_CNT2_WRONGST.w - 1) (s.f Fld.AMP_CNT2_WRONGST + 1) := by
  have hsend := congrArg AnswerView.cnt2 (State.ampSend_form (s.incSat Fld.AMP_CNT2_WRONGST 1) r (ampReply r.msg 6 pay)).1
  have hlt : min (2 ^ Fld.AMP_CNT2_WRONGST.w - 1) (s.f Fld.AMP_CNT2_WRONGST + 1) < 2 ^ Fld.AMP_CNT2_WRONGST.w := by
    have := Nat.two_pow_pos Fld.AMP_CNT2_WRONGST.w
    omega
  refine (State.f_eq _ _ Fld.AMP_CNT2_WRONGST hsend).trans ((State.f_setF_self _ _ _ (by decide)).trans (Nat.mod_eq_of_lt hlt))

theorem State.ampAnswer_amp (s : State) (r : AmpReq) (st : Nat) (pay : List Byte) : ∃ reply, (s.ampAnswer r st pay).amp =
    { s.amp with kept := (s.amp.kept.filter (fun p => p.1 != r.src)) ++ [(r.src, ampReply r.msg st pay)], reply := reply } := by
  unfold State.ampAnswer
  dsimp only
  split
  · exact (State.ampSend_form _ r _).2
  · exact (State.ampSend_form s r _).2

theorem State.ampAnswer_queue (s : State) (r : AmpReq) (st : Nat) (pay : List Byte) : (s.ampAnswer r st pay).amp.queue = s.amp.queue := by
  obtain ⟨reply, h⟩ := s.ampAnswer_amp r st pay
  rw [h]

theorem State.ampAnswer_sess (s : State) (r : AmpReq) (st : Nat) (pay : List Byte) : (s.ampAnswer r st pay).amp.sess = s.amp.sess := by
  obtain ⟨reply, h⟩ := s.ampAnswer_amp r st pay
  rw [h]

/-- A reply bears the TAG and CMD of its request. -/
theorem sameTag_ampReply (m : List Byte) (st : Nat) (pay : List Byte) : sameTag (ampReply m st pay) m = true := by
  have hbyte (o : Nat) : (BitVec.ofNat 8 (at8 m o)).toNat = at8 m o := by
    rw [BitVec.toNat_ofNat]
    exact Nat.mod_eq_of_lt (m.getD o 0).isLt
  have hcmd : ampCmd (ampReply m st pay) = ampCmd m := hbyte 1
  have htag : le16 (ampReply m st pay) 2 = le16 m 2 := congrArg₂ (fun a b => a + b * 256) (hbyte 2) (hbyte 3)
  rw [sameTag, hcmd, htag]
  simp

/-- A command that has been answered finds its reply kept. -/
theorem State.ampAnswer_replied (s : State) (r : AmpReq) (st : Nat) (pay : List Byte) : (s.ampAnswer r st pay).replied r st pay := by
  obtain ⟨reply, h⟩ := s.ampAnswer_amp r st pay
  have hothers : ((s.amp.kept.filter (fun p => p.1 != r.src)).find? (fun p => decide (p.1 = r.src) && sameTag p.2 r.msg)) = none := by
    rw [List.find?_eq_none]
    intro p hp
    have hne : p.1 ≠ r.src := by simpa using (List.mem_filter.1 hp).2
    simp [hne]
  unfold State.replied State.keptFor
  rw [h, List.find?_append, hothers, Option.none_or, List.find?_cons_of_pos (by simp [sameTag_ampReply])]
  rfl

/-! # A command's turn (R289) -/

theorem State.ampGo_of_empty {s : State} (h : s.amp.queue = []) : s.ampGo = s := by
  unfold State.ampGo
  rw [h]
  rfl

/-- On its turn a command is answered by `body` where it is legal, and with status 6 where it is not. -/
theorem State.ampExec_turn {s : State} {cmd : Nat} {r : AmpReq} (h : s.ampTurn cmd r = true) (legal : AmpReq → Bool) (body : State → AmpReq → State) :
    s.ampExec cmd legal body = .next ((if legal r then body s.ampTaken r else s.ampTaken.ampAnswer r 6 []).ampGo) := by
  simp only [State.ampTurn, Bool.and_eq_true, decide_eq_true_eq, Option.isNone_iff_eq_none] at h
  obtain ⟨⟨⟨⟨hruns, hqueue⟩, hcmd⟩, hstray⟩, hkept⟩ := h
  have hkept' : (s.withAmp { s.amp with queue := [] }).keptFor r = none := hkept
  unfold State.ampExec
  rw [hqueue]
  dsimp only
  rw [hkept']
  simp only [hruns, hcmd, hstray, bne_self_eq_false, Option.isSome_none, Bool.or_self, Bool.not_true, Bool.false_eq_true, if_false]
  rfl

/-- A legal command whose answer leaves the queue empty ends with it. -/
theorem answers_legal {c : Instr} {s t : State} {cmd : Nat} {r : AmpReq} {P : State → Prop} {legal : AmpReq → Bool} {body : State → AmpReq → State}
    (hexec : exec c s = s.ampExec cmd legal body) (hturn : s.ampTurn cmd r = true) (hlegal : legal r = true) (hbody : body s.ampTaken r = t)
    (hqueue : t.amp.queue = []) (hP : P t) : Answers c s P :=
  ⟨t, by rw [hexec, State.ampExec_turn hturn, if_pos hlegal, hbody, State.ampGo_of_empty hqueue], hP⟩

/-- A legal command that answers from the state as it is. -/
theorem answers_reply {c : Instr} {s : State} {cmd : Nat} {r : AmpReq} {P : State → Prop} {legal : AmpReq → Bool} {body : State → AmpReq → State}
    {st : Nat} {pay : List Byte} (hexec : exec c s = s.ampExec cmd legal body) (hturn : s.ampTurn cmd r = true) (hlegal : legal r = true)
    (hbody : body s.ampTaken r = s.ampTaken.ampAnswer r st pay) (hP : P (s.ampTaken.ampAnswer r st pay)) : Answers c s P :=
  answers_legal hexec hturn hlegal hbody (State.ampAnswer_queue _ _ _ _) hP

/-- A command that is not legal is answered with status 6. -/
theorem answers_illegal {c : Instr} {s : State} {cmd : Nat} {r : AmpReq} {P : State → Prop} {legal : AmpReq → Bool} {body : State → AmpReq → State}
    (hexec : exec c s = s.ampExec cmd legal body) (hturn : s.ampTurn cmd r = true) (hlegal : legal r = false) (hP : P (s.ampTaken.ampAnswer r 6 [])) :
    Answers c s P :=
  ⟨_, by rw [hexec, State.ampExec_turn hturn, if_neg (by simp [hlegal]), State.ampGo_of_empty (State.ampAnswer_queue _ _ _ _)], hP⟩

end Sys2Proof.Machine
end

section
namespace Sys2Proof.Machine

/-! # GET, SET, LOG_READ and CASK_INFO (R290, R292, R293) -/

/-- Reads without a memory error come to their end. -/
theorem State.ampReads_clean (n : Nat) (s : State) (a : Nat) : (State.ampReads n s a []).2.2 = false := by
  have hnone (x : Nat) : (if blockAt x then 0 else ([] : List Nat).headD 0) = 0 := ite_self 0
  have herr : (decide (errAt 0 0 = 2) || decide (errAt 0 1 = 2)) = false := by decide
  induction n generalizing s a with
  | zero => rfl
  | succ n ih =>
    unfold State.ampReads
    rw [hnone]
    dsimp only
    rw [if_neg (by simp [herr])]
    exact ih _ _

theorem State.ampReads_one (s : State) (a : Nat) : (State.ampReads 1 s a []).2.1 = wordBytes (s.readWord a).2 := by
  have herr : (decide (errAt 0 0 = 2) || decide (errAt 0 1 = 2)) = false := by decide
  have hnone : (if blockAt a then 0 else ([] : List Nat).headD 0) = 0 := ite_self 0
  have hsame : s.memErr a 2 0 = s := rfl
  unfold State.ampReads
  rw [hnone]
  dsimp only
  rw [if_neg (by simp [herr]), hsame]
  exact List.append_nil _

/-- A read that meets an uncorrectable memory error ends the GET. -/
theorem State.ampReads_error (s : State) {a : Nat} {errs : List Nat} (hmem : blockAt a = false) (herr : errAt (errs.headD 0) 0 = 2) :
    (State.ampReads 1 s a errs).2 = ([], true) := by
  unfold State.ampReads
  rw [hmem]
  dsimp only
  rw [if_pos (by simp only [Bool.false_eq_true, if_false, herr, decide_true, Bool.true_or])]

theorem State.ampTaken_canRead (s : State) (a : Nat) : s.ampTaken.ampCanRead a = s.ampCanRead a := (rfl)

/-- A GET of readable words answers with what was read. -/
theorem State.ampGet_readable {s : State} {r : AmpReq} {n : Nat} (errs : List Nat) (hlen : (ampPay r.msg).length = 8) (hal : le32 (ampPay r.msg) 0 % 4 = 0)
    (hn : le16 (ampPay r.msg) 4 = n) (h1 : 1 ≤ n) (h252 : n ≤ 252) (hend : le32 (ampPay r.msg) 0 + 4 * n ≤ 2 ^ 32)
    (hread : ∀ i, i < n → s.ampCanRead (le32 (ampPay r.msg) 0 + 4 * i) = true) :
    s.ampGet r errs = (State.ampReads n s (le32 (ampPay r.msg) 0) errs).1.ampAnswer r
      (if (State.ampReads n s (le32 (ampPay r.msg) 0) errs).2.2 then 0xA else 0) (State.ampReads n s (le32 (ampPay r.msg) 0) errs).2.1 := by
  have hform : ((ampPay r.msg).length != 8 || le32 (ampPay r.msg) 0 % 4 != 0 || decide (n < 1) || decide (252 < n) ||
      decide (2 ^ 32 < le32 (ampPay r.msg) 0 + 4 * n)) = false := by
    simp only [Bool.or_eq_false_iff, bne_eq_false_iff_eq, decide_eq_false_iff_not]
    omega
  have hall : (List.range n).all (fun i => s.ampCanRead (le32 (ampPay r.msg) 0 + 4 * i)) = true := by
    simp only [List.all_eq_true, List.mem_range]
    exact hread
  unfold State.ampGet
  dsimp only
  rw [hn]
  rw [if_neg (by rw [hform]; decide), if_neg (by rw [hall]; decide)]

theorem exec_get (errs : List Nat) (s : State) : exec (.get errs) s = s.ampExec 1 (fun r => s.devIn [.idle, .scan, .safe, .service] ||
    (s.dev = .boot && r.src = .mspi && decide (le32 (ampPay r.msg) 0 + 4 * le16 (ampPay r.msg) 4 ≤ 0x20000))) (fun s r => s.ampGet r errs) := (rfl)

/-- On its turn a GET of readable words, where it is legal, answers with what was read, or with status 10 (R154). -/
theorem get_readable {r : AmpReq} {n : Nat} {errs : List Nat} {s : State} (hturn : s.ampTurn 1 r = true)
    (hlegal : s.devIn [.idle, .scan, .safe, .service] = true ∨ (s.dev = .boot ∧ r.src = .mspi ∧ le32 (ampPay r.msg) 0 + 4 * n ≤ 0x20000))
    (hlen : (ampPay r.msg).length = 8) (hal : le32 (ampPay r.msg) 0 % 4 = 0) (hn : le16 (ampPay r.msg) 4 = n) (h1 : 1 ≤ n) (h252 : n ≤ 252)
    (hend : le32 (ampPay r.msg) 0 + 4 * n ≤ 2 ^ 32) (hread : ∀ i, i < n → s.ampCanRead (le32 (ampPay r.msg) 0 + 4 * i) = true) :
    Answers (.get errs) s (fun t => t.replied r (if (State.ampReads n s.ampTaken (le32 (ampPay r.msg) 0) errs).2.2 then 0xA else 0)
      (State.ampReads n s.ampTaken (le32 (ampPay r.msg) 0) errs).2.1) := by
  have hread' (i : Nat) (hi : i < n) : s.ampTaken.ampCanRead (le32 (ampPay r.msg) 0 + 4 * i) = true := (s.ampTaken_canRead _).trans (hread i hi)
  refine answers_legal (exec_get errs s) hturn ?_ (State.ampGet_readable errs hlen hal hn h1 h252 hend hread') ?_ (State.ampAnswer_replied _ _ _ _)
  · simpa [hn, and_assoc] using hlegal
  · rw [State.ampAnswer_queue, State.ampReads_amp]
    rfl

/-- An aligned word ends within the address space. -/
theorem le32_word_end (p : List Byte) (h : le32 p 0 % 4 = 0) : le32 p 0 + 4 * 1 ≤ 2 ^ 32 := by
  have hlt : le32 p 0 < 2 ^ 32 := (bytesW p 0).isLt
  omega

theorem get_unreadable (r : AmpReq) (s : State) (hturn : s.ampTurn 1 r = true) (hdev : s.devIn [.idle, .scan, .safe, .service] = true)
    (hlen : (ampPay r.msg).length = 8) (hal : le32 (ampPay r.msg) 0 % 4 = 0) (hn : le16 (ampPay r.msg) 4 = 1)
    (hread : s.ampCanRead (le32 (ampPay r.msg) 0) = false) : Answers (.get []) s (fun t => t.replied r 4 []) := by
  have hend := le32_word_end _ hal
  have hform : ((ampPay r.msg).length != 8 || le32 (ampPay r.msg) 0 % 4 != 0 || decide (1 < 1) || decide (252 < 1) ||
      decide (2 ^ 32 < le32 (ampPay r.msg) 0 + 4 * 1)) = false := by
    simp only [Bool.or_eq_false_iff, bne_eq_false_iff_eq, decide_eq_false_iff_not]
    omega
  have hread' : s.ampTaken.ampCanRead (le32 (ampPay r.msg) 0) = false := (s.ampTaken_canRead _).trans hread
  have hbody : s.ampTaken.ampGet r [] = s.ampTaken.ampAnswer r 4 [] := by
    unfold State.ampGet
    dsimp only
    rw [hn]
    rw [if_neg (by rw [hform]; decide), if_pos (by simp [hread'])]
  exact answers_reply (exec_get [] s) hturn (Bool.or_eq_true_iff.2 (.inl hdev)) hbody (State.ampAnswer_replied _ _ _ _)

/-- A SET whose triples may all be written answers with their count. -/
theorem set_writable {r : AmpReq} {n : Nat} {s : State} (hturn : s.ampTurn 2 r = true) (hdev : s.devIn [.idle, .scan, .safe, .service] = true)
    (hn : le16 (ampPay r.msg) 0 = n) (h1 : 1 ≤ n) (h84 : n ≤ 84) (hlen : (ampPay r.msg).length = 4 + 12 * n)
    (hts : ∀ x ∈ setTriples (ampPay r.msg) n, x.1 % 4 = 0 ∧ s.ampCond x.1 x.2.1 = false ∧ s.ampCanWrite x.1 x.2.1 = true) :
    Answers .set s (fun t => t.replied r 0 [BitVec.ofNat 8 n, 0, BitVec.ofNat 8 ((setTriples (ampPay r.msg) n).foldl State.ampPut s.ampTaken).dev.code, 0]) := by
  have hcond (a : Nat) (m : Word) : s.ampTaken.ampCond a m = s.ampCond a m := rfl
  have hwrite (a : Nat) (m : Word) : s.ampTaken.ampCanWrite a m = s.ampCanWrite a m := rfl
  have hform : (decide (n < 1) || decide (84 < n) || (ampPay r.msg).length != 4 + 12 * n ||
      (setTriples (ampPay r.msg) n).any (fun t => decide (t.1 % 4 ≠ 0))) = false := by
    simp only [Bool.or_eq_false_iff, bne_eq_false_iff_eq, decide_eq_false_iff_not, List.any_eq_false, decide_eq_true_eq, not_not]
    exact ⟨⟨⟨by omega, by omega⟩, hlen⟩, fun x hx => (hts x hx).1⟩
  have hmay : (setTriples (ampPay r.msg) n).any (fun t => s.ampTaken.ampCond t.1 t.2.1) = false := by
    simp only [List.any_eq_false, hcond, Bool.not_eq_true]
    exact fun x hx => (hts x hx).2.1
  have hcan : (setTriples (ampPay r.msg) n).any (fun t => !s.ampTaken.ampCanWrite t.1 t.2.1) = false := by
    simp only [List.any_eq_false, hwrite, Bool.not_eq_true, Bool.not_eq_false']
    exact fun x hx => (hts x hx).2.2
  have hbody : s.ampTaken.ampSet r = ((setTriples (ampPay r.msg) n).foldl State.ampPut s.ampTaken).ampAnswer r 0
      [BitVec.ofNat 8 n, 0, BitVec.ofNat 8 ((setTriples (ampPay r.msg) n).foldl State.ampPut s.ampTaken).dev.code, 0] := by
    unfold State.ampSet
    dsimp only
    rw [hn]
    rw [if_neg (by rw [hform]; decide), if_neg (by rw [hmay]; decide), if_neg (by rw [hcan]; decide)]
  refine answers_legal rfl hturn hdev hbody ?_ (State.ampAnswer_replied _ _ _ _)
  rw [State.ampAnswer_queue, foldl_keeps State.amp (fun p t _ => State.ampPut_amp p t)]
  rfl

/-- A LOG_READ answers with up to 31 entries, and reads alone. -/
theorem logRead_legal {r : AmpReq} {s : State} (hturn : s.ampTurn 3 r = true) (hdev : s.devIn [.idle, .scan, .safe, .service] = true)
    (hlen : (ampPay r.msg).length = 4) (hkind : at8 (ampPay r.msg) 0 ≤ 1) :
    Answers .logRead s (fun t => t.nvm = s.nvm ∧
      (let es := ((if at8 (ampPay r.msg) 0 = 0 then s.nvm.log else s.nvm.chLog).drop (le16 (ampPay r.msg) 2)).take 31
       t.replied r 0 ([BitVec.ofNat 8 (le16 (ampPay r.msg) 2), BitVec.ofNat 8 (le16 (ampPay r.msg) 2 / 256), BitVec.ofNat 8 es.length, 0] ++ es.flatten.flatMap wordBytes))) := by
  refine answers_reply rfl hturn hdev (if_neg ?_) ⟨?_, State.ampAnswer_replied _ _ _ _⟩
  · simp only [hlen, bne_self_eq_false, Bool.false_or, decide_eq_true_eq]
    omega
  · exact congrArg AnswerView.nvm (State.ampAnswer_answerView _ _ (by decide) _)

theorem caskInfo_legal (r : AmpReq) (s : State) (hturn : s.ampTurn 0x30 r = true) (hpay : ampPay r.msg = []) :
    Answers .caskInfo s (fun t => t.replied r 0 (s.caskSha.take 4 ++ s.caskSha ++ wordBytes s.caskMec ++ [BitVec.ofNat 8 s.pins.sealedLow.toNat, BitVec.ofNat 8 s.dev.code, 0, 0])) :=
  answers_reply rfl hturn rfl (if_neg (by simp [hpay])) (State.ampAnswer_replied _ _ _ _)

end Sys2Proof.Machine
end

section
namespace Sys2Proof.Machine

/-! # Sessions and PEND_START under a change of the device state (R294, R296) -/

/-- The agent's part of the state, and PEND_START. -/
def State.startView (s : State) : AmpSt × Bool := (s.amp, s.b Fld.AMP_STATE_PEND_START)

/-- A field that leaves PEND_START alone. -/
def Fld.offStart (F : Fld) : Bool := F.fits && Fld.AMP_STATE_PEND_START.apart F


theorem State.startView_ite (c : Prop) [Decidable c] (a b : State) : (if c then a else b).startView = if c then a.startView else b.startView := by split <;> rfl

theorem State.setF_startView {F : Fld} (h : F.offStart = true) (s : State) (x : Nat) : (s.setF F x).startView = s.startView := by
  simp only [Fld.offStart, Bool.and_eq_true] at h
  exact Prod.ext rfl (State.b_setF_apart s _ F x h.1 h.2)
theorem State.setB_startView {F : Fld} (h : F.offStart = true) (s : State) (p : Bool) : (s.setB F p).startView = s.startView := State.setF_startView h s _
theorem State.incSat_startView {F : Fld} (h : F.offStart = true) (s : State) (n : Nat) : (s.incSat F n).startView = s.startView := State.setF_startView h s _
theorem State.raise_startView {c : Cause} (hflag : c.fld.offStart = true) (hcnt : c.cnt.offStart = true) (s : State) : (s.raise c).startView = s.startView := by
  rw [State.raise_eq, State.setF_startView hflag, State.incSat_startView hcnt]

@[simp] theorem State.withScan_startView (s : State) (x : ScanSt) : (s.withScan x).startView = s.startView := (rfl)
@[simp] theorem State.withGuard_startView (s : State) (x : GuardSt) : (s.withGuard x).startView = s.startView := (rfl)
@[simp] theorem State.withCask_startView (s : State) (x : CaskSt) : (s.withCask x).startView = s.startView := (rfl)
@[simp] theorem State.nvmPush_startView (s : State) (w : NvmWrite) : (s.nvmPush w).startView = s.startView := by
  obtain ⟨n, hn⟩ := State.nvmKick_form (s.withNvm { s.nvm with work := s.nvm.work ++ [w] })
  exact (congrArg State.startView hn).trans rfl
@[simp] theorem State.logEvent_startView (s : State) (c : Nat) (x y : Word) : (s.logEvent c x y).startView = s.startView :=
  Prod.ext (State.logEvent_amp s c x y) (State.b_logEvent s c x y _ (by decide))

@[simp] theorem State.guardFollow_startView (s : State) : s.guardFollow.startView = s.startView := by
  have hoff : s.soutOff.startView = s.startView := by
    unfold State.soutOff
    split
    · rw [State.withGuard_startView, State.setB_startView (by decide), State.setF_startView (by decide), State.setB_startView (by decide)]
    · rfl
  rw [State.guardFollow, State.startView_ite, hoff, ite_self]
@[simp] theorem State.lockFollow_startView (s : State) : s.lockFollow.startView = s.startView := by
  rw [State.lockFollow, State.startView_ite, State.withScan_startView, State.setB_startView (by decide), ite_self]
@[simp] theorem State.pllaFollow_startView (s : State) : s.pllaFollow.startView = s.startView := by
  rw [State.pllaFollow, State.startView_ite, State.setB_startView (by decide), ite_self]
@[simp] theorem State.vspadFollow_startView (s : State) : s.vspadFollow.startView = s.startView := by
  rw [State.vspadFollow, State.startView_ite, State.setF_startView (by decide), ite_self]

@[simp] theorem State.changeAbort_startView (s : State) (uid : Nat) : (s.changeAbort uid).1.startView = s.startView := by
  have hclose : (s.setB Fld.GUARD_STAT_CHANGE_OPEN false).startView = s.startView := State.setB_startView (by decide) s _
  have hcrc (p : State) (v : Word) : (p.rset Reg.GUARD_CRC v).startView = p.startView :=
    Prod.ext rfl (State.b_eq _ _ _ (State.rget_rset_ne _ _ _ _ (by decide)))
  simp only [State.changeAbort, apply_ite Prod.fst, State.startView_ite, State.nvmPush_startView, hcrc, hclose, ite_self]

/-- The end of a session takes the session from the agent's part, and no more. -/
theorem State.endSession_startView (s : State) : s.endSession.startView = ({ s.amp with sess := none }, s.b Fld.AMP_STATE_PEND_START) := by
  unfold State.endSession
  split
  · next h => exact Prod.ext (by rw [← h]; rfl) rfl
  · simp only [State.startView_ite, State.changeAbort_startView, ite_self]
    rfl

@[simp] theorem State.caskRefuse_startView (s : State) : s.caskRefuse.startView = s.startView := by
  have hcount : Fld.CASK_STAT_REFUSED.offStart = true := by decide
  simp only [State.caskRefuse, State.startView_ite, State.logEvent_startView, State.withCask_startView,
    State.raise_startView (c := Cause.CASK_REFUSED) (by decide) (by decide), State.incSat_startView hcount, ite_self]
@[simp] theorem State.serviceLeave_startView (s : State) : s.serviceLeave.startView = s.startView := by
  have hown (p : State) (first : Bool) (kind : Nat) (data : List Word) : (p.lrsOwn first kind data).startView = p.startView := by
    simp only [State.lrsOwn, State.startView_ite, State.withCask_startView, ite_self]
  simp only [State.serviceLeave, State.startView_ite, hown, ite_self]
  exact foldl_keeps State.startView (fun p _ _ => State.caskRefuse_startView p) _
@[simp] theorem State.setDev_startView (s : State) (d : Dev) : (s.setDev d).startView = s.startView := by
  unfold State.setDev
  split
  · rfl
  · rw [State.raise_startView (by decide) (by decide), State.setF_startView (by decide)]
    rfl

/-- What a change of the device state does to the view: leaving IDLE ends the session, entering another state than IDLE clears PEND_START. -/
theorem State.toState_startView {s : State} {d : Dev} (h : s.dev ≠ d) : (s.toState d).startView =
    (if s.dev = .idle then { s.amp with sess := none } else s.amp, if d = .idle then s.b Fld.AMP_STATE_PEND_START else false) := by
  have henter (p : State) : p.serviceEnter.startView = p.startView := rfl
  have hclear (p : State) : (p.setB Fld.AMP_STATE_PEND_START false).startView = (p.startView.1, false) :=
    Prod.ext rfl (State.b_setB_self _ _ _ (by decide) rfl)
  unfold State.toState
  rw [if_neg h]
  simp only [State.guardFollow_startView, State.vspadFollow_startView, State.pllaFollow_startView, State.lockFollow_startView, State.startView_ite, henter,
    hclear, State.setDev_startView, State.serviceLeave_startView, State.endSession_startView, ite_self]
  split <;> split <;> rfl

end Sys2Proof.Machine
end

section
namespace Sys2Proof.Machine

/-! # START, STOP, PARK and RESET (R46, R291, R296) -/

theorem State.ampAnswer_pend (s : State) (r : AmpReq) {st : Nat} (h : st ≠ 6) (pay : List Byte) :
    (s.ampAnswer r st pay).b Fld.AMP_STATE_PEND_START = s.b Fld.AMP_STATE_PEND_START :=
  State.b_eq _ _ _ (congrArg AnswerView.state (State.ampAnswer_answerView s r h pay))

theorem State.ampAnswer_scan (s : State) (r : AmpReq) {st : Nat} (h : st ≠ 6) (pay : List Byte) : (s.ampAnswer r st pay).scan = s.scan :=
  congrArg AnswerView.scan (State.ampAnswer_answerView s r h pay)

theorem State.ampAnswer_autostart (s : State) (r : AmpReq) {st : Nat} (h : st ≠ 6) (pay : List Byte) :
    (s.ampAnswer r st pay).rst.autostart = s.rst.autostart :=
  congrArg AnswerView.autostart (State.ampAnswer_answerView s r h pay)

theorem State.ampTaken_dev (s : State) : s.ampTaken.dev = s.dev := (rfl)

/-! ## START -/

/-- START in IDLE: the session ends, and PEND_START sets. -/
def State.started (s : State) : State := s.ampTaken.endSession.setB Fld.AMP_STATE_PEND_START true

theorem State.started_shows (s : State) : s.started.dev = s.dev ∧ s.started.amp = { s.ampTaken.amp with sess := none } ∧
    s.started.b Fld.AMP_STATE_PEND_START = true ∧ s.started.f Fld.AMP_STATE_PEND_START = 1 := by
  refine ⟨?_, congrArg Prod.fst s.ampTaken.endSession_startView, State.b_setB_self _ _ _ (by decide) rfl, State.f_setF_self _ _ _ (by decide)⟩
  rw [State.started, State.setB_dev, State.endSession_dev, State.ampTaken_dev]

theorem start_idle (r : AmpReq) (s : State) (hturn : s.ampTurn 0x10 r = true) (hdev : s.dev = .idle) (hpay : ampPay r.msg = []) :
    Answers .start s (fun t => t.replied r 0 [1, 1, 0, 0] ∧ t.b Fld.AMP_STATE_PEND_START = true ∧ t.dev = .idle ∧ t.amp.sess = none) := by
  obtain ⟨hidle, hamp, hpend, hone⟩ := s.started_shows
  have hpaid : s.started.statePay = [1, 1, 0, 0] := by
    rw [State.statePay, hidle, hdev, hone]
    rfl
  have hbody : s.ampTaken.ampStart r = s.started.ampAnswer r 0 [1, 1, 0, 0] := by
    rw [State.ampStart, if_neg (by simp [hpay]), if_pos (by rw [State.ampTaken_dev, hdev]), ← hpaid]
    rfl
  refine answers_legal rfl hturn (by simp [State.devIn, hdev]) hbody ?_ ⟨State.ampAnswer_replied _ _ _ _, ?_, ?_, ?_⟩
  · rw [State.ampAnswer_queue, hamp]
    rfl
  · rw [State.ampAnswer_pend _ _ (by decide), hpend]
  · rw [State.ampAnswer_dev, hidle, hdev]
  · rw [State.ampAnswer_sess, hamp]

theorem start_scan (r : AmpReq) (s : State) (hturn : s.ampTurn 0x10 r = true) (hdev : s.dev = .scan) (hpay : ampPay r.msg = []) :
    Answers .start s (fun t => t.replied r 0 s.statePay ∧ t.dev = .scan ∧ t.b Fld.AMP_STATE_PEND_START = s.b Fld.AMP_STATE_PEND_START) := by
  have hbody : s.ampTaken.ampStart r = s.ampTaken.ampAnswer r 0 s.statePay := by
    rw [State.ampStart, if_neg (by simp [hpay]), if_neg (by rw [State.ampTaken_dev, hdev]; decide)]
    rfl
  refine answers_reply rfl hturn (by simp [State.devIn, hdev]) hbody ⟨State.ampAnswer_replied _ _ _ _, ?_, ?_⟩
  · rw [State.ampAnswer_dev, State.ampTaken_dev, hdev]
  · exact State.ampAnswer_pend _ _ (by decide) _

theorem start_safe (r : AmpReq) (s : State) (hturn : s.ampTurn 0x10 r = true) (hdev : s.dev = .safe) :
    Answers .start s (fun t => t.replied r 6 [] ∧ t.dev = .safe ∧
      t.f Fld.AMP_CNT2_WRONGST = min (2 ^ Fld.AMP_CNT2_WRONGST.w - 1) (s.f Fld.AMP_CNT2_WRONGST + 1)) :=
  answers_illegal rfl hturn (by simp [State.devIn, hdev])
    ⟨State.ampAnswer_replied _ _ _ _, by rw [State.ampAnswer_dev, State.ampTaken_dev, hdev], State.ampAnswer_wrongState s.ampTaken r []⟩

/-! ## STOP -/

/-- The request is taken, and PEND_START clears. -/
def State.unstarted (s : State) : State := s.ampTaken.setB Fld.AMP_STATE_PEND_START false

theorem State.unstarted_startView (s : State) : s.unstarted.startView = (s.ampTaken.amp, false) := Prod.ext rfl (State.b_setB_self _ _ _ (by decide) rfl)

theorem State.unstarted_dev (s : State) : s.unstarted.dev = s.dev := (rfl)

/-- STOP, where SEAL_N does not refuse it, goes from `unstarted` to the state that the present one and the target give. -/
theorem State.ampStop_goes {s u : State} {r : AmpReq} (hlen : (ampPay r.msg).length = 4) (htgt : at8 (ampPay r.msg) 0 ≤ 1)
    (hseal : at8 (ampPay r.msg) 0 = 1 → s.dev = .service ∨ s.pins.sealedLow = false)
    (hu : (match s.dev with
      | .scan => s.unstarted.withScan { s.scan with leave := 1 + at8 (ampPay r.msg) 0 }
      | .idle => if at8 (ampPay r.msg) 0 = 1 then s.unstarted.toState .service else s.unstarted
      | .service => if at8 (ampPay r.msg) 0 = 0 then s.unstarted.toState .idle else s.unstarted
      | _ => s.unstarted) = u) : s.ampTaken.ampStop r = u.pllaFollow.ampAnswer r 0 u.pllaFollow.statePay := by
  have hopen : (at8 (ampPay r.msg) 0 = 1 && s.ampTaken.dev != .service && s.ampTaken.pins.sealedLow) = false := by
    have hpins : s.ampTaken.pins = s.pins := rfl
    rw [State.ampTaken_dev, hpins]
    by_cases h1 : at8 (ampPay r.msg) 0 = 1
    · rcases hseal h1 with h | h <;> simp [h]
    · simp [h1]
  have hform : ((ampPay r.msg).length != 4 || decide (1 < at8 (ampPay r.msg) 0)) = false := by
    simp only [hlen, bne_self_eq_false, Bool.false_or, decide_eq_false_iff_not]
    omega
  subst hu
  unfold State.ampStop
  dsimp only
  rw [if_neg (by rw [hform]; decide), if_neg (by rw [hopen]; decide)]
  rfl

/-- The answer of a STOP adds nothing to what its change of the state shows. -/
theorem State.stopAnswered_shows (u : State) (r : AmpReq) (pay : List Byte) : (u.pllaFollow.ampAnswer r 0 pay).dev = u.dev ∧
    (u.pllaFollow.ampAnswer r 0 pay).scan = u.scan ∧ (u.pllaFollow.ampAnswer r 0 pay).amp.queue = u.startView.1.queue ∧
    (u.pllaFollow.ampAnswer r 0 pay).amp.sess = u.startView.1.sess ∧ (u.pllaFollow.ampAnswer r 0 pay).b Fld.AMP_STATE_PEND_START = u.startView.2 := by
  have hview := u.pllaFollow_startView
  have hscan : u.pllaFollow.scan = u.scan := by
    unfold State.pllaFollow
    split <;> rfl
  refine ⟨?_, ?_, ?_, ?_, ?_⟩
  · rw [State.ampAnswer_dev, State.pllaFollow_dev]
  · rw [State.ampAnswer_scan _ _ (by decide), hscan]
  · rw [State.ampAnswer_queue, ← hview]
    rfl
  · rw [State.ampAnswer_sess, ← hview]
    rfl
  · rw [State.ampAnswer_pend _ _ (by decide), ← hview]
    rfl

theorem stop_idle (r : AmpReq) (s : State) (hturn : s.ampTurn 0x11 r = true) (hdev : s.dev = .idle) (hlen : (ampPay r.msg).length = 4)
    (htgt : at8 (ampPay r.msg) 0 = 1) (hseal : s.pins.sealedLow = false) :
    Answers .stop s (fun t => t.dev = .service ∧ t.amp.sess = none ∧ t.b Fld.AMP_STATE_PEND_START = false) := by
  have hbody := State.ampStop_goes (s := s) (r := r) hlen (by omega) (fun _ => .inr hseal) (u := s.unstarted.toState .service) (by simp only [hdev, htgt, if_true])
  obtain ⟨hgoes, -, hqueue, hsess, hpend⟩ := (s.unstarted.toState .service).stopAnswered_shows r _
  have hview := State.toState_startView (s := s.unstarted) (d := .service) (by rw [State.unstarted_dev, hdev]; decide)
  rw [State.unstarted_dev, hdev] at hview
  refine answers_legal rfl hturn (by simp [State.devIn, hdev]) hbody ?_ ⟨?_, ?_, ?_⟩
  · rw [hqueue, hview]
    rfl
  · rw [hgoes, State.toState_dev]
  · rw [hsess, hview]
    rfl
  · rw [hpend, hview]
    rfl

theorem stop_sealed (r : AmpReq) (s : State) (hturn : s.ampTurn 0x11 r = true) (hdev : s.dev = .idle) (hlen : (ampPay r.msg).length = 4)
    (htgt : at8 (ampPay r.msg) 0 = 1) (hseal : s.pins.sealedLow = true) : Answers .stop s (fun t => t.replied r 9 [] ∧ t.dev = .idle) := by
  have hpins : s.ampTaken.pins.sealedLow = true := hseal
  have hbody : s.ampTaken.ampStop r = s.ampTaken.ampAnswer r 9 [] := by
    unfold State.ampStop
    dsimp only
    rw [if_neg (by simp [hlen, htgt]), if_pos (by simp [htgt, State.ampTaken_dev, hdev, hpins])]
  exact answers_reply rfl hturn (by simp [State.devIn, hdev]) hbody ⟨State.ampAnswer_replied _ _ _ _, by rw [State.ampAnswer_dev, State.ampTaken_dev, hdev]⟩

theorem stop_scan (r : AmpReq) (s : State) (hturn : s.ampTurn 0x11 r = true) (hdev : s.dev = .scan) (hlen : (ampPay r.msg).length = 4)
    (htgt : at8 (ampPay r.msg) 0 = 0) : Answers .stop s (fun t => t.dev = .scan ∧ t.scan.leave = 1) := by
  have hbody := State.ampStop_goes (s := s) (r := r) hlen (by omega) (by omega) (u := s.unstarted.withScan { s.scan with leave := 1 })
    (by simp only [hdev, htgt, Nat.add_zero])
  obtain ⟨hgoes, hleave, hqueue, -, -⟩ := (s.unstarted.withScan { s.scan with leave := 1 }).stopAnswered_shows r _
  refine answers_legal rfl hturn (by simp [State.devIn, hdev]) hbody ?_ ⟨?_, ?_⟩
  · rw [hqueue]
    rfl
  · rw [hgoes, State.withScan_dev, State.unstarted_dev, hdev]
  · rw [hleave, State.withScan_scan]

theorem stop_service (r : AmpReq) (s : State) (hturn : s.ampTurn 0x11 r = true) (hdev : s.dev = .service) (hlen : (ampPay r.msg).length = 4)
    (htgt : at8 (ampPay r.msg) 0 ≤ 1) :
    Answers .stop s (fun t => t.dev = (if at8 (ampPay r.msg) 0 = 0 then .idle else .service) ∧ t.b Fld.AMP_STATE_PEND_START = false) := by
  have hbody := State.ampStop_goes (s := s) (r := r) hlen htgt (fun _ => .inl hdev)
    (u := if at8 (ampPay r.msg) 0 = 0 then s.unstarted.toState .idle else s.unstarted) (by simp only [hdev])
  have hview : (if at8 (ampPay r.msg) 0 = 0 then s.unstarted.toState .idle else s.unstarted).startView = (s.ampTaken.amp, false) := by
    have hleft : (s.unstarted.toState .idle).startView = s.unstarted.startView := by
      rw [State.toState_startView (by rw [State.unstarted_dev, hdev]; decide), if_neg (by rw [State.unstarted_dev, hdev]; decide), if_pos rfl]
      rfl
    rw [State.startView_ite, hleft, ite_self, State.unstarted_startView]
  obtain ⟨hgoes, -, hqueue, -, hpend⟩ := (if at8 (ampPay r.msg) 0 = 0 then s.unstarted.toState .idle else s.unstarted).stopAnswered_shows r
    (if at8 (ampPay r.msg) 0 = 0 then s.unstarted.toState .idle else s.unstarted).pllaFollow.statePay
  refine answers_legal rfl hturn (by simp [State.devIn, hdev]) hbody ?_ ⟨?_, ?_⟩
  · rw [hqueue, hview]
    rfl
  · rw [hgoes, State.dev_ite, State.toState_dev, State.unstarted_dev, hdev]
  · rw [hpend, hview]

/-! ## PARK -/

/-- PARK asks for the entry from `p`: PEND_START and AUTOSTART clear. -/
def State.parkAsked (p : State) : State :=
  let p := p.setB Fld.AMP_STATE_PEND_START false
  (p.withRst { p.rst with autostart := false }).withScan { p.scan with leave := 3 }

theorem State.parkAsked_pend (p : State) : p.parkAsked.b Fld.AMP_STATE_PEND_START = false := State.b_setB_self p _ _ (by decide) rfl

/-- The answer of a PARK shows what `parkAsked` has done. -/
theorem State.parkAnswered_shows (p : State) (r : AmpReq) (pay : List Byte) : (p.parkAsked.ampAnswer r 0 pay).dev = p.dev ∧
    (p.parkAsked.ampAnswer r 0 pay).scan.leave = 3 ∧ (p.parkAsked.ampAnswer r 0 pay).b Fld.AMP_STATE_PEND_START = false ∧
    (p.parkAsked.ampAnswer r 0 pay).rst.autostart = false ∧ (p.parkAsked.ampAnswer r 0 pay).amp.sess = p.amp.sess ∧
    (p.parkAsked.ampAnswer r 0 pay).amp.queue = p.amp.queue := by
  rw [State.ampAnswer_dev, State.ampAnswer_scan _ _ (by decide), State.ampAnswer_pend _ _ (by decide), State.ampAnswer_autostart _ _ (by decide),
    State.ampAnswer_sess, State.ampAnswer_queue, State.parkAsked_pend]
  exact ⟨rfl, rfl, rfl, rfl, rfl, rfl⟩

theorem park_scan (r : AmpReq) (s : State) (hturn : s.ampTurn 0x12 r = true) (hdev : s.dev = .scan) (hpay : ampPay r.msg = []) :
    Answers .park s (fun t => t.dev = .scan ∧ t.scan.leave = 3 ∧ t.b Fld.AMP_STATE_PEND_START = false ∧ t.rst.autostart = false) := by
  have hbody : s.ampTaken.ampPark r = s.ampTaken.parkAsked.ampAnswer r 0 s.ampTaken.parkAsked.statePay := by
    rw [State.ampPark, if_neg (by simp [hpay]), if_neg (by rw [State.ampTaken_dev, hdev]; decide)]
    rfl
  obtain ⟨hgoes, hleave, hpend, hauto, -, hqueue⟩ := s.ampTaken.parkAnswered_shows r s.ampTaken.parkAsked.statePay
  exact answers_legal rfl hturn (by simp [State.devIn, hdev]) hbody hqueue ⟨hgoes.trans hdev, hleave, hpend, hauto⟩

theorem park_idle (r : AmpReq) (s : State) (hturn : s.ampTurn 0x12 r = true) (hdev : s.dev = .idle) (hpay : ampPay r.msg = []) :
    Answers .park s (fun t => t.dev = .idle ∧ t.scan.leave = 3 ∧ t.amp.sess = none ∧ t.b Fld.AMP_STATE_PEND_START = false ∧ t.rst.autostart = false) := by
  have hbody : s.ampTaken.ampPark r = s.ampTaken.endSession.parkAsked.ampAnswer r 0 s.ampTaken.endSession.parkAsked.statePay := by
    rw [State.ampPark, if_neg (by simp [hpay]), if_pos (by rw [State.ampTaken_dev, hdev])]
    rfl
  have hamp : s.ampTaken.endSession.amp = { s.ampTaken.amp with sess := none } := congrArg Prod.fst s.ampTaken.endSession_startView
  obtain ⟨hgoes, hleave, hpend, hauto, hsess, hqueue⟩ := s.ampTaken.endSession.parkAnswered_shows r s.ampTaken.endSession.parkAsked.statePay
  refine answers_legal rfl hturn (by simp [State.devIn, hdev]) hbody ?_ ⟨?_, hleave, ?_, hpend, hauto⟩
  · rw [hqueue, hamp]
    rfl
  · rw [hgoes, State.endSession_dev, State.ampTaken_dev, hdev]
  · rw [hsess, hamp]

/-! ## RESET -/

theorem State.ampResetCmd_good {s : State} {r : AmpReq} (hlen : (ampPay r.msg).length = 4) (hlevel : at8 (ampPay r.msg) 0 ≤ 3) : s.ampTaken.ampResetCmd r =
    (s.ampTaken.withRst { s.rst with ampReset := some (s.ampLevel (at8 (ampPay r.msg) 0) (at8 (ampPay r.msg) 1), resetTarget (at8 (ampPay r.msg) 1)) }).ampAnswer r 0
      [BitVec.ofNat 8 (s.ampLevel (at8 (ampPay r.msg) 0) (at8 (ampPay r.msg) 1)), BitVec.ofNat 8 (at8 (ampPay r.msg) 1), 0, 0] := by
  have hform : ((ampPay r.msg).length != 4 || decide (3 < at8 (ampPay r.msg) 0)) = false := by
    simp only [hlen, bne_self_eq_false, Bool.false_or, decide_eq_false_iff_not]
    omega
  unfold State.ampResetCmd
  dsimp only
  rw [if_neg (by rw [hform]; decide)]
  rfl

theorem reset_legal (r : AmpReq) (s : State) (hturn : s.ampTurn 0x13 r = true) (hdev : s.devIn [.idle, .scan, .safe, .service] = true)
    (hlen : (ampPay r.msg).length = 4) (hlevel : at8 (ampPay r.msg) 0 ≤ 3) :
    Answers .reset s (fun t => t.rst.ampReset = some (s.ampLevel (at8 (ampPay r.msg) 0) (at8 (ampPay r.msg) 1), resetTarget (at8 (ampPay r.msg) 1)) ∧
      t.replied r 0 [BitVec.ofNat 8 (s.ampLevel (at8 (ampPay r.msg) 0) (at8 (ampPay r.msg) 1)), BitVec.ofNat 8 (at8 (ampPay r.msg) 1), 0, 0]) :=
  answers_legal rfl hturn hdev (State.ampResetCmd_good hlen hlevel) (State.ampAnswer_queue _ _ _ _)
    ⟨congrArg AnswerView.ampReset (State.ampAnswer_answerView _ r (by decide) _), State.ampAnswer_replied _ _ _ _⟩

theorem ampResetEffect_due (x : Nat × Option L2Target) (s : State) (h : s.rst.ampReset = some x) (hgone : s.resetReplyGone = true) :
    Answers .ampResetEffect s (fun t => t.rst.raised.testBit 5 = true ∧ t.regs = s.regs ∧ { t with rst := s.rst } = s) :=
  ⟨s.raiseReset 5, congrArg _ (if_pos (by simp [h, hgone])), State.raiseReset_raised s 5, rfl, rfl⟩

/-- Settles O50: each command by its answer, which `State.ampAnswer_replied` finds kept and `State.ampAnswer_answerView` finds to change nothing else. -/
theorem ampCommands : Obligations.AmpCommands := by
  unfold Obligations.AmpCommands
  refine ⟨?_, get_unreadable, ?_, ?_, caskInfo_legal, start_idle, start_safe, stop_idle, stop_sealed, stop_scan, park_scan, reset_legal, ?_, ampResetEffect_due, ?_, ?_, ?_,
    ?_, start_scan, ?_, park_idle⟩
  · intro r s hturn hdev hlen hal hn hread
    have h := get_readable (errs := []) hturn (.inl hdev) hlen hal hn (le_refl 1) (by decide) (le32_word_end _ hal) (fun i hi => by
      obtain rfl : i = 0 := by omega
      exact hread)
    rwa [State.ampReads_clean, State.ampReads_one] at h
  · intro r a m v s hturn hdev hn hlen hts hal hcond hwrite
    have h := set_writable hturn hdev hn (le_refl 1) (by decide) hlen (by
      rw [hts]
      intro x hx
      obtain rfl := List.mem_singleton.1 hx
      exact ⟨hal, hcond, hwrite⟩)
    rwa [hts] at h
  · intro r s hturn hdev hlen hkind hlog hfirst
    obtain ⟨t, ht, hnvm, hreply⟩ := logRead_legal hturn hdev hlen (by omega)
    rw [hkind, if_pos rfl, hlog, hfirst] at hreply
    exact ⟨t, ht, hreply, hnvm⟩
  · exact fun s h => ⟨s, congrArg _ (if_neg (by simp [h])), rfl⟩
  · intro r errs s hturn hdev hlen hal hn hread hmem herr
    have h := get_readable (errs := errs) hturn (.inl hdev) hlen hal hn (le_refl 1) (by decide) (le32_word_end _ hal) (fun i hi => by
      obtain rfl : i = 0 := by omega
      exact hread)
    rwa [State.ampReads_error _ hmem herr] at h
  · exact fun r n s hturn hdev hn h1 h84 hlen hts => set_writable hturn hdev hn h1 h84 hlen hts
  · intro r n s hturn hdev hlen hal hn h1 h252 hend hread
    have h := get_readable (errs := []) hturn hdev hlen hal hn h1 h252 hend hread
    rwa [State.ampReads_clean] at h
  · exact fun r s hturn hdev hlen hkind => logRead_legal hturn hdev hlen hkind
  · exact fun r s hturn hdev hlen htgt => stop_service r s hturn hdev hlen htgt

end Sys2Proof.Machine
end

section
namespace Sys2Proof.Machine

/-! # Flash commands (R73, Table 4.7) -/

/-- A command is ignored outside IDLE, SCAN and SAFE, and while another runs. -/
theorem State.flCmd_ignored {s : State} (cmd : Nat) (h : s.flAccepts = false ∨ s.b Fld.FL_STAT_BUSY = true) : s.flCmd cmd = s := by
  unfold State.flCmd
  rw [if_pos (by rcases h with h | h <;> simp [h])]

/-- A command that names a byte of the running slot is refused. -/
theorem State.flCmd_refused {s : State} {cmd : Nat} (hcmd : cmd ≠ 0) (hacc : s.flAccepts = true) (hidle : s.b Fld.FL_STAT_BUSY = false)
    (hrun : s.inRunSlot (flSpan cmd (s.f Fld.FL_ADDR_ADDR)).1 = true) : s.flCmd cmd = (s.setB Fld.FL_STAT_PROTECT true).raise Cause.LOG_FL_ERR := by
  unfold State.flCmd
  rw [if_neg (by simp [hcmd, hacc, hidle])]
  exact if_pos hrun

/-- Every other command starts. -/
theorem State.flCmd_started {s : State} {cmd : Nat} (hcmd : cmd ≠ 0) (hacc : s.flAccepts = true) (hidle : s.b Fld.FL_STAT_BUSY = false)
    (hrun : s.inRunSlot (flSpan cmd (s.f Fld.FL_ADDR_ADDR)).1 = false) : s.flCmd cmd =
      (s.withFlOp (some { cmd := cmd, addr := (flSpan cmd (s.f Fld.FL_ADDR_ADDR)).1, data := if cmd = 2 then s.flBuf else [] })).setB Fld.FL_STAT_BUSY true := by
  unfold State.flCmd
  rw [if_neg (by simp [hcmd, hacc, hidle])]
  exact if_neg (by simp [hrun])

theorem State.setFlBusy_shows (s : State) (o : FlashOp) : ((s.withFlOp (some o)).setB Fld.FL_STAT_BUSY true).b Fld.FL_STAT_BUSY = true ∧
    ((s.withFlOp (some o)).setB Fld.FL_STAT_BUSY true).flOp = some o :=
  ⟨State.b_setB_self _ _ _ (by decide) rfl, rfl⟩

/-! ## The end of a command -/

/-- Word `i` of the page at `a`. -/
def State.pageWord (s : State) (a i : Nat) : Word := bytesW ((List.range 4).map (fun j => s.flashGet (a + 4 * i + j))) 0

/-- The first `n` words of FL_BUF take those of the page at `a`. -/
def State.bufLoad (s : State) (a n : Nat) : State := (List.range n).foldl (fun s i => s.rset (Reg.FL_BUF i) (s.pageWord a i)) s

theorem State.bufLoad_succ (s : State) (a n : Nat) : s.bufLoad a (n + 1) = (s.bufLoad a n).rset (Reg.FL_BUF n) ((s.bufLoad a n).pageWord a n) := by
  simp only [State.bufLoad, List.range_succ, List.foldl_append, List.foldl_cons, List.foldl_nil]

/-- A read of the flash changes registers only. -/
theorem State.bufLoad_form (s : State) (a n : Nat) : ∃ r, s.bufLoad a n = { s with regs := r } := by
  induction n with
  | zero => exact ⟨s.regs, rfl⟩
  | succ n ih =>
    obtain ⟨r, h⟩ := ih
    rw [State.bufLoad_succ, h]
    exact ⟨_, rfl⟩

theorem State.bufLoad_rget_ne (s : State) (a n : Nat) {r : Nat} (h : r < Reg.FL_BUF 0) : (s.bufLoad a n).rget r = s.rget r := by
  induction n with
  | zero => rfl
  | succ n ih =>
    rw [State.bufLoad_succ, State.rget_rset_ne _ _ _ _ (by unfold Reg.FL_BUF at *; omega), ih]

/-- After a read, FL_BUF holds the words of the page (Table 4.7). -/
theorem State.bufLoad_word (s : State) (a n : Nat) {i : Nat} (hi : i < n) : (s.bufLoad a n).rget (Reg.FL_BUF i) = s.pageWord a i := by
  have hpage (k : Nat) : (s.bufLoad a k).pageWord a k = s.pageWord a k := by
    obtain ⟨r, h⟩ := s.bufLoad_form a k
    rw [h]
    rfl
  induction n with
  | zero => omega
  | succ n ih =>
    rw [State.bufLoad_succ]
    by_cases h : i = n
    · rw [h, State.rget_rset_self, hpage]
    · rw [State.rget_rset_ne _ _ _ _ (by unfold Reg.FL_BUF; omega), ih (by omega)]

/-- Erasing, programming and reading, by the command's code. -/
theorem State.flashDo_cases (s : State) (o : FlashOp) : (∃ m, s.flashDo o = s.withFlash m) ∨ s.flashDo o = s.bufLoad o.addr 64 := by
  unfold State.flashDo
  split
  · exact .inl ⟨_, rfl⟩
  · exact .inl ⟨_, rfl⟩
  · exact .inr rfl

theorem State.flashDo_read (s : State) {o : FlashOp} (h : o.cmd = 3) : s.flashDo o = s.bufLoad o.addr 64 := by
  unfold State.flashDo
  rw [h]
  rfl

/-- An erased block reads 0xFF (log 21). -/
theorem State.flashDo_erase (s : State) {o : FlashOp} (h : o.cmd = 1) {a : Nat} (hlo : o.addr ≤ a) (hhi : a < o.addr + 65536) : (s.flashDo o).flashGet a = 0xFF := by
  unfold State.flashDo
  rw [h]
  refine (SMap.get_filter flashDefault s.flash (fun k => decide (k < o.addr) || decide (o.addr + 65536 ≤ k)) a).trans ?_
  rw [if_neg (by simp; omega)]
  rfl

/-- What a command does when it ends well shows in the flash or in FL_BUF. -/
theorem State.flashDo_keeps (s : State) (o : FlashOp) : (s.flashDo o).rget Reg.FL_STAT = s.rget Reg.FL_STAT ∧ (s.flashDo o).flOp = s.flOp ∧ (s.flashDo o).dev = s.dev := by
  rcases s.flashDo_cases o with ⟨m, h⟩ | h
  · rw [h]
    exact ⟨rfl, rfl, rfl⟩
  · obtain ⟨r, hform⟩ := s.bufLoad_form o.addr 64
    rw [h]
    exact ⟨s.bufLoad_rget_ne _ _ (by decide), by rw [hform], by rw [hform]⟩

/-- No command runs any more. -/
def State.flIdle (s : State) : State := (s.withFlOp none).setB Fld.FL_STAT_BUSY false

/-- The flash reports an error, or does not respond: the command has left the bytes `l`. -/
def State.flashFail (s : State) (o : FlashOp) (l : List Byte) : State :=
  ((if o.cmd = 3 then s else s.withFlash (flashPut s.flash o.addr (l.take (flSpan o.cmd 0).2))).setB Fld.FL_STAT_ERR true).raise Cause.LOG_FL_ERR

theorem State.flIdle_busy (s : State) : s.flIdle.b Fld.FL_STAT_BUSY = false := State.b_setB_self _ _ _ (by decide) rfl

theorem State.flIdle_regsBut (s : State) : State.regsBut [Reg.FL_STAT] s s.flIdle :=
  State.regsBut_setB (t := s.withFlOp none) _ _ (State.regsBut_of (State.regsBut_refl _ _) rfl) (by decide)

theorem execFlashCmdDone_good {s : State} {o : FlashOp} (h : s.flOp = some o) : exec (.flashCmdDone none) s = .next (s.flIdle.flashDo o) := by
  have harm : exec (.flashCmdDone none) s = execFlashCmdDone none s := rfl
  rw [harm]
  unfold execFlashCmdDone
  rw [h]
  rfl

theorem execFlashCmdDone_failed {s : State} {o : FlashOp} (h : s.flOp = some o) (l : List Byte) :
    exec (.flashCmdDone (some l)) s = .next (s.flIdle.flashFail o l) := by
  have harm : exec (.flashCmdDone (some l)) s = execFlashCmdDone (some l) s := rfl
  rw [harm]
  unfold execFlashCmdDone
  rw [h]
  rfl

theorem State.flashDo_ended (s : State) (o : FlashOp) : (s.flIdle.flashDo o).b Fld.FL_STAT_BUSY = false ∧ (s.flIdle.flashDo o).flOp = none ∧
    (s.flIdle.flashDo o).dev = s.dev := by
  obtain ⟨hstat, hop, hdev⟩ := s.flIdle.flashDo_keeps o
  exact ⟨(State.b_eq _ _ _ hstat).trans s.flIdle_busy, hop, hdev⟩

/-- A failure leaves the command's end, its error bits and the flash only. -/
theorem State.flashFail_ended (s : State) (o : FlashOp) (l : List Byte) : (s.flIdle.flashFail o l).b Fld.FL_STAT_BUSY = false ∧
    (s.flIdle.flashFail o l).b Fld.FL_STAT_ERR = true ∧ (s.flIdle.flashFail o l).causeSet Cause.LOG_FL_ERR = true ∧ (s.flIdle.flashFail o l).flOp = none ∧
    (s.flIdle.flashFail o l).dev = s.dev := by
  unfold State.flashFail
  refine ⟨?_, ?_, State.b_raise_self _ Cause.LOG_FL_ERR (by decide), ?_, ?_⟩
  · rw [State.b_raise_apart _ _ _ (by decide) (by decide) (by decide) (by decide), State.b_setB_apart _ _ _ _ (by decide) (by decide)]
    split
    · exact s.flIdle_busy
    · exact s.flIdle_busy
  · rw [State.b_raise_apart _ _ _ (by decide) (by decide) (by decide) (by decide), State.b_setB_self _ _ _ (by decide) rfl]
  · rw [State.raise_flOp, State.setB_flOp]
    split <;> rfl
  · rw [State.raise_dev, State.setB_dev]
    split <;> rfl

/-! # The option page (R73) -/

/-- A write that waits still waits after the NVM's next turn, or has begun. -/
theorem State.nvmKick_keepsWork {s : State} {w : NvmWrite} (h : w ∈ s.nvm.work) : w ∈ s.nvmKick.nvm.cur.toList ++ s.nvmKick.nvm.work := by
  unfold State.nvmKick
  split
  · split
    · next v r _ hwork =>
      rw [hwork] at h
      simpa using h
    · next hwork _ => simp [hwork] at h
    · next hwork _ => simp [hwork] at h
  · exact List.mem_append_right _ h

theorem State.nvmPush_pushes (s : State) (w : NvmWrite) : w ∈ (s.nvmPush w).nvm.cur.toList ++ (s.nvmPush w).nvm.work := by
  unfold State.nvmPush
  exact State.nvmKick_keepsWork (by simp)

/-- The eighteen staged words. -/
def State.optStaged (s : State) : List Word := (List.range 18).map (fun i => s.rget (Reg.OPT_STAGE i))

theorem State.optCmd_key {s : State} (hacc : s.flAccepts = true) : s.optCmd 0x4F505457 =
    if optBytesOk s.optStaged && fuseOk s.optStaged && s.b Fld.THERM_STAT_NVM_OK then s.nvmPush (.option s.optStaged)
    else (s.setB Fld.OPT_STAT_REFUSED true).raise Cause.LOG_OPT_REF := by
  unfold State.optCmd
  exact if_neg (by simp [hacc])

theorem State.optCmd_otherKey (s : State) {key : Word} (h : key ≠ 0x4F505457) : s.optCmd key = s := by
  unfold State.optCmd
  exact if_pos (by simpa using .inr h)

/-! # The scrubber (R361, Table 18.4) -/

/-- The states in which the scrubber runs. -/
def State.scrubs (s : State) : Bool := s.dev = .idle || s.dev = .scan || s.dev = .safe || s.dev = .service

theorem State.scrubs_iff (s : State) : s.scrubs = true ↔ s.dev = .idle ∨ s.dev = .scan ∨ s.dev = .safe ∨ s.dev = .service := by
  simp [State.scrubs, or_assoc]

theorem execScrubStep_clean (mem a : Nat) (s : State) : exec (.scrubStep mem a 0) s = .next s := if_pos (by simp)

/-- In these states an error that the scrubber finds does not pass unseen. -/
theorem State.scrubs_acts {s : State} (h : s.scrubs = true) {err : Nat} (herr : err = 1 ∨ err = 2) : ¬(!s.scrubs || decide (err = 0) || decide (2 < err)) = true := by
  rw [h]
  rcases herr with rfl | rfl <;> decide

theorem execScrubStep_wort {s : State} (h : s.scrubs = true) (a : Nat) : exec (.scrubStep 1 a 1) s = .next s.wortCe := if_neg (State.scrubs_acts h (.inl rfl))

/-- A word of DSP memory in error is its core's (R361). -/
theorem execScrubStep_dsp {s : State} (h : s.scrubs = true) {c : Nat} (hc : c < 2) (a : Nat) : exec (.scrubStep (2 + c) a 1) s = .next (s.dspCe c a) ∧
    exec (.scrubStep (2 + c) a 2) s = .next (s.dspUe c a) := by
  have hce := State.scrubs_acts h (.inl rfl)
  have hue := State.scrubs_acts h (.inr rfl)
  obtain rfl | rfl : c = 0 ∨ c = 1 := by omega
  · exact ⟨if_neg hce, if_neg hue⟩
  · exact ⟨if_neg hce, if_neg hue⟩

/-- A counter counts an error, and its cause is raised. -/
theorem State.counted_shows (s : State) {F : Fld} {c : Cause} (hF : F.fits = true) (hfld : c.fld.fits = true) (hcnt : c.cnt.fits = true)
    (hflag : F.apart c.fld = true) (hapart : F.apart c.cnt = true) : ((s.incSat F 1).raise c).f F = min (2 ^ F.w - 1) (s.f F + 1) ∧
      ((s.incSat F 1).raise c).b c.fld = true :=
  ⟨(State.f_raise_apart _ _ _ hfld hcnt hflag hapart).trans (State.f_incSat_self _ _ _ hF), State.b_raise_self _ _ hfld⟩

/-- An error's counter `F`, its cause `c` and the field `A` of its address share no bit, and lie apart from what the event log counts. -/
def eccApart (F : Fld) (c : Cause) (A : Fld) : Bool :=
  F.fits && c.fld.fits && c.cnt.fits && A.fits && F.apart c.fld && F.apart c.cnt && F.apart A && c.fld.apart A &&
    decide (F.addr ≠ Reg.THERM_CNT) && decide (c.fld.addr ≠ Reg.THERM_CNT) && decide (A.addr ≠ Reg.THERM_CNT)

theorem eccApart_dsp : ∀ c < 2, eccApart (Fld.DSP_ECC_CE c) (Cause.DSP_CE c) (Fld.DSP_ECCADDR_ADDR c) = true ∧
    eccApart (Fld.DSP_ECC_UE c) (Cause.DSP_UE c) (Fld.DSP_ECCADDR_ADDR c) = true := by decide

/-- An error of a word at `a` is counted, raised and named. -/
def State.eccNote (s : State) (F : Fld) (c : Cause) (A : Fld) (a : Nat) : State := ((s.incSat F 1).raise c).setF A a

theorem State.eccNote_shows (s : State) {F A : Fld} {c : Cause} (h : eccApart F c A = true) (a : Nat) :
    (s.eccNote F c A a).f F = min (2 ^ F.w - 1) (s.f F + 1) ∧ (s.eccNote F c A a).b c.fld = true ∧ (s.eccNote F c A a).f A = a % 2 ^ A.w := by
  simp only [eccApart, Bool.and_eq_true] at h
  obtain ⟨⟨⟨⟨⟨⟨⟨⟨⟨⟨hF, hfld⟩, hcnt⟩, hA⟩, hflag⟩, hcount⟩, haddr⟩, hbit⟩, -⟩, -⟩, -⟩ := h
  obtain ⟨hnum, hset⟩ := s.counted_shows hF hfld hcnt hflag hcount
  exact ⟨(State.f_setF_apart _ _ _ _ hA haddr).trans hnum, (State.b_setF_apart _ _ _ _ hA hbit).trans hset, State.f_setF_self _ _ _ hA⟩

/-- The event log leaves what an error shows alone. -/
theorem State.eccNote_logged (s : State) {F A : Fld} {c : Cause} (h : eccApart F c A = true) (a code : Nat) (x y : Word) :
    ((s.eccNote F c A a).logEvent code x y).f F = min (2 ^ F.w - 1) (s.f F + 1) ∧ ((s.eccNote F c A a).logEvent code x y).b c.fld = true ∧
    ((s.eccNote F c A a).logEvent code x y).f A = a % 2 ^ A.w := by
  obtain ⟨hnum, hset, hat⟩ := s.eccNote_shows h a
  simp only [eccApart, Bool.and_eq_true] at h
  obtain ⟨⟨⟨-, hF⟩, hfld⟩, hA⟩ := h
  exact ⟨(State.f_logEvent _ _ _ _ _ hF).trans hnum, (State.b_logEvent _ _ _ _ _ hfld).trans hset, (State.f_logEvent _ _ _ _ _ hA).trans hat⟩

/-! # The statement, by clause -/

theorem flCmd_ignored (s : State) (h : s.flAccepts = false ∨ s.b Fld.FL_STAT_BUSY = true) :
    Answers .flCmdErase s (fun t => t = s) ∧ Answers .flCmdProgram s (fun t => t = s) ∧ Answers .flCmdRead s (fun t => t = s) :=
  ⟨⟨_, rfl, State.flCmd_ignored 1 h⟩, ⟨_, rfl, State.flCmd_ignored 2 h⟩, ⟨_, rfl, State.flCmd_ignored 3 h⟩⟩

theorem flCmdErase_refused (s : State) (hacc : s.flAccepts = true) (hidle : s.b Fld.FL_STAT_BUSY = false)
    (hrun : s.inRunSlot (s.f Fld.FL_ADDR_ADDR / 65536 * 65536) = true) :
    Answers .flCmdErase s (fun t => t.b Fld.FL_STAT_PROTECT = true ∧ t.causeSet Cause.LOG_FL_ERR = true ∧ t.flOp = s.flOp ∧ { t with regs := s.regs } = s) := by
  refine ⟨_, congrArg Host.Outcome.next (State.flCmd_refused (cmd := 1) (by decide) hacc hidle hrun), ?_, State.b_raise_self _ Cause.LOG_FL_ERR (by decide), rfl, by simp⟩
  rw [State.b_raise_apart _ _ _ (by decide) (by decide) (by decide) (by decide), State.b_setB_self _ _ _ (by decide) rfl]

theorem flCmdErase_starts (s : State) (hacc : s.flAccepts = true) (hidle : s.b Fld.FL_STAT_BUSY = false)
    (hrun : s.inRunSlot (s.f Fld.FL_ADDR_ADDR / 65536 * 65536) = false) :
    Answers .flCmdErase s (fun t => t.b Fld.FL_STAT_BUSY = true ∧ t.flOp = some { cmd := 1, addr := s.f Fld.FL_ADDR_ADDR / 65536 * 65536, data := [] } ∧
      State.regsBut [Reg.FL_STAT] s t ∧ { t with regs := s.regs, flOp := s.flOp } = s) :=
  have hstart := State.flCmd_started (cmd := 1) (by decide) hacc hidle hrun
  have hshow := s.setFlBusy_shows { cmd := 1, addr := s.f Fld.FL_ADDR_ADDR / 65536 * 65536, data := [] }
  ⟨_, congrArg Host.Outcome.next hstart, hshow.1, hshow.2,
    State.regsBut_setB (t := s.withFlOp _) _ _ (State.regsBut_of (State.regsBut_refl _ _) rfl) (by decide), rfl⟩

theorem flCmdPage_starts (s : State) (hacc : s.flAccepts = true) (hidle : s.b Fld.FL_STAT_BUSY = false)
    (hrun : s.inRunSlot (s.f Fld.FL_ADDR_ADDR / 256 * 256) = false) :
    Answers .flCmdProgram s (fun t => t.b Fld.FL_STAT_BUSY = true ∧ t.flOp = some { cmd := 2, addr := s.f Fld.FL_ADDR_ADDR / 256 * 256, data := s.flBuf }) ∧
    Answers .flCmdRead s (fun t => t.b Fld.FL_STAT_BUSY = true ∧ t.flOp = some { cmd := 3, addr := s.f Fld.FL_ADDR_ADDR / 256 * 256, data := [] }) :=
  ⟨⟨_, congrArg Host.Outcome.next (State.flCmd_started (cmd := 2) (by decide) hacc hidle hrun), s.setFlBusy_shows _⟩,
   ⟨_, congrArg Host.Outcome.next (State.flCmd_started (cmd := 3) (by decide) hacc hidle hrun), s.setFlBusy_shows _⟩⟩

theorem flashCmdDone_erased (o : FlashOp) (s : State) (hop : s.flOp = some o) (hcmd : o.cmd = 1) :
    Answers (.flashCmdDone none) s (fun t => t.b Fld.FL_STAT_BUSY = false ∧ t.flOp = none ∧ (∀ a, o.addr ≤ a → a < o.addr + 65536 → t.flashGet a = 0xFF) ∧
      State.regsBut [Reg.FL_STAT] s t ∧ { t with regs := s.regs, flash := s.flash, flOp := s.flOp } = s) := by
  obtain ⟨hbusy, hnone, -⟩ := s.flashDo_ended o
  have herase : ∃ m, s.flIdle.flashDo o = s.flIdle.withFlash m := by
    unfold State.flashDo
    rw [hcmd]
    exact ⟨_, rfl⟩
  refine ⟨_, execFlashCmdDone_good hop, hbusy, hnone, fun a hlo hhi => s.flIdle.flashDo_erase hcmd hlo hhi, ?_⟩
  obtain ⟨m, h⟩ := herase
  rw [h]
  exact ⟨State.regsBut_of s.flIdle_regsBut rfl, rfl⟩

theorem flashCmdDone_read (o : FlashOp) (s : State) (hop : s.flOp = some o) (hcmd : o.cmd = 3) :
    Answers (.flashCmdDone none) s (fun t => t.b Fld.FL_STAT_BUSY = false ∧ t.flOp = none ∧ t.flash = s.flash ∧
      (∀ i, i < 64 → t.rget (Reg.FL_BUF i) = bytesW ((List.range 4).map (fun j => s.flashGet (o.addr + 4 * i + j))) 0)) := by
  obtain ⟨hbusy, hnone, -⟩ := s.flashDo_ended o
  refine ⟨_, execFlashCmdDone_good hop, hbusy, hnone, ?_⟩
  rw [s.flIdle.flashDo_read hcmd]
  obtain ⟨r, hform⟩ := s.flIdle.bufLoad_form o.addr 64
  exact ⟨by rw [hform]; rfl, fun i hi => s.flIdle.bufLoad_word o.addr 64 hi⟩

theorem flashCmdDone_ends (o : FlashOp) (left : Option (List Byte)) (s : State) (hop : s.flOp = some o) :
    Answers (.flashCmdDone left) s (fun t => t.b Fld.FL_STAT_BUSY = false ∧ t.flOp = none ∧ t.dev = s.dev) := by
  cases left with
  | none => exact ⟨_, execFlashCmdDone_good hop, s.flashDo_ended o⟩
  | some l =>
    obtain ⟨hbusy, -, -, hnone, hdev⟩ := s.flashFail_ended o l
    exact ⟨_, execFlashCmdDone_failed hop l, hbusy, hnone, hdev⟩

theorem optCmd_refused (s : State) (hacc : s.flAccepts = true) (hlock : s.b Fld.THERM_STAT_NVM_OK = false) :
    Answers (.optCmd 0x4F505457) s (fun t => t.b Fld.OPT_STAT_REFUSED = true ∧ t.causeSet Cause.LOG_OPT_REF = true ∧ t.nvm = s.nvm) := by
  refine ⟨_, congrArg Host.Outcome.next ((State.optCmd_key hacc).trans (if_neg (by simp [hlock]))), ?_, State.b_raise_self _ Cause.LOG_OPT_REF (by decide), rfl⟩
  rw [State.b_raise_apart _ _ _ (by decide) (by decide) (by decide) (by decide), State.b_setB_self _ _ _ (by decide) rfl]

theorem optCmd_writes (page : List Word) (s : State) (hacc : s.flAccepts = true) (hpage : page = (List.range 18).map (fun i => s.rget (Reg.OPT_STAGE i)))
    (hopt : optBytesOk page = true) (hfuse : fuseOk page = true) (hlock : s.b Fld.THERM_STAT_NVM_OK = true) :
    Answers (.optCmd 0x4F505457) s (fun t => NvmWrite.option page ∈ t.nvm.cur.toList ++ t.nvm.work ∧ t.regs = s.regs ∧ { t with nvm := s.nvm } = s) := by
  obtain rfl : page = s.optStaged := hpage
  refine ⟨_, congrArg Host.Outcome.next ((State.optCmd_key hacc).trans (if_pos (by simp [hopt, hfuse, hlock]))), s.nvmPush_pushes _, ?_⟩
  obtain ⟨n, hn⟩ := s.nvmPush_form (.option s.optStaged)
  rw [hn]
  exact ⟨rfl, rfl⟩

/-- Settles O46: a flash command runs unless it is ignored or refused, and ends by its code; OPT_CMD by its key and the staged page; the scrubber by what it finds. -/
theorem flashAndScrub : Obligations.FlashAndScrub := by
  unfold Obligations.FlashAndScrub
  refine ⟨flCmd_ignored, flCmdErase_refused, flCmdErase_starts, flCmdPage_starts, ?_, flashCmdDone_erased, ?_, fun key s h => ⟨_, rfl, s.optCmd_otherKey h⟩,
    optCmd_refused, fun mem a s => ⟨s, execScrubStep_clean mem a s, rfl⟩, ?_, flashCmdDone_read, flashCmdDone_ends, optCmd_writes, ?_, ?_⟩
  · intro left s hop
    refine ⟨s, ?_, rfl⟩
    change execFlashCmdDone left s = _
    unfold execFlashCmdDone
    rw [hop]
  · intro o l s hop
    obtain ⟨hbusy, herr, hcause, hnone, -⟩ := s.flashFail_ended o l
    exact ⟨_, execFlashCmdDone_failed hop l, hbusy, herr, hcause, hnone⟩
  · intro c a s hc hdev
    obtain ⟨hnum, hset, -⟩ := s.eccNote_shows (eccApart_dsp c hc).1 a
    exact ⟨_, (execScrubStep_dsp (s.scrubs_iff.2 (.inr (.inl hdev))) hc a).1, hnum, hset, by simp [State.dspCe]⟩
  · intro a s hdev
    obtain ⟨hnum, hset⟩ := s.counted_shows (F := Fld.WORT_ECC_CE) (c := Cause.WORT_ECC_CE) (by decide) (by decide) (by decide) (by decide) (by decide)
    exact ⟨_, execScrubStep_wort (s.scrubs_iff.2 hdev) a, hnum, hset, by simp [State.wortCe]⟩
  · intro c a s hc hdev
    exact ⟨_, (execScrubStep_dsp (s.scrubs_iff.2 hdev) hc a).2, s.eccNote_logged (eccApart_dsp c hc).2 a _ _ _⟩

end Sys2Proof.Machine
end

section
namespace Sys2Proof.Machine

/-! # TCLK edges (R272-R274) -/

/-- What the statement on the time counter speaks of: the counter, its wraps, the offset that waits, the time, the device state, and the bits of OFS_PEND, STEP
and WRAP. -/
structure TimeView where
  ctr : BitVec 64
  ofs : BitVec 64
  wraps : Int
  now : Nat
  dev : Dev
  pend : Bool
  step : Bool
  wrap : Bool

def State.timeView (s : State) : TimeView :=
  { ctr := s.time.ctr, ofs := s.time.ofs, wraps := s.time.wraps, now := s.now, dev := s.dev, pend := s.b Fld.TIME_STAT_OFS_PEND,
    step := s.b Cause.TIME_STEP.fld, wrap := s.b Cause.TIME_WRAP.fld }

/-- A field that shares no bit with the three that `State.timeView` shows. -/
def Fld.offTime (F : Fld) : Bool := F.fits && Fld.TIME_STAT_OFS_PEND.apart F && Cause.TIME_STEP.fld.apart F && Cause.TIME_WRAP.fld.apart F

theorem State.timeView_ite (c : Prop) [Decidable c] (a b : State) : (if c then a else b).timeView = if c then a.timeView else b.timeView := by split <;> rfl

theorem State.setF_timeView {F : Fld} (h : F.offTime = true) (s : State) (x : Nat) : (s.setF F x).timeView = s.timeView := by
  simp only [Fld.offTime, Bool.and_eq_true] at h
  obtain ⟨⟨⟨hfits, hpend⟩, hstep⟩, hwrap⟩ := h
  simp only [State.timeView, State.setF_time, State.setF_now, State.setF_dev, State.b_setF_apart s _ F x hfits hpend, State.b_setF_apart s _ F x hfits hstep,
    State.b_setF_apart s _ F x hfits hwrap]

theorem State.adcStamp_timeView (s : State) : s.adcStamp.timeView = s.timeView := by
  have hreq : ∀ n < 4, (Fld.ADC0_REQTS_NS n).offTime = true := by decide
  have hadc (p : State) (x : AdcSt) : (p.withAdc x).timeView = p.timeView := rfl
  unfold State.adcStamp
  refine foldl_keeps State.timeView (fun p n hn => ?_) s
  split
  · rw [State.timeView_ite, hadc, State.setF_timeView (hreq n (List.mem_range.1 hn)), ite_self]
  · rfl

theorem State.tinPhaseStep_timeView (s : State) : s.tinPhaseStep.timeView = s.timeView := by
  have htin (p : State) (n : Nat) (x : TinSt) : (p.setTin n x).timeView = p.timeView := rfl
  unfold State.tinPhaseStep
  refine foldl_keeps State.timeView (fun p n _ => ?_) s
  dsimp only
  rw [State.timeView_ite, htin, ite_self]

theorem State.tinFollow_timeView (s : State) : s.tinFollow.timeView = s.timeView := by
  have htin (p : State) (n : Nat) (x : TinSt) : (p.setTin n x).timeView = p.timeView := rfl
  unfold State.tinFollow State.tinTake
  refine foldl_keeps State.timeView (fun p n _ => ?_) s
  dsimp only
  rw [State.timeView_ite, htin, ite_self]

theorem State.ppsCheck_timeView (s : State) : s.ppsCheck.timeView = s.timeView := by
  have hpins (p : State) (x : PinSt) : (p.withPins x).timeView = p.timeView := rfl
  have harmed : (s.setB Fld.TIME_STAT_PPS_ARMED false).timeView = s.timeView := State.setF_timeView (by decide) s _
  unfold State.ppsCheck
  dsimp only
  rw [State.timeView_ite, hpins, harmed, ite_self]

theorem State.raise_wrap_timeView (s : State) : (s.raise Cause.TIME_WRAP).timeView = { s.timeView with wrap := true } := by
  have hkeep (F : Fld) (hfld : F.apart Cause.TIME_WRAP.fld = true) (hcnt : F.apart Cause.TIME_WRAP.cnt = true) : (s.raise Cause.TIME_WRAP).b F = s.b F :=
    State.b_raise_apart s F _ (by decide) (by decide) hfld hcnt
  simp only [State.timeView, State.raise_time, State.raise_now, State.raise_dev, hkeep Fld.TIME_STAT_OFS_PEND (by decide) (by decide),
    hkeep Cause.TIME_STEP.fld (by decide) (by decide), State.b_raise_self s Cause.TIME_WRAP (by decide)]

theorem State.raise_step_timeView (s : State) : (s.raise Cause.TIME_STEP).timeView = { s.timeView with step := true } := by
  have hkeep (F : Fld) (hfld : F.apart Cause.TIME_STEP.fld = true) (hcnt : F.apart Cause.TIME_STEP.cnt = true) : (s.raise Cause.TIME_STEP).b F = s.b F :=
    State.b_raise_apart s F _ (by decide) (by decide) hfld hcnt
  simp only [State.timeView, State.raise_time, State.raise_now, State.raise_dev, hkeep Fld.TIME_STAT_OFS_PEND (by decide) (by decide),
    hkeep Cause.TIME_WRAP.fld (by decide) (by decide), State.b_raise_self s Cause.TIME_STEP (by decide)]

/-- The counter takes a value: each wrap is counted and raises WRAP (R274). -/
theorem State.ctrTo_timeView (s : State) (n : Int) : (s.ctrTo n).timeView =
    { s.timeView with ctr := BitVec.ofInt 64 n, wraps := s.time.wraps + n / 2 ^ 64, wrap := if n / 2 ^ 64 = 0 then s.b Cause.TIME_WRAP.fld else true } := by
  have hline (p : State) : (p.line 1 5).timeView = p.timeView := rfl
  have hwraps (p : State) (x : Int) : (p.setFs Fld.TIME_STAT_WRAPS x).timeView = p.timeView := State.setF_timeView (by decide) p _
  unfold State.ctrTo
  dsimp only
  split
  · rfl
  · rw [hline, State.raise_wrap_timeView, hwraps]
    rfl

/-- The increment of the next edge: before commit the one that ran already (R67, R272). -/
def State.tclkInc (s : State) : Word := if s.dev = .boot then s.time.inc else clampInc (s.rget Reg.TIME_INC)

/-- The counter after `k` edges and the offset that waits, counted without bound. -/
def State.edgeCount (s : State) (k : Nat) : Int :=
  (s.time.ctr.toNat : Int) + k * (s.tclkInc.toNat * 16 : Nat) + if s.b Fld.TIME_STAT_OFS_PEND then s.time.ofs.toInt else 0

/-- The time after `k` edges, before what hangs on it follows. -/
def State.edgesCounted (s : State) (k : Nat) : State :=
  (((s.withNow (s.now + 4 * k)).withTime { s.time with inc := s.tclkInc, ofs := 0 }).setB Fld.TIME_STAT_OFS_PEND false).ctrTo (s.edgeCount k)

/-- With TCLK running, `k` edges count the time, and then the stamps, a phase step, the pulse and the inputs follow. -/
theorem State.tclkEdges_running {s : State} {k : Nat} (hrun : s.tclkRuns = true) (hk : k ≠ 0) : ∃ past,
    s.tclkEdges k = (if s.b Fld.TIME_STAT_OFS_PEND then
        (((((s.edgesCounted k).withTime { (s.edgesCounted k).time with past := past }).adcStamp).raise Cause.TIME_STEP).line 1 5).tinPhaseStep
      else ((s.edgesCounted k).withTime { (s.edgesCounted k).time with past := past }).adcStamp).ppsCheck.tinFollow := by
  have hgo : ¬(!(s.withNow (s.now + 4 * k)).tclkRuns || decide (k = 0)) = true := by
    have hsame : (s.withNow (s.now + 4 * k)).tclkRuns = s.tclkRuns := rfl
    simp [hsame, hrun, hk]
  unfold State.tclkEdges
  dsimp only
  rw [if_neg hgo]
  exact ⟨_, rfl⟩

theorem State.edgesCounted_timeView (s : State) (k : Nat) : (s.edgesCounted k).timeView =
    { ctr := BitVec.ofInt 64 (s.edgeCount k), ofs := 0, wraps := s.time.wraps + s.edgeCount k / 2 ^ 64, now := s.now + 4 * k, dev := s.dev, pend := false,
      step := s.b Cause.TIME_STEP.fld, wrap := if s.edgeCount k / 2 ^ 64 = 0 then s.b Cause.TIME_WRAP.fld else true } := by
  have hpend (p : State) : (p.setB Fld.TIME_STAT_OFS_PEND false).b Fld.TIME_STAT_OFS_PEND = false := State.b_setB_self p _ _ (by decide) rfl
  have hflag (p : State) {F : Fld} (h : F.apart Fld.TIME_STAT_OFS_PEND = true) : (p.setB Fld.TIME_STAT_OFS_PEND false).b F = p.b F :=
    State.b_setB_apart p F _ _ (by decide) h
  have hstep (p : State) := hflag p (F := Cause.TIME_STEP.fld) (by decide)
  have hwrap (p : State) := hflag p (F := Cause.TIME_WRAP.fld) (by decide)
  unfold State.edgesCounted
  rw [State.ctrTo_timeView, hwrap]
  simp only [State.timeView, hpend, hstep, hwrap]
  rfl

/-- What `k` edges of a running TCLK do to the time (R272-R274). -/
theorem State.tclkEdges_timeView {s : State} {k : Nat} (hrun : s.tclkRuns = true) (hk : k ≠ 0) : (s.tclkEdges k).timeView =
    { (s.edgesCounted k).timeView with step := s.b Fld.TIME_STAT_OFS_PEND || (s.edgesCounted k).timeView.step } := by
  have hline (p : State) : (p.line 1 5).timeView = p.timeView := rfl
  have hpast (p : State) (l : List (BitVec 64)) : (p.withTime { p.time with past := l }).timeView = p.timeView := rfl
  obtain ⟨past, h⟩ := State.tclkEdges_running hrun hk
  rw [h, State.tinFollow_timeView, State.ppsCheck_timeView]
  cases hpend : s.b Fld.TIME_STAT_OFS_PEND with
  | false => simp only [Bool.false_eq_true, if_false, Bool.false_or, State.adcStamp_timeView, hpast]
  | true => simp only [if_true, Bool.true_or, State.tinPhaseStep_timeView, hline, State.raise_step_timeView, State.adcStamp_timeView, hpast]

/-! ## The edge of a pending offset, and the edges up to the wrap -/

theorem timeOffsetApply_steps (s : State) (hpend : s.b Fld.TIME_STAT_OFS_PEND = true) (hrun : s.tclkRuns = true) :
    ∃ t, exec .timeOffsetApply s = .next t ∧ t.b Fld.TIME_STAT_OFS_PEND = false ∧ t.time.ofs = 0 ∧ t.now = s.now + 4 ∧ t.causeSet Cause.TIME_STEP = true ∧
      t.dev = s.dev ∧ t.time.ctr = BitVec.ofInt 64 (s.edgeCount 1) := by
  have hview := (State.tclkEdges_timeView hrun one_ne_zero).trans (by rw [hpend, State.edgesCounted_timeView])
  exact ⟨_, congrArg Host.Outcome.next (if_pos hpend), congrArg TimeView.pend hview, congrArg TimeView.ofs hview, congrArg TimeView.now hview,
    congrArg TimeView.step hview, congrArg TimeView.dev hview, congrArg TimeView.ctr hview⟩

/-- An edge adds the increment and the offset modulo 2^64 (R273). -/
theorem State.edgeCount_one {s : State} (hpend : s.b Fld.TIME_STAT_OFS_PEND = true) :
    BitVec.ofInt 64 (s.edgeCount 1) = s.time.ctr + BitVec.ofNat 64 (s.tclkInc.toNat * 16) + s.time.ofs := by
  unfold State.edgeCount
  rw [if_pos hpend, BitVec.ofInt_add, BitVec.ofInt_add, BitVec.ofInt_toInt, BitVec.ofInt_natCast, BitVec.ofNat_toNat, BitVec.setWidth_eq, Nat.cast_one, one_mul,
    BitVec.ofInt_natCast]

theorem clampInc_bounds (v : Word) : 0x3FEF9DB2 ≤ (clampInc v).toNat ∧ (clampInc v).toNat ≤ 0x4010624E := by
  unfold clampInc
  split
  · decide
  · split
    · decide
    · omega

/-- The edges up to the wrap take the counter past 2^64, by less than an increment. -/
theorem edgesToWrap {c d : Nat} (hc : c < 2 ^ 64) (hd : 0 < d) : 2 ^ 64 ≤ c + (2 ^ 64 - c + d - 1) / d * d ∧ c + (2 ^ 64 - c + d - 1) / d * d < 2 ^ 64 + d := by
  have hdiv := Nat.div_add_mod' (2 ^ 64 - c + d - 1) d
  have hmod := Nat.mod_lt (2 ^ 64 - c + d - 1) hd
  generalize (2 ^ 64 - c + d - 1) / d * d = p at *
  omega

theorem timeCounterWrap_wraps (s : State) (hrun : s.tclkRuns = true) (hdev : s.dev ≠ .boot) (hpend : s.b Fld.TIME_STAT_OFS_PEND = false) :
    Answers .timeCounterWrap s (fun t => t.time.wraps = s.time.wraps + 1 ∧ t.causeSet Cause.TIME_WRAP = true) := by
  obtain ⟨hlo, hhi⟩ := clampInc_bounds (s.rget Reg.TIME_INC)
  have hinc : s.tclkInc = clampInc (s.rget Reg.TIME_INC) := if_neg hdev
  obtain ⟨hpast, hnear⟩ := edgesToWrap s.time.ctr.isLt (d := s.tclkInc.toNat * 16) (by rw [hinc]; omega)
  generalize hk : (2 ^ 64 - s.time.ctr.toNat + s.tclkInc.toNat * 16 - 1) / (s.tclkInc.toNat * 16) = k at hpast hnear
  have hwraps : s.edgeCount k / 2 ^ 64 = 1 := by
    unfold State.edgeCount
    rw [if_neg (by simp [hpend]), ← Nat.cast_mul]
    rw [hinc] at hpast hnear ⊢
    omega
  have hne : k ≠ 0 := by
    rintro rfl
    have := s.time.ctr.isLt
    omega
  have hview := (State.tclkEdges_timeView hrun hne).trans (by rw [State.edgesCounted_timeView, hwraps])
  refine ⟨s.tclkEdges k, ?_, congrArg TimeView.wraps hview, congrArg TimeView.wrap hview⟩
  rw [← hk]
  rfl

/-! # TIME_INC and TIME_OFS (R272, R273) -/

theorem timeIncWrite_inRange (v : Word) (s : State) (hlo : 0x3FEF9DB2 ≤ v.toNat) (hhi : v.toNat ≤ 0x4010624E) :
    Answers (.timeIncWrite v) s (fun t => t.rget Reg.TIME_INC = v ∧ State.regsBut [Reg.TIME_INC] s t ∧ { t with regs := s.regs } = s) := by
  have hkeep : clampInc v = v := by
    unfold clampInc
    rw [if_neg (by omega), if_neg (by omega)]
  refine ⟨s.rset Reg.TIME_INC v, congrArg Host.Outcome.next ?_, State.rget_rset_self s _ v, State.regsBut_rset _ _ (State.regsBut_refl _ s) (by decide), rfl⟩
  simp [State.timeIncWrite, State.raiseIf, hkeep]

theorem timeIncWrite_clamped (v : Word) (s : State) (h : v.toNat < 0x3FEF9DB2 ∨ 0x4010624E < v.toNat) :
    Answers (.timeIncWrite v) s (fun t => t.causeSet Cause.TIME_INC_CLAMP = true ∧ t.rget Reg.TIME_INC = v ∧ { t with regs := s.regs } = s) := by
  have hclamp : clampInc v ≠ v := by
    obtain ⟨hlo, hhi⟩ := clampInc_bounds v
    intro hv
    rw [hv] at hlo hhi
    omega
  refine ⟨(s.rset Reg.TIME_INC v).raise Cause.TIME_INC_CLAMP, congrArg Host.Outcome.next ?_, State.b_raise_self _ Cause.TIME_INC_CLAMP (by decide), ?_, by simp⟩
  · simp [State.timeIncWrite, State.raiseIf, hclamp]
  · rw [State.rget_raise_ne _ _ _ (by decide) (by decide), State.rget_rset_self]

theorem timeOfsWrite_adds (v : Word) (s : State) : Answers (.timeOfsWrite v) s (fun t => t.b Fld.TIME_STAT_OFS_PEND = true ∧
    t.time.ofs = s.time.ofs + (v ++ s.rget Reg.TIME_OFSF) ∧ State.regsBut [Reg.TIME_STAT] s t ∧ { t with regs := s.regs, time := s.time } = s) :=
  ⟨s.timeOfsWrite v, rfl, State.b_setB_self _ _ _ (by decide) rfl, rfl,
    State.regsBut_setB (t := s.withTime _) _ _ (State.regsBut_of (State.regsBut_refl _ s) rfl) (by decide), rfl⟩

theorem timeNsRead_latches (s : State) : Answers .timeNsRead s (fun t => t.f Fld.TIME_FRAC_FRAC = s.time.ctr.toNat % 2 ^ 32 ∧ State.regsBut [Reg.TIME_FRAC] s t ∧
    { t with regs := s.regs } = s) := by
  refine ⟨_, rfl, ?_, State.regsBut_setF _ _ (State.regsBut_refl _ s) (by decide), rfl⟩
  rw [State.f_setF_self _ _ _ (by decide)]
  exact Nat.mod_mod _ _

/-! # VALID (R64, R275) -/

/-- What a write of TIME_CTRL leaves in its other bits. -/
def State.timeCtrlSet (s : State) (v : Word) : State := s.rset Reg.TIME_CTRL (v &&& 0xFFFF02)

theorem State.timeCtrlSet_regsBut (s : State) (v : Word) : State.regsBut [Reg.TIME_CTRL] s (s.timeCtrlSet v) :=
  State.regsBut_rset _ _ (State.regsBut_refl _ s) (by decide)

theorem State.timeCtrlWrite_valid {s : State} {m : Nat} {v : Word} (h : v.getLsbD 0 = true)
    (hset : m = 2 ∧ s.rst.sections.testBit 10 = true ∨ s.b Fld.TIME_CTRL_VALID = true) : s.timeCtrlWrite m v = (s.timeCtrlSet v).setB Fld.TIME_CTRL_VALID true := by
  unfold State.timeCtrlWrite
  exact if_pos (by simpa [h] using hset)

theorem State.timeCtrlWrite_invalid {s : State} {m : Nat} {v : Word}
    (h : v.getLsbD 0 = false ∨ (m ≠ 2 ∨ s.rst.sections.testBit 10 = false) ∧ s.b Fld.TIME_CTRL_VALID = false) :
    s.timeCtrlWrite m v = (s.timeCtrlSet v).timeInvalid := by
  unfold State.timeCtrlWrite
  refine if_neg ?_
  rcases h with h | ⟨hm, hb⟩
  · rw [h, Bool.false_and]
    exact Bool.false_ne_true
  · rcases hm with hm | hm <;> simp [hm, hb]

/-- The time is invalid, PPS_OUT low, and only TIME_CTRL has changed. -/
theorem State.timeCtrlInvalid_shows (s : State) (v : Word) : (s.timeCtrlSet v).timeInvalid.b Fld.TIME_CTRL_VALID = false ∧
    (s.timeCtrlSet v).timeInvalid.pins.pps = false ∧ State.regsBut [Reg.TIME_CTRL] s (s.timeCtrlSet v).timeInvalid :=
  ⟨State.b_setB_self (s.timeCtrlSet v) Fld.TIME_CTRL_VALID false (by decide) rfl, rfl,
    State.regsBut_of (State.regsBut_setB Fld.TIME_CTRL_VALID false (s.timeCtrlSet_regsBut v) (by decide)) rfl⟩

theorem timeCtrlWrite_sets (v : Word) (s : State) (hv : v.getLsbD 0 = true) (hsec : s.rst.sections.testBit 10 = true) :
    Answers (.timeCtrlWrite 2 v) s (fun t => t.b Fld.TIME_CTRL_VALID = true ∧ State.regsBut [Reg.TIME_CTRL] s t ∧ { t with regs := s.regs } = s) :=
  ⟨_, congrArg Host.Outcome.next (State.timeCtrlWrite_valid hv (.inl ⟨rfl, hsec⟩)), State.b_setB_self _ _ _ (by decide) rfl,
    State.regsBut_setB _ _ (s.timeCtrlSet_regsBut v) (by decide), rfl⟩

theorem timeCtrlWrite_keeps (m : Nat) (v : Word) (s : State) (hm : m ≠ 2 ∨ s.rst.sections.testBit 10 = false) (hv : v.getLsbD 0 = true) :
    Answers (.timeCtrlWrite m v) s (fun t => t.b Fld.TIME_CTRL_VALID = s.b Fld.TIME_CTRL_VALID ∧ State.regsBut [Reg.TIME_CTRL] s t) := by
  cases hvalid : s.b Fld.TIME_CTRL_VALID with
  | true =>
    exact ⟨_, congrArg Host.Outcome.next (State.timeCtrlWrite_valid hv (.inr hvalid)), State.b_setB_self _ _ _ (by decide) rfl,
      State.regsBut_setB _ _ (s.timeCtrlSet_regsBut v) (by decide)⟩
  | false =>
    obtain ⟨hclear, -, hregs⟩ := s.timeCtrlInvalid_shows v
    exact ⟨_, congrArg Host.Outcome.next (State.timeCtrlWrite_invalid (.inr ⟨hm, hvalid⟩)), hclear, hregs⟩

theorem timeCtrlWrite_clears (m : Nat) (v : Word) (s : State) (hv : v.getLsbD 0 = false) :
    Answers (.timeCtrlWrite m v) s (fun t => t.b Fld.TIME_CTRL_VALID = false ∧ t.pins.pps = false ∧ State.regsBut [Reg.TIME_CTRL] s t) :=
  ⟨_, congrArg Host.Outcome.next (State.timeCtrlWrite_invalid (.inl hv)), s.timeCtrlInvalid_shows v⟩

/-! # PPS_OUT (R276) -/

theorem timePpsWrite_arms (v : Word) (s : State) (h : (s.ns + 2 ^ 32 - v.toNat) % 2 ^ 32 ≠ 2 ^ 31) :
    Answers (.timePpsWrite v) s (fun t => t.b Fld.TIME_STAT_PPS_ARMED = true ∧ t.rget Reg.TIME_PPS = v ∧ State.regsBut [Reg.TIME_PPS, Reg.TIME_STAT] s t ∧
      { t with regs := s.regs } = s) := by
  refine ⟨_, congrArg Host.Outcome.next (if_neg h), State.b_setB_self _ _ _ (by decide) rfl, ?_,
    State.regsBut_setB _ _ (State.regsBut_rset _ _ (State.regsBut_refl _ s) (by decide)) (by decide), rfl⟩
  exact (State.rget_setF_ne _ _ _ _ (by decide)).trans (State.rget_rset_self s _ v)

theorem timePpsWrite_misses (v : Word) (s : State) (h : (s.ns + 2 ^ 32 - v.toNat) % 2 ^ 32 = 2 ^ 31) :
    Answers (.timePpsWrite v) s (fun t => t.causeSet Cause.TIME_PPS_MISS = true ∧ t.b Fld.TIME_STAT_PPS_ARMED = false ∧ t.rget Reg.TIME_PPS = v ∧
      { t with regs := s.regs } = s) := by
  refine ⟨((s.rset Reg.TIME_PPS v).setB Fld.TIME_STAT_PPS_ARMED false).raise Cause.TIME_PPS_MISS, congrArg Host.Outcome.next (if_pos h),
    State.b_raise_self _ Cause.TIME_PPS_MISS (by decide), ?_, ?_, by simp⟩
  · rw [State.b_raise_apart _ _ _ (by decide) (by decide) (by decide) (by decide), State.b_setB_self _ _ _ (by decide) rfl]
  · rw [State.rget_raise_ne _ _ _ (by decide) (by decide)]
    exact (State.rget_setF_ne _ _ _ _ (by decide)).trans (State.rget_rset_self s _ v)

theorem ppsPulse_rises (s : State) (harmed : s.b Fld.TIME_STAT_PPS_ARMED = true) (hvalid : s.b Fld.TIME_CTRL_VALID = true) (hen : s.b Fld.TIME_CTRL_PPS_EN = true)
    (hdue : (s.ns + 2 ^ 32 - s.f Fld.TIME_PPS_TARGET) % 2 ^ 32 < 2 ^ 31) :
    Answers .ppsPulse s (fun t => t.pins.pps = true ∧ t.pins.ppsT = s.now + 1000 * max 1 (s.f Fld.TIME_CTRL_PPSW) ∧
      t.b Fld.TIME_STAT_PPS_ARMED = false ∧ State.regsBut [Reg.TIME_STAT] s t ∧ { t with regs := s.regs, pins := s.pins } = s) :=
  ⟨_, congrArg Host.Outcome.next (if_pos (by simpa [harmed, hvalid, hen] using hdue)), rfl, rfl,
    State.b_setB_self s Fld.TIME_STAT_PPS_ARMED false (by decide) rfl,
    State.regsBut_of (State.regsBut_setB Fld.TIME_STAT_PPS_ARMED false (State.regsBut_refl _ s) (by decide)) rfl, rfl⟩

/-- Settles O37: the counter by what an edge does to it, the registers of the time by their writes, PPS_OUT by its conditions. -/
theorem timeAndPps : Obligations.TimeAndPps := by
  unfold Obligations.TimeAndPps
  refine ⟨?_, ?_, timeCounterWrap_wraps, timeNsRead_latches, timeIncWrite_inRange, timeIncWrite_clamped, timeOfsWrite_adds, timeCtrlWrite_sets, timeCtrlWrite_keeps,
    timeCtrlWrite_clears, timePpsWrite_arms, ppsPulse_rises, ?_, ?_, ?_, timePpsWrite_misses, ?_⟩
  · exact fun s h => ⟨s, congrArg Host.Outcome.next (if_neg (by simp [h])), rfl⟩
  · intro s hpend hrun hdev
    obtain ⟨t, ht, hclear, hofs, hnow, hstep, -, hctr⟩ := timeOffsetApply_steps s hpend hrun
    refine ⟨t, ht, hclear, hofs, hnow, hstep, ?_⟩
    rw [hctr, State.edgeCount_one hpend, State.tclkInc, if_neg hdev]
  · exact fun s h => ⟨s, congrArg Host.Outcome.next (if_neg (by simp [h])), rfl⟩
  · exact fun s h => ⟨_, congrArg Host.Outcome.next (if_pos h), rfl, rfl⟩
  · exact fun s h => ⟨s, congrArg Host.Outcome.next (if_neg (by omega)), rfl⟩
  · intro s hpend hrun
    obtain ⟨t, ht, hclear, hofs, hnow, hstep, hdev, -⟩ := timeOffsetApply_steps s hpend hrun
    exact ⟨t, ht, hclear, hofs, hnow, hstep, hdev⟩

end Sys2Proof.Machine
end

section
namespace Sys2Proof.Machine

/-! # The registers that a change of the device state writes (R295-R298) -/

theorem State.regsBut_trans {l : List Nat} {s t u : State} (hs : State.regsBut l s t) (ht : State.regsBut l t u) : State.regsBut l s u :=
  fun a ha => (ht a ha).trans (hs a ha)

theorem State.regsBut_mono {l m : List Nat} {s t : State} (hs : State.regsBut l s t) (h : l ⊆ m) : State.regsBut m s t := fun a ha => hs a fun hl => ha (h hl)

theorem State.regsBut_ite {l : List Nat} {s a b : State} {c : Prop} [Decidable c] (ha : State.regsBut l s a) (hb : State.regsBut l s b) :
    State.regsBut l s (if c then a else b) := by
  split
  · exact ha
  · exact hb

/-- What each step of a fold leaves alone, the fold leaves alone. -/
theorem State.regsBut_foldl {α : Type} {l : List Nat} {g : State → α → State} {xs : List α} (h : ∀ s, ∀ x ∈ xs, State.regsBut l s (g s x)) (s : State) :
    State.regsBut l s (xs.foldl g s) := by
  induction xs generalizing s with
  | nil => exact State.regsBut_refl l s
  | cons x xs ih => exact State.regsBut_trans (h s x List.mem_cons_self) (ih (fun s y hy => h s y (List.mem_cons_of_mem _ hy)) _)

/-- The registers of the state, the session, the Cask's refusals, the event log, lock, PLLA, VSPAD and the Guard's outputs. -/
def Reg.devRegs : List Nat :=
  [Reg.AMP_STATE, Cause.AMP_STATE.fld.addr, Cause.AMP_STATE.cnt.addr, Reg.GUARD_STAT, Reg.GUARD_CRC, Reg.CASK_STAT, Cause.CASK_REFUSED.fld.addr,
    Cause.CASK_REFUSED.cnt.addr, Reg.THERM_CNT, Reg.SCAN_STAT, Reg.CLK_STATUS, Reg.PWR_STATUS]

theorem State.nvmPush_regs (s : State) (w : NvmWrite) : (s.nvmPush w).regs = s.regs := by
  obtain ⟨n, h⟩ := s.nvmPush_form w
  rw [h]
  rfl

theorem State.lrsOwn_regs (s : State) (first : Bool) (kind : Nat) (data : List Word) : (s.lrsOwn first kind data).regs = s.regs := by
  unfold State.lrsOwn
  split <;> rfl

theorem State.changeAbort_regsBut (s : State) (uid : Nat) : State.regsBut Reg.devRegs s (s.changeAbort uid).1 := by
  have hopen : State.regsBut Reg.devRegs s (s.setB Fld.GUARD_STAT_CHANGE_OPEN false) := State.regsBut_setB _ _ (State.regsBut_refl _ s) (by decide)
  unfold State.changeAbort
  split
  · exact State.regsBut_refl _ s
  · dsimp only
    split
    · exact State.regsBut_of (State.regsBut_rset Reg.GUARD_CRC _ hopen (by decide)) (State.nvmPush_regs _ _)
    · exact hopen

theorem State.endSession_regsBut (s : State) : State.regsBut Reg.devRegs s s.endSession := by
  have hamp : State.regsBut Reg.devRegs s (s.withAmp { s.amp with sess := none }) := State.regsBut_of (State.regsBut_refl _ s) rfl
  unfold State.endSession
  split
  · exact State.regsBut_refl _ s
  · exact State.regsBut_ite hamp (State.regsBut_trans hamp (State.changeAbort_regsBut _ _))

theorem State.caskRefuse_regsBut (s : State) : State.regsBut Reg.devRegs s s.caskRefuse := by
  have hraise : State.regsBut Reg.devRegs s ((s.incSat Fld.CASK_STAT_REFUSED 1).raise Cause.CASK_REFUSED) :=
    State.regsBut_raise _ (State.regsBut_setF Fld.CASK_STAT_REFUSED _ (State.regsBut_refl _ s) (by decide)) (by decide) (by decide)
  have hcask (p : State) (x : CaskSt) : (p.withCask x).regs = p.regs := rfl
  exact State.regsBut_ite hraise (State.regsBut_logEvent _ _ _ (State.regsBut_of hraise (hcask _ _)) (by decide))

theorem State.serviceLeave_regsBut (s : State) : State.regsBut Reg.devRegs s s.serviceLeave := by
  have hwork : State.regsBut Reg.devRegs s (s.withNvm { s.nvm with work := s.nvm.work.filter (fun w => !isMec w) }) := State.regsBut_of (State.regsBut_refl _ s) rfl
  unfold State.serviceLeave
  have hfold := State.regsBut_trans hwork (State.regsBut_foldl (fun p _ _ => State.caskRefuse_regsBut p) (xs := List.range (s.nvm.work.filter isMec).length) _)
  exact State.regsBut_ite hfold (State.regsBut_of hfold (State.lrsOwn_regs _ _ _ _))

theorem State.setDev_regsBut (s : State) (d : Dev) : State.regsBut Reg.devRegs s (s.setDev d) := by
  have hdev : State.regsBut Reg.devRegs s (s.withDev d) := State.regsBut_of (State.regsBut_refl _ s) rfl
  exact State.regsBut_ite (State.regsBut_refl _ s)
    (State.regsBut_raise _ (State.regsBut_setF Fld.AMP_STATE_STATE _ hdev (by decide)) (by decide) (by decide))

theorem State.lockFollow_regsBut (s : State) : State.regsBut Reg.devRegs s s.lockFollow :=
  State.regsBut_ite (State.regsBut_refl _ s) (State.regsBut_of (State.regsBut_setB Fld.SCAN_STAT_LOCKED false (State.regsBut_refl _ s) (by decide)) rfl)

theorem State.pllaFollow_regsBut (s : State) : State.regsBut Reg.devRegs s s.pllaFollow :=
  State.regsBut_ite (State.regsBut_refl _ s) (State.regsBut_setB _ _ (State.regsBut_refl _ s) (by decide))

theorem State.vspadFollow_regsBut (s : State) : State.regsBut Reg.devRegs s s.vspadFollow :=
  State.regsBut_ite (State.regsBut_refl _ s) (State.regsBut_setF _ _ (State.regsBut_refl _ s) (by decide))

theorem State.soutOff_regsBut (s : State) : State.regsBut Reg.devRegs s s.soutOff := by
  have hon := State.regsBut_setB Fld.GUARD_STAT_ON false (State.regsBut_refl Reg.devRegs s) (by decide)
  have hclear := State.regsBut_setF Fld.GUARD_STAT_CLEAR 0 hon (by decide)
  exact State.regsBut_ite (State.regsBut_of (State.regsBut_setB Fld.GUARD_STAT_RST_WAIT false hclear (by decide)) rfl) (State.regsBut_refl _ s)

theorem State.guardFollow_regsBut (s : State) : State.regsBut Reg.devRegs s s.guardFollow :=
  State.regsBut_ite s.soutOff_regsBut (State.regsBut_refl _ s)

/-- A change of the device state leaves every other register alone. -/
theorem State.toState_regsBut (s : State) (d : Dev) : State.regsBut Reg.devRegs s (s.toState d) := by
  have hleft : State.regsBut Reg.devRegs s (if s.dev = .idle then s.endSession else s) := State.regsBut_ite s.endSession_regsBut (State.regsBut_refl _ s)
  have hserv (p : State) : State.regsBut Reg.devRegs p (if p.dev = .service then p.serviceLeave else p) :=
    State.regsBut_ite p.serviceLeave_regsBut (State.regsBut_refl _ p)
  have hpend (p : State) : State.regsBut Reg.devRegs p (if d = .idle then p else p.setB Fld.AMP_STATE_PEND_START false) :=
    State.regsBut_ite (State.regsBut_refl _ p) (State.regsBut_setB _ _ (State.regsBut_refl _ p) (by decide))
  have henter (p : State) : State.regsBut Reg.devRegs p (if d = .service then p.serviceEnter else p) :=
    State.regsBut_ite (State.regsBut_of (State.regsBut_refl _ p) rfl) (State.regsBut_refl _ p)
  have hfollow (p : State) : State.regsBut Reg.devRegs p p.lockFollow.pllaFollow.vspadFollow.guardFollow :=
    State.regsBut_trans (State.regsBut_trans (State.regsBut_trans p.lockFollow_regsBut (State.pllaFollow_regsBut _)) (State.vspadFollow_regsBut _))
      (State.guardFollow_regsBut _)
  unfold State.toState
  refine State.regsBut_ite (State.regsBut_refl _ s) (State.regsBut_trans ?_ (hfollow _))
  exact State.regsBut_trans (State.regsBut_trans (State.regsBut_trans (State.regsBut_trans hleft (hserv _)) (State.setDev_regsBut _ d)) (hpend _)) (henter _)

/-! # Leaving BOOT (R70, R298) -/

/-- Besides those, leaving BOOT writes the lanes' rates, PRP's part of ETH_STAT0 and its cause. -/
def Reg.bootRegs : List Nat :=
  Reg.devRegs ++ (List.range 4).map (fun n => (Fld.LANE_STAT_RATE n).addr) ++
    [(Fld.ETH_STAT_PRP_ACTIVE 0).addr, (Cause.ETH_PRP_CFG 0).fld.addr, (Cause.ETH_PRP_CFG 0).cnt.addr]

theorem Reg.mem_bootRegs_of_rate {n : Nat} (h : n < 4) : (Fld.LANE_STAT_RATE n).addr ∈ Reg.bootRegs := by
  refine List.mem_append_left _ (List.mem_append_right _ ?_)
  exact List.mem_map_of_mem (List.mem_range.2 h)

theorem State.laneRates_regsBut (s : State) : State.regsBut Reg.bootRegs s s.laneRates :=
  State.regsBut_foldl (fun p n hn => State.regsBut_setF (Fld.LANE_STAT_RATE n) _ (State.regsBut_refl _ p) (Reg.mem_bootRegs_of_rate (List.mem_range.1 hn))) s

theorem State.prpCommit_regsBut (s : State) : State.regsBut Reg.bootRegs s s.prpCommit := by
  have hstat := State.regsBut_setB (Fld.ETH_STAT_PRP_ACTIVE 0) s.prpActive (State.regsBut_refl Reg.bootRegs s) (by decide)
  exact State.regsBut_ite (State.regsBut_raise _ hstat (by decide) (by decide)) hstat

/-- What the statements on the start-up ask of the parts that a change of the device state leaves alone. -/
theorem State.parts_of_still {s t : State} (h : t.still = s.still) : t.rst = s.rst ∧ t.mash = s.mash := by
  have hrst := congrArg State.rst h
  have hmash := congrArg State.mash h
  exact ⟨hrst, hmash⟩

/-- With what BOOT ends before the state changes: the phase, the SAFE cause of a failed crystal, the lanes and PRP (R41, R258). -/
def State.bootEnded (s : State) : State :=
  let s := s.withRst { s.rst with phase := .done }
  let s := if s.rst.xt = 2 && !s.rst.rcAllowed then s.setF Fld.AMP_STATE_SAFE_CAUSE (s.f Fld.AMP_STATE_SAFE_CAUSE ||| 16) else s
  s.laneRates.prpCommit

theorem State.leaveBoot_eq (s : State) : s.leaveBoot = if s.bootEnded.f Fld.AMP_STATE_SAFE_CAUSE != 0 then
    (s.bootEnded.logEvent 0x0040 (BitVec.ofNat 32 (s.bootEnded.f Fld.AMP_STATE_SAFE_CAUSE)) 0).toState .safe else s.bootEnded.toState .idle := rfl

theorem State.bootEnded_regsBut (s : State) : State.regsBut Reg.bootRegs s s.bootEnded := by
  have hrst : State.regsBut Reg.bootRegs s (s.withRst { s.rst with phase := .done }) := State.regsBut_of (State.regsBut_refl _ s) rfl
  have hcause := State.regsBut_ite (c := (s.rst.xt = 2 && !s.rst.rcAllowed) = true)
    (State.regsBut_setF Fld.AMP_STATE_SAFE_CAUSE (s.f Fld.AMP_STATE_SAFE_CAUSE ||| 16) hrst (by decide)) hrst
  exact State.regsBut_trans (State.regsBut_trans hcause (State.laneRates_regsBut _)) (State.prpCommit_regsBut _)

/-- The loader's, the calibration's and every other register but those of `Reg.bootRegs` stay as BOOT leaves them. -/
theorem State.leaveBoot_regsBut (s : State) : State.regsBut Reg.bootRegs s s.leaveBoot := by
  have hdev (p : State) (d : Dev) : State.regsBut Reg.bootRegs p (p.toState d) := State.regsBut_mono (p.toState_regsBut d) (by simp [Reg.bootRegs])
  rw [State.leaveBoot_eq]
  exact State.regsBut_ite (State.regsBut_trans (State.regsBut_logEvent _ _ _ s.bootEnded_regsBut (by decide)) (hdev _ _))
    (State.regsBut_trans s.bootEnded_regsBut (hdev _ _))

theorem State.bootEnded_still (s : State) : s.bootEnded.still = (s.withRst { s.rst with phase := .done }).still := by
  have hrates (p : State) : p.laneRates.still = p.still := foldl_keeps State.still (fun p n _ => State.setF_still p (Fld.LANE_STAT_RATE n) _) p
  simp only [State.bootEnded, State.prpCommit, State.raiseIf, State.still_ite, State.raise_still, State.setB_still, State.setF_still, hrates, ite_self]

/-- Leaving BOOT ends the start-up, and touches no more than a change of the device state does. -/
theorem State.leaveBoot_still (s : State) : s.leaveBoot.still = (s.withRst { s.rst with phase := .done }).still := by
  rw [State.leaveBoot_eq, State.still_ite, State.toState_still, State.toState_still, State.logEvent_still, ite_self, State.bootEnded_still]

theorem State.leaveBoot_dev (s : State) : s.leaveBoot.dev ≠ .boot := by
  rw [State.leaveBoot_eq]
  split
  · rw [State.toState_dev]
    decide
  · rw [State.toState_dev]
    decide

end Sys2Proof.Machine
end

section
namespace Sys2Proof.Machine

/-! # Calibration runs (R139) -/

/-- A boot run is under way: BUSY is set, CALDONE clear, the clusters wake. -/
theorem State.startBootRun_shows (s : State) : s.startBootRun.b Fld.RX_CALSTAT_BUSY = true ∧ s.startBootRun.b Fld.RX_STAT_CALDONE = false ∧
    s.startBootRun.mash.bootRun = true ∧ State.regsBut [Reg.RX_CALSTAT, Reg.RX_STAT] s s.startBootRun ∧
    { s.startBootRun with regs := s.regs, scan := s.scan, mash := s.mash } = s := by
  have hwith : State.regsBut [Reg.RX_CALSTAT, Reg.RX_STAT] s
      ((s.withScan { s.scan with clu := s.wakeable }).withMash { s.mash with bootRun := true }) := State.regsBut_of (State.regsBut_refl _ s) rfl
  unfold State.startBootRun
  refine ⟨?_, State.b_setB_self _ _ _ (by decide) rfl, rfl, ?_, by simp⟩
  · rw [State.b_setB_apart _ _ _ _ (by decide) (by decide), State.b_setB_self _ _ _ (by decide) rfl]
  · exact State.regsBut_setB Fld.RX_STAT_CALDONE false (State.regsBut_setB Fld.RX_CALSTAT_BUSY true hwith (by decide)) (by decide)

/-- The run has ended: BUSY clears, CALDONE sets, and the clusters' domains are off. -/
theorem State.bootRunEnd_shows (s : State) (hits : List (Nat × List Nat)) : (s.bootRunEnd hits).b Fld.RX_CALSTAT_BUSY = false ∧
    (s.bootRunEnd hits).b Fld.RX_STAT_CALDONE = true ∧ (s.bootRunEnd hits).scan.clu = 0 ∧ (s.bootRunEnd hits).mash.bootRun = false := by
  unfold State.bootRunEnd
  refine ⟨?_, State.b_setB_self _ _ _ (by decide) rfl, rfl, rfl⟩
  rw [State.b_setB_apart _ _ _ _ (by decide) (by decide), State.b_setB_self _ _ _ (by decide) rfl]

theorem rxCalRun_starts (s : State) (hdev : s.dev = .idle) (hidle : s.b Fld.RX_CALSTAT_BUSY = false) :
    Answers .rxCalRun s (fun t => t.b Fld.RX_CALSTAT_BUSY = true ∧ t.b Fld.RX_STAT_CALDONE = false ∧ State.regsBut [Reg.RX_CALSTAT, Reg.RX_STAT] s t ∧
      { t with regs := s.regs, scan := s.scan, mash := s.mash } = s) := by
  obtain ⟨hbusy, hdone, -, hregs, hframe⟩ := s.startBootRun_shows
  exact ⟨s.startBootRun, congrArg Host.Outcome.next (if_pos (by simp [hdev, hidle])), hbusy, hdone, hregs, hframe⟩

theorem rxCalRun_ignored (s : State) (h : s.dev ≠ .idle ∨ s.b Fld.RX_CALSTAT_BUSY = true) : Answers .rxCalRun s (fun t => t = s) :=
  ⟨s, congrArg Host.Outcome.next (if_neg (by rcases h with h | h <;> simp [h])), rfl⟩

theorem State.pllaFollow_scan (s : State) : s.pllaFollow.scan = s.scan := by
  unfold State.pllaFollow
  split <;> rfl

theorem State.vspadFollow_scan (s : State) : s.vspadFollow.scan = s.scan := by
  unfold State.vspadFollow
  split <;> rfl

/-- At the end of the run PLLA and VSPAD follow, which show in registers of their own. -/
theorem tdcBootRunEnd_ends (hits : List (Nat × List Nat)) (s : State) (hbusy : s.b Fld.RX_CALSTAT_BUSY = true) :
    Answers (.tdcBootRunEnd hits) s (fun t => t.b Fld.RX_CALSTAT_BUSY = false ∧ t.b Fld.RX_STAT_CALDONE = true ∧ t.scan.clu = 0 ∧ t.mash.bootRun = false) := by
  obtain ⟨hclear, hdone, hclu, hrun⟩ := s.bootRunEnd_shows hits
  generalize hp : s.bootRunEnd hits = p at hclear hdone hclu hrun
  have hregs : State.regsBut Reg.devRegs p p.pllaFollow.vspadFollow := State.regsBut_trans p.pllaFollow_regsBut (State.vspadFollow_regsBut _)
  obtain ⟨-, hmash⟩ := State.parts_of_still ((State.vspadFollow_still _).trans p.pllaFollow_still)
  have hscan : p.pllaFollow.vspadFollow.scan = p.scan := (State.vspadFollow_scan _).trans p.pllaFollow_scan
  refine ⟨p.pllaFollow.vspadFollow, congrArg Host.Outcome.next ?_, ?_, ?_, ?_, ?_⟩
  · rw [if_pos hbusy, hp]
  · exact (State.b_eq _ _ _ (hregs _ (by decide))).trans hclear
  · exact (State.b_eq _ _ _ (hregs _ (by decide))).trans hdone
  · rw [hscan, hclu]
  · rw [hmash, hrun]

/-! # Commit (R70) -/

theorem State.rget_setB_ne (s : State) (F : Fld) (x : Bool) (a : Nat) (h : a ≠ F.addr) : (s.setB F x).rget a = s.rget a := State.rget_setF_ne s F _ a h

theorem State.rget_ite (c : Prop) [Decidable c] (p q : State) (a : Nat) : (if c then p else q).rget a = if c then p.rget a else q.rget a := by split <;> rfl

theorem State.rget_congr {s t : State} (h : t.regs = s.regs) (a : Nat) : t.rget a = s.rget a := by
  unfold State.rget
  rw [h]

/-- The checks have passed for `slot`: the Cask and the Guard have their entries, the sections of the image are in force. -/
def State.commitTaken (s : State) (slot : Nat) : State :=
  let h := s.head slot
  let s := (s.commitCask s.rst.newCaskId).commitGuard
  s.withRst { s.rst with sections := (dirIds.filter (present h)).foldl (fun acc id => acc + 2 ^ id) 2, autostart := (at8 h 0x12).testBit 0 }

/-- The loader's registers of a committed image: the slot, whether it is the preferred one, DONE and the sequence number (Table 4.7). -/
def State.ldrMarked (s : State) (slot seq : Nat) : State :=
  (((s.setF Fld.LDR_STATUS_ACTIVE slot).setB Fld.LDR_STATUS_FALLBACK (slot != s.rst.preferred)).setB Fld.LDR_STATUS_DONE true).setF Fld.LDR_SEQ_SEQ seq

/-- A slot that is not the preferred one enters the event log. -/
def State.fallbackLogged (s : State) (slot : Nat) : State := if slot != s.rst.preferred then s.logEvent 0x0004 (s.rget Reg.LDR_STATUS) s.ldrErrs else s

/-- The loaded cores start (R70). -/
def State.coresRelease (s : State) : State := [0, 1].foldl (fun s c => if s.coreLoaded c then s.coreStart c 0 else s) s

/-- What the blocks take from the image at commit. -/
def State.blocksCommit (s : State) : State := s.commitLoss.ctlApply.latchColumn.caskCommit.commitTime.coresRelease

theorem State.commit_eq (s : State) (slot : Nat) : s.commit slot =
    (((s.commitTaken slot).ldrMarked slot (le32 (s.head slot) 8)).fallbackLogged slot).blocksCommit.startBootRun.leaveBoot := rfl

theorem State.ldrMarked_shows (s : State) (slot seq : Nat) : (s.ldrMarked slot seq).f Fld.LDR_STATUS_ACTIVE = slot % 2 ^ Fld.LDR_STATUS_ACTIVE.w ∧
    (s.ldrMarked slot seq).b Fld.LDR_STATUS_DONE = true := by
  unfold State.ldrMarked
  constructor
  · rw [State.f_setF_apart _ _ _ _ (by decide) (by decide), State.f_setB_apart _ _ _ _ (by decide) (by decide), State.f_setB_apart _ _ _ _ (by decide) (by decide),
      State.f_setF_self _ _ _ (by decide)]
  · rw [State.b_setF_apart _ _ _ _ (by decide) (by decide), State.b_setB_self _ _ _ (by decide) rfl]

theorem State.fallbackLogged_ldrStatus (s : State) (slot : Nat) : (s.fallbackLogged slot).rget Reg.LDR_STATUS = s.rget Reg.LDR_STATUS := by
  unfold State.fallbackLogged
  rw [State.rget_ite, State.rget_logEvent_ne _ _ _ _ _ (by decide), ite_self]

/-! ## What the blocks take leaves LDR_STATUS alone -/

theorem Fld.knee_offLdr : ∀ n < 8, Reg.LDR_STATUS ≠ (Fld.EMIT_DER_TK n).addr ∧ Reg.LDR_STATUS ≠ (Fld.KILN_TJ_TJ n).addr ∧
    Reg.LDR_STATUS ≠ (Fld.CTL_CSP_SP n 2).addr := by decide

theorem State.updateKnee_ldrStatus {n : Nat} (hn : n < 8) (s : State) : (s.updateKnee n).rget Reg.LDR_STATUS = s.rget Reg.LDR_STATUS := by
  obtain ⟨htk, htj, hsp⟩ := Fld.knee_offLdr n hn
  have hset (p : State) (x : Int) : (p.setFs (Fld.KILN_TJ_TJ n) x).rget Reg.LDR_STATUS = p.rget Reg.LDR_STATUS := State.rget_setF_ne p _ _ _ htj
  unfold State.updateKnee
  dsimp only
  split
  · rfl
  · unfold State.updateTj
    rw [State.rget_setF_ne _ _ _ _ hsp, hset, State.rget_setF_ne _ _ _ _ htk]

theorem State.commitLoss_ldrStatus (s : State) : s.commitLoss.rget Reg.LDR_STATUS = s.rget Reg.LDR_STATUS := by
  unfold State.commitLoss
  dsimp only
  rw [foldl_keeps (fun p => p.rget Reg.LDR_STATUS) (fun p n hn => State.updateKnee_ldrStatus (List.mem_range.1 hn) p), State.rget_setF_ne _ _ _ _ (by decide),
    State.rget_rset_ne _ _ _ _ (by decide), State.rget_rset_ne _ _ _ _ (by decide)]

theorem State.caskCommit_ldrStatus (s : State) : s.caskCommit.rget Reg.LDR_STATUS = s.rget Reg.LDR_STATUS := by
  have hact : (s.caskActivate.setB Fld.CASK_STAT_RUNMOD false).rget Reg.LDR_STATUS = s.rget Reg.LDR_STATUS :=
    (State.rget_setB_ne _ _ _ _ (by decide)).trans (State.rget_setB_ne _ _ _ _ (by decide))
  have hcask (p : State) (x : CaskSt) : (p.withCask x).rget Reg.LDR_STATUS = p.rget Reg.LDR_STATUS := rfl
  unfold State.caskCommit
  dsimp only
  rw [State.rget_ite, State.rget_setB_ne _ _ _ _ (by decide), State.rget_congr (State.lrsOwn_regs _ _ _ _), State.rget_congr (State.nvmPush_regs _ _), ite_self,
    hcask, hact]

theorem State.commitTime_ldrStatus (s : State) : s.commitTime.rget Reg.LDR_STATUS = s.rget Reg.LDR_STATUS := by
  have hinc (p : State) (v : Word) : (p.timeIncWrite v).rget Reg.LDR_STATUS = p.rget Reg.LDR_STATUS := by
    unfold State.timeIncWrite State.raiseIf
    rw [State.rget_ite, State.rget_raise_ne _ _ _ (by decide) (by decide), ite_self, State.rget_rset_ne _ _ _ _ (by decide)]
  have hpps (p : State) (v : Word) : (p.timePpsWrite v).rget Reg.LDR_STATUS = p.rget Reg.LDR_STATUS := by
    unfold State.timePpsWrite
    dsimp only
    rw [State.rget_ite, State.rget_raise_ne _ _ _ (by decide) (by decide), State.rget_setB_ne _ _ _ _ (by decide), State.rget_setB_ne _ _ _ _ (by decide), ite_self,
      State.rget_rset_ne _ _ _ _ (by decide)]
  unfold State.commitTime
  dsimp only
  rw [State.rget_ite, hpps, ite_self, State.rget_ite, hinc, ite_self]

theorem State.coresRelease_ldrStatus (s : State) : s.coresRelease.rget Reg.LDR_STATUS = s.rget Reg.LDR_STATUS := by
  have hfld : ∀ c ∈ [0, 1], Reg.LDR_STATUS ≠ (Fld.DSP_STAT_START c).addr ∧ Reg.LDR_STATUS ≠ (Fld.DSP_WDTCNT_LEFT c).addr := by decide
  have hlines (p : State) (x : SMap Nat) : (p.withLines x).rget Reg.LDR_STATUS = p.rget Reg.LDR_STATUS := rfl
  have hcore (p : State) (c : Nat) (x : CoreSt) : (p.setCore c x).rget Reg.LDR_STATUS = p.rget Reg.LDR_STATUS := rfl
  unfold State.coresRelease
  refine foldl_keeps (fun p => p.rget Reg.LDR_STATUS) (fun p c hc => ?_) s
  obtain ⟨hstart, hleft⟩ := hfld c hc
  unfold State.coreStart State.wdtReload
  dsimp only
  rw [State.rget_ite, State.rget_ite, State.rget_setF_ne _ _ _ _ hleft, ite_self, State.rget_setF_ne _ _ _ _ hstart, hlines, hcore, ite_self]

theorem State.blocksCommit_ldrStatus (s : State) : s.blocksCommit.rget Reg.LDR_STATUS = s.rget Reg.LDR_STATUS := by
  have hctl (p : State) : p.ctlApply.rget Reg.LDR_STATUS = p.rget Reg.LDR_STATUS := rfl
  have hlatch (p : State) : p.latchColumn.rget Reg.LDR_STATUS = p.rget Reg.LDR_STATUS := rfl
  unfold State.blocksCommit
  rw [State.coresRelease_ldrStatus, State.commitTime_ldrStatus, State.caskCommit_ldrStatus, hlatch, hctl, State.commitLoss_ldrStatus]

/-! ## The row -/

theorem loaderCommit_waits (slot : Nat) (s : State) (hphase : s.rst.phase = .commit slot) (h : s.rst.testDue = true ∨ s.b Fld.TOP_PINTEST_BUSY = true) :
    Answers .loaderCommit s (fun t => t = s) := by
  refine ⟨s, ?_, rfl⟩
  change execLoaderCommit s = _
  unfold execLoaderCommit
  rw [hphase]
  exact if_pos (by rcases h with h | h <;> simp [h])

/-- With the pin test over, commit goes on unless a write is due that the temperature forbids (R70). -/
theorem execLoaderCommit_commits {slot : Nat} {s : State} (hphase : s.rst.phase = .commit slot) (hdue : s.rst.testDue = false)
    (hbusy : s.b Fld.TOP_PINTEST_BUSY = false)
    (hnvm : s.b Fld.THERM_STAT_NVM_OK = true ∨ (s.nvm.caskId = some s.rst.newCaskId ∧ s.lastGuardCrc = some s.guardCrc)) :
    exec .loaderCommit s = .next (s.commit slot) := by
  change execLoaderCommit s = _
  unfold execLoaderCommit
  rw [hphase]
  refine if_neg ?_
  rcases hnvm with h | ⟨hcask, hguard⟩
  · simp [hdue, hbusy, h]
  · simp [hdue, hbusy, hcask, hguard]

/-- The boot run is under way, and BOOT is left. -/
theorem State.runLeft_shows (q : State) : q.startBootRun.leaveBoot.b Fld.RX_CALSTAT_BUSY = true ∧ q.startBootRun.leaveBoot.b Fld.RX_STAT_CALDONE = false ∧
    q.startBootRun.leaveBoot.mash.bootRun = true ∧ q.startBootRun.leaveBoot.rst.phase = .done ∧
    q.startBootRun.leaveBoot.rget Reg.LDR_STATUS = q.rget Reg.LDR_STATUS := by
  obtain ⟨hbusy, hcal, hrun, hregs, -⟩ := q.startBootRun_shows
  have hleave := q.startBootRun.leaveBoot_regsBut
  obtain ⟨hrst, hmash⟩ := State.parts_of_still q.startBootRun.leaveBoot_still
  refine ⟨(State.b_eq _ _ _ (hleave _ (by decide))).trans hbusy, (State.b_eq _ _ _ (hleave _ (by decide))).trans hcal, ?_, ?_,
    (hleave _ (by decide)).trans (hregs _ (by decide))⟩
  · rw [hmash, State.withRst_mash, hrun]
  · rw [hrst, State.withRst_rst]

/-- After commit the device has left BOOT, with the boot run under way and the image's slot in LDR_STATUS. -/
theorem State.commit_shows (s : State) (slot : Nat) : (s.commit slot).b Fld.RX_CALSTAT_BUSY = true ∧ (s.commit slot).b Fld.RX_STAT_CALDONE = false ∧
    (s.commit slot).mash.bootRun = true ∧ (s.commit slot).dev ≠ .boot ∧ (s.commit slot).rst.phase = .done ∧
    (s.commit slot).f Fld.LDR_STATUS_ACTIVE = slot % 2 ^ Fld.LDR_STATUS_ACTIVE.w ∧ (s.commit slot).b Fld.LDR_STATUS_DONE = true := by
  obtain ⟨hactive, hdone⟩ := (s.commitTaken slot).ldrMarked_shows slot (le32 (s.head slot) 8)
  have hlogged := ((s.commitTaken slot).ldrMarked slot (le32 (s.head slot) 8)).fallbackLogged_ldrStatus slot
  rw [State.commit_eq]
  generalize (s.commitTaken slot).ldrMarked slot (le32 (s.head slot) 8) = m at hactive hdone hlogged ⊢
  obtain ⟨hbusy, hcal, hrun, hphase, hleft⟩ := (m.fallbackLogged slot).blocksCommit.runLeft_shows
  have hldr := hleft.trans ((State.blocksCommit_ldrStatus _).trans hlogged)
  exact ⟨hbusy, hcal, hrun, State.leaveBoot_dev _, hphase, (State.f_eq _ _ _ hldr).trans hactive, (State.b_eq _ _ _ hldr).trans hdone⟩

/-- Settles O15: the row of commit by whether it must wait, the calibration runs by their start and their end. -/
theorem commitAndCalibration : Obligations.CommitAndCalibration := by
  unfold Obligations.CommitAndCalibration
  refine ⟨loaderCommit_waits, ?_, tdcBootRunEnd_ends, rxCalRun_starts, rxCalRun_ignored, ?_⟩
  · intro slot s hphase hdue hbusy hnvm
    obtain ⟨hcal, hdone, hrun, hdev, -⟩ := s.commit_shows slot
    exact ⟨_, execLoaderCommit_commits hphase hdue hbusy (.inl hnvm), hcal, hdone, hrun, hdev⟩
  · intro slot s hphase hdue hbusy hnvm
    obtain ⟨hcal, -, -, hdev, hphase', hactive, hdone⟩ := s.commit_shows slot
    exact ⟨_, execLoaderCommit_commits hphase hdue hbusy hnvm, hphase', hactive, hdone, hcal, hdev⟩

end Sys2Proof.Machine
end

section
namespace Sys2Proof.Machine

/-! # A slot fails (R71, Table 4.6) -/

theorem State.slotError_rst (s : State) (slot r sec : Nat) : (s.slotError slot r sec).rst = s.rst := State.rset_rst s _ _

theorem State.slotError_rget (s : State) (slot r sec : Nat) : (s.slotError slot r sec).rget (ldrErr slot) = BitVec.ofNat 32 (sec * 65536 + r) :=
  State.rget_rset_self s _ _

theorem State.slotError_rget_ne (s : State) (slot r sec : Nat) {a : Nat} (h : a ≠ ldrErr slot) : (s.slotError slot r sec).rget a = s.rget a :=
  State.rget_rset_ne s _ a _ h

/-- The reason and the section stand in the slot's error register, and its destinations are to be cleared. -/
theorem State.slotFail_shows (s : State) (slot r sec : Nat) : (s.slotFail slot r sec).rst.phase = .clear slot ∧
    (s.slotFail slot r sec).rget (ldrErr slot) = BitVec.ofNat 32 (sec * 65536 + r) ∧ State.regsBut [ldrErr slot] s (s.slotFail slot r sec) ∧
    { s.slotFail slot r sec with regs := s.regs, rst := s.rst } = s := by
  have hrget (p : State) (x : RstSt) (a : Nat) : (p.withRst x).rget a = p.rget a := rfl
  have herr : State.regsBut [ldrErr slot] s (s.slotError slot r sec) := State.regsBut_rset (ldrErr slot) _ (State.regsBut_refl _ s) (List.mem_singleton.2 rfl)
  exact ⟨by simp [State.slotFail], (hrget _ _ _).trans (s.slotError_rget slot r sec), State.regsBut_of herr (State.withRst_regs _ _),
    by simp [State.slotFail, State.slotError]⟩

/-! # The pass over a slot and its checks (R65, R67-R69) -/

theorem imagePassDone_failed (slot r id : Nat) (q s : State) (hphase : s.rst.phase = .pass slot) (hload : s.loadSections slot dirIds = (q, some (r, id))) :
    exec .imagePassDone s = .next (q.slotFail slot r id) := by
  change execImagePassDone s = _
  unfold execImagePassDone
  rw [hphase]
  dsimp only
  rw [hload]

/-- Without a failing section the digest decides, and then the key (R67, R68). -/
theorem imagePassDone_loaded {slot : Nat} {q s : State} (hphase : s.rst.phase = .pass slot) (hload : s.loadSections slot dirIds = (q, none)) :
    exec .imagePassDone s =
      if sha256 (q.slotBytes slot 0x200 (headLen (q.head slot) - 0x200)) != ((q.head slot).drop 0xE0).take 32 then .next (q.slotFail slot 0x09 0)
      else if q.nvm.keyHash.isSome then .next (q.withRst { q.rst with phase := .sig slot })
      else .next ((q.setB Fld.LDR_STATUS_UNSIGNED true).identCheck slot) := by
  change execImagePassDone s = _
  unfold execImagePassDone
  rw [hphase]
  dsimp only
  rw [hload]

/-- A Cask identification that is the one recorded passes (R69). -/
theorem State.identCheck_recorded {s : State} {slot : Nat} (h : s.nvm.caskId = some (s.slotIdent slot)) :
    s.identCheck slot = s.withRst { s.rst with phase := .commit slot, newCaskId := s.slotIdent slot } := by
  unfold State.identCheck
  exact if_pos h

theorem signatureCheckDone_cases {slot : Nat} {s : State} (hphase : s.rst.phase = .sig slot) :
    exec .signatureCheckDone s = .next (if s.sigOk slot then s.identCheck slot else s.slotFail slot 0x0A 0) := by
  change execSignatureCheckDone s = _
  unfold execSignatureCheckDone
  rw [hphase]

/-! # The next slot (R66, R71) -/

/-- The slot to be tried next. -/
def State.untried (s : State) : Option Nat := s.slotOrder.find? (fun k => s.rst.headOk.contains k && !s.rst.tried.contains k)

/-- Slot `k` begins to load. -/
def State.slotTried (s : State) (k : Nat) : State :=
  (s.incSat Fld.LDR_STATUS_ATTEMPTS 1).withRst
    { s.rst with tried := s.rst.tried ++ [k], preferred := if s.rst.tried.isEmpty then k else s.rst.preferred, dests := [] }

theorem State.slotTried_shows (s : State) (k : Nat) : State.regsBut [Reg.LDR_STATUS] s (s.slotTried k) ∧
    (s.slotTried k).f Fld.LDR_STATUS_ATTEMPTS = min (2 ^ Fld.LDR_STATUS_ATTEMPTS.w - 1) (s.f Fld.LDR_STATUS_ATTEMPTS + 1) :=
  ⟨State.regsBut_of (State.regsBut_setF Fld.LDR_STATUS_ATTEMPTS _ (State.regsBut_refl _ s) (by decide)) rfl,
    State.f_incSat_self s Fld.LDR_STATUS_ATTEMPTS 1 (by decide)⟩

theorem State.nextSlot_none {s : State} (h : s.untried = none) : s.nextSlot = s.noSlot := by
  unfold State.nextSlot
  split
  · rfl
  · next hk => exact absurd (h.symm.trans hk) (Option.some_ne_none _).symm

/-- The next slot fails at once for a section that its DIR misses (R67). -/
theorem State.nextSlot_missing {s : State} {k id : Nat} (h : s.untried = some k) (hdir : missing (s.head k) = some id) :
    s.nextSlot = (s.slotTried k).slotFail k 0x08 id := by
  unfold State.nextSlot
  split
  · next hk => exact absurd (h.symm.trans hk) (Option.some_ne_none _)
  · next j hj =>
    obtain rfl : k = j := Option.some.inj (h.symm.trans hj)
    dsimp only
    split
    · next hid =>
      obtain rfl := Option.some.inj (hdir.symm.trans hid)
      rfl
    · next hid => exact absurd (hdir.symm.trans hid) (Option.some_ne_none _)

/-- With every section that it needs, the next slot begins its pass. -/
theorem State.nextSlot_pass {s : State} {k : Nat} (h : s.untried = some k) (hdir : missing (s.head k) = none) :
    s.nextSlot = (s.slotTried k).withRst { (s.slotTried k).rst with phase := .pass k } := by
  unfold State.nextSlot
  split
  · next hk => exact absurd (h.symm.trans hk) (Option.some_ne_none _)
  · next j hj =>
    obtain rfl : k = j := Option.some.inj (h.symm.trans hj)
    dsimp only
    split
    · next hid => exact absurd (hdir.symm.trans hid) (Option.some_ne_none _).symm
    · rfl

/-! ## No slot has loaded (R71) -/

/-- NOIMAGE, the log entry and SAFE's cause, before the device leaves BOOT. -/
def State.imageMissed (s : State) : State :=
  let s := (s.setB Fld.LDR_STATUS_NOIMAGE true).setF Fld.LDR_STATUS_ACTIVE 0
  let s := s.logEvent 0x0004 (s.rget Reg.LDR_STATUS) s.ldrErrs
  let s := s.withRst { s.rst with sections := 0, autostart := false, phase := .noImage }
  s.setF Fld.AMP_STATE_SAFE_CAUSE (s.f Fld.AMP_STATE_SAFE_CAUSE ||| 8)

theorem State.noSlot_eq (s : State) : s.noSlot = s.imageMissed.bootEnd := rfl

theorem State.bootEnd_regsBut (s : State) : State.regsBut Reg.bootRegs s s.bootEnd := State.regsBut_ite s.leaveBoot_regsBut (State.regsBut_refl _ s)

theorem State.bootEnd_rst (s : State) : s.bootEnd.rst.sections = s.rst.sections ∧ s.bootEnd.rst.dests = s.rst.dests := by
  obtain ⟨hrst, -⟩ := State.parts_of_still s.leaveBoot_still
  unfold State.bootEnd
  split
  · rw [hrst, State.withRst_rst]
    exact ⟨rfl, rfl⟩
  · exact ⟨rfl, rfl⟩

theorem State.imageMissed_noImage (s : State) : s.imageMissed.b Fld.LDR_STATUS_NOIMAGE = true := by
  have hrst (p : State) (x : RstSt) (F : Fld) : (p.withRst x).b F = p.b F := rfl
  unfold State.imageMissed
  dsimp only
  rw [State.b_setF_apart _ _ _ _ (by decide) (by decide), hrst, State.b_logEvent _ _ _ _ _ (by decide), State.b_setF_apart _ _ _ _ (by decide) (by decide),
    State.b_setB_self _ _ _ (by decide) rfl]

theorem State.imageMissed_regsBut (s : State) : State.regsBut (Reg.LDR_STATUS :: Reg.bootRegs) s s.imageMissed := by
  have hmark := State.regsBut_setF Fld.LDR_STATUS_ACTIVE 0
    (State.regsBut_setB Fld.LDR_STATUS_NOIMAGE true (State.regsBut_refl (Reg.LDR_STATUS :: Reg.bootRegs) s) (by decide)) (by decide)
  have hrst (p : State) (x : RstSt) : (p.withRst x).regs = p.regs := rfl
  exact State.regsBut_setF _ _ (State.regsBut_of (State.regsBut_logEvent _ _ _ hmark (by decide)) (hrst _ _)) (by decide)

theorem State.imageMissed_rst (s : State) : s.imageMissed.rst.sections = 0 ∧ s.imageMissed.rst.dests = s.rst.dests := by
  have hlog (p : State) (c : Nat) (x y : Word) : (p.logEvent c x y).rst = p.rst := by
    obtain ⟨n, r, h⟩ := p.logEvent_form c x y
    rw [h]
  unfold State.imageMissed
  refine ⟨rfl, ?_⟩
  dsimp only
  rw [State.setF_rst, State.withRst_rst, hlog, State.setF_rst, State.setB_rst]

/-- NOIMAGE is set, no section is in force, and the slots' error registers keep what they say. -/
theorem State.noSlot_shows (s : State) : s.noSlot.b Fld.LDR_STATUS_NOIMAGE = true ∧ s.noSlot.rget Reg.LDR_ERR_A = s.rget Reg.LDR_ERR_A ∧
    s.noSlot.rget Reg.LDR_ERR_B = s.rget Reg.LDR_ERR_B ∧ s.noSlot.rst.sections = 0 ∧ s.noSlot.rst.dests = s.rst.dests := by
  obtain ⟨hsec, hdests⟩ := s.imageMissed_rst
  obtain ⟨hsec', hdests'⟩ := s.imageMissed.bootEnd_rst
  have hend := s.imageMissed.bootEnd_regsBut
  have hregs := s.imageMissed_regsBut
  rw [State.noSlot_eq]
  exact ⟨(State.b_eq _ _ _ (hend _ (by decide))).trans s.imageMissed_noImage, (hend _ (by decide)).trans (hregs _ (by decide)),
    (hend _ (by decide)).trans (hregs _ (by decide)), hsec'.trans hsec, hdests'.trans hdests⟩

/-! ## What leaves the recorded option page alone -/

/-- The option page that the NVM holds. -/
def State.optPage (s : State) : List Word := s.nvm.optPage

theorem State.optPage_ite (c : Prop) [Decidable c] (a b : State) : (if c then a else b).optPage = if c then a.optPage else b.optPage := by split <;> rfl

theorem State.nvm_ite (c : Prop) [Decidable c] (a b : State) : (if c then a else b).nvm = if c then a.nvm else b.nvm := by split <;> rfl

theorem State.optPage_of_nvm {s t : State} (h : t.nvm = s.nvm) : t.optPage = s.optPage := congrArg Nvm.optPage h

theorem State.nvmKick_optPage (s : State) : s.nvmKick.optPage = s.optPage := by
  unfold State.nvmKick
  split
  · split <;> rfl
  · rfl

theorem State.nvmPush_optPage (s : State) (w : NvmWrite) : (s.nvmPush w).optPage = s.optPage := State.nvmKick_optPage _

theorem State.logEvent_optPage (s : State) (c : Nat) (x y : Word) : (s.logEvent c x y).optPage = s.optPage := by
  unfold State.logEvent
  split
  · exact State.nvmKick_optPage _
  · rfl

theorem State.endSession_optPage (s : State) : s.endSession.optPage = s.optPage := by
  have habort (p : State) (uid : Nat) : (p.changeAbort uid).1.optPage = p.optPage := by
    have hreg (q : State) (v : Word) (b : Bool) : ((q.setB Fld.GUARD_STAT_CHANGE_OPEN b).rset Reg.GUARD_CRC v).optPage = q.optPage := rfl
    unfold State.changeAbort
    split
    · rfl
    · dsimp only
      split
      · rw [State.nvmPush_optPage, hreg]
      · rfl
  unfold State.endSession
  split
  · rfl
  · rw [State.optPage_ite, habort, ite_self]
    rfl

theorem State.serviceLeave_optPage (s : State) : s.serviceLeave.optPage = s.optPage := by
  have hrefuse (p : State) : p.caskRefuse.optPage = p.optPage := by
    have hraise : ((p.incSat Fld.CASK_STAT_REFUSED 1).raise Cause.CASK_REFUSED).optPage = p.optPage :=
      State.optPage_of_nvm ((State.raise_nvm _ _).trans (State.incSat_nvm _ _ _))
    have hcask (q : State) (x : CaskSt) : (q.withCask x).optPage = q.optPage := rfl
    unfold State.caskRefuse
    dsimp only
    rw [State.optPage_ite, State.logEvent_optPage, hcask, hraise, ite_self]
  have hown (p : State) (first : Bool) (kind : Nat) (data : List Word) : (p.lrsOwn first kind data).optPage = p.optPage := by
    unfold State.lrsOwn
    split <;> rfl
  unfold State.serviceLeave
  dsimp only
  rw [State.optPage_ite, hown, ite_self, foldl_keeps State.optPage (fun p _ _ => hrefuse p)]
  rfl

theorem State.toState_optPage (s : State) (d : Dev) : (s.toState d).optPage = s.optPage := by
  have hdev (p : State) : (p.setDev d).optPage = p.optPage := by
    unfold State.setDev
    split <;> rfl
  have hpend (p : State) : (p.setB Fld.AMP_STATE_PEND_START false).optPage = p.optPage := rfl
  have henter (p : State) : p.serviceEnter.optPage = p.optPage := rfl
  have hlock (p : State) : p.lockFollow.optPage = p.optPage := by
    unfold State.lockFollow
    split <;> rfl
  have hplla (p : State) : p.pllaFollow.optPage = p.optPage := by
    unfold State.pllaFollow
    split <;> rfl
  have hvspad (p : State) : p.vspadFollow.optPage = p.optPage := by
    unfold State.vspadFollow
    split <;> rfl
  have hguard (p : State) : p.guardFollow.optPage = p.optPage := by
    unfold State.guardFollow State.soutOff
    rw [State.optPage_ite, State.optPage_ite]
    simp only [State.optPage, State.withGuard_nvm, State.setB_nvm, State.setF_nvm, ite_self]
  simp only [State.toState, hguard, hvspad, hplla, hlock, State.optPage_ite, henter, hpend, hdev, State.serviceLeave_optPage, State.endSession_optPage, ite_self]

theorem State.laneRates_nvm (s : State) : s.laneRates.nvm = s.nvm := foldl_keeps State.nvm (fun p n _ => State.setF_nvm p (Fld.LANE_STAT_RATE n) _) s

theorem State.leaveBoot_optPage (s : State) : s.leaveBoot.optPage = s.optPage := by
  have hended : s.bootEnded.optPage = s.optPage := State.optPage_of_nvm (by
    simp only [State.bootEnded, State.prpCommit, State.raiseIf, State.nvm_ite, State.raise_nvm, State.setB_nvm, State.laneRates_nvm, State.setF_nvm,
      State.withRst_nvm, ite_self])
  rw [State.leaveBoot_eq, State.optPage_ite, State.toState_optPage, State.toState_optPage, State.logEvent_optPage, ite_self, hended]

theorem State.noSlot_optPage (s : State) : s.noSlot.optPage = s.optPage := by
  have hmissed : s.imageMissed.optPage = s.optPage := by
    have hset (p : State) (x : RstSt) (F : Fld) (n : Nat) : ((p.withRst x).setF F n).optPage = p.optPage := rfl
    unfold State.imageMissed
    dsimp only
    rw [hset, State.logEvent_optPage]
    rfl
  rw [State.noSlot_eq]
  unfold State.bootEnd
  rw [State.optPage_ite, State.leaveBoot_optPage, ite_self, hmissed]

/-! # The destinations are cleared (R71) -/

theorem State.ethCfgWrite_nvm (s : State) (p : Nat) (v : Word) : (s.ethCfgWrite p v).nvm = s.nvm := by
  have hrelease (t : State) (k q : Nat) : (t.dgRelease k q).nvm = t.nvm := by
    unfold State.dgRelease
    split
    · rfl
    · split
      · rfl
      · split <;> rfl
  have hrecall (t : State) : (t.dgRecall p).nvm = t.nvm := by
    unfold State.dgRecall
    exact (foldl_keeps State.nvm (fun t d _ => hrelease t d.1 d.2) _).trans rfl
  have hdown (t : State) : (t.ethDown p).nvm = t.nvm := by
    simp only [State.ethDown, State.nvm_ite, State.raise_nvm, State.setB_nvm, hrecall, State.incMod_nvm, ite_self]
  unfold State.ethCfgWrite
  dsimp only
  rw [State.laneRates_nvm, hdown]
  split <;> simp only [State.setF_nvm, State.rset_nvm]

/-- What hangs on an ADC0 register shows in the converter's own part of the state and in its registers. -/
theorem State.loaderAdc_nvm (s : State) (a : Nat) (v : Word) (t : State) : (s.loaderAdc a v t).nvm = t.nvm := by
  have hadc (p : State) (x : AdcSt) : (p.withAdc x).nvm = p.nvm := rfl
  have hfir (p : State) : p.firCommit.nvm = p.nvm := rfl
  unfold State.loaderAdc
  split
  · simp only [State.adcRefSelected, State.nvm_ite, State.setB_nvm, hadc, ite_self]
  split
  · simp only [State.adcChannelWritten, State.nvm_ite, hadc, ite_self]
  split
  · simp only [State.adcFirWritten, State.nvm_ite, hfir, hadc, ite_self]
  split
  · simp only [State.adcGainWritten, State.nvm_ite, hadc, ite_self]
  split
  · simp only [State.reqGo, State.adcDue, State.nvm_ite, hadc, ite_self]
  · rfl

theorem State.loaderReg_nvm (s : State) (a : Nat) (v : Word) : (s.loaderReg a v).nvm = s.nvm := by
  have htime (p : State) (m : Nat) (w : Word) : (p.timeCtrlWrite m w).nvm = p.nvm := by
    have hinvalid (q : State) : q.timeInvalid.nvm = q.nvm := rfl
    simp only [State.timeCtrlWrite, State.nvm_ite, State.setB_nvm, hinvalid, State.rset_nvm, ite_self]
  have hanchor (p : State) : p.anchorCommit.nvm = p.nvm := rfl
  simp only [State.loaderReg, State.nvm_ite, htime, State.ethCfgWrite_nvm, State.tinCfgWrite, hanchor, State.loaderAdc_nvm, State.rset_nvm, ite_self]

/-- A destination returns to its reset value in the registers and the memory; the NVM is none. -/
theorem State.clearWord_nvm (s : State) (a : Nat) : (s.clearWord a).nvm = s.nvm := by
  have hanchor (p : State) (x : Anchor) : (p.withAnchor x).nvm = p.nvm := rfl
  have hmem (p : State) (v : Word) : (p.msetW a v).nvm = p.nvm := rfl
  simp only [State.clearWord, State.nvm_ite, State.rset_nvm, State.loaderReg_nvm, hanchor, hmem, ite_self]

/-- The words of every destination that is noted return to their reset values. -/
def State.wordsCleared (s : State) : State := s.rst.dests.foldl (fun (s : State) d => (List.range d.2).foldl (fun s i => s.clearWord (d.1 + 4 * i)) s) s

theorem State.wordsCleared_nvm (s : State) : s.wordsCleared.nvm = s.nvm :=
  foldl_keeps State.nvm (fun _ _ _ => foldl_keeps State.nvm (fun t _ _ => State.clearWord_nvm t _) _) s

/-- After that no destination is noted any more. -/
def State.destsCleared (s : State) : State := s.wordsCleared.withRst { s.wordsCleared.rst with dests := [] }

theorem destClearDone_clears {slot : Nat} {s : State} (hphase : s.rst.phase = .clear slot) :
    exec .destClearDone s = .next s.destsCleared.nextSlot := by
  change execDestClearDone s = _
  unfold execDestClearDone
  rw [hphase]
  rfl

/-- Trying the next slot notes no destination and leaves the option page as it is. -/
theorem State.nextSlot_keeps {s : State} (h : s.rst.dests = []) : s.nextSlot.rst.dests = [] ∧ s.nextSlot.optPage = s.optPage := by
  cases huntried : s.untried with
  | none =>
    obtain ⟨-, -, -, -, hdests⟩ := s.noSlot_shows
    rw [State.nextSlot_none huntried]
    exact ⟨hdests.trans h, s.noSlot_optPage⟩
  | some k =>
    have htried : (s.slotTried k).rst.dests = [] ∧ (s.slotTried k).nvm = s.nvm := by simp [State.slotTried]
    obtain ⟨hdests, hnvm⟩ := htried
    cases hdir : missing (s.head k) with
    | some id =>
      rw [State.nextSlot_missing huntried hdir]
      exact ⟨by simp [State.slotFail, State.slotError, hdests], State.optPage_of_nvm (by simp [State.slotFail, State.slotError, hnvm])⟩
    | none =>
      rw [State.nextSlot_pass huntried hdir]
      exact ⟨by simp [hdests], State.optPage_of_nvm (by simp [hnvm])⟩

theorem destClearDone_noDest (slot : Nat) (s : State) (hphase : s.rst.phase = .clear slot) :
    Answers .destClearDone s (fun t => t.rst.dests = [] ∧ t.nvm.optPage = s.nvm.optPage) := by
  obtain ⟨hdests, hpage⟩ := State.nextSlot_keeps (s := s.destsCleared) rfl
  exact ⟨_, destClearDone_clears hphase, hdests, hpage.trans (State.optPage_of_nvm s.wordsCleared_nvm)⟩

theorem State.mgetW_congr {s t : State} (h : t.mem = s.mem) (a : Nat) : t.mgetW a = s.mgetW a := by
  unfold State.mgetW State.mgetH State.mget
  rw [h]

theorem destClearDone_zeros (slot a : Nat) (s : State) (hphase : s.rst.phase = .clear slot) (hdests : s.rst.dests = [(a, 1)]) (hmem : dspMemAt a = true)
    (_ : a % 4 = 0) : Answers .destClearDone s (fun t => t.mgetW a = 0) := by
  have hword : s.wordsCleared = s.clearWord a := by
    unfold State.wordsCleared
    rw [hdests]
    rfl
  have hzero : s.clearWord a = s.msetW a 0 := by
    simp only [dspMemAt, Bool.and_eq_true, decide_eq_true_eq] at hmem
    have hcfg (p : Nat) (hp : p < 2) : a ≠ Reg.ETH_CFG p := by
      unfold Reg.ETH_CFG
      omega
    have hanch : a ≠ Reg.WORT_ANCH_SHI := by
      unfold Reg.WORT_ANCH_SHI
      omega
    have hblock : blockAt a = false := by
      unfold blockAt
      simp
      omega
    unfold State.clearWord
    simp only [hcfg 0 (by decide), hcfg 1 (by decide), hanch, hblock, decide_false, Bool.or_self, Bool.false_eq_true, if_false]
  have hnext : s.destsCleared.nextSlot.mem = (s.msetW a 0).mem := by
    rw [State.nextSlot_mem, State.destsCleared, State.withRst_mem, hword, hzero]
  exact ⟨_, destClearDone_clears hphase, (State.mgetW_congr hnext a).trans (State.mgetW_msetW s a 0)⟩

/-! # The HEADs (R66) -/

theorem imagePassDone_heads {l : List Nat} {s : State} (hphase : s.rst.phase = .heads l) : exec .imagePassDone s = .next (s.headsDone l) := by
  change execImagePassDone s = _
  unfold execImagePassDone
  rw [hphase]

/-- A HEAD at fault goes to its slot's error register (R66). -/
theorem State.headRead_fault {s : State} {k : Nat} (h : (s.headFault (s.head k)).1 ≠ 0) :
    s.headRead k = s.slotError k (s.headFault (s.head k)).1 (s.headFault (s.head k)).2 := by
  unfold State.headRead
  exact if_neg h

/-- What a HEAD is judged by is the flash and the strap. -/
theorem State.slotError_headFault (s : State) (k r sec j : Nat) :
    (s.slotError k r sec).headFault ((s.slotError k r sec).head j) = s.headFault (s.head j) := by
  have hstrap : (s.slotError k r sec).f Fld.TOP_STRAP_HID = s.f Fld.TOP_STRAP_HID := by
    refine State.f_eq _ _ _ (s.slotError_rget_ne k r sec ?_)
    unfold ldrErr
    split <;> decide
  have hhead : (s.slotError k r sec).head j = s.head j := by
    simp only [State.head, State.slotBytes, State.flashGet, State.slotError, State.rset_flash]
  unfold State.headFault
  rw [hhead, hstrap]

/-- Without a valid HEAD no slot can be tried. -/
theorem State.untried_none {s : State} (h : s.rst.headOk = []) : s.untried = none := by
  unfold State.untried
  rw [h]
  simp

theorem imagePassDone_noImage (s : State) (hphase : s.rst.phase = .heads [1, 2]) (hok : s.rst.headOk = []) (hA : (s.headFault (s.head 1)).1 ≠ 0)
    (hB : (s.headFault (s.head 2)).1 ≠ 0) : Answers .imagePassDone s (fun t => t.b Fld.LDR_STATUS_NOIMAGE = true ∧
      t.rget Reg.LDR_ERR_A = BitVec.ofNat 32 ((s.headFault (s.head 1)).2 * 65536 + (s.headFault (s.head 1)).1) ∧
      t.rget Reg.LDR_ERR_B = BitVec.ofNat 32 ((s.headFault (s.head 2)).2 * 65536 + (s.headFault (s.head 2)).1) ∧ t.rst.sections = 0) := by
  generalize hfA : s.headFault (s.head 1) = fA at hA ⊢
  generalize hfB : s.headFault (s.head 2) = fB at hB ⊢
  have hfirst : s.headRead 1 = s.slotError 1 fA.1 fA.2 := by rw [State.headRead_fault (by rwa [hfA]), hfA]
  have hsecond : (s.slotError 1 fA.1 fA.2).headRead 2 = (s.slotError 1 fA.1 fA.2).slotError 2 fB.1 fB.2 := by
    have hf := (s.slotError_headFault 1 fA.1 fA.2 2).trans hfB
    rw [State.headRead_fault (by rwa [hf]), hf]
  have hnone : ((s.slotError 1 fA.1 fA.2).slotError 2 fB.1 fB.2).untried = none :=
    State.untried_none (by rw [State.slotError_rst, State.slotError_rst, hok])
  have hdone : s.headsDone [1, 2] = ((s.slotError 1 fA.1 fA.2).slotError 2 fB.1 fB.2).noSlot := by
    unfold State.headsDone
    rw [List.foldl_cons, List.foldl_cons, List.foldl_nil, hfirst, hsecond, State.nextSlot_none hnone]
  obtain ⟨hno, herrA, herrB, hsec, -⟩ := ((s.slotError 1 fA.1 fA.2).slotError 2 fB.1 fB.2).noSlot_shows
  refine ⟨_, (imagePassDone_heads hphase).trans (congrArg Host.Outcome.next hdone), hno, herrA.trans ?_, herrB.trans ?_, hsec⟩
  · exact (State.slotError_rget_ne _ 2 _ _ (by decide)).trans (s.slotError_rget 1 _ _)
  · exact State.slotError_rget _ 2 _ _

/-- A flash that does not answer at the first HEAD leaves the second to be read (Table 4.6; log 77). -/
theorem flashNoResponse_head (s : State) (hphase : s.rst.phase = .heads [1, 2]) : Answers (.flashNoResponse 1) s (fun t => t.rst.phase = .heads [2] ∧
    t.rget Reg.LDR_ERR_A = 0x0C ∧ State.regsBut [Reg.LDR_ERR_A] s t ∧ { t with regs := s.regs, rst := s.rst } = s) := by
  have herr : State.regsBut [Reg.LDR_ERR_A] s (s.slotError 1 0x0C 0) := State.regsBut_rset Reg.LDR_ERR_A _ (State.regsBut_refl _ s) (by decide)
  have hcode : (s.slotError 1 0x0C 0).rget Reg.LDR_ERR_A = BitVec.ofNat 32 (0 * 65536 + 0x0C) := s.slotError_rget 1 _ _
  refine ⟨(s.slotError 1 0x0C 0).withRst { s.rst with phase := .heads [2] }, ?_, rfl, hcode, State.regsBut_of herr rfl, rfl⟩
  change execFlashNoResponse s 1 = _
  unfold execFlashNoResponse
  rw [hphase]
  rfl

theorem flashNoResponse_pass (slot k : Nat) (s : State) (hphase : s.rst.phase = .pass slot) :
    exec (.flashNoResponse k) s = .next (s.slotFail slot 0x0C 0) := by
  change execFlashNoResponse s k = _
  unfold execFlashNoResponse
  rw [hphase]

/-! # The statement -/

/-- The next slot begins its pass: ATTEMPTS counts it (R66, R67, R71). -/
theorem destClearDone_next (slot k : Nat) (s : State) (hphase : s.rst.phase = .clear slot) (hdests : s.rst.dests = [])
    (hnext : (s.slotOrder.find? (fun k => s.rst.headOk.contains k && !s.rst.tried.contains k)) = some k) (hdir : missing (s.head k) = none) :
    Answers .destClearDone s (fun t => t.rst.phase = .pass k ∧ t.rst.tried = s.rst.tried ++ [k] ∧ State.regsBut [Reg.LDR_STATUS] s t ∧
      t.f Fld.LDR_STATUS_ATTEMPTS = min (2 ^ Fld.LDR_STATUS_ATTEMPTS.w - 1) (s.f Fld.LDR_STATUS_ATTEMPTS + 1) ∧ { t with regs := s.regs, rst := s.rst } = s) := by
  obtain ⟨hregs, hcount⟩ := s.slotTried_shows k
  have hsame : s.destsCleared = s := by
    have hcleared : s.wordsCleared = s := by
      unfold State.wordsCleared
      rw [hdests]
      rfl
    unfold State.destsCleared
    rw [hcleared, ← hdests]
    rfl
  have hpass := State.nextSlot_pass (s := s) hnext hdir
  refine ⟨_, (destClearDone_clears hphase).trans (congrArg Host.Outcome.next ((congrArg State.nextSlot hsame).trans hpass)), rfl, rfl,
    State.regsBut_of hregs rfl, hcount, by simp [State.slotTried]⟩

/-- Settles O14: a slot by the phase of its load and the check that decides, the HEADs by what is wrong with each. -/
theorem imageSlots : Obligations.ImageSlots := by
  unfold Obligations.ImageSlots
  refine ⟨?_, ?_, ?_, ?_, ?_, destClearDone_next, imagePassDone_noImage, flashNoResponse_head, ?_, ?_, destClearDone_noDest, destClearDone_zeros⟩
  · exact fun slot r id q s hphase hload => ⟨_, imagePassDone_failed slot r id q s hphase hload, q.slotFail_shows slot r id⟩
  · intro slot s hphase hbad
    exact ⟨_, (signatureCheckDone_cases hphase).trans (congrArg Host.Outcome.next (if_neg (by simp [hbad]))), s.slotFail_shows slot 0x0A 0⟩
  · exact fun slot k s hphase => ⟨_, flashNoResponse_pass slot k s hphase, s.slotFail_shows slot 0x0C 0⟩
  · intro slot q s hphase hload hkey hdigest hcask
    have hident : (q.setB Fld.LDR_STATUS_UNSIGNED true).nvm.caskId = some ((q.setB Fld.LDR_STATUS_UNSIGNED true).slotIdent slot) := hcask
    refine ⟨(q.setB Fld.LDR_STATUS_UNSIGNED true).withRst { q.rst with phase := .commit slot, newCaskId := q.slotIdent slot },
      (imagePassDone_loaded hphase hload).trans ?_, rfl, State.b_setB_self q Fld.LDR_STATUS_UNSIGNED true (by decide) rfl,
      State.regsBut_of (State.regsBut_setB Fld.LDR_STATUS_UNSIGNED true (State.regsBut_refl _ q) (by decide)) rfl, by simp⟩
    rw [if_neg (by simp [hdigest]), if_neg (by simp [hkey]), State.identCheck_recorded hident]
    rfl
  · intro slot s hphase hsig hcask
    exact ⟨_, (signatureCheckDone_cases hphase).trans (congrArg Host.Outcome.next ((if_pos hsig).trans (State.identCheck_recorded hcask))), rfl, rfl, rfl⟩
  · intro slot q s hphase hload hdigest
    obtain ⟨hclear, herr, -⟩ := q.slotFail_shows slot 0x09 0
    exact ⟨_, (imagePassDone_loaded hphase hload).trans (if_pos (by simpa using hdigest)), hclear, herr⟩
  · intro slot q s hphase hload hkey hdigest
    exact ⟨_, (imagePassDone_loaded hphase hload).trans ((if_neg (by simp [hdigest])).trans (if_pos hkey)), rfl, rfl⟩

end Sys2Proof.Machine
end

section
namespace Sys2Proof.Machine

/-! # A string's record -/

@[simp] theorem State.str_setStr_self (s : State) (n : Nat) (x : StrSt) : (s.setStr n x).str n = x := SMap.get_set_self _ _ _ _
theorem State.str_setStr_ne (s : State) {n m : Nat} (x : StrSt) (h : m ≠ n) : (s.setStr n x).str m = s.str m := SMap.get_set_ne _ _ _ _ _ h

/-- The strings' records decide what a string's record is. -/
theorem State.str_congr {s t : State} (h : t.strs = s.strs) (n : Nat) : t.str n = s.str n := by
  unfold State.str
  rw [h]

/-- The registers decide what a field reads. -/
theorem State.f_congr {s t : State} (h : t.regs = s.regs) (F : Fld) : t.f F = s.f F := State.f_eq _ _ F (State.rget_congr h _)

/-! # The EMX link (R80, R82, R83) -/

/-! ## A frame is sent -/

/-- A new frame of pattern `pat` on the link, to latch at `latch`: the sequence number moves on (R80). -/
def State.emxStarted (s : State) (pat : BitVec 64) (latch : Nat) : State :=
  let t := s.emxSend pat s.emit.seq false latch
  t.withEmit { t.emit with seq := (t.emit.seq + 1) % 4 }

theorem execEmxFrameSend_starts {x : Nat} {s : State} (hdev : s.dev = .scan) (hframe : s.emit.frame = none) (hlock : s.b Fld.TOP_PINTEST_LOCK = false)
    (hlatch : latchDelay 16 s.pulses (x + 300) ≤ x + 336) :
    exec (.emxFrameSend x) s = .next (s.emxStarted (s.emxPattern (latchDelay 16 s.pulses (x + 300))) (latchDelay 16 s.pulses (x + 300))) :=
  if_pos (by simp [hdev, hframe, hlock, hlatch])

/-- Out of SCAN, with a frame in progress, with a pin-test lock, or with a latch edge that would have to wait too long, no frame starts. -/
theorem execEmxFrameSend_waits {x : Nat} {s : State}
    (h : s.dev ≠ .scan ∨ s.emit.frame ≠ none ∨ s.b Fld.TOP_PINTEST_LOCK = true ∨ x + 336 < latchDelay 16 s.pulses (x + 300)) :
    exec (.emxFrameSend x) s = .next s := by
  refine if_neg fun hstart => ?_
  simp only [Bool.and_eq_true, decide_eq_true_eq, Option.isNone_iff_eq_none, Bool.not_eq_true'] at hstart
  obtain ⟨⟨⟨hdev, hframe⟩, hlock⟩, hlatch⟩ := hstart
  rcases h with h | h | h | h
  · exact h hdev
  · exact h hframe
  · simp [hlock] at h
  · omega

/-- The link's part of the state after a frame is sent. -/
theorem State.emxSend_emit (s : State) (pat : BitVec 64) (seq : Nat) (retry : Bool) (latch : Nat) : (s.emxSend pat seq retry latch).emit =
    { s.emit with frame := some { pat := pat, seq := seq, crc := emxCrc seq pat, retry := retry, latch := latch }, sent := emxFrameBits seq pat, emxOn := true } := (rfl)

/-- FRAMES counts a frame that is sent, and no other register changes. -/
theorem State.emxSend_counts (s : State) (pat : BitVec 64) (seq : Nat) (retry : Bool) (latch : Nat) :
    (s.emxSend pat seq retry latch).f Fld.EMIT_EMXSTAT_FRAMES = (s.f Fld.EMIT_EMXSTAT_FRAMES + 1) % 2 ^ Fld.EMIT_EMXSTAT_FRAMES.w ∧
      State.regsBut [Reg.EMIT_EMXSTAT] s (s.emxSend pat seq retry latch) :=
  ⟨State.f_incMod_self (s.withEmit _) _ 1 (by decide), State.regsBut_setF (t := s.withEmit _) Fld.EMIT_EMXSTAT_FRAMES _ (State.regsBut_refl _ s) (by decide)⟩

/-- A frame that starts carries its sequence number and pattern, and FRAMES counts it (R80). -/
theorem State.emxStarted_shows (s : State) (pat : BitVec 64) (latch : Nat) :
    let t := s.emxStarted pat latch
    t.emit.seq = (s.emit.seq + 1) % 4 ∧ t.emit.sent = emxFrameBits s.emit.seq pat ∧ t.emit.frame.isSome = true ∧
      t.f Fld.EMIT_EMXSTAT_FRAMES = (s.f Fld.EMIT_EMXSTAT_FRAMES + 1) % 2 ^ Fld.EMIT_EMXSTAT_FRAMES.w ∧ State.regsBut [Reg.EMIT_EMXSTAT] s t ∧
      { t with regs := s.regs, emit := s.emit } = s := by
  obtain ⟨hcount, hregs⟩ := s.emxSend_counts pat s.emit.seq false latch
  have hemit : (s.emxStarted pat latch).emit = { s.emit with
      seq := (s.emit.seq + 1) % 4, frame := some { pat := pat, seq := s.emit.seq, crc := emxCrc s.emit.seq pat, retry := false, latch := latch },
      sent := emxFrameBits s.emit.seq pat, emxOn := true } := by
    simp [State.emxStarted, State.emxSend_emit]
  exact ⟨by rw [hemit], by rw [hemit], by rw [hemit]; rfl, hcount, State.regsBut_of hregs rfl, by simp [State.emxStarted, State.emxSend]⟩

theorem State.f_emxSend (s : State) (pat : BitVec 64) (seq : Nat) (retry : Bool) (latch : Nat) {F : Fld} (h : F.apart Fld.EMIT_EMXSTAT_FRAMES = true) :
    (s.emxSend pat seq retry latch).f F = s.f F := State.f_incMod_apart (s.withEmit _) F _ 1 (by decide) h
theorem State.b_emxSend (s : State) (pat : BitVec 64) (seq : Nat) (retry : Bool) (latch : Nat) {F : Fld} (h : F.apart Fld.EMIT_EMXSTAT_FRAMES = true) :
    (s.emxSend pat seq retry latch).b F = s.b F := State.b_incMod_apart (s.withEmit _) F _ 1 (by decide) h

/-! ## A frame is confirmed -/

/-- What a confirmed frame of pattern `pat` says of string `n`'s shunts: where they have changed, they have changed at `x` (R83). -/
def State.shuntsConfirmed (x : Nat) (pat : BitVec 64) (s : State) (n : Nat) : State :=
  if pat.extractLsb' (8 * n) 8 = s.emit.confPat.extractLsb' (8 * n) 8 then s else s.setStr n { s.str n with patAt := x }

theorem State.shuntsConfirmed_emit (x : Nat) (pat : BitVec 64) (s : State) (n : Nat) : (s.shuntsConfirmed x pat n).emit = s.emit := by
  unfold State.shuntsConfirmed
  split <;> rfl

theorem State.shuntsConfirmed_frame (x : Nat) (pat : BitVec 64) (s : State) (n : Nat) : { s.shuntsConfirmed x pat n with strs := [] } = { s with strs := [] } := by
  unfold State.shuntsConfirmed
  split <;> rfl

/-- Confirming the shunts of some strings stamps those of them that have changed. -/
theorem State.patAt_shuntsConfirmed (x : Nat) (pat : BitVec 64) (l : List Nat) (n : Nat) (s : State) :
    ((l.foldl (State.shuntsConfirmed x pat) s).str n).patAt =
      if n ∈ l ∧ pat.extractLsb' (8 * n) 8 ≠ s.emit.confPat.extractLsb' (8 * n) 8 then x else (s.str n).patAt := by
  induction l generalizing s with
  | nil => simp
  | cons m l ih =>
    have hstep : ((s.shuntsConfirmed x pat m).str n).patAt =
        if n = m ∧ pat.extractLsb' (8 * n) 8 ≠ s.emit.confPat.extractLsb' (8 * n) 8 then x else (s.str n).patAt := by
      unfold State.shuntsConfirmed
      by_cases hm : n = m
      · subst hm
        split <;> simp_all
      · split <;> simp [hm, State.str_setStr_ne]
    rw [List.foldl_cons, ih, hstep, State.shuntsConfirmed_emit]
    grind

/-- The board echoes the frame and gives its CRC as status: the frame's pattern is confirmed. -/
theorem execEmxFrameConfirm_good {x : Nat} {fr : EmxFrame} {s : State} (hframe : s.emit.frame = some fr) :
    exec (.emxFrameConfirm x (emxFrameBits fr.seq fr.pat) fr.crc) s =
      .next (let t := (List.range 8).foldl (State.shuntsConfirmed x fr.pat) s
             t.withEmit { t.emit with frame := none, confPat := fr.pat, confAt := x }) := by
  change execEmxFrameConfirm x _ _ s = _
  unfold execEmxFrameConfirm
  rw [hframe]
  exact if_pos (by simp)

theorem emxFrameConfirm_confirms (x : Nat) (fr : EmxFrame) (s : State) (hframe : s.emit.frame = some fr) :
    Answers (.emxFrameConfirm x (emxFrameBits fr.seq fr.pat) fr.crc) s (fun t => t.emit.confPat = fr.pat ∧ t.emit.frame = none ∧ t.emit.confAt = x ∧
      (∀ n, n < 8 → (t.str n).patAt = if fr.pat.extractLsb' (8 * n) 8 = s.emit.confPat.extractLsb' (8 * n) 8 then (s.str n).patAt else x) ∧
      { t with emit := s.emit, strs := s.strs } = s) := by
  refine ⟨_, execEmxFrameConfirm_good hframe, rfl, rfl, rfl, fun n hn => ?_, ?_⟩
  · refine (State.patAt_shuntsConfirmed x fr.pat (List.range 8) n s).trans ?_
    simp [hn]
  · have hkeep : ∀ l : List Nat, { l.foldl (State.shuntsConfirmed x fr.pat) s with strs := [] } = { s with strs := [] } := fun l =>
      foldl_keeps (fun t => { t with strs := [] }) (fun t n _ => t.shuntsConfirmed_frame x fr.pat n) s
    exact congrArg (fun t : State => { t with emit := s.emit, strs := s.strs }) (hkeep (List.range 8))

/-! ## A confirmation that fails -/

/-- The confirmation of the first frame fails: the frame is sent again and the retry is counted (R83). -/
theorem execEmxFrameConfirm_retries {x : Nat} {echo : BitVec 76} {status : BitVec 8} {fr : EmxFrame} {s : State} (hframe : s.emit.frame = some fr)
    (hretry : fr.retry = false) (hbad : echo ≠ emxFrameBits fr.seq fr.pat ∨ status ≠ fr.crc) :
    exec (.emxFrameConfirm x echo status) s =
      .next (let t := (s.raise Cause.EMIT_EMX_RETRY).incSat Fld.EMIT_EMXSTAT_RETRIES 1
             t.emxSend fr.pat fr.seq true (latchDelay 16 t.pulses (x + 300))) := by
  change execEmxFrameConfirm x _ _ s = _
  unfold execEmxFrameConfirm
  rw [hframe]
  refine (if_neg ?_).trans (if_neg (by simp [hretry]))
  simpa [imp_iff_not_or] using hbad

theorem emxFrameConfirm_retries (x : Nat) (echo : BitVec 76) (status : BitVec 8) (fr : EmxFrame) (s : State) (hframe : s.emit.frame = some fr)
    (hretry : fr.retry = false) (hbad : echo ≠ emxFrameBits fr.seq fr.pat ∨ status ≠ fr.crc) :
    Answers (.emxFrameConfirm x echo status) s (fun t => t.emit.sent = emxFrameBits fr.seq fr.pat ∧ t.causeSet Cause.EMIT_EMX_RETRY = true ∧
      t.emit.confPat = s.emit.confPat ∧ (∃ f, t.emit.frame = some f ∧ f.retry = true ∧ f.pat = fr.pat) ∧
      t.f Fld.EMIT_EMXSTAT_RETRIES = min (2 ^ Fld.EMIT_EMXSTAT_RETRIES.w - 1) (s.f Fld.EMIT_EMXSTAT_RETRIES + 1) ∧ { t with regs := s.regs, emit := s.emit } = s) := by
  have hraised : (s.raise Cause.EMIT_EMX_RETRY).causeSet Cause.EMIT_EMX_RETRY = true := State.b_raise_self s _ (by decide)
  have hkept : ((s.raise Cause.EMIT_EMX_RETRY).incSat Fld.EMIT_EMXSTAT_RETRIES 1).causeSet Cause.EMIT_EMX_RETRY = true :=
    (State.b_incSat_apart _ _ _ _ (by decide) (by decide)).trans hraised
  have hcount : ((s.raise Cause.EMIT_EMX_RETRY).incSat Fld.EMIT_EMXSTAT_RETRIES 1).f Fld.EMIT_EMXSTAT_RETRIES =
      min (2 ^ Fld.EMIT_EMXSTAT_RETRIES.w - 1) (s.f Fld.EMIT_EMXSTAT_RETRIES + 1) := by
    rw [State.f_incSat_self _ _ _ (by decide), State.f_raise_apart _ _ _ (by decide) (by decide) (by decide) (by decide)]
  have hframe' : { (s.raise Cause.EMIT_EMX_RETRY).incSat Fld.EMIT_EMXSTAT_RETRIES 1 with regs := s.regs, emit := s.emit } = s := by simp
  have hconf : ((s.raise Cause.EMIT_EMX_RETRY).incSat Fld.EMIT_EMXSTAT_RETRIES 1).emit.confPat = s.emit.confPat := by simp
  refine ⟨_, execEmxFrameConfirm_retries hframe hretry hbad, ?_⟩
  generalize (s.raise Cause.EMIT_EMX_RETRY).incSat Fld.EMIT_EMXSTAT_RETRIES 1 = p at *
  exact ⟨rfl, (State.b_emxSend p fr.pat fr.seq true _ (by decide)).trans hkept, hconf, ⟨_, rfl, rfl, rfl⟩,
    (State.f_emxSend p fr.pat fr.seq true _ (by decide)).trans hcount, by simpa [State.emxSend] using hframe'⟩

/-- With the emitters' supply off no frame is on its way, and nothing charges (R84). -/
theorem State.scanOff_supplyOff (s : State) (t : Nat) :
    (s.scanOff t false).emit.frame = none ∧ (s.scanOff t false).emit.emxOn = false ∧ (s.scanOff t false).emit.charging = none := by
  have hhzd (p : State) : p.hzdAssert.emit = p.emit := by
    simp only [State.hzdAssert, State.setB_emit, State.raiseIf, apply_ite State.emit, State.raise_emit, ite_self]
  refine ⟨?_, ?_, s.scanOff_charging t false⟩
  · exact congrArg EmitSt.frame (hhzd _)
  · exact congrArg EmitSt.emxOn (hhzd _)

/-- The SAFE cause of a failed EMX link acts in SCAN at once: the device is in SAFE, with the emitters' supply off (R83, R298). -/
theorem State.enterSafe_emxFailed {s : State} (hdev : s.dev = .scan) :
    (s.enterSafe 1).dev = .safe ∧ (s.enterSafe 1).emit.frame = none ∧ (s.enterSafe 1).emit.charging = none ∧ (s.enterSafe 1).emit.emxOn = false := by
  have hlog (p : State) (c : Nat) (x y : Word) : (p.logEvent c x y).emit = p.emit := by
    obtain ⟨n, r, h⟩ := p.logEvent_form c x y
    rw [h]
  unfold State.enterSafe
  simp [hdev, State.toState_dev, State.toState_emit, hlog, State.scanOff_supplyOff]

theorem emxFrameConfirm_fails (x : Nat) (echo : BitVec 76) (status : BitVec 8) (fr : EmxFrame) (s : State) (hframe : s.emit.frame = some fr)
    (hretry : fr.retry = true) (hdev : s.dev = .scan) (hbad : echo ≠ emxFrameBits fr.seq fr.pat ∨ status ≠ fr.crc) :
    Answers (.emxFrameConfirm x echo status) s (fun t => t.dev = .safe ∧ t.emit.frame = none ∧ t.emit.charging = none ∧ t.emit.emxOn = false) := by
  have hexec : exec (.emxFrameConfirm x echo status) s =
      .next (let t := (s.withEmit { s.emit with frame := none, charging := none, emxOn := false }).raise Cause.EMIT_EMX_FAIL
             (t.logEvent 0x0010 (t.rget Reg.EMIT_FAULT) (t.rget Reg.EMIT_EMXSTAT)).enterSafe 1) := by
    change execEmxFrameConfirm x _ _ s = _
    unfold execEmxFrameConfirm
    rw [hframe]
    refine (if_neg ?_).trans (if_pos hretry)
    simpa [imp_iff_not_or] using hbad
  exact ⟨_, hexec, State.enterSafe_emxFailed (by simp [hdev])⟩

/-- Settles O19: a frame starts or waits by the conditions of `execEmxFrameSend`, and the board's answer confirms it, has it sent again, or fails it for good. -/
theorem emxLink : Obligations.EmxLink := by
  unfold Obligations.EmxLink
  refine ⟨?_, ?_, emxFrameConfirm_confirms, emxFrameConfirm_retries, emxFrameConfirm_fails, ?_⟩
  · intro x s hdev hframe hlock hlatch
    exact ⟨_, execEmxFrameSend_starts hdev hframe hlock hlatch, s.emxStarted_shows _ _⟩
  · intro x s h
    exact ⟨s, execEmxFrameSend_waits (by tauto), rfl⟩
  · intro x s h
    exact ⟨s, execEmxFrameSend_waits (by tauto), rfl⟩

end Sys2Proof.Machine
end

section
namespace Sys2Proof.Machine

/-! # What charging leaves alone -/

/-- The state without its registers, its strings and the emitter block's shared part, which charging changes. -/
def State.besideCharge (s : State) : State := { s with regs := [], strs := [], emit := {} }

theorem State.eq_of_besideCharge {s t : State} (h : t.besideCharge = s.besideCharge) : { t with regs := s.regs, strs := s.strs, emit := s.emit } = s :=
  congrArg (fun p : State => { p with regs := s.regs, strs := s.strs, emit := s.emit }) h

@[simp] theorem State.setF_besideCharge (s : State) (F : Fld) (x : Nat) : (s.setF F x).besideCharge = s.besideCharge := (rfl)
@[simp] theorem State.setB_besideCharge (s : State) (F : Fld) (p : Bool) : (s.setB F p).besideCharge = s.besideCharge := (rfl)
@[simp] theorem State.incSat_besideCharge (s : State) (F : Fld) (n : Nat) : (s.incSat F n).besideCharge = s.besideCharge := (rfl)
@[simp] theorem State.raise_besideCharge (s : State) (c : Cause) : (s.raise c).besideCharge = s.besideCharge := by
  rw [State.raise_eq, State.setF_besideCharge, State.incSat_besideCharge]
@[simp] theorem State.setStr_besideCharge (s : State) (n : Nat) (x : StrSt) : (s.setStr n x).besideCharge = s.besideCharge := (rfl)
@[simp] theorem State.withEmit_besideCharge (s : State) (x : EmitSt) : (s.withEmit x).besideCharge = s.besideCharge := (rfl)

/-! # Readings of a bank (R86-R89) -/

/-- A string's demand code and the two limits share no bit with VBANK and READY of its bank, nor VBANK with READY. -/
theorem Fld.vbank_apart : ∀ n < 8, (Fld.EMIT_VBANK_VBANK n).fits = true ∧ (Fld.EMIT_VBANK_READY n).fits = true ∧
    (∀ F ∈ [Fld.EMIT_DAC_CODE n, Fld.EMIT_CHG_OVP, Fld.EMIT_CHG_ILIM], F.apart (Fld.EMIT_VBANK_VBANK n) = true ∧ F.apart (Fld.EMIT_VBANK_READY n) = true) ∧
    (Fld.EMIT_VBANK_VBANK n).apart (Fld.EMIT_VBANK_READY n) = true := by decide

theorem State.setVbank_regsBut (s : State) (n v : Nat) : State.regsBut [Reg.EMIT_VBANK n] s (s.setVbank n v) :=
  State.regsBut_setB _ _ (State.regsBut_setF _ _ (State.regsBut_refl _ s) (List.mem_singleton.2 rfl)) (List.mem_singleton.2 rfl)

@[simp] theorem State.setVbank_besideCharge (s : State) (n v : Nat) : (s.setVbank n v).besideCharge = s.besideCharge := by simp [State.setVbank]
@[simp] theorem State.setVbank_strs (s : State) (n v : Nat) : (s.setVbank n v).strs = s.strs := by simp [State.setVbank]
@[simp] theorem State.setVbank_emit (s : State) (n v : Nat) : (s.setVbank n v).emit = s.emit := by simp [State.setVbank]

/-- A reading leaves the limits and the string's demand alone. -/
theorem State.f_setVbank {n : Nat} (hn : n < 8) {F : Fld} (hF : F ∈ [Fld.EMIT_DAC_CODE n, Fld.EMIT_CHG_OVP, Fld.EMIT_CHG_ILIM]) (s : State) (v : Nat) :
    (s.setVbank n v).f F = s.f F := by
  obtain ⟨hv, hr, hapart, -⟩ := Fld.vbank_apart n hn
  obtain ⟨h1, h2⟩ := hapart F hF
  exact (State.f_setB_apart _ _ _ _ hr h2).trans (State.f_setF_apart _ _ _ _ hv h1)

/-- VBANK shows the reading. -/
theorem State.setVbank_vbank {n : Nat} (hn : n < 8) (s : State) (v : Nat) :
    (s.setVbank n v).f (Fld.EMIT_VBANK_VBANK n) = v % 2 ^ (Fld.EMIT_VBANK_VBANK n).w := by
  obtain ⟨hv, hr, -, hapart⟩ := Fld.vbank_apart n hn
  exact (State.f_setB_apart _ _ _ _ hr hapart).trans (State.f_setF_self _ _ _ hv)

/-- READY shows whether the reading lies in the band (R88). -/
theorem State.setVbank_ready {n : Nat} (hn : n < 8) (s : State) (v : Nat) :
    (s.setVbank n v).b (Fld.EMIT_VBANK_READY n) = readyBand (s.f (Fld.EMIT_DAC_CODE n)) (v % 2 ^ (Fld.EMIT_VBANK_VBANK n).w) := by
  obtain ⟨hv, hr, hapart, -⟩ := Fld.vbank_apart n hn
  obtain ⟨hcode, -⟩ := hapart (Fld.EMIT_DAC_CODE n) (by simp)
  unfold State.setVbank
  dsimp only
  rw [State.b_setB_self _ _ _ hr rfl, State.f_setF_apart _ _ _ _ hv hcode, State.f_setF_self _ _ _ hv]

/-- After a reading a trip is due by the reading itself or by the current (R89). -/
theorem State.tripDue_setVbank {n : Nat} (hn : n < 8) (s : State) (v isns dur : Nat) : (s.setVbank n v).tripDue n isns dur =
    (decide (s.f Fld.EMIT_CHG_OVP < v % 2 ^ (Fld.EMIT_VBANK_VBANK n).w) || (decide (s.f Fld.EMIT_CHG_ILIM < isns) && decide (100 < dur))) := by
  unfold State.tripDue
  rw [State.setVbank_vbank hn, State.f_setVbank hn (by simp), State.f_setVbank hn (by simp)]

/-- A reading within OVP trips nothing. -/
theorem State.readVbank_within {n : Nat} (hn : n < 8) {s : State} {v : Nat} (h : v % 2 ^ (Fld.EMIT_VBANK_VBANK n).w ≤ s.f Fld.EMIT_CHG_OVP) :
    s.readVbank n v = s.setVbank n v := by
  refine if_neg ?_
  rw [State.tripDue_setVbank hn]
  simp [Nat.not_lt.2 h]

/-! # The charge stage trips (R89) -/

@[simp] theorem State.chargeTrip_besideCharge (s : State) : s.chargeTrip.besideCharge = s.besideCharge := by simp [State.chargeTrip]
@[simp] theorem State.chargeTrip_strs (s : State) : s.chargeTrip.strs = s.strs := by simp [State.chargeTrip]
@[simp] theorem State.chargeTrip_charging (s : State) : s.chargeTrip.emit.charging = none := by simp [State.chargeTrip]

/-- A trip latches CHG_TRIP. -/
theorem State.chargeTrip_latches (s : State) : s.chargeTrip.causeSet Cause.CHG_TRIP = true := State.b_raise_self _ Cause.CHG_TRIP (by decide)

/-- The bits of a trip share none with a string's bank and demand codes. -/
theorem Fld.chgTrip_apart : ∀ n < 8, ∀ F ∈ [Fld.EMIT_VBANK_VBANK n, Fld.EMIT_DAC_CODE n],
    F.apart Cause.CHG_TRIP.fld = true ∧ F.apart Cause.CHG_TRIP.cnt = true := by decide

theorem State.f_chargeTrip {n : Nat} (hn : n < 8) {F : Fld} (hF : F ∈ [Fld.EMIT_VBANK_VBANK n, Fld.EMIT_DAC_CODE n]) (s : State) : s.chargeTrip.f F = s.f F := by
  obtain ⟨hfld, hcnt⟩ := Fld.chgTrip_apart n hn F hF
  exact State.f_raise_apart _ _ Cause.CHG_TRIP (by decide) (by decide) hfld hcnt

/-- Whether or not a reading trips the stage, it is taken. -/
theorem State.readVbank_shows {n : Nat} (hn : n < 8) (s : State) (v : Nat) :
    let t := s.readVbank n v
    t.f (Fld.EMIT_VBANK_VBANK n) = v % 2 ^ (Fld.EMIT_VBANK_VBANK n).w ∧ t.f (Fld.EMIT_DAC_CODE n) = s.f (Fld.EMIT_DAC_CODE n) ∧
      (t.emit.charging = s.emit.charging ∨ t.emit.charging = none) ∧ t.besideCharge = s.besideCharge := by
  have htaken := State.setVbank_vbank hn s v
  have hcode : (s.setVbank n v).f (Fld.EMIT_DAC_CODE n) = s.f (Fld.EMIT_DAC_CODE n) := State.f_setVbank hn (by simp) s v
  unfold State.readVbank
  dsimp only
  split
  · exact ⟨(State.f_chargeTrip hn (by simp) _).trans htaken, (State.f_chargeTrip hn (by simp) _).trans hcode, by simp, by simp⟩
  · exact ⟨htaken, hcode, by simp, by simp⟩

/-! # The string that is served (R87) -/

/-- CHG_SEL of string `m` follows the choice of string `n`. -/
def State.chgSelect (n : Nat) (s : State) (m : Nat) : State := s.setStr m { s.str m with chgSel := decide (m = n) }

theorem State.chgSelect_keeps (n : Nat) (s : State) (l : List Nat) (h : (s.str n).chgSel = true) : ((l.foldl (State.chgSelect n) s).str n).chgSel = true := by
  induction l generalizing s with
  | nil => exact h
  | cons m l ih =>
    refine ih _ ?_
    unfold State.chgSelect
    by_cases hm : n = m
    · simp [hm]
    · rw [State.str_setStr_ne _ _ hm]
      exact h

theorem State.chgSelect_selects (n : Nat) (s : State) (l : List Nat) (h : n ∈ l) : ((l.foldl (State.chgSelect n) s).str n).chgSel = true := by
  induction l generalizing s with
  | nil => simp at h
  | cons m l ih =>
    rcases List.mem_cons.1 h with rfl | h
    · exact State.chgSelect_keeps n _ l (by simp [State.chgSelect])
    · exact ih _ h

/-- The supply serves string `n` (R87). -/
theorem State.chgOn_shows {n : Nat} (hn : n < 8) (s : State) :
    ((s.chgOn n).str n).chgSel = true ∧ (s.chgOn n).emit.charging = some n ∧ (s.chgOn n).regs = s.regs ∧ (s.chgOn n).besideCharge = s.besideCharge := by
  have hon : s.chgOn n = ((List.range 8).foldl (State.chgSelect n) s).withEmit { ((List.range 8).foldl (State.chgSelect n) s).emit with charging := some n } := rfl
  have hsel := State.chgSelect_selects n s _ (List.mem_range.2 hn)
  have hregs : ((List.range 8).foldl (State.chgSelect n) s).regs = s.regs := foldl_keeps State.regs (fun t m _ => State.setStr_regs t m _) s
  have hbeside : ((List.range 8).foldl (State.chgSelect n) s).besideCharge = s.besideCharge :=
    foldl_keeps State.besideCharge (fun t m _ => State.setStr_besideCharge t m _) s
  rw [hon]
  generalize (List.range 8).foldl (State.chgSelect n) s = t at hsel hregs hbeside
  exact ⟨hsel, rfl, hregs, by simpa using hbeside⟩

/-- CHG_SELn is off, and string `n` does not charge. -/
theorem State.chgOff_shows (s : State) (n : Nat) :
    ((s.chgOff n).str n).chgSel = false ∧ (s.chgOff n).emit.charging ≠ some n ∧ (s.emit.charging = some n ∨ s.emit.charging = none → (s.chgOff n).emit.charging = none) ∧
      (s.chgOff n).regs = s.regs ∧ (s.chgOff n).besideCharge = s.besideCharge := by
  have hcharging : (s.chgOff n).emit.charging = if s.emit.charging = some n then none else s.emit.charging := rfl
  refine ⟨?_, ?_, ?_, rfl, by simp [State.chgOff]⟩
  · change ((s.setStr n _).str n).chgSel = false
    rw [State.str_setStr_self]
  · rw [hcharging]
    split
    · simp
    · assumption
  · rintro (h | h) <;> simp [hcharging, h]

end Sys2Proof.Machine
end

section
namespace Sys2Proof.Machine

/-! # The rows of charging (R87, R89, R253) -/

/-- The supply serves string `n`, and its bank is read. -/
def State.servedBank (s : State) (n v : Nat) : State := (s.chgOn n).readVbank n v

theorem State.servedBank_shows {n : Nat} (hn : n < 8) (s : State) (v : Nat) :
    let t := s.servedBank n v
    t.f (Fld.EMIT_VBANK_VBANK n) = v % 2 ^ (Fld.EMIT_VBANK_VBANK n).w ∧ t.f (Fld.EMIT_DAC_CODE n) = s.f (Fld.EMIT_DAC_CODE n) ∧
      (t.emit.charging = some n ∨ t.emit.charging = none) ∧ t.besideCharge = s.besideCharge := by
  obtain ⟨-, hon, hregs, hbeside⟩ := State.chgOn_shows hn s
  obtain ⟨hv, hcode, hcharging, hread⟩ := State.readVbank_shows hn (s.chgOn n) v
  exact ⟨hv, hcode.trans (State.f_congr hregs _), hon ▸ hcharging, hread.trans hbeside⟩

/-- The string that R87 chooses is served until VBANK reaches CODE. -/
theorem execChargeString_chosen {n v x : Nat} {s : State} (h : s.chargeChoice x = some n) : exec (.chargeString n v x) s =
    .next (if (s.servedBank n v).f (Fld.EMIT_DAC_CODE n) ≤ (s.servedBank n v).f (Fld.EMIT_VBANK_VBANK n) then (s.servedBank n v).chgOff n else s.servedBank n v) :=
  if_pos h

theorem chargeString_charges (n v x : Nat) (s : State) (hn : n < 8) (hchoice : s.chargeChoice x = some n) (hcode : v < s.f (Fld.EMIT_DAC_CODE n))
    (hovp : v ≤ s.f Fld.EMIT_CHG_OVP) :
    Answers (.chargeString n v x) s (fun t => t.emit.charging = some n ∧ (t.str n).chgSel = true ∧ t.f (Fld.EMIT_VBANK_VBANK n) = v % 2 ^ (Fld.EMIT_VBANK_VBANK n).w ∧
      t.b (Fld.EMIT_VBANK_READY n) = readyBand (s.f (Fld.EMIT_DAC_CODE n)) (v % 2 ^ (Fld.EMIT_VBANK_VBANK n).w) ∧ State.regsBut [Reg.EMIT_VBANK n] s t ∧
      { t with regs := s.regs, strs := s.strs, emit := s.emit } = s) := by
  obtain ⟨hsel, hon, hregs, -⟩ := State.chgOn_shows hn s
  obtain ⟨hv, hdem, -, hbeside⟩ := State.servedBank_shows hn s v
  have hf (F : Fld) : (s.chgOn n).f F = s.f F := State.f_congr hregs F
  have hmod : v % 2 ^ (Fld.EMIT_VBANK_VBANK n).w ≤ v := Nat.mod_le _ _
  have hread : s.servedBank n v = (s.chgOn n).setVbank n v := State.readVbank_within hn (by rw [hf]; omega)
  refine ⟨_, (execChargeString_chosen hchoice).trans (congrArg Host.Outcome.next (if_neg (by omega))), ?_, ?_, hv, ?_, ?_, State.eq_of_besideCharge hbeside⟩
  · rw [hread]
    simpa using hon
  · rw [hread, State.str_congr (State.setVbank_strs _ n v)]
    exact hsel
  · rw [hread, State.setVbank_ready hn, hf]
  · rw [hread]
    exact State.regsBut_trans (State.regsBut_of (State.regsBut_refl _ s) hregs) (State.setVbank_regsBut _ n v)

theorem chargeString_full (n v x : Nat) (s : State) (hn : n < 8) (hchoice : s.chargeChoice x = some n) (hlt : v < 2 ^ (Fld.EMIT_VBANK_VBANK n).w)
    (hcode : s.f (Fld.EMIT_DAC_CODE n) ≤ v) :
    Answers (.chargeString n v x) s (fun t => t.emit.charging = none ∧ (t.str n).chgSel = false ∧ t.f (Fld.EMIT_VBANK_VBANK n) = v ∧
      { t with regs := s.regs, strs := s.strs, emit := s.emit } = s) := by
  obtain ⟨hv, hdem, hcharging, hbeside⟩ := State.servedBank_shows hn s v
  rw [Nat.mod_eq_of_lt hlt] at hv
  obtain ⟨hsel, -, hoff, hregs, hkeep⟩ := (s.servedBank n v).chgOff_shows n
  exact ⟨_, (execChargeString_chosen hchoice).trans (congrArg Host.Outcome.next (if_pos (by omega))), hoff hcharging, hsel,
    (State.f_congr hregs _).trans hv,
    State.eq_of_besideCharge (hkeep.trans hbeside)⟩

theorem chargeString_stops (n v x : Nat) (s : State) (hchoice : s.chargeChoice x ≠ some n) (hoff : s.chargeAllowed = false) :
    Answers (.chargeString n v x) s (fun t => t.emit.charging = none ∧ t.regs = s.regs ∧ { t with emit := s.emit } = s) := by
  have hexec : exec (.chargeString n v x) s = .next (s.withEmit { s.emit with charging := none }) := by
    refine (if_neg hchoice).trans ?_
    rw [hoff]
    rfl
  exact ⟨_, hexec, rfl, rfl, rfl⟩

theorem chgSelOff_stops (n : Nat) (s : State) : Answers (.chgSelOff n) s (fun t => (t.str n).chgSel = false ∧ t.emit.charging ≠ some n ∧ t.regs = s.regs ∧
    { t with strs := s.strs, emit := s.emit } = s) := by
  obtain ⟨hsel, hcharging, -, hregs, -⟩ := s.chgOff_shows n
  exact ⟨s.chgOff n, rfl, hsel, hcharging, hregs, by simp [State.chgOff]⟩

theorem chargeSupplyTrip_trips (n v isns dur : Nat) (s : State) (hn : n < 8)
    (h : s.f Fld.EMIT_CHG_OVP < v % 2 ^ (Fld.EMIT_VBANK_VBANK n).w ∨ s.f Fld.EMIT_CHG_ILIM < isns ∧ 100 < dur) :
    Answers (.chargeSupplyTrip n v isns dur) s (fun t => t.emit.charging = none ∧ t.causeSet Cause.CHG_TRIP = true ∧ { t with regs := s.regs, emit := s.emit } = s) := by
  refine ⟨(s.setVbank n v).chargeTrip, congrArg Host.Outcome.next (if_pos ?_), State.chargeTrip_charging _, State.chargeTrip_latches _, ?_⟩
  · rw [State.tripDue_setVbank hn]
    simpa using h
  · simp [State.chargeTrip, State.setVbank]

theorem chargeSupplyTrip_reads (n v isns dur : Nat) (s : State) (hn : n < 8) (hovp : v % 2 ^ (Fld.EMIT_VBANK_VBANK n).w ≤ s.f Fld.EMIT_CHG_OVP)
    (hilim : isns ≤ s.f Fld.EMIT_CHG_ILIM ∨ dur ≤ 100) :
    Answers (.chargeSupplyTrip n v isns dur) s (fun t => t.f (Fld.EMIT_VBANK_VBANK n) = v % 2 ^ (Fld.EMIT_VBANK_VBANK n).w ∧ State.regsBut [Reg.EMIT_VBANK n] s t ∧
      { t with regs := s.regs } = s) := by
  refine ⟨s.setVbank n v, congrArg Host.Outcome.next (if_neg ?_), State.setVbank_vbank hn s v, s.setVbank_regsBut n v, by simp [State.setVbank]⟩
  rw [State.tripDue_setVbank hn]
  simp only [Bool.or_eq_true, Bool.and_eq_true, decide_eq_true_eq]
  omega

theorem chgGateTrip_trips (s : State) :
    Answers .chgGateTrip s (fun t => t.emit.charging = none ∧ t.causeSet Cause.CHG_TRIP = true ∧ { t with regs := s.regs, emit := s.emit, nvm := s.nvm } = s) := by
  obtain ⟨nvm, regs, hlog⟩ := s.chargeTrip.logEvent_form 0x0022 2 (s.chargeTrip.rget Reg.THERM_STAT)
  refine ⟨s.chargeTrip.logEvent 0x0022 2 (s.chargeTrip.rget Reg.THERM_STAT), rfl, ?_, (State.b_logEvent _ _ _ _ _ (by decide)).trans s.chargeTrip_latches, ?_⟩
  · rw [hlog]
    exact s.chargeTrip_charging
  · rw [hlog]
    simp [State.chargeTrip]

/-- Settles O20: the chosen string is served and perhaps full, no string is served without leave, and the two limits and the gate driver trip the stage. -/
theorem charging : Obligations.Charging := by
  unfold Obligations.Charging
  exact ⟨chargeString_charges, chargeString_stops, chgSelOff_stops, chargeSupplyTrip_trips, chgGateTrip_trips, chargeString_full, chargeSupplyTrip_reads⟩

end Sys2Proof.Machine
end

section
namespace Sys2Proof.Machine

/-! # The readiness of a shot (R88) -/

/-- A reduction of an entry is a change of the scan's part only. -/
theorem State.reduceEntry_form (s : State) (i c : Nat) : ∃ x, s.reduceEntry i c = s.withScan x := by
  unfold State.reduceEntry
  split
  · exact ⟨s.scan, rfl⟩
  · exact ⟨_, rfl⟩

@[simp] theorem State.modNext_str (s : State) (n : Nat) (g : NextShot → NextShot) : (s.modNext n g).str n = { s.str n with next := (s.str n).next.map g } := by
  simp [State.modNext]

/-- The pre-shot reading `v`, within OVP, has found string `n`'s next shot ready or not. -/
def State.shotJudged (s : State) (n v : Nat) (ok : Bool) : State :=
  ((s.setVbank n v).modNext n (fun y => { y with vpre := some v, ready := some ok })).raiseIf (!ok) Cause.EMIT_SHOT_LATE

theorem State.shotJudged_next {s : State} {n : Nat} {y : NextShot} (hnext : (s.str n).next = some y) (v : Nat) (ok : Bool) :
    ((s.shotJudged n v ok).str n).next = some { y with vpre := some v, ready := some ok } := by
  have hkept : (s.setVbank n v).str n = s.str n := State.str_congr (s.setVbank_strs n v) n
  unfold State.shotJudged
  rw [State.str_congr (State.raiseIf_strs _ _ _), State.modNext_str, hkept, hnext]
  rfl

theorem State.shotJudged_frame (s : State) (n v : Nat) (ok : Bool) : { s.shotJudged n v ok with regs := s.regs, strs := s.strs } = s := by
  simp [State.shotJudged, State.modNext, State.setVbank]

/-- The row with a reading within OVP: the shot is ready by the band of R88, and one that is not is raised. -/
theorem execShotReadyCheck_within {n v : Nat} {y : NextShot} {s : State} (hn : n < 8) (hnext : (s.str n).next = some y)
    (hovp : v % 2 ^ (Fld.EMIT_VBANK_VBANK n).w ≤ s.f Fld.EMIT_CHG_OVP) {ok : Bool}
    (hband : readyBand (s.f (Fld.EMIT_DAC_CODE n)) (v % 2 ^ (Fld.EMIT_VBANK_VBANK n).w) = ok) :
    exec (.shotReadyCheck n v) s = .next (s.shotJudged n v ok) ∨ ok = false ∧ ∃ x, exec (.shotReadyCheck n v) s = .next ((s.shotJudged n v ok).withScan x) := by
  have hexec : exec (.shotReadyCheck n v) s = execShotReadyCheck n v s := rfl
  rw [hexec]
  unfold execShotReadyCheck
  rw [hnext]
  dsimp only
  rw [State.readVbank_within hn hovp, State.f_setVbank hn (by simp), State.setVbank_vbank hn, hband]
  split
  · next i _ =>
    obtain ⟨x, hx⟩ := (s.shotJudged n v false).reduceEntry_form i 6
    exact .inr ⟨rfl, x, congrArg Host.Outcome.next hx⟩
  · exact .inl rfl

theorem shotReadyCheck_noShot (n v : Nat) (s : State) (_ : n < 8) (hnext : (s.str n).next = none) : Answers (.shotReadyCheck n v) s (fun t => t = s) := by
  refine ⟨s, ?_, rfl⟩
  change execShotReadyCheck n v s = _
  unfold execShotReadyCheck
  rw [hnext]

theorem shotReadyCheck_ready (n v : Nat) (y : NextShot) (s : State) (hn : n < 8) (hnext : (s.str n).next = some y)
    (hovp : v % 2 ^ (Fld.EMIT_VBANK_VBANK n).w ≤ s.f Fld.EMIT_CHG_OVP)
    (hband : readyBand (s.f (Fld.EMIT_DAC_CODE n)) (v % 2 ^ (Fld.EMIT_VBANK_VBANK n).w) = true) :
    Answers (.shotReadyCheck n v) s (fun t => (t.str n).next = some { y with vpre := some v, ready := some true } ∧ State.regsBut [Reg.EMIT_VBANK n] s t ∧
      { t with regs := s.regs, strs := s.strs } = s) := by
  obtain hexec | ⟨hfalse, -⟩ := execShotReadyCheck_within hn hnext hovp hband
  · exact ⟨_, hexec, State.shotJudged_next hnext v true, State.regsBut_of (s.setVbank_regsBut n v) rfl, s.shotJudged_frame n v true⟩
  · exact absurd hfalse (by simp)

theorem shotReadyCheck_late (n v : Nat) (y : NextShot) (s : State) (hn : n < 8) (hnext : (s.str n).next = some y)
    (hovp : v % 2 ^ (Fld.EMIT_VBANK_VBANK n).w ≤ s.f Fld.EMIT_CHG_OVP)
    (hband : readyBand (s.f (Fld.EMIT_DAC_CODE n)) (v % 2 ^ (Fld.EMIT_VBANK_VBANK n).w) = false) :
    Answers (.shotReadyCheck n v) s (fun t => (t.str n).next = some { y with vpre := some v, ready := some false } ∧ t.causeSet Cause.EMIT_SHOT_LATE = true ∧
      { t with regs := s.regs, strs := s.strs, scan := s.scan } = s) := by
  have hjudged := State.shotJudged_next hnext v false
  have hcause : (s.shotJudged n v false).causeSet Cause.EMIT_SHOT_LATE = true := State.b_raise_self _ Cause.EMIT_SHOT_LATE (by decide)
  have hframe := s.shotJudged_frame n v false
  obtain hexec | ⟨-, x, hexec⟩ := execShotReadyCheck_within hn hnext hovp hband
  · exact ⟨_, hexec, hjudged, hcause, congrArg (fun p : State => { p with scan := s.scan }) hframe⟩
  · exact ⟨_, hexec, hjudged, hcause, congrArg (fun p : State => { p with scan := s.scan }) hframe⟩

/-- Settles O21: a string without a shot is left alone, and the shot of any other is ready or late by the band of R88. -/
theorem shotReady : Obligations.ShotReady := by
  unfold Obligations.ShotReady
  exact ⟨shotReadyCheck_noShot, shotReadyCheck_ready, shotReadyCheck_late⟩

end Sys2Proof.Machine
end

section
namespace Sys2Proof.Machine

/-! # What the choice of a string's next shot may change (R76, R94, R95) -/

/-- A string's record without what the choice of its next shot sets: the shot, the queue, and the time of the shot before. -/
def StrSt.settled (x : StrSt) : StrSt := { x with next := none, queue := [], prevT := none }

/-- The state without the parts that the choice of a next shot may touch. -/
def State.beside (s : State) : State := { s with regs := [], scan := {}, strs := [], emit := { s.emit with frame := none } }

/-- Of `s` only what the choice of string `n`'s next shot may touch differs in `t`: the strings' shots, the scan's entries, the latch edge of the frame on the link, and
the demand of string `n`. -/
structure State.Plans (n : Nat) (s t : State) : Prop where
  settled : ∀ m, (t.str m).settled = (s.str m).settled
  regs : State.regsBut [Reg.EMIT_DAC n, Reg.CTL_CSP n 0] s t
  beside : t.beside = s.beside

theorem State.Plans.refl (n : Nat) (s : State) : State.Plans n s s := ⟨fun _ => rfl, State.regsBut_refl _ s, rfl⟩

theorem State.Plans.trans {n : Nat} {s t u : State} (h : State.Plans n s t) (h' : State.Plans n t u) : State.Plans n s u :=
  ⟨fun m => (h'.settled m).trans (h.settled m), State.regsBut_trans h.regs h'.regs, h'.beside.trans h.beside⟩

theorem State.Plans.foldl {α : Type} {n : Nat} {g : State → α → State} (h : ∀ s x, State.Plans n s (g s x)) (l : List α) (s : State) :
    State.Plans n s (l.foldl g s) := by
  induction l generalizing s with
  | nil => exact .refl n s
  | cons x l ih => exact (h s x).trans (ih _)

/-- What the choice of a shot does not set in a string's record, it leaves alone. -/
theorem State.Plans.of_str {n : Nat} {s t : State} (h : State.Plans n s t) {β : Type} (g : StrSt → β) (hg : ∀ x, g x.settled = g x) (m : Nat) :
    g (t.str m) = g (s.str m) := (hg _).symm.trans ((congrArg g (h.settled m)).trans (hg _))

/-- What the choice of a shot does not touch in the state, it leaves alone. -/
theorem State.Plans.of_state {n : Nat} {s t : State} (h : State.Plans n s t) {β : Type} (g : State → β) (hg : ∀ p, g p.beside = g p) : g t = g s :=
  (hg _).symm.trans ((congrArg g h.beside).trans (hg _))

/-- A new record of a string that differs in its shots only. -/
theorem State.setStr_plans (n : Nat) (s : State) {k : Nat} {x : StrSt} (h : x.settled = (s.str k).settled) : State.Plans n s (s.setStr k x) := by
  refine ⟨fun m => ?_, State.regsBut_of (State.regsBut_refl _ s) rfl, rfl⟩
  by_cases hm : m = k
  · subst hm
    rw [State.str_setStr_self, h]
  · rw [State.str_setStr_ne _ _ hm]

theorem State.setF_plans {n : Nat} (s : State) {F : Fld} (x : Nat) (h : F.addr ∈ [Reg.EMIT_DAC n, Reg.CTL_CSP n 0]) : State.Plans n s (s.setF F x) :=
  ⟨fun _ => rfl, State.regsBut_setF F x (State.regsBut_refl _ s) h, rfl⟩

theorem State.reduceEntry_plans (n : Nat) (s : State) (i c : Nat) : State.Plans n s (s.reduceEntry i c) := by
  obtain ⟨x, hx⟩ := s.reduceEntry_form i c
  rw [hx]
  exact ⟨fun _ => rfl, State.regsBut_of (State.regsBut_refl _ s) rfl, rfl⟩

theorem State.emxRelatch_plans (n : Nat) (s : State) : State.Plans n s s.emxRelatch :=
  ⟨fun _ => rfl, State.regsBut_of (State.regsBut_refl _ s) rfl, rfl⟩

theorem State.comingDemand_plans (s : State) (n : Nat) : State.Plans n s (s.comingDemand n) := by
  unfold State.comingDemand
  split
  · exact s.setF_plans _ (by simp [Fld.EMIT_DAC_DEMAND, Reg.EMIT_DAC])
  · exact .refl n s

theorem State.noShot_plans (s : State) (n : Nat) : State.Plans n s (s.noShot n) :=
  (s.setStr_plans n (by rfl)).trans (State.comingDemand_plans _ n)

theorem State.dropDark_plans (s : State) (n : Nat) : State.Plans n s (s.dropDark n) := by
  have hdrop : ∀ l : List PShot, State.Plans n s (l.foldl (fun s p => s.reduceEntry p.entry 6) s) :=
    fun l => .foldl (fun s (p : PShot) => s.reduceEntry_plans n p.entry 6) l s
  unfold State.dropDark
  dsimp only
  exact (hdrop _).trans (State.setStr_plans n _ (by exact ((hdrop _).settled n).symm))

/-- A next shot is chosen with its demand (R86). -/
theorem State.chosen_plans {n : Nat} {s t : State} (h : State.Plans n s t) {x : StrSt} (hx : x.settled = (t.str n).settled) (v : Nat) :
    State.Plans n s ((t.setStr n x).setF (Fld.EMIT_DAC_DEMAND n) v) :=
  (h.trans (t.setStr_plans n hx)).trans (State.setF_plans _ v (by simp [Fld.EMIT_DAC_DEMAND, Reg.EMIT_DAC]))

theorem State.schedule_plans (s : State) (n : Nat) : State.Plans n s (s.schedule n) := by
  have hdark := s.dropDark_plans n
  unfold State.schedule
  split
  · exact s.setStr_plans n rfl
  · split
    · exact State.chosen_plans (.refl n s) (by rfl) _
    · dsimp only
      split
      · split
        · exact State.chosen_plans hdark (by rfl) _
        · have hdrop := State.Plans.foldl (n := n) (fun s (q : PShot) => s.reduceEntry_plans n q.entry 6) ((s.dropDark n).str n).queue (s.dropDark n)
          exact ((hdark.trans hdrop).trans (State.setStr_plans n _ (by exact (hdrop.settled n).symm))).trans (State.noShot_plans _ n)
      · split
        · exact State.chosen_plans hdark (by rfl) _
        · exact hdark.trans (State.noShot_plans _ n)

/-- The choice of string `n`'s next shot, with its demand handed on. -/
theorem State.scheduleD_plans (s : State) (n : Nat) : State.Plans n s (s.scheduleD n) :=
  ((s.schedule_plans n).trans (State.setF_plans _ _ (by simp [Fld.CTL_CSP_SP, Reg.CTL_CSP]))).trans (State.emxRelatch_plans n _)

theorem State.takeSlot_plans (s : State) (n : Nat) : State.Plans n s (s.takeSlot n) := by
  unfold State.takeSlot
  dsimp only
  split
  · exact .refl n s
  · next p q hq =>
    have hdrop := s.reduceEntry_plans n p.entry 6
    exact hdrop.trans (State.setStr_plans n _ (by exact (hdrop.settled n).symm))

end Sys2Proof.Machine
end

section
namespace Sys2Proof.Machine

/-! # The bursts (R93, R235) -/

/-- What the statement on verdicts speaks of: the shot of string `m` that is monitored, and the string whose burst is in progress. -/
def State.burstView (m : Nat) (s : State) : Option MonShot × Option Nat := ((s.str m).mon, s.emit.burst)

theorem State.burstView_congr {s t : State} (hstrs : t.strs = s.strs) (hburst : t.emit.burst = s.emit.burst) (m : Nat) : t.burstView m = s.burstView m := by
  unfold State.burstView
  rw [State.str_congr hstrs, hburst]

theorem State.burstView_ite (c : Prop) [Decidable c] (a b : State) (m : Nat) : (if c then a else b).burstView m = if c then a.burstView m else b.burstView m := by
  split <;> rfl

@[simp] theorem State.rset_burstView (s : State) (a : Nat) (v : Word) (m : Nat) : (s.rset a v).burstView m = s.burstView m := (rfl)
@[simp] theorem State.setF_burstView (s : State) (F : Fld) (x m : Nat) : (s.setF F x).burstView m = s.burstView m := (rfl)
@[simp] theorem State.setFs_burstView (s : State) (F : Fld) (x : Int) (m : Nat) : (s.setFs F x).burstView m = s.burstView m := (rfl)
@[simp] theorem State.raise_burstView (s : State) (c : Cause) (m : Nat) : (s.raise c).burstView m = s.burstView m :=
  State.burstView_congr (s.raise_strs c) (congrArg EmitSt.burst (s.raise_emit c)) m

/-- A new record of a string that shows the monitored shot of the old one. -/
theorem State.setStr_burstView (s : State) {n : Nat} {x : StrSt} (h : x.mon = (s.str n).mon) (m : Nat) : (s.setStr n x).burstView m = s.burstView m := by
  unfold State.burstView
  by_cases hm : m = n
  · subst hm
    rw [State.str_setStr_self, h, State.setStr_emit]
  · rw [State.str_setStr_ne _ _ hm, State.setStr_emit]

theorem State.Plans.burstView {n : Nat} {s t : State} (h : State.Plans n s t) (m : Nat) : t.burstView m = s.burstView m := by
  unfold State.burstView
  rw [h.of_str StrSt.mon (fun _ => rfl) m, h.of_state (fun p => p.emit.burst) (fun _ => rfl)]

@[simp] theorem State.scheduleD_burstView (s : State) (n m : Nat) : (s.scheduleD n).burstView m = s.burstView m := (s.scheduleD_plans n).burstView m
@[simp] theorem State.takeSlot_burstView (s : State) (n m : Nat) : (s.takeSlot n).burstView m = s.burstView m := (s.takeSlot_plans n).burstView m

@[simp] theorem State.logEvent_burstView (s : State) (c : Nat) (x y : Word) (m : Nat) : (s.logEvent c x y).burstView m = s.burstView m := by
  obtain ⟨n, r, h⟩ := s.logEvent_form c x y
  rw [h]
  rfl
@[simp] theorem State.recordLoss_burstView (s : State) (m : Nat) : s.recordLoss.burstView m = s.burstView m := by
  obtain ⟨n, h⟩ := s.nvmPush_form (.loss s.lostMask (BitVec.ofNat 8 (s.f Fld.EMIT_FAULT_DEAD)))
  unfold State.recordLoss
  rw [h]
  rfl
@[simp] theorem State.updateKnee_burstView (s : State) (n m : Nat) : (s.updateKnee n).burstView m = s.burstView m := by
  unfold State.updateKnee
  dsimp only
  split
  · rfl
  · simp [State.updateTj]
@[simp] theorem State.chgOff_burstView (s : State) (n m : Nat) : (s.chgOff n).burstView m = s.burstView m := by
  unfold State.chgOff
  exact (State.burstView_congr rfl rfl m).trans (s.setStr_burstView (by rfl) m)

/-! ## Isolation (R94, R96, R97) -/

@[simp] theorem State.isoPlace_burstView (s : State) (n stage bits m : Nat) : (s.isoPlace n stage bits).burstView m = s.burstView m := by
  unfold State.isoPlace
  dsimp only
  rw [State.scheduleD_burstView, State.setStr_burstView _ (by rfl), State.takeSlot_burstView]
@[simp] theorem State.stringDead_burstView (s : State) (n e why m : Nat) : (s.stringDead n e why).burstView m = s.burstView m := by
  unfold State.stringDead
  dsimp only
  rw [State.scheduleD_burstView, State.recordLoss_burstView, State.logEvent_burstView, State.chgOff_burstView, State.setStr_burstView _ (by rfl), State.setF_burstView]
@[simp] theorem State.emitterFound_burstView (s : State) (e m : Nat) : (s.emitterFound e).burstView m = s.burstView m := by
  unfold State.emitterFound
  dsimp only
  split
  · exact State.stringDead_burstView _ _ _ _ _
  · rw [State.scheduleD_burstView, State.updateKnee_burstView, State.recordLoss_burstView, State.logEvent_burstView, State.setStr_burstView _ (by rfl),
      State.raise_burstView, State.rset_burstView, State.rset_burstView]
/-- Whatever probe of an isolation has its verdict, no burst or monitored shot changes. -/
@[simp] theorem State.isoVerdict_burstView (s : State) (n stage : Nat) (zero : Bool) (m : Nat) : (s.isoVerdict n stage zero).burstView m = s.burstView m := by
  unfold State.isoVerdict
  split
  · rfl
  · split
    · split
      · exact State.isoPlace_burstView _ _ _ _ _
      · rw [State.scheduleD_burstView, State.setStr_burstView _ (by rfl)]
    · split
      · exact State.stringDead_burstView _ _ _ _ _
      · exact State.emitterFound_burstView _ _ _
    · simp only [State.burstView_ite, State.isoPlace_burstView, State.stringDead_burstView, ite_self]
@[simp] theorem State.shortCheck_burstView (s : State) (n : Nat) (q : MonShot) (ipk m : Nat) : (s.shortCheck n q ipk).burstView m = s.burstView m := by
  have hset (x : StrSt) (h : x.mon = (s.str n).mon) : (s.setStr n x).burstView m = s.burstView m := s.setStr_burstView h m
  unfold State.shortCheck
  dsimp only
  simp only [State.burstView_ite, State.stringDead_burstView, State.raise_burstView]
  rw [hset _ (by rfl), hset _ (by rfl)]
  simp only [ite_self]

/-! ## The end of a burst -/

/-- String `n`'s shot is no longer monitored. -/
def State.monDone (s : State) (n : Nat) : State := s.setStr n { s.str n with mon := none }

theorem State.monDone_burstView (s : State) (n : Nat) : (s.monDone n).burstView n = (none, s.emit.burst) := by
  unfold State.monDone State.burstView
  rw [State.str_setStr_self, State.setStr_emit]

/-- Without an isolation the missing verdict has no other effect. -/
theorem State.noVerdict_unisolated {s : State} {n : Nat} (hiso : (s.str n).iso = none) (k : ShotKind) : s.noVerdict n k = s.monDone n := by
  unfold State.noVerdict
  rw [hiso]
  cases k <;> rfl

theorem State.noVerdict_burstView (s : State) (n : Nat) (k : ShotKind) : (s.noVerdict n k).burstView n = (none, s.emit.burst) := by
  unfold State.noVerdict
  dsimp only
  split
  · rw [State.isoPlace_burstView]
    exact s.monDone_burstView n
  · exact s.monDone_burstView n

theorem State.verdict_burstView (s : State) (n : Nat) (q : MonShot) (codes : List Nat) : (s.verdict n q codes).burstView n = (none, s.emit.burst) := by
  have hdone := s.monDone_burstView n
  unfold State.verdict
  dsimp only
  split
  · rw [State.isoVerdict_burstView]
    exact hdone
  · split
    · rw [State.isoPlace_burstView]
      exact hdone
    · exact hdone
  · split
    · rw [State.isoPlace_burstView]
      exact hdone
    · rw [State.shortCheck_burstView]
      exact hdone

theorem State.adcDone_form (s : State) (i : Nat) : ∃ a, s.adcDone i = s.withAdc a := by
  unfold State.adcDone
  split
  · exact ⟨s.adc, rfl⟩
  · exact ⟨_, rfl⟩

/-- String `n`'s burst is over: ADC0 has its results, and another string's burst goes on. -/
theorem State.burstOver_form (s : State) (n i : Nat) : ∃ a b, b ≠ some n ∧ s.burstOver n i = (s.withAdc a).withEmit { s.emit with burst := b } := by
  obtain ⟨a, ha⟩ := s.adcDone_form i
  refine ⟨a, if s.emit.burst = some n then none else s.emit.burst, ?_, ?_⟩
  · split
    · simp
    · assumption
  · unfold State.burstOver
    rw [ha]

/-- A probe with a sample at or above the open threshold has no further effect (R95). -/
theorem State.verdict_probeSound {s : State} {n : Nat} {m : MonShot} {codes : List Nat} (hkind : m.kind = .probe)
    (hopen : codes.all (fun v => decide (v < s.f Fld.EMIT_MON_OPEN_THR * 16)) = false) : s.verdict n m codes = s.monDone n := by
  have hthr : (s.monDone n).f Fld.EMIT_MON_OPEN_THR = s.f Fld.EMIT_MON_OPEN_THR := rfl
  have hverdict : s.verdict n m codes =
      if codes.all (fun v => decide (v < (s.monDone n).f Fld.EMIT_MON_OPEN_THR * 16)) then (s.monDone n).isoPlace n 1 0 else s.monDone n := by
    unfold State.verdict
    rw [hkind]
    rfl
  rw [hverdict, hthr, hopen, if_neg Bool.false_ne_true]

/-! # The rows of monitoring (R93-R97) -/

/-- String `n`'s burst takes its slots of ADC0 (R93, R234). -/
def State.burstTaken (s : State) (n : Nat) (m : MonShot) : State :=
  let t := (s.adcAdd { who := 0, src := n, trig := slotAt m.due, len := s.burstLen, live := true }).setStr n { s.str n with mon := some { m with taken := true } }
  t.withEmit { t.emit with burst := some n, burstT := m.due }

theorem shotMonitorBurst_taken (n : Nat) (m : MonShot) (s : State) (hmon : (s.str n).mon = some m) (htaken : m.taken = false) (hfree : s.shotBusy m.due = false) :
    Answers (.shotMonitorBurst n) s (fun t => t.emit.burst = some n ∧ (t.str n).mon = some { m with taken := true } ∧
      t.adc.jobs = s.adcRecent ++ [{ who := 0, src := n, trig := slotAt m.due, len := s.burstLen, live := true }] ∧
      { t with strs := s.strs, emit := s.emit, adc := s.adc } = s) := by
  have hexec : exec (.shotMonitorBurst n) s = .next (s.burstTaken n m) := by
    change execShotMonitorBurst n s = _
    unfold execShotMonitorBurst
    simp only [hmon, htaken, hfree, Bool.false_eq_true, if_false]
    rfl
  have hstr : (s.burstTaken n m).str n = { s.str n with mon := some { m with taken := true } } := State.str_setStr_self _ n _
  exact ⟨_, hexec, by simp [State.burstTaken], congrArg StrSt.mon hstr, by simp [State.burstTaken, State.adcAdd], by simp [State.burstTaken, State.adcAdd]⟩

theorem shotMonitorBurst_missed (n : Nat) (m : MonShot) (s : State) (hmon : (s.str n).mon = some m) (htaken : m.taken = false) (hbusy : s.shotBusy m.due = true)
    (hiso : (s.str n).iso = none) :
    Answers (.shotMonitorBurst n) s (fun t => t.emit.burst = s.emit.burst ∧ (t.str n).mon = none ∧ t.causeSet Cause.EMIT_MON_MISS = true ∧
      { t with regs := s.regs, strs := s.strs } = s) := by
  have hexec : exec (.shotMonitorBurst n) s = .next ((s.raise Cause.EMIT_MON_MISS).noVerdict n m.kind) := by
    change execShotMonitorBurst n s = _
    unfold execShotMonitorBurst
    simp only [hmon, htaken, hbusy, Bool.false_eq_true, if_false, if_true]
  have hnone : (s.raise Cause.EMIT_MON_MISS).noVerdict n m.kind = (s.raise Cause.EMIT_MON_MISS).monDone n :=
    State.noVerdict_unisolated ((congrArg StrSt.iso (State.str_congr (s.raise_strs _) n)).trans hiso) m.kind
  rw [hnone] at hexec
  have hview := (s.raise Cause.EMIT_MON_MISS).monDone_burstView n
  exact ⟨_, hexec, by simp [State.monDone], congrArg Prod.fst hview, State.b_raise_self s Cause.EMIT_MON_MISS (by decide), by simp [State.monDone]⟩

/-- The row of a burst that ends with a conversion in each of its slots (R93, R233). -/
theorem execShotVerdict_ends {n i : Nat} {convs : List Conv} {m : MonShot} {s : State} (hmon : (s.str n).mon = some m) (htaken : m.taken = true)
    (hjob : s.shotJob n = some i) (hlen : (adcSlots s.adc.jobs i).length ≤ convs.length) :
    exec (.shotVerdict n convs) s = .next (if s.b Fld.ADC0_STAT_REFRDY then (s.burstOver n i).verdict n m (s.adcCodes n (adcSlots s.adc.jobs i) convs)
      else (s.burstOver n i).noVerdict n m.kind) := by
  change execShotVerdict n convs s = _
  unfold execShotVerdict
  rw [hmon, hjob]
  simp only [htaken, Bool.not_true, Bool.false_or, decide_eq_true_eq, Nat.not_lt.2 hlen, if_false]
  cases s.b Fld.ADC0_STAT_REFRDY <;> rfl

theorem shotVerdict_waits (n : Nat) (convs : List Conv) (m : MonShot) (s : State) (hmon : (s.str n).mon = some m) (htaken : m.taken = false) :
    Answers (.shotVerdict n convs) s (fun t => t = s) := by
  refine ⟨s, ?_, rfl⟩
  change execShotVerdict n convs s = _
  unfold execShotVerdict
  rw [hmon]
  cases s.shotJob n <;> simp [htaken]

theorem shotVerdict_ends (n i : Nat) (convs : List Conv) (m : MonShot) (s : State) (hmon : (s.str n).mon = some m) (htaken : m.taken = true)
    (hjob : s.shotJob n = some i) (hlen : (adcSlots s.adc.jobs i).length ≤ convs.length) :
    Answers (.shotVerdict n convs) s (fun t => (t.str n).mon = none ∧ t.emit.burst ≠ some n ∧ t.dev = s.dev) := by
  obtain ⟨a, b, hb, hover⟩ := s.burstOver_form n i
  have hburst : (s.burstOver n i).emit.burst ≠ some n := by rw [hover]; exact hb
  have hview : ∀ t : State, t.burstView n = (none, (s.burstOver n i).emit.burst) → (t.str n).mon = none ∧ t.emit.burst ≠ some n := by
    intro t h
    obtain ⟨h1, h2⟩ := Prod.mk.inj h
    exact ⟨h1, h2 ▸ hburst⟩
  rw [Answers, execShotVerdict_ends hmon htaken hjob hlen]
  refine ⟨_, rfl, ?_⟩
  split
  · obtain ⟨h1, h2⟩ := hview _ (State.verdict_burstView _ n m _)
    exact ⟨h1, h2, by simp⟩
  · obtain ⟨h1, h2⟩ := hview _ (State.noVerdict_burstView _ n m.kind)
    exact ⟨h1, h2, by simp⟩

theorem shotVerdict_probeSound (n i : Nat) (convs : List Conv) (m : MonShot) (s : State) (hmon : (s.str n).mon = some m) (htaken : m.taken = true)
    (hjob : s.shotJob n = some i) (hlen : (adcSlots s.adc.jobs i).length ≤ convs.length) (href : s.b Fld.ADC0_STAT_REFRDY = true) (hkind : m.kind = .probe)
    (hopen : (s.adcCodes n (adcSlots s.adc.jobs i) convs).all (fun v => decide (v < s.f Fld.EMIT_MON_OPEN_THR * 16)) = false) :
    Answers (.shotVerdict n convs) s (fun t => t.emit.burst ≠ some n ∧ (t.str n).mon = none ∧ { t with strs := s.strs, emit := s.emit, adc := s.adc } = s) := by
  obtain ⟨a, b, hb, hover⟩ := s.burstOver_form n i
  have hexec : exec (.shotVerdict n convs) s = .next ((s.burstOver n i).monDone n) := by
    rw [execShotVerdict_ends hmon htaken hjob hlen, href, if_pos rfl]
    rw [hover]
    exact congrArg Host.Outcome.next (State.verdict_probeSound hkind hopen)
  rw [hover] at hexec
  have hview := ((s.withAdc a).withEmit { s.emit with burst := b }).monDone_burstView n
  refine ⟨_, hexec, ?_, congrArg Prod.fst hview, by simp [State.monDone]⟩
  simpa [State.monDone] using hb

/-! ## Periodic probes (R95) -/

/-- A probe of string `n` is pending. -/
def State.probeAsked (s : State) (n : Nat) : State := s.setStr n { s.str n with probeDue := true }

@[simp] theorem State.probeAsked_str (s : State) (n : Nat) : (s.probeAsked n).str n = { s.str n with probeDue := true } := State.str_setStr_self s n _

theorem execPeriodicProbeDue_due {n : Nat} {s : State} (hdev : s.dev = .scan) (husable : s.usable n = true) (hiso : (s.str n).iso = none)
    (hms : (s.str n).probeMs + s.probeWait ≤ s.ms) :
    exec (.periodicProbeDue n) s = .next (if (s.str n).next.isNone then (s.probeAsked n).scheduleD n else s.probeAsked n) := by
  have hnext : ((s.probeAsked n).str n).next = (s.str n).next := by simp
  rw [← hnext]
  exact if_pos (by simp [hdev, husable, hiso, hms])

theorem execPeriodicProbeDue_idle {n : Nat} {s : State} (h : s.dev ≠ .scan ∨ s.usable n = false ∨ s.ms < (s.str n).probeMs + s.probeWait) :
    exec (.periodicProbeDue n) s = .next s := by
  refine if_neg fun hdue => ?_
  simp only [Bool.and_eq_true, decide_eq_true_eq] at hdue
  obtain ⟨⟨⟨hdev, husable⟩, -⟩, hms⟩ := hdue
  rcases h with h | h | h
  · exact h hdev
  · simp [husable] at h
  · omega

theorem periodicProbeDue_pends (n : Nat) (s : State) (hdev : s.dev = .scan) (husable : s.usable n = true) (hiso : (s.str n).iso = none)
    (hms : (s.str n).probeMs + s.probeWait ≤ s.ms) : Answers (.periodicProbeDue n) s (fun t => (t.str n).probeDue = true ∧ t.dev = .scan) := by
  have hasked : ((s.probeAsked n).str n).probeDue = true := by simp
  refine ⟨_, execPeriodicProbeDue_due hdev husable hiso hms, ?_⟩
  split
  · exact ⟨(((s.probeAsked n).scheduleD_plans n).of_str StrSt.probeDue (fun _ => rfl) n).trans hasked, by simp [State.probeAsked, hdev]⟩
  · exact ⟨hasked, hdev⟩

theorem periodicProbeDue_behindShot (n : Nat) (y : NextShot) (s : State) (hdev : s.dev = .scan) (husable : s.usable n = true) (hiso : (s.str n).iso = none)
    (hnext : (s.str n).next = some y) (hms : (s.str n).probeMs + s.probeWait ≤ s.ms) :
    Answers (.periodicProbeDue n) s (fun t => (t.str n).probeDue = true ∧ { t with strs := s.strs } = s) :=
  ⟨s.probeAsked n, (execPeriodicProbeDue_due hdev husable hiso hms).trans (congrArg Host.Outcome.next (if_neg (by simp [hnext]))),
    by simp, rfl⟩

/-! ## EMIT_LOSTCLR (R96) -/

/-- The registers that follow a change of the lost emitters: knees, junction temperatures and their set-points, and the log's drop counter. -/
def Reg.kneeRegs : List Nat := Reg.THERM_CNT :: (List.range 8).flatMap (fun n => [Reg.EMIT_DER n, Reg.KILN_TJ n, Reg.CTL_CSP n 2])

theorem State.updateKnee_regsBut {n : Nat} (hn : n < 8) (s : State) : State.regsBut Reg.kneeRegs s (s.updateKnee n) := by
  have hmem (a : Nat) (ha : a ∈ [Reg.EMIT_DER n, Reg.KILN_TJ n, Reg.CTL_CSP n 2]) : a ∈ Reg.kneeRegs :=
    List.mem_cons_of_mem _ (List.mem_flatMap.2 ⟨n, List.mem_range.2 hn, ha⟩)
  unfold State.updateKnee
  dsimp only
  split
  · exact State.regsBut_refl _ s
  · unfold State.updateTj State.setFs
    exact State.regsBut_setF _ _ (State.regsBut_setF _ _ (State.regsBut_setF _ _ (State.regsBut_refl _ s) (hmem _ (by simp [Fld.EMIT_DER_TK, Reg.EMIT_DER])))
      (hmem _ (by simp [Fld.KILN_TJ_TJ, Reg.KILN_TJ]))) (hmem _ (by simp [Fld.CTL_CSP_SP, Reg.CTL_CSP]))

/-- What the clearing of the lost emitters entails: the NVM record, the knees and the log entry. -/
theorem State.lossCleared_regsBut (s : State) :
    State.regsBut Reg.kneeRegs s (((List.range 8).foldl (fun s n => s.updateKnee n) s.recordLoss).logEvent 0x0011 0xFF 3) := by
  have hrecord : s.recordLoss.regs = s.regs := State.nvmPush_regs s _
  have hknees := State.regsBut_foldl (l := Reg.kneeRegs) (g := fun s n => State.updateKnee s n) (fun s n hn => State.updateKnee_regsBut (List.mem_range.1 hn) s) s.recordLoss
  exact State.regsBut_logEvent _ _ _ (State.regsBut_trans (State.regsBut_of (State.regsBut_refl _ s) hrecord) hknees) List.mem_cons_self

/-- No emitter is lost, and no string dead. -/
def State.lossesErased (s : State) : State := ((s.rset Reg.EMIT_LOST_LO 0).rset Reg.EMIT_LOST_HI 0).setF Fld.EMIT_FAULT_DEAD 0

theorem execEmitLostclr_key {s : State} (hdev : s.dev = .idle) : exec (.emitLostclr 0x4C4F5354) s =
    .next (((List.range 8).foldl (fun s n => s.updateKnee n) s.lossesErased.recordLoss).logEvent 0x0011 0xFF 3) :=
  congrArg Host.Outcome.next (if_pos (by simp [hdev]))

theorem State.lossesErased_shows (s : State) :
    s.lossesErased.f Fld.EMIT_FAULT_DEAD = 0 ∧ s.lossesErased.rget Reg.EMIT_LOST_HI = 0 ∧ s.lossesErased.rget Reg.EMIT_LOST_LO = 0 :=
  ⟨State.f_setF_self _ Fld.EMIT_FAULT_DEAD 0 (by decide), (State.rget_setF_ne _ _ _ _ (by decide)).trans (State.rget_rset_self _ _ _),
    (State.rget_setF_ne _ _ _ _ (by decide)).trans ((State.rget_rset_ne _ _ _ _ (by decide)).trans (State.rget_rset_self _ _ _))⟩

theorem emitLostclr_clears (s : State) (hdev : s.dev = .idle) :
    Answers (.emitLostclr 0x4C4F5354) s (fun t => t.f Fld.EMIT_FAULT_DEAD = 0 ∧ t.lostMask = 0) := by
  obtain ⟨hdead, hhi, hlo⟩ := s.lossesErased_shows
  have hregs := s.lossesErased.lossCleared_regsBut
  refine ⟨_, execEmitLostclr_key hdev, (State.f_eq _ _ _ (hregs _ (by decide))).trans hdead, ?_⟩
  unfold State.lostMask
  rw [hregs _ (by decide), hregs _ (by decide), hhi, hlo]
  rfl

theorem emitLostclr_refused (key : Word) (s : State) (h : key ≠ 0x4C4F5354 ∨ s.dev ≠ .idle) : Answers (.emitLostclr key) s (fun t => t = s) := by
  refine ⟨s, congrArg Host.Outcome.next (if_neg ?_), rfl⟩
  simpa [imp_iff_not_or] using h

/-- Settles O22: a burst is taken or missed, its end shows in `State.burstView`, a probe pends by its interval, and EMIT_LOSTCLR clears by its key. -/
theorem shotMonitoring : Obligations.ShotMonitoring := by
  unfold Obligations.ShotMonitoring
  refine ⟨shotMonitorBurst_taken, shotMonitorBurst_missed, shotVerdict_probeSound, shotVerdict_waits, periodicProbeDue_behindShot, ?_, emitLostclr_clears,
    emitLostclr_refused, shotVerdict_ends, ?_, periodicProbeDue_pends⟩
  · exact fun n s h => ⟨s, execPeriodicProbeDue_idle (h.imp_right .inl), rfl⟩
  · exact fun n s h => ⟨s, execPeriodicProbeDue_idle (.inr (.inr h)), rfl⟩

end Sys2Proof.Machine
end

section
namespace Sys2Proof.Machine

/-! # A shot is charged to models and ledger and counted (R79, R118, R122) -/

/-- The registers that a shot changes besides its count: the models of string `n` with what follows from them, and the flag of a cut window with its counter. -/
def Reg.shotRegs (n : Nat) : List Nat :=
  [Reg.KILN_DT n, Reg.KILN_BKT n, Reg.KILN_TJ n, Reg.CTL_CSP n 2, Cause.RX_WIN_CUT.fld.addr, Cause.RX_WIN_CUT.cnt.addr]

/-- The shot of string `n` at `t` is charged to its cells and to the models, and counted. -/
def State.shotCharged (s : State) (n t : Nat) (y : NextShot) : State :=
  let code := s.f (Fld.EMIT_DAC_CODE n)
  let p := s.chargeCells (s.shotCells n y.pat (s.predict t)) (s.emission (s.wEye n y.pat) (max code (y.vpre.getD code)))
  (p.chargeModels n code t).incMod (Fld.EMIT_SHOTS_COUNT n) 1

theorem State.chargeModels_regsBut (s : State) (n v t : Nat) : State.regsBut (Reg.shotRegs n) s (s.chargeModels n v t) := by
  unfold State.chargeModels State.updateTj State.setFs
  refine State.regsBut_setF _ _ (State.regsBut_setF _ _ (State.regsBut_of (State.regsBut_rset _ _ (State.regsBut_rset _ _ (State.regsBut_refl _ s) ?_) ?_) rfl) ?_) ?_ <;>
    simp [Reg.shotRegs, Fld.KILN_TJ_TJ, Reg.KILN_TJ, Fld.CTL_CSP_SP, Reg.CTL_CSP]

theorem State.shotCharged_keeps (s : State) (n t : Nat) (y : NextShot) :
    (s.shotCharged n t y).strs = s.strs ∧ (s.shotCharged n t y).eff = s.eff ∧ (s.shotCharged n t y).ms = s.ms := by
  simp [State.shotCharged, State.chargeCells, State.chargeModels, State.spend, State.updateTj]

/-- No register of `Reg.shotRegs`, and none that the choice of the next shot changes, holds a string's shot count or its dither register. -/
theorem Fld.shotCount_apart : ∀ n < 8, (Fld.EMIT_SHOTS_COUNT n).fits = true ∧ (Fld.EMIT_DLFSR_LFSR n).fits = true ∧
    (Fld.EMIT_SHOTS_COUNT n).apart (Fld.EMIT_DLFSR_LFSR n) = true ∧ (Fld.EMIT_DLFSR_LFSR n).apart (Fld.EMIT_SHOTS_COUNT n) = true ∧
    ∀ F ∈ [Fld.EMIT_SHOTS_COUNT n, Fld.EMIT_DLFSR_LFSR n], F.addr ∉ Reg.shotRegs n ∧ F.addr ∉ [Reg.EMIT_DAC n, Reg.CTL_CSP n 0] ∧
      F.apart Cause.EMIT_SHOT_LATE.fld = true ∧ F.apart Cause.EMIT_SHOT_LATE.cnt = true := by decide

theorem State.f_chargeModels {n : Nat} (hn : n < 8) {F : Fld} (hF : F ∈ [Fld.EMIT_SHOTS_COUNT n, Fld.EMIT_DLFSR_LFSR n]) (s : State) (v t : Nat) :
    (s.chargeModels n v t).f F = s.f F := by
  obtain ⟨-, -, -, -, hF'⟩ := Fld.shotCount_apart n hn
  obtain ⟨hshot, -, -, -⟩ := hF' F hF
  exact State.f_eq _ _ F (s.chargeModels_regsBut n v t _ hshot)

theorem State.shotCharged_count {n : Nat} (hn : n < 8) (s : State) (t : Nat) (y : NextShot) :
    (s.shotCharged n t y).f (Fld.EMIT_SHOTS_COUNT n) = (s.f (Fld.EMIT_SHOTS_COUNT n) + 1) % 2 ^ (Fld.EMIT_SHOTS_COUNT n).w := by
  obtain ⟨hfits, -⟩ := Fld.shotCount_apart n hn
  unfold State.shotCharged
  dsimp only
  rw [State.f_incMod_self _ _ _ hfits, State.f_chargeModels hn (by simp)]
  rfl

theorem State.shotCharged_dither {n : Nat} (hn : n < 8) (s : State) (t : Nat) (y : NextShot) :
    (s.shotCharged n t y).f (Fld.EMIT_DLFSR_LFSR n) = s.f (Fld.EMIT_DLFSR_LFSR n) := by
  obtain ⟨hfits, -, -, hapart, -⟩ := Fld.shotCount_apart n hn
  unfold State.shotCharged
  dsimp only
  rw [State.f_incMod_apart _ _ _ _ hfits hapart, State.f_chargeModels hn (by simp)]
  rfl

/-! ## A shot fires -/

theorem State.adcFired_form (s : State) (k t : Nat) : ∃ a, s.adcFired k t = s.withAdc a := by
  unfold State.adcFired
  induction List.range 4 generalizing s with
  | nil => exact ⟨s.adc, rfl⟩
  | cons n l ih =>
    rw [List.foldl_cons]
    split
    · obtain ⟨a, ha⟩ := ih (s.adcDue n (t + 4 * s.f (Fld.ADC0_REQT_DELAY n)))
      exact ⟨a, ha⟩
    · exact ih s

/-- What every fired shot does besides charging and counting: its string's record shows pulse and burst, the frame on the link keeps clear of it, and ADC0's requests
and the drivers follow. -/
theorem State.shotFired_form (s : State) (n t : Nat) (y : NextShot) : ∃ m a pins, s.shotFired n t y =
    (((s.shotCharged n t y).setStr n { s.str n with lastFire := some (t, t + s.widthNs n), pulseQ := s.widthQ n, mon := some m }).emxRelatch.withAdc a).withPins pins := by
  obtain ⟨hstrs, heff, -⟩ := s.shotCharged_keeps n t y
  have hstr : (s.shotCharged n t y).str n = s.str n := State.str_congr hstrs n
  have hef (F : Fld) : (s.shotCharged n t y).ef F = s.ef F := by
    unfold State.ef State.effGet
    rw [heff]
  have hq : (s.shotCharged n t y).widthQ n = s.widthQ n := by
    unfold State.widthQ
    rw [hef]
  have hns : (s.shotCharged n t y).widthNs n = s.widthNs n := by
    unfold State.widthNs
    rw [hq]
  unfold State.shotFired
  dsimp only
  rw [← State.shotCharged, hstr, hq, hns]
  have hfired (p : State) (pins : PinSt) : ∃ a, (p.adcFired n t).withPins pins = (p.withAdc a).withPins pins := by
    obtain ⟨a, ha⟩ := p.adcFired_form n t
    exact ⟨a, by rw [ha]⟩
  obtain ⟨a, ha⟩ := hfired _ _
  exact ⟨_, a, _, ha⟩

/-- A fired shot of string `n` at `t`: it is counted, and the string's record shows its pulse and a burst that is due (R79, R93). -/
theorem State.shotFired_shows {n : Nat} (hn : n < 8) (s : State) (t : Nat) (y : NextShot) :
    let u := s.shotFired n t y
    u.f (Fld.EMIT_SHOTS_COUNT n) = (s.f (Fld.EMIT_SHOTS_COUNT n) + 1) % 2 ^ (Fld.EMIT_SHOTS_COUNT n).w ∧ u.f (Fld.EMIT_DLFSR_LFSR n) = s.f (Fld.EMIT_DLFSR_LFSR n) ∧
      (u.str n).lastFire = some (t, t + s.widthNs n) ∧ (u.str n).mon.isSome = true ∧ u.ms = s.ms := by
  obtain ⟨m, a, pins, h⟩ := s.shotFired_form n t y
  obtain ⟨-, -, hms⟩ := s.shotCharged_keeps n t y
  have hregs : (s.shotFired n t y).regs = (s.shotCharged n t y).regs := by
    rw [h]
    rfl
  have hf (F : Fld) : (s.shotFired n t y).f F = (s.shotCharged n t y).f F := State.f_congr hregs F
  have hstr : (s.shotFired n t y).str n = { s.str n with lastFire := some (t, t + s.widthNs n), pulseQ := s.widthQ n, mon := some m } := by
    have hstrs : (s.shotFired n t y).strs = ((s.shotCharged n t y).setStr n { s.str n with
        lastFire := some (t, t + s.widthNs n), pulseQ := s.widthQ n, mon := some m }).strs := by
      rw [h]
      simp [State.emxRelatch]
    rw [State.str_congr hstrs, State.str_setStr_self]
  refine ⟨(hf _).trans (State.shotCharged_count hn s t y), (hf _).trans (State.shotCharged_dither hn s t y), ?_, ?_, ?_⟩
  · rw [hstr]
  · rw [hstr]
    rfl
  · rw [h]
    simpa [State.emxRelatch] using hms

/-! ## A planned shot fires (R79, R135) -/

/-- A window opens; a fifth one cuts the oldest, which is raised. -/
theorem State.openWindow_form (s : State) (k t w : Nat) :
    ∃ b c, s.openWindow k t w = s.withClus c ∨ s.openWindow k t w = ((s.withClus b).raise Cause.RX_WIN_CUT).withClus c := by
  have hopened (p : State) (x : CluSt) (g : ColAcc → ColAcc) : ∃ c, (p.setCluster k x).modAcc k g = p.withClus c := ⟨_, rfl⟩
  obtain ⟨c, hc, -⟩ := s.closeExpired_form k t
  unfold State.openWindow
  dsimp only
  rw [hc]
  split
  · next oldest rest _ =>
    have hcut (p : State) (b : SMap CluSt) (hp : p = s.withClus b) (x : CluSt) (g : ColAcc → ColAcc) :
        ∃ d, ((p.raise Cause.RX_WIN_CUT).setCluster k x).modAcc k g = ((s.withClus b).raise Cause.RX_WIN_CUT).withClus d := by
      subst hp
      exact hopened _ x g
    obtain ⟨b, hb, -⟩ := State.windowGone_form ((s.withClus c).setCluster k { (s.withClus c).cluster k with wins := ((s.withClus c).cluster k).wins.take 3 }) k oldest t true
    obtain ⟨d, hd⟩ := hcut _ b hb _ _
    exact ⟨b, d, .inr hd⟩
  · obtain ⟨d, hd⟩ := hopened (s.withClus c) _ _
    exact ⟨c, d, .inl hd⟩

/-- Of strings and registers a shot that opens windows leaves all alone but the models' registers, and the flag of a cut window with its counter. -/
structure State.Shoots (n : Nat) (s t : State) : Prop where
  strs : t.strs = s.strs
  regs : State.regsBut (Reg.shotRegs n) s t

theorem State.Shoots.refl (n : Nat) (s : State) : State.Shoots n s s := ⟨rfl, State.regsBut_refl _ s⟩
theorem State.Shoots.trans {n : Nat} {s t u : State} (h : State.Shoots n s t) (h' : State.Shoots n t u) : State.Shoots n s u :=
  ⟨h'.strs.trans h.strs, State.regsBut_trans h.regs h'.regs⟩

theorem State.openWindow_shoots (n : Nat) (s : State) (k t w : Nat) : State.Shoots n s (s.openWindow k t w) := by
  obtain ⟨b, c, h | h⟩ := s.openWindow_form k t w
  · rw [h]
    exact ⟨rfl, State.regsBut_of (State.regsBut_refl _ s) rfl⟩
  · rw [h]
    exact ⟨by simp, State.regsBut_of (State.regsBut_raise (t := s.withClus b) Cause.RX_WIN_CUT (State.regsBut_of (State.regsBut_refl _ s) rfl)
      (by simp [Reg.shotRegs]) (by simp [Reg.shotRegs])) rfl⟩

theorem State.openWindows_shoots (n t w : Nat) (rows : List Nat) (s : State) : State.Shoots n s (rows.foldl (fun s k =>
    if (if s.mash.swapPend then (s.cluster k).nxt.woken else (s.cluster k).cur.woken) then s.openWindow k t w else s) s) := by
  induction rows generalizing s with
  | nil => exact .refl n s
  | cons k rows ih =>
    rw [List.foldl_cons]
    refine State.Shoots.trans ?_ (ih _)
    generalize (if s.mash.swapPend then (s.cluster k).nxt.woken else (s.cluster k).cur.woken) = woken
    cases woken
    · exact .refl n s
    · exact s.openWindow_shoots n k t w

/-- A planned shot is released and handed over, and opens its windows: no string's record changes. -/
theorem State.plannedFired_shoots (s : State) (n i t : Nat) (y : NextShot) : State.Shoots n s (s.plannedFired n i t y) := by
  have hreduce (c : Nat) : State.Shoots n s (s.reduceEntry i c) := by
    obtain ⟨x, hx⟩ := s.reduceEntry_form i c
    rw [hx]
    exact ⟨rfl, State.regsBut_of (State.regsBut_refl _ s) rfl⟩
  have hhand (p : State) (sc : ScanSt) (em : EmitSt) (e : Nat) (h : State.Shoots n s p) : State.Shoots n s (((p.withScan sc).withEmit em).spend t e) :=
    h.trans ⟨rfl, State.regsBut_of (State.regsBut_refl _ p) rfl⟩
  unfold State.plannedFired
  split
  · exact .refl n s
  · dsimp only
    refine State.Shoots.trans (hhand _ _ _ _ ?_) (State.openWindows_shoots n t _ _ _)
    split
    · exact hreduce _
    · exact .refl n s

/-! ## A planned shot is over (R76, R77) -/

/-- The dither register advances, and the string's record keeps pulse and burst. -/
theorem State.plannedOver_shows {n : Nat} (hn : n < 8) (s : State) (y : NextShot) :
    let t := s.plannedOver n y
    t.f (Fld.EMIT_SHOTS_COUNT n) = s.f (Fld.EMIT_SHOTS_COUNT n) ∧ (t.str n).lastFire = (s.str n).lastFire ∧ (t.str n).mon = (s.str n).mon ∧ t.kiln = s.kiln ∧
      t.f (Fld.EMIT_DLFSR_LFSR n) = (lfsr16 (BitVec.ofNat 16 (s.f (Fld.EMIT_DLFSR_LFSR n)))).toNat := by
  obtain ⟨-, hfits, hapart, -, hF⟩ := Fld.shotCount_apart n hn
  have hadvance : ∀ p : State, State.Plans n (s.setF (Fld.EMIT_DLFSR_LFSR n) (lfsr16 (BitVec.ofNat 16 (s.f (Fld.EMIT_DLFSR_LFSR n)))).toNat) p →
      p.f (Fld.EMIT_SHOTS_COUNT n) = s.f (Fld.EMIT_SHOTS_COUNT n) ∧ (p.str n).lastFire = (s.str n).lastFire ∧ (p.str n).mon = (s.str n).mon ∧ p.kiln = s.kiln ∧
        p.f (Fld.EMIT_DLFSR_LFSR n) = (lfsr16 (BitVec.ofNat 16 (s.f (Fld.EMIT_DLFSR_LFSR n)))).toNat := by
    intro p h
    have hf (F : Fld) (hmem : F ∈ [Fld.EMIT_SHOTS_COUNT n, Fld.EMIT_DLFSR_LFSR n]) :
        p.f F = (s.setF (Fld.EMIT_DLFSR_LFSR n) (lfsr16 (BitVec.ofNat 16 (s.f (Fld.EMIT_DLFSR_LFSR n)))).toNat).f F := by
      obtain ⟨-, hplan, -, -⟩ := hF F hmem
      exact State.f_eq _ _ F (h.regs F.addr hplan)
    refine ⟨(hf _ (by simp)).trans (State.f_setF_apart _ _ _ _ hfits hapart), h.of_str StrSt.lastFire (fun _ => rfl) n, h.of_str StrSt.mon (fun _ => rfl) n,
      h.of_state State.kiln (fun _ => rfl), (hf _ (by simp)).trans ((State.f_setF_self _ _ _ hfits).trans (Nat.mod_eq_of_lt ?_))⟩
    exact BitVec.isLt _
  exact hadvance _ ((State.setStr_plans n _ (by rfl)).trans (State.scheduleD_plans _ n))

end Sys2Proof.Machine
end

section
namespace Sys2Proof.Machine

/-! # FIRE (R76, R77, R79, R94, R95) -/

/-- When a shot that is due at `x` fires: a probe clear of the latch edge in or after its slot, any other at its computed time. -/
def State.fireTime (s : State) (x : Nat) (y : NextShot) : Nat := if y.kind = .probe then s.clearOfLatch (max x y.t) else y.t

/-- The record of string `n` after a probe at `tf`: none is pending, and its interval starts anew (R95). -/
def State.probeStamped (s : State) (n tf : Nat) : State := s.setStr n { s.str n with probeDue := false, probeMs := s.ms, prevT := some tf, next := none }

theorem State.probeStamped_str (s : State) (n tf : Nat) : (s.probeStamped n tf).str n =
    { s.str n with probeDue := false, probeMs := s.ms, prevT := some tf, next := none } := State.str_setStr_self s n _

/-- The record of string `n` after an isolation shot at `tf`: no other shot follows. -/
def State.isoStamped (s : State) (n tf : Nat) : State := s.setStr n { s.str n with prevT := some tf, next := none }

theorem State.isoStamped_shows (s : State) (n tf : Nat) (F : Fld) :
    let t := s.isoStamped n tf
    t.f F = s.f F ∧ (t.str n).lastFire = (s.str n).lastFire ∧ (t.str n).next = none ∧ (t.str n).mon = (s.str n).mon := by
  have hstr : (s.isoStamped n tf).str n = { s.str n with prevT := some tf, next := none } := State.str_setStr_self s n _
  exact ⟨State.f_congr (State.setStr_regs s n _) F, by rw [hstr], by rw [hstr], by rw [hstr]⟩

/-- With the string's next shot chosen, count and pulse of the probe stand. -/
theorem State.probeOver_shows {n : Nat} (hn : n < 8) (s : State) (tf : Nat) :
    let t := (s.probeStamped n tf).scheduleD n
    t.f (Fld.EMIT_SHOTS_COUNT n) = s.f (Fld.EMIT_SHOTS_COUNT n) ∧ (t.str n).lastFire = (s.str n).lastFire ∧ (t.str n).probeDue = false ∧ (t.str n).probeMs = s.ms := by
  obtain ⟨-, -, -, -, hF⟩ := Fld.shotCount_apart n hn
  obtain ⟨-, hplan, -, -⟩ := hF (Fld.EMIT_SHOTS_COUNT n) (by simp)
  have hplans := (s.probeStamped n tf).scheduleD_plans n
  have hstr := s.probeStamped_str n tf
  refine ⟨(State.f_eq _ _ _ (hplans.regs _ hplan)).trans (State.f_congr (State.setStr_regs s n _) _), ?_, ?_, ?_⟩
  · rw [hplans.of_str StrSt.lastFire (fun _ => rfl) n, hstr]
  · rw [hplans.of_str StrSt.probeDue (fun _ => rfl) n, hstr]
  · rw [hplans.of_str StrSt.probeMs (fun _ => rfl) n, hstr]

/-- FIRE of a shot that nothing holds back. -/
def State.shotTaken (s : State) (n tf : Nat) (y : NextShot) : State :=
  let p := s.shotFired n tf y
  match y.kind with
  | .planned i => (p.plannedFired n i tf y).plannedOver n y
  | .probe => (p.probeStamped n tf).scheduleD n
  | .iso _ => p.isoStamped n tf

theorem execFire_taken {n x : Nat} {y : NextShot} {s : State} (hnext : (s.str n).next = some y) (hready : y.ready = some true) (hadm : y.admitted = some true)
    (hpat : s.patternReady n y.pat (s.fireTime x y) = true) (hinh : s.fireInhibited n = false) :
    exec (.fire n x) s = .next (s.shotTaken n (s.fireTime x y) y) := by
  change execFire n x s = _
  unfold execFire State.shotTaken
  rw [hnext]
  dsimp only
  rw [← State.fireTime, hpat, hinh]
  simp only [hready, hadm, State.raiseIf, decide_true, Bool.and_self, Bool.not_false, Bool.not_true, Bool.false_and, Bool.false_eq_true, if_false, if_true]
  cases y.kind <;> rfl

theorem State.shotTaken_dev (s : State) (n tf : Nat) (y : NextShot) : (s.shotTaken n tf y).dev = s.dev := by
  unfold State.shotTaken
  dsimp only
  split <;> simp [State.probeStamped, State.isoStamped]

theorem fire_isolation (n x st : Nat) (y : NextShot) (s : State) (hn : n < 8) (hnext : (s.str n).next = some y) (hkind : y.kind = .iso st) (hready : y.ready = some true)
    (hadm : y.admitted = some true) (hpat : s.patternReady n y.pat y.t = true) (hinh : s.fireInhibited n = false) :
    Answers (.fire n x) s (fun t => t.f (Fld.EMIT_SHOTS_COUNT n) = (s.f (Fld.EMIT_SHOTS_COUNT n) + 1) % 2 ^ (Fld.EMIT_SHOTS_COUNT n).w ∧
      (t.str n).lastFire = some (y.t, y.t + s.widthNs n) ∧ (t.str n).next = none ∧ (t.str n).mon.isSome = true ∧ t.dev = s.dev) := by
  have htime : s.fireTime x y = y.t := by simp [State.fireTime, hkind]
  obtain ⟨hcount, -, hlast, hmon, -⟩ := State.shotFired_shows hn s y.t y
  obtain ⟨hcount', hlast', hnone, hmon'⟩ := (s.shotFired n y.t y).isoStamped_shows n y.t (Fld.EMIT_SHOTS_COUNT n)
  have htaken : s.shotTaken n y.t y = (s.shotFired n y.t y).isoStamped n y.t := by
    unfold State.shotTaken
    rw [hkind]
  have hdev := s.shotTaken_dev n y.t y
  refine ⟨s.shotTaken n y.t y, htime ▸ execFire_taken hnext hready hadm (htime.symm ▸ hpat) hinh, ?_⟩
  dsimp only
  rw [htaken] at hdev ⊢
  rw [hcount', hlast', hmon', hcount]
  exact ⟨rfl, hlast, hnone, hmon, hdev⟩

theorem fire_planned (n x i : Nat) (y : NextShot) (s : State) (hn : n < 8) (hnext : (s.str n).next = some y) (hkind : y.kind = .planned i) (hready : y.ready = some true)
    (hadm : y.admitted = some true) (hpat : s.patternReady n y.pat y.t = true) (hinh : s.fireInhibited n = false) :
    Answers (.fire n x) s (fun t => t.f (Fld.EMIT_SHOTS_COUNT n) = (s.f (Fld.EMIT_SHOTS_COUNT n) + 1) % 2 ^ (Fld.EMIT_SHOTS_COUNT n).w ∧
      (t.str n).lastFire = some (y.t, y.t + s.widthNs n) ∧ (t.str n).mon.isSome = true ∧
      t.f (Fld.EMIT_DLFSR_LFSR n) = (lfsr16 (BitVec.ofNat 16 (s.f (Fld.EMIT_DLFSR_LFSR n)))).toNat ∧ t.dev = s.dev) := by
  have htime : s.fireTime x y = y.t := by simp [State.fireTime, hkind]
  obtain ⟨hcount, hdither, hlast, hmon, -⟩ := State.shotFired_shows hn s y.t y
  obtain ⟨hstrs, hregs⟩ := (s.shotFired n y.t y).plannedFired_shoots n i y.t y
  obtain ⟨hcount', hlast', hmon', -, hdither'⟩ := State.plannedOver_shows hn ((s.shotFired n y.t y).plannedFired n i y.t y) y
  have hf (F : Fld) (hmem : F ∈ [Fld.EMIT_SHOTS_COUNT n, Fld.EMIT_DLFSR_LFSR n]) :
      ((s.shotFired n y.t y).plannedFired n i y.t y).f F = (s.shotFired n y.t y).f F := by
    obtain ⟨-, -, -, -, hF⟩ := Fld.shotCount_apart n hn
    obtain ⟨hshot, -, -, -⟩ := hF F hmem
    exact State.f_eq _ _ F (hregs F.addr hshot)
  have hstr := State.str_congr hstrs n
  have htaken : s.shotTaken n y.t y = ((s.shotFired n y.t y).plannedFired n i y.t y).plannedOver n y := by
    unfold State.shotTaken
    rw [hkind]
  have hdev := s.shotTaken_dev n y.t y
  refine ⟨s.shotTaken n y.t y, htime ▸ execFire_taken hnext hready hadm (htime.symm ▸ hpat) hinh, ?_⟩
  dsimp only
  rw [htaken] at hdev ⊢
  rw [hcount', hlast', hmon', hdither', hf _ (by simp), hf _ (by simp), hstr, hcount, hdither]
  exact ⟨rfl, hlast, hmon, rfl, hdev⟩

theorem fire_probe (n x : Nat) (y : NextShot) (s : State) (hn : n < 8) (hnext : (s.str n).next = some y) (hkind : y.kind = .probe) (hready : y.ready = some true)
    (hadm : y.admitted = some true) (hpat : s.patternReady n y.pat (s.clearOfLatch (max x y.t)) = true) (hinh : s.fireInhibited n = false) :
    Answers (.fire n x) s (fun t => t.f (Fld.EMIT_SHOTS_COUNT n) = (s.f (Fld.EMIT_SHOTS_COUNT n) + 1) % 2 ^ (Fld.EMIT_SHOTS_COUNT n).w ∧
      (t.str n).lastFire = some (s.clearOfLatch (max x y.t), s.clearOfLatch (max x y.t) + s.widthNs n) ∧ (t.str n).probeDue = false ∧ (t.str n).probeMs = s.ms ∧
      t.dev = s.dev) := by
  have htime : s.fireTime x y = s.clearOfLatch (max x y.t) := if_pos hkind
  rw [← htime] at hpat ⊢
  generalize htf : s.fireTime x y = tf at hpat ⊢
  obtain ⟨hcount, -, hlast, -, hms⟩ := State.shotFired_shows hn s tf y
  have htaken : s.shotTaken n tf y = ((s.shotFired n tf y).probeStamped n tf).scheduleD n := by
    unfold State.shotTaken
    rw [hkind]
  obtain ⟨hcount', hlast', hdue, hms'⟩ := State.probeOver_shows hn (s.shotFired n tf y) tf
  have hdev := s.shotTaken_dev n tf y
  refine ⟨s.shotTaken n tf y, htf ▸ execFire_taken hnext hready hadm (htf.symm ▸ hpat) hinh, ?_⟩
  dsimp only
  rw [htaken] at hdev ⊢
  rw [hcount', hlast', hms']
  exact ⟨hcount, hlast, hdue, hms, hdev⟩

/-! ## A planned shot that is not ready -/

theorem State.raiseIf_shotLate {n : Nat} (hn : n < 8) {F : Fld} (hF : F ∈ [Fld.EMIT_SHOTS_COUNT n, Fld.EMIT_DLFSR_LFSR n]) (s : State) (p : Bool) :
    (s.raiseIf p Cause.EMIT_SHOT_LATE).f F = s.f F := by
  obtain ⟨-, -, -, -, hF'⟩ := Fld.shotCount_apart n hn
  obtain ⟨-, -, hfld, hcnt⟩ := hF' F hF
  cases p
  · rfl
  · exact State.f_raise_apart _ _ _ (by decide) (by decide) hfld hcnt

/-- A planned shot that is not ready is given up: it advances the dither register all the same. -/
theorem execFire_unready {n x i : Nat} {y : NextShot} {s : State} (hnext : (s.str n).next = some y) (hkind : y.kind = .planned i) (hready : y.ready ≠ some true) :
    ∃ late sc, exec (.fire n x) s = .next (((s.raiseIf late Cause.EMIT_SHOT_LATE).withScan sc).plannedOver n y) := by
  have hexec : ∃ late c : Bool, exec (.fire n x) s = .next ((if c then (s.raiseIf late Cause.EMIT_SHOT_LATE).reduceEntry i 6 else s.raiseIf late Cause.EMIT_SHOT_LATE).plannedOver n y) := by
    refine ⟨!s.patternReady n y.pat y.t && !s.fireInhibited n, y.ready != some false && y.admitted != some false, ?_⟩
    change execFire n x s = _
    unfold execFire
    rw [hnext]
    dsimp only
    simp [hkind, hready]
  obtain ⟨late, c, hexec⟩ := hexec
  cases c
  · exact ⟨late, (s.raiseIf late Cause.EMIT_SHOT_LATE).scan, hexec⟩
  · obtain ⟨sc, hsc⟩ := (s.raiseIf late Cause.EMIT_SHOT_LATE).reduceEntry_form i 6
    exact ⟨late, sc, hexec.trans (by rw [if_pos rfl, hsc])⟩

theorem fire_unready (n x i : Nat) (y : NextShot) (s : State) (hn : n < 8) (hnext : (s.str n).next = some y) (hkind : y.kind = .planned i) (hready : y.ready ≠ some true) :
    Answers (.fire n x) s (fun t => t.f (Fld.EMIT_SHOTS_COUNT n) = s.f (Fld.EMIT_SHOTS_COUNT n) ∧ (t.str n).lastFire = (s.str n).lastFire ∧ t.kiln = s.kiln ∧
      t.f (Fld.EMIT_DLFSR_LFSR n) = (lfsr16 (BitVec.ofNat 16 (s.f (Fld.EMIT_DLFSR_LFSR n)))).toNat) := by
  obtain ⟨late, sc, hexec⟩ := execFire_unready (x := x) hnext hkind hready
  obtain ⟨hcount, hlast, -, hkiln, hdither⟩ := State.plannedOver_shows hn ((s.raiseIf late Cause.EMIT_SHOT_LATE).withScan sc) y
  have hf (F : Fld) (hF : F ∈ [Fld.EMIT_SHOTS_COUNT n, Fld.EMIT_DLFSR_LFSR n]) : ((s.raiseIf late Cause.EMIT_SHOT_LATE).withScan sc).f F = s.f F :=
    State.raiseIf_shotLate hn hF s late
  have hstr : ((s.raiseIf late Cause.EMIT_SHOT_LATE).withScan sc).str n = s.str n := State.str_congr (by simp) n
  refine ⟨_, hexec, ?_⟩
  dsimp only
  rw [hcount, hlast, hkiln, hdither, hf _ (by simp), hf _ (by simp), hstr]
  exact ⟨rfl, rfl, by simp, rfl⟩

/-! # The emission limiter (R121, R123) -/

/-- What the limiter decides on string `n`'s next shot `y`. -/
def State.admits (s : State) (n : Nat) (y : NextShot) : Bool :=
  s.limiterAdmits (s.shotCells n y.pat (s.predict y.t)) (s.emission (s.wEye n y.pat) (max (s.f (Fld.EMIT_DAC_CODE n)) (y.vpre.getD (s.f (Fld.EMIT_VBANK_VBANK n)))))

/-- The limiter's decision is marked on the shot. -/
def State.limitMarked (s : State) (n : Nat) (ok : Bool) : State := s.modNext n (fun y => { y with admitted := some ok })

theorem State.limitMarked_next {s : State} {n : Nat} {y : NextShot} (hnext : (s.str n).next = some y) (ok : Bool) :
    ((s.limitMarked n ok).str n).next = some { y with admitted := some ok } := by
  unfold State.limitMarked
  rw [State.modNext_str, hnext]
  rfl

/-- String `n`'s next shot is refused: REFUSED is raised and the refusal counted (R123). -/
def State.shotRefused (s : State) (n : Nat) : State := ((s.limitMarked n false).raise Cause.KILN_EYEFLAG_REFUSED).incSat Fld.KILN_EYEFLAG_REFCNT 1

theorem State.shotRefused_shows {s : State} {n : Nat} {y : NextShot} (hnext : (s.str n).next = some y) :
    let t := s.shotRefused n
    (t.str n).next = some { y with admitted := some false } ∧ t.causeSet Cause.KILN_EYEFLAG_REFUSED = true ∧
      t.f Fld.KILN_EYEFLAG_REFCNT = min (2 ^ Fld.KILN_EYEFLAG_REFCNT.w - 1) (s.f Fld.KILN_EYEFLAG_REFCNT + 1) := by
  have hstrs : (s.shotRefused n).strs = (s.limitMarked n false).strs := by simp [State.shotRefused]
  refine ⟨?_, ?_, ?_⟩
  · rw [State.str_congr hstrs]
    exact State.limitMarked_next hnext false
  · exact (State.b_incSat_apart _ _ _ _ (by decide) (by decide)).trans (State.b_raise_self _ Cause.KILN_EYEFLAG_REFUSED (by decide))
  · refine (State.f_incSat_self _ _ _ (by decide)).trans ?_
    rw [State.f_raise_apart _ _ _ (by decide) (by decide) (by decide) (by decide)]
    rfl

theorem execEmissionLimitDecide_admits {n : Nat} {y : NextShot} {s : State} (hnext : (s.str n).next = some y) (h : s.admits n y = true) :
    exec (.emissionLimitDecide n false) s = .next (s.limitMarked n true) := by
  change execEmissionLimitDecide n false s = _
  unfold execEmissionLimitDecide
  simp only [Bool.false_eq_true, if_false, hnext]
  rw [← State.admits, h]
  rfl

/-- The column that runs is limited by the refusal of a shot of its entry `i` (R123). -/
def State.columnLimited (s : State) (i : Nat) : State :=
  s.withScan { s.scan with cur := s.scan.cur.map (fun g => { g with
    limited := true, entries := g.entries.map (fun e => if e.idx = i then { e with refused := true } else e) }) }

theorem State.columnLimited_limited (s : State) (i : Nat) : (s.columnLimited i).scan.cur.map (·.limited) = s.scan.cur.map (fun _ => true) := by
  change (s.scan.cur.map _).map _ = _
  rw [Option.map_map]
  rfl

theorem State.columnLimited_leaves (s : State) (i : Nat) : (s.columnLimited i).strs = s.strs ∧ (s.columnLimited i).regs = s.regs := ⟨rfl, rfl⟩

/-- A refused planned shot limits its column, any other is a probe that is deferred. -/
theorem execEmissionLimitDecide_refuses {n : Nat} {y : NextShot} {s : State} (hnext : (s.str n).next = some y) (h : s.admits n y = false) :
    (∀ i, y.kind = .planned i → exec (.emissionLimitDecide n false) s = .next ((s.shotRefused n).columnLimited i)) ∧
      (y.kind = .probe → exec (.emissionLimitDecide n false) s = .next ((s.shotRefused n).raise Cause.KILN_EYEFLAG_PROBE_DEFER)) := by
  have hexec : exec (.emissionLimitDecide n false) s = execEmissionLimitDecide n false s := rfl
  rw [hexec]
  unfold execEmissionLimitDecide
  simp only [Bool.false_eq_true, if_false, hnext]
  rw [← State.admits, h]
  refine ⟨fun i hkind => ?_, fun hkind => ?_⟩ <;> rw [hkind] <;> rfl

theorem emissionLimitDecide_admits (n : Nat) (y : NextShot) (s : State) (hnext : (s.str n).next = some y) (h : s.admits n y = true) :
    Answers (.emissionLimitDecide n false) s (fun t => (t.str n).next = some { y with admitted := some true } ∧ { t with strs := s.strs } = s) :=
  ⟨_, execEmissionLimitDecide_admits hnext h, State.limitMarked_next hnext true, rfl⟩

theorem emissionLimitDecide_defers (n : Nat) (y : NextShot) (s : State) (hnext : (s.str n).next = some y) (hkind : y.kind = .probe) (h : s.admits n y = false) :
    Answers (.emissionLimitDecide n false) s (fun t => (t.str n).next = some { y with admitted := some false } ∧ t.causeSet Cause.KILN_EYEFLAG_REFUSED = true ∧
      t.causeSet Cause.KILN_EYEFLAG_PROBE_DEFER = true ∧ t.f Fld.KILN_EYEFLAG_REFCNT = min (2 ^ Fld.KILN_EYEFLAG_REFCNT.w - 1) (s.f Fld.KILN_EYEFLAG_REFCNT + 1) ∧
      { t with regs := s.regs, strs := s.strs } = s) := by
  obtain ⟨hmarked, hrefused, hcount⟩ := State.shotRefused_shows hnext
  obtain ⟨-, hexec⟩ := execEmissionLimitDecide_refuses hnext h
  refine ⟨_, hexec hkind, ?_, ?_, ?_, ?_, ?_⟩
  · rw [State.str_congr (State.raise_strs _ _)]
    exact hmarked
  · exact (State.b_raise_apart _ _ Cause.KILN_EYEFLAG_PROBE_DEFER (by decide) (by decide) (by decide) (by decide)).trans hrefused
  · exact State.b_raise_self _ Cause.KILN_EYEFLAG_PROBE_DEFER (by decide)
  · exact (State.f_raise_apart _ _ Cause.KILN_EYEFLAG_PROBE_DEFER (by decide) (by decide) (by decide) (by decide)).trans hcount
  · simp [State.shotRefused, State.limitMarked, State.modNext]

theorem emissionLimitDecide_limits (n i : Nat) (y : NextShot) (s : State) (hnext : (s.str n).next = some y) (hkind : y.kind = .planned i) (h : s.admits n y = false) :
    Answers (.emissionLimitDecide n false) s (fun t => (t.str n).next = some { y with admitted := some false } ∧ t.causeSet Cause.KILN_EYEFLAG_REFUSED = true ∧
      t.scan.cur.map (·.limited) = s.scan.cur.map (fun _ => true) ∧
      t.f Fld.KILN_EYEFLAG_REFCNT = min (2 ^ Fld.KILN_EYEFLAG_REFCNT.w - 1) (s.f Fld.KILN_EYEFLAG_REFCNT + 1)) := by
  obtain ⟨hmarked, hrefused, hcount⟩ := State.shotRefused_shows hnext
  obtain ⟨hexec, -⟩ := execEmissionLimitDecide_refuses hnext h
  have hscan : (s.shotRefused n).scan = s.scan := by simp [State.shotRefused, State.limitMarked, State.modNext]
  obtain ⟨hstrs, hregs⟩ := (s.shotRefused n).columnLimited_leaves i
  refine ⟨_, hexec i hkind, ?_, ?_, ?_, ?_⟩
  · rw [State.str_congr hstrs, hmarked]
  · exact (congrArg (· != 0) (State.f_congr hregs _)).trans hrefused
  · rw [State.columnLimited_limited, hscan]
  · rw [State.f_congr hregs, hcount]

/-- A string without a shot neither fires nor asks the limiter. -/
theorem noShot_idle (n x : Nat) (s : State) (hnext : (s.str n).next = none) :
    Answers (.fire n x) s (fun t => t = s) ∧ Answers (.emissionLimitDecide n false) s (fun t => t = s) := by
  refine ⟨⟨s, ?_, rfl⟩, ⟨s, ?_, rfl⟩⟩
  · change execFire n x s = _
    unfold execFire
    rw [hnext]
  · change execEmissionLimitDecide n false s = _
    unfold execEmissionLimitDecide
    simp only [Bool.false_eq_true, if_false, hnext]

/-- Settles O26: a shot of each kind fires by `execFire_taken` or is given up, and the limiter marks its decision, with the consequences of a refusal by kind. -/
theorem fireAndLimiter : Obligations.FireAndLimiter := by
  unfold Obligations.FireAndLimiter
  exact ⟨noShot_idle, fire_isolation, emissionLimitDecide_admits, emissionLimitDecide_defers, fire_planned, fire_probe, fire_unready, emissionLimitDecide_limits⟩

end Sys2Proof.Machine
end

section
namespace Sys2Proof.Machine

/-! # The clocks of Kiln's models and of the eye-safety ledger (R118, R122, R124) -/

theorem State.decayString_kiln (s : State) (dt n : Nat) : (s.decayString dt n).kiln = s.kiln := by
  simp only [State.decayString, State.updateTj, State.setF_kiln, State.setFs_kiln, State.rset_kiln]

/-- A decay of the models writes their registers: ledger and clocks stay. -/
theorem State.decaySteps_kiln (s : State) (d k rest : Nat) : (State.decaySteps d k rest s).kiln = s.kiln := by
  have hstep (p : State) (dt : Nat) : (p.decayStep dt).kiln = p.kiln := foldl_keeps State.kiln (fun p n _ => p.decayString_kiln dt n) p
  unfold State.decaySteps
  rw [hstep, foldl_keeps State.kiln (fun p _ _ => hstep p d)]

theorem State.decayTo_kiln (s : State) (t : Nat) : (s.decayTo t).kiln = { s.kiln with tModel := max t s.kiln.tModel } := by
  unfold State.decayTo
  rw [State.withKiln_kiln, State.decaySteps_kiln]

theorem kilnDecayStep_moves (s : State) :
    Answers .kilnDecayStep s (fun t => t.kiln.tModel = s.kiln.tModel + 1000000 ∧ t.kiln.ledger = s.kiln.ledger ∧ t.dev = s.dev) := by
  refine ⟨s.decayTo (s.kiln.tModel + 1000000), rfl, ?_, ?_, State.decayTo_dev _ _⟩
  · rw [State.decayTo_kiln]
    exact Nat.max_eq_left (Nat.le_add_right _ _)
  · rw [State.decayTo_kiln]

theorem eyeSubwindow_due (s : State) (h : s.kiln.subMs + s.subLen ≤ s.ms) :
    Answers .eyeSubwindow s (fun t => t.kiln.sub = (s.kiln.sub + 1) % 9 ∧ t.kiln.ledger = s.kiln.ledger.filter (fun p => p.1 % 16 != (s.kiln.sub + 1) % 9) ∧
      { t with kiln := s.kiln } = s) :=
  ⟨_, if_neg (Nat.not_lt.2 h), rfl, rfl, rfl⟩

theorem eyeInitEnd_due (s : State) (h : s.kiln.initMs + 9 * s.subLen ≤ s.ms) :
    Answers .eyeInitEnd s (fun t => t.b Fld.KILN_EYEFLAG_INIT = false ∧ State.regsBut [Reg.KILN_EYEFLAG] s t ∧ { t with regs := s.regs } = s) :=
  ⟨s.setB Fld.KILN_EYEFLAG_INIT false, congrArg Host.Outcome.next (if_neg (Nat.not_lt.2 h)), State.b_setB_self _ _ _ (by decide) rfl,
    State.regsBut_setB _ _ (State.regsBut_refl _ s) (by decide), rfl⟩

/-- Settles O27: the models' time by `State.decayTo_kiln`, the sub-window and the refusal period by whether their ms are over. -/
theorem kilnTime : Obligations.KilnTime := by
  unfold Obligations.KilnTime
  refine ⟨kilnDecayStep_moves, eyeSubwindow_due, eyeInitEnd_due, ?_, ?_⟩
  · exact fun s h => ⟨s, if_pos h, rfl⟩
  · exact fun s h => ⟨s, congrArg Host.Outcome.next (if_pos h), rfl⟩

end Sys2Proof.Machine
end

section
namespace Sys2Proof.Machine

/-! # What the mirror shows (R101, R103)

The angle that a sample sets, and the stroke in progress: the work on columns (grants, triggers, skipped targets) leaves both alone. -/

/-- The register SCAN_ANGLE, the last samples, and the active stroke or the flyback in progress with its beginning. -/
structure MirrorView where
  angle : Word
  samples : List Sample
  active : Bool
  t0 : Nat
  fbT : Nat

/-- The mirror's part of a state. -/
def State.mirror (s : State) : MirrorView :=
  { angle := s.rget Reg.SCAN_ANGLE, samples := s.scan.samples, active := s.scan.active, t0 := s.scan.t0, fbT := s.scan.fbT }

/-- A cause whose flag and counter stand in other registers than SCAN_ANGLE. -/
def Cause.offAngle (c : Cause) : Bool := decide (c.fld.addr ≠ Reg.SCAN_ANGLE) && decide (c.cnt.addr ≠ Reg.SCAN_ANGLE)

/-! ## Single updates -/

@[simp] theorem State.rset_mirror {a : Nat} (h : a ≠ Reg.SCAN_ANGLE) (s : State) (v : Word) : (s.rset a v).mirror = s.mirror := by
  simp only [State.mirror, State.rget_rset_ne _ _ _ _ h.symm, State.rset_scan]
@[simp] theorem State.setF_mirror {F : Fld} (h : F.addr ≠ Reg.SCAN_ANGLE) (s : State) (x : Nat) : (s.setF F x).mirror = s.mirror := State.rset_mirror h s _
@[simp] theorem State.setB_mirror {F : Fld} (h : F.addr ≠ Reg.SCAN_ANGLE) (s : State) (p : Bool) : (s.setB F p).mirror = s.mirror := State.rset_mirror h s _
@[simp] theorem State.setFs_mirror {F : Fld} (h : F.addr ≠ Reg.SCAN_ANGLE) (s : State) (x : Int) : (s.setFs F x).mirror = s.mirror := State.rset_mirror h s _
@[simp] theorem State.incSat_mirror {F : Fld} (h : F.addr ≠ Reg.SCAN_ANGLE) (s : State) (n : Nat) : (s.incSat F n).mirror = s.mirror := State.rset_mirror h s _
@[simp] theorem State.incMod_mirror {F : Fld} (h : F.addr ≠ Reg.SCAN_ANGLE) (s : State) (n : Nat) : (s.incMod F n).mirror = s.mirror := State.rset_mirror h s _
@[simp] theorem State.raise_mirror {c : Cause} (h : c.offAngle = true) (s : State) : (s.raise c).mirror = s.mirror := by
  simp only [Cause.offAngle, Bool.and_eq_true, decide_eq_true_eq] at h
  rw [State.raise_eq, State.setF_mirror h.1, State.incSat_mirror h.2]
@[simp] theorem State.raiseIf_mirror {c : Cause} (h : c.offAngle = true) (s : State) (p : Bool) : (s.raiseIf p c).mirror = s.mirror := by
  cases p
  · rfl
  · exact State.raise_mirror h s

@[simp] theorem State.withCtl_mirror (s : State) (x : CtlSt) : (s.withCtl x).mirror = s.mirror := (rfl)
@[simp] theorem State.withKiln_mirror (s : State) (x : KilnSt) : (s.withKiln x).mirror = s.mirror := (rfl)
@[simp] theorem State.withChans_mirror (s : State) (x : SMap ChanSt) : (s.withChans x).mirror = s.mirror := (rfl)
@[simp] theorem State.withClus_mirror (s : State) (x : SMap CluSt) : (s.withClus x).mirror = s.mirror := (rfl)
@[simp] theorem State.withMash_mirror (s : State) (x : MashSt) : (s.withMash x).mirror = s.mirror := (rfl)
@[simp] theorem State.withWort_mirror (s : State) (x : WortSt) : (s.withWort x).mirror = s.mirror := (rfl)
@[simp] theorem State.withGuard_mirror (s : State) (x : GuardSt) : (s.withGuard x).mirror = s.mirror := (rfl)
@[simp] theorem State.setGsweep_mirror (s : State) (n : Nat) (x : GSweep) : (s.setGsweep n x).mirror = s.mirror := (rfl)
@[simp] theorem State.setStr_mirror (s : State) (n : Nat) (x : StrSt) : (s.setStr n x).mirror = s.mirror := (rfl)
@[simp] theorem State.setChan_mirror (s : State) (c : Nat) (x : ChanSt) : (s.setChan c x).mirror = s.mirror := (rfl)
@[simp] theorem State.setCluster_mirror (s : State) (k : Nat) (x : CluSt) : (s.setCluster k x).mirror = s.mirror := (rfl)
@[simp] theorem State.modCore_mirror (s : State) (c : Nat) (g : CoreSt → CoreSt) : (s.modCore c g).mirror = s.mirror := (rfl)
@[simp] theorem State.modStream_mirror (s : State) (st : Nat) (g : StreamSt → StreamSt) : (s.modStream st g).mirror = s.mirror := (rfl)
@[simp] theorem State.setDgOpen_mirror (s : State) (k : Nat) (d : Option (List OutRec × Nat)) : (s.setDgOpen k d).mirror = s.mirror := (rfl)
@[simp] theorem State.line_mirror (s : State) (c i : Nat) : (s.line c i).mirror = s.mirror := (rfl)
@[simp] theorem State.msetW_mirror (s : State) (a : Nat) (v : Word) : (s.msetW a v).mirror = s.mirror := (rfl)
@[simp] theorem State.fresh_mirror (s : State) : s.fresh.2.mirror = s.mirror := (rfl)
@[simp] theorem State.latchColumn_mirror (s : State) : s.latchColumn.mirror = s.mirror := (rfl)
@[simp] theorem State.emxRelatch_mirror (s : State) : s.emxRelatch.mirror = s.mirror := (rfl)
@[simp] theorem State.dropNext_mirror (s : State) : s.dropNext.mirror = s.mirror := (rfl)

@[simp] theorem State.logEvent_mirror (s : State) (c : Nat) (x y : Word) : (s.logEvent c x y).mirror = s.mirror := by
  unfold State.logEvent
  split
  · obtain ⟨n, e⟩ := State.nvmKick_form _
    rw [e]; rfl
  · exact State.incSat_mirror (by decide) _ _

/-! ## The strings' next shots and demands -/

/-- A string's demand stands beside SCAN_ANGLE's block. -/
theorem Fld.demand_offAngle : ∀ n < 8, (Fld.EMIT_DAC_DEMAND n).addr ≠ Reg.SCAN_ANGLE := by decide

/-- The set-points of a charge group and the models of a string stand in blocks above SCAN_ANGLE. -/
theorem Reg.string_offAngle (n j : Nat) : (Fld.CTL_CSP_SP n j).addr ≠ Reg.SCAN_ANGLE ∧ (Fld.KILN_TJ_TJ n).addr ≠ Reg.SCAN_ANGLE ∧
    Reg.KILN_DT n ≠ Reg.SCAN_ANGLE ∧ Reg.KILN_BKT n ≠ Reg.SCAN_ANGLE := by
  simp only [Fld.CTL_CSP_SP, Fld.KILN_TJ_TJ, Reg.KILN_DT, Reg.KILN_BKT, Reg.SCAN_ANGLE]
  omega

@[simp] theorem State.reduceEntry_mirror (s : State) (i c : Nat) : (s.reduceEntry i c).mirror = s.mirror := by
  unfold State.reduceEntry
  split <;> rfl
@[simp] theorem State.dropPlanned_mirror (s : State) (c : Nat) : (s.dropPlanned c).mirror = s.mirror :=
  foldl_keeps State.mirror (fun p _ _ => (State.setStr_mirror _ _ _).trans (foldl_keeps State.mirror (fun p _ _ => p.reduceEntry_mirror _ _) p)) s
@[simp] theorem State.dropDark_mirror (s : State) (n : Nat) : (s.dropDark n).mirror = s.mirror :=
  foldl_keeps State.mirror (fun p _ _ => p.reduceEntry_mirror _ _) s
theorem State.comingDemand_mirror {n : Nat} (hn : n < 8) (s : State) : (s.comingDemand n).mirror = s.mirror := by
  unfold State.comingDemand
  split
  · exact State.setF_mirror (Fld.demand_offAngle n hn) _ _
  · rfl
@[simp] theorem State.demandTarget_mirror (s : State) (n : Nat) : (s.demandTarget n).mirror = s.mirror :=
  State.setF_mirror (Reg.string_offAngle n 0).1 _ _
theorem State.noShot_mirror {n : Nat} (hn : n < 8) (s : State) : (s.noShot n).mirror = s.mirror :=
  State.comingDemand_mirror hn _
theorem State.schedule_mirror {n : Nat} (hn : n < 8) (s : State) : (s.schedule n).mirror = s.mirror := by
  have hd : (Fld.EMIT_DAC_DEMAND n).addr ≠ Reg.SCAN_ANGLE := Fld.demand_offAngle n hn
  unfold State.schedule
  split
  · simp
  · split
    · simp [hd]
    · dsimp only
      split
      · split
        · simp [hd]
        · rw [State.noShot_mirror hn, State.setStr_mirror, foldl_keeps State.mirror (fun p _ _ => p.reduceEntry_mirror _ _), State.dropDark_mirror]
      · split
        · simp [hd]
        · rw [State.noShot_mirror hn, State.dropDark_mirror]
theorem State.scheduleD_mirror {n : Nat} (hn : n < 8) (s : State) : (s.scheduleD n).mirror = s.mirror := by
  unfold State.scheduleD
  rw [State.emxRelatch_mirror, State.demandTarget_mirror, State.schedule_mirror hn]
@[simp] theorem State.takeSlot_mirror (s : State) (n : Nat) : (s.takeSlot n).mirror = s.mirror := by
  unfold State.takeSlot
  dsimp only
  split <;> simp
theorem State.beginString_mirror {n : Nat} (hn : n < 8) (s : State) (q : List PShot) : (s.beginString n q).mirror = s.mirror := by
  unfold State.beginString State.isoPlace
  dsimp only
  split <;> simp [State.scheduleD_mirror hn]

/-! ## Grants -/

@[simp] theorem State.decayTo_mirror (s : State) (t : Nat) : (s.decayTo t).mirror = s.mirror := by
  have hstring (p : State) (dt n : Nat) : (p.decayString dt n).mirror = p.mirror := by
    obtain ⟨hsp, htj, hdt, hbkt⟩ := Reg.string_offAngle n 2
    unfold State.decayString State.updateTj
    rw [State.setF_mirror hsp, State.setFs_mirror htj, State.rset_mirror hbkt, State.rset_mirror hdt]
  have hstep (p : State) (dt : Nat) : (p.decayStep dt).mirror = p.mirror := foldl_keeps State.mirror (fun p n _ => hstring p dt n) p
  unfold State.decayTo State.decaySteps
  rw [State.withKiln_mirror, hstep, foldl_keeps State.mirror (fun p _ _ => hstep p _)]
@[simp] theorem State.tPred_mirror (s : State) (t : Nat) (rest : List (Nat × Bool)) : (s.tPred t rest).2.mirror = s.mirror := by
  unfold State.tPred
  split
  · rfl
  · split
    · split <;> simp
    · split
      · rfl
      · split <;> rfl
@[simp] theorem State.grantFor_mirror (s : State) (az : Nat) (rest : List (Nat × Bool)) (t now : Nat) (bad : List Nat) :
    (s.grantFor az rest t now bad).mirror = s.mirror := by
  have hscan (p : State) (g : Grant) : (p.withScan { p.scan with next := some g }).mirror = p.mirror := rfl
  have hue (p : State) (i : Nat) : (p.planUe i).mirror = p.mirror := by
    unfold State.planUe
    rw [State.logEvent_mirror, State.raise_mirror (by decide)]
  unfold State.grantFor
  dsimp only
  rw [foldl_keeps State.mirror (fun p n hn => ?_), hscan, State.tPred_mirror, foldl_keeps State.mirror (fun p i _ => hue p i),
    State.raiseIf_mirror (by decide), State.withKiln_mirror, State.decayTo_mirror]
  split
  · rw [State.demandTarget_mirror, State.comingDemand_mirror (List.mem_range.1 hn)]
  · rfl
@[simp] theorem State.eyeTargets_mirror (s : State) (g : Grant) (az : Option Nat) : (s.eyeTargets g az).mirror = s.mirror := by
  unfold State.eyeTargets
  refine foldl_keeps State.mirror (fun p n _ => ?_) s
  dsimp only
  split
  · rfl
  · exact State.setF_mirror (Reg.string_offAngle n 1).1 _ _
@[simp] theorem State.grantAt_mirror (s : State) (az : Nat) (rest : List (Nat × Bool)) (t now : Nat) (bad : List Nat) :
    (s.grantAt az rest t now bad).mirror = s.mirror := by
  unfold State.grantAt
  dsimp only
  split <;> simp
@[simp] theorem State.grantDue_mirror (s : State) (now : Nat) (bad : List Nat) : (s.grantDue now bad).mirror = s.mirror := by
  unfold State.grantDue
  split
  · rfl
  · split
    · simp only [apply_ite State.mirror, State.grantFor_mirror, ite_self]
    · split
      · rfl
      · split
        · simp only [apply_ite State.mirror, State.grantFor_mirror, ite_self]
        · rfl
@[simp] theorem State.grantNow_mirror (s : State) (now : Nat) (bad : List Nat) : (s.grantNow now bad).mirror = s.mirror := by
  unfold State.grantNow
  dsimp only
  split <;> simp

/-! ## The Guard's part -/

@[simp] theorem State.confirm_mirror (s : State) : s.confirm.mirror = s.mirror := by
  unfold State.confirm State.soutOff
  dsimp only
  split <;> simp (disch := decide)
@[simp] theorem State.guardInhibit_mirror (s : State) : s.guardInhibit.mirror = s.mirror := by
  unfold State.guardInhibit
  split <;> simp
@[simp] theorem State.intrude_mirror (s : State) (n f : Nat) : (s.intrude n f).mirror = s.mirror := by
  simp (disch := decide) only [State.intrude, apply_ite State.mirror, State.confirm_mirror, State.withGuard_mirror, State.setGsweep_mirror,
    State.raise_mirror, ite_self]
@[simp] theorem State.guardSkip_mirror (s : State) (az : Nat) : (s.guardSkip az).mirror = s.mirror := by
  unfold State.guardSkip
  split <;> simp
@[simp] theorem State.guardTrigger_mirror (s : State) (az : Nat) : (s.guardTrigger az).mirror = s.mirror := by
  unfold State.guardTrigger
  split <;> simp
@[simp] theorem State.guardColumn_mirror (s : State) (m az n : Nat) (inh : Bool) : (s.guardColumn m az n inh).mirror = s.mirror := by
  unfold State.guardColumn
  split
  · rfl
  · simp (disch := decide)

/-! ## Tap, streams and Lauter -/

@[simp] theorem State.tapFlush_mirror (s : State) (m : Nat) : (s.tapFlush m).mirror = s.mirror := by
  have hwrite (p : State) (c : Nat) (hc : (Fld.DSP_TAPWR_OFS c).addr ≠ Reg.SCAN_ANGLE) : (p.tapWrite c).mirror = p.mirror := by
    have hword (p : State) (w : Word) : (p.tapWord c w).mirror = p.mirror := (State.setF_mirror hc _ _).trans (State.msetW_mirror _ _ _)
    unfold State.tapWrite
    split
    · rfl
    · exact foldl_keeps State.mirror (fun p w _ => hword p w) p
  have hoff : ∀ c ∈ [0, 1], (Fld.DSP_TAPWR_OFS c).addr ≠ Reg.SCAN_ANGLE := by decide
  unfold State.tapFlush
  refine foldl_keeps State.mirror (fun p c hc => ?_) s
  split
  · rfl
  · split
    · exact hwrite p c (hoff c hc)
    · rfl
theorem State.tapReserve_mirror {c : Nat} (hcount : (Fld.DSP_TAPDROP_COUNT c).addr ≠ Reg.SCAN_ANGLE) (hdrop : (Cause.DSP_TAPDROP c).offAngle = true) (s : State)
    (i : ColInfo) : (s.tapReserve c i).mirror = s.mirror := by
  simp only [State.tapReserve, apply_ite State.mirror, State.line_mirror, State.raise_mirror hdrop, State.incSat_mirror hcount, State.modCore_mirror,
    State.fresh_mirror, ite_self]

@[simp] theorem State.omitFrame_mirror (s : State) (st frame cause : Nat) : (s.omitFrame st frame cause).mirror = s.mirror := by
  simp (disch := decide) only [State.omitFrame, apply_ite State.mirror, State.incSat_mirror, State.modStream_mirror, ite_self]
@[simp] theorem State.wortSkip_mirror (s : State) : s.wortSkip.mirror = s.mirror := by
  simp only [State.wortSkip, State.omitFrame_mirror, apply_ite State.mirror, State.withWort_mirror, ite_self]
@[simp] theorem State.closeDgram_mirror (s : State) (k : Nat) : (s.closeDgram k).mirror = s.mirror := by
  unfold State.closeDgram
  split <;> rfl
@[simp] theorem State.writeRec_mirror (s : State) (st : Nat) (r : OutRec) : (s.writeRec st r).mirror = s.mirror := by
  have hadd (p : State) (k : Nat) : (p.dgramAdd k r).mirror = p.mirror := by
    simp only [State.dgramAdd, State.setDgOpen_mirror, apply_ite State.mirror, State.closeDgram_mirror, ite_self]
  unfold State.writeRec
  dsimp only
  split <;> simp (disch := decide) [hadd]
@[simp] theorem State.startHead_mirror (s : State) (st : Nat) : (s.startHead st).mirror = s.mirror := by
  unfold State.startHead
  split
  · rfl
  · split
    · rfl
    · dsimp only
      rw [foldl_keeps State.mirror (fun p x _ => p.writeRec_mirror st x), State.modStream_mirror, State.raiseIf_mirror (by decide)]
@[simp] theorem State.settle_mirror (s : State) (st k : Nat) : (s.settle st k).mirror = s.mirror := by
  have hfinish (p : State) : (p.finishHead st).mirror = p.mirror := by
    simp only [State.finishHead, State.startHead_mirror, apply_ite State.mirror, State.closeDgram_mirror, State.modStream_mirror, ite_self]
  induction k generalizing s with
  | zero => rfl
  | succ k ih =>
    unfold State.settle
    split
    · rfl
    · simp only [apply_ite State.mirror, ih, hfinish, State.modStream_mirror, ite_self]
@[simp] theorem State.emitAll_mirror (s : State) (st k : Nat) : (s.emitAll st k).mirror = s.mirror := by
  have hecho (p : State) : (p.emitEcho st).mirror = p.mirror := by
    unfold State.emitEcho
    dsimp only
    split
    · simp
    · split
      · simp
      · split <;> simp
  induction k generalizing s with
  | zero => rfl
  | succ k ih => rw [State.emitAll, ih, hecho]
@[simp] theorem State.admitCol_mirror (s : State) (st : Nat) (c : ColInfo) : (s.admitCol st c).mirror = s.mirror := by
  have hovf : (if st = 0 then Cause.WORT_OVF else Cause.WORT_ETH_OVF).offAngle = true := by split <;> decide
  have hdec : Cause.WORT_DEC.offAngle = true := by decide
  have hold : Cause.WORT_ANCH_OLD.offAngle = true := by decide
  have hframe : Fld.WORT_FRAME_FRAME.addr ≠ Reg.SCAN_ANGLE := by decide
  simp only [State.admitCol, apply_ite State.mirror, State.modStream_mirror, State.omitFrame_mirror, State.raise_mirror hovf, State.raiseIf_mirror hdec,
    State.raiseIf_mirror hold, State.setF_mirror hframe, State.startHead_mirror, State.settle_mirror, ite_self]
@[simp] theorem State.dropOldest_mirror (s : State) : s.dropOldest.mirror = s.mirror := by
  have hforget (p : State) (m : Nat) : (p.wortForget m).mirror = p.mirror := by
    unfold State.wortForget State.forgetDone
    rw [State.withWort_mirror, State.emitAll_mirror, State.emitAll_mirror]
  unfold State.dropOldest
  split
  · rfl
  · rw [hforget, State.tapFlush_mirror]
@[simp] theorem State.lauLatch_mirror (s : State) (col : LauCol) (fue : List Nat) : (s.lauLatch col fue).mirror = s.mirror :=
  foldl_keeps State.mirror (fun p _ _ => by rw [State.logEvent_mirror, State.raise_mirror (by decide)]) s

/-! ## The bank swap -/

/-- A channel's map and ambient registers stand above SCAN_ANGLE. -/
theorem Reg.rxCal_offAngle (c : Nat) : 0x62000 + 4 * c ≠ Reg.SCAN_ANGLE ∧ 0x63000 + 4 * c ≠ Reg.SCAN_ANGLE := by
  unfold Reg.SCAN_ANGLE
  omega

@[simp] theorem State.switchMaps_mirror (s : State) (t : Nat) : (s.switchMaps t).mirror = s.mirror := by
  have htdc (c : Nat) : (Fld.RX_TDC_DNL c).addr ≠ Reg.SCAN_ANGLE ∧ (Fld.RX_TDC_VALID c).addr ≠ Reg.SCAN_ANGLE ∧
      (Fld.RX_TDC_MAPGEN c).addr ≠ Reg.SCAN_ANGLE := ⟨(Reg.rxCal_offAngle c).2, (Reg.rxCal_offAngle c).2, (Reg.rxCal_offAngle c).2⟩
  have hactivate (p : State) (c : Nat) (map : List Nat) (dnl : Nat) : (p.activateMap c map dnl).mirror = p.mirror := by
    simp (disch := decide) only [State.activateMap, State.setB_mirror (htdc c).2.1, State.setF_mirror (htdc c).1, State.setChan_mirror, apply_ite State.mirror,
      State.setF_mirror, ite_self]
  unfold State.switchMaps
  refine foldl_keeps State.mirror (fun p c _ => ?_) s
  dsimp only
  split
  · simp only [apply_ite State.mirror, State.setChan_mirror, State.incMod_mirror (htdc c).2.2, hactivate, ite_self]
  · rfl
@[simp] theorem State.markMaps_mirror (s : State) : s.markMaps.mirror = s.mirror := by
  unfold State.markMaps
  refine foldl_keeps State.mirror (fun p c _ => ?_) s
  simp only [apply_ite State.mirror, State.setChan_mirror, ite_self]
@[simp] theorem State.markStale_mirror (s : State) (k : Nat) : (s.markStale k).mirror = s.mirror := by
  have hshow (p : State) (c : Nat) (a : Amb) : (p.showAmb c a).mirror = p.mirror := by
    have h : 0x62000 + 4 * c ≠ Reg.SCAN_ANGLE := (Reg.rxCal_offAngle c).1
    unfold State.showAmb
    rw [State.setB_mirror h, State.setF_mirror h, State.setF_mirror h, State.setF_mirror h]
  unfold State.markStale
  rw [foldl_keeps State.mirror (fun p _ _ => hshow p _ _), State.raise_mirror (by decide)]
@[simp] theorem State.doSwap_mirror (s : State) (t : Nat) : (s.doSwap t).mirror = s.mirror := by
  unfold State.doSwap
  dsimp only
  rw [foldl_keeps State.mirror (fun p k _ => by simp only [apply_ite State.mirror, State.markStale_mirror, ite_self])]
  simp (disch := decide)
/-- The clusters' windows close at the trigger and their parts of the new column begin. -/
@[simp] theorem State.mashTrigger_mirror (s : State) (t : Nat) (g : Grant) : (s.mashTrigger t g).mirror = s.mirror := by
  have hclose (p : State) (k : Nat) : (p.closeExpired k t).mirror = p.mirror := by
    have hgone (p : State) (w : Win) (t : Nat) : (p.windowGone k w t false).mirror = p.mirror := rfl
    exact foldl_keeps State.mirror (fun p w _ => hgone p w _) _
  simp only [State.mashTrigger, apply_ite State.mirror, State.doSwap_mirror, State.withMash_mirror, ite_self]
  refine foldl_keeps State.mirror (fun p k _ => ?_) s
  simp only [State.setCluster_mirror, apply_ite State.mirror, hclose, ite_self]
@[simp] theorem State.columnSwap_mirror (s : State) (t : Nat) (g : Grant) : (s.columnSwap t g).mirror = s.mirror := by
  have hscan (p : State) : (p.withScan { p.scan with closing := none }).mirror = p.mirror := rfl
  have hfinish (p : State) : p.finishClose.mirror = p.mirror := by
    unfold State.finishClose
    split
    · rfl
    · dsimp only
      rw [State.lauLatch_mirror, State.line_mirror, State.line_mirror, State.admitCol_mirror, State.admitCol_mirror,
        State.tapReserve_mirror (by decide) (by decide), State.tapReserve_mirror (by decide) (by decide), State.dropOldest_mirror, hscan]
  simp only [State.columnSwap, apply_ite State.mirror, hfinish, State.mashTrigger_mirror, ite_self]

/-! ## A column ends and the next begins -/

@[simp] theorem State.closeColumn_mirror (s : State) (t : Nat) (ends : Bool) (fue : List Nat) : (s.closeColumn t ends fue).mirror = s.mirror := by
  have hscan (p : State) (c : Closing) : (p.withScan { p.scan with cur := none, closing := some c }).mirror = p.mirror := rfl
  have hacc (p : State) (c : Nat) (g : ChAcc → ChAcc) : (p.modChAcc c false g).mirror = p.mirror := rfl
  have hamb (p : State) : p.closeAmb.mirror = p.mirror := by
    unfold State.closeAmb
    exact foldl_keeps State.mirror (fun p _ _ => foldl_keeps State.mirror (fun p _ _ => hacc p _ _) p) p
  have hlast (p : State) (g : Grant) (st : Nat) : (p.kilnLast g st).mirror = p.mirror := by
    unfold State.kilnLast
    simp (disch := decide)
  have hown (p : State) (first : Bool) (kind : Nat) (data : List Word) : (p.lrsOwn first kind data).mirror = p.mirror := by
    unfold State.lrsOwn
    split <;> rfl
  have hcask (p : State) : p.caskBoundary.mirror = p.mirror := by
    simp (disch := decide) only [State.caskBoundary, apply_ite State.mirror, hown, State.raise_mirror, State.setB_mirror, ite_self]
  unfold State.closeColumn
  split
  · rfl
  · simp only [hscan, apply_ite State.mirror, hcask, State.guardColumn_mirror, hamb, hlast, State.dropPlanned_mirror, ite_self]
@[simp] theorem State.openColumn_mirror (s : State) (t : Nat) (g : Grant) : (s.openColumn t g).mirror = s.mirror := by
  unfold State.openColumn
  dsimp only
  rw [foldl_keeps State.mirror (fun p n hn => State.beginString_mirror (List.mem_range.1 hn) p _), apply_ite State.mirror,
    foldl_keeps State.mirror (fun p _ _ => p.reduceEntry_mirror _ _), ite_self]
  rfl
@[simp] theorem State.fireTrigger_mirror (s : State) (t az : Nat) (rest : List (Nat × Bool)) (bad fue : List Nat) (late : Bool) :
    (s.fireTrigger t az rest bad fue late).mirror = s.mirror := by
  have hscan (p : State) : (p.withScan { p.scan with todo := rest }).mirror = p.mirror := rfl
  unfold State.fireTrigger
  dsimp only
  split
  · simp only [apply_ite State.mirror, State.grantAt_mirror, ite_self]
  · simp (disch := decide) only [State.columnSwap_mirror, State.guardTrigger_mirror, State.openColumn_mirror, hscan, State.latchColumn_mirror,
      State.closeColumn_mirror, apply_ite State.mirror, State.incSat_mirror, State.raise_mirror, State.grantAt_mirror, ite_self]
@[simp] theorem State.skipTarget_mirror (s : State) (x : Nat × Bool) : (s.skipTarget x).mirror = s.mirror := by
  have hscan (p : State) : (p.withScan { p.scan with todo := p.scan.todo.drop 1, next := none }).mirror = p.mirror := rfl
  unfold State.skipTarget State.skipCount
  dsimp only
  rw [hscan, State.guardSkip_mirror, State.wortSkip_mirror, State.incMod_mirror (by decide), State.raise_mirror (by decide)]
@[simp] theorem State.latePass_mirror (s : State) (t : Nat) (xs : List (Nat × Bool)) (bad fue : List Nat) : (s.latePass t xs bad fue).mirror = s.mirror := by
  unfold State.latePass
  split
  · rfl
  · dsimp only
    rw [State.fireTrigger_mirror, foldl_keeps State.mirror (fun p x _ => p.skipTarget_mirror x)]

end Sys2Proof.Machine
end

section
namespace Sys2Proof.Machine

/-! # A mirror sample arrives (R101, R102, R108, R109, R233) -/

/-- A sample of value `v` whose first conversion began at `t` is kept, and SCAN_ANGLE shows its code and whether it is valid. -/
def State.sampled (s : State) (v t : Nat) : State :=
  let code := (s.sampleTheta v / 4096).toNat
  let p := s.withScan { s.scan with samples := { theta := s.sampleTheta v, code := code, t := t } :: s.scan.samples.take 2, hist := code :: s.scan.hist.take 200 }
  (p.setF Fld.SCAN_ANGLE_ANGLE code).setB Fld.SCAN_ANGLE_VALID (!s.ctl.mexcBroken && decide (0x100 ≤ v) && decide (v ≤ 0xFEF0))

theorem State.sampled_shows (s : State) (v t : Nat) :
    (s.sampled v t).f Fld.SCAN_ANGLE_ANGLE = (s.sampleTheta v / 4096).toNat % 2 ^ Fld.SCAN_ANGLE_ANGLE.w ∧
      (s.sampled v t).b Fld.SCAN_ANGLE_VALID = (!s.ctl.mexcBroken && decide (0x100 ≤ v) && decide (v ≤ 0xFEF0)) ∧
      (s.sampled v t).scan.samples.head?.map (·.t) = some t :=
  ⟨(State.f_setB_apart _ _ _ _ (by decide) (by decide)).trans (State.f_setF_self _ _ _ (by decide)), State.b_setB_self _ _ _ (by decide) rfl, rfl⟩

theorem State.lockUpdate_mirror (s : State) (ok : Bool) (t : Nat) : (s.lockUpdate ok t).mirror = s.mirror := by
  have hlocked (p : State) (b : Bool) : (p.setB Fld.SCAN_STAT_LOCKED b).mirror = p.mirror := State.setB_mirror (by decide) p b
  have hunlock (p : State) : (p.raise Cause.SCAN_UNLOCK).mirror = p.mirror := State.raise_mirror (by decide) p
  have hbreak (p : State) (clean : Bool) (n : Nat) : (p.withScan { p.scan with lockClean := clean, lockN := n, lockFrom := 0 }).mirror = p.mirror := rfl
  have hfrom (p : State) : (p.withScan { p.scan with lockFrom := t }).mirror = p.mirror := rfl
  have hmode (p : State) : p.lockModeFollow.mirror = p.mirror := by
    unfold State.lockModeFollow
    split <;> rfl
  simp only [State.lockUpdate, apply_ite State.mirror, hbreak, hfrom, hlocked, hunlock, hmode, ite_self]

theorem State.stallCheck_mirror (s : State) (t : Nat) : (s.stallCheck t).mirror = s.mirror := by
  have hfail (p : State) : (p.withScan { p.scan with strokeFail := true, stallRun := true, stallInh := true }).mirror = p.mirror := rfl
  have hclear (p : State) : (p.withScan { p.scan with stallRun := false }).mirror = p.mirror := rfl
  unfold State.stallCheck
  split
  · split
    · simp (disch := decide) only [apply_ite State.mirror, hfail, hclear, State.incSat_mirror, State.raise_mirror, ite_self]
    · rfl
  · rfl

theorem State.followInhibit_mirror (s : State) : s.followInhibit.mirror = s.mirror := by
  simp (disch := decide) only [State.followInhibit, apply_ite State.mirror, State.guardInhibit_mirror, State.dropNext_mirror, State.dropPlanned_mirror,
    State.setB_mirror, ite_self]

/-- Beside what the sample itself sets, its checks leave the mirror's part alone. -/
theorem State.msnsBase_mirror (s : State) (v t : Nat) : (s.msnsBase v t).mirror = (s.sampled v t).mirror := by
  have hinvalid (p : State) : (p.withScan { p.scan with stallInh := true, strokeFail := true }).mirror = p.mirror := rfl
  have hsetp (p : State) (x : Nat) : (p.setF Fld.SCAN_SETP_SETP x).mirror = p.mirror := State.setF_mirror (by decide) p x
  unfold State.msnsBase
  dsimp only
  rw [State.followInhibit_mirror, apply_ite State.mirror, hinvalid, ite_self, State.stallCheck_mirror, State.lockUpdate_mirror, hsetp]
  rfl

/-- The mirror loop writes its own registers (R223). -/
theorem State.mirrorLoop_mirror (s : State) : s.mirrorLoop.mirror = s.mirror := by
  have hdrive (p : State) (n v : Nat) : (p.drive n v).mirror = p.mirror := by
    unfold State.drive
    split <;> rfl
  have hstick (p : State) (flags : Nat) : (p.stick (Fld.CTL_LSAT_FLAGS 0) flags ⟨10, 8⟩).mirror = p.mirror := by
    simp (disch := decide) only [State.stick, State.countCause, apply_ite State.mirror, State.incSat_mirror, State.setF_mirror, ite_self]
  have hrun (p : State) : (p.loopRun 0).mirror = p.mirror := by
    simp (disch := decide) only [State.loopRun, apply_ite State.mirror, hdrive, State.withCtl_mirror, State.setF_mirror, ite_self]
  have heval (p : State) : (p.loopEval 0).mirror = p.mirror := by
    simp (disch := decide) only [State.loopEval, hstick, hdrive, State.setF_mirror, State.setFs_mirror]
  simp only [State.mirrorLoop, apply_ite State.mirror, hrun, heval, ite_self]

theorem State.adcEnd_form (s : State) (who : Nat) : ∃ a, s.adcEnd who = s.withAdc a := by
  unfold State.adcEnd
  split
  · exact s.adcDone_form _
  · exact ⟨s.adc, rfl⟩

/-- A sample that has been asked for arrives with a reference ready: its angle is shown, whatever column its arrival grants or triggers (R105, R106). -/
theorem execMsnsSample_arrives {convs : List Conv} (x : Nat) (bad fue : List Nat) {s : State} (hslots : s.adcSlotsOf 1 ≠ [])
    (hconvs : (s.adcSlotsOf 1).length ≤ convs.length) (hready : s.b Fld.ADC0_STAT_REFRDY = true) :
    ∃ a t, execMsnsSample convs x bad fue s = .next t ∧
      t.mirror = ((s.withAdc a).sampled (sampleValue (s.adcCodes 9 (s.adcSlotsOf 1) convs)) (4 * (s.adcSlotsOf 1).headD 0)).mirror := by
  obtain ⟨a, ha⟩ := s.adcEnd_form 1
  have hgo : ((s.adcSlotsOf 1).isEmpty || decide (convs.length < (s.adcSlotsOf 1).length)) = false := by
    simp [hslots, hconvs]
  have hbase (v t : Nat) : ((s.withAdc a).msnsBase v t).mirrorLoop.mirror = ((s.withAdc a).sampled v t).mirror :=
    (State.mirrorLoop_mirror _).trans (State.msnsBase_mirror _ v t)
  unfold execMsnsSample
  simp only [hgo, hready, ha, Bool.not_true, Bool.false_eq_true, if_false]
  refine ⟨a, ?_⟩
  split
  · split
    · exact ⟨_, rfl, (State.latePass_mirror _ _ _ _ _).trans (hbase _ _)⟩
    · exact ⟨_, rfl, (State.grantNow_mirror _ _ _).trans (hbase _ _)⟩
  · exact ⟨_, rfl, hbase _ _⟩

/-- What the sample sets shows in SCAN_ANGLE, and its time in the newest sample kept. -/
theorem msnsSample_shows (convs : List Conv) (x : Nat) (bad fue : List Nat) (s : State) (hslots : s.adcSlotsOf 1 ≠ [])
    (hconvs : (s.adcSlotsOf 1).length ≤ convs.length) (hready : s.b Fld.ADC0_STAT_REFRDY = true) :
    Answers (.msnsSample convs x bad fue) s (fun t =>
      t.f Fld.SCAN_ANGLE_ANGLE = (s.sampleTheta (sampleValue (s.adcCodes 9 (s.adcSlotsOf 1) convs)) / 4096).toNat % 2 ^ Fld.SCAN_ANGLE_ANGLE.w ∧
      t.b Fld.SCAN_ANGLE_VALID = (!s.ctl.mexcBroken && decide (0x100 ≤ sampleValue (s.adcCodes 9 (s.adcSlotsOf 1) convs)) &&
        decide (sampleValue (s.adcCodes 9 (s.adcSlotsOf 1) convs) ≤ 0xFEF0)) ∧
      t.scan.samples.head?.map (·.t) = some (4 * (s.adcSlotsOf 1).headD 0) ∧ t.dev = s.dev) := by
  obtain ⟨a, t, hexec, hview⟩ := execMsnsSample_arrives x bad fue hslots hconvs hready
  obtain ⟨hangle, hvalid, hsample⟩ := (s.withAdc a).sampled_shows (sampleValue (s.adcCodes 9 (s.adcSlotsOf 1) convs)) (4 * (s.adcSlotsOf 1).headD 0)
  have hget := congrArg MirrorView.angle hview
  have hdev := execMsnsSample_dev convs x bad fue s
  rw [hexec] at hdev
  refine ⟨t, hexec, (State.f_eq _ _ Fld.SCAN_ANGLE_ANGLE hget).trans hangle, (State.b_eq _ _ Fld.SCAN_ANGLE_VALID hget).trans hvalid, ?_, hdev⟩
  rw [show t.scan.samples = _ from congrArg MirrorView.samples hview]
  exact hsample

/-- Without a reference the sample is given up (R233). -/
theorem msnsSample_givenUp (convs : List Conv) (x : Nat) (bad fue : List Nat) (s : State) (hslots : s.adcSlotsOf 1 ≠ [])
    (hconvs : (s.adcSlotsOf 1).length ≤ convs.length) (hready : s.b Fld.ADC0_STAT_REFRDY = false) :
    Answers (.msnsSample convs x bad fue) s (fun t => { t with adc := s.adc } = s) := by
  obtain ⟨a, ha⟩ := s.adcEnd_form 1
  refine ⟨s.withAdc a, ?_, rfl⟩
  change execMsnsSample convs x bad fue s = _
  simp [execMsnsSample, hslots, hconvs, hready, ha]

/-! # Strokes (R103, R106) -/

theorem State.guardSweepBegin_form (s : State) : ∃ g, s.guardSweepBegin = s.withGuard g := by
  unfold State.guardSweepBegin
  split
  · exact ⟨_, rfl⟩
  · exact ⟨s.guard, rfl⟩

/-- A new sweep takes its region beside the sweep count. -/
theorem State.takeRegion_shows (s : State) : s.takeRegion.f Fld.SCAN_STAT_SWEEPS = s.f Fld.SCAN_STAT_SWEEPS ∧
    s.takeRegion.scan = { s.scan with psel := s.b Fld.SCAN_CTRL_PSEL } := by
  have hpsel (p : State) (b : Bool) : (p.setB Fld.SCAN_STAT_ACTIVE_PSEL b).f Fld.SCAN_STAT_SWEEPS = p.f Fld.SCAN_STAT_SWEEPS :=
    State.f_setB_apart p _ _ b (by decide) (by decide)
  have horder (p : State) : (p.raise Cause.SCAN_PLAN_ORDER).f Fld.SCAN_STAT_SWEEPS = p.f Fld.SCAN_STAT_SWEEPS :=
    State.f_raise_apart p _ _ (by decide) (by decide) (by decide) (by decide)
  unfold State.takeRegion State.raiseIf
  dsimp only
  split
  · exact ⟨(horder _).trans (hpsel _ _), rfl⟩
  · exact ⟨hpsel _ _, rfl⟩

theorem State.sweepBegin_shows (s : State) : s.sweepBegin.f Fld.SCAN_STAT_SWEEPS = (s.f Fld.SCAN_STAT_SWEEPS + 1) % 2 ^ 24 ∧
    s.sweepBegin.scan = { s.scan with sos := true, trigN := 0, sweepWhole := decide (s.dev = .scan) } :=
  ⟨State.f_incMod_self s Fld.SCAN_STAT_SWEEPS 1 (by decide), rfl⟩

/-- The sweep that starts at `x` is counted, and its active stroke is in progress. -/
theorem State.sweepStart_shows (s : State) (x : Nat) (hmode : s.scanMode = 0) :
    (s.sweepStart x).f Fld.SCAN_STAT_SWEEPS = (s.f Fld.SCAN_STAT_SWEEPS + 1) % 2 ^ 24 ∧ (s.sweepStart x).scan.active = true ∧
      (s.sweepStart x).scan.t0 = x ∧ (s.sweepStart x).scan.sos = true := by
  have hkept (p : State) (y : ScanSt) : (p.withScan y).f Fld.SCAN_STAT_SWEEPS = p.f Fld.SCAN_STAT_SWEEPS := rfl
  have hcount (p : State) := (State.sweepBegin_shows p).1
  have hbegun (p : State) := (State.sweepBegin_shows p).2
  have hregion (p : State) := (State.takeRegion_shows p).1
  have htaken (p : State) := (State.takeRegion_shows p).2
  simp only [State.sweepStart, hmode, decide_true]
  split
  · simp only [hkept, hregion, htaken, hcount, hbegun, State.withScan_scan, and_self]
  · simp only [hkept, hcount, hbegun, State.withScan_scan, and_self]

/-- Out of PROFILE no target is left behind at a sweep's start, which is the engine's alone but for the Guard's record. -/
theorem execSweepStart_stroke (x : Nat) (s : State) (hmode : s.scanMode = 0) :
    ∃ l g, execSweepStart x s = .next (((s.sweepStart x).withScan { (s.sweepStart x).scan with lockFrom := l }).withGuard g) := by
  have hlock (p : State) : ∃ l, (if p.scanMode = 2 then p.withScan { p.scan with lockFrom := 1 } else p) = p.withScan { p.scan with lockFrom := l } := by
    split
    · exact ⟨1, rfl⟩
    · exact ⟨p.scan.lockFrom, rfl⟩
  obtain ⟨l, hl⟩ := hlock (s.sweepStart x)
  obtain ⟨g, hg⟩ := State.guardSweepBegin_form ((s.sweepStart x).withScan { (s.sweepStart x).scan with lockFrom := l })
  have hskip : ¬ (decide (s.dev = .scan) && decide (s.scanMode = 2)) = true := by simp [hmode]
  have hprofile : ¬ s.scanMode = 2 := by simp [hmode]
  refine ⟨l, g, ?_⟩
  unfold execSweepStart
  rw [if_neg hskip]
  dsimp only
  rw [if_neg hprofile, hl, hg]

theorem sweepStart_begins (x : Nat) (s : State) (hmode : s.scanMode = 0) :
    Answers (.sweepStart x) s (fun t => t.f Fld.SCAN_STAT_SWEEPS = (s.f Fld.SCAN_STAT_SWEEPS + 1) % 2 ^ 24 ∧ t.scan.active = true ∧ t.scan.t0 = x ∧
      t.scan.sos = true ∧ t.dev = s.dev) := by
  obtain ⟨l, g, hexec⟩ := execSweepStart_stroke x s hmode
  obtain ⟨hsweeps, hactive, ht0, hsos⟩ := s.sweepStart_shows x hmode
  exact ⟨_, hexec, hsweeps, hactive, ht0, hsos, s.sweepStart_dev x⟩

theorem execStrokeEnd_inactive (x : Nat) (s : State) (h : s.scan.active = false) : execStrokeEnd x s = .next s := by
  simp [execStrokeEnd, h]

/-- The flyback takes up the periodic probes that are due (R95). -/
def State.flybackProbes (s : State) : State :=
  (List.range 8).foldl (fun s n => if (s.str n).probeDue && (s.str n).next.isNone then s.scheduleD n else s) s

/-- The probes leave the mirror and the trigger engine alone. -/
theorem State.flybackProbes_keeps (s : State) : s.flybackProbes.mirror = s.mirror ∧ s.flybackProbes.engine = s.engine := by
  refine ⟨foldl_keeps State.mirror (fun p n hn => ?_) s, foldl_keeps State.engine (fun p n hn => ?_) s⟩
  · rw [apply_ite State.mirror, State.scheduleD_mirror (List.mem_range.1 hn), ite_self]
  · rw [apply_ite State.engine, State.scheduleD_engine (List.mem_range.1 hn), ite_self]

/-- The state at the end of an active stroke, with the targets left skipped and the flyback begun (R103, R106, R141). -/
def State.strokeOver (s : State) (x : Nat) : State :=
  ((if s.dev = .scan then s.scan.todo.foldl State.skipTarget s else s).strokeEnd x).flybackInject x

theorem State.strokeOver_shows (s : State) (x : Nat) : (s.strokeOver x).mirror.active = false ∧ (s.strokeOver x).mirror.fbT = x ∧
    (s.strokeOver x).engine.todo = [] ∧ (s.strokeOver x).engine.next = none := by
  unfold State.strokeOver State.flybackInject
  generalize (if s.dev = .scan then s.scan.todo.foldl State.skipTarget s else s) = p
  split <;> exact ⟨rfl, rfl, rfl, rfl⟩

/-- What the row makes of an active stroke shows as `State.strokeOver`. -/
theorem execStrokeEnd_active (x : Nat) (s : State) (h : s.scan.active = true) : ∃ t, execStrokeEnd x s = .next t ∧
    t.mirror = (s.strokeOver x).mirror ∧ t.engine = (s.strokeOver x).engine := by
  obtain ⟨hmirror, hengine⟩ := (s.strokeOver x).flybackProbes_keeps
  refine ⟨if (s.strokeOver x).dev = .scan then (s.strokeOver x).flybackProbes else s.strokeOver x, if_neg (by simp [h]), ?_, ?_⟩
  · rw [apply_ite State.mirror, hmirror, ite_self]
  · rw [apply_ite State.engine, hengine, ite_self]

theorem strokeEnd_ends (x : Nat) (s : State) (h : s.scan.active = true) :
    Answers (.strokeEnd x) s (fun t => t.scan.active = false ∧ t.scan.todo = [] ∧ t.scan.next = none ∧ t.scan.fbT = x ∧ t.dev = s.dev) := by
  obtain ⟨t, hexec, hmirror, hengine⟩ := execStrokeEnd_active x s h
  obtain ⟨hactive, hfb, htodo, hnext⟩ := s.strokeOver_shows x
  have hdev := execStrokeEnd_dev x s
  rw [hexec] at hdev
  exact ⟨t, hexec, (congrArg MirrorView.active hmirror).trans hactive, (congrArg Engine.todo hengine).trans htodo, (congrArg Engine.next hengine).trans hnext,
    (congrArg MirrorView.fbT hmirror).trans hfb, hdev⟩

/-- Settles O23: a sample by what it sets and the column work leaves of it, a stroke's start by what it counts, its end by the view of mirror and engine. -/
theorem mirrorAndSweeps : Obligations.MirrorAndSweeps := by
  unfold Obligations.MirrorAndSweeps
  refine ⟨?_, ?_, ?_, ?_, ?_, msnsSample_givenUp, ?_, strokeEnd_ends⟩
  · intro convs x bad fue s _ hslots hconvs hready
    obtain ⟨t, hexec, hangle, hvalid, -, hdev⟩ := msnsSample_shows convs x bad fue s hslots hconvs hready
    exact ⟨t, hexec, hangle, hvalid, hdev⟩
  · intro x s _ hmode
    obtain ⟨t, hexec, hsweeps, hactive, ht0, hsos, -⟩ := sweepStart_begins x s hmode
    exact ⟨t, hexec, hsweeps, hactive, ht0, hsos⟩
  · exact fun x s h => ⟨s, execStrokeEnd_inactive x s h, rfl⟩
  · intro x s h _
    obtain ⟨t, hexec, hactive, htodo, hnext, hfb, -⟩ := strokeEnd_ends x s h
    exact ⟨t, hexec, hactive, htodo, hnext, hfb⟩
  · intro convs x bad fue s hslots hconvs hready
    obtain ⟨t, hexec, hangle, -, hsample, -⟩ := msnsSample_shows convs x bad fue s hslots hconvs hready
    exact ⟨t, hexec, hangle, hsample⟩
  · intro x s hmode
    obtain ⟨t, hexec, hsweeps, hactive, ht0, -, hdev⟩ := sweepStart_begins x s hmode
    exact ⟨t, hexec, hsweeps, hactive, ht0, hdev⟩

end Sys2Proof.Machine
end

section
namespace Sys2Proof.Machine

/-! # The ambient gate (R133, R134) -/

/-- Fields of one register without a common bit are apart, whichever of an array's registers it is. -/
theorem Fld.apart_of_bits {F G : Fld} (h : (decide (F.lo + F.w ≤ G.lo) || decide (G.lo + G.w ≤ F.lo)) = true) : F.apart G = true := by
  unfold Fld.apart
  rw [Bool.or_assoc, h, Bool.or_true]

/-- RX_AMBC of the channel, and nothing else, shows the gate's values. -/
theorem State.showAmb_shows (s : State) (c : Nat) (a : Amb) :
    (s.showAmb c a).f (Fld.RX_AMBC_K c) = a.k % 2 ^ (Fld.RX_AMBC_K c).w ∧ (s.showAmb c a).f (Fld.RX_AMBC_RATE c) = a.rate % 2 ^ (Fld.RX_AMBC_RATE c).w ∧
      (s.showAmb c a).f (Fld.RX_AMBC_EVT c) = a.evt % 2 ^ (Fld.RX_AMBC_EVT c).w ∧ (s.showAmb c a).b (Fld.RX_AMBC_STALE c) = a.stale ∧
      State.regsBut [Reg.RX_AMBC c] s (s.showAmb c a) := by
  have hbeside {F : Fld} (G : Fld) (p : State) (x : Nat) (hfits : G.fits = true)
      (h : (decide (F.lo + F.w ≤ G.lo) || decide (G.lo + G.w ≤ F.lo)) = true) : (p.setF G x).f F = p.f F :=
    State.f_setF_apart p F G x hfits (Fld.apart_of_bits h)
  have hreg (F : Fld) (p : State) (x : Nat) (h : State.regsBut [Reg.RX_AMBC c] s p) (haddr : F.addr = Reg.RX_AMBC c) :
      State.regsBut [Reg.RX_AMBC c] s (p.setF F x) := State.regsBut_setF F x h (by simp [haddr])
  unfold State.showAmb State.setB
  refine ⟨?_, ?_, ?_, State.b_setB_self _ _ _ rfl rfl, ?_⟩
  · rw [hbeside _ _ _ rfl rfl, hbeside _ _ _ rfl rfl, hbeside _ _ _ rfl rfl, State.f_setF_self _ _ _ rfl]
  · rw [hbeside _ _ _ rfl rfl, hbeside _ _ _ rfl rfl, State.f_setF_self _ _ _ rfl]
  · rw [hbeside _ _ _ rfl rfl, State.f_setF_self _ _ _ rfl]
  · exact hreg _ _ _ (hreg _ _ _ (hreg _ _ _ (hreg _ _ _ (State.regsBut_refl _ s) rfl) rfl) rfl) rfl

theorem State.showAmb_chan (s : State) (c d : Nat) (a : Amb) : (s.showAmb c a).chan d = s.chan d := by
  simp only [State.chan, State.showAmb, State.setB_chans, State.setF_chans]

/-! ## Opening and midpoint -/

theorem ambientGateOpen_opens (c : Nat) (s : State) (hdev : s.dev = .scan) (hwoken : (s.cluster (c / 16)).cur.woken = true) (hpow : s.powered (c / 16) = true)
    (hspads : s.spads c ≠ 0) (hruns : s.gateRuns (c / 16) = true) (hgate : (s.chan c).gate = none) :
    Answers (.ambientGateOpen c) s (fun t => (t.chan c).gate.map (·.opened) = some (s.gateOf (c / 16)).1 ∧
      (t.chan c).gate.map (·.len) = some (s.gateOf (c / 16)).2 ∧ { t with chans := s.chans } = s) := by
  refine ⟨_, if_pos (by simp [hdev, hwoken, hpow, hspads, hruns, hgate]), ?_, ?_, rfl⟩ <;> rw [State.chan_setChan_self] <;> rfl

theorem ambientGateOpen_idle (c : Nat) (s : State) (h : s.dev ≠ .scan ∨ s.powered (c / 16) = false) : Answers (.ambientGateOpen c) s (fun t => t = s) :=
  ⟨s, if_neg (by rcases h with h | h <;> simp [h]), rfl⟩

theorem execAmbientGateMidpoint_first {c : Nat} {g : GateSt} {s : State} (hgate : (s.chan c).gate = some g) (hmid : g.mid = none) :
    execAmbientGateMidpoint c s = .next (s.setChan c { s.chan c with gate := some (s.gateMid g) }) := by
  simp [execAmbientGateMidpoint, hgate, hmid]

theorem ambientGateMidpoint_rates {c : Nat} {g : GateSt} {s : State} (hgate : (s.chan c).gate = some g) (hmid : g.mid = none) :
    Answers (.ambientGateMidpoint c) s (fun t => (t.chan c).gate = some (s.gateMid g) ∧ { t with chans := s.chans } = s) :=
  ⟨_, execAmbientGateMidpoint_first hgate hmid, congrArg ChanSt.gate (State.chan_setChan_self _ _ _), rfl⟩

/-- With a fixed k the midpoint takes RX_COINC.K. -/
theorem State.gateMid_fixed {s : State} (h : s.ef Fld.RX_COINC_ADAPT = 0) (g : GateSt) :
    s.gateMid g = { g with mid := some (clampK (s.ef Fld.RX_COINC_K), min 0xFFFF (2000 * g.a / max 1 g.len)) } := by
  simp only [State.gateMid, h, if_true]

/-! ## End -/

/-- What is latched at a gate's end, whose midpoint gave `k` and `rate`. -/
def GateSt.latched (g : GateSt) (k rate : Nat) : Amb := { k := k, rate := rate, evt := min 0xFF g.evt, glen := g.len / 8, stale := false }

/-- Channel `c` with its gate ended and `a` latched, which RX_AMBC shows. -/
def State.gateEnded (s : State) (c : Nat) (a : Amb) : State := (s.setChan c { s.chan c with gate := none, amb := some a }).showAmb c a

theorem State.gateEnded_shows (s : State) (c k rate : Nat) (g : GateSt) : ((s.gateEnded c (g.latched k rate)).chan c).gate = none ∧
    (s.gateEnded c (g.latched k rate)).f (Fld.RX_AMBC_K c) = k % 2 ^ (Fld.RX_AMBC_K c).w ∧ (s.gateEnded c (g.latched k rate)).b (Fld.RX_AMBC_STALE c) = false ∧
    (s.gateEnded c (g.latched k rate)).f (Fld.RX_AMBC_RATE c) = rate % 2 ^ (Fld.RX_AMBC_RATE c).w ∧
    (s.gateEnded c (g.latched k rate)).f (Fld.RX_AMBC_EVT c) = min 0xFF g.evt ∧ State.regsBut [Reg.RX_AMBC c] s (s.gateEnded c (g.latched k rate)) ∧
    { s.gateEnded c (g.latched k rate) with regs := s.regs, chans := s.chans } = s := by
  obtain ⟨hk, hrate, hevt, hstale, hregs⟩ :=
    (s.setChan c { s.chan c with gate := none, amb := some (g.latched k rate) }).showAmb_shows c (g.latched k rate)
  have hfits : min 0xFF g.evt % 2 ^ 8 = min 0xFF g.evt := Nat.mod_eq_of_lt (by omega)
  have hgone : ((s.gateEnded c (g.latched k rate)).chan c).gate = none := by rw [State.gateEnded, State.showAmb_chan, State.chan_setChan_self]
  have hframe : { s.gateEnded c (g.latched k rate) with regs := s.regs, chans := s.chans } = s := by simp [State.gateEnded, State.showAmb]
  exact ⟨hgone, hk, hstale, hrate, hevt.trans hfits, hregs, hframe⟩

theorem execAmbientGateClose_rated {c k rate : Nat} {g : GateSt} {s : State} (hgate : (s.chan c).gate = some g) (hmid : g.mid = some (k, rate)) :
    execAmbientGateClose c s = .next (s.gateEnded c (g.latched k rate)) := by
  simp [execAmbientGateClose, hgate, hmid, State.gateEnded, GateSt.latched]

/-- A gate that ends before its midpoint is rated at its end. -/
theorem execAmbientGateClose_unrated {c k rate : Nat} {g : GateSt} {s : State} (hgate : (s.chan c).gate = some g) (hmid : g.mid = none)
    (hrated : (s.gateMid g).mid = some (k, rate)) : execAmbientGateClose c s = .next (s.gateEnded c (g.latched k rate)) := by
  have hevt : (s.gateMid g).evt = g.evt := rfl
  have hlen : (s.gateMid g).len = g.len := rfl
  simp [execAmbientGateClose, hgate, hmid, hrated, hevt, hlen, State.gateEnded, GateSt.latched]

theorem execAmbientGateClose_ends {c : Nat} {g : GateSt} {s : State} (hgate : (s.chan c).gate = some g) :
    ∃ k rate, execAmbientGateClose c s = .next (s.gateEnded c (g.latched k rate)) := by
  cases hmid : g.mid with
  | none => exact ⟨_, _, execAmbientGateClose_unrated hgate hmid rfl⟩
  | some q => exact ⟨q.1, q.2, execAmbientGateClose_rated hgate hmid⟩

theorem ambientGate_noGate (c : Nat) (s : State) (hgate : (s.chan c).gate = none) :
    Answers (.ambientGateMidpoint c) s (fun t => t = s) ∧ Answers (.ambientGateClose c) s (fun t => t = s) := by
  have hmid : execAmbientGateMidpoint c s = .next s := by simp [execAmbientGateMidpoint, hgate]
  have hend : execAmbientGateClose c s = .next s := by simp [execAmbientGateClose, hgate]
  exact ⟨⟨s, hmid, rfl⟩, ⟨s, hend, rfl⟩⟩

/-- Settles O29: the opening by its conditions, the midpoint by `State.gateMid`, the end by what RX_AMBC shows of the latched values. -/
theorem ambientGate : Obligations.AmbientGate := by
  unfold Obligations.AmbientGate
  refine ⟨ambientGateOpen_opens, ambientGateOpen_idle, ?_, ?_, ambientGate_noGate, ?_, ?_⟩
  · intro c g s hgate hmid hfixed
    rw [← State.gateMid_fixed hfixed g]
    exact ambientGateMidpoint_rates hgate hmid
  · intro c k rate g s _ hgate hmid
    exact ⟨_, execAmbientGateClose_rated hgate hmid, s.gateEnded_shows c k rate g⟩
  · intro c g s hgate hmid
    obtain ⟨t, ht, hrated, hframe⟩ := ambientGateMidpoint_rates hgate hmid
    exact ⟨t, ht, ⟨_, hrated⟩, hframe⟩
  · intro c g s _ hgate
    obtain ⟨k, rate, hend⟩ := execAmbientGateClose_ends hgate
    obtain ⟨hnone, -, hstale, -, hevt, hregs, hframe⟩ := s.gateEnded_shows c k rate g
    exact ⟨_, hend, hnone, hstale, hevt, hregs, hframe⟩

end Sys2Proof.Machine
end

section
namespace Sys2Proof.Machine

/-! # A time-interval input's own record (R145, R147) -/

@[simp] theorem State.tin_setTin_self (s : State) (n : Nat) (x : TinSt) : (s.setTin n x).tin n = x := SMap.get_set_self _ _ _ _

theorem State.tin_setTin_ne (s : State) {n m : Nat} (h : m ≠ n) (x : TinSt) : (s.setTin n x).tin m = s.tin m := SMap.get_set_ne _ _ _ _ _ h

theorem State.tin_of_tins {s t : State} (h : t.tins = s.tins) (n : Nat) : t.tin n = s.tin n := congrArg (SMap.get _ · n) h

/-- With room in the queue an entry enters at its end, and carries LOST where one before it was dropped. -/
theorem State.tinPush_room {s : State} {n : Nat} (h : (s.tin n).queue.length < 256) (stream : Bool) (w0 w1 : Nat) : s.tinPush n stream w0 w1 =
    s.setTin n { (s.tin n).counted stream with
      queue := (s.tin n).queue ++ [(BitVec.ofNat 32 w0, BitVec.ofNat 32 (w1 + if (s.tin n).lost then 2 ^ 13 else 0))], lost := false } := if_pos h

/-- On a full queue the entry is dropped, and counted as lost. -/
theorem State.tinPush_full {s : State} {n : Nat} (h : 256 ≤ (s.tin n).queue.length) (stream : Bool) (w0 w1 : Nat) : s.tinPush n stream w0 w1 =
    ((s.setTin n { (s.tin n).counted stream with lost := true }).incSat (Fld.TIN_CNT_LOST n) 1).raise (Cause.TIN_LOST n) := if_neg (Nat.not_lt.2 h)

/-! # An edge (R145-R148) -/

/-- The edge matches the input's own selection. -/
def State.ownEdge (s : State) (m : Nat) (rising : Bool) : Bool := s.tinMode m != 0 && slopeMatch (s.tinF m (Fld.TIN_CFG_SLOPE m)) rising

/-- The pairs that the edge stops. -/
def State.stopped (s : State) (m : Nat) (rising : Bool) : List Nat := (List.range 4).filter (fun n => s.stops n m rising)

/-- The real time of an edge in 1/256 ns. -/
def State.edgeTime (s : State) (m tap : Nat) : Nat := 256 * s.now + 4 * (s.tinStamp m tap).fine

/-- An edge has been accepted and the dead time begins anew. -/
def State.edgeTaken (s : State) (m tap : Nat) : State := s.setTin m { s.tin m with lastEdge := some (s.edgeTime m tap) }

theorem State.edgeTaken_tin (s : State) (m tap : Nat) : (s.edgeTaken m tap).tin m = { s.tin m with lastEdge := some (s.edgeTime m tap) } :=
  State.tin_setTin_self _ _ _

theorem State.stopped_nil {s : State} {m : Nat} {rising : Bool} (h : ∀ n, n < 4 → s.stops n m rising = false) : s.stopped m rising = [] :=
  List.filter_eq_nil_iff.2 fun n hn => Bool.eq_false_iff.1 (h n (List.mem_range.1 hn))

theorem State.stopped_one {s : State} {n m : Nat} {rising : Bool} (hn : n < 4) (h : ∀ k, k < 4 → s.stops k m rising = decide (k = n)) :
    s.stopped m rising = [n] := by
  have hfilter : s.stopped m rising = (List.range 4).filter (fun k => decide (k = n)) := List.filter_congr fun k hk => h k (List.mem_range.1 hk)
  have hone : ∀ n < 4, (List.range 4).filter (fun k => decide (k = n)) = [n] := by decide
  rw [hfilter, hone n hn]

theorem State.ownEdge_of {s : State} {m : Nat} {rising : Bool} (hmode : s.tinMode m ≠ 0) (hslope : slopeMatch (s.tinF m (Fld.TIN_CFG_SLOPE m)) rising = true) :
    s.ownEdge m rising = true := by
  simp [State.ownEdge, hmode, hslope]

theorem tinEdge_notRunning (m : Nat) (rising : Bool) (tap : Nat) (s : State) (h : s.dev = .boot ∨ s.dev = .park) :
    Answers (.tinEdge m rising tap) s (fun t => t = s) := by
  have hrun : s.tinRuns = false := by rcases h with h | h <;> simp [State.tinRuns, h]
  exact ⟨s, if_pos (by simp [hrun]), rfl⟩

/-- An edge counts for something on an input that runs: its own selection or a pair that it stops. -/
def State.edgeCounts (s : State) (m : Nat) (rising : Bool) : Prop :=
  m < 4 ∧ s.tinRuns = true ∧ (s.ownEdge m rising = true ∨ s.stopped m rising ≠ [])

theorem State.edgeCounts_guard {s : State} {m : Nat} {rising : Bool} (h : s.edgeCounts m rising) :
    ¬ (!s.tinRuns || !(s.ownEdge m rising || !(s.stopped m rising).isEmpty) || decide (4 ≤ m)) = true := by
  obtain ⟨hm, hrun, hcounts⟩ := h
  rcases hcounts with hown | hstops
  · simp [hrun, hown, hm]
  · simp [hrun, hstops, hm]

/-- An edge in the dead time is dropped and counted. -/
theorem execTinEdge_dead {s : State} {m l : Nat} {rising : Bool} {tap : Nat} (h : s.edgeCounts m rising) (hlast : (s.tin m).lastEdge = some l)
    (hdead : s.edgeTime m tap < l + 1024) :
    execTinEdge m rising tap s = .next ((s.incSat (Fld.TIN_CNT_DEAD m) 1).raise (Cause.TIN_DEAD m)) := by
  refine (if_neg (State.edgeCounts_guard h)).trans ?_
  dsimp only
  rw [hlast]
  exact if_pos (decide_eq_true hdead)

/-- The second word of a stream entry but for LOST (Table 7.3). -/
def TinStamp.edgeWord (st : TinStamp) (rising : Bool) (seq : Nat) : Nat :=
  st.frac * 2 ^ 24 + st.fine * 2 ^ 16 + rising.toNat * 2 ^ 15 + st.tv.toNat * 2 ^ 14 + seq

/-- What an accepted edge does beside the pairs that it stops: in stream mode its stamp enters the queue, in pair mode it starts an interval. -/
def State.ownActs (s p : State) (m : Nat) (rising : Bool) (tap : Nat) : State :=
  let st := s.tinStamp m tap
  if !s.ownEdge m rising then p
  else if s.tinMode m = 1 then p.tinPush m true st.ns (st.edgeWord rising (p.tin m).seqEdge)
  else if (p.tin m).start.isNone && !(s.stopped m rising).contains m then p.setTin m { p.tin m with start := some st, phstep := false }
  else p

/-- The first edge of an input is accepted: it stops the pairs it can, and then acts on its own input. -/
theorem execTinEdge_accepted {s : State} {m : Nat} {rising : Bool} {tap : Nat} (h : s.edgeCounts m rising) (hlast : (s.tin m).lastEdge = none) :
    execTinEdge m rising tap s =
      .next (s.ownActs ((s.stopped m rising).foldl (fun p n => p.tinStop n (s.tinStamp m tap)) (s.edgeTaken m tap)) m rising tap) := by
  refine (if_neg (State.edgeCounts_guard h)).trans ?_
  dsimp only
  rw [hlast]
  refine (if_neg Bool.false_ne_true).trans ?_
  unfold State.ownActs
  simp only [apply_ite Host.Outcome.next]
  rfl

theorem State.ownActs_stream {s : State} {m : Nat} {rising : Bool} (hown : s.ownEdge m rising = true) (hmode : s.tinMode m = 1) (p : State) (tap : Nat) :
    s.ownActs p m rising tap = p.tinPush m true (s.tinStamp m tap).ns ((s.tinStamp m tap).edgeWord rising (p.tin m).seqEdge) := by
  simp [State.ownActs, hown, hmode]

theorem State.ownActs_start {s p : State} {m : Nat} {rising : Bool} (hown : s.ownEdge m rising = true) (hmode : s.tinMode m = 2)
    (hstops : s.stopped m rising = []) (hstart : (p.tin m).start = none) (tap : Nat) :
    s.ownActs p m rising tap = p.setTin m { p.tin m with start := some (s.tinStamp m tap), phstep := false } := by
  simp [State.ownActs, hown, hmode, hstops, hstart]

theorem State.ownActs_none {s : State} {m : Nat} {rising : Bool} (hown : s.ownEdge m rising = false) (p : State) (tap : Nat) : s.ownActs p m rising tap = p := by
  simp [State.ownActs, hown]

/-- The first edge of an input, which stops no pair, acts on its own input alone. -/
theorem execTinEdge_own {s : State} {m : Nat} {rising : Bool} (hm : m < 4) (hrun : s.tinRuns = true) (hown : s.ownEdge m rising = true)
    (hstops : s.stopped m rising = []) (hlast : (s.tin m).lastEdge = none) (tap : Nat) :
    execTinEdge m rising tap s = .next (s.ownActs (s.edgeTaken m tap) m rising tap) := by
  rw [execTinEdge_accepted ⟨hm, hrun, .inl hown⟩ hlast, hstops, List.foldl_nil]

/-! ## Dead time, stream mode and start edges -/

theorem Fld.tinDead_apart : ∀ m < 4, (Fld.TIN_CNT_DEAD m).fits = true ∧ (Cause.TIN_DEAD m).fld.fits = true ∧ (Cause.TIN_DEAD m).cnt.fits = true ∧
    (Fld.TIN_CNT_DEAD m).apart (Cause.TIN_DEAD m).fld = true ∧ (Fld.TIN_CNT_DEAD m).apart (Cause.TIN_DEAD m).cnt = true := by decide

theorem tinEdge_dead (m : Nat) (rising : Bool) (tap l : Nat) (s : State) (hm : m < 4) (hrun : s.tinRuns = true) (hmode : s.tinMode m ≠ 0)
    (hslope : slopeMatch (s.tinF m (Fld.TIN_CFG_SLOPE m)) rising = true) (hlast : (s.tin m).lastEdge = some l)
    (hdead : 256 * s.now + 4 * (s.tinStamp m tap).fine < l + 1024) :
    Answers (.tinEdge m rising tap) s (fun t => t.causeSet (Cause.TIN_DEAD m) = true ∧
      t.f (Fld.TIN_CNT_DEAD m) = min (2 ^ (Fld.TIN_CNT_DEAD m).w - 1) (s.f (Fld.TIN_CNT_DEAD m) + 1) ∧ { t with regs := s.regs } = s) := by
  obtain ⟨hcntfits, hfldfits, hevfits, hfld, hev⟩ := Fld.tinDead_apart m hm
  refine ⟨_, execTinEdge_dead ⟨hm, hrun, .inl (State.ownEdge_of hmode hslope)⟩ hlast hdead, State.b_raise_self _ _ hfldfits, ?_, by simp⟩
  rw [State.f_raise_apart _ _ _ hfldfits hevfits hfld hev, State.f_incSat_self _ _ _ hcntfits]

theorem tinEdge_enters (m : Nat) (rising : Bool) (tap : Nat) (s : State) (hm : m < 4) (hrun : s.tinRuns = true) (hmode : s.tinMode m = 1)
    (hslope : slopeMatch (s.tinF m (Fld.TIN_CFG_SLOPE m)) rising = true) (hstops : ∀ n, n < 4 → s.stops n m rising = false)
    (hlast : (s.tin m).lastEdge = none) (hroom : (s.tin m).queue.length < 256) :
    Answers (.tinEdge m rising tap) s (fun t => (t.tin m).queue = (s.tin m).queue ++ [(BitVec.ofNat 32 (s.tinStamp m tap).ns,
          BitVec.ofNat 32 ((s.tinStamp m tap).frac * 2 ^ 24 + (s.tinStamp m tap).fine * 2 ^ 16 + rising.toNat * 2 ^ 15 + (s.tinStamp m tap).tv.toNat * 2 ^ 14 +
            (s.tin m).seqEdge + if (s.tin m).lost then 2 ^ 13 else 0))] ∧
      (t.tin m).seqEdge = ((s.tin m).seqEdge + 1) % 4096 ∧ (t.tin m).seqInt = (s.tin m).seqInt ∧ (t.tin m).lost = false ∧
      (t.tin m).lastEdge = some (256 * s.now + 4 * (s.tinStamp m tap).fine) ∧ { t with tins := s.tins } = s) := by
  have hown := State.ownEdge_of (by rw [hmode]; decide) hslope
  have hroom' : ((s.edgeTaken m tap).tin m).queue.length < 256 := by rw [State.edgeTaken_tin]; exact hroom
  have hexec := execTinEdge_own hm hrun hown (State.stopped_nil hstops) hlast tap
  rw [State.ownActs_stream hown hmode, State.tinPush_room hroom', State.edgeTaken_tin] at hexec
  exact ⟨_, hexec, by simp [TinSt.counted, TinStamp.edgeWord], by simp [TinSt.counted], by simp [TinSt.counted], by simp, by simp [TinSt.counted, State.edgeTime], rfl⟩

theorem tinEdge_lost (m : Nat) (rising : Bool) (tap : Nat) (s : State) (hm : m < 4) (hrun : s.tinRuns = true) (hmode : s.tinMode m = 1)
    (hslope : slopeMatch (s.tinF m (Fld.TIN_CFG_SLOPE m)) rising = true) (hstops : ∀ n, n < 4 → s.stops n m rising = false)
    (hlast : (s.tin m).lastEdge = none) (hfull : 256 ≤ (s.tin m).queue.length) :
    Answers (.tinEdge m rising tap) s (fun t => (t.tin m).queue = (s.tin m).queue ∧ (t.tin m).seqEdge = ((s.tin m).seqEdge + 1) % 4096 ∧ (t.tin m).lost = true ∧
      t.causeSet (Cause.TIN_LOST m) = true ∧ { t with regs := s.regs, tins := s.tins } = s) := by
  have hown := State.ownEdge_of (by rw [hmode]; decide) hslope
  have hfull' : 256 ≤ ((s.edgeTaken m tap).tin m).queue.length := by rw [State.edgeTaken_tin]; exact hfull
  have hfits : ∀ m < 4, (Cause.TIN_LOST m).fld.fits = true := by decide
  have hcounted (p : State) (x : TinSt) : (((p.setTin m x).incSat (Fld.TIN_CNT_LOST m) 1).raise (Cause.TIN_LOST m)).tin m = x :=
    (State.tin_of_tins (by simp) m).trans (State.tin_setTin_self p m x)
  have hexec := execTinEdge_own hm hrun hown (State.stopped_nil hstops) hlast tap
  rw [State.ownActs_stream hown hmode, State.tinPush_full hfull', State.edgeTaken_tin] at hexec
  exact ⟨_, hexec, by simp [hcounted, TinSt.counted], by simp [hcounted, TinSt.counted], by simp [hcounted], State.b_raise_self _ _ (hfits m hm), by simp [State.edgeTaken]⟩

theorem tinEdge_starts (m : Nat) (rising : Bool) (tap : Nat) (s : State) (hm : m < 4) (hrun : s.tinRuns = true) (hmode : s.tinMode m = 2)
    (hslope : slopeMatch (s.tinF m (Fld.TIN_CFG_SLOPE m)) rising = true) (hstops : ∀ n, n < 4 → s.stops n m rising = false)
    (hlast : (s.tin m).lastEdge = none) (hstart : (s.tin m).start = none) :
    Answers (.tinEdge m rising tap) s (fun t => (t.tin m).start = some (s.tinStamp m tap) ∧ (t.tin m).phstep = false ∧ (t.tin m).queue = (s.tin m).queue ∧
      { t with tins := s.tins } = s) := by
  have hown := State.ownEdge_of (by rw [hmode]; decide) hslope
  have hstart' : ((s.edgeTaken m tap).tin m).start = none := by rw [State.edgeTaken_tin]; exact hstart
  have hexec := execTinEdge_own hm hrun hown (State.stopped_nil hstops) hlast tap
  rw [State.ownActs_start hown hmode (State.stopped_nil hstops) hstart', State.edgeTaken_tin] at hexec
  exact ⟨_, hexec, by simp, by simp, by simp, rfl⟩

/-! ## Stop edges (R148) -/

/-- An interval in range that saw no phase step raises nothing: it ends, and its entry enters or is dropped. -/
theorem State.tinStop_plain (s : State) {n : Nat} {a b : TinStamp} (hstart : (s.tin n).start = some a) (hpos : 0 < interval a b) (hrange : interval a b < 2 ^ 40)
    (hphase : (s.tin n).phstep = false) : s.tinStop n b = (s.setTin n { s.tin n with start := none, phstep := false }).tinPush n false ((interval a b).toNat / 256)
      ((interval a b).toNat % 256 * 2 ^ 24 + (a.tv && b.tv).toNat * 2 ^ 14 + (s.tin n).seqInt) := by
  have hfits : decide ((2 ^ 40 : Int) ≤ interval a b) = false := decide_eq_false (not_le.2 hrange)
  unfold State.tinStop
  dsimp only
  rw [hstart]
  dsimp only
  rw [if_neg (not_le.2 hpos), hfits, hphase]
  simp [State.raiseIf]

theorem tinEdge_stops (n m : Nat) (rising : Bool) (tap : Nat) (a : TinStamp) (s : State) (hn : n < 4) (hm : m < 4) (hne : n ≠ m) (hrun : s.tinRuns = true)
    (hmode : s.tinMode m = 0) (hstops : ∀ k, k < 4 → s.stops k m rising = decide (k = n)) (hlast : (s.tin m).lastEdge = none) (hstart : (s.tin n).start = some a)
    (hpos : 0 < interval a (s.tinStamp m tap)) (hrange : interval a (s.tinStamp m tap) < 2 ^ 40) (hphase : (s.tin n).phstep = false)
    (hlost : (s.tin n).lost = false) (hroom : (s.tin n).queue.length < 256) :
    Answers (.tinEdge m rising tap) s (fun t => (t.tin n).queue = (s.tin n).queue ++ [(BitVec.ofNat 32 ((interval a (s.tinStamp m tap)).toNat / 256),
          BitVec.ofNat 32 ((interval a (s.tinStamp m tap)).toNat % 256 * 2 ^ 24 + (a.tv && (s.tinStamp m tap).tv).toNat * 2 ^ 14 + (s.tin n).seqInt))] ∧
      (t.tin n).start = none ∧ (t.tin n).seqInt = ((s.tin n).seqInt + 1) % 4096 ∧ (t.tin n).seqEdge = (s.tin n).seqEdge ∧ { t with tins := s.tins } = s) := by
  have hpairs := State.stopped_one hn hstops
  have hown : s.ownEdge m rising = false := by simp [State.ownEdge, hmode]
  have hother : (s.edgeTaken m tap).tin n = s.tin n := State.tin_setTin_ne s hne _
  have hstop := (s.edgeTaken m tap).tinStop_plain (by rw [hother]; exact hstart) hpos hrange (by rw [hother]; exact hphase)
  rw [hother, State.tinPush_room (by rw [State.tin_setTin_self]; exact hroom), State.tin_setTin_self] at hstop
  have hexec := execTinEdge_accepted (rising := rising) (tap := tap) ⟨hm, hrun, .inr (by simp [hpairs])⟩ hlast
  rw [State.ownActs_none hown, hpairs, List.foldl_cons, List.foldl_nil, hstop] at hexec
  exact ⟨_, hexec, by simp [TinSt.counted, hlost], by simp [TinSt.counted], by simp [TinSt.counted], by simp [TinSt.counted],
    by simp [State.edgeTaken]⟩

/-! # Calibration, reads and settings (R145-R147) -/

theorem tinInterpCal_maps (n : Nat) (h : List Nat) (s : State) (hn : n < 4) (hdev : s.dev ≠ .park) (hlock : s.b Fld.CLK_STATUS_PLLB_LOCK = true) :
    Answers (.tinInterpCal n h) s (fun t => (t.tin n).map = codeMap 256 (h.foldl (· + ·) 0) 0 h ∧ (t.tin n).queue = (s.tin n).queue ∧
      State.regsBut [Reg.TIN_DNL] s t ∧ { t with regs := s.regs, tins := s.tins } = s) := by
  have htin : (s.tinCal n h).tin n = { s.tin n with map := codeMap 256 (h.foldl (· + ·) 0) 0 h } :=
    (State.tin_of_tins (State.setF_tins _ _ _) n).trans (State.tin_setTin_self s n _)
  have hregs : State.regsBut [Reg.TIN_DNL] s (s.tinCal n h) := State.regsBut_setF _ _ (State.regsBut_of (State.regsBut_refl _ s) rfl) (by simp)
  exact ⟨s.tinCal n h, congrArg Host.Outcome.next (if_pos (by simp [hn, hdev, hlock])), by rw [htin], by rw [htin], hregs, by simp [State.tinCal]⟩

theorem tinQhiRead_pops (n : Nat) (s : State) (hn : n < 4) :
    Answers (.tinQhiRead n) s (fun t => (t.tin n).queue = (s.tin n).queue.drop 1 ∧ t.regs = s.regs ∧ { t with tins := s.tins } = s) :=
  ⟨s.tinPop n, congrArg Host.Outcome.next (if_pos hn), congrArg TinSt.queue (State.tin_setTin_self s n _), rfl, rfl⟩

theorem tinCfgWrite_stores (n : Nat) (v : Word) (s : State) (hn : n < 4) :
    Answers (.tinCfgWrite n v) s (fun t => t.rget (Reg.TIN_CFG n) = v &&& 0x3FCFF ∧ State.regsBut [Reg.TIN_CFG n] s t ∧ { t with regs := s.regs } = s) :=
  ⟨s.tinCfgWrite n v, congrArg Host.Outcome.next (if_pos hn), State.rget_rset_self s _ _, State.regsBut_rset _ _ (State.regsBut_refl _ s) (by simp), rfl⟩

/-! ## What a TCLK edge takes over (R145) -/

/-- The settings of input `n`: as written, and as in effect. -/
def State.tinSettings (s : State) (n : Nat) : Word × Word := (s.rget (Reg.TIN_CFG n), (s.tin n).cfg)

theorem State.tinSettings_ite (c : Prop) [Decidable c] (p q : State) (n : Nat) :
    (if c then p else q).tinSettings n = if c then p.tinSettings n else q.tinSettings n := by split <;> rfl

/-- A field of a register that holds no input's settings. -/
def Fld.offTinCfg (F : Fld) : Bool := (List.range 4).all fun n => decide (Reg.TIN_CFG n ≠ F.addr)

theorem State.setF_tinSettings {n : Nat} (hn : n < 4) {F : Fld} (h : F.offTinCfg = true) (s : State) (x : Nat) : (s.setF F x).tinSettings n = s.tinSettings n := by
  have hne : Reg.TIN_CFG n ≠ F.addr := of_decide_eq_true (List.all_eq_true.1 h n (List.mem_range.2 hn))
  exact Prod.ext (State.rget_setF_ne s F x _ hne) rfl

theorem State.raise_tinSettings {n : Nat} (hn : n < 4) {c : Cause} (hfld : c.fld.offTinCfg = true) (hcnt : c.cnt.offTinCfg = true) (s : State) :
    (s.raise c).tinSettings n = s.tinSettings n := by
  rw [State.raise_eq, State.setF_tinSettings hn hfld, State.incSat, State.setF_tinSettings hn hcnt]

theorem State.adcStamp_tinSettings {n : Nat} (hn : n < 4) (s : State) : s.adcStamp.tinSettings n = s.tinSettings n := by
  have hreq : ∀ k < 4, (Fld.ADC0_REQTS_NS k).offTinCfg = true := by decide
  have hadc (p : State) (x : AdcSt) : (p.withAdc x).tinSettings n = p.tinSettings n := rfl
  unfold State.adcStamp
  refine foldl_keeps (·.tinSettings n) (fun p k hk => ?_) s
  split
  · rw [State.tinSettings_ite, hadc, State.setF_tinSettings hn (hreq k (List.mem_range.1 hk)), ite_self]
  · rfl

theorem State.ctrTo_tinSettings {n : Nat} (hn : n < 4) (s : State) (x : Int) : (s.ctrTo x).tinSettings n = s.tinSettings n := by
  have hline (p : State) : (p.line 1 5).tinSettings n = p.tinSettings n := rfl
  have hwraps (p : State) (y : Int) : (p.setFs Fld.TIME_STAT_WRAPS y).tinSettings n = p.tinSettings n := State.setF_tinSettings hn (by decide) p _
  unfold State.ctrTo
  dsimp only
  split
  · rfl
  · rw [hline, State.raise_tinSettings hn (by decide) (by decide), hwraps]
    rfl

theorem State.tinPhaseStep_tinSettings (s : State) (n : Nat) : s.tinPhaseStep.tinSettings n = s.tinSettings n := by
  unfold State.tinPhaseStep
  refine foldl_keeps (·.tinSettings n) (fun p k _ => ?_) s
  have hmark : ((p.setTin k { p.tin k with phstep := true }).tin n).cfg = (p.tin n).cfg := by
    rcases eq_or_ne n k with rfl | hne
    · rw [State.tin_setTin_self]
    · rw [State.tin_setTin_ne p hne]
  dsimp only
  split
  · exact Prod.ext rfl hmark
  · rfl

theorem State.ppsCheck_tinSettings {n : Nat} (hn : n < 4) (s : State) : s.ppsCheck.tinSettings n = s.tinSettings n := by
  have hpins (p : State) (x : PinSt) : (p.withPins x).tinSettings n = p.tinSettings n := rfl
  have harmed : (s.setB Fld.TIME_STAT_PPS_ARMED false).tinSettings n = s.tinSettings n := State.setF_tinSettings hn (by decide) s _
  unfold State.ppsCheck
  dsimp only
  rw [State.tinSettings_ite, hpins, harmed, ite_self]

theorem State.edgesCounted_tinSettings {n : Nat} (hn : n < 4) (s : State) (k : Nat) : (s.edgesCounted k).tinSettings n = s.tinSettings n := by
  have hpend (p : State) : (p.setB Fld.TIME_STAT_OFS_PEND false).tinSettings n = p.tinSettings n := State.setF_tinSettings hn (by decide) p _
  unfold State.edgesCounted
  rw [State.ctrTo_tinSettings hn, hpend]
  rfl

/-- Beside the inputs, which follow last, an edge leaves their settings alone. -/
theorem State.tclkEdges_tinFollow {s : State} {k n : Nat} (hrun : s.tclkRuns = true) (hk : k ≠ 0) (hn : n < 4) :
    ∃ p : State, s.tclkEdges k = p.tinFollow ∧ p.tinSettings n = s.tinSettings n := by
  have hline (p : State) : (p.line 1 5).tinSettings n = p.tinSettings n := rfl
  have hpast (p : State) (l : List (BitVec 64)) : (p.withTime { p.time with past := l }).tinSettings n = p.tinSettings n := rfl
  obtain ⟨past, h⟩ := State.tclkEdges_running hrun hk
  refine ⟨_, h, ?_⟩
  rw [State.ppsCheck_tinSettings hn, State.tinSettings_ite, State.tinPhaseStep_tinSettings, hline,
    State.raise_tinSettings hn (by decide) (by decide), State.adcStamp_tinSettings hn, hpast, State.edgesCounted_tinSettings hn, ite_self]

/-- A TCLK edge takes over the settings of another input beside this one's record. -/
theorem State.tinTake_other (s : State) {k n : Nat} (h : n ≠ k) : (s.tinTake k).tin n = s.tin n ∧ (s.tinTake k).regs = s.regs := by
  unfold State.tinTake
  dsimp only
  split
  · exact ⟨rfl, rfl⟩
  · exact ⟨State.tin_setTin_ne s h _, rfl⟩

/-- The record of an input whose new settings `v` change its MODE. -/
def TinSt.restarted (x : TinSt) (v : Word) : TinSt := { x with cfg := v, queue := [], start := none, phstep := false }

theorem State.tinTake_restarts {s : State} {n : Nat} (h : (Fld.TIN_CFG_MODE n).of (s.rget (Reg.TIN_CFG n)) ≠ (Fld.TIN_CFG_MODE n).of (s.tin n).cfg) :
    (s.tinTake n).tin n = (s.tin n).restarted (s.rget (Reg.TIN_CFG n)) := by
  have hne : s.rget (Reg.TIN_CFG n) ≠ (s.tin n).cfg := fun e => h (congrArg _ e)
  unfold State.tinTake
  dsimp only
  rw [if_neg hne, if_neg h, State.tin_setTin_self]
  rfl

/-- A new MODE empties the input's queue and drops its start, whichever inputs follow before and after. -/
theorem State.tinFollow_restarts {s : State} {n : Nat} (hn : n < 4) (h : (Fld.TIN_CFG_MODE n).of (s.rget (Reg.TIN_CFG n)) ≠ (Fld.TIN_CFG_MODE n).of (s.tin n).cfg) :
    s.tinFollow.tin n = (s.tin n).restarted (s.rget (Reg.TIN_CFG n)) := by
  have hothers (l : List Nat) (hl : n ∉ l) (p : State) : ((l.foldl State.tinTake p).tin n, (l.foldl State.tinTake p).regs) = (p.tin n, p.regs) :=
    foldl_keeps (fun p => (p.tin n, p.regs)) (fun p k hk => by
      obtain ⟨htin, hregs⟩ := p.tinTake_other (ne_of_mem_of_not_mem hk hl).symm
      rw [htin, hregs]) p
  obtain ⟨before, after, hrange⟩ := List.append_of_mem (List.mem_range.2 hn)
  have hnot : n ∉ before ++ after := (List.nodup_cons.1 (List.nodup_middle.1 (hrange ▸ List.nodup_range))).1
  obtain ⟨hbefore, hafter⟩ := not_or.1 (mt List.mem_append.2 hnot)
  obtain ⟨htin, hregs⟩ := Prod.mk.inj (hothers before hbefore s)
  have hget : (before.foldl State.tinTake s).rget (Reg.TIN_CFG n) = s.rget (Reg.TIN_CFG n) := congrArg (SMap.get regReset · _) hregs
  unfold State.tinFollow
  rw [hrange, List.foldl_append, List.foldl_cons, (Prod.mk.inj (hothers after hafter _)).1, State.tinTake_restarts (by rw [hget, htin]; exact h), hget, htin]

theorem timeOffsetApply_restarts (n : Nat) (s : State) (hn : n < 4) (hpend : s.b Fld.TIME_STAT_OFS_PEND = true) (hrun : s.tclkRuns = true)
    (hmode : s.f (Fld.TIN_CFG_MODE n) ≠ s.tinF n (Fld.TIN_CFG_MODE n)) :
    Answers .timeOffsetApply s (fun t => (t.tin n).cfg = s.rget (Reg.TIN_CFG n) ∧ (t.tin n).queue = [] ∧ (t.tin n).start = none) := by
  obtain ⟨p, hp, hsettings⟩ := State.tclkEdges_tinFollow hrun one_ne_zero hn
  obtain ⟨hwritten, hcfg⟩ := Prod.mk.inj hsettings
  have hx := State.tinFollow_restarts (s := p) hn (by rw [hwritten, hcfg]; exact hmode)
  rw [← hp, hwritten] at hx
  exact ⟨s.tclkEdges 1, congrArg Host.Outcome.next (if_pos hpend), congrArg TinSt.cfg hx, congrArg TinSt.queue hx, congrArg TinSt.start hx⟩

/-- Settles O38: an edge is dropped in the dead time or accepted, and then acts by `execTinEdge_accepted`; settings are taken over by `State.tinFollow_restarts`. -/
theorem timeInputs : Obligations.TimeInputs := by
  unfold Obligations.TimeInputs
  exact ⟨tinEdge_notRunning, tinEdge_dead, tinEdge_enters, tinEdge_lost, tinEdge_starts, tinEdge_stops, tinInterpCal_maps, tinQhiRead_pops, tinCfgWrite_stores,
    timeOffsetApply_restarts⟩

end Sys2Proof.Machine
end

section
namespace Sys2Proof.Machine

/-! # A cluster beyond the last one (R137, R361) -/

/-- An event as its FIFO keeps it, of no window. -/
def windowlessEvent : FifoE := { word := 0, wins := [], bank := false }

/-- An event waits in the first FIFO of the cluster 16325, of which the device has none: the address of its RX_LOSS register is MASH_FLAG's. -/
def strayClusterEvent : State :=
  { State.reset with
    dev := .scan
    rst := { State.reset.rst with phase := .done }
    chans := [(16 * 16325, { fifo := [windowlessEvent] })] }

theorem strayClusterEvent_served : strayClusterEvent.fill 16325 ≤ strayClusterEvent.thinDown ∧ strayClusterEvent.nextServed 16325 = some 0 ∧
    strayClusterEvent.f (Fld.RX_LOSS_FOVF 16325) = 0 := by decide +kernel

theorem mashDrain_strayClusterEvent : Out.holds (·.f (Fld.RX_LOSS_FOVF 16325) = 3) (exec (.mashDrain 16325 0 true []) strayClusterEvent) = true := by decide +kernel

/-- Refutes O31: an event with wrong parity is counted in RX_LOSS.FOVF of its cluster (R361), and then raises MASH_FLAG.LOSS, which for the cluster 16325 is bit 1 of that
very counter: it goes from 0 to 3, and not to 1 as the ninth clause claims. The device has 64 clusters: the clause lacks `k < 64` as a hypothesis. -/
theorem not_eventPath : ¬ Obligations.EventPath := by
  unfold Obligations.EventPath
  rintro ⟨-, -, -, -, -, -, -, -, hparity, -⟩
  obtain ⟨hfill, hserved, hzero⟩ := strayClusterEvent_served
  have hans := hparity 16325 0 0 [] windowlessEvent [] strayClusterEvent hfill hserved rfl
  obtain ⟨t, ⟨hcount, -⟩, hthree⟩ := hans.holds mashDrain_strayClusterEvent
  rw [of_decide_eq_true hthree, hzero] at hcount
  exact absurd hcount (by decide)

end Sys2Proof.Machine
end

section
namespace Sys2Proof.Machine

/-! # A header record of another column (R205, R214) -/

/-- A point datagram of frame 0 that has waited 100 ms. -/
def agedDgram : Dgram := { stream := 0, recs := [{ kind := .column, frame := 0, words := [] }], closed := 0 }

/-- A column in work of frame 1 whose header records begin with one of frame 0 that fills a datagram. -/
def mixedHeaderCol : ColOut :=
  { frame := 1, comp := 0, rk := 0, key := true, mcol := 0, rows := 0, reserved := 0
    hdr := [{ kind := .column, frame := 0, words := List.replicate 366 0 }, { kind := .column, frame := 1, words := List.replicate 8 0 }] }

/-- An idle device with `agedDgram` in the buffer and `mixedHeaderCol` as the ETH stream's oldest column in work. -/
def mixedHeader : State :=
  { State.reset with
    dev := .idle
    now := 100000000
    rst := { State.reset.rst with phase := .done }
    wort := { State.reset.wort with dgrams := [agedDgram], eth := { cols := [mixedHeaderCol] } } }

/-- The discard starts the column, whose own COLUMN record closes a datagram with the record of frame 0. -/
theorem datagramDiscard_mixedHeader :
    Out.holds (fun t => t.wort.dgrams.any fun e => e.stream = 0 && holdsOf agedDgram.frames e.recs) (exec .datagramDiscard mixedHeader) = true := by decide +kernel

/-- Refutes O33: the discard of a datagram (R214) is followed by the start of the ETH stream's next column in work, and the tenth clause claims that no point datagram then holds
a record of the discarded frames. In the witness, no state that the model reaches, that column of frame 1 has a header record of the discarded frame 0: the clause lacks as a
hypothesis that the header records of a column in work are of its own frame. -/
theorem not_streamRecords : ¬ Obligations.StreamRecords := by
  unfold Obligations.StreamRecords
  rintro ⟨-, -, -, -, -, -, -, -, -, hdiscard, -⟩
  obtain ⟨t, ⟨hgone, -⟩, hkept⟩ := (hdiscard agedDgram mixedHeader rfl rfl (by decide)).holds datagramDiscard_mixedHeader
  obtain ⟨e, he, hheld⟩ := List.any_eq_true.1 hkept
  obtain ⟨hstream, hholds⟩ := Bool.and_eq_true_iff.1 hheld
  exact Bool.noConfusion (hholds.symm.trans (hgone e he (of_decide_eq_true hstream)))

end Sys2Proof.Machine
end

section
namespace Sys2Proof.Machine

/-! # A port's own record -/

@[simp] theorem State.eth_setEth_self (s : State) (p : Nat) (x : EthSt) : (s.setEth p x).eth p = x := SMap.get_set_self _ _ _ _

theorem State.eth_setEth_ne (s : State) {p q : Nat} (x : EthSt) (h : q ≠ p) : (s.setEth p x).eth q = s.eth q := SMap.get_set_ne _ _ _ _ _ h

/-- The ports' records decide what a port's record is. -/
theorem State.eth_congr {s t : State} (h : t.eths = s.eths) (p : Nat) : t.eth p = s.eth p := by
  unfold State.eth
  rw [h]

/-- The state beside registers and ports. -/
def State.besideEth (s : State) : State := { s with regs := [], eths := [] }

theorem State.eq_of_besideEth {s t : State} (h : t.besideEth = s.besideEth) : { t with regs := s.regs, eths := s.eths } = s :=
  congrArg (fun r : State => { r with regs := s.regs, eths := s.eths }) h

@[simp] theorem State.setEth_besideEth (s : State) (p : Nat) (x : EthSt) : (s.setEth p x).besideEth = s.besideEth := (rfl)
@[simp] theorem State.rset_besideEth (s : State) (a : Nat) (v : Word) : (s.rset a v).besideEth = s.besideEth := (rfl)
@[simp] theorem State.setB_besideEth (s : State) (F : Fld) (x : Bool) : (s.setB F x).besideEth = s.besideEth := (rfl)
@[simp] theorem State.incMod_besideEth (s : State) (F : Fld) (n : Nat) : (s.incMod F n).besideEth = s.besideEth := (rfl)

/-! # What transmission leaves alone (R267, R269) -/

/-- A port's record beside the frame in transmission and those that wait. -/
def EthSt.besideTx (x : EthSt) : EthSt := { x with cur := none, wait := [], line := [] }

/-- The state beside the frames that the ports transmit. -/
def State.besideTx (s : State) : State × (Nat → EthSt) := ({ s with eths := [] }, fun p => (s.eth p).besideTx)

theorem State.setEth_besideTx {s : State} {p : Nat} {x : EthSt} (h : x.besideTx = (s.eth p).besideTx) : (s.setEth p x).besideTx = s.besideTx := by
  refine Prod.ext rfl (funext fun q => ?_)
  change ((s.setEth p x).eth q).besideTx = (s.eth q).besideTx
  rcases eq_or_ne q p with rfl | hne
  · rw [State.eth_setEth_self, h]
  · rw [State.eth_setEth_ne s x hne]

theorem State.besideTx_ite (c : Prop) [Decidable c] (a b : State) : (if c then a else b).besideTx = if c then a.besideTx else b.besideTx := by
  split <;> rfl

theorem State.regs_of_besideTx {s t : State} (h : t.besideTx = s.besideTx) : t.regs = s.regs := congrArg (fun v => v.1.regs) h

theorem State.wort_of_besideTx {s t : State} (h : t.besideTx = s.besideTx) : t.wort = s.wort := congrArg (fun v => v.1.wort) h

theorem State.besideEth_of_besideTx {s t : State} (h : t.besideTx = s.besideTx) : t.besideEth = s.besideEth :=
  congrArg (fun v => { v.1 with regs := [] }) h

/-! ## Starting and queueing a frame -/

/-- The frame `f` is in transmission on port `p`, or waits there. -/
def State.sendsOn (s : State) (p : Nat) (f : TxFr) : Prop := (s.eth p).cur = some f ∨ f ∈ (s.eth p).wait

/-- A port either stays as it is, or an idle one starts a frame that waits. -/
theorem State.ethKick_cases (s : State) (p : Nat) : s.ethKick p = s ∨
    ∃ f, (s.eth p).cur = none ∧ s.ethKick p = s.setEth p { s.eth p with cur := some f, wait := dropTx f (s.eth p).wait, line := s.lineBytes p f } := by
  unfold State.ethKick
  dsimp only
  split
  · exact .inl rfl
  · next hbusy =>
    split
    · exact .inl rfl
    · next f _ => exact .inr ⟨f, by simpa using (not_or.1 ((Bool.or_eq_true_iff.not).1 hbusy)).2, rfl⟩

theorem State.ethKick_down {s : State} {p : Nat} (h : s.b (Fld.ETH_STAT_LINK p) = false) : s.ethKick p = s := by
  simp only [State.ethKick, h, Bool.not_false, Bool.true_or, if_true]

theorem State.ethKick_nothing {s : State} {p : Nat} (h : (s.eth p).wait = []) : s.ethKick p = s := by
  simp only [State.ethKick, h, List.filter_nil, bestTx, ite_self]

theorem State.ethKick_besideTx (s : State) (p : Nat) : (s.ethKick p).besideTx = s.besideTx := by
  rcases s.ethKick_cases p with h | ⟨f, -, h⟩
  · rw [h]
  · rw [h]
    exact State.setEth_besideTx rfl

theorem State.ethKick_eth_ne (s : State) {p q : Nat} (h : q ≠ p) : (s.ethKick p).eth q = s.eth q := by
  rcases s.ethKick_cases p with hk | ⟨f, -, hk⟩
  · rw [hk]
  · rw [hk, State.eth_setEth_ne s _ h]

/-- Taking a frame out leaves every other one. -/
theorem mem_dropTx {f g : TxFr} (hne : f ≠ g) : ∀ {l : List TxFr}, f ∈ l → f ∈ dropTx g l
  | [], h => h
  | e :: l, h => by
    unfold dropTx
    split
    · next he => exact (List.mem_cons.1 h).resolve_left (he ▸ hne)
    · exact (List.mem_cons.1 h).elim (fun hf => hf ▸ List.mem_cons_self) fun hl => List.mem_cons_of_mem _ (mem_dropTx hne hl)

/-- A port that starts a frame keeps all that it has to send. -/
theorem State.ethKick_sendsOn {s : State} {p : Nat} {f : TxFr} (h : s.sendsOn p f) : (s.ethKick p).sendsOn p f := by
  rcases s.ethKick_cases p with hk | ⟨g, hcur, hk⟩
  · rw [hk]
    exact h
  · have hwait : f ∈ (s.eth p).wait := h.resolve_left (by simp [hcur])
    rw [hk, State.sendsOn, State.eth_setEth_self]
    rcases eq_or_ne f g with rfl | hne
    · exact .inl rfl
    · exact .inr (mem_dropTx hne hwait)

theorem State.ethPush_besideTx (s : State) (p : Nat) (f : TxFr) : (s.ethPush p f).besideTx = s.besideTx := by
  unfold State.ethPush
  rw [State.ethKick_besideTx]
  exact State.setEth_besideTx rfl

theorem State.ethPush_sendsOn (s : State) (p : Nat) (f : TxFr) : (s.ethPush p f).sendsOn p f :=
  State.ethKick_sendsOn (.inr (by rw [State.eth_setEth_self]; exact List.mem_concat_self))

theorem State.ethPush_eth_ne (s : State) {p q : Nat} (f : TxFr) (h : q ≠ p) : (s.ethPush p f).eth q = s.eth q := by
  unfold State.ethPush
  rw [State.ethKick_eth_ne _ h, State.eth_setEth_ne s _ h]

/-- On a port that is down the frame waits. -/
theorem State.ethPush_down {s : State} {p : Nat} (h : s.b (Fld.ETH_STAT_LINK p) = false) (f : TxFr) :
    s.ethPush p f = s.setEth p { s.eth p with wait := (s.eth p).wait ++ [f] } :=
  State.ethKick_down h

/-! ## Sending a frame (R269) -/

theorem State.ipOpen_raw (s : State) {f : TxFr} {b : List Byte} (h : f.body = .raw b) : s.ipOpen f = (s, f) := by
  unfold State.ipOpen
  rw [h]

/-- The frame goes on with its own content, and only the counter of free values moves. -/
theorem State.ipOpen_keeps (s : State) (f : TxFr) : { (s.ipOpen f).1 with freeCtr := s.freeCtr } = s ∧ (s.ipOpen f).2.body = f.body ∧
    (s.ipOpen f).2.cls = f.cls ∧ (s.ipOpen f).2.txbuf = f.txbuf := by
  unfold State.ipOpen
  split <;> exact ⟨rfl, rfl, rfl, rfl⟩

/-- The registers that say whether PRP is active (R268). -/
def Reg.prpRegs : List Nat := [Reg.LDR_STATUS, Reg.ETH_CFG 0, Reg.ETH_CFG 1]

theorem State.prpActive_congr {s t : State} (h : ∀ a ∈ Reg.prpRegs, t.rget a = s.rget a) : t.prpActive = s.prpActive := by
  have hf (F : Fld) (hF : F.addr ∈ Reg.prpRegs) : t.f F = s.f F := State.f_eq s t F (h F.addr hF)
  simp only [State.prpActive, State.noImage, State.b, hf Fld.LDR_STATUS_NOIMAGE (by decide), hf (Fld.ETH_CFG_PRP 0) (by decide),
    hf (Fld.ETH_CFG_MODE 0) (by decide), hf (Fld.ETH_CFG_MODE 1) (by decide)]

theorem State.ipOpen_regs (s : State) (f : TxFr) : (s.ipOpen f).1.regs = s.regs := by
  have h := congrArg State.regs (s.ipOpen_keeps f).1
  exact h

theorem State.ipOpen_prpActive (s : State) (f : TxFr) : (s.ipOpen f).1.prpActive = s.prpActive :=
  State.prpActive_congr fun _ _ => State.rget_congr (s.ipOpen_regs f) _

/-- Without PRP a frame goes to its own port alone, and a PTP frame always does. -/
theorem State.ethSend_alone {s : State} {f : TxFr} (h : s.prpActive = false ∨ f.cls = 0) (p : Nat) :
    s.ethSend p f = (s.ipOpen f).1.ethPush p (s.ipOpen f).2 := by
  obtain ⟨-, -, hcls, -⟩ := s.ipOpen_keeps f
  have hone : ((s.ipOpen f).1.prpActive && (s.ipOpen f).2.cls != 0) = false := by
    rw [State.ipOpen_prpActive, hcls]
    rcases h with h | h <;> simp [h]
  unfold State.ethSend
  dsimp only
  rw [hone, if_neg Bool.false_ne_true]

/-- On a port that is up a copy joins those that wait; one that is down sends none. -/
def State.pushUp (s : State) (p : Nat) (f : TxFr) : State := if s.b (Fld.ETH_STAT_LINK p) then s.ethPush p f else s

theorem State.pushUp_besideTx (s : State) (p : Nat) (f : TxFr) : (s.pushUp p f).besideTx = s.besideTx := by
  unfold State.pushUp
  rw [State.besideTx_ite, State.ethPush_besideTx, ite_self]

theorem State.pushUp_eth_ne (s : State) {p q : Nat} (f : TxFr) (h : q ≠ p) : (s.pushUp p f).eth q = s.eth q := by
  unfold State.pushUp
  split
  · exact State.ethPush_eth_ne s f h
  · rfl

theorem State.pushUp_sendsOn {s : State} {p : Nat} (h : s.b (Fld.ETH_STAT_LINK p) = true) (f : TxFr) : (s.pushUp p f).sendsOn p f := by
  rw [State.pushUp, if_pos h]
  exact State.ethPush_sendsOn s p f

theorem State.pushUp_b (s : State) (p : Nat) (f : TxFr) (F : Fld) : (s.pushUp p f).b F = s.b F :=
  State.b_eq _ _ F (State.rget_congr (State.regs_of_besideTx (s.pushUp_besideTx p f)) _)

/-- The frame `f` takes the next number of the PRP counter. -/
def State.prpNumbered (s : State) (f : TxFr) : State := (s.ipOpen f).1.incMod Fld.PRP_SEQ_SEQ 1

theorem State.prpNumbered_b (s : State) (f : TxFr) {F : Fld} (h : F.apart Fld.PRP_SEQ_SEQ = true) : (s.prpNumbered f).b F = s.b F :=
  (State.b_incMod_apart _ F Fld.PRP_SEQ_SEQ 1 (by decide) h).trans (State.b_eq _ _ F (State.rget_congr (s.ipOpen_regs f) _))

/-- The copy of `f` for port `q`, where `p` is its own, with the number `n`. -/
def TxFr.copyFor (f : TxFr) (p q lrs n : Nat) : TxFr := { f with txbuf := f.txbuf && decide (p = q), lrs := lrs, rct := some n }

theorem Fld.link_apart_prpSeq : ∀ p < 2, (Fld.ETH_STAT_LINK p).apart Fld.PRP_SEQ_SEQ = true := by decide

/-- While PRP is active a frame other than a PTP frame takes a number and goes to each port that is up; one of TXBUF has its own port up here. -/
theorem State.ethSend_paired {s : State} {p : Nat} {f : TxFr} (hprp : s.prpActive = true) (hcls : f.cls ≠ 0) (hp : p < 2)
    (hown : f.txbuf = true → s.b (Fld.ETH_STAT_LINK p) = true) :
    ∃ l n, s.ethSend p f =
      ((s.prpNumbered f).pushUp 0 ((s.ipOpen f).2.copyFor p 0 (s.ipOpen f).2.lrs n)).pushUp 1 ((s.ipOpen f).2.copyFor p 1 l n) := by
  obtain ⟨-, -, hcls', htxbuf⟩ := s.ipOpen_keeps f
  have hboth : ((s.ipOpen f).1.prpActive && (s.ipOpen f).2.cls != 0) = true := by
    rw [State.ipOpen_prpActive, hprp, hcls', Bool.true_and, bne_iff_ne]
    exact hcls
  have hnum : (s.ipOpen f).1.incMod Fld.PRP_SEQ_SEQ 1 = s.prpNumbered f := rfl
  have hstays : ((s.ipOpen f).2.txbuf && !if p = 0 then (s.prpNumbered f).b (Fld.ETH_STAT_LINK 0) else (s.prpNumbered f).b (Fld.ETH_STAT_LINK 1)) = false := by
    rw [htxbuf, s.prpNumbered_b f (Fld.link_apart_prpSeq 0 (by decide)), s.prpNumbered_b f (Fld.link_apart_prpSeq 1 (by decide))]
    cases hbuf : f.txbuf
    · rfl
    · have hup := hown hbuf
      interval_cases p <;> simp [hup]
  refine ⟨if (s.prpNumbered f).b (Fld.ETH_STAT_LINK 0) then 0 else (s.ipOpen f).2.lrs, (s.ipOpen f).1.f Fld.PRP_SEQ_SEQ, ?_⟩
  rw [State.pushUp, State.pushUp_b]
  unfold State.ethSend
  simp only [hboth, hnum, hstays, if_true, Bool.false_eq_true, if_false]
  rfl

/-- Sent on its own port, which is up where PRP is active, the frame is in transmission there or waits. -/
theorem State.ethSend_sendsOn {s : State} {p : Nat} (f : TxFr) (hp : p < 2) (hup : s.prpActive = false ∨ s.b (Fld.ETH_STAT_LINK p) = true) :
    ∃ g, (s.ethSend p f).sendsOn p g ∧ g.body = f.body ∧ g.txbuf = f.txbuf := by
  obtain ⟨-, hbody, -, htxbuf⟩ := s.ipOpen_keeps f
  by_cases h : s.prpActive = false ∨ f.cls = 0
  · rw [State.ethSend_alone h]
    exact ⟨_, State.ethPush_sendsOn _ p _, hbody, htxbuf⟩
  · obtain ⟨hprp, hcls⟩ := not_or.1 h
    have hown := hup.resolve_left hprp
    obtain ⟨l, n, hsend⟩ := State.ethSend_paired (Bool.eq_true_of_not_eq_false hprp) hcls hp fun _ => hown
    have hlink : (s.prpNumbered f).b (Fld.ETH_STAT_LINK p) = true := (s.prpNumbered_b f (Fld.link_apart_prpSeq p hp)).trans hown
    rw [hsend]
    obtain rfl | rfl : p = 0 ∨ p = 1 := by omega
    · refine ⟨(s.ipOpen f).2.copyFor 0 0 (s.ipOpen f).2.lrs n, ?_, hbody, (Bool.and_true _).trans htxbuf⟩
      rw [State.sendsOn, State.pushUp_eth_ne _ _ (by decide)]
      exact State.pushUp_sendsOn hlink _
    · exact ⟨(s.ipOpen f).2.copyFor 1 1 l n, State.pushUp_sendsOn ((State.pushUp_b _ _ _ _).trans hlink) _, hbody, (Bool.and_true _).trans htxbuf⟩

/-- Of the registers, a frame sent on its own port, which is up where PRP is active, changes the PRP counter at most. -/
theorem State.ethSend_b {s : State} {p : Nat} (f : TxFr) (hp : p < 2) (hup : s.prpActive = false ∨ s.b (Fld.ETH_STAT_LINK p) = true) {F : Fld}
    (hF : F.apart Fld.PRP_SEQ_SEQ = true) : (s.ethSend p f).b F = s.b F := by
  by_cases h : s.prpActive = false ∨ f.cls = 0
  · rw [State.ethSend_alone h]
    exact State.b_eq _ _ F (State.rget_congr ((State.regs_of_besideTx (State.ethPush_besideTx _ p _)).trans (s.ipOpen_regs f)) _)
  · obtain ⟨hprp, hcls⟩ := not_or.1 h
    obtain ⟨l, n, hsend⟩ := State.ethSend_paired (Bool.eq_true_of_not_eq_false hprp) hcls hp fun _ => hup.resolve_left hprp
    rw [hsend, State.pushUp_b, State.pushUp_b, State.prpNumbered_b s f hF]

/-! ## Beside registers and free values -/

/-- The streams' datagrams, and the ports beside the frames they transmit. -/
def State.sendView (s : State) : WortSt × (Nat → EthSt) := (s.wort, fun p => (s.eth p).besideTx)

theorem State.sendView_of_besideTx {s t : State} (h : t.besideTx = s.besideTx) : t.sendView = s.sendView :=
  Prod.ext (State.wort_of_besideTx h) (Prod.mk.inj h).2

theorem State.sendView_ite (c : Prop) [Decidable c] (a b : State) : (if c then a else b).sendView = if c then a.sendView else b.sendView := by
  split <;> rfl

/-- Sending a frame leaves the datagrams, and the ports beside their frames, as they are. -/
theorem State.ethSend_sendView (s : State) (p : Nat) (f : TxFr) : (s.ethSend p f).sendView = s.sendView := by
  have hpush (r : State) (q : Nat) (g : TxFr) : (r.ethPush q g).sendView = r.sendView := State.sendView_of_besideTx (r.ethPush_besideTx q g)
  have hopen : (s.ipOpen f).1.sendView = s.sendView := by
    have h := congrArg State.sendView (s.ipOpen_keeps f).1
    exact h
  have hset (r : State) (F : Fld) (b : Bool) : (r.setB F b).sendView = r.sendView := rfl
  have hinc (r : State) (F : Fld) (n : Nat) : (r.incMod F n).sendView = r.sendView := rfl
  simp only [State.ethSend, State.sendView_ite, hpush, hset, hinc, hopen, ite_self]

theorem State.ethSend_wort (s : State) (p : Nat) (f : TxFr) : (s.ethSend p f).wort = s.wort := congrArg Prod.fst (s.ethSend_sendView p f)

theorem State.ethSend_arp (s : State) (p : Nat) (f : TxFr) (q : Nat) : ((s.ethSend p f).eth q).arp = (s.eth q).arp := by
  have hport : ((s.ethSend p f).eth q).besideTx = (s.eth q).besideTx := congrFun (congrArg Prod.snd (s.ethSend_sendView p f)) q
  have harp := congrArg EthSt.arp hport
  exact harp

end Sys2Proof.Machine
end

section
namespace Sys2Proof.Machine

/-! # The length of a frame on the line (R265, R267, R269) -/

theorem length_padTo (n : Nat) (l : List Byte) : (padTo n l).length = max n l.length := by
  rw [padTo, List.length_append, List.length_replicate]
  omega

theorem State.vlanTag_length_le (s : State) (p : Nat) (b : List Byte) : (s.vlanTag p b).length ≤ b.length + 4 := by
  unfold State.vlanTag
  dsimp only
  split
  · omega
  · simp only [List.length_append, List.length_take, List.length_drop, be16, List.length_cons, List.length_nil]
    omega

theorem withRct_length_le (p : Nat) (rct : Option Nat) (b : List Byte) : (withRct p rct b).length ≤ max 60 (b.length + 6) := by
  cases rct with
  | none =>
    rw [withRct, length_padTo]
    omega
  | some q =>
    simp only [withRct, List.length_append, length_padTo, be16, List.length_cons, List.length_nil]
    omega

/-- Tag, trailer and FCS add 14 bytes at most, and the least length is 64. -/
theorem State.lineBytes_length_le (s : State) (p : Nat) (f : TxFr) : (s.lineBytes p f).length ≤ max 64 ((s.frameBody p f).length + 14) := by
  have hrct := withRct_length_le p f.rct (s.vlanTag p (s.frameBody p f))
  have htag := s.vlanTag_length_le p (s.frameBody p f)
  simp only [State.lineBytes, List.length_append, wordBytes, List.length_cons, List.length_nil]
  omega

/-! # ETHp_TXCMD (R267) -/

/-- A write of ETHp_TXCMD is stored. -/
def State.txcmdStored (s : State) (p : Nat) (v : Word) : State := s.rset (Reg.ETH_TXCMD p) (v &&& 0x400007FF)

/-- The frame in TXBUF that a write of `v` with GO sends. -/
def State.txFrame (s : State) (p : Nat) (v : Word) : TxFr :=
  let b := s.txbuf p (v.extractLsb' 0 11).toNat
  { cls := if (ptpOffset b).isSome then 0 else 4, body := .raw b, ts := v.getLsbD 30, txbuf := true }

theorem exec_ethTxcmdGo {p : Nat} (hp : p < 2) (v : Word) (s : State) : exec (.ethTxcmdGo p v) s = .next (s.txcmdWrite p v) :=
  congrArg Host.Outcome.next (if_pos hp)

theorem State.txcmdStored_busy (s : State) (p : Nat) (v : Word) : (s.txcmdStored p v).b (Fld.ETH_TXSTAT_BUSY p) = s.b (Fld.ETH_TXSTAT_BUSY p) :=
  State.b_eq _ _ _ (State.rget_rset_ne _ _ _ _ (by simp only [Fld.ETH_TXSTAT_BUSY, Reg.ETH_TXCMD]; omega))

theorem State.txcmdStored_len (s : State) (p : Nat) (v : Word) : (s.txcmdStored p v).f (Fld.ETH_TXCMD_LEN p) = (v.extractLsb' 0 11).toNat := by
  have hget : (s.txcmdStored p v).rget (Fld.ETH_TXCMD_LEN p).addr = v &&& 0x400007FF := State.rget_rset_self _ _ _
  rw [State.f, hget, BitVec.extractLsb'_toNat, Nat.shiftRight_zero]
  change (v &&& 0x400007FF).toNat / 2 ^ 0 % 2 ^ 11 = v.toNat % 2 ^ 11
  rw [pow_zero, Nat.div_one, BitVec.toNat_and, ← Nat.and_two_pow_sub_one_eq_mod, ← Nat.and_two_pow_sub_one_eq_mod, Nat.and_assoc]
  rfl

theorem State.txcmdStored_tsreq (s : State) (p : Nat) (v : Word) : (s.txcmdStored p v).b (Fld.ETH_TXCMD_TSREQ p) = v.getLsbD 30 := by
  have hget : (s.txcmdStored p v).rget (Fld.ETH_TXCMD_TSREQ p).addr = v &&& 0x400007FF := State.rget_rset_self _ _ _
  have hbit : (v &&& 0x400007FF).getLsbD 30 = v.getLsbD 30 := by simp
  rw [State.b, State.f, hget, ← hbit, BitVec.getLsbD, Nat.testBit_eq_decide_div_mod_eq]
  change ((v &&& 0x400007FF).toNat / 2 ^ 30 % 2 ^ 1 != 0) = _
  rcases Nat.mod_two_eq_zero_or_one ((v &&& 0x400007FF).toNat / 2 ^ 30) with h | h <;> rw [pow_one, h] <;> rfl

theorem State.txcmdStored_txbuf (s : State) (p n : Nat) (v : Word) : (s.txcmdStored p v).txbuf p n = s.txbuf p n := by
  have hget (i : Nat) : (s.txcmdStored p v).rget (Reg.ETH_TXBUF p i) = s.rget (Reg.ETH_TXBUF p i) :=
    State.rget_rset_ne _ _ _ _ (by simp only [Reg.ETH_TXBUF, Reg.ETH_TXCMD]; omega)
  simp only [State.txbuf, hget]

/-- Without GO, or with TXBUF in use, a write only stores. -/
theorem State.txcmdWrite_stores {s : State} {p : Nat} {v : Word} (h : v.msb = false ∨ s.b (Fld.ETH_TXSTAT_BUSY p) = true) :
    s.txcmdWrite p v = s.txcmdStored p v := by
  have hquiet : (!v.msb || (s.txcmdStored p v).b (Fld.ETH_TXSTAT_BUSY p)) = true := by
    rw [s.txcmdStored_busy]
    rcases h with h | h <;> simp [h]
  exact if_pos hquiet

/-- With GO the frame in TXBUF, which is free and holds no more than a frame may, goes out. -/
theorem State.txcmdWrite_goes {s : State} {p : Nat} {v : Word} (hgo : v.msb = true) (hfree : s.b (Fld.ETH_TXSTAT_BUSY p) = false)
    (hlen : (v.extractLsb' 0 11).toNat ≤ 1514) :
    s.txcmdWrite p v = ((s.txcmdStored p v).setB (Fld.ETH_TXSTAT_BUSY p) true).ethSend p (s.txFrame p v) := by
  have hstart : (!v.msb || (s.txcmdStored p v).b (Fld.ETH_TXSTAT_BUSY p)) = false := by
    rw [s.txcmdStored_busy, hgo, hfree]
    rfl
  have hfits (n : Option Nat) : ¬ 1528 < ((s.txcmdStored p v).lineBytes p { s.txFrame p v with rct := n }).length := by
    have hline := (s.txcmdStored p v).lineBytes_length_le p { s.txFrame p v with rct := n }
    have hbody : ((s.txcmdStored p v).frameBody p { s.txFrame p v with rct := n }).length ≤ (v.extractLsb' 0 11).toNat := List.length_take_le _ _
    omega
  have hstored : s.rset (Reg.ETH_TXCMD p) (v &&& 0x400007FF) = s.txcmdStored p v := rfl
  unfold State.txcmdWrite
  simp only [hstored, hstart, s.txcmdStored_len, s.txcmdStored_tsreq, s.txcmdStored_txbuf, Bool.false_eq_true, if_false]
  exact if_neg (hfits _)

/-- TXBUF is taken. -/
def State.txbufTaken (s : State) (p : Nat) (v : Word) : State := (s.txcmdStored p v).setB (Fld.ETH_TXSTAT_BUSY p) true

theorem State.txbufTaken_regsBut (s : State) (p : Nat) (v : Word) : State.regsBut [Reg.ETH_TXCMD p, (Fld.ETH_TXSTAT_BUSY p).addr] s (s.txbufTaken p v) :=
  State.regsBut_setB _ _ (State.regsBut_rset _ _ (State.regsBut_refl _ s) (by simp)) (by simp)

theorem State.txbufTaken_busy (s : State) (p : Nat) (v : Word) : (s.txbufTaken p v).b (Fld.ETH_TXSTAT_BUSY p) = true := State.b_setB_self _ _ _ rfl rfl

theorem Reg.ethLink_offTxcmd : ∀ p < 2, (∀ a ∈ Reg.prpRegs, a ∉ [Reg.ETH_TXCMD p, (Fld.ETH_TXSTAT_BUSY p).addr]) ∧
    (Fld.ETH_STAT_LINK p).addr ∉ [Reg.ETH_TXCMD p, (Fld.ETH_TXSTAT_BUSY p).addr] ∧ (Fld.ETH_TXSTAT_BUSY p).apart Fld.PRP_SEQ_SEQ = true := by decide

theorem State.txbufTaken_link {p : Nat} (hp : p < 2) (s : State) (v : Word) : (s.txbufTaken p v).prpActive = s.prpActive ∧
    (s.txbufTaken p v).b (Fld.ETH_STAT_LINK p) = s.b (Fld.ETH_STAT_LINK p) := by
  obtain ⟨hprp, hlink, -⟩ := Reg.ethLink_offTxcmd p hp
  exact ⟨State.prpActive_congr fun a ha => s.txbufTaken_regsBut p v a (hprp a ha), State.b_eq _ _ _ (s.txbufTaken_regsBut p v _ hlink)⟩

/-! ## The clauses -/

theorem ethTxcmdGo_stores (p : Nat) (v : Word) (s : State) (hp : p < 2) (hgo : v.msb = false) :
    Answers (.ethTxcmdGo p v) s (fun t => t.rget (Reg.ETH_TXCMD p) = v &&& 0x400007FF ∧ State.regsBut [Reg.ETH_TXCMD p] s t ∧ { t with regs := s.regs } = s) := by
  refine ⟨s.txcmdStored p v, ?_, State.rget_rset_self _ _ _, State.regsBut_rset _ _ (State.regsBut_refl _ s) (by simp), rfl⟩
  rw [exec_ethTxcmdGo hp, State.txcmdWrite_stores (.inl hgo)]

theorem ethTxcmdGo_ignored (p : Nat) (v : Word) (s : State) (hp : p < 2) (hbusy : s.b (Fld.ETH_TXSTAT_BUSY p) = true) :
    Answers (.ethTxcmdGo p v) s (fun t => t.b (Fld.ETH_TXSTAT_BUSY p) = true ∧ t.rget (Reg.ETH_TXCMD p) = v &&& 0x400007FF ∧ { t with regs := s.regs } = s) := by
  refine ⟨s.txcmdStored p v, ?_, (s.txcmdStored_busy p v).trans hbusy, State.rget_rset_self _ _ _, rfl⟩
  rw [exec_ethTxcmdGo hp, State.txcmdWrite_stores (.inr hbusy)]

/-- With GO and a port that is down the frame waits. -/
theorem ethTxcmdGo_waits (p : Nat) (v : Word) (s : State) (hp : p < 2) (hgo : v.msb = true) (hfree : s.b (Fld.ETH_TXSTAT_BUSY p) = false)
    (hprp : s.prpActive = false) (hdown : s.b (Fld.ETH_STAT_LINK p) = false) (hlen : (v.extractLsb' 0 11).toNat ≤ 1514) :
    Answers (.ethTxcmdGo p v) s (fun t => t.b (Fld.ETH_TXSTAT_BUSY p) = true ∧
      (∃ f : TxFr, (t.eth p).wait = (s.eth p).wait ++ [f] ∧ f.txbuf = true ∧ f.ts = v.getLsbD 30 ∧ f.body = .raw (s.txbuf p (v.extractLsb' 0 11).toNat)) ∧
      State.regsBut [Reg.ETH_TXCMD p, (Fld.ETH_TXSTAT_BUSY p).addr] s t ∧ { t with regs := s.regs, eths := s.eths } = s) := by
  obtain ⟨hprp', hlink⟩ := State.txbufTaken_link hp s v
  refine ⟨(s.txbufTaken p v).setEth p { s.eth p with wait := (s.eth p).wait ++ [s.txFrame p v] }, ?_, s.txbufTaken_busy p v,
    ⟨s.txFrame p v, congrArg EthSt.wait (State.eth_setEth_self _ p _), rfl, rfl, rfl⟩,
    State.regsBut_of (s.txbufTaken_regsBut p v) (State.setEth_regs _ p _),
    State.eq_of_besideEth (by simp [State.txbufTaken, State.txcmdStored])⟩
  rw [exec_ethTxcmdGo hp, State.txcmdWrite_goes hgo hfree hlen, ← State.txbufTaken, State.ethSend_alone (.inl (hprp'.trans hprp)),
    State.ipOpen_raw _ rfl, State.ethPush_down (hlink.trans hdown)]
  rfl

/-- With GO the frame is in transmission or waits, on a port that is up where PRP is active. -/
theorem ethTxcmdGo_sends (p : Nat) (v : Word) (s : State) (hp : p < 2) (hgo : v.msb = true) (hfree : s.b (Fld.ETH_TXSTAT_BUSY p) = false)
    (hup : s.prpActive = false ∨ s.b (Fld.ETH_STAT_LINK p) = true) (hlen : (v.extractLsb' 0 11).toNat ≤ 1514) :
    Answers (.ethTxcmdGo p v) s (fun t => t.b (Fld.ETH_TXSTAT_BUSY p) = true ∧
      (∃ f : TxFr, ((t.eth p).cur = some f ∨ f ∈ (t.eth p).wait) ∧ f.txbuf = true ∧ f.body = .raw (s.txbuf p (v.extractLsb' 0 11).toNat)) ∧ t.dev = s.dev) := by
  obtain ⟨-, -, hapart⟩ := Reg.ethLink_offTxcmd p hp
  obtain ⟨hprp', hlink⟩ := State.txbufTaken_link hp s v
  have hup' : (s.txbufTaken p v).prpActive = false ∨ (s.txbufTaken p v).b (Fld.ETH_STAT_LINK p) = true := by rwa [hprp', hlink]
  obtain ⟨f, hsends, hbody, htxbuf⟩ := State.ethSend_sendsOn (s.txFrame p v) hp hup'
  refine ⟨(s.txbufTaken p v).ethSend p (s.txFrame p v), ?_, ?_, ⟨f, hsends, htxbuf, hbody⟩, ?_⟩
  · rw [exec_ethTxcmdGo hp, State.txcmdWrite_goes hgo hfree hlen, ← State.txbufTaken]
  · rw [State.ethSend_b _ hp hup' hapart, s.txbufTaken_busy]
  · exact State.ethSend_dev _ p _

/-! # PRP supervision (R271) -/

theorem prpSupervisionSend_idle (s : State) (h : s.supDue = false) : Answers .prpSupervisionSend s (fun t => t = s) :=
  ⟨s, congrArg Host.Outcome.next (if_neg (by rw [h]; exact Bool.false_ne_true)), rfl⟩

theorem State.prpActive_of_supDue {s : State} (h : s.supDue = true) : s.prpActive = true := (Bool.and_eq_true_iff.1 h).1

/-- A supervision frame is counted, and its time noted. -/
def State.supCounted (s : State) : State := s.setEth 0 { s.eth 0 with supSeq := ((s.eth 0).supSeq + 1) % 65536, supMs := some s.ms }

/-- A supervision frame that is due takes a number of the PRP counter, whichever ports are up. -/
theorem prpSupervisionSend_counts (s : State) (h : s.supDue = true) :
    Answers .prpSupervisionSend s (fun t => t.f Fld.PRP_SEQ_SEQ = (s.f Fld.PRP_SEQ_SEQ + 1) % 65536 ∧ (t.eth 0).supMs = some s.ms ∧
      (t.eth 0).supSeq = ((s.eth 0).supSeq + 1) % 65536 ∧ State.regsBut [Reg.PRP_SEQ] s t ∧ { t with regs := s.regs, eths := s.eths } = s) := by
  have hprp : s.supCounted.prpActive = true := State.prpActive_of_supDue (s := s) h
  obtain ⟨l, n, hsend⟩ := State.ethSend_paired (p := 0) (f := { cls := 1, body := .supervision (s.eth 0).supSeq }) hprp Nat.one_ne_zero (by decide)
    fun hbuf => absurd hbuf Bool.false_ne_true
  have hbeside : (s.supCounted.ethSend 0 { cls := 1, body := .supervision (s.eth 0).supSeq }).besideTx = (s.supCounted.incMod Fld.PRP_SEQ_SEQ 1).besideTx := by
    rw [hsend, State.pushUp_besideTx, State.pushUp_besideTx]
    rfl
  have hregs := State.regs_of_besideTx hbeside
  have hport : (s.supCounted.incMod Fld.PRP_SEQ_SEQ 1).eth 0 = { s.eth 0 with supSeq := ((s.eth 0).supSeq + 1) % 65536, supMs := some s.ms } :=
    State.eth_setEth_self s 0 _
  have hsup := (congrFun (congrArg Prod.snd hbeside) 0).trans (congrArg EthSt.besideTx hport)
  exact ⟨_, congrArg Host.Outcome.next (if_pos h), (State.f_congr hregs _).trans (State.f_incMod_self _ _ _ (by decide)), congrArg EthSt.supMs hsup,
    congrArg EthSt.supSeq hsup, State.regsBut_of (State.regsBut_setF _ _ (State.regsBut_refl _ s) (by decide)) hregs,
    State.eq_of_besideEth ((State.besideEth_of_besideTx hbeside).trans (by simp [State.supCounted]))⟩

end Sys2Proof.Machine
end

section
namespace Sys2Proof.Machine

/-! # The end of a frame (R267, R279, R361) -/

/-- Of the frames that wait one is the best, if any waits. -/
theorem bestTx_eq_none {l : List TxFr} (h : bestTx l = none) : l = [] := by
  cases l with
  | nil => rfl
  | cons f l =>
    unfold bestTx at h
    split at h
    · cases h
    · split at h <;> cases h

/-- A frame is counted as sent, or as discarded where its parity is wrong. -/
def State.txCounted (s : State) (p : Nat) (par : Bool) : State :=
  if par then s.incSat (Fld.ETH_CNT_RXBAD_FILT p) 1 else s.incMod (Fld.ETH_CNT_TX_FRAMES p) 1

/-- The end of the frame `f` frees TXBUF where `f` holds it. -/
def State.txFreed (s : State) (p : Nat) (f : TxFr) : State := if f.txbuf then s.setB (Fld.ETH_TXSTAT_BUSY p) false else s

/-- Port `p` is idle after the frame `f`, counted and no longer in TXBUF. -/
def State.txEnded (s : State) (p : Nat) (f : TxFr) (par : Bool) : State := ((s.setEth p { s.eth p with cur := none }).txCounted p par).txFreed p f

/-- The port lets its copy of a datagram go. -/
def State.txReleased (s : State) (f : TxFr) : State := match f.dg with | some (k, q) => (s.dgSent k q).dgRelease k q | none => s

theorem State.dgRelease_regs_eths (s : State) (k q : Nat) : (s.dgRelease k q).regs = s.regs ∧ (s.dgRelease k q).eths = s.eths := by
  unfold State.dgRelease
  split
  · exact ⟨rfl, rfl⟩
  · split
    · exact ⟨rfl, rfl⟩
    · split <;> exact ⟨rfl, rfl⟩

theorem State.txReleased_regs_eths (s : State) (f : TxFr) : (s.txReleased f).regs = s.regs ∧ (s.txReleased f).eths = s.eths := by
  unfold State.txReleased
  split
  · exact State.dgRelease_regs_eths _ _ _
  · exact ⟨rfl, rfl⟩

/-- The rest of the row: a frame that asks for a stamp, its parity right, adds one to those of the port or loses it, and then the port starts its next frame. -/
theorem execEthFrameTransmitDone_ends {p : Nat} {s : State} {f : TxFr} (hp : p < 2) (hcur : (s.eth p).cur = some f) (d : Nat) (par : Bool) :
    ∃ r : State, execEthFrameTransmitDone p d s par = .next (r.ethKick p) ∧
      (r = (s.txEnded p f par).txReleased f ∨ f.ts = true ∧ par = false ∧
        ((∃ x, r = ((s.txEnded p f par).txReleased f).setEth p x) ∨ r = ((s.txEnded p f par).txReleased f).raise (Cause.ETH_TXTS_LOST p))) := by
  unfold execEthFrameTransmitDone
  extract_lets x
  rw [if_neg (Nat.not_le.2 hp)]
  split
  · next hnone => exact absurd (hcur.symm.trans hnone) (by simp)
  · next g hg =>
    obtain rfl : f = g := Option.some.inj (hcur.symm.trans hg)
    extract_lets freed released cap time port stamped
    have hreleased : released = (s.txEnded p f par).txReleased f := rfl
    clear_value released
    refine ⟨stamped, rfl, ?_⟩
    rw [← hreleased]
    simp only [stamped]
    split
    · next hstamp _ =>
      obtain ⟨hts, hpar⟩ := Bool.and_eq_true_iff.1 hstamp
      refine .inr ⟨hts, by simpa using hpar, ?_⟩
      split
      · exact .inl ⟨_, rfl⟩
      · exact .inr rfl
    · exact .inl rfl

/-! ## What the end of a frame shows -/

/-- The fields that the end of a frame touches, each apart from the others and from the cause of a lost stamp. -/
theorem Fld.txEnd_apart : ∀ p < 2, (Fld.ETH_TXSTAT_BUSY p).fits = true ∧ (Fld.ETH_CNT_TX_FRAMES p).fits = true ∧ (Fld.ETH_CNT_RXBAD_FILT p).fits = true ∧
    (Fld.ETH_CNT_TX_FRAMES p).apart (Fld.ETH_TXSTAT_BUSY p) = true ∧ (Fld.ETH_CNT_RXBAD_FILT p).apart (Fld.ETH_TXSTAT_BUSY p) = true ∧
    (Fld.ETH_CNT_TX_FRAMES p).apart (Fld.ETH_CNT_RXBAD_FILT p) = true := by decide

/-- The cause of a lost stamp and its counter share no bit with the field `F`. -/
def Fld.offLost (F : Fld) (p : Nat) : Bool := F.apart (Cause.ETH_TXTS_LOST p).fld && F.apart (Cause.ETH_TXTS_LOST p).cnt

theorem Fld.txEnd_offLost : ∀ p < 2, (Fld.ETH_TXSTAT_BUSY p).offLost p = true ∧ (Fld.ETH_CNT_TX_FRAMES p).offLost p = true ∧
    (Cause.ETH_TXTS_LOST p).fld.fits = true ∧ (Cause.ETH_TXTS_LOST p).cnt.fits = true := by decide

/-- Beside the cause of a lost stamp, the end of a frame leaves the fields as `State.txEnded` has them. -/
theorem execEthFrameTransmitDone_f {p : Nat} {s : State} {f : TxFr} (hp : p < 2) (hcur : (s.eth p).cur = some f) (d : Nat) (par : Bool) :
    ∃ t, execEthFrameTransmitDone p d s par = .next t ∧ ∀ F : Fld, F.offLost p = true → t.f F = (s.txEnded p f par).f F := by
  obtain ⟨-, -, hfld, hcnt⟩ := Fld.txEnd_offLost p hp
  obtain ⟨r, hexec, hr⟩ := execEthFrameTransmitDone_ends hp hcur d par
  refine ⟨_, hexec, fun F hF => (State.f_congr (State.regs_of_besideTx (r.ethKick_besideTx p)) F).trans ?_⟩
  have hreleased : ((s.txEnded p f par).txReleased f).f F = (s.txEnded p f par).f F := State.f_congr (State.txReleased_regs_eths _ f).1 F
  obtain ⟨hafld, hacnt⟩ := Bool.and_eq_true_iff.1 hF
  rcases hr with rfl | ⟨-, -, ⟨x, rfl⟩ | rfl⟩
  · exact hreleased
  · exact hreleased
  · exact (State.f_raise_apart _ F _ hfld hcnt hafld hacnt).trans hreleased

theorem State.txEnded_frames {p : Nat} (hp : p < 2) (s : State) (f : TxFr) (par : Bool) : (s.txEnded p f par).f (Fld.ETH_CNT_TX_FRAMES p) =
    if par then s.f (Fld.ETH_CNT_TX_FRAMES p) else (s.f (Fld.ETH_CNT_TX_FRAMES p) + 1) % 2 ^ (Fld.ETH_CNT_TX_FRAMES p).w := by
  obtain ⟨hbusy, hframes, hfilt, habusy, -, hafilt⟩ := Fld.txEnd_apart p hp
  have hfreed (r : State) : (r.txFreed p f).f (Fld.ETH_CNT_TX_FRAMES p) = r.f (Fld.ETH_CNT_TX_FRAMES p) := by
    unfold State.txFreed
    split
    · exact State.f_setB_apart _ _ _ _ hbusy habusy
    · rfl
  rw [State.txEnded, hfreed, State.txCounted]
  cases par
  · exact State.f_incMod_self _ _ _ hframes
  · exact State.f_incSat_apart _ _ _ _ hfilt hafilt

theorem State.txEnded_filt {p : Nat} (hp : p < 2) (s : State) (f : TxFr) : (s.txEnded p f true).f (Fld.ETH_CNT_RXBAD_FILT p) =
    min (2 ^ (Fld.ETH_CNT_RXBAD_FILT p).w - 1) (s.f (Fld.ETH_CNT_RXBAD_FILT p) + 1) := by
  obtain ⟨hbusy, -, hfilt, -, habusy, -⟩ := Fld.txEnd_apart p hp
  refine Eq.trans ?_ (State.f_incSat_self (s.setEth p { s.eth p with cur := none }) _ 1 hfilt)
  unfold State.txEnded State.txFreed
  split
  · exact State.f_setB_apart _ _ _ _ hbusy habusy
  · rfl

theorem State.txEnded_busy {s : State} {p : Nat} {f : TxFr} (hbuf : f.txbuf = true) (par : Bool) : (s.txEnded p f par).b (Fld.ETH_TXSTAT_BUSY p) = false := by
  rw [State.txEnded, State.txFreed, if_pos hbuf]
  exact State.b_setB_self _ _ _ rfl rfl

theorem State.txEnded_eth (s : State) (p : Nat) (f : TxFr) (par : Bool) : (s.txEnded p f par).eth p = { s.eth p with cur := none } := by
  have heths : (s.txEnded p f par).eths = (s.setEth p { s.eth p with cur := none }).eths := by
    unfold State.txEnded State.txFreed State.txCounted
    split <;> split <;> rfl
  rw [State.eth_congr heths, State.eth_setEth_self]

/-! ## The clauses -/

theorem ethFrameTransmitDone_idle (p d : Nat) (par : Bool) (s : State) (hp : p < 2) (hcur : (s.eth p).cur = none) :
    Answers (.ethFrameTransmitDone p d par) s (fun t => t = s) := by
  refine ⟨s, ?_, rfl⟩
  change execEthFrameTransmitDone p d s par = _
  simp only [execEthFrameTransmitDone, Nat.not_le.2 hp, hcur, if_false]

theorem ethFrameTransmitDone_dev {p d : Nat} {par : Bool} {s t : State} (h : execEthFrameTransmitDone p d s par = .next t) : t.dev = s.dev := by
  have hdev := execEthFrameTransmitDone_dev p d s par
  rwa [h] at hdev

theorem ethFrameTransmitDone_counts (p d : Nat) (f : TxFr) (s : State) (hp : p < 2) (hcur : (s.eth p).cur = some f) :
    Answers (.ethFrameTransmitDone p d false) s (fun t =>
      t.f (Fld.ETH_CNT_TX_FRAMES p) = (s.f (Fld.ETH_CNT_TX_FRAMES p) + 1) % 2 ^ (Fld.ETH_CNT_TX_FRAMES p).w ∧ t.dev = s.dev) := by
  obtain ⟨-, hframes, -⟩ := Fld.txEnd_offLost p hp
  obtain ⟨t, ht, hf⟩ := execEthFrameTransmitDone_f hp hcur d false
  exact ⟨t, ht, (hf _ hframes).trans (State.txEnded_frames hp s f false), ethFrameTransmitDone_dev ht⟩

theorem ethFrameTransmitDone_frees (p d : Nat) (par : Bool) (f : TxFr) (s : State) (hp : p < 2) (hcur : (s.eth p).cur = some f) (hbuf : f.txbuf = true) :
    Answers (.ethFrameTransmitDone p d par) s (fun t => t.b (Fld.ETH_TXSTAT_BUSY p) = false ∧ t.dev = s.dev) := by
  obtain ⟨hbusy, -⟩ := Fld.txEnd_offLost p hp
  obtain ⟨t, ht, hf⟩ := execEthFrameTransmitDone_f hp hcur d par
  exact ⟨t, ht, (congrArg (· != 0) (hf _ hbusy)).trans (State.txEnded_busy hbuf par), ethFrameTransmitDone_dev ht⟩

/-- A frame without a stamp, or one whose parity is wrong, ends with the release of its datagram. -/
theorem execEthFrameTransmitDone_unstamped {p : Nat} {s : State} {f : TxFr} (hp : p < 2) (hcur : (s.eth p).cur = some f) (d : Nat) {par : Bool}
    (h : f.ts = false ∨ par = true) : execEthFrameTransmitDone p d s par = .next (((s.txEnded p f par).txReleased f).ethKick p) := by
  obtain ⟨r, hexec, rfl | ⟨hts, hpar, -⟩⟩ := execEthFrameTransmitDone_ends hp hcur d par
  · exact hexec
  · simp [hts, hpar] at h

theorem ethFrameTransmitDone_discards (p d : Nat) (f : TxFr) (s : State) (hp : p < 2) (hcur : (s.eth p).cur = some f) :
    Answers (.ethFrameTransmitDone p d true) s (fun t =>
      t.f (Fld.ETH_CNT_RXBAD_FILT p) = min (2 ^ (Fld.ETH_CNT_RXBAD_FILT p).w - 1) (s.f (Fld.ETH_CNT_RXBAD_FILT p) + 1) ∧
      t.f (Fld.ETH_CNT_TX_FRAMES p) = s.f (Fld.ETH_CNT_TX_FRAMES p) ∧ (t.eth p).txts = (s.eth p).txts) := by
  have hkick := ((s.txEnded p f true).txReleased f).ethKick_besideTx p
  obtain ⟨hregs, heths⟩ := (s.txEnded p f true).txReleased_regs_eths f
  have hf (F : Fld) : (((s.txEnded p f true).txReleased f).ethKick p).f F = (s.txEnded p f true).f F :=
    State.f_congr ((State.regs_of_besideTx hkick).trans hregs) F
  have htxts : (((s.txEnded p f true).txReleased f).eth p).txts = (s.eth p).txts := by
    rw [State.eth_congr heths, State.txEnded_eth]
  exact ⟨_, execEthFrameTransmitDone_unstamped hp hcur d (.inr rfl), (hf _).trans (State.txEnded_filt hp s f), (hf _).trans (State.txEnded_frames hp s f true),
    (congrArg EthSt.txts (congrFun (congrArg Prod.snd hkick) p)).trans htxts⟩

/-- With nothing left to send the port is idle then. -/
theorem ethFrameTransmitDone_idles (p d : Nat) (f : TxFr) (s : State) (hp : p < 2) (hcur : (s.eth p).cur = some f) (hts : f.ts = false) (hbuf : f.txbuf = true)
    (hdg : f.dg = none) (hwait : bestTx (s.eth p).wait = none) :
    Answers (.ethFrameTransmitDone p d false) s (fun t => t.b (Fld.ETH_TXSTAT_BUSY p) = false ∧ (t.eth p).cur = none ∧ (t.eth p).wait = (s.eth p).wait ∧
      t.f (Fld.ETH_CNT_TX_FRAMES p) = (s.f (Fld.ETH_CNT_TX_FRAMES p) + 1) % 2 ^ (Fld.ETH_CNT_TX_FRAMES p).w ∧
      State.regsBut [(Fld.ETH_CNT_TX_FRAMES p).addr, (Fld.ETH_TXSTAT_BUSY p).addr] s t ∧ { t with regs := s.regs, eths := s.eths } = s) := by
  have hport := s.txEnded_eth p f false
  have hended : s.txEnded p f false = ((s.setEth p { s.eth p with cur := none }).incMod (Fld.ETH_CNT_TX_FRAMES p) 1).setB (Fld.ETH_TXSTAT_BUSY p) false := if_pos hbuf
  have hexec : execEthFrameTransmitDone p d s false = .next (s.txEnded p f false) := by
    rw [execEthFrameTransmitDone_unstamped hp hcur d (.inl hts), State.txReleased, hdg, State.ethKick_nothing]
    rw [hport]
    exact bestTx_eq_none hwait
  refine ⟨_, hexec, State.txEnded_busy hbuf false, by rw [hport], by rw [hport], State.txEnded_frames hp s f false, ?_, ?_⟩
  · rw [hended]
    exact State.regsBut_setB _ _ (State.regsBut_setF _ _ (State.regsBut_of (State.regsBut_refl _ s) (State.setEth_regs s p _)) (by simp)) (by simp)
  · exact State.eq_of_besideEth (by simp [hended])

end Sys2Proof.Machine
end

section
namespace Sys2Proof.Machine

/-! # Datagrams on their way to a port (R213, R214) -/

/-- The port that takes datagrams: ETH0 while PRP is active, and else that of WORT_ETH (R214). -/
def State.dgPort (s : State) : Nat := if s.prpActive then 0 else s.ef Fld.WORT_ETH_PORT

/-- Where port `p` sends the datagrams of stream `k`. -/
def State.dgDst (s : State) (k p : Nat) : Nat := if k = 0 then s.f (Fld.ETH_PDST_ADDR (s.ethOf p)) else s.f (Fld.ETH_LDST_ADDR (s.ethOf p))

/-- A port that is up, and a device with an image and not in PARK, let datagrams go. -/
structure State.dgOn (s : State) : Prop where
  up : s.b (Fld.ETH_STAT_LINK s.dgPort) = true
  image : s.noImage = false
  awake : s.dev ≠ .park

theorem State.dgPort_alone {s : State} (h : s.prpActive = false) : s.dgPort = s.ef Fld.WORT_ETH_PORT := by
  rw [State.dgPort, h, if_neg Bool.false_ne_true]

theorem State.ethOf_alone {s : State} (h : s.prpActive = false) (p : Nat) : s.ethOf p = p := by
  rw [State.ethOf, h, if_neg Bool.false_ne_true]

theorem State.dgDst_alone {s : State} (h : s.prpActive = false) (k p : Nat) :
    s.dgDst k p = if k = 0 then s.f (Fld.ETH_PDST_ADDR p) else s.f (Fld.ETH_LDST_ADDR p) := by
  rw [State.dgDst, s.ethOf_alone h]

/-- The oldest datagram of a stream, with no port, goes out where its destination is resolved, and else asks for it. -/
theorem execDatagramSend_on {s : State} {k : Nat} {d : Dgram} (hon : s.dgOn) (hk : k < 2) (hnext : s.dgNext k = some d) :
    (s.resolved s.dgPort (s.dgDst k s.dgPort) = true → execDatagramSend k s none = .next (s.dgSend s.dgPort k (s.dgDst k s.dgPort) d)) ∧
    (s.resolved s.dgPort (s.dgDst k s.dgPort) = false → ∀ err, execDatagramSend k s err = .next (s.arpAsk s.dgPort (s.nextHop s.dgPort (s.dgDst k s.dgPort)))) := by
  have hport : (if s.prpActive then 0 else s.ef Fld.WORT_ETH_PORT) = s.dgPort := rfl
  have hdst : (if k = 0 then s.f (Fld.ETH_PDST_ADDR (s.ethOf s.dgPort)) else s.f (Fld.ETH_LDST_ADDR (s.ethOf s.dgPort))) = s.dgDst k s.dgPort := rfl
  constructor
  · intro hres
    simp only [execDatagramSend, hport, hdst, hon.up, hon.image, decide_eq_false hon.awake, decide_eq_false (Nat.not_le.2 hk), hnext, hres, State.ethEcc,
      Bool.true_or, Bool.not_true, Bool.or_false, Bool.false_eq_true, if_false, ite_self]
  · intro hres err
    simp only [execDatagramSend, hport, hdst, hon.up, hon.image, decide_eq_false hon.awake, decide_eq_false (Nat.not_le.2 hk), hnext, hres,
      Bool.true_or, Bool.not_true, Bool.not_false, Bool.or_false, Bool.false_eq_true, if_false, if_true]

/-! ## A datagram is handed to its port -/

/-- The number of the datagram `d` of stream `k`: its own, or the stream's next. -/
def State.dgSeq (s : State) (k : Nat) (d : Dgram) : Nat := d.seq.getD (if k = 0 then s.wort.dseq0 else s.wort.dseq1)

/-- The datagram `d` of stream `k`, the oldest, has a number and a port. -/
def State.dgHanded (s : State) (k : Nat) (d : Dgram) : State :=
  s.withWort { s.wort with
    dseq0 := if k = 0 ∧ d.seq = none then (s.wort.dseq0 + 1) % 2 ^ 32 else s.wort.dseq0
    dseq1 := if k = 1 ∧ d.seq = none then (s.wort.dseq1 + 1) % 2 ^ 32 else s.wort.dseq1
    dgrams := setFirst k { d with seq := some (s.dgSeq k d), handed := true } s.wort.dgrams }

/-- The frame that carries the datagram `d` of stream `k` from port `p` to `dst`. -/
def State.dgFrame (s : State) (p k dst : Nat) (d : Dgram) : TxFr :=
  { cls := if k = 0 then 5 else 3, lrs := if k = 0 then 0 else d.recs.length, dg := some (k, s.dgSeq k d)
    body := .udp (BitVec.ofNat 32 dst) (s.f (Fld.ETH_SPORT_SPORT (s.ethOf p)))
      (if k = 0 then s.f (Fld.ETH_PORTS_PPORT (s.ethOf p)) else s.f (Fld.ETH_PORTS_LPORT (s.ethOf p)))
      (if k = 0 then s.f (Fld.ETH_DSCP_PTS (s.ethOf p)) else s.f (Fld.ETH_DSCP_LRS (s.ethOf p)))
      (dgramBytes k (s.f Fld.TOP_STRAP_HID) (s.dgSeq k d) (d.recs.flatMap (·.words))) }

theorem State.dgSend_eq {k : Nat} (hk : k < 2) (s : State) (p dst : Nat) (d : Dgram) : s.dgSend p k dst d = (s.dgHanded k d).ethSend p (s.dgFrame p k dst d) := by
  obtain rfl | rfl : k = 0 ∨ k = 1 := by omega
  all_goals
    unfold State.dgSend State.dgHanded
    cases hseq : d.seq <;> simp [State.dgFrame, State.dgSeq, hseq]

theorem find?_setFirst {k : Nat} {d e : Dgram} (he : e.stream = k) :
    ∀ {l : List Dgram}, l.find? (fun d => d.stream = k) = some d → (setFirst k e l).find? (fun d => d.stream = k) = some e
  | [], h => by cases h
  | c :: l, h => by
    unfold setFirst
    split
    · exact List.find?_cons_of_pos (by simpa using he)
    · next hc =>
      rw [List.find?_cons_of_neg (by simpa using hc)] at h ⊢
      exact find?_setFirst he h

/-- A datagram that a port has is not the next to go. -/
theorem State.dgNext_dgHanded {s : State} {k : Nat} {d : Dgram} (h : s.dgNext k = some d) : (s.dgHanded k d).dgNext k = none := by
  obtain ⟨hfind, -⟩ := Option.filter_eq_some_iff.1 h
  have hstream : d.stream = k := by simpa using List.find?_some hfind
  have hfirst := find?_setFirst (e := { d with seq := some (s.dgSeq k d), handed := true }) hstream hfind
  rw [State.dgNext]
  change (List.find? _ (setFirst k _ s.wort.dgrams)).filter _ = none
  rw [hfirst]
  rfl

theorem State.dgSend_wort {k : Nat} (hk : k < 2) (s : State) (p dst : Nat) (d : Dgram) : (s.dgSend p k dst d).wort = (s.dgHanded k d).wort := by
  rw [State.dgSend_eq hk, State.ethSend_wort]

theorem State.dgNext_dgSend {s : State} {k : Nat} (hk : k < 2) {d : Dgram} (h : s.dgNext k = some d) (p dst : Nat) : (s.dgSend p k dst d).dgNext k = none := by
  rw [← State.dgNext_dgHanded h]
  unfold State.dgNext
  rw [State.dgSend_wort hk]

/-! ## A destination is asked for (R265) -/

theorem State.nextHop_lt {s : State} (p : Nat) {dst : Nat} (h : dst < 2 ^ 32) : s.nextHop p dst < 2 ^ 32 := by
  have hgw : s.f (Fld.ETH_GW_ADDR (s.ethOf p)) < 2 ^ 32 := State.f_lt _ _
  unfold State.nextHop
  dsimp only
  split
  · exact h
  · split
    · exact h
    · exact hgw

theorem State.dgDst_lt (s : State) (k p : Nat) : s.dgDst k p < 2 ^ 32 := by
  unfold State.dgDst
  split <;> exact State.f_lt _ _

theorem State.arpAsk_wort (s : State) (p ip : Nat) : (s.arpAsk p ip).wort = s.wort := by
  unfold State.arpAsk
  dsimp only
  split
  · rfl
  · exact State.ethSend_wort _ p _

/-- The port has an entry of the address then, a new one where it had none. -/
theorem State.arpAsk_entry (s : State) (p : Nat) {ip : Nat} (h : ip < 2 ^ 32) : ∃ e ∈ ((s.arpAsk p ip).eth (s.ethOf p)).arp, e.ip.toNat = ip := by
  unfold State.arpAsk
  dsimp only
  split
  · next hany =>
    obtain ⟨e, he, hip⟩ := List.any_eq_true.1 hany
    exact ⟨e, he, of_decide_eq_true hip⟩
  · refine ⟨{ ip := BitVec.ofNat 32 ip, mac := none, tries := 1 }, ?_, by rw [BitVec.toNat_ofNat, Nat.mod_eq_of_lt h]⟩
    rw [State.ethSend_arp, State.eth_setEth_self]
    exact List.mem_concat_self

/-! ## The clauses -/

theorem datagramSend_down (stream : Nat) (err : Option (Nat × Bool)) (s : State) (hprp : s.prpActive = false)
    (hdown : s.b (Fld.ETH_STAT_LINK (s.ef Fld.WORT_ETH_PORT)) = false) : Answers (.datagramSend stream err) s (fun t => t = s) := by
  refine ⟨s, ?_, rfl⟩
  change execDatagramSend stream s err = _
  simp only [execDatagramSend, hprp, hdown, Bool.false_and, Bool.or_false, Bool.not_false, Bool.true_or, Bool.false_eq_true, if_false, if_true]

/-- A datagram that goes out leaves its place at the front, with its stream's next number where it has none. -/
theorem datagramSend_leaves {s : State} {stream : Nat} {d : Dgram} (hon : s.dgOn) (hk : stream < 2) (hnext : s.dgNext stream = some d)
    (hres : s.resolved s.dgPort (s.dgDst stream s.dgPort) = true) :
    Answers (.datagramSend stream none) s (fun t => t.dgNext stream = none ∧
      t.wort.dseq0 = (if stream = 0 ∧ d.seq = none then (s.wort.dseq0 + 1) % 2 ^ 32 else s.wort.dseq0) ∧
      t.wort.dseq1 = (if stream = 1 ∧ d.seq = none then (s.wort.dseq1 + 1) % 2 ^ 32 else s.wort.dseq1) ∧ t.dev = s.dev) :=
  have hwort := State.dgSend_wort hk s s.dgPort (s.dgDst stream s.dgPort) d
  ⟨_, (execDatagramSend_on hon hk hnext).1 hres, State.dgNext_dgSend hk hnext _ _, congrArg WortSt.dseq0 hwort, congrArg WortSt.dseq1 hwort,
    State.dgSend_dev s _ _ _ d⟩

/-- Without PRP the state lets datagrams go where the port of WORT_ETH is up. -/
theorem State.dgOn_alone {s : State} (hprp : s.prpActive = false) (hup : s.b (Fld.ETH_STAT_LINK (s.ef Fld.WORT_ETH_PORT)) = true)
    (himage : s.noImage = false) (hdev : s.dev ≠ .park) : s.dgOn := ⟨by rwa [State.dgPort_alone hprp], himage, hdev⟩

theorem datagramSend_unresolved (stream p : Nat) (err : Option (Nat × Bool)) (d : Dgram) (s : State) (hprp : s.prpActive = false)
    (hp : s.ef Fld.WORT_ETH_PORT = p) (hup : s.b (Fld.ETH_STAT_LINK p) = true) (himage : s.noImage = false) (hdev : s.dev ≠ .park) (hk : stream < 2)
    (hnext : s.dgNext stream = some d) (hres : s.resolved p (if stream = 0 then s.f (Fld.ETH_PDST_ADDR p) else s.f (Fld.ETH_LDST_ADDR p)) = false) :
    Answers (.datagramSend stream err) s (fun t => t.wort = s.wort ∧
      (∃ e ∈ (t.eth p).arp, e.ip.toNat = s.nextHop p (if stream = 0 then s.f (Fld.ETH_PDST_ADDR p) else s.f (Fld.ETH_LDST_ADDR p)))) := by
  subst hp
  have hexec := (execDatagramSend_on (State.dgOn_alone hprp hup himage hdev) hk hnext).2
  rw [State.dgPort_alone hprp] at hexec
  have hentry := s.arpAsk_entry (s.ef Fld.WORT_ETH_PORT) (s.nextHop_lt (s.ef Fld.WORT_ETH_PORT) (s.dgDst_lt stream (s.ef Fld.WORT_ETH_PORT)))
  rw [State.ethOf_alone hprp] at hentry
  rw [← State.dgDst_alone hprp] at hres ⊢
  exact ⟨_, hexec hres err, s.arpAsk_wort _ _, hentry⟩

/-- A frame sent without PRP leaves everything but ports and free values as it is. -/
theorem State.ethSend_alone_keeps {s : State} (hprp : s.prpActive = false) (p : Nat) (f : TxFr) :
    (s.ethSend p f).regs = s.regs ∧ { s.ethSend p f with eths := s.eths, freeCtr := s.freeCtr } = s := by
  have hpush := (s.ipOpen f).1.ethPush_besideTx p (s.ipOpen f).2
  rw [State.ethSend_alone (.inl hprp)]
  exact ⟨(State.regs_of_besideTx hpush).trans (s.ipOpen_regs f),
    (congrArg (fun v => ({ v.1 with eths := s.eths, freeCtr := s.freeCtr } : State)) hpush).trans
      (congrArg (fun r : State => { r with eths := s.eths }) (s.ipOpen_keeps f).1)⟩

/-- The only datagram, a point datagram without a number, goes out with the stream's next. -/
theorem datagramSend_first (d : Dgram) (p : Nat) (s : State) (hprp : s.prpActive = false) (hp : s.ef Fld.WORT_ETH_PORT = p)
    (hup : s.b (Fld.ETH_STAT_LINK p) = true) (himage : s.noImage = false) (hdev : s.dev ≠ .park) (hd : s.wort.dgrams = [d]) (hstream : d.stream = 0)
    (hseq : d.seq = none) (hfree : d.handed = false) (hres : s.resolved p (s.f (Fld.ETH_PDST_ADDR p)) = true) :
    Answers (.datagramSend 0 none) s (fun t => t.wort.dgrams = [{ d with seq := some s.wort.dseq0, handed := true }] ∧ t.wort.dseq0 = (s.wort.dseq0 + 1) % 2 ^ 32 ∧
      (∃ f : TxFr, ((t.eth p).cur = some f ∨ f ∈ (t.eth p).wait) ∧
        f.body = .udp (BitVec.ofNat 32 (s.f (Fld.ETH_PDST_ADDR p))) (s.f (Fld.ETH_SPORT_SPORT p)) (s.f (Fld.ETH_PORTS_PPORT p)) (s.f (Fld.ETH_DSCP_PTS p))
          (dgramBytes 0 (s.f Fld.TOP_STRAP_HID) s.wort.dseq0 (d.recs.flatMap (·.words)))) ∧
      t.regs = s.regs ∧ { t with wort := s.wort, eths := s.eths, freeCtr := s.freeCtr } = s) := by
  have hport : s.dgPort = p := (State.dgPort_alone hprp).trans hp
  have hlt : p < 2 := hp ▸ Fld.of_lt _ _
  have hnext : s.dgNext 0 = some d := by simp [State.dgNext, hd, hstream, hfree]
  have hexec := (execDatagramSend_on ⟨by rwa [hport], himage, hdev⟩ Nat.two_pos hnext).1
  rw [hport, State.dgDst_alone hprp, if_pos rfl, State.dgSend_eq Nat.two_pos] at hexec
  generalize hframe : s.dgFrame p 0 (s.f (Fld.ETH_PDST_ADDR p)) d = g at hexec
  have hprp' : (s.dgHanded 0 d).prpActive = false := hprp
  have hhanded : (s.dgHanded 0 d).wort.dgrams = [{ d with seq := some s.wort.dseq0, handed := true }] ∧ (s.dgHanded 0 d).wort.dseq0 = (s.wort.dseq0 + 1) % 2 ^ 32 := by
    simp [State.dgHanded, State.dgSeq, hd, hseq, setFirst, hstream]
  obtain ⟨hregs, hrest⟩ := State.ethSend_alone_keeps hprp' p g
  obtain ⟨f, hsends, hbody, -⟩ := State.ethSend_sendsOn g hlt (.inl hprp')
  have hwort := State.ethSend_wort (s.dgHanded 0 d) p g
  refine ⟨_, hexec hres, (congrArg WortSt.dgrams hwort).trans hhanded.1, (congrArg WortSt.dseq0 hwort).trans hhanded.2, ⟨f, hsends, hbody.trans ?_⟩, hregs,
    congrArg (fun r : State => { r with wort := s.wort }) hrest⟩
  simp [← hframe, State.dgFrame, State.dgSeq, hseq, State.ethOf_alone hprp]

/-- Settles O40. GO takes TXBUF by `State.txcmdWrite_goes`, and its frame stays with the port by `State.ethSend_sendsOn`; a frame's end shows `State.txEnded`; supervision frames take
a number by `State.ethSend_paired`; a datagram is handed to its port by `State.dgSend_eq`. -/
theorem ethSend : Obligations.EthSend := by
  unfold Obligations.EthSend
  refine ⟨ethTxcmdGo_stores, ethTxcmdGo_ignored, ethTxcmdGo_waits, ethFrameTransmitDone_idle, ethFrameTransmitDone_idles, fun s hprp => ?_, fun s hdue _ _ => ?_,
    datagramSend_down, fun d p s hprp hp hup himage hdev hd hstream hseq hfree hres _ _ => ?_, fun p v s hp hgo hfree hprp hlen => ?_, ethFrameTransmitDone_counts,
    ethFrameTransmitDone_discards, prpSupervisionSend_idle, prpSupervisionSend_counts, fun stream p d s hprp hp hup himage hdev hk hnext hres => ?_,
    datagramSend_unresolved, fun stream p d s hp hup himage hdev hk hnext hres => ?_, fun p v s hp hgo hfree hup hlen => ?_, ethFrameTransmitDone_frees⟩
  · exact prpSupervisionSend_idle s (by rw [State.supDue, hprp, Bool.false_and])
  · obtain ⟨t, ht, hseq, hms, -, hregs, hrest⟩ := prpSupervisionSend_counts s hdue
    exact ⟨t, ht, hseq, hms, hregs, hrest⟩
  · exact datagramSend_first d p s hprp hp hup himage hdev hd hstream hseq hfree hres
  · exact ethTxcmdGo_sends p v s hp hgo hfree (.inl hprp) hlen
  · subst hp
    rw [← State.dgDst_alone hprp, ← State.dgPort_alone hprp] at hres
    obtain ⟨t, ht, hgone, hrest⟩ := datagramSend_leaves (State.dgOn_alone hprp hup himage hdev) hk hnext hres
    exact ⟨t, ht, by rw [hnext, hgone]; exact Option.some_ne_none d, hrest⟩
  · subst hp
    obtain ⟨t, ht, hgone, hrest⟩ := datagramSend_leaves ⟨hup, himage, hdev⟩ hk hnext hres
    exact ⟨t, ht, by rw [hgone]; exact (Option.some_ne_none d).symm, hrest⟩
  · exact ethTxcmdGo_sends p v s hp hgo hfree (.inr hup) (hlen.trans (by decide))

end Sys2Proof.Machine
end

section
namespace Sys2Proof.Machine

/-! # The outputs are switched off (R312, R313, R315) -/

/-- A field that the switching off of the outputs leaves alone: no bit of it is ON, CLEAR or RST_WAIT. -/
def Fld.offSout (F : Fld) : Bool := F.apart Fld.GUARD_STAT_ON && F.apart Fld.GUARD_STAT_CLEAR && F.apart Fld.GUARD_STAT_RST_WAIT

/-- ON, CLEAR and RST_WAIT as the switching off leaves them. -/
def State.soutCleared (s : State) : State := ((s.setB Fld.GUARD_STAT_ON false).setF Fld.GUARD_STAT_CLEAR 0).setB Fld.GUARD_STAT_RST_WAIT false

theorem State.soutOff_idle {s : State} (h : s.soutOn = false) : s.soutOff = s := if_neg (by simpa [State.soutOn] using h)

/-- Outputs that were on go off with those bits; of the Guard's own part the enable levels stay, and EDM is awaited high with CHECK where it is low (Table 15.6). -/
theorem State.soutOff_on {s : State} (h : s.soutOn = true) : ∃ g, s.soutOff = s.soutCleared.withGuard g ∧ g.enA = s.guard.enA ∧ g.enB = s.guard.enB ∧
    g.edmWait = if s.soutCleared.b Fld.GUARD_CFG_CHECK && !s.soutCleared.b Fld.GUARD_STAT_EDM then some true else none := ⟨_, if_pos h, rfl, rfl, rfl⟩

theorem State.soutOff_regs {s : State} (h : s.soutOn = true) : s.soutOff.regs = s.soutCleared.regs := by
  obtain ⟨g, hoff, -⟩ := State.soutOff_on h
  rw [hoff]
  rfl

theorem State.f_soutOff {F : Fld} (h : F.offSout = true) (s : State) : s.soutOff.f F = s.f F := by
  simp only [Fld.offSout, Bool.and_eq_true] at h
  obtain ⟨⟨hon, hclear⟩, hwait⟩ := h
  cases hs : s.soutOn with
  | false => rw [State.soutOff_idle hs]
  | true =>
    rw [State.f_congr (State.soutOff_regs hs), State.soutCleared, State.f_setB_apart _ _ _ _ (by decide) hwait, State.f_setF_apart _ _ _ _ (by decide) hclear,
      State.f_setB_apart _ _ _ _ (by decide) hon]

theorem State.b_soutOff {F : Fld} (h : F.offSout = true) (s : State) : s.soutOff.b F = s.b F := by
  unfold State.b
  rw [State.f_soutOff h]

theorem State.soutOff_soutOn (s : State) : s.soutOff.soutOn = false := by
  cases hs : s.soutOn with
  | false => rw [State.soutOff_idle hs, hs]
  | true =>
    unfold State.soutOn State.b
    rw [State.f_congr (State.soutOff_regs hs), State.soutCleared, State.f_setB_apart _ _ _ _ (by decide) (by decide),
      State.f_setF_apart _ _ _ _ (by decide) (by decide), ← State.b, State.b_setB_self _ _ _ (by decide) rfl]

theorem State.soutOff_clear {s : State} (h : s.soutOn = true) : s.soutOff.f Fld.GUARD_STAT_CLEAR = 0 := by
  rw [State.f_congr (State.soutOff_regs h), State.soutCleared, State.f_setB_apart _ _ _ _ (by decide) (by decide), State.f_setF_self _ _ _ (by decide), Nat.zero_mod]

theorem State.soutOff_enables (s : State) : s.soutOff.guard.enA = s.guard.enA ∧ s.soutOff.guard.enB = s.guard.enB := by
  cases hs : s.soutOn with
  | false => rw [State.soutOff_idle hs]; exact ⟨rfl, rfl⟩
  | true =>
    obtain ⟨g, hoff, hA, hB, -⟩ := State.soutOff_on hs
    rw [hoff]
    exact ⟨hA, hB⟩

/-- GUARD_STAT alone shows the switching off. -/
theorem State.soutOff_regsBut_stat (s : State) : State.regsBut [Reg.GUARD_STAT] s s.soutOff := by
  cases hs : s.soutOn with
  | false => rw [State.soutOff_idle hs]; exact State.regsBut_refl _ s
  | true =>
    exact State.regsBut_of (State.regsBut_setB _ _ (State.regsBut_setF _ _ (State.regsBut_setB _ _ (State.regsBut_refl _ s) (by decide)) (by decide)) (by decide))
      (State.soutOff_regs hs)

theorem State.guardFollow_enables (s : State) : s.guardFollow.guard.enA = s.guard.enA ∧ s.guardFollow.guard.enB = s.guard.enB := by
  unfold State.guardFollow
  split
  · exact s.soutOff_enables
  · exact ⟨rfl, rfl⟩

/-- While EDM is high, switching off awaits nothing of it (Table 15.6). -/
theorem State.soutOff_edmWait {s : State} (hedm : s.b Fld.GUARD_STAT_EDM = true) (hwait : s.guard.edmWait = none) : s.soutOff.guard.edmWait = none := by
  have hkept : s.soutCleared.b Fld.GUARD_STAT_EDM = true := by
    rw [State.soutCleared, State.b_setB_apart _ _ _ _ (by decide) (by decide), State.b_setF_apart _ _ _ _ (by decide) (by decide),
      State.b_setB_apart _ _ _ _ (by decide) (by decide), hedm]
  cases hs : s.soutOn with
  | false => rw [State.soutOff_idle hs, hwait]
  | true =>
    obtain ⟨g, hoff, -, -, hg⟩ := State.soutOff_on hs
    rw [hkept, Bool.not_true, Bool.and_false, if_neg Bool.false_ne_true] at hg
    rw [hoff]
    exact hg

/-! ## Logged faults: code of Table 15.4, CRC_ERR -/

theorem State.logEvent_guard (s : State) (c : Nat) (x y : Word) : (s.logEvent c x y).guard = s.guard := by
  obtain ⟨n, r, h⟩ := s.logEvent_form c x y
  rw [h]

/-- A field that neither the log nor the switching off touches. -/
theorem State.f_logOff {F : Fld} (hoff : F.offSout = true) (hlog : decide (F.addr ≠ Reg.THERM_CNT) = true) (s : State) (c : Nat) (x y : Word) :
    (s.logEvent c x y).soutOff.f F = s.f F := (State.f_soutOff hoff _).trans (State.f_logEvent s c x y F hlog)

theorem State.b_logOff {F : Fld} (hoff : F.offSout = true) (hlog : decide (F.addr ≠ Reg.THERM_CNT) = true) (s : State) (c : Nat) (x y : Word) :
    (s.logEvent c x y).soutOff.b F = s.b F := by
  unfold State.b
  rw [State.f_logOff hoff hlog]

/-- SOUT_FAULT with code `code`, the first one, raised. -/
def State.faultLatched (s : State) (code : Nat) : State :=
  ((s.setB Fld.GUARD_FAULT_SOUT_FAULT true).setF Fld.GUARD_FAULT_FCODE code).raise Cause.GUARD_FAULT

theorem State.faultLatched_shows (s : State) (code : Nat) : (s.faultLatched code).b Fld.GUARD_FAULT_SOUT_FAULT = true ∧
    (s.faultLatched code).f Fld.GUARD_FAULT_FCODE = code % 16 ∧ (s.faultLatched code).causeSet Cause.GUARD_FAULT = true := by
  refine ⟨?_, ?_, State.b_raise_self _ Cause.GUARD_FAULT (by decide)⟩
  · rw [State.faultLatched, State.b_raise_apart _ _ _ (by decide) (by decide) (by decide) (by decide), State.b_setF_apart _ _ _ _ (by decide) (by decide),
      State.b_setB_self _ _ _ (by decide) rfl]
  · rw [State.faultLatched, State.f_raise_apart _ _ _ (by decide) (by decide) (by decide) (by decide), State.f_setF_self _ _ _ (by decide)]
    rfl

theorem State.soutFault_first {s : State} (h : s.b Fld.GUARD_FAULT_SOUT_FAULT = false) (code : Nat) :
    ∃ x y, s.soutFault code = ((s.faultLatched code).logEvent 0x0050 x y).soutOff := ⟨_, _, if_neg (by simp [h])⟩

theorem State.soutFault_later {s : State} (h : s.b Fld.GUARD_FAULT_SOUT_FAULT = true) (code : Nat) : s.soutFault code = s.soutOff := if_pos h

/-- Any code switches the outputs off and stands latched. -/
theorem State.soutFault_shows (s : State) (code : Nat) : (s.soutFault code).soutOn = false ∧ (s.soutFault code).b Fld.GUARD_FAULT_SOUT_FAULT = true := by
  cases h : s.b Fld.GUARD_FAULT_SOUT_FAULT with
  | false =>
    obtain ⟨x, y, hfirst⟩ := State.soutFault_first h code
    rw [hfirst]
    exact ⟨State.soutOff_soutOn _, (State.b_logOff (by decide) (by decide) _ _ _ _).trans (s.faultLatched_shows code).1⟩
  | true =>
    rw [State.soutFault_later h]
    exact ⟨s.soutOff_soutOn, (State.b_soutOff (by decide) s).trans h⟩

/-- The first code is recorded (R316). -/
theorem State.soutFault_records {s : State} (h : s.b Fld.GUARD_FAULT_SOUT_FAULT = false) (code : Nat) :
    (s.soutFault code).f Fld.GUARD_FAULT_FCODE = code % 16 ∧ (s.soutFault code).causeSet Cause.GUARD_FAULT = true := by
  obtain ⟨x, y, hfirst⟩ := State.soutFault_first h code
  obtain ⟨-, hcode, hcause⟩ := s.faultLatched_shows code
  rw [hfirst]
  exact ⟨(State.f_logOff (by decide) (by decide) _ _ _ _).trans hcode, (State.b_logOff (F := Cause.GUARD_FAULT.fld) (by decide) (by decide) _ _ _ _).trans hcause⟩

/-- What of GUARD_STAT the switching off leaves alone, a code leaves alone. -/
theorem State.b_soutFault {F : Fld} (hF : F ∈ [Fld.GUARD_STAT_RB_A, Fld.GUARD_STAT_RB_B, Fld.GUARD_STAT_EDM]) (s : State) (code : Nat) :
    (s.soutFault code).b F = s.b F := by
  have hapart : ∀ F ∈ [Fld.GUARD_STAT_RB_A, Fld.GUARD_STAT_RB_B, Fld.GUARD_STAT_EDM], F.offSout = true ∧ decide (F.addr ≠ Reg.THERM_CNT) = true ∧
      F.apart Cause.GUARD_FAULT.fld = true ∧ F.apart Cause.GUARD_FAULT.cnt = true ∧ F.apart Fld.GUARD_FAULT_FCODE = true ∧
      F.apart Fld.GUARD_FAULT_SOUT_FAULT = true := by decide
  obtain ⟨hoff, hlog, hfld, hcnt, hcode, hfault⟩ := hapart F hF
  cases h : s.b Fld.GUARD_FAULT_SOUT_FAULT with
  | false =>
    obtain ⟨x, y, hfirst⟩ := State.soutFault_first h code
    rw [hfirst, State.b_logOff hoff hlog, State.faultLatched, State.b_raise_apart _ _ _ (by decide) (by decide) hfld hcnt,
      State.b_setF_apart _ _ _ _ (by decide) hcode, State.b_setB_apart _ _ _ _ (by decide) hfault]
  | true => rw [State.soutFault_later h, State.b_soutOff hoff]

/-- While EDM is high, a code leaves nothing of it awaited. -/
theorem State.soutFault_edmWait {s : State} (hedm : s.b Fld.GUARD_STAT_EDM = true) (hwait : s.guard.edmWait = none) (code : Nat) :
    (s.soutFault code).guard.edmWait = none := by
  cases h : s.b Fld.GUARD_FAULT_SOUT_FAULT with
  | false =>
    obtain ⟨x, y, hfirst⟩ := State.soutFault_first h code
    rw [hfirst]
    refine State.soutOff_edmWait ?_ (by rw [State.logEvent_guard]; exact hwait)
    rw [State.b_logEvent _ _ _ _ _ (by decide), State.faultLatched, State.b_raise_apart _ _ _ (by decide) (by decide) (by decide) (by decide),
      State.b_setF_apart _ _ _ _ (by decide) (by decide), State.b_setB_apart _ _ _ _ (by decide) (by decide), hedm]
  | true => rw [State.soutFault_later h, State.soutOff_edmWait hedm hwait]

/-- The registers that show a CRC error. -/
def Reg.crcErrRegs : List Nat := [Reg.GUARD_STAT, Reg.GUARD_FAULT, Cause.GUARD_FAULT.fld.addr, Cause.GUARD_FAULT.cnt.addr, Reg.THERM_CNT]

/-- CRC_ERR latches, and the outputs go off (R320). -/
theorem State.crcErr_shows (s : State) : s.crcErr.b Fld.GUARD_FAULT_CRC_ERR = true ∧ s.crcErr.soutOn = false ∧ State.regsBut Reg.crcErrRegs s s.crcErr := by
  have hoff (p : State) : State.regsBut Reg.crcErrRegs p p.soutOff := State.regsBut_mono p.soutOff_regsBut_stat (by decide)
  cases h : s.b Fld.GUARD_FAULT_CRC_ERR with
  | false =>
    obtain ⟨x, y, hfirst⟩ : ∃ x y, s.crcErr = (((s.setB Fld.GUARD_FAULT_CRC_ERR true).raise Cause.GUARD_FAULT).logEvent 0x0050 x y).soutOff :=
      ⟨_, _, if_neg (by simp [h])⟩
    have hset : State.regsBut Reg.crcErrRegs s (s.setB Fld.GUARD_FAULT_CRC_ERR true) := State.regsBut_setB _ _ (State.regsBut_refl _ s) (by decide)
    rw [hfirst]
    refine ⟨?_, State.soutOff_soutOn _,
      State.regsBut_trans (State.regsBut_logEvent _ _ _ (State.regsBut_raise _ hset (by decide) (by decide)) (by decide)) (hoff _)⟩
    rw [State.b_logOff (by decide) (by decide), State.b_raise_apart _ _ _ (by decide) (by decide) (by decide) (by decide), State.b_setB_self _ _ _ (by decide) rfl]
  | true =>
    rw [State.crcErr, if_pos h]
    exact ⟨(State.b_soutOff (by decide) s).trans h, s.soutOff_soutOn, hoff s⟩

/-! # The conditions of Table 15.3 -/

/-- A word of seven condition bits is 0 but for bit 6 just where the lower six are. -/
theorem conditionBits_zero (b₀ b₁ b₂ b₃ b₄ b₅ b₆ : Bool) : ((if b₀ then 2 ^ 0 else 0) + (if b₁ then 2 ^ 1 else 0) + (if b₂ then 2 ^ 2 else 0) +
    (if b₃ then 2 ^ 3 else 0) + (if b₄ then 2 ^ 4 else 0) + (if b₅ then 2 ^ 5 else 0) + (if b₆ then 2 ^ 6 else 0)) % 64 = 0 ↔
    b₀ = false ∧ b₁ = false ∧ b₂ = false ∧ b₃ = false ∧ b₄ = false ∧ b₅ = false := by
  have hbit (k : Nat) (b : Bool) : (if b then 2 ^ k else 0) = 2 ^ k * b.toNat := by cases b <;> simp
  have hle := fun b : Bool => b.toNat_le
  simp only [hbit, ← Bool.toNat_eq_zero]
  have h₀ := hle b₀
  have h₁ := hle b₁
  have h₂ := hle b₂
  have h₃ := hle b₃
  have h₄ := hle b₄
  have h₅ := hle b₅
  omega

/-- OFFWHY is clear, but for EDM, just where every condition of Table 15.3 holds. -/
theorem State.offWhy_clear (s : State) : s.offWhy % 64 = 0 ↔
    (s.dev = .scan ∧ s.guardActive = true) ∧ (s.b Fld.GUARD_FAULT_SOUT_FAULT = false ∧ s.b Fld.GUARD_FAULT_CRC_ERR = false ∧ s.b Fld.PWR_FAULT_SOUT_TRIP = false) ∧
      s.enable = true ∧ (s.guardStands = false ∧ s.b Fld.SCAN_STAT_INHIBIT = false ∧ 2 ≤ s.f Fld.GUARD_STAT_CLEAR) ∧
      (s.b Fld.GUARD_CFG_RESTART = true → 2 ≤ s.f Fld.GUARD_STAT_CLEAR ∧ s.b Fld.GUARD_STAT_RST_WAIT = false) ∧
      (s.b Fld.GUARD_STAT_CHANGE_OPEN = false ∧ s.b Fld.GUARD_STAT_DIRTY = false) := by
  unfold State.offWhy
  rw [conditionBits_zero]
  simp [and_assoc, Nat.lt_iff_add_one_le]

/-- A row that keeps the device state keeps it in the next state that it answers. -/
theorem Out.dev_of_next {d : Dev} {o : Out} {t : State} (hd : Out.dev d o = d) (ho : o = .next t) : t.dev = d := by
  rw [ho] at hd
  exact hd

/-! # Enable edges (R310) -/

/-- An enable that is not active switches the outputs off. -/
theorem State.guardFollow_inactive {s : State} (h : s.enable = false) : s.guardFollow = s.soutOff := by
  have hwhy : s.offWhy % 64 ≠ 0 := fun hclear => by
    obtain ⟨-, -, henable, -⟩ := s.offWhy_clear.1 hclear
    simp [h] at henable
  exact if_pos (by simpa using hwhy)

/-- Equivalent channels enable nothing while EN_A is low. -/
theorem State.enable_lowA {s : State} (hantiv : s.b Fld.GUARD_CFG_ANTIV = false) (hA : s.guard.enA = false) : s.enable = false := by
  simp [State.enable, State.enBoth, hantiv, hA]

theorem enEdge_leavesActive (s : State) (hantiv : s.b Fld.GUARD_CFG_ANTIV = false) (hon : s.soutOn = true) :
    Answers (.enEdge 0 false) s (fun t => t.soutOn = false ∧ t.guard.enA = false ∧ t.f Fld.GUARD_STAT_CLEAR = 0) := by
  have hfollow : exec (.enEdge 0 false) s = .next (s.withGuard { s.guard with enA := false }).soutOff :=
    congrArg Host.Outcome.next (State.guardFollow_inactive (State.enable_lowA hantiv rfl))
  exact ⟨_, hfollow, State.soutOff_soutOn _, (State.soutOff_enables _).1, State.soutOff_clear hon⟩

theorem enEdge_off (level : Bool) (s : State) (hoff : s.soutOn = false) :
    Answers (.enEdge 1 level) s (fun t => t.guard.enB = level ∧ { t with guard := s.guard } = s) := by
  have hidle : (s.withGuard { s.guard with enB := level }).soutOff = s.withGuard { s.guard with enB := level } := State.soutOff_idle hoff
  refine ⟨s.withGuard { s.guard with enB := level }, congrArg Host.Outcome.next ?_, rfl, rfl⟩
  change (s.withGuard { s.guard with enB := level }).guardFollow = _
  rw [State.guardFollow, hidle, ite_self]

theorem enEdge_levels (level : Bool) (s : State) : Answers (.enEdge 0 level) s (fun t => t.guard.enA = level ∧ t.guard.enB = s.guard.enB ∧ t.dev = s.dev) ∧
    Answers (.enEdge 1 level) s (fun t => t.guard.enB = level ∧ t.guard.enA = s.guard.enA ∧ t.dev = s.dev) := by
  obtain ⟨hA, hkeepB⟩ := (s.withGuard { s.guard with enA := level }).guardFollow_enables
  obtain ⟨hkeepA, hB⟩ := (s.withGuard { s.guard with enB := level }).guardFollow_enables
  exact ⟨⟨_, rfl, hA, hkeepB, State.guardFollow_dev _⟩, ⟨_, rfl, hB, hkeepA, State.guardFollow_dev _⟩⟩

/-! # The outputs switch on (R312, R315) -/

/-- The outputs on, with pulses and samples begun anew, and EDM awaited low with CHECK. -/
def State.outputsOn (s : State) : State :=
  (s.withGuard { s.guard with pulse := none, nextPulse := 0, outA := {}, outB := {}, pulseMs := s.ms,
                              edmWait := if s.b Fld.GUARD_CFG_CHECK then some false else none, edmMs := s.ms }).setB Fld.GUARD_STAT_ON true

/-- A bit set beside a change of the Guard's own part leaves the rest of the state alone. -/
theorem State.withGuard_setB_rest (s : State) (g : GuardSt) (F : Fld) (p : Bool) : { (s.withGuard g).setB F p with regs := s.regs, guard := s.guard } = s := by simp

theorem State.outputsOn_shows (s : State) : s.outputsOn.soutOn = true ∧ State.regsBut [Reg.GUARD_STAT] s s.outputsOn ∧
    { s.outputsOn with regs := s.regs, guard := s.guard } = s :=
  ⟨State.b_setB_self _ _ _ (by decide) rfl, State.regsBut_setB _ _ (State.regsBut_of (State.regsBut_refl _ s) rfl) (by decide),
    s.withGuard_setB_rest _ _ true⟩

theorem guardOutputsOn_condition {s : State} (hoff : s.soutOn = false) (hwhy : s.offWhy % 64 = 0) :
    (s.b Fld.GUARD_STAT_ON || s.offWhy % 64 != 0) = false := by simp [show s.b Fld.GUARD_STAT_ON = false from hoff, hwhy]

theorem execGuardOutputsOn_switches {s : State} (hoff : s.soutOn = false) (hwhy : s.offWhy % 64 = 0)
    (hedm : (s.b Fld.GUARD_CFG_CHECK && !s.b Fld.GUARD_STAT_EDM) = false) : execGuardOutputsOn s = .next s.outputsOn := by
  rw [execGuardOutputsOn, guardOutputsOn_condition hoff hwhy, hedm]
  rfl

theorem guardOutputsOn_switches (s : State) (hoff : s.soutOn = false) (hwhy : s.offWhy % 64 = 0) (hcheck : s.b Fld.GUARD_CFG_CHECK = false) :
    Answers .guardOutputsOn s (fun t => t.soutOn = true ∧ State.regsBut [Reg.GUARD_STAT] s t ∧ { t with regs := s.regs, guard := s.guard } = s) :=
  ⟨_, execGuardOutputsOn_switches hoff hwhy (by rw [hcheck, Bool.false_and]), s.outputsOn_shows⟩

theorem guardOutputsOn_awaits (s : State) (hoff : s.soutOn = false) (hwhy : s.offWhy % 64 = 0) (hcheck : s.b Fld.GUARD_CFG_CHECK = true)
    (hedm : s.b Fld.GUARD_STAT_EDM = true) :
    Answers .guardOutputsOn s (fun t => t.soutOn = true ∧ t.guard.edmWait = some false ∧ t.guard.edmMs = s.ms ∧ State.regsBut [Reg.GUARD_STAT] s t ∧
      { t with regs := s.regs, guard := s.guard } = s) := by
  obtain ⟨hon, hregs, hrest⟩ := s.outputsOn_shows
  exact ⟨_, execGuardOutputsOn_switches hoff hwhy (by rw [hedm, Bool.not_true, Bool.and_false]), hon, if_pos hcheck, rfl, hregs, hrest⟩

theorem guardOutputsOn_edmLow (s : State) (hoff : s.soutOn = false) (hwhy : s.offWhy % 64 = 0) (hcheck : s.b Fld.GUARD_CFG_CHECK = true)
    (hedm : s.b Fld.GUARD_STAT_EDM = false) :
    Answers .guardOutputsOn s (fun t => t.soutOn = false ∧ t.b Fld.GUARD_FAULT_SOUT_FAULT = true ∧ t.f Fld.GUARD_FAULT_FCODE = 7) := by
  obtain ⟨-, ⟨hfault, -⟩, -⟩ := s.offWhy_clear.1 hwhy
  obtain ⟨hon, hlatched⟩ := s.soutFault_shows 7
  refine ⟨s.soutFault 7, ?_, hon, hlatched, (State.soutFault_records hfault 7).1⟩
  change execGuardOutputsOn s = _
  rw [execGuardOutputsOn, guardOutputsOn_condition hoff hwhy, hcheck, hedm]
  rfl

theorem guardOutputsOn_fails (s : State) (hwhy : s.offWhy % 64 ≠ 0) : Answers .guardOutputsOn s (fun t => t = s) := ⟨s, if_pos (by simp [hwhy]), rfl⟩

/-! # Off-pulses (R313) -/

theorem offPulseStart_due (s : State) (hon : s.soutOn = true) (hcheck : s.b Fld.GUARD_CFG_CHECK = false) (hpulse : s.guard.pulse = none)
    (hms : s.guard.pulseMs + s.opi ≤ s.ms) :
    Answers .offPulseStart s (fun t => t.guard.pulse = some s.guard.nextPulse ∧ t.guard.pulseEnd = s.now + s.opw ∧ t.guard.pulseMs = s.guard.pulseMs + s.opi ∧
      t.guard.nextPulse = 1 - s.guard.nextPulse ∧ { t with guard := s.guard } = s) :=
  ⟨_, if_pos (by simp [State.pulseDue, show s.b Fld.GUARD_STAT_ON = true from hon, hcheck, hpulse, hms]), rfl, rfl, rfl, rfl, rfl⟩

theorem offPulseStart_notDue (s : State) (h : s.soutOn = false ∨ s.ms < s.guard.pulseMs + s.opi) : Answers .offPulseStart s (fun t => t = s) := by
  have hdue : s.pulseDue = false := by
    rcases h with hoff | hms
    · simp [State.pulseDue, show s.b Fld.GUARD_STAT_ON = false from hoff]
    · simp [State.pulseDue, hms]
  exact ⟨s, if_neg (by simp [hdue]), rfl⟩

/-- RB_A and RB_B show the readbacks, and the rest of GUARD_STAT and of the registers is as before. -/
theorem State.setRb_shows (s : State) (rbA rbB : Bool) : (s.setRb rbA rbB).b Fld.GUARD_STAT_RB_A = rbA ∧ (s.setRb rbA rbB).b Fld.GUARD_STAT_RB_B = rbB ∧
    (∀ F : Fld, F.apart Fld.GUARD_STAT_RB_A = true → F.apart Fld.GUARD_STAT_RB_B = true → (s.setRb rbA rbB).b F = s.b F) ∧
    State.regsBut [Reg.GUARD_STAT] s (s.setRb rbA rbB) := by
  refine ⟨?_, State.b_setB_self _ _ _ (by decide) rfl, fun F hA hB => ?_, State.regsBut_setB _ _ (State.regsBut_setB _ _ (State.regsBut_refl _ s) (by decide)) (by decide)⟩
  · exact (State.b_setB_apart _ _ _ _ (by decide) (by decide)).trans (State.b_setB_self _ _ _ (by decide) rfl)
  · exact (State.b_setB_apart _ _ _ _ (by decide) hB).trans (State.b_setB_apart _ _ _ _ (by decide) hA)

/-- A code after a readback leaves the readback shown. -/
theorem State.soutFault_readback {s : State} {rbA rbB : Bool} (h : s.b Fld.GUARD_STAT_RB_A = rbA ∧ s.b Fld.GUARD_STAT_RB_B = rbB) (code : Nat) :
    (s.soutFault code).b Fld.GUARD_STAT_RB_A = rbA ∧ (s.soutFault code).b Fld.GUARD_STAT_RB_B = rbB :=
  ⟨(State.b_soutFault (by simp) s code).trans h.1, (State.b_soutFault (by simp) s code).trans h.2⟩

/-- Of two readbacks, the one of output `p`. -/
def readbackOf (p : Nat) (rbA rbB : Bool) : Bool := if p = 0 then rbA else rbB

/-- The end of the pulse on output `p`, as its own readback and the other's judge it. -/
theorem execOffPulseEnd_judged {p : Nat} {s : State} (hpulse : s.guard.pulse = some p) (hend : s.guard.pulseEnd ≤ s.now) (rbA rbB : Bool) :
    execOffPulseEnd rbA rbB s =
      if readbackOf p rbA rbB then .next ((s.setRb rbA rbB).soutFault (1 + p))
      else if !readbackOf p rbB rbA then .next ((s.setRb rbA rbB).soutFault 3)
      else .next ((s.setRb rbA rbB).withGuard (if p = 0 then { s.guard with pulse := none, outA := {} } else { s.guard with pulse := none, outB := {} })) := by
  unfold execOffPulseEnd
  rw [hpulse]
  dsimp only
  rw [if_neg (Nat.not_lt.2 hend)]
  by_cases hp : p = 0 <;> simp only [readbackOf, hp, if_true, if_false] <;> rfl

theorem offPulseEnd_passes (s : State) (hpulse : s.guard.pulse = some 0) (hend : s.guard.pulseEnd ≤ s.now) :
    Answers (.offPulseEnd false true) s (fun t => t.guard.pulse = none ∧ t.b Fld.GUARD_STAT_RB_A = false ∧ t.b Fld.GUARD_STAT_RB_B = true ∧
      t.soutOn = s.soutOn ∧ State.regsBut [Reg.GUARD_STAT] s t) := by
  obtain ⟨hA, hB, hkeep, hregs⟩ := s.setRb_shows false true
  exact ⟨_, execOffPulseEnd_judged hpulse hend false true, rfl, hA, hB, hkeep Fld.GUARD_STAT_ON (by decide) (by decide), hregs⟩

theorem offPulseEnd_ownHigh (rbB : Bool) (s : State) (hpulse : s.guard.pulse = some 0) (hend : s.guard.pulseEnd ≤ s.now)
    (hfault : s.b Fld.GUARD_FAULT_SOUT_FAULT = false) :
    Answers (.offPulseEnd true rbB) s (fun t => t.soutOn = false ∧ t.f Fld.GUARD_FAULT_FCODE = 1 ∧ t.causeSet Cause.GUARD_FAULT = true) := by
  obtain ⟨-, -, hkeep, -⟩ := s.setRb_shows true rbB
  obtain ⟨hcode, hcause⟩ := State.soutFault_records ((hkeep Fld.GUARD_FAULT_SOUT_FAULT (by decide) (by decide)).trans hfault) 1
  exact ⟨_, execOffPulseEnd_judged hpulse hend true rbB, (State.soutFault_shows _ 1).1, hcode, hcause⟩

theorem offPulseEnd_none (rbA rbB : Bool) (s : State) (h : s.guard.pulse = none ∨ s.now < s.guard.pulseEnd) : Answers (.offPulseEnd rbA rbB) s (fun t => t = s) := by
  refine ⟨s, ?_, rfl⟩
  change execOffPulseEnd rbA rbB s = _
  unfold execOffPulseEnd
  split
  · rfl
  · next p hp => exact if_pos (h.resolve_left (by simp [hp]))

theorem offPulseEnd_shows (p : Nat) (rbA rbB : Bool) (s : State) (hpulse : s.guard.pulse = some p) (hend : s.guard.pulseEnd ≤ s.now) :
    Answers (.offPulseEnd rbA rbB) s (fun t => t.b Fld.GUARD_STAT_RB_A = rbA ∧ t.b Fld.GUARD_STAT_RB_B = rbB ∧ t.dev = s.dev) := by
  obtain ⟨hA, hB, -⟩ := s.setRb_shows rbA rbB
  obtain ⟨t, hexec, hrbA, hrbB⟩ : ∃ t, execOffPulseEnd rbA rbB s = .next t ∧ t.b Fld.GUARD_STAT_RB_A = rbA ∧ t.b Fld.GUARD_STAT_RB_B = rbB := by
    rw [execOffPulseEnd_judged hpulse hend]
    split
    · exact ⟨_, rfl, State.soutFault_readback ⟨hA, hB⟩ (1 + p)⟩
    · split
      · exact ⟨_, rfl, State.soutFault_readback ⟨hA, hB⟩ 3⟩
      · exact ⟨_, rfl, hA, hB⟩
  exact ⟨t, hexec, hrbA, hrbB, Out.dev_of_next (execOffPulseEnd_dev rbA rbB s) hexec⟩

/-! # Static samples (R314) -/

/-- While the outputs are off, and the output has not read high before, a sample gives no code. -/
theorem outSample_off {x : OutSt} {on : Bool} (hoff : on = false) (h : x.last ≠ some true) (pulsed active rb lim : Bool) :
    (outSample x on pulsed active rb lim).2 = [] ∧ (outSample x on pulsed active rb lim).1.n = min 200 (x.n + 1) := by
  simp [outSample, hoff, h]

/-- No sample gives a code below 3. -/
theorem outSample_codes (x : OutSt) (on pulsed active rb lim : Bool) : ∀ c ∈ (outSample x on pulsed active rb lim).2, 3 ≤ c := by
  have hcode (p : Bool) (k c : Nat) (hk : 3 ≤ k) (hc : c ∈ if p then [k] else []) : 3 ≤ c := by
    split at hc
    · exact List.mem_singleton.1 hc ▸ hk
    · simp at hc
  intro c hc
  unfold outSample at hc
  split at hc
  · simp at hc
  · simp only [List.mem_append] at hc
    rcases hc with (hc | hc) | hc <;> exact hcode _ _ c (by decide) hc

/-- An output that is on, and has read low five times, gives code 3 on the next low sample. -/
theorem outSample_low {x : OutSt} (hlast : x.last = some false) (hn : 5 ≤ x.n) (active lim : Bool) : 3 ∈ (outSample x true false active false lim).2 := by
  have hsix : 6 ≤ min 200 (x.n + 1) := by omega
  simp [outSample, hlast, hsix]

/-- What output A's readback `rbA` and limit `limA`, and output B's, make of the state. -/
def State.samples (s : State) (rbA rbB limA limB : Bool) : (OutSt × List Nat) × (OutSt × List Nat) :=
  let act := s.dev != .boot && s.dev != .park
  (outSample s.guard.outA s.soutOn (decide (s.guard.pulse = some 0)) act rbA limA, outSample s.guard.outB s.soutOn (decide (s.guard.pulse = some 1)) act rbB limB)

/-- The samples taken, without the code they give. -/
def State.sampledOuts (s : State) (rbA rbB limA limB : Bool) : State :=
  let x := s.samples rbA rbB limA limB
  (s.setRb rbA rbB).withGuard { s.guard with outA := x.1.1, outB := x.2.1 }

/-- The codes that the samples give. -/
def State.sampleCodes (s : State) (rbA rbB limA limB : Bool) : List Nat := (s.samples rbA rbB limA limB).1.2 ++ (s.samples rbA rbB limA limB).2.2

theorem execReadbackSample_eq (rbA rbB limA limB : Bool) (s : State) : execReadbackSample rbA rbB limA limB s =
    match (s.sampleCodes rbA rbB limA limB).min? with
    | none => .next (s.sampledOuts rbA rbB limA limB)
    | some c => .next ((s.sampledOuts rbA rbB limA limB).soutFault c) := by
  obtain ⟨-, -, hkeep, -⟩ := s.setRb_shows rbA rbB
  have hon : (s.setRb rbA rbB).b Fld.GUARD_STAT_ON = s.soutOn := hkeep _ (by decide) (by decide)
  unfold execReadbackSample
  dsimp only
  rw [hon]
  rfl

/-- The samples taken change the readback bits and the Guard's own part. -/
theorem State.sampledOuts_frame (s : State) (rbA rbB limA limB : Bool) : State.regsBut [Reg.GUARD_STAT] s (s.sampledOuts rbA rbB limA limB) ∧
    { s.sampledOuts rbA rbB limA limB with regs := s.regs, guard := s.guard } = s := by
  obtain ⟨-, -, -, hregs⟩ := s.setRb_shows rbA rbB
  exact ⟨State.regsBut_of hregs (State.withGuard_regs _ _), by simp [State.sampledOuts, State.setRb]⟩

theorem readbackSample_off (rbA rbB limA limB : Bool) (s : State) (hoff : s.soutOn = false) (hA : s.guard.outA.last ≠ some true) (hB : s.guard.outB.last ≠ some true) :
    Answers (.readbackSample rbA rbB limA limB) s (fun t => t.b Fld.GUARD_STAT_RB_A = rbA ∧ t.b Fld.GUARD_STAT_RB_B = rbB ∧ t.guard.outA.n = min 200 (s.guard.outA.n + 1) ∧
      t.guard.outB.n = min 200 (s.guard.outB.n + 1) ∧ State.regsBut [Reg.GUARD_STAT] s t ∧ { t with regs := s.regs, guard := s.guard } = s) := by
  obtain ⟨hrbA, hrbB, -⟩ := s.setRb_shows rbA rbB
  obtain ⟨hcodesA, hnA⟩ := outSample_off hoff hA (decide (s.guard.pulse = some 0)) (s.dev != .boot && s.dev != .park) rbA limA
  obtain ⟨hcodesB, hnB⟩ := outSample_off hoff hB (decide (s.guard.pulse = some 1)) (s.dev != .boot && s.dev != .park) rbB limB
  have hcodes : s.sampleCodes rbA rbB limA limB = [] := by
    simp only [State.sampleCodes, State.samples, hcodesA, hcodesB, List.append_nil]
  exact ⟨s.sampledOuts rbA rbB limA limB, (execReadbackSample_eq rbA rbB limA limB s).trans (by rw [hcodes]; rfl), hrbA, hrbB, hnA, hnB,
    s.sampledOuts_frame rbA rbB limA limB⟩

theorem readbackSample_low (rbB limA limB : Bool) (s : State) (hon : s.soutOn = true) (hpulse : s.guard.pulse = none) (hlast : s.guard.outA.last = some false)
    (hn : 5 ≤ s.guard.outA.n) (hfault : s.b Fld.GUARD_FAULT_SOUT_FAULT = false) :
    Answers (.readbackSample false rbB limA limB) s (fun t => t.soutOn = false ∧ t.f Fld.GUARD_FAULT_FCODE = 3) := by
  have hmin : (s.sampleCodes false rbB limA limB).min? = some 3 := by
    rw [List.min?_eq_some_iff]
    refine ⟨List.mem_append_left _ ?_, fun c hc => (List.mem_append.1 hc).elim (outSample_codes _ _ _ _ _ _ c) (outSample_codes _ _ _ _ _ _ c)⟩
    simpa [State.samples, hon, hpulse] using outSample_low hlast hn _ limA
  obtain ⟨-, -, hkeep, -⟩ := s.setRb_shows false rbB
  have hclear : (s.sampledOuts false rbB limA limB).b Fld.GUARD_FAULT_SOUT_FAULT = false := (hkeep Fld.GUARD_FAULT_SOUT_FAULT (by decide) (by decide)).trans hfault
  exact ⟨_, (execReadbackSample_eq false rbB limA limB s).trans (by rw [hmin]), (State.soutFault_shows _ 3).1, (State.soutFault_records hclear 3).1⟩

theorem readbackSample_shows (rbA rbB limA limB : Bool) (s : State) :
    Answers (.readbackSample rbA rbB limA limB) s (fun t => t.b Fld.GUARD_STAT_RB_A = rbA ∧ t.b Fld.GUARD_STAT_RB_B = rbB ∧ t.dev = s.dev) := by
  obtain ⟨hA, hB, -⟩ := s.setRb_shows rbA rbB
  have hdev {t : State} := Out.dev_of_next (t := t) (execReadbackSample_dev rbA rbB limA limB s)
  have hexec := execReadbackSample_eq rbA rbB limA limB s
  split at hexec
  · exact ⟨_, hexec, hA, hB, hdev hexec⟩
  · next c _ =>
    obtain ⟨hrbA, hrbB⟩ := State.soutFault_readback (s := s.sampledOuts rbA rbB limA limB) ⟨hA, hB⟩ c
    exact ⟨_, hexec, hrbA, hrbB, hdev hexec⟩

/-! # EDM (R315) -/

theorem execEdmTimeout_late {s : State} (hcheck : s.b Fld.GUARD_CFG_CHECK = true) (hwait : s.guard.edmWait.isSome = true) (hms : s.guard.edmMs + s.edmT ≤ s.ms) :
    execEdmTimeout s = .next ((s.withGuard { s.guard with edmWait := none }).soutFault 6) := if_pos (by simp [hcheck, hwait, hms])

theorem edmTimeout_records (s : State) (hcheck : s.b Fld.GUARD_CFG_CHECK = true) (hwait : s.guard.edmWait.isSome = true) (hms : s.guard.edmMs + s.edmT ≤ s.ms)
    (hfault : s.b Fld.GUARD_FAULT_SOUT_FAULT = false) :
    Answers .edmTimeout s (fun t => t.soutOn = false ∧ t.f Fld.GUARD_FAULT_FCODE = 6 ∧ t.b Fld.GUARD_FAULT_SOUT_FAULT = true) := by
  obtain ⟨hoff, hlatched⟩ := (s.withGuard { s.guard with edmWait := none }).soutFault_shows 6
  obtain ⟨hcode, -⟩ := State.soutFault_records (s := s.withGuard { s.guard with edmWait := none }) hfault 6
  exact ⟨_, execEdmTimeout_late hcheck hwait hms, hoff, hcode, hlatched⟩

theorem edmTimeout_latches (s : State) (hcheck : s.b Fld.GUARD_CFG_CHECK = true) (hwait : s.guard.edmWait.isSome = true) (hms : s.guard.edmMs + s.edmT ≤ s.ms) :
    Answers .edmTimeout s (fun t => t.soutOn = false ∧ t.b Fld.GUARD_FAULT_SOUT_FAULT = true ∧ t.dev = s.dev) := by
  obtain ⟨hoff, hlatched⟩ := (s.withGuard { s.guard with edmWait := none }).soutFault_shows 6
  exact ⟨_, execEdmTimeout_late hcheck hwait hms, hoff, hlatched, State.soutFault_dev _ 6⟩

theorem edmTimeout_notLate (s : State) (h : s.guard.edmWait = none ∨ s.ms < s.guard.edmMs + s.edmT) : Answers .edmTimeout s (fun t => t = s) := by
  refine ⟨s, if_neg ?_, rfl⟩
  rcases h with hwait | hms
  · simp [hwait]
  · simp [hms]

/-- EDM shows the level. -/
theorem State.edmShown (s : State) (level : Bool) : (s.setB Fld.GUARD_STAT_EDM level).b Fld.GUARD_STAT_EDM = level := State.b_setB_self _ _ _ (by decide) rfl

theorem execEdmLevelChange_awaited {level : Bool} {s : State} (hwait : s.guard.edmWait = some level) :
    execEdmLevelChange level s = .next ((s.setB Fld.GUARD_STAT_EDM level).withGuard { s.guard with edmWait := none }) := if_pos hwait

theorem edmLevelChange_awaited (level : Bool) (s : State) (hwait : s.guard.edmWait = some level) :
    Answers (.edmLevelChange level) s (fun t => t.b Fld.GUARD_STAT_EDM = level ∧ t.guard.edmWait = none ∧ State.regsBut [Reg.GUARD_STAT] s t ∧
      { t with regs := s.regs, guard := s.guard } = s) :=
  ⟨_, execEdmLevelChange_awaited hwait, s.edmShown level, rfl,
    State.regsBut_setB Fld.GUARD_STAT_EDM level (State.regsBut_refl _ s) (by decide), by simp⟩

/-- Where the level is not awaited, a rise while the outputs are on and nothing is awaited gives code 6; otherwise EDM alone changes. -/
theorem execEdmLevelChange_other {level : Bool} {s : State} (hwait : s.guard.edmWait ≠ some level) : execEdmLevelChange level s =
    if s.b Fld.GUARD_CFG_CHECK && (level && !s.b Fld.GUARD_STAT_EDM) && s.soutOn && s.guard.edmWait.isNone then
      .next ((s.setB Fld.GUARD_STAT_EDM level).soutFault 6) else .next (s.setB Fld.GUARD_STAT_EDM level) := by
  have hcheck : (s.setB Fld.GUARD_STAT_EDM level).b Fld.GUARD_CFG_CHECK = s.b Fld.GUARD_CFG_CHECK := State.b_setB_apart _ _ _ _ (by decide) (by decide)
  have hon : (s.setB Fld.GUARD_STAT_EDM level).b Fld.GUARD_STAT_ON = s.soutOn := State.b_setB_apart _ _ _ _ (by decide) (by decide)
  unfold execEdmLevelChange
  dsimp only
  rw [hcheck, hon]
  exact if_neg hwait

theorem edmLevelChange_rises (s : State) (hwait : s.guard.edmWait = none) (hcheck : s.b Fld.GUARD_CFG_CHECK = true) (hedm : s.b Fld.GUARD_STAT_EDM = false)
    (hon : s.soutOn = true) (hfault : s.b Fld.GUARD_FAULT_SOUT_FAULT = false) :
    Answers (.edmLevelChange true) s (fun t => t.soutOn = false ∧ t.f Fld.GUARD_FAULT_FCODE = 6) := by
  have hclear : (s.setB Fld.GUARD_STAT_EDM true).b Fld.GUARD_FAULT_SOUT_FAULT = false := (State.b_setB_apart _ _ _ _ (by decide) (by decide)).trans hfault
  refine ⟨_, (execEdmLevelChange_other (by simp [hwait])).trans (if_pos (by simp [hwait, hcheck, hedm, hon])), (State.soutFault_shows _ 6).1,
    (State.soutFault_records hclear 6).1⟩

theorem edmLevelChange_shows (level : Bool) (s : State) :
    Answers (.edmLevelChange level) s (fun t => t.b Fld.GUARD_STAT_EDM = level ∧ t.guard.edmWait ≠ some level ∧ t.dev = s.dev) := by
  have hdev {t : State} := Out.dev_of_next (t := t) (execEdmLevelChange_dev level s)
  by_cases hwait : s.guard.edmWait = some level
  · have hexec := execEdmLevelChange_awaited hwait
    exact ⟨_, hexec, s.edmShown level, by simp, hdev hexec⟩
  · have hexec := execEdmLevelChange_other hwait
    split at hexec
    · next hrise =>
      simp only [Bool.and_eq_true, Option.isNone_iff_eq_none] at hrise
      obtain ⟨⟨⟨-, hlevel, -⟩, -⟩, hnone⟩ := hrise
      have hgone := State.soutFault_edmWait ((s.edmShown level).trans hlevel) (by exact hnone) 6
      exact ⟨_, hexec, (State.b_soutFault (by simp) _ 6).trans (s.edmShown level), by simp [hgone], hdev hexec⟩
    · exact ⟨_, hexec, s.edmShown level, hwait, hdev hexec⟩

/-! # The output stage's trip and the Guard CRC (R253, R320, R362) -/

theorem soutStageTrip_latches (s : State) :
    Answers .soutStageTrip s (fun t => t.b Fld.PWR_FAULT_SOUT_TRIP = true ∧ t.soutOn = false ∧ t.dev = s.dev) := by
  have hdev {t : State} := Out.dev_of_next (t := t) (execSoutStageTrip_dev s)
  cases h : s.b Fld.PWR_FAULT_SOUT_TRIP with
  | true =>
    have hexec : execSoutStageTrip s = .next s.soutOff := if_pos h
    exact ⟨_, hexec, (State.b_soutOff (by decide) s).trans h, s.soutOff_soutOn, hdev hexec⟩
  | false =>
    have hexec : execSoutStageTrip s = .next ((((s.raise Cause.SOUT_TRIP)).logEvent 0x0022 1 (s.rget Reg.THERM_STAT)).soutOff) := if_neg (by simp [h])
    refine ⟨_, hexec, ?_, State.soutOff_soutOn _, hdev hexec⟩
    rw [State.b_logOff (by decide) (by decide)]
    exact State.b_raise_self s Cause.SOUT_TRIP (by decide)

/-- The Guard CRC is judged: the safety function is there, and no change is open. -/
theorem guardCrcPass_condition {s : State} (hactive : s.guardActive = true) (hboot : s.dev ≠ .boot) (hpark : s.dev ≠ .park)
    (hopen : s.b Fld.GUARD_STAT_CHANGE_OPEN = false) :
    (!s.guardActive || decide (s.dev = .boot) || decide (s.dev = .park) || s.b Fld.GUARD_STAT_CHANGE_OPEN) = false := by
  simp [hactive, hboot, hpark, hopen]

theorem execGuardCrcPass_uncorrectable {s : State} (hactive : s.guardActive = true) (hboot : s.dev ≠ .boot) (hpark : s.dev ≠ .park)
    (hopen : s.b Fld.GUARD_STAT_CHANGE_OPEN = false) (a : Nat) :
    execGuardCrcPass (some a) s = .next ((s.raise Cause.FMAP_UE).logEvent 0x0031 5 (BitVec.ofNat 32 a)).crcErr := by
  rw [execGuardCrcPass, guardCrcPass_condition hactive hboot hpark hopen]
  rfl

theorem execGuardCrcPass_read {s : State} (hactive : s.guardActive = true) (hboot : s.dev ≠ .boot) (hpark : s.dev ≠ .park)
    (hopen : s.b Fld.GUARD_STAT_CHANGE_OPEN = false) : execGuardCrcPass none s =
      .next (if s.guardCrc = s.rget Reg.GUARD_CRCREF then s.rset Reg.GUARD_CRC s.guardCrc else (s.rset Reg.GUARD_CRC s.guardCrc).crcErr) := by
  have href : (s.rset Reg.GUARD_CRC s.guardCrc).rget Reg.GUARD_CRCREF = s.rget Reg.GUARD_CRCREF := State.rget_rset_ne _ _ _ _ (by decide)
  rw [execGuardCrcPass, guardCrcPass_condition hactive hboot hpark hopen, if_neg Bool.false_ne_true]
  dsimp only
  rw [href]

theorem guardCrcPass_agrees (s : State) (hactive : s.guardActive = true) (hboot : s.dev ≠ .boot) (hpark : s.dev ≠ .park)
    (hopen : s.b Fld.GUARD_STAT_CHANGE_OPEN = false) (hcrc : s.guardCrc = s.rget Reg.GUARD_CRCREF) :
    Answers (.guardCrcPass none) s (fun t => t.rget Reg.GUARD_CRC = s.guardCrc ∧ State.regsBut [Reg.GUARD_CRC] s t ∧ { t with regs := s.regs } = s) :=
  ⟨_, (execGuardCrcPass_read hactive hboot hpark hopen).trans (congrArg Host.Outcome.next (if_pos hcrc)), State.rget_rset_self _ _ _,
    State.regsBut_rset _ _ (State.regsBut_refl _ s) (by decide), rfl⟩

/-- A CRC error after the pass leaves GUARD_CRC as the pass has written it. -/
theorem State.crcErr_crc (s : State) (c : Word) : (s.rset Reg.GUARD_CRC c).crcErr.rget Reg.GUARD_CRC = c := by
  obtain ⟨-, -, hregs⟩ := (s.rset Reg.GUARD_CRC c).crcErr_shows
  exact (hregs Reg.GUARD_CRC (by decide)).trans (State.rget_rset_self _ _ _)

theorem guardCrcPass_differs (s : State) (hactive : s.guardActive = true) (hboot : s.dev ≠ .boot) (hpark : s.dev ≠ .park)
    (hopen : s.b Fld.GUARD_STAT_CHANGE_OPEN = false) (hcrc : s.guardCrc ≠ s.rget Reg.GUARD_CRCREF) :
    Answers (.guardCrcPass none) s (fun t => t.b Fld.GUARD_FAULT_CRC_ERR = true ∧ t.soutOn = false ∧ t.rget Reg.GUARD_CRC = s.guardCrc) := by
  obtain ⟨herr, hoff, -⟩ := (s.rset Reg.GUARD_CRC s.guardCrc).crcErr_shows
  exact ⟨_, (execGuardCrcPass_read hactive hboot hpark hopen).trans (congrArg Host.Outcome.next (if_neg hcrc)), herr, hoff, s.crcErr_crc _⟩

theorem guardCrcPass_open (ue : Option Nat) (s : State) (hopen : s.b Fld.GUARD_STAT_CHANGE_OPEN = true) : Answers (.guardCrcPass ue) s (fun t => t = s) :=
  ⟨s, if_pos (by simp [hopen]), rfl⟩

theorem guardCrcPass_uncorrectable (a : Nat) (s : State) (hactive : s.guardActive = true) (hboot : s.dev ≠ .boot) (hpark : s.dev ≠ .park)
    (hopen : s.b Fld.GUARD_STAT_CHANGE_OPEN = false) :
    Answers (.guardCrcPass (some a)) s (fun t => t.causeSet Cause.FMAP_UE = true ∧ t.b Fld.GUARD_FAULT_CRC_ERR = true ∧ t.soutOn = false ∧ t.dev = s.dev) := by
  have hexec := execGuardCrcPass_uncorrectable hactive hboot hpark hopen a
  obtain ⟨herr, hoff, hregs⟩ := ((s.raise Cause.FMAP_UE).logEvent 0x0031 5 (BitVec.ofNat 32 a)).crcErr_shows
  refine ⟨_, hexec, (State.b_eq _ _ Cause.FMAP_UE.fld (hregs _ (by decide))).trans ?_, herr, hoff, Out.dev_of_next (execGuardCrcPass_dev (some a) s) hexec⟩
  exact (State.b_logEvent _ _ _ _ _ (by decide)).trans (State.b_raise_self s Cause.FMAP_UE (by decide))

theorem guardCrcPass_writes (s : State) (hactive : s.guardActive = true) (hboot : s.dev ≠ .boot) (hpark : s.dev ≠ .park)
    (hopen : s.b Fld.GUARD_STAT_CHANGE_OPEN = false) : Answers (.guardCrcPass none) s (fun t => t.rget Reg.GUARD_CRC = s.guardCrc ∧ t.dev = s.dev) := by
  have hexec := execGuardCrcPass_read hactive hboot hpark hopen
  refine ⟨_, hexec, ?_, Out.dev_of_next (execGuardCrcPass_dev none s) hexec⟩
  split
  · exact State.rget_rset_self _ _ _
  · exact s.crcErr_crc _

/-- Settles O44: switching off by `State.soutOff_on`, a fault by `State.soutFault_shows` and what it records, each row by its equation. -/
theorem guardOutputs : Obligations.GuardOutputs := by
  unfold Obligations.GuardOutputs
  refine ⟨enEdge_leavesActive, enEdge_off, guardOutputsOn_switches, guardOutputsOn_edmLow, guardOutputsOn_fails, offPulseStart_due, offPulseStart_notDue,
    offPulseEnd_passes, fun rbB s hpulse hend _ hfault => offPulseEnd_ownHigh rbB s hpulse hend hfault, readbackSample_off, readbackSample_low,
    edmTimeout_records, edmTimeout_notLate, edmLevelChange_awaited, edmLevelChange_rises, fun s _ => ?_, guardCrcPass_agrees, guardCrcPass_differs,
    guardCrcPass_open, offPulseEnd_none, enEdge_levels, guardOutputsOn_awaits, offPulseEnd_shows, readbackSample_shows, edmTimeout_latches,
    edmLevelChange_shows, soutStageTrip_latches, guardCrcPass_uncorrectable, guardCrcPass_writes⟩
  obtain ⟨t, hexec, htrip, hoff, -⟩ := soutStageTrip_latches s
  exact ⟨t, hexec, htrip, hoff⟩

end Sys2Proof.Machine
end

section
namespace Sys2Proof.Machine

/-! # ADC0's reference (R233) -/

theorem adc0RefReady_settled (s : State) (h : s.adc.refFail = false) :
    Answers .adc0RefReady s (fun t => t.b Fld.ADC0_STAT_REFRDY = true ∧ State.regsBut [Reg.ADC0_STAT] s t ∧ { t with regs := s.regs } = s) :=
  ⟨s.setB Fld.ADC0_STAT_REFRDY true, congrArg Host.Outcome.next (if_neg (by simp [h])), State.b_setB_self _ _ _ (by decide) rfl,
    State.regsBut_setB _ _ (State.regsBut_refl _ s) (by decide), by simp⟩

theorem adc0RefReady_late (s : State) (h : s.adc.refFail = true) : Answers .adc0RefReady s (fun t => t = s) := ⟨s, congrArg Host.Outcome.next (if_pos h), rfl⟩

theorem adc0RefFail_fails (s : State) (h : s.b Fld.ADC0_STAT_REFRDY = false) :
    Answers .adc0RefFail s (fun t => t.causeSet Cause.ADC0_REF_FAIL = true ∧ t.b Fld.ADC0_STAT_REFRDY = false ∧ t.adc.refFail = true ∧
      { t with regs := s.regs, adc := s.adc } = s) :=
  ⟨(s.withAdc { s.adc with refFail := true }).raise Cause.ADC0_REF_FAIL, congrArg Host.Outcome.next (if_neg (by simp [h])),
    State.b_raise_self _ Cause.ADC0_REF_FAIL (by decide), (State.b_raise_apart _ _ _ (by decide) (by decide) (by decide) (by decide)).trans h, rfl, by simp⟩

theorem adc0RefFail_ready (s : State) (h : s.b Fld.ADC0_STAT_REFRDY = true) : Answers .adc0RefFail s (fun t => t = s) :=
  ⟨s, congrArg Host.Outcome.next (if_pos h), rfl⟩

/-! # Requests (R234-R236) -/

theorem adc0ReqGo_triggers (n : Nat) (s : State) (hn : n < 4) (hen : s.b (Fld.ADC0_REQ_EN n) = true) (htrig : s.f (Fld.ADC0_REQ_TRIG n) = 0) :
    Answers (.adc0ReqGo n) s (fun t => (n, s.now) ∈ t.adc.due ∧ t.adc.jobs = s.adc.jobs ∧ { t with adc := s.adc } = s) := by
  have hgo : s.reqGo n = s.adcDue n s.now := if_pos (by simp [hen, htrig])
  exact ⟨s.adcDue n s.now, congrArg Host.Outcome.next ((if_pos hn).trans hgo), List.mem_concat_self, rfl, rfl⟩

theorem adc0ReqGo_disabled (n : Nat) (s : State) (hen : s.b (Fld.ADC0_REQ_EN n) = false) : Answers (.adc0ReqGo n) s (fun t => t = s) := by
  have hgo : s.reqGo n = s := if_neg (by simp [hen])
  exact ⟨s, congrArg Host.Outcome.next (by rw [hgo, ite_self]), rfl⟩

/-- A trigger used up leaves the schedule alone. -/
theorem State.reqUsed_form (s : State) (n t : Nat) : ∃ a, s.reqUsed n t = s.withAdc a ∧ a.jobs = s.adc.jobs := by
  unfold State.reqUsed
  split
  · exact ⟨_, rfl, rfl⟩
  · exact ⟨_, rfl, rfl⟩

/-- The schedule decides which slot a burst gets first. -/
theorem State.adcFirst_withAdc {s : State} {a : AdcSt} (h : a.jobs = s.adc.jobs) (j : AdcJob) : (s.withAdc a).adcFirst j = s.adcFirst j := by
  have hrecent : (s.withAdc a).adcRecent = s.adcRecent := congrArg (List.filter _) h
  rw [State.adcFirst, State.adcFirst, hrecent]

/-- The trigger is used up and the burst takes its place in the schedule, or it is missed (R235). -/
theorem execAdc0ReqTrigger_first {n x k : Nat} {s : State} (hn : n < 4) (htrig : s.reqTriggers n x = true) (hfirst : s.adcFirst (s.reqJob n x) = some k) :
    ∃ a b : AdcSt, a.jobs = s.adc.jobs ∧ b.jobs = s.adcRecent ++ [s.reqJob n x] ∧ execAdc0ReqTrigger n x s =
      if 4 * k ≤ x + 1000 then .next ((s.rset (Reg.ADC0_REQS n) 0x40000000).withAdc b).adcStamp
      else .next ((s.withAdc a).raise (Cause.ADC0_REQ_MISS n)) := by
  obtain ⟨a, hused, hjobs⟩ := s.reqUsed_form n x
  have hfirst' : (s.withAdc a).adcFirst ((s.withAdc a).reqJob n x) = some k := (State.adcFirst_withAdc hjobs _).trans hfirst
  refine ⟨a, { a with jobs := (s.withAdc a).adcRecent ++ [s.reqJob n x], start := SMap.set (fun _ => none) a.start n (some k) }, hjobs,
    congrArg (fun l => List.filter _ l ++ [s.reqJob n x]) hjobs, ?_⟩
  unfold execAdc0ReqTrigger
  rw [if_pos (by simp [hn, htrig])]
  dsimp only
  rw [hused, hfirst']
  rfl

/-- The state without its registers and ADC0's own part. -/
def State.besideAdc (s : State) : State := { s with regs := [], adc := {} }

theorem State.eq_of_besideAdc {s t : State} (h : t.besideAdc = s.besideAdc) : { t with regs := s.regs, adc := s.adc } = s :=
  congrArg (fun p : State => { p with regs := s.regs, adc := s.adc }) h

theorem State.withAdc_besideAdc (s : State) (a : AdcSt) : (s.withAdc a).besideAdc = s.besideAdc := (rfl)
theorem State.rset_besideAdc (s : State) (a : Nat) (v : Word) : (s.rset a v).besideAdc = s.besideAdc := (rfl)
theorem State.setF_besideAdc (s : State) (F : Fld) (x : Nat) : (s.setF F x).besideAdc = s.besideAdc := (rfl)

/-- The registers that record the starts of bursts. -/
def Reg.adcStamps : List Nat := (List.range 4).map (fun i => (Fld.ADC0_REQTS_NS i).addr)

/-- A burst's start, once it has come, is recorded in ADC0_REQTSn; the schedule stays (R236). -/
theorem State.adcStamp_shows (s : State) : State.regsBut Reg.adcStamps s s.adcStamp ∧ s.adcStamp.adc.jobs = s.adc.jobs ∧
    s.adcStamp.besideAdc = s.besideAdc := by
  unfold State.adcStamp
  refine ⟨State.regsBut_foldl (fun p n hn => ?_) s, foldl_keeps (fun p => p.adc.jobs) (fun p n _ => ?_) s, foldl_keeps State.besideAdc (fun p n _ => ?_) s⟩
  · split
    · refine State.regsBut_ite (State.regsBut_of (State.regsBut_setF _ _ (State.regsBut_refl _ p) ?_) (State.withAdc_regs _ _)) (State.regsBut_refl _ p)
      exact List.mem_map.2 ⟨n, hn, rfl⟩
    · exact State.regsBut_refl _ p
  · split
    · split <;> rfl
    · rfl
  · split
    · split
      · exact (State.withAdc_besideAdc _ _).trans (State.setF_besideAdc _ _ _)
      · rfl
    · rfl

theorem adc0ReqTrigger_taken (n x k : Nat) (s : State) (hn : n < 4) (htrig : s.reqTriggers n x = true) (hfirst : s.adcFirst (s.reqJob n x) = some k)
    (hk : 4 * k ≤ x + 1000) :
    Answers (.adc0ReqTrigger n x) s (fun t => t.rget (Reg.ADC0_REQS n) = 0x40000000 ∧ t.adc.jobs = s.adcRecent ++ [s.reqJob n x] ∧
      State.regsBut (Reg.ADC0_REQS n :: (List.range 4).map (fun i => (Fld.ADC0_REQTS_NS i).addr)) s t ∧ { t with regs := s.regs, adc := s.adc } = s) := by
  have hbeside : ∀ n < 4, Reg.ADC0_REQS n ∉ Reg.adcStamps := by decide
  obtain ⟨_, b, _, hjobs, hexec⟩ := execAdc0ReqTrigger_first hn htrig hfirst
  obtain ⟨hregs, hkeep, hrest⟩ := ((s.rset (Reg.ADC0_REQS n) 0x40000000).withAdc b).adcStamp_shows
  have hset : State.regsBut (Reg.ADC0_REQS n :: Reg.adcStamps) s ((s.rset (Reg.ADC0_REQS n) 0x40000000).withAdc b) :=
    State.regsBut_of (State.regsBut_rset _ _ (State.regsBut_refl _ s) List.mem_cons_self) (State.withAdc_regs _ _)
  refine ⟨_, hexec.trans (if_pos hk), (hregs _ (hbeside n hn)).trans (State.rget_rset_self s _ _), hkeep.trans hjobs,
    State.regsBut_trans hset (State.regsBut_mono hregs (List.subset_cons_self _ _)), State.eq_of_besideAdc (hrest.trans ?_)⟩
  rw [State.withAdc_besideAdc, State.rset_besideAdc]

theorem adc0ReqTrigger_missed (n x k : Nat) (s : State) (hn : n < 4) (htrig : s.reqTriggers n x = true) (hfirst : s.adcFirst (s.reqJob n x) = some k)
    (hk : x + 1000 < 4 * k) :
    Answers (.adc0ReqTrigger n x) s (fun t => t.causeSet (Cause.ADC0_REQ_MISS n) = true ∧ t.rget (Reg.ADC0_REQS n) = s.rget (Reg.ADC0_REQS n) ∧
      t.adc.jobs = s.adc.jobs) := by
  have hcause : ∀ n < 4, (Cause.ADC0_REQ_MISS n).fld.fits = true ∧ Reg.ADC0_REQS n ≠ (Cause.ADC0_REQ_MISS n).fld.addr ∧
      Reg.ADC0_REQS n ≠ (Cause.ADC0_REQ_MISS n).cnt.addr := by decide
  obtain ⟨hfits, hfld, hcnt⟩ := hcause n hn
  obtain ⟨a, _, hjobs, _, hexec⟩ := execAdc0ReqTrigger_first hn htrig hfirst
  exact ⟨_, hexec.trans (if_neg (Nat.not_le.2 hk)), State.b_raise_self _ _ hfits, State.rget_raise_ne _ _ _ hfld hcnt, hjobs⟩

theorem adc0ReqTrigger_none (n x : Nat) (s : State) (htrig : s.reqTriggers n x = false) : Answers (.adc0ReqTrigger n x) s (fun t => t = s) :=
  ⟨s, if_neg (by simp [htrig]), rfl⟩

/-! ## The end of a burst (R236) -/

theorem State.storeBurst_adc (s : State) (n i : Nat) (ws : List (BitVec 16)) : (s.storeBurst n i ws).adc = s.adc := by
  induction ws generalizing s i with
  | nil => rfl
  | cons w ws ih => exact ih _ _

/-- ADC0's own part decides what of it the end of a job leaves. -/
theorem State.adcDone_adc {s p : State} (h : p.adc = s.adc) (i : Nat) : (p.adcDone i).adc = (s.adcDone i).adc := by
  unfold State.adcDone
  rw [h]
  split
  · exact h
  · rfl

/-- A burst with a conversion for each of its slots has a sample for each. -/
theorem State.burstWords_length (s : State) (k : Nat) {slots : List Nat} {convs : List Conv} (h : slots.length ≤ convs.length) :
    (s.burstWords k slots convs).length = slots.length := by
  simp only [State.burstWords, List.length_map, List.length_zip, List.length_append, List.length_take]
  omega

/-- The burst is stored, and REQS shows it. -/
theorem execAdc0BurstDone_ends {n i : Nat} {convs : List Conv} {s : State} (hn : n < 4) (hlive : s.adcLive (2 + n) = some i)
    (hconvs : (adcSlots s.adc.jobs i).length ≤ convs.length) : ∃ p : State, execAdc0BurstDone n convs s =
      .next (p.rset (Reg.ADC0_REQS n) (BitVec.ofNat 32 (2 ^ 31 + (p.adcLive (2 + n)).isSome.toNat * 2 ^ 30 + (adcSlots s.adc.jobs i).length))) ∧
    p.adc = (s.adcDone i).adc := by
  unfold execAdc0BurstDone
  rw [hlive]
  dsimp only
  rw [if_neg (by simp; omega), State.burstWords_length s _ hconvs]
  have hadc (ws : List (BitVec 16)) : ((s.storeBurst n 0 ws).adcDone i).adc = (s.adcDone i).adc := State.adcDone_adc (State.storeBurst_adc s n 0 ws) i
  split
  · exact ⟨_, rfl, (State.withAdcLast_adc _ _).trans (hadc _)⟩
  · exact ⟨_, rfl, hadc _⟩

theorem adc0BurstDone_shows (n i : Nat) (convs : List Conv) (s : State) (hn : n < 4) (hlive : s.adcLive (2 + n) = some i)
    (hconvs : (adcSlots s.adc.jobs i).length ≤ convs.length) :
    Answers (.adc0BurstDone n convs) s (fun t =>
      t.rget (Reg.ADC0_REQS n) = BitVec.ofNat 32 (2 ^ 31 + ((s.adcDone i).adcLive (2 + n)).isSome.toNat * 2 ^ 30 + (adcSlots s.adc.jobs i).length) ∧
      t.adc.jobs = (s.adcDone i).adc.jobs) := by
  obtain ⟨p, hexec, hadc⟩ := execAdc0BurstDone_ends hn hlive hconvs
  have hlive' : p.adcLive (2 + n) = (s.adcDone i).adcLive (2 + n) := by rw [State.adcLive, State.adcLive, hadc]
  exact ⟨_, hexec, by rw [State.rget_rset_self, hlive'], by rw [State.rset_adc, hadc]⟩

theorem adc0BurstDone_none (n : Nat) (convs : List Conv) (s : State) (hlive : s.adcLive (2 + n) = none) : Answers (.adc0BurstDone n convs) s (fun t => t = s) := by
  refine ⟨s, ?_, rfl⟩
  change execAdc0BurstDone n convs s = _
  rw [execAdc0BurstDone, hlive]

/-! # The background stream and the filter (R235-R239) -/

theorem adc0FirCommit_stages (s : State) :
    Answers .adc0FirCommit s (fun t => t.adc.pend = some s.firStaged ∧ t.adc.fir = s.adc.fir ∧
      (s.firStaged.n ≠ (s.adc.pend.getD s.adc.fir).n → t.adc.refill = 11 + (s.f Fld.ADC0_FIR_NTAP + 1)) ∧ { t with adc := s.adc } = s) :=
  ⟨s.firCommit, rfl, rfl, rfl, fun h => if_neg (by simp [h]), rfl⟩

theorem firOutput_off (x : Nat) (convs : List Conv) (s : State) (hbg : s.b Fld.ADC0_BG_EN = false) : Answers (.firOutput x convs) s (fun t => t = s) :=
  ⟨s, if_pos (by simp [hbg]), rfl⟩

theorem execFirOutput_one {x : Nat} {c : Conv} {s : State} (hbg : s.b Fld.ADC0_BG_EN = true) :
    execFirOutput x s [c] = .next ((s.background x c).firStep x) := by
  simp [execFirOutput, hbg]

/-- BGRES alone of the registers shows a background result. -/
theorem State.background_shows (s : State) (x : Nat) (c : Conv) : (s.background x c).f Fld.ADC0_BGRES_RES = (s.bgWord x c).toNat ∧
    (s.background x c).b Fld.ADC0_FIR_EN = s.b Fld.ADC0_FIR_EN ∧ State.regsBut [Reg.ADC0_BGRES] s (s.background x c) ∧
    (s.background x c).adc.last = s.bgWord x c ∧ (s.background x c).adc.queue = s.adc.queue ∧ (s.background x c).adc.cmp = s.adc.cmp ∧
    (s.background x c).adc.dec = s.adc.dec ∧ (s.background x c).adc.refill = s.adc.refill - 1 := by
  have hform : ∃ a l, s.background x c = ((s.withAdc a).withAdcLast l).setF Fld.ADC0_BGRES_RES (s.bgWord x c).toNat ∧ a.last = s.bgWord x c ∧
      a.queue = s.adc.queue ∧ a.cmp = s.adc.cmp ∧ a.dec = s.adc.dec ∧ a.refill = s.adc.refill - 1 := ⟨_, _, rfl, rfl, rfl, rfl, rfl, rfl⟩
  obtain ⟨a, l, hbg, hadc⟩ := hform
  rw [hbg]
  refine ⟨?_, State.b_setF_apart _ _ _ _ (by decide) (by decide), State.regsBut_setF _ _ (State.regsBut_of (State.regsBut_refl _ s) rfl) (by decide), hadc⟩
  rw [State.f_setF_self _ _ _ (by decide)]
  exact Nat.mod_eq_of_lt (s.bgWord x c).isLt

theorem State.firStep_off {s : State} (h : s.b Fld.ADC0_FIR_EN = false) (x : Nat) : s.firStep x = s := if_pos (by simp [h])

theorem State.firStep_waits {s : State} (h : s.b Fld.ADC0_FIR_EN = true) (hdec : s.adc.dec ≠ 0) (x : Nat) :
    s.firStep x = s.withAdc { s.adc with dec := s.adc.dec - 1 } := (if_neg (by simp [h])).trans (if_neg hdec)

theorem State.firStep_gives {s : State} (h : s.b Fld.ADC0_FIR_EN = true) (hdec : s.adc.dec = 0) (x : Nat) : s.firStep x = s.firOut x :=
  (if_neg (by simp [h])).trans (if_pos hdec)

/-- A code has 12 bits. -/
theorem State.adcCode_lt (s : State) (k t : Nat) (c : Conv) : s.adcCode k t c < 4096 := by
  unfold State.adcCode
  split
  · exact (Config.adcOpen k t).isLt
  · unfold adcFormula
    split <;> omega

/-- Without a reference a result is INV already (R236). -/
theorem State.resultWord_inv {s : State} (h : s.b Fld.ADC0_STAT_REFRDY = false) (k t : Nat) (c : Conv) :
    s.resultWord k t c false ||| 0x1000 = s.resultWord k t c false := by
  have hlt := s.adcCode_lt k t c
  have hword : s.resultWord k t c false = BitVec.ofNat 16 (s.adcCode k t c + 2 ^ 12 * 1) := by simp [State.resultWord, h]
  rw [hword, Nat.add_comm, Nat.two_pow_add_eq_or_of_lt hlt]
  apply BitVec.eq_of_toNat_eq
  rw [BitVec.toNat_or, BitVec.toNat_ofNat, Nat.mod_eq_of_lt (Nat.or_lt_two_pow (by decide) (by omega))]
  change (4096 ||| _) ||| 4096 = _
  rw [Nat.or_right_comm, Nat.or_self]

/-- With the channel settled and its slot its own, the background stream's result is the channel's (R235, R237). -/
theorem State.bgWord_own {s : State} {x : Nat} (hused : s.adcUsed (x / 4) = false) (hch : s.adc.chInv = 0) (c : Conv) :
    s.bgWord x c = s.resultWord (s.f Fld.ADC0_BG_CH) x c false := by
  have hsource : s.bgSource = s.f Fld.ADC0_BG_CH := if_pos hch
  unfold State.bgWord
  rw [hused, hsource, hch]
  cases h : s.b Fld.ADC0_STAT_REFRDY with
  | false => simpa using State.resultWord_inv h _ x c
  | true => simp

/-- In a slot that another requester used, the previous result is repeated with HELD (R235, R236). -/
theorem State.bgWord_held {s : State} {x : Nat} (hused : s.adcUsed (x / 4) = true) (c : Conv) :
    (s.bgWord x c).toNat % 4096 = s.adc.last.toNat % 4096 ∧ (s.bgWord x c).getLsbD 13 = true := by
  have hheld (inv : Bool) : let w := ((s.adc.last &&& 0x1FFF) ||| 0x2000) ||| (if inv then 0x1000 else 0)
      w.setWidth 12 = s.adc.last.setWidth 12 ∧ w.getLsbD 13 = true := by
    have hall (v : BitVec 12) : v &&& 4095#12 = v := BitVec.and_allOnes
    cases inv <;> simp [BitVec.setWidth_or, BitVec.setWidth_and, hall]
  obtain ⟨hlow, hbit⟩ := hheld (s.adc.chInv != 0 || !s.b Fld.ADC0_STAT_REFRDY)
  have hword : s.bgWord x c = ((s.adc.last &&& 0x1FFF) ||| 0x2000) ||| (if s.adc.chInv != 0 || !s.b Fld.ADC0_STAT_REFRDY then 0x1000 else 0) := by
    rw [State.bgWord, hused]
    rfl
  rw [hword]
  have hmod := congrArg BitVec.toNat hlow
  rw [BitVec.toNat_setWidth, BitVec.toNat_setWidth] at hmod
  exact ⟨hmod, hbit⟩

theorem firOutput_background (x : Nat) (c : Conv) (s : State) (hbg : s.b Fld.ADC0_BG_EN = true) (hfir : s.b Fld.ADC0_FIR_EN = false)
    (hused : s.adcUsed (x / 4) = false) (hch : s.adc.chInv = 0) :
    Answers (.firOutput x [c]) s (fun t => t.f Fld.ADC0_BGRES_RES = (s.resultWord (s.f Fld.ADC0_BG_CH) x c false).toNat ∧
      t.adc.last = s.resultWord (s.f Fld.ADC0_BG_CH) x c false ∧ t.adc.queue = s.adc.queue ∧ State.regsBut [Reg.ADC0_BGRES] s t) := by
  obtain ⟨hres, hen, hregs, hlast, hqueue, -⟩ := s.background_shows x c
  rw [State.bgWord_own hused hch] at hres hlast
  refine ⟨_, (execFirOutput_one hbg).trans (congrArg Host.Outcome.next (State.firStep_off (hen.trans hfir) x)), hres, hlast, hqueue, hregs⟩

theorem firOutput_decimates (x : Nat) (c : Conv) (s : State) (hbg : s.b Fld.ADC0_BG_EN = true) (hfir : s.b Fld.ADC0_FIR_EN = true) (hdec : s.adc.dec ≠ 0) :
    Answers (.firOutput x [c]) s (fun t => t.adc.dec = s.adc.dec - 1 ∧ t.rget Reg.ADC0_FIRY = s.rget Reg.ADC0_FIRY ∧ t.adc.queue = s.adc.queue) := by
  obtain ⟨-, hen, hregs, -, hqueue, -, hkeep, -⟩ := s.background_shows x c
  refine ⟨_, (execFirOutput_one hbg).trans (congrArg Host.Outcome.next (State.firStep_waits (hen.trans hfir) (by rwa [hkeep]) x)),
    congrArg (· - 1) hkeep, hregs _ (by decide), hqueue⟩

/-- The output that is due while the filter refills is INV, and the comparator does not see it (R237-R239). -/
theorem State.firOut_refilling {s : State} (h : s.adc.refill ≠ 0) (x : Nat) : (s.firOut x).b Fld.ADC0_FIRY_INV = true ∧ (s.firOut x).adc.cmp = s.adc.cmp ∧
    (s.firOut x).adc.queue = s.adc.queue ∧ State.regsBut [Reg.ADC0_FIRY] s (s.firOut x) := by
  have hform : ∃ a y, s.firOut x = ((s.withAdc a).setFs Fld.ADC0_FIRY_Y y).setB Fld.ADC0_FIRY_INV true ∧ a.cmp = s.adc.cmp ∧ a.queue = s.adc.queue := by
    have hinv : (s.withAdc { s.adc with fir := s.adc.pend.getD s.adc.fir, pend := none }).firInv = true := by simp [State.firInv, h]
    unfold State.firOut
    dsimp only
    rw [hinv, if_pos rfl]
    exact ⟨_, _, rfl, rfl, rfl⟩
  obtain ⟨a, y, hout, hcmp, hqueue⟩ := hform
  rw [hout]
  exact ⟨State.b_setB_self _ _ _ (by decide) rfl, hcmp, hqueue,
    State.regsBut_setB _ _ (State.regsBut_setF _ _ (State.regsBut_of (State.regsBut_refl _ s) (State.withAdc_regs _ _)) (by decide)) (by decide)⟩

theorem firOutput_refilling (x : Nat) (c : Conv) (s : State) (hbg : s.b Fld.ADC0_BG_EN = true) (hfir : s.b Fld.ADC0_FIR_EN = true) (hdec : s.adc.dec = 0)
    (hrefill : 1 < s.adc.refill) :
    Answers (.firOutput x [c]) s (fun t => t.b Fld.ADC0_FIRY_INV = true ∧ t.adc.cmp = s.adc.cmp ∧ t.adc.queue = s.adc.queue ∧
      State.regsBut [Reg.ADC0_FIRY, Reg.ADC0_BGRES] s t) := by
  obtain ⟨-, hen, hregs, -, hqueue, hcmp, hkeep, hleft⟩ := s.background_shows x c
  obtain ⟨hinv, hcmp', hqueue', hregs'⟩ := State.firOut_refilling (s := s.background x c) (by omega) x
  refine ⟨_, (execFirOutput_one hbg).trans (congrArg Host.Outcome.next (State.firStep_gives (hen.trans hfir) (hkeep.trans hdec) x)), hinv, hcmp'.trans hcmp,
    hqueue'.trans hqueue, State.regsBut_trans (State.regsBut_mono hregs (by decide)) (State.regsBut_mono hregs' (by decide))⟩

/-- The background stream's last result, as ADC0 keeps it and as BGRES shows it. -/
def State.bgView (s : State) : BitVec 16 × Word := (s.adc.last, s.rget Reg.ADC0_BGRES)

theorem State.bgView_ite (c : Prop) [Decidable c] (a b : State) : (if c then a else b).bgView = if c then a.bgView else b.bgView := by split <;> rfl
theorem State.setF_bgView {F : Fld} (h : F.addr ≠ Reg.ADC0_BGRES) (s : State) (x : Nat) : (s.setF F x).bgView = s.bgView :=
  congrArg (Prod.mk s.adc.last) (State.rget_setF_ne s F x _ h.symm)
theorem State.raise_bgView (s : State) : (s.raise Cause.ADC0_EV_LOST).bgView = s.bgView :=
  congrArg (Prod.mk s.adc.last) (State.rget_raise_ne s _ _ (by decide) (by decide))

theorem State.adcEvent_bgView (s : State) (t : Nat) (rise : Bool) : (s.adcEvent t rise).bgView = s.bgView := by
  have hseq (p : State) (n : Nat) : (p.withAdc { p.adc with seq := n }).bgView = p.bgView := rfl
  have hlost (p : State) : (p.withAdc { p.adc with lost := true }).bgView = p.bgView := rfl
  have hqueue (p : State) (q : List (Word × Word)) : (p.withAdc { p.adc with queue := q, lost := false }).bgView = p.bgView := rfl
  simp only [State.adcEvent, State.bgView_ite, State.raise_bgView, hqueue, hlost, hseq, ite_self]

theorem State.adcCompare_bgView (s : State) (t : Nat) (y : Int) : (s.adcCompare t y).bgView = s.bgView := by
  have hcmp (p : State) (n : Nat) : (p.withAdc { p.adc with cmp := n }).bgView = p.bgView := rfl
  unfold State.adcCompare
  dsimp only
  split <;> simp only [State.bgView_ite, State.adcEvent_bgView, hcmp, ite_self]

/-- What the filter makes of an input leaves the stream's result alone. -/
theorem State.firStep_bgView (s : State) (t : Nat) : (s.firStep t).bgView = s.bgView := by
  have hdec (p : State) (n : Nat) : (p.withAdc { p.adc with dec := n }).bgView = p.bgView := rfl
  have hfir (p : State) (f : FirSet) : (p.withAdc { p.adc with fir := f, pend := none }).bgView = p.bgView := rfl
  have hy (p : State) (y : Int) : (p.setFs Fld.ADC0_FIRY_Y y).bgView = p.bgView := State.setF_bgView (by decide) p _
  have hinv (p : State) (b : Bool) : (p.setB Fld.ADC0_FIRY_INV b).bgView = p.bgView := State.setF_bgView (by decide) p _
  simp only [State.firStep, State.firOut, State.bgView_ite, State.adcCompare_bgView, hinv, hy, hdec, hfir, ite_self]

theorem firOutput_held (x : Nat) (c : Conv) (s : State) (hbg : s.b Fld.ADC0_BG_EN = true) (hused : s.adcUsed (x / 4) = true) :
    Answers (.firOutput x [c]) s (fun t => t.f Fld.ADC0_BGRES_RES % 4096 = s.adc.last.toNat % 4096 ∧ t.adc.last.getLsbD 13 = true) := by
  obtain ⟨hres, -, -, hlast, -⟩ := s.background_shows x c
  obtain ⟨hcode, hheld⟩ := State.bgWord_held hused c
  have hview := (s.background x c).firStep_bgView x
  have hreg : ((s.background x c).firStep x).rget Reg.ADC0_BGRES = (s.background x c).rget Reg.ADC0_BGRES := congrArg Prod.snd hview
  have hshown : ((s.background x c).firStep x).f Fld.ADC0_BGRES_RES = (s.bgWord x c).toNat := (State.f_eq _ _ Fld.ADC0_BGRES_RES hreg).trans hres
  have hkept : ((s.background x c).firStep x).adc.last = s.bgWord x c := (congrArg Prod.fst hview).trans hlast
  exact ⟨_, execFirOutput_one hbg, by rw [hshown, hcode], by rw [hkept, hheld]⟩

theorem adc0EvhiRead_removes (s : State) :
    Answers .adc0EvhiRead s (fun t => t.adc.queue = s.adc.queue.drop 1 ∧ t.adc.seq = s.adc.seq ∧ { t with adc := s.adc } = s) := ⟨_, rfl, rfl, rfl, rfl⟩

/-- Settles O41: a trigger by the place its burst gets in the schedule, a burst's end by its slots, the background stream by `State.bgWord` and the filter by whether an
output is due and valid. -/
theorem adc0 : Obligations.Adc0 := by
  unfold Obligations.Adc0
  exact ⟨adc0RefReady_settled, adc0RefFail_fails, adc0RefFail_ready, adc0ReqGo_triggers, adc0ReqGo_disabled, adc0ReqTrigger_taken, adc0ReqTrigger_missed,
    adc0BurstDone_shows, adc0FirCommit_stages, firOutput_off, firOutput_background, firOutput_refilling, adc0EvhiRead_removes, adc0RefReady_late,
    adc0ReqTrigger_none, adc0BurstDone_none, firOutput_decimates, firOutput_held⟩

end Sys2Proof.Machine
end

section
namespace Sys2Proof.Machine

/-! # What follows the board sensors (R118, R252) -/

/-- A cause that may be raised shows in its bit and its counter only. -/
theorem State.regsBut_raiseIf {l : List Nat} {s t : State} (p : Bool) (c : Cause) (hs : State.regsBut l s t) (h : c.fld.addr ∈ l) (h2 : c.cnt.addr ∈ l) :
    State.regsBut l s (t.raiseIf p c) := State.regsBut_ite (State.regsBut_raise c hs h h2) hs

theorem State.updateTj_regsBut {n : Nat} (hn : n < 8) (s : State) : State.regsBut Reg.kneeRegs s (s.updateTj n) := by
  have hmem (a : Nat) (ha : a ∈ [Reg.KILN_TJ n, Reg.CTL_CSP n 2]) : a ∈ Reg.kneeRegs :=
    List.mem_cons_of_mem _ (List.mem_flatMap.2 ⟨n, List.mem_range.2 hn, List.mem_cons_of_mem _ ha⟩)
  unfold State.updateTj State.setFs
  exact State.regsBut_setF _ _ (State.regsBut_setF _ _ (State.regsBut_refl _ s) (hmem _ (by simp [Fld.KILN_TJ_TJ, Reg.KILN_TJ])))
    (hmem _ (by simp [Fld.CTL_CSP_SP, Reg.CTL_CSP]))

/-- The charging lock, and the junction estimates with their set-points. -/
def Reg.boardRegs : List Nat := Reg.THERM_CHG :: Reg.kneeRegs

theorem State.chgUpdate_regsBut (s : State) : State.regsBut Reg.boardRegs s s.chgUpdate := by
  have hok (t : ThermSt) (x : Nat) : State.regsBut Reg.boardRegs s ((s.withTherm t).setF Fld.THERM_CHG_OK x) :=
    State.regsBut_setF _ _ (State.regsBut_of (State.regsBut_refl _ s) (State.withTherm_regs _ _)) List.mem_cons_self
  exact State.regsBut_ite (State.regsBut_of (hok _ _) (State.withEmit_regs _ _)) (hok _ _)

theorem State.boardUpdate_regsBut (s : State) : State.regsBut Reg.boardRegs s s.boardUpdate :=
  State.regsBut_trans s.chgUpdate_regsBut (State.regsBut_foldl (fun p _ hn =>
    State.regsBut_mono (State.updateTj_regsBut (List.mem_range.1 hn) p) (List.subset_cons_self _ _)) _)

/-- The state without registers, the thermal part, the emitter block's shared part and the sensors' turn. -/
def State.besideBoard (s : State) : State := { s with regs := [], therm := {}, emit := {}, afePos := 0 }

theorem State.eq_of_besideBoard {s t : State} (h : t.besideBoard = s.besideBoard) :
    { t with regs := s.regs, afePos := s.afePos, therm := s.therm, emit := s.emit } = s :=
  congrArg (fun p : State => { p with regs := s.regs, afePos := s.afePos, therm := s.therm, emit := s.emit }) h

theorem State.setF_besideBoard (s : State) (F : Fld) (x : Nat) : (s.setF F x).besideBoard = s.besideBoard := (rfl)
theorem State.setB_besideBoard (s : State) (F : Fld) (p : Bool) : (s.setB F p).besideBoard = s.besideBoard := (rfl)
theorem State.withAfePos_besideBoard (s : State) (n : Nat) : (s.withAfePos n).besideBoard = s.besideBoard := (rfl)
theorem State.withTherm_besideBoard (s : State) (x : ThermSt) : (s.withTherm x).besideBoard = s.besideBoard := (rfl)
theorem State.withEmit_besideBoard (s : State) (x : EmitSt) : (s.withEmit x).besideBoard = s.besideBoard := (rfl)
theorem State.raise_besideBoard (s : State) (c : Cause) : (s.raise c).besideBoard = s.besideBoard := by
  rw [State.raise_eq, State.incSat, State.setF_besideBoard, State.setF_besideBoard]

theorem State.chgUpdate_besideBoard (s : State) : s.chgUpdate.besideBoard = s.besideBoard := by
  simp only [State.chgUpdate, apply_ite State.besideBoard, State.withEmit_besideBoard, State.setF_besideBoard, State.withTherm_besideBoard, ite_self]

theorem State.boardUpdate_besideBoard (s : State) : s.boardUpdate.besideBoard = s.besideBoard :=
  (foldl_keeps State.besideBoard (fun p _ _ => (State.setF_besideBoard _ _ _).trans (State.setF_besideBoard p _ _)) _).trans s.chgUpdate_besideBoard

/-- The sensors' turn is none of the board's. -/
theorem State.boardUpdate_afePos (s : State) : s.boardUpdate.afePos = s.afePos := by
  have hchg : s.chgUpdate.afePos = s.afePos := by
    simp only [State.chgUpdate, apply_ite State.afePos, State.withEmit_afePos, State.setF_afePos, State.withTherm_afePos, ite_self]
  exact (foldl_keeps State.afePos (fun p _ _ => (State.setF_afePos _ _ _).trans (State.setF_afePos p _ _)) _).trans hchg

/-! # Sensor conversions (R240-R244) -/

/-- Only one of the sixteen definitions can have its turn. -/
theorem State.afeTurn_lt {s : State} {m : Nat} (h : s.afeTurn m = true) : m < 16 := by
  have hmem : m ∈ (List.range 16).filter s.afeRuns := by
    have hturn := of_decide_eq_true h
    rcases hfind : ((List.range 16).filter s.afeRuns).find? (fun k => decide (s.afePos ≤ k)) with _ | k
    · rw [hfind] at hturn
      exact List.mem_of_mem_head? hturn
    · rw [hfind] at hturn
      exact Option.some.inj hturn ▸ List.mem_of_find?_eq_some hfind
  exact List.mem_range.1 (List.mem_filter.1 hmem).1

theorem execAfeConversionDone_waits {m : Nat} {x : AfeRaw} {s : State} (h : s.afeTurn m = false ∨ x.dur ≠ s.afeTime m) :
    execAfeConversionDone m x s = .next s := by
  refine if_pos ?_
  rcases h with hturn | htime
  · simp [hturn]
  · simp [htime]

/-- Definition `m` is in conflict (R240). -/
def State.afeConflicted (s : State) (m : Nat) : State := ((s.setB (Fld.AFE_RES_VALID m) false).raise Cause.AFE_CONFLICT).boardUpdate

/-- Definition `m` has a broken wire, with THERM_BROKEN where the thermal scan uses it (R244, R250). -/
def State.afeBroken (s : State) (m : Nat) : State :=
  let p := (s.setB (Fld.AFE_RES_BROKEN m) true).raise Cause.AFE_BROKEN
  (p.raiseIf (p.afeExt m) Cause.THERM_BROKEN).boardUpdate

/-- Definition `m` is converted, after its lead (R241, R242). -/
def State.afeConverted (s : State) (m : Nat) (x : AfeRaw) : State :=
  let q := (s.afeLead m (s.afeRes m x).2).afeValue m x (s.afeRes m x).1
  (q.2.afeStore m q.1.1 q.1.2).boardUpdate

/-- A conversion whose turn and time have come ends in one of three ways. -/
theorem execAfeConversionDone_turn {m : Nat} {x : AfeRaw} {s : State} (hturn : s.afeTurn m = true) (htime : x.dur = s.afeTime m) :
    execAfeConversionDone m x s = .next (if s.afeConflict m then (s.withAfePos (m + 1)).afeConflicted m
      else if x.comp || x.open_ then (s.withAfePos (m + 1)).afeBroken m else (s.withAfePos (m + 1)).afeConverted m x) := by
  have hgo : (!s.afeTurn m || x.dur != s.afeTime m) = false := by simp [hturn, htime]
  rw [execAfeConversionDone, hgo, apply_ite Host.Outcome.next, apply_ite Host.Outcome.next]
  rfl

/-- A result's register is none of those that the causes of a conversion and what follows the board sensors write. -/
theorem Reg.afeRes_beside : ∀ m < 16, Reg.AFE_RES m ∉ Reg.boardRegs ∧ ∀ c ∈ [Cause.AFE_CONFLICT, Cause.AFE_BROKEN, Cause.AFE_RANGE, Cause.THERM_BROKEN],
    Reg.AFE_RES m ≠ c.fld.addr ∧ Reg.AFE_RES m ≠ c.cnt.addr := by decide

/-- A result is left alone by the causes of a conversion. -/
theorem State.rget_afeRes_raise {m : Nat} (hm : m < 16) {c : Cause} (hc : c ∈ [Cause.AFE_CONFLICT, Cause.AFE_BROKEN, Cause.AFE_RANGE, Cause.THERM_BROKEN])
    (s : State) : (s.raise c).rget (Reg.AFE_RES m) = s.rget (Reg.AFE_RES m) := by
  obtain ⟨-, hcause⟩ := Reg.afeRes_beside m hm
  exact State.rget_raise_ne s c _ (hcause c hc).1 (hcause c hc).2

theorem State.rget_afeRes_raiseIf {m : Nat} (hm : m < 16) {c : Cause} (hc : c ∈ [Cause.AFE_CONFLICT, Cause.AFE_BROKEN, Cause.AFE_RANGE, Cause.THERM_BROKEN])
    (s : State) (p : Bool) : (s.raiseIf p c).rget (Reg.AFE_RES m) = s.rget (Reg.AFE_RES m) := by
  cases p
  · rfl
  · exact State.rget_afeRes_raise hm hc s

/-- A result stands as it is through a cause that may be raised after it and what follows the board sensors. -/
theorem State.rget_afeRes_shown {m : Nat} (hm : m < 16) {c : Cause} (hc : c ∈ [Cause.AFE_CONFLICT, Cause.AFE_BROKEN, Cause.AFE_RANGE, Cause.THERM_BROKEN])
    (s : State) (p : Bool) : (s.raiseIf p c).boardUpdate.rget (Reg.AFE_RES m) = s.rget (Reg.AFE_RES m) :=
  ((s.raiseIf p c).boardUpdate_regsBut _ (Reg.afeRes_beside m hm).1).trans (State.rget_afeRes_raiseIf hm hc s p)

/-- A cause of the front end stays set whatever follows the board sensors. -/
theorem State.causeSet_board {c : Cause} (hc : c ∈ [Cause.AFE_CONFLICT, Cause.AFE_BROKEN]) (s : State) : s.boardUpdate.causeSet c = s.causeSet c := by
  have hbeside : ∀ c ∈ [Cause.AFE_CONFLICT, Cause.AFE_BROKEN], c.fld.addr ∉ Reg.boardRegs := by decide
  exact State.b_eq _ _ c.fld (s.boardUpdate_regsBut _ (hbeside c hc))

theorem State.afeConflicted_shows {m : Nat} (hm : m < 16) (s : State) : (s.afeConflicted m).b (Fld.AFE_RES_VALID m) = false ∧
    (s.afeConflicted m).causeSet Cause.AFE_CONFLICT = true ∧ (s.afeConflicted m).besideBoard = s.besideBoard := by
  have hres := State.rget_afeRes_shown hm (c := Cause.AFE_CONFLICT) (by simp) (s.setB (Fld.AFE_RES_VALID m) false) true
  refine ⟨(State.b_eq _ _ (Fld.AFE_RES_VALID m) hres).trans (State.b_setB_self _ _ _ rfl rfl),
    (State.causeSet_board (by simp) _).trans (State.b_raise_self _ Cause.AFE_CONFLICT (by decide)), ?_⟩
  rw [State.afeConflicted, State.boardUpdate_besideBoard, State.raise_besideBoard, State.setB_besideBoard]

theorem State.afeBroken_shows {m : Nat} (hm : m < 16) (s : State) : (s.afeBroken m).b (Fld.AFE_RES_BROKEN m) = true ∧
    (s.afeBroken m).causeSet Cause.AFE_BROKEN = true ∧ (s.afeBroken m).f (Fld.AFE_RES_VALUE m) = s.f (Fld.AFE_RES_VALUE m) := by
  have hres := (State.rget_afeRes_shown hm (c := Cause.THERM_BROKEN) (by simp) ((s.setB (Fld.AFE_RES_BROKEN m) true).raise Cause.AFE_BROKEN)
    (((s.setB (Fld.AFE_RES_BROKEN m) true).raise Cause.AFE_BROKEN).afeExt m)).trans (State.rget_afeRes_raise hm (by simp) _)
  have hcause (p : State) (q : Bool) : (p.raiseIf q Cause.THERM_BROKEN).causeSet Cause.AFE_BROKEN = p.causeSet Cause.AFE_BROKEN := by
    cases q
    · rfl
    · exact State.b_raise_apart _ Cause.AFE_BROKEN.fld Cause.THERM_BROKEN (by decide) (by decide) (by decide) (by decide)
  exact ⟨(State.b_eq _ _ (Fld.AFE_RES_BROKEN m) hres).trans (State.b_setB_self _ _ _ rfl rfl),
    (State.causeSet_board (by simp) _).trans ((hcause _ _).trans (State.b_raise_self _ Cause.AFE_BROKEN (by decide))),
    (State.f_eq _ _ (Fld.AFE_RES_VALUE m) hres).trans (State.f_setB_apart _ _ _ _ rfl (Fld.apart_of_bits rfl))⟩

theorem afeConversionDone_conflict (m : Nat) (x : AfeRaw) (s : State) (hturn : s.afeTurn m = true) (htime : x.dur = s.afeTime m) (hconf : s.afeConflict m = true) :
    Answers (.afeConversionDone m x) s (fun t => t.b (Fld.AFE_RES_VALID m) = false ∧ t.causeSet Cause.AFE_CONFLICT = true ∧
      { t with regs := s.regs, afePos := s.afePos, therm := s.therm, emit := s.emit } = s) := by
  have hexec := execAfeConversionDone_turn hturn htime
  rw [if_pos hconf] at hexec
  obtain ⟨hvalid, hcause, hrest⟩ := State.afeConflicted_shows (State.afeTurn_lt hturn) (s.withAfePos (m + 1))
  exact ⟨_, hexec, hvalid, hcause, State.eq_of_besideBoard (hrest.trans (State.withAfePos_besideBoard s _))⟩

theorem afeConversionDone_broken (m : Nat) (x : AfeRaw) (s : State) (hturn : s.afeTurn m = true) (htime : x.dur = s.afeTime m) (hconf : s.afeConflict m = false)
    (hwire : x.comp = true ∨ x.open_ = true) :
    Answers (.afeConversionDone m x) s (fun t => t.b (Fld.AFE_RES_BROKEN m) = true ∧ t.causeSet Cause.AFE_BROKEN = true ∧
      t.f (Fld.AFE_RES_VALUE m) = s.f (Fld.AFE_RES_VALUE m)) := by
  have hexec := execAfeConversionDone_turn hturn htime
  rw [hconf, if_neg Bool.false_ne_true, if_pos (by simpa using hwire)] at hexec
  exact ⟨_, hexec, State.afeBroken_shows (State.afeTurn_lt hturn) (s.withAfePos (m + 1))⟩

/-! ## A converted value -/

/-- A stored result is valid and not broken, and the field holds the value within its limits (R244). -/
theorem State.afeStore_shows {m : Nat} (hm : m < 16) (s : State) (v : Int) (cl : Bool) :
    let t := (s.afeStore m v cl).boardUpdate
    t.b (Fld.AFE_RES_VALID m) = true ∧ t.b (Fld.AFE_RES_BROKEN m) = false ∧ t.fs (Fld.AFE_RES_VALUE m) = (BitVec.ofInt 24 (clampTo (-8388608) 8388607 v).1).toInt ∧
      t.afePos = s.afePos := by
  have hres (p : State) (q : Bool) : (p.raiseIf q Cause.AFE_RANGE).boardUpdate.rget (Reg.AFE_RES m) = p.rget (Reg.AFE_RES m) :=
    State.rget_afeRes_shown hm (by simp) p q
  unfold State.afeStore
  dsimp only
  refine ⟨(State.b_eq _ _ (Fld.AFE_RES_VALID m) (hres _ _)).trans ?_, (State.b_eq _ _ (Fld.AFE_RES_BROKEN m) (hres _ _)).trans (State.b_setB_self _ _ _ rfl rfl), ?_, ?_⟩
  · exact (State.b_setB_apart _ _ _ _ rfl (Fld.apart_of_bits rfl)).trans (State.b_setB_self _ _ _ rfl rfl)
  · unfold State.fs
    rw [State.f_eq _ _ (Fld.AFE_RES_VALUE m) (hres _ _), State.f_setB_apart _ _ _ _ rfl (Fld.apart_of_bits rfl),
      State.f_setB_apart _ _ _ _ rfl (Fld.apart_of_bits rfl), State.setFs, State.f_setF_self _ _ _ rfl, Nat.mod_eq_of_lt (BitVec.isLt _)]
    exact congrArg BitVec.toInt (BitVec.ofNat_toNat _ _)
  · rw [State.boardUpdate_afePos, State.raiseIf_afePos, State.setB_afePos, State.setB_afePos, State.setFs_afePos]

/-- A free value, where the conversion needs one, is all that it takes of the state. -/
theorem State.afeValue_form (s : State) (m : Nat) (x : AfeRaw) (r : Option Int) : ∃ k, (s.afeValue m x r).2 = { s with freeCtr := k } := by
  have hsame : ∃ k, s = { s with freeCtr := k } := ⟨s.freeCtr, rfl⟩
  have hfree : ∃ k, s.fresh.2 = { s with freeCtr := k } := ⟨_, rfl⟩
  unfold State.afeValue
  dsimp only
  split
  · exact hsame
  · split
    · exact hsame
    · exact hfree
  · split
    · exact hsame
    · exact hfree
  · split
    · exact hfree
    · exact hsame
  · exact hfree
  · exact hsame
  · split
    · exact hfree
    · exact hsame
  · exact hsame

theorem State.afeLead_afePos (s : State) (m : Nat) (rl : Option Nat) : (s.afeLead m rl).afePos = s.afePos := by
  cases rl <;> rfl

theorem State.afeConverted_shows {m : Nat} (hm : m < 16) (s : State) (x : AfeRaw) : (s.afeConverted m x).b (Fld.AFE_RES_VALID m) = true ∧
    (s.afeConverted m x).b (Fld.AFE_RES_BROKEN m) = false ∧ (s.afeConverted m x).afePos = s.afePos := by
  obtain ⟨k, hform⟩ := (s.afeLead m (s.afeRes m x).2).afeValue_form m x (s.afeRes m x).1
  unfold State.afeConverted
  dsimp only
  rw [hform]
  obtain ⟨hvalid, hbroken, -, hpos⟩ := State.afeStore_shows hm { s.afeLead m (s.afeRes m x).2 with freeCtr := k }
    ((s.afeLead m (s.afeRes m x).2).afeValue m x (s.afeRes m x).1).1.1 ((s.afeLead m (s.afeRes m x).2).afeValue m x (s.afeRes m x).1).1.2
  exact ⟨hvalid, hbroken, hpos.trans (State.afeLead_afePos s m _)⟩

/-- A sound conversion is neither in conflict nor broken. -/
theorem execAfeConversionDone_sound {m : Nat} {x : AfeRaw} {s : State} (hturn : s.afeTurn m = true) (htime : x.dur = s.afeTime m) (hconf : s.afeConflict m = false)
    (hcomp : x.comp = false) (hopen : x.open_ = false) : execAfeConversionDone m x s = .next ((s.withAfePos (m + 1)).afeConverted m x) := by
  rw [execAfeConversionDone_turn hturn htime, hconf, hcomp, hopen]
  rfl

theorem afeConversionDone_valid (m : Nat) (x : AfeRaw) (s : State) (hturn : s.afeTurn m = true) (htime : x.dur = s.afeTime m) (hconf : s.afeConflict m = false)
    (hcomp : x.comp = false) (hopen : x.open_ = false) :
    Answers (.afeConversionDone m x) s (fun t => t.b (Fld.AFE_RES_VALID m) = true ∧ t.b (Fld.AFE_RES_BROKEN m) = false ∧ t.afePos = m + 1 ∧ t.dev = s.dev) := by
  have hexec := execAfeConversionDone_sound hturn htime hconf hcomp hopen
  obtain ⟨hvalid, hbroken, hpos⟩ := State.afeConverted_shows (State.afeTurn_lt hturn) (s.withAfePos (m + 1)) x
  exact ⟨_, hexec, hvalid, hbroken, hpos, Out.dev_of_next (execAfeConversionDone_dev m x s) hexec⟩

/-- The lead's own register is the only one that the lead changes. -/
theorem State.f_afeLead {m : Nat} {F : Fld} (h : F.addr ≠ Reg.AFE_RL m) (s : State) (rl : Option Nat) : (s.afeLead m rl).f F = s.f F := by
  cases rl with
  | none => rfl
  | some v => exact State.f_eq _ _ F (State.rget_setF_ne s (Fld.AFE_RL_RL m) _ _ h)

/-- The lead leaves the voltage that is converted, its gain and its curve alone. -/
theorem State.afeVolt_afeLead {m : Nat} (hm : m < 16) (x : AfeRaw) (s : State) (rl : Option Nat) : (s.afeLead m rl).afeVolt m x = s.afeVolt m x ∧
    (s.afeLead m rl).f (Fld.AFE_DEFA_GAIN m) = s.f (Fld.AFE_DEFA_GAIN m) ∧ (s.afeLead m rl).f (Fld.AFE_DEFA_CURVE m) = s.f (Fld.AFE_DEFA_CURVE m) := by
  have haddr : ∀ m < 16, Reg.AFE_DEFA m ≠ Reg.AFE_RL m ∧ Reg.AFE_BIAS ≠ Reg.AFE_RL m := by decide
  obtain ⟨hdef, hbias⟩ := haddr m hm
  have hfree : (s.afeLead m rl).freeCtr = s.freeCtr := by cases rl <;> rfl
  refine ⟨?_, State.f_afeLead hdef s rl, State.f_afeLead hdef s rl⟩
  unfold State.afeVolt State.axPin
  rw [State.f_afeLead (F := Fld.AFE_DEFA_P m) hdef, State.f_afeLead (F := Fld.AFE_DEFA_N m) hdef, State.f_afeLead (F := Fld.AFE_BIAS_PINS) hbias, hfree]

/-- Curve 0 gives the code itself. -/
theorem State.afeValue_raw {s : State} {m : Nat} (h : s.f (Fld.AFE_DEFA_CURVE m) = 0) (x : AfeRaw) (r : Option Int) :
    s.afeValue m x r = (((Config.adc1Code (s.afeVolt m x * 2 ^ s.f (Fld.AFE_DEFA_GAIN m))).toInt, false), s) := by
  unfold State.afeValue
  dsimp only
  rw [h]
  cases r <;> rfl

/-- A code of the converter fits the field as it is. -/
theorem clampTo_code (v : BitVec 24) : BitVec.ofInt 24 (clampTo (-8388608) 8388607 v.toInt).1 = v := by
  have hlo := BitVec.le_toInt v
  have hhi := BitVec.toInt_lt (x := v)
  have hid : (clampTo (-8388608) 8388607 v.toInt).1 = v.toInt := by
    unfold clampTo
    dsimp only
    omega
  rw [hid, BitVec.ofInt_toInt]

theorem State.afeConverted_raw {m : Nat} (hm : m < 16) {s : State} (hcurve : s.f (Fld.AFE_DEFA_CURVE m) = 0) (x : AfeRaw) :
    (s.afeConverted m x).fs (Fld.AFE_RES_VALUE m) = (Config.adc1Code (s.afeVolt m x * 2 ^ s.f (Fld.AFE_DEFA_GAIN m))).toInt := by
  obtain ⟨hvolt, hgain, hkept⟩ := State.afeVolt_afeLead hm x s (s.afeRes m x).2
  unfold State.afeConverted
  rw [State.afeValue_raw (hkept.trans hcurve), hvolt, hgain]
  obtain ⟨-, -, hvalue, -⟩ := State.afeStore_shows hm (s.afeLead m (s.afeRes m x).2) (Config.adc1Code (s.afeVolt m x * 2 ^ s.f (Fld.AFE_DEFA_GAIN m))).toInt false
  rwa [clampTo_code] at hvalue

theorem afeConversionDone_raw (m : Nat) (x : AfeRaw) (s : State) (hturn : s.afeTurn m = true) (htime : x.dur = s.afeTime m) (hconf : s.afeConflict m = false)
    (hcomp : x.comp = false) (hopen : x.open_ = false) (hcurve : s.f (Fld.AFE_DEFA_CURVE m) = 0) :
    Answers (.afeConversionDone m x) s (fun t => t.fs (Fld.AFE_RES_VALUE m) = (Config.adc1Code (s.afeVolt m x * 2 ^ s.f (Fld.AFE_DEFA_GAIN m))).toInt ∧
      t.afePos = m + 1 ∧ t.b (Fld.AFE_RES_VALID m) = true ∧ t.b (Fld.AFE_RES_BROKEN m) = false) := by
  have hm := State.afeTurn_lt hturn
  obtain ⟨hvalid, hbroken, hpos⟩ := State.afeConverted_shows hm (s.withAfePos (m + 1)) x
  exact ⟨_, execAfeConversionDone_sound hturn htime hconf hcomp hopen, State.afeConverted_raw hm (s := s.withAfePos (m + 1)) hcurve x, hpos, hvalid, hbroken⟩

/-! # The thermal scan (R247-R252) -/

/-- The registers that a scan writes, but for RAW and T of the on-die sensors. -/
def Reg.scanRegs : List Nat :=
  [Reg.THERM_SUSP 0, Reg.THERM_SUSP 1, Reg.THERM_SUSP 2, Reg.THERM_T 68, Reg.THERM_T 69, Reg.THERM_T 70, Reg.THERM_T 71, Reg.THERM_STAT, Reg.RX_BIASST, Reg.RX_STAT] ++
  [Cause.THERM_SUSPECT, Cause.THERM_SHUTDOWN, Cause.THERM_WARN, Cause.THERM_DERATE].flatMap (fun c => [c.fld.addr, c.cnt.addr]) ++ Reg.boardRegs

theorem Reg.boardRegs_subset : Reg.boardRegs ⊆ Reg.scanRegs := List.subset_append_right _ _

theorem Reg.therm_scanRegs : ∀ i < 68, Reg.THERM_T i ∉ Reg.scanRegs := by decide

theorem State.markSuspect_regsBut (s : State) (raw : Nat → Int) {k : Nat} (hk : k < 68) : State.regsBut Reg.scanRegs s (s.markSuspect raw k) := by
  have hsusp : ∀ k < 68, (Fld.THERM_SUSP_S (k / 32)).addr ∈ Reg.scanRegs := by decide
  have htherm (p : State) (x : ThermSt) (h : State.regsBut Reg.scanRegs s p) : State.regsBut Reg.scanRegs s (p.withTherm x) := State.regsBut_of h (State.withTherm_regs _ _)
  have hs := State.regsBut_refl Reg.scanRegs s
  unfold State.markSuspect
  dsimp only
  split
  · exact State.regsBut_ite (htherm _ _ hs) (State.regsBut_raise _ (State.regsBut_setF _ _ (htherm _ _ hs) (hsusp k hk)) (by decide) (by decide))
  · exact State.regsBut_ite (State.regsBut_ite (htherm _ _ hs) (State.regsBut_setF _ _ (htherm _ _ hs) (hsusp k hk))) hs

theorem State.thermExternal_regsBut (s : State) {i : Nat} (hi : i < 4) : State.regsBut Reg.scanRegs s (s.thermExternal i) := by
  have hmem : ∀ i < 4, Reg.THERM_T (68 + i) ∈ Reg.scanRegs := by decide
  exact State.regsBut_ite (State.regsBut_refl _ s)
    (State.regsBut_setF _ _ (State.regsBut_setF _ _ (State.regsBut_refl _ s) (hmem i hi)) (hmem i hi))

theorem State.judgeShutdown_regsBut (s : State) (i : Nat) : State.regsBut Reg.scanRegs s (s.judgeShutdown i) := by
  have hs := State.regsBut_refl Reg.scanRegs s
  have htherm (x : ThermSt) : State.regsBut Reg.scanRegs s (s.withTherm x) := State.regsBut_of hs (State.withTherm_regs _ _)
  unfold State.judgeShutdown
  refine State.regsBut_ite hs (State.regsBut_ite hs (State.regsBut_ite ?_ (State.regsBut_logEvent _ _ _ (htherm _) (by decide))))
  exact State.regsBut_logEvent _ _ _ (State.regsBut_raise _ (State.regsBut_setF Fld.THERM_CNT_SD _ (htherm _) (by decide)) (by decide) (by decide)) (by decide)

theorem State.judgeGroup_regsBut (s : State) (g : Nat) : State.regsBut Reg.scanRegs s (s.judgeGroup g) := by
  have hwarn (p q : Bool) : State.regsBut Reg.scanRegs s ((s.raiseIf p Cause.THERM_WARN).raiseIf q Cause.THERM_DERATE) :=
    State.regsBut_raiseIf _ _ (State.regsBut_raiseIf _ _ (State.regsBut_refl _ s) (by decide) (by decide)) (by decide) (by decide)
  exact State.regsBut_of (hwarn _ _) (State.withTherm_regs _ _)

theorem State.thermJudge_regsBut (s : State) : State.regsBut Reg.scanRegs s s.thermJudge :=
  State.regsBut_trans (State.regsBut_foldl (fun p i _ => p.judgeShutdown_regsBut i) s) (State.regsBut_foldl (fun p g _ => p.judgeGroup_regsBut g) _)

theorem State.thermStat_regsBut (s : State) : State.regsBut Reg.scanRegs s s.thermStat := by
  have hset (p : State) (F : Fld) (x : Nat) (hF : F.addr = Reg.THERM_STAT) (h : State.regsBut Reg.scanRegs s p) : State.regsBut Reg.scanRegs s (p.setF F x) :=
    State.regsBut_setF F x h (hF ▸ by decide)
  exact hset _ _ _ rfl (hset _ _ _ rfl (hset _ _ _ rfl (hset _ _ _ rfl (hset _ _ _ rfl (hset _ _ _ rfl (State.regsBut_refl _ s))))))

theorem State.biasSet_regsBut (s : State) : State.regsBut Reg.scanRegs s s.biasSet :=
  State.regsBut_setB _ _ (State.regsBut_setF _ _ (State.regsBut_setF _ _ (State.regsBut_refl _ s) (by decide)) (by decide)) (by decide)

/-- The readings of the first `n` sensors stand in their RAW fields. -/
theorem State.f_rawFold (readings : List (BitVec 16)) (s : State) (n i : Nat) (hi : i < n) :
    ((List.range n).foldl (fun s i => s.setF (Fld.THERM_T_RAW i) (readings.getD i 0).toNat) s).f (Fld.THERM_T_RAW i) = (readings.getD i 0).toNat := by
  induction n with
  | zero => exact absurd hi (Nat.not_lt_zero i)
  | succ n ih =>
    rw [List.range_succ, List.foldl_append]
    rcases Nat.lt_succ_iff_lt_or_eq.1 hi with hlt | rfl
    · have hapart : (Fld.THERM_T_RAW i).apart (Fld.THERM_T_RAW n) = true := by
        simp [Fld.apart, Fld.THERM_T_RAW]
        omega
      exact (State.f_setF_apart _ _ _ _ rfl hapart).trans (ih hlt)
    · exact (State.f_setF_self _ _ _ rfl).trans (Nat.mod_eq_of_lt (BitVec.isLt _))

/-- The temperatures used stand beside the readings. -/
theorem State.f_raw_thermUsed (s : State) (r : Nat → Int) (susp : Nat → Bool) (i : Nat) : (s.thermUsed r susp).f (Fld.THERM_T_RAW i) = s.f (Fld.THERM_T_RAW i) :=
  foldl_keeps (fun p => p.f (Fld.THERM_T_RAW i)) (fun p _ _ => State.f_setF_apart p _ _ _ rfl (Fld.apart_of_bits rfl)) s

theorem thermScan_reads (readings : List (BitVec 16)) (s : State) :
    Answers (.thermScan readings) s (fun t => ∀ i, i < 68 → t.f (Fld.THERM_T_RAW i) = (readings.getD i 0).toNat) := by
  have hkeep {p q : State} (h : State.regsBut Reg.scanRegs p q) {i : Nat} (hi : i < 68) : q.f (Fld.THERM_T_RAW i) = p.f (Fld.THERM_T_RAW i) :=
    State.f_eq _ _ _ (h _ (Reg.therm_scanRegs i hi))
  have hmark (p : State) (r : Nat → Int) : State.regsBut Reg.scanRegs p (p.thermMark r) :=
    State.regsBut_foldl (fun q _ hk => q.markSuspect_regsBut r (List.mem_range.1 hk)) p
  have hext (p : State) : State.regsBut Reg.scanRegs p ((List.range 4).foldl State.thermExternal p) :=
    State.regsBut_foldl (fun q _ hi => q.thermExternal_regsBut (List.mem_range.1 hi)) p
  have hend (p : State) : State.regsBut Reg.scanRegs p p.thermJudge.thermStat.biasSet.boardUpdate.nvmKick := by
    have hboard (q : State) : State.regsBut Reg.scanRegs q q.boardUpdate := State.regsBut_mono q.boardUpdate_regsBut Reg.boardRegs_subset
    have hkick (q : State) : State.regsBut Reg.scanRegs q q.nvmKick := fun a _ => State.rget_nvmKick q a
    exact State.regsBut_trans (State.regsBut_trans (State.regsBut_trans (State.regsBut_trans p.thermJudge_regsBut (State.thermStat_regsBut _)) (State.biasSet_regsBut _))
      (hboard _)) (hkick _)
  refine ⟨_, rfl, fun i hi => ?_⟩
  rw [hkeep (hend _) hi, hkeep (hext _) hi, State.f_raw_thermUsed, hkeep (hmark _ _) hi]
  exact State.f_rawFold readings s 68 i hi

/-! # The die's hard trip (R253) -/

/-- HARD stands, raised, and no string charges. -/
def State.hardLatched (s : State) : State :=
  let p := (s.setB Fld.THERM_STAT_HARD true).raise Cause.THERM_HARD
  p.withEmit { p.emit with charging := none }

theorem State.hardLatched_shows (s : State) : s.hardLatched.b Fld.THERM_STAT_HARD = true ∧ s.hardLatched.causeSet Cause.THERM_HARD = true ∧
    s.hardLatched.emit.charging = none := by
  have hemit (p : State) (e : EmitSt) (F : Fld) : (p.withEmit e).b F = p.b F := rfl
  unfold State.hardLatched State.causeSet
  dsimp only
  rw [hemit, hemit, State.b_raise_apart _ _ _ (by decide) (by decide) (by decide) (by decide), State.b_setB_self _ _ _ (by decide) rfl]
  exact ⟨rfl, State.b_raise_self _ Cause.THERM_HARD (by decide), rfl⟩

theorem State.logEvent_emit (s : State) (c : Nat) (x y : Word) : (s.logEvent c x y).emit = s.emit := by
  obtain ⟨n, r, h⟩ := s.logEvent_form c x y
  rw [h]

/-- HARD alone locks the emitters off. -/
theorem State.emittersOff_hard {s : State} (h : s.b Fld.THERM_STAT_HARD = true) : s.emittersOff = true := by simp [State.emittersOff, h]

theorem dieHardTrip_trips (s : State) :
    Answers .dieHardTrip s (fun t => t.b Fld.THERM_STAT_HARD = true ∧ t.causeSet Cause.THERM_HARD = true ∧ t.emit.charging = none ∧ t.rst.raised.testBit 6 = true ∧
      t.emittersOff = true) := by
  obtain ⟨hhard, hcause, hcharging⟩ := s.hardLatched_shows
  have hlogged := (State.b_logEvent s.hardLatched 0x0022 0 (s.hardLatched.rget Reg.THERM_STAT) Fld.THERM_STAT_HARD (by decide)).trans hhard
  exact ⟨(s.hardLatched.logEvent 0x0022 0 (s.hardLatched.rget Reg.THERM_STAT)).raiseReset 6, rfl, hlogged,
    (State.b_logEvent _ _ _ _ Cause.THERM_HARD.fld (by decide)).trans hcause, (congrArg EmitSt.charging (State.logEvent_emit _ _ _ _)).trans hcharging,
    State.testBit_or_pow _ 6, State.emittersOff_hard hlogged⟩

theorem dieHardTripClear_clears (s : State) :
    Answers .dieHardTripClear s (fun t => t.b Fld.THERM_STAT_HARD = false ∧ State.regsBut [Reg.THERM_STAT] s t ∧ { t with regs := s.regs } = s) :=
  ⟨s.setB Fld.THERM_STAT_HARD false, rfl, State.b_setB_self _ _ _ (by decide) rfl, State.regsBut_setB _ _ (State.regsBut_refl _ s) (by decide), by simp⟩

/-- Settles O42: a conversion by the way it ends and what follows the board sensors leaves of its result, a scan by the registers that it writes beside the readings, a trip
by what it latches. -/
theorem sensorsAndTrips : Obligations.SensorsAndTrips := by
  unfold Obligations.SensorsAndTrips
  exact ⟨fun _ _ s h => ⟨s, execAfeConversionDone_waits h, rfl⟩, afeConversionDone_conflict, afeConversionDone_broken, afeConversionDone_raw, thermScan_reads,
    dieHardTrip_trips, dieHardTripClear_clears, afeConversionDone_valid⟩

end Sys2Proof.Machine
end
